-- ==== Sys2Proof/Word.lean ====
section
/-! DEFINITION. The word types of the DN9640 and their plainest arithmetic (R9, R10, R37). -/
namespace Sys2Proof

/-- A byte of a byte string (images, digests, blobs). -/
abbrev Byte := BitVec 8

/-- Every register is 32 bits wide (R10). -/
abbrev Word := BitVec 32

/-- The largest value of a `w`-bit counter, at which it saturates (R37, R171). -/
abbrev satMax (w : Nat) : Nat := 2 ^ w - 1

/-- A saturating sum of a `w`-bit counter (R37, R171, R456). -/
abbrev satAdd (w a b : Nat) : Nat := if a + b ≤ satMax w then a + b else satMax w

end Sys2Proof
end

