-- ==== Sys2Proof/Syntax.lean ====
section
/-! DEFINITION. The commands of the block: one constructor per row of spec/opcode_table.json. The table gives its
rows no operand bits; an operand is what the rule of the row names as coming from outside the chip (the address, the
value, the message's fields) or what the environment decides (a decode's result, a bus outcome). -/
namespace Sys2Proof

/-- Who performs a register access or a core-only action (R11, R136): PF0 through BAR2, or a control core. -/
inductive Requester where
  | pf0
  | core (n : Nat)
deriving DecidableEq, Repr

/-- Names an NVMe command that a function has outstanding: function, submission queue and command identifier. -/
structure CmdId where
  fn  : Nat
  qid : Nat
  cid : Nat
deriving DecidableEq, Repr

/-- The six separately admitted stages of a command (R125), and the mirror stage of R488. -/
inductive StageKind where
  | fetch | dieRead | dieProgram | busRead | busProgram | decode | cipher | delivery | mirror
deriving DecidableEq, Repr

/-- A heartbeat's content (Table 12-5, opcode 0x50). -/
structure Heartbeat where
  variant  : Nat
  frame    : Nat
  tick     : Nat
  digest   : List Byte
  thermal  : Bool
  hostLost : Bool
  skew     : Bool
  park     : Bool
  dumping  : Bool
deriving DecidableEq, Repr

/-- What a CONTROL subtype 3 message says of the sender's arm (R105 to R107). -/
inductive ArmVerdict where
  | accepted | refused | withdrawn
deriving DecidableEq, Repr

/-- The arm report of CONTROL subtype 3: verdict, the sender's arm frame, its explicit switch frame (0: none) and its
plain-phase digest (R105 to R108). -/
structure ArmReport where
  verdict  : ArmVerdict
  armFrame : Nat
  explicitF : Nat
  digest   : List Byte
deriving DecidableEq, Repr

/-- A slot that begins on a lane. In HOST_DELIVER slots `held` says that the host's flow control holds deliveries (Table 4-6). -/
structure SlotBegin where
  lane : Nat
  held : Bool
deriving DecidableEq, Repr

/-- A command whose CQE is due, and whether the host's flow control holds it (Table 4-6). -/
structure CqeTurn where
  cmd  : CmdId
  held : Bool
deriving DecidableEq, Repr

/-- What a register write brings: the value, and the bits that hardware sets in its core-clock cycle (R17). -/
structure RegValue where
  value : Word
  sets  : Word
deriving DecidableEq, Repr

/-- What an Invalidate Request covers: so many pages from its base, and the tags of the outstanding reads that use them (R354). -/
structure InvalRange where
  pages : Nat
  tags  : List Nat
deriving DecidableEq, Repr

/-- The type of a DOE data object, and the session that a Secured CMA/SPDM object names (R356, R442). -/
structure DoeObject where
  type    : Nat
  session : Option Nat
deriving DecidableEq, Repr

/-- What a die showed at bring-up: its first eight Read ID bytes and the CRC of parameter page copy 0 (R180). -/
structure DieId where
  bytes    : List Byte
  paramCrc : Nat
deriving DecidableEq, Repr

/-- What the bring-up of one channel found (Table 5-6): each failure by the lowest die that shows it. -/
structure BringupFacts where
  notReady   : Option Nat
  ids        : List DieId
  lunCounts  : List Nat
  trainFail  : Option Nat
  verifyFail : Option Nat
deriving DecidableEq, Repr

/-- An around-read request (R220; Table 12-5, opcode 0x20). -/
structure AreadReq where
  nsid       : Nat
  index      : Nat
  part       : Nat
  group      : Nat
  tag        : Nat
  rescue     : Bool
  soft       : Bool
  bestEffort : Bool
deriving DecidableEq, Repr

/-- How a hard decode ended (R229): converged, not converged, or converged to the wrong metadata tag. -/
inductive DecodeResult where
  | ok | noConverge | tagMismatch
deriving DecidableEq, Repr

/-- What a decode is of: a unit of a command, or of the stripe member on `member` read for it; a read served for the
partner under a tag (R221); the part `u` that a staged write is merged with (R262, R263); a care sample of a block (R302,
R306). -/
inductive DecodeJob where
  | unit (c : CmdId) (u : Nat) (member : Option Nat)
  | served (tag : Nat)
  | merge (wid u : Nat)
  | sample (lane block : Nat)
deriving DecidableEq, Repr

/-- How an array operation ended (R193, R269). -/
inductive OpResult where
  | pass | fail
deriving DecidableEq, Repr

/-- Why a link changed state for the host data link (R330, R603). -/
inductive DlDownCause where
  | other | perst | hotReset | linkDisable | l2
deriving DecidableEq, Repr

/-- A memory request of the host (R13 to R15, R340, R341, R360). `bar` 0, 2 or 4 selects BAR0/1, BAR2/3 or BAR4/5. -/
structure MemReq where
  fn        : Nat
  bar       : Nat
  addr      : Nat
  size      : Nat
  write     : Bool
  data      : BitVec 64
  poisoned  : Bool
  malformed : Bool
  atomic    : Bool
  /-- Who makes the request: the host, or a control core in its register space, which has BAR2's layout (R11). -/
  by_       : Requester := .pf0
  /-- Bits that hardware sets in the core-clock cycle of the write (R17). -/
  sets      : BitVec 64 := 0
deriving DecidableEq, Repr

/-- A configuration request of the host to a function (R332 to R337, R410 to R412, R597). -/
structure CfgReq where
  fn     : Nat
  offset : Nat
  write  : Bool
  data   : Word
deriving DecidableEq, Repr

/-- A completion that arrives from the host: its tag, whether it is poisoned or malformed (R360, R367), and whether
it ends in success. -/
structure Cpl where
  tag       : Nat
  success   : Bool
  poisoned  : Bool
  malformed : Bool
deriving DecidableEq, Repr

/-- One submission queue entry's fields that the NVMe rules of chapter 10 read. `psdt` is the PRP or SGL selector;
`prpOk`, `sglTypeOk` and `sglLenOk` say whether the PRP list or SGL that the device walks is well formed (R405). -/
structure Sqe where
  id        : CmdId
  opcode    : Nat
  nsid      : Nat
  cdw10     : Word
  cdw11     : Word
  cdw12     : Word
  cdw13     : Word
  cdw14     : Word
  cdw15     : Word
  psdt      : Nat
  prp1      : BitVec 64
  prpOk     : Bool
  sglTypeOk : Bool
  sglLenOk  : Bool
  /-- The bytes of the PRP list, or of the SGL segments outside the entry, that the device fetches (R242). -/
  list      : Nat := 0
  /-- FUSE, bits [9:8] of Dword 0 (R388). -/
  fuse      : Nat := 0
deriving DecidableEq, Repr

/-- Data structure of Namespace Management create (R393, R503): sizes in logical blocks. -/
structure NsCreate where
  nsze   : Nat
  ncap   : Nat
  flbas  : Nat
  iu4k   : Bool
  paired : Bool
deriving DecidableEq, Repr

/-- The 256-byte firmware slot header as the ROM reads it (Table 11-1), with the results of the two checks that need
the fuses' digest and the signature arithmetic given as the bytes they work on. -/
structure SlotImage where
  magic      : Nat
  format     : Nat
  headerSize : Nat
  fwVersion  : Nat
  svn        : Nat
  keyIndex   : Nat
  bodySize   : Nat
  bodyDigest : List Byte
  publicKey  : List Byte
  signature  : List Byte
  signed     : List Byte
  body       : List Byte
deriving DecidableEq, Repr

/-- The board descriptor's fields (Table 15-3). -/
structure BoardDesc where
  magic        : Nat
  format       : Nat
  totalSize    : Nat
  crcOk        : Bool
  subsysVid    : Nat
  subsysId     : Nat
  paired       : Nat
  bar4Log2     : Nat
  ddrSpeed     : Nat
  ddrChannels  : Nat
  ddrGib       : Nat
  ddrRanks     : Nat
  ddrWidth     : Nat
  channelMask  : Nat
  diesPerCh    : Nat
  holdupGpio   : Nat
  holdupDiv    : Nat
  holdupHealthy : Nat
  holdupDump   : Nat
  holdupLoad   : Nat
  smb0Addr     : Nat
  holdupMin    : Nat
  oemKeyDigest : List Byte
  devices      : List (Nat × Nat)
  vpd          : List Byte
deriving DecidableEq, Repr

/-- What the stage of start-up that ends found (Table 15-4): the facts that decide how the stage goes on. `norMhz` is the
highest rate at which the SFDP of the boot NOR lists 1-4-4 mode (R638). -/
inductive StageFacts where
  | rom
  | firmware (slotA slotB : Option SlotImage) (preferB : Bool) (norMhz norBytes : Nat)
  | host (desc : List Byte)
  | memories (trained : Bool) (foundGib foundChannels foundRanks foundWidth : Nat) (profile : List Byte)
  | media (norNonceOk nvRecordsAgree : Bool) (extension : Option SlotImage)
  | recovery (dumpReadable headsOk : Bool) (durationMs bootMs : Nat)
deriving DecidableEq, Repr

/-- A Mirror Link INIT flit's content (R479). -/
structure InitFlit where
  serial    : BitVec 64
  pairId    : Bool
  graceMs   : Nat
  session   : Nat
  nextSeq   : Nat
  limits    : List (Nat × Nat)
  roundTrip : Nat
  hold      : Nat
  paired    : Bool
  lifecycle : Bool
  version   : Nat
deriving DecidableEq, Repr

/-- What an uncorrectable memory error hit (R602): a staged unit, a core's code or data, a Host Port buffer, a map entry,
or anything else. -/
inductive MemHit where
  | staged (wid unit : Nat)
  | core (c : Nat)
  | hostBuffer
  | map
  | other
deriving DecidableEq, Repr

/-- How the Mirror Link PHY trained (R479, R481): lanes, and 64 GT/s PAM4 (`pam4`) or 32 GT/s NRZ. -/
structure LinkTrained where
  lanes : Nat
  pam4  : Bool
deriving DecidableEq, Repr

/-- MWRITE (Table 12-5): the parts' ciphertext itself is named by a label, since no rule computes with it. -/
structure MWrite where
  nsid      : Nat
  index     : Nat
  unitMask  : Nat
  originSeq : Nat
  resync    : Bool
  lengthOk  : Bool
deriving DecidableEq, Repr

/-- MMAP (Table 12-5). -/
structure MMap where
  nsid      : Nat
  index     : Nat
  count     : Nat
  action    : Nat
  originSeq : Nat
  resync    : Bool
deriving DecidableEq, Repr

/-- NS_SYNC (Table 12-5): action 1 create, 2 delete, 3 attached here, 4 detached here. -/
structure NsSync where
  nsid     : Nat
  action   : Nat
  units    : Nat
  iu4k     : Bool
  lba512   : Bool
  plainKey : Nat
deriving DecidableEq, Repr

/-- A level-shim or Watch pin, by its level source 992 + `k` (R521, R536). -/
abbrev PinIdx := Nat

/-- A descriptor of the Service DMA as fetched (Table 13-7). -/
structure SdmDesc where
  ctl    : Word
  length : Word
  src    : BitVec 64
  dst    : BitVec 64
  next   : BitVec 64
deriving DecidableEq, Repr

/-- How the accesses of an SDM descriptor ended (R542, R549): no error, first differing byte, read or write error. -/
inductive SdmResult where
  | ok
  | mismatch (offset : Nat)
  | readError
  | writeError
deriving DecidableEq, Repr

/-- How a local-bus burst ended (R555, R560, R567). -/
inductive BurstEnd where
  | lastBeat | error | waitLimit
deriving DecidableEq, Repr

/-- The six members of Table 11-5's LP_WINDOW parameters: a window's shadow values. -/
structure WindowVals where
  base  : Word
  limit : Word
  trans : Word
  cfg   : Word
deriving DecidableEq, Repr

/-- How a telemetry sample or mailbox transfer ended (R577, R579). -/
inductive BusResult where
  | ok (bytes : List Byte)
  | nack | timeout | pec
deriving DecidableEq, Repr

/-- The commands of the DN9640: one constructor per row of spec/opcode_table.json, in the table's order, the rows without
operands after those with operands (the runtime tags at most 244 constructors that hold operands). -/
inductive Instr where
  -- Frame time (chapter 2)
  | fppsEdge (errNs : Int) (sinceNs : Nat) (crystalPpb : Int)
  | fsyncEdge (offNs : Int)
  | todSecWrite (hi : Bool) (v : Word)
  | heartbeatRx (hb : Heartbeat)
  | skewClearProposalRx (frame : Nat)
  -- Prism images (chapter 3) and admission (chapters 3 and 4)
  | prxLoad (by_ : Requester)
  | imageChecksDone (bytes : List Byte)
  | prxDiscard (by_ : Requester)
  | prxArm (by_ : Requester)
  | armReportRx (r : ArmReport)
  | prxDisarm (by_ : Requester)
  | prxParkReq (by_ : Requester)
  | junctionTempSample (t256 : Int)
  | stageAdmit (c : CmdId) (k : StageKind) (lane units : Nat)
  | slotStart (b : SlotBegin)
  | slotEnd (lane : Nat)
  | dieOpComplete (lane durNs : Nat) (r : OpResult)
  | prxTokenTrim (by_ : Requester) (v : Word)
  | cqePost (c : CqeTurn)
  -- Media attachment (chapter 5)
  | channelBringupDone (ch : Nat) (f : BringupFacts)
  | mchChBringup (by_ : Requester) (ch : Nat)
  | mchChRetire (by_ : Requester) (ch : Nat)
  | rbNRise (ch target : Nat)
  | statusPoll (lane : Nat) (ready : Bool)
  | dieOpTimeout (lane : Nat)
  | channelRetrain (ch : Nat) (ok : Bool)
  | dieTempRead (lane : Nat) (temp : Int)
  -- Read path (chapter 6)
  | mapLookup (c : CmdId) (cacheMiss : Nat) (eccUnit : Option Nat) (rebuilt : Bool)
  | areadReqRx (r : AreadReq)
  | areadRspRx (tag status : Nat)
  | aroundTmo (tag : Nat)
  | decodeDone (j : DecodeJob) (corrected : Nat) (r : DecodeResult)
  | softDecodePassDone (j : DecodeJob) (corrected : Nat) (recovered : Bool)
  -- Write path (chapter 7)
  | writeStaged (c : CmdId)
  | stagingFreed (wid : Nat)
  | mackRx (seq status : Nat)
  | mackTimeout (seq : Nat)
  | programDone (lane : Nat) (r : OpResult)
  | stripeCloseTimeout (stripe : Nat)
  | checkpointSegment (seg : Nat)
  | wrpCkptForce (by_ : Requester)
  | holdupSenseSample (code : BitVec 12)
  -- Media care (chapter 8)
  | scrubLate (lane : Nat)
  | calibrationDue (lane group : Nat) (best : List Int)
  | mcrTestStart (by_ : Requester) (v : Word)
  | mcrTestAbort (by_ : Requester)
  | testDone (failed : Nat)
  | holdupTestEnd (timeUs endCode : Nat)
  | lifeForecast (slowPpm : Nat)
  -- Host port (chapter 9)
  | hostLinkUp (speed width : Nat) (flit laneRev : Bool)
  | hostDlDown (cause : DlDownCause)
  | memRequestRx (r : MemReq)
  | configRequestRx (r : CfgReq)
  | completionRx (c : Cpl)
  | aspmL1Entry (l1ss : Nat)
  | l0pHostRequest (width : Nat)
  | translationCompletionRx (fn page : Nat) (failed denied : Bool)
  | invalidateRequestRx (fn base : Nat) (r : InvalRange)
  | invalidateAbandon (fn k : Nat)
  | invalidateCompletionSend (fn : Nat)
  | doeRequestRx (vendor : Nat) (o : DoeObject) (len : Nat)
  | completionTimeout (tag : Nat)
  | tagQuarantineEnd (tag : Nat)
  | hptContainForce (by_ : Requester)
  | prsntChange (seated : Bool)
  -- Functions and queues (chapter 10)
  | createIoSq (q : Sqe)
  | createIoCq (q : Sqe)
  | deleteIoSq (q : Sqe)
  | sqDeleteDrained (fn qid : Nat)
  | deleteIoCq (q : Sqe)
  | getLogPage (q : Sqe)
  | identify (q : Sqe)
  | abort (q : Sqe)
  | setFeatures (q : Sqe) (data : BitVec 64)
  | getFeatures (q : Sqe)
  | asynchronousEventRequest (q : Sqe)
  | formatNvm (q : Sqe)
  | sanitize (q : Sqe)
  | cryptoEraseProceed (nsid : Nat)
  | contractQuery (q : Sqe)
  | meterRead (q : Sqe)
  | namespaceCreate (q : Sqe) (d : NsCreate)
  | namespaceDelete (q : Sqe)
  | namespaceAttach (q : Sqe) (cntlids : List Nat)
  | namespaceDetach (q : Sqe) (cntlids : List Nat)
  | namespaceDetachDrained (nsid : Nat)
  | firmwareImageDownload (q : Sqe) (bytes : List Byte)
  | firmwareCommit (q : Sqe) (gaps : List Byte)
  | primaryFlexibleAllocation (q : Sqe)
  | secondaryOffline (q : Sqe)
  | secondaryAssign (q : Sqe)
  | secondaryOnline (q : Sqe)
  | flush (q : Sqe)
  | write (q : Sqe)
  | read (q : Sqe)
  | compare (q : Sqe) (equal : Bool)
  | writeZeroes (q : Sqe)
  | datasetManagement (q : Sqe) (ranges : List (Nat × Nat))
  | verify (q : Sqe)
  | copy (q : Sqe) (ranges : List (Nat × Nat))
  | sqTailDoorbell (fn qid value : Nat)
  | cqHeadDoorbell (fn qid value : Nat)
  | ccEnSet (fn : Nat)
  | controllerReady (fn : Nat)
  | controllerReset (fn : Nat)
  | bmeClear (fn : Nat)
  | bmeSet (fn : Nat)
  | powerStateWrite (fn state : Nat)
  | vfFlr (vf : Nat)
  | vfFlrDone (vf : Nat)
  | quiesced (vf : Nat)
  | frozen (vf : Nat)
  | saveDone (ok : Bool)
  | restoreDone (blob : List Byte)
  | holdoffTimerExpiry (fn : Nat)
  | msixUnmask (fn : Nat) (vec : Option Nat)
  -- Security (chapter 11)
  | uartImageRx (img : Option SlotImage) (desc : Option (List Byte))
  | getCertificate (slot offset length : Nat)
  | challenge (slot : Nat) (nonce : List Byte)
  | getMeasurements (index : Nat) (nonce : List Byte)
  | keyExchange (slot : Nat) (pub : List Byte)
  | finish (session : Nat) (macOk : Bool)
  | pskExchange (hint : List Byte)
  | endSession (session : Nat)
  | sessionTimeout (session : Nat)
  | claim (session seq : Nat) (psk hint : List Byte)
  | pskRotate (session seq : Nat) (psk hint : List Byte)
  | rollbackCommit (session seq : Nat)
  | query (session seq : Nat)
  | imageLoad (session seq : Nat) (addr : BitVec 64) (len : Word)
  | imageArm (session seq : Nat) (frame : BitVec 64)
  | imageDisarm (session seq : Nat)
  | park (session seq : Nat)
  | tokenTrim (session seq vf dir : Nat) (trim : Word)
  | profileBind (session seq : Nat) (bytes : List Byte)
  | keyInstall (session seq nsid : Nat) (wrapped : List Byte)
  | keyGenerate (session seq nsid : Nat)
  | lpWindow (session seq win : Nat) (v : WindowVals)
  | mtrArchConsWrite (v : Word)
  -- Mirror Link (chapter 12)
  | linkTrain (t : Option LinkTrained)
  | initRx (i : InitFlit)
  | flitRx (bytes : List Byte)
  | nakRx (seq : Nat)
  | speedRetrainDone (pam4 : Bool) (peerNext : Nat)
  | declareLost (by_ : Requester)
  | rejoin (by_ : Option Requester)
  | mwriteRx (m : MWrite)
  | mmapRx (m : MMap)
  | meraseRx (nsid originSeq : Nat)
  | blobRx (sourceVf : Nat) (bytes : List Byte)
  | blobAckRx (sourceVf status : Nat)
  | nsSyncRx (m : NsSync)
  | changeMapRx (nsid : Nat) (regions : List Nat)
  | repairReqRx (nsid index part : Nat) (recovered : Bool)
  | resyncDoneRx (nsid : Nat)
  | variant3ReportRx (entered : Bool)
  | clearingFrameRx (frame : Nat)
  | kcvRx (nsid : Nat) (kcv : BitVec 64)
  | blobDiscard (by_ : Requester)
  -- Control complex (chapter 13)
  | evcRing (by_ : Requester) (src : Nat)
  | evcUnpend (by_ : Requester) (src : Nat)
  | evcClaim (by_ : Requester) (core : Nat)
  | evcComplete (by_ : Requester) (core src : Nat)
  | evcStackReset (by_ : Requester) (core : Nat)
  | evcGdisWrite (by_ : Requester) (v : Word)
  | levelSourceChange (src : Nat) (high : Bool)
  | holdoffGroupExpiry (g : Nat)
  | watchdogRestart (by_ : Requester) (core : Nat) (v : Word)
  | watchdogExpiry (core : Nat)
  | watchdogCoreReset (core : Nat)
  | coreAccessFault (core : Nat) (addr : BitVec 38) (write : Bool)
  | coreEccFault (core : Nat)
  | watchWake (wakeBits pinBits : Word)
  | watchPinEvent (pin : PinIdx)
  | sdmArm (by_ : Requester) (ch : Nat) (first : SdmDesc)
  | sdmAbort (by_ : Requester) (ch : Nat)
  | sdmClear (by_ : Requester) (ch : Nat) (first : SdmDesc)
  | sdmDescriptorComplete (ch : Nat) (r : SdmResult) (next : SdmDesc)
  | sdmPaceResume (ch : Nat)
  -- Local Port and Telemetry (chapter 14)
  | bar4RequestRx (offset size : Nat) (write : Bool) (requester : Nat)
  | localAtomicop (offset size : Nat) (casFails : Bool)
  | localBurstEnd (r : BurstEnd)
  | prefetchExpiry (win : Nat)
  | lpbWinCommit (by_ : Requester)
  | upstreamWrite (addr len : Nat)
  | upstreamRead (addr len : Nat)
  | upstreamReadDataArrive (addr : Nat)
  | upstreamReadStale (addr : Nat)
  | lpIrqAssert (line : Nat)
  | coreLocalAccess (core : Nat) (addr : Word) (write : Bool)
  | tlnSampleDue (entry : Nat)
  | tlnSampleDone (entry : Nat) (r : BusResult)
  | tlnRecordEmit (rec : Nat)
  | larvisRead (word : Nat)
  | tlnXferGo (v : Word)
  | xferDone (r : BusResult)
  | setEndpointId (eid : Nat)
  | readNvmeMiDataStructure (type : Nat)
  | controllerHealthStatusPoll (cntlid : Nat)
  | configurationSet (id value : Nat)
  | configurationGet (id : Nat)
  | vpdRead (offset len : Nat)
  | miInvalidCommand (opcode : Nat)
  -- Start-up and power (chapter 15)
  | powerOnReset (frefSel hostSris pairId lpVsel claimResetN : Bool)
  | bootStageEnd (f : StageFacts)
  | hotReset (linkDisable : Bool)
  | pwrResetDevice (by_ : Requester)
  | dramPatrolDue (corrected : Nat) (uncorrectable : Option (Nat × MemHit))
  | sramScrubDue (corrected : Nat) (uncorrectable : Option (Nat × MemHit))
  | railFault (rail : Nat)
  | evlogConsWrite (v : Word)
  | registerWrite (by_ : Requester) (offset : Nat) (v : RegValue)
  | hostLinkRecovery (speed width : Nat)
  | wakeSourceFires (bit : Nat)
  | controllerResetDone (fn : Nat)
  | invalidCommandOpcode (q : Sqe)
  | invalidManagementRequest (session opcode seq : Nat)
  -- Commands without operands, in the same order of chapters
  | frefLost
  | frefGood
  | ppsLost
  | fsyncLost
  | frameEdge
  | minuteEdge
  | todArm
  | todApply
  | dpllDisable
  | frameCounterRead
  | skewRaisedRx
  | pairSkewClear
  | phaseMismatchClear
  | armWaitTimeout
  | switchCommit
  | imageSwitch
  | parkEntered
  | variantSwitch
  | thermalConditionClear
  | driftClear
  | journalTailBelowLimit
  | pfailAssert
  | dumpDone
  | roleEdge
  | gcFactorReview
  | holdupTestDue
  | hostFlitCrcFail
  | aspmL1Exit
  | l0pReduceRequest
  | doeAbort
  | hptContainRelease
  | releaseComplete
  | attnBtn
  | sppAttnAck
  | attnTimeout
  | fallbackDestageDone
  | vfEnableSet
  | vfEnableClear
  | pfFlr
  | quiesce
  | resume
  | freeze
  | unfreeze
  | save
  | restore
  | getVersion
  | getCapabilities
  | negotiateAlgorithms
  | getDigests
  | spdmUnsupportedRequest
  | authFail
  | minuteSigned
  | ackTimer
  | creditReport
  | speedRetrain
  | linkReset
  | linkDown
  | graceExpiry
  | fenceInAssert
  | pairJoined
  | partnerHostLost
  | partnerHostRestored
  | dumpNoticeRx
  | goingDownRx
  | aowAlarmExpiry
  | commitDone
  | commitDrainTimeout
  | localBusRequest
  | getEndpointId
  | getEndpointUuid
  | getMctpVersionSupport
  | getMessageTypeSupport
  | mctpPacketDrop
  | nvmSubsystemHealthStatusPoll
  | vddAoApplied
  | perstAssert
  | perstDeassert
  | deviceResetShutdownDone
  | pmeTurnOff
  | pmeToAck
  | mainRailsRemoved
  | thermtrip
  | pfFlrDone
deriving DecidableEq, Repr

end Sys2Proof
end

