-- ==== Sys2Proof/Decode.lean ====
section
/-! DEFINITION. The words of commands: no row of spec/opcode_table.json gives its command any bits, so that no word
spells a command. -/
namespace Sys2Proof

/-- The command that a word of `nbits` bits spells by the table: the table gives no row bits, so there is none. -/
def decodeTableWord (_nbits _w : Nat) : Option Instr := none

end Sys2Proof
end

