-- ==== Sys2Proof/Machine/Hash.lean ====
section
/-! DEFINITION. SHA-256 (FIPS 180-4, which Table 0-3 names; what the standard says of it is taken from there, PRESUMED) and
the little-endian fields of a byte string (R9). -/
namespace Sys2Proof.Machine

/-! ## Fields of a byte string -/

/-- The number in `n` bytes from offset `off`, little-endian (R9); bytes beyond the end count as 0. -/
def rd (b : List Byte) (off n : Nat) : Nat := ((b.drop off).take n).foldr (fun x acc => x.toNat + 256 * acc) 0

/-- The bytes from offset `off`. -/
def sub (b : List Byte) (off n : Nat) : List Byte := (b.drop off).take n

/-- Whether `n` bytes from `off` are all zero. -/
def zeros (b : List Byte) (off n : Nat) : Bool := (sub b off n).all (· == 0)

/-- A signed byte as an integer. -/
def signed8 (x : Nat) : Int := if x < 128 then x else Int.ofNat x - 256

/-- A number as `n` bytes, little-endian (R9). -/
def leBytes (v : Nat) : Nat → List Byte
  | 0 => []
  | n + 1 => BitVec.ofNat 8 v :: leBytes (v / 256) n

/-! ## CRC-32C (R275; the Castagnoli polynomial, reflected, PRESUMED: the spec names the code alone) -/

/-- One bit of the register. -/
def crc32cBit (r : Word) : Word := if r.getLsbD 0 then (r >>> 1) ^^^ 0x82F63B78 else r >>> 1
/-- One byte. -/
def crc32cByte (r : Word) (x : Byte) : Word :=
  (List.range 8).foldl (fun r _ => crc32cBit r) (r ^^^ x.setWidth 32)
/-- CRC-32C of a byte string. -/
def crc32c (b : List Byte) : Word := (b.foldl crc32cByte 0xFFFFFFFF) ^^^ 0xFFFFFFFF

/-! ## SHA-256

FIPS 180-4 defines the constants as fractional parts of roots of primes, and its eight working variables are the last four
values of two sequences: the definitions below say it so. -/

/-- The largest number with `k`-th power at most `n` that adding some of the bits below a place to `r` gives, bit by bit. -/
def rootBits (k n : Nat) : Nat → Nat → Nat
  | 0, r => r
  | b + 1, r => rootBits k n b (if (r + 2 ^ b) ^ k ≤ n then r + 2 ^ b else r)

/-- The first 64 primes. -/
def primes64 : List Nat :=
  (List.range 312).filter fun n => decide (2 ≤ n) && (List.range 18).all fun d => decide (d < 2) || decide (n ≤ d) || n % d != 0

/-- The first 32 bits of the fractional part of the `k`-th root of a prime. -/
def rootWord (k p : Nat) : Word := BitVec.ofNat 32 (rootBits k (p * 2 ^ (32 * k)) 35 0)

/-- A word's rotations to the right by each of some amounts, and its shift by another, combined by exclusive or. -/
def mixed (turns : List Nat) (shift : Nat) (w : Word) : Word :=
  turns.foldl (fun acc n => acc ^^^ w.rotateRight n) (if shift = 0 then 0 else w >>> shift)

/-- The two sequences of the compression, each by its last four values, newest first. -/
structure Chain where
  upper : List Word
  lower : List Word
deriving DecidableEq, Repr

/-- The next value of both sequences, from the sum of the round's constant and message word. -/
def Chain.next (c : Chain) (x : Word) : Chain :=
  let u (n : Nat) : Word := c.upper.getD n 0
  let l (n : Nat) : Word := c.lower.getD n 0
  let picked := (l 0 &&& (l 1 ^^^ l 2)) ^^^ l 2
  let median := (u 0 &&& (u 1 ||| u 2)) ||| (u 1 &&& u 2)
  let y := x + picked + mixed [6, 11, 25] 0 (l 0) + l 3
  { upper := (y + median + mixed [2, 13, 22] 0 (u 0)) :: c.upper.take 3, lower := (u 3 + y) :: c.lower.take 3 }

/-- The rounds of a block over its constants; the window holds the sixteen message words that come next, each round taking
the first and adding one at the end. -/
def Chain.rounds : List Word → List Word → Chain → Chain
  | k :: ks, w :: ws, c =>
    let fresh := w + mixed [7, 18] 3 (ws.getD 0 0) + ws.getD 8 0 + mixed [17, 19] 10 (ws.getD 13 0)
    Chain.rounds ks (ws ++ [fresh]) (c.next (k + w))
  | _, _, c => c

/-- One block of 64 bytes, whose words are big-endian. -/
def Chain.block (c : Chain) (b : List Byte) : Chain :=
  let window := (List.range 16).map fun i => BitVec.ofNat 32 (rd (sub b (4 * i) 4).reverse 0 4)
  let d := Chain.rounds (primes64.map (rootWord 3)) window c
  { upper := List.zipWith (· + ·) c.upper d.upper, lower := List.zipWith (· + ·) c.lower d.lower }

/-- The chain before the first block. -/
def Chain.first : Chain :=
  { upper := (primes64.take 4).map (rootWord 2), lower := ((primes64.drop 4).take 4).map (rootWord 2) }

/-- SHA-256 of a byte string: the bytes, a byte 80h, zeros up to 8 bytes before a block's end and the length in bits,
big-endian, block by block. -/
def sha256 (m : List Byte) : List Byte :=
  let fill := (119 - m.length % 64) % 64
  let all := m ++ 0x80 :: (List.replicate fill 0 ++ (leBytes (8 * m.length) 8).reverse)
  let c := (List.range (all.length / 64)).foldl (fun c i => c.block (sub all (64 * i) 64)) Chain.first
  (c.upper ++ c.lower).flatMap fun w => (leBytes w.toNat 4).reverse

end Sys2Proof.Machine
end

