-- ==== Sys2Proof/Config.lean ====
section
/-! DEFINITION. What one part fixes and the specification leaves open: the serial number, and the free values. Each is
a constant with no body, so that no proof can see a value of it. -/
namespace Sys2Proof.Config

/-- A free value for every draw: a value the specification leaves open after an action that goes on (a RsvdP field as
read, Table 0-2; the DPLL's frequency offset; a value whose result no rule states). The state counts the draws. -/
opaque freeBits : Nat → BitVec 64

/-- The device's serial number, set by fuses (SEC_SERIAL_LO and _HI, Table 17-2). -/
opaque serial : BitVec 64

/-- The device secret, fused at manufacture; it is never read out (R432). -/
opaque deviceSecret : List Byte

/-- ECDSA P-256 verification of a signature over the SHA-256 of a message under a public key (R428, R595). -/
opaque ecdsaVerify : (key msg signature : List Byte) → Bool

/-- ECDSA P-256 signature over the SHA-256 of a message under the identity key (R433). -/
opaque ecdsaSign : (msg : List Byte) → List Byte

/-- AES-256-GCM unwrapping of a wrapped namespace key under the key derived from the session's export master secret,
with the NSID and SEQ as additional data (R448): the key, or failure. -/
opaque unwrapKey : (session nsid seq : Nat) → (wrapped : List Byte) → Option (List Byte)

/-- The digests in the four signing-key fuse banks, and whether a bank's revoke fuse is intact (R428). -/
opaque fuseDigest : (bank : Nat) → List Byte
opaque fuseIntact : (bank : Nat) → Bool

/-- The Fyell media-profile key in the body of a firmware image (R178, R427). -/
opaque profileKey : (body : List Byte) → List Byte

/-- SHA-256 of the boot ROM (Table 11-4), the bytes of the certificate chains of Table 11-2, and the UUID (R586). -/
opaque romDigest : List Byte
opaque certChain : (slot : Nat) → (mtrKey : List Byte) → (second : Option Nat) → List Byte
opaque uuid : List Byte

/-- ECDSA P-256 signature over the SHA-256 of a message under the metering key of a claim (R458). -/
opaque meterSign : (mtrKey msg : List Byte) → List Byte

/-- Draws of the random bit generator (R446, R449). -/
opaque randomBytes : (draw count : Nat) → List Byte

/-- The keyed placement function of the Translation Unit (R265, R266): the stripe location a unit is placed at. -/
opaque placement : (nsid index generation : Nat) → Nat

/-- Whether the factory bad-block mark of a block is not 0xFF (R308). -/
opaque factoryBad : (lane block : Nat) → Bool

/-- The ageing factor 2^(x / d) in 1/65,536 for a fraction x / d that is no whole number (R304). -/
opaque ageing : (num den : Int) → Nat

/-- The least-squares fit of R320: EOL_PE with its lower and upper bounds from a die's daily points, newest first, as
mean erase count and mean corrected bits, and CORR_LIMIT. -/
opaque eolFit : (points : List (Nat × Nat)) → (corrLimit : Nat) → Nat × Nat × Nat

/-- The power of the first root of the generator polynomial of the FEC of a flit (Table 12-1), which the spec does not give. -/
opaque fecRoot : Nat

/-- The read levels of a retry (R225, R656) and of the reads of a soft-decode pass (R232), of the centre levels: 1 a retry; 2
and 3 the offsets below and above the centre. -/
opaque shiftedLevels : (levels : List Int) → (k : Nat) → List Int

end Sys2Proof.Config
end

