-- ==== Sys2Proof/Machine/RegMap.lean ====
section
/-! DEFINITION. The register map of PF0 BAR2: every register's offset, reset value and access (R10, R11, R16, R645 to
R647, Tables 17-1 and 17-2, and the register tables of the chapters). A register is named by its BAR2 offset. An instance
number selects among the instances that the spec gives the register: it is taken modulo their number, so that no name
leaves its window. -/
namespace Sys2Proof.Machine
namespace Reg

/-- FTB_CTL (RW, reset 0x00000001). -/
abbrev ftbCtl : Nat := 0x400000
/-- FTB_STATUS (RO, reset 0x00000000). -/
abbrev ftbStatus : Nat := 0x400004
/-- FTB_EVENT (W1C, reset 0x00000000). -/
abbrev ftbEvent : Nat := 0x400008
/-- FTB_EVENT_EN (RW, reset 0x00000000). -/
abbrev ftbEventEn : Nat := 0x40000C
/-- FTB_FRAME_LO (RO, reset 0x00000000). -/
abbrev ftbFrameLo : Nat := 0x400010
/-- FTB_FRAME_HI (RO, reset 0x00000000). -/
abbrev ftbFrameHi : Nat := 0x400014
/-- FTB_CELL (RO, reset 0x00000000). -/
abbrev ftbCell : Nat := 0x400018
/-- FTB_TOD_SEC (RW, reset 0x00000000). -/
abbrev ftbTodSec : Nat := 0x400020
/-- FTB_TOD_SEC_HI (RW, reset 0x00000000). -/
abbrev ftbTodSecHi : Nat := 0x400024
/-- FTB_TOD_CTL (W1S, reset 0x00000000). -/
abbrev ftbTodCtl : Nat := 0x400028
/-- FTB_PHASE_ERR (RO, reset 0x00000000). -/
abbrev ftbPhaseErr : Nat := 0x400030
/-- FTB_FREQ_ADJ (RO, reset 0x00000000). -/
abbrev ftbFreqAdj : Nat := 0x400034
/-- FTB_FSYNC_OFFSET (RO, reset 0x00000000). -/
abbrev ftbFsyncOffset : Nat := 0x400038
/-- FTB_FSYNC_TOL (RW, reset 0x00000064). -/
abbrev ftbFsyncTol : Nat := 0x40003C
/-- FTB_PAIR_SKEW (RO, reset 0x00000000). -/
abbrev ftbPairSkew : Nat := 0x400040
/-- FTB_LINK_DELAY (RO, reset 0x00000000). -/
abbrev ftbLinkDelay : Nat := 0x400044
/-- FTB_HOLDOVER_FRAMES (RO, reset 0x00000000). -/
abbrev ftbHoldoverFrames : Nat := 0x400050
/-- FTB_PPS_REJECT_CNT (RO, reset 0x00000000). -/
abbrev ftbPpsRejectCnt : Nat := 0x400054
/-- FTB_FREF_LOSS_CNT (RO, reset 0x00000000). -/
abbrev ftbFrefLossCnt : Nat := 0x400058
/-- FTB_FSYNC_SLIP_CNT (RO, reset 0x00000000). -/
abbrev ftbFsyncSlipCnt : Nat := 0x40005C
/-- FTB_PAIR_SKEW_CNT (RO, reset 0x00000000). -/
abbrev ftbPairSkewCnt : Nat := 0x400060
/-- PRX_CTL (RW, reset 0x00000001). -/
abbrev prxCtl : Nat := 0x500000
/-- PRX_STATUS (RO, reset 0x00000000). -/
abbrev prxStatus : Nat := 0x500004
/-- PRX_EVENT (W1C, reset 0x00000000). -/
abbrev prxEvent : Nat := 0x500008
/-- PRX_EVENT_EN (RW, reset 0x00000000). -/
abbrev prxEventEn : Nat := 0x50000C
/-- PRX_ACTIVE_ID (RO, reset 0x00000000). -/
abbrev prxActiveId : Nat := 0x500010
/-- PRX_STAGED_ID (RO, reset 0x00000000). -/
abbrev prxStagedId : Nat := 0x500014
/-- PRX_PHASE_LOCAL (RO, reset 0x00000000). -/
abbrev prxPhaseLocal : Nat := 0x500018
/-- PRX_PHASE_PARTNER (RO, reset 0x00000000). -/
abbrev prxPhasePartner : Nat := 0x50001C
/-- PRX_LOAD_CTL (WO, reset 0x00000000). -/
abbrev prxLoadCtl : Nat := 0x500020
/-- PRX_LOAD_LEN (RW, reset 0x00000000). -/
abbrev prxLoadLen : Nat := 0x500024
/-- PRX_LOAD_ADDR_LO (RW, reset 0x00000000). -/
abbrev prxLoadAddrLo : Nat := 0x500028
/-- PRX_LOAD_ADDR_HI (RW, reset 0x00000000). -/
abbrev prxLoadAddrHi : Nat := 0x50002C
/-- PRX_LOAD_STATUS (RO, reset 0x00000000). -/
abbrev prxLoadStatus : Nat := 0x500030
/-- PRX_LOAD_ERR_ENTRY (RO, reset 0x00000000). -/
abbrev prxLoadErrEntry : Nat := 0x500034
/-- PRX_ARM (W1S, reset 0x00000000). -/
abbrev prxArm : Nat := 0x500038
/-- PRX_ARM_STATUS (RO, reset 0x00000000). -/
abbrev prxArmStatus : Nat := 0x50003C
/-- PRX_SWITCH_FRAME_LO (RW, reset 0x00000000). -/
abbrev prxSwitchFrameLo : Nat := 0x500040
/-- PRX_SWITCH_FRAME_HI (RW, reset 0x00000000). -/
abbrev prxSwitchFrameHi : Nat := 0x500044
/-- PRX_PARK_REQ (WO, reset 0x00000000). -/
abbrev prxParkReq : Nat := 0x500048
/-- PRX_FRAME_TRIGGER (RO, reset 0x00000000). -/
abbrev prxFrameTrigger : Nat := 0x50004C
/-- PRX_OVERRUN_CNT (RO, reset 0x00000000). -/
abbrev prxOverrunCnt : Nat := 0x500050
/-- PRX_OVERRUN_LANE (RO, reset 0x00000000). -/
abbrev prxOverrunLane : Nat := 0x500054
/-- PRX_EXCURSION_CNT (RO, reset 0x00000000). -/
abbrev prxExcursionCnt : Nat := 0x500058
/-- PRX_LENT_CNT (RO, reset 0x00000000). -/
abbrev prxLentCnt : Nat := 0x50005C
/-- PRX_VARIANT_CNT (RO, reset 0x00000000). -/
abbrev prxVariantCnt : Nat := 0x500060
/-- PRX_SWITCH_CNT (RO, reset 0x00000000). -/
abbrev prxSwitchCnt : Nat := 0x500064
/-- PRX_LOAD_FAIL_CNT (RO, reset 0x00000000). -/
abbrev prxLoadFailCnt : Nat := 0x500068
/-- PRX_ARM_FAIL_CNT (RO, reset 0x00000000). -/
abbrev prxArmFailCnt : Nat := 0x50006C
/-- PRX_TRIM_SEL (RW, reset 0x00000000). -/
abbrev prxTrimSel : Nat := 0x500070
/-- PRX_TOKEN_TRIM (WO, reset 0x00000000). -/
abbrev prxTokenTrim : Nat := 0x500074
/-- MCH_GSTATUS (RO, reset 0x00000000). -/
abbrev mchGstatus : Nat := 0x680000
/-- MCH_EVENT (W1C, reset 0x00000000). -/
abbrev mchEvent : Nat := 0x680004
/-- MCH_EVENT_EN (RW, reset 0x00000000). -/
abbrev mchEventEn : Nat := 0x680008
/-- MCH_CH_UP (RO, reset 0x00000000). -/
abbrev mchChUp : Nat := 0x68000C
/-- MCH_CH_REFUSED (RO, reset 0x00000000). -/
abbrev mchChRefused : Nat := 0x680010
/-- MCH_CH_LOST (RO, reset 0x00000000). -/
abbrev mchChLost : Nat := 0x680014
/-- MCH_PROFILE_ID (RO, reset 0x00000000). -/
abbrev mchProfileId : Nat := 0x680018
/-- MCH_PROFILE_VER (RO, reset 0x00000000). -/
abbrev mchProfileVer : Nat := 0x68001C
/-- MCH_PROFILE_DIGEST (RO, reset 0x00000000). -/
abbrev mchProfileDigest : Nat := 0x680020
/-- MCH_RATE (RO, reset 0x00000000). -/
abbrev mchRate : Nat := 0x680024
/-- RDP_CTL (RW, reset 0x00000007). -/
abbrev rdpCtl : Nat := 0x700000
/-- RDP_STATUS (RO, reset 0x00000000). -/
abbrev rdpStatus : Nat := 0x700004
/-- RDP_EVENT (W1C, reset 0x00000000). -/
abbrev rdpEvent : Nat := 0x700008
/-- RDP_EVENT_EN (RW, reset 0x00000000). -/
abbrev rdpEventEn : Nat := 0x70000C
/-- RDP_AROUND_TMO (RW, reset 0x0000C350). -/
abbrev rdpAroundTmo : Nat := 0x700010
/-- RDP_SOFT_CTL (RW, reset 0x00000003). -/
abbrev rdpSoftCtl : Nat := 0x700014
/-- RDP_URE_NSID (RO, reset 0x00000000). -/
abbrev rdpUreNsid : Nat := 0x700018
/-- RDP_URE_LBA_LO (RO, reset 0x00000000). -/
abbrev rdpUreLbaLo : Nat := 0x70001C
/-- RDP_URE_LBA_HI (RO, reset 0x00000000). -/
abbrev rdpUreLbaHi : Nat := 0x700020
/-- RDP_URE_VF (RO, reset 0x00000000). -/
abbrev rdpUreVf : Nat := 0x700024
/-- RDP_MEDIA_READ_CNT (RO, reset 0x00000000). -/
abbrev rdpMediaReadCnt : Nat := 0x700040
/-- RDP_STAGING_HIT_CNT (RO, reset 0x00000000). -/
abbrev rdpStagingHitCnt : Nat := 0x700044
/-- RDP_UNMAPPED_CNT (RO, reset 0x00000000). -/
abbrev rdpUnmappedCnt : Nat := 0x700048
/-- RDP_MAP_DRAM_CNT (RO, reset 0x00000000). -/
abbrev rdpMapDramCnt : Nat := 0x70004C
/-- RDP_MAP_ECC_CNT (RO, reset 0x00000000). -/
abbrev rdpMapEccCnt : Nat := 0x700050
/-- RDP_HARD_FAIL_CNT (RO, reset 0x00000000). -/
abbrev rdpHardFailCnt : Nat := 0x700054
/-- RDP_TAG_FAIL_CNT (RO, reset 0x00000000). -/
abbrev rdpTagFailCnt : Nat := 0x700058
/-- RDP_RESCUE_OK_CNT (RO, reset 0x00000000). -/
abbrev rdpRescueOkCnt : Nat := 0x70005C
/-- RDP_RESCUE_FAIL_CNT (RO, reset 0x00000000). -/
abbrev rdpRescueFailCnt : Nat := 0x700060
/-- RDP_SOFT_OK_CNT (RO, reset 0x00000000). -/
abbrev rdpSoftOkCnt : Nat := 0x700064
/-- RDP_PARITY_OK_CNT (RO, reset 0x00000000). -/
abbrev rdpParityOkCnt : Nat := 0x700068
/-- RDP_URE_CNT (RO, reset 0x00000000). -/
abbrev rdpUreCnt : Nat := 0x70006C
/-- RDP_RECON_CNT (RO, reset 0x00000000). -/
abbrev rdpReconCnt : Nat := 0x700070
/-- RDP_AROUND_SENT_CNT (RO, reset 0x00000000). -/
abbrev rdpAroundSentCnt : Nat := 0x700074
/-- RDP_AROUND_SERVED_CNT (RO, reset 0x00000000). -/
abbrev rdpAroundServedCnt : Nat := 0x700078
/-- RDP_AROUND_TMO_CNT (RO, reset 0x00000000). -/
abbrev rdpAroundTmoCnt : Nat := 0x70007C
/-- RDP_AROUND_LATE_CNT (RO, reset 0x00000000). -/
abbrev rdpAroundLateCnt : Nat := 0x700080
/-- RDP_AROUND_REFUSED_CNT (RO, reset 0x00000000). -/
abbrev rdpAroundRefusedCnt : Nat := 0x700084
/-- RDP_REPAIR_CNT (RO, reset 0x00000000). -/
abbrev rdpRepairCnt : Nat := 0x700088
/-- WRP_CTL (RW, reset 0x00000000). -/
abbrev wrpCtl : Nat := 0x800000
/-- WRP_STATUS (RO, reset 0x00000000). -/
abbrev wrpStatus : Nat := 0x800004
/-- WRP_EVENT (W1C, reset 0x00000000). -/
abbrev wrpEvent : Nat := 0x800008
/-- WRP_EVENT_EN (RW, reset 0x00000000). -/
abbrev wrpEventEn : Nat := 0x80000C
/-- WRP_STAGING_USED (RO, reset 0x00000000). -/
abbrev wrpStagingUsed : Nat := 0x800010
/-- WRP_STAGING_MIRROR (RO, reset 0x00000000). -/
abbrev wrpStagingMirror : Nat := 0x800014
/-- WRP_MIRROR_RESERVE (RW, reset 0x00001800). -/
abbrev wrpMirrorReserve : Nat := 0x800018
/-- WRP_STRIPE_TMO (RW, reset 0x00000032). -/
abbrev wrpStripeTmo : Nat := 0x80001C
/-- WRP_HOLDUP_CTL (RW, reset 0x00000000). -/
abbrev wrpHoldupCtl : Nat := 0x800020
/-- WRP_HOLDUP_SENSE (RO, reset 0x00000000). -/
abbrev wrpHoldupSense : Nat := 0x800024
/-- WRP_DUMP_CTL (RW, reset 0x00000001). -/
abbrev wrpDumpCtl : Nat := 0x800028
/-- WRP_DUMP_STATUS (RO, reset 0x00000000). -/
abbrev wrpDumpStatus : Nat := 0x80002C
/-- WRP_RECOVERY_TIME (RO, reset 0x00000000). -/
abbrev wrpRecoveryTime : Nat := 0x800030
/-- WRP_CKPT_AGE (RO, reset 0x00000000). -/
abbrev wrpCkptAge : Nat := 0x800034
/-- WRP_JOURNAL_SEQ_LO (RO, reset 0x00000000). -/
abbrev wrpJournalSeqLo : Nat := 0x800038
/-- WRP_JOURNAL_SEQ_HI (RO, reset 0x00000000). -/
abbrev wrpJournalSeqHi : Nat := 0x80003C
/-- WRP_CKPT_CTL (WO, reset 0x00000000). -/
abbrev wrpCkptCtl : Nat := 0x800040
/-- WRP_HOST_UNIT_CNT (RO, reset 0x00000000). -/
abbrev wrpHostUnitCnt : Nat := 0x800080
/-- WRP_MIRROR_OUT_CNT (RO, reset 0x00000000). -/
abbrev wrpMirrorOutCnt : Nat := 0x800084
/-- WRP_MIRROR_IN_CNT (RO, reset 0x00000000). -/
abbrev wrpMirrorInCnt : Nat := 0x800088
/-- WRP_PROG_CNT (RO, reset 0x00000000). -/
abbrev wrpProgCnt : Nat := 0x80008C
/-- WRP_PROG_FAIL_CNT (RO, reset 0x00000000). -/
abbrev wrpProgFailCnt : Nat := 0x800090
/-- WRP_REPLACE_CNT (RO, reset 0x00000000). -/
abbrev wrpReplaceCnt : Nat := 0x800094
/-- WRP_PAD_CNT (RO, reset 0x00000000). -/
abbrev wrpPadCnt : Nat := 0x800098
/-- WRP_MERGE_CNT (RO, reset 0x00000000). -/
abbrev wrpMergeCnt : Nat := 0x80009C
/-- WRP_FILL_DISCARD_CNT (RO, reset 0x00000000). -/
abbrev wrpFillDiscardCnt : Nat := 0x8000A0
/-- WRP_LOCAL_COMPLETE_CNT (RO, reset 0x00000000). -/
abbrev wrpLocalCompleteCnt : Nat := 0x8000A4
/-- WRP_HOLDUP_WITHHOLD_CNT (RO, reset 0x00000000). -/
abbrev wrpHoldupWithholdCnt : Nat := 0x8000A8
/-- WRP_STAGE_WAIT_CNT (RO, reset 0x00000000). -/
abbrev wrpStageWaitCnt : Nat := 0x8000AC
/-- WRP_CKPT_SEG_CNT (RO, reset 0x00000000). -/
abbrev wrpCkptSegCnt : Nat := 0x8000B0
/-- WRP_DUMP_CNT (RO, reset 0x00000000). -/
abbrev wrpDumpCnt : Nat := 0x8000B4
/-- MCR_CTL (RW, reset 0x0000001F). -/
abbrev mcrCtl : Nat := 0x900000
/-- MCR_STATUS (RO, reset 0x00000000). -/
abbrev mcrStatus : Nat := 0x900004
/-- MCR_EVENT (W1C, reset 0x00000000). -/
abbrev mcrEvent : Nat := 0x900008
/-- MCR_EVENT_EN (RW, reset 0x00000000). -/
abbrev mcrEventEn : Nat := 0x90000C
/-- MCR_GC_FREE (RW, reset 0x00030810). -/
abbrev mcrGcFree : Nat := 0x900010
/-- MCR_GC_DEBT (RO, reset 0x00000000). -/
abbrev mcrGcDebt : Nat := 0x900014
/-- MCR_GC_LIMIT (RW, reset 0x01000040). -/
abbrev mcrGcLimit : Nat := 0x900018
/-- MCR_WA_MEAS (RO, reset 0x00000100). -/
abbrev mcrWaMeas : Nat := 0x90001C
/-- MCR_WA_ASSUMED (RO, reset 0x00000000). -/
abbrev mcrWaAssumed : Nat := 0x900020
/-- MCR_GC_FACTOR (RO, reset 0x00010000). -/
abbrev mcrGcFactor : Nat := 0x900024
/-- MCR_BE_WRITE_CAP (RW, reset 0x00000100). -/
abbrev mcrBeWriteCap : Nat := 0x900028
/-- MCR_SCRUB_PERIOD (RW, reset 0x000000A8). -/
abbrev mcrScrubPeriod : Nat := 0x90002C
/-- MCR_CAL_PERIOD (RW, reset 0x00000E10). -/
abbrev mcrCalPeriod : Nat := 0x900030
/-- MCR_WL_DELTA (RW, reset 0x000000C8). -/
abbrev mcrWlDelta : Nat := 0x900034
/-- MCR_SPARE_LOW (RW, reset 0x0000000A). -/
abbrev mcrSpareLow : Nat := 0x900038
/-- MCR_TEST_CTL (WO, reset 0x00000000). -/
abbrev mcrTestCtl : Nat := 0x900040
/-- MCR_TEST_STATUS (RO, reset 0x00000000). -/
abbrev mcrTestStatus : Nat := 0x900044
/-- MCR_HOLDUP_CAP (RO, reset 0x00000000). -/
abbrev mcrHoldupCap : Nat := 0x900048
/-- MCR_HOLDUP_AGE (RO, reset 0x00000000). -/
abbrev mcrHoldupAge : Nat := 0x90004C
/-- MCR_HOLDUP_TEST (RW, reset 0x001E0040). -/
abbrev mcrHoldupTest : Nat := 0x900050
/-- MCR_HOLDUP_MIN (RW, reset 0x00000000). -/
abbrev mcrHoldupMin : Nat := 0x900054
/-- MCR_HOLDUP_LOAD (RW, reset 0x00000000). -/
abbrev mcrHoldupLoad : Nat := 0x900058
/-- MCR_GC_BLOCK_CNT (RO, reset 0x00000000). -/
abbrev mcrGcBlockCnt : Nat := 0x900080
/-- MCR_GC_UNIT_CNT (RO, reset 0x00000000). -/
abbrev mcrGcUnitCnt : Nat := 0x900084
/-- MCR_REFRESH_RET_CNT (RO, reset 0x00000000). -/
abbrev mcrRefreshRetCnt : Nat := 0x900088
/-- MCR_REFRESH_RD_CNT (RO, reset 0x00000000). -/
abbrev mcrRefreshRdCnt : Nat := 0x90008C
/-- MCR_SCRUB_BLOCK_CNT (RO, reset 0x00000000). -/
abbrev mcrScrubBlockCnt : Nat := 0x900090
/-- MCR_WL_MOVE_CNT (RO, reset 0x00000000). -/
abbrev mcrWlMoveCnt : Nat := 0x900094
/-- MCR_CAL_CNT (RO, reset 0x00000000). -/
abbrev mcrCalCnt : Nat := 0x900098
/-- MCR_RETIRE_CNT (RO, reset 0x00000000). -/
abbrev mcrRetireCnt : Nat := 0x90009C
/-- MCR_ERASE_FAIL_CNT (RO, reset 0x00000000). -/
abbrev mcrEraseFailCnt : Nat := 0x9000A0
/-- MCR_BE_THROTTLE_CNT (RO, reset 0x00000000). -/
abbrev mcrBeThrottleCnt : Nat := 0x9000A4
/-- MCR_TEST_FAIL_CNT (RO, reset 0x00000000). -/
abbrev mcrTestFailCnt : Nat := 0x9000A8
/-- MCR_DIE_SEL (RW, reset 0x00000000). -/
abbrev mcrDieSel : Nat := 0x900100
/-- MCR_DIE_PE (RO, reset 0x00000000). -/
abbrev mcrDiePe : Nat := 0x900104
/-- MCR_DIE_BLOCKS (RO, reset 0x00000000). -/
abbrev mcrDieBlocks : Nat := 0x900108
/-- MCR_DIE_STATE (RO, reset 0x00000000). -/
abbrev mcrDieState : Nat := 0x90010C
/-- HPT_STATUS (RO, reset 0x00000000). -/
abbrev hptStatus : Nat := 0x100000
/-- HPT_EVENT (W1C, reset 0x00000000). -/
abbrev hptEvent : Nat := 0x100004
/-- HPT_EVENT_EN (RW, reset 0x00000000). -/
abbrev hptEventEn : Nat := 0x100008
/-- HPT_PM_CTL (RW, reset 0x000A0040). -/
abbrev hptPmCtl : Nat := 0x10000C
/-- HPT_CONTAIN_CTL (WO, reset 0x00000000). -/
abbrev hptContainCtl : Nat := 0x100010
/-- HPT_CONTAIN_STATUS (RO, reset 0x00000000). -/
abbrev hptContainStatus : Nat := 0x100014
/-- HPT_TAG_QUAR (RO, reset 0x00000000). -/
abbrev hptTagQuar : Nat := 0x100018
/-- HPT_NP_OUT (RO, reset 0x00000000). -/
abbrev hptNpOut : Nat := 0x10001C
/-- HPT_AER_LOST (RO, reset 0x00000000). -/
abbrev hptAerLost : Nat := 0x100040
/-- HPT_CTO_CNT (RO, reset 0x00000000). -/
abbrev hptCtoCnt : Nat := 0x100044
/-- HPT_LATE_CPL_CNT (RO, reset 0x00000000). -/
abbrev hptLateCplCnt : Nat := 0x100048
/-- HPT_MALFORMED_CNT (RO, reset 0x00000000). -/
abbrev hptMalformedCnt : Nat := 0x10004C
/-- HPT_POISON_CNT (RO, reset 0x00000000). -/
abbrev hptPoisonCnt : Nat := 0x100050
/-- HPT_UR_CNT (RO, reset 0x00000000). -/
abbrev hptUrCnt : Nat := 0x100054
/-- HPT_BAD_TLP_CNT (RO, reset 0x00000000). -/
abbrev hptBadTlpCnt : Nat := 0x100058
/-- HPT_FEC_CORR_CNT (RO, reset 0x00000000). -/
abbrev hptFecCorrCnt : Nat := 0x10005C
/-- HPT_RECOVERY_CNT (RO, reset 0x00000000). -/
abbrev hptRecoveryCnt : Nat := 0x100060
/-- HPT_LINK_DOWN_CNT (RO, reset 0x00000000). -/
abbrev hptLinkDownCnt : Nat := 0x100064
/-- HPT_CONTAIN_CNT (RO, reset 0x00000000). -/
abbrev hptContainCnt : Nat := 0x100068
/-- HPT_ATC_HIT_CNT (RO, reset 0x00000000). -/
abbrev hptAtcHitCnt : Nat := 0x10006C
/-- HPT_ATC_MISS_CNT (RO, reset 0x00000000). -/
abbrev hptAtcMissCnt : Nat := 0x100070
/-- HPT_ATS_INV_CNT (RO, reset 0x00000000). -/
abbrev hptAtsInvCnt : Nat := 0x100074
/-- HPT_ATS_FAIL_CNT (RO, reset 0x00000000). -/
abbrev hptAtsFailCnt : Nat := 0x100078
/-- HPT_SQ_FETCH_TMO_CNT (RO, reset 0x00000000). -/
abbrev hptSqFetchTmoCnt : Nat := 0x10007C
/-- FNM_CTL (RW, reset 0x00000001). -/
abbrev fnmCtl : Nat := 0x200000
/-- FNM_STATUS (RO, reset 0x00000000). -/
abbrev fnmStatus : Nat := 0x200004
/-- FNM_EVENT (W1C, reset 0x00000000). -/
abbrev fnmEvent : Nat := 0x200008
/-- FNM_EVENT_EN (RW, reset 0x00000000). -/
abbrev fnmEventEn : Nat := 0x20000C
/-- FNM_DEFAULT_RES (RW, reset 0x00000505). -/
abbrev fnmDefaultRes : Nat := 0x200010
/-- FNM_VF_SEL (RW, reset 0x00000001). -/
abbrev fnmVfSel : Nat := 0x200014
/-- FNM_VF_STATE (RO, reset 0x00000000). -/
abbrev fnmVfState : Nat := 0x200018
/-- FNM_VF_RES (RO, reset 0x00000000). -/
abbrev fnmVfRes : Nat := 0x20001C
/-- FNM_VF_OUTSTANDING (RO, reset 0x00000000). -/
abbrev fnmVfOutstanding : Nat := 0x200020
/-- FNM_VF_CTL (WO, reset 0x00000000). -/
abbrev fnmVfCtl : Nat := 0x200024
/-- FNM_MIG_ADDR_LO (RW, reset 0x00000000). -/
abbrev fnmMigAddrLo : Nat := 0x200028
/-- FNM_MIG_ADDR_HI (RW, reset 0x00000000). -/
abbrev fnmMigAddrHi : Nat := 0x20002C
/-- FNM_MIG_LEN (RW, reset 0x00000000). -/
abbrev fnmMigLen : Nat := 0x200030
/-- FNM_MIG_CTL (RW, reset 0x00000000). -/
abbrev fnmMigCtl : Nat := 0x200034
/-- FNM_MIG_STATUS (RO, reset 0x00000000). -/
abbrev fnmMigStatus : Nat := 0x200038
/-- FNM_MIG_SIZE (RO, reset 0x00000000). -/
abbrev fnmMigSize : Nat := 0x20003C
/-- FNM_FLR_CNT (RO, reset 0x00000000). -/
abbrev fnmFlrCnt : Nat := 0x200040
/-- FNM_PF_FLR_CNT (RO, reset 0x00000000). -/
abbrev fnmPfFlrCnt : Nat := 0x200044
/-- FNM_QUIESCE_CNT (RO, reset 0x00000000). -/
abbrev fnmQuiesceCnt : Nat := 0x200048
/-- FNM_SAVE_CNT (RO, reset 0x00000000). -/
abbrev fnmSaveCnt : Nat := 0x20004C
/-- FNM_RESTORE_CNT (RO, reset 0x00000000). -/
abbrev fnmRestoreCnt : Nat := 0x200050
/-- FNM_MIG_FAIL_CNT (RO, reset 0x00000000). -/
abbrev fnmMigFailCnt : Nat := 0x200054
/-- FNM_BME_HOLD_CNT (RO, reset 0x00000000). -/
abbrev fnmBmeHoldCnt : Nat := 0x200058
/-- QEN_STATUS (RO, reset 0x00000000). -/
abbrev qenStatus : Nat := 0x300000
/-- QEN_EVENT (W1C, reset 0x00000000). -/
abbrev qenEvent : Nat := 0x300004
/-- QEN_EVENT_EN (RW, reset 0x00000000). -/
abbrev qenEventEn : Nat := 0x300008
/-- QEN_POOL_VQ_FREE (RO, reset 0x00009000). -/
abbrev qenPoolVqFree : Nat := 0x300010
/-- QEN_POOL_VI_FREE (RO, reset 0x00010FBF). -/
abbrev qenPoolViFree : Nat := 0x300014
/-- QEN_CMD_FETCH_CNT (RO, reset 0x00000000). -/
abbrev qenCmdFetchCnt : Nat := 0x300040
/-- QEN_DB_INVALID_CNT (RO, reset 0x00000000). -/
abbrev qenDbInvalidCnt : Nat := 0x300044
/-- QEN_PRP_ERR_CNT (RO, reset 0x00000000). -/
abbrev qenPrpErrCnt : Nat := 0x300048
/-- QEN_SGL_ERR_CNT (RO, reset 0x00000000). -/
abbrev qenSglErrCnt : Nat := 0x30004C
/-- QEN_CQ_WAIT_CNT (RO, reset 0x00000000). -/
abbrev qenCqWaitCnt : Nat := 0x300050
/-- QEN_ABORT_CNT (RO, reset 0x00000000). -/
abbrev qenAbortCnt : Nat := 0x300054
/-- HIU_SEL (RW, reset 0x00000000). -/
abbrev hiuSel : Nat := 0x301000
/-- HIU_HOLDOFF (RW, reset 0x00000000). -/
abbrev hiuHoldoff : Nat := 0x301004
/-- HIU_MSG_CNT (RO, reset 0x00000000). -/
abbrev hiuMsgCnt : Nat := 0x301008
/-- HIU_DEFER_CNT (RO, reset 0x00000000). -/
abbrev hiuDeferCnt : Nat := 0x30100C
/-- HIU_MASKED_CNT (RO, reset 0x00000000). -/
abbrev hiuMaskedCnt : Nat := 0x301010
/-- TCY_STATUS (RO, reset 0x00000000). -/
abbrev tcyStatus : Nat := 0xA00000
/-- TCY_EVENT (W1C, reset 0x00000000). -/
abbrev tcyEvent : Nat := 0xA00004
/-- TCY_EVENT_EN (RW, reset 0x00000000). -/
abbrev tcyEventEn : Nat := 0xA00008
/-- TCY_SLOT_SEL (RW, reset 0x00000000). -/
abbrev tcySlotSel : Nat := 0xA00010
/-- TCY_SLOT_STATE (RO, reset 0x00000000). -/
abbrev tcySlotState : Nat := 0xA00014
/-- TCY_SLOT_KCV_LO (RO, reset 0x00000000). -/
abbrev tcySlotKcvLo : Nat := 0xA00018
/-- TCY_SLOT_KCV_HI (RO, reset 0x00000000). -/
abbrev tcySlotKcvHi : Nat := 0xA0001C
/-- TCY_ENC_CNT (RO, reset 0x00000000). -/
abbrev tcyEncCnt : Nat := 0xA00040
/-- TCY_DEC_CNT (RO, reset 0x00000000). -/
abbrev tcyDecCnt : Nat := 0xA00044
/-- TCY_ERASE_CNT (RO, reset 0x00000000). -/
abbrev tcyEraseCnt : Nat := 0xA00048
/-- TCY_UNWRAP_FAIL_CNT (RO, reset 0x00000000). -/
abbrev tcyUnwrapFailCnt : Nat := 0xA0004C
/-- MTR_CTL (RW, reset 0x00000000). -/
abbrev mtrCtl : Nat := 0xB00000
/-- MTR_STATUS (RO, reset 0x00000000). -/
abbrev mtrStatus : Nat := 0xB00004
/-- MTR_EVENT (W1C, reset 0x00000000). -/
abbrev mtrEvent : Nat := 0xB00008
/-- MTR_EVENT_EN (RW, reset 0x00000000). -/
abbrev mtrEventEn : Nat := 0xB0000C
/-- MTR_RING_BASE_LO (RW, reset 0x00000000). -/
abbrev mtrRingBaseLo : Nat := 0xB00010
/-- MTR_RING_BASE_HI (RW, reset 0x00000000). -/
abbrev mtrRingBaseHi : Nat := 0xB00014
/-- MTR_RING_SIZE (RW, reset 0x0000000D). -/
abbrev mtrRingSize : Nat := 0xB00018
/-- MTR_RING_PROD (RO, reset 0x00000000). -/
abbrev mtrRingProd : Nat := 0xB0001C
/-- MTR_RING_CONS (RW, reset 0x00000000). -/
abbrev mtrRingCons : Nat := 0xB00020
/-- MTR_LAST_MINUTE_LO (RO, reset 0x00000000). -/
abbrev mtrLastMinuteLo : Nat := 0xB00024
/-- MTR_LAST_MINUTE_HI (RO, reset 0x00000000). -/
abbrev mtrLastMinuteHi : Nat := 0xB00028
/-- MTR_ARCH_CONS_LO (RW, reset 0x00000000). -/
abbrev mtrArchConsLo : Nat := 0xB0002C
/-- MTR_ARCH_CONS_HI (RW, reset 0x00000000). -/
abbrev mtrArchConsHi : Nat := 0xB00030
/-- MTR_RING_DROP_CNT (RO, reset 0x00000000). -/
abbrev mtrRingDropCnt : Nat := 0xB00040
/-- MTR_SIGN_CNT (RO, reset 0x00000000). -/
abbrev mtrSignCnt : Nat := 0xB00044
/-- MTR_CHAIN_RESTART_CNT (RO, reset 0x00000000). -/
abbrev mtrChainRestartCnt : Nat := 0xB00048
/-- SEC_STATUS (RO, reset 0x00000000). -/
abbrev secStatus : Nat := 0xC00000
/-- SEC_EVENT (W1C, reset 0x00000000). -/
abbrev secEvent : Nat := 0xC00004
/-- SEC_EVENT_EN (RW, reset 0x00000000). -/
abbrev secEventEn : Nat := 0xC00008
/-- SEC_FW_VERSION (RO, reset 0x00000000). -/
abbrev secFwVersion : Nat := 0xC0000C
/-- SEC_SERIAL_LO (RO, reset 0x00000000). -/
abbrev secSerialLo : Nat := 0xC00010
/-- SEC_SERIAL_HI (RO, reset 0x00000000). -/
abbrev secSerialHi : Nat := 0xC00014
/-- SEC_AUTH_FAIL_CNT (RO, reset 0x00000000). -/
abbrev secAuthFailCnt : Nat := 0xC00040
/-- SEC_SESSION_CNT (RO, reset 0x00000000). -/
abbrev secSessionCnt : Nat := 0xC00044
/-- SEC_REQ_REFUSED_CNT (RO, reset 0x00000000). -/
abbrev secReqRefusedCnt : Nat := 0xC00048
/-- SEC_BOOT_FAIL_CNT (RO, reset 0x00000000). -/
abbrev secBootFailCnt : Nat := 0xC0004C
/-- MLK_CTL (RW, reset 0x00000009). -/
abbrev mlkCtl : Nat := 0xD00000
/-- MLK_STATUS (RO, reset 0x00000000). -/
abbrev mlkStatus : Nat := 0xD00004
/-- MLK_EVENT (W1C, reset 0x00000000). -/
abbrev mlkEvent : Nat := 0xD00008
/-- MLK_EVENT_EN (RW, reset 0x00000000). -/
abbrev mlkEventEn : Nat := 0xD0000C
/-- MLK_PAIR_STATE (RO, reset 0x00000000). -/
abbrev mlkPairState : Nat := 0xD00010
/-- MLK_CMD (WO, reset 0x00000000). -/
abbrev mlkCmd : Nat := 0xD00014
/-- MLK_GRACE (RW, reset 0x00000014). -/
abbrev mlkGrace : Nat := 0xD00018
/-- MLK_TX_SEQ (RO, reset 0x00000000). -/
abbrev mlkTxSeq : Nat := 0xD0001C
/-- MLK_RX_SEQ (RO, reset 0x00000000). -/
abbrev mlkRxSeq : Nat := 0xD00020
/-- MLK_REPLAY_DEPTH (RO, reset 0x00000000). -/
abbrev mlkReplayDepth : Nat := 0xD00024
/-- MLK_CREDIT_SEL (RW, reset 0x00000000). -/
abbrev mlkCreditSel : Nat := 0xD00028
/-- MLK_CREDIT_HDR (RO, reset 0x00000000). -/
abbrev mlkCreditHdr : Nat := 0xD0002C
/-- MLK_CREDIT_DATA (RO, reset 0x00000000). -/
abbrev mlkCreditData : Nat := 0xD00030
/-- MLK_PARTNER_SERIAL_LO (RO, reset 0x00000000). -/
abbrev mlkPartnerSerialLo : Nat := 0xD00034
/-- MLK_PARTNER_SERIAL_HI (RO, reset 0x00000000). -/
abbrev mlkPartnerSerialHi : Nat := 0xD00038
/-- MLK_NS_SEL (RW, reset 0x00000000). -/
abbrev mlkNsSel : Nat := 0xD0003C
/-- MLK_NS_STATE (RO, reset 0x00000000). -/
abbrev mlkNsState : Nat := 0xD00040
/-- MLK_BLOB_SEL (RW, reset 0x00000000). -/
abbrev mlkBlobSel : Nat := 0xD00044
/-- MLK_BLOB_STATUS (RO, reset 0x00000000). -/
abbrev mlkBlobStatus : Nat := 0xD00048
/-- MLK_BLOB_CTL (WO, reset 0x00000000). -/
abbrev mlkBlobCtl : Nat := 0xD0004C
/-- MLK_RESYNC_STATUS (RO, reset 0x00000000). -/
abbrev mlkResyncStatus : Nat := 0xD00050
/-- MLK_RESYNC_SHARE (RW, reset 0x00000040). -/
abbrev mlkResyncShare : Nat := 0xD00054
/-- MLK_EYE_SEL (RW, reset 0x00000000). -/
abbrev mlkEyeSel : Nat := 0xD00058
/-- MLK_EYE_RESULT (RO, reset 0x00000000). -/
abbrev mlkEyeResult : Nat := 0xD0005C
/-- MLK_FEC_CORR_CNT (RO, reset 0x00000000). -/
abbrev mlkFecCorrCnt : Nat := 0xD00080
/-- MLK_CRC_FAIL_CNT (RO, reset 0x00000000). -/
abbrev mlkCrcFailCnt : Nat := 0xD00084
/-- MLK_NAK_CNT (RO, reset 0x00000000). -/
abbrev mlkNakCnt : Nat := 0xD00088
/-- MLK_REPLAY_CNT (RO, reset 0x00000000). -/
abbrev mlkReplayCnt : Nat := 0xD0008C
/-- MLK_DUP_DROP_CNT (RO, reset 0x00000000). -/
abbrev mlkDupDropCnt : Nat := 0xD00090
/-- MLK_BAD_MSG_CNT (RO, reset 0x00000000). -/
abbrev mlkBadMsgCnt : Nat := 0xD00094
/-- MLK_SPILL_CNT (RO, reset 0x00000000). -/
abbrev mlkSpillCnt : Nat := 0xD00098
/-- MLK_RETRAIN_CNT (RO, reset 0x00000000). -/
abbrev mlkRetrainCnt : Nat := 0xD0009C
/-- MLK_RESET_CNT (RO, reset 0x00000000). -/
abbrev mlkResetCnt : Nat := 0xD000A0
/-- MLK_LINK_DOWN_CNT (RO, reset 0x00000000). -/
abbrev mlkLinkDownCnt : Nat := 0xD000A4
/-- MLK_PARTNER_LOST_CNT (RO, reset 0x00000000). -/
abbrev mlkPartnerLostCnt : Nat := 0xD000A8
/-- MLK_HB_MISS_CNT (RO, reset 0x00000000). -/
abbrev mlkHbMissCnt : Nat := 0xD000AC
/-- MLK_RESYNC_UNIT_CNT (RO, reset 0x00000000). -/
abbrev mlkResyncUnitCnt : Nat := 0xD000B0
/-- MLK_SPLIT_CNT (RO, reset 0x00000000). -/
abbrev mlkSplitCnt : Nat := 0xD000B4
/-- MLK_JOIN_REFUSED_CNT (RO, reset 0x00000000). -/
abbrev mlkJoinRefusedCnt : Nat := 0xD000B8
/-- DDR_STATUS (RO, reset 0x00000000). -/
abbrev ddrStatus : Nat := 0xE00000
/-- DDR_EVENT (W1C, reset 0x00000000). -/
abbrev ddrEvent : Nat := 0xE00004
/-- DDR_EVENT_EN (RW, reset 0x00000000). -/
abbrev ddrEventEn : Nat := 0xE00008
/-- DDR_PATROL_PERIOD (RW, reset 0x00000018). -/
abbrev ddrPatrolPeriod : Nat := 0xE0000C
/-- DDR_CE_CNT (RO, reset 0x00000000). -/
abbrev ddrCeCnt : Nat := 0xE00010
/-- DDR_UE_CNT (RO, reset 0x00000000). -/
abbrev ddrUeCnt : Nat := 0xE00014
/-- DDR_ERR_ADDR_LO (RO, reset 0x00000000). -/
abbrev ddrErrAddrLo : Nat := 0xE00018
/-- DDR_ERR_ADDR_HI (RO, reset 0x00000000). -/
abbrev ddrErrAddrHi : Nat := 0xE0001C
/-- DDR_PATROL_CNT (RO, reset 0x00000000). -/
abbrev ddrPatrolCnt : Nat := 0xE00020
/-- EVC_CTL (RW, reset 0x00000801). -/
abbrev evcCtl : Nat := 0xF00000
/-- EVC_RING (WO, reset 0x00000000). -/
abbrev evcRing : Nat := 0xF00010
/-- EVC_UNPEND (WO, reset 0x00000000). -/
abbrev evcUnpend : Nat := 0xF00014
/-- EVC_CORE_STATE (RO, reset 0x0000003F). -/
abbrev evcCoreState : Nat := 0xF00018
/-- EVC_RING_CNT (RO, reset 0x00000000). -/
abbrev evcRingCnt : Nat := 0xF00040
/-- EVC_RING_DROP_CNT (RO, reset 0x00000000). -/
abbrev evcRingDropCnt : Nat := 0xF00044
/-- EVC_MERGE_CNT (RO, reset 0x00000000). -/
abbrev evcMergeCnt : Nat := 0xF00048
/-- EVC_STACK_FAULT_CNT (RO, reset 0x00000000). -/
abbrev evcStackFaultCnt : Nat := 0xF0004C
/-- EVC_WDOG_CNT (RO, reset 0x00000000). -/
abbrev evcWdogCnt : Nat := 0xF00050
/-- EVC_ACCESS_FAULT_CNT (RO, reset 0x00000000). -/
abbrev evcAccessFaultCnt : Nat := 0xF00054
/-- AOW_STATUS (RO, reset 0x00000000). -/
abbrev aowStatus : Nat := 0x1000000
/-- AOW_WAKE_EN (RW, reset 0x00000000). -/
abbrev aowWakeEn : Nat := 0x1000004
/-- AOW_PIN_EN (RW, reset 0x00000000). -/
abbrev aowPinEn : Nat := 0x1000008
/-- AOW_PIN_POL (RW, reset 0x00000000). -/
abbrev aowPinPol : Nat := 0x100000C
/-- AOW_WAKE_CAUSE (W1C, reset 0x00000000). -/
abbrev aowWakeCause : Nat := 0x1000010
/-- AOW_PIN_CAUSE (W1C, reset 0x00000000). -/
abbrev aowPinCause : Nat := 0x1000014
/-- AOW_ALARM (RW, reset 0x00000000). -/
abbrev aowAlarm : Nat := 0x1000018
/-- AOW_AO_COUNT_LO (RO, reset 0x00000000). -/
abbrev aowAoCountLo : Nat := 0x100001C
/-- AOW_AO_COUNT_HI (RO, reset 0x00000000). -/
abbrev aowAoCountHi : Nat := 0x1000020
/-- AOW_EVENT (W1C, reset 0x00000000). -/
abbrev aowEvent : Nat := 0x1000024
/-- AOW_EVENT_EN (RW, reset 0x00000000). -/
abbrev aowEventEn : Nat := 0x1000028
/-- AOW_QUIET_CNT (RO, reset 0x00000000). -/
abbrev aowQuietCnt : Nat := 0x1000040
/-- AOW_WAKE_CNT (RO, reset 0x00000000). -/
abbrev aowWakeCnt : Nat := 0x1000044
/-- SDM_STATUS (RO, reset 0x00000000). -/
abbrev sdmStatus : Nat := 0x1100000
/-- LPB_CTL (RW, reset 0x00000000). -/
abbrev lpbCtl : Nat := 0x1200000
/-- LPB_STATUS (RO, reset 0x00000000). -/
abbrev lpbStatus : Nat := 0x1200004
/-- LPB_EVENT (W1C, reset 0x00000000). -/
abbrev lpbEvent : Nat := 0x1200008
/-- LPB_EVENT_EN (RW, reset 0x00000000). -/
abbrev lpbEventEn : Nat := 0x120000C
/-- LPB_CLK_DIV (RW, reset 0x00000014). -/
abbrev lpbClkDiv : Nat := 0x1200010
/-- LPB_WIN_COMMIT (WO, reset 0x00000000). -/
abbrev lpbWinCommit : Nat := 0x1200014
/-- LPB_COMMIT_STATUS (RO, reset 0x00000000). -/
abbrev lpbCommitStatus : Nat := 0x1200018
/-- LPB_CORE_CFG (RW, reset 0x00000FFF). -/
abbrev lpbCoreCfg : Nat := 0x120001C
/-- LPB_UP_BASE_LO (RW, reset 0x00000000). -/
abbrev lpbUpBaseLo : Nat := 0x1200020
/-- LPB_UP_BASE_HI (RW, reset 0x00000000). -/
abbrev lpbUpBaseHi : Nat := 0x1200024
/-- LPB_UP_LOCAL (RW, reset 0x00000000). -/
abbrev lpbUpLocal : Nat := 0x1200028
/-- LPB_UP_SIZE (RW, reset 0x0000000C). -/
abbrev lpbUpSize : Nat := 0x120002C
/-- LPB_IRQ_CFG (RW, reset 0x00000000). -/
abbrev lpbIrqCfg : Nat := 0x1200030
/-- LPB_FAIL_ADDR_LO (RO, reset 0x00000000). -/
abbrev lpbFailAddrLo : Nat := 0x1200040
/-- LPB_FAIL_ADDR_HI (RO, reset 0x00000000). -/
abbrev lpbFailAddrHi : Nat := 0x1200044
/-- LPB_FAIL_INFO (W1C, reset 0x00000000). -/
abbrev lpbFailInfo : Nat := 0x1200048
/-- LPB_POST_FAIL_CNT (RO, reset 0x00000000). -/
abbrev lpbPostFailCnt : Nat := 0x1200080
/-- LPB_FAIL_LOST_CNT (RO, reset 0x00000000). -/
abbrev lpbFailLostCnt : Nat := 0x1200084
/-- LPB_READ_ERR_CNT (RO, reset 0x00000000). -/
abbrev lpbReadErrCnt : Nat := 0x1200088
/-- LPB_ARB_RETRY_CNT (RO, reset 0x00000000). -/
abbrev lpbArbRetryCnt : Nat := 0x120008C
/-- LPB_UP_ERR_CNT (RO, reset 0x00000000). -/
abbrev lpbUpErrCnt : Nat := 0x1200090
/-- LPB_UP_STALE_CNT (RO, reset 0x00000000). -/
abbrev lpbUpStaleCnt : Nat := 0x1200094
/-- LPB_MI_DROP_CNT (RO, reset 0x00000000). -/
abbrev lpbMiDropCnt : Nat := 0x1200098
/-- TLN_CTL (RW, reset 0x00000000). -/
abbrev tlnCtl : Nat := 0x1300000
/-- TLN_STATUS (RO, reset 0x00000000). -/
abbrev tlnStatus : Nat := 0x1300004
/-- TLN_EVENT (W1C, reset 0x00000000). -/
abbrev tlnEvent : Nat := 0x1300008
/-- TLN_EVENT_EN (RW, reset 0x00000000). -/
abbrev tlnEventEn : Nat := 0x130000C
/-- TLN_RING_BASE_LO (RW, reset 0x00000000). -/
abbrev tlnRingBaseLo : Nat := 0x1300010
/-- TLN_RING_BASE_HI (RW, reset 0x00000000). -/
abbrev tlnRingBaseHi : Nat := 0x1300014
/-- TLN_RING_SIZE (RW, reset 0x00000008). -/
abbrev tlnRingSize : Nat := 0x1300018
/-- TLN_RING_PROD (RO, reset 0x00000000). -/
abbrev tlnRingProd : Nat := 0x130001C
/-- TLN_RING_CONS (RW, reset 0x00000000). -/
abbrev tlnRingCons : Nat := 0x1300020
/-- TLN_BUF_PROD (RO, reset 0x00000000). -/
abbrev tlnBufProd : Nat := 0x1300024
/-- TLN_BUF_CONS (RW, reset 0x00000000). -/
abbrev tlnBufCons : Nat := 0x1300028
/-- TLN_XFER_CTL (RW, reset 0x00000000). -/
abbrev tlnXferCtl : Nat := 0x1300030
/-- TLN_XFER_REG (RW, reset 0x00000000). -/
abbrev tlnXferReg : Nat := 0x1300034
/-- TLN_XFER_DATA_LO (RW, reset 0x00000000). -/
abbrev tlnXferDataLo : Nat := 0x1300038
/-- TLN_XFER_DATA_HI (RW, reset 0x00000000). -/
abbrev tlnXferDataHi : Nat := 0x130003C
/-- TLN_XFER_STATUS (RO, reset 0x00000000). -/
abbrev tlnXferStatus : Nat := 0x1300040
/-- TLN_SAMPLE_CNT (RO, reset 0x00000000). -/
abbrev tlnSampleCnt : Nat := 0x1300080
/-- TLN_BAD_SAMPLE_CNT (RO, reset 0x00000000). -/
abbrev tlnBadSampleCnt : Nat := 0x1300084
/-- TLN_SKIP_CNT (RO, reset 0x00000000). -/
abbrev tlnSkipCnt : Nat := 0x1300088
/-- TLN_RECORD_CNT (RO, reset 0x00000000). -/
abbrev tlnRecordCnt : Nat := 0x130008C
/-- TLN_RING_DROP_CNT (RO, reset 0x00000000). -/
abbrev tlnRingDropCnt : Nat := 0x1300090
/-- PWR_STATUS (RO, reset 0x00000000). -/
abbrev pwrStatus : Nat := 0x1400000
/-- PWR_EVENT (W1C, reset 0x00000000). -/
abbrev pwrEvent : Nat := 0x1400004
/-- PWR_EVENT_EN (RW, reset 0x00000000). -/
abbrev pwrEventEn : Nat := 0x1400008
/-- PWR_RESET_CTL (WO, reset 0x00000000). -/
abbrev pwrResetCtl : Nat := 0x140000C
/-- PWR_RESET_CAUSE (RO, reset 0x00000000). -/
abbrev pwrResetCause : Nat := 0x1400010
/-- PWR_BOOT_TIME (RO, reset 0x00000000). -/
abbrev pwrBootTime : Nat := 0x1400014
/-- PWR_RAIL_STATUS (RO, reset 0x00000000). -/
abbrev pwrRailStatus : Nat := 0x1400018
/-- PWR_DOMAIN_SEEN (W1C, reset 0x00000000). -/
abbrev pwrDomainSeen : Nat := 0x1400020
/-- PWR_DOMAIN_SEEN_CH (W1C, reset 0x00000000). -/
abbrev pwrDomainSeenCh : Nat := 0x1400024
/-- PWR_DEVICE_RESET_CNT (RO, reset 0x00000000). -/
abbrev pwrDeviceResetCnt : Nat := 0x1400060
/-- PWR_EVLOG_PROD (RO, reset 0x00000000). -/
abbrev pwrEvlogProd : Nat := 0x1400040
/-- PWR_EVLOG_CONS (RW, reset 0x00000000). -/
abbrev pwrEvlogCons : Nat := 0x1400044
/-- PWR_EVLOG_LOST (RO, reset 0x00000000). -/
abbrev pwrEvlogLost : Nat := 0x1400048
/-- PWR_EVLOG_COALESCE_CNT (RO, reset 0x00000000). -/
abbrev pwrEvlogCoalesceCnt : Nat := 0x140004C
/-- PWR_EVLOG_BASE_LO (RO, reset 0xB2100000). -/
abbrev pwrEvlogBaseLo : Nat := 0x1400050
/-- PWR_EVLOG_BASE_HI (RO, reset 0x00000020). -/
abbrev pwrEvlogBaseHi : Nat := 0x1400054
/-- SPP_CTL (RW, reset 0x00000014). -/
abbrev sppCtl : Nat := 0x1401000
/-- SPP_STATUS (RO, reset 0x00000000). -/
abbrev sppStatus : Nat := 0x1401004
/-- SPP_EVENT (W1C, reset 0x00000000). -/
abbrev sppEvent : Nat := 0x1401008
/-- SPP_EVENT_EN (RW, reset 0x00000000). -/
abbrev sppEventEn : Nat := 0x140100C
/-- SPP_ATTN_TMO (RW, reset 0x00001388). -/
abbrev sppAttnTmo : Nat := 0x1401010
/-- SPP_PRESS_CNT (RO, reset 0x00000000). -/
abbrev sppPressCnt : Nat := 0x1401014
/-- SRM_STATUS (RO, reset 0x00000000). -/
abbrev srmStatus : Nat := 0x1500000
/-- SRM_EVENT (W1C, reset 0x00000000). -/
abbrev srmEvent : Nat := 0x1500004
/-- SRM_EVENT_EN (RW, reset 0x00000000). -/
abbrev srmEventEn : Nat := 0x1500008
/-- SRM_SCRUB_PERIOD (RW, reset 0x00000E10). -/
abbrev srmScrubPeriod : Nat := 0x150000C
/-- SRM_CE_CNT (RO, reset 0x00000000). -/
abbrev srmCeCnt : Nat := 0x1500010
/-- SRM_UE_CNT (RO, reset 0x00000000). -/
abbrev srmUeCnt : Nat := 0x1500014
/-- SRM_ERR_ADDR (RO, reset 0x00000000). -/
abbrev srmErrAddr : Nat := 0x1500018
/-- MCH_CH_CTL, indexed (R647). -/
abbrev mchChCtl (i : Nat) : Nat := 0x600000 + 0x4000 * (i % 32)
/-- MCH_CH_STATUS, indexed (R647). -/
abbrev mchChStatus (i : Nat) : Nat := 0x600004 + 0x4000 * (i % 32)
/-- MCH_CH_DIE_LOST, indexed (R647). -/
abbrev mchChDieLost (i : Nat) : Nat := 0x600008 + 0x4000 * (i % 32)
/-- MCH_CH_TIMEOUT_CNT, indexed (R647). -/
abbrev mchChTimeoutCnt (i : Nat) : Nat := 0x60000C + 0x4000 * (i % 32)
/-- MCH_CH_SUSPEND_CNT, indexed (R647). -/
abbrev mchChSuspendCnt (i : Nat) : Nat := 0x600010 + 0x4000 * (i % 32)
/-- MCH_CH_SUSPEND_REFUSE_CNT, indexed (R647). -/
abbrev mchChSuspendRefuseCnt (i : Nat) : Nat := 0x600014 + 0x4000 * (i % 32)
/-- MCH_CH_RETRAIN_CNT, indexed (R647). -/
abbrev mchChRetrainCnt (i : Nat) : Nat := 0x600018 + 0x4000 * (i % 32)
/-- MCH_CH_EXCURSION_CNT, indexed (R647). -/
abbrev mchChExcursionCnt (i : Nat) : Nat := 0x60001C + 0x4000 * (i % 32)
/-- MCH_CH_DIE_TEMPn of channel `c`, die `d`. -/
abbrev mchChDieTemp (c d : Nat) : Nat := 0x600100 + 0x4000 * (c % 32) + 4 * (d % 16)
/-- MCH_CH_DIE_STATEn of channel `c`, die `d`. -/
abbrev mchChDieState (c d : Nat) : Nat := 0x600200 + 0x4000 * (c % 32) + 4 * (d % 16)
/-- EVC_CORE_CLAIM, indexed (R647). -/
abbrev evcCoreClaim (i : Nat) : Nat := 0xF00100 + 0x20 * (i % 8)
/-- EVC_CORE_COMPLETE, indexed (R647). -/
abbrev evcCoreComplete (i : Nat) : Nat := 0xF00104 + 0x20 * (i % 8)
/-- EVC_CORE_STACK, indexed (R647). -/
abbrev evcCoreStack (i : Nat) : Nat := 0xF00108 + 0x20 * (i % 8)
/-- EVC_CORE_FAULT, indexed (R647). -/
abbrev evcCoreFault (i : Nat) : Nat := 0xF0010C + 0x20 * (i % 8)
/-- EVC_CORE_STACK_RESET, indexed (R647). -/
abbrev evcCoreStackReset (i : Nat) : Nat := 0xF00110 + 0x20 * (i % 8)
/-- EVC_CORE_NMI_VEC, indexed (R647). -/
abbrev evcCoreNmiVec (i : Nat) : Nat := 0xF00114 + 0x20 * (i % 8)
/-- EVC_CORE_WDOG, indexed (R647). -/
abbrev evcCoreWdog (i : Nat) : Nat := 0xF00118 + 0x20 * (i % 8)
/-- EVC_CORE_FAULT_ADDR, indexed (R647). -/
abbrev evcCoreFaultAddr (i : Nat) : Nat := 0xF0011C + 0x20 * (i % 8)
/-- EVC_HOLDOFF, indexed (R647). -/
abbrev evcHoldoff (i : Nat) : Nat := 0xF00400 + 0x4 * (i % 64)
/-- EVC_SRC_CFG, indexed (R647). -/
abbrev evcSrcCfg (i : Nat) : Nat := 0xF01000 + 0x4 * (i % 1024)
/-- EVC_SRC_STATUS, indexed (R647). -/
abbrev evcSrcStatus (i : Nat) : Nat := 0xF02000 + 0x4 * (i % 1024)
/-- SDM_PACE_LEVEL, indexed (R647). -/
abbrev sdmPaceLevel (i : Nat) : Nat := 0x1100010 + 0x4 * (i % 4)
/-- SDM_CH_SHADOW_DESC_LO, indexed (R647). -/
abbrev sdmChShadowDescLo (i : Nat) : Nat := 0x1101000 + 0x100 * (i % 8)
/-- SDM_CH_SHADOW_DESC_HI, indexed (R647). -/
abbrev sdmChShadowDescHi (i : Nat) : Nat := 0x1101004 + 0x100 * (i % 8)
/-- SDM_CH_SHADOW_CFG, indexed (R647). -/
abbrev sdmChShadowCfg (i : Nat) : Nat := 0x1101008 + 0x100 * (i % 8)
/-- SDM_CH_SHADOW_PACE, indexed (R647). -/
abbrev sdmChShadowPace (i : Nat) : Nat := 0x110100C + 0x100 * (i % 8)
/-- SDM_CH_ARM, indexed (R647). -/
abbrev sdmChArm (i : Nat) : Nat := 0x1101010 + 0x100 * (i % 8)
/-- SDM_CH_CMD, indexed (R647). -/
abbrev sdmChCmd (i : Nat) : Nat := 0x1101014 + 0x100 * (i % 8)
/-- SDM_CH_STATUS, indexed (R647). -/
abbrev sdmChStatus (i : Nat) : Nat := 0x1101018 + 0x100 * (i % 8)
/-- SDM_CH_FLAGS, indexed (R647). -/
abbrev sdmChFlags (i : Nat) : Nat := 0x110101C + 0x100 * (i % 8)
/-- SDM_CH_CUR_DESC_LO, indexed (R647). -/
abbrev sdmChCurDescLo (i : Nat) : Nat := 0x1101020 + 0x100 * (i % 8)
/-- SDM_CH_CUR_DESC_HI, indexed (R647). -/
abbrev sdmChCurDescHi (i : Nat) : Nat := 0x1101024 + 0x100 * (i % 8)
/-- SDM_CH_REMAIN, indexed (R647). -/
abbrev sdmChRemain (i : Nat) : Nat := 0x1101028 + 0x100 * (i % 8)
/-- SDM_CH_MISMATCH, indexed (R647). -/
abbrev sdmChMismatch (i : Nat) : Nat := 0x110102C + 0x100 * (i % 8)
/-- SDM_CH_ACTIVE_CFG, indexed (R647). -/
abbrev sdmChActiveCfg (i : Nat) : Nat := 0x1101030 + 0x100 * (i % 8)
/-- SDM_CH_ACTIVE_PACE, indexed (R647). -/
abbrev sdmChActivePace (i : Nat) : Nat := 0x1101034 + 0x100 * (i % 8)
/-- SDM_CH_HANDOVER_CNT, indexed (R647). -/
abbrev sdmChHandoverCnt (i : Nat) : Nat := 0x1101040 + 0x100 * (i % 8)
/-- SDM_CH_DESC_CNT, indexed (R647). -/
abbrev sdmChDescCnt (i : Nat) : Nat := 0x1101044 + 0x100 * (i % 8)
/-- SDM_CH_ERR_CNT, indexed (R647). -/
abbrev sdmChErrCnt (i : Nat) : Nat := 0x1101048 + 0x100 * (i % 8)
/-- LPB_WIN_SHADOW_BASE, indexed (R647). -/
abbrev lpbWinShadowBase (i : Nat) : Nat := 0x1200100 + 0x20 * (i % 8)
/-- LPB_WIN_SHADOW_LIMIT, indexed (R647). -/
abbrev lpbWinShadowLimit (i : Nat) : Nat := 0x1200104 + 0x20 * (i % 8)
/-- LPB_WIN_SHADOW_TRANS, indexed (R647). -/
abbrev lpbWinShadowTrans (i : Nat) : Nat := 0x1200108 + 0x20 * (i % 8)
/-- LPB_WIN_SHADOW_CFG, indexed (R647). -/
abbrev lpbWinShadowCfg (i : Nat) : Nat := 0x120010C + 0x20 * (i % 8)
/-- LPB_WIN_BASE, indexed (R647). -/
abbrev lpbWinBase (i : Nat) : Nat := 0x1200110 + 0x20 * (i % 8)
/-- LPB_WIN_LIMIT, indexed (R647). -/
abbrev lpbWinLimit (i : Nat) : Nat := 0x1200114 + 0x20 * (i % 8)
/-- LPB_WIN_TRANS, indexed (R647). -/
abbrev lpbWinTrans (i : Nat) : Nat := 0x1200118 + 0x20 * (i % 8)
/-- LPB_WIN_CFG, indexed (R647). -/
abbrev lpbWinCfg (i : Nat) : Nat := 0x120011C + 0x20 * (i % 8)
/-- TLN_REC_CFG, indexed (R647). -/
abbrev tlnRecCfg (i : Nat) : Nat := 0x1300100 + 0x4 * (i % 32)
/-- TLN_SAMPLE_CFG, indexed (R647). -/
abbrev tlnSampleCfg (i : Nat) : Nat := 0x1300200 + 0x8 * (i % 64)
/-- TLN_SAMPLE_REG, indexed (R647). -/
abbrev tlnSampleReg (i : Nat) : Nat := 0x1300204 + 0x8 * (i % 64)
/-- TLN_MAP_SRC, indexed (R647). -/
abbrev tlnMapSrc (i : Nat) : Nat := 0x1301000 + 0x10 * (i % 256)
/-- TLN_MAP_SCALE, indexed (R647). -/
abbrev tlnMapScale (i : Nat) : Nat := 0x1301004 + 0x10 * (i % 256)
/-- TLN_MAP_OFFSET, indexed (R647). -/
abbrev tlnMapOffset (i : Nat) : Nat := 0x1301008 + 0x10 * (i % 256)
/-- TLN_MAP_DEST, indexed (R647). -/
abbrev tlnMapDest (i : Nat) : Nat := 0x130100C + 0x10 * (i % 256)
/-- TLN_MAP_VALUE, indexed (R647). -/
abbrev tlnMapValue (i : Nat) : Nat := 0x1303000 + 0x4 * (i % 256)
/-- TLN_LARVIS, indexed (R647). -/
abbrev tlnLarvis (i : Nat) : Nat := 0x1304000 + 0x4 * (i % 1024)
/-- SRM_PARTp (Table 1-4). -/
abbrev srmPart (p : Nat) : Nat := 0x1500040 + 4 * (p % 8)
end Reg

/-- Who may write a register (R136, R540, R552, R563): anyone, the control cores, service cores 4 and 5, the owner of
an SDM channel, or a per-core register's own core. -/
inductive Writer where
  | any | core | service | sdm | own
deriving DecidableEq, Repr

/-- One row of the register map: `count` registers from `first` at `stride`, each repeated `count2` times at
`stride2` (R647); the reset value; the bits that store what is written (RW), that clear on a written 1 (W1C), that
read undefined (RsvdP, Table 0-2); and who may write. -/
structure RegDef where
  first   : Nat
  stride  : Nat := 0
  count   : Nat := 1
  stride2 : Nat := 0
  count2  : Nat := 1
  reset   : Word := 0
  rw      : Word := 0
  w1c     : Word := 0
  rsvdp   : Word := 0
  writer  : Writer := .any
deriving DecidableEq, Repr

/-- The reset value of the register at a BAR2 offset; 0 for every register Table 17-2 gives no other (R646). -/
def resetOf (off : Nat) : Word :=
  if off = 0x10000C then 0xA0040 else -- HPT_PM_CTL
  if off = 0x200000 then 0x1 else -- FNM_CTL
  if off = 0x200010 then 0x505 else -- FNM_DEFAULT_RES
  if off = 0x200014 then 0x1 else -- FNM_VF_SEL
  if off = 0x300010 then 0x9000 else -- QEN_POOL_VQ_FREE
  if off = 0x300014 then 0x10FBF else -- QEN_POOL_VI_FREE
  if off = 0x400000 then 0x1 else -- FTB_CTL
  if off = 0x40003C then 0x64 else -- FTB_FSYNC_TOL
  if off = 0x500000 then 0x1 else -- PRX_CTL
  if off = 0x700000 then 0x7 else -- RDP_CTL
  if off = 0x700010 then 0xC350 else -- RDP_AROUND_TMO
  if off = 0x700014 then 0x3 else -- RDP_SOFT_CTL
  if off = 0x800018 then 0x1800 else -- WRP_MIRROR_RESERVE
  if off = 0x80001C then 0x32 else -- WRP_STRIPE_TMO
  if off = 0x800028 then 0x1 else -- WRP_DUMP_CTL
  if off = 0x900000 then 0x1F else -- MCR_CTL
  if off = 0x900010 then 0x30810 else -- MCR_GC_FREE
  if off = 0x900018 then 0x1000040 else -- MCR_GC_LIMIT
  if off = 0x90001C then 0x100 else -- MCR_WA_MEAS
  if off = 0x900024 then 0x10000 else -- MCR_GC_FACTOR
  if off = 0x900028 then 0x100 else -- MCR_BE_WRITE_CAP
  if off = 0x90002C then 0xA8 else -- MCR_SCRUB_PERIOD
  if off = 0x900030 then 0xE10 else -- MCR_CAL_PERIOD
  if off = 0x900034 then 0xC8 else -- MCR_WL_DELTA
  if off = 0x900038 then 0xA else -- MCR_SPARE_LOW
  if off = 0x900050 then 0x1E0040 else -- MCR_HOLDUP_TEST
  if off = 0xB00018 then 0xD else -- MTR_RING_SIZE
  if off = 0xD00000 then 0x9 else -- MLK_CTL
  if off = 0xD00018 then 0x14 else -- MLK_GRACE
  if off = 0xD00054 then 0x40 else -- MLK_RESYNC_SHARE
  if off = 0xE0000C then 0x18 else -- DDR_PATROL_PERIOD
  if off = 0xF00000 then 0x801 else -- EVC_CTL
  if off = 0xF00018 then 0x3F else -- EVC_CORE_STATE
  if off = 0x1200010 then 0x14 else -- LPB_CLK_DIV
  if off = 0x120001C then 0xFFF else -- LPB_CORE_CFG
  if off = 0x120002C then 0xC else -- LPB_UP_SIZE
  if off = 0x1300018 then 0x8 else -- TLN_RING_SIZE
  if off = 0x1400050 then 0xB2100000 else -- PWR_EVLOG_BASE_LO
  if off = 0x1400054 then 0x20 else -- PWR_EVLOG_BASE_HI
  if off = 0x1401000 then 0x14 else -- SPP_CTL
  if off = 0x1401010 then 0x1388 else -- SPP_ATTN_TMO
  if off = 0x150000C then 0xE10 else -- SRM_SCRUB_PERIOD
  if off = 0x1500040 then 0x60 else -- SRM_PART0
  if off = 0x1500044 then 0x18 else -- SRM_PART1
  if off = 0x1500048 then 0x10 else -- SRM_PART2
  if off = 0x150004C then 0xC else -- SRM_PART3
  if off = 0x1500050 then 0x8 else -- SRM_PART4
  if off = 0x1500054 then 0x2 else -- SRM_PART5
  if off = 0x1500058 then 0x2 else -- SRM_PART6
  if 0xF01000 ≤ off ∧ off < 0xF02000 then 0xFF else -- EVC_SRC_CFGs
  if 0x1200100 ≤ off ∧ off < 0x1200200 then (if off % 16 = 4 then 0xFFF else if off % 16 = 12 then 0x0FFF0000 else 0) else -- LPB windows
  if 0x1301000 ≤ off ∧ off < 0x1302000 ∧ off % 16 = 4 then 0x10000 else 0 -- TLN_MAPm_SCALE

/-- Rows of the map: FTB. -/
def regsFtb : List RegDef :=
  [ { first := 0x400000, reset := 0x1, rw := 0x7, rsvdp := 0xFFFFFFF8 }
  , { first := 0x400004 }
  , { first := 0x400008, w1c := 0x3FF }
  , { first := 0x40000C, rw := 0x3FF }
  , { first := 0x400010 }
  , { first := 0x400014 }
  , { first := 0x400018 }
  , { first := 0x400020, rw := 0xFFFFFFFF }
  , { first := 0x400024, rw := 0x7F, rsvdp := 0xFFFFFF80 }
  , { first := 0x400028 }
  , { first := 0x400030 }
  , { first := 0x400034 }
  , { first := 0x400038 }
  , { first := 0x40003C, reset := 0x64, rw := 0xFFFF, rsvdp := 0xFFFF0000 }
  , { first := 0x400040 }
  , { first := 0x400044 }
  , { first := 0x400050 }
  , { first := 0x400054 }
  , { first := 0x400058 }
  , { first := 0x40005C }
  , { first := 0x400060 } ]

/-- Rows of the map: PRX. -/
def regsPrx : List RegDef :=
  [ { first := 0x500000, reset := 0x1, rw := 0x1, rsvdp := 0xFFFFFFFE }
  , { first := 0x500004 }
  , { first := 0x500008, w1c := 0x7FF }
  , { first := 0x50000C, rw := 0x7FF }
  , { first := 0x500010 }
  , { first := 0x500014 }
  , { first := 0x500018 }
  , { first := 0x50001C }
  , { first := 0x500020, writer := .core }
  , { first := 0x500024, rw := 0xFFFFFFFF, writer := .core }
  , { first := 0x500028, rw := 0xFFFFFFFF, writer := .core }
  , { first := 0x50002C, rw := 0xFFFFFFFF, writer := .core }
  , { first := 0x500030 }
  , { first := 0x500034 }
  , { first := 0x500038, writer := .core }
  , { first := 0x50003C }
  , { first := 0x500040, rw := 0xFFFFFFFF, writer := .core }
  , { first := 0x500044, rw := 0xFFFF, rsvdp := 0xFFFF0000, writer := .core }
  , { first := 0x500048, writer := .core }
  , { first := 0x50004C }
  , { first := 0x500050 }
  , { first := 0x500054 }
  , { first := 0x500058 }
  , { first := 0x50005C }
  , { first := 0x500060 }
  , { first := 0x500064 }
  , { first := 0x500068 }
  , { first := 0x50006C }
  , { first := 0x500070, rw := 0x11FFF, rsvdp := 0xFFFEE000, writer := .core }
  , { first := 0x500074, writer := .core } ]

/-- Rows of the map: MCH. -/
def regsMch : List RegDef :=
  [ { first := 0x680000 }
  , { first := 0x680004, w1c := 0x7F }
  , { first := 0x680008, rw := 0x7F }
  , { first := 0x68000C }
  , { first := 0x680010 }
  , { first := 0x680014 }
  , { first := 0x680018 }
  , { first := 0x68001C }
  , { first := 0x680020 }
  , { first := 0x680024 } ]

/-- Rows of the map: RDP. -/
def regsRdp : List RegDef :=
  [ { first := 0x700000, reset := 0x7, rw := 0x7, rsvdp := 0xFFFFFFF8, writer := .core }
  , { first := 0x700004 }
  , { first := 0x700008, w1c := 0x3F }
  , { first := 0x70000C, rw := 0x3F }
  , { first := 0x700010, reset := 0xC350, rw := 0xFFFFFF, rsvdp := 0xFF000000, writer := .core }
  , { first := 0x700014, reset := 0x3, rw := 0x7, rsvdp := 0xFFFFFFF8, writer := .core }
  , { first := 0x700018 }
  , { first := 0x70001C }
  , { first := 0x700020 }
  , { first := 0x700024 }
  , { first := 0x700040 }
  , { first := 0x700044 }
  , { first := 0x700048 }
  , { first := 0x70004C }
  , { first := 0x700050 }
  , { first := 0x700054 }
  , { first := 0x700058 }
  , { first := 0x70005C }
  , { first := 0x700060 }
  , { first := 0x700064 }
  , { first := 0x700068 }
  , { first := 0x70006C }
  , { first := 0x700070 }
  , { first := 0x700074 }
  , { first := 0x700078 }
  , { first := 0x70007C }
  , { first := 0x700080 }
  , { first := 0x700084 }
  , { first := 0x700088 } ]

/-- Rows of the map: WRP. -/
def regsWrp : List RegDef :=
  [ { first := 0x800000, rw := 0x3, rsvdp := 0xFFFFFFFC, writer := .core }
  , { first := 0x800004 }
  , { first := 0x800008, w1c := 0x3F }
  , { first := 0x80000C, rw := 0x3F }
  , { first := 0x800010 }
  , { first := 0x800014 }
  , { first := 0x800018, reset := 0x1800, rw := 0xFFFF, rsvdp := 0xFFFF0000, writer := .core }
  , { first := 0x80001C, reset := 0x32, rw := 0xFFFF, rsvdp := 0xFFFF0000, writer := .core }
  , { first := 0x800020, rw := 0xFFF0FFF, rsvdp := 0xF000F000, writer := .core }
  , { first := 0x800024 }
  , { first := 0x800028, reset := 0x1, rw := 0x1, rsvdp := 0xFFFFFFFE, writer := .core }
  , { first := 0x80002C }
  , { first := 0x800030 }
  , { first := 0x800034 }
  , { first := 0x800038 }
  , { first := 0x80003C }
  , { first := 0x800040, writer := .core }
  , { first := 0x800080 }
  , { first := 0x800084 }
  , { first := 0x800088 }
  , { first := 0x80008C }
  , { first := 0x800090 }
  , { first := 0x800094 }
  , { first := 0x800098 }
  , { first := 0x80009C }
  , { first := 0x8000A0 }
  , { first := 0x8000A4 }
  , { first := 0x8000A8 }
  , { first := 0x8000AC }
  , { first := 0x8000B0 }
  , { first := 0x8000B4 } ]

/-- Rows of the map: MCR. -/
def regsMcr : List RegDef :=
  [ { first := 0x900000, reset := 0x1F, rw := 0x1F, rsvdp := 0xFFFFFFE0, writer := .core }
  , { first := 0x900004 }
  , { first := 0x900008, w1c := 0x1FF }
  , { first := 0x90000C, rw := 0x1FF }
  , { first := 0x900010, reset := 0x30810, rw := 0xFFFFFF, rsvdp := 0xFF000000, writer := .core }
  , { first := 0x900014 }
  , { first := 0x900018, reset := 0x1000040, rw := 0xFFFFFFFF, writer := .core }
  , { first := 0x90001C, reset := 0x100 }
  , { first := 0x900020 }
  , { first := 0x900024, reset := 0x10000 }
  , { first := 0x900028, reset := 0x100, rw := 0xFFFF, rsvdp := 0xFFFF0000, writer := .core }
  , { first := 0x90002C, reset := 0xA8, rw := 0xFFFF, rsvdp := 0xFFFF0000, writer := .core }
  , { first := 0x900030, reset := 0xE10, rw := 0xFFFFFF, rsvdp := 0xFF000000, writer := .core }
  , { first := 0x900034, reset := 0xC8, rw := 0xFFFF, rsvdp := 0xFFFF0000, writer := .core }
  , { first := 0x900038, reset := 0xA, rw := 0xFF, rsvdp := 0xFFFFFF00, writer := .core }
  , { first := 0x900040 }
  , { first := 0x900044 }
  , { first := 0x900048 }
  , { first := 0x90004C }
  , { first := 0x900050, reset := 0x1E0040, rw := 0xFF0FFF, rsvdp := 0xFF00F000, writer := .core }
  , { first := 0x900054, rw := 0xFFFFFF, rsvdp := 0xFF000000, writer := .core }
  , { first := 0x900058, rw := 0xFFFF, rsvdp := 0xFFFF0000, writer := .core }
  , { first := 0x900080 }
  , { first := 0x900084 }
  , { first := 0x900088 }
  , { first := 0x90008C }
  , { first := 0x900090 }
  , { first := 0x900094 }
  , { first := 0x900098 }
  , { first := 0x90009C }
  , { first := 0x9000A0 }
  , { first := 0x9000A4 }
  , { first := 0x9000A8 }
  , { first := 0x900100, rw := 0x1FF, rsvdp := 0xFFFFFE00 }
  , { first := 0x900104 }
  , { first := 0x900108 }
  , { first := 0x90010C } ]

/-- Rows of the map: HPT. -/
def regsHpt : List RegDef :=
  [ { first := 0x100000 }
  , { first := 0x100004, w1c := 0x7FF }
  , { first := 0x100008, rw := 0x7FF }
  , { first := 0x10000C, reset := 0xA0040, rw := 0xFF0FFF, rsvdp := 0xFF00F000 }
  , { first := 0x100010 }
  , { first := 0x100014 }
  , { first := 0x100018 }
  , { first := 0x10001C }
  , { first := 0x100040 }
  , { first := 0x100044 }
  , { first := 0x100048 }
  , { first := 0x10004C }
  , { first := 0x100050 }
  , { first := 0x100054 }
  , { first := 0x100058 }
  , { first := 0x10005C }
  , { first := 0x100060 }
  , { first := 0x100064 }
  , { first := 0x100068 }
  , { first := 0x10006C }
  , { first := 0x100070 }
  , { first := 0x100074 }
  , { first := 0x100078 }
  , { first := 0x10007C } ]

/-- Rows of the map: FNM. -/
def regsFnm : List RegDef :=
  [ { first := 0x200000, reset := 0x1, rw := 0x1, rsvdp := 0xFFFFFFFE }
  , { first := 0x200004 }
  , { first := 0x200008, w1c := 0x3FF }
  , { first := 0x20000C, rw := 0x3FF }
  , { first := 0x200010, reset := 0x505, rw := 0xFFFF, rsvdp := 0xFFFF0000 }
  , { first := 0x200014, reset := 0x1, rw := 0x1FFF, rsvdp := 0xFFFFE000 }
  , { first := 0x200018 }
  , { first := 0x20001C }
  , { first := 0x200020 }
  , { first := 0x200024 }
  , { first := 0x200028, rw := 0xFFFFFFFF }
  , { first := 0x20002C, rw := 0xFFFFFFFF }
  , { first := 0x200030, rw := 0x1FFFF, rsvdp := 0xFFFE0000 }
  , { first := 0x200034, rw := 0x1, rsvdp := 0xFFFFFFFE }
  , { first := 0x200038 }
  , { first := 0x20003C }
  , { first := 0x200040 }
  , { first := 0x200044 }
  , { first := 0x200048 }
  , { first := 0x20004C }
  , { first := 0x200050 }
  , { first := 0x200054 }
  , { first := 0x200058 } ]

/-- Rows of the map: QEN. -/
def regsQen : List RegDef :=
  [ { first := 0x300000 }
  , { first := 0x300004, w1c := 0x1F }
  , { first := 0x300008, rw := 0x1F }
  , { first := 0x300010, reset := 0x9000 }
  , { first := 0x300014, reset := 0x10FBF }
  , { first := 0x300040 }
  , { first := 0x300044 }
  , { first := 0x300048 }
  , { first := 0x30004C }
  , { first := 0x300050 }
  , { first := 0x300054 }
  , { first := 0x301000, rw := 0x1FFF, rsvdp := 0xFFFFE000 }
  , { first := 0x301004, rw := 0xFFFF, rsvdp := 0xFFFF0000 }
  , { first := 0x301008 }
  , { first := 0x30100C }
  , { first := 0x301010 } ]

/-- Rows of the map: TCY. -/
def regsTcy : List RegDef :=
  [ { first := 0xA00000 }
  , { first := 0xA00004, w1c := 0x3 }
  , { first := 0xA00008, rw := 0x3 }
  , { first := 0xA00010, rw := 0x3FFF, rsvdp := 0xFFFFC000 }
  , { first := 0xA00014 }
  , { first := 0xA00018 }
  , { first := 0xA0001C }
  , { first := 0xA00040 }
  , { first := 0xA00044 }
  , { first := 0xA00048 }
  , { first := 0xA0004C } ]

/-- Rows of the map: MTR. -/
def regsMtr : List RegDef :=
  [ { first := 0xB00000, rw := 0x1, rsvdp := 0xFFFFFFFE }
  , { first := 0xB00004 }
  , { first := 0xB00008, w1c := 0x7 }
  , { first := 0xB0000C, rw := 0x7 }
  , { first := 0xB00010, rw := 0xFFFFFFFF }
  , { first := 0xB00014, rw := 0xFFFFFFFF }
  , { first := 0xB00018, reset := 0xD, rw := 0x1F, rsvdp := 0xFFFFFFE0 }
  , { first := 0xB0001C }
  , { first := 0xB00020, rw := 0xFFFFF, rsvdp := 0xFFF00000 }
  , { first := 0xB00024 }
  , { first := 0xB00028 }
  , { first := 0xB0002C, rw := 0xFFFFFFFF }
  , { first := 0xB00030, rw := 0xFFFF, rsvdp := 0xFFFF0000 }
  , { first := 0xB00040 }
  , { first := 0xB00044 }
  , { first := 0xB00048 } ]

/-- Rows of the map: SEC. -/
def regsSec : List RegDef :=
  [ { first := 0xC00000 }
  , { first := 0xC00004, w1c := 0xFF }
  , { first := 0xC00008, rw := 0xFF }
  , { first := 0xC0000C }
  , { first := 0xC00010 }
  , { first := 0xC00014 }
  , { first := 0xC00040 }
  , { first := 0xC00044 }
  , { first := 0xC00048 }
  , { first := 0xC0004C } ]

/-- Rows of the map: MLK. -/
def regsMlk : List RegDef :=
  [ { first := 0xD00000, reset := 0x9, rw := 0xB, rsvdp := 0xFFFFFFF4, writer := .core }
  , { first := 0xD00004 }
  , { first := 0xD00008, w1c := 0xFFFF }
  , { first := 0xD0000C, rw := 0xFFFF }
  , { first := 0xD00010 }
  , { first := 0xD00014, writer := .core }
  , { first := 0xD00018, reset := 0x14, rw := 0xFF, rsvdp := 0xFFFFFF00, writer := .core }
  , { first := 0xD0001C }
  , { first := 0xD00020 }
  , { first := 0xD00024 }
  , { first := 0xD00028, rw := 0x7, rsvdp := 0xFFFFFFF8 }
  , { first := 0xD0002C }
  , { first := 0xD00030 }
  , { first := 0xD00034 }
  , { first := 0xD00038 }
  , { first := 0xD0003C, rw := 0x3FFF, rsvdp := 0xFFFFC000 }
  , { first := 0xD00040 }
  , { first := 0xD00044, rw := 0x3, rsvdp := 0xFFFFFFFC }
  , { first := 0xD00048 }
  , { first := 0xD0004C, writer := .core }
  , { first := 0xD00050 }
  , { first := 0xD00054, reset := 0x40, rw := 0xFF, rsvdp := 0xFFFFFF00, writer := .core }
  , { first := 0xD00058, rw := 0xF, rsvdp := 0xFFFFFFF0 }
  , { first := 0xD0005C }
  , { first := 0xD00080 }
  , { first := 0xD00084 }
  , { first := 0xD00088 }
  , { first := 0xD0008C }
  , { first := 0xD00090 }
  , { first := 0xD00094 }
  , { first := 0xD00098 }
  , { first := 0xD0009C }
  , { first := 0xD000A0 }
  , { first := 0xD000A4 }
  , { first := 0xD000A8 }
  , { first := 0xD000AC }
  , { first := 0xD000B0 }
  , { first := 0xD000B4 }
  , { first := 0xD000B8 } ]

/-- Rows of the map: DDR. -/
def regsDdr : List RegDef :=
  [ { first := 0xE00000 }
  , { first := 0xE00004, w1c := 0x1F }
  , { first := 0xE00008, rw := 0x1F }
  , { first := 0xE0000C, reset := 0x18, rw := 0xFFFF, rsvdp := 0xFFFF0000, writer := .core }
  , { first := 0xE00010 }
  , { first := 0xE00014 }
  , { first := 0xE00018 }
  , { first := 0xE0001C }
  , { first := 0xE00020 } ]

/-- Rows of the map: EVC. -/
def regsEvc : List RegDef :=
  [ { first := 0xF00000, reset := 0x801, rw := 0xF01, rsvdp := 0xFFFFF0FE, writer := .core }
  , { first := 0xF00010 }
  , { first := 0xF00014, writer := .core }
  , { first := 0xF00018, reset := 0x3F }
  , { first := 0xF00040 }
  , { first := 0xF00044 }
  , { first := 0xF00048 }
  , { first := 0xF0004C }
  , { first := 0xF00050 }
  , { first := 0xF00054 } ]

/-- Rows of the map: AOW. -/
def regsAow : List RegDef :=
  [ { first := 0x1000000 }
  , { first := 0x1000004, rw := 0xF, rsvdp := 0xFFFFFFF0 }
  , { first := 0x1000008, rw := 0x1FFFFF, rsvdp := 0xFFE00000 }
  , { first := 0x100000C, rw := 0x1FFFFF, rsvdp := 0xFFE00000 }
  , { first := 0x1000010, w1c := 0xF }
  , { first := 0x1000014, w1c := 0x1FFFFF }
  , { first := 0x1000018, rw := 0xFFFFFFFF }
  , { first := 0x100001C }
  , { first := 0x1000020 }
  , { first := 0x1000024, w1c := 0x3 }
  , { first := 0x1000028, rw := 0x3 }
  , { first := 0x1000040 }
  , { first := 0x1000044 } ]

/-- Rows of the map: SDM. -/
def regsSdm : List RegDef :=
  [ { first := 0x1100000 } ]

/-- Rows of the map: LPB. -/
def regsLpb : List RegDef :=
  [ { first := 0x1200000, rw := 0x7F, rsvdp := 0xFFFFFF80 }
  , { first := 0x1200004 }
  , { first := 0x1200008, w1c := 0xFF }
  , { first := 0x120000C, rw := 0xFF }
  , { first := 0x1200010, reset := 0x14, rw := 0xFF, rsvdp := 0xFFFFFF00 }
  , { first := 0x1200014, writer := .service }
  , { first := 0x1200018 }
  , { first := 0x120001C, reset := 0xFFF, rw := 0x3FFF, rsvdp := 0xFFFFC000, writer := .service }
  , { first := 0x1200020, rw := 0xFFFFF000, rsvdp := 0xFFF, writer := .service }
  , { first := 0x1200024, rw := 0xFFFFFFFF, writer := .service }
  , { first := 0x1200028, rw := 0xFFFFF000, rsvdp := 0xFFF, writer := .service }
  , { first := 0x120002C, reset := 0xC, rw := 0x8000003F, rsvdp := 0x7FFFFFC0, writer := .service }
  , { first := 0x1200030, rw := 0xFFFFFFFF }
  , { first := 0x1200040 }
  , { first := 0x1200044 }
  , { first := 0x1200048, w1c := 0x80000000 }
  , { first := 0x1200080 }
  , { first := 0x1200084 }
  , { first := 0x1200088 }
  , { first := 0x120008C }
  , { first := 0x1200090 }
  , { first := 0x1200094 }
  , { first := 0x1200098 } ]

/-- Rows of the map: TLN. -/
def regsTln : List RegDef :=
  [ { first := 0x1300000, rw := 0x7, rsvdp := 0xFFFFFFF8 }
  , { first := 0x1300004 }
  , { first := 0x1300008, w1c := 0x1F }
  , { first := 0x130000C, rw := 0x1F }
  , { first := 0x1300010, rw := 0xFFFFFFFF }
  , { first := 0x1300014, rw := 0xFFFFFFFF }
  , { first := 0x1300018, reset := 0x8, rw := 0x1F, rsvdp := 0xFFFFFFE0 }
  , { first := 0x130001C }
  , { first := 0x1300020, rw := 0xFFFF, rsvdp := 0xFFFF0000 }
  , { first := 0x1300024 }
  , { first := 0x1300028, rw := 0x3FFFF, rsvdp := 0xFFFC0000 }
  , { first := 0x1300030, rw := 0x8001FFFF, rsvdp := 0x7FFE0000 }
  , { first := 0x1300034, rw := 0xFFFF, rsvdp := 0xFFFF0000 }
  , { first := 0x1300038, rw := 0xFFFFFFFF }
  , { first := 0x130003C, rw := 0xFFFFFFFF }
  , { first := 0x1300040 }
  , { first := 0x1300080 }
  , { first := 0x1300084 }
  , { first := 0x1300088 }
  , { first := 0x130008C }
  , { first := 0x1300090 } ]

/-- Rows of the map: PWR. -/
def regsPwr : List RegDef :=
  [ { first := 0x1400000 }
  , { first := 0x1400004, w1c := 0x1F }
  , { first := 0x1400008, rw := 0x1F }
  , { first := 0x140000C, writer := .core }
  , { first := 0x1400010 }
  , { first := 0x1400014 }
  , { first := 0x1400018 }
  , { first := 0x1400020, w1c := 0x7FF }
  , { first := 0x1400024, w1c := 0xFFFFFFFF }
  , { first := 0x1400060 }
  , { first := 0x1400040 }
  , { first := 0x1400044, rw := 0xFFFFFFFF }
  , { first := 0x1400048 }
  , { first := 0x140004C }
  , { first := 0x1400050, reset := 0xB2100000 }
  , { first := 0x1400054, reset := 0x20 } ]

/-- Rows of the map: SPP. -/
def regsSpp : List RegDef :=
  [ { first := 0x1401000, reset := 0x14, rw := 0x3F, rsvdp := 0xFFFFFEC0 }
  , { first := 0x1401004 }
  , { first := 0x1401008, w1c := 0xF }
  , { first := 0x140100C, rw := 0xF }
  , { first := 0x1401010, reset := 0x1388, rw := 0xFFFF, rsvdp := 0xFFFF0000 }
  , { first := 0x1401014 } ]

/-- Rows of the map: SRM. -/
def regsSrm : List RegDef :=
  [ { first := 0x1500000 }
  , { first := 0x1500004, w1c := 0x7 }
  , { first := 0x1500008, rw := 0x7 }
  , { first := 0x150000C, reset := 0xE10, rw := 0xFFFF, rsvdp := 0xFFFF0000, writer := .core }
  , { first := 0x1500010 }
  , { first := 0x1500014 }
  , { first := 0x1500018 }
  , { first := 0x1500040, reset := 0x60 }
  , { first := 0x1500044, reset := 0x18 }
  , { first := 0x1500048, reset := 0x10 }
  , { first := 0x150004C, reset := 0xC }
  , { first := 0x1500050, reset := 0x8 }
  , { first := 0x1500054, reset := 0x2 }
  , { first := 0x1500058, reset := 0x2 } ]

/-- Rows of the map: MCHIdx. -/
def regsMchidx : List RegDef :=
  [ { first := 0x600000, stride := 0x4000, count := 32, writer := .core }
  , { first := 0x600004, stride := 0x4000, count := 32 }
  , { first := 0x600008, stride := 0x4000, count := 32 }
  , { first := 0x60000C, stride := 0x4000, count := 32 }
  , { first := 0x600010, stride := 0x4000, count := 32 }
  , { first := 0x600014, stride := 0x4000, count := 32 }
  , { first := 0x600018, stride := 0x4000, count := 32 }
  , { first := 0x60001C, stride := 0x4000, count := 32 }
  , { first := 0x600100, stride := 0x4000, count := 32, stride2 := 4, count2 := 16 }
  , { first := 0x600200, stride := 0x4000, count := 32, stride2 := 4, count2 := 16 } ]

/-- Rows of the map: EVCIdx. -/
def regsEvcidx : List RegDef :=
  [ { first := 0xF00100, stride := 0x20, count := 8, writer := .own }
  , { first := 0xF00104, stride := 0x20, count := 8, writer := .own }
  , { first := 0xF00108, stride := 0x20, count := 8, writer := .own }
  , { first := 0xF0010C, stride := 0x20, count := 8, w1c := 0xF, writer := .own }
  , { first := 0xF00110, stride := 0x20, count := 8, writer := .own }
  , { first := 0xF00114, stride := 0x20, count := 8, rw := 0xFFFFFFFC, rsvdp := 0x3, writer := .own }
  , { first := 0xF00118, stride := 0x20, count := 8, rw := 0xFFFF, rsvdp := 0xFFFF0000, writer := .own }
  , { first := 0xF0011C, stride := 0x20, count := 8, writer := .own }
  , { first := 0xF00400, stride := 0x4, count := 64, rw := 0xFFFF, rsvdp := 0xFFFC0000, writer := .core }
  , { first := 0xF01000, stride := 0x4, count := 1024, reset := 0xFF, rw := 0x7F1FFF, rsvdp := 0xFF80E000, writer := .core }
  , { first := 0xF02000, stride := 0x4, count := 1024 } ]

/-- Rows of the map: SDMIdx. -/
def regsSdmidx : List RegDef :=
  [ { first := 0x1100014, stride := 0x4, count := 3 }
  , { first := 0x1101000, stride := 0x100, count := 8, rw := 0xFFFFFFE0, rsvdp := 0x1F, writer := .sdm }
  , { first := 0x1101004, stride := 0x100, count := 8, rw := 0xFFFFFFFF, writer := .sdm }
  , { first := 0x1101008, stride := 0x100, count := 8, rw := 0xF, rsvdp := 0xFFFFFFF0, writer := .sdm }
  , { first := 0x110100C, stride := 0x100, count := 8, rw := 0xFFFFFFFF, writer := .sdm }
  , { first := 0x1101010, stride := 0x100, count := 8, writer := .sdm }
  , { first := 0x1101014, stride := 0x100, count := 8, writer := .sdm }
  , { first := 0x1101018, stride := 0x100, count := 8, writer := .sdm }
  , { first := 0x110101C, stride := 0x100, count := 8, w1c := 0xF, writer := .sdm }
  , { first := 0x1101020, stride := 0x100, count := 8, writer := .sdm }
  , { first := 0x1101024, stride := 0x100, count := 8, writer := .sdm }
  , { first := 0x1101028, stride := 0x100, count := 8, writer := .sdm }
  , { first := 0x110102C, stride := 0x100, count := 8, writer := .sdm }
  , { first := 0x1101030, stride := 0x100, count := 8, writer := .sdm }
  , { first := 0x1101034, stride := 0x100, count := 8, writer := .sdm }
  , { first := 0x1101040, stride := 0x100, count := 8, writer := .sdm }
  , { first := 0x1101044, stride := 0x100, count := 8, writer := .sdm }
  , { first := 0x1101048, stride := 0x100, count := 8, writer := .sdm } ]

/-- Rows of the map: LPBIdx. -/
def regsLpbidx : List RegDef :=
  [ { first := 0x1200100, stride := 0x20, count := 8, rw := 0xFFFFF000, rsvdp := 0xFFF, writer := .service }
  , { first := 0x1200104, stride := 0x20, count := 8, reset := 0xFFF, rw := 0xFFFFF000, writer := .service }
  , { first := 0x1200108, stride := 0x20, count := 8, rw := 0xFFFFF000, rsvdp := 0xFFF, writer := .service }
  , { first := 0x120010C, stride := 0x20, count := 8, reset := 0xFFF0000, rw := 0xFFF001F, rsvdp := 0xF000FFE0, writer := .service }
  , { first := 0x1200110, stride := 0x20, count := 8 }
  , { first := 0x1200114, stride := 0x20, count := 8, reset := 0xFFF }
  , { first := 0x1200118, stride := 0x20, count := 8 }
  , { first := 0x120011C, stride := 0x20, count := 8, reset := 0xFFF0000 } ]

/-- Rows of the map: TLNIdx. -/
def regsTlnidx : List RegDef :=
  [ { first := 0x1300100, stride := 0x4, count := 32, rw := 0xFFFF, rsvdp := 0xFFFF0000 }
  , { first := 0x1300200, stride := 0x8, count := 64, rw := 0xFFFFFFFF }
  , { first := 0x1300204, stride := 0x8, count := 64, rw := 0xFFFF, rsvdp := 0xFFFF0000 }
  , { first := 0x1301000, stride := 0x10, count := 256, rw := 0x803F3F7F, rsvdp := 0x7FC0C080 }
  , { first := 0x1301004, stride := 0x10, count := 256, reset := 0x10000, rw := 0xFFFFFFFF }
  , { first := 0x1301008, stride := 0x10, count := 256, rw := 0xFFFFFFFF }
  , { first := 0x130100C, stride := 0x10, count := 256, rw := 0x7FF1F1F, rsvdp := 0xF800E0E0 }
  , { first := 0x1303000, stride := 0x4, count := 256 }
  , { first := 0x1304000, stride := 0x4, count := 1024 } ]

/-- Every register of BAR2 (Table 17-2). -/
def regTable : List RegDef :=
  regsFtb ++ regsPrx ++ regsMch ++ regsRdp ++ regsWrp ++ regsMcr ++ regsHpt ++ regsFnm ++ regsQen ++ regsTcy ++ regsMtr ++ regsSec ++ regsMlk ++ regsDdr ++ regsEvc ++ regsAow ++ regsSdm ++ regsLpb ++ regsTln ++ regsPwr ++ regsSpp ++ regsSrm ++ regsMchidx ++ regsEvcidx ++ regsSdmidx ++ regsLpbidx ++ regsTlnidx

/-- Whether row `d` holds a register at `off` (R647). -/
def RegDef.holds (d : RegDef) (off : Nat) : Bool :=
  d.first ≤ off &&
    (if d.count2 = 1 then
      (if d.count = 1 then off = d.first
       else (off - d.first) % d.stride = 0 && (off - d.first) / d.stride < d.count)
     else (off - d.first) / d.stride < d.count && ((off - d.first) % d.stride) % d.stride2 = 0 &&
      ((off - d.first) % d.stride) / d.stride2 < d.count2)

/-- The map's row for a BAR2 offset; `none` is a reserved offset (R15, R646). -/
def regDef (off : Nat) : Option RegDef := regTable.find? (·.holds off)

end Sys2Proof.Machine
end

