-- ==== Sys2Proof/Machine/Tab.lean ====
section
/-! DEFINITION. Sparse tables in one canonical form: the value at a number, with a default at every number not listed.
The register file, the dies, the functions, the map and every other numbered collection of the state is one. -/
namespace Sys2Proof.Machine

/-- A table whose value at an unlisted number `k` is `d k`. Canonical (`Tab.wf`): the keys rise strictly and no entry
equals what its number reads as when it is not listed, so equal tables are equal data. -/
structure Tab (α : Type) (d : Nat → α) where
  entries : List (Nat × α) := []
deriving DecidableEq, Repr

/-- The first value listed for `k`. -/
def lookupKey {α : Type} (k : Nat) : List (Nat × α) → Option α
  | [] => none
  | (k', v) :: rest => if k' = k then some v else lookupKey k rest

/-- The entries without those for `k`. -/
def eraseKey {α : Type} (k : Nat) : List (Nat × α) → List (Nat × α)
  | [] => []
  | (k', v) :: rest => if k' = k then eraseKey k rest else (k', v) :: eraseKey k rest

/-- The entries with `(k, v)` put before the first larger key. -/
def insertKey {α : Type} (k : Nat) (v : α) : List (Nat × α) → List (Nat × α)
  | [] => [(k, v)]
  | (k', v') :: rest => if k < k' then (k, v) :: (k', v') :: rest else (k', v') :: insertKey k v rest

/-- Strictly rising keys. -/
def risingKeys {α : Type} : List (Nat × α) → Bool
  | [] => true
  | [_] => true
  | (k, _) :: (k', v') :: rest => decide (k < k') && risingKeys ((k', v') :: rest)

variable {α : Type} {d : Nat → α}

/-- The value at `k`. -/
def Tab.get (t : Tab α d) (k : Nat) : α := (lookupKey k t.entries).getD (d k)

/-- Sets the value at `k`; setting what an unlisted number reads as removes the entry. -/
def Tab.set [DecidableEq α] (t : Tab α d) (k : Nat) (v : α) : Tab α d :=
  ⟨if v = d k then eraseKey k t.entries else insertKey k v (eraseKey k t.entries)⟩

/-- Changes the value at `k` by `f`. -/
def Tab.modify [DecidableEq α] (t : Tab α d) (k : Nat) (f : α → α) : Tab α d := t.set k (f (t.get k))

/-- Changes every listed value by `f`. -/
def Tab.mapListed [DecidableEq α] (t : Tab α d) (f : Nat → α → α) : Tab α d :=
  t.entries.foldl (fun u e => u.set e.1 (f e.1 e.2)) t

/-- Changes the values at each number below `n` by `f`. -/
def Tab.modifyBelow [DecidableEq α] (t : Tab α d) (n : Nat) (f : Nat → α → α) : Tab α d :=
  (List.range n).foldl (fun u k => u.set k (f k (u.get k))) t

/-- The canonical form. -/
def Tab.wf [DecidableEq α] (t : Tab α d) : Bool :=
  risingKeys t.entries && t.entries.all (fun e => decide (e.2 ≠ d e.1))

end Sys2Proof.Machine
end

