-- ==== Sys2Proof/Machine/State.lean ====
section
/-! DEFINITION. The state of the DN9640 as plain data: the commands waiting, the register file, what each block holds
beside its registers, the device event log, and the actions the outside has seen. -/
namespace Sys2Proof.Machine

/-- Why a step could end in a fault. No rule of the specification stops the block with an error (R35, R40), so no
meaning raises one. -/
inductive Fault where
  /-- Raised by no meaning; it stands here because a closed type of reasons must have a member. Safe. -/
  | none
deriving DecidableEq, Repr

/-- Why a command has no meaning in the model. -/
inductive Refusal where
  /-- Raised by an arm of `exec` whose command has not been modelled yet; the string is its mnemonic. Safe. -/
  | notModelled (mnemonic : String)
deriving DecidableEq, Repr

/-- The register blocks of BAR2 (Table 17-1), as BLOCK of an event-log entry names them (R612). -/
inductive Block where
  | hpt | fnm | qen | ftb | prx | mch | rdp | wrp | mcr | tcy | mtr | sec | mlk | ddr | evc | aow | sdm | lpb | tln | pwr | srm | spp
deriving DecidableEq, Repr

/-- The block's BAR2 base (Table 17-1); SPP's registers lie within PWR. -/
def Block.base : Block → Nat
  | .hpt => 0x100000 | .fnm => 0x200000 | .qen => 0x300000 | .ftb => 0x400000 | .prx => 0x500000 | .mch => 0x600000
  | .rdp => 0x700000 | .wrp => 0x800000 | .mcr => 0x900000 | .tcy => 0xA00000 | .mtr => 0xB00000 | .sec => 0xC00000
  | .mlk => 0xD00000 | .ddr => 0xE00000 | .evc => 0xF00000 | .aow => 0x1000000 | .sdm => 0x1100000
  | .lpb => 0x1200000 | .tln => 0x1300000 | .pwr => 0x1400000 | .srm => 0x1500000 | .spp => 0x1400000

/-- The register file: every register of BAR2 at its offset, with its reset value where nothing else was stored. -/
abbrev Regs := Tab Word resetOf

/-- A time point as the event log shows it: frame [47:0] and cell [57:48] (Table 15-8). -/
structure Stamp where
  frame : Nat := 0
  cell  : Nat := 0
deriving DecidableEq, Repr

/-- An entry of the device event log (Table 15-8). `at_` is the tick count of the first occurrence, to which R613
measures. -/
structure LogEntry where
  seq       : Nat
  block     : Block
  code      : Nat
  inst      : Nat
  fn        : Nat
  coalesced : Bool
  noTod     : Bool
  restored  : Bool
  count     : Nat
  first     : Stamp
  last      : Stamp
  detail    : List Word
  at_       : Nat
deriving DecidableEq, Repr

/-! ## Frame time (chapter 2) -/

/-- What the Frame Timebase holds beside its registers. -/
structure Ftb where
  /-- The 48-bit frame counter (R49). -/
  frame     : BitVec 48 := 0
  /-- The tick within the frame, 0 to 499,999 (R47). -/
  tick      : Nat := 0
  /-- Timebase ticks passed since the reset that cleared the timebase; every duration is measured on it. -/
  clock     : Nat := 0
  /-- An FPPS edge has arrived that the next edge may make valid (R45). -/
  ppsSeen   : Bool := false
  /-- A phase step has been made since phase was last free (R61, R62). -/
  stepped   : Bool := false
  /-- Consecutive valid FPPS edges within 20 ns of the prediction (Table 2-3). -/
  goodRun   : Nat := 0
  /-- The ticks of the last valid FPPS edge (R649), of the FREF loss in force (R43) and of the last FSYNC edge (R41). -/
  lastPps   : Option Nat := none
  frefLostAt : Option Nat := none
  fsyncAt   : Option Nat := none
  /-- The counts and the heartbeat of the frame that began wait for the time of day loaded at this second edge (R53, R66 to
  R68). -/
  heldBegin : Bool := false
  /-- The crystal correction of R648 [ppb]. -/
  crystal   : Option Int := none
  /-- The tick at which FTB_TOD_CTL.ARM was set (R56). -/
  todArmAt  : Nat := 0
  /-- Consecutive heartbeats with a skew of at most 2,000 ticks (R72). -/
  skewRun   : Nat := 0
  /-- This chip's proposal of a clearing frame (R72). -/
  ownProp   : Option Nat := none
  /-- The partner's proposal of a clearing frame (R72). -/
  peerProp  : Option Nat := none
  /-- A skew above 4,000 ticks was measured from the agreed frame minus 1 on (R72 step 4). -/
  reraise   : Bool := false
deriving DecidableEq, Repr

/-! ## Prism images and admission (chapters 3 and 4) -/

/-- A slot entry (Table 3-2). -/
structure Slot where
  start : Nat
  len   : Nat
  kind  : Nat
  plain : Nat := 0
  lend  : Bool := false
  vmg   : Nat := 0
  owner : Nat := 0xFFFF
  param : Nat := 0
deriving DecidableEq, Repr

/-- A lane directory entry (Table 3-6). -/
structure DirEntry where
  first : Nat := 0
  count : Nat := 0
  mode  : Nat := 0
  plain : Nat := 0
deriving DecidableEq, Repr

/-- A tenant-table entry (Table 3-8); rates are unsigned Q16.16. -/
structure TenantEntry where
  vf         : Nat
  group      : Nat
  cls        : Nat
  spread     : Nat := 1
  readRate   : Nat := 0
  readBurst  : Nat := 0
  writeRate  : Nat := 0
  writeBurst : Nat := 0
  dmaShare   : Nat := 0
  quota      : Nat := 0
  readBound  : List Nat := []
  wackBound  : List Nat := []
deriving DecidableEq, Repr

/-- A prism image as the checks of Table 3-9 have read it. `dirs` lists, for each variant's directory, the lanes
whose entry is not all zero. -/
structure Image where
  id             : Word := 0
  cycleLog2      : Nat := 0
  pairMode       : Nat := 0
  pairId         : Nat := 0
  vmask          : Nat := 0xF
  bgPermille     : Nat := 0
  channelMask    : Nat := 0
  diesPerCh      : Nat := 1
  profileDigest  : List Byte := []
  contractDigest : List Byte := []
  imageDigest    : List Byte := []
  driftWindow    : Nat := 0
  driftLimit     : Nat := 0
  waAssumed      : Nat := 0
  /-- The informational fields (Tables 3-5 and 3-7): COMPILER_VERSION, COMPILE_TAI and the variants' names. -/
  compilerVersion : Nat := 0
  compileTai     : Nat := 0
  names          : List (List Byte) := []
  /-- The variant that each variant's lane directory stands for (Table 3-7); 0xFF for its own. -/
  aliases        : List Nat := [0xFF, 0xFF, 0xFF, 0xFF]
  /-- The lane directory, the groups, the tenant table and the slot table (R94, R137, R85). -/
  dirs           : List (List (Nat × DirEntry)) := []
  groups         : List Nat := []
  tenants        : List TenantEntry := []
  slots          : List Slot := []
  /-- The digest of its plain phases (R105). -/
  phaseDigest    : List Byte := []
deriving DecidableEq, Repr

/-- What an operation on a lane is for. -/
inductive Work where
  /-- The page read for a codeword: of a unit of a command or of a stripe member for it, or of a read served for the
  partner (R214 to R233). -/
  | read (j : DecodeJob)
  /-- The program unit `pid` (R264). -/
  | prog (pid : Nat)
  /-- The erase of a block. -/
  | erase (block : Nat)
  /-- Media-care work of the rank of Table 8-1 on a block. -/
  | care (rank block : Nat)
  /-- A journal page of `n` records (R275), and the erase of a consumed dump set (R282). -/
  | journal (n : Nat)
  | dumpErase (setB : Bool)
  /-- A program of the checkpoint of a map segment (R277). -/
  | ckpt (seg : Nat)
deriving DecidableEq, Repr

/-- An admission of a stage into a slot (R125 to R127). `start` and `stop` are the slot's first cell and the cell
after its last, counted from frame 0. -/
structure Adm where
  cmd     : CmdId
  kind    : StageKind
  lane    : Nat
  start   : Nat
  stop    : Nat
  units   : Nat
  /-- Taken as a bounded stage in owned capacity (R127); otherwise unowned or lent capacity (R155, R159). -/
  owned   : Bool
  /-- The tenant whose DMA share it counts to (R146). -/
  fn      : Nat
  /-- The read or program that the stage is for, where it is for one. -/
  work    : Option Work := none
  /-- A best-effort stage whatever its command (R231). -/
  best    : Bool := false
  /-- The stage has begun in its slot and still holds its lane. -/
  started : Bool := false
deriving DecidableEq, Repr

/-- A trim of one VF and direction: the value pending for the next frame edge with the tick it was written at, and
the value in force (R166 to R168). -/
structure Trim where
  pending   : Option Nat := none
  writtenAt : Nat := 0
  inForce   : Nat := 0x10000
deriving DecidableEq, Repr

/-- The trim of a VF that no trim was written for. -/
def Trim.dflt (_ : Nat) : Trim := {}
/-- Trims by 2 × VF + direction (0 read, 1 write). -/
abbrev Trims := Tab Trim Trim.dflt

/-- Table of numbers that start at 0. -/
def zeroAt (_ : Nat) : Nat := 0
/-- Numbers by key. -/
abbrev NatTab := Tab Nat zeroAt

/-- What the Prism Executor holds beside its registers. -/
structure Prx where
  active     : Option Image := none
  staged     : Option Image := none
  /-- The switch frame F, once the device has computed or accepted it (R107, R108). -/
  switchF    : Option Nat := none
  /-- The frame in which the device accepted ARM (R106). -/
  armFrame   : Nat := 0
  /-- PRX_SWITCH_FRAME as it stood when the device accepted ARM (R108). -/
  armF       : Nat := 0
  /-- ARM accepted and waiting for the partner (R106). -/
  armWait    : Bool := false
  /-- The pair has left the joined state while the arm waited (R106). -/
  armSolo    : Bool := false
  /-- The accepted arm the partner has reported (R105 to R107). -/
  peerArm    : Option ArmReport := none
  /-- Both chips of the pair have armed, or F − 2:0 has passed (R110). -/
  committed  : Bool := false
  /-- A Park request held until F:0 (R109). -/
  parkHeld   : Bool := false
  /-- The frame from which Park stops admission: the next cycle boundary after the request (R32). -/
  parkAt     : Option Nat := none
  /-- F of the last image switch: a load is refused in that frame (R114). -/
  switchedAt : Option Nat := none
  /-- The variant the partner's heartbeat or report says it runs is 3 (Table 3-11). -/
  peerThermal   : Bool := false
  /-- The active digests differ (Table 3-11). -/
  phaseMismatch : Bool := false
  /-- Consecutive heartbeats whose digests agree. -/
  phaseRun      : Nat := 0
  /-- The junction temperature's condition (Table 3-11), and the tick from which it has stayed at or below 95 °C. -/
  thermal       : Bool := false
  coolFrom      : Option Nat := none
  /-- The last junction temperature sample in 1/256 °C. -/
  tj256         : Int := 0
  /-- Refused or lost channels, the first lost first (R123). -/
  lost          : List Nat := []
  /-- The frame in which each of them was refused or lost. -/
  lostF         : NatTab := {}
  /-- The ticks from which the conditions of variants 3, 1 and 2 have stood (R119). -/
  since3        : Option Nat := none
  since1        : Option Nat := none
  since2        : Option Nat := none
  /-- The frame of clearing (R120): this chip's, the later one once the partner has told its own; the partner's. -/
  clearFrame    : Option Nat := none
  peerClear     : Option Nat := none
  /-- The variant that ran before the last variant switch and the cell of that switch (R121). -/
  oldVariant    : Option (Nat × Nat) := none
  /-- Frames of the last excursions (R133). -/
  excursions    : List Nat := []
  /-- Admissions whose slot has not ended. -/
  adms          : List Adm := []
  /-- Slots, as lane and first cell, whose start waits for the lane (R121, R132). -/
  lateSlots     : List (Nat × Nat) := []
  /-- I/O commands fetched while the device admits none for Park, which wait for Run to resume (R32). -/
  parked        : List Instr := []
  /-- The slot of each lane, as its first cell plus 1, at whose start bounded stages had taken capacity (R128). -/
  tookOwned     : NatTab := {}
  /-- The rotation participant last served on each lane: group + 1, or 257 for commands without a group (R129). -/
  rotation      : NatTab := {}
  /-- The trims of the VFs (R166). -/
  trims         : Trims := {}
  /-- Programs and partner reads started in the slot in progress on each lane (Table 3-3). -/
  progCount     : NatTab := {}
  serveCount    : NatTab := {}
deriving DecidableEq, Repr

/-- A tenant's buckets and statistics (R141, R148, R170, R171). Levels are unsigned Q32.16. `dieDebt` lists by lane
how far below its depth a charged per-die bucket stands, and `dieBase` how far every other one stands below it: 0, a
full bucket, but for the time after a trim that raised the depth (R150, R167). -/
structure Tenant where
  readLevel  : Nat := 0
  writeLevel : Nat := 0
  dieDebt    : List (Nat × Nat) := []
  dieBase    : Nat := 0
  readsBounded : Nat := 0
  readsBest    : Nat := 0
  writesBounded : Nat := 0
  writesBest   : Nat := 0
  rescued      : Nat := 0
  exceptions   : Nat := 0
  byCause      : List Nat := []
  hist         : List Nat := []
  maxRead      : Nat := 0
  maxWack      : Nat := 0
deriving DecidableEq, Repr
def Tenant.dflt (_ : Nat) : Tenant := {}
/-- Tenants by function number. -/
abbrev Tenants := Tab Tenant Tenant.dflt

/-! ## Commands, media, the read and write paths (chapters 5 to 8) -/

/-- A die operation: kind 1 read, 2 program, 3 erase (Table 5-8), the work, the tick it started at, its worst-case
duration [ticks], and the cell (counted from frame 0) at which the slot it was admitted in ends. -/
structure DieOp where
  kind    : Nat
  work    : Work
  start   : Nat
  worst   : Nat
  slotEnd : Nat
  /-- The tick from which the next status poll is due (R193). -/
  pollAt  : Nat := 0
  /-- A status poll has shown the die ready (R195). -/
  ready   : Bool := false
  /-- The tick at which it was last suspended. -/
  suspAt  : Nat := 0
  /-- Its slot ended before it did (R131). -/
  overran : Bool := false
deriving DecidableEq, Repr

/-- The state of a block (R292 to R308). -/
inductive BlkState where
  | free | open_ | closed | retired | bad
deriving DecidableEq, Repr

/-- A multi-plane block of a die. `age` counts 1/65,536 of a tick at T_REF (R304); `total` is its 4 KiB units. -/
structure Blk where
  num      : Nat
  state    : BlkState := .free
  ec       : Nat := 0
  closedAt : Nat := 0
  valid    : Nat := 0
  age      : Nat := 0
  reads    : Nat := 0
  /-- The rank of Table 8-1 of the activity that claimed the block (R292); 0 for none. -/
  claimed  : Nat := 0
  /-- The block is to be retired after its data is moved (R307). -/
  retiring : Bool := false
  /-- The block is to be refreshed (R302, R304, R306): the rank it waits at. -/
  refresh  : Nat := 0
  /-- The scrub pass in progress has sampled it (R302). -/
  scrubbed : Bool := false
  /-- A sample of it is due: 1 for a self-test, 2 for read disturb (R306, R314); its pages have been read, and their decode is
  awaited. -/
  sample   : Nat := 0
  awaits   : Bool := false
deriving DecidableEq, Repr

/-- A daily point of R319. -/
structure DayPoint where
  peAvg     : Nat
  peMax     : Nat
  meanCorr  : Nat
  rescuePpm : Nat
  calDrift  : Nat
  spare     : Nat
deriving DecidableEq, Repr

/-- Why a suspended operation stays suspended when the die is free: until the end of a GATE slot (R92), or until the lane's
next ERASE slot (R86). -/
inductive Hold where
  | none | gate | erase
deriving DecidableEq, Repr

/-- A die beside MCH_CH_DIE_TEMPn. -/
structure Die where
  run       : Option DieOp := none
  susp      : Option DieOp := none
  hold      : Hold := .none
  suspCount : Nat := 0
  /-- The tick of the last resume of the running operation (R196). -/
  resumedAt : Option Nat := none
  /-- Consecutive timeouts (R202). -/
  timeouts  : Nat := 0
  /-- It is lost (R202). -/
  lost      : Bool := false
  /-- The read-level offsets last set (R199). -/
  levels    : List Int := []
  /-- The frame of the last temperature sample (R200). -/
  tempAt    : Option Nat := none
  /-- Its blocks in use (R292). -/
  blocks    : List Blk := []
  /-- The open blocks for host and mirrored-in data and for moved data, with the next page (R300). -/
  openHost  : Option (Nat × Nat) := none
  openMove  : Option (Nat × Nat) := none
  /-- Spare blocks at first use (R308). -/
  spare0    : Nat := 0
  /-- No spare block is left (R310). -/
  readOnly  : Bool := false
  /-- The frame of its last wear-levelling move (R301). -/
  lastWl    : Option Nat := none
  /-- Offsets in use by block group (band × 16 + octave) (R311). -/
  offsets   : List (Nat × List Int) := []
  /-- The frame of each group's last calibration, and its hard decodes since with the places of the rescues among the last 1,000
  (R312). -/
  calAt     : List (Nat × Nat) := []
  rates     : List (Nat × Nat × List Nat) := []
  /-- The frame at which the scrub pass began, whether it is complete, and whether one has been late (R302, R303). -/
  scrubFrom : Nat := 0
  scrubDone : Bool := false
  scrubLate : Bool := false
  /-- Hard decodes and rescues since the last point (R312, R319). -/
  decodes   : Nat := 0
  rescues   : Nat := 0
  /-- Corrected bits of the hard decodes since the last point (R319). -/
  corrSum   : Nat := 0
  /-- What the read path last told Media Care of a decode: the block, the corrected bits and the read levels used (R230). -/
  heard     : Option (Nat × Nat × List Int) := none
  /-- Its daily points, newest first (R319). -/
  days      : List DayPoint := []
  /-- Dump set A or B holds an unconsumed dump; a set is erased (R282). -/
  dumpA     : Bool := false
  dumpB     : Bool := false
  erasedA   : Bool := false
  erasedB   : Bool := false
  /-- The frame in which it was lost (R322). -/
  lostAt    : Option Nat := none
deriving DecidableEq, Repr
def Die.dflt (_ : Nat) : Die := {}
/-- Dies by lane number 0 to 511 (Table 3-1). -/
abbrev Dies := Tab Die Die.dflt

/-- A band of the care section (Table 8-4). -/
structure Band where
  peUpper      : Nat
  retentionH   : Nat
  disturbReads : Nat
  levelInit    : List Int
deriving DecidableEq, Repr

/-- A media profile as read (Tables 5-3 to 5-5 and 8-4); `timing` in nanoseconds, in the order of Table 5-5. -/
structure Profile where
  id        : Word := 0
  version   : Word := 0
  cellType  : Nat := 3
  iface     : Nat := 0
  maxRate   : Nat := 0
  dieLog2   : Nat := 41
  planes    : Nat := 1
  pageKib   : Nat := 16
  ppb       : Nat := 0
  bpp       : Nat := 0
  lunsPerCe : Nat := 1
  maxSuspProg  : Nat := 0
  maxSuspErase : Nat := 0
  levelCount : Nat := 7
  levelFeature : Nat := 0
  tempFeature  : Nat := 0
  slcPrefix    : Nat := 0
  ids       : List (List Byte × List Byte × Nat) := []
  timing    : List Nat := []
  /-- The feature list (R182): address, target mask, parameter bytes. -/
  features  : List (Nat × Nat × List Byte) := []
  /-- The die temperature limit of Table 5-5. -/
  tDieMax   : Nat := 0
  /-- The care section (Table 8-4). -/
  bands     : List Band := []
  samplePages : Nat := 0
  endurance : Nat := 0
  corrLimit : Nat := 0
  tRef      : Nat := 0
  tDouble   : Nat := 1
  refreshPct : Nat := 0
  opPermille : Nat := 0
  /-- The profile's digest (R184) and its bytes as stored. -/
  digest    : List Byte := []
  bytes     : List Byte := []
deriving DecidableEq, Repr

/-- What the Media Channels hold beside their registers. -/
structure Mch where
  profile  : Option Profile := none
  dies     : Dies := {}
  /-- Consecutive failed retrainings by channel, and the cell of each channel's last training (R203). -/
  retrain  : NatTab := {}
  trainedC : NatTab := {}
  /-- Channels brought up again because a profile was bound (R185): the binding is reported when none is left. -/
  binding  : List Nat := []
  /-- MEDIA_PWR_EN is asserted (R187). -/
  mediaPwr : Bool := false
deriving DecidableEq, Repr

/-- How far the read of one codeword group has come: its page read waits or runs; the data waits for its bus transfer,
then for its decode; the decode runs; it ended. -/
inductive LegAt where
  | wait | reading | bus | queued | decoding | ok | failed
deriving DecidableEq, Repr

/-- The read and decode of the codeword group at a physical address: hard, or soft with the passes made and the page reads
of the pass in progress (R229, R232); at shifted read levels for a retry (R225, R656). -/
structure Leg where
  loc     : Nat
  at_     : LegAt := .wait
  soft    : Bool := false
  passes  : Nat := 0
  reads   : Nat := 0
  shifted : Bool := false
  /-- The cell from which it waits (R126), and the cell at which the slot of its last page read ends (R656). -/
  since   : Nat := 0
  slotEnd : Nat := 0
  /-- The read levels of its last page read (R230). -/
  levels  : List Int := []
deriving DecidableEq, Repr
/-- The die lane of a leg (R273). -/
def Leg.lane (g : Leg) : Nat := g.loc / 2 ^ 27

/-- From where a unit is read: its own location; the other members of its stripe set in MODE 1, where `retried` says that a
member has been read again (R218, R225); the other members of its parity stripe (R233). -/
inductive ReadHow where
  | own
  | recon (retried : Bool)
  | parity
deriving DecidableEq, Repr

/-- Where a 4 KiB unit of a read stands. -/
inductive UPhase where
  /-- Read from media by its legs. -/
  | media (how : ReadHow)
  /-- Sent around under a tag (R215); `soft` for stage 4. -/
  | around (tag : Nat) (soft : Bool)
  /-- Recovered, waiting for its CIPHER stage; decrypted, waiting for delivery; delivered or nothing to do. -/
  | recovered | plain | issued
  /-- Not recovered (R236). -/
  | failed
deriving DecidableEq, Repr

/-- A 4 KiB unit of a read. `stage` is the recovery stage of Table 6-4 in progress, 0 for the first attempt; `loc` is
the physical address for a unit on media. -/
structure RUnit where
  unit   : Nat
  home   : Nat
  loc    : Option Nat
  phase  : UPhase
  legs   : List Leg := []
  stage  : Nat := 0
  /-- It is unmapped or ZERO, here or on the partner: zeros are delivered (R210, R222). -/
  zero   : Bool := false
  /-- The staging write it holds (R209). -/
  staged : Option Nat := none
  /-- The first attempt was an around-read (R224). -/
  wentAround : Bool := false
  /-- An attempt on the local copy has failed (R235). -/
  localFail  : Bool := false
  /-- Served from the local copy in place of an around-read: a slot outside the plain's program phase (R216). -/
  outside    : Bool := false
deriving DecidableEq, Repr

/-- A command a function has outstanding. -/
structure Cmd where
  id       : CmdId
  op       : Nat
  admin    : Bool := false
  nsid     : Nat := 0
  /-- First 4 KiB unit and number of units; for 512-byte namespaces the units that cover the range. -/
  first    : Nat := 0
  count    : Nat := 0
  /-- Logical blocks in the request, for metering. -/
  lba      : Nat := 0
  nlb      : Nat := 0
  /-- The start point of R157. -/
  startAt  : Nat := 0
  /-- Charged as bounded, with its bound [ticks] (R151, R152, R156), and the frame of the charge (R113). -/
  charged  : Bool := false
  bounded  : Bool := false
  bound    : Nat := 0
  chargedF : Nat := 0
  /-- Its data lies on a lost channel beyond the first: served best-effort, and an exception in any case (R123). -/
  beyond   : Bool := false
  /-- The cause code of the earliest event of Table 4-6; 0 for none. -/
  cause    : Nat := 0
  rescued  : Bool := false
  softUsed : Bool := false
  /-- Its units (R209). -/
  units    : List RUnit := []
  /-- Its map lookup is done (R209). -/
  looked   : Bool := false
  /-- What a Compare found in the host's data (R243). -/
  equal    : Bool := true
  /-- Units that a Write Zeroes or a deallocation stages as zeros (R258). -/
  zeros    : List Nat := []
  /-- Source ranges of a Copy, as first unit and count. -/
  ranges   : List (Nat × Nat) := []
  /-- The staging writes it made. -/
  wids     : List Nat := []
  /-- The NVMe status once it is known: Status Code Type × 256 + Status Code, and Do Not Retry. -/
  status   : Option Nat := none
  dnr      : Bool := false
  dw0      : Word := 0
  /-- Held at its HOST_FETCH stages: by staging, the FLOOR or the cap of GC debt (R251, R296, R298); and whether it has
  been counted as waiting for staging and as throttled. -/
  held     : Bool := false
  waited   : Bool := false
  /-- It makes map changes (R276). -/
  mapHeld  : Bool := false
  throttled : Bool := false
  /-- A stage of it has been admitted (R390, R400). -/
  admitted : Bool := false
  /-- Data fetch still in progress (FILLING). -/
  filling  : Bool := false
  /-- 4 KiB units of host data still to be asked for, and units that wait for their encryption (R243, R248). -/
  toFetch  : Nat := 0
  toEnc    : Nat := 0
  /-- 4 KiB units of its PRP list or SGL segments still to be asked for (R242). -/
  lists    : Nat := 0
  /-- The page of the host's memory that its data begins in, and the offset there. -/
  page     : Nat := 0
  prpOff   : Nat := 0
  /-- It waits for a translation of the host's address (R353). -/
  xlat     : Bool := false
deriving DecidableEq, Repr

/-- An around-read this chip serves or waits for (R220, R226). -/
structure Around where
  tag     : Nat
  cmd     : CmdId
  unit    : Nat
  soft    : Bool
  rescue  : Bool
  /-- The tick at which the request left (R226). -/
  sentAt  : Option Nat := none
  /-- The fallback stage has started (R227). -/
  fallback : Bool := false
deriving DecidableEq, Repr

/-- A request of the partner being served (R221). -/
structure Serve where
  req    : AreadReq
  leg    : Leg
deriving DecidableEq, Repr

/-- Where staged data came from. -/
inductive Origin where
  | own | mirror | gc | repair | restored
deriving DecidableEq, Repr

/-- The states of Table 7-1. -/
inductive WState where
  | filling | staged | acked | verified
deriving DecidableEq, Repr

/-- A write in staging. `units` are 4 KiB units of the namespace; `verified` those verified on media. -/
structure SWrite where
  wid      : Nat
  origin   : Origin
  cmd      : Option CmdId := none
  fn       : Nat := 0
  nsid     : Nat
  units    : List Nat
  state    : WState
  verified : List Nat := []
  /-- Its place in the order of becoming STAGED (R259). -/
  order    : Nat := 0
  /-- It is a bounded write, and the group of its tenant (R267). -/
  bounded  : Bool := false
  group    : Option Nat := none
  /-- Its namespace is paired (R254). -/
  paired   : Bool := false
  /-- The VC0 sequence it was mirrored under, and whether the partner's staging ack has arrived (R254, R492). -/
  mirrorSeq : Option Nat := none
  macked   : Bool := false
  /-- The location a moved unit was copied from (R278), and the rank of Table 8-1 at which garbage collection, refresh, wear
  levelling or retirement moves it. -/
  from_    : Option Nat := none
  rank     : Nat := 0
  /-- Units that a later write has superseded (Table 7-5). -/
  superseded : List Nat := []
  /-- Held over a declaration of partner loss (R260). -/
  heldOver : Bool := false
  /-- Acknowledged to the partner on VC1 (R255). -/
  ackSent  : Bool := false
  /-- The reads that hold it (R209). -/
  readers  : Nat := 0
  /-- It has been counted as withheld (R162). -/
  withheld : Bool := false
  /-- Units that memory errors made unreadable (R602), or that a merge could not read. -/
  bad      : List Nat := []
  /-- Indirection units that are not yet placed in a stripe, and the reads of the parts it is merged with (R262, R263). -/
  due      : List Nat := []
  legs     : List (Nat × Leg) := []
deriving DecidableEq, Repr

/-- What the Read Path holds beside its registers. -/
structure Rdp where
  sent    : List Around := []
  serving : List Serve := []
  nextTag : Nat := 0
  /-- Tags abandoned whose response has not arrived (R495). -/
  abandoned : List Nat := []
  /-- Units in the soft queue and its spill, oldest first (R234). -/
  softQ   : List (CmdId × Nat) := []
  /-- Reads that are to start on a lane as soon as its die is free (R223, R224). -/
  urgent  : List (Nat × Work) := []
  /-- Decodes in progress whose read nothing waits for any more (R230, R244). -/
  orphans : List (DecodeJob × Leg) := []
  /-- Recovered units that wait for staging to be rewritten (R235, R250). -/
  repairs : List SWrite := []
deriving DecidableEq, Repr

/-- A program unit of a stripe: the staged units (write, unit) it holds, and the padding. -/
structure ProgUnit where
  pid     : Nat
  lane    : Nat
  units   : List (Nat × Nat)
  pad     : Nat := 0
  parity  : Bool := false
  stripe  : Nat := 0
  moved   : Bool := false
  started : Bool := false
  block   : Nat := 0
  page    : Nat := 0
  /-- The 4 KiB units of its data that have crossed the channel bus; the cell in which it was formed (R126). -/
  sent    : Nat := 0
  since   : Nat := 0
deriving DecidableEq, Repr

/-- The metadata of a closed stripe (R266, R271): its members by lane, each with the physical address of its first codeword
group once it is programmed, and the lane that holds the parity. -/
structure StripeMeta where
  sid        : Nat
  parityLane : Nat
  members    : List (Nat × Option Nat)
deriving DecidableEq, Repr

/-- An open parity stripe (R266, R268): its dies with the units placed on each. -/
structure Stripe where
  sid    : Nat
  opened : Nat
  moved  : Bool := false
  /-- The 4 KiB units of the indirection units in it, 1 or 4 (R273). -/
  parts  : Nat := 1
  /-- The die of its parity member, and the data members with what is placed on each (R264). -/
  parityLane : Nat
  members : List (Nat × List (Nat × Nat))
deriving DecidableEq, Repr

/-- A map segment being checkpointed (R277): the tick of its first change since the last checkpoint, and the programs still to
start and to pass. -/
structure Ckpt where
  seg     : Nat
  since   : Nat
  toStart : Nat
  left    : Nat
deriving DecidableEq, Repr

/-- A journal record (Table 7-4). -/
structure JRec where
  entry : Nat
  index : Nat
  ns    : Nat
  type  : Nat
  seq   : Nat
deriving DecidableEq, Repr

/-- The default of a map entry: unmapped (R274). -/
def unmappedAt (_ : Nat) : Nat := 0x8000000000
/-- The map: 40-bit entries by namespace × 2^36 + indirection-unit index (Table 7-3). -/
abbrev MapTab := Tab Nat unmappedAt

/-- A slot in progress on a mirror lane (R486): the VCs it carries, the data flits left in it, and whether it carries
background traffic (R489). -/
structure MirrorSlot where
  lane  : Nat
  mask  : Nat
  left  : Nat
  bg    : Bool
deriving DecidableEq, Repr

/-- What a dump or a clean shutdown saved (R281, R461, R615). -/
structure Saved where
  writes  : List SWrite := []
  tail    : List JRec := []
  frame   : Nat := 0
  clean   : Bool := false
  /-- Its completion marker or clean-shutdown mark has been written (R283, R285). -/
  marked  : Bool := false
deriving DecidableEq, Repr

/-- What the Write Path and the Translation Unit hold beside their registers. -/
structure Wrp where
  writes    : List SWrite := []
  nextWid   : Nat := 1
  nextOrder : Nat := 1
  stripes   : List Stripe := []
  nextStripe : Nat := 1
  /-- The metadata of the stripes on media (R271). -/
  metas     : List StripeMeta := []
  /-- Program units that wait or run, and the next number (R264). -/
  progs     : List ProgUnit := []
  nextPid   : Nat := 1
  /-- The map (R274). -/
  map       : MapTab := {}
  /-- The map as the checkpoints and the journal pages on media give it (R275, R277, R286). -/
  mediaMap  : MapTab := {}
  /-- The segments whose checkpoint is being written. -/
  ckpts     : List Ckpt := []
  /-- Map-changing commands that wait for room in the journal tail (R276). -/
  waiting   : List Instr := []
  /-- The journal tail in DRAM, newest first, and the next 64-bit sequence (R275). -/
  tail      : List JRec := []
  journalSeq : Nat := 0
  /-- PARITY_W as the last image switch took it (R288). -/
  parityW   : Nat := 0
  /-- Segments with a change since their checkpoint, and the tick of the first such change (R277). -/
  dirty     : List (Nat × Nat) := []
  /-- HOLDUP_SENSE samples of the last 1,000 µs by tick and code, newest first, without those that a later one does not
  exceed, and whether the last was below DUMP (R253, R280). -/
  senses    : List (Nat × Nat) := []
  senseLow  : Bool := false
  /-- A dump has begun, and its tick (R283). -/
  dumped    : Bool := false
  dumpAt    : Nat := 0
  /-- What the unconsumed dump or the last shutdown saved. -/
  saved     : Option Saved := none
deriving DecidableEq, Repr

/-- What Media Care holds beside its registers. -/
structure Mcr where
  stage     : Nat := 0
  /-- The frame of the factor's first baseline edge and the baseline (R299). -/
  baseAt    : Option Nat := none
  baseline  : Nat := 0
  /-- Stage 2 has been entered or left since the last frame edge (R298, R299). -/
  entered   : Bool := false
  left      : Bool := false
  /-- Units programmed and units STAGED by frame, over the last 60,000 frames (R297): frame, programmed, staged. -/
  window    : List (Nat × Nat × Nat) := []
  /-- Best-effort units let through in the frame `beFrame` (R298). -/
  beFrame   : Nat := 0
  beUnits   : Nat := 0
  /-- The self-test that runs (R315) and the die it was given. -/
  testRun   : Option Nat := none
  testDie   : Nat := 0
  /-- A hold-up test runs: the sense code it began at. The frames of the last test begun and completed (R317, R318). -/
  holdupRun : Option Nat := none
  holdupAt  : Option Nat := none
  holdupEnd : Option Nat := none
  /-- The last six results, newest first, with their frames (R322). -/
  holdups   : List (Nat × Nat) := []
  /-- The last test failed; the frame of a due test's last try that could not start, and that of the claim or of the power-up since
  (R253, R318). -/
  holdupBad : Bool := false
  holdupTry : Option Nat := none
  claimedAt : Option Nat := none
  /-- The ages of the blocks have had the time off added (R305). -/
  bootAgeAdded : Bool := false
  /-- An arm that a test holds up (R316). -/
  armDeferred : Bool := false
  /-- An online test is to stop at the end of its current slot (R315). -/
  aborting  : Bool := false
  /-- The pass that DRAM_PATROL or SRAM_SCRUB runs is over (R602). -/
  testPass  : Bool := false
  /-- The frame of the last daily point, and the last forecast (R319, R323). -/
  dayAt     : Option Nat := none
  eolDevice : List Nat := []
  /-- A retirement or a die loss since the last forecast (R323), and the ageing monitors' mean slowdown at the daily points, newest
  first, with their frames (R322). -/
  eolDue    : Bool := false
  slows     : List (Nat × Nat) := []
deriving DecidableEq, Repr

/-! ## Control complex, start-up and power (chapters 13 and 15) -/

def noStack (_ : Nat) : List Nat := []
def notSet (_ : Nat) : Bool := false
/-- Lists of numbers by key. -/
abbrev ListTab := Tab (List Nat) noStack
/-- Flags by key. -/
abbrev FlagTab := Tab Bool notSet

/-- What the Event Controller holds beside its registers. -/
structure Evc where
  /-- The stack of each core, its top first (R526 to R532). -/
  claims : ListTab := {}
  /-- The cores whose stack is frozen (R531). -/
  frozen : FlagTab := {}
  /-- The cores whose first watchdog period has expired without a write (R520). -/
  wdog   : FlagTab := {}
  /-- The tick at which each core's watchdog period began. -/
  wdogAt : NatTab := {}
  /-- The pins of the level shim that are high, by source number (R533). -/
  pins   : FlagTab := {}
  /-- The tick at which each hold-off group began HOLDING (R534). -/
  holdAt : NatTab := {}
deriving DecidableEq, Repr

/-- What Watch latched at Quiet entry (R537), and the pins it has found active outside Quiet. -/
structure Aow where
  wakeEn : Word := 0
  pinEn  : Word := 0
  pinPol : Word := 0
  pmeEn  : Bool := false
deriving DecidableEq, Repr

/-- A Service DMA channel beside its registers: its list's descriptor in progress and its place. -/
structure SdmCh where
  /-- An active list that has not ended (R544). -/
  active  : Bool := false
  /-- The descriptor in progress (R543). -/
  desc    : Option SdmDesc := none
  /-- ABORT was written while it runs (R548). -/
  aborting : Bool := false
  /-- A host-space list that FLR or containment is to end (R551). -/
  hostEnd : Bool := false
  held    : Bool := false
  /-- A read of the descriptor in progress has failed (R365, R549). -/
  bad     : Bool := false
  /-- Paused by pacing (R545). -/
  paused  : Bool := false
deriving DecidableEq, Repr
def SdmCh.dflt (_ : Nat) : SdmCh := {}
abbrev SdmChs := Tab SdmCh SdmCh.dflt

/-- What the Service DMA holds beside its registers: its channels and the one the engine serves (R544). -/
structure Sdm where
  chs     : SdmChs := {}
  running : Option Nat := none
deriving DecidableEq, Repr

/-- Which supplies the device has. -/
inductive Supply where
  /-- No rail; only VDD_AO, so Watch alone acts; the main rails in Quiet; everything. -/
  | off | watchOnly | quiet | on
deriving DecidableEq, Repr

/-- Why the device has stopped with its rails up (R40, R605). -/
inductive Stop where
  | none | thermtrip | dump
deriving DecidableEq, Repr

/-- The straps of R591. -/
structure Straps where
  frefSel    : Bool := false
  hostSris   : Bool := false
  pairId     : Bool := false
  lpVsel     : Bool := false
  claimResetN : Bool := true
deriving DecidableEq, Repr

/-- What start-up and power hold beside their registers. -/
structure Pwr where
  supply   : Supply := .on
  stop     : Stop := .none
  straps   : Straps := {}
  /-- PERST_N is asserted. -/
  perst    : Bool := true
  /-- PME_Turn_Off received, and PME_TO_Ack sent: L2/L3 Ready (R606). -/
  turnOff  : Bool := false
  l23      : Bool := false
  /-- A device reset in progress: its cause code (PWR_RESET_CAUSE), before step 4 (R604). -/
  resetting : Option Nat := none
  /-- The board descriptor in force (R594). -/
  desc     : Option BoardDesc := none
  /-- The ticks at which the last patrol pass over DRAM and scrub pass over SRAM ended (R601). -/
  patrolAt : Nat := 0
  scrubAt  : Nat := 0
  /-- The event log, newest first (R612 to R614), and the entries saved for the next boot (R615). -/
  log      : List LogEntry := []
  savedLog : List LogEntry := []
  /-- The second at which the device went down, where a time of day was valid (R305). -/
  shutdownTai : Option Nat := none
  /-- Boots from power-on or Quiet, and dumps: the counts of SMART (R391). -/
  cycles   : Nat := 0
  unsafeStops : Nat := 0
  /-- The boot NOR's rate in 1-4-4 mode [MHz], once its parameters are read; its input sample point is calibrated (R638). -/
  norMhz   : Nat := 0
  /-- Its density in bytes (R426). -/
  norBytes : Nat := 0
  /-- The input sample point of the boot NOR is calibrated (R638). -/
  norCal   : Bool := false
deriving DecidableEq, Repr

/-! ## Namespaces and the pair (chapters 10 to 12) -/

/-- A namespace. Sizes in logical blocks; `prot` as MLK_NS_STATE: 0 solo, 1 protected, 2 unprotected, 3 resyncing. -/
structure Ns where
  present  : Bool := false
  nsze     : Nat := 0
  ncap     : Nat := 0
  lba512   : Bool := false
  iu4k     : Bool := false
  paired   : Bool := false
  attached : Option Nat := none
  detaching : Bool := false
  peerAttached : Bool := false
  prot     : Nat := 0
  /-- Resync regions changed since the pair was last synchronised (R507). -/
  changed  : List Nat := []
  /-- The draw that generated the placement key (R147). -/
  placeKey : Nat := 0
  /-- The plain key of a paired namespace (R504). -/
  plainKey : Nat := 0
  /-- A create that waits on the partner (R503): the command. -/
  creating : Option CmdId := none
  /-- The detach that waits for the function's commands (R395). -/
  detachFor : Option CmdId := none
  /-- A format, sanitize or delete waits for the namespace's reads (R454, Table 6-6); the command that completes with it,
  and the LBA format and unit size a format leaves. -/
  erasing  : Bool := false
  eraseFor : Option CmdId := none
  eraseTo  : Option (Bool × Bool) := none
  /-- A delete waits (R454). -/
  deleting : Bool := false
  /-- I/O commands fetched meanwhile, oldest first (R454 step 1). -/
  heldIo   : List Instr := []
  /-- This chip is the source of the resync that runs (R508); the namespace was created here by NS_SYNC in it, so the
  partner is its source (R509). -/
  source   : Bool := false
  copied   : Bool := false
  /-- RESYNC_DONE has gone out, and has come (R509). -/
  resyncDoneSent : Bool := false
  resyncDoneGot  : Bool := false
deriving DecidableEq, Repr
def Ns.dflt (_ : Nat) : Ns := {}
/-- Namespaces by NSID. -/
abbrev Nss := Tab Ns Ns.dflt

/-- An entry of a function's Error Information log (R237, R360). -/
structure ErrEntry where
  fn     : Nat
  qid    : Nat
  cid    : Nat
  status : Nat
  lba    : Nat
  nsid   : Nat
deriving DecidableEq, Repr

/-- A message on the Mirror Link (Table 12-5). -/
inductive LinkMsg where
  | mwrite (nsid index unitMask originSeq : Nat) (resync : Bool)
  | mmap (nsid index count action originSeq : Nat) (resync : Bool)
  | merase (nsid originSeq : Nat)
  | mack (originSeq status : Nat)
  | areadReq (r : AreadReq)
  | areadRsp (tag status : Nat)
  | blob (vf : Nat) (bytes : List Byte)
  | blobAck (vf status : Nat)
  | nsSync (m : NsSync)
  | changeMap (nsid count : Nat) (regions : List Nat)
  | repairReq (nsid index part : Nat)
  | resyncDone (nsid : Nat)
  | heartbeat (hb : Heartbeat)
  /-- CONTROL with its subtype and the frame or value it carries. -/
  | control (subtype value : Nat)
  | armReport (r : ArmReport)
  /-- Link-layer flits: ACK of a sequence; NAK of the sequence expected; CREDIT with the limits of VC0 to VC5, header then
  data; INIT; every unacknowledged flit from a sequence on replayed. -/
  | ack (seq : Nat)
  | nak (seq : Nat)
  | credit (limits : List Nat)
  | init (i : InitFlit)
  | replay (seq : Nat)
deriving DecidableEq, Repr

/-- A pin or line the device drives. -/
inductive Pin where
  | thermtripN | wakeN | fenceOut | mediaPwrEn | gpio (n : Nat) | chWpN (ch : Nat) | chCeN (ch : Nat)
  /-- On-die termination of a channel (R189). -/
  | chOdt (ch : Nat)
  | clkreqN
  | attnLed | pwrLed | readyToPull | lpGrant
  /-- The reset of the boot NOR (R638). -/
  | spiRstN
deriving DecidableEq, Repr

/-- A memory request to the host: its function and tag (for a read), the byte offset in its buffer and its length, whether it
writes, the Relaxed Ordering attribute (R347), and whether what it writes is zeros (R210). -/
structure Tlp where
  fn    : Nat
  tag   : Nat := 0
  off   : Nat
  len   : Nat
  write : Bool
  ro    : Bool := false
  zeros : Bool := false
deriving DecidableEq, Repr

/-- What the outside sees the device do, in the order it does it. -/
inductive Out where
  /-- The value a register or memory read returns (R13, R14, R519). -/
  | read (v : Word)
  /-- A core's non-maskable interrupt at its vector (R535). -/
  | nmi (core : Nat) (vec : Word)
  | pin (p : Pin) (high : Bool)
  | link (m : LinkMsg)
  /-- A completion of a command: function, queue, command identifier, status, Do Not Retry, dword 0. -/
  | cqe (fn qid cid status : Nat) (dnr : Bool) (dw0 : Word)
  /-- A completion queue entry's MSI-X message: function and vector. -/
  | msix (fn vec : Nat)
  /-- A data page a log page or other admin command returns: its identifier, and the values in field order. -/
  | page (fn id : Nat) (vals : List Nat)
  /-- A byte string sent: a response of SPDM, a management session or MCTP, a record, a signature. -/
  | bytes (port : Nat) (bs : List Byte)
  /-- A response: the port, its code and its fields. -/
  | resp (port code : Nat) (vals : List Nat)
  /-- A die operation issued: lane, kind of operation. 1 read, 2 program, 3 erase, 4 suspend, 5 resume, 6 reset FAh,
  7 reset FFh, 10 status read, 13 ZQ calibration, 14 duty-cycle-correction, 15 read DQ and 16 write DQ training, 17 pattern
  loop-back. -/
  | die (lane op : Nat)
  /-- An operation with an address and bytes: 8 read levels by Set Features, 9 SLC-mode program behind the prefix opcode, 11
  Get Features, 12 Set Features of the feature list. -/
  | dieArg (lane op addr : Nat) (bs : List Byte)
  /-- A completion sent to the host for a memory, configuration or message request: function, status 0 SC, 1 UR, 2 CA,
  3 RRS, and the data. -/
  | cpl (fn status : Nat) (data : BitVec 64)
  /-- A message or request sent to the host: 1 PME_TO_Ack, 2 PM_PME, 3 INTx none, 4 ATS invalidate completion, 5 error
  message, 6 L1 entry, 7 L1 exit, 8 L0p request, 9 L0p accept, 12 LTR message, 13 DOE response ready, 14 Translation
  Request. -/
  | host (kind fn val : Nat)
  /-- A CIPHER stage's work on a 4 KiB unit: encryption or decryption, the key slot, and the tweaks of its XTS data units, as
  the first LBA and their number (R239, R248, R451). -/
  | cipher (enc : Bool) (slot tweak units : Nat)
  /-- A memory TLP of a function (R347, R348). -/
  | tlp (t : Tlp)
  /-- A burst on the local bus (R555, R558): chip select, word address, beats, the byte enables of the first and the last beat,
  direction, and LP_LOCK_N low. -/
  | lbus (cs addr beats first last : Nat) (write lock : Bool)
  /-- A read of the boot NOR: in 1-1-1 or 1-4-4 mode, as the lines of its data, at a rate [MHz] (R638). -/
  | nor (lines mhz : Nat)
  /-- A sensor-bus access of a telemetry entry or transfer. -/
  | sbus (bus addr : Nat)
deriving DecidableEq, Repr

/-! ## Functions (chapters 9 and 10) -/

/-- A submission queue. `bells` lists, for each doorbell with unfetched entries, the entries left, how many of its
entries were fetched since its start point, and that start point (R157). -/
structure Sq where
  base    : Nat
  cqid    : Nat
  size    : Nat
  head    : Nat := 0
  tail    : Nat := 0
  bells   : List (Nat × Nat × Nat) := []
  /-- Consecutive fetch timeouts, and whether fetching has stopped for them (R365). -/
  tmo     : Nat := 0
  stopped : Bool := false
  /-- Entries that a visit has asked the host for and that have not become commands (R404). -/
  granted : Nat := 0
  /-- The Delete I/O SQ command that waits for the queue's commands (R400). -/
  deleting : Option CmdId := none
deriving DecidableEq, Repr

/-- A completion queue: `used` entries posted and not freed by the host. -/
structure Cq where
  base   : Nat
  size   : Nat
  vector : Nat
  ien    : Bool
  head   : Nat := 0
  used   : Nat := 0
  phase  : Bool := true
deriving DecidableEq, Repr

/-- The states a function passes through beside being disabled or offline (FNM_VF_STATE). -/
inductive Life where
  | active | quiescing | quiesced | freezing | frozen | flr
deriving DecidableEq, Repr

/-- The reset value of a configuration register that software can write: the AER severities and masks of Table 9-8, and the
PCI Express Base Specification's own values of Device Control, Link Control 2 and System Page Size; everything else 0. -/
def cfgReset (off : Nat) : Word :=
  if off = 0x10C then 0x00462010 else if off = 0x114 then 0x0000E000 else if off = 0x68 then 0x2110
  else if off = 0x90 then 6 else if off = 0x2A0 then 1 else 0
/-- Configuration registers as software has set them. -/
abbrev CfgTab := Tab Word cfgReset

/-- What a function holds beside the device's registers. -/
structure Fn where
  /-- Bus Master Enable, Memory Space Enable and D3hot. -/
  bme     : Bool := false
  mse     : Bool := false
  d3hot   : Bool := false
  /-- Its other writable configuration registers. -/
  cfg     : CfgTab := {}
  /-- ATS is enabled (R350). -/
  ats     : Bool := false
  /-- Flexible resources and the secondary state (R381 to R384). -/
  vq      : Nat := 0
  vi      : Nat := 0
  online  : Bool := false
  life    : Life := .active
  /-- NVMe controller registers (R386): CC, ready, fatal status, admin queue registers, interrupt mask. -/
  cc      : Word := 0
  rdy     : Bool := false
  cfs     : Bool := false
  resetting : Bool := false
  aqa     : Word := 0
  asq     : BitVec 64 := 0
  acq     : BitVec 64 := 0
  intms   : Word := 0
  /-- Queues allocated by Number of Queues, once set (R392). -/
  nqueues : Option Nat := none
  /-- Feature values by identifier (R392). -/
  feats   : NatTab := {}
  /-- Its submission and completion queues by identifier (R399). -/
  sqs     : List (Nat × Sq) := []
  cqs     : List (Nat × Cq) := []
  /-- MSI-X: enable, function mask, vectors unmasked, Pending Bit Array, pending counts (R407 to R409). -/
  msixEn  : Bool := false
  fmask   : Bool := false
  unmasked : FlagTab := {}
  /-- The MSI-X table's dwords but for the mask bits (R407). -/
  msixTab : NatTab := {}
  /-- The Pending Bit Array, and pending counts of the groups (R406, R409). -/
  pba     : FlagTab := {}
  pendCnt : NatTab := {}
  /-- HIU_HOLDOFF, the last TIME and THR written, and the group timer's start (R406, R408). -/
  holdoff : Word := 0
  coal    : Option (Nat × Nat) := none
  timerAt : Option Nat := none
  /-- Error event types masked until the Error Information log is read (R401). -/
  masked  : List Nat := []
  /-- AER: uncorrectable and correctable status, headers recorded (R357 to R362). -/
  uncSts  : Word := 0
  corSts  : Word := 0
  headers : Nat := 0
  /-- SMART counts of its own commands (R391): read and write commands, logical data read and written, media errors,
  error log entries. -/
  nRead   : Nat := 0
  nWrite  : Nat := 0
  unitsRead  : Nat := 0
  unitsWrite : Nat := 0
  mediaErrs  : Nat := 0
  errCount   : Nat := 0
  /-- The state of its last Sanitize: 0 never run, 1 completed, 2 in progress (R454). -/
  sanitize : Nat := 0
  /-- Namespaces changed since its Changed Namespace List was read (Table 10-5). -/
  changedNs : List Nat := []
  /-- Commands whose CQE has been counted as waiting for its queue (R405). -/
  cqWaits : List CmdId := []
  /-- The queue last visited for its entries (R404). -/
  lastSq  : Nat := 0
deriving DecidableEq, Repr
def Fn.dflt (_ : Nat) : Fn := {}
/-- Functions by number: 0 is PF0, n is VFn. -/
abbrev Fns := Tab Fn Fn.dflt

/-- What a device-internal transfer is of (R84): admin data, the fetch of an image (R100), an entry of a metering or telemetry
ring, Service DMA, a state blob, the Local Port bridge. -/
inductive Inner where
  | admin | image | sdm | blob
  /-- The records of a minute on their way to the metering ring, its root record after them (R462), and a telemetry record
  (R584). -/
  | ring | root | lens
  /-- A local master's access of an address in the aperture (R571), and the message of an interrupt line that follows such
  writes (R574). -/
  | bridge (addr : Nat)
  | irq (vec : Nat)
deriving DecidableEq, Repr

/-- What a non-posted request was for. -/
inductive NpKind where
  | data (c : CmdId)
  | list (c : CmdId)
  | fetch (fn qid : Nat)
  /-- A read of a device-internal operation, with the admin command it belongs to (R365). -/
  | internal (k : Inner) (cmd : Option CmdId)
deriving DecidableEq, Repr

/-- An outstanding non-posted request. -/
structure Np where
  tag  : Nat
  fn   : Nat
  kind : NpKind
  at_  : Nat
  /-- For a data fetch the unit it reads a part of; for a fetch of queue entries how many it brings. -/
  part : Nat := 0
deriving DecidableEq, Repr

/-- A tag in quarantine (R366): until a tick; whether FLR or containment abandoned it (R367). -/
structure Quar where
  tag    : Nat
  fn     : Nat
  until_ : Nat
  quiet  : Bool
deriving DecidableEq, Repr

/-- A device-internal transfer that waits for unowned HOST_FETCH or HOST_DELIVER capacity (R84): the command it belongs to,
its direction, the 4 KiB units left, and what the outside sees when it is made. -/
structure Intern where
  kind    : Inner
  fn      : Nat := 0
  cmd     : Option CmdId := none
  deliver : Bool
  units   : Nat
  outs    : List Out
deriving DecidableEq, Repr

/-- An Invalidate Request in progress (R354): its function, the tick received, and the tags of the reads outstanding then that
use the range. -/
structure Inval where
  fn   : Nat
  at_  : Nat
  tags : List Nat
deriving DecidableEq, Repr

/-- What the Host Port holds beside its registers. -/
structure Hpt where
  /-- Device-internal transfers that wait for their slots, oldest first. -/
  intern : List Intern := []
  /-- Non-posted requests outstanding, and tags in quarantine (R349, R366). -/
  np     : List Np := []
  quar   : List Quar := []
  /-- The address translation cache: function and page, least recently used first (R351). -/
  atc    : List (Nat × Nat) := []
  /-- Translation Requests outstanding: function and page (R351). -/
  xreqs  : List (Nat × Nat) := []
  /-- Invalidate Requests in progress, oldest first (R354). -/
  inval  : List Inval := []
  /-- The DOE mailbox: a request in progress, its protocol type and the session of a secured one (R356); DOE Error. -/
  doe    : Option (Nat × Option Nat) := none
  doeErr : Bool := false
  /-- The words written to the DOE write mailbox before GO, the newest first; a response object is ready. -/
  doeIn  : List Word := []
  doeRdy : Bool := false
  /-- The frame of the last fetched Read or Write (R345). -/
  rwAt   : Nat := 0
  /-- The tick of the last TLP in either direction (R343); full width has been asked for since the last reduction (R345). -/
  tlpAt  : Nat := 0
  l0pAsked : Bool := false
  /-- The attention timer's start (R372). -/
  attnAt : Option Nat := none
  /-- The host's flow control holds deliveries in the HOST_DELIVER slots in progress (Table 4-6). -/
  stalled : Bool := false
  /-- The host path was lost to the partner (R370). -/
  pathLost : Bool := false
deriving DecidableEq, Repr

/-- A state blob in the making or being loaded: the VF, its direction, and the tick it began (R420, R421). -/
structure Mig where
  vf    : Nat
  save  : Bool
  target : Bool
deriving DecidableEq, Repr

/-! ## Mirror Link (chapter 12) -/

/-- What a VC0 message carries that its MACK settles (R492). -/
inductive MKind where
  | write (wid : Nat)
  | map (c : Option CmdId)
  | resync (nsid : Nat)
  | erase (nsid : Nat)
deriving DecidableEq, Repr

/-- A VC0 message without its MACK: ORIGIN_SEQ, namespace, what it carries, the resync regions it changes (R507), and the
tick from which its 10 ms run, none while the link is down (R493). -/
structure Mirrored where
  seq    : Nat
  nsid   : Nat
  kind   : MKind
  regions : List Nat
  sentAt : Option Nat
deriving DecidableEq, Repr

/-- A long message that arrives in several flits (R472): its VC, the bytes so far, and its 32-byte header. -/
structure LongIn where
  vc    : Nat
  bytes : Nat
  head  : List Byte
deriving DecidableEq, Repr

/-- A formed message in the replay buffer: the flits not yet acknowledged, and the SEQ of the first of them once it has
been transmitted (R473, R484). -/
structure Formed where
  msg   : LinkMsg
  flits : Nat
  seq   : Option Nat
deriving DecidableEq, Repr

/-- What the device's pair state in the media system area records (R469). -/
structure PairStored where
  role   : Nat := 0
  serial : Option (BitVec 64) := none
  grace  : Nat := 20
deriving DecidableEq, Repr

/-- A message of VC0 that waits in the receive buffer (Table 12-5): MWRITE, MMAP or MERASE. -/
inductive InMirror where
  | mwrite (m : MWrite)
  | mmap (m : MMap)
  | merase (nsid originSeq : Nat)
deriving DecidableEq, Repr

/-- What the Mirror Link holds beside its registers. -/
structure Mlk where
  /-- The link session, and how many this chip has begun (R483). -/
  session   : Option Nat := none
  sessions  : Nat := 0
  /-- The partner's last INIT (R479). -/
  peer      : Option InitFlit := none
  /-- Formed messages, oldest first; messages that wait for credit, for room or for the link; SEQ to assign next and
  last acknowledged; SEQ expected (R473, R474). -/
  replay    : List Formed := []
  waiting   : List LinkMsg := []
  txSeq     : Nat := 0
  unacked   : Nat := 0
  rxSeq     : Nat := 0
  /-- Flits accepted since the last acknowledgement, and the tick of the first of them (R475); the long messages whose flits are
  arriving (R472). -/
  accepted  : Nat := 0
  ackAt     : Nat := 0
  longs     : List LongIn := []
  /-- The SEQ of the last NAK received and how many consecutive ones named it (R476). -/
  nakSeq    : Nat := 0
  nakRun    : Nat := 0
  /-- Credits by 2 × VC (headers) and 2 × VC + 1 (data): LIMIT and CONSUMED of the sender, the limits this receiver
  grants, whether one changed since its last report, and the tick at which it did (R477, R478). -/
  limit     : NatTab := {}
  consumed  : NatTab := {}
  granted   : NatTab := {}
  grantNew  : Bool := false
  grantAt   : Nat := 0
  /-- The slots in progress on the mirror lanes, and by lane the flits of a message that ran past its slot, which the lane's
  next slot carries (R486). -/
  slots     : List MirrorSlot := []
  flitDebt  : NatTab := {}
  /-- The tick of the last accepted flit; whether the frame in progress has had its heartbeat, and how many frames in a row had
  none (R482). -/
  lastFlit  : Nat := 0
  hbSeen    : Bool := false
  hbMiss    : Nat := 0
  /-- The millisecond over which corrected flits are counted (R480): its first tick, the flits and those corrected. -/
  fecAt     : Nat := 0
  fecFlits  : Nat := 0
  fecCorr   : Nat := 0
  /-- The ticks at which a speed retrain and a link reset in progress began (R480, R481). -/
  retrainAt : Option Nat := none
  resetAt   : Option Nat := none
  /-- The tick at which the grace period began; whether it was entered at boot (R654). -/
  graceAt   : Option Nat := none
  bootGrace : Bool := false
  /-- The ticks at which the partner's fence was first seen high since the last grace hold began, and of this chip's
  declaration, until the role edge (R501). -/
  fenceAt   : Option Nat := none
  lostAt    : Option Nat := none
  /-- VC0 messages (R492): the next ORIGIN_SEQ and those without MACK. -/
  originSeq : Nat := 0
  sent      : List Mirrored := []
  /-- The indirection units that resyncs have still to send, by namespace, and the VC0 flits they have taken in the frame in
  progress (R508). -/
  resyncs   : List (Nat × List Nat) := []
  resyncOut : Nat := 0
  /-- The pair state as it is stored (R469, R498). -/
  stored    : PairStored := {}
  /-- The partner's change maps that have arrived, by namespace (R508). -/
  peerMaps  : List (Nat × List Nat) := []
  /-- This chip's and the partner's frame for entering JOINED (R509): the pair enters at the later one. -/
  joinOwn   : Option Nat := none
  peerJoin  : Option Nat := none
  /-- VC0 messages received that wait for staging, oldest first (R250). -/
  inbound   : List InMirror := []
  /-- Inbound blob buffers: buffer, source VF, bytes (R512). -/
  blobs     : List (Nat × Nat × List Byte) := []
  /-- The partner has told that its host path is lost, or that its chip goes down (Table 12-5). -/
  peerHostLost : Bool := false
  peerDown  : Bool := false
  /-- Key check values of the partner (R452). -/
  kcvs      : List (Nat × BitVec 64) := []
  /-- The margins LINK_EYE last stored, by lane (R514). -/
  eyes      : NatTab := {}
deriving DecidableEq, Repr

/-! ## Security and metering (chapter 11) -/

/-- An open session (R441): opened with a PSK or by a key exchange, which FINISH completes; the tick of its last secured
message. -/
structure Sess where
  id     : Nat
  psk    : Bool
  ready  : Bool
  lastAt : Nat
deriving DecidableEq, Repr

/-- What a claim stores (R438): PSK, hint, claim nonce, metering key, and the TAI second of the claim where a time of
day had been applied (Table 11-2). -/
structure ClaimRec where
  psk    : List Byte
  hint   : List Byte
  nonce  : List Byte
  mtrKey : List Byte
  second : Option Nat
deriving DecidableEq, Repr

/-- Outcome of the last IMAGE_LOAD or PROFILE_BIND, as QUERY reports it (R445). -/
inductive OpOutcome where
  | none | running | ok | failed (code : Nat)
deriving DecidableEq, Repr

/-- What the Security block holds beside its registers, in fuses, the boot NOR and the media system area. -/
structure Sec where
  /-- Blown fuses of the anti-rollback bank (R431). -/
  rollback  : Nat := 0
  /-- The lifecycle record of the NOR, and the claim nonce of its copy in the media system area (R438, R439). -/
  claim     : Option ClaimRec := none
  sysClaim  : Option (List Byte) := none
  /-- Open sessions, and the next identifier (R441). -/
  sessions  : List Sess := []
  nextSess  : Nat := 1
  /-- The two firmware slots as last read or written, the activation record, and the slot that runs (R426, R430). -/
  slotA     : Option SlotImage := none
  slotB     : Option SlotImage := none
  preferB   : Bool := false
  running   : Option SlotImage := none
  /-- A downloaded firmware image (R430); a byte that no download wrote is none. -/
  download  : List (Option Byte) := []
  /-- The last IMAGE_LOAD and PROFILE_BIND; whether a management request started the load that runs. -/
  lastLoad  : OpOutcome := .none
  lastBind  : OpOutcome := .none
  mgmtLoad  : Bool := false
deriving DecidableEq, Repr

/-- A key slot (R446): 0 EMPTY, 1 GENERATED, 2 INSTALLED, 3 ERASING, and its key (R447). -/
structure KeySlot where
  state : Nat := 0
  key   : List Byte := []
deriving DecidableEq, Repr
def KeySlot.dflt (_ : Nat) : KeySlot := {}
/-- Key slots by NSID. -/
abbrev KeySlots := Tab KeySlot KeySlot.dflt

/-- What a VF has counted in the open minute (Table 11-7). `capSum` adds the weighted mapped units at each second edge;
`exc` counts by cause code. -/
structure MCount where
  readOps    : Nat := 0
  writeOps   : Nat := 0
  readBytes  : Nat := 0
  writeBytes : Nat := 0
  capSum     : Nat := 0
  readsB     : Nat := 0
  readsBe    : Nat := 0
  writesB    : Nat := 0
  writesBe   : Nat := 0
  exc        : List Nat := []
  other      : Nat := 0
  migratedIn : Bool := false
deriving DecidableEq, Repr
def MCount.dflt (_ : Nat) : MCount := {}
/-- Counts by VF. -/
abbrev MCounts := Tab MCount MCount.dflt

/-- No byte string. -/
def noBytes (_ : Nat) : List Byte := []
/-- Byte strings by key. -/
abbrev BytesTab := Tab (List Byte) noBytes

/-- A closed minute of the archive (R459): its records in VF order, and its root record once signed (R458). -/
structure Minute where
  minute  : Nat
  partial_ : Bool
  noTod   : Bool
  records : List (List Byte)
  root    : Option (List Byte)
  /-- It goes to the PF0 ring (R462). -/
  ring    : Bool := false
deriving DecidableEq, Repr

/-- What Metering holds beside its registers. -/
structure Mtr where
  /-- The minute that is open, once the first minute edge after the claim has passed (R455), and its counts. -/
  minute   : Option Nat := none
  counts   : MCounts := {}
  /-- Frames of the open minute that began outside LOCKED (R66); the image changed in it; it spans a dump; Park was in
  force in part of it. -/
  holdover : Nat := 0
  switched : Bool := false
  restored : Bool := false
  parked   : Bool := false
  /-- The leaf hash of each VF's last record (R457); none before GENESIS. -/
  heads    : BytesTab := {}
  /-- Closed minutes, the newest first (R459). -/
  archive  : List Minute := []
  /-- MTR_ARCH_CONS as applied (R460), and the ring's base and size in force. -/
  archCons : Nat := 0
  /-- The last signed minute, of which MTR_LAST_MINUTE_HI shows what a read of _LO latched. -/
  lastMinute : Nat := 0
  /-- The open minute, its counts and the chain heads as a dump or a clean shutdown saved them (R461). -/
  saved    : Option (Option Nat × MCounts × BytesTab) := none
  /-- The base and the size of the metering ring in force (R462). -/
  ringBase : Nat := 0
  ringLog2 : Nat := 13
deriving DecidableEq, Repr

/-! ## Local Port, Telemetry Lens and NVMe-MI (chapter 14) -/

/-- For whom a local-bus burst runs. -/
inductive BurstFor where
  /-- A host read; a write to a window with POSTED 1; one to a window with POSTED 0. -/
  | read | posted | write
  /-- The read of an AtomicOp, and whether its compare fails; its write (R559). -/
  | atomicRead (casFails : Bool) | atomicWrite
  | core (c : Nat)
deriving DecidableEq, Repr

/-- A burst on the local bus or waiting for it (R555, R558): its window, BAR offset, local address, beats, chip select, the byte
enables of its first and last beat, direction, the requester, the completions of its request, and whether it is the last of it. -/
structure Burst where
  for_  : BurstFor
  win   : Nat
  off   : Nat
  addr  : Nat
  beats : Nat
  cs    : Nat := 0
  be0   : Nat := 15
  be1   : Nat := 15
  write : Bool
  req   : Nat
  cpls  : Nat := 1
  last  : Bool
deriving DecidableEq, Repr

/-- An upstream read (R571): its address and length, and the tick at which its data arrived. -/
structure UpRead where
  addr  : Nat
  len   : Nat
  ready : Option Nat := none
  /-- The host's answer failed, or never came (R365). -/
  bad   : Bool := false
deriving DecidableEq, Repr

/-- A host request to BAR4/5: offset, size, write, requester; for an AtomicOp, whether its compare fails. -/
structure WinReq where
  off   : Nat
  size  : Nat
  write : Bool
  req   : Nat
  atomic : Option Bool := none
deriving DecidableEq, Repr

/-- What the Local Port Bridge holds beside its registers. -/
structure Lpb where
  /-- Bursts in order; the first is on the bus, since a tick. -/
  queue    : List Burst := []
  burstAt  : Nat := 0
  /-- Fetched blocks (R557): window, local block address, the tick. -/
  fetched  : List (Nat × Nat × Nat) := []
  /-- The tick at which a commit began to drain; the requests that wait in the Host Port, for it or for their window
  (R557, R565). -/
  drainAt  : Option Nat := none
  waiting  : List WinReq := []
  /-- A local master holds the bus; retries of its request (R569). -/
  granted  : Bool := false
  retries  : Nat := 0
  /-- Bytes in the upstream buffer, by write in arrival order; upstream reads (R571). -/
  upBuf    : List Nat := []
  upReads  : List UpRead := []
deriving DecidableEq, Repr

/-- What the Telemetry Lens holds beside its registers. -/
structure Tln where
  /-- TLN_SAMPLEe_CFG and TLN_RECn_CFG as the last frame edge took them. -/
  sampleCfg : NatTab := {}
  recCfg    : NatTab := {}
  /-- Entries whose sample runs (R578); the transfer mailbox waits for those of its bus (R577). -/
  busy      : List Nat := []
  xferWait  : Bool := false
  /-- The frame of each entry's last good sample, plus 1; 0 for none (R581). -/
  goodAt    : NatTab := {}
  /-- Emissions of each record since reset (R582). -/
  seqs      : NatTab := {}
  /-- The telemetry buffer, the newest record first (R583). -/
  buffer    : List (List Byte) := []
deriving DecidableEq, Repr

/-- What the NVMe-MI endpoint holds (R586, R587): EID, SMBus frequency code, transmission unit. -/
structure Mi where
  eid     : Nat := 0
  freq    : Nat := 1
  mtu     : Nat := 64
deriving DecidableEq, Repr

/-- The state of the block. -/
structure State where
  /-- The commands waiting, first in, first out. -/
  pending : List Instr := []
  /-- The register file, and one record for each block beside it. -/
  regs    : Regs := {}
  ftb     : Ftb := {}
  prx     : Prx := {}
  tenants : Tenants := {}
  cmds    : List Cmd := []
  mch     : Mch := {}
  rdp     : Rdp := {}
  wrp     : Wrp := {}
  mcr     : Mcr := {}
  nss     : Nss := {}
  fns     : Fns := {}
  hpt     : Hpt := {}
  /-- The state blob in the making (R420). -/
  mig     : Option Mig := none
  /-- Asynchronous events waiting for a request: function, type, information and log page (R392). -/
  aens    : List (Nat × Nat × Nat × Nat) := []
  /-- The functions' Error Information logs, newest first. -/
  errs    : List ErrEntry := []
  /-- The control complex, the link, power, security, the ports. -/
  evc     : Evc := {}
  aow     : Aow := {}
  sdm     : Sdm := {}
  mlk     : Mlk := {}
  pwr     : Pwr := {}
  sec     : Sec := {}
  keys    : KeySlots := {}
  mtr     : Mtr := {}
  lpb     : Lpb := {}
  tln     : Tln := {}
  mi      : Mi := {}
  /-- What the outside has seen, the newest first. -/
  out     : List Out := []
  /-- How many free values have been drawn. -/
  draw    : Nat := 0
deriving DecidableEq, Repr

/-- The state after reset: every register at the value Table 17-2 gives, boot stage 0, nothing waiting. -/
def State.reset : State := {}

end Sys2Proof.Machine
end

