-- ==== Sys2Proof/Machine/Ops.lean ====
section
/-! DEFINITION. The named operations every meaning is written with: reading and writing registers, raising an event
(R521), counting and logging an error (R37, R613), what the outside sees, free values, and power. -/
namespace Sys2Proof.Machine

/-! ## Registers -/

/-- The value a register holds. -/
def State.reg (s : State) (off : Nat) : Word := s.regs.get off

/-- Stores a value in a register. -/
def State.setReg (s : State) (off : Nat) (v : Word) : State := { s with regs := s.regs.set off v }

/-- `w` bits of a word from bit `lo` up, as a number (R8). -/
def wordField (r : Word) (lo w : Nat) : Nat := r.toNat / 2 ^ lo % 2 ^ w

/-- The word with `w` bits from bit `lo` up replaced by a number taken modulo 2^w. -/
def setWordField (r : Word) (lo w v : Nat) : Word :=
  (r &&& ~~~(BitVec.ofNat 32 ((2 ^ w - 1) * 2 ^ lo))) ||| BitVec.ofNat 32 (v % 2 ^ w * 2 ^ lo)

/-- A field of a register. -/
def State.field (s : State) (off lo w : Nat) : Nat := wordField (s.reg off) lo w

/-- Sets a field of a register. -/
def State.setField (s : State) (off lo w v : Nat) : State := s.setReg off (setWordField (s.reg off) lo w v)

/-- A bit of a register. -/
def State.bit (s : State) (off i : Nat) : Bool := s.field off i 1 == 1

/-- Sets or clears a bit of a register. -/
def State.setBit (s : State) (off i : Nat) (b : Bool) : State := s.setField off i 1 b.toNat

/-- A register as a number. -/
def State.num (s : State) (off : Nat) : Nat := (s.reg off).toNat

/-- Stores a number modulo 2^32 in a register. -/
def State.setNum (s : State) (off v : Nat) : State := s.setReg off (BitVec.ofNat 32 v)

/-- Stores an integer as a signed 32-bit value. -/
def State.setInt (s : State) (off : Nat) (v : Int) : State := s.setReg off (BitVec.ofInt 32 v)

/-- Adds to a counter, which saturates at 0xFFFF_FFFF (R37). -/
def State.inc (s : State) (off : Nat) (n : Nat := 1) : State := s.setNum off (satAdd 32 (s.num off) n)

/-! ## What the outside sees, and free values -/

/-- An action the outside sees. -/
def State.emit (s : State) (o : Out) : State := { s with out := o :: s.out }

/-- The free value of the next draw. -/
def State.freeVal (s : State) : BitVec 64 := Config.freeBits s.draw

/-- Uses up a draw. -/
def State.drawn (s : State) : State := { s with draw := s.draw + 1 }

/-! ## Time -/

/-- The tick count that durations are measured on. -/
def State.now (s : State) : Nat := s.ftb.clock
/-- The frame number. -/
def State.frame (s : State) : Nat := s.ftb.frame.toNat
/-- The cell in progress, counted from cell 0 of frame 0. -/
def State.cell (s : State) : Nat := s.frame * 250 + s.ftb.tick / 2000
/-- The time point the event log records. -/
def State.stamp (s : State) : Stamp := { frame := s.frame, cell := s.ftb.tick / 2000 }
/-- A time of day has been applied since reset (Table 2-7). -/
def State.todValid (s : State) : Bool := s.bit Reg.ftbStatus 5

/-! ## Events to the Event Controller -/

/-- A source number that a ring write can name: not reserved, not a level source (Table 13-3, R522). -/
def messageSource (n : Nat) : Bool := n ≤ 37 || (64 ≤ n && n ≤ 111) || (896 ≤ n && n ≤ 991)

/-- Moves the hold-off group of a source that becomes pending from IDLE to HOLDING (R534). -/
def State.holdGroup (s : State) (src : Nat) : State :=
  let g := s.field (Reg.evcSrcCfg src) 16 6
  if s.bit (Reg.evcSrcCfg src) 22 && s.field (Reg.evcHoldoff g) 0 16 != 0 && s.field (Reg.evcHoldoff g) 16 2 == 0 then
    let t := s.setField (Reg.evcHoldoff g) 16 2 1
    { t with evc := { t.evc with holdAt := t.evc.holdAt.set g t.now } }
  else s

/-- Sets PENDING of a source (R522, R533). -/
def State.pend (s : State) (src : Nat) : State := (s.setBit (Reg.evcSrcStatus src) 0 true).holdGroup src

/-- A ring write for a message source that reaches the EVC: it pends, or merges with one already pending (R523). -/
def State.ring (s : State) (src : Nat) : State :=
  if s.bit (Reg.evcSrcStatus src) 0 then (s.inc Reg.evcRingCnt).inc Reg.evcMergeCnt
  else (s.inc Reg.evcRingCnt).pend src

/-- The source that the block of an _EVENT register raises (Table 13-3). -/
def eventSource (ev : Nat) : Nat :=
  if ev = Reg.ftbEvent then 16 else if ev = Reg.prxEvent then 17 else if ev = Reg.mchEvent then 18
  else if ev = Reg.rdpEvent then 19 else if ev = Reg.wrpEvent then 20 else if ev = Reg.mcrEvent then 21
  else if ev = Reg.hptEvent then 22 else if ev = Reg.sppEvent then 23 else if ev = Reg.fnmEvent then 24
  else if ev = Reg.qenEvent then 25 else if ev = Reg.secEvent then 26 else if ev = Reg.tcyEvent then 27
  else if ev = Reg.mtrEvent then 28 else if ev = Reg.mlkEvent then 29 else if ev = Reg.ddrEvent then 30
  else if ev = Reg.srmEvent then 31 else if ev = Reg.lpbEvent then 32 else if ev = Reg.tlnEvent then 33
  else if ev = Reg.pwrEvent then 34 else 35

/-- Sets a bit of an _EVENT register; where the bit was clear and its _EVENT_EN bit is set, the block raises its
source (R521). Every _EVENT_EN register follows its _EVENT register (Table 17-2). -/
def State.raise (s : State) (ev i : Nat) : State :=
  let t := s.setBit ev i true
  if !s.bit ev i && s.bit (ev + 4) i then t.ring (eventSource ev) else t

/-! ## The device event log -/

/-- How many entries the ring holds (R614). -/
abbrev logSize : Nat := 16384

/-- Writes a new entry (R613, R614). -/
def State.logNew (s : State) (e : LogEntry) : State :=
  let prod := s.num Reg.pwrEvlogProd
  let t : State := { s with pwr := { s.pwr with log := ({ e with seq := prod } :: s.pwr.log).take logSize } }
  let t := t.setNum Reg.pwrEvlogProd (prod + 1)
  if (prod + 1 + (2 ^ 32 - s.num Reg.pwrEvlogCons)) % 2 ^ 32 > logSize then
    ((t.setNum Reg.pwrEvlogCons (s.num Reg.pwrEvlogCons + 1)).inc Reg.pwrEvlogLost).raise Reg.pwrEvent 2
  else t

/-- Whether an occurrence joins an entry: same source, same code, FIRST no more than 500,000 ticks ago (R613). An entry
restored from before the boot takes none. -/
def LogEntry.joins (e : LogEntry) (b : Block) (code inst now : Nat) : Bool :=
  !e.restored && e.block == b && e.code == code && e.inst == inst && now ≤ e.at_ + 500000

/-- The log with an occurrence added to its newest matching entry, if it has one (R613). -/
def coalesce (b : Block) (code inst now : Nat) (last : Stamp) : List LogEntry → Option (List LogEntry)
  | [] => none
  | e :: rest =>
    if e.joins b code inst now then
      some ({ e with count := satAdd 32 e.count 1, last := last, coalesced := true } :: rest)
    else (coalesce b code inst now last rest).map (e :: ·)

/-- Records an occurrence in the device event log (R612, R613). 0xFFFF stands for no instance and no function. -/
def State.logAt (s : State) (b : Block) (code inst fn : Nat) (detail : List Word := []) : State :=
  match coalesce b code inst s.now s.stamp s.pwr.log with
  | some log => State.inc { s with pwr := { s.pwr with log := log } } Reg.pwrEvlogCoalesceCnt
  | none =>
    s.logNew { seq := 0, block := b, code := code, inst := inst, fn := fn, coalesced := false, noTod := !s.todValid,
               restored := false, count := 1, first := s.stamp, last := s.stamp, detail := detail, at_ := s.now }

/-- CODE of a counter: its byte offset within the block, or within its instance's window where the block has one for
each channel (Table 15-8). -/
def Block.codeOf (b : Block) (off : Nat) : Nat :=
  let o := off - b.base
  match b with
  | .mch => if o < 0x80000 then o % 0x4000 else o
  | .sdm => if 0x1000 ≤ o then o % 0x100 else o
  | _ => o

/-- Counts an error in the counter at `off` of block `b` and records it: CODE is the counter's offset (R37, R612). -/
def State.countErr (s : State) (b : Block) (off : Nat) (inst : Nat := 0xFFFF) (fn : Nat := 0xFFFF)
    (detail : List Word := []) : State :=
  (s.inc off).logAt b (b.codeOf off) inst fn detail

/-- Raises an event that no counter applies to, and records it: CODE is 0x8000 plus the bit (R612). -/
def State.raiseLog (s : State) (b : Block) (ev i : Nat) (inst : Nat := 0xFFFF) (fn : Nat := 0xFFFF) : State :=
  (s.raise ev i).logAt b (0x8000 + i) inst fn

/-! ## Power -/

/-- The device has its rails and has not stopped for THERMTRIP or a dump (R40, R605). -/
def State.live (s : State) : Bool := s.pwr.supply == .on && s.pwr.stop == .none

/-- The effect `f` while the device is live; a command that meets a device without power or stopped changes nothing. -/
def State.whenLive (s : State) (f : State → State) : State := if s.live then f s else s

/-- The effect `f` while the rails are up and no dump has stopped the device: the dump's triggers act after a THERMTRIP
as well (R644). -/
def State.whenRails (s : State) (f : State → State) : State :=
  if s.pwr.supply = .on ∧ s.pwr.stop ≠ .dump then f s else s

/-- The effect `f` where condition `c` holds, and no change elsewhere. -/
def State.when (s : State) (c : Bool) (f : State → State) : State := if c then f s else s

/-! ## Who acts (R11, R136, R519) -/

/-- The base of the register space in the control cores' memory map (Table 13-2). -/
abbrev coreRegBase : Nat := 0x40000000

/-- Sets a fault bit of a core; from 0 to 1 it raises the core's non-maskable interrupt (R535). -/
def State.raiseFault (s : State) (core bit : Nat) : State :=
  if s.bit (Reg.evcCoreFault core) bit then s
  else (s.setBit (Reg.evcCoreFault core) bit true).emit (.nmi core (s.reg (Reg.evcCoreNmiVec core)))

/-- An access that has no effect and raises ACCESS to its core, with its address recorded (R519). -/
def State.accessFault (s : State) (core addr : Nat) : State :=
  let t := (s.setField (Reg.evcCoreFault core) 16 6 (addr / 2 ^ 32)).setNum (Reg.evcCoreFaultAddr core) addr
  let t := t.raiseFault core 0
  t.countErr .evc Reg.evcAccessFaultCnt core 0xFFFF [t.reg (Reg.evcCoreFault core), t.reg (Reg.evcCoreFaultAddr core)]

/-- The effect of a write that only the control cores may make (R136). Cores 6 and 7 have no access to the register
(R518, R519). -/
def State.byCore (s : State) (by_ : Requester) (off : Nat) (f : State → State) : State :=
  match by_ with
  | .pf0 => s
  | .core n => s.whenLive (if n < 6 then f else (·.accessFault n (coreRegBase + off)))

/-- The effect of a write that PF0 and cores 0 to 5 may make (R518, R519). -/
def State.byHost (s : State) (by_ : Requester) (off : Nat) (f : State → State) : State :=
  match by_ with
  | .pf0 => s.whenLive f
  | .core n => s.whenLive (if n < 6 then f else (·.accessFault n (coreRegBase + off)))

/-! ## Sending on the Mirror Link -/

/-- The VC of a message (Table 12-5). -/
def LinkMsg.vc : LinkMsg → Nat
  | .mwrite .. | .mmap .. | .merase .. => 0
  | .mack .. => 1
  | .areadReq _ => 2
  | .areadRsp .. => 3
  | .blob .. | .blobAck .. | .nsSync .. | .changeMap .. | .repairReq .. | .resyncDone _ => 4
  | _ => 5

/-- The set bits of a mask, as a count. -/
def bitCount (m : Nat) : Nat := ((List.range 32).filter (m.testBit ·)).length

/-- Bytes of data a long message carries; 0 for a short one (Table 12-5). -/
def LinkMsg.dataBytes : LinkMsg → Nat
  | .mwrite _ _ mask _ _ => 4096 * bitCount mask
  | .areadRsp _ st => if st = 0 then 4096 else 0
  | .blob _ bytes => bytes.length
  | .changeMap _ count _ => (count + 7) / 8
  | _ => 0

/-- Data credits of a message: its 64-byte blocks (R477). -/
def LinkMsg.blocks (m : LinkMsg) : Nat := (m.dataBytes + 63) / 64

/-- The flits of a message: a short message in a SHORT flit of its own; a long one by 236 bytes (Tables 12-1, 12-3). -/
def LinkMsg.flits (m : LinkMsg) : Nat := if m.dataBytes = 0 then 1 else (32 + 64 * m.blocks + 235) / 236

/-- The link is up (R479). -/
def State.linkUp (s : State) : Bool := s.bit Reg.mlkStatus 1
/-- Flits in the replay buffer and its spill (R484). -/
def State.replayDepth (s : State) : Nat := (s.mlk.replay.map (·.flits)).sum
/-- Credit left: (LIMIT − CONSUMED) mod 65,536 (R477). -/
def State.credit (s : State) (vc kind : Nat) : Nat :=
  (s.mlk.limit.get (2 * vc + kind) + 65536 - s.mlk.consumed.get (2 * vc + kind) % 65536) % 65536

/-- Whether a message may be formed now: credits for it (R477), and room in the replay buffer and its spill (R485). -/
def State.canForm (s : State) (m : LinkMsg) : Bool :=
  1 ≤ s.credit m.vc 0 && m.blocks ≤ s.credit m.vc 1 && s.replayDepth + m.flits ≤ 8192 + 262144

/-- Spilling to DRAM when more than 8,192 flits are held (R484). -/
def State.showSpill (s : State) (before : Nat) : State :=
  let d := s.replayDepth
  let t := if max 8192 before < d then
      (s.inc Reg.mlkSpillCnt (d - max 8192 before)).when (!s.bit Reg.mlkStatus 13) (·.raise Reg.mlkEvent 14)
    else s
  t.setBit Reg.mlkStatus 13 (decide (8192 < d))

/-- Forms a message: its credits are charged once (R478). -/
def State.form (s : State) (m : LinkMsg) : State :=
  let c := s.mlk.consumed
  let c := c.set (2 * m.vc) ((c.get (2 * m.vc) + 1) % 65536)
  let c := c.set (2 * m.vc + 1) ((c.get (2 * m.vc + 1) + m.blocks) % 65536)
  let f : Formed := { msg := m, flits := m.flits, seq := none }
  State.showSpill { s with mlk := { s.mlk with consumed := c, replay := s.mlk.replay ++ [f] } } s.replayDepth

/-- The traffic of the background kind (R489): resync units, repair requests, namespace synchronisation on VC4, blobs. -/
def LinkMsg.background : LinkMsg → Bool
  | .mwrite _ _ _ _ r => r
  | .mmap _ _ _ _ _ r => r
  | .blob .. | .blobAck .. | .nsSync .. | .changeMap .. | .repairReq .. | .resyncDone _ => true
  | _ => false

/-- What needs no slot: heartbeats (R487), and the dump notice, which the dump sends (R19, R283). -/
def LinkMsg.free : LinkMsg → Bool
  | .heartbeat _ => true
  | .control sub _ => sub == 8
  | _ => false

/-- The slot in progress that carries a message (R486, R489). -/
def State.mirrorSlot? (s : State) (m : LinkMsg) : Option MirrorSlot :=
  s.mlk.slots.find? fun x => x.left != 0 && (if m.background then x.bg else x.mask.testBit m.vc)

/-- Whether a formed message may be transmitted now: the schedule carries it, or it needs none (R486, R489). -/
def State.mayGo (s : State) (m : LinkMsg) : Bool :=
  s.field Reg.prxStatus 0 2 == 0 || m.free || (s.mirrorSlot? m).isSome

/-- The oldest message not transmitted that may go, with each VC in its order. -/
def State.nextOut (s : State) : List Nat → List Formed → Option Formed
  | _, [] => none
  | shut, f :: rest =>
    if f.seq.isSome then s.nextOut shut rest
    else if !shut.contains f.msg.vc && s.mayGo f.msg then some f
    else s.nextOut (f.msg.vc :: shut) rest

/-- A message takes its flits from the slot that carries it; what the slot does not hold, its lane's next slot carries. -/
def State.spendFlits (s : State) (m : LinkMsg) : State :=
  if s.field Reg.prxStatus 0 2 = 0 ∨ m.free then s
  else
    match s.mirrorSlot? m with
    | none => s
    | some x =>
      let spent (y : MirrorSlot) : MirrorSlot := if y.lane = x.lane then { y with left := y.left - m.flits } else y
      { s with mlk := { s.mlk with slots := s.mlk.slots.map spent,
                                   flitDebt := s.mlk.flitDebt.modify x.lane (· + (m.flits - x.left)) } }

/-- The ORIGIN_SEQ of a message of VC0 (R492). -/
def LinkMsg.origin? : LinkMsg → Option Nat
  | .mwrite _ _ _ q _ | .mmap _ _ _ _ q _ | .merase _ q => some q
  | _ => none

/-- A message leaves: the timeout of an around-read request (R226) and the wait for the MACK of a VC0 message (R493) run from
now. -/
def State.noteLeft (s : State) (m : LinkMsg) : State :=
  match m.origin? with
  | some q =>
    { s with mlk := { s.mlk with sent := s.mlk.sent.map fun x => if x.seq = q then { x with sentAt := some s.now } else x } }
  | none =>
  match m with
  | .areadReq r =>
    let note (a : Around) : Around := if a.tag = r.tag ∧ a.sentAt.isNone then { a with sentAt := some s.now } else a
    { s with rdp := { s.rdp with sent := s.rdp.sent.map note } }
  | _ => s

/-- The message transmitted, with its SEQ, behind those transmitted before it (R473). -/
def markSent (f : Formed) (seq : Nat) (l : List Formed) : List Formed :=
  l.filter (·.seq.isSome) ++ { f with seq := some seq } :: (l.filter (·.seq.isNone)).erase f

/-- Sends the acknowledgement of everything accepted (R475). -/
def State.sendAck (s : State) : State :=
  State.emit { s with mlk := { s.mlk with accepted := 0 } } (.link (.ack ((s.mlk.rxSeq + 4095) % 4096)))

/-- An acknowledgement that is owed rides in the header of what goes out (R475). -/
def State.rideAck (s : State) : State := if s.mlk.accepted = 0 then s else s.sendAck

/-- Transmits formed messages while at most 2,048 transmitted flits are unacknowledged (R473). -/
def transmit : Nat → State → State
  | 0, s => s
  | n + 1, s =>
    match s.nextOut [] s.mlk.replay with
    | none => s
    | some f =>
      if s.linkUp ∧ s.mlk.retrainAt.isNone ∧ s.mlk.resetAt.isNone ∧ s.mlk.unacked + f.flits ≤ 2048 then
        let k : Mlk := { s.mlk with replay := markSent f s.mlk.txSeq s.mlk.replay,
                                    txSeq := (s.mlk.txSeq + f.flits) % 4096, unacked := s.mlk.unacked + f.flits }
        transmit n ((((State.rideAck { s with mlk := k }).emit (.link f.msg)).spendFlits f.msg).noteLeft f.msg)
      else s

/-- Forms waiting messages as credit and room allow, each VC in its order, and transmits (R477, R485). A VC without
credit stalls only itself. -/
def State.pump (s : State) : State :=
  let t := s.mlk.waiting.foldl (fun (p : State × List Nat) m =>
      if p.2.contains m.vc || !p.1.canForm m then
        ({ p.1 with mlk := { p.1.mlk with waiting := p.1.mlk.waiting ++ [m] } }, m.vc :: p.2)
      else (p.1.form m, p.2)) ({ s with mlk := { s.mlk with waiting := [] } }, [])
  transmit 64 t.1

/-- Sends a message to the partner. On an unpaired board, or with neither a link nor a session, there is no link to
hold it for (R466, R498); a heartbeat is formed only while the link is up (R485); every other message is formed, or
waits for credit, and is held while the link is down. -/
def State.send (s : State) (m : LinkMsg) : State :=
  match m with
  | .ack _ | .nak _ | .credit _ | .init _ | .replay _ => s.emit (.link m)
  | .heartbeat _ => if s.linkUp then State.pump { s with mlk := { s.mlk with waiting := s.mlk.waiting ++ [m] } } else s
  | _ =>
    if s.linkUp || s.mlk.session.isSome then
      State.pump { s with mlk := { s.mlk with waiting := s.mlk.waiting ++ [m] } }
    else s

/-- A message leaves the receive buffer: its header credit and the credits of its data blocks are granted again (R478). -/
def State.took (s : State) (vc blocks : Nat) : State :=
  let g := s.mlk.granted
  let g := g.set (2 * vc) ((g.get (2 * vc) + 1) % 65536)
  let g := g.set (2 * vc + 1) ((g.get (2 * vc + 1) + blocks) % 65536)
  let since := if s.mlk.grantNew then s.mlk.grantAt else s.now
  if s.linkUp then { s with mlk := { s.mlk with granted := g, grantNew := true, grantAt := since } } else s

/-! ## Commands of the functions -/

/-- The command with an identity. -/
def State.cmd? (s : State) (c : CmdId) : Option Cmd := s.cmds.find? (·.id == c)

/-- Changes the command with an identity. -/
def State.updCmd (s : State) (c : CmdId) (f : Cmd → Cmd) : State :=
  { s with cmds := s.cmds.map fun x => if x.id == c then f x else x }

/-- Removes the command with an identity. -/
def State.dropCmd (s : State) (c : CmdId) : State := { s with cmds := s.cmds.filter (·.id != c) }

/-- An NVMe status: Status Code Type and Status Code. -/
abbrev nvmeStatus (sct sc : Nat) : Nat := sct * 256 + sc

/-- Gives a command its status; CQE_POST then posts it. -/
def State.finish (s : State) (c : CmdId) (status : Nat) (dw0 : Word := 0) (dnr : Bool := false) : State :=
  s.updCmd c fun x => if x.status.isSome then x else { x with status := some status, dw0 := dw0, dnr := dnr }

/-- Adds an event of Table 4-6 to a command: the earliest stays (R164). -/
def Cmd.meet (x : Cmd) (cause : Nat) : Cmd := if x.cause = 0 then { x with cause := cause } else x

/-- Records an event of Table 4-6 on a command. -/
def State.meet (s : State) (c : CmdId) (cause : Nat) : State := s.updCmd c (·.meet cause)

/-- The opcode of Asynchronous Event Request. -/
abbrev opAer : Nat := 0x0C

/-- An asynchronous event to a function: it completes an outstanding request, or waits for one (R392). -/
def State.asyncEvent (s : State) (fn ty info page : Nat) : State :=
  match s.cmds.find? (fun x => x.admin && x.op == opAer && x.id.fn == fn && x.status.isNone) with
  | some x => s.finish x.id 0 (BitVec.ofNat 32 (ty + info * 256 + page * 65536))
  | none => { s with aens := s.aens ++ [(fn, ty, info, page)] }

/-- A SMART critical-warning event to PF0 where Asynchronous Event Configuration asks for the warning's bit (R392). -/
def State.criticalEvent (s : State) (bit info : Nat) : State :=
  if ((s.fns.get 0).feats.get 0x0B).testBit bit then s.asyncEvent 0 1 info 2 else s

end Sys2Proof.Machine
end

