-- ==== Sys2Proof/Machine/Tags.lean ====
section
/-! DEFINITION. Functions by number, and the non-posted requests the device makes of the host with their tags (R349,
R363 to R368). -/
namespace Sys2Proof.Machine

/-! ## Functions -/

def State.fn (s : State) (f : Nat) : Fn := s.fns.get f
/-- Changes a function. -/
def State.updFn (s : State) (f : Nat) (g : Fn → Fn) : State := { s with fns := s.fns.modify f g }

/-! ## Non-posted requests and tags -/

/-- The completion timer of PF0's Device Control 2 in ticks (Table 9-9); none with Completion Timeout Disable (R368). -/
def State.cplTimer (s : State) : Option Nat :=
  let v := ((s.fn 0).cfg.get 0x88).toNat
  if v / 16 % 2 = 1 then none
  else some (if v % 16 = 1 then 40000 else if v % 16 = 2 then 4000000 else if v % 16 = 6 then 80000000 else 20000000)

/-- How long a tag stays in quarantine (R366). -/
def State.quarTicks (s : State) : Nat := match s.cplTimer with | some t => 2 * t | none => 210000000

/-- The tag space in use (R349): 14-bit in FLIT mode when enabled, else 10-bit when enabled, else 8-bit. -/
def State.tagSpace (s : State) : Nat :=
  if s.bit Reg.hptStatus 8 ∧ ((s.fn 0).cfg.get 0x248).toNat / 2 ^ 2 % 2 = 1 then 16384
  else if ((s.fn 0).cfg.get 0x88).toNat / 2 ^ 12 % 2 = 1 then 1024 else 256

/-- The lowest free tag, with at most 4,096 requests outstanding (R349). -/
def State.freeNpTag (s : State) : Option Nat :=
  if 4096 ≤ s.hpt.np.length then none
  else (List.range s.tagSpace).find? fun t => !(s.hpt.np.any (·.tag == t)) && !(s.hpt.quar.any (·.tag == t))

/-- Shows the requests outstanding and the tags in quarantine (Table 9-13). -/
def State.showTags (s : State) : State :=
  (s.setNum Reg.hptNpOut (s.hpt.np.length % 8192)).setNum Reg.hptTagQuar (min 65535 s.hpt.quar.length)

/-- Max Payload Size and Max Read Request Size of PF0's Device Control, which apply to every function (R348). -/
def State.maxPayload (s : State) : Nat := 128 * 2 ^ (((s.fn 0).cfg.get 0x68).toNat / 2 ^ 5 % 8)
def State.maxRead (s : State) : Nat := 128 * 2 ^ (((s.fn 0).cfg.get 0x68).toNat / 2 ^ 12 % 8)

/-- The requests for `len` bytes from an address on: each of at most `mx` bytes, and none across a 4 KiB boundary (R348). The
first number bounds how many there are. -/
def splitTlp (mx : Nat) : Nat → Nat → Nat → List (Nat × Nat)
  | 0, _, _ => []
  | n + 1, addr, len =>
    if len = 0 then []
    else
      let k := min len (min (max 1 mx) (4096 - addr % 4096))
      (addr, k) :: splitTlp mx n (addr + k) (len - k)

/-- Enable Relaxed Ordering of a function (R347). -/
def State.relaxed (s : State) (fn : Nat) : Bool := ((s.fn fn).cfg.get 0x68).getLsbD 4

/-- The memory writes that carry `len` bytes to the host from an offset on (R348), with Relaxed Ordering where the kind of
write allows it and the function enables it (R347). -/
def State.writeTlps (s : State) (fn off len : Nat) (ro zeros : Bool) : List Out :=
  (splitTlp s.maxPayload len off len).map fun p =>
    .tlp { fn := fn, off := p.1, len := p.2, write := true, ro := ro && s.relaxed fn, zeros := zeros }

/-- The read requests for `len` bytes of the host from an offset on that no stage waits for (R348). -/
def State.readTlps (s : State) (fn off len : Nat) : List Out :=
  (splitTlp s.maxRead len off len).map fun p => .tlp { fn := fn, off := p.1, len := p.2, write := false }

/-- A TLP crosses the link, which is not in L1 then (R343, R344). -/
def State.linkBusy (s : State) : State :=
  let t := if s.bit Reg.hptStatus 15 then ((s.setBit Reg.hptStatus 15 false).setField Reg.hptStatus 16 2 0).emit (.host 7 0 0) else s
  { t with hpt := { t.hpt with tlpAt := t.now } }

/-- Sends a TLP to the host; the device leaves L1 for it (R344). -/
def State.toHost (s : State) (o : Out) : State := s.linkBusy.emit o

/-- Issues one read request to the host. -/
def State.issueNp (s : State) (fn : Nat) (kind : NpKind) (off len part : Nat) : State :=
  match s.freeNpTag with
  | some t =>
    let r : Np := { tag := t, fn := fn, kind := kind, at_ := s.now, part := part }
    (State.showTags { s with hpt := { s.hpt with np := s.hpt.np ++ [r] } }).toHost
      (.tlp { fn := fn, tag := t, off := off, len := len, write := false })
  | none => s

/-- So many tags are free, and so many requests may be added to those outstanding (R349). -/
def State.tagsFree (s : State) (n : Nat) : Bool :=
  decide (s.hpt.np.length + n ≤ 4096) && decide (s.hpt.np.length + s.hpt.quar.length + n ≤ s.tagSpace)

/-- Issues the read requests for `len` bytes of the host (R348); with too few free tags the read waits (R349). `part` says of
each request's length what it brings. -/
def State.readHost (s : State) (fn : Nat) (kind : NpKind) (off len : Nat) (part : Nat → Nat) : State :=
  let ps := splitTlp s.maxRead len off len
  if s.tagsFree ps.length then ps.foldl (fun t p => t.issueNp fn kind p.1 p.2 (part p.2)) s else s

/-- Host memory requests of a function may be issued: its Bus Master Enable is set, it is in D0, the Host Port is NORMAL
and no device reset has begun (R244, R346, R369, R604). -/
def State.dmaOk (s : State) (fn : Nat) : Bool :=
  let f := s.fn fn
  f.bme && !f.d3hot && s.field Reg.hptContainStatus 0 2 == 0 && s.pwr.resetting.isNone

/-- An address of a function's DMA has a translation, or needs none (R351). -/
def State.xlatOk (s : State) (f page : Nat) : Bool := !(s.fn f).ats || s.hpt.atc.contains (f, page)

/-- A miss: a Translation Request is sent, unless one for the page is outstanding (R351). -/
def State.askXlat (s : State) (f page : Nat) : State :=
  if s.hpt.xreqs.contains (f, page) then s
  else (State.inc { s with hpt := { s.hpt with xreqs := s.hpt.xreqs ++ [(f, page)] } } Reg.hptAtcMissCnt).toHost (.host 14 f page)

/-- VQ and VI of a function: PF0 holds its private 65 of each (R379). -/
def State.vqOf (s : State) (f : Nat) : Nat := if f = 0 then 65 else (s.fn f).vq
def State.viOf (s : State) (f : Nat) : Nat := if f = 0 then 65 else (s.fn f).vi

/-! ## MSI-X messages (R407, R409) -/

/-- Whether a function's messages may go out now (R346, R369, R410, R419). -/
def State.msixOk (s : State) (f : Nat) : Bool :=
  s.dmaOk f && (s.fn f).msixEn && (s.fn f).life != .frozen && (s.fn f).life != .freezing && (s.fn f).life != .flr

/-- Sends a vector's message; one for a masked vector or function, or one that may not go out, waits in the PBA (R409,
R410, R419). A vector at or above the function's VI is never signalled. -/
def State.msix (s : State) (f vec : Nat) : State :=
  let x := s.fn f
  if s.viOf f ≤ vec then s
  else if x.fmask ∨ ¬ x.unmasked.get vec then
    (s.updFn f fun y => { y with pba := y.pba.set vec true }).inc Reg.hiuMaskedCnt
  else if ¬ s.msixOk f then s.updFn f fun y => { y with pba := y.pba.set vec true }
  else (s.inc Reg.hiuMsgCnt).toHost (.msix f vec)

/-! ## Device-internal transfers (R84, R100, R462, R571, R574, R584) -/

/-- Entries of the metering ring in force (Table 11-11), and of the telemetry ring (Table 14-9). -/
def State.ringEntries (s : State) : Nat := 2 ^ s.mtr.ringLog2
def State.tlnRingEntries (s : State) : Nat :=
  let v := s.field Reg.tlnRingSize 0 5
  if 8 ≤ v ∧ v ≤ 16 then 2 ^ v else 256

/-- Free entries of the metering ring, beside those of minutes on their way; one entry stays free, so that a full ring differs
from an empty one (DESIGN CHOICE). -/
def State.ringFree (s : State) : Nat :=
  let size := s.ringEntries
  let onWay := 4097 * ((s.mtr.archive.filter fun m => m.ring && m.root.isNone).length + (s.hpt.intern.filter (·.kind == .root)).length)
  (s.num Reg.mtrRingCons % size + size - s.num Reg.mtrRingProd % size + size - 1) % size - onWay

/-- RING_FULL of the metering ring: a minute would not fit. -/
def State.showRing (s : State) : State := s.setBit Reg.mtrStatus 1 (decide (s.ringFree < 4097))

/-- The telemetry ring is full, with the records on their way to it; RING_FULL of TLN_STATUS shows it. -/
def State.tlnRingFull (s : State) : Bool :=
  let size := s.tlnRingEntries
  let used := (s.num Reg.tlnRingProd + size - s.field Reg.tlnRingCons 0 16 % size) % size + (s.hpt.intern.filter (·.kind == .lens)).length
  decide (size ≤ used + 1)
def State.showTlnRing (s : State) : State := s.setBit Reg.tlnStatus 1 s.tlnRingFull

/-- A device-internal transfer is made: its reads are asked for, and wait while too few tags are free (R349); a ring's producer
index follows the last of its entries (R462, R584), a write leaves the upstream buffer (R571), and a line's message follows the
writes before it (R574). -/
def State.internDone (s : State) (e : Intern) : State :=
  if ¬ e.deliver then
    if s.tagsFree e.outs.length then
      e.outs.foldl (fun t o => match o with
        | .tlp p => t.issueNp p.fn (.internal e.kind e.cmd) p.off p.len 0
        | o => t.emit o) s
    else { s with hpt := { s.hpt with intern := s.hpt.intern ++ [e] } }
  else
  let t := e.outs.foldl (fun t o => t.toHost o) s
  match e.kind with
  | .root => (t.setNum Reg.mtrRingProd ((t.num Reg.mtrRingProd + 4097) % t.ringEntries)).showRing
  | .lens => (t.setNum Reg.tlnRingProd ((t.num Reg.tlnRingProd + 1) % t.tlnRingEntries)).showTlnRing
  | .bridge _ => { t with lpb := { t.lpb with upBuf := t.lpb.upBuf.drop 1 } }
  | .irq v => t.msix 0 v
  | _ => t

/-- Gives so many units of capacity of one direction to the device-internal transfers of `ok`, the oldest first; each is made when
its last unit has been given. The transfers that stay are answered, and those made. -/
def takeIntern (deliver : Bool) (ok : Intern → Bool) : Nat → List Intern → List Intern × List Intern
  | _, [] => ([], [])
  | n, e :: rest =>
    if e.deliver ≠ deliver ∨ ¬ ok e then
      let r := takeIntern deliver ok n rest
      (e :: r.1, r.2)
    else if n < e.units then ({ e with units := e.units - n } :: rest, [])
    else
      let r := takeIntern deliver ok (n - e.units) rest
      (r.1, e :: r.2)

/-- Unowned capacity of a HOST_FETCH or HOST_DELIVER slot goes to the device-internal transfers whose function may use host memory
(R84, R410). -/
def State.serveIntern (s : State) (deliver : Bool) (n : Nat) : State :=
  let r := takeIntern deliver (fun e => s.dmaOk e.fn) n s.hpt.intern
  r.2.foldl (fun t e => t.internDone e) { s with hpt := { s.hpt with intern := r.1 } }

/-- In Park, which has no slots, every device-internal transfer that may be made is made. -/
def State.flushIntern (s : State) : State :=
  (s.hpt.intern.filter fun e => s.dmaOk e.fn).foldl (fun t e => t.internDone e)
    { s with hpt := { s.hpt with intern := s.hpt.intern.filter fun e => !s.dmaOk e.fn } }

/-- A device-internal transfer between device and host (R84): in Park it is made at once, and in Run it waits for unowned
HOST_FETCH or HOST_DELIVER capacity; while its function may not use host memory it is held (R410). -/
def State.internal (s : State) (e : Intern) : State :=
  if s.field Reg.prxStatus 0 2 = 0 ∧ s.dmaOk e.fn then s.internDone e
  else { s with hpt := { s.hpt with intern := s.hpt.intern ++ [e] } }

/-- A device-internal read of `len` bytes of the host, a transfer for each 4 KiB of it (R84, R348). -/
def State.internalRead (s : State) (k : Inner) (fn : Nat) (cmd : Option CmdId) (addr len : Nat) : State :=
  (splitTlp 4096 len addr len).foldl (fun t p =>
    t.internal { kind := k, fn := fn, cmd := cmd, deliver := false, units := 1, outs := t.readTlps fn p.1 p.2 }) s

/-- A device-internal transfer of `p` has not been made, or a read of one has not been answered. -/
def State.internBusy (s : State) (p : Inner → Option CmdId → Bool) : Bool :=
  s.hpt.intern.any (fun e => p e.kind e.cmd) || s.hpt.np.any fun r => match r.kind with | .internal k c => p k c | _ => false

/-- Transfers that have not been made are given up. -/
def State.dropIntern (s : State) (p : Intern → Bool) : State :=
  { s with hpt := { s.hpt with intern := s.hpt.intern.filter fun e => !p e } }

/-- 4 KiB units of so many bytes. -/
def unitsOf (len : Nat) : Nat := (len + 4095) / 4096

/-- Takes requests out and quarantines their tags (R366); `quiet` marks those that FLR or containment abandoned (R367). -/
def State.abandonNp (s : State) (p : Np → Bool) (quiet : Bool) : State :=
  let q := (s.hpt.np.filter p).map fun r => { tag := r.tag, fn := r.fn, until_ := s.now + s.quarTicks, quiet := quiet : Quar }
  State.showTags { s with hpt := { s.hpt with np := s.hpt.np.filter (fun r => !p r), quar := s.hpt.quar ++ q } }

end Sys2Proof.Machine
end

