-- ==== Sys2Proof/Machine/Slots.lean ====
section
/-! DEFINITION. The schedule: effective programs of an image (R94 to R96), the slots within the lookahead, and the
admission of a stage into the earliest eligible slot (R112, R125 to R129, R146, R159). -/
namespace Sys2Proof.Machine

/-! ## Lanes and slot kinds -/

/-- The classes of Table 3-1. -/
inductive LaneClass where
  | die | bus | hardDec | softDec | fetch | deliver | cipher | mirror | reserved
deriving DecidableEq, Repr

/-- The class of a lane number (Table 3-1). -/
def laneClass (l : Nat) : LaneClass :=
  if l < 512 then .die else if l < 544 then .bus else if l < 608 then .hardDec else if l < 624 then .softDec
  else if l < 640 then .fetch else if l < 656 then .deliver else if l < 704 then .cipher
  else if l < 712 then .mirror else .reserved

/-- The channel that a die or bus lane belongs to. -/
def laneChannel (l : Nat) : Nat := if l < 512 then l / 16 else l - 512

/-- The slot kinds a stage may take (Table 3-3, R125). -/
def stageSlotKinds : StageKind → List Nat
  | .fetch => [7] | .dieRead => [1, 5] | .dieProgram => [2] | .busRead => [1] | .busProgram => [2] | .decode => [10]
  | .cipher => [9] | .delivery => [8] | .mirror => [11]

/-- The lane classes of a stage (Table 3-3). -/
def stageClassOk (k : StageKind) (c : LaneClass) : Bool :=
  match k with
  | .fetch => c == .fetch
  | .dieRead | .dieProgram => c == .die
  | .busRead | .busProgram => c == .bus
  | .decode => c == .hardDec || c == .softDec
  | .cipher => c == .cipher
  | .delivery => c == .deliver
  | .mirror => c == .mirror

/-! ## Images -/

/-- Frames of a cycle and its cells (R80). -/
def Image.cycleFrames (i : Image) : Nat := 2 ^ i.cycleLog2
def Image.cycleCells (i : Image) : Nat := 250 * i.cycleFrames

/-- The variant whose directory variant `v` takes its programs from (R96): at most three links. -/
def Image.rootOf (i : Image) (v : Nat) : Nat :=
  let next (u : Nat) : Nat := if i.aliases.getD u 0xFF = 0xFF then u else i.aliases.getD u 0xFF
  next (next (next v))

/-- The entry of a lane in a variant's own directory (Table 3-6). -/
def Image.dirEntry (i : Image) (v lane : Nat) : DirEntry := (lookupKey lane (i.dirs.getD v [])).getD {}

/-- MODE and PLAIN of a die lane: variant 0's directory for all variants (R94). -/
def Image.mode (i : Image) (lane : Nat) : Nat := (i.dirEntry 0 lane).mode
def Image.plain (i : Image) (lane : Nat) : Nat := (i.dirEntry 0 lane).plain

/-- Whether group `g` of VMASK holds variant `v` (Table 3-5). -/
def Image.inVariant (i : Image) (g v : Nat) : Bool := (i.vmask / 2 ^ (4 * g + v)) % 2 == 1

/-- The effective program of a variant on a lane, each entry with its slot-section index (R96). -/
def Image.program (i : Image) (v lane : Nat) : List (Nat × Slot) :=
  let e := i.dirEntry (i.rootOf v) lane
  ((List.range e.count).filterMap fun k => (i.slots[e.first + k]?).map fun x => (e.first + k, x)).filter
    fun p => i.inVariant p.2.vmg v

/-- The populated die lanes (Table 3-5). -/
def Image.populated (i : Image) (lane : Nat) : Bool :=
  lane < 512 && i.channelMask.testBit (lane / 16) && lane % 16 < i.diesPerCh

/-! ## Program phases -/

/-- A PROGRAM or ERASE slot. -/
def Slot.isProg (x : Slot) : Bool := x.kind == 2 || x.kind == 3
/-- Two slots of a cycle share a cell. -/
def Slot.meets (x y : Slot) : Bool := x.start < y.start + y.len && y.start < x.start + x.len
/-- The die lanes of MODE 0 in a plain. -/
def Image.plainLanes (i : Image) (p : Nat) : List Nat :=
  (List.range 512).filter fun l => i.populated l && i.mode l == 0 && i.plain l == p
/-- The PROGRAM and ERASE slots of a lane in a variant. -/
def Image.progSlots (i : Image) (v lane : Nat) : List Slot := ((i.program v lane).map (·.2)).filter Slot.isProg
/-- The program phase of a plain as slots (R89). -/
def Image.phase (i : Image) (v p : Nat) : List Slot := (i.plainLanes p).flatMap (i.progSlots v)
/-- The tenant entry of a VF (R98, R137). -/
def Image.tenant? (i : Image) (vf : Nat) : Option TenantEntry := if vf = 0 then none else i.tenants.find? (·.vf == vf)

/-- The number of populated dies (R148). -/
def popDies (mask dies : Nat) : Nat := ((List.range 32).filter (mask.testBit ·)).length * dies

/-! ## The running image -/

/-- PRX_STATUS.STATE (Table 3-14). -/
def State.prxState (s : State) : Nat := s.field Reg.prxStatus 0 2
/-- The device is in Run, with or without a Park pending (Table 1-8). -/
def State.inRun (s : State) : Bool := s.prxState != 0
/-- The running variant (Table 3-14). -/
def State.variant (s : State) : Nat := s.field Reg.prxStatus 2 2

/-- Precedence of a variant, 1 the highest (Table 3-11). -/
def variantRank (v : Nat) : Nat := if v = 3 then 1 else if v = 1 then 2 else if v = 2 then 3 else 4

/-- The variant that the conditions in force select for an image (Table 3-11, R118). -/
def State.selectVariant (s : State) (i : Image) : Nat :=
  if s.prx.thermal then 3
  else if i.pairMode = 1 ∧ (s.bit Reg.prxStatus 8 ∨ s.bit Reg.prxStatus 9) then 1
  else if s.prx.lost ≠ [] then 2 else 0

/-- A lane that the running variant treats as void: of a lost channel (R123) or a lost die (R202). -/
def State.laneVoid (s : State) (lane : Nat) : Bool :=
  (laneClass lane == .die && ((s.mch.dies.get lane).lost || s.prx.lost.contains (lane / 16))) ||
  (laneClass lane == .bus && s.prx.lost.contains (lane - 512))

/-- A slot in time: its image's entry with the first cell and the cell after the last, counted from frame 0. -/
structure SlotAt where
  start : Nat
  stop  : Nat
  slot  : Slot
deriving DecidableEq, Repr

/-- The slots of an image's lane in the cycle that holds a frame (R80). -/
def Image.cycleSlots (i : Image) (v lane frame : Nat) : List SlotAt :=
  let base := (frame - frame % i.cycleFrames) * 250
  (i.program v lane).map fun p => { start := base + p.2.start, stop := base + p.2.start + p.2.len, slot := p.2 }

/-- The slots of a lane that the schedule holds in the frames of the lookahead: of the active image before F, of the
staged image from F on during frame F − 1 (R112). -/
def State.laneSlots (s : State) (lane : Nat) : List SlotAt :=
  match s.prx.active with
  | none => []
  | some i =>
    let old := i.cycleSlots s.variant lane s.frame ++
      (if (s.frame + 1) % i.cycleFrames = 0 then i.cycleSlots s.variant lane (s.frame + 1) else [])
    match s.prx.switchF, s.prx.staged with
    | some f, some j =>
      if s.frame + 1 = f then
        old.filter (·.start < f * 250) ++ j.cycleSlots (s.selectVariant j) lane f
      else old
    | _, _ => old

/-- The slots a stage may be admitted to now: they start after this moment, at most 250 cells ahead (R126). -/
def State.lookahead (s : State) (lane : Nat) : List SlotAt :=
  (s.laneSlots lane).filter fun x => s.cell < x.start && x.start ≤ s.cell + 250

/-- The slot of the variant before the last switch that was in progress on a lane at the switch: it runs to its end (R121). -/
def State.oldSlot (s : State) (lane : Nat) : Option SlotAt :=
  match s.prx.active, s.prx.oldVariant with
  | some i, some (v, e) => (i.cycleSlots v lane (e / 250 - 1)).find? fun x => x.start < e && e < x.stop && s.cell ≤ x.stop
  | _, _ => none

/-- The slot of the running image that covers the cell in progress on a lane: an old one that runs to its end (R121), or one
of the running variant. -/
def State.slotNow (s : State) (lane : Nat) : Option SlotAt :=
  match s.prx.active with
  | none => none
  | some i =>
    if s.inRun then
      match (s.oldSlot lane).filter fun x => s.cell < x.stop with
      | some y => some y
      | none => (i.cycleSlots s.variant lane s.frame).find? fun x => x.start ≤ s.cell && s.cell < x.stop
    else none

/-! ## What a stage is for -/

/-- The legs of a unit with the reads they are for (R214, R218, R233). -/
def RUnit.jobs (r : RUnit) (c : CmdId) : List (DecodeJob × Leg) :=
  match r.phase with
  | .media .own => r.legs.map fun g => (.unit c r.unit none, g)
  | .media _ => r.legs.map fun g => (.unit c r.unit (some g.lane), g)
  | _ => []

/-- The legs of a command. -/
def Cmd.jobs (x : Cmd) : List (DecodeJob × Leg) := x.units.flatMap (·.jobs x.id)

/-- The unit that a read is for. -/
def Cmd.unitOf (x : Cmd) (w : Option Work) : Option RUnit :=
  match w with
  | some (.read (.unit _ u _)) => x.units.find? (·.unit == u)
  | _ => none

/-- The leg that a read is for. -/
def Cmd.legOf (x : Cmd) (w : Option Work) : Option Leg :=
  (x.jobs.find? fun p => some (Work.read p.1) == w).map (·.2)

/-- A read, or a program unit, has an admission that has not begun, or it starts as soon as its die is free. -/
def State.isAdmitted (s : State) (w : Work) : Bool :=
  (s.prx.adms.any fun a => a.work == some w && !a.started) || s.rdp.urgent.any (·.2 == w)

/-- Units of a program unit (R264): a multi-plane page times the bits per cell, as every profile that binds programs a
word line in one operation (R272). -/
def State.progUnits (s : State) : Nat :=
  let p := s.mch.profile.getD {}
  max 1 (p.planes * p.pageKib / 4 * p.cellType)

/-- The program units that hold a unit of a command's writes. -/
def State.progsOf (s : State) (x : Cmd) : List ProgUnit :=
  s.wrp.progs.filter fun p => p.units.any fun u => x.wids.contains u.1

/-- Messages of a command's writes and map changes that have not left (R488). -/
def State.unsent (s : State) (x : Cmd) : Bool :=
  let mine := (s.mlk.sent.filter fun m => match m.kind with
    | .write w => x.wids.contains w
    | .map (some c) => c == x.id
    | _ => false).map (·.seq)
  let own (m : LinkMsg) : Bool := match m with
    | .mwrite _ _ _ q _ | .mmap _ _ _ _ q _ => mine.contains q
    | _ => false
  s.mlk.waiting.any own || s.mlk.replay.any fun f => f.seq.isNone && own f.msg

/-- The PRP list or SGL segments of a command have not all arrived (R242). -/
def State.listing (s : State) (x : Cmd) : Bool := x.lists != 0 || s.hpt.np.any (·.kind == .list x.id)

/-- The 4 KiB units, codeword groups or transfers of a command that wait for a stage on a lane, those admitted included. -/
def State.waitingFor (s : State) (x : Cmd) (k : StageKind) (lane : Nat) : Nat :=
  match k with
  | .fetch => if x.lists ≠ 0 then x.lists else if s.listing x then 0 else x.toFetch
  | .busRead => (x.jobs.filter fun p => p.2.at_ == .bus).length
  | .busProgram => (((s.progsOf x).filter (!·.started)).map fun p => s.progUnits - p.sent).sum
  | .decode => (x.jobs.filter fun p => p.2.at_ == .queued && p.2.soft == (laneClass lane == .softDec)).length
  | .cipher => (x.units.filter (·.phase == .recovered)).length + x.toEnc
  | .delivery => if x.op = 0x02 then (x.units.filter (·.phase == .plain)).length else 0
  | .mirror => if s.unsent x then 1 else 0
  | .dieRead | .dieProgram => 0

/-- The best-effort legs, of stages 3 to 5 (R231). -/
def Cmd.bestLeg (x : Cmd) (k : StageKind) : Bool :=
  match k with
  | .busRead => x.jobs.all fun p => p.2.at_ != .bus || (x.unitOf (some (.read p.1))).any fun r => 3 ≤ r.stage
  | .decode => x.jobs.all fun p => p.2.at_ != .queued || (x.unitOf (some (.read p.1))).any fun r => 3 ≤ r.stage
  | _ => false

/-- The stage of a command that is due on a lane and not yet admitted (R125, R127): a die read or program on the die that the
map or placement gives, another stage for at most `units` of what waits for it. -/
def State.dueStage (s : State) (x : Cmd) (k : StageKind) (lane units : Nat) : Option Adm :=
  let a : Adm := { cmd := x.id, kind := k, lane := lane, start := 0, stop := 0, units := 1, owned := false, fn := x.id.fn }
  match k with
  | .dieRead =>
    (x.jobs.find? fun p => p.2.lane == lane && p.2.at_ == .wait && !s.isAdmitted (.read p.1)).map fun p =>
      { a with work := some (.read p.1), best := (x.unitOf (some (.read p.1))).any fun r => 3 ≤ r.stage }
  | .dieProgram =>
    ((s.progsOf x).find? fun p => p.lane == lane && s.progUnits ≤ p.sent && !p.started && !s.isAdmitted (.prog p.pid)).map fun p =>
      { a with work := some (.prog p.pid) }
  | _ =>
    let have_ := ((s.prx.adms.filter fun b => b.cmd == x.id && b.kind == k &&
      (k != .decode || laneClass b.lane == laneClass lane)).map (·.units)).sum
    let n := min (max 1 units) (s.waitingFor x k lane - have_)
    if n = 0 then none else some { a with units := n, best := x.bestLeg k }

/-! ## Admission -/

/-- Units that admissions to a slot have taken, those of `p`. -/
def admUnits (adms : List Adm) (lane start : Nat) (p : Adm → Bool) : Nat :=
  ((adms.filter fun a => a.lane == lane && a.start == start && p a).map (·.units)).sum

/-- READ_BOUND of a read and WACK_BOUND of any other command in a tenant entry, for a variant. -/
def TenantEntry.boundOf (t : TenantEntry) (op v : Nat) : Nat :=
  if op = 0x02 then t.readBound.getD v 0 else t.wackBound.getD v 0

/-- The image a slot of the lookahead belongs to, with its variant, and whether it was active when a command was charged in
frame `c` (R112, R113). -/
def State.slotImage (s : State) (c : Nat) (y : SlotAt) : Option (Image × Nat × Bool) :=
  match s.prx.switchF, s.prx.staged with
  | some f, some j =>
    if f * 250 ≤ y.start then some (j, s.selectVariant j, false)
    else s.prx.active.map fun i => (i, s.variant, s.prx.switchedAt.all (· ≤ c))
  | _, _ => s.prx.active.map fun i => (i, s.variant, s.prx.switchedAt.all (· ≤ c))

/-- The tenant entry under which a command takes owned capacity of a slot: that of the slot's image. In an image other than
the one it was charged under, a tenant without a bound there has none (R113). -/
def State.slotTenant (s : State) (x : Cmd) (y : SlotAt) : Option TenantEntry :=
  (s.slotImage x.chargedF y).bind fun p =>
    (p.1.tenant? x.id.fn).filter fun t => p.2.2 || t.boundOf x.op p.2.1 != 0

/-- A tenant's share of an owned HOST_FETCH or HOST_DELIVER slot (R146); the whole slot on other kinds. -/
def slotShare (t : TenantEntry) (x : Slot) : Nat :=
  if x.kind = 7 ∨ x.kind = 8 then max 1 (t.dmaShare * x.param / 65536) else x.param

/-- The share of a VF in a slot. -/
def State.vfShare (s : State) (y : SlotAt) (vf : Nat) : Nat :=
  (((s.slotImage 0 y).bind fun p => p.1.tenant? vf).map (slotShare · y.slot)).getD y.slot.param

/-- Of owned admissions in their order, those within their tenants' shares (R146). -/
def State.inShare (s : State) (y : SlotAt) (l : List Adm) : List Adm :=
  l.foldl (fun kept a =>
    if ((kept.filter (·.fn == a.fn)).map (·.units)).sum + a.units ≤ s.vfShare y a.fn then kept ++ [a] else kept) []

/-- A lane of a mode is served with GATE slots in a variant: MODE 2, and MODE 0 in variants 1 and 3 (Table 6-1, R217). -/
def gatedIn (mode v : Nat) : Bool := mode == 2 || (mode == 0 && (v == 1 || v == 3))

/-- Whether a stage may take a slot of a kind, by the image and variant of the slot (R112). A die read takes GATE slots only
where the lane is gated; best-effort retries and the reads of soft decodes and of parity take none (R232, R656). -/
def State.kindOk (s : State) (x : Cmd) (a : Adm) (y : SlotAt) : Bool :=
  if a.kind = .dieRead then
    y.slot.kind == 1 || (y.slot.kind == 5 && !a.best && (x.bounded || !(x.legOf a.work).any (·.shifted)) &&
      (s.slotImage 0 y).any fun p => gatedIn (p.1.mode a.lane) p.2.1)
  else (stageSlotKinds a.kind).contains y.slot.kind

/-- A read in place of an around-read that could not be sent: its slot lies outside the program phase of the lane's plain
(R216). -/
def State.mustAvoid (s : State) (x : Cmd) (a : Adm) : Bool :=
  a.kind == .dieRead && (x.unitOf a.work).any (fun r => r.outside && r.stage == 0) &&
    (s.variant == 0 || s.variant == 2) && s.prx.active.any (·.mode a.lane == 0)

/-- A slot that a stage may not take because of the program phase, which in the slot's own image and variant it meets. -/
def State.avoids (s : State) (x : Cmd) (a : Adm) (y : SlotAt) : Bool :=
  a.kind == .dieRead && (x.unitOf a.work).any (fun r => r.outside && r.stage == 0) && (s.slotImage 0 y).any fun p =>
    (p.2.1 == 0 || p.2.1 == 2) && p.1.mode a.lane == 0 &&
    ((p.1.phase p.2.1 (p.1.plain a.lane)).any fun z =>
      z.meets { y.slot with start := y.start % p.1.cycleCells, len := y.stop - y.start })

/-- Owned capacity for a bounded stage of a tenant (R127, R146): within the tenant's share first, which displaces what
others took beyond theirs, and then what is left of the slot. -/
def State.ownedFits (s : State) (x : Cmd) (a : Adm) (y : SlotAt) : Bool :=
  let own := s.prx.adms.filter fun b => b.lane == a.lane && b.start == y.start && b.owned
  let kept := s.inShare y own
  match s.slotTenant x y with
  | none => false
  | some t =>
    s.kindOk x a y && y.slot.owner == t.group && a.kind != .mirror && !s.avoids x a y &&
    ((((kept.filter (·.fn == x.id.fn)).map (·.units)).sum + a.units ≤ slotShare t y.slot &&
        (kept.map (·.units)).sum + a.units ≤ y.slot.param) ||
      (own.map (·.units)).sum + a.units ≤ y.slot.param)

/-- The service group of a command's tenant in the active image; 256 stands for commands without one (R129). -/
def State.groupFn (s : State) (fn : Nat) : Nat := ((s.prx.active.bind (·.tenant? fn)).map (·.group)).getD 256

/-- Unowned or lendable capacity for a best-effort stage (R128, R129, R155, R159): an unowned slot of the stage's kind with
room, a lendable slot of the kind, or a lendable IDLE slot (R650). With lending disabled a lendable slot offers what its
bounded stages leave to its own group alone. -/
def State.freeFits (s : State) (x : Cmd) (a : Adm) (y : SlotAt) : Bool :=
  let used := admUnits s.prx.adms a.lane y.start fun _ => true
  !s.avoids x a y &&
  ((s.kindOk x a y && y.slot.owner == 0xFFFF && (y.slot.kind == 11 || used + a.units ≤ y.slot.param)) ||
    (y.slot.lend && s.kindOk x a y && used + a.units ≤ y.slot.param && (s.bit Reg.prxCtl 0 || y.slot.owner == s.groupFn x.id.fn)) ||
    (y.slot.lend && s.bit Reg.prxCtl 0 && y.slot.kind == 0))

/-- Records an admission. -/
def State.addAdm (s : State) (a : Adm) : State := { s with prx := { s.prx with adms := s.prx.adms ++ [a] } }

/-- The earliest slot of the lanes for a stage, with its lane. -/
def State.earliest (s : State) (lanes : List Nat) (ok : Nat → SlotAt → Bool) : Option (Nat × SlotAt) :=
  lanes.foldl (fun best l =>
    match (s.lookahead l).find? (ok l), best with
    | some y, some b => if y.start < b.2.start then some (l, y) else best
    | some y, none => some (l, y)
    | none, _ => best) none

/-- Admits a stage of a command into the earliest eligible slot of its lanes: owned capacity for a bounded command of a
tenant (R127), otherwise, and where no owned capacity lies in the lookahead, unowned or lent capacity (R159); a
bounded stage without owned capacity meets the CAPACITY event. A stage that finds no slot waits, as does a bounded read
of R216 without an owned slot. A command beyond the first lost channel is served best-effort (R123). -/
def State.admitOn (s : State) (x : Cmd) (a : Adm) (lanes : List Nat) : State :=
  let bounded := x.bounded && !x.beyond && !a.best
  let put (p : Nat × SlotAt) (owned : Bool) : Adm :=
    { a with lane := p.1, start := p.2.start, stop := p.2.stop, owned := owned, started := false }
  let on (l : Nat) : Adm := { a with lane := l }
  match if bounded then s.earliest lanes fun l => s.ownedFits x (on l) else none with
  | some p => s.addAdm (put p true)
  | none =>
    if bounded && s.mustAvoid x a then s
    else
      let t := if bounded then s.meet x.id 6 else s
      match s.earliest lanes fun l => s.freeFits x (on l) with
      | some p => t.addAdm (put p false)
      | none => t

/-- Admits a stage on its own lane. -/
def State.admitAt (s : State) (x : Cmd) (a : Adm) : State := s.admitOn x a [a.lane]

/-- Removes the admissions of a command's stages that have not started, those of `p`. -/
def State.dropAdms (s : State) (p : Adm → Bool) : State :=
  { s with prx := { s.prx with adms := s.prx.adms.filter fun a => !p a } }

/-- Removes one admission. -/
def State.endAdm (s : State) (a : Adm) : State := { s with prx := { s.prx with adms := s.prx.adms.erase a } }

/-- The lanes a stage may be admitted on again: its die, or any lane of its class (R127). -/
def Adm.lanes (a : Adm) : List Nat :=
  if a.lane < 512 then [a.lane] else (List.range 712).filter fun l => laneClass l == laneClass a.lane

/-- Admits an admission's stage again into its next eligible slot; the command meets the event of cause `cause`
(R121, R132). -/
def State.readmit (s : State) (cause : Nat) (a : Adm) : State :=
  let t := (s.endAdm a).meet a.cmd cause
  match t.cmd? a.cmd with
  | some x => t.admitOn x a a.lanes
  | none => t

/-! ## Conditions that select a variant -/

/-- Whether a condition of a variant is present for an image (Table 3-11, R118); variant 0 needs none. -/
def State.condition (s : State) (i : Image) (v : Nat) : Bool :=
  match v with
  | 3 => s.prx.thermal
  | 1 => i.pairMode == 1 && (s.bit Reg.prxStatus 8 || s.bit Reg.prxStatus 9)
  | 2 => s.prx.lost != []
  | _ => true

/-- The tick from which a variant's condition has stood (R119). -/
def State.condSince (s : State) (v : Nat) : Option Nat :=
  match v with
  | 3 => s.prx.since3
  | 1 => s.prx.since1
  | 2 => s.prx.since2
  | _ => none

/-- The variant that the conditions select once the partner has left variant 3 at the boundary it has told (R120): its
variant 3 no longer counts then. -/
def State.remaining (s : State) (i : Image) : Nat :=
  if s.prx.thermal then 3
  else if i.pairMode = 1 ∧ (s.bit Reg.prxStatus 8 ∨ s.bit Reg.ftbStatus 8 ∨ s.prx.phaseMismatch ∨
      (s.prx.peerThermal ∧ s.prx.peerClear.isNone)) then 1
  else if s.prx.lost ≠ [] then 2 else 0

/-- The first frame edge that is not before this moment. -/
def State.edgeAfter (s : State) : Nat := if s.ftb.tick = 0 then s.frame else s.frame + 1

/-- Makes PRX_STATUS show the conditions of Table 3-11, notes from when each has stood, and when the running variant's
condition cleared (R116, R119, R120). The frame of clearing is the first whose edge is not before the clearing, so that two
frames after it are two frames after the clearing (notes/assumptions/32.md); the partner is told it. -/
def State.conditions (s : State) : State :=
  let t := ((s.setBit Reg.prxStatus 9 (s.bit Reg.ftbStatus 8 || s.prx.peerThermal || s.prx.phaseMismatch)).setBit
    Reg.prxStatus 10 (s.prx.lost != [])).setBit Reg.prxStatus 11 s.prx.thermal
  match t.prx.active with
  | none => t
  | some i =>
    if !t.inRun then t else
    let mark (v : Nat) : Option Nat := if t.condition i v then some ((t.condSince v).getD t.now) else none
    let t : State := { t with prx := { t.prx with since3 := mark 3, since1 := mark 1, since2 := mark 2 } }
    if variantRank (t.remaining i) ≤ variantRank t.variant then { t with prx := { t.prx with clearFrame := none } }
    else if t.prx.clearFrame.isSome then t
    else
      let f := max t.edgeAfter (t.prx.peerClear.getD 0)
      let u : State := { t with prx := { t.prx with clearFrame := some f } }
      if t.field Reg.mlkPairState 0 3 = 5 then u.send (.control 5 f) else u

end Sys2Proof.Machine
end

