-- ==== Sys2Proof/Machine/ImageCheck.lean ====
section
/-! DEFINITION. Reading a prism image from its bytes (Tables 3-2 to 3-8), the plain-phase digest (R90), and the
structural checks of Table 3-9 with the location each reports (R101). -/
namespace Sys2Proof.Machine

/-! ## Reading an image -/

/-- A slot entry from its 64 bits (Table 3-2). -/
def readSlot (w : Nat) : Slot :=
  { start := w / 2 ^ 50, len := w / 2 ^ 40 % 2 ^ 10, kind := w / 2 ^ 36 % 2 ^ 4, plain := w / 2 ^ 35 % 2,
    lend := w / 2 ^ 34 % 2 == 1, vmg := w / 2 ^ 32 % 4, owner := w / 2 ^ 16 % 2 ^ 16, param := w % 2 ^ 16 }

/-- A lane directory entry (Table 3-6). -/
def readDirEntry (b : List Byte) : DirEntry :=
  { first := rd b 0 4, count := rd b 4 2, mode := rd b 6 1, plain := rd b 7 1 }

/-- The lanes of a variant's directory whose entry is not all zero (R94). -/
def readDir (b : List Byte) : List (Nat × DirEntry) :=
  (List.range 1024).filterMap fun l =>
    let e := readDirEntry (sub b (8 * l) 8)
    if e = {} then none else some (l, e)

/-- A tenant-table entry (Table 3-8). -/
def readTenant (b : List Byte) : TenantEntry :=
  { vf := rd b 0 2, group := rd b 2 1, cls := rd b 3 1, spread := rd b 4 1, readRate := rd b 8 4, readBurst := rd b 12 4,
    writeRate := rd b 16 4, writeBurst := rd b 20 4, dmaShare := rd b 24 2, quota := rd b 28 4,
    readBound := (List.range 4).map fun v => rd b (32 + 4 * v) 4,
    wackBound := (List.range 4).map fun v => rd b (48 + 2 * v) 2 }

/-- Header fields that only the checks use (Table 3-5). -/
def imgTotal (b : List Byte) : Nat := rd b 0x0C 4
def imgVariants (b : List Byte) : Nat := rd b 0x13 1
def imgLaneOff (b : List Byte) : Nat := rd b 0x80 4
def imgVarOff (b : List Byte) : Nat := rd b 0x84 4
def imgGroupOff (b : List Byte) : Nat := rd b 0x88 4
def imgGroups (b : List Byte) : Nat := rd b 0x8C 2
def imgTenants (b : List Byte) : Nat := rd b 0x8E 2
def imgTenantOff (b : List Byte) : Nat := rd b 0x90 4
def imgSlotOff (b : List Byte) : Nat := rd b 0x94 4
def imgSlots (b : List Byte) : Nat := rd b 0x98 4

/-- A variant record's VARIANT and ALIAS (Table 3-7). -/
def imgVariant (b : List Byte) (v : Nat) : Nat := rd b (imgVarOff b + 64 * v) 1
def imgAlias (b : List Byte) (v : Nat) : Nat := rd b (imgVarOff b + 64 * v + 1) 1

/-- The image without its digest of plain phases. -/
def readImageRaw (b : List Byte) : Image :=
  { id := BitVec.ofNat 32 (rd b 8 4), cycleLog2 := rd b 0x10 1, pairMode := rd b 0x11 1, pairId := rd b 0x12 1,
    vmask := rd b 0x14 2, bgPermille := rd b 0x16 2, channelMask := rd b 0x18 4, diesPerCh := rd b 0x1C 1,
    profileDigest := sub b 0x20 32, contractDigest := sub b 0x40 32, imageDigest := sub b 0x60 32,
    driftWindow := rd b 0x9C 2, driftLimit := rd b 0x9E 2, waAssumed := rd b 0xA0 2,
    compilerVersion := rd b 0xA4 4, compileTai := rd b 0xA8 8,
    names := (List.range 4).map fun v => sub b (imgVarOff b + 64 * v + 0x10) 16,
    aliases := (List.range 4).map (imgAlias b),
    dirs := (List.range 4).map fun v => readDir (b.drop (imgLaneOff b + v * 8192)),
    groups := (List.range (imgGroups b)).map fun g => rd b (imgGroupOff b + 16 * g + 1) 1,
    tenants := (List.range (imgTenants b)).map fun t => readTenant (sub b (imgTenantOff b + 64 * t) 64),
    slots := (List.range (imgSlots b)).map fun k => readSlot (rd b (imgSlotOff b + 8 * k) 8) }

/-! ## Program phases -/

/-- Whether a cycle cell lies in the program phase of a plain (R89). -/
def Image.inPhase (i : Image) (v p cell : Nat) : Bool :=
  (i.phase v p).any fun x => x.start ≤ cell && cell < x.start + x.len

/-- The bitmap of a plain's program phase in variant 0 (R90). -/
def Image.phaseBitmap (i : Image) (p : Nat) : List Byte :=
  (List.range ((i.cycleCells + 7) / 8)).map fun k =>
    BitVec.ofNat 8 (((List.range 8).filter fun j => 8 * k + j < i.cycleCells && i.inPhase 0 p (8 * k + j)).map (2 ^ ·)).sum

/-- The plain-phase digest (R90). -/
def Image.computePhaseDigest (i : Image) : List Byte :=
  sha256 (BitVec.ofNat 8 i.cycleLog2 :: (i.phaseBitmap 0 ++ i.phaseBitmap 1))

/-- An image as read, with its plain-phase digest. -/
def readImage (b : List Byte) : Image :=
  let i := readImageRaw b
  { i with phaseDigest := i.computePhaseDigest }

/-! ## The checks -/

/-- A failed check: code, variant, lane and entry (Table 3-9). -/
structure LoadErr where
  code    : Nat
  variant : Nat := 0
  lane    : Nat := 0
  entry   : Nat := 0
deriving DecidableEq, Repr

/-- Reserved header bytes (Table 3-5). -/
def headerReservedZero (b : List Byte) : Bool := zeros b 0x1D 3 && zeros b 0xA2 2 && zeros b 0xB0 80

/-- The sections: offset and size (Table 3-4). -/
def imgSections (b : List Byte) : List (Nat × Nat) :=
  [(0, 256), (imgLaneOff b, 32768), (imgVarOff b, 256), (imgGroupOff b, 16 * imgGroups b),
   (imgTenantOff b, 64 * imgTenants b), (imgSlotOff b, 8 * imgSlots b)]

/-- No two sections overlap. An empty section has no bytes that could overlap, but its offset has to be aligned and to lie
within the image like any other: the model's choice (notes/assumptions/31.md). -/
def disjointSections : List (Nat × Nat) → Bool
  | [] => true
  | a :: rest => rest.all (fun c => a.2 = 0 || c.2 = 0 || a.1 + a.2 ≤ c.1 || c.1 + c.2 ≤ a.1) && disjointSections rest

/-- The first lane and entry of a variant at which `f` finds a failure. -/
def firstLane (f : Nat → Option Nat) : Option (Nat × Nat) := (List.range 1024).findSome? fun l => (f l).map fun e => (l, e)

/-- The first variant of `vs`, then the lowest lane, at which `f` finds a failure. -/
def firstFail (code : Nat) (vs : List Nat) (f : Nat → Nat → Option Nat) : Option LoadErr :=
  vs.findSome? fun v => (firstLane (f v)).map fun p => { code := code, variant := v, lane := p.1, entry := p.2 }

/-- A failure without a location. -/
def plainFail (code : Nat) (bad : Bool) : Option LoadErr := if bad then some { code := code } else none

/-- The directory entry that a variant takes a lane's program from. -/
def Image.useEntry (i : Image) (v lane : Nat) : DirEntry := i.dirEntry (i.rootOf v) lane

/-- Effective entries of a variant in the lanes below `lane`. -/
def Image.entriesBelow (i : Image) (v lane : Nat) : Nat :=
  ((List.range lane).map fun l => (i.program v l).length).sum

/-- Code 0x09 (R96). -/
def failEntryLimit (i : Image) (v lane : Nat) : Option Nat :=
  let e := i.useEntry v lane
  if e.count ≠ 0 ∧ e.first + e.count > i.slots.length then some e.first
  else
    let before := i.entriesBelow v lane
    let own := i.program v lane
    if before ≤ 262144 ∧ 262144 < before + own.length then (own[262144 - before]?).map (·.1) else none

/-- A lane whose program must be empty: reserved, or of an unpopulated die or channel. -/
def Image.mustBeEmpty (i : Image) (lane : Nat) : Bool :=
  match laneClass lane with
  | .die => !i.populated lane
  | .bus => !i.channelMask.testBit (lane - 512)
  | .reserved => true
  | _ => false

/-- Code 0x0A. -/
def failLane (i : Image) (v lane : Nat) : Option Nat :=
  let e := i.useEntry v lane
  let m := i.dirEntry 0 lane
  let badProgram := i.mustBeEmpty lane && e.count != 0
  let badMode := v == 0 &&
    (if laneClass lane == .die then
      i.populated lane && (2 < m.mode || 1 < m.plain || (m.plain == 1 && m.mode != 0))
     else m.mode != 0 || m.plain != 0)
  if badProgram || badMode then some e.first else none

/-- Code 0x0B (R82). -/
def failSlotRange (i : Image) (v lane : Nat) : Option Nat :=
  ((i.program v lane).find? fun p =>
    p.2.len == 0 || 15999 < p.2.start || i.cycleCells < p.2.start + p.2.len).map (·.1)

/-- The first entry out of ascending order or sharing a cell with the one before. -/
def firstOverlap : List (Nat × Slot) → Option Nat
  | a :: c :: rest => if c.2.start ≤ a.2.start || c.2.start < a.2.start + a.2.len then some c.1 else firstOverlap (c :: rest)
  | _ => none

/-- Code 0x0C. -/
def failOverlap (i : Image) (v lane : Nat) : Option Nat := firstOverlap (i.program v lane)

/-- The lane classes and PARAM values Table 3-3 allows a kind. -/
def kindOk (c : LaneClass) (x : Slot) : Bool :=
  match x.kind with
  | 0 => c != .reserved && x.param == 0
  | 1 | 2 => (c == .die || c == .bus) && x.param != 0
  | 3 => c == .die && x.param / 2 == 0
  | 4 => (c == .die || c == .bus) && x.param != 0
  | 5 => c == .die && x.param != 0
  | 6 => (c == .die || c == .bus || c == .hardDec || c == .softDec || c == .mirror) && x.param == 0
  | 7 => c == .fetch && x.param != 0
  | 8 => c == .deliver && x.param != 0
  | 9 => c == .cipher && x.param != 0
  | 10 => (c == .hardDec || c == .softDec) && x.param != 0
  | 11 => c == .mirror && x.param / 64 == 0
  | 12 => (c == .die || c == .bus) && x.param == 0
  | _ => false

/-- Code 0x0D (R83). -/
def failKind (i : Image) (v lane : Nat) : Option Nat :=
  ((i.program v lane).find? fun p => !kindOk (laneClass lane) p.2).map (·.1)

/-- The owners Table 3-3 allows a kind (R85). -/
def ownerOk (groups : Nat) (x : Slot) : Bool :=
  x.owner == 0xFFFF ||
  (match x.kind with
   | 0 | 3 | 6 | 11 | 12 => false
   | 4 => x.owner ≤ 255
   | _ => x.owner < groups)

/-- Code 0x0E. -/
def failOwner (i : Image) (v lane : Nat) : Option Nat :=
  ((i.program v lane).find? fun p => !ownerOk i.groups.length p.2).map (·.1)

/-- The members of the stripe set of channels 8k to 8k + 7 and a die number (R91). -/
def stripeSet (k d : Nat) : List Nat := (List.range 8).map fun j => (8 * k + j) * 16 + d

/-- The 64 stripe sets in the order of their lowest lane. -/
def stripeSets : List (List Nat) := (List.range 4).flatMap fun k => (List.range 16).map (stripeSet k)

/-- Code 0x0F (R88, R91): the lowest lane that breaks R88, else the lowest member lane, populated or not, of the first stripe
set without a single MODE or, with MODE 1, without all eight members. -/
def failMode (i : Image) : Option LoadErr :=
  let bad (l : Nat) : LoadErr := { code := 0x0F, lane := l, entry := (i.dirEntry 0 l).first }
  match (List.range 512).find? fun l => i.populated l && i.mode l == 0 && i.pairMode != 1 with
  | some l => some (bad l)
  | none =>
    stripeSets.findSome? fun ms =>
      let live := ms.filter i.populated
      match live with
      | [] => none
      | l :: rest =>
        if rest.any (i.mode · != i.mode l) || (i.mode l == 1 && live.length < 8) then some (bad (ms.headD l)) else none

/-- Code 0x10 (R89): the first entry whose PLAIN is not the lane's, or that covers a cell in which the other plain is
in its program phase too. -/
def failPlain (i : Image) (v lane : Nat) : Option Nat :=
  if i.populated lane && i.mode lane == 0 then
    ((i.program v lane).find? fun p => p.2.plain != i.plain lane ||
      (p.2.isProg && (i.phase v (1 - i.plain lane)).any p.2.meets)).map (·.1)
  else none

/-- Code 0x11 (R91). -/
def failWave (i : Image) (v lane : Nat) : Option Nat :=
  if lane < 512 ∧ i.populated lane ∧ i.mode lane = 1 then
    let others := (stripeSet (lane / 128) (lane % 16)).filter (· != lane)
    ((i.program v lane).find? fun p => p.2.isProg && others.any fun l => (i.progSlots v l).any p.2.meets).map (·.1)
  else none

/-- Code 0x12. -/
def failService (i : Image) (v lane : Nat) : Option Nat :=
  let p := i.program v lane
  match p.find? (·.2.kind == 4) with
  | some e => some e.1
  | none =>
    if laneClass lane == .die && p.any (·.2.kind == 2) && !p.any (·.2.kind == 5) then some (i.useEntry v lane).first
    else none

/-- BACKGROUND cells each populated die lane must hold, rounded up (R27). -/
def Image.bgCells (i : Image) : Nat := (max 60 i.bgPermille * i.cycleCells + 999) / 1000

/-- Code 0x13. -/
def failBackground (i : Image) (v lane : Nat) : Option Nat :=
  if i.populated lane ∧ (((i.program v lane).filter (·.2.kind == 6)).map (·.2.len)).sum < i.bgCells then
    some (i.useEntry v lane).first
  else none

/-- Code 0x15 (R97). -/
def failGroup (b : List Byte) : Option LoadErr :=
  (List.range (imgGroups b)).findSome? fun g =>
    let e := sub b (imgGroupOff b + 16 * g) 16
    if rd e 0 1 != g || rd e 1 1 < 1 || 4 < rd e 1 1 || !zeros e 2 14 then some { code := 0x15, entry := g } else none

/-- Code 0x14 (R98). -/
def failTenant (b : List Byte) (i : Image) : Option LoadErr :=
  (List.range i.tenants.length).findSome? fun n =>
    let e := sub b (imgTenantOff b + 64 * n) 64
    match i.tenants[n]? with
    | none => none
    | some t =>
      if t.vf < 1 || 4096 < t.vf || (i.tenants.take n).any (·.vf == t.vf) || i.groups.length ≤ t.group ||
          i.groups.getD t.group 0 != t.cls || t.spread < 1 || 16 < t.spread ||
          (1 ≤ t.cls && t.cls ≤ 3 && t.readBound.getD 0 0 == 0) || !zeros e 5 3 || !zeros e 0x1A 2 || !zeros e 0x38 8
      then some { code := 0x14, entry := n } else none

/-- What a load is checked against: the loaded length, the bound profile's digest, the board's population, whether the
board is paired, and the PAIR_ID strap. -/
structure CheckCtx where
  profileDigest : Option (List Byte)
  channelMask   : Nat
  diesPerCh     : Nat
  paired        : Nat
  pairId        : Nat

/-- Code 0x01: the header's fixed fields, reserved bytes and counts. -/
def badHeader (b : List Byte) : Bool :=
  b.length < 256 || rd b 0 4 != 0x4D535250 || rd b 4 2 != 1 || rd b 6 2 != 256 || !headerReservedZero b ||
  256 < imgGroups b || 4096 < imgTenants b || 1048576 < imgSlots b

/-- Code 0x02: the length and the sections. -/
def badSize (b : List Byte) : Bool :=
  imgTotal b != b.length || 0x880000 < imgTotal b ||
  (imgSections b).any (fun p => p.1 % 256 != 0 || b.length < p.1 + p.2) || !disjointSections (imgSections b)

/-- Code 0x03: IMAGE_DIGEST is the SHA-256 of the whole image with that field zero (Table 3-5). -/
def badDigest (b : List Byte) : Bool :=
  sha256 (b.take 0x60 ++ List.replicate 32 0 ++ b.drop 0x80) != sub b 0x60 32

/-- Code 0x04: the bound media profile. -/
def badProfile (c : CheckCtx) (b : List Byte) : Bool := c.profileDigest != some (sub b 0x20 32)

/-- Code 0x05: the board's population. -/
def badPopulation (c : CheckCtx) (b : List Byte) : Bool := rd b 0x18 4 != c.channelMask || rd b 0x1C 1 != c.diesPerCh

/-- Code 0x06: the pair configuration. -/
def badPair (c : CheckCtx) (b : List Byte) : Bool :=
  rd b 0x11 1 != c.paired || (rd b 0x11 1 == 1 && rd b 0x12 1 != c.pairId)

/-- Code 0x08: the variant records and VMASK group 0. -/
def badVariant (b : List Byte) : Bool :=
  imgVariants b != 4 ||
  [0, 1, 2, 3].any (fun v => imgVariant b v != v || (imgAlias b v != 0xFF && v ≤ imgAlias b v)) ||
  imgAlias b 0 != 0xFF || rd b 0x14 2 % 16 != 0xF

/-- The first check of Table 3-9 that the bytes fail, in the order of the table. -/
def checkImage (c : CheckCtx) (b : List Byte) : Option LoadErr :=
  let i := readImageRaw b
  let all := [0, 1, 2, 3]
  [plainFail 0x01 (badHeader b), plainFail 0x02 (badSize b), plainFail 0x03 (badDigest b),
   plainFail 0x04 (badProfile c b), plainFail 0x05 (badPopulation c b), plainFail 0x06 (badPair c b),
   plainFail 0x07 (6 < rd b 0x10 1), plainFail 0x08 (badVariant b),
   firstFail 0x09 all (failEntryLimit i), firstFail 0x0A all (failLane i), firstFail 0x0B all (failSlotRange i),
   firstFail 0x0C all (failOverlap i), firstFail 0x0D all (failKind i), firstFail 0x0E all (failOwner i),
   failMode i, firstFail 0x10 all (failPlain i), firstFail 0x11 all (failWave i),
   firstFail 0x12 [1, 3] (failService i), firstFail 0x13 all (failBackground i), failGroup b, failTenant b i].findSome? id

/-- What this device checks a load against. -/
def State.checkCtx (s : State) : CheckCtx :=
  { profileDigest := s.mch.profile.map (·.digest),
    channelMask := (s.pwr.desc.map (·.channelMask)).getD 0, diesPerCh := (s.pwr.desc.map (·.diesPerCh)).getD 0,
    paired := (s.pwr.desc.map (·.paired)).getD 0, pairId := s.pwr.straps.pairId.toNat }

end Sys2Proof.Machine
end

