-- ==== Sys2Proof/Machine/Timebase.lean ====
section
/-! DEFINITION. The Frame Timebase (chapter 2): its states (R58), FREF and FSYNC, time of day, and pair skew. What a
frame edge, a minute edge and a phase step do beyond the timebase stands in Frame.lean. -/
namespace Sys2Proof.Machine

/-- What a meaning answers. -/
abbrev Result := Host.Outcome State Fault Refusal

/-! ## Timebase states -/

/-- FTB_STATUS.STATE (Table 2-2): 0 FREERUN, 1 LOCKED, 2 HOLDOVER_REF, 3 HOLDOVER_LOCAL. -/
def State.ftbState (s : State) : Nat := s.field Reg.ftbStatus 0 2
def State.frefOk (s : State) : Bool := s.bit Reg.ftbStatus 2
def State.ppsOk (s : State) : Bool := s.bit Reg.ftbStatus 3

/-- Enters a timebase state; a change sets STATE_CHANGE (R58). Leaving the phase free ends the run of good edges. -/
def State.setFtbState (s : State) (st : Nat) : State :=
  if s.ftbState = st then s else (s.setField Reg.ftbStatus 0 2 st).raise Reg.ftbEvent 0

/-- The frequency source as FTB_STATUS.CLK_SRC shows it: the crystal in HOLDOVER_LOCAL and wherever FREF is lost
(Table 2-2, R59). -/
def State.showClkSrc (s : State) : State := s.setBit Reg.ftbStatus 9 (s.ftbState == 3 || !s.frefOk)

/-- The transitions of Table 2-3 that follow from FREF_OK and PPS_OK alone. -/
def State.settleFtb (s : State) : State :=
  let next :=
    if s.ftbState = 1 ∧ ¬ s.ppsOk then (if s.frefOk then 2 else 3)
    else if s.ftbState = 2 ∧ ¬ s.frefOk then 3
    else if s.ftbState = 3 ∧ s.frefOk ∧ ¬ s.ppsOk then 2
    else s.ftbState
  (s.setFtbState next).showClkSrc

/-- FREF declared lost (Table 2-1, R59): FREF_OK falls, the loss is counted, and the state settles. -/
def State.frefLost (s : State) : State :=
  if s.frefOk then
    let t : State := { s with ftb := { s.ftb with frefLostAt := some s.now } }
    (((t.setBit Reg.ftbStatus 2 false).raise Reg.ftbEvent 2).countErr .ftb Reg.ftbFrefLossCnt).settleFtb
  else s

/-- 100 ms have passed since FREF was declared lost; before a first loss nothing has to pass (R43). -/
def State.frefHeld (s : State) : Bool := s.ftb.frefLostAt.all fun a => decide (a + 50000000 ≤ s.now)

/-- FREF good again, not earlier than 100 ms after its loss (R43). -/
def State.frefGood (s : State) : State :=
  if s.frefHeld then
    (State.setBit { s with ftb := { s.ftb with frefLostAt := none } } Reg.ftbStatus 2 true).settleFtb
  else s

/-- Ticks from the last valid FPPS edge to the close of the acceptance window of the second expected edge (R649): 2 s + 1 µs
in LOCKED, 2 s + 200 µs otherwise. -/
def State.ppsLimit (s : State) : Nat := if s.ftbState = 1 then 1000000500 else 1000100000

/-- The window of the second consecutive expected edge has closed (R649). -/
def State.ppsMissed (s : State) : Bool := s.ftb.lastPps.any fun a => decide (a + s.ppsLimit ≤ s.now)

/-- FPPS declared lost (R649): PPS_OK falls, PPS_LOST is set, and any state change follows at the same tick. A slew in
progress ends with it: RELOCKING clears (notes/assumptions/94.md). -/
def State.ppsLost (s : State) : State :=
  if s.ppsOk ∧ s.ppsMissed then
    let t : State := { s with ftb := { s.ftb with ppsSeen := false, stepped := false, goodRun := 0 } }
    (((t.setBit Reg.ftbStatus 3 false).setBit Reg.ftbStatus 7 false).raise Reg.ftbEvent 1).settleFtb
  else s

/-- FTB_CTL.DPLL_EN cleared: FREERUN at nominal frequency (R58, Table 2-6). -/
def State.dpllDisable (s : State) : State :=
  let t : State := { s with ftb := { s.ftb with stepped := false, goodRun := 0 } }
  ((((t.setBit Reg.ftbCtl 0 false).setBit Reg.ftbStatus 7 false).setNum Reg.ftbFreqAdj 0).setFtbState 0).showClkSrc

/-! ## FPPS edges -/

/-- What a valid FPPS edge records: its tick (R649), the phase error, and the frequency offset, whose value no rule states;
it stays within ±50,000 ppb (Table 2-5), and at nominal while DPLL_EN is 0 (Table 2-6). -/
def State.edgeSeen (s : State) (errNs : Int) : State :=
  let t := State.setInt { s with ftb := { s.ftb with lastPps := some s.now } } Reg.ftbPhaseErr errNs
  if s.bit Reg.ftbCtl 0 then (t.setInt Reg.ftbFreqAdj (Int.ofNat (s.freeVal.toNat % 100001) - 50000)).drawn else t

/-- An FPPS edge in LOCKED (R44, R648): accepted within ±1 µs of the prediction, and the crystal correction then
remeasured; any other edge is discarded and counted. -/
def State.lockedEdge (s : State) (errNs crystalPpb : Int) : State :=
  if errNs.natAbs ≤ 1000 then
    let t := s.edgeSeen errNs
    { t with ftb := { t.ftb with crystal := some crystalPpb } }
  else s.countErr .ftb Reg.ftbPpsRejectCnt

/-- A valid edge's part in a run of edges within ±20 ns, and LOCKED after four of them (Table 2-3, R61). The edge that locks
is the first of LOCKED, so that the crystal correction is measured at it (R648, notes/assumptions/94.md). -/
def State.goodEdge (s : State) (errNs crystalPpb : Int) : State :=
  if errNs.natAbs ≤ 20 then
    let t : State := (s.setBit Reg.ftbStatus 7 false)
    let t : State := { t with ftb := { t.ftb with goodRun := t.ftb.goodRun + 1 } }
    if 4 ≤ t.ftb.goodRun then
      State.showClkSrc (State.setFtbState { t with ftb := { t.ftb with crystal := some crystalPpb } } 1)
    else t
  else { s with ftb := { s.ftb with goodRun := 0 } }

/-- Notes whether the phase stands at FPPS. -/
def State.setStepped (s : State) (b : Bool) : State := { s with ftb := { s.ftb with stepped := b } }
/-- Counts the run of good edges afresh. -/
def State.restartRun (s : State) : State := { s with ftb := { s.ftb with goodRun := 0 } }

/-- Whether two FPPS edges lie 1 s ± 100 ppm apart (R45). -/
def secondApart (sinceNs : Nat) : Bool := 999900000 ≤ sinceNs && sinceNs ≤ 1000100000

/-- An FPPS edge outside LOCKED up to the phase step: presence (R45, R649), the run of good edges (Table 2-3), and
slewing in Run (R61). `stepped` says that the phase stands at FPPS, by a step or by slewing, so that no step is due
outside Run (notes/assumptions/94.md). A missed second, or an edge that is not valid under R45, does not break a run of
valid edges: the model's choice (notes/assumptions/94.md). The answer's flag asks for the phase step of R62. -/
def State.freeEdge (s : State) (errNs : Int) (sinceNs : Nat) (crystalPpb : Int) : State × Bool :=
  if !(s.ftb.ppsSeen && secondApart sinceNs) then
    ({ s with ftb := { s.ftb with ppsSeen := true } }, false)
  else
    let t := (s.setBit Reg.ftbStatus 3 true).edgeSeen errNs
    if !t.bit Reg.ftbCtl 0 then (t, false)
    else if t.inRun then
      if t.ftbState = 0 then                                  -- FREERUN does not lock in Run (R60)
        ((t.setStepped false).restartRun, false)
      else if errNs.natAbs ≤ 20 then
        ((t.setStepped true).goodEdge errNs crystalPpb, false)
      else (((t.setBit Reg.ftbStatus 7 true).setStepped false).goodEdge errNs crystalPpb, false)
    else if t.ftb.stepped then (t.goodEdge errNs crystalPpb, false)
    else (((t.setBit Reg.ftbStatus 7 false).setStepped true).restartRun, true)

/-! ## FSYNC -/

/-- An FSYNC edge (R46). -/
def State.fsyncEdge (s : State) (offNs : Int) : State :=
  if s.bit Reg.ftbCtl 1 then
    let t : State := { s with ftb := { s.ftb with fsyncAt := some s.now } }
    let t := (t.setBit Reg.ftbStatus 4 true).setInt Reg.ftbFsyncOffset offNs
    if offNs.natAbs > t.field Reg.ftbFsyncTol 0 16 then (t.raise Reg.ftbEvent 3).countErr .ftb Reg.ftbFsyncSlipCnt else t
  else s

/-- No FSYNC edge for two frames (Table 2-1). -/
def State.fsyncMissed (s : State) : Bool := s.ftb.fsyncAt.any fun a => decide (a + 1000000 ≤ s.now)

/-- FSYNC declared lost (Table 2-1). -/
def State.fsyncLost (s : State) : State := s.when s.fsyncMissed (·.setBit Reg.ftbStatus 4 false)

/-! ## Time of day -/

/-- A write of FTB_TOD_SEC or FTB_TOD_SEC_HI (R57). -/
def State.todSecWrite (s : State) (hi : Bool) (v : Word) : State :=
  if s.bit Reg.ftbTodCtl 0 then s.raise Reg.ftbEvent 6
  else if hi then s.setReg Reg.ftbTodSecHi (v &&& 0x7F) else s.setReg Reg.ftbTodSec v

/-- FTB_TOD_CTL.ARM written (R52, R56). -/
def State.todArm (s : State) : State :=
  if s.bit Reg.ftbTodCtl 0 then s
  else
    let t := s.setBit Reg.ftbTodCtl 0 true
    { t with ftb := { t.ftb with todArmAt := t.now } }

/-- The armed TAI second (R52). -/
def State.todSecond (s : State) : Nat := s.field Reg.ftbTodSecHi 0 7 * 2 ^ 32 + s.num Reg.ftbTodSec

/-- A load is pending for an edge at the present tick: armed in an earlier tick (R56). -/
def State.todPending (s : State) : Bool := s.bit Reg.ftbTodCtl 0 && s.ftb.todArmAt < s.now

/-- The tick of the second edge that stands at the start of the frame in progress (R52): in LOCKED that of the valid FPPS edge
within ±1 µs of it, otherwise the internal edge. A load waits for the internal edge where the FPPS edge comes first
(notes/assumptions/94.md). -/
def State.secondEdge (s : State) : Option Nat :=
  if s.frame % 1000 ≠ 0 then none
  else if s.ftbState = 1 then
    if s.ftb.tick ≤ 500 then s.ftb.lastPps.filter fun p => decide (s.now ≤ p + 500 + s.ftb.tick) else none
  else if s.ftb.tick = 0 then some s.now else none

/-- A load is due: armed before the tick of the second edge that stands now (R52, R56). -/
def State.todDue (s : State) : Bool := s.bit Reg.ftbTodCtl 0 && s.secondEdge.any fun p => decide (s.ftb.todArmAt < p)

/-- Whether the armed second is refused at a second edge at which the counter reaches `frame` (R54). -/
def State.todRefused (s : State) (frame : Nat) : Bool :=
  s.todSecond > 281474976709 || s.todSecond * 1000 < frame || (s.inRun && s.todSecond * 1000 != frame)

/-- Ends a refused load (R54). -/
def State.todRefuse (s : State) : State := (s.setBit Reg.ftbTodCtl 0 false).raise Reg.ftbEvent 5

/-- Ends an accepted load (R53, R55), without the counter. -/
def State.todAccept (s : State) : State :=
  ((s.setBit Reg.ftbStatus 5 true).setBit Reg.ftbTodCtl 0 false).raise Reg.ftbEvent 4

/-- A read of FTB_FRAME_LO (R51). -/
def State.frameCounterRead (s : State) : State :=
  ((s.setNum Reg.ftbFrameHi (s.frame / 2 ^ 32)).setNum Reg.ftbCell (s.ftb.tick / 2000 + s.ftb.tick % 2000 * 65536)).emit
    (.read (BitVec.ofNat 32 s.frame))

/-! ## Pair skew (R68 to R73) -/

/-- Raises the skew condition; `tell` sends the partner the message of R70 step 2. -/
def State.raiseSkew (s : State) (tell : Bool) : State :=
  if s.bit Reg.ftbStatus 8 then s
  else
    let t : State := { s with ftb := { s.ftb with skewRun := 0, ownProp := none, peerProp := none, reraise := false } }
    let t := ((t.setBit Reg.ftbStatus 8 true).raise Reg.ftbEvent 7).countErr .ftb Reg.ftbPairSkewCnt
    (if tell then t.send (.control 1 t.frame) else t).conditions

/-- The agreed frame of clearing: the later of the two proposals (R72). -/
def State.skewAgreed (s : State) : Option Nat :=
  match s.ftb.ownProp, s.ftb.peerProp with
  | some a, some b => some (max a b)
  | _, _ => none

/-- What a heartbeat of frame `hbFrame` with a skew of `n` ticks does to an active condition (R72). -/
def State.skewHeartbeat (s : State) (hbFrame n : Nat) : State :=
  if n ≤ 2000 then
    let run := s.ftb.skewRun + 1
    let t : State := { s with ftb := { s.ftb with skewRun := run } }
    if run = 1000 then
      State.send { t with ftb := { t.ftb with ownProp := some (t.frame + 16) } } (.control 2 (t.frame + 16))
    else t
  else if s.skewAgreed.any (· ≤ hbFrame + 1) then
    { s with ftb := { s.ftb with reraise := s.ftb.reraise || n > 4000 } }
  else if s.ftb.ownProp.isSome then
    State.send { s with ftb := { s.ftb with skewRun := 0, ownProp := none, peerProp := none } } (.control 2 0)
  else { s with ftb := { s.ftb with skewRun := 0 } }

/-- The skew a heartbeat shows: own frame and tick minus the sender's, minus FTB_LINK_DELAY [ticks] (R68). -/
def State.skewOf (s : State) (hb : Heartbeat) : Int :=
  (Int.ofNat (s.frame * 500000 + s.ftb.tick) - Int.ofNat (hb.frame * 500000 + hb.tick)) -
    Int.ofNat (s.num Reg.ftbLinkDelay)

/-- A heartbeat's skew: stored, and raised or counted toward the clearing (R68, R70, R72). A skew that the signed
32-bit register cannot hold leaves a free value there. -/
def State.skewMeasured (s : State) (hb : Heartbeat) : State :=
  let d := s.skewOf hb
  let t := if d.natAbs < 2 ^ 31 then s.setInt Reg.ftbPairSkew d
    else (s.setReg Reg.ftbPairSkew (s.freeVal.setWidth 32)).drawn
  if t.bit Reg.ftbStatus 8 then t.skewHeartbeat hb.frame d.natAbs
  else if d.natAbs > 4000 then t.raiseSkew true else t

/-- A proposal of a clearing frame from the partner; 0 withdraws it (R72). A withdrawal discards what was agreed, so that
a chip that had proposed proposes again: its run is counted afresh (notes/assumptions/94.md). -/
def State.skewProposal (s : State) (frame : Nat) : State :=
  if s.bit Reg.ftbStatus 8 then
    if frame = 0 then
      { s with ftb := { s.ftb with peerProp := none, ownProp := none,
                                   skewRun := if s.ftb.ownProp.isSome then 0 else s.ftb.skewRun } }
    else { s with ftb := { s.ftb with peerProp := some frame } }
  else s

/-- The agreed frame: both chips clear the condition (R72). A skew above 4,000 ticks measured from the agreed frame
minus 1 on raises it again. Where the counter has stepped past the agreed frame, the condition clears at the first moment
after it: the model's choice (notes/assumptions/94.md). -/
def State.pairSkewClear (s : State) : State :=
  match s.skewAgreed with
  | some f =>
    if s.bit Reg.ftbStatus 8 ∧ f ≤ s.frame then
      let again := s.ftb.reraise
      let t : State := { s with ftb := { s.ftb with skewRun := 0, ownProp := none, peerProp := none, reraise := false } }
      let t := ((t.setBit Reg.ftbStatus 8 false).raise Reg.ftbEvent 8).conditions
      if again then t.raiseSkew true else t
    else s
  | none => s

/-! ## Meanings -/

def execFrefLost (s : State) : Result := .next (s.whenLive State.frefLost)
def execFrefGood (s : State) : Result := .next (s.whenLive State.frefGood)
def execPpsLost (s : State) : Result := .next (s.whenLive State.ppsLost)
def execFsyncEdge (offNs : Int) (s : State) : Result := .next (s.whenLive (·.fsyncEdge offNs))
def execFsyncLost (s : State) : Result := .next (s.whenLive State.fsyncLost)
def execTodSecWrite (hi : Bool) (v : Word) (s : State) : Result := .next (s.whenLive (·.todSecWrite hi v))
def execTodArm (s : State) : Result := .next (s.whenLive State.todArm)
def execDpllDisable (s : State) : Result := .next (s.whenLive State.dpllDisable)
def execFrameCounterRead (s : State) : Result := .next (s.whenLive State.frameCounterRead)
/-- The partner has raised the skew condition (R71). -/
def execSkewRaisedRx (s : State) : Result := .next (s.whenLive fun t => (t.took 5 0).raiseSkew false)
def execSkewClearProposalRx (frame : Nat) (s : State) : Result := .next (s.whenLive fun t => (t.took 5 0).skewProposal frame)
def execPairSkewClear (s : State) : Result := .next (s.whenLive State.pairSkewClear)

end Sys2Proof.Machine
end

