-- ==== Sys2Proof/Machine/Tenancy.lean ====
section
/-! DEFINITION. Tenant contracts (chapter 4): buckets and their refill (R141 to R150), trims (R166 to R169), the charge
of reads and writes (R143 to R145), and the bounds (R156). -/
namespace Sys2Proof.Machine

/-! ## Rates and depths -/

/-- A rate scaled by a trim and the GC factor, truncated to Q16.16 (R167). -/
def scaledRate (rate trim gc : Nat) : Nat := rate * trim * gc / 2 ^ 32

/-- A depth in Q32.16 scaled by a trim and the GC factor: a trimmed depth is never below one token unless the rate is
0 (R167). -/
def scaledDepth (burst rate trim gc : Nat) : Nat :=
  let d := burst * 65536 * trim * gc / 2 ^ 32
  if trim * gc = 2 ^ 32 ∨ scaledRate rate trim gc = 0 then d else max 65536 d

/-- The GC factor (R299). -/
def State.gcFactor (s : State) : Nat := s.field Reg.mcrGcFactor 0 17

/-- The trim in force of a VF and direction (R166). -/
def State.trimOf (s : State) (vf dir : Nat) : Nat := (s.prx.trims.get (2 * vf + dir)).inForce

/-- What a tenant's three kinds of bucket have now: rate and depth (R141, R148, R167). -/
structure Buckets where
  readRate   : Nat
  readDepth  : Nat
  writeRate  : Nat
  writeDepth : Nat
  dieRate    : Nat
  dieDepth   : Nat
deriving DecidableEq, Repr

/-- The buckets of a tenant entry with trims `tr` (reads) and `tw` (writes) and the GC factor, over `d` dies. -/
def bucketsOf (t : TenantEntry) (tr tw gc d : Nat) : Buckets :=
  let rr := scaledRate t.readRate tr 65536
  let rd := scaledDepth t.readBurst t.readRate tr 65536
  { readRate := rr, readDepth := rd,
    writeRate := scaledRate t.writeRate tw gc, writeDepth := scaledDepth t.writeBurst t.writeRate tw gc,
    dieRate := t.spread * rr / d,
    dieDepth := max 1 ((t.spread * rd + (d * 65536 - 1)) / (d * 65536)) * 65536 }

/-- The buckets of a tenant of the active image in force. -/
def State.bucketsOf (s : State) (i : Image) (t : TenantEntry) : Buckets :=
  Machine.bucketsOf t (s.trimOf t.vf 0) (s.trimOf t.vf 1) s.gcFactor (max 1 (popDies i.channelMask i.diesPerCh))

/-- A tenant with every bucket full (R142). -/
def Tenant.full (x : Tenant) (b : Buckets) : Tenant :=
  { x with readLevel := b.readDepth, writeLevel := b.writeDepth, dieDebt := [], dieBase := 0 }

/-- A tenant at a frame edge whose buckets change from `old` to `new`: every level becomes the smaller of its depth
and its level plus its rate (R141, R150, R167). -/
def Tenant.refill (x : Tenant) (old new : Buckets) : Tenant :=
  let debt (q : Nat) : Nat := new.dieDepth - min new.dieDepth (old.dieDepth - q + new.dieRate)
  let base := debt x.dieBase
  { x with readLevel := min new.readDepth (x.readLevel + new.readRate),
           writeLevel := min new.writeDepth (x.writeLevel + new.writeRate),
           dieBase := base,
           dieDebt := (x.dieDebt.map fun p => (p.1, debt p.2)).filter (·.2 != base) }

/-- The level of a tenant's per-die bucket. -/
def Tenant.dieLevel (x : Tenant) (b : Buckets) (lane : Nat) : Nat :=
  b.dieDepth - (lookupKey lane x.dieDebt).getD x.dieBase

/-- Takes one token from a per-die bucket. -/
def Tenant.takeDie (x : Tenant) (lane : Nat) : Tenant :=
  { x with dieDebt := insertKey lane ((lookupKey lane x.dieDebt).getD x.dieBase + 65536) (eraseKey lane x.dieDebt) }

/-! ## Charges -/

/-- Takes one token from each home die in turn, or fails (R143). -/
def Tenant.takeDies (b : Buckets) : List Nat → Tenant → Option Tenant
  | [], x => some x
  | l :: rest, x => if 65536 ≤ x.dieLevel b l then Tenant.takeDies b rest (x.takeDie l) else none

/-- The charge of a read of `n` units with one per-die token for each lane of `homes`: all or none (R143, R145). -/
def Tenant.chargeRead (x : Tenant) (b : Buckets) (n : Nat) (homes : List Nat) : Option Tenant :=
  if n * 65536 ≤ x.readLevel then (x.takeDies b homes).map fun y => { y with readLevel := y.readLevel - n * 65536 }
  else none

/-- The charge of a write of `n` units: all or none (R144). -/
def Tenant.chargeWrite (x : Tenant) (n : Nat) : Option Tenant :=
  if n * 65536 ≤ x.writeLevel then some { x with writeLevel := x.writeLevel - n * 65536 } else none

/-! ## Bounds -/

/-- READ_BOUND and WACK_BOUND of a tenant entry in a variant. -/
def TenantEntry.readBoundIn (t : TenantEntry) (v : Nat) : Nat := t.readBound.getD v 0
def TenantEntry.wackBoundIn (t : TenantEntry) (v : Nat) : Nat := t.wackBound.getD v 0

/-- The bound of a read of `n` units from a READ_BOUND (R156). -/
def readBoundFor (bound n : Nat) : Nat := bound + (n - 1) * 2000

/-- The larger of a tenant's bounds under the active and, in frame F − 1, the staged image; an image in which it has
none takes no part (R112, R113). `f` picks the bound of an entry in a variant. -/
def State.boundAcross (s : State) (vf : Nat) (f : TenantEntry → Nat → Nat) : Nat :=
  let own := ((s.prx.active.bind (·.tenant? vf)).map (f · s.variant)).getD 0
  match s.prx.switchF, s.prx.staged with
  | some sf, some j =>
    if s.frame + 1 = sf ∧ s.inRun then max own (((j.tenant? vf).map (f · (s.selectVariant j))).getD 0) else own
  | _, _ => own

/-! ## Trims -/

/-- A trim for a VF and direction written now, saturated at 0x1_0000 and ignored for a VF without a tenant entry
(R166, R168). -/
def State.trim (s : State) (vf dir v : Nat) : State :=
  match s.prx.active.bind (·.tenant? vf) with
  | none => s
  | some _ =>
    { s with prx := { s.prx with
        trims := s.prx.trims.modify (2 * vf + dir) fun t => { t with pending := some (min v 0x10000), writtenAt := s.now } } }

/-- A trim at a frame edge: a pending value written before the edge's tick comes into force (R166). -/
def Trim.atEdge (now : Nat) (t : Trim) : Trim :=
  match t.pending with
  | some v => if t.writtenAt < now then { pending := none, writtenAt := 0, inForce := v } else t
  | none => t

/-- Every tenant's buckets at a frame edge: trims come into force and every bucket is refilled (R141, R150, R166,
R167). `gcOld` is the factor of the frame that ends. -/
def State.refillAll (s : State) (gcOld : Nat) : State :=
  match s.prx.active with
  | none => s
  | some i =>
    if !s.inRun then s else
    let d := max 1 (popDies i.channelMask i.diesPerCh)
    let t : State := { s with prx := { s.prx with trims := s.prx.trims.mapListed fun _ => Trim.atEdge s.now } }
    { t with tenants := i.tenants.foldl (fun acc e =>
        acc.modify e.vf fun x => x.refill
          (Machine.bucketsOf e (s.trimOf e.vf 0) (s.trimOf e.vf 1) gcOld d) (t.bucketsOf i e)) t.tenants }

/-- The tenants at an image switch: trims return to 0x1_0000, but for one written from the tick of F:0 on, which waits
for the next edge; a tenant of both images keeps its read and write levels, refilled at the new rate and capped at the
new depth, with its per-die buckets full; a tenant new to the image starts full (R111, R141, R142, R168). -/
def State.switchTenants (s : State) (old : Option Image) (new : Image) : State :=
  let keep (t : Trim) : Trim :=
    if t.pending.isSome ∧ s.now ≤ t.writtenAt + s.ftb.tick then { t with inForce := 0x10000 } else {}
  let t : State := { s with prx := { s.prx with trims := s.prx.trims.mapListed fun _ => keep } }
  { t with tenants := new.tenants.foldl (fun acc e =>
      let b := t.bucketsOf new e
      acc.modify e.vf fun x =>
        match old.bind (·.tenant? e.vf) with
        | some _ => { x with readLevel := min b.readDepth (x.readLevel + b.readRate),
                             writeLevel := min b.writeDepth (x.writeLevel + b.writeRate), dieDebt := [], dieBase := 0 }
        | none => x.full b) t.tenants }

/-- PRX_TOKEN_TRIM: the trim of the VF and direction that PRX_TRIM_SEL names (Table 3-12). -/
def State.tokenTrim (s : State) (v : Word) : State :=
  s.trim (s.field Reg.prxTrimSel 0 13) (s.field Reg.prxTrimSel 16 1) (v.toNat % 2 ^ 17)

/-- PRX_TOKEN_TRIM written; core-only (R136). -/
def execPrxTokenTrim (by_ : Requester) (v : Word) (s : State) : Result :=
  .next (s.byCore by_ Reg.prxTokenTrim (·.tokenTrim v))

end Sys2Proof.Machine
end

