-- ==== Sys2Proof/Machine/Prism.lean ====
section
/-! DEFINITION. The Prism Executor's control (chapter 3): loads, arming, image switches, Park, and the variants. -/
namespace Sys2Proof.Machine

/-- A partner is joined (R496): pair state JOINED. -/
def State.joined (s : State) : Bool := s.field Reg.mlkPairState 0 3 == 5

/-- Self-tests that only Park allows (Table 8-5), and whether one runs. -/
def parkOnlyTest (t : Nat) : Bool := 8 ≤ t
def State.testRunning (s : State) : Option Nat := s.mcr.testRun

/-! ## Loads -/

/-- ARM reads 1 (R105, R106). -/
def State.arming (s : State) : Bool := s.bit Reg.prxArm 0

/-- Drops the staged image (R103). -/
def State.dropStaged (s : State) : State :=
  let t : State := { s with prx := { s.prx with staged := none } }
  (t.setBit Reg.prxStatus 4 false).setNum Reg.prxStagedId 0

/-- Records a failed load (R101, R102). -/
def State.loadFailed (s : State) (e : LoadErr) : State :=
  (((s.setNum Reg.prxLoadStatus (e.code + e.variant * 2 ^ 8 + e.lane * 2 ^ 16)).setNum Reg.prxLoadErrEntry
    (e.entry % 2 ^ 20)).raise Reg.prxEvent 1).countErr .prx Reg.prxLoadFailCnt

/-- A load is refused as BUSY (Table 3-9, R114). -/
def State.loadBusy (s : State) : Bool := s.bit Reg.prxStatus 6 || s.arming || s.prx.switchedAt == some s.frame

/-- Starts a load: the staged image is discarded at once, and the fetch from host memory begins, in Run in unowned HOST_FETCH
capacity (R84, R100, R103). While Unclaimed the device loads no image (R437). -/
def State.loadStart (s : State) : State :=
  if ¬ s.bit Reg.secStatus 0 then s
  else if s.loadBusy then s.loadFailed { code := 0x20 }
  else (s.dropStaged.setBit Reg.prxStatus 6 true).internalRead .image 0 none (s.num Reg.prxLoadAddrLo) (s.num Reg.prxLoadLen)

/-- Makes an image the staged image (R103). -/
def State.stage (s : State) (i : Image) : State :=
  let t : State := { s with prx := { s.prx with staged := some i } }
  (t.setBit Reg.prxStatus 4 true).setReg Reg.prxStagedId i.id

/-- The outcome that QUERY reports of a load which a management request started (R445). -/
def State.noteLoad (s : State) (o : OpOutcome) : State :=
  if s.sec.mgmtLoad then { s with sec := { s.sec with lastLoad := o, mgmtLoad := false } } else s

/-- The structural checks end, once the image's last byte has arrived (R101 to R103). While SRAM_BIST runs the load is held
(R316). -/
def State.checksDone (s : State) (b : List Byte) : State :=
  if s.bit Reg.prxStatus 6 ∧ s.testRunning ≠ some 8 ∧ ¬ s.internBusy (fun k _ => k == .image) then
    let t := s.setBit Reg.prxStatus 6 false
    match checkImage s.checkCtx b with
    | some e => (t.loadFailed e).noteLoad (.failed e.code)
    | none => ((((t.noteLoad .ok).stage (readImage b)).setNum Reg.prxLoadStatus 0).setNum Reg.prxLoadErrEntry 0).raise Reg.prxEvent 0
  else s

/-- A read of the image's fetch fails, and the load with it (R365). Table 3-9 gives this failure no code, so the code is a free
value (notes/assumptions/117.md). -/
def State.imageLost (s : State) : State :=
  if s.bit Reg.prxStatus 6 then
    let e := s.freeVal.toNat % 256
    let t := ((s.dropIntern (·.kind == .image)).drawn).setBit Reg.prxStatus 6 false
    (t.loadFailed { code := e }).noteLoad (.failed e)
  else s

/-- PRX_LOAD_CTL.DISCARD: drops the staged image unless armed (Table 3-12). -/
def State.discardStaged (s : State) : State := if s.arming then s else s.dropStaged

/-! ## Arming -/

/-- PRX_SWITCH_FRAME (R107, R108). -/
def State.explicitF (s : State) : Nat := s.field Reg.prxSwitchFrameHi 0 16 * 2 ^ 32 + s.num Reg.prxSwitchFrameLo

/-- The boundary that a switch needs: of the new image and, in Run, of the active image as well (R104). -/
def State.switchCycle (s : State) (j : Image) : Nat :=
  match s.prx.active with
  | some i => if s.inRun then max i.cycleFrames j.cycleFrames else j.cycleFrames
  | none => j.cycleFrames

/-- The first multiple of `c` that is at least `f`. -/
def nextMultiple (c f : Nat) : Nat := (f + c - 1) / c * c

/-- Ends an arm without a switch: ARM, ARMED and the switch frame are cleared; the staged image stays valid (R109). -/
def State.clearArm (s : State) : State :=
  let t : State := { s with prx := { s.prx with switchF := none, armWait := false, armSolo := false, committed := false },
                            mcr := { s.mcr with armDeferred := false } }
  (t.setBit Reg.prxArm 0 false).setBit Reg.prxStatus 5 false

/-- The arm report this chip sends on VC5 in a joined pair, but not of a solo image (R105, R106). A refusal for want of a
staged image carries no digest. -/
def State.reportArm (s : State) (v : ArmVerdict) : State :=
  if s.joined ∧ s.prx.staged.all (·.pairMode == 1) then
    s.send (.armReport { verdict := v, armFrame := s.prx.armFrame, explicitF := s.prx.armF,
                         digest := (s.prx.staged.map (·.phaseDigest)).getD [] })
  else s

/-- Refuses an arm (R109). -/
def State.refuseArm (s : State) (err : Nat) : State :=
  (((s.clearArm.setNum Reg.prxArmStatus err).raise Reg.prxEvent 3).countErr .prx Reg.prxArmFailCnt).reportArm .refused

/-- Arming completes in frame `a` (R107, R108); `both` says that both chips of a pair have armed (R110). The explicit frame is
the one that stood in PRX_SWITCH_FRAME when the device accepted ARM. -/
def State.completeArm (s : State) (a : Nat) (both : Bool) : State :=
  match s.prx.staged with
  | none => s.refuseArm 1
  | some j =>
    let c := s.switchCycle j
    let x := s.prx.armF
    let f := if x ≠ 0 then x else if s.inRun then nextMultiple c (a + 3) else nextMultiple c (a + 1)
    if f % c ≠ 0 then s.refuseArm 2
    else if x ≠ 0 ∧ (if s.inRun then f ≤ a + 2 else f ≤ a) then s.refuseArm 3
    else
      let t : State := { s with prx := { s.prx with switchF := some f, armWait := false, armSolo := false, committed := both } }
      (t.setBit Reg.prxStatus 5 true).setNum Reg.prxArmStatus 0

/-- The partner's accepted arm meets this chip's (R105 to R109): incompatible phases, different explicit frames, or
arming completes in the later of the two arm frames. No rule says how many bytes of the digest a report carries: as many
are compared as it carries, so that a report without a digest agrees with every image: the model's choice
(notes/assumptions/31.md). -/
def State.meetPeerArm (s : State) (r : ArmReport) : State :=
  match s.prx.staged with
  | none => s.refuseArm 1
  | some j =>
    if r.digest ≠ j.phaseDigest.take r.digest.length then s.refuseArm 5
    else if r.explicitF ≠ s.prx.armF then s.refuseArm 6
    else s.completeArm (max s.prx.armFrame r.armFrame) true

/-- The device accepts or refuses an arm (R105 to R109). -/
def State.acceptArm (s₀ : State) : State :=
  let s : State := { s₀ with prx := { s₀.prx with armF := s₀.explicitF } }
  match s.prx.staged with
  | none => s.refuseArm 1
  | some j =>
    let f := s.explicitF
    if f ≠ 0 ∧ f % s.switchCycle j ≠ 0 then s.refuseArm 2
    else if f ≠ 0 ∧ (if s.inRun then f ≤ s.frame + 2 else f ≤ s.frame) then s.refuseArm 3
    else if s.mch.profile.map (·.digest) ≠ some j.profileDigest then s.refuseArm 4
    else if s.prxState = 2 ∨ s.prx.parkHeld then s.refuseArm 7
    else
      let t : State := { s with prx := { s.prx with armFrame := s.frame } }
      if j.pairMode = 1 ∧ s.joined then
        let t := t.reportArm .accepted
        match t.prx.peerArm with
        | some r => t.meetPeerArm r
        | none => { t with prx := { t.prx with armWait := true } }
      else t.completeArm s.frame false

/-- PRX_ARM.ARM written (R105); deferred while a Park-only test runs (R316). -/
def State.arm (s : State) : State :=
  if s.arming then s
  else
    let t := s.setBit Reg.prxArm 0 true
    match s.testRunning with
    | some k => if parkOnlyTest k then { t with mcr := { t.mcr with armDeferred := true } } else t.acceptArm
    | none => t.acceptArm

/-- An arm report from the partner (R105, R106). -/
def State.armReport (s : State) (r : ArmReport) : State :=
  match r.verdict with
  | .accepted =>
    let t : State := { s with prx := { s.prx with peerArm := some r } }
    if t.prx.armWait then t.meetPeerArm r else t
  | .refused =>
    let t : State := { s with prx := { s.prx with peerArm := none } }
    if t.prx.armWait then t.refuseArm 8 else t
  | .withdrawn => { s with prx := { s.prx with peerArm := none } }

/-- The partner's report has not arrived within 1,000 frames (R106). -/
def State.armTimeout (s : State) : State :=
  if s.prx.armWait ∧ s.prx.armFrame + 1000 ≤ s.frame then s.refuseArm 8 else s

/-- The pair has left the joined state while an arm waited, be it joined again since: at the frame edge the image arms alone
(R106). -/
def State.armAlone (s : State) : State :=
  if s.prx.armWait ∧ (s.prx.armSolo ∨ ¬ s.joined) then s.completeArm s.frame false else s

/-- The switch is committed: both chips have armed, or F − 2:0 has come (R110). -/
def State.switchCommitted (s : State) : Bool :=
  s.prx.committed || s.prx.switchF.any (· ≤ s.frame + 2)

/-- DISARM (R106, R110). -/
def State.disarm (s : State) : State :=
  if s.arming ∧ ¬ s.switchCommitted then
    (if s.prx.armWait then s.reportArm .withdrawn else s).clearArm
  else s

/-- F − 2:0 commits the switch (R110). -/
def State.commit (s : State) : State :=
  if s.prx.switchF.any (· ≤ s.frame + 2) then { s with prx := { s.prx with committed := true } } else s

/-! ## Park and the image switch -/

/-- The next cycle boundary of the active image after this frame. -/
def State.nextCycle (s : State) : Nat :=
  match s.prx.active with
  | some i => nextMultiple i.cycleFrames (s.frame + 1)
  | none => s.frame + 1

/-- A Park request takes hold: admission stops at the next cycle boundary (R32). -/
def State.parkPend (s : State) : State :=
  State.setField { s with prx := { s.prx with parkAt := some s.nextCycle, parkHeld := false } } Reg.prxStatus 0 2 2

/-- A Park request (R32, R109). An arm that is pending, in Run or in Park, is refused by it, or holds it until F:0 once the
switch is committed. -/
def State.parkRequest (s : State) : State :=
  if s.arming ∧ s.switchCommitted then { s with prx := { s.prx with parkHeld := true } }
  else
    let t := if s.arming then s.refuseArm 7 else s
    if s.prxState = 1 then t.parkPend else t

/-- Host commands are admitted: in Run, but not from the cycle boundary of a Park request on (R32). -/
def State.admitting (s : State) : Bool :=
  s.prxState == 1 || (s.prxState == 2 && s.prx.parkAt.any (s.frame < ·))

/-- Every admitted command has completed (R32): none that was charged is outstanding. -/
def State.drained (s : State) : Bool := s.cmds.all fun x => x.admin || !x.charged

/-- Entry into Park (R32, R115), which leaves variant 3 (R117). The one staging buffer is not empty while a load writes into
it (R103), and the active image is then discarded. -/
def State.enterPark (s : State) : State :=
  if s.prxState = 2 ∧ s.prx.parkAt.any (· ≤ s.frame) ∧ s.drained then
    let t := match s.prx.active, s.prx.staged with
      | some i, none => if s.bit Reg.prxStatus 6 then s else s.stage i
      | _, _ => s
    let t : State := { t with prx := { t.prx with
      active := none, parkAt := none, since3 := none, since1 := none, since2 := none, clearFrame := none, peerClear := none, oldVariant := none, adms := [], lateSlots := [] } }
    let t : State := { t with mtr := { t.mtr with parked := true } }
    let t : State := { t with mlk := { t.mlk with slots := [], flitDebt := {} } }
    let t := t.flushIntern
    let t := if s.variant = 3 then t.send (.control 4 0) else t
    ((((((t.setField Reg.prxStatus 0 2 0).setField Reg.prxStatus 2 2 0).setNum Reg.prxActiveId 0).setNum
      Reg.prxPhaseLocal 0).setNum Reg.mcrGcFactor 65536).raise Reg.prxEvent 10).pump
  else s

/-- Records a change of the running variant (R111, R119), with the report of R117. -/
def State.variantChanged (s : State) (v : Nat) : State :=
  let t := (((s.setField Reg.prxStatus 2 2 v).raise Reg.prxEvent 4).inc Reg.prxVariantCnt).setField Reg.prxFrameTrigger 0 2 v
  if v = 3 ∧ s.variant ≠ 3 then t.send (.control 4 1)
  else if v ≠ 3 ∧ s.variant = 3 then t.send (.control 4 0) else t

/-- F:0 has come: a frame edge at the boundary F (R104, R111). Where the counter has stepped over F in Park, it is the first
boundary after it (notes/assumptions/31.md). -/
def State.switchNow (s : State) (f : Nat) (j : Image) : Bool :=
  s.ftb.tick == 0 && decide (f ≤ s.frame) && s.frame % s.switchCycle j == 0

/-- The image switch at F:0 (R31, R111, R134). A switch from Park into variant 3 enters it (R117). -/
def State.imageSwitch (s : State) : State :=
  match s.prx.switchF, s.prx.staged with
  | some f, some j =>
    if s.switchNow f j then
      let wasRun := s.inRun
      let t : State := { s.switchTenants (if wasRun then s.prx.active else none) j with
        prx := { (s.switchTenants (if wasRun then s.prx.active else none) j).prx with
          active := some j, staged := none, switchF := none, committed := false, armWait := false, peerArm := none,
          switchedAt := some s.frame, clearFrame := none, peerClear := none, oldVariant := none } }
      let t : State := { t with wrp := { t.wrp with parityW := s.field Reg.wrpCtl 0 2 }, mtr := { t.mtr with switched := true } }
      let t := ((t.setBit Reg.prxArm 0 false).setBit Reg.prxStatus 4 false).setBit Reg.prxStatus 5 false
      let t := ((t.setReg Reg.prxActiveId j.id).setNum Reg.prxStagedId 0).setNum Reg.prxPhaseLocal (rd j.phaseDigest 0 4)
      let t := (((t.setNum Reg.mcrWaAssumed j.waAssumed).setBit Reg.prxStatus 7 false).raise Reg.prxEvent 2).inc
        Reg.prxSwitchCnt
      let v := t.selectVariant j
      let t := if wasRun then (if v = t.variant then t else t.variantChanged v)
        else
          let u := ((t.setField Reg.prxStatus 0 2 1).setField Reg.prxStatus 2 2 v).raise Reg.prxEvent 9
          if v = 3 then u.send (.control 4 1) else u
      (if t.prx.parkHeld then t.parkPend else t).conditions
    else s
  | _, _ => s

/-! ## Variants at run time -/

/-- The variant to which the device switches at this frame edge, if any: one of higher precedence whose condition arose at
least one cell ago (R119), otherwise, at the first cycle boundary at least two frames after the clearing, the one that the
remaining conditions select (R120). -/
def State.variantDue (s : State) (i : Image) : Option Nat :=
  if s.ftb.tick ≠ 0 then none
  else
    match [3, 1, 2].find? fun v => variantRank v < variantRank s.variant && s.condition i v &&
        (s.condSince v).any (· + 2000 ≤ s.now) with
    | some v => some v
    | none =>
      let want := s.remaining i
      if variantRank s.variant < variantRank want ∧ s.frame % i.cycleFrames = 0 ∧ s.prx.clearFrame.any (· + 2 ≤ s.frame) then
        some want
      else none

/-- The switch of the running variant at the edge, with the re-admission of commands admitted into slots at or after it
(R119 to R121). The agreed return from variant 1 ends the partner's variant 3 at the same boundary. -/
def State.variantSwitch (s : State) : State :=
  match s.prx.active with
  | none => s
  | some i =>
    match (if s.inRun then s.variantDue i else none) with
    | none => s
    | some v =>
      let t := s.variantChanged v
      let t : State := { t with prx := { t.prx with
        oldVariant := some (s.variant, s.cell), clearFrame := none,
        peerThermal := t.prx.peerThermal && (variantRank v ≤ variantRank s.variant || t.prx.peerClear.isNone), peerClear := none } }
      let moved := t.prx.adms.filter fun a => !a.started && t.cell ≤ a.start
      (moved.foldl (fun u a => u.readmit 3 a) t).conditions

/-- A junction temperature sample (R116, R642). -/
def State.junctionSample (s : State) (t256 : Int) : State :=
  let t : State := { s with prx := { s.prx with tj256 := t256 } }
  if 100 * 256 ≤ t256 then State.conditions { t with prx := { t.prx with thermal := true, coolFrom := none } }
  else if t256 ≤ 95 * 256 then
    if t.prx.thermal then { t with prx := { t.prx with coolFrom := some (t.prx.coolFrom.getD t.now) } } else t
  else { t with prx := { t.prx with coolFrom := none } }

/-- The thermal condition clears after 1,000 consecutive frames at or below 95 °C (Table 3-11). -/
def State.thermalClear (s : State) : State :=
  if s.prx.thermal ∧ s.prx.coolFrom.any (· + 1000 * 500000 ≤ s.now) then
    State.conditions { s with prx := { s.prx with thermal := false, coolFrom := none } }
  else s

/-- The phase-mismatch condition clears after 1,000 consecutive heartbeats with equal digests (Table 3-11). -/
def State.phaseClear (s : State) : State :=
  if s.prx.phaseMismatch ∧ 1000 ≤ s.prx.phaseRun then
    State.conditions { s with prx := { s.prx with phaseMismatch := false } }
  else s

/-- The partner's digest in a heartbeat against this chip's active one (R116, R491). A partner in Park has no active image,
so that its digest is not compared (notes/assumptions/95.md). -/
def State.phaseHeartbeat (s : State) (digest : List Byte) (park : Bool) : State :=
  let t := s.setNum Reg.prxPhasePartner (rd digest 0 4)
  match t.prx.active with
  | none => t
  | some i =>
    if park then t
    else if digest.take 16 = i.phaseDigest.take 16 then { t with prx := { t.prx with phaseRun := t.prx.phaseRun + 1 } }
    else if t.prx.phaseMismatch then { t with prx := { t.prx with phaseRun := 0 } }
    else
      State.conditions (State.raise { t with prx := { t.prx with phaseRun := 0, phaseMismatch := true } } Reg.prxEvent 8)

/-- The partner enters or leaves variant 3 (Table 3-11, R117). -/
def State.peerVariant3 (s : State) (entered : Bool) : State :=
  State.conditions { s with prx := { s.prx with peerThermal := entered } }

/-- The partner's frame of clearing: the chips take the later one (R120). It is kept for a clearing of this chip that
follows, and where only the partner's variant 3 holds this chip in variant 1 it is the clearing of that condition. -/
def State.clearingFrame (s : State) (frame : Nat) : State :=
  State.conditions { s with prx := { s.prx with peerClear := some (max frame (s.prx.peerClear.getD 0)),
                                                clearFrame := s.prx.clearFrame.map (max · frame) } }

/-! ## Envelope drift -/

/-- DRIFT_WINDOW and DRIFT_LIMIT of an image (Table 3-5). -/
def Image.window (i : Image) : Nat := if i.driftWindow = 0 then 1000 else i.driftWindow
def Image.limit (i : Image) : Nat := if i.driftLimit = 0 then 16 else i.driftLimit

/-- An excursion on a channel, and ENVELOPE_DRIFT when enough of them fall within the window (R133). -/
def State.excursion (s : State) (ch : Nat) : State :=
  let t := (s.inc (Reg.mchChExcursionCnt ch)).countErr .prx Reg.prxExcursionCnt ch
  match t.prx.active with
  | none => t
  | some i =>
    let list := t.frame :: t.prx.excursions.filter (t.frame < · + i.window)
    let t : State := { t with prx := { t.prx with excursions := list } }
    if i.limit ≤ list.length ∧ ¬ t.bit Reg.prxStatus 7 then
      (((t.setBit Reg.prxStatus 7 true).raiseLog .prx Reg.prxEvent 6).raise Reg.prxEvent 7).asyncEvent 0 7 0 0xC3
    else t

/-- ENVELOPE_DRIFT clears after DRIFT_WINDOW consecutive frames with no excursion (R134). -/
def State.driftClear (s : State) : State :=
  match s.prx.active with
  | none => s
  | some i =>
    if s.prx.excursions.all (· + i.window < s.frame) then s.setBit Reg.prxStatus 7 false else s

/-! ## Meanings -/

def execPrxLoad (by_ : Requester) (s : State) : Result := .next (s.byCore by_ Reg.prxLoadCtl State.loadStart)
def execImageChecksDone (b : List Byte) (s : State) : Result := .next (s.whenLive (·.checksDone b))
def execPrxDiscard (by_ : Requester) (s : State) : Result := .next (s.byCore by_ Reg.prxLoadCtl State.discardStaged)
def execPrxArm (by_ : Requester) (s : State) : Result := .next (s.byCore by_ Reg.prxArm State.arm)
def execArmReportRx (r : ArmReport) (s : State) : Result := .next (s.whenLive fun t => (t.took 5 0).armReport r)
def execArmWaitTimeout (s : State) : Result := .next (s.whenLive State.armTimeout)
def execPrxDisarm (by_ : Requester) (s : State) : Result := .next (s.byCore by_ Reg.prxArm State.disarm)
def execSwitchCommit (s : State) : Result := .next (s.whenLive State.commit)
def execPrxParkReq (by_ : Requester) (s : State) : Result := .next (s.byCore by_ Reg.prxParkReq State.parkRequest)
def execParkEntered (s : State) : Result := .next (s.whenLive State.enterPark)
def execVariantSwitch (s : State) : Result := .next (s.whenLive State.variantSwitch)
def execJunctionTempSample (t256 : Int) (s : State) : Result := .next (s.whenLive (·.junctionSample t256))
def execThermalConditionClear (s : State) : Result := .next (s.whenLive State.thermalClear)
def execDriftClear (s : State) : Result := .next (s.whenLive State.driftClear)
def execPhaseMismatchClear (s : State) : Result := .next (s.whenLive State.phaseClear)
def execVariant3ReportRx (entered : Bool) (s : State) : Result := .next (s.whenLive fun t => (t.took 5 0).peerVariant3 entered)

end Sys2Proof.Machine
end

