-- ==== Sys2Proof/Machine/Media.lean ====
section
/-! DEFINITION. The media channels (chapter 5): population, the profile's timings, die operations with suspension
(R191 to R198), read levels (R199), and the isolation of refused and lost channels (R189, R204). -/
namespace Sys2Proof.Machine

/-! ## Population and timings -/

/-- The populated dies of the board descriptor (R174). -/
def State.diesPerCh (s : State) : Nat := (s.pwr.desc.map (·.diesPerCh)).getD 0
def State.channelMask (s : State) : Nat := (s.pwr.desc.map (·.channelMask)).getD 0
def State.populatedLane (s : State) (lane : Nat) : Bool :=
  lane < 512 && s.channelMask.testBit (lane / 16) && lane % 16 < s.diesPerCh
/-- The populated die lanes in lane order. -/
def State.popLanes (s : State) : List Nat := (List.range 512).filter s.populatedLane

/-- A timing of Table 5-5 in ticks, rounded up; 0 without a profile. -/
def State.timing (s : State) (i : Nat) : Nat := (((s.mch.profile.map (·.timing)).getD []).getD i 0 + 1) / 2

/-- MCH_CH_STATUS.STATE (Table 5-11). -/
def State.chState (s : State) (ch : Nat) : Nat := s.field (Reg.mchChStatus ch) 0 3
/-- A channel is up; a die is usable on an up channel when it is not lost. -/
def State.chUp (s : State) (ch : Nat) : Bool := s.chState ch == 2
def State.die (s : State) (lane : Nat) : Die := s.mch.dies.get lane
def State.dieUsable (s : State) (lane : Nat) : Bool := s.chUp (lane / 16) && !(s.die lane).lost

/-- Changes a die. -/
def State.updDie (s : State) (lane : Nat) (f : Die → Die) : State :=
  { s with mch := { s.mch with dies := s.mch.dies.modify lane f } }

/-- The worst-case duration of an operation kind [ticks] (Table 5-5). -/
def State.worstOf (s : State) (kind : Nat) : Nat :=
  if kind = 1 then s.timing 0 else if kind = 2 then s.timing 2 else s.timing 4

/-! ## Operations on a die -/

/-- Starts an operation on a die; its first status poll is due POLL_FIRST_R or POLL_FIRST_PE later (R193). -/
def State.startDie (s : State) (lane kind : Nat) (w : Work) (slotEnd : Nat) : State :=
  (s.updDie lane fun d => { d with run := some { kind := kind, work := w, start := s.now, worst := s.worstOf kind,
                                                   slotEnd := slotEnd, pollAt := s.now + s.timing (if kind = 1 then 11 else 12) },
                                   resumedAt := none,
                                   suspCount := if d.susp.isNone then 0 else d.suspCount }).emit (.die lane kind)

/-- Whether a running program or erase may be suspended now (R196): fewer suspensions than the profile allows, and the
least run time since the last resume past. -/
def State.maySuspend (s : State) (lane : Nat) : Bool :=
  let d := s.die lane
  match d.run, d.susp, s.mch.profile with
  | some op, none, some p =>
    op.kind != 1 && decide (d.suspCount < (if op.kind = 2 then p.maxSuspProg else p.maxSuspErase)) &&
    d.resumedAt.all (fun t => t + s.timing 8 ≤ s.now)
  | _, _, _ => false

/-- A suspension of the running program or erase, after the status read of R195: an operation that is ready, as a status poll
has shown it, is complete and not suspended; one that R196 withholds is counted. -/
def State.suspendDie (s : State) (lane : Nat) : State :=
  let t := s.emit (.die lane 10)
  if (s.die lane).run.any (·.ready) then t
  else if s.maySuspend lane then
    let held (op : DieOp) : DieOp := { op with suspAt := s.now }
    ((t.updDie lane fun d => { d with susp := d.run.map held, run := none, suspCount := d.suspCount + 1 }).inc
      (Reg.mchChSuspendCnt (lane / 16))).emit (.die lane 4)
  else t.inc (Reg.mchChSuspendRefuseCnt (lane / 16))

/-- Resumes the suspended operation, once no other runs (R191, R92). The time it was suspended is no part of its duration. -/
def State.resumeDie (s : State) (lane : Nat) : State :=
  let d := s.die lane
  if d.run.isNone ∧ d.susp.isSome then
    let again (op : DieOp) : DieOp := { op with start := op.start + (s.now - op.suspAt), pollAt := s.now + s.timing 12 }
    (s.updDie lane fun x => { x with run := x.susp.map again, susp := none, hold := .none, resumedAt := some s.now }).emit (.die lane 5)
  else s

/-- The read-level offsets that Media Care holds for the group of a block; the band's initial set when it has none. -/
def State.levelsFor (s : State) (lane group : Nat) : List Int :=
  match lookupKey group (s.die lane).offsets with
  | some l => l
  | none => ((s.mch.profile.bind fun p => p.bands[group / 16]?).map (·.levelInit)).getD []

/-- Writes new read-level offsets before a read, as LEVEL_COUNT signed bytes at LEVEL_FEATURE, only when they differ from
those last set (R199). `shift` 0 takes the offsets chosen for the group, any other the shifted ones of a retry or a soft
decode (R225, R232, R656). -/
def State.setLevels (s : State) (lane group shift : Nat) : State :=
  let l := s.levelsFor lane group
  let l := if shift = 0 then l else Config.shiftedLevels l shift
  let p := s.mch.profile.getD {}
  if (s.die lane).levels = l then s
  else (s.updDie lane fun d => { d with levels := l }).emit
    (.dieArg lane 8 p.levelFeature ((l.take p.levelCount).map (BitVec.ofInt 8)))

/-! ## Channels -/

/-- BRINGUP_BUSY while any channel is in bring-up (Table 5-9). -/
def State.showBringup (s : State) : State :=
  s.setBit Reg.mchGstatus 1 ((List.range 32).any fun c => s.chState c == 1)

/-- Isolates a channel: CE_N high, WP_N low and on-die termination off (R176, R189, R204). -/
def State.isolate (s : State) (ch : Nat) : State :=
  ((s.emit (.pin (.chCeN ch) true)).emit (.pin (.chWpN ch) false)).emit (.pin (.chOdt ch) false)

/-- Puts a channel into the order of loss: by the frame, then by the number (R123). -/
def insertLost (ch frame : Nat) (f : NatTab) : List Nat → List Nat
  | [] => [ch]
  | c :: rest => if f.get c = frame ∧ ch < c then ch :: c :: rest else c :: insertLost ch frame f rest

/-- Adds a channel to the refused and lost ones, raising the channel-lost condition (Table 3-11). A channel that is refused
again after a bring-up keeps its place and its frame in the order of loss: it was never restored, and the spec does not date
its loss anew, the model's choice (notes/assumptions/102.md). -/
def State.chGone (s : State) (ch : Nat) : State :=
  if s.prx.lost.contains ch then s.conditions
  else State.conditions { s with prx := { s.prx with lost := insertLost ch s.frame s.prx.lostF s.prx.lost,
                                                     lostF := s.prx.lostF.set ch s.frame } }

/-- Records a channel's STATE, REASON, lowest failing die and ID entry (Table 5-11). -/
def State.setChStatus (s : State) (ch st reason die entry : Nat) : State :=
  s.setNum (Reg.mchChStatus ch) (st + reason * 2 ^ 8 + die * 2 ^ 12 + entry * 2 ^ 16)

/-- Refuses a channel (R189). -/
def State.refuseCh (s : State) (ch reason die : Nat) : State :=
  let t := (((s.setChStatus ch 3 reason die 0).setBit Reg.mchChUp ch false).setBit Reg.mchChLost ch false).setBit
    Reg.mchChRefused ch true
  (((t.isolate ch).raiseLog .mch Reg.mchEvent 1 ch).asyncEvent 0 7 1 0xC1).chGone ch

/-- Declares a channel lost, without the operations in flight on it (R204). -/
def State.loseCh (s : State) (ch reason die : Nat) : State :=
  let t := (((s.setChStatus ch 4 reason die (s.field (Reg.mchChStatus ch) 16 3)).setBit Reg.mchChUp ch false).setBit
    Reg.mchChRefused ch false).setBit Reg.mchChLost ch true
  (((t.isolate ch).raiseLog .mch Reg.mchEvent 2 ch).asyncEvent 0 7 2 0xC1).chGone ch

/-- The ID entries of the profile that a die matches (R180). -/
def idMatches (p : Profile) (d : DieId) : List Nat :=
  (List.range p.ids.length).filter fun k =>
    match p.ids[k]? with
    | some (bytes, mask, crc) =>
      d.paramCrc == crc && decide (List.zipWith (· &&& ·) (d.bytes.take 8) mask = List.zipWith (· &&& ·) bytes mask)
    | none => false

/-- The first failure of Table 5-7 that a bring-up shows: reason and lowest failing die; none gives the matched entry
(R187 to R190). -/
def bringupOutcome (p : Option Profile) (dies : Nat) (f : BringupFacts) : (Nat × Nat) ⊕ Nat :=
  match p with
  | none => .inl (1, 0)
  | some p =>
    match f.notReady with
    | some d => .inl (2, d)
    | none =>
      let m := (List.range dies).map fun d => ((f.ids[d]?).map (idMatches p)).getD []
      match (List.range dies).find? fun d => (m.getD d []).isEmpty with
      | some d => .inl (3, d)
      | none =>
        match (List.range p.ids.length).find? fun k => m.all (·.contains k) with
        | none =>
          .inl (4, ((List.range dies).find? fun d => !(m.getD d []).contains ((m.getD 0 []).headD 0)).getD 0)
        | some k =>
          match (List.range ((dies + 3) / 4)).find? fun t => f.lunCounts.getD t 0 < min 4 (dies - 4 * t) with
          | some t => .inl (5, 4 * t)
          | none =>
            match f.trainFail, f.verifyFail with
            | some d, _ => .inl (6, d)
            | none, some d => .inl (7, d)
            | none, none => .inr k

/-- Writes the profile's feature list on a channel: each entry's parameters at its address, to every populated LUN of the
targets of its mask (R182); on-die termination and VrefQ are among them (Table 5-2). -/
def State.writeFeatures (s : State) (ch : Nat) : State :=
  (((s.mch.profile.map (·.features)).getD []).take 16).foldl
    (fun t p => (List.range t.diesPerCh).foldl
      (fun u d => if p.2.1.testBit (d / 4) then u.emit (.dieArg (ch * 16 + d) 12 p.1 p.2.2) else u) t) s

/-- An operation on every populated die of a channel. -/
def State.onDies (s : State) (ch op : Nat) : State :=
  (List.range s.diesPerCh).foldl (fun t d => t.emit (.die (ch * 16 + d) op)) s

/-- Duty-cycle-correction, read DQ and write DQ training of a channel (Table 5-6, R203). -/
def State.trainChannel (s : State) (ch : Nat) : State := ((s.onDies ch 14).onDies ch 15).onDies ch 16

/-- What a bring-up does on a channel whose dies are ready and match: the feature list and ZQ calibration at 25 ms, then the
training, and the loop-back where the training has succeeded (Table 5-6). -/
def State.configureCh (s : State) (ch reason : Nat) : State :=
  if 1 ≤ reason ∧ reason ≤ 5 then s
  else
    let t := ((s.writeFeatures ch).onDies ch 13).trainChannel ch
    if reason = 6 then t else t.onDies ch 17

/-- A channel comes up (R187, R205): lost dies are usable again, and the condition of a restored channel clears. -/
def State.chComesUp (s : State) (ch entry : Nat) : State :=
  let restored := s.prx.lost.contains ch
  let t := s.setChStatus ch 2 0 0 entry
  let t := ((t.setBit Reg.mchChUp ch true).setBit Reg.mchChRefused ch false).setBit Reg.mchChLost ch false
  let t := (t.setNum (Reg.mchChDieLost ch) 0).setNum Reg.mchRate ((t.mch.profile.map (·.maxRate)).getD 0)
  let t := (List.range 16).foldl (fun u d => u.updDie (ch * 16 + d) fun x => { x with lost := false, timeouts := 0, lostAt := none }) t
  let t : State := { t with mch := { t.mch with retrain := t.mch.retrain.set ch 0, trainedC := t.mch.trainedC.set ch t.cell },
                            prx := { t.prx with lost := t.prx.lost.filter (· != ch) } }
  let t := ((t.emit (.pin (.chOdt ch) true)).emit (.pin (.chWpN ch) true)).conditions
  if restored then t.raise Reg.mchEvent 5 else t

/-- A channel's bring-up has ended, one way or another: the last of a binding's completes the binding (R185). -/
def State.bindingEnds (s : State) (ch : Nat) : State :=
  if s.mch.binding.contains ch then
    let left := s.mch.binding.filter (· != ch)
    let u : State := { s with mch := { s.mch with binding := left } }
    if left.isEmpty then State.raise { u with sec := { u.sec with lastBind := .ok } } Reg.mchEvent 6 else u
  else s

/-- A bring-up of a channel ends (R187 to R190, R205). -/
def State.bringupDone (s : State) (ch : Nat) (f : BringupFacts) : State :=
  if s.chState ch ≠ 1 then s
  else
    let t := match bringupOutcome s.mch.profile s.diesPerCh f with
      | .inl (reason, die) => (s.configureCh ch reason).refuseCh ch reason die
      | .inr k => (s.configureCh ch 0).chComesUp ch k
    ((t.raise Reg.mchEvent 0).showBringup).bindingEnds ch

/-- Starts the bring-up of a channel from the reset step (Table 5-6). -/
def State.startBringup (s : State) (ch : Nat) : State :=
  let t := (((s.setChStatus ch 1 0 0 0).setBit Reg.mchChUp ch false).setBit Reg.mchChRefused ch false).setBit Reg.mchChLost ch false
  ((List.range t.diesPerCh).foldl (fun u d => u.emit (.die (ch * 16 + d) 7)) t).showBringup

/-- A domain reset shows in DOMAIN_RESET_SEEN and PWR_EVENT (R611). -/
def State.domainReset (s : State) (reg bit : Nat) : State := (s.setBit reg bit true).raise Reg.pwrEvent 1

/-- MCH_CH_CTL.BRINGUP on a refused or lost channel (R205, R206). -/
def State.chBringup (s : State) (ch : Nat) : State :=
  if s.chState ch = 3 ∨ s.chState ch = 4 then (s.startBringup ch).domainReset Reg.pwrDomainSeenCh ch else s

/-- RB_N rises on a target: a status read of each of its LUNs that runs an operation (R175, R193). -/
def State.rbRise (s : State) (ch target : Nat) : State :=
  (List.range 4).foldl (fun t l =>
    let lane := ch * 16 + target * 4 + l
    if (t.die lane).run.isSome then t.emit (.die lane 10) else t) s

def execMchChBringup (by_ : Requester) (ch : Nat) (s : State) : Result := .next (s.byCore by_ (Reg.mchChCtl ch) (·.chBringup ch))
def execRbNRise (ch target : Nat) (s : State) : Result := .next (s.whenLive (·.rbRise ch target))
/-- A status poll of a running operation, once it is due: the next follows POLL_INTERVAL later (R193). A ready die's operation
ends with DIE_OP_COMPLETE, and is suspended no more (R195). -/
def State.statusPoll (s : State) (lane : Nat) (ready : Bool) : State :=
  if (s.die lane).run.any fun op => op.pollAt ≤ s.now then
    let polled (op : DieOp) : DieOp := { op with pollAt := s.now + s.timing 13, ready := op.ready || ready }
    (s.updDie lane fun d => { d with run := d.run.map polled }).emit (.die lane 10)
  else s

def execStatusPoll (lane : Nat) (ready : Bool) (s : State) : Result := .next (s.whenLive (·.statusPoll lane ready))

end Sys2Proof.Machine
end

