-- ==== Sys2Proof/Machine/WritePath.lean ====
section
/-! DEFINITION. The write path (chapter 7): placement and the map (R147, R265, R273, R274), the journal (R275 to R277),
staging (R246 to R252), acknowledgement (R254 to R263), stripes and programs (R264 to R271), and hold-up health (R253). -/
namespace Sys2Proof.Machine

/-! ## Namespaces, placement and the map -/

def State.ns (s : State) (nsid : Nat) : Ns := s.nss.get nsid
/-- Changes a namespace. -/
def State.updNs (s : State) (nsid : Nat) (f : Ns → Ns) : State := { s with nss := s.nss.modify nsid f }
/-- 4 KiB units of an indirection unit. -/
def Ns.parts (n : Ns) : Nat := if n.iu4k then 1 else 4
/-- Logical blocks of a 4 KiB unit. -/
def Ns.lbasPerUnit (n : Ns) : Nat := if n.lba512 then 8 else 1
/-- Indirection units of a namespace. -/
def Ns.iuCount (n : Ns) : Nat := (n.nsze + n.lbasPerUnit * n.parts - 1) / (n.lbasPerUnit * n.parts)

/-- The plain of a lane in the image in force (R94). -/
def State.plainOf (s : State) (lane : Nat) : Nat := ((s.prx.active.orElse fun _ => s.prx.staged).map (·.plain lane)).getD 0

/-- The home die of a 4 KiB unit (R147, R504): a keyed hash of the namespace and the indirection unit over the populated
dies, within the plain of the pair's plain key for a paired namespace. -/
def State.homeLane (s : State) (nsid unit : Nat) : Nat :=
  let n := s.ns nsid
  let iu := unit / n.parts
  let all := s.popLanes
  let lanes :=
    if n.paired then
      let plain := (Config.placement nsid iu n.plainKey + s.pwr.straps.pairId.toNat) % 2
      let mine := all.filter (s.plainOf · == plain)
      if mine.isEmpty then all else mine
    else all
  lanes.getD (Config.placement nsid iu n.placeKey % max 1 lanes.length) 0

/-- Where an indirection unit's entry stands in the map. -/
def mapKey (nsid iu : Nat) : Nat := nsid * 2 ^ 36 + iu
/-- STATE of a map entry (Table 7-3). -/
def entryState (e : Nat) : Nat := e / 2 ^ 38 % 4
/-- The encodings of an unmapped and of a ZERO unit (R274). -/
abbrev unmappedEntry : Nat := 0x8000000000
abbrev zeroEntry : Nat := 0x4000000000

/-- The unreadable mark of part `p` in an entry (Table 7-3). -/
def entryMark (n : Ns) (e p : Nat) : Bool := if n.iu4k then e.testBit 36 else e.testBit (34 + p)
/-- The physical address of part `p` of an entry on media (R273). -/
def entryLoc (n : Ns) (e p : Nat) : Nat := if n.iu4k then e % 2 ^ 36 else e % 2 ^ 34 * 4 + p
/-- The entry of an indirection unit that lies at a physical address, with the marks of `parts` kept (Table 7-3). -/
def mediaEntry (n : Ns) (loc : Nat) (marks : List Nat) : Nat :=
  let m := (marks.map fun p => if n.iu4k then 2 ^ 36 else 2 ^ (34 + p)).sum
  (if n.iu4k then loc % 2 ^ 36 else loc / 4 % 2 ^ 34) + m

/-- Codeword groups of a multi-plane page, and of a block (R273). -/
def Profile.pageUnits (p : Profile) : Nat := p.planes * p.pageKib / 4
def Profile.blockUnits (p : Profile) : Nat := p.ppb * p.pageUnits
/-- The lane and the block of a physical address (R273). -/
def locLane (loc : Nat) : Nat := loc / 2 ^ 27
def State.locBlock (s : State) (loc : Nat) : Nat := loc % 2 ^ 27 / max 1 ((s.mch.profile.map (·.blockUnits)).getD 1)

/-- The map entry of the indirection unit of a 4 KiB unit. -/
def State.entryOf (s : State) (nsid unit : Nat) : Nat := s.wrp.map.get (mapKey nsid (unit / (s.ns nsid).parts))

/-- The write in staging that holds a unit's current content: of those not superseded, the one that became STAGED last
(R209, R259); data being moved gives way to data written (R278). -/
def State.stagedFor (s : State) (nsid unit : Nat) : Option SWrite :=
  s.wrp.writes.foldl (fun best w =>
    if w.nsid = nsid ∧ w.state ≠ .filling ∧ w.units.contains unit ∧ (lookupKey unit w.legs).isNone ∧ ¬ w.verified.contains unit ∧ ¬ w.superseded.contains unit ∧
        best.all (fun b => if b.from_.isSome = w.from_.isSome then b.order < w.order else b.from_.isSome) then some w else best) none

/-- What a unit resolves to (R208 to R213). -/
inductive Resolved where
  | unmapped | zero | unreadable
  | staged (wid : Nat)
  | media (loc : Nat)
deriving DecidableEq, Repr

/-- The resolution of a unit in one step (R209). -/
def State.resolve (s : State) (nsid unit : Nat) : Resolved :=
  let n := s.ns nsid
  match s.stagedFor nsid unit with
  | some w => if w.bad.contains unit then .unreadable else .staged w.wid
  | none =>
    let e := s.entryOf nsid unit
    let p := unit % n.parts
    if entryState e = 1 then .zero
    else if entryState e ≠ 0 then .unmapped
    else if entryMark n e p then .unreadable
    else .media (entryLoc n e p)

/-! ## The journal -/

/-- Bytes of a journal record, and the limit of the tail (R276). -/
abbrev tailLimit : Nat := 8 * 2 ^ 20 / 16

/-- Shows whether the tail stands at its limit: it is full, or has no room for the changes of a command (R276). -/
def State.showJournal (s : State) : State :=
  let full := decide (tailLimit ≤ s.wrp.tail.length) || !s.wrp.waiting.isEmpty
  (s.when (full && !s.bit Reg.wrpStatus 2) (·.raise Reg.wrpEvent 3)).setBit Reg.wrpStatus 2 full

/-- Appends a record to the journal tail (R275). -/
def State.journal (s : State) (entry index nsid type : Nat) : State :=
  State.showJournal { s with wrp := { s.wrp with
    tail := { entry := entry, index := index, ns := nsid - 1, type := type, seq := s.wrp.journalSeq } :: s.wrp.tail,
    journalSeq := s.wrp.journalSeq + 1 } }

/-- The 4 MiB map segment of an entry (R277). DESIGN CHOICE: the spec does not say how segments are numbered or bounded; here
each namespace has its own, of as many whole 5-byte entries as 4 MiB hold (notes/assumptions/111.md). -/
def segmentOf (nsid iu : Nat) : Nat := nsid * 2 ^ 20 + iu / (4 * 2 ^ 20 / 5)

/-- A record as Table 7-4 lays it out. -/
def JRec.bytes (r : JRec) : List Byte :=
  leBytes r.entry 5 ++ leBytes r.index 5 ++ leBytes r.ns 2 ++ leBytes r.type 1 ++ leBytes (r.seq % 2 ^ 24) 3

/-- A journal page of records, oldest first: its header, whose CRC-32C covers the rest of the page (R275). -/
def journalPage (rs : List JRec) : List Byte :=
  let first := leBytes ((rs.head?.map (·.seq)).getD 0) 8
  let body := rs.flatMap JRec.bytes
  first ++ leBytes (crc32c (first ++ leBytes 0 4 ++ body)).toNat 4 ++ leBytes 0 4 ++ body

/-- A checkpoint of the entry's segment is among later records: the segment on media already holds the change. -/
def coveredBy (later : List JRec) (r : JRec) (iu : Nat) : Bool :=
  later.any fun c => c.type == 3 && decide (r.seq < c.seq) && c.ns == r.ns && c.index == segmentOf (r.ns + 1) iu % 2 ^ 20

/-- What replaying a record does to a map (R275, R286): it sets an entry or unmaps a run, but for what a later checkpoint covers. -/
def replayRec (later : List JRec) (m : MapTab) (r : JRec) : MapTab :=
  if r.type = 1 then (if coveredBy later r r.index then m else m.set (mapKey (r.ns + 1) r.index) r.entry)
  else if r.type = 2 then
    let gone (k : Nat) : Bool := decide (mapKey (r.ns + 1) r.index ≤ k) && decide (k < mapKey (r.ns + 1) (r.index + r.entry)) &&
      !coveredBy later r (k % 2 ^ 36)
    ⟨m.entries.filter fun e => !gone e.1⟩
  else m

/-- Replays a tail, held newest first. -/
def replayTail (tail : List JRec) (m : MapTab) : MapTab := tail.reverse.foldl (replayRec tail) m

/-- Marks a map segment as changed since its checkpoint. -/
def State.touchSegment (s : State) (seg : Nat) : State :=
  if s.wrp.dirty.any (·.1 == seg) then s
  else { s with wrp := { s.wrp with dirty := s.wrp.dirty ++ [(seg, s.now)] } }

/-- Sets the change-map bit of a local change of an unprotected paired namespace (R507): regions of 4,096 units. -/
def State.noteChange (s : State) (nsid iu : Nat) : State :=
  let n := s.ns nsid
  if n.paired ∧ n.prot ≠ 1 ∧ ¬ n.changed.contains (iu / 4096) then
    s.updNs nsid fun x => { x with changed := x.changed ++ [iu / 4096] }
  else s

/-- Sets a map entry through the journal (R275). -/
def State.setEntry (s : State) (nsid iu entry : Nat) : State :=
  let t := s.journal entry iu nsid 1
  State.touchSegment { t with wrp := { t.wrp with map := t.wrp.map.set (mapKey nsid iu) entry } } (segmentOf nsid iu)

/-- Whether an indirection unit counts toward the mapped blocks: on media or ZERO. -/
def entryMapped (e : Nat) : Bool := entryState e ≤ 1

/-! ## Blocks -/

/-- Blocks of a die; the two dump sets are left out of service (R282, R293). -/
def State.blocksPerDie (s : State) : Nat := ((s.mch.profile.map (·.bpp)).getD 0) - 2

/-- A block of a die that has been used, or one never used. -/
def Die.block (d : Die) (n : Nat) : Blk := (d.blocks.find? (·.num == n)).getD { num := n }
/-- Changes a block. -/
def Die.updBlock (d : Die) (n : Nat) (f : Blk → Blk) : Die :=
  if d.blocks.any (·.num == n) then { d with blocks := d.blocks.map fun b => if b.num == n then f b else b }
  else { d with blocks := d.blocks ++ [f { num := n }] }
def State.updBlock (s : State) (lane n : Nat) (f : Blk → Blk) : State := s.updDie lane (·.updBlock n f)

/-- Free blocks of a die: erased blocks available for writing (R293). A block never used is free until its factory mark
has been read (R308). -/
def State.freeBlocks (s : State) (lane : Nat) : Nat :=
  let d := s.die lane
  s.blocksPerDie - (d.blocks.filter (·.state != .free)).length

/-- The good blocks and the spare of a die (R308). -/
def State.spareOf (s : State) (lane : Nat) : Nat :=
  let p := s.mch.profile.getD {}
  let good := s.blocksPerDie - ((s.die lane).blocks.filter fun b => b.state == .bad || b.state == .retired).length
  good - (p.bpp * (1000 - p.opPermille) + 999) / 1000

/-- START, TARGET and FLOOR of MCR_GC_FREE; the defaults where they are not in order (Table 8-7). -/
def State.gcLimits (s : State) : Nat × Nat × Nat :=
  let st := s.field Reg.mcrGcFree 0 8
  let ta := s.field Reg.mcrGcFree 8 8
  let fl := s.field Reg.mcrGcFree 16 8
  if fl < ta ∧ ta < st then (st, ta, fl) else (16, 8, 3)

/-- Shows a die's spare: SPARE_LOW, and the die read-only where none is left (R309, R310). -/
def State.spareReview (s : State) (lane : Nat) : State :=
  let d := s.die lane
  let low := d.spare0 != 0 && decide (s.spareOf lane * 100 / d.spare0 < s.field Reg.mcrSpareLow 0 8)
  let t := if low ∧ ¬ s.bit Reg.mcrStatus 5 then (s.setBit Reg.mcrStatus 5 true).raiseLog .mcr Reg.mcrEvent 4 lane |>.criticalEvent 0 2 else s
  if t.spareOf lane = 0 ∧ ¬ d.readOnly then
    let u := t.updDie lane fun x => { x with readOnly := true }
    if u.bit Reg.mcrStatus 4 then u else (u.setBit Reg.mcrStatus 4 true).raiseLog .mcr Reg.mcrEvent 5 lane |>.criticalEvent 2 0
  else t

/-- A block leaves service for good (R307). -/
def State.retireNow (s : State) (lane block : Nat) : State :=
  let t := ((s.updBlock lane block fun b => { b with state := .retired }).raiseLog .mcr Reg.mcrEvent 3 lane).inc Reg.mcrRetireCnt
  State.spareReview { t with mcr := { t.mcr with eolDue := true } } lane

/-- The block a die takes: the free block with the lowest (host data) or highest (moved data) erase count; a block never
used has count 0 (R300). A block whose factory mark shows it bad is never used (R308). -/
def Die.takeBlock (d : Die) (lane total : Nat) (highest : Bool) : Option Nat :=
  let freed := d.blocks.filter (·.state == .free)
  let fresh := (List.range total).find? fun n => !(d.blocks.any (·.num == n)) && !Config.factoryBad lane n
  let best := freed.foldl (fun (b : Option Blk) x =>
    match b with
    | none => some x
    | some y => if highest then (if y.ec < x.ec then some x else b) else (if x.ec < y.ec then some x else b)) none
  match best, fresh with
  | none, f => f
  | some b, none => some b.num
  | some b, some f => if highest then (if b.ec = 0 then some f else some b.num) else (if b.ec = 0 then some b.num else some f)

/-- Opens a block for host or moved data and gives the page to program next (R300). The factory marks of the blocks looked at on
the way to one never used are known from then on (R308). -/
def State.openPage (s : State) (lane : Nat) (moved : Bool) : State × Option (Nat × Nat) :=
  let d := s.die lane
  match (if moved then d.openMove else d.openHost) with
  | some bp => (s, some bp)
  | none =>
    match d.takeBlock lane s.blocksPerDie moved with
    | none => (s, none)
    | some n =>
      let unlisted (k : Nat) : Bool := !(d.blocks.any (·.num == k))
      let bad := if unlisted n then (List.range n).filter fun k => unlisted k && Config.factoryBad lane k else []
      let t := s.updDie lane fun x =>
        let y := (bad.foldl (fun x k => x.updBlock k fun b => { b with state := .bad }) x).updBlock n fun b =>
          { b with state := .open_, valid := 0, reads := 0 }
        if moved then { y with openMove := some (n, 0) } else { y with openHost := some (n, 0) }
      (if bad.isEmpty then t else t.spareReview lane, some (n, 0))

/-- The open page after a program: the next wave of pages, or a closed block (R294). -/
def State.advancePage (s : State) (lane : Nat) (moved : Bool) (block page pages : Nat) : State :=
  let next := page + pages
  if next + pages ≤ (s.mch.profile.map (·.ppb)).getD 0 then
    s.updDie lane fun d => if moved then { d with openMove := some (block, next) } else { d with openHost := some (block, next) }
  else
    s.updDie lane fun d =>
      let y := d.updBlock block fun b => { b with state := .closed, closedAt := s.frame }
      if moved then { y with openMove := none } else { y with openHost := none }

/-! ## Staging -/

/-- Staging units (Table 1-4). -/
abbrev stagingUnits : Nat := 24576
/-- Units in staging of the writes of `p`. -/
def State.stagedUnits (s : State) (p : SWrite → Bool) : Nat := ((s.wrp.writes.filter p).map (·.units.length)).sum
/-- WRP_MIRROR_RESERVE, at most 12,288. -/
def State.mirrorReserve (s : State) : Nat := min 12288 (s.field Reg.wrpMirrorReserve 0 16)
/-- Units free for own writes, garbage collection and repair: the remainder beside the reserve, less what mirrored-in
writes hold beyond the reserve (R250). -/
def State.ownFree (s : State) : Nat :=
  stagingUnits - s.mirrorReserve - s.stagedUnits (·.origin != .mirror) - (s.stagedUnits (·.origin == .mirror) - s.mirrorReserve)
/-- Units free for mirrored-in writes. -/
def State.mirrorFree (s : State) : Nat := stagingUnits - s.stagedUnits fun _ => true

/-- Shows the staging in use (Table 7-8). -/
def State.showStaging (s : State) : State :=
  (s.setNum Reg.wrpStagingUsed (s.stagedUnits fun _ => true)).setNum Reg.wrpStagingMirror (s.stagedUnits (·.origin == .mirror))

/-- Changes a write in staging. -/
def State.updWrite (s : State) (wid : Nat) (f : SWrite → SWrite) : State :=
  { s with wrp := { s.wrp with writes := s.wrp.writes.map fun w => if w.wid = wid then f w else w } }
def State.write? (s : State) (wid : Nat) : Option SWrite := s.wrp.writes.find? (·.wid == wid)

/-- Adds a write to staging. -/
def State.addWrite (s : State) (w : SWrite) : State :=
  State.showStaging { s with wrp := { s.wrp with writes := s.wrp.writes ++ [{ w with wid := s.wrp.nextWid }],
                                                 nextWid := s.wrp.nextWid + 1 } }
/-- Removes writes from staging. -/
def State.freeWrites (s : State) (p : SWrite → Bool) : State :=
  State.showStaging { s with wrp := { s.wrp with writes := s.wrp.writes.filter fun w => !p w } }

/-- Discards the writes in FILLING of `p` whole (R249). -/
def State.discardFilling (s : State) (p : SWrite → Bool) : State :=
  let q (w : SWrite) : Bool := w.state == .filling && w.cmd.isSome && p w
  (s.inc Reg.wrpFillDiscardCnt (s.wrp.writes.filter q).length).freeWrites q

/-! ## Measured write amplification (R297) -/

/-- Notes units programmed and units that became STAGED in this frame. -/
def State.noteWa (s : State) (prog staged : Nat) : State :=
  let w := match s.mcr.window with
    | (f, p, g) :: rest => if f = s.frame then (f, p + prog, g + staged) :: rest else (s.frame, prog, staged) :: s.mcr.window
    | [] => [(s.frame, prog, staged)]
  { s with mcr := { s.mcr with window := w } }

/-! ## Stripes -/

/-- The MODE of a lane in the image in force; gated without an image. -/
def State.modeOf (s : State) (lane : Nat) : Nat := ((s.prx.active.orElse fun _ => s.prx.staged).map (·.mode lane)).getD 2

/-- The parity width W of WRP_CTL.PARITY_W, as the last image switch took it (Table 7-9). -/
def State.parityW (s : State) : Nat := [31, 15, 7, 31].getD (s.wrp.parityW) 31

/-- The stripe members of a lane (R266): the eight of a MODE 1 stripe set; otherwise the dies with its number on W + 1
channels, in one plain for MODE 0, as many as the plain or population offers. -/
def State.stripeMembers (s : State) (lane : Nat) : List Nat :=
  if s.modeOf lane = 1 then stripeSet (lane / 128) (lane % 16)
  else
    let offered := s.popLanes.filter fun l => l % 16 == lane % 16 && (s.modeOf lane != 0 || s.plainOf l == s.plainOf lane)
    let k := (offered.takeWhile (· != lane)).length / (s.parityW + 1)
    (offered.drop (k * (s.parityW + 1))).take (s.parityW + 1)

/-- The data already placed on a die in an open stripe. -/
def Stripe.on (t : Stripe) (lane : Nat) : List (Nat × Nat) := (lookupKey lane t.members).getD []

/-- Turns a full or closed stripe into program units, parity included, with its padding counted (R266, R268). -/
def State.closeStripe (s : State) (t : Stripe) (timeout : Bool) : State :=
  let cap := s.progUnits
  let data := t.members.filter (·.1 != t.parityLane)
  let pad := (data.map fun m => cap - m.2.length).sum
  let mk (k : Nat) (m : Nat × List (Nat × Nat)) : ProgUnit :=
    { pid := s.wrp.nextPid + k, lane := m.1, units := m.2, pad := cap - m.2.length, parity := m.1 == t.parityLane,
      stripe := t.sid, moved := t.moved, since := s.cell }
  let progs := (List.range t.members.length).filterMap fun k => (t.members[k]?).map (mk k)
  let note : StripeMeta := { sid := t.sid, parityLane := t.parityLane, members := t.members.map fun m => (m.1, none) }
  State.when { s with wrp := { s.wrp with stripes := s.wrp.stripes.filter (·.sid != t.sid), progs := s.wrp.progs ++ progs,
                                          metas := s.wrp.metas ++ [note],
                                          nextPid := s.wrp.nextPid + progs.length } } timeout (·.inc Reg.wrpPadCnt pad)

/-- Names the place of a stripe's member on a lane: where it was programmed, or re-placed (R271). -/
def State.noteMember (s : State) (sid lane : Nat) (loc : Option Nat) : State :=
  let named (m : StripeMeta) : StripeMeta :=
    if m.sid = sid then { m with members := m.members.map fun p => if p.1 = lane then (lane, loc) else p } else m
  { s with wrp := { s.wrp with metas := s.wrp.metas.map named } }

/-- An erased block holds no member any more; a stripe without members on media or on their way there has no metadata. -/
def State.forgetBlock (s : State) (lane block : Nat) : State :=
  let gone (p : Nat × Option Nat) : Bool := p.1 == lane && p.2.any fun l => s.locBlock l == block
  let metas := s.wrp.metas.map fun m => { m with members := m.members.map fun p => if gone p then (p.1, none) else p }
  let lives (m : StripeMeta) : Bool := m.members.any (·.2.isSome) || s.wrp.progs.any (·.stripe == m.sid)
  { s with wrp := { s.wrp with metas := metas.filter lives } }

/-- The codeword groups at a location's position in the other members of its stripe, by their lanes: a member that waits for
its program or runs it is in staging and has no address; no answer where no stripe holds the location, or where a member is
gone (R233, R271). -/
def State.stripeMates (s : State) (loc : Nat) : Option (List Nat) :=
  let at_ (m : StripeMeta) : Option Nat :=
    m.members.findSome? fun p => p.2.bind fun b => if p.1 = locLane loc ∧ b ≤ loc ∧ loc < b + s.progUnits then some (loc - b) else none
  match s.wrp.metas.findSome? fun m => (at_ m).map fun k => (m, k) with
  | none => none
  | some (m, k) =>
    let others := m.members.filter (·.1 != locLane loc)
    if others.all fun p => p.2.isSome || s.wrp.progs.any (fun q => q.stripe == m.sid && q.lane == p.1) then
      some (others.filterMap fun p => p.2.map (· + k))
    else none

/-- Opens a stripe for a lane; the parity member rotates with the stripe index (R266). A single member carries no
parity. -/
def State.openStripe (s : State) (lane parts : Nat) (moved : Bool) : State :=
  let ms := s.stripeMembers lane
  let sid := s.wrp.nextStripe
  let t : Stripe := { sid := sid, opened := s.frame, moved := moved, parts := parts, members := ms.map fun l => (l, []),
                      parityLane := if ms.length ≤ 1 then 512 else ms.getD (sid % ms.length) 512 }
  { s with wrp := { s.wrp with stripes := s.wrp.stripes ++ [t], nextStripe := sid + 1 } }

/-- Places the units of one indirection unit (write, unit) on their home die, in the first open stripe with room there,
opening stripes as needed; a stripe whose data members are all full is closed (R264, R266). Indirection units of 4 KiB and of
16 KiB go to stripes of their own, so that one of 16 KiB begins at a slot that is a multiple of 4 (R273). `n` bounds the stripes
opened: the lane is the parity member of at most one in two. -/
def placeIu : Nat → State → Nat → Bool → List (Nat × Nat) → State
  | 0, s, _, _, _ => s
  | n + 1, s, lane, moved, us =>
    let cap := s.progUnits
    match s.wrp.stripes.find? fun t =>
        t.moved == moved && t.parts == us.length && t.parityLane != lane && t.members.any (·.1 == lane) && decide ((t.on lane).length + us.length ≤ cap) with
    | none => placeIu n (s.openStripe lane us.length moved) lane moved us
    | some t =>
      let t' : Stripe := { t with members := t.members.map (fun m => if m.1 = lane then (m.1, m.2 ++ us) else m),
                                  opened := if t.members.all (·.2.isEmpty) then s.frame else t.opened }
      let u : State := { s with wrp := { s.wrp with stripes := s.wrp.stripes.map fun x => if x.sid = t.sid then t' else x } }
      if t'.members.all fun m => m.1 == t'.parityLane || decide (cap ≤ m.2.length) then u.closeStripe t' false else u

/-- The parts of a write's indirection unit. -/
def State.unitsOfIu (s : State) (nsid iu : Nat) : List Nat := (List.range (s.ns nsid).parts).map (iu * (s.ns nsid).parts + ·)

/-- Places an indirection unit of a write whole on its home die (R262, R264). -/
def State.placeWhole (s : State) (w : SWrite) (iu : Nat) : State :=
  let t := s.updWrite w.wid fun x => { x with due := x.due.filter (· != iu) }
  placeIu 3 t (t.homeLane w.nsid (iu * (t.ns w.nsid).parts)) (w.origin == .gc || w.origin == .repair)
    ((t.unitsOfIu w.nsid iu).map fun u => (w.wid, u))

/-- Staging free for merge data of a write (R250). -/
def State.mergeRoom (s : State) (w : SWrite) : Nat := if w.origin = .mirror then s.mirrorFree else s.ownFree

/-- Destages an indirection unit of a write: it is completed in staging with its other parts, taken from their current
ciphertext, and placed whole (R262). Parts on media are read for it, in unowned or lent READ capacity; a part whose
unreadable mark is set keeps it. Without room in staging the merge waits. -/
def State.destageIu (s : State) (wid iu : Nat) : State :=
  match s.write? wid with
  | none => s
  | some w =>
    let rest := (s.unitsOfIu w.nsid iu).filter fun u => !w.units.contains u
    if ¬ w.due.contains iu ∨ w.legs.any (fun l => l.1 / (s.ns w.nsid).parts == iu) then s
    else if rest.isEmpty then s.placeWhole w iu
    else if s.mergeRoom w < rest.length then s
    else
      let reads := rest.filterMap fun u => match s.resolve w.nsid u with
        | .media l => some (u, ({ loc := l, since := s.cell } : Leg))
        | _ => none
      let marked := rest.filter fun u => s.resolve w.nsid u == .unreadable
      let t := (s.updWrite wid fun x => { x with units := x.units ++ rest, legs := x.legs ++ reads, bad := x.bad ++ marked }).showStaging
      if reads.isEmpty then t.placeWhole w iu else t

/-- Destages what is due of a write. -/
def State.destage (s : State) (w : SWrite) : State := w.due.foldl (fun t iu => t.destageIu w.wid iu) s

/-- Destages what waits for room in staging. -/
def State.retryMerges (s : State) : State :=
  (s.wrp.writes.filter fun w => w.state != .filling && !w.due.isEmpty).foldl (fun t w => t.destage w) s

/-- A merge read has ended: the part is in staging, or unreadable; the whole indirection unit is then placed. -/
def State.merged (s : State) (wid u : Nat) (ok : Bool) : State :=
  match s.write? wid with
  | none => s
  | some w =>
    let t := s.updWrite wid fun x => { x with legs := x.legs.filter (·.1 != u), bad := if ok then x.bad else x.bad ++ [u] }
    if w.state = .filling then t else t.destageIu wid (u / (s.ns w.nsid).parts)

/-- Takes writes out of staging without programming them: they leave the stripes and the program units that have not started.
A write that a read holds stays until the read lets it go (R209). -/
def State.purge (s : State) (p : SWrite → Bool) : State :=
  let gone := (s.wrp.writes.filter p).map (·.wid)
  let keep (u : Nat × Nat) : Bool := !gone.contains u.1
  let held (w : SWrite) : SWrite := if p w then { w with state := .verified, verified := w.units, cmd := none, order := 0, due := [], legs := [] } else w
  let t : State := { s with wrp := { s.wrp with
    stripes := s.wrp.stripes.map fun x => { x with members := x.members.map fun m => (m.1, m.2.filter keep) },
    progs := (s.wrp.progs.map fun p => if p.started then p else { p with units := p.units.filter keep }).filter fun p =>
      p.started || p.parity || !p.units.isEmpty } }
  State.freeWrites { t with wrp := { t.wrp with writes := t.wrp.writes.map held } } fun w => gone.contains w.wid && w.readers == 0

/-! ## Hold-up health (R253) -/

/-- Every HOLDUP_SENSE sample in the last 1,000 µs is at or above HEALTHY. -/
def State.senseOk (s : State) : Bool :=
  s.wrp.senses.all fun p => decide (p.1 + 500000 < s.now) || decide (s.field Reg.wrpHoldupCtl 0 12 ≤ p.2)

/-- No hold-up test has ended, though one has been due since the claim (R253, R318). -/
def State.holdupUntested (s : State) : Bool :=
  s.mcr.holdups.isEmpty && s.mcr.claimedAt.any fun f => decide (f + s.field Reg.mcrHoldupTest 16 8 * 86400000 ≤ s.frame)

/-- The hold-up is healthy (R253). -/
def State.healthy (s : State) : Bool :=
  let h := s.field Reg.wrpHoldupCtl 0 12
  h != 0 && decide (s.field Reg.wrpHoldupCtl 16 12 < h) && s.senseOk && !s.mcr.holdupBad && !s.holdupUntested &&
    s.bit Reg.wrpDumpStatus 0 && !s.wrp.dumped

/-- READY: every up die holds an erased set that can take its share (R282). -/
def State.showReady (s : State) : State :=
  let lanes := s.popLanes.filter fun l => s.chUp (l / 16)
  let ready := !lanes.isEmpty && lanes.all fun l => (s.die l).erasedA || (s.die l).erasedB
  (s.when (s.bit Reg.wrpDumpStatus 0 && !ready) (·.raise Reg.wrpEvent 5)).setBit Reg.wrpDumpStatus 0 ready

/-! ## Acknowledgement (R254, Table 7-2) -/

/-- A write of a namespace is acknowledged under the joined row of Table 7-2. -/
def State.pairedAck (s : State) (n : Ns) : Bool := n.paired && n.prot == 1 && s.field Reg.mlkPairState 0 3 == 5
/-- Acknowledgement waits for the partner or the role edge (Table 7-2): GRACE, or before the role edge. -/
def State.ackWithheld (s : State) (n : Ns) : Bool :=
  n.paired && (s.field Reg.mlkPairState 0 3 == 1 || s.mlk.lostAt.isSome)

/-- Every unit of a write has been verified on media. -/
def SWrite.allVerified (w : SWrite) : Bool := w.units.all (w.verified.contains ·)

/-- The acknowledgement condition of Table 7-2. -/
def State.ackOk (s : State) (w : SWrite) : Bool :=
  let n := s.ns w.nsid
  if s.ackWithheld n then false
  else (s.bit Reg.wrpStatus 0 || w.allVerified) && (!s.pairedAck n || w.macked)

/-- Opcodes whose effect is writes and map changes. -/
def isWriteOp (op : Nat) : Bool := op = 0x01 || op = 0x08 || op = 0x09 || op = 0x19

/-- Whether a write-like command is complete: fetched, each of its writes acknowledged, each map change journalled and
answered by the partner (R254, R258, R276). -/
def State.writeDone (s : State) (x : Cmd) : Bool :=
  !x.admin && isWriteOp x.op && x.status.isNone && !x.held && !x.filling && x.units.isEmpty &&
  (x.op != 0x19 || !x.wids.isEmpty) && !s.ackWithheld (s.ns x.nsid) &&
  (s.wrp.writes.filter (x.wids.contains ·.wid)).all (fun w => w.state == .acked || w.state == .verified) &&
  !(s.mlk.sent.any fun m => m.kind == .map (some x.id)) && !(x.mapHeld && s.bit Reg.wrpStatus 2)

/-- Releases writes VERIFIED that no reader holds (R209, R269). -/
def State.release (s : State) : State := s.freeWrites fun w => w.state == .verified && w.readers == 0

/-- Marks writes that no MWRITE is to be sent for, or whose messages are all answered, as acknowledged by the partner. -/
def State.showMacked (s : State) : State :=
  { s with wrp := { s.wrp with writes := s.wrp.writes.map fun w =>
      { w with macked := !(s.mlk.sent.any fun m => m.kind == .write w.wid) } } }

/-- A bounded write whose acknowledgement waits for the link or for the role edge meets the PARTNER event (R260). -/
def State.noteHeld (s : State) : State :=
  (s.wrp.writes.filter fun w => w.origin == .own && w.state == .staged && w.bounded && s.ackWithheld (s.ns w.nsid)).foldl
    (fun t w => match w.cmd with | some c => t.meet c 5 | none => t) s

/-- Counts the commands whose acknowledgement is held to the media verify alone (Table 7-2, R162): the hold-up is not
healthy, and nothing else is waited for. A bounded one meets the HOLDUP event. -/
def State.noteWithheld (s : State) : State :=
  if s.bit Reg.wrpStatus 0 then s
  else
    let held := s.wrp.writes.filter fun w => w.origin == .own && w.state == .staged && w.cmd.isSome && !w.withheld &&
      !w.allVerified && !s.ackWithheld (s.ns w.nsid) && (!s.pairedAck (s.ns w.nsid) || w.macked)
    let cs := ((held.filterMap (·.cmd)).eraseDups).filter fun c => !(s.wrp.writes.any fun w => w.withheld && w.cmd == some c)
    let t := s.inc Reg.wrpHoldupWithholdCnt cs.length
    let t := held.foldl (fun t w => t.updWrite w.wid fun x => { x with withheld := true }) t
    (held.filter (·.bounded)).foldl (fun t w => match w.cmd with | some c => t.meet c 8 | none => t) t

/-- Moves writes through Table 7-1 as their conditions come to hold: acknowledged, then VERIFIED, then freed; commands
whose writes are all acknowledged get their status; the partner gets its staging acks (R254, R255, R269). -/
def State.settle (s₀ : State) : State :=
  let s := s₀.showMacked.noteHeld.noteWithheld
  let ready := s.wrp.writes.filter fun w => w.state == .staged && (w.origin == .own || w.origin == .restored) && s.ackOk w
  let late := (ready.filter fun w => w.heldOver && w.cmd.isSome).length
  let t := s.inc Reg.wrpLocalCompleteCnt late
  let t := ready.foldl (fun t w => t.updWrite w.wid fun x => { x with state := .acked }) t
  let acks := t.wrp.writes.filter fun w =>
    w.origin == .mirror && !w.ackSent && w.state != .filling && (t.bit Reg.wrpStatus 0 || w.allVerified)
  let t := acks.foldl (fun t w =>
    let u := t.updWrite w.wid fun x => { x with ackSent := true, state := .acked }
    match w.mirrorSeq with
    | some q => u.send (.mack q (if w.allVerified then 1 else 0))
    | none => u) t
  let t : State := { t with wrp := { t.wrp with writes := t.wrp.writes.map fun w =>
    if w.allVerified ∧ (w.state = .acked ∨ (w.state = .staged ∧ w.origin ≠ .own)) then { w with state := .verified } else w } }
  let done := (t.cmds.filter t.writeDone).map (·.id)
  (done.foldl (fun t c => t.finish c 0) t).release

/-- Evaluates the hold-up health (R253); a change shows, and acknowledgements follow it. -/
def State.showHealth (s : State) : State :=
  let ok := s.healthy
  if s.bit Reg.wrpStatus 0 = ok then s
  else ((s.setBit Reg.wrpStatus 0 ok).raise Reg.wrpEvent 0).settle

/-! ## Mirroring (R259, R260, R492) -/

/-- Paired changes of a namespace are mirrored: protected in JOINED, or at once in RESYNC and in a resync (R500, R510);
held in GRACE (R497). -/
def State.mirrors (s : State) (n : Ns) : Bool :=
  n.paired && n.attached.isSome &&
  (let st := s.field Reg.mlkPairState 0 3
   (st == 5 && (n.prot == 1 || n.prot == 3)) || st == 4 || (st == 1 && n.prot == 1))

/-- Sends a VC0 message under the next ORIGIN_SEQ (R492). -/
def State.mirror (s : State) (nsid : Nat) (kind : MKind) (regions : List Nat) (mk : Nat → LinkMsg) : State :=
  let q := s.mlk.originSeq
  let m : Mirrored := { seq := q, nsid := nsid, kind := kind, regions := regions, sentAt := none }
  State.send { s with mlk := { s.mlk with originSeq := q + 1, sent := s.mlk.sent ++ [m] } } (mk q)

/-- Mirrors a STAGED write, one MWRITE for each indirection unit with the parts it carries (Table 12-5). The write's
MACKs have all arrived when none of its messages is left. -/
def State.mirrorWrite (s : State) (w : SWrite) : State :=
  let n := s.ns w.nsid
  if s.mirrors n then
    let ius := (w.units.map (· / n.parts)).eraseDups
    let mask (iu : Nat) : Nat := ((w.units.filter (· / n.parts == iu)).map fun u => 2 ^ (u % n.parts)).sum
    (ius.foldl (fun t iu => t.mirror w.nsid (.write w.wid) [iu / 4096] fun q => .mwrite w.nsid iu (mask iu) q false) s).inc
      Reg.wrpMirrorOutCnt w.units.length
  else s

/-! ## Becoming STAGED -/

/-- A rewrite of a recovered unit that a host write has overtaken is dropped (R235). -/
def State.dropRepairs (s : State) : State :=
  s.purge fun o => o.origin == .repair && o.state != .verified && o.units.all o.superseded.contains &&
    !(s.wrp.progs.any fun p => p.started && p.units.any (·.1 == o.wid))

/-- A write in FILLING becomes STAGED in one step (R247, R259): older staged writes of its units are superseded, it is
counted, mirrored, placed for destaging, and acknowledged where its condition already holds. -/
def State.becomeStaged (s : State) (w : SWrite) : State :=
  let units := w.units
  let hit (o : SWrite) : Bool := w.from_.isNone && o.nsid == w.nsid && o.wid != w.wid && (o.state == .staged || o.state == .acked)
  let t : State := { s with wrp := { s.wrp with
    nextOrder := s.wrp.nextOrder + 1,
    writes := s.wrp.writes.map fun o =>
      if o.wid = w.wid then { o with state := .staged, order := s.wrp.nextOrder, due := (units.map (· / (s.ns w.nsid).parts)).eraseDups }
      else if hit o then { o with superseded := o.superseded ++ units.filter fun u => o.units.contains u && !o.superseded.contains u }
      else o } }
  let w : SWrite := { w with state := .staged, order := s.wrp.nextOrder }
  let counted := w.origin == .own || w.origin == .mirror
  let t := if counted then t.noteWa 0 units.length else t
  let t := if w.origin = .own then t.inc Reg.wrpHostUnitCnt units.length
    else if w.origin = .mirror then t.inc Reg.wrpMirrorInCnt units.length else t
  let n := t.ns w.nsid
  let t := if w.origin = .own then ((units.map (· / n.parts)).eraseDups).foldl (fun t iu => t.noteChange w.nsid iu) t else t
  let t := if w.origin = .own then t.mirrorWrite w else t
  let t := if w.from_.isNone then t.dropRepairs else t
  match t.write? w.wid with
  | some x => t.destage x
  | none => t

/-! ## Programs -/

/-- The writes whose units a program unit holds. -/
def State.progWrites (s : State) (p : ProgUnit) : List SWrite := s.wrp.writes.filter fun w => p.units.any (·.1 == w.wid)

/-- The group whose owned PROGRAM capacity a program unit takes: that of the earliest-staged bounded write among its
units (R267); none for unowned or lent capacity. -/
def State.progGroup (s : State) (p : ProgUnit) : Option Nat :=
  ((s.progWrites p).filter (·.bounded)).foldl (fun (best : Option SWrite) w =>
    match best with
    | none => some w
    | some b => if w.order < b.order then some w else best) none |>.bind (·.group)

/-- A die that takes programs: on an up channel and not lost (R655). -/
def State.programmable (s : State) (lane : Nat) : Bool := s.dieUsable lane

/-- A program unit has a page to go to: its open block's, or a free block's. While the die has FLOOR or fewer free blocks, data
moved by retirement, garbage collection or refresh alone may take one (R296). -/
def State.placeable (s : State) (p : ProgUnit) : Bool :=
  let d := s.die p.lane
  let moves := p.moved && (p.parity || (s.progWrites p).any fun w => w.origin == .gc && decide (w.rank ≤ 5))
  (if p.moved then d.openMove else d.openHost).isSome ||
    ((d.takeBlock p.lane s.blocksPerDie p.moved).isSome && (moves || decide (s.gcLimits.2.2 < s.freeBlocks p.lane)))

/-- Starts a program unit on its die at the open page (R264, R269, R300). -/
def State.startProgram (s : State) (p : ProgUnit) (slotEnd : Nat) : State :=
  match s.openPage p.lane p.moved with
  | (_, none) => s
  | (t, some (block, page)) =>
    let bits := max 1 ((t.mch.profile.map (·.cellType)).getD 1)
    let t : State := { t with wrp := { t.wrp with progs := t.wrp.progs.map fun q =>
      if q.pid = p.pid then { q with started := true, block := block, page := page } else q } }
    ((t.advancePage p.lane p.moved block page bits).startDie p.lane 2 (.prog p.pid) slotEnd).inc Reg.wrpProgCnt

/-- Sets the valid count of the block that holds a location. -/
def State.addValid (s : State) (loc : Nat) (k : Int) : State :=
  s.updBlock (locLane loc) (s.locBlock loc) fun b => { b with valid := (Int.ofNat b.valid + k).toNat }

/-- A later write of a unit has been verified: a superseded unit whose later write is still in staging may yet be the unit's
content, should that write be refused (R499). -/
def State.overtaken (s : State) (w : SWrite) (u : Nat) : Bool :=
  w.superseded.contains u && !(s.wrp.writes.any fun o => o.nsid == w.nsid && decide (w.order < o.order) && o.state != .filling &&
    o.from_.isNone && o.units.contains u && !o.verified.contains u)

/-- The map takes the location of a verified indirection unit (R269, R278): a move applies only while the entry names
where it was copied from; a unit that a later write has overtaken leaves the entry. The unreadable marks of rewritten parts clear (R274). -/
def State.mapVerified (s : State) (w : SWrite) (unit loc : Nat) : State :=
  let n := s.ns w.nsid
  let iu := unit / n.parts
  let e := s.wrp.map.get (mapKey w.nsid iu)
  if unit % n.parts ≠ 0 then s
  else if (List.range n.parts).any (fun k => s.overtaken w (unit + k)) then s
  else if w.from_.any fun f => entryState e != 0 || entryLoc n e 0 != f then s
  else
    let marks := (List.range n.parts).filter fun k => w.bad.contains (unit + k) ||
      (entryState e = 0 && entryMark n e k && w.from_.isSome && w.origin != .repair)
    let t := if entryState e = 0 then s.addValid (entryLoc n e 0) (-(Int.ofNat n.parts)) else s
    (t.setEntry w.nsid iu (mediaEntry n loc marks)).addValid loc (Int.ofNat n.parts)

/-- Physical address of the `k`-th unit of a program unit (R273). -/
def State.progLoc (s : State) (p : ProgUnit) (k : Nat) : Nat :=
  let q := s.mch.profile.getD {}
  p.lane * 2 ^ 27 + (p.block * q.ppb + p.page) * max 1 q.pageUnits + k

/-- Removes a program unit. -/
def State.dropProg (s : State) (pid : Nat) : State :=
  { s with wrp := { s.wrp with progs := s.wrp.progs.filter (·.pid != pid) } }

/-- A program passed (R269): its units are verified and mapped, and writes move on. -/
def State.programPass (s : State) (p : ProgUnit) : State :=
  let t := ((s.dropProg p.pid).noteWa s.progUnits 0).noteMember p.stripe p.lane (some (s.progLoc p 0))
  let t := (List.range p.units.length).foldl (fun t k =>
    match p.units[k]? with
    | some (wid, u) =>
      match t.write? wid with
      | some w =>
        if w.verified.contains u then t
        else (t.mapVerified w u (t.progLoc p k)).updWrite wid fun x => { x with verified := x.verified ++ [u] }
      | none => t
    | none => t) t
  t.settle

/-- A block is handed to Media Care for retirement, or leaves service at once when it holds no valid data (R270, R307). -/
def State.retireBlock (s : State) (lane block : Nat) : State :=
  let t := s.updDie lane fun d =>
    let y := d.updBlock block fun b => { b with retiring := true, state := if b.state = .open_ then .closed else b.state }
    { y with openHost := if y.openHost.any (·.1 == block) then none else y.openHost,
             openMove := if y.openMove.any (·.1 == block) then none else y.openMove }
  if ((t.die lane).block block).valid = 0 then t.retireNow lane block else t

/-- A program failed (R270): its current units are placed again from staging on the same die, and its block is handed
for retirement. Superseded units are not placed again (Table 7-5); an indirection unit goes whole (R262). -/
def State.programFail (s : State) (p : ProgUnit) : State :=
  let live := p.units.filter fun u => (s.write? u.1).any fun w =>
    (s.unitsOfIu w.nsid (u.2 / (s.ns w.nsid).parts)).any fun k => !w.superseded.contains k
  let gone := p.units.filter fun u => !live.contains u
  let t := (s.dropProg p.pid).noteWa s.progUnits 0
  let t := gone.foldl (fun t u => t.updWrite u.1 fun x => { x with verified := x.verified ++ [u.2] }) t
  let again : ProgUnit := { p with pid := t.wrp.nextPid, units := live, started := false, sent := 0, since := s.cell }
  let t : State := if live.isEmpty ∧ ¬ p.parity then t
    else { t with wrp := { t.wrp with progs := again :: t.wrp.progs, nextPid := t.wrp.nextPid + 1 } }
  let t := ((t.countErr .wrp Reg.wrpProgFailCnt p.lane).inc Reg.wrpReplaceCnt live.length).raise Reg.wrpEvent 1
  (t.retireBlock p.lane p.block).settle

/-- The journal tail has room for the records of a program unit's map changes, with those of the programs that run (R276). -/
def State.journalRoom (s : State) (p : ProgUnit) : Bool :=
  decide (s.wrp.tail.length + ((s.wrp.progs.filter (·.started)).map (·.units.length)).sum + p.units.length ≤ tailLimit)

/-- A journal page of `n` records has been programmed: they leave the tail, and the map on media holds them (R275). -/
def State.journalWritten (s : State) (n : Nat) : State :=
  let page := (s.wrp.tail.drop (s.wrp.tail.length - n)).reverse
  let t := s.noteWa 1 0
  State.showJournal { t with wrp := { t.wrp with tail := t.wrp.tail.take (t.wrp.tail.length - n),
                                                 mediaMap := page.foldl (replayRec t.wrp.tail) t.wrp.mediaMap } }

/-- Changes the checkpoint of a segment that is being written. -/
def State.updCkpt (s : State) (seg : Nat) (f : Ckpt → Ckpt) : State :=
  { s with wrp := { s.wrp with ckpts := s.wrp.ckpts.map fun k => if k.seg = seg then f k else k } }

/-- The last program of a checkpoint has passed: a TYPE 3 record, and the map on media holds the segment (R277, Table 7-4). -/
def State.ckptDone (s : State) (seg : Nat) : State :=
  let here (k : Nat) : Bool := segmentOf (k / 2 ^ 36) (k % 2 ^ 36) == seg
  let m : MapTab := ⟨s.wrp.mediaMap.entries.filter fun e => !here e.1⟩
  let m := (s.wrp.map.entries.filter fun e => here e.1).foldl (fun m e => m.set e.1 e.2) m
  let t : State := { s with wrp := { s.wrp with ckpts := s.wrp.ckpts.filter (·.seg != seg), mediaMap := m } }
  (t.journal 0 (seg % 2 ^ 20) (seg / 2 ^ 20) 3).inc Reg.wrpCkptSegCnt

/-- A program of a checkpoint has passed, or is to be started again (R277). -/
def State.ckptPassed (s : State) (seg : Nat) (pass : Bool) : State :=
  if pass then
    let t := (s.noteWa s.progUnits 0).updCkpt seg fun k => { k with left := k.left - 1 }
    if t.wrp.ckpts.any fun k => k.seg == seg && k.left == 0 then t.ckptDone seg else t
  else s.updCkpt seg fun k => { k with toStart := k.toStart + 1 }

/-- The records of the journal pages that dies are programming. -/
def State.journalling (s : State) : Nat :=
  ((s.popLanes.filterMap fun l => (s.die l).run).map fun op => match op.work with | .journal n => n | _ => 0).sum

/-- A die writes a journal page that is full (R275). -/
def State.startJournal (s : State) (lane slotEnd : Nat) : State :=
  let page := ((s.wrp.tail.reverse.drop s.journalling).take 255)
  ((s.emit (.bytes 8 (journalPage page))).startDie lane 2 (.journal 255) slotEnd).inc Reg.wrpProgCnt

/-- A full journal page waits for a program. -/
def State.journalDue (s : State) : Bool := decide (s.journalling + 255 ≤ s.wrp.tail.length)

/-- A die writes a part of a checkpoint (R267, R277). -/
def State.startCkpt (s : State) (lane slotEnd : Nat) : State :=
  match s.wrp.ckpts.find? (·.toStart != 0) with
  | some k => ((s.updCkpt k.seg fun k => { k with toStart := k.toStart - 1 }).startDie lane 2 (.ckpt k.seg) slotEnd).inc Reg.wrpProgCnt
  | none => s
def State.ckptDue (s : State) : Bool := s.wrp.ckpts.any (·.toStart != 0)

/-- A program unit whose die or channel is lost waits unprogrammed (R655). -/
def State.programParked (s : State) (pid : Nat) : State :=
  { s with wrp := { s.wrp with progs := s.wrp.progs.map fun q => if q.pid = pid then { q with started := false, sent := 0 } else q } }

end Sys2Proof.Machine
end

