-- ==== Sys2Proof/Machine/ReadPath.lean ====
section
/-! DEFINITION. The read path (chapter 6): the charge and the first attempt of a read (R208 to R219), around-reads as
requester and server (R220 to R228), decoding and the recovery chain (R229 to R238), and delivery (R239 to R243). -/
namespace Sys2Proof.Machine

/-! ## Units of a command -/

/-- Changes a unit of a command. -/
def State.updUnit (s : State) (c : CmdId) (u : Nat) (f : RUnit → RUnit) : State :=
  s.updCmd c fun x => { x with units := x.units.map fun r => if r.unit = u then f r else r }
/-- A unit of a command. -/
def State.unit? (s : State) (c : CmdId) (u : Nat) : Option RUnit := (s.cmd? c).bind fun x => x.units.find? (·.unit == u)
/-- Sets the phase of a unit. -/
def State.setPhase (s : State) (c : CmdId) (u : Nat) (p : UPhase) : State := s.updUnit c u fun r => { r with phase := p }

/-- A unit of a command that needs nothing more: delivered; recovered for a Verify, decrypted for a Compare or Copy, zeros
for any of them (Table 6-5). -/
def unitDone (op : Nat) (r : RUnit) : Bool :=
  match r.phase with
  | .issued => true
  | .plain => op == 0x05 || op == 0x19 || op == 0x0C
  | .recovered => op == 0x0C
  | _ => false

/-- Opcodes that read media: Read, Compare, Verify, Copy (Table 6-5). -/
def isReadOp (op : Nat) : Bool := op = 0x02 || op = 0x05 || op = 0x0C || op = 0x19

/-- The data of a command is still being fetched from the host. -/
def State.fetching (s : State) (x : Cmd) : Bool := x.toFetch != 0 || s.hpt.np.any (·.kind == .data x.id)

/-- Gives a read its status once every unit is done, and a Compare once it has the host's data as well; a Copy goes on to its
writes (Table 6-5). -/
def State.readSettle (s : State) (c : CmdId) : State :=
  match s.cmd? c with
  | some x =>
    if x.looked ∧ x.status.isNone ∧ x.op ≠ 0x19 ∧ x.units.all (unitDone x.op) ∧ ¬ (x.op = 0x05 ∧ s.fetching x) then
      s.finish c (if x.op = 0x05 ∧ ¬ x.equal then nvmeStatus 2 0x85 else 0)
    else s
  | none => s

/-- A reader lets go of a staged write (R209). -/
def State.letGo (s : State) (c : CmdId) (r : RUnit) : State :=
  match r.staged with
  | some wid => ((s.updWrite wid fun w => { w with readers := w.readers - 1 }).updUnit c r.unit fun q => { q with staged := none }).release
  | none => s

/-! ## The soft queue (R234) -/

/-- Shows the soft queue's depth and spill. -/
def State.showSoft (s : State) : State :=
  let n := s.rdp.softQ.length
  let spill := decide (1024 < n)
  ((s.when (spill && !s.bit Reg.rdpStatus 11) (·.raise Reg.rdpEvent 4)).setField Reg.rdpStatus 0 11 (min 1024 n)).setBit
    Reg.rdpStatus 11 spill

def State.enterSoft (s : State) (c : CmdId) (u : Nat) : State :=
  if s.rdp.softQ.contains (c, u) then s
  else State.showSoft { s with rdp := { s.rdp with softQ := s.rdp.softQ ++ [(c, u)] } }
def State.leaveSoft (s : State) (c : CmdId) (u : Nat) : State :=
  if s.rdp.softQ.contains (c, u) then
    State.showSoft { s with rdp := { s.rdp with softQ := s.rdp.softQ.filter (· != (c, u)) } }
  else s

/-! ## The legs of a read -/

/-- The leg that a decode is of. -/
def State.leg? (s : State) (j : DecodeJob) : Option Leg :=
  match j with
  | .unit c u _ => ((s.unit? c u).bind fun r => (r.jobs c).find? (·.1 == j)).map (·.2)
  | .served tag => (s.rdp.serving.find? (·.req.tag == tag)).map (·.leg)
  | .merge wid u => (s.write? wid).bind fun w => lookupKey u w.legs
  | .sample _ _ => none

/-- Changes the leg that a decode is of. -/
def State.setLeg (s : State) (j : DecodeJob) (f : Leg → Leg) : State :=
  match j with
  | .unit c u m => s.updUnit c u fun r => { r with legs := r.legs.map fun g => if m.all (· == g.lane) then f g else g }
  | .served tag => { s with rdp := { s.rdp with serving := s.rdp.serving.map fun v =>
      if v.req.tag = tag then { v with leg := f v.leg } else v } }
  | .merge wid u => s.updWrite wid fun w => { w with legs := w.legs.map fun p => if p.1 = u then (u, f p.2) else p }
  | .sample _ _ => s

/-- Every read in progress with its leg: for commands, for the partner, for merges. -/
def State.allJobs (s : State) : List (DecodeJob × Leg) :=
  s.cmds.flatMap (·.jobs) ++ s.rdp.serving.map (fun v => (.served v.req.tag, v.leg)) ++
    s.wrp.writes.flatMap fun w => w.legs.map fun p => (.merge w.wid p.1, p.2)

/-- The reads of a unit that nothing waits for any more: their admissions and places go, and decodes in progress go on for the
media statistics (R230, R244). -/
def State.quit (s : State) (c : CmdId) (r : RUnit) : State :=
  let js := r.jobs c
  if js.isEmpty then s
  else
    let mine (w : Work) : Bool := js.any fun p => w == .read p.1
    let t := s.dropAdms fun a => a.work.any mine && !a.started
    { t with rdp := { t.rdp with urgent := t.rdp.urgent.filter fun p => !mine p.2,
                                 orphans := t.rdp.orphans ++ js.filter fun p => p.2.at_ == .decoding } }

/-- A unit leaves its reads for a phase. -/
def State.toPhase (s : State) (c : CmdId) (r : RUnit) (p : UPhase) : State :=
  (s.quit c r).updUnit c r.unit fun q => { q with phase := p, legs := [] }

/-- The reads of a command end with it: holds on staging, places in the soft queue, and the admissions of its reads go (R209,
R234, R244). -/
def State.endReads (s : State) (x : Cmd) : State :=
  x.units.foldl (fun t r => ((t.quit x.id r).letGo x.id r).leaveSoft x.id r.unit) s

/-! ## Unrecovered units (R213, R236, R237) -/

/-- Adds an entry to the Error Information log of a function; the log holds its newest 64 (R391). -/
def State.logError (s : State) (e : ErrEntry) : State :=
  State.updFn { s with errs := (e :: s.errs).take 262144 } e.fn fun x =>
    { x with errCount := x.errCount + 1, mediaErrs := x.mediaErrs + if e.status = nvmeStatus 2 0x81 then 1 else 0 }

/-- The status Unrecovered Read Error (R36). -/
abbrev unrecovered : Nat := nvmeStatus 2 0x81

/-- The first logical block of a unit. -/
def State.unitLba (s : State) (nsid u : Nat) : Nat := u * (s.ns nsid).lbasPerUnit

/-- A command fails with Unrecovered Read Error and Do Not Retry; a bounded read is an exception of cause MEDIA (R213,
R236, R164). -/
def State.readFailed (s : State) (x : Cmd) (u : Nat) : State :=
  let t := (match s.unit? x.id u with
    | some r => s.toPhase x.id r .failed
    | none => s).meet x.id 1
  (t.logError { fn := x.id.fn, qid := x.id.qid, cid := x.id.cid, status := unrecovered, lba := t.unitLba x.nsid u,
                nsid := x.nsid }).finish x.id unrecovered 0 true

/-- Every stage of recovery has failed (R236 to R238): the mark is set, the unit recorded, the command fails; a unit of
a protected paired namespace is asked of the partner (R511). -/
def State.ure (s : State) (x : Cmd) (u : Nat) : State :=
  let n := s.ns x.nsid
  let e := s.entryOf x.nsid u
  let marked := mediaEntry n (entryLoc n e 0) ((List.range n.parts).filter fun k => entryMark n e k || k == u % n.parts)
  let t := if entryState e = 0 then s.setEntry x.nsid (u / n.parts) marked else s
  let lba := s.unitLba x.nsid u
  let t := ((t.setNum Reg.rdpUreNsid x.nsid).setNum Reg.rdpUreLbaLo lba).setNum Reg.rdpUreLbaHi (lba / 2 ^ 32)
  let t := (t.setNum Reg.rdpUreVf x.id.fn).countErr .rdp Reg.rdpUreCnt 0xFFFF x.id.fn
    [BitVec.ofNat 32 x.nsid, BitVec.ofNat 32 lba, BitVec.ofNat 32 (lba / 2 ^ 32), BitVec.ofNat 32 x.id.fn]
  let t := (t.raise Reg.rdpEvent 0).readFailed x u
  if n.paired ∧ n.prot = 1 then t.send (.repairReq x.nsid (u / n.parts) (u % n.parts)) else t

/-! ## Page reads -/

/-- Counts a page read on the block it reads (R306). -/
def State.countRead (s : State) (loc : Nat) : State :=
  (s.inc Reg.rdpMediaReadCnt).updBlock (locLane loc) (s.locBlock loc) fun b => { b with reads := b.reads + 1 }

/-- The block group of a location: band × 16 + age octave (R311). -/
def State.groupOf (s : State) (lane block : Nat) : Nat :=
  let b := (s.die lane).block block
  let bands := (s.mch.profile.map (·.bands)).getD []
  let band := match (List.range bands.length).find? fun k => (bands[k]?).any fun d => b.ec < d.peUpper with
    | some k => k
    | none => bands.length - 1
  let hours := b.age / (65536 * (3600 * 500000000))
  band * 16 + (if hours = 0 then 0 else min 11 (Nat.log2 hours + 1))

/-- Notes a hard decode, or a rescue, of a block group: its decodes, and the places of the rescues among the last 1,000 (R312). -/
def noteRate (group : Nat) (rescue : Bool) (l : List (Nat × Nat × List Nat)) : List (Nat × Nat × List Nat) :=
  let old := (lookupKey group l).getD (0, [])
  let n := if rescue then old.1 else old.1 + 1
  insertKey group (n, (if rescue then [n] else []) ++ old.2.filter fun k => n < k + 1000) (eraseKey group l)

/-- Starts a page read on a die, with its read levels (R199). -/
def State.startRead (s : State) (lane loc shift : Nat) (w : Work) (slotEnd : Nat) : State :=
  ((s.setLevels lane (s.groupOf lane (s.locBlock loc)) shift).countRead loc).startDie lane 1 w slotEnd

/-- Which levels a leg's page read takes: the offsets of its group; shifted ones for a retry; for a soft pass the centre ones
and those below and above them in turn (R225, R232, R656). -/
def Leg.shift (g : Leg) : Nat := if g.shifted then 1 else if g.soft then [0, 2, 3].getD g.reads 0 else 0

/-- Starts the page read of a leg. A merge read is counted (R262). -/
def State.startLeg (s : State) (j : DecodeJob) (slotEnd : Nat) : State :=
  match s.leg? j with
  | none => s
  | some g =>
    let t := s.startRead g.lane g.loc g.shift (.read j) slotEnd
    let t := match j with
      | .merge wid _ => t.when ((s.write? wid).any fun (w : SWrite) => w.from_.isNone) (·.inc Reg.wrpMergeCnt)
      | _ => t
    t.setLeg j fun h => { h with at_ := .reading, slotEnd := slotEnd, levels := (t.die g.lane).levels }

/-- The tick at which the cell in progress began, and at which a slot ends. -/
def State.cellTick (s : State) : Nat := s.now - s.ftb.tick % 2000
def State.slotTick (s : State) (stop : Nat) : Nat := s.cellTick + (stop - s.cell) * 2000

/-- A read fits its slot (R652): with the suspension wait of a suspended program or erase in a GATE slot. -/
def State.readFits (s : State) (lane : Nat) (y : SlotAt) : Bool :=
  let wait := if y.slot.kind ≠ 5 then 0 else if (s.die lane).susp.any (·.kind == 3) then s.timing 6
    else if (s.die lane).susp.isSome then s.timing 5 else 0
  decide (s.now + s.worstOf 1 + wait ≤ s.slotTick y.stop)

/-- Asks for a slot for a waiting leg of a command (R125 to R127, R215, R219, R232). -/
def State.admitRead (s : State) (c : CmdId) (j : DecodeJob) : State :=
  match s.cmd? c with
  | none => s
  | some x =>
    match (x.jobs.find? (·.1 == j)).map (·.2) with
    | none => s
    | some g =>
      if s.inRun ∧ g.at_ = .wait ∧ ¬ s.isAdmitted (.read j) ∧ ¬ s.laneVoid g.lane then
        let a : Adm := { cmd := c, kind := .dieRead, lane := g.lane, start := 0, stop := 0, units := 1, owned := false, fn := c.fn,
                         work := some (.read j), best := (x.unitOf (some (.read j))).any fun r => 3 ≤ r.stage }
        let t := s.admitAt x a
        if t.prx.adms.length = s.prx.adms.length then t else t.updCmd c fun y => { y with admitted := true }
      else s

/-- Asks for slots for every waiting leg of a unit. -/
def State.admitUnit (s : State) (c : CmdId) (u : Nat) : State :=
  (((s.unit? c u).map (·.jobs c)).getD []).foldl (fun t p => t.admitRead c p.1) s

/-- Reads a unit by legs, at a stage of Table 6-4, and asks for their slots. -/
def State.readFrom (s : State) (x : Cmd) (r : RUnit) (how : ReadHow) (legs : List Leg) (stage : Nat) : State :=
  ((s.quit x.id r).updUnit x.id r.unit fun q => { q with phase := .media how, legs := legs, stage := stage }).admitUnit x.id r.unit

/-! ## Reads that start at once (R223, R224) -/

/-- Starts the reads that wait for a lane's die, as soon as nothing runs there, in no slot's capacity; a suspended operation resumes after the
last of them, unless it stays suspended for a GATE slot or for the next ERASE slot (R86, R92, R223). -/
def State.startUrgent (s : State) (lane : Nat) : State :=
  if (s.die lane).run.isSome then s
  else
    match s.rdp.urgent.find? (·.1 == lane) with
    | some (l, .read j) =>
      State.startLeg { s with rdp := { s.rdp with urgent := s.rdp.urgent.erase (l, .read j) } } j 0
    | some p => { s with rdp := { s.rdp with urgent := s.rdp.urgent.erase p } }
    | none => if (s.die lane).hold = .none then s.resumeDie lane else s

/-- A rescue read starts at once: on a MODE 0 lane it suspends a running program or erase where R196 lets it, and otherwise it
waits for the die (R194, R198, R223, R224). -/
def State.rescueStart (s : State) (lane : Nat) (w : Work) : State :=
  let t := if s.modeOf lane = 0 ∧ (s.die lane).run.any (·.kind != 1) then s.suspendDie lane else s
  State.startUrgent { t with rdp := { t.rdp with urgent := t.rdp.urgent ++ [(lane, w)] } } lane

/-! ## Around-reads as requester -/

/-- New around-reads may be sent: the link is up and a partner is joined (R216). -/
def State.aroundOk (s : State) : Bool := s.linkUp && s.joined

/-- Shows AROUND_OK (Table 6-9). -/
def State.showAround (s : State) : State := s.setBit Reg.rdpStatus 12 s.aroundOk

/-- A free tag (R495). -/
def State.freeTag (s : State) : Option Nat :=
  (List.range 4096).map (fun k => (s.rdp.nextTag + k) % 4096) |>.find? fun t =>
    !s.rdp.abandoned.contains t && !(s.rdp.sent.any (·.tag == t))

/-- The receive space of VC3 has room for one more response (R495): Table 12-4 advertises 512 headers and 4,096 blocks, and a
response that has not arrived holds a header and 64 blocks of it. -/
def State.vc3Room (s : State) : Bool :=
  let held := s.rdp.sent.length + s.rdp.abandoned.length
  decide (held + 1 ≤ 512) && decide (64 * (held + 1) ≤ 4096)

/-- Sends an around-read for a unit (R215, R220); none where no tag or receive space is free or the namespace may not send one (R500). A request
with SOFT is a best-effort stage (R155, R231). -/
def State.sendAround (s : State) (x : Cmd) (r : RUnit) (soft rescue : Bool) : Option State :=
  let n := s.ns x.nsid
  match s.freeTag with
  | none => none
  | some tag =>
    if s.aroundOk ∧ s.vc3Room ∧ n.paired ∧ n.prot = 1 then
      let tenant := s.prx.active.bind (·.tenant? x.id.fn)
      let be := soft || !(x.bounded && !x.beyond && tenant.isSome)
      let req : AreadReq := { nsid := x.nsid, index := r.unit / n.parts, part := r.unit % n.parts,
                              group := if be then 0 else (tenant.map (·.group)).getD 0, tag := tag, rescue := rescue,
                              soft := soft, bestEffort := be }
      let a : Around := { tag := tag, cmd := x.id, unit := r.unit, soft := soft, rescue := rescue }
      let t := s.toPhase x.id r (.around tag soft)
      let t : State := { t with rdp := { t.rdp with sent := t.rdp.sent ++ [a], nextTag := (tag + 1) % 4096 } }
      some ((t.inc Reg.rdpAroundSentCnt).send (.areadReq req))
    else none

/-! ## The recovery chain (R231, Table 6-4) -/

/-- A leg that has ended. -/
def Leg.ended (g : Leg) : Bool := g.at_ == .ok || g.at_ == .failed

/-- A leg that reads a location: one on a die that cannot be read has failed at once. -/
def State.newLeg (s : State) (loc : Nat) : Leg :=
  { loc := loc, since := s.cell, at_ := if s.dieUsable (locLane loc) then .wait else .failed }

/-- A unit to be rewritten still lies where it was read: no write of the host has come in between (R235). -/
def State.repairStands (s : State) (w : SWrite) : Bool :=
  let n := s.ns w.nsid
  w.units.all fun u => (s.stagedFor w.nsid u).isNone && entryState (s.entryOf w.nsid u) == 0 &&
    w.from_ == some (entryLoc n (s.entryOf w.nsid u) 0)

/-- Takes recovered units into staging for their rewrite, as long as there is room (R235, R250). -/
def State.takeRepairs (s : State) : State :=
  s.rdp.repairs.foldl (fun t w =>
    let left : State := { t with rdp := { t.rdp with repairs := t.rdp.repairs.erase w } }
    if ¬ t.repairStands w then left
    else if t.ownFree < w.units.length then t
    else
      let u := left.addWrite w
      match u.write? t.wrp.nextWid with
      | some v => u.becomeStaged v
      | none => u) s

/-- The unit is recovered at the stage it stands in (R231, R235): counted, and handed for a rewrite where R235 says so. The
recovered ciphertext waits for room in staging beside the reserve of mirrored-in writes (R250). -/
def State.recovered (s : State) (x : Cmd) (r : RUnit) : State :=
  let t := (s.leaveSoft x.id r.unit).toPhase x.id r .recovered
  let t := if r.stage = 0 then t
    else if r.stage ≤ 2 then (t.inc Reg.rdpRescueOkCnt).updCmd x.id fun y => { y with rescued := true }
    else if r.stage ≤ 4 then t.inc Reg.rdpSoftOkCnt
    else (t.inc Reg.rdpParityOkCnt).raise Reg.rdpEvent 2
  let t := if r.stage ≠ 0 then t.updDie r.home fun d =>
      { d with rescues := d.rescues + 1, rates := match r.loc with
          | some l => noteRate (t.groupOf r.home (t.locBlock l)) true d.rates
          | none => d.rates } else t
  let t := if t.bit Reg.rdpCtl 0 ∧ (3 ≤ r.stage ∨ (1 ≤ r.stage ∧ r.localFail)) then
      let w : SWrite := { wid := 0, origin := .repair, fn := x.id.fn, nsid := x.nsid, units := [r.unit], state := .filling,
                          from_ := r.loc.map fun l => l - l % (t.ns x.nsid).parts }
      let u := t.inc Reg.rdpRepairCnt
      { u with rdp := { u.rdp with repairs := u.rdp.repairs ++ [w] } }
    else t
  t.takeRepairs.readSettle x.id

/-- The legs that failed. -/
def failedLegs (legs : List Leg) : List Leg := legs.filter (·.at_ == .failed)

/-- The last stage: parity reconstruction where PARITY_EN allows it, from the other members of the stripe (R233). A member that
cannot be recovered ends it. -/
def State.toParity (s : State) (x : Cmd) (r : RUnit) : State :=
  match if s.bit Reg.rdpCtl 1 then r.loc.bind s.stripeMates else none with
  | none => (s.leaveSoft x.id r.unit).ure x r.unit
  | some locs =>
    let legs := locs.map s.newLeg
    if (failedLegs legs).isEmpty then
      let r' : RUnit := { r with stage := 5 }
      if legs.isEmpty then (s.updUnit x.id r.unit fun q => { q with stage := 5 }).recovered x r'
      else s.readFrom x r .parity legs 5
    else (s.leaveSoft x.id r.unit).ure x r.unit

/-- Stage 4: an around-read with SOFT, in paired MODE 0 with the partner reachable (R231); otherwise stage 5. -/
def State.toPartnerSoft (s : State) (x : Cmd) (r : RUnit) : State :=
  if s.modeOf r.home = 0 ∧ s.bit Reg.rdpCtl 2 then
    match (s.updUnit x.id r.unit fun q => { q with stage := 4 }).sendAround x r true false with
    | some t => t
    | none => s.toParity x r
  else s.toParity x r

/-- Stage 3: soft decode of the local copy; a bounded command that comes here is an exception of cause MEDIA (R231, R232). A
die that cannot be read leaves stage 3 out. -/
def State.toSoft (s : State) (x : Cmd) (r : RUnit) : State :=
  let t := (((s.countErr .rdp Reg.rdpRescueFailCnt).meet x.id 1).enterSoft x.id r.unit).updCmd x.id fun y => { y with softUsed := true }
  match r.loc.filter fun l => t.dieUsable (locLane l) with
  | some l => t.readFrom x r .own [{ loc := l, since := t.cell, soft := true }] 3
  | none => t.toPartnerSoft x r

/-- Reads a unit from the other members of its stripe set, at the same stripe position (R218, R225); where no stripe is known
for it, at the same unit-in-die. One member that has failed is read again at shifted levels; a second failure, a member whose
die cannot be read, or a failure of the retried one goes on to soft decoding (R225). -/
def State.reconSettle (s : State) (x : Cmd) (r : RUnit) (legs : List Leg) (retried : Bool) : State :=
  match failedLegs legs with
  | [] => s.recovered x r
  | [g] =>
    if retried ∨ ¬ s.dieUsable g.lane then s.toSoft x r
    else (s.updUnit x.id r.unit fun q => { q with localFail := true }).readFrom x r (.recon true)
      [{ loc := g.loc, since := s.cell, shifted := true }] (if r.stage = 0 then 1 else 2)
  | _ => s.toSoft x r

/-- Starts a reconstruction from the seven other members (R218, R225). -/
def State.toRecon (s : State) (x : Cmd) (r : RUnit) (stage : Nat) : State :=
  let ms := (stripeSet (r.home / 128) (r.home % 16)).filter (· != r.home)
  let locs := (r.loc.bind s.stripeMates).getD (ms.map fun m => m * 2 ^ 27 + r.loc.getD 0 % 2 ^ 27)
  let legs := locs.map s.newLeg
  let t := s.inc Reg.rdpReconCnt
  if legs.all Leg.ended then t.reconSettle x { r with stage := stage } legs false
  else t.readFrom x r (.recon false) legs stage

/-- Starts a read retry at shifted levels in the slot of the read it repeats, when it fits there; otherwise it waits for
admission (R656). -/
def State.retryRead (s : State) (x : Cmd) (r : RUnit) (slotEnd : Nat) : State :=
  match r.loc.filter fun l => s.dieUsable (locLane l) with
  | none => s.toSoft x r
  | some l =>
    let lane := locLane l
    let g : Leg := { loc := l, since := s.cell, shifted := true }
    let t := (s.quit x.id r).updUnit x.id r.unit fun q => { q with phase := .media .own, legs := [g], stage := 1 }
    let j : DecodeJob := .unit x.id r.unit none
    match (t.slotNow lane).filter fun y => y.stop == slotEnd && (y.slot.kind == 1 || y.slot.kind == 5) with
    | some y =>
      if t.readFits lane y then
        if (t.die lane).run.isNone then t.startLeg j y.stop
        else t.addAdm { cmd := x.id, kind := .dieRead, lane := lane, start := y.start, stop := y.stop, units := 1, owned := false,
                        fn := x.id.fn, work := some (.read j) }
      else t.admitRead x.id j
    | none => t.admitRead x.id j

/-- Reads the home die at once, as the rescue of an around-read that failed (R224); a die that cannot be read goes on to soft
decoding. -/
def State.rescueLocal (s : State) (x : Cmd) (r : RUnit) : State :=
  match r.loc.filter fun l => s.dieUsable (locLane l) with
  | none => s.toSoft x r
  | some l =>
    ((s.quit x.id r).updUnit x.id r.unit fun q =>
      { q with phase := .media .own, legs := [{ loc := l, since := s.cell }], stage := 1 }).rescueStart (locLane l)
        (.read (.unit x.id r.unit none))

/-- An attempt on a unit has failed, on the local copy where `here` says so, and the next stage of Table 6-4 is taken (R224,
R225, R231). `slotEnd` is the end of the slot of the failed read. -/
def State.nextStage (s : State) (x : Cmd) (r₀ : RUnit) (here : Bool) (slotEnd : Nat) : State :=
  let r : RUnit := { r₀ with localFail := r₀.localFail || here }
  let s := s.updUnit x.id r.unit fun q => { q with localFail := r.localFail }
  let v := s.variant
  let mode := s.modeOf r.home
  if r.stage = 0 then
    if mode = 0 ∧ (v = 0 ∨ v = 2) then
      if here then
        match (s.updUnit x.id r.unit fun q => { q with stage := 1 }).sendAround x r false true with
        | some t => t
        | none => s.toSoft x r
      else s.rescueLocal x r
    else if mode = 1 then s.toRecon x r 1
    else s.retryRead x r slotEnd
  else if r.stage ≤ 2 then s.toSoft x r
  else if r.stage = 3 then s.toPartnerSoft x r
  else if r.stage = 4 then s.toParity x r
  else (s.leaveSoft x.id r.unit).ure x r.unit

/-! ## The first attempt (R214 to R218) -/

/-- The cell in progress lies in the program phase of a plain (R89). -/
def State.inProgPhase (s : State) (plain : Nat) : Bool :=
  match s.prx.active with
  | some i => i.inPhase s.variant plain (s.cell % i.cycleCells)
  | none => false

/-- An owned READ slot of the command's group with room lies within the lookahead of a die. -/
def State.hasOwnedRead (s : State) (x : Cmd) (lane : Nat) : Bool :=
  let a : Adm := { cmd := x.id, kind := .dieRead, lane := lane, start := 0, stop := 0, units := 1, owned := false, fn := x.id.fn }
  (s.lookahead lane).any fun y => y.slot.kind == 1 && s.ownedFits x a y

/-- Data lies on a lost channel other than the first lost (R123). -/
def State.beyondFirst (s : State) (lane : Nat) : Bool :=
  s.prx.lost.contains (lane / 16) && s.prx.lost.head? != some (lane / 16)

/-- Notes a command whose data lies on a die that cannot be read: beyond the first lost channel it goes on best-effort
(R123), and on a lost die of a channel that is up it meets MEDIA (R202). -/
def State.noteVoid (s : State) (c : CmdId) (lane : Nat) : State :=
  if s.beyondFirst lane then s.updCmd c fun z => { z.meet 4 with beyond := true }
  else if (s.die lane).lost ∧ ¬ s.prx.lost.contains (lane / 16) then s.meet c 1
  else s

/-- Reads the home die (R215, R217). -/
def State.readLocal (s : State) (x : Cmd) (r : RUnit) : State :=
  s.readFrom x r .own ((r.loc.toList).map s.newLeg) r.stage

/-- Reads the home die in place of an around-read (R216): in a slot outside the program phase of its plain. -/
def State.localInstead (s : State) (x : Cmd) (r : RUnit) : State :=
  (s.updUnit x.id r.unit fun q => { q with outside := true }).readLocal x r

/-- Routes a unit on media (Table 6-1, R214 to R218). A unit whose die cannot be read goes around, is reconstructed, or
enters the recovery chain. A command beyond the first lost channel is routed as best-effort (R123). -/
def State.route (s : State) (x₀ : Cmd) (r : RUnit) : State :=
  let s := s.noteVoid x₀.id r.home
  let x : Cmd := { x₀ with bounded := x₀.bounded && !x₀.beyond && !s.beyondFirst r.home }
  let v := s.variant
  let mode := s.modeOf r.home
  let owned := s.hasOwnedRead x r.home
  let usable := s.dieUsable r.home
  if mode = 0 ∧ (v = 0 ∨ v = 2) then
    if s.inProgPhase (s.plainOf r.home) ∨ (x.bounded ∧ ¬ owned) ∨ ¬ usable then
      match (s.updUnit x.id r.unit fun q => { q with wentAround := true }).sendAround x r false false with
      | some t => t
      | none =>
        let t := if (s.ns x.nsid).paired then s.meet x.id 5 else s
        if usable then t.localInstead x r else t.toSoft x r
    else s.readLocal x r
  else if mode = 1 then
    if (s.slotNow r.home).any (fun y => y.slot.kind == 2 || y.slot.kind == 3) ∨ (x.bounded ∧ ¬ owned) ∨ ¬ usable then
      s.toRecon x r 0
    else s.readLocal x r
  else if usable then s.readLocal x r else s.toSoft x r

/-- The charge of a read (R143, R145, R151, R211). -/
def State.chargeReadCmd (s : State) (x : Cmd) (onMedia eccHit : Bool) (units : List Nat) : State :=
  match s.prx.active with
  | none => s
  | some i =>
    match i.tenant? x.id.fn with
    | none => s
    | some t =>
      let bound := s.boundAcross x.id.fn TenantEntry.readBoundIn
      let bytes := x.nlb * (if (s.ns x.nsid).lba512 then 512 else 4096)
      if x.op = 0x02 ∧ s.inRun ∧ t.readBoundIn s.variant ≠ 0 ∧ bytes ≤ 32768 ∧ ¬ eccHit then
        let homes := if onMedia then units.map (s.homeLane x.nsid) else []
        match (s.tenants.get x.id.fn).chargeRead (s.bucketsOf i t) x.count homes with
        | some y =>
          State.updCmd { s with tenants := s.tenants.set x.id.fn y } x.id fun z =>
            { z with bounded := true, bound := readBoundFor bound x.count }
        | none => s
      else s

/-- The map lookup of a command that reads (R208 to R213): each unit resolves in one step, the read is charged, and each
unit on media is routed. `eccUnit` names a unit whose map entry an uncorrectable DRAM error hit, which `rebuilt` says
could be rebuilt (R212): every change of the map is journalled, so that checkpoint and journal give the entry the map holds. -/
def State.mapLookup (s : State) (c : CmdId) (cacheMiss : Nat) (eccUnit : Option Nat) (rebuilt : Bool) : State :=
  match s.cmd? c with
  | none => s
  | some x =>
    if x.admin ∨ ¬ isReadOp x.op ∨ x.looked ∨ x.status.isSome ∨ ¬ s.admitting ∨ s.listing x then s
    else
      let units := if x.op = 0x19 then x.ranges.flatMap fun r => (List.range r.2).map (r.1 + ·)
        else (List.range x.count).map (x.first + ·)
      let t := s.inc Reg.rdpMapDramCnt cacheMiss
      let t := if eccUnit.isSome ∧ rebuilt then (t.countErr .rdp Reg.rdpMapEccCnt).raise Reg.rdpEvent 3 else t
      let res := units.map fun u => (u, t.resolve x.nsid u)
      let onMedia := res.any fun p => match p.2 with | .media _ | .unreadable => true | _ => false
      let t := t.updCmd c fun z => { z with looked := true, charged := true, chargedF := s.frame }
      let t := t.chargeReadCmd x onMedia eccUnit.isSome units
      let mk (p : Nat × Resolved) : RUnit :=
        let h := s.homeLane x.nsid p.1
        match p.2 with
        | .unmapped | .zero => { unit := p.1, home := h, loc := none, phase := .plain, zero := true }
        | .staged w => { unit := p.1, home := h, loc := none, phase := .recovered, staged := some w }
        | .unreadable => { unit := p.1, home := h, loc := none, phase := .failed }
        | .media l => { unit := p.1, home := locLane l, loc := some l, phase := .media .own }
      let us := res.map mk
      let t := t.updCmd c fun z => { z with units := us }
      let zeros := (res.filter fun p => p.2 == .unmapped || p.2 == .zero).length
      let held := us.filterMap (·.staged)
      let t := (t.inc Reg.rdpUnmappedCnt zeros).inc Reg.rdpStagingHitCnt held.length
      let t := held.foldl (fun t w => t.updWrite w fun y => { y with readers := y.readers + 1 }) t
      match t.cmd? c with
      | none => t
      | some y =>
        let bad := us.find? (·.phase == .failed)
        let lost := if rebuilt then none else eccUnit
        match bad, lost with
        | some r, _ => t.readFailed y r.unit
        | none, some u => t.readFailed y u
        | none, none => ((us.filter (·.phase == .media .own)).foldl (fun t r => t.route y r) t).readSettle c

/-! ## Around-read responses (R222, R224 to R228) -/

/-- Serves a unit from its local copy (R216, R226): cause PARTNER. A unit whose local copy has already failed goes on
along the recovery chain. -/
def State.fallBack (s : State) (x : Cmd) (r : RUnit) : State :=
  let t := s.meet x.id 5
  if ¬ r.localFail ∧ r.stage = 0 ∧ t.dieUsable r.home then t.localInstead x r else t.toSoft x r

/-- The local fallback of an around-read has not started: no page read of it has begun (R227). -/
def RUnit.unstarted (r : RUnit) : Bool :=
  match r.phase with
  | .media _ => r.legs.all fun g => g.at_ == .wait && g.reads == 0 && g.passes == 0
  | _ => false

/-- Drops an around-read that has ended. -/
def State.endAround (s : State) (tag : Nat) : State :=
  { s with rdp := { s.rdp with sent := s.rdp.sent.filter (·.tag != tag), abandoned := s.rdp.abandoned.filter (· != tag) } }

/-- A response for a tag (Table 6-2, R227). A response used in place of a fallback withdraws its stages; the unit then stands
where the around-read belongs in Table 6-4. -/
def State.aroundRsp (s : State) (tag status : Nat) : State :=
  match s.rdp.sent.find? (·.tag == tag) with
  | none => (s.endAround tag).countErr .rdp Reg.rdpAroundLateCnt
  | some a =>
    let t := s.endAround tag
    match t.cmd? a.cmd, t.unit? a.cmd a.unit with
    | some x, some r₀ =>
      let waiting := match r₀.phase with
        | .around g _ => g == tag
        | _ => a.fallback && r₀.unstarted
      if !waiting then t.countErr .rdp Reg.rdpAroundLateCnt
      else
        let r : RUnit := if a.fallback then { r₀ with stage := if a.rescue then 1 else 0 } else r₀
        if status = 0 then t.recovered x r
        else if status = 1 then
          (((((t.leaveSoft x.id r.unit).toPhase x.id r .plain).updUnit x.id r.unit fun q => { q with zero := true }).inc
            Reg.rdpUnmappedCnt)).readSettle x.id
        else if a.fallback then (if status = 2 then t else t.countErr .rdp Reg.rdpAroundRefusedCnt)
        else if status = 2 then t.nextStage x r false 0
        else
          let t := t.countErr .rdp Reg.rdpAroundRefusedCnt
          if a.soft then t.toParity x r else t.fallBack x r
    | _, _ => t.countErr .rdp Reg.rdpAroundLateCnt

/-- The timeout of an around-read in ticks (Table 6-7). -/
def State.aroundTicks (s : State) : Nat := max 2000 (s.field Reg.rdpAroundTmo 0 24)

/-- No response in time: the request is abandoned (R226). -/
def State.aroundTimeout (s : State) (tag : Nat) : State :=
  match s.rdp.sent.find? (·.tag == tag) with
  | some a =>
    if a.soft ∨ a.fallback ∨ a.sentAt.all (s.now < · + s.aroundTicks) then s
    else
      let t : State := { s.endAround tag with rdp := { (s.endAround tag).rdp with abandoned := s.rdp.abandoned ++ [tag] } }
      let t := (t.countErr .rdp Reg.rdpAroundTmoCnt).raise Reg.rdpEvent 1
      match t.cmd? a.cmd, t.unit? a.cmd a.unit with
      | some x, some r => if r.phase == .around tag false then t.fallBack x r else t
      | _, _ => t
  | none => s

/-- The link has gone down, or its session has ended (`ended`): every around-read falls back at once; one with SOFT
goes on at stage 5 (R226, R228, R498). -/
def State.aroundsFallBack (s : State) (ended : Bool) : State :=
  let t := s.rdp.sent.foldl (fun t a =>
    match t.cmd? a.cmd, t.unit? a.cmd a.unit with
    | some x, some r =>
      if r.phase == .around a.tag a.soft then
        if a.soft then t.toParity x r else t.fallBack x r
      else t
    | _, _ => t) s
  if ended then { t with rdp := { t.rdp with sent := [], abandoned := [], serving := [] } }
  else { t with rdp := { t.rdp with sent := (t.rdp.sent.filter (!·.soft)).map fun a => { a with fallback := true } } }

/-! ## Serving the partner (R221 to R223, R238) -/

/-- Answers an around-read exactly once (R495). -/
def State.answerAround (s : State) (tag status : Nat) : State :=
  (State.inc { s with rdp := { s.rdp with serving := s.rdp.serving.filter (·.req.tag != tag) } } Reg.rdpAroundServedCnt).send
    (.areadRsp tag status)

/-- An around-read request from the partner (R221 to R223). -/
def State.areadReq (s : State) (r : AreadReq) : State :=
  let n := s.ns r.nsid
  if ¬ n.present ∨ ¬ n.paired ∨ s.variant = 1 ∨ s.variant = 3 then s.answerAround r.tag 3
  else
    match s.resolve r.nsid (r.index * n.parts + r.part) with
    | .unmapped | .zero => s.answerAround r.tag 1
    | .unreadable => s.answerAround r.tag 3
    | .staged _ => (s.inc Reg.rdpStagingHitCnt).answerAround r.tag 0
    | .media loc =>
      let lane := locLane loc
      if ¬ s.dieUsable lane then s.answerAround r.tag 3
      else
        let t : State := { s with rdp := { s.rdp with serving := s.rdp.serving ++ [{ req := r, leg := { loc := loc, since := s.cell } }] } }
        if r.rescue then t.rescueStart lane (.read (.served r.tag)) else t

/-! ## Decodes (R229, R230) -/

/-- What a decode tells Media Care (R230): the corrected bits by block, with the read levels used; hard decodes by die. -/
def State.decodeNoted (s : State) (g : Leg) (corrected : Nat) : State :=
  s.updDie g.lane fun d =>
    let b := s.locBlock g.loc
    let d := { d with heard := some (b, corrected, g.levels) }
    if g.soft then d
    else { d with decodes := d.decodes + 1, corrSum := d.corrSum + corrected, rates := noteRate (s.groupOf g.lane b) false d.rates }

/-- Counts a failed hard decode (R229). -/
def State.hardFailed (s : State) (r : DecodeResult) : State :=
  let t := s.countErr .rdp Reg.rdpHardFailCnt
  if r = .tagMismatch then (t.countErr .rdp Reg.rdpTagFailCnt).raise Reg.rdpEvent 5 else t

/-- A leg starts over as a soft decode, or makes its next pass (R232). -/
def State.softLeg (s : State) (j : DecodeJob) (passes : Nat) : State :=
  let t := s.setLeg j fun g => { g with at_ := .wait, soft := true, shifted := false, passes := passes, reads := 0, since := s.cell }
  match j with
  | .unit c _ _ => t.admitRead c j
  | _ => t

/-- The leg of a unit has ended; where all have, the unit goes on (R218, R225, R231, R233). -/
def State.unitLegEnds (s : State) (c : CmdId) (u : Nat) (j : DecodeJob) (g : Leg) (ok : Bool) : State :=
  let t := s.setLeg j fun h => { h with at_ := if ok then .ok else .failed }
  match t.cmd? c, t.unit? c u with
  | some x, some r =>
    match r.phase with
    | .media .own => if ok then t.recovered x r else t.nextStage x r true g.slotEnd
    | .media (.recon retried) => if r.legs.all Leg.ended then t.reconSettle x r r.legs retried else t
    | .media .parity =>
      if ok then (if r.legs.all Leg.ended then t.recovered x r else t)
      else if g.soft ∨ ¬ t.dieUsable g.lane then t.nextStage x r false 0
      else t.softLeg j 0
    | _ => t
  | _, _ => s

/-- The read of a part for a merge, or for a move, has ended. A unit being moved is in staging once all its parts are (R295). -/
def State.partRead (s : State) (wid u : Nat) (ok : Bool) : State :=
  let t := s.merged wid u ok
  match t.write? wid with
  | some w => if w.state = .filling ∧ w.from_.isSome ∧ w.legs.isEmpty then t.becomeStaged w else t
  | none => t

/-- The read of a leg has ended, recovered or not. A read for the partner that fails is decoded soft where the request asks for
it, and is answered otherwise (R221, R222). A merge read that fails is decoded soft; while its die cannot be read it waits, and
a part that no soft decode recovers is unreadable (notes/assumptions/106.md). -/
def State.legEnds (s : State) (j : DecodeJob) (g : Leg) (ok : Bool) : State :=
  match j with
  | .unit c u _ => s.unitLegEnds c u j g ok
  | .served tag =>
    if ok then s.answerAround tag 0
    else if ¬ s.dieUsable g.lane then s.answerAround tag (if s.prx.lost.contains (g.lane / 16) then 3 else 2)
    else if (s.rdp.serving.any fun v => v.req.tag == tag && v.req.soft) ∧ ¬ g.soft then s.softLeg j 0
    else s.answerAround tag 2
  | .merge wid u =>
    if ok then s.partRead wid u true
    else if ¬ s.dieUsable g.lane then s.setLeg j fun h => { h with at_ := .wait, reads := 0 }
    else if g.soft then s.partRead wid u false
    else s.softLeg j 0
  | .sample _ _ => s

/-- The page read of a leg has ended: its data waits for the channel bus; in Park, which has no slots, for its decode. A soft
pass makes three reads (R232). -/
def State.readEnds (s : State) (j : DecodeJob) (pass : Bool) : State :=
  match s.leg? j with
  | none => s
  | some g =>
    if g.at_ ≠ .reading then s
    else if pass then
      let n := g.reads + 1
      let next : LegAt := if s.inRun then .bus else if g.soft ∧ n < 3 then .wait else .decoding
      s.setLeg j fun h => { h with at_ := next, reads := n }
    else s.legEnds j g false

/-- The data of a leg has crossed its channel bus: to the next read of a soft pass, or to wait for its decode. -/
def State.busEnds (s : State) (j : DecodeJob) : State :=
  match s.leg? j with
  | none => s
  | some g =>
    if g.at_ ≠ .bus then s
    else if g.soft ∧ g.reads < 3 then
      let t := s.setLeg j fun h => { h with at_ := .wait, since := s.cell }
      match j with
      | .unit c _ _ => t.admitRead c j
      | _ => t
    else s.setLeg j fun h => { h with at_ := .queued }

/-- A leg's decode may end: it runs, or, in Park, it waits for no slot (R229). -/
def State.decodes (s : State) (g : Leg) (soft : Bool) : Bool :=
  g.soft == soft && (g.at_ == .decoding || (!s.inRun && (g.at_ == .bus || g.at_ == .queued) && (!soft || g.reads == 3)))

/-- A decode whose read nothing waits for ends: its results count toward the media statistics (R244). -/
def State.orphanDecoded (s : State) (j : DecodeJob) (corrected : Nat) (r : Option DecodeResult) : State :=
  match s.rdp.orphans.find? fun p => p.1 == j && p.2.soft == r.isNone with
  | none => s
  | some p =>
    let t := State.decodeNoted { s with rdp := { s.rdp with orphans := s.rdp.orphans.erase p } } p.2 corrected
    match r with
    | some q => if q = .ok then t else t.hardFailed q
    | none => t

/-- A hard decode ends (R229, R230). -/
def State.hardDecoded (s : State) (j : DecodeJob) (corrected : Nat) (r : DecodeResult) : State :=
  match s.leg? j with
  | none => s.orphanDecoded j corrected (some r)
  | some g =>
    if s.decodes g false then
      let t := s.decodeNoted g corrected
      if r = .ok then t.legEnds j g true else (t.hardFailed r).legEnds j g false
    else s.orphanDecoded j corrected (some r)

/-- Passes of a soft decode: 0 acts as 1 (Table 6-7). -/
def State.softPasses (s : State) : Nat := max 1 (s.field Reg.rdpSoftCtl 0 3)

/-- A pass of a soft decode ends (R230, R232). -/
def State.softPass (s : State) (j : DecodeJob) (corrected : Nat) (recovered : Bool) : State :=
  match s.leg? j with
  | none => s.orphanDecoded j corrected none
  | some g =>
    if s.decodes g true then
      let t := s.decodeNoted g corrected
      if recovered then t.legEnds j g true
      else if t.softPasses ≤ g.passes + 1 then t.legEnds j g false
      else t.softLeg j (g.passes + 1)
    else s.orphanDecoded j corrected none

/-! ## What tears reads down (Table 6-6) -/

/-- Discards commands without a completion: their around-reads and staging holds go with them (R244, R370). Their
admissions are released at the next frame edge (Table 10-9); die reads already issued end without an effect, and decodes in
progress count toward the media statistics alone. -/
def State.dropCmds (s : State) (p : Cmd → Bool) : State :=
  let gone := s.cmds.filter p
  let ids := gone.map (·.id)
  let t := gone.foldl (fun t x => t.endReads x) s
  let t : State := { t with prx := { t.prx with adms := s.prx.adms } }
  let t := t.discardFilling fun w => w.cmd.any (ids.contains ·)
  let orphan (w : SWrite) : SWrite := if w.cmd.any (ids.contains ·) then { w with cmd := none } else w
  let t : State := { t with wrp := { t.wrp with writes := t.wrp.writes.map orphan } }
  { t.dropIntern fun e => e.cmd.any (ids.contains ·) with
           cmds := t.cmds.filter fun x => !p x,
           rdp := { t.rdp with abandoned := t.rdp.abandoned ++ (t.rdp.sent.filter (ids.contains ·.cmd)).map (·.tag),
                               sent := t.rdp.sent.filter fun a => !ids.contains a.cmd } }

/-! ## Meanings -/

def execAreadReqRx (r : AreadReq) (s : State) : Result := .next (s.whenLive fun t => (t.took 2 0).areadReq r)
def execAroundTmo (tag : Nat) (s : State) : Result := .next (s.whenLive (·.aroundTimeout tag))

end Sys2Proof.Machine
end

