-- ==== Sys2Proof/Machine/Care.lean ====
section
/-! DEFINITION. Media care (chapter 8): free space and GC debt (R293 to R299), the order of work on a die (Table 8-1),
wear levelling, scrub, refresh and retirement (R300 to R310), calibration (R312), self-tests (R314 to R318), and the life
forecast (R319 to R323). -/
namespace Sys2Proof.Machine

/-! ## Free space and debt -/

/-- The up dies: populated, on an up channel and not lost. -/
def State.upLanes (s : State) : List Nat := s.popLanes.filter s.dieUsable

/-- GC debt (R297): the sum over all up dies of TARGET minus free blocks where that is positive. -/
def State.gcDebt (s : State) : Nat := (s.upLanes.map fun l => s.gcLimits.2.1 - s.freeBlocks l).sum

/-- SOFT and HARD; a HARD below SOFT acts as SOFT, but a HARD of 0 keeps stage 2 in force (R298). -/
def State.gcSoft (s : State) : Nat := s.field Reg.mcrGcLimit 0 16
def State.gcHard (s : State) : Nat :=
  let h := s.field Reg.mcrGcLimit 16 16
  if h = 0 then 0 else max s.gcSoft h

/-- The stage of Table 8-2 that follows stage `st` at a debt. -/
def gcStage (st debt soft hard : Nat) : Nat :=
  if hard ≤ debt then 2
  else if st = 2 then (if debt < soft then (if debt < soft / 2 then 0 else 1) else 2)
  else if soft ≤ debt then 1
  else if st = 1 then (if debt < soft / 2 then 0 else 1)
  else 0

/-- Re-evaluates the debt and its stage (R298). -/
def State.gcReview (s : State) : State :=
  let debt := s.gcDebt
  let st := gcStage s.mcr.stage debt s.gcSoft s.gcHard
  let t := s.setNum Reg.mcrGcDebt (min 8191 debt)
  let entered := st = 2 ∧ s.mcr.stage ≠ 2
  let left := st ≠ 2 ∧ s.mcr.stage = 2
  let t : State := { t with mcr := { t.mcr with stage := st, entered := (t.mcr.entered || decide entered) && !decide left,
                                                left := (t.mcr.left || decide left) && !decide entered } }
  let t := (t.setBit Reg.mcrStatus 0 (decide (1 ≤ st))).setBit Reg.mcrStatus 1 (decide (st = 2))
  if entered then ((t.raiseLog .mcr Reg.mcrEvent 0).raise Reg.prxEvent 7).asyncEvent 0 7 0 0xC3 else t

/-- The GC factor at a frame edge (R299). In Park it is 65,536, and the first edge in Run takes a stage 2 in force as newly
entered (notes/assumptions/96.md). -/
def State.gcFactorEdge (s : State) : State :=
  if ¬ s.inRun then
    State.setNum { s with mcr := { s.mcr with entered := s.mcr.entered || s.mcr.stage == 2 } } Reg.mcrGcFactor 65536
  else if s.mcr.stage = 2 then
    if s.mcr.entered then
      let wa := s.field Reg.mcrWaMeas 0 16
      let asm := let a := s.field Reg.mcrWaAssumed 0 16; if a = 0 then 0x0100 else a
      let f := if wa = 0 then 57344 else max 8192 (min 57344 (65536 * asm / wa))
      State.setNum { s with mcr := { s.mcr with entered := false, baseAt := some s.frame, baseline := s.gcDebt } } Reg.mcrGcFactor f
    else s
  else if s.mcr.left then
    ((State.setNum { s with mcr := { s.mcr with left := false, baseAt := none } } Reg.mcrGcFactor 65536).raise Reg.mcrEvent 1)
  else s

/-- The comparison with the baseline every 1,000 frames after it (R299 step 2). -/
def State.gcFactorReview (s : State) : State :=
  match s.mcr.baseAt with
  | some f =>
    if s.mcr.stage = 2 ∧ s.inRun ∧ f + 1000 ≤ s.frame then
      let debt := s.gcDebt
      let g := s.gcFactor
      let t : State := { s with mcr := { s.mcr with baseAt := some (f + 1000), baseline := debt } }
      if s.mcr.baseline ≤ debt then t.setNum Reg.mcrGcFactor (max 8192 (g - 8192)) else t
    else s
  | none => s

/-- MCR_WA_MEAS over the last 60,000 frames (R297). -/
def State.waMeasure (s : State) : State :=
  let w := s.mcr.window.filter fun x => s.frame ≤ x.1 + 60000
  let p := (w.map (·.2.1)).sum
  let g := (w.map (·.2.2)).sum
  let v := if g = 0 then 0x0100 else min 0xFFFF (p * 256 / g)
  State.setField { s with mcr := { s.mcr with window := w } } Reg.mcrWaMeas 0 16 v

/-! ## Holding own host writes (R251, R296, R298) -/

/-- The units a write-like command stages: its own range, or those it writes zeros to (R258). -/
def Cmd.fillUnits (x : Cmd) : List Nat :=
  if x.op = 0x01 ∨ x.op = 0x19 then (List.range x.count).map (x.first + ·) else x.zeros

/-- A die of the write stands at or below FLOOR (R296). -/
def State.atFloor (s : State) (x : Cmd) : Bool :=
  (x.fillUnits.map (s.homeLane x.nsid)).any fun l => decide (s.freeBlocks l ≤ s.gcLimits.2.2) && s.dieUsable l

/-- The cap of GC debt holds a best-effort write in this frame (R298). -/
def State.overCap (s : State) (x : Cmd) : Bool :=
  1 ≤ s.mcr.stage && !x.bounded && s.mcr.beFrame == s.frame && s.mcr.beUnits != 0 &&
  decide (s.field Reg.mcrBeWriteCap 0 16 < s.mcr.beUnits + x.fillUnits.length)

/-- The 4 KiB units of a 512-byte namespace that a command covers in part: those at the ends of its ranges (R263). -/
def State.partUnits (s : State) (x : Cmd) : List Nat :=
  let per := (s.ns x.nsid).lbasPerUnit
  let rs := if x.op = 0x09 then x.ranges else [(x.lba, x.nlb)]
  ((rs.flatMap fun r => (if r.1 % per = 0 then [] else [r.1 / per]) ++
    (if (r.1 + r.2) % per = 0 then [] else [(r.1 + r.2) / per])).eraseDups).filter x.fillUnits.contains

/-- Lets a write's data be fetched: it stands in FILLING (R246). The data of a Write comes from the host in HOST_FETCH stages,
that of a Copy from its sources, and zeros from nowhere; every unit is then encrypted in a CIPHER stage (R248). A unit of a
512-byte namespace that is covered in part is merged with its sectors on media before it becomes STAGED; an unreadable one
stays so (R263). -/
def State.beginFill (s : State) (x : Cmd) : State :=
  let n := s.ns x.nsid
  let parts := s.partUnits x
  let w : SWrite := { wid := 0, origin := .own, cmd := some x.id, fn := x.id.fn, nsid := x.nsid, units := x.fillUnits,
                      state := .filling, bounded := x.bounded,
                      group := (s.prx.active.bind (·.tenant? x.id.fn)).map (·.group), paired := n.paired,
                      legs := parts.filterMap fun u => match s.resolve x.nsid u with
                        | .media l => some (u, { loc := l, since := s.cell })
                        | _ => none,
                      bad := parts.filter fun u => s.resolve x.nsid u == .unreadable }
  let wid := s.wrp.nextWid
  let k := x.fillUnits.length
  let t := (s.addWrite w).updCmd x.id fun y =>
    { y with held := false, filling := true, wids := y.wids ++ [wid], toFetch := if x.op = 0x01 then k else 0,
             toEnc := if x.op = 0x01 then 0 else k }
  if 1 ≤ s.mcr.stage ∧ ¬ x.bounded then
    let n := x.fillUnits.length
    if t.mcr.beFrame = t.frame then { t with mcr := { t.mcr with beUnits := t.mcr.beUnits + n } }
    else { t with mcr := { t.mcr with beFrame := t.frame, beUnits := n } }
  else t

/-- Fetches a write's data now, or holds it with the count its reason has (R251, R296, R298). A bounded write held for
staging meets the GC_DEBT event while the garbage-collection factor is below 1, and otherwise CAPACITY (R252). -/
def State.tryFill (s : State) (x : Cmd) : State :=
  if s.ownFree < x.fillUnits.length then
    let t := if x.waited then s else s.inc Reg.wrpStageWaitCnt
    let t := t.updCmd x.id fun y =>
      { (if y.bounded && !y.waited then y.meet (if s.gcFactor < 65536 then 9 else 6) else y) with held := true, waited := true }
    (t.when (!t.bit Reg.wrpStatus 1) (·.raise Reg.wrpEvent 2)).setBit Reg.wrpStatus 1 true
  else if s.atFloor x then s.updCmd x.id fun y => { y with held := true }
  else if s.overCap x then
    (if x.throttled then s else s.inc Reg.mcrBeThrottleCnt).updCmd x.id fun y => { y with held := true, throttled := true }
  else s.beginFill x

/-- Tries every held write again, in order; STAGING_FULL shows whether one still waits for staging (R251). -/
def State.retryHeld (s : State) : State :=
  let held := s.cmds.filter fun x => x.held && x.status.isNone && !x.admin
  let t := held.foldl (fun t x => t.tryFill x) s
  t.setBit Reg.wrpStatus 1 (t.cmds.any fun x => x.held && x.status.isNone && !x.admin && decide (t.ownFree < x.fillUnits.length))

/-! ## Moving data (R294, R295, R301) -/

/-- The indirection units that lie in a block: namespace, index and location of the first part. -/
def State.unitsIn (s : State) (lane block : Nat) : List (Nat × Nat × Nat) :=
  s.wrp.map.entries.filterMap fun e =>
    let nsid := e.1 / 2 ^ 36
    let loc := entryLoc (s.ns nsid) e.2 0
    if entryState e.2 = 0 ∧ locLane loc = lane ∧ s.locBlock loc = block then some (nsid, e.1 % 2 ^ 36, loc) else none

/-- Units of a block that are already on their way to a new place. -/
def State.movingFrom (s : State) (lane block : Nat) : List Nat :=
  s.wrp.writes.filterMap fun w => match w.from_ with
    | some f => if locLane f = lane ∧ s.locBlock f = block then some f else none
    | none => none

/-- Blocks to be retired whose data has moved leave service (R307). -/
def State.retireReady (s : State) (lane : Nat) : State :=
  let empty := (s.die lane).blocks.filter fun b => b.retiring && b.state == .closed && b.valid == 0 && (s.movingFrom lane b.num).isEmpty
  empty.foldl (fun t b => t.retireNow lane b.num) s

/-- Moves the next indirection unit of a block through staging, into which its parts go once they are decoded (R295). -/
def State.moveNext (s : State) (lane block rank : Nat) : State :=
  let busy := s.movingFrom lane block
  match (s.unitsIn lane block).find? fun u => !busy.contains u.2.2 with
  | none => s
  | some (nsid, iu, loc) =>
    let n := s.ns nsid
    if s.ownFree < n.parts then s
    else
      let w : SWrite := { wid := 0, origin := .gc, nsid := nsid, units := (List.range n.parts).map (iu * n.parts + ·),
                          state := .filling, from_ := some loc, rank := rank,
                          legs := (List.range n.parts).map fun k =>
                            (iu * n.parts + k, { loc := loc + k, at_ := .bus, reads := 1, since := s.cell, levels := (s.die lane).levels }) }
      (s.when (rank == 2 || rank == 5) (·.inc Reg.mcrGcUnitCnt n.parts)).addWrite w

/-- The garbage-collection victim of a die (R294): the closed, unclaimed block with the highest score
(1 − u) × a / (1 + u), ties to the lowest number. Scores are compared as fractions. -/
def State.victim (s : State) (lane : Nat) : Option Blk :=
  let total := (s.mch.profile.map (·.blockUnits)).getD 1
  let score (b : Blk) : Nat × Nat := ((total - b.valid) * (s.frame - b.closedAt), total + b.valid)
  let ok := (s.die lane).blocks.filter fun b => b.state == .closed && b.claimed == 0 && !b.retiring && decide (b.valid < total)
  ok.foldl (fun (best : Option Blk) b =>
    match best with
    | none => some b
    | some c =>
      let x := score b
      let y := score c
      if y.1 * x.2 < x.1 * y.2 ∨ (x.1 * y.2 = y.1 * x.2 ∧ b.num < c.num) then some b else best) none

/-- The closed block wear levelling would move (R301): the lowest count, where counts differ by more than MCR_WL_DELTA
and the last move on the die lies 1,000 frames back. -/
def State.wearBlock (s : State) (lane : Nat) : Option Blk :=
  let d := s.die lane
  let live := d.blocks.filter fun b => b.state != .bad && b.state != .retired
  let hi := (live.map (·.ec)).foldl max 0
  let lo := if live.length < s.blocksPerDie then 0 else (live.map (·.ec)).foldl min hi
  if s.bit Reg.mcrCtl 3 ∧ s.field Reg.mcrWlDelta 0 16 < hi - lo ∧ d.lastWl.all (· + 1000 ≤ s.frame) then
    (live.filter fun b => b.state == .closed && b.claimed == 0 && b.valid != 0).foldl (fun (best : Option Blk) b =>
      match best with
      | none => some b
      | some c => if b.ec < c.ec then some b else best) none
  else none

/-- MCR_SCRUB_PERIOD in frames; 0 acts as 1 hour (Table 8-7). -/
def State.scrubFrames (s : State) : Nat := max 1 (s.field Reg.mcrScrubPeriod 0 16) * 3600000

/-- The pass of a die is complete, and the next one is not due yet (R302). -/
def State.scrubOver (s : State) (lane : Nat) : Bool :=
  (s.die lane).scrubDone && decide (s.frame < (s.die lane).scrubFrom + s.scrubFrames)

/-- A die begins its next pass when the period of a complete one has passed (R302). -/
def State.scrubRoll (s : State) (lane : Nat) : State :=
  if (s.die lane).scrubDone ∧ ¬ s.scrubOver lane then
    s.updDie lane fun d => { d with scrubFrom := d.scrubFrom + s.scrubFrames, scrubDone := false,
                                    blocks := d.blocks.map fun b => { b with scrubbed := false } }
  else s

/-- The work that a die's background capacity goes to, by the ranks of Table 8-1 (R291): rank and block. A block already
claimed is finished first at its rank (R292). -/
def State.careChoice (s : State) (lane : Nat) : Option (Nat × Nat) :=
  let d := s.die lane
  let free := s.freeBlocks lane
  let (start, target, floor) := s.gcLimits
  let moving (b : Blk) : Bool := b.valid != 0 && (s.unitsIn lane b.num).any fun u => !(s.movingFrom lane b.num).contains u.2.2
  let claimed (k : Nat) : Option (Nat × Nat) := (d.blocks.find? fun b => b.claimed == k && !b.retiring && moving b).map fun b => (k, b.num)
  let rank (k : Nat) : Option (Nat × Nat) :=
    if k = 1 then (d.blocks.find? fun b => b.retiring && b.state != .retired && moving b).map fun b => (1, b.num)
    else if k = 2 ∨ k = 5 then
      match claimed k with
      | some c => some c
      | none =>
        if (if k = 2 then free ≤ target else target < free ∧ free < start) ∧ (s.bit Reg.mcrCtl 0 ∨ free ≤ floor) then
          (s.victim lane).map fun b => (k, b.num)
        else none
    else if k = 3 ∨ k = 4 then
      match claimed k with
      | some c => some c
      | none =>
        if s.bit Reg.mcrCtl 2 then
          (d.blocks.find? fun b => b.refresh == k && b.state == .closed && b.claimed == 0 && !b.retiring).map fun b => (k, b.num)
        else none
    else if k = 8 then
      (d.blocks.find? fun b => b.state == .closed && !b.awaits && (b.sample == 2 ||
        (s.bit Reg.mcrCtl 1 && !b.scrubbed && !s.scrubOver lane))).map fun b => (8, b.num)
    else if k = 10 then (d.blocks.find? fun b => b.state == .closed && !b.awaits && b.sample == 1).map fun b => (10, b.num)
    else if k = 9 then
      match claimed 9 with
      | some c => some c
      | none => (s.wearBlock lane).map fun b => (9, b.num)
    else none
  [1, 2, 3, 4, 5, 8, 9, 10].findSome? rank

/-- A read that targets a block waits for its die or runs there (Table 6-6). -/
def State.blockRead (s : State) (lane block : Nat) : Bool :=
  s.allJobs.any fun p => p.2.lane == lane && (p.2.at_ == .wait || p.2.at_ == .reading) && s.locBlock p.2.loc == block

/-- A block whose data has all moved and that now waits for its erase (R295, R302), while no read targets it (Table 6-6). -/
def State.eraseChoice (s : State) (lane : Nat) : Option Nat :=
  ((s.die lane).blocks.find? fun b => b.claimed != 0 && b.valid == 0 && !b.retiring && b.state == .closed &&
    (s.movingFrom lane b.num).isEmpty && !s.blockRead lane b.num).map (·.num)

/-- A dump set of a die that is to be erased: neither erased nor holding an unconsumed dump (R282). -/
def State.dumpChoice (s : State) (lane : Nat) : Option Bool :=
  let d := s.die lane
  if !d.erasedA && !d.dumpA then some false else if !d.erasedB && !d.dumpB then some true else none

/-- Claims the block a care choice names (R292), and notes a wear-levelling move (R301). -/
def State.claim (s : State) (lane rank block : Nat) : State :=
  if rank = 8 ∨ rank = 10 ∨ rank = 1 then s
  else
    let fresh := ((s.die lane).block block).claimed == 0
    let t := s.updBlock lane block fun b => { b with claimed := if b.claimed = 0 then rank else b.claimed }
    if rank = 9 ∧ fresh then
      -- its data goes to the free block with the highest count, so that the block open for moved data is closed
      (t.updDie lane fun d =>
        let y := match d.openMove with
          | some o => d.updBlock o.1 fun b => { b with state := .closed, closedAt := s.frame }
          | none => d
        { y with lastWl := some s.frame, openMove := none }).inc Reg.mcrWlMoveCnt
    else t

/-- Starts media-care work on a die in background capacity that ends at a tick (R290, R291). -/
def State.startCare (s₀ : State) (lane slotEnd : Nat) (endTick : Nat) : State :=
  let s := (s₀.scrubRoll lane).retireReady lane
  match s.careChoice lane with
  | some (rank, block) =>
    -- a sample is SAMPLE_PAGES page reads, one after the other
    let n := if rank = 8 ∨ rank = 10 then max 1 ((s.mch.profile.map (·.samplePages)).getD 1) else 1
    if s.now + n * s.worstOf 1 ≤ endTick then
      let loc := lane * 2 ^ 27 + block * (s.mch.profile.map (·.blockUnits)).getD 1
      let t := ((s.claim lane rank block).startRead lane loc 0 (.care rank block) slotEnd).inc Reg.rdpMediaReadCnt (n - 1)
      let t := t.updBlock lane block fun b => { b with reads := b.reads + (n - 1) }
      let long (op : DieOp) : DieOp := { op with worst := n * op.worst }
      t.updDie lane fun d => { d with run := d.run.map long }
    else s
  | none => s

/-- Starts an erase that waits (R86, R295), or the erase of a dump set (R282) where `dump` says so. -/
def State.startErase (s : State) (lane slotEnd : Nat) (dump : Bool) : State :=
  if dump then
    match s.dumpChoice lane with
    | some b => s.startDie lane 3 (.dumpErase b) slotEnd
    | none => s
  else
    match s.eraseChoice lane with
    | some n => s.startDie lane 3 (.erase n) slotEnd
    | none => s

/-- In Park, reads of merges and for the partner, destaging, media care and dump-area upkeep run without a schedule
(Table 1-8): an idle die takes its next work. -/
def State.parkLane (s : State) (lane : Nat) : State :=
  if s.inRun ∨ ¬ s.dieUsable lane ∨ (s.die lane).run.isSome ∨ (s.die lane).susp.isSome then s
  else
    match s.allJobs.find? fun p => p.2.lane == lane && p.2.at_ == .wait with
    | some p => s.startLeg p.1 0
    | none =>
      match s.wrp.progs.find? fun p => p.lane == lane && !p.started && s.journalRoom p && s.placeable p with
      | some p => s.startProgram p 0
      | none =>
        if s.journalDue then s.startJournal lane 0
        else if s.ckptDue then s.startCkpt lane 0
        else if (s.eraseChoice lane).isSome then s.startErase lane 0 false
        else if (s.dumpChoice lane).isSome then s.startErase lane 0 true
        else s.startCare lane 0 (s.now + ((s.mch.profile.map (·.samplePages)).getD 1 + 1) * s.worstOf 1)

/-- The work of every idle die in Park. -/
def State.parkWork (s : State) : State := if s.inRun then s else s.upLanes.foldl (fun t l => t.parkLane l) s

/-! ## Ends of care operations -/

/-- An erase of a block ends (R295, R304, R307): counts rise, the age returns to 0; a failed erase retires the block. -/
def State.eraseDone (s : State) (lane block : Nat) (pass : Bool) : State :=
  let b := (s.die lane).block block
  if pass then
    let t := (s.forgetBlock lane block).updBlock lane block fun _ => { num := block, state := .free, ec := b.ec + 1 }
    let t := if b.claimed = 2 ∨ b.claimed = 5 then t.inc Reg.mcrGcBlockCnt
      else if b.claimed = 3 then t.inc Reg.mcrRefreshRdCnt
      else if b.claimed = 4 then t.inc Reg.mcrRefreshRetCnt else t
    t.gcReview.retryHeld
  else
    ((s.countErr .mcr Reg.mcrEraseFailCnt lane).retireBlock lane block).gcReview

/-- A dump set's erase ends (R282). -/
def State.dumpErased (s : State) (lane : Nat) (setB pass : Bool) : State :=
  if pass then
    ((s.updDie lane fun d => if setB then { d with erasedB := true } else { d with erasedA := true }).showReady).showHealth
  else s

/-- DISTURB_READS of a block's band. -/
def State.disturbReads (s : State) (lane block : Nat) : Nat :=
  let bands := (s.mch.profile.map (·.bands)).getD []
  ((bands[s.groupOf lane block / 16]?).map (·.disturbReads)).getD 0

/-- A block's read count that has reached DISTURB_READS has it sampled (R306). -/
def State.disturbCheck (s : State) (lane block : Nat) : State :=
  let b := (s.die lane).block block
  if b.state = .closed ∧ s.disturbReads lane block ≠ 0 ∧ s.disturbReads lane block ≤ b.reads ∧ b.sample ≠ 2 then
    s.updBlock lane block fun x => { x with sample := 2 }
  else s

/-- The pages of a sample have been read (R302, R306). -/
def State.sampleRead (s : State) (lane block : Nat) : State := s.updBlock lane block fun b => { b with awaits := true }

/-- SCRUB_LATE shows whether the last pass of some die was late (R303). -/
def State.showScrub (s : State) : State := s.setBit Reg.mcrStatus 2 (s.popLanes.any fun l => (s.die l).scrubLate)

/-- A die whose closed blocks have all been sampled has ended its pass: on time, or late, and then the next one begins (R302,
R303). -/
def State.passEnds (s : State) (lane : Nat) : State :=
  let d := s.die lane
  if d.scrubDone ∨ ¬ d.blocks.all fun x => x.state != .closed || x.scrubbed then s
  else if s.frame ≤ d.scrubFrom + s.scrubFrames then (s.updDie lane fun y => { y with scrubDone := true, scrubLate := false }).showScrub
  else s.updDie lane fun y => { y with scrubFrom := s.frame, blocks := y.blocks.map fun x => { x with scrubbed := false } }

/-- A sample of a block has been decoded, with the largest corrected-bit count of its codeword groups (R302, R306, R307): refresh
it, refresh and retire it, or reset its count. -/
def State.sampleDone (s : State) (lane block corrected : Nat) (r : DecodeResult) : State :=
  let b := (s.die lane).block block
  if b.state ≠ .closed ∨ ¬ b.awaits then s
  else
    let p := s.mch.profile.getD {}
    let t := (if r = .ok then s else s.hardFailed r).inc Reg.mcrScrubBlockCnt
    let t := t.updDie lane fun d =>
      { d with decodes := d.decodes + 1, corrSum := d.corrSum + corrected, rates := noteRate (s.groupOf lane block) false d.rates }
    let worn := p.refreshPct * p.corrLimit ≤ corrected * 100
    let t := t.updBlock lane block fun x => { x with sample := 0, awaits := false, scrubbed := true }
    let t := if r ≠ .ok then t.updBlock lane block fun x => { x with retiring := true }
      else if worn then t.updBlock lane block fun x => { x with refresh := if x.refresh = 0 then 3 else x.refresh }
      else if b.sample = 2 then t.updBlock lane block fun x => { x with reads := t.disturbReads lane block / 2 }
      else t
    t.passEnds lane

/-- DECODE_DONE: a hard decode of a codeword group ends (R229). -/
def State.decoded (s : State) (j : DecodeJob) (corrected : Nat) (r : DecodeResult) : State :=
  match j with
  | .sample lane block => s.sampleDone lane block corrected r
  | _ => s.hardDecoded j corrected r

/-- The scrub period of a die ends before its pass (R303); the pass goes on. -/
def State.scrubLate (s : State) (lane : Nat) : State :=
  let d := s.die lane
  if s.dieUsable lane ∧ ¬ d.scrubDone ∧ ¬ d.scrubLate ∧ d.scrubFrom + s.scrubFrames ≤ s.frame then
    ((s.updDie lane fun y => { y with scrubLate := true }).showScrub).raiseLog .mcr Reg.mcrEvent 2 lane
  else s

/-- Offsets moved at most one step toward the best ones found (R312). -/
def stepOffsets : List Int → List Int → List Int
  | [], _ => []
  | o :: os, [] => o :: os
  | o :: os, b :: bs => (if b < o then o - 1 else if o < b then o + 1 else o) :: stepOffsets os bs

/-- A BACKGROUND slot of a lane is in progress; in Park, which has no slots, any time serves (Table 1-8). -/
def State.inBackground (s : State) (lane : Nat) : Bool := !s.inRun || (s.slotNow lane).any (·.slot.kind == 6)

/-- The block that a calibration of a group reads: one of its closed blocks (R311, R312). -/
def State.calBlock (s : State) (lane group : Nat) : Option Nat :=
  ((s.die lane).blocks.find? fun b => b.state == .closed && s.groupOf lane b.num == group).map (·.num)

/-- A calibration of a group is due: its period has passed, or more than 1% of its last 1,000 hard decodes were rescued; its reads
take background capacity of rank 7 (R312, Table 8-1). -/
def State.calDue (s : State) (lane group : Nat) : Bool :=
  let d := s.die lane
  let rate := (lookupKey group d.rates).any fun r => decide (1000 ≤ r.1) && decide (10 < r.2.length)
  let old := (lookupKey group d.calAt).all fun f => decide (f + s.field Reg.mcrCalPeriod 0 24 * 1000 ≤ s.frame)
  s.bit Reg.mcrCtl 4 && s.dieUsable lane && (old || rate) && s.inBackground lane && d.run.isNone && (s.careChoice lane).all (7 < ·.1)

/-- A calibration of a block group: three page reads for each threshold, at its offset and one step either side, and the best
offset of each, at most a step away (R312). -/
def State.calibrate (s : State) (lane group : Nat) (best : List Int) : State :=
  match s.calBlock lane group with
  | none => s
  | some b =>
    if s.calDue lane group then
      let l := stepOffsets (s.levelsFor lane group) best
      let n := 3 * l.length
      let t := (s.inc Reg.rdpMediaReadCnt n).updBlock lane b fun x => { x with reads := x.reads + n }
      (((List.range n).foldl (fun t _ => t.emit (.die lane 1)) t).updDie lane fun d =>
        { d with offsets := insertKey group l (eraseKey group d.offsets), calAt := insertKey group s.frame (eraseKey group d.calAt),
                 rates := eraseKey group d.rates }).inc Reg.mcrCalCnt |>.disturbCheck lane b
    else s

/-! ## Self-tests (R314 to R316) -/

/-- MCR_TEST_STATUS with a state and reason (Table 8-7). -/
def State.testStatus (s : State) (state reason test failed : Nat) : State :=
  s.setNum Reg.mcrTestStatus (state + reason * 2 ^ 4 + test * 2 ^ 8 + failed % 65536 * 2 ^ 16)

/-- Notes which test runs, with TEST_BUSY (Table 8-9). -/
def State.runTest (s : State) (k : Option Nat) : State :=
  State.setBit { s with mcr := { s.mcr with testRun := k } } Reg.mcrStatus 3 k.isSome

/-- Starts or ends a test: running in state 1, over in every other. -/
def State.setTest (s : State) (state reason test failed : Nat) : State :=
  (s.testStatus state reason test failed).runTest (if state = 1 then some test else none)

/-- The start conditions of the hold-up test (R317 step 1). -/
def State.holdupReady (s : State) : Bool := s.bit Reg.wrpDumpStatus 0 && !s.wrp.dumped && s.senseOk

/-- Drives the hold-up test's GPIO (R317 step 2, Table 15-3). -/
def State.holdupGpio (s : State) (high : Bool) : State :=
  match s.pwr.desc with
  | some d => if d.holdupGpio = 0xFF then s else s.emit (.pin (.gpio d.holdupGpio) high)
  | none => s

/-- Begins a hold-up test. -/
def State.holdupStart (s : State) : State :=
  State.holdupGpio { s with mcr := { s.mcr with holdupRun := some (s.field Reg.wrpHoldupSense 0 12), holdupAt := some s.frame } } true

/-- The tests of Table 8-5. -/
def isTest (k : Nat) : Bool := (1 ≤ k && k ≤ 5) || (8 ≤ k && k ≤ 10)

/-- The dies of the test that runs: the one of DIE, or all (R314). -/
def State.testLanes (s : State) : List Nat := s.upLanes.filter fun l => s.mcr.testDie == 0x1FF || l == s.mcr.testDie

/-- A block of each block group of a die (R314). -/
def State.groupBlocks (s : State) (lane : Nat) : List Nat :=
  ((s.die lane).blocks.filter (·.state == .closed)).foldl (fun l b =>
    if l.any fun k => s.groupOf lane k == s.groupOf lane b.num then l else l ++ [b.num]) []

/-- Four spare blocks of a die, free ones (Table 8-5). -/
def State.spareBlocks (s : State) (lane : Nat) : List Nat :=
  let d := s.die lane
  let fresh := (List.range s.blocksPerDie).filter fun n => !(d.blocks.any (·.num == n)) && !Config.factoryBad lane n
  (((d.blocks.filter (·.state == .free)).map (·.num)) ++ fresh.take 4).take 4

/-- MEDIA_ERASE has erased four spare blocks of each of its dies twice; the first of them, as many as failed, are retired. DESIGN
CHOICE: which of them failed is not told (notes/assumptions/115.md). -/
def State.mediaErased (s : State) (failed : Nat) : State :=
  let bs := s.testLanes.flatMap fun l => (s.spareBlocks l).map fun b => (l, b)
  let t := bs.foldl (fun t b => t.updBlock b.1 b.2 fun x => { x with ec := x.ec + 2 }) s
  (bs.take failed).foldl (fun t b => t.retireNow b.1 b.2) t

/-- A write of MCR_TEST_CTL with START (R315): refused at the first case that applies, in the order listed. A TEST of no
row of Table 8-5 starts nothing. -/
def State.testStart (s : State) (v : Word) : State :=
  let k := wordField v 0 5
  let die := wordField v 16 9
  let refuse (r : Nat) : State := (s.testStatus 4 r k 0).raise Reg.mcrEvent 6
  if ¬ isTest k then s
  else if s.testRunning.isSome then refuse 2
  else if parkOnlyTest k ∧ s.inRun then refuse 1
  else if parkOnlyTest k ∧ s.bit Reg.prxStatus 5 then refuse 6
  else if k = 8 ∧ s.bit Reg.prxStatus 4 then refuse 3
  else if ¬ (s.populatedLane die ∨ die = 0x1FF) then refuse 4
  else if k = 5 ∧ ¬ s.holdupReady then refuse 5
  else
    let t := s.setTest 1 0 k 0
    let t : State := { t with mcr := { t.mcr with testDie := die, testPass := false } }
    if k = 5 then t.holdupStart
    else if k = 1 then
      (t.testLanes.foldl (fun t l => (t.groupBlocks l).foldl (fun t b => t.updBlock l b fun x =>
        { x with sample := if x.sample = 0 then 1 else x.sample }) t) t).parkWork
    else if k = 9 then t.domainReset Reg.pwrDomainSeen 10
    else t

/-- An arm that waited for a Park-only test is taken (R316). -/
def State.testEnded (s : State) : State :=
  if s.mcr.armDeferred then State.acceptArm { s with mcr := { s.mcr with armDeferred := false } } else s

/-- An online test is in a slot: MEDIA_SAMPLE reads pages, LINK_EYE has a BACKGROUND slot of a mirror lane (R314). -/
def State.testInSlot (s : State) (k : Nat) : Bool :=
  s.inRun &&
    (if k = 1 then s.popLanes.any fun l => (s.die l).run.any fun op => match op.work with | .care r _ => r == 10 | _ => false
     else if k = 4 then (List.range 712).any fun l => laneClass l == .mirror && s.inBackground l
     else false)

/-- An online test that is to stop does so outside its slot (R315). -/
def State.stopTest (s : State) : State :=
  match s.testRunning with
  | some k =>
    if ¬ s.mcr.aborting ∨ s.testInSlot k then s
    else
      let t : State := if k = 5 then State.holdupGpio { s with mcr := { s.mcr with holdupRun := none } } false else s
      let t := if k = 1 then t.testLanes.foldl (fun t l => t.updDie l fun d =>
          { d with blocks := d.blocks.map fun b => if b.sample = 1 then { b with sample := 0 } else b }) t else t
      ((State.setTest { t with mcr := { t.mcr with aborting := false } } 5 0 k 0).raise Reg.mcrEvent 6).testEnded
  | none => s

/-- MCR_TEST_CTL with ABORT: an online test stops at the end of its current slot (R315). -/
def State.testAbort (s : State) : State :=
  if s.testRunning.any (!parkOnlyTest ·) then State.stopTest { s with mcr := { s.mcr with aborting := true } } else s

/-- LINK_EYE stores each lane's margins (R514), which are measured: free values. -/
def State.eyesDone (s : State) : State :=
  (List.range 16).foldl (fun t l =>
    State.drawn { t with mlk := { t.mlk with eyes := t.mlk.eyes.set l (t.freeVal.toNat % 2 ^ 32) } }) s

/-- Every mirror lane has a BACKGROUND or IDLE slot in the cell in progress, so that LINK_EYE may margin in Run (R514). -/
def State.mirrorsIdle (s : State) : Bool :=
  (List.range 8).all fun m => (s.slotNow (704 + m)).any fun y => y.slot.kind == 6 || y.slot.kind == 0

/-- The lanes of which LINK_EYE has found a margin below 8 steps (R514). -/
def State.eyesFailed (s : State) : Nat :=
  ((List.range 16).filter fun l => (List.range 4).any fun k => decide (s.mlk.eyes.get l / 2 ^ (8 * k) % 256 < 8)).length

/-- A test is not at its end: samples of MEDIA_SAMPLE are still to be read or decoded, the pass of DRAM_PATROL or SRAM_SCRUB still
runs (R602), LINK_EYE may not margin, SRAM_BIST has
staging to destage, the hold-up test discharges (Table 8-5, R317, R514). -/
def State.testGoesOn (s : State) (k : Nat) : Bool :=
  if k = 1 then s.testLanes.any fun l => (s.die l).blocks.any (·.sample == 1)
  else if k = 8 then !s.wrp.writes.isEmpty
  else if k = 2 ∨ k = 3 then !s.mcr.testPass
  else if k = 4 then s.inRun && !s.mirrorsIdle
  else k == 5 && s.mcr.holdupRun.isSome

/-- A self-test ends with so many blocks or lanes failed (Table 8-7); the margins that LINK_EYE stores say which lanes of it
did. -/
def State.testDone (s : State) (failed : Nat) : State :=
  match s.testRunning with
  | some k =>
    if s.testGoesOn k then s else
    let t := if k = 10 then s.mediaErased failed else if k = 4 then s.eyesDone else s
    let failed := if k = 4 then t.eyesFailed else failed
    let t := State.setTest { t with mcr := { t.mcr with aborting := false } } (if failed = 0 then 2 else 3) 0 k failed
    let t := if failed = 0 then t else t.countErr .mcr Reg.mcrTestFailCnt k
    let t := if k = 4 then t.raise Reg.mlkEvent 15 else t
    (t.raise Reg.mcrEvent 6).testEnded
  | none => s

/-! ## Hold-up test (R317, R318) -/

/-- A hold-up test falls due: INTERVAL days after the last one or the claim, a day after a failure, an hour after a try that could
not start (R318). -/
def State.holdupDue (s : State) : State :=
  let wait := if s.mcr.holdupBad then 86400000 else s.field Reg.mcrHoldupTest 16 8 * 86400000
  if s.mcr.holdupRun.isSome ∨ ¬ (s.mcr.holdupEnd.orElse fun _ => s.mcr.claimedAt).any (· + wait ≤ s.frame) ∨
      s.mcr.holdupTry.any (s.frame < · + 3600000) then s
  else if s.testRunning.isNone ∧ s.holdupReady then
    State.holdupStart { s.setTest 1 0 5 0 with mcr := { (s.setTest 1 0 5 0).mcr with holdupTry := none } }
  else State.showHealth { s with mcr := { s.mcr with holdupTry := some s.frame } }

/-- The discharge may end (R317 step 4): a fall of DROP codes, HEALTHY + 64 codes reached, or 100 ms. -/
def State.discharged (s : State) (code timeUs endCode : Nat) : Bool :=
  decide (s.field Reg.mcrHoldupTest 0 12 ≤ code - endCode) || decide (endCode ≤ s.field Reg.wrpHoldupCtl 0 12 + 64) ||
    decide (100000 ≤ timeUs)

/-- The discharge ends (R317 steps 4 to 6): capacitance = load × time / voltage drop, in µF, with 0.25 mV per code and
HOLDUP_DIV (R640); end code 0 leaves the drop to the codes. A drop of no code gives no result. -/
def State.holdupEnd (s : State) (timeUs endCode : Nat) : State :=
  match s.mcr.holdupRun with
  | none => s
  | some code =>
    if ¬ s.discharged code timeUs endCode then s else
    let div := (s.pwr.desc.map (·.holdupDiv)).getD 0
    -- load [mA] × time [µs] / (codes × 0.25 mV × div / 256) = load × time × 1024 / (codes × div) [µF]
    let cap := s.field Reg.mcrHoldupLoad 0 16 * timeUs * 1024 / max 1 ((code - endCode) * div)
    let cap := min (2 ^ 24 - 1) cap
    let pass := decide (s.field Reg.mcrHoldupMin 0 24 ≤ cap)
    let t : State := { s with mcr := { s.mcr with holdupRun := none, holdupEnd := some s.frame, holdupBad := !pass,
                                                  holdups := ((s.frame, cap) :: s.mcr.holdups).take 6 } }
    let t := ((t.holdupGpio false).setNum Reg.mcrHoldupCap cap).setBit Reg.mcrStatus 6 (!pass)
    let t := if pass then t else t.raiseLog .mcr Reg.mcrEvent 7
    let t := if t.testRunning = some 5 then
        ((t.setTest (if pass then 2 else 3) 0 5 0).when (!pass) (·.countErr .mcr Reg.mcrTestFailCnt 5)).raise Reg.mcrEvent 6 else t
    t.showHealth

/-- A dump trigger ends a hold-up test: the GPIO is released and the previous result stands (R317). -/
def State.holdupCancel (s : State) : State :=
  if s.mcr.holdupRun.isSome then State.holdupGpio { s with mcr := { s.mcr with holdupRun := none } } false else s

/-! ## Daily points and the forecast (R319 to R323) -/

/-- The blocks of a die in service. -/
def Die.service (d : Die) : List Blk := d.blocks.filter fun b => b.state != .bad && b.state != .retired

/-- The mean erase count over the good blocks of a die, those never erased included, and the highest (R319). -/
def State.peAvg (s : State) (lane : Nat) : Nat :=
  let d := s.die lane
  let good := s.blocksPerDie - (d.blocks.length - d.service.length)
  (d.service.map (·.ec)).sum / max 1 good
def State.peMax (s : State) (lane : Nat) : Nat := ((s.die lane).service.map (·.ec)).foldl max 0

/-- The mean absolute difference, in steps, between the offsets in use and the initial ones (R319). -/
def State.calDrift (s : State) (lane : Nat) : Nat :=
  let diffs := (s.die lane).offsets.flatMap fun g =>
    List.zipWith (fun (a b : Int) => (a - b).natAbs) g.2
      (((s.mch.profile.bind fun p => p.bands[g.1 / 16]?).map (·.levelInit)).getD [])
  diffs.sum / max 1 diffs.length

/-- The daily point of a die; its decode and rescue figures start again (R319). -/
def State.dailyPoint (s : State) (lane : Nat) : State :=
  let p : DayPoint := { peAvg := s.peAvg lane, peMax := s.peMax lane,
                        meanCorr := (s.die lane).corrSum * 256 / max 1 (s.die lane).decodes,
                        rescuePpm := (s.die lane).rescues * 1000000 / max 1 (s.die lane).decodes,
                        calDrift := s.calDrift lane, spare := s.spareOf lane }
  s.updDie lane fun d => { d with days := (p :: d.days).take 180, decodes := 0, rescues := 0, corrSum := 0 }

/-- An exponentially weighted average with weight 1/30 of the daily increases, in 1/65,536, newest first (R321). -/
def ewma : List Nat → Nat
  | a :: b :: rest => ((a - b) * 65536 + 29 * ewma (b :: rest)) / 30
  | _ => 0

/-- The time of computation: TAI seconds, or seconds from frame 0 while no time of day is known (R323). -/
def State.seconds (s : State) : Nat := s.frame / 1000

/-- No date (R321). -/
abbrev noDate : Nat := 0xFFFFFFFFFFFFFFFF

/-- The halving of R320 for the last day's rescue rate and drift. -/
def halvings (p : DayPoint) : Nat := (if 1000 < p.rescuePpm then 2 else 1) * (if 8 < p.calDrift then 2 else 1)

/-- EOL_PE of a die with its bounds: the fit of R320, ENDURANCE_PE with fewer than 14 points; each remaining count
halved as R320 says. -/
def State.eolPe (s : State) (lane : Nat) : Nat × Nat × Nat :=
  let d := s.die lane
  let p := s.mch.profile.getD {}
  let avg := s.peAvg lane
  let fit := if d.days.length < 14 then (p.endurance, p.endurance, p.endurance)
    else Config.eolFit (d.days.map fun x => (x.peAvg, x.meanCorr)) p.corrLimit
  let h := (d.days.head?.map halvings).getD 1
  let cut (e : Nat) : Nat := avg + (e - avg) / h
  (cut fit.1, cut fit.2.1, cut fit.2.2)

/-- A date `remaining` counts away at a rate in 1/65,536 a day (R321). -/
def dateAt (now remaining rate : Nat) : Nat := if rate = 0 then noDate else now + remaining * 65536 * 86400 / rate

/-- The date at which a die's spare blocks run out (R321). -/
def State.spareDate (s : State) (lane : Nat) : Nat :=
  dateAt s.seconds (s.spareOf lane) (ewma (((s.die lane).days.map (·.spare)).map fun x => s.blocksPerDie - x))

/-- A die's EOL with its bounds (R321): the earlier of the wear and the spare date; a lost die's is the time it was
lost. -/
def State.dieEol (s : State) (lane : Nat) : Nat × Nat × Nat :=
  let d := s.die lane
  match d.lostAt with
  | some f => (f / 1000, f / 1000, f / 1000)
  | none =>
    let e := s.eolPe lane
    let avg := s.peAvg lane
    let rate := ewma (d.days.map (·.peAvg))
    let date (x : Nat) : Nat := min (s.spareDate lane) (dateAt s.seconds (x - avg) rate)
    (date e.1, date e.2.1, date e.2.2)

/-- The second at which the straight line through results, with the frames they were found at, reaches a limit: the line of least
squares (DEDUCED; notes/assumptions/114.md), rising or falling toward the limit; no date otherwise (R322). -/
def lineDate (results : List (Nat × Nat)) (limit : Nat) (rising : Bool) : Nat :=
  let pts : List (Int × Int) := results.map fun p => (Int.ofNat (p.1 / 1000), Int.ofNat p.2)
  let n : Int := Int.ofNat pts.length
  let sx := (pts.map (·.1)).sum
  let sy := (pts.map (·.2)).sum
  let num := n * (pts.map fun p => p.1 * p.2).sum - sx * sy
  let den := n * (pts.map fun p => p.1 * p.1).sum - sx * sx
  if den = 0 ∨ num = 0 ∨ (rising ↔ num < 0) then noDate
  else (((Int.ofNat limit * n - sy) * den / num + sx) / n).toNat

/-- The device's EOL and what limits it (R322): the earliest of the dies', the hold-up's and the ageing monitors' dates. It is
computed once a day, and after a retirement or a die loss (R323). The list holds time of computation, EOL, lower and
upper bound, limiting die and cause, hold-up date, ageing date and slowdown. -/
def State.forecast (s : State) (slowPpm : Nat) : State :=
  let daily := s.mcr.dayAt.all (· + 86400000 ≤ s.frame)
  if ¬ daily ∧ ¬ s.mcr.eolDue then s else
  let t := if daily then
      let u := s.popLanes.foldl (fun t l => t.dailyPoint l) s
      { u with mcr := { u.mcr with dayAt := some s.frame, slows := ((s.frame, slowPpm) :: u.mcr.slows).take 180 } }
    else s
  let t : State := { t with mcr := { t.mcr with eolDue := false } }
  let holdup := lineDate t.mcr.holdups (t.field Reg.mcrHoldupMin 0 24) false
  let ageing := lineDate t.mcr.slows 50000 true
  let best := t.popLanes.foldl (fun (b : Nat × Nat × Nat × Nat) l =>
    let e := t.dieEol l
    if e.1 < b.2.1 then (l, e.1, e.2.1, e.2.2) else b) (0xFFFF, noDate, noDate, noDate)
  let cause := if best.1 = 0xFFFF then 0 else if (t.die best.1).lostAt.isSome then 5
    else if t.spareDate best.1 = best.2.1 then 2 else 1
  let pick := if holdup < best.2.1 ∧ holdup ≤ ageing then [holdup, holdup, holdup, 0xFFFF, 3]
    else if ageing < best.2.1 then [ageing, ageing, ageing, 0xFFFF, 4]
    else [best.2.1, best.2.2.1, best.2.2.2, best.1, cause]
  State.raise { t with mcr := { t.mcr with eolDevice := t.seconds :: pick ++ [holdup, ageing, slowPpm] } } Reg.mcrEvent 8

/-! ## Meanings -/

/-- GC_FACTOR_REVIEW (R299). -/
def execGcFactorReview (s : State) : Result := .next (s.whenLive State.gcFactorReview)
def execScrubLate (lane : Nat) (s : State) : Result := .next (s.whenLive (·.scrubLate lane))
def execCalibrationDue (lane group : Nat) (best : List Int) (s : State) : Result :=
  .next (s.whenLive (·.calibrate lane group best))
def execMcrTestStart (by_ : Requester) (v : Word) (s : State) : Result := .next (s.byHost by_ Reg.mcrTestCtl (·.testStart v))
def execMcrTestAbort (by_ : Requester) (s : State) : Result := .next (s.byHost by_ Reg.mcrTestCtl State.testAbort)
def execTestDone (failed : Nat) (s : State) : Result := .next (s.whenLive (·.testDone failed))
def execHoldupTestDue (s : State) : Result := .next (s.whenLive State.holdupDue)
def execHoldupTestEnd (timeUs endCode : Nat) (s : State) : Result := .next (s.whenLive (·.holdupEnd timeUs endCode))
def execLifeForecast (slowPpm : Nat) (s : State) : Result := .next (s.whenLive (·.forecast slowPpm))

end Sys2Proof.Machine
end

