-- ==== Sys2Proof/Machine/Schedule.lean ====
section
/-! DEFINITION. What happens on lanes: stage admission (R125 to R127), the start and end of a slot (R86, R92, R128 to
R132, R652) with the work that each kind of slot takes (R84, R85, R87, R650), ends of die operations (R133, R193, R269), losses
of dies and channels (R202 to R204), temperatures (R200, R201, R304), and the write path's own events (R247, R268, R276, R277,
R280 to R283). -/
namespace Sys2Proof.Machine

/-! ## Admission of stages -/

/-- STAGE_ADMIT: a stage of a command that is due asks for a slot on an eligible lane (R125 to R127, R155, R159). -/
def State.stageAdmit (s : State) (c : CmdId) (k : StageKind) (lane units : Nat) : State :=
  match s.cmd? c with
  | some x =>
    if s.inRun ∧ ¬ x.admin ∧ x.status.isNone ∧ stageClassOk k (laneClass lane) ∧ ¬ s.laneVoid lane then
      match s.dueStage x k lane units with
      | some a =>
        let t := s.admitAt x a
        if t.prx.adms.length = s.prx.adms.length then t else t.updCmd c fun y => { y with admitted := true }
      | none => s
    else s
  | none => s

/-! ## Whether an operation fits -/

/-- The run of a program or erase on a MODE 2 lane (R197): whether `need` ticks of it, begun at a tick, end within slots of its
kind that only GATE slots separate, across no more gates than allowed. The list holds the slots of the cycle from the one in
progress on. -/
def runFits (kind resume : Nat) : Nat → Nat → Nat → List SlotAt → Bool
  | need, gates, at_, y :: rest =>
    if y.start * 2000 ≤ at_ ∧ y.slot.kind = kind then
      if need ≤ y.stop * 2000 - at_ then true
      else runFits kind resume (need - (y.stop * 2000 - at_)) gates (y.stop * 2000) rest
    else if y.start * 2000 = at_ ∧ y.slot.kind = 5 ∧ gates ≠ 0 then
      runFits kind resume (need + resume) (gates - 1) (y.stop * 2000) rest
    else false
  | _, _, _, [] => false

/-- The cell at which the run of a kind ends that the slots from the one in progress on begin (R197). -/
def runEnd (kind : Nat) : Nat → Nat → List SlotAt → Nat
  | last, at_, y :: rest =>
    if y.start ≤ at_ ∧ y.slot.kind = kind then runEnd kind y.stop y.stop rest
    else if y.start = at_ ∧ y.slot.kind = 5 then runEnd kind last y.stop rest
    else last
  | last, _, [] => last

/-- The slots of a lane from the one in progress to the end of the cycle. -/
def State.cycleRest (s : State) (lane : Nat) : List SlotAt :=
  ((s.prx.active.map fun i => i.cycleSlots s.variant lane s.frame).getD []).filter fun z => s.cell < z.stop

/-- The cell at which the slot of an operation ends for R131: that of its run for a program or erase on a MODE 2 lane (R197). -/
def State.opEnd (s : State) (lane : Nat) (y : SlotAt) : Nat :=
  if s.modeOf lane = 2 then runEnd y.slot.kind y.stop s.cell (s.cycleRest lane) else y.stop

/-- The worst-case end of a program or erase lies where R197, R198, R86 or R652 want it. An erase in an ERASE slot with SUSP may
be suspended at the slot's end, but not on a MODE 1 lane, which is never suspended (R198). -/
def State.longFits (s : State) (lane kind : Nat) (y : SlotAt) : Bool :=
  let susp := kind == 3 && y.slot.kind == 3 && y.slot.param % 2 == 1 && s.modeOf lane != 1
  susp ||
    (if s.modeOf lane = 2 then
      let max_ := ((s.mch.profile.map fun p => if kind = 2 then p.maxSuspProg else p.maxSuspErase)).getD 0
      runFits y.slot.kind (s.timing 7) (s.worstOf kind) max_ (s.cell * 2000 + s.ftb.tick % 2000) (s.cycleRest lane)
    else decide (s.now + s.worstOf kind ≤ s.slotTick y.stop))

/-- A lent IDLE slot that a program or erase may use (R650): on a MODE 0 lane within a program phase of its plain (R89, R267),
on a MODE 1 lane apart from the PROGRAM and ERASE slots, and the programs and erases, of the other members of its stripe set
(R91, R267). -/
def State.idleKeeps (s : State) (lane : Nat) (y : SlotAt) : Bool :=
  s.prx.active.any fun i =>
    let z : Slot := { y.slot with start := y.start % i.cycleCells, len := y.stop - y.start }
    if i.mode lane = 0 then (i.phase s.variant (i.plain lane)).any fun x => x.start ≤ z.start && z.start + z.len ≤ x.start + x.len
    else if i.mode lane = 1 then ((stripeSet (lane / 128) (lane % 16)).filter (· != lane)).all fun m =>
      !((i.progSlots s.variant m).any (·.meets z)) && !((s.die m).run.any (·.kind != 1)) && (s.die m).susp.isNone
    else true

/-- Whether a program begun now fits a slot: a PROGRAM slot that has not begun PARAM programs, or a lent IDLE slot, which
states no capacity (R650), within which the program ends. -/
def State.progRoom (s : State) (lane : Nat) (y : SlotAt) : Bool :=
  if y.slot.kind = 2 then decide (s.prx.progCount.get lane < y.slot.param) && s.longFits lane 2 y
  else decide (s.now + s.worstOf 2 ≤ s.slotTick y.stop) && s.idleKeeps lane y

/-- Whether a page read begun now fits a slot: READ and AROUND_SERVE slots carry PARAM reads, IDLE slots as many as fit. -/
def State.readRoom (s : State) (lane : Nat) (y : SlotAt) : Bool :=
  (y.slot.kind == 0 || decide (s.prx.serveCount.get lane < y.slot.param)) && s.readFits lane y

/-- A page read begins in a slot. -/
def State.countServe (s : State) (lane : Nat) : State :=
  { s with prx := { s.prx with serveCount := s.prx.serveCount.modify lane (· + 1) } }

/-! ## Lending -/

/-- Whether a slot in progress is lent (R87, R128, R129): lendable, with lending enabled, no bounded stage admitted to it, and
no DUMP_RESERVE slot. -/
def State.lentNow (s : State) (lane : Nat) (y : SlotAt) : Bool :=
  y.slot.lend && y.slot.kind != 12 && s.bit Reg.prxCtl 0 && s.prx.tookOwned.get lane != y.start + 1

/-- The place of a group in the rotation of a lent slot: its owner first, then the others from the participant after the one
last served on the lane (R129). -/
def State.turn (s : State) (lane : Nat) (y : SlotAt) (group : Nat) : Nat :=
  if group = y.slot.owner then 0 else 1 + (group + 257 - s.prx.rotation.get lane) % 257

/-- The participant last served in a lent slot. -/
def State.served (s : State) (lane group : Nat) : State :=
  { s with prx := { s.prx with rotation := s.prx.rotation.set lane (group + 1) } }

/-- The participant of the rotation an admission belongs to: its group, or 256 for commands without one (R129). -/
def State.participant (s : State) (a : Adm) : Nat := s.groupFn a.fn

/-- The best-effort admissions that a slot serves at its start, in the order of R129, by the units it has room for: those
of an unowned slot; of a slot lent whole, the owner's group first and then the others in rotation; of a partly taken
lendable slot, the owner's group alone (R128). A lendable slot that is not lent offers nothing. -/
def State.offered (s : State) (lane : Nat) (y : SlotAt) (be : List Adm) : List Adm :=
  if s.lentNow lane y then (List.range 258).flatMap fun k => be.filter fun a => s.turn lane y (s.participant a) == k
  else if y.slot.owner = 0xFFFF then be
  else if s.prx.tookOwned.get lane = y.start + 1 then be.filter (s.participant · == y.slot.owner)
  else []

/-- The admissions of a list that a capacity holds, in order; kinds that state no capacity hold them all (R650). -/
def takeUnits (cap : Nat) : List Adm → List Adm
  | [] => []
  | a :: rest => if a.units ≤ cap then a :: takeUnits (cap - a.units) rest else takeUnits cap rest

/-- The owned admissions that a slot holds, in order: of a HOST_FETCH or HOST_DELIVER slot those within their tenants' shares
first, and then the others while there is room (R146). -/
def State.ownedKept (s : State) (y : SlotAt) (owned : List Adm) : List Adm :=
  if y.slot.kind = 7 ∨ y.slot.kind = 8 then
    let kept := s.inShare y owned
    kept ++ takeUnits (y.slot.param - (kept.map (·.units)).sum) (owned.filter fun a => !kept.contains a)
  else owned

/-! ## Programs in a slot -/

/-- The participant of the rotation that a program unit belongs to: the group of the write in it that was staged first, 256
without one; background work comes after all of them (R129, R267). -/
def State.progTurn (s : State) (lane : Nat) (y : SlotAt) (p : ProgUnit) : Nat × Nat :=
  let hosts := (s.progWrites p).filter fun w => w.origin == .own
  let first := hosts.foldl (fun (b : Option SWrite) w =>
    match b with
    | none => some w
    | some c => if w.order < c.order then some w else b) none
  match first with
  | some w => let g := w.group.getD 256; (s.turn lane y g, g)
  | none => (258, 256)

/-- A program unit that is ready for its die: it has a place there (R296), is across the bus, not started, and formed before the slot began (R126). -/
def State.progReady (s : State) (lane : Nat) (y : SlotAt) (p : ProgUnit) : Bool :=
  s.placeable p && p.lane == lane && !p.started && decide (s.progUnits ≤ p.sent) && decide (p.since < y.start) && !s.isAdmitted (.prog p.pid)

/-- A unit of a bounded write for which no PROGRAM slot of its group starts within the lookahead takes unowned or lent capacity
as well (R159). -/
def State.noOwnedProg (s : State) (lane g : Nat) : Bool :=
  !((s.lookahead lane).any fun z => z.slot.kind == 2 && z.slot.owner == g)

/-- The program unit that a slot takes next (R129, R267): in owned PROGRAM capacity a unit of a bounded write of the group; in
unowned or lent capacity the others, in a lent slot in the order of the rotation. -/
def State.nextProg (s : State) (lane : Nat) (y : SlotAt) (lent : Bool) : Option (ProgUnit × Option Nat) :=
  let ready := s.wrp.progs.filter (s.progReady lane y)
  match ready.find? fun p => y.slot.kind == 2 && s.progGroup p == some y.slot.owner && s.journalRoom p with
  | some p => some (p, none)
  | none =>
    if y.slot.owner ≠ 0xFFFF ∧ ¬ lent then none
    else
      let free := ready.filter fun p => (s.progGroup p).all (s.noOwnedProg lane) && s.journalRoom p
      if lent then
        free.foldl (fun (b : Option (ProgUnit × Option Nat)) p =>
          match b with
          | some c => if (s.progTurn lane y p).1 < (s.progTurn lane y c.1).1 then some (p, some (s.progTurn lane y p).2) else b
          | none => some (p, some (s.progTurn lane y p).2)) none
      else free.head?.map fun p => (p, none)

/-- Starts the program unit, or the journal page or part of a checkpoint, that a PROGRAM slot or a lent IDLE slot may take (R267,
R275, R277, R650). In unowned capacity the map's own pages come first, in lent capacity after the groups' (R129). -/
def State.slotProgram (s : State) (lane : Nat) (y : SlotAt) (lent : Bool) : State :=
  if ¬ s.programmable lane ∨ (s.die lane).susp.isSome ∨ ¬ s.progRoom lane y then s
  else
    let t : State := { s with prx := { s.prx with progCount := s.prx.progCount.modify lane (· + 1) } }
    let pages := (y.slot.owner == 0xFFFF || lent) && (s.journalDue || s.ckptDue)
    let write (u : State) : State := if s.journalDue then u.startJournal lane (s.opEnd lane y) else u.startCkpt lane (s.opEnd lane y)
    if pages ∧ ¬ lent then write t
    else
      match s.nextProg lane y lent with
      | some (p, g) => (match g with | some k => t.served lane k | none => t).startProgram p (s.opEnd lane y)
      | none => if pages then write t else s

/-! ## Reads for the partner and for merges in a slot -/

/-- A request of the partner is served best-effort: it says so, or its soft decode runs (R220, R221, R232). -/
def Serve.best (v : Serve) : Bool := v.req.bestEffort || v.leg.soft

/-- The requests that wait for a die from before a cell on (R126). -/
def State.servesWaiting (s : State) (lane start : Nat) : List Serve :=
  s.rdp.serving.filter fun v => v.leg.lane == lane && v.leg.at_ == .wait && decide (v.leg.since < start) &&
    !s.isAdmitted (.read (.served v.req.tag))

/-- AROUND_SERVE capacity of the request's group lies within the lookahead for it, beyond what the requests of the group before
it take (R221). -/
def State.serveAhead (s : State) (lane : Nat) (v : Serve) : Bool :=
  let ahead := (s.rdp.serving.filter fun w => w.leg.lane == lane && w.leg.at_ == .wait && !w.best && w.req.group == v.req.group).takeWhile
    (·.req.tag != v.req.tag)
  decide (ahead.length < (((s.lookahead lane).filter fun z => z.slot.kind == 4 && z.slot.owner == v.req.group).map (·.slot.param)).sum)

/-- The request that a slot may serve (R85, R221): in an AROUND_SERVE slot of a group the group's; in an unowned one, and in a
lent READ, AROUND_SERVE or IDLE slot, the best-effort ones and those without owned capacity ahead. -/
def State.serveFits (s : State) (lane : Nat) (y : SlotAt) (lent : Bool) (v : Serve) : Bool :=
  if y.slot.kind = 4 ∧ y.slot.owner ≠ 0xFFFF ∧ ¬ v.best ∧ v.req.group = y.slot.owner then true
  else if (y.slot.kind = 4 ∧ y.slot.owner = 0xFFFF) ∨ (lent ∧ (y.slot.kind = 0 ∨ y.slot.kind = 1 ∨ y.slot.kind = 4)) then
    v.best || !s.serveAhead lane v
  else false

/-- Starts a read for the partner that a slot may take. -/
def State.slotServe (s : State) (lane : Nat) (y : SlotAt) (lent : Bool) : State :=
  if s.readRoom lane y then
    match (s.servesWaiting lane y.start).find? (s.serveFits lane y lent) with
    | some v => (s.countServe lane).startLeg (.served v.req.tag) y.stop
    | none => s
  else s

/-- Starts a merge read in unowned or lent READ capacity, or in a lent IDLE slot (R262, R263), or a further read of a unit being
moved in background capacity (R289). -/
def State.slotMerge (s : State) (lane : Nat) (y : SlotAt) (lent : Bool) : State :=
  let free := (y.slot.kind = 1 ∧ y.slot.owner = 0xFFFF) ∨ ((y.slot.kind = 0 ∨ y.slot.kind = 1) ∧ lent)
  let care := y.slot.kind = 6 ∨ ((y.slot.kind = 0 ∨ y.slot.kind = 1) ∧ lent)
  if s.readRoom lane y ∨ (y.slot.kind = 6 ∧ s.readFits lane y) then
    match (s.wrp.writes.flatMap fun w => w.legs.map fun p => (w, p)).find? fun q =>
        q.2.2.lane == lane && q.2.2.at_ == .wait && decide (q.2.2.since < y.start) &&
          (if q.1.from_.isSome then decide care else decide free) with
    | some q => (s.countServe lane).startLeg (.merge q.1.wid q.2.1) y.stop
    | none => s
  else s

/-! ## The operations of a die in a slot -/

/-- The program or erase that a slot's own kind starts (R85, R86, R267), also a program in a lent IDLE slot (R650). -/
def State.slotOwn (s : State) (lane : Nat) (y : SlotAt) (lent : Bool) : State :=
  if y.slot.kind = 2 ∨ (y.slot.kind = 0 ∧ lent) then s.slotProgram lane y lent
  else if y.slot.kind = 3 then (if (s.die lane).susp.isNone ∧ s.longFits lane 3 y then s.startErase lane (s.opEnd lane y) false else s)
  else if y.slot.kind = 12 then
    (if (s.die lane).susp.isNone ∧ s.now + s.worstOf 3 ≤ s.slotTick y.stop then s.startErase lane y.stop true else s)
  else s

/-- What a die does next if nothing has been started on it yet. -/
def State.orElseStart (s : State) (lane : Nat) (f : State → State) : State := if (s.die lane).run.isNone then f s else s

/-- A die left idle in a BACKGROUND slot, or in a lent READ or IDLE slot, takes up media care, whose operations are reads (R129,
R289, R650). -/
def State.idleCare (s : State) (lane : Nat) (y : SlotAt) (lent : Bool) : State :=
  if y.slot.kind = 6 ∨ (lent ∧ (y.slot.kind = 0 ∨ (y.slot.kind = 1 ∧ s.readRoom lane y))) then
    s.startCare lane y.stop (s.slotTick y.stop)
  else s

/-- A die left idle in a lent IDLE slot starts an erase that ends within it (R650). -/
def State.idleErase (s : State) (lane : Nat) (y : SlotAt) (lent : Bool) : State :=
  if y.slot.kind = 0 ∧ lent ∧ (s.die lane).susp.isNone ∧ s.now + s.worstOf 3 ≤ s.slotTick y.stop ∧ s.idleKeeps lane y then
    s.startErase lane y.stop false
  else s

/-- The admissions to a slot of a die whose operation has not begun, in the order the slot serves them. -/
def State.waitingAdms (s : State) (lane : Nat) (y : SlotAt) : List Adm :=
  s.prx.adms.filter fun a => a.lane == lane && a.start == y.start && !a.started

/-- An admitted operation starts on its die (R199, R264, R652); one that no longer fits its slot is admitted again (R132). -/
def State.startAdm (s : State) (a : Adm) (y : SlotAt) : State :=
  match a.work with
  | some (.read j) => if s.readFits a.lane y then ((s.endAdm a).countServe a.lane).startLeg j y.stop else s.readmit 2 a
  | some (.prog pid) =>
    match s.wrp.progs.find? (fun (p : ProgUnit) => p.pid == pid && !p.started) with
    | some p =>
      if s.programmable a.lane ∧ (s.die a.lane).susp.isNone ∧ s.progRoom a.lane y then
        State.startProgram { s.endAdm a with prx := { (s.endAdm a).prx with progCount := s.prx.progCount.modify a.lane (· + 1) } } p
          (s.opEnd a.lane y)
      else s.readmit 2 a
    | none => s.endAdm a
  | _ => s.endAdm a

/-- The next operation of a die in the slot in progress: admitted ones, then the work that the slot's kind and its lending give
(R85, R86, R129, R267, R289). A void lane starts nothing (R123), and neither does a slot that waits for its lane (R121, R132). -/
def State.startNext (s : State) (lane : Nat) : State :=
  match s.slotNow lane with
  | none => s
  | some y =>
    if (s.die lane).run.isSome ∨ s.laneVoid lane ∨ s.prx.lateSlots.contains (lane, y.start) then s
    else
      let t := (s.waitingAdms lane y).foldl (fun t a => t.orElseStart lane (·.startAdm a y)) s
      let lent := t.lentNow lane y
      ((((t.orElseStart lane (·.slotOwn lane y lent)).orElseStart lane (·.slotServe lane y lent)).orElseStart lane
        (·.slotMerge lane y lent)).orElseStart lane (·.idleCare lane y lent)).orElseStart lane (·.idleErase lane y lent)

/-! ## Stages on the other lanes -/

/-- The host link runs below x16 at 64 GT/s (R329, Table 4-6). -/
def State.linkSlow (s : State) : Bool :=
  s.bit Reg.hptStatus 9 && (decide (s.field Reg.hptStatus 0 3 < 6) || decide (s.field Reg.hptStatus 10 5 < 16))

/-- A Copy whose source units are all decrypted writes them through the write path (R243, Table 6-5). -/
def State.copySettle (s : State) : State :=
  (s.cmds.filter fun x => x.op == 0x19 && !x.admin && x.looked && x.status.isNone && !x.units.isEmpty &&
      x.units.all (unitDone 0x19)).foldl (fun t x => (t.updCmd x.id fun y => { y with units := [] }).tryFill { x with units := [] }) s

/-- The bytes of a 4 KiB unit that a command covers: where they begin in its data, and how many. -/
def State.unitBytes (s : State) (x : Cmd) (u : Nat) : Nat × Nat :=
  let n := s.ns x.nsid
  let b := if n.lba512 then 512 else 4096
  let head := x.lba % n.lbasPerUnit * b
  let lo := (u - x.first) * 4096 - head
  (lo, min (x.nlb * b) ((u - x.first + 1) * 4096 - head) - lo)

/-- The page of the host's memory in which a command's data begins has a translation, or needs none (R351). -/
def State.translated (s : State) (x : Cmd) : Bool := s.xlatOk x.id.fn x.page

/-- A command waits for a translation of its data's address, which the device asks for (R351, R353). -/
def State.awaitXlat (s : State) (x : Cmd) : State :=
  if x.xlat then s else ((s.updCmd x.id fun y => { y with xlat := true }).meet x.id 7).askXlat x.id.fn x.page

/-- A stage that moves a command's data finds the host reachable: DMA allowed, and the address translated (R244, R351). -/
def State.hostReady (s : State) (x : Cmd) : Bool := s.dmaOk x.id.fn && s.translated x

/-- The key slot's tweaks of a unit: its logical blocks (R239, R451). -/
def State.cipherOut (s : State) (enc : Bool) (nsid u : Nat) : Out :=
  .cipher enc nsid (s.unitLba nsid u) (s.ns nsid).lbasPerUnit

/-- A CIPHER stage decrypts recovered units and lets their staging go (R209, R239), and encrypts units of host data (R248). -/
def State.cipherStage (s : State) (c : CmdId) (units : Nat) : State :=
  match s.cmd? c with
  | none => s
  | some x =>
    let us := (x.units.filter (·.phase == .recovered)).take (max 1 units)
    let t := us.foldl (fun t r => ((t.setPhase c r.unit .plain).emit (s.cipherOut false x.nsid r.unit)).letGo c r)
      (s.inc Reg.tcyDecCnt us.length)
    let n := min (max 1 units - us.length) x.toEnc
    let done := x.fillUnits.length - x.toFetch - x.toEnc - ((s.hpt.np.filter (·.kind == .data c)).map (·.part)).eraseDups.length
    let t := ((x.fillUnits.drop done).take n).foldl (fun t u => t.emit (s.cipherOut true x.nsid u)) (t.inc Reg.tcyEncCnt n)
    ((t.updCmd c fun y => { y with toEnc := y.toEnc - n }).readSettle c).copySettle

/-- A HOST_DELIVER stage delivers decrypted units, and zeros for unmapped ones, in memory writes of its own (R210, R240, R347,
R348). -/
def State.deliverStage (s : State) (c : CmdId) (units : Nat) : State :=
  match s.cmd? c with
  | none => s
  | some x =>
    let us := (x.units.filter (·.phase == .plain)).take (max 1 units)
    let s := if (s.fns.get c.fn).ats then s.inc Reg.hptAtcHitCnt us.length else s
    let s := if s.linkSlow then s.meet c 7 else s
    (us.foldl (fun t r =>
      let b := t.unitBytes x r.unit
      (t.writeTlps c.fn (x.prpOff + b.1) b.2 true r.zero).foldl (fun t o => t.toHost o) (t.setPhase c r.unit .issued)) s).readSettle c

/-- A HOST_FETCH stage asks the host for units of a command's PRP list or SGL segments, and after these of its data (R242,
R248, R348). A unit for which too few tags are free waits (R349). -/
def State.fetchStage (s : State) (c : CmdId) (units : Nat) : State :=
  (List.range (max 1 units)).foldl (fun t _ =>
    match t.cmd? c with
    | none => t
    | some x =>
      if x.lists ≠ 0 then
        let u := t.readHost c.fn (.list c) 0 4096 fun _ => 0
        if u.hpt.np.length = t.hpt.np.length then u else u.updCmd c fun y => { y with lists := y.lists - 1 }
      else if x.toFetch = 0 ∨ t.listing x then t
      else
        let k := x.count - x.toFetch
        let b := t.unitBytes x (x.first + k)
        let u := t.readHost c.fn (.data c) (x.prpOff + b.1) b.2 fun _ => k
        if u.hpt.np.length = t.hpt.np.length then u else u.updCmd c fun y => { y with toFetch := y.toFetch - 1 }) s

/-- A stage that has begun still holds its lane: data asked for has not arrived, a decode has not ended, or messages have not
left (R131, R488). -/
def State.stageRuns (s : State) (a : Adm) : Bool :=
  match s.cmd? a.cmd with
  | none => false
  | some x =>
    match a.kind with
    | .fetch => s.hpt.np.any fun r => r.kind == .data x.id || r.kind == .list x.id
    | .decode => x.jobs.any fun p => p.2.at_ == .decoding && p.2.soft == (laneClass a.lane == .softDec)
    | .mirror => s.unsent x
    | _ => false

/-- Marks an admission as begun: it holds its lane until its stage has ended. -/
def State.beginAdm (s : State) (a : Adm) : State :=
  { s with prx := { s.prx with adms := s.prx.adms.map fun b => if b == a then { b with started := true } else b } }

/-- The legs of a list go on, so many of them. -/
def State.moveLegs (s : State) (n : Nat) (p : Leg → Bool) (js : List (DecodeJob × Leg)) (f : State → DecodeJob → State) : State :=
  ((js.filter (p ·.2)).take n).foldl (fun t q => f t q.1) s

/-- A queued decode begins. -/
def State.beginDecode (s : State) (j : DecodeJob) : State := s.setLeg j fun g => { g with at_ := .decoding }

/-- Moves units of program data across a bus, for the program units of `p` in their order. -/
def State.sendProgs (s : State) (n : Nat) (p : ProgUnit → Bool) : State :=
  let step (acc : List ProgUnit × Nat) (q : ProgUnit) : List ProgUnit × Nat :=
    if q.started ∨ ¬ p q then (acc.1 ++ [q], acc.2)
    else
      let k := min acc.2 (s.progUnits - q.sent)
      (acc.1 ++ [{ q with sent := q.sent + k }], acc.2 - k)
  { s with wrp := { s.wrp with progs := (s.wrp.progs.foldl step ([], n)).1 } }

/-- An admitted stage of another lane begins in its slot. One that needs the host while the host cannot be reached is admitted
again (R244). -/
def State.beginStage (s : State) (a : Adm) : State :=
  match s.cmd? a.cmd with
  | none => s.endAdm a
  | some x =>
    let soft := laneClass a.lane == .softDec
    match a.kind with
    | .cipher => (s.endAdm a).cipherStage a.cmd a.units
    | .delivery =>
      if s.hpt.stalled then s.readmit 7 a
      else if s.hostReady x then (s.endAdm a).deliverStage a.cmd a.units
      else (if s.dmaOk x.id.fn then s.awaitXlat x else s).readmit 7 a
    | .fetch => if s.hostReady x then (s.beginAdm a).fetchStage a.cmd a.units
      else (if s.dmaOk x.id.fn then s.awaitXlat x else s).readmit 7 a
    | .busRead => (s.endAdm a).moveLegs a.units (·.at_ == .bus) x.jobs State.busEnds
    | .busProgram => (s.endAdm a).sendProgs a.units fun p => p.units.any fun u => x.wids.contains u.1
    | .decode => (s.beginAdm a).moveLegs a.units (fun g => g.at_ == .queued && g.soft == soft) x.jobs State.beginDecode
    | .mirror => s.beginAdm a
    | .dieRead | .dieProgram => s

/-! ## Work without a command on the other lanes -/

/-- The reads of the partner's requests and of merges, and those of units being moved, which background capacity alone serves
(R289). -/
def State.otherJobs (s : State) (moves : Bool) : List (DecodeJob × Leg) :=
  s.allJobs.filter fun p => match p.1 with
    | .unit .. => false
    | .merge wid _ => (s.write? wid).any fun w => w.from_.isSome == moves
    | _ => !moves

/-- The bus transfers that a slot of a channel bus lane takes beside the admitted ones (R84, R85, R221, R262, R267): read data for
the partner in AROUND_SERVE slots of its group or unowned ones, and in unowned or lent READ slots; merge data in unowned or
lent READ slots; data read to be moved in lent and BACKGROUND slots; program data of a group's bounded writes in its PROGRAM slots and of all others in unowned
or lent ones, moved data also in BACKGROUND slots. -/
def State.busOthers (s : State) (y : SlotAt) (lent : Bool) (n : Nat) : State :=
  let free := y.slot.owner = 0xFFFF ∨ lent
  let waits (g : Leg) : Bool := g.at_ == .bus
  if y.slot.kind = 4 then
    let mine := (s.rdp.serving.filter fun v => if y.slot.owner = 0xFFFF then true else !v.best && v.req.group == y.slot.owner).map
      fun v => (DecodeJob.served v.req.tag, v.leg)
    s.moveLegs n waits mine State.busEnds
  else if (y.slot.kind = 1 ∧ free) ∨ (y.slot.kind = 0 ∧ lent) then
    let t := s.moveLegs n waits (s.otherJobs false ++ if lent then s.otherJobs true else []) State.busEnds
    if y.slot.kind = 0 then t.sendProgs n fun p => p.since < y.start else t
  else if y.slot.kind = 2 then
    let t := s.sendProgs n fun p => p.since < y.start && s.progGroup p == some y.slot.owner
    if free then t.sendProgs n fun p => p.since < y.start && (s.progGroup p).isNone else t
  else if y.slot.kind = 6 then
    (s.moveLegs n waits (s.otherJobs true) State.busEnds).sendProgs n fun p => p.since < y.start && p.moved
  else s

/-- The decodes that a slot of a decoder lane takes beside the admitted ones: those of the partner's reads and of merges in
unowned or lent DECODE slots, those of units being moved in lent and BACKGROUND slots (R221, R262, R289). -/
def State.decodeOthers (s : State) (lane : Nat) (y : SlotAt) (lent : Bool) (n : Nat) : State :=
  let soft := laneClass lane == .softDec
  let waits (g : Leg) : Bool := g.at_ == .queued && g.soft == soft
  if (y.slot.kind = 10 ∧ (y.slot.owner = 0xFFFF ∨ lent)) ∨ (y.slot.kind = 0 ∧ lent) then
    s.moveLegs n waits (s.otherJobs false ++ if lent then s.otherJobs true else []) State.beginDecode
  else if y.slot.kind = 6 then
    s.moveLegs n waits (s.otherJobs true) State.beginDecode
  else s

/-- Entries fetched in one visit of a queue: up to 2^AB, and at most 64 (R404). -/
def Fn.burst (x : Fn) : Nat := min 64 (2 ^ (x.feats.get 0x01 % 8))

/-- A queue that a visit would fetch from: it holds entries, none is on its way, and none has still to become a command. -/
def Sq.waits (q : Sq) : Bool := q.head != q.tail && !q.stopped && q.deleting.isNone && q.granted == 0

/-- The device fetches from a function's queues (R385, R403, R604, R606). -/
def State.fetchOn (s : State) (f : Nat) (admin : Bool) : Bool :=
  let x := s.fns.get f
  let exists_ := f == 0 || (s.bit Reg.fnmStatus 13 && decide (f ≤ s.field Reg.fnmStatus 0 13))
  exists_ && x.cc.getLsbD 0 && x.rdy && !x.cfs && x.life == .active && (f == 0 || x.online) && s.dmaOk f &&
    !s.pwr.turnOff && (admin || s.inRun)

/-- The queue of a function whose turn it is: the next one after the queue last visited that holds entries to fetch (R404). -/
def State.nextSq (s : State) (f : Nat) : Option (Nat × Sq) :=
  let x := s.fns.get f
  let open_ := x.sqs.filter fun p => p.2.waits && s.fetchOn f (p.1 == 0) && !s.hpt.np.any (·.kind == .fetch f p.1)
  let after := open_.filter (x.lastSq < ·.1)
  let least (l : List (Nat × Sq)) : Option (Nat × Sq) := l.foldl (fun b p =>
    match b with
    | some q => if p.1 < q.1 then some p else b
    | none => some p) none
  (least after).orElse fun _ => least open_

/-- A visit of the function's next queue: its entries are asked for, up to the end of the ring (R404). -/
def State.visit (s : State) (f : Nat) : State :=
  match s.nextSq f with
  | none => s
  | some (qid, q) =>
    let n := min (s.fns.get f).burst (if q.head < q.tail then q.tail - q.head else q.size - q.head)
    let page := (q.base + q.head * 64) / 4096
    let t := if s.xlatOk f page then
        (s.when (s.fn f).ats (·.inc Reg.hptAtcHitCnt)).readHost f (.fetch f qid) (q.base % 4096 + q.head * 64) (n * 64) (· / 64)
      else s.askXlat f page
    t.updFn f fun x => { x with lastSq := qid }

/-- The functions whose entries a HOST_FETCH slot fetches: a tenant's in capacity of its group, all others in unowned capacity
(R404). -/
def State.visited (s : State) (y : SlotAt) : List Nat :=
  ((0 :: (s.fns.entries.map (·.1)).filter (· != 0))).filter fun f => s.groupFn f == (if y.slot.owner = 0xFFFF then 256 else y.slot.owner)

/-- The visits that the rest of a HOST_FETCH slot holds, one unit each: a visit fetches at most 64 entries of 64 bytes. -/
def State.visits (s : State) (n : Nat) (y : SlotAt) : State :=
  (((s.visited y).filter fun f => (s.nextSq f).isSome).take n).foldl (fun t f => t.visit f) s

/-- What the mirror lane carries in a slot (R486, R487, R489): data flits of the VCs of a MIRROR slot's mask, 248 a cell at x16
and 64 GT/s and fewer below, and background traffic in BACKGROUND and lent slots. Flits of the lane's last message that ran past
its slot come first. -/
def State.openMirror (s : State) (lane : Nat) (y : SlotAt) (lent : Bool) : State :=
  let rate := if s.field Reg.mlkStatus 3 2 = 2 then 2 else 1
  let flits := 248 * (y.stop - s.cell) * rate * s.field Reg.mlkStatus 5 5 / 32
  let debt := s.mlk.flitDebt.get lane
  let x : MirrorSlot := { lane := lane, mask := if y.slot.kind = 11 then y.slot.param else if y.slot.kind = 0 then 63 else 0,
                          left := flits - debt, bg := y.slot.kind == 6 || lent }
  if y.slot.kind = 11 ∨ y.slot.kind = 6 ∨ (y.slot.kind = 0 ∧ lent) then
    State.pump { s with mlk := { s.mlk with slots := s.mlk.slots.filter (·.lane != lane) ++ [x],
                                            flitDebt := s.mlk.flitDebt.set lane (debt - flits) } }
  else s

/-- The work that a slot of another lane takes beside its admitted stages, within the capacity they leave. -/
def State.laneOthers (s : State) (lane : Nat) (y : SlotAt) (lent : Bool) (n : Nat) : State :=
  match laneClass lane with
  | .bus => s.busOthers y lent n
  | .hardDec | .softDec => s.decodeOthers lane y lent n
  | .fetch =>
    if y.slot.kind = 7 then
      let t := s.visits n y
      if y.slot.owner = 0xFFFF then t.serveIntern false n else t
    else s
  | .deliver => if y.slot.kind = 8 ∧ y.slot.owner = 0xFFFF then s.serveIntern true n else s
  | .mirror => s.openMirror lane y lent
  | _ => s

/-! ## Slots -/

/-- What still holds a lane when a slot begins: an operation whose own slot has ended, or a stage that has not; an old slot that
runs to its end (R121, R132). A GATE slot suspends what runs on its die. -/
def State.laneHeld (s : State) (lane : Nat) (y : SlotAt) : Bool :=
  (lane < 512 && y.slot.kind != 5 && (s.die lane).run.any fun op => op.slotEnd ≤ y.start) ||
    (s.oldSlot lane).any (fun z => s.cell < z.stop) ||
    s.prx.adms.any fun a => a.lane == lane && a.started && a.stop ≤ y.start && s.stageRuns a

/-- A slot begins on its lane (R128 to R132): capacity that no bounded stage took is disposed of, stages that find no room
are admitted again, and the slot's operations start. A GATE slot with admitted reads suspends a running program or erase
on a MODE 2 lane, or on a MODE 0 lane served as gated (R92, R194, R217); an ERASE slot resumes a suspended erase (R86). -/
def State.beginSlot (s : State) (lane : Nat) (y : SlotAt) : State :=
  let mine := s.waitingAdms lane y
  let owned := s.ownedKept y (mine.filter (·.owned))
  let be := mine.filter (!·.owned)
  let serves := y.slot.kind = 4 ∧ (s.servesWaiting lane y.start).any fun v => !v.best && v.req.group == y.slot.owner
  let progs := lane < 512 ∧ y.slot.kind = 2 ∧ (s.wrp.progs.any fun p => s.progReady lane y p && s.progGroup p == some y.slot.owner)
  let t : State := if ¬ owned.isEmpty ∨ serves ∨ progs then
      { s with prx := { s.prx with tookOwned := s.prx.tookOwned.set lane (y.start + 1) } } else s
  let room := y.slot.param - (owned.map (·.units)).sum
  let lent := t.lentNow lane y
  let noCap := y.slot.kind = 0 ∨ y.slot.kind = 6 ∨ y.slot.kind = 11 ∨ y.slot.kind = 12
  let chosen := if noCap then t.offered lane y be else takeUnits room (t.offered lane y be)
  let turned := mine.filter fun a => !chosen.contains a && !owned.contains a
  let t := if lent then t.inc Reg.prxLentCnt else t
  let t := if lent then (match chosen.getLast? with | some a => t.served lane (t.participant a) | none => t) else t
  let t := turned.foldl (fun t a => t.readmit 0 a) t
  let t : State := { t with prx := { t.prx with
    adms := (t.prx.adms.filter fun a => !(owned ++ chosen).contains a) ++ owned ++ chosen,
    progCount := t.prx.progCount.set lane 0, serveCount := t.prx.serveCount.set lane 0 } }
  if lane < 512 then
    let reads := (owned ++ chosen).filter (·.kind == .dieRead)
    let t := if y.slot.kind = 5 ∧ ¬ reads.isEmpty ∧ gatedIn (t.modeOf lane) t.variant then
        let u := if (t.die lane).run.any (·.kind != 1) then t.suspendDie lane else t
        if (u.die lane).run.any (·.kind != 1) then reads.foldl (fun v a => v.readmit 2 a) u
        else u.updDie lane fun d => if d.susp.isSome then { d with hold := .gate } else d
      else t
    let t := if y.slot.kind = 3 ∧ (t.die lane).susp.any (·.kind == 3) then t.resumeDie lane else t
    t.startNext lane
  else
    let left := if noCap then 2 ^ 20 else room - (chosen.map (·.units)).sum
    let n := if y.slot.owner = 0xFFFF ∨ lent then left else if y.slot.kind = 2 ∨ y.slot.kind = 4 ∨ y.slot.kind = 7 then room else 0
    ((owned ++ chosen).foldl (fun t a => t.beginStage a) t).laneOthers lane y lent n

/-- SLOT_START on a lane: the slot begins, or waits for the lane that is still held (R121, R132). -/
def State.slotStart (s : State) (lane : Nat) : State :=
  if ¬ s.inRun then s
  else
    match (s.laneSlots lane).find? (·.start == s.cell) with
    | none => s
    | some y =>
      if s.laneHeld lane y then { s with prx := { s.prx with lateSlots := s.prx.lateSlots ++ [(lane, y.start)] } }
      else s.beginSlot lane y

/-- A slot that has waited for its lane begins once the lane is free; it still ends at its compiled end (R121, R132). -/
def State.beginLate (s : State) (lane : Nat) : State :=
  match (s.laneSlots lane).find? fun y => s.prx.lateSlots.contains (lane, y.start) && s.cell < y.stop with
  | some y =>
    if s.laneHeld lane y then s
    else State.beginSlot { s with prx := { s.prx with lateSlots := s.prx.lateSlots.filter (· != (lane, y.start)) } } lane y
  | none => s

/-- Stages that have ended leave their lanes, and slots that waited for these begin (R132). -/
def State.freeLanes (s : State) : State :=
  let done := s.prx.adms.filter fun a => a.started && !s.stageRuns a
  (done.map (·.lane)).eraseDups.foldl (fun t l => t.beginLate l) (s.dropAdms fun a => done.contains a)

/-- Counts an overrun of a lane (R131). -/
def State.overrun (s : State) (lane : Nat) : State :=
  ((s.countErr .prx Reg.prxOverrunCnt lane).setNum Reg.prxOverrunLane lane).raise Reg.prxEvent 5

/-- The end of a GATE slot: the suspended operation resumes, unless reads are admitted to a GATE slot that begins now, as one
suspension serves adjacent gates (R92). -/
def State.gateEnds (s : State) (lane : Nat) : State :=
  let again := (s.laneSlots lane).any fun y => y.start == s.cell && y.slot.kind == 5 &&
    (s.waitingAdms lane y).any (·.kind == .dieRead)
  if (s.die lane).hold = .gate ∧ ¬ again then (s.updDie lane fun d => { d with hold := .none }).startUrgent lane else s

/-- The end of an ERASE slot with SUSP: an erase still running is suspended until the lane's next ERASE slot (R86, R195, R196),
but on a MODE 1 lane, which is never suspended (R198). -/
def State.eraseEnds (s : State) (lane : Nat) : State :=
  if (s.die lane).run.any (·.kind == 3) ∧ s.modeOf lane ≠ 1 then
    let t := s.suspendDie lane
    t.updDie lane fun d => if d.susp.isSome then { d with hold := .erase } else d
  else s

/-- The operation of a die, running or suspended by a rescue, whose slot ends now and which still holds the lane is an overrun
(R131, R198); an operation that a status read has shown ready has ended, and an erase suspended at its slot's end is none. -/
def State.dieOverrun (s : State) (lane end_ : Nat) : State :=
  let late (op : DieOp) : Bool := op.slotEnd == end_ && !op.overran && !op.ready
  let mark (op : DieOp) : DieOp := { op with overran := true }
  let d := s.die lane
  if d.run.any late then (s.updDie lane fun d => { d with run := d.run.map mark }).overrun lane
  else if d.susp.any late ∧ d.hold = .none then (s.updDie lane fun d => { d with susp := d.susp.map mark }).overrun lane
  else s

/-- The slot of a lane that ends now: of the running variant, or an old one that ran to its end (R121). -/
def State.endingSlot (s : State) (lane : Nat) : Option SlotAt :=
  let end_ := s.cell
  match (s.oldSlot lane).filter (·.stop == end_) with
  | some y => some y
  | none => s.prx.active.bind fun i =>
      (i.cycleSlots s.variant lane (s.frame - (if end_ % 250 = 0 then 1 else 0))).find? (·.stop == end_)

/-- SLOT_END on a lane (R86, R92, R131): the suspended operation resumes after a GATE; an erase still running at the end
of an ERASE slot with SUSP is suspended; an operation or stage that still holds its lane is an overrun. Stages not started, and
mirror stages whose messages have not all left, are admitted again (R132, R488). -/
def State.slotEnd (s : State) (lane : Nat) : State :=
  if ¬ s.inRun then s
  else
    match s.endingSlot lane with
    | none => s
    | some y =>
      let end_ := y.stop
      let t := if y.slot.kind = 5 then s.gateEnds lane else s
      let t := if y.slot.kind = 3 ∧ y.slot.param % 2 = 1 then t.eraseEnds lane else t
      let t := if lane < 512 then t.dieOverrun lane end_ else t
      let mine := t.prx.adms.filter fun (a : Adm) => a.lane == lane && a.stop == end_
      let running := mine.filter fun a => a.started && t.stageRuns a
      let t := if running.isEmpty then t else t.overrun lane
      let t : State := { t with mlk := { t.mlk with slots := t.mlk.slots.filter (·.lane != lane) },
                                prx := { t.prx with lateSlots := t.prx.lateSlots.filter (· != (lane, y.start)) } }
      let t := (mine.filter fun a => !a.started || (a.kind == .mirror && running.contains a)).foldl (fun u a => u.readmit 2 a) t
      ((t.dropAdms fun a => mine.contains a && a.started && !running.contains a).beginLate lane).stopTest

/-! ## Ends of operations -/

/-- What was to be done on a die cannot be done there: a read fails where it was to be used and the recovery chain goes on, a read
for the partner on a lost channel is refused (R124, R202, R204), and a program waits unprogrammed (R655). -/
def State.failWork (s : State) (w : Work) : State :=
  match w with
  | .read j =>
    match s.leg? j with
    | some g => s.legEnds j g false
    | none => s
  | .prog pid => s.programParked pid
  | .ckpt seg => s.ckptPassed seg false
  | _ => s

/-- An operation's work ends as it should (R193): a read goes on to its bus transfer and decode, an erase frees its block, a care
read moves data. A program's outcome follows with PROGRAM_DONE. -/
def State.workDone (s : State) (lane : Nat) (w : Work) (pass : Bool) : State :=
  match w with
  | .read j => s.readEnds j pass
  | .erase n => s.eraseDone lane n pass
  | .dumpErase b => s.dumpErased lane b pass
  | .care rank block =>
    if ¬ pass then s else if rank = 8 ∨ rank = 10 then s.sampleRead lane block else s.moveNext lane block rank
  | .journal n => if pass then s.journalWritten n else s.countErr .wrp Reg.wrpProgFailCnt lane
  | .ckpt seg => if pass then s.ckptPassed seg true else (s.countErr .wrp Reg.wrpProgFailCnt lane).ckptPassed seg false
  | .prog pid => if pass then s else s.failWork (.prog pid)

/-- The block that an operation's read was of. -/
def State.readBlock (s : State) : Work → Option Nat
  | .read j => (s.leg? j).map fun g => s.locBlock g.loc
  | .care _ b => some b
  | _ => none

/-- A die that has become idle goes on: reads that start at once, a slot that waited for it, the slot's next operation; in Park
its next work. -/
def State.dieGoesOn (s : State) (lane : Nat) : State := (((s.startUrgent lane).beginLate lane).startNext lane).parkLane lane

/-- DIE_OP_COMPLETE: an excursion is counted where the operation took longer than its worst case (R133), its work ends,
read counts are looked at (R306), and the die goes on. -/
def State.dieDone (s : State) (lane durNs : Nat) (r : OpResult) : State :=
  match (s.die lane).run with
  | none => s
  | some op =>
    let b := s.readBlock op.work
    let t := s.updDie lane fun d => { d with run := none, timeouts := 0 }
    let t := if op.worst < (durNs + 1) / 2 then t.excursion (lane / 16) else t
    let t := t.workDone lane op.work (r == .pass)
    let t := match b with
      | some n => if op.kind = 1 then t.disturbCheck lane n else t
      | none => t
    t.dieGoesOn lane

/-- PROGRAM_DONE: the program unit started on the die passes or fails its verify (R269, R270). A program of a die or
channel that is lost is no failure (R655). One whose completion was not seen before is measured here (R133). -/
def State.programDone (s : State) (lane : Nat) (r : OpResult) : State :=
  match s.wrp.progs.find? fun p => p.lane == lane && p.started with
  | none => s
  | some p =>
    let op := (s.die lane).run.filter (·.work == .prog p.pid)
    let t := if op.isSome then s.updDie lane fun d => { d with run := none, timeouts := 0 } else s
    let t := if op.any fun o => o.start + o.worst < s.now then t.excursion (lane / 16) else t
    let t := if r = .pass then t.programPass p else if t.dieUsable lane then t.programFail p else t.programParked p.pid
    ((t.retireReady lane).gcReview.dieGoesOn lane).parkWork

/-! ## Losing dies and channels -/

/-- Ends what runs on a die that is gone: reads go to the rescue path, programs stay in staging (R204, R655). -/
def State.clearDie (s : State) (lane : Nat) : State :=
  let d := s.die lane
  let t := s.updDie lane fun x => { x with run := none, susp := none, hold := .none }
  let gone := t.rdp.urgent.filter (·.1 == lane)
  let t : State := { t with rdp := { t.rdp with urgent := t.rdp.urgent.filter (·.1 != lane) } }
  ((d.run.map (·.work)).toList ++ (d.susp.map (·.work)).toList ++ gone.map (·.2)).foldl (fun t w =>
    (match w with | .read (.unit c _ _) => t.noteVoid c lane | _ => t).failWork w) t

/-- Reads that wait for a die that cannot serve them, or whose data has not yet crossed its bus, fail there and take the rescue
path (R202, R204); the partner's are answered (R124). -/
def State.rescueWaiting (s : State) (lane : Nat) : State :=
  let t := s.dropAdms fun a => a.lane == lane
  (t.allJobs.filter fun p => p.2.lane == lane && (p.2.at_ == .wait || p.2.at_ == .bus)).foldl (fun t p =>
    (match p.1 with | .unit c _ _ => t.noteVoid c lane | _ => t).failWork (.read p.1)) t

/-- Declares a channel lost and ends what runs on it (R204). One in the bring-up of a binding ends its part in it (R185). -/
def State.loseChannel (s : State) (ch reason die : Nat) : State :=
  let t := s.loseCh ch reason die
  (((((List.range 16).map (ch * 16 + ·)).foldl (fun t l => (t.clearDie l).rescueWaiting l) t).showReady).showHealth).bindingEnds ch

/-- Declares a die lost (R202). -/
def State.loseDie (s : State) (lane : Nat) : State :=
  let ch := lane / 16
  let t := (State.updDie { s with mcr := { s.mcr with eolDue := true } } lane fun d =>
    { d with lost := true, lostAt := some s.frame }).setBit (Reg.mchChDieLost ch) (lane % 16) true
  let t := (t.raiseLog .mch Reg.mchEvent 3 lane)
  let t := if t.bit Reg.mcrStatus 4 then t else (t.setBit Reg.mcrStatus 4 true).raiseLog .mcr Reg.mcrEvent 5 lane |>.criticalEvent 2 0
  let t := (t.clearDie lane).rescueWaiting lane
  if ((List.range t.diesPerCh).all fun d => (t.die (ch * 16 + d)).lost) then t.loseChannel ch 8 0 else t.gcReview

/-- An operation not ready by twice its worst case (R193, R202, R270, R655), an excursion in any case (R133). -/
def State.dieTimeout (s : State) (lane : Nat) : State :=
  match (s.die lane).run with
  | none => s
  | some op =>
    if ¬ s.chUp (lane / 16) ∨ s.now < op.start + 2 * op.worst then s
    else
      let n := (s.die lane).timeouts + 1
      let t := (s.emit (.die lane 6)).countErr .mch (Reg.mchChTimeoutCnt (lane / 16)) lane
      let t := t.excursion (lane / 16)
      if 16 ≤ n then (t.updDie lane fun d => { d with timeouts := n }).loseDie lane
      else
        let t := t.updDie lane fun d => { d with run := none, timeouts := n }
        let t := match op.work with
          | .prog pid =>
            match t.wrp.progs.find? (fun (q : ProgUnit) => q.pid == pid) with
            | some p => t.programFail p
            | none => t
          | .erase b => t.eraseDone lane b false
          | .read j => t.readEnds j false
          | w => t.failWork w
        t.dieGoesOn lane

/-- A retraining of a channel is due: 10,000 frames after the last one, or, after a failure, in the next BACKGROUND slot of its
bus lane (R203). -/
def State.retrainDue (s : State) (ch : Nat) : Bool :=
  s.chUp ch && s.inBackground (512 + ch) &&
    (if s.mch.retrain.get ch = 0 then decide (s.mch.trainedC.get ch + 2500000 ≤ s.cell)
     else (s.slotNow (512 + ch)).all fun y => s.mch.trainedC.get ch < y.start)

/-- A retraining of an up channel ends (R203). -/
def State.retrained (s : State) (ch : Nat) (ok : Bool) : State :=
  if ¬ s.retrainDue ch then s
  else
    let t := s.trainChannel ch
    let n := if ok then 0 else s.mch.retrain.get ch + 1
    let t : State := { t with mch := { t.mch with retrain := t.mch.retrain.set ch n, trainedC := t.mch.trainedC.set ch s.cell } }
    let t := if ok then t else t.countErr .mch (Reg.mchChRetrainCnt ch) ch
    if 2 ≤ n then t.loseChannel ch 9 0 else t

/-- MCH_CH_CTL.RETIRE (R206). -/
def State.chRetire (s : State) (ch : Nat) : State :=
  if s.chState ch = 1 ∨ s.chState ch = 2 then (s.loseChannel ch 0xA 0).showBringup else s

/-- A channel's bring-up ends; in Park its dies take up their work (R187). Dies seen for the first time note their
spare (R308). -/
def State.chBroughtUp (s : State) (ch : Nat) (f : BringupFacts) : State :=
  if s.chState ch ≠ 1 then s
  else
    let t := s.bringupDone ch f
    if t.chUp ch then
      let t := (List.range t.diesPerCh).foldl (fun t d => t.updDie (ch * 16 + d) fun x =>
        { x with spare0 := if x.spare0 = 0 then t.spareOf (ch * 16 + d) else x.spare0 }) t
      let left := t.popLanes.any fun l => (t.die l).lost || (t.die l).readOnly
      ((((t.setBit Reg.mcrStatus 4 left).showReady).showHealth).gcReview).parkWork
    else t

/-! ## Temperature (R200, R201, R304) -/

/-- The ageing of a time at a temperature, in 1/65,536 of a tick at T_REF (R304). -/
def Profile.aged (p : Profile) (ticks : Nat) (temp : Int) : Nat :=
  let x := temp - Int.ofNat p.tRef
  let d := max 1 p.tDouble
  if x % Int.ofNat d = 0 then
    let e := x / Int.ofNat d
    if 0 ≤ e then ticks * 65536 * 2 ^ e.toNat else ticks * 65536 / 2 ^ e.natAbs
  else ticks * Config.ageing x (Int.ofNat d)

/-- Ages the blocks of a die; closed blocks at three quarters of RETENTION_H are to be refreshed (R304). -/
def State.ageDie (s : State) (lane add : Nat) : State :=
  let bands := (s.mch.profile.map (·.bands)).getD []
  let limit (b : Blk) : Nat := ((bands[s.groupOf lane b.num / 16]?).map (·.retentionH)).getD 0 * 3600 * 500000000 * 65536 * 3 / 4
  s.updDie lane fun d => { d with blocks := d.blocks.map fun b =>
    if b.state = .free then b
    else { b with age := b.age + add, refresh := if b.state = .closed ∧ limit b ≠ 0 ∧ limit b ≤ b.age + add ∧ b.refresh = 0 then 4 else b.refresh } }

/-- A reading of a die's temperature is due: 1,000 frames after the last one, in a BACKGROUND slot of its lane, while no
operation runs there (R200). -/
def State.tempDue (s : State) (lane : Nat) : Bool :=
  s.dieUsable lane && s.inBackground lane && (s.die lane).run.isNone && (s.die lane).tempAt.all (· + 1000 ≤ s.frame)

/-- A die's temperature is read at TEMP_FEATURE (R200, R201, R304). -/
def State.dieTemp (s : State) (lane : Nat) (temp : Int) : State :=
  if ¬ s.tempDue lane then s
  else
    let s := s.emit (.dieArg lane 11 ((s.mch.profile.map (·.tempFeature)).getD 0) [])
    let p := s.mch.profile.getD {}
    let since := match (s.die lane).tempAt with | some f => s.frame - f | none => 0
    let used := if 2000 < since then Int.ofNat p.tDieMax else temp
    let t := s.setNum (Reg.mchChDieTemp (lane / 16) (lane % 16)) ((temp % 256).toNat + 2 ^ 8)
    let t := (t.updDie lane fun d => { d with tempAt := some s.frame }).ageDie lane (p.aged (since * 500000) used)
    if Int.ofNat p.tDieMax < temp then t.raiseLog .mch Reg.mchEvent 4 lane else t

/-! ## Events of the write path -/

/-- The last data unit of a write is fetched and encrypted, and the sectors it is merged with are there (R247, R248, R263). -/
def State.writeStaged (s : State) (c : CmdId) : State :=
  match s.cmd? c with
  | none => s
  | some x =>
    let ws := s.wrp.writes.filter fun w => w.state == .filling && x.wids.contains w.wid
    if x.filling ∧ x.toEnc = 0 ∧ ¬ s.fetching x ∧ ws.all (·.legs.isEmpty) then
      let t := ws.foldl (fun t w => t.becomeStaged w) (s.updCmd c fun y => { y with filling := false })
      t.settle.parkWork
    else s

/-- Staging of a write is free again: merges, rewrites and held writes try once more (R250, R251, R296). -/
def State.stagingFreed (s : State) (wid : Nat) : State :=
  let t := (s.freeWrites fun w => w.wid == wid && w.state == .verified && w.readers == 0)
  (t.retryMerges.takeRepairs).retryHeld

/-- A stripe that has not filled in time is closed with padding (R268). -/
def State.stripeTimeout (s : State) (sid : Nat) : State :=
  match s.wrp.stripes.find? (·.sid == sid) with
  | some t =>
    if t.opened + max 1 (s.field Reg.wrpStripeTmo 0 16) ≤ s.frame ∧ t.members.any (!·.2.isEmpty) then
      (s.closeStripe t true).parkWork
    else s
  | none => s

/-- A dirty map segment is checkpointed (R277): its 1,024 units of 4 KiB go to media in unowned or lent PROGRAM capacity (R267),
and in Park without a schedule. -/
def State.checkpoint (s : State) (seg : Nat) : State :=
  match lookupKey seg s.wrp.dirty with
  | none => s
  | some since =>
    if s.wrp.ckpts.any (·.seg == seg) then s
    else
      let n := (1024 + s.progUnits - 1) / s.progUnits
      State.parkWork { s with wrp := { s.wrp with dirty := s.wrp.dirty.filter (·.1 != seg),
                                                  ckpts := s.wrp.ckpts ++ [{ seg := seg, since := since, toStart := n, left := n }] } }

/-- WRP_CKPT_CTL.FORCE: every dirty segment (Table 7-8). -/
def State.checkpointAll (s : State) : State := s.wrp.dirty.foldl (fun t d => t.checkpoint d.1) s

/-- The segments that have been dirty for 30 s are checkpointed at a frame edge, so that recovery never needs more than the last 60 s
of journal (R277). DESIGN CHOICE: the half is the model's margin for the writing itself (notes/assumptions/112.md). -/
def State.ckptOld (s : State) : State :=
  (s.wrp.dirty.filter fun d => d.2 + 15000000000 ≤ s.now).foldl (fun t d => t.checkpoint d.1) s

/-! ## The power-loss dump (R280 to R283) -/

/-- What a dump saves: staging but for FILLING and for what is verified on media, the journal tail, the frame, the log (R281). -/
def State.dumpContent (s : State) (clean : Bool) : Saved :=
  { writes := s.wrp.writes.filter fun w => w.state != .filling && w.state != .verified, tail := s.wrp.tail, frame := s.frame, clean := clean }

/-- Saves the device state beside staging: the open minute and the chain heads (R461), the newest 256 log entries (R615),
and the TAI second at which it goes down, where a time of day is valid (R305). -/
def State.saveDevice (s : State) : State :=
  { s with mtr := { s.mtr with saved := some (s.mtr.minute, s.mtr.counts, s.mtr.heads) },
           pwr := { s.pwr with savedLog := s.pwr.log.take 256,
                               shutdownTai := if s.todValid then some (s.frame / 1000) else none } }

/-- A clean shutdown (R33): the TYPE 4 record goes to media with the rest of the journal, and the device state is saved. -/
def State.cleanMark (s : State) : State :=
  let t := (s.journal 0 0 1 4).saveDevice
  let t := t.journalWritten t.wrp.tail.length
  { t with wrp := { t.wrp with saved := some { t.dumpContent true with marked := true } } }

/-- The dump begins (R283 steps 1 to 3): a dump that a recovery has not consumed is kept (R287); nothing else
goes on, the notice is sent and the Mirror Link stops, busy LUNs are reset, FILLING writes and reads in flight are discarded, and the content goes to the set that holds no unconsumed dump. -/
def State.dumpStart (s : State) : State :=
  if s.wrp.dumped then s
  else
    let t := s.holdupCancel.send (.control 8 s.frame)
    let t := (t.popLanes.filter fun l => (t.die l).run.any (·.kind != 1) || (t.die l).susp.isSome).foldl (fun t l => t.emit (.die l 6)) t
    let t := t.discardFilling fun _ => true
    let t := t.popLanes.foldl (fun t l => t.updDie l fun d => { d with run := none, susp := none, hold := .none }) t
    let setB := t.popLanes.any fun l => (t.die l).dumpA
    let prefix_ := (t.mch.profile.map (·.slcPrefix)).getD 0
    let t := (t.upLanes).foldl (fun t l => (t.updDie l fun d =>
      if setB then { d with dumpB := true, erasedB := false } else { d with dumpA := true, erasedA := false }).emit
        (.dieArg l 9 prefix_ [])) t
    let t := (t.saveDevice.inc Reg.wrpDumpCnt).setBit Reg.wrpDumpStatus 2 setB
    let kept := match t.wrp.saved with
      | some d => if d.marked ∧ ¬ d.clean ∧ ¬ t.bit Reg.pwrStatus 3 then d else t.dumpContent false
      | none => t.dumpContent false
    let t : State := { t with wrp := { t.wrp with dumped := true, dumpAt := t.now, saved := some kept },
                              cmds := [], rdp := {},
                              pwr := { t.pwr with stop := .dump, unsafeStops := t.pwr.unsafeStops + 1 } }
    let t : State := { t with mlk := { t.mlk with slots := [] } }
    let t := ((t.setBit Reg.mlkStatus 1 false).setField Reg.mlkStatus 3 2 0).setField Reg.mlkStatus 5 5 0
    (t.showHealth).setBit Reg.wrpStatus 4 true

/-- The dump ends (R283 step 5): the marker is programmed, WP_N goes low, the duration is recorded. -/
def State.dumpDone (s : State) : State :=
  if s.pwr.stop = .dump ∧ s.bit Reg.wrpStatus 4 then
    let s : State := { s with wrp := { s.wrp with saved := s.wrp.saved.map fun d => { d with marked := true } } }
    let t := (s.setBit Reg.wrpStatus 4 false).setBit Reg.wrpStatus 5 true
    let t := t.setField Reg.wrpDumpStatus 16 16 (min 65535 ((t.now - t.wrp.dumpAt) / 500))
    (List.range 32).foldl (fun t c => t.emit (.pin (.chWpN c) false)) t
  else s

/-- A sample of HOLDUP_SENSE (R253, R280). -/
def State.senseSample (s : State) (code : BitVec 12) : State :=
  let v := code.toNat
  let low := decide (v < s.field Reg.wrpHoldupCtl 16 12)
  let trigger := low && s.wrp.senseLow && s.bit Reg.wrpDumpCtl 0
  let t : State := { s with wrp := { s.wrp with
    senses := (s.now, v) :: s.wrp.senses.filter (fun p => p.2 < v && decide (s.now ≤ p.1 + 500000)), senseLow := low } }
  let t := (t.setNum Reg.wrpHoldupSense v).showHealth
  if trigger then t.dumpStart else t

/-! ## Meanings -/

def execMapLookup (c : CmdId) (cacheMiss : Nat) (eccUnit : Option Nat) (rebuilt : Bool) (s : State) : Result :=
  .next (s.whenLive fun t => (t.mapLookup c cacheMiss eccUnit rebuilt).copySettle)
def execAreadRspRx (tag status : Nat) (s : State) : Result :=
  .next (s.whenLive fun t => ((t.took 3 (if status = 0 then 64 else 0)).aroundRsp tag status).copySettle)
/-- DECODE_DONE frees the decoder's lane. -/
def execDecodeDone (j : DecodeJob) (corrected : Nat) (r : DecodeResult) (s : State) : Result :=
  .next (s.whenLive fun t => (t.decoded j corrected r).freeLanes)
def execSoftDecodePassDone (j : DecodeJob) (corrected : Nat) (recovered : Bool) (s : State) : Result :=
  .next (s.whenLive fun t => (t.softPass j corrected recovered).freeLanes)
def execStageAdmit (c : CmdId) (k : StageKind) (lane units : Nat) (s : State) : Result :=
  .next (s.whenLive (·.stageAdmit c k lane units))
/-- SLOT_START. A HOST_DELIVER slot notes whether the host's flow control holds deliveries (Table 4-6). -/
def execSlotStart (b : SlotBegin) (s : State) : Result :=
  .next (s.whenLive fun t =>
    (if laneClass b.lane == .deliver then { t with hpt := { t.hpt with stalled := b.held } } else t).slotStart b.lane)
def execSlotEnd (lane : Nat) (s : State) : Result := .next (s.whenLive (·.slotEnd lane))
def execDieOpComplete (lane durNs : Nat) (r : OpResult) (s : State) : Result := .next (s.whenLive (·.dieDone lane durNs r))
def execProgramDone (lane : Nat) (r : OpResult) (s : State) : Result := .next (s.whenLive (·.programDone lane r))
def execDieOpTimeout (lane : Nat) (s : State) : Result := .next (s.whenLive (·.dieTimeout lane))
def execChannelRetrain (ch : Nat) (ok : Bool) (s : State) : Result := .next (s.whenLive (·.retrained ch ok))
def execMchChRetire (by_ : Requester) (ch : Nat) (s : State) : Result := .next (s.byCore by_ (Reg.mchChCtl ch) (·.chRetire ch))
def execChannelBringupDone (ch : Nat) (f : BringupFacts) (s : State) : Result := .next (s.whenLive (·.chBroughtUp ch f))
def execDieTempRead (lane : Nat) (temp : Int) (s : State) : Result := .next (s.whenLive (·.dieTemp lane temp))
def execWriteStaged (c : CmdId) (s : State) : Result := .next (s.whenLive (·.writeStaged c))
def execStagingFreed (wid : Nat) (s : State) : Result := .next (s.whenLive (·.stagingFreed wid))
def execStripeCloseTimeout (stripe : Nat) (s : State) : Result := .next (s.whenLive (·.stripeTimeout stripe))
def execCheckpointSegment (seg : Nat) (s : State) : Result := .next (s.whenLive (·.checkpoint seg))
def execWrpCkptForce (by_ : Requester) (s : State) : Result := .next (s.byCore by_ Reg.wrpCkptCtl State.checkpointAll)
def execHoldupSenseSample (code : BitVec 12) (s : State) : Result := .next (s.whenRails (·.senseSample code))
/-- PFAIL_N low for 1 µs starts the dump (R280). -/
def execPfailAssert (s : State) : Result := .next (s.whenRails State.dumpStart)
/-- The end of the dump; it comes while nothing else goes on. -/
def execDumpDone (s : State) : Result := .next s.dumpDone

end Sys2Proof.Machine
end

