-- ==== Sys2Proof/Machine/FnOps.lean ====
section
/-! DEFINITION. What every function shares (chapters 9 and 10): non-posted requests and their tags (R349, R363 to R368),
error reporting (R357 to R362), interrupts (R406 to R409), posting completions (R25, R164, R405), and what a reset of a
function does to its work (R413 to R415). -/
namespace Sys2Proof.Machine

/-! ## Functions -/

/-- VF Enable and NumVFs (Table 10-12). -/
def State.vfEnable (s : State) : Bool := s.bit Reg.fnmStatus 13
def State.numVfs (s : State) : Nat := s.field Reg.fnmStatus 0 13
/-- A function exists for the host: PF0, or an enabled VF. -/
def State.fnExists (s : State) (f : Nat) : Bool := f == 0 || (s.vfEnable && decide (f ≤ s.numVfs))
/-- The Host Port is NORMAL (Table 9-11). -/
def State.portNormal (s : State) : Bool := s.field Reg.hptContainStatus 0 2 == 0
/-- I/O queues allocated to a function: those of Number of Queues, or all its pairs before the host sets it. -/
def State.ioQueues (s : State) (f : Nat) : Nat := min ((s.fn f).nqueues.getD 64) (s.vqOf f - 1)

/-- Commands of a function fetched and not completed, Asynchronous Event Requests apart (Table 10-12). -/
def State.outstanding (s : State) (f : Nat) : Nat :=
  (s.cmds.filter fun x => x.id.fn == f && !(x.admin && x.op == opAer)).length

/-! ## Error reporting (R357 to R362) -/

/-- Headers a function's AER structure records (R361). -/
def State.headerRoom (s : State) (f : Nat) : Nat := if f = 0 ∧ ((s.fn 0).cfg.get 0x118).toNat / 2 ^ 10 % 2 = 1 then 8 else 1

/-- An error that is not header-logged (R362). -/
def State.aerLost (s : State) (f : Nat) : State := (s.countErr .hpt Reg.hptAerLost 0xFFFF f).raise Reg.hptEvent 7

/-- A word with a bit set. -/
def withBit (w : Word) (i : Nat) : Word := w ||| BitVec.ofNat 32 (2 ^ i)

/-- The function's error message is enabled: by its bit of Device Control, or for an uncorrectable error by SERR# Enable. -/
def State.errOn (s : State) (f bit : Nat) (serr : Bool) : Bool :=
  ((s.fn f).cfg.get 0x68).getLsbD bit || (serr && ((s.fn f).cfg.get 0x04).getLsbD 8)

/-- Sends an error message where the error's severity and the function's enables ask for one. An Unsupported Request needs
its own enable as well. -/
def State.uncMessage (s : State) (f bit : Nat) : State :=
  let fatal := ((s.fn f).cfg.get 0x10C).getLsbD bit
  if s.errOn f (if fatal then 2 else 1) true ∧ (bit ≠ 20 ∨ s.errOn f 3 true) then s.emit (.host 5 f bit) else s

/-- Sets an uncorrectable status bit and records its header, while there is room for one; a masked error records none
(R361, R362). A new error for which there is no room also sets Header Log Overflow. -/
def State.uncLog (s : State) (f bit : Nat) : State × Bool :=
  let x := s.fn f
  let u := withBit x.uncSts bit
  if (x.cfg.get 0x108).getLsbD bit then (s.updFn f fun y => { y with uncSts := u }, false)
  else if s.headerRoom f ≤ x.headers then
    ((s.updFn f fun y => { y with uncSts := u, corSts := y.corSts ||| 0x8000 }).aerLost f, false)
  else (s.updFn f fun y => { y with uncSts := u, headers := y.headers + 1 }, true)

/-- Logs an uncorrectable error in a function's AER structure (R362): its bit, its header, an error message. -/
def State.aerUnc (s : State) (f bit : Nat) : State :=
  if (s.fn f).uncSts.getLsbD bit then s.aerLost f
  else
    let (t, sent) := s.uncLog f bit
    if sent then t.uncMessage f bit else t

/-- Logs a correctable error. -/
def State.aerCor (s : State) (f bit : Nat) : State :=
  if (s.fn f).corSts.getLsbD bit then s.aerLost f
  else
    let t := s.updFn f fun y => { y with corSts := withBit y.corSts bit }
    if ¬ (t.fn f |>.cfg.get 0x114).getLsbD bit ∧ t.errOn f 0 false then t.emit (.host 5 f (32 + bit)) else t

/-- An error that is reported as Advisory Non-Fatal (R358): the uncorrectable status bit with its header, and correctable
bit 13 with its own mask and message. -/
def State.aerAdvisory (s : State) (f bit : Nat) : State :=
  if (s.fn f).uncSts.getLsbD bit then (s.aerLost f).updFn f fun y => { y with corSts := y.corSts ||| 0x2000 }
  else
    let (t, sent) := s.uncLog f bit
    let t := t.updFn f fun y => { y with corSts := y.corSts ||| 0x2000 }
    if sent ∧ ¬ ((t.fn f).cfg.get 0x114).getLsbD 13 ∧ t.errOn f 0 false then t.emit (.host 5 f 45) else t

/-! ## MSI-X (R406 to R409) -/

/-- HOLDOFF_US and THRESHOLD of a function (R406). -/
def Fn.holdoffUs (x : Fn) : Nat := wordField x.holdoff 0 8
def Fn.threshold (x : Fn) : Nat := wordField x.holdoff 8 8

/-- Sends the messages that wait in the PBA of unmasked vectors (R409). -/
def State.msixDrain (s : State) (f : Nat) : State :=
  let x := s.fn f
  if x.fmask ∨ ¬ s.msixOk f then s
  else ((List.range 65).filter fun v => x.pba.get v && x.unmasked.get v).foldl
    (fun t v => (t.updFn f fun y => { y with pba := y.pba.set v false }).msix f v) s

/-- A vector is coalescing: it serves only I/O CQs and its Coalescing Disable is 0 (R406). Features 09h by vector are
kept at 0x900 + vector. -/
def Fn.coalescing (x : Fn) (vec : Nat) : Bool :=
  vec != 0 && x.cqs.all (fun q => q.1 != 0 || q.2.vector != vec) && x.feats.get (0x900 + vec) == 0

/-- A CQE on a CQ with IEN set asks for its vector's message (R407, R408). -/
def State.signal (s : State) (f vec : Nat) : State :=
  let x := s.fn f
  if x.holdoffUs = 0 ∨ ¬ x.coalescing vec then s.msix f vec
  else
    let n := x.pendCnt.get vec + 1
    let t := s.updFn f fun y => { y with pendCnt := y.pendCnt.set vec n, timerAt := some (y.timerAt.getD s.now) }
    if x.threshold + 1 ≤ n then (t.updFn f fun y => { y with pendCnt := y.pendCnt.set vec 0 }).msix f vec
    else t.inc Reg.hiuDeferCnt

/-- The group timer expires (R408). -/
def State.holdoffExpiry (s : State) (f : Nat) : State :=
  let x := s.fn f
  if x.timerAt.any (· + x.holdoffUs * 500 ≤ s.now) then
    let vs := (List.range 65).filter fun v => x.pendCnt.get v != 0
    let t := s.updFn f fun y => { y with timerAt := none, pendCnt := {} }
    vs.foldl (fun t v => t.msix f v) t
  else s

/-! ## Posting a completion (R25, R164, R405) -/

/-- Adds to a 64-bit and to 32-bit counters of a tenant's statistics (R171). -/
def satNat (w a : Nat) : Nat := if a ≤ satMax w then a else satMax w

/-- The bin of a read within its bound in the latency histogram: bin i counts latencies from i/16 of the bound up to
(i + 1)/16 of it, and bin 15 takes the bound itself (Table 4-9). -/
def latencyBin (ticks bound : Nat) : Nat := min 15 (ticks * 16 / bound)

/-- A list with the element at `i` raised by one, saturating at 32 bits. -/
def bump (l : List Nat) (i : Nat) : List Nat :=
  (List.range (max l.length (i + 1))).map fun k => if k = i then satNat 32 (l.getD k 0 + 1) else l.getD k 0

/-- How a command fared against its bound: late, a bound exception (R123, R164), and the cause of the earliest event it met.
A late write that met none takes GC_DEBT while the factor is below 1 (R163). -/
structure Verdict where
  read  : Bool
  ticks : Nat
  late  : Bool
  exc   : Bool
  cause : Nat
deriving DecidableEq, Repr

def State.verdict (s : State) (x : Cmd) : Verdict :=
  let ticks := s.now - x.startAt
  let read := x.op = 0x02
  let late := x.bounded && decide (x.bound < ticks)
  let exc := late || (x.bounded && x.softUsed) || (x.bounded && x.status == some unrecovered) ||
    (x.bounded && x.beyond)
  let cause := if x.cause ≠ 0 then x.cause
    else if ¬ read ∧ s.gcFactor < 65536 then 9 else 15
  { read := read, ticks := ticks, late := late, exc := exc, cause := cause }

/-- The C3h counters of a Read or Write (R170, R171). -/
def Tenant.count (t : Tenant) (x : Cmd) (v : Verdict) : Tenant :=
  { t with
    readsBounded := if v.read ∧ x.bounded then satNat 64 (t.readsBounded + 1) else t.readsBounded,
    readsBest := if v.read ∧ ¬ x.bounded then satNat 64 (t.readsBest + 1) else t.readsBest,
    writesBounded := if ¬ v.read ∧ x.bounded then satNat 64 (t.writesBounded + 1) else t.writesBounded,
    writesBest := if ¬ v.read ∧ ¬ x.bounded then satNat 64 (t.writesBest + 1) else t.writesBest,
    rescued := if v.read ∧ x.bounded ∧ x.rescued ∧ ¬ v.late then satNat 64 (t.rescued + 1) else t.rescued,
    exceptions := if v.exc then satNat 64 (t.exceptions + 1) else t.exceptions,
    byCause := if v.exc then bump t.byCause v.cause else t.byCause,
    hist := if v.read ∧ x.bounded ∧ ¬ v.late then bump t.hist (latencyBin v.ticks x.bound) else t.hist,
    maxRead := if v.read ∧ x.bounded then max t.maxRead (satNat 32 v.ticks) else t.maxRead,
    maxWack := if ¬ v.read ∧ x.bounded then max t.maxWack (satNat 32 v.ticks) else t.maxWack }

/-- A 16-bit count by cause, raised by one. -/
def bump16 (l : List Nat) (i : Nat) : List Nat :=
  (List.range (max l.length (i + 1))).map fun k => if k = i then satNat 16 (l.getD k 0 + 1) else l.getD k 0

/-- The metering counts of an I/O command whose CQE is transmitted (R456, Table 11-7). Admin commands are not metered
(DEDUCED: R153 speaks of commands served beside Read and Write). `bytes` are those of its blocks. -/
def MCount.count (m : MCount) (x : Cmd) (v : Verdict) (bytes : Nat) : MCount :=
  let rw := x.op = 0x01 ∨ x.op = 0x02
  let m : MCount := { m with
    readOps := if x.op = 0x02 then satNat 32 (m.readOps + 1) else m.readOps,
    writeOps := if x.op = 0x01 ∨ x.op = 0x08 then satNat 32 (m.writeOps + 1) else m.writeOps,
    other := if x.op = 0x01 ∨ x.op = 0x02 ∨ x.op = 0x08 then m.other else satNat 32 (m.other + 1),
    readBytes := if x.op = 0x02 then
        satNat 64 (m.readBytes + min bytes (4096 * (x.units.filter (·.phase == .issued)).length)) else m.readBytes,
    writeBytes := if x.op = 0x01 ∧ ¬ x.wids.isEmpty then satNat 64 (m.writeBytes + bytes) else m.writeBytes }
  if ¬ rw then m
  else
    { m with
      readsB := if v.read ∧ x.bounded then satNat 32 (m.readsB + 1) else m.readsB,
      readsBe := if v.read ∧ ¬ x.bounded then satNat 32 (m.readsBe + 1) else m.readsBe,
      writesB := if ¬ v.read ∧ x.bounded then satNat 32 (m.writesB + 1) else m.writesB,
      writesBe := if ¬ v.read ∧ ¬ x.bounded then satNat 32 (m.writesBe + 1) else m.writesBe,
      exc := if v.exc then bump16 m.exc v.cause else m.exc }

/-- The bytes of a command's logical blocks. -/
def State.cmdBytes (s : State) (x : Cmd) : Nat := x.nlb * (if (s.nss.get x.nsid).lba512 then 512 else 4096)

/-- Measures an I/O command at its end point (R153, R154, R156, R157, R164, R170, R456). -/
def State.measure (s : State) (x : Cmd) : State :=
  if x.admin then s
  else
    let v := s.verdict x
    let rw := x.op = 0x01 ∨ x.op = 0x02
    let t : State := if rw then { s with tenants := s.tenants.modify x.id.fn (·.count x v) } else s
    let t : State := if t.mtr.minute.isSome ∧ 1 ≤ x.id.fn then
        { t with mtr := { t.mtr with counts := t.mtr.counts.modify x.id.fn (·.count x v (s.cmdBytes x)) } }
      else t
    if ¬ rw then t
    else t.updFn x.id.fn fun y =>
      let blocks := s.cmdBytes x / 512
      if v.read then { y with nRead := y.nRead + 1, unitsRead := y.unitsRead + blocks }
      else { y with nWrite := y.nWrite + 1, unitsWrite := y.unitsWrite + blocks }

/-- The completion queue of a command's submission queue. -/
def State.cqOf (s : State) (c : CmdId) : Nat := ((lookupKey c.qid (s.fn c.fn).sqs).map (·.cqid)).getD 0

/-- Changes a queue of a function. -/
def State.updSq (s : State) (f qid : Nat) (g : Sq → Sq) : State :=
  s.updFn f fun x => { x with sqs := x.sqs.map fun p => if p.1 = qid then (p.1, g p.2) else p }
def State.updCq (s : State) (f qid : Nat) (g : Cq → Cq) : State :=
  s.updFn f fun x => { x with cqs := x.cqs.map fun p => if p.1 = qid then (p.1, g p.2) else p }

/-- The entry that a CQ's next CQE takes. -/
def Cq.slot (k : Cq) : Nat := (k.head + k.used) % k.size

/-- Writes a CQE into a CQ, without Relaxed Ordering (R347); the phase turns at the end of the ring, and the CQ's vector is signalled
after the CQE where interrupts are enabled (R407). -/
def State.writeCqe (s : State) (c : CmdId) (q : Nat) (k : Cq) (status : Nat) (dnr : Bool) (dw0 : Word) : State :=
  let t := s.updCq c.fn q fun y => { y with used := y.used + 1, phase := if y.slot + 1 = y.size then !y.phase else y.phase }
  let t := t.toHost (.tlp { fn := c.fn, off := (k.base + k.slot * 16) % 4096, len := 16, write := true })
  let t := t.emit (.cqe c.fn c.qid c.cid status dnr dw0)
  if k.ien then t.signal c.fn k.vector else t

/-- CQE_POST: a command with a status has its completion written, is measured, and ends (R25, R164, R405). A CQE that finds its CQ
full, or its function held, or that the host's flow control holds, waits (R405, R410, Table 4-6), and so does one whose address has
no translation yet (R351, R353), and one whose command's data has not gone out yet (R25). What is left of the command's reads ends
with it. -/
def State.cqePost (s : State) (c : CmdId) (held : Bool) : State :=
  match s.cmd? c with
  | none => s
  | some x =>
    match x.status with
    | none => s
    | some st =>
      let q := s.cqOf c
      match lookupKey q (s.fn c.fn).cqs with
      | none => s
      | some k =>
        let page := (k.base + k.slot * 16) / 4096
        if s.internBusy (fun _ x => x == some c) then s
        else if held ∨ ¬ s.dmaOk c.fn ∨ (s.fn c.fn).life = .flr then s.meet c 7
        else if k.size ≤ k.used + 1 then
          let t := if (s.fn c.fn).cqWaits.contains c then s
            else ((s.inc Reg.qenCqWaitCnt).raise Reg.qenEvent 3).updFn c.fn fun y => { y with cqWaits := c :: y.cqWaits }
          t.meet c 7
        else if ¬ s.xlatOk c.fn page then (s.meet c 7).askXlat c.fn page
        else
          let s := if s.linkSlow then s.meet c 7 else s
          let s := if (s.fn c.fn).ats then s.inc Reg.hptAtcHitCnt else s
          let t := (s.measure ((s.cmd? c).getD x)).updFn c.fn fun y => { y with cqWaits := y.cqWaits.filter (· != c) }
          let t := ((t.endReads x).dropAdms (·.cmd == c)).dropCmd c
          t.writeCqe c q k st x.dnr x.dw0

def execCqePost (c : CqeTurn) (s : State) : Result := .next (s.whenLive (·.cqePost c.cmd c.held))
def execHoldoffTimerExpiry (fn : Nat) (s : State) : Result := .next (s.whenLive (·.holdoffExpiry fn))

/-- Unmasking a vector, or with none named the function, sends what waits (R409). -/
def State.msixUnmask (s : State) (f : Nat) (vec : Option Nat) : State :=
  (match vec with
   | some v => s.updFn f fun y => { y with unmasked := y.unmasked.set v true }
   | none => s.updFn f fun y => { y with fmask := false }).msixDrain f

def execMsixUnmask (fn : Nat) (vec : Option Nat) (s : State) : Result := .next (s.whenLive (·.msixUnmask fn vec))

/-! ## Resets of a function (R413 to R415) -/

/-- Ends a function's work as FLR does (Table 10-9): host DMA and fetch stop, requests are abandoned, FILLING writes and
reads in flight are discarded, nothing is completed. -/
def State.endWork (s : State) (f : Nat) : State :=
  let t := (s.abandonNp (·.fn == f) true).dropCmds fun x => x.id.fn == f
  { t with aens := t.aens.filter (·.1 != f) }

/-- The C3h counters of a function start again (R171). -/
def Tenant.cleared (x : Tenant) : Tenant :=
  { x with readsBounded := 0, readsBest := 0, writesBounded := 0, writesBest := 0, rescued := 0, exceptions := 0,
           byCause := [], hist := [], maxRead := 0, maxWack := 0 }

/-- Shows the I/O SQs in existence (Table 10-14). With LTR enabled, a message follows where the first queue is made or
the last goes: no requirement without an I/O queue, 10 µs otherwise (Table 9-1). -/
def State.showQueues (s : State) : State :=
  let n := min 65535 ((s.fns.entries.map fun e => (e.2.sqs.filter (·.1 != 0)).length).sum)
  let t := s.setNum Reg.qenStatus n
  if ((s.fn 0).cfg.get 0x88).getLsbD 10 ∧ ((s.num Reg.qenStatus = 0) ≠ (n = 0)) then t.emit (.host 12 0 (if n = 0 then 0 else 10))
  else t

/-- Fails a command: what it fetches is discarded, its units let their staging go, and it completes with the status. -/
def State.failCmd (s : State) (c : CmdId) (status : Nat) : State :=
  match s.cmd? c with
  | none => s
  | some x =>
    let t := ((s.endReads x).dropAdms (·.cmd == c)).discardFilling fun w => w.cmd == some c
    let t := t.updCmd c fun y => { y with units := [], filling := false, held := false, toFetch := 0, toEnc := 0, lists := 0 }
    t.finish c status

/-- Data Transfer Error. -/
abbrev dataTransferError : Nat := nvmeStatus 0 0x04

/-- A controller reset (R413): queues go, commands end without completion; the configuration space, the MSI-X table and
the admin queue registers stay, and so does what R415 adds for an FLR. CSTS.RDY falls with CONTROLLER_RESET_DONE. In a recovery boot PF0's
CSTS.CFS stays 1 (R598). -/
def State.ctlReset (s : State) (f : Nat) : State :=
  let t := (s.endWork f).updFn f fun x =>
    { x with sqs := [], cqs := [], pendCnt := {}, timerAt := none, cfs := f == 0 && s.bit Reg.pwrStatus 4, cqWaits := [], resetting := true,
             cc := x.cc &&& 0xFFFFFFFE }
  State.showQueues { t with tenants := t.tenants.modify f Tenant.cleared }

end Sys2Proof.Machine
end

