-- ==== Sys2Proof/Machine/Event.lean ====
section
/-! DEFINITION. The Event Controller (chapter 13): sources, eligibility, claim and completion, level sources, hold-off
groups, watchdogs and fault sources. -/
namespace Sys2Proof.Machine

/-! ## Priority and eligibility (R525, R526) -/

def State.srcPending (s : State) (n : Nat) : Bool := s.bit (Reg.evcSrcStatus n) 0
def State.srcActive (s : State) (n : Nat) : Bool := s.bit (Reg.evcSrcStatus n) 1
/-- EVC_CTL.GDIS (R527). -/
def State.gdis (s : State) : Bool := s.bit Reg.evcCtl 0
/-- The tier width: TIER_BITS, with 9 to 15 acting as 8 (Table 13-12). -/
def State.tierWidth (s : State) : Nat := min 8 (s.field Reg.evcCtl 8 4)
def State.priority (s : State) (n : Nat) : Nat := s.field (Reg.evcSrcCfg n) 0 8
/-- The top t bits of PRIORITY (R525). -/
def State.tier (s : State) (n : Nat) : Nat := s.priority n / 2 ^ (8 - s.tierWidth)
/-- The hold-off group a source belongs to (R534). -/
def State.holdGroupOf (s : State) (n : Nat) : Option Nat :=
  if s.bit (Reg.evcSrcCfg n) 22 then some (s.field (Reg.evcSrcCfg n) 16 6) else none
/-- A source is held while its group, with a HOLDOFF that is not 0, is HOLDING (R534). -/
def State.srcHeld (s : State) (n : Nat) : Bool :=
  match s.holdGroupOf n with
  | some g => s.field (Reg.evcHoldoff g) 0 16 != 0 && s.field (Reg.evcHoldoff g) 16 2 == 1
  | none => false

/-- A core's stack, its top first, and whether it is frozen. -/
def State.stack (s : State) (c : Nat) : List Nat := s.evc.claims.get c
def State.stackFrozen (s : State) (c : Nat) : Bool := s.evc.frozen.get c
/-- Whether a source is on any core's stack. -/
def State.onStack (s : State) (n : Nat) : Bool := s.evc.claims.entries.any (·.2.contains n)

/-- Eligibility of a source for a core (R526). -/
def State.eligible (s : State) (c n : Nat) : Bool :=
  s.srcPending n && s.bit (Reg.evcSrcCfg n) 11 && s.field (Reg.evcSrcCfg n) 8 3 == c && !s.onStack n && !s.srcHeld n &&
    !s.stackFrozen c && decide ((s.stack c).length < 16) &&
    (match s.stack c with | [] => true | top :: _ => decide (s.tier n < s.tier top)) && !s.gdis

/-- The sources whose PENDING bit is set, in rising order. -/
def State.pendingSources (s : State) : List Nat :=
  s.regs.entries.filterMap fun e =>
    if 0xF02000 ≤ e.1 ∧ e.1 < 0xF03000 ∧ e.2.getLsbD 0 then some ((e.1 - 0xF02000) / 4) else none

/-- Of two sources the one of lower PRIORITY, and the lower number where the priorities are equal (R525). -/
def State.rank (s : State) (a b : Nat) : Nat :=
  if s.priority b < s.priority a ∨ (s.priority b = s.priority a ∧ b < a) then b else a

/-- The eligible source that R525 ranks first for a core. -/
def State.bestSource (s : State) (c : Nat) : Option Nat :=
  match s.pendingSources.filter (s.eligible c) with
  | [] => none
  | n :: rest => some (rest.foldl s.rank n)

/-- The machine external interrupt of a core (R526). -/
def State.coreIrq (s : State) (c : Nat) : Bool := (s.bestSource c).isSome

/-! ## Pending -/

/-- An OPEN group returns to IDLE when none of its sources is pending; one with HOLDOFF 0 stays OPEN (R534). -/
def State.idleGroup (s : State) (src : Nat) : State :=
  match s.holdGroupOf src with
  | some g =>
    if s.field (Reg.evcHoldoff g) 16 2 = 2 ∧ s.field (Reg.evcHoldoff g) 0 16 ≠ 0 ∧ ¬ s.pendingSources.any (fun n => s.holdGroupOf n == some g) then
      s.setField (Reg.evcHoldoff g) 16 2 0
    else s
  | none => s

/-- Clears PENDING of a source. -/
def State.unpend (s : State) (n : Nat) : State :=
  if s.srcPending n then (s.setBit (Reg.evcSrcStatus n) 0 false).idleGroup n else s

/-- A level source's input as its polarity makes it active (R533). Sources 1013 to 1023 are always inactive. -/
def State.levelActive (s : State) (n : Nat) : Bool :=
  decide (992 ≤ n) && decide (n ≤ 1012) && (s.evc.pins.get n != s.bit (Reg.evcSrcCfg n) 12)

/-- Brings LIVE and PENDING of a level source to its input: PENDING while the input is active and the source is not
ACTIVE (R533). LIVE shows the input as active (DEDUCED: the handler of chapter 13 quietens the device where LIVE is 1). -/
def State.relevel (s : State) (n : Nat) : State :=
  if n < 992 then s
  else
    let act := s.levelActive n
    let t := s.setBit (Reg.evcSrcStatus n) 2 act
    if t.srcActive n then t
    else if act then (if t.srcPending n then t else t.pend n)
    else t.unpend n

/-- A ring write of a requester (R522, R523): dropped and counted for a reserved or level source, or outside what the
requester may name. -/
def State.ringWrite (s : State) (by_ : Requester) (n : Nat) : State :=
  let may := match by_ with
    | .pf0 => decide (n ≤ 15)
    | .core c => if c < 6 then messageSource n else decide (n ≤ 15) || (decide (896 ≤ n) && decide (n ≤ 991))
  if may then s.ring n else s.countErr .evc Reg.evcRingDropCnt

/-- EVC_UNPEND (R524): a message source that is not active. -/
def State.unpendWrite (s : State) (n : Nat) : State :=
  if n < 992 ∧ ¬ s.srcActive n then s.unpend n else s

/-! ## Claim and completion (R528 to R532) -/

/-- The claim read's value: SOURCE, VALID and PRIORITY (Table 13-11). -/
def claimWord (n prio : Nat) : Word := BitVec.ofNat 32 (n + 2 ^ 16 + prio * 2 ^ 24)

/-- A core's own claim: what the read returns, and what it leaves (R528). -/
def State.claimRead (s : State) (c : Nat) : Word × State :=
  match s.bestSource c with
  | none => (0, s)
  | some n =>
    let t : State := { s with evc := { s.evc with claims := s.evc.claims.set c (n :: s.stack c) } }
    (claimWord n (s.priority n), (t.setBit (Reg.evcSrcStatus n) 1 true).unpend n)
def State.claimSource (s : State) (c : Nat) : State := (s.claimRead c).2.emit (.read (s.claimRead c).1)

/-- Pops the top of a core's stack and clears its ACTIVE; a level source whose input is active pends again (R530). -/
def State.popTop (s : State) (c : Nat) : State :=
  match s.stack c with
  | [] => s
  | n :: rest =>
    let t : State := { s with evc := { s.evc with claims := s.evc.claims.set c rest } }
    (t.setBit (Reg.evcSrcStatus n) 1 false).relevel n

/-- A core's completion (R530, R531). -/
def State.complete (s : State) (c n : Nat) : State :=
  if s.stackFrozen c then s
  else if (s.stack c).head? = some n then s.popTop c
  else
    let t : State := { s with evc := { s.evc with frozen := s.evc.frozen.set c true } }
    (t.raiseFault c 1).countErr .evc Reg.evcStackFaultCnt c

/-- EVC_COREn_STACK_RESET (R532). -/
def State.stackReset (s : State) (c : Nat) : State :=
  let t := (List.range (s.stack c).length).foldl (fun u _ => u.popTop c) s
  let t : State := { t with evc := { t.evc with frozen := t.evc.frozen.set c false } }
  t.setBit (Reg.evcCoreFault c) 1 false

/-- A per-core register acts only for its own core; cores 6 and 7 take an ACCESS fault at another core's (R552). A read
by anyone else returns 0. -/
def State.ownCore (s : State) (by_ : Requester) (core off : Nat) (read : Bool) (f : State → State) : State :=
  if by_ = .core core then s.whenLive f
  else
    let t := s.whenLive fun u => match by_ with
      | .core c => if 6 ≤ c then u.accessFault c (coreRegBase + off) else u
      | .pf0 => u
    if read then t.whenLive (·.emit (.read 0)) else t

/-! ## Level sources and hold-off groups -/

/-- A level-shim input changes (R533), which Watch sees without the rails too (R536). ATTN_BTN_N high again, the button is no longer
pressed (Table 9-17). -/
def State.levelChange (s : State) (n : Nat) (high : Bool) : State :=
  if 992 ≤ n ∧ n ≤ 1012 then
    State.whenLive { s with evc := { s.evc with pins := s.evc.pins.set n high } } fun t =>
      (t.relevel n).when (n == 1011 && high) (·.setBit Reg.sppStatus 1 false)
  else s

/-- A group's timer expires no earlier than HOLDOFF µs after its start (R534). -/
def State.groupExpiry (s : State) (g : Nat) : State :=
  if s.field (Reg.evcHoldoff g) 16 2 = 1 ∧ s.evc.holdAt.get g + s.field (Reg.evcHoldoff g) 0 16 * 500 ≤ s.now then
    let t := s.setField (Reg.evcHoldoff g) 16 2 2
    if t.pendingSources.any (fun n => t.holdGroupOf n == some g) then t else t.setField (Reg.evcHoldoff g) 16 2 0
  else s

/-! ## Watchdogs (R520) -/

/-- Starts a core's watchdog period; `first` says that the first period has expired. -/
def State.startWatchdog (s : State) (c : Nat) (first : Bool) : State :=
  { s with evc := { s.evc with wdog := s.evc.wdog.set c first, wdogAt := s.evc.wdogAt.set c s.now } }

/-- A write of EVC_COREn_WDOG: TIMEOUT is stored and the watchdog restarts. -/
def State.watchdogWrite (s : State) (c : Nat) (v : Word) : State :=
  (s.setReg (Reg.evcCoreWdog c) (v &&& 0xFFFF)).startWatchdog c false

/-- TIMEOUT ms have passed since the period began; a TIMEOUT of 0 disables the watchdog. -/
def State.watchdogDue (s : State) (c : Nat) : Bool :=
  let ms := s.field (Reg.evcCoreWdog c) 0 16
  ms != 0 && decide (s.evc.wdogAt.get c + ms * 500000 ≤ s.now)

/-- The first expiry raises fault source 2. -/
def State.watchdogFirst (s : State) (c : Nat) : State :=
  if s.watchdogDue c ∧ ¬ s.evc.wdog.get c then (s.startWatchdog c true).raiseFault c 2 else s

/-- A core reset (R520, R611): the crossings into its domain flush, and it restarts. A management request that core 4 or
5 was serving, which stands in the mailbox until it is answered, ends without a response (Table 15-6). -/
def State.watchdogSecond (s : State) (c : Nat) : State :=
  if s.watchdogDue c ∧ s.evc.wdog.get c then
    let t := ((s.startWatchdog c false).countErr .evc Reg.evcWdogCnt c).domainReset Reg.pwrDomainSeen c
    if c = 4 ∨ c = 5 then { t with hpt := { t.hpt with doe := none } } else t
  else s

/-! ## Meanings -/

def execEvcRing (by_ : Requester) (src : Nat) (s : State) : Result := .next (s.whenLive (·.ringWrite by_ src))
def execEvcUnpend (by_ : Requester) (src : Nat) (s : State) : Result :=
  .next (s.byCore by_ Reg.evcUnpend (·.unpendWrite src))
def execEvcClaim (by_ : Requester) (core : Nat) (s : State) : Result :=
  .next (s.ownCore by_ core (Reg.evcCoreClaim core) true (·.claimSource core))
def execEvcComplete (by_ : Requester) (core src : Nat) (s : State) : Result :=
  .next (s.ownCore by_ core (Reg.evcCoreComplete core) false (·.complete core src))
def execEvcStackReset (by_ : Requester) (core : Nat) (s : State) : Result :=
  .next (s.ownCore by_ core (Reg.evcCoreStackReset core) false (·.stackReset core))
/-- EVC_CTL written (R527, Table 13-12); core-only. -/
def execEvcGdisWrite (by_ : Requester) (v : Word) (s : State) : Result :=
  .next (s.byCore by_ Reg.evcCtl (·.setReg Reg.evcCtl (v &&& 0xF01)))
def execLevelSourceChange (src : Nat) (high : Bool) (s : State) : Result := .next (s.levelChange src high)
def execHoldoffGroupExpiry (g : Nat) (s : State) : Result := .next (s.whenLive (·.groupExpiry g))
def execWatchdogRestart (by_ : Requester) (core : Nat) (v : Word) (s : State) : Result :=
  .next (s.ownCore by_ core (Reg.evcCoreWdog core) false (·.watchdogWrite core v))
def execWatchdogExpiry (core : Nat) (s : State) : Result := .next (s.whenLive (·.watchdogFirst core))
def execWatchdogCoreReset (core : Nat) (s : State) : Result := .next (s.whenLive (·.watchdogSecond core))
/-- A core's access outside its allowance, to an unmapped address, or answered with a bus error (R519). A read returns
0. -/
def execCoreAccessFault (core : Nat) (addr : BitVec 38) (write : Bool) (s : State) : Result :=
  .next (s.whenLive fun t =>
    let u := t.accessFault core addr.toNat
    if write then u else u.emit (.read 0))
/-- An uncorrectable ECC error in a core's code and data SRAM (Table 13-4, R602). Table 13-4 gives fault source 3; the
SRAM's error is counted, and its address, which the row does not carry, is a free value. -/
def execCoreEccFault (core : Nat) (s : State) : Result :=
  .next (s.whenLive fun t =>
    let u := ((t.setReg Reg.srmErrAddr (t.freeVal.setWidth 32)).drawn.countErr .srm Reg.srmUeCnt core).raise Reg.srmEvent 1
    u.raiseFault core 3)

end Sys2Proof.Machine
end

