-- ==== Sys2Proof/Machine/Watch.lean ====
section
/-! DEFINITION. Watch (chapter 13): wake sources and level-shim pins in and outside Quiet. -/
namespace Sys2Proof.Machine

/-- WAKE_N driven low, with the latched PME_En (R538). -/
def State.driveWake (s : State) : State :=
  if s.aow.pmeEn ∧ ¬ s.bit Reg.aowStatus 1 then (s.setBit Reg.aowStatus 1 true).emit (.pin .wakeN false) else s

/-- The level-shim pins that are active under a word of polarities (R536): bit k for source 992 + k. -/
def State.activePins (s : State) (pol : Word) : Word :=
  BitVec.ofNat 32 (((List.range 21).map fun k => if s.evc.pins.get (992 + k) != pol.getLsbD k then 2 ^ k else 0).sum)

/-- In Quiet, armed sources and pins that become active set their cause bits and drive WAKE_N (R536, R538). Wake sources
4 to 31 never fire; the alarm has its own command. -/
def State.wake (s : State) (wakeBits pinBits : Word) : State :=
  if s.pwr.supply = .quiet then
    let w := wakeBits &&& s.aow.wakeEn &&& 0xE
    let p := pinBits &&& s.aow.pinEn &&& s.activePins s.aow.pinPol
    if w = 0 ∧ p = 0 then s
    else
      ((s.setReg Reg.aowWakeCause (s.reg Reg.aowWakeCause ||| w)).setReg Reg.aowPinCause (s.reg Reg.aowPinCause ||| p)).driveWake
  else s

/-- The alarm's delay has elapsed after Quiet entry; a delay of 0 disables it (R536, Table 13-15). -/
def State.alarm (s : State) : State :=
  if s.pwr.supply = .quiet ∧ s.aow.wakeEn.getLsbD 0 ∧ s.reg Reg.aowAlarm ≠ 0 then
    (s.setBit Reg.aowWakeCause 0 true).driveWake
  else s

/-- Outside Quiet an enabled pin becomes active under its polarity (R536, Table 13-14). -/
def State.watchPin (s : State) (k : Nat) : State :=
  if s.pwr.supply = .on ∧ k < 21 ∧ s.bit Reg.aowPinEn k ∧ (s.activePins (s.reg Reg.aowPinPol)).getLsbD k then s.raise Reg.aowEvent 1 else s

/-- PMCSR of PF0 (Table 9-4): PME_En. -/
def State.pmeEnabled (s : State) : Bool := ((s.fn 0).cfg.get 0x44).getLsbD 8

/-- Outside Quiet an enabled wake source fires: PF0 in D3hot with PME_En set sends PM_PME and sets PME_Status (R607).
The alarm, source 0, runs from Quiet entry only. -/
def State.wakeSource (s : State) (k : Nat) : State :=
  if s.pwr.supply = .on ∧ 1 ≤ k ∧ k < 4 ∧ s.bit Reg.aowWakeEn k ∧ (s.fn 0).d3hot ∧ s.pmeEnabled then
    (s.updFn 0 fun x => { x with cfg := x.cfg.set 0x44 (x.cfg.get 0x44 ||| 0x8000) }).emit (.host 2 0 0)
  else s

/-- Clears every register of an address range to its reset value. -/
def State.resetRange (s : State) (lo hi : Nat) : State :=
  { s with regs := ⟨s.regs.entries.filter fun e => !(decide (lo ≤ e.1) && decide (e.1 < hi))⟩ }

/-- VDD_AO is applied to a device without power: the AOW registers reset and Watch starts (R536, Table 15-7). -/
def State.vddAo (s : State) : State :=
  if s.pwr.supply = .off then
    State.resetRange { s with pwr := { s.pwr with supply := .watchOnly }, aow := {} } 0x1000000 0x1100000
  else s

/-- Entry into Quiet: Watch latches what wakes it (R537). -/
def State.latchWatch (s : State) : State :=
  let t : State := { s with aow := { wakeEn := s.reg Reg.aowWakeEn, pinEn := s.reg Reg.aowPinEn,
                                     pinPol := s.reg Reg.aowPinPol, pmeEn := s.pmeEnabled } }
  (t.setBit Reg.aowStatus 2 s.pmeEnabled).inc Reg.aowQuietCnt

/-- WAKE_N is released (R538). -/
def State.releaseWake (s : State) : State :=
  if s.bit Reg.aowStatus 1 then (s.setBit Reg.aowStatus 1 false).emit (.pin .wakeN true) else s

def execWatchWake (wakeBits pinBits : Word) (s : State) : Result := .next (s.wake wakeBits pinBits)
def execAowAlarmExpiry (s : State) : Result := .next s.alarm
def execWatchPinEvent (pin : PinIdx) (s : State) : Result := .next (s.watchPin pin)
def execWakeSourceFires (bit : Nat) (s : State) : Result := .next (s.wakeSource bit)
def execVddAoApplied (s : State) : Result := .next s.vddAo

end Sys2Proof.Machine
end

