-- ==== Sys2Proof/Machine/ServiceDma.lean ====
section
/-! DEFINITION. The Service DMA (chapter 13): ownership, descriptors, the order of service, pacing, hand-over, and how
lists end. -/
namespace Sys2Proof.Machine

/-! ## Ownership and spaces (R540, Table 13-6) -/

/-- Whether a requester owns a channel. -/
def ownsChannel (by_ : Requester) (ch : Nat) : Bool :=
  match by_ with
  | .pf0 => ch = 4 || ch = 5
  | .core c => if ch < 4 then c < 6 else if ch < 6 then c = 4 || c = 5 else c = 6 || c = 7

/-- An effect on a channel's registers by its owner; from anyone else it is discarded, and at a channel outside their
allowance cores 6 and 7 take an ACCESS fault (R518, R519, R540). -/
def State.byOwner (s : State) (by_ : Requester) (ch off : Nat) (f : State → State) : State :=
  s.whenLive fun t =>
    if ownsChannel by_ ch then f t
    else match by_ with
      | .core c => if 6 ≤ c then t.accessFault c (coreRegBase + off) else t
      | .pf0 => t

/-- Whether a range of addresses lies within [lo, hi). -/
def within (a n lo hi : Nat) : Bool := decide (lo ≤ a) && decide (a + n ≤ hi)

/-- The telemetry buffers, the metering archive and the event log in device space (R600, Table 1-5). -/
def telemetryRegion (a n : Nat) : Bool := within a n 0x20B1100000 0x20B2100000
def archiveRegion (a n : Nat) : Bool := within a n 0x2080000000 0x20AD100000
def eventLogRegion (a n : Nat) : Bool := within a n 0x20B2100000 0x20B2200000

/-- A range of the register space that cores 6 and 7 may read or write (Table 13-2). -/
def extRegRange (a n : Nat) (write : Bool) : Bool :=
  let r (lo hi : Nat) := within a n (coreRegBase + lo) (coreRegBase + hi)
  (!write && (r 0 0x100000 || r 0x1000000 0x1100000 || r 0x400000 0x500000)) || r 0x1200000 0x1400000 ||
    r 0x1100000 0x1100020 || r 0x1101600 0x1101800 || r 0xF00010 0xF00014 || r 0xF001C0 0xF00200

/-- Addresses of a region of Table 13-2. -/
def mappedDevice (a n : Nat) : Bool :=
  within a n 0 0x40000 || within a n 0x10000000 0x10800000 || within a n 0x40000000 0x44000000 ||
    within a n 0x80000000 0x8A000000 || within a n 0x100000000 0x200000000 || within a n 0x2000000000 0x4000000000

/-- Device space that a channel may use (Table 13-6): channels 0 to 3 all of it that is mapped; 4 and 5 only to read the telemetry
buffers, the metering archive and the event log; 6 and 7 what Table 13-2 allows their cores. -/
def deviceAllowed (ch a n : Nat) (write : Bool) : Bool :=
  if ch < 4 then mappedDevice a n
  else if ch < 6 then !write && (telemetryRegion a n || archiveRegion a n || eventLogRegion a n)
  else within a n 0x10600000 0x10800000 || extRegRange a n write || within a n 0x100000000 0x200000000 ||
    (!write && telemetryRegion a n)

/-- Whether a side of a transfer is allowed: host space but for channels 6 and 7, or device space. -/
def sideAllowed (ch : Nat) (host : Bool) (a n : Nat) (write : Bool) : Bool :=
  if host then ch < 6 else deviceAllowed ch a n write

end Sys2Proof.Machine

namespace Sys2Proof

/-! ## Descriptors (R541 to R543) -/

def SdmDesc.op (d : SdmDesc) : Nat := Machine.wordField d.ctl 0 2
def SdmDesc.srcFixed (d : SdmDesc) : Bool := d.ctl.getLsbD 2
def SdmDesc.dstFixed (d : SdmDesc) : Bool := d.ctl.getLsbD 3
def SdmDesc.irq (d : SdmDesc) : Bool := d.ctl.getLsbD 4
def SdmDesc.isLast (d : SdmDesc) : Bool := d.ctl.getLsbD 5
def SdmDesc.srcHost (d : SdmDesc) : Bool := d.ctl.getLsbD 6
def SdmDesc.dstHost (d : SdmDesc) : Bool := d.ctl.getLsbD 7
def SdmDesc.len (d : SdmDesc) : Nat := Machine.wordField d.length 0 24

/-- A malformed descriptor, but for its spaces (R543). A fixed side, and FILL, need multiples of 8. -/
def SdmDesc.malformed (d : SdmDesc) : Bool :=
  d.op == 3 || d.ctl.toNat / 256 != 0 || d.length.toNat / 2 ^ 24 != 0 || d.len == 0 ||
  (!d.isLast && d.next.toNat % 32 != 0) ||
  ((d.op == 1 || d.srcFixed || d.dstFixed) && d.len % 8 != 0) ||
  ((d.op == 1 || d.dstFixed) && d.dst.toNat % 8 != 0) ||
  (d.op != 1 && d.srcFixed && d.src.toNat % 8 != 0)

/-- Its spaces lie within the channel's allowance; SRC is a constant for FILL, and DST is only read for COMPARE. -/
def SdmDesc.allowed (d : SdmDesc) (ch : Nat) : Bool :=
  let n (fixed : Bool) := if fixed then 8 else d.len
  (d.op == 1 || Machine.sideAllowed ch d.srcHost d.src.toNat (n d.srcFixed) false) &&
    Machine.sideAllowed ch d.dstHost d.dst.toNat (n d.dstFixed) (d.op != 2)

/-- A descriptor that uses host space. -/
def SdmDesc.usesHost (d : SdmDesc) : Bool := (d.op != 1 && d.srcHost) || d.dstHost

end Sys2Proof

namespace Sys2Proof.Machine

/-! ## Channels -/

def State.sdmCh (s : State) (ch : Nat) : SdmCh := s.sdm.chs.get ch
def State.updSdm (s : State) (ch : Nat) (f : SdmCh → SdmCh) : State :=
  { s with sdm := { s.sdm with chs := s.sdm.chs.modify ch f } }

/-- STATE and CAUSE of a channel (Table 13-17). -/
def State.sdmState (s : State) (ch : Nat) : Nat := s.field (Reg.sdmChStatus ch) 0 3
def State.setSdmState (s : State) (ch st : Nat) : State := s.setField (Reg.sdmChStatus ch) 0 3 st

/-- The fill level of a pacing source (Table 13-8), as SDM_PACE_LEVELp shows it. -/
def State.paceLevel (s : State) (p : Nat) : Nat :=
  (if p = 1 then (s.num Reg.tlnBufProd + 262144 - s.num Reg.tlnBufCons) % 262144
   else if p = 2 then (s.num Reg.pwrEvlogProd + 2 ^ 32 - s.num Reg.pwrEvlogCons) % 2 ^ 32
   else if p = 3 then (s.mtr.archive.filter fun m => decide (s.mtr.archCons ≤ m.minute)).length
   else 0) % 2 ^ 20

/-- The pacing source of a configuration word: 4 to 7 act as 0 (Table 13-8). -/
def paceSrc (cfg : Word) : Nat := let p := wordField cfg 1 3; if p ≤ 3 then p else 0
/-- Whether pacing lets a channel run: unpaced, or the level at least HIGH (R545). -/
def State.paceHigh (s : State) (ch : Nat) : Bool :=
  let p := paceSrc (s.reg (Reg.sdmChActiveCfg ch))
  p == 0 || decide (s.field (Reg.sdmChActivePace ch) 0 16 ≤ s.paceLevel p)
/-- Whether a paced channel pauses after a descriptor: the level at or below LOW (R545). -/
def State.paceLow (s : State) (ch : Nat) : Bool :=
  let p := paceSrc (s.reg (Reg.sdmChActiveCfg ch))
  p != 0 && decide (s.paceLevel p ≤ s.field (Reg.sdmChActivePace ch) 16 16)

/-- A channel is ready: an active list that has not ended and does not wait for its level (R544). -/
def State.sdmReady (s : State) (ch : Nat) : Bool := (s.sdmCh ch).active && !(s.sdmCh ch).paused

/-- A list's transfers in host space: its descriptors' or its data's. -/
def State.sdmHost (s : State) (ch : Nat) : Bool :=
  s.bit (Reg.sdmChActiveCfg ch) 0 || (s.sdmCh ch).desc.any (·.usesHost)

/-- Shows SDM_STATUS. -/
def State.showSdm (s : State) : State :=
  let ready := ((List.range 8).map fun c => if s.sdmReady c then 2 ^ c else 0).sum
  s.setNum Reg.sdmStatus (ready + (match s.sdm.running with | some r => r * 256 + 2048 | none => 0))

/-- The host-space transfers of the running channel's descriptor, and of the descriptor itself where the list lies in host space,
in unowned HOST_FETCH and HOST_DELIVER capacity; its writes may carry Relaxed Ordering (R84, R347). -/
def State.sdmMove (s : State) (ch : Nat) : State :=
  match (s.sdmCh ch).desc with
  | none => s
  | some d =>
    let get (on : Bool) (addr len : Nat) (t : State) : State := if on then t.internalRead .sdm 0 none addr len else t
    let put := if d.op ≠ 2 ∧ d.dstHost then s.writeTlps 0 (d.dst.toNat % 4096) d.len true false else []
    let t := get (d.op = 2 ∧ d.dstHost) (d.dst.toNat % 4096) d.len (get (d.op ≠ 1 ∧ d.srcHost) (d.src.toNat % 4096) d.len
      (get (s.bit (Reg.sdmChActiveCfg ch) 0) (s.num (Reg.sdmChCurDescLo ch)) 32 (s.updSdm ch fun x => { x with bad := false })))
    if put.isEmpty then t else t.internal { kind := .sdm, deliver := true, units := unitsOf d.len, outs := put }

/-- A list that waits for the engine while its level has fallen below HIGH is not ready (R545). -/
def State.sdmStall (s : State) : State :=
  (List.range 8).foldl (fun t c =>
    if t.sdmReady c ∧ t.sdm.running ≠ some c ∧ ¬ t.paceHigh c then (t.updSdm c fun x => { x with paused := true }).setSdmState c 3
    else t) s

/-- The engine, when free, starts the lowest-numbered ready channel (R544). A host-space transfer without Bus Master
Enable is held (R551). -/
def State.sdmSchedule (s : State) : State :=
  let s := s.sdmStall
  match s.sdm.running with
  | some _ => s.showSdm
  | none =>
    match (List.range 8).find? s.sdmReady with
    | none => s.showSdm
    | some c =>
      let t : State := { s with sdm := { s.sdm with running := some c } }
      ((t.setSdmState c (if t.sdmHost c && !t.dmaOk 0 then 4 else 2)).sdmMove c).showSdm

/-- Ends a list with a cause of Table 13-9: its state, flags, sources, count and log entry, and the engine is given up
(R549, R550). The bytes not issued of a descriptor that stopped on the way are a free value up to its length. -/
def State.endList (s : State) (ch cause : Nat) : State :=
  let len := ((s.sdmCh ch).desc.map (·.len)).getD 0
  let t := s.updSdm ch fun _ => {}
  let t : State := if t.sdm.running = some ch then { t.dropIntern (·.kind == .sdm) with sdm := { t.sdm with running := none } } else t
  let st := if cause ≤ 1 then 0 else if cause = 7 then 6 else 5
  let t := (t.setSdmState ch st).setField (Reg.sdmChStatus ch) 4 4 cause
  let t := if cause = 0 then (t.setNum (Reg.sdmChRemain ch) 0)
    else if cause = 2 ∨ cause = 3 then t
    else (t.setNum (Reg.sdmChRemain ch) (t.freeVal.toNat % (len + 1))).drawn
  let t := if cause = 0 then t.setBit (Reg.sdmChFlags ch) 1 true
    else if cause = 1 then t.setBit (Reg.sdmChFlags ch) 3 true
    else if st = 5 then (t.setBit (Reg.sdmChFlags ch) 2 true).countErr .sdm (Reg.sdmChErrCnt ch) ch
    else t
  t.ring (if cause ≤ 1 then 64 + ch else 72 + ch)

/-- Takes a fetched descriptor: checked before any data moves (R543). -/
def State.takeDesc (s : State) (ch : Nat) (addr : BitVec 64) (d : SdmDesc) : State :=
  let t := (s.setReg (Reg.sdmChCurDescLo ch) (addr.setWidth 32)).setReg (Reg.sdmChCurDescHi ch) ((addr >>> 32).setWidth 32)
  let t := (t.updSdm ch fun x => { x with desc := some d }).setNum (Reg.sdmChRemain ch) d.len
  if ¬ sideAllowed ch (t.bit (Reg.sdmChActiveCfg ch) 0) addr.toNat 32 false then t.endList ch 3
  else if d.malformed then t.endList ch 2
  else if ¬ d.allowed ch then t.endList ch 3
  else t

/-- The hand-over (R546): the shadow set becomes active, ARM clears, and the first descriptor is fetched. A paced list
with LOW at or above HIGH ends as malformed (R545). -/
def State.handover (s : State) (ch : Nat) (first : SdmDesc) : State :=
  let cfg := s.reg (Reg.sdmChShadowCfg ch)
  let pace := s.reg (Reg.sdmChShadowPace ch)
  let addr := (s.reg (Reg.sdmChShadowDescHi ch)).setWidth 64 <<< 32 ||| (s.reg (Reg.sdmChShadowDescLo ch)).setWidth 64
  let t := ((s.setReg (Reg.sdmChActiveCfg ch) cfg).setReg (Reg.sdmChActivePace ch) pace).setBit (Reg.sdmChArm ch) 0 false
  let t := (t.inc (Reg.sdmChHandoverCnt ch)).updSdm ch fun _ => { active := true }
  if paceSrc cfg ≠ 0 ∧ wordField pace 0 16 ≤ wordField pace 16 16 then t.endList ch 2
  else
    let t := t.takeDesc ch addr first
    if ¬ (t.sdmCh ch).active then t
    else if t.paceHigh ch then t.setSdmState ch 1
    else (t.updSdm ch fun x => { x with paused := true }).setSdmState ch 3

/-- What follows a list's end on its channel: a pending hand-over, but not from ERROR (R546, R548), and the engine's
next choice. A new list that itself ends at once leaves ARM 0, so no further hand-over follows. -/
def State.afterList (s : State) (ch : Nat) (first : SdmDesc) : State :=
  (if s.bit (Reg.sdmChArm ch) 0 ∧ ¬ (s.sdmCh ch).active ∧ s.sdmState ch ≠ 5 then s.handover ch first else s).sdmSchedule

/-- SDM_CHn_ARM written (R546, R547). -/
def State.sdmArm (s : State) (ch : Nat) (first : SdmDesc) : State :=
  if s.bit (Reg.sdmChArm ch) 0 then s else (s.setBit (Reg.sdmChArm ch) 0 true).afterList ch first

/-- SDM_CHn_CMD.ABORT (R551): a pending ARM is cancelled; a running list ends once its responses have returned, and one
that waits ends at once. -/
def State.sdmAbort (s : State) (ch : Nat) : State :=
  let t := s.setBit (Reg.sdmChArm ch) 0 false
  if ¬ (t.sdmCh ch).active then t
  else if t.sdm.running = some ch then (t.dropIntern (·.kind == .sdm)).updSdm ch fun x => { x with aborting := true }
  else (t.endList ch 7).sdmSchedule

/-- SDM_CHn_CMD.CLEAR leaves the ERROR state, and a pending hand-over takes place at once (R548). -/
def State.sdmClear (s : State) (ch : Nat) (first : SdmDesc) : State :=
  if s.sdmState ch = 5 then (s.setSdmState ch 0).afterList ch first else s

/-- The descriptor in progress has all its responses (R549): its outcome, the list's end or its next descriptor. An
error response comes before HOST and ABORT. There are none while its host-space transfers wait for capacity (R84). -/
def State.descDone (s : State) (ch : Nat) (r : SdmResult) (next : SdmDesc) : State :=
  let x := s.sdmCh ch
  match x.desc with
  | none => s
  | some d =>
    if s.sdm.running = some ch ∧ ¬ s.internBusy (fun k _ => k == .sdm) then
      let t := s.inc (Reg.sdmChDescCnt ch)
      match (if x.bad then SdmResult.readError else r) with
      | .readError => (s.endList ch 4).afterList ch next
      | .writeError => (s.endList ch 5).afterList ch next
      | .mismatch off =>
        if x.hostEnd then (s.endList ch 6).afterList ch next
        else if x.aborting then (s.endList ch 7).afterList ch next
        else if d.op = 2 ∧ off < d.len then
          ((t.setNum (Reg.sdmChMismatch ch) off).endList ch 1).afterList ch next
        else s
      | .ok =>
        if x.hostEnd then (s.endList ch 6).afterList ch next
        else if x.aborting then (s.endList ch 7).afterList ch next
        else if s.sdmState ch ≠ 2 then s
        else
          let t := ((t.setField (Reg.sdmChStatus ch) 4 4 0).setBit (Reg.sdmChFlags ch) 1 true).when d.irq (·.ring (64 + ch))
          if d.isLast then (t.endList ch 0).afterList ch next
          else
            let t := t.takeDesc ch d.next next
            if ¬ (t.sdmCh ch).active then t.afterList ch next
            else if t.paceLow ch then
              let t := (t.updSdm ch fun x => { x with paused := true }).setSdmState ch 3
              State.sdmSchedule { t with sdm := { t.sdm with running := none } }
            else (t.setSdmState ch (if t.sdmHost ch && !t.dmaOk 0 then 4 else 2)).sdmMove ch
    else s

/-- A paused channel's level reaches HIGH (R545). -/
def State.paceResume (s : State) (ch : Nat) : State :=
  let x := s.sdmCh ch
  if x.active ∧ x.paused ∧ s.paceHigh ch then
    ((s.updSdm ch fun x => { x with paused := false }).setSdmState ch 1).sdmSchedule
  else s

/-- PF0's Bus Master Enable changes: the running channel's host-space transfer is held, or goes on (R410, R551). -/
def State.sdmHold (s : State) : State :=
  match s.sdm.running with
  | some c => if s.sdmHost c then s.setSdmState c (if s.dmaOk 0 then 2 else 4) else s
  | none => s

/-- PF0 FLR and containment end every list that uses host space (R551): one that waits at once, the running one once its
responses have returned. -/
def State.endHostLists (s : State) : State :=
  (((List.range 8).filter fun c => (s.sdmCh c).active && s.sdmHost c).foldl (fun t c =>
    if t.sdm.running = some c then (t.dropIntern (·.kind == .sdm)).updSdm c fun x => { x with hostEnd := true } else t.endList c 6) s).sdmSchedule

/-! ## Meanings -/

def execSdmArm (by_ : Requester) (ch : Nat) (first : SdmDesc) (s : State) : Result :=
  .next (s.byOwner by_ ch (Reg.sdmChArm ch) (·.sdmArm ch first))
def execSdmAbort (by_ : Requester) (ch : Nat) (s : State) : Result :=
  .next (s.byOwner by_ ch (Reg.sdmChCmd ch) (·.sdmAbort ch))
def execSdmClear (by_ : Requester) (ch : Nat) (first : SdmDesc) (s : State) : Result :=
  .next (s.byOwner by_ ch (Reg.sdmChCmd ch) (·.sdmClear ch first))
def execSdmDescriptorComplete (ch : Nat) (r : SdmResult) (next : SdmDesc) (s : State) : Result :=
  .next (s.whenLive (·.descDone ch r next))
def execSdmPaceResume (ch : Nat) (s : State) : Result := .next (s.whenLive (·.paceResume ch))

end Sys2Proof.Machine
end

