-- ==== Sys2Proof/Machine/HostPort.lean ====
section
/-! DEFINITION. The Host Port (chapter 9): the link and its power states, completions and timeouts, address translation,
the DOE mailbox, containment, and the sled's presence and attention controls. -/
namespace Sys2Proof.Machine

/-! ## The link (R329 to R331, R343 to R345) -/

def State.dlUp (s : State) : Bool := s.bit Reg.hptStatus 9
def State.linkWidth (s : State) : Nat := s.field Reg.hptStatus 3 5
def State.inL1 (s : State) : Bool := s.bit Reg.hptStatus 15

/-- SPEED and WIDTH of HPT_STATUS; all trained lanes are active. -/
def State.setHostLink (s : State) (speed width : Nat) : State :=
  ((s.setField Reg.hptStatus 0 3 speed).setField Reg.hptStatus 3 5 width).setField Reg.hptStatus 10 5 width

/-- The link has trained and DL_Up is reached (R329). At 64 GT/s it is in FLIT mode (Table 9-1). -/
def State.hostLinkUp (s : State) (speed width : Nat) (flit rev : Bool) : State :=
  if s.pwr.perst ∨ s.dlUp then s
  else
    let t := ((s.setHostLink speed width).setBit Reg.hptStatus 8 (flit || speed == 6)).setBit Reg.hptStatus 19 rev
    let t := (t.setBit Reg.hptStatus 9 true).setBit Reg.hptContainStatus 2 true
    t.raise Reg.hptEvent 1

/-- A Recovery that returns to L0 disturbs no command; a change of rate or width shows (R329, R330). -/
def State.hostRecovery (s : State) (speed width : Nat) : State :=
  if s.dlUp then
    let t := s.inc Reg.hptRecoveryCnt
    if s.field Reg.hptStatus 0 3 = speed ∧ s.linkWidth = width then t
    else (t.setHostLink speed width).raise Reg.hptEvent 2
  else s

/-- A FLIT-mode flit fails its CRC after FEC: NAKed, replayed, and reported as a Bad TLP (R331). -/
def State.hostBadFlit (s : State) : State :=
  if s.dlUp ∧ s.bit Reg.hptStatus 8 then (s.countErr .hpt Reg.hptBadTlpCnt).aerCor 0 6 else s

/-- A bounded command of any function is outstanding (R158). -/
def State.boundedOut (s : State) : Bool := s.cmds.any (·.bounded)

/-- Entry into L1 (R343): PF0's ASPM Control, no bounded command, nothing pending, and the link idle for L1_IDLE µs; L1.1 or L1.2
as L1 PM Substates Control allows. -/
def State.l1Enter (s : State) (l1ss : Nat) : State :=
  let aspm := ((s.fn 0).cfg.get 0x70).getLsbD 1
  let sub := (s.fn 0).cfg.get 0x258
  let idle := max 1 (s.field Reg.hptPmCtl 0 8)
  if s.dlUp ∧ ¬ s.inL1 ∧ aspm ∧ ¬ s.boundedOut ∧ s.hpt.np.isEmpty ∧ s.hpt.tlpAt + idle * 500 ≤ s.now then
    let ss := if l1ss = 2 ∧ sub.getLsbD 2 then 2 else if l1ss = 1 ∧ sub.getLsbD 3 then 1 else 0
    ((s.setBit Reg.hptStatus 15 true).setField Reg.hptStatus 16 2 ss).emit (.host 6 0 ss)
  else s

/-- The device leaves L1 to send (R344). -/
def State.l1Exit (s : State) : State :=
  if s.inL1 then ((s.setBit Reg.hptStatus 15 false).setField Reg.hptStatus 16 2 0).emit (.host 7 0 0) else s

/-- A host L0p request is granted within the trained width (R345). -/
def State.l0pHost (s : State) (width : Nat) : State :=
  if s.dlUp ∧ s.bit Reg.hptStatus 8 ∧ 1 ≤ width ∧ width ≤ s.linkWidth then
    let t := (State.setField { s with hpt := { s.hpt with l0pAsked := false } } Reg.hptStatus 10 5 width).emit (.host 9 0 width)
    if s.field Reg.hptStatus 10 5 = width then t else t.raise Reg.hptEvent 10
  else s

/-- The reduced width of HPT_PM_CTL.L0P_WIDTH (Table 9-16). -/
def State.l0pWidth (s : State) : Nat :=
  let v := s.field Reg.hptPmCtl 9 3
  if v = 1 then 4 else if v = 2 then 2 else if v = 3 then 1 else 8

/-- The device asks for a reduction (R345); the host's answer arrives as its own L0p request. -/
def State.l0pReduce (s : State) : State :=
  let idle := max 1 (s.field Reg.hptPmCtl 16 8)
  if s.dlUp ∧ s.bit Reg.hptStatus 8 ∧ s.bit Reg.hptPmCtl 8 ∧ ¬ s.boundedOut ∧ s.hpt.rwAt + idle ≤ s.frame ∧
      s.l0pWidth < s.field Reg.hptStatus 10 5 then s.emit (.host 8 0 s.l0pWidth)
  else s

/-- The first doorbell while the width is reduced asks for full width (R345). -/
def State.l0pWiden (s : State) : State :=
  if s.dlUp ∧ ¬ s.hpt.l0pAsked ∧ s.field Reg.hptStatus 10 5 < s.linkWidth then
    State.emit { s with hpt := { s.hpt with l0pAsked := true } } (.host 8 0 s.linkWidth)
  else s

/-! ## Containment (R369 to R371) -/

def State.containState (s : State) : Nat := s.field Reg.hptContainStatus 0 2

/-- A save or restore fails (R421, Table 10-12). -/
def State.migFail (s : State) (err : Nat) : State :=
  let t : State := { s.dropIntern (·.kind == .blob) with mig := none }
  (((t.setField Reg.fnmMigStatus 0 2 3).setField Reg.fnmMigStatus 8 8 err).countErr .fnm Reg.fnmMigFailCnt).raise Reg.fnmEvent 6

/-- Host transfers of a save or restore are cut (error 8). -/
def State.migHostLost (s : State) : State := if s.mig.any (!·.target) then s.migFail 8 else s

/-- A read of a device-internal operation ends without its data, and the operation fails as its chapter says (R365): an image's load,
a descriptor with READ (Table 13-9), a restore with error 8, an upstream read; an admin command with Data Transfer Error. -/
def State.internalFailed (s : State) (k : Inner) (c : Option CmdId) : State :=
  match k with
  | .admin => match c with | some c => s.failCmd c dataTransferError | none => s
  | .image => s.imageLost
  | .sdm => match s.sdm.running with | some ch => s.updSdm ch fun x => { x with bad := true } | none => s
  | .blob => s.migHostLost
  | .bridge addr => { s with lpb := { s.lpb with upReads := s.lpb.upReads.map fun r =>
      if r.addr = addr ∧ r.ready.isNone then { r with ready := some s.now, bad := true } else r } }
  | _ => s

/-- Every read of a device-internal operation that is outstanding is abandoned (R370, R416). -/
def State.failInternals (s : State) : State :=
  s.hpt.np.foldl (fun t r => match r.kind with | .internal k c => t.internalFailed k c | _ => t) s

/-- Entry into CONTAINED (R370). Writes that are STAGED stay; no command completes. -/
def State.containNow (s : State) (cause : Nat) : State :=
  let t := (s.setField Reg.hptContainStatus 0 2 1).setField Reg.hptContainStatus 4 4 cause
  let t := (t.failInternals.abandonNp (fun _ => true) true).dropCmds fun _ => true
  let t : State := { t with hpt := { t.hpt with atc := [], xreqs := [], inval := [], pathLost := true },
                            lpb := { t.lpb with upReads := t.lpb.upReads.filter (·.ready.isSome) } }
  let t := (t.endHostLists.migHostLost).send (.control 6 t.frame)
  (t.countErr .hpt Reg.hptContainCnt).raise Reg.hptEvent 3

/-- Containment from NORMAL (Table 9-12). -/
def State.contain (s : State) (cause : Nat) : State := if s.containState = 0 then s.containNow cause else s

/-- DL_Down (R330, Table 9-12). -/
def State.hostDlDown (s : State) (cause : DlDownCause) : State :=
  if s.dlUp then
    let t := (((s.setHostLink 0 0).setBit Reg.hptStatus 8 false).setBit Reg.hptStatus 9 false).setField Reg.hptStatus 15 3 0
    let t := (t.setBit Reg.hptStatus 19 false).setBit Reg.hptContainStatus 2 false
    let t := (t.countErr .hpt Reg.hptLinkDownCnt).raise Reg.hptEvent 0
    match cause with
    | .other => if t.containState = 1 then t else t.containNow 1
    | _ => t
  else s

/-- HPT_CONTAIN_CTL.RELEASE (R369, R371): every controller is reset. -/
def State.containRelease (s : State) : State :=
  if s.containState = 1 ∧ s.dlUp ∧ ¬ s.bit Reg.hptContainStatus 3 then
    let t := s.setField Reg.hptContainStatus 0 2 2
    (0 :: (t.fns.entries.map (·.1)).filter (· != 0)).foldl (fun u f => u.ctlReset f) t
  else s

/-- The controller resets of a release end, and the Host Port is NORMAL (R371). -/
def State.releaseDone (s : State) : State :=
  if s.containState = 2 then
    let t : State := { s with fns := s.fns.mapListed fun _ f => if f.resetting then { f with resetting := false, rdy := false } else f,
                              hpt := { s.hpt with pathLost := false } }
    let t := ((t.send (.control 7 t.frame)).raise Reg.hptEvent 4).setField Reg.hptContainStatus 0 2 0
    if t.inRun then t else t.flushIntern
  else s

/-! ## Sled presence and attention (R372 to R375) -/

/-- Starts the attention fall-back (R373 steps 1 to 3). -/
def State.fallback (s : State) : State :=
  if s.bit Reg.sppCtl 4 ∧ ¬ s.bit Reg.sppStatus 3 then
    let t := if s.containState = 1 then s else s.containNow 3
    ((t.setBit Reg.sppStatus 3 true).setBit Reg.hptContainStatus 3 true).raise Reg.sppEvent 2 |>.emit (.pin .attnLed true)
  else s

/-- Stops the attention timer. -/
def State.stopAttn (s : State) : State :=
  State.setBit { s with hpt := { s.hpt with attnAt := none } } Reg.sppStatus 4 false

/-- A debounced press (R372, R373). -/
def State.attnPress (s : State) : State :=
  let t := ((s.setBit Reg.sppStatus 1 true).raise Reg.sppEvent 1).inc Reg.sppPressCnt
  let t := if t.hpt.attnAt.isNone ∧ t.field Reg.sppAttnTmo 0 16 ≠ 0 then
      State.setBit { t with hpt := { t.hpt with attnAt := some t.now } } Reg.sppStatus 4 true
    else t
  if t.containState = 1 then t.fallback else t

/-- The attention timer expires after SPP_ATTN_TMO ms (R372, R373). -/
def State.attnExpiry (s : State) : State :=
  if s.hpt.attnAt.any (· + s.field Reg.sppAttnTmo 0 16 * 500000 ≤ s.now) then s.stopAttn.fallback else s

/-- Nothing but verified data is left in staging (R33). -/
def State.destaged (s : State) : Bool := s.wrp.writes.all (·.state == .verified)

/-- READY_TO_PULL asserted. -/
def State.readyToPull (s : State) : State :=
  ((s.setBit Reg.sppStatus 2 true).raise Reg.sppEvent 3).emit (.pin .readyToPull true)

/-- Media power goes off once WP_N is low on every channel (R176, R373). -/
def State.mediaOff (s : State) : State :=
  let t := (List.range 32).foldl (fun t c => t.emit (.pin (.chWpN c) false)) s
  State.emit { t.setBit Reg.sppStatus 5 false with mch := { t.mch with mediaPwr := false } } (.pin .mediaPwrEn false)

/-- The fall-back's destage and clean mark are complete (R373 steps 4 and 5). -/
def State.fallbackDone (s : State) : State :=
  if s.bit Reg.sppStatus 3 ∧ s.destaged ∧ ¬ s.bit Reg.sppStatus 2 then
    let t := s.cleanMark.readyToPull.emit (.pin .pwrLed false)
    if t.bit Reg.sppCtl 5 then t.mediaOff else t
  else s

/-- SLED_PRSNT_N changes; going high, the sled leaves its seat (R375). -/
def State.presence (s : State) (seated : Bool) : State :=
  let t := s.setBit Reg.sppStatus 0 seated
  if seated then t else (t.raise Reg.sppEvent 0).contain 4

/-! ## Fetching entries (R403, R404) -/

/-- The queues of a function that hold entries are visited. In Park, which has no slots, they are visited at once; in Run the
HOST_FETCH slots visit them (R404). -/
def State.kickAll (s : State) (f : Nat) : State := if s.inRun then s else (s.fn f).sqs.foldl (fun t _ => t.visit f) s

/-! ## Completions and tags (R360, R363 to R367) -/

/-- A request ends without its data: the command fails with Data Transfer Error; a queue entry's fetch is reissued when the
queue is visited next, and after four timeouts running the queue stops (R360, R364, R365). -/
def State.npFailed (s : State) (r : Np) (timeout : Bool) : State :=
  match r.kind with
  | .data c | .list c => s.failCmd c dataTransferError
  | .fetch f q =>
    if timeout then
      let n := ((lookupKey q (s.fn f).sqs).map (·.tmo)).getD 0 + 1
      if 4 ≤ n then (s.updSq f q fun x => { x with tmo := 0, stopped := true }).countErr .hpt Reg.hptSqFetchTmoCnt 0xFFFF f
      else (s.updSq f q fun x => { x with tmo := n }).kickAll f
    else s.kickAll f
  | .internal k c => s.internalFailed k c

/-- What a request asked for has arrived: entries of a queue, which may now become commands (R404); the last bytes of a unit of a
command's data, which is encrypted next for a Write and compared for a Compare (R243, R248); or its PRP list (R242). -/
def State.npArrived (s : State) (r : Np) : State :=
  match r.kind with
  | .fetch f q => s.updSq f q fun x => { x with tmo := 0, granted := x.granted + r.part }
  | .data c =>
    if s.hpt.np.any fun p => p.kind == .data c && p.part == r.part then s
    else (s.updCmd c fun x => if x.op = 0x01 then { x with toEnc := x.toEnc + 1 } else x).readSettle c
  | .list _ | .internal _ _ => s

/-- A completion arrives (R360, R367). -/
def State.completion (s : State) (c : Cpl) : State :=
  let s := s.linkBusy
  if c.malformed then ((s.countErr .hpt Reg.hptMalformedCnt).raise Reg.hptEvent 9).aerUnc 0 18
  else
    match s.hpt.np.find? (·.tag == c.tag) with
    | some r =>
      let t := State.showTags { s with hpt := { s.hpt with np := s.hpt.np.filter (·.tag != c.tag) } }
      if c.poisoned then ((t.countErr .hpt Reg.hptPoisonCnt 0xFFFF r.fn).aerAdvisory r.fn 12).npFailed r false
      else if c.success then
        let t := (t.npArrived r).kickAll r.fn
        if t.inRun then t else t.flushIntern
      else t.npFailed r false
    | none =>
      match s.hpt.quar.find? (·.tag == c.tag) with
      | some q =>
        if q.quiet then s.inc Reg.hptLateCplCnt
        else ((s.countErr .hpt Reg.hptLateCplCnt 0xFFFF q.fn).raise Reg.hptEvent 6).aerAdvisory q.fn 16
      | none => ((s.countErr .hpt Reg.hptLateCplCnt).raise Reg.hptEvent 6).aerAdvisory 0 16

/-- A request's timer expires (R363, R364). -/
def State.cplTimeout (s : State) (tag : Nat) : State :=
  match s.hpt.np.find? (·.tag == tag), s.cplTimer with
  | some r, some t₀ =>
    if r.at_ + t₀ ≤ s.now then
      let t := s.abandonNp (·.tag == tag) false
      let t := ((t.countErr .hpt Reg.hptCtoCnt 0xFFFF r.fn).raise Reg.hptEvent 5).aerUnc r.fn 14
      t.npFailed r true
    else s
  | _, _ => s

/-- A quarantined tag may be used again (R366). -/
def State.tagFree (s : State) (tag : Nat) : State :=
  State.showTags { s with hpt := { s.hpt with quar := s.hpt.quar.filter fun q => !(q.tag == tag && decide (q.until_ ≤ s.now)) } }

/-! ## Address translation (R351 to R355) -/

/-- The function that holds the most ATC entries (R351). -/
def atcLargest (l : List (Nat × Nat)) : Option Nat :=
  let n (f : Nat) := (l.filter (·.1 == f)).length
  l.foldl (fun (b : Option Nat) e => match b with
    | some g => if n g < n e.1 then some e.1 else b
    | none => some e.1) none

/-- The list without its first element that satisfies `p`. -/
def eraseFirst {α : Type} (p : α → Bool) : List α → List α
  | [] => []
  | x :: rest => if p x then rest else x :: eraseFirst p rest

/-- The ATC with a translation made the most recently used; when full, the function that holds the most entries loses
its least recently used one (R351). -/
def atcInsert (l : List (Nat × Nat)) (f page : Nat) : List (Nat × Nat) :=
  let l := l.filter (· != (f, page))
  let l := if l.length < 8192 then l
    else match atcLargest l with
      | some g => eraseFirst (·.1 == g) l
      | none => l
  l ++ [(f, page)]

/-- A Translation Completion (R351, R352): it answers the Translation Request for its page. The commands that wait for the page go on,
or fail where the translation is refused; a queue's entries or a CQE that wait for it go on, or ask again. -/
def State.translation (s : State) (f page : Nat) (denied : Bool) : State :=
  if (s.fn f).ats ∧ s.hpt.xreqs.contains (f, page) then
    let t : State := { s.linkBusy with hpt := { s.linkBusy.hpt with xreqs := s.hpt.xreqs.filter (· != (f, page)) } }
    if denied then
      let t := (t.countErr .hpt Reg.hptAtsFailCnt 0xFFFF f).raise Reg.hptEvent 8
      (s.cmds.filter fun x => x.id.fn == f && x.page == page && x.xlat).foldl (fun u x => u.failCmd x.id dataTransferError) t
    else
      State.kickAll { t with
        hpt := { t.hpt with atc := atcInsert t.hpt.atc f page },
        cmds := t.cmds.map fun x => if x.id.fn = f ∧ x.page = page then { x with xlat := false } else x } f
  else s

/-- An Invalidate Request stops the use of its range of pages (R354). Which reads outstanding use the range follows from their
addresses, which the request's command brings as tags. -/
def State.invalidate (s : State) (f base len : Nat) (tags : List Nat) : State :=
  let t := s.linkBusy
  { t with hpt := { t.hpt with
      atc := s.hpt.atc.filter fun e => !(e.1 == f && decide (base ≤ e.2) && decide (e.2 < base + len)),
      inval := s.hpt.inval ++ [{ fn := f, at_ := s.now, tags := tags }] } }

/-- A read that an Invalidate Request waits for. -/
def Inval.covers (i : Inval) (r : Np) : Bool := r.fn == i.fn && i.tags.contains r.tag && decide (r.at_ ≤ i.at_)

/-- The `k`-th of a function's requests in progress, counted from the oldest as 0, 900 µs after it was received: the reads of its
range still outstanding are abandoned, and their commands fail (R354). -/
def State.invalAbandon (s : State) (f k : Nat) : State :=
  match ((s.hpt.inval.filter (·.fn == f))[k]?).filter fun i => decide (i.at_ + 450000 ≤ s.now) with
  | some i => (s.hpt.np.filter i.covers).foldl (fun t r => t.npFailed r false) (s.abandonNp i.covers false)
  | none => s

/-- The Invalidate Completion of a function's oldest request, once every read that used the range has ended (R354). Posted writes go
out when they are made. -/
def State.invalDone (s : State) (f : Nat) : State :=
  match s.hpt.inval.find? (·.fn == f) with
  | some i =>
    if s.hpt.np.any i.covers then s
    else (State.inc { s with hpt := { s.hpt with inval := eraseFirst (·.fn == f) s.hpt.inval } } Reg.hptAtsInvCnt).toHost (.host 4 f 0)
  | none => s

/-- Flushes a function's translations (R355). -/
def State.atcFlush (s : State) (f : Nat) : State :=
  { s with hpt := { s.hpt with atc := s.hpt.atc.filter (·.1 != f), xreqs := s.hpt.xreqs.filter (·.1 != f) } }

/-! ## The DOE mailbox (R356) -/

/-- DOE Interrupt Enable of PF0's DOE capability (offset 0x2C8). -/
def State.doeIrq (s : State) : State :=
  if ((s.fn 0).cfg.get 0x2C8).getLsbD 1 then (s.updFn 0 fun x => { x with cfg := x.cfg.set 0x2CC 2 }).msix 0 0 else s

/-- A response object is ready: the request in progress has been answered. -/
def State.doeReady (s : State) : State :=
  match s.hpt.doe with
  | some _ => (State.emit { s with hpt := { s.hpt with doe := none, doeRdy := true } } (.host 13 0 0)).doeIrq
  | none => s

/-- A data object is written to the mailbox (R356). Discovery is answered at once with the three protocols; one request
is processed at a time. `sess` is the session that a Secured CMA/SPDM object names. -/
def State.doeRequest (s : State) (vendor type len : Nat) (sess : Option Nat) : State :=
  if s.hpt.doe.isSome then s
  else if vendor ≠ 1 ∨ 2 < type ∨ 16384 < len then { s with hpt := { s.hpt with doeErr := true } }
  else
    let t := State.ring { s with hpt := { s.hpt with doe := some (type, sess) } } 36
    if type = 0 then (t.emit (.resp 0 0 [1, 0, 1, 1, 1, 2])).doeReady else t

/-- DOE Abort discards the request in progress and clears DOE Error. -/
def State.doeAbort (s : State) : State := { s with hpt := { s.hpt with doe := none, doeErr := false, doeIn := [], doeRdy := false } }

/-! ## Meanings -/

def execHostLinkUp (speed width : Nat) (flit laneRev : Bool) (s : State) : Result :=
  .next (s.whenLive (·.hostLinkUp speed width flit laneRev))
def execHostDlDown (cause : DlDownCause) (s : State) : Result := .next (s.whenLive (·.hostDlDown cause))
def execHostFlitCrcFail (s : State) : Result := .next (s.whenLive State.hostBadFlit)
def execHostLinkRecovery (speed width : Nat) (s : State) : Result := .next (s.whenLive (·.hostRecovery speed width))
def execAspmL1Entry (l1ss : Nat) (s : State) : Result := .next (s.whenLive (·.l1Enter l1ss))
def execAspmL1Exit (s : State) : Result := .next (s.whenLive State.l1Exit)
def execL0pHostRequest (width : Nat) (s : State) : Result := .next (s.whenLive (·.l0pHost width))
def execL0pReduceRequest (s : State) : Result := .next (s.whenLive State.l0pReduce)
def execCompletionRx (c : Cpl) (s : State) : Result := .next (s.whenLive fun t => (t.completion c).freeLanes)
def execCompletionTimeout (tag : Nat) (s : State) : Result := .next (s.whenLive fun t => (t.cplTimeout tag).freeLanes)
def execTagQuarantineEnd (tag : Nat) (s : State) : Result := .next (s.whenLive (·.tagFree tag))
/-- TRANSLATION_COMPLETION_RX. `failed`: its status is UR or CA; `denied`: it denies the access (R352). -/
def execTranslationCompletionRx (fn page : Nat) (failed denied : Bool) (s : State) : Result :=
  .next (s.whenLive (·.translation fn page (failed || denied)))
def execInvalidateRequestRx (fn base : Nat) (r : InvalRange) (s : State) : Result :=
  .next (s.whenLive (·.invalidate fn base r.pages r.tags))
def execInvalidateAbandon (fn k : Nat) (s : State) : Result := .next (s.whenLive fun t => (t.invalAbandon fn k).freeLanes)
def execInvalidateCompletionSend (fn : Nat) (s : State) : Result := .next (s.whenLive (·.invalDone fn))
def execDoeRequestRx (vendor : Nat) (o : DoeObject) (len : Nat) (s : State) : Result :=
  .next (s.whenLive (·.doeRequest vendor o.type len o.session))
def execDoeAbort (s : State) : Result := .next (s.whenLive State.doeAbort)
/-- HPT_CONTAIN_CTL.FORCE; core-only (Table 9-13). -/
def execHptContainForce (by_ : Requester) (s : State) : Result := .next (s.byCore by_ Reg.hptContainCtl (·.contain 2))
def execHptContainRelease (s : State) : Result := .next (s.whenLive State.containRelease)
def execReleaseComplete (s : State) : Result := .next (s.whenLive State.releaseDone)
def execAttnBtn (s : State) : Result := .next (s.whenLive State.attnPress)
def execSppAttnAck (s : State) : Result := .next (s.whenLive State.stopAttn)
def execAttnTimeout (s : State) : Result := .next (s.whenLive State.attnExpiry)
def execFallbackDestageDone (s : State) : Result := .next (s.whenLive State.fallbackDone)
def execPrsntChange (seated : Bool) (s : State) : Result := .next (s.whenLive (·.presence seated))

end Sys2Proof.Machine
end

