-- ==== Sys2Proof/Machine/Queues.lean ====
section
/-! DEFINITION. Queues (chapter 10): which entries the device fetches (R403, R404), the doorbells (R401, R402), creating
and deleting queues (R399, R400), enabling and resetting a controller (R385, R413), and Bus Master Enable and power
states (R346, R410). -/
namespace Sys2Proof

/-- The entry as the command of one opcode: each row of the table stands for one. -/
def Sqe.as (q : Sqe) (op : Nat) : Sqe := { q with opcode := op }

end Sys2Proof

namespace Sys2Proof.Machine

/-! ## Fetch (R157, R403, R404) -/

def Fn.enabled (x : Fn) : Bool := x.cc.getLsbD 0
def State.sq? (s : State) (f q : Nat) : Option Sq := lookupKey q (s.fn f).sqs
def State.cq? (s : State) (f q : Nat) : Option Cq := lookupKey q (s.fn f).cqs

/-- Entries of a queue have arrived that may become commands: it is not being deleted. -/
def Sq.open_ (q : Sq) : Bool := q.head != q.tail && q.deleting.isNone && q.granted != 0

/-- The start point of the next entry, and the doorbells left (R157): the doorbell's tick for its first 64 entries, and
for each 64 after them the tick at which the last of the 64 before was fetched. DESIGN CHOICE: the entries past the 64th go in
batches of 64, where R157 could also mean the fetch of the entry 64 places earlier for each one (notes/assumptions/108.md). -/
def takeBell (now : Nat) : List (Nat × Nat × Nat) → Nat × List (Nat × Nat × Nat)
  | [] => (now, [])
  | (left, done, at_) :: rest =>
    (at_, if left ≤ 1 then rest else (left - 1, done + 1, if (done + 1) % 64 = 0 then now else at_) :: rest)

/-- Takes a fetched entry: the head advances and the command is counted; its start point is returned. A queue whose entries
have all been taken may be visited again. -/
def State.takeEntry (s : State) (f q : Nat) (x : Sq) : Nat × State :=
  let (start, bells) := takeBell s.now x.bells
  let t := s.updSq f q fun y => { y with head := (y.head + 1) % y.size, granted := y.granted - 1, bells := bells }
  (start, (t.inc Reg.qenCmdFetchCnt).kickAll f)

/-- A command entry is fetched and becomes a command (R403, R404), on which `f` acts; where the entry may not be fetched
nothing happens. An identifier already in use completes with Command ID Conflict; an admin command with a PSDT other
than 00b, and a fused command, with Invalid Field in Command (R388). -/
def State.fetchCmd (s : State) (q : Sqe) (admin : Bool) (f : Cmd → State → State) : State :=
  match s.sq? q.id.fn q.id.qid with
  | some x =>
    if x.open_ ∧ s.fetchOn q.id.fn admin ∧ (admin ↔ q.id.qid = 0) then
      let (start, t) := s.takeEntry q.id.fn q.id.qid x
      if (s.cmd? q.id).isSome then
        let k := s.cqOf q.id
        match t.cq? q.id.fn k with
        | some y => t.writeCqe q.id k y 0x03 false 0
        | none => t
      else
        let c : Cmd := { id := q.id, op := q.opcode, admin := admin, nsid := q.nsid, startAt := start,
                         page := q.prp1.toNat / 4096, prpOff := q.prp1.toNat % 4096 }
        let t : State := { t with cmds := t.cmds ++ [c] }
        if (admin ∧ q.psdt ≠ 0) ∨ q.fuse ≠ 0 then t.finish q.id 0x02 else f c t
    else s
  | none => s

/-- Invalid Field in Command. -/
abbrev invalidField : Nat := nvmeStatus 0 0x02

/-! ## Windows (R339 to R341, R369) -/

/-- Memory Space Enable of a function: PF0's own, or VF MSE. -/
def State.mseOf (s : State) (f : Nat) : Bool := if f = 0 then (s.fn 0).mse else s.bit Reg.fnmStatus 14

/-- A function answers memory requests. -/
def State.memOk (s : State) (f : Nat) : Bool := s.fnExists f && s.mseOf f && !(s.fn f).d3hot

/-- An Unsupported Request (R341, R358): a posted one is discarded, a non-posted one completes with UR. Outside NORMAL
it is counted and logged without AER (R37, Table 9-11). -/
def State.unsupported (s : State) (f : Nat) (posted : Bool) : State :=
  let g := if s.fnExists f then f else 0
  let t := if ¬ s.portNormal then s.countErr .hpt Reg.hptUrCnt 0xFFFF g
    else
      let u := s.countErr .hpt Reg.hptUrCnt 0xFFFF g
      if posted then u.aerUnc g 20 else u.aerAdvisory g 20
  if posted then t else t.emit (.cpl f 1 0)

/-- The effect of a write to a function's BAR0 window. -/
def State.bar0Write (s : State) (f : Nat) (g : State → State) : State :=
  if s.portNormal ∧ s.memOk f then g s else s.unsupported f true

/-! ## Doorbells (R401, R402) -/

/-- A discarded doorbell write: counted, and an Error event of its kind unless one is masked (R401). 0 is Write to Invalid
Doorbell Register, 1 Invalid Doorbell Write Value. -/
def State.badDoorbell (s : State) (f info : Nat) : State :=
  let t := (s.countErr .qen Reg.qenDbInvalidCnt 0xFFFF f).raise Reg.qenEvent 0
  if (s.fn f).masked.contains info then t
  else (t.updFn f fun x => { x with masked := info :: x.masked }).asyncEvent f 0 info 1

/-- A submission queue's tail doorbell (R401, R417, R419): the entries it makes visible, from this tick (R157). -/
def State.sqDoorbell (s : State) (f q v : Nat) : State :=
  match s.sq? f q with
  | none => s.badDoorbell f 0
  | some x =>
    if x.size ≤ v then s.badDoorbell f 1
    else
      let n := (v + x.size - x.tail) % x.size
      let t := s.updSq f q fun y => { y with tail := v, stopped := false, tmo := 0,
                                             bells := if n = 0 then y.bells else y.bells ++ [(n, 0, s.now)] }
      let t := if q = 0 then t.ring 37 else t
      (t.l0pWiden).kickAll f

/-- A completion queue's head doorbell frees every entry up to its value (R402). -/
def State.cqDoorbell (s : State) (f q v : Nat) : State :=
  match s.cq? f q with
  | none => s.badDoorbell f 0
  | some k =>
    let n := (v + k.size - k.head) % k.size
    if k.size ≤ v ∨ k.used < n then s.badDoorbell f 1
    else (s.updCq f q fun y => { y with head := v, used := y.used - n }).l0pWiden

/-! ## Creating and deleting queues (R399, R400) -/

/-- Create I/O Completion Queue (R399). -/
def State.createCq (s : State) (q : Sqe) : State :=
  s.fetchCmd q true fun _ t =>
    let f := q.id.fn
    let qid := wordField q.cdw10 0 16
    let size := wordField q.cdw10 16 16
    let iv := wordField q.cdw11 16 16
    if qid = 0 ∨ t.ioQueues f < qid ∨ (t.cq? f qid).isSome then t.finish q.id (nvmeStatus 1 0x01)
    else if 4095 < size then t.finish q.id (nvmeStatus 1 0x02)
    else if ¬ q.cdw11.getLsbD 0 then t.finish q.id invalidField
    else if t.viOf f ≤ iv then t.finish q.id (nvmeStatus 1 0x08)
    else
      let k : Cq := { base := q.prp1.toNat, size := size + 1, vector := iv, ien := q.cdw11.getLsbD 1 }
      (t.updFn f fun x => { x with cqs := x.cqs ++ [(qid, k)] }).finish q.id 0

/-- Create I/O Submission Queue (R399). The admin CQ is no completion queue of an I/O SQ. -/
def State.createSq (s : State) (q : Sqe) : State :=
  s.fetchCmd q true fun _ t =>
    let f := q.id.fn
    let qid := wordField q.cdw10 0 16
    let size := wordField q.cdw10 16 16
    let cq := wordField q.cdw11 16 16
    if qid = 0 ∨ t.ioQueues f < qid ∨ (t.sq? f qid).isSome then t.finish q.id (nvmeStatus 1 0x01)
    else if 4095 < size then t.finish q.id (nvmeStatus 1 0x02)
    else if ¬ q.cdw11.getLsbD 0 then t.finish q.id invalidField
    else if cq = 0 ∨ (t.cq? f cq).isNone then t.finish q.id (nvmeStatus 1 0x00)
    else
      let x : Sq := { base := q.prp1.toNat, cqid := cq, size := size + 1, head := 0, tail := 0 }
      State.showQueues ((t.updFn f fun y => { y with sqs := y.sqs ++ [(qid, x)] }).finish q.id 0)

/-- A stage of the command has been admitted (R390, R400): a slot, or its data fetch, its staging, its map changes or an
around-read. An admin command other than an Asynchronous Event Request that still runs has begun its effect (DEDUCED,
notes/assumptions/120.md). -/
def Cmd.begun (x : Cmd) : Bool :=
  x.admitted || x.filling || !x.wids.isEmpty || x.mapHeld || (x.admin && x.op != opAer) ||
    x.units.any fun r => match r.phase with | .around _ _ => true | _ => false

/-- The commands of a queue that are still outstanding. -/
def State.sqCmds (s : State) (f q : Nat) : List Cmd := s.cmds.filter fun x => x.id.fn == f && x.id.qid == q

/-- The queue goes, and the delete completes (R400). -/
def State.sqGone (s : State) (f q : Nat) (c : CmdId) : State :=
  State.showQueues ((s.updFn f fun x => { x with sqs := x.sqs.filter (·.1 != q) }).finish c 0)

/-- Delete I/O SQ (R400): commands without an admitted stage are aborted, and the delete waits for the others. -/
def State.deleteSq (s : State) (q : Sqe) : State :=
  s.fetchCmd q true fun _ t =>
    let f := q.id.fn
    let qid := wordField q.cdw10 0 16
    if qid = 0 ∨ (t.sq? f qid).isNone then t.finish q.id (nvmeStatus 1 0x01)
    else
      let idle := (t.sqCmds f qid).filter fun x => x.status.isNone && !x.begun
      let t := idle.foldl (fun u x => u.failCmd x.id (nvmeStatus 0 0x08)) t
      if (t.sqCmds f qid).isEmpty then t.sqGone f qid q.id
      else t.updSq f qid fun x => { x with deleting := some q.id }

/-- The queue's last command has completed. -/
def State.sqDrained (s : State) (f q : Nat) : State :=
  match s.sq? f q with
  | some x =>
    match x.deleting with
    | some c => if (s.sqCmds f q).isEmpty then s.sqGone f q c else s
    | none => s
  | none => s

/-- Delete I/O CQ (R400). -/
def State.deleteCq (s : State) (q : Sqe) : State :=
  s.fetchCmd q true fun _ t =>
    let f := q.id.fn
    let qid := wordField q.cdw10 0 16
    if qid = 0 ∨ (t.cq? f qid).isNone then t.finish q.id (nvmeStatus 1 0x01)
    else if (t.fn f).sqs.any (·.2.cqid == qid) then t.finish q.id (nvmeStatus 1 0x0C)
    else (t.updFn f fun x => { x with cqs := x.cqs.filter (·.1 != qid) }).finish q.id 0

/-! ## Enabling and resetting a controller (R385, R413, R596) -/

/-- A frozen function's BAR0 registers beside its doorbells discard writes (R419). -/
def Fn.frozenNow (x : Fn) : Bool := x.life == .frozen

/-- CC.EN set to 1 (R385): the admin queues exist, or on an Offline VF the fatal status is set. -/
def State.ccEnable (s : State) (f : Nat) : State :=
  let x := s.fn f
  if x.enabled ∨ x.frozenNow then s
  else if f ≠ 0 ∧ ¬ x.online then s.updFn f fun y => { y with cc := y.cc ||| 1, cfs := true }
  else
    let sq : Sq := { base := x.asq.toNat, cqid := 0, size := wordField x.aqa 0 12 + 1, head := 0, tail := 0 }
    let cq : Cq := { base := x.acq.toNat, size := wordField x.aqa 16 12 + 1, vector := 0, ien := true }
    s.updFn f fun y => { y with cc := y.cc ||| 1, sqs := [(0, sq)], cqs := [(0, cq)] }

/-- CSTS.RDY rises once the device is READY (R596). -/
def State.ctlReady (s : State) (f : Nat) : State :=
  let x := s.fn f
  if x.enabled ∧ ¬ x.cfs ∧ ¬ x.resetting ∧ s.bit Reg.pwrStatus 3 then (s.updFn f fun y => { y with rdy := true }).kickAll f
  else s

/-- CC.EN cleared to 0 (R413). -/
def State.ccDisable (s : State) (f : Nat) : State :=
  if (s.fn f).enabled ∧ ¬ (s.fn f).frozenNow then s.ctlReset f else s

/-- The controller reset has completed: CSTS.RDY is 0 (R413). -/
def State.ctlResetDone (s : State) (f : Nat) : State :=
  if (s.fn f).resetting then s.updFn f fun y => { y with resetting := false, rdy := false } else s

/-! ## Bus Master Enable and power states (R346, R410) -/

/-- Commands that need host DMA are held: counted, and each has met the event HOST (R410). -/
def State.holdDma (s : State) (f : Nat) : State :=
  let n := s.outstanding f
  let t := if n = 0 then s else (s.inc Reg.fnmBmeHoldCnt n).raise Reg.fnmEvent 7
  let t : State := { t with cmds := t.cmds.map fun x => if x.id.fn = f ∧ x.bounded then x.meet 7 else x }
  if f = 0 then t.sdmHold else t

/-- Held work goes on: waiting messages are sent and entries fetched (R410). -/
def State.freeDma (s : State) (f : Nat) : State :=
  if s.dmaOk f then
    let t := (s.msixDrain f).kickAll f
    let t := if t.inRun then t else t.flushIntern
    if f = 0 then t.sdmHold else t
  else s

def State.bmeOff (s : State) (f : Nat) : State :=
  if (s.fn f).bme then
    let t := s.updFn f fun y => { y with bme := false }
    if (s.fn f).d3hot then t else t.holdDma f
  else s
def State.bmeOn (s : State) (f : Nat) : State := (s.updFn f fun y => { y with bme := true }).freeDma f

/-- PMCSR PowerState written: D3hot holds the function as a cleared Bus Master Enable does; D1 and D2 are not supported
(R346, Table 9-1). -/
def State.powerState (s : State) (f st : Nat) : State :=
  if st = 3 ∧ ¬ (s.fn f).d3hot then
    let t := s.updFn f fun y => { y with d3hot := true }
    if (s.fn f).bme then t.holdDma f else t
  else if st = 0 ∧ (s.fn f).d3hot then (s.updFn f fun y => { y with d3hot := false }).freeDma f
  else s

/-! ## Meanings -/

def execSqTailDoorbell (fn qid value : Nat) (s : State) : Result :=
  .next (s.whenLive fun t => t.bar0Write fn (·.sqDoorbell fn qid value))
def execCqHeadDoorbell (fn qid value : Nat) (s : State) : Result :=
  .next (s.whenLive fun t => t.bar0Write fn (·.cqDoorbell fn qid value))
def execCreateIoSq (q : Sqe) (s : State) : Result := .next (s.whenLive (·.createSq (q.as 0x01)))
def execCreateIoCq (q : Sqe) (s : State) : Result := .next (s.whenLive (·.createCq (q.as 0x05)))
def execDeleteIoSq (q : Sqe) (s : State) : Result := .next (s.whenLive (·.deleteSq (q.as 0x00)))
def execSqDeleteDrained (fn qid : Nat) (s : State) : Result := .next (s.whenLive (·.sqDrained fn qid))
def execDeleteIoCq (q : Sqe) (s : State) : Result := .next (s.whenLive (·.deleteCq (q.as 0x04)))
def execCcEnSet (fn : Nat) (s : State) : Result := .next (s.whenLive fun t => t.bar0Write fn (·.ccEnable fn))
def execControllerReady (fn : Nat) (s : State) : Result := .next (s.whenLive (·.ctlReady fn))
def execControllerReset (fn : Nat) (s : State) : Result := .next (s.whenLive fun t => t.bar0Write fn (·.ccDisable fn))
def execControllerResetDone (fn : Nat) (s : State) : Result := .next (s.whenLive (·.ctlResetDone fn))
def execBmeClear (fn : Nat) (s : State) : Result := .next (s.whenLive (·.bmeOff fn))
def execBmeSet (fn : Nat) (s : State) : Result := .next (s.whenLive (·.bmeOn fn))
def execPowerStateWrite (fn state : Nat) (s : State) : Result := .next (s.whenLive (·.powerState fn state))

end Sys2Proof.Machine
end

