-- ==== Sys2Proof/Machine/Metering.lean ====
section
/-! DEFINITION. Metering (chapter 11): mapped capacity (R140, R456), the minute records and their chains (R455 to R457),
signed roots (R458), the archive (R459, R460, R463) and the PF0 ring (R462). -/
namespace Sys2Proof.Machine

/-! ## Mapped capacity (R140, R456) -/

/-- The indirection units of a namespace that hold data: with an entry on media or ZERO, or with a staged write that is
not superseded by an unmap (DEDUCED: a write raises the capacity when it is STAGED). -/
def State.mappedIus (s : State) (nsid : Nat) : List Nat :=
  let n := s.ns nsid
  let onMap := s.wrp.map.entries.filterMap fun e => if e.1 / 2 ^ 36 = nsid ∧ entryMapped e.2 then some (e.1 % 2 ^ 36) else none
  let inStage := (s.wrp.writes.filter fun w => w.nsid == nsid && w.state != .filling).flatMap fun w =>
    (w.units.filter fun u => !w.verified.contains u && !w.superseded.contains u).map (· / n.parts)
  onMap ++ (inStage.eraseDups.filter fun i => !onMap.contains i)

/-- The indirection units that commands which have passed the quota check are still to map: they hold no staged write yet, or
their data is being fetched (R140). -/
def State.comingIus (s : State) (nsid : Nat) : List Nat :=
  let n := s.ns nsid
  let held := (s.cmds.filter fun x => !x.admin && isWriteOp x.op && x.nsid == nsid && (x.charged || !x.ranges.isEmpty) && x.status.isNone && x.wids.isEmpty).flatMap (·.fillUnits)
  let filling := (s.wrp.writes.filter fun w => w.nsid == nsid && w.state == .filling && w.origin == .own).flatMap (·.units)
  ((held ++ filling).map (· / n.parts)).eraseDups

/-- The namespaces attached to a function, in NSID order. -/
def State.attachedTo (s : State) (f : Nat) : List Nat :=
  s.nss.entries.filterMap fun e => if e.2.present ∧ e.2.attached = some f then some e.1 else none

/-- The mapped indirection units of a VF, each weighted by its size in 4 KiB units. -/
def State.mappedUnits (s : State) (f : Nat) : Nat :=
  ((s.attachedTo f).map fun n => (s.mappedIus n).length * (s.ns n).parts).sum

/-! ## Records (Table 11-7) and their chain (R457) -/

/-- The causes whose bound exceptions a record counts, in its order. -/
def excCauses : List Nat := [1, 2, 3, 4, 5, 6, 7, 8, 9, 15]

/-- A bit of a flags field. -/
def flag (b : Bool) (i : Nat) : Nat := if b then 2 ^ i else 0

/-- A byte string of a length: cut, or filled with zeros. -/
def fitBytes (n : Nat) (b : List Byte) : List Byte := (b ++ List.replicate (n - b.length) 0).take n

/-- The record of a VF for the minute that closes. NO_TOD is set where TOD_VALID is 0 at the close (DESIGN CHOICE). -/
def State.record (s : State) (vf minute : Nat) (part : Bool) : List Byte :=
  let c := s.mtr.counts.get vf
  let head := s.mtr.heads.get vf
  let flags := flag head.isEmpty 0 + flag part 1 + flag (!s.todValid) 2 + flag s.mtr.switched 3 + flag s.mtr.restored 4 +
    flag c.migratedIn 5 + flag s.mtr.parked 6
  let prefix_ := match s.prx.active with
    | some i => if s.inRun then i.imageDigest.take 8 else []
    | none => []
  leBytes vf 2 ++ leBytes flags 2 ++ leBytes (satNat 32 s.mtr.holdover) 4 ++ leBytes minute 8 ++ leBytes c.readOps 4 ++
    leBytes c.writeOps 4 ++ leBytes c.readBytes 8 ++ leBytes c.writeBytes 8 ++ leBytes (satNat 64 (c.capSum / 60)) 8 ++
    leBytes c.readsB 4 ++ leBytes c.readsBe 4 ++ leBytes c.writesB 4 ++ leBytes c.writesBe 4 ++
    excCauses.flatMap (fun k => leBytes (c.exc.getD k 0) 2) ++ leBytes c.other 4 ++ fitBytes 8 prefix_ ++ fitBytes 32 head

/-- The leaf hash of a record (R457). -/
def leafHash (r : List Byte) : List Byte := sha256 (0 :: r)

/-- A level of the Merkle tree above another (R458). -/
def merkleUp : List (List Byte) → List (List Byte)
  | a :: b :: rest => sha256 (1 :: a ++ b) :: merkleUp rest
  | _ => []

/-- The levels of a tree, the leaves first, `n` levels above them. -/
def merkleLevels : Nat → List (List Byte) → List (List (List Byte))
  | 0, l => [l]
  | n + 1, l => l :: merkleLevels n (merkleUp l)

/-- The Merkle root of a minute's records. -/
def merkleRoot (records : List (List Byte)) : List Byte :=
  (((merkleLevels 12 (records.map leafHash)).getD 12 []).headD [])

/-! ## The PF0 ring (R462) -/

/-- The size of the ring that the register selects. -/
def State.ringSizeSel (s : State) : Nat := let v := s.field Reg.mtrRingSize 0 5; if 13 ≤ v ∧ v ≤ 20 then v else 13
/-- The ring's address as the registers give it. -/
def State.ringBaseSel (s : State) : Nat := (s.reg Reg.mtrRingBaseHi).toNat * 2 ^ 32 + (s.reg Reg.mtrRingBaseLo).toNat / 128 * 128

/-- At a minute edge a changed base or size takes effect, and both indexes return to 0 (Table 11-11). -/
def State.ringEdge (s : State) : State :=
  if s.mtr.ringBase = s.ringBaseSel ∧ s.mtr.ringLog2 = s.ringSizeSel then s
  else
    let t : State := { s with mtr := { s.mtr with ringBase := s.ringBaseSel, ringLog2 := s.ringSizeSel,
                                                  archive := s.mtr.archive.map fun m => { m with ring := m.ring && m.root.isSome } } }
    ((t.dropIntern fun e => e.kind == .ring || e.kind == .root).setNum Reg.mtrRingProd 0).setNum Reg.mtrRingCons 0

/-! ## Minutes (R455, R458, R461) -/

/-- Entries of a minute on their way to the ring, from an index on, with Relaxed Ordering (R347, R462). -/
def State.toRing (s : State) (k : Inner) (b : List Byte) (at_ : Nat) : State :=
  s.internal { kind := k, deliver := true, units := unitsOf b.length,
               outs := s.writeTlps 0 (s.mtr.ringBase + at_ % s.ringEntries * 128) b.length true false ++ [.bytes 3 b] }

/-- Opens a minute. -/
def State.openMinute (s : State) (m : Nat) : State :=
  { s with mtr := { s.mtr with minute := some m, counts := {}, holdover := 0, switched := false, restored := false,
                               parked := !s.inRun } }

/-- Closes the open minute: a record for every VF, chained and archived (R455, R457, R459), and written to the ring or
dropped from it (R462). -/
def State.closeMinute (s : State) (part : Bool) : State :=
  match s.mtr.minute with
  | none => s
  | some m =>
    let records := (List.range 4096).map fun k => s.record (k + 1) m part
    let on := s.bit Reg.mtrCtl 0
    let room := decide (4097 ≤ s.ringFree)
    let x : Minute := { minute := m, partial_ := part, noTod := !s.todValid, records := records, root := none, ring := on && room }
    let heads := (List.range 4096).foldl (fun (h : BytesTab) k => h.set (k + 1) (leafHash (records.getD k []))) s.mtr.heads
    let t : State := { s with mtr := { s.mtr with
      heads := heads, minute := none, archive := (x :: s.mtr.archive.filter fun y => y.minute % 1440 != m % 1440).take 1440 } }
    let t := if on ∧ ¬ room then (t.countErr .mtr Reg.mtrRingDropCnt).raise Reg.mtrEvent 1
      else if on then t.toRing .ring (records.flatten) (t.num Reg.mtrRingProd) else t
    (t.setBit Reg.mtrStatus 2 true).showRing

/-- A minute edge (R65, R455): the open minute closes and the next one opens, once the device is claimed. -/
def State.minuteEdge (s : State) (m : Nat) : State :=
  if s.bit Reg.secStatus 0 then (s.ringEdge.closeMinute false).openMinute m else s.ringEdge

/-- The root record (Table 11-8) of a minute, up to its signature. -/
def State.rootBody (s : State) (x : Minute) : List Byte :=
  leBytes 0x544F524D 4 ++ leBytes 1 2 ++ leBytes 4096 2 ++ leBytes x.minute 8 ++ leBytes Config.serial.toNat 8 ++
    leBytes s.pwr.straps.pairId.toNat 1 ++ leBytes (flag x.partial_ 0 + flag x.noTod 1) 1 ++ leBytes 0 6 ++ merkleRoot x.records

/-- KEY_VALID of MTR_STATUS: a metering key is present (Table 11-11). -/
def State.showMtrKey (s : State) : State := s.setBit Reg.mtrStatus 0 (s.sec.claim.any fun c => !c.mtrKey.isEmpty)

/-- MINUTE_SIGNED: the oldest minute without one gets its root record, which ends its entry in the ring (R458, R462). Nothing signs
once the metering key is zeroised (R439). -/
def State.signMinute (s : State) : State :=
  match s.sec.claim, (s.mtr.archive.filter (·.root.isNone)).getLast? with
  | some c, some x =>
    if c.mtrKey.isEmpty then s
    else
    let body := s.rootBody x
    let root := body ++ fitBytes 64 (Config.meterSign c.mtrKey body)
    let t : State := { s with mtr := { s.mtr with archive := s.mtr.archive.map fun y =>
      if y.minute = x.minute ∧ y.root.isNone then { y with root := some root } else y } }
    let t : State := { t with mtr := { t.mtr with lastMinute := x.minute } }
    let t := (t.setNum Reg.mtrLastMinuteLo x.minute).inc Reg.mtrSignCnt
    let t := (t.setBit Reg.mtrStatus 2 (t.mtr.archive.any (·.root.isNone))).raise Reg.mtrEvent 0
    if x.ring then
      (t.toRing .root root (t.num Reg.mtrRingProd + 4096)).showRing
    else t
  | _, _ => s

/-! ## Reading the archive (R398, R460, R463) -/

/-- The archived minute with an index. -/
def State.minute? (s : State) (m : Nat) : Option Minute := s.mtr.archive.find? (·.minute == m)

/-- The records of a VF for `count` minutes from `first`, in ascending order, as the archive holds them (R398). -/
def State.meterRecords (s : State) (vf first count : Nat) : List (List Byte) :=
  (List.range count).filterMap fun k => (s.minute? (first + k)).map fun x => x.records.getD (vf - 1) []

/-- The sibling hashes of a leaf, leaf level first (R463). -/
def siblings (records : List (List Byte)) (leaf : Nat) : List Byte :=
  let levels := merkleLevels 12 (records.map leafHash)
  (List.range 12).flatMap fun k => (levels.getD k []).getD (if leaf / 2 ^ k % 2 = 1 then leaf / 2 ^ k - 1 else leaf / 2 ^ k + 1) []

/-- Log page C2h of a VF (R463): entry i is for the minute i before the last one closed (DEDUCED), zero where the archive
does not hold it. A root not yet signed reads as zeros. -/
def State.pageC2 (s : State) (vf : Nat) : List Byte :=
  let last := (s.mtr.archive.head?.map (·.minute)).getD 0
  (List.range 1440).flatMap fun i =>
    match (if i ≤ last then s.minute? (last - i) else none) with
    | some x => fitBytes 128 (x.records.getD (vf - 1) []) ++ fitBytes 128 (x.root.getD []) ++ fitBytes 384 (siblings x.records (vf - 1))
    | none => List.replicate 640 0

/-- MTR_ARCH_CONS_HI written: the index applies with the LO written before it (R460). -/
def State.archCons (s : State) (v : Word) : State :=
  let x := wordField v 0 16 * 2 ^ 32 + s.num Reg.mtrArchConsLo
  let t := s.setReg Reg.mtrArchConsHi (v &&& 0xFFFF)
  let idx := t.mtr.archive.map (·.minute)
  match idx with
  | [] => { t with mtr := { t.mtr with archCons := x } }
  | m :: rest => { t with mtr := { t.mtr with archCons := max (rest.foldl min m) (min (rest.foldl max m + 1) x) } }

/-! ## Meanings -/

def execMinuteSigned (s : State) : Result := .next (s.whenLive State.signMinute)
def execMtrArchConsWrite (v : Word) (s : State) : Result := .next (s.whenLive (·.archCons v))

end Sys2Proof.Machine
end

