-- ==== Sys2Proof/Machine/Keys.lean ====
section
/-! DEFINITION. Map changes without data (R258, R274, R275), namespace keys (R446 to R453), and the crypto erase of a
namespace (R454). -/
namespace Sys2Proof.Machine

/-! ## Map changes (R258) -/

/-- The units of staged writes that lie in a run of indirection units are superseded (R259). -/
def State.supersedeRun (s : State) (nsid first count : Nat) : State :=
  let n := s.ns nsid
  let hit (u : Nat) : Bool := decide (first ≤ u / n.parts) && decide (u / n.parts < first + count)
  { s with wrp := { s.wrp with writes := s.wrp.writes.map fun o =>
      if o.nsid = nsid ∧ o.state ≠ .filling then
        { o with superseded := o.superseded ++ o.units.filter fun u => hit u && !o.superseded.contains u }
      else o } }

/-- The resync regions that a run of indirection units lies in (R507). -/
def regionsOf (first count : Nat) : List Nat :=
  if count = 0 then [] else (List.range ((first + count - 1) / 4096 - first / 4096 + 1)).map (first / 4096 + ·)

/-- The resync regions and the checkpoint segments that a run of indirection units touches (R277, R507). -/
def State.touchRun (s : State) (nsid first count : Nat) (own : Bool) : State :=
  let t := if own then (regionsOf first count).foldl (fun t r => t.noteChange nsid (r * 4096)) s else s
  let lo := segmentOf nsid first
  (List.range (segmentOf nsid (first + count - 1) - lo + 1)).foldl (fun t k => t.touchSegment (lo + k)) t

/-- Unmaps a run of indirection units: one journal record of TYPE 2 (R275, Table 7-4). -/
def State.unmapRun (s : State) (nsid first count : Nat) (own : Bool) : State :=
  if count = 0 then s
  else
    let n := s.ns nsid
    let inRun (k : Nat) : Bool := decide (mapKey nsid first ≤ k) && decide (k < mapKey nsid (first + count))
    let gone := s.wrp.map.entries.filter fun e => inRun e.1 && entryState e.2 == 0
    let t := gone.foldl (fun t e => t.addValid (entryLoc n e.2 0) (-(Int.ofNat n.parts))) (s.supersedeRun nsid first count)
    let t := t.journal count first nsid 2
    State.touchRun { t with wrp := { t.wrp with map := ⟨t.wrp.map.entries.filter fun e => !inRun e.1⟩ } } nsid first count own

/-- Sets a run of indirection units to ZERO (R258): a journal record of TYPE 1 for each. -/
def State.zeroRun (s : State) (nsid first count : Nat) (own : Bool) : State :=
  if count = 0 then s
  else
    let n := s.ns nsid
    let t := (List.range count).foldl (fun t k =>
      let e := t.wrp.map.get (mapKey nsid (first + k))
      let t := if entryState e = 0 then t.addValid (entryLoc n e 0) (-(Int.ofNat n.parts)) else t
      t.setEntry nsid (first + k) zeroEntry) (s.supersedeRun nsid first count)
    t.touchRun nsid first count own

/-- A map change of a host command: made, and mirrored as one MMAP (R258, R259); the command waits for the MACK where the
joined condition of Table 7-2 holds. -/
def State.mapChange (s : State) (c : CmdId) (nsid first count action : Nat) : State :=
  if count = 0 then s
  else
    let n := s.ns nsid
    let t := if action = 1 then s.unmapRun nsid first count true else s.zeroRun nsid first count true
    let t := t.updCmd c fun x => { x with mapHeld := true }
    if t.mirrors n then
      t.mirror nsid (.map (if t.pairedAck n || t.ackWithheld n then some c else none)) (regionsOf first count) fun q => .mmap nsid first count action q false
    else t

/-! ## Keys (R446 to R449, R452) -/

/-- The bytes of "DN9640-KCV". -/
def kcvLabel : List Byte := [0x44, 0x4E, 0x39, 0x36, 0x34, 0x30, 0x2D, 0x4B, 0x43, 0x56]
/-- The key check value of a key, its eight bytes read as a little-endian number (R452). -/
def kcvOf (key : List Byte) : BitVec 64 := BitVec.ofNat 64 (rd (sha256 (kcvLabel ++ key)) 0 8)

/-- A slot holds a key. -/
def KeySlot.keyed (k : KeySlot) : Bool := k.state == 1 || k.state == 2

/-- TCY_STATUS: slots GENERATED or INSTALLED. -/
def State.showSlots (s : State) : State :=
  s.setNum Reg.tcyStatus ((s.keys.entries.filter fun e => e.2.keyed).length % 32768)

/-- Marks a paired namespace unprotected (R493, R500). -/
def State.unprotect (s : State) (nsid : Nat) : State :=
  if (s.ns nsid).paired then s.updNs nsid fun n => { n with prot := 2, source := false, copied := false, resyncDoneSent := false, resyncDoneGot := false } else s

/-- The two key check values of a paired namespace are known and differ (R452). -/
def State.kcvDiffers (s : State) (nsid : Nat) : Bool :=
  (s.keys.get nsid).keyed && (lookupKey nsid s.mlk.kcvs).any (· != kcvOf (s.keys.get nsid).key)

/-- The two key check values of a paired namespace are compared (R452): while they differ it is unprotected. A resync that
runs goes on and leaves it so. -/
def State.compareKcv (s : State) (nsid : Nat) : State :=
  if (s.ns nsid).paired ∧ s.kcvDiffers nsid then
    (if (s.ns nsid).prot = 3 then s else s.unprotect nsid).raise Reg.tcyEvent 1
  else s

/-- A slot changes: a slot keyed or erased (Table 11-9). A keyed slot of a paired namespace has its check value sent on
VC5 (R452): the model carries the NSID above the value in one number. -/
def State.setKey (s : State) (nsid state : Nat) (key : List Byte) : State :=
  let t := (State.showSlots { s with keys := s.keys.set nsid { state := state, key := key } }).raise Reg.secEvent 5
  if (state = 1 ∨ state = 2) ∧ (t.ns nsid).paired then
    (t.send (.control 9 (nsid * 2 ^ 64 + (kcvOf key).toNat))).compareKcv nsid
  else t

/-- A draw of 64 bytes from the random generator. -/
def State.newKey (s : State) : List Byte × State := (fitBytes 64 (Config.randomBytes s.draw 64), s.drawn)

/-! ## Crypto erase (R454) -/

/-- Reads of a namespace admitted earlier that have not passed their CIPHER stage (R454 step 2); a Verify counts until its
units are recovered. -/
def State.readsLeft (s : State) (nsid : Nat) : Bool :=
  s.cmds.any fun x => !x.admin && x.nsid == nsid && isReadOp x.op && x.looked && x.status.isNone &&
    x.units.any fun r => match r.phase with
      | .plain | .issued | .failed => false
      | .recovered => x.op != 0x0C
      | _ => true

/-- Frees the staged units of a namespace without programming them (Table 7-5): they leave the stripes and the program
units that have not started. -/
def State.freeStaged (s : State) (nsid : Nat) : State :=
  let t := s.purge (·.nsid == nsid)
  let done (x : Cmd) : Cmd := if x.nsid = nsid ∧ ¬ x.admin ∧ x.filling then { x with filling := false, toFetch := 0, toEnc := 0 } else x
  { t with cmds := t.cmds.map done }

/-- Steps 3 to 6 of the crypto erase of a namespace: key and staging are gone, every unit is unmapped, and a solo
namespace that stays gets a new key. Writes still held for staging go on against the new state; those of an EMPTY slot
fail (R450). -/
def State.cryptoErase (s : State) (nsid : Nat) (stays : Bool) : State :=
  let n := s.ns nsid
  let t := (s.freeStaged nsid).unmapRun nsid 0 n.iuCount true
  let t := if stays && !n.paired then
      let (key, u) := t.newKey
      u.setKey nsid 1 key
    else (State.setKey { t with mlk := { t.mlk with kcvs := eraseKey nsid t.mlk.kcvs } } nsid 0 [])
  let t := (t.inc Reg.tcyEraseCnt).raise Reg.tcyEvent 0
  let held := (t.cmds.filter fun x => x.held && !x.admin && x.nsid == nsid && x.status.isNone).map (·.id)
  let t := if stays && !n.paired then t else held.foldl (fun t c => t.failCmd c (nvmeStatus 0 0x82)) t
  t.retryHeld.settle

end Sys2Proof.Machine
end

