-- ==== Sys2Proof/Machine/Nvme.lean ====
section
/-! DEFINITION. The I/O commands (R389): Flush, Write, Read, Compare, Write Zeroes, Dataset Management, Verify and Copy:
their checks, the charge of a write (R144, R152), and what they start on the read and write paths. -/
namespace Sys2Proof

/-- Starting LBA of an I/O command, and its logical blocks. -/
def Sqe.slba (q : Sqe) : Nat := q.cdw10.toNat + q.cdw11.toNat * 2 ^ 32
def Sqe.nlb (q : Sqe) : Nat := Machine.wordField q.cdw12 0 16 + 1

end Sys2Proof

namespace Sys2Proof.Machine

/-! ## Checks -/

/-- The broadcast NSID. -/
abbrev allNs : Nat := 0xFFFFFFFF

/-- A namespace is attached to a function and takes its commands (R395). -/
def State.nsOpen (s : State) (f nsid : Nat) : Bool :=
  let n := s.ns nsid
  n.present && n.attached == some f && !n.detaching

/-- The bytes of a logical block. -/
def Ns.lbaBytes (n : Ns) : Nat := if n.lba512 then 512 else 4096

/-- The 4 KiB units that cover a range of logical blocks: the first and how many. -/
def Ns.cover (n : Ns) (lba nlb : Nat) : Nat × Nat :=
  let first := lba / n.lbasPerUnit
  (first, (lba + nlb + n.lbasPerUnit - 1) / n.lbasPerUnit - first)

/-- What the walk of a command's PRP list or SGL fails with (R405). -/
def prpFailure (q : Sqe) : Option Nat :=
  if q.psdt = 3 then some invalidField
  else if q.psdt = 0 then (if q.prpOk then none else some (nvmeStatus 0 0x13))
  else if ¬ q.sglTypeOk then some (nvmeStatus 0 0x11)
  else if ¬ q.sglLenOk then some (nvmeStatus 0 0x0F) else none

/-- Counts a PRP or SGL failure (R405). -/
def State.countPrp (s : State) (q : Sqe) : State :=
  if q.psdt = 0 then (s.countErr .qen Reg.qenPrpErrCnt 0xFFFF q.id.fn).raise Reg.qenEvent 1
  else if q.psdt = 3 then s
  else (s.countErr .qen Reg.qenSglErrCnt 0xFFFF q.id.fn).raise Reg.qenEvent 2

/-- The status of a command whose range lies outside the namespace, or that is longer than MDTS where it moves data
(Table 10-3). -/
def Ns.rangeFailure (n : Ns) (lba nlb : Nat) (mdts : Bool) : Option Nat :=
  if mdts ∧ 2 ^ 21 < nlb * n.lbaBytes then some invalidField
  else if n.nsze < lba + nlb then some (nvmeStatus 0 0x80) else none

/-- The chip may not write a paired namespace in role READ_ONLY (Table 12-8). -/
def State.readOnlyNs (s : State) (nsid : Nat) : Bool := (s.ns nsid).paired && s.field Reg.mlkPairState 3 3 == 3

/-- A unit is homed on a die that takes no writes (R309). -/
def State.homeFault (s : State) (nsid : Nat) (units : List Nat) : Bool :=
  (units.map (s.homeLane nsid)).any fun l => !s.dieUsable l || (s.die l).readOnly

/-- A write that leaves the indirection units `ius` mapped would raise the VF's capacity above QUOTA, with what earlier writes
are still to map (R140). -/
def State.overQuota (s : State) (f nsid : Nat) (ius : List Nat) : Bool :=
  match s.prx.active.bind (·.tenant? f) with
  | some t =>
    let extra (k : Nat) (l : List Nat) : Nat :=
      ((s.comingIus k ++ l).eraseDups.filter fun i => !(s.mappedIus k).contains i).length * (s.ns k).parts
    let have_ := s.mappedIus nsid ++ s.comingIus nsid
    t.quota != 0 && (ius.any fun i => !have_.contains i) &&
      decide (t.quota * 262144 < s.mappedUnits f + ((s.attachedTo f).map fun k => extra k (if k = nsid then ius else [])).sum)
  | none => false

/-- What refuses a command that stages data in `units`, sets `ius` mapped, and needs a key unless `dealloc`
(R140, R309, R450, R501). -/
def State.writeFailure (s : State) (f nsid : Nat) (units ius : List Nat) (dealloc : Bool) : Option Nat :=
  if s.readOnlyNs nsid then some (nvmeStatus 0 0x20)
  else if ¬ dealloc ∧ ¬ (s.keys.get nsid).keyed then some (nvmeStatus 0 0x82)
  else if s.homeFault nsid units then some (nvmeStatus 2 0x80)
  else if s.overQuota f nsid ius then some (nvmeStatus 0 0x81) else none

/-- The journal records that a command's map changes may need (Table 7-4). -/
def journalNeed (i : Instr) : Nat :=
  match i with
  | .writeZeroes q => q.nlb
  | .datasetManagement _ r => r.length
  | _ => 0

/-- Serves an I/O command `i` by `f`: one to a namespace that is not attached fails, one to a namespace under a crypto erase is
held (R454 step 1), one that comes after the boundary of a Park request stays queued (R32), and one whose map changes find no room
in the journal tail waits for it (R276). `again` marks a command that was held before: a detach that came later lets it run to its
end (R395). -/
def State.ioGate (s : State) (q : Sqe) (i : Instr) (again : Bool) (f : State → State) : State :=
  if ¬ (s.nsOpen q.id.fn q.nsid || (again && (s.ns q.nsid).present && (s.ns q.nsid).attached == some q.id.fn)) then s.finish q.id (nvmeStatus 0 0x0B)
  else if (s.ns q.nsid).erasing then s.updNs q.nsid fun n => { n with heldIo := n.heldIo ++ [i] }
  else if ¬ s.admitting then { s with prx := { s.prx with parked := s.prx.parked ++ [i] } }
  else if tailLimit < s.wrp.tail.length + journalNeed i then
    State.showJournal { s with wrp := { s.wrp with waiting := s.wrp.waiting ++ [i] } }
  else f s

/-- Fetches an I/O command (R403), and its PRP list or SGL segments in stages of their own (R242). -/
def State.ioCmd (s : State) (q : Sqe) (i : Instr) (f : State → State) : State :=
  s.fetchCmd q false fun _ t => (t.updCmd q.id fun x => { x with lists := (q.list + 4095) / 4096 }).ioGate q i false f

/-- A command's range, recorded for its checks and its metering. -/
def State.noteRange (s : State) (q : Sqe) (lba nlb : Nat) : State :=
  let c := (s.ns q.nsid).cover lba nlb
  s.updCmd q.id fun x => { x with first := c.1, count := c.2, lba := lba, nlb := nlb }

/-! ## Flush, Read, Verify, Compare (R243, R257) -/

/-- Flush (R257). -/
def State.flushCmd (s : State) (q : Sqe) : State :=
  s.fetchCmd q false fun _ t =>
    if q.nsid = allNs ∨ t.nsOpen q.id.fn q.nsid then t.finish q.id 0 else t.finish q.id (nvmeStatus 0 0x0B)

/-- A command that reads media goes on to MAP_LOOKUP; a Read or Compare moves data (R242, R243). -/
def State.serveRead (s : State) (q : Sqe) (data equal : Bool) : State :=
  let n := s.ns q.nsid
  match n.rangeFailure q.slba q.nlb data, (if data then prpFailure q else none) with
  | some st, _ => s.finish q.id st
  | none, some st => (s.countPrp q).finish q.id st
  | none, none =>
    let t := (s.noteRange q q.slba q.nlb).updCmd q.id fun x => { x with equal := equal }
    if q.opcode = 0x05 then t.updCmd q.id fun x => { x with toFetch := x.count }
    else if q.opcode = 0x02 then { t with hpt := { t.hpt with rwAt := t.frame } } else t

/-! ## Write (R144, R152) -/

/-- A write to a namespace is acknowledged under a solo condition of Table 7-2 (R152): the namespace is solo, or, outside the grace
hold, unprotected or being resynced (R500), or the chip is a sole or split writer. -/
def State.soloMode (s : State) (n : Ns) : Bool :=
  !n.paired || (s.field Reg.mlkPairState 0 3 != 1 &&
    (n.prot == 2 || n.prot == 3 || s.field Reg.mlkPairState 3 3 == 1 || s.field Reg.mlkPairState 3 3 == 2))

/-- A write of 512-byte blocks whose merge needs a media read (R263). -/
def State.sectorMerge (s : State) (nsid lba nlb : Nat) : Bool :=
  let n := s.ns nsid
  let edge (x : Nat) : Bool := x % n.lbasPerUnit != 0 && (match s.resolve nsid (x / n.lbasPerUnit) with | .media _ => true | _ => false)
  edge lba || edge (lba + nlb)

/-- The charge of a Write (R144, R152): bounded, or best-effort without a token. -/
def State.chargeWriteCmd (s : State) (c : CmdId) (nsid lba nlb count : Nat) : State :=
  let s := s.updCmd c fun z => { z with charged := true, chargedF := s.frame }
  match s.prx.active with
  | none => s
  | some i =>
    match i.tenant? c.fn with
    | none => s
    | some t =>
      let n := s.ns nsid
      if s.inRun ∧ t.wackBoundIn s.variant ≠ 0 ∧ nlb * n.lbaBytes ≤ 16384 ∧ (s.soloMode n → s.bit Reg.wrpStatus 0) ∧
          ¬ s.sectorMerge nsid lba nlb then
        match (s.tenants.get c.fn).chargeWrite count with
        | some y =>
          State.updCmd { s with tenants := s.tenants.set c.fn y } c fun z =>
            { z with bounded := true, bound := s.boundAcross c.fn TenantEntry.wackBoundIn }
        | none => s
      else s

/-- The Cmd as it stands goes to staging (R246, R251). -/
def State.fillNow (s : State) (c : CmdId) : State :=
  match s.cmd? c with
  | some x => s.tryFill x
  | none => s

/-- A Write (R144). -/
def State.serveWrite (s : State) (q : Sqe) : State :=
  let n := s.ns q.nsid
  let c := n.cover q.slba q.nlb
  let units := (List.range c.2).map (c.1 + ·)
  match n.rangeFailure q.slba q.nlb true, prpFailure q, s.writeFailure q.id.fn q.nsid units (units.map (· / n.parts)) false with
  | some st, _, _ => s.finish q.id st
  | none, some st, _ => (s.countPrp q).finish q.id st
  | none, none, some st => s.finish q.id st
  | none, none, none =>
    let t := (s.noteRange q q.slba q.nlb).chargeWriteCmd q.id q.nsid q.slba q.nlb c.2
    State.fillNow { t with hpt := { t.hpt with rwAt := t.frame } } q.id

/-! ## Write Zeroes and Dataset Management (R258) -/

/-- The whole indirection units of a range of logical blocks, as first and count, and the units of its partial ones. -/
def Ns.zeroParts (n : Ns) (lba nlb : Nat) : (Nat × Nat) × List Nat :=
  let per := n.lbasPerUnit * n.parts
  let lo := (lba + per - 1) / per
  let hi := (lba + nlb) / per
  let c := n.cover lba nlb
  let whole (u : Nat) : Bool := decide (lo ≤ u / n.parts) && decide (u / n.parts < hi)
  ((lo, hi - lo), ((List.range c.2).map (c.1 + ·)).filter fun u => !whole u)

/-- Applies a Write Zeroes or a deallocation of ranges: whole units change the map, partial ones are staged as zeros, and
the command completes when both are acknowledged (R258). -/
def State.zeroRanges (s : State) (q : Sqe) (ranges : List (Nat × Nat)) (action : Nat) : State :=
  let n := s.ns q.nsid
  let ps := ranges.map fun r => n.zeroParts r.1 r.2
  let zeros := (ps.flatMap (·.2)).eraseDups
  let ius := zeros.map (· / n.parts) ++ (if action = 2 then ps.flatMap fun p => (List.range p.1.2).map (p.1.1 + ·) else [])
  match s.writeFailure q.id.fn q.nsid zeros ius (action == 1) with
  | some st => s.finish q.id st
  | none =>
    let t := ps.foldl (fun t p => t.mapChange q.id q.nsid p.1.1 p.1.2 action) s
    let t := t.updCmd q.id fun x => { x with zeros := zeros, charged := true }
    (if zeros.isEmpty then t else t.fillNow q.id).settle

/-- Write Zeroes: CDW12 bit 25 is DEAC (R258). -/
def State.serveZeroes (s : State) (q : Sqe) : State :=
  ((s.ns q.nsid).rangeFailure q.slba q.nlb false).elim
    ((s.noteRange q q.slba q.nlb).zeroRanges q [(q.slba, q.nlb)] (if q.cdw12.getLsbD 25 then 1 else 2))
    fun st => s.finish q.id st

/-- Dataset Management: CDW11 bit 2 asks for deallocation; other attributes have no effect (R258, R389). -/
def State.serveDsm (s : State) (q : Sqe) (ranges : List (Nat × Nat)) : State :=
  let n := s.ns q.nsid
  match prpFailure q with
  | some st => (s.countPrp q).finish q.id st
  | none =>
    if ranges.any fun r => n.nsze < r.1 + r.2 then s.finish q.id (nvmeStatus 0 0x80)
    else if q.cdw11.getLsbD 2 then s.zeroRanges q ranges 1
    else s.finish q.id 0

/-! ## Copy (R243, R389) -/

/-- Copy: SDLBA in CDW10 and CDW11. More than 128 ranges, a range above 512 blocks or more than 4,096 blocks in all exceed
the command's limits. -/
def State.serveCopy (s : State) (q : Sqe) (ranges : List (Nat × Nat)) : State :=
  let n := s.ns q.nsid
  let total := (ranges.map (·.2)).sum
  let c := n.cover q.slba total
  let units := (List.range c.2).map (c.1 + ·)
  match prpFailure q with
  | some st => (s.countPrp q).finish q.id st
  | none =>
    if 128 < ranges.length ∨ ranges.any (fun r => 512 < r.2) ∨ 4096 < total then s.finish q.id (nvmeStatus 1 0x83)
    else if n.nsze < q.slba + total ∨ ranges.any (fun r => n.nsze < r.1 + r.2) then s.finish q.id (nvmeStatus 0 0x80)
    else
      match s.writeFailure q.id.fn q.nsid units (units.map (· / n.parts)) false with
      | some st => s.finish q.id st
      | none => (s.noteRange q q.slba total).updCmd q.id fun x => { x with ranges := ranges.map fun r => n.cover r.1 r.2 }

/-! ## Held commands (R32, R454) -/

/-- Serves an I/O command that was held during a crypto erase or for Park; a command that ended meanwhile is passed over. -/
def State.serveIo (s : State) (i : Instr) : State :=
  let go (q : Sqe) (f : State → State) : State :=
    if (s.cmd? q.id).any (·.status.isNone) then s.ioGate q i true f else s
  match i with
  | .write q => go q (·.serveWrite q)
  | .read q => go q (·.serveRead q true true)
  | .verify q => go q (·.serveRead q false true)
  | .compare q e => go q (·.serveRead q true e)
  | .writeZeroes q => go q (·.serveZeroes q)
  | .datasetManagement q r => go q (·.serveDsm q r)
  | .copy q r => go q (·.serveCopy q r)
  | _ => s

/-- Run has resumed: the commands that stayed queued are served, in the order in which they were fetched (R32). -/
def State.serveParked (s : State) : State :=
  if s.admitting then s.prx.parked.foldl (fun t i => t.serveIo i) { s with prx := { s.prx with parked := [] } } else s

/-- The journal tail falls below its limit: the commands that waited for room are served, and held acknowledgements go on
(R276). -/
def State.journalBelow (s : State) : State :=
  let t := s.wrp.waiting.foldl (fun t i => t.serveIo i) { s with wrp := { s.wrp with waiting := [] } }
  t.showJournal.settle

/-! ## Meanings -/

def execJournalTailBelowLimit (s : State) : Result := .next (s.whenLive State.journalBelow)
def execImageSwitch (s : State) : Result := .next (s.whenLive fun t => (t.imageSwitch).serveParked)

def execFlush (q : Sqe) (s : State) : Result := .next (s.whenLive (·.flushCmd (q.as 0x00)))
def execWrite (q : Sqe) (s : State) : Result := .next (s.whenLive (·.ioCmd (q.as 0x01) (.write (q.as 0x01)) (·.serveWrite (q.as 0x01))))
def execRead (q : Sqe) (s : State) : Result := .next (s.whenLive (·.ioCmd (q.as 0x02) (.read (q.as 0x02)) (·.serveRead (q.as 0x02) true true)))
def execCompare (q : Sqe) (equal : Bool) (s : State) : Result :=
  .next (s.whenLive (·.ioCmd (q.as 0x05) (.compare (q.as 0x05) equal) (·.serveRead (q.as 0x05) true equal)))
def execWriteZeroes (q : Sqe) (s : State) : Result := .next (s.whenLive (·.ioCmd (q.as 0x08) (.writeZeroes (q.as 0x08)) (·.serveZeroes (q.as 0x08))))
def execDatasetManagement (q : Sqe) (ranges : List (Nat × Nat)) (s : State) : Result :=
  .next (s.whenLive (·.ioCmd (q.as 0x09) (.datasetManagement (q.as 0x09) ranges) (·.serveDsm (q.as 0x09) ranges)))
def execVerify (q : Sqe) (s : State) : Result := .next (s.whenLive (·.ioCmd (q.as 0x0C) (.verify (q.as 0x0C)) (·.serveRead (q.as 0x0C) false true)))
def execCopy (q : Sqe) (ranges : List (Nat × Nat)) (s : State) : Result :=
  .next (s.whenLive (·.ioCmd (q.as 0x19) (.copy (q.as 0x19) ranges) (·.serveCopy (q.as 0x19) ranges)))

end Sys2Proof.Machine
end

