-- ==== Sys2Proof/Machine/Link.lean ====
section
/-! DEFINITION. The link layer of the Mirror Link (R470 to R485): flits, their check and sequence, acknowledgement and
replay, credits, training, retrain and reset. What the messages say to the pair is in Pair.lean. -/
namespace Sys2Proof.Machine

/-- STATE of MLK_PAIR_STATE (Table 12-6). -/
def State.pairState (s : State) : Nat := s.field Reg.mlkPairState 0 3
/-- ROLE of MLK_PAIR_STATE (Table 12-8). -/
def State.pairRole (s : State) : Nat := s.field Reg.mlkPairState 3 3
/-- The board is paired (R466). -/
def State.pairedBoard (s : State) : Bool := s.bit Reg.mlkStatus 0
/-- SPEED of MLK_STATUS: 0 down, 1 NRZ, 2 PAM4 (Table 12-13). -/
def State.mlkSpeed (s : State) : Nat := s.field Reg.mlkStatus 3 2

/-! ## Credits at join and link sessions (R477, R483) -/

/-- The credits of Table 12-4: header and data of VC0 to VC5. -/
def creditTable : List Nat := [256, 8192, 1024, 0, 1024, 0, 512, 4096, 64, 2048, 256, 256]

/-- Counts by credit from a list. -/
def creditsOf (l : List Nat) : NatTab := (List.range 12).foldl (fun t k => t.set k (l.getD k 0 % 65536)) {}

/-- A list of the twelve counts. -/
def creditList (t : NatTab) : List Nat := (List.range 12).map t.get

/-- The identifier a chip without a session announces in INIT; PAIR_ID 0's is the one the pair's next session takes. -/
def State.sessionId (s : State) : Nat := s.mlk.session.getD (s.mlk.sessions + 1)

/-- A link session begins (R483): sequence numbers and credit counts start anew. -/
def State.beginSession (s : State) (id : Nat) : State :=
  { s with mlk := { s.mlk with
      session := some id, sessions := max id s.mlk.sessions, replay := [], waiting := [], txSeq := 0, unacked := 0, rxSeq := 0,
      accepted := 0, longs := [], nakRun := 0, limit := creditsOf creditTable, consumed := {}, granted := creditsOf creditTable,
      grantNew := false, originSeq := 0, sent := [], inbound := [] } }

/-! ## Acknowledgement and replay (R473 to R476) -/

/-- Takes `k` acknowledged flits off the front of the replay buffer. -/
def dropFlits : Nat → List Formed → List Formed
  | _, [] => []
  | k, f :: rest =>
    if f.flits ≤ k then dropFlits (k - f.flits) rest
    else { f with flits := f.flits - k, seq := f.seq.map fun q => (q + k) % 4096 } :: rest

/-- SEQ of the oldest transmitted flit that is not acknowledged. -/
def State.txBase (s : State) : Nat := (s.mlk.txSeq + 4096 - s.mlk.unacked % 4096) % 4096

/-- Every flit before `next` has been received: those still held are released (R475); one outside the window says
nothing. -/
def State.ackTo (s : State) (next : Nat) : State :=
  let k := (next % 4096 + 4096 - s.txBase) % 4096
  if k ≤ s.mlk.unacked then
    (State.showSpill { s with mlk := { s.mlk with replay := dropFlits k s.mlk.replay, unacked := s.mlk.unacked - k } }
      s.replayDepth).pump
  else s

/-- Retransmits every flit not acknowledged (R475). -/
def State.replayAll (s : State) : State :=
  if s.mlk.unacked = 0 then s else (s.inc Reg.mlkReplayCnt s.mlk.unacked).emit (.link (.replay s.txBase))

/-- A speed retrain starts (R480): traffic pauses. -/
def State.speedRetrain (s : State) : State :=
  if s.linkUp && s.mlk.retrainAt.isNone && s.mlk.resetAt.isNone then
    State.inc { s with mlk := { s.mlk with retrainAt := some s.now, nakRun := 0 } } Reg.mlkRetrainCnt
  else s

/-- A NAK that names the next sequence number expected (R475); eight in a row for the same number retrain the rate
(R476). One that names a number outside the window says nothing. -/
def State.nak (s : State) (next : Nat) : State :=
  if s.mlk.unacked < (next % 4096 + 4096 - s.txBase) % 4096 then s else
  let run := if s.mlk.nakSeq = next ∧ s.mlk.nakRun ≠ 0 then s.mlk.nakRun + 1 else 1
  let t := (State.ackTo { s with mlk := { s.mlk with nakSeq := next, nakRun := run } } next).replayAll
  if 8 ≤ run then t.speedRetrain else t

/-- Sends a NAK of the next sequence number expected (R471, R474). -/
def State.sendNak (s : State) : State := (s.countErr .mlk Reg.mlkNakCnt).emit (.link (.nak s.mlk.rxSeq))

/-! ## Forward error correction (Table 12-1) -/

/-- Twice an element of GF(2⁸) with the field polynomial 0x11D. -/
def gfDouble (a : Nat) : Nat := if a < 128 then 2 * a else (2 * a) ^^^ 0x11D

/-- The product in GF(2⁸). -/
def gfMul (a b : Nat) : Nat :=
  ((List.range 8).foldl (fun (p : Nat × Nat) k => (if b.testBit k then p.1 ^^^ p.2 else p.1, gfDouble p.2)) (0, a)).1

/-- A power of the primitive element 2. -/
def gfPow (k : Nat) : Nat := (List.range (k % 255)).foldl (fun x _ => gfDouble x) 1

/-- The places of codeword `k` in a flit: its bytes, then its two parity bytes. The first is its highest power. -/
def fecPlaces (k : Nat) : List Nat := (List.range 250).filter (· % 3 == k) ++ [250 + 2 * k, 251 + 2 * k]

/-- The codeword's value at the power `r` of the primitive element. -/
def fecSyndrome (b : List Byte) (places : List Nat) (r : Nat) : Nat :=
  places.foldl (fun acc i => gfMul acc (gfPow r) ^^^ rd b i 1) 0

/-- Corrects one symbol of a codeword: the bytes after, and whether a symbol was corrected. What is beyond one symbol stays as it
came, and the CRC refuses it. -/
def fecWord (b : List Byte) (k : Nat) : List Byte × Bool :=
  let places := fecPlaces k
  let n := places.length
  let s0 := fecSyndrome b places Config.fecRoot
  let s1 := fecSyndrome b places (Config.fecRoot + 1)
  if s0 = 0 then (b, false)
  else
    match (List.range n).find? fun l => gfMul s0 (gfPow l) == s1 with
    | none => (b, false)
    | some l =>
      let i := places.getD (n - 1 - l) 0
      let e := gfMul s0 (gfPow (255 - Config.fecRoot * l % 255))
      (b.modify i fun x => x ^^^ BitVec.ofNat 8 e, true)

/-- The flit with its three codewords corrected (R471), and whether any was. -/
def fecDecode (b : List Byte) : List Byte × Bool :=
  (List.range 3).foldl (fun (p : List Byte × Bool) k => let (x, c) := fecWord p.1 k; (x, p.2 || c)) (b, false)

/-! ## A flit arrives (R470, R471, R474) -/

/-- One bit of the CRC-64 of Table 12-1. -/
def crcBit (c : BitVec 64) : BitVec 64 := if c.msb then (c <<< 1) ^^^ 0x42F0E1EBA9EA3693 else c <<< 1

/-- One byte of it, most significant bit first: no reflection. -/
def crcByte (c : BitVec 64) (b : Byte) : BitVec 64 :=
  let x := c ^^^ (b.setWidth 64 <<< 56)
  crcBit (crcBit (crcBit (crcBit (crcBit (crcBit (crcBit (crcBit x)))))))

/-- The CRC of a flit's first 242 bytes. -/
def flitCrc (b : List Byte) : BitVec 64 := (b.take 242).foldl crcByte 0xFFFFFFFFFFFFFFFF ^^^ 0xFFFFFFFFFFFFFFFF

/-- The CRC matches the field in bytes 242 to 249. -/
def flitGood (b : List Byte) : Bool := b.length == 256 && (flitCrc b).toNat == rd b 242 8

/-- A field of the flit header (Table 12-2). -/
def hdrField (b : List Byte) (lo w : Nat) : Nat := rd b 0 6 / 2 ^ lo % 2 ^ w

/-- The VC of an opcode, and whether its message is short, long, or may be either (Table 12-5). -/
def opcodeVc (op : Nat) : Option (Nat × Bool × Bool) :=
  match op with
  | 0x01 => some (0, false, true) | 0x02 => some (0, true, false) | 0x03 => some (0, true, false)
  | 0x10 => some (1, true, false) | 0x20 => some (2, true, false) | 0x30 => some (3, true, true)
  | 0x40 => some (4, false, true) | 0x41 => some (4, true, false) | 0x42 => some (4, true, false)
  | 0x43 => some (4, false, true) | 0x44 => some (4, true, false) | 0x45 => some (4, true, false)
  | 0x50 => some (5, true, false) | 0x51 => some (5, true, false)
  | _ => none

/-- A malformed message is dropped and counted; one that can be read as MWRITE, MMAP or MERASE is answered REJECTED
(R490). -/
def State.badMsg (s : State) (m : List Byte) : State :=
  let t := s.countErr .mlk Reg.mlkBadMsgCnt
  if rd m 0 1 ∈ [1, 2, 3] ∧ 32 ≤ m.length then t.send (.mack (rd m 24 8) 2) else t

/-- Whether a message with this opcode may come in a flit of this kind on this VC; an AREAD_RSP is long if its status is OK, else
short. -/
def msgOk (m : List Byte) (vc : Nat) (short : Bool) : Bool :=
  match opcodeVc (rd m 0 1) with
  | some (v, s, l) => v == vc && (if short then s else l) && (rd m 0 1 != 0x30 || (rd m 4 1 != 0) == short)
  | none => false

/-- The bytes of data that a long message's header announces (Table 12-5). -/
def longData (m : List Byte) : Nat :=
  match rd m 0 1 with
  | 0x01 => 4096 * bitCount (rd m 16 1)
  | 0x30 => 4096
  | 0x40 => rd m 4 4
  | 0x43 => (rd m 8 8 + 7) / 8
  | _ => 0

/-- A dropped message leaves the receive buffer: its credits are granted again (R478, R490). -/
def State.dropMsg (s : State) (m : List Byte) (vc blocks : Nat) : State :=
  (s.when (decide (vc < 6)) (·.took vc blocks)).badMsg m

/-- The last flit of a long message has arrived: one of another kind, VC or length than its header says is dropped (R490). -/
def State.longEnds (s : State) (x : LongIn) : State :=
  let blocks := (longData x.head + 63) / 64
  if msgOk x.head x.vc false ∧ x.bytes = 32 + 64 * blocks then s else s.dropMsg x.head x.vc ((x.bytes - 32 + 63) / 64)

/-- The flits of a long message in their order on its VC (R472); a flit that continues none is malformed. -/
def State.longFlit (s : State) (ty vc used : Nat) (pay : List Byte) : State :=
  let old := s.mlk.longs.find? (·.vc == vc)
  let put (l : List LongIn) : State := { s with mlk := { s.mlk with longs := l ++ s.mlk.longs.filter (·.vc != vc) } }
  let first : LongIn := { vc := vc, bytes := if ty = 4 then 236 else used, head := pay.take 32 }
  if ty = 4 ∨ ty = 7 then
    let cut (t : State) : State := match old with | some x => t.dropMsg x.head vc ((x.bytes - 32 + 63) / 64) | none => t
    if ty = 4 then cut (put [first]) else (cut (put [])).longEnds first
  else
    match old with
    | none => s.badMsg []
    | some x =>
      if ty = 5 then put [{ x with bytes := x.bytes + 236 }] else (put []).longEnds { x with bytes := x.bytes + used }

/-- Checks the messages of an accepted flit (R490). The messages themselves are given by their own rows. -/
def State.flitMessages (s : State) (b : List Byte) : State :=
  let ty := hdrField b 0 4
  let vc := hdrField b 30 3
  let pay := sub b 6 236
  if ty = 3 then
    let n := hdrField b 33 3
    if n = 0 then s.badMsg []
    else (List.range n).foldl (fun t k => let m := sub pay (32 * k) 32; if msgOk m vc true then t else t.dropMsg m vc 0) s
  else s.longFlit ty vc (hdrField b 36 8) pay

/-- A sequenced flit that passed the CRC (R474). -/
def State.seqFlit (s : State) (b : List Byte) : State :=
  let q := hdrField b 4 12
  let behind := (s.mlk.rxSeq + 4096 - q) % 4096
  if behind = 0 then
    let t : State := { s with mlk := { s.mlk with
      rxSeq := (s.mlk.rxSeq + 1) % 4096, accepted := s.mlk.accepted + 1, lastFlit := s.now,
      ackAt := if s.mlk.accepted = 0 then s.now else s.mlk.ackAt } }
    let t := t.flitMessages b
    if 256 ≤ t.mlk.accepted then t.sendAck else t
  else if behind ≤ 2048 then (s.inc Reg.mlkDupDropCnt).sendAck
  else s.sendNak

/-- The limits a CREDIT flit carries, VC0 to VC5, header then data (Table 12-3). -/
def flitLimits (b : List Byte) : List Nat := (List.range 12).map fun k => rd b (6 + 2 * k) 2

/-- A flit is counted for the rate of corrected flits; at the end of each millisecond more than 1 in 10,000 at 64 GT/s retrains
the rate (R480). -/
def State.countFlit (s : State) (corrected : Bool) : State :=
  let bad := s.mlk.fecFlits < 10000 * s.mlk.fecCorr && s.mlkSpeed == 2
  let t := if s.mlk.fecAt + 500000 ≤ s.now then
      State.when { s with mlk := { s.mlk with fecAt := s.now, fecFlits := 0, fecCorr := 0 } } bad State.speedRetrain
    else s
  { t with mlk := { t.mlk with fecFlits := t.mlk.fecFlits + 1, fecCorr := t.mlk.fecCorr + corrected.toNat } }

/-- A flit arrives: FEC, CRC, acknowledgement field, then its type. A flit that is accepted shows that the link lives (R482). While
LINK_EYE margins a lane, its CRC failures are not counted (R514). -/
def State.flit (s : State) (raw : List Byte) : State :=
  if s.mlkSpeed = 0 then s else
  let (b, corrected) := fecDecode raw
  let t := (s.when corrected (·.countErr .mlk Reg.mlkFecCorrCnt)).countFlit corrected
  if !flitGood b then (t.when (t.testRunning != some 4) (·.countErr .mlk Reg.mlkCrcFailCnt)).sendNak
  else
    let ty := hdrField b 0 4
    if 8 ≤ ty then t.badMsg []
    else
      let t : State := if ty < 3 then { t with mlk := { t.mlk with lastFlit := t.now } } else t
      let t := if hdrField b 28 1 = 0 then t
        else if hdrField b 29 1 = 0 then t.ackTo (hdrField b 16 12 + 1) else t.nak (hdrField b 16 12)
      if ty = 1 then State.pump { t with mlk := { t.mlk with limit := creditsOf (flitLimits b) } }
      else if 3 ≤ ty then t.seqFlit b
      else t

/-! ## Training, retrain and reset (R479 to R482) -/

/-- The INIT flit this chip sends (R479); the timestamp stands in the place of the round trip, and the echo goes out in
the step it came in, so that it is held for 0 ticks. -/
def State.initFlit (s : State) : InitFlit :=
  { serial := Config.serial, pairId := s.pwr.straps.pairId, graceMs := s.field Reg.mlkGrace 0 8, session := s.sessionId,
    nextSeq := s.mlk.rxSeq, limits := (List.range 6).map fun v => (s.mlk.granted.get (2 * v), s.mlk.granted.get (2 * v + 1)),
    roundTrip := s.now, hold := 0, paired := s.pairedBoard, lifecycle := s.sec.claim.isSome, version := 1 }

/-- SPEED, WIDTH and DEGRADED after training; a change of rate or width is an event (Tables 12-13, 12-14). -/
def State.setLinkRate (s : State) (speed width : Nat) : State :=
  let t := ((s.setField Reg.mlkStatus 3 2 speed).setField Reg.mlkStatus 5 5 width).setBit Reg.mlkStatus 2
    (decide (speed ≠ 2 ∨ width ≠ 16))
  if speed = s.mlkSpeed ∧ width = s.field Reg.mlkStatus 5 5 then t else t.raise Reg.mlkEvent 2

/-- The PHY trains, or fails to at every rate and width (R479); NRZ_ONLY forbids PAM4. -/
def State.linkTrain (s : State) (r : Option LinkTrained) : State :=
  if s.pairedBoard ∧ s.bit Reg.mlkCtl 0 ∧ (¬ s.linkUp ∨ s.mlk.resetAt.isSome) then
    match r with
    | some x =>
      if x.lanes = 4 ∨ x.lanes = 8 ∨ x.lanes = 16 then
        let t := s.setLinkRate (if x.pam4 && !s.bit Reg.mlkCtl 1 then 2 else 1) x.lanes
        t.send (.init t.initFlit)
      else s
    | none => s.setLinkRate 0 0
  else s

/-- The speed retrain completes within 1 ms (R480): traffic resumes from the sequence exchanged in INIT. -/
def State.speedRetrainDone (s : State) (pam4 : Bool) (peerNext : Nat) : State :=
  if s.mlk.retrainAt.any (s.now ≤ · + 500000) then
    let t : State := { s with mlk := { s.mlk with retrainAt := none, lastFlit := s.now } }
    ((t.setLinkRate (if pam4 && !t.bit Reg.mlkCtl 1 then 2 else 1) (t.field Reg.mlkStatus 5 5)).ackTo peerNext).replayAll.pump
  else s

/-- A link reset starts (R481): the PHY retrains from the start; sequence numbers and credit counts are kept. -/
def State.linkReset (s : State) : State :=
  if s.mlkSpeed ≠ 0 ∧ s.mlk.resetAt.isNone then
    (State.inc { s with mlk := { s.mlk with resetAt := some s.now, retrainAt := none } } Reg.mlkResetCnt).domainReset
      Reg.pwrDomainSeen 9
  else s

/-- One of the cases of R482 holds. While a retrain or a reset has its time, the pause of traffic is none. -/
def State.linkDead (s : State) : Bool :=
  let still := s.mlk.retrainAt.isNone && s.mlk.resetAt.isNone && decide (s.mlk.lastFlit + 4000 ≤ s.now)
  s.linkUp && (still || s.mlk.retrainAt.any (· + 500000 < s.now) || s.mlk.resetAt.any (· + 2500000 < s.now) ||
    decide (8 ≤ s.mlk.hbMiss))

def execFlitRx (bytes : List Byte) (s : State) : Result := .next (s.whenLive (·.flit bytes))
def execNakRx (seq : Nat) (s : State) : Result := .next (s.whenLive fun t => t.when t.linkUp (·.nak seq))
def execAckTimer (s : State) : Result :=
  .next (s.whenLive fun t => t.when (t.linkUp && t.mlk.accepted != 0 && decide (t.mlk.ackAt + 500 ≤ t.now)) State.sendAck)
def execCreditReport (s : State) : Result :=
  .next (s.whenLive fun t => t.when (t.linkUp && t.mlk.grantNew && decide (t.mlk.grantAt + 500 ≤ t.now)) fun u =>
    (State.rideAck { u with mlk := { u.mlk with grantNew := false } }).emit (.link (.credit (creditList u.mlk.granted))))
def execSpeedRetrain (s : State) : Result := .next (s.whenLive State.speedRetrain)
def execSpeedRetrainDone (pam4 : Bool) (peerNext : Nat) (s : State) : Result :=
  .next (s.whenLive (·.speedRetrainDone pam4 peerNext))
def execLinkTrain (t : Option LinkTrained) (s : State) : Result := .next (s.whenLive (·.linkTrain t))
def execLinkReset (s : State) : Result := .next (s.whenLive State.linkReset)

end Sys2Proof.Machine
end

