-- ==== Sys2Proof/Machine/Pair.lean ====
section
/-! DEFINITION. The redundant pair (R486 to R513, R653, R654): link up and down, grace and loss, roles, rejoin and resync,
the messages of VC0, VC4 and VC5, and paired namespaces. -/
namespace Sys2Proof.Machine

/-- Changes the pair state (Table 12-7). -/
def State.setPairState (s : State) (st : Nat) : State :=
  let t : State := if s.prx.armWait ∧ st ≠ 5 then { s with prx := { s.prx with armSolo := true } } else s
  t.setField Reg.mlkPairState 0 3 st

/-- Changes the role, and stores it with the grace period (R469). -/
def State.setRole (s : State) (r : Nat) : State :=
  let t := s.setField Reg.mlkPairState 3 3 r
  { t with mlk := { t.mlk with stored := { t.mlk.stored with role := r, grace := s.field Reg.mlkGrace 0 8 } } }

/-- Drives PAIR_FENCE_OUT (R468). -/
def State.driveFence (s : State) (high : Bool) : State :=
  let t := s.setBit Reg.mlkStatus 11 high
  if s.bit Reg.mlkStatus 11 = high then t else t.emit (.pin .fenceOut high)

/-- The paired namespaces, by NSID. -/
def State.pairedNss (s : State) : List Nat := (s.nss.entries.filter fun e => e.2.present && e.2.paired).map (·.1)

/-! ## Map space (R24), notices, namespaces of the partner -/

/-- The map would hold another `ius` indirection units: DRAM without the fixed regions of Table 1-5, 5 bytes a unit. -/
def State.mapFits (s : State) (without ius : Nat) : Bool :=
  let used := ((s.nss.entries.filter fun e => e.2.present && e.1 != without).map (·.2.iuCount)).sum
  5 * (used + ius) + 2850 * 2 ^ 20 ≤ ((s.pwr.desc.map (·.ddrGib)).getD 0) * 2 ^ 30

/-- A namespace of a function changed: its Changed Namespace List takes it, and the notice goes out where Asynchronous
Event Configuration bit 8 asks for it (Tables 10-5, 10-6). -/
def State.nsNotice (s : State) (f nsid : Nat) : State :=
  let t := s.updFn f fun x =>
    if x.changedNs.contains nsid then x else { x with changedNs := x.changedNs ++ [nsid] }
  if ((s.fn f).feats.get 0x0B).testBit 8 then t.asyncEvent f 2 0 4 else t

/-- Sends NS_SYNC for a namespace (Table 12-5). -/
def State.sendNsSync (s : State) (nsid action units : Nat) : State :=
  let n := s.ns nsid
  s.send (.nsSync { nsid := nsid, action := action, units := units, iu4k := n.iu4k, lba512 := n.lba512, plainKey := n.plainKey })

/-- Answers that a namespace was not created: its identifier is in use, or it does not fit (R503). The answer is a delete
of capacity 0, with the indirection-unit flag set in the first case. -/
def State.refuseNsSync (s : State) (nsid : Nat) (inUse : Bool) : State :=
  s.send (.nsSync { nsid := nsid, action := 2, units := 0, iu4k := inUse, lba512 := false, plainKey := 0 })

/-- Sends the change map of a namespace (R508). -/
def State.sendChangeMap (s : State) (nsid : Nat) : State :=
  let n := s.ns nsid
  s.send (.changeMap nsid ((n.iuCount + 4095) / 4096) n.changed)

/-- Sends the key check value of a keyed slot (R452). -/
def State.sendKcv (s : State) (nsid : Nat) : State :=
  let k := s.keys.get nsid
  if k.keyed then s.send (.control 9 (nsid * 2 ^ 64 + (kcvOf k.key).toNat)) else s

/-- Marks every resync region of a namespace as changed: it is resynced in full (R509). -/
def State.markFull (s : State) (nsid : Nat) : State :=
  s.updNs nsid fun n => { n with changed := regionsOf 0 n.iuCount }

/-- Adds resync regions to a change map (R507). -/
def State.markRegions (s : State) (nsid : Nat) (rs : List Nat) : State :=
  s.updNs nsid fun n => { n with changed := n.changed ++ rs.filter fun r => !n.changed.contains r }

/-! ## Resync units (R508) -/

/-- The parts of an indirection unit whose content can be sent, and whether all its other parts are unmapped. -/
def State.iuParts (s : State) (nsid iu : Nat) : List Nat × Bool :=
  let n := s.ns nsid
  let r (p : Nat) : Resolved := s.resolve nsid (iu * n.parts + p)
  ((List.range n.parts).filter fun p => match r p with | .staged _ => true | .media _ => true | _ => false,
   (List.range n.parts).any fun p => match r p with | .unmapped => true | .zero => true | _ => false)

/-- Sends one run of unmapped or ZERO indirection units. -/
def State.resyncRun (s : State) (nsid first count : Nat) : State :=
  if count = 0 then s
  else
    let act := if entryState (s.wrp.map.get (mapKey nsid first)) = 1 then 2 else 1
    (s.mirror nsid (.resync nsid) (regionsOf first count) fun q => .mmap nsid first count act q true).inc
      Reg.mlkResyncUnitCnt (count * (s.ns nsid).parts)

/-- Sends the parts of one mapped indirection unit. -/
def State.resyncUnit (s : State) (nsid iu : Nat) (parts : List Nat) : State :=
  (s.mirror nsid (.resync nsid) [iu / 4096] fun q => .mwrite nsid iu ((parts.map (2 ^ ·)).sum) q true).inc
    Reg.mlkResyncUnitCnt parts.length

/-- How many of the indirection units `ius` continue the run of unmapped or ZERO ones that begins before `next`, in map state `st`. -/
def State.runLength (s : State) (nsid st : Nat) : Nat → List Nat → Nat
  | _, [] => 0
  | next, iu :: rest =>
    let (parts, holes) := s.iuParts nsid iu
    if iu = next ∧ parts.isEmpty ∧ holes ∧ entryState (s.wrp.map.get (mapKey nsid iu)) = st then
      s.runLength nsid st (next + 1) rest + 1
    else 0

/-- The VC0 flits that resync units may still take in the frame in progress (R508): MLK_RESYNC_SHARE/256 of the flit times at the
link's rate and width (notes/assumptions/71.md). -/
def State.resyncLeft (s : State) : Nat :=
  let rate := if s.mlkSpeed = 2 then 2 else 1
  max 1 (s.field Reg.mlkResyncShare 0 8) * (500000 * rate * s.field Reg.mlkStatus 5 5 / 32) / 256 - s.mlk.resyncOut

/-- Charges flits to the resync share. -/
def State.resyncSpend (s : State) (flits : Nat) : State := { s with mlk := { s.mlk with resyncOut := s.mlk.resyncOut + flits } }

/-- The indirection units of a list of resync regions. -/
def Ns.regionIus (n : Ns) (rs : List Nat) : List Nat :=
  (rs.flatMap fun r => (List.range 4096).map (4096 * r + ·)).filter (· < n.iuCount)

/-! ## End of a namespace's resync (R509, R653) -/

/-- The namespace's RESYNC_DONE has gone both ways: it is protected again, but for differing key check values (R452). -/
def State.protect (s : State) (nsid : Nat) : State :=
  let n := s.ns nsid
  if n.prot = 3 ∧ n.resyncDoneSent ∧ n.resyncDoneGot then
    let p := if s.kcvDiffers nsid then 2 else 1
    let t := s.updNs nsid fun x => { x with prot := p, source := false, copied := false,
                                            changed := if s.joined then [] else x.changed }
    if p = 1 then t.raise Reg.mlkEvent 9 else t
  else s

/-- The last resync unit has its MACK: the source sends RESYNC_DONE. -/
def State.resyncSent (s : State) (nsid : Nat) : State :=
  let n := s.ns nsid
  if n.prot = 3 ∧ n.source ∧ ¬ n.resyncDoneSent ∧ ¬ (s.mlk.sent.any (·.kind == .resync nsid)) ∧
      ¬ (s.mlk.resyncs.any (·.1 == nsid)) then
    ((s.updNs nsid fun x => { x with resyncDoneSent := true }).send (.resyncDone nsid)).protect nsid
  else s

/-- A namespace that need not be resynced any more: protected, or left unprotected only under R452. -/
def State.resynced (s : State) (nsid : Nat) : Bool :=
  (s.ns nsid).prot == 1 || ((s.ns nsid).prot == 2 && s.kcvDiffers nsid && (s.ns nsid).resyncDoneSent && (s.ns nsid).resyncDoneGot)

/-- Every paired namespace is resynced: the chip proposes a frame for entering JOINED (R509 step 1). -/
def State.proposeJoin (s : State) : State :=
  if s.pairState = 4 ∧ s.mlk.joinOwn.isNone ∧ s.pairedNss.all s.resynced then
    State.send { s with mlk := { s.mlk with joinOwn := some (s.frame + 2) } } (.control 5 (s.frame + 2))
  else s

/-- Sends resync units while the share of the frame in progress allows (R508): the first of the front namespace's units, resolved
as it is sent, so that it follows the live writes before it. -/
def resyncPump : Nat → State → State
  | 0, s => s
  | k + 1, s =>
    match s.mlk.resyncs with
    | [] => s
    | (nsid, ius) :: others =>
      let next (rest : List Nat) (t : State) : State := { t with mlk := { t.mlk with resyncs := (nsid, rest) :: others } }
      if ¬ s.linkUp then s
      else if (s.ns nsid).prot ≠ 3 then resyncPump k { s with mlk := { s.mlk with resyncs := others } }
      else
        match ius with
        | [] => resyncPump k (State.resyncSent { s with mlk := { s.mlk with resyncs := others } } nsid).proposeJoin
        | iu :: rest =>
          let (parts, holes) := s.iuParts nsid iu
          let st := entryState (s.wrp.map.get (mapKey nsid iu))
          if parts.isEmpty then
            if ¬ holes then resyncPump k (next rest s)
            else if s.resyncLeft = 0 then s
            else
              let n := s.runLength nsid st (iu + 1) rest
              resyncPump k (next (rest.drop n) ((s.resyncRun nsid iu (n + 1)).resyncSpend 1))
          else
            let cost := (LinkMsg.mwrite nsid iu ((parts.map (2 ^ ·)).sum) 0 true).flits + holes.toNat
            if s.resyncLeft < cost then s
            else
              let t := if holes then s.resyncRun nsid iu 1 else s
              resyncPump k (next rest ((t.resyncUnit nsid iu parts).resyncSpend cost))

/-- Steps that the units left to send can take. -/
def State.resyncFuel (s : State) : Nat := (s.mlk.resyncs.map fun p => p.2.length + 1).sum

/-- The source sends the current content of every unit of the regions (R508). -/
def State.resyncSend (s : State) (nsid : Nat) (rs : List Nat) : State :=
  let t : State := { s with mlk := { s.mlk with
    resyncs := s.mlk.resyncs.filter (·.1 != nsid) ++ [(nsid, (s.ns nsid).regionIus rs)] } }
  resyncPump t.resyncFuel t

/-- A frame begins: the resync units have its share. -/
def State.resyncFrame (s : State) : State :=
  let t : State := { s with mlk := { s.mlk with resyncOut := 0 } }
  resyncPump t.resyncFuel t

/-- A namespace that R493 or R452 left unprotected is resynced alone while the pair is JOINED (R653). -/
def State.resyncAlone (s : State) (nsid : Nat) : State :=
  let n := s.ns nsid
  if s.joined ∧ n.paired ∧ n.prot = 2 ∧ n.attached.isSome ∧ ¬ s.kcvDiffers nsid then
    let t := s.updNs nsid fun x => { x with prot := 3, source := true, resyncDoneSent := false, resyncDoneGot := false }
    let t := (t.sendNsSync nsid 1 n.nsze).sendChangeMap nsid
    t.resyncSend nsid n.changed
  else s

/-! ## The end of a link session (R483, R498) -/

/-- Ends the session: the replay buffer and every held message are flushed. What the partner has not answered counts as
changed (R507). -/
def State.endSession (s : State) : State :=
  let t := s.mlk.sent.foldl (fun t m => if (t.ns m.nsid).paired then t.markRegions m.nsid m.regions else t) s
  (State.showSpill { t with mlk := { t.mlk with session := none, replay := [], waiting := [], unacked := 0, sent := [],
                                                inbound := [], joinOwn := none, peerJoin := none, peerMaps := [],
                                                resyncs := [], longs := [], accepted := 0, grantNew := false } } 0)

/-- Marks every paired namespace unprotected (R500). -/
def State.unprotectAll (s : State) : State := s.pairedNss.foldl (fun t n => t.unprotect n) s

/-- Namespace creates that wait on the partner end with Command Sequence Error, created on neither chip (R498). -/
def State.dropCreates (s : State) : State :=
  s.nss.entries.foldl (fun t e =>
    match e.2.creating with
    | some c => (t.updNs e.1 fun _ => {}).finish c (nvmeStatus 0 0x0C)
    | none => t) s

/-- The partner-lost condition of Table 3-11. -/
def State.setPartnerLost (s : State) (b : Bool) : State := (s.setBit Reg.prxStatus 8 b).conditions

/-- The partner is declared lost (R498): cause 1 GRACE, 2 DUMP, 3 FIRMWARE, 4 FENCE, 5 RESTARTED. -/
def State.declareLost (s : State) (cause : Nat) : State :=
  let t := (s.driveFence true).aroundsFallBack true
  let t := t.endSession
  let t : State := { t with mlk := { t.mlk with graceAt := none, bootGrace := false, lostAt := some t.now, blobs := t.mlk.blobs } }
  let t := ((t.setPairState 2).setField Reg.mlkPairState 16 3 cause).setPartnerLost true
  let t := ((t.countErr .mlk Reg.mlkPartnerLostCnt).raise Reg.mlkEvent 4).asyncEvent 0 7 3 0
  let t := if t.mig.any fun m => m.save && m.target then t.migFail 8 else t
  (t.dropCreates.unprotectAll).showAround.noteHeld

/-! ## Role edge (R499, R501) -/

/-- Commands whose effect is writes or map changes to paired namespaces, and that have no status yet. -/
def State.heldWrites (s : State) : List CmdId :=
  (s.cmds.filter fun x => !x.admin && isWriteOp x.op && x.status.isNone && (s.ns x.nsid).paired).map (·.id)

/-- With the later writes `gone` from staging, what they alone superseded there is again the content of its units. -/
def State.unsupersede (s : State) (gone : List SWrite) : State :=
  let later (o : SWrite) (u : Nat) (ws : List SWrite) : Bool := ws.any fun w => w.nsid == o.nsid && decide (o.order < w.order) &&
    w.from_.isNone && w.state != .filling && w.units.contains u
  { s with wrp := { s.wrp with writes := s.wrp.writes.map fun o =>
    { o with superseded := o.superseded.filter fun u =>
        !later o u gone || later o u s.wrp.writes || o.verified.contains u } } }

/-- In READ_ONLY the held writes' staged units are freed and the writes end with Namespace Is Write Protected (R499). -/
def State.failHeld (s : State) : State :=
  let cs := s.heldWrites
  let mine (w : SWrite) : Bool := w.origin == .own && w.state != .acked && w.state != .verified && (s.ns w.nsid).paired &&
    w.cmd.any cs.contains
  let t := (s.purge mine).unsupersede (s.wrp.writes.filter mine)
  (cs.foldl (fun t c => t.failCmd c (nvmeStatus 0 0x20)) t).retryHeld

/-- Settles the held writes under the role. -/
def State.settleRole (s : State) : State :=
  if s.pairRole = 3 then s.failHeld.settle
  else
    let t : State := { s with wrp := { s.wrp with writes := s.wrp.writes.map fun w =>
      if w.origin = .own ∧ w.state = .staged ∧ (s.ns w.nsid).paired then { w with heldOver := true } else w } }
    t.settle

/-- The role that the fence times select (Table 12-8): `tIn` none where PAIR_FENCE_IN has not been high. -/
def roleFor (pairId : Bool) (tIn : Option Nat) (tOwn : Nat) : Nat :=
  let w : Int := if pairId then 501000 else 500000
  match tIn with
  | none => 1
  | some t =>
    let d : Int := Int.ofNat t - Int.ofNat tOwn
    if w < d then 1 else if d < -w then 3 else if pairId then 3 else 2

/-- A decision on which both chips had declared within the window. -/
def isSplit (pairId : Bool) (tIn : Option Nat) (tOwn : Nat) : Bool :=
  let w : Int := if pairId then 501000 else 500000
  tIn.any fun t => decide (-w ≤ Int.ofNat t - Int.ofNat tOwn) && decide (Int.ofNat t - Int.ofNat tOwn ≤ w)

/-- The role edge: the first frame edge at least 501,000 ticks after the declaration. -/
def State.roleEdge (s : State) : State :=
  match s.mlk.lostAt with
  | some own =>
    if s.ftb.tick = 0 ∧ own + 501000 ≤ s.now then
      let id := s.pwr.straps.pairId
      let r := roleFor id s.mlk.fenceAt own
      let split := isSplit id s.mlk.fenceAt own
      let t := State.setRole { s with mlk := { s.mlk with lostAt := none } } r
      let t := if split then (t.countErr .mlk Reg.mlkSplitCnt).raise Reg.mlkEvent 7
        else if r = 3 then t.raiseLog .mlk Reg.mlkEvent 8 else t
      (t.driveFence true).settleRole
    else s
  | none => s

/-- PAIR_FENCE_IN is sampled high (R501): the tick is recorded, and a joined partner is declared lost. -/
def State.fenceIn (s : State) : State :=
  if s.pairedBoard then
    let t := s.setBit Reg.mlkStatus 12 true
    let t : State := { t with mlk := { t.mlk with fenceAt := some (t.mlk.fenceAt.getD t.now) } }
    if t.joined then t.declareLost 4 else t
  else s

/-! ## Joining (R506 to R509, R654) -/

/-- The first failed check of Table 12-10, against the partner's INIT; 0 for none. -/
def State.joinErr (s : State) (i : InitFlit) : Nat :=
  if i.pairId = s.pwr.straps.pairId then 1
  else if max 1 i.graceMs ≠ max 1 (s.field Reg.mlkGrace 0 8) then 2
  else if ¬ i.paired then 3
  else if i.lifecycle ≠ s.sec.claim.isSome then 4
  else if i.version ≠ 1 then 5
  else 0

/-- RESYNC begins: a new session, and for every paired namespace its creation on the partner where it is missing, its
check value, and its change map (R508, R509). -/
def State.beginResync (s : State) (i : InitFlit) : State :=
  let t := s.beginSession (if s.pwr.straps.pairId then i.session else s.sessionId)
  let other := s.mlk.stored.serial != some i.serial
  let t := (t.setField Reg.mlkPairState 8 8 0).setPairState 4
  let t := t.pairedNss.foldl (fun t n =>
    let t := (t.unprotect n).updNs n fun x => { x with prot := 3 }
    let t := if other then t.markFull n else t
    ((t.sendNsSync n 1 (t.ns n).nsze).sendKcv n).sendChangeMap n) t
  t.proposeJoin

/-- JOINING: the join checks are made against the partner's INIT; a failed one is recorded and the pair stays LOST
(R506). -/
def State.join (s : State) : State :=
  match s.mlk.peer with
  | none => s
  | some i =>
    let e := s.joinErr i
    if e = 0 then s.beginResync i
    else (((s.setPairState 2).setField Reg.mlkPairState 8 8 e).countErr .mlk Reg.mlkJoinRefusedCnt).raise Reg.mlkEvent 6

/-- MLK_CMD.REJOIN, or link up with AUTO_REJOIN; a join that was refused is retried at each later link up (R506). -/
def State.rejoin (s : State) (byCmd : Bool) : State :=
  if s.pairState = 2 ∧ s.linkUp ∧ (byCmd ∨ s.bit Reg.mlkCtl 3 ∨ s.field Reg.mlkPairState 8 8 ≠ 0) then s.join else s

/-- A CHANGE_MAP delivers the partner's change map (R508): the source is chosen, and sends the union of both. A partner whose fence
is high has a role other than JOINED (R468). -/
def State.changeMap (s : State) (nsid : Nat) (rs : List Nat) : State :=
  let n := s.ns nsid
  if ¬ n.present ∨ ¬ n.paired then s
  else if s.joined then
    s.updNs nsid fun x => { x with prot := 3, source := false, resyncDoneSent := false, resyncDoneGot := false }
  else if s.pairState = 4 then
    let both := n.changed != [] && rs != []
    let writer := s.pairRole == 1 || s.pairRole == 2 || (s.pairRole == 0 && !s.pwr.straps.pairId && !s.bit Reg.mlkStatus 12)
    let src := if n.copied then false else if both then writer else if n.changed != [] then true
      else if rs != [] then false else !s.pwr.straps.pairId
    let t := if both then s.raiseLog .mlk Reg.mlkEvent 10 nsid else s
    let t := t.updNs nsid fun x => { x with prot := 3, source := src, resyncDoneSent := false, resyncDoneGot := false }
    if src then (t.resyncSend nsid (n.changed ++ rs.filter fun r => !n.changed.contains r)) else t
  else s

/-- RESYNC_DONE arrives: the target answers it, and the namespace is protected again (R509, R653). -/
def State.resyncDone (s : State) (nsid : Nat) : State :=
  let n := s.ns nsid
  if n.prot = 3 then
    let t := s.updNs nsid fun x => { x with resyncDoneGot := true, resyncDoneSent := true }
    let t := if n.resyncDoneSent then t else t.send (.resyncDone nsid)
    (t.protect nsid).proposeJoin
  else s

/-- The wait for the MACK of every VC0 message that has left runs from now (R493). -/
def State.restartTimers (s : State) : State :=
  let held (q : Nat) : Bool := s.mlk.waiting.any (·.origin? == some q) ||
    s.mlk.replay.any fun f => f.seq.isNone && f.msg.origin? == some q
  { s with mlk := { s.mlk with sent := s.mlk.sent.map fun m => { m with sentAt := if held m.seq then none else some s.now } } }

/-- At the agreed frame the chip enters JOINED (R509). -/
def State.enterJoined (s : State) : State :=
  match s.mlk.joinOwn, s.mlk.peerJoin with
  | some a, some b =>
    if s.pairState = 4 ∧ max a b ≤ s.frame then
      let t := s.pairedNss.foldl (fun t n => t.updNs n fun x => { x with changed := [] }) s
      let t := ((t.setRole 0).driveFence false).setBit Reg.mlkStatus 12 false
      let t : State := { t with mlk := { t.mlk with
        joinOwn := none, peerJoin := none, peerMaps := [], fenceAt := none, lostAt := none,
        stored := { t.mlk.stored with serial := t.mlk.peer.map (·.serial) } } }
      (((t.restartTimers.setPairState 5).setPartnerLost false).raise Reg.mlkEvent 5).showAround.settle
    else s
  | _, _ => s

/-! ## Link up and down (R479, R482, R654) -/

/-- The link comes up: both ends have accepted each other's INIT. -/
def State.linkCameUp (s : State) (i : InitFlit) : State :=
  let t := (s.setBit Reg.mlkStatus 1 true).when (!s.linkUp) (·.raise Reg.mlkEvent 1)
  { t with mlk := { t.mlk with lastFlit := t.now, hbSeen := true, hbMiss := 0, retrainAt := none, resetAt := none,
                               limit := creditsOf (i.limits.flatMap fun p => [p.1, p.2]) } }

/-- The link goes down (R482): GRACE from JOINED; LOST from JOINING and RESYNC. -/
def State.goDown (s : State) : State :=
  let t := (((s.setBit Reg.mlkStatus 1 false).setField Reg.mlkStatus 3 2 0).setField Reg.mlkStatus 5 5 0)
  let t := (t.countErr .mlk Reg.mlkLinkDownCnt).raise Reg.mlkEvent 0
  let beat (m : LinkMsg) : Bool := match m with | .heartbeat _ => true | _ => false
  let t : State := { t with mlk := { t.mlk with
    retrainAt := none, resetAt := none, waiting := t.mlk.waiting.filter (!beat ·),
    replay := t.mlk.replay.filter fun f => !(f.seq.isNone && beat f.msg) } }
  if s.pairState = 5 then
    let t : State := { t with mlk := { t.mlk with
      graceAt := some t.now, bootGrace := false, sent := t.mlk.sent.map (fun m => { m with sentAt := none }),
      fenceAt := if t.bit Reg.mlkStatus 12 then some t.now else none } }
    (((t.setPairState 1).raise Reg.mlkEvent 3).aroundsFallBack false).showAround.noteHeld
  else if s.pairState = 3 ∨ s.pairState = 4 then
    let t := t.endSession
    ((t.pairedNss.foldl (fun t n => t.unprotect n) t).setPairState 2).showAround.settle
  else t.showAround

/-- The link goes down where one of the cases of R482 holds. -/
def State.linkDown (s : State) : State := if s.linkDead then s.goDown else s

/-- An INIT flit is accepted (R479): the partner's serial number, the link delay, and what the session identifier says
of the partner (R483). -/
def State.initRx (s : State) (i : InitFlit) : State :=
  let s := s.linkDown
  if ¬ s.pairedBoard ∨ s.mlkSpeed = 0 then s
  else
    let t : State := { s with mlk := { s.mlk with peer := some i } }
    let t := (t.setNum Reg.mlkPartnerSerialLo i.serial.toNat).setNum Reg.mlkPartnerSerialHi (i.serial.toNat / 2 ^ 32)
    let t := t.setNum Reg.ftbLinkDelay ((i.roundTrip - i.hold) / 2)
    let st := s.pairState
    if st = 1 ∧ s.mlk.bootGrace then
      let t := t.linkCameUp i
      let t : State := { t with mlk := { t.mlk with bootGrace := false, graceAt := none } }
      (t.endSession.unprotectAll.setPairState 3).join.settleRole
    else if st = 5 ∨ st = 1 then
      if s.mlk.session = some i.session then
        let u := ((t.linkCameUp i).ackTo i.nextSeq).replayAll
        if st = 1 then
          let u : State := { u with mlk := { u.mlk with graceAt := none } }
          ((u.restartTimers.setPairState 5).showAround).pump.settle
        else u.pump
      else ((t.declareLost 5).linkCameUp i).when (t.bit Reg.mlkCtl 3) State.join
    else if st = 4 then
      if s.mlk.session = some i.session then (((t.linkCameUp i).ackTo i.nextSeq).replayAll).pump
      else (t.goDown.linkCameUp i).when (t.bit Reg.mlkCtl 3) State.join
    else
      let u := t.linkCameUp i
      { u with mlk := { u.mlk with txSeq := i.nextSeq % 4096, unacked := 0 } }

/-- The grace period of MLK_GRACE in ticks (R497). -/
def State.graceTicks (s : State) : Nat := max 1 (s.field Reg.mlkGrace 0 8) * 500000

/-- The grace period has passed without the link (R497, R654). -/
def State.graceExpiry (s : State) : State :=
  if s.pairState = 1 ∧ s.mlk.graceAt.any (· + s.graceTicks ≤ s.now) then s.declareLost 1 else s

/-! ## VC0 and VC1 (R490, R492, R493) -/

/-- A MACK of status REJECTED, or none within 10 ms (R493): the namespace is unprotected, its write is acknowledged as
solo, and it is resynced alone (R653). -/
def State.mackFailed (s : State) (m : Mirrored) : State :=
  let t := if (s.ns m.nsid).paired then (s.unprotect m.nsid).markRegions m.nsid m.regions else s
  (t.settle).resyncAlone m.nsid

/-- A message without MACK by its ORIGIN_SEQ. -/
def State.sent? (s : State) (q : Nat) : Option Mirrored := s.mlk.sent.find? (·.seq == q)

/-- Takes a message off those without MACK. -/
def State.unsend (s : State) (q : Nat) : State := { s with mlk := { s.mlk with sent := s.mlk.sent.filter (·.seq != q) } }

/-- A MACK arrives (R254, R255). -/
def State.mack (s : State) (q status : Nat) : State :=
  match s.sent? q with
  | none => s
  | some m =>
    let t := s.unsend q
    if status = 2 then t.mackFailed m
    else
      match m.kind with
      | .resync n => (t.resyncSent n).proposeJoin.settle
      | _ => t.settle

/-- 10 ms have passed without a MACK while the pair is JOINED (R493). -/
def State.mackTimeout (s : State) (q : Nat) : State :=
  match s.sent? q with
  | none => s
  | some m => if s.joined ∧ m.sentAt.any (· + 5000000 ≤ s.now) then (s.unsend q).mackFailed m else s

/-- The pair mirrors: JOINED or RESYNC with a session. -/
def State.mirroring (s : State) : Bool := s.linkUp && (s.pairState == 5 || s.pairState == 4)

/-- A VC0 message names a namespace that is paired here (R490). -/
def State.pairedHere (s : State) (nsid : Nat) : Bool := (s.ns nsid).present && (s.ns nsid).paired

/-- A malformed VC0 message (R490). -/
def State.badMirror (s : State) (q : Nat) : State := (s.countErr .mlk Reg.mlkBadMsgCnt).send (.mack q 2)

/-- MWRITE is placed in staging (R250, R492); its MACK goes out when it is STAGED with the hold-up healthy (R255). -/
def State.applyMwrite (s : State) (m : MWrite) : State :=
  let n := s.ns m.nsid
  let parts := (List.range n.parts).filter (m.unitMask.testBit ·)
  let w : SWrite := { wid := s.wrp.nextWid, origin := .mirror, nsid := m.nsid, units := parts.map (m.index * n.parts + ·),
                      state := .filling, paired := true, mirrorSeq := some m.originSeq }
  let t := (s.took 0 (64 * parts.length)).addWrite w
  (t.becomeStaged w).settle

/-- MMAP unmaps a run or sets it to ZERO (R258, R492). -/
def State.applyMmap (s : State) (m : MMap) : State :=
  let t := s.took 0 0
  (if m.action = 1 then t.unmapRun m.nsid m.index m.count false else t.zeroRun m.nsid m.index m.count false).send
    (.mack m.originSeq 0)

/-- MERASE erases the namespace here (R454). -/
def State.applyMerase (s : State) (nsid q : Nat) : State := ((s.took 0 0).cryptoErase nsid true).send (.mack q 0)

/-- Applies one VC0 message, or answers that it has no room yet. Messages are applied in arrival order. -/
def State.applyMirror (s : State) (i : InMirror) : Option State :=
  match i with
  | .mwrite m => if bitCount m.unitMask ≤ s.mirrorFree then some (s.applyMwrite m) else none
  | .mmap m => some (s.applyMmap m)
  | .merase nsid q => some (s.applyMerase nsid q)

/-- Applies waiting VC0 messages while there is room (R250). -/
def drainInbound : Nat → State → State
  | 0, s => s
  | k + 1, s =>
    match s.mlk.inbound with
    | [] => s
    | i :: rest =>
      match State.applyMirror { s with mlk := { s.mlk with inbound := rest } } i with
      | some t => drainInbound k t
      | none => s

/-- A well-formed VC0 message takes its place behind those that wait. -/
def State.takeMirror (s : State) (i : InMirror) : State :=
  let t : State := { s with mlk := { s.mlk with inbound := s.mlk.inbound ++ [i] } }
  drainInbound t.mlk.inbound.length t

/-- MWRITE arrives. A mask or index beyond the namespace makes it malformed. -/
def State.mwrite (s : State) (m : MWrite) : State :=
  let n := s.ns m.nsid
  if ¬ m.lengthOk then (s.took 0 0).badMirror m.originSeq
  else if ¬ s.pairedHere m.nsid then (s.took 0 (64 * bitCount m.unitMask)).send (.mack m.originSeq 2)
  else if m.unitMask % 256 = 0 ∨ 2 ^ n.parts ≤ m.unitMask ∨ n.iuCount ≤ m.index then
    (s.took 0 (64 * bitCount m.unitMask)).badMirror m.originSeq
  else s.takeMirror (.mwrite m)

/-- MMAP arrives. An unknown action or a run beyond the namespace makes it malformed. -/
def State.mmap (s : State) (m : MMap) : State :=
  let n := s.ns m.nsid
  if ¬ s.pairedHere m.nsid then (s.took 0 0).send (.mack m.originSeq 2)
  else if (m.action ≠ 1 ∧ m.action ≠ 2) ∨ n.iuCount < m.index + m.count then (s.took 0 0).badMirror m.originSeq
  else s.takeMirror (.mmap m)

/-- MERASE arrives. -/
def State.merase (s : State) (nsid q : Nat) : State :=
  if s.pairedHere nsid then s.takeMirror (.merase nsid q) else (s.took 0 0).send (.mack q 2)

/-! ## VC4 and VC5 (R503, R511 to R513) -/

/-- Whether NS_SYNC describes the namespace that is here already. -/
def Ns.same (n : Ns) (m : NsSync) : Bool :=
  n.paired && n.nsze == m.units && n.iu4k == m.iu4k && n.lba512 == m.lba512 && n.plainKey == m.plainKey

/-- The partner has created the namespace: a waiting create completes; in a resync it starts empty there. -/
def State.nsCreated (s : State) (nsid : Nat) : State :=
  let n := s.ns nsid
  match n.creating with
  | some c => (s.updNs nsid fun x => { x with creating := none, present := true, prot := 1 }).finish c 0 (BitVec.ofNat 32 nsid)
  | none => if n.present ∧ n.prot = 3 then (s.markFull nsid).sendChangeMap nsid else s

/-- The partner refuses a create: with the status that says why (R503). -/
def State.nsRefused (s : State) (nsid status : Nat) : State :=
  match (s.ns nsid).creating with
  | some c => (s.updNs nsid fun _ => {}).finish c status
  | none => s

/-- Creates the partner's namespace here, or gives the one that is here the format of the partner's (R503; DEDUCED,
notes/assumptions/57.md). -/
def State.nsCopy (s : State) (m : NsSync) : State :=
  let n : Ns := { present := true, paired := true, nsze := m.units, ncap := m.units, lba512 := m.lba512, iu4k := m.iu4k,
                  plainKey := m.plainKey, placeKey := s.draw, prot := if s.joined then 1 else 3, copied := !s.joined }
  if (s.ns m.nsid).present then
    let x := s.ns m.nsid
    if x.same m then s
    else if x.paired ∧ x.plainKey = m.plainKey then
      s.updNs m.nsid fun y => { y with nsze := m.units, ncap := m.units, lba512 := m.lba512, iu4k := m.iu4k }
    else s.refuseNsSync m.nsid true
  else if ¬ s.mapFits m.nsid n.iuCount then s.refuseNsSync m.nsid false
  else
    let t := ((s.drawn).updNs m.nsid fun _ => n).sendNsSync m.nsid 1 0
    if s.joined then t else t.sendChangeMap m.nsid

/-- A contained chip's namespace has been attached on the partner: it is detached here at once (R513). -/
def State.takenOver (s : State) (nsid : Nat) : State :=
  match (s.ns nsid).attached with
  | some f => if s.containState ≠ 0 then (s.updNs nsid fun x => { x with attached := none }).nsNotice f nsid else s
  | none => s

/-- NS_SYNC arrives. A create of capacity 0 says that the partner has created the namespace, a delete of capacity 0 that it
could not (Invalid Identifier or Insufficient Capacity). -/
def State.nsSync (s : State) (m : NsSync) : State :=
  if ¬ s.mirroring then s
  else if m.action = 1 then (if m.units = 0 then s.nsCreated m.nsid else s.nsCopy m)
  else if m.action = 2 then
    if m.units = 0 then s.nsRefused m.nsid (nvmeStatus 1 (if m.iu4k then 0x16 else 0x15))
    else if s.pairedHere m.nsid then
      let t := s.cryptoErase m.nsid false
      { t with nss := t.nss.set m.nsid {}, mlk := { t.mlk with kcvs := eraseKey m.nsid t.mlk.kcvs } }
    else s
  else if m.action = 3 then (s.updNs m.nsid fun x => { x with peerAttached := x.present && x.paired }).takenOver m.nsid
  else if m.action = 4 then s.updNs m.nsid fun x => { x with peerAttached := false }
  else s.countErr .mlk Reg.mlkBadMsgCnt

/-- The lowest free inbound blob buffer (R512). -/
def State.freeBlob (s : State) : Option Nat := (List.range 4).find? fun b => !(s.mlk.blobs.any (·.1 == b))

/-- A state blob arrives on VC4 (R512). -/
def State.blobRx (s : State) (vf : Nat) (bytes : List Byte) : State :=
  let t := s.took 4 ((bytes.length + 63) / 64)
  if 16384 < bytes.length then t.send (.blobAck vf 2)
  else
    match t.freeBlob with
    | none => t.send (.blobAck vf 1)
    | some b =>
      (State.send { t with mlk := { t.mlk with blobs := t.mlk.blobs ++ [(b, vf, bytes)] } } (.blobAck vf 0)).raise Reg.mlkEvent 13

/-- Frees an inbound blob buffer. -/
def State.freeBlobBuf (s : State) (b : Nat) : State := { s with mlk := { s.mlk with blobs := s.mlk.blobs.filter (·.1 != b) } }

/-- REPAIR_REQ is answered with the recovered unit as a resync MWRITE (R511); a unit that is not recovered gets no
answer. -/
def State.repairReq (s : State) (nsid index part : Nat) (recovered : Bool) : State :=
  let n := s.ns nsid
  if recovered ∧ n.present ∧ n.paired ∧ n.prot = 1 ∧ s.joined ∧ part < n.parts ∧ index < n.iuCount then
    s.mirror nsid (.resync nsid) [index / 4096] fun q => .mwrite nsid index (2 ^ part) q true
  else s

/-- A partner key check value arrives (R452); where the two agree at last, the namespace is resynced (R653). -/
def State.kcv (s : State) (nsid : Nat) (v : BitVec 64) : State :=
  let t : State := { s with mlk := { s.mlk with kcvs := (nsid, v) :: eraseKey nsid s.mlk.kcvs } }
  (t.compareKcv nsid).resyncAlone nsid

/-- A frame on CONTROL subtype 5: in RESYNC the partner's frame for JOINED (R509), else its frame of clearing (R120). -/
def State.clearingFrameRx (s : State) (frame : Nat) : State :=
  if s.pairState = 4 then { s with mlk := { s.mlk with peerJoin := some frame } } else s.clearingFrame frame

def execInitRx (i : InitFlit) (s : State) : Result := .next (s.whenLive (·.initRx i))
def execLinkDown (s : State) : Result := .next (s.whenLive State.linkDown)
def execGraceExpiry (s : State) : Result := .next (s.whenLive State.graceExpiry)
def execDeclareLost (by_ : Requester) (s : State) : Result :=
  .next (s.byCore by_ Reg.mlkCmd fun t => t.when (t.pairState == 5 || t.pairState == 1) (·.declareLost 3))
def execFenceInAssert (s : State) : Result := .next (s.whenLive State.fenceIn)
def execRoleEdge (s : State) : Result := .next (s.whenLive State.roleEdge)
def execRejoin (by_ : Option Requester) (s : State) : Result :=
  .next (match by_ with | some r => s.byCore r Reg.mlkCmd (·.rejoin true) | none => s.whenLive (·.rejoin false))
def execPairJoined (s : State) : Result := .next (s.whenLive State.enterJoined)
def execMackRx (seq status : Nat) (s : State) : Result := .next (s.whenLive fun t => (t.took 1 0).mack seq status)
def execMackTimeout (seq : Nat) (s : State) : Result := .next (s.whenLive (·.mackTimeout seq))
def execMwriteRx (m : MWrite) (s : State) : Result := .next (s.whenLive fun t => t.when t.mirroring (·.mwrite m))
def execMmapRx (m : MMap) (s : State) : Result := .next (s.whenLive fun t => t.when t.mirroring (·.mmap m))
def execMeraseRx (nsid originSeq : Nat) (s : State) : Result :=
  .next (s.whenLive fun t => t.when t.mirroring (·.merase nsid originSeq))
def execBlobRx (vf : Nat) (bytes : List Byte) (s : State) : Result :=
  .next (s.whenLive fun t => t.when t.mirroring (·.blobRx vf bytes))
def execNsSyncRx (m : NsSync) (s : State) : Result := .next (s.whenLive fun t => (t.took 4 0).nsSync m)
def execChangeMapRx (nsid : Nat) (rs : List Nat) (s : State) : Result :=
  .next (s.whenLive fun t => (t.took 4 (((t.ns nsid).iuCount / 4096 + 512) / 512)).changeMap nsid rs)
def execRepairReqRx (nsid index part : Nat) (recovered : Bool) (s : State) : Result :=
  .next (s.whenLive fun t => (t.took 4 0).repairReq nsid index part recovered)
def execResyncDoneRx (nsid : Nat) (s : State) : Result := .next (s.whenLive fun t => (t.took 4 0).resyncDone nsid)
def execClearingFrameRx (frame : Nat) (s : State) : Result := .next (s.whenLive fun t => (t.took 5 0).clearingFrameRx frame)
def execPartnerHostLost (s : State) : Result :=
  .next (s.whenLive fun t => (State.took { t with mlk := { t.mlk with peerHostLost := true } } 5 0).raise Reg.mlkEvent 11)
def execPartnerHostRestored (s : State) : Result :=
  .next (s.whenLive fun t => (State.took { t with mlk := { t.mlk with peerHostLost := false } } 5 0).raise Reg.mlkEvent 12)
def execDumpNoticeRx (s : State) : Result :=
  .next (s.whenLive fun t => (t.took 5 0).when (t.pairState == 5 || t.pairState == 1) (·.declareLost 2))
def execKcvRx (nsid : Nat) (kcv : BitVec 64) (s : State) : Result := .next (s.whenLive fun t => (t.took 5 0).kcv nsid kcv)
def execGoingDownRx (s : State) : Result :=
  .next (s.whenLive fun t => State.took { t with mlk := { t.mlk with peerDown := true } } 5 0)
def execBlobDiscard (by_ : Requester) (s : State) : Result :=
  .next (s.byCore by_ Reg.mlkBlobCtl fun t => t.freeBlobBuf (t.field Reg.mlkBlobSel 0 2))

end Sys2Proof.Machine
end

