-- ==== Sys2Proof/Machine/Erase.lean ====
section
/-! DEFINITION. Namespaces as the admin commands create, attach, detach, delete, format and sanitize them (R24, R393 to
R396, R503, R505), and the crypto erase that three of them carry out (R454). -/
namespace Sys2Proof.Machine

/-- Fetches an admin command of one opcode; one that only PF0 serves completes on a VF with Invalid Command Opcode
(R388). -/
def State.adminCmd (s : State) (q : Sqe) (pf0 : Bool) (f : State → State) : State :=
  if pf0 && q.id.fn != 0 then s.fetchCmd { q with psdt := 0, fuse := 0 } true fun _ t => t.finish q.id 0x01
  else s.fetchCmd q true fun _ t => f t

/-- The data of an admin command goes to the host, or comes from it, in unowned capacity (R84); it carries no Relaxed Ordering
(R347). The CQE waits for it. -/
def State.adminData (s : State) (q : Sqe) (deliver : Bool) (len : Nat) (outs : List Out) : State :=
  let at_ := q.prp1.toNat % 4096
  if len = 0 then s
  else if deliver then
    s.internal { kind := .admin, fn := q.id.fn, cmd := some q.id, deliver := true, units := unitsOf len,
                 outs := s.writeTlps q.id.fn at_ len false false ++ outs }
  else s.internalRead .admin q.id.fn (some q.id) at_ len

/-! ## Crypto erase (R454) -/

/-- Erases that complete with a command are left. -/
def State.erasesLeft (s : State) (c : CmdId) : Bool := s.nss.entries.any fun e => e.2.eraseFor == some c

/-- Completes an erasing command once the last of its namespaces is erased. -/
def State.eraseSettle (s : State) (c : CmdId) : State := if s.erasesLeft c then s else s.finish c 0

/-- Marks namespaces for the erase. -/
def State.markErase (s : State) (nss : List Nat) (f : Ns → Ns) : State :=
  nss.foldl (fun t n => t.updNs n fun x => f { x with erasing := true }) s

/-- The erase of a paired namespace is mirrored while VC0 runs or is held for it (R454 step 5, R494, R500). -/
def State.mirrorsErase (s : State) (n : Ns) : Bool :=
  n.paired && ((s.pairState == 5 && n.prot != 2) || s.pairState == 4 || (s.pairState == 1 && n.prot == 1))

/-- The namespace as a format leaves it: its capacity stays, counted in the new blocks. -/
def Ns.formatted (n : Ns) (lba512 iu4k : Bool) : Ns :=
  let size := n.nsze * n.lbaBytes / (if lba512 then 512 else 4096)
  { n with nsze := size, ncap := size, lba512 := lba512, iu4k := iu4k }

/-- The Sanitize of a function has ended where none of its namespaces is left to erase. -/
def State.sanitizeSettle (s : State) (f : Nat) : State :=
  if (s.fn f).sanitize = 2 ∧ ¬ (s.attachedTo f).any (fun n => (s.ns n).erasing) then s.updFn f fun x => { x with sanitize := 1 }
  else s

/-- CRYPTO_ERASE_PROCEED: once the namespace's earlier reads have passed their CIPHER stage (and a namespace being deleted
is detached), steps 3 to 6 run, the held commands are served, and the erasing command completes. -/
def State.eraseProceed (s : State) (nsid : Nat) : State :=
  let n := s.ns nsid
  if ¬ n.erasing ∨ s.readsLeft nsid ∨ (n.deleting ∧ n.attached.isSome) then s
  else
    let t := s.cryptoErase nsid (!n.deleting)
    let t := if s.mirrorsErase n then t.mirror nsid (.erase nsid) (regionsOf 0 n.iuCount) fun q => .merase nsid q else t
    let t := if n.deleting then
        let u := if n.paired then t.sendNsSync nsid 2 n.nsze else t
        { u with nss := u.nss.set nsid {}, keys := u.keys.set nsid {} }
      else t.updNs nsid fun x =>
        let y : Ns := { x with erasing := false, eraseFor := none, eraseTo := none, heldIo := [] }
        match n.eraseTo with
        | some dest => y.formatted dest.1 dest.2
        | none => y
    let t := if s.mirrorsErase n ∧ n.eraseTo.isSome then t.sendNsSync nsid 1 (t.ns nsid).nsze else t
    let t := match n.eraseFor with | some c => t.eraseSettle c | none => t
    let t := match n.attached with | some f => t.sanitizeSettle f | none => t
    n.heldIo.foldl (fun t i => t.serveIo i) t

/-! ## Format NVM and Sanitize (R396) -/

/-- The namespaces a command of a function names: one that is attached to it, or all of them. -/
def State.named (s : State) (q : Sqe) : List Nat :=
  if q.nsid = allNs then (s.attachedTo q.id.fn).filter fun n => !(s.ns n).detaching
  else if s.nsOpen q.id.fn q.nsid then [q.nsid] else []

/-- Format NVM (R24, R396): CDW10 [3:0] LBA format, [11:9] SES. DESIGN CHOICE (notes/assumptions/57.md): CDW11 bit [0], which stands
for the IU4K bit of the create data, formats at 4 KiB units; with 0 the namespace keeps its unit. -/
def State.formatCmd (s : State) (q : Sqe) : State :=
  s.adminCmd q false fun t =>
    let ns := t.named q
    let lbaf := wordField q.cdw10 0 4
    if ns.isEmpty ∧ q.nsid ≠ allNs then t.finish q.id (nvmeStatus 0 0x0B)
    else if 2 < wordField q.cdw10 9 3 then t.finish q.id invalidField
    else if 1 < lbaf then t.finish q.id (nvmeStatus 1 0x0A)
    else if ns.any t.readOnlyNs then t.finish q.id (nvmeStatus 0 0x20)
    else if ns.any fun n => (t.ns n).erasing then t.finish q.id (nvmeStatus 0 0x84)
    else if ns.any fun n => !t.mapFits n ((t.ns n).formatted (lbaf == 1) ((t.ns n).iu4k || q.cdw11.getLsbD 0)).iuCount then t.finish q.id (nvmeStatus 1 0x15)
    else (t.markErase ns fun x => { x with eraseFor := some q.id, eraseTo := some (lbaf == 1, x.iu4k || q.cdw11.getLsbD 0) }).eraseSettle q.id

/-- Sanitize (R396, R454): SANACT 100b alone; it completes when it is accepted. -/
def State.sanitizeCmd (s : State) (q : Sqe) : State :=
  s.adminCmd q false fun t =>
    let ns := (t.attachedTo q.id.fn).filter fun n => !(t.ns n).detaching
    if wordField q.cdw10 0 3 ≠ 4 then t.finish q.id invalidField
    else if ns.any t.readOnlyNs then t.finish q.id (nvmeStatus 0 0x20)
    else if (t.fn q.id.fn).sanitize = 2 then t.finish q.id (nvmeStatus 0 0x1D)
    else
      let u := (t.markErase ns fun x => x).updFn q.id.fn fun x => { x with sanitize := 2 }
      (u.sanitizeSettle q.id.fn).finish q.id 0

/-! ## Namespace Management and Attachment (R393 to R395, R503, R505) -/

/-- The lowest NSID that is free here. -/
def State.freeNsid (s : State) : Option Nat :=
  ((List.range 16384).map (· + 1)).find? fun n => !(s.ns n).present && (s.ns n).creating.isNone

/-- Namespace Management create (R393, R503): a paired namespace waits for the partner. -/
def State.nsCreate (s : State) (q : Sqe) (d : NsCreate) : State :=
  s.adminCmd q true fun t =>
    let t := t.adminData q false 4096 []
    let n : Ns := { present := true, nsze := d.nsze, ncap := d.ncap, lba512 := d.flbas == 1, iu4k := d.iu4k, paired := d.paired,
                    placeKey := t.draw, plainKey := if d.paired then t.freeVal.toNat else 0 }
    if 1 < d.flbas ∨ d.nsze ≠ d.ncap ∨ d.nsze = 0 then t.finish q.id invalidField
    else if d.paired ∧ t.pairState ≠ 5 then t.finish q.id (nvmeStatus 0 0x0C)
    else
      match t.freeNsid with
      | none => t.finish q.id (nvmeStatus 1 0x16)
      | some k =>
        if ¬ t.mapFits k n.iuCount then t.finish q.id (nvmeStatus 1 0x15)
        else
          let u : State := { t.drawn with keys := t.keys.set k {} }
          if d.paired then (u.updNs k fun _ => { n with present := false, creating := some q.id }).sendNsSync k 1 n.nsze
          else (u.updNs k fun _ => n).finish q.id 0 (BitVec.ofNat 32 k)

/-- A function's commands to a namespace have all completed, and on a paired namespace its VC0 messages have their MACKs
(R395, R505). -/
def State.nsDrained (s : State) (nsid : Nat) : Bool :=
  let n := s.ns nsid
  !(s.cmds.any fun x => !x.admin && x.nsid == nsid && n.attached == some x.id.fn) &&
    (!n.paired || !(s.mlk.sent.any (·.nsid == nsid)))

/-- The detach completes (R395). -/
def State.detachDone (s : State) (nsid : Nat) : State :=
  let n := s.ns nsid
  if n.detaching ∧ s.nsDrained nsid then
    let t := s.updNs nsid fun x => { x with attached := none, detaching := false, detachFor := none }
    let t := match n.attached with | some f => (t.nsNotice f nsid).sanitizeSettle f | none => t
    let t := if n.paired then t.sendNsSync nsid 4 n.nsze else t
    match n.detachFor with | some c => t.finish c 0 | none => t
  else s

/-- Namespace Management delete (R395, R454): the namespace is detached, then erased, then removed. -/
def State.nsDelete (s : State) (q : Sqe) : State :=
  s.adminCmd q true fun t =>
    let ns := if q.nsid = allNs then (t.nss.entries.filter (·.2.present)).map (·.1)
      else if (t.ns q.nsid).present then [q.nsid] else []
    if ns.isEmpty ∧ q.nsid ≠ allNs then t.finish q.id (nvmeStatus 0 0x0B)
    else if ns.any fun n => (t.ns n).erasing then t.finish q.id (nvmeStatus 0 0x84)
    else
      let u := t.markErase ns fun x => { x with deleting := true, eraseFor := some q.id, detaching := x.attached.isSome }
      (ns.foldl (fun u n => u.detachDone n) u).eraseSettle q.id

/-- The controller a one-entry list names: function number, or none (R378, R394). -/
def listedFn (l : List Nat) : Option Nat :=
  match l with
  | [c] => if 1 ≤ c ∧ c ≤ 4097 then some (c - 1) else none
  | _ => none

/-- Namespace Attachment attach (R394, R505, R513). -/
def State.nsAttach (s : State) (q : Sqe) (l : List Nat) : State :=
  s.adminCmd q true fun t =>
    let t := t.adminData q false 4096 []
    let n := t.ns q.nsid
    match listedFn l with
    | none => t.finish q.id (nvmeStatus 1 0x1C)
    | some f =>
      if ¬ n.present ∨ n.deleting then t.finish q.id (nvmeStatus 0 0x0B)
      else if n.attached.isSome ∨ (n.paired ∧ n.peerAttached ∧ ¬ t.mlk.peerHostLost) then t.finish q.id (nvmeStatus 1 0x18)
      else if 1024 ≤ (t.attachedTo f).length then t.finish q.id (nvmeStatus 1 0x27)
      else
        let u := (t.updNs q.nsid fun x => { x with attached := some f, peerAttached := false }).nsNotice f q.nsid
        (if n.paired then u.sendNsSync q.nsid 3 n.nsze else u).finish q.id 0

/-- Namespace Attachment detach (R395, R505). -/
def State.nsDetach (s : State) (q : Sqe) (l : List Nat) : State :=
  s.adminCmd q true fun t =>
    let t := t.adminData q false 4096 []
    let n := t.ns q.nsid
    match listedFn l with
    | none => t.finish q.id (nvmeStatus 1 0x1C)
    | some f =>
      if ¬ n.present then t.finish q.id (nvmeStatus 0 0x0B)
      else if n.attached ≠ some f ∨ n.detaching then t.finish q.id (nvmeStatus 1 0x1A)
      else (t.updNs q.nsid fun x => { x with detaching := true, detachFor := some q.id }).detachDone q.nsid

/-! ## Meanings -/

def execFormatNvm (q : Sqe) (s : State) : Result := .next (s.whenLive (·.formatCmd (q.as 0x80)))
def execSanitize (q : Sqe) (s : State) : Result := .next (s.whenLive (·.sanitizeCmd (q.as 0x84)))
def execCryptoEraseProceed (nsid : Nat) (s : State) : Result := .next (s.whenLive (·.eraseProceed nsid))
def execNamespaceCreate (q : Sqe) (d : NsCreate) (s : State) : Result := .next (s.whenLive (·.nsCreate (q.as 0x0D) d))
def execNamespaceDelete (q : Sqe) (s : State) : Result := .next (s.whenLive (·.nsDelete (q.as 0x0D)))
def execNamespaceAttach (q : Sqe) (cntlids : List Nat) (s : State) : Result :=
  .next (s.whenLive (·.nsAttach (q.as 0x15) cntlids))
def execNamespaceDetach (q : Sqe) (cntlids : List Nat) (s : State) : Result :=
  .next (s.whenLive (·.nsDetach (q.as 0x15) cntlids))
def execNamespaceDetachDrained (nsid : Nat) (s : State) : Result := .next (s.whenLive (·.detachDone nsid))

end Sys2Proof.Machine
end

