-- ==== Sys2Proof/Machine/Firmware.lean ====
section
/-! DEFINITION. Firmware slots (R426 to R431, R595): the checks of a slot image, and the two firmware commands. -/
namespace Sys2Proof

/-- The header's fields lie within Table 11-1, for an image of the given magic. -/
def SlotImage.headerOk (x : SlotImage) (magic : Nat) : Bool :=
  x.magic == magic && x.format == 1 && x.headerSize == 256 && decide (x.bodySize ≤ 0x600000) && x.bodySize == x.body.length

/-- The image in a byte string, as Table 11-1 lays out its header; the signature covers the first 0xC0 bytes. -/
def readSlotImage (b : List Byte) : SlotImage :=
  { magic := Machine.rd b 0 4, format := Machine.rd b 4 2, headerSize := Machine.rd b 6 2, fwVersion := Machine.rd b 8 4,
    svn := Machine.rd b 0x0C 1, keyIndex := Machine.rd b 0x0D 1, bodySize := Machine.rd b 0x10 4,
    bodyDigest := Machine.sub b 0x20 32, publicKey := Machine.sub b 0x40 64, signature := Machine.sub b 0xC0 64,
    signed := b.take 0xC0, body := Machine.sub b 256 (Machine.rd b 0x10 4) }

/-- The signature and the body digest match. -/
def SlotImage.signed_ (x : SlotImage) : Bool :=
  Config.ecdsaVerify x.publicKey x.signed x.signature && Machine.sha256 x.body == x.bodyDigest

end Sys2Proof

namespace Sys2Proof.Machine

/-- The length of a firmware slot, of a NOR of at least 16 MiB (R426). -/
def State.slotLength (s : State) : Nat := if 0x1000000 ≤ s.pwr.norBytes then (s.pwr.norBytes - 0x400000) / 2 else 0

/-- The ROM accepts a slot image (R428). -/
def State.slotOk (s : State) (x : SlotImage) : Bool :=
  x.headerOk 0x4D495746 && decide (x.bodySize + 256 ≤ s.slotLength) && decide (x.svn ≤ 64) && decide (x.keyIndex ≤ 3) &&
    Config.fuseDigest x.keyIndex == sha256 x.publicKey && Config.fuseIntact x.keyIndex && x.signed_ &&
    decide (s.sec.rollback ≤ x.svn)

/-- The extension image is accepted (R595). -/
def State.extensionOk (s : State) (x : SlotImage) : Bool :=
  let oem := (s.pwr.desc.map (·.oemKeyDigest)).getD []
  x.magic == 0x4D495845 && x.format == 1 && x.headerSize == 256 && x.bodySize == x.body.length && x.svn == 0 &&
    x.keyIndex == 0 && oem.any (· != 0) && oem == sha256 x.publicKey && x.signed_

/-- Firmware Image Download (R430): CDW10 dwords, 0's based, at the dword offset of CDW11. -/
def State.fwDownload (s : State) (q : Sqe) (bytes : List Byte) : State :=
  s.adminCmd q true fun t =>
    let at_ := q.cdw11.toNat * 4
    let part := fitBytes ((q.cdw10.toNat + 1) * 4) bytes
    let old := t.sec.download
    let t := t.adminData q false ((q.cdw10.toNat + 1) * 4) []
    let before := (old ++ List.replicate (at_ - old.length) none).take at_
    State.finish { t with sec := { t.sec with download := before ++ part.map some ++ old.drop (at_ + part.length) } } q.id 0

/-- The downloaded image (R430). The spec does not say what a byte holds that no download wrote: `gaps` gives it, at its offset. -/
def State.downloaded (s : State) (gaps : List Byte) : List Byte :=
  s.sec.download.zipIdx.map fun (b, i) => b.getD (gaps.getD i 0)

/-- Firmware Commit (R430): CDW10 [2:0] the slot, 0 for the one that does not run; [5:3] the action. The image is the one
that was downloaded. -/
def State.fwCommit (s : State) (q : Sqe) (gaps : List Byte) : State :=
  s.adminCmd q true fun t =>
    let act := wordField q.cdw10 3 3
    let runs := if t.bit Reg.secStatus 1 then 2 else 1
    let slot := if wordField q.cdw10 0 3 = 0 then 3 - runs else wordField q.cdw10 0 3
    if 2 < act then t.finish q.id invalidField
    else if slot = runs ∨ 2 < slot then t.finish q.id (nvmeStatus 1 0x06)
    else
      let x := if act = 2 then (if slot = 1 then t.sec.slotA else t.sec.slotB) else some (readSlotImage (t.downloaded gaps))
      if ¬ x.any t.slotOk then t.finish q.id (nvmeStatus 1 0x07)
      else
        let u : State := if act = 2 then t
          else if slot = 1 then { t with sec := { t.sec with slotA := x, download := [] } }
          else { t with sec := { t.sec with slotB := x, download := [] } }
        if act = 0 then u.finish q.id 0
        else State.finish { u with sec := { u.sec with preferB := slot == 2 } } q.id (nvmeStatus 1 0x0B)

def execFirmwareImageDownload (q : Sqe) (bytes : List Byte) (s : State) : Result :=
  .next (s.whenLive (·.fwDownload (q.as 0x11) bytes))
def execFirmwareCommit (q : Sqe) (gaps : List Byte) (s : State) : Result := .next (s.whenLive (·.fwCommit (q.as 0x10) gaps))

end Sys2Proof.Machine
end

