-- ==== Sys2Proof/Machine/Admin.lean ====
section
/-! DEFINITION. The admin commands that report and configure (R386 to R392, R397, R398): log pages, Identify, features,
Abort, Asynchronous Event Request, Contract Query and Meter Read. A page whose rule gives a byte layout is returned as its
bytes; a page that NVMe alone lays out is returned as the values of its fields (DESIGN CHOICE). -/
namespace Sys2Proof.Machine

/-! ## Device values (R324, R391) -/

/-- The composite temperature in kelvin. -/
def State.compositeK (s : State) : Nat := (s.prx.tj256 / 256 + 273).toNat

/-- The spare fraction of a die in per cent (R308). -/
def State.sparePct (s : State) (lane : Nat) : Nat := s.spareOf lane * 100 / max 1 (s.die lane).spare0

/-- Percentage Used of a die: of its mean erase count against EOL_PE. -/
def State.diePct (s : State) (lane : Nat) : Nat := min 255 (100 * s.peAvg lane / max 1 (s.eolPe lane).1)

/-- Percentage Used: the largest over populated dies that are not lost (R324). -/
def State.pctUsed (s : State) : Nat :=
  (((s.popLanes.filter fun l => !(s.die l).lost).map s.diePct).foldl max 0)

/-- Available Spare: the lowest of any populated die. -/
def State.availSpare (s : State) : Nat := (s.popLanes.map s.sparePct).foldl min 100

/-- A die is read-only or lost. -/
def State.dieBad (s : State) : Bool := s.popLanes.any fun l => (s.die l).readOnly || (s.die l).lost

/-- Critical Warning of the device: bit 0 with SPARE_LOW, bit 2 for a read-only or lost die (R324). -/
def State.critical (s : State) : Nat :=
  flag (s.bit Reg.mcrStatus 5) 0 + flag s.dieBad 2

/-- SMART / Health (R324, R391): critical warning, composite temperature, available spare and its threshold, percentage
used, data units read and written (each 1,000 blocks of 512 bytes, rounded up), read and write commands, busy time (a
free value), power cycles, power-on hours, unsafe shutdowns, media errors, error log entries. -/
def State.smart (s : State) (f : Nat) : List Nat :=
  let fs := if f = 0 then (s.fns.entries.map (·.2)) else [s.fn f]
  let units (u : Nat) : Nat := (u + 999) / 1000
  [if f = 0 then s.critical else 0, s.compositeK, s.availSpare, s.field Reg.mcrSpareLow 0 8, s.pctUsed,
   units (fs.map (·.unitsRead)).sum, units (fs.map (·.unitsWrite)).sum, (fs.map (·.nRead)).sum, (fs.map (·.nWrite)).sum,
   s.freeVal.toNat, s.pwr.cycles, s.now / 1800000000000, s.pwr.unsafeStops, (fs.map (·.mediaErrs)).sum,
   (fs.map (·.errCount)).sum]

/-! ## Pages with a byte layout -/

/-- A trim other than 1.0 is in force for a VF. -/
def State.trimmed (s : State) (f : Nat) : Bool := s.trimOf f 0 != 0x10000 || s.trimOf f 1 != 0x10000

/-- WRITE_SCALE: write trim × GC factor (Table 4-9). -/
def State.writeScale (s : State) (f : Nat) : Nat := s.trimOf f 1 * s.gcFactor / 65536

/-- A function's tenant-table entry in the active image. -/
def State.entryOfFn (s : State) (f : Nat) : Option TenantEntry := s.prx.active.bind (·.tenant? f)

/-- Numbers of a fixed size and count, as bytes. -/
def packed (size count : Nat) (l : List Nat) : List Byte := (List.range count).flatMap fun i => leBytes (l.getD i 0) size

/-- Log page C3h of a function (Table 4-9). DESIGN CHOICE: FLAGS[2] stands while ENVELOPE_DRIFT (PRX_STATUS[7]) or GC stage 2
(MCR_STATUS[1]) does, since R170 does not say when the request for a recompile ends (notes/assumptions/109.md). -/
def State.pageC3 (s : State) (f : Nat) : List Byte :=
  let t := s.tenants.get f
  let e := s.entryOfFn f
  let flags := flag (s.bit Reg.prxStatus 7) 0 + flag (decide (s.gcFactor < 65536)) 1 +
    flag (s.bit Reg.prxStatus 7 || s.bit Reg.mcrStatus 1) 2 + flag e.isSome 3 + flag (s.trimmed f) 4
  let img := if s.inRun then (s.prx.active.map (·.id.toNat)).getD 0 else 0
  let head := leBytes f 2 ++ leBytes ((e.map (·.cls)).getD 4) 1 ++ leBytes ((e.map (·.group)).getD 0xFF) 1 ++
    leBytes s.variant 1 ++ leBytes flags 1 ++ leBytes 0 2 ++ leBytes img 4 ++ leBytes 0 4 ++
    packed 4 4 ((e.map (·.readBound)).getD []) ++ packed 2 4 ((e.map (·.wackBound)).getD []) ++
    leBytes (s.trimOf f 0) 4 ++ leBytes (s.writeScale f) 4
  let body := packed 8 6 [t.readsBounded, t.readsBest, t.writesBounded, t.writesBest, t.rescued, t.exceptions] ++
    packed 4 16 t.byCause ++ packed 4 16 t.hist ++ leBytes t.maxRead 4 ++ leBytes t.maxWack 4
  let copies := if f = 0 then leBytes (s.num Reg.prxOverrunCnt) 4 ++ leBytes (s.num Reg.prxExcursionCnt) 4 else []
  fitBytes 512 (head ++ body ++ copies)

/-- The record of one die in log page C1h (Table 8-6); the die EOL has its own deltas. -/
def State.dieRecord (s : State) (lane : Nat) : List Byte :=
  if ¬ s.populatedLane lane then List.replicate 32 0
  else
    let d := s.die lane
    let last := d.days.head?
    let st := if d.lost then 4 else if d.readOnly then 3 else if s.sparePct lane < s.field Reg.mcrSpareLow 0 8 then 2 else 1
    let e := s.dieEol lane
    leBytes (s.peAvg lane) 2 ++ leBytes (s.peMax lane) 2 ++ leBytes (s.eolPe lane).1 2 ++ leBytes (s.spareOf lane) 2 ++
      leBytes (s.sparePct lane) 1 ++ leBytes (s.diePct lane) 1 ++ leBytes st 1 ++ leBytes (s.calDrift lane) 1 ++
      leBytes ((last.map (·.meanCorr)).getD 0) 2 ++ leBytes (min 65535 ((last.map (·.rescuePpm)).getD 0)) 2 ++
      leBytes e.1 8 ++ leBytes (e.1 - e.2.1) 4 ++ leBytes (e.2.2 - e.1) 4

/-- Log page C1h (Table 8-6), from the last forecast. -/
def State.pageC1 (s : State) : List Byte :=
  let e := s.mcr.eolDevice
  let retired := (s.popLanes.map fun l => ((s.die l).blocks.filter (·.state == .retired)).length).sum
  let flags := flag (!s.todValid) 0 + flag s.dieBad 1 + flag (s.bit Reg.mcrStatus 5) 2 + flag (s.bit Reg.mcrStatus 6) 3
  fitBytes 256 (leBytes 1 2 ++ leBytes s.popLanes.length 2 ++ leBytes flags 1 ++ leBytes s.pctUsed 1 ++ leBytes 0 2 ++
    packed 8 4 (e.take 4) ++ leBytes (e.getD 4 0xFFFF) 2 ++ leBytes (e.getD 5 0) 1 ++ leBytes 0 1 ++
    leBytes (s.num Reg.mcrHoldupCap) 4 ++ leBytes (e.getD 6 noDate) 8 ++ leBytes (e.getD 7 noDate) 8 ++
    leBytes (e.getD 8 0) 4 ++ leBytes retired 4) ++ (List.range 512).flatMap s.dieRecord

/-- The mnemonic of a block in ASCII, as its BLOCK_ID spells it (Table 15-8). -/
def Block.name : Block → List Byte
  | .hpt => [0x48, 0x50, 0x54, 0] | .fnm => [0x46, 0x4E, 0x4D, 0] | .qen => [0x51, 0x45, 0x4E, 0] | .ftb => [0x46, 0x54, 0x42, 0]
  | .prx => [0x50, 0x52, 0x58, 0] | .mch => [0x4D, 0x43, 0x48, 0] | .rdp => [0x52, 0x44, 0x50, 0] | .wrp => [0x57, 0x52, 0x50, 0]
  | .mcr => [0x4D, 0x43, 0x52, 0] | .tcy => [0x54, 0x43, 0x59, 0] | .mtr => [0x4D, 0x54, 0x52, 0] | .sec => [0x53, 0x45, 0x43, 0]
  | .mlk => [0x4D, 0x4C, 0x4B, 0] | .ddr => [0x44, 0x44, 0x52, 0] | .evc => [0x45, 0x56, 0x43, 0] | .aow => [0x41, 0x4F, 0x57, 0]
  | .sdm => [0x53, 0x44, 0x4D, 0] | .lpb => [0x4C, 0x50, 0x42, 0] | .tln => [0x54, 0x4C, 0x4E, 0] | .pwr => [0x50, 0x57, 0x52, 0]
  | .srm => [0x53, 0x52, 0x4D, 0] | .spp => [0x53, 0x50, 0x50, 0]

/-- An event-log entry as Table 15-8 lays it out. -/
def LogEntry.bytes (e : LogEntry) : List Byte :=
  let st (t : Stamp) : Nat := t.frame % 2 ^ 48 + t.cell * 2 ^ 48
  leBytes e.seq 4 ++ e.block.name ++ leBytes e.code 2 ++ leBytes e.inst 2 ++ leBytes e.fn 2 ++
    leBytes (flag e.coalesced 0 + flag e.noTod 1 + flag e.restored 2) 2 ++ leBytes e.count 4 ++ leBytes 0 4 ++
    leBytes (st e.first) 8 ++ leBytes (st e.last) 8 ++ packed 4 6 (e.detail.map (·.toNat))

/-- Data Area 1 of the Telemetry Host-Initiated page: the event log, oldest entry first (R615). -/
def State.logBytes (s : State) : List Byte := s.pwr.log.reverse.flatMap LogEntry.bytes

/-! ## Get Log Page (R388, Table 10-5) -/

/-- The opcodes served on a function (Table 10-4, R389): admin, then I/O with 256 added. -/
def opcodesOf (f : Nat) : List Nat :=
  [0x00, 0x01, 0x02, 0x04, 0x05, 0x06, 0x08, 0x09, 0x0A, 0x0C, 0x80, 0x84, 0xC2, 0xC6] ++
    (if f = 0 then [0x0D, 0x10, 0x11, 0x15, 0x1C] else []) ++
    [0x100, 0x101, 0x102, 0x105, 0x108, 0x109, 0x10C, 0x119]

/-- A log page of a function, as its values or bytes; none where the function has no such page. -/
def State.logPage (s : State) (f id sel : Nat) : Option (Except Nat (Bool × List Nat)) :=
  let fields (l : List Nat) := some (Except.ok (false, l))
  let bytes (l : List Byte) := some (Except.ok (true, l.map (·.toNat)))
  let errs := (s.errs.filter (·.fn == f)).take 64
  match id with
  | 0x01 => fields ((s.fn f).errCount :: errs.flatMap fun e => [e.qid, e.cid, e.status, e.lba, e.nsid])
  | 0x02 => fields (s.smart f)
  | 0x03 => fields [if s.bit Reg.secStatus 1 then 2 else 1, if s.sec.preferB then 2 else 1,
                    (s.sec.slotA.map (·.fwVersion)).getD 0, (s.sec.slotB.map (·.fwVersion)).getD 0]
  | 0x04 => fields (if 1024 < (s.fn f).changedNs.length then [allNs] else (s.fn f).changedNs)
  | 0x05 => fields (opcodesOf f)
  | 0x07 => if f = 0 then bytes s.logBytes else none
  | 0x09 => if sel = 1 then fields [if f = 0 then s.critical else 0, s.availSpare, s.field Reg.mcrSpareLow 0 8, s.pctUsed]
            else some (Except.error invalidField)
  | 0x81 => fields [(s.fn f).sanitize, if (s.fn f).sanitize = 2 then 0 else 0xFFFF]
  | 0xC1 => if f = 0 then bytes s.pageC1 else none
  | 0xC2 => if (f = 0) = (sel = 0) then some (Except.error invalidField)
            else if f = 0 ∧ 4096 < sel then some (Except.error invalidField)
            else bytes (s.pageC2 (if f = 0 then sel else f))
  | 0xC3 => if (f ≠ 0 ∧ sel ≠ 0) ∨ 4096 < sel then some (Except.error invalidField)
            else bytes (s.pageC3 (if f = 0 then sel else f))
  | _ => none

/-- What reading a page changes: the masked error events, the change list, and the C3h counters where Log Specific
Parameter bit 0 asks for it (R171, R401). -/
def State.logRead (s : State) (f id sel : Nat) (lsp0 : Bool) : State :=
  match id with
  | 0x01 => s.updFn f fun x => { x with masked := [] }
  | 0x02 => s.drawn
  | 0x04 => s.updFn f fun x => { x with changedNs := [] }
  | 0xC3 => if lsp0 then { s with tenants := s.tenants.modify (if f = 0 then sel else f) Tenant.cleared } else s
  | _ => s

/-- Get Log Page: CDW10 [7:0] the page, bit 8 the Log Specific Parameter's bit 0, [31:16] with CDW11 [15:0] the dwords,
0's based; CDW11 [31:16] the Log Specific Identifier; CDW12 and CDW13 the offset. -/
def State.getLog (s : State) (q : Sqe) : State :=
  s.adminCmd q false fun t =>
    let f := q.id.fn
    let id := wordField q.cdw10 0 8
    let sel := wordField q.cdw11 16 16
    let n := (wordField q.cdw10 16 16 + wordField q.cdw11 0 16 * 2 ^ 16 + 1) * 4
    let off := q.cdw12.toNat + q.cdw13.toNat * 2 ^ 32
    match t.logPage f id sel with
    | none => t.finish q.id (nvmeStatus 1 0x09)
    | some (.error st) => t.finish q.id st
    | some (.ok (isBytes, vals)) =>
      if isBytes ∧ vals.length < off then t.finish q.id invalidField
      else
        let out := if isBytes then (vals.drop off).take n else vals
        ((t.adminData q true n [.page f id out]).logRead f id sel (q.cdw10.getLsbD 8)).finish q.id 0

/-! ## Identify (R386, R387, Table 10-1) -/

/-- Identify Controller (Table 10-3): VS, CMIC, MDTS, CNTLID, OACS, ACL, AERL, FRMW, LPA, ELPE, NPSS, SQES, CQES, NN, ONCS,
FUSES, FNA, VWC, AWUN, AWUPF, SGLS, SANICAP, KAS, HMPRE, serial number. -/
def idController (f : Nat) : List Nat :=
  [0x20000, if f = 0 then 0x02 else 0x06, 9, f + 1, if f = 0 then 0x8E else 0x02, 3, 7, 0x04, if f = 0 then 0x0E else 0x06, 63, 0,
   0x66, 0x44, 16384, 0x01CD, 0, 0x04, 0x06, 511, 511, 0x00010001, 1, 0, 0, Config.serial.toNat]

/-- Identify Namespace (R387): NSZE, NCAP, NUSE, NSFEAT, NLBAF, FLBAS, DLFEAT, NAWUN, NAWUPF, NPWG, NPWA, NPDG, NPDA, NOWS,
and the LBA formats' LBADS and RP. -/
def State.idNamespace (s : State) (nsid : Nat) : List Nat :=
  let n := s.ns nsid
  let iu := n.lbasPerUnit * n.parts - 1
  let aw := 2 ^ 21 / n.lbaBytes - 1
  [n.nsze, n.ncap, min n.nsze ((s.mappedIus nsid).length * n.lbasPerUnit * n.parts), 0x12, 1, n.lba512.toNat, 0x09, aw, aw,
   iu, iu, iu, iu, iu, 12, 0, 9, 2]

/-- Primary Controller Capabilities (Table 10-1). -/
def State.idPrimary (s : State) : List Nat :=
  [1, 0, 3, 36864, 36864 - s.num Reg.qenPoolVqFree, 0, 65, 65, 1, 69567, 69567 - s.num Reg.qenPoolViFree, 0, 65, 65, 1]

/-- Secondary Controller List: for each VF its identifier, PF0's, its state, function number, VQ and VI. -/
def State.idSecondary (s : State) (first : Nat) : List Nat :=
  ((List.range 4096).filter fun k => first ≤ k + 2).flatMap fun k =>
    let x := s.fn (k + 1)
    [k + 2, 1, x.online.toNat, k + 1, x.vq, x.vi]

/-- Identify: CDW10 [7:0] CNS, [31:16] CNTID. -/
def State.identifyCmd (s : State) (q : Sqe) : State :=
  s.adminCmd q false fun t =>
    let f := q.id.fn
    let cns := wordField q.cdw10 0 8
    let cnt := wordField q.cdw10 16 16
    let att := t.attachedTo f
    let all := (t.nss.entries.filter (·.2.present)).map (·.1)
    let give (l : List Nat) : State := (t.adminData q true 4096 [.page f (0x1000 + cns) l]).finish q.id 0
    let bad (st : Nat) : State := t.finish q.id st
    match cns with
    | 0x00 => if q.nsid = allNs then give (State.idNamespace { t with nss := {} } 0)
              else if q.nsid = 0 ∨ 16384 < q.nsid then bad (nvmeStatus 0 0x0B)
              else give (if att.contains q.nsid then t.idNamespace q.nsid else [])
    | 0x01 => give (idController f)
    | 0x02 => give ((att.filter (q.nsid < ·)).take 1024)
    | 0x03 => if att.contains q.nsid then give [0x04, 0] else bad (nvmeStatus 0 0x0B)
    | 0x10 => if f = 0 then give ((all.filter (q.nsid < ·)).take 1024) else bad invalidField
    | 0x11 => if f = 0 then (if q.nsid = 0 ∨ 16384 < q.nsid then bad (nvmeStatus 0 0x0B)
                             else give (if all.contains q.nsid then t.idNamespace q.nsid else [])) else bad invalidField
    | 0x12 => if f = 0 then give (((t.ns q.nsid).attached.toList.map (· + 1)).filter (cnt ≤ ·)) else bad invalidField
    | 0x13 => if f = 0 then give ((1 :: (List.range 4096).map (· + 2)).filter (cnt ≤ ·)) else bad invalidField
    | 0x14 => if f = 0 then give t.idPrimary else bad invalidField
    | 0x15 => if f = 0 then give (t.idSecondary cnt) else bad invalidField
    | _ => bad invalidField

/-! ## Abort and Asynchronous Event Request (R390, R392) -/

/-- Abort: CDW10 [15:0] the queue, [31:16] the command. A held command of an erase has no admitted stage either. -/
def State.abortCmd (s : State) (q : Sqe) : State :=
  s.adminCmd q false fun t =>
    let c : CmdId := { fn := q.id.fn, qid := wordField q.cdw10 0 16, cid := wordField q.cdw10 16 16 }
    match t.cmd? c with
    | some x =>
      if c ≠ q.id ∧ x.status.isNone ∧ ¬ x.begun then
        ((t.failCmd c 0x07).inc Reg.qenAbortCnt).finish q.id 0 0
      else t.finish q.id 0 1
    | none => t.finish q.id 0 1

/-- An Asynchronous Event Request waits for an event of its function; AERL allows eight (Table 10-3). -/
def State.aerCmd (s : State) (q : Sqe) : State :=
  s.adminCmd q false fun t =>
    let f := q.id.fn
    let out := t.cmds.filter fun x => x.admin && x.op == opAer && x.id.fn == f && x.status.isNone && x.id != q.id
    if 8 ≤ out.length then t.finish q.id (nvmeStatus 1 0x05)
    else
      match t.aens.find? (·.1 == f) with
      | some e =>
        State.finish { t with aens := eraseFirst (· == e) t.aens } q.id 0
          (BitVec.ofNat 32 (e.2.1 + e.2.2.1 * 256 + e.2.2.2 * 65536))
      | none => t

/-! ## Features (Table 10-6, R392, R406) -/

/-- The features of Table 10-6. -/
def featureIds : List Nat := [0x01, 0x02, 0x04, 0x05, 0x07, 0x08, 0x09, 0x0A, 0x0B, 0x0E]

/-- Whether Set Features refuses a value: power states but 0, TLER or DULBE, a queue count of 65,536, a vector the function
does not have. -/
def State.featureBad (s : State) (f id : Nat) (v : Word) : Bool :=
  match id with
  | 0x02 => wordField v 0 5 != 0
  | 0x05 => wordField v 0 17 != 0
  | 0x07 => wordField v 0 16 == 0xFFFF || wordField v 16 16 == 0xFFFF
  | 0x09 => decide (s.viOf f ≤ wordField v 0 16)
  | _ => false

/-- Number of Queues as Get Features and Set Features return it: I/O SQs and CQs allocated, 0's based. -/
def State.queueCount (s : State) (f : Nat) : Word :=
  let n := s.ioQueues f - 1
  BitVec.ofNat 32 (n + n * 65536)

/-- Set Features: CDW10 [7:0] the feature, bit 31 SV; CDW11 the value; a Timestamp's eight bytes come in its buffer. -/
def State.setFeature (s : State) (q : Sqe) (data : BitVec 64) : State :=
  s.adminCmd q false fun t =>
    let f := q.id.fn
    let id := wordField q.cdw10 0 8
    let v := q.cdw11
    if ¬ featureIds.contains id then t.finish q.id invalidField
    else if q.cdw10.getLsbD 31 then t.finish q.id (nvmeStatus 1 0x0D)
    else if t.featureBad f id v then t.finish q.id invalidField
    else if id = 0x07 then
      if (t.fn f).sqs.any (·.1 != 0) ∨ (t.fn f).cqs.any (·.1 != 0) then t.finish q.id (nvmeStatus 0 0x0C)
      else
        let n := min (max (wordField v 0 16) (wordField v 16 16) + 1) (t.vqOf f - 1)
        let u := t.updFn f fun x => { x with nqueues := some n }
        u.finish q.id 0 (u.queueCount f)
    else if id = 0x08 then
      let us := min 255 (100 * wordField v 8 8)
      (t.updFn f fun x => { x with coal := some (wordField v 8 8, wordField v 0 8),
                                   holdoff := BitVec.ofNat 32 (us + wordField v 0 8 * 256) }).finish q.id 0
    else if id = 0x09 then
      (t.updFn f fun x => { x with feats := x.feats.set (0x900 + wordField v 0 16) (wordField v 16 1) }).finish q.id 0
    else if id = 0x0E then
      ((t.adminData q false 8 []).updFn f fun x =>
        { x with feats := (x.feats.set 0x0E (data.toNat % 2 ^ 48)).set 0x10E (t.now + 1) }).finish q.id 0
    else (t.updFn f fun x => { x with feats := x.feats.set id v.toNat }).finish q.id 0

/-- The Timestamp as read: the value set, or 0 at reset, with the milliseconds since. -/
def State.timestamp (s : State) (f : Nat) : Nat :=
  ((s.fn f).feats.get 0x0E + (s.now - ((s.fn f).feats.get 0x10E - 1)) / 500000) % 2 ^ 48

/-- Interrupt Coalescing as read (R406): the last TIME and THR written, or after a HIU_HOLDOFF write the time rounded up. -/
def Fn.coalescingValue (x : Fn) : Nat :=
  match x.coal with
  | some (time, thr) => thr + time * 256
  | none => x.threshold + (x.holdoffUs + 99) / 100 * 256

/-- Get Features returns the current value; a Timestamp comes in the buffer. -/
def State.getFeature (s : State) (q : Sqe) : State :=
  s.adminCmd q false fun t =>
    let f := q.id.fn
    let id := wordField q.cdw10 0 8
    if ¬ featureIds.contains id then t.finish q.id invalidField
    else if id = 0x07 then t.finish q.id 0 (t.queueCount f)
    else if id = 0x08 then t.finish q.id 0 (BitVec.ofNat 32 (t.fn f).coalescingValue)
    else if id = 0x09 then
      let iv := wordField q.cdw11 0 16
      if t.viOf f ≤ iv then t.finish q.id invalidField
      else t.finish q.id 0 (BitVec.ofNat 32 (iv + (t.fn f).feats.get (0x900 + iv) * 65536))
    else if id = 0x0E then (t.adminData q true 8 [.page f 0x200E [t.timestamp f]]).finish q.id 0
    else t.finish q.id 0 (BitVec.ofNat 32 ((t.fn f).feats.get id))

/-! ## Vendor commands (R397, R398) -/

/-- A tenant-table entry as the image holds it (Table 3-8). -/
def TenantEntry.bytes (e : TenantEntry) : List Byte :=
  fitBytes 64 (leBytes e.vf 2 ++ leBytes e.group 1 ++ leBytes e.cls 1 ++ leBytes e.spread 1 ++ leBytes 0 3 ++
    packed 4 4 [e.readRate, e.readBurst, e.writeRate, e.writeBurst] ++ leBytes e.dmaShare 2 ++ leBytes 0 2 ++
    leBytes e.quota 4 ++ packed 4 4 e.readBound ++ packed 2 4 e.wackBound)

/-- Contract Query data (Table 10-7). -/
def State.contractData (s : State) (f : Nat) : List Byte :=
  let i := if s.inRun then s.prx.active else none
  let e := i.bind (·.tenant? f)
  fitBytes 512 (leBytes ((i.map (·.id.toNat)).getD 0) 4 ++ leBytes s.variant 1 ++
    leBytes (flag e.isSome 0 + flag (s.trimmed f) 1 + flag (decide (s.gcFactor < 65536)) 2) 1 ++ leBytes f 2 ++ leBytes 0 8 ++
    fitBytes 32 ((i.map (·.contractDigest)).getD []) ++ fitBytes 32 ((i.map (·.imageDigest)).getD []) ++
    fitBytes 64 ((e.map TenantEntry.bytes).getD []) ++ leBytes (s.trimOf f 0) 4 ++ leBytes (s.writeScale f) 4)

/-- Contract Query: CDW10 [12:0] the function. -/
def State.contractQuery (s : State) (q : Sqe) : State :=
  s.adminCmd q false fun t =>
    let f := q.id.fn
    let sel := wordField q.cdw10 0 13
    if (f ≠ 0 ∧ sel ≠ 0) ∨ 4096 < sel then t.finish q.id invalidField
    else (t.adminData q true 512 [.bytes 1000 (t.contractData (if f = 0 then sel else f))]).finish q.id 0

/-- Meter Read. -/
def State.meterRead (s : State) (q : Sqe) : State :=
  s.adminCmd q false fun t =>
    let f := q.id.fn
    let count := wordField q.cdw12 0 6
    let sel := wordField q.cdw13 0 13
    if count = 0 ∨ 32 < count ∨ ((f = 0) = (sel = 0)) ∨ 4096 < sel then t.finish q.id invalidField
    else
      let rs := t.meterRecords (if f = 0 then sel else f) (q.cdw10.toNat + wordField q.cdw11 0 16 * 2 ^ 32) count
      (t.adminData q true (rs.length * 128) [.bytes 1000 rs.flatten]).finish q.id 0 (BitVec.ofNat 32 rs.length)

/-! ## Meanings -/

def execGetLogPage (q : Sqe) (s : State) : Result := .next (s.whenLive (·.getLog (q.as 0x02)))
def execIdentify (q : Sqe) (s : State) : Result := .next (s.whenLive (·.identifyCmd (q.as 0x06)))
def execAbort (q : Sqe) (s : State) : Result := .next (s.whenLive (·.abortCmd (q.as 0x08)))
def execSetFeatures (q : Sqe) (data : BitVec 64) (s : State) : Result := .next (s.whenLive (·.setFeature (q.as 0x09) data))
def execGetFeatures (q : Sqe) (s : State) : Result := .next (s.whenLive (·.getFeature (q.as 0x0A)))
def execAsynchronousEventRequest (q : Sqe) (s : State) : Result := .next (s.whenLive (·.aerCmd (q.as 0x0C)))
def execContractQuery (q : Sqe) (s : State) : Result := .next (s.whenLive (·.contractQuery (q.as 0xC2)))
def execMeterRead (q : Sqe) (s : State) : Result := .next (s.whenLive (·.meterRead (q.as 0xC6)))
/-- INVALID_COMMAND_OPCODE: an admin or I/O command with an opcode not listed (R388, R389). -/
def execInvalidCommandOpcode (q : Sqe) (s : State) : Result :=
  .next (s.whenLive fun t =>
    if (opcodesOf q.id.fn).contains (q.opcode + if q.id.qid = 0 then 0 else 256) then t
    else t.fetchCmd { q with psdt := 0, fuse := 0 } (q.id.qid == 0) fun _ u => u.finish q.id 0x01)

end Sys2Proof.Machine
end

