-- ==== Sys2Proof/Machine/Sessions.lean ====
section
/-! DEFINITION. The open sessions of the Security block (R441): opening, ending, and what their registers show. -/
namespace Sys2Proof.Machine

/-- SESSIONS of SEC_STATUS. -/
def State.showSessions (s : State) : State := s.setField Reg.secStatus 4 3 s.sec.sessions.length

/-- Ends the open sessions that satisfy `p`: SESSION_END is set where there is one (DEDUCED: the event stands for every
way a session ends). -/
def State.dropSessions (s : State) (p : Sess → Bool) : State :=
  let t : State := { s with sec := { s.sec with sessions := s.sec.sessions.filter fun x => !p x } }
  if s.sec.sessions.any p then t.showSessions.raise Reg.secEvent 1 else t

/-- An open session. -/
def State.sess? (s : State) (id : Nat) : Option Sess := s.sec.sessions.find? (·.id == id)

/-- Opens a session: it is counted and signalled. -/
def State.openSession (s : State) (psk ready : Bool) : State :=
  let x : Sess := { id := s.sec.nextSess, psk := psk, ready := ready, lastAt := s.now }
  let t : State := { s with sec := { s.sec with sessions := s.sec.sessions ++ [x], nextSess := s.sec.nextSess + 1 } }
  (t.showSessions.inc Reg.secSessionCnt).raise Reg.secEvent 0

end Sys2Proof.Machine
end

