-- ==== Sys2Proof/Machine/Functions.lean ====
section
/-! DEFINITION. Functions as resources and as tenants (chapter 10): Virtualization Management (R380 to R384), VF Enable
(R383, R412), Function Level Reset (R414 to R416), quiesce, freeze, save and restore (R417 to R423). -/
namespace Sys2Proof.Machine

/-! ## Flexible resources (R379 to R383) -/

/-- VQ and VI assigned to all VFs. -/
def State.vqUsed (s : State) : Nat := ((s.fns.entries.filter (·.1 != 0)).map (·.2.vq)).sum
def State.viUsed (s : State) : Nat := ((s.fns.entries.filter (·.1 != 0)).map (·.2.vi)).sum
/-- VQ with every one of the 4,096 VFs counted as holding at least one (R380). -/
def State.vqCharged (s : State) : Nat :=
  let vs := s.fns.entries.filter fun e => e.1 != 0 && e.2.vq != 0
  (vs.map (·.2.vq)).sum + (4096 - vs.length)

/-- Shows the pools (Table 10-14). -/
def State.showPools (s : State) : State :=
  (s.setNum Reg.qenPoolVqFree (36864 - s.vqUsed)).setNum Reg.qenPoolViFree (69567 - s.viUsed)

/-- A VF holds `n` VQ, or VI: whether R380 and R381 allow it. -/
def State.vqFits (s : State) (vf n : Nat) : Bool :=
  n == 0 || (decide (2 ≤ n ∧ n ≤ 65) && decide (s.vqCharged - max 1 (s.fn vf).vq + n ≤ 36864))
def State.viFits (s : State) (vf n : Nat) : Bool :=
  n == 0 || (decide (n ≤ 65) && decide (s.viUsed - (s.fn vf).vi + n ≤ 69567))

/-- The VF that a Controller Identifier names (R378). -/
def cntlidVf (c : Nat) : Option Nat := if 2 ≤ c ∧ c ≤ 4097 then some (c - 1) else none

/-- Virtualization Management for a VF: CDW10 [10:8] the resource type, [31:16] the Controller Identifier (R382). -/
def State.virtCmd (s : State) (q : Sqe) (f : Nat → State → State) : State :=
  s.adminCmd q true fun t =>
    match cntlidVf (wordField q.cdw10 16 16) with
    | none => t.finish q.id (nvmeStatus 1 0x1F)
    | some vf => f vf t

/-- A VF may be set Offline (Table 10-2). -/
def State.mayOffline (s : State) (vf : Nat) : Bool :=
  (s.fn vf).life == .quiesced || !(s.fn vf).enabled || !s.vfEnable

/-- Secondary Offline. -/
def State.setOffline (s : State) (q : Sqe) : State :=
  s.virtCmd q fun vf t =>
    if t.mayOffline vf then (t.updFn vf fun x => { x with online := false }).finish q.id 0
    else t.finish q.id (nvmeStatus 1 0x20)

/-- Secondary Assign: CDW11 [15:0] the number of resources. -/
def State.assign (s : State) (q : Sqe) : State :=
  s.virtCmd q fun vf t =>
    let rt := wordField q.cdw10 8 3
    let n := wordField q.cdw11 0 16
    if 1 < rt then t.finish q.id (nvmeStatus 1 0x22)
    else if (t.fn vf).online then t.finish q.id (nvmeStatus 1 0x20)
    else if ¬ (if rt = 0 then t.vqFits vf n else t.viFits vf n) then t.finish q.id (nvmeStatus 1 0x21)
    else
      ((t.updFn vf fun x => if rt = 0 then { x with vq := n } else { x with vi := n }).showPools).finish q.id 0 (BitVec.ofNat 32 n)

/-- Secondary Online. -/
def State.setOnline (s : State) (q : Sqe) : State :=
  s.virtCmd q fun vf t =>
    if 2 ≤ (t.fn vf).vq ∧ 1 ≤ (t.fn vf).vi then (t.updFn vf fun x => { x with online := true }).finish q.id 0
    else t.finish q.id (nvmeStatus 1 0x21)

/-- DEFAULT_VQ and DEFAULT_VI of FNM_DEFAULT_RES: out-of-range values act as 5. -/
def State.defaultVq (s : State) : Nat := let v := s.field Reg.fnmDefaultRes 0 8; if 2 ≤ v ∧ v ≤ 65 then v else 5
def State.defaultVi (s : State) : Nat := let v := s.field Reg.fnmDefaultRes 8 8; if 1 ≤ v ∧ v ≤ 65 then v else 5

/-- A VF that holds neither resource gets the default ones, or cannot be served (R383). -/
def State.giveDefaults (s : State) (vf : Nat) : State :=
  if (s.fn vf).vq ≠ 0 ∨ (s.fn vf).vi ≠ 0 then s
  else if s.vqFits vf s.defaultVq ∧ s.viFits vf s.defaultVi then
    s.updFn vf fun x => { x with vq := s.defaultVq, vi := s.defaultVi, online := x.online || s.bit Reg.fnmCtl 0 }
  else s.raise Reg.qenEvent 4

/-- VF Enable changes from 0 to 1 (R383). -/
def State.vfEnableSet (s : State) : State :=
  if s.vfEnable then s
  else
    let t := s.setBit Reg.fnmStatus 13 true
    (((List.range t.numVfs).foldl (fun t k => t.giveDefaults (k + 1)) t).showPools).raise Reg.fnmEvent 8

/-! ## Function Level Reset (R414 to R416) -/

/-- What an FLR resets of a function beside its work (R415). -/
def Fn.afterFlr (x : Fn) : Fn :=
  { vq := x.vq, vi := x.vi, online := x.online, life := .flr, nRead := x.nRead, nWrite := x.nWrite, unitsRead := x.unitsRead,
    unitsWrite := x.unitsWrite, mediaErrs := x.mediaErrs, sanitize := x.sanitize, changedNs := x.changedNs }

/-- An FLR of a function begins (Table 10-9): its work ends, and everything of it but attachments, resources, Online state,
trims and metering takes its reset value. -/
def State.flr (s : State) (f : Nat) : State :=
  let t := ((s.endWork f).atcFlush f).updFn f fun x => { x.afterFlr with cfs := f == 0 && s.bit Reg.pwrStatus 4 }
  let t : State := { t with errs := t.errs.filter (·.fn != f), tenants := t.tenants.modify f Tenant.cleared }
  let t := if t.mig.any (·.vf == f) then t.migFail 7 else t
  t.showQueues

/-- Initiate Function Level Reset of a VF. -/
def State.vfFlr (s : State) (vf : Nat) : State :=
  if vf ≠ 0 ∧ s.fnExists vf ∧ (s.fn vf).life ≠ .flr then s.flr vf else s

/-- A VF's FLR has completed (R414). -/
def State.vfFlrDone (s : State) (vf : Nat) : State :=
  if vf ≠ 0 ∧ (s.fn vf).life = .flr then
    ((s.updFn vf fun x => { x with life := .active }).inc Reg.fnmFlrCnt).raise Reg.fnmEvent 0
  else s

/-- VF Enable cleared is an FLR of every VF (R412). -/
def State.vfEnableClear (s : State) : State :=
  if s.vfEnable then
    let t := (List.range s.numVfs).foldl (fun t k => t.vfFlr (k + 1)) s
    (t.setBit Reg.fnmStatus 13 false).raise Reg.fnmEvent 8
  else s

/-- A PF0 FLR (R416). -/
def State.pfFlr (s : State) : State :=
  if s.bit Reg.fnmStatus 15 then s
  else
    let t := (((s.vfEnableClear.failInternals.flr 0).endHostLists).doeAbort).dropSessions fun _ => true
    ((t.setField Reg.fnmStatus 0 13 0).setBit Reg.fnmStatus 14 false).setBit Reg.fnmStatus 15 true

/-- A PF0 FLR has completed. -/
def State.pfFlrDone (s : State) : State :=
  if s.bit Reg.fnmStatus 15 then
    (((s.updFn 0 fun x => { x with life := .active }).setBit Reg.fnmStatus 15 false).inc Reg.fnmPfFlrCnt).raise Reg.fnmEvent 1
  else s

/-! ## Quiesce and freeze (R417, R419) -/

/-- The VF that FNM_VF_SEL names. -/
def State.vfSel (s : State) : Nat := s.field Reg.fnmVfSel 0 13

/-- A command of FNM_VF_CTL: the selected VF, where its state allows it; else it is ignored (R424). -/
def State.vfCtl (s : State) (ok : Fn → Bool) (f : Nat → State → State) : State :=
  let vf := s.vfSel
  if 1 ≤ vf ∧ vf ≤ 4096 ∧ s.fnExists vf ∧ (s.fn vf).online ∧ ok (s.fn vf) then f vf s else s.raise Reg.fnmEvent 9

/-- Changes the life of a function. -/
def State.setLife (s : State) (f : Nat) (l : Life) : State := s.updFn f fun x => { x with life := l }

def State.quiesce (s : State) : State := s.vfCtl (·.life == .active) fun vf t => t.setLife vf .quiescing

/-- The VF's outstanding count has reached 0. -/
def State.quiesced (s : State) (vf : Nat) : State :=
  if (s.fn vf).life = .quiescing ∧ s.outstanding vf = 0 then
    ((s.setLife vf .quiesced).inc Reg.fnmQuiesceCnt).raise Reg.fnmEvent 2
  else s

/-- Normal fetch again. -/
def State.resume (s : State) : State :=
  s.vfCtl (fun x => x.life == .quiescing || x.life == .quiesced) fun vf t => (t.setLife vf .active).kickAll vf

def State.freeze (s : State) : State := s.vfCtl (·.life == .quiesced) fun vf t => t.setLife vf .freezing

def State.frozen (s : State) (vf : Nat) : State :=
  if (s.fn vf).life = .freezing then (s.setLife vf .frozen).raise Reg.fnmEvent 3 else s

/-- Normal operation again: messages that waited are sent, and entries are fetched from the doorbells recorded. -/
def State.unfreeze (s : State) : State :=
  s.vfCtl (·.life == .frozen) fun vf t => ((t.setLife vf .active).msixDrain vf).kickAll vf

/-! ## The state blob (R423, Tables 10-10 and 10-11) -/

/-- A queue record. -/
def queueRecord (base size head tail link flags bell pend : Nat) : List Byte :=
  fitBytes 32 (leBytes base 8 ++ packed 2 4 [size, head, tail, link] ++ leBytes flags 1 ++ leBytes 0 1 ++ leBytes bell 2 ++ leBytes pend 4)

/-- The records of SQ and CQ `q`. The tail of an SQ already is the last doorbell recorded. -/
def Fn.queueRecords (x : Fn) (q : Nat) : List Byte :=
  (match lookupKey q x.sqs with
   | some y => queueRecord y.base (y.size - 1) y.head y.tail y.cqid 3 y.tail 0
   | none => List.replicate 32 0) ++
  (match lookupKey q x.cqs with
   | some y => queueRecord y.base (y.size - 1) y.head ((y.head + y.used) % y.size) y.vector
       (3 + flag y.ien 2 + flag y.phase 3) y.head (x.pendCnt.get y.vector)
   | none => List.replicate 32 0)

/-- The features section: 8 bytes each in FID order. Interrupt Coalescing adds HIU_HOLDOFF in its upper half; Interrupt
Vector Configuration is a bit map of Coalescing Disable for vectors 1 to 64 (DESIGN CHOICE). -/
def State.featureBytes (s : State) (f : Nat) : List Byte :=
  let x := s.fn f
  let val (id : Nat) : Nat :=
    if id = 0x07 then (match x.nqueues with | some n => n | none => 0)
    else if id = 0x08 then x.coalescingValue + x.holdoff.toNat * 2 ^ 32
    else if id = 0x09 then ((List.range 64).map fun k => flag (x.feats.get (0x901 + k) == 1) k).sum
    else if id = 0x0E then s.timestamp f
    else x.feats.get id
  fitBytes 128 (featureIds.flatMap fun id => leBytes (val id) 8)

/-- The MSI-X table: address, data and the mask bit of each vector. -/
def Fn.msixBytes (x : Fn) : List Byte :=
  (List.range 65).flatMap fun v =>
    leBytes (x.msixTab.get (4 * v)) 4 ++ leBytes (x.msixTab.get (4 * v + 1)) 4 ++ leBytes (x.msixTab.get (4 * v + 2)) 4 ++
      leBytes (flag (!x.unmasked.get v) 0) 4

/-- The asynchronous-event section (the order is a DESIGN CHOICE): how many requests are outstanding, the masked event
types, how many events are undelivered, a zero, then the requests' command identifiers and the events. -/
def State.asyncBytes (s : State) (f : Nat) : List Byte :=
  let rs := (s.cmds.filter fun x => x.admin && x.op == opAer && x.id.fn == f && x.status.isNone).map (·.id.cid)
  let es := (s.aens.filter (·.1 == f)).take 4
  fitBytes 32 (leBytes rs.length 1 ++ leBytes (flag ((s.fn f).masked.contains 0) 0 + flag ((s.fn f).masked.contains 1) 1) 1 ++
    leBytes es.length 1 ++ leBytes 0 1 ++ packed 2 8 rs ++ es.flatMap fun e => packed 1 3 [e.2.1, e.2.2.1, e.2.2.2])

/-- The Error Information log: 64 entries of 64 bytes with the fields of NVMe's error entry. -/
def State.errBytes (s : State) (f : Nat) : List Byte :=
  let es := (s.errs.filter (·.fn == f)).take 64
  fitBytes 4096 ((List.range es.length).flatMap fun i =>
    match es[i]? with
    | some e => fitBytes 64 (leBytes ((s.fn f).errCount - i) 8 ++ packed 2 3 [e.qid, e.cid, e.status * 2] ++ leBytes 0 2 ++
        leBytes e.lba 8 ++ leBytes e.nsid 4)
    | none => [])

/-- The metering section (R464). -/
def State.meterBytes (s : State) (f : Nat) : List Byte :=
  fitBytes 64 (leBytes Config.serial.toNat 8 ++ leBytes f 2 ++ leBytes 0 6 ++
    leBytes ((s.mtr.archive.head?.map (·.minute)).getD 0) 8 ++ fitBytes 32 (s.mtr.heads.get f))

/-- Highest I/O queue identifier and highest vector + 1 in use by a function's queues. -/
def Fn.topQueue (x : Fn) : Nat := ((x.sqs.map (·.1)) ++ (x.cqs.map (·.1))).foldl max 0
def Fn.topVector (x : Fn) : Nat := (x.cqs.map fun q => q.2.vector + 1).foldl max 0

/-- The blob's header with a digest. -/
def State.blobHeader (s : State) (f : Nat) (digest : List Byte) : List Byte :=
  leBytes 0x54534656 4 ++ leBytes 1 2 ++ leBytes 64 2 ++ leBytes 14336 4 ++ leBytes f 2 ++ leBytes s.pwr.straps.pairId.toNat 2 ++
    leBytes s.frame 8 ++ leBytes (if s.inRun then (s.prx.active.map (·.id.toNat)).getD 0 else 0) 4 ++
    leBytes (s.fn f).topQueue 1 ++ leBytes (s.fn f).topVector 1 ++ leBytes 0 2 ++ fitBytes 32 digest

/-- The blob's sections after the header. The controller section holds CC, CSTS, AQA, a zero, ASQ, ACQ, INTMS and the queues
allocated (DESIGN CHOICE of their places). -/
def State.blobBody (s : State) (f : Nat) : List Byte :=
  let x := s.fn f
  fitBytes 64 (leBytes x.cc.toNat 4 ++ leBytes (flag x.rdy 0 + flag x.cfs 1) 4 ++ leBytes x.aqa.toNat 4 ++ leBytes 0 4 ++
      leBytes x.asq.toNat 8 ++ leBytes x.acq.toNat 8 ++ leBytes x.intms.toNat 4 ++
      leBytes (match x.nqueues with | some n => n | none => 0) 4) ++
    s.featureBytes f ++ x.msixBytes ++ fitBytes 16 (leBytes (((List.range 65).map fun v => flag (x.pba.get v) v).sum) 16) ++
    ((List.range 65).flatMap x.queueRecords) ++ s.asyncBytes f ++ s.errBytes f ++
    packed 4 1024 (s.attachedTo f) ++ s.pageC3 f ++
    fitBytes 64 (packed 8 2 [(s.tenants.get f).readLevel % 2 ^ 48, (s.tenants.get f).writeLevel % 2 ^ 48]) ++ s.meterBytes f

/-- The state blob of a VF, version 0x0001. -/
def State.blobOf (s : State) (f : Nat) : List Byte :=
  let body := s.blobBody f
  s.blobHeader f (sha256 (s.blobHeader f [] ++ body)) ++ body

/-- The size of a version 0x0001 blob. -/
abbrev blobSize : Nat := 14336

/-! ## Save (R420) -/

/-- A save or restore begins. -/
def State.migStart (s : State) (m : Mig) : State :=
  (State.setField { s with mig := some m } Reg.fnmMigStatus 0 2 1).setField Reg.fnmMigStatus 8 8 0

/-- SAVE: the blob goes to PF0's memory, or to the partner on VC4. -/
def State.save (s : State) : State :=
  s.vfCtl (fun x => x.life == .frozen && s.mig.isNone) fun vf t =>
    let partner := t.bit Reg.fnmMigCtl 0
    let u := t.migStart { vf := vf, save := true, target := partner }
    if t.field Reg.fnmMigLen 0 17 < blobSize then u.migFail 6
    else if partner then
      if t.mirroring then u.send (.blob vf (t.blobOf vf)) else u.migFail 8
    else if t.portNormal then
      u.internal { kind := .blob, deliver := true, units := unitsOf blobSize,
                   outs := t.writeTlps 0 (t.num Reg.fnmMigAddrLo) blobSize false false ++ [.bytes 5 (t.blobOf vf)] }
    else u.migFail 8

/-- The transfer of a save has ended. One to host memory has not, while it waits for its capacity (R84). -/
def State.saveEnd (s : State) (ok : Bool) : State :=
  if ok ∧ s.internBusy (fun k _ => k == .blob) then s
  else if ok then
    let t := (State.setField { s with mig := none } Reg.fnmMigStatus 0 2 2).setNum Reg.fnmMigSize blobSize
    (t.inc Reg.fnmSaveCnt).raise Reg.fnmEvent 4
  else s.migFail 8

/-! ## Restore (R421, R422) -/

/-- The SQ or CQ of a queue record; none where it is not VALID. -/
def readSq (r : List Byte) (now : Nat) : Option Sq :=
  if rd r 0x10 1 % 2 = 0 then none
  else
    let size := rd r 0x08 2 + 1
    let head := rd r 0x0A 2
    let bell := rd r 0x12 2
    let n := (bell + size - head) % size
    some { base := rd r 0 8, cqid := rd r 0x0E 2, size := size, head := head, tail := bell,
           bells := if n = 0 then [] else [(n, 0, now)] }
def readCq (r : List Byte) : Option Cq :=
  if rd r 0x10 1 % 2 = 0 then none
  else
    let size := rd r 0x08 2 + 1
    let bell := rd r 0x12 2
    some { base := rd r 0 8, size := size, vector := rd r 0x0E 2, ien := (rd r 0x10 1).testBit 2, head := bell,
           used := (rd r 0x0C 2 + size - bell) % size, phase := (rd r 0x10 1).testBit 3 }

/-- The record of SQ q (2q) or CQ q (2q + 1) in a blob. -/
def blobRecord (b : List Byte) (k : Nat) : List Byte := sub b (0x520 + 32 * k) 32

/-- The features of a blob, in the form the function keeps them. -/
def blobFeats (b : List Byte) (now : Nat) : NatTab :=
  let val (k : Nat) : Nat := rd b (0x80 + 8 * k) 8
  let base : NatTab := (List.range 10).foldl (fun (t : NatTab) k =>
    let id := featureIds.getD k 0
    if id = 0x07 ∨ id = 0x08 ∨ id = 0x09 ∨ id = 0x0E then t else t.set id (val k % 2 ^ 32)) {}
  let base := (List.range 64).foldl (fun (t : NatTab) k => t.set (0x901 + k) ((val 6).testBit k).toNat) base
  (base.set 0x0E (val 9 % 2 ^ 48)).set 0x10E (now + 1)

/-- The function as a blob describes it. -/
def Fn.restored (x : Fn) (b : List Byte) (now : Nat) : Fn :=
  let nq := rd b 0x64 4
  let hold := BitVec.ofNat 32 (rd b 0xAC 4)
  let err (i : Nat) : Nat := rd b (0x1580 + 64 * i) 8
  { x with
    cc := BitVec.ofNat 32 (rd b 0x40 4), rdy := (rd b 0x44 4).testBit 0, cfs := (rd b 0x44 4).testBit 1,
    aqa := BitVec.ofNat 32 (rd b 0x48 4), asq := BitVec.ofNat 64 (rd b 0x50 8), acq := BitVec.ofNat 64 (rd b 0x58 8),
    intms := BitVec.ofNat 32 (rd b 0x60 4), nqueues := if nq = 0 then none else some nq, feats := blobFeats b now,
    holdoff := hold, coal := some (rd b 0xA9 1, rd b 0xA8 1), timerAt := none, cqWaits := [],
    msixTab := (List.range 195).foldl (fun (t : NatTab) k => t.set (k / 3 * 4 + k % 3) (rd b (0x100 + 16 * (k / 3) + 4 * (k % 3)) 4)) {},
    unmasked := (List.range 65).foldl (fun (t : FlagTab) v => t.set v (!(rd b (0x10C + 16 * v) 1).testBit 0)) {},
    pba := (List.range 65).foldl (fun (t : FlagTab) v => t.set v ((rd b 0x510 9).testBit v)) {},
    pendCnt := (List.range 65).foldl (fun (t : NatTab) q =>
      if rd (blobRecord b (2 * q + 1)) 0x10 1 % 2 = 0 then t
      else t.set (rd (blobRecord b (2 * q + 1)) 0x0E 2) (rd (blobRecord b (2 * q + 1)) 0x14 4)) {},
    sqs := (List.range 65).filterMap fun q => (readSq (blobRecord b (2 * q)) now).map (q, ·),
    cqs := (List.range 65).filterMap fun q => (readCq (blobRecord b (2 * q + 1))).map (q, ·),
    masked := [0, 1].filter fun k => (rd b 0x1561 1).testBit k,
    errCount := err 0 }

/-- The bound statistics of a blob's C3h page. -/
def Tenant.restored (x : Tenant) (b : List Byte) (rDepth wDepth : Nat) : Tenant :=
  let c (o n : Nat) : Nat := rd b (0x3580 + o) n
  { x with
    readLevel := min rDepth (rd b 0x3780 6), writeLevel := min wDepth (rd b 0x3788 6), dieDebt := [], dieBase := 0,
    readsBounded := c 0x30 8, readsBest := c 0x38 8, writesBounded := c 0x40 8, writesBest := c 0x48 8, rescued := c 0x50 8,
    exceptions := c 0x58 8, byCause := (List.range 16).map fun k => c (0x60 + 4 * k) 4,
    hist := (List.range 16).map fun k => c (0xA0 + 4 * k) 4, maxRead := c 0xE0 4, maxWack := c 0xE4 4 }

/-- The NSIDs a blob lists. -/
def blobNss (b : List Byte) : List Nat :=
  ((List.range 1024).map fun k => rd b (0x2580 + 4 * k) 4).takeWhile (· != 0)

/-- Why a blob cannot be restored into a VF, as ERR of FNM_MIG_STATUS; 0 where it can. -/
def State.blobErr (s : State) (vf : Nat) (b : List Byte) (host : Bool) : Nat :=
  let digest := sha256 (b.take 0x20 ++ List.replicate 32 0 ++ b.drop 0x40)
  if rd b 0 4 ≠ 0x54534656 ∨ rd b 4 2 ≠ 1 ∨ rd b 8 4 ≠ blobSize ∨ b.length < blobSize then 1
  else if sub b 0x20 32 ≠ digest then 2
  else if (s.fn vf).life ≠ .frozen ∨ (s.fn vf).enabled then 3
  else if (s.fn vf).vq ≤ rd b 0x1C 1 ∨ (s.fn vf).vi < rd b 0x1D 1 ∨ ((List.range 65).any fun q =>
      ((s.fn vf).vq ≤ q && ((readSq (blobRecord b (2 * q)) 0).isSome || (readCq (blobRecord b (2 * q + 1))).isSome)) ||
      (readCq (blobRecord b (2 * q + 1))).any fun k => decide ((s.fn vf).vi ≤ k.vector)) then 4
  else if (blobNss b).any (fun n => (s.ns n).attached != some vf) then 5
  else if host ∧ s.field Reg.fnmMigLen 0 17 < blobSize then 6
  else 0

/-- Loads a verified blob into a VF. -/
def State.loadBlob (s : State) (vf : Nat) (b : List Byte) : State :=
  let depths := match s.prx.active, s.entryOfFn vf with
    | some i, some e => let k := s.bucketsOf i e; (k.readDepth, k.writeDepth)
    | _, _ => (0, 0)
  let t := (s.endWork vf).updFn vf (·.restored b s.now)
  let errs := (List.range 64).filterMap fun i =>
    let o := 0x1580 + 64 * i
    if rd b o 8 = 0 then none
    else some ({ fn := vf, qid := rd b (o + 8) 2, cid := rd b (o + 10) 2, status := rd b (o + 12) 2 / 2, lba := rd b (o + 16) 8,
                 nsid := rd b (o + 24) 4 } : ErrEntry)
  let aers := (List.range (min 8 (rd b 0x1560 1))).map fun k =>
    ({ id := { fn := vf, qid := 0, cid := rd b (0x1564 + 2 * k) 2 }, op := opAer, admin := true, startAt := s.now } : Cmd)
  let evs := (List.range (min 4 (rd b 0x1562 1))).map fun k =>
    (vf, rd b (0x1574 + 3 * k) 1, rd b (0x1575 + 3 * k) 1, rd b (0x1576 + 3 * k) 1)
  State.showQueues { t with
    errs := (errs ++ t.errs.filter (·.fn != vf)).take 262144, cmds := t.cmds ++ aers, aens := t.aens ++ evs,
    tenants := t.tenants.modify vf (·.restored b depths.1 depths.2),
    mtr := { t.mtr with counts := t.mtr.counts.modify vf fun c => { c with migratedIn := true } } }

/-- RESTORE: a blob is to be loaded from PF0's memory, or from the inbound buffer that MLK_BLOB_SEL names. -/
def State.restore (s : State) : State :=
  s.vfCtl (fun x => x.life == .frozen && s.mig.isNone) fun vf t =>
    let partner := t.bit Reg.fnmMigCtl 0
    let u := t.migStart { vf := vf, save := false, target := partner }
    if (t.fn vf).enabled then u.migFail 3
    else if ¬ partner ∧ ¬ t.portNormal then u.migFail 8
    else if partner then u
    else u.internalRead .blob 0 none (t.num Reg.fnmMigAddrLo) blobSize

/-- The blob has been loaded: it is checked and takes effect, or the VF stays unchanged (R421). -/
def State.restoreEnd (s : State) (blob : List Byte) : State :=
  match s.mig with
  | some m =>
    if m.save ∨ s.internBusy (fun k _ => k == .blob) then s
    else
      let sel := s.field Reg.mlkBlobSel 0 2
      match (if m.target then (s.mlk.blobs.find? (·.1 == sel)).map (·.2.2) else some blob) with
      | none => s.migFail 8
      | some b =>
        let e := s.blobErr m.vf b (!m.target)
        if e ≠ 0 then s.migFail e
        else
          let t := s.loadBlob m.vf b
          let t := if m.target then t.freeBlobBuf sel else t
          let t := State.setField { t with mig := none } Reg.fnmMigStatus 0 2 2
          (t.inc Reg.fnmRestoreCnt).raise Reg.fnmEvent 5
  | none => s

/-! ## Meanings -/

/-- PF0 uses private resources only (Table 10-2). -/
def execPrimaryFlexibleAllocation (q : Sqe) (s : State) : Result :=
  .next (s.whenLive fun t => t.adminCmd (q.as 0x1C) true (·.finish q.id invalidField))
def execSecondaryOffline (q : Sqe) (s : State) : Result := .next (s.whenLive (·.setOffline (q.as 0x1C)))
def execSecondaryAssign (q : Sqe) (s : State) : Result := .next (s.whenLive (·.assign (q.as 0x1C)))
def execSecondaryOnline (q : Sqe) (s : State) : Result := .next (s.whenLive (·.setOnline (q.as 0x1C)))
def execVfEnableSet (s : State) : Result := .next (s.whenLive State.vfEnableSet)
def execVfEnableClear (s : State) : Result := .next (s.whenLive State.vfEnableClear)
def execVfFlr (vf : Nat) (s : State) : Result := .next (s.whenLive (·.vfFlr vf))
def execVfFlrDone (vf : Nat) (s : State) : Result := .next (s.whenLive (·.vfFlrDone vf))
def execPfFlr (s : State) : Result := .next (s.whenLive State.pfFlr)
def execPfFlrDone (s : State) : Result := .next (s.whenLive State.pfFlrDone)
def execQuiesce (s : State) : Result := .next (s.whenLive State.quiesce)
def execQuiesced (vf : Nat) (s : State) : Result := .next (s.whenLive (·.quiesced vf))
def execResume (s : State) : Result := .next (s.whenLive State.resume)
def execFreeze (s : State) : Result := .next (s.whenLive State.freeze)
def execFrozen (vf : Nat) (s : State) : Result := .next (s.whenLive (·.frozen vf))
def execUnfreeze (s : State) : Result := .next (s.whenLive State.unfreeze)
def execSave (s : State) : Result := .next (s.whenLive State.save)
def execSaveDone (ok : Bool) (s : State) : Result :=
  .next (s.whenLive fun t => t.when (t.mig.any fun m => m.save && !m.target) (·.saveEnd ok))
def execRestore (s : State) : Result := .next (s.whenLive State.restore)
def execRestoreDone (blob : List Byte) (s : State) : Result := .next (s.whenLive (·.restoreEnd blob))
/-- BLOB_ACK ends the SAVE that sent the blob (R512): status 0 stored. -/
def execBlobAckRx (vf status : Nat) (s : State) : Result :=
  .next (s.whenLive fun t => (t.took 4 0).when (t.mig.any fun m => m.save && m.target && m.vf == vf) (·.saveEnd (status == 0)))

end Sys2Proof.Machine
end

