-- ==== Sys2Proof/Machine/LocalPort.lean ====
section
/-! DEFINITION. The Local Port Bridge (chapter 14): host windows and their commits, bursts on the local bus, failed
posted writes, the local master and its upstream traffic, interrupt lines, and core accesses. The bytes of a burst are
no state of the bridge: what a target answers to a read is a free value. -/
namespace Sys2Proof.Machine

/-! ## Windows (R556, R564) -/

/-- The size of BAR4/5 (Table 15-3). -/
def State.bar4Size (s : State) : Nat :=
  match s.pwr.desc with
  | some d => if d.bar4Log2 = 0 then 0 else 2 ^ d.bar4Log2
  | none => 0

/-- The enabled active window that contains a whole request (R556). -/
def State.winOf (s : State) (r : WinReq) : Option Nat :=
  (List.range 8).find? fun w =>
    s.bit (Reg.lpbWinCfg w) 0 && decide (s.num (Reg.lpbWinBase w) ≤ r.off) && decide (r.off + r.size ≤ s.num (Reg.lpbWinLimit w) + 1)

/-- POSTED and PREFETCH of an active window. -/
def State.winPosted (s : State) (w : Nat) : Bool := s.bit (Reg.lpbWinCfg w) 1
def State.winPrefetch (s : State) (w : Nat) : Bool := s.bit (Reg.lpbWinCfg w) 2

/-- The first condition of R564 that an enabled shadow window meets: its reason. -/
def State.shadowError (s : State) (w : Nat) : Option Nat :=
  let base := s.num (Reg.lpbWinShadowBase w)
  let limit := s.num (Reg.lpbWinShadowLimit w)
  let trans := s.num (Reg.lpbWinShadowTrans w)
  if ¬ s.bit (Reg.lpbWinShadowCfg w) 0 then none
  else if base % 4096 ≠ 0 ∨ trans % 4096 ≠ 0 ∨ (limit + 1) % 4096 ≠ 0 then some 1
  else if limit < base ∨ s.bar4Size ≤ limit then some 2
  else if 0xFFFFFFFF < trans + (limit - base) then some 3
  else if (List.range 8).any fun v => v != w && s.bit (Reg.lpbWinShadowCfg v) 0 &&
      decide (base ≤ s.num (Reg.lpbWinShadowLimit v)) && decide (s.num (Reg.lpbWinShadowBase v) ≤ limit) then some 4
  else none

/-- The lowest failing window and its reason (R564). -/
def State.commitError (s : State) : Option (Nat × Nat) :=
  ((List.range 8).filterMap fun w => (s.shadowError w).map (w, ·)).head?

/-- LPB_WIN_COMMIT.COMMIT (R564, R565): refused, or the drain begins. A commit during a drain changes nothing. -/
def State.winCommit (s : State) : State :=
  if s.lpb.drainAt.isSome then s
  else
    match s.commitError with
    | some (w, reason) => (s.setNum Reg.lpbCommitStatus (3 + w * 4 + reason * 256)).raise Reg.lpbEvent 2
    | none => State.setNum { s with lpb := { s.lpb with drainAt := some s.now } } Reg.lpbCommitStatus 1

/-- The effect of a write that only cores 4 and 5 may make; every other one is discarded without error (R563, R588). -/
def State.byService (s : State) (by_ : Requester) (f : State → State) : State :=
  match by_ with
  | .core 4 | .core 5 => s.whenLive f
  | _ => s

/-! ## The local bus (R555, R558, R569) -/

/-- LPB_STATUS, but for the strap: GRANTED, LOCKED and the posted writes that wait. -/
def State.lpbLocked (s : State) : Bool :=
  match s.lpb.queue with
  | b :: _ => match b.for_ with
    | .atomicRead _ | .atomicWrite => true
    | _ => false
  | [] => false

/-- A burst that a host's posted write waits for: the last of each counts the write. -/
def Burst.postedLast (b : Burst) : Bool := b.last && b.for_ == .posted

/-- Posted writes waiting (Table 14-7). -/
def State.postedWaiting (s : State) : Nat := (s.lpb.queue.filter Burst.postedLast).length

/-- Takes the bus back from a local master. -/
def State.endGrant (s : State) : State :=
  if s.lpb.granted then State.emit { s with lpb := { s.lpb with granted := false } } (.pin .lpGrant false) else s

/-- A burst goes out on the bus. -/
def State.startBurst (s : State) (b : Burst) : State :=
  let lock := match b.for_ with | .atomicRead _ | .atomicWrite => true | _ => false
  State.emit { s with lpb := { s.lpb with burstAt := s.now } } (.lbus b.cs b.addr b.beats b.be0 b.be1 b.write lock)

/-- Puts bursts in line; a burst that finds the bus free goes out at once. A master that holds the bus between bursts
loses it (R570). -/
def State.enqueue (s : State) (bs : List Burst) : State :=
  let t := s.endGrant
  let u : State := { t with lpb := { t.lpb with queue := t.lpb.queue ++ bs } }
  if t.lpb.queue.isEmpty then
    match bs with
    | b :: _ => u.startBurst b
    | [] => u
  else u

/-- Whether a burst is a core's. -/
def Burst.isCore (b : Burst) : Bool := match b.for_ with | .core _ => true | _ => false

/-- The bursts with the next one first: a core's after a host's and a host's after a core's, where one waits (R575). -/
def nextFirst (lastCore : Bool) (q : List Burst) : List Burst :=
  match q.find? (fun b => b.isCore != lastCore) with
  | some b => b :: q.erase b
  | none => q

/-- The burst on the bus is over: the next goes out. -/
def State.nextBurst (s : State) (lastCore : Bool) : State :=
  let q := nextFirst lastCore s.lpb.queue
  let t : State := { s with lpb := { s.lpb with queue := q } }
  match q with
  | b :: _ => t.startBurst b
  | [] => t

/-- The byte enables of the bytes from `lo` up to `hi` in the word that holds byte `a` (R558). -/
def enables (lo hi a : Nat) : Nat :=
  ((List.range 4).map fun b => if lo ≤ a / 4 * 4 + b ∧ a / 4 * 4 + b < hi then 2 ^ b else 0).sum

/-- The completions of a read, split at 128 bytes, the Read Completion Boundary of an endpoint (R558; PRESUMED from the PCI Express
Base Specification, notes/assumptions/125.md). -/
def WinReq.cpls (r : WinReq) : Nat := (r.off + r.size - 1) / 128 + 1 - r.off / 128

/-- The bursts of a request: one for each 64-byte block it touches; a prefetching read takes whole blocks and skips
those already fetched (R557, R558). -/
def State.burstsOf (s : State) (w : Nat) (r : WinReq) (f : BurstFor) : List Burst :=
  let base := s.num (Reg.lpbWinBase w)
  let trans := s.num (Reg.lpbWinTrans w)
  let whole := !r.write && f == .read && s.winPrefetch w
  let blocks := (List.range ((r.off + r.size - 1) / 64 + 1 - r.off / 64)).map (r.off / 64 + ·)
  let need := if whole then blocks.filter fun b => !(s.lpb.fetched.any fun x => x.1 == w && x.2.1 == b && decide (s.now < x.2.2 + 500)) else blocks
  let make (b : Nat) : Burst :=
    let lo := if whole then b * 64 else max r.off (b * 64)
    let hi := if whole then b * 64 + 64 else min (r.off + r.size) (b * 64 + 64)
    { for_ := f, win := w, off := lo, addr := (trans + (lo - base)) / 4 * 4, beats := (hi - 1) / 4 + 1 - lo / 4,
      cs := s.field (Reg.lpbWinCfg w) 3 2, be0 := enables lo hi lo, be1 := enables lo hi (hi - 1), write := r.write,
      req := r.req, cpls := r.cpls, last := some b == need.getLast? }
  need.map make

/-! ## Host requests (R556 to R559) -/

/-- A completion to a host read; none is sent while the Host Port is not NORMAL (R370). -/
def State.lpbCpl (s : State) (status : Nat) : State :=
  if s.portNormal then (s.emit (.cpl 0 status (if status = 0 then s.freeVal else 0))).drawn else s

/-- The completions with a read's data, in address order (R558). -/
def State.lpbData (s : State) (n : Nat) : State := (List.range n).foldl (fun t _ => t.lpbCpl 0) s

/-- A read or AtomicOp ends with Completer Abort, logged in PF0 (R357, R559, R560). -/
def State.lpbAbort (s : State) : State := ((s.countErr .lpb Reg.lpbReadErrCnt).aerAdvisory 0 15).lpbCpl 2

/-- A request can be accepted into its window (R557, R565): no drain, nothing earlier waiting for the window, no write of
a window with POSTED 0 in progress, and at most 32 posted writes waiting. -/
def State.winReady (s : State) (w : Nat) (r : WinReq) : Bool :=
  s.lpb.drainAt.isNone && !(s.lpb.waiting.any fun x => s.winOf x == some w) &&
  !(s.lpb.queue.any fun b => b.win == w && b.for_ == .write) &&
  !(r.write && s.winPosted w && decide (32 ≤ s.postedWaiting))

/-- A request is accepted into its window. -/
def State.winAccept (s : State) (w : Nat) (r : WinReq) : State :=
  match r.atomic with
  | some fails =>
    let t : State := { s with lpb := { s.lpb with fetched := s.lpb.fetched.filter (·.1 != w) } }
    t.enqueue ((t.burstsOf w { r with write := false } (.atomicRead fails)).take 1)
  | none =>
    if r.write then
      let t : State := { s with lpb := { s.lpb with fetched := s.lpb.fetched.filter (·.1 != w) } }
      t.enqueue (t.burstsOf w r (if t.winPosted w then .posted else .write))
    else
      let bs := s.burstsOf w r .read
      if bs.isEmpty then s.lpbData r.cpls else s.enqueue bs

/-- A host request that reaches the bridge: into its window, held, or unsupported (R556). -/
def State.winRequest (s : State) (r : WinReq) : State :=
  if s.lpb.drainAt.isSome then { s with lpb := { s.lpb with waiting := s.lpb.waiting ++ [r] } }
  else
    match s.winOf r with
    | none => s.unsupported 0 (r.write && r.atomic.isNone)
    | some w => if s.winReady w r then s.winAccept w r else { s with lpb := { s.lpb with waiting := s.lpb.waiting ++ [r] } }

/-- A host request to BAR4/5 (R556, Table 9-11). A request of no bytes is none. -/
def State.bar4Request (s : State) (r : WinReq) : State :=
  if r.size = 0 then s
  else if s.portNormal ∧ s.memOk 0 ∧ s.bar4Size ≠ 0 then s.winRequest r
  else s.unsupported 0 (r.write && r.atomic.isNone)

/-- The requests that waited are tried again, in order. -/
def State.retryWaiting (s : State) : State :=
  if s.lpb.drainAt.isSome then s
  else s.lpb.waiting.foldl (fun t r => t.winRequest r) { s with lpb := { s.lpb with waiting := [] } }

/-! ## The end of a burst -/

/-- FAIL_VEC and VEC[k]: 65 to 127 act as 0 (R568, R573). -/
def vecOf (v : Nat) : Nat := if 65 ≤ v then 0 else v

/-- A failed posted write (R567, R568). Cause 1 LP_ERR_N, 2 WAIT, 3 DRAIN. -/
def State.postFail (s : State) (b : Burst) (cause : Nat) : State :=
  let t := if s.bit Reg.lpbFailInfo 31 then s.inc Reg.lpbFailLostCnt
    else ((s.setNum Reg.lpbFailAddrLo b.off).setNum Reg.lpbFailAddrHi (b.off / 2 ^ 32)).setNum Reg.lpbFailInfo
      (b.req % 65536 + cause * 2 ^ 16 + b.win * 2 ^ 20 + 2 ^ 31)
  let t := (t.countErr .lpb Reg.lpbPostFailCnt b.win).raise Reg.lpbEvent 0
  t.msix 0 (vecOf (t.field Reg.lpbCtl 0 7))

/-- The line without the bursts that were left of a request whose first burst was `b`. -/
def dropRest (b : Burst) (q : List Burst) : List Burst :=
  if b.last then q
  else
    let mine (x : Burst) : Bool := x.for_ == b.for_ && x.win == b.win && x.req == b.req
    let upTo := q.findIdx fun x => mine x && x.last
    (q.zipIdx.filter fun p => !(mine p.1 && decide (p.2 ≤ upTo))).map (·.1)

/-- A burst ends with an error, at its WAIT limit, or by R566. -/
def State.burstFailed (s : State) (b : Burst) (cause : Nat) : State :=
  let t : State := { s with lpb := { s.lpb with queue := dropRest b s.lpb.queue } }
  match b.for_ with
  | .read | .atomicRead _ | .atomicWrite => t.lpbAbort
  | .posted | .write => t.postFail b cause
  | .core c =>
    let u := t.accessFault c (0x100000000 + b.addr)
    if b.write then u else u.emit (.read 0)

/-- A burst ends on its last beat. The write of an AtomicOp follows its read without a gap (R559). -/
def State.burstDone (s : State) (b : Burst) : State :=
  match b.for_ with
  | .read =>
    let t : State := if s.winPrefetch b.win then
        { s with lpb := { s.lpb with fetched := (b.win, b.off / 64, s.now) :: s.lpb.fetched } } else s
    if b.last then t.lpbData b.cpls else t
  | .atomicRead false =>
    { s with lpb := { s.lpb with queue := { b with for_ := .atomicWrite, write := true } :: s.lpb.queue } }
  | .atomicRead true | .atomicWrite => s.lpbCpl 0
  | .posted | .write => s
  | .core _ => if b.write then s else (s.emit (.read (s.freeVal.setWidth 32))).drawn

/-- The WAIT limit that holds for a burst, in cycles of LP_CLK: its window's, or that of LPB_CORE_CFG (R560, R575, Table 14-8). -/
def State.waitOf (s : State) (b : Burst) : Nat :=
  if b.isCore then s.field Reg.lpbCoreCfg 0 12
  else let w := s.field (Reg.lpbWinCfg b.win) 16 12; if w = 0 then 4095 else w

/-- Whether so many cycles of LP_CLK, of LPB_CLK_DIV × 0.8 ns (R554), have passed since the burst's address cycle. -/
def State.busCycles (s : State) (n : Nat) : Bool :=
  decide (2 * n * max 10 (s.field Reg.lpbClkDiv 0 8) ≤ 5 * (s.now - s.lpb.burstAt))

/-- How a burst ended: not at its WAIT limit before WAIT + 1 cycles have passed, and at it where the time of R560 is over. -/
def State.endOf (s : State) (b : Burst) (r : BurstEnd) : Option BurstEnd :=
  let w := s.waitOf b
  match r with
  | .waitLimit => if s.busCycles (w + 1) then some .waitLimit else none
  | .lastBeat => if s.busCycles (4 + b.beats * (w + 1)) then some .waitLimit else some .lastBeat
  | .error => some .error

/-- The burst on the bus ends, the next goes out, and the requests that waited for it are tried again. -/
def State.burstEnd (s : State) (r : BurstEnd) : State :=
  match s.lpb.queue with
  | [] => s
  | b :: rest =>
    match s.endOf b r with
    | none => s
    | some r =>
    let t : State := { s with lpb := { s.lpb with queue := rest } }
    let u := match r with
      | .lastBeat => t.burstDone b
      | .error => t.burstFailed b 1
      | .waitLimit => t.burstFailed b 2
    let u := if b.for_ = .atomicRead false ∧ r = .lastBeat then u.startBurst { b with for_ := .atomicWrite, write := true }
      else u.nextBurst b.isCore
    u.retryWaiting

/-- 1 µs after a block was fetched it is no longer used (R557). -/
def State.prefetchExpire (s : State) (w : Nat) : State :=
  { s with lpb := { s.lpb with fetched := s.lpb.fetched.filter fun x => !(x.1 == w && decide (x.2.2 + 500 ≤ s.now)) } }

/-! ## The end of a commit (R565, R566) -/

/-- Every transaction of the old windows has ended. -/
def State.lpbDrained (s : State) : Bool := s.lpb.queue.all Burst.isCore

/-- Copies a window's shadow set to its active set. -/
def State.copyWindow (s : State) (w : Nat) : State :=
  (((s.setReg (Reg.lpbWinBase w) (s.reg (Reg.lpbWinShadowBase w))).setReg (Reg.lpbWinLimit w) (s.reg (Reg.lpbWinShadowLimit w))).setReg
    (Reg.lpbWinTrans w) (s.reg (Reg.lpbWinShadowTrans w))).setReg (Reg.lpbWinCfg w) (s.reg (Reg.lpbWinShadowCfg w))

/-- The drain ends: all eight shadow sets are copied at once (R565). -/
def State.commitDone (s : State) : State :=
  if s.lpb.drainAt.isSome ∧ s.lpbDrained then
    let t := (List.range 8).foldl (fun t w => t.copyWindow w) s
    let t : State := { t with lpb := { t.lpb with drainAt := none, fetched := [] } }
    ((t.setField Reg.lpbCommitStatus 0 2 2).raise Reg.lpbEvent 1).retryWaiting
  else s

/-- 100 µs after the commit every remaining transaction ends at its next beat boundary (R566). -/
def State.drainTimeout (s : State) : State :=
  if s.lpb.drainAt.any (· + 50000 ≤ s.now) ∧ ¬ s.lpbDrained then
    let firsts := s.lpb.queue.filter fun b => !b.isCore && b.last
    let t : State := { s with lpb := { s.lpb with queue := s.lpb.queue.filter Burst.isCore } }
    let t := firsts.foldl (fun u b => u.burstFailed b 3) t
    let t := t.setBit Reg.lpbCommitStatus 12 true
    if s.lpb.queue.head?.any Burst.isCore then t else t.nextBurst false
  else s

/-! ## The local master (R569 to R571) -/

/-- LP_BREQ_N at a burst boundary (R569). -/
def State.busRequest (s : State) : State :=
  if s.lpb.granted then s
  else if s.lpbLocked ∨ (s.lpb.queue ≠ [] ∧ s.lpb.retries < 4) then
    State.inc { s with lpb := { s.lpb with retries := s.lpb.retries + 1 } } Reg.lpbArbRetryCnt
  else State.emit { s with lpb := { s.lpb with granted := true, retries := 0 } } (.pin .lpGrant true)

/-- The answer to a master's burst: 0 data or accepted, 1 retry, 2 LP_ERR_N. While outbound transactions are queued the
grant ends with it (R569). -/
def State.answerMaster (s : State) (code addr : Nat) : State :=
  let t := s.emit (.resp 4 code [addr])
  if t.lpb.queue.isEmpty then t else t.endGrant

/-- The upstream aperture: its local base, and its size. -/
def State.upBase (s : State) : Nat := s.num Reg.lpbUpLocal / 4096 * 4096
def State.upSize (s : State) : Nat := 2 ^ min 32 (max 12 (s.field Reg.lpbUpSize 0 6))
/-- A burst begins in the aperture. -/
def State.inAperture (s : State) (addr : Nat) : Bool :=
  s.bit Reg.lpbUpSize 31 && decide (s.upBase ≤ addr) && decide (addr < s.upBase + s.upSize)
/-- The host address a local address maps onto. -/
def State.upHost (s : State) (addr : Nat) : Nat :=
  s.num Reg.lpbUpBaseHi * 2 ^ 32 + s.num Reg.lpbUpBaseLo / 4096 * 4096 + (addr - s.upBase)
/-- A burst that the aperture cannot carry (R571). -/
def State.upBad (s : State) (addr len : Nat) : Bool :=
  decide (s.upBase + s.upSize < addr + len) || !s.dmaOk 0

/-- A master's write in the aperture (R571): accepted while the upstream buffer has room, and sent in unowned HOST_DELIVER capacity
in the order of arrival, without Relaxed Ordering (R347). -/
def State.upWrite (s : State) (addr len : Nat) : State :=
  if ¬ s.lpb.granted ∨ ¬ s.inAperture addr then s
  else if s.upBad addr len then ((s.countErr .lpb Reg.lpbUpErrCnt).raise Reg.lpbEvent 7).answerMaster 2 addr
  else if 4096 < s.lpb.upBuf.sum + len then s.answerMaster 1 addr
  else
    let t : State := { s with lpb := { s.lpb with upBuf := s.lpb.upBuf ++ [len] } }
    (t.internal { kind := .bridge addr, deliver := true, units := 1, outs := t.writeTlps 0 (t.upHost addr) len false false }).answerMaster 0 addr

/-- A master's read in the aperture (R571), issued in unowned HOST_FETCH capacity. One that the host did not answer has failed (R365),
and its burst ends with LP_ERR_N: the model's choice (notes/assumptions/117.md). -/
def State.upRead (s : State) (addr len : Nat) : State :=
  if ¬ s.lpb.granted ∨ ¬ s.inAperture addr then s
  else if s.upBad addr len then (s.raise Reg.lpbEvent 7).answerMaster 2 addr
  else
    match s.lpb.upReads.find? (fun r => r.addr == addr && r.len == len) with
    | some r =>
      if r.ready.isSome then
        let t : State := { s with lpb := { s.lpb with upReads := s.lpb.upReads.erase r } }
        if r.bad then (t.raise Reg.lpbEvent 7).answerMaster 2 addr else t.answerMaster 0 addr
      else s.answerMaster 1 addr
    | none =>
      let t : State := { s with lpb := { s.lpb with upReads := s.lpb.upReads ++ [{ addr := addr, len := len }] } }
      (t.internalRead (.bridge addr) 0 none (t.upHost addr) len).answerMaster 1 addr

/-- The data of an upstream read arrives, once it has been asked for. -/
def State.upData (s : State) (addr : Nat) : State :=
  if (s.hpt.intern.any fun e => e.kind == .bridge addr && !e.deliver) || s.hpt.np.any (·.kind == .internal (.bridge addr) none) then s
  else { s with lpb := { s.lpb with upReads := s.lpb.upReads.map fun r =>
      if r.addr = addr ∧ r.ready.isNone then { r with ready := some s.now } else r } }

/-- Data not collected within 1 ms is discarded (R571). -/
def State.upStale (s : State) (addr : Nat) : State :=
  let old (r : UpRead) : Bool := r.addr == addr && r.ready.any (· + 500000 ≤ s.now)
  if s.lpb.upReads.any old then
    State.countErr { s with lpb := { s.lpb with upReads := s.lpb.upReads.filter (!old ·) } } .lpb Reg.lpbUpStaleCnt
  else s

/-! ## Interrupt lines and core accesses (R573 to R575) -/

/-- An assertion of line `k`. The message follows every upstream write accepted before it; in containment there is none
(R573, R574). -/
def State.lpIrq (s : State) (k : Nat) : State :=
  if k < 4 then
    let t := s.raise Reg.lpbEvent (3 + k)
    let v := vecOf (t.field Reg.lpbIrqCfg (8 * k) 7)
    if ¬ t.bit Reg.lpbIrqCfg (8 * k + 7) ∨ ¬ t.portNormal then t
    else if t.lpb.upBuf.isEmpty then t.msix 0 v
    else t.internal { kind := .irq v, deliver := true, units := 0, outs := [] }
  else s

/-- A core's access to the Local Port space (R575). -/
def State.coreLocal (s : State) (c : Nat) (addr : Word) (write : Bool) : State :=
  if c < 8 then
    s.enqueue [{ for_ := .core c, win := 8, off := 0, addr := addr.toNat / 4 * 4, beats := 1,
                 cs := s.field Reg.lpbCoreCfg 12 2, write := write, req := 0, last := true }]
  else s

/-! ## Meanings -/

def execBar4RequestRx (offset size : Nat) (write : Bool) (requester : Nat) (s : State) : Result :=
  .next (s.whenLive (·.bar4Request { off := offset, size := size, write := write, req := requester }))
def execLocalAtomicop (offset size : Nat) (casFails : Bool) (s : State) : Result :=
  .next (s.whenLive (·.bar4Request { off := offset, size := size, write := true, req := 0, atomic := some casFails }))
def execLocalBurstEnd (r : BurstEnd) (s : State) : Result := .next (s.whenLive (·.burstEnd r))
def execPrefetchExpiry (win : Nat) (s : State) : Result := .next (s.whenLive (·.prefetchExpire win))
def execLpbWinCommit (by_ : Requester) (s : State) : Result := .next (s.byService by_ State.winCommit)
def execCommitDone (s : State) : Result := .next (s.whenLive State.commitDone)
def execCommitDrainTimeout (s : State) : Result := .next (s.whenLive State.drainTimeout)
def execLocalBusRequest (s : State) : Result := .next (s.whenLive State.busRequest)
def execUpstreamWrite (addr len : Nat) (s : State) : Result := .next (s.whenLive (·.upWrite addr len))
def execUpstreamRead (addr len : Nat) (s : State) : Result := .next (s.whenLive (·.upRead addr len))
def execUpstreamReadDataArrive (addr : Nat) (s : State) : Result := .next (s.whenLive (·.upData addr))
def execUpstreamReadStale (addr : Nat) (s : State) : Result := .next (s.whenLive (·.upStale addr))
def execLpIrqAssert (line : Nat) (s : State) : Result := .next (s.whenLive (·.lpIrq line))
def execCoreLocalAccess (core : Nat) (addr : Word) (write : Bool) (s : State) : Result :=
  .next (s.whenLive (·.coreLocal core addr write))

end Sys2Proof.Machine
end

