-- ==== Sys2Proof/Machine/Telemetry.lean ====
section
/-! DEFINITION. The Telemetry Lens (chapter 14): samples, signal maps, records, the Larvis bank and the transfer mailbox. -/
namespace Sys2Proof.Machine

/-! ## Sample entries (R576 to R579) -/

/-- TLN_SAMPLEe_CFG in force, and its fields. -/
def State.sampleCfg (s : State) (e : Nat) : Word := BitVec.ofNat 32 (s.tln.sampleCfg.get e)
def sampleBus (c : Word) : Nat := wordField c 0 3
def sampleAddr (c : Word) : Nat := wordField c 3 7
def sampleLen (c : Word) : Nat := wordField c 10 4
def samplePeriod (c : Word) : Nat := wordField c 16 16

/-- An entry samples: it has a period and a length from 1 to 8. A length above 8 disables it as 0 does. -/
def sampleOn (c : Word) : Bool := samplePeriod c != 0 && decide (1 ≤ sampleLen c) && decide (sampleLen c ≤ 8)

/-- A target that the device may address: the board descriptor lists it; on I3C1 the modules of DDR (R576, Table 14-3). -/
def State.busTarget (s : State) (bus addr : Nat) : Bool :=
  bus == 3 || (s.pwr.desc.any fun d => d.devices.contains (bus, addr))

/-- A sample falls due (R578). -/
def State.sampleDue (s : State) (e : Nat) : State :=
  let c := s.sampleCfg e
  if e < 64 ∧ s.bit Reg.tlnCtl 0 ∧ sampleOn c ∧ s.frame % samplePeriod c = 0 then
    if s.tln.busy.contains e then s.inc Reg.tlnSkipCnt
    else
      let t : State := { s with tln := { s.tln with busy := e :: s.tln.busy } }
      if sampleBus c ≠ 0 ∧ s.busTarget (sampleBus c) (sampleAddr c) then t.emit (.sbus (sampleBus c) (sampleAddr c)) else t
  else s

/-- The temperature that a die's register shows is older than 2,000 frames (R200). -/
def State.dieTempStale (s : State) (lane : Nat) : Bool := (s.die lane).tempAt.any (· + 2000 < s.frame)

/-- The raw value of an internal item (Table 14-4); none for another address, or a die temperature that is not VALID or
is STALE (R579). -/
def State.internalItem (s : State) (addr lane : Nat) : Option Nat :=
  if addr = 0 then some (s.prx.tj256 % 65536).toNat
  else if addr = 1 then some (s.field Reg.wrpHoldupSense 0 12)
  else if addr = 2 ∧ lane < 512 ∧ s.bit (Reg.mchChDieTemp (lane / 16) (lane % 16)) 8 ∧ ¬ s.dieTempStale lane then
    some (s.field (Reg.mchChDieTemp (lane / 16) (lane % 16)) 0 8)
  else none

/-- The raw word of a sample (R578); none for a bad one (R579). A target outside the descriptor answers nothing. -/
def State.rawWord (s : State) (e : Nat) (r : BusResult) : Option Nat :=
  let c := s.sampleCfg e
  if sampleBus c = 0 then s.internalItem (sampleAddr c) (s.field (Reg.tlnSampleReg e) 0 16)
  else if ¬ s.busTarget (sampleBus c) (sampleAddr c) then none
  else
    match r with
    | .ok b =>
      let x := sub b 0 (sampleLen c)
      some (if c.getLsbD 14 then rd x.reverse 0 8 else rd x 0 8)
    | _ => none

/-! ## Signal maps (R580, R581) -/

/-- A map's fields. -/
def State.mapEntry (s : State) (m : Nat) : Nat := s.field (Reg.tlnMapSrc m) 0 6
def State.mapBit (s : State) (m : Nat) : Nat := s.field (Reg.tlnMapSrc m) 8 6
def State.mapWidth (s : State) (m : Nat) : Nat := s.field (Reg.tlnMapSrc m) 16 6
def State.mapEn (s : State) (m : Nat) : Bool := s.bit (Reg.tlnMapSrc m) 31

/-- An active map: enabled, its width from 1 to 32, and its field within the raw word. -/
def State.mapActive (s : State) (m : Nat) : Bool :=
  s.mapEn m && decide (1 ≤ s.mapWidth m) && decide (s.mapWidth m ≤ 32) && decide (s.mapBit m + s.mapWidth m ≤ 64)

/-- Saturates to a signed 32-bit value. -/
def sat32 (v : Int) : Int := max (-2147483648) (min 2147483647 v)

/-- The value that a map cuts out of a raw word: signed Q16.16 (R580). -/
def State.mapValue (s : State) (m raw : Nat) : Int :=
  let w := s.mapWidth m
  let f := raw / 2 ^ s.mapBit m % 2 ^ w
  let v : Int := if s.bit (Reg.tlnMapSrc m) 6 ∧ 2 ^ (w - 1) ≤ f then Int.ofNat f - 2 ^ w else f
  sat32 (v * (s.reg (Reg.tlnMapScale m)).toInt + (s.reg (Reg.tlnMapOffset m)).toInt)

/-- The highest-numbered active map for which a destination holds (R580). -/
def State.topMap (s : State) (p : Nat → Bool) : Option Nat :=
  (List.range 256).foldl (fun b m => if s.mapActive m && p m then some m else b) none

/-- The map of a record's field, and of a Larvis word. -/
def State.fieldMap (s : State) (r f : Nat) : Option Nat :=
  s.topMap fun m => s.bit (Reg.tlnMapDest m) 12 && s.field (Reg.tlnMapDest m) 0 5 == r && s.field (Reg.tlnMapDest m) 8 4 == f
def State.wordMap (s : State) (k : Nat) : Option Nat :=
  s.topMap fun m => s.bit (Reg.tlnMapDest m) 26 && s.field (Reg.tlnMapDest m) 16 10 == k

/-- A map's value is valid: its last good sample is younger than twice the period (R581). -/
def State.mapValid (s : State) (m : Nat) : Bool :=
  let g := s.tln.goodAt.get (s.mapEntry m)
  g != 0 && decide (s.frame + 1 < g + 2 * samplePeriod (s.sampleCfg (s.mapEntry m)))

/-- A Larvis word without VALID: the value's upper 24 bits, saturated (R585). -/
def larvisValue (v : Int) : Nat := (max (-8388608) (min 8388607 (v / 256)) % 2 ^ 24).toNat

/-- A good sample reaches a map, its value register and, in Larvis mode, its word. -/
def State.applyMap (s : State) (m raw : Nat) : State :=
  if ¬ s.mapEn m then s
  else if 64 < s.mapBit m + s.mapWidth m then s.raise Reg.tlnEvent 4
  else if ¬ s.mapActive m then s
  else
    let v := s.mapValue m raw
    let t := s.setInt (Reg.tlnMapValue m) v
    let k := t.field (Reg.tlnMapDest m) 16 10
    if t.bit Reg.tlnCtl 1 ∧ t.bit (Reg.tlnMapDest m) 26 ∧ t.wordMap k = some m then
      t.setNum (Reg.tlnLarvis k) (larvisValue v + 2 ^ 30)
    else t

/-- A transfer that waited runs once no sample runs on its bus (R577). -/
def State.xferStart (s : State) : State :=
  let bus := s.field Reg.tlnXferCtl 0 3
  if s.tln.xferWait ∧ ¬ (s.tln.busy.any fun e => sampleBus (s.sampleCfg e) == bus) then
    State.emit { s with tln := { s.tln with xferWait := false } } (.sbus bus (s.field Reg.tlnXferCtl 3 7))
  else s

/-- A sample ends (R578, R579). -/
def State.lensSampleDone (s : State) (e : Nat) (r : BusResult) : State :=
  if s.tln.busy.contains e then
    let t := State.xferStart { s with tln := { s.tln with busy := s.tln.busy.filter (· != e) } }
    match t.rawWord e r with
    | none => (t.countErr .tln Reg.tlnBadSampleCnt e).raise Reg.tlnEvent 1
    | some raw =>
      let t : State := State.inc { t with tln := { t.tln with goodAt := t.tln.goodAt.set e (t.frame + 1) } } Reg.tlnSampleCnt
      ((List.range 256).filter fun m => t.mapEntry m == e).foldl (fun u m => u.applyMap m raw) t
  else s

/-! ## Records (R582 to R584) -/

/-- A record (Table 14-5). SEQ counts the emission itself. -/
def State.telemetryRecord (s : State) (r : Nat) : List Byte :=
  let maps := (List.range 12).map (s.fieldMap r)
  let valid := (List.range 12).map fun f => if (maps.getD f none).any s.mapValid then 2 ^ f else 0
  let vals := maps.map fun m => match m with | some m => s.num (Reg.tlnMapValue m) | none => 0
  leBytes r 1 ++ leBytes 1 1 ++ leBytes valid.sum 2 ++ leBytes (s.tln.seqs.get r) 4 ++ leBytes s.frame 8 ++
    vals.flatMap (leBytes · 4)

/-- Entries of the DRAM buffer (R583). -/
abbrev bufEntries : Nat := 262144

/-- A record into the buffer in DRAM (R583). -/
def State.bufferRecord (s : State) (b : List Byte) : State :=
  let p := (s.field Reg.tlnBufProd 0 18 + 1) % bufEntries
  let t : State := State.setNum { s with tln := { s.tln with buffer := (b :: s.tln.buffer).take bufEntries } } Reg.tlnBufProd p
  if p = t.field Reg.tlnBufCons 0 18 then (t.setField Reg.tlnBufCons 0 18 ((p + 1) % bufEntries)).raise Reg.tlnEvent 3 else t

/-- A record into the PF0 ring, in unowned HOST_DELIVER capacity and with Relaxed Ordering; the index follows it (R347, R584). -/
def State.ringRecord (s : State) (b : List Byte) : State :=
  if ¬ s.bit Reg.tlnCtl 2 then s
  else if s.tlnRingFull then (s.countErr .tln Reg.tlnRingDropCnt).raise Reg.tlnEvent 0
  else
    let at_ := (s.num Reg.tlnRingProd + (s.hpt.intern.filter (·.kind == .lens)).length) % s.tlnRingEntries
    s.internal { kind := .lens, deliver := true, units := 1,
                 outs := s.writeTlps 0 (s.num Reg.tlnRingBaseLo + at_ * b.length) b.length true false ++ [.bytes 7 b] }

/-- A record is emitted at its period (R582). -/
def State.emitRecord (s : State) (r : Nat) : State :=
  let period := s.tln.recCfg.get r % 65536
  if r < 32 ∧ period ≠ 0 ∧ s.frame % period = 0 then
    let t : State := { s with tln := { s.tln with seqs := s.tln.seqs.modify r fun n => (n + 1) % 2 ^ 32 } }
    let b := t.telemetryRecord r
    (((t.inc Reg.tlnRecordCnt).bufferRecord b).ringRecord b).showTlnRing
  else s

/-- The configuration that a frame edge takes (Table 14-9). -/
def State.takeTlnCfg (s : State) : State :=
  { s with tln := { s.tln with
      sampleCfg := (List.range 64).foldl (fun t e => t.set e (s.num (Reg.tlnSampleCfg e))) s.tln.sampleCfg,
      recCfg := (List.range 32).foldl (fun t r => t.set r (s.num (Reg.tlnRecCfg r))) s.tln.recCfg } }

/-! ## The Larvis bank (R585) -/

/-- A Larvis word as it reads. -/
def State.larvisWord (s : State) (k : Nat) : Word :=
  setWordField (s.reg (Reg.tlnLarvis k)) 31 1 (if (s.wordMap k).any s.mapValid then 1 else 0)

/-- A read of a Larvis word clears NEW. -/
def State.larvisRead (s : State) (k : Nat) : State :=
  if k < 1024 then (s.emit (.read (s.larvisWord k))).setBit (Reg.tlnLarvis k) 30 false else s

/-! ## The transfer mailbox (R577) -/

/-- A transfer ends: GO reads 0. -/
def State.xferEnd (s : State) (status : Nat) : State :=
  (((s.setBit Reg.tlnXferCtl 31 false).setBit Reg.tlnStatus 0 false).setNum Reg.tlnXferStatus status).raise Reg.tlnEvent 2

/-- A write of TLN_XFER_CTL: dropped while GO reads 1. A write to I3C1, a bus that is none, a length outside 1 to 8, or a
target that R576 does not allow is refused. -/
def State.xferCtl (s : State) (v : Word) : State :=
  if s.bit Reg.tlnXferCtl 31 then s
  else
    let t := s.setReg Reg.tlnXferCtl (v &&& 0x8001FFFF)
    if ¬ v.getLsbD 31 then t
    else
      let bus := wordField v 0 3
      let len := wordField v 11 4
      if bus = 0 ∨ 3 < bus ∨ (bus = 3 ∧ v.getLsbD 10) ∨ len = 0 ∨ 8 < len ∨ ¬ t.busTarget bus (wordField v 3 7) then
        t.xferEnd (3 + 4 * 16)
      else
        let u := (t.setBit Reg.tlnStatus 0 true).setNum Reg.tlnXferStatus 1
        State.xferStart { u with tln := { u.tln with xferWait := true } }

/-- A transfer ends done or failed. -/
def State.xferDone (s : State) (r : BusResult) : State :=
  if ¬ s.bit Reg.tlnXferCtl 31 ∨ s.tln.xferWait then s
  else
    match r with
    | .ok b =>
      let x := sub b 0 (s.field Reg.tlnXferCtl 11 4)
      let t := if s.bit Reg.tlnXferCtl 10 then s
        else (s.setNum Reg.tlnXferDataLo (rd x 0 4)).setNum Reg.tlnXferDataHi (rd x 4 4)
      t.xferEnd 2
    | .nack => s.xferEnd (3 + 1 * 16)
    | .timeout => s.xferEnd (3 + 2 * 16)
    | .pec => s.xferEnd (3 + 3 * 16)

/-! ## Meanings -/

def execTlnSampleDue (entry : Nat) (s : State) : Result := .next (s.whenLive (·.sampleDue entry))
def execTlnSampleDone (entry : Nat) (r : BusResult) (s : State) : Result := .next (s.whenLive (·.lensSampleDone entry r))
def execTlnRecordEmit (rec : Nat) (s : State) : Result := .next (s.whenLive (·.emitRecord rec))
def execLarvisRead (word : Nat) (s : State) : Result := .next (s.whenLive (·.larvisRead word))
def execTlnXferGo (v : Word) (s : State) : Result := .next (s.whenLive (·.xferCtl (v ||| 0x80000000)))
def execXferDone (r : BusResult) (s : State) : Result := .next (s.whenLive (·.xferDone r))

end Sys2Proof.Machine
end

