-- ==== Sys2Proof/Machine/Mi.lean ====
section
/-! DEFINITION. NVMe-MI over SMB0 (R586, R587): MCTP control and the five NVMe-MI commands. Completion and status codes
are those of the MCTP and NVMe-MI standards (PRESUMED): 0 success, 3 Invalid Command Opcode, 4 Invalid Parameter. -/
namespace Sys2Proof.Machine

/-- The endpoint answers in every state but Quiet (R587): while the main rails are up. -/
def State.miServed (s : State) (f : State → State) : State := if s.pwr.supply = .on then f s else s

/-- An answer on SMB0: the completion code, then the data. -/
def State.miAnswer (s : State) (code : Nat) (vals : List Nat) : State := s.emit (.resp 2 code vals)

/-- Set Endpoint ID (R586): the null and broadcast identifiers are no endpoint's. -/
def State.setEid (s : State) (eid : Nat) : State :=
  if eid = 0 ∨ 255 ≤ eid then s.miAnswer 2 []
  else State.miAnswer { s with mi := { s.mi with eid := eid } } 0 [eid]

/-- A data structure of Read NVMe-MI Data Structure (Table 14-6): subsystem, ports (0 PCIe, 1 SMBus with its transmission
unit and frequency), controllers, controller information, optionally supported commands (none beside the five). -/
def State.miStructure (s : State) : Nat → Option (List Nat)
  | 0 => some [2]
  | 1 => some [0, 1, s.mi.mtu, s.mi.freq]
  | 2 => some (4097 :: List.range 4097)
  | 3 => some [0, 0x9640]
  | 4 => some [0]
  | _ => none

/-- Configuration Set (Table 14-6): 1 SMBus frequency (1 to 3), 2 Health Status Change, 3 transmission unit (64 to 250). -/
def State.miSet (s : State) (id v : Nat) : State :=
  if id = 1 ∧ 1 ≤ v ∧ v ≤ 3 then State.miAnswer { s with mi := { s.mi with freq := v } } 0 []
  else if id = 2 then s.miAnswer 0 []
  else if id = 3 ∧ 64 ≤ v ∧ v ≤ 250 then State.miAnswer { s with mi := { s.mi with mtu := v } } 0 []
  else s.miAnswer 4 []

/-- Configuration Get. -/
def State.miGet (s : State) (id : Nat) : State :=
  if id = 1 then s.miAnswer 0 [s.mi.freq]
  else if id = 2 then s.miAnswer 0 [0]
  else if id = 3 then s.miAnswer 0 [s.mi.mtu]
  else s.miAnswer 4 []

/-- VPD Read: bytes of the board descriptor's VPD, at most 256. -/
def State.miVpd (s : State) (off len : Nat) : State :=
  let vpd := ((s.pwr.desc.map (·.vpd)).getD []).take 256
  if off + len ≤ vpd.length then (s.miAnswer 0 []).emit (.bytes 2 (sub vpd off len)) else s.miAnswer 4 []

/-- The health fields of a function's SMART page: warning, temperature, spare, threshold, percentage used. -/
def State.health (s : State) (f : Nat) : List Nat := (s.smart f).take 5

def execSetEndpointId (eid : Nat) (s : State) : Result := .next (s.miServed (·.setEid eid))
def execGetEndpointId (s : State) : Result := .next (s.miServed fun t => t.miAnswer 0 [t.mi.eid])
def execGetEndpointUuid (s : State) : Result := .next (s.miServed fun t => (t.miAnswer 0 []).emit (.bytes 2 Config.uuid))
/-- MCTP base version 1.3 (PRESUMED: the specification names none). -/
def execGetMctpVersionSupport (s : State) : Result := .next (s.miServed (·.miAnswer 0 [1, 3]))
/-- Message types 0x00 and 0x04 (R586). -/
def execGetMessageTypeSupport (s : State) : Result := .next (s.miServed (·.miAnswer 0 [0, 4]))
/-- A packet or message is dropped and counted (R586). -/
def execMctpPacketDrop (s : State) : Result := .next (s.miServed (·.countErr .lpb Reg.lpbMiDropCnt))
def execReadNvmeMiDataStructure (type : Nat) (s : State) : Result :=
  .next (s.miServed fun t => match t.miStructure type with
    | some l => t.miAnswer 0 l
    | none => t.miAnswer 4 [])
/-- The composite health of PF0's SMART page (R324); its temperature is the junction temperature. -/
def execNvmSubsystemHealthStatusPoll (s : State) : Result := .next (s.miServed fun t => t.miAnswer 0 (t.health 0))
def execControllerHealthStatusPoll (cntlid : Nat) (s : State) : Result :=
  .next (s.miServed fun t => if t.fnExists cntlid then t.miAnswer 0 (t.health cntlid) else t.miAnswer 4 [])
def execConfigurationSet (id value : Nat) (s : State) : Result := .next (s.miServed (·.miSet id value))
def execConfigurationGet (id : Nat) (s : State) : Result := .next (s.miServed (·.miGet id))
def execVpdRead (offset len : Nat) (s : State) : Result := .next (s.miServed (·.miVpd offset len))
/-- Any other command completes with Invalid Command Opcode (R587). -/
def execMiInvalidCommand (_opcode : Nat) (s : State) : Result := .next (s.miServed (·.miAnswer 3 []))

end Sys2Proof.Machine
end

