-- ==== Sys2Proof/Machine/Profile.lean ====
section
/-! DEFINITION. The media profile as a byte string (Tables 5-3 to 5-5 and 8-4): reading it, the checks of R177, R178,
R184 and R313, and its binding (R185). -/
namespace Sys2Proof.Machine

/-- A band of the care section. -/
def readBand (b : List Byte) (levels : Nat) : Band :=
  { peUpper := rd b 0 2, retentionH := rd b 4 4, disturbReads := rd b 8 4,
    levelInit := (List.range levels).map fun k => signed8 (rd b (16 + k) 1) }

/-- The feature list: addresses, target masks and parameter bytes up to the first address 0 (R182). -/
def readFeatures (b : List Byte) : List (Nat × Nat × List Byte) :=
  ((List.range 16).map fun k => (rd b (8 * k) 1, rd b (8 * k + 1) 1 % 16, sub b (8 * k + 2) 4)).takeWhile fun p => p.1 != 0

/-- A profile from its bytes. -/
def readProfile (b : List Byte) : Profile :=
  let ids := rd b 0x28 4
  let time := rd b 0x2C 4
  let care := b.drop (rd b 0x34 4)
  { id := BitVec.ofNat 32 (rd b 8 4), version := BitVec.ofNat 32 (rd b 0x0C 4), cellType := rd b 0x14 1,
    iface := rd b 0x15 1, maxRate := rd b 0x16 2, dieLog2 := rd b 0x18 1, planes := rd b 0x19 1, pageKib := rd b 0x1A 2,
    ppb := rd b 0x1C 2, bpp := rd b 0x1E 2, lunsPerCe := rd b 0x20 1, maxSuspProg := rd b 0x22 1,
    maxSuspErase := rd b 0x23 1, levelFeature := rd b 0x24 1, levelCount := rd b 0x25 1,
    tempFeature := rd b 0x26 1, slcPrefix := rd b 0x27 1,
    ids := (List.range (rd b 0x21 1)).map fun k =>
      (sub b (ids + 32 * k) 8, sub b (ids + 32 * k + 8) 8, rd b (ids + 32 * k + 16) 2),
    timing := (List.range 16).map fun k => rd b (time + 4 * k) 4,
    features := readFeatures (b.drop (rd b 0x30 4)), tDieMax := rd b 0x3C 1,
    bands := (List.range (rd care 2 1)).map fun k => readBand (care.drop (16 + 32 * k)) (rd b 0x25 1),
    samplePages := rd care 3 1, endurance := rd care 4 2, corrLimit := rd care 6 2, tRef := rd care 8 1,
    tDouble := rd care 9 1, refreshPct := rd care 0x0A 1, opPermille := rd care 0x0C 2,
    digest := sha256 b, bytes := b }

/-- The sections: offset and size. -/
def profileSections (b : List Byte) : List (Nat × Nat) :=
  [(rd b 0x28 4, 32 * rd b 0x21 1), (rd b 0x2C 4, 64), (rd b 0x30 4, 128), (rd b 0x34 4, rd b 0x38 4)]

/-- No two sections of the list overlap. -/
def apart : List (Nat × Nat) → Bool
  | [] => true
  | x :: rest => rest.all (fun y => decide (x.1 + x.2 ≤ y.1) || decide (y.1 + y.2 ≤ x.1)) && apart rest

/-- Each section is aligned, lies before the signature and overlaps no other (R177). DESIGN CHOICE: a section may not overlap
the header either, which R177 leaves open (notes/assumptions/107.md). -/
def sectionsOk (b : List Byte) : Bool :=
  (profileSections b).all (fun x => x.1 % 16 == 0 && decide (128 ≤ x.1) && decide (x.1 + x.2 + 64 ≤ b.length)) &&
    apart (profileSections b)

/-- The header's fields lie within Table 5-3 (R177). -/
def headerOk (b : List Byte) : Bool :=
  let p := readProfile b
  rd b 0 4 == 0x4652504D && rd b 4 2 == 1 && rd b 6 2 == 128 && rd b 0x10 4 == b.length && decide (b.length ≤ 65536) &&
    (p.cellType == 3 || p.cellType == 4) && decide (p.iface ≤ 1) && (p.dieLog2 == 41 || p.dieLog2 == 42) &&
    decide (1 ≤ p.planes ∧ p.planes ≤ 8) && decide (1 ≤ p.lunsPerCe ∧ p.lunsPerCe ≤ 4) &&
    decide (1 ≤ rd b 0x21 1 ∧ rd b 0x21 1 ≤ 8) && decide (p.maxSuspProg ≤ 15 ∧ p.maxSuspErase ≤ 15) &&
    p.levelCount == (if p.cellType = 3 then 7 else 15) && zeros b 0x3D 67

/-- Reserved bytes of the ID and timing sections, of the entries of the feature list and of the care section are 0 (R177, R182,
Tables 5-4, 5-5 and 8-4), and so are the initial offsets past LEVEL_COUNT. -/
def reservedOk (b : List Byte) : Bool :=
  let feat := rd b 0x30 4
  let care := rd b 0x34 4
  ((List.range (rd b 0x21 1)).all fun k => zeros b (rd b 0x28 4 + 32 * k + 18) 14) && zeros b (rd b 0x2C 4 + 56) 8 &&
    ((List.range (readFeatures (b.drop feat)).length).all fun k =>
      decide (rd b (feat + 8 * k + 1) 1 < 16) && zeros b (feat + 8 * k + 6) 2) &&
    zeros b (care + 0x0B) 1 &&
    (List.range (rd b (care + 2) 1)).all fun k =>
      let o := care + 16 + 32 * k
      zeros b (o + 2) 2 && zeros b (o + 12) 4 && zeros b (o + 16 + rd b 0x25 1) (16 - rd b 0x25 1)

/-- The care section (R313). -/
def careOk (b : List Byte) : Bool :=
  let care := b.drop (rd b 0x34 4)
  rd care 0 2 == 1 && decide (1 ≤ rd care 2 1 ∧ rd care 2 1 ≤ 8) && decide (16 + 32 * rd care 2 1 ≤ rd b 0x38 4)

/-- A data rate of Table 5-1. -/
def dataRate (r : Nat) : Bool := decide (800 ≤ r ∧ r ≤ 3600) && r % 400 == 0

/-- The signature verifies under the key in the running firmware (R178). -/
def State.profileSigned (s : State) (b : List Byte) : Bool :=
  let key := Config.profileKey ((s.sec.running.map (·.body)).getD [])
  Config.ecdsaVerify key (b.take (b.length - 64)) (b.drop (b.length - 64))

/-- Every condition of R184 on the profile itself. -/
def State.profileOk (s : State) (b : List Byte) : Bool :=
  let p := readProfile b
  decide (128 + 64 ≤ b.length) && s.profileSigned b && headerOk b && sectionsOk b && reservedOk b && careOk b &&
    dataRate p.maxRate && decide (s.diesPerCh ≤ p.lunsPerCe * 4) && decide (2 ^ p.dieLog2 * s.popLanes.length ≤ 2 ^ 51)

/-- Makes a profile the bound one, as the registers show it (Table 5-9). -/
def State.setProfile (s : State) (p : Profile) : State :=
  let t : State := { s with mch := { s.mch with profile := some p } }
  let t := ((t.setReg Reg.mchProfileId p.id).setReg Reg.mchProfileVer p.version).setNum Reg.mchProfileDigest (rd p.digest 0 4)
  ((t.setBit Reg.mchGstatus 0 true).setBit Reg.mchGstatus 2 (p.iface == 1)).setField Reg.mchGstatus 4 4 p.cellType

/-- Populated channels (R174). -/
def State.popChannels (s : State) : List Nat := (List.range 32).filter s.channelMask.testBit

/-- Binds a profile: every populated channel is brought up again before the binding is complete (R185). -/
def State.bindProfile (s : State) (b : List Byte) : State :=
  let t := s.setProfile (readProfile b)
  let chs := t.popChannels
  let t : State := { t with mch := { t.mch with binding := chs },
                            sec := { t.sec with lastBind := if chs.isEmpty then .ok else .running } }
  if chs.isEmpty then t.raise Reg.mchEvent 6 else chs.foldl (fun u c => u.startBringup c) t

end Sys2Proof.Machine
end

