-- ==== Sys2Proof/Machine/Security.lean ====
section
/-! DEFINITION. The Security block (chapter 11): SPDM over DOE (R433 to R436), management sessions (R437 to R445) and
their requests (Table 11-5). Response, capability and error codes are those of the SPDM standard (PRESUMED); a transcript
of several messages is named by the fields that the answered request carries. -/
namespace Sys2Proof.Machine

/-! ## Answers -/

/-- An SPDM response on the DOE mailbox: its code and fields, then its bytes. -/
def State.spdm (s : State) (code : Nat) (vals : List Nat) (bytes : List Byte := []) : State :=
  let t := s.emit (.resp 0 code vals)
  (if bytes.isEmpty then t else t.emit (.bytes 0 bytes)).doeReady

/-- ERROR, with its code: 1 InvalidRequest, 2 InvalidSession, 6 DecryptError, 7 UnsupportedRequest,
10 SessionLimitExceeded. -/
def State.spdmError (s : State) (code : Nat) : State := s.spdm 0x7F [code]

/-- The certificate chain in an SPDM slot (Table 11-2): slot 1 exists once the device is claimed. -/
def State.chain (s : State) (slot : Nat) : Option (List Byte) :=
  match slot, s.sec.claim with
  | 0, _ => some (Config.certChain 0 [] none)
  | 1, some c => some (Config.certChain 1 c.mtrKey c.second)
  | _, _ => none

/-! ## SPDM requests (R433 to R435, R441) -/

/-- The capability flags of Table 11-3. -/
def spdmCaps : Nat := 2 + 4 + 2 * 8 + 32 + 64 + 128 + 512 + 1024

/-- The digests of the chains that are present. -/
def State.digests (s : State) : State :=
  s.spdm 0x01 [if s.sec.claim.isSome then 3 else 1] (([0, 1].filterMap s.chain).flatMap sha256)

/-- A portion of a chain. -/
def State.certificate (s : State) (slot off len : Nat) : State :=
  match s.chain slot with
  | some c => if off < c.length then s.spdm 0x02 [slot, c.length - off - (sub c off len).length] (sub c off len) else s.spdmError 1
  | none => s.spdmError 1

/-- CHALLENGE_AUTH, signed by the identity key; slot 1 signs nothing (R433). -/
def State.challengeAuth (s : State) (slot : Nat) (nonce : List Byte) : State :=
  if slot ≠ 0 then s.spdmError 1
  else
    let body := sha256 ((s.chain 0).getD []) ++ nonce
    s.spdm 0x03 [0] (body ++ Config.ecdsaSign (3 :: body))

/-- The value of a measurement (Table 11-4). -/
def State.measurement (s : State) (i : Nat) : List Byte :=
  if i = 1 then fitBytes 32 Config.romDigest
  else if i = 2 then fitBytes 32 ((s.sec.running.map (·.bodyDigest)).getD [])
  else if i = 3 then fitBytes 32 (if s.inRun ∨ s.prxState = 2 then (s.prx.active.map (·.imageDigest)).getD [] else [])
  else if i = 4 then fitBytes 32 ((s.mch.profile.map (·.digest)).getD [])
  else leBytes (if s.sec.claim.isSome then 1 else 0) 1 ++ leBytes s.sec.rollback 1 ++
    leBytes ((s.sec.running.map (·.svn)).getD 0) 1 ++ [0]

/-- A measurement block in the DMTF format. -/
def State.measurementBlock (s : State) (i : Nat) : List Byte :=
  let v := s.measurement i
  let ty := if i = 1 then 0 else if i = 2 then 1 else if i = 5 then 0x83 else 3
  leBytes i 1 ++ leBytes 1 1 ++ leBytes (v.length + 3) 2 ++ leBytes ty 1 ++ leBytes v.length 2 ++ v

/-- MEASUREMENTS, signed (R435): index 0 asks for the number of blocks, 255 for all. -/
def State.measurements (s : State) (index : Nat) (nonce : List Byte) : State :=
  let give (l : List Nat) : State :=
    let body := l.flatMap s.measurementBlock ++ nonce
    s.spdm 0x60 [if index = 0 then 5 else l.length] (body ++ Config.ecdsaSign (0x60 :: body))
  if index = 0 then give [] else if index = 255 then give [1, 2, 3, 4, 5] else if index ≤ 5 then give [index] else s.spdmError 1

/-- KEY_EXCHANGE (R433, R434): a session that FINISH completes. -/
def State.keyExchange (s : State) (slot : Nat) (pub : List Byte) : State :=
  if slot ≠ 0 then s.spdmError 1
  else if 4 ≤ s.sec.sessions.length then s.spdmError 10
  else
    let id := s.sec.nextSess
    (s.openSession false false).spdm 0x64 [id] (Config.ecdsaSign (0x64 :: sha256 ((s.chain 0).getD []) ++ pub))

/-- FINISH: a wrong MAC ends the session. -/
def State.finishSession (s : State) (id : Nat) (macOk : Bool) : State :=
  match s.sess? id with
  | some x =>
    if x.psk ∨ x.ready then s.spdmError 1
    else if macOk then
      State.spdm { s with sec := { s.sec with sessions := s.sec.sessions.map fun y =>
        if y.id = id then { y with ready := true, lastAt := s.now } else y } } 0x65 [id]
    else (s.dropSessions (·.id == id)).spdmError 6
  | none => s.spdmError 2

/-- PSK_EXCHANGE (R441). -/
def State.pskExchange (s : State) (hint : List Byte) : State :=
  match s.sec.claim with
  | none => s.spdmError 1
  | some c =>
    if hint ≠ [] ∧ hint ≠ c.hint then s.spdmError 1
    else if 4 ≤ s.sec.sessions.length then s.spdmError 10
    else
      let id := s.sec.nextSess
      (s.openSession true true).spdm 0x66 [id]

/-- END_SESSION. -/
def State.endOwnSession (s : State) (id : Nat) : State :=
  match s.sess? id with
  | some _ => (s.dropSessions (·.id == id)).spdm 0x6C [id]
  | none => s.spdmError 2

/-- A secured message that is discarded; the session stays open (R442). -/
def State.authFailed (s : State) : State :=
  (State.countErr { s with hpt := { s.hpt with doe := none } } .sec Reg.secAuthFailCnt).raise Reg.secEvent 4

/-- A secured message keeps its session open. -/
def State.touchSession (s : State) (id : Nat) : State :=
  { s with sec := { s.sec with sessions := s.sec.sessions.map fun y => if y.id = id then { y with lastAt := s.now } else y } }

/-- An SPDM request in the mailbox's data object (R356, R434), plain or secured; a secured one keeps its session open, and one whose
session is not open fails authentication (R441, R442). -/
def State.spdmReq (s : State) (f : State → State) : State :=
  match s.hpt.doe with
  | some (1, _) => f s
  | some (2, some id) => if (s.sess? id).isSome then f (s.touchSession id) else s.authFailed
  | _ => s

/-- A secured message of a session is in the mailbox. -/
def State.securedIn (s : State) (id : Nat) : Bool := s.hpt.doe == some (2, some id)

/-- 15 minutes in 2 ns ticks. -/
abbrev sessionLimit : Nat := 15 * 60 * 1000 * 500000

/-- A session without a secured message for 15 minutes ends (R441). -/
def State.sessionExpiry (s : State) (id : Nat) : State :=
  if (s.sess? id).any fun x => decide (x.lastAt + sessionLimit ≤ s.now) then
    (s.dropSessions (·.id == id)).raise Reg.secEvent 2
  else s

/-! ## Management requests (R443 to R445) -/

/-- What a request answers: STATUS (Table 11-6), DETAIL, data. -/
structure MgmtAnswer where
  status : Nat
  detail : Nat := 0
  data   : List Byte := []
deriving DecidableEq, Repr

/-- Sends the response (R443); every status but OK and IN_PROGRESS is counted (R445). -/
def State.mgmtReply (s : State) (opcode seq : Nat) (a : MgmtAnswer) : State :=
  let t := if a.status ≤ 1 then s else (s.countErr .sec Reg.secReqRefusedCnt).raise Reg.secEvent 6
  let head := leBytes 1 1 ++ leBytes opcode 1 ++ leBytes seq 2 ++ leBytes a.status 1 ++ leBytes a.detail 1 ++ leBytes 0 2 ++
    leBytes a.data.length 4
  (t.emit (.bytes 1 (head ++ a.data))).doeReady

/-- A management request in a session: one whose session is not open fails authentication (R442); one that the session's
kind or the lifecycle does not allow is answered STATE (R444); `f` is its effect with its answer. -/
def State.mgmt (s : State) (id opcode seq : Nat) (allowed : State → Sess → Bool) (f : State → State × MgmtAnswer) : State :=
  if ¬ s.securedIn id then s
  else
  match s.sess? id with
  | none => s.authFailed
  | some x =>
    let t := s.touchSession id
    if allowed t x then (f t).1.mgmtReply opcode seq (f t).2 else t.mgmtReply opcode seq { status := 3 }

/-- Every request but CLAIM needs Claimed and a PSK session (R444). -/
def claimedPsk (s : State) (x : Sess) : Bool := s.sec.claim.isSome && x.psk && x.ready

/-- A PSK has 32 bytes, a hint at most 16 (R438). -/
def pskOk (psk hint : List Byte) : Bool := psk.length == 32 && decide (hint.length ≤ 16)

/-- CLAIM (R438). -/
def State.claimDevice (s : State) (id : Nat) (psk hint : List Byte) : State × MgmtAnswer :=
  if ¬ pskOk psk hint then (s, { status := 2 })
  else
    let nonce := fitBytes 16 (Config.randomBytes s.draw 16)
    let key := fitBytes 32 (Config.randomBytes (s.draw + 1) 32)
    let c : ClaimRec := { psk := psk, hint := hint, nonce := nonce, mtrKey := key,
                          second := if s.todValid then some (s.frame / 1000) else none }
    let t : State := { s.drawn.drawn with mcr := { s.mcr with claimedAt := some s.frame }, sec := { s.sec with claim := some c, sysClaim := some nonce } }
    (((t.setBit Reg.secStatus 0 true).showMtrKey.raise Reg.secEvent 3).dropSessions (·.id == id), { status := 0 })

/-- PSK_ROTATE: the PSK for new sessions; every other session ends (R441). -/
def State.rotatePsk (s : State) (id : Nat) (psk hint : List Byte) : State × MgmtAnswer :=
  if ¬ pskOk psk hint then (s, { status := 2 })
  else
    let t : State := { s with sec := { s.sec with claim := s.sec.claim.map fun c => { c with psk := psk, hint := hint } } }
    (t.dropSessions (·.id != id), { status := 0 })

/-- SVN of the running firmware. -/
def State.runningSvn (s : State) : Nat := (s.sec.running.map (·.svn)).getD 0

/-- ROLLBACK_COMMIT (R431). -/
def State.commitRollback (s : State) : State × MgmtAnswer :=
  if s.bit Reg.secStatus 2 then (s, { status := 3 })
  else if s.runningSvn ≤ s.sec.rollback then (s, { status := 0 })
  else
    let t : State := { s with sec := { s.sec with rollback := s.runningSvn } }
    ((t.setField Reg.secStatus 8 8 s.runningSvn).raise Reg.secEvent 7, { status := 0 })

/-- An outcome in two bytes: 0 none, 1 running, 2 ok, 3 failed; and the code. -/
def OpOutcome.bytes : OpOutcome → List Byte
  | .none => [0, 0]
  | .running => [1, 0]
  | .ok => [2, 0]
  | .failed c => [3, BitVec.ofNat 8 c]

/-- QUERY (R445): the outcomes of the last load and binding, and the session count. -/
def State.queryState (s : State) : State × MgmtAnswer :=
  (s, { status := 0, data := s.sec.lastLoad.bytes ++ s.sec.lastBind.bytes ++ leBytes s.sec.sessions.length 1 })

/-- IMAGE_LOAD (R100 to R103, R445). -/
def State.mgmtLoadImage (s : State) (addr : BitVec 64) (len : Word) : State × MgmtAnswer :=
  if s.bit Reg.prxStatus 6 then (s, { status := 4 })
  else
    let t := ((s.setNum Reg.prxLoadAddrLo addr.toNat).setNum Reg.prxLoadAddrHi (addr.toNat / 2 ^ 32)).setReg Reg.prxLoadLen len
    let t := t.loadStart
    if t.bit Reg.prxStatus 6 then
      ({ t with sec := { t.sec with lastLoad := .running, mgmtLoad := true } }, { status := 1 })
    else
      let code := t.field Reg.prxLoadStatus 0 8
      ({ t with sec := { t.sec with lastLoad := .failed code } }, { status := 7, detail := code })

/-- IMAGE_ARM (R104 to R109): switch frame 0 selects R107. -/
def State.mgmtArm (s : State) (frame : BitVec 64) : State × MgmtAnswer :=
  if s.arming then (s, { status := 4 })
  else
    let t := ((s.setNum Reg.prxSwitchFrameLo frame.toNat).setNum Reg.prxSwitchFrameHi (frame.toNat / 2 ^ 32 % 65536)).arm
    if t.arming then (t, { status := 0 }) else (t, { status := 7, detail := t.field Reg.prxArmStatus 0 8 })

/-- IMAGE_DISARM (R110): once the switch is committed the state does not allow it. -/
def State.mgmtDisarm (s : State) : State × MgmtAnswer :=
  if s.arming ∧ s.switchCommitted then (s, { status := 3 }) else (s.disarm, { status := 0 })

/-- TOKEN_TRIM (R166 to R169). -/
def State.mgmtTrim (s : State) (vf dir : Nat) (trim : Word) : State × MgmtAnswer :=
  if 1 < dir then (s, { status := 2 })
  else
    let t := (s.setField Reg.prxTrimSel 0 13 vf).setField Reg.prxTrimSel 16 1 dir
    (t.trim vf dir trim.toNat, { status := 0 })

/-- PROFILE_BIND (R184, R185): in Park alone. R184 gives its conditions no codes: DETAIL is a free value. -/
def State.mgmtBind (s : State) (b : List Byte) : State × MgmtAnswer :=
  if s.mch.binding ≠ [] then (s, { status := 4 })
  else if s.prxState ≠ 0 then (s, { status := 3 })
  else if s.profileOk b then (s.bindProfile b, { status := 1 })
  else
    let d := s.freeVal.toNat % 256
    ({ s.drawn with sec := { s.sec with lastBind := .failed d } }, { status := 7, detail := d })

/-- A namespace that may take a key: it exists and holds no mapped unit (R449). -/
def State.keyless (s : State) (nsid : Nat) : Bool := (s.ns nsid).present && (s.mappedIus nsid).isEmpty

/-- KEY_INSTALL (R447 to R449). -/
def State.mgmtInstall (s : State) (id seq nsid : Nat) (wrapped : List Byte) : State × MgmtAnswer :=
  if wrapped.length ≠ 92 then (s, { status := 2 })
  else if ¬ s.keyless nsid then (s, { status := 6 })
  else
    match Config.unwrapKey id nsid seq wrapped with
    | none => (s.countErr .tcy Reg.tcyUnwrapFailCnt, { status := 5 })
    | some k =>
      let key := fitBytes 64 k
      if key.take 32 = key.drop 32 then (s, { status := 7 })
      else ((s.setKey nsid 2 key).resyncAlone nsid, { status := 0 })

/-- KEY_GENERATE (R449). -/
def State.mgmtGenerate (s : State) (nsid : Nat) : State × MgmtAnswer :=
  if (s.ns nsid).present ∧ (s.ns nsid).paired then (s, { status := 3 })
  else if ¬ s.keyless nsid then (s, { status := 6 })
  else
    let (key, t) := s.newKey
    (t.setKey nsid 1 key, { status := 0 })

/-- Writes a window's shadow set (Table 14-7). -/
def State.writeShadow (s : State) (w : Nat) (v : WindowVals) : State :=
  (((s.setReg (Reg.lpbWinShadowBase w) v.base).setReg (Reg.lpbWinShadowLimit w) (v.limit ||| 0xFFF)).setReg
    (Reg.lpbWinShadowTrans w) v.trans).setReg (Reg.lpbWinShadowCfg w) (v.cfg &&& 0x0FFF001F)

/-- LP_WINDOW: the shadow is written and committed (R564). -/
def State.mgmtWindow (s : State) (w : Nat) (v : WindowVals) : State × MgmtAnswer :=
  if 8 ≤ w then (s, { status := 2 })
  else if s.lpb.drainAt.isSome then (s, { status := 4 })
  else
    let t := (s.writeShadow w v).winCommit
    if t.lpb.drainAt.isSome then (t, { status := 0 }) else (t, { status := 7, detail := t.field Reg.lpbCommitStatus 8 4 })

/-- A board descriptor as its bytes give it (Table 15-3); its CRC is taken over TOTAL_SIZE bytes with its own field 0. -/
def readDesc (b : List Byte) : BoardDesc :=
  let f (o n : Nat) : Nat := rd b o n
  let total := f 8 4
  let dev (k : Nat) : Nat × Nat := (f (f 0x50 4 + 8 * k) 1, f (f 0x50 4 + 8 * k + 1) 1)
  { magic := f 0 4, format := f 4 2, totalSize := total,
    crcOk := decide (0x60 ≤ total) && decide (total ≤ b.length) &&
      (crc32c (b.take 12 ++ List.replicate 4 0 ++ sub b 16 (total - 16))).toNat == f 12 4,
    subsysVid := f 0x10 2, subsysId := f 0x12 2, paired := f 0x14 1, bar4Log2 := f 0x15 1, ddrSpeed := f 0x16 1,
    ddrChannels := f 0x17 1, ddrGib := f 0x18 2, ddrRanks := f 0x1A 1, ddrWidth := f 0x1B 1, channelMask := f 0x1C 4,
    diesPerCh := f 0x20 1, holdupGpio := f 0x21 1, holdupDiv := f 0x22 2, holdupHealthy := f 0x24 2, holdupDump := f 0x26 2,
    holdupLoad := f 0x28 2, smb0Addr := f 0x2A 1, holdupMin := f 0x2C 4, oemKeyDigest := sub b 0x30 32,
    devices := ((List.range 32).map dev).takeWhile fun x => x.1 != 0, vpd := sub b (f 0x54 4) (f 0x58 2) }

/-- The board descriptor lies in the ranges of Table 15-3 (R594); the DRAM fields are matched by training. -/
def descOk (d : BoardDesc) : Bool :=
  d.magic == 0x43534442 && d.format == 1 && decide (d.totalSize ≤ 65536) && d.crcOk && decide (d.paired ≤ 1) &&
    (d.bar4Log2 == 0 || decide (20 ≤ d.bar4Log2 ∧ d.bar4Log2 ≤ 32)) && decide (d.ddrSpeed ≤ 2) &&
    (d.ddrChannels == 1 || d.ddrChannels == 2) && [16, 32, 64, 128].contains d.ddrGib && (d.ddrRanks == 1 || d.ddrRanks == 2) &&
    (d.ddrWidth == 8 || d.ddrWidth == 16) && decide (d.channelMask < 2 ^ 32) && decide (1 ≤ d.diesPerCh ∧ d.diesPerCh ≤ 16) &&
    (decide (d.holdupGpio ≤ 15) || d.holdupGpio == 0xFF) && decide (d.holdupHealthy < 4096) && decide (d.holdupDump < 4096) &&
    decide (d.smb0Addr < 128) && decide (d.vpd.length ≤ 256) && decide (d.devices.length ≤ 32) &&
    d.devices.all (fun x => (x.1 == 1 || x.1 == 2) && decide (x.2 < 128))

/-- In a recovery boot the ROM takes a signed slot image, which it checks and writes to slot A, or a board descriptor, over
UART0 (R429, R598). -/
def State.uartImage (s : State) (img : Option SlotImage) (desc : Option (List Byte)) : State :=
  if s.bit Reg.pwrStatus 4 then
    let t : State := match img with
      | some x => if s.slotOk x then { s with sec := { s.sec with slotA := some x } } else s
      | none => s
    match desc with
    | some b => if descOk (readDesc b) then { t with pwr := { t.pwr with desc := some (readDesc b) } } else t
    | none => t
  else s

/-! ## Meanings -/

def execUartImageRx (img : Option SlotImage) (desc : Option (List Byte)) (s : State) : Result :=
  .next (s.whenLive (·.uartImage img desc))
/-- Version 1.2 alone (R434). -/
def execGetVersion (s : State) : Result := .next (s.whenLive (·.spdmReq (·.spdm 0x04 [0x12])))
def execGetCapabilities (s : State) : Result := .next (s.whenLive (·.spdmReq (·.spdm 0x61 [20, spdmCaps])))
/-- The algorithms of Table 11-3: asymmetric, hash, measurement hash, DHE, AEAD, key schedule. -/
def execNegotiateAlgorithms (s : State) : Result := .next (s.whenLive (·.spdmReq (·.spdm 0x63 [0x10, 1, 2, 8, 2, 1])))
def execGetDigests (s : State) : Result := .next (s.whenLive (·.spdmReq State.digests))
def execGetCertificate (slot offset length : Nat) (s : State) : Result := .next (s.whenLive (·.spdmReq (·.certificate slot offset length)))
def execChallenge (slot : Nat) (nonce : List Byte) (s : State) : Result := .next (s.whenLive (·.spdmReq (·.challengeAuth slot nonce)))
def execGetMeasurements (index : Nat) (nonce : List Byte) (s : State) : Result := .next (s.whenLive (·.spdmReq (·.measurements index nonce)))
def execKeyExchange (slot : Nat) (pub : List Byte) (s : State) : Result := .next (s.whenLive (·.spdmReq (·.keyExchange slot pub)))
def execFinish (session : Nat) (macOk : Bool) (s : State) : Result := .next (s.whenLive fun t => if t.securedIn session then t.finishSession session macOk else t)
def execPskExchange (hint : List Byte) (s : State) : Result := .next (s.whenLive (·.spdmReq (·.pskExchange hint)))
def execEndSession (session : Nat) (s : State) : Result := .next (s.whenLive fun t => if t.securedIn session then t.endOwnSession session else t)
/-- Any other request receives ERROR UnsupportedRequest (R434). -/
def execSpdmUnsupportedRequest (s : State) : Result := .next (s.whenLive (·.spdmReq (·.spdmError 7)))
/-- A secured message fails authentication, or is of another type (R442). -/
def execAuthFail (s : State) : Result := .next (s.whenLive fun t => if t.hpt.doe.any (·.1 == 2) then t.authFailed else t)
def execSessionTimeout (session : Nat) (s : State) : Result := .next (s.whenLive (·.sessionExpiry session))
/-- CLAIM: a KEY_EXCHANGE session, Unclaimed only (Table 11-5). -/
def execClaim (session seq : Nat) (psk hint : List Byte) (s : State) : Result :=
  .next (s.whenLive (·.mgmt session 0x01 seq (fun t x => t.sec.claim.isNone && !x.psk && x.ready) (·.claimDevice session psk hint)))
def execPskRotate (session seq : Nat) (psk hint : List Byte) (s : State) : Result :=
  .next (s.whenLive (·.mgmt session 0x02 seq claimedPsk (·.rotatePsk session psk hint)))
def execRollbackCommit (session seq : Nat) (s : State) : Result :=
  .next (s.whenLive (·.mgmt session 0x03 seq claimedPsk State.commitRollback))
def execQuery (session seq : Nat) (s : State) : Result := .next (s.whenLive (·.mgmt session 0x04 seq claimedPsk State.queryState))
def execImageLoad (session seq : Nat) (addr : BitVec 64) (len : Word) (s : State) : Result :=
  .next (s.whenLive (·.mgmt session 0x10 seq claimedPsk (·.mgmtLoadImage addr len)))
def execImageArm (session seq : Nat) (frame : BitVec 64) (s : State) : Result :=
  .next (s.whenLive (·.mgmt session 0x11 seq claimedPsk (·.mgmtArm frame)))
def execImageDisarm (session seq : Nat) (s : State) : Result :=
  .next (s.whenLive (·.mgmt session 0x12 seq claimedPsk State.mgmtDisarm))
def execPark (session seq : Nat) (s : State) : Result :=
  .next (s.whenLive (·.mgmt session 0x13 seq claimedPsk fun t => (t.parkRequest, { status := 0 })))
def execTokenTrim (session seq vf dir : Nat) (trim : Word) (s : State) : Result :=
  .next (s.whenLive (·.mgmt session 0x14 seq claimedPsk (·.mgmtTrim vf dir trim)))
def execProfileBind (session seq : Nat) (bytes : List Byte) (s : State) : Result :=
  .next (s.whenLive (·.mgmt session 0x20 seq claimedPsk (·.mgmtBind bytes)))
def execKeyInstall (session seq nsid : Nat) (wrapped : List Byte) (s : State) : Result :=
  .next (s.whenLive (·.mgmt session 0x30 seq claimedPsk (·.mgmtInstall session seq nsid wrapped)))
def execKeyGenerate (session seq nsid : Nat) (s : State) : Result :=
  .next (s.whenLive (·.mgmt session 0x31 seq claimedPsk (·.mgmtGenerate nsid)))
def execLpWindow (session seq win : Nat) (v : WindowVals) (s : State) : Result :=
  .next (s.whenLive (·.mgmt session 0x40 seq claimedPsk (·.mgmtWindow win v)))
/-- A malformed header, an unknown opcode or a wrong LENGTH (R445). -/
def execInvalidManagementRequest (session opcode seq : Nat) (s : State) : Result :=
  .next (s.whenLive (·.mgmt session opcode seq (fun _ _ => true) fun t => (t, { status := 2 })))

end Sys2Proof.Machine
end

