-- ==== Sys2Proof/Machine/Boot.lean ====
section
/-! DEFINITION. Start-up (chapter 15): what each reset kind clears and keeps (R603), and the boot stages with their
outcomes (R596, R598). -/
namespace Sys2Proof.Machine

/-! ## What a reset leaves (Table 15-5) -/

/-- Causes of PWR_RESET_CAUSE: 0 power-on, 1 boot from Quiet, 2 PERST_N, 3 Hot Reset, 4 Link Disable, 5 PWR_RESET_CTL. A
device reset has one of the last four; it keeps the timebase. -/
abbrev isDeviceReset (cause : Nat) : Bool := decide (2 ≤ cause)

/-- Whether a register outlives a reset of a cause: AOW and the dumps since the claim every reset but the first application
of VDD_AO (Tables 7-8 and 17-2), the FTB block, the rails and the count of device resets a device reset (Tables 15-5 and
15-9). -/
def keepsReg (cause off : Nat) : Bool :=
  (isDeviceReset cause && (decide (0x400000 ≤ off) && decide (off < 0x500000) || off == Reg.pwrRailStatus ||
    off == Reg.pwrDeviceResetCnt)) ||
  (decide (0x1000000 ≤ off) && decide (off < 0x1100000)) || off == Reg.wrpDumpCnt

/-- A die as a boot finds it: its blocks and what the media system area records of it. Frame numbers of an earlier power-up stand
only where they counted from a time of day, as `dated` says. -/
def Die.atBoot (d : Die) (dated : Bool) : Die :=
  { blocks := d.blocks.map fun b =>
      { b with claimed := 0, sample := 0, awaits := false, closedAt := if dated then b.closedAt else 0 }, openHost := d.openHost, openMove := d.openMove,
    spare0 := d.spare0, readOnly := d.readOnly, lastWl := if dated then d.lastWl else d.lastWl.map fun _ => 0,
    days := d.days, scrubFrom := if dated then d.scrubFrom else 0, scrubDone := d.scrubDone, dumpA := d.dumpA, dumpB := d.dumpB,
    erasedA := d.erasedA, erasedB := d.erasedB }

/-- A namespace as a boot finds it: what was under way on it has ended. -/
def Ns.atBoot (n : Ns) : Ns :=
  if n.creating.isSome then {}
  else { n with detaching := false, detachFor := none, erasing := false, eraseFor := none, eraseTo := none, deleting := false,
                heldIo := [], source := false, copied := false, resyncDoneSent := false, resyncDoneGot := false,
                prot := if n.prot = 3 then 2 else n.prot }

/-- Brings the level sources to their pins (R533). -/
def State.relevelAll (s : State) : State := (List.range 21).foldl (fun t k => t.relevel (992 + k)) s

/-- The entries saved before the boot are the first that are written, the oldest first, with RESTORED (R615). -/
def State.restoreLog (s : State) : State :=
  s.pwr.savedLog.reverse.foldl (fun t e => t.logNew { e with restored := true }) s

/-- The registers that survive, and those that follow straps, pins and fuses. -/
def State.bootRegs (s : State) (cause : Nat) : Regs := ⟨s.regs.entries.filter fun e => keepsReg cause e.1⟩

/-- Resets what a reset of a cause clears and starts boot stage 0 (R603, R604 steps 4 and 5). -/
def State.bootFrom (s : State) (cause : Nat) : State :=
  let dev := isDeviceReset cause
  let u := s.mlk.sent.foldl (fun t m => if (t.ns m.nsid).paired then t.markRegions m.nsid m.regions else t) s
  let ftb : Ftb := if dev then s.ftb else {}
  let dated := dev || s.todValid
  let t : State := {
    pending := u.pending, regs := u.bootRegs cause, ftb := ftb,
    mch := { profile := u.mch.profile, dies := u.mch.dies.mapListed fun _ d => d.atBoot dated },
    wrp := { mediaMap := u.wrp.mediaMap, metas := u.wrp.metas, journalSeq := u.wrp.journalSeq, nextWid := u.wrp.nextWid, nextOrder := u.wrp.nextOrder,
             nextStripe := u.wrp.nextStripe, nextPid := u.wrp.nextPid, saved := u.wrp.saved,
             dirty := (u.wrp.dirty ++ u.wrp.ckpts.map fun k => (k.seg, k.since)).map fun d => (d.1, if dev then d.2 else 0) },
    mcr := { holdups := if dated then u.mcr.holdups else [], slows := if dated then u.mcr.slows else [], holdupBad := u.mcr.holdupBad,
             claimedAt := if dev then u.mcr.claimedAt else u.sec.claim.map fun _ => 0, eolDevice := u.mcr.eolDevice, holdupAt := if dev then u.mcr.holdupAt else none,
             holdupEnd := if dev then u.mcr.holdupEnd else none, dayAt := if dev then u.mcr.dayAt else none },
    nss := u.nss.mapListed fun _ n => n.atBoot, evc := { pins := u.evc.pins },
    aow := u.aow, mlk := { stored := u.mlk.stored, sessions := u.mlk.sessions },
    pwr := { straps := u.pwr.straps, perst := if dev then u.pwr.perst else true, desc := u.pwr.desc,
             savedLog := u.pwr.savedLog, shutdownTai := u.pwr.shutdownTai,
             cycles := if dev then u.pwr.cycles else u.pwr.cycles + 1, unsafeStops := u.pwr.unsafeStops },
    sec := { rollback := u.sec.rollback, claim := u.sec.claim, sysClaim := u.sec.sysClaim, slotA := u.sec.slotA,
             slotB := u.sec.slotB, preferB := u.sec.preferB, nextSess := u.sec.nextSess },
    keys := u.keys, mtr := { saved := u.mtr.saved }, out := u.out, draw := u.draw }
  let t := t.setNum Reg.pwrResetCause (cause + if s.wrp.dumped then 16 else 0)
  let t := if dev then t.inc Reg.pwrDeviceResetCnt else t.setNum Reg.pwrRailStatus 0x1FF
  let t := (t.setBit Reg.hptStatus 18 t.pwr.straps.hostSris).setBit Reg.ftbStatus 6 t.pwr.straps.frefSel
  let t := (t.setBit Reg.sppStatus 0 (s.bit Reg.sppStatus 0)).setBit Reg.mcrStatus 6 u.mcr.holdupBad
  let t := if s.mch.mediaPwr then t.mediaOff else t
  (t.restoreLog.relevelAll).emit (.pin .spiRstN false)

/-! ## Stages 0 to 3 (Table 15-4) -/

/-- PWR_STATUS.STAGE. -/
def State.bootStage (s : State) : Nat := s.field Reg.pwrStatus 0 3
def State.setStage (s : State) (k : Nat) : State := s.setField Reg.pwrStatus 0 3 k

/-- The boot stops in a recovery boot (R598): PF0's controller is held at CSTS.CFS = 1. -/
def State.recoveryBoot (s : State) (err : Nat) : State :=
  ((s.setBit Reg.pwrStatus 4 true).setField Reg.pwrStatus 8 4 err).updFn 0 fun x => { x with cfs := true }

/-- Stage 0: straps and fuses are read, and the boot NOR's reset, low since the stage began, ends (R638). -/
def State.romDone (s : State) : State :=
  (((s.emit (.pin .spiRstN true)).setBit Reg.secStatus 0 s.sec.claim.isSome).setField Reg.secStatus 8 8 s.sec.rollback).setStage 1

/-- The boot NOR's parameters are read in 1-1-1 mode at 25 MHz; what follows is read in 1-4-4 mode at the lower of 133 MHz and the
highest rate `mhz` that they list, with the input sample point calibrated (R638). They list its density too (R426). -/
def State.norRead (s : State) (mhz bytes : Nat) : State :=
  let t := s.emit (.nor 1 25)
  State.emit { t with pwr := { t.pwr with norMhz := min 133 mhz, norBytes := bytes, norCal := true } } (.nor 4 (min 133 mhz))

/-- Runs a verified slot (R428). -/
def State.runSlot (s : State) (slotB fallback : Bool) (x : SlotImage) : State :=
  let t : State := { s with sec := { s.sec with running := some x } }
  let t := ((t.setBit Reg.secStatus 1 slotB).setBit Reg.secStatus 2 fallback).setField Reg.secStatus 16 8 x.svn
  (t.setNum Reg.secFwVersion x.fwVersion).setStage 2

/-- A slot's image where the ROM accepts it (R428). -/
def State.accepted (s : State) (x : Option SlotImage) : Option SlotImage := x.filter s.slotOk

/-- Stage 1: the preferred slot first, the other second (R428, R429). -/
def State.firmwareDone (s : State) (a b : Option SlotImage) (prefer : Bool) : State :=
  let known := s.sec.slotA.isSome || s.sec.slotB.isSome
  let t : State := { s with sec := { s.sec with slotA := s.sec.slotA.orElse fun _ => a, slotB := s.sec.slotB.orElse fun _ => b,
                                                preferB := if known then s.sec.preferB else prefer } }
  let pb := t.sec.preferB
  match t.accepted (if pb then t.sec.slotB else t.sec.slotA) with
  | some x => t.runSlot pb false x
  | none =>
    let t := t.countErr .sec Reg.secBootFailCnt
    match t.accepted (if pb then t.sec.slotA else t.sec.slotB) with
    | some x => t.runSlot (!pb) true x
    | none => (t.countErr .sec Reg.secBootFailCnt).recoveryBoot 1

/-- Stage 2: the board descriptor (R594) says whether the board is paired (R466). -/
def State.hostDone (s : State) (b : List Byte) : State :=
  let d := s.pwr.desc.getD (readDesc b)
  if descOk d then
    (State.setBit { s with pwr := { s.pwr with desc := some d } } Reg.mlkStatus 0 (d.paired == 1)).setStage 3
  else s.recoveryBoot 2

/-- The stored profile is verified and the populated channels brought up, or refused with NO_PROFILE (R186, R187). -/
def State.mediaBegin (s : State) (stored : List Byte) : State :=
  let b := ((s.mch.profile.map (·.bytes)).getD stored)
  let t : State := State.setBit { s with mch := { s.mch with mediaPwr := true, profile := none } } Reg.sppStatus 5 true
  let t := t.emit (.pin .mediaPwrEn true)
  if 64 ≤ b.length ∧ s.profileSigned b then
    (t.popChannels).foldl (fun u c => u.startBringup c) (t.setProfile (readProfile b))
  else (t.popChannels).foldl (fun u c => u.refuseCh c 1 0) t

/-- Stage 3: DRAM is trained, again after a device reset (R611), and matches the descriptor (R594, R600); SRAM is initialised; media
power comes on. -/
def State.memoriesDone (s : State) (trained : Bool) (gib channels ranks width : Nat) (stored : List Byte) : State :=
  let found (d : BoardDesc) : Bool := d.ddrGib == gib && d.ddrChannels == channels && d.ddrRanks == ranks && d.ddrWidth == width
  if ¬ trained then (s.raiseLog .ddr Reg.ddrEvent 3).recoveryBoot 3
  else if s.pwr.desc.any found then
    let t : State := { s with pwr := { s.pwr with patrolAt := s.now, scrubAt := s.now } }
    let t := (t.when (isDeviceReset (t.field Reg.pwrResetCause 0 4)) (·.domainReset Reg.pwrDomainSeen 10)).setNum Reg.ddrStatus
      (1 + channels * 2 + gib * 65536)
    ((t.setBit Reg.srmStatus 0 true).setStage 4).mediaBegin stored
  else s.recoveryBoot 4

/-! ## Stage 4 -/

/-- A claim reset (R440): every namespace is crypto-erased, and the PSK, the metering key and the chain heads are
destroyed. What a dump saved of the namespaces' data goes with their keys, and no unit is mapped on media. -/
def State.claimReset (s : State) : State :=
  let nss := (s.nss.entries.filter (·.2.present)).map (·.1)
  let t := nss.foldl (fun t n => t.cryptoErase n true) s
  let t : State := { t with sec := { t.sec with claim := none, sysClaim := none }, mcr := { t.mcr with claimedAt := none },
                            mtr := { t.mtr with saved := none, heads := {}, minute := none, counts := {} },
                            wrp := { t.wrp with saved := t.wrp.saved.map fun d => { d with writes := [], tail := [] }, mediaMap := {} } }
  (((t.setBit Reg.secStatus 0 false).setBit Reg.secStatus 3 true).setNum Reg.wrpDumpCnt 0).showMtrKey

/-- Chains of which the head cannot be recovered start again (R457). -/
def State.chainsLost (s : State) (n : Nat) : State :=
  if n = 0 then s else ((s.inc Reg.mtrChainRestartCnt n).logAt .mtr (Block.mtr.codeOf Reg.mtrChainRestartCnt) 0xFFFF 0xFFFF []).raise Reg.mtrEvent 2

/-- The lifecycle check (R439): what is bound to another claim nonce is zeroised; records in disagreement act as a claim
reset. -/
def State.lifecycleCheck (s : State) (nonceOk agree : Bool) : State :=
  let gone := (s.mtr.saved.map fun m => m.2.2.entries.length).getD 0
  let bare : State :=
    { s with keys := {}, mtr := { s.mtr with saved := s.mtr.saved.map fun m => (m.1, m.2.1, {}) },
             sec := { s.sec with claim := s.sec.claim.map fun c => { c with mtrKey := [] } } }
  let t := if nonceOk then s else bare.chainsLost gone
  if agree ∧ t.sec.claim.map (·.nonce) = t.sec.sysClaim then t else t.claimReset

/-- Firmware programs the hold-up registers from the board descriptor (Table 15-3). -/
def State.programHoldup (s : State) (d : BoardDesc) : State :=
  let t := (s.setField Reg.wrpHoldupCtl 0 12 d.holdupHealthy).setField Reg.wrpHoldupCtl 16 12 d.holdupDump
  (t.setNum Reg.mcrHoldupLoad d.holdupLoad).setNum Reg.mcrHoldupMin d.holdupMin

/-- The extension image is verified: cores 6 and 7 run, or stay in reset (R517, R595). -/
def State.loadExtension (s : State) (x : Option SlotImage) : State :=
  s.setField Reg.evcCoreState 6 2 (if x.any s.extensionOk then 3 else 0)

/-- The stored pair state is read: GRACE with its timer, the stored role and its fence (R468, R469, Table 12-7). A link
that is up by then has come up within the grace period (R654). -/
def State.pairBoot (s : State) : State :=
  if s.pairedBoard then
    let p := s.mlk.stored
    let t := s.setField Reg.mlkGrace 0 8 p.grace
    let t := ((t.setRole p.role).driveFence (p.role != 0)).setPairState 1
    let t : State := { t with mlk := { t.mlk with graceAt := some t.now, bootGrace := true } }
    if t.linkUp ∧ t.mlk.peer.isSome then
      let t : State := { t with mlk := { t.mlk with bootGrace := false, graceAt := none } }
      (t.endSession.unprotectAll.setPairState 3).join.settleRole
    else t
  else s

/-- Stage 4, once every channel is up or refused (R187): lifecycle, extension image, descriptor, keys and pair state. -/
def State.mediaDone (s : State) (nonceOk agree : Bool) (x : Option SlotImage) : State :=
  if s.bit Reg.mchGstatus 1 then s
  else
    let t := (s.lifecycleCheck nonceOk agree).showMtrKey.loadExtension x
    let t := match t.pwr.desc with | some d => t.programHoldup d | none => t
    (t.showSlots.pairBoot).setStage 5

/-! ## Stage 5 (R285, R286, R305, R440, R461) -/

/-- A staged write as the dump restores it: the units not yet verified, without parts that a merge read had still to bring,
STAGED or ACKED. -/
def SWrite.restored (w : SWrite) : Option SWrite :=
  let left := w.units.filter fun u => !w.verified.contains u && (lookupKey u w.legs).isNone
  if w.state = .filling ∨ left.isEmpty then none
  else some { w with origin := if w.from_.isSome then w.origin else .restored, cmd := none, units := left, verified := [], legs := [],
                     mirrorSeq := none, readers := 0, withheld := false, heldOver := false, ackSent := true }

/-- Restores staging from a dump: a write that lacks its partner's MACK sets its regions' change bits (R286, R507), and
every write is destaged as usual. -/
def State.restoreStaging (s : State) (ws : List SWrite) : State :=
  let ws := (ws.filterMap SWrite.restored).map fun w => { w with due := (w.units.map (· / (s.ns w.nsid).parts)).eraseDups }
  let t := State.showStaging { s with wrp := { s.wrp with writes := ws } }
  let t := ws.foldl (fun t w =>
    if (t.ns w.nsid).paired ∧ ¬ w.macked then
      t.markRegions w.nsid ((w.units.map fun u => u / (t.ns w.nsid).parts / 4096).eraseDups)
    else t) t
  ws.foldl (fun t w => t.destage w) t

/-- Sets every block's valid units to what the map names. -/
def State.recount (s : State) : State :=
  let zeroed : State := { s with mch := { s.mch with dies := s.mch.dies.mapListed fun _ d =>
    { d with blocks := d.blocks.map fun b => { b with valid := 0 } } } }
  (s.wrp.map.entries.filter fun e => entryState e.2 == 0).foldl (fun t e =>
    let n := t.ns (e.1 / 2 ^ 36)
    t.addValid (entryLoc n e.2 0) (Int.ofNat n.parts)) zeroed

/-- Loads the map from its checkpoints and the journal on media, and replays the tail of a dump (R286). -/
def State.loadMap (s : State) (tail : List JRec) : State :=
  State.recount { s with wrp := { s.wrp with map := replayTail tail s.wrp.mediaMap } }

/-- Restores the dump (R286): staging, the journal's tail with a TYPE 5 record, and the set is consumed. -/
def State.restoreDump (s : State) (d : Saved) : State :=
  let t := s.popLanes.foldl (fun t l => t.updDie l fun x => { x with dumpA := false, dumpB := false })
    { s.loadMap d.tail with wrp := { (s.loadMap d.tail).wrp with tail := d.tail, saved := none } }
  ((t.restoreStaging d.writes).journal 0 0 1 5).setBit Reg.wrpDumpStatus 1 true

/-- Restores the open minute and the chain heads (R461). Heads that cannot be recovered have their chains start again
(R457): without a saved state, all 4,096 of a claimed device. -/
def State.restoreMetering (s : State) (dirty headsOk : Bool) : State :=
  match s.mtr.saved with
  | some (m, counts, heads) =>
    let t : State := { s with mtr := { s.mtr with minute := m, counts := counts, heads := if headsOk then heads else {},
                                                  restored := dirty && m.isSome, saved := none } }
    if headsOk then t else t.chainsLost heads.entries.length
  | none => if s.sec.claim.isSome then s.chainsLost 4096 else s

/-- Adds to every block the TAI time since the last shutdown or dump, at T_REF, once a time of day is applied (R305). -/
def State.bootAge (s : State) : State :=
  match s.pwr.shutdownTai, s.mch.profile with
  | some sec, some p =>
    if s.todValid ∧ ¬ s.mcr.bootAgeAdded then
      let add := p.aged ((s.frame / 1000 - sec) * 500000000) (Int.ofNat p.tRef)
      s.popLanes.foldl (fun t l => t.ageDie l add) { s with mcr := { s.mcr with bootAgeAdded := true } }
    else s
  | _, _ => s

/-- Stage 5: claim reset where strapped, recovery, and READY in Park (R31, R286, R440, R596). -/
def State.recoveryDone (s : State) (readable headsOk : Bool) (durMs bootMs : Nat) : State :=
  let cold := s.field Reg.pwrResetCause 0 4 ≤ 1
  let t := if cold ∧ ¬ s.pwr.straps.claimResetN then s.claimReset else s
  let clean := t.wrp.saved.any fun d => d.clean && d.marked
  let dump := t.wrp.saved.filter fun d => d.marked && !d.clean && readable
  let t := match dump with
    | some d => t.restoreDump d
    | none => { t.loadMap [] with wrp := { (t.loadMap []).wrp with saved := none } }
  let t := (t.restoreMetering dump.isSome headsOk).bootAge
  let t := if clean then t else (t.setNum Reg.wrpRecoveryTime durMs).raise Reg.wrpEvent 4
  let t := ((t.setBit Reg.pwrStatus 5 clean).setStage 6).setBit Reg.pwrStatus 3 true
  let t : State := { t with pwr := { t.pwr with savedLog := [] } }
  let t := ((t.setNum Reg.pwrBootTime bootMs).raise Reg.pwrEvent 0).settle
  ((t.showReady.showHealth).gcReview).parkWork

/-- A boot stage ends as the facts that decide it say (R596); a recovery boot and a device reset in progress stop it. -/
def State.stageEnd (s : State) (f : StageFacts) : State :=
  if s.bit Reg.pwrStatus 4 ∨ s.pwr.resetting.isSome then s
  else
    match s.bootStage, f with
    | 0, .rom => s.romDone
    | 1, .firmware a b p mhz n => (s.norRead mhz n).firmwareDone a b p
    | 2, .host d => s.hostDone d
    | 3, .memories tr gib ch ranks width prof => s.memoriesDone tr gib ch ranks width prof
    | 4, .media nonce agree x => s.mediaDone nonce agree x
    | 5, .recovery r h ms boot => s.recoveryDone r h ms boot
    | _, _ => s

/-- Straps sampled (R591). -/
def State.sampleStraps (s : State) (x : Straps) : State := { s with pwr := { s.pwr with straps := x } }

/-- The internal power-on reset releases: from off, or out of Quiet (R539, R591, Table 15-5). -/
def State.powerOn (s : State) (x : Straps) : State :=
  match s.pwr.supply with
  | .on => s
  | .quiet =>
    let t := (s.sampleStraps x).bootFrom 1
    ((t.setBit Reg.aowStatus 0 true).raise Reg.aowEvent 0).inc Reg.aowWakeCnt
  | .watchOnly => (s.sampleStraps x).bootFrom 0
  | .off => ((State.resetRange { s with aow := {} } 0x1000000 0x1100000).sampleStraps x).bootFrom 0

def execPowerOnReset (frefSel hostSris pairId lpVsel claimResetN : Bool) (s : State) : Result :=
  .next (s.powerOn { frefSel := frefSel, hostSris := hostSris, pairId := pairId, lpVsel := lpVsel, claimResetN := claimResetN })
def execBootStageEnd (f : StageFacts) (s : State) : Result := .next (s.whenLive (·.stageEnd f))

end Sys2Proof.Machine
end

