-- ==== Sys2Proof/Machine/Power.lean ====
section
/-! DEFINITION. Resets, power states, memory errors and the log's consumer index (chapter 15): R601 to R607, R614, R643. -/
namespace Sys2Proof.Machine

/-! ## Device reset (R603 to R605) -/

/-- A trigger of a device reset, with its cause: step 1 (R604) stops fetch, host DMA and MSI-X, and the sessions end
(R441). While a dump runs, the reset waits for it; a second trigger is ignored (R605). -/
def State.resetBegin (s : State) (cause : Nat) : State :=
  if s.pwr.supply ≠ .on ∨ s.pwr.resetting.isSome ∨ s.pwr.stop = .thermtrip then s
  else if s.pwr.stop = .dump then { s with pwr := { s.pwr with resetting := some cause } }
  else
    let t := ((s.dropSessions fun _ => true).abandonNp (fun _ => true) true).dropCmds fun _ => true
    let t := ((t.endHostLists.migHostLost).doeAbort).discardFilling fun _ => true
    { t with pwr := { t.pwr with resetting := some cause } }

/-- PERST_N falls (R604). -/
def State.perstFall (s : State) : State :=
  if s.pwr.supply = .on ∧ ¬ s.pwr.perst then State.resetBegin { s with pwr := { s.pwr with perst := true } } 2 else s

/-- PERST_N rises: the link leaves its reset, and WAKE_N is released (R538, R592). -/
def State.perstRise (s : State) : State :=
  if s.pwr.supply = .on then State.releaseWake { s with pwr := { s.pwr with perst := false } } else s

/-- Steps 2 to 5 (R604): staging is destaged and the clean mark and the device state are written; a dump that ran
replaces them, and ends first (R605). Before READY there is nothing to save. -/
def State.resetEnd (s : State) : State :=
  match s.pwr.resetting with
  | none => s
  | some cause =>
    match s.pwr.stop with
    | .thermtrip => s
    | .dump => if s.bit Reg.wrpStatus 5 then s.bootFrom cause else s
    | .none =>
      if ¬ s.bit Reg.pwrStatus 3 then s.bootFrom cause
      else if s.destaged then s.cleanMark.bootFrom cause
      else s

/-! ## Power states (R33, R606) -/

/-- PME_Turn_Off: command fetch stops for every function. -/
def State.turnOffRx (s : State) : State :=
  State.raise { s with pwr := { s.pwr with turnOff := true } } Reg.pwrEvent 4

/-- A command that has been fetched and can complete: Asynchronous Event Requests wait for events, and in Park an I/O
command that was not admitted stays queued (R32, R606). -/
def State.mustComplete (s : State) (x : Cmd) : Bool :=
  if x.admin then x.op != opAer else s.inRun || x.admitted || x.status.isSome

/-- Every fetched command is complete and staging is destaged: the clean mark, PME_TO_Ack and READY_TO_PULL (R33, R606). -/
def State.turnOffAck (s : State) : State :=
  if s.pwr.turnOff ∧ ¬ s.pwr.l23 ∧ ¬ s.cmds.any s.mustComplete ∧ s.destaged then
    let t := ((s.when (s.bit Reg.pwrStatus 3) State.cleanMark).emit (.host 1 0 0)).readyToPull
    { t with pwr := { t.pwr with l23 := true } }
  else s

/-- The main rails go with VDD_AO kept: Quiet out of L2/L3 Ready (R33, R537); a power loss otherwise, after which Watch
alone has power, and only what a dump or an unchanged clean shutdown saved is left. -/
def State.railsRemoved (s : State) : State :=
  if s.pwr.supply ≠ .on then s
  else if s.pwr.l23 then
    let t := s.latchWatch.mediaOff
    { t with pwr := { t.pwr with supply := .quiet } }
  else
    let keep := s.wrp.saved.filter fun d => d.marked && (!d.clean || (decide (d.tail = s.wrp.tail) && s.destaged))
    { s with pwr := { s.pwr with supply := .watchOnly }, wrp := { s.wrp with saved := keep },
             mtr := { s.mtr with saved := if keep.isSome then s.mtr.saved else none } }

/-- A rail leaves its limits while running (R627, Table 15-9). -/
def State.railLost (s : State) (rail : Nat) : State :=
  if s.pwr.supply = .on ∧ rail < 9 ∧ s.bit Reg.pwrRailStatus rail then
    (s.setBit Reg.pwrRailStatus rail false).raiseLog .pwr Reg.pwrEvent 3 rail
  else s

/-- A sensor site reaches 115 °C (R40, R643, R644): media and host activity stop; a dump that runs goes on. -/
def State.tripped (s : State) : State :=
  if s.pwr.supply = .on ∧ s.pwr.stop ≠ .thermtrip then
    let t := s.emit (.pin .thermtripN false)
    if t.pwr.stop = .dump then t else { t with pwr := { t.pwr with stop := .thermtrip } }
  else s

/-! ## Memory errors (R601, R602) -/

/-- Repeats an action. -/
def repeatOn : Nat → (State → State) → State → State
  | 0, _, s => s
  | n + 1, f, s => repeatOn n f (f s)

/-- The data an uncorrectable error hit (R602): a unit in staging is marked unreadable, and asked of the joined partner
(R511), whose write takes its place; a core's code or data; a Host Port buffer (R359); a map entry, rebuilt (R212). Other data fails the operation
that holds it, which the command for that operation's end says. -/
def State.memoryHit (s : State) : MemHit → State
  | .staged wid unit =>
    match s.wrp.writes.find? fun w => w.wid == wid && w.units.contains unit with
    | none => s
    | some w =>
      let n := s.ns w.nsid
      let t := s.updWrite wid fun x => { x with bad := if x.bad.contains unit then x.bad else x.bad ++ [unit] }
      t.when (n.paired && n.prot == 1 && s.joined) (·.send (.repairReq w.nsid (unit / n.parts) (unit % n.parts)))
  | .core c => s.raiseFault c 3
  | .hostBuffer => s.aerUnc 0 22
  | .map => (s.countErr .rdp Reg.rdpMapEccCnt).raise Reg.rdpEvent 3
  | .other => s

/-- A pass is due: its period has passed since the last one (R601), or its self-test runs (R602). -/
def State.passDue (s : State) (since period test : Nat) : Bool :=
  decide (since + max 1 period * 500000000 ≤ s.now) || (s.testRunning == some test && !s.mcr.testPass)

/-- A pass of a self-test is over. -/
def State.passOver (s : State) (test : Nat) : State :=
  if s.testRunning = some test then { s with mcr := { s.mcr with testPass := true } } else s

/-- A patrol pass over DRAM (R601, R602): once in DDR_PATROL_PERIOD hours. -/
def State.dramPatrol (s : State) (corrected : Nat) (ue : Option (Nat × MemHit)) : State :=
  if s.bit Reg.ddrStatus 0 ∧ s.passDue s.pwr.patrolAt (3600 * max 1 (s.field Reg.ddrPatrolPeriod 0 16)) 2 then
    let t := repeatOn corrected (fun u => (u.countErr .ddr Reg.ddrCeCnt).raise Reg.ddrEvent 0) s
    let t := match ue with
      | some (addr, hit) =>
        let u := (t.setNum Reg.ddrErrAddrLo addr).setNum Reg.ddrErrAddrHi (addr / 2 ^ 32)
        ((u.countErr .ddr Reg.ddrUeCnt 0xFFFF 0xFFFF [u.reg Reg.ddrErrAddrLo, u.reg Reg.ddrErrAddrHi]).raise Reg.ddrEvent 1).memoryHit hit
      | none => t
    let t : State := { t with pwr := { t.pwr with patrolAt := t.now } }
    ((t.inc Reg.ddrPatrolCnt).raise Reg.ddrEvent 2).passOver 2
  else s

/-- A scrub pass over SRAM (R601, R602): once in SRM_SCRUB_PERIOD seconds. -/
def State.sramScrub (s : State) (corrected : Nat) (ue : Option (Nat × MemHit)) : State :=
  if s.bit Reg.srmStatus 0 ∧ s.passDue s.pwr.scrubAt (s.field Reg.srmScrubPeriod 0 16) 3 then
    let t := repeatOn corrected (fun u => (u.countErr .srm Reg.srmCeCnt).raise Reg.srmEvent 0) s
    let t := match ue with
      | some (addr, hit) =>
        let u := t.setNum Reg.srmErrAddr addr
        ((u.countErr .srm Reg.srmUeCnt 0xFFFF 0xFFFF [u.reg Reg.srmErrAddr]).raise Reg.srmEvent 1).memoryHit hit
      | none => t
    let t : State := { t with pwr := { t.pwr with scrubAt := t.now } }
    (t.raise Reg.srmEvent 2).passOver 3
  else s

/-! ## The log's consumer index (R614) -/

/-- The value a write of PWR_EVLOG_CONS takes. -/
def evlogCons (prod v : Nat) : Nat :=
  let d := (prod + 2 ^ 32 - v) % 2 ^ 32
  if d ≤ logSize then v else if 2 ^ 31 < d then prod else (prod + 2 ^ 32 - logSize) % 2 ^ 32

def State.consWrite (s : State) (v : Word) : State := s.setNum Reg.pwrEvlogCons (evlogCons (s.num Reg.pwrEvlogProd) v.toNat)

/-! ## Meanings -/

def execPerstAssert (s : State) : Result := .next s.perstFall
def execPerstDeassert (s : State) : Result := .next s.perstRise
/-- A Hot Reset, or a DL_Down caused by Link Disable (R603). -/
def execHotReset (linkDisable : Bool) (s : State) : Result := .next (s.resetBegin (if linkDisable then 4 else 3))
def execPwrResetDevice (by_ : Requester) (s : State) : Result := .next (s.byCore by_ Reg.pwrResetCtl (·.resetBegin 5))
def execDeviceResetShutdownDone (s : State) : Result := .next s.resetEnd
def execDramPatrolDue (corrected : Nat) (uncorrectable : Option (Nat × MemHit)) (s : State) : Result :=
  .next (s.whenLive (·.dramPatrol corrected uncorrectable))
def execSramScrubDue (corrected : Nat) (uncorrectable : Option (Nat × MemHit)) (s : State) : Result :=
  .next (s.whenLive (·.sramScrub corrected uncorrectable))
def execPmeTurnOff (s : State) : Result := .next (s.whenLive State.turnOffRx)
def execPmeToAck (s : State) : Result := .next (s.whenLive State.turnOffAck)
def execMainRailsRemoved (s : State) : Result := .next s.railsRemoved
def execRailFault (rail : Nat) (s : State) : Result := .next (s.railLost rail)
def execThermtrip (s : State) : Result := .next s.tripped
def execEvlogConsWrite (v : Word) (s : State) : Result := .next (s.whenLive (·.consWrite v))

end Sys2Proof.Machine
end

