-- ==== Sys2Proof/Machine/Frame.lean ====
section
/-! DEFINITION. Frame edges and steps of the frame counter (chapter 2): what the edge of R49 does in every block, FPPS
edges with the phase step (R62), the load of a time of day (R53, R54), minutes (R65, R67), and heartbeats (R68, R491). -/
namespace Sys2Proof.Machine

/-! ## Steps of the frame counter (R50, R67) -/

/-- The metering minute of a frame (R65). -/
def minuteOf (frame : Nat) : Nat := frame / 60000

/-- MINUTE is set where a frame is a minute edge (R65). -/
def State.minuteEvent (s : State) : State := if s.frame % 60000 = 0 then s.raise Reg.ftbEvent 9 else s

/-- The frame numbers that the device measures elapsed frames from, moved with the counter when it steps; those of an earlier
power-up, which lie ahead of the counter, were numbers of the time of day already. -/
def State.shiftFrames (s : State) (delta : Nat) : State :=
  let mv (f : Nat) : Nat := if f ≤ s.frame then f + delta else f
  { s with
    mch := { s.mch with
      dies := s.mch.dies.mapListed fun _ d =>
        { d with tempAt := d.tempAt.map (· + delta), lastWl := d.lastWl.map mv, lostAt := d.lostAt.map mv,
                 scrubFrom := mv d.scrubFrom, calAt := d.calAt.map fun p => (p.1, p.2 + delta),
                 blocks := d.blocks.map fun b => { b with closedAt := mv b.closedAt } },
      trainedC := s.mch.trainedC.mapListed fun _ c => c + delta * 250 },
    tln := { s.tln with goodAt := s.tln.goodAt.mapListed fun _ f => f + delta },
    wrp := { s.wrp with stripes := s.wrp.stripes.map fun x => { x with opened := x.opened + delta } },
    hpt := { s.hpt with rwAt := s.hpt.rwAt + delta },
    mcr := { s.mcr with window := s.mcr.window.map fun x => (x.1 + delta, x.2), beFrame := s.mcr.beFrame + delta,
                        baseAt := s.mcr.baseAt.map (· + delta),
                        holdupAt := s.mcr.holdupAt.map (· + delta), holdupEnd := s.mcr.holdupEnd.map (· + delta),
                        holdupTry := s.mcr.holdupTry.map (· + delta), claimedAt := s.mcr.claimedAt.map (· + delta),
                        holdups := s.mcr.holdups.map fun p => (mv p.1, p.2),
                        slows := s.mcr.slows.map fun p => (mv p.1, p.2),
                        dayAt := s.mcr.dayAt.map (· + delta) } }

/-- Stages admitted to slots that the new frame number passes over or moves ask for their slots again. -/
def State.stepAdms (s : State) : State := (s.prx.adms.filter (!·.started)).foldl (fun t a => t.readmit 0 a) s

/-- The frame counter steps forward to a frame: the open minute's records close, and the next ones cover the rest of the
minute of the new frame (R67). -/
def State.stepFrame (s : State) (f : Nat) : State :=
  let t := s.shiftFrames (f - s.frame)
  let wasOpen := t.mtr.minute.isSome
  let t := t.closeMinute true
  let t : State := { t with ftb := { t.ftb with frame := BitVec.ofNat 48 f } }
  let t := if wasOpen ∨ (t.bit Reg.secStatus 0 ∧ f % 60000 = 0) then t.openMinute (minuteOf f) else t
  t.stepAdms.minuteEvent

/-! ## What begins with a frame -/

/-- A frame that begins outside LOCKED is a holdover frame (R66). -/
def State.holdoverFrame (s : State) : State := if s.ftbState = 1 then s else s.inc Reg.ftbHoldoverFrames

/-- The frame that begins counts to the open minute: as a holdover frame of it (R66), and at a second edge every VF's
mapped capacity is added to its sum (Table 11-7). The first frame of a minute counts once MINUTE_EDGE has opened it. -/
def State.minuteFrame (s : State) : State :=
  if s.mtr.minute.isNone ∨ (s.frame % 60000 = 0 ∧ s.mtr.minute ≠ some (minuteOf s.frame)) then s
  else
    let vfs := (s.nss.entries.filterMap fun e => if e.2.present then e.2.attached else none).eraseDups.filter (· != 0)
    { s with mtr := { s.mtr with
        holdover := s.mtr.holdover + (if s.ftbState = 1 then 0 else 1),
        counts := if s.frame % 1000 = 0 then
            vfs.foldl (fun c v => c.modify v fun m => { m with capSum := m.capSum + s.mappedUnits v }) s.mtr.counts
          else s.mtr.counts } }

/-- The heartbeat this chip sends (R68, R491; Table 12-5). -/
def State.heartbeat (s : State) : Heartbeat :=
  { variant := s.variant, frame := s.frame, tick := s.ftb.tick,
    digest := ((s.prx.active.map (·.phaseDigest)).getD (List.replicate 16 0)).take 16, thermal := s.prx.thermal,
    hostLost := s.hpt.pathLost, skew := s.bit Reg.ftbStatus 8, park := !s.inRun, dumping := s.wrp.dumped }

/-- A frame ends while the link is up: one without a heartbeat is counted (R482, Table 12-13). -/
def State.heartbeatMissed (s : State) : State :=
  if ¬ s.linkUp then s
  else if s.mlk.hbSeen then { s with mlk := { s.mlk with hbSeen := false, hbMiss := 0 } }
  else State.countErr { s with mlk := { s.mlk with hbMiss := s.mlk.hbMiss + 1 } } .mlk Reg.mlkHbMissCnt

/-- Admissions whose command is gone release their slots (R414). -/
def State.purgeAdms (s : State) : State := s.dropAdms fun a => (s.cmd? a.cmd).isNone

/-- The buckets at the edge (R141, R167); at a switch frame the image switch refills them (R142). -/
def State.bucketEdge (s : State) (gcOld : Nat) : State := if s.prx.switchF = some s.frame then s else s.refillAll gcOld

/-- A load of the time of day that is to step the counter at the second edge that now stands or comes within 1 µs (R52 to
R54): the frame that begins takes its number from it. -/
def State.loadAhead (s : State) : Bool :=
  s.bit Reg.ftbTodCtl 0 && s.frame % 1000 == 0 && s.ftb.tick == 0 && decide (s.ftb.todArmAt < s.now) &&
    !s.todRefused s.frame && s.todSecond * 1000 != s.frame

/-- What tells of the frame that begins: the counts of R66 and Table 11-7, and the heartbeat of R68. -/
def State.frameTold (s : State) : State :=
  let t := s.holdoverFrame.minuteFrame
  t.when t.linkUp fun u => u.send (.heartbeat u.heartbeat)

/-- Makes up what waited for the load. -/
def State.releaseBegin (s : State) : State :=
  if s.ftb.heldBegin then State.frameTold { s with ftb := { s.ftb with heldBegin := false } } else s

/-- What every block does as a frame begins. -/
def State.frameBegins (s : State) (gcOld : Nat) : State :=
  let ahead := s.loadAhead
  let t : State := { s with ftb := { s.ftb with heldBegin := ahead } }
  let t := (((t.when (!ahead) (·.holdoverFrame.minuteFrame)).purgeAdms).waMeasure).ckptOld
  let t := ((t.gcReview.gcFactorEdge).bucketEdge gcOld).retryHeld
  let t := (t.armAlone.commit).when (t.linkUp && !ahead) fun u => u.send (.heartbeat u.heartbeat)
  (drainInbound 4096 t).takeTlnCfg.resyncFrame

/-- A minute edge (R65, R455). -/
def State.minuteBegins (s : State) : State :=
  if s.ftb.tick = 0 ∧ s.frame % 60000 = 0 ∧ s.mtr.minute ≠ some (minuteOf s.frame) then
    ((s.raise Reg.ftbEvent 9).minuteEdge (minuteOf s.frame)).minuteFrame
  else s

/-! ## Time of day and FPPS -/

/-- The armed time of day at the second edge (R53 to R55). A step takes its minute with it, and a first load adds the
time the device was off to the blocks' ages (R305). The frame of the step is the first that the new records count, and its
heartbeat carries the new number (R66 to R68). -/
def State.todEdge (s : State) : State :=
  if s.todDue then
    if s.todRefused s.frame then s.todRefuse.releaseBegin
    else
      let t := if s.todSecond * 1000 = s.frame then s else s.stepFrame (s.todSecond * 1000)
      t.todAccept.bootAge.releaseBegin
  else s

/-- Before time passes a load that is due takes effect, and what waited for it is made up. -/
def State.lateBegin (s : State) : State := if s.ftb.heldBegin then s.todEdge.releaseBegin else s

/-- The 500,000th tick ends the frame (R47, R49). -/
def State.frameEdge (s : State) : State :=
  let t := s.lateBegin.heartbeatMissed
  let ftb : Ftb := { t.ftb with frame := t.ftb.frame + 1, tick := 0, clock := t.ftb.clock + (500000 - t.ftb.tick) }
  State.frameBegins { t with ftb := ftb } s.gcFactor

/-- A timebase tick passes with no command waiting (R47): the 500,000th of a frame ends it. Without power, or stopped,
the block's clocks stand. DESIGN CHOICE (notes/assumptions/3.md): time passes only here and at an edge. -/
def State.idleTick (s : State) : State :=
  s.whenLive fun t =>
    let t := if t.ftb.heldBegin ∧ (t.ftbState ≠ 1 ∨ 500 ≤ t.ftb.tick) then t.lateBegin else t
    if t.ftb.tick + 1 < 500000 then
      { t with ftb := { t.ftb with tick := t.ftb.tick + 1, clock := t.ftb.clock + 1 } }
    else t.frameEdge

/-- The phase step of R62: the frame in progress ends at the FPPS edge, and the counter steps to the armed second, or to
the next multiple of 1,000. An armed second whose first frame is the one in progress is refused, since the frame after it
has a higher number (notes/assumptions/94.md). -/
def State.phaseStep (s : State) : State :=
  let next := (s.frame / 1000 + 1) * 1000
  let load := s.todPending && !s.todRefused (s.frame + 1)
  let t := s.releaseBegin.heartbeatMissed.stepFrame (if load then s.todSecond * 1000 else next)
  let t : State := { t with ftb := { t.ftb with tick := 0 } }
  let t := if load then t.todAccept.bootAge else if s.todPending then t.todRefuse else t
  t.frameBegins s.gcFactor

/-- An active FPPS edge (R44, R45, R58 to R62, R648). -/
def State.fppsEdge (s : State) (errNs : Int) (sinceNs : Nat) (crystalPpb : Int) : State :=
  if s.ftbState = 1 then s.lockedEdge errNs crystalPpb
  else
    let (t, step) := s.freeEdge errNs sinceNs crystalPpb
    if step then t.phaseStep else t

/-! ## Heartbeats received -/

/-- A heartbeat yields the pair skew, the partner's variant and flags, and its plain-phase digest (R68, R116, R491). -/
def State.heartbeatRx (s : State) (hb : Heartbeat) : State :=
  if s.linkUp then
    let t := s.took 5 0
    let t : State := { t with mlk := { t.mlk with hbSeen := true, hbMiss := 0, peerHostLost := hb.hostLost } }
    let t := if t.prx.peerThermal = (hb.variant == 3) then t else t.peerVariant3 (hb.variant == 3)
    (t.skewMeasured hb).phaseHeartbeat hb.digest hb.park
  else s

def execFppsEdge (errNs : Int) (sinceNs : Nat) (crystalPpb : Int) (s : State) : Result :=
  .next (s.whenLive (·.fppsEdge errNs sinceNs crystalPpb))
def execFrameEdge (s : State) : Result := .next (s.whenLive State.frameEdge)
def execMinuteEdge (s : State) : Result := .next (s.whenLive State.minuteBegins)
def execTodApply (s : State) : Result := .next (s.whenLive State.todEdge)
def execHeartbeatRx (hb : Heartbeat) (s : State) : Result := .next (s.whenLive (·.heartbeatRx hb))

end Sys2Proof.Machine
end

