-- ==== Sys2Proof/Machine/RegRead.lean ====
section
/-! DEFINITION. Reading BAR2 (R13 to R16): the Feature Table (R342), the registers that show other state, and the reads
that have an effect. -/
namespace Sys2Proof.Machine

/-- Two or more fields of a word as numbers, each at its lowest bit (R8). -/
def fields (l : List (Nat × Nat)) : Word := BitVec.ofNat 32 ((l.map fun p => p.2 * 2 ^ p.1).sum)

/-! ## The Feature Table (R342) -/

/-- The register blocks that have an entry, in ascending order of OFFSET. -/
def ftBlocks : List Block :=
  [.hpt, .fnm, .qen, .ftb, .prx, .mch, .rdp, .wrp, .mcr, .tcy, .mtr, .sec, .mlk, .ddr, .evc, .aow, .sdm, .lpb, .tln, .pwr, .srm]

/-- The header's words (Table 9-6). -/
def ftHeader (pairId : Bool) : List Nat :=
  [0x4C425446, 1 + 64 * 2 ^ 16, 16 + 22 * 2 ^ 16, 0x9640 + 0xB0 * 2 ^ 16 + pairId.toNat * 2 ^ 24, 0x40000000, 0, 0x04000000,
   0, 0, 0, 0, 0, 0, 0, 0, 0]

/-- An entry's words (Table 9-7). -/
def ftEntry (id version instances base : Nat) : List Nat := [id, version + instances * 2 ^ 16, base, 0x100000]

/-- BLOCK_ID of a register block. -/
def Block.id (b : Block) : Nat := rd b.name 0 4

/-- The words of the table. -/
def ftWords (pairId : Bool) : List Nat :=
  ftHeader pairId ++ ftEntry 0x4C425446 1 1 0 ++ ftBlocks.flatMap fun b => ftEntry b.id 1 (if b = .mch then 32 else 1) b.base

/-! ## Registers that show other state -/

/-- The index of an indexed register, and of its second index (R647). -/
def regIdx (base stride off : Nat) : Nat := (off - base) / stride

/-- The core of a per-core register, and the channel of an SDM register. -/
def coreOf (off : Nat) : Nat := regIdx 0xF00100 0x20 off
def chanOf (off : Nat) : Nat := regIdx 0x1101000 0x100 off

/-- EVC_COREn_STACK (Table 13-11): DEPTH, FROZEN and TOP. -/
def State.stackWord (s : State) (c : Nat) : Word :=
  fields [(0, (s.stack c).length % 32), (5, (s.stackFrozen c).toNat), (16, (s.stack c).headD 0 % 1024)]

/-- FNM_VF_STATE of the selected VF (Table 10-12); HELD while commands are held (R410). -/
def State.vfStateWord (s : State) : Word :=
  let f := s.vfSel
  let x := s.fn f
  let st := if x.life = .flr then 6 else if ¬ s.fnExists f then 0 else if ¬ x.online then 1
    else match x.life with
      | .active => 2 | .quiescing => 3 | .quiesced => 4 | .freezing => 4 | .frozen => 5 | .flr => 6
  if 1 ≤ f ∧ f ≤ 4096 then
    fields [(0, st), (3, x.bme.toNat), (4, x.d3hot.toNat), (5, ((!x.bme || x.d3hot) && s.outstanding f != 0).toNat), (6, x.enabled.toNat)]
  else 0

/-- MCR_DIE_ registers of the selected lane (chapter 8). -/
def State.dieSel (s : State) : Nat := s.field Reg.mcrDieSel 0 9
def State.dieSelState (s : State) : Nat :=
  let d := s.die s.dieSel
  if d.lost then 4 else if d.readOnly then 3 else if s.sparePct s.dieSel < s.field Reg.mcrSpareLow 0 8 then 2 else 1

/-- MCH_CH_DIE_STATEn (Table 5-8). DESIGN CHOICE: while no operation is current, bits 7:4 keep the count of the last one until
the next begins, which R207 leaves open (notes/assumptions/110.md). -/
def Die.stateWord (d : Die) : Word :=
  fields [(0, (d.run.map (·.kind)).getD 0), (2, match d.susp with | some o => o.kind - 1 | none => 0), (4, min 15 d.suspCount),
          (8, d.lost.toNat)]

/-- TCY_SLOT_STATE of the selected slot (Table 11-10). KCV_MATCH: both check values are known and equal (R452). -/
def State.keySel (s : State) : Nat := s.field Reg.tcySlotSel 0 14 + 1
def State.slotWord (s : State) : Word :=
  let n := s.keySel
  let k := s.keys.get n
  fields [(0, k.state), (2, (s.ns n).paired.toNat), (3, (k.keyed && (lookupKey n s.mlk.kcvs).any (· == kcvOf k.key)).toNat)]
def State.slotKcv (s : State) : BitVec 64 := let k := s.keys.get s.keySel; if k.keyed then kcvOf k.key else 0

/-- MLK_NS_STATE of the selected slot, and MLK_BLOB_STATUS (chapter 12). -/
def State.nsWord (s : State) : Word :=
  let n := s.field Reg.mlkNsSel 0 14 + 1
  let x := s.ns n
  fields [(0, x.prot), (2, (s.readOnlyNs n).toNat), (3, (!x.changed.isEmpty).toNat), (4, x.peerAttached.toNat)]
def State.blobWord (s : State) : Word :=
  let valid := ((List.range 4).map fun b => if s.mlk.blobs.any (·.1 == b) then 2 ^ b else 0).sum
  let vf := ((s.mlk.blobs.find? (·.1 == s.field Reg.mlkBlobSel 0 2)).map (·.2.1)).getD 0
  fields [(0, valid), (8, vf % 8192)]

/-- The replay span of WRP_CKPT_AGE [ms] (R277): since the first change that a dirty segment holds. -/
def State.ckptAge (s : State) : Nat :=
  ((s.wrp.dirty.map (·.2) ++ s.wrp.ckpts.map (·.since)).map fun at_ => (s.now - at_) / 500000).foldl max 0

/-- LPB_STATUS (Table 14-7). -/
def State.lpbStatus (s : State) : Word :=
  fields [(0, s.pwr.straps.lpVsel.toNat), (1, s.lpb.granted.toNat), (2, s.lpbLocked.toNat), (3, min 63 s.postedWaiting)]

/-- The value a register shows, but for what an effect of the read adds and for RsvdP bits. -/
def State.peek (s : State) (off : Nat) : Word :=
  let num (n : Nat) : Word := BitVec.ofNat 32 n
  if off = Reg.ftbFrameLo then num s.frame
  else if off = Reg.wrpCkptAge then num s.ckptAge
  else if off = Reg.wrpJournalSeqLo then num s.wrp.journalSeq
  else if off = Reg.mcrHoldupAge then num ((s.mcr.holdupEnd.map fun f => (s.frame - f) / 1000).getD 0)
  else if (off = Reg.mcrDiePe ∨ off = Reg.mcrDieBlocks) ∧ ¬ s.populatedLane s.dieSel then 0
  else if off = Reg.mcrDiePe then fields [(0, min 65535 (s.peAvg s.dieSel)), (16, min 65535 (s.peMax s.dieSel))]
  else if off = Reg.mcrDieBlocks then fields [(0, min 65535 (s.freeBlocks s.dieSel)), (16, min 65535 (s.spareOf s.dieSel))]
  else if off = Reg.mcrDieState then
    if s.populatedLane s.dieSel then fields [(0, s.dieSelState), (8, s.sparePct s.dieSel % 256), (16, s.diePct s.dieSel)] else 0
  else if off = Reg.fnmVfState then s.vfStateWord
  else if off = Reg.fnmVfRes then fields [(0, (s.fn s.vfSel).vq % 128), (8, (s.fn s.vfSel).vi % 128)]
  else if off = Reg.fnmVfOutstanding then num (s.outstanding s.vfSel)
  else if off = Reg.hiuHoldoff then (s.fn (s.field Reg.hiuSel 0 13)).holdoff
  else if off = Reg.tcySlotState then s.slotWord
  else if off = Reg.tcySlotKcvLo then s.slotKcv.setWidth 32
  else if off = Reg.tcySlotKcvHi then (s.slotKcv >>> 32).setWidth 32
  else if off = Reg.mtrLastMinuteLo then num s.mtr.lastMinute
  else if off = Reg.secSerialLo then Config.serial.setWidth 32
  else if off = Reg.secSerialHi then (Config.serial >>> 32).setWidth 32
  else if off = Reg.mlkTxSeq then fields [(0, s.mlk.txSeq % 4096), (16, (s.txBase + 4095) % 4096)]
  else if off = Reg.mlkRxSeq then num (s.mlk.rxSeq % 4096)
  else if off = Reg.mlkReplayDepth then num s.replayDepth
  else if off = Reg.mlkCreditHdr then
    let vc := s.field Reg.mlkCreditSel 0 3
    fields [(0, s.mlk.limit.get (2 * vc) % 65536), (16, s.mlk.consumed.get (2 * vc) % 65536)]
  else if off = Reg.mlkCreditData then
    let vc := s.field Reg.mlkCreditSel 0 3
    fields [(0, s.mlk.limit.get (2 * vc + 1) % 65536), (16, s.mlk.consumed.get (2 * vc + 1) % 65536)]
  else if off = Reg.mlkStatus then setWordField (s.reg off) 10 1 s.pwr.straps.pairId.toNat
  else if off = Reg.mlkNsState then s.nsWord
  else if off = Reg.mlkBlobStatus then s.blobWord
  else if off = Reg.mlkResyncStatus then num (s.pairedNss.filter fun n => (s.ns n).prot == 3).length
  else if off = Reg.mlkEyeResult then num (s.mlk.eyes.get (s.field Reg.mlkEyeSel 0 4))
  else if off = Reg.lpbStatus then s.lpbStatus
  else if 0x1100014 ≤ off ∧ off ≤ 0x110001C then num (s.paceLevel (regIdx 0x1100010 4 off))
  else if 0xF00100 ≤ off ∧ off < 0xF00200 ∧ off = Reg.evcCoreStack (coreOf off) then s.stackWord (coreOf off)
  else if 0xF02000 ≤ off ∧ off < 0xF03000 then
    let n := regIdx 0xF02000 4 off
    setWordField (setWordField (s.reg off) 3 1 (s.srcHeld n).toNat) 4 1 (decide (992 ≤ n)).toNat
  else if 0x1304000 ≤ off ∧ off < 0x1305000 then s.larvisWord (regIdx 0x1304000 4 off)
  else if 0x600000 ≤ off ∧ off < 0x680000 then
    let o := off % 0x4000
    let lane := regIdx 0x600000 0x4000 off * 16 + o % 0x100 / 4
    if 0x100 ≤ o ∧ o < 0x140 then setWordField (s.reg off) 9 1 (s.dieTempStale lane).toNat
    else if 0x200 ≤ o ∧ o < 0x240 then (s.die lane).stateWord
    else s.reg off
  else s.reg off

/-! ## Reads with an effect -/

/-- What a read latches or clears: FTB_FRAME_HI and FTB_CELL (R51), the upper halves of 64-bit values, NEW of a Larvis word
(R585). The always-on count is a free value: no tick of the model moves it. -/
def State.readEffect (s : State) (off : Nat) : State :=
  if off = Reg.ftbFrameLo then
    (s.setNum Reg.ftbFrameHi (s.frame / 2 ^ 32)).setNum Reg.ftbCell (s.ftb.tick / 2000 + s.ftb.tick % 2000 * 65536)
  else if off = Reg.wrpJournalSeqLo then s.setNum Reg.wrpJournalSeqHi (s.wrp.journalSeq / 2 ^ 32)
  else if off = Reg.mtrLastMinuteLo then s.setNum Reg.mtrLastMinuteHi (s.mtr.lastMinute / 2 ^ 32 % 65536)
  else if off = Reg.aowAoCountLo then (s.setReg Reg.aowAoCountHi ((s.freeVal >>> 32).setWidth 32)).drawn
  else if 0x1304000 ≤ off ∧ off < 0x1305000 then s.setBit off 30 false
  else s

/-- The free values in what a read returns: the bits of RsvdP fields, which read undefined (Table 0-2), the always-on count, and
ATTN of SPP_STATUS once the button has been pressed, since no command says when it is released (notes/assumptions/118.md). -/
def State.withFree (s : State) (d : RegDef) (off : Nat) (v : Word) : Word :=
  let x : Word := s.freeVal.setWidth 32
  if off = Reg.aowAoCountLo then x
  else if off = Reg.sppStatus ∧ v.getLsbD 1 then (v &&& ~~~2) ||| (x &&& 2)
  else (v &&& ~~~d.rsvdp) ||| (x &&& d.rsvdp)

/-- Whether a block answers: in a recovery boot only the Feature Table, SEC and PWR do (R598). -/
def State.blockServed (s : State) (off : Nat) : Bool :=
  !s.bit Reg.pwrStatus 4 || off < 0x100000 || decide (0xC00000 ≤ off ∧ off < 0xD00000) || decide (0x1400000 ≤ off ∧ off < 0x1500000)

/-- A 32-bit read of a register by PF0 or a core (R11): the value and what it leaves. Reserved offsets read 0 (R15), and so do
the per-core registers, but for their own core, whose read of the claim register claims (R528, R552). -/
def State.readReg (s : State) (by_ : Requester) (off : Nat) : Word × State :=
  if ¬ s.blockServed off then (0, s)
  else if off < 0x100000 then (BitVec.ofNat 32 ((ftWords s.pwr.straps.pairId).getD (off / 4) 0), s)
  else
    match regDef off with
    | none => (0, s)
    | some d =>
      if d.writer = .own ∧ by_ ≠ .core (coreOf off) then (0, s)
      else if d.writer = .own ∧ off = Reg.evcCoreClaim (coreOf off) then s.claimRead (coreOf off)
      else
        let t := s.readEffect off
        (s.withFree d off (s.peek off), if d.rsvdp = 0 ∧ off ≠ Reg.sppStatus then t else t.drawn)

end Sys2Proof.Machine
end

