-- ==== Sys2Proof/Machine/RegWrite.lean ====
section
/-! DEFINITION. Writing a register (R11, R15 to R17, R136): who may, what its access type stores, and the action that a
write of some registers has. A register whose write is a command of its own acts by the operation of that command. -/
namespace Sys2Proof.Machine

/-! ## Who may (R136, R518, R540, R552, R563, R588) -/

/-- Whether the register takes a write of this requester. -/
def RegDef.takes (d : RegDef) (by_ : Requester) (off : Nat) : Bool :=
  match d.writer with
  | .any => true
  | .core => by_ != .pf0
  | .service => by_ == .core 4 || by_ == .core 5
  | .sdm => ownsChannel by_ (chanOf off)
  | .own => by_ == .core (coreOf off)

/-- Whether core 6 or 7 may read or write there (Table 13-2). -/
def extMay (c off : Nat) (write : Bool) : Bool :=
  extRegRange (coreRegBase + off) 4 write && !(decide (0xF00100 ≤ off ∧ off < 0xF00200) && coreOf off != c)

/-! ## By access type (Table 0-2) -/

/-- What a write leaves in a register: RW bits as written, W1C bits cleared by a 1, everything else as it was. -/
def RegDef.after (d : RegDef) (old v : Word) : Word := (old &&& ~~~(d.rw ||| (d.w1c &&& v))) ||| (v &&& d.rw)

/-- Stores a write by its access type alone. -/
def State.store (s : State) (d : RegDef) (off : Nat) (v : Word) : State := s.setReg off (d.after (s.reg off) v)

/-- The actions of the bits of a value that are 1, in rising order. -/
def State.acts (s : State) (v : Word) (l : List (Nat × (State → State))) : State :=
  l.foldl (fun t a => t.when (v.getLsbD a.1) a.2) s

/-! ## Actions -/

/-- A descriptor whose bytes the model does not hold: free values. -/
def State.freeDesc (s : State) : SdmDesc × State :=
  let f (k : Nat) : BitVec 64 := Config.freeBits (s.draw + k)
  ({ ctl := (f 0).setWidth 32, length := (f 1).setWidth 32, src := f 2, dst := f 3, next := f 4 }, { s with draw := s.draw + 5 })

/-- FTB_CTL (Table 2-6): DPLL_EN cleared is DPLL_DISABLE; the FSYNC monitor off, FSYNC_OK is 0. -/
def State.ftbCtlWrite (s : State) (v : Word) : State :=
  let t := s.setReg Reg.ftbCtl (v &&& 7)
  let t := t.when (s.bit Reg.ftbCtl 0 && !v.getLsbD 0) State.dpllDisable
  t.when (!v.getLsbD 1) fun u => State.setBit { u with ftb := { u.ftb with fsyncAt := none } } Reg.ftbStatus 4 false

/-- EVC_SRC_CFGs: a new polarity shows at once (R533), and the group it leaves may return to IDLE (R534). -/
def State.srcCfgWrite (s : State) (d : RegDef) (n : Nat) (v : Word) : State :=
  let g := s.holdGroupOf n
  let t := (s.store d (Reg.evcSrcCfg n) v).relevel n
  match g with
  | some g =>
    if t.holdGroupOf n ≠ some g ∧ t.field (Reg.evcHoldoff g) 16 2 = 2 ∧ t.field (Reg.evcHoldoff g) 0 16 ≠ 0 ∧
        ¬ t.pendingSources.any (fun m => t.holdGroupOf m == some g) then t.setField (Reg.evcHoldoff g) 16 2 0
    else t
  | none => t

/-- EVC_HOLDOFFg (R534): a group with HOLDOFF 0 is OPEN; one that gets a HOLDOFF is IDLE, or OPEN while a source of it is
pending. -/
def State.holdoffWrite (s : State) (g : Nat) (v : Word) : State :=
  let old := s.field (Reg.evcHoldoff g) 0 16
  let t := s.setField (Reg.evcHoldoff g) 0 16 v.toNat
  if wordField v 0 16 = 0 then t.setField (Reg.evcHoldoff g) 16 2 2
  else if old = 0 then
    t.setField (Reg.evcHoldoff g) 16 2 (if t.pendingSources.any (fun n => t.holdGroupOf n == some g) then 2 else 0)
  else t

/-- HIU_HOLDOFF of the selected function (R406). -/
def State.hiuWrite (s : State) (v : Word) : State :=
  let f := s.field Reg.hiuSel 0 13
  if f ≤ 4096 then s.updFn f fun x => { x with holdoff := v &&& 0xFFFF, coal := none } else s

/-- SPP_CTL (Table 9-18): ATTN_ACK stops the timer; the LEDs follow their fields while no fall-back is active (R374). -/
def State.sppCtlWrite (s : State) (v : Word) : State :=
  let t := s.setReg Reg.sppCtl (v &&& 0x3F)
  let free := !s.bit Reg.sppStatus 3
  let led (lo : Nat) (p : Pin) (t : State) : State :=
    t.when (free && wordField v lo 2 != s.field Reg.sppCtl lo 2) (·.emit (.pin p (wordField v lo 2 != 0)))
  ((led 2 .pwrLed (led 0 .attnLed t))).when (v.getLsbD 8) State.stopAttn

/-- An SDM shadow register while ARM is 1: the write is dropped (R547). -/
def State.shadowWrite (s : State) (d : RegDef) (off : Nat) (v : Word) : State :=
  let ch := chanOf off
  if s.bit (Reg.sdmChArm ch) 0 then s.setBit (Reg.sdmChFlags ch) 0 true else s.store d off v

/-- An SDM channel's register. -/
def State.sdmWrite (s : State) (d : RegDef) (off : Nat) (v : Word) : State :=
  let ch := chanOf off
  let o := (off - 0x1101000) % 0x100
  if o < 0x10 then s.shadowWrite d off v
  else if o = 0x10 then
    s.when (v.getLsbD 0) fun t => let (x, u) := t.freeDesc; u.sdmArm ch x
  else if o = 0x14 then
    s.acts v [(0, (·.sdmAbort ch)), (1, fun t => let (x, u) := t.freeDesc; u.sdmClear ch x)]
  else s.store d off v

/-- LPB_UP_ registers accept a write only while the aperture is off and nothing upstream is outstanding (R572). -/
def State.upWritable (s : State) : Bool := !s.bit Reg.lpbUpSize 31 && s.lpb.upBuf.isEmpty && s.lpb.upReads.isEmpty

/-- A per-core EVC register, written by its own core. -/
def State.coreRegWrite (s : State) (d : RegDef) (off : Nat) (v : Word) : State :=
  let c := coreOf off
  if off = Reg.evcCoreComplete c then s.complete c (wordField v 0 10)
  else if off = Reg.evcCoreStackReset c then s.when (v.getLsbD 0) (·.stackReset c)
  else if off = Reg.evcCoreWdog c then s.watchdogWrite c v
  else s.store d off v

/-- The action of a write, by block. -/
def State.actLow (s : State) (by_ : Requester) (d : RegDef) (off : Nat) (v : Word) : State :=
  if off = Reg.hptContainCtl then
    (s.when (v.getLsbD 0) State.containRelease).when (v.getLsbD 1 && by_ != .pf0) (·.contain 2)
  else if off = Reg.fnmVfCtl then
    s.acts v [(0, State.quiesce), (1, State.resume), (2, State.freeze), (3, State.unfreeze), (4, State.save), (5, State.restore)]
  else if off = Reg.hiuHoldoff then s.hiuWrite v
  else if off = Reg.ftbCtl then s.ftbCtlWrite v
  else if off = Reg.ftbTodSec then s.todSecWrite false v
  else if off = Reg.ftbTodSecHi then s.todSecWrite true v
  else if off = Reg.ftbTodCtl then s.when (v.getLsbD 0) State.todArm
  else if off = Reg.prxLoadCtl then s.acts v [(0, State.loadStart), (1, State.discardStaged)]
  else if off = Reg.prxArm then s.acts v [(0, State.arm), (1, State.disarm)]
  else if off = Reg.prxParkReq then s.when (v.getLsbD 0) State.parkRequest
  else if off = Reg.prxTokenTrim then s.tokenTrim v
  else if 0x600000 ≤ off ∧ off < 0x680000 then
    if off % 0x4000 = 0 then
      let ch := regIdx 0x600000 0x4000 off
      s.acts v [(0, (·.chBringup ch)), (1, (·.chRetire ch))]
    else s.store d off v
  else if off = Reg.wrpMirrorReserve then (s.store d off v).settle
  else if off = Reg.wrpHoldupCtl then (s.store d off v).showHealth
  else if off = Reg.wrpCkptCtl then s.when (v.getLsbD 0) State.checkpointAll
  else if off = Reg.mcrGcLimit ∨ off = Reg.mcrGcFree then (s.store d off v).gcReview
  else if off = Reg.mcrTestCtl then s.acts v [(8, (·.testStart v)), (9, State.testAbort)]
  else if off = Reg.mtrRingCons then (s.store d off v).showRing
  else if off = Reg.mtrArchConsHi then s.archCons v
  else if off = Reg.mlkCmd then
    s.acts v [(0, fun t => t.when (t.pairState == 5 || t.pairState == 1) (·.declareLost 3)), (1, (·.rejoin true)),
              (2, State.speedRetrain), (3, State.linkReset)]
  else if off = Reg.mlkBlobCtl then s.when (v.getLsbD 0) fun t => t.freeBlobBuf (t.field Reg.mlkBlobSel 0 2)
  else s.store d off v

/-- The action of a write, for the blocks from EVC on. -/
def State.actHigh (s : State) (by_ : Requester) (d : RegDef) (off : Nat) (v : Word) : State :=
  if off = Reg.evcCtl then s.setReg Reg.evcCtl (v &&& 0xF01)
  else if off = Reg.evcRing then s.ringWrite by_ (wordField v 0 10)
  else if off = Reg.evcUnpend then s.unpendWrite (wordField v 0 10)
  else if d.writer = .own then s.coreRegWrite d off v
  else if 0xF00400 ≤ off ∧ off < 0xF00500 then s.holdoffWrite (regIdx 0xF00400 4 off) v
  else if 0xF01000 ≤ off ∧ off < 0xF02000 then s.srcCfgWrite d (regIdx 0xF01000 4 off) v
  else if d.writer = .sdm then s.sdmWrite d off v
  else if off = Reg.lpbWinCommit then s.when (v.getLsbD 0) State.winCommit
  else if off = Reg.lpbUpBaseLo ∨ off = Reg.lpbUpBaseHi ∨ off = Reg.lpbUpLocal ∨ off = Reg.lpbUpSize then
    if s.upWritable then s.store d off v else s
  else if 0x1200100 ≤ off ∧ off < 0x1200200 ∧ off % 0x20 = 4 then s.setReg off ((v &&& 0xFFFFF000) ||| 0xFFF)
  else if off = Reg.tlnRingCons then (s.store d off v).showTlnRing
  else if off = Reg.tlnXferCtl then s.xferCtl v
  else if off = Reg.tlnXferReg ∨ off = Reg.tlnXferDataLo ∨ off = Reg.tlnXferDataHi then
    if s.bit Reg.tlnXferCtl 31 then s else s.store d off v
  else if off = Reg.pwrResetCtl then s.when (v.getLsbD 0) (·.resetBegin 5)
  else if off = Reg.pwrEvlogCons then s.consWrite v
  else if off = Reg.sppCtl then s.sppCtlWrite v
  else s.store d off v

/-- A 32-bit write to a register offset by a requester: discarded where the offset is reserved, the block is not served or
the register does not take it; an ACCESS fault where it lies outside the allowance of core 6 or 7 (R15, R519). A W1C bit of `sets`,
which hardware sets in the same core-clock cycle, stays set (R17). -/
def State.writeReg (s : State) (by_ : Requester) (off : Nat) (value sets : Word) : State :=
  let act : State :=
    match regDef off with
    | none => s
    | some d =>
      let v := value &&& ~~~(sets &&& d.w1c)
      if ¬ s.blockServed off ∨ ¬ d.takes by_ off then s
      else if off < 0xF00000 then s.actLow by_ d off v else s.actHigh by_ d off v
  match by_ with
  | .pf0 => act
  | .core c => if 6 ≤ c ∧ ¬ extMay c off true then s.accessFault c (coreRegBase + off) else act

/-- REGISTER_WRITE. -/
def execRegisterWrite (by_ : Requester) (offset : Nat) (v : RegValue) (s : State) : Result :=
  .next (s.whenLive (·.writeReg by_ offset v.value v.sets))

end Sys2Proof.Machine
end

