-- ==== Sys2Proof/Machine/Windows.lean ====
section
/-! DEFINITION. The host's memory requests (R339 to R342, R360, R369): each function's BAR0 window with its NVMe controller
registers (R386), doorbells and MSI-X structures (R406 to R409), and PF0's BAR2 and BAR4/5. -/
namespace Sys2Proof.Machine

/-! ## NVMe controller registers (Table 10-3) -/

/-- CSTS: RDY, CFS, and SHST, which shows a completed shutdown while CC.SHN asks for one (PRESUMED from NVMe Base 2.0). -/
def Fn.csts (x : Fn) : Word := fields [(0, x.rdy.toNat), (1, x.cfs.toNat), (2, if wordField x.cc 14 2 = 0 then 0 else 2)]

/-- A dword of the NVMe controller registers: CAP, VS, INTMS, INTMC, CC, CSTS, AQA, ASQ, ACQ; the rest read 0. -/
def Fn.nvmeReg (x : Fn) (off : Nat) : Word :=
  if off = 0x00 then 0x78010FFF else if off = 0x04 then 0x00400020 else if off = 0x08 then 0x00020000
  else if off = 0x0C ∨ off = 0x10 then x.intms
  else if off = 0x14 then x.cc else if off = 0x1C then x.csts else if off = 0x24 then x.aqa
  else if off = 0x28 then x.asq.setWidth 32 else if off = 0x2C then (x.asq >>> 32).setWidth 32
  else if off = 0x30 then x.acq.setWidth 32 else if off = 0x34 then (x.acq >>> 32).setWidth 32 else 0

/-- A 64-bit register with its lower or upper half written; an admin queue's base has no bits [11:0]. -/
def lowHalf (q : BitVec 64) (v : Word) : BitVec 64 := ((q >>> 32) <<< 32) ||| (v &&& 0xFFFFF000).setWidth 64
def highHalf (q : BitVec 64) (v : Word) : BitVec 64 := (q &&& 0xFFFFFFFF) ||| (v.setWidth 64 <<< 32)

/-- CC written: the other fields are stored, and a change of EN enables or resets the controller (R385, R413). -/
def State.ccWrite (s : State) (f : Nat) (v : Word) : State :=
  let t := s.updFn f fun x => { x with cc := (v &&& 0x00FFFFF0) ||| (x.cc &&& 1) }
  if v.getLsbD 0 then t.ccEnable f else t.ccDisable f

/-- A dword of the controller registers written. A frozen function discards it (R419). -/
def State.nvmeWrite (s : State) (f off : Nat) (v : Word) : State :=
  if (s.fn f).frozenNow then s
  else if off = 0x14 then s.ccWrite f v
  else s.updFn f fun x =>
    if off = 0x0C then { x with intms := x.intms ||| v }
    else if off = 0x10 then { x with intms := x.intms &&& ~~~v }
    else if off = 0x24 then { x with aqa := v &&& 0x0FFF0FFF }
    else if off = 0x28 then { x with asq := lowHalf x.asq v }
    else if off = 0x2C then { x with asq := highHalf x.asq v }
    else if off = 0x30 then { x with acq := lowHalf x.acq v }
    else if off = 0x34 then { x with acq := highHalf x.acq v }
    else x

/-! ## MSI-X (R406, R409) -/

/-- A dword of the MSI-X table: address, data, and Vector Control with the Mask Bit; 65 entries (chapter 10). -/
def Fn.msixDword (x : Fn) (k : Nat) : Word :=
  if 260 ≤ k then 0 else if k % 4 = 3 then BitVec.ofNat 32 (!x.unmasked.get (k / 4)).toNat else BitVec.ofNat 32 (x.msixTab.get k)

/-- A dword of the Pending Bit Array. -/
def Fn.pbaDword (x : Fn) (k : Nat) : Word :=
  BitVec.ofNat 32 (((List.range 32).map fun i => if x.pba.get (32 * k + i) then 2 ^ i else 0).sum)

/-- A dword of the MSI-X table written; unmasking a vector sends its pending message (R409). -/
def State.msixWrite (s : State) (f k : Nat) (v : Word) : State :=
  if 260 ≤ k ∨ (s.fn f).frozenNow then s
  else if k % 4 = 3 then
    if v.getLsbD 0 then s.updFn f fun x => { x with unmasked := x.unmasked.set (k / 4) false } else s.msixUnmask f (some (k / 4))
  else s.updFn f fun x => { x with msixTab := x.msixTab.set k (if k % 4 = 0 then v.toNat / 4 * 4 else v.toNat) }

/-! ## A dword of a window (R13, R15, R339) -/

/-- A dword of a function's BAR0 window, read. -/
def Fn.bar0Dword (x : Fn) (addr : Nat) : Word :=
  if addr < 0x1000 then x.nvmeReg addr else if addr < 0x2000 then 0
  else if addr < 0x3000 then x.msixDword ((addr - 0x2000) / 4)
  else if addr < 0x300C then x.pbaDword ((addr - 0x3000) / 4) else 0

/-- A dword of a function's BAR0 window, written: doorbells of queue `q` lie at 0x1000 + 8 × q, tail before head. -/
def State.bar0Dword (s : State) (f addr : Nat) (v : Word) : State :=
  if addr < 0x1000 then s.nvmeWrite f addr v
  else if addr < 0x2000 then
    let q := (addr - 0x1000) / 8
    if addr % 8 = 0 then s.sqDoorbell f q (wordField v 0 16) else s.cqDoorbell f q (wordField v 0 16)
  else if addr < 0x3000 then s.msixWrite f ((addr - 0x2000) / 4) v
  else s

/-- A dword of BAR0 or BAR2, read and written. -/
def State.dwordRead (s : State) (r : MemReq) (addr : Nat) : Word × State :=
  if r.bar = 0 then ((s.fn r.fn).bar0Dword addr, s) else s.readReg r.by_ addr
def State.dwordWrite (s : State) (r : MemReq) (addr : Nat) (v sets : Word) : State :=
  if r.bar = 0 then s.bar0Dword r.fn addr v else s.writeReg r.by_ addr v sets

/-! ## Requests -/

end Sys2Proof.Machine

namespace Sys2Proof

/-- Naturally aligned, of 32 or 64 bits (R13). -/
def MemReq.aligned (r : MemReq) : Bool := (r.size == 4 && r.addr % 4 == 0) || (r.size == 8 && r.addr % 8 == 0)

/-- No completion answers the request. -/
def MemReq.posted (r : MemReq) : Bool := r.write && !r.atomic

end Sys2Proof

namespace Sys2Proof.Machine

/-- What the answer to a read carries: a completion to the host, or the value to a core. -/
def answerOf (r : MemReq) (data : BitVec 64) : List Out :=
  match r.by_ with
  | .pf0 => [.cpl r.fn 0 data]
  | .core _ => if r.size = 8 then [.read (data.setWidth 32), .read ((data >>> 32).setWidth 32)] else [.read (data.setWidth 32)]

/-- A read of BAR0 or BAR2; of any other size or alignment it returns 0 (R14). A 64-bit read is split, the lower-addressed
register first (R13). -/
def State.windowRead (s : State) (r : MemReq) : State :=
  let give (t : State) (data : BitVec 64) : State := (answerOf r data).foldl (fun t o => t.emit o) t
  if ¬ r.aligned then give s 0
  else
    let (a, t) := s.dwordRead r r.addr
    if r.size = 4 then give t (a.setWidth 64)
    else
      let (b, u) := t.dwordRead r (r.addr + 4)
      give u (b.setWidth 64 <<< 32 ||| a.setWidth 64)

/-- A write to BAR0 or BAR2, likewise. -/
def State.windowWrite (s : State) (r : MemReq) : State :=
  if ¬ r.aligned then s
  else
    let t := s.dwordWrite r r.addr (r.data.setWidth 32) (r.sets.setWidth 32)
    if r.size = 4 then t else t.dwordWrite r (r.addr + 4) ((r.data >>> 32).setWidth 32) ((r.sets >>> 32).setWidth 32)

/-- A control core's access to the register space (R11, R518, R519): outside the allowance of core 6 or 7 it has no effect but the
ACCESS fault. -/
def State.coreRequest (s : State) (c : Nat) (r : MemReq) : State :=
  let may (off : Nat) : Bool := decide (c < 6) || extMay c off r.write
  if may (r.addr / 4 * 4) && (r.size != 8 || may (r.addr / 4 * 4 + 4)) then (if r.write then s.windowWrite r else s.windowRead r)
  else
    let t := s.accessFault c (coreRegBase + r.addr)
    if r.write then t else (answerOf r 0).foldl (fun t o => t.emit o) t

/-- The function has the window: every function BAR0, PF0 alone BAR2 and BAR4/5 (R337, R338). -/
def State.hasWindow (s : State) (r : MemReq) : Bool :=
  r.bar == 0 || (r.fn == 0 && (r.bar == 2 || (r.bar == 4 && s.bar4Size != 0)))

/-- A memory request (R340, R341, R360, Table 9-11). Outside NORMAL only PF0's BAR2 is served. Whether an AtomicOp's compare
fails follows from bytes on the local bus: a free value. -/
def State.memRequest (s : State) (r : MemReq) : State :=
  if ¬ s.dlUp then s
  else
  let s := s.linkBusy
  if r.malformed then ((s.countErr .hpt Reg.hptMalformedCnt).raise Reg.hptEvent 9).aerUnc 0 18
  else if r.poisoned ∧ (r.write ∨ r.atomic) then
    let g := if s.fnExists r.fn then r.fn else 0
    let t := (s.countErr .hpt Reg.hptPoisonCnt 0xFFFF g).aerUnc g 12
    if r.posted then t else t.emit (.cpl r.fn 1 0)
  else if ¬ s.memOk r.fn ∨ ¬ s.hasWindow r ∨ (¬ s.portNormal ∧ r.bar ≠ 2) ∨ (r.atomic ∧ r.bar ≠ 4) then
    s.unsupported r.fn r.posted
  else if r.bar = 4 then
    if r.atomic then
      s.drawn.bar4Request { off := r.addr, size := r.size, write := true, req := 0, atomic := some (s.freeVal.getLsbD 0) }
    else s.bar4Request { off := r.addr, size := r.size, write := r.write, req := 0 }
  else if r.write then s.windowWrite r
  else s.windowRead r

/-- MEM_REQUEST_RX. -/
def execMemRequestRx (r : MemReq) (s : State) : Result :=
  .next (s.whenLive fun t => match r.by_ with | .pf0 => t.memRequest r | .core c => t.coreRequest c r)

end Sys2Proof.Machine
end

