-- ==== Sys2Proof/Machine/CfgSpace.lean ====
section
/-! DEFINITION. Configuration space (R332 to R337, R357, R410 to R412, R597): what each function's registers read as, and
what a write of them does. Capability registers that the specification names without giving their contents read as free
values; the places of fields within the standard structures are those of the PCI Express Base Specification (PRESUMED). -/
namespace Sys2Proof.Machine

/-! ## The lists (Tables 9-2 and 9-3) -/

/-- The extended capabilities of PF0 with their IDs, and of a VF, in the order of their offsets. -/
def extCaps (f : Nat) : List (Nat × Nat) :=
  if f = 0 then
    [(0x100, 0x0001), (0x148, 0x000E), (0x150, 0x0019), (0x180, 0x0025), (0x190, 0x0026), (0x1C0, 0x002A), (0x200, 0x0031),
     (0x220, 0x0032), (0x240, 0x002F), (0x250, 0x001E), (0x260, 0x0018), (0x270, 0x000F), (0x280, 0x0010), (0x2C0, 0x002E),
     (0x2E0, 0x0003), (0x2F0, 0x000B)]
  else [(0x100, 0x0001), (0x148, 0x000E), (0x240, 0x002F), (0x270, 0x000F)]

/-- The header of an extended capability at an offset: its ID and the next pointer; the version is a free value. -/
def extHeader (off : Nat) : List (Nat × Nat) → Option Word
  | [] => none
  | (o, id) :: rest => if o = off then some (fields [(0, id), (20, (rest.head?.map (·.1)).getD 0)]) else extHeader off rest

/-! ## Values -/

/-- A register as a value and the bits of it that are free values. -/
abbrev CfgWord := Word × Word

/-- PF0's BAR registers (Table 9-5): a 64-bit BAR of a size, with its type bits. -/
def barLow (cfg : CfgTab) (off size type : Nat) : Word :=
  if size = 0 then 0 else fields [(0, (cfg.get off).toNat / min size (2 ^ 32) * min size (2 ^ 32) + type)]
def barHigh (cfg : CfgTab) (off size : Nat) : Word := if size = 0 then 0 else cfg.get off

/-- Subsystem Vendor ID and Subsystem ID (Table 9-2). -/
def State.subsystem (s : State) : Word :=
  match s.pwr.desc with
  | some d => fields [(0, d.subsysVid), (16, d.subsysId)]
  | none => 0x00001FA7

/-- The header and the capabilities below 0x100. -/
def State.cfgLow (s : State) (f off : Nat) : CfgWord :=
  let x := s.fn f
  let c := x.cfg
  let pf : Word := if f = 0 then 0xFFFFFFFF else 0
  let k (w : Word) : CfgWord := (w, 0)
  if off = 0x00 then k (if f = 0 then 0x96401FA7 else 0xFFFFFFFF)
  else if off = 0x04 then k ((c.get 4 &&& 0x540) ||| fields [(1, x.mse.toNat), (2, x.bme.toNat), (20, 1)])
  else if off = 0x08 then k 0x010802B0
  else if off = 0x0C then k (c.get 0x0C &&& 0xFF &&& pf)
  else if off = 0x10 then k (barLow c 0x10 0x4000 4 &&& pf)
  else if off = 0x14 then k (barHigh c 0x14 0x4000 &&& pf)
  else if off = 0x18 then k (barLow c 0x18 0x4000000 4 &&& pf)
  else if off = 0x1C then k (barHigh c 0x1C 0x4000000 &&& pf)
  else if off = 0x20 then k (barLow c 0x20 s.bar4Size 12 &&& pf)
  else if off = 0x24 then k (barHigh c 0x24 s.bar4Size &&& pf)
  else if off = 0x2C then k s.subsystem
  else if off = 0x34 then k 0x40
  else if off = 0x3C then k (c.get 0x3C &&& 0xFF &&& pf)
  else if off = 0x40 then k 0xC8035001
  else if off = 0x44 then k ((c.get 0x44 &&& 0x8100) ||| fields [(0, if x.d3hot then 3 else 0), (3, 1)])
  else if off = 0x50 then k (fields [(0, 0x11), (8, 0x60), (16, 64), (30, x.fmask.toNat), (31, x.msixEn.toNat)])
  else if off = 0x54 then k 0x2000
  else if off = 0x58 then k 0x3000
  else if off = 0x60 then k 0x00020010
  else if off = 0x64 then (0x10008022, 0x0FFC0FC0)
  else if off = 0x68 then
    (((c.get 0x68 &&& 0x71FF) &&& (if f = 0 then 0xFFFF else 0xF)) ||| fields [(21, (s.hpt.np.any (·.fn == f)).toNat)], 0x001F0000)
  else if off = 0x6C then (0x00020906, 0xFFFC7000)
  else if off = 0x70 then
    ((c.get 0x70 &&& 0x01CB) ||| fields [(16, s.field Reg.hptStatus 0 3), (20, s.linkWidth)], 0xFC00F000)
  else if off = 0x84 then (if f = 0 then 0x00030993 else 0x00030013, 0x7FF00000)
  else if off = 0x88 then if f = 0 then (c.get 0x88 &&& 0x141F, 0) else (0, 0x141F)
  else if off = 0x8C then (0x7E, 0x7FFFFE00)
  else if off = 0x90 then (c.get 0x90 &&& 0xFFFF, 0xFFFF0000)
  else k 0

/-- Advanced Error Reporting (Table 9-8, R361): a recorded header's contents are free values. -/
def State.cfgAer (s : State) (f off : Nat) : CfgWord :=
  let x := s.fn f
  if off = 0x104 then (x.uncSts, 0)
  else if off = 0x108 then (x.cfg.get 0x108 &&& 0x5FF010, 0)
  else if off = 0x10C then (x.cfg.get 0x10C &&& 0x5FF010, 0)
  else if off = 0x110 then (x.corSts, 0)
  else if off = 0x114 then (x.cfg.get 0x114 &&& 0xF1C1, 0)
  else if off = 0x118 then ((x.cfg.get 0x118 &&& 0x540) ||| (if f = 0 then 0x2A0 else 0xA0), if x.uncSts = 0 then 0 else 0x1F)
  else (0, if x.headers = 0 then 0 else 0xFFFFFFFF)

/-- The SR-IOV structure (Table 9-4, R336, R337, R412, R598). -/
def State.cfgSriov (s : State) (off : Nat) : CfgWord :=
  let c := (s.fn 0).cfg
  let total := if s.bit Reg.pwrStatus 4 then 0 else 4096
  let k (w : Word) : CfgWord := (w, 0)
  if off = 0x284 then (0, 6)
  else if off = 0x288 then k ((c.get 0x288 &&& 0x30) ||| fields [(0, s.vfEnable.toNat), (3, (s.bit Reg.fnmStatus 14).toNat)])
  else if off = 0x28C then k (fields [(0, total), (16, total)])
  else if off = 0x290 then k (fields [(0, s.numVfs)])
  else if off = 0x294 then k 0x00010001
  else if off = 0x298 then k 0x96410000
  else if off = 0x29C then k 0x1F
  else if off = 0x2A0 then k (c.get 0x2A0)
  else if off = 0x2A4 then k (barLow c 0x2A4 0x10000 4)
  else if off = 0x2A8 then k (c.get 0x2A8)
  else k 0

/-- The DOE mailbox (R356): the words of a response object are free values. -/
def State.cfgDoe (s : State) (off : Nat) : CfgWord :=
  if off = 0x2C4 then (1, 0)
  else if off = 0x2C8 then ((s.fn 0).cfg.get 0x2C8 &&& 2, 0)
  else if off = 0x2CC then
    (fields [(0, s.hpt.doe.isSome.toNat), (1, (((s.fn 0).cfg.get 0x2CC).getLsbD 1).toNat), (2, s.hpt.doeErr.toNat),
             (31, s.hpt.doeRdy.toNat)], 0)
  else if off = 0x2D4 then (0, if s.hpt.doeRdy then 0xFFFFFFFF else 0)
  else (0, 0)

/-- A register of a function's configuration space, at a multiple of 4. -/
def State.cfgWord (s : State) (f off : Nat) : CfgWord :=
  let x := s.fn f
  match extHeader off (extCaps f) with
  | some h => (h, 0x000F0000)
  | none =>
    if off < 0x100 then s.cfgLow f off
    else if off < 0x148 then s.cfgAer f off
    else if 0x240 ≤ off ∧ off < 0x250 then
      if off = 0x244 then (0xE, 0x3F0) else if off = 0x248 then (x.cfg.get 0x248 &&& 0x7D, 0) else (0, 0)
    else if 0x270 ≤ off ∧ off < 0x280 then
      if off = 0x274 then ((x.cfg.get 0x274 &&& 0x001F0000) ||| fields [(5, 1), (31, x.ats.toNat)], 0) else (0, 0)
    else if f ≠ 0 ∨ off < 0x154 ∨ 0x308 ≤ off then (0, 0)
    else if off < 0x240 then (0, 0xFFFFFFFF)
    else if off = 0x254 then (0x00210A1F, 0)
    else if off = 0x258 then (x.cfg.get 0x258 &&& 0xE3FFFF0F, 0)
    else if off = 0x25C then (x.cfg.get 0x25C &&& 0xFB, 0)
    else if off = 0x264 then (x.cfg.get 0x264 &&& 0x1FFF1FFF, 0)
    else if 0x280 ≤ off ∧ off < 0x2C0 then s.cfgSriov off
    else if 0x2C0 ≤ off ∧ off < 0x2E0 then s.cfgDoe off
    else if off = 0x2E4 then (Config.serial.setWidth 32, 0)
    else if off = 0x2E8 then ((Config.serial >>> 32).setWidth 32, 0)
    else if off = 0x2F4 then (0x01810001, 0)
    else if off = 0x2F8 then (2, 0)
    else if off = 0x2FC then (fields [(0, 0xB0), (8, s.pwr.straps.pairId.toNat)], 0)
    else (0, 0)

/-! ## Writes -/

/-- Stores a configuration register. -/
def State.setCfg (s : State) (f off : Nat) (v : Word) : State := s.updFn f fun x => { x with cfg := x.cfg.set off v }

/-- Command (R341, R346, R410, R411): Memory Space Enable of PF0, Bus Master Enable, SERR# Enable. -/
def State.commandWrite (s : State) (f : Nat) (v : Word) : State :=
  let t := (s.setCfg f 4 (v &&& 0x540)).updFn f fun x => if f = 0 then { x with mse := v.getLsbD 1 } else x
  if v.getLsbD 2 = (t.fn f).bme then t else if v.getLsbD 2 then t.bmeOn f else t.bmeOff f

/-- PMCSR (R346, R607): PowerState; PME_En and PME_Status of PF0. -/
def State.pmcsrWrite (s : State) (f : Nat) (v : Word) : State :=
  let old := (s.fn f).cfg.get 0x44
  let t := s.when (f == 0) (·.setCfg 0 0x44 ((v &&& 0x100) ||| (old &&& 0x8000 &&& ~~~v)))
  t.powerState f (wordField v 0 2)

/-- MSI-X Message Control (R409): MSI-X Enable and Function Mask. -/
def State.msixCtlWrite (s : State) (f : Nat) (v : Word) : State :=
  (s.updFn f fun x => { x with msixEn := v.getLsbD 31, fmask := v.getLsbD 30 }).msixDrain f

/-- Device Control, with Initiate Function Level Reset. -/
def State.devCtlWrite (s : State) (f : Nat) (v : Word) : State :=
  let t := s.setCfg f 0x68 (v &&& 0x71FF)
  if v.getLsbD 15 then (if f = 0 then t.pfFlr else t.vfFlr f) else t

/-- AER status registers clear where a 1 is written; a header leaves the log with its status bit. -/
def State.aerWrite (s : State) (f off : Nat) (v : Word) : State :=
  if off = 0x104 then
    s.updFn f fun x =>
      let u := x.uncSts &&& ~~~v
      { x with uncSts := u, headers := min x.headers (bitCount u.toNat) }
  else if off = 0x110 then s.updFn f fun x => { x with corSts := x.corSts &&& ~~~v }
  else if off = 0x108 ∨ off = 0x10C then s.setCfg f off (v &&& 0x5FF010)
  else if off = 0x114 then s.setCfg f off (v &&& 0xF1C1)
  else if off = 0x118 then s.setCfg f off (v &&& (if f = 0 then 0x540 else 0x140))
  else s

/-- ATS Control: a function whose ATS Enable falls has its translations flushed (R355). -/
def State.atsWrite (s : State) (f : Nat) (v : Word) : State :=
  let on := (s.fn f).ats
  let t := (s.setCfg f 0x274 (v &&& 0x001F0000)).updFn f fun x => { x with ats := v.getLsbD 31 }
  t.when (on && !v.getLsbD 31) (·.atcFlush f)

/-- SR-IOV Control (R383, R411, R412). A recovery boot has no VF. -/
def State.sriovWrite (s : State) (off : Nat) (v : Word) : State :=
  if off = 0x288 then
    let t := (s.setCfg 0 0x288 (v &&& 0x30)).setBit Reg.fnmStatus 14 (v.getLsbD 3)
    if ¬ v.getLsbD 0 then t.vfEnableClear else if t.bit Reg.pwrStatus 4 then t else t.vfEnableSet
  else if off = 0x290 then
    if s.vfEnable ∨ s.bit Reg.pwrStatus 4 then s
    else if wordField v 0 16 ≤ 4096 then s.setField Reg.fnmStatus 0 13 (wordField v 0 16)
    else (s.setField Reg.fnmStatus 0 13 (s.freeVal.toNat % 4097)).drawn
  else if off = 0x2A0 then s.setCfg 0 off v
  else if off = 0x2A4 then s.setCfg 0 off (v &&& 0xFFFF0000)
  else if off = 0x2A8 then s.setCfg 0 off v
  else s

/-- The data object in the write mailbox: its vendor and type, its length in dwords, of which 0 stands for 2^18, and the session
identifier with which a secured object begins. -/
def State.doeGo (s : State) : State :=
  match s.hpt.doeIn.reverse with
  | h :: n :: _ =>
    let len := wordField n 0 18
    let t : State := { s with hpt := { s.hpt with doeIn := [] } }
    let sess := if wordField h 16 8 = 2 then s.hpt.doeIn.reverse[2]? else none
    t.doeRequest (wordField h 0 16) (wordField h 16 8) (4 * (if len = 0 then 2 ^ 18 else len)) (sess.map (·.toNat))
  | _ => { s with hpt := { s.hpt with doeIn := [], doeErr := true } }

/-- DOE Control, Status and the mailboxes (R356). Reading a response's last word ends Data Object Ready; how many words it
has is a free value. -/
def State.doeWrite (s : State) (off : Nat) (v : Word) : State :=
  if off = 0x2C8 then
    let t := s.setCfg 0 0x2C8 (v &&& 2)
    if v.getLsbD 0 then t.doeAbort else if v.getLsbD 31 then t.doeGo else t
  else if off = 0x2CC then s.setCfg 0 0x2CC ((s.fn 0).cfg.get 0x2CC &&& 2 &&& ~~~v)
  else if off = 0x2D0 then { s with hpt := { s.hpt with doeIn := (v :: s.hpt.doeIn).take 4096 } }
  else if off = 0x2D4 then
    if s.hpt.doeRdy then State.drawn { s with hpt := { s.hpt with doeRdy := s.freeVal.getLsbD 0 } } else s
  else s

/-- A write of a function's configuration register at a multiple of 4; a function in FLR discards it (Table 10-9). -/
def State.cfgWrite (s : State) (f off : Nat) (v : Word) : State :=
  if (s.fn f).life = .flr then s
  else if off = 0x04 then s.commandWrite f v
  else if off = 0x44 then s.pmcsrWrite f v
  else if off = 0x50 then s.msixCtlWrite f v
  else if off = 0x68 then s.devCtlWrite f v
  else if 0x104 ≤ off ∧ off < 0x148 then s.aerWrite f off v
  else if off = 0x274 then s.atsWrite f v
  else if off = 0x248 then s.setCfg f off (v &&& 0x7D)
  else if off = 0x70 then s.setCfg f off (v &&& 0x01CB)
  else if f ≠ 0 then s
  else if off = 0x0C ∨ off = 0x3C then s.setCfg 0 off (v &&& 0xFF)
  else if 0x10 ≤ off ∧ off ≤ 0x24 then s.setCfg 0 off v
  else if off = 0x88 then s.setCfg 0 off (v &&& 0x141F)
  else if off = 0x90 then s.setCfg 0 off (v &&& 0xFFFF)
  else if off = 0x258 then s.setCfg 0 off (v &&& 0xE3FFFF0F)
  else if off = 0x25C then s.setCfg 0 off (v &&& 0xFB)
  else if off = 0x264 then s.setCfg 0 off (v &&& 0x1FFF1FFF)
  else if 0x280 ≤ off ∧ off < 0x2C0 then s.sriovWrite off v
  else if 0x2C0 ≤ off ∧ off < 0x2E0 then s.doeWrite off v
  else s

/-! ## Requests -/

/-- A configuration request is answered with Request Retry Status until stage 2 ends, or the recovery boot stands (R597,
R598). -/
def State.retryStatus (s : State) : Bool := !s.bit Reg.pwrStatus 4 && decide (s.bootStage ≤ 2)

/-- A configuration request (R332, R412, R597). Its offset names a register of 32 bits in 4 KiB. One to a VF that is not
enabled is an Unsupported Request, served in every containment state (Table 9-11). -/
def State.configRequest (s : State) (r : CfgReq) : State :=
  let off := r.offset % 4096 / 4 * 4
  if ¬ s.dlUp then s
  else
  let s := s.linkBusy
  if s.retryStatus then s.emit (.cpl r.fn 3 0)
  else if ¬ s.fnExists r.fn then s.unsupported r.fn false
  else if r.write then (s.cfgWrite r.fn off r.data).emit (.cpl r.fn 0 0)
  else
    let (v, free) := s.cfgWord r.fn off
    let x : Word := s.freeVal.setWidth 32
    (if free = 0 then s else s.drawn).emit (.cpl r.fn 0 (((v &&& ~~~free) ||| (x &&& free)).setWidth 64))

/-- CONFIG_REQUEST_RX. -/
def execConfigRequestRx (r : CfgReq) (s : State) : Result := .next (s.whenLive (·.configRequest r))

end Sys2Proof.Machine
end

