-- ==== Sys2Proof/Machine/Dispatch.lean ====
section
/-! DEFINITION. One arm per command: the meaning each calls. -/
namespace Sys2Proof.Machine

/-- The effect of a command on everything but the queue of waiting commands. -/
def exec (i : Instr) (s : State) : Host.Outcome State Fault Refusal :=
  match i with
  | .frefLost => Sys2Proof.Machine.execFrefLost s
  | .frefGood => Sys2Proof.Machine.execFrefGood s
  | .fppsEdge errNs sinceNs crystalPpb => Sys2Proof.Machine.execFppsEdge errNs sinceNs crystalPpb s
  | .ppsLost => Sys2Proof.Machine.execPpsLost s
  | .fsyncEdge offNs => Sys2Proof.Machine.execFsyncEdge offNs s
  | .fsyncLost => Sys2Proof.Machine.execFsyncLost s
  | .frameEdge => Sys2Proof.Machine.execFrameEdge s
  | .minuteEdge => Sys2Proof.Machine.execMinuteEdge s
  | .todSecWrite hi v => Sys2Proof.Machine.execTodSecWrite hi v s
  | .todArm => Sys2Proof.Machine.execTodArm s
  | .todApply => Sys2Proof.Machine.execTodApply s
  | .dpllDisable => Sys2Proof.Machine.execDpllDisable s
  | .frameCounterRead => Sys2Proof.Machine.execFrameCounterRead s
  | .heartbeatRx hb => Sys2Proof.Machine.execHeartbeatRx hb s
  | .skewRaisedRx => Sys2Proof.Machine.execSkewRaisedRx s
  | .skewClearProposalRx frame => Sys2Proof.Machine.execSkewClearProposalRx frame s
  | .pairSkewClear => Sys2Proof.Machine.execPairSkewClear s
  | .phaseMismatchClear => Sys2Proof.Machine.execPhaseMismatchClear s
  | .prxLoad by_ => Sys2Proof.Machine.execPrxLoad by_ s
  | .imageChecksDone bytes => Sys2Proof.Machine.execImageChecksDone bytes s
  | .prxDiscard by_ => Sys2Proof.Machine.execPrxDiscard by_ s
  | .prxArm by_ => Sys2Proof.Machine.execPrxArm by_ s
  | .armReportRx r => Sys2Proof.Machine.execArmReportRx r s
  | .armWaitTimeout => Sys2Proof.Machine.execArmWaitTimeout s
  | .prxDisarm by_ => Sys2Proof.Machine.execPrxDisarm by_ s
  | .switchCommit => Sys2Proof.Machine.execSwitchCommit s
  | .imageSwitch => Sys2Proof.Machine.execImageSwitch s
  | .prxParkReq by_ => Sys2Proof.Machine.execPrxParkReq by_ s
  | .parkEntered => Sys2Proof.Machine.execParkEntered s
  | .variantSwitch => Sys2Proof.Machine.execVariantSwitch s
  | .junctionTempSample t256 => Sys2Proof.Machine.execJunctionTempSample t256 s
  | .thermalConditionClear => Sys2Proof.Machine.execThermalConditionClear s
  | .stageAdmit c k lane units => Sys2Proof.Machine.execStageAdmit c k lane units s
  | .slotStart b => Sys2Proof.Machine.execSlotStart b s
  | .slotEnd lane => Sys2Proof.Machine.execSlotEnd lane s
  | .dieOpComplete lane durNs r => Sys2Proof.Machine.execDieOpComplete lane durNs r s
  | .driftClear => Sys2Proof.Machine.execDriftClear s
  | .prxTokenTrim by_ v => Sys2Proof.Machine.execPrxTokenTrim by_ v s
  | .cqePost c => Sys2Proof.Machine.execCqePost c s
  | .channelBringupDone ch f => Sys2Proof.Machine.execChannelBringupDone ch f s
  | .mchChBringup by_ ch => Sys2Proof.Machine.execMchChBringup by_ ch s
  | .mchChRetire by_ ch => Sys2Proof.Machine.execMchChRetire by_ ch s
  | .rbNRise ch target => Sys2Proof.Machine.execRbNRise ch target s
  | .statusPoll lane ready => Sys2Proof.Machine.execStatusPoll lane ready s
  | .dieOpTimeout lane => Sys2Proof.Machine.execDieOpTimeout lane s
  | .channelRetrain ch ok => Sys2Proof.Machine.execChannelRetrain ch ok s
  | .dieTempRead lane temp => Sys2Proof.Machine.execDieTempRead lane temp s
  | .mapLookup c cacheMiss eccUnit rebuilt => Sys2Proof.Machine.execMapLookup c cacheMiss eccUnit rebuilt s
  | .areadReqRx r => Sys2Proof.Machine.execAreadReqRx r s
  | .areadRspRx tag status => Sys2Proof.Machine.execAreadRspRx tag status s
  | .aroundTmo tag => Sys2Proof.Machine.execAroundTmo tag s
  | .decodeDone j corrected r => Sys2Proof.Machine.execDecodeDone j corrected r s
  | .softDecodePassDone j corrected recovered => Sys2Proof.Machine.execSoftDecodePassDone j corrected recovered s
  | .writeStaged c => Sys2Proof.Machine.execWriteStaged c s
  | .stagingFreed wid => Sys2Proof.Machine.execStagingFreed wid s
  | .mackRx seq status => Sys2Proof.Machine.execMackRx seq status s
  | .mackTimeout seq => Sys2Proof.Machine.execMackTimeout seq s
  | .programDone lane r => Sys2Proof.Machine.execProgramDone lane r s
  | .stripeCloseTimeout stripe => Sys2Proof.Machine.execStripeCloseTimeout stripe s
  | .journalTailBelowLimit => Sys2Proof.Machine.execJournalTailBelowLimit s
  | .checkpointSegment seg => Sys2Proof.Machine.execCheckpointSegment seg s
  | .wrpCkptForce by_ => Sys2Proof.Machine.execWrpCkptForce by_ s
  | .holdupSenseSample code => Sys2Proof.Machine.execHoldupSenseSample code s
  | .pfailAssert => Sys2Proof.Machine.execPfailAssert s
  | .dumpDone => Sys2Proof.Machine.execDumpDone s
  | .roleEdge => Sys2Proof.Machine.execRoleEdge s
  | .gcFactorReview => Sys2Proof.Machine.execGcFactorReview s
  | .scrubLate lane => Sys2Proof.Machine.execScrubLate lane s
  | .calibrationDue lane group best => Sys2Proof.Machine.execCalibrationDue lane group best s
  | .mcrTestStart by_ v => Sys2Proof.Machine.execMcrTestStart by_ v s
  | .mcrTestAbort by_ => Sys2Proof.Machine.execMcrTestAbort by_ s
  | .testDone failed => Sys2Proof.Machine.execTestDone failed s
  | .holdupTestDue => Sys2Proof.Machine.execHoldupTestDue s
  | .holdupTestEnd timeUs endCode => Sys2Proof.Machine.execHoldupTestEnd timeUs endCode s
  | .lifeForecast slowPpm => Sys2Proof.Machine.execLifeForecast slowPpm s
  | .hostLinkUp speed width flit laneRev => Sys2Proof.Machine.execHostLinkUp speed width flit laneRev s
  | .hostDlDown cause => Sys2Proof.Machine.execHostDlDown cause s
  | .hostFlitCrcFail => Sys2Proof.Machine.execHostFlitCrcFail s
  | .memRequestRx r => Sys2Proof.Machine.execMemRequestRx r s
  | .configRequestRx r => Sys2Proof.Machine.execConfigRequestRx r s
  | .completionRx c => Sys2Proof.Machine.execCompletionRx c s
  | .aspmL1Entry l1ss => Sys2Proof.Machine.execAspmL1Entry l1ss s
  | .aspmL1Exit => Sys2Proof.Machine.execAspmL1Exit s
  | .l0pHostRequest width => Sys2Proof.Machine.execL0pHostRequest width s
  | .l0pReduceRequest => Sys2Proof.Machine.execL0pReduceRequest s
  | .translationCompletionRx fn page failed denied => Sys2Proof.Machine.execTranslationCompletionRx fn page failed denied s
  | .invalidateRequestRx fn base r => Sys2Proof.Machine.execInvalidateRequestRx fn base r s
  | .invalidateAbandon fn k => Sys2Proof.Machine.execInvalidateAbandon fn k s
  | .invalidateCompletionSend fn => Sys2Proof.Machine.execInvalidateCompletionSend fn s
  | .doeRequestRx vendor o len => Sys2Proof.Machine.execDoeRequestRx vendor o len s
  | .doeAbort => Sys2Proof.Machine.execDoeAbort s
  | .completionTimeout tag => Sys2Proof.Machine.execCompletionTimeout tag s
  | .tagQuarantineEnd tag => Sys2Proof.Machine.execTagQuarantineEnd tag s
  | .hptContainForce by_ => Sys2Proof.Machine.execHptContainForce by_ s
  | .hptContainRelease => Sys2Proof.Machine.execHptContainRelease s
  | .releaseComplete => Sys2Proof.Machine.execReleaseComplete s
  | .attnBtn => Sys2Proof.Machine.execAttnBtn s
  | .sppAttnAck => Sys2Proof.Machine.execSppAttnAck s
  | .attnTimeout => Sys2Proof.Machine.execAttnTimeout s
  | .fallbackDestageDone => Sys2Proof.Machine.execFallbackDestageDone s
  | .prsntChange seated => Sys2Proof.Machine.execPrsntChange seated s
  | .createIoSq q => Sys2Proof.Machine.execCreateIoSq q s
  | .createIoCq q => Sys2Proof.Machine.execCreateIoCq q s
  | .deleteIoSq q => Sys2Proof.Machine.execDeleteIoSq q s
  | .sqDeleteDrained fn qid => Sys2Proof.Machine.execSqDeleteDrained fn qid s
  | .deleteIoCq q => Sys2Proof.Machine.execDeleteIoCq q s
  | .getLogPage q => Sys2Proof.Machine.execGetLogPage q s
  | .identify q => Sys2Proof.Machine.execIdentify q s
  | .abort q => Sys2Proof.Machine.execAbort q s
  | .setFeatures q data => Sys2Proof.Machine.execSetFeatures q data s
  | .getFeatures q => Sys2Proof.Machine.execGetFeatures q s
  | .asynchronousEventRequest q => Sys2Proof.Machine.execAsynchronousEventRequest q s
  | .formatNvm q => Sys2Proof.Machine.execFormatNvm q s
  | .sanitize q => Sys2Proof.Machine.execSanitize q s
  | .cryptoEraseProceed nsid => Sys2Proof.Machine.execCryptoEraseProceed nsid s
  | .contractQuery q => Sys2Proof.Machine.execContractQuery q s
  | .meterRead q => Sys2Proof.Machine.execMeterRead q s
  | .namespaceCreate q d => Sys2Proof.Machine.execNamespaceCreate q d s
  | .namespaceDelete q => Sys2Proof.Machine.execNamespaceDelete q s
  | .namespaceAttach q cntlids => Sys2Proof.Machine.execNamespaceAttach q cntlids s
  | .namespaceDetach q cntlids => Sys2Proof.Machine.execNamespaceDetach q cntlids s
  | .namespaceDetachDrained nsid => Sys2Proof.Machine.execNamespaceDetachDrained nsid s
  | .firmwareImageDownload q bytes => Sys2Proof.Machine.execFirmwareImageDownload q bytes s
  | .firmwareCommit q gaps => Sys2Proof.Machine.execFirmwareCommit q gaps s
  | .primaryFlexibleAllocation q => Sys2Proof.Machine.execPrimaryFlexibleAllocation q s
  | .secondaryOffline q => Sys2Proof.Machine.execSecondaryOffline q s
  | .secondaryAssign q => Sys2Proof.Machine.execSecondaryAssign q s
  | .secondaryOnline q => Sys2Proof.Machine.execSecondaryOnline q s
  | .flush q => Sys2Proof.Machine.execFlush q s
  | .write q => Sys2Proof.Machine.execWrite q s
  | .read q => Sys2Proof.Machine.execRead q s
  | .compare q equal => Sys2Proof.Machine.execCompare q equal s
  | .writeZeroes q => Sys2Proof.Machine.execWriteZeroes q s
  | .datasetManagement q ranges => Sys2Proof.Machine.execDatasetManagement q ranges s
  | .verify q => Sys2Proof.Machine.execVerify q s
  | .copy q ranges => Sys2Proof.Machine.execCopy q ranges s
  | .sqTailDoorbell fn qid value => Sys2Proof.Machine.execSqTailDoorbell fn qid value s
  | .cqHeadDoorbell fn qid value => Sys2Proof.Machine.execCqHeadDoorbell fn qid value s
  | .ccEnSet fn => Sys2Proof.Machine.execCcEnSet fn s
  | .controllerReady fn => Sys2Proof.Machine.execControllerReady fn s
  | .controllerReset fn => Sys2Proof.Machine.execControllerReset fn s
  | .bmeClear fn => Sys2Proof.Machine.execBmeClear fn s
  | .bmeSet fn => Sys2Proof.Machine.execBmeSet fn s
  | .powerStateWrite fn state => Sys2Proof.Machine.execPowerStateWrite fn state s
  | .vfEnableSet => Sys2Proof.Machine.execVfEnableSet s
  | .vfEnableClear => Sys2Proof.Machine.execVfEnableClear s
  | .vfFlr vf => Sys2Proof.Machine.execVfFlr vf s
  | .vfFlrDone vf => Sys2Proof.Machine.execVfFlrDone vf s
  | .pfFlr => Sys2Proof.Machine.execPfFlr s
  | .quiesce => Sys2Proof.Machine.execQuiesce s
  | .quiesced vf => Sys2Proof.Machine.execQuiesced vf s
  | .resume => Sys2Proof.Machine.execResume s
  | .freeze => Sys2Proof.Machine.execFreeze s
  | .frozen vf => Sys2Proof.Machine.execFrozen vf s
  | .unfreeze => Sys2Proof.Machine.execUnfreeze s
  | .save => Sys2Proof.Machine.execSave s
  | .saveDone ok => Sys2Proof.Machine.execSaveDone ok s
  | .restore => Sys2Proof.Machine.execRestore s
  | .restoreDone blob => Sys2Proof.Machine.execRestoreDone blob s
  | .holdoffTimerExpiry fn => Sys2Proof.Machine.execHoldoffTimerExpiry fn s
  | .msixUnmask fn vec => Sys2Proof.Machine.execMsixUnmask fn vec s
  | .uartImageRx img desc => Sys2Proof.Machine.execUartImageRx img desc s
  | .getVersion => Sys2Proof.Machine.execGetVersion s
  | .getCapabilities => Sys2Proof.Machine.execGetCapabilities s
  | .negotiateAlgorithms => Sys2Proof.Machine.execNegotiateAlgorithms s
  | .getDigests => Sys2Proof.Machine.execGetDigests s
  | .getCertificate slot offset length => Sys2Proof.Machine.execGetCertificate slot offset length s
  | .challenge slot nonce => Sys2Proof.Machine.execChallenge slot nonce s
  | .getMeasurements index nonce => Sys2Proof.Machine.execGetMeasurements index nonce s
  | .keyExchange slot pub => Sys2Proof.Machine.execKeyExchange slot pub s
  | .finish session macOk => Sys2Proof.Machine.execFinish session macOk s
  | .pskExchange hint => Sys2Proof.Machine.execPskExchange hint s
  | .endSession session => Sys2Proof.Machine.execEndSession session s
  | .spdmUnsupportedRequest => Sys2Proof.Machine.execSpdmUnsupportedRequest s
  | .authFail => Sys2Proof.Machine.execAuthFail s
  | .sessionTimeout session => Sys2Proof.Machine.execSessionTimeout session s
  | .claim session seq psk hint => Sys2Proof.Machine.execClaim session seq psk hint s
  | .pskRotate session seq psk hint => Sys2Proof.Machine.execPskRotate session seq psk hint s
  | .rollbackCommit session seq => Sys2Proof.Machine.execRollbackCommit session seq s
  | .query session seq => Sys2Proof.Machine.execQuery session seq s
  | .imageLoad session seq addr len => Sys2Proof.Machine.execImageLoad session seq addr len s
  | .imageArm session seq frame => Sys2Proof.Machine.execImageArm session seq frame s
  | .imageDisarm session seq => Sys2Proof.Machine.execImageDisarm session seq s
  | .park session seq => Sys2Proof.Machine.execPark session seq s
  | .tokenTrim session seq vf dir trim => Sys2Proof.Machine.execTokenTrim session seq vf dir trim s
  | .profileBind session seq bytes => Sys2Proof.Machine.execProfileBind session seq bytes s
  | .keyInstall session seq nsid wrapped => Sys2Proof.Machine.execKeyInstall session seq nsid wrapped s
  | .keyGenerate session seq nsid => Sys2Proof.Machine.execKeyGenerate session seq nsid s
  | .lpWindow session seq win v => Sys2Proof.Machine.execLpWindow session seq win v s
  | .minuteSigned => Sys2Proof.Machine.execMinuteSigned s
  | .mtrArchConsWrite v => Sys2Proof.Machine.execMtrArchConsWrite v s
  | .linkTrain t => Sys2Proof.Machine.execLinkTrain t s
  | .initRx f => Sys2Proof.Machine.execInitRx f s
  | .flitRx bytes => Sys2Proof.Machine.execFlitRx bytes s
  | .nakRx seq => Sys2Proof.Machine.execNakRx seq s
  | .ackTimer => Sys2Proof.Machine.execAckTimer s
  | .creditReport => Sys2Proof.Machine.execCreditReport s
  | .speedRetrain => Sys2Proof.Machine.execSpeedRetrain s
  | .speedRetrainDone pam4 peerNext => Sys2Proof.Machine.execSpeedRetrainDone pam4 peerNext s
  | .linkReset => Sys2Proof.Machine.execLinkReset s
  | .linkDown => Sys2Proof.Machine.execLinkDown s
  | .graceExpiry => Sys2Proof.Machine.execGraceExpiry s
  | .declareLost by_ => Sys2Proof.Machine.execDeclareLost by_ s
  | .fenceInAssert => Sys2Proof.Machine.execFenceInAssert s
  | .rejoin by_ => Sys2Proof.Machine.execRejoin by_ s
  | .pairJoined => Sys2Proof.Machine.execPairJoined s
  | .mwriteRx m => Sys2Proof.Machine.execMwriteRx m s
  | .mmapRx m => Sys2Proof.Machine.execMmapRx m s
  | .meraseRx nsid originSeq => Sys2Proof.Machine.execMeraseRx nsid originSeq s
  | .blobRx sourceVf bytes => Sys2Proof.Machine.execBlobRx sourceVf bytes s
  | .blobAckRx sourceVf status => Sys2Proof.Machine.execBlobAckRx sourceVf status s
  | .nsSyncRx m => Sys2Proof.Machine.execNsSyncRx m s
  | .changeMapRx nsid regions => Sys2Proof.Machine.execChangeMapRx nsid regions s
  | .repairReqRx nsid index part recovered => Sys2Proof.Machine.execRepairReqRx nsid index part recovered s
  | .resyncDoneRx nsid => Sys2Proof.Machine.execResyncDoneRx nsid s
  | .variant3ReportRx entered => Sys2Proof.Machine.execVariant3ReportRx entered s
  | .clearingFrameRx frame => Sys2Proof.Machine.execClearingFrameRx frame s
  | .partnerHostLost => Sys2Proof.Machine.execPartnerHostLost s
  | .partnerHostRestored => Sys2Proof.Machine.execPartnerHostRestored s
  | .dumpNoticeRx => Sys2Proof.Machine.execDumpNoticeRx s
  | .kcvRx nsid kcv => Sys2Proof.Machine.execKcvRx nsid kcv s
  | .goingDownRx => Sys2Proof.Machine.execGoingDownRx s
  | .blobDiscard by_ => Sys2Proof.Machine.execBlobDiscard by_ s
  | .evcRing by_ src => Sys2Proof.Machine.execEvcRing by_ src s
  | .evcUnpend by_ src => Sys2Proof.Machine.execEvcUnpend by_ src s
  | .evcClaim by_ core => Sys2Proof.Machine.execEvcClaim by_ core s
  | .evcComplete by_ core src => Sys2Proof.Machine.execEvcComplete by_ core src s
  | .evcStackReset by_ core => Sys2Proof.Machine.execEvcStackReset by_ core s
  | .evcGdisWrite by_ v => Sys2Proof.Machine.execEvcGdisWrite by_ v s
  | .levelSourceChange src high => Sys2Proof.Machine.execLevelSourceChange src high s
  | .holdoffGroupExpiry g => Sys2Proof.Machine.execHoldoffGroupExpiry g s
  | .watchdogRestart by_ core v => Sys2Proof.Machine.execWatchdogRestart by_ core v s
  | .watchdogExpiry core => Sys2Proof.Machine.execWatchdogExpiry core s
  | .watchdogCoreReset core => Sys2Proof.Machine.execWatchdogCoreReset core s
  | .coreAccessFault core addr write => Sys2Proof.Machine.execCoreAccessFault core addr write s
  | .coreEccFault core => Sys2Proof.Machine.execCoreEccFault core s
  | .watchWake wakeBits pinBits => Sys2Proof.Machine.execWatchWake wakeBits pinBits s
  | .aowAlarmExpiry => Sys2Proof.Machine.execAowAlarmExpiry s
  | .watchPinEvent pin => Sys2Proof.Machine.execWatchPinEvent pin s
  | .sdmArm by_ ch first => Sys2Proof.Machine.execSdmArm by_ ch first s
  | .sdmAbort by_ ch => Sys2Proof.Machine.execSdmAbort by_ ch s
  | .sdmClear by_ ch first => Sys2Proof.Machine.execSdmClear by_ ch first s
  | .sdmDescriptorComplete ch r next => Sys2Proof.Machine.execSdmDescriptorComplete ch r next s
  | .sdmPaceResume ch => Sys2Proof.Machine.execSdmPaceResume ch s
  | .bar4RequestRx offset size write requester => Sys2Proof.Machine.execBar4RequestRx offset size write requester s
  | .localAtomicop offset size casFails => Sys2Proof.Machine.execLocalAtomicop offset size casFails s
  | .localBurstEnd r => Sys2Proof.Machine.execLocalBurstEnd r s
  | .prefetchExpiry win => Sys2Proof.Machine.execPrefetchExpiry win s
  | .lpbWinCommit by_ => Sys2Proof.Machine.execLpbWinCommit by_ s
  | .commitDone => Sys2Proof.Machine.execCommitDone s
  | .commitDrainTimeout => Sys2Proof.Machine.execCommitDrainTimeout s
  | .localBusRequest => Sys2Proof.Machine.execLocalBusRequest s
  | .upstreamWrite addr len => Sys2Proof.Machine.execUpstreamWrite addr len s
  | .upstreamRead addr len => Sys2Proof.Machine.execUpstreamRead addr len s
  | .upstreamReadDataArrive addr => Sys2Proof.Machine.execUpstreamReadDataArrive addr s
  | .upstreamReadStale addr => Sys2Proof.Machine.execUpstreamReadStale addr s
  | .lpIrqAssert line => Sys2Proof.Machine.execLpIrqAssert line s
  | .coreLocalAccess core addr write => Sys2Proof.Machine.execCoreLocalAccess core addr write s
  | .tlnSampleDue entry => Sys2Proof.Machine.execTlnSampleDue entry s
  | .tlnSampleDone entry r => Sys2Proof.Machine.execTlnSampleDone entry r s
  | .tlnRecordEmit rec => Sys2Proof.Machine.execTlnRecordEmit rec s
  | .larvisRead word => Sys2Proof.Machine.execLarvisRead word s
  | .tlnXferGo v => Sys2Proof.Machine.execTlnXferGo v s
  | .xferDone r => Sys2Proof.Machine.execXferDone r s
  | .setEndpointId eid => Sys2Proof.Machine.execSetEndpointId eid s
  | .getEndpointId => Sys2Proof.Machine.execGetEndpointId s
  | .getEndpointUuid => Sys2Proof.Machine.execGetEndpointUuid s
  | .getMctpVersionSupport => Sys2Proof.Machine.execGetMctpVersionSupport s
  | .getMessageTypeSupport => Sys2Proof.Machine.execGetMessageTypeSupport s
  | .mctpPacketDrop => Sys2Proof.Machine.execMctpPacketDrop s
  | .readNvmeMiDataStructure type => Sys2Proof.Machine.execReadNvmeMiDataStructure type s
  | .nvmSubsystemHealthStatusPoll => Sys2Proof.Machine.execNvmSubsystemHealthStatusPoll s
  | .controllerHealthStatusPoll cntlid => Sys2Proof.Machine.execControllerHealthStatusPoll cntlid s
  | .configurationSet id value => Sys2Proof.Machine.execConfigurationSet id value s
  | .configurationGet id => Sys2Proof.Machine.execConfigurationGet id s
  | .vpdRead offset len => Sys2Proof.Machine.execVpdRead offset len s
  | .miInvalidCommand opcode => Sys2Proof.Machine.execMiInvalidCommand opcode s
  | .vddAoApplied => Sys2Proof.Machine.execVddAoApplied s
  | .powerOnReset frefSel hostSris pairId lpVsel claimResetN => Sys2Proof.Machine.execPowerOnReset frefSel hostSris pairId lpVsel claimResetN s
  | .bootStageEnd f => Sys2Proof.Machine.execBootStageEnd f s
  | .perstAssert => Sys2Proof.Machine.execPerstAssert s
  | .perstDeassert => Sys2Proof.Machine.execPerstDeassert s
  | .hotReset linkDisable => Sys2Proof.Machine.execHotReset linkDisable s
  | .pwrResetDevice by_ => Sys2Proof.Machine.execPwrResetDevice by_ s
  | .deviceResetShutdownDone => Sys2Proof.Machine.execDeviceResetShutdownDone s
  | .dramPatrolDue corrected uncorrectable => Sys2Proof.Machine.execDramPatrolDue corrected uncorrectable s
  | .sramScrubDue corrected uncorrectable => Sys2Proof.Machine.execSramScrubDue corrected uncorrectable s
  | .pmeTurnOff => Sys2Proof.Machine.execPmeTurnOff s
  | .pmeToAck => Sys2Proof.Machine.execPmeToAck s
  | .mainRailsRemoved => Sys2Proof.Machine.execMainRailsRemoved s
  | .railFault rail => Sys2Proof.Machine.execRailFault rail s
  | .thermtrip => Sys2Proof.Machine.execThermtrip s
  | .evlogConsWrite v => Sys2Proof.Machine.execEvlogConsWrite v s
  | .registerWrite by_ offset v => Sys2Proof.Machine.execRegisterWrite by_ offset v s
  | .hostLinkRecovery speed width => Sys2Proof.Machine.execHostLinkRecovery speed width s
  | .wakeSourceFires bit => Sys2Proof.Machine.execWakeSourceFires bit s
  | .pfFlrDone => Sys2Proof.Machine.execPfFlrDone s
  | .controllerResetDone fn => Sys2Proof.Machine.execControllerResetDone fn s
  | .invalidCommandOpcode q => Sys2Proof.Machine.execInvalidCommandOpcode q s
  | .invalidManagementRequest session opcode seq => Sys2Proof.Machine.execInvalidManagementRequest session opcode seq s

end Sys2Proof.Machine
end

