-- ==== Sys2Proof/WellFormed.lean ====
section
/-! DEFINITION. When a command is one that the environment can send: every operand fits the field, the number range or
the set that the rule of its row gives it. A command whose operand is out of range in a way the specification answers
(a session request of the wrong length, a slot that does not exist, an image that fails its checks) is well formed. -/
namespace Sys2Proof

/-- The number fits a field of `w` bits. -/
def fits (w n : Nat) : Bool := decide (n < 2 ^ w)
/-- PF0 and VF1 to VF4096 (Table 1-3). -/
def fnOk (fn : Nat) : Bool := decide (fn ≤ 4096)
/-- VF1 to VF4096 (Table 1-3). -/
def vfOk (vf : Nat) : Bool := decide (1 ≤ vf ∧ vf ≤ 4096)
/-- Lanes 0 to 511 (Table 3-1). -/
def laneOk (lane : Nat) : Bool := decide (lane < 512)
/-- Cores 0 to 7 (R516). -/
def coreOk (core : Nat) : Bool := decide (core < 8)
/-- Widths a PCIe link can have. -/
def widthOk (w : Nat) : Bool := w == 1 || w == 2 || w == 4 || w == 8 || w == 16

/-- A requester is PF0 or one of the eight cores (R11). -/
def Requester.wf : Requester → Bool
  | .pf0 => true
  | .core n => coreOk n

/-- A command identity: function, 16-bit queue and 16-bit command identifier. -/
def CmdId.wf (c : CmdId) : Bool := fnOk c.fn && fits 16 c.qid && fits 16 c.cid

/-- A submission queue entry: its identity, an 8-bit opcode, a 32-bit NSID and the two bits of PSDT. -/
def Sqe.wf (q : Sqe) : Bool := q.id.wf && fits 8 q.opcode && fits 32 q.nsid && fits 2 q.psdt && fits 2 q.fuse

/-- HEARTBEAT's fields (Table 12-5). -/
def Heartbeat.wf (h : Heartbeat) : Bool :=
  fits 8 h.variant && fits 48 h.frame && fits 32 h.tick && decide (h.digest.length = 16)

/-- The arm report's fields (R105 to R108). -/
def ArmReport.wf (r : ArmReport) : Bool := fits 48 r.armFrame && fits 48 r.explicitF

/-- AREAD_REQ's fields (Table 12-5, R495). -/
def AreadReq.wf (r : AreadReq) : Bool :=
  fits 32 r.nsid && fits 64 r.index && fits 8 r.part && fits 8 r.group && fits 12 r.tag

/-- A decode is of a unit of a command, of a request of the partner, of a part that a write is merged with, or of a sample of a
lane. -/
def DecodeJob.wf : DecodeJob → Bool
  | .unit c _ member => c.wf && member.all laneOk
  | .served tag => fits 12 tag
  | .merge _ _ => true
  | .sample lane _ => laneOk lane

/-- What a bring-up found is of dies 0 to 15 of the channel (Table 5-6). -/
def BringupFacts.wf (f : BringupFacts) : Bool :=
  f.notReady.all (· < 16) && f.trainFail.all (· < 16) && f.verifyFail.all (· < 16) && f.ids.all (fits 16 ·.paramCrc)

/-- A memory request names a BAR of its function (Table 9-1). -/
def MemReq.wf (r : MemReq) : Bool :=
  fnOk r.fn && (r.bar == 0 || r.bar == 2 || r.bar == 4) && decide (1 ≤ r.size) &&
    (r.by_ == .pf0 || (r.by_.wf && r.fn == 0 && r.bar == 2 && decide (r.addr < 0x4000000)))

/-- A configuration request names a dword of a function's 4 KiB. -/
def CfgReq.wf (r : CfgReq) : Bool := fnOk r.fn && decide (r.offset < 4096 ∧ r.offset % 4 = 0)

/-- INIT's fields (R479). -/
def InitFlit.wf (i : InitFlit) : Bool :=
  fits 32 i.session && fits 12 i.nextSeq && fits 8 i.version && i.limits.all fun p => fits 16 p.1 && fits 16 p.2

/-- MWRITE's fields (Table 12-5). -/
def MWrite.wf (m : MWrite) : Bool := fits 32 m.nsid && fits 64 m.index && fits 8 m.unitMask && fits 64 m.originSeq

/-- MMAP's fields (Table 12-5). -/
def MMap.wf (m : MMap) : Bool :=
  fits 32 m.nsid && fits 64 m.index && fits 32 m.count && fits 8 m.action && fits 64 m.originSeq

/-- NS_SYNC's fields (Table 12-5). -/
def NsSync.wf (m : NsSync) : Bool := fits 32 m.nsid && fits 8 m.action

/-- Namespace Management's sizes (R393). -/
def NsCreate.wf (d : NsCreate) : Bool := fits 64 d.nsze && fits 64 d.ncap && fits 8 d.flbas

/-- The slot header's fields (Table 11-1). -/
def SlotImage.wf (i : SlotImage) : Bool :=
  fits 32 i.magic && fits 32 i.headerSize && fits 32 i.fwVersion && fits 32 i.svn && fits 32 i.bodySize
  && decide (i.bodyDigest.length = 32)

/-- What a stage of start-up found names well-formed images and a well-formed descriptor. -/
def StageFacts.wf : StageFacts → Bool
  | .rom => true
  | .firmware a b _ _ _ => a.all SlotImage.wf && b.all SlotImage.wf
  | .host d => decide (d.length ≤ 65536)
  | .memories .. => true
  | .media _ _ e => e.all SlotImage.wf
  | .recovery .. => true

/-- The Mirror Link trains at 16, 8 or 4 lanes (R481). -/
def LinkTrained.wf (t : LinkTrained) : Bool := t.lanes == 16 || t.lanes == 8 || t.lanes == 4

/-- The first differing byte lies within the 32-bit length of a descriptor (Table 13-7). -/
def SdmResult.wf : SdmResult → Bool
  | .mismatch o => fits 32 o
  | .ok | .readError | .writeError => true

/-- Well-formed commands. -/
def Instr.wf : Instr → Bool
  | .frefLost => true
  | .frefGood => true
  | .fppsEdge _ _ _ => true
  | .ppsLost => true
  | .fsyncEdge _ => true
  | .fsyncLost => true
  | .frameEdge => true
  | .minuteEdge => true
  | .todSecWrite _ _ => true
  | .todArm => true
  | .todApply => true
  | .dpllDisable => true
  | .frameCounterRead => true
  | .heartbeatRx hb => hb.wf
  | .skewRaisedRx => true
  | .skewClearProposalRx frame => fits 48 frame
  | .pairSkewClear => true
  | .phaseMismatchClear => true
  | .prxLoad by_ => by_.wf
  | .imageChecksDone _ => true
  | .prxDiscard by_ => by_.wf
  | .prxArm by_ => by_.wf
  | .armReportRx r => r.wf
  | .armWaitTimeout => true
  | .prxDisarm by_ => by_.wf
  | .switchCommit => true
  | .imageSwitch => true
  | .prxParkReq by_ => by_.wf
  | .parkEntered => true
  | .variantSwitch => true
  | .junctionTempSample _ => true
  | .thermalConditionClear => true
  | .stageAdmit c _ lane units => c.wf && laneOk lane && decide (units ≤ 16)
  | .slotStart b => laneOk b.lane
  | .slotEnd lane => laneOk lane
  | .dieOpComplete lane _ _ => laneOk lane
  | .driftClear => true
  | .prxTokenTrim by_ _ => by_.wf
  | .cqePost c => c.cmd.wf
  | .channelBringupDone ch f => fits 5 ch && f.wf
  | .mchChBringup by_ ch => by_.wf && fits 5 ch
  | .mchChRetire by_ ch => by_.wf && fits 5 ch
  | .rbNRise ch target => fits 5 ch && fits 2 target
  | .statusPoll lane _ => laneOk lane
  | .dieOpTimeout lane => laneOk lane
  | .channelRetrain ch _ => fits 5 ch
  | .dieTempRead lane _ => laneOk lane
  | .mapLookup c _ _ _ => c.wf
  | .areadReqRx r => r.wf
  | .areadRspRx tag status => fits 12 tag && fits 8 status
  | .aroundTmo tag => fits 12 tag
  | .decodeDone j _ _ => j.wf
  | .softDecodePassDone j _ _ => j.wf
  | .writeStaged c => c.wf
  | .stagingFreed _ => true
  | .mackRx seq status => fits 64 seq && fits 8 status
  | .mackTimeout seq => fits 64 seq
  | .programDone lane _ => laneOk lane
  | .stripeCloseTimeout _ => true
  | .journalTailBelowLimit => true
  | .checkpointSegment _ => true
  | .wrpCkptForce by_ => by_.wf
  | .holdupSenseSample _ => true
  | .pfailAssert => true
  | .dumpDone => true
  | .roleEdge => true
  | .gcFactorReview => true
  | .scrubLate lane => laneOk lane
  | .calibrationDue lane group _ => laneOk lane && fits 9 group
  | .mcrTestStart by_ _ => by_.wf
  | .mcrTestAbort by_ => by_.wf
  | .testDone _ => true
  | .holdupTestDue => true
  | .holdupTestEnd _ endCode => fits 12 endCode
  | .lifeForecast _ => true
  | .hostLinkUp speed width _ _ => decide (1 ≤ speed ∧ speed ≤ 6) && widthOk width
  | .hostDlDown _ => true
  | .hostFlitCrcFail => true
  | .memRequestRx r => r.wf
  | .configRequestRx r => r.wf
  | .completionRx c => fits 14 c.tag
  | .aspmL1Entry l1ss => decide (l1ss ≤ 2)
  | .aspmL1Exit => true
  | .l0pHostRequest width => widthOk width
  | .l0pReduceRequest => true
  | .translationCompletionRx fn page _ _ => fnOk fn && fits 52 page
  | .invalidateRequestRx fn base r => fnOk fn && fits 52 base && decide (1 ≤ r.pages) && r.tags.all (fits 14)
  | .invalidateAbandon fn _ => fnOk fn
  | .invalidateCompletionSend fn => fnOk fn
  | .doeRequestRx vendor o len => fits 16 vendor && fits 8 o.type && fits 20 len && o.session.all (fits 32)
  | .doeAbort => true
  | .completionTimeout tag => fits 14 tag
  | .tagQuarantineEnd tag => fits 14 tag
  | .hptContainForce by_ => by_.wf
  | .hptContainRelease => true
  | .releaseComplete => true
  | .attnBtn => true
  | .sppAttnAck => true
  | .attnTimeout => true
  | .fallbackDestageDone => true
  | .prsntChange _ => true
  | .createIoSq q => q.wf
  | .createIoCq q => q.wf
  | .deleteIoSq q => q.wf
  | .sqDeleteDrained fn qid => fnOk fn && fits 16 qid
  | .deleteIoCq q => q.wf
  | .getLogPage q => q.wf
  | .identify q => q.wf
  | .abort q => q.wf
  | .setFeatures q _ => q.wf
  | .getFeatures q => q.wf
  | .asynchronousEventRequest q => q.wf
  | .formatNvm q => q.wf
  | .sanitize q => q.wf
  | .cryptoEraseProceed nsid => fits 32 nsid
  | .contractQuery q => q.wf
  | .meterRead q => q.wf
  | .namespaceCreate q d => q.wf && d.wf
  | .namespaceDelete q => q.wf
  | .namespaceAttach q cntlids => q.wf && cntlids.all (fits 16)
  | .namespaceDetach q cntlids => q.wf && cntlids.all (fits 16)
  | .namespaceDetachDrained nsid => fits 32 nsid
  | .firmwareImageDownload q _ => q.wf
  | .firmwareCommit q _ => q.wf
  | .primaryFlexibleAllocation q => q.wf
  | .secondaryOffline q => q.wf
  | .secondaryAssign q => q.wf
  | .secondaryOnline q => q.wf
  | .flush q => q.wf
  | .write q => q.wf
  | .read q => q.wf
  | .compare q _ => q.wf
  | .writeZeroes q => q.wf
  | .datasetManagement q ranges => q.wf && decide (ranges.length ≤ 256)
  | .verify q => q.wf
  | .copy q ranges => q.wf && decide (ranges.length ≤ 256)
  | .sqTailDoorbell fn qid value => fnOk fn && fits 16 qid && fits 16 value
  | .cqHeadDoorbell fn qid value => fnOk fn && fits 16 qid && fits 16 value
  | .ccEnSet fn => fnOk fn
  | .controllerReady fn => fnOk fn
  | .controllerReset fn => fnOk fn
  | .bmeClear fn => fnOk fn
  | .bmeSet fn => fnOk fn
  | .powerStateWrite fn state => fnOk fn && fits 2 state
  | .vfEnableSet => true
  | .vfEnableClear => true
  | .vfFlr vf => vfOk vf
  | .vfFlrDone vf => vfOk vf
  | .pfFlr => true
  | .quiesce => true
  | .quiesced vf => vfOk vf
  | .resume => true
  | .freeze => true
  | .frozen vf => vfOk vf
  | .unfreeze => true
  | .save => true
  | .saveDone _ => true
  | .restore => true
  | .restoreDone _ => true
  | .holdoffTimerExpiry fn => fnOk fn
  | .msixUnmask fn vec => fnOk fn && vec.all (· < 65)
  | .uartImageRx img desc => img.all SlotImage.wf && desc.all fun b => decide (b.length ≤ 65536)
  | .getVersion => true
  | .getCapabilities => true
  | .negotiateAlgorithms => true
  | .getDigests => true
  | .getCertificate slot offset length => fits 8 slot && fits 16 offset && fits 16 length
  | .challenge slot nonce => fits 8 slot && decide (nonce.length = 32)
  | .getMeasurements index nonce => fits 8 index && decide (nonce.length = 32)
  | .keyExchange slot _ => fits 8 slot
  | .finish session _ => fits 32 session
  | .pskExchange _ => true
  | .endSession session => fits 32 session
  | .spdmUnsupportedRequest => true
  | .authFail => true
  | .sessionTimeout session => fits 32 session
  | .claim session seq _ _ => fits 32 session && fits 16 seq
  | .pskRotate session seq _ _ => fits 32 session && fits 16 seq
  | .rollbackCommit session seq => fits 32 session && fits 16 seq
  | .query session seq => fits 32 session && fits 16 seq
  | .imageLoad session seq _ _ => fits 32 session && fits 16 seq
  | .imageArm session seq _ => fits 32 session && fits 16 seq
  | .imageDisarm session seq => fits 32 session && fits 16 seq
  | .park session seq => fits 32 session && fits 16 seq
  | .tokenTrim session seq vf dir _ => fits 32 session && fits 16 seq && fits 16 vf && fits 8 dir
  | .profileBind session seq _ => fits 32 session && fits 16 seq
  | .keyInstall session seq nsid _ => fits 32 session && fits 16 seq && fits 32 nsid
  | .keyGenerate session seq nsid => fits 32 session && fits 16 seq && fits 32 nsid
  | .lpWindow session seq win _ => fits 32 session && fits 16 seq && fits 8 win
  | .minuteSigned => true
  | .mtrArchConsWrite _ => true
  | .linkTrain t => t.all LinkTrained.wf
  | .initRx i => i.wf
  | .flitRx bytes => decide (bytes.length = 256)
  | .nakRx seq => fits 12 seq
  | .ackTimer => true
  | .creditReport => true
  | .speedRetrain => true
  | .speedRetrainDone _ peerNext => fits 12 peerNext
  | .linkReset => true
  | .linkDown => true
  | .graceExpiry => true
  | .declareLost by_ => by_.wf
  | .fenceInAssert => true
  | .rejoin by_ => by_.all Requester.wf
  | .pairJoined => true
  | .mwriteRx m => m.wf
  | .mmapRx m => m.wf
  | .meraseRx nsid originSeq => fits 32 nsid && fits 64 originSeq
  | .blobRx sourceVf _ => fits 16 sourceVf
  | .blobAckRx sourceVf status => fits 16 sourceVf && fits 8 status
  | .nsSyncRx m => m.wf
  | .changeMapRx nsid _ => fits 32 nsid
  | .repairReqRx nsid index part _ => fits 32 nsid && fits 64 index && fits 8 part
  | .resyncDoneRx nsid => fits 32 nsid
  | .variant3ReportRx _ => true
  | .clearingFrameRx frame => fits 48 frame
  | .partnerHostLost => true
  | .partnerHostRestored => true
  | .dumpNoticeRx => true
  | .kcvRx nsid _ => fits 32 nsid
  | .goingDownRx => true
  | .blobDiscard by_ => by_.wf
  | .evcRing by_ src => by_.wf && fits 10 src
  | .evcUnpend by_ src => by_.wf && fits 10 src
  | .evcClaim by_ core => by_.wf && coreOk core
  | .evcComplete by_ core src => by_.wf && coreOk core && fits 10 src
  | .evcStackReset by_ core => by_.wf && coreOk core
  | .evcGdisWrite by_ _ => by_.wf
  | .levelSourceChange src _ => fits 10 src
  | .holdoffGroupExpiry g => fits 6 g
  | .watchdogRestart by_ core _ => by_.wf && coreOk core
  | .watchdogExpiry core => coreOk core
  | .watchdogCoreReset core => coreOk core
  | .coreAccessFault core _ _ => coreOk core
  | .coreEccFault core => coreOk core
  | .watchWake _ _ => true
  | .aowAlarmExpiry => true
  | .watchPinEvent pin => fits 5 pin
  | .sdmArm by_ ch _ => by_.wf && fits 3 ch
  | .sdmAbort by_ ch => by_.wf && fits 3 ch
  | .sdmClear by_ ch _ => by_.wf && fits 3 ch
  | .sdmDescriptorComplete ch r _ => fits 3 ch && r.wf
  | .sdmPaceResume ch => fits 3 ch
  | .bar4RequestRx _ size _ requester => decide (1 ≤ size ∧ size ≤ 4096) && fits 16 requester
  | .localAtomicop _ size _ => (size == 4 || size == 8)
  | .localBurstEnd _ => true
  | .prefetchExpiry win => fits 3 win
  | .lpbWinCommit by_ => by_.wf
  | .commitDone => true
  | .commitDrainTimeout => true
  | .localBusRequest => true
  | .upstreamWrite addr len => fits 32 addr && decide (1 ≤ len)
  | .upstreamRead addr len => fits 32 addr && decide (1 ≤ len)
  | .upstreamReadDataArrive addr => fits 32 addr
  | .upstreamReadStale addr => fits 32 addr
  | .lpIrqAssert line => fits 2 line
  | .coreLocalAccess core _ _ => coreOk core
  | .tlnSampleDue entry => fits 6 entry
  | .tlnSampleDone entry _ => fits 6 entry
  | .tlnRecordEmit rec => fits 5 rec
  | .larvisRead word => fits 10 word
  | .tlnXferGo _ => true
  | .xferDone _ => true
  | .setEndpointId eid => fits 8 eid
  | .getEndpointId => true
  | .getEndpointUuid => true
  | .getMctpVersionSupport => true
  | .getMessageTypeSupport => true
  | .mctpPacketDrop => true
  | .readNvmeMiDataStructure type => fits 8 type
  | .nvmSubsystemHealthStatusPoll => true
  | .controllerHealthStatusPoll cntlid => fits 16 cntlid
  | .configurationSet id value => fits 8 id && fits 32 value
  | .configurationGet id => fits 8 id
  | .vpdRead offset len => fits 16 offset && fits 16 len
  | .miInvalidCommand opcode => fits 8 opcode
  | .vddAoApplied => true
  | .powerOnReset _ _ _ _ _ => true
  | .bootStageEnd f => f.wf
  | .perstAssert => true
  | .perstDeassert => true
  | .hotReset _ => true
  | .pwrResetDevice by_ => by_.wf
  | .deviceResetShutdownDone => true
  | .dramPatrolDue _ _ => true
  | .sramScrubDue _ _ => true
  | .pmeTurnOff => true
  | .pmeToAck => true
  | .mainRailsRemoved => true
  | .railFault rail => fits 5 rail
  | .thermtrip => true
  | .evlogConsWrite _ => true
  | .registerWrite by_ offset _ => by_.wf && decide (offset < 0x4000000 ∧ offset % 4 = 0)
  | .hostLinkRecovery speed width => decide (1 ≤ speed ∧ speed ≤ 6) && widthOk width
  | .wakeSourceFires bit => fits 5 bit
  | .pfFlrDone => true
  | .controllerResetDone fn => fnOk fn
  | .invalidCommandOpcode q => q.wf
  | .invalidManagementRequest session opcode seq => fits 32 session && fits 8 opcode && fits 16 seq

end Sys2Proof
end

