-- ==== Sys2Proof/Safety.lean ====
section
/-! DEFINITION. What counts as a safe run, and the predicates over states that claims are stated with. -/
namespace Sys2Proof.Machine

/-- A run of `n` steps ends in a state: no step of it faults or is refused (R35). -/
def SafeRun (n : Nat) (s : State) : Prop := ∃ t, Host.Core.run Sys2Proof.core n s = .next t

/-- The tick within the frame is one of the 500,000 of a frame (R47). -/
def TickOk (s : State) : Prop := s.ftb.tick < 500000

/-! ## Commands -/

/-- A fetched entry is taken as a command that the device acts on (R388, R403, R404): its queue holds entries and may be
fetched from, its identifier is not in use, it is not fused, and the PSDT of an admin command is 00b. -/
def State.takes (s : State) (q : Sqe) (admin : Bool) : Bool :=
  (s.sq? q.id.fn q.id.qid).any (·.open_) && s.fetchOn q.id.fn admin && admin == (q.id.qid == 0) &&
    (s.cmd? q.id).isNone && q.fuse == 0 && (!admin || q.psdt == 0)

/-- An I/O command goes on past its gate at once (R32, R276, R395, R454): its namespace is attached and is not being erased, commands
are admitted, and the journal tail has room for it. -/
def State.admits (s : State) (q : Sqe) (i : Instr) : Bool :=
  s.nsOpen q.id.fn q.nsid && !(s.ns q.nsid).erasing && s.admitting && decide (s.wrp.tail.length + journalNeed i ≤ tailLimit)

/-- The data of an admin command: in Park it goes out at once, and otherwise it waits, as the command's, for its capacity (R84). -/
def State.delivers (s : State) (c : CmdId) (o : Out) : Bool :=
  if s.prxState = 0 then s.out.contains o else s.hpt.intern.any fun e => e.cmd == some c && e.outs.contains o

/-- The status with which a command has ended, and the dword 0 it returns. -/
def State.statusOf (s : State) (c : CmdId) : Option Nat := (s.cmd? c).bind (·.status)
def State.dw0Of (s : State) (c : CmdId) : Option Word := (s.cmd? c).map (·.dw0)

/-- A PSK session is open on a claimed device, and its message is in the mailbox (R441, R444): what every management request but
CLAIM needs. -/
def State.pskSession (s : State) (id : Nat) : Bool :=
  s.securedIn id && s.sec.claim.isSome && (s.sess? id).any fun x => x.psk && x.ready

/-- An SPDM request is in the mailbox, plain or in an open session (R356, R441). -/
def State.spdmIn (s : State) : Bool :=
  match s.hpt.doe with
  | some (1, _) => true
  | some (2, some id) => (s.sess? id).isSome
  | _ => false

/-- A management response (R443): header version 1, OPCODE, SEQ, STATUS, DETAIL, two zero bytes, LENGTH, data. -/
def mgmtMessage (opcode seq status : Nat) (detail : Nat := 0) (data : List Byte := []) : List Byte :=
  leBytes 1 1 ++ leBytes opcode 1 ++ leBytes seq 2 ++ leBytes status 1 ++ leBytes detail 1 ++ leBytes 0 2 ++
    leBytes data.length 4 ++ data

/-- The session of a management request (Table 11-5). -/
def sessionOf : Instr → Option Nat
  | .claim id _ _ _ | .pskRotate id _ _ _ | .rollbackCommit id _ | .query id _ | .imageLoad id _ _ _ | .imageArm id _ _
  | .imageDisarm id _ | .park id _ | .tokenTrim id _ _ _ _ | .profileBind id _ _ | .keyInstall id _ _ _ | .keyGenerate id _ _
  | .lpWindow id _ _ _ | .invalidManagementRequest id _ _ => some id
  | _ => none

/-- A command that may act while the device is stopped or its main rails are down: power, reset and wake events, samples of
the hold-up supply, the end of a dump, the pins, and the management endpoint, which answers until the rails go (R33, R40, R536,
R587). -/
def actsStopped : Instr → Bool
  | .powerOnReset _ _ _ _ _ | .vddAoApplied | .perstAssert | .perstDeassert | .hotReset _ | .deviceResetShutdownDone
  | .mainRailsRemoved | .railFault _ | .thermtrip | .holdupSenseSample _ | .pfailAssert | .dumpDone | .watchWake _ _
  | .aowAlarmExpiry | .watchPinEvent _ | .levelSourceChange _ _ | .wakeSourceFires _ | .setEndpointId _ | .getEndpointId
  | .getEndpointUuid | .getMctpVersionSupport | .getMessageTypeSupport | .mctpPacketDrop | .readNvmeMiDataStructure _
  | .nvmSubsystemHealthStatusPoll | .controllerHealthStatusPoll _ | .configurationSet _ _ | .configurationGet _
  | .vpdRead _ _ | .miInvalidCommand _ => true
  | _ => false

/-! ## Invariants -/

/-- At most four sessions are open (R441). -/
def SessionsOk (s : State) : Prop := s.sec.sessions.length ≤ 4

/-- The fuse bank holds at most 64 blown fuses, and the running firmware's SVN is neither below them nor above 64 (R428,
R431). -/
def FirmwareOk (s : State) : Prop :=
  s.sec.rollback ≤ 64 ∧ ∀ x, s.sec.running = some x → s.sec.rollback ≤ x.svn ∧ x.svn ≤ 64

/-! ## Frames -/

/-- A part of the state: a field of `State` by its name, but for what stands under a name of its own: `time` is the
frame counter and the ticks within `ftb`, `log` the device event log within `pwr`, `fuses` the anti-rollback fuses within
`sec`; `regs p` is the registers of the block at BAR2 base p × 0x100000 (Table 17-1). -/
inductive Part where
  | pending | time | ftb | prx | tenants | cmds | mch | rdp | wrp | mcr | nss | fns | hpt | mig | aens | errs | evc | aow | sdm
  | mlk | pwr | log | fuses | sec | keys | mtr | lpb | tln | mi | out | draw
  | regs (page : Nat)
deriving DecidableEq, Repr

/-- The registers of a block. -/
abbrev regsOf (b : Block) : Part := .regs (b.base / 0x100000)

/-- The parts that reporting an event or an error writes beside the register that reports: the Event Controller's
registers and hold-off times (R521 to R523, R534), the registers of PWR with the event log's indices, and the log (R612
to R614). -/
def reporting : List Part := [regsOf .evc, .evc, regsOf .pwr, .log]

/-- The state with the parts of a list emptied: two states with the same image agree on every other part. -/
def State.without (W : List Part) (s : State) : State where
  pending := if .pending ∈ W then [] else s.pending
  regs := ⟨s.regs.entries.filter fun e => decide (Part.regs (e.1 / 0x100000) ∉ W)⟩
  ftb := { (if .ftb ∈ W then {} else s.ftb) with
    frame := if .time ∈ W then 0 else s.ftb.frame, tick := if .time ∈ W then 0 else s.ftb.tick,
    clock := if .time ∈ W then 0 else s.ftb.clock }
  prx := if .prx ∈ W then {} else s.prx
  tenants := if .tenants ∈ W then {} else s.tenants
  cmds := if .cmds ∈ W then [] else s.cmds
  mch := if .mch ∈ W then {} else s.mch
  rdp := if .rdp ∈ W then {} else s.rdp
  wrp := if .wrp ∈ W then {} else s.wrp
  mcr := if .mcr ∈ W then {} else s.mcr
  nss := if .nss ∈ W then {} else s.nss
  fns := if .fns ∈ W then {} else s.fns
  hpt := if .hpt ∈ W then {} else s.hpt
  mig := if .mig ∈ W then none else s.mig
  aens := if .aens ∈ W then [] else s.aens
  errs := if .errs ∈ W then [] else s.errs
  evc := if .evc ∈ W then {} else s.evc
  aow := if .aow ∈ W then {} else s.aow
  sdm := if .sdm ∈ W then {} else s.sdm
  mlk := if .mlk ∈ W then {} else s.mlk
  pwr := { (if .pwr ∈ W then {} else s.pwr) with log := if .log ∈ W then [] else s.pwr.log }
  sec := { (if .sec ∈ W then {} else s.sec) with rollback := if .fuses ∈ W then 0 else s.sec.rollback }
  keys := if .keys ∈ W then {} else s.keys
  mtr := if .mtr ∈ W then {} else s.mtr
  lpb := if .lpb ∈ W then {} else s.lpb
  tln := if .tln ∈ W then {} else s.tln
  mi := if .mi ∈ W then {} else s.mi
  out := if .out ∈ W then [] else s.out
  draw := if .draw ∈ W then 0 else s.draw

/-- A command changes at most the parts of a list. -/
def Writes (c : Instr) (W : List Part) : Prop := ∀ s t, exec c s = .next t → t.without W = s.without W

/-- The registers that a record in the event log may change: the log's indices and counts, PWR_EVENT, and the Event
Controller's (R612 to R614). -/
def logReg (r : Nat) : Bool :=
  r / 0x100000 == 15 || r == Reg.pwrEvlogProd || r == Reg.pwrEvlogCons || r == Reg.pwrEvlogLost ||
    r == Reg.pwrEvlogCoalesceCnt || r == Reg.pwrEvent

/-- Every register that is neither named nor changed by a report stays as it is, whatever state the command meets. -/
def WritesRegs (c : Instr) (L : List Nat) : Prop :=
  ∀ s t off, exec c s = .next t → off ∉ L → logReg off = false → t.reg off = s.reg off

end Sys2Proof.Machine
end

