-- ==== Sys2Proof/Certificates/Slice0/Obligations.lean ====
section
/-! DEFINITION. The statements for the provers, each with the rules of the specification it rests on. -/
open Sys2Proof Sys2Proof.Machine

/-- A step carries out the command at the front of the queue. Step on a state whose queue has a command at its front is
exec of that command on the state with the rest of the queue. On an empty queue the model lets one timebase tick pass:
that is a DESIGN CHOICE of assumption 3, no rule of the specification. Rests on 02_frame_timebase.md. The model's own
choices and readings in it are those of notes/assumptions/2, 3. -/
def Obligations.StepTakesFront : Prop :=
  (∀ (s : State) (c : Instr) (rest : List Instr), s.pending = c :: rest → step s = exec c { s with pending := rest }) ∧
  (∀ s : State, s.pending = [] → s.live = true → s.ftb.tick + 1 < 500000 →
    step s = .next { s with ftb := { s.ftb with tick := s.ftb.tick + 1, clock := s.ftb.clock + 1 } })

/-- No command stops the block, and none touches the queue. Every command on every state answers a next state with the
same queue, and so does every run of any length from any state. Rests on 01_architecture.md. The model's own choices
and readings in it are those of notes/assumptions/1. -/
def Obligations.EveryCommandGoesOn : Prop :=
  (∀ (c : Instr) (s : State), ∃ t, exec c s = .next t ∧ t.pending = s.pending) ∧
  (∀ (n : Nat) (s : State), SafeRun n s)

/-- The state after reset. The state after reset is stage 0 in Park with no command, session, tenant or claim, and the
registers of Table 17-2 hold its reset values; the invariants hold there. Rests on 01_architecture.md,
15_startup_and_power.md, 17_register_index.md. The model's own choices and readings in it are those of
notes/assumptions/6, 7, 8. -/
def Obligations.ResetState : Prop :=
  (State.reset.bootStage = 0) ∧
  (State.reset.prxState = 0) ∧
  (State.reset.pending = []) ∧
  (State.reset.cmds = []) ∧
  (State.reset.sec.sessions = []) ∧
  (State.reset.prx.active.isNone = true) ∧
  (∀ off : Nat, State.reset.reg off = resetOf off) ∧
  (State.reset.num Reg.hptPmCtl = 0xA0040) ∧
  (State.reset.num Reg.rdpAroundTmo = 0xC350) ∧
  (State.reset.num Reg.wrpMirrorReserve = 0x1800) ∧
  (State.reset.num Reg.mcrGcFree = 0x30810) ∧
  (State.reset.num Reg.mlkGrace = 0x14) ∧
  (State.reset.num Reg.evcCtl = 0x801) ∧
  (State.reset.num Reg.lpbClkDiv = 0x14) ∧
  (State.reset.num Reg.pwrEvlogBaseLo = 0xB2100000) ∧
  (TickOk State.reset) ∧
  (SessionsOk State.reset) ∧
  (FirmwareOk State.reset)

/-- References, edges and the lock state of the timebase. While the device has power and runs, unless a clause says
otherwise: FREF_LOST clears FREF_OK, counts the loss and sets FREF_LOST and CLK_SRC; LOCKED stays while FPPS is
present, and HOLDOVER_REF becomes HOLDOVER_LOCAL. FREF_GOOD, not before 100 ms after the loss, sets FREF_OK;
HOLDOVER_LOCAL without FPPS becomes HOLDOVER_REF, and CLK_SRC then shows the crystal only in HOLDOVER_LOCAL. PPS_LOST,
once the window of the second edge missed in succession has closed, clears PPS_OK and RELOCKING, sets the event, and
takes LOCKED to HOLDOVER_REF with FREF and to HOLDOVER_LOCAL without. FSYNC_EDGE with FSYNC_EN sets FSYNC_OK and
stores the offset; one beyond FTB_FSYNC_TOL sets FSYNC_SLIP and is counted, one within it is not. FSYNC_LOST, two
frames after the last edge, clears FSYNC_OK and no other bit of FTB_STATUS. DPLL_DISABLE leaves FREERUN with
FTB_FREQ_ADJ 0 and DPLL_EN clear. An FPPS edge in LOCKED within 1,000 ns stores its phase error, its tick and the
crystal correction. One further off is counted and leaves the timebase as it was. Outside LOCKED an edge that is the
first, or not 1 s ± 100 ppm after the one before, changes no register. In Park, with the phase at FPPS, the fourth
good edge within 20 ns locks and stores the crystal correction. In Run, in a holdover state, a valid edge more than 20
ns off sets RELOCKING and starts the run of good edges afresh. FRAME_EDGE starts tick 0, takes the clock to the edge,
and counts the frame, no time of day being held for it. MINUTE_EDGE at the start of a frame divisible by 60,000, not
seen before, sets MINUTE and leaves the timebase as it is. In every clause exec answers a next state, for: frefLost,
frefGood, ppsLost, fsyncEdge, fsyncLost, dpllDisable, fppsEdge, frameEdge, minuteEdge. Rests on 02_frame_timebase.md.
The model's own choices and readings in it are those of notes/assumptions/3, 29, 30, 94. -/
def Obligations.TimebaseReferences : Prop :=
  (∀ (s : State), s.live = true → s.frefOk = true → ∃ t, exec .frefLost s = .next t ∧ t.frefOk = false ∧
    t.num Reg.ftbFrefLossCnt = satAdd 32 (s.num Reg.ftbFrefLossCnt) 1 ∧ t.bit Reg.ftbEvent 2 = true ∧
    t.bit Reg.ftbStatus 9 = true ∧ (s.ftbState = 1 → s.ppsOk = true → t.ftbState = 1) ∧ (s.ftbState = 2 →
    t.ftbState = 3)) ∧
  (∀ (s : State), s.live = true → s.frefHeld = true → ∃ t, exec .frefGood s = .next t ∧ t.frefOk = true ∧
    (s.ftbState = 3 → s.ppsOk = false → t.ftbState = 2) ∧ t.bit Reg.ftbStatus 9 = (t.ftbState == 3)) ∧
  (∀ (s : State), s.live = true → s.ppsOk = true → s.ppsMissed = true → ∃ t, exec .ppsLost s = .next t ∧
    t.ppsOk = false ∧ t.bit Reg.ftbStatus 7 = false ∧ t.bit Reg.ftbEvent 1 = true ∧ (s.ftbState = 1 →
    t.ftbState = if s.frefOk then 2 else 3)) ∧
  (∀ (s : State) (off : Int), s.live = true → s.bit Reg.ftbCtl 1 = true → ∃ t, exec (.fsyncEdge off) s = .next t ∧
    t.bit Reg.ftbStatus 4 = true ∧ t.reg Reg.ftbFsyncOffset = BitVec.ofInt 32 off ∧ t.ftb.fsyncAt = some s.now ∧
    (s.field Reg.ftbFsyncTol 0 16 < off.natAbs → t.bit Reg.ftbEvent 3 = true ∧
    t.num Reg.ftbFsyncSlipCnt = satAdd 32 (s.num Reg.ftbFsyncSlipCnt) 1) ∧
    (off.natAbs ≤ s.field Reg.ftbFsyncTol 0 16 → t.num Reg.ftbFsyncSlipCnt = s.num Reg.ftbFsyncSlipCnt)) ∧
  (∀ (s : State), s.live = true → s.fsyncMissed = true → ∃ t, exec .fsyncLost s = .next t ∧
    t.bit Reg.ftbStatus 4 = false ∧ (∀ j, j ≠ 4 → t.bit Reg.ftbStatus j = s.bit Reg.ftbStatus j)) ∧
  (∀ (s : State), s.live = true → ∃ t, exec .dpllDisable s = .next t ∧ t.ftbState = 0 ∧ t.bit Reg.ftbCtl 0 = false ∧
    t.num Reg.ftbFreqAdj = 0) ∧
  (∀ (s : State) (e : Int) (since : Nat) (ppb : Int), s.live = true → s.ftbState = 1 → e.natAbs ≤ 1000 →
    ∃ t, exec (.fppsEdge e since ppb) s = .next t ∧ t.reg Reg.ftbPhaseErr = BitVec.ofInt 32 e ∧
    t.ftb.crystal = some ppb ∧ t.ftb.lastPps = some s.now) ∧
  (∀ (s : State) (e : Int) (since : Nat) (ppb : Int), s.live = true → s.ftbState = 1 → 1000 < e.natAbs →
    ∃ t, exec (.fppsEdge e since ppb) s = .next t ∧
    t.num Reg.ftbPpsRejectCnt = satAdd 32 (s.num Reg.ftbPpsRejectCnt) 1 ∧ t.ftb = s.ftb) ∧
  (∀ (s : State) (e : Int) (since : Nat) (ppb : Int), s.live = true → s.ftbState ≠ 1 →
    (s.ftb.ppsSeen && secondApart since) = false → ∃ t, exec (.fppsEdge e since ppb) s = .next t ∧
    t.ftb.ppsSeen = true ∧ t.regs = s.regs) ∧
  (∀ (s : State) (e : Int) (since : Nat) (ppb : Int), s.live = true → s.ftbState ≠ 1 → s.ftb.ppsSeen = true →
    secondApart since = true → s.bit Reg.ftbCtl 0 = true → s.inRun = false → s.ftb.stepped = true → e.natAbs ≤ 20 →
    3 ≤ s.ftb.goodRun → ∃ t, exec (.fppsEdge e since ppb) s = .next t ∧ t.ftbState = 1 ∧ t.ppsOk = true ∧
    t.ftb.crystal = some ppb) ∧
  (∀ (s : State) (e : Int) (since : Nat) (ppb : Int), s.live = true → s.ftbState ≠ 1 → s.ftbState ≠ 0 →
    s.ftb.ppsSeen = true → secondApart since = true → s.bit Reg.ftbCtl 0 = true → s.inRun = true → 20 < e.natAbs →
    ∃ t, exec (.fppsEdge e since ppb) s = .next t ∧ t.bit Reg.ftbStatus 7 = true ∧ t.ppsOk = true ∧
    t.ftb.goodRun = 0 ∧ t.ftbState = s.ftbState) ∧
  (∀ (s : State), s.live = true → s.ftb.heldBegin = false → ∃ t, exec .frameEdge s = .next t ∧ t.ftb.tick = 0 ∧
    t.ftb.frame = s.ftb.frame + 1 ∧ t.ftb.clock = s.ftb.clock + (500000 - s.ftb.tick)) ∧
  (∀ (s : State), s.live = true → s.ftb.tick = 0 → s.frame % 60000 = 0 → s.mtr.minute ≠ some (minuteOf s.frame) →
    ∃ t, exec .minuteEdge s = .next t ∧ t.bit Reg.ftbEvent 9 = true ∧ t.ftb = s.ftb)

/-- The time of day, and the skew between the chips of a pair. While the device has power and runs, unless a clause says
otherwise: TOD_SEC_WRITE stores its word, the high one of 7 bits, while no load is armed. While one is armed it
changes neither word and sets TOD_BUSY. TOD_ARM sets ARM and notes the tick; a second TOD_ARM changes nothing.
TOD_APPLY at a second edge refuses an armed second that the rules refuse there: ARM clears, TOD_REFUSED is set and the
frame number stays. Otherwise it accepts it: TOD_VALID and TOD_APPLIED are set, ARM clears, and the frame number is
the armed second times 1,000. FRAME_COUNTER_READ answers the low word of the frame number and latches FTB_FRAME_HI and
FTB_CELL. A heartbeat on a link that is up stores the skew it shows, where 32 bits hold it, and with no condition
active raises one exactly where the skew exceeds 4,000 ticks. SKEW_RAISED_RX raises the condition, counts it and sets
its event. With the condition active a clearing proposal is recorded, and one of frame 0 withdraws both proposals.
From the agreed frame on PAIR_SKEW_CLEAR ends the agreement, sets PAIR_SKEW_CLEARED, and clears the condition unless a
skew above 4,000 ticks since the frame before raises it again. In every clause exec answers a next state, for:
todSecWrite, todArm, todApply, frameCounterRead, heartbeatRx, skewRaisedRx, skewClearProposalRx, pairSkewClear. Rests
on 02_frame_timebase.md. The model's own choices and readings in it are those of notes/assumptions/27, 28, 94. -/
def Obligations.TimeOfDayAndSkew : Prop :=
  (∀ (s : State) (hi : Bool) (v : Word), s.live = true → s.bit Reg.ftbTodCtl 0 = false →
    ∃ t, exec (.todSecWrite hi v) s = .next t ∧ (t.reg Reg.ftbTodSec = (if hi then s.reg Reg.ftbTodSec else v)) ∧
    (t.reg Reg.ftbTodSecHi = (if hi then v &&& 0x7F else s.reg Reg.ftbTodSecHi))) ∧
  (∀ (s : State) (hi : Bool) (v : Word), s.live = true → s.bit Reg.ftbTodCtl 0 = true →
    ∃ t, exec (.todSecWrite hi v) s = .next t ∧ t.bit Reg.ftbEvent 6 = true ∧
    t.reg Reg.ftbTodSec = s.reg Reg.ftbTodSec ∧ t.reg Reg.ftbTodSecHi = s.reg Reg.ftbTodSecHi) ∧
  (∀ (s : State), s.live = true → ∃ t, exec .todArm s = .next t ∧ t.bit Reg.ftbTodCtl 0 = true ∧
    (t.ftb.todArmAt = (if s.bit Reg.ftbTodCtl 0 then s.ftb.todArmAt else s.now))) ∧
  (∀ (s : State), s.live = true → s.todDue = true → s.todRefused s.frame = true → ∃ t, exec .todApply s = .next t ∧
    t.bit Reg.ftbTodCtl 0 = false ∧ t.bit Reg.ftbEvent 5 = true ∧ t.ftb.frame = s.ftb.frame) ∧
  (∀ (s : State), s.live = true → s.todDue = true → s.todRefused s.frame = false → ∃ t, exec .todApply s = .next t ∧
    t.todValid = true ∧ t.bit Reg.ftbTodCtl 0 = false ∧ t.bit Reg.ftbEvent 4 = true ∧
    t.ftb.frame = BitVec.ofNat 48 (s.todSecond * 1000)) ∧
  (∀ (s : State), s.live = true → ∃ t, exec .frameCounterRead s = .next t ∧
    t.out = Out.read (BitVec.ofNat 32 s.frame) :: s.out ∧ t.reg Reg.ftbFrameHi = BitVec.ofNat 32 (s.frame / 2 ^ 32) ∧
    t.reg Reg.ftbCell = BitVec.ofNat 32 (s.ftb.tick / 2000 + s.ftb.tick % 2000 * 65536)) ∧
  (∀ (s : State) (hb : Heartbeat), s.live = true → s.linkUp = true → s.bit Reg.ftbStatus 8 = false →
    ∃ t, exec (.heartbeatRx hb) s = .next t ∧ ((s.skewOf hb).natAbs < 2 ^ 31 →
    t.reg Reg.ftbPairSkew = BitVec.ofInt 32 (s.skewOf hb)) ∧
    t.bit Reg.ftbStatus 8 = decide (4000 < (s.skewOf hb).natAbs)) ∧
  (∀ (s : State), s.live = true → s.bit Reg.ftbStatus 8 = false → ∃ t, exec .skewRaisedRx s = .next t ∧
    t.bit Reg.ftbStatus 8 = true ∧ t.num Reg.ftbPairSkewCnt = satAdd 32 (s.num Reg.ftbPairSkewCnt) 1 ∧
    t.bit Reg.ftbEvent 7 = true) ∧
  (∀ (s : State) (f : Nat), s.live = true → s.bit Reg.ftbStatus 8 = true →
    ∃ t, exec (.skewClearProposalRx f) s = .next t ∧ (t.ftb.peerProp = (if f = 0 then none else some f)) ∧ (f = 0 →
    t.ftb.ownProp = none)) ∧
  (∀ (s : State) (f : Nat), s.live = true → s.skewAgreed = some f → f ≤ s.frame → s.bit Reg.ftbStatus 8 = true →
    ∃ t, exec .pairSkewClear s = .next t ∧ t.bit Reg.ftbStatus 8 = s.ftb.reraise ∧ t.bit Reg.ftbEvent 8 = true ∧
    t.skewAgreed = none)

/-- Loading, arming and disarming a prism image. While the device has power and runs, unless a clause says otherwise:
PRX_LOAD from a core of a claimed device, with no load, arm or switch in its way, drops the staged image and shows
CHECKING. With one in its way it fails with BUSY, is counted and leaves the staged image. IMAGE_CHECKS_DONE, once
every byte has arrived and SRAM_BIST does not run, ends CHECKING, stages an image that passes every check with
LOAD_STATUS 0, and keeps the staged one otherwise. PRX_DISCARD drops the staged image while nothing is armed. While
armed it changes nothing. PRX_ARM without an explicit frame, of an image that does not wait for the partner, takes the
first boundary three frames ahead in Run and one ahead in Park. With an explicit frame that is a boundary and far
enough ahead it takes that frame. In a joined pair an image of the pair waits for the partner's report, with none at
hand. Without a staged image it is refused with ARM_ERR 0x01. While a test runs that Park alone allows the arm is
deferred. An accepted report that no arm waits for is kept. A refusal ends a waiting arm with ARM_ERR 0x08. A
withdrawn one is forgotten. ARM_WAIT_TIMEOUT, 1,000 frames after the arm, refuses a waiting arm with ARM_ERR 0x08.
PRX_DISARM ends an arm whose switch is not committed and keeps the staged image. It changes nothing once the switch is
committed. SWITCH_COMMIT at F - 2 or later commits the switch. In every clause exec answers a next state, for:
prxLoad, imageChecksDone, prxDiscard, prxArm, armReportRx, armWaitTimeout, prxDisarm, switchCommit. Rests on
03_prism_image.md. The model's own choices and readings in it are those of notes/assumptions/5, 31, 99, 117. -/
def Obligations.ImageLoadAndArm : Prop :=
  (∀ (s : State) (n : Nat), s.live = true → n < 6 → s.bit Reg.secStatus 0 = true → s.loadBusy = false →
    ∃ t, exec (.prxLoad (.core n)) s = .next t ∧ t.prx.staged = none ∧ t.bit Reg.prxStatus 6 = true ∧
    t.bit Reg.prxStatus 4 = false) ∧
  (∀ (s : State) (n : Nat), s.live = true → n < 6 → s.bit Reg.secStatus 0 = true → s.loadBusy = true →
    ∃ t, exec (.prxLoad (.core n)) s = .next t ∧ t.prx.staged = s.prx.staged ∧ t.num Reg.prxLoadStatus = 0x20 ∧
    t.bit Reg.prxEvent 1 = true ∧ t.num Reg.prxLoadFailCnt = satAdd 32 (s.num Reg.prxLoadFailCnt) 1) ∧
  (∀ (s : State) (b : List Byte), s.live = true → s.bit Reg.prxStatus 6 = true → s.testRunning ≠ some 8 →
    (s.internBusy (fun k _ => k == .image) = false) → ∃ t, exec (.imageChecksDone b) s = .next t ∧
    (t.prx.staged = (match checkImage s.checkCtx b with | none => some (readImage b) | some _ => s.prx.staged)) ∧
    t.bit Reg.prxStatus 6 = false ∧ ((checkImage s.checkCtx b).isNone → t.num Reg.prxLoadStatus = 0 ∧
    t.bit Reg.prxStatus 4 = true ∧ t.bit Reg.prxEvent 0 = true) ∧ ((checkImage s.checkCtx b).isSome →
    t.bit Reg.prxEvent 1 = true)) ∧
  (∀ (s : State) (n : Nat), s.live = true → n < 6 → s.arming = false → ∃ t, exec (.prxDiscard (.core n)) s = .next t ∧
    t.prx.staged = none ∧ t.bit Reg.prxStatus 4 = false ∧ t.num Reg.prxStagedId = 0) ∧
  (∀ (s : State) (n : Nat), s.live = true → n < 6 → s.arming = true → ∃ t, exec (.prxDiscard (.core n)) s = .next t ∧
    t = s) ∧
  (∀ (s : State) (n : Nat) (j : Image), s.live = true → n < 6 → s.arming = false →
    (s.testRunning.all (fun k => !parkOnlyTest k)) → s.explicitF = 0 → ¬ (j.pairMode = 1 ∧ s.joined = true) →
    s.prx.staged = some j → s.mch.profile.map (·.digest) = some j.profileDigest → s.prxState ≠ 2 →
    s.prx.parkHeld = false → ∃ t, exec (.prxArm (.core n)) s = .next t ∧
    (t.prx.switchF = some (nextMultiple (s.switchCycle j) (if s.inRun then s.frame + 3 else s.frame + 1))) ∧
    t.bit Reg.prxArm 0 = true ∧ t.bit Reg.prxStatus 5 = true ∧ t.num Reg.prxArmStatus = 0) ∧
  (∀ (s : State) (n : Nat) (j : Image), s.live = true → n < 6 → s.arming = false →
    (s.testRunning.all (fun k => !parkOnlyTest k)) → s.explicitF ≠ 0 → s.explicitF % s.switchCycle j = 0 →
    ((if s.inRun then s.frame + 2 else s.frame) < s.explicitF) → ¬ (j.pairMode = 1 ∧ s.joined = true) →
    s.prx.staged = some j → s.mch.profile.map (·.digest) = some j.profileDigest → s.prxState ≠ 2 →
    s.prx.parkHeld = false → ∃ t, exec (.prxArm (.core n)) s = .next t ∧ t.prx.switchF = some s.explicitF ∧
    t.bit Reg.prxArm 0 = true ∧ t.bit Reg.prxStatus 5 = true) ∧
  (∀ (s : State) (n : Nat) (j : Image), s.live = true → n < 6 → s.arming = false →
    (s.testRunning.all (fun k => !parkOnlyTest k)) → s.explicitF = 0 → j.pairMode = 1 → s.joined = true →
    s.prx.peerArm = none → s.prx.staged = some j → s.mch.profile.map (·.digest) = some j.profileDigest →
    s.prxState ≠ 2 → s.prx.parkHeld = false → ∃ t, exec (.prxArm (.core n)) s = .next t ∧ t.prx.armWait = true ∧
    t.bit Reg.prxArm 0 = true ∧ t.prx.armFrame = s.frame ∧ t.prx.switchF = s.prx.switchF) ∧
  (∀ (s : State) (n : Nat), s.live = true → n < 6 → s.arming = false → (s.testRunning.all (fun k => !parkOnlyTest k)) →
    s.prx.staged = none → ∃ t, exec (.prxArm (.core n)) s = .next t ∧ t.bit Reg.prxArm 0 = false ∧
    t.num Reg.prxArmStatus = 1 ∧ t.prx.switchF = none) ∧
  (∀ (s : State) (n k : Nat), s.live = true → n < 6 → s.arming = false → s.testRunning = some k →
    parkOnlyTest k = true → ∃ t, exec (.prxArm (.core n)) s = .next t ∧ t.bit Reg.prxArm 0 = true ∧
    t.mcr.armDeferred = true ∧ t.prx.switchF = s.prx.switchF) ∧
  (∀ (s : State) (r : ArmReport), s.live = true → r.verdict = .accepted → s.prx.armWait = false →
    ∃ t, exec (.armReportRx r) s = .next t ∧ t.prx.peerArm = some r) ∧
  (∀ (s : State) (r : ArmReport), s.live = true → r.verdict = .refused → s.prx.armWait = true →
    ∃ t, exec (.armReportRx r) s = .next t ∧ t.prx.armWait = false ∧ t.bit Reg.prxArm 0 = false ∧
    t.num Reg.prxArmStatus = 8 ∧ t.prx.peerArm = none) ∧
  (∀ (s : State) (r : ArmReport), s.live = true → r.verdict = .withdrawn → ∃ t, exec (.armReportRx r) s = .next t ∧
    t.prx.peerArm = none ∧ t.prx.armWait = s.prx.armWait) ∧
  (∀ (s : State), s.live = true → s.prx.armWait = true → s.prx.armFrame + 1000 ≤ s.frame →
    ∃ t, exec .armWaitTimeout s = .next t ∧ t.prx.armWait = false ∧ t.bit Reg.prxArm 0 = false ∧
    t.num Reg.prxArmStatus = 8) ∧
  (∀ (s : State) (n : Nat), s.live = true → n < 6 → s.arming = true → s.switchCommitted = false →
    ∃ t, exec (.prxDisarm (.core n)) s = .next t ∧ t.prx.switchF = none ∧ t.prx.staged = s.prx.staged ∧
    t.bit Reg.prxArm 0 = false) ∧
  (∀ (s : State) (n : Nat), s.live = true → n < 6 → s.switchCommitted = true →
    ∃ t, exec (.prxDisarm (.core n)) s = .next t ∧ t = s) ∧
  (∀ (s : State) (f : Nat), s.live = true → s.prx.switchF = some f → f ≤ s.frame + 2 →
    ∃ t, exec .switchCommit s = .next t ∧ t.switchCommitted = true ∧ t.prx.committed = true)

/-- The image switch, Park, and the conditions that select a variant. While the device has power and runs, unless a clause
says otherwise: IMAGE_SWITCH at F:0 makes the staged image the active one, ends the arm, shows its identifier, and
leaves the device in Run. A Park request in Run with nothing armed shows PARKING and notes the next cycle boundary.
One that meets an arm whose switch is not committed refuses the arm with ARM_ERR 0x07. One that meets a committed
switch is held until it. PARK_ENTERED, from the boundary on with every charged command complete, parks without an
active image. VARIANT_SWITCH makes the variant that is due the running one and counts it. PRX_TOKEN_TRIM for a VF with
a tenant entry keeps the trim, at most 0x1_0000, for the next frame edge. A junction sample at or above 100 C raises
the thermal condition. One between 95 and 100 C leaves it as it is and starts its cool frames afresh. One at or below
95 C keeps it and notes since when it has been cool. THERMAL_CONDITION_CLEAR clears it 1,000 frames later. DRIFT_CLEAR
clears ENVELOPE_DRIFT when the last excursion lies more than DRIFT_WINDOW frames back. PHASE_MISMATCH_CLEAR clears the
phase mismatch after 1,000 agreeing heartbeats. VARIANT_3_REPORT_RX records whether the partner is in variant 3. In
every clause exec answers a next state, for: imageSwitch, prxParkReq, parkEntered, variantSwitch, prxTokenTrim,
junctionTempSample, thermalConditionClear, driftClear, phaseMismatchClear, variant3ReportRx. Rests on
03_prism_image.md. The model's own choices and readings in it are those of notes/assumptions/31, 32, 95, 96. -/
def Obligations.ImageSwitchAndVariants : Prop :=
  (∀ (s : State) (f : Nat) (j : Image), s.live = true → s.prx.switchF = some f → s.prx.staged = some j →
    s.switchNow f j = true → ∃ t, exec .imageSwitch s = .next t ∧ t.prx.active = some j ∧ t.prx.staged = none ∧
    t.prx.switchF = none ∧ t.bit Reg.prxArm 0 = false ∧ t.reg Reg.prxActiveId = j.id ∧ t.inRun = true ∧
    t.bit Reg.prxEvent 2 = true) ∧
  (∀ (s : State) (n : Nat), s.live = true → n < 6 → s.prxState = 1 → s.arming = false →
    ∃ t, exec (.prxParkReq (.core n)) s = .next t ∧ t.prxState = 2 ∧ t.prx.parkAt = some s.nextCycle) ∧
  (∀ (s : State) (n : Nat), s.live = true → n < 6 → s.arming = true → s.switchCommitted = false →
    ∃ t, exec (.prxParkReq (.core n)) s = .next t ∧ t.num Reg.prxArmStatus = 7 ∧ t.bit Reg.prxArm 0 = false ∧
    (s.prxState = 1 → t.prxState = 2)) ∧
  (∀ (s : State) (n : Nat), s.live = true → n < 6 → s.arming = true → s.switchCommitted = true →
    ∃ t, exec (.prxParkReq (.core n)) s = .next t ∧ t.prx.parkHeld = true ∧ t.regs = s.regs) ∧
  (∀ (s : State) (f : Nat), s.live = true → s.prxState = 2 → s.prx.parkAt = some f → f ≤ s.frame → s.drained = true →
    ∃ t, exec .parkEntered s = .next t ∧ t.prxState = 0 ∧ t.prx.active = none ∧ t.num Reg.prxActiveId = 0 ∧
    t.bit Reg.prxEvent 10 = true) ∧
  (∀ (s : State) (i : Image) (v : Nat), s.live = true → s.prx.active = some i → s.inRun = true →
    s.variantDue i = some v → ∃ t, exec .variantSwitch s = .next t ∧ t.variant = v ∧ t.bit Reg.prxEvent 4 = true ∧
    t.num Reg.prxVariantCnt = satAdd 32 (s.num Reg.prxVariantCnt) 1) ∧
  (∀ (s : State) (n : Nat) (v : Word) (i : Image) (e : TenantEntry), s.live = true → n < 6 → s.prx.active = some i →
    i.tenant? (s.field Reg.prxTrimSel 0 13) = some e → ∃ t, exec (.prxTokenTrim (.core n) v) s = .next t ∧
    (t.prx.trims.get (2 * s.field Reg.prxTrimSel 0 13 + s.field Reg.prxTrimSel 16 1)).pending = some (min (v.toNat %
    2 ^ 17) 0x10000)) ∧
  (∀ (s : State) (v : Int), s.live = true → 25600 ≤ v → ∃ t, exec (.junctionTempSample v) s = .next t ∧
    t.prx.tj256 = v ∧ t.prx.thermal = true ∧ t.bit Reg.prxStatus 11 = true) ∧
  (∀ (s : State) (v : Int), s.live = true → 24320 < v → v < 25600 → ∃ t, exec (.junctionTempSample v) s = .next t ∧
    t.prx.tj256 = v ∧ t.prx.thermal = s.prx.thermal ∧ t.prx.coolFrom = none) ∧
  (∀ (s : State) (v : Int), s.live = true → v ≤ 24320 → s.prx.thermal = true →
    ∃ t, exec (.junctionTempSample v) s = .next t ∧ t.prx.tj256 = v ∧ t.prx.thermal = true ∧
    t.prx.coolFrom = some (s.prx.coolFrom.getD s.now)) ∧
  (∀ (s : State) (f : Nat), s.live = true → s.prx.thermal = true → s.prx.coolFrom = some f →
    f + 1000 * 500000 ≤ s.now → ∃ t, exec .thermalConditionClear s = .next t ∧ t.prx.thermal = false ∧
    t.bit Reg.prxStatus 11 = false) ∧
  (∀ (s : State) (i : Image), s.live = true → s.prx.active = some i →
    (s.prx.excursions.all (fun f => decide (f + i.window < s.frame))) → ∃ t, exec .driftClear s = .next t ∧
    t.bit Reg.prxStatus 7 = false) ∧
  (∀ (s : State), s.live = true → s.prx.phaseMismatch = true → 1000 ≤ s.prx.phaseRun →
    ∃ t, exec .phaseMismatchClear s = .next t ∧ t.prx.phaseMismatch = false) ∧
  (∀ (s : State) (e : Bool), s.live = true → ∃ t, exec (.variant3ReportRx e) s = .next t ∧ t.prx.peerThermal = e)

/-- Stages are admitted into slots, and slots begin, end and complete. While the device has power and runs, unless a
clause says otherwise: STAGE_ADMIT of a due stage of a bounded command admits it into the earliest slot with owned
capacity for it. That of a best-effort command goes into the earliest unowned or lendable slot with room. Where none
has room it waits, and nothing changes. SLOT_START where owned stages are admitted to the slot, other than of the
host's data, marks its capacity as taken. Where none is admitted to it, a slot that is neither a PROGRAM nor an
AROUND_SERVE slot counts as lent where it is lent. A slot whose lane is still held waits for it. SLOT_START on a
HOST_DELIVER lane notes whether the host's flow control holds deliveries. SLOT_END with an operation of the slot still
on its die, outside ERASE and GATE slots and with no admission or late slot of the lane, is an overrun. CQE_POST of a
command with a status, whose function may use host memory, whose completion queue has room and whose entry has a
translation, posts the entry and ends the command. With a full queue it waits, is counted, and nothing is posted. Held
by the host, it waits with the event HOST. A holdoff timer that has run out stops and clears the pending counts of its
function. MSIX_UNMASK unmasks a vector. Without a vector it unmasks the function. In every clause exec answers a next
state, for: stageAdmit, slotStart, slotEnd, cqePost, holdoffTimerExpiry, msixUnmask. Rests on 03_prism_image.md,
05_media_attachment.md, 10_functions_and_queues.md. The model's own choices and readings in it are those of
notes/assumptions/33, 34, 97, 98, 104, 105, 127, 129, 130. -/
def Obligations.AdmissionAndSlots : Prop :=
  (∀ (s : State) (c : CmdId) (k : StageKind) (lane n : Nat) (x : Cmd) (a : Adm) (p : Nat × SlotAt), s.live = true →
    s.cmd? c = some x → s.inRun = true → x.admin = false → x.status = none → stageClassOk k (laneClass lane) = true →
    s.laneVoid lane = false → s.dueStage x k lane n = some a → x.bounded = true → x.beyond = false → a.best = false →
    (s.earliest [a.lane] (fun l => s.ownedFits x { a with lane := l }) = some p) →
    ∃ t, exec (.stageAdmit c k lane n) s = .next t ∧
    t.prx.adms = s.prx.adms ++
    [{ a with lane := p.1, start := p.2.start, stop := p.2.stop, owned := true, started := false }] ∧
    ((t.cmd? c).map (fun (y : Cmd) => y.admitted) = some true)) ∧
  (∀ (s : State) (c : CmdId) (k : StageKind) (lane n : Nat) (x : Cmd) (a : Adm) (p : Nat × SlotAt), s.live = true →
    s.cmd? c = some x → s.inRun = true → x.admin = false → x.status = none → stageClassOk k (laneClass lane) = true →
    s.laneVoid lane = false → s.dueStage x k lane n = some a → x.bounded = false →
    (s.earliest [a.lane] (fun l => s.freeFits x { a with lane := l }) = some p) →
    ∃ t, exec (.stageAdmit c k lane n) s = .next t ∧
    t.prx.adms = s.prx.adms ++
    [{ a with lane := p.1, start := p.2.start, stop := p.2.stop, owned := false, started := false }] ∧
    ((t.cmd? c).map (fun (y : Cmd) => y.admitted) = some true)) ∧
  (∀ (s : State) (c : CmdId) (k : StageKind) (lane n : Nat) (x : Cmd) (a : Adm), s.live = true → s.cmd? c = some x →
    s.inRun = true → x.admin = false → x.status = none → stageClassOk k (laneClass lane) = true →
    s.laneVoid lane = false → s.dueStage x k lane n = some a → x.bounded = false →
    (s.earliest [a.lane] (fun l => s.freeFits x { a with lane := l }) = none) →
    ∃ t, exec (.stageAdmit c k lane n) s = .next t ∧ t = s) ∧
  (∀ (s : State) (lane : Nat) (h : Bool) (y : SlotAt), s.live = true → s.inRun = true →
    ((s.laneSlots lane).find? (fun z => z.start == s.cell) = some y) → s.laneHeld lane y = false →
    (s.waitingAdms lane y).any (·.owned) = true → y.slot.kind ≠ 7 → y.slot.kind ≠ 8 →
    ∃ t, exec (.slotStart ⟨lane, h⟩) s = .next t ∧ t.prx.tookOwned.get lane = y.start + 1) ∧
  (∀ (s : State) (lane : Nat) (h : Bool) (y : SlotAt), s.live = true → s.inRun = true →
    ((s.laneSlots lane).find? (fun z => z.start == s.cell) = some y) → s.laneHeld lane y = false →
    s.waitingAdms lane y = [] → y.slot.kind ≠ 2 → y.slot.kind ≠ 4 → ∃ t, exec (.slotStart ⟨lane, h⟩) s = .next t ∧
    (t.num Reg.prxLentCnt = (if s.lentNow lane y then satAdd 32 (s.num Reg.prxLentCnt) 1 else s.num Reg.prxLentCnt))) ∧
  (∀ (s : State) (lane : Nat) (h : Bool) (y : SlotAt), s.live = true → s.inRun = true →
    ((s.laneSlots lane).find? (fun z => z.start == s.cell) = some y) → s.laneHeld lane y = true →
    ∃ t, exec (.slotStart ⟨lane, h⟩) s = .next t ∧ t.prx.lateSlots = s.prx.lateSlots ++ [(lane, y.start)] ∧
    t.prx.adms = s.prx.adms) ∧
  (∀ (s : State) (lane : Nat) (h : Bool), s.live = true → laneClass lane = LaneClass.deliver →
    ∃ t, exec (.slotStart ⟨lane, h⟩) s = .next t ∧ t.hpt.stalled = h) ∧
  (∀ (s : State) (lane : Nat) (y : SlotAt) (op : DieOp), s.live = true → s.inRun = true → lane < 512 →
    s.endingSlot lane = some y → y.slot.kind ≠ 3 → y.slot.kind ≠ 5 → (s.die lane).run = some op →
    op.slotEnd = y.stop → op.overran = false → op.ready = false → s.prx.lateSlots = [] →
    (s.prx.adms.all (fun a => a.lane != lane) = true) → ∃ t, exec (.slotEnd lane) s = .next t ∧
    (t.die lane).run = some { op with overran := true } ∧ t.num Reg.prxOverrunLane = lane ∧
    t.num Reg.prxOverrunCnt = satAdd 32 (s.num Reg.prxOverrunCnt) 1 ∧ t.bit Reg.prxEvent 5 = true) ∧
  (∀ (s : State) (c : CmdId) (x : Cmd) (st : Nat) (k : Cq), s.live = true → s.cmd? c = some x → x.status = some st →
    lookupKey (s.cqOf c) (s.fn c.fn).cqs = some k → (s.internBusy (fun _ x => x == some c) = false) →
    s.dmaOk c.fn = true → (s.fn c.fn).life ≠ .flr → k.used + 1 < k.size →
    s.xlatOk c.fn ((k.base + k.slot * 16) / 4096) = true → ∃ t, exec (.cqePost ⟨c, false⟩) s = .next t ∧
    t.cmd? c = none ∧ Out.cqe c.fn c.qid c.cid st x.dnr x.dw0 ∈ t.out) ∧
  (∀ (s : State) (c : CmdId) (x : Cmd) (st : Nat) (k : Cq), s.live = true → s.cmd? c = some x → x.status = some st →
    lookupKey (s.cqOf c) (s.fn c.fn).cqs = some k → (s.internBusy (fun _ x => x == some c) = false) →
    s.dmaOk c.fn = true → (s.fn c.fn).life ≠ .flr → k.size ≤ k.used + 1 → (s.fn c.fn).cqWaits.contains c = false →
    ∃ t, exec (.cqePost ⟨c, false⟩) s = .next t ∧ (t.cmd? c).isSome = true ∧
    t.num Reg.qenCqWaitCnt = satAdd 32 (s.num Reg.qenCqWaitCnt) 1 ∧ (t.fn c.fn).cqWaits = c :: (s.fn c.fn).cqWaits ∧
    t.out = s.out) ∧
  (∀ (s : State) (c : CmdId) (x : Cmd) (st : Nat) (k : Cq) (h : Bool), s.live = true → s.cmd? c = some x →
    x.status = some st → lookupKey (s.cqOf c) (s.fn c.fn).cqs = some k →
    (s.internBusy (fun _ x => x == some c) = false) → (h = true ∨ s.dmaOk c.fn = false ∨ (s.fn c.fn).life = .flr) →
    ∃ t, exec (.cqePost ⟨c, h⟩) s = .next t ∧ t.cmd? c = some (x.meet 7) ∧ t.out = s.out) ∧
  (∀ (s : State) (f n : Nat), s.live = true → (s.fn f).timerAt = some n → n + (s.fn f).holdoffUs * 500 ≤ s.now →
    ∃ t, exec (.holdoffTimerExpiry f) s = .next t ∧ (t.fn f).timerAt = none ∧ (t.fn f).pendCnt.entries = []) ∧
  (∀ (s : State) (f v : Nat), s.live = true → ∃ t, exec (.msixUnmask f (some v)) s = .next t ∧
    (t.fn f).unmasked.get v = true) ∧
  (∀ (s : State) (f : Nat), s.live = true → ∃ t, exec (.msixUnmask f none) s = .next t ∧ (t.fn f).fmask = false)

/-- Media channels come up and go, and dies carry operations out. While the device has power and runs, unless a clause
says otherwise: BRINGUP of a refused or lost channel starts its bring-up. The end of a bring-up makes the channel up
or refused as the facts found say. RETIRE of a channel in bring-up or up loses it. A retraining that is due and passes
clears the count of failures and notes its time. The first that fails is counted, and the channel stays up. A second
in succession loses the channel. A rising RB_N edge reads the status of each LUN of its target that runs an operation.
A status poll that is due reads the status, notes a ready die, and is due again POLL_INTERVAL later. An operation that
took longer than its worst case counts an excursion, and no other does. One not ready by twice its worst case is reset
and counted. A program that passed ends its program unit and counts its units as programmed. One that failed is
counted, and raises its event. A reading of a die's temperature that is due is stored with its frame. In every clause
exec answers a next state, for: mchChBringup, channelBringupDone, mchChRetire, channelRetrain, rbNRise, statusPoll,
dieOpComplete, dieOpTimeout, programDone, dieTempRead. Rests on 05_media_attachment.md. The model's own choices and
readings in it are those of notes/assumptions/38, 102, 103. -/
def Obligations.ChannelsAndDies : Prop :=
  (∀ (s : State) (n ch : Nat), s.live = true → n < 6 → ch < 32 → (s.chState ch = 3 ∨ s.chState ch = 4) →
    ∃ t, exec (.mchChBringup (.core n) ch) s = .next t ∧ t.chState ch = 1 ∧ t.bit Reg.mchChUp ch = false ∧
    t.bit Reg.mchGstatus 1 = true) ∧
  (∀ (s : State) (ch : Nat) (f : BringupFacts), s.live = true → ch < 32 → s.chState ch = 1 →
    ∃ t, exec (.channelBringupDone ch f) s = .next t ∧
    (t.chState ch = (match bringupOutcome s.mch.profile s.diesPerCh f with | .inl _ => 3 | .inr _ => 2))) ∧
  (∀ (s : State) (n ch : Nat), s.live = true → n < 6 → ch < 32 → (s.chState ch = 1 ∨ s.chState ch = 2) →
    ∃ t, exec (.mchChRetire (.core n) ch) s = .next t ∧ t.chState ch = 4) ∧
  (∀ (s : State) (ch : Nat), s.live = true → ch < 32 → s.retrainDue ch = true →
    ∃ t, exec (.channelRetrain ch true) s = .next t ∧ t.mch.retrain.get ch = 0 ∧ t.mch.trainedC.get ch = s.cell ∧
    t.chUp ch = true) ∧
  (∀ (s : State) (ch : Nat), s.live = true → ch < 32 → s.retrainDue ch = true → s.mch.retrain.get ch = 0 →
    ∃ t, exec (.channelRetrain ch false) s = .next t ∧ t.mch.retrain.get ch = 1 ∧
    t.num (Reg.mchChRetrainCnt ch) = satAdd 32 (s.num (Reg.mchChRetrainCnt ch)) 1 ∧ t.chUp ch = true) ∧
  (∀ (s : State) (ch : Nat), s.live = true → ch < 32 → s.retrainDue ch = true → 1 ≤ s.mch.retrain.get ch →
    ∃ t, exec (.channelRetrain ch false) s = .next t ∧ t.chState ch = 4) ∧
  (∀ (s : State) (ch g l : Nat), s.live = true → l < 4 → (s.die (ch * 16 + g * 4 + l)).run.isSome = true →
    ∃ t, exec (.rbNRise ch g) s = .next t ∧ Out.die (ch * 16 + g * 4 + l) 10 ∈ t.out) ∧
  (∀ (s : State) (lane : Nat) (r : Bool) (op : DieOp), s.live = true → (s.die lane).run = some op → op.pollAt ≤ s.now →
    ∃ t, exec (.statusPoll lane r) s = .next t ∧ t.out = Out.die lane 10 :: s.out ∧
    (t.die lane).run = some { op with pollAt := s.now + s.timing 13, ready := op.ready || r }) ∧
  (∀ (s : State) (lane d : Nat) (r : OpResult) (op : DieOp), s.live = true → (s.die lane).run = some op →
    ∃ t, exec (.dieOpComplete lane d r) s = .next t ∧
    (t.num Reg.prxExcursionCnt = (if op.worst < (d + 1) / 2 then satAdd 32 (s.num Reg.prxExcursionCnt) 1 else s.num
    Reg.prxExcursionCnt))) ∧
  (∀ (s : State) (lane : Nat) (op : DieOp), s.live = true → lane < 512 → (s.die lane).run = some op →
    s.chUp (lane / 16) = true → op.start + 2 * op.worst ≤ s.now → ∃ t, exec (.dieOpTimeout lane) s = .next t ∧
    Out.die lane 6 ∈ t.out ∧
    t.num (Reg.mchChTimeoutCnt (lane / 16)) = satAdd 32 (s.num (Reg.mchChTimeoutCnt (lane / 16))) 1) ∧
  (∀ (s : State) (lane : Nat) (p : ProgUnit), s.live = true →
    (s.wrp.progs.find? (fun p => p.lane == lane && p.started) = some p) →
    ∃ t, exec (.programDone lane .pass) s = .next t ∧ t.mcr.window = (s.noteWa s.progUnits 0).mcr.window ∧
    (t.wrp.progs.all (fun q => q.pid != p.pid) = true)) ∧
  (∀ (s : State) (lane : Nat) (p : ProgUnit), s.live = true → lane < 512 →
    (s.wrp.progs.find? (fun p => p.lane == lane && p.started) = some p) → p.lane = lane → s.dieUsable lane = true →
    ∃ t, exec (.programDone lane .fail) s = .next t ∧
    t.num Reg.wrpProgFailCnt = satAdd 32 (s.num Reg.wrpProgFailCnt) 1 ∧ t.bit Reg.wrpEvent 1 = true) ∧
  (∀ (s : State) (lane : Nat) (v : Int), s.live = true → lane < 512 → s.tempDue lane = true →
    ∃ t, exec (.dieTempRead lane v) s = .next t ∧
    t.num (Reg.mchChDieTemp (lane / 16) (lane % 16)) = (v % 256).toNat + 2 ^ 8 ∧ (t.die lane).tempAt = some s.frame)

/-- Reads look a unit up, decode it, and go around a busy die. While the device has power and runs, unless a clause says
otherwise: A request of the partner for an unmapped or ZERO unit of a paired namespace, in variant 0 or 2, is answered
at once and counted. One for a unit on a usable die, without RESCUE, joins the requests served. One in variant 1 or 3,
or for a namespace that is not a paired one here, is answered as refused and counted. A response to a tag that is not
outstanding counts as late. One with data or zeros for a unit that waits for it ends its tag; with data the unit is
recovered. A request without SOFT that left longer ago than its time limit is abandoned. MAP_LOOKUP of a command that
reads, with its lists there, not looked up yet and admitted, notes the look-up and counts those that missed the cache.
A hard decode in progress of a unit's own location that converges recovers the unit, no slot being late. One for the
partner that converges is answered and counted. A soft pass that fails with passes left goes on to the next pass, of
three reads. One of a unit's own location that converges recovers the unit. One for the partner that converges is
answered and counted. In every clause exec answers a next state, for: areadReqRx, areadRspRx, aroundTmo, mapLookup,
decodeDone, softDecodePassDone. Rests on 06_read_path.md. The model's own choices and readings in it are those of
notes/assumptions/41, 42, 106, 128. -/
def Obligations.ReadPath : Prop :=
  (∀ (s : State) (r : AreadReq), s.live = true → (s.ns r.nsid).present = true → (s.ns r.nsid).paired = true →
    (s.variant = 0 ∨ s.variant = 2) →
    (s.resolve r.nsid (r.index * (s.ns r.nsid).parts + r.part) = .unmapped ∨ s.resolve r.nsid (r.index * (s.ns
    r.nsid).parts + r.part) = .zero) → ∃ t, exec (.areadReqRx r) s = .next t ∧
    t.num Reg.rdpAroundServedCnt = satAdd 32 (s.num Reg.rdpAroundServedCnt) 1 ∧
    (t.rdp.serving = s.rdp.serving.filter (fun (v : Serve) => v.req.tag != r.tag))) ∧
  (∀ (s : State) (r : AreadReq) (loc : Nat), s.live = true → (s.ns r.nsid).present = true →
    (s.ns r.nsid).paired = true → (s.variant = 0 ∨ s.variant = 2) →
    s.resolve r.nsid (r.index * (s.ns r.nsid).parts + r.part) = .media loc → s.dieUsable (locLane loc) = true →
    r.rescue = false → ∃ t, exec (.areadReqRx r) s = .next t ∧
    t.rdp.serving = s.rdp.serving ++ [({ req := r, leg := { loc := loc, since := s.cell } } : Serve)]) ∧
  (∀ (s : State) (r : AreadReq), s.live = true →
    ((s.ns r.nsid).present = false ∨ (s.ns r.nsid).paired = false ∨ s.variant = 1 ∨ s.variant = 3) →
    ∃ t, exec (.areadReqRx r) s = .next t ∧
    t.num Reg.rdpAroundServedCnt = satAdd 32 (s.num Reg.rdpAroundServedCnt) 1 ∧
    (t.rdp.serving = s.rdp.serving.filter (fun (v : Serve) => v.req.tag != r.tag))) ∧
  (∀ (s : State) (tag st : Nat), s.live = true → s.rdp.sent.find? (·.tag == tag) = none →
    ∃ t, exec (.areadRspRx tag st) s = .next t ∧
    t.num Reg.rdpAroundLateCnt = satAdd 32 (s.num Reg.rdpAroundLateCnt) 1) ∧
  (∀ (s : State) (tag st : Nat) (a : Around) (r : RUnit) (soft : Bool), s.live = true →
    s.rdp.sent.find? (·.tag == tag) = some a → s.unit? a.cmd a.unit = some r → r.phase = .around tag soft → st ≤ 1 →
    ∃ t, exec (.areadRspRx tag st) s = .next t ∧
    (t.rdp.sent = s.rdp.sent.filter (fun (b : Around) => b.tag != tag)) ∧
    t.num Reg.rdpAroundLateCnt = s.num Reg.rdpAroundLateCnt ∧ (st = 0 →
    (t.unit? a.cmd a.unit).map (fun (q : RUnit) => q.phase) = some UPhase.recovered)) ∧
  (∀ (s : State) (tag : Nat) (a : Around) (n : Nat), s.live = true → s.rdp.sent.find? (·.tag == tag) = some a →
    a.soft = false → a.fallback = false → a.sentAt = some n → n + s.aroundTicks ≤ s.now →
    ∃ t, exec (.aroundTmo tag) s = .next t ∧ tag ∈ t.rdp.abandoned ∧ t.bit Reg.rdpEvent 1 = true) ∧
  (∀ (s : State) (c : CmdId) (n : Nat) (b : Bool) (x : Cmd), s.live = true → s.cmd? c = some x → x.admin = false →
    isReadOp x.op = true → x.looked = false → x.status = none → s.admitting = true → s.listing x = false →
    ∃ t, exec (.mapLookup c n none b) s = .next t ∧ t.num Reg.rdpMapDramCnt = satAdd 32 (s.num Reg.rdpMapDramCnt) n ∧
    ((t.cmd? c).map (fun (y : Cmd) => y.looked) = some true)) ∧
  (∀ (s : State) (c : CmdId) (u n : Nat) (q : RUnit) (g : Leg), s.live = true → s.unit? c u = some q →
    q.phase = .media .own → s.leg? (.unit c u none) = some g → s.decodes g false = true → s.prx.lateSlots = [] →
    ∃ t, exec (.decodeDone (.unit c u none) n .ok) s = .next t ∧
    ((t.unit? c u).map (fun (r : RUnit) => r.phase) = some UPhase.recovered)) ∧
  (∀ (s : State) (tag n : Nat) (v : Serve), s.live = true → s.rdp.serving.find? (·.req.tag == tag) = some v →
    s.decodes v.leg false = true → s.prx.lateSlots = [] → ∃ t, exec (.decodeDone (.served tag) n .ok) s = .next t ∧
    (t.rdp.serving = s.rdp.serving.filter (fun (b : Serve) => b.req.tag != tag)) ∧
    t.num Reg.rdpAroundServedCnt = satAdd 32 (s.num Reg.rdpAroundServedCnt) 1) ∧
  (∀ (s : State) (tag n : Nat) (v : Serve), s.live = true → s.rdp.serving.find? (·.req.tag == tag) = some v →
    s.decodes v.leg true = true → v.leg.passes + 1 < s.softPasses → s.prx.lateSlots = [] →
    ∃ t, exec (.softDecodePassDone (.served tag) n false) s = .next t ∧ s.leg? (.served tag) = some v.leg ∧
    t.leg? (.served tag) = some
    { v.leg with at_ := .wait, soft := true, shifted := false, passes := v.leg.passes + 1, reads := 0, since := s.cell }) ∧
  (∀ (s : State) (c : CmdId) (u n : Nat) (q : RUnit) (g : Leg), s.live = true → s.unit? c u = some q →
    q.phase = .media .own → s.leg? (.unit c u none) = some g → s.decodes g true = true → s.prx.lateSlots = [] →
    ∃ t, exec (.softDecodePassDone (.unit c u none) n true) s = .next t ∧
    ((t.unit? c u).map (fun (r : RUnit) => r.phase) = some UPhase.recovered)) ∧
  (∀ (s : State) (tag n : Nat) (v : Serve), s.live = true → s.rdp.serving.find? (·.req.tag == tag) = some v →
    s.decodes v.leg true = true → s.prx.lateSlots = [] →
    ∃ t, exec (.softDecodePassDone (.served tag) n true) s = .next t ∧
    (t.rdp.serving = s.rdp.serving.filter (fun (b : Serve) => b.req.tag != tag)) ∧
    t.num Reg.rdpAroundServedCnt = satAdd 32 (s.num Reg.rdpAroundServedCnt) 1)

/-- A write is staged, mirrored, programmed and verified, and a power-loss dump saves what is staged. While the device has
power and runs, unless a clause says otherwise: WRITE_STAGED, with the last unit fetched and encrypted and the sectors
to be merged there, ends the fill: none of the command's writes is in FILLING. STAGING_FREED takes a verified write
that no read holds out of staging; with no held write, merge or rewrite that waits, nothing else changes there and
STAGING_FULL clears. STRIPE_CLOSE_TIMEOUT of a stripe that has data and has stood open for WRP_STRIPE_TMO closes it
and makes a program unit for each member. JOURNAL_TAIL_BELOW_LIMIT leaves JOURNAL_FULL showing whether the tail stands
at its limit or a command still waits for room in it. CHECKPOINT_SEGMENT of a dirty segment whose checkpoint is not
being written begins it. FORCE begins the checkpoint of every dirty segment, where none is being written. A sample of
HOLDUP_SENSE, with the dump disabled, is shown and compared with the dump level. With the dump enabled, a second
sample in succession below the dump level starts the dump. PFAIL_N stops the device with a dump in progress and drops
every command. The end of the dump marks what was saved, shows its completion and its duration. In every clause exec
answers a next state, for: writeStaged, stagingFreed, stripeCloseTimeout, journalTailBelowLimit, checkpointSegment,
wrpCkptForce, holdupSenseSample, pfailAssert, dumpDone. Rests on 07_write_path.md. The model's own choices and
readings in it are those of notes/assumptions/43, 45, 100, 101, 106, 111, 112, 113. -/
def Obligations.WritesAndDump : Prop :=
  (∀ (s : State) (c : CmdId) (x : Cmd), s.live = true → s.cmd? c = some x → x.filling = true → x.toEnc = 0 →
    s.fetching x = false →
    ((s.wrp.writes.filter (fun w => w.state == .filling && x.wids.contains w.wid)).all (·.legs.isEmpty) = true) →
    ∃ t, exec (.writeStaged c) s = .next t ∧ ((t.cmd? c).map (fun (y : Cmd) => y.filling) = some false) ∧
    (t.wrp.writes.all (fun w => !(x.wids.contains w.wid) || w.state != WState.filling) = true)) ∧
  (∀ (s : State) (w : Nat), s.live = true → s.cmds.any (·.held) = false → s.rdp.repairs = [] →
    s.wrp.writes.all (·.due.isEmpty) = true → ∃ t, exec (.stagingFreed w) s = .next t ∧
    (t.wrp.writes = s.wrp.writes.filter (fun (x : SWrite) => !(x.wid == w && x.state == WState.verified && x.readers
    == 0))) ∧ t.bit Reg.wrpStatus 1 = false) ∧
  (∀ (s : State) (k : Nat) (q : Stripe), s.live = true → s.wrp.stripes.find? (·.sid == k) = some q →
    q.opened + max 1 (s.field Reg.wrpStripeTmo 0 16) ≤ s.frame → q.members.any (!·.2.isEmpty) = true →
    ∃ t, exec (.stripeCloseTimeout k) s = .next t ∧
    (t.wrp.stripes = s.wrp.stripes.filter (fun (x : Stripe) => x.sid != q.sid)) ∧
    t.wrp.progs.length = s.wrp.progs.length + q.members.length) ∧
  (∀ (s : State), s.live = true → ∃ t, exec .journalTailBelowLimit s = .next t ∧
    t.bit Reg.wrpStatus 2 = (decide (tailLimit ≤ t.wrp.tail.length) || !t.wrp.waiting.isEmpty)) ∧
  (∀ (s : State) (g : Nat), s.live = true → (lookupKey g s.wrp.dirty).isSome = true →
    s.wrp.ckpts.any (·.seg == g) = false → ∃ t, exec (.checkpointSegment g) s = .next t ∧
    (t.wrp.dirty = s.wrp.dirty.filter (fun (x : Nat × Nat) => x.1 != g)) ∧ t.wrp.ckpts.any (·.seg == g) = true) ∧
  (∀ (s : State) (n : Nat), s.live = true → n < 6 → s.wrp.ckpts = [] →
    ∃ t, exec (.wrpCkptForce (.core n)) s = .next t ∧ t.wrp.dirty = []) ∧
  (∀ (s : State) (v : BitVec 12), s.pwr.supply = .on → s.pwr.stop ≠ .dump → s.bit Reg.wrpDumpCtl 0 = false →
    ∃ t, exec (.holdupSenseSample v) s = .next t ∧ t.num Reg.wrpHoldupSense = v.toNat ∧
    t.wrp.senseLow = decide (v.toNat < s.field Reg.wrpHoldupCtl 16 12)) ∧
  (∀ (s : State) (v : BitVec 12), s.pwr.supply = .on → s.pwr.stop ≠ .dump → s.wrp.dumped = false →
    s.bit Reg.wrpDumpCtl 0 = true → s.wrp.senseLow = true → v.toNat < s.field Reg.wrpHoldupCtl 16 12 →
    ∃ t, exec (.holdupSenseSample v) s = .next t ∧ t.pwr.stop = Stop.dump ∧ t.wrp.dumped = true) ∧
  (∀ (s : State), s.pwr.supply = .on → s.pwr.stop ≠ .dump → s.wrp.dumped = false → ∃ t, exec .pfailAssert s = .next t ∧
    t.pwr.stop = Stop.dump ∧ t.wrp.dumped = true ∧ t.cmds = [] ∧ t.bit Reg.wrpStatus 4 = true) ∧
  (∀ (s : State), s.pwr.stop = .dump → s.bit Reg.wrpStatus 4 = true → ∃ t, exec .dumpDone s = .next t ∧
    t.bit Reg.wrpStatus 4 = false ∧ t.bit Reg.wrpStatus 5 = true ∧
    (t.wrp.saved = s.wrp.saved.map (fun (d : Saved) => { d with marked := true })) ∧
    t.field Reg.wrpDumpStatus 16 16 = min 65535 ((s.now - s.wrp.dumpAt) / 500))

/-- Care of the media, and device tests. While the device has power and runs, unless a clause says otherwise:
GC_FACTOR_REVIEW, 1,000 frames after the last baseline in stage 2 in Run, takes a new baseline, and lowers the factor
where the debt has not fallen. SCRUB_LATE of a usable die whose period has ended before its pass is shown and raised.
A calibration that is due steps the offsets of its block group toward the best ones and is counted. LIFE_FORECAST, a
day after the last or after a retirement or a loss, stores its estimate and raises the event. MCR_TEST_CTL with START,
from PF0 or a core that may write it, is refused with reason 2 while a test runs. Otherwise it starts the test on its
dies: a Park-only test in Park with nothing armed, SRAM_BIST with no image staged, the hold-up test where it may
begin. ABORT of an online test outside its slots ends it with state 5. Within one it is left to the end of the slot. A
Park-only test takes no abort. TEST_DONE of a test that is at its end, LINK_EYE apart, ends it with state 2, or with
state 3 and the failures. LINK_EYE ends with its event. A hold-up test that is due starts where no test runs and its
conditions hold, and notes the voltage. The end of its discharge stores the frame and the capacitance, and MCR_STATUS
shows one below the minimum. In every clause exec answers a next state, for: gcFactorReview, scrubLate,
calibrationDue, lifeForecast, mcrTestStart, mcrTestAbort, testDone, holdupTestDue, holdupTestEnd. Rests on
08_media_care.md. The model's own choices and readings in it are those of notes/assumptions/47, 48, 49, 100, 114, 115,
116, 131. -/
def Obligations.CareAndTests : Prop :=
  (∀ (s : State) (f : Nat), s.live = true → s.mcr.baseAt = some f → s.mcr.stage = 2 → s.inRun = true →
    f + 1000 ≤ s.frame → ∃ t, exec .gcFactorReview s = .next t ∧ t.mcr.baseAt = some (f + 1000) ∧
    t.mcr.baseline = s.gcDebt ∧
    (t.num Reg.mcrGcFactor = (if s.mcr.baseline ≤ s.gcDebt then max 8192 (s.gcFactor - 8192) else s.num
    Reg.mcrGcFactor))) ∧
  (∀ (s : State) (lane : Nat), s.live = true → s.populatedLane lane = true → s.dieUsable lane = true →
    (s.die lane).scrubDone = false → (s.die lane).scrubLate = false →
    (s.die lane).scrubFrom + s.scrubFrames ≤ s.frame → ∃ t, exec (.scrubLate lane) s = .next t ∧
    (t.die lane).scrubLate = true ∧ t.bit Reg.mcrStatus 2 = true ∧ t.bit Reg.mcrEvent 2 = true) ∧
  (∀ (s : State) (lane g : Nat) (best : List Int), s.live = true → (s.calBlock lane g).isSome = true →
    s.calDue lane g = true → ∃ t, exec (.calibrationDue lane g best) s = .next t ∧
    (t.die lane).offsets = insertKey g (stepOffsets (s.levelsFor lane g) best) (eraseKey g (s.die lane).offsets) ∧
    t.num Reg.mcrCalCnt = satAdd 32 (s.num Reg.mcrCalCnt) 1) ∧
  (∀ (s : State) (p : Nat), s.live = true →
    (s.mcr.eolDue = true ∨ s.mcr.dayAt.all (fun f => decide (f + 86400000 ≤ s.frame)) = true) →
    ∃ t, exec (.lifeForecast p) s = .next t ∧ t.mcr.eolDevice.getLast? = some p ∧ t.bit Reg.mcrEvent 8 = true ∧
    t.mcr.eolDue = false) ∧
  (∀ (s : State) (b : Requester) (v : Word) (k : Nat), s.live = true →
    ((match b with | .pf0 => true | .core n => decide (n < 6)) = true) → s.testRunning = some k →
    isTest (wordField v 0 5) = true → ∃ t, exec (.mcrTestStart b v) s = .next t ∧ t.testRunning = some k ∧
    t.reg Reg.mcrTestStatus = BitVec.ofNat 32 (4 + 2 * 2 ^ 4 + wordField v 0 5 * 2 ^ 8) ∧ t.bit Reg.mcrEvent 6 = true) ∧
  (∀ (s : State) (b : Requester) (v : Word), s.live = true →
    ((match b with | .pf0 => true | .core n => decide (n < 6)) = true) → s.testRunning = none →
    isTest (wordField v 0 5) = true → (parkOnlyTest (wordField v 0 5) = true → s.inRun = false ∧
    s.bit Reg.prxStatus 5 = false) → (wordField v 0 5 = 8 → s.bit Reg.prxStatus 4 = false) → (wordField v 0 5 = 5 →
    s.holdupReady = true) → (s.populatedLane (wordField v 16 9) = true ∨ wordField v 16 9 = 0x1FF) →
    ∃ t, exec (.mcrTestStart b v) s = .next t ∧ t.testRunning = some (wordField v 0 5) ∧
    t.mcr.testDie = wordField v 16 9 ∧ t.num Reg.mcrTestStatus = 1 + wordField v 0 5 * 2 ^ 8) ∧
  (∀ (s : State) (b : Requester) (k : Nat), s.live = true →
    ((match b with | .pf0 => true | .core n => decide (n < 6)) = true) → s.testRunning = some k →
    parkOnlyTest k = false → s.testInSlot k = false → ∃ t, exec (.mcrTestAbort b) s = .next t ∧
    t.testRunning = none ∧ t.reg Reg.mcrTestStatus = BitVec.ofNat 32 (5 + k * 2 ^ 8)) ∧
  (∀ (s : State) (b : Requester) (k : Nat), s.live = true →
    ((match b with | .pf0 => true | .core n => decide (n < 6)) = true) → s.testRunning = some k →
    parkOnlyTest k = false → s.testInSlot k = true → ∃ t, exec (.mcrTestAbort b) s = .next t ∧
    t.testRunning = some k ∧ t.mcr.aborting = true) ∧
  (∀ (s : State) (b : Requester) (k : Nat), s.live = true →
    ((match b with | .pf0 => true | .core n => decide (n < 6)) = true) → s.testRunning = some k →
    parkOnlyTest k = true → ∃ t, exec (.mcrTestAbort b) s = .next t ∧ t = s) ∧
  (∀ (s : State) (e k : Nat), s.live = true → s.testRunning = some k → k ≠ 4 → s.testGoesOn k = false →
    ∃ t, exec (.testDone e) s = .next t ∧ t.testRunning = none ∧
    (t.reg Reg.mcrTestStatus = BitVec.ofNat 32 ((if e = 0 then 2 else 3) + k * 2 ^ 8 + e % 65536 * 2 ^ 16))) ∧
  (∀ (s : State) (e : Nat), s.live = true → s.testRunning = some 4 → s.testGoesOn 4 = false →
    ∃ t, exec (.testDone e) s = .next t ∧ t.testRunning = none ∧ t.bit Reg.mlkEvent 15 = true ∧
    t.bit Reg.mcrEvent 6 = true) ∧
  (∀ (s : State) (f : Nat), s.live = true → s.testRunning = none → s.mcr.holdupRun = none → s.holdupReady = true →
    ((s.mcr.holdupEnd.orElse fun _ => s.mcr.claimedAt) = some f) →
    (f + (if s.mcr.holdupBad then 86400000 else s.field Reg.mcrHoldupTest 16 8 * 86400000) ≤ s.frame) →
    (s.mcr.holdupTry.all (fun g => decide (g + 3600000 ≤ s.frame)) = true) → ∃ t, exec .holdupTestDue s = .next t ∧
    t.testRunning = some 5 ∧ t.mcr.holdupRun = some (s.field Reg.wrpHoldupSense 0 12)) ∧
  (∀ (s : State) (us e c : Nat), s.live = true → s.mcr.holdupRun = some c → s.discharged c us e = true →
    ∃ t, exec (.holdupTestEnd us e) s = .next t ∧ t.mcr.holdupRun = none ∧ t.mcr.holdupEnd = some s.frame ∧
    t.bit Reg.mcrStatus 6 = decide (t.num Reg.mcrHoldupCap < s.field Reg.mcrHoldupMin 0 24) ∧
    t.mcr.holdupBad = t.bit Reg.mcrStatus 6)

/-- The host link, its power states, containment and the sled's attention button. While the device has power and runs,
unless a clause says otherwise: HOST_LINK_UP, with PERST# high and the link down, shows DL_Up, speed, width and lane
reversal, FLIT mode where the link is in it or at 64 GT/s, and raises event 1. HOST_DL_DOWN not asked for by the host
shows the link down with no speed or width, raises event 0 and, outside CONTAINED, contains it and drops every
command. HOST_DL_DOWN that the host asked for contains nothing. With the link down it does nothing. HOST_FLIT_CRC_FAIL
in FLIT mode is counted as a Bad TLP. HOST_LINK_RECOVERY is counted, leaves the commands, and a new speed or width
shows and raises event 2. ASPM_L1_ENTRY, with ASPM on, no bounded command, no request outstanding and L1_IDLE us idle,
enters L1. ASPM_L1_EXIT leaves L1. L0P_HOST_REQUEST within the trained width, in FLIT mode, is granted and sets the
active width. L0P_REDUCE_REQUEST, with L0p enabled, no bounded command and no Read or Write for the idle time, asks
for its width. HPT_CONTAIN_CTL.FORCE by a core, in NORMAL, contains with cause 2, drops every command and translation.
HPT_CONTAIN_CTL.RELEASE, with the link up and no fall-back, begins RELEASING. RELEASE_COMPLETE makes the Host Port
NORMAL. A press in NORMAL is counted and starts the attention timer where it has a time. An acknowledgement stops the
timer. Its expiry, where the fall-back is enabled and not on, contains the host and starts the fall-back. The end of
the fall-back's destage makes the sled ready to pull, and media power goes off where it is to. A sled seated shows it.
A sled that leaves shows it, raises event 0 and in NORMAL contains with cause 4. In every clause exec answers a next
state, for: hostLinkUp, hostDlDown, hostFlitCrcFail, hostLinkRecovery, aspmL1Entry, aspmL1Exit, l0pHostRequest,
l0pReduceRequest, hptContainForce, hptContainRelease, releaseComplete, attnBtn, sppAttnAck, attnTimeout,
fallbackDestageDone, prsntChange. Rests on 09_host_port.md. The model's own choices and readings in it are those of
notes/assumptions/50, 91, 118. -/
def Obligations.HostLink : Prop :=
  (∀ (s : State) (v w : Nat) (fl rv : Bool), s.live = true → s.pwr.perst = false → s.dlUp = false →
    ∃ t, exec (.hostLinkUp v w fl rv) s = .next t ∧ t.dlUp = true ∧ t.linkWidth = w % 32 ∧
    t.field Reg.hptStatus 0 3 = v % 8 ∧ t.bit Reg.hptStatus 8 = (fl || v == 6) ∧ t.bit Reg.hptStatus 19 = rv ∧
    t.bit Reg.hptEvent 1 = true) ∧
  (∀ (s : State), s.live = true → s.dlUp = true → s.containState ≠ 1 → ∃ t, exec (.hostDlDown .other) s = .next t ∧
    t.dlUp = false ∧ t.linkWidth = 0 ∧ t.field Reg.hptStatus 0 3 = 0 ∧ t.bit Reg.hptEvent 0 = true ∧
    t.containState = 1 ∧ t.field Reg.hptContainStatus 4 4 = 1 ∧ t.cmds = []) ∧
  (∀ (s : State) (k : DlDownCause), s.live = true → s.dlUp = true → k ≠ .other →
    ∃ t, exec (.hostDlDown k) s = .next t ∧ t.dlUp = false ∧ t.bit Reg.hptEvent 0 = true ∧
    t.containState = s.containState ∧ t.cmds = s.cmds) ∧
  (∀ (s : State) (k : DlDownCause), s.live = true → s.dlUp = false → ∃ t, exec (.hostDlDown k) s = .next t ∧ t = s) ∧
  (∀ (s : State), s.live = true → s.dlUp = true → s.bit Reg.hptStatus 8 = true →
    ∃ t, exec .hostFlitCrcFail s = .next t ∧ t.num Reg.hptBadTlpCnt = satAdd 32 (s.num Reg.hptBadTlpCnt) 1 ∧
    t.cmds = s.cmds) ∧
  (∀ (s : State) (v w : Nat), s.live = true → s.dlUp = true → ∃ t, exec (.hostLinkRecovery v w) s = .next t ∧
    t.num Reg.hptRecoveryCnt = satAdd 32 (s.num Reg.hptRecoveryCnt) 1 ∧
    (s.field Reg.hptStatus 0 3 ≠ v ∨ s.linkWidth ≠ w → t.linkWidth = w % 32 ∧ t.field Reg.hptStatus 0 3 = v % 8 ∧
    t.bit Reg.hptEvent 2 = true) ∧ t.cmds = s.cmds) ∧
  (∀ (s : State) (n : Nat), s.live = true → s.dlUp = true → s.inL1 = false → ((s.fn 0).cfg.get 0x70).getLsbD 1 = true →
    s.boundedOut = false → s.hpt.np = [] → s.hpt.tlpAt + max 1 (s.field Reg.hptPmCtl 0 8) * 500 ≤ s.now →
    ∃ t, exec (.aspmL1Entry n) s = .next t ∧ t.inL1 = true ∧ t.cmds = s.cmds) ∧
  (∀ (s : State), s.live = true → s.inL1 = true → ∃ t, exec .aspmL1Exit s = .next t ∧ t.inL1 = false ∧
    t.out = Out.host 7 0 0 :: s.out) ∧
  (∀ (s : State) (w : Nat), s.live = true → s.dlUp = true → s.bit Reg.hptStatus 8 = true → 1 ≤ w → w ≤ s.linkWidth →
    ∃ t, exec (.l0pHostRequest w) s = .next t ∧ t.field Reg.hptStatus 10 5 = w ∧ Out.host 9 0 w ∈ t.out) ∧
  (∀ (s : State), s.live = true → s.dlUp = true → s.bit Reg.hptStatus 8 = true → s.bit Reg.hptPmCtl 8 = true →
    s.boundedOut = false → s.hpt.rwAt + max 1 (s.field Reg.hptPmCtl 16 8) ≤ s.frame →
    s.l0pWidth < s.field Reg.hptStatus 10 5 → ∃ t, exec .l0pReduceRequest s = .next t ∧
    t.out = Out.host 8 0 s.l0pWidth :: s.out) ∧
  (∀ (s : State) (n : Nat), s.live = true → n < 6 → s.containState = 0 →
    ∃ t, exec (.hptContainForce (.core n)) s = .next t ∧ t.containState = 1 ∧ t.field Reg.hptContainStatus 4 4 = 2 ∧
    t.cmds = [] ∧ t.hpt.atc = [] ∧ t.hpt.pathLost = true) ∧
  (∀ (s : State), s.live = true → s.containState = 1 → s.dlUp = true → s.bit Reg.hptContainStatus 3 = false →
    ∃ t, exec .hptContainRelease s = .next t ∧ t.containState = 2) ∧
  (∀ (s : State), s.live = true → s.containState = 2 → ∃ t, exec .releaseComplete s = .next t ∧ t.containState = 0 ∧
    t.hpt.pathLost = false ∧ t.bit Reg.hptEvent 4 = true) ∧
  (∀ (s : State), s.live = true → s.containState = 0 → s.hpt.attnAt = none → s.field Reg.sppAttnTmo 0 16 ≠ 0 →
    ∃ t, exec .attnBtn s = .next t ∧ t.hpt.attnAt = some s.now ∧ t.bit Reg.sppStatus 1 = true ∧
    t.bit Reg.sppStatus 4 = true ∧ t.num Reg.sppPressCnt = satAdd 32 (s.num Reg.sppPressCnt) 1) ∧
  (∀ (s : State), s.live = true → ∃ t, exec .sppAttnAck s = .next t ∧ t.hpt.attnAt = none ∧
    t.bit Reg.sppStatus 4 = false) ∧
  (∀ (s : State) (n : Nat), s.live = true → s.hpt.attnAt = some n → n + s.field Reg.sppAttnTmo 0 16 * 500000 ≤ s.now →
    s.bit Reg.sppCtl 4 = true → s.bit Reg.sppStatus 3 = false → ∃ t, exec .attnTimeout s = .next t ∧
    t.hpt.attnAt = none ∧ t.containState = 1 ∧ t.bit Reg.sppStatus 3 = true ∧ t.bit Reg.hptContainStatus 3 = true) ∧
  (∀ (s : State), s.live = true → s.bit Reg.sppStatus 3 = true → s.destaged = true → s.bit Reg.sppStatus 2 = false →
    ∃ t, exec .fallbackDestageDone s = .next t ∧ t.bit Reg.sppStatus 2 = true ∧ t.bit Reg.sppEvent 3 = true ∧
    (s.bit Reg.sppCtl 5 = true → t.mch.mediaPwr = false ∧ t.bit Reg.sppStatus 5 = false)) ∧
  (∀ (s : State), s.live = true → ∃ t, exec (.prsntChange true) s = .next t ∧ t.bit Reg.sppStatus 0 = true ∧
    t.containState = s.containState) ∧
  (∀ (s : State), s.live = true → s.containState = 0 → ∃ t, exec (.prsntChange false) s = .next t ∧
    t.bit Reg.sppStatus 0 = false ∧ t.containState = 1 ∧ t.field Reg.hptContainStatus 4 4 = 4 ∧
    t.bit Reg.sppEvent 0 = true)

/-- Requests of the Host Port, translations, invalidations and the DOE mailbox. While the device has power and runs,
unless a clause says otherwise: A successful completion of a data read ends its request, in Run. One of queue entries
ends its request and lets them become commands, in Run. A malformed one is counted and raised and ends no request. One
for no outstanding tag is counted as late. COMPLETION_TIMEOUT of a data read past its time ends it, counts and raises
the timeout. TAG_QUARANTINE_END frees the tag once its time has passed. TRANSLATION_COMPLETION_RX for a page asked for
enters the ATC, in Run. A refused one enters nothing and is counted and raised. One for a page not asked for does
nothing. INVALIDATE_REQUEST_RX takes its range out of the ATC and is held with the reads that use it.
INVALIDATE_ABANDON, 900 us after the request, ends a data read that it still waits for. INVALIDATE_COMPLETION_SEND,
with no such read outstanding, takes the function's oldest request out, counts it and answers the host. DOE_REQUEST_RX
of an SPDM or a Secured SPDM object, with the mailbox free, is held as the request in progress. Discovery is answered
at once. An object of another vendor or type, or one too long, sets DOE Error. DOE_ABORT discards the request and
clears DOE Error. In every clause exec answers a next state, for: completionRx, completionTimeout, tagQuarantineEnd,
translationCompletionRx, invalidateRequestRx, invalidateAbandon, invalidateCompletionSend, doeRequestRx, doeAbort.
Rests on 09_host_port.md. The model's own choices and readings in it are those of notes/assumptions/56, 62, 117, 119,
127. -/
def Obligations.HostRequests : Prop :=
  (∀ (s : State) (k : Cpl) (r : Np) (c : CmdId), s.live = true → k.malformed = false → k.poisoned = false →
    k.success = true → s.hpt.np.find? (·.tag == k.tag) = some r → r.kind = .data c → s.inRun = true →
    s.prx.lateSlots = [] → ∃ t, exec (.completionRx k) s = .next t ∧
    (t.hpt.np = s.hpt.np.filter (fun (q : Np) => q.tag != k.tag))) ∧
  (∀ (s : State) (k : Cpl) (r : Np) (f q : Nat) (x : Sq), s.live = true → k.malformed = false → k.poisoned = false →
    k.success = true → s.hpt.np.find? (·.tag == k.tag) = some r → r.kind = .fetch f q →
    lookupKey q (s.fn f).sqs = some x → s.inRun = true → s.prx.lateSlots = [] →
    ∃ t, exec (.completionRx k) s = .next t ∧ (t.hpt.np = s.hpt.np.filter (fun (q : Np) => q.tag != k.tag)) ∧
    ((lookupKey q (t.fn f).sqs).map (fun (y : Sq) => y.granted) = some (x.granted + r.part))) ∧
  (∀ (s : State) (k : Cpl), s.live = true → k.malformed = true → s.prx.lateSlots = [] →
    ∃ t, exec (.completionRx k) s = .next t ∧ t.num Reg.hptMalformedCnt = satAdd 32 (s.num Reg.hptMalformedCnt) 1 ∧
    t.bit Reg.hptEvent 9 = true ∧ t.hpt.np = s.hpt.np) ∧
  (∀ (s : State) (k : Cpl), s.live = true → k.malformed = false → s.hpt.np.find? (·.tag == k.tag) = none →
    s.prx.lateSlots = [] → ∃ t, exec (.completionRx k) s = .next t ∧
    t.num Reg.hptLateCplCnt = satAdd 32 (s.num Reg.hptLateCplCnt) 1 ∧ t.hpt.np = s.hpt.np) ∧
  (∀ (s : State) (tag : Nat) (r : Np) (n : Nat) (c : CmdId), s.live = true → s.hpt.np.find? (·.tag == tag) = some r →
    s.cplTimer = some n → r.at_ + n ≤ s.now → r.kind = .data c → s.prx.lateSlots = [] →
    ∃ t, exec (.completionTimeout tag) s = .next t ∧ (t.hpt.np = s.hpt.np.filter (fun (q : Np) => q.tag != tag)) ∧
    t.num Reg.hptCtoCnt = satAdd 32 (s.num Reg.hptCtoCnt) 1 ∧ t.bit Reg.hptEvent 5 = true) ∧
  (∀ (s : State) (tag : Nat), s.live = true → ∃ t, exec (.tagQuarantineEnd tag) s = .next t ∧
    (t.hpt.quar = s.hpt.quar.filter (fun (q : Quar) => !(q.tag == tag && decide (q.until_ ≤ s.now))))) ∧
  (∀ (s : State) (f p : Nat), s.live = true → (s.fn f).ats = true → s.hpt.xreqs.contains (f, p) = true →
    s.inRun = true → ∃ t, exec (.translationCompletionRx f p false false) s = .next t ∧
    t.hpt.atc = atcInsert s.hpt.atc f p ∧ (t.hpt.xreqs = s.hpt.xreqs.filter (fun (x : Nat × Nat) => x != (f, p)))) ∧
  (∀ (s : State) (f p : Nat) (x d : Bool), s.live = true → (x = true ∨ d = true) → (s.fn f).ats = true →
    s.hpt.xreqs.contains (f, p) = true → ∃ t, exec (.translationCompletionRx f p x d) s = .next t ∧
    t.hpt.atc = s.hpt.atc ∧ t.num Reg.hptAtsFailCnt = satAdd 32 (s.num Reg.hptAtsFailCnt) 1 ∧
    t.bit Reg.hptEvent 8 = true) ∧
  (∀ (s : State) (f p : Nat) (x d : Bool), s.live = true → s.hpt.xreqs.contains (f, p) = false →
    ∃ t, exec (.translationCompletionRx f p x d) s = .next t ∧ t = s) ∧
  (∀ (s : State) (f b n : Nat) (l : List Nat), s.live = true →
    ∃ t, exec (.invalidateRequestRx f b ⟨n, l⟩) s = .next t ∧
    (t.hpt.atc = s.hpt.atc.filter (fun (e : Nat × Nat) => !(e.1 == f && decide (b ≤ e.2) && decide (e.2 < b + n)))) ∧
    t.hpt.inval = s.hpt.inval ++ [({ fn := f, at_ := s.now, tags := l } : Inval)]) ∧
  (∀ (s : State) (f k : Nat) (i : Inval) (r : Np) (c : CmdId), s.live = true →
    (s.hpt.inval.filter (·.fn == f))[k]? = some i → i.at_ + 450000 ≤ s.now → s.hpt.np = [r] → r.kind = .data c →
    i.covers r = true → s.prx.lateSlots = [] → ∃ t, exec (.invalidateAbandon f k) s = .next t ∧ t.hpt.np = []) ∧
  (∀ (s : State) (f : Nat) (i : Inval), s.live = true → s.hpt.inval.find? (·.fn == f) = some i →
    s.hpt.np.any i.covers = false → ∃ t, exec (.invalidateCompletionSend f) s = .next t ∧
    (t.hpt.inval = eraseFirst (fun (i : Inval) => i.fn == f) s.hpt.inval) ∧
    t.num Reg.hptAtsInvCnt = satAdd 32 (s.num Reg.hptAtsInvCnt) 1 ∧ Out.host 4 f 0 ∈ t.out) ∧
  (∀ (s : State) (k n : Nat) (x : Option Nat), s.live = true → s.hpt.doe = none → 1 ≤ k → k ≤ 2 → n ≤ 16384 →
    ∃ t, exec (.doeRequestRx 1 ⟨k, x⟩ n) s = .next t ∧ t.hpt.doe = some (k, x) ∧ t.hpt.doeErr = s.hpt.doeErr) ∧
  (∀ (s : State) (n : Nat) (x : Option Nat), s.live = true → s.hpt.doe = none → n ≤ 16384 →
    ∃ t, exec (.doeRequestRx 1 ⟨0, x⟩ n) s = .next t ∧ t.hpt.doe = none ∧ t.hpt.doeRdy = true ∧
    Out.host 13 0 0 ∈ t.out) ∧
  (∀ (s : State) (v k n : Nat) (x : Option Nat), s.live = true → s.hpt.doe = none → (v ≠ 1 ∨ 2 < k ∨ 16384 < n) →
    ∃ t, exec (.doeRequestRx v ⟨k, x⟩ n) s = .next t ∧ t.hpt.doeErr = true ∧ t.hpt.doe = none) ∧
  (∀ (s : State), s.live = true → ∃ t, exec .doeAbort s = .next t ∧ t.hpt.doe = none ∧ t.hpt.doeErr = false ∧
    t.hpt.doeRdy = false)

/-- Doorbells, and making and deleting queues. While the device has power and runs, unless a clause says otherwise: A tail
doorbell within its queue sets the tail. One with a value outside the queue is discarded, counted and raised. So is
one of a queue that does not exist. A head doorbell frees the entries up to its value. One outside its queue, or past
its entries, is discarded and counted. Create I/O CQ of a free identifier adds the queue. Identifier 0 is refused with
Invalid Queue Identifier. Create I/O SQ on a completion queue that exists adds the queue. Delete I/O SQ of a queue
without commands removes it. Delete I/O CQ of a queue that no submission queue uses removes it. One that a submission
queue uses is kept. SQ_DELETE_DRAINED of a queue that waits for its delete, with no command left, removes it and ends
the delete. In every clause exec answers a next state, for: sqTailDoorbell, cqHeadDoorbell, createIoCq, createIoSq,
deleteIoSq, deleteIoCq, sqDeleteDrained. Rests on 10_functions_and_queues.md. The model's own choices and readings in
it are those of notes/assumptions/20, 108, 119, 120. -/
def Obligations.QueuesAndDoorbells : Prop :=
  (∀ (s : State) (f q v : Nat) (x : Sq), s.live = true → s.portNormal = true → s.memOk f = true → s.sq? f q = some x →
    v < x.size → ∃ t, exec (.sqTailDoorbell f q v) s = .next t ∧
    ((t.sq? f q).map (fun (y : Sq) => (y.tail, y.stopped)) = some (v, false))) ∧
  (∀ (s : State) (f q v : Nat) (x : Sq), s.live = true → s.portNormal = true → s.memOk f = true → s.sq? f q = some x →
    x.size ≤ v → ∃ t, exec (.sqTailDoorbell f q v) s = .next t ∧
    t.num Reg.qenDbInvalidCnt = satAdd 32 (s.num Reg.qenDbInvalidCnt) 1 ∧ t.bit Reg.qenEvent 0 = true ∧
    t.sq? f q = some x) ∧
  (∀ (s : State) (f q v : Nat), s.live = true → s.portNormal = true → s.memOk f = true → s.sq? f q = none →
    ∃ t, exec (.sqTailDoorbell f q v) s = .next t ∧
    t.num Reg.qenDbInvalidCnt = satAdd 32 (s.num Reg.qenDbInvalidCnt) 1 ∧ t.bit Reg.qenEvent 0 = true) ∧
  (∀ (s : State) (f q v : Nat) (k : Cq), s.live = true → s.portNormal = true → s.memOk f = true → s.cq? f q = some k →
    v < k.size → (v + k.size - k.head) % k.size ≤ k.used → ∃ t, exec (.cqHeadDoorbell f q v) s = .next t ∧
    t.cq? f q = some { k with head := v, used := k.used - (v + k.size - k.head) % k.size }) ∧
  (∀ (s : State) (f q v : Nat) (k : Cq), s.live = true → s.portNormal = true → s.memOk f = true → s.cq? f q = some k →
    (k.size ≤ v ∨ k.used < (v + k.size - k.head) % k.size) → ∃ t, exec (.cqHeadDoorbell f q v) s = .next t ∧
    t.num Reg.qenDbInvalidCnt = satAdd 32 (s.num Reg.qenDbInvalidCnt) 1 ∧ t.cq? f q = some k) ∧
  (∀ (s : State) (q : Sqe) (k : Nat), s.live = true → s.takes q true = true → wordField q.cdw10 0 16 = k → k ≠ 0 →
    k ≤ s.ioQueues q.id.fn → s.cq? q.id.fn k = none → wordField q.cdw10 16 16 ≤ 4095 → q.cdw11.getLsbD 0 = true →
    wordField q.cdw11 16 16 < s.viOf q.id.fn → ∃ t, exec (.createIoCq q) s = .next t ∧ t.statusOf q.id = some 0 ∧
    t.cq? q.id.fn k = some
    { base := q.prp1.toNat, size := wordField q.cdw10 16 16 + 1, vector := wordField q.cdw11 16 16, ien := q.cdw11.getLsbD 1 : Cq }) ∧
  (∀ (s : State) (q : Sqe), s.live = true → s.takes q true = true → wordField q.cdw10 0 16 = 0 →
    ∃ t, exec (.createIoCq q) s = .next t ∧ t.statusOf q.id = some 0x101 ∧ (t.fn q.id.fn).cqs = (s.fn q.id.fn).cqs) ∧
  (∀ (s : State) (q : Sqe) (k : Nat), s.live = true → s.takes q true = true → wordField q.cdw10 0 16 = k → k ≠ 0 →
    k ≤ s.ioQueues q.id.fn → s.sq? q.id.fn k = none → wordField q.cdw10 16 16 ≤ 4095 → q.cdw11.getLsbD 0 = true →
    wordField q.cdw11 16 16 ≠ 0 → (s.cq? q.id.fn (wordField q.cdw11 16 16)).isSome = true →
    ∃ t, exec (.createIoSq q) s = .next t ∧ t.statusOf q.id = some 0 ∧
    t.sq? q.id.fn k = some
    { base := q.prp1.toNat, cqid := wordField q.cdw11 16 16, size := wordField q.cdw10 16 16 + 1, head := 0, tail := 0 : Sq }) ∧
  (∀ (s : State) (q : Sqe) (k : Nat), s.live = true → s.takes q true = true → wordField q.cdw10 0 16 = k → k ≠ 0 →
    (s.sq? q.id.fn k).isSome = true → s.sqCmds q.id.fn k = [] → ∃ t, exec (.deleteIoSq q) s = .next t ∧
    t.statusOf q.id = some 0 ∧ t.sq? q.id.fn k = none) ∧
  (∀ (s : State) (q : Sqe) (k : Nat), s.live = true → s.takes q true = true → wordField q.cdw10 0 16 = k → k ≠ 0 →
    (s.cq? q.id.fn k).isSome = true → ((s.fn q.id.fn).sqs.any (fun (p : Nat × Sq) => p.2.cqid == k) = false) →
    ∃ t, exec (.deleteIoCq q) s = .next t ∧ t.statusOf q.id = some 0 ∧ t.cq? q.id.fn k = none) ∧
  (∀ (s : State) (q : Sqe) (k : Nat), s.live = true → s.takes q true = true → wordField q.cdw10 0 16 = k → k ≠ 0 →
    (s.cq? q.id.fn k).isSome = true → ((s.fn q.id.fn).sqs.any (fun (p : Nat × Sq) => p.2.cqid == k) = true) →
    ∃ t, exec (.deleteIoCq q) s = .next t ∧ t.statusOf q.id = some 0x10C ∧ t.cq? q.id.fn k = s.cq? q.id.fn k) ∧
  (∀ (s : State) (f k : Nat) (x : Sq) (c : CmdId), s.live = true → s.sq? f k = some x → x.deleting = some c →
    s.sqCmds f k = [] → ∃ t, exec (.sqDeleteDrained f k) s = .next t ∧ t.sq? f k = none ∧ ((s.cmd? c).isSome = true →
    (t.statusOf c).isSome = true))

/-- Controllers are enabled, ready, reset; Bus Master Enable and power states. While the device has power and runs, unless
a clause says otherwise: CC.EN set, on PF0 or an Online VF, enables the controller and makes its admin queues. On an
Offline VF it sets the fatal status and makes no queue. CSTS.RDY of an enabled controller rises once the device is
READY. CC.EN cleared resets the controller and takes its queues. CSTS.RDY falls at the reset's end. Bus Master Enable
is cleared. Bus Master Enable is set. PowerState 3 puts a function into D3hot. PowerState 0 takes it out. Another
state changes nothing. In every clause exec answers a next state, for: ccEnSet, controllerReady, controllerReset,
controllerResetDone, bmeClear, bmeSet, powerStateWrite. Rests on 10_functions_and_queues.md. The model's own choices
and readings in it are those of notes/assumptions/20. -/
def Obligations.ControllerEnable : Prop :=
  (∀ (s : State) (f : Nat), s.live = true → s.portNormal = true → s.memOk f = true → (s.fn f).enabled = false →
    (s.fn f).frozenNow = false → (f = 0 ∨ (s.fn f).online = true) → ∃ t, exec (.ccEnSet f) s = .next t ∧
    (t.fn f).enabled = true ∧
    ((t.sq? f 0).map (fun (x : Sq) => (x.base, x.size)) = some ((s.fn f).asq.toNat, wordField (s.fn f).aqa 0 12 + 1))
    ∧ ((t.cq? f 0).map (fun (x : Cq) => (x.base, x.size)) = some ((s.fn f).acq.toNat, wordField (s.fn f).aqa 16 12 +
    1))) ∧
  (∀ (s : State) (f : Nat), s.live = true → s.portNormal = true → s.memOk f = true → (s.fn f).enabled = false →
    (s.fn f).frozenNow = false → f ≠ 0 → (s.fn f).online = false → ∃ t, exec (.ccEnSet f) s = .next t ∧
    (t.fn f).cfs = true ∧ (t.fn f).sqs = (s.fn f).sqs) ∧
  (∀ (s : State) (f : Nat), s.live = true → (s.fn f).enabled = true → (s.fn f).cfs = false →
    (s.fn f).resetting = false → s.bit Reg.pwrStatus 3 = true → ∃ t, exec (.controllerReady f) s = .next t ∧
    (t.fn f).rdy = true) ∧
  (∀ (s : State) (f : Nat), s.live = true → s.portNormal = true → s.memOk f = true → (s.fn f).enabled = true →
    (s.fn f).frozenNow = false → ∃ t, exec (.controllerReset f) s = .next t ∧ (t.fn f).resetting = true ∧
    (t.fn f).enabled = false ∧ (t.fn f).sqs = [] ∧ (t.fn f).cqs = []) ∧
  (∀ (s : State) (f : Nat), s.live = true → (s.fn f).resetting = true →
    ∃ t, exec (.controllerResetDone f) s = .next t ∧ (t.fn f).resetting = false ∧ (t.fn f).rdy = false) ∧
  (∀ (s : State) (f : Nat), s.live = true → ∃ t, exec (.bmeClear f) s = .next t ∧ (t.fn f).bme = false) ∧
  (∀ (s : State) (f : Nat), s.live = true → ∃ t, exec (.bmeSet f) s = .next t ∧ (t.fn f).bme = true) ∧
  (∀ (s : State) (f : Nat), s.live = true → ∃ t, exec (.powerStateWrite f 3) s = .next t ∧ (t.fn f).d3hot = true ∧
    (t.fn f).bme = (s.fn f).bme) ∧
  (∀ (s : State) (f : Nat), s.live = true → ∃ t, exec (.powerStateWrite f 0) s = .next t ∧ (t.fn f).d3hot = false) ∧
  (∀ (s : State) (f p : Nat), s.live = true → p ≠ 0 → p ≠ 3 → ∃ t, exec (.powerStateWrite f p) s = .next t ∧ t = s)

/-- Get Log Page, Identify, Abort and asynchronous events. While the device has power and runs, unless a clause says
otherwise: An opcode that is not listed ends with Invalid Command Opcode. Get Log Page 05h returns the opcodes. Page
04h returns and clears the changed namespaces, up to 1,024. An unknown page is refused with Invalid Log Page. Identify
CNS 01h returns the controller structure. CNS 02h returns the attached identifiers above NSID. Abort ends a command of
which no stage has been admitted, and is counted. One that is not outstanding is not aborted. An Asynchronous Event
Request waits where no event of its function is pending. Otherwise it returns the event. A ninth one is refused. In
every clause exec answers a next state, for: invalidCommandOpcode, getLogPage, identify, abort,
asynchronousEventRequest. Rests on 10_functions_and_queues.md. The model's own choices and readings in it are those of
notes/assumptions/9, 13, 20, 109, 120. -/
def Obligations.AdminCommands : Prop :=
  (∀ (s : State) (q : Sqe), s.live = true →
    ((opcodesOf q.id.fn).contains (q.opcode + if q.id.qid = 0 then 0 else 256) = false) →
    s.takes { q with psdt := 0, fuse := 0 } (q.id.qid == 0) = true →
    ∃ t, exec (.invalidCommandOpcode q) s = .next t ∧ t.statusOf q.id = some 0x01) ∧
  (∀ (s : State) (q : Sqe), s.live = true → s.takes q true = true → wordField q.cdw10 0 8 = 5 →
    ∃ t, exec (.getLogPage q) s = .next t ∧ t.statusOf q.id = some 0 ∧
    t.delivers q.id (Out.page q.id.fn 5 (opcodesOf q.id.fn)) = true) ∧
  (∀ (s : State) (q : Sqe), s.live = true → s.takes q true = true → wordField q.cdw10 0 8 = 4 →
    (s.fn q.id.fn).changedNs.length ≤ 1024 → ∃ t, exec (.getLogPage q) s = .next t ∧ t.statusOf q.id = some 0 ∧
    (t.fn q.id.fn).changedNs = [] ∧ t.delivers q.id (Out.page q.id.fn 4 (s.fn q.id.fn).changedNs) = true) ∧
  (∀ (s : State) (q : Sqe), s.live = true → s.takes q true = true → wordField q.cdw10 0 8 = 0xFF →
    ∃ t, exec (.getLogPage q) s = .next t ∧ t.statusOf q.id = some 0x109) ∧
  (∀ (s : State) (q : Sqe), s.live = true → s.takes q true = true → wordField q.cdw10 0 8 = 1 →
    ∃ t, exec (.identify q) s = .next t ∧ t.statusOf q.id = some 0 ∧
    t.delivers q.id (Out.page q.id.fn 0x1001 (idController q.id.fn)) = true) ∧
  (∀ (s : State) (q : Sqe), s.live = true → s.takes q true = true → wordField q.cdw10 0 8 = 2 →
    ∃ t, exec (.identify q) s = .next t ∧ t.statusOf q.id = some 0 ∧
    (t.delivers q.id (Out.page q.id.fn 0x1002 (((s.attachedTo q.id.fn).filter (fun (n : Nat) => decide (q.nsid <
    n))).take 1024)) = true)) ∧
  (∀ (s : State) (q : Sqe) (c : CmdId) (x : Cmd), s.live = true → s.takes q true = true →
    c = { fn := q.id.fn, qid := wordField q.cdw10 0 16, cid := wordField q.cdw10 16 16 } → s.cmd? c = some x →
    x.status = none → x.begun = false → ∃ t, exec (.abort q) s = .next t ∧ t.statusOf q.id = some 0 ∧
    t.statusOf c = some 7 ∧ t.num Reg.qenAbortCnt = satAdd 32 (s.num Reg.qenAbortCnt) 1) ∧
  (∀ (s : State) (q : Sqe) (n : Nat), s.live = true → s.takes q true = true → wordField q.cdw10 16 16 = n →
    s.cmd? { fn := q.id.fn, qid := wordField q.cdw10 0 16, cid := n } = none → q.id.qid ≠ wordField q.cdw10 0 16 →
    ∃ t, exec (.abort q) s = .next t ∧ t.statusOf q.id = some 0 ∧ t.dw0Of q.id = some 1) ∧
  (∀ (s : State) (q : Sqe), s.live = true → s.takes q true = true →
    ((s.cmds.filter (fun (x : Cmd) => x.admin && x.op == opAer && x.id.fn == q.id.fn && x.status.isNone)).length < 8)
    → (s.aens.find? (fun e => e.1 == q.id.fn) = none) → ∃ t, exec (.asynchronousEventRequest q) s = .next t ∧
    (t.cmd? q.id).isSome = true ∧ t.statusOf q.id = none) ∧
  (∀ (s : State) (q : Sqe) (e : Nat × Nat × Nat × Nat), s.live = true → s.takes q true = true →
    ((s.cmds.filter (fun (x : Cmd) => x.admin && x.op == opAer && x.id.fn == q.id.fn && x.status.isNone)).length < 8)
    → (s.aens.find? (fun e => e.1 == q.id.fn) = some e) → ∃ t, exec (.asynchronousEventRequest q) s = .next t ∧
    t.statusOf q.id = some 0 ∧ t.dw0Of q.id = some (BitVec.ofNat 32 (e.2.1 + e.2.2.1 * 256 + e.2.2.2 * 65536))) ∧
  (∀ (s : State) (q : Sqe), s.live = true → s.takes q true = true →
    (8 ≤ (s.cmds.filter (fun (x : Cmd) => x.admin && x.op == opAer && x.id.fn == q.id.fn && x.status.isNone)).length)
    → ∃ t, exec (.asynchronousEventRequest q) s = .next t ∧ t.statusOf q.id = some 0x105 ∧ t.aens = s.aens)

/-- Features, vendor queries and firmware download. While the device has power and runs, unless a clause says otherwise:
Set Features without Save stores the value of a feature that has no rule of its own. Save is refused. Get Features
returns such a value. Contract Query of the function itself returns its contract. Meter Read of no record is refused.
PF0's Meter Read of a VF returns how many records it read, and them. Firmware Image Download stores its bytes.
FirmwareImageDownload is not served on a VF. Firmware Commit refuses an unknown action. It refuses the slot that runs.
Actions 0 and 1 store a downloaded image that the ROM accepts in the other slot, action 1 preferring that slot, and
refuse one that it does not. FirmwareCommit is not served on a VF. In every clause exec answers a next state, for:
setFeatures, getFeatures, contractQuery, meterRead, firmwareImageDownload, firmwareCommit. Rests on
10_functions_and_queues.md, 11_security_and_metering.md. The model's own choices and readings in it are those of
notes/assumptions/20, 58, 121. -/
def Obligations.FeatureCommands : Prop :=
  (∀ (s : State) (q : Sqe) (d : BitVec 64) (k : Nat), s.live = true → s.takes q true = true →
    wordField q.cdw10 0 8 = k → featureIds.contains k = true → k ≠ 7 → k ≠ 8 → k ≠ 9 → k ≠ 14 →
    q.cdw10.getLsbD 31 = false → s.featureBad q.id.fn k q.cdw11 = false → ∃ t, exec (.setFeatures q d) s = .next t ∧
    t.statusOf q.id = some 0 ∧ (t.fn q.id.fn).feats.get k = q.cdw11.toNat) ∧
  (∀ (s : State) (q : Sqe) (d : BitVec 64), s.live = true → s.takes q true = true →
    featureIds.contains (wordField q.cdw10 0 8) = true → q.cdw10.getLsbD 31 = true →
    ∃ t, exec (.setFeatures q d) s = .next t ∧ t.statusOf q.id = some 0x10D ∧
    (t.fn q.id.fn).feats = (s.fn q.id.fn).feats) ∧
  (∀ (s : State) (q : Sqe) (k : Nat), s.live = true → s.takes q true = true → wordField q.cdw10 0 8 = k →
    featureIds.contains k = true → k ≠ 7 → k ≠ 8 → k ≠ 9 → k ≠ 14 → ∃ t, exec (.getFeatures q) s = .next t ∧
    t.statusOf q.id = some 0 ∧ t.dw0Of q.id = some (BitVec.ofNat 32 ((s.fn q.id.fn).feats.get k))) ∧
  (∀ (s : State) (q : Sqe), s.live = true → s.takes q true = true → wordField q.cdw10 0 13 = 0 →
    ∃ t, exec (.contractQuery q) s = .next t ∧ t.statusOf q.id = some 0 ∧
    t.delivers q.id (Out.bytes 1000 (s.contractData q.id.fn)) = true) ∧
  (∀ (s : State) (q : Sqe), s.live = true → s.takes q true = true → wordField q.cdw12 0 6 = 0 →
    ∃ t, exec (.meterRead q) s = .next t ∧ t.statusOf q.id = some 0x02) ∧
  (∀ (s : State) (q : Sqe) (k : Nat) (l : List (List Byte)), s.live = true → s.takes q true = true → q.id.fn = 0 →
    1 ≤ wordField q.cdw12 0 6 → wordField q.cdw12 0 6 ≤ 32 → wordField q.cdw13 0 13 = k → 1 ≤ k → k ≤ 4096 →
    s.meterRecords k (q.cdw10.toNat + wordField q.cdw11 0 16 * 2 ^ 32) (wordField q.cdw12 0 6) = l →
    ∃ t, exec (.meterRead q) s = .next t ∧ t.statusOf q.id = some 0 ∧
    t.dw0Of q.id = some (BitVec.ofNat 32 l.length) ∧ (l ≠ [] → t.delivers q.id (Out.bytes 1000 l.flatten) = true)) ∧
  (∀ (s : State) (q : Sqe) (b : List Byte), s.live = true → s.takes q true = true → q.id.fn = 0 →
    ∃ t, exec (.firmwareImageDownload q b) s = .next t ∧ t.statusOf q.id = some 0 ∧
    (t.sec.download.drop (q.cdw11.toNat * 4)).take ((q.cdw10.toNat + 1) * 4) = (fitBytes ((q.cdw10.toNat + 1) * 4)
    b).map some) ∧
  (∀ (s : State) (q : Sqe) (b : List Byte), s.live = true → s.takes q true = true → q.id.fn ≠ 0 →
    ∃ t, exec (.firmwareImageDownload q b) s = .next t ∧ t.statusOf q.id = some 0x01 ∧ t.sec = s.sec) ∧
  (∀ (s : State) (q : Sqe) (g : List Byte), s.live = true → s.takes q true = true → q.id.fn = 0 →
    2 < wordField q.cdw10 3 3 → ∃ t, exec (.firmwareCommit q g) s = .next t ∧ t.statusOf q.id = some 0x02 ∧
    t.sec = s.sec) ∧
  (∀ (s : State) (q : Sqe) (g : List Byte), s.live = true → s.takes q true = true → q.id.fn = 0 →
    wordField q.cdw10 3 3 ≤ 2 → (wordField q.cdw10 0 3 = (if s.bit Reg.secStatus 1 then 2 else 1)) →
    ∃ t, exec (.firmwareCommit q g) s = .next t ∧ t.statusOf q.id = some 0x106 ∧ t.sec = s.sec) ∧
  (∀ (s : State) (q : Sqe) (g : List Byte), s.live = true → s.takes q true = true → q.id.fn = 0 →
    wordField q.cdw10 3 3 ≤ 1 → wordField q.cdw10 0 3 = 0 → ∃ t, exec (.firmwareCommit q g) s = .next t ∧
    (t.statusOf q.id = some (if s.slotOk (readSlotImage (s.downloaded g)) then (if wordField q.cdw10 3 3 = 0 then 0
    else 0x10B) else 0x107)) ∧
    (t.sec.slotA = (if s.slotOk (readSlotImage (s.downloaded g)) && s.bit Reg.secStatus 1 then some (readSlotImage
    (s.downloaded g)) else s.sec.slotA)) ∧
    (t.sec.slotB = (if s.slotOk (readSlotImage (s.downloaded g)) && !s.bit Reg.secStatus 1 then some (readSlotImage
    (s.downloaded g)) else s.sec.slotB)) ∧
    (t.sec.preferB = (if s.slotOk (readSlotImage (s.downloaded g)) && wordField q.cdw10 3 3 == 1 then !s.bit
    Reg.secStatus 1 else s.sec.preferB))) ∧
  (∀ (s : State) (q : Sqe) (g : List Byte), s.live = true → s.takes q true = true → q.id.fn ≠ 0 →
    ∃ t, exec (.firmwareCommit q g) s = .next t ∧ t.statusOf q.id = some 0x01 ∧ t.sec = s.sec)

/-- Flush, Read, Write, Compare, Verify, Write Zeroes, Dataset Management and Copy. While the device has power and runs,
unless a clause says otherwise: Flush of an attached namespace completes at once. Of another it ends with Invalid
Namespace. Read within the namespace records its range and goes on. Outside it, Read ends with the status of its
range. Compare records its range and what it compares. Verify records its range and fetches no list. Write outside the
namespace ends with the status of its range. Write within it, where nothing refuses it, records its range and is
charged. Write Zeroes outside the namespace ends with the status of its range. On a READ_ONLY chip it is refused.
Write Zeroes with DEAC of whole units is charged. Dataset Management without deallocation completes. A range of it
outside the namespace is LBA Out of Range. Copy beyond its limits is refused. Copy within them records its ranges. In
every clause exec answers a next state, for: flush, read, compare, verify, write, writeZeroes, datasetManagement,
copy. Rests on 10_functions_and_queues.md. The model's own choices and readings in it are those of
notes/assumptions/12, 20, 113, 120, 128. -/
def Obligations.IoCommands : Prop :=
  (∀ (s : State) (q : Sqe), s.live = true → s.takes q false = true → s.nsOpen q.id.fn q.nsid = true →
    ∃ t, exec (.flush q) s = .next t ∧ t.statusOf q.id = some 0) ∧
  (∀ (s : State) (q : Sqe), s.live = true → s.takes q false = true → q.nsid ≠ allNs → s.nsOpen q.id.fn q.nsid = false →
    ∃ t, exec (.flush q) s = .next t ∧ t.statusOf q.id = some 0x0B) ∧
  (∀ (s : State) (q : Sqe), s.live = true → s.takes q false = true → s.admits q (.read q) = true →
    (s.ns q.nsid).rangeFailure q.slba q.nlb true = none → prpFailure q = none → ∃ t, exec (.read q) s = .next t ∧
    ((t.cmd? q.id).map (fun (x : Cmd) => (x.lba, x.nlb, x.status)) = some (q.slba, q.nlb, none)) ∧
    t.hpt.rwAt = s.frame) ∧
  (∀ (s : State) (q : Sqe) (e : Nat), s.live = true → s.takes q false = true → s.admits q (.read q) = true →
    (s.ns q.nsid).rangeFailure q.slba q.nlb true = some e → ∃ t, exec (.read q) s = .next t ∧
    t.statusOf q.id = some e) ∧
  (∀ (s : State) (q : Sqe) (b : Bool), s.live = true → s.takes q false = true → s.admits q (.compare q b) = true →
    (s.ns q.nsid).rangeFailure q.slba q.nlb true = none → prpFailure q = none →
    ∃ t, exec (.compare q b) s = .next t ∧
    ((t.cmd? q.id).map (fun (x : Cmd) => (x.lba, x.nlb, x.equal, x.status)) = some (q.slba, q.nlb, b, none))) ∧
  (∀ (s : State) (q : Sqe), s.live = true → s.takes q false = true → s.admits q (.verify q) = true →
    (s.ns q.nsid).rangeFailure q.slba q.nlb false = none → ∃ t, exec (.verify q) s = .next t ∧
    ((t.cmd? q.id).map (fun (x : Cmd) => (x.lba, x.nlb, x.status)) = some (q.slba, q.nlb, none))) ∧
  (∀ (s : State) (q : Sqe) (e : Nat), s.live = true → s.takes q false = true → s.admits q (.write q) = true →
    (s.ns q.nsid).rangeFailure q.slba q.nlb true = some e → ∃ t, exec (.write q) s = .next t ∧
    t.statusOf q.id = some e) ∧
  (∀ (s : State) (q : Sqe), s.live = true → s.takes q false = true → s.admits q (.write q) = true →
    (s.ns q.nsid).rangeFailure q.slba q.nlb true = none → prpFailure q = none →
    s.writeFailure q.id.fn q.nsid ((List.range ((s.ns q.nsid).cover q.slba q.nlb).2).map (((s.ns q.nsid).cover q.slba
    q.nlb).1 + ·)) (((List.range ((s.ns q.nsid).cover q.slba q.nlb).2).map (((s.ns q.nsid).cover q.slba q.nlb).1 +
    ·)).map (· / (s.ns q.nsid).parts)) false = none → ∃ t, exec (.write q) s = .next t ∧
    ((t.cmd? q.id).map (fun (x : Cmd) => (x.lba, x.nlb, x.charged, x.status)) = some (q.slba, q.nlb, true, none)) ∧
    t.hpt.rwAt = s.frame) ∧
  (∀ (s : State) (q : Sqe) (e : Nat), s.live = true → s.takes q false = true → s.admits q (.writeZeroes q) = true →
    (s.ns q.nsid).rangeFailure q.slba q.nlb false = some e → ∃ t, exec (.writeZeroes q) s = .next t ∧
    t.statusOf q.id = some e) ∧
  (∀ (s : State) (q : Sqe), s.live = true → s.takes q false = true → s.admits q (.writeZeroes q) = true →
    (s.ns q.nsid).rangeFailure q.slba q.nlb false = none → s.readOnlyNs q.nsid = true →
    ∃ t, exec (.writeZeroes q) s = .next t ∧ t.statusOf q.id = some 0x20 ∧ t.wrp = s.wrp) ∧
  (∀ (s : State) (q : Sqe), s.live = true → s.takes q false = true → s.admits q (.writeZeroes q) = true →
    (s.ns q.nsid).rangeFailure q.slba q.nlb false = none → s.readOnlyNs q.nsid = false → q.cdw12.getLsbD 25 = true →
    ((s.ns q.nsid).zeroParts q.slba q.nlb).2 = [] → ∃ t, exec (.writeZeroes q) s = .next t ∧
    ((t.cmd? q.id).map (fun (x : Cmd) => (x.lba, x.nlb, x.charged)) = some (q.slba, q.nlb, true))) ∧
  (∀ (s : State) (q : Sqe) (r : List (Nat × Nat)), s.live = true → s.takes q false = true →
    s.admits q (.datasetManagement q r) = true → prpFailure q = none →
    (r.any (fun e => decide ((s.ns q.nsid).nsze < e.1 + e.2)) = false) → q.cdw11.getLsbD 2 = false →
    ∃ t, exec (.datasetManagement q r) s = .next t ∧ t.statusOf q.id = some 0 ∧ t.wrp = s.wrp) ∧
  (∀ (s : State) (q : Sqe) (r : List (Nat × Nat)), s.live = true → s.takes q false = true →
    s.admits q (.datasetManagement q r) = true → prpFailure q = none →
    (r.any (fun e => decide ((s.ns q.nsid).nsze < e.1 + e.2)) = true) →
    ∃ t, exec (.datasetManagement q r) s = .next t ∧ t.statusOf q.id = some 0x80) ∧
  (∀ (s : State) (q : Sqe) (r : List (Nat × Nat)), s.live = true → s.takes q false = true →
    s.admits q (.copy q r) = true → prpFailure q = none →
    (128 < r.length ∨ r.any (fun e => decide (512 < e.2)) = true ∨ 4096 < (r.map (·.2)).sum) →
    ∃ t, exec (.copy q r) s = .next t ∧ t.statusOf q.id = some 0x183) ∧
  (∀ (s : State) (q : Sqe) (r : List (Nat × Nat)), s.live = true → s.takes q false = true →
    s.admits q (.copy q r) = true → prpFailure q = none → r.length ≤ 128 →
    (r.any (fun e => decide (512 < e.2)) = false) → (r.map (·.2)).sum ≤ 4096 →
    q.slba + (r.map (·.2)).sum ≤ (s.ns q.nsid).nsze →
    (r.any (fun e => decide ((s.ns q.nsid).nsze < e.1 + e.2)) = false) →
    s.writeFailure q.id.fn q.nsid ((List.range ((s.ns q.nsid).cover q.slba (r.map (·.2)).sum).2).map (((s.ns
    q.nsid).cover q.slba (r.map (·.2)).sum).1 + ·)) (((List.range ((s.ns q.nsid).cover q.slba (r.map
    (·.2)).sum).2).map (((s.ns q.nsid).cover q.slba (r.map (·.2)).sum).1 + ·)).map (· / (s.ns q.nsid).parts)) false =
    none → ∃ t, exec (.copy q r) s = .next t ∧
    ((t.cmd? q.id).map (fun (x : Cmd) => (x.ranges, x.status)) = some (r.map (fun (e : Nat × Nat) => (s.ns
    q.nsid).cover e.1 e.2), none)))

/-- Namespaces are formatted, erased, created, deleted, attached and detached. While the device has power and runs, unless
a clause says otherwise: Format NVM of a namespace that is not attached ends with Invalid Namespace. Of one that may
be formatted it marks the namespace for the erase and its new format. Sanitize with another action is refused.
Sanitize is accepted at once and marks the namespace for the erase. CRYPTO_ERASE_PROCEED of a namespace whose reads
have passed, with no command held, ends its erase, and is counted and raised. Create of an unpaired namespace that
fits takes the lowest free identifier. Sizes that differ are refused. NamespaceCreate is not served on a VF. Delete
marks the namespace for its erase. NamespaceDelete is not served on a VF. Attach of a free unpaired namespace attaches
it. One that is attached is refused. NamespaceAttach is not served on a VF. Detach of a namespace whose commands have
drained detaches it. Otherwise it waits. NamespaceDetach is not served on a VF. NAMESPACE_DETACH_DRAINED ends the
detach that waits. In every clause exec answers a next state, for: formatNvm, sanitize, cryptoEraseProceed,
namespaceCreate, namespaceDelete, namespaceAttach, namespaceDetach, namespaceDetachDrained. Rests on
10_functions_and_queues.md. The model's own choices and readings in it are those of notes/assumptions/20, 57. -/
def Obligations.NamespaceCommands : Prop :=
  (∀ (s : State) (q : Sqe), s.live = true → s.takes q true = true → q.nsid ≠ allNs → s.nsOpen q.id.fn q.nsid = false →
    ∃ t, exec (.formatNvm q) s = .next t ∧ t.statusOf q.id = some 0x0B) ∧
  (∀ (s : State) (q : Sqe), s.live = true → s.takes q true = true → q.nsid ≠ allNs → s.nsOpen q.id.fn q.nsid = true →
    wordField q.cdw10 9 3 ≤ 2 → wordField q.cdw10 0 4 ≤ 1 → s.readOnlyNs q.nsid = false →
    (s.ns q.nsid).erasing = false →
    s.mapFits q.nsid ((s.ns q.nsid).formatted (wordField q.cdw10 0 4 == 1) ((s.ns q.nsid).iu4k || q.cdw11.getLsbD
    0)).iuCount = true → ∃ t, exec (.formatNvm q) s = .next t ∧ (t.ns q.nsid).erasing = true ∧
    (t.ns q.nsid).eraseFor = some q.id ∧
    (t.ns q.nsid).eraseTo = some (wordField q.cdw10 0 4 == 1, (s.ns q.nsid).iu4k || q.cdw11.getLsbD 0) ∧
    t.statusOf q.id = none) ∧
  (∀ (s : State) (q : Sqe), s.live = true → s.takes q true = true → wordField q.cdw10 0 3 ≠ 4 →
    ∃ t, exec (.sanitize q) s = .next t ∧ t.statusOf q.id = some 0x02 ∧
    (t.fn q.id.fn).sanitize = (s.fn q.id.fn).sanitize) ∧
  (∀ (s : State) (q : Sqe) (n : Nat), s.live = true → s.takes q true = true → wordField q.cdw10 0 3 = 4 →
    s.attachedTo q.id.fn = [n] → (s.ns n).detaching = false → s.readOnlyNs n = false → (s.fn q.id.fn).sanitize ≠ 2 →
    ∃ t, exec (.sanitize q) s = .next t ∧ t.statusOf q.id = some 0 ∧ (t.fn q.id.fn).sanitize = 2 ∧
    (t.ns n).erasing = true) ∧
  (∀ (s : State) (n : Nat), s.live = true → (s.ns n).erasing = true → s.readsLeft n = false →
    (s.ns n).deleting = false → (s.ns n).heldIo = [] → ∃ t, exec (.cryptoEraseProceed n) s = .next t ∧
    (t.ns n).erasing = false ∧ t.num Reg.tcyEraseCnt = satAdd 32 (s.num Reg.tcyEraseCnt) 1 ∧
    t.bit Reg.tcyEvent 0 = true) ∧
  (∀ (s : State) (q : Sqe) (d : NsCreate) (k : Nat), s.live = true → s.takes q true = true → q.id.fn = 0 →
    d.paired = false → d.flbas ≤ 1 → d.nsze = d.ncap → d.nsze ≠ 0 → s.freeNsid = some k →
    s.mapFits k (Ns.iuCount
    { present := true, nsze := d.nsze, ncap := d.ncap, lba512 := d.flbas == 1, iu4k := d.iu4k }) = true →
    ∃ t, exec (.namespaceCreate q d) s = .next t ∧ t.statusOf q.id = some 0 ∧
    t.dw0Of q.id = some (BitVec.ofNat 32 k) ∧ (t.ns k).present = true ∧ (t.ns k).nsze = d.nsze ∧
    (t.ns k).attached = none) ∧
  (∀ (s : State) (q : Sqe) (d : NsCreate), s.live = true → s.takes q true = true → q.id.fn = 0 → d.nsze ≠ d.ncap →
    ∃ t, exec (.namespaceCreate q d) s = .next t ∧ t.statusOf q.id = some 0x02 ∧ t.nss = s.nss) ∧
  (∀ (s : State) (q : Sqe) (d : NsCreate), s.live = true → s.takes q true = true → q.id.fn ≠ 0 →
    ∃ t, exec (.namespaceCreate q d) s = .next t ∧ t.statusOf q.id = some 0x01 ∧ t.nss = s.nss) ∧
  (∀ (s : State) (q : Sqe), s.live = true → s.takes q true = true → q.id.fn = 0 → q.nsid ≠ allNs →
    (s.ns q.nsid).present = true → (s.ns q.nsid).erasing = false → ∃ t, exec (.namespaceDelete q) s = .next t ∧
    (t.ns q.nsid).erasing = true ∧ (t.ns q.nsid).deleting = true ∧ t.statusOf q.id = none) ∧
  (∀ (s : State) (q : Sqe), s.live = true → s.takes q true = true → q.id.fn ≠ 0 →
    ∃ t, exec (.namespaceDelete q) s = .next t ∧ t.statusOf q.id = some 0x01 ∧ t.nss = s.nss) ∧
  (∀ (s : State) (q : Sqe) (l : List Nat) (f : Nat), s.live = true → s.takes q true = true → q.id.fn = 0 →
    listedFn l = some f → (s.ns q.nsid).present = true → (s.ns q.nsid).deleting = false →
    (s.ns q.nsid).attached = none → (s.ns q.nsid).paired = false → (s.attachedTo f).length < 1024 →
    ∃ t, exec (.namespaceAttach q l) s = .next t ∧ t.statusOf q.id = some 0 ∧ (t.ns q.nsid).attached = some f) ∧
  (∀ (s : State) (q : Sqe) (l : List Nat) (f g : Nat), s.live = true → s.takes q true = true → q.id.fn = 0 →
    listedFn l = some f → (s.ns q.nsid).present = true → (s.ns q.nsid).deleting = false →
    (s.ns q.nsid).attached = some g → ∃ t, exec (.namespaceAttach q l) s = .next t ∧ t.statusOf q.id = some 0x118 ∧
    t.nss = s.nss) ∧
  (∀ (s : State) (q : Sqe) (l : List Nat), s.live = true → s.takes q true = true → q.id.fn ≠ 0 →
    ∃ t, exec (.namespaceAttach q l) s = .next t ∧ t.statusOf q.id = some 0x01 ∧ t.nss = s.nss) ∧
  (∀ (s : State) (q : Sqe) (l : List Nat) (f : Nat), s.live = true → s.takes q true = true → q.id.fn = 0 →
    listedFn l = some f → (s.ns q.nsid).present = true → (s.ns q.nsid).attached = some f →
    (s.ns q.nsid).detaching = false → s.nsDrained q.nsid = true → ∃ t, exec (.namespaceDetach q l) s = .next t ∧
    t.statusOf q.id = some 0 ∧ (t.ns q.nsid).attached = none ∧ (t.ns q.nsid).detaching = false) ∧
  (∀ (s : State) (q : Sqe) (l : List Nat) (f : Nat), s.live = true → s.takes q true = true → q.id.fn = 0 →
    listedFn l = some f → (s.ns q.nsid).present = true → (s.ns q.nsid).attached = some f →
    (s.ns q.nsid).detaching = false → s.nsDrained q.nsid = false → ∃ t, exec (.namespaceDetach q l) s = .next t ∧
    t.statusOf q.id = none ∧ (t.ns q.nsid).attached = some f ∧ (t.ns q.nsid).detaching = true) ∧
  (∀ (s : State) (q : Sqe) (l : List Nat), s.live = true → s.takes q true = true → q.id.fn ≠ 0 →
    ∃ t, exec (.namespaceDetach q l) s = .next t ∧ t.statusOf q.id = some 0x01 ∧ t.nss = s.nss) ∧
  (∀ (s : State) (n : Nat), s.live = true → (s.ns n).detaching = true → s.nsDrained n = true →
    ∃ t, exec (.namespaceDetachDrained n) s = .next t ∧ (t.ns n).detaching = false ∧ (t.ns n).attached = none)

/-- Resources of virtual functions, and function resets. While the device has power and runs, unless a clause says
otherwise: Primary flexible allocation is refused. PrimaryFlexibleAllocation is not served on a VF. Secondary Assign
of VQ to an Offline VF within the pools gives them. An Online VF is refused. SecondaryAssign is not served on a VF.
Secondary Online of a VF with its resources makes it Online. SecondaryOnline is not served on a VF. Secondary Offline
of a VF that may go makes it Offline. Another is refused. SecondaryOffline is not served on a VF. VF Enable is set and
raised. It is cleared and raised. An FLR of a VF takes its queues and keeps its resources. Its end is counted and
raised. A PF0 FLR also clears VF Enable and NumVFs. Its end is counted. In every clause exec answers a next state,
for: primaryFlexibleAllocation, secondaryAssign, secondaryOnline, secondaryOffline, vfEnableSet, vfEnableClear, vfFlr,
vfFlrDone, pfFlr, pfFlrDone. Rests on 10_functions_and_queues.md. The model's own choices and readings in it are those
of notes/assumptions/20, 60. -/
def Obligations.VirtualFunctions : Prop :=
  (∀ (s : State) (q : Sqe), s.live = true → s.takes q true = true → q.id.fn = 0 →
    ∃ t, exec (.primaryFlexibleAllocation q) s = .next t ∧ t.statusOf q.id = some 0x02 ∧ (t.fn 1).vq = (s.fn 1).vq) ∧
  (∀ (s : State) (q : Sqe), s.live = true → s.takes q true = true → q.id.fn ≠ 0 →
    ∃ t, exec (.primaryFlexibleAllocation q) s = .next t ∧ t.statusOf q.id = some 0x01 ∧ t.nss = s.nss) ∧
  (∀ (s : State) (q : Sqe) (v : Nat), s.live = true → s.takes q true = true → q.id.fn = 0 →
    wordField q.cdw10 16 16 = v + 1 → 1 ≤ v → v ≤ 4096 → wordField q.cdw10 8 3 = 0 → (s.fn v).online = false →
    s.vqFits v (wordField q.cdw11 0 16) = true → ∃ t, exec (.secondaryAssign q) s = .next t ∧
    t.statusOf q.id = some 0 ∧ (t.fn v).vq = wordField q.cdw11 0 16 ∧
    t.dw0Of q.id = some (BitVec.ofNat 32 (wordField q.cdw11 0 16))) ∧
  (∀ (s : State) (q : Sqe) (v : Nat), s.live = true → s.takes q true = true → q.id.fn = 0 →
    wordField q.cdw10 16 16 = v + 1 → 1 ≤ v → v ≤ 4096 → wordField q.cdw10 8 3 ≤ 1 → (s.fn v).online = true →
    ∃ t, exec (.secondaryAssign q) s = .next t ∧ t.statusOf q.id = some 0x120 ∧ (t.fn v).vq = (s.fn v).vq) ∧
  (∀ (s : State) (q : Sqe), s.live = true → s.takes q true = true → q.id.fn ≠ 0 →
    ∃ t, exec (.secondaryAssign q) s = .next t ∧ t.statusOf q.id = some 0x01 ∧ t.nss = s.nss) ∧
  (∀ (s : State) (q : Sqe) (v : Nat), s.live = true → s.takes q true = true → q.id.fn = 0 →
    wordField q.cdw10 16 16 = v + 1 → 1 ≤ v → v ≤ 4096 → 2 ≤ (s.fn v).vq → 1 ≤ (s.fn v).vi →
    ∃ t, exec (.secondaryOnline q) s = .next t ∧ t.statusOf q.id = some 0 ∧ (t.fn v).online = true) ∧
  (∀ (s : State) (q : Sqe), s.live = true → s.takes q true = true → q.id.fn ≠ 0 →
    ∃ t, exec (.secondaryOnline q) s = .next t ∧ t.statusOf q.id = some 0x01 ∧ t.nss = s.nss) ∧
  (∀ (s : State) (q : Sqe) (v : Nat), s.live = true → s.takes q true = true → q.id.fn = 0 →
    wordField q.cdw10 16 16 = v + 1 → 1 ≤ v → v ≤ 4096 → s.mayOffline v = true →
    ∃ t, exec (.secondaryOffline q) s = .next t ∧ t.statusOf q.id = some 0 ∧ (t.fn v).online = false) ∧
  (∀ (s : State) (q : Sqe) (v : Nat), s.live = true → s.takes q true = true → q.id.fn = 0 →
    wordField q.cdw10 16 16 = v + 1 → 1 ≤ v → v ≤ 4096 → s.mayOffline v = false →
    ∃ t, exec (.secondaryOffline q) s = .next t ∧ t.statusOf q.id = some 0x120 ∧ (t.fn v).online = (s.fn v).online) ∧
  (∀ (s : State) (q : Sqe), s.live = true → s.takes q true = true → q.id.fn ≠ 0 →
    ∃ t, exec (.secondaryOffline q) s = .next t ∧ t.statusOf q.id = some 0x01 ∧ t.nss = s.nss) ∧
  (∀ (s : State), s.live = true → s.vfEnable = false → ∃ t, exec .vfEnableSet s = .next t ∧ t.vfEnable = true ∧
    t.numVfs = s.numVfs ∧ t.bit Reg.fnmEvent 8 = true) ∧
  (∀ (s : State), s.live = true → s.vfEnable = true → ∃ t, exec .vfEnableClear s = .next t ∧ t.vfEnable = false ∧
    t.bit Reg.fnmEvent 8 = true) ∧
  (∀ (s : State) (v : Nat), s.live = true → v ≠ 0 → s.fnExists v = true → (s.fn v).life ≠ .flr →
    ∃ t, exec (.vfFlr v) s = .next t ∧ (t.fn v).life = Life.flr ∧ (t.fn v).sqs = [] ∧ (t.fn v).vq = (s.fn v).vq ∧
    (t.fn v).vi = (s.fn v).vi ∧ (t.fn v).online = (s.fn v).online) ∧
  (∀ (s : State) (v : Nat), s.live = true → v ≠ 0 → (s.fn v).life = .flr → ∃ t, exec (.vfFlrDone v) s = .next t ∧
    (t.fn v).life = Life.active ∧ t.num Reg.fnmFlrCnt = satAdd 32 (s.num Reg.fnmFlrCnt) 1 ∧
    t.bit Reg.fnmEvent 0 = true) ∧
  (∀ (s : State), s.live = true → s.bit Reg.fnmStatus 15 = false → ∃ t, exec .pfFlr s = .next t ∧
    t.bit Reg.fnmStatus 15 = true ∧ t.vfEnable = false ∧ t.numVfs = 0 ∧ (t.fn 0).life = Life.flr ∧ (t.fn 0).sqs = []) ∧
  (∀ (s : State), s.live = true → s.bit Reg.fnmStatus 15 = true → ∃ t, exec .pfFlrDone s = .next t ∧
    t.bit Reg.fnmStatus 15 = false ∧ (t.fn 0).life = Life.active ∧
    t.num Reg.fnmPfFlrCnt = satAdd 32 (s.num Reg.fnmPfFlrCnt) 1)

/-- A virtual function is quiesced, frozen, saved and restored. While the device has power and runs, unless a clause says
otherwise: QUIESCE of an active VF starts to quiesce it. In another state it is ignored, with event 9. QUIESCED
follows when nothing of the VF is outstanding. RESUME of a quiesced VF makes it active. FREEZE of a quiesced VF starts
to freeze it. FROZEN follows. UNFREEZE of a frozen VF makes it active. SAVE with too small a buffer fails with error
6. SAVE to PF0's memory gives the blob of the frozen VF, at once in Park and through its capacity in Run. The end of a
transfer that was made shows success. A transfer that failed shows error 8. BLOB_ACK ends a save to the partner with
its status. RESTORE into a frozen, disabled VF waits for its blob. A blob from the host ends the restore, with its
error and the functions unchanged where it is wrong. In every clause exec answers a next state, for: quiesce,
quiesced, resume, freeze, frozen, unfreeze, save, saveDone, blobAckRx, restore, restoreDone. Rests on
10_functions_and_queues.md. The model's own choices and readings in it are those of notes/assumptions/59, 61. -/
def Obligations.TenantTransfer : Prop :=
  (∀ (s : State), s.live = true → 1 ≤ s.vfSel → s.vfSel ≤ 4096 → s.fnExists s.vfSel = true →
    (s.fn s.vfSel).online = true → (s.fn s.vfSel).life = .active → ∃ t, exec .quiesce s = .next t ∧
    (t.fn s.vfSel).life = Life.quiescing) ∧
  (∀ (s : State), s.live = true → 1 ≤ s.vfSel → s.vfSel ≤ 4096 → s.fnExists s.vfSel = true →
    (s.fn s.vfSel).online = true → (s.fn s.vfSel).life ≠ .active → ∃ t, exec .quiesce s = .next t ∧
    t.bit Reg.fnmEvent 9 = true ∧ (t.fn s.vfSel).life = (s.fn s.vfSel).life) ∧
  (∀ (s : State) (v : Nat), s.live = true → (s.fn v).life = .quiescing → s.outstanding v = 0 →
    ∃ t, exec (.quiesced v) s = .next t ∧ (t.fn v).life = Life.quiesced ∧ t.bit Reg.fnmEvent 2 = true ∧
    t.num Reg.fnmQuiesceCnt = satAdd 32 (s.num Reg.fnmQuiesceCnt) 1) ∧
  (∀ (s : State), s.live = true → 1 ≤ s.vfSel → s.vfSel ≤ 4096 → s.fnExists s.vfSel = true →
    (s.fn s.vfSel).online = true → (s.fn s.vfSel).life = .quiesced → ∃ t, exec .resume s = .next t ∧
    (t.fn s.vfSel).life = Life.active) ∧
  (∀ (s : State), s.live = true → 1 ≤ s.vfSel → s.vfSel ≤ 4096 → s.fnExists s.vfSel = true →
    (s.fn s.vfSel).online = true → (s.fn s.vfSel).life = .quiesced → ∃ t, exec .freeze s = .next t ∧
    (t.fn s.vfSel).life = Life.freezing) ∧
  (∀ (s : State) (v : Nat), s.live = true → (s.fn v).life = .freezing → ∃ t, exec (.frozen v) s = .next t ∧
    (t.fn v).life = Life.frozen ∧ t.bit Reg.fnmEvent 3 = true) ∧
  (∀ (s : State), s.live = true → 1 ≤ s.vfSel → s.vfSel ≤ 4096 → s.fnExists s.vfSel = true →
    (s.fn s.vfSel).online = true → (s.fn s.vfSel).life = .frozen → ∃ t, exec .unfreeze s = .next t ∧
    (t.fn s.vfSel).life = Life.active) ∧
  (∀ (s : State), s.live = true → 1 ≤ s.vfSel → s.vfSel ≤ 4096 → s.fnExists s.vfSel = true →
    (s.fn s.vfSel).online = true → (s.fn s.vfSel).life = .frozen → s.mig = none →
    s.field Reg.fnmMigLen 0 17 < blobSize → ∃ t, exec .save s = .next t ∧ t.mig = none ∧
    t.field Reg.fnmMigStatus 0 2 = 3 ∧ t.field Reg.fnmMigStatus 8 8 = 6) ∧
  (∀ (s : State), s.live = true → 1 ≤ s.vfSel → s.vfSel ≤ 4096 → s.fnExists s.vfSel = true →
    (s.fn s.vfSel).online = true → (s.fn s.vfSel).life = .frozen → s.mig = none →
    blobSize ≤ s.field Reg.fnmMigLen 0 17 → s.bit Reg.fnmMigCtl 0 = false → s.portNormal = true →
    ∃ t, exec .save s = .next t ∧ t.mig = some { vf := s.vfSel, save := true, target := false : Mig } ∧
    (s.prxState = 0 ∧ s.dmaOk 0 = true → Out.bytes 5 (s.blobOf s.vfSel) ∈ t.out) ∧ (s.prxState ≠ 0 →
    t.hpt.intern.any (fun e => e.kind == Inner.blob && e.outs.contains (Out.bytes 5 (s.blobOf s.vfSel))) = true)) ∧
  (∀ (s : State) (m : Mig), s.live = true → (s.internBusy (fun k _ => k == Inner.blob) = false) → s.mig = some m →
    m.save = true → m.target = false → ∃ t, exec (.saveDone true) s = .next t ∧ t.mig = none ∧
    t.field Reg.fnmMigStatus 0 2 = 2 ∧ t.num Reg.fnmMigSize = blobSize ∧ t.bit Reg.fnmEvent 4 = true) ∧
  (∀ (s : State) (m : Mig), s.live = true → s.mig = some m → m.save = true → m.target = false →
    ∃ t, exec (.saveDone false) s = .next t ∧ t.mig = none ∧ t.field Reg.fnmMigStatus 0 2 = 3 ∧
    t.field Reg.fnmMigStatus 8 8 = 8 ∧ t.bit Reg.fnmEvent 6 = true) ∧
  (∀ (s : State) (v e : Nat) (m : Mig), s.live = true → (s.internBusy (fun k _ => k == Inner.blob) = false) →
    s.mig = some m → m.save = true → m.target = true → m.vf = v → ∃ t, exec (.blobAckRx v e) s = .next t ∧
    t.mig = none ∧ (t.field Reg.fnmMigStatus 0 2 = (if e = 0 then 2 else 3))) ∧
  (∀ (s : State), s.live = true → 1 ≤ s.vfSel → s.vfSel ≤ 4096 → s.fnExists s.vfSel = true →
    (s.fn s.vfSel).online = true → (s.fn s.vfSel).life = .frozen → (s.fn s.vfSel).enabled = false → s.mig = none →
    s.portNormal = true → ∃ t, exec .restore s = .next t ∧
    t.mig = some { vf := s.vfSel, save := false, target := s.bit Reg.fnmMigCtl 0 : Mig } ∧
    t.field Reg.fnmMigStatus 0 2 = 1) ∧
  (∀ (s : State) (b : List Byte) (m : Mig), s.live = true → (s.internBusy (fun k _ => k == Inner.blob) = false) →
    s.mig = some m → m.save = false → m.target = false → ∃ t, exec (.restoreDone b) s = .next t ∧ t.mig = none ∧
    (t.field Reg.fnmMigStatus 0 2 = (if s.blobErr m.vf b true = 0 then 2 else 3)) ∧ (s.blobErr m.vf b true = 0 →
    t.bit Reg.fnmEvent 5 = true) ∧ (s.blobErr m.vf b true ≠ 0 →
    t.field Reg.fnmMigStatus 8 8 = s.blobErr m.vf b true ∧ t.fns = s.fns))

/-- SPDM requests and their answers. While the device has power and runs, unless a clause says otherwise: GET_VERSION
answers version 1.2 alone. GET_CAPABILITIES answers the flags of Table 11-3. NEGOTIATE_ALGORITHMS answers its
algorithms. GET_DIGESTS names the chains that are present. A certificate of a slot that has no chain is refused.
GET_CERTIFICATE answers a portion of a chain, or refuses an offset past it. CHALLENGE of slot 0 is answered.
GET_MEASUREMENTS answers the number of blocks, one block or all five. Any other request is answered
UnsupportedRequest. In every clause exec answers a next state, for: getVersion, getCapabilities, negotiateAlgorithms,
getDigests, getCertificate, challenge, getMeasurements, spdmUnsupportedRequest. Rests on 11_security_and_metering.md.
The model's own choices and readings in it are those of notes/assumptions/21, 22, 23, 121. -/
def Obligations.SpdmRequests : Prop :=
  (∀ (s : State), s.live = true → s.spdmIn = true → ∃ t, exec .getVersion s = .next t ∧
    Out.resp 0 0x04 [0x12] ∈ t.out ∧ t.sec.sessions.length = s.sec.sessions.length) ∧
  (∀ (s : State), s.live = true → s.spdmIn = true → ∃ t, exec .getCapabilities s = .next t ∧
    Out.resp 0 0x61 [20, spdmCaps] ∈ t.out) ∧
  (∀ (s : State), s.live = true → s.spdmIn = true → ∃ t, exec .negotiateAlgorithms s = .next t ∧
    Out.resp 0 0x63 [0x10, 1, 2, 8, 2, 1] ∈ t.out) ∧
  (∀ (s : State), s.live = true → s.spdmIn = true → ∃ t, exec .getDigests s = .next t ∧
    (Out.resp 0 0x01 [if s.sec.claim.isSome then 3 else 1] ∈ t.out)) ∧
  (∀ (s : State) (k a n : Nat), s.live = true → s.spdmIn = true → s.chain k = none →
    ∃ t, exec (.getCertificate k a n) s = .next t ∧ Out.resp 0 0x7F [1] ∈ t.out) ∧
  (∀ (s : State) (k a n : Nat) (c : List Byte), s.live = true → s.spdmIn = true → s.chain k = some c →
    ∃ t, exec (.getCertificate k a n) s = .next t ∧
    (if a < c.length then Out.resp 0 0x02 [k, c.length - a - (sub c a n).length] ∈ t.out else Out.resp 0 0x7F [1] ∈
    t.out)) ∧
  (∀ (s : State) (nonce : List Byte), s.live = true → s.spdmIn = true → ∃ t, exec (.challenge 0 nonce) s = .next t ∧
    Out.resp 0 0x03 [0] ∈ t.out) ∧
  (∀ (s : State) (i : Nat) (nonce : List Byte), s.live = true → s.spdmIn = true → (i ≤ 5 ∨ i = 255) →
    ∃ t, exec (.getMeasurements i nonce) s = .next t ∧ (Out.resp 0 0x60 [if i = 0 ∨ i = 255 then 5 else 1] ∈ t.out)) ∧
  (∀ (s : State), s.live = true → s.spdmIn = true → ∃ t, exec .spdmUnsupportedRequest s = .next t ∧
    Out.resp 0 0x7F [7] ∈ t.out)

/-- Sessions open and end; CLAIM, PSK_ROTATE, ROLLBACK_COMMIT and QUERY. While the device has power and runs, unless a
clause says otherwise: KEY_EXCHANGE of slot 0 with fewer than four sessions opens one. PSK_EXCHANGE of a claimed
device with no hint or its own opens one. FINISH with the right MAC completes its session. One with a wrong MAC ends
it. END_SESSION ends its session. A secured message that fails authentication is counted and ends no session. A
session idle for 15 minutes ends. CLAIM over a KEY_EXCHANGE session of an unclaimed device stores the claim and ends
that session. PSK_ROTATE replaces the PSK and ends every other session. ROLLBACK_COMMIT without FALLBACK raises the
fuses to the running SVN. QUERY answers the outcomes and the sessions. A malformed request is answered INVALID_PARAM
and counted. In every clause exec answers a next state, for: keyExchange, pskExchange, finish, endSession, authFail,
sessionTimeout, claim, pskRotate, rollbackCommit, query, invalidManagementRequest. Rests on
11_security_and_metering.md. The model's own choices and readings in it are those of notes/assumptions/21, 22, 24, 25,
121. -/
def Obligations.SessionsAndClaim : Prop :=
  (∀ (s : State) (pub : List Byte), s.live = true → s.spdmIn = true → s.sec.sessions.length < 4 →
    ∃ t, exec (.keyExchange 0 pub) s = .next t ∧ t.sec.sessions.length = s.sec.sessions.length + 1 ∧
    ({ id := s.sec.nextSess, psk := false, ready := false, lastAt := s.now } : Sess) ∈ t.sec.sessions ∧
    Out.resp 0 0x64 [s.sec.nextSess] ∈ t.out ∧ t.num Reg.secSessionCnt = satAdd 32 (s.num Reg.secSessionCnt) 1) ∧
  (∀ (s : State) (h : List Byte) (c : ClaimRec), s.live = true → s.spdmIn = true → s.sec.claim = some c →
    (h = [] ∨ h = c.hint) → s.sec.sessions.length < 4 → ∃ t, exec (.pskExchange h) s = .next t ∧
    t.sec.sessions.length = s.sec.sessions.length + 1 ∧
    ({ id := s.sec.nextSess, psk := true, ready := true, lastAt := s.now } : Sess) ∈ t.sec.sessions ∧
    Out.resp 0 0x66 [s.sec.nextSess] ∈ t.out) ∧
  (∀ (s : State) (id : Nat) (x : Sess), s.live = true → s.securedIn id = true → s.sess? id = some x → x.psk = false →
    x.ready = false → ∃ t, exec (.finish id true) s = .next t ∧ Out.resp 0 0x65 [id] ∈ t.out ∧
    ({ x with ready := true, lastAt := s.now } : Sess) ∈ t.sec.sessions) ∧
  (∀ (s : State) (id : Nat) (x : Sess), s.live = true → s.securedIn id = true → s.sess? id = some x → x.psk = false →
    x.ready = false → ∃ t, exec (.finish id false) s = .next t ∧
    (t.sec.sessions = s.sec.sessions.filter (fun (y : Sess) => y.id != id)) ∧ Out.resp 0 0x7F [6] ∈ t.out) ∧
  (∀ (s : State) (id : Nat), s.live = true → s.securedIn id = true → (s.sess? id).isSome = true →
    ∃ t, exec (.endSession id) s = .next t ∧
    (t.sec.sessions = s.sec.sessions.filter (fun (y : Sess) => y.id != id)) ∧ t.bit Reg.secEvent 1 = true ∧
    Out.resp 0 0x6C [id] ∈ t.out) ∧
  (∀ (s : State), s.live = true → s.hpt.doe.any (·.1 == 2) = true → ∃ t, exec .authFail s = .next t ∧
    t.sec.sessions = s.sec.sessions ∧ t.num Reg.secAuthFailCnt = satAdd 32 (s.num Reg.secAuthFailCnt) 1 ∧
    t.bit Reg.secEvent 4 = true) ∧
  (∀ (s : State) (id : Nat) (x : Sess), s.live = true → s.sess? id = some x → x.lastAt + sessionLimit ≤ s.now →
    ∃ t, exec (.sessionTimeout id) s = .next t ∧
    (t.sec.sessions = s.sec.sessions.filter (fun (y : Sess) => y.id != id)) ∧ t.bit Reg.secEvent 1 = true ∧
    t.bit Reg.secEvent 2 = true) ∧
  (∀ (s : State) (id q : Nat) (psk hint : List Byte) (x : Sess), s.live = true → s.securedIn id = true →
    s.sec.claim = none → s.sess? id = some x → x.psk = false → x.ready = true → psk.length = 32 → hint.length ≤ 16 →
    ∃ t, exec (.claim id q psk hint) s = .next t ∧
    (t.sec.claim.map (fun (c : ClaimRec) => (c.psk, c.hint)) = some (psk, hint)) ∧
    (t.sec.claim.map (fun (c : ClaimRec) => c.nonce) = t.sec.sysClaim) ∧ t.sess? id = none ∧
    t.bit Reg.secStatus 0 = true ∧ t.bit Reg.secEvent 3 = true ∧ Out.bytes 1 (mgmtMessage 0x01 q 0) ∈ t.out) ∧
  (∀ (s : State) (id q : Nat) (psk hint : List Byte), s.live = true → s.pskSession id = true → psk.length = 32 →
    hint.length ≤ 16 → ∃ t, exec (.pskRotate id q psk hint) s = .next t ∧
    (t.sec.claim.map (fun (c : ClaimRec) => (c.psk, c.hint)) = some (psk, hint)) ∧
    (∀ x ∈ t.sec.sessions, x.id = id) ∧ Out.bytes 1 (mgmtMessage 0x02 q 0) ∈ t.out) ∧
  (∀ (s : State) (id q : Nat), s.live = true → s.pskSession id = true → s.bit Reg.secStatus 2 = false →
    ∃ t, exec (.rollbackCommit id q) s = .next t ∧ t.sec.rollback = max s.sec.rollback s.runningSvn ∧
    Out.bytes 1 (mgmtMessage 0x03 q 0) ∈ t.out) ∧
  (∀ (s : State) (id q : Nat), s.live = true → s.pskSession id = true → ∃ t, exec (.query id q) s = .next t ∧
    Out.bytes 1 (mgmtMessage 0x04 q 0 0 (s.sec.lastLoad.bytes ++ s.sec.lastBind.bytes ++ leBytes
    s.sec.sessions.length 1)) ∈ t.out) ∧
  (∀ (s : State) (id op q : Nat), s.live = true → s.securedIn id = true → (s.sess? id).isSome = true →
    ∃ t, exec (.invalidManagementRequest id op q) s = .next t ∧ Out.bytes 1 (mgmtMessage op q 2) ∈ t.out ∧
    t.num Reg.secReqRefusedCnt = satAdd 32 (s.num Reg.secReqRefusedCnt) 1 ∧ t.bit Reg.secEvent 6 = true)

/-- Management requests about images, profiles, keys and windows. While the device has power and runs, unless a clause
says otherwise: IMAGE_LOAD with no check running starts a claimed device's load where none is busy. IMAGE_ARM stores
its frame and answers OK where it arms. IMAGE_DISARM before the switch is committed disarms. PARK outside Run without
a Park pending changes nothing. PARK with a committed switch is held. TOKEN_TRIM of a VF of the active image sets the
pending trim. PROFILE_BIND in Park binds a profile that passes its checks, and no other. KEY_INSTALL on a keyless
namespace installs a key that unwraps and whose halves differ. KEY_GENERATE on a keyless namespace that is not paired
draws its key. LP_WINDOW writes the shadow and answers OK where the commit drains. In a recovery boot a slot image
that the ROM accepts goes to slot A. There a board descriptor in its ranges is taken. In every clause exec answers a
next state, for: imageLoad, imageArm, imageDisarm, park, tokenTrim, profileBind, keyInstall, keyGenerate, lpWindow,
uartImageRx. Rests on 03_prism_image.md, 04_tenant_service.md, 05_media_attachment.md, 11_security_and_metering.md,
14_local_port_and_telemetry.md, 15_startup_and_power.md. The model's own choices and readings in it are those of
notes/assumptions/24, 65. -/
def Obligations.ManagementRequests : Prop :=
  (∀ (s : State) (id q : Nat) (a : BitVec 64) (n : Word), s.live = true → s.pskSession id = true →
    s.bit Reg.prxStatus 6 = false → ∃ t, exec (.imageLoad id q a n) s = .next t ∧ (if s.bit Reg.secStatus 0 ∧
    s.loadBusy = false then t.bit Reg.prxStatus 6 = true ∧ t.sec.lastLoad = OpOutcome.running ∧
    t.sec.mgmtLoad = true ∧ Out.bytes 1 (mgmtMessage 0x10 q 1) ∈ t.out else t.bit Reg.prxStatus 6 = false)) ∧
  (∀ (s : State) (id q : Nat) (f : BitVec 64), s.live = true → s.pskSession id = true → s.arming = false →
    ∃ t, exec (.imageArm id q f) s = .next t ∧ t.num Reg.prxSwitchFrameLo = f.toNat % 2 ^ 32 ∧ (t.arming = true →
    Out.bytes 1 (mgmtMessage 0x11 q 0) ∈ t.out)) ∧
  (∀ (s : State) (id q : Nat), s.live = true → s.pskSession id = true → s.arming = true → s.switchCommitted = false →
    ∃ t, exec (.imageDisarm id q) s = .next t ∧ t.arming = false ∧ Out.bytes 1 (mgmtMessage 0x12 q 0) ∈ t.out) ∧
  (∀ (s : State) (id q : Nat), s.live = true → s.pskSession id = true → s.prxState ≠ 1 →
    ∃ t, exec (.park id q) s = .next t ∧ t.prx = s.prx ∧ Out.bytes 1 (mgmtMessage 0x13 q 0) ∈ t.out) ∧
  (∀ (s : State) (id q : Nat), s.live = true → s.pskSession id = true → s.prxState = 1 → s.arming = true →
    s.switchCommitted = true → ∃ t, exec (.park id q) s = .next t ∧ t.prx.parkHeld = true ∧
    Out.bytes 1 (mgmtMessage 0x13 q 0) ∈ t.out) ∧
  (∀ (s : State) (id q vf d : Nat) (v : Word) (a : Image), s.live = true → s.pskSession id = true → d ≤ 1 →
    s.prx.active = some a → (a.tenant? vf).isSome = true → ∃ t, exec (.tokenTrim id q vf d v) s = .next t ∧
    (t.prx.trims.get (2 * vf + d)).pending = some (min v.toNat 0x10000) ∧ Out.bytes 1 (mgmtMessage 0x14 q 0) ∈ t.out) ∧
  (∀ (s : State) (id q : Nat) (b : List Byte), s.live = true → s.pskSession id = true → s.mch.binding = [] →
    s.prxState = 0 → ∃ t, exec (.profileBind id q b) s = .next t ∧
    (if s.profileOk b then t.mch.profile = some (readProfile b) ∧
    Out.bytes 1 (mgmtMessage 0x20 q 1) ∈ t.out else t.mch.profile = s.mch.profile ∧ t.mch.binding = [])) ∧
  (∀ (s : State) (id q n : Nat) (w : List Byte), s.live = true → s.pskSession id = true → w.length = 92 →
    s.keyless n = true → ∃ t, exec (.keyInstall id q n w) s = .next t ∧ (Config.unwrapKey id n q w = none →
    t.keys = s.keys ∧ Out.bytes 1 (mgmtMessage 0x30 q 5) ∈ t.out) ∧ (∀ k, Config.unwrapKey id n q w = some k →
    if (fitBytes 64 k).take 32 = (fitBytes 64 k).drop 32 then t.keys = s.keys else t.keys.get n =
    ({ state := 2, key := fitBytes 64 k } : KeySlot) ∧ Out.bytes 1 (mgmtMessage 0x30 q 0) ∈ t.out)) ∧
  (∀ (s : State) (id q n : Nat), s.live = true → s.pskSession id = true → s.keyless n = true →
    (s.ns n).paired = false → ∃ t, exec (.keyGenerate id q n) s = .next t ∧
    t.keys.get n = ({ state := 1, key := fitBytes 64 (Config.randomBytes s.draw 64) } : KeySlot) ∧
    t.draw = s.draw + 1 ∧ t.bit Reg.secEvent 5 = true ∧ Out.bytes 1 (mgmtMessage 0x31 q 0) ∈ t.out) ∧
  (∀ (s : State) (id q w : Nat) (v : WindowVals), s.live = true → s.pskSession id = true → w < 8 →
    s.lpb.drainAt = none → ∃ t, exec (.lpWindow id q w v) s = .next t ∧ t.reg (Reg.lpbWinShadowBase w) = v.base ∧
    t.reg (Reg.lpbWinShadowTrans w) = v.trans ∧ t.reg (Reg.lpbWinShadowCfg w) = v.cfg &&& 0x0FFF001F ∧
    (t.lpb.drainAt.isSome = true → t.lpb.drainAt = some s.now ∧ Out.bytes 1 (mgmtMessage 0x40 q 0) ∈ t.out)) ∧
  (∀ (s : State) (x : SlotImage), s.live = true → s.bit Reg.pwrStatus 4 = true →
    ∃ t, exec (.uartImageRx (some x) none) s = .next t ∧ (t.sec.slotA = (if s.slotOk x then some x else s.sec.slotA))) ∧
  (∀ (s : State) (b : List Byte), s.live = true → s.bit Reg.pwrStatus 4 = true →
    ∃ t, exec (.uartImageRx none (some b)) s = .next t ∧
    (t.pwr.desc = (if descOk (readDesc b) then some (readDesc b) else s.pwr.desc)) ∧ t.sec.slotA = s.sec.slotA)

/-- The Mirror Link trains, and exchanges flits. While the device has power and runs, unless a clause says otherwise: A
flit is corrected and checked: one without sequence that passes shows that the link lives, and one that fails is
answered with a NAK and counted, but during LINK_EYE. A NAK within the window is recorded. One outside it changes
nothing. The acknowledgement timer, 1 us after the first flit, sends the acknowledgement. The credit report, 1 us
after the first credit freed, sends the limits. A speed retrain starts and is counted. Within 1 ms it ends and sets
the rate. Training of a link that is down or in reset shows its rate and width. Training that fails shows the link
down. A link reset starts and is counted. An INIT that is accepted on a link that is not dead records the partner and
brings the link up. In the grace period, with the session of the pair, it enters JOINED. On a dead link it takes the
link down. In every clause exec answers a next state, for: flitRx, nakRx, ackTimer, creditReport, speedRetrain,
speedRetrainDone, linkTrain, linkReset, initRx. Rests on 12_mirror_link.md. The model's own choices and readings in it
are those of notes/assumptions/68, 69, 70, 122, 123. -/
def Obligations.MirrorLink : Prop :=
  (∀ (s : State) (raw : List Byte), s.live = true → s.mlkSpeed ≠ 0 → ∃ t, exec (.flitRx raw) s = .next t ∧
    (flitGood (fecDecode raw).1 = true → hdrField (fecDecode raw).1 0 4 < 3 → t.mlk.lastFlit = s.now) ∧
    (flitGood (fecDecode raw).1 = false → t.out.head? = some (Out.link (.nak s.mlk.rxSeq))) ∧
    (flitGood (fecDecode raw).1 = false → s.testRunning ≠ some 4 →
    t.num Reg.mlkCrcFailCnt = satAdd 32 (s.num Reg.mlkCrcFailCnt) 1)) ∧
  (∀ (s : State) (q : Nat), s.live = true → s.linkUp = true → (q % 4096 + 4096 - s.txBase) % 4096 ≤ s.mlk.unacked →
    ∃ t, exec (.nakRx q) s = .next t ∧ t.mlk.nakSeq = q) ∧
  (∀ (s : State) (q : Nat), s.live = true → s.mlk.unacked < (q % 4096 + 4096 - s.txBase) % 4096 →
    ∃ t, exec (.nakRx q) s = .next t ∧ t = s) ∧
  (∀ (s : State), s.live = true → s.linkUp = true → s.mlk.accepted ≠ 0 → s.mlk.ackAt + 500 ≤ s.now →
    ∃ t, exec .ackTimer s = .next t ∧ t.mlk.accepted = 0 ∧
    t.out = Out.link (.ack ((s.mlk.rxSeq + 4095) % 4096)) :: s.out) ∧
  (∀ (s : State), s.live = true → s.linkUp = true → s.mlk.grantNew = true → s.mlk.grantAt + 500 ≤ s.now →
    ∃ t, exec .creditReport s = .next t ∧ t.mlk.grantNew = false ∧
    t.out.head? = some (Out.link (.credit (creditList s.mlk.granted)))) ∧
  (∀ (s : State), s.live = true → s.linkUp = true → s.mlk.retrainAt = none → s.mlk.resetAt = none →
    ∃ t, exec .speedRetrain s = .next t ∧ t.mlk.retrainAt = some s.now ∧
    t.num Reg.mlkRetrainCnt = satAdd 32 (s.num Reg.mlkRetrainCnt) 1) ∧
  (∀ (s : State) (p : Bool) (q a : Nat), s.live = true → s.mlk.retrainAt = some a → s.now ≤ a + 500000 →
    ∃ t, exec (.speedRetrainDone p q) s = .next t ∧ t.mlk.retrainAt = none ∧ t.mlk.lastFlit = s.now ∧
    (t.mlkSpeed = (if p && !s.bit Reg.mlkCtl 1 then 2 else 1))) ∧
  (∀ (s : State) (x : LinkTrained), s.live = true → s.pairedBoard = true → s.bit Reg.mlkCtl 0 = true →
    (s.linkUp = false ∨ s.mlk.resetAt.isSome = true) → (x.lanes = 4 ∨ x.lanes = 8 ∨ x.lanes = 16) →
    ∃ t, exec (.linkTrain (some x)) s = .next t ∧ (t.mlkSpeed = (if x.pam4 && !s.bit Reg.mlkCtl 1 then 2 else 1)) ∧
    t.field Reg.mlkStatus 5 5 = x.lanes) ∧
  (∀ (s : State), s.live = true → s.pairedBoard = true → s.bit Reg.mlkCtl 0 = true →
    (s.linkUp = false ∨ s.mlk.resetAt.isSome = true) → ∃ t, exec (.linkTrain none) s = .next t ∧ t.mlkSpeed = 0 ∧
    t.field Reg.mlkStatus 5 5 = 0) ∧
  (∀ (s : State), s.live = true → s.mlkSpeed ≠ 0 → s.mlk.resetAt = none → ∃ t, exec .linkReset s = .next t ∧
    t.mlk.resetAt = some s.now ∧ t.num Reg.mlkResetCnt = satAdd 32 (s.num Reg.mlkResetCnt) 1) ∧
  (∀ (s : State) (i : InitFlit), s.live = true → s.linkDead = false → s.pairedBoard = true → s.mlkSpeed ≠ 0 →
    ∃ t, exec (.initRx i) s = .next t ∧ t.mlk.peer = some i ∧ t.linkUp = true ∧
    t.num Reg.mlkPartnerSerialLo = i.serial.toNat % 2 ^ 32) ∧
  (∀ (s : State) (i : InitFlit), s.live = true → s.linkDead = false → s.pairedBoard = true → s.mlkSpeed ≠ 0 →
    s.pairState = 1 → s.mlk.bootGrace = false → s.mlk.session = some i.session → ∃ t, exec (.initRx i) s = .next t ∧
    t.pairState = 5 ∧ t.mlk.graceAt = none) ∧
  (∀ (s : State) (i : InitFlit), s.live = true → s.linkDead = true → ∃ t, exec (.initRx i) s = .next t ∧
    t.linkUp = false ∧ t.mlkSpeed = 0)

/-- The partner is lost and rejoins, and the roles of a pair. While the device has power and runs, unless a clause says
otherwise: A dead link in JOINED starts the grace period. The grace period's expiry declares the partner lost with
cause 1. DECLARE_LOST in JOINED or GRACE does with cause 3. The partner's fence in JOINED does with cause 4. A dump
notice does with cause 2. At the role edge the fence times select the role. REJOIN with a failed check records it.
REJOIN with none begins RESYNC. At the later of the two frames the chip enters JOINED with no role. In RESYNC a frame
of clearing is the partner's frame for JOINED. Otherwise it is the partner's frame of clearing, the later one. In
every clause exec answers a next state, for: linkDown, graceExpiry, declareLost, fenceInAssert, dumpNoticeRx,
roleEdge, rejoin, pairJoined, clearingFrameRx. Rests on 12_mirror_link.md. The model's own choices and readings in it
are those of notes/assumptions/73, 101, 123. -/
def Obligations.PartnerAndRoles : Prop :=
  (∀ (s : State), s.live = true → s.linkDead = true → s.pairState = 5 → ∃ t, exec .linkDown s = .next t ∧
    t.pairState = 1 ∧ t.linkUp = false ∧ t.mlk.graceAt = some s.now ∧ t.bit Reg.mlkEvent 3 = true) ∧
  (∀ (s : State) (a : Nat), s.live = true → s.pairState = 1 → s.mlk.graceAt = some a → a + s.graceTicks ≤ s.now →
    ∃ t, exec .graceExpiry s = .next t ∧ t.pairState = 2 ∧ t.field Reg.mlkPairState 16 3 = 1 ∧
    t.bit Reg.mlkStatus 11 = true ∧ t.mlk.lostAt = some s.now ∧ t.mlk.session = none) ∧
  (∀ (s : State) (n : Nat), s.live = true → n < 6 → (s.pairState = 5 ∨ s.pairState = 1) →
    ∃ t, exec (.declareLost (.core n)) s = .next t ∧ t.pairState = 2 ∧ t.field Reg.mlkPairState 16 3 = 3 ∧
    t.bit Reg.mlkStatus 11 = true ∧ t.mlk.lostAt = some s.now ∧ t.mlk.session = none) ∧
  (∀ (s : State), s.live = true → s.pairedBoard = true → s.pairState = 5 → ∃ t, exec .fenceInAssert s = .next t ∧
    t.pairState = 2 ∧ t.field Reg.mlkPairState 16 3 = 4 ∧ t.bit Reg.mlkStatus 11 = true ∧ t.mlk.lostAt = some s.now ∧
    t.mlk.session = none ∧ t.mlk.fenceAt = some (s.mlk.fenceAt.getD s.now)) ∧
  (∀ (s : State), s.live = true → (s.pairState = 5 ∨ s.pairState = 1) → ∃ t, exec .dumpNoticeRx s = .next t ∧
    t.pairState = 2 ∧ t.field Reg.mlkPairState 16 3 = 2 ∧ t.bit Reg.mlkStatus 11 = true ∧ t.mlk.lostAt = some s.now ∧
    t.mlk.session = none) ∧
  (∀ (s : State) (a : Nat), s.live = true → s.mlk.lostAt = some a → s.ftb.tick = 0 → a + 501000 ≤ s.now →
    ∃ t, exec .roleEdge s = .next t ∧ t.pairRole = roleFor s.pwr.straps.pairId s.mlk.fenceAt a ∧ t.mlk.lostAt = none) ∧
  (∀ (s : State) (n : Nat) (i : InitFlit), s.live = true → n < 6 → s.pairState = 2 → s.linkUp = true →
    s.mlk.peer = some i → s.joinErr i ≠ 0 → ∃ t, exec (.rejoin (some (.core n))) s = .next t ∧ t.pairState = 2 ∧
    t.field Reg.mlkPairState 8 8 = s.joinErr i ∧ t.bit Reg.mlkEvent 6 = true) ∧
  (∀ (s : State) (n : Nat) (i : InitFlit), s.live = true → n < 6 → s.pairState = 2 → s.linkUp = true →
    s.mlk.peer = some i → s.joinErr i = 0 → ∃ t, exec (.rejoin (some (.core n))) s = .next t ∧ t.pairState = 4 ∧
    t.field Reg.mlkPairState 8 8 = 0) ∧
  (∀ (s : State) (a b : Nat), s.live = true → s.mlk.joinOwn = some a → s.mlk.peerJoin = some b → s.pairState = 4 →
    max a b ≤ s.frame → ∃ t, exec .pairJoined s = .next t ∧ t.pairState = 5 ∧ t.pairRole = 0 ∧
    t.bit Reg.prxStatus 8 = false ∧ t.bit Reg.mlkEvent 5 = true ∧ t.mlk.joinOwn = none) ∧
  (∀ (s : State) (f : Nat), s.live = true → s.pairState = 4 → ∃ t, exec (.clearingFrameRx f) s = .next t ∧
    t.mlk.peerJoin = some f) ∧
  (∀ (s : State) (f : Nat), s.live = true → s.pairState ≠ 4 → ∃ t, exec (.clearingFrameRx f) s = .next t ∧
    t.prx.peerClear = some (max f (s.prx.peerClear.getD 0)))

/-- Messages of VC0 and their MACKs. While the device has power and runs, unless a clause says otherwise: A MACK that is
not REJECTED ends its message. A REJECTED one ends it and leaves its namespace unprotected, or in a resync of its own
while JOINED. One for no message ends none. A message without MACK for 10 ms in JOINED ends alike. Before that nothing
happens. A MWRITE of a wrong length is malformed and counted. A MWRITE of a paired namespace is staged where there is
room, and waits otherwise. MMAP of a run unmaps it. MERASE takes the key and is counted. In every clause exec answers
a next state, for: mackRx, mackTimeout, mwriteRx, mmapRx, meraseRx. Rests on 12_mirror_link.md. The model's own
choices and readings in it are those of notes/assumptions/45, 69, 104. -/
def Obligations.MirroredWrites : Prop :=
  (∀ (s : State) (q e : Nat) (m : Mirrored), s.live = true → s.sent? q = some m → e ≠ 2 →
    ∃ t, exec (.mackRx q e) s = .next t ∧
    (((s.mlk.sent.filter (fun (x : Mirrored) => x.seq != q)).map (fun (x : Mirrored) => x.seq)).isPrefixOf
    (t.mlk.sent.map (fun (x : Mirrored) => x.seq)) = true)) ∧
  (∀ (s : State) (q : Nat) (m : Mirrored), s.live = true → s.sent? q = some m → (s.ns m.nsid).paired = true →
    ∃ t, exec (.mackRx q 2) s = .next t ∧
    ((t.ns m.nsid).prot = (if s.joined && (s.ns m.nsid).attached.isSome && !s.kcvDiffers m.nsid then 3 else 2)) ∧
    (((s.mlk.sent.filter (fun (x : Mirrored) => x.seq != q)).map (fun (x : Mirrored) => x.seq)).isPrefixOf
    (t.mlk.sent.map (fun (x : Mirrored) => x.seq)) = true)) ∧
  (∀ (s : State) (q e : Nat), s.live = true → s.sent? q = none → ∃ t, exec (.mackRx q e) s = .next t ∧
    t.mlk.sent = s.mlk.sent) ∧
  (∀ (s : State) (q a : Nat) (m : Mirrored), s.live = true → s.sent? q = some m → s.joined = true → m.sentAt = some a →
    a + 5000000 ≤ s.now → (s.ns m.nsid).paired = true → ∃ t, exec (.mackTimeout q) s = .next t ∧
    ((t.ns m.nsid).prot = (if s.joined && (s.ns m.nsid).attached.isSome && !s.kcvDiffers m.nsid then 3 else 2)) ∧
    (((s.mlk.sent.filter (fun (x : Mirrored) => x.seq != q)).map (fun (x : Mirrored) => x.seq)).isPrefixOf
    (t.mlk.sent.map (fun (x : Mirrored) => x.seq)) = true)) ∧
  (∀ (s : State) (q : Nat) (m : Mirrored), s.live = true → s.sent? q = some m →
    (m.sentAt.all (fun a => decide (s.now < a + 5000000)) = true) → ∃ t, exec (.mackTimeout q) s = .next t ∧ t = s) ∧
  (∀ (s : State) (m : MWrite), s.live = true → s.mirroring = true → m.lengthOk = false →
    ∃ t, exec (.mwriteRx m) s = .next t ∧ t.num Reg.mlkBadMsgCnt = satAdd 32 (s.num Reg.mlkBadMsgCnt) 1 ∧
    t.mlk.inbound = s.mlk.inbound) ∧
  (∀ (s : State) (m : MWrite), s.live = true → s.mirroring = true → m.lengthOk = true → s.pairedHere m.nsid = true →
    m.unitMask % 256 ≠ 0 → m.unitMask < 2 ^ (s.ns m.nsid).parts → m.index < (s.ns m.nsid).iuCount →
    s.mlk.inbound = [] → ∃ t, exec (.mwriteRx m) s = .next t ∧
    (t.mlk.inbound = (if bitCount m.unitMask ≤ s.mirrorFree then [] else [InMirror.mwrite m])) ∧
    (t.wrp.nextWid = (if bitCount m.unitMask ≤ s.mirrorFree then s.wrp.nextWid + 1 else s.wrp.nextWid)) ∧
    (bitCount m.unitMask ≤ s.mirrorFree →
    t.num Reg.wrpMirrorInCnt = satAdd 32 (s.num Reg.wrpMirrorInCnt) ((List.range (s.ns m.nsid).parts).filter
    (m.unitMask.testBit ·)).length)) ∧
  (∀ (s : State) (m : MMap), s.live = true → s.mirroring = true → s.pairedHere m.nsid = true → m.action = 1 →
    1 ≤ m.count → m.index + m.count ≤ (s.ns m.nsid).iuCount → s.mlk.inbound = [] →
    ∃ t, exec (.mmapRx m) s = .next t ∧ t.wrp.map.get (mapKey m.nsid m.index) = unmappedEntry ∧ t.mlk.inbound = []) ∧
  (∀ (s : State) (n q : Nat), s.live = true → s.mirroring = true → s.pairedHere n = true → s.mlk.inbound = [] →
    ∃ t, exec (.meraseRx n q) s = .next t ∧ (t.keys.get n).state = 0 ∧
    t.num Reg.tcyEraseCnt = satAdd 32 (s.num Reg.tcyEraseCnt) 1)

/-- Messages of VC4 and VC5. While the device has power and runs, unless a clause says otherwise: A blob takes the lowest
free buffer. DISCARD frees the selected one. NS_SYNC 4 shows the namespace detached from the partner. NS_SYNC 3 shows
a paired one attached there. NS_SYNC 1 creates a namespace that fits. In JOINED a change map starts the resync of its
namespace. A repair request that can be answered is answered by one message. RESYNC_DONE ends the resync of its
namespace. The partner's host loss is recorded. So is its return. A key check value is recorded. So is the partner
going down. In every clause exec answers a next state, for: blobRx, blobDiscard, nsSyncRx, changeMapRx, repairReqRx,
resyncDoneRx, partnerHostLost, partnerHostRestored, kcvRx, goingDownRx. Rests on 12_mirror_link.md. The model's own
choices and readings in it are those of notes/assumptions/71, 72, 123. -/
def Obligations.PairMessages : Prop :=
  (∀ (s : State) (v k : Nat) (b : List Byte), s.live = true → s.mirroring = true → b.length ≤ 16384 →
    s.freeBlob = some k → ∃ t, exec (.blobRx v b) s = .next t ∧ t.mlk.blobs = s.mlk.blobs ++ [(k, v, b)] ∧
    t.bit Reg.mlkEvent 13 = true) ∧
  (∀ (s : State) (n : Nat), s.live = true → n < 6 → ∃ t, exec (.blobDiscard (.core n)) s = .next t ∧
    (t.mlk.blobs = s.mlk.blobs.filter (fun (x : Nat × Nat × List Byte) => x.1 != s.field Reg.mlkBlobSel 0 2))) ∧
  (∀ (s : State) (m : NsSync), s.live = true → s.mirroring = true → m.action = 4 →
    ∃ t, exec (.nsSyncRx m) s = .next t ∧ (t.ns m.nsid).peerAttached = false) ∧
  (∀ (s : State) (m : NsSync), s.live = true → s.mirroring = true → m.action = 3 →
    ∃ t, exec (.nsSyncRx m) s = .next t ∧
    (t.ns m.nsid).peerAttached = ((s.ns m.nsid).present && (s.ns m.nsid).paired)) ∧
  (∀ (s : State) (m : NsSync), s.live = true → s.mirroring = true → m.action = 1 → m.units ≠ 0 →
    (s.ns m.nsid).present = false →
    s.mapFits m.nsid (Ns.iuCount
    { nsze := m.units, ncap := m.units, lba512 := m.lba512, iu4k := m.iu4k, paired := true }) = true →
    ∃ t, exec (.nsSyncRx m) s = .next t ∧ (t.ns m.nsid).present = true ∧ (t.ns m.nsid).paired = true ∧
    (t.ns m.nsid).nsze = m.units) ∧
  (∀ (s : State) (n : Nat) (r : List Nat), s.live = true → s.pairedHere n = true → s.joined = true →
    ∃ t, exec (.changeMapRx n r) s = .next t ∧ (t.ns n).prot = 3 ∧ (t.ns n).source = false) ∧
  (∀ (s : State) (n i p : Nat), s.live = true → s.pairedHere n = true → (s.ns n).prot = 1 → s.joined = true →
    p < (s.ns n).parts → i < (s.ns n).iuCount → ∃ t, exec (.repairReqRx n i p true) s = .next t ∧
    t.mlk.originSeq = s.mlk.originSeq + 1) ∧
  (∀ (s : State) (n : Nat), s.live = true → (s.ns n).prot = 3 → ∃ t, exec (.resyncDoneRx n) s = .next t ∧
    ((t.ns n).prot = (if s.kcvDiffers n then 2 else 1)) ∧ (t.ns n).source = false) ∧
  (∀ (s : State), s.live = true → ∃ t, exec .partnerHostLost s = .next t ∧ t.mlk.peerHostLost = true ∧
    t.bit Reg.mlkEvent 11 = true) ∧
  (∀ (s : State), s.live = true → ∃ t, exec .partnerHostRestored s = .next t ∧ t.mlk.peerHostLost = false ∧
    t.bit Reg.mlkEvent 12 = true) ∧
  (∀ (s : State) (n : Nat) (v : BitVec 64), s.live = true → ∃ t, exec (.kcvRx n v) s = .next t ∧
    lookupKey n t.mlk.kcvs = some v) ∧
  (∀ (s : State), s.live = true → ∃ t, exec .goingDownRx s = .next t ∧ t.mlk.peerDown = true)

/-- Sources of the Event Controller, their claim and completion. While the device has power and runs, unless a clause says
otherwise: A core's ring write of a message source makes it pending. PF0's of a source above 15 is dropped and
counted. UNPEND clears the pending of a source that is not active. A level change is the input of its source, and LIVE
shows it under the source's polarity. A hold-off group whose time has passed opens, or goes idle. A core's claim takes
the source that ranks first, makes it active and returns it. With none it returns 0. Completing the top of the stack
pops it. Completing anything else freezes the stack, which is counted. A stack reset empties and thaws the stack. A
core's write of EVC_CTL is stored. In every clause exec answers a next state, for: evcRing, evcUnpend,
levelSourceChange, holdoffGroupExpiry, evcClaim, evcComplete, evcStackReset, evcGdisWrite. Rests on
13_control_complex.md. The model's own choices and readings in it are those of notes/assumptions/14, 54, 76, 124. -/
def Obligations.EventSources : Prop :=
  (∀ (s : State) (c n : Nat), s.live = true → c < 6 → messageSource n = true →
    ∃ t, exec (.evcRing (.core c) n) s = .next t ∧ t.srcPending n = true) ∧
  (∀ (s : State) (n : Nat), s.live = true → 15 < n → ∃ t, exec (.evcRing .pf0 n) s = .next t ∧
    t.num Reg.evcRingDropCnt = satAdd 32 (s.num Reg.evcRingDropCnt) 1 ∧ t.srcPending n = s.srcPending n) ∧
  (∀ (s : State) (c n : Nat), s.live = true → c < 6 → n < 992 → s.srcActive n = false →
    ∃ t, exec (.evcUnpend (.core c) n) s = .next t ∧ t.srcPending n = false) ∧
  (∀ (s : State) (n : Nat) (b : Bool), s.live = true → 992 ≤ n → n ≤ 1012 →
    ∃ t, exec (.levelSourceChange n b) s = .next t ∧ t.evc.pins.get n = b ∧
    t.bit (Reg.evcSrcStatus n) 2 = (b != s.bit (Reg.evcSrcCfg n) 12)) ∧
  (∀ (s : State) (g : Nat), s.live = true → s.field (Reg.evcHoldoff g) 16 2 = 1 →
    s.evc.holdAt.get g + s.field (Reg.evcHoldoff g) 0 16 * 500 ≤ s.now →
    ∃ t, exec (.holdoffGroupExpiry g) s = .next t ∧
    (t.field (Reg.evcHoldoff g) 16 2 = 2 ∨ t.field (Reg.evcHoldoff g) 16 2 = 0) ∧
    t.field (Reg.evcHoldoff g) 0 16 = s.field (Reg.evcHoldoff g) 0 16) ∧
  (∀ (s : State) (c n : Nat), s.live = true → s.bestSource c = some n → ∃ t, exec (.evcClaim (.core c) c) s = .next t ∧
    t.stack c = n :: s.stack c ∧ t.srcActive n = true ∧ t.srcPending n = false ∧
    t.out = Out.read (claimWord n (s.priority n)) :: s.out) ∧
  (∀ (s : State) (c : Nat), s.live = true → s.bestSource c = none → ∃ t, exec (.evcClaim (.core c) c) s = .next t ∧
    t.stack c = s.stack c ∧ t.out = Out.read 0 :: s.out) ∧
  (∀ (s : State) (c n : Nat) (rest : List Nat), s.live = true → s.stackFrozen c = false → s.stack c = n :: rest →
    ∃ t, exec (.evcComplete (.core c) c n) s = .next t ∧ t.stack c = rest ∧ t.srcActive n = false) ∧
  (∀ (s : State) (c n : Nat), s.live = true → s.stackFrozen c = false → (s.stack c).head? ≠ some n →
    ∃ t, exec (.evcComplete (.core c) c n) s = .next t ∧ t.stackFrozen c = true ∧ t.stack c = s.stack c ∧
    t.num Reg.evcStackFaultCnt = satAdd 32 (s.num Reg.evcStackFaultCnt) 1) ∧
  (∀ (s : State) (c : Nat), s.live = true → ∃ t, exec (.evcStackReset (.core c) c) s = .next t ∧ t.stack c = [] ∧
    t.stackFrozen c = false) ∧
  (∀ (s : State) (c : Nat) (v : Word), s.live = true → c < 6 → ∃ t, exec (.evcGdisWrite (.core c) v) s = .next t ∧
    t.reg Reg.evcCtl = v &&& 0xF01 ∧ t.gdis = v.getLsbD 0)

/-- Faults of the control cores, and Watch. While the device has power and runs, unless a clause says otherwise: A write
of a watchdog's TIMEOUT restarts it. Its first expiry raises fault source 2. Its second resets the core and is
counted. An access outside a core's allowance stores its address, raises fault source 0 and reads 0. An uncorrectable
error of a core's SRAM raises fault source 3 and is counted. In Quiet an armed source or an armed active pin sets its
cause and drives WAKE_N with PME_En. In Quiet the alarm does. Outside Quiet an enabled active pin raises its event.
Outside Quiet an enabled wake source of a function in D3hot sends PM_PME. VDD_AO starts Watch with its registers
reset. In every clause exec answers a next state, for: watchdogRestart, watchdogExpiry, watchdogCoreReset,
coreAccessFault, coreEccFault, watchWake, aowAlarmExpiry, watchPinEvent, wakeSourceFires, vddAoApplied. Rests on
13_control_complex.md. The model's own choices and readings in it are those of notes/assumptions/78. -/
def Obligations.CoresAndWatch : Prop :=
  (∀ (s : State) (c : Nat) (v : Word), s.live = true → ∃ t, exec (.watchdogRestart (.core c) c v) s = .next t ∧
    t.reg (Reg.evcCoreWdog c) = v &&& 0xFFFF ∧ t.evc.wdog.get c = false ∧ t.evc.wdogAt.get c = s.now) ∧
  (∀ (s : State) (c : Nat), s.live = true → s.watchdogDue c = true → s.evc.wdog.get c = false →
    ∃ t, exec (.watchdogExpiry c) s = .next t ∧ t.evc.wdog.get c = true ∧ t.bit (Reg.evcCoreFault c) 2 = true) ∧
  (∀ (s : State) (c : Nat), s.live = true → s.watchdogDue c = true → s.evc.wdog.get c = true →
    ∃ t, exec (.watchdogCoreReset c) s = .next t ∧ t.evc.wdog.get c = false ∧
    t.num Reg.evcWdogCnt = satAdd 32 (s.num Reg.evcWdogCnt) 1) ∧
  (∀ (s : State) (c : Nat) (a : BitVec 38) (w : Bool), s.live = true → ∃ t, exec (.coreAccessFault c a w) s = .next t ∧
    t.bit (Reg.evcCoreFault c) 0 = true ∧ t.num (Reg.evcCoreFaultAddr c) = a.toNat % 2 ^ 32 ∧ (w = false →
    t.out.head? = some (Out.read 0))) ∧
  (∀ (s : State) (c : Nat), s.live = true → ∃ t, exec (.coreEccFault c) s = .next t ∧
    t.bit (Reg.evcCoreFault c) 3 = true ∧ t.num Reg.srmUeCnt = satAdd 32 (s.num Reg.srmUeCnt) 1 ∧
    t.bit Reg.srmEvent 1 = true) ∧
  (∀ (s : State) (a b : Word), s.pwr.supply = .quiet →
    ((a &&& s.aow.wakeEn &&& 0xE) ≠ 0 ∨ (b &&& s.aow.pinEn &&& s.activePins s.aow.pinPol) ≠ 0) →
    ∃ t, exec (.watchWake a b) s = .next t ∧
    t.reg Reg.aowWakeCause = s.reg Reg.aowWakeCause ||| (a &&& s.aow.wakeEn &&& 0xE) ∧
    t.reg Reg.aowPinCause = s.reg Reg.aowPinCause ||| (b &&& s.aow.pinEn &&& s.activePins s.aow.pinPol) ∧
    (s.aow.pmeEn = true → t.bit Reg.aowStatus 1 = true)) ∧
  (∀ (s : State), s.pwr.supply = .quiet → s.aow.wakeEn.getLsbD 0 = true → s.reg Reg.aowAlarm ≠ 0 →
    ∃ t, exec .aowAlarmExpiry s = .next t ∧ t.bit Reg.aowWakeCause 0 = true ∧ (s.aow.pmeEn = true →
    t.bit Reg.aowStatus 1 = true)) ∧
  (∀ (s : State) (k : Nat), s.pwr.supply = .on → k < 21 → s.bit Reg.aowPinEn k = true →
    (s.activePins (s.reg Reg.aowPinPol)).getLsbD k = true → ∃ t, exec (.watchPinEvent k) s = .next t ∧
    t.bit Reg.aowEvent 1 = true) ∧
  (∀ (s : State) (k : Nat), s.pwr.supply = .on → 1 ≤ k → k < 4 → s.bit Reg.aowWakeEn k = true → (s.fn 0).d3hot = true →
    s.pmeEnabled = true → ∃ t, exec (.wakeSourceFires k) s = .next t ∧ t.out = Out.host 2 0 0 :: s.out ∧
    ((t.fn 0).cfg.get 0x44).getLsbD 15 = true) ∧
  (∀ (s : State), s.pwr.supply = .off → ∃ t, exec .vddAoApplied s = .next t ∧ t.pwr.supply = Supply.watchOnly ∧
    t.aow = ({} : Aow) ∧ t.num Reg.aowQuietCnt = 0)

/-- Lists of the Service DMA are armed, run, aborted and cleared. While the device has power and runs, unless a clause
says otherwise: The owner's ARM of a channel without a list, paced by nothing, hands a well-formed allowed list over.
PF0's on a channel that it does not own does nothing. ABORT ends a list that waits at once. It marks one that runs.
CLEAR leaves ERROR. The last descriptor's completion ends its list. A paused channel goes on at its level. In every
clause exec answers a next state, for: sdmArm, sdmAbort, sdmClear, sdmDescriptorComplete, sdmPaceResume. Rests on
13_control_complex.md. The model's own choices and readings in it are those of notes/assumptions/77, 124, 127. -/
def Obligations.ServiceDma : Prop :=
  (∀ (s : State) (b : Requester) (ch : Nat) (d : SdmDesc), s.live = true → ch < 8 → ownsChannel b ch = true →
    s.bit (Reg.sdmChArm ch) 0 = false → (s.sdmCh ch).active = false → s.sdmState ch ≠ 5 →
    paceSrc (s.reg (Reg.sdmChShadowCfg ch)) = 0 →
    sideAllowed ch ((s.reg (Reg.sdmChShadowCfg ch)).getLsbD 0) ((s.reg (Reg.sdmChShadowDescHi ch)).setWidth 64 <<< 32
    ||| (s.reg (Reg.sdmChShadowDescLo ch)).setWidth 64).toNat 32 false = true → d.malformed = false →
    d.allowed ch = true → ∃ t, exec (.sdmArm b ch d) s = .next t ∧ (t.sdmCh ch).active = true ∧
    (t.sdmCh ch).desc = some d ∧ t.bit (Reg.sdmChArm ch) 0 = false ∧
    t.num (Reg.sdmChHandoverCnt ch) = satAdd 32 (s.num (Reg.sdmChHandoverCnt ch)) 1) ∧
  (∀ (s : State) (b : Requester) (ch : Nat) (d : SdmDesc), s.live = true → ownsChannel b ch = false → b = .pf0 →
    ∃ t, exec (.sdmArm b ch d) s = .next t ∧ t = s) ∧
  (∀ (s : State) (b : Requester) (ch : Nat), s.live = true → ch < 8 → ownsChannel b ch = true →
    (s.sdmCh ch).active = true → s.sdm.running ≠ some ch → ∃ t, exec (.sdmAbort b ch) s = .next t ∧
    (t.sdmCh ch).active = false ∧ t.sdmState ch = 6 ∧ t.field (Reg.sdmChStatus ch) 4 4 = 7) ∧
  (∀ (s : State) (b : Requester) (ch : Nat), s.live = true → ch < 8 → ownsChannel b ch = true →
    (s.sdmCh ch).active = true → s.sdm.running = some ch → ∃ t, exec (.sdmAbort b ch) s = .next t ∧
    (t.sdmCh ch).aborting = true ∧ (t.sdmCh ch).active = true ∧ t.bit (Reg.sdmChArm ch) 0 = false) ∧
  (∀ (s : State) (b : Requester) (ch : Nat) (d : SdmDesc), s.live = true → ch < 8 → ownsChannel b ch = true →
    s.sdmState ch = 5 → (s.sdmCh ch).active = false → s.bit (Reg.sdmChArm ch) 0 = false →
    ∃ t, exec (.sdmClear b ch d) s = .next t ∧ t.sdmState ch = 0) ∧
  (∀ (s : State) (ch : Nat) (n d : SdmDesc), s.live = true → ch < 8 →
    (s.internBusy (fun k _ => k == Inner.sdm) = false) → (s.sdmCh ch).bad = false → (s.sdmCh ch).desc = some d →
    s.sdm.running = some ch → (s.sdmCh ch).hostEnd = false → (s.sdmCh ch).aborting = false → s.sdmState ch = 2 →
    d.isLast = true → s.bit (Reg.sdmChArm ch) 0 = false → ∃ t, exec (.sdmDescriptorComplete ch .ok n) s = .next t ∧
    (t.sdmCh ch).active = false ∧ t.sdmState ch = 0 ∧ t.bit (Reg.sdmChFlags ch) 1 = true ∧
    t.num (Reg.sdmChDescCnt ch) = satAdd 32 (s.num (Reg.sdmChDescCnt ch)) 1) ∧
  (∀ (s : State) (ch : Nat), s.live = true → ch < 8 → (s.sdmCh ch).active = true → (s.sdmCh ch).paused = true →
    s.paceHigh ch = true → ∃ t, exec (.sdmPaceResume ch) s = .next t ∧ (t.sdmCh ch).paused = false ∧
    (t.sdmCh ch).active = true)

/-- Host requests through local windows, and the commit of windows. While the device has power and runs, unless a clause
says otherwise: A host request that no active window contains is unsupported and counted. A write that its window can
accept becomes its bursts, posted where the window is, and drops what was prefetched there. A read becomes its bursts.
During a drain a request is held. An AtomicOp becomes its read. A prefetched block is dropped 1 us after its fetch. A
commit that meets a condition of R564 is refused with its window and its reason. Otherwise the drain begins and no
window changes. When everything has ended, all eight windows are copied. 100 us after the commit what is left is
ended. In every clause exec answers a next state, for: bar4RequestRx, localAtomicop, prefetchExpiry, lpbWinCommit,
commitDone, commitDrainTimeout. Rests on 14_local_port_and_telemetry.md. The model's own choices and readings in it
are those of notes/assumptions/79, 80, 81, 125. -/
def Obligations.LocalWindows : Prop :=
  (∀ (s : State) (off n : Nat) (b : Bool) (r : Nat), s.live = true → 0 < n → s.portNormal = true → s.memOk 0 = true →
    s.bar4Size ≠ 0 → s.lpb.drainAt = none → s.winOf { off := off, size := n, write := b, req := r } = none →
    ∃ t, exec (.bar4RequestRx off n b r) s = .next t ∧ t.lpb.queue = s.lpb.queue ∧
    t.num Reg.hptUrCnt = satAdd 32 (s.num Reg.hptUrCnt) 1) ∧
  (∀ (s : State) (off n r w : Nat), s.live = true → 0 < n → s.portNormal = true → s.memOk 0 = true → s.bar4Size ≠ 0 →
    s.lpb.drainAt = none → s.winOf { off := off, size := n, write := true, req := r } = some w →
    s.winReady w { off := off, size := n, write := true, req := r } = true →
    ∃ t, exec (.bar4RequestRx off n true r) s = .next t ∧
    (t.lpb.queue = s.lpb.queue ++ s.burstsOf w { off := off, size := n, write := true, req := r } (if s.winPosted w
    then .posted else .write)) ∧ t.lpb.waiting = s.lpb.waiting ∧ t.lpb.granted = false ∧
    (∀ x ∈ t.lpb.fetched, x.1 ≠ w)) ∧
  (∀ (s : State) (off n r w : Nat), s.live = true → 0 < n → s.portNormal = true → s.memOk 0 = true → s.bar4Size ≠ 0 →
    s.lpb.drainAt = none → s.winOf { off := off, size := n, write := false, req := r } = some w →
    s.winReady w { off := off, size := n, write := false, req := r } = true →
    ∃ t, exec (.bar4RequestRx off n false r) s = .next t ∧
    t.lpb.queue = s.lpb.queue ++ s.burstsOf w { off := off, size := n, write := false, req := r } .read ∧
    t.lpb.fetched = s.lpb.fetched) ∧
  (∀ (s : State) (off n : Nat) (b : Bool) (r : Nat), s.live = true → 0 < n → s.portNormal = true → s.memOk 0 = true →
    s.bar4Size ≠ 0 → s.lpb.drainAt.isSome = true → ∃ t, exec (.bar4RequestRx off n b r) s = .next t ∧
    t.lpb.waiting = s.lpb.waiting ++ [({ off := off, size := n, write := b, req := r } : WinReq)] ∧
    t.lpb.queue = s.lpb.queue) ∧
  (∀ (s : State) (off n : Nat) (f : Bool) (w : Nat), s.live = true → 0 < n → s.portNormal = true → s.memOk 0 = true →
    s.bar4Size ≠ 0 → s.lpb.drainAt = none →
    s.winOf { off := off, size := n, write := true, req := 0, atomic := some f } = some w →
    s.winReady w { off := off, size := n, write := true, req := 0, atomic := some f } = true →
    ∃ t, exec (.localAtomicop off n f) s = .next t ∧
    t.lpb.queue = s.lpb.queue ++ (s.burstsOf w { off := off, size := n, write := false, req := 0, atomic := some f }
    (.atomicRead f)).take 1) ∧
  (∀ (s : State) (w : Nat), s.live = true → ∃ t, exec (.prefetchExpiry w) s = .next t ∧
    (∀ x, x ∈ t.lpb.fetched ↔ x ∈ s.lpb.fetched ∧ (x.1 = w → s.now < x.2.2 + 500)) ∧ t.lpb.queue = s.lpb.queue) ∧
  (∀ (s : State) (c w k : Nat), s.live = true → (c = 4 ∨ c = 5) → s.lpb.drainAt = none → s.commitError = some (w, k) →
    w < 8 → k < 16 → ∃ t, exec (.lpbWinCommit (.core c)) s = .next t ∧ t.field Reg.lpbCommitStatus 0 2 = 3 ∧
    t.field Reg.lpbCommitStatus 2 3 = w ∧ t.field Reg.lpbCommitStatus 8 4 = k ∧ t.lpb.drainAt = none ∧
    t.bit Reg.lpbEvent 2 = true) ∧
  (∀ (s : State) (c : Nat), s.live = true → (c = 4 ∨ c = 5) → s.lpb.drainAt = none → s.commitError = none →
    ∃ t, exec (.lpbWinCommit (.core c)) s = .next t ∧ t.lpb.drainAt = some s.now ∧ t.num Reg.lpbCommitStatus = 1 ∧
    (∀ w, t.reg (Reg.lpbWinCfg w) = s.reg (Reg.lpbWinCfg w))) ∧
  (∀ (s : State), s.live = true → s.lpb.drainAt.isSome = true → s.lpbDrained = true →
    ∃ t, exec .commitDone s = .next t ∧ t.lpb.drainAt = none ∧ t.bit Reg.lpbEvent 1 = true ∧
    t.field Reg.lpbCommitStatus 0 2 = 2 ∧ (∀ w, t.reg (Reg.lpbWinBase w) = s.reg (Reg.lpbWinShadowBase w) ∧
    t.reg (Reg.lpbWinLimit w) = s.reg (Reg.lpbWinShadowLimit w) ∧
    t.reg (Reg.lpbWinTrans w) = s.reg (Reg.lpbWinShadowTrans w) ∧
    t.reg (Reg.lpbWinCfg w) = s.reg (Reg.lpbWinShadowCfg w))) ∧
  (∀ (s : State) (a : Nat), s.live = true → s.lpb.drainAt = some a → a + 50000 ≤ s.now → s.lpbDrained = false →
    ∃ t, exec .commitDrainTimeout s = .next t ∧ t.bit Reg.lpbCommitStatus 12 = true ∧ t.lpbDrained = true)

/-- A burst ends on its last beat, with an error, or at its limit. While the device has power and runs, unless a clause
says otherwise: The read of an AtomicOp whose compare does not fail is followed by its write. The last beat of another
burst ends it, and the next goes out. A read that ends otherwise is counted. A posted write at its WAIT limit is
counted, keeps its first record and raises its event. A core's burst that ends with an error is its ACCESS fault. A
core's access takes its place on the bus and ends a master's grant. In every clause exec answers a next state, for:
localBurstEnd, coreLocalAccess. Rests on 14_local_port_and_telemetry.md. The model's own choices and readings in it
are those of notes/assumptions/79, 82. -/
def Obligations.LocalBursts : Prop :=
  (∀ (s : State) (b : Burst) (rest : List Burst), s.live = true → s.lpb.queue = b :: rest →
    s.endOf b .lastBeat = some .lastBeat → b.for_ = .atomicRead false →
    ∃ t, exec (.localBurstEnd .lastBeat) s = .next t ∧
    t.lpb.queue.head? = some ({ b with for_ := .atomicWrite, write := true } : Burst) ∧
    t.num Reg.lpbReadErrCnt = s.num Reg.lpbReadErrCnt) ∧
  (∀ (s : State) (b : Burst) (rest : List Burst), s.live = true → s.lpb.queue = b :: rest →
    s.endOf b .lastBeat = some .lastBeat → b.for_ ≠ .atomicRead false → s.lpb.waiting = [] →
    ∃ t, exec (.localBurstEnd .lastBeat) s = .next t ∧ t.lpb.queue = nextFirst b.isCore rest ∧
    t.num Reg.lpbReadErrCnt = s.num Reg.lpbReadErrCnt ∧ t.num Reg.lpbPostFailCnt = s.num Reg.lpbPostFailCnt) ∧
  (∀ (s : State) (k : BurstEnd) (b : Burst) (rest : List Burst), s.live = true → k ≠ .lastBeat →
    s.lpb.queue = b :: rest → s.endOf b k = some k → (b.for_ = .read ∨ b.for_ = .atomicWrite) →
    ∃ t, exec (.localBurstEnd k) s = .next t ∧ t.num Reg.lpbReadErrCnt = satAdd 32 (s.num Reg.lpbReadErrCnt) 1 ∧
    t.num Reg.lpbPostFailCnt = s.num Reg.lpbPostFailCnt) ∧
  (∀ (s : State) (b : Burst) (rest : List Burst), s.live = true → s.lpb.queue = b :: rest →
    s.endOf b .waitLimit = some .waitLimit → (b.for_ = .posted ∨ b.for_ = .write) →
    s.bit Reg.lpbFailInfo 31 = false → ∃ t, exec (.localBurstEnd .waitLimit) s = .next t ∧
    t.num Reg.lpbPostFailCnt = satAdd 32 (s.num Reg.lpbPostFailCnt) 1 ∧ t.bit Reg.lpbEvent 0 = true ∧
    t.bit Reg.lpbFailInfo 31 = true ∧ t.field Reg.lpbFailInfo 16 4 = 2 ∧ t.num Reg.lpbFailAddrLo = b.off % 2 ^ 32) ∧
  (∀ (s : State) (b : Burst) (rest : List Burst) (c : Nat), s.live = true → s.lpb.queue = b :: rest →
    b.for_ = .core c → c < 8 → ∃ t, exec (.localBurstEnd .error) s = .next t ∧ t.bit (Reg.evcCoreFault c) 0 = true) ∧
  (∀ (s : State) (c : Nat) (a : Word) (b : Bool), s.live = true → c < 8 →
    ∃ t, exec (.coreLocalAccess c a b) s = .next t ∧ t.lpb.granted = false ∧
    t.lpb.queue = s.lpb.queue ++
    [({ for_ := .core c, win := 8, off := 0, addr := a.toNat / 4 * 4, beats := 1, cs := s.field Reg.lpbCoreCfg 12 2, write := b, req := 0, last := true }
    : Burst)])

/-- The local master, its upstream traffic and its interrupt lines. While the device has power and runs, unless a clause
says otherwise: A bus request is granted where nothing waits or after four retries. Otherwise it is retried and
counted. A master's write in the aperture is accepted while the buffer has room: in Park it goes on at once. One that
the aperture cannot carry is refused and counted. A read is taken and asked of the host. One whose data has arrived is
answered, with an error where the host gave none. Data that arrives is held. Data not collected for 1 ms is discarded
and counted. An interrupt line raises its event. In every clause exec answers a next state, for: localBusRequest,
upstreamWrite, upstreamRead, upstreamReadDataArrive, upstreamReadStale, lpIrqAssert. Rests on
14_local_port_and_telemetry.md. The model's own choices and readings in it are those of notes/assumptions/83, 117. -/
def Obligations.LocalMaster : Prop :=
  (∀ (s : State), s.live = true → s.lpb.granted = false → (s.lpb.queue = [] ∨ (s.lpbLocked = false ∧
    4 ≤ s.lpb.retries)) → ∃ t, exec .localBusRequest s = .next t ∧ t.lpb.granted = true ∧ t.lpb.retries = 0 ∧
    t.out = Out.pin .lpGrant true :: s.out) ∧
  (∀ (s : State), s.live = true → s.lpb.granted = false → (s.lpbLocked = true ∨ (s.lpb.queue ≠ [] ∧
    s.lpb.retries < 4)) → ∃ t, exec .localBusRequest s = .next t ∧ t.lpb.granted = false ∧
    t.num Reg.lpbArbRetryCnt = satAdd 32 (s.num Reg.lpbArbRetryCnt) 1) ∧
  (∀ (s : State) (a n : Nat), s.live = true → s.lpb.granted = true → s.inAperture a = true → s.upBad a n = false →
    s.lpb.upBuf.sum + n ≤ 4096 → ∃ t, exec (.upstreamWrite a n) s = .next t ∧
    (t.lpb.upBuf = (if s.inRun then s.lpb.upBuf ++ [n] else (s.lpb.upBuf ++ [n]).drop 1)) ∧ Out.resp 4 0 [a] ∈ t.out) ∧
  (∀ (s : State) (a n : Nat), s.live = true → s.lpb.granted = true → s.inAperture a = true → s.upBad a n = true →
    ∃ t, exec (.upstreamWrite a n) s = .next t ∧ t.lpb.upBuf = s.lpb.upBuf ∧
    t.num Reg.lpbUpErrCnt = satAdd 32 (s.num Reg.lpbUpErrCnt) 1 ∧ t.bit Reg.lpbEvent 7 = true) ∧
  (∀ (s : State) (a n : Nat), s.live = true → s.lpb.granted = true → s.inAperture a = true → s.upBad a n = false →
    (s.lpb.upReads.find? (fun (r : UpRead) => r.addr == a && r.len == n) = none) →
    ∃ t, exec (.upstreamRead a n) s = .next t ∧
    t.lpb.upReads = s.lpb.upReads ++ [({ addr := a, len := n } : UpRead)] ∧ (s.inRun = true → n ≠ 0 →
    t.hpt.intern.any (fun e => e.kind == Inner.bridge a && !e.deliver) = true) ∧ Out.resp 4 1 [a] ∈ t.out) ∧
  (∀ (s : State) (a n : Nat) (r : UpRead), s.live = true → s.lpb.granted = true → s.inAperture a = true →
    s.upBad a n = false → (s.lpb.upReads.find? (fun (x : UpRead) => x.addr == a && x.len == n) = some r) →
    r.ready.isSome = true → ∃ t, exec (.upstreamRead a n) s = .next t ∧ t.lpb.upReads = s.lpb.upReads.erase r ∧
    (Out.resp 4 (if r.bad then 2 else 0) [a] ∈ t.out)) ∧
  (∀ (s : State) (a : Nat), s.live = true →
    (s.hpt.intern.any (fun e => e.kind == Inner.bridge a && !e.deliver) = false) →
    (s.hpt.np.any (fun (r : Np) => r.kind == NpKind.internal (Inner.bridge a) none) = false) →
    ∃ t, exec (.upstreamReadDataArrive a) s = .next t ∧ (∀ r ∈ s.lpb.upReads, r.addr = a →
    ({ r with ready := some (r.ready.getD s.now) } : UpRead) ∈ t.lpb.upReads)) ∧
  (∀ (s : State) (a : Nat), s.live = true →
    (s.lpb.upReads.any (fun (r : UpRead) => r.addr == a && r.ready.any (fun (k : Nat) => decide (k + 500000 ≤
    s.now))) = true) → ∃ t, exec (.upstreamReadStale a) s = .next t ∧
    t.num Reg.lpbUpStaleCnt = satAdd 32 (s.num Reg.lpbUpStaleCnt) 1 ∧ (∀ r ∈ t.lpb.upReads, r.addr = a →
    ∀ k, r.ready = some k → s.now < k + 500000)) ∧
  (∀ (s : State) (k : Nat), s.live = true → k < 4 → ∃ t, exec (.lpIrqAssert k) s = .next t ∧
    t.bit Reg.lpbEvent (3 + k) = true)

/-- Samples, records and transfers of the Telemetry Lens; a metered minute is signed. While the device has power and runs,
unless a clause says otherwise: A sample that is due starts, or is counted as skipped while its entry is busy. A good
sample is stamped and counted. A bad one is counted and raised. A record that is due is numbered and counted. A read
of a Larvis word clears NEW. A transfer that is allowed starts, or waits for the samples on its bus. Any other is
refused. Its end shows its status. Where the metering key is present, the oldest minute that has no root gets one, is
counted and raised. The archive's consumer index takes a written value within what the archive holds. In every clause
exec answers a next state, for: tlnSampleDue, tlnSampleDone, tlnRecordEmit, larvisRead, tlnXferGo, xferDone,
minuteSigned, mtrArchConsWrite. Rests on 11_security_and_metering.md, 14_local_port_and_telemetry.md. The model's own
choices and readings in it are those of notes/assumptions/10, 85, 127. -/
def Obligations.TelemetryAndMetering : Prop :=
  (∀ (s : State) (e : Nat), s.live = true → e < 64 → s.bit Reg.tlnCtl 0 = true → sampleOn (s.sampleCfg e) = true →
    s.frame % samplePeriod (s.sampleCfg e) = 0 → ∃ t, exec (.tlnSampleDue e) s = .next t ∧
    (if s.tln.busy.contains e then t.tln.busy = s.tln.busy ∧
    t.num Reg.tlnSkipCnt = satAdd 32 (s.num Reg.tlnSkipCnt) 1 else t.tln.busy = e :: s.tln.busy ∧
    t.num Reg.tlnSkipCnt = s.num Reg.tlnSkipCnt)) ∧
  (∀ (s : State) (e : Nat) (r : BusResult) (raw : Nat), s.live = true → s.tln.busy.contains e = true →
    s.rawWord e r = some raw → ∃ t, exec (.tlnSampleDone e r) s = .next t ∧
    (t.tln.busy = s.tln.busy.filter (fun (x : Nat) => x != e)) ∧ t.tln.goodAt.get e = s.frame + 1 ∧
    t.num Reg.tlnSampleCnt = satAdd 32 (s.num Reg.tlnSampleCnt) 1 ∧
    t.num Reg.tlnBadSampleCnt = s.num Reg.tlnBadSampleCnt) ∧
  (∀ (s : State) (e : Nat) (r : BusResult), s.live = true → s.tln.busy.contains e = true → s.rawWord e r = none →
    ∃ t, exec (.tlnSampleDone e r) s = .next t ∧ (t.tln.busy = s.tln.busy.filter (fun (x : Nat) => x != e)) ∧
    t.tln.goodAt = s.tln.goodAt ∧ t.num Reg.tlnBadSampleCnt = satAdd 32 (s.num Reg.tlnBadSampleCnt) 1 ∧
    t.bit Reg.tlnEvent 1 = true) ∧
  (∀ (s : State) (r : Nat), s.live = true → r < 32 → s.tln.recCfg.get r % 65536 ≠ 0 →
    s.frame % (s.tln.recCfg.get r % 65536) = 0 → ∃ t, exec (.tlnRecordEmit r) s = .next t ∧
    t.tln.seqs.get r = (s.tln.seqs.get r + 1) % 2 ^ 32 ∧
    t.num Reg.tlnRecordCnt = satAdd 32 (s.num Reg.tlnRecordCnt) 1 ∧
    t.field Reg.tlnBufProd 0 18 = (s.field Reg.tlnBufProd 0 18 + 1) % 262144) ∧
  (∀ (s : State) (k : Nat), s.live = true → k < 1024 → ∃ t, exec (.larvisRead k) s = .next t ∧
    t.out = Out.read (s.larvisWord k) :: s.out ∧ t.bit (Reg.tlnLarvis k) 30 = false ∧
    t.field (Reg.tlnLarvis k) 0 24 = s.field (Reg.tlnLarvis k) 0 24) ∧
  (∀ (s : State) (v : Word), s.live = true → s.bit Reg.tlnXferCtl 31 = false → 1 ≤ wordField v 0 3 →
    wordField v 0 3 ≤ 3 → (wordField v 0 3 = 3 → v.getLsbD 10 = false) → 1 ≤ wordField v 11 4 →
    wordField v 11 4 ≤ 8 → s.busTarget (wordField v 0 3) (wordField v 3 7) = true →
    ∃ t, exec (.tlnXferGo v) s = .next t ∧ t.bit Reg.tlnXferCtl 31 = true ∧ t.num Reg.tlnXferStatus = 1 ∧
    t.bit Reg.tlnStatus 0 = true ∧
    (t.tln.xferWait = s.tln.busy.any (fun (e : Nat) => sampleBus (s.sampleCfg e) == wordField v 0 3)) ∧
    (t.tln.xferWait = false → t.out = Out.sbus (wordField v 0 3) (wordField v 3 7) :: s.out)) ∧
  (∀ (s : State) (v : Word), s.live = true → s.bit Reg.tlnXferCtl 31 = false →
    (wordField v 0 3 = 0 ∨ 3 < wordField v 0 3 ∨ (wordField v 0 3 = 3 ∧
    v.getLsbD 10 = true) ∨ wordField v 11 4 = 0 ∨ 8 < wordField v 11 4 ∨ s.busTarget (wordField v 0 3) (wordField v 3
    7) = false) → ∃ t, exec (.tlnXferGo v) s = .next t ∧ t.bit Reg.tlnXferCtl 31 = false ∧
    t.num Reg.tlnXferStatus = 67 ∧ t.bit Reg.tlnEvent 2 = true) ∧
  (∀ (s : State) (k : BusResult), s.live = true → s.bit Reg.tlnXferCtl 31 = true → s.tln.xferWait = false →
    ∃ t, exec (.xferDone k) s = .next t ∧ t.bit Reg.tlnXferCtl 31 = false ∧ t.bit Reg.tlnStatus 0 = false ∧
    t.bit Reg.tlnEvent 2 = true ∧
    (t.num Reg.tlnXferStatus = (match k with | .ok _ => 2 | .nack => 19 | .timeout => 35 | .pec => 51))) ∧
  (∀ (s : State) (c : ClaimRec) (x : Minute), s.live = true → s.sec.claim = some c → c.mtrKey.isEmpty = false →
    ((s.mtr.archive.filter (fun (m : Minute) => m.root.isNone)).getLast? = some x) →
    ∃ t, exec .minuteSigned s = .next t ∧ t.mtr.lastMinute = x.minute ∧
    t.num Reg.mtrSignCnt = satAdd 32 (s.num Reg.mtrSignCnt) 1 ∧ t.bit Reg.mtrEvent 0 = true ∧
    (∀ y ∈ t.mtr.archive, y.minute = x.minute → y.root.isSome = true)) ∧
  (∀ (s : State) (v : Word), s.live = true → ∃ t, exec (.mtrArchConsWrite v) s = .next t ∧
    t.reg Reg.mtrArchConsHi = v &&& 0xFFFF ∧ (s.mtr.archive = [] →
    t.mtr.archCons = wordField v 0 16 * 2 ^ 32 + s.num Reg.mtrArchConsLo) ∧ (s.mtr.archive ≠ [] →
    (s.mtr.archive.any (fun (m : Minute) => decide (m.minute ≤ t.mtr.archCons)) = true ∧
    s.mtr.archive.any (fun (m : Minute) => decide (t.mtr.archCons ≤ m.minute + 1)) = true)))

/-- The NVMe-MI endpoint on SMB0 answers while the main rails are up. While the device has power and runs, unless a clause
says otherwise: The endpoint on SMB0 takes an endpoint identifier of 1 to 254. It answers its endpoint identifier. It
answers its UUID. It answers its MCTP version. It answers the two message types it takes. A dropped packet is counted.
A data structure is answered with its values, an unknown one with Invalid Parameter. The subsystem's health is
answered. A function's health is answered. An SMBus frequency of 1 to 3 or a transmission unit of 64 to 250 is taken.
A configuration is answered, an unknown one with Invalid Parameter. Bytes of the board's VPD are answered. Any other
command is answered with Invalid Command Opcode. In every clause exec answers a next state, for: setEndpointId,
getEndpointId, getEndpointUuid, getMctpVersionSupport, getMessageTypeSupport, mctpPacketDrop, readNvmeMiDataStructure,
nvmSubsystemHealthStatusPoll, controllerHealthStatusPoll, configurationSet, configurationGet, vpdRead,
miInvalidCommand. Rests on 14_local_port_and_telemetry.md. The model's own choices and readings in it are those of
notes/assumptions/21. -/
def Obligations.ManagementEndpoint : Prop :=
  (∀ (s : State) (e : Nat), s.pwr.supply = Supply.on → 1 ≤ e → e ≤ 254 → ∃ t, exec (.setEndpointId e) s = .next t ∧
    t.mi.eid = e ∧ t.out = Out.resp 2 0 [e] :: s.out) ∧
  (∀ (s : State), s.pwr.supply = Supply.on → ∃ t, exec .getEndpointId s = .next t ∧
    t.out = Out.resp 2 0 [s.mi.eid] :: s.out) ∧
  (∀ (s : State), s.pwr.supply = Supply.on → ∃ t, exec .getEndpointUuid s = .next t ∧ Out.bytes 2 Config.uuid ∈ t.out) ∧
  (∀ (s : State), s.pwr.supply = Supply.on → ∃ t, exec .getMctpVersionSupport s = .next t ∧
    t.out = Out.resp 2 0 [1, 3] :: s.out) ∧
  (∀ (s : State), s.pwr.supply = Supply.on → ∃ t, exec .getMessageTypeSupport s = .next t ∧
    t.out = Out.resp 2 0 [0, 4] :: s.out) ∧
  (∀ (s : State), s.pwr.supply = Supply.on → ∃ t, exec .mctpPacketDrop s = .next t ∧
    t.num Reg.lpbMiDropCnt = satAdd 32 (s.num Reg.lpbMiDropCnt) 1) ∧
  (∀ (s : State) (k : Nat), s.pwr.supply = Supply.on → ∃ t, exec (.readNvmeMiDataStructure k) s = .next t ∧
    (t.out = (if k ≤ 4 then Out.resp 2 0 ((s.miStructure k).getD []) else Out.resp 2 4 []) :: s.out)) ∧
  (∀ (s : State), s.pwr.supply = Supply.on → ∃ t, exec .nvmSubsystemHealthStatusPoll s = .next t ∧
    t.out = Out.resp 2 0 (s.health 0) :: s.out) ∧
  (∀ (s : State) (f : Nat), s.pwr.supply = Supply.on → s.fnExists f = true →
    ∃ t, exec (.controllerHealthStatusPoll f) s = .next t ∧ t.out = Out.resp 2 0 (s.health f) :: s.out) ∧
  (∀ (s : State) (k v : Nat), s.pwr.supply = Supply.on → ((k = 1 ∧ 1 ≤ v ∧ v ≤ 3) ∨ (k = 3 ∧ 64 ≤ v ∧ v ≤ 250)) →
    ∃ t, exec (.configurationSet k v) s = .next t ∧ (if k = 1 then t.mi.freq = v ∧
    t.mi.mtu = s.mi.mtu else t.mi.mtu = v ∧ t.mi.freq = s.mi.freq) ∧ t.out = Out.resp 2 0 [] :: s.out) ∧
  (∀ (s : State) (k : Nat), s.pwr.supply = Supply.on → ∃ t, exec (.configurationGet k) s = .next t ∧
    (t.out = (if k = 1 then Out.resp 2 0 [s.mi.freq] else if k = 2 then Out.resp 2 0 [0] else if k = 3 then Out.resp
    2 0 [s.mi.mtu] else Out.resp 2 4 []) :: s.out)) ∧
  (∀ (s : State) (a n : Nat) (d : BoardDesc), s.pwr.supply = Supply.on → s.pwr.desc = some d →
    a + n ≤ (d.vpd.take 256).length → ∃ t, exec (.vpdRead a n) s = .next t ∧
    t.out = Out.bytes 2 (sub (d.vpd.take 256) a n) :: Out.resp 2 0 [] :: s.out) ∧
  (∀ (s : State) (k : Nat), s.pwr.supply = Supply.on → ∃ t, exec (.miInvalidCommand k) s = .next t ∧
    t.out = Out.resp 2 3 [] :: s.out)

/-- Power-on reset and the boot stages. While the device has power and runs, unless a clause says otherwise: A power-on
reset from off samples the straps and starts stage 0 with cause 0. One out of Quiet has cause 1 and counts the wake.
Stage 0 reads the claim and the fuses. With no image in either slot stage 1 ends in a recovery boot. Stage 2 takes a
good board descriptor and turns to a recovery boot on a bad one. Memory that does not train is a recovery boot. Memory
that is not the descriptor's is a recovery boot too. In every clause exec answers a next state, for: powerOnReset,
bootStageEnd. Rests on 15_startup_and_power.md. The model's own choices and readings in it are those of
notes/assumptions/63, 86, 87. -/
def Obligations.StartUp : Prop :=
  (∀ (s : State) (f h p l c : Bool), s.pwr.supply = Supply.off → ∃ t, exec (.powerOnReset f h p l c) s = .next t ∧
    t.pwr.supply = Supply.on ∧ t.bootStage = 0 ∧ t.field Reg.pwrResetCause 0 4 = 0 ∧
    t.pwr.straps = ({ frefSel := f, hostSris := h, pairId := p, lpVsel := l, claimResetN := c } : Straps) ∧
    t.cmds = []) ∧
  (∀ (s : State) (f h p l c : Bool), s.pwr.supply = Supply.quiet → ∃ t, exec (.powerOnReset f h p l c) s = .next t ∧
    t.pwr.supply = Supply.on ∧ t.bootStage = 0 ∧ t.field Reg.pwrResetCause 0 4 = 1 ∧
    t.num Reg.aowWakeCnt = satAdd 32 (s.num Reg.aowWakeCnt) 1) ∧
  (∀ (s : State), s.live = true → s.bit Reg.pwrStatus 4 = false → s.pwr.resetting = none → s.bootStage = 0 →
    ∃ t, exec (.bootStageEnd .rom) s = .next t ∧ t.bootStage = 1 ∧ t.bit Reg.secStatus 0 = s.sec.claim.isSome ∧
    t.field Reg.secStatus 8 8 = s.sec.rollback % 256) ∧
  (∀ (s : State) (a b : Option SlotImage) (p : Bool) (mhz n : Nat), s.live = true → s.bit Reg.pwrStatus 4 = false →
    s.pwr.resetting = none → s.bootStage = 1 → s.sec.slotA = none → s.sec.slotB = none → a = none → b = none →
    ∃ t, exec (.bootStageEnd (.firmware a b p mhz n)) s = .next t ∧ t.bit Reg.pwrStatus 4 = true ∧
    t.field Reg.pwrStatus 8 4 = 1 ∧ (t.fn 0).cfs = true) ∧
  (∀ (s : State) (b : List Byte), s.live = true → s.bit Reg.pwrStatus 4 = false → s.pwr.resetting = none →
    s.bootStage = 2 → s.pwr.desc = none → ∃ t, exec (.bootStageEnd (.host b)) s = .next t ∧
    (if descOk (readDesc b) then t.bootStage = 3 ∧ t.pwr.desc = some (readDesc b) else t.bit Reg.pwrStatus 4 = true ∧
    t.field Reg.pwrStatus 8 4 = 2)) ∧
  (∀ (s : State) (g n r w : Nat) (b : List Byte), s.live = true → s.bit Reg.pwrStatus 4 = false →
    s.pwr.resetting = none → s.bootStage = 3 → ∃ t, exec (.bootStageEnd (.memories false g n r w b)) s = .next t ∧
    t.bit Reg.pwrStatus 4 = true ∧ t.field Reg.pwrStatus 8 4 = 3 ∧ t.bit Reg.ddrEvent 3 = true) ∧
  (∀ (s : State) (g n r w : Nat) (b : List Byte) (d : BoardDesc), s.live = true → s.bit Reg.pwrStatus 4 = false →
    s.pwr.resetting = none → s.bootStage = 3 → s.pwr.desc = some d →
    (d.ddrGib ≠ g ∨ d.ddrChannels ≠ n ∨ d.ddrRanks ≠ r ∨ d.ddrWidth ≠ w) →
    ∃ t, exec (.bootStageEnd (.memories true g n r w b)) s = .next t ∧ t.bit Reg.pwrStatus 4 = true ∧
    t.field Reg.pwrStatus 8 4 = 4)

/-- Device resets begin and end. While the device has power and runs, unless a clause says otherwise: PERST_N falling
begins a device reset with cause 2, and the sessions end. PERST_N rising lets the link go. A Hot Reset has cause 3,
Link Disable cause 4. PWR_RESET_CTL has cause 5. Before READY the reset's end is a boot of its cause, counted, and the
timebase goes on. In every clause exec answers a next state, for: perstAssert, perstDeassert, hotReset,
pwrResetDevice, deviceResetShutdownDone. Rests on 15_startup_and_power.md. The model's own choices and readings in it
are those of notes/assumptions/46. -/
def Obligations.DeviceResets : Prop :=
  (∀ (s : State), s.pwr.supply = Supply.on → s.pwr.perst = false → s.pwr.resetting = none → s.pwr.stop = Stop.none →
    ∃ t, exec .perstAssert s = .next t ∧ t.pwr.perst = true ∧ t.pwr.resetting = some 2 ∧ t.sec.sessions = []) ∧
  (∀ (s : State), s.pwr.supply = Supply.on → ∃ t, exec .perstDeassert s = .next t ∧ t.pwr.perst = false) ∧
  (∀ (s : State) (b : Bool), s.pwr.supply = Supply.on → s.pwr.resetting = none → s.pwr.stop = Stop.none →
    ∃ t, exec (.hotReset b) s = .next t ∧ (t.pwr.resetting = some (if b then 4 else 3)) ∧ t.sec.sessions = []) ∧
  (∀ (s : State) (c : Nat), s.live = true → c < 6 → s.pwr.resetting = none →
    ∃ t, exec (.pwrResetDevice (.core c)) s = .next t ∧ t.pwr.resetting = some 5) ∧
  (∀ (s : State) (c : Nat), s.pwr.resetting = some c → 2 ≤ c → c ≤ 5 → s.pwr.stop = Stop.none →
    s.bit Reg.pwrStatus 3 = false → ∃ t, exec .deviceResetShutdownDone s = .next t ∧ t.pwr.resetting = none ∧
    t.bootStage = 0 ∧ t.field Reg.pwrResetCause 0 4 = c ∧
    t.num Reg.pwrDeviceResetCnt = satAdd 32 (s.num Reg.pwrDeviceResetCnt) 1 ∧ t.ftb = s.ftb)

/-- Power transitions, memory errors and the log index. While the device has power and runs, unless a clause says
otherwise: PME_Turn_Off is noted and raised. It is acknowledged once nothing must complete and staging is destaged.
The rails go out of L2/L3 Ready into Quiet. Otherwise only Watch keeps its power. A rail out of its limits is shown
once. A trip drives THERMTRIP_N and stops the device. A patrol pass that is due counts what it corrected and is
raised. An uncorrectable error is counted and its address kept; a map entry that it hit is counted. A scrub pass that
is due counts what it corrected and is raised. The event log's consumer index is taken within the log. In every clause
exec answers a next state, for: pmeTurnOff, pmeToAck, mainRailsRemoved, railFault, thermtrip, dramPatrolDue,
sramScrubDue, evlogConsWrite. Rests on 01_architecture.md, 15_startup_and_power.md, 16_package_and_electrical.md. The
model's own choices and readings in it are those of notes/assumptions/44, 89, 90, 126. -/
def Obligations.PowerAndMemories : Prop :=
  (∀ (s : State), s.live = true → ∃ t, exec .pmeTurnOff s = .next t ∧ t.pwr.turnOff = true ∧
    t.bit Reg.pwrEvent 4 = true) ∧
  (∀ (s : State), s.live = true → s.pwr.turnOff = true → s.pwr.l23 = false → s.cmds.any s.mustComplete = false →
    s.destaged = true → ∃ t, exec .pmeToAck s = .next t ∧ t.pwr.l23 = true ∧ Out.host 1 0 0 ∈ t.out) ∧
  (∀ (s : State), s.pwr.supply = Supply.on → s.pwr.l23 = true → ∃ t, exec .mainRailsRemoved s = .next t ∧
    t.pwr.supply = Supply.quiet) ∧
  (∀ (s : State), s.pwr.supply = Supply.on → s.pwr.l23 = false → ∃ t, exec .mainRailsRemoved s = .next t ∧
    t.pwr.supply = Supply.watchOnly) ∧
  (∀ (s : State) (r : Nat), s.pwr.supply = Supply.on → r < 9 → s.bit Reg.pwrRailStatus r = true →
    ∃ t, exec (.railFault r) s = .next t ∧ t.bit Reg.pwrRailStatus r = false ∧ t.bit Reg.pwrEvent 3 = true) ∧
  (∀ (s : State), s.pwr.supply = Supply.on → s.pwr.stop = Stop.none → ∃ t, exec .thermtrip s = .next t ∧
    t.pwr.stop = Stop.thermtrip ∧ t.out = Out.pin .thermtripN false :: s.out) ∧
  (∀ (s : State) (n : Nat), s.live = true → s.bit Reg.ddrStatus 0 = true →
    s.passDue s.pwr.patrolAt (3600 * max 1 (s.field Reg.ddrPatrolPeriod 0 16)) 2 = true →
    ∃ t, exec (.dramPatrolDue n none) s = .next t ∧ t.num Reg.ddrPatrolCnt = satAdd 32 (s.num Reg.ddrPatrolCnt) 1 ∧
    t.num Reg.ddrCeCnt = satAdd 32 (s.num Reg.ddrCeCnt) n ∧ t.num Reg.ddrUeCnt = s.num Reg.ddrUeCnt ∧
    t.bit Reg.ddrEvent 2 = true) ∧
  (∀ (s : State) (a : Nat) (h : MemHit), s.live = true → s.bit Reg.ddrStatus 0 = true →
    s.passDue s.pwr.patrolAt (3600 * max 1 (s.field Reg.ddrPatrolPeriod 0 16)) 2 = true →
    ∃ t, exec (.dramPatrolDue 0 (some (a, h))) s = .next t ∧ t.num Reg.ddrUeCnt = satAdd 32 (s.num Reg.ddrUeCnt) 1 ∧
    t.num Reg.ddrErrAddrLo = a % 2 ^ 32 ∧ t.bit Reg.ddrEvent 1 = true ∧ (h = MemHit.map →
    t.num Reg.rdpMapEccCnt = satAdd 32 (s.num Reg.rdpMapEccCnt) 1)) ∧
  (∀ (s : State) (n : Nat), s.live = true → s.bit Reg.srmStatus 0 = true →
    s.passDue s.pwr.scrubAt (s.field Reg.srmScrubPeriod 0 16) 3 = true →
    ∃ t, exec (.sramScrubDue n none) s = .next t ∧ t.num Reg.srmCeCnt = satAdd 32 (s.num Reg.srmCeCnt) n ∧
    t.bit Reg.srmEvent 2 = true) ∧
  (∀ (s : State) (v : Word), s.live = true → ∃ t, exec (.evlogConsWrite v) s = .next t ∧
    t.num Reg.pwrEvlogCons = evlogCons (s.num Reg.pwrEvlogProd) v.toNat % 2 ^ 32)

/-- Register accesses and the host's memory and configuration requests. While the device has power and runs, unless a
clause says otherwise: A bit of an event register clears where 1 is written, unless hardware sets it in that cycle; a
bit written 0 stays. A reserved offset takes no write. A request of another size or alignment is discarded or reads 0.
A write to INTMS sets its bits. A reserved offset of BAR2 reads 0. A read by a core gets what the register gives that
core. Before stage 2 has ended a configuration request is answered with Retry Status. The identifiers are read.
NUM_VFS is taken while no VF is enabled. In every clause exec answers a next state, for: registerWrite, memRequestRx,
configRequestRx. Rests on 00_scope.md, 09_host_port.md, 10_functions_and_queues.md, 15_startup_and_power.md. The
model's own choices and readings in it are those of notes/assumptions/14, 17, 19, 110. -/
def Obligations.RegisterAccess : Prop :=
  (∀ (s : State) (b : Requester) (off : Nat) (v m : Word) (i : Nat), s.live = true →
    off ∈ ([Reg.ftbEvent, Reg.prxEvent, Reg.mchEvent, Reg.rdpEvent, Reg.wrpEvent, Reg.mcrEvent, Reg.hptEvent,
    Reg.fnmEvent, Reg.qenEvent, Reg.tcyEvent, Reg.mtrEvent, Reg.secEvent, Reg.mlkEvent, Reg.ddrEvent, Reg.aowEvent,
    Reg.lpbEvent, Reg.tlnEvent, Reg.pwrEvent, Reg.sppEvent, Reg.srmEvent] : List Nat) →
    s.bit Reg.pwrStatus 4 = false → (b = .pf0 ∨ b = .core 0) → i < 32 →
    ∃ t, exec (.registerWrite b off ⟨v, m⟩) s = .next t ∧ (s.bit off i = false → t.bit off i = false) ∧
    (v.getLsbD i = false → t.bit off i = s.bit off i) ∧ (v.getLsbD i = true → m.getLsbD i = false → i ≤ 1 →
    t.bit off i = false) ∧ (m.getLsbD i = true → i ≤ 1 → t.bit off i = s.bit off i)) ∧
  (∀ (s : State) (off : Nat) (v m : Word), s.live = true → regDef off = none →
    ∃ t, exec (.registerWrite .pf0 off ⟨v, m⟩) s = .next t ∧ t.regs = s.regs ∧ t.out = s.out) ∧
  (∀ (s : State) (r : MemReq), s.live = true → s.dlUp = true → r.by_ = .pf0 → s.bit Reg.hptStatus 15 = false →
    r.malformed = false → r.poisoned = false → r.atomic = false → s.memOk r.fn = true → s.hasWindow r = true →
    s.portNormal = true → r.bar ≠ 4 → r.aligned = false → ∃ t, exec (.memRequestRx r) s = .next t ∧ t.regs = s.regs ∧
    (if r.write then t.out = s.out else t.out = Out.cpl r.fn 0 0 :: s.out)) ∧
  (∀ (s : State) (r : MemReq), s.live = true → s.dlUp = true → r.by_ = .pf0 → s.bit Reg.hptStatus 15 = false →
    r.malformed = false → r.poisoned = false → r.atomic = false → s.memOk r.fn = true → s.portNormal = true →
    r.bar = 0 → r.addr = 0x0C → r.size = 4 → r.write = true → (s.fn r.fn).frozenNow = false →
    ∃ t, exec (.memRequestRx r) s = .next t ∧ (t.fn r.fn).intms = (s.fn r.fn).intms ||| r.data.setWidth 32 ∧
    t.out = s.out) ∧
  (∀ (s : State) (r : MemReq), s.live = true → s.dlUp = true → r.by_ = .pf0 → s.bit Reg.hptStatus 15 = false →
    r.malformed = false → r.poisoned = false → r.atomic = false → r.fn = 0 → s.memOk 0 = true → r.bar = 2 →
    r.size = 4 → r.addr % 4 = 0 → r.write = false → regDef r.addr = none → 0x100000 ≤ r.addr →
    ∃ t, exec (.memRequestRx r) s = .next t ∧ t.regs = s.regs ∧ t.out = Out.cpl 0 0 0 :: s.out) ∧
  (∀ (s : State) (r : MemReq) (c : Nat) (v : Word) (u : State), s.live = true → r.by_ = .core c → c < 6 → r.size = 4 →
    r.addr % 4 = 0 → r.bar = 2 → r.write = false → s.readReg (.core c) r.addr = (v, u) →
    ∃ t, exec (.memRequestRx r) s = .next t ∧ t = u.emit (.read v)) ∧
  (∀ (s : State) (r : CfgReq), s.live = true → s.dlUp = true → s.bit Reg.hptStatus 15 = false → s.retryStatus = true →
    ∃ t, exec (.configRequestRx r) s = .next t ∧ t.out = Out.cpl r.fn 3 0 :: s.out ∧ t.fns = s.fns ∧
    t.hpt.tlpAt = s.now) ∧
  (∀ (s : State) (r : CfgReq), s.live = true → s.dlUp = true → s.bit Reg.hptStatus 15 = false → s.retryStatus = false →
    r.fn = 0 → r.write = false → r.offset % 4096 / 4 = 0 → ∃ t, exec (.configRequestRx r) s = .next t ∧
    t.out = Out.cpl 0 0 0x96401FA7 :: s.out ∧ t.regs = s.regs) ∧
  (∀ (s : State) (r : CfgReq), s.live = true → s.dlUp = true → s.bit Reg.hptStatus 15 = false → s.retryStatus = false →
    r.fn = 0 → (s.fn 0).life ≠ .flr → r.write = true → r.offset % 4096 / 4 = 0xA4 → s.bit Reg.pwrStatus 4 = false →
    ∃ t, exec (.configRequestRx r) s = .next t ∧
    (if s.vfEnable then t.numVfs = s.numVfs else wordField r.data 0 16 ≤ 4096 → t.numVfs = wordField r.data 0 16))

/-- The tick stays within its frame. From every state whose tick is below 500,000 a step leads to such a state. Rests on
02_frame_timebase.md. The model's own choices and readings in it are those of notes/assumptions/3. -/
def Obligations.TickInvariant : Prop :=
  (∀ s t : State, TickOk s → step s = .next t → TickOk t)

/-- At most four sessions are open. From every state with at most four sessions a step leads to such a state. Rests on
11_security_and_metering.md. The model's own choices and readings in it are those of notes/assumptions/22. -/
def Obligations.SessionInvariant : Prop :=
  (∀ s t : State, SessionsOk s → step s = .next t → SessionsOk t)

/-- The running firmware is never below the fuses. The fuse bank never holds more than 64 blown fuses, and the SVN of the
firmware that runs stays between the blown fuses and 64, whatever step is taken. Rests on 11_security_and_metering.md. -/
def Obligations.FirmwareInvariant : Prop :=
  (∀ s t : State, FirmwareOk s → step s = .next t → FirmwareOk t)

/-- Only ROLLBACK_COMMIT advances the anti-rollback counter. A command that changes the counter is a ROLLBACK_COMMIT that
raises it to the SVN of the running firmware; booted through FALLBACK the request is refused with STATE and blows no
fuse, and at that SVN it completes with OK and blows none. The counter stays from 0 to 64. Formalises R431. -/
def Obligations.FusesOnlyByCommit : Prop :=
  (∀ (c : Instr) (s t : State), exec c s = .next t → t.sec.rollback ≠ s.sec.rollback →
    (∃ id q, c = .rollbackCommit id q) ∧ s.sec.rollback < t.sec.rollback ∧ t.sec.rollback = s.runningSvn) ∧
  (∀ (s : State) (id q : Nat), s.live = true → s.pskSession id = true → s.bit Reg.secStatus 2 = true →
    ∃ t, exec (.rollbackCommit id q) s = .next t ∧ t.sec.rollback = s.sec.rollback ∧
    Out.bytes 1 (mgmtMessage 3 q 3) ∈ t.out) ∧
  (∀ (s : State) (id q : Nat), s.live = true → s.pskSession id = true → s.bit Reg.secStatus 2 = false →
    s.sec.rollback < s.runningSvn → ∃ t, exec (.rollbackCommit id q) s = .next t ∧ t.sec.rollback = s.runningSvn ∧
    Out.bytes 1 (mgmtMessage 3 q 0) ∈ t.out) ∧
  (∀ (s : State) (id q : Nat), s.live = true → s.pskSession id = true → s.bit Reg.secStatus 2 = false →
    s.sec.rollback = s.runningSvn → ∃ t, exec (.rollbackCommit id q) s = .next t ∧ t.sec.rollback = s.sec.rollback ∧
    Out.bytes 1 (mgmtMessage 3 q 0) ∈ t.out) ∧
  (∀ s t : State, FirmwareOk s → step s = .next t → t.sec.rollback ≤ 64)

/-- A stopped device, or one without its rails, does nothing but what power, Watch, the dump and the management endpoint
do. While the main rails are down, a dump runs or THERMTRIP_N has stopped the device, every other command leaves the
whole state as it is. Rests on 01_architecture.md, 07_write_path.md, 16_package_and_electrical.md. The model's own
choices and readings in it are those of notes/assumptions/1. -/
def Obligations.StoppedDevice : Prop :=
  (∀ (c : Instr) (s : State), s.live = false → actsStopped c = false → exec c s = .next s)

/-- A register takes no write but its own writer's. A write to a register that the map marks core-only, for cores 4 and 5
alone, for the owner of its channel, or for its own core is discarded when another requester makes it: the whole state
stays. Rests on 03_prism_image.md, 13_control_complex.md, 14_local_port_and_telemetry.md. The model's own choices and
readings in it are those of notes/assumptions/17. -/
def Obligations.RegistersTakeTheirWriters : Prop :=
  (∀ (s : State) (by_ : Requester) (off : Nat) (v m : Word) (d : RegDef), regDef off = some d →
    d.takes by_ off = false → (by_ = .pf0 ∨ ∃ c, by_ = .core c ∧ c < 6) →
    exec (.registerWrite by_ off ⟨v, m⟩) s = .next s)

/-- A management request without its session changes nothing it asks for. A request without its message in the mailbox
changes nothing. One in a session that is not open is counted as an authentication failure and changes nothing else;
one in a session that does not allow it is answered STATE and leaves keys, claim, fuses, firmware, image, profile,
windows and metering as they were. Rests on 11_security_and_metering.md. The model's own choices and readings in it
are those of notes/assumptions/24. -/
def Obligations.ManagementNeedsASession : Prop :=
  (∀ (c : Instr) (s : State) (id : Nat), sessionOf c = some id → s.securedIn id = false → exec c s = .next s) ∧
  (∀ (c : Instr) (s t : State) (id : Nat), sessionOf c = some id → s.sess? id = none → exec c s = .next t →
    t.without (reporting ++ [regsOf .sec]) = s.without (reporting ++ [regsOf .sec]) ∧ (s.live = true →
    s.securedIn id = true → t.num Reg.secAuthFailCnt = satAdd 32 (s.num Reg.secAuthFailCnt) 1 ∧
    t.bit Reg.secEvent 4 = true)) ∧
  (∀ (c : Instr) (s t : State) (id : Nat) (x : Sess), sessionOf c = some id → s.sess? id = some x →
    (x.psk = false ∨ x.ready = false ∨ s.sec.claim = none) → (∀ q psk hint, c ≠ .claim id q psk hint) →
    exec c s = .next t →
    t.without (reporting ++ [regsOf .sec, .sec, .hpt, .fns, regsOf .qen, .out]) = s.without (reporting ++ [regsOf
    .sec, .sec, .hpt, .fns, regsOf .qen, .out]) ∧ t.sec.claim = s.sec.claim ∧ t.sec.sysClaim = s.sec.sysClaim ∧
    t.sec.rollback = s.sec.rollback ∧ t.sec.running = s.sec.running ∧ t.sec.slotA = s.sec.slotA ∧
    t.sec.slotB = s.sec.slotB ∧
    t.sec.sessions.map (fun (y : Sess) => (y.id, y.psk, y.ready)) = s.sec.sessions.map (fun (y : Sess) => (y.id,
    y.psk, y.ready)))

/-- What a device reset keeps, and what it clears. Before READY the end of a device reset keeps the timebase, the keys,
the claim, the firmware slots, the fuses, the bound profile, the board descriptor and Watch; every register outside
the blocks HPT, FTB, EVC, AOW and PWR, but for WRP_DUMP_CNT and the result of the hold-up test, returns to its reset
value, and no command, tenant or session is left. Rests on 15_startup_and_power.md, 17_register_index.md. The model's
own choices and readings in it are those of notes/assumptions/46, 78. -/
def Obligations.DeviceResetKeeps : Prop :=
  (∀ (s t : State) (c : Nat), s.pwr.resetting = some c → 2 ≤ c → s.pwr.stop = .none → s.bit Reg.pwrStatus 3 = false →
    exec .deviceResetShutdownDone s = .next t → t.ftb = s.ftb ∧ t.keys = s.keys ∧ t.sec.claim = s.sec.claim ∧
    t.sec.rollback = s.sec.rollback ∧ t.sec.slotA = s.sec.slotA ∧ t.sec.slotB = s.sec.slotB ∧
    t.mch.profile = s.mch.profile ∧ t.pwr.desc = s.pwr.desc ∧ t.aow = s.aow ∧ t.cmds = [] ∧ t.sec.sessions = [] ∧
    t.prx = {} ∧ t.lpb = {} ∧ t.pending = s.pending) ∧
  (∀ (s t : State) (c off : Nat), s.pwr.resetting = some c → 2 ≤ c → s.pwr.stop = .none →
    s.bit Reg.pwrStatus 3 = false → exec .deviceResetShutdownDone s = .next t → ((off / 0x100000 = 4 ∧
    off ≠ Reg.ftbStatus) ∨ off / 0x100000 = 16 → t.reg off = s.reg off) ∧ (off / 0x100000 ∉ [1, 4, 15, 16, 20] →
    off ≠ Reg.wrpDumpCnt → off ≠ Reg.mcrStatus → t.reg off = resetOf off))

/-- A command of one function leaves the controller of every other as it is. A doorbell of a function, and a fetched
command of it that reads, writes or changes data, makes or deletes a queue, or reads or sets a feature, leaves every
other function as it was: its controller registers, its queues, its vectors, its errors, its place in a life cycle.
Rests on 01_architecture.md. The model's own choices and readings in it are those of notes/assumptions/20, 51. -/
def Obligations.FunctionIsolation : Prop :=
  (∀ (s t : State) (f g q v : Nat), s.fnExists f = true → g ≠ f →
    (exec (.sqTailDoorbell f q v) s = .next t ∨ exec (.cqHeadDoorbell f q v) s = .next t) → t.fn g = s.fn g) ∧
  (∀ (s t : State) (c : Instr) (x : Sqe) (b : Bool) (l : List (Nat × Nat)) (d : BitVec 64) (g : Nat), c ∈ [Instr.flush
    x, .write x, .read x, .compare x b, .writeZeroes x, .datasetManagement x l, .verify x, .copy x l, .createIoSq x,
    .createIoCq x, .deleteIoCq x, .getFeatures x, .setFeatures x d, .contractQuery x, .meterRead x] → g ≠ x.id.fn →
    exec c s = .next t → t.fn g = s.fn g)

/-- Accesses of another size or alignment, and reserved offsets. A host access to a register window of any size but 32 or
64 bits, or not naturally aligned, completes without error: a write changes nothing, a read returns 0. A read of a
reserved offset of BAR2 returns 0 and a write to it is discarded, and neither is reported. Formalises R14, R15. -/
def Obligations.AccessRules : Prop :=
  (∀ (s : State) (r : MemReq), r.by_ = .pf0 → r.malformed = false → r.poisoned = false → r.atomic = false →
    s.memOk r.fn = true → s.hasWindow r = true → (s.portNormal = true ∨ r.bar = 2) → s.dlUp = true → s.live = true →
    r.bar ≠ 4 → r.aligned = false → r.write = true → exec (.memRequestRx r) s = .next s.linkBusy) ∧
  (∀ (s : State) (r : MemReq), r.by_ = .pf0 → r.malformed = false → r.poisoned = false → r.atomic = false →
    s.memOk r.fn = true → s.hasWindow r = true → (s.portNormal = true ∨ r.bar = 2) → s.dlUp = true → s.live = true →
    r.bar ≠ 4 → r.aligned = false → r.write = false →
    exec (.memRequestRx r) s = .next (s.linkBusy.emit (.cpl r.fn 0 0))) ∧
  (∀ (s : State) (r : MemReq), r.by_ = .pf0 → r.malformed = false → r.poisoned = false → r.atomic = false →
    s.memOk r.fn = true → s.hasWindow r = true → (s.portNormal = true ∨ r.bar = 2) → s.dlUp = true → s.live = true →
    r.bar = 2 → r.size = 4 → r.addr % 4 = 0 → regDef r.addr = none →
    0x100000 ≤ r.addr ∨ (ftWords s.pwr.straps.pairId).length ≤ r.addr / 4 → r.write = true →
    exec (.memRequestRx r) s = .next s.linkBusy) ∧
  (∀ (s : State) (r : MemReq), r.by_ = .pf0 → r.malformed = false → r.poisoned = false → r.atomic = false →
    s.memOk r.fn = true → s.hasWindow r = true → (s.portNormal = true ∨ r.bar = 2) → s.dlUp = true → s.live = true →
    r.bar = 2 → r.size = 4 → r.addr % 4 = 0 → regDef r.addr = none →
    0x100000 ≤ r.addr ∨ (ftWords s.pwr.straps.pairId).length ≤ r.addr / 4 → r.write = false →
    exec (.memRequestRx r) s = .next (s.linkBusy.emit (.cpl r.fn 0 0)))

/-- A time of day is not rewritten while it is armed. While ARM is 1 a write to FTB_TOD_SEC or FTB_TOD_SEC_HI leaves both
registers as they were and sets TOD_BUSY, whether it comes as the command or as a register write. Formalises R57. -/
def Obligations.TimeOfDayBusy : Prop :=
  (∀ (s : State) (h : Bool) (v m : Word) (off : Nat) (by_ : Requester), s.live = true → s.bit Reg.ftbTodCtl 0 = true →
    s.bit Reg.pwrStatus 4 = false → (off = Reg.ftbTodSec ∨ off = Reg.ftbTodSecHi) →
    (by_ = .pf0 ∨ ∃ c, by_ = .core c ∧ c < 6) →
    (∀ x ∈ [Instr.todSecWrite h v, Instr.registerWrite by_ off ⟨v, m⟩], ∃ t, exec x s = .next t ∧
    t.reg Reg.ftbTodSec = s.reg Reg.ftbTodSec ∧ t.reg Reg.ftbTodSecHi = s.reg Reg.ftbTodSecHi ∧
    t.bit Reg.ftbEvent 6 = true))

/-- UNPEND clears a message source that is not active, and no level source. The command of a control core clears PENDING
of a message source that is not active and of no other source; on an active source and on a level source it changes
nothing. Formalises R524. -/
def Obligations.UnpendRule : Prop :=
  (∀ (s : State) (c n : Nat), s.live = true → c < 6 → n < 992 → s.srcActive n = false →
    ∃ t, exec (.evcUnpend (.core c) n) s = .next t ∧ t.srcPending n = false ∧ ∀ m, m < 1024 → m ≠ n →
    t.srcPending m = s.srcPending m ∧ t.srcActive m = s.srcActive m) ∧
  (∀ (s : State) (c n : Nat), s.live = true → c < 6 → (992 ≤ n ∨ s.srcActive n = true) →
    exec (.evcUnpend (.core c) n) s = .next s)

/-- The upstream aperture's registers take writes of cores 4 and 5 alone, while it is off and idle. A write to an LPB_UP_
register is stored when core 4 or 5 makes it while EN is 0 and nothing upstream is outstanding; any other write leaves
the register as it was. Formalises R572. -/
def Obligations.UpstreamRegisters : Prop :=
  (∀ (s : State) (c off : Nat) (v m : Word), s.live = true → s.bit Reg.pwrStatus 4 = false → (c = 4 ∨ c = 5) →
    off ∈ ([Reg.lpbUpBaseLo, Reg.lpbUpBaseHi, Reg.lpbUpLocal, Reg.lpbUpSize] : List Nat) →
    s.bit Reg.lpbUpSize 31 = false → s.lpb.upBuf = [] → s.lpb.upReads = [] →
    ∃ t d, exec (.registerWrite (.core c) off ⟨v, m⟩) s = .next t ∧ regDef off = some d ∧
    t.reg off = d.after (s.reg off) v) ∧
  (∀ (s t : State) (by_ : Requester) (off : Nat) (v m : Word), off ∈ ([Reg.lpbUpBaseLo, Reg.lpbUpBaseHi,
    Reg.lpbUpLocal, Reg.lpbUpSize] : List Nat) → ¬ ((by_ = .core 4 ∨ by_ = .core 5) ∧
    s.bit Reg.lpbUpSize 31 = false ∧ s.lpb.upBuf = [] ∧ s.lpb.upReads = []) →
    exec (.registerWrite by_ off ⟨v, m⟩) s = .next t →
    ∀ o ∈ ([Reg.lpbUpBaseLo, Reg.lpbUpBaseHi, Reg.lpbUpLocal, Reg.lpbUpSize] : List Nat), t.reg o = s.reg o)

/-- Frames of the commands of the timebase, the images, the tenants, the media and the read and write paths. Each of these
85 commands changes no part of the state but those named for it: every other block's registers and every other table,
queue and buffer stay as they are. A part is named for what its rules, and what they bring about in other blocks, may
write; `reporting` is the Event Controller's registers and the event log, which R521 and R612 let any report change.
The outputs are the model's own part (assumption 13). Rests on 02_frame_timebase.md, 03_prism_image.md,
05_media_attachment.md, 06_read_path.md, 07_write_path.md, 08_media_care.md. -/
def Obligations.FrameTimeAndMedia : Prop :=
  (Writes .frefLost (reporting ++ [.ftb, regsOf .ftb])) ∧
  (Writes .frefGood [.ftb, .evc, regsOf .ftb, regsOf .evc]) ∧
  (∀ (errNs : Int) (sinceNs : Nat) (crystalPpb : Int), Writes (.fppsEdge errNs sinceNs crystalPpb) (reporting ++
    [.time, .ftb, .prx, .tenants, .cmds, .mch, .rdp, .wrp, .mcr, .nss, .fns, .hpt, .aens, .mlk, .keys, .mtr, .lpb,
    .tln, .out, .draw, regsOf .hpt, regsOf .qen, regsOf .ftb, regsOf .prx, regsOf .rdp, regsOf .wrp, regsOf .mcr,
    regsOf .tcy, regsOf .mtr, regsOf .sec, regsOf .mlk, regsOf .tln])) ∧
  (Writes .ppsLost [.ftb, .evc, regsOf .ftb, regsOf .evc]) ∧
  (∀ (offNs : Int), Writes (.fsyncEdge offNs) (reporting ++ [.ftb, regsOf .ftb])) ∧
  (Writes .fsyncLost [regsOf .ftb]) ∧
  (Writes .frameEdge (reporting ++ [.time, .ftb, .prx, .tenants, .cmds, .mch, .rdp, .wrp, .mcr, .nss, .fns, .hpt,
    .aens, .mlk, .keys, .mtr, .lpb, .tln, .out, .draw, regsOf .hpt, regsOf .qen, regsOf .ftb, regsOf .prx, regsOf
    .rdp, regsOf .wrp, regsOf .mcr, regsOf .tcy, regsOf .mtr, regsOf .sec, regsOf .mlk, regsOf .tln])) ∧
  (Writes .minuteEdge (reporting ++ [.fns, .hpt, .mtr, .lpb, .out, regsOf .hpt, regsOf .qen, regsOf .ftb, regsOf .mtr,
    regsOf .tln])) ∧
  (∀ (hi : Bool) (v : Word), Writes (.todSecWrite hi v) [.evc, regsOf .ftb, regsOf .evc]) ∧
  (Writes .todArm [.ftb, regsOf .ftb]) ∧
  (Writes .todApply (reporting ++ [.time, .ftb, .prx, .cmds, .mch, .rdp, .wrp, .mcr, .fns, .hpt, .mlk, .mtr, .lpb,
    .tln, .out, regsOf .hpt, regsOf .qen, regsOf .ftb, regsOf .mtr, regsOf .mlk, regsOf .tln])) ∧
  (Writes .dpllDisable [.ftb, .evc, regsOf .ftb, regsOf .evc]) ∧
  (Writes .frameCounterRead [.out, regsOf .ftb]) ∧
  (∀ (hb : Heartbeat), Writes (.heartbeatRx hb) (reporting ++ [.ftb, .prx, .rdp, .mlk, .out, .draw, regsOf .ftb, regsOf
    .prx, regsOf .mlk])) ∧
  (Writes .skewRaisedRx (reporting ++ [.ftb, .prx, .rdp, .mlk, .out, regsOf .ftb, regsOf .prx, regsOf .mlk])) ∧
  (∀ (frame : Nat), Writes (.skewClearProposalRx frame) [.ftb, .mlk]) ∧
  (Writes .pairSkewClear (reporting ++ [.ftb, .prx, .rdp, .mlk, .out, regsOf .ftb, regsOf .prx, regsOf .mlk])) ∧
  (Writes .phaseMismatchClear [.prx, .rdp, .evc, .mlk, .out, regsOf .prx, regsOf .mlk, regsOf .evc]) ∧
  (∀ (by_ : Requester), Writes (.prxLoad by_) (reporting ++ [.prx, .fns, .hpt, .lpb, .out, regsOf .hpt, regsOf .qen,
    regsOf .prx, regsOf .mtr, regsOf .tln])) ∧
  (∀ (bytes : List Byte), Writes (.imageChecksDone bytes) (reporting ++ [.prx, .sec, regsOf .prx])) ∧
  (∀ (by_ : Requester), Writes (.prxDiscard by_) (reporting ++ [.prx, .out, regsOf .prx])) ∧
  (∀ (by_ : Requester), Writes (.prxArm by_) (reporting ++ [.prx, .rdp, .mcr, .mlk, .out, regsOf .prx, regsOf .mlk])) ∧
  (∀ (r : ArmReport), Writes (.armReportRx r) (reporting ++ [.prx, .rdp, .mcr, .mlk, .out, regsOf .prx, regsOf .mlk])) ∧
  (Writes .armWaitTimeout (reporting ++ [.prx, .rdp, .mcr, .mlk, .out, regsOf .prx, regsOf .mlk])) ∧
  (∀ (by_ : Requester), Writes (.prxDisarm by_) (reporting ++ [.prx, .rdp, .mcr, .mlk, .out, regsOf .prx, regsOf .mlk])) ∧
  (Writes .switchCommit [.prx]) ∧
  (Writes .imageSwitch (reporting ++ [.prx, .tenants, .cmds, .mch, .rdp, .wrp, .mcr, .nss, .hpt, .mlk, .mtr, .out,
    regsOf .qen, regsOf .prx, regsOf .wrp, regsOf .mcr, regsOf .mlk])) ∧
  (∀ (by_ : Requester), Writes (.prxParkReq by_) (reporting ++ [.prx, .rdp, .mcr, .mlk, .out, regsOf .prx, regsOf
    .mlk])) ∧
  (Writes .parkEntered [.prx, .rdp, .fns, .hpt, .evc, .mlk, .mtr, .lpb, .out, regsOf .hpt, regsOf .qen, regsOf .prx,
    regsOf .mcr, regsOf .mtr, regsOf .mlk, regsOf .evc, regsOf .tln]) ∧
  (Writes .variantSwitch [.prx, .cmds, .rdp, .evc, .mlk, .out, regsOf .prx, regsOf .mlk, regsOf .evc]) ∧
  (Writes .thermalConditionClear [.prx, .rdp, .evc, .mlk, .out, regsOf .prx, regsOf .mlk, regsOf .evc]) ∧
  (∀ (c : CmdId) (k : StageKind) (lane units : Nat), Writes (.stageAdmit c k lane units) [.prx, .cmds]) ∧
  (∀ (b : SlotBegin), Writes (.slotStart b) (reporting ++ [.prx, .cmds, .mch, .rdp, .wrp, .mcr, .fns, .hpt, .aens,
    .mlk, .lpb, .out, regsOf .hpt, regsOf .qen, regsOf .prx, regsOf .mch, regsOf .rdp, regsOf .wrp, regsOf .mcr,
    regsOf .tcy, regsOf .mtr, regsOf .mlk, regsOf .tln])) ∧
  (∀ (lane : Nat), Writes (.slotEnd lane) (reporting ++ [.prx, .cmds, .mch, .rdp, .wrp, .mcr, .fns, .hpt, .aens, .mlk,
    .lpb, .out, regsOf .hpt, regsOf .qen, regsOf .prx, regsOf .mch, regsOf .rdp, regsOf .wrp, regsOf .mcr, regsOf
    .tcy, regsOf .mtr, regsOf .mlk, regsOf .tln])) ∧
  (∀ (lane durNs : Nat) (r : OpResult), Writes (.dieOpComplete lane durNs r) (reporting ++ [.prx, .cmds, .mch, .rdp,
    .wrp, .mcr, .nss, .fns, .hpt, .aens, .errs, .mlk, .lpb, .out, regsOf .hpt, regsOf .qen, regsOf .prx, regsOf .mch,
    regsOf .rdp, regsOf .wrp, regsOf .mcr, regsOf .tcy, regsOf .mtr, regsOf .mlk, regsOf .tln])) ∧
  (Writes .driftClear [regsOf .prx]) ∧
  (∀ (by_ : Requester) (v : Word), Writes (.prxTokenTrim by_ v) (reporting ++ [.prx, .out])) ∧
  (∀ (c : CqeTurn), Writes (.cqePost c) [.prx, .tenants, .cmds, .rdp, .wrp, .fns, .hpt, .evc, .mtr, .out, regsOf .hpt,
    regsOf .qen, regsOf .rdp, regsOf .wrp, regsOf .evc]) ∧
  (∀ (ch : Nat) (f : BringupFacts), Writes (.channelBringupDone ch f) (reporting ++ [.prx, .cmds, .mch, .rdp, .wrp,
    .mcr, .aens, .mlk, .sec, .out, regsOf .prx, regsOf .mch, regsOf .rdp, regsOf .wrp, regsOf .mcr, regsOf .mlk])) ∧
  (∀ (by_ : Requester) (ch : Nat), Writes (.mchChBringup by_ ch) (reporting ++ [.out, regsOf .mch])) ∧
  (∀ (by_ : Requester) (ch : Nat), Writes (.mchChRetire by_ ch) (reporting ++ [.prx, .cmds, .mch, .rdp, .wrp, .mcr,
    .nss, .fns, .aens, .errs, .mlk, .sec, .out, regsOf .prx, regsOf .mch, regsOf .rdp, regsOf .wrp, regsOf .mlk])) ∧
  (∀ (ch target : Nat), Writes (.rbNRise ch target) [.out]) ∧
  (∀ (lane : Nat) (ready : Bool), Writes (.statusPoll lane ready) [.mch, .out]) ∧
  (∀ (lane : Nat), Writes (.dieOpTimeout lane) (reporting ++ [.prx, .cmds, .mch, .rdp, .wrp, .mcr, .nss, .fns, .hpt,
    .aens, .errs, .mlk, .sec, .lpb, .out, regsOf .hpt, regsOf .qen, regsOf .prx, regsOf .mch, regsOf .rdp, regsOf
    .wrp, regsOf .mcr, regsOf .tcy, regsOf .mtr, regsOf .mlk, regsOf .tln])) ∧
  (∀ (ch : Nat) (ok : Bool), Writes (.channelRetrain ch ok) (reporting ++ [.prx, .cmds, .mch, .rdp, .wrp, .mcr, .nss,
    .fns, .aens, .errs, .mlk, .sec, .out, regsOf .prx, regsOf .mch, regsOf .rdp, regsOf .wrp, regsOf .mlk])) ∧
  (∀ (lane : Nat) (temp : Int), Writes (.dieTempRead lane temp) (reporting ++ [.mch, .out, regsOf .mch])) ∧
  (∀ (c : CmdId) (cacheMiss : Nat) (eccUnit : Option Nat) (rebuilt : Bool), Writes (.mapLookup c cacheMiss eccUnit
    rebuilt) (reporting ++ [.prx, .tenants, .cmds, .mch, .rdp, .wrp, .mcr, .nss, .fns, .errs, .mlk, .out, regsOf
    .rdp, regsOf .wrp, regsOf .mcr, regsOf .mlk])) ∧
  (∀ (r : AreadReq), Writes (.areadReqRx r) [.cmds, .mch, .rdp, .wrp, .evc, .mlk, .out, regsOf .mch, regsOf .rdp,
    regsOf .wrp, regsOf .mlk, regsOf .evc]) ∧
  (∀ (tag status : Nat), Writes (.areadRspRx tag status) (reporting ++ [.prx, .cmds, .mch, .rdp, .wrp, .mcr, .nss,
    .fns, .errs, .mlk, .out, regsOf .mch, regsOf .rdp, regsOf .wrp, regsOf .mcr, regsOf .mlk])) ∧
  (∀ (tag : Nat), Writes (.aroundTmo tag) (reporting ++ [.prx, .cmds, .mch, .rdp, .wrp, .mcr, .nss, .fns, .errs, .mlk,
    .out, regsOf .rdp, regsOf .wrp, regsOf .mlk])) ∧
  (∀ (j : DecodeJob) (corrected : Nat) (r : DecodeResult), Writes (.decodeDone j corrected r) (reporting ++ [.prx,
    .cmds, .mch, .rdp, .wrp, .mcr, .nss, .fns, .hpt, .aens, .errs, .mlk, .lpb, .out, regsOf .hpt, regsOf .qen, regsOf
    .prx, regsOf .mch, regsOf .rdp, regsOf .wrp, regsOf .mcr, regsOf .tcy, regsOf .mtr, regsOf .mlk, regsOf .tln])) ∧
  (∀ (j : DecodeJob) (corrected : Nat) (recovered : Bool), Writes (.softDecodePassDone j corrected recovered)
    (reporting ++ [.prx, .cmds, .mch, .rdp, .wrp, .mcr, .nss, .fns, .hpt, .aens, .errs, .mlk, .lpb, .out, regsOf
    .hpt, regsOf .qen, regsOf .prx, regsOf .mch, regsOf .rdp, regsOf .wrp, regsOf .mcr, regsOf .tcy, regsOf .mtr,
    regsOf .mlk, regsOf .tln])) ∧
  (∀ (c : CmdId), Writes (.writeStaged c) (reporting ++ [.cmds, .mch, .rdp, .wrp, .mcr, .nss, .aens, .mlk, .out, regsOf
    .rdp, regsOf .wrp, regsOf .mcr, regsOf .mlk])) ∧
  (∀ (wid : Nat), Writes (.stagingFreed wid) [.cmds, .rdp, .wrp, .mcr, .nss, .evc, .mlk, .out, regsOf .wrp, regsOf
    .mcr, regsOf .mlk, regsOf .evc]) ∧
  (∀ (seq status : Nat), Writes (.mackRx seq status) [.cmds, .rdp, .wrp, .nss, .evc, .mlk, .out, regsOf .wrp, regsOf
    .mlk, regsOf .evc]) ∧
  (∀ (lane : Nat) (r : OpResult), Writes (.programDone lane r) (reporting ++ [.prx, .cmds, .mch, .rdp, .wrp, .mcr,
    .fns, .hpt, .aens, .mlk, .lpb, .out, regsOf .hpt, regsOf .qen, regsOf .prx, regsOf .mch, regsOf .rdp, regsOf
    .wrp, regsOf .mcr, regsOf .tcy, regsOf .mtr, regsOf .mlk, regsOf .tln])) ∧
  (∀ (stripe : Nat), Writes (.stripeCloseTimeout stripe) (reporting ++ [.cmds, .mch, .rdp, .wrp, .mcr, .aens, .out,
    regsOf .rdp, regsOf .wrp, regsOf .mcr])) ∧
  (Writes .journalTailBelowLimit (reporting ++ [.prx, .tenants, .cmds, .mch, .rdp, .wrp, .mcr, .nss, .hpt, .mlk, .out,
    regsOf .qen, regsOf .wrp, regsOf .mcr, regsOf .mlk])) ∧
  (∀ (seg : Nat), Writes (.checkpointSegment seg) (reporting ++ [.cmds, .mch, .rdp, .wrp, .mcr, .aens, .out, regsOf
    .rdp, regsOf .wrp, regsOf .mcr])) ∧
  (∀ (by_ : Requester), Writes (.wrpCkptForce by_) (reporting ++ [.cmds, .mch, .rdp, .wrp, .mcr, .aens, .out, regsOf
    .rdp, regsOf .wrp, regsOf .mcr])) ∧
  (∀ (code : BitVec 12), Writes (.holdupSenseSample code) [.cmds, .mch, .rdp, .wrp, .mcr, .evc, .mlk, .pwr, .log, .mtr,
    .out, regsOf .wrp, regsOf .mlk, regsOf .evc]) ∧
  (Writes .pfailAssert [.cmds, .mch, .rdp, .wrp, .mcr, .evc, .mlk, .pwr, .log, .mtr, .out, regsOf .wrp, regsOf .mlk,
    regsOf .evc]) ∧
  (Writes .dumpDone [.wrp, .out, regsOf .wrp]) ∧
  (Writes .gcFactorReview [.mcr, regsOf .mcr]) ∧
  (∀ (lane : Nat), Writes (.scrubLate lane) (reporting ++ [.mch, regsOf .mcr])) ∧
  (∀ (lane group : Nat) (best : List Int), Writes (.calibrationDue lane group best) [.mch, .out, regsOf .rdp, regsOf
    .mcr]) ∧
  (∀ (by_ : Requester) (v : Word), Writes (.mcrTestStart by_ v) (reporting ++ [.cmds, .mch, .rdp, .wrp, .mcr, .aens,
    .out, regsOf .rdp, regsOf .wrp, regsOf .mcr])) ∧
  (∀ (by_ : Requester), Writes (.mcrTestAbort by_) (reporting ++ [.prx, .mch, .rdp, .mcr, .mlk, .out, regsOf .prx,
    regsOf .mcr, regsOf .mlk])) ∧
  (∀ (failed : Nat), Writes (.testDone failed) (reporting ++ [.prx, .cmds, .mch, .rdp, .mcr, .aens, .mlk, .out, .draw,
    regsOf .prx, regsOf .mcr, regsOf .mlk])) ∧
  (Writes .holdupTestDue [.cmds, .rdp, .wrp, .mcr, .evc, .mlk, .out, regsOf .wrp, regsOf .mcr, regsOf .mlk, regsOf
    .evc]) ∧
  (∀ (timeUs endCode : Nat), Writes (.holdupTestEnd timeUs endCode) (reporting ++ [.cmds, .rdp, .wrp, .mcr, .mlk, .out,
    regsOf .wrp, regsOf .mcr, regsOf .mlk])) ∧
  (∀ (slowPpm : Nat), Writes (.lifeForecast slowPpm) [.mch, .mcr, .evc, regsOf .mcr, regsOf .evc]) ∧
  (∀ (q : Sqe), Writes (.flush q) [.cmds, .fns, .hpt, .out, regsOf .hpt, regsOf .qen]) ∧
  (∀ (q : Sqe), Writes (.write q) (reporting ++ [.prx, .tenants, .cmds, .wrp, .mcr, .nss, .fns, .hpt, .out, regsOf
    .hpt, regsOf .qen, regsOf .wrp, regsOf .mcr])) ∧
  (∀ (q : Sqe), Writes (.read q) (reporting ++ [.prx, .cmds, .wrp, .nss, .fns, .hpt, .out, regsOf .hpt, regsOf .qen,
    regsOf .wrp])) ∧
  (∀ (q : Sqe) (equal : Bool), Writes (.compare q equal) (reporting ++ [.prx, .cmds, .wrp, .nss, .fns, .hpt, .out,
    regsOf .hpt, regsOf .qen, regsOf .wrp])) ∧
  (∀ (q : Sqe), Writes (.writeZeroes q) [.prx, .cmds, .mch, .rdp, .wrp, .mcr, .nss, .fns, .hpt, .evc, .mlk, .out,
    regsOf .hpt, regsOf .qen, regsOf .wrp, regsOf .mcr, regsOf .mlk, regsOf .evc]) ∧
  (∀ (q : Sqe) (ranges : List (Nat × Nat)), Writes (.datasetManagement q ranges) (reporting ++ [.prx, .cmds, .mch,
    .rdp, .wrp, .mcr, .nss, .fns, .hpt, .mlk, .out, regsOf .hpt, regsOf .qen, regsOf .wrp, regsOf .mcr, regsOf .mlk])) ∧
  (∀ (q : Sqe), Writes (.verify q) (reporting ++ [.prx, .cmds, .wrp, .nss, .fns, .hpt, .out, regsOf .hpt, regsOf .qen,
    regsOf .wrp])) ∧
  (∀ (q : Sqe) (ranges : List (Nat × Nat)), Writes (.copy q ranges) (reporting ++ [.prx, .cmds, .wrp, .nss, .fns, .hpt,
    .out, regsOf .hpt, regsOf .qen, regsOf .wrp])) ∧
  (∀ (session seq : Nat) (bytes : List Byte), Writes (.profileBind session seq bytes) (reporting ++ [.mch, .fns, .hpt,
    .sec, .out, .draw, regsOf .hpt, regsOf .qen, regsOf .mch, regsOf .sec])) ∧
  (∀ (entered : Bool), Writes (.variant3ReportRx entered) [.prx, .rdp, .evc, .mlk, .out, regsOf .prx, regsOf .mlk,
    regsOf .evc]) ∧
  (∀ (frame : Nat), Writes (.clearingFrameRx frame) [.prx, .rdp, .evc, .mlk, .out, regsOf .prx, regsOf .mlk, regsOf
    .evc]) ∧
  (Writes .pmeToAck (reporting ++ [.wrp, .mcr, .pwr, .mtr, .out, regsOf .wrp])) ∧
  (Writes .mainRailsRemoved [.mch, .wrp, .aow, .pwr, .log, .mtr, .out, regsOf .aow, regsOf .pwr])

/-- Frames of the commands of the Host Port, the functions and the queues. Each of these 76 commands changes no part of
the state but those named for it: every other block's registers and every other table, queue and buffer stay as they
are. A part is named for what its rules, and what they bring about in other blocks, may write; `reporting` is the
Event Controller's registers and the event log, which R521 and R612 let any report change. The outputs are the model's
own part (assumption 13). Rests on 09_host_port.md, 10_functions_and_queues.md. -/
def Obligations.FrameHostAndQueues : Prop :=
  (∀ (speed width : Nat) (flit laneRev : Bool), Writes (.hostLinkUp speed width flit laneRev) [.evc, regsOf .hpt,
    regsOf .evc]) ∧
  (∀ (cause : DlDownCause), Writes (.hostDlDown cause) (reporting ++ [.prx, .cmds, .rdp, .wrp, .fns, .hpt, .mig, .sdm,
    .mlk, .sec, .lpb, .out, .draw, regsOf .hpt, regsOf .fnm, regsOf .qen, regsOf .prx, regsOf .rdp, regsOf .wrp,
    regsOf .mtr, regsOf .mlk, regsOf .sdm, regsOf .tln])) ∧
  (Writes .hostFlitCrcFail (reporting ++ [.fns, .out, regsOf .hpt])) ∧
  (∀ (r : MemReq), Writes (.memRequestRx r) (reporting ++ [.ftb, .prx, .tenants, .cmds, .mch, .rdp, .wrp, .mcr, .nss,
    .fns, .hpt, .mig, .aens, .errs, .sdm, .mlk, .pwr, .sec, .mtr, .lpb, .tln, .out, .draw, regsOf .hpt, regsOf .fnm,
    regsOf .qen, regsOf .ftb, regsOf .prx, regsOf .mch, regsOf .rdp, regsOf .wrp, regsOf .mcr, regsOf .mtr, regsOf
    .sec, regsOf .mlk, regsOf .aow, regsOf .sdm, regsOf .lpb, regsOf .tln, .regs (r.addr / 0x100000), .regs ((r.addr
    + 4) / 0x100000)])) ∧
  (∀ (c : Cpl), Writes (.completionRx c) (reporting ++ [.prx, .cmds, .mch, .rdp, .wrp, .mcr, .fns, .hpt, .mig, .aens,
    .sdm, .mlk, .sec, .lpb, .out, .draw, regsOf .hpt, regsOf .fnm, regsOf .qen, regsOf .prx, regsOf .mch, regsOf
    .rdp, regsOf .wrp, regsOf .mcr, regsOf .tcy, regsOf .mtr, regsOf .mlk, regsOf .tln])) ∧
  (∀ (l1ss : Nat), Writes (.aspmL1Entry l1ss) [.out, regsOf .hpt]) ∧
  (Writes .aspmL1Exit [.out, regsOf .hpt]) ∧
  (∀ (width : Nat), Writes (.l0pHostRequest width) [.hpt, .evc, .out, regsOf .hpt, regsOf .evc]) ∧
  (Writes .l0pReduceRequest [.out]) ∧
  (∀ (fn page : Nat) (failed denied : Bool), Writes (.translationCompletionRx fn page failed denied) (reporting ++
    [.prx, .cmds, .rdp, .wrp, .fns, .hpt, .out, regsOf .hpt, regsOf .rdp, regsOf .wrp])) ∧
  (∀ (fn base : Nat) (r : InvalRange), Writes (.invalidateRequestRx fn base r) [.hpt, .out, regsOf .hpt]) ∧
  (∀ (fn k : Nat), Writes (.invalidateAbandon fn k) (reporting ++ [.prx, .cmds, .mch, .rdp, .wrp, .mcr, .fns, .hpt,
    .mig, .aens, .sdm, .mlk, .sec, .lpb, .out, .draw, regsOf .hpt, regsOf .fnm, regsOf .qen, regsOf .prx, regsOf
    .mch, regsOf .rdp, regsOf .wrp, regsOf .mcr, regsOf .tcy, regsOf .mtr, regsOf .mlk, regsOf .tln])) ∧
  (∀ (fn : Nat), Writes (.invalidateCompletionSend fn) [.hpt, .out, regsOf .hpt]) ∧
  (∀ (vendor : Nat) (o : DoeObject) (len : Nat), Writes (.doeRequestRx vendor o len) [.fns, .hpt, .evc, .out, regsOf
    .hpt, regsOf .qen, regsOf .evc]) ∧
  (Writes .doeAbort [.hpt]) ∧
  (∀ (tag : Nat), Writes (.completionTimeout tag) (reporting ++ [.prx, .cmds, .mch, .rdp, .wrp, .mcr, .fns, .hpt, .mig,
    .aens, .sdm, .mlk, .sec, .lpb, .out, .draw, regsOf .hpt, regsOf .fnm, regsOf .qen, regsOf .prx, regsOf .mch,
    regsOf .rdp, regsOf .wrp, regsOf .mcr, regsOf .tcy, regsOf .mtr, regsOf .mlk, regsOf .tln])) ∧
  (∀ (tag : Nat), Writes (.tagQuarantineEnd tag) [.hpt, regsOf .hpt]) ∧
  (∀ (by_ : Requester), Writes (.hptContainForce by_) (reporting ++ [.prx, .cmds, .rdp, .wrp, .fns, .hpt, .mig, .sdm,
    .mlk, .sec, .lpb, .out, .draw, regsOf .hpt, regsOf .fnm, regsOf .qen, regsOf .prx, regsOf .rdp, regsOf .wrp,
    regsOf .mtr, regsOf .mlk, regsOf .sdm, regsOf .tln])) ∧
  (Writes .hptContainRelease [.prx, .tenants, .cmds, .rdp, .wrp, .fns, .hpt, .aens, .evc, .out, regsOf .hpt, regsOf
    .qen, regsOf .rdp, regsOf .wrp, regsOf .evc]) ∧
  (Writes .releaseComplete [.rdp, .fns, .hpt, .evc, .mlk, .lpb, .out, regsOf .hpt, regsOf .qen, regsOf .mtr, regsOf
    .mlk, regsOf .evc, regsOf .tln]) ∧
  (Writes .attnBtn (reporting ++ [.prx, .cmds, .rdp, .wrp, .fns, .hpt, .mig, .sdm, .mlk, .sec, .lpb, .out, .draw,
    regsOf .hpt, regsOf .fnm, regsOf .qen, regsOf .prx, regsOf .rdp, regsOf .wrp, regsOf .mtr, regsOf .mlk, regsOf
    .sdm, regsOf .tln])) ∧
  (Writes .sppAttnAck [.hpt, regsOf .pwr]) ∧
  (Writes .attnTimeout (reporting ++ [.prx, .cmds, .rdp, .wrp, .fns, .hpt, .mig, .sdm, .mlk, .sec, .lpb, .out, .draw,
    regsOf .hpt, regsOf .fnm, regsOf .qen, regsOf .prx, regsOf .rdp, regsOf .wrp, regsOf .mtr, regsOf .mlk, regsOf
    .sdm, regsOf .tln])) ∧
  (Writes .fallbackDestageDone (reporting ++ [.mch, .wrp, .mcr, .pwr, .mtr, .out, regsOf .wrp])) ∧
  (∀ (seated : Bool), Writes (.prsntChange seated) (reporting ++ [.prx, .cmds, .rdp, .wrp, .fns, .hpt, .mig, .sdm,
    .mlk, .sec, .lpb, .out, .draw, regsOf .hpt, regsOf .fnm, regsOf .qen, regsOf .prx, regsOf .rdp, regsOf .wrp,
    regsOf .mtr, regsOf .mlk, regsOf .sdm, regsOf .tln])) ∧
  (∀ (q : Sqe), Writes (.createIoSq q) [.cmds, .fns, .hpt, .out, regsOf .hpt, regsOf .qen]) ∧
  (∀ (q : Sqe), Writes (.createIoCq q) [.cmds, .fns, .hpt, .out, regsOf .hpt, regsOf .qen]) ∧
  (∀ (q : Sqe), Writes (.deleteIoSq q) [.prx, .cmds, .rdp, .wrp, .fns, .hpt, .evc, .out, regsOf .hpt, regsOf .qen,
    regsOf .rdp, regsOf .wrp, regsOf .evc]) ∧
  (∀ (fn qid : Nat), Writes (.sqDeleteDrained fn qid) [.cmds, .fns, .out, regsOf .qen]) ∧
  (∀ (q : Sqe), Writes (.deleteIoCq q) [.cmds, .fns, .hpt, .out, regsOf .hpt, regsOf .qen]) ∧
  (∀ (q : Sqe), Writes (.getLogPage q) [.tenants, .cmds, .fns, .hpt, .lpb, .out, .draw, regsOf .hpt, regsOf .qen,
    regsOf .mtr, regsOf .tln]) ∧
  (∀ (q : Sqe), Writes (.identify q) [.cmds, .nss, .fns, .hpt, .lpb, .out, regsOf .hpt, regsOf .qen, regsOf .mtr,
    regsOf .tln]) ∧
  (∀ (q : Sqe), Writes (.abort q) [.prx, .cmds, .rdp, .wrp, .fns, .hpt, .evc, .out, regsOf .hpt, regsOf .qen, regsOf
    .rdp, regsOf .wrp, regsOf .evc]) ∧
  (∀ (q : Sqe) (data : BitVec 64), Writes (.setFeatures q data) [.cmds, .fns, .hpt, .lpb, .out, regsOf .hpt, regsOf
    .qen, regsOf .mtr, regsOf .tln]) ∧
  (∀ (q : Sqe), Writes (.getFeatures q) [.cmds, .fns, .hpt, .lpb, .out, regsOf .hpt, regsOf .qen, regsOf .mtr, regsOf
    .tln]) ∧
  (∀ (q : Sqe), Writes (.asynchronousEventRequest q) [.cmds, .fns, .hpt, .aens, .out, regsOf .hpt, regsOf .qen]) ∧
  (∀ (q : Sqe), Writes (.formatNvm q) [.cmds, .nss, .fns, .hpt, .out, regsOf .hpt, regsOf .qen]) ∧
  (∀ (q : Sqe), Writes (.sanitize q) [.cmds, .nss, .fns, .hpt, .out, regsOf .hpt, regsOf .qen]) ∧
  (∀ (q : Sqe), Writes (.contractQuery q) [.cmds, .fns, .hpt, .lpb, .out, regsOf .hpt, regsOf .qen, regsOf .mtr, regsOf
    .tln]) ∧
  (∀ (q : Sqe), Writes (.meterRead q) [.cmds, .fns, .hpt, .lpb, .out, regsOf .hpt, regsOf .qen, regsOf .mtr, regsOf
    .tln]) ∧
  (∀ (q : Sqe) (d : NsCreate), Writes (.namespaceCreate q d) [.cmds, .rdp, .nss, .fns, .hpt, .evc, .mlk, .keys, .lpb,
    .out, .draw, regsOf .hpt, regsOf .qen, regsOf .mtr, regsOf .mlk, regsOf .evc, regsOf .tln]) ∧
  (∀ (q : Sqe) (cntlids : List Nat), Writes (.namespaceAttach q cntlids) [.cmds, .rdp, .nss, .fns, .hpt, .aens, .evc,
    .mlk, .lpb, .out, regsOf .hpt, regsOf .qen, regsOf .mtr, regsOf .mlk, regsOf .evc, regsOf .tln]) ∧
  (∀ (q : Sqe) (cntlids : List Nat), Writes (.namespaceDetach q cntlids) [.cmds, .rdp, .nss, .fns, .hpt, .aens, .evc,
    .mlk, .lpb, .out, regsOf .hpt, regsOf .qen, regsOf .mtr, regsOf .mlk, regsOf .evc, regsOf .tln]) ∧
  (∀ (nsid : Nat), Writes (.namespaceDetachDrained nsid) [.cmds, .rdp, .nss, .fns, .aens, .evc, .mlk, .out, regsOf
    .mlk, regsOf .evc]) ∧
  (∀ (q : Sqe), Writes (.primaryFlexibleAllocation q) [.cmds, .fns, .hpt, .out, regsOf .hpt, regsOf .qen]) ∧
  (∀ (q : Sqe), Writes (.secondaryOffline q) [.cmds, .fns, .hpt, .out, regsOf .hpt, regsOf .qen]) ∧
  (∀ (q : Sqe), Writes (.secondaryAssign q) [.cmds, .fns, .hpt, .out, regsOf .hpt, regsOf .qen]) ∧
  (∀ (q : Sqe), Writes (.secondaryOnline q) [.cmds, .fns, .hpt, .out, regsOf .hpt, regsOf .qen]) ∧
  (∀ (fn qid value : Nat), Writes (.sqTailDoorbell fn qid value) (reporting ++ [.cmds, .fns, .hpt, .aens, .out, regsOf
    .hpt, regsOf .qen])) ∧
  (∀ (fn qid value : Nat), Writes (.cqHeadDoorbell fn qid value) (reporting ++ [.cmds, .fns, .hpt, .aens, .out, regsOf
    .hpt, regsOf .qen])) ∧
  (∀ (fn : Nat), Writes (.ccEnSet fn) (reporting ++ [.fns, .out, regsOf .hpt])) ∧
  (∀ (fn : Nat), Writes (.controllerReset fn) (reporting ++ [.prx, .tenants, .cmds, .rdp, .wrp, .fns, .hpt, .aens,
    .out, regsOf .hpt, regsOf .qen, regsOf .rdp, regsOf .wrp])) ∧
  (∀ (fn : Nat), Writes (.bmeClear fn) [.cmds, .fns, .evc, regsOf .fnm, regsOf .evc, regsOf .sdm]) ∧
  (∀ (fn : Nat), Writes (.bmeSet fn) [.fns, .hpt, .lpb, .out, regsOf .hpt, regsOf .qen, regsOf .mtr, regsOf .sdm,
    regsOf .tln]) ∧
  (∀ (fn state : Nat), Writes (.powerStateWrite fn state) [.cmds, .fns, .hpt, .evc, .lpb, .out, regsOf .hpt, regsOf
    .fnm, regsOf .qen, regsOf .mtr, regsOf .evc, regsOf .sdm, regsOf .tln]) ∧
  (Writes .vfEnableSet [.fns, .evc, regsOf .fnm, regsOf .qen, regsOf .evc]) ∧
  (Writes .vfEnableClear (reporting ++ [.prx, .tenants, .cmds, .rdp, .wrp, .fns, .hpt, .mig, .aens, .errs, .out, regsOf
    .hpt, regsOf .fnm, regsOf .qen, regsOf .rdp, regsOf .wrp])) ∧
  (∀ (vf : Nat), Writes (.vfFlr vf) (reporting ++ [.prx, .tenants, .cmds, .rdp, .wrp, .fns, .hpt, .mig, .aens, .errs,
    .out, regsOf .hpt, regsOf .fnm, regsOf .qen, regsOf .rdp, regsOf .wrp])) ∧
  (∀ (vf : Nat), Writes (.vfFlrDone vf) [.fns, .evc, regsOf .fnm, regsOf .evc]) ∧
  (Writes .pfFlr (reporting ++ [.prx, .tenants, .cmds, .rdp, .wrp, .fns, .hpt, .mig, .aens, .errs, .sdm, .sec, .lpb,
    .out, .draw, regsOf .hpt, regsOf .fnm, regsOf .qen, regsOf .prx, regsOf .rdp, regsOf .wrp, regsOf .mtr, regsOf
    .sec, regsOf .sdm, regsOf .tln])) ∧
  (Writes .quiesce [.fns, .evc, regsOf .fnm, regsOf .evc]) ∧
  (∀ (vf : Nat), Writes (.quiesced vf) [.fns, .evc, regsOf .fnm, regsOf .evc]) ∧
  (Writes .resume [.fns, .hpt, .evc, .out, regsOf .hpt, regsOf .fnm, regsOf .evc]) ∧
  (Writes .freeze [.fns, .evc, regsOf .fnm, regsOf .evc]) ∧
  (∀ (vf : Nat), Writes (.frozen vf) [.fns, .evc, regsOf .fnm, regsOf .evc]) ∧
  (Writes .unfreeze [.fns, .hpt, .evc, .out, regsOf .hpt, regsOf .fnm, regsOf .qen, regsOf .evc]) ∧
  (Writes .save (reporting ++ [.rdp, .fns, .hpt, .mig, .mlk, .lpb, .out, regsOf .hpt, regsOf .fnm, regsOf .qen, regsOf
    .mtr, regsOf .mlk, regsOf .tln])) ∧
  (∀ (ok : Bool), Writes (.saveDone ok) (reporting ++ [.hpt, .mig, regsOf .fnm])) ∧
  (Writes .restore (reporting ++ [.fns, .hpt, .mig, .lpb, .out, regsOf .hpt, regsOf .fnm, regsOf .qen, regsOf .mtr,
    regsOf .tln])) ∧
  (∀ (blob : List Byte), Writes (.restoreDone blob) (reporting ++ [.prx, .tenants, .cmds, .rdp, .wrp, .fns, .hpt, .mig,
    .aens, .errs, .mlk, .mtr, .out, regsOf .hpt, regsOf .fnm, regsOf .qen, regsOf .rdp, regsOf .wrp])) ∧
  (∀ (fn : Nat), Writes (.holdoffTimerExpiry fn) [.fns, .hpt, .out, regsOf .hpt, regsOf .qen]) ∧
  (∀ (fn : Nat) (vec : Option Nat), Writes (.msixUnmask fn vec) [.fns, .hpt, .out, regsOf .hpt, regsOf .qen]) ∧
  (∀ (speed width : Nat), Writes (.hostLinkRecovery speed width) [.evc, regsOf .hpt, regsOf .evc]) ∧
  (Writes .pfFlrDone [.fns, .evc, regsOf .fnm, regsOf .evc]) ∧
  (∀ (fn : Nat), Writes (.controllerResetDone fn) [.fns]) ∧
  (∀ (q : Sqe), Writes (.invalidCommandOpcode q) [.cmds, .fns, .hpt, .out, regsOf .hpt, regsOf .qen])

/-- Frames of the commands of security, metering and the Mirror Link. Each of these 66 commands changes no part of the
state but those named for it: every other block's registers and every other table, queue and buffer stay as they are.
A part is named for what its rules, and what they bring about in other blocks, may write; `reporting` is the Event
Controller's registers and the event log, which R521 and R612 let any report change. The outputs are the model's own
part (assumption 13). Rests on 11_security_and_metering.md, 12_mirror_link.md. -/
def Obligations.FrameSecurityAndPair : Prop :=
  (∀ (seq : Nat), Writes (.mackTimeout seq) [.cmds, .rdp, .wrp, .nss, .evc, .mlk, .out, regsOf .wrp, regsOf .mlk,
    regsOf .evc]) ∧
  (Writes .roleEdge (reporting ++ [.prx, .cmds, .rdp, .wrp, .mcr, .mlk, .out, regsOf .rdp, regsOf .wrp, regsOf .mcr,
    regsOf .mlk])) ∧
  (∀ (nsid : Nat), Writes (.cryptoEraseProceed nsid) (reporting ++ [.prx, .tenants, .cmds, .mch, .rdp, .wrp, .mcr,
    .nss, .fns, .hpt, .mlk, .keys, .out, .draw, regsOf .qen, regsOf .rdp, regsOf .wrp, regsOf .mcr, regsOf .tcy,
    regsOf .sec, regsOf .mlk])) ∧
  (∀ (q : Sqe), Writes (.namespaceDelete q) [.cmds, .rdp, .nss, .fns, .hpt, .aens, .evc, .mlk, .out, regsOf .hpt,
    regsOf .qen, regsOf .mlk, regsOf .evc]) ∧
  (∀ (q : Sqe) (bytes : List Byte), Writes (.firmwareImageDownload q bytes) [.cmds, .fns, .hpt, .sec, .lpb, .out,
    regsOf .hpt, regsOf .qen, regsOf .mtr, regsOf .tln]) ∧
  (∀ (q : Sqe) (gaps : List Byte), Writes (.firmwareCommit q gaps) [.cmds, .fns, .hpt, .sec, .out, regsOf .hpt, regsOf
    .qen]) ∧
  (∀ (img : Option SlotImage) (desc : Option (List Byte)), Writes (.uartImageRx img desc) [.pwr, .log, .sec]) ∧
  (Writes .getVersion (reporting ++ [.fns, .hpt, .sec, .out, regsOf .hpt, regsOf .qen, regsOf .sec])) ∧
  (Writes .getCapabilities (reporting ++ [.fns, .hpt, .sec, .out, regsOf .hpt, regsOf .qen, regsOf .sec])) ∧
  (Writes .negotiateAlgorithms (reporting ++ [.fns, .hpt, .sec, .out, regsOf .hpt, regsOf .qen, regsOf .sec])) ∧
  (Writes .getDigests (reporting ++ [.fns, .hpt, .sec, .out, regsOf .hpt, regsOf .qen, regsOf .sec])) ∧
  (∀ (slot offset length : Nat), Writes (.getCertificate slot offset length) (reporting ++ [.fns, .hpt, .sec, .out,
    regsOf .hpt, regsOf .qen, regsOf .sec])) ∧
  (∀ (slot : Nat) (nonce : List Byte), Writes (.challenge slot nonce) (reporting ++ [.fns, .hpt, .sec, .out, regsOf
    .hpt, regsOf .qen, regsOf .sec])) ∧
  (∀ (index : Nat) (nonce : List Byte), Writes (.getMeasurements index nonce) (reporting ++ [.fns, .hpt, .sec, .out,
    regsOf .hpt, regsOf .qen, regsOf .sec])) ∧
  (∀ (slot : Nat) (pub : List Byte), Writes (.keyExchange slot pub) (reporting ++ [.fns, .hpt, .sec, .out, regsOf .hpt,
    regsOf .qen, regsOf .sec])) ∧
  (∀ (session : Nat) (macOk : Bool), Writes (.finish session macOk) [.fns, .hpt, .evc, .sec, .out, regsOf .hpt, regsOf
    .qen, regsOf .sec, regsOf .evc]) ∧
  (∀ (hint : List Byte), Writes (.pskExchange hint) (reporting ++ [.fns, .hpt, .sec, .out, regsOf .hpt, regsOf .qen,
    regsOf .sec])) ∧
  (∀ (session : Nat), Writes (.endSession session) [.fns, .hpt, .evc, .sec, .out, regsOf .hpt, regsOf .qen, regsOf
    .sec, regsOf .evc]) ∧
  (Writes .spdmUnsupportedRequest (reporting ++ [.fns, .hpt, .sec, .out, regsOf .hpt, regsOf .qen, regsOf .sec])) ∧
  (Writes .authFail (reporting ++ [.hpt, regsOf .sec])) ∧
  (∀ (session : Nat), Writes (.sessionTimeout session) [.evc, .sec, regsOf .sec, regsOf .evc]) ∧
  (∀ (session seq : Nat) (psk hint : List Byte), Writes (.claim session seq psk hint) (reporting ++ [.mcr, .fns, .hpt,
    .sec, .out, .draw, regsOf .hpt, regsOf .qen, regsOf .mtr, regsOf .sec])) ∧
  (∀ (session seq : Nat) (psk hint : List Byte), Writes (.pskRotate session seq psk hint) (reporting ++ [.fns, .hpt,
    .sec, .out, regsOf .hpt, regsOf .qen, regsOf .sec])) ∧
  (∀ (session seq : Nat), Writes (.rollbackCommit session seq) (reporting ++ [.fns, .hpt, .fuses, .sec, .out, regsOf
    .hpt, regsOf .qen, regsOf .sec])) ∧
  (∀ (session seq : Nat), Writes (.query session seq) (reporting ++ [.fns, .hpt, .sec, .out, regsOf .hpt, regsOf .qen,
    regsOf .sec])) ∧
  (∀ (session seq : Nat) (addr : BitVec 64) (len : Word), Writes (.imageLoad session seq addr len) (reporting ++ [.prx,
    .fns, .hpt, .sec, .lpb, .out, regsOf .hpt, regsOf .qen, regsOf .prx, regsOf .mtr, regsOf .sec, regsOf .tln])) ∧
  (∀ (session seq : Nat) (frame : BitVec 64), Writes (.imageArm session seq frame) (reporting ++ [.prx, .rdp, .mcr,
    .fns, .hpt, .mlk, .sec, .out, regsOf .hpt, regsOf .qen, regsOf .prx, regsOf .sec, regsOf .mlk])) ∧
  (∀ (session seq : Nat), Writes (.imageDisarm session seq) (reporting ++ [.prx, .rdp, .mcr, .fns, .hpt, .mlk, .sec,
    .out, regsOf .hpt, regsOf .qen, regsOf .prx, regsOf .sec, regsOf .mlk])) ∧
  (∀ (session seq : Nat), Writes (.park session seq) (reporting ++ [.prx, .rdp, .mcr, .fns, .hpt, .mlk, .sec, .out,
    regsOf .hpt, regsOf .qen, regsOf .prx, regsOf .sec, regsOf .mlk])) ∧
  (∀ (session seq vf dir : Nat) (trim : Word), Writes (.tokenTrim session seq vf dir trim) (reporting ++ [.prx, .fns,
    .hpt, .sec, .out, regsOf .hpt, regsOf .qen, regsOf .prx, regsOf .sec])) ∧
  (∀ (session seq nsid : Nat) (wrapped : List Byte), Writes (.keyInstall session seq nsid wrapped) (reporting ++ [.rdp,
    .nss, .fns, .hpt, .mlk, .sec, .keys, .out, regsOf .hpt, regsOf .qen, regsOf .tcy, regsOf .sec, regsOf .mlk])) ∧
  (∀ (session seq nsid : Nat), Writes (.keyGenerate session seq nsid) (reporting ++ [.rdp, .nss, .fns, .hpt, .mlk,
    .sec, .keys, .out, .draw, regsOf .hpt, regsOf .qen, regsOf .tcy, regsOf .sec, regsOf .mlk])) ∧
  (∀ (session seq win : Nat) (v : WindowVals), Writes (.lpWindow session seq win v) (reporting ++ [.fns, .hpt, .sec,
    .lpb, .out, regsOf .hpt, regsOf .qen, regsOf .sec, regsOf .lpb])) ∧
  (Writes .minuteSigned [.fns, .hpt, .evc, .mtr, .lpb, .out, regsOf .hpt, regsOf .qen, regsOf .mtr, regsOf .evc, regsOf
    .tln]) ∧
  (∀ (v : Word), Writes (.mtrArchConsWrite v) [.mtr, regsOf .mtr]) ∧
  (∀ (t : Option LinkTrained), Writes (.linkTrain t) [.rdp, .evc, .mlk, .out, regsOf .mlk, regsOf .evc]) ∧
  (∀ (i : InitFlit), Writes (.initRx i) (reporting ++ [.prx, .cmds, .mch, .rdp, .wrp, .mcr, .nss, .fns, .hpt, .mig,
    .aens, .errs, .mlk, .out, regsOf .fnm, regsOf .ftb, regsOf .prx, regsOf .rdp, regsOf .wrp, regsOf .mcr, regsOf
    .mlk])) ∧
  (∀ (bytes : List Byte), Writes (.flitRx bytes) (reporting ++ [.rdp, .mlk, .out, regsOf .mlk])) ∧
  (∀ (seq : Nat), Writes (.nakRx seq) [.rdp, .evc, .mlk, .out, regsOf .mlk, regsOf .evc]) ∧
  (Writes .ackTimer [.mlk, .out]) ∧
  (Writes .creditReport [.mlk, .out]) ∧
  (Writes .speedRetrain [.mlk, regsOf .mlk]) ∧
  (∀ (pam4 : Bool) (peerNext : Nat), Writes (.speedRetrainDone pam4 peerNext) [.rdp, .evc, .mlk, .out, regsOf .mlk,
    regsOf .evc]) ∧
  (Writes .linkReset [.evc, .mlk, regsOf .mlk, regsOf .evc, regsOf .pwr]) ∧
  (Writes .linkDown (reporting ++ [.prx, .cmds, .mch, .rdp, .wrp, .mcr, .nss, .fns, .errs, .mlk, .out, regsOf .rdp,
    regsOf .wrp, regsOf .mlk])) ∧
  (Writes .graceExpiry (reporting ++ [.prx, .cmds, .mch, .rdp, .wrp, .mcr, .nss, .fns, .hpt, .mig, .aens, .errs, .mlk,
    .out, regsOf .fnm, regsOf .prx, regsOf .rdp, regsOf .wrp, regsOf .mlk])) ∧
  (∀ (by_ : Requester), Writes (.declareLost by_) (reporting ++ [.prx, .cmds, .mch, .rdp, .wrp, .mcr, .nss, .fns, .hpt,
    .mig, .aens, .errs, .mlk, .out, regsOf .fnm, regsOf .prx, regsOf .rdp, regsOf .wrp, regsOf .mlk])) ∧
  (Writes .fenceInAssert (reporting ++ [.prx, .cmds, .mch, .rdp, .wrp, .mcr, .nss, .fns, .hpt, .mig, .aens, .errs,
    .mlk, .out, regsOf .fnm, regsOf .prx, regsOf .rdp, regsOf .wrp, regsOf .mlk])) ∧
  (∀ (by_ : Option Requester), Writes (.rejoin by_) (reporting ++ [.prx, .rdp, .nss, .mlk, .out, regsOf .mlk])) ∧
  (Writes .pairJoined [.prx, .cmds, .rdp, .wrp, .nss, .evc, .mlk, .out, regsOf .prx, regsOf .rdp, regsOf .wrp, regsOf
    .mlk, regsOf .evc]) ∧
  (∀ (m : MWrite), Writes (.mwriteRx m) (reporting ++ [.prx, .cmds, .mch, .rdp, .wrp, .mcr, .nss, .mlk, .keys, .out,
    .draw, regsOf .rdp, regsOf .wrp, regsOf .mcr, regsOf .tcy, regsOf .sec, regsOf .mlk])) ∧
  (∀ (m : MMap), Writes (.mmapRx m) (reporting ++ [.prx, .cmds, .mch, .rdp, .wrp, .mcr, .nss, .mlk, .keys, .out, .draw,
    regsOf .rdp, regsOf .wrp, regsOf .mcr, regsOf .tcy, regsOf .sec, regsOf .mlk])) ∧
  (∀ (nsid originSeq : Nat), Writes (.meraseRx nsid originSeq) [.prx, .cmds, .mch, .rdp, .wrp, .mcr, .nss, .evc, .mlk,
    .keys, .out, .draw, regsOf .rdp, regsOf .wrp, regsOf .mcr, regsOf .tcy, regsOf .sec, regsOf .mlk, regsOf .evc]) ∧
  (∀ (sourceVf : Nat) (bytes : List Byte), Writes (.blobRx sourceVf bytes) [.rdp, .evc, .mlk, .out, regsOf .mlk, regsOf
    .evc]) ∧
  (∀ (sourceVf status : Nat), Writes (.blobAckRx sourceVf status) (reporting ++ [.hpt, .mig, .mlk, regsOf .fnm])) ∧
  (∀ (m : NsSync), Writes (.nsSyncRx m) (reporting ++ [.prx, .cmds, .mch, .rdp, .wrp, .mcr, .nss, .fns, .aens, .mlk,
    .keys, .out, .draw, regsOf .rdp, regsOf .wrp, regsOf .mcr, regsOf .tcy, regsOf .sec, regsOf .mlk])) ∧
  (∀ (nsid : Nat) (regions : List Nat), Writes (.changeMapRx nsid regions) (reporting ++ [.rdp, .nss, .mlk, .out,
    regsOf .mlk])) ∧
  (∀ (nsid index part : Nat) (recovered : Bool), Writes (.repairReqRx nsid index part recovered) [.rdp, .evc, .mlk,
    .out, regsOf .mlk, regsOf .evc]) ∧
  (∀ (nsid : Nat), Writes (.resyncDoneRx nsid) [.rdp, .nss, .evc, .mlk, .out, regsOf .mlk, regsOf .evc]) ∧
  (Writes .partnerHostLost [.evc, .mlk, regsOf .mlk, regsOf .evc]) ∧
  (Writes .partnerHostRestored [.evc, .mlk, regsOf .mlk, regsOf .evc]) ∧
  (Writes .dumpNoticeRx (reporting ++ [.prx, .cmds, .mch, .rdp, .wrp, .mcr, .nss, .fns, .hpt, .mig, .aens, .errs, .mlk,
    .out, regsOf .fnm, regsOf .prx, regsOf .rdp, regsOf .wrp, regsOf .mlk])) ∧
  (∀ (nsid : Nat) (kcv : BitVec 64), Writes (.kcvRx nsid kcv) [.rdp, .nss, .evc, .mlk, .out, regsOf .tcy, regsOf .mlk,
    regsOf .evc]) ∧
  (Writes .goingDownRx [.mlk]) ∧
  (∀ (by_ : Requester), Writes (.blobDiscard by_) (reporting ++ [.mlk, .out])) ∧
  (∀ (session opcode seq : Nat), Writes (.invalidManagementRequest session opcode seq) (reporting ++ [.fns, .hpt, .sec,
    .out, regsOf .hpt, regsOf .qen, regsOf .sec]))

/-- Frames of the commands of the control complex, the Local Port, telemetry, management and power. Each of these 71
commands changes no part of the state but those named for it: every other block's registers and every other table,
queue and buffer stay as they are. A part is named for what its rules, and what they bring about in other blocks, may
write; `reporting` is the Event Controller's registers and the event log, which R521 and R612 let any report change.
The outputs are the model's own part (assumption 13). Rests on 13_control_complex.md, 14_local_port_and_telemetry.md,
15_startup_and_power.md. -/
def Obligations.FrameControlAndPower : Prop :=
  (∀ (t256 : Int), Writes (.junctionTempSample t256) [.prx, .rdp, .evc, .mlk, .out, regsOf .prx, regsOf .mlk, regsOf
    .evc]) ∧
  (∀ (r : CfgReq), Writes (.configRequestRx r) (reporting ++ [.prx, .tenants, .cmds, .rdp, .wrp, .fns, .hpt, .mig,
    .aens, .errs, .sdm, .sec, .lpb, .out, .draw, regsOf .hpt, regsOf .fnm, regsOf .qen, regsOf .prx, regsOf .rdp,
    regsOf .wrp, regsOf .mtr, regsOf .sec, regsOf .sdm, regsOf .tln])) ∧
  (∀ (fn : Nat), Writes (.controllerReady fn) [.fns, .hpt, .out, regsOf .hpt]) ∧
  (∀ (by_ : Requester) (src : Nat), Writes (.evcRing by_ src) reporting) ∧
  (∀ (by_ : Requester) (src : Nat), Writes (.evcUnpend by_ src) (reporting ++ [.out])) ∧
  (∀ (by_ : Requester) (core : Nat), Writes (.evcClaim by_ core) (reporting ++ [.out])) ∧
  (∀ (by_ : Requester) (core src : Nat), Writes (.evcComplete by_ core src) (reporting ++ [.out])) ∧
  (∀ (by_ : Requester) (core : Nat), Writes (.evcStackReset by_ core) (reporting ++ [.out])) ∧
  (∀ (by_ : Requester) (v : Word), Writes (.evcGdisWrite by_ v) (reporting ++ [.out])) ∧
  (∀ (src : Nat) (high : Bool), Writes (.levelSourceChange src high) [.evc, regsOf .evc, regsOf .pwr]) ∧
  (∀ (g : Nat), Writes (.holdoffGroupExpiry g) [regsOf .evc]) ∧
  (∀ (by_ : Requester) (core : Nat) (v : Word), Writes (.watchdogRestart by_ core v) (reporting ++ [.out])) ∧
  (∀ (core : Nat), Writes (.watchdogExpiry core) [.evc, .out, regsOf .evc]) ∧
  (∀ (core : Nat), Writes (.watchdogCoreReset core) (reporting ++ [.hpt])) ∧
  (∀ (core : Nat) (addr : BitVec 38) (write : Bool), Writes (.coreAccessFault core addr write) (reporting ++ [.out])) ∧
  (∀ (core : Nat), Writes (.coreEccFault core) (reporting ++ [.out, .draw, regsOf .srm])) ∧
  (∀ (wakeBits pinBits : Word), Writes (.watchWake wakeBits pinBits) [.out, regsOf .aow]) ∧
  (Writes .aowAlarmExpiry [.out, regsOf .aow]) ∧
  (∀ (pin : PinIdx), Writes (.watchPinEvent pin) [.evc, regsOf .evc, regsOf .aow]) ∧
  (∀ (by_ : Requester) (ch : Nat) (first : SdmDesc), Writes (.sdmArm by_ ch first) (reporting ++ [.fns, .hpt, .sdm,
    .lpb, .out, .draw, regsOf .hpt, regsOf .qen, regsOf .mtr, regsOf .sdm, regsOf .tln])) ∧
  (∀ (by_ : Requester) (ch : Nat), Writes (.sdmAbort by_ ch) (reporting ++ [.fns, .hpt, .sdm, .lpb, .out, .draw, regsOf
    .hpt, regsOf .qen, regsOf .mtr, regsOf .sdm, regsOf .tln])) ∧
  (∀ (by_ : Requester) (ch : Nat) (first : SdmDesc), Writes (.sdmClear by_ ch first) (reporting ++ [.fns, .hpt, .sdm,
    .lpb, .out, .draw, regsOf .hpt, regsOf .qen, regsOf .mtr, regsOf .sdm, regsOf .tln])) ∧
  (∀ (ch : Nat) (r : SdmResult) (next : SdmDesc), Writes (.sdmDescriptorComplete ch r next) (reporting ++ [.fns, .hpt,
    .sdm, .lpb, .out, .draw, regsOf .hpt, regsOf .qen, regsOf .mtr, regsOf .sdm, regsOf .tln])) ∧
  (∀ (ch : Nat), Writes (.sdmPaceResume ch) [.fns, .hpt, .sdm, .lpb, .out, regsOf .hpt, regsOf .qen, regsOf .mtr,
    regsOf .sdm, regsOf .tln]) ∧
  (∀ (offset size : Nat) (write : Bool) (requester : Nat), Writes (.bar4RequestRx offset size write requester)
    (reporting ++ [.fns, .lpb, .out, .draw, regsOf .hpt])) ∧
  (∀ (offset size : Nat) (casFails : Bool), Writes (.localAtomicop offset size casFails) (reporting ++ [.fns, .lpb,
    .out, .draw, regsOf .hpt])) ∧
  (∀ (r : BurstEnd), Writes (.localBurstEnd r) (reporting ++ [.fns, .hpt, .lpb, .out, .draw, regsOf .hpt, regsOf .qen,
    regsOf .lpb])) ∧
  (∀ (win : Nat), Writes (.prefetchExpiry win) [.lpb]) ∧
  (∀ (by_ : Requester), Writes (.lpbWinCommit by_) [.evc, .lpb, regsOf .evc, regsOf .lpb]) ∧
  (Writes .commitDone (reporting ++ [.fns, .lpb, .out, .draw, regsOf .hpt, regsOf .lpb])) ∧
  (Writes .commitDrainTimeout (reporting ++ [.fns, .hpt, .lpb, .out, .draw, regsOf .hpt, regsOf .qen, regsOf .lpb])) ∧
  (Writes .localBusRequest [.lpb, .out, regsOf .lpb]) ∧
  (∀ (addr len : Nat), Writes (.upstreamWrite addr len) (reporting ++ [.fns, .hpt, .lpb, .out, regsOf .hpt, regsOf
    .qen, regsOf .mtr, regsOf .lpb, regsOf .tln])) ∧
  (∀ (addr len : Nat), Writes (.upstreamRead addr len) [.fns, .hpt, .evc, .lpb, .out, regsOf .hpt, regsOf .qen, regsOf
    .mtr, regsOf .evc, regsOf .lpb, regsOf .tln]) ∧
  (∀ (addr : Nat), Writes (.upstreamReadDataArrive addr) [.lpb]) ∧
  (∀ (addr : Nat), Writes (.upstreamReadStale addr) (reporting ++ [.lpb, regsOf .lpb])) ∧
  (∀ (line : Nat), Writes (.lpIrqAssert line) [.fns, .hpt, .evc, .lpb, .out, regsOf .hpt, regsOf .qen, regsOf .mtr,
    regsOf .evc, regsOf .lpb, regsOf .tln]) ∧
  (∀ (core : Nat) (addr : Word) (write : Bool), Writes (.coreLocalAccess core addr write) [.lpb, .out]) ∧
  (∀ (entry : Nat), Writes (.tlnSampleDue entry) [.tln, .out, regsOf .tln]) ∧
  (∀ (entry : Nat) (r : BusResult), Writes (.tlnSampleDone entry r) (reporting ++ [.tln, .out, regsOf .tln])) ∧
  (∀ (rec : Nat), Writes (.tlnRecordEmit rec) (reporting ++ [.fns, .hpt, .lpb, .tln, .out, regsOf .hpt, regsOf .qen,
    regsOf .mtr, regsOf .tln])) ∧
  (∀ (word : Nat), Writes (.larvisRead word) [.out, regsOf .tln]) ∧
  (∀ (v : Word), Writes (.tlnXferGo v) [.evc, .tln, .out, regsOf .evc, regsOf .tln]) ∧
  (∀ (r : BusResult), Writes (.xferDone r) [.evc, regsOf .evc, regsOf .tln]) ∧
  (∀ (eid : Nat), Writes (.setEndpointId eid) [.mi, .out]) ∧
  (Writes .getEndpointId [.out]) ∧
  (Writes .getEndpointUuid [.out]) ∧
  (Writes .getMctpVersionSupport [.out]) ∧
  (Writes .getMessageTypeSupport [.out]) ∧
  (Writes .mctpPacketDrop (reporting ++ [regsOf .lpb])) ∧
  (∀ (type : Nat), Writes (.readNvmeMiDataStructure type) [.out]) ∧
  (Writes .nvmSubsystemHealthStatusPoll [.out]) ∧
  (∀ (cntlid : Nat), Writes (.controllerHealthStatusPoll cntlid) [.out]) ∧
  (∀ (id value : Nat), Writes (.configurationSet id value) [.mi, .out]) ∧
  (∀ (id : Nat), Writes (.configurationGet id) [.out]) ∧
  (∀ (offset len : Nat), Writes (.vpdRead offset len) [.out]) ∧
  (∀ (opcode : Nat), Writes (.miInvalidCommand opcode) [.out]) ∧
  (Writes .vddAoApplied [.aow, .pwr, .log]) ∧
  (∀ (f : StageFacts), Writes (.bootStageEnd f) (reporting ++ [.prx, .cmds, .mch, .rdp, .wrp, .mcr, .nss, .fns, .aens,
    .mlk, .pwr, .sec, .keys, .mtr, .out, .draw, regsOf .prx, regsOf .mch, regsOf .rdp, regsOf .wrp, regsOf .mcr,
    regsOf .tcy, regsOf .mtr, regsOf .sec, regsOf .mlk, regsOf .ddr, regsOf .srm])) ∧
  (Writes .perstAssert (reporting ++ [.prx, .cmds, .rdp, .wrp, .fns, .hpt, .mig, .sdm, .pwr, .sec, .lpb, .out, .draw,
    regsOf .hpt, regsOf .fnm, regsOf .qen, regsOf .rdp, regsOf .wrp, regsOf .mtr, regsOf .sec, regsOf .sdm, regsOf
    .tln])) ∧
  (Writes .perstDeassert [.pwr, .log, .out, regsOf .aow]) ∧
  (∀ (linkDisable : Bool), Writes (.hotReset linkDisable) (reporting ++ [.prx, .cmds, .rdp, .wrp, .fns, .hpt, .mig,
    .sdm, .pwr, .sec, .lpb, .out, .draw, regsOf .hpt, regsOf .fnm, regsOf .qen, regsOf .rdp, regsOf .wrp, regsOf
    .mtr, regsOf .sec, regsOf .sdm, regsOf .tln])) ∧
  (∀ (by_ : Requester), Writes (.pwrResetDevice by_) (reporting ++ [.prx, .cmds, .rdp, .wrp, .fns, .hpt, .mig, .sdm,
    .pwr, .sec, .lpb, .out, .draw, regsOf .hpt, regsOf .fnm, regsOf .qen, regsOf .rdp, regsOf .wrp, regsOf .mtr,
    regsOf .sec, regsOf .sdm, regsOf .tln])) ∧
  (∀ (corrected : Nat) (uncorrectable : Option (Nat × MemHit)), Writes (.dramPatrolDue corrected uncorrectable)
    (reporting ++ [.rdp, .wrp, .mcr, .fns, .mlk, .pwr, .out, regsOf .hpt, regsOf .rdp, regsOf .mlk, regsOf .ddr])) ∧
  (∀ (corrected : Nat) (uncorrectable : Option (Nat × MemHit)), Writes (.sramScrubDue corrected uncorrectable)
    (reporting ++ [.rdp, .wrp, .mcr, .fns, .mlk, .pwr, .out, regsOf .hpt, regsOf .rdp, regsOf .mlk, regsOf .srm])) ∧
  (Writes .pmeTurnOff (reporting ++ [.pwr])) ∧
  (∀ (rail : Nat), Writes (.railFault rail) reporting) ∧
  (Writes .thermtrip [.pwr, .log, .out]) ∧
  (∀ (v : Word), Writes (.evlogConsWrite v) [regsOf .pwr]) ∧
  (∀ (by_ : Requester) (offset : Nat) (v : RegValue), Writes (.registerWrite by_ offset v) (reporting ++ [.ftb, .prx,
    .tenants, .cmds, .mch, .rdp, .wrp, .mcr, .nss, .fns, .hpt, .mig, .aens, .errs, .sdm, .mlk, .pwr, .sec, .mtr,
    .lpb, .tln, .out, .draw, regsOf .hpt, regsOf .fnm, regsOf .qen, regsOf .ftb, regsOf .prx, regsOf .mch, regsOf
    .rdp, regsOf .wrp, regsOf .mcr, regsOf .mtr, regsOf .sec, regsOf .mlk, regsOf .sdm, regsOf .lpb, regsOf .tln,
    .regs (offset / 0x100000)])) ∧
  (∀ (bit : Nat), Writes (.wakeSourceFires bit) [.fns, .out])

/-- Which registers commands of the timebase, images, media, host and queues change. Each of these 49 commands leaves
every register as it is but the ones named for it and those that a report of an event or error changes: the Event
Controller's and the log's indices, R612 to R614. Rests on 02_frame_timebase.md, 03_prism_image.md,
05_media_attachment.md, 06_read_path.md, 07_write_path.md, 08_media_care.md, 09_host_port.md,
10_functions_and_queues.md, 17_register_index.md. -/
def Obligations.RegisterFramesOfHostSide : Prop :=
  (WritesRegs .frefLost [Reg.ftbEvent, Reg.ftbFrefLossCnt, Reg.ftbStatus]) ∧
  (WritesRegs .frefGood [Reg.ftbEvent, Reg.ftbStatus]) ∧
  (WritesRegs .ppsLost [Reg.ftbEvent, Reg.ftbStatus]) ∧
  (∀ (offNs : Int), WritesRegs (.fsyncEdge offNs) [Reg.ftbEvent, Reg.ftbFsyncOffset, Reg.ftbFsyncSlipCnt,
    Reg.ftbStatus]) ∧
  (WritesRegs .fsyncLost [Reg.ftbStatus]) ∧
  (∀ (hi : Bool) (v : Word), WritesRegs (.todSecWrite hi v) [Reg.ftbEvent, Reg.ftbTodSec, Reg.ftbTodSecHi]) ∧
  (WritesRegs .todArm [Reg.ftbTodCtl]) ∧
  (WritesRegs .dpllDisable [Reg.ftbCtl, Reg.ftbEvent, Reg.ftbFreqAdj, Reg.ftbStatus]) ∧
  (WritesRegs .frameCounterRead [Reg.ftbCell, Reg.ftbFrameHi]) ∧
  (∀ (frame : Nat), WritesRegs (.skewClearProposalRx frame) []) ∧
  (∀ (by_ : Requester), WritesRegs (.prxDiscard by_) [Reg.prxStagedId, Reg.prxStatus]) ∧
  (WritesRegs .switchCommit []) ∧
  (∀ (c : CmdId) (k : StageKind) (lane units : Nat), WritesRegs (.stageAdmit c k lane units) []) ∧
  (WritesRegs .driftClear [Reg.prxStatus]) ∧
  (∀ (by_ : Requester) (v : Word), WritesRegs (.prxTokenTrim by_ v) []) ∧
  (∀ (ch target : Nat), WritesRegs (.rbNRise ch target) []) ∧
  (∀ (lane : Nat) (ready : Bool), WritesRegs (.statusPoll lane ready) []) ∧
  (WritesRegs .dumpDone [Reg.wrpDumpStatus, Reg.wrpStatus]) ∧
  (WritesRegs .gcFactorReview [Reg.mcrGcFactor]) ∧
  (∀ (lane : Nat), WritesRegs (.scrubLate lane) [Reg.mcrEvent, Reg.mcrStatus]) ∧
  (∀ (lane group : Nat) (best : List Int), WritesRegs (.calibrationDue lane group best) [Reg.mcrCalCnt,
    Reg.rdpMediaReadCnt]) ∧
  (∀ (slowPpm : Nat), WritesRegs (.lifeForecast slowPpm) [Reg.mcrEvent]) ∧
  (∀ (speed width : Nat) (flit laneRev : Bool), WritesRegs (.hostLinkUp speed width flit laneRev)
    [Reg.hptContainStatus, Reg.hptEvent, Reg.hptStatus]) ∧
  (WritesRegs .hostFlitCrcFail [Reg.hptAerLost, Reg.hptBadTlpCnt, Reg.hptEvent]) ∧
  (∀ (l1ss : Nat), WritesRegs (.aspmL1Entry l1ss) [Reg.hptStatus]) ∧
  (WritesRegs .aspmL1Exit [Reg.hptStatus]) ∧
  (∀ (width : Nat), WritesRegs (.l0pHostRequest width) [Reg.hptEvent, Reg.hptStatus]) ∧
  (WritesRegs .l0pReduceRequest []) ∧
  (∀ (fn base : Nat) (r : InvalRange), WritesRegs (.invalidateRequestRx fn base r) [Reg.hptStatus]) ∧
  (∀ (fn : Nat), WritesRegs (.invalidateCompletionSend fn) [Reg.hptAtsInvCnt, Reg.hptStatus]) ∧
  (∀ (vendor : Nat) (o : DoeObject) (len : Nat), WritesRegs (.doeRequestRx vendor o len) [Reg.hiuMaskedCnt,
    Reg.hiuMsgCnt, Reg.hptStatus]) ∧
  (WritesRegs .doeAbort []) ∧
  (∀ (tag : Nat), WritesRegs (.tagQuarantineEnd tag) [Reg.hptNpOut, Reg.hptTagQuar]) ∧
  (WritesRegs .sppAttnAck [Reg.sppStatus]) ∧
  (WritesRegs .fallbackDestageDone [Reg.sppEvent, Reg.sppStatus, Reg.wrpEvent, Reg.wrpStatus]) ∧
  (∀ (fn qid : Nat), WritesRegs (.sqDeleteDrained fn qid) [Reg.qenStatus]) ∧
  (∀ (fn : Nat), WritesRegs (.ccEnSet fn) [Reg.hptAerLost, Reg.hptEvent, Reg.hptUrCnt]) ∧
  (∀ (vf : Nat), WritesRegs (.vfFlrDone vf) [Reg.fnmEvent, Reg.fnmFlrCnt]) ∧
  (WritesRegs .quiesce [Reg.fnmEvent]) ∧
  (∀ (vf : Nat), WritesRegs (.quiesced vf) [Reg.fnmEvent, Reg.fnmQuiesceCnt]) ∧
  (WritesRegs .freeze [Reg.fnmEvent]) ∧
  (∀ (vf : Nat), WritesRegs (.frozen vf) [Reg.fnmEvent]) ∧
  (∀ (fn : Nat), WritesRegs (.holdoffTimerExpiry fn) [Reg.hiuMaskedCnt, Reg.hiuMsgCnt, Reg.hptStatus]) ∧
  (∀ (fn : Nat) (vec : Option Nat), WritesRegs (.msixUnmask fn vec) [Reg.hiuMaskedCnt, Reg.hiuMsgCnt, Reg.hptStatus]) ∧
  (WritesRegs .pmeToAck [Reg.sppEvent, Reg.sppStatus, Reg.wrpEvent, Reg.wrpStatus]) ∧
  (WritesRegs .mainRailsRemoved [Reg.aowQuietCnt, Reg.aowStatus, Reg.sppStatus]) ∧
  (∀ (speed width : Nat), WritesRegs (.hostLinkRecovery speed width) [Reg.hptEvent, Reg.hptRecoveryCnt, Reg.hptStatus]) ∧
  (WritesRegs .pfFlrDone [Reg.fnmEvent, Reg.fnmPfFlrCnt, Reg.fnmStatus]) ∧
  (∀ (fn : Nat), WritesRegs (.controllerResetDone fn) [])

/-- Which registers commands of security, the pair, control, the Local Port, telemetry and power change. Each of these 56
commands leaves every register as it is but the ones named for it and those that a report of an event or error
changes: the Event Controller's and the log's indices, R612 to R614. Rests on 11_security_and_metering.md,
12_mirror_link.md, 13_control_complex.md, 14_local_port_and_telemetry.md, 15_startup_and_power.md,
17_register_index.md. -/
def Obligations.RegisterFramesOfControlSide : Prop :=
  (∀ (img : Option SlotImage) (desc : Option (List Byte)), WritesRegs (.uartImageRx img desc) []) ∧
  (WritesRegs .authFail [Reg.secAuthFailCnt, Reg.secEvent]) ∧
  (∀ (session : Nat), WritesRegs (.sessionTimeout session) [Reg.secEvent, Reg.secStatus]) ∧
  (∀ (v : Word), WritesRegs (.mtrArchConsWrite v) [Reg.mtrArchConsHi]) ∧
  (WritesRegs .ackTimer []) ∧
  (WritesRegs .creditReport []) ∧
  (WritesRegs .speedRetrain [Reg.mlkRetrainCnt]) ∧
  (WritesRegs .linkReset [Reg.mlkResetCnt, Reg.pwrDomainSeen]) ∧
  (WritesRegs .partnerHostLost [Reg.mlkEvent]) ∧
  (WritesRegs .partnerHostRestored [Reg.mlkEvent]) ∧
  (WritesRegs .goingDownRx []) ∧
  (∀ (by_ : Requester), WritesRegs (.blobDiscard by_) []) ∧
  (∀ (by_ : Requester) (src : Nat), WritesRegs (.evcRing by_ src) []) ∧
  (∀ (by_ : Requester) (src : Nat), WritesRegs (.evcUnpend by_ src) []) ∧
  (∀ (by_ : Requester) (core src : Nat), WritesRegs (.evcComplete by_ core src) []) ∧
  (∀ (by_ : Requester) (core : Nat), WritesRegs (.evcStackReset by_ core) []) ∧
  (∀ (by_ : Requester) (v : Word), WritesRegs (.evcGdisWrite by_ v) []) ∧
  (∀ (src : Nat) (high : Bool), WritesRegs (.levelSourceChange src high) [Reg.sppStatus]) ∧
  (∀ (g : Nat), WritesRegs (.holdoffGroupExpiry g) []) ∧
  (∀ (by_ : Requester) (core : Nat) (v : Word), WritesRegs (.watchdogRestart by_ core v) []) ∧
  (∀ (core : Nat), WritesRegs (.watchdogExpiry core) []) ∧
  (∀ (core : Nat), WritesRegs (.watchdogCoreReset core) [Reg.pwrDomainSeen]) ∧
  (∀ (core : Nat) (addr : BitVec 38) (write : Bool), WritesRegs (.coreAccessFault core addr write) []) ∧
  (∀ (core : Nat), WritesRegs (.coreEccFault core) [Reg.srmErrAddr, Reg.srmEvent, Reg.srmUeCnt]) ∧
  (∀ (wakeBits pinBits : Word), WritesRegs (.watchWake wakeBits pinBits) [Reg.aowPinCause, Reg.aowStatus,
    Reg.aowWakeCause]) ∧
  (WritesRegs .aowAlarmExpiry [Reg.aowStatus, Reg.aowWakeCause]) ∧
  (∀ (pin : PinIdx), WritesRegs (.watchPinEvent pin) [Reg.aowEvent]) ∧
  (∀ (offset size : Nat) (write : Bool) (requester : Nat), WritesRegs (.bar4RequestRx offset size write requester)
    [Reg.hptAerLost, Reg.hptEvent, Reg.hptUrCnt]) ∧
  (∀ (offset size : Nat) (casFails : Bool), WritesRegs (.localAtomicop offset size casFails) [Reg.hptAerLost,
    Reg.hptEvent, Reg.hptUrCnt]) ∧
  (∀ (win : Nat), WritesRegs (.prefetchExpiry win) []) ∧
  (∀ (by_ : Requester), WritesRegs (.lpbWinCommit by_) [Reg.lpbCommitStatus, Reg.lpbEvent]) ∧
  (WritesRegs .localBusRequest [Reg.lpbArbRetryCnt]) ∧
  (∀ (addr : Nat), WritesRegs (.upstreamReadDataArrive addr) []) ∧
  (∀ (addr : Nat), WritesRegs (.upstreamReadStale addr) [Reg.lpbUpStaleCnt]) ∧
  (∀ (core : Nat) (addr : Word) (write : Bool), WritesRegs (.coreLocalAccess core addr write) []) ∧
  (∀ (entry : Nat), WritesRegs (.tlnSampleDue entry) [Reg.tlnSkipCnt]) ∧
  (∀ (v : Word), WritesRegs (.tlnXferGo v) [Reg.tlnEvent, Reg.tlnStatus, Reg.tlnXferCtl, Reg.tlnXferStatus]) ∧
  (∀ (eid : Nat), WritesRegs (.setEndpointId eid) []) ∧
  (WritesRegs .getEndpointId []) ∧
  (WritesRegs .getEndpointUuid []) ∧
  (WritesRegs .getMctpVersionSupport []) ∧
  (WritesRegs .getMessageTypeSupport []) ∧
  (WritesRegs .mctpPacketDrop [Reg.lpbMiDropCnt]) ∧
  (∀ (type : Nat), WritesRegs (.readNvmeMiDataStructure type) []) ∧
  (WritesRegs .nvmSubsystemHealthStatusPoll []) ∧
  (∀ (cntlid : Nat), WritesRegs (.controllerHealthStatusPoll cntlid) []) ∧
  (∀ (id value : Nat), WritesRegs (.configurationSet id value) []) ∧
  (∀ (id : Nat), WritesRegs (.configurationGet id) []) ∧
  (∀ (offset len : Nat), WritesRegs (.vpdRead offset len) []) ∧
  (∀ (opcode : Nat), WritesRegs (.miInvalidCommand opcode) []) ∧
  (WritesRegs .perstDeassert [Reg.aowStatus]) ∧
  (WritesRegs .pmeTurnOff []) ∧
  (∀ (rail : Nat), WritesRegs (.railFault rail) [Reg.pwrRailStatus]) ∧
  (WritesRegs .thermtrip []) ∧
  (∀ (v : Word), WritesRegs (.evlogConsWrite v) []) ∧
  (∀ (bit : Nat), WritesRegs (.wakeSourceFires bit) [])
end

