-- ==== Sys2Proof/Laws/Tab.lean ====
section
/-! SUPPORT. Laws of the sparse tables: a read after a write, and that every table operation keeps the canonical form. -/
namespace Sys2Proof.Machine

variable {α : Type} {d : Nat → α}

theorem lookupKey_eraseKey_same (k : Nat) (l : List (Nat × α)) : lookupKey k (eraseKey k l) = none := by
  induction l with
  | nil => rfl
  | cons e rest ih =>
    obtain ⟨k', v⟩ := e
    by_cases h : k' = k <;> simp [eraseKey, lookupKey, h, ih]

theorem lookupKey_eraseKey_ne {j k : Nat} (h : j ≠ k) (l : List (Nat × α)) :
    lookupKey j (eraseKey k l) = lookupKey j l := by
  induction l with
  | nil => rfl
  | cons e rest ih =>
    obtain ⟨k', v⟩ := e
    by_cases hk : k' = k
    · subst hk; simp [eraseKey, lookupKey, ih, Ne.symm h]
    · simp only [eraseKey, if_neg hk, lookupKey, ih]

theorem lookupKey_insertKey_ne {j k : Nat} (h : j ≠ k) (v : α) (l : List (Nat × α)) :
    lookupKey j (insertKey k v l) = lookupKey j l := by
  induction l with
  | nil => simp [insertKey, lookupKey, Ne.symm h]
  | cons e rest ih =>
    obtain ⟨k', w⟩ := e
    by_cases hk : k < k'
    · simp [insertKey, hk, lookupKey, Ne.symm h]
    · simp only [insertKey, if_neg hk, lookupKey, ih]

/-- A key inserted where none stood is found. -/
theorem lookupKey_insertKey_same (k : Nat) (v : α) (l : List (Nat × α)) (h : ∀ w, (k, w) ∉ l) :
    lookupKey k (insertKey k v l) = some v := by
  induction l with
  | nil => simp [insertKey, lookupKey]
  | cons e rest ih =>
    obtain ⟨k', w⟩ := e
    have hne : k' ≠ k := fun e => h w (by simp [e])
    by_cases hk : k < k'
    · simp [insertKey, hk, lookupKey]
    · simp only [insertKey, hk, if_false, lookupKey, hne]
      exact ih fun w' hw => h w' (by simp [hw])

theorem not_mem_eraseKey (k : Nat) (l : List (Nat × α)) (w : α) : (k, w) ∉ eraseKey k l := by
  induction l with
  | nil => simp [eraseKey]
  | cons e rest ih =>
    obtain ⟨k', v⟩ := e
    by_cases h : k' = k
    · simp [eraseKey, h, ih]
    · simp [eraseKey, h, ih, Ne.symm h]

variable [DecidableEq α]

/-- A read after a write to the same number gives the value written. -/
@[simp] theorem Tab.get_set_same (t : Tab α d) (k : Nat) (v : α) : (t.set k v).get k = v := by
  unfold Tab.set Tab.get
  split
  · next h => simp [lookupKey_eraseKey_same, h]
  · simp [lookupKey_insertKey_same _ _ _ (not_mem_eraseKey k t.entries)]

/-- A write leaves every other number alone. -/
theorem Tab.get_set_ne (t : Tab α d) {j k : Nat} (h : j ≠ k) (v : α) : (t.set k v).get j = t.get j := by
  unfold Tab.set Tab.get
  split
  · simp [lookupKey_eraseKey_ne h]
  · simp [lookupKey_insertKey_ne h, lookupKey_eraseKey_ne h]

theorem Tab.get_set (t : Tab α d) (j k : Nat) (v : α) : (t.set k v).get j = if k = j then v else t.get j := by
  by_cases h : k = j
  · subst h; simp
  · simp [h, Tab.get_set_ne t (Ne.symm h)]

theorem Tab.get_modify (t : Tab α d) (j k : Nat) (f : α → α) :
    (t.modify k f).get j = if k = j then f (t.get k) else t.get j := by
  unfold Tab.modify; exact Tab.get_set ..

omit [DecidableEq α] in
@[simp] theorem Tab.get_empty (k : Nat) : (({} : Tab α d).get k) = d k := rfl

/-! ## The canonical form -/

omit [DecidableEq α] in
theorem risingKeys_cons {e : Nat × α} {l : List (Nat × α)} :
    risingKeys (e :: l) = true ↔ (∀ p ∈ l, e.1 < p.1) ∧ risingKeys l = true := by
  induction l generalizing e with
  | nil => simp [risingKeys]
  | cons a rest ih =>
    obtain ⟨k, v⟩ := e
    obtain ⟨k', v'⟩ := a
    simp only [risingKeys, Bool.and_eq_true, decide_eq_true_eq, List.mem_cons, forall_eq_or_imp]
    constructor
    · rintro ⟨h, hr⟩
      exact ⟨⟨h, fun p hp => Nat.lt_trans h ((ih.mp hr).1 p hp)⟩, hr⟩
    · rintro ⟨⟨h, _⟩, hr⟩
      exact ⟨h, hr⟩

omit [DecidableEq α] in
theorem mem_eraseKey {k : Nat} {l : List (Nat × α)} {p : Nat × α} (h : p ∈ eraseKey k l) : p ∈ l ∧ p.1 ≠ k := by
  induction l with
  | nil => simp [eraseKey] at h
  | cons e rest ih =>
    obtain ⟨k', v⟩ := e
    by_cases hk : k' = k
    · simp only [eraseKey, hk, if_true] at h
      exact ⟨List.mem_cons_of_mem _ (ih h).1, (ih h).2⟩
    · simp only [eraseKey, hk, if_false, List.mem_cons] at h
      rcases h with rfl | h
      · exact ⟨by simp, hk⟩
      · exact ⟨List.mem_cons_of_mem _ (ih h).1, (ih h).2⟩

omit [DecidableEq α] in
theorem mem_insertKey {k : Nat} {v : α} {l : List (Nat × α)} {p : Nat × α} (h : p ∈ insertKey k v l) :
    p = (k, v) ∨ p ∈ l := by
  induction l with
  | nil => simpa [insertKey] using h
  | cons e rest ih =>
    obtain ⟨k', w⟩ := e
    by_cases hk : k < k'
    · simpa [insertKey, hk] using h
    · simp only [insertKey, hk, if_false, List.mem_cons] at h
      rcases h with rfl | h
      · simp
      · rcases ih h with h | h <;> simp [h]

omit [DecidableEq α] in
theorem rising_eraseKey {k : Nat} {l : List (Nat × α)} (h : risingKeys l = true) : risingKeys (eraseKey k l) = true := by
  induction l with
  | nil => rfl
  | cons e rest ih =>
    obtain ⟨k', v⟩ := e
    rw [risingKeys_cons] at h
    by_cases hk : k' = k
    · simpa [eraseKey, hk] using ih h.2
    · simp only [eraseKey, hk, if_false, risingKeys_cons]
      exact ⟨fun p hp => h.1 p (mem_eraseKey hp).1, ih h.2⟩

omit [DecidableEq α] in
theorem rising_insertKey {k : Nat} {v : α} {l : List (Nat × α)} (h : risingKeys l = true) (hk : ∀ p ∈ l, p.1 ≠ k) :
    risingKeys (insertKey k v l) = true := by
  induction l with
  | nil => rfl
  | cons e rest ih =>
    obtain ⟨k', w⟩ := e
    have hne : k' ≠ k := hk (k', w) (by simp)
    have h' := risingKeys_cons.mp h
    by_cases hlt : k < k'
    · simp only [insertKey, hlt, if_true]
      rw [risingKeys_cons]
      refine ⟨fun p hp => ?_, h⟩
      rcases List.mem_cons.mp hp with rfl | hp
      · exact hlt
      · exact Nat.lt_trans hlt (h'.1 p hp)
    · simp only [insertKey, hlt, if_false, risingKeys_cons]
      refine ⟨fun p hp => ?_, ih h'.2 fun p hp => hk p (by simp [hp])⟩
      rcases mem_insertKey hp with rfl | hp
      · show k' < k; omega
      · exact h'.1 p hp

/-- Every write keeps the canonical form. -/
theorem Tab.wf_set (t : Tab α d) (k : Nat) (v : α) (h : t.wf = true) : (t.set k v).wf = true := by
  simp only [Tab.wf, Bool.and_eq_true, List.all_eq_true, decide_eq_true_eq] at h ⊢
  unfold Tab.set
  split
  · exact ⟨rising_eraseKey h.1, fun p hp => h.2 p (mem_eraseKey hp).1⟩
  · next hv =>
    refine ⟨rising_insertKey (rising_eraseKey h.1) fun p hp => (mem_eraseKey hp).2, fun p hp => ?_⟩
    rcases mem_insertKey hp with rfl | hp
    · exact hv
    · exact h.2 p (mem_eraseKey hp).1

theorem Tab.wf_modify (t : Tab α d) (k : Nat) (f : α → α) (h : t.wf = true) : (t.modify k f).wf = true :=
  Tab.wf_set _ _ _ h

theorem Tab.wf_mapListed (t : Tab α d) (f : Nat → α → α) (h : t.wf = true) : (t.mapListed f).wf = true := by
  unfold Tab.mapListed
  generalize t.entries = l
  induction l generalizing t with
  | nil => exact h
  | cons e rest ih => exact ih _ (Tab.wf_set _ _ _ h)

theorem Tab.wf_modifyBelow (t : Tab α d) (n : Nat) (f : Nat → α → α) (h : t.wf = true) :
    (t.modifyBelow n f).wf = true := by
  unfold Tab.modifyBelow
  generalize List.range n = l
  induction l generalizing t with
  | nil => exact h
  | cons e rest ih => exact ih _ (Tab.wf_set _ _ _ h)

@[simp] theorem Tab.wf_empty : (({} : Tab α d).wf) = true := rfl

end Sys2Proof.Machine
end

