-- ==== Sys2Proof/Laws/Without.lean ====
section
/-! SUPPORT. `State.without` under record updates, choices and loops: the base of the laws of Laws/Keep*.lean, which say of
every operation which parts of the state it may change. -/
namespace Sys2Proof.Machine

/-! ## Loops and choices -/

theorem without_foldl {α : Type} {W : List Part} {f : State → α → State}
    (h : ∀ s a, (f s a).without W = s.without W) (l : List α) (s : State) : (l.foldl f s).without W = s.without W := by
  induction l generalizing s with
  | nil => rfl
  | cons a l ih => rw [List.foldl_cons, ih, h]

theorem without_of_snd {α : Type} {W : List Part} {p : α × State} {a : α} {t s : State} (e : p = (a, t))
    (h : p.2.without W = s.without W) : t.without W = s.without W := by subst e; exact h

theorem without_of_fst {α : Type} {W : List Part} {p : State × α} {a : α} {t s : State} (e : p = (t, a))
    (h : p.1.without W = s.without W) : t.without W = s.without W := by subst e; exact h

theorem without_ite {W : List Part} (c : Prop) [Decidable c] (a b : State) :
    (if c then a else b).without W = if c then a.without W else b.without W := by
  split <;> rfl

theorem without_if {W : List Part} {c : Prop} [Decidable c] {a b s : State} (ha : a.without W = s.without W)
    (hb : b.without W = s.without W) : (if c then a else b).without W = s.without W := by
  split
  · exact ha
  · exact hb

/-! ## The register table -/

theorem filter_eraseKey {α : Type} {p : Nat → Bool} {k : Nat} (h : p k = false) (l : List (Nat × α)) :
    (eraseKey k l).filter (fun e => p e.1) = l.filter fun e => p e.1 := by
  induction l with
  | nil => rfl
  | cons e rest ih =>
    obtain ⟨k', v⟩ := e
    by_cases hk : k' = k
    · subst hk; simp [eraseKey, ih, h]
    · simp only [eraseKey, if_neg hk, List.filter_cons, ih]

theorem filter_insertKey {α : Type} {p : Nat → Bool} {k : Nat} (h : p k = false) (v : α) (l : List (Nat × α)) :
    (insertKey k v l).filter (fun e => p e.1) = l.filter fun e => p e.1 := by
  induction l with
  | nil => simp [insertKey, h]
  | cons e rest ih =>
    obtain ⟨k', w⟩ := e
    by_cases hk : k < k'
    · simp only [insertKey, if_pos hk, List.filter_cons, h]; rfl
    · simp only [insertKey, if_neg hk, List.filter_cons, ih]

theorem filter_set {α : Type} {d : Nat → α} [DecidableEq α] {p : Nat → Bool} {k : Nat} (h : p k = false) (t : Tab α d)
    (v : α) : (t.set k v).entries.filter (fun e => p e.1) = t.entries.filter fun e => p e.1 := by
  unfold Tab.set
  split
  · exact filter_eraseKey h _
  · rw [filter_insertKey h, filter_eraseKey h]

/-- Storing a register changes only its block's registers. -/
theorem State.setReg_without {W : List Part} (s : State) (a : Nat) (v : Word) (h : Part.regs (a / 0x100000) ∈ W) :
    (s.setReg a v).without W = s.without W := by
  have := filter_set (p := fun k => decide (Part.regs (k / 0x100000) ∉ W)) (k := a) (by simp [h]) s.regs v
  simp only [State.setReg, State.without, this]

/-! ## Record updates -/

theorem without_pending {W : List Part} (s : State) (x0 : List Instr) (h0 : Part.pending ∈ W) :
    State.without W { s with pending := x0 } = s.without W := by
  simp only [State.without, h0, if_true]

theorem without_ftb {W : List Part} (s : State) (x0 : Ftb) (h0 : Part.ftb ∈ W) (e00 : x0.frame = s.ftb.frame)
    (e01 : x0.tick = s.ftb.tick) (e02 : x0.clock = s.ftb.clock) :
    State.without W { s with ftb := x0 } = s.without W := by
  simp only [State.without, h0, e00, e01, e02, if_true]

theorem without_prx {W : List Part} (s : State) (x0 : Prx) (h0 : Part.prx ∈ W) :
    State.without W { s with prx := x0 } = s.without W := by
  simp only [State.without, h0, if_true]

theorem without_tenants {W : List Part} (s : State) (x0 : Tenants) (h0 : Part.tenants ∈ W) :
    State.without W { s with tenants := x0 } = s.without W := by
  simp only [State.without, h0, if_true]

theorem without_cmds {W : List Part} (s : State) (x0 : List Cmd) (h0 : Part.cmds ∈ W) :
    State.without W { s with cmds := x0 } = s.without W := by
  simp only [State.without, h0, if_true]

theorem without_mch {W : List Part} (s : State) (x0 : Mch) (h0 : Part.mch ∈ W) :
    State.without W { s with mch := x0 } = s.without W := by
  simp only [State.without, h0, if_true]

theorem without_rdp {W : List Part} (s : State) (x0 : Rdp) (h0 : Part.rdp ∈ W) :
    State.without W { s with rdp := x0 } = s.without W := by
  simp only [State.without, h0, if_true]

theorem without_wrp {W : List Part} (s : State) (x0 : Wrp) (h0 : Part.wrp ∈ W) :
    State.without W { s with wrp := x0 } = s.without W := by
  simp only [State.without, h0, if_true]

theorem without_mcr {W : List Part} (s : State) (x0 : Mcr) (h0 : Part.mcr ∈ W) :
    State.without W { s with mcr := x0 } = s.without W := by
  simp only [State.without, h0, if_true]

theorem without_nss {W : List Part} (s : State) (x0 : Nss) (h0 : Part.nss ∈ W) :
    State.without W { s with nss := x0 } = s.without W := by
  simp only [State.without, h0, if_true]

theorem without_fns {W : List Part} (s : State) (x0 : Fns) (h0 : Part.fns ∈ W) :
    State.without W { s with fns := x0 } = s.without W := by
  simp only [State.without, h0, if_true]

theorem without_hpt {W : List Part} (s : State) (x0 : Hpt) (h0 : Part.hpt ∈ W) :
    State.without W { s with hpt := x0 } = s.without W := by
  simp only [State.without, h0, if_true]

theorem without_mig {W : List Part} (s : State) (x0 : Option Mig) (h0 : Part.mig ∈ W) :
    State.without W { s with mig := x0 } = s.without W := by
  simp only [State.without, h0, if_true]

theorem without_aens {W : List Part} (s : State) (x0 : List (Nat × Nat × Nat × Nat)) (h0 : Part.aens ∈ W) :
    State.without W { s with aens := x0 } = s.without W := by
  simp only [State.without, h0, if_true]

theorem without_errs {W : List Part} (s : State) (x0 : List ErrEntry) (h0 : Part.errs ∈ W) :
    State.without W { s with errs := x0 } = s.without W := by
  simp only [State.without, h0, if_true]

theorem without_evc {W : List Part} (s : State) (x0 : Evc) (h0 : Part.evc ∈ W) :
    State.without W { s with evc := x0 } = s.without W := by
  simp only [State.without, h0, if_true]

theorem without_aow {W : List Part} (s : State) (x0 : Aow) (h0 : Part.aow ∈ W) :
    State.without W { s with aow := x0 } = s.without W := by
  simp only [State.without, h0, if_true]

theorem without_sdm {W : List Part} (s : State) (x0 : Sdm) (h0 : Part.sdm ∈ W) :
    State.without W { s with sdm := x0 } = s.without W := by
  simp only [State.without, h0, if_true]

theorem without_mlk {W : List Part} (s : State) (x0 : Mlk) (h0 : Part.mlk ∈ W) :
    State.without W { s with mlk := x0 } = s.without W := by
  simp only [State.without, h0, if_true]

theorem without_pwr {W : List Part} (s : State) (x0 : Pwr) (h0 : Part.pwr ∈ W) (hl : Part.log ∈ W) :
    State.without W { s with pwr := x0 } = s.without W := by
  simp only [State.without, h0, hl, if_true]

theorem without_sec {W : List Part} (s : State) (x0 : Sec) (h0 : Part.sec ∈ W) (e00 : x0.rollback = s.sec.rollback) :
    State.without W { s with sec := x0 } = s.without W := by
  simp only [State.without, h0, e00, if_true]

theorem without_keys {W : List Part} (s : State) (x0 : KeySlots) (h0 : Part.keys ∈ W) :
    State.without W { s with keys := x0 } = s.without W := by
  simp only [State.without, h0, if_true]

theorem without_mtr {W : List Part} (s : State) (x0 : Mtr) (h0 : Part.mtr ∈ W) :
    State.without W { s with mtr := x0 } = s.without W := by
  simp only [State.without, h0, if_true]

theorem without_lpb {W : List Part} (s : State) (x0 : Lpb) (h0 : Part.lpb ∈ W) :
    State.without W { s with lpb := x0 } = s.without W := by
  simp only [State.without, h0, if_true]

theorem without_tln {W : List Part} (s : State) (x0 : Tln) (h0 : Part.tln ∈ W) :
    State.without W { s with tln := x0 } = s.without W := by
  simp only [State.without, h0, if_true]

theorem without_mi {W : List Part} (s : State) (x0 : Mi) (h0 : Part.mi ∈ W) :
    State.without W { s with mi := x0 } = s.without W := by
  simp only [State.without, h0, if_true]

theorem without_out {W : List Part} (s : State) (x0 : List Out) (h0 : Part.out ∈ W) :
    State.without W { s with out := x0 } = s.without W := by
  simp only [State.without, h0, if_true]

theorem without_draw {W : List Part} (s : State) (x0 : Nat) (h0 : Part.draw ∈ W) :
    State.without W { s with draw := x0 } = s.without W := by
  simp only [State.without, h0, if_true]

theorem without_ftb_time {W : List Part} (s : State) (x0 : Ftb) (h0 : Part.ftb ∈ W) (h_time : Part.time ∈ W) :
    State.without W { s with ftb := x0 } = s.without W := by
  simp only [State.without, h0, h_time, if_true]

theorem without_sec_fuses {W : List Part} (s : State) (x0 : Sec) (h0 : Part.sec ∈ W) (h_fuses : Part.fuses ∈ W) :
    State.without W { s with sec := x0 } = s.without W := by
  simp only [State.without, h0, h_fuses, if_true]

theorem without_cmds_rdp {W : List Part} (s : State) (x0 : List Cmd) (x1 : Rdp) (h0 : Part.cmds ∈ W)
    (h1 : Part.rdp ∈ W) :
    State.without W { s with cmds := x0, rdp := x1 } = s.without W := by
  simp only [State.without, h0, h1, if_true]

theorem without_fns_hpt {W : List Part} (s : State) (x0 : Fns) (x1 : Hpt) (h0 : Part.fns ∈ W) (h1 : Part.hpt ∈ W) :
    State.without W { s with fns := x0, hpt := x1 } = s.without W := by
  simp only [State.without, h0, h1, if_true]

theorem without_hpt_lpb {W : List Part} (s : State) (x0 : Hpt) (x1 : Lpb) (h0 : Part.hpt ∈ W) (h1 : Part.lpb ∈ W) :
    State.without W { s with hpt := x0, lpb := x1 } = s.without W := by
  simp only [State.without, h0, h1, if_true]

theorem without_mch_sec {W : List Part} (s : State) (x0 : Mch) (x1 : Sec) (h0 : Part.mch ∈ W) (h1 : Part.sec ∈ W)
    (e10 : x1.rollback = s.sec.rollback) :
    State.without W { s with mch := x0, sec := x1 } = s.without W := by
  simp only [State.without, h0, h1, e10, if_true]

theorem without_nss_keys {W : List Part} (s : State) (x0 : Nss) (x1 : KeySlots) (h0 : Part.nss ∈ W)
    (h1 : Part.keys ∈ W) :
    State.without W { s with nss := x0, keys := x1 } = s.without W := by
  simp only [State.without, h0, h1, if_true]

theorem without_nss_mlk {W : List Part} (s : State) (x0 : Nss) (x1 : Mlk) (h0 : Part.nss ∈ W) (h1 : Part.mlk ∈ W) :
    State.without W { s with nss := x0, mlk := x1 } = s.without W := by
  simp only [State.without, h0, h1, if_true]

theorem without_prx_mch {W : List Part} (s : State) (x0 : Prx) (x1 : Mch) (h0 : Part.prx ∈ W) (h1 : Part.mch ∈ W) :
    State.without W { s with prx := x0, mch := x1 } = s.without W := by
  simp only [State.without, h0, h1, if_true]

theorem without_prx_mcr {W : List Part} (s : State) (x0 : Prx) (x1 : Mcr) (h0 : Part.prx ∈ W) (h1 : Part.mcr ∈ W) :
    State.without W { s with prx := x0, mcr := x1 } = s.without W := by
  simp only [State.without, h0, h1, if_true]

theorem without_tenants_errs {W : List Part} (s : State) (x0 : Tenants) (x1 : List ErrEntry) (h0 : Part.tenants ∈ W)
    (h1 : Part.errs ∈ W) :
    State.without W { s with tenants := x0, errs := x1 } = s.without W := by
  simp only [State.without, h0, h1, if_true]

theorem without_wrp_mtr {W : List Part} (s : State) (x0 : Wrp) (x1 : Mtr) (h0 : Part.wrp ∈ W) (h1 : Part.mtr ∈ W) :
    State.without W { s with wrp := x0, mtr := x1 } = s.without W := by
  simp only [State.without, h0, h1, if_true]

theorem without_sec_keys_mtr {W : List Part} (s : State) (x0 : Sec) (x1 : KeySlots) (x2 : Mtr) (h0 : Part.sec ∈ W)
    (h1 : Part.keys ∈ W) (h2 : Part.mtr ∈ W) (e00 : x0.rollback = s.sec.rollback) :
    State.without W { s with sec := x0, keys := x1, mtr := x2 } = s.without W := by
  simp only [State.without, h0, h1, h2, e00, if_true]

theorem without_wrp_mcr_sec_mtr {W : List Part} (s : State) (x0 : Wrp) (x1 : Mcr) (x2 : Sec) (x3 : Mtr)
    (h0 : Part.wrp ∈ W) (h1 : Part.mcr ∈ W) (h2 : Part.sec ∈ W) (h3 : Part.mtr ∈ W)
    (e20 : x2.rollback = s.sec.rollback) :
    State.without W { s with wrp := x0, mcr := x1, sec := x2, mtr := x3 } = s.without W := by
  simp only [State.without, h0, h1, h2, h3, e20, if_true]

theorem without_cmds_hpt {W : List Part} (s : State) (x0 : List Cmd) (x1 : Hpt) (h0 : Part.cmds ∈ W)
    (h1 : Part.hpt ∈ W) :
    State.without W { s with cmds := x0, hpt := x1 } = s.without W := by
  simp only [State.without, h0, h1, if_true]

theorem without_prx_mlk {W : List Part} (s : State) (x0 : Prx) (x1 : Mlk) (h0 : Part.prx ∈ W) (h1 : Part.mlk ∈ W) :
    State.without W { s with prx := x0, mlk := x1 } = s.without W := by
  simp only [State.without, h0, h1, if_true]

theorem without_mcr_sec {W : List Part} (s : State) (x0 : Mcr) (x1 : Sec) (h0 : Part.mcr ∈ W) (h1 : Part.sec ∈ W)
    (e10 : x1.rollback = s.sec.rollback) :
    State.without W { s with mcr := x0, sec := x1 } = s.without W := by
  simp only [State.without, h0, h1, e10, if_true]

theorem without_tenants_cmds_aens_errs_mtr {W : List Part} (s : State) (x0 : Tenants) (x1 : List Cmd) (x2 : List
    (Nat × Nat × Nat × Nat)) (x3 : List ErrEntry) (x4 : Mtr) (h0 : Part.tenants ∈ W) (h1 : Part.cmds ∈ W)
    (h2 : Part.aens ∈ W) (h3 : Part.errs ∈ W) (h4 : Part.mtr ∈ W) :
    State.without W { s with tenants := x0, cmds := x1, aens := x2, errs := x3, mtr := x4 } = s.without W := by
  simp only [State.without, h0, h1, h2, h3, h4, if_true]

theorem without_mch_wrp_mcr_hpt_tln {W : List Part} (s : State) (x0 : Mch) (x1 : Wrp) (x2 : Mcr) (x3 : Hpt)
    (x4 : Tln) (h0 : Part.mch ∈ W) (h1 : Part.wrp ∈ W) (h2 : Part.mcr ∈ W) (h3 : Part.hpt ∈ W) (h4 : Part.tln ∈ W) :
    State.without W { s with mch := x0, wrp := x1, mcr := x2, hpt := x3, tln := x4 } = s.without W := by
  simp only [State.without, h0, h1, h2, h3, h4, if_true]

theorem without_aow_pwr {W : List Part} (s : State) (x0 : Aow) (x1 : Pwr) (h0 : Part.aow ∈ W) (h1 : Part.pwr ∈ W)
    (hl : Part.log ∈ W) :
    State.without W { s with aow := x0, pwr := x1 } = s.without W := by
  simp only [State.without, h0, h1, hl, if_true]

theorem without_pwr_mtr {W : List Part} (s : State) (x0 : Pwr) (x1 : Mtr) (h0 : Part.pwr ∈ W) (h1 : Part.mtr ∈ W)
    (hl : Part.log ∈ W) :
    State.without W { s with pwr := x0, mtr := x1 } = s.without W := by
  simp only [State.without, h0, h1, hl, if_true]

theorem without_wrp_pwr_mtr {W : List Part} (s : State) (x0 : Wrp) (x1 : Pwr) (x2 : Mtr) (h0 : Part.wrp ∈ W)
    (h1 : Part.pwr ∈ W) (h2 : Part.mtr ∈ W) (hl : Part.log ∈ W) :
    State.without W { s with wrp := x0, pwr := x1, mtr := x2 } = s.without W := by
  simp only [State.without, h0, h1, h2, hl, if_true]

theorem without_cmds_rdp_wrp_pwr {W : List Part} (s : State) (x0 : List Cmd) (x1 : Rdp) (x2 : Wrp) (x3 : Pwr)
    (h0 : Part.cmds ∈ W) (h1 : Part.rdp ∈ W) (h2 : Part.wrp ∈ W) (h3 : Part.pwr ∈ W) (hl : Part.log ∈ W) :
    State.without W { s with cmds := x0, rdp := x1, wrp := x2, pwr := x3 } = s.without W := by
  simp only [State.without, h0, h1, h2, h3, hl, if_true]

theorem without_log {W : List Part} (s : State) (l : List LogEntry) (h : Part.log ∈ W) :
    State.without W { s with pwr := { s.pwr with log := l } } = s.without W := by
  by_cases hp : Part.pwr ∈ W <;> simp only [State.without, h, hp, if_true, if_false]

/-! ## What equal images say of the parts not emptied -/

theorem pending_of_without {W : List Part} {s t : State} (h : t.without W = s.without W) (hW : Part.pending ∉ W) :
    t.pending = s.pending := by
  have := congrArg State.pending h
  simpa only [State.without, hW, if_false] using this

theorem prx_of_without {W : List Part} {s t : State} (h : t.without W = s.without W) (hW : Part.prx ∉ W) :
    t.prx = s.prx := by
  have := congrArg State.prx h
  simpa only [State.without, hW, if_false] using this

theorem tenants_of_without {W : List Part} {s t : State} (h : t.without W = s.without W) (hW : Part.tenants ∉ W) :
    t.tenants = s.tenants := by
  have := congrArg State.tenants h
  simpa only [State.without, hW, if_false] using this

theorem cmds_of_without {W : List Part} {s t : State} (h : t.without W = s.without W) (hW : Part.cmds ∉ W) :
    t.cmds = s.cmds := by
  have := congrArg State.cmds h
  simpa only [State.without, hW, if_false] using this

theorem mch_of_without {W : List Part} {s t : State} (h : t.without W = s.without W) (hW : Part.mch ∉ W) :
    t.mch = s.mch := by
  have := congrArg State.mch h
  simpa only [State.without, hW, if_false] using this

theorem rdp_of_without {W : List Part} {s t : State} (h : t.without W = s.without W) (hW : Part.rdp ∉ W) :
    t.rdp = s.rdp := by
  have := congrArg State.rdp h
  simpa only [State.without, hW, if_false] using this

theorem wrp_of_without {W : List Part} {s t : State} (h : t.without W = s.without W) (hW : Part.wrp ∉ W) :
    t.wrp = s.wrp := by
  have := congrArg State.wrp h
  simpa only [State.without, hW, if_false] using this

theorem mcr_of_without {W : List Part} {s t : State} (h : t.without W = s.without W) (hW : Part.mcr ∉ W) :
    t.mcr = s.mcr := by
  have := congrArg State.mcr h
  simpa only [State.without, hW, if_false] using this

theorem nss_of_without {W : List Part} {s t : State} (h : t.without W = s.without W) (hW : Part.nss ∉ W) :
    t.nss = s.nss := by
  have := congrArg State.nss h
  simpa only [State.without, hW, if_false] using this

theorem fns_of_without {W : List Part} {s t : State} (h : t.without W = s.without W) (hW : Part.fns ∉ W) :
    t.fns = s.fns := by
  have := congrArg State.fns h
  simpa only [State.without, hW, if_false] using this

theorem hpt_of_without {W : List Part} {s t : State} (h : t.without W = s.without W) (hW : Part.hpt ∉ W) :
    t.hpt = s.hpt := by
  have := congrArg State.hpt h
  simpa only [State.without, hW, if_false] using this

theorem mig_of_without {W : List Part} {s t : State} (h : t.without W = s.without W) (hW : Part.mig ∉ W) :
    t.mig = s.mig := by
  have := congrArg State.mig h
  simpa only [State.without, hW, if_false] using this

theorem aens_of_without {W : List Part} {s t : State} (h : t.without W = s.without W) (hW : Part.aens ∉ W) :
    t.aens = s.aens := by
  have := congrArg State.aens h
  simpa only [State.without, hW, if_false] using this

theorem errs_of_without {W : List Part} {s t : State} (h : t.without W = s.without W) (hW : Part.errs ∉ W) :
    t.errs = s.errs := by
  have := congrArg State.errs h
  simpa only [State.without, hW, if_false] using this

theorem evc_of_without {W : List Part} {s t : State} (h : t.without W = s.without W) (hW : Part.evc ∉ W) :
    t.evc = s.evc := by
  have := congrArg State.evc h
  simpa only [State.without, hW, if_false] using this

theorem aow_of_without {W : List Part} {s t : State} (h : t.without W = s.without W) (hW : Part.aow ∉ W) :
    t.aow = s.aow := by
  have := congrArg State.aow h
  simpa only [State.without, hW, if_false] using this

theorem sdm_of_without {W : List Part} {s t : State} (h : t.without W = s.without W) (hW : Part.sdm ∉ W) :
    t.sdm = s.sdm := by
  have := congrArg State.sdm h
  simpa only [State.without, hW, if_false] using this

theorem mlk_of_without {W : List Part} {s t : State} (h : t.without W = s.without W) (hW : Part.mlk ∉ W) :
    t.mlk = s.mlk := by
  have := congrArg State.mlk h
  simpa only [State.without, hW, if_false] using this

theorem keys_of_without {W : List Part} {s t : State} (h : t.without W = s.without W) (hW : Part.keys ∉ W) :
    t.keys = s.keys := by
  have := congrArg State.keys h
  simpa only [State.without, hW, if_false] using this

theorem mtr_of_without {W : List Part} {s t : State} (h : t.without W = s.without W) (hW : Part.mtr ∉ W) :
    t.mtr = s.mtr := by
  have := congrArg State.mtr h
  simpa only [State.without, hW, if_false] using this

theorem lpb_of_without {W : List Part} {s t : State} (h : t.without W = s.without W) (hW : Part.lpb ∉ W) :
    t.lpb = s.lpb := by
  have := congrArg State.lpb h
  simpa only [State.without, hW, if_false] using this

theorem tln_of_without {W : List Part} {s t : State} (h : t.without W = s.without W) (hW : Part.tln ∉ W) :
    t.tln = s.tln := by
  have := congrArg State.tln h
  simpa only [State.without, hW, if_false] using this

theorem mi_of_without {W : List Part} {s t : State} (h : t.without W = s.without W) (hW : Part.mi ∉ W) :
    t.mi = s.mi := by
  have := congrArg State.mi h
  simpa only [State.without, hW, if_false] using this

theorem out_of_without {W : List Part} {s t : State} (h : t.without W = s.without W) (hW : Part.out ∉ W) :
    t.out = s.out := by
  have := congrArg State.out h
  simpa only [State.without, hW, if_false] using this

theorem draw_of_without {W : List Part} {s t : State} (h : t.without W = s.without W) (hW : Part.draw ∉ W) :
    t.draw = s.draw := by
  have := congrArg State.draw h
  simpa only [State.without, hW, if_false] using this

theorem frame_of_without {W : List Part} {s t : State} (h : t.without W = s.without W) (hW : Part.time ∉ W) :
    t.ftb.frame = s.ftb.frame := by
  have := congrArg (fun u => u.ftb.frame) h
  simpa only [State.without, hW, if_false] using this

theorem tick_of_without {W : List Part} {s t : State} (h : t.without W = s.without W) (hW : Part.time ∉ W) :
    t.ftb.tick = s.ftb.tick := by
  have := congrArg (fun u => u.ftb.tick) h
  simpa only [State.without, hW, if_false] using this

theorem clock_of_without {W : List Part} {s t : State} (h : t.without W = s.without W) (hW : Part.time ∉ W) :
    t.ftb.clock = s.ftb.clock := by
  have := congrArg (fun u => u.ftb.clock) h
  simpa only [State.without, hW, if_false] using this

theorem rollback_of_without {W : List Part} {s t : State} (h : t.without W = s.without W) (hW : Part.fuses ∉ W) :
    t.sec.rollback = s.sec.rollback := by
  have := congrArg (fun u => u.sec.rollback) h
  simpa only [State.without, hW, if_false] using this

theorem log_of_without {W : List Part} {s t : State} (h : t.without W = s.without W) (hW : Part.log ∉ W) :
    t.pwr.log = s.pwr.log := by
  have := congrArg (fun u => u.pwr.log) h
  simpa only [State.without, hW, if_false] using this

theorem ftb_of_without {W : List Part} {s t : State} (h : t.without W = s.without W) (hW : Part.ftb ∉ W)
    (hT : Part.time ∉ W) : t.ftb = s.ftb := by
  have := congrArg State.ftb h
  simpa only [State.without, hW, hT, if_false] using this

theorem sec_of_without {W : List Part} {s t : State} (h : t.without W = s.without W) (hW : Part.sec ∉ W)
    (hF : Part.fuses ∉ W) : t.sec = s.sec := by
  have := congrArg State.sec h
  simpa only [State.without, hW, hF, if_false] using this

theorem pwr_of_without {W : List Part} {s t : State} (h : t.without W = s.without W) (hW : Part.pwr ∉ W)
    (hL : Part.log ∉ W) : t.pwr = s.pwr := by
  have := congrArg State.pwr h
  simpa only [State.without, hW, hL, if_false] using this

/-- Power and the stop of a dump or a THERMTRIP stand in `pwr` outside the log. -/
theorem live_of_without {W : List Part} {s t : State} (h : t.without W = s.without W) (hW : Part.pwr ∉ W) :
    t.live = s.live := by
  have h1 := congrArg (fun u => u.pwr.supply) h
  have h2 := congrArg (fun u => u.pwr.stop) h
  simp only [State.without, hW, if_false] at h1 h2
  simp only [State.live, h1, h2]

theorem lookupKey_filter {α : Type} {p : Nat → Bool} {k : Nat} (h : p k = true) (l : List (Nat × α)) :
    lookupKey k (l.filter fun e => p e.1) = lookupKey k l := by
  induction l with
  | nil => rfl
  | cons e rest ih =>
    obtain ⟨k', v⟩ := e
    by_cases hk : k' = k
    · subst hk; simp [lookupKey, h]
    · by_cases hp : p k' = true
      · simp [hp, lookupKey, hk, ih]
      · simp [hp, lookupKey, hk, ih]

/-- A register of a block that is not emptied reads the same. -/
theorem reg_of_without {W : List Part} {s t : State} {r : Nat} (h : t.without W = s.without W)
    (hW : Part.regs (r / 0x100000) ∉ W) : t.reg r = s.reg r := by
  have e := congrArg (fun u : State => lookupKey r u.regs.entries) h
  simp only [State.without] at e
  rw [lookupKey_filter (p := fun k => decide (Part.regs (k / 0x100000) ∉ W)) (by simp [hW]),
    lookupKey_filter (p := fun k => decide (Part.regs (k / 0x100000) ∉ W)) (by simp [hW])] at e
  simp only [State.reg, Tab.get, e]

end Sys2Proof.Machine
end

