-- ==== Sys2Proof/Laws/KeepOps.lean ====
section
/-! SUPPORT. Which parts of the state the operations of Machine/Ops.lean may change: every other part stays. -/
set_option linter.unusedSimpArgs false
set_option linter.unusedVariables false
namespace Sys2Proof.Machine

theorem page_mchChCtl (i : Nat) : Reg.mchChCtl i / 0x100000 = 6 := by unfold Reg.mchChCtl; omega
theorem page_mchChStatus (i : Nat) : Reg.mchChStatus i / 0x100000 = 6 := by unfold Reg.mchChStatus; omega
theorem page_mchChDieLost (i : Nat) : Reg.mchChDieLost i / 0x100000 = 6 := by unfold Reg.mchChDieLost; omega
theorem page_mchChTimeoutCnt (i : Nat) : Reg.mchChTimeoutCnt i / 0x100000 = 6 := by unfold Reg.mchChTimeoutCnt; omega
theorem page_mchChSuspendCnt (i : Nat) : Reg.mchChSuspendCnt i / 0x100000 = 6 := by unfold Reg.mchChSuspendCnt; omega
theorem page_mchChSuspendRefuseCnt
    (i : Nat) : Reg.mchChSuspendRefuseCnt i / 0x100000 = 6 := by unfold Reg.mchChSuspendRefuseCnt; omega
theorem page_mchChRetrainCnt (i : Nat) : Reg.mchChRetrainCnt i / 0x100000 = 6 := by unfold Reg.mchChRetrainCnt; omega
theorem page_mchChExcursionCnt
    (i : Nat) : Reg.mchChExcursionCnt i / 0x100000 = 6 := by unfold Reg.mchChExcursionCnt; omega
theorem page_mchChDieTemp (c d : Nat) : Reg.mchChDieTemp c d / 0x100000 = 6 := by unfold Reg.mchChDieTemp; omega
theorem page_mchChDieState (c d : Nat) : Reg.mchChDieState c d / 0x100000 = 6 := by unfold Reg.mchChDieState; omega
theorem page_evcCoreClaim (i : Nat) : Reg.evcCoreClaim i / 0x100000 = 15 := by unfold Reg.evcCoreClaim; omega
theorem page_evcCoreComplete (i : Nat) : Reg.evcCoreComplete i / 0x100000 = 15 := by unfold Reg.evcCoreComplete; omega
theorem page_evcCoreStack (i : Nat) : Reg.evcCoreStack i / 0x100000 = 15 := by unfold Reg.evcCoreStack; omega
theorem page_evcCoreFault (i : Nat) : Reg.evcCoreFault i / 0x100000 = 15 := by unfold Reg.evcCoreFault; omega
theorem page_evcCoreStackReset
    (i : Nat) : Reg.evcCoreStackReset i / 0x100000 = 15 := by unfold Reg.evcCoreStackReset; omega
theorem page_evcCoreNmiVec (i : Nat) : Reg.evcCoreNmiVec i / 0x100000 = 15 := by unfold Reg.evcCoreNmiVec; omega
theorem page_evcCoreWdog (i : Nat) : Reg.evcCoreWdog i / 0x100000 = 15 := by unfold Reg.evcCoreWdog; omega
theorem page_evcCoreFaultAddr
    (i : Nat) : Reg.evcCoreFaultAddr i / 0x100000 = 15 := by unfold Reg.evcCoreFaultAddr; omega
theorem page_evcHoldoff (i : Nat) : Reg.evcHoldoff i / 0x100000 = 15 := by unfold Reg.evcHoldoff; omega
theorem page_evcSrcCfg (i : Nat) : Reg.evcSrcCfg i / 0x100000 = 15 := by unfold Reg.evcSrcCfg; omega
theorem page_evcSrcStatus (i : Nat) : Reg.evcSrcStatus i / 0x100000 = 15 := by unfold Reg.evcSrcStatus; omega
theorem page_sdmPaceLevel (i : Nat) : Reg.sdmPaceLevel i / 0x100000 = 17 := by unfold Reg.sdmPaceLevel; omega
theorem page_sdmChShadowDescLo
    (i : Nat) : Reg.sdmChShadowDescLo i / 0x100000 = 17 := by unfold Reg.sdmChShadowDescLo; omega
theorem page_sdmChShadowDescHi
    (i : Nat) : Reg.sdmChShadowDescHi i / 0x100000 = 17 := by unfold Reg.sdmChShadowDescHi; omega
theorem page_sdmChShadowCfg (i : Nat) : Reg.sdmChShadowCfg i / 0x100000 = 17 := by unfold Reg.sdmChShadowCfg; omega
theorem page_sdmChShadowPace (i : Nat) : Reg.sdmChShadowPace i / 0x100000 = 17 := by unfold Reg.sdmChShadowPace; omega
theorem page_sdmChArm (i : Nat) : Reg.sdmChArm i / 0x100000 = 17 := by unfold Reg.sdmChArm; omega
theorem page_sdmChCmd (i : Nat) : Reg.sdmChCmd i / 0x100000 = 17 := by unfold Reg.sdmChCmd; omega
theorem page_sdmChStatus (i : Nat) : Reg.sdmChStatus i / 0x100000 = 17 := by unfold Reg.sdmChStatus; omega
theorem page_sdmChFlags (i : Nat) : Reg.sdmChFlags i / 0x100000 = 17 := by unfold Reg.sdmChFlags; omega
theorem page_sdmChCurDescLo (i : Nat) : Reg.sdmChCurDescLo i / 0x100000 = 17 := by unfold Reg.sdmChCurDescLo; omega
theorem page_sdmChCurDescHi (i : Nat) : Reg.sdmChCurDescHi i / 0x100000 = 17 := by unfold Reg.sdmChCurDescHi; omega
theorem page_sdmChRemain (i : Nat) : Reg.sdmChRemain i / 0x100000 = 17 := by unfold Reg.sdmChRemain; omega
theorem page_sdmChMismatch (i : Nat) : Reg.sdmChMismatch i / 0x100000 = 17 := by unfold Reg.sdmChMismatch; omega
theorem page_sdmChActiveCfg (i : Nat) : Reg.sdmChActiveCfg i / 0x100000 = 17 := by unfold Reg.sdmChActiveCfg; omega
theorem page_sdmChActivePace (i : Nat) : Reg.sdmChActivePace i / 0x100000 = 17 := by unfold Reg.sdmChActivePace; omega
theorem page_sdmChHandoverCnt
    (i : Nat) : Reg.sdmChHandoverCnt i / 0x100000 = 17 := by unfold Reg.sdmChHandoverCnt; omega
theorem page_sdmChDescCnt (i : Nat) : Reg.sdmChDescCnt i / 0x100000 = 17 := by unfold Reg.sdmChDescCnt; omega
theorem page_sdmChErrCnt (i : Nat) : Reg.sdmChErrCnt i / 0x100000 = 17 := by unfold Reg.sdmChErrCnt; omega
theorem page_lpbWinShadowBase
    (i : Nat) : Reg.lpbWinShadowBase i / 0x100000 = 18 := by unfold Reg.lpbWinShadowBase; omega
theorem page_lpbWinShadowLimit
    (i : Nat) : Reg.lpbWinShadowLimit i / 0x100000 = 18 := by unfold Reg.lpbWinShadowLimit; omega
theorem page_lpbWinShadowTrans
    (i : Nat) : Reg.lpbWinShadowTrans i / 0x100000 = 18 := by unfold Reg.lpbWinShadowTrans; omega
theorem page_lpbWinShadowCfg (i : Nat) : Reg.lpbWinShadowCfg i / 0x100000 = 18 := by unfold Reg.lpbWinShadowCfg; omega
theorem page_lpbWinBase (i : Nat) : Reg.lpbWinBase i / 0x100000 = 18 := by unfold Reg.lpbWinBase; omega
theorem page_lpbWinLimit (i : Nat) : Reg.lpbWinLimit i / 0x100000 = 18 := by unfold Reg.lpbWinLimit; omega
theorem page_lpbWinTrans (i : Nat) : Reg.lpbWinTrans i / 0x100000 = 18 := by unfold Reg.lpbWinTrans; omega
theorem page_lpbWinCfg (i : Nat) : Reg.lpbWinCfg i / 0x100000 = 18 := by unfold Reg.lpbWinCfg; omega
theorem page_tlnRecCfg (i : Nat) : Reg.tlnRecCfg i / 0x100000 = 19 := by unfold Reg.tlnRecCfg; omega
theorem page_tlnSampleCfg (i : Nat) : Reg.tlnSampleCfg i / 0x100000 = 19 := by unfold Reg.tlnSampleCfg; omega
theorem page_tlnSampleReg (i : Nat) : Reg.tlnSampleReg i / 0x100000 = 19 := by unfold Reg.tlnSampleReg; omega
theorem page_tlnMapSrc (i : Nat) : Reg.tlnMapSrc i / 0x100000 = 19 := by unfold Reg.tlnMapSrc; omega
theorem page_tlnMapScale (i : Nat) : Reg.tlnMapScale i / 0x100000 = 19 := by unfold Reg.tlnMapScale; omega
theorem page_tlnMapOffset (i : Nat) : Reg.tlnMapOffset i / 0x100000 = 19 := by unfold Reg.tlnMapOffset; omega
theorem page_tlnMapDest (i : Nat) : Reg.tlnMapDest i / 0x100000 = 19 := by unfold Reg.tlnMapDest; omega
theorem page_tlnMapValue (i : Nat) : Reg.tlnMapValue i / 0x100000 = 19 := by unfold Reg.tlnMapValue; omega
theorem page_tlnLarvis (i : Nat) : Reg.tlnLarvis i / 0x100000 = 19 := by unfold Reg.tlnLarvis; omega
theorem page_srmPart (p : Nat) : Reg.srmPart p / 0x100000 = 21 := by unfold Reg.srmPart; omega

theorem State.setField_without {W : List Part} (s : State) (off lo w v : Nat) (h : [Part.regs (off / 0x100000)] ⊆ W) :
    (s.setField off lo w v).without W = s.without W := by
  simp only [List.cons_subset, List.nil_subset, and_true] at h
  simp only [State.setField, ↓State.setReg_without, ↓without_ite, ↓without_foldl, ite_self, implies_true,
      List.cons_subset, List.nil_subset, and_true, and_self, true_and, h]

theorem State.setBit_without {W : List Part} (s : State) (off i : Nat) (b : Bool) (h : [Part.regs
    (off / 0x100000)] ⊆ W) :
    (s.setBit off i b).without W = s.without W := by
  simp only [List.cons_subset, List.nil_subset, and_true] at h
  simp only [State.setBit, ↓State.setField_without, ↓without_ite, ↓without_foldl, ite_self, implies_true,
      List.cons_subset, List.nil_subset, and_true, and_self, true_and, h]

theorem State.setNum_without {W : List Part} (s : State) (off v : Nat) (h : [Part.regs (off / 0x100000)] ⊆ W) :
    (s.setNum off v).without W = s.without W := by
  simp only [List.cons_subset, List.nil_subset, and_true] at h
  simp only [State.setNum, ↓State.setReg_without, ↓without_ite, ↓without_foldl, ite_self, implies_true,
      List.cons_subset, List.nil_subset, and_true, and_self, true_and, h]

theorem State.setInt_without {W : List Part} (s : State) (off : Nat) (v : Int) (h : [Part.regs (off / 0x100000)] ⊆ W) :
    (s.setInt off v).without W = s.without W := by
  simp only [List.cons_subset, List.nil_subset, and_true] at h
  simp only [State.setInt, ↓State.setReg_without, ↓without_ite, ↓without_foldl, ite_self, implies_true,
      List.cons_subset, List.nil_subset, and_true, and_self, true_and, h]

theorem State.inc_without {W : List Part} (s : State) (off : Nat) (n : Nat) (h : [Part.regs (off / 0x100000)] ⊆ W) :
    (s.inc off n).without W = s.without W := by
  simp only [List.cons_subset, List.nil_subset, and_true] at h
  simp only [State.inc, ↓State.setNum_without, ↓without_ite, ↓without_foldl, ite_self, implies_true, List.cons_subset,
      List.nil_subset, and_true, and_self, true_and, h]

theorem State.emit_without {W : List Part} (s : State) (o : Out) (h : [Part.out] ⊆ W) :
    (s.emit o).without W = s.without W := by
  simp only [List.cons_subset, List.nil_subset, and_true] at h
  simp only [State.emit, ↓without_out, ↓without_ite, ↓without_foldl, ite_self, implies_true, List.cons_subset,
      List.nil_subset, and_true, and_self, true_and, h]

theorem State.drawn_without {W : List Part} (s : State) (h : [Part.draw] ⊆ W) :
    (s.drawn).without W = s.without W := by
  simp only [List.cons_subset, List.nil_subset, and_true] at h
  simp only [State.drawn, ↓without_draw, ↓without_ite, ↓without_foldl, ite_self, implies_true, List.cons_subset,
      List.nil_subset, and_true, and_self, true_and, h]

theorem State.holdGroup_without {W : List Part} (s : State) (src : Nat) (h : [Part.evc, .regs 15] ⊆ W) :
    (s.holdGroup src).without W = s.without W := by
  simp only [List.cons_subset, List.nil_subset, and_true] at h
  simp only [State.holdGroup, ↓State.setField_without, ↓without_evc, page_evcHoldoff, page_evcSrcCfg, Nat.reduceDiv,
      ↓without_ite, ↓without_foldl, ite_self, implies_true, List.cons_subset, List.nil_subset, and_true, and_self,
      true_and, h]

theorem State.pend_without {W : List Part} (s : State) (src : Nat) (h : [Part.evc, .regs 15] ⊆ W) :
    (s.pend src).without W = s.without W := by
  simp only [List.cons_subset, List.nil_subset, and_true] at h
  simp only [State.pend, ↓State.setBit_without, ↓State.holdGroup_without, page_evcSrcStatus, Nat.reduceDiv,
      ↓without_ite, ↓without_foldl, ite_self, implies_true, List.cons_subset, List.nil_subset, and_true, and_self,
      true_and, h]

theorem State.ring_without {W : List Part} (s : State) (src : Nat) (h : [Part.evc, .regs 15] ⊆ W) :
    (s.ring src).without W = s.without W := by
  simp only [List.cons_subset, List.nil_subset, and_true] at h
  simp only [State.ring, ↓State.inc_without, ↓State.pend_without, Reg.evcRingCnt, Reg.evcMergeCnt, page_evcSrcStatus,
      Nat.reduceDiv, ↓without_ite, ↓without_foldl, ite_self, implies_true, List.cons_subset, List.nil_subset, and_true,
      and_self, true_and, h]

theorem State.raise_without {W : List Part} (s : State) (ev i : Nat) (h : [Part.evc, .regs 15,
    .regs (ev / 0x100000)] ⊆ W) :
    (s.raise ev i).without W = s.without W := by
  simp only [List.cons_subset, List.nil_subset, and_true] at h
  simp only [State.raise, ↓State.ring_without, ↓State.setBit_without, ↓without_ite, ↓without_foldl, ite_self,
      implies_true, List.cons_subset, List.nil_subset, and_true, and_self, true_and, h]

theorem State.logNew_without {W : List Part} (s : State) (e : LogEntry) (h : [Part.evc, .log, .regs 15, .regs 20] ⊆ W) :
    (s.logNew e).without W = s.without W := by
  simp only [List.cons_subset, List.nil_subset, and_true] at h
  simp only [State.logNew, ↓State.setNum_without, ↓State.raise_without, ↓State.inc_without, ↓without_log,
      Reg.pwrEvlogProd, Reg.pwrEvlogCons, Reg.pwrEvlogLost, Reg.pwrEvent, Nat.reduceDiv, ↓without_ite, ↓without_foldl,
      ite_self, implies_true, List.cons_subset, List.nil_subset, and_true, and_self, true_and, h]

theorem State.logAt_without {W : List Part} (s : State) (b : Block) (code inst fn : Nat) (detail : List Word)
    (h : [Part.evc, .log, .regs 15, .regs 20] ⊆ W) :
    (s.logAt b code inst fn detail).without W = s.without W := by
  simp only [List.cons_subset, List.nil_subset, and_true] at h
  unfold State.logAt
  (repeat' split) <;> simp only [↓State.inc_without, ↓State.logNew_without, ↓without_log, Reg.pwrEvlogCoalesceCnt,
      Nat.reduceDiv, ↓without_ite, ↓without_foldl, ite_self, implies_true, List.cons_subset, List.nil_subset, and_true,
      and_self, true_and, h]

theorem State.countErr_without {W : List Part} (s : State) (b : Block) (off : Nat) (inst : Nat) (fn : Nat)
    (detail : List Word) (h : [Part.evc, .log, .regs 15, .regs 20, .regs (off / 0x100000)] ⊆ W) :
    (s.countErr b off inst fn detail).without W = s.without W := by
  simp only [List.cons_subset, List.nil_subset, and_true] at h
  simp only [State.countErr, ↓State.logAt_without, ↓State.inc_without, ↓without_ite, ↓without_foldl, ite_self,
      implies_true, List.cons_subset, List.nil_subset, and_true, and_self, true_and, h]

theorem State.raiseLog_without {W : List Part} (s : State) (b : Block) (ev i : Nat) (inst : Nat) (fn : Nat)
    (h : [Part.evc, .log, .regs 15, .regs 20, .regs (ev / 0x100000)] ⊆ W) :
    (s.raiseLog b ev i inst fn).without W = s.without W := by
  simp only [List.cons_subset, List.nil_subset, and_true] at h
  simp only [State.raiseLog, ↓State.logAt_without, ↓State.raise_without, ↓without_ite, ↓without_foldl, ite_self,
      implies_true, List.cons_subset, List.nil_subset, and_true, and_self, true_and, h]

theorem State.whenLive_without {W : List Part} (s : State) (f : State → State) (hf : ∀ t,
    (f t).without W = t.without W) :
    (s.whenLive f).without W = s.without W := by
  unfold State.whenLive; split <;> simp only [hf]

theorem State.whenRails_without {W : List Part} (s : State) (f : State → State) (hf : ∀ t,
    (f t).without W = t.without W) :
    (s.whenRails f).without W = s.without W := by
  unfold State.whenRails; split <;> simp only [hf]

theorem State.when_without {W : List Part} (s : State) (c : Bool) (f : State → State) (hf : ∀ t,
    (f t).without W = t.without W) :
    (s.when c f).without W = s.without W := by
  unfold State.when; split <;> simp only [hf]

theorem State.raiseFault_without {W : List Part} (s : State) (core bit : Nat) (h : [Part.out, .regs 15] ⊆ W) :
    (s.raiseFault core bit).without W = s.without W := by
  simp only [List.cons_subset, List.nil_subset, and_true] at h
  simp only [State.raiseFault, ↓State.setBit_without, ↓State.emit_without, page_evcCoreNmiVec, page_evcCoreFault,
      Nat.reduceDiv, ↓without_ite, ↓without_foldl, ite_self, implies_true, List.cons_subset, List.nil_subset, and_true,
      and_self, true_and, h]

theorem State.accessFault_without {W : List Part} (s : State) (core addr : Nat) (h : [Part.evc, .log, .out, .regs 15,
    .regs 20] ⊆ W) :
    (s.accessFault core addr).without W = s.without W := by
  simp only [List.cons_subset, List.nil_subset, and_true] at h
  simp only [State.accessFault, ↓State.countErr_without, ↓State.setField_without, ↓State.setNum_without,
      ↓State.raiseFault_without, Reg.evcAccessFaultCnt, page_evcCoreFaultAddr, page_evcCoreFault, Nat.reduceDiv,
      ↓without_ite, ↓without_foldl, ite_self, implies_true, List.cons_subset, List.nil_subset, and_true, and_self,
      true_and, h]

theorem State.byCore_without {W : List Part} (s : State) (by_ : Requester) (off : Nat) (f : State → State)
    (h : [Part.evc, .log, .out, .regs 15, .regs 20] ⊆ W) (hf : ∀ t, (f t).without W = t.without W) :
    (s.byCore by_ off f).without W = s.without W := by
  simp only [List.cons_subset, List.nil_subset, and_true] at h
  unfold State.byCore
  split
  · rfl
  · refine State.whenLive_without _ _ fun t => ?_
    split
    · exact hf t
    · exact State.accessFault_without _ _ _ (by simp only [List.cons_subset, List.nil_subset, and_true, h])

theorem State.byHost_without {W : List Part} (s : State) (by_ : Requester) (off : Nat) (f : State → State)
    (h : [Part.evc, .log, .out, .regs 15, .regs 20] ⊆ W) (hf : ∀ t, (f t).without W = t.without W) :
    (s.byHost by_ off f).without W = s.without W := by
  simp only [List.cons_subset, List.nil_subset, and_true] at h
  unfold State.byHost
  split
  · exact State.whenLive_without _ _ hf
  · refine State.whenLive_without _ _ fun t => ?_
    split
    · exact hf t
    · exact State.accessFault_without _ _ _ (by simp only [List.cons_subset, List.nil_subset, and_true, h])

theorem State.showSpill_without {W : List Part} (s : State) (before : Nat) (h : [Part.evc, .regs 13, .regs 15] ⊆ W) :
    (s.showSpill before).without W = s.without W := by
  simp only [List.cons_subset, List.nil_subset, and_true] at h
  simp only [State.showSpill, ↓State.setBit_without, ↓State.raise_without, ↓State.inc_without, ↓State.when_without,
      Reg.mlkStatus, Reg.mlkSpillCnt, Reg.mlkEvent, Nat.reduceDiv, ↓without_ite, ↓without_foldl, ite_self,
      implies_true, List.cons_subset, List.nil_subset, and_true, and_self, true_and, h]

theorem State.form_without {W : List Part} (s : State) (m : LinkMsg) (h : [Part.evc, .mlk, .regs 13, .regs 15] ⊆ W) :
    (s.form m).without W = s.without W := by
  simp only [List.cons_subset, List.nil_subset, and_true] at h
  simp only [State.form, ↓State.showSpill_without, ↓without_mlk, ↓without_ite, ↓without_foldl, ite_self, implies_true,
      List.cons_subset, List.nil_subset, and_true, and_self, true_and, h]

theorem State.spendFlits_without {W : List Part} (s : State) (m : LinkMsg) (h : [Part.mlk] ⊆ W) :
    (s.spendFlits m).without W = s.without W := by
  simp only [List.cons_subset, List.nil_subset, and_true] at h
  unfold State.spendFlits
  (repeat' split) <;> simp only [↓without_mlk, Reg.prxStatus, Nat.reduceDiv, ↓without_ite, ↓without_foldl, ite_self,
      implies_true, List.cons_subset, List.nil_subset, and_true, and_self, true_and, h]

theorem State.noteLeft_without {W : List Part} (s : State) (m : LinkMsg) (h : [Part.rdp, .mlk] ⊆ W) :
    (s.noteLeft m).without W = s.without W := by
  simp only [List.cons_subset, List.nil_subset, and_true] at h
  unfold State.noteLeft
  (repeat' split) <;> simp only [↓without_mlk, ↓without_rdp, ↓without_ite, ↓without_foldl, ite_self, implies_true,
      List.cons_subset, List.nil_subset, and_true, and_self, true_and, h]

theorem State.sendAck_without {W : List Part} (s : State) (h : [Part.mlk, .out] ⊆ W) :
    (s.sendAck).without W = s.without W := by
  simp only [List.cons_subset, List.nil_subset, and_true] at h
  simp only [State.sendAck, ↓State.emit_without, ↓without_mlk, ↓without_ite, ↓without_foldl, ite_self, implies_true,
      List.cons_subset, List.nil_subset, and_true, and_self, true_and, h]

theorem State.rideAck_without {W : List Part} (s : State) (h : [Part.mlk, .out] ⊆ W) :
    (s.rideAck).without W = s.without W := by
  simp only [List.cons_subset, List.nil_subset, and_true] at h
  simp only [State.rideAck, ↓State.sendAck_without, ↓without_ite, ↓without_foldl, ite_self, implies_true,
      List.cons_subset, List.nil_subset, and_true, and_self, true_and, h]

theorem transmit_without {W : List Part} (n : Nat) (s : State) (h : [Part.rdp, .mlk, .out] ⊆ W) :
    (transmit n s).without W = s.without W := by
  simp only [List.cons_subset, List.nil_subset, and_true] at h
  induction n generalizing s with
  | zero => rfl
  | succ n ih =>
    have e0 := fun (s : State) (m : LinkMsg) => State.noteLeft_without (W := W) s m (by simp only [List.cons_subset, List.nil_subset, and_true, Nat.reduceDiv, h])
    have e1 := fun (s : State) => State.rideAck_without (W := W) s (by simp only [List.cons_subset, List.nil_subset, and_true, Nat.reduceDiv, h])
    have e2 := fun (s : State) (m : LinkMsg) => State.spendFlits_without (W := W) s m (by simp only [List.cons_subset, List.nil_subset, and_true, Nat.reduceDiv, h])
    have e3 := fun (s : State) (o : Out) => State.emit_without (W := W) s o (by simp only [List.cons_subset, List.nil_subset, and_true, Nat.reduceDiv, h])
    have r4 := fun (x0 : State) (x1 : Mlk) => without_mlk (W := W) x0 x1 (by simp only [h])
    unfold transmit
    repeat' (first
      | with_reducible rfl
      | with_reducible refine (ih _).trans ?_
      | with_reducible refine (e0 _ _).trans ?_
      | with_reducible refine (e1 _).trans ?_
      | with_reducible refine (e2 _ _).trans ?_
      | with_reducible refine (e3 _ _).trans ?_
      | with_reducible refine without_if ?_ ?_
      | with_reducible refine (without_foldl (fun t a => ?_) _ _).trans ?_
      | simp only [r4, h]
      | (with_reducible refine without_of_snd (by assumption) ?_)
      | (with_reducible refine without_of_fst (by assumption) ?_)
      | split)

theorem State.pump_without {W : List Part} (s : State) (h : [Part.rdp, .evc, .mlk, .out, .regs 13, .regs 15] ⊆ W) :
    (s.pump).without W = s.without W := by
  simp only [List.cons_subset, List.nil_subset, and_true] at h
  have key : ∀ (l : List LinkMsg) (p : State × List Nat),
      (l.foldl (fun (p : State × List Nat) m =>
        if p.2.contains m.vc || !p.1.canForm m then
          ({ p.1 with mlk := { p.1.mlk with waiting := p.1.mlk.waiting ++ [m] } }, m.vc :: p.2)
        else (p.1.form m, p.2)) p).1.without W = p.1.without W := by
    intro l
    induction l with
    | nil => intro p; rfl
    | cons m l ih =>
      intro p
      rw [List.foldl_cons, ih]
      split
      · exact without_mlk _ _ (by simp only [h])
      · exact State.form_without _ _ (by simp only [List.cons_subset, List.nil_subset, and_true, h])
  unfold State.pump
  dsimp only
  rw [transmit_without _ _ (by simp only [List.cons_subset, List.nil_subset, and_true, h]), key]
  exact without_mlk _ _ (by simp only [h])

theorem State.send_without {W : List Part} (s : State) (m : LinkMsg) (h : [Part.rdp, .evc, .mlk, .out, .regs 13,
    .regs 15] ⊆ W) :
    (s.send m).without W = s.without W := by
  simp only [List.cons_subset, List.nil_subset, and_true] at h
  unfold State.send
  (repeat' split) <;> simp only [↓State.pump_without, ↓State.emit_without, ↓without_mlk, ↓without_ite, ↓without_foldl,
      ite_self, implies_true, List.cons_subset, List.nil_subset, and_true, and_self, true_and, h]

theorem State.took_without {W : List Part} (s : State) (vc blocks : Nat) (h : [Part.mlk] ⊆ W) :
    (s.took vc blocks).without W = s.without W := by
  simp only [List.cons_subset, List.nil_subset, and_true] at h
  simp only [State.took, ↓without_mlk, ↓without_ite, ↓without_foldl, ite_self, implies_true, List.cons_subset,
      List.nil_subset, and_true, and_self, true_and, h]

theorem State.updCmd_without {W : List Part} (s : State) (c : CmdId) (f : Cmd → Cmd) (h : [Part.cmds] ⊆ W) :
    (s.updCmd c f).without W = s.without W := by
  simp only [List.cons_subset, List.nil_subset, and_true] at h
  simp only [State.updCmd, ↓without_cmds, ↓without_ite, ↓without_foldl, ite_self, implies_true, List.cons_subset,
      List.nil_subset, and_true, and_self, true_and, h]

theorem State.dropCmd_without {W : List Part} (s : State) (c : CmdId) (h : [Part.cmds] ⊆ W) :
    (s.dropCmd c).without W = s.without W := by
  simp only [List.cons_subset, List.nil_subset, and_true] at h
  simp only [State.dropCmd, ↓without_cmds, ↓without_ite, ↓without_foldl, ite_self, implies_true, List.cons_subset,
      List.nil_subset, and_true, and_self, true_and, h]

theorem State.finish_without {W : List Part} (s : State) (c : CmdId) (status : Nat) (dw0 : Word) (dnr : Bool)
    (h : [Part.cmds] ⊆ W) :
    (s.finish c status dw0 dnr).without W = s.without W := by
  simp only [List.cons_subset, List.nil_subset, and_true] at h
  simp only [State.finish, ↓State.updCmd_without, ↓without_ite, ↓without_foldl, ite_self, implies_true,
      List.cons_subset, List.nil_subset, and_true, and_self, true_and, h]

theorem State.meet_without {W : List Part} (s : State) (c : CmdId) (cause : Nat) (h : [Part.cmds] ⊆ W) :
    (s.meet c cause).without W = s.without W := by
  simp only [List.cons_subset, List.nil_subset, and_true] at h
  simp only [State.meet, ↓State.updCmd_without, ↓without_ite, ↓without_foldl, ite_self, implies_true, List.cons_subset,
      List.nil_subset, and_true, and_self, true_and, h]

theorem State.asyncEvent_without {W : List Part} (s : State) (fn ty info page : Nat) (h : [Part.cmds, .aens] ⊆ W) :
    (s.asyncEvent fn ty info page).without W = s.without W := by
  simp only [List.cons_subset, List.nil_subset, and_true] at h
  unfold State.asyncEvent
  (repeat' split) <;> simp only [↓State.finish_without, ↓without_aens, ↓without_ite, ↓without_foldl, ite_self,
      implies_true, List.cons_subset, List.nil_subset, and_true, and_self, true_and, h]

theorem State.criticalEvent_without {W : List Part} (s : State) (bit info : Nat) (h : [Part.cmds, .aens] ⊆ W) :
    (s.criticalEvent bit info).without W = s.without W := by
  simp only [List.cons_subset, List.nil_subset, and_true] at h
  simp only [State.criticalEvent, ↓State.asyncEvent_without, ↓without_ite, ↓without_foldl, ite_self, implies_true,
      List.cons_subset, List.nil_subset, and_true, and_self, true_and, h]

end Sys2Proof.Machine
end

