-- ==== Sys2Proof/Laws/KeepTags.lean ====
section
/-! SUPPORT. Which parts of the state the operations of Machine/Tags.lean may change: every other part stays. -/
set_option linter.unusedSimpArgs false
set_option linter.unusedVariables false
namespace Sys2Proof.Machine


theorem State.updFn_without {W : List Part} (s : State) (f : Nat) (g : Fn → Fn) (h : [Part.fns] ⊆ W) :
    (s.updFn f g).without W = s.without W := by
  simp only [List.cons_subset, List.nil_subset, and_true] at h
  simp only [State.updFn, ↓without_fns, ↓without_ite, ↓without_foldl, ite_self, implies_true, List.cons_subset,
      List.nil_subset, and_true, and_self, true_and, h]

theorem State.showTags_without {W : List Part} (s : State) (h : [Part.regs 1] ⊆ W) :
    (s.showTags).without W = s.without W := by
  simp only [List.cons_subset, List.nil_subset, and_true] at h
  simp only [State.showTags, ↓State.setNum_without, Reg.hptTagQuar, Reg.hptNpOut, Nat.reduceDiv, ↓without_ite,
      ↓without_foldl, ite_self, implies_true, List.cons_subset, List.nil_subset, and_true, and_self, true_and, h]

theorem State.linkBusy_without {W : List Part} (s : State) (h : [Part.hpt, .out, .regs 1] ⊆ W) :
    (s.linkBusy).without W = s.without W := by
  simp only [List.cons_subset, List.nil_subset, and_true] at h
  simp only [State.linkBusy, ↓State.setField_without, ↓State.setBit_without, ↓State.emit_without, ↓without_hpt,
      Reg.hptStatus, Nat.reduceDiv, ↓without_ite, ↓without_foldl, ite_self, implies_true, List.cons_subset,
      List.nil_subset, and_true, and_self, true_and, h]

theorem State.toHost_without {W : List Part} (s : State) (o : Out) (h : [Part.hpt, .out, .regs 1] ⊆ W) :
    (s.toHost o).without W = s.without W := by
  simp only [List.cons_subset, List.nil_subset, and_true] at h
  simp only [State.toHost, ↓State.linkBusy_without, ↓State.emit_without, ↓without_ite, ↓without_foldl, ite_self,
      implies_true, List.cons_subset, List.nil_subset, and_true, and_self, true_and, h]

theorem State.issueNp_without {W : List Part} (s : State) (fn : Nat) (kind : NpKind) (off len part : Nat)
    (h : [Part.hpt, .out, .regs 1] ⊆ W) :
    (s.issueNp fn kind off len part).without W = s.without W := by
  simp only [List.cons_subset, List.nil_subset, and_true] at h
  unfold State.issueNp
  (repeat' split) <;> simp only [↓State.toHost_without, ↓State.showTags_without, ↓without_hpt, ↓without_ite,
      ↓without_foldl, ite_self, implies_true, List.cons_subset, List.nil_subset, and_true, and_self, true_and, h]

theorem State.readHost_without {W : List Part} (s : State) (fn : Nat) (kind : NpKind) (off len : Nat)
    (part : Nat → Nat) (h : [Part.hpt, .out, .regs 1] ⊆ W) :
    (s.readHost fn kind off len part).without W = s.without W := by
  simp only [List.cons_subset, List.nil_subset, and_true] at h
  simp only [State.readHost, ↓State.issueNp_without, ↓without_ite, ↓without_foldl, ite_self, implies_true,
      List.cons_subset, List.nil_subset, and_true, and_self, true_and, h]

theorem State.askXlat_without {W : List Part} (s : State) (f page : Nat) (h : [Part.hpt, .out, .regs 1] ⊆ W) :
    (s.askXlat f page).without W = s.without W := by
  simp only [List.cons_subset, List.nil_subset, and_true] at h
  simp only [State.askXlat, ↓State.toHost_without, ↓State.inc_without, ↓without_hpt, Reg.hptAtcMissCnt, Nat.reduceDiv,
      ↓without_ite, ↓without_foldl, ite_self, implies_true, List.cons_subset, List.nil_subset, and_true, and_self,
      true_and, h]

theorem State.msix_without {W : List Part} (s : State) (f vec : Nat) (h : [Part.fns, .hpt, .out, .regs 1,
    .regs 3] ⊆ W) :
    (s.msix f vec).without W = s.without W := by
  simp only [List.cons_subset, List.nil_subset, and_true] at h
  simp only [State.msix, ↓State.updFn_without, ↓State.toHost_without, ↓State.inc_without, Reg.hiuMsgCnt,
      Reg.hiuMaskedCnt, Nat.reduceDiv, ↓without_ite, ↓without_foldl, ite_self, implies_true, List.cons_subset,
      List.nil_subset, and_true, and_self, true_and, h]

theorem State.showRing_without {W : List Part} (s : State) (h : [Part.regs 11] ⊆ W) :
    (s.showRing).without W = s.without W := by
  simp only [List.cons_subset, List.nil_subset, and_true] at h
  simp only [State.showRing, ↓State.setBit_without, Reg.mtrStatus, Nat.reduceDiv, ↓without_ite, ↓without_foldl,
      ite_self, implies_true, List.cons_subset, List.nil_subset, and_true, and_self, true_and, h]

theorem State.showTlnRing_without {W : List Part} (s : State) (h : [Part.regs 19] ⊆ W) :
    (s.showTlnRing).without W = s.without W := by
  simp only [List.cons_subset, List.nil_subset, and_true] at h
  simp only [State.showTlnRing, ↓State.setBit_without, Reg.tlnStatus, Nat.reduceDiv, ↓without_ite, ↓without_foldl,
      ite_self, implies_true, List.cons_subset, List.nil_subset, and_true, and_self, true_and, h]

theorem State.internDone_without {W : List Part} (s : State) (e : Intern) (h : [Part.fns, .hpt, .lpb, .out, .regs 1,
    .regs 3, .regs 11, .regs 19] ⊆ W) :
    (s.internDone e).without W = s.without W := by
  simp only [List.cons_subset, List.nil_subset, and_true] at h
  unfold State.internDone
  dsimp only
  repeat' (first | (simp only [↓State.setNum_without, ↓State.toHost_without, ↓State.showRing_without, ↓State.msix_without, ↓State.issueNp_without, ↓State.showTlnRing_without, ↓State.emit_without, ↓without_hpt, ↓without_lpb, Reg.tlnRingProd, Reg.mtrRingProd, Nat.reduceDiv, ↓without_ite, ↓without_foldl, ite_self, implies_true, List.cons_subset, List.nil_subset, and_true, and_self, true_and, h]; done) | split | (refine (without_foldl (fun s a => ?_) _ _).trans ?_) | simp only [↓State.setNum_without, ↓State.toHost_without, ↓State.showRing_without, ↓State.msix_without, ↓State.issueNp_without, ↓State.showTlnRing_without, ↓State.emit_without, ↓without_hpt, ↓without_lpb, Reg.tlnRingProd, Reg.mtrRingProd, Nat.reduceDiv, ↓without_ite, ↓without_foldl, ite_self, implies_true, List.cons_subset, List.nil_subset, and_true, and_self, true_and, h])

theorem State.serveIntern_without {W : List Part} (s : State) (deliver : Bool) (n : Nat) (h : [Part.fns, .hpt, .lpb,
    .out, .regs 1, .regs 3, .regs 11, .regs 19] ⊆ W) :
    (s.serveIntern deliver n).without W = s.without W := by
  simp only [List.cons_subset, List.nil_subset, and_true] at h
  simp only [State.serveIntern, ↓State.internDone_without, ↓without_hpt, ↓without_ite, ↓without_foldl, ite_self,
      implies_true, List.cons_subset, List.nil_subset, and_true, and_self, true_and, h]

theorem State.flushIntern_without {W : List Part} (s : State) (h : [Part.fns, .hpt, .lpb, .out, .regs 1, .regs 3,
    .regs 11, .regs 19] ⊆ W) :
    (s.flushIntern).without W = s.without W := by
  simp only [List.cons_subset, List.nil_subset, and_true] at h
  simp only [State.flushIntern, ↓State.internDone_without, ↓without_hpt, ↓without_ite, ↓without_foldl, ite_self,
      implies_true, List.cons_subset, List.nil_subset, and_true, and_self, true_and, h]

theorem State.internal_without {W : List Part} (s : State) (e : Intern) (h : [Part.fns, .hpt, .lpb, .out, .regs 1,
    .regs 3, .regs 11, .regs 19] ⊆ W) :
    (s.internal e).without W = s.without W := by
  simp only [List.cons_subset, List.nil_subset, and_true] at h
  simp only [State.internal, ↓State.internDone_without, ↓without_hpt, Reg.prxStatus, Nat.reduceDiv, ↓without_ite,
      ↓without_foldl, ite_self, implies_true, List.cons_subset, List.nil_subset, and_true, and_self, true_and, h]

theorem State.internalRead_without {W : List Part} (s : State) (k : Inner) (fn : Nat) (cmd : Option CmdId)
    (addr len : Nat) (h : [Part.fns, .hpt, .lpb, .out, .regs 1, .regs 3, .regs 11, .regs 19] ⊆ W) :
    (s.internalRead k fn cmd addr len).without W = s.without W := by
  simp only [List.cons_subset, List.nil_subset, and_true] at h
  simp only [State.internalRead, ↓State.internal_without, ↓without_ite, ↓without_foldl, ite_self, implies_true,
      List.cons_subset, List.nil_subset, and_true, and_self, true_and, h]

theorem State.dropIntern_without {W : List Part} (s : State) (p : Intern → Bool) (h : [Part.hpt] ⊆ W) :
    (s.dropIntern p).without W = s.without W := by
  simp only [List.cons_subset, List.nil_subset, and_true] at h
  simp only [State.dropIntern, ↓without_hpt, ↓without_ite, ↓without_foldl, ite_self, implies_true, List.cons_subset,
      List.nil_subset, and_true, and_self, true_and, h]

theorem State.abandonNp_without {W : List Part} (s : State) (p : Np → Bool) (quiet : Bool) (h : [Part.hpt,
    .regs 1] ⊆ W) :
    (s.abandonNp p quiet).without W = s.without W := by
  simp only [List.cons_subset, List.nil_subset, and_true] at h
  simp only [State.abandonNp, ↓State.showTags_without, ↓without_hpt, ↓without_ite, ↓without_foldl, ite_self,
      implies_true, List.cons_subset, List.nil_subset, and_true, and_self, true_and, h]

end Sys2Proof.Machine
end

