-- ==== Sys2Proof/Laws/KeepSlots.lean ====
section
/-! SUPPORT. Which parts of the state the operations of Machine/Slots.lean may change: every other part stays. -/
set_option linter.unusedSimpArgs false
set_option linter.unusedVariables false
namespace Sys2Proof.Machine


theorem State.addAdm_without {W : List Part} (s : State) (a : Adm) (h : [Part.prx] ⊆ W) :
    (s.addAdm a).without W = s.without W := by
  simp only [List.cons_subset, List.nil_subset, and_true] at h
  simp only [State.addAdm, ↓without_prx, ↓without_ite, ↓without_foldl, ite_self, implies_true, List.cons_subset,
      List.nil_subset, and_true, and_self, true_and, h]

theorem State.admitOn_without {W : List Part} (s : State) (x : Cmd) (a : Adm) (lanes : List Nat) (h : [Part.prx,
    .cmds] ⊆ W) :
    (s.admitOn x a lanes).without W = s.without W := by
  simp only [List.cons_subset, List.nil_subset, and_true] at h
  unfold State.admitOn
  dsimp only
  (repeat' split) <;> simp only [↓State.meet_without, ↓State.addAdm_without, ↓without_ite, ↓without_foldl, ite_self,
      implies_true, List.cons_subset, List.nil_subset, and_true, and_self, true_and, h]

theorem State.admitAt_without {W : List Part} (s : State) (x : Cmd) (a : Adm) (h : [Part.prx, .cmds] ⊆ W) :
    (s.admitAt x a).without W = s.without W := by
  simp only [List.cons_subset, List.nil_subset, and_true] at h
  have e0 := fun (s : State) (x : Cmd) (a : Adm) (lanes : List Nat) => State.admitOn_without (W := W) s x a lanes (by simp only [List.cons_subset, List.nil_subset, and_true, Nat.reduceDiv, h])
  unfold State.admitAt
  repeat' (first
    | with_reducible rfl
    | with_reducible refine (e0 _ _ _ _).trans ?_)

theorem State.dropAdms_without {W : List Part} (s : State) (p : Adm → Bool) (h : [Part.prx] ⊆ W) :
    (s.dropAdms p).without W = s.without W := by
  simp only [List.cons_subset, List.nil_subset, and_true] at h
  simp only [State.dropAdms, ↓without_prx, ↓without_ite, ↓without_foldl, ite_self, implies_true, List.cons_subset,
      List.nil_subset, and_true, and_self, true_and, h]

theorem State.endAdm_without {W : List Part} (s : State) (a : Adm) (h : [Part.prx] ⊆ W) :
    (s.endAdm a).without W = s.without W := by
  simp only [List.cons_subset, List.nil_subset, and_true] at h
  simp only [State.endAdm, ↓without_prx, ↓without_ite, ↓without_foldl, ite_self, implies_true, List.cons_subset,
      List.nil_subset, and_true, and_self, true_and, h]

theorem State.readmit_without {W : List Part} (s : State) (cause : Nat) (a : Adm) (h : [Part.prx, .cmds] ⊆ W) :
    (s.readmit cause a).without W = s.without W := by
  simp only [List.cons_subset, List.nil_subset, and_true] at h
  unfold State.readmit
  dsimp only
  (repeat' split) <;> simp only [↓State.endAdm_without, ↓State.admitOn_without, ↓State.meet_without, ↓without_ite,
      ↓without_foldl, ite_self, implies_true, List.cons_subset, List.nil_subset, and_true, and_self, true_and, h]

theorem State.conditions_without {W : List Part} (s : State) (h : [Part.prx, .rdp, .evc, .mlk, .out, .regs 5, .regs 13,
    .regs 15] ⊆ W) :
    (s.conditions).without W = s.without W := by
  simp only [List.cons_subset, List.nil_subset, and_true] at h
  unfold State.conditions
  dsimp only
  (repeat' split) <;> simp only [↓State.setBit_without, ↓State.send_without, ↓without_prx, Reg.prxStatus,
      Reg.mlkPairState, Reg.ftbStatus, Nat.reduceDiv, ↓without_ite, ↓without_foldl, ite_self, implies_true,
      List.cons_subset, List.nil_subset, and_true, and_self, true_and, h]

end Sys2Proof.Machine
end

