-- ==== Sys2Proof/Laws/KeepTimebase.lean ====
section
/-! SUPPORT. Which parts of the state the operations of Machine/Timebase.lean may change: every other part stays. -/
set_option linter.unusedSimpArgs false
set_option linter.unusedVariables false
namespace Sys2Proof.Machine


theorem State.setFtbState_without {W : List Part} (s : State) (st : Nat) (h : [Part.evc, .regs 4, .regs 15] ⊆ W) :
    (s.setFtbState st).without W = s.without W := by
  simp only [List.cons_subset, List.nil_subset, and_true] at h
  simp only [State.setFtbState, ↓State.setField_without, ↓State.raise_without, Reg.ftbEvent, Reg.ftbStatus,
      Nat.reduceDiv, ↓without_ite, ↓without_foldl, ite_self, implies_true, List.cons_subset, List.nil_subset, and_true,
      and_self, true_and, h]

theorem State.showClkSrc_without {W : List Part} (s : State) (h : [Part.regs 4] ⊆ W) :
    (s.showClkSrc).without W = s.without W := by
  simp only [List.cons_subset, List.nil_subset, and_true] at h
  simp only [State.showClkSrc, ↓State.setBit_without, Reg.ftbStatus, Nat.reduceDiv, ↓without_ite, ↓without_foldl,
      ite_self, implies_true, List.cons_subset, List.nil_subset, and_true, and_self, true_and, h]

theorem State.settleFtb_without {W : List Part} (s : State) (h : [Part.evc, .regs 4, .regs 15] ⊆ W) :
    (s.settleFtb).without W = s.without W := by
  simp only [List.cons_subset, List.nil_subset, and_true] at h
  simp only [State.settleFtb, ↓State.setFtbState_without, ↓State.showClkSrc_without, ↓without_ite, ↓without_foldl,
      ite_self, implies_true, List.cons_subset, List.nil_subset, and_true, and_self, true_and, h]

theorem State.frefLost_without {W : List Part} (s : State) (h : [Part.ftb, .evc, .log, .regs 4, .regs 15,
    .regs 20] ⊆ W) :
    (s.frefLost).without W = s.without W := by
  simp only [List.cons_subset, List.nil_subset, and_true] at h
  simp only [State.frefLost, ↓State.countErr_without, ↓State.setBit_without, ↓State.raise_without,
      ↓State.settleFtb_without, ↓without_ftb, Reg.ftbFrefLossCnt, Reg.ftbEvent, Reg.ftbStatus, Nat.reduceDiv,
      ↓without_ite, ↓without_foldl, ite_self, implies_true, List.cons_subset, List.nil_subset, and_true, and_self,
      true_and, h]

theorem State.frefGood_without {W : List Part} (s : State) (h : [Part.ftb, .evc, .regs 4, .regs 15] ⊆ W) :
    (s.frefGood).without W = s.without W := by
  simp only [List.cons_subset, List.nil_subset, and_true] at h
  simp only [State.frefGood, ↓State.setBit_without, ↓State.settleFtb_without, ↓without_ftb, Reg.ftbStatus,
      Nat.reduceDiv, ↓without_ite, ↓without_foldl, ite_self, implies_true, List.cons_subset, List.nil_subset, and_true,
      and_self, true_and, h]

theorem State.ppsLost_without {W : List Part} (s : State) (h : [Part.ftb, .evc, .regs 4, .regs 15] ⊆ W) :
    (s.ppsLost).without W = s.without W := by
  simp only [List.cons_subset, List.nil_subset, and_true] at h
  simp only [State.ppsLost, ↓State.setBit_without, ↓State.raise_without, ↓State.settleFtb_without, ↓without_ftb,
      Reg.ftbEvent, Reg.ftbStatus, Nat.reduceDiv, ↓without_ite, ↓without_foldl, ite_self, implies_true,
      List.cons_subset, List.nil_subset, and_true, and_self, true_and, h]

theorem State.dpllDisable_without {W : List Part} (s : State) (h : [Part.ftb, .evc, .regs 4, .regs 15] ⊆ W) :
    (s.dpllDisable).without W = s.without W := by
  simp only [List.cons_subset, List.nil_subset, and_true] at h
  simp only [State.dpllDisable, ↓State.setNum_without, ↓State.setBit_without, ↓State.setFtbState_without,
      ↓State.showClkSrc_without, ↓without_ftb, Reg.ftbCtl, Reg.ftbFreqAdj, Reg.ftbStatus, Nat.reduceDiv, ↓without_ite,
      ↓without_foldl, ite_self, implies_true, List.cons_subset, List.nil_subset, and_true, and_self, true_and, h]

theorem State.edgeSeen_without {W : List Part} (s : State) (errNs : Int) (h : [Part.ftb, .draw, .regs 4] ⊆ W) :
    (s.edgeSeen errNs).without W = s.without W := by
  simp only [List.cons_subset, List.nil_subset, and_true] at h
  simp only [State.edgeSeen, ↓State.setInt_without, ↓State.drawn_without, ↓without_ftb, Reg.ftbCtl, Reg.ftbPhaseErr,
      Reg.ftbFreqAdj, Nat.reduceDiv, ↓without_ite, ↓without_foldl, ite_self, implies_true, List.cons_subset,
      List.nil_subset, and_true, and_self, true_and, h]

theorem State.lockedEdge_without {W : List Part} (s : State) (errNs crystalPpb : Int) (h : [Part.ftb, .evc, .log,
    .draw, .regs 4, .regs 15, .regs 20] ⊆ W) :
    (s.lockedEdge errNs crystalPpb).without W = s.without W := by
  simp only [List.cons_subset, List.nil_subset, and_true] at h
  simp only [State.lockedEdge, ↓State.countErr_without, ↓State.edgeSeen_without, ↓without_ftb, Reg.ftbPpsRejectCnt,
      Nat.reduceDiv, ↓without_ite, ↓without_foldl, ite_self, implies_true, List.cons_subset, List.nil_subset, and_true,
      and_self, true_and, h]

theorem State.goodEdge_without {W : List Part} (s : State) (errNs crystalPpb : Int) (h : [Part.ftb, .evc, .regs 4,
    .regs 15] ⊆ W) :
    (s.goodEdge errNs crystalPpb).without W = s.without W := by
  simp only [List.cons_subset, List.nil_subset, and_true] at h
  simp only [State.goodEdge, ↓State.setBit_without, ↓State.setFtbState_without, ↓State.showClkSrc_without,
      ↓without_ftb, Reg.ftbStatus, Nat.reduceDiv, ↓without_ite, ↓without_foldl, ite_self, implies_true,
      List.cons_subset, List.nil_subset, and_true, and_self, true_and, h]

theorem State.setStepped_without {W : List Part} (s : State) (b : Bool) (h : [Part.ftb] ⊆ W) :
    (s.setStepped b).without W = s.without W := by
  simp only [List.cons_subset, List.nil_subset, and_true] at h
  simp only [State.setStepped, ↓without_ftb, ↓without_ite, ↓without_foldl, ite_self, implies_true, List.cons_subset,
      List.nil_subset, and_true, and_self, true_and, h]

theorem State.restartRun_without {W : List Part} (s : State) (h : [Part.ftb] ⊆ W) :
    (s.restartRun).without W = s.without W := by
  simp only [List.cons_subset, List.nil_subset, and_true] at h
  simp only [State.restartRun, ↓without_ftb, ↓without_ite, ↓without_foldl, ite_self, implies_true, List.cons_subset,
      List.nil_subset, and_true, and_self, true_and, h]

theorem State.freeEdge_without {W : List Part} (s : State) (errNs : Int) (sinceNs : Nat) (crystalPpb : Int)
    (h : [Part.ftb, .evc, .draw, .regs 4, .regs 15] ⊆ W) :
    (s.freeEdge errNs sinceNs crystalPpb).1.without W = s.without W := by
  simp only [List.cons_subset, List.nil_subset, and_true] at h
  unfold State.freeEdge
  dsimp only
  (repeat' split) <;> simp only [↓State.setBit_without, ↓State.restartRun_without, ↓State.goodEdge_without,
      ↓State.edgeSeen_without, ↓State.setStepped_without, ↓without_ftb, Reg.ftbCtl, Reg.ftbStatus, Nat.reduceDiv,
      ↓without_ite, ↓without_foldl, ite_self, implies_true, List.cons_subset, List.nil_subset, and_true, and_self,
      true_and, h]

theorem State.fsyncEdge_without {W : List Part} (s : State) (offNs : Int) (h : [Part.ftb, .evc, .log, .regs 4,
    .regs 15, .regs 20] ⊆ W) :
    (s.fsyncEdge offNs).without W = s.without W := by
  simp only [List.cons_subset, List.nil_subset, and_true] at h
  simp only [State.fsyncEdge, ↓State.setInt_without, ↓State.countErr_without, ↓State.setBit_without,
      ↓State.raise_without, ↓without_ftb, Reg.ftbCtl, Reg.ftbFsyncTol, Reg.ftbFsyncOffset, Reg.ftbFsyncSlipCnt,
      Reg.ftbEvent, Reg.ftbStatus, Nat.reduceDiv, ↓without_ite, ↓without_foldl, ite_self, implies_true,
      List.cons_subset, List.nil_subset, and_true, and_self, true_and, h]

theorem State.fsyncLost_without {W : List Part} (s : State) (h : [Part.regs 4] ⊆ W) :
    (s.fsyncLost).without W = s.without W := by
  simp only [List.cons_subset, List.nil_subset, and_true] at h
  simp only [State.fsyncLost, ↓State.setBit_without, ↓State.when_without, Reg.ftbStatus, Nat.reduceDiv, ↓without_ite,
      ↓without_foldl, ite_self, implies_true, List.cons_subset, List.nil_subset, and_true, and_self, true_and, h]

theorem State.todSecWrite_without {W : List Part} (s : State) (hi : Bool) (v : Word) (h : [Part.evc, .regs 4,
    .regs 15] ⊆ W) :
    (s.todSecWrite hi v).without W = s.without W := by
  simp only [List.cons_subset, List.nil_subset, and_true] at h
  simp only [State.todSecWrite, ↓State.setReg_without, ↓State.raise_without, Reg.ftbTodCtl, Reg.ftbTodSec,
      Reg.ftbEvent, Reg.ftbTodSecHi, Nat.reduceDiv, ↓without_ite, ↓without_foldl, ite_self, implies_true,
      List.cons_subset, List.nil_subset, and_true, and_self, true_and, h]

theorem State.todArm_without {W : List Part} (s : State) (h : [Part.ftb, .regs 4] ⊆ W) :
    (s.todArm).without W = s.without W := by
  simp only [List.cons_subset, List.nil_subset, and_true] at h
  simp only [State.todArm, ↓State.setBit_without, ↓without_ftb, Reg.ftbTodCtl, Nat.reduceDiv, ↓without_ite,
      ↓without_foldl, ite_self, implies_true, List.cons_subset, List.nil_subset, and_true, and_self, true_and, h]

theorem State.todRefuse_without {W : List Part} (s : State) (h : [Part.evc, .regs 4, .regs 15] ⊆ W) :
    (s.todRefuse).without W = s.without W := by
  simp only [List.cons_subset, List.nil_subset, and_true] at h
  simp only [State.todRefuse, ↓State.setBit_without, ↓State.raise_without, Reg.ftbTodCtl, Reg.ftbEvent, Nat.reduceDiv,
      ↓without_ite, ↓without_foldl, ite_self, implies_true, List.cons_subset, List.nil_subset, and_true, and_self,
      true_and, h]

theorem State.todAccept_without {W : List Part} (s : State) (h : [Part.evc, .regs 4, .regs 15] ⊆ W) :
    (s.todAccept).without W = s.without W := by
  simp only [List.cons_subset, List.nil_subset, and_true] at h
  simp only [State.todAccept, ↓State.setBit_without, ↓State.raise_without, Reg.ftbTodCtl, Reg.ftbEvent, Reg.ftbStatus,
      Nat.reduceDiv, ↓without_ite, ↓without_foldl, ite_self, implies_true, List.cons_subset, List.nil_subset, and_true,
      and_self, true_and, h]

theorem State.frameCounterRead_without {W : List Part} (s : State) (h : [Part.out, .regs 4] ⊆ W) :
    (s.frameCounterRead).without W = s.without W := by
  simp only [List.cons_subset, List.nil_subset, and_true] at h
  simp only [State.frameCounterRead, ↓State.setNum_without, ↓State.emit_without, Reg.ftbCell, Reg.ftbFrameHi,
      Nat.reduceDiv, ↓without_ite, ↓without_foldl, ite_self, implies_true, List.cons_subset, List.nil_subset, and_true,
      and_self, true_and, h]

theorem State.raiseSkew_without {W : List Part} (s : State) (tell : Bool) (h : [Part.ftb, .prx, .rdp, .evc, .mlk, .log,
    .out, .regs 4, .regs 5, .regs 13, .regs 15, .regs 20] ⊆ W) :
    (s.raiseSkew tell).without W = s.without W := by
  simp only [List.cons_subset, List.nil_subset, and_true] at h
  simp only [State.raiseSkew, ↓State.countErr_without, ↓State.conditions_without, ↓State.setBit_without,
      ↓State.raise_without, ↓State.send_without, ↓without_ftb, Reg.ftbPairSkewCnt, Reg.ftbEvent, Reg.ftbStatus,
      Nat.reduceDiv, ↓without_ite, ↓without_foldl, ite_self, implies_true, List.cons_subset, List.nil_subset, and_true,
      and_self, true_and, h]

theorem State.skewHeartbeat_without {W : List Part} (s : State) (hbFrame n : Nat) (h : [Part.ftb, .rdp, .evc, .mlk,
    .out, .regs 13, .regs 15] ⊆ W) :
    (s.skewHeartbeat hbFrame n).without W = s.without W := by
  simp only [List.cons_subset, List.nil_subset, and_true] at h
  simp only [State.skewHeartbeat, ↓State.send_without, ↓without_ftb, ↓without_ite, ↓without_foldl, ite_self,
      implies_true, List.cons_subset, List.nil_subset, and_true, and_self, true_and, h]

theorem State.skewMeasured_without {W : List Part} (s : State) (hb : Heartbeat) (h : [Part.ftb, .prx, .rdp, .evc, .mlk,
    .log, .out, .draw, .regs 4, .regs 5, .regs 13, .regs 15, .regs 20] ⊆ W) :
    (s.skewMeasured hb).without W = s.without W := by
  simp only [List.cons_subset, List.nil_subset, and_true] at h
  simp only [State.skewMeasured, ↓State.setReg_without, ↓State.setInt_without, ↓State.skewHeartbeat_without,
      ↓State.raiseSkew_without, ↓State.drawn_without, Reg.ftbPairSkew, Reg.ftbStatus, Nat.reduceDiv, ↓without_ite,
      ↓without_foldl, ite_self, implies_true, List.cons_subset, List.nil_subset, and_true, and_self, true_and, h]

theorem State.skewProposal_without {W : List Part} (s : State) (frame : Nat) (h : [Part.ftb] ⊆ W) :
    (s.skewProposal frame).without W = s.without W := by
  simp only [List.cons_subset, List.nil_subset, and_true] at h
  simp only [State.skewProposal, ↓without_ftb, Reg.ftbStatus, Nat.reduceDiv, ↓without_ite, ↓without_foldl, ite_self,
      implies_true, List.cons_subset, List.nil_subset, and_true, and_self, true_and, h]

theorem State.pairSkewClear_without {W : List Part} (s : State) (h : [Part.ftb, .prx, .rdp, .evc, .mlk, .log, .out,
    .regs 4, .regs 5, .regs 13, .regs 15, .regs 20] ⊆ W) :
    (s.pairSkewClear).without W = s.without W := by
  simp only [List.cons_subset, List.nil_subset, and_true] at h
  unfold State.pairSkewClear
  (repeat' split) <;> simp only [↓State.conditions_without, ↓State.setBit_without, ↓State.raise_without,
      ↓State.raiseSkew_without, ↓without_ftb, Reg.ftbEvent, Reg.ftbStatus, Nat.reduceDiv, ↓without_ite, ↓without_foldl,
      ite_self, implies_true, List.cons_subset, List.nil_subset, and_true, and_self, true_and, h]

end Sys2Proof.Machine
end

