-- ==== Sys2Proof/Laws/KeepTenancy.lean ====
section
/-! SUPPORT. Which parts of the state the operations of Machine/Tenancy.lean may change: every other part stays. -/
set_option linter.unusedSimpArgs false
set_option linter.unusedVariables false
namespace Sys2Proof.Machine


theorem State.trim_without {W : List Part} (s : State) (vf dir v : Nat) (h : [Part.prx] ⊆ W) :
    (s.trim vf dir v).without W = s.without W := by
  simp only [List.cons_subset, List.nil_subset, and_true] at h
  unfold State.trim
  (repeat' split) <;> simp only [↓without_prx, ↓without_ite, ↓without_foldl, ite_self, implies_true, List.cons_subset,
      List.nil_subset, and_true, and_self, true_and, h]

theorem State.refillAll_without {W : List Part} (s : State) (gcOld : Nat) (h : [Part.prx, .tenants] ⊆ W) :
    (s.refillAll gcOld).without W = s.without W := by
  simp only [List.cons_subset, List.nil_subset, and_true] at h
  unfold State.refillAll
  (repeat' split) <;> simp only [↓without_prx, ↓without_tenants, ↓without_ite, ↓without_foldl, ite_self, implies_true,
      List.cons_subset, List.nil_subset, and_true, and_self, true_and, h]

theorem State.switchTenants_without {W : List Part} (s : State) (old : Option Image) (new : Image) (h : [Part.prx,
    .tenants] ⊆ W) :
    (s.switchTenants old new).without W = s.without W := by
  simp only [List.cons_subset, List.nil_subset, and_true] at h
  unfold State.switchTenants
  (repeat' split) <;> simp only [↓without_prx, ↓without_tenants, ↓without_ite, ↓without_foldl, ite_self, implies_true,
      List.cons_subset, List.nil_subset, and_true, and_self, true_and, h]

theorem State.tokenTrim_without {W : List Part} (s : State) (v : Word) (h : [Part.prx] ⊆ W) :
    (s.tokenTrim v).without W = s.without W := by
  simp only [List.cons_subset, List.nil_subset, and_true] at h
  simp only [State.tokenTrim, ↓State.trim_without, Reg.prxTrimSel, Nat.reduceDiv, ↓without_ite, ↓without_foldl,
      ite_self, implies_true, List.cons_subset, List.nil_subset, and_true, and_self, true_and, h]

end Sys2Proof.Machine
end

