-- ==== Sys2Proof/Laws/KeepPrism.lean ====
section
/-! SUPPORT. Which parts of the state the operations of Machine/Prism.lean may change: every other part stays. -/
set_option linter.unusedSimpArgs false
set_option linter.unusedVariables false
namespace Sys2Proof.Machine


theorem State.dropStaged_without {W : List Part} (s : State) (h : [Part.prx, .regs 5] ⊆ W) :
    (s.dropStaged).without W = s.without W := by
  simp only [List.cons_subset, List.nil_subset, and_true] at h
  simp only [State.dropStaged, ↓State.setNum_without, ↓State.setBit_without, ↓without_prx, Reg.prxStagedId,
      Reg.prxStatus, Nat.reduceDiv, ↓without_ite, ↓without_foldl, ite_self, implies_true, List.cons_subset,
      List.nil_subset, and_true, and_self, true_and, h]

theorem State.loadFailed_without {W : List Part} (s : State) (e : LoadErr) (h : [Part.evc, .log, .regs 5, .regs 15,
    .regs 20] ⊆ W) :
    (s.loadFailed e).without W = s.without W := by
  simp only [List.cons_subset, List.nil_subset, and_true] at h
  simp only [State.loadFailed, ↓State.countErr_without, ↓State.setNum_without, ↓State.raise_without,
      Reg.prxLoadFailCnt, Reg.prxEvent, Reg.prxLoadStatus, Reg.prxLoadErrEntry, Nat.reduceDiv, ↓without_ite,
      ↓without_foldl, ite_self, implies_true, List.cons_subset, List.nil_subset, and_true, and_self, true_and, h]

theorem State.loadStart_without {W : List Part} (s : State) (h : [Part.prx, .fns, .hpt, .evc, .log, .lpb, .out,
    .regs 1, .regs 3, .regs 5, .regs 11, .regs 15, .regs 19, .regs 20] ⊆ W) :
    (s.loadStart).without W = s.without W := by
  simp only [List.cons_subset, List.nil_subset, and_true] at h
  simp only [State.loadStart, ↓State.loadFailed_without, ↓State.setBit_without, ↓State.dropStaged_without,
      ↓State.internalRead_without, Reg.prxLoadAddrLo, Reg.prxLoadLen, Reg.secStatus, Reg.prxStatus, Nat.reduceDiv,
      ↓without_ite, ↓without_foldl, ite_self, implies_true, List.cons_subset, List.nil_subset, and_true, and_self,
      true_and, h]

theorem State.stage_without {W : List Part} (s : State) (i : Image) (h : [Part.prx, .regs 5] ⊆ W) :
    (s.stage i).without W = s.without W := by
  simp only [List.cons_subset, List.nil_subset, and_true] at h
  simp only [State.stage, ↓State.setReg_without, ↓State.setBit_without, ↓without_prx, Reg.prxStagedId, Reg.prxStatus,
      Nat.reduceDiv, ↓without_ite, ↓without_foldl, ite_self, implies_true, List.cons_subset, List.nil_subset, and_true,
      and_self, true_and, h]

theorem State.noteLoad_without {W : List Part} (s : State) (o : OpOutcome) (h : [Part.sec] ⊆ W) :
    (s.noteLoad o).without W = s.without W := by
  simp only [List.cons_subset, List.nil_subset, and_true] at h
  simp only [State.noteLoad, ↓without_sec, ↓without_ite, ↓without_foldl, ite_self, implies_true, List.cons_subset,
      List.nil_subset, and_true, and_self, true_and, h]

theorem State.checksDone_without {W : List Part} (s : State) (b : List Byte) (h : [Part.prx, .evc, .log, .sec, .regs 5,
    .regs 15, .regs 20] ⊆ W) :
    (s.checksDone b).without W = s.without W := by
  simp only [List.cons_subset, List.nil_subset, and_true] at h
  unfold State.checksDone
  (repeat' split) <;> simp only [↓State.loadFailed_without, ↓State.setNum_without, ↓State.setBit_without,
      ↓State.noteLoad_without, ↓State.stage_without, ↓State.raise_without, Reg.prxStatus, Reg.prxEvent,
      Reg.prxLoadStatus, Reg.prxLoadErrEntry, Nat.reduceDiv, ↓without_ite, ↓without_foldl, ite_self, implies_true,
      List.cons_subset, List.nil_subset, and_true, and_self, true_and, h]

theorem State.imageLost_without {W : List Part} (s : State) (h : [Part.hpt, .evc, .log, .sec, .draw, .regs 5, .regs 15,
    .regs 20] ⊆ W) :
    (s.imageLost).without W = s.without W := by
  simp only [List.cons_subset, List.nil_subset, and_true] at h
  simp only [State.imageLost, ↓State.loadFailed_without, ↓State.dropIntern_without, ↓State.setBit_without,
      ↓State.noteLoad_without, ↓State.drawn_without, Reg.prxStatus, Nat.reduceDiv, ↓without_ite, ↓without_foldl,
      ite_self, implies_true, List.cons_subset, List.nil_subset, and_true, and_self, true_and, h]

theorem State.discardStaged_without {W : List Part} (s : State) (h : [Part.prx, .regs 5] ⊆ W) :
    (s.discardStaged).without W = s.without W := by
  simp only [List.cons_subset, List.nil_subset, and_true] at h
  simp only [State.discardStaged, ↓State.dropStaged_without, ↓without_ite, ↓without_foldl, ite_self, implies_true,
      List.cons_subset, List.nil_subset, and_true, and_self, true_and, h]

theorem State.clearArm_without {W : List Part} (s : State) (h : [Part.prx, .mcr, .regs 5] ⊆ W) :
    (s.clearArm).without W = s.without W := by
  simp only [List.cons_subset, List.nil_subset, and_true] at h
  simp only [State.clearArm, ↓State.setBit_without, ↓without_prx_mcr, Reg.prxArm, Reg.prxStatus, Nat.reduceDiv,
      ↓without_ite, ↓without_foldl, ite_self, implies_true, List.cons_subset, List.nil_subset, and_true, and_self,
      true_and, h]

theorem State.reportArm_without {W : List Part} (s : State) (v : ArmVerdict) (h : [Part.rdp, .evc, .mlk, .out,
    .regs 13, .regs 15] ⊆ W) :
    (s.reportArm v).without W = s.without W := by
  simp only [List.cons_subset, List.nil_subset, and_true] at h
  unfold State.reportArm
  (repeat' split) <;> simp only [↓State.send_without, ↓without_ite, ↓without_foldl, ite_self, implies_true,
      List.cons_subset, List.nil_subset, and_true, and_self, true_and, h]

theorem State.refuseArm_without {W : List Part} (s : State) (err : Nat) (h : [Part.prx, .rdp, .mcr, .evc, .mlk, .log,
    .out, .regs 5, .regs 13, .regs 15, .regs 20] ⊆ W) :
    (s.refuseArm err).without W = s.without W := by
  simp only [List.cons_subset, List.nil_subset, and_true] at h
  simp only [State.refuseArm, ↓State.countErr_without, ↓State.setNum_without, ↓State.reportArm_without,
      ↓State.raise_without, ↓State.clearArm_without, Reg.prxArmFailCnt, Reg.prxArmStatus, Reg.prxEvent, Nat.reduceDiv,
      ↓without_ite, ↓without_foldl, ite_self, implies_true, List.cons_subset, List.nil_subset, and_true, and_self,
      true_and, h]

theorem State.completeArm_without {W : List Part} (s : State) (a : Nat) (both : Bool) (h : [Part.prx, .rdp, .mcr, .evc,
    .mlk, .log, .out, .regs 5, .regs 13, .regs 15, .regs 20] ⊆ W) :
    (s.completeArm a both).without W = s.without W := by
  simp only [List.cons_subset, List.nil_subset, and_true] at h
  unfold State.completeArm
  (repeat' split) <;> simp only [↓State.setNum_without, ↓State.setBit_without, ↓State.refuseArm_without, ↓without_prx,
      Reg.prxArmStatus, Reg.prxStatus, Nat.reduceDiv, ↓without_ite, ↓without_foldl, ite_self, implies_true,
      List.cons_subset, List.nil_subset, and_true, and_self, true_and, h]

theorem State.meetPeerArm_without {W : List Part} (s : State) (r : ArmReport) (h : [Part.prx, .rdp, .mcr, .evc, .mlk,
    .log, .out, .regs 5, .regs 13, .regs 15, .regs 20] ⊆ W) :
    (s.meetPeerArm r).without W = s.without W := by
  simp only [List.cons_subset, List.nil_subset, and_true] at h
  unfold State.meetPeerArm
  (repeat' split) <;> simp only [↓State.refuseArm_without, ↓State.completeArm_without, ↓without_ite, ↓without_foldl,
      ite_self, implies_true, List.cons_subset, List.nil_subset, and_true, and_self, true_and, h]

theorem State.acceptArm_without {W : List Part} (s₀ : State) (h : [Part.prx, .rdp, .mcr, .evc, .mlk, .log, .out,
    .regs 5, .regs 13, .regs 15, .regs 20] ⊆ W) :
    (s₀.acceptArm).without W = s₀.without W := by
  simp only [List.cons_subset, List.nil_subset, and_true] at h
  unfold State.acceptArm
  dsimp only
  (repeat' split) <;> simp only [↓State.refuseArm_without, ↓State.completeArm_without, ↓State.reportArm_without,
      ↓State.meetPeerArm_without, ↓without_prx, ↓without_ite, ↓without_foldl, ite_self, implies_true, List.cons_subset,
      List.nil_subset, and_true, and_self, true_and, h]

theorem State.arm_without {W : List Part} (s : State) (h : [Part.prx, .rdp, .mcr, .evc, .mlk, .log, .out, .regs 5,
    .regs 13, .regs 15, .regs 20] ⊆ W) :
    (s.arm).without W = s.without W := by
  simp only [List.cons_subset, List.nil_subset, and_true] at h
  unfold State.arm
  (repeat' split) <;> simp only [↓State.setBit_without, ↓State.acceptArm_without, ↓without_mcr, Reg.prxArm,
      Nat.reduceDiv, ↓without_ite, ↓without_foldl, ite_self, implies_true, List.cons_subset, List.nil_subset, and_true,
      and_self, true_and, h]

theorem State.armReport_without {W : List Part} (s : State) (r : ArmReport) (h : [Part.prx, .rdp, .mcr, .evc, .mlk,
    .log, .out, .regs 5, .regs 13, .regs 15, .regs 20] ⊆ W) :
    (s.armReport r).without W = s.without W := by
  simp only [List.cons_subset, List.nil_subset, and_true] at h
  unfold State.armReport
  (repeat' split) <;> simp only [↓State.refuseArm_without, ↓State.meetPeerArm_without, ↓without_prx, ↓without_ite,
      ↓without_foldl, ite_self, implies_true, List.cons_subset, List.nil_subset, and_true, and_self, true_and, h]

theorem State.armTimeout_without {W : List Part} (s : State) (h : [Part.prx, .rdp, .mcr, .evc, .mlk, .log, .out,
    .regs 5, .regs 13, .regs 15, .regs 20] ⊆ W) :
    (s.armTimeout).without W = s.without W := by
  simp only [List.cons_subset, List.nil_subset, and_true] at h
  simp only [State.armTimeout, ↓State.refuseArm_without, ↓without_ite, ↓without_foldl, ite_self, implies_true,
      List.cons_subset, List.nil_subset, and_true, and_self, true_and, h]

theorem State.armAlone_without {W : List Part} (s : State) (h : [Part.prx, .rdp, .mcr, .evc, .mlk, .log, .out, .regs 5,
    .regs 13, .regs 15, .regs 20] ⊆ W) :
    (s.armAlone).without W = s.without W := by
  simp only [List.cons_subset, List.nil_subset, and_true] at h
  simp only [State.armAlone, ↓State.completeArm_without, ↓without_ite, ↓without_foldl, ite_self, implies_true,
      List.cons_subset, List.nil_subset, and_true, and_self, true_and, h]

theorem State.disarm_without {W : List Part} (s : State) (h : [Part.prx, .rdp, .mcr, .evc, .mlk, .out, .regs 5,
    .regs 13, .regs 15] ⊆ W) :
    (s.disarm).without W = s.without W := by
  simp only [List.cons_subset, List.nil_subset, and_true] at h
  simp only [State.disarm, ↓State.reportArm_without, ↓State.clearArm_without, ↓without_ite, ↓without_foldl, ite_self,
      implies_true, List.cons_subset, List.nil_subset, and_true, and_self, true_and, h]

theorem State.commit_without {W : List Part} (s : State) (h : [Part.prx] ⊆ W) :
    (s.commit).without W = s.without W := by
  simp only [List.cons_subset, List.nil_subset, and_true] at h
  simp only [State.commit, ↓without_prx, ↓without_ite, ↓without_foldl, ite_self, implies_true, List.cons_subset,
      List.nil_subset, and_true, and_self, true_and, h]

theorem State.parkPend_without {W : List Part} (s : State) (h : [Part.prx, .regs 5] ⊆ W) :
    (s.parkPend).without W = s.without W := by
  simp only [List.cons_subset, List.nil_subset, and_true] at h
  simp only [State.parkPend, ↓State.setField_without, ↓without_prx, Reg.prxStatus, Nat.reduceDiv, ↓without_ite,
      ↓without_foldl, ite_self, implies_true, List.cons_subset, List.nil_subset, and_true, and_self, true_and, h]

theorem State.parkRequest_without {W : List Part} (s : State) (h : [Part.prx, .rdp, .mcr, .evc, .mlk, .log, .out,
    .regs 5, .regs 13, .regs 15, .regs 20] ⊆ W) :
    (s.parkRequest).without W = s.without W := by
  simp only [List.cons_subset, List.nil_subset, and_true] at h
  simp only [State.parkRequest, ↓State.refuseArm_without, ↓State.parkPend_without, ↓without_prx, ↓without_ite,
      ↓without_foldl, ite_self, implies_true, List.cons_subset, List.nil_subset, and_true, and_self, true_and, h]

theorem State.enterPark_without {W : List Part} (s : State) (h : [Part.prx, .rdp, .fns, .hpt, .evc, .mlk, .mtr, .lpb,
    .out, .regs 1, .regs 3, .regs 5, .regs 9, .regs 11, .regs 13, .regs 15, .regs 19] ⊆ W) :
    (s.enterPark).without W = s.without W := by
  simp only [List.cons_subset, List.nil_subset, and_true] at h
  unfold State.enterPark
  (repeat' split) <;> simp only [↓State.pump_without, ↓State.setField_without, ↓State.setNum_without,
      ↓State.stage_without, ↓State.raise_without, ↓State.flushIntern_without, ↓State.send_without, ↓without_mlk,
      ↓without_mtr, ↓without_prx, Reg.prxActiveId, Reg.prxStatus, Reg.prxEvent, Reg.mcrGcFactor, Reg.prxPhaseLocal,
      Nat.reduceDiv, ↓without_ite, ↓without_foldl, ite_self, implies_true, List.cons_subset, List.nil_subset, and_true,
      and_self, true_and, h]

theorem State.variantChanged_without {W : List Part} (s : State) (v : Nat) (h : [Part.rdp, .evc, .mlk, .out, .regs 5,
    .regs 13, .regs 15] ⊆ W) :
    (s.variantChanged v).without W = s.without W := by
  simp only [List.cons_subset, List.nil_subset, and_true] at h
  simp only [State.variantChanged, ↓State.setField_without, ↓State.raise_without, ↓State.inc_without,
      ↓State.send_without, Reg.prxStatus, Reg.prxFrameTrigger, Reg.prxEvent, Reg.prxVariantCnt, Nat.reduceDiv,
      ↓without_ite, ↓without_foldl, ite_self, implies_true, List.cons_subset, List.nil_subset, and_true, and_self,
      true_and, h]

theorem State.imageSwitch_without {W : List Part} (s : State) (h : [Part.prx, .tenants, .rdp, .wrp, .evc, .mlk, .mtr,
    .out, .regs 5, .regs 9, .regs 13, .regs 15] ⊆ W) :
    (s.imageSwitch).without W = s.without W := by
  simp only [List.cons_subset, List.nil_subset, and_true] at h
  unfold State.imageSwitch
  (repeat' split) <;> simp only [↓State.setReg_without, ↓State.setField_without, ↓State.setNum_without,
      ↓State.conditions_without, ↓State.setBit_without, ↓State.switchTenants_without, ↓State.variantChanged_without,
      ↓State.raise_without, ↓State.inc_without, ↓State.parkPend_without, ↓State.send_without, ↓without_prx,
      ↓without_wrp_mtr, Reg.prxArm, Reg.prxActiveId, Reg.prxStagedId, Reg.wrpCtl, Reg.prxSwitchCnt, Reg.prxStatus,
      Reg.prxEvent, Reg.mcrWaAssumed, Reg.prxPhaseLocal, Nat.reduceDiv, ↓without_ite, ↓without_foldl, ite_self,
      implies_true, List.cons_subset, List.nil_subset, and_true, and_self, true_and, h]

theorem State.variantSwitch_without {W : List Part} (s : State) (h : [Part.prx, .cmds, .rdp, .evc, .mlk, .out, .regs 5,
    .regs 13, .regs 15] ⊆ W) :
    (s.variantSwitch).without W = s.without W := by
  simp only [List.cons_subset, List.nil_subset, and_true] at h
  unfold State.variantSwitch
  (repeat' split) <;> simp only [↓State.conditions_without, ↓State.variantChanged_without, ↓State.readmit_without,
      ↓without_prx, ↓without_ite, ↓without_foldl, ite_self, implies_true, List.cons_subset, List.nil_subset, and_true,
      and_self, true_and, h]

theorem State.junctionSample_without {W : List Part} (s : State) (t256 : Int) (h : [Part.prx, .rdp, .evc, .mlk, .out,
    .regs 5, .regs 13, .regs 15] ⊆ W) :
    (s.junctionSample t256).without W = s.without W := by
  simp only [List.cons_subset, List.nil_subset, and_true] at h
  simp only [State.junctionSample, ↓State.conditions_without, ↓without_prx, ↓without_ite, ↓without_foldl, ite_self,
      implies_true, List.cons_subset, List.nil_subset, and_true, and_self, true_and, h]

theorem State.thermalClear_without {W : List Part} (s : State) (h : [Part.prx, .rdp, .evc, .mlk, .out, .regs 5,
    .regs 13, .regs 15] ⊆ W) :
    (s.thermalClear).without W = s.without W := by
  simp only [List.cons_subset, List.nil_subset, and_true] at h
  simp only [State.thermalClear, ↓State.conditions_without, ↓without_prx, ↓without_ite, ↓without_foldl, ite_self,
      implies_true, List.cons_subset, List.nil_subset, and_true, and_self, true_and, h]

theorem State.phaseClear_without {W : List Part} (s : State) (h : [Part.prx, .rdp, .evc, .mlk, .out, .regs 5, .regs 13,
    .regs 15] ⊆ W) :
    (s.phaseClear).without W = s.without W := by
  simp only [List.cons_subset, List.nil_subset, and_true] at h
  simp only [State.phaseClear, ↓State.conditions_without, ↓without_prx, ↓without_ite, ↓without_foldl, ite_self,
      implies_true, List.cons_subset, List.nil_subset, and_true, and_self, true_and, h]

theorem State.phaseHeartbeat_without {W : List Part} (s : State) (digest : List Byte) (park : Bool) (h : [Part.prx,
    .rdp, .evc, .mlk, .out, .regs 5, .regs 13, .regs 15] ⊆ W) :
    (s.phaseHeartbeat digest park).without W = s.without W := by
  simp only [List.cons_subset, List.nil_subset, and_true] at h
  unfold State.phaseHeartbeat
  dsimp only
  (repeat' split) <;> simp only [↓State.setNum_without, ↓State.conditions_without, ↓State.raise_without, ↓without_prx,
      Reg.prxPhasePartner, Reg.prxEvent, Nat.reduceDiv, ↓without_ite, ↓without_foldl, ite_self, implies_true,
      List.cons_subset, List.nil_subset, and_true, and_self, true_and, h]

theorem State.peerVariant3_without {W : List Part} (s : State) (entered : Bool) (h : [Part.prx, .rdp, .evc, .mlk, .out,
    .regs 5, .regs 13, .regs 15] ⊆ W) :
    (s.peerVariant3 entered).without W = s.without W := by
  simp only [List.cons_subset, List.nil_subset, and_true] at h
  simp only [State.peerVariant3, ↓State.conditions_without, ↓without_prx, ↓without_ite, ↓without_foldl, ite_self,
      implies_true, List.cons_subset, List.nil_subset, and_true, and_self, true_and, h]

theorem State.clearingFrame_without {W : List Part} (s : State) (frame : Nat) (h : [Part.prx, .rdp, .evc, .mlk, .out,
    .regs 5, .regs 13, .regs 15] ⊆ W) :
    (s.clearingFrame frame).without W = s.without W := by
  simp only [List.cons_subset, List.nil_subset, and_true] at h
  unfold State.clearingFrame
  (repeat' split) <;> simp only [↓State.conditions_without, ↓without_prx, ↓without_ite, ↓without_foldl, ite_self,
      implies_true, List.cons_subset, List.nil_subset, and_true, and_self, true_and, h]

theorem State.excursion_without {W : List Part} (s : State) (ch : Nat) (h : [Part.prx, .cmds, .aens, .evc, .log,
    .regs 5, .regs 6, .regs 15, .regs 20] ⊆ W) :
    (s.excursion ch).without W = s.without W := by
  simp only [List.cons_subset, List.nil_subset, and_true] at h
  unfold State.excursion
  dsimp only
  (repeat' split) <;> simp only [↓State.raiseLog_without, ↓State.asyncEvent_without, ↓State.countErr_without,
      ↓State.setBit_without, ↓State.raise_without, ↓State.inc_without, ↓without_prx, Reg.prxStatus,
      Reg.prxExcursionCnt, Reg.prxEvent, page_mchChExcursionCnt, Nat.reduceDiv, ↓without_ite, ↓without_foldl, ite_self,
      implies_true, List.cons_subset, List.nil_subset, and_true, and_self, true_and, h]

theorem State.driftClear_without {W : List Part} (s : State) (h : [Part.regs 5] ⊆ W) :
    (s.driftClear).without W = s.without W := by
  simp only [List.cons_subset, List.nil_subset, and_true] at h
  unfold State.driftClear
  (repeat' split) <;> simp only [↓State.setBit_without, Reg.prxStatus, Nat.reduceDiv, ↓without_ite, ↓without_foldl,
      ite_self, implies_true, List.cons_subset, List.nil_subset, and_true, and_self, true_and, h]

end Sys2Proof.Machine
end

