-- ==== Sys2Proof/Laws/KeepMedia.lean ====
section
/-! SUPPORT. Which parts of the state the operations of Machine/Media.lean may change: every other part stays. -/
set_option linter.unusedSimpArgs false
set_option linter.unusedVariables false
namespace Sys2Proof.Machine


theorem State.updDie_without {W : List Part} (s : State) (lane : Nat) (f : Die → Die) (h : [Part.mch] ⊆ W) :
    (s.updDie lane f).without W = s.without W := by
  simp only [List.cons_subset, List.nil_subset, and_true] at h
  simp only [State.updDie, ↓without_mch, ↓without_ite, ↓without_foldl, ite_self, implies_true, List.cons_subset,
      List.nil_subset, and_true, and_self, true_and, h]

theorem State.startDie_without {W : List Part} (s : State) (lane kind : Nat) (w : Work) (slotEnd : Nat) (h : [Part.mch,
    .out] ⊆ W) :
    (s.startDie lane kind w slotEnd).without W = s.without W := by
  simp only [List.cons_subset, List.nil_subset, and_true] at h
  simp only [State.startDie, ↓State.updDie_without, ↓State.emit_without, ↓without_ite, ↓without_foldl, ite_self,
      implies_true, List.cons_subset, List.nil_subset, and_true, and_self, true_and, h]

theorem State.suspendDie_without {W : List Part} (s : State) (lane : Nat) (h : [Part.mch, .out, .regs 6] ⊆ W) :
    (s.suspendDie lane).without W = s.without W := by
  simp only [List.cons_subset, List.nil_subset, and_true] at h
  simp only [State.suspendDie, ↓State.updDie_without, ↓State.inc_without, ↓State.emit_without,
      page_mchChSuspendRefuseCnt, page_mchChSuspendCnt, Nat.reduceDiv, ↓without_ite, ↓without_foldl, ite_self,
      implies_true, List.cons_subset, List.nil_subset, and_true, and_self, true_and, h]

theorem State.resumeDie_without {W : List Part} (s : State) (lane : Nat) (h : [Part.mch, .out] ⊆ W) :
    (s.resumeDie lane).without W = s.without W := by
  simp only [List.cons_subset, List.nil_subset, and_true] at h
  simp only [State.resumeDie, ↓State.updDie_without, ↓State.emit_without, ↓without_ite, ↓without_foldl, ite_self,
      implies_true, List.cons_subset, List.nil_subset, and_true, and_self, true_and, h]

theorem State.setLevels_without {W : List Part} (s : State) (lane group shift : Nat) (h : [Part.mch, .out] ⊆ W) :
    (s.setLevels lane group shift).without W = s.without W := by
  simp only [List.cons_subset, List.nil_subset, and_true] at h
  simp only [State.setLevels, ↓State.updDie_without, ↓State.emit_without, ↓without_ite, ↓without_foldl, ite_self,
      implies_true, List.cons_subset, List.nil_subset, and_true, and_self, true_and, h]

theorem State.showBringup_without {W : List Part} (s : State) (h : [Part.regs 6] ⊆ W) :
    (s.showBringup).without W = s.without W := by
  simp only [List.cons_subset, List.nil_subset, and_true] at h
  simp only [State.showBringup, ↓State.setBit_without, Reg.mchGstatus, Nat.reduceDiv, ↓without_ite, ↓without_foldl,
      ite_self, implies_true, List.cons_subset, List.nil_subset, and_true, and_self, true_and, h]

theorem State.isolate_without {W : List Part} (s : State) (ch : Nat) (h : [Part.out] ⊆ W) :
    (s.isolate ch).without W = s.without W := by
  simp only [List.cons_subset, List.nil_subset, and_true] at h
  simp only [State.isolate, ↓State.emit_without, ↓without_ite, ↓without_foldl, ite_self, implies_true,
      List.cons_subset, List.nil_subset, and_true, and_self, true_and, h]

theorem State.chGone_without {W : List Part} (s : State) (ch : Nat) (h : [Part.prx, .rdp, .evc, .mlk, .out, .regs 5,
    .regs 13, .regs 15] ⊆ W) :
    (s.chGone ch).without W = s.without W := by
  simp only [List.cons_subset, List.nil_subset, and_true] at h
  simp only [State.chGone, ↓State.conditions_without, ↓without_prx, ↓without_ite, ↓without_foldl, ite_self,
      implies_true, List.cons_subset, List.nil_subset, and_true, and_self, true_and, h]

theorem State.setChStatus_without {W : List Part} (s : State) (ch st reason die entry : Nat) (h : [Part.regs 6] ⊆ W) :
    (s.setChStatus ch st reason die entry).without W = s.without W := by
  simp only [List.cons_subset, List.nil_subset, and_true] at h
  simp only [State.setChStatus, ↓State.setNum_without, page_mchChStatus, Nat.reduceDiv, ↓without_ite, ↓without_foldl,
      ite_self, implies_true, List.cons_subset, List.nil_subset, and_true, and_self, true_and, h]

theorem State.refuseCh_without {W : List Part} (s : State) (ch reason die : Nat) (h : [Part.prx, .cmds, .rdp, .aens,
    .evc, .mlk, .log, .out, .regs 5, .regs 6, .regs 13, .regs 15, .regs 20] ⊆ W) :
    (s.refuseCh ch reason die).without W = s.without W := by
  simp only [List.cons_subset, List.nil_subset, and_true] at h
  simp only [State.refuseCh, ↓State.raiseLog_without, ↓State.asyncEvent_without, ↓State.setBit_without,
      ↓State.chGone_without, ↓State.setChStatus_without, ↓State.isolate_without, Reg.mchChLost, Reg.mchChRefused,
      Reg.mchChUp, Reg.mchEvent, Nat.reduceDiv, ↓without_ite, ↓without_foldl, ite_self, implies_true, List.cons_subset,
      List.nil_subset, and_true, and_self, true_and, h]

theorem State.loseCh_without {W : List Part} (s : State) (ch reason die : Nat) (h : [Part.prx, .cmds, .rdp, .aens,
    .evc, .mlk, .log, .out, .regs 5, .regs 6, .regs 13, .regs 15, .regs 20] ⊆ W) :
    (s.loseCh ch reason die).without W = s.without W := by
  simp only [List.cons_subset, List.nil_subset, and_true] at h
  simp only [State.loseCh, ↓State.raiseLog_without, ↓State.asyncEvent_without, ↓State.setBit_without,
      ↓State.chGone_without, ↓State.setChStatus_without, ↓State.isolate_without, Reg.mchChLost, Reg.mchChRefused,
      Reg.mchChUp, Reg.mchEvent, page_mchChStatus, Nat.reduceDiv, ↓without_ite, ↓without_foldl, ite_self, implies_true,
      List.cons_subset, List.nil_subset, and_true, and_self, true_and, h]

theorem State.writeFeatures_without {W : List Part} (s : State) (ch : Nat) (h : [Part.out] ⊆ W) :
    (s.writeFeatures ch).without W = s.without W := by
  simp only [List.cons_subset, List.nil_subset, and_true] at h
  unfold State.writeFeatures
  refine without_foldl (fun s a => without_foldl (fun u d => ?_) _ _) _ _
  split
  · exact State.emit_without _ _ (by simp only [List.cons_subset, List.nil_subset, and_true, h])
  · rfl

theorem State.onDies_without {W : List Part} (s : State) (ch op : Nat) (h : [Part.out] ⊆ W) :
    (s.onDies ch op).without W = s.without W := by
  simp only [List.cons_subset, List.nil_subset, and_true] at h
  simp only [State.onDies, ↓State.emit_without, ↓without_ite, ↓without_foldl, ite_self, implies_true, List.cons_subset,
      List.nil_subset, and_true, and_self, true_and, h]

theorem State.trainChannel_without {W : List Part} (s : State) (ch : Nat) (h : [Part.out] ⊆ W) :
    (s.trainChannel ch).without W = s.without W := by
  simp only [List.cons_subset, List.nil_subset, and_true] at h
  simp only [State.trainChannel, ↓State.onDies_without, ↓without_ite, ↓without_foldl, ite_self, implies_true,
      List.cons_subset, List.nil_subset, and_true, and_self, true_and, h]

theorem State.configureCh_without {W : List Part} (s : State) (ch reason : Nat) (h : [Part.out] ⊆ W) :
    (s.configureCh ch reason).without W = s.without W := by
  simp only [List.cons_subset, List.nil_subset, and_true] at h
  simp only [State.configureCh, ↓State.writeFeatures_without, ↓State.trainChannel_without, ↓State.onDies_without,
      ↓without_ite, ↓without_foldl, ite_self, implies_true, List.cons_subset, List.nil_subset, and_true, and_self,
      true_and, h]

theorem State.chComesUp_without {W : List Part} (s : State) (ch entry : Nat) (h : [Part.prx, .mch, .rdp, .evc, .mlk,
    .out, .regs 5, .regs 6, .regs 13, .regs 15] ⊆ W) :
    (s.chComesUp ch entry).without W = s.without W := by
  simp only [List.cons_subset, List.nil_subset, and_true] at h
  simp only [State.chComesUp, ↓State.updDie_without, ↓State.setNum_without, ↓State.conditions_without,
      ↓State.setBit_without, ↓State.setChStatus_without, ↓State.raise_without, ↓State.emit_without, ↓without_prx_mch,
      Reg.mchChLost, Reg.mchRate, Reg.mchChRefused, Reg.mchChUp, Reg.mchEvent, page_mchChDieLost, Nat.reduceDiv,
      ↓without_ite, ↓without_foldl, ite_self, implies_true, List.cons_subset, List.nil_subset, and_true, and_self,
      true_and, h]

theorem State.bindingEnds_without {W : List Part} (s : State) (ch : Nat) (h : [Part.mch, .evc, .sec, .regs 6,
    .regs 15] ⊆ W) :
    (s.bindingEnds ch).without W = s.without W := by
  simp only [List.cons_subset, List.nil_subset, and_true] at h
  unfold State.bindingEnds
  (repeat' split) <;> simp only [↓State.raise_without, ↓without_mch, ↓without_sec, Reg.mchEvent, Nat.reduceDiv,
      ↓without_ite, ↓without_foldl, ite_self, implies_true, List.cons_subset, List.nil_subset, and_true, and_self,
      true_and, h]

theorem State.bringupDone_without {W : List Part} (s : State) (ch : Nat) (f : BringupFacts) (h : [Part.prx, .cmds,
    .mch, .rdp, .aens, .evc, .mlk, .log, .sec, .out, .regs 5, .regs 6, .regs 13, .regs 15, .regs 20] ⊆ W) :
    (s.bringupDone ch f).without W = s.without W := by
  simp only [List.cons_subset, List.nil_subset, and_true] at h
  unfold State.bringupDone
  (repeat' split) <;> simp only [↓State.configureCh_without, ↓State.bindingEnds_without, ↓State.showBringup_without,
      ↓State.chComesUp_without, ↓State.raise_without, ↓State.refuseCh_without, Reg.mchEvent, Nat.reduceDiv,
      ↓without_ite, ↓without_foldl, ite_self, implies_true, List.cons_subset, List.nil_subset, and_true, and_self,
      true_and, h]

theorem State.startBringup_without {W : List Part} (s : State) (ch : Nat) (h : [Part.out, .regs 6] ⊆ W) :
    (s.startBringup ch).without W = s.without W := by
  simp only [List.cons_subset, List.nil_subset, and_true] at h
  simp only [State.startBringup, ↓State.setBit_without, ↓State.showBringup_without, ↓State.setChStatus_without,
      ↓State.emit_without, Reg.mchChLost, Reg.mchChRefused, Reg.mchChUp, Nat.reduceDiv, ↓without_ite, ↓without_foldl,
      ite_self, implies_true, List.cons_subset, List.nil_subset, and_true, and_self, true_and, h]

theorem State.domainReset_without {W : List Part} (s : State) (reg bit : Nat) (h : [Part.evc, .regs 15, .regs 20,
    .regs (reg / 0x100000)] ⊆ W) :
    (s.domainReset reg bit).without W = s.without W := by
  simp only [List.cons_subset, List.nil_subset, and_true] at h
  simp only [State.domainReset, ↓State.setBit_without, ↓State.raise_without, Reg.pwrEvent, Nat.reduceDiv, ↓without_ite,
      ↓without_foldl, ite_self, implies_true, List.cons_subset, List.nil_subset, and_true, and_self, true_and, h]

theorem State.chBringup_without {W : List Part} (s : State) (ch : Nat) (h : [Part.evc, .out, .regs 6, .regs 15,
    .regs 20] ⊆ W) :
    (s.chBringup ch).without W = s.without W := by
  simp only [List.cons_subset, List.nil_subset, and_true] at h
  simp only [State.chBringup, ↓State.startBringup_without, ↓State.domainReset_without, Reg.pwrDomainSeenCh,
      Nat.reduceDiv, ↓without_ite, ↓without_foldl, ite_self, implies_true, List.cons_subset, List.nil_subset, and_true,
      and_self, true_and, h]

theorem State.rbRise_without {W : List Part} (s : State) (ch target : Nat) (h : [Part.out] ⊆ W) :
    (s.rbRise ch target).without W = s.without W := by
  simp only [List.cons_subset, List.nil_subset, and_true] at h
  simp only [State.rbRise, ↓State.emit_without, ↓without_ite, ↓without_foldl, ite_self, implies_true, List.cons_subset,
      List.nil_subset, and_true, and_self, true_and, h]

theorem State.statusPoll_without {W : List Part} (s : State) (lane : Nat) (ready : Bool) (h : [Part.mch, .out] ⊆ W) :
    (s.statusPoll lane ready).without W = s.without W := by
  simp only [List.cons_subset, List.nil_subset, and_true] at h
  simp only [State.statusPoll, ↓State.updDie_without, ↓State.emit_without, ↓without_ite, ↓without_foldl, ite_self,
      implies_true, List.cons_subset, List.nil_subset, and_true, and_self, true_and, h]

end Sys2Proof.Machine
end

