-- ==== Sys2Proof/Laws/KeepWritePath.lean ====
section
/-! SUPPORT. Which parts of the state the operations of Machine/WritePath.lean may change: every other part stays. -/
set_option linter.unusedSimpArgs false
set_option linter.unusedVariables false
namespace Sys2Proof.Machine


theorem State.updNs_without {W : List Part} (s : State) (nsid : Nat) (f : Ns → Ns) (h : [Part.nss] ⊆ W) :
    (s.updNs nsid f).without W = s.without W := by
  simp only [List.cons_subset, List.nil_subset, and_true] at h
  simp only [State.updNs, ↓without_nss, ↓without_ite, ↓without_foldl, ite_self, implies_true, List.cons_subset,
      List.nil_subset, and_true, and_self, true_and, h]

theorem State.showJournal_without {W : List Part} (s : State) (h : [Part.evc, .regs 8, .regs 15] ⊆ W) :
    (s.showJournal).without W = s.without W := by
  simp only [List.cons_subset, List.nil_subset, and_true] at h
  simp only [State.showJournal, ↓State.setBit_without, ↓State.raise_without, ↓State.when_without, Reg.wrpEvent,
      Reg.wrpStatus, Nat.reduceDiv, ↓without_ite, ↓without_foldl, ite_self, implies_true, List.cons_subset,
      List.nil_subset, and_true, and_self, true_and, h]

theorem State.journal_without {W : List Part} (s : State) (entry index nsid type : Nat) (h : [Part.wrp, .evc, .regs 8,
    .regs 15] ⊆ W) :
    (s.journal entry index nsid type).without W = s.without W := by
  simp only [List.cons_subset, List.nil_subset, and_true] at h
  simp only [State.journal, ↓State.showJournal_without, ↓without_wrp, ↓without_ite, ↓without_foldl, ite_self,
      implies_true, List.cons_subset, List.nil_subset, and_true, and_self, true_and, h]

theorem State.touchSegment_without {W : List Part} (s : State) (seg : Nat) (h : [Part.wrp] ⊆ W) :
    (s.touchSegment seg).without W = s.without W := by
  simp only [List.cons_subset, List.nil_subset, and_true] at h
  simp only [State.touchSegment, ↓without_wrp, ↓without_ite, ↓without_foldl, ite_self, implies_true, List.cons_subset,
      List.nil_subset, and_true, and_self, true_and, h]

theorem State.noteChange_without {W : List Part} (s : State) (nsid iu : Nat) (h : [Part.nss] ⊆ W) :
    (s.noteChange nsid iu).without W = s.without W := by
  simp only [List.cons_subset, List.nil_subset, and_true] at h
  simp only [State.noteChange, ↓State.updNs_without, ↓without_ite, ↓without_foldl, ite_self, implies_true,
      List.cons_subset, List.nil_subset, and_true, and_self, true_and, h]

theorem State.setEntry_without {W : List Part} (s : State) (nsid iu entry : Nat) (h : [Part.wrp, .evc, .regs 8,
    .regs 15] ⊆ W) :
    (s.setEntry nsid iu entry).without W = s.without W := by
  simp only [List.cons_subset, List.nil_subset, and_true] at h
  simp only [State.setEntry, ↓State.touchSegment_without, ↓State.journal_without, ↓without_wrp, ↓without_ite,
      ↓without_foldl, ite_self, implies_true, List.cons_subset, List.nil_subset, and_true, and_self, true_and, h]

theorem State.updBlock_without {W : List Part} (s : State) (lane n : Nat) (f : Blk → Blk) (h : [Part.mch] ⊆ W) :
    (s.updBlock lane n f).without W = s.without W := by
  simp only [List.cons_subset, List.nil_subset, and_true] at h
  simp only [State.updBlock, ↓State.updDie_without, ↓without_ite, ↓without_foldl, ite_self, implies_true,
      List.cons_subset, List.nil_subset, and_true, and_self, true_and, h]

theorem State.spareReview_without {W : List Part} (s : State) (lane : Nat) (h : [Part.cmds, .mch, .aens, .evc, .log,
    .regs 9, .regs 15, .regs 20] ⊆ W) :
    (s.spareReview lane).without W = s.without W := by
  simp only [List.cons_subset, List.nil_subset, and_true] at h
  simp only [State.spareReview, ↓State.raiseLog_without, ↓State.updDie_without, ↓State.setBit_without,
      ↓State.criticalEvent_without, Reg.mcrSpareLow, Reg.mcrEvent, Reg.mcrStatus, Nat.reduceDiv, ↓without_ite,
      ↓without_foldl, ite_self, implies_true, List.cons_subset, List.nil_subset, and_true, and_self, true_and, h]

theorem State.retireNow_without {W : List Part} (s : State) (lane block : Nat) (h : [Part.cmds, .mch, .mcr, .aens,
    .evc, .log, .regs 9, .regs 15, .regs 20] ⊆ W) :
    (s.retireNow lane block).without W = s.without W := by
  simp only [List.cons_subset, List.nil_subset, and_true] at h
  simp only [State.retireNow, ↓State.raiseLog_without, ↓State.updBlock_without, ↓State.inc_without,
      ↓State.spareReview_without, ↓without_mcr, Reg.mcrEvent, Reg.mcrRetireCnt, Nat.reduceDiv, ↓without_ite,
      ↓without_foldl, ite_self, implies_true, List.cons_subset, List.nil_subset, and_true, and_self, true_and, h]

theorem State.openPage_without {W : List Part} (s : State) (lane : Nat) (moved : Bool) (h : [Part.cmds, .mch, .aens,
    .evc, .log, .regs 9, .regs 15, .regs 20] ⊆ W) :
    (s.openPage lane moved).1.without W = s.without W := by
  simp only [List.cons_subset, List.nil_subset, and_true] at h
  unfold State.openPage
  dsimp only
  (repeat' split) <;> simp only [↓State.updDie_without, ↓State.spareReview_without, ↓without_ite, ↓without_foldl,
      ite_self, implies_true, List.cons_subset, List.nil_subset, and_true, and_self, true_and, h]

theorem State.advancePage_without {W : List Part} (s : State) (lane : Nat) (moved : Bool) (block page pages : Nat)
    (h : [Part.mch] ⊆ W) :
    (s.advancePage lane moved block page pages).without W = s.without W := by
  simp only [List.cons_subset, List.nil_subset, and_true] at h
  simp only [State.advancePage, ↓State.updDie_without, ↓without_ite, ↓without_foldl, ite_self, implies_true,
      List.cons_subset, List.nil_subset, and_true, and_self, true_and, h]

theorem State.showStaging_without {W : List Part} (s : State) (h : [Part.regs 8] ⊆ W) :
    (s.showStaging).without W = s.without W := by
  simp only [List.cons_subset, List.nil_subset, and_true] at h
  simp only [State.showStaging, ↓State.setNum_without, Reg.wrpStagingUsed, Reg.wrpStagingMirror, Nat.reduceDiv,
      ↓without_ite, ↓without_foldl, ite_self, implies_true, List.cons_subset, List.nil_subset, and_true, and_self,
      true_and, h]

theorem State.updWrite_without {W : List Part} (s : State) (wid : Nat) (f : SWrite → SWrite) (h : [Part.wrp] ⊆ W) :
    (s.updWrite wid f).without W = s.without W := by
  simp only [List.cons_subset, List.nil_subset, and_true] at h
  simp only [State.updWrite, ↓without_wrp, ↓without_ite, ↓without_foldl, ite_self, implies_true, List.cons_subset,
      List.nil_subset, and_true, and_self, true_and, h]

theorem State.addWrite_without {W : List Part} (s : State) (w : SWrite) (h : [Part.wrp, .regs 8] ⊆ W) :
    (s.addWrite w).without W = s.without W := by
  simp only [List.cons_subset, List.nil_subset, and_true] at h
  simp only [State.addWrite, ↓State.showStaging_without, ↓without_wrp, ↓without_ite, ↓without_foldl, ite_self,
      implies_true, List.cons_subset, List.nil_subset, and_true, and_self, true_and, h]

theorem State.freeWrites_without {W : List Part} (s : State) (p : SWrite → Bool) (h : [Part.wrp, .regs 8] ⊆ W) :
    (s.freeWrites p).without W = s.without W := by
  simp only [List.cons_subset, List.nil_subset, and_true] at h
  simp only [State.freeWrites, ↓State.showStaging_without, ↓without_wrp, ↓without_ite, ↓without_foldl, ite_self,
      implies_true, List.cons_subset, List.nil_subset, and_true, and_self, true_and, h]

theorem State.discardFilling_without {W : List Part} (s : State) (p : SWrite → Bool) (h : [Part.wrp, .regs 8] ⊆ W) :
    (s.discardFilling p).without W = s.without W := by
  simp only [List.cons_subset, List.nil_subset, and_true] at h
  simp only [State.discardFilling, ↓State.freeWrites_without, ↓State.inc_without, Reg.wrpFillDiscardCnt, Nat.reduceDiv,
      ↓without_ite, ↓without_foldl, ite_self, implies_true, List.cons_subset, List.nil_subset, and_true, and_self,
      true_and, h]

theorem State.noteWa_without {W : List Part} (s : State) (prog staged : Nat) (h : [Part.mcr] ⊆ W) :
    (s.noteWa prog staged).without W = s.without W := by
  simp only [List.cons_subset, List.nil_subset, and_true] at h
  simp only [State.noteWa, ↓without_mcr, ↓without_ite, ↓without_foldl, ite_self, implies_true, List.cons_subset,
      List.nil_subset, and_true, and_self, true_and, h]

theorem State.closeStripe_without {W : List Part} (s : State) (t : Stripe) (timeout : Bool) (h : [Part.wrp,
    .regs 8] ⊆ W) :
    (s.closeStripe t timeout).without W = s.without W := by
  simp only [List.cons_subset, List.nil_subset, and_true] at h
  simp only [State.closeStripe, ↓State.inc_without, ↓State.when_without, ↓without_wrp, Reg.wrpPadCnt, Nat.reduceDiv,
      ↓without_ite, ↓without_foldl, ite_self, implies_true, List.cons_subset, List.nil_subset, and_true, and_self,
      true_and, h]

theorem State.noteMember_without {W : List Part} (s : State) (sid lane : Nat) (loc : Option Nat) (h : [Part.wrp] ⊆ W) :
    (s.noteMember sid lane loc).without W = s.without W := by
  simp only [List.cons_subset, List.nil_subset, and_true] at h
  simp only [State.noteMember, ↓without_wrp, ↓without_ite, ↓without_foldl, ite_self, implies_true, List.cons_subset,
      List.nil_subset, and_true, and_self, true_and, h]

theorem State.forgetBlock_without {W : List Part} (s : State) (lane block : Nat) (h : [Part.wrp] ⊆ W) :
    (s.forgetBlock lane block).without W = s.without W := by
  simp only [List.cons_subset, List.nil_subset, and_true] at h
  simp only [State.forgetBlock, ↓without_wrp, ↓without_ite, ↓without_foldl, ite_self, implies_true, List.cons_subset,
      List.nil_subset, and_true, and_self, true_and, h]

theorem State.openStripe_without {W : List Part} (s : State) (lane parts : Nat) (moved : Bool) (h : [Part.wrp] ⊆ W) :
    (s.openStripe lane parts moved).without W = s.without W := by
  simp only [List.cons_subset, List.nil_subset, and_true] at h
  simp only [State.openStripe, ↓without_wrp, ↓without_ite, ↓without_foldl, ite_self, implies_true, List.cons_subset,
      List.nil_subset, and_true, and_self, true_and, h]

theorem placeIu_without {W : List Part} (n : Nat) (s : State) (lane : Nat) (moved : Bool) (us : List (Nat × Nat))
    (h : [Part.wrp, .regs 8] ⊆ W) :
    (placeIu n s lane moved us).without W = s.without W := by
  simp only [List.cons_subset, List.nil_subset, and_true] at h
  induction n generalizing s with
  | zero => rfl
  | succ n ih =>
    have e0 := fun (s : State) (t : Stripe) (timeout : Bool) => State.closeStripe_without (W := W) s t timeout (by simp only [List.cons_subset, List.nil_subset, and_true, Nat.reduceDiv, h])
    have e1 := fun (s : State) (lane parts : Nat) (moved : Bool) => State.openStripe_without (W := W) s lane parts moved (by simp only [List.cons_subset, List.nil_subset, and_true, Nat.reduceDiv, h])
    have r2 := fun (x0 : State) (x1 : Wrp) => without_wrp (W := W) x0 x1 (by simp only [h])
    unfold placeIu
    dsimp only
    repeat' (first
      | with_reducible rfl
      | with_reducible refine (ih _).trans ?_
      | with_reducible refine (e0 _ _ _).trans ?_
      | with_reducible refine (e1 _ _ _ _).trans ?_
      | with_reducible refine without_if ?_ ?_
      | with_reducible refine (without_foldl (fun t a => ?_) _ _).trans ?_
      | simp only [r2, h]
      | (with_reducible refine without_of_snd (by assumption) ?_)
      | (with_reducible refine without_of_fst (by assumption) ?_)
      | split)

theorem State.placeWhole_without {W : List Part} (s : State) (w : SWrite) (iu : Nat) (h : [Part.wrp, .regs 8] ⊆ W) :
    (s.placeWhole w iu).without W = s.without W := by
  simp only [List.cons_subset, List.nil_subset, and_true] at h
  simp only [State.placeWhole, ↓placeIu_without, ↓State.updWrite_without, ↓without_ite, ↓without_foldl, ite_self,
      implies_true, List.cons_subset, List.nil_subset, and_true, and_self, true_and, h]

theorem State.destageIu_without {W : List Part} (s : State) (wid iu : Nat) (h : [Part.wrp, .regs 8] ⊆ W) :
    (s.destageIu wid iu).without W = s.without W := by
  simp only [List.cons_subset, List.nil_subset, and_true] at h
  unfold State.destageIu
  (repeat' split) <;> simp only [↓State.placeWhole_without, ↓State.updWrite_without, ↓State.showStaging_without,
      ↓without_ite, ↓without_foldl, ite_self, implies_true, List.cons_subset, List.nil_subset, and_true, and_self,
      true_and, h]

theorem State.destage_without {W : List Part} (s : State) (w : SWrite) (h : [Part.wrp, .regs 8] ⊆ W) :
    (s.destage w).without W = s.without W := by
  simp only [List.cons_subset, List.nil_subset, and_true] at h
  simp only [State.destage, ↓State.destageIu_without, ↓without_ite, ↓without_foldl, ite_self, implies_true,
      List.cons_subset, List.nil_subset, and_true, and_self, true_and, h]

theorem State.retryMerges_without {W : List Part} (s : State) (h : [Part.wrp, .regs 8] ⊆ W) :
    (s.retryMerges).without W = s.without W := by
  simp only [List.cons_subset, List.nil_subset, and_true] at h
  simp only [State.retryMerges, ↓State.destage_without, ↓without_ite, ↓without_foldl, ite_self, implies_true,
      List.cons_subset, List.nil_subset, and_true, and_self, true_and, h]

theorem State.merged_without {W : List Part} (s : State) (wid u : Nat) (ok : Bool) (h : [Part.wrp, .regs 8] ⊆ W) :
    (s.merged wid u ok).without W = s.without W := by
  simp only [List.cons_subset, List.nil_subset, and_true] at h
  unfold State.merged
  (repeat' split) <;> simp only [↓State.destageIu_without, ↓State.updWrite_without, ↓without_ite, ↓without_foldl,
      ite_self, implies_true, List.cons_subset, List.nil_subset, and_true, and_self, true_and, h]

theorem State.purge_without {W : List Part} (s : State) (p : SWrite → Bool) (h : [Part.wrp, .regs 8] ⊆ W) :
    (s.purge p).without W = s.without W := by
  simp only [List.cons_subset, List.nil_subset, and_true] at h
  simp only [State.purge, ↓State.freeWrites_without, ↓without_wrp, ↓without_ite, ↓without_foldl, ite_self,
      implies_true, List.cons_subset, List.nil_subset, and_true, and_self, true_and, h]

theorem State.showReady_without {W : List Part} (s : State) (h : [Part.evc, .regs 8, .regs 15] ⊆ W) :
    (s.showReady).without W = s.without W := by
  simp only [List.cons_subset, List.nil_subset, and_true] at h
  simp only [State.showReady, ↓State.setBit_without, ↓State.raise_without, ↓State.when_without, Reg.wrpEvent,
      Reg.wrpDumpStatus, Nat.reduceDiv, ↓without_ite, ↓without_foldl, ite_self, implies_true, List.cons_subset,
      List.nil_subset, and_true, and_self, true_and, h]

theorem State.release_without {W : List Part} (s : State) (h : [Part.wrp, .regs 8] ⊆ W) :
    (s.release).without W = s.without W := by
  simp only [List.cons_subset, List.nil_subset, and_true] at h
  simp only [State.release, ↓State.freeWrites_without, ↓without_ite, ↓without_foldl, ite_self, implies_true,
      List.cons_subset, List.nil_subset, and_true, and_self, true_and, h]

theorem State.showMacked_without {W : List Part} (s : State) (h : [Part.wrp] ⊆ W) :
    (s.showMacked).without W = s.without W := by
  simp only [List.cons_subset, List.nil_subset, and_true] at h
  simp only [State.showMacked, ↓without_wrp, ↓without_ite, ↓without_foldl, ite_self, implies_true, List.cons_subset,
      List.nil_subset, and_true, and_self, true_and, h]

theorem State.noteHeld_without {W : List Part} (s : State) (h : [Part.cmds] ⊆ W) :
    (s.noteHeld).without W = s.without W := by
  simp only [List.cons_subset, List.nil_subset, and_true] at h
  unfold State.noteHeld
  refine without_foldl (fun t w => ?_) _ _
  split
  · exact State.meet_without _ _ _ (by simp only [List.cons_subset, List.nil_subset, and_true, h])
  · rfl

theorem State.noteWithheld_without {W : List Part} (s : State) (h : [Part.cmds, .wrp, .regs 8] ⊆ W) :
    (s.noteWithheld).without W = s.without W := by
  simp only [List.cons_subset, List.nil_subset, and_true] at h
  unfold State.noteWithheld
  split
  · rfl
  · dsimp only
    refine (without_foldl (fun t w => ?_) _ _).trans ?_
    · split
      · exact State.meet_without _ _ _ (by simp only [List.cons_subset, List.nil_subset, and_true, h])
      · rfl
    · refine (without_foldl (fun t w => State.updWrite_without _ _ _ (by simp only [List.cons_subset, List.nil_subset, and_true, h])) _ _).trans ?_
      exact State.inc_without _ _ _ (by simp only [List.cons_subset, List.nil_subset, and_true, Reg.wrpHoldupWithholdCnt, Nat.reduceDiv, h])

theorem State.settle_without {W : List Part} (s₀ : State) (h : [Part.cmds, .rdp, .wrp, .evc, .mlk, .out, .regs 8,
    .regs 13, .regs 15] ⊆ W) :
    (s₀.settle).without W = s₀.without W := by
  simp only [List.cons_subset, List.nil_subset, and_true] at h
  unfold State.settle
  dsimp only
  rw [State.release_without _ (by simp only [List.cons_subset, List.nil_subset, and_true, h]), without_foldl (fun t c => State.finish_without _ _ _ _ _ (by simp only [List.cons_subset, List.nil_subset, and_true, h])) _ _,
    without_wrp _ _ (by simp only [h]), without_foldl ?_ _ _, without_foldl (fun t c => State.updWrite_without _ _ _ (by simp only [List.cons_subset, List.nil_subset, and_true, h])) _ _,
    State.inc_without _ _ _ (by simp only [List.cons_subset, List.nil_subset, and_true, Reg.wrpLocalCompleteCnt, Nat.reduceDiv, h]), State.noteWithheld_without _ (by simp only [List.cons_subset, List.nil_subset, and_true, h]), State.noteHeld_without _ (by simp only [List.cons_subset, List.nil_subset, and_true, h]), State.showMacked_without _ (by simp only [List.cons_subset, List.nil_subset, and_true, h])]
  intro t w
  split
  · rw [State.send_without _ _ (by simp only [List.cons_subset, List.nil_subset, and_true, h]), State.updWrite_without _ _ _ (by simp only [List.cons_subset, List.nil_subset, and_true, h])]
  · exact State.updWrite_without _ _ _ (by simp only [List.cons_subset, List.nil_subset, and_true, h])

theorem State.showHealth_without {W : List Part} (s : State) (h : [Part.cmds, .rdp, .wrp, .evc, .mlk, .out, .regs 8,
    .regs 13, .regs 15] ⊆ W) :
    (s.showHealth).without W = s.without W := by
  simp only [List.cons_subset, List.nil_subset, and_true] at h
  simp only [State.showHealth, ↓State.setBit_without, ↓State.settle_without, ↓State.raise_without, Reg.wrpEvent,
      Reg.wrpStatus, Nat.reduceDiv, ↓without_ite, ↓without_foldl, ite_self, implies_true, List.cons_subset,
      List.nil_subset, and_true, and_self, true_and, h]

theorem State.mirror_without {W : List Part} (s : State) (nsid : Nat) (kind : MKind) (regions : List Nat)
    (mk : Nat → LinkMsg) (h : [Part.rdp, .evc, .mlk, .out, .regs 13, .regs 15] ⊆ W) :
    (s.mirror nsid kind regions mk).without W = s.without W := by
  simp only [List.cons_subset, List.nil_subset, and_true] at h
  simp only [State.mirror, ↓State.send_without, ↓without_mlk, ↓without_ite, ↓without_foldl, ite_self, implies_true,
      List.cons_subset, List.nil_subset, and_true, and_self, true_and, h]

theorem State.mirrorWrite_without {W : List Part} (s : State) (w : SWrite) (h : [Part.rdp, .evc, .mlk, .out, .regs 8,
    .regs 13, .regs 15] ⊆ W) :
    (s.mirrorWrite w).without W = s.without W := by
  simp only [List.cons_subset, List.nil_subset, and_true] at h
  simp only [State.mirrorWrite, ↓State.inc_without, ↓State.mirror_without, Reg.wrpMirrorOutCnt, Nat.reduceDiv,
      ↓without_ite, ↓without_foldl, ite_self, implies_true, List.cons_subset, List.nil_subset, and_true, and_self,
      true_and, h]

theorem State.dropRepairs_without {W : List Part} (s : State) (h : [Part.wrp, .regs 8] ⊆ W) :
    (s.dropRepairs).without W = s.without W := by
  simp only [List.cons_subset, List.nil_subset, and_true] at h
  simp only [State.dropRepairs, ↓State.purge_without, ↓without_ite, ↓without_foldl, ite_self, implies_true,
      List.cons_subset, List.nil_subset, and_true, and_self, true_and, h]

theorem State.becomeStaged_without {W : List Part} (s : State) (w : SWrite) (h : [Part.rdp, .wrp, .mcr, .nss, .evc,
    .mlk, .out, .regs 8, .regs 13, .regs 15] ⊆ W) :
    (s.becomeStaged w).without W = s.without W := by
  simp only [List.cons_subset, List.nil_subset, and_true] at h
  unfold State.becomeStaged
  dsimp only
  (repeat' split) <;> simp only [↓State.mirrorWrite_without, ↓State.destage_without, ↓State.inc_without,
      ↓State.noteWa_without, ↓State.noteChange_without, ↓State.dropRepairs_without, ↓without_wrp, Reg.wrpHostUnitCnt,
      Reg.wrpMirrorInCnt, Nat.reduceDiv, ↓without_ite, ↓without_foldl, ite_self, implies_true, List.cons_subset,
      List.nil_subset, and_true, and_self, true_and, h]

theorem State.startProgram_without {W : List Part} (s : State) (p : ProgUnit) (slotEnd : Nat) (h : [Part.cmds, .mch,
    .wrp, .aens, .evc, .log, .out, .regs 8, .regs 9, .regs 15, .regs 20] ⊆ W) :
    (s.startProgram p slotEnd).without W = s.without W := by
  simp only [List.cons_subset, List.nil_subset, and_true] at h
  have o : (s.openPage p.lane p.moved).1.without W = s.without W := State.openPage_without _ _ _ (by simp only [List.cons_subset, List.nil_subset, and_true, h])
  unfold State.startProgram
  split
  · rfl
  · next e =>
    rw [e] at o
    rw [State.inc_without _ _ _ (by simp only [List.cons_subset, List.nil_subset, and_true, Reg.wrpProgCnt, Nat.reduceDiv, h]), State.startDie_without _ _ _ _ _ (by simp only [List.cons_subset, List.nil_subset, and_true, h]), State.advancePage_without _ _ _ _ _ _ (by simp only [List.cons_subset, List.nil_subset, and_true, h]),
      without_wrp _ _ (by simp only [h])]
    exact o

theorem State.addValid_without {W : List Part} (s : State) (loc : Nat) (k : Int) (h : [Part.mch] ⊆ W) :
    (s.addValid loc k).without W = s.without W := by
  simp only [List.cons_subset, List.nil_subset, and_true] at h
  simp only [State.addValid, ↓State.updBlock_without, ↓without_ite, ↓without_foldl, ite_self, implies_true,
      List.cons_subset, List.nil_subset, and_true, and_self, true_and, h]

theorem State.mapVerified_without {W : List Part} (s : State) (w : SWrite) (unit loc : Nat) (h : [Part.mch, .wrp, .evc,
    .regs 8, .regs 15] ⊆ W) :
    (s.mapVerified w unit loc).without W = s.without W := by
  simp only [List.cons_subset, List.nil_subset, and_true] at h
  simp only [State.mapVerified, ↓State.setEntry_without, ↓State.addValid_without, ↓without_ite, ↓without_foldl,
      ite_self, implies_true, List.cons_subset, List.nil_subset, and_true, and_self, true_and, h]

theorem State.dropProg_without {W : List Part} (s : State) (pid : Nat) (h : [Part.wrp] ⊆ W) :
    (s.dropProg pid).without W = s.without W := by
  simp only [List.cons_subset, List.nil_subset, and_true] at h
  simp only [State.dropProg, ↓without_wrp, ↓without_ite, ↓without_foldl, ite_self, implies_true, List.cons_subset,
      List.nil_subset, and_true, and_self, true_and, h]

theorem State.programPass_without {W : List Part} (s : State) (p : ProgUnit) (h : [Part.cmds, .mch, .rdp, .wrp, .mcr,
    .evc, .mlk, .out, .regs 8, .regs 13, .regs 15] ⊆ W) :
    (s.programPass p).without W = s.without W := by
  simp only [List.cons_subset, List.nil_subset, and_true] at h
  have e0 := fun (s : State) (pid : Nat) => State.dropProg_without (W := W) s pid (by simp only [List.cons_subset, List.nil_subset, and_true, Nat.reduceDiv, h])
  have e1 := fun (s : State) (sid lane : Nat) (loc : Option Nat) => State.noteMember_without (W := W) s sid lane loc (by simp only [List.cons_subset, List.nil_subset, and_true, Nat.reduceDiv, h])
  have e2 := fun (s₀ : State) => State.settle_without (W := W) s₀ (by simp only [List.cons_subset, List.nil_subset, and_true, Nat.reduceDiv, h])
  have e3 := fun (s : State) (prog staged : Nat) => State.noteWa_without (W := W) s prog staged (by simp only [List.cons_subset, List.nil_subset, and_true, Nat.reduceDiv, h])
  have e4 := fun (s : State) (wid : Nat) (f : SWrite → SWrite) => State.updWrite_without (W := W) s wid f (by simp only [List.cons_subset, List.nil_subset, and_true, Nat.reduceDiv, h])
  have e5 := fun (s : State) (w : SWrite) (unit loc : Nat) => State.mapVerified_without (W := W) s w unit loc (by simp only [List.cons_subset, List.nil_subset, and_true, Nat.reduceDiv, h])
  unfold State.programPass
  repeat' (first
    | with_reducible rfl
    | with_reducible refine (e0 _ _).trans ?_
    | with_reducible refine (e1 _ _ _ _).trans ?_
    | with_reducible refine (e2 _).trans ?_
    | with_reducible refine (e3 _ _ _).trans ?_
    | with_reducible refine (e4 _ _ _).trans ?_
    | with_reducible refine (e5 _ _ _ _).trans ?_
    | with_reducible refine without_if ?_ ?_
    | with_reducible refine (without_foldl (fun t a => ?_) _ _).trans ?_
    | (with_reducible refine without_of_snd (by assumption) ?_)
    | (with_reducible refine without_of_fst (by assumption) ?_)
    | split)

theorem State.retireBlock_without {W : List Part} (s : State) (lane block : Nat) (h : [Part.cmds, .mch, .mcr, .aens,
    .evc, .log, .regs 9, .regs 15, .regs 20] ⊆ W) :
    (s.retireBlock lane block).without W = s.without W := by
  simp only [List.cons_subset, List.nil_subset, and_true] at h
  simp only [State.retireBlock, ↓State.updDie_without, ↓State.retireNow_without, ↓without_ite, ↓without_foldl,
      ite_self, implies_true, List.cons_subset, List.nil_subset, and_true, and_self, true_and, h]

theorem State.programFail_without {W : List Part} (s : State) (p : ProgUnit) (h : [Part.cmds, .mch, .rdp, .wrp, .mcr,
    .aens, .evc, .mlk, .log, .out, .regs 8, .regs 9, .regs 13, .regs 15, .regs 20] ⊆ W) :
    (s.programFail p).without W = s.without W := by
  simp only [List.cons_subset, List.nil_subset, and_true] at h
  simp only [State.programFail, ↓State.retireBlock_without, ↓State.countErr_without, ↓State.dropProg_without,
      ↓State.settle_without, ↓State.raise_without, ↓State.inc_without, ↓State.noteWa_without, ↓State.updWrite_without,
      ↓without_wrp, Reg.wrpEvent, Reg.wrpReplaceCnt, Reg.wrpProgFailCnt, Nat.reduceDiv, ↓without_ite, ↓without_foldl,
      ite_self, implies_true, List.cons_subset, List.nil_subset, and_true, and_self, true_and, h]

theorem State.journalWritten_without {W : List Part} (s : State) (n : Nat) (h : [Part.wrp, .mcr, .evc, .regs 8,
    .regs 15] ⊆ W) :
    (s.journalWritten n).without W = s.without W := by
  simp only [List.cons_subset, List.nil_subset, and_true] at h
  simp only [State.journalWritten, ↓State.showJournal_without, ↓State.noteWa_without, ↓without_wrp, ↓without_ite,
      ↓without_foldl, ite_self, implies_true, List.cons_subset, List.nil_subset, and_true, and_self, true_and, h]

theorem State.updCkpt_without {W : List Part} (s : State) (seg : Nat) (f : Ckpt → Ckpt) (h : [Part.wrp] ⊆ W) :
    (s.updCkpt seg f).without W = s.without W := by
  simp only [List.cons_subset, List.nil_subset, and_true] at h
  simp only [State.updCkpt, ↓without_wrp, ↓without_ite, ↓without_foldl, ite_self, implies_true, List.cons_subset,
      List.nil_subset, and_true, and_self, true_and, h]

theorem State.ckptDone_without {W : List Part} (s : State) (seg : Nat) (h : [Part.wrp, .evc, .regs 8, .regs 15] ⊆ W) :
    (s.ckptDone seg).without W = s.without W := by
  simp only [List.cons_subset, List.nil_subset, and_true] at h
  simp only [State.ckptDone, ↓State.journal_without, ↓State.inc_without, ↓without_wrp, Reg.wrpCkptSegCnt,
      Nat.reduceDiv, ↓without_ite, ↓without_foldl, ite_self, implies_true, List.cons_subset, List.nil_subset, and_true,
      and_self, true_and, h]

theorem State.ckptPassed_without {W : List Part} (s : State) (seg : Nat) (pass : Bool) (h : [Part.wrp, .mcr, .evc,
    .regs 8, .regs 15] ⊆ W) :
    (s.ckptPassed seg pass).without W = s.without W := by
  simp only [List.cons_subset, List.nil_subset, and_true] at h
  simp only [State.ckptPassed, ↓State.updCkpt_without, ↓State.noteWa_without, ↓State.ckptDone_without, ↓without_ite,
      ↓without_foldl, ite_self, implies_true, List.cons_subset, List.nil_subset, and_true, and_self, true_and, h]

theorem State.startJournal_without {W : List Part} (s : State) (lane slotEnd : Nat) (h : [Part.mch, .out,
    .regs 8] ⊆ W) :
    (s.startJournal lane slotEnd).without W = s.without W := by
  simp only [List.cons_subset, List.nil_subset, and_true] at h
  simp only [State.startJournal, ↓State.startDie_without, ↓State.inc_without, ↓State.emit_without, Reg.wrpProgCnt,
      Nat.reduceDiv, ↓without_ite, ↓without_foldl, ite_self, implies_true, List.cons_subset, List.nil_subset, and_true,
      and_self, true_and, h]

theorem State.startCkpt_without {W : List Part} (s : State) (lane slotEnd : Nat) (h : [Part.mch, .wrp, .out,
    .regs 8] ⊆ W) :
    (s.startCkpt lane slotEnd).without W = s.without W := by
  simp only [List.cons_subset, List.nil_subset, and_true] at h
  unfold State.startCkpt
  (repeat' split) <;> simp only [↓State.startDie_without, ↓State.updCkpt_without, ↓State.inc_without, Reg.wrpProgCnt,
      Nat.reduceDiv, ↓without_ite, ↓without_foldl, ite_self, implies_true, List.cons_subset, List.nil_subset, and_true,
      and_self, true_and, h]

theorem State.programParked_without {W : List Part} (s : State) (pid : Nat) (h : [Part.wrp] ⊆ W) :
    (s.programParked pid).without W = s.without W := by
  simp only [List.cons_subset, List.nil_subset, and_true] at h
  simp only [State.programParked, ↓without_wrp, ↓without_ite, ↓without_foldl, ite_self, implies_true, List.cons_subset,
      List.nil_subset, and_true, and_self, true_and, h]

end Sys2Proof.Machine
end

