-- ==== Sys2Proof/Laws/KeepSessions.lean ====
section
/-! SUPPORT. Which parts of the state the operations of Machine/Sessions.lean may change: every other part stays. -/
set_option linter.unusedSimpArgs false
set_option linter.unusedVariables false
namespace Sys2Proof.Machine


theorem State.showSessions_without {W : List Part} (s : State) (h : [Part.regs 12] ⊆ W) :
    (s.showSessions).without W = s.without W := by
  simp only [List.cons_subset, List.nil_subset, and_true] at h
  simp only [State.showSessions, ↓State.setField_without, Reg.secStatus, Nat.reduceDiv, ↓without_ite, ↓without_foldl,
      ite_self, implies_true, List.cons_subset, List.nil_subset, and_true, and_self, true_and, h]

theorem State.dropSessions_without {W : List Part} (s : State) (p : Sess → Bool) (h : [Part.evc, .sec, .regs 12,
    .regs 15] ⊆ W) :
    (s.dropSessions p).without W = s.without W := by
  simp only [List.cons_subset, List.nil_subset, and_true] at h
  simp only [State.dropSessions, ↓State.raise_without, ↓State.showSessions_without, ↓without_sec, Reg.secEvent,
      Nat.reduceDiv, ↓without_ite, ↓without_foldl, ite_self, implies_true, List.cons_subset, List.nil_subset, and_true,
      and_self, true_and, h]

theorem State.openSession_without {W : List Part} (s : State) (psk ready : Bool) (h : [Part.evc, .sec, .regs 12,
    .regs 15] ⊆ W) :
    (s.openSession psk ready).without W = s.without W := by
  simp only [List.cons_subset, List.nil_subset, and_true] at h
  simp only [State.openSession, ↓State.raise_without, ↓State.inc_without, ↓State.showSessions_without, ↓without_sec,
      Reg.secEvent, Reg.secSessionCnt, Nat.reduceDiv, ↓without_ite, ↓without_foldl, ite_self, implies_true,
      List.cons_subset, List.nil_subset, and_true, and_self, true_and, h]

end Sys2Proof.Machine
end

