-- ==== Sys2Proof/Laws/KeepReadPath.lean ====
section
/-! SUPPORT. Which parts of the state the operations of Machine/ReadPath.lean may change: every other part stays. -/
set_option linter.unusedSimpArgs false
set_option linter.unusedVariables false
namespace Sys2Proof.Machine


theorem State.updUnit_without {W : List Part} (s : State) (c : CmdId) (u : Nat) (f : RUnit → RUnit)
    (h : [Part.cmds] ⊆ W) :
    (s.updUnit c u f).without W = s.without W := by
  simp only [List.cons_subset, List.nil_subset, and_true] at h
  simp only [State.updUnit, ↓State.updCmd_without, ↓without_ite, ↓without_foldl, ite_self, implies_true,
      List.cons_subset, List.nil_subset, and_true, and_self, true_and, h]

theorem State.setPhase_without {W : List Part} (s : State) (c : CmdId) (u : Nat) (p : UPhase) (h : [Part.cmds] ⊆ W) :
    (s.setPhase c u p).without W = s.without W := by
  simp only [List.cons_subset, List.nil_subset, and_true] at h
  simp only [State.setPhase, ↓State.updUnit_without, ↓without_ite, ↓without_foldl, ite_self, implies_true,
      List.cons_subset, List.nil_subset, and_true, and_self, true_and, h]

theorem State.readSettle_without {W : List Part} (s : State) (c : CmdId) (h : [Part.cmds] ⊆ W) :
    (s.readSettle c).without W = s.without W := by
  simp only [List.cons_subset, List.nil_subset, and_true] at h
  unfold State.readSettle
  (repeat' split) <;> simp only [↓State.finish_without, ↓without_ite, ↓without_foldl, ite_self, implies_true,
      List.cons_subset, List.nil_subset, and_true, and_self, true_and, h]

theorem State.letGo_without {W : List Part} (s : State) (c : CmdId) (r : RUnit) (h : [Part.cmds, .wrp, .regs 8] ⊆ W) :
    (s.letGo c r).without W = s.without W := by
  simp only [List.cons_subset, List.nil_subset, and_true] at h
  unfold State.letGo
  (repeat' split) <;> simp only [↓State.updUnit_without, ↓State.updWrite_without, ↓State.release_without, ↓without_ite,
      ↓without_foldl, ite_self, implies_true, List.cons_subset, List.nil_subset, and_true, and_self, true_and, h]

theorem State.showSoft_without {W : List Part} (s : State) (h : [Part.evc, .regs 7, .regs 15] ⊆ W) :
    (s.showSoft).without W = s.without W := by
  simp only [List.cons_subset, List.nil_subset, and_true] at h
  simp only [State.showSoft, ↓State.setField_without, ↓State.setBit_without, ↓State.raise_without, ↓State.when_without,
      Reg.rdpStatus, Reg.rdpEvent, Nat.reduceDiv, ↓without_ite, ↓without_foldl, ite_self, implies_true,
      List.cons_subset, List.nil_subset, and_true, and_self, true_and, h]

theorem State.enterSoft_without {W : List Part} (s : State) (c : CmdId) (u : Nat) (h : [Part.rdp, .evc, .regs 7,
    .regs 15] ⊆ W) :
    (s.enterSoft c u).without W = s.without W := by
  simp only [List.cons_subset, List.nil_subset, and_true] at h
  simp only [State.enterSoft, ↓State.showSoft_without, ↓without_rdp, ↓without_ite, ↓without_foldl, ite_self,
      implies_true, List.cons_subset, List.nil_subset, and_true, and_self, true_and, h]

theorem State.leaveSoft_without {W : List Part} (s : State) (c : CmdId) (u : Nat) (h : [Part.rdp, .evc, .regs 7,
    .regs 15] ⊆ W) :
    (s.leaveSoft c u).without W = s.without W := by
  simp only [List.cons_subset, List.nil_subset, and_true] at h
  simp only [State.leaveSoft, ↓State.showSoft_without, ↓without_rdp, ↓without_ite, ↓without_foldl, ite_self,
      implies_true, List.cons_subset, List.nil_subset, and_true, and_self, true_and, h]

theorem State.setLeg_without {W : List Part} (s : State) (j : DecodeJob) (f : Leg → Leg) (h : [Part.cmds, .rdp,
    .wrp] ⊆ W) :
    (s.setLeg j f).without W = s.without W := by
  simp only [List.cons_subset, List.nil_subset, and_true] at h
  unfold State.setLeg
  (repeat' split) <;> simp only [↓State.updUnit_without, ↓State.updWrite_without, ↓without_rdp, ↓without_ite,
      ↓without_foldl, ite_self, implies_true, List.cons_subset, List.nil_subset, and_true, and_self, true_and, h]

theorem State.quit_without {W : List Part} (s : State) (c : CmdId) (r : RUnit) (h : [Part.prx, .rdp] ⊆ W) :
    (s.quit c r).without W = s.without W := by
  simp only [List.cons_subset, List.nil_subset, and_true] at h
  simp only [State.quit, ↓State.dropAdms_without, ↓without_rdp, ↓without_ite, ↓without_foldl, ite_self, implies_true,
      List.cons_subset, List.nil_subset, and_true, and_self, true_and, h]

theorem State.toPhase_without {W : List Part} (s : State) (c : CmdId) (r : RUnit) (p : UPhase) (h : [Part.prx, .cmds,
    .rdp] ⊆ W) :
    (s.toPhase c r p).without W = s.without W := by
  simp only [List.cons_subset, List.nil_subset, and_true] at h
  simp only [State.toPhase, ↓State.updUnit_without, ↓State.quit_without, ↓without_ite, ↓without_foldl, ite_self,
      implies_true, List.cons_subset, List.nil_subset, and_true, and_self, true_and, h]

theorem State.endReads_without {W : List Part} (s : State) (x : Cmd) (h : [Part.prx, .cmds, .rdp, .wrp, .evc, .regs 7,
    .regs 8, .regs 15] ⊆ W) :
    (s.endReads x).without W = s.without W := by
  simp only [List.cons_subset, List.nil_subset, and_true] at h
  simp only [State.endReads, ↓State.quit_without, ↓State.letGo_without, ↓State.leaveSoft_without, ↓without_ite,
      ↓without_foldl, ite_self, implies_true, List.cons_subset, List.nil_subset, and_true, and_self, true_and, h]

theorem State.logError_without {W : List Part} (s : State) (e : ErrEntry) (h : [Part.fns, .errs] ⊆ W) :
    (s.logError e).without W = s.without W := by
  simp only [List.cons_subset, List.nil_subset, and_true] at h
  simp only [State.logError, ↓State.updFn_without, ↓without_errs, ↓without_ite, ↓without_foldl, ite_self, implies_true,
      List.cons_subset, List.nil_subset, and_true, and_self, true_and, h]

theorem State.readFailed_without {W : List Part} (s : State) (x : Cmd) (u : Nat) (h : [Part.prx, .cmds, .rdp, .fns,
    .errs] ⊆ W) :
    (s.readFailed x u).without W = s.without W := by
  simp only [List.cons_subset, List.nil_subset, and_true] at h
  unfold State.readFailed
  (repeat' split) <;> simp only [↓State.toPhase_without, ↓State.finish_without, ↓State.meet_without,
      ↓State.logError_without, ↓without_ite, ↓without_foldl, ite_self, implies_true, List.cons_subset, List.nil_subset,
      and_true, and_self, true_and, h]

theorem State.ure_without {W : List Part} (s : State) (x : Cmd) (u : Nat) (h : [Part.prx, .cmds, .rdp, .wrp, .fns,
    .errs, .evc, .mlk, .log, .out, .regs 7, .regs 8, .regs 13, .regs 15, .regs 20] ⊆ W) :
    (s.ure x u).without W = s.without W := by
  simp only [List.cons_subset, List.nil_subset, and_true] at h
  simp only [State.ure, ↓State.countErr_without, ↓State.setNum_without, ↓State.setEntry_without,
      ↓State.readFailed_without, ↓State.raise_without, ↓State.send_without, Reg.rdpUreCnt, Reg.rdpUreLbaLo,
      Reg.rdpUreVf, Reg.rdpUreNsid, Reg.rdpEvent, Reg.rdpUreLbaHi, Nat.reduceDiv, ↓without_ite, ↓without_foldl,
      ite_self, implies_true, List.cons_subset, List.nil_subset, and_true, and_self, true_and, h]

theorem State.countRead_without {W : List Part} (s : State) (loc : Nat) (h : [Part.mch, .regs 7] ⊆ W) :
    (s.countRead loc).without W = s.without W := by
  simp only [List.cons_subset, List.nil_subset, and_true] at h
  simp only [State.countRead, ↓State.updBlock_without, ↓State.inc_without, Reg.rdpMediaReadCnt, Nat.reduceDiv,
      ↓without_ite, ↓without_foldl, ite_self, implies_true, List.cons_subset, List.nil_subset, and_true, and_self,
      true_and, h]

theorem State.startRead_without {W : List Part} (s : State) (lane loc shift : Nat) (w : Work) (slotEnd : Nat)
    (h : [Part.mch, .out, .regs 7] ⊆ W) :
    (s.startRead lane loc shift w slotEnd).without W = s.without W := by
  simp only [List.cons_subset, List.nil_subset, and_true] at h
  simp only [State.startRead, ↓State.startDie_without, ↓State.setLevels_without, ↓State.countRead_without,
      ↓without_ite, ↓without_foldl, ite_self, implies_true, List.cons_subset, List.nil_subset, and_true, and_self,
      true_and, h]

theorem State.startLeg_without {W : List Part} (s : State) (j : DecodeJob) (slotEnd : Nat) (h : [Part.cmds, .mch, .rdp,
    .wrp, .out, .regs 7, .regs 8] ⊆ W) :
    (s.startLeg j slotEnd).without W = s.without W := by
  simp only [List.cons_subset, List.nil_subset, and_true] at h
  unfold State.startLeg
  (repeat' split) <;> simp only [↓State.setLeg_without, ↓State.inc_without, ↓State.startRead_without,
      ↓State.when_without, Reg.wrpMergeCnt, Nat.reduceDiv, ↓without_ite, ↓without_foldl, ite_self, implies_true,
      List.cons_subset, List.nil_subset, and_true, and_self, true_and, h]

theorem State.admitRead_without {W : List Part} (s : State) (c : CmdId) (j : DecodeJob) (h : [Part.prx, .cmds] ⊆ W) :
    (s.admitRead c j).without W = s.without W := by
  simp only [List.cons_subset, List.nil_subset, and_true] at h
  unfold State.admitRead
  (repeat' split) <;> simp only [↓State.updCmd_without, ↓State.admitAt_without, ↓without_ite, ↓without_foldl, ite_self,
      implies_true, List.cons_subset, List.nil_subset, and_true, and_self, true_and, h]

theorem State.admitUnit_without {W : List Part} (s : State) (c : CmdId) (u : Nat) (h : [Part.prx, .cmds] ⊆ W) :
    (s.admitUnit c u).without W = s.without W := by
  simp only [List.cons_subset, List.nil_subset, and_true] at h
  simp only [State.admitUnit, ↓State.admitRead_without, ↓without_ite, ↓without_foldl, ite_self, implies_true,
      List.cons_subset, List.nil_subset, and_true, and_self, true_and, h]

theorem State.readFrom_without {W : List Part} (s : State) (x : Cmd) (r : RUnit) (how : ReadHow) (legs : List Leg)
    (stage : Nat) (h : [Part.prx, .cmds, .rdp] ⊆ W) :
    (s.readFrom x r how legs stage).without W = s.without W := by
  simp only [List.cons_subset, List.nil_subset, and_true] at h
  simp only [State.readFrom, ↓State.updUnit_without, ↓State.quit_without, ↓State.admitUnit_without, ↓without_ite,
      ↓without_foldl, ite_self, implies_true, List.cons_subset, List.nil_subset, and_true, and_self, true_and, h]

theorem State.startUrgent_without {W : List Part} (s : State) (lane : Nat) (h : [Part.cmds, .mch, .rdp, .wrp, .out,
    .regs 7, .regs 8] ⊆ W) :
    (s.startUrgent lane).without W = s.without W := by
  simp only [List.cons_subset, List.nil_subset, and_true] at h
  unfold State.startUrgent
  (repeat' split) <;> simp only [↓State.startLeg_without, ↓State.resumeDie_without, ↓without_rdp, ↓without_ite,
      ↓without_foldl, ite_self, implies_true, List.cons_subset, List.nil_subset, and_true, and_self, true_and, h]

theorem State.rescueStart_without {W : List Part} (s : State) (lane : Nat) (w : Work) (h : [Part.cmds, .mch, .rdp,
    .wrp, .out, .regs 6, .regs 7, .regs 8] ⊆ W) :
    (s.rescueStart lane w).without W = s.without W := by
  simp only [List.cons_subset, List.nil_subset, and_true] at h
  simp only [State.rescueStart, ↓State.suspendDie_without, ↓State.startUrgent_without, ↓without_rdp, ↓without_ite,
      ↓without_foldl, ite_self, implies_true, List.cons_subset, List.nil_subset, and_true, and_self, true_and, h]

theorem State.showAround_without {W : List Part} (s : State) (h : [Part.regs 7] ⊆ W) :
    (s.showAround).without W = s.without W := by
  simp only [List.cons_subset, List.nil_subset, and_true] at h
  simp only [State.showAround, ↓State.setBit_without, Reg.rdpStatus, Nat.reduceDiv, ↓without_ite, ↓without_foldl,
      ite_self, implies_true, List.cons_subset, List.nil_subset, and_true, and_self, true_and, h]

theorem State.sendAround_without {W : List Part} (s : State) (x : Cmd) (r : RUnit) (soft rescue : Bool) (t : State)
    (h : [Part.prx, .cmds, .rdp, .evc, .mlk, .out, .regs 7, .regs 13, .regs 15] ⊆ W)
    (e : s.sendAround x r soft rescue = some t) : t.without W = s.without W := by
  simp only [List.cons_subset, List.nil_subset, and_true] at h
  have e0 := fun (s : State) (c : CmdId) (r : RUnit) (p : UPhase) => State.toPhase_without (W := W) s c r p (by simp only [List.cons_subset, List.nil_subset, and_true, Reg.rdpAroundSentCnt, Nat.reduceDiv, h])
  have e1 := fun (s : State) (m : LinkMsg) => State.send_without (W := W) s m (by simp only [List.cons_subset, List.nil_subset, and_true, Reg.rdpAroundSentCnt, Nat.reduceDiv, h])
  have r2 := fun (x0 : State) (x1 : Rdp) => without_rdp (W := W) x0 x1 (by simp only [h])
  unfold State.sendAround at e
  dsimp only at e
  (repeat' split at e) <;> first | (simp only [reduceCtorEq] at e; done) | (cases e; repeat' (first
      | with_reducible rfl
      | with_reducible refine (e0 _ _ _ _).trans ?_
      | with_reducible refine (State.inc_without _ _ _ (by simp only [List.cons_subset, List.nil_subset, and_true, Reg.rdpAroundSentCnt, Nat.reduceDiv, h])).trans ?_
      | with_reducible refine (e1 _ _).trans ?_
      | with_reducible refine without_if ?_ ?_
      | with_reducible refine (without_foldl (fun t a => ?_) _ _).trans ?_
      | simp only [r2, h]))

theorem State.takeRepairs_without {W : List Part} (s : State) (h : [Part.rdp, .wrp, .mcr, .nss, .evc, .mlk, .out,
    .regs 8, .regs 13, .regs 15] ⊆ W) :
    (s.takeRepairs).without W = s.without W := by
  simp only [List.cons_subset, List.nil_subset, and_true] at h
  unfold State.takeRepairs
  dsimp only
  repeat' (first | (simp only [↓State.addWrite_without, ↓State.becomeStaged_without, ↓without_rdp, ↓without_ite, ↓without_foldl, ite_self, implies_true, List.cons_subset, List.nil_subset, and_true, and_self, true_and, h]; done) | split | (refine (without_foldl (fun s a => ?_) _ _).trans ?_) | simp only [↓State.addWrite_without, ↓State.becomeStaged_without, ↓without_rdp, ↓without_ite, ↓without_foldl, ite_self, implies_true, List.cons_subset, List.nil_subset, and_true, and_self, true_and, h])

theorem State.recovered_without {W : List Part} (s : State) (x : Cmd) (r : RUnit) (h : [Part.prx, .cmds, .mch, .rdp,
    .wrp, .mcr, .nss, .evc, .mlk, .out, .regs 7, .regs 8, .regs 13, .regs 15] ⊆ W) :
    (s.recovered x r).without W = s.without W := by
  simp only [List.cons_subset, List.nil_subset, and_true] at h
  unfold State.recovered
  dsimp only
  (repeat' split) <;> simp only [↓State.updCmd_without, ↓State.updDie_without, ↓State.takeRepairs_without,
      ↓State.toPhase_without, ↓State.raise_without, ↓State.inc_without, ↓State.readSettle_without,
      ↓State.leaveSoft_without, ↓without_rdp, Reg.rdpParityOkCnt, Reg.rdpSoftOkCnt, Reg.rdpRepairCnt, Reg.rdpEvent,
      Reg.rdpRescueOkCnt, Reg.rdpCtl, Nat.reduceDiv, ↓without_ite, ↓without_foldl, ite_self, implies_true,
      List.cons_subset, List.nil_subset, and_true, and_self, true_and, h]

theorem State.toParity_without {W : List Part} (s : State) (x : Cmd) (r : RUnit) (h : [Part.prx, .cmds, .mch, .rdp,
    .wrp, .mcr, .nss, .fns, .errs, .evc, .mlk, .log, .out, .regs 7, .regs 8, .regs 13, .regs 15, .regs 20] ⊆ W) :
    (s.toParity x r).without W = s.without W := by
  simp only [List.cons_subset, List.nil_subset, and_true] at h
  unfold State.toParity
  (repeat' split) <;> simp only [↓State.ure_without, ↓State.recovered_without, ↓State.updUnit_without,
      ↓State.readFrom_without, ↓State.leaveSoft_without, Reg.rdpCtl, Nat.reduceDiv, ↓without_ite, ↓without_foldl,
      ite_self, implies_true, List.cons_subset, List.nil_subset, and_true, and_self, true_and, h]

theorem State.toPartnerSoft_without {W : List Part} (s : State) (x : Cmd) (r : RUnit) (h : [Part.prx, .cmds, .mch,
    .rdp, .wrp, .mcr, .nss, .fns, .errs, .evc, .mlk, .log, .out, .regs 7, .regs 8, .regs 13, .regs 15, .regs 20] ⊆ W) :
    (s.toPartnerSoft x r).without W = s.without W := by
  simp only [List.cons_subset, List.nil_subset, and_true] at h
  have e0 := fun (s : State) (x : Cmd) (r : RUnit) => State.toParity_without (W := W) s x r (by simp only [List.cons_subset, List.nil_subset, and_true, Reg.rdpCtl, Nat.reduceDiv, h])
  have e1 := fun (s : State) (c : CmdId) (u : Nat) (f : RUnit → RUnit) => State.updUnit_without (W := W) s c u f (by simp only [List.cons_subset, List.nil_subset, and_true, Reg.rdpCtl, Nat.reduceDiv, h])
  have e2 := fun (s : State) (x : Cmd) (r : RUnit) (soft rescue : Bool) (w : State) => State.sendAround_without (W := W) s x r soft rescue w (by simp only [List.cons_subset, List.nil_subset, and_true, Reg.rdpCtl, Nat.reduceDiv, h])
  unfold State.toPartnerSoft
  repeat' (first
    | with_reducible rfl
    | with_reducible refine (e0 _ _ _).trans ?_
    | with_reducible refine (e1 _ _ _ _).trans ?_
    | with_reducible refine (e2 _ _ _ _ _ _ (by assumption)).trans ?_
    | with_reducible refine without_if ?_ ?_
    | with_reducible refine (without_foldl (fun t a => ?_) _ _).trans ?_
    | (with_reducible refine without_of_snd (by assumption) ?_)
    | (with_reducible refine without_of_fst (by assumption) ?_)
    | split)

theorem State.toSoft_without {W : List Part} (s : State) (x : Cmd) (r : RUnit) (h : [Part.prx, .cmds, .mch, .rdp, .wrp,
    .mcr, .nss, .fns, .errs, .evc, .mlk, .log, .out, .regs 7, .regs 8, .regs 13, .regs 15, .regs 20] ⊆ W) :
    (s.toSoft x r).without W = s.without W := by
  simp only [List.cons_subset, List.nil_subset, and_true] at h
  unfold State.toSoft
  dsimp only
  (repeat' split) <;> simp only [↓State.updCmd_without, ↓State.enterSoft_without, ↓State.countErr_without,
      ↓State.readFrom_without, ↓State.toPartnerSoft_without, ↓State.meet_without, Reg.rdpRescueFailCnt, Nat.reduceDiv,
      ↓without_ite, ↓without_foldl, ite_self, implies_true, List.cons_subset, List.nil_subset, and_true, and_self,
      true_and, h]

theorem State.reconSettle_without {W : List Part} (s : State) (x : Cmd) (r : RUnit) (legs : List Leg) (retried : Bool)
    (h : [Part.prx, .cmds, .mch, .rdp, .wrp, .mcr, .nss, .fns, .errs, .evc, .mlk, .log, .out, .regs 7, .regs 8,
    .regs 13, .regs 15, .regs 20] ⊆ W) :
    (s.reconSettle x r legs retried).without W = s.without W := by
  simp only [List.cons_subset, List.nil_subset, and_true] at h
  unfold State.reconSettle
  (repeat' split) <;> simp only [↓State.toSoft_without, ↓State.recovered_without, ↓State.updUnit_without,
      ↓State.readFrom_without, ↓without_ite, ↓without_foldl, ite_self, implies_true, List.cons_subset, List.nil_subset,
      and_true, and_self, true_and, h]

theorem State.toRecon_without {W : List Part} (s : State) (x : Cmd) (r : RUnit) (stage : Nat) (h : [Part.prx, .cmds,
    .mch, .rdp, .wrp, .mcr, .nss, .fns, .errs, .evc, .mlk, .log, .out, .regs 7, .regs 8, .regs 13, .regs 15,
    .regs 20] ⊆ W) :
    (s.toRecon x r stage).without W = s.without W := by
  simp only [List.cons_subset, List.nil_subset, and_true] at h
  simp only [State.toRecon, ↓State.reconSettle_without, ↓State.inc_without, ↓State.readFrom_without, Reg.rdpReconCnt,
      Nat.reduceDiv, ↓without_ite, ↓without_foldl, ite_self, implies_true, List.cons_subset, List.nil_subset, and_true,
      and_self, true_and, h]

theorem State.retryRead_without {W : List Part} (s : State) (x : Cmd) (r : RUnit) (slotEnd : Nat) (h : [Part.prx,
    .cmds, .mch, .rdp, .wrp, .mcr, .nss, .fns, .errs, .evc, .mlk, .log, .out, .regs 7, .regs 8, .regs 13, .regs 15,
    .regs 20] ⊆ W) :
    (s.retryRead x r slotEnd).without W = s.without W := by
  simp only [List.cons_subset, List.nil_subset, and_true] at h
  unfold State.retryRead
  dsimp only
  (repeat' split) <;> simp only [↓State.startLeg_without, ↓State.toSoft_without, ↓State.updUnit_without,
      ↓State.quit_without, ↓State.addAdm_without, ↓State.admitRead_without, ↓without_ite, ↓without_foldl, ite_self,
      implies_true, List.cons_subset, List.nil_subset, and_true, and_self, true_and, h]

theorem State.rescueLocal_without {W : List Part} (s : State) (x : Cmd) (r : RUnit) (h : [Part.prx, .cmds, .mch, .rdp,
    .wrp, .mcr, .nss, .fns, .errs, .evc, .mlk, .log, .out, .regs 6, .regs 7, .regs 8, .regs 13, .regs 15,
    .regs 20] ⊆ W) :
    (s.rescueLocal x r).without W = s.without W := by
  simp only [List.cons_subset, List.nil_subset, and_true] at h
  unfold State.rescueLocal
  (repeat' split) <;> simp only [↓State.toSoft_without, ↓State.rescueStart_without, ↓State.updUnit_without,
      ↓State.quit_without, ↓without_ite, ↓without_foldl, ite_self, implies_true, List.cons_subset, List.nil_subset,
      and_true, and_self, true_and, h]

theorem State.nextStage_without {W : List Part} (s : State) (x : Cmd) (r₀ : RUnit) (here : Bool) (slotEnd : Nat)
    (h : [Part.prx, .cmds, .mch, .rdp, .wrp, .mcr, .nss, .fns, .errs, .evc, .mlk, .log, .out, .regs 6, .regs 7,
    .regs 8, .regs 13, .regs 15, .regs 20] ⊆ W) :
    (s.nextStage x r₀ here slotEnd).without W = s.without W := by
  simp only [List.cons_subset, List.nil_subset, and_true] at h
  have e0 := fun (s : State) (x : Cmd) (r : RUnit) => State.toParity_without (W := W) s x r (by simp only [List.cons_subset, List.nil_subset, and_true, Nat.reduceDiv, h])
  have e1 := fun (s : State) (x : Cmd) (r : RUnit) (slotEnd : Nat) => State.retryRead_without (W := W) s x r slotEnd (by simp only [List.cons_subset, List.nil_subset, and_true, Nat.reduceDiv, h])
  have e2 := fun (s : State) (x : Cmd) (u : Nat) => State.ure_without (W := W) s x u (by simp only [List.cons_subset, List.nil_subset, and_true, Nat.reduceDiv, h])
  have e3 := fun (s : State) (x : Cmd) (r : RUnit) => State.toSoft_without (W := W) s x r (by simp only [List.cons_subset, List.nil_subset, and_true, Nat.reduceDiv, h])
  have e4 := fun (s : State) (c : CmdId) (u : Nat) (f : RUnit → RUnit) => State.updUnit_without (W := W) s c u f (by simp only [List.cons_subset, List.nil_subset, and_true, Nat.reduceDiv, h])
  have e5 := fun (s : State) (x : Cmd) (r : RUnit) => State.toPartnerSoft_without (W := W) s x r (by simp only [List.cons_subset, List.nil_subset, and_true, Nat.reduceDiv, h])
  have e6 := fun (s : State) (x : Cmd) (r : RUnit) (stage : Nat) => State.toRecon_without (W := W) s x r stage (by simp only [List.cons_subset, List.nil_subset, and_true, Nat.reduceDiv, h])
  have e7 := fun (s : State) (x : Cmd) (r : RUnit) => State.rescueLocal_without (W := W) s x r (by simp only [List.cons_subset, List.nil_subset, and_true, Nat.reduceDiv, h])
  have e8 := fun (s : State) (c : CmdId) (u : Nat) => State.leaveSoft_without (W := W) s c u (by simp only [List.cons_subset, List.nil_subset, and_true, Nat.reduceDiv, h])
  have e9 := fun (s : State) (x : Cmd) (r : RUnit) (soft rescue : Bool) (w : State) => State.sendAround_without (W := W) s x r soft rescue w (by simp only [List.cons_subset, List.nil_subset, and_true, Nat.reduceDiv, h])
  unfold State.nextStage
  repeat' (first
    | with_reducible rfl
    | with_reducible refine (e0 _ _ _).trans ?_
    | with_reducible refine (e1 _ _ _ _).trans ?_
    | with_reducible refine (e2 _ _ _).trans ?_
    | with_reducible refine (e3 _ _ _).trans ?_
    | with_reducible refine (e4 _ _ _ _).trans ?_
    | with_reducible refine (e5 _ _ _).trans ?_
    | with_reducible refine (e6 _ _ _ _).trans ?_
    | with_reducible refine (e7 _ _ _).trans ?_
    | with_reducible refine (e8 _ _ _).trans ?_
    | with_reducible refine (e9 _ _ _ _ _ _ (by assumption)).trans ?_
    | with_reducible refine without_if ?_ ?_
    | with_reducible refine (without_foldl (fun t a => ?_) _ _).trans ?_
    | (with_reducible refine without_of_snd (by assumption) ?_)
    | (with_reducible refine without_of_fst (by assumption) ?_)
    | split)

theorem State.noteVoid_without {W : List Part} (s : State) (c : CmdId) (lane : Nat) (h : [Part.cmds] ⊆ W) :
    (s.noteVoid c lane).without W = s.without W := by
  simp only [List.cons_subset, List.nil_subset, and_true] at h
  simp only [State.noteVoid, ↓State.updCmd_without, ↓State.meet_without, ↓without_ite, ↓without_foldl, ite_self,
      implies_true, List.cons_subset, List.nil_subset, and_true, and_self, true_and, h]

theorem State.readLocal_without {W : List Part} (s : State) (x : Cmd) (r : RUnit) (h : [Part.prx, .cmds, .rdp] ⊆ W) :
    (s.readLocal x r).without W = s.without W := by
  simp only [List.cons_subset, List.nil_subset, and_true] at h
  simp only [State.readLocal, ↓State.readFrom_without, ↓without_ite, ↓without_foldl, ite_self, implies_true,
      List.cons_subset, List.nil_subset, and_true, and_self, true_and, h]

theorem State.localInstead_without {W : List Part} (s : State) (x : Cmd) (r : RUnit) (h : [Part.prx, .cmds, .rdp] ⊆ W) :
    (s.localInstead x r).without W = s.without W := by
  simp only [List.cons_subset, List.nil_subset, and_true] at h
  simp only [State.localInstead, ↓State.readLocal_without, ↓State.updUnit_without, ↓without_ite, ↓without_foldl,
      ite_self, implies_true, List.cons_subset, List.nil_subset, and_true, and_self, true_and, h]

theorem State.route_without {W : List Part} (s : State) (x₀ : Cmd) (r : RUnit) (h : [Part.prx, .cmds, .mch, .rdp, .wrp,
    .mcr, .nss, .fns, .errs, .evc, .mlk, .log, .out, .regs 7, .regs 8, .regs 13, .regs 15, .regs 20] ⊆ W) :
    (s.route x₀ r).without W = s.without W := by
  simp only [List.cons_subset, List.nil_subset, and_true] at h
  have e0 := fun (s : State) (x : Cmd) (r : RUnit) => State.readLocal_without (W := W) s x r (by simp only [List.cons_subset, List.nil_subset, and_true, Nat.reduceDiv, h])
  have e1 := fun (s : State) (x : Cmd) (r : RUnit) => State.toSoft_without (W := W) s x r (by simp only [List.cons_subset, List.nil_subset, and_true, Nat.reduceDiv, h])
  have e2 := fun (s : State) (c : CmdId) (lane : Nat) => State.noteVoid_without (W := W) s c lane (by simp only [List.cons_subset, List.nil_subset, and_true, Nat.reduceDiv, h])
  have e3 := fun (s : State) (c : CmdId) (u : Nat) (f : RUnit → RUnit) => State.updUnit_without (W := W) s c u f (by simp only [List.cons_subset, List.nil_subset, and_true, Nat.reduceDiv, h])
  have e4 := fun (s : State) (c : CmdId) (cause : Nat) => State.meet_without (W := W) s c cause (by simp only [List.cons_subset, List.nil_subset, and_true, Nat.reduceDiv, h])
  have e5 := fun (s : State) (x : Cmd) (r : RUnit) => State.localInstead_without (W := W) s x r (by simp only [List.cons_subset, List.nil_subset, and_true, Nat.reduceDiv, h])
  have e6 := fun (s : State) (x : Cmd) (r : RUnit) (stage : Nat) => State.toRecon_without (W := W) s x r stage (by simp only [List.cons_subset, List.nil_subset, and_true, Nat.reduceDiv, h])
  have e7 := fun (s : State) (x : Cmd) (r : RUnit) (soft rescue : Bool) (w : State) => State.sendAround_without (W := W) s x r soft rescue w (by simp only [List.cons_subset, List.nil_subset, and_true, Nat.reduceDiv, h])
  unfold State.route
  repeat' (first
    | with_reducible rfl
    | with_reducible refine (e0 _ _ _).trans ?_
    | with_reducible refine (e1 _ _ _).trans ?_
    | with_reducible refine (e2 _ _ _).trans ?_
    | with_reducible refine (e3 _ _ _ _).trans ?_
    | with_reducible refine (e4 _ _ _).trans ?_
    | with_reducible refine (e5 _ _ _).trans ?_
    | with_reducible refine (e6 _ _ _ _).trans ?_
    | with_reducible refine (e7 _ _ _ _ _ _ (by assumption)).trans ?_
    | with_reducible refine without_if ?_ ?_
    | with_reducible refine (without_foldl (fun t a => ?_) _ _).trans ?_
    | (with_reducible refine without_of_snd (by assumption) ?_)
    | (with_reducible refine without_of_fst (by assumption) ?_)
    | split)

theorem State.chargeReadCmd_without {W : List Part} (s : State) (x : Cmd) (onMedia eccHit : Bool) (units : List Nat)
    (h : [Part.tenants, .cmds] ⊆ W) :
    (s.chargeReadCmd x onMedia eccHit units).without W = s.without W := by
  simp only [List.cons_subset, List.nil_subset, and_true] at h
  unfold State.chargeReadCmd
  dsimp only
  (repeat' split) <;> simp only [↓State.updCmd_without, ↓without_tenants, ↓without_ite, ↓without_foldl, ite_self,
      implies_true, List.cons_subset, List.nil_subset, and_true, and_self, true_and, h]

theorem State.mapLookup_without {W : List Part} (s : State) (c : CmdId) (cacheMiss : Nat) (eccUnit : Option Nat)
    (rebuilt : Bool) (h : [Part.prx, .tenants, .cmds, .mch, .rdp, .wrp, .mcr, .nss, .fns, .errs, .evc, .mlk, .log,
    .out, .regs 7, .regs 8, .regs 13, .regs 15, .regs 20] ⊆ W) :
    (s.mapLookup c cacheMiss eccUnit rebuilt).without W = s.without W := by
  simp only [List.cons_subset, List.nil_subset, and_true] at h
  unfold State.mapLookup
  dsimp only
  (repeat' split) <;> simp only [↓State.updCmd_without, ↓State.route_without, ↓State.countErr_without,
      ↓State.readFailed_without, ↓State.raise_without, ↓State.inc_without, ↓State.readSettle_without,
      ↓State.updWrite_without, ↓State.chargeReadCmd_without, Reg.rdpMapEccCnt, Reg.rdpStagingHitCnt, Reg.rdpMapDramCnt,
      Reg.rdpUnmappedCnt, Reg.rdpEvent, Nat.reduceDiv, ↓without_ite, ↓without_foldl, ite_self, implies_true,
      List.cons_subset, List.nil_subset, and_true, and_self, true_and, h]

theorem State.fallBack_without {W : List Part} (s : State) (x : Cmd) (r : RUnit) (h : [Part.prx, .cmds, .mch, .rdp,
    .wrp, .mcr, .nss, .fns, .errs, .evc, .mlk, .log, .out, .regs 7, .regs 8, .regs 13, .regs 15, .regs 20] ⊆ W) :
    (s.fallBack x r).without W = s.without W := by
  simp only [List.cons_subset, List.nil_subset, and_true] at h
  simp only [State.fallBack, ↓State.toSoft_without, ↓State.meet_without, ↓State.localInstead_without, ↓without_ite,
      ↓without_foldl, ite_self, implies_true, List.cons_subset, List.nil_subset, and_true, and_self, true_and, h]

theorem State.endAround_without {W : List Part} (s : State) (tag : Nat) (h : [Part.rdp] ⊆ W) :
    (s.endAround tag).without W = s.without W := by
  simp only [List.cons_subset, List.nil_subset, and_true] at h
  simp only [State.endAround, ↓without_rdp, ↓without_ite, ↓without_foldl, ite_self, implies_true, List.cons_subset,
      List.nil_subset, and_true, and_self, true_and, h]

theorem State.aroundRsp_without {W : List Part} (s : State) (tag status : Nat) (h : [Part.prx, .cmds, .mch, .rdp, .wrp,
    .mcr, .nss, .fns, .errs, .evc, .mlk, .log, .out, .regs 6, .regs 7, .regs 8, .regs 13, .regs 15, .regs 20] ⊆ W) :
    (s.aroundRsp tag status).without W = s.without W := by
  simp only [List.cons_subset, List.nil_subset, and_true] at h
  unfold State.aroundRsp
  dsimp only
  (repeat' split) <;> simp only [↓State.toParity_without, ↓State.countErr_without, ↓State.toPhase_without,
      ↓State.fallBack_without, ↓State.recovered_without, ↓State.updUnit_without, ↓State.nextStage_without,
      ↓State.inc_without, ↓State.endAround_without, ↓State.readSettle_without, ↓State.leaveSoft_without,
      Reg.rdpAroundLateCnt, Reg.rdpAroundRefusedCnt, Reg.rdpUnmappedCnt, Nat.reduceDiv, ↓without_ite, ↓without_foldl,
      ite_self, implies_true, List.cons_subset, List.nil_subset, and_true, and_self, true_and, h]

theorem State.aroundTimeout_without {W : List Part} (s : State) (tag : Nat) (h : [Part.prx, .cmds, .mch, .rdp, .wrp,
    .mcr, .nss, .fns, .errs, .evc, .mlk, .log, .out, .regs 7, .regs 8, .regs 13, .regs 15, .regs 20] ⊆ W) :
    (s.aroundTimeout tag).without W = s.without W := by
  simp only [List.cons_subset, List.nil_subset, and_true] at h
  unfold State.aroundTimeout
  dsimp only
  (repeat' split) <;> simp only [↓State.countErr_without, ↓State.fallBack_without, ↓State.raise_without,
      ↓State.endAround_without, ↓without_rdp, Reg.rdpAroundTmoCnt, Reg.rdpEvent, Nat.reduceDiv, ↓without_ite,
      ↓without_foldl, ite_self, implies_true, List.cons_subset, List.nil_subset, and_true, and_self, true_and, h]

theorem State.aroundsFallBack_without {W : List Part} (s : State) (ended : Bool) (h : [Part.prx, .cmds, .mch, .rdp,
    .wrp, .mcr, .nss, .fns, .errs, .evc, .mlk, .log, .out, .regs 7, .regs 8, .regs 13, .regs 15, .regs 20] ⊆ W) :
    (s.aroundsFallBack ended).without W = s.without W := by
  simp only [List.cons_subset, List.nil_subset, and_true] at h
  unfold State.aroundsFallBack
  dsimp only
  repeat' (first | (simp only [↓State.toParity_without, ↓State.fallBack_without, ↓without_rdp, ↓without_ite, ↓without_foldl, ite_self, implies_true, List.cons_subset, List.nil_subset, and_true, and_self, true_and, h]; done) | split | (refine (without_foldl (fun s a => ?_) _ _).trans ?_) | simp only [↓State.toParity_without, ↓State.fallBack_without, ↓without_rdp, ↓without_ite, ↓without_foldl, ite_self, implies_true, List.cons_subset, List.nil_subset, and_true, and_self, true_and, h])

theorem State.answerAround_without {W : List Part} (s : State) (tag status : Nat) (h : [Part.rdp, .evc, .mlk, .out,
    .regs 7, .regs 13, .regs 15] ⊆ W) :
    (s.answerAround tag status).without W = s.without W := by
  simp only [List.cons_subset, List.nil_subset, and_true] at h
  simp only [State.answerAround, ↓State.inc_without, ↓State.send_without, ↓without_rdp, Reg.rdpAroundServedCnt,
      Nat.reduceDiv, ↓without_ite, ↓without_foldl, ite_self, implies_true, List.cons_subset, List.nil_subset, and_true,
      and_self, true_and, h]

theorem State.areadReq_without {W : List Part} (s : State) (r : AreadReq) (h : [Part.cmds, .mch, .rdp, .wrp, .evc,
    .mlk, .out, .regs 6, .regs 7, .regs 8, .regs 13, .regs 15] ⊆ W) :
    (s.areadReq r).without W = s.without W := by
  simp only [List.cons_subset, List.nil_subset, and_true] at h
  unfold State.areadReq
  dsimp only
  (repeat' split) <;> simp only [↓State.answerAround_without, ↓State.rescueStart_without, ↓State.inc_without,
      ↓without_rdp, Reg.rdpStagingHitCnt, Nat.reduceDiv, ↓without_ite, ↓without_foldl, ite_self, implies_true,
      List.cons_subset, List.nil_subset, and_true, and_self, true_and, h]

theorem State.decodeNoted_without {W : List Part} (s : State) (g : Leg) (corrected : Nat) (h : [Part.mch] ⊆ W) :
    (s.decodeNoted g corrected).without W = s.without W := by
  simp only [List.cons_subset, List.nil_subset, and_true] at h
  simp only [State.decodeNoted, ↓State.updDie_without, ↓without_ite, ↓without_foldl, ite_self, implies_true,
      List.cons_subset, List.nil_subset, and_true, and_self, true_and, h]

theorem State.hardFailed_without {W : List Part} (s : State) (r : DecodeResult) (h : [Part.evc, .log, .regs 7,
    .regs 15, .regs 20] ⊆ W) :
    (s.hardFailed r).without W = s.without W := by
  simp only [List.cons_subset, List.nil_subset, and_true] at h
  simp only [State.hardFailed, ↓State.countErr_without, ↓State.raise_without, Reg.rdpTagFailCnt, Reg.rdpHardFailCnt,
      Reg.rdpEvent, Nat.reduceDiv, ↓without_ite, ↓without_foldl, ite_self, implies_true, List.cons_subset,
      List.nil_subset, and_true, and_self, true_and, h]

theorem State.softLeg_without {W : List Part} (s : State) (j : DecodeJob) (passes : Nat) (h : [Part.prx, .cmds, .rdp,
    .wrp] ⊆ W) :
    (s.softLeg j passes).without W = s.without W := by
  simp only [List.cons_subset, List.nil_subset, and_true] at h
  unfold State.softLeg
  (repeat' split) <;> simp only [↓State.setLeg_without, ↓State.admitRead_without, ↓without_ite, ↓without_foldl,
      ite_self, implies_true, List.cons_subset, List.nil_subset, and_true, and_self, true_and, h]

theorem State.unitLegEnds_without {W : List Part} (s : State) (c : CmdId) (u : Nat) (j : DecodeJob) (g : Leg)
    (ok : Bool) (h : [Part.prx, .cmds, .mch, .rdp, .wrp, .mcr, .nss, .fns, .errs, .evc, .mlk, .log, .out, .regs 6,
    .regs 7, .regs 8, .regs 13, .regs 15, .regs 20] ⊆ W) :
    (s.unitLegEnds c u j g ok).without W = s.without W := by
  simp only [List.cons_subset, List.nil_subset, and_true] at h
  unfold State.unitLegEnds
  dsimp only
  (repeat' split) <;> simp only [↓State.setLeg_without, ↓State.reconSettle_without, ↓State.recovered_without,
      ↓State.nextStage_without, ↓State.softLeg_without, ↓without_ite, ↓without_foldl, ite_self, implies_true,
      List.cons_subset, List.nil_subset, and_true, and_self, true_and, h]

theorem State.partRead_without {W : List Part} (s : State) (wid u : Nat) (ok : Bool) (h : [Part.rdp, .wrp, .mcr, .nss,
    .evc, .mlk, .out, .regs 8, .regs 13, .regs 15] ⊆ W) :
    (s.partRead wid u ok).without W = s.without W := by
  simp only [List.cons_subset, List.nil_subset, and_true] at h
  unfold State.partRead
  dsimp only
  (repeat' split) <;> simp only [↓State.becomeStaged_without, ↓State.merged_without, ↓without_ite, ↓without_foldl,
      ite_self, implies_true, List.cons_subset, List.nil_subset, and_true, and_self, true_and, h]

theorem State.legEnds_without {W : List Part} (s : State) (j : DecodeJob) (g : Leg) (ok : Bool) (h : [Part.prx, .cmds,
    .mch, .rdp, .wrp, .mcr, .nss, .fns, .errs, .evc, .mlk, .log, .out, .regs 6, .regs 7, .regs 8, .regs 13, .regs 15,
    .regs 20] ⊆ W) :
    (s.legEnds j g ok).without W = s.without W := by
  simp only [List.cons_subset, List.nil_subset, and_true] at h
  unfold State.legEnds
  (repeat' split) <;> simp only [↓State.answerAround_without, ↓State.unitLegEnds_without, ↓State.setLeg_without,
      ↓State.partRead_without, ↓State.softLeg_without, ↓without_ite, ↓without_foldl, ite_self, implies_true,
      List.cons_subset, List.nil_subset, and_true, and_self, true_and, h]

theorem State.readEnds_without {W : List Part} (s : State) (j : DecodeJob) (pass : Bool) (h : [Part.prx, .cmds, .mch,
    .rdp, .wrp, .mcr, .nss, .fns, .errs, .evc, .mlk, .log, .out, .regs 6, .regs 7, .regs 8, .regs 13, .regs 15,
    .regs 20] ⊆ W) :
    (s.readEnds j pass).without W = s.without W := by
  simp only [List.cons_subset, List.nil_subset, and_true] at h
  unfold State.readEnds
  (repeat' split) <;> simp only [↓State.legEnds_without, ↓State.setLeg_without, ↓without_ite, ↓without_foldl, ite_self,
      implies_true, List.cons_subset, List.nil_subset, and_true, and_self, true_and, h]

theorem State.busEnds_without {W : List Part} (s : State) (j : DecodeJob) (h : [Part.prx, .cmds, .rdp, .wrp] ⊆ W) :
    (s.busEnds j).without W = s.without W := by
  simp only [List.cons_subset, List.nil_subset, and_true] at h
  unfold State.busEnds
  (repeat' split) <;> simp only [↓State.setLeg_without, ↓State.admitRead_without, ↓without_ite, ↓without_foldl,
      ite_self, implies_true, List.cons_subset, List.nil_subset, and_true, and_self, true_and, h]

theorem State.orphanDecoded_without {W : List Part} (s : State) (j : DecodeJob) (corrected : Nat)
    (r : Option DecodeResult) (h : [Part.mch, .rdp, .evc, .log, .regs 7, .regs 15, .regs 20] ⊆ W) :
    (s.orphanDecoded j corrected r).without W = s.without W := by
  simp only [List.cons_subset, List.nil_subset, and_true] at h
  unfold State.orphanDecoded
  (repeat' split) <;> simp only [↓State.hardFailed_without, ↓State.decodeNoted_without, ↓without_rdp, ↓without_ite,
      ↓without_foldl, ite_self, implies_true, List.cons_subset, List.nil_subset, and_true, and_self, true_and, h]

theorem State.hardDecoded_without {W : List Part} (s : State) (j : DecodeJob) (corrected : Nat) (r : DecodeResult)
    (h : [Part.prx, .cmds, .mch, .rdp, .wrp, .mcr, .nss, .fns, .errs, .evc, .mlk, .log, .out, .regs 6, .regs 7,
    .regs 8, .regs 13, .regs 15, .regs 20] ⊆ W) :
    (s.hardDecoded j corrected r).without W = s.without W := by
  simp only [List.cons_subset, List.nil_subset, and_true] at h
  unfold State.hardDecoded
  (repeat' split) <;> simp only [↓State.legEnds_without, ↓State.hardFailed_without, ↓State.decodeNoted_without,
      ↓State.orphanDecoded_without, ↓without_ite, ↓without_foldl, ite_self, implies_true, List.cons_subset,
      List.nil_subset, and_true, and_self, true_and, h]

theorem State.softPass_without {W : List Part} (s : State) (j : DecodeJob) (corrected : Nat) (recovered : Bool)
    (h : [Part.prx, .cmds, .mch, .rdp, .wrp, .mcr, .nss, .fns, .errs, .evc, .mlk, .log, .out, .regs 6, .regs 7,
    .regs 8, .regs 13, .regs 15, .regs 20] ⊆ W) :
    (s.softPass j corrected recovered).without W = s.without W := by
  simp only [List.cons_subset, List.nil_subset, and_true] at h
  unfold State.softPass
  (repeat' split) <;> simp only [↓State.legEnds_without, ↓State.decodeNoted_without, ↓State.orphanDecoded_without,
      ↓State.softLeg_without, ↓without_ite, ↓without_foldl, ite_self, implies_true, List.cons_subset, List.nil_subset,
      and_true, and_self, true_and, h]

theorem State.dropCmds_without {W : List Part} (s : State) (p : Cmd → Bool) (h : [Part.prx, .cmds, .rdp, .wrp, .hpt,
    .evc, .regs 7, .regs 8, .regs 15] ⊆ W) :
    (s.dropCmds p).without W = s.without W := by
  simp only [List.cons_subset, List.nil_subset, and_true] at h
  simp only [State.dropCmds, ↓State.dropIntern_without, ↓State.endReads_without, ↓State.discardFilling_without,
      ↓without_cmds_rdp, ↓without_prx, ↓without_wrp, ↓without_ite, ↓without_foldl, ite_self, implies_true,
      List.cons_subset, List.nil_subset, and_true, and_self, true_and, h]

end Sys2Proof.Machine
end

