-- ==== Sys2Proof/Laws/KeepCare.lean ====
section
/-! SUPPORT. Which parts of the state the operations of Machine/Care.lean may change: every other part stays. -/
set_option linter.unusedSimpArgs false
set_option linter.unusedVariables false
namespace Sys2Proof.Machine


theorem State.gcReview_without {W : List Part} (s : State) (h : [Part.cmds, .mcr, .aens, .evc, .log, .regs 5, .regs 9,
    .regs 15, .regs 20] ⊆ W) :
    (s.gcReview).without W = s.without W := by
  simp only [List.cons_subset, List.nil_subset, and_true] at h
  simp only [State.gcReview, ↓State.raiseLog_without, ↓State.asyncEvent_without, ↓State.setNum_without,
      ↓State.setBit_without, ↓State.raise_without, ↓without_mcr, Reg.mcrGcDebt, Reg.mcrEvent, Reg.prxEvent,
      Reg.mcrStatus, Nat.reduceDiv, ↓without_ite, ↓without_foldl, ite_self, implies_true, List.cons_subset,
      List.nil_subset, and_true, and_self, true_and, h]

theorem State.gcFactorEdge_without {W : List Part} (s : State) (h : [Part.mcr, .evc, .regs 9, .regs 15] ⊆ W) :
    (s.gcFactorEdge).without W = s.without W := by
  simp only [List.cons_subset, List.nil_subset, and_true] at h
  simp only [State.gcFactorEdge, ↓State.setNum_without, ↓State.raise_without, ↓without_mcr, Reg.mcrEvent,
      Reg.mcrGcFactor, Reg.mcrWaAssumed, Reg.mcrWaMeas, Nat.reduceDiv, ↓without_ite, ↓without_foldl, ite_self,
      implies_true, List.cons_subset, List.nil_subset, and_true, and_self, true_and, h]

theorem State.gcFactorReview_without {W : List Part} (s : State) (h : [Part.mcr, .regs 9] ⊆ W) :
    (s.gcFactorReview).without W = s.without W := by
  simp only [List.cons_subset, List.nil_subset, and_true] at h
  unfold State.gcFactorReview
  (repeat' split) <;> simp only [↓State.setNum_without, ↓without_mcr, Reg.mcrGcFactor, Nat.reduceDiv, ↓without_ite,
      ↓without_foldl, ite_self, implies_true, List.cons_subset, List.nil_subset, and_true, and_self, true_and, h]

theorem State.waMeasure_without {W : List Part} (s : State) (h : [Part.mcr, .regs 9] ⊆ W) :
    (s.waMeasure).without W = s.without W := by
  simp only [List.cons_subset, List.nil_subset, and_true] at h
  simp only [State.waMeasure, ↓State.setField_without, ↓without_mcr, Reg.mcrWaMeas, Nat.reduceDiv, ↓without_ite,
      ↓without_foldl, ite_self, implies_true, List.cons_subset, List.nil_subset, and_true, and_self, true_and, h]

theorem State.beginFill_without {W : List Part} (s : State) (x : Cmd) (h : [Part.cmds, .wrp, .mcr, .regs 8] ⊆ W) :
    (s.beginFill x).without W = s.without W := by
  simp only [List.cons_subset, List.nil_subset, and_true] at h
  simp only [State.beginFill, ↓State.updCmd_without, ↓State.addWrite_without, ↓without_mcr, ↓without_ite,
      ↓without_foldl, ite_self, implies_true, List.cons_subset, List.nil_subset, and_true, and_self, true_and, h]

theorem State.tryFill_without {W : List Part} (s : State) (x : Cmd) (h : [Part.cmds, .wrp, .mcr, .evc, .regs 8,
    .regs 9, .regs 15] ⊆ W) :
    (s.tryFill x).without W = s.without W := by
  simp only [List.cons_subset, List.nil_subset, and_true] at h
  simp only [State.tryFill, ↓State.updCmd_without, ↓State.setBit_without, ↓State.raise_without, ↓State.inc_without,
      ↓State.when_without, ↓State.beginFill_without, Reg.wrpEvent, Reg.wrpStatus, Reg.wrpStageWaitCnt,
      Reg.mcrBeThrottleCnt, Nat.reduceDiv, ↓without_ite, ↓without_foldl, ite_self, implies_true, List.cons_subset,
      List.nil_subset, and_true, and_self, true_and, h]

theorem State.retryHeld_without {W : List Part} (s : State) (h : [Part.cmds, .wrp, .mcr, .evc, .regs 8, .regs 9,
    .regs 15] ⊆ W) :
    (s.retryHeld).without W = s.without W := by
  simp only [List.cons_subset, List.nil_subset, and_true] at h
  simp only [State.retryHeld, ↓State.setBit_without, ↓State.tryFill_without, Reg.wrpStatus, Nat.reduceDiv,
      ↓without_ite, ↓without_foldl, ite_self, implies_true, List.cons_subset, List.nil_subset, and_true, and_self,
      true_and, h]

theorem State.retireReady_without {W : List Part} (s : State) (lane : Nat) (h : [Part.cmds, .mch, .mcr, .aens, .evc,
    .log, .regs 9, .regs 15, .regs 20] ⊆ W) :
    (s.retireReady lane).without W = s.without W := by
  simp only [List.cons_subset, List.nil_subset, and_true] at h
  simp only [State.retireReady, ↓State.retireNow_without, ↓without_ite, ↓without_foldl, ite_self, implies_true,
      List.cons_subset, List.nil_subset, and_true, and_self, true_and, h]

theorem State.moveNext_without {W : List Part} (s : State) (lane block rank : Nat) (h : [Part.wrp, .regs 8,
    .regs 9] ⊆ W) :
    (s.moveNext lane block rank).without W = s.without W := by
  simp only [List.cons_subset, List.nil_subset, and_true] at h
  unfold State.moveNext
  dsimp only
  (repeat' split) <;> simp only [↓State.addWrite_without, ↓State.inc_without, ↓State.when_without, Reg.mcrGcUnitCnt,
      Nat.reduceDiv, ↓without_ite, ↓without_foldl, ite_self, implies_true, List.cons_subset, List.nil_subset, and_true,
      and_self, true_and, h]

theorem State.scrubRoll_without {W : List Part} (s : State) (lane : Nat) (h : [Part.mch] ⊆ W) :
    (s.scrubRoll lane).without W = s.without W := by
  simp only [List.cons_subset, List.nil_subset, and_true] at h
  simp only [State.scrubRoll, ↓State.updDie_without, ↓without_ite, ↓without_foldl, ite_self, implies_true,
      List.cons_subset, List.nil_subset, and_true, and_self, true_and, h]

theorem State.claim_without {W : List Part} (s : State) (lane rank block : Nat) (h : [Part.mch, .regs 9] ⊆ W) :
    (s.claim lane rank block).without W = s.without W := by
  simp only [List.cons_subset, List.nil_subset, and_true] at h
  simp only [State.claim, ↓State.updDie_without, ↓State.updBlock_without, ↓State.inc_without, Reg.mcrWlMoveCnt,
      Nat.reduceDiv, ↓without_ite, ↓without_foldl, ite_self, implies_true, List.cons_subset, List.nil_subset, and_true,
      and_self, true_and, h]

theorem State.startCare_without {W : List Part} (s₀ : State) (lane slotEnd : Nat) (endTick : Nat) (h : [Part.cmds,
    .mch, .mcr, .aens, .evc, .log, .out, .regs 7, .regs 9, .regs 15, .regs 20] ⊆ W) :
    (s₀.startCare lane slotEnd endTick).without W = s₀.without W := by
  simp only [List.cons_subset, List.nil_subset, and_true] at h
  unfold State.startCare
  dsimp only
  (repeat' split) <;> simp only [↓State.scrubRoll_without, ↓State.updDie_without, ↓State.updBlock_without,
      ↓State.claim_without, ↓State.retireReady_without, ↓State.inc_without, ↓State.startRead_without,
      Reg.rdpMediaReadCnt, Nat.reduceDiv, ↓without_ite, ↓without_foldl, ite_self, implies_true, List.cons_subset,
      List.nil_subset, and_true, and_self, true_and, h]

theorem State.startErase_without {W : List Part} (s : State) (lane slotEnd : Nat) (dump : Bool) (h : [Part.mch,
    .out] ⊆ W) :
    (s.startErase lane slotEnd dump).without W = s.without W := by
  simp only [List.cons_subset, List.nil_subset, and_true] at h
  unfold State.startErase
  (repeat' split) <;> simp only [↓State.startDie_without, ↓without_ite, ↓without_foldl, ite_self, implies_true,
      List.cons_subset, List.nil_subset, and_true, and_self, true_and, h]

theorem State.parkLane_without {W : List Part} (s : State) (lane : Nat) (h : [Part.cmds, .mch, .rdp, .wrp, .mcr, .aens,
    .evc, .log, .out, .regs 7, .regs 8, .regs 9, .regs 15, .regs 20] ⊆ W) :
    (s.parkLane lane).without W = s.without W := by
  simp only [List.cons_subset, List.nil_subset, and_true] at h
  unfold State.parkLane
  (repeat' split) <;> simp only [↓State.startCare_without, ↓State.startLeg_without, ↓State.startErase_without,
      ↓State.startJournal_without, ↓State.startProgram_without, ↓State.startCkpt_without, ↓without_ite, ↓without_foldl,
      ite_self, implies_true, List.cons_subset, List.nil_subset, and_true, and_self, true_and, h]

theorem State.parkWork_without {W : List Part} (s : State) (h : [Part.cmds, .mch, .rdp, .wrp, .mcr, .aens, .evc, .log,
    .out, .regs 7, .regs 8, .regs 9, .regs 15, .regs 20] ⊆ W) :
    (s.parkWork).without W = s.without W := by
  simp only [List.cons_subset, List.nil_subset, and_true] at h
  simp only [State.parkWork, ↓State.parkLane_without, ↓without_ite, ↓without_foldl, ite_self, implies_true,
      List.cons_subset, List.nil_subset, and_true, and_self, true_and, h]

theorem State.eraseDone_without {W : List Part} (s : State) (lane block : Nat) (pass : Bool) (h : [Part.cmds, .mch,
    .wrp, .mcr, .aens, .evc, .log, .regs 5, .regs 8, .regs 9, .regs 15, .regs 20] ⊆ W) :
    (s.eraseDone lane block pass).without W = s.without W := by
  simp only [List.cons_subset, List.nil_subset, and_true] at h
  simp only [State.eraseDone, ↓State.retireBlock_without, ↓State.forgetBlock_without, ↓State.countErr_without,
      ↓State.updBlock_without, ↓State.inc_without, ↓State.retryHeld_without, ↓State.gcReview_without,
      Reg.mcrGcBlockCnt, Reg.mcrEraseFailCnt, Reg.mcrRefreshRetCnt, Reg.mcrRefreshRdCnt, Nat.reduceDiv, ↓without_ite,
      ↓without_foldl, ite_self, implies_true, List.cons_subset, List.nil_subset, and_true, and_self, true_and, h]

theorem State.dumpErased_without {W : List Part} (s : State) (lane : Nat) (setB pass : Bool) (h : [Part.cmds, .mch,
    .rdp, .wrp, .evc, .mlk, .out, .regs 8, .regs 13, .regs 15] ⊆ W) :
    (s.dumpErased lane setB pass).without W = s.without W := by
  simp only [List.cons_subset, List.nil_subset, and_true] at h
  simp only [State.dumpErased, ↓State.updDie_without, ↓State.showReady_without, ↓State.showHealth_without,
      ↓without_ite, ↓without_foldl, ite_self, implies_true, List.cons_subset, List.nil_subset, and_true, and_self,
      true_and, h]

theorem State.disturbCheck_without {W : List Part} (s : State) (lane block : Nat) (h : [Part.mch] ⊆ W) :
    (s.disturbCheck lane block).without W = s.without W := by
  simp only [List.cons_subset, List.nil_subset, and_true] at h
  simp only [State.disturbCheck, ↓State.updBlock_without, ↓without_ite, ↓without_foldl, ite_self, implies_true,
      List.cons_subset, List.nil_subset, and_true, and_self, true_and, h]

theorem State.sampleRead_without {W : List Part} (s : State) (lane block : Nat) (h : [Part.mch] ⊆ W) :
    (s.sampleRead lane block).without W = s.without W := by
  simp only [List.cons_subset, List.nil_subset, and_true] at h
  simp only [State.sampleRead, ↓State.updBlock_without, ↓without_ite, ↓without_foldl, ite_self, implies_true,
      List.cons_subset, List.nil_subset, and_true, and_self, true_and, h]

theorem State.showScrub_without {W : List Part} (s : State) (h : [Part.regs 9] ⊆ W) :
    (s.showScrub).without W = s.without W := by
  simp only [List.cons_subset, List.nil_subset, and_true] at h
  simp only [State.showScrub, ↓State.setBit_without, Reg.mcrStatus, Nat.reduceDiv, ↓without_ite, ↓without_foldl,
      ite_self, implies_true, List.cons_subset, List.nil_subset, and_true, and_self, true_and, h]

theorem State.passEnds_without {W : List Part} (s : State) (lane : Nat) (h : [Part.mch, .regs 9] ⊆ W) :
    (s.passEnds lane).without W = s.without W := by
  simp only [List.cons_subset, List.nil_subset, and_true] at h
  simp only [State.passEnds, ↓State.updDie_without, ↓State.showScrub_without, ↓without_ite, ↓without_foldl, ite_self,
      implies_true, List.cons_subset, List.nil_subset, and_true, and_self, true_and, h]

theorem State.sampleDone_without {W : List Part} (s : State) (lane block corrected : Nat) (r : DecodeResult)
    (h : [Part.mch, .evc, .log, .regs 7, .regs 9, .regs 15, .regs 20] ⊆ W) :
    (s.sampleDone lane block corrected r).without W = s.without W := by
  simp only [List.cons_subset, List.nil_subset, and_true] at h
  simp only [State.sampleDone, ↓State.updDie_without, ↓State.hardFailed_without, ↓State.updBlock_without,
      ↓State.passEnds_without, ↓State.inc_without, Reg.mcrScrubBlockCnt, Nat.reduceDiv, ↓without_ite, ↓without_foldl,
      ite_self, implies_true, List.cons_subset, List.nil_subset, and_true, and_self, true_and, h]

theorem State.decoded_without {W : List Part} (s : State) (j : DecodeJob) (corrected : Nat) (r : DecodeResult)
    (h : [Part.prx, .cmds, .mch, .rdp, .wrp, .mcr, .nss, .fns, .errs, .evc, .mlk, .log, .out, .regs 6, .regs 7,
    .regs 8, .regs 9, .regs 13, .regs 15, .regs 20] ⊆ W) :
    (s.decoded j corrected r).without W = s.without W := by
  simp only [List.cons_subset, List.nil_subset, and_true] at h
  unfold State.decoded
  (repeat' split) <;> simp only [↓State.hardDecoded_without, ↓State.sampleDone_without, ↓without_ite, ↓without_foldl,
      ite_self, implies_true, List.cons_subset, List.nil_subset, and_true, and_self, true_and, h]

theorem State.scrubLate_without {W : List Part} (s : State) (lane : Nat) (h : [Part.mch, .evc, .log, .regs 9, .regs 15,
    .regs 20] ⊆ W) :
    (s.scrubLate lane).without W = s.without W := by
  simp only [List.cons_subset, List.nil_subset, and_true] at h
  simp only [State.scrubLate, ↓State.raiseLog_without, ↓State.updDie_without, ↓State.showScrub_without, Reg.mcrEvent,
      Nat.reduceDiv, ↓without_ite, ↓without_foldl, ite_self, implies_true, List.cons_subset, List.nil_subset, and_true,
      and_self, true_and, h]

theorem State.calibrate_without {W : List Part} (s : State) (lane group : Nat) (best : List Int) (h : [Part.mch, .out,
    .regs 7, .regs 9] ⊆ W) :
    (s.calibrate lane group best).without W = s.without W := by
  simp only [List.cons_subset, List.nil_subset, and_true] at h
  unfold State.calibrate
  (repeat' split) <;> simp only [↓State.updDie_without, ↓State.disturbCheck_without, ↓State.updBlock_without,
      ↓State.inc_without, ↓State.emit_without, Reg.mcrCalCnt, Reg.rdpMediaReadCnt, Nat.reduceDiv, ↓without_ite,
      ↓without_foldl, ite_self, implies_true, List.cons_subset, List.nil_subset, and_true, and_self, true_and, h]

theorem State.testStatus_without {W : List Part} (s : State) (state reason test failed : Nat) (h : [Part.regs 9] ⊆ W) :
    (s.testStatus state reason test failed).without W = s.without W := by
  simp only [List.cons_subset, List.nil_subset, and_true] at h
  simp only [State.testStatus, ↓State.setNum_without, Reg.mcrTestStatus, Nat.reduceDiv, ↓without_ite, ↓without_foldl,
      ite_self, implies_true, List.cons_subset, List.nil_subset, and_true, and_self, true_and, h]

theorem State.runTest_without {W : List Part} (s : State) (k : Option Nat) (h : [Part.mcr, .regs 9] ⊆ W) :
    (s.runTest k).without W = s.without W := by
  simp only [List.cons_subset, List.nil_subset, and_true] at h
  simp only [State.runTest, ↓State.setBit_without, ↓without_mcr, Reg.mcrStatus, Nat.reduceDiv, ↓without_ite,
      ↓without_foldl, ite_self, implies_true, List.cons_subset, List.nil_subset, and_true, and_self, true_and, h]

theorem State.setTest_without {W : List Part} (s : State) (state reason test failed : Nat) (h : [Part.mcr,
    .regs 9] ⊆ W) :
    (s.setTest state reason test failed).without W = s.without W := by
  simp only [List.cons_subset, List.nil_subset, and_true] at h
  simp only [State.setTest, ↓State.runTest_without, ↓State.testStatus_without, ↓without_ite, ↓without_foldl, ite_self,
      implies_true, List.cons_subset, List.nil_subset, and_true, and_self, true_and, h]

theorem State.holdupGpio_without {W : List Part} (s : State) (high : Bool) (h : [Part.out] ⊆ W) :
    (s.holdupGpio high).without W = s.without W := by
  simp only [List.cons_subset, List.nil_subset, and_true] at h
  unfold State.holdupGpio
  (repeat' split) <;> simp only [↓State.emit_without, ↓without_ite, ↓without_foldl, ite_self, implies_true,
      List.cons_subset, List.nil_subset, and_true, and_self, true_and, h]

theorem State.holdupStart_without {W : List Part} (s : State) (h : [Part.mcr, .out] ⊆ W) :
    (s.holdupStart).without W = s.without W := by
  simp only [List.cons_subset, List.nil_subset, and_true] at h
  simp only [State.holdupStart, ↓State.holdupGpio_without, ↓without_mcr, Reg.wrpHoldupSense, Nat.reduceDiv,
      ↓without_ite, ↓without_foldl, ite_self, implies_true, List.cons_subset, List.nil_subset, and_true, and_self,
      true_and, h]

theorem State.mediaErased_without {W : List Part} (s : State) (failed : Nat) (h : [Part.cmds, .mch, .mcr, .aens, .evc,
    .log, .regs 9, .regs 15, .regs 20] ⊆ W) :
    (s.mediaErased failed).without W = s.without W := by
  simp only [List.cons_subset, List.nil_subset, and_true] at h
  simp only [State.mediaErased, ↓State.updBlock_without, ↓State.retireNow_without, ↓without_ite, ↓without_foldl,
      ite_self, implies_true, List.cons_subset, List.nil_subset, and_true, and_self, true_and, h]

theorem State.testStart_without {W : List Part} (s : State) (v : Word) (h : [Part.cmds, .mch, .rdp, .wrp, .mcr, .aens,
    .evc, .log, .out, .regs 7, .regs 8, .regs 9, .regs 15, .regs 20] ⊆ W) :
    (s.testStart v).without W = s.without W := by
  simp only [List.cons_subset, List.nil_subset, and_true] at h
  have e0 := fun (s : State) => State.parkWork_without (W := W) s (by simp only [List.cons_subset, List.nil_subset, and_true, Reg.pwrDomainSeen, Reg.mcrEvent, Reg.prxStatus, Nat.reduceDiv, h])
  have e1 := fun (s : State) (lane n : Nat) (f : Blk → Blk) => State.updBlock_without (W := W) s lane n f (by simp only [List.cons_subset, List.nil_subset, and_true, Reg.pwrDomainSeen, Reg.mcrEvent, Reg.prxStatus, Nat.reduceDiv, h])
  have e2 := fun (s : State) (state reason test failed : Nat) => State.setTest_without (W := W) s state reason test failed (by simp only [List.cons_subset, List.nil_subset, and_true, Reg.pwrDomainSeen, Reg.mcrEvent, Reg.prxStatus, Nat.reduceDiv, h])
  have e3 := fun (s : State) (state reason test failed : Nat) => State.testStatus_without (W := W) s state reason test failed (by simp only [List.cons_subset, List.nil_subset, and_true, Reg.pwrDomainSeen, Reg.mcrEvent, Reg.prxStatus, Nat.reduceDiv, h])
  have e4 := fun (s : State) => State.holdupStart_without (W := W) s (by simp only [List.cons_subset, List.nil_subset, and_true, Reg.pwrDomainSeen, Reg.mcrEvent, Reg.prxStatus, Nat.reduceDiv, h])
  have r5 := fun (x0 : State) (x1 : Mcr) => without_mcr (W := W) x0 x1 (by simp only [h])
  unfold State.testStart
  repeat' (first
    | with_reducible rfl
    | with_reducible refine (e0 _).trans ?_
    | with_reducible refine (e1 _ _ _ _).trans ?_
    | with_reducible refine (e2 _ _ _ _ _).trans ?_
    | with_reducible refine (State.raise_without _ _ _ (by simp only [List.cons_subset, List.nil_subset, and_true, Reg.pwrDomainSeen, Reg.mcrEvent, Reg.prxStatus, Nat.reduceDiv, h])).trans ?_
    | with_reducible refine (State.domainReset_without _ _ _ (by simp only [List.cons_subset, List.nil_subset, and_true, Reg.pwrDomainSeen, Reg.mcrEvent, Reg.prxStatus, Nat.reduceDiv, h])).trans ?_
    | with_reducible refine (e3 _ _ _ _ _).trans ?_
    | with_reducible refine (e4 _).trans ?_
    | with_reducible refine without_if ?_ ?_
    | with_reducible refine (without_foldl (fun t a => ?_) _ _).trans ?_
    | simp only [r5, h])

theorem State.testEnded_without {W : List Part} (s : State) (h : [Part.prx, .rdp, .mcr, .evc, .mlk, .log, .out,
    .regs 5, .regs 13, .regs 15, .regs 20] ⊆ W) :
    (s.testEnded).without W = s.without W := by
  simp only [List.cons_subset, List.nil_subset, and_true] at h
  simp only [State.testEnded, ↓State.acceptArm_without, ↓without_mcr, ↓without_ite, ↓without_foldl, ite_self,
      implies_true, List.cons_subset, List.nil_subset, and_true, and_self, true_and, h]

theorem State.stopTest_without {W : List Part} (s : State) (h : [Part.prx, .mch, .rdp, .mcr, .evc, .mlk, .log, .out,
    .regs 5, .regs 9, .regs 13, .regs 15, .regs 20] ⊆ W) :
    (s.stopTest).without W = s.without W := by
  simp only [List.cons_subset, List.nil_subset, and_true] at h
  unfold State.stopTest
  (repeat' split) <;> simp only [↓State.updDie_without, ↓State.holdupGpio_without, ↓State.testEnded_without,
      ↓State.setTest_without, ↓State.raise_without, ↓without_mcr, Reg.mcrEvent, Nat.reduceDiv, ↓without_ite,
      ↓without_foldl, ite_self, implies_true, List.cons_subset, List.nil_subset, and_true, and_self, true_and, h]

theorem State.testAbort_without {W : List Part} (s : State) (h : [Part.prx, .mch, .rdp, .mcr, .evc, .mlk, .log, .out,
    .regs 5, .regs 9, .regs 13, .regs 15, .regs 20] ⊆ W) :
    (s.testAbort).without W = s.without W := by
  simp only [List.cons_subset, List.nil_subset, and_true] at h
  unfold State.testAbort
  (repeat' split) <;> simp only [↓State.stopTest_without, ↓without_mcr, ↓without_ite, ↓without_foldl, ite_self,
      implies_true, List.cons_subset, List.nil_subset, and_true, and_self, true_and, h]

theorem State.eyesDone_without {W : List Part} (s : State) (h : [Part.mlk, .draw] ⊆ W) :
    (s.eyesDone).without W = s.without W := by
  simp only [List.cons_subset, List.nil_subset, and_true] at h
  simp only [State.eyesDone, ↓State.drawn_without, ↓without_mlk, ↓without_ite, ↓without_foldl, ite_self, implies_true,
      List.cons_subset, List.nil_subset, and_true, and_self, true_and, h]

theorem State.testDone_without {W : List Part} (s : State) (failed : Nat) (h : [Part.prx, .cmds, .mch, .rdp, .mcr,
    .aens, .evc, .mlk, .log, .out, .draw, .regs 5, .regs 9, .regs 13, .regs 15, .regs 20] ⊆ W) :
    (s.testDone failed).without W = s.without W := by
  simp only [List.cons_subset, List.nil_subset, and_true] at h
  unfold State.testDone
  (repeat' split) <;> simp only [↓State.countErr_without, ↓State.mediaErased_without, ↓State.testEnded_without,
      ↓State.setTest_without, ↓State.raise_without, ↓State.eyesDone_without, ↓without_mcr, Reg.mcrEvent,
      Reg.mcrTestFailCnt, Reg.mlkEvent, Nat.reduceDiv, ↓without_ite, ↓without_foldl, ite_self, implies_true,
      List.cons_subset, List.nil_subset, and_true, and_self, true_and, h]

theorem State.holdupDue_without {W : List Part} (s : State) (h : [Part.cmds, .rdp, .wrp, .mcr, .evc, .mlk, .out,
    .regs 8, .regs 9, .regs 13, .regs 15] ⊆ W) :
    (s.holdupDue).without W = s.without W := by
  simp only [List.cons_subset, List.nil_subset, and_true] at h
  simp only [State.holdupDue, ↓State.setTest_without, ↓State.holdupStart_without, ↓State.showHealth_without,
      ↓without_mcr, Reg.mcrHoldupTest, Nat.reduceDiv, ↓without_ite, ↓without_foldl, ite_self, implies_true,
      List.cons_subset, List.nil_subset, and_true, and_self, true_and, h]

theorem State.holdupEnd_without {W : List Part} (s : State) (timeUs endCode : Nat) (h : [Part.cmds, .rdp, .wrp, .mcr,
    .evc, .mlk, .log, .out, .regs 8, .regs 9, .regs 13, .regs 15, .regs 20] ⊆ W) :
    (s.holdupEnd timeUs endCode).without W = s.without W := by
  simp only [List.cons_subset, List.nil_subset, and_true] at h
  unfold State.holdupEnd
  (repeat' split) <;> simp only [↓State.raiseLog_without, ↓State.countErr_without, ↓State.setNum_without,
      ↓State.setBit_without, ↓State.holdupGpio_without, ↓State.setTest_without, ↓State.raise_without,
      ↓State.when_without, ↓State.showHealth_without, ↓without_mcr, Reg.mcrEvent, Reg.mcrTestFailCnt,
      Reg.mcrHoldupLoad, Reg.mcrHoldupMin, Reg.mcrHoldupCap, Reg.mcrStatus, Nat.reduceDiv, ↓without_ite,
      ↓without_foldl, ite_self, implies_true, List.cons_subset, List.nil_subset, and_true, and_self, true_and, h]

theorem State.holdupCancel_without {W : List Part} (s : State) (h : [Part.mcr, .out] ⊆ W) :
    (s.holdupCancel).without W = s.without W := by
  simp only [List.cons_subset, List.nil_subset, and_true] at h
  simp only [State.holdupCancel, ↓State.holdupGpio_without, ↓without_mcr, ↓without_ite, ↓without_foldl, ite_self,
      implies_true, List.cons_subset, List.nil_subset, and_true, and_self, true_and, h]

theorem State.dailyPoint_without {W : List Part} (s : State) (lane : Nat) (h : [Part.mch] ⊆ W) :
    (s.dailyPoint lane).without W = s.without W := by
  simp only [List.cons_subset, List.nil_subset, and_true] at h
  simp only [State.dailyPoint, ↓State.updDie_without, ↓without_ite, ↓without_foldl, ite_self, implies_true,
      List.cons_subset, List.nil_subset, and_true, and_self, true_and, h]

theorem State.forecast_without {W : List Part} (s : State) (slowPpm : Nat) (h : [Part.mch, .mcr, .evc, .regs 9,
    .regs 15] ⊆ W) :
    (s.forecast slowPpm).without W = s.without W := by
  simp only [List.cons_subset, List.nil_subset, and_true] at h
  simp only [State.forecast, ↓State.dailyPoint_without, ↓State.raise_without, ↓without_mcr, Reg.mcrEvent,
      Reg.mcrHoldupMin, Nat.reduceDiv, ↓without_ite, ↓without_foldl, ite_self, implies_true, List.cons_subset,
      List.nil_subset, and_true, and_self, true_and, h]

end Sys2Proof.Machine
end

