-- ==== Sys2Proof/Laws/KeepSchedule.lean ====
section
/-! SUPPORT. Which parts of the state the operations of Machine/Schedule.lean may change: every other part stays. -/
set_option linter.unusedSimpArgs false
set_option linter.unusedVariables false
namespace Sys2Proof.Machine


theorem State.stageAdmit_without {W : List Part} (s : State) (c : CmdId) (k : StageKind) (lane units : Nat)
    (h : [Part.prx, .cmds] ⊆ W) :
    (s.stageAdmit c k lane units).without W = s.without W := by
  simp only [List.cons_subset, List.nil_subset, and_true] at h
  unfold State.stageAdmit
  (repeat' split) <;> simp only [↓State.updCmd_without, ↓State.admitAt_without, ↓without_ite, ↓without_foldl, ite_self,
      implies_true, List.cons_subset, List.nil_subset, and_true, and_self, true_and, h]

theorem State.countServe_without {W : List Part} (s : State) (lane : Nat) (h : [Part.prx] ⊆ W) :
    (s.countServe lane).without W = s.without W := by
  simp only [List.cons_subset, List.nil_subset, and_true] at h
  simp only [State.countServe, ↓without_prx, ↓without_ite, ↓without_foldl, ite_self, implies_true, List.cons_subset,
      List.nil_subset, and_true, and_self, true_and, h]

theorem State.served_without {W : List Part} (s : State) (lane group : Nat) (h : [Part.prx] ⊆ W) :
    (s.served lane group).without W = s.without W := by
  simp only [List.cons_subset, List.nil_subset, and_true] at h
  simp only [State.served, ↓without_prx, ↓without_ite, ↓without_foldl, ite_self, implies_true, List.cons_subset,
      List.nil_subset, and_true, and_self, true_and, h]

theorem State.slotProgram_without {W : List Part} (s : State) (lane : Nat) (y : SlotAt) (lent : Bool) (h : [Part.prx,
    .cmds, .mch, .wrp, .aens, .evc, .log, .out, .regs 8, .regs 9, .regs 15, .regs 20] ⊆ W) :
    (s.slotProgram lane y lent).without W = s.without W := by
  simp only [List.cons_subset, List.nil_subset, and_true] at h
  unfold State.slotProgram
  dsimp only
  (repeat' split) <;> simp only [↓State.served_without, ↓State.startJournal_without, ↓State.startProgram_without,
      ↓State.startCkpt_without, ↓without_prx, ↓without_ite, ↓without_foldl, ite_self, implies_true, List.cons_subset,
      List.nil_subset, and_true, and_self, true_and, h]

theorem State.slotServe_without {W : List Part} (s : State) (lane : Nat) (y : SlotAt) (lent : Bool) (h : [Part.prx,
    .cmds, .mch, .rdp, .wrp, .out, .regs 7, .regs 8] ⊆ W) :
    (s.slotServe lane y lent).without W = s.without W := by
  simp only [List.cons_subset, List.nil_subset, and_true] at h
  simp only [State.slotServe, ↓State.startLeg_without, ↓State.countServe_without, ↓without_ite, ↓without_foldl,
      ite_self, implies_true, List.cons_subset, List.nil_subset, and_true, and_self, true_and, h]
  (repeat' split) <;> simp only [↓State.startLeg_without, ↓State.countServe_without, ↓without_ite, ↓without_foldl,
      ite_self, implies_true, List.cons_subset, List.nil_subset, and_true, and_self, true_and, h]

theorem State.slotMerge_without {W : List Part} (s : State) (lane : Nat) (y : SlotAt) (lent : Bool) (h : [Part.prx,
    .cmds, .mch, .rdp, .wrp, .out, .regs 7, .regs 8] ⊆ W) :
    (s.slotMerge lane y lent).without W = s.without W := by
  simp only [List.cons_subset, List.nil_subset, and_true] at h
  unfold State.slotMerge
  dsimp only
  (repeat' split) <;> simp only [↓State.startLeg_without, ↓State.countServe_without, ↓without_ite, ↓without_foldl,
      ite_self, implies_true, List.cons_subset, List.nil_subset, and_true, and_self, true_and, h]

theorem State.slotOwn_without {W : List Part} (s : State) (lane : Nat) (y : SlotAt) (lent : Bool) (h : [Part.prx,
    .cmds, .mch, .wrp, .aens, .evc, .log, .out, .regs 8, .regs 9, .regs 15, .regs 20] ⊆ W) :
    (s.slotOwn lane y lent).without W = s.without W := by
  simp only [List.cons_subset, List.nil_subset, and_true] at h
  simp only [State.slotOwn, ↓State.startErase_without, ↓State.slotProgram_without, ↓without_ite, ↓without_foldl,
      ite_self, implies_true, List.cons_subset, List.nil_subset, and_true, and_self, true_and, h]

theorem State.orElseStart_without {W : List Part} (s : State) (lane : Nat) (f : State → State) (hf : ∀ t,
    (f t).without W = t.without W) :
    (s.orElseStart lane f).without W = s.without W := by
  unfold State.orElseStart
  repeat' (first
    | with_reducible rfl
    | with_reducible refine (hf _).trans ?_
    | with_reducible refine without_if ?_ ?_)

theorem State.idleCare_without {W : List Part} (s : State) (lane : Nat) (y : SlotAt) (lent : Bool) (h : [Part.cmds,
    .mch, .mcr, .aens, .evc, .log, .out, .regs 7, .regs 9, .regs 15, .regs 20] ⊆ W) :
    (s.idleCare lane y lent).without W = s.without W := by
  simp only [List.cons_subset, List.nil_subset, and_true] at h
  simp only [State.idleCare, ↓State.startCare_without, ↓without_ite, ↓without_foldl, ite_self, implies_true,
      List.cons_subset, List.nil_subset, and_true, and_self, true_and, h]

theorem State.idleErase_without {W : List Part} (s : State) (lane : Nat) (y : SlotAt) (lent : Bool) (h : [Part.mch,
    .out] ⊆ W) :
    (s.idleErase lane y lent).without W = s.without W := by
  simp only [List.cons_subset, List.nil_subset, and_true] at h
  simp only [State.idleErase, ↓State.startErase_without, ↓without_ite, ↓without_foldl, ite_self, implies_true,
      List.cons_subset, List.nil_subset, and_true, and_self, true_and, h]

theorem State.startAdm_without {W : List Part} (s : State) (a : Adm) (y : SlotAt) (h : [Part.prx, .cmds, .mch, .rdp,
    .wrp, .aens, .evc, .log, .out, .regs 7, .regs 8, .regs 9, .regs 15, .regs 20] ⊆ W) :
    (s.startAdm a y).without W = s.without W := by
  simp only [List.cons_subset, List.nil_subset, and_true] at h
  unfold State.startAdm
  (repeat' split) <;> simp only [↓State.endAdm_without, ↓State.startLeg_without, ↓State.readmit_without,
      ↓State.countServe_without, ↓State.startProgram_without, ↓without_prx, ↓without_ite, ↓without_foldl, ite_self,
      implies_true, List.cons_subset, List.nil_subset, and_true, and_self, true_and, h]

theorem State.startNext_without {W : List Part} (s : State) (lane : Nat) (h : [Part.prx, .cmds, .mch, .rdp, .wrp, .mcr,
    .aens, .evc, .log, .out, .regs 7, .regs 8, .regs 9, .regs 15, .regs 20] ⊆ W) :
    (s.startNext lane).without W = s.without W := by
  simp only [List.cons_subset, List.nil_subset, and_true] at h
  have e0 := fun (s : State) (a : Adm) (y : SlotAt) => State.startAdm_without (W := W) s a y (by simp only [List.cons_subset, List.nil_subset, and_true, Nat.reduceDiv, h])
  have e1 := fun (s : State) (lane : Nat) (y : SlotAt) (lent : Bool) => State.idleErase_without (W := W) s lane y lent (by simp only [List.cons_subset, List.nil_subset, and_true, Nat.reduceDiv, h])
  have e2 := fun (s : State) (lane : Nat) (y : SlotAt) (lent : Bool) => State.slotMerge_without (W := W) s lane y lent (by simp only [List.cons_subset, List.nil_subset, and_true, Nat.reduceDiv, h])
  have e3 := fun (s : State) (lane : Nat) (y : SlotAt) (lent : Bool) => State.slotOwn_without (W := W) s lane y lent (by simp only [List.cons_subset, List.nil_subset, and_true, Nat.reduceDiv, h])
  have e4 := fun (s : State) (lane : Nat) (y : SlotAt) (lent : Bool) => State.idleCare_without (W := W) s lane y lent (by simp only [List.cons_subset, List.nil_subset, and_true, Nat.reduceDiv, h])
  have e5 := fun (s : State) (lane : Nat) (y : SlotAt) (lent : Bool) => State.slotServe_without (W := W) s lane y lent (by simp only [List.cons_subset, List.nil_subset, and_true, Nat.reduceDiv, h])
  unfold State.startNext
  repeat' (first
    | with_reducible rfl
    | with_reducible refine (e0 _ _ _).trans ?_
    | with_reducible refine (e1 _ _ _ _).trans ?_
    | with_reducible refine (State.orElseStart_without _ _ _ (fun t => ?_)).trans ?_
    | with_reducible refine (e2 _ _ _ _).trans ?_
    | with_reducible refine (e3 _ _ _ _).trans ?_
    | with_reducible refine (e4 _ _ _ _).trans ?_
    | with_reducible refine (e5 _ _ _ _).trans ?_
    | with_reducible refine without_if ?_ ?_
    | with_reducible refine (without_foldl (fun t a => ?_) _ _).trans ?_
    | (with_reducible refine without_of_snd (by assumption) ?_)
    | (with_reducible refine without_of_fst (by assumption) ?_)
    | split)

theorem State.copySettle_without {W : List Part} (s : State) (h : [Part.cmds, .wrp, .mcr, .evc, .regs 8, .regs 9,
    .regs 15] ⊆ W) :
    (s.copySettle).without W = s.without W := by
  simp only [List.cons_subset, List.nil_subset, and_true] at h
  simp only [State.copySettle, ↓State.updCmd_without, ↓State.tryFill_without, ↓without_ite, ↓without_foldl, ite_self,
      implies_true, List.cons_subset, List.nil_subset, and_true, and_self, true_and, h]

theorem State.awaitXlat_without {W : List Part} (s : State) (x : Cmd) (h : [Part.cmds, .hpt, .out, .regs 1] ⊆ W) :
    (s.awaitXlat x).without W = s.without W := by
  simp only [List.cons_subset, List.nil_subset, and_true] at h
  simp only [State.awaitXlat, ↓State.updCmd_without, ↓State.meet_without, ↓State.askXlat_without, ↓without_ite,
      ↓without_foldl, ite_self, implies_true, List.cons_subset, List.nil_subset, and_true, and_self, true_and, h]

theorem State.cipherStage_without {W : List Part} (s : State) (c : CmdId) (units : Nat) (h : [Part.cmds, .wrp, .mcr,
    .evc, .out, .regs 8, .regs 9, .regs 10, .regs 15] ⊆ W) :
    (s.cipherStage c units).without W = s.without W := by
  simp only [List.cons_subset, List.nil_subset, and_true] at h
  unfold State.cipherStage
  (repeat' split) <;> simp only [↓State.updCmd_without, ↓State.copySettle_without, ↓State.setPhase_without,
      ↓State.inc_without, ↓State.letGo_without, ↓State.readSettle_without, ↓State.emit_without, Reg.tcyDecCnt,
      Reg.tcyEncCnt, Nat.reduceDiv, ↓without_ite, ↓without_foldl, ite_self, implies_true, List.cons_subset,
      List.nil_subset, and_true, and_self, true_and, h]

theorem State.deliverStage_without {W : List Part} (s : State) (c : CmdId) (units : Nat) (h : [Part.cmds, .hpt, .out,
    .regs 1] ⊆ W) :
    (s.deliverStage c units).without W = s.without W := by
  simp only [List.cons_subset, List.nil_subset, and_true] at h
  unfold State.deliverStage
  dsimp only
  repeat' (first | (simp only [↓State.toHost_without, ↓State.setPhase_without, ↓State.inc_without, ↓State.meet_without, ↓State.readSettle_without, Reg.hptAtcHitCnt, Nat.reduceDiv, ↓without_ite, ↓without_foldl, ite_self, implies_true, List.cons_subset, List.nil_subset, and_true, and_self, true_and, h]; done) | split | (refine (without_foldl (fun s a => ?_) _ _).trans ?_) | simp only [↓State.toHost_without, ↓State.setPhase_without, ↓State.inc_without, ↓State.meet_without, ↓State.readSettle_without, Reg.hptAtcHitCnt, Nat.reduceDiv, ↓without_ite, ↓without_foldl, ite_self, implies_true, List.cons_subset, List.nil_subset, and_true, and_self, true_and, h])

theorem State.fetchStage_without {W : List Part} (s : State) (c : CmdId) (units : Nat) (h : [Part.cmds, .hpt, .out,
    .regs 1] ⊆ W) :
    (s.fetchStage c units).without W = s.without W := by
  simp only [List.cons_subset, List.nil_subset, and_true] at h
  unfold State.fetchStage
  dsimp only
  repeat' (first | (simp only [↓State.updCmd_without, ↓State.readHost_without, ↓without_ite, ↓without_foldl, ite_self, implies_true, List.cons_subset, List.nil_subset, and_true, and_self, true_and, h]; done) | split | (refine (without_foldl (fun s a => ?_) _ _).trans ?_) | simp only [↓State.updCmd_without, ↓State.readHost_without, ↓without_ite, ↓without_foldl, ite_self, implies_true, List.cons_subset, List.nil_subset, and_true, and_self, true_and, h])

theorem State.beginAdm_without {W : List Part} (s : State) (a : Adm) (h : [Part.prx] ⊆ W) :
    (s.beginAdm a).without W = s.without W := by
  simp only [List.cons_subset, List.nil_subset, and_true] at h
  simp only [State.beginAdm, ↓without_prx, ↓without_ite, ↓without_foldl, ite_self, implies_true, List.cons_subset,
      List.nil_subset, and_true, and_self, true_and, h]

theorem State.moveLegs_without {W : List Part} (s : State) (n : Nat) (p : Leg → Bool) (js : List (DecodeJob × Leg))
    (f : State → DecodeJob → State) (hf : ∀ t j, (f t j).without W = t.without W) :
    (s.moveLegs n p js f).without W = s.without W := by
  unfold State.moveLegs
  repeat' (first
    | with_reducible rfl
    | with_reducible refine (hf _ _).trans ?_
    | with_reducible refine without_if ?_ ?_
    | with_reducible refine (without_foldl (fun t a => ?_) _ _).trans ?_)

theorem State.beginDecode_without {W : List Part} (s : State) (j : DecodeJob) (h : [Part.cmds, .rdp, .wrp] ⊆ W) :
    (s.beginDecode j).without W = s.without W := by
  simp only [List.cons_subset, List.nil_subset, and_true] at h
  simp only [State.beginDecode, ↓State.setLeg_without, ↓without_ite, ↓without_foldl, ite_self, implies_true,
      List.cons_subset, List.nil_subset, and_true, and_self, true_and, h]

theorem State.sendProgs_without {W : List Part} (s : State) (n : Nat) (p : ProgUnit → Bool) (h : [Part.wrp] ⊆ W) :
    (s.sendProgs n p).without W = s.without W := by
  simp only [List.cons_subset, List.nil_subset, and_true] at h
  simp only [State.sendProgs, ↓without_wrp, ↓without_ite, ↓without_foldl, ite_self, implies_true, List.cons_subset,
      List.nil_subset, and_true, and_self, true_and, h]

theorem State.beginStage_without {W : List Part} (s : State) (a : Adm) (h : [Part.prx, .cmds, .rdp, .wrp, .mcr, .hpt,
    .evc, .out, .regs 1, .regs 8, .regs 9, .regs 10, .regs 15] ⊆ W) :
    (s.beginStage a).without W = s.without W := by
  simp only [List.cons_subset, List.nil_subset, and_true] at h
  unfold State.beginStage
  dsimp only
  repeat' (first | (simp only [↓State.endAdm_without, ↓State.beginDecode_without, ↓State.busEnds_without, ↓State.moveLegs_without, ↓State.beginAdm_without, ↓State.readmit_without, ↓State.sendProgs_without, ↓State.fetchStage_without, ↓State.awaitXlat_without, ↓State.deliverStage_without, ↓State.cipherStage_without, ↓without_ite, ↓without_foldl, ite_self, implies_true, List.cons_subset, List.nil_subset, and_true, and_self, true_and, h]; done) | split | (refine (without_foldl (fun s a => ?_) _ _).trans ?_) | simp only [↓State.endAdm_without, ↓State.beginDecode_without, ↓State.busEnds_without, ↓State.moveLegs_without, ↓State.beginAdm_without, ↓State.readmit_without, ↓State.sendProgs_without, ↓State.fetchStage_without, ↓State.awaitXlat_without, ↓State.deliverStage_without, ↓State.cipherStage_without, ↓without_ite, ↓without_foldl, ite_self, implies_true, List.cons_subset, List.nil_subset, and_true, and_self, true_and, h])

theorem State.busOthers_without {W : List Part} (s : State) (y : SlotAt) (lent : Bool) (n : Nat) (h : [Part.prx, .cmds,
    .rdp, .wrp] ⊆ W) :
    (s.busOthers y lent n).without W = s.without W := by
  simp only [List.cons_subset, List.nil_subset, and_true] at h
  unfold State.busOthers
  dsimp only
  repeat' (first | (simp only [↓State.busEnds_without, ↓State.moveLegs_without, ↓State.sendProgs_without, ↓without_ite, ↓without_foldl, ite_self, implies_true, List.cons_subset, List.nil_subset, and_true, and_self, true_and, h]; done) | split | (refine (without_foldl (fun s a => ?_) _ _).trans ?_) | simp only [↓State.busEnds_without, ↓State.moveLegs_without, ↓State.sendProgs_without, ↓without_ite, ↓without_foldl, ite_self, implies_true, List.cons_subset, List.nil_subset, and_true, and_self, true_and, h])

theorem State.decodeOthers_without {W : List Part} (s : State) (lane : Nat) (y : SlotAt) (lent : Bool) (n : Nat)
    (h : [Part.cmds, .rdp, .wrp] ⊆ W) :
    (s.decodeOthers lane y lent n).without W = s.without W := by
  simp only [List.cons_subset, List.nil_subset, and_true] at h
  unfold State.decodeOthers
  dsimp only
  repeat' (first | (simp only [↓State.beginDecode_without, ↓State.moveLegs_without, ↓without_ite, ↓without_foldl, ite_self, implies_true, List.cons_subset, List.nil_subset, and_true, and_self, true_and, h]; done) | split | (refine (without_foldl (fun s a => ?_) _ _).trans ?_) | simp only [↓State.beginDecode_without, ↓State.moveLegs_without, ↓without_ite, ↓without_foldl, ite_self, implies_true, List.cons_subset, List.nil_subset, and_true, and_self, true_and, h])

theorem State.visit_without {W : List Part} (s : State) (f : Nat) (h : [Part.fns, .hpt, .out, .regs 1] ⊆ W) :
    (s.visit f).without W = s.without W := by
  simp only [List.cons_subset, List.nil_subset, and_true] at h
  unfold State.visit
  (repeat' split) <;> simp only [↓State.updFn_without, ↓State.inc_without, ↓State.when_without, ↓State.askXlat_without,
      ↓State.readHost_without, Reg.hptAtcHitCnt, Nat.reduceDiv, ↓without_ite, ↓without_foldl, ite_self, implies_true,
      List.cons_subset, List.nil_subset, and_true, and_self, true_and, h]

theorem State.visits_without {W : List Part} (s : State) (n : Nat) (y : SlotAt) (h : [Part.fns, .hpt, .out,
    .regs 1] ⊆ W) :
    (s.visits n y).without W = s.without W := by
  simp only [List.cons_subset, List.nil_subset, and_true] at h
  simp only [State.visits, ↓State.visit_without, ↓without_ite, ↓without_foldl, ite_self, implies_true,
      List.cons_subset, List.nil_subset, and_true, and_self, true_and, h]

theorem State.openMirror_without {W : List Part} (s : State) (lane : Nat) (y : SlotAt) (lent : Bool) (h : [Part.rdp,
    .evc, .mlk, .out, .regs 13, .regs 15] ⊆ W) :
    (s.openMirror lane y lent).without W = s.without W := by
  simp only [List.cons_subset, List.nil_subset, and_true] at h
  simp only [State.openMirror, ↓State.pump_without, ↓without_mlk, Reg.mlkStatus, Nat.reduceDiv, ↓without_ite,
      ↓without_foldl, ite_self, implies_true, List.cons_subset, List.nil_subset, and_true, and_self, true_and, h]

theorem State.laneOthers_without {W : List Part} (s : State) (lane : Nat) (y : SlotAt) (lent : Bool) (n : Nat)
    (h : [Part.prx, .cmds, .rdp, .wrp, .fns, .hpt, .evc, .mlk, .lpb, .out, .regs 1, .regs 3, .regs 11, .regs 13,
    .regs 15, .regs 19] ⊆ W) :
    (s.laneOthers lane y lent n).without W = s.without W := by
  simp only [List.cons_subset, List.nil_subset, and_true] at h
  unfold State.laneOthers
  (repeat' split) <;> simp only [↓State.serveIntern_without, ↓State.decodeOthers_without, ↓State.busOthers_without,
      ↓State.openMirror_without, ↓State.visits_without, ↓without_ite, ↓without_foldl, ite_self, implies_true,
      List.cons_subset, List.nil_subset, and_true, and_self, true_and, h]

theorem State.beginSlot_without {W : List Part} (s : State) (lane : Nat) (y : SlotAt) (h : [Part.prx, .cmds, .mch,
    .rdp, .wrp, .mcr, .fns, .hpt, .aens, .evc, .mlk, .log, .lpb, .out, .regs 1, .regs 3, .regs 5, .regs 6, .regs 7,
    .regs 8, .regs 9, .regs 10, .regs 11, .regs 13, .regs 15, .regs 19, .regs 20] ⊆ W) :
    (s.beginSlot lane y).without W = s.without W := by
  simp only [List.cons_subset, List.nil_subset, and_true] at h
  unfold State.beginSlot
  dsimp only
  repeat' (first | (simp only [↓State.updDie_without, ↓State.suspendDie_without, ↓State.laneOthers_without, ↓State.beginStage_without, ↓State.served_without, ↓State.resumeDie_without, ↓State.startNext_without, ↓State.inc_without, ↓State.readmit_without, ↓without_prx, Reg.prxLentCnt, Nat.reduceDiv, ↓without_ite, ↓without_foldl, ite_self, implies_true, List.cons_subset, List.nil_subset, and_true, and_self, true_and, h]; done) | split | (refine (without_foldl (fun s a => ?_) _ _).trans ?_) | simp only [↓State.updDie_without, ↓State.suspendDie_without, ↓State.laneOthers_without, ↓State.beginStage_without, ↓State.served_without, ↓State.resumeDie_without, ↓State.startNext_without, ↓State.inc_without, ↓State.readmit_without, ↓without_prx, Reg.prxLentCnt, Nat.reduceDiv, ↓without_ite, ↓without_foldl, ite_self, implies_true, List.cons_subset, List.nil_subset, and_true, and_self, true_and, h])

theorem State.slotStart_without {W : List Part} (s : State) (lane : Nat) (h : [Part.prx, .cmds, .mch, .rdp, .wrp, .mcr,
    .fns, .hpt, .aens, .evc, .mlk, .log, .lpb, .out, .regs 1, .regs 3, .regs 5, .regs 6, .regs 7, .regs 8, .regs 9,
    .regs 10, .regs 11, .regs 13, .regs 15, .regs 19, .regs 20] ⊆ W) :
    (s.slotStart lane).without W = s.without W := by
  simp only [List.cons_subset, List.nil_subset, and_true] at h
  unfold State.slotStart
  (repeat' split) <;> simp only [↓State.beginSlot_without, ↓without_prx, ↓without_ite, ↓without_foldl, ite_self,
      implies_true, List.cons_subset, List.nil_subset, and_true, and_self, true_and, h]

theorem State.beginLate_without {W : List Part} (s : State) (lane : Nat) (h : [Part.prx, .cmds, .mch, .rdp, .wrp, .mcr,
    .fns, .hpt, .aens, .evc, .mlk, .log, .lpb, .out, .regs 1, .regs 3, .regs 5, .regs 6, .regs 7, .regs 8, .regs 9,
    .regs 10, .regs 11, .regs 13, .regs 15, .regs 19, .regs 20] ⊆ W) :
    (s.beginLate lane).without W = s.without W := by
  simp only [List.cons_subset, List.nil_subset, and_true] at h
  unfold State.beginLate
  (repeat' split) <;> simp only [↓State.beginSlot_without, ↓without_prx, ↓without_ite, ↓without_foldl, ite_self,
      implies_true, List.cons_subset, List.nil_subset, and_true, and_self, true_and, h]

theorem State.freeLanes_without {W : List Part} (s : State) (h : [Part.prx, .cmds, .mch, .rdp, .wrp, .mcr, .fns, .hpt,
    .aens, .evc, .mlk, .log, .lpb, .out, .regs 1, .regs 3, .regs 5, .regs 6, .regs 7, .regs 8, .regs 9, .regs 10,
    .regs 11, .regs 13, .regs 15, .regs 19, .regs 20] ⊆ W) :
    (s.freeLanes).without W = s.without W := by
  simp only [List.cons_subset, List.nil_subset, and_true] at h
  simp only [State.freeLanes, ↓State.beginLate_without, ↓State.dropAdms_without, ↓without_ite, ↓without_foldl,
      ite_self, implies_true, List.cons_subset, List.nil_subset, and_true, and_self, true_and, h]

theorem State.overrun_without {W : List Part} (s : State) (lane : Nat) (h : [Part.evc, .log, .regs 5, .regs 15,
    .regs 20] ⊆ W) :
    (s.overrun lane).without W = s.without W := by
  simp only [List.cons_subset, List.nil_subset, and_true] at h
  simp only [State.overrun, ↓State.countErr_without, ↓State.setNum_without, ↓State.raise_without, Reg.prxOverrunLane,
      Reg.prxEvent, Reg.prxOverrunCnt, Nat.reduceDiv, ↓without_ite, ↓without_foldl, ite_self, implies_true,
      List.cons_subset, List.nil_subset, and_true, and_self, true_and, h]

theorem State.gateEnds_without {W : List Part} (s : State) (lane : Nat) (h : [Part.cmds, .mch, .rdp, .wrp, .out,
    .regs 7, .regs 8] ⊆ W) :
    (s.gateEnds lane).without W = s.without W := by
  simp only [List.cons_subset, List.nil_subset, and_true] at h
  simp only [State.gateEnds, ↓State.updDie_without, ↓State.startUrgent_without, ↓without_ite, ↓without_foldl, ite_self,
      implies_true, List.cons_subset, List.nil_subset, and_true, and_self, true_and, h]

theorem State.eraseEnds_without {W : List Part} (s : State) (lane : Nat) (h : [Part.mch, .out, .regs 6] ⊆ W) :
    (s.eraseEnds lane).without W = s.without W := by
  simp only [List.cons_subset, List.nil_subset, and_true] at h
  simp only [State.eraseEnds, ↓State.updDie_without, ↓State.suspendDie_without, ↓without_ite, ↓without_foldl, ite_self,
      implies_true, List.cons_subset, List.nil_subset, and_true, and_self, true_and, h]

theorem State.dieOverrun_without {W : List Part} (s : State) (lane end_ : Nat) (h : [Part.mch, .evc, .log, .regs 5,
    .regs 15, .regs 20] ⊆ W) :
    (s.dieOverrun lane end_).without W = s.without W := by
  simp only [List.cons_subset, List.nil_subset, and_true] at h
  simp only [State.dieOverrun, ↓State.updDie_without, ↓State.overrun_without, ↓without_ite, ↓without_foldl, ite_self,
      implies_true, List.cons_subset, List.nil_subset, and_true, and_self, true_and, h]

theorem State.slotEnd_without {W : List Part} (s : State) (lane : Nat) (h : [Part.prx, .cmds, .mch, .rdp, .wrp, .mcr,
    .fns, .hpt, .aens, .evc, .mlk, .log, .lpb, .out, .regs 1, .regs 3, .regs 5, .regs 6, .regs 7, .regs 8, .regs 9,
    .regs 10, .regs 11, .regs 13, .regs 15, .regs 19, .regs 20] ⊆ W) :
    (s.slotEnd lane).without W = s.without W := by
  simp only [List.cons_subset, List.nil_subset, and_true] at h
  unfold State.slotEnd
  dsimp only
  (repeat' split) <;> simp only [↓State.dieOverrun_without, ↓State.overrun_without, ↓State.eraseEnds_without,
      ↓State.beginLate_without, ↓State.gateEnds_without, ↓State.stopTest_without, ↓State.readmit_without,
      ↓State.dropAdms_without, ↓without_prx_mlk, ↓without_ite, ↓without_foldl, ite_self, implies_true,
      List.cons_subset, List.nil_subset, and_true, and_self, true_and, h]

theorem State.failWork_without {W : List Part} (s : State) (w : Work) (h : [Part.prx, .cmds, .mch, .rdp, .wrp, .mcr,
    .nss, .fns, .errs, .evc, .mlk, .log, .out, .regs 6, .regs 7, .regs 8, .regs 13, .regs 15, .regs 20] ⊆ W) :
    (s.failWork w).without W = s.without W := by
  simp only [List.cons_subset, List.nil_subset, and_true] at h
  unfold State.failWork
  (repeat' split) <;> simp only [↓State.legEnds_without, ↓State.programParked_without, ↓State.ckptPassed_without,
      ↓without_ite, ↓without_foldl, ite_self, implies_true, List.cons_subset, List.nil_subset, and_true, and_self,
      true_and, h]

theorem State.workDone_without {W : List Part} (s : State) (lane : Nat) (w : Work) (pass : Bool) (h : [Part.prx, .cmds,
    .mch, .rdp, .wrp, .mcr, .nss, .fns, .aens, .errs, .evc, .mlk, .log, .out, .regs 5, .regs 6, .regs 7, .regs 8,
    .regs 9, .regs 13, .regs 15, .regs 20] ⊆ W) :
    (s.workDone lane w pass).without W = s.without W := by
  simp only [List.cons_subset, List.nil_subset, and_true] at h
  unfold State.workDone
  (repeat' split) <;> simp only [↓State.dumpErased_without, ↓State.countErr_without, ↓State.journalWritten_without,
      ↓State.readEnds_without, ↓State.sampleRead_without, ↓State.ckptPassed_without, ↓State.failWork_without,
      ↓State.moveNext_without, ↓State.eraseDone_without, Reg.wrpProgFailCnt, Nat.reduceDiv, ↓without_ite,
      ↓without_foldl, ite_self, implies_true, List.cons_subset, List.nil_subset, and_true, and_self, true_and, h]

theorem State.dieGoesOn_without {W : List Part} (s : State) (lane : Nat) (h : [Part.prx, .cmds, .mch, .rdp, .wrp, .mcr,
    .fns, .hpt, .aens, .evc, .mlk, .log, .lpb, .out, .regs 1, .regs 3, .regs 5, .regs 6, .regs 7, .regs 8, .regs 9,
    .regs 10, .regs 11, .regs 13, .regs 15, .regs 19, .regs 20] ⊆ W) :
    (s.dieGoesOn lane).without W = s.without W := by
  simp only [List.cons_subset, List.nil_subset, and_true] at h
  have e0 := fun (s : State) (lane : Nat) => State.beginLate_without (W := W) s lane (by simp only [List.cons_subset, List.nil_subset, and_true, Nat.reduceDiv, h])
  have e1 := fun (s : State) (lane : Nat) => State.parkLane_without (W := W) s lane (by simp only [List.cons_subset, List.nil_subset, and_true, Nat.reduceDiv, h])
  have e2 := fun (s : State) (lane : Nat) => State.startUrgent_without (W := W) s lane (by simp only [List.cons_subset, List.nil_subset, and_true, Nat.reduceDiv, h])
  have e3 := fun (s : State) (lane : Nat) => State.startNext_without (W := W) s lane (by simp only [List.cons_subset, List.nil_subset, and_true, Nat.reduceDiv, h])
  unfold State.dieGoesOn
  repeat' (first
    | with_reducible rfl
    | with_reducible refine (e0 _ _).trans ?_
    | with_reducible refine (e1 _ _).trans ?_
    | with_reducible refine (e2 _ _).trans ?_
    | with_reducible refine (e3 _ _).trans ?_)

theorem State.dieDone_without {W : List Part} (s : State) (lane durNs : Nat) (r : OpResult) (h : [Part.prx, .cmds,
    .mch, .rdp, .wrp, .mcr, .nss, .fns, .hpt, .aens, .errs, .evc, .mlk, .log, .lpb, .out, .regs 1, .regs 3, .regs 5,
    .regs 6, .regs 7, .regs 8, .regs 9, .regs 10, .regs 11, .regs 13, .regs 15, .regs 19, .regs 20] ⊆ W) :
    (s.dieDone lane durNs r).without W = s.without W := by
  simp only [List.cons_subset, List.nil_subset, and_true] at h
  unfold State.dieDone
  dsimp only
  (repeat' split) <;> simp only [↓State.dieGoesOn_without, ↓State.updDie_without, ↓State.disturbCheck_without,
      ↓State.excursion_without, ↓State.workDone_without, ↓without_ite, ↓without_foldl, ite_self, implies_true,
      List.cons_subset, List.nil_subset, and_true, and_self, true_and, h]

theorem State.programDone_without {W : List Part} (s : State) (lane : Nat) (r : OpResult) (h : [Part.prx, .cmds, .mch,
    .rdp, .wrp, .mcr, .fns, .hpt, .aens, .evc, .mlk, .log, .lpb, .out, .regs 1, .regs 3, .regs 5, .regs 6, .regs 7,
    .regs 8, .regs 9, .regs 10, .regs 11, .regs 13, .regs 15, .regs 19, .regs 20] ⊆ W) :
    (s.programDone lane r).without W = s.without W := by
  simp only [List.cons_subset, List.nil_subset, and_true] at h
  unfold State.programDone
  (repeat' split) <;> simp only [↓State.dieGoesOn_without, ↓State.updDie_without, ↓State.excursion_without,
      ↓State.parkWork_without, ↓State.programFail_without, ↓State.programPass_without, ↓State.programParked_without,
      ↓State.retireReady_without, ↓State.gcReview_without, ↓without_ite, ↓without_foldl, ite_self, implies_true,
      List.cons_subset, List.nil_subset, and_true, and_self, true_and, h]

theorem State.clearDie_without {W : List Part} (s : State) (lane : Nat) (h : [Part.prx, .cmds, .mch, .rdp, .wrp, .mcr,
    .nss, .fns, .errs, .evc, .mlk, .log, .out, .regs 6, .regs 7, .regs 8, .regs 13, .regs 15, .regs 20] ⊆ W) :
    (s.clearDie lane).without W = s.without W := by
  simp only [List.cons_subset, List.nil_subset, and_true] at h
  unfold State.clearDie
  dsimp only
  repeat' (first | (simp only [↓State.updDie_without, ↓State.noteVoid_without, ↓State.failWork_without, ↓without_rdp, ↓without_ite, ↓without_foldl, ite_self, implies_true, List.cons_subset, List.nil_subset, and_true, and_self, true_and, h]; done) | split | (refine (without_foldl (fun s a => ?_) _ _).trans ?_) | simp only [↓State.updDie_without, ↓State.noteVoid_without, ↓State.failWork_without, ↓without_rdp, ↓without_ite, ↓without_foldl, ite_self, implies_true, List.cons_subset, List.nil_subset, and_true, and_self, true_and, h])

theorem State.rescueWaiting_without {W : List Part} (s : State) (lane : Nat) (h : [Part.prx, .cmds, .mch, .rdp, .wrp,
    .mcr, .nss, .fns, .errs, .evc, .mlk, .log, .out, .regs 6, .regs 7, .regs 8, .regs 13, .regs 15, .regs 20] ⊆ W) :
    (s.rescueWaiting lane).without W = s.without W := by
  simp only [List.cons_subset, List.nil_subset, and_true] at h
  unfold State.rescueWaiting
  dsimp only
  repeat' (first | (simp only [↓State.noteVoid_without, ↓State.dropAdms_without, ↓State.failWork_without, ↓without_ite, ↓without_foldl, ite_self, implies_true, List.cons_subset, List.nil_subset, and_true, and_self, true_and, h]; done) | split | (refine (without_foldl (fun s a => ?_) _ _).trans ?_) | simp only [↓State.noteVoid_without, ↓State.dropAdms_without, ↓State.failWork_without, ↓without_ite, ↓without_foldl, ite_self, implies_true, List.cons_subset, List.nil_subset, and_true, and_self, true_and, h])

theorem State.loseChannel_without {W : List Part} (s : State) (ch reason die : Nat) (h : [Part.prx, .cmds, .mch, .rdp,
    .wrp, .mcr, .nss, .fns, .aens, .errs, .evc, .mlk, .log, .sec, .out, .regs 5, .regs 6, .regs 7, .regs 8, .regs 13,
    .regs 15, .regs 20] ⊆ W) :
    (s.loseChannel ch reason die).without W = s.without W := by
  simp only [List.cons_subset, List.nil_subset, and_true] at h
  simp only [State.loseChannel, ↓State.bindingEnds_without, ↓State.clearDie_without, ↓State.rescueWaiting_without,
      ↓State.showReady_without, ↓State.loseCh_without, ↓State.showHealth_without, ↓without_ite, ↓without_foldl,
      ite_self, implies_true, List.cons_subset, List.nil_subset, and_true, and_self, true_and, h]

theorem State.loseDie_without {W : List Part} (s : State) (lane : Nat) (h : [Part.prx, .cmds, .mch, .rdp, .wrp, .mcr,
    .nss, .fns, .aens, .errs, .evc, .mlk, .log, .sec, .out, .regs 5, .regs 6, .regs 7, .regs 8, .regs 9, .regs 13,
    .regs 15, .regs 20] ⊆ W) :
    (s.loseDie lane).without W = s.without W := by
  simp only [List.cons_subset, List.nil_subset, and_true] at h
  simp only [State.loseDie, ↓State.raiseLog_without, ↓State.updDie_without, ↓State.setBit_without,
      ↓State.loseChannel_without, ↓State.clearDie_without, ↓State.criticalEvent_without, ↓State.rescueWaiting_without,
      ↓State.gcReview_without, ↓without_mcr, Reg.mcrEvent, Reg.mchEvent, Reg.mcrStatus, page_mchChDieLost,
      Nat.reduceDiv, ↓without_ite, ↓without_foldl, ite_self, implies_true, List.cons_subset, List.nil_subset, and_true,
      and_self, true_and, h]

theorem State.dieTimeout_without {W : List Part} (s : State) (lane : Nat) (h : [Part.prx, .cmds, .mch, .rdp, .wrp,
    .mcr, .nss, .fns, .hpt, .aens, .errs, .evc, .mlk, .log, .sec, .lpb, .out, .regs 1, .regs 3, .regs 5, .regs 6,
    .regs 7, .regs 8, .regs 9, .regs 10, .regs 11, .regs 13, .regs 15, .regs 19, .regs 20] ⊆ W) :
    (s.dieTimeout lane).without W = s.without W := by
  simp only [List.cons_subset, List.nil_subset, and_true] at h
  unfold State.dieTimeout
  dsimp only
  (repeat' split) <;> simp only [↓State.dieGoesOn_without, ↓State.countErr_without, ↓State.updDie_without,
      ↓State.excursion_without, ↓State.readEnds_without, ↓State.programFail_without, ↓State.loseDie_without,
      ↓State.failWork_without, ↓State.eraseDone_without, ↓State.emit_without, page_mchChTimeoutCnt, Nat.reduceDiv,
      ↓without_ite, ↓without_foldl, ite_self, implies_true, List.cons_subset, List.nil_subset, and_true, and_self,
      true_and, h]

theorem State.retrained_without {W : List Part} (s : State) (ch : Nat) (ok : Bool) (h : [Part.prx, .cmds, .mch, .rdp,
    .wrp, .mcr, .nss, .fns, .aens, .errs, .evc, .mlk, .log, .sec, .out, .regs 5, .regs 6, .regs 7, .regs 8, .regs 13,
    .regs 15, .regs 20] ⊆ W) :
    (s.retrained ch ok).without W = s.without W := by
  simp only [List.cons_subset, List.nil_subset, and_true] at h
  simp only [State.retrained, ↓State.countErr_without, ↓State.loseChannel_without, ↓State.trainChannel_without,
      ↓without_mch, page_mchChRetrainCnt, Nat.reduceDiv, ↓without_ite, ↓without_foldl, ite_self, implies_true,
      List.cons_subset, List.nil_subset, and_true, and_self, true_and, h]

theorem State.chRetire_without {W : List Part} (s : State) (ch : Nat) (h : [Part.prx, .cmds, .mch, .rdp, .wrp, .mcr,
    .nss, .fns, .aens, .errs, .evc, .mlk, .log, .sec, .out, .regs 5, .regs 6, .regs 7, .regs 8, .regs 13, .regs 15,
    .regs 20] ⊆ W) :
    (s.chRetire ch).without W = s.without W := by
  simp only [List.cons_subset, List.nil_subset, and_true] at h
  simp only [State.chRetire, ↓State.loseChannel_without, ↓State.showBringup_without, ↓without_ite, ↓without_foldl,
      ite_self, implies_true, List.cons_subset, List.nil_subset, and_true, and_self, true_and, h]

theorem State.chBroughtUp_without {W : List Part} (s : State) (ch : Nat) (f : BringupFacts) (h : [Part.prx, .cmds,
    .mch, .rdp, .wrp, .mcr, .aens, .evc, .mlk, .log, .sec, .out, .regs 5, .regs 6, .regs 7, .regs 8, .regs 9, .regs 13,
    .regs 15, .regs 20] ⊆ W) :
    (s.chBroughtUp ch f).without W = s.without W := by
  simp only [List.cons_subset, List.nil_subset, and_true] at h
  simp only [State.chBroughtUp, ↓State.updDie_without, ↓State.parkWork_without, ↓State.setBit_without,
      ↓State.bringupDone_without, ↓State.showReady_without, ↓State.gcReview_without, ↓State.showHealth_without,
      Reg.mcrStatus, Nat.reduceDiv, ↓without_ite, ↓without_foldl, ite_self, implies_true, List.cons_subset,
      List.nil_subset, and_true, and_self, true_and, h]

theorem State.ageDie_without {W : List Part} (s : State) (lane add : Nat) (h : [Part.mch] ⊆ W) :
    (s.ageDie lane add).without W = s.without W := by
  simp only [List.cons_subset, List.nil_subset, and_true] at h
  simp only [State.ageDie, ↓State.updDie_without, ↓without_ite, ↓without_foldl, ite_self, implies_true,
      List.cons_subset, List.nil_subset, and_true, and_self, true_and, h]

theorem State.dieTemp_without {W : List Part} (s : State) (lane : Nat) (temp : Int) (h : [Part.mch, .evc, .log, .out,
    .regs 6, .regs 15, .regs 20] ⊆ W) :
    (s.dieTemp lane temp).without W = s.without W := by
  simp only [List.cons_subset, List.nil_subset, and_true] at h
  simp only [State.dieTemp, ↓State.raiseLog_without, ↓State.updDie_without, ↓State.setNum_without,
      ↓State.ageDie_without, ↓State.emit_without, Reg.mchEvent, page_mchChDieTemp, Nat.reduceDiv, ↓without_ite,
      ↓without_foldl, ite_self, implies_true, List.cons_subset, List.nil_subset, and_true, and_self, true_and, h]

theorem State.writeStaged_without {W : List Part} (s : State) (c : CmdId) (h : [Part.cmds, .mch, .rdp, .wrp, .mcr,
    .nss, .aens, .evc, .mlk, .log, .out, .regs 7, .regs 8, .regs 9, .regs 13, .regs 15, .regs 20] ⊆ W) :
    (s.writeStaged c).without W = s.without W := by
  simp only [List.cons_subset, List.nil_subset, and_true] at h
  unfold State.writeStaged
  (repeat' split) <;> simp only [↓State.updCmd_without, ↓State.parkWork_without, ↓State.settle_without,
      ↓State.becomeStaged_without, ↓without_ite, ↓without_foldl, ite_self, implies_true, List.cons_subset,
      List.nil_subset, and_true, and_self, true_and, h]

theorem State.stagingFreed_without {W : List Part} (s : State) (wid : Nat) (h : [Part.cmds, .rdp, .wrp, .mcr, .nss,
    .evc, .mlk, .out, .regs 8, .regs 9, .regs 13, .regs 15] ⊆ W) :
    (s.stagingFreed wid).without W = s.without W := by
  simp only [List.cons_subset, List.nil_subset, and_true] at h
  simp only [State.stagingFreed, ↓State.retryMerges_without, ↓State.takeRepairs_without, ↓State.freeWrites_without,
      ↓State.retryHeld_without, ↓without_ite, ↓without_foldl, ite_self, implies_true, List.cons_subset,
      List.nil_subset, and_true, and_self, true_and, h]

theorem State.stripeTimeout_without {W : List Part} (s : State) (sid : Nat) (h : [Part.cmds, .mch, .rdp, .wrp, .mcr,
    .aens, .evc, .log, .out, .regs 7, .regs 8, .regs 9, .regs 15, .regs 20] ⊆ W) :
    (s.stripeTimeout sid).without W = s.without W := by
  simp only [List.cons_subset, List.nil_subset, and_true] at h
  unfold State.stripeTimeout
  (repeat' split) <;> simp only [↓State.parkWork_without, ↓State.closeStripe_without, Reg.wrpStripeTmo, Nat.reduceDiv,
      ↓without_ite, ↓without_foldl, ite_self, implies_true, List.cons_subset, List.nil_subset, and_true, and_self,
      true_and, h]

theorem State.checkpoint_without {W : List Part} (s : State) (seg : Nat) (h : [Part.cmds, .mch, .rdp, .wrp, .mcr,
    .aens, .evc, .log, .out, .regs 7, .regs 8, .regs 9, .regs 15, .regs 20] ⊆ W) :
    (s.checkpoint seg).without W = s.without W := by
  simp only [List.cons_subset, List.nil_subset, and_true] at h
  unfold State.checkpoint
  (repeat' split) <;> simp only [↓State.parkWork_without, ↓without_wrp, ↓without_ite, ↓without_foldl, ite_self,
      implies_true, List.cons_subset, List.nil_subset, and_true, and_self, true_and, h]

theorem State.checkpointAll_without {W : List Part} (s : State) (h : [Part.cmds, .mch, .rdp, .wrp, .mcr, .aens, .evc,
    .log, .out, .regs 7, .regs 8, .regs 9, .regs 15, .regs 20] ⊆ W) :
    (s.checkpointAll).without W = s.without W := by
  simp only [List.cons_subset, List.nil_subset, and_true] at h
  simp only [State.checkpointAll, ↓State.checkpoint_without, ↓without_ite, ↓without_foldl, ite_self, implies_true,
      List.cons_subset, List.nil_subset, and_true, and_self, true_and, h]

theorem State.ckptOld_without {W : List Part} (s : State) (h : [Part.cmds, .mch, .rdp, .wrp, .mcr, .aens, .evc, .log,
    .out, .regs 7, .regs 8, .regs 9, .regs 15, .regs 20] ⊆ W) :
    (s.ckptOld).without W = s.without W := by
  simp only [List.cons_subset, List.nil_subset, and_true] at h
  simp only [State.ckptOld, ↓State.checkpoint_without, ↓without_ite, ↓without_foldl, ite_self, implies_true,
      List.cons_subset, List.nil_subset, and_true, and_self, true_and, h]

theorem State.saveDevice_without {W : List Part} (s : State) (h : [Part.pwr, .log, .mtr] ⊆ W) :
    (s.saveDevice).without W = s.without W := by
  simp only [List.cons_subset, List.nil_subset, and_true] at h
  simp only [State.saveDevice, ↓without_pwr_mtr, ↓without_ite, ↓without_foldl, ite_self, implies_true,
      List.cons_subset, List.nil_subset, and_true, and_self, true_and, h]

theorem State.cleanMark_without {W : List Part} (s : State) (h : [Part.wrp, .mcr, .evc, .pwr, .log, .mtr, .regs 8,
    .regs 15] ⊆ W) :
    (s.cleanMark).without W = s.without W := by
  simp only [List.cons_subset, List.nil_subset, and_true] at h
  simp only [State.cleanMark, ↓State.saveDevice_without, ↓State.journalWritten_without, ↓State.journal_without,
      ↓without_wrp, ↓without_ite, ↓without_foldl, ite_self, implies_true, List.cons_subset, List.nil_subset, and_true,
      and_self, true_and, h]

theorem State.dumpStart_without {W : List Part} (s : State) (h : [Part.cmds, .mch, .rdp, .wrp, .mcr, .evc, .mlk, .pwr,
    .log, .mtr, .out, .regs 8, .regs 13, .regs 15] ⊆ W) :
    (s.dumpStart).without W = s.without W := by
  simp only [List.cons_subset, List.nil_subset, and_true] at h
  unfold State.dumpStart
  (repeat' split) <;> simp only [↓State.saveDevice_without, ↓State.setField_without, ↓State.updDie_without,
      ↓State.holdupCancel_without, ↓State.setBit_without, ↓State.inc_without, ↓State.discardFilling_without,
      ↓State.send_without, ↓State.showHealth_without, ↓State.emit_without, ↓without_cmds_rdp_wrp_pwr, ↓without_mlk,
      Reg.pwrStatus, Reg.mlkStatus, Reg.wrpDumpStatus, Reg.wrpStatus, Reg.wrpDumpCnt, Nat.reduceDiv, ↓without_ite,
      ↓without_foldl, ite_self, implies_true, List.cons_subset, List.nil_subset, and_true, and_self, true_and, h]

theorem State.dumpDone_without {W : List Part} (s : State) (h : [Part.wrp, .out, .regs 8] ⊆ W) :
    (s.dumpDone).without W = s.without W := by
  simp only [List.cons_subset, List.nil_subset, and_true] at h
  simp only [State.dumpDone, ↓State.setField_without, ↓State.setBit_without, ↓State.emit_without, ↓without_wrp,
      Reg.wrpDumpStatus, Reg.wrpStatus, Nat.reduceDiv, ↓without_ite, ↓without_foldl, ite_self, implies_true,
      List.cons_subset, List.nil_subset, and_true, and_self, true_and, h]

theorem State.senseSample_without {W : List Part} (s : State) (code : BitVec 12) (h : [Part.cmds, .mch, .rdp, .wrp,
    .mcr, .evc, .mlk, .pwr, .log, .mtr, .out, .regs 8, .regs 13, .regs 15] ⊆ W) :
    (s.senseSample code).without W = s.without W := by
  simp only [List.cons_subset, List.nil_subset, and_true] at h
  simp only [State.senseSample, ↓State.setNum_without, ↓State.dumpStart_without, ↓State.showHealth_without,
      ↓without_wrp, Reg.wrpHoldupSense, Reg.wrpDumpCtl, Reg.wrpHoldupCtl, Nat.reduceDiv, ↓without_ite, ↓without_foldl,
      ite_self, implies_true, List.cons_subset, List.nil_subset, and_true, and_self, true_and, h]

end Sys2Proof.Machine
end

