-- ==== Sys2Proof/Laws/KeepFnOps.lean ====
section
/-! SUPPORT. Which parts of the state the operations of Machine/FnOps.lean may change: every other part stays. -/
set_option linter.unusedSimpArgs false
set_option linter.unusedVariables false
namespace Sys2Proof.Machine


theorem State.aerLost_without {W : List Part} (s : State) (f : Nat) (h : [Part.evc, .log, .regs 1, .regs 15,
    .regs 20] ⊆ W) :
    (s.aerLost f).without W = s.without W := by
  simp only [List.cons_subset, List.nil_subset, and_true] at h
  simp only [State.aerLost, ↓State.countErr_without, ↓State.raise_without, Reg.hptEvent, Reg.hptAerLost, Nat.reduceDiv,
      ↓without_ite, ↓without_foldl, ite_self, implies_true, List.cons_subset, List.nil_subset, and_true, and_self,
      true_and, h]

theorem State.uncMessage_without {W : List Part} (s : State) (f bit : Nat) (h : [Part.out] ⊆ W) :
    (s.uncMessage f bit).without W = s.without W := by
  simp only [List.cons_subset, List.nil_subset, and_true] at h
  simp only [State.uncMessage, ↓State.emit_without, ↓without_ite, ↓without_foldl, ite_self, implies_true,
      List.cons_subset, List.nil_subset, and_true, and_self, true_and, h]

theorem State.uncLog_without {W : List Part} (s : State) (f bit : Nat) (h : [Part.fns, .evc, .log, .regs 1, .regs 15,
    .regs 20] ⊆ W) :
    (s.uncLog f bit).1.without W = s.without W := by
  simp only [List.cons_subset, List.nil_subset, and_true] at h
  unfold State.uncLog
  dsimp only
  (repeat' split) <;> simp only [↓State.updFn_without, ↓State.aerLost_without, ↓without_ite, ↓without_foldl, ite_self,
      implies_true, List.cons_subset, List.nil_subset, and_true, and_self, true_and, h]

theorem State.aerUnc_without {W : List Part} (s : State) (f bit : Nat) (h : [Part.fns, .evc, .log, .out, .regs 1,
    .regs 15, .regs 20] ⊆ W) :
    (s.aerUnc f bit).without W = s.without W := by
  simp only [List.cons_subset, List.nil_subset, and_true] at h
  simp only [State.aerUnc, ↓State.uncLog_without, ↓State.uncMessage_without, ↓State.aerLost_without, ↓without_ite,
      ↓without_foldl, ite_self, implies_true, List.cons_subset, List.nil_subset, and_true, and_self, true_and, h]

theorem State.aerCor_without {W : List Part} (s : State) (f bit : Nat) (h : [Part.fns, .evc, .log, .out, .regs 1,
    .regs 15, .regs 20] ⊆ W) :
    (s.aerCor f bit).without W = s.without W := by
  simp only [List.cons_subset, List.nil_subset, and_true] at h
  simp only [State.aerCor, ↓State.updFn_without, ↓State.aerLost_without, ↓State.emit_without, ↓without_ite,
      ↓without_foldl, ite_self, implies_true, List.cons_subset, List.nil_subset, and_true, and_self, true_and, h]

theorem State.aerAdvisory_without {W : List Part} (s : State) (f bit : Nat) (h : [Part.fns, .evc, .log, .out, .regs 1,
    .regs 15, .regs 20] ⊆ W) :
    (s.aerAdvisory f bit).without W = s.without W := by
  simp only [List.cons_subset, List.nil_subset, and_true] at h
  simp only [State.aerAdvisory, ↓State.uncLog_without, ↓State.updFn_without, ↓State.aerLost_without,
      ↓State.emit_without, ↓without_ite, ↓without_foldl, ite_self, implies_true, List.cons_subset, List.nil_subset,
      and_true, and_self, true_and, h]

theorem State.msixDrain_without {W : List Part} (s : State) (f : Nat) (h : [Part.fns, .hpt, .out, .regs 1,
    .regs 3] ⊆ W) :
    (s.msixDrain f).without W = s.without W := by
  simp only [List.cons_subset, List.nil_subset, and_true] at h
  simp only [State.msixDrain, ↓State.updFn_without, ↓State.msix_without, ↓without_ite, ↓without_foldl, ite_self,
      implies_true, List.cons_subset, List.nil_subset, and_true, and_self, true_and, h]

theorem State.signal_without {W : List Part} (s : State) (f vec : Nat) (h : [Part.fns, .hpt, .out, .regs 1,
    .regs 3] ⊆ W) :
    (s.signal f vec).without W = s.without W := by
  simp only [List.cons_subset, List.nil_subset, and_true] at h
  simp only [State.signal, ↓State.updFn_without, ↓State.inc_without, ↓State.msix_without, Reg.hiuDeferCnt,
      Nat.reduceDiv, ↓without_ite, ↓without_foldl, ite_self, implies_true, List.cons_subset, List.nil_subset, and_true,
      and_self, true_and, h]

theorem State.holdoffExpiry_without {W : List Part} (s : State) (f : Nat) (h : [Part.fns, .hpt, .out, .regs 1,
    .regs 3] ⊆ W) :
    (s.holdoffExpiry f).without W = s.without W := by
  simp only [List.cons_subset, List.nil_subset, and_true] at h
  simp only [State.holdoffExpiry, ↓State.updFn_without, ↓State.msix_without, ↓without_ite, ↓without_foldl, ite_self,
      implies_true, List.cons_subset, List.nil_subset, and_true, and_self, true_and, h]

theorem State.measure_without {W : List Part} (s : State) (x : Cmd) (h : [Part.tenants, .fns, .mtr] ⊆ W) :
    (s.measure x).without W = s.without W := by
  simp only [List.cons_subset, List.nil_subset, and_true] at h
  simp only [State.measure, ↓State.updFn_without, ↓without_mtr, ↓without_tenants, ↓without_ite, ↓without_foldl,
      ite_self, implies_true, List.cons_subset, List.nil_subset, and_true, and_self, true_and, h]

theorem State.updSq_without {W : List Part} (s : State) (f qid : Nat) (g : Sq → Sq) (h : [Part.fns] ⊆ W) :
    (s.updSq f qid g).without W = s.without W := by
  simp only [List.cons_subset, List.nil_subset, and_true] at h
  simp only [State.updSq, ↓State.updFn_without, ↓without_ite, ↓without_foldl, ite_self, implies_true, List.cons_subset,
      List.nil_subset, and_true, and_self, true_and, h]

theorem State.updCq_without {W : List Part} (s : State) (f qid : Nat) (g : Cq → Cq) (h : [Part.fns] ⊆ W) :
    (s.updCq f qid g).without W = s.without W := by
  simp only [List.cons_subset, List.nil_subset, and_true] at h
  simp only [State.updCq, ↓State.updFn_without, ↓without_ite, ↓without_foldl, ite_self, implies_true, List.cons_subset,
      List.nil_subset, and_true, and_self, true_and, h]

theorem State.writeCqe_without {W : List Part} (s : State) (c : CmdId) (q : Nat) (k : Cq) (status : Nat) (dnr : Bool)
    (dw0 : Word) (h : [Part.fns, .hpt, .out, .regs 1, .regs 3] ⊆ W) :
    (s.writeCqe c q k status dnr dw0).without W = s.without W := by
  simp only [List.cons_subset, List.nil_subset, and_true] at h
  simp only [State.writeCqe, ↓State.toHost_without, ↓State.signal_without, ↓State.updCq_without, ↓State.emit_without,
      ↓without_ite, ↓without_foldl, ite_self, implies_true, List.cons_subset, List.nil_subset, and_true, and_self,
      true_and, h]

theorem State.cqePost_without {W : List Part} (s : State) (c : CmdId) (held : Bool) (h : [Part.prx, .tenants, .cmds,
    .rdp, .wrp, .fns, .hpt, .evc, .mtr, .out, .regs 1, .regs 3, .regs 7, .regs 8, .regs 15] ⊆ W) :
    (s.cqePost c held).without W = s.without W := by
  simp only [List.cons_subset, List.nil_subset, and_true] at h
  unfold State.cqePost
  dsimp only
  (repeat' split) <;> simp only [↓State.writeCqe_without, ↓State.updFn_without, ↓State.dropCmd_without,
      ↓State.endReads_without, ↓State.raise_without, ↓State.inc_without, ↓State.dropAdms_without, ↓State.meet_without,
      ↓State.measure_without, ↓State.askXlat_without, Reg.hptAtcHitCnt, Reg.qenEvent, Reg.qenCqWaitCnt, Nat.reduceDiv,
      ↓without_ite, ↓without_foldl, ite_self, implies_true, List.cons_subset, List.nil_subset, and_true, and_self,
      true_and, h]

theorem State.msixUnmask_without {W : List Part} (s : State) (f : Nat) (vec : Option Nat) (h : [Part.fns, .hpt, .out,
    .regs 1, .regs 3] ⊆ W) :
    (s.msixUnmask f vec).without W = s.without W := by
  simp only [List.cons_subset, List.nil_subset, and_true] at h
  unfold State.msixUnmask
  (repeat' split) <;> simp only [↓State.updFn_without, ↓State.msixDrain_without, ↓without_ite, ↓without_foldl,
      ite_self, implies_true, List.cons_subset, List.nil_subset, and_true, and_self, true_and, h]

theorem State.endWork_without {W : List Part} (s : State) (f : Nat) (h : [Part.prx, .cmds, .rdp, .wrp, .hpt, .aens,
    .evc, .regs 1, .regs 7, .regs 8, .regs 15] ⊆ W) :
    (s.endWork f).without W = s.without W := by
  simp only [List.cons_subset, List.nil_subset, and_true] at h
  simp only [State.endWork, ↓State.abandonNp_without, ↓State.dropCmds_without, ↓without_aens, ↓without_ite,
      ↓without_foldl, ite_self, implies_true, List.cons_subset, List.nil_subset, and_true, and_self, true_and, h]

theorem State.showQueues_without {W : List Part} (s : State) (h : [Part.out, .regs 3] ⊆ W) :
    (s.showQueues).without W = s.without W := by
  simp only [List.cons_subset, List.nil_subset, and_true] at h
  simp only [State.showQueues, ↓State.setNum_without, ↓State.emit_without, Reg.qenStatus, Nat.reduceDiv, ↓without_ite,
      ↓without_foldl, ite_self, implies_true, List.cons_subset, List.nil_subset, and_true, and_self, true_and, h]

theorem State.failCmd_without {W : List Part} (s : State) (c : CmdId) (status : Nat) (h : [Part.prx, .cmds, .rdp, .wrp,
    .evc, .regs 7, .regs 8, .regs 15] ⊆ W) :
    (s.failCmd c status).without W = s.without W := by
  simp only [List.cons_subset, List.nil_subset, and_true] at h
  unfold State.failCmd
  (repeat' split) <;> simp only [↓State.updCmd_without, ↓State.finish_without, ↓State.endReads_without,
      ↓State.dropAdms_without, ↓State.discardFilling_without, ↓without_ite, ↓without_foldl, ite_self, implies_true,
      List.cons_subset, List.nil_subset, and_true, and_self, true_and, h]

theorem State.ctlReset_without {W : List Part} (s : State) (f : Nat) (h : [Part.prx, .tenants, .cmds, .rdp, .wrp, .fns,
    .hpt, .aens, .evc, .out, .regs 1, .regs 3, .regs 7, .regs 8, .regs 15] ⊆ W) :
    (s.ctlReset f).without W = s.without W := by
  simp only [List.cons_subset, List.nil_subset, and_true] at h
  simp only [State.ctlReset, ↓State.updFn_without, ↓State.showQueues_without, ↓State.endWork_without, ↓without_tenants,
      Reg.pwrStatus, Nat.reduceDiv, ↓without_ite, ↓without_foldl, ite_self, implies_true, List.cons_subset,
      List.nil_subset, and_true, and_self, true_and, h]

end Sys2Proof.Machine
end

