-- ==== Sys2Proof/Laws/KeepEvent.lean ====
section
/-! SUPPORT. Which parts of the state the operations of Machine/Event.lean may change: every other part stays. -/
set_option linter.unusedSimpArgs false
set_option linter.unusedVariables false
namespace Sys2Proof.Machine


theorem State.idleGroup_without {W : List Part} (s : State) (src : Nat) (h : [Part.regs 15] ⊆ W) :
    (s.idleGroup src).without W = s.without W := by
  simp only [List.cons_subset, List.nil_subset, and_true] at h
  unfold State.idleGroup
  (repeat' split) <;> simp only [↓State.setField_without, page_evcHoldoff, Nat.reduceDiv, ↓without_ite, ↓without_foldl,
      ite_self, implies_true, List.cons_subset, List.nil_subset, and_true, and_self, true_and, h]

theorem State.unpend_without {W : List Part} (s : State) (n : Nat) (h : [Part.regs 15] ⊆ W) :
    (s.unpend n).without W = s.without W := by
  simp only [List.cons_subset, List.nil_subset, and_true] at h
  simp only [State.unpend, ↓State.setBit_without, ↓State.idleGroup_without, page_evcSrcStatus, Nat.reduceDiv,
      ↓without_ite, ↓without_foldl, ite_self, implies_true, List.cons_subset, List.nil_subset, and_true, and_self,
      true_and, h]

theorem State.relevel_without {W : List Part} (s : State) (n : Nat) (h : [Part.evc, .regs 15] ⊆ W) :
    (s.relevel n).without W = s.without W := by
  simp only [List.cons_subset, List.nil_subset, and_true] at h
  simp only [State.relevel, ↓State.setBit_without, ↓State.unpend_without, ↓State.pend_without, page_evcSrcStatus,
      Nat.reduceDiv, ↓without_ite, ↓without_foldl, ite_self, implies_true, List.cons_subset, List.nil_subset, and_true,
      and_self, true_and, h]

theorem State.ringWrite_without {W : List Part} (s : State) (by_ : Requester) (n : Nat) (h : [Part.evc, .log, .regs 15,
    .regs 20] ⊆ W) :
    (s.ringWrite by_ n).without W = s.without W := by
  simp only [List.cons_subset, List.nil_subset, and_true] at h
  simp only [State.ringWrite, ↓State.ring_without, ↓State.countErr_without, Reg.evcRingDropCnt, Nat.reduceDiv,
      ↓without_ite, ↓without_foldl, ite_self, implies_true, List.cons_subset, List.nil_subset, and_true, and_self,
      true_and, h]

theorem State.unpendWrite_without {W : List Part} (s : State) (n : Nat) (h : [Part.regs 15] ⊆ W) :
    (s.unpendWrite n).without W = s.without W := by
  simp only [List.cons_subset, List.nil_subset, and_true] at h
  simp only [State.unpendWrite, ↓State.unpend_without, ↓without_ite, ↓without_foldl, ite_self, implies_true,
      List.cons_subset, List.nil_subset, and_true, and_self, true_and, h]

theorem State.claimRead_without {W : List Part} (s : State) (c : Nat) (h : [Part.evc, .regs 15] ⊆ W) :
    (s.claimRead c).2.without W = s.without W := by
  simp only [List.cons_subset, List.nil_subset, and_true] at h
  unfold State.claimRead
  (repeat' split) <;> simp only [↓State.setBit_without, ↓State.unpend_without, ↓without_evc, page_evcSrcStatus,
      Nat.reduceDiv, ↓without_ite, ↓without_foldl, ite_self, implies_true, List.cons_subset, List.nil_subset, and_true,
      and_self, true_and, h]

theorem State.claimSource_without {W : List Part} (s : State) (c : Nat) (h : [Part.evc, .out, .regs 15] ⊆ W) :
    (s.claimSource c).without W = s.without W := by
  simp only [List.cons_subset, List.nil_subset, and_true] at h
  unfold State.claimSource
  (repeat' split) <;> simp only [↓State.claimRead_without, ↓State.emit_without, ↓without_ite, ↓without_foldl, ite_self,
      implies_true, List.cons_subset, List.nil_subset, and_true, and_self, true_and, h]

theorem State.popTop_without {W : List Part} (s : State) (c : Nat) (h : [Part.evc, .regs 15] ⊆ W) :
    (s.popTop c).without W = s.without W := by
  simp only [List.cons_subset, List.nil_subset, and_true] at h
  unfold State.popTop
  (repeat' split) <;> simp only [↓State.setBit_without, ↓State.relevel_without, ↓without_evc, page_evcSrcStatus,
      Nat.reduceDiv, ↓without_ite, ↓without_foldl, ite_self, implies_true, List.cons_subset, List.nil_subset, and_true,
      and_self, true_and, h]

theorem State.complete_without {W : List Part} (s : State) (c n : Nat) (h : [Part.evc, .log, .out, .regs 15,
    .regs 20] ⊆ W) :
    (s.complete c n).without W = s.without W := by
  simp only [List.cons_subset, List.nil_subset, and_true] at h
  simp only [State.complete, ↓State.countErr_without, ↓State.popTop_without, ↓State.raiseFault_without, ↓without_evc,
      Reg.evcStackFaultCnt, Nat.reduceDiv, ↓without_ite, ↓without_foldl, ite_self, implies_true, List.cons_subset,
      List.nil_subset, and_true, and_self, true_and, h]

theorem State.stackReset_without {W : List Part} (s : State) (c : Nat) (h : [Part.evc, .regs 15] ⊆ W) :
    (s.stackReset c).without W = s.without W := by
  simp only [List.cons_subset, List.nil_subset, and_true] at h
  simp only [State.stackReset, ↓State.setBit_without, ↓State.popTop_without, ↓without_evc, page_evcCoreFault,
      Nat.reduceDiv, ↓without_ite, ↓without_foldl, ite_self, implies_true, List.cons_subset, List.nil_subset, and_true,
      and_self, true_and, h]

theorem State.ownCore_without {W : List Part} (s : State) (by_ : Requester) (core off : Nat) (read : Bool)
    (f : State → State) (h : [Part.evc, .log, .out, .regs 15, .regs 20] ⊆ W) (hf : ∀ t, (f t).without W = t.without W) :
    (s.ownCore by_ core off read f).without W = s.without W := by
  simp only [List.cons_subset, List.nil_subset, and_true] at h
  have acc : ∀ t : State, ∀ c, (t.accessFault c (coreRegBase + off)).without W = t.without W :=
    fun t c => State.accessFault_without _ _ _ (by simp only [List.cons_subset, List.nil_subset, and_true, h])
  have emi : ∀ t : State, ∀ o, (t.emit o).without W = t.without W :=
    fun t o => State.emit_without _ _ (by simp only [List.cons_subset, List.nil_subset, and_true, h])
  have inner : (s.whenLive fun u => match by_ with
      | .core c => if 6 ≤ c then u.accessFault c (coreRegBase + off) else u
      | .pf0 => u).without W = s.without W := by
    refine State.whenLive_without _ _ fun t => ?_
    split
    · split
      · exact acc _ _
      · rfl
    · rfl
  unfold State.ownCore
  split
  · exact State.whenLive_without _ _ hf
  · dsimp only
    split
    · rw [State.whenLive_without _ _ fun t => emi t _]; exact inner
    · exact inner

theorem State.levelChange_without {W : List Part} (s : State) (n : Nat) (high : Bool) (h : [Part.evc, .regs 15,
    .regs 20] ⊆ W) :
    (s.levelChange n high).without W = s.without W := by
  simp only [List.cons_subset, List.nil_subset, and_true] at h
  have e0 := fun (s : State) (n : Nat) => State.relevel_without (W := W) s n (by simp only [List.cons_subset, List.nil_subset, and_true, Reg.sppStatus, Nat.reduceDiv, h])
  have r1 := fun (x0 : State) (x1 : Evc) => without_evc (W := W) x0 x1 (by simp only [h])
  unfold State.levelChange
  repeat' (first
    | with_reducible rfl
    | with_reducible refine (State.setBit_without _ _ _ _ (by simp only [List.cons_subset, List.nil_subset, and_true, Reg.sppStatus, Nat.reduceDiv, h])).trans ?_
    | with_reducible refine (State.whenLive_without _ _ (fun t => ?_)).trans ?_
    | with_reducible refine (e0 _ _).trans ?_
    | with_reducible refine (State.when_without _ _ _ (fun t => ?_)).trans ?_
    | with_reducible refine without_if ?_ ?_
    | with_reducible refine (without_foldl (fun t a => ?_) _ _).trans ?_
    | simp only [r1, h])

theorem State.groupExpiry_without {W : List Part} (s : State) (g : Nat) (h : [Part.regs 15] ⊆ W) :
    (s.groupExpiry g).without W = s.without W := by
  simp only [List.cons_subset, List.nil_subset, and_true] at h
  simp only [State.groupExpiry, ↓State.setField_without, page_evcHoldoff, Nat.reduceDiv, ↓without_ite, ↓without_foldl,
      ite_self, implies_true, List.cons_subset, List.nil_subset, and_true, and_self, true_and, h]

theorem State.startWatchdog_without {W : List Part} (s : State) (c : Nat) (first : Bool) (h : [Part.evc] ⊆ W) :
    (s.startWatchdog c first).without W = s.without W := by
  simp only [List.cons_subset, List.nil_subset, and_true] at h
  simp only [State.startWatchdog, ↓without_evc, ↓without_ite, ↓without_foldl, ite_self, implies_true, List.cons_subset,
      List.nil_subset, and_true, and_self, true_and, h]

theorem State.watchdogWrite_without {W : List Part} (s : State) (c : Nat) (v : Word) (h : [Part.evc, .regs 15] ⊆ W) :
    (s.watchdogWrite c v).without W = s.without W := by
  simp only [List.cons_subset, List.nil_subset, and_true] at h
  simp only [State.watchdogWrite, ↓State.setReg_without, ↓State.startWatchdog_without, page_evcCoreWdog, Nat.reduceDiv,
      ↓without_ite, ↓without_foldl, ite_self, implies_true, List.cons_subset, List.nil_subset, and_true, and_self,
      true_and, h]

theorem State.watchdogFirst_without {W : List Part} (s : State) (c : Nat) (h : [Part.evc, .out, .regs 15] ⊆ W) :
    (s.watchdogFirst c).without W = s.without W := by
  simp only [List.cons_subset, List.nil_subset, and_true] at h
  simp only [State.watchdogFirst, ↓State.startWatchdog_without, ↓State.raiseFault_without, ↓without_ite,
      ↓without_foldl, ite_self, implies_true, List.cons_subset, List.nil_subset, and_true, and_self, true_and, h]

theorem State.watchdogSecond_without {W : List Part} (s : State) (c : Nat) (h : [Part.hpt, .evc, .log, .regs 15,
    .regs 20] ⊆ W) :
    (s.watchdogSecond c).without W = s.without W := by
  simp only [List.cons_subset, List.nil_subset, and_true] at h
  simp only [State.watchdogSecond, ↓State.countErr_without, ↓State.startWatchdog_without, ↓State.domainReset_without,
      ↓without_hpt, Reg.pwrDomainSeen, Reg.evcWdogCnt, Nat.reduceDiv, ↓without_ite, ↓without_foldl, ite_self,
      implies_true, List.cons_subset, List.nil_subset, and_true, and_self, true_and, h]

end Sys2Proof.Machine
end

