-- ==== Sys2Proof/Laws/KeepWatch.lean ====
section
/-! SUPPORT. Which parts of the state the operations of Machine/Watch.lean may change: every other part stays. -/
set_option linter.unusedSimpArgs false
set_option linter.unusedVariables false
namespace Sys2Proof.Machine


theorem State.driveWake_without {W : List Part} (s : State) (h : [Part.out, .regs 16] ⊆ W) :
    (s.driveWake).without W = s.without W := by
  simp only [List.cons_subset, List.nil_subset, and_true] at h
  simp only [State.driveWake, ↓State.setBit_without, ↓State.emit_without, Reg.aowStatus, Nat.reduceDiv, ↓without_ite,
      ↓without_foldl, ite_self, implies_true, List.cons_subset, List.nil_subset, and_true, and_self, true_and, h]

theorem State.wake_without {W : List Part} (s : State) (wakeBits pinBits : Word) (h : [Part.out, .regs 16] ⊆ W) :
    (s.wake wakeBits pinBits).without W = s.without W := by
  simp only [List.cons_subset, List.nil_subset, and_true] at h
  simp only [State.wake, ↓State.setReg_without, ↓State.driveWake_without, Reg.aowPinCause, Reg.aowWakeCause,
      Nat.reduceDiv, ↓without_ite, ↓without_foldl, ite_self, implies_true, List.cons_subset, List.nil_subset, and_true,
      and_self, true_and, h]

theorem State.alarm_without {W : List Part} (s : State) (h : [Part.out, .regs 16] ⊆ W) :
    (s.alarm).without W = s.without W := by
  simp only [List.cons_subset, List.nil_subset, and_true] at h
  simp only [State.alarm, ↓State.setBit_without, ↓State.driveWake_without, Reg.aowAlarm, Reg.aowWakeCause,
      Nat.reduceDiv, ↓without_ite, ↓without_foldl, ite_self, implies_true, List.cons_subset, List.nil_subset, and_true,
      and_self, true_and, h]

theorem State.watchPin_without {W : List Part} (s : State) (k : Nat) (h : [Part.evc, .regs 15, .regs 16] ⊆ W) :
    (s.watchPin k).without W = s.without W := by
  simp only [List.cons_subset, List.nil_subset, and_true] at h
  simp only [State.watchPin, ↓State.raise_without, Reg.aowPinPol, Reg.aowEvent, Reg.aowPinEn, Nat.reduceDiv,
      ↓without_ite, ↓without_foldl, ite_self, implies_true, List.cons_subset, List.nil_subset, and_true, and_self,
      true_and, h]

theorem State.wakeSource_without {W : List Part} (s : State) (k : Nat) (h : [Part.fns, .out] ⊆ W) :
    (s.wakeSource k).without W = s.without W := by
  simp only [List.cons_subset, List.nil_subset, and_true] at h
  simp only [State.wakeSource, ↓State.updFn_without, ↓State.emit_without, Reg.aowWakeEn, Nat.reduceDiv, ↓without_ite,
      ↓without_foldl, ite_self, implies_true, List.cons_subset, List.nil_subset, and_true, and_self, true_and, h]

theorem State.resetRange_without {W : List Part} (s : State) (lo hi : Nat)
    (h : ∀ k, lo ≤ k → k < hi → Part.regs (k / 0x100000) ∈ W) : (s.resetRange lo hi).without W = s.without W := by
  have e : ∀ l : List (Nat × Word),
      (l.filter fun e => !(decide (lo ≤ e.1) && decide (e.1 < hi))).filter (fun e => decide (Part.regs
          (e.1 / 0x100000) ∉ W)) =
        l.filter fun e => decide (Part.regs (e.1 / 0x100000) ∉ W) := by
    intro l
    rw [List.filter_filter]
    apply List.filter_congr
    intro x _
    by_cases hx : Part.regs (x.1 / 0x100000) ∈ W
    · simp [hx]
    · by_cases h1 : lo ≤ x.1
      · by_cases h2 : x.1 < hi
        · exact absurd (h _ h1 h2) hx
        · simp [hx, h2]
      · simp [hx, h1]
  simp only [State.resetRange, State.without, e]

theorem State.vddAo_without {W : List Part} (s : State) (h : [Part.aow, .pwr, .log] ⊆ W)
    (hr : ∀ p, 16 ≤ p → p < 17 → Part.regs p ∈ W) : (s.vddAo).without W = s.without W := by
  simp only [List.cons_subset, List.nil_subset, and_true] at h
  unfold State.vddAo
  split
  · rw [State.resetRange_without _ _ _ fun k h1 h2 => hr _ (by omega) (by omega)]
    exact without_aow_pwr _ _ _ (by simp only [h]) (by simp only [h]) (by simp only [h])
  · rfl

theorem State.latchWatch_without {W : List Part} (s : State) (h : [Part.aow, .regs 16] ⊆ W) :
    (s.latchWatch).without W = s.without W := by
  simp only [List.cons_subset, List.nil_subset, and_true] at h
  simp only [State.latchWatch, ↓State.setBit_without, ↓State.inc_without, ↓without_aow, Reg.aowStatus, Reg.aowPinPol,
      Reg.aowQuietCnt, Reg.aowWakeEn, Reg.aowPinEn, Nat.reduceDiv, ↓without_ite, ↓without_foldl, ite_self,
      implies_true, List.cons_subset, List.nil_subset, and_true, and_self, true_and, h]

theorem State.releaseWake_without {W : List Part} (s : State) (h : [Part.out, .regs 16] ⊆ W) :
    (s.releaseWake).without W = s.without W := by
  simp only [List.cons_subset, List.nil_subset, and_true] at h
  simp only [State.releaseWake, ↓State.setBit_without, ↓State.emit_without, Reg.aowStatus, Nat.reduceDiv, ↓without_ite,
      ↓without_foldl, ite_self, implies_true, List.cons_subset, List.nil_subset, and_true, and_self, true_and, h]

end Sys2Proof.Machine
end

