-- ==== Sys2Proof/Laws/KeepServiceDma.lean ====
section
/-! SUPPORT. Which parts of the state the operations of Machine/ServiceDma.lean may change: every other part stays. -/
set_option linter.unusedSimpArgs false
set_option linter.unusedVariables false
namespace Sys2Proof.Machine


theorem State.byOwner_without {W : List Part} (s : State) (by_ : Requester) (ch off : Nat) (f : State → State)
    (h : [Part.evc, .log, .out, .regs 15, .regs 20] ⊆ W) (hf : ∀ t, (f t).without W = t.without W) :
    (s.byOwner by_ ch off f).without W = s.without W := by
  simp only [List.cons_subset, List.nil_subset, and_true] at h
  unfold State.byOwner
  refine State.whenLive_without _ _ fun t => ?_
  split
  · exact hf t
  · split
    · split
      · exact State.accessFault_without _ _ _ (by simp only [List.cons_subset, List.nil_subset, and_true, h])
      · rfl
    · rfl

theorem State.updSdm_without {W : List Part} (s : State) (ch : Nat) (f : SdmCh → SdmCh) (h : [Part.sdm] ⊆ W) :
    (s.updSdm ch f).without W = s.without W := by
  simp only [List.cons_subset, List.nil_subset, and_true] at h
  simp only [State.updSdm, ↓without_sdm, ↓without_ite, ↓without_foldl, ite_self, implies_true, List.cons_subset,
      List.nil_subset, and_true, and_self, true_and, h]

theorem State.setSdmState_without {W : List Part} (s : State) (ch st : Nat) (h : [Part.regs 17] ⊆ W) :
    (s.setSdmState ch st).without W = s.without W := by
  simp only [List.cons_subset, List.nil_subset, and_true] at h
  simp only [State.setSdmState, ↓State.setField_without, page_sdmChStatus, Nat.reduceDiv, ↓without_ite, ↓without_foldl,
      ite_self, implies_true, List.cons_subset, List.nil_subset, and_true, and_self, true_and, h]

theorem State.showSdm_without {W : List Part} (s : State) (h : [Part.regs 17] ⊆ W) :
    (s.showSdm).without W = s.without W := by
  simp only [List.cons_subset, List.nil_subset, and_true] at h
  simp only [State.showSdm, ↓State.setNum_without, Reg.sdmStatus, Nat.reduceDiv, ↓without_ite, ↓without_foldl,
      ite_self, implies_true, List.cons_subset, List.nil_subset, and_true, and_self, true_and, h]

theorem State.sdmMove_without {W : List Part} (s : State) (ch : Nat) (h : [Part.fns, .hpt, .sdm, .lpb, .out, .regs 1,
    .regs 3, .regs 11, .regs 19] ⊆ W) :
    (s.sdmMove ch).without W = s.without W := by
  simp only [List.cons_subset, List.nil_subset, and_true] at h
  unfold State.sdmMove
  (repeat' split) <;> simp only [↓State.internal_without, ↓State.internalRead_without, ↓State.updSdm_without,
      page_sdmChCurDescLo, page_sdmChActiveCfg, Nat.reduceDiv, ↓without_ite, ↓without_foldl, ite_self, implies_true,
      List.cons_subset, List.nil_subset, and_true, and_self, true_and, h]

theorem State.sdmStall_without {W : List Part} (s : State) (h : [Part.sdm, .regs 17] ⊆ W) :
    (s.sdmStall).without W = s.without W := by
  simp only [List.cons_subset, List.nil_subset, and_true] at h
  simp only [State.sdmStall, ↓State.updSdm_without, ↓State.setSdmState_without, ↓without_ite, ↓without_foldl, ite_self,
      implies_true, List.cons_subset, List.nil_subset, and_true, and_self, true_and, h]

theorem State.sdmSchedule_without {W : List Part} (s : State) (h : [Part.fns, .hpt, .sdm, .lpb, .out, .regs 1, .regs 3,
    .regs 11, .regs 17, .regs 19] ⊆ W) :
    (s.sdmSchedule).without W = s.without W := by
  simp only [List.cons_subset, List.nil_subset, and_true] at h
  unfold State.sdmSchedule
  dsimp only
  (repeat' split) <;> simp only [↓State.sdmStall_without, ↓State.showSdm_without, ↓State.sdmMove_without,
      ↓State.setSdmState_without, ↓without_sdm, ↓without_ite, ↓without_foldl, ite_self, implies_true, List.cons_subset,
      List.nil_subset, and_true, and_self, true_and, h]

theorem State.endList_without {W : List Part} (s : State) (ch cause : Nat) (h : [Part.hpt, .evc, .sdm, .log, .draw,
    .regs 15, .regs 17, .regs 20] ⊆ W) :
    (s.endList ch cause).without W = s.without W := by
  simp only [List.cons_subset, List.nil_subset, and_true] at h
  simp only [State.endList, ↓State.ring_without, ↓State.dropIntern_without, ↓State.countErr_without,
      ↓State.setField_without, ↓State.setNum_without, ↓State.setBit_without, ↓State.updSdm_without,
      ↓State.setSdmState_without, ↓State.drawn_without, ↓without_sdm, page_sdmChFlags, page_sdmChStatus,
      page_sdmChErrCnt, page_sdmChRemain, Nat.reduceDiv, ↓without_ite, ↓without_foldl, ite_self, implies_true,
      List.cons_subset, List.nil_subset, and_true, and_self, true_and, h]

theorem State.takeDesc_without {W : List Part} (s : State) (ch : Nat) (addr : BitVec 64) (d : SdmDesc) (h : [Part.hpt,
    .evc, .sdm, .log, .draw, .regs 15, .regs 17, .regs 20] ⊆ W) :
    (s.takeDesc ch addr d).without W = s.without W := by
  simp only [List.cons_subset, List.nil_subset, and_true] at h
  simp only [State.takeDesc, ↓State.endList_without, ↓State.setReg_without, ↓State.setNum_without,
      ↓State.updSdm_without, page_sdmChCurDescHi, page_sdmChRemain, page_sdmChCurDescLo, page_sdmChActiveCfg,
      Nat.reduceDiv, ↓without_ite, ↓without_foldl, ite_self, implies_true, List.cons_subset, List.nil_subset, and_true,
      and_self, true_and, h]

theorem State.handover_without {W : List Part} (s : State) (ch : Nat) (first : SdmDesc) (h : [Part.hpt, .evc, .sdm,
    .log, .draw, .regs 15, .regs 17, .regs 20] ⊆ W) :
    (s.handover ch first).without W = s.without W := by
  simp only [List.cons_subset, List.nil_subset, and_true] at h
  simp only [State.handover, ↓State.endList_without, ↓State.setReg_without, ↓State.setBit_without,
      ↓State.takeDesc_without, ↓State.inc_without, ↓State.updSdm_without, ↓State.setSdmState_without,
      page_sdmChShadowCfg, page_sdmChShadowDescLo, page_sdmChShadowPace, page_sdmChShadowDescHi, page_sdmChActiveCfg,
      page_sdmChArm, page_sdmChHandoverCnt, page_sdmChActivePace, Nat.reduceDiv, ↓without_ite, ↓without_foldl,
      ite_self, implies_true, List.cons_subset, List.nil_subset, and_true, and_self, true_and, h]

theorem State.afterList_without {W : List Part} (s : State) (ch : Nat) (first : SdmDesc) (h : [Part.fns, .hpt, .evc,
    .sdm, .log, .lpb, .out, .draw, .regs 1, .regs 3, .regs 11, .regs 15, .regs 17, .regs 19, .regs 20] ⊆ W) :
    (s.afterList ch first).without W = s.without W := by
  simp only [List.cons_subset, List.nil_subset, and_true] at h
  simp only [State.afterList, ↓State.sdmSchedule_without, ↓State.handover_without, page_sdmChArm, Nat.reduceDiv,
      ↓without_ite, ↓without_foldl, ite_self, implies_true, List.cons_subset, List.nil_subset, and_true, and_self,
      true_and, h]

theorem State.sdmArm_without {W : List Part} (s : State) (ch : Nat) (first : SdmDesc) (h : [Part.fns, .hpt, .evc, .sdm,
    .log, .lpb, .out, .draw, .regs 1, .regs 3, .regs 11, .regs 15, .regs 17, .regs 19, .regs 20] ⊆ W) :
    (s.sdmArm ch first).without W = s.without W := by
  simp only [List.cons_subset, List.nil_subset, and_true] at h
  simp only [State.sdmArm, ↓State.afterList_without, ↓State.setBit_without, page_sdmChArm, Nat.reduceDiv, ↓without_ite,
      ↓without_foldl, ite_self, implies_true, List.cons_subset, List.nil_subset, and_true, and_self, true_and, h]

theorem State.sdmAbort_without {W : List Part} (s : State) (ch : Nat) (h : [Part.fns, .hpt, .evc, .sdm, .log, .lpb,
    .out, .draw, .regs 1, .regs 3, .regs 11, .regs 15, .regs 17, .regs 19, .regs 20] ⊆ W) :
    (s.sdmAbort ch).without W = s.without W := by
  simp only [List.cons_subset, List.nil_subset, and_true] at h
  simp only [State.sdmAbort, ↓State.sdmSchedule_without, ↓State.endList_without, ↓State.dropIntern_without,
      ↓State.setBit_without, ↓State.updSdm_without, page_sdmChArm, Nat.reduceDiv, ↓without_ite, ↓without_foldl,
      ite_self, implies_true, List.cons_subset, List.nil_subset, and_true, and_self, true_and, h]

theorem State.sdmClear_without {W : List Part} (s : State) (ch : Nat) (first : SdmDesc) (h : [Part.fns, .hpt, .evc,
    .sdm, .log, .lpb, .out, .draw, .regs 1, .regs 3, .regs 11, .regs 15, .regs 17, .regs 19, .regs 20] ⊆ W) :
    (s.sdmClear ch first).without W = s.without W := by
  simp only [List.cons_subset, List.nil_subset, and_true] at h
  simp only [State.sdmClear, ↓State.afterList_without, ↓State.setSdmState_without, ↓without_ite, ↓without_foldl,
      ite_self, implies_true, List.cons_subset, List.nil_subset, and_true, and_self, true_and, h]

theorem State.descDone_without {W : List Part} (s : State) (ch : Nat) (r : SdmResult) (next : SdmDesc) (h : [Part.fns,
    .hpt, .evc, .sdm, .log, .lpb, .out, .draw, .regs 1, .regs 3, .regs 11, .regs 15, .regs 17, .regs 19,
    .regs 20] ⊆ W) :
    (s.descDone ch r next).without W = s.without W := by
  simp only [List.cons_subset, List.nil_subset, and_true] at h
  unfold State.descDone
  dsimp only
  (repeat' split) <;> simp only [↓State.sdmSchedule_without, ↓State.endList_without, ↓State.afterList_without,
      ↓State.ring_without, ↓State.setField_without, ↓State.setNum_without, ↓State.setBit_without,
      ↓State.sdmMove_without, ↓State.takeDesc_without, ↓State.inc_without, ↓State.when_without, ↓State.updSdm_without,
      ↓State.setSdmState_without, ↓without_sdm, page_sdmChFlags, page_sdmChMismatch, page_sdmChStatus,
      page_sdmChDescCnt, Nat.reduceDiv, ↓without_ite, ↓without_foldl, ite_self, implies_true, List.cons_subset,
      List.nil_subset, and_true, and_self, true_and, h]

theorem State.paceResume_without {W : List Part} (s : State) (ch : Nat) (h : [Part.fns, .hpt, .sdm, .lpb, .out,
    .regs 1, .regs 3, .regs 11, .regs 17, .regs 19] ⊆ W) :
    (s.paceResume ch).without W = s.without W := by
  simp only [List.cons_subset, List.nil_subset, and_true] at h
  simp only [State.paceResume, ↓State.sdmSchedule_without, ↓State.updSdm_without, ↓State.setSdmState_without,
      ↓without_ite, ↓without_foldl, ite_self, implies_true, List.cons_subset, List.nil_subset, and_true, and_self,
      true_and, h]

theorem State.sdmHold_without {W : List Part} (s : State) (h : [Part.regs 17] ⊆ W) :
    (s.sdmHold).without W = s.without W := by
  simp only [List.cons_subset, List.nil_subset, and_true] at h
  unfold State.sdmHold
  (repeat' split) <;> simp only [↓State.setSdmState_without, ↓without_ite, ↓without_foldl, ite_self, implies_true,
      List.cons_subset, List.nil_subset, and_true, and_self, true_and, h]

theorem State.endHostLists_without {W : List Part} (s : State) (h : [Part.fns, .hpt, .evc, .sdm, .log, .lpb, .out,
    .draw, .regs 1, .regs 3, .regs 11, .regs 15, .regs 17, .regs 19, .regs 20] ⊆ W) :
    (s.endHostLists).without W = s.without W := by
  simp only [List.cons_subset, List.nil_subset, and_true] at h
  simp only [State.endHostLists, ↓State.sdmSchedule_without, ↓State.endList_without, ↓State.dropIntern_without,
      ↓State.updSdm_without, ↓without_ite, ↓without_foldl, ite_self, implies_true, List.cons_subset, List.nil_subset,
      and_true, and_self, true_and, h]

end Sys2Proof.Machine
end

