-- ==== Sys2Proof/Laws/KeepHostPort.lean ====
section
/-! SUPPORT. Which parts of the state the operations of Machine/HostPort.lean may change: every other part stays. -/
set_option linter.unusedSimpArgs false
set_option linter.unusedVariables false
namespace Sys2Proof.Machine


theorem State.setHostLink_without {W : List Part} (s : State) (speed width : Nat) (h : [Part.regs 1] ⊆ W) :
    (s.setHostLink speed width).without W = s.without W := by
  simp only [List.cons_subset, List.nil_subset, and_true] at h
  simp only [State.setHostLink, ↓State.setField_without, Reg.hptStatus, Nat.reduceDiv, ↓without_ite, ↓without_foldl,
      ite_self, implies_true, List.cons_subset, List.nil_subset, and_true, and_self, true_and, h]

theorem State.hostLinkUp_without {W : List Part} (s : State) (speed width : Nat) (flit rev : Bool) (h : [Part.evc,
    .regs 1, .regs 15] ⊆ W) :
    (s.hostLinkUp speed width flit rev).without W = s.without W := by
  simp only [List.cons_subset, List.nil_subset, and_true] at h
  simp only [State.hostLinkUp, ↓State.setBit_without, ↓State.setHostLink_without, ↓State.raise_without,
      Reg.hptContainStatus, Reg.hptStatus, Reg.hptEvent, Nat.reduceDiv, ↓without_ite, ↓without_foldl, ite_self,
      implies_true, List.cons_subset, List.nil_subset, and_true, and_self, true_and, h]

theorem State.hostRecovery_without {W : List Part} (s : State) (speed width : Nat) (h : [Part.evc, .regs 1,
    .regs 15] ⊆ W) :
    (s.hostRecovery speed width).without W = s.without W := by
  simp only [List.cons_subset, List.nil_subset, and_true] at h
  simp only [State.hostRecovery, ↓State.setHostLink_without, ↓State.raise_without, ↓State.inc_without, Reg.hptStatus,
      Reg.hptRecoveryCnt, Reg.hptEvent, Nat.reduceDiv, ↓without_ite, ↓without_foldl, ite_self, implies_true,
      List.cons_subset, List.nil_subset, and_true, and_self, true_and, h]

theorem State.hostBadFlit_without {W : List Part} (s : State) (h : [Part.fns, .evc, .log, .out, .regs 1, .regs 15,
    .regs 20] ⊆ W) :
    (s.hostBadFlit).without W = s.without W := by
  simp only [List.cons_subset, List.nil_subset, and_true] at h
  simp only [State.hostBadFlit, ↓State.countErr_without, ↓State.aerCor_without, Reg.hptBadTlpCnt, Reg.hptStatus,
      Nat.reduceDiv, ↓without_ite, ↓without_foldl, ite_self, implies_true, List.cons_subset, List.nil_subset, and_true,
      and_self, true_and, h]

theorem State.l1Enter_without {W : List Part} (s : State) (l1ss : Nat) (h : [Part.out, .regs 1] ⊆ W) :
    (s.l1Enter l1ss).without W = s.without W := by
  simp only [List.cons_subset, List.nil_subset, and_true] at h
  simp only [State.l1Enter, ↓State.setField_without, ↓State.setBit_without, ↓State.emit_without, Reg.hptPmCtl,
      Reg.hptStatus, Nat.reduceDiv, ↓without_ite, ↓without_foldl, ite_self, implies_true, List.cons_subset,
      List.nil_subset, and_true, and_self, true_and, h]

theorem State.l1Exit_without {W : List Part} (s : State) (h : [Part.out, .regs 1] ⊆ W) :
    (s.l1Exit).without W = s.without W := by
  simp only [List.cons_subset, List.nil_subset, and_true] at h
  simp only [State.l1Exit, ↓State.setField_without, ↓State.setBit_without, ↓State.emit_without, Reg.hptStatus,
      Nat.reduceDiv, ↓without_ite, ↓without_foldl, ite_self, implies_true, List.cons_subset, List.nil_subset, and_true,
      and_self, true_and, h]

theorem State.l0pHost_without {W : List Part} (s : State) (width : Nat) (h : [Part.hpt, .evc, .out, .regs 1,
    .regs 15] ⊆ W) :
    (s.l0pHost width).without W = s.without W := by
  simp only [List.cons_subset, List.nil_subset, and_true] at h
  simp only [State.l0pHost, ↓State.setField_without, ↓State.raise_without, ↓State.emit_without, ↓without_hpt,
      Reg.hptStatus, Reg.hptEvent, Nat.reduceDiv, ↓without_ite, ↓without_foldl, ite_self, implies_true,
      List.cons_subset, List.nil_subset, and_true, and_self, true_and, h]

theorem State.l0pReduce_without {W : List Part} (s : State) (h : [Part.out] ⊆ W) :
    (s.l0pReduce).without W = s.without W := by
  simp only [List.cons_subset, List.nil_subset, and_true] at h
  simp only [State.l0pReduce, ↓State.emit_without, Reg.hptPmCtl, Reg.hptStatus, Nat.reduceDiv, ↓without_ite,
      ↓without_foldl, ite_self, implies_true, List.cons_subset, List.nil_subset, and_true, and_self, true_and, h]

theorem State.l0pWiden_without {W : List Part} (s : State) (h : [Part.hpt, .out] ⊆ W) :
    (s.l0pWiden).without W = s.without W := by
  simp only [List.cons_subset, List.nil_subset, and_true] at h
  simp only [State.l0pWiden, ↓State.emit_without, ↓without_hpt, Reg.hptStatus, Nat.reduceDiv, ↓without_ite,
      ↓without_foldl, ite_self, implies_true, List.cons_subset, List.nil_subset, and_true, and_self, true_and, h]

theorem State.migFail_without {W : List Part} (s : State) (err : Nat) (h : [Part.hpt, .mig, .evc, .log, .regs 2,
    .regs 15, .regs 20] ⊆ W) :
    (s.migFail err).without W = s.without W := by
  simp only [List.cons_subset, List.nil_subset, and_true] at h
  simp only [State.migFail, ↓State.dropIntern_without, ↓State.countErr_without, ↓State.setField_without,
      ↓State.raise_without, ↓without_mig, Reg.fnmEvent, Reg.fnmMigFailCnt, Reg.fnmMigStatus, Nat.reduceDiv,
      ↓without_ite, ↓without_foldl, ite_self, implies_true, List.cons_subset, List.nil_subset, and_true, and_self,
      true_and, h]

theorem State.migHostLost_without {W : List Part} (s : State) (h : [Part.hpt, .mig, .evc, .log, .regs 2, .regs 15,
    .regs 20] ⊆ W) :
    (s.migHostLost).without W = s.without W := by
  simp only [List.cons_subset, List.nil_subset, and_true] at h
  simp only [State.migHostLost, ↓State.migFail_without, ↓without_ite, ↓without_foldl, ite_self, implies_true,
      List.cons_subset, List.nil_subset, and_true, and_self, true_and, h]

theorem State.internalFailed_without {W : List Part} (s : State) (k : Inner) (c : Option CmdId) (h : [Part.prx, .cmds,
    .rdp, .wrp, .hpt, .mig, .evc, .sdm, .log, .sec, .lpb, .draw, .regs 2, .regs 5, .regs 7, .regs 8, .regs 15,
    .regs 20] ⊆ W) :
    (s.internalFailed k c).without W = s.without W := by
  simp only [List.cons_subset, List.nil_subset, and_true] at h
  unfold State.internalFailed
  (repeat' split) <;> simp only [↓State.failCmd_without, ↓State.migHostLost_without, ↓State.updSdm_without,
      ↓State.imageLost_without, ↓without_lpb, ↓without_ite, ↓without_foldl, ite_self, implies_true, List.cons_subset,
      List.nil_subset, and_true, and_self, true_and, h]

theorem State.failInternals_without {W : List Part} (s : State) (h : [Part.prx, .cmds, .rdp, .wrp, .hpt, .mig, .evc,
    .sdm, .log, .sec, .lpb, .draw, .regs 2, .regs 5, .regs 7, .regs 8, .regs 15, .regs 20] ⊆ W) :
    (s.failInternals).without W = s.without W := by
  simp only [List.cons_subset, List.nil_subset, and_true] at h
  have e0 := fun (s : State) (k : Inner) (c : Option CmdId) => State.internalFailed_without (W := W) s k c (by simp only [List.cons_subset, List.nil_subset, and_true, Nat.reduceDiv, h])
  unfold State.failInternals
  repeat' (first
    | with_reducible rfl
    | with_reducible refine (e0 _ _ _).trans ?_
    | with_reducible refine without_if ?_ ?_
    | with_reducible refine (without_foldl (fun t a => ?_) _ _).trans ?_
    | (with_reducible refine without_of_snd (by assumption) ?_)
    | (with_reducible refine without_of_fst (by assumption) ?_)
    | split)

theorem State.containNow_without {W : List Part} (s : State) (cause : Nat) (h : [Part.prx, .cmds, .rdp, .wrp, .fns,
    .hpt, .mig, .evc, .sdm, .mlk, .log, .sec, .lpb, .out, .draw, .regs 1, .regs 2, .regs 3, .regs 5, .regs 7, .regs 8,
    .regs 11, .regs 13, .regs 15, .regs 17, .regs 19, .regs 20] ⊆ W) :
    (s.containNow cause).without W = s.without W := by
  simp only [List.cons_subset, List.nil_subset, and_true] at h
  simp only [State.containNow, ↓State.countErr_without, ↓State.setField_without, ↓State.abandonNp_without,
      ↓State.endHostLists_without, ↓State.failInternals_without, ↓State.dropCmds_without, ↓State.migHostLost_without,
      ↓State.raise_without, ↓State.send_without, ↓without_hpt_lpb, Reg.hptContainStatus, Reg.hptEvent,
      Reg.hptContainCnt, Nat.reduceDiv, ↓without_ite, ↓without_foldl, ite_self, implies_true, List.cons_subset,
      List.nil_subset, and_true, and_self, true_and, h]

theorem State.contain_without {W : List Part} (s : State) (cause : Nat) (h : [Part.prx, .cmds, .rdp, .wrp, .fns, .hpt,
    .mig, .evc, .sdm, .mlk, .log, .sec, .lpb, .out, .draw, .regs 1, .regs 2, .regs 3, .regs 5, .regs 7, .regs 8,
    .regs 11, .regs 13, .regs 15, .regs 17, .regs 19, .regs 20] ⊆ W) :
    (s.contain cause).without W = s.without W := by
  simp only [List.cons_subset, List.nil_subset, and_true] at h
  simp only [State.contain, ↓State.containNow_without, ↓without_ite, ↓without_foldl, ite_self, implies_true,
      List.cons_subset, List.nil_subset, and_true, and_self, true_and, h]

theorem State.hostDlDown_without {W : List Part} (s : State) (cause : DlDownCause) (h : [Part.prx, .cmds, .rdp, .wrp,
    .fns, .hpt, .mig, .evc, .sdm, .mlk, .log, .sec, .lpb, .out, .draw, .regs 1, .regs 2, .regs 3, .regs 5, .regs 7,
    .regs 8, .regs 11, .regs 13, .regs 15, .regs 17, .regs 19, .regs 20] ⊆ W) :
    (s.hostDlDown cause).without W = s.without W := by
  simp only [List.cons_subset, List.nil_subset, and_true] at h
  unfold State.hostDlDown
  (repeat' split) <;> simp only [↓State.countErr_without, ↓State.setField_without, ↓State.setBit_without,
      ↓State.setHostLink_without, ↓State.raise_without, ↓State.containNow_without, Reg.hptContainStatus, Reg.hptStatus,
      Reg.hptEvent, Reg.hptLinkDownCnt, Nat.reduceDiv, ↓without_ite, ↓without_foldl, ite_self, implies_true,
      List.cons_subset, List.nil_subset, and_true, and_self, true_and, h]

theorem State.containRelease_without {W : List Part} (s : State) (h : [Part.prx, .tenants, .cmds, .rdp, .wrp, .fns,
    .hpt, .aens, .evc, .out, .regs 1, .regs 3, .regs 7, .regs 8, .regs 15] ⊆ W) :
    (s.containRelease).without W = s.without W := by
  simp only [List.cons_subset, List.nil_subset, and_true] at h
  simp only [State.containRelease, ↓State.setField_without, ↓State.ctlReset_without, Reg.hptContainStatus,
      Nat.reduceDiv, ↓without_ite, ↓without_foldl, ite_self, implies_true, List.cons_subset, List.nil_subset, and_true,
      and_self, true_and, h]

theorem State.releaseDone_without {W : List Part} (s : State) (h : [Part.rdp, .fns, .hpt, .evc, .mlk, .lpb, .out,
    .regs 1, .regs 3, .regs 11, .regs 13, .regs 15, .regs 19] ⊆ W) :
    (s.releaseDone).without W = s.without W := by
  simp only [List.cons_subset, List.nil_subset, and_true] at h
  simp only [State.releaseDone, ↓State.setField_without, ↓State.raise_without, ↓State.flushIntern_without,
      ↓State.send_without, ↓without_fns_hpt, Reg.hptContainStatus, Reg.hptEvent, Nat.reduceDiv, ↓without_ite,
      ↓without_foldl, ite_self, implies_true, List.cons_subset, List.nil_subset, and_true, and_self, true_and, h]

theorem State.fallback_without {W : List Part} (s : State) (h : [Part.prx, .cmds, .rdp, .wrp, .fns, .hpt, .mig, .evc,
    .sdm, .mlk, .log, .sec, .lpb, .out, .draw, .regs 1, .regs 2, .regs 3, .regs 5, .regs 7, .regs 8, .regs 11,
    .regs 13, .regs 15, .regs 17, .regs 19, .regs 20] ⊆ W) :
    (s.fallback).without W = s.without W := by
  simp only [List.cons_subset, List.nil_subset, and_true] at h
  simp only [State.fallback, ↓State.setBit_without, ↓State.raise_without, ↓State.emit_without,
      ↓State.containNow_without, Reg.sppEvent, Reg.hptContainStatus, Reg.sppCtl, Reg.sppStatus, Nat.reduceDiv,
      ↓without_ite, ↓without_foldl, ite_self, implies_true, List.cons_subset, List.nil_subset, and_true, and_self,
      true_and, h]

theorem State.stopAttn_without {W : List Part} (s : State) (h : [Part.hpt, .regs 20] ⊆ W) :
    (s.stopAttn).without W = s.without W := by
  simp only [List.cons_subset, List.nil_subset, and_true] at h
  simp only [State.stopAttn, ↓State.setBit_without, ↓without_hpt, Reg.sppStatus, Nat.reduceDiv, ↓without_ite,
      ↓without_foldl, ite_self, implies_true, List.cons_subset, List.nil_subset, and_true, and_self, true_and, h]

theorem State.attnPress_without {W : List Part} (s : State) (h : [Part.prx, .cmds, .rdp, .wrp, .fns, .hpt, .mig, .evc,
    .sdm, .mlk, .log, .sec, .lpb, .out, .draw, .regs 1, .regs 2, .regs 3, .regs 5, .regs 7, .regs 8, .regs 11,
    .regs 13, .regs 15, .regs 17, .regs 19, .regs 20] ⊆ W) :
    (s.attnPress).without W = s.without W := by
  simp only [List.cons_subset, List.nil_subset, and_true] at h
  simp only [State.attnPress, ↓State.fallback_without, ↓State.setBit_without, ↓State.raise_without, ↓State.inc_without,
      ↓without_hpt, Reg.sppEvent, Reg.sppStatus, Reg.sppPressCnt, Reg.sppAttnTmo, Nat.reduceDiv, ↓without_ite,
      ↓without_foldl, ite_self, implies_true, List.cons_subset, List.nil_subset, and_true, and_self, true_and, h]

theorem State.attnExpiry_without {W : List Part} (s : State) (h : [Part.prx, .cmds, .rdp, .wrp, .fns, .hpt, .mig, .evc,
    .sdm, .mlk, .log, .sec, .lpb, .out, .draw, .regs 1, .regs 2, .regs 3, .regs 5, .regs 7, .regs 8, .regs 11,
    .regs 13, .regs 15, .regs 17, .regs 19, .regs 20] ⊆ W) :
    (s.attnExpiry).without W = s.without W := by
  simp only [List.cons_subset, List.nil_subset, and_true] at h
  simp only [State.attnExpiry, ↓State.fallback_without, ↓State.stopAttn_without, Reg.sppAttnTmo, Nat.reduceDiv,
      ↓without_ite, ↓without_foldl, ite_self, implies_true, List.cons_subset, List.nil_subset, and_true, and_self,
      true_and, h]

theorem State.readyToPull_without {W : List Part} (s : State) (h : [Part.evc, .out, .regs 15, .regs 20] ⊆ W) :
    (s.readyToPull).without W = s.without W := by
  simp only [List.cons_subset, List.nil_subset, and_true] at h
  simp only [State.readyToPull, ↓State.setBit_without, ↓State.raise_without, ↓State.emit_without, Reg.sppEvent,
      Reg.sppStatus, Nat.reduceDiv, ↓without_ite, ↓without_foldl, ite_self, implies_true, List.cons_subset,
      List.nil_subset, and_true, and_self, true_and, h]

theorem State.mediaOff_without {W : List Part} (s : State) (h : [Part.mch, .out, .regs 20] ⊆ W) :
    (s.mediaOff).without W = s.without W := by
  simp only [List.cons_subset, List.nil_subset, and_true] at h
  simp only [State.mediaOff, ↓State.setBit_without, ↓State.emit_without, ↓without_mch, Reg.sppStatus, Nat.reduceDiv,
      ↓without_ite, ↓without_foldl, ite_self, implies_true, List.cons_subset, List.nil_subset, and_true, and_self,
      true_and, h]

theorem State.fallbackDone_without {W : List Part} (s : State) (h : [Part.mch, .wrp, .mcr, .evc, .pwr, .log, .mtr,
    .out, .regs 8, .regs 15, .regs 20] ⊆ W) :
    (s.fallbackDone).without W = s.without W := by
  simp only [List.cons_subset, List.nil_subset, and_true] at h
  simp only [State.fallbackDone, ↓State.cleanMark_without, ↓State.mediaOff_without, ↓State.readyToPull_without,
      ↓State.emit_without, Reg.sppCtl, Reg.sppStatus, Nat.reduceDiv, ↓without_ite, ↓without_foldl, ite_self,
      implies_true, List.cons_subset, List.nil_subset, and_true, and_self, true_and, h]

theorem State.presence_without {W : List Part} (s : State) (seated : Bool) (h : [Part.prx, .cmds, .rdp, .wrp, .fns,
    .hpt, .mig, .evc, .sdm, .mlk, .log, .sec, .lpb, .out, .draw, .regs 1, .regs 2, .regs 3, .regs 5, .regs 7, .regs 8,
    .regs 11, .regs 13, .regs 15, .regs 17, .regs 19, .regs 20] ⊆ W) :
    (s.presence seated).without W = s.without W := by
  simp only [List.cons_subset, List.nil_subset, and_true] at h
  simp only [State.presence, ↓State.contain_without, ↓State.setBit_without, ↓State.raise_without, Reg.sppEvent,
      Reg.sppStatus, Nat.reduceDiv, ↓without_ite, ↓without_foldl, ite_self, implies_true, List.cons_subset,
      List.nil_subset, and_true, and_self, true_and, h]

theorem State.kickAll_without {W : List Part} (s : State) (f : Nat) (h : [Part.fns, .hpt, .out, .regs 1] ⊆ W) :
    (s.kickAll f).without W = s.without W := by
  simp only [List.cons_subset, List.nil_subset, and_true] at h
  simp only [State.kickAll, ↓State.visit_without, ↓without_ite, ↓without_foldl, ite_self, implies_true,
      List.cons_subset, List.nil_subset, and_true, and_self, true_and, h]

theorem State.npFailed_without {W : List Part} (s : State) (r : Np) (timeout : Bool) (h : [Part.prx, .cmds, .rdp, .wrp,
    .fns, .hpt, .mig, .evc, .sdm, .log, .sec, .lpb, .out, .draw, .regs 1, .regs 2, .regs 5, .regs 7, .regs 8, .regs 15,
    .regs 20] ⊆ W) :
    (s.npFailed r timeout).without W = s.without W := by
  simp only [List.cons_subset, List.nil_subset, and_true] at h
  unfold State.npFailed
  (repeat' split) <;> simp only [↓State.countErr_without, ↓State.failCmd_without, ↓State.kickAll_without,
      ↓State.updSq_without, ↓State.internalFailed_without, Reg.hptSqFetchTmoCnt, Nat.reduceDiv, ↓without_ite,
      ↓without_foldl, ite_self, implies_true, List.cons_subset, List.nil_subset, and_true, and_self, true_and, h]

theorem State.npArrived_without {W : List Part} (s : State) (r : Np) (h : [Part.cmds, .fns] ⊆ W) :
    (s.npArrived r).without W = s.without W := by
  simp only [List.cons_subset, List.nil_subset, and_true] at h
  unfold State.npArrived
  (repeat' split) <;> simp only [↓State.updCmd_without, ↓State.updSq_without, ↓State.readSettle_without, ↓without_ite,
      ↓without_foldl, ite_self, implies_true, List.cons_subset, List.nil_subset, and_true, and_self, true_and, h]

theorem State.completion_without {W : List Part} (s : State) (c : Cpl) (h : [Part.prx, .cmds, .rdp, .wrp, .fns, .hpt,
    .mig, .evc, .sdm, .log, .sec, .lpb, .out, .draw, .regs 1, .regs 2, .regs 3, .regs 5, .regs 7, .regs 8, .regs 11,
    .regs 15, .regs 19, .regs 20] ⊆ W) :
    (s.completion c).without W = s.without W := by
  simp only [List.cons_subset, List.nil_subset, and_true] at h
  unfold State.completion
  dsimp only
  (repeat' split) <;> simp only [↓State.countErr_without, ↓State.aerAdvisory_without, ↓State.kickAll_without,
      ↓State.npFailed_without, ↓State.raise_without, ↓State.inc_without, ↓State.linkBusy_without,
      ↓State.flushIntern_without, ↓State.showTags_without, ↓State.aerUnc_without, ↓State.npArrived_without,
      ↓without_hpt, Reg.hptEvent, Reg.hptPoisonCnt, Reg.hptLateCplCnt, Reg.hptMalformedCnt, Nat.reduceDiv,
      ↓without_ite, ↓without_foldl, ite_self, implies_true, List.cons_subset, List.nil_subset, and_true, and_self,
      true_and, h]

theorem State.cplTimeout_without {W : List Part} (s : State) (tag : Nat) (h : [Part.prx, .cmds, .rdp, .wrp, .fns, .hpt,
    .mig, .evc, .sdm, .log, .sec, .lpb, .out, .draw, .regs 1, .regs 2, .regs 5, .regs 7, .regs 8, .regs 15,
    .regs 20] ⊆ W) :
    (s.cplTimeout tag).without W = s.without W := by
  simp only [List.cons_subset, List.nil_subset, and_true] at h
  unfold State.cplTimeout
  (repeat' split) <;> simp only [↓State.countErr_without, ↓State.abandonNp_without, ↓State.npFailed_without,
      ↓State.raise_without, ↓State.aerUnc_without, Reg.hptCtoCnt, Reg.hptEvent, Nat.reduceDiv, ↓without_ite,
      ↓without_foldl, ite_self, implies_true, List.cons_subset, List.nil_subset, and_true, and_self, true_and, h]

theorem State.tagFree_without {W : List Part} (s : State) (tag : Nat) (h : [Part.hpt, .regs 1] ⊆ W) :
    (s.tagFree tag).without W = s.without W := by
  simp only [List.cons_subset, List.nil_subset, and_true] at h
  simp only [State.tagFree, ↓State.showTags_without, ↓without_hpt, ↓without_ite, ↓without_foldl, ite_self,
      implies_true, List.cons_subset, List.nil_subset, and_true, and_self, true_and, h]

theorem State.translation_without {W : List Part} (s : State) (f page : Nat) (denied : Bool) (h : [Part.prx, .cmds,
    .rdp, .wrp, .fns, .hpt, .evc, .log, .out, .regs 1, .regs 7, .regs 8, .regs 15, .regs 20] ⊆ W) :
    (s.translation f page denied).without W = s.without W := by
  simp only [List.cons_subset, List.nil_subset, and_true] at h
  unfold State.translation
  (repeat' split) <;> simp only [↓State.countErr_without, ↓State.failCmd_without, ↓State.kickAll_without,
      ↓State.raise_without, ↓State.linkBusy_without, ↓without_cmds_hpt, ↓without_hpt, Reg.hptEvent, Reg.hptAtsFailCnt,
      Nat.reduceDiv, ↓without_ite, ↓without_foldl, ite_self, implies_true, List.cons_subset, List.nil_subset, and_true,
      and_self, true_and, h]

theorem State.invalidate_without {W : List Part} (s : State) (f base len : Nat) (tags : List Nat) (h : [Part.hpt, .out,
    .regs 1] ⊆ W) :
    (s.invalidate f base len tags).without W = s.without W := by
  simp only [List.cons_subset, List.nil_subset, and_true] at h
  simp only [State.invalidate, ↓State.linkBusy_without, ↓without_hpt, ↓without_ite, ↓without_foldl, ite_self,
      implies_true, List.cons_subset, List.nil_subset, and_true, and_self, true_and, h]

theorem State.invalAbandon_without {W : List Part} (s : State) (f k : Nat) (h : [Part.prx, .cmds, .rdp, .wrp, .fns,
    .hpt, .mig, .evc, .sdm, .log, .sec, .lpb, .out, .draw, .regs 1, .regs 2, .regs 5, .regs 7, .regs 8, .regs 15,
    .regs 20] ⊆ W) :
    (s.invalAbandon f k).without W = s.without W := by
  simp only [List.cons_subset, List.nil_subset, and_true] at h
  unfold State.invalAbandon
  (repeat' split) <;> simp only [↓State.abandonNp_without, ↓State.npFailed_without, ↓without_ite, ↓without_foldl,
      ite_self, implies_true, List.cons_subset, List.nil_subset, and_true, and_self, true_and, h]

theorem State.invalDone_without {W : List Part} (s : State) (f : Nat) (h : [Part.hpt, .out, .regs 1] ⊆ W) :
    (s.invalDone f).without W = s.without W := by
  simp only [List.cons_subset, List.nil_subset, and_true] at h
  unfold State.invalDone
  (repeat' split) <;> simp only [↓State.toHost_without, ↓State.inc_without, ↓without_hpt, Reg.hptAtsInvCnt,
      Nat.reduceDiv, ↓without_ite, ↓without_foldl, ite_self, implies_true, List.cons_subset, List.nil_subset, and_true,
      and_self, true_and, h]

theorem State.atcFlush_without {W : List Part} (s : State) (f : Nat) (h : [Part.hpt] ⊆ W) :
    (s.atcFlush f).without W = s.without W := by
  simp only [List.cons_subset, List.nil_subset, and_true] at h
  simp only [State.atcFlush, ↓without_hpt, ↓without_ite, ↓without_foldl, ite_self, implies_true, List.cons_subset,
      List.nil_subset, and_true, and_self, true_and, h]

theorem State.doeIrq_without {W : List Part} (s : State) (h : [Part.fns, .hpt, .out, .regs 1, .regs 3] ⊆ W) :
    (s.doeIrq).without W = s.without W := by
  simp only [List.cons_subset, List.nil_subset, and_true] at h
  simp only [State.doeIrq, ↓State.updFn_without, ↓State.msix_without, ↓without_ite, ↓without_foldl, ite_self,
      implies_true, List.cons_subset, List.nil_subset, and_true, and_self, true_and, h]

theorem State.doeReady_without {W : List Part} (s : State) (h : [Part.fns, .hpt, .out, .regs 1, .regs 3] ⊆ W) :
    (s.doeReady).without W = s.without W := by
  simp only [List.cons_subset, List.nil_subset, and_true] at h
  unfold State.doeReady
  (repeat' split) <;> simp only [↓State.doeIrq_without, ↓State.emit_without, ↓without_hpt, ↓without_ite,
      ↓without_foldl, ite_self, implies_true, List.cons_subset, List.nil_subset, and_true, and_self, true_and, h]

theorem State.doeRequest_without {W : List Part} (s : State) (vendor type len : Nat) (sess : Option Nat)
    (h : [Part.fns, .hpt, .evc, .out, .regs 1, .regs 3, .regs 15] ⊆ W) :
    (s.doeRequest vendor type len sess).without W = s.without W := by
  simp only [List.cons_subset, List.nil_subset, and_true] at h
  simp only [State.doeRequest, ↓State.ring_without, ↓State.doeReady_without, ↓State.emit_without, ↓without_hpt,
      ↓without_ite, ↓without_foldl, ite_self, implies_true, List.cons_subset, List.nil_subset, and_true, and_self,
      true_and, h]

theorem State.doeAbort_without {W : List Part} (s : State) (h : [Part.hpt] ⊆ W) :
    (s.doeAbort).without W = s.without W := by
  simp only [List.cons_subset, List.nil_subset, and_true] at h
  simp only [State.doeAbort, ↓without_hpt, ↓without_ite, ↓without_foldl, ite_self, implies_true, List.cons_subset,
      List.nil_subset, and_true, and_self, true_and, h]

end Sys2Proof.Machine
end

