-- ==== Sys2Proof/Laws/KeepQueues.lean ====
section
/-! SUPPORT. Which parts of the state the operations of Machine/Queues.lean may change: every other part stays. -/
set_option linter.unusedSimpArgs false
set_option linter.unusedVariables false
namespace Sys2Proof.Machine


theorem State.takeEntry_without {W : List Part} (s : State) (f q : Nat) (x : Sq) (h : [Part.fns, .hpt, .out, .regs 1,
    .regs 3] ⊆ W) :
    (s.takeEntry f q x).2.without W = s.without W := by
  simp only [List.cons_subset, List.nil_subset, and_true] at h
  simp only [State.takeEntry, ↓State.kickAll_without, ↓State.inc_without, ↓State.updSq_without, Reg.qenCmdFetchCnt,
      Nat.reduceDiv, ↓without_ite, ↓without_foldl, ite_self, implies_true, List.cons_subset, List.nil_subset, and_true,
      and_self, true_and, h]

theorem State.fetchCmd_without {W : List Part} (s : State) (q : Sqe) (admin : Bool) (f : Cmd → State → State)
    (h : [Part.cmds, .fns, .hpt, .out, .regs 1, .regs 3] ⊆ W) (hf : ∀ c t, (f c t).without W = t.without W) :
    (s.fetchCmd q admin f).without W = s.without W := by
  simp only [List.cons_subset, List.nil_subset, and_true] at h
  have e0 := fun (s : State) (c : CmdId) (q : Nat) (k : Cq) (status : Nat) (dnr : Bool) (dw0 : Word) => State.writeCqe_without (W := W) s c q k status dnr dw0 (by simp only [List.cons_subset, List.nil_subset, and_true, Nat.reduceDiv, h])
  have e1 := fun (s : State) (f q : Nat) (x : Sq) => State.takeEntry_without (W := W) s f q x (by simp only [List.cons_subset, List.nil_subset, and_true, Nat.reduceDiv, h])
  have e2 := fun (s : State) (c : CmdId) (status : Nat) (dw0 : Word) (dnr : Bool) => State.finish_without (W := W) s c status dw0 dnr (by simp only [List.cons_subset, List.nil_subset, and_true, Nat.reduceDiv, h])
  have r3 := fun (x0 : State) (x1 : List Cmd) => without_cmds (W := W) x0 x1 (by simp only [h])
  unfold State.fetchCmd
  dsimp only
  repeat' (first
    | with_reducible rfl
    | with_reducible refine (hf _ _).trans ?_
    | with_reducible refine (e0 _ _ _ _ _ _ _).trans ?_
    | with_reducible refine (e1 _ _ _ _).trans ?_
    | with_reducible refine (e2 _ _ _ _ _).trans ?_
    | with_reducible refine without_if ?_ ?_
    | with_reducible refine (without_foldl (fun t a => ?_) _ _).trans ?_
    | simp only [r3, h]
    | (with_reducible refine without_of_snd (by assumption) ?_)
    | (with_reducible refine without_of_fst (by assumption) ?_)
    | split)

theorem State.unsupported_without {W : List Part} (s : State) (f : Nat) (posted : Bool) (h : [Part.fns, .evc, .log,
    .out, .regs 1, .regs 15, .regs 20] ⊆ W) :
    (s.unsupported f posted).without W = s.without W := by
  simp only [List.cons_subset, List.nil_subset, and_true] at h
  simp only [State.unsupported, ↓State.countErr_without, ↓State.aerAdvisory_without, ↓State.aerUnc_without,
      ↓State.emit_without, Reg.hptUrCnt, Nat.reduceDiv, ↓without_ite, ↓without_foldl, ite_self, implies_true,
      List.cons_subset, List.nil_subset, and_true, and_self, true_and, h]

theorem State.bar0Write_without {W : List Part} (s : State) (f : Nat) (g : State → State) (h : [Part.fns, .evc, .log,
    .out, .regs 1, .regs 15, .regs 20] ⊆ W) (hf : ∀ t, (g t).without W = t.without W) :
    (s.bar0Write f g).without W = s.without W := by
  simp only [List.cons_subset, List.nil_subset, and_true] at h
  unfold State.bar0Write
  split
  · exact hf s
  · exact State.unsupported_without _ _ _ (by simp only [List.cons_subset, List.nil_subset, and_true, h])

theorem State.badDoorbell_without {W : List Part} (s : State) (f info : Nat) (h : [Part.cmds, .fns, .aens, .evc, .log,
    .regs 3, .regs 15, .regs 20] ⊆ W) :
    (s.badDoorbell f info).without W = s.without W := by
  simp only [List.cons_subset, List.nil_subset, and_true] at h
  simp only [State.badDoorbell, ↓State.asyncEvent_without, ↓State.updFn_without, ↓State.countErr_without,
      ↓State.raise_without, Reg.qenDbInvalidCnt, Reg.qenEvent, Nat.reduceDiv, ↓without_ite, ↓without_foldl, ite_self,
      implies_true, List.cons_subset, List.nil_subset, and_true, and_self, true_and, h]

theorem State.sqDoorbell_without {W : List Part} (s : State) (f q v : Nat) (h : [Part.cmds, .fns, .hpt, .aens, .evc,
    .log, .out, .regs 1, .regs 3, .regs 15, .regs 20] ⊆ W) :
    (s.sqDoorbell f q v).without W = s.without W := by
  simp only [List.cons_subset, List.nil_subset, and_true] at h
  unfold State.sqDoorbell
  (repeat' split) <;> simp only [↓State.ring_without, ↓State.kickAll_without, ↓State.badDoorbell_without,
      ↓State.l0pWiden_without, ↓State.updSq_without, ↓without_ite, ↓without_foldl, ite_self, implies_true,
      List.cons_subset, List.nil_subset, and_true, and_self, true_and, h]

theorem State.cqDoorbell_without {W : List Part} (s : State) (f q v : Nat) (h : [Part.cmds, .fns, .hpt, .aens, .evc,
    .log, .out, .regs 3, .regs 15, .regs 20] ⊆ W) :
    (s.cqDoorbell f q v).without W = s.without W := by
  simp only [List.cons_subset, List.nil_subset, and_true] at h
  unfold State.cqDoorbell
  (repeat' split) <;> simp only [↓State.badDoorbell_without, ↓State.l0pWiden_without, ↓State.updCq_without,
      ↓without_ite, ↓without_foldl, ite_self, implies_true, List.cons_subset, List.nil_subset, and_true, and_self,
      true_and, h]

theorem State.createCq_without {W : List Part} (s : State) (q : Sqe) (h : [Part.cmds, .fns, .hpt, .out, .regs 1,
    .regs 3] ⊆ W) :
    (s.createCq q).without W = s.without W := by
  simp only [List.cons_subset, List.nil_subset, and_true] at h
  simp only [State.createCq, ↓State.updFn_without, ↓State.fetchCmd_without, ↓State.finish_without, ↓without_ite,
      ↓without_foldl, ite_self, implies_true, List.cons_subset, List.nil_subset, and_true, and_self, true_and, h]

theorem State.createSq_without {W : List Part} (s : State) (q : Sqe) (h : [Part.cmds, .fns, .hpt, .out, .regs 1,
    .regs 3] ⊆ W) :
    (s.createSq q).without W = s.without W := by
  simp only [List.cons_subset, List.nil_subset, and_true] at h
  simp only [State.createSq, ↓State.updFn_without, ↓State.showQueues_without, ↓State.fetchCmd_without,
      ↓State.finish_without, ↓without_ite, ↓without_foldl, ite_self, implies_true, List.cons_subset, List.nil_subset,
      and_true, and_self, true_and, h]

theorem State.sqGone_without {W : List Part} (s : State) (f q : Nat) (c : CmdId) (h : [Part.cmds, .fns, .out,
    .regs 3] ⊆ W) :
    (s.sqGone f q c).without W = s.without W := by
  simp only [List.cons_subset, List.nil_subset, and_true] at h
  simp only [State.sqGone, ↓State.updFn_without, ↓State.showQueues_without, ↓State.finish_without, ↓without_ite,
      ↓without_foldl, ite_self, implies_true, List.cons_subset, List.nil_subset, and_true, and_self, true_and, h]

theorem State.deleteSq_without {W : List Part} (s : State) (q : Sqe) (h : [Part.prx, .cmds, .rdp, .wrp, .fns, .hpt,
    .evc, .out, .regs 1, .regs 3, .regs 7, .regs 8, .regs 15] ⊆ W) :
    (s.deleteSq q).without W = s.without W := by
  simp only [List.cons_subset, List.nil_subset, and_true] at h
  unfold State.deleteSq
  refine State.fetchCmd_without _ _ _ _ (by simp only [List.cons_subset, List.nil_subset, and_true, h]) fun c t => ?_
  dsimp only
  have idle : ∀ l : List Cmd, (l.foldl (fun u x => u.failCmd x.id (nvmeStatus 0 0x08)) t).without W = t.without W :=
    fun l => without_foldl (fun u x => State.failCmd_without _ _ _ (by simp only [List.cons_subset, List.nil_subset, and_true, h])) _ _
  split
  · exact State.finish_without _ _ _ _ _ (by simp only [List.cons_subset, List.nil_subset, and_true, h])
  · split
    · rw [State.sqGone_without _ _ _ _ (by simp only [List.cons_subset, List.nil_subset, and_true, h]), idle]
    · rw [State.updSq_without _ _ _ _ (by simp only [List.cons_subset, List.nil_subset, and_true, h]), idle]

theorem State.sqDrained_without {W : List Part} (s : State) (f q : Nat) (h : [Part.cmds, .fns, .out, .regs 3] ⊆ W) :
    (s.sqDrained f q).without W = s.without W := by
  simp only [List.cons_subset, List.nil_subset, and_true] at h
  unfold State.sqDrained
  (repeat' split) <;> simp only [↓State.sqGone_without, ↓without_ite, ↓without_foldl, ite_self, implies_true,
      List.cons_subset, List.nil_subset, and_true, and_self, true_and, h]

theorem State.deleteCq_without {W : List Part} (s : State) (q : Sqe) (h : [Part.cmds, .fns, .hpt, .out, .regs 1,
    .regs 3] ⊆ W) :
    (s.deleteCq q).without W = s.without W := by
  simp only [List.cons_subset, List.nil_subset, and_true] at h
  simp only [State.deleteCq, ↓State.updFn_without, ↓State.fetchCmd_without, ↓State.finish_without, ↓without_ite,
      ↓without_foldl, ite_self, implies_true, List.cons_subset, List.nil_subset, and_true, and_self, true_and, h]

theorem State.ccEnable_without {W : List Part} (s : State) (f : Nat) (h : [Part.fns] ⊆ W) :
    (s.ccEnable f).without W = s.without W := by
  simp only [List.cons_subset, List.nil_subset, and_true] at h
  simp only [State.ccEnable, ↓State.updFn_without, ↓without_ite, ↓without_foldl, ite_self, implies_true,
      List.cons_subset, List.nil_subset, and_true, and_self, true_and, h]

theorem State.ctlReady_without {W : List Part} (s : State) (f : Nat) (h : [Part.fns, .hpt, .out, .regs 1] ⊆ W) :
    (s.ctlReady f).without W = s.without W := by
  simp only [List.cons_subset, List.nil_subset, and_true] at h
  simp only [State.ctlReady, ↓State.updFn_without, ↓State.kickAll_without, Reg.pwrStatus, Nat.reduceDiv, ↓without_ite,
      ↓without_foldl, ite_self, implies_true, List.cons_subset, List.nil_subset, and_true, and_self, true_and, h]

theorem State.ccDisable_without {W : List Part} (s : State) (f : Nat) (h : [Part.prx, .tenants, .cmds, .rdp, .wrp,
    .fns, .hpt, .aens, .evc, .out, .regs 1, .regs 3, .regs 7, .regs 8, .regs 15] ⊆ W) :
    (s.ccDisable f).without W = s.without W := by
  simp only [List.cons_subset, List.nil_subset, and_true] at h
  simp only [State.ccDisable, ↓State.ctlReset_without, ↓without_ite, ↓without_foldl, ite_self, implies_true,
      List.cons_subset, List.nil_subset, and_true, and_self, true_and, h]

theorem State.ctlResetDone_without {W : List Part} (s : State) (f : Nat) (h : [Part.fns] ⊆ W) :
    (s.ctlResetDone f).without W = s.without W := by
  simp only [List.cons_subset, List.nil_subset, and_true] at h
  simp only [State.ctlResetDone, ↓State.updFn_without, ↓without_ite, ↓without_foldl, ite_self, implies_true,
      List.cons_subset, List.nil_subset, and_true, and_self, true_and, h]

theorem State.holdDma_without {W : List Part} (s : State) (f : Nat) (h : [Part.cmds, .evc, .regs 2, .regs 15,
    .regs 17] ⊆ W) :
    (s.holdDma f).without W = s.without W := by
  simp only [List.cons_subset, List.nil_subset, and_true] at h
  simp only [State.holdDma, ↓State.sdmHold_without, ↓State.raise_without, ↓State.inc_without, ↓without_cmds,
      Reg.fnmEvent, Reg.fnmBmeHoldCnt, Nat.reduceDiv, ↓without_ite, ↓without_foldl, ite_self, implies_true,
      List.cons_subset, List.nil_subset, and_true, and_self, true_and, h]

theorem State.freeDma_without {W : List Part} (s : State) (f : Nat) (h : [Part.fns, .hpt, .lpb, .out, .regs 1, .regs 3,
    .regs 11, .regs 17, .regs 19] ⊆ W) :
    (s.freeDma f).without W = s.without W := by
  simp only [List.cons_subset, List.nil_subset, and_true] at h
  simp only [State.freeDma, ↓State.sdmHold_without, ↓State.kickAll_without, ↓State.msixDrain_without,
      ↓State.flushIntern_without, ↓without_ite, ↓without_foldl, ite_self, implies_true, List.cons_subset,
      List.nil_subset, and_true, and_self, true_and, h]

theorem State.bmeOff_without {W : List Part} (s : State) (f : Nat) (h : [Part.cmds, .fns, .evc, .regs 2, .regs 15,
    .regs 17] ⊆ W) :
    (s.bmeOff f).without W = s.without W := by
  simp only [List.cons_subset, List.nil_subset, and_true] at h
  simp only [State.bmeOff, ↓State.holdDma_without, ↓State.updFn_without, ↓without_ite, ↓without_foldl, ite_self,
      implies_true, List.cons_subset, List.nil_subset, and_true, and_self, true_and, h]

theorem State.bmeOn_without {W : List Part} (s : State) (f : Nat) (h : [Part.fns, .hpt, .lpb, .out, .regs 1, .regs 3,
    .regs 11, .regs 17, .regs 19] ⊆ W) :
    (s.bmeOn f).without W = s.without W := by
  simp only [List.cons_subset, List.nil_subset, and_true] at h
  simp only [State.bmeOn, ↓State.updFn_without, ↓State.freeDma_without, ↓without_ite, ↓without_foldl, ite_self,
      implies_true, List.cons_subset, List.nil_subset, and_true, and_self, true_and, h]

theorem State.powerState_without {W : List Part} (s : State) (f st : Nat) (h : [Part.cmds, .fns, .hpt, .evc, .lpb,
    .out, .regs 1, .regs 2, .regs 3, .regs 11, .regs 15, .regs 17, .regs 19] ⊆ W) :
    (s.powerState f st).without W = s.without W := by
  simp only [List.cons_subset, List.nil_subset, and_true] at h
  simp only [State.powerState, ↓State.holdDma_without, ↓State.updFn_without, ↓State.freeDma_without, ↓without_ite,
      ↓without_foldl, ite_self, implies_true, List.cons_subset, List.nil_subset, and_true, and_self, true_and, h]

end Sys2Proof.Machine
end

