-- ==== Sys2Proof/Laws/KeepMetering.lean ====
section
/-! SUPPORT. Which parts of the state the operations of Machine/Metering.lean may change: every other part stays. -/
set_option linter.unusedSimpArgs false
set_option linter.unusedVariables false
namespace Sys2Proof.Machine


theorem State.ringEdge_without {W : List Part} (s : State) (h : [Part.hpt, .mtr, .regs 11] ⊆ W) :
    (s.ringEdge).without W = s.without W := by
  simp only [List.cons_subset, List.nil_subset, and_true] at h
  simp only [State.ringEdge, ↓State.dropIntern_without, ↓State.setNum_without, ↓without_mtr, Reg.mtrRingCons,
      Reg.mtrRingProd, Nat.reduceDiv, ↓without_ite, ↓without_foldl, ite_self, implies_true, List.cons_subset,
      List.nil_subset, and_true, and_self, true_and, h]

theorem State.toRing_without {W : List Part} (s : State) (k : Inner) (b : List Byte) (at_ : Nat) (h : [Part.fns, .hpt,
    .lpb, .out, .regs 1, .regs 3, .regs 11, .regs 19] ⊆ W) :
    (s.toRing k b at_).without W = s.without W := by
  simp only [List.cons_subset, List.nil_subset, and_true] at h
  simp only [State.toRing, ↓State.internal_without, ↓without_ite, ↓without_foldl, ite_self, implies_true,
      List.cons_subset, List.nil_subset, and_true, and_self, true_and, h]

theorem State.openMinute_without {W : List Part} (s : State) (m : Nat) (h : [Part.mtr] ⊆ W) :
    (s.openMinute m).without W = s.without W := by
  simp only [List.cons_subset, List.nil_subset, and_true] at h
  simp only [State.openMinute, ↓without_mtr, ↓without_ite, ↓without_foldl, ite_self, implies_true, List.cons_subset,
      List.nil_subset, and_true, and_self, true_and, h]

theorem State.closeMinute_without {W : List Part} (s : State) (part : Bool) (h : [Part.fns, .hpt, .evc, .log, .mtr,
    .lpb, .out, .regs 1, .regs 3, .regs 11, .regs 15, .regs 19, .regs 20] ⊆ W) :
    (s.closeMinute part).without W = s.without W := by
  simp only [List.cons_subset, List.nil_subset, and_true] at h
  unfold State.closeMinute
  (repeat' split) <;> simp only [↓State.countErr_without, ↓State.setBit_without, ↓State.toRing_without,
      ↓State.raise_without, ↓State.showRing_without, ↓without_mtr, Reg.mtrCtl, Reg.mtrRingProd, Reg.mtrEvent,
      Reg.mtrStatus, Reg.mtrRingDropCnt, Nat.reduceDiv, ↓without_ite, ↓without_foldl, ite_self, implies_true,
      List.cons_subset, List.nil_subset, and_true, and_self, true_and, h]

theorem State.minuteEdge_without {W : List Part} (s : State) (m : Nat) (h : [Part.fns, .hpt, .evc, .log, .mtr, .lpb,
    .out, .regs 1, .regs 3, .regs 11, .regs 15, .regs 19, .regs 20] ⊆ W) :
    (s.minuteEdge m).without W = s.without W := by
  simp only [List.cons_subset, List.nil_subset, and_true] at h
  simp only [State.minuteEdge, ↓State.openMinute_without, ↓State.ringEdge_without, ↓State.closeMinute_without,
      Reg.secStatus, Nat.reduceDiv, ↓without_ite, ↓without_foldl, ite_self, implies_true, List.cons_subset,
      List.nil_subset, and_true, and_self, true_and, h]

theorem State.showMtrKey_without {W : List Part} (s : State) (h : [Part.regs 11] ⊆ W) :
    (s.showMtrKey).without W = s.without W := by
  simp only [List.cons_subset, List.nil_subset, and_true] at h
  simp only [State.showMtrKey, ↓State.setBit_without, Reg.mtrStatus, Nat.reduceDiv, ↓without_ite, ↓without_foldl,
      ite_self, implies_true, List.cons_subset, List.nil_subset, and_true, and_self, true_and, h]

theorem State.signMinute_without {W : List Part} (s : State) (h : [Part.fns, .hpt, .evc, .mtr, .lpb, .out, .regs 1,
    .regs 3, .regs 11, .regs 15, .regs 19] ⊆ W) :
    (s.signMinute).without W = s.without W := by
  simp only [List.cons_subset, List.nil_subset, and_true] at h
  unfold State.signMinute
  (repeat' split) <;> simp only [↓State.setNum_without, ↓State.setBit_without, ↓State.toRing_without,
      ↓State.raise_without, ↓State.inc_without, ↓State.showRing_without, ↓without_mtr, Reg.mtrSignCnt,
      Reg.mtrLastMinuteLo, Reg.mtrRingProd, Reg.mtrEvent, Reg.mtrStatus, Nat.reduceDiv, ↓without_ite, ↓without_foldl,
      ite_self, implies_true, List.cons_subset, List.nil_subset, and_true, and_self, true_and, h]

theorem State.archCons_without {W : List Part} (s : State) (v : Word) (h : [Part.mtr, .regs 11] ⊆ W) :
    (s.archCons v).without W = s.without W := by
  simp only [List.cons_subset, List.nil_subset, and_true] at h
  unfold State.archCons
  dsimp only
  (repeat' split) <;> simp only [↓State.setReg_without, ↓without_mtr, Reg.mtrArchConsHi, Reg.mtrArchConsLo,
      Nat.reduceDiv, ↓without_ite, ↓without_foldl, ite_self, implies_true, List.cons_subset, List.nil_subset, and_true,
      and_self, true_and, h]

end Sys2Proof.Machine
end

