-- ==== Sys2Proof/Laws/KeepKeys.lean ====
section
/-! SUPPORT. Which parts of the state the operations of Machine/Keys.lean may change: every other part stays. -/
set_option linter.unusedSimpArgs false
set_option linter.unusedVariables false
namespace Sys2Proof.Machine


theorem State.supersedeRun_without {W : List Part} (s : State) (nsid first count : Nat) (h : [Part.wrp] ⊆ W) :
    (s.supersedeRun nsid first count).without W = s.without W := by
  simp only [List.cons_subset, List.nil_subset, and_true] at h
  simp only [State.supersedeRun, ↓without_wrp, ↓without_ite, ↓without_foldl, ite_self, implies_true, List.cons_subset,
      List.nil_subset, and_true, and_self, true_and, h]

theorem State.touchRun_without {W : List Part} (s : State) (nsid first count : Nat) (own : Bool) (h : [Part.wrp,
    .nss] ⊆ W) :
    (s.touchRun nsid first count own).without W = s.without W := by
  simp only [List.cons_subset, List.nil_subset, and_true] at h
  simp only [State.touchRun, ↓State.touchSegment_without, ↓State.noteChange_without, ↓without_ite, ↓without_foldl,
      ite_self, implies_true, List.cons_subset, List.nil_subset, and_true, and_self, true_and, h]

theorem State.unmapRun_without {W : List Part} (s : State) (nsid first count : Nat) (own : Bool) (h : [Part.mch, .wrp,
    .nss, .evc, .regs 8, .regs 15] ⊆ W) :
    (s.unmapRun nsid first count own).without W = s.without W := by
  simp only [List.cons_subset, List.nil_subset, and_true] at h
  simp only [State.unmapRun, ↓State.journal_without, ↓State.supersedeRun_without, ↓State.touchRun_without,
      ↓State.addValid_without, ↓without_wrp, ↓without_ite, ↓without_foldl, ite_self, implies_true, List.cons_subset,
      List.nil_subset, and_true, and_self, true_and, h]

theorem State.zeroRun_without {W : List Part} (s : State) (nsid first count : Nat) (own : Bool) (h : [Part.mch, .wrp,
    .nss, .evc, .regs 8, .regs 15] ⊆ W) :
    (s.zeroRun nsid first count own).without W = s.without W := by
  simp only [List.cons_subset, List.nil_subset, and_true] at h
  simp only [State.zeroRun, ↓State.setEntry_without, ↓State.supersedeRun_without, ↓State.touchRun_without,
      ↓State.addValid_without, ↓without_ite, ↓without_foldl, ite_self, implies_true, List.cons_subset, List.nil_subset,
      and_true, and_self, true_and, h]

theorem State.mapChange_without {W : List Part} (s : State) (c : CmdId) (nsid first count action : Nat)
    (h : [Part.cmds, .mch, .rdp, .wrp, .nss, .evc, .mlk, .out, .regs 8, .regs 13, .regs 15] ⊆ W) :
    (s.mapChange c nsid first count action).without W = s.without W := by
  simp only [List.cons_subset, List.nil_subset, and_true] at h
  simp only [State.mapChange, ↓State.updCmd_without, ↓State.zeroRun_without, ↓State.unmapRun_without,
      ↓State.mirror_without, ↓without_ite, ↓without_foldl, ite_self, implies_true, List.cons_subset, List.nil_subset,
      and_true, and_self, true_and, h]

theorem State.showSlots_without {W : List Part} (s : State) (h : [Part.regs 10] ⊆ W) :
    (s.showSlots).without W = s.without W := by
  simp only [List.cons_subset, List.nil_subset, and_true] at h
  simp only [State.showSlots, ↓State.setNum_without, Reg.tcyStatus, Nat.reduceDiv, ↓without_ite, ↓without_foldl,
      ite_self, implies_true, List.cons_subset, List.nil_subset, and_true, and_self, true_and, h]

theorem State.unprotect_without {W : List Part} (s : State) (nsid : Nat) (h : [Part.nss] ⊆ W) :
    (s.unprotect nsid).without W = s.without W := by
  simp only [List.cons_subset, List.nil_subset, and_true] at h
  simp only [State.unprotect, ↓State.updNs_without, ↓without_ite, ↓without_foldl, ite_self, implies_true,
      List.cons_subset, List.nil_subset, and_true, and_self, true_and, h]

theorem State.compareKcv_without {W : List Part} (s : State) (nsid : Nat) (h : [Part.nss, .evc, .regs 10,
    .regs 15] ⊆ W) :
    (s.compareKcv nsid).without W = s.without W := by
  simp only [List.cons_subset, List.nil_subset, and_true] at h
  simp only [State.compareKcv, ↓State.raise_without, ↓State.unprotect_without, Reg.tcyEvent, Nat.reduceDiv,
      ↓without_ite, ↓without_foldl, ite_self, implies_true, List.cons_subset, List.nil_subset, and_true, and_self,
      true_and, h]

theorem State.setKey_without {W : List Part} (s : State) (nsid state : Nat) (key : List Byte) (h : [Part.rdp, .nss,
    .evc, .mlk, .keys, .out, .regs 10, .regs 12, .regs 13, .regs 15] ⊆ W) :
    (s.setKey nsid state key).without W = s.without W := by
  simp only [List.cons_subset, List.nil_subset, and_true] at h
  simp only [State.setKey, ↓State.compareKcv_without, ↓State.showSlots_without, ↓State.raise_without,
      ↓State.send_without, ↓without_keys, Reg.secEvent, Nat.reduceDiv, ↓without_ite, ↓without_foldl, ite_self,
      implies_true, List.cons_subset, List.nil_subset, and_true, and_self, true_and, h]

theorem State.newKey_without {W : List Part} (s : State) (h : [Part.draw] ⊆ W) :
    (s.newKey).2.without W = s.without W := by
  simp only [List.cons_subset, List.nil_subset, and_true] at h
  simp only [State.newKey, ↓State.drawn_without, ↓without_ite, ↓without_foldl, ite_self, implies_true,
      List.cons_subset, List.nil_subset, and_true, and_self, true_and, h]

theorem State.freeStaged_without {W : List Part} (s : State) (nsid : Nat) (h : [Part.cmds, .wrp, .regs 8] ⊆ W) :
    (s.freeStaged nsid).without W = s.without W := by
  simp only [List.cons_subset, List.nil_subset, and_true] at h
  unfold State.freeStaged
  (repeat' split) <;> simp only [↓State.purge_without, ↓without_cmds, ↓without_ite, ↓without_foldl, ite_self,
      implies_true, List.cons_subset, List.nil_subset, and_true, and_self, true_and, h]

theorem State.cryptoErase_without {W : List Part} (s : State) (nsid : Nat) (stays : Bool) (h : [Part.prx, .cmds, .mch,
    .rdp, .wrp, .mcr, .nss, .evc, .mlk, .keys, .out, .draw, .regs 7, .regs 8, .regs 9, .regs 10, .regs 12, .regs 13,
    .regs 15] ⊆ W) :
    (s.cryptoErase nsid stays).without W = s.without W := by
  simp only [List.cons_subset, List.nil_subset, and_true] at h
  simp only [State.cryptoErase, ↓State.freeStaged_without, ↓State.newKey_without, ↓State.failCmd_without,
      ↓State.settle_without, ↓State.raise_without, ↓State.unmapRun_without, ↓State.inc_without,
      ↓State.retryHeld_without, ↓State.setKey_without, ↓without_mlk, Reg.tcyEvent, Reg.tcyEraseCnt, Nat.reduceDiv,
      ↓without_ite, ↓without_foldl, ite_self, implies_true, List.cons_subset, List.nil_subset, and_true, and_self,
      true_and, h]

end Sys2Proof.Machine
end

