-- ==== Sys2Proof/Laws/KeepNvme.lean ====
section
/-! SUPPORT. Which parts of the state the operations of Machine/Nvme.lean may change: every other part stays. -/
set_option linter.unusedSimpArgs false
set_option linter.unusedVariables false
namespace Sys2Proof.Machine


theorem State.countPrp_without {W : List Part} (s : State) (q : Sqe) (h : [Part.evc, .log, .regs 3, .regs 15,
    .regs 20] ⊆ W) :
    (s.countPrp q).without W = s.without W := by
  simp only [List.cons_subset, List.nil_subset, and_true] at h
  simp only [State.countPrp, ↓State.countErr_without, ↓State.raise_without, Reg.qenEvent, Reg.qenPrpErrCnt,
      Reg.qenSglErrCnt, Nat.reduceDiv, ↓without_ite, ↓without_foldl, ite_self, implies_true, List.cons_subset,
      List.nil_subset, and_true, and_self, true_and, h]

theorem State.ioGate_without {W : List Part} (s : State) (q : Sqe) (i : Instr) (again : Bool) (f : State → State)
    (h : [Part.prx, .cmds, .wrp, .nss, .evc, .regs 8, .regs 15] ⊆ W) (hf : ∀ t, (f t).without W = t.without W) :
    (s.ioGate q i again f).without W = s.without W := by
  simp only [List.cons_subset, List.nil_subset, and_true] at h
  have e0 := fun (s : State) => State.showJournal_without (W := W) s (by simp only [List.cons_subset, List.nil_subset, and_true, Nat.reduceDiv, h])
  have e1 := fun (s : State) (c : CmdId) (status : Nat) (dw0 : Word) (dnr : Bool) => State.finish_without (W := W) s c status dw0 dnr (by simp only [List.cons_subset, List.nil_subset, and_true, Nat.reduceDiv, h])
  have e2 := fun (s : State) (nsid : Nat) (f : Ns → Ns) => State.updNs_without (W := W) s nsid f (by simp only [List.cons_subset, List.nil_subset, and_true, Nat.reduceDiv, h])
  have r3 := fun (x0 : State) (x1 : Prx) => without_prx (W := W) x0 x1 (by simp only [h])
  have r4 := fun (x0 : State) (x1 : Wrp) => without_wrp (W := W) x0 x1 (by simp only [h])
  unfold State.ioGate
  repeat' (first
    | with_reducible rfl
    | with_reducible refine (hf _).trans ?_
    | with_reducible refine (e0 _).trans ?_
    | with_reducible refine (e1 _ _ _ _ _).trans ?_
    | with_reducible refine (e2 _ _ _).trans ?_
    | with_reducible refine without_if ?_ ?_
    | with_reducible refine (without_foldl (fun t a => ?_) _ _).trans ?_
    | simp only [r3, r4, h])

theorem State.ioCmd_without {W : List Part} (s : State) (q : Sqe) (i : Instr) (f : State → State) (h : [Part.prx,
    .cmds, .wrp, .nss, .fns, .hpt, .evc, .out, .regs 1, .regs 3, .regs 8, .regs 15] ⊆ W) (hf : ∀ t,
    (f t).without W = t.without W) :
    (s.ioCmd q i f).without W = s.without W := by
  simp only [List.cons_subset, List.nil_subset, and_true] at h
  have e0 := fun (s : State) (c : CmdId) (f : Cmd → Cmd) => State.updCmd_without (W := W) s c f (by simp only [List.cons_subset, List.nil_subset, and_true, Nat.reduceDiv, h])
  have e1 := fun (s : State) (q : Sqe) (admin : Bool) (f : Cmd → State → State) => State.fetchCmd_without (W := W) s q admin f (by simp only [List.cons_subset, List.nil_subset, and_true, Nat.reduceDiv, h])
  have e2 := fun (s : State) (q : Sqe) (i : Instr) (again : Bool) (f : State → State) => State.ioGate_without (W := W) s q i again f (by simp only [List.cons_subset, List.nil_subset, and_true, Nat.reduceDiv, h])
  unfold State.ioCmd
  repeat' (first
    | with_reducible rfl
    | with_reducible refine (hf _).trans ?_
    | with_reducible refine (e0 _ _ _).trans ?_
    | with_reducible refine (e1 _ _ _ _ (fun c t => ?_)).trans ?_
    | with_reducible refine (e2 _ _ _ _ _ (fun t => ?_)).trans ?_)

theorem State.noteRange_without {W : List Part} (s : State) (q : Sqe) (lba nlb : Nat) (h : [Part.cmds] ⊆ W) :
    (s.noteRange q lba nlb).without W = s.without W := by
  simp only [List.cons_subset, List.nil_subset, and_true] at h
  simp only [State.noteRange, ↓State.updCmd_without, ↓without_ite, ↓without_foldl, ite_self, implies_true,
      List.cons_subset, List.nil_subset, and_true, and_self, true_and, h]

theorem State.flushCmd_without {W : List Part} (s : State) (q : Sqe) (h : [Part.cmds, .fns, .hpt, .out, .regs 1,
    .regs 3] ⊆ W) :
    (s.flushCmd q).without W = s.without W := by
  simp only [List.cons_subset, List.nil_subset, and_true] at h
  simp only [State.flushCmd, ↓State.fetchCmd_without, ↓State.finish_without, ↓without_ite, ↓without_foldl, ite_self,
      implies_true, List.cons_subset, List.nil_subset, and_true, and_self, true_and, h]

theorem State.serveRead_without {W : List Part} (s : State) (q : Sqe) (data equal : Bool) (h : [Part.cmds, .hpt, .evc,
    .log, .regs 3, .regs 15, .regs 20] ⊆ W) :
    (s.serveRead q data equal).without W = s.without W := by
  simp only [List.cons_subset, List.nil_subset, and_true] at h
  unfold State.serveRead
  dsimp only
  (repeat' split) <;> simp only [↓State.updCmd_without, ↓State.noteRange_without, ↓State.finish_without,
      ↓State.countPrp_without, ↓without_hpt, ↓without_ite, ↓without_foldl, ite_self, implies_true, List.cons_subset,
      List.nil_subset, and_true, and_self, true_and, h]

theorem State.chargeWriteCmd_without {W : List Part} (s : State) (c : CmdId) (nsid lba nlb count : Nat)
    (h : [Part.tenants, .cmds] ⊆ W) :
    (s.chargeWriteCmd c nsid lba nlb count).without W = s.without W := by
  simp only [List.cons_subset, List.nil_subset, and_true] at h
  unfold State.chargeWriteCmd
  dsimp only
  (repeat' split) <;> simp only [↓State.updCmd_without, ↓without_tenants, Reg.wrpStatus, Nat.reduceDiv, ↓without_ite,
      ↓without_foldl, ite_self, implies_true, List.cons_subset, List.nil_subset, and_true, and_self, true_and, h]

theorem State.fillNow_without {W : List Part} (s : State) (c : CmdId) (h : [Part.cmds, .wrp, .mcr, .evc, .regs 8,
    .regs 9, .regs 15] ⊆ W) :
    (s.fillNow c).without W = s.without W := by
  simp only [List.cons_subset, List.nil_subset, and_true] at h
  unfold State.fillNow
  (repeat' split) <;> simp only [↓State.tryFill_without, ↓without_ite, ↓without_foldl, ite_self, implies_true,
      List.cons_subset, List.nil_subset, and_true, and_self, true_and, h]

theorem State.serveWrite_without {W : List Part} (s : State) (q : Sqe) (h : [Part.tenants, .cmds, .wrp, .mcr, .hpt,
    .evc, .log, .regs 3, .regs 8, .regs 9, .regs 15, .regs 20] ⊆ W) :
    (s.serveWrite q).without W = s.without W := by
  simp only [List.cons_subset, List.nil_subset, and_true] at h
  unfold State.serveWrite
  dsimp only
  (repeat' split) <;> simp only [↓State.noteRange_without, ↓State.fillNow_without, ↓State.finish_without,
      ↓State.countPrp_without, ↓State.chargeWriteCmd_without, ↓without_hpt, ↓without_ite, ↓without_foldl, ite_self,
      implies_true, List.cons_subset, List.nil_subset, and_true, and_self, true_and, h]

theorem State.zeroRanges_without {W : List Part} (s : State) (q : Sqe) (ranges : List (Nat × Nat)) (action : Nat)
    (h : [Part.cmds, .mch, .rdp, .wrp, .mcr, .nss, .evc, .mlk, .out, .regs 8, .regs 9, .regs 13, .regs 15] ⊆ W) :
    (s.zeroRanges q ranges action).without W = s.without W := by
  simp only [List.cons_subset, List.nil_subset, and_true] at h
  unfold State.zeroRanges
  dsimp only
  (repeat' split) <;> simp only [↓State.updCmd_without, ↓State.mapChange_without, ↓State.fillNow_without,
      ↓State.settle_without, ↓State.finish_without, ↓without_ite, ↓without_foldl, ite_self, implies_true,
      List.cons_subset, List.nil_subset, and_true, and_self, true_and, h]

theorem State.serveZeroes_without {W : List Part} (s : State) (q : Sqe) (h : [Part.cmds, .mch, .rdp, .wrp, .mcr, .nss,
    .evc, .mlk, .out, .regs 8, .regs 9, .regs 13, .regs 15] ⊆ W) :
    (s.serveZeroes q).without W = s.without W := by
  simp only [List.cons_subset, List.nil_subset, and_true] at h
  have z : ∀ t a l n, (State.zeroRanges t a l n).without W = t.without W := fun t a l n => State.zeroRanges_without _ _ _ _ (by simp only [List.cons_subset, List.nil_subset, and_true, h])
  have nr : ∀ l n, (s.noteRange q l n).without W = s.without W := fun l n => State.noteRange_without _ _ _ _ (by simp only [List.cons_subset, List.nil_subset, and_true, h])
  have fi : ∀ st, (s.finish q.id st).without W = s.without W := fun st => State.finish_without _ _ _ _ _ (by simp only [List.cons_subset, List.nil_subset, and_true, h])
  have gen : ∀ (a : State) (f : Nat → State) (o : Option Nat), a.without W = s.without W →
      (∀ st, (f st).without W = s.without W) → (o.elim a f).without W = s.without W := by
    intro a f o ha hf
    cases o with
    | none => exact ha
    | some st => exact hf st
  exact gen _ _ _ ((z _ _ _ _).trans (nr _ _)) fi

theorem State.serveDsm_without {W : List Part} (s : State) (q : Sqe) (ranges : List (Nat × Nat)) (h : [Part.cmds, .mch,
    .rdp, .wrp, .mcr, .nss, .evc, .mlk, .log, .out, .regs 3, .regs 8, .regs 9, .regs 13, .regs 15, .regs 20] ⊆ W) :
    (s.serveDsm q ranges).without W = s.without W := by
  simp only [List.cons_subset, List.nil_subset, and_true] at h
  unfold State.serveDsm
  (repeat' split) <;> simp only [↓State.finish_without, ↓State.zeroRanges_without, ↓State.countPrp_without,
      ↓without_ite, ↓without_foldl, ite_self, implies_true, List.cons_subset, List.nil_subset, and_true, and_self,
      true_and, h]

theorem State.serveCopy_without {W : List Part} (s : State) (q : Sqe) (ranges : List (Nat × Nat)) (h : [Part.cmds,
    .evc, .log, .regs 3, .regs 15, .regs 20] ⊆ W) :
    (s.serveCopy q ranges).without W = s.without W := by
  simp only [List.cons_subset, List.nil_subset, and_true] at h
  unfold State.serveCopy
  dsimp only
  (repeat' split) <;> simp only [↓State.updCmd_without, ↓State.noteRange_without, ↓State.finish_without,
      ↓State.countPrp_without, ↓without_ite, ↓without_foldl, ite_self, implies_true, List.cons_subset, List.nil_subset,
      and_true, and_self, true_and, h]

theorem State.serveIo_without {W : List Part} (s : State) (i : Instr) (h : [Part.prx, .tenants, .cmds, .mch, .rdp,
    .wrp, .mcr, .nss, .hpt, .evc, .mlk, .log, .out, .regs 3, .regs 8, .regs 9, .regs 13, .regs 15, .regs 20] ⊆ W) :
    (s.serveIo i).without W = s.without W := by
  simp only [List.cons_subset, List.nil_subset, and_true] at h
  unfold State.serveIo
  (repeat' split) <;> simp only [↓State.serveDsm_without, ↓State.serveWrite_without, ↓State.serveZeroes_without,
      ↓State.serveCopy_without, ↓State.ioGate_without, ↓State.serveRead_without, ↓without_ite, ↓without_foldl,
      ite_self, implies_true, List.cons_subset, List.nil_subset, and_true, and_self, true_and, h]

theorem State.serveParked_without {W : List Part} (s : State) (h : [Part.prx, .tenants, .cmds, .mch, .rdp, .wrp, .mcr,
    .nss, .hpt, .evc, .mlk, .log, .out, .regs 3, .regs 8, .regs 9, .regs 13, .regs 15, .regs 20] ⊆ W) :
    (s.serveParked).without W = s.without W := by
  simp only [List.cons_subset, List.nil_subset, and_true] at h
  simp only [State.serveParked, ↓State.serveIo_without, ↓without_prx, ↓without_ite, ↓without_foldl, ite_self,
      implies_true, List.cons_subset, List.nil_subset, and_true, and_self, true_and, h]

theorem State.journalBelow_without {W : List Part} (s : State) (h : [Part.prx, .tenants, .cmds, .mch, .rdp, .wrp, .mcr,
    .nss, .hpt, .evc, .mlk, .log, .out, .regs 3, .regs 8, .regs 9, .regs 13, .regs 15, .regs 20] ⊆ W) :
    (s.journalBelow).without W = s.without W := by
  simp only [List.cons_subset, List.nil_subset, and_true] at h
  simp only [State.journalBelow, ↓State.showJournal_without, ↓State.settle_without, ↓State.serveIo_without,
      ↓without_wrp, ↓without_ite, ↓without_foldl, ite_self, implies_true, List.cons_subset, List.nil_subset, and_true,
      and_self, true_and, h]

end Sys2Proof.Machine
end

