-- ==== Sys2Proof/Laws/KeepLink.lean ====
section
/-! SUPPORT. Which parts of the state the operations of Machine/Link.lean may change: every other part stays. -/
set_option linter.unusedSimpArgs false
set_option linter.unusedVariables false
namespace Sys2Proof.Machine


theorem State.beginSession_without {W : List Part} (s : State) (id : Nat) (h : [Part.mlk] ⊆ W) :
    (s.beginSession id).without W = s.without W := by
  simp only [List.cons_subset, List.nil_subset, and_true] at h
  simp only [State.beginSession, ↓without_mlk, ↓without_ite, ↓without_foldl, ite_self, implies_true, List.cons_subset,
      List.nil_subset, and_true, and_self, true_and, h]

theorem State.ackTo_without {W : List Part} (s : State) (next : Nat) (h : [Part.rdp, .evc, .mlk, .out, .regs 13,
    .regs 15] ⊆ W) :
    (s.ackTo next).without W = s.without W := by
  simp only [List.cons_subset, List.nil_subset, and_true] at h
  simp only [State.ackTo, ↓State.pump_without, ↓State.showSpill_without, ↓without_mlk, ↓without_ite, ↓without_foldl,
      ite_self, implies_true, List.cons_subset, List.nil_subset, and_true, and_self, true_and, h]

theorem State.replayAll_without {W : List Part} (s : State) (h : [Part.out, .regs 13] ⊆ W) :
    (s.replayAll).without W = s.without W := by
  simp only [List.cons_subset, List.nil_subset, and_true] at h
  simp only [State.replayAll, ↓State.inc_without, ↓State.emit_without, Reg.mlkReplayCnt, Nat.reduceDiv, ↓without_ite,
      ↓without_foldl, ite_self, implies_true, List.cons_subset, List.nil_subset, and_true, and_self, true_and, h]

theorem State.speedRetrain_without {W : List Part} (s : State) (h : [Part.mlk, .regs 13] ⊆ W) :
    (s.speedRetrain).without W = s.without W := by
  simp only [List.cons_subset, List.nil_subset, and_true] at h
  simp only [State.speedRetrain, ↓State.inc_without, ↓without_mlk, Reg.mlkRetrainCnt, Nat.reduceDiv, ↓without_ite,
      ↓without_foldl, ite_self, implies_true, List.cons_subset, List.nil_subset, and_true, and_self, true_and, h]

theorem State.nak_without {W : List Part} (s : State) (next : Nat) (h : [Part.rdp, .evc, .mlk, .out, .regs 13,
    .regs 15] ⊆ W) :
    (s.nak next).without W = s.without W := by
  simp only [List.cons_subset, List.nil_subset, and_true] at h
  simp only [State.nak, ↓State.ackTo_without, ↓State.speedRetrain_without, ↓State.replayAll_without, ↓without_mlk,
      ↓without_ite, ↓without_foldl, ite_self, implies_true, List.cons_subset, List.nil_subset, and_true, and_self,
      true_and, h]

theorem State.sendNak_without {W : List Part} (s : State) (h : [Part.evc, .log, .out, .regs 13, .regs 15,
    .regs 20] ⊆ W) :
    (s.sendNak).without W = s.without W := by
  simp only [List.cons_subset, List.nil_subset, and_true] at h
  simp only [State.sendNak, ↓State.countErr_without, ↓State.emit_without, Reg.mlkNakCnt, Nat.reduceDiv, ↓without_ite,
      ↓without_foldl, ite_self, implies_true, List.cons_subset, List.nil_subset, and_true, and_self, true_and, h]

theorem State.badMsg_without {W : List Part} (s : State) (m : List Byte) (h : [Part.rdp, .evc, .mlk, .log, .out,
    .regs 13, .regs 15, .regs 20] ⊆ W) :
    (s.badMsg m).without W = s.without W := by
  simp only [List.cons_subset, List.nil_subset, and_true] at h
  simp only [State.badMsg, ↓State.countErr_without, ↓State.send_without, Reg.mlkBadMsgCnt, Nat.reduceDiv, ↓without_ite,
      ↓without_foldl, ite_self, implies_true, List.cons_subset, List.nil_subset, and_true, and_self, true_and, h]

theorem State.dropMsg_without {W : List Part} (s : State) (m : List Byte) (vc blocks : Nat) (h : [Part.rdp, .evc, .mlk,
    .log, .out, .regs 13, .regs 15, .regs 20] ⊆ W) :
    (s.dropMsg m vc blocks).without W = s.without W := by
  simp only [List.cons_subset, List.nil_subset, and_true] at h
  simp only [State.dropMsg, ↓State.badMsg_without, ↓State.took_without, ↓State.when_without, ↓without_ite,
      ↓without_foldl, ite_self, implies_true, List.cons_subset, List.nil_subset, and_true, and_self, true_and, h]

theorem State.longEnds_without {W : List Part} (s : State) (x : LongIn) (h : [Part.rdp, .evc, .mlk, .log, .out,
    .regs 13, .regs 15, .regs 20] ⊆ W) :
    (s.longEnds x).without W = s.without W := by
  simp only [List.cons_subset, List.nil_subset, and_true] at h
  simp only [State.longEnds, ↓State.dropMsg_without, ↓without_ite, ↓without_foldl, ite_self, implies_true,
      List.cons_subset, List.nil_subset, and_true, and_self, true_and, h]

theorem State.longFlit_without {W : List Part} (s : State) (ty vc used : Nat) (pay : List Byte) (h : [Part.rdp, .evc,
    .mlk, .log, .out, .regs 13, .regs 15, .regs 20] ⊆ W) :
    (s.longFlit ty vc used pay).without W = s.without W := by
  simp only [List.cons_subset, List.nil_subset, and_true] at h
  unfold State.longFlit
  dsimp only
  (repeat' split) <;> simp only [↓State.longEnds_without, ↓State.badMsg_without, ↓State.dropMsg_without, ↓without_mlk,
      ↓without_ite, ↓without_foldl, ite_self, implies_true, List.cons_subset, List.nil_subset, and_true, and_self,
      true_and, h]

theorem State.flitMessages_without {W : List Part} (s : State) (b : List Byte) (h : [Part.rdp, .evc, .mlk, .log, .out,
    .regs 13, .regs 15, .regs 20] ⊆ W) :
    (s.flitMessages b).without W = s.without W := by
  simp only [List.cons_subset, List.nil_subset, and_true] at h
  simp only [State.flitMessages, ↓State.badMsg_without, ↓State.dropMsg_without, ↓State.longFlit_without, ↓without_ite,
      ↓without_foldl, ite_self, implies_true, List.cons_subset, List.nil_subset, and_true, and_self, true_and, h]

theorem State.seqFlit_without {W : List Part} (s : State) (b : List Byte) (h : [Part.rdp, .evc, .mlk, .log, .out,
    .regs 13, .regs 15, .regs 20] ⊆ W) :
    (s.seqFlit b).without W = s.without W := by
  simp only [List.cons_subset, List.nil_subset, and_true] at h
  simp only [State.seqFlit, ↓State.sendNak_without, ↓State.sendAck_without, ↓State.inc_without,
      ↓State.flitMessages_without, ↓without_mlk, Reg.mlkDupDropCnt, Nat.reduceDiv, ↓without_ite, ↓without_foldl,
      ite_self, implies_true, List.cons_subset, List.nil_subset, and_true, and_self, true_and, h]

theorem State.countFlit_without {W : List Part} (s : State) (corrected : Bool) (h : [Part.mlk, .regs 13] ⊆ W) :
    (s.countFlit corrected).without W = s.without W := by
  simp only [List.cons_subset, List.nil_subset, and_true] at h
  simp only [State.countFlit, ↓State.speedRetrain_without, ↓State.when_without, ↓without_mlk, ↓without_ite,
      ↓without_foldl, ite_self, implies_true, List.cons_subset, List.nil_subset, and_true, and_self, true_and, h]

theorem State.flit_without {W : List Part} (s : State) (raw : List Byte) (h : [Part.rdp, .evc, .mlk, .log, .out,
    .regs 13, .regs 15, .regs 20] ⊆ W) :
    (s.flit raw).without W = s.without W := by
  simp only [List.cons_subset, List.nil_subset, and_true] at h
  unfold State.flit
  dsimp only
  (repeat' split) <;> simp only [↓State.ackTo_without, ↓State.pump_without, ↓State.countErr_without,
      ↓State.sendNak_without, ↓State.badMsg_without, ↓State.seqFlit_without, ↓State.nak_without, ↓State.when_without,
      ↓State.countFlit_without, ↓without_mlk, Reg.mlkCrcFailCnt, Reg.mlkFecCorrCnt, Nat.reduceDiv, ↓without_ite,
      ↓without_foldl, ite_self, implies_true, List.cons_subset, List.nil_subset, and_true, and_self, true_and, h]

theorem State.setLinkRate_without {W : List Part} (s : State) (speed width : Nat) (h : [Part.evc, .regs 13,
    .regs 15] ⊆ W) :
    (s.setLinkRate speed width).without W = s.without W := by
  simp only [List.cons_subset, List.nil_subset, and_true] at h
  simp only [State.setLinkRate, ↓State.setField_without, ↓State.setBit_without, ↓State.raise_without, Reg.mlkStatus,
      Reg.mlkEvent, Nat.reduceDiv, ↓without_ite, ↓without_foldl, ite_self, implies_true, List.cons_subset,
      List.nil_subset, and_true, and_self, true_and, h]

theorem State.linkTrain_without {W : List Part} (s : State) (r : Option LinkTrained) (h : [Part.rdp, .evc, .mlk, .out,
    .regs 13, .regs 15] ⊆ W) :
    (s.linkTrain r).without W = s.without W := by
  simp only [List.cons_subset, List.nil_subset, and_true] at h
  unfold State.linkTrain
  (repeat' split) <;> simp only [↓State.setLinkRate_without, ↓State.send_without, Reg.mlkCtl, Nat.reduceDiv,
      ↓without_ite, ↓without_foldl, ite_self, implies_true, List.cons_subset, List.nil_subset, and_true, and_self,
      true_and, h]

theorem State.speedRetrainDone_without {W : List Part} (s : State) (pam4 : Bool) (peerNext : Nat) (h : [Part.rdp, .evc,
    .mlk, .out, .regs 13, .regs 15] ⊆ W) :
    (s.speedRetrainDone pam4 peerNext).without W = s.without W := by
  simp only [List.cons_subset, List.nil_subset, and_true] at h
  simp only [State.speedRetrainDone, ↓State.ackTo_without, ↓State.pump_without, ↓State.replayAll_without,
      ↓State.setLinkRate_without, ↓without_mlk, Reg.mlkStatus, Reg.mlkCtl, Nat.reduceDiv, ↓without_ite, ↓without_foldl,
      ite_self, implies_true, List.cons_subset, List.nil_subset, and_true, and_self, true_and, h]

theorem State.linkReset_without {W : List Part} (s : State) (h : [Part.evc, .mlk, .regs 13, .regs 15, .regs 20] ⊆ W) :
    (s.linkReset).without W = s.without W := by
  simp only [List.cons_subset, List.nil_subset, and_true] at h
  simp only [State.linkReset, ↓State.inc_without, ↓State.domainReset_without, ↓without_mlk, Reg.pwrDomainSeen,
      Reg.mlkResetCnt, Nat.reduceDiv, ↓without_ite, ↓without_foldl, ite_self, implies_true, List.cons_subset,
      List.nil_subset, and_true, and_self, true_and, h]

end Sys2Proof.Machine
end

