-- ==== Sys2Proof/Laws/KeepPair.lean ====
section
/-! SUPPORT. Which parts of the state the operations of Machine/Pair.lean may change: every other part stays. -/
set_option linter.unusedSimpArgs false
set_option linter.unusedVariables false
namespace Sys2Proof.Machine


theorem State.setPairState_without {W : List Part} (s : State) (st : Nat) (h : [Part.prx, .regs 13] ⊆ W) :
    (s.setPairState st).without W = s.without W := by
  simp only [List.cons_subset, List.nil_subset, and_true] at h
  simp only [State.setPairState, ↓State.setField_without, ↓without_prx, Reg.mlkPairState, Nat.reduceDiv, ↓without_ite,
      ↓without_foldl, ite_self, implies_true, List.cons_subset, List.nil_subset, and_true, and_self, true_and, h]

theorem State.setRole_without {W : List Part} (s : State) (r : Nat) (h : [Part.mlk, .regs 13] ⊆ W) :
    (s.setRole r).without W = s.without W := by
  simp only [List.cons_subset, List.nil_subset, and_true] at h
  simp only [State.setRole, ↓State.setField_without, ↓without_mlk, Reg.mlkGrace, Reg.mlkPairState, Nat.reduceDiv,
      ↓without_ite, ↓without_foldl, ite_self, implies_true, List.cons_subset, List.nil_subset, and_true, and_self,
      true_and, h]

theorem State.driveFence_without {W : List Part} (s : State) (high : Bool) (h : [Part.out, .regs 13] ⊆ W) :
    (s.driveFence high).without W = s.without W := by
  simp only [List.cons_subset, List.nil_subset, and_true] at h
  simp only [State.driveFence, ↓State.setBit_without, ↓State.emit_without, Reg.mlkStatus, Nat.reduceDiv, ↓without_ite,
      ↓without_foldl, ite_self, implies_true, List.cons_subset, List.nil_subset, and_true, and_self, true_and, h]

theorem State.nsNotice_without {W : List Part} (s : State) (f nsid : Nat) (h : [Part.cmds, .fns, .aens] ⊆ W) :
    (s.nsNotice f nsid).without W = s.without W := by
  simp only [List.cons_subset, List.nil_subset, and_true] at h
  simp only [State.nsNotice, ↓State.asyncEvent_without, ↓State.updFn_without, ↓without_ite, ↓without_foldl, ite_self,
      implies_true, List.cons_subset, List.nil_subset, and_true, and_self, true_and, h]

theorem State.sendNsSync_without {W : List Part} (s : State) (nsid action units : Nat) (h : [Part.rdp, .evc, .mlk,
    .out, .regs 13, .regs 15] ⊆ W) :
    (s.sendNsSync nsid action units).without W = s.without W := by
  simp only [List.cons_subset, List.nil_subset, and_true] at h
  simp only [State.sendNsSync, ↓State.send_without, ↓without_ite, ↓without_foldl, ite_self, implies_true,
      List.cons_subset, List.nil_subset, and_true, and_self, true_and, h]

theorem State.refuseNsSync_without {W : List Part} (s : State) (nsid : Nat) (inUse : Bool) (h : [Part.rdp, .evc, .mlk,
    .out, .regs 13, .regs 15] ⊆ W) :
    (s.refuseNsSync nsid inUse).without W = s.without W := by
  simp only [List.cons_subset, List.nil_subset, and_true] at h
  simp only [State.refuseNsSync, ↓State.send_without, ↓without_ite, ↓without_foldl, ite_self, implies_true,
      List.cons_subset, List.nil_subset, and_true, and_self, true_and, h]

theorem State.sendChangeMap_without {W : List Part} (s : State) (nsid : Nat) (h : [Part.rdp, .evc, .mlk, .out,
    .regs 13, .regs 15] ⊆ W) :
    (s.sendChangeMap nsid).without W = s.without W := by
  simp only [List.cons_subset, List.nil_subset, and_true] at h
  simp only [State.sendChangeMap, ↓State.send_without, ↓without_ite, ↓without_foldl, ite_self, implies_true,
      List.cons_subset, List.nil_subset, and_true, and_self, true_and, h]

theorem State.sendKcv_without {W : List Part} (s : State) (nsid : Nat) (h : [Part.rdp, .evc, .mlk, .out, .regs 13,
    .regs 15] ⊆ W) :
    (s.sendKcv nsid).without W = s.without W := by
  simp only [List.cons_subset, List.nil_subset, and_true] at h
  simp only [State.sendKcv, ↓State.send_without, ↓without_ite, ↓without_foldl, ite_self, implies_true,
      List.cons_subset, List.nil_subset, and_true, and_self, true_and, h]

theorem State.markFull_without {W : List Part} (s : State) (nsid : Nat) (h : [Part.nss] ⊆ W) :
    (s.markFull nsid).without W = s.without W := by
  simp only [List.cons_subset, List.nil_subset, and_true] at h
  simp only [State.markFull, ↓State.updNs_without, ↓without_ite, ↓without_foldl, ite_self, implies_true,
      List.cons_subset, List.nil_subset, and_true, and_self, true_and, h]

theorem State.markRegions_without {W : List Part} (s : State) (nsid : Nat) (rs : List Nat) (h : [Part.nss] ⊆ W) :
    (s.markRegions nsid rs).without W = s.without W := by
  simp only [List.cons_subset, List.nil_subset, and_true] at h
  simp only [State.markRegions, ↓State.updNs_without, ↓without_ite, ↓without_foldl, ite_self, implies_true,
      List.cons_subset, List.nil_subset, and_true, and_self, true_and, h]

theorem State.resyncRun_without {W : List Part} (s : State) (nsid first count : Nat) (h : [Part.rdp, .evc, .mlk, .out,
    .regs 13, .regs 15] ⊆ W) :
    (s.resyncRun nsid first count).without W = s.without W := by
  simp only [List.cons_subset, List.nil_subset, and_true] at h
  simp only [State.resyncRun, ↓State.inc_without, ↓State.mirror_without, Reg.mlkResyncUnitCnt, Nat.reduceDiv,
      ↓without_ite, ↓without_foldl, ite_self, implies_true, List.cons_subset, List.nil_subset, and_true, and_self,
      true_and, h]

theorem State.resyncUnit_without {W : List Part} (s : State) (nsid iu : Nat) (parts : List Nat) (h : [Part.rdp, .evc,
    .mlk, .out, .regs 13, .regs 15] ⊆ W) :
    (s.resyncUnit nsid iu parts).without W = s.without W := by
  simp only [List.cons_subset, List.nil_subset, and_true] at h
  simp only [State.resyncUnit, ↓State.inc_without, ↓State.mirror_without, Reg.mlkResyncUnitCnt, Nat.reduceDiv,
      ↓without_ite, ↓without_foldl, ite_self, implies_true, List.cons_subset, List.nil_subset, and_true, and_self,
      true_and, h]

theorem State.resyncSpend_without {W : List Part} (s : State) (flits : Nat) (h : [Part.mlk] ⊆ W) :
    (s.resyncSpend flits).without W = s.without W := by
  simp only [List.cons_subset, List.nil_subset, and_true] at h
  simp only [State.resyncSpend, ↓without_mlk, ↓without_ite, ↓without_foldl, ite_self, implies_true, List.cons_subset,
      List.nil_subset, and_true, and_self, true_and, h]

theorem State.protect_without {W : List Part} (s : State) (nsid : Nat) (h : [Part.nss, .evc, .regs 13, .regs 15] ⊆ W) :
    (s.protect nsid).without W = s.without W := by
  simp only [List.cons_subset, List.nil_subset, and_true] at h
  simp only [State.protect, ↓State.updNs_without, ↓State.raise_without, Reg.mlkEvent, Nat.reduceDiv, ↓without_ite,
      ↓without_foldl, ite_self, implies_true, List.cons_subset, List.nil_subset, and_true, and_self, true_and, h]

theorem State.resyncSent_without {W : List Part} (s : State) (nsid : Nat) (h : [Part.rdp, .nss, .evc, .mlk, .out,
    .regs 13, .regs 15] ⊆ W) :
    (s.resyncSent nsid).without W = s.without W := by
  simp only [List.cons_subset, List.nil_subset, and_true] at h
  simp only [State.resyncSent, ↓State.protect_without, ↓State.updNs_without, ↓State.send_without, ↓without_ite,
      ↓without_foldl, ite_self, implies_true, List.cons_subset, List.nil_subset, and_true, and_self, true_and, h]

theorem State.proposeJoin_without {W : List Part} (s : State) (h : [Part.rdp, .evc, .mlk, .out, .regs 13,
    .regs 15] ⊆ W) :
    (s.proposeJoin).without W = s.without W := by
  simp only [List.cons_subset, List.nil_subset, and_true] at h
  simp only [State.proposeJoin, ↓State.send_without, ↓without_mlk, ↓without_ite, ↓without_foldl, ite_self,
      implies_true, List.cons_subset, List.nil_subset, and_true, and_self, true_and, h]

theorem resyncPump_without {W : List Part} (n : Nat) (s : State) (h : [Part.rdp, .nss, .evc, .mlk, .out, .regs 13,
    .regs 15] ⊆ W) :
    (resyncPump n s).without W = s.without W := by
  simp only [List.cons_subset, List.nil_subset, and_true] at h
  induction n generalizing s with
  | zero => rfl
  | succ n ih =>
    have e0 := fun (s : State) (nsid : Nat) => State.resyncSent_without (W := W) s nsid (by simp only [List.cons_subset, List.nil_subset, and_true, Nat.reduceDiv, h])
    have e1 := fun (s : State) => State.proposeJoin_without (W := W) s (by simp only [List.cons_subset, List.nil_subset, and_true, Nat.reduceDiv, h])
    have e2 := fun (s : State) (nsid iu : Nat) (parts : List Nat) => State.resyncUnit_without (W := W) s nsid iu parts (by simp only [List.cons_subset, List.nil_subset, and_true, Nat.reduceDiv, h])
    have e3 := fun (s : State) (flits : Nat) => State.resyncSpend_without (W := W) s flits (by simp only [List.cons_subset, List.nil_subset, and_true, Nat.reduceDiv, h])
    have e4 := fun (s : State) (nsid first count : Nat) => State.resyncRun_without (W := W) s nsid first count (by simp only [List.cons_subset, List.nil_subset, and_true, Nat.reduceDiv, h])
    have r5 := fun (x0 : State) (x1 : Mlk) => without_mlk (W := W) x0 x1 (by simp only [h])
    unfold resyncPump
    dsimp only
    repeat' (first
      | with_reducible rfl
      | with_reducible refine (ih _).trans ?_
      | with_reducible refine (e0 _ _).trans ?_
      | with_reducible refine (e1 _).trans ?_
      | with_reducible refine (e2 _ _ _ _).trans ?_
      | with_reducible refine (e3 _ _).trans ?_
      | with_reducible refine (e4 _ _ _ _).trans ?_
      | with_reducible refine without_if ?_ ?_
      | with_reducible refine (without_foldl (fun t a => ?_) _ _).trans ?_
      | simp only [r5, h]
      | (with_reducible refine without_of_snd (by assumption) ?_)
      | (with_reducible refine without_of_fst (by assumption) ?_)
      | split)

theorem State.resyncSend_without {W : List Part} (s : State) (nsid : Nat) (rs : List Nat) (h : [Part.rdp, .nss, .evc,
    .mlk, .out, .regs 13, .regs 15] ⊆ W) :
    (s.resyncSend nsid rs).without W = s.without W := by
  simp only [List.cons_subset, List.nil_subset, and_true] at h
  unfold State.resyncSend
  dsimp only
  repeat' (first | (simp only [↓resyncPump_without, ↓without_mlk, ↓without_ite, ↓without_foldl, ite_self, implies_true, List.cons_subset, List.nil_subset, and_true, and_self, true_and, h]; done) | split | (refine (without_foldl (fun s a => ?_) _ _).trans ?_) | simp only [↓resyncPump_without, ↓without_mlk, ↓without_ite, ↓without_foldl, ite_self, implies_true, List.cons_subset, List.nil_subset, and_true, and_self, true_and, h])

theorem State.resyncFrame_without {W : List Part} (s : State) (h : [Part.rdp, .nss, .evc, .mlk, .out, .regs 13,
    .regs 15] ⊆ W) :
    (s.resyncFrame).without W = s.without W := by
  simp only [List.cons_subset, List.nil_subset, and_true] at h
  simp only [State.resyncFrame, ↓resyncPump_without, ↓without_mlk, ↓without_ite, ↓without_foldl, ite_self,
      implies_true, List.cons_subset, List.nil_subset, and_true, and_self, true_and, h]

theorem State.resyncAlone_without {W : List Part} (s : State) (nsid : Nat) (h : [Part.rdp, .nss, .evc, .mlk, .out,
    .regs 13, .regs 15] ⊆ W) :
    (s.resyncAlone nsid).without W = s.without W := by
  simp only [List.cons_subset, List.nil_subset, and_true] at h
  simp only [State.resyncAlone, ↓State.sendNsSync_without, ↓State.sendChangeMap_without, ↓State.resyncSend_without,
      ↓State.updNs_without, ↓without_ite, ↓without_foldl, ite_self, implies_true, List.cons_subset, List.nil_subset,
      and_true, and_self, true_and, h]

theorem State.endSession_without {W : List Part} (s : State) (h : [Part.nss, .evc, .mlk, .regs 13, .regs 15] ⊆ W) :
    (s.endSession).without W = s.without W := by
  simp only [List.cons_subset, List.nil_subset, and_true] at h
  simp only [State.endSession, ↓State.showSpill_without, ↓State.markRegions_without, ↓without_mlk, ↓without_ite,
      ↓without_foldl, ite_self, implies_true, List.cons_subset, List.nil_subset, and_true, and_self, true_and, h]

theorem State.unprotectAll_without {W : List Part} (s : State) (h : [Part.nss] ⊆ W) :
    (s.unprotectAll).without W = s.without W := by
  simp only [List.cons_subset, List.nil_subset, and_true] at h
  simp only [State.unprotectAll, ↓State.unprotect_without, ↓without_ite, ↓without_foldl, ite_self, implies_true,
      List.cons_subset, List.nil_subset, and_true, and_self, true_and, h]

theorem State.dropCreates_without {W : List Part} (s : State) (h : [Part.cmds, .nss] ⊆ W) :
    (s.dropCreates).without W = s.without W := by
  simp only [List.cons_subset, List.nil_subset, and_true] at h
  unfold State.dropCreates
  refine without_foldl (fun t e => ?_) _ _
  split
  · rw [State.finish_without _ _ _ _ _ (by simp only [List.cons_subset, List.nil_subset, and_true, h]), State.updNs_without _ _ _ (by simp only [List.cons_subset, List.nil_subset, and_true, h])]
  · rfl

theorem State.setPartnerLost_without {W : List Part} (s : State) (b : Bool) (h : [Part.prx, .rdp, .evc, .mlk, .out,
    .regs 5, .regs 13, .regs 15] ⊆ W) :
    (s.setPartnerLost b).without W = s.without W := by
  simp only [List.cons_subset, List.nil_subset, and_true] at h
  simp only [State.setPartnerLost, ↓State.conditions_without, ↓State.setBit_without, Reg.prxStatus, Nat.reduceDiv,
      ↓without_ite, ↓without_foldl, ite_self, implies_true, List.cons_subset, List.nil_subset, and_true, and_self,
      true_and, h]

theorem State.declareLost_without {W : List Part} (s : State) (cause : Nat) (h : [Part.prx, .cmds, .mch, .rdp, .wrp,
    .mcr, .nss, .fns, .hpt, .mig, .aens, .errs, .evc, .mlk, .log, .out, .regs 2, .regs 5, .regs 7, .regs 8, .regs 13,
    .regs 15, .regs 20] ⊆ W) :
    (s.declareLost cause).without W = s.without W := by
  simp only [List.cons_subset, List.nil_subset, and_true] at h
  simp only [State.declareLost, ↓State.driveFence_without, ↓State.asyncEvent_without, ↓State.countErr_without,
      ↓State.setField_without, ↓State.migFail_without, ↓State.unprotectAll_without, ↓State.showAround_without,
      ↓State.noteHeld_without, ↓State.aroundsFallBack_without, ↓State.dropCreates_without, ↓State.raise_without,
      ↓State.setPairState_without, ↓State.setPartnerLost_without, ↓State.endSession_without, ↓without_mlk,
      Reg.mlkPartnerLostCnt, Reg.mlkPairState, Reg.mlkEvent, Nat.reduceDiv, ↓without_ite, ↓without_foldl, ite_self,
      implies_true, List.cons_subset, List.nil_subset, and_true, and_self, true_and, h]

theorem State.unsupersede_without {W : List Part} (s : State) (gone : List SWrite) (h : [Part.wrp] ⊆ W) :
    (s.unsupersede gone).without W = s.without W := by
  simp only [List.cons_subset, List.nil_subset, and_true] at h
  simp only [State.unsupersede, ↓without_wrp, ↓without_ite, ↓without_foldl, ite_self, implies_true, List.cons_subset,
      List.nil_subset, and_true, and_self, true_and, h]

theorem State.failHeld_without {W : List Part} (s : State) (h : [Part.prx, .cmds, .rdp, .wrp, .mcr, .evc, .regs 7,
    .regs 8, .regs 9, .regs 15] ⊆ W) :
    (s.failHeld).without W = s.without W := by
  simp only [List.cons_subset, List.nil_subset, and_true] at h
  simp only [State.failHeld, ↓State.unsupersede_without, ↓State.failCmd_without, ↓State.purge_without,
      ↓State.retryHeld_without, ↓without_ite, ↓without_foldl, ite_self, implies_true, List.cons_subset,
      List.nil_subset, and_true, and_self, true_and, h]

theorem State.settleRole_without {W : List Part} (s : State) (h : [Part.prx, .cmds, .rdp, .wrp, .mcr, .evc, .mlk, .out,
    .regs 7, .regs 8, .regs 9, .regs 13, .regs 15] ⊆ W) :
    (s.settleRole).without W = s.without W := by
  simp only [List.cons_subset, List.nil_subset, and_true] at h
  simp only [State.settleRole, ↓State.settle_without, ↓State.failHeld_without, ↓without_wrp, ↓without_ite,
      ↓without_foldl, ite_self, implies_true, List.cons_subset, List.nil_subset, and_true, and_self, true_and, h]

theorem State.roleEdge_without {W : List Part} (s : State) (h : [Part.prx, .cmds, .rdp, .wrp, .mcr, .evc, .mlk, .log,
    .out, .regs 7, .regs 8, .regs 9, .regs 13, .regs 15, .regs 20] ⊆ W) :
    (s.roleEdge).without W = s.without W := by
  simp only [List.cons_subset, List.nil_subset, and_true] at h
  unfold State.roleEdge
  (repeat' split) <;> simp only [↓State.raiseLog_without, ↓State.driveFence_without, ↓State.countErr_without,
      ↓State.settleRole_without, ↓State.setRole_without, ↓State.raise_without, ↓without_mlk, Reg.mlkSplitCnt,
      Reg.mlkEvent, Nat.reduceDiv, ↓without_ite, ↓without_foldl, ite_self, implies_true, List.cons_subset,
      List.nil_subset, and_true, and_self, true_and, h]

theorem State.fenceIn_without {W : List Part} (s : State) (h : [Part.prx, .cmds, .mch, .rdp, .wrp, .mcr, .nss, .fns,
    .hpt, .mig, .aens, .errs, .evc, .mlk, .log, .out, .regs 2, .regs 5, .regs 7, .regs 8, .regs 13, .regs 15,
    .regs 20] ⊆ W) :
    (s.fenceIn).without W = s.without W := by
  simp only [List.cons_subset, List.nil_subset, and_true] at h
  simp only [State.fenceIn, ↓State.setBit_without, ↓State.declareLost_without, ↓without_mlk, Reg.mlkStatus,
      Nat.reduceDiv, ↓without_ite, ↓without_foldl, ite_self, implies_true, List.cons_subset, List.nil_subset, and_true,
      and_self, true_and, h]

theorem State.beginResync_without {W : List Part} (s : State) (i : InitFlit) (h : [Part.prx, .rdp, .nss, .evc, .mlk,
    .out, .regs 13, .regs 15] ⊆ W) :
    (s.beginResync i).without W = s.without W := by
  simp only [List.cons_subset, List.nil_subset, and_true] at h
  simp only [State.beginResync, ↓State.sendNsSync_without, ↓State.setField_without, ↓State.proposeJoin_without,
      ↓State.sendChangeMap_without, ↓State.beginSession_without, ↓State.updNs_without, ↓State.setPairState_without,
      ↓State.sendKcv_without, ↓State.markFull_without, ↓State.unprotect_without, Reg.mlkPairState, Nat.reduceDiv,
      ↓without_ite, ↓without_foldl, ite_self, implies_true, List.cons_subset, List.nil_subset, and_true, and_self,
      true_and, h]

theorem State.join_without {W : List Part} (s : State) (h : [Part.prx, .rdp, .nss, .evc, .mlk, .log, .out, .regs 13,
    .regs 15, .regs 20] ⊆ W) :
    (s.join).without W = s.without W := by
  simp only [List.cons_subset, List.nil_subset, and_true] at h
  unfold State.join
  (repeat' split) <;> simp only [↓State.countErr_without, ↓State.setField_without, ↓State.raise_without,
      ↓State.beginResync_without, ↓State.setPairState_without, Reg.mlkPairState, Reg.mlkJoinRefusedCnt, Reg.mlkEvent,
      Nat.reduceDiv, ↓without_ite, ↓without_foldl, ite_self, implies_true, List.cons_subset, List.nil_subset, and_true,
      and_self, true_and, h]

theorem State.rejoin_without {W : List Part} (s : State) (byCmd : Bool) (h : [Part.prx, .rdp, .nss, .evc, .mlk, .log,
    .out, .regs 13, .regs 15, .regs 20] ⊆ W) :
    (s.rejoin byCmd).without W = s.without W := by
  simp only [List.cons_subset, List.nil_subset, and_true] at h
  simp only [State.rejoin, ↓State.join_without, Reg.mlkPairState, Reg.mlkCtl, Nat.reduceDiv, ↓without_ite,
      ↓without_foldl, ite_self, implies_true, List.cons_subset, List.nil_subset, and_true, and_self, true_and, h]

theorem State.changeMap_without {W : List Part} (s : State) (nsid : Nat) (rs : List Nat) (h : [Part.rdp, .nss, .evc,
    .mlk, .log, .out, .regs 13, .regs 15, .regs 20] ⊆ W) :
    (s.changeMap nsid rs).without W = s.without W := by
  simp only [List.cons_subset, List.nil_subset, and_true] at h
  simp only [State.changeMap, ↓State.raiseLog_without, ↓State.resyncSend_without, ↓State.updNs_without, Reg.mlkStatus,
      Reg.mlkEvent, Nat.reduceDiv, ↓without_ite, ↓without_foldl, ite_self, implies_true, List.cons_subset,
      List.nil_subset, and_true, and_self, true_and, h]

theorem State.resyncDone_without {W : List Part} (s : State) (nsid : Nat) (h : [Part.rdp, .nss, .evc, .mlk, .out,
    .regs 13, .regs 15] ⊆ W) :
    (s.resyncDone nsid).without W = s.without W := by
  simp only [List.cons_subset, List.nil_subset, and_true] at h
  simp only [State.resyncDone, ↓State.proposeJoin_without, ↓State.protect_without, ↓State.updNs_without,
      ↓State.send_without, ↓without_ite, ↓without_foldl, ite_self, implies_true, List.cons_subset, List.nil_subset,
      and_true, and_self, true_and, h]

theorem State.restartTimers_without {W : List Part} (s : State) (h : [Part.mlk] ⊆ W) :
    (s.restartTimers).without W = s.without W := by
  simp only [List.cons_subset, List.nil_subset, and_true] at h
  simp only [State.restartTimers, ↓without_mlk, ↓without_ite, ↓without_foldl, ite_self, implies_true, List.cons_subset,
      List.nil_subset, and_true, and_self, true_and, h]

theorem State.enterJoined_without {W : List Part} (s : State) (h : [Part.prx, .cmds, .rdp, .wrp, .nss, .evc, .mlk,
    .out, .regs 5, .regs 7, .regs 8, .regs 13, .regs 15] ⊆ W) :
    (s.enterJoined).without W = s.without W := by
  simp only [List.cons_subset, List.nil_subset, and_true] at h
  unfold State.enterJoined
  (repeat' split) <;> simp only [↓State.driveFence_without, ↓State.setBit_without, ↓State.showAround_without,
      ↓State.setRole_without, ↓State.settle_without, ↓State.updNs_without, ↓State.raise_without,
      ↓State.setPairState_without, ↓State.setPartnerLost_without, ↓State.restartTimers_without, ↓without_mlk,
      Reg.mlkStatus, Reg.mlkEvent, Nat.reduceDiv, ↓without_ite, ↓without_foldl, ite_self, implies_true,
      List.cons_subset, List.nil_subset, and_true, and_self, true_and, h]

theorem State.linkCameUp_without {W : List Part} (s : State) (i : InitFlit) (h : [Part.evc, .mlk, .regs 13,
    .regs 15] ⊆ W) :
    (s.linkCameUp i).without W = s.without W := by
  simp only [List.cons_subset, List.nil_subset, and_true] at h
  simp only [State.linkCameUp, ↓State.setBit_without, ↓State.raise_without, ↓State.when_without, ↓without_mlk,
      Reg.mlkStatus, Reg.mlkEvent, Nat.reduceDiv, ↓without_ite, ↓without_foldl, ite_self, implies_true,
      List.cons_subset, List.nil_subset, and_true, and_self, true_and, h]

theorem State.goDown_without {W : List Part} (s : State) (h : [Part.prx, .cmds, .mch, .rdp, .wrp, .mcr, .nss, .fns,
    .errs, .evc, .mlk, .log, .out, .regs 7, .regs 8, .regs 13, .regs 15, .regs 20] ⊆ W) :
    (s.goDown).without W = s.without W := by
  simp only [List.cons_subset, List.nil_subset, and_true] at h
  simp only [State.goDown, ↓State.countErr_without, ↓State.setField_without, ↓State.setBit_without,
      ↓State.showAround_without, ↓State.settle_without, ↓State.noteHeld_without, ↓State.aroundsFallBack_without,
      ↓State.raise_without, ↓State.setPairState_without, ↓State.endSession_without, ↓State.unprotect_without,
      ↓without_mlk, Reg.mlkStatus, Reg.mlkLinkDownCnt, Reg.mlkEvent, Nat.reduceDiv, ↓without_ite, ↓without_foldl,
      ite_self, implies_true, List.cons_subset, List.nil_subset, and_true, and_self, true_and, h]

theorem State.linkDown_without {W : List Part} (s : State) (h : [Part.prx, .cmds, .mch, .rdp, .wrp, .mcr, .nss, .fns,
    .errs, .evc, .mlk, .log, .out, .regs 7, .regs 8, .regs 13, .regs 15, .regs 20] ⊆ W) :
    (s.linkDown).without W = s.without W := by
  simp only [List.cons_subset, List.nil_subset, and_true] at h
  simp only [State.linkDown, ↓State.goDown_without, ↓without_ite, ↓without_foldl, ite_self, implies_true,
      List.cons_subset, List.nil_subset, and_true, and_self, true_and, h]

theorem State.initRx_without {W : List Part} (s : State) (i : InitFlit) (h : [Part.prx, .cmds, .mch, .rdp, .wrp, .mcr,
    .nss, .fns, .hpt, .mig, .aens, .errs, .evc, .mlk, .log, .out, .regs 2, .regs 4, .regs 5, .regs 7, .regs 8, .regs 9,
    .regs 13, .regs 15, .regs 20] ⊆ W) :
    (s.initRx i).without W = s.without W := by
  simp only [List.cons_subset, List.nil_subset, and_true] at h
  simp only [State.initRx, ↓State.ackTo_without, ↓State.linkDown_without, ↓State.pump_without, ↓State.goDown_without,
      ↓State.setNum_without, ↓State.join_without, ↓State.unprotectAll_without, ↓State.showAround_without,
      ↓State.settleRole_without, ↓State.settle_without, ↓State.replayAll_without, ↓State.linkCameUp_without,
      ↓State.setPairState_without, ↓State.declareLost_without, ↓State.when_without, ↓State.restartTimers_without,
      ↓State.endSession_without, ↓without_mlk, Reg.ftbLinkDelay, Reg.mlkPartnerSerialLo, Reg.mlkPartnerSerialHi,
      Reg.mlkCtl, Nat.reduceDiv, ↓without_ite, ↓without_foldl, ite_self, implies_true, List.cons_subset,
      List.nil_subset, and_true, and_self, true_and, h]

theorem State.graceExpiry_without {W : List Part} (s : State) (h : [Part.prx, .cmds, .mch, .rdp, .wrp, .mcr, .nss,
    .fns, .hpt, .mig, .aens, .errs, .evc, .mlk, .log, .out, .regs 2, .regs 5, .regs 7, .regs 8, .regs 13, .regs 15,
    .regs 20] ⊆ W) :
    (s.graceExpiry).without W = s.without W := by
  simp only [List.cons_subset, List.nil_subset, and_true] at h
  simp only [State.graceExpiry, ↓State.declareLost_without, ↓without_ite, ↓without_foldl, ite_self, implies_true,
      List.cons_subset, List.nil_subset, and_true, and_self, true_and, h]

theorem State.mackFailed_without {W : List Part} (s : State) (m : Mirrored) (h : [Part.cmds, .rdp, .wrp, .nss, .evc,
    .mlk, .out, .regs 8, .regs 13, .regs 15] ⊆ W) :
    (s.mackFailed m).without W = s.without W := by
  simp only [List.cons_subset, List.nil_subset, and_true] at h
  simp only [State.mackFailed, ↓State.markRegions_without, ↓State.settle_without, ↓State.resyncAlone_without,
      ↓State.unprotect_without, ↓without_ite, ↓without_foldl, ite_self, implies_true, List.cons_subset,
      List.nil_subset, and_true, and_self, true_and, h]

theorem State.unsend_without {W : List Part} (s : State) (q : Nat) (h : [Part.mlk] ⊆ W) :
    (s.unsend q).without W = s.without W := by
  simp only [List.cons_subset, List.nil_subset, and_true] at h
  simp only [State.unsend, ↓without_mlk, ↓without_ite, ↓without_foldl, ite_self, implies_true, List.cons_subset,
      List.nil_subset, and_true, and_self, true_and, h]

theorem State.mack_without {W : List Part} (s : State) (q status : Nat) (h : [Part.cmds, .rdp, .wrp, .nss, .evc, .mlk,
    .out, .regs 8, .regs 13, .regs 15] ⊆ W) :
    (s.mack q status).without W = s.without W := by
  simp only [List.cons_subset, List.nil_subset, and_true] at h
  unfold State.mack
  (repeat' split) <;> simp only [↓State.resyncSent_without, ↓State.proposeJoin_without, ↓State.mackFailed_without,
      ↓State.settle_without, ↓State.unsend_without, ↓without_ite, ↓without_foldl, ite_self, implies_true,
      List.cons_subset, List.nil_subset, and_true, and_self, true_and, h]

theorem State.mackTimeout_without {W : List Part} (s : State) (q : Nat) (h : [Part.cmds, .rdp, .wrp, .nss, .evc, .mlk,
    .out, .regs 8, .regs 13, .regs 15] ⊆ W) :
    (s.mackTimeout q).without W = s.without W := by
  simp only [List.cons_subset, List.nil_subset, and_true] at h
  unfold State.mackTimeout
  (repeat' split) <;> simp only [↓State.mackFailed_without, ↓State.unsend_without, ↓without_ite, ↓without_foldl,
      ite_self, implies_true, List.cons_subset, List.nil_subset, and_true, and_self, true_and, h]

theorem State.badMirror_without {W : List Part} (s : State) (q : Nat) (h : [Part.rdp, .evc, .mlk, .log, .out, .regs 13,
    .regs 15, .regs 20] ⊆ W) :
    (s.badMirror q).without W = s.without W := by
  simp only [List.cons_subset, List.nil_subset, and_true] at h
  simp only [State.badMirror, ↓State.countErr_without, ↓State.send_without, Reg.mlkBadMsgCnt, Nat.reduceDiv,
      ↓without_ite, ↓without_foldl, ite_self, implies_true, List.cons_subset, List.nil_subset, and_true, and_self,
      true_and, h]

theorem State.applyMwrite_without {W : List Part} (s : State) (m : MWrite) (h : [Part.cmds, .rdp, .wrp, .mcr, .nss,
    .evc, .mlk, .out, .regs 8, .regs 13, .regs 15] ⊆ W) :
    (s.applyMwrite m).without W = s.without W := by
  simp only [List.cons_subset, List.nil_subset, and_true] at h
  simp only [State.applyMwrite, ↓State.settle_without, ↓State.addWrite_without, ↓State.took_without,
      ↓State.becomeStaged_without, ↓without_ite, ↓without_foldl, ite_self, implies_true, List.cons_subset,
      List.nil_subset, and_true, and_self, true_and, h]

theorem State.applyMmap_without {W : List Part} (s : State) (m : MMap) (h : [Part.mch, .rdp, .wrp, .nss, .evc, .mlk,
    .out, .regs 8, .regs 13, .regs 15] ⊆ W) :
    (s.applyMmap m).without W = s.without W := by
  simp only [List.cons_subset, List.nil_subset, and_true] at h
  simp only [State.applyMmap, ↓State.took_without, ↓State.zeroRun_without, ↓State.unmapRun_without,
      ↓State.send_without, ↓without_ite, ↓without_foldl, ite_self, implies_true, List.cons_subset, List.nil_subset,
      and_true, and_self, true_and, h]

theorem State.applyMerase_without {W : List Part} (s : State) (nsid q : Nat) (h : [Part.prx, .cmds, .mch, .rdp, .wrp,
    .mcr, .nss, .evc, .mlk, .keys, .out, .draw, .regs 7, .regs 8, .regs 9, .regs 10, .regs 12, .regs 13,
    .regs 15] ⊆ W) :
    (s.applyMerase nsid q).without W = s.without W := by
  simp only [List.cons_subset, List.nil_subset, and_true] at h
  simp only [State.applyMerase, ↓State.took_without, ↓State.cryptoErase_without, ↓State.send_without, ↓without_ite,
      ↓without_foldl, ite_self, implies_true, List.cons_subset, List.nil_subset, and_true, and_self, true_and, h]

theorem State.applyMirror_without {W : List Part} (s : State) (i : InMirror) (t : State) (h : [Part.prx, .cmds, .mch,
    .rdp, .wrp, .mcr, .nss, .evc, .mlk, .keys, .out, .draw, .regs 7, .regs 8, .regs 9, .regs 10, .regs 12, .regs 13,
    .regs 15] ⊆ W)
    (e : s.applyMirror i = some t) : t.without W = s.without W := by
  simp only [List.cons_subset, List.nil_subset, and_true] at h
  have e0 := fun (s : State) (m : MMap) => State.applyMmap_without (W := W) s m (by simp only [List.cons_subset, List.nil_subset, and_true, Nat.reduceDiv, h])
  have e1 := fun (s : State) (m : MWrite) => State.applyMwrite_without (W := W) s m (by simp only [List.cons_subset, List.nil_subset, and_true, Nat.reduceDiv, h])
  have e2 := fun (s : State) (nsid q : Nat) => State.applyMerase_without (W := W) s nsid q (by simp only [List.cons_subset, List.nil_subset, and_true, Nat.reduceDiv, h])
  unfold State.applyMirror at e
  try dsimp only at e
  (repeat' split at e) <;> first | (simp only [reduceCtorEq] at e; done) | (cases e; repeat' (first
      | with_reducible rfl
      | with_reducible refine (e0 _ _).trans ?_
      | with_reducible refine (e1 _ _).trans ?_
      | with_reducible refine (e2 _ _ _).trans ?_))

theorem drainInbound_without {W : List Part} (n : Nat) (s : State) (h : [Part.prx, .cmds, .mch, .rdp, .wrp, .mcr, .nss,
    .evc, .mlk, .keys, .out, .draw, .regs 7, .regs 8, .regs 9, .regs 10, .regs 12, .regs 13, .regs 15] ⊆ W) :
    (drainInbound n s).without W = s.without W := by
  simp only [List.cons_subset, List.nil_subset, and_true] at h
  induction n generalizing s with
  | zero => rfl
  | succ n ih =>
    have e0 := fun (s : State) (i : InMirror) (w : State) => State.applyMirror_without (W := W) s i w (by simp only [List.cons_subset, List.nil_subset, and_true, Nat.reduceDiv, h])
    have r1 := fun (x0 : State) (x1 : Mlk) => without_mlk (W := W) x0 x1 (by simp only [h])
    unfold drainInbound
    repeat' (first
      | with_reducible rfl
      | with_reducible refine (ih _).trans ?_
      | with_reducible refine (e0 _ _ _ (by assumption)).trans ?_
      | with_reducible refine without_if ?_ ?_
      | with_reducible refine (without_foldl (fun t a => ?_) _ _).trans ?_
      | simp only [r1, h]
      | (with_reducible refine without_of_snd (by assumption) ?_)
      | (with_reducible refine without_of_fst (by assumption) ?_)
      | split)

theorem State.takeMirror_without {W : List Part} (s : State) (i : InMirror) (h : [Part.prx, .cmds, .mch, .rdp, .wrp,
    .mcr, .nss, .evc, .mlk, .keys, .out, .draw, .regs 7, .regs 8, .regs 9, .regs 10, .regs 12, .regs 13,
    .regs 15] ⊆ W) :
    (s.takeMirror i).without W = s.without W := by
  simp only [List.cons_subset, List.nil_subset, and_true] at h
  unfold State.takeMirror
  dsimp only
  rw [drainInbound_without _ _ (by simp only [List.cons_subset, List.nil_subset, and_true, h])]
  exact without_mlk _ _ (by simp only [h])

theorem State.mwrite_without {W : List Part} (s : State) (m : MWrite) (h : [Part.prx, .cmds, .mch, .rdp, .wrp, .mcr,
    .nss, .evc, .mlk, .log, .keys, .out, .draw, .regs 7, .regs 8, .regs 9, .regs 10, .regs 12, .regs 13, .regs 15,
    .regs 20] ⊆ W) :
    (s.mwrite m).without W = s.without W := by
  simp only [List.cons_subset, List.nil_subset, and_true] at h
  simp only [State.mwrite, ↓State.badMirror_without, ↓State.took_without, ↓State.takeMirror_without,
      ↓State.send_without, ↓without_ite, ↓without_foldl, ite_self, implies_true, List.cons_subset, List.nil_subset,
      and_true, and_self, true_and, h]

theorem State.mmap_without {W : List Part} (s : State) (m : MMap) (h : [Part.prx, .cmds, .mch, .rdp, .wrp, .mcr, .nss,
    .evc, .mlk, .log, .keys, .out, .draw, .regs 7, .regs 8, .regs 9, .regs 10, .regs 12, .regs 13, .regs 15,
    .regs 20] ⊆ W) :
    (s.mmap m).without W = s.without W := by
  simp only [List.cons_subset, List.nil_subset, and_true] at h
  simp only [State.mmap, ↓State.badMirror_without, ↓State.took_without, ↓State.takeMirror_without, ↓State.send_without,
      ↓without_ite, ↓without_foldl, ite_self, implies_true, List.cons_subset, List.nil_subset, and_true, and_self,
      true_and, h]

theorem State.merase_without {W : List Part} (s : State) (nsid q : Nat) (h : [Part.prx, .cmds, .mch, .rdp, .wrp, .mcr,
    .nss, .evc, .mlk, .keys, .out, .draw, .regs 7, .regs 8, .regs 9, .regs 10, .regs 12, .regs 13, .regs 15] ⊆ W) :
    (s.merase nsid q).without W = s.without W := by
  simp only [List.cons_subset, List.nil_subset, and_true] at h
  simp only [State.merase, ↓State.took_without, ↓State.takeMirror_without, ↓State.send_without, ↓without_ite,
      ↓without_foldl, ite_self, implies_true, List.cons_subset, List.nil_subset, and_true, and_self, true_and, h]

theorem State.nsCreated_without {W : List Part} (s : State) (nsid : Nat) (h : [Part.cmds, .rdp, .nss, .evc, .mlk, .out,
    .regs 13, .regs 15] ⊆ W) :
    (s.nsCreated nsid).without W = s.without W := by
  simp only [List.cons_subset, List.nil_subset, and_true] at h
  unfold State.nsCreated
  dsimp only
  (repeat' split) <;> simp only [↓State.sendChangeMap_without, ↓State.finish_without, ↓State.updNs_without,
      ↓State.markFull_without, ↓without_ite, ↓without_foldl, ite_self, implies_true, List.cons_subset, List.nil_subset,
      and_true, and_self, true_and, h]

theorem State.nsRefused_without {W : List Part} (s : State) (nsid status : Nat) (h : [Part.cmds, .nss] ⊆ W) :
    (s.nsRefused nsid status).without W = s.without W := by
  simp only [List.cons_subset, List.nil_subset, and_true] at h
  unfold State.nsRefused
  (repeat' split) <;> simp only [↓State.finish_without, ↓State.updNs_without, ↓without_ite, ↓without_foldl, ite_self,
      implies_true, List.cons_subset, List.nil_subset, and_true, and_self, true_and, h]

theorem State.nsCopy_without {W : List Part} (s : State) (m : NsSync) (h : [Part.rdp, .nss, .evc, .mlk, .out, .draw,
    .regs 13, .regs 15] ⊆ W) :
    (s.nsCopy m).without W = s.without W := by
  simp only [List.cons_subset, List.nil_subset, and_true] at h
  simp only [State.nsCopy, ↓State.sendNsSync_without, ↓State.sendChangeMap_without, ↓State.updNs_without,
      ↓State.refuseNsSync_without, ↓State.drawn_without, ↓without_ite, ↓without_foldl, ite_self, implies_true,
      List.cons_subset, List.nil_subset, and_true, and_self, true_and, h]

theorem State.takenOver_without {W : List Part} (s : State) (nsid : Nat) (h : [Part.cmds, .nss, .fns, .aens] ⊆ W) :
    (s.takenOver nsid).without W = s.without W := by
  simp only [List.cons_subset, List.nil_subset, and_true] at h
  unfold State.takenOver
  (repeat' split) <;> simp only [↓State.updNs_without, ↓State.nsNotice_without, ↓without_ite, ↓without_foldl, ite_self,
      implies_true, List.cons_subset, List.nil_subset, and_true, and_self, true_and, h]

theorem State.nsSync_without {W : List Part} (s : State) (m : NsSync) (h : [Part.prx, .cmds, .mch, .rdp, .wrp, .mcr,
    .nss, .fns, .aens, .evc, .mlk, .log, .keys, .out, .draw, .regs 7, .regs 8, .regs 9, .regs 10, .regs 12, .regs 13,
    .regs 15, .regs 20] ⊆ W) :
    (s.nsSync m).without W = s.without W := by
  simp only [List.cons_subset, List.nil_subset, and_true] at h
  simp only [State.nsSync, ↓State.countErr_without, ↓State.nsRefused_without, ↓State.takenOver_without,
      ↓State.updNs_without, ↓State.cryptoErase_without, ↓State.nsCreated_without, ↓State.nsCopy_without,
      ↓without_nss_mlk, Reg.mlkBadMsgCnt, Nat.reduceDiv, ↓without_ite, ↓without_foldl, ite_self, implies_true,
      List.cons_subset, List.nil_subset, and_true, and_self, true_and, h]

theorem State.blobRx_without {W : List Part} (s : State) (vf : Nat) (bytes : List Byte) (h : [Part.rdp, .evc, .mlk,
    .out, .regs 13, .regs 15] ⊆ W) :
    (s.blobRx vf bytes).without W = s.without W := by
  simp only [List.cons_subset, List.nil_subset, and_true] at h
  unfold State.blobRx
  dsimp only
  (repeat' split) <;> simp only [↓State.took_without, ↓State.raise_without, ↓State.send_without, ↓without_mlk,
      Reg.mlkEvent, Nat.reduceDiv, ↓without_ite, ↓without_foldl, ite_self, implies_true, List.cons_subset,
      List.nil_subset, and_true, and_self, true_and, h]

theorem State.freeBlobBuf_without {W : List Part} (s : State) (b : Nat) (h : [Part.mlk] ⊆ W) :
    (s.freeBlobBuf b).without W = s.without W := by
  simp only [List.cons_subset, List.nil_subset, and_true] at h
  simp only [State.freeBlobBuf, ↓without_mlk, ↓without_ite, ↓without_foldl, ite_self, implies_true, List.cons_subset,
      List.nil_subset, and_true, and_self, true_and, h]

theorem State.repairReq_without {W : List Part} (s : State) (nsid index part : Nat) (recovered : Bool) (h : [Part.rdp,
    .evc, .mlk, .out, .regs 13, .regs 15] ⊆ W) :
    (s.repairReq nsid index part recovered).without W = s.without W := by
  simp only [List.cons_subset, List.nil_subset, and_true] at h
  simp only [State.repairReq, ↓State.mirror_without, ↓without_ite, ↓without_foldl, ite_self, implies_true,
      List.cons_subset, List.nil_subset, and_true, and_self, true_and, h]

theorem State.kcv_without {W : List Part} (s : State) (nsid : Nat) (v : BitVec 64) (h : [Part.rdp, .nss, .evc, .mlk,
    .out, .regs 10, .regs 13, .regs 15] ⊆ W) :
    (s.kcv nsid v).without W = s.without W := by
  simp only [List.cons_subset, List.nil_subset, and_true] at h
  simp only [State.kcv, ↓State.compareKcv_without, ↓State.resyncAlone_without, ↓without_mlk, ↓without_ite,
      ↓without_foldl, ite_self, implies_true, List.cons_subset, List.nil_subset, and_true, and_self, true_and, h]

theorem State.clearingFrameRx_without {W : List Part} (s : State) (frame : Nat) (h : [Part.prx, .rdp, .evc, .mlk, .out,
    .regs 5, .regs 13, .regs 15] ⊆ W) :
    (s.clearingFrameRx frame).without W = s.without W := by
  simp only [List.cons_subset, List.nil_subset, and_true] at h
  simp only [State.clearingFrameRx, ↓State.clearingFrame_without, ↓without_mlk, ↓without_ite, ↓without_foldl, ite_self,
      implies_true, List.cons_subset, List.nil_subset, and_true, and_self, true_and, h]

end Sys2Proof.Machine
end

