-- ==== Sys2Proof/Laws/KeepErase.lean ====
section
/-! SUPPORT. Which parts of the state the operations of Machine/Erase.lean may change: every other part stays. -/
set_option linter.unusedSimpArgs false
set_option linter.unusedVariables false
namespace Sys2Proof.Machine


theorem State.adminCmd_without {W : List Part} (s : State) (q : Sqe) (pf0 : Bool) (f : State → State) (h : [Part.cmds,
    .fns, .hpt, .out, .regs 1, .regs 3] ⊆ W) (hf : ∀ t, (f t).without W = t.without W) :
    (s.adminCmd q pf0 f).without W = s.without W := by
  simp only [List.cons_subset, List.nil_subset, and_true] at h
  have e0 := fun (s : State) (q : Sqe) (admin : Bool) (f : Cmd → State → State) => State.fetchCmd_without (W := W) s q admin f (by simp only [List.cons_subset, List.nil_subset, and_true, Nat.reduceDiv, h])
  have e1 := fun (s : State) (c : CmdId) (status : Nat) (dw0 : Word) (dnr : Bool) => State.finish_without (W := W) s c status dw0 dnr (by simp only [List.cons_subset, List.nil_subset, and_true, Nat.reduceDiv, h])
  unfold State.adminCmd
  repeat' (first
    | with_reducible rfl
    | with_reducible refine (hf _).trans ?_
    | with_reducible refine (e0 _ _ _ _ (fun c t => ?_)).trans ?_
    | with_reducible refine (e1 _ _ _ _ _).trans ?_
    | with_reducible refine without_if ?_ ?_)

theorem State.adminData_without {W : List Part} (s : State) (q : Sqe) (deliver : Bool) (len : Nat) (outs : List Out)
    (h : [Part.fns, .hpt, .lpb, .out, .regs 1, .regs 3, .regs 11, .regs 19] ⊆ W) :
    (s.adminData q deliver len outs).without W = s.without W := by
  simp only [List.cons_subset, List.nil_subset, and_true] at h
  simp only [State.adminData, ↓State.internal_without, ↓State.internalRead_without, ↓without_ite, ↓without_foldl,
      ite_self, implies_true, List.cons_subset, List.nil_subset, and_true, and_self, true_and, h]

theorem State.eraseSettle_without {W : List Part} (s : State) (c : CmdId) (h : [Part.cmds] ⊆ W) :
    (s.eraseSettle c).without W = s.without W := by
  simp only [List.cons_subset, List.nil_subset, and_true] at h
  simp only [State.eraseSettle, ↓State.finish_without, ↓without_ite, ↓without_foldl, ite_self, implies_true,
      List.cons_subset, List.nil_subset, and_true, and_self, true_and, h]

theorem State.markErase_without {W : List Part} (s : State) (nss : List Nat) (f : Ns → Ns) (h : [Part.nss] ⊆ W) :
    (s.markErase nss f).without W = s.without W := by
  simp only [List.cons_subset, List.nil_subset, and_true] at h
  simp only [State.markErase, ↓State.updNs_without, ↓without_ite, ↓without_foldl, ite_self, implies_true,
      List.cons_subset, List.nil_subset, and_true, and_self, true_and, h]

theorem State.sanitizeSettle_without {W : List Part} (s : State) (f : Nat) (h : [Part.fns] ⊆ W) :
    (s.sanitizeSettle f).without W = s.without W := by
  simp only [List.cons_subset, List.nil_subset, and_true] at h
  simp only [State.sanitizeSettle, ↓State.updFn_without, ↓without_ite, ↓without_foldl, ite_self, implies_true,
      List.cons_subset, List.nil_subset, and_true, and_self, true_and, h]

theorem State.eraseProceed_without {W : List Part} (s : State) (nsid : Nat) (h : [Part.prx, .tenants, .cmds, .mch,
    .rdp, .wrp, .mcr, .nss, .fns, .hpt, .evc, .mlk, .log, .keys, .out, .draw, .regs 3, .regs 7, .regs 8, .regs 9,
    .regs 10, .regs 12, .regs 13, .regs 15, .regs 20] ⊆ W) :
    (s.eraseProceed nsid).without W = s.without W := by
  simp only [List.cons_subset, List.nil_subset, and_true] at h
  unfold State.eraseProceed
  dsimp only
  (repeat' split) <;> simp only [↓State.sendNsSync_without, ↓State.sanitizeSettle_without, ↓State.eraseSettle_without,
      ↓State.updNs_without, ↓State.cryptoErase_without, ↓State.mirror_without, ↓State.serveIo_without,
      ↓without_nss_keys, ↓without_ite, ↓without_foldl, ite_self, implies_true, List.cons_subset, List.nil_subset,
      and_true, and_self, true_and, h]

theorem State.formatCmd_without {W : List Part} (s : State) (q : Sqe) (h : [Part.cmds, .nss, .fns, .hpt, .out, .regs 1,
    .regs 3] ⊆ W) :
    (s.formatCmd q).without W = s.without W := by
  simp only [List.cons_subset, List.nil_subset, and_true] at h
  simp only [State.formatCmd, ↓State.markErase_without, ↓State.eraseSettle_without, ↓State.finish_without,
      ↓State.adminCmd_without, ↓without_ite, ↓without_foldl, ite_self, implies_true, List.cons_subset, List.nil_subset,
      and_true, and_self, true_and, h]

theorem State.sanitizeCmd_without {W : List Part} (s : State) (q : Sqe) (h : [Part.cmds, .nss, .fns, .hpt, .out,
    .regs 1, .regs 3] ⊆ W) :
    (s.sanitizeCmd q).without W = s.without W := by
  simp only [List.cons_subset, List.nil_subset, and_true] at h
  simp only [State.sanitizeCmd, ↓State.sanitizeSettle_without, ↓State.updFn_without, ↓State.markErase_without,
      ↓State.finish_without, ↓State.adminCmd_without, ↓without_ite, ↓without_foldl, ite_self, implies_true,
      List.cons_subset, List.nil_subset, and_true, and_self, true_and, h]

theorem State.nsCreate_without {W : List Part} (s : State) (q : Sqe) (d : NsCreate) (h : [Part.cmds, .rdp, .nss, .fns,
    .hpt, .evc, .mlk, .keys, .lpb, .out, .draw, .regs 1, .regs 3, .regs 11, .regs 13, .regs 15, .regs 19] ⊆ W) :
    (s.nsCreate q d).without W = s.without W := by
  simp only [List.cons_subset, List.nil_subset, and_true] at h
  unfold State.nsCreate
  refine State.adminCmd_without _ _ _ _ (by simp only [List.cons_subset, List.nil_subset, and_true, h]) fun t => ?_
  dsimp only
  repeat' (first | (simp only [↓State.sendNsSync_without, ↓State.finish_without, ↓State.updNs_without, ↓State.adminData_without, ↓State.drawn_without, ↓State.adminCmd_without, ↓without_keys, ↓without_ite, ↓without_foldl, ite_self, implies_true, List.cons_subset, List.nil_subset, and_true, and_self, true_and, h]; done) | split)

theorem State.detachDone_without {W : List Part} (s : State) (nsid : Nat) (h : [Part.cmds, .rdp, .nss, .fns, .aens,
    .evc, .mlk, .out, .regs 13, .regs 15] ⊆ W) :
    (s.detachDone nsid).without W = s.without W := by
  simp only [List.cons_subset, List.nil_subset, and_true] at h
  unfold State.detachDone
  dsimp only
  (repeat' split) <;> simp only [↓State.sendNsSync_without, ↓State.sanitizeSettle_without, ↓State.finish_without,
      ↓State.updNs_without, ↓State.nsNotice_without, ↓without_ite, ↓without_foldl, ite_self, implies_true,
      List.cons_subset, List.nil_subset, and_true, and_self, true_and, h]

theorem State.nsDelete_without {W : List Part} (s : State) (q : Sqe) (h : [Part.cmds, .rdp, .nss, .fns, .hpt, .aens,
    .evc, .mlk, .out, .regs 1, .regs 3, .regs 13, .regs 15] ⊆ W) :
    (s.nsDelete q).without W = s.without W := by
  simp only [List.cons_subset, List.nil_subset, and_true] at h
  unfold State.nsDelete
  refine State.adminCmd_without _ _ _ _ (by simp only [List.cons_subset, List.nil_subset, and_true, h]) fun t => ?_
  dsimp only
  repeat' (first | (simp only [↓State.detachDone_without, ↓State.markErase_without, ↓State.eraseSettle_without, ↓State.finish_without, ↓State.adminCmd_without, ↓without_ite, ↓without_foldl, ite_self, implies_true, List.cons_subset, List.nil_subset, and_true, and_self, true_and, h]; done) | split)

theorem State.nsAttach_without {W : List Part} (s : State) (q : Sqe) (l : List Nat) (h : [Part.cmds, .rdp, .nss, .fns,
    .hpt, .aens, .evc, .mlk, .lpb, .out, .regs 1, .regs 3, .regs 11, .regs 13, .regs 15, .regs 19] ⊆ W) :
    (s.nsAttach q l).without W = s.without W := by
  simp only [List.cons_subset, List.nil_subset, and_true] at h
  unfold State.nsAttach
  (repeat' split) <;> simp only [↓State.sendNsSync_without, ↓State.finish_without, ↓State.updNs_without,
      ↓State.adminData_without, ↓State.nsNotice_without, ↓State.adminCmd_without, ↓without_ite, ↓without_foldl,
      ite_self, implies_true, List.cons_subset, List.nil_subset, and_true, and_self, true_and, h]

theorem State.nsDetach_without {W : List Part} (s : State) (q : Sqe) (l : List Nat) (h : [Part.cmds, .rdp, .nss, .fns,
    .hpt, .aens, .evc, .mlk, .lpb, .out, .regs 1, .regs 3, .regs 11, .regs 13, .regs 15, .regs 19] ⊆ W) :
    (s.nsDetach q l).without W = s.without W := by
  simp only [List.cons_subset, List.nil_subset, and_true] at h
  unfold State.nsDetach
  (repeat' split) <;> simp only [↓State.detachDone_without, ↓State.finish_without, ↓State.updNs_without,
      ↓State.adminData_without, ↓State.adminCmd_without, ↓without_ite, ↓without_foldl, ite_self, implies_true,
      List.cons_subset, List.nil_subset, and_true, and_self, true_and, h]

end Sys2Proof.Machine
end

