-- ==== Sys2Proof/Laws/KeepFirmware.lean ====
section
/-! SUPPORT. Which parts of the state the operations of Machine/Firmware.lean may change: every other part stays. -/
set_option linter.unusedSimpArgs false
set_option linter.unusedVariables false
namespace Sys2Proof.Machine


theorem State.fwDownload_without {W : List Part} (s : State) (q : Sqe) (bytes : List Byte) (h : [Part.cmds, .fns, .hpt,
    .sec, .lpb, .out, .regs 1, .regs 3, .regs 11, .regs 19] ⊆ W) :
    (s.fwDownload q bytes).without W = s.without W := by
  simp only [List.cons_subset, List.nil_subset, and_true] at h
  simp only [State.fwDownload, ↓State.finish_without, ↓State.adminData_without, ↓State.adminCmd_without, ↓without_sec,
      ↓without_ite, ↓without_foldl, ite_self, implies_true, List.cons_subset, List.nil_subset, and_true, and_self,
      true_and, h]

theorem State.fwCommit_without {W : List Part} (s : State) (q : Sqe) (gaps : List Byte) (h : [Part.cmds, .fns, .hpt,
    .sec, .out, .regs 1, .regs 3] ⊆ W) :
    (s.fwCommit q gaps).without W = s.without W := by
  simp only [List.cons_subset, List.nil_subset, and_true] at h
  simp only [State.fwCommit, ↓State.finish_without, ↓State.adminCmd_without, ↓without_sec, Reg.secStatus,
      Nat.reduceDiv, ↓without_ite, ↓without_foldl, ite_self, implies_true, List.cons_subset, List.nil_subset, and_true,
      and_self, true_and, h]

end Sys2Proof.Machine
end

