-- ==== Sys2Proof/Laws/KeepAdmin.lean ====
section
/-! SUPPORT. Which parts of the state the operations of Machine/Admin.lean may change: every other part stays. -/
set_option linter.unusedSimpArgs false
set_option linter.unusedVariables false
namespace Sys2Proof.Machine


theorem State.logRead_without {W : List Part} (s : State) (f id sel : Nat) (lsp0 : Bool) (h : [Part.tenants, .fns,
    .draw] ⊆ W) :
    (s.logRead f id sel lsp0).without W = s.without W := by
  simp only [List.cons_subset, List.nil_subset, and_true] at h
  unfold State.logRead
  (repeat' split) <;> simp only [↓State.updFn_without, ↓State.drawn_without, ↓without_tenants, ↓without_ite,
      ↓without_foldl, ite_self, implies_true, List.cons_subset, List.nil_subset, and_true, and_self, true_and, h]

theorem State.getLog_without {W : List Part} (s : State) (q : Sqe) (h : [Part.tenants, .cmds, .fns, .hpt, .lpb, .out,
    .draw, .regs 1, .regs 3, .regs 11, .regs 19] ⊆ W) :
    (s.getLog q).without W = s.without W := by
  simp only [List.cons_subset, List.nil_subset, and_true] at h
  unfold State.getLog
  refine State.adminCmd_without _ _ _ _ (by simp only [List.cons_subset, List.nil_subset, and_true, h]) fun t => ?_
  dsimp only
  repeat' (first | (simp only [↓State.finish_without, ↓State.logRead_without, ↓State.adminData_without, ↓State.adminCmd_without, ↓without_ite, ↓without_foldl, ite_self, implies_true, List.cons_subset, List.nil_subset, and_true, and_self, true_and, h]; done) | split)

theorem State.identifyCmd_without {W : List Part} (s : State) (q : Sqe) (h : [Part.cmds, .nss, .fns, .hpt, .lpb, .out,
    .regs 1, .regs 3, .regs 11, .regs 19] ⊆ W) :
    (s.identifyCmd q).without W = s.without W := by
  simp only [List.cons_subset, List.nil_subset, and_true] at h
  unfold State.identifyCmd
  dsimp only
  (repeat' split) <;> simp only [↓State.finish_without, ↓State.adminData_without, ↓State.adminCmd_without,
      ↓without_nss, ↓without_ite, ↓without_foldl, ite_self, implies_true, List.cons_subset, List.nil_subset, and_true,
      and_self, true_and, h]

theorem State.abortCmd_without {W : List Part} (s : State) (q : Sqe) (h : [Part.prx, .cmds, .rdp, .wrp, .fns, .hpt,
    .evc, .out, .regs 1, .regs 3, .regs 7, .regs 8, .regs 15] ⊆ W) :
    (s.abortCmd q).without W = s.without W := by
  simp only [List.cons_subset, List.nil_subset, and_true] at h
  unfold State.abortCmd
  refine State.adminCmd_without _ _ _ _ (by simp only [List.cons_subset, List.nil_subset, and_true, h]) fun t => ?_
  dsimp only
  repeat' (first | (simp only [↓State.failCmd_without, ↓State.finish_without, ↓State.inc_without, ↓State.adminCmd_without, Reg.qenAbortCnt, Nat.reduceDiv, ↓without_ite, ↓without_foldl, ite_self, implies_true, List.cons_subset, List.nil_subset, and_true, and_self, true_and, h]; done) | split)

theorem State.aerCmd_without {W : List Part} (s : State) (q : Sqe) (h : [Part.cmds, .fns, .hpt, .aens, .out, .regs 1,
    .regs 3] ⊆ W) :
    (s.aerCmd q).without W = s.without W := by
  simp only [List.cons_subset, List.nil_subset, and_true] at h
  unfold State.aerCmd
  refine State.adminCmd_without _ _ _ _ (by simp only [List.cons_subset, List.nil_subset, and_true, h]) fun t => ?_
  dsimp only
  repeat' (first | (simp only [↓State.finish_without, ↓State.adminCmd_without, ↓without_aens, ↓without_ite, ↓without_foldl, ite_self, implies_true, List.cons_subset, List.nil_subset, and_true, and_self, true_and, h]; done) | split)

theorem State.setFeature_without {W : List Part} (s : State) (q : Sqe) (data : BitVec 64) (h : [Part.cmds, .fns, .hpt,
    .lpb, .out, .regs 1, .regs 3, .regs 11, .regs 19] ⊆ W) :
    (s.setFeature q data).without W = s.without W := by
  simp only [List.cons_subset, List.nil_subset, and_true] at h
  simp only [State.setFeature, ↓State.updFn_without, ↓State.finish_without, ↓State.adminData_without,
      ↓State.adminCmd_without, ↓without_ite, ↓without_foldl, ite_self, implies_true, List.cons_subset, List.nil_subset,
      and_true, and_self, true_and, h]

theorem State.getFeature_without {W : List Part} (s : State) (q : Sqe) (h : [Part.cmds, .fns, .hpt, .lpb, .out,
    .regs 1, .regs 3, .regs 11, .regs 19] ⊆ W) :
    (s.getFeature q).without W = s.without W := by
  simp only [List.cons_subset, List.nil_subset, and_true] at h
  simp only [State.getFeature, ↓State.finish_without, ↓State.adminData_without, ↓State.adminCmd_without, ↓without_ite,
      ↓without_foldl, ite_self, implies_true, List.cons_subset, List.nil_subset, and_true, and_self, true_and, h]

theorem State.contractQuery_without {W : List Part} (s : State) (q : Sqe) (h : [Part.cmds, .fns, .hpt, .lpb, .out,
    .regs 1, .regs 3, .regs 11, .regs 19] ⊆ W) :
    (s.contractQuery q).without W = s.without W := by
  simp only [List.cons_subset, List.nil_subset, and_true] at h
  simp only [State.contractQuery, ↓State.finish_without, ↓State.adminData_without, ↓State.adminCmd_without,
      ↓without_ite, ↓without_foldl, ite_self, implies_true, List.cons_subset, List.nil_subset, and_true, and_self,
      true_and, h]

theorem State.meterRead_without {W : List Part} (s : State) (q : Sqe) (h : [Part.cmds, .fns, .hpt, .lpb, .out, .regs 1,
    .regs 3, .regs 11, .regs 19] ⊆ W) :
    (s.meterRead q).without W = s.without W := by
  simp only [List.cons_subset, List.nil_subset, and_true] at h
  simp only [State.meterRead, ↓State.finish_without, ↓State.adminData_without, ↓State.adminCmd_without, ↓without_ite,
      ↓without_foldl, ite_self, implies_true, List.cons_subset, List.nil_subset, and_true, and_self, true_and, h]

end Sys2Proof.Machine
end

