-- ==== Sys2Proof/Laws/KeepFunctions.lean ====
section
/-! SUPPORT. Which parts of the state the operations of Machine/Functions.lean may change: every other part stays. -/
set_option linter.unusedSimpArgs false
set_option linter.unusedVariables false
namespace Sys2Proof.Machine


theorem State.showPools_without {W : List Part} (s : State) (h : [Part.regs 3] ⊆ W) :
    (s.showPools).without W = s.without W := by
  simp only [List.cons_subset, List.nil_subset, and_true] at h
  simp only [State.showPools, ↓State.setNum_without, Reg.qenPoolViFree, Reg.qenPoolVqFree, Nat.reduceDiv, ↓without_ite,
      ↓without_foldl, ite_self, implies_true, List.cons_subset, List.nil_subset, and_true, and_self, true_and, h]

theorem State.virtCmd_without {W : List Part} (s : State) (q : Sqe) (f : Nat → State → State) (h : [Part.cmds, .fns,
    .hpt, .out, .regs 1, .regs 3] ⊆ W) (hf : ∀ v t, (f v t).without W = t.without W) :
    (s.virtCmd q f).without W = s.without W := by
  simp only [List.cons_subset, List.nil_subset, and_true] at h
  have e0 := fun (s : State) (c : CmdId) (status : Nat) (dw0 : Word) (dnr : Bool) => State.finish_without (W := W) s c status dw0 dnr (by simp only [List.cons_subset, List.nil_subset, and_true, Nat.reduceDiv, h])
  have e1 := fun (s : State) (q : Sqe) (pf0 : Bool) (f : State → State) => State.adminCmd_without (W := W) s q pf0 f (by simp only [List.cons_subset, List.nil_subset, and_true, Nat.reduceDiv, h])
  unfold State.virtCmd
  repeat' (first
    | with_reducible rfl
    | with_reducible refine (hf _ _).trans ?_
    | with_reducible refine (e0 _ _ _ _ _).trans ?_
    | with_reducible refine (e1 _ _ _ _ (fun t => ?_)).trans ?_
    | with_reducible refine without_if ?_ ?_
    | with_reducible refine (without_foldl (fun t a => ?_) _ _).trans ?_
    | (with_reducible refine without_of_snd (by assumption) ?_)
    | (with_reducible refine without_of_fst (by assumption) ?_)
    | split)

theorem State.setOffline_without {W : List Part} (s : State) (q : Sqe) (h : [Part.cmds, .fns, .hpt, .out, .regs 1,
    .regs 3] ⊆ W) :
    (s.setOffline q).without W = s.without W := by
  simp only [List.cons_subset, List.nil_subset, and_true] at h
  simp only [State.setOffline, ↓State.virtCmd_without, ↓State.updFn_without, ↓State.finish_without, ↓without_ite,
      ↓without_foldl, ite_self, implies_true, List.cons_subset, List.nil_subset, and_true, and_self, true_and, h]

theorem State.assign_without {W : List Part} (s : State) (q : Sqe) (h : [Part.cmds, .fns, .hpt, .out, .regs 1,
    .regs 3] ⊆ W) :
    (s.assign q).without W = s.without W := by
  simp only [List.cons_subset, List.nil_subset, and_true] at h
  simp only [State.assign, ↓State.virtCmd_without, ↓State.updFn_without, ↓State.finish_without,
      ↓State.showPools_without, ↓without_ite, ↓without_foldl, ite_self, implies_true, List.cons_subset,
      List.nil_subset, and_true, and_self, true_and, h]

theorem State.setOnline_without {W : List Part} (s : State) (q : Sqe) (h : [Part.cmds, .fns, .hpt, .out, .regs 1,
    .regs 3] ⊆ W) :
    (s.setOnline q).without W = s.without W := by
  simp only [List.cons_subset, List.nil_subset, and_true] at h
  simp only [State.setOnline, ↓State.virtCmd_without, ↓State.updFn_without, ↓State.finish_without, ↓without_ite,
      ↓without_foldl, ite_self, implies_true, List.cons_subset, List.nil_subset, and_true, and_self, true_and, h]

theorem State.giveDefaults_without {W : List Part} (s : State) (vf : Nat) (h : [Part.fns, .evc, .regs 3,
    .regs 15] ⊆ W) :
    (s.giveDefaults vf).without W = s.without W := by
  simp only [List.cons_subset, List.nil_subset, and_true] at h
  simp only [State.giveDefaults, ↓State.updFn_without, ↓State.raise_without, Reg.qenEvent, Reg.fnmCtl, Nat.reduceDiv,
      ↓without_ite, ↓without_foldl, ite_self, implies_true, List.cons_subset, List.nil_subset, and_true, and_self,
      true_and, h]

theorem State.vfEnableSet_without {W : List Part} (s : State) (h : [Part.fns, .evc, .regs 2, .regs 3, .regs 15] ⊆ W) :
    (s.vfEnableSet).without W = s.without W := by
  simp only [List.cons_subset, List.nil_subset, and_true] at h
  simp only [State.vfEnableSet, ↓State.giveDefaults_without, ↓State.setBit_without, ↓State.raise_without,
      ↓State.showPools_without, Reg.fnmEvent, Reg.fnmStatus, Nat.reduceDiv, ↓without_ite, ↓without_foldl, ite_self,
      implies_true, List.cons_subset, List.nil_subset, and_true, and_self, true_and, h]

theorem State.flr_without {W : List Part} (s : State) (f : Nat) (h : [Part.prx, .tenants, .cmds, .rdp, .wrp, .fns,
    .hpt, .mig, .aens, .errs, .evc, .log, .out, .regs 1, .regs 2, .regs 3, .regs 7, .regs 8, .regs 15, .regs 20] ⊆ W) :
    (s.flr f).without W = s.without W := by
  simp only [List.cons_subset, List.nil_subset, and_true] at h
  simp only [State.flr, ↓State.atcFlush_without, ↓State.updFn_without, ↓State.showQueues_without,
      ↓State.migFail_without, ↓State.endWork_without, ↓without_tenants_errs, Reg.pwrStatus, Nat.reduceDiv,
      ↓without_ite, ↓without_foldl, ite_self, implies_true, List.cons_subset, List.nil_subset, and_true, and_self,
      true_and, h]

theorem State.vfFlr_without {W : List Part} (s : State) (vf : Nat) (h : [Part.prx, .tenants, .cmds, .rdp, .wrp, .fns,
    .hpt, .mig, .aens, .errs, .evc, .log, .out, .regs 1, .regs 2, .regs 3, .regs 7, .regs 8, .regs 15, .regs 20] ⊆ W) :
    (s.vfFlr vf).without W = s.without W := by
  simp only [List.cons_subset, List.nil_subset, and_true] at h
  simp only [State.vfFlr, ↓State.flr_without, ↓without_ite, ↓without_foldl, ite_self, implies_true, List.cons_subset,
      List.nil_subset, and_true, and_self, true_and, h]

theorem State.vfFlrDone_without {W : List Part} (s : State) (vf : Nat) (h : [Part.fns, .evc, .regs 2, .regs 15] ⊆ W) :
    (s.vfFlrDone vf).without W = s.without W := by
  simp only [List.cons_subset, List.nil_subset, and_true] at h
  simp only [State.vfFlrDone, ↓State.updFn_without, ↓State.raise_without, ↓State.inc_without, Reg.fnmFlrCnt,
      Reg.fnmEvent, Nat.reduceDiv, ↓without_ite, ↓without_foldl, ite_self, implies_true, List.cons_subset,
      List.nil_subset, and_true, and_self, true_and, h]

theorem State.vfEnableClear_without {W : List Part} (s : State) (h : [Part.prx, .tenants, .cmds, .rdp, .wrp, .fns,
    .hpt, .mig, .aens, .errs, .evc, .log, .out, .regs 1, .regs 2, .regs 3, .regs 7, .regs 8, .regs 15, .regs 20] ⊆ W) :
    (s.vfEnableClear).without W = s.without W := by
  simp only [List.cons_subset, List.nil_subset, and_true] at h
  simp only [State.vfEnableClear, ↓State.setBit_without, ↓State.vfFlr_without, ↓State.raise_without, Reg.fnmEvent,
      Reg.fnmStatus, Nat.reduceDiv, ↓without_ite, ↓without_foldl, ite_self, implies_true, List.cons_subset,
      List.nil_subset, and_true, and_self, true_and, h]

theorem State.pfFlr_without {W : List Part} (s : State) (h : [Part.prx, .tenants, .cmds, .rdp, .wrp, .fns, .hpt, .mig,
    .aens, .errs, .evc, .sdm, .log, .sec, .lpb, .out, .draw, .regs 1, .regs 2, .regs 3, .regs 5, .regs 7, .regs 8,
    .regs 11, .regs 12, .regs 15, .regs 17, .regs 19, .regs 20] ⊆ W) :
    (s.pfFlr).without W = s.without W := by
  simp only [List.cons_subset, List.nil_subset, and_true] at h
  simp only [State.pfFlr, ↓State.setField_without, ↓State.setBit_without, ↓State.endHostLists_without,
      ↓State.failInternals_without, ↓State.doeAbort_without, ↓State.flr_without, ↓State.dropSessions_without,
      ↓State.vfEnableClear_without, Reg.fnmStatus, Nat.reduceDiv, ↓without_ite, ↓without_foldl, ite_self, implies_true,
      List.cons_subset, List.nil_subset, and_true, and_self, true_and, h]

theorem State.pfFlrDone_without {W : List Part} (s : State) (h : [Part.fns, .evc, .regs 2, .regs 15] ⊆ W) :
    (s.pfFlrDone).without W = s.without W := by
  simp only [List.cons_subset, List.nil_subset, and_true] at h
  simp only [State.pfFlrDone, ↓State.updFn_without, ↓State.setBit_without, ↓State.raise_without, ↓State.inc_without,
      Reg.fnmPfFlrCnt, Reg.fnmEvent, Reg.fnmStatus, Nat.reduceDiv, ↓without_ite, ↓without_foldl, ite_self,
      implies_true, List.cons_subset, List.nil_subset, and_true, and_self, true_and, h]

theorem State.vfCtl_without {W : List Part} (s : State) (ok : Fn → Bool) (f : Nat → State → State) (h : [Part.evc,
    .regs 2, .regs 15] ⊆ W) (hf : ∀ v t, (f v t).without W = t.without W) :
    (s.vfCtl ok f).without W = s.without W := by
  simp only [List.cons_subset, List.nil_subset, and_true] at h
  unfold State.vfCtl
  dsimp only
  repeat' (first
    | with_reducible rfl
    | with_reducible refine (hf _ _).trans ?_
    | with_reducible refine (State.raise_without _ _ _ (by simp only [List.cons_subset, List.nil_subset, and_true, Reg.fnmEvent, Nat.reduceDiv, h])).trans ?_
    | with_reducible refine without_if ?_ ?_)

theorem State.setLife_without {W : List Part} (s : State) (f : Nat) (l : Life) (h : [Part.fns] ⊆ W) :
    (s.setLife f l).without W = s.without W := by
  simp only [List.cons_subset, List.nil_subset, and_true] at h
  simp only [State.setLife, ↓State.updFn_without, ↓without_ite, ↓without_foldl, ite_self, implies_true,
      List.cons_subset, List.nil_subset, and_true, and_self, true_and, h]

theorem State.quiesce_without {W : List Part} (s : State) (h : [Part.fns, .evc, .regs 2, .regs 15] ⊆ W) :
    (s.quiesce).without W = s.without W := by
  simp only [List.cons_subset, List.nil_subset, and_true] at h
  simp only [State.quiesce, ↓State.setLife_without, ↓State.vfCtl_without, ↓without_ite, ↓without_foldl, ite_self,
      implies_true, List.cons_subset, List.nil_subset, and_true, and_self, true_and, h]

theorem State.quiesced_without {W : List Part} (s : State) (vf : Nat) (h : [Part.fns, .evc, .regs 2, .regs 15] ⊆ W) :
    (s.quiesced vf).without W = s.without W := by
  simp only [List.cons_subset, List.nil_subset, and_true] at h
  simp only [State.quiesced, ↓State.setLife_without, ↓State.raise_without, ↓State.inc_without, Reg.fnmEvent,
      Reg.fnmQuiesceCnt, Nat.reduceDiv, ↓without_ite, ↓without_foldl, ite_self, implies_true, List.cons_subset,
      List.nil_subset, and_true, and_self, true_and, h]

theorem State.resume_without {W : List Part} (s : State) (h : [Part.fns, .hpt, .evc, .out, .regs 1, .regs 2,
    .regs 15] ⊆ W) :
    (s.resume).without W = s.without W := by
  simp only [List.cons_subset, List.nil_subset, and_true] at h
  simp only [State.resume, ↓State.setLife_without, ↓State.kickAll_without, ↓State.vfCtl_without, ↓without_ite,
      ↓without_foldl, ite_self, implies_true, List.cons_subset, List.nil_subset, and_true, and_self, true_and, h]

theorem State.freeze_without {W : List Part} (s : State) (h : [Part.fns, .evc, .regs 2, .regs 15] ⊆ W) :
    (s.freeze).without W = s.without W := by
  simp only [List.cons_subset, List.nil_subset, and_true] at h
  simp only [State.freeze, ↓State.setLife_without, ↓State.vfCtl_without, ↓without_ite, ↓without_foldl, ite_self,
      implies_true, List.cons_subset, List.nil_subset, and_true, and_self, true_and, h]

theorem State.frozen_without {W : List Part} (s : State) (vf : Nat) (h : [Part.fns, .evc, .regs 2, .regs 15] ⊆ W) :
    (s.frozen vf).without W = s.without W := by
  simp only [List.cons_subset, List.nil_subset, and_true] at h
  simp only [State.frozen, ↓State.setLife_without, ↓State.raise_without, Reg.fnmEvent, Nat.reduceDiv, ↓without_ite,
      ↓without_foldl, ite_self, implies_true, List.cons_subset, List.nil_subset, and_true, and_self, true_and, h]

theorem State.unfreeze_without {W : List Part} (s : State) (h : [Part.fns, .hpt, .evc, .out, .regs 1, .regs 2, .regs 3,
    .regs 15] ⊆ W) :
    (s.unfreeze).without W = s.without W := by
  simp only [List.cons_subset, List.nil_subset, and_true] at h
  simp only [State.unfreeze, ↓State.setLife_without, ↓State.kickAll_without, ↓State.msixDrain_without,
      ↓State.vfCtl_without, ↓without_ite, ↓without_foldl, ite_self, implies_true, List.cons_subset, List.nil_subset,
      and_true, and_self, true_and, h]

theorem State.migStart_without {W : List Part} (s : State) (m : Mig) (h : [Part.mig, .regs 2] ⊆ W) :
    (s.migStart m).without W = s.without W := by
  simp only [List.cons_subset, List.nil_subset, and_true] at h
  simp only [State.migStart, ↓State.setField_without, ↓without_mig, Reg.fnmMigStatus, Nat.reduceDiv, ↓without_ite,
      ↓without_foldl, ite_self, implies_true, List.cons_subset, List.nil_subset, and_true, and_self, true_and, h]

theorem State.save_without {W : List Part} (s : State) (h : [Part.rdp, .fns, .hpt, .mig, .evc, .mlk, .log, .lpb, .out,
    .regs 1, .regs 2, .regs 3, .regs 11, .regs 13, .regs 15, .regs 19, .regs 20] ⊆ W) :
    (s.save).without W = s.without W := by
  simp only [List.cons_subset, List.nil_subset, and_true] at h
  simp only [State.save, ↓State.migStart_without, ↓State.migFail_without, ↓State.internal_without,
      ↓State.vfCtl_without, ↓State.send_without, Reg.fnmMigAddrLo, Reg.fnmMigLen, Reg.fnmMigCtl, Nat.reduceDiv,
      ↓without_ite, ↓without_foldl, ite_self, implies_true, List.cons_subset, List.nil_subset, and_true, and_self,
      true_and, h]

theorem State.saveEnd_without {W : List Part} (s : State) (ok : Bool) (h : [Part.hpt, .mig, .evc, .log, .regs 2,
    .regs 15, .regs 20] ⊆ W) :
    (s.saveEnd ok).without W = s.without W := by
  simp only [List.cons_subset, List.nil_subset, and_true] at h
  simp only [State.saveEnd, ↓State.setField_without, ↓State.setNum_without, ↓State.migFail_without,
      ↓State.raise_without, ↓State.inc_without, ↓without_mig, Reg.fnmEvent, Reg.fnmMigSize, Reg.fnmSaveCnt,
      Reg.fnmMigStatus, Nat.reduceDiv, ↓without_ite, ↓without_foldl, ite_self, implies_true, List.cons_subset,
      List.nil_subset, and_true, and_self, true_and, h]

theorem State.loadBlob_without {W : List Part} (s : State) (vf : Nat) (b : List Byte) (h : [Part.prx, .tenants, .cmds,
    .rdp, .wrp, .fns, .hpt, .aens, .errs, .evc, .mtr, .out, .regs 1, .regs 3, .regs 7, .regs 8, .regs 15] ⊆ W) :
    (s.loadBlob vf b).without W = s.without W := by
  simp only [List.cons_subset, List.nil_subset, and_true] at h
  simp only [State.loadBlob, ↓State.updFn_without, ↓State.showQueues_without, ↓State.endWork_without,
      ↓without_tenants_cmds_aens_errs_mtr, ↓without_ite, ↓without_foldl, ite_self, implies_true, List.cons_subset,
      List.nil_subset, and_true, and_self, true_and, h]

theorem State.restore_without {W : List Part} (s : State) (h : [Part.fns, .hpt, .mig, .evc, .log, .lpb, .out, .regs 1,
    .regs 2, .regs 3, .regs 11, .regs 15, .regs 19, .regs 20] ⊆ W) :
    (s.restore).without W = s.without W := by
  simp only [List.cons_subset, List.nil_subset, and_true] at h
  simp only [State.restore, ↓State.migStart_without, ↓State.migFail_without, ↓State.vfCtl_without,
      ↓State.internalRead_without, Reg.fnmMigAddrLo, Reg.fnmMigCtl, Nat.reduceDiv, ↓without_ite, ↓without_foldl,
      ite_self, implies_true, List.cons_subset, List.nil_subset, and_true, and_self, true_and, h]

theorem State.restoreEnd_without {W : List Part} (s : State) (blob : List Byte) (h : [Part.prx, .tenants, .cmds, .rdp,
    .wrp, .fns, .hpt, .mig, .aens, .errs, .evc, .mlk, .log, .mtr, .out, .regs 1, .regs 2, .regs 3, .regs 7, .regs 8,
    .regs 15, .regs 20] ⊆ W) :
    (s.restoreEnd blob).without W = s.without W := by
  simp only [List.cons_subset, List.nil_subset, and_true] at h
  unfold State.restoreEnd
  dsimp only
  (repeat' split) <;> simp only [↓State.setField_without, ↓State.freeBlobBuf_without, ↓State.migFail_without,
      ↓State.raise_without, ↓State.inc_without, ↓State.loadBlob_without, ↓without_mig, Reg.fnmEvent, Reg.fnmMigStatus,
      Reg.mlkBlobSel, Reg.fnmRestoreCnt, Nat.reduceDiv, ↓without_ite, ↓without_foldl, ite_self, implies_true,
      List.cons_subset, List.nil_subset, and_true, and_self, true_and, h]

end Sys2Proof.Machine
end

