-- ==== Sys2Proof/Laws/KeepLocalPort.lean ====
section
/-! SUPPORT. Which parts of the state the operations of Machine/LocalPort.lean may change: every other part stays. -/
set_option linter.unusedSimpArgs false
set_option linter.unusedVariables false
namespace Sys2Proof.Machine


theorem State.winCommit_without {W : List Part} (s : State) (h : [Part.evc, .lpb, .regs 15, .regs 18] ⊆ W) :
    (s.winCommit).without W = s.without W := by
  simp only [List.cons_subset, List.nil_subset, and_true] at h
  unfold State.winCommit
  (repeat' split) <;> simp only [↓State.setNum_without, ↓State.raise_without, ↓without_lpb, Reg.lpbCommitStatus,
      Reg.lpbEvent, Nat.reduceDiv, ↓without_ite, ↓without_foldl, ite_self, implies_true, List.cons_subset,
      List.nil_subset, and_true, and_self, true_and, h]

theorem State.byService_without {W : List Part} (s : State) (by_ : Requester) (f : State → State) (hf : ∀ t,
    (f t).without W = t.without W) :
    (s.byService by_ f).without W = s.without W := by
  unfold State.byService; split <;> simp only [State.whenLive_without _ _ hf]

theorem State.endGrant_without {W : List Part} (s : State) (h : [Part.lpb, .out] ⊆ W) :
    (s.endGrant).without W = s.without W := by
  simp only [List.cons_subset, List.nil_subset, and_true] at h
  simp only [State.endGrant, ↓State.emit_without, ↓without_lpb, ↓without_ite, ↓without_foldl, ite_self, implies_true,
      List.cons_subset, List.nil_subset, and_true, and_self, true_and, h]

theorem State.startBurst_without {W : List Part} (s : State) (b : Burst) (h : [Part.lpb, .out] ⊆ W) :
    (s.startBurst b).without W = s.without W := by
  simp only [List.cons_subset, List.nil_subset, and_true] at h
  simp only [State.startBurst, ↓State.emit_without, ↓without_lpb, ↓without_ite, ↓without_foldl, ite_self, implies_true,
      List.cons_subset, List.nil_subset, and_true, and_self, true_and, h]

theorem State.enqueue_without {W : List Part} (s : State) (bs : List Burst) (h : [Part.lpb, .out] ⊆ W) :
    (s.enqueue bs).without W = s.without W := by
  simp only [List.cons_subset, List.nil_subset, and_true] at h
  unfold State.enqueue
  (repeat' split) <;> simp only [↓State.startBurst_without, ↓State.endGrant_without, ↓without_lpb, ↓without_ite,
      ↓without_foldl, ite_self, implies_true, List.cons_subset, List.nil_subset, and_true, and_self, true_and, h]

theorem State.nextBurst_without {W : List Part} (s : State) (lastCore : Bool) (h : [Part.lpb, .out] ⊆ W) :
    (s.nextBurst lastCore).without W = s.without W := by
  simp only [List.cons_subset, List.nil_subset, and_true] at h
  unfold State.nextBurst
  dsimp only
  (repeat' split) <;> simp only [↓State.startBurst_without, ↓without_lpb, ↓without_ite, ↓without_foldl, ite_self,
      implies_true, List.cons_subset, List.nil_subset, and_true, and_self, true_and, h]

theorem State.lpbCpl_without {W : List Part} (s : State) (status : Nat) (h : [Part.out, .draw] ⊆ W) :
    (s.lpbCpl status).without W = s.without W := by
  simp only [List.cons_subset, List.nil_subset, and_true] at h
  simp only [State.lpbCpl, ↓State.drawn_without, ↓State.emit_without, ↓without_ite, ↓without_foldl, ite_self,
      implies_true, List.cons_subset, List.nil_subset, and_true, and_self, true_and, h]

theorem State.lpbData_without {W : List Part} (s : State) (n : Nat) (h : [Part.out, .draw] ⊆ W) :
    (s.lpbData n).without W = s.without W := by
  simp only [List.cons_subset, List.nil_subset, and_true] at h
  simp only [State.lpbData, ↓State.lpbCpl_without, ↓without_ite, ↓without_foldl, ite_self, implies_true,
      List.cons_subset, List.nil_subset, and_true, and_self, true_and, h]

theorem State.lpbAbort_without {W : List Part} (s : State) (h : [Part.fns, .evc, .log, .out, .draw, .regs 1, .regs 15,
    .regs 18, .regs 20] ⊆ W) :
    (s.lpbAbort).without W = s.without W := by
  simp only [List.cons_subset, List.nil_subset, and_true] at h
  simp only [State.lpbAbort, ↓State.countErr_without, ↓State.aerAdvisory_without, ↓State.lpbCpl_without,
      Reg.lpbReadErrCnt, Nat.reduceDiv, ↓without_ite, ↓without_foldl, ite_self, implies_true, List.cons_subset,
      List.nil_subset, and_true, and_self, true_and, h]

theorem State.winAccept_without {W : List Part} (s : State) (w : Nat) (r : WinReq) (h : [Part.lpb, .out, .draw] ⊆ W) :
    (s.winAccept w r).without W = s.without W := by
  simp only [List.cons_subset, List.nil_subset, and_true] at h
  unfold State.winAccept
  (repeat' split) <;> simp only [↓State.enqueue_without, ↓State.lpbData_without, ↓without_lpb, ↓without_ite,
      ↓without_foldl, ite_self, implies_true, List.cons_subset, List.nil_subset, and_true, and_self, true_and, h]

theorem State.winRequest_without {W : List Part} (s : State) (r : WinReq) (h : [Part.fns, .evc, .log, .lpb, .out,
    .draw, .regs 1, .regs 15, .regs 20] ⊆ W) :
    (s.winRequest r).without W = s.without W := by
  simp only [List.cons_subset, List.nil_subset, and_true] at h
  unfold State.winRequest
  (repeat' split) <;> simp only [↓State.winAccept_without, ↓State.unsupported_without, ↓without_lpb, ↓without_ite,
      ↓without_foldl, ite_self, implies_true, List.cons_subset, List.nil_subset, and_true, and_self, true_and, h]

theorem State.bar4Request_without {W : List Part} (s : State) (r : WinReq) (h : [Part.fns, .evc, .log, .lpb, .out,
    .draw, .regs 1, .regs 15, .regs 20] ⊆ W) :
    (s.bar4Request r).without W = s.without W := by
  simp only [List.cons_subset, List.nil_subset, and_true] at h
  simp only [State.bar4Request, ↓State.winRequest_without, ↓State.unsupported_without, ↓without_ite, ↓without_foldl,
      ite_self, implies_true, List.cons_subset, List.nil_subset, and_true, and_self, true_and, h]

theorem State.retryWaiting_without {W : List Part} (s : State) (h : [Part.fns, .evc, .log, .lpb, .out, .draw, .regs 1,
    .regs 15, .regs 20] ⊆ W) :
    (s.retryWaiting).without W = s.without W := by
  simp only [List.cons_subset, List.nil_subset, and_true] at h
  simp only [State.retryWaiting, ↓State.winRequest_without, ↓without_lpb, ↓without_ite, ↓without_foldl, ite_self,
      implies_true, List.cons_subset, List.nil_subset, and_true, and_self, true_and, h]

theorem State.postFail_without {W : List Part} (s : State) (b : Burst) (cause : Nat) (h : [Part.fns, .hpt, .evc, .log,
    .out, .regs 1, .regs 3, .regs 15, .regs 18, .regs 20] ⊆ W) :
    (s.postFail b cause).without W = s.without W := by
  simp only [List.cons_subset, List.nil_subset, and_true] at h
  simp only [State.postFail, ↓State.countErr_without, ↓State.setNum_without, ↓State.raise_without, ↓State.inc_without,
      ↓State.msix_without, Reg.lpbFailLostCnt, Reg.lpbFailInfo, Reg.lpbFailAddrHi, Reg.lpbFailAddrLo, Reg.lpbEvent,
      Reg.lpbCtl, Reg.lpbPostFailCnt, Nat.reduceDiv, ↓without_ite, ↓without_foldl, ite_self, implies_true,
      List.cons_subset, List.nil_subset, and_true, and_self, true_and, h]

theorem State.burstFailed_without {W : List Part} (s : State) (b : Burst) (cause : Nat) (h : [Part.fns, .hpt, .evc,
    .log, .lpb, .out, .draw, .regs 1, .regs 3, .regs 15, .regs 18, .regs 20] ⊆ W) :
    (s.burstFailed b cause).without W = s.without W := by
  simp only [List.cons_subset, List.nil_subset, and_true] at h
  unfold State.burstFailed
  (repeat' split) <;> simp only [↓State.accessFault_without, ↓State.lpbAbort_without, ↓State.postFail_without,
      ↓State.emit_without, ↓without_lpb, ↓without_ite, ↓without_foldl, ite_self, implies_true, List.cons_subset,
      List.nil_subset, and_true, and_self, true_and, h]

theorem State.burstDone_without {W : List Part} (s : State) (b : Burst) (h : [Part.lpb, .out, .draw] ⊆ W) :
    (s.burstDone b).without W = s.without W := by
  simp only [List.cons_subset, List.nil_subset, and_true] at h
  unfold State.burstDone
  (repeat' split) <;> simp only [↓State.lpbData_without, ↓State.lpbCpl_without, ↓State.drawn_without,
      ↓State.emit_without, ↓without_lpb, ↓without_ite, ↓without_foldl, ite_self, implies_true, List.cons_subset,
      List.nil_subset, and_true, and_self, true_and, h]

theorem State.burstEnd_without {W : List Part} (s : State) (r : BurstEnd) (h : [Part.fns, .hpt, .evc, .log, .lpb, .out,
    .draw, .regs 1, .regs 3, .regs 15, .regs 18, .regs 20] ⊆ W) :
    (s.burstEnd r).without W = s.without W := by
  simp only [List.cons_subset, List.nil_subset, and_true] at h
  unfold State.burstEnd
  (repeat' split) <;> simp only [↓State.burstDone_without, ↓State.nextBurst_without, ↓State.burstFailed_without,
      ↓State.retryWaiting_without, ↓State.startBurst_without, ↓without_lpb, ↓without_ite, ↓without_foldl, ite_self,
      implies_true, List.cons_subset, List.nil_subset, and_true, and_self, true_and, h]

theorem State.prefetchExpire_without {W : List Part} (s : State) (w : Nat) (h : [Part.lpb] ⊆ W) :
    (s.prefetchExpire w).without W = s.without W := by
  simp only [List.cons_subset, List.nil_subset, and_true] at h
  simp only [State.prefetchExpire, ↓without_lpb, ↓without_ite, ↓without_foldl, ite_self, implies_true,
      List.cons_subset, List.nil_subset, and_true, and_self, true_and, h]

theorem State.copyWindow_without {W : List Part} (s : State) (w : Nat) (h : [Part.regs 18] ⊆ W) :
    (s.copyWindow w).without W = s.without W := by
  simp only [List.cons_subset, List.nil_subset, and_true] at h
  simp only [State.copyWindow, ↓State.setReg_without, page_lpbWinCfg, page_lpbWinTrans, page_lpbWinShadowCfg,
      page_lpbWinLimit, page_lpbWinShadowLimit, page_lpbWinShadowTrans, page_lpbWinShadowBase, page_lpbWinBase,
      Nat.reduceDiv, ↓without_ite, ↓without_foldl, ite_self, implies_true, List.cons_subset, List.nil_subset, and_true,
      and_self, true_and, h]

theorem State.commitDone_without {W : List Part} (s : State) (h : [Part.fns, .evc, .log, .lpb, .out, .draw, .regs 1,
    .regs 15, .regs 18, .regs 20] ⊆ W) :
    (s.commitDone).without W = s.without W := by
  simp only [List.cons_subset, List.nil_subset, and_true] at h
  simp only [State.commitDone, ↓State.setField_without, ↓State.copyWindow_without, ↓State.retryWaiting_without,
      ↓State.raise_without, ↓without_lpb, Reg.lpbCommitStatus, Reg.lpbEvent, Nat.reduceDiv, ↓without_ite,
      ↓without_foldl, ite_self, implies_true, List.cons_subset, List.nil_subset, and_true, and_self, true_and, h]

theorem State.drainTimeout_without {W : List Part} (s : State) (h : [Part.fns, .hpt, .evc, .log, .lpb, .out, .draw,
    .regs 1, .regs 3, .regs 15, .regs 18, .regs 20] ⊆ W) :
    (s.drainTimeout).without W = s.without W := by
  simp only [List.cons_subset, List.nil_subset, and_true] at h
  simp only [State.drainTimeout, ↓State.nextBurst_without, ↓State.setBit_without, ↓State.burstFailed_without,
      ↓without_lpb, Reg.lpbCommitStatus, Nat.reduceDiv, ↓without_ite, ↓without_foldl, ite_self, implies_true,
      List.cons_subset, List.nil_subset, and_true, and_self, true_and, h]

theorem State.busRequest_without {W : List Part} (s : State) (h : [Part.lpb, .out, .regs 18] ⊆ W) :
    (s.busRequest).without W = s.without W := by
  simp only [List.cons_subset, List.nil_subset, and_true] at h
  simp only [State.busRequest, ↓State.inc_without, ↓State.emit_without, ↓without_lpb, Reg.lpbArbRetryCnt,
      Nat.reduceDiv, ↓without_ite, ↓without_foldl, ite_self, implies_true, List.cons_subset, List.nil_subset, and_true,
      and_self, true_and, h]

theorem State.answerMaster_without {W : List Part} (s : State) (code addr : Nat) (h : [Part.lpb, .out] ⊆ W) :
    (s.answerMaster code addr).without W = s.without W := by
  simp only [List.cons_subset, List.nil_subset, and_true] at h
  simp only [State.answerMaster, ↓State.endGrant_without, ↓State.emit_without, ↓without_ite, ↓without_foldl, ite_self,
      implies_true, List.cons_subset, List.nil_subset, and_true, and_self, true_and, h]

theorem State.upWrite_without {W : List Part} (s : State) (addr len : Nat) (h : [Part.fns, .hpt, .evc, .log, .lpb,
    .out, .regs 1, .regs 3, .regs 11, .regs 15, .regs 18, .regs 19, .regs 20] ⊆ W) :
    (s.upWrite addr len).without W = s.without W := by
  simp only [List.cons_subset, List.nil_subset, and_true] at h
  simp only [State.upWrite, ↓State.countErr_without, ↓State.internal_without, ↓State.raise_without,
      ↓State.answerMaster_without, ↓without_lpb, Reg.lpbEvent, Reg.lpbUpErrCnt, Nat.reduceDiv, ↓without_ite,
      ↓without_foldl, ite_self, implies_true, List.cons_subset, List.nil_subset, and_true, and_self, true_and, h]

theorem State.upRead_without {W : List Part} (s : State) (addr len : Nat) (h : [Part.fns, .hpt, .evc, .lpb, .out,
    .regs 1, .regs 3, .regs 11, .regs 15, .regs 18, .regs 19] ⊆ W) :
    (s.upRead addr len).without W = s.without W := by
  simp only [List.cons_subset, List.nil_subset, and_true] at h
  unfold State.upRead
  (repeat' split) <;> simp only [↓State.raise_without, ↓State.answerMaster_without, ↓State.internalRead_without,
      ↓without_lpb, Reg.lpbEvent, Nat.reduceDiv, ↓without_ite, ↓without_foldl, ite_self, implies_true,
      List.cons_subset, List.nil_subset, and_true, and_self, true_and, h]

theorem State.upData_without {W : List Part} (s : State) (addr : Nat) (h : [Part.lpb] ⊆ W) :
    (s.upData addr).without W = s.without W := by
  simp only [List.cons_subset, List.nil_subset, and_true] at h
  simp only [State.upData, ↓without_lpb, ↓without_ite, ↓without_foldl, ite_self, implies_true, List.cons_subset,
      List.nil_subset, and_true, and_self, true_and, h]

theorem State.upStale_without {W : List Part} (s : State) (addr : Nat) (h : [Part.evc, .log, .lpb, .regs 15, .regs 18,
    .regs 20] ⊆ W) :
    (s.upStale addr).without W = s.without W := by
  simp only [List.cons_subset, List.nil_subset, and_true] at h
  simp only [State.upStale, ↓State.countErr_without, ↓without_lpb, Reg.lpbUpStaleCnt, Nat.reduceDiv, ↓without_ite,
      ↓without_foldl, ite_self, implies_true, List.cons_subset, List.nil_subset, and_true, and_self, true_and, h]

theorem State.lpIrq_without {W : List Part} (s : State) (k : Nat) (h : [Part.fns, .hpt, .evc, .lpb, .out, .regs 1,
    .regs 3, .regs 11, .regs 15, .regs 18, .regs 19] ⊆ W) :
    (s.lpIrq k).without W = s.without W := by
  simp only [List.cons_subset, List.nil_subset, and_true] at h
  simp only [State.lpIrq, ↓State.internal_without, ↓State.raise_without, ↓State.msix_without, Reg.lpbEvent,
      Reg.lpbIrqCfg, Nat.reduceDiv, ↓without_ite, ↓without_foldl, ite_self, implies_true, List.cons_subset,
      List.nil_subset, and_true, and_self, true_and, h]

theorem State.coreLocal_without {W : List Part} (s : State) (c : Nat) (addr : Word) (write : Bool) (h : [Part.lpb,
    .out] ⊆ W) :
    (s.coreLocal c addr write).without W = s.without W := by
  simp only [List.cons_subset, List.nil_subset, and_true] at h
  simp only [State.coreLocal, ↓State.enqueue_without, Reg.lpbCoreCfg, Nat.reduceDiv, ↓without_ite, ↓without_foldl,
      ite_self, implies_true, List.cons_subset, List.nil_subset, and_true, and_self, true_and, h]

end Sys2Proof.Machine
end

