-- ==== Sys2Proof/Laws/KeepTelemetry.lean ====
section
/-! SUPPORT. Which parts of the state the operations of Machine/Telemetry.lean may change: every other part stays. -/
set_option linter.unusedSimpArgs false
set_option linter.unusedVariables false
namespace Sys2Proof.Machine


theorem State.sampleDue_without {W : List Part} (s : State) (e : Nat) (h : [Part.tln, .out, .regs 19] ⊆ W) :
    (s.sampleDue e).without W = s.without W := by
  simp only [List.cons_subset, List.nil_subset, and_true] at h
  simp only [State.sampleDue, ↓State.inc_without, ↓State.emit_without, ↓without_tln, Reg.tlnSkipCnt, Reg.tlnCtl,
      Nat.reduceDiv, ↓without_ite, ↓without_foldl, ite_self, implies_true, List.cons_subset, List.nil_subset, and_true,
      and_self, true_and, h]

theorem State.applyMap_without {W : List Part} (s : State) (m raw : Nat) (h : [Part.evc, .regs 15, .regs 19] ⊆ W) :
    (s.applyMap m raw).without W = s.without W := by
  simp only [List.cons_subset, List.nil_subset, and_true] at h
  simp only [State.applyMap, ↓State.setInt_without, ↓State.setNum_without, ↓State.raise_without, Reg.tlnEvent,
      Reg.tlnCtl, page_tlnLarvis, page_tlnMapValue, page_tlnMapDest, Nat.reduceDiv, ↓without_ite, ↓without_foldl,
      ite_self, implies_true, List.cons_subset, List.nil_subset, and_true, and_self, true_and, h]

theorem State.xferStart_without {W : List Part} (s : State) (h : [Part.tln, .out] ⊆ W) :
    (s.xferStart).without W = s.without W := by
  simp only [List.cons_subset, List.nil_subset, and_true] at h
  simp only [State.xferStart, ↓State.emit_without, ↓without_tln, Reg.tlnXferCtl, Nat.reduceDiv, ↓without_ite,
      ↓without_foldl, ite_self, implies_true, List.cons_subset, List.nil_subset, and_true, and_self, true_and, h]

theorem State.lensSampleDone_without {W : List Part} (s : State) (e : Nat) (r : BusResult) (h : [Part.evc, .log, .tln,
    .out, .regs 15, .regs 19, .regs 20] ⊆ W) :
    (s.lensSampleDone e r).without W = s.without W := by
  simp only [List.cons_subset, List.nil_subset, and_true] at h
  unfold State.lensSampleDone
  dsimp only
  (repeat' split) <;> simp only [↓State.countErr_without, ↓State.xferStart_without, ↓State.raise_without,
      ↓State.applyMap_without, ↓State.inc_without, ↓without_tln, Reg.tlnEvent, Reg.tlnBadSampleCnt, Reg.tlnSampleCnt,
      Nat.reduceDiv, ↓without_ite, ↓without_foldl, ite_self, implies_true, List.cons_subset, List.nil_subset, and_true,
      and_self, true_and, h]

theorem State.bufferRecord_without {W : List Part} (s : State) (b : List Byte) (h : [Part.evc, .tln, .regs 15,
    .regs 19] ⊆ W) :
    (s.bufferRecord b).without W = s.without W := by
  simp only [List.cons_subset, List.nil_subset, and_true] at h
  simp only [State.bufferRecord, ↓State.setField_without, ↓State.setNum_without, ↓State.raise_without, ↓without_tln,
      Reg.tlnEvent, Reg.tlnBufCons, Reg.tlnBufProd, Nat.reduceDiv, ↓without_ite, ↓without_foldl, ite_self,
      implies_true, List.cons_subset, List.nil_subset, and_true, and_self, true_and, h]

theorem State.ringRecord_without {W : List Part} (s : State) (b : List Byte) (h : [Part.fns, .hpt, .evc, .log, .lpb,
    .out, .regs 1, .regs 3, .regs 11, .regs 15, .regs 19, .regs 20] ⊆ W) :
    (s.ringRecord b).without W = s.without W := by
  simp only [List.cons_subset, List.nil_subset, and_true] at h
  simp only [State.ringRecord, ↓State.countErr_without, ↓State.internal_without, ↓State.raise_without,
      Reg.tlnRingBaseLo, Reg.tlnRingDropCnt, Reg.tlnEvent, Reg.tlnRingProd, Reg.tlnCtl, Nat.reduceDiv, ↓without_ite,
      ↓without_foldl, ite_self, implies_true, List.cons_subset, List.nil_subset, and_true, and_self, true_and, h]

theorem State.emitRecord_without {W : List Part} (s : State) (r : Nat) (h : [Part.fns, .hpt, .evc, .log, .lpb, .tln,
    .out, .regs 1, .regs 3, .regs 11, .regs 15, .regs 19, .regs 20] ⊆ W) :
    (s.emitRecord r).without W = s.without W := by
  simp only [List.cons_subset, List.nil_subset, and_true] at h
  simp only [State.emitRecord, ↓State.ringRecord_without, ↓State.bufferRecord_without, ↓State.inc_without,
      ↓State.showTlnRing_without, ↓without_tln, Reg.tlnRecordCnt, Nat.reduceDiv, ↓without_ite, ↓without_foldl,
      ite_self, implies_true, List.cons_subset, List.nil_subset, and_true, and_self, true_and, h]

theorem State.takeTlnCfg_without {W : List Part} (s : State) (h : [Part.tln] ⊆ W) :
    (s.takeTlnCfg).without W = s.without W := by
  simp only [List.cons_subset, List.nil_subset, and_true] at h
  simp only [State.takeTlnCfg, ↓without_tln, page_tlnRecCfg, page_tlnSampleCfg, Nat.reduceDiv, ↓without_ite,
      ↓without_foldl, ite_self, implies_true, List.cons_subset, List.nil_subset, and_true, and_self, true_and, h]

theorem State.larvisRead_without {W : List Part} (s : State) (k : Nat) (h : [Part.out, .regs 19] ⊆ W) :
    (s.larvisRead k).without W = s.without W := by
  simp only [List.cons_subset, List.nil_subset, and_true] at h
  simp only [State.larvisRead, ↓State.setBit_without, ↓State.emit_without, page_tlnLarvis, Nat.reduceDiv, ↓without_ite,
      ↓without_foldl, ite_self, implies_true, List.cons_subset, List.nil_subset, and_true, and_self, true_and, h]

theorem State.xferEnd_without {W : List Part} (s : State) (status : Nat) (h : [Part.evc, .regs 15, .regs 19] ⊆ W) :
    (s.xferEnd status).without W = s.without W := by
  simp only [List.cons_subset, List.nil_subset, and_true] at h
  simp only [State.xferEnd, ↓State.setNum_without, ↓State.setBit_without, ↓State.raise_without, Reg.tlnXferStatus,
      Reg.tlnEvent, Reg.tlnStatus, Reg.tlnXferCtl, Nat.reduceDiv, ↓without_ite, ↓without_foldl, ite_self, implies_true,
      List.cons_subset, List.nil_subset, and_true, and_self, true_and, h]

theorem State.xferCtl_without {W : List Part} (s : State) (v : Word) (h : [Part.evc, .tln, .out, .regs 15,
    .regs 19] ⊆ W) :
    (s.xferCtl v).without W = s.without W := by
  simp only [List.cons_subset, List.nil_subset, and_true] at h
  simp only [State.xferCtl, ↓State.setReg_without, ↓State.setNum_without, ↓State.setBit_without,
      ↓State.xferStart_without, ↓State.xferEnd_without, ↓without_tln, Reg.tlnXferStatus, Reg.tlnStatus, Reg.tlnXferCtl,
      Nat.reduceDiv, ↓without_ite, ↓without_foldl, ite_self, implies_true, List.cons_subset, List.nil_subset, and_true,
      and_self, true_and, h]

theorem State.xferDone_without {W : List Part} (s : State) (r : BusResult) (h : [Part.evc, .regs 15, .regs 19] ⊆ W) :
    (s.xferDone r).without W = s.without W := by
  simp only [List.cons_subset, List.nil_subset, and_true] at h
  unfold State.xferDone
  (repeat' split) <;> simp only [↓State.setNum_without, ↓State.xferEnd_without, Reg.tlnXferDataHi, Reg.tlnXferDataLo,
      Reg.tlnXferCtl, Nat.reduceDiv, ↓without_ite, ↓without_foldl, ite_self, implies_true, List.cons_subset,
      List.nil_subset, and_true, and_self, true_and, h]

end Sys2Proof.Machine
end

