-- ==== Sys2Proof/Laws/KeepMi.lean ====
section
/-! SUPPORT. Which parts of the state the operations of Machine/Mi.lean may change: every other part stays. -/
set_option linter.unusedSimpArgs false
set_option linter.unusedVariables false
namespace Sys2Proof.Machine


theorem State.miServed_without {W : List Part} (s : State) (f : State → State) (hf : ∀ t,
    (f t).without W = t.without W) :
    (s.miServed f).without W = s.without W := by
  unfold State.miServed; split <;> simp only [hf]

theorem State.miAnswer_without {W : List Part} (s : State) (code : Nat) (vals : List Nat) (h : [Part.out] ⊆ W) :
    (s.miAnswer code vals).without W = s.without W := by
  simp only [List.cons_subset, List.nil_subset, and_true] at h
  simp only [State.miAnswer, ↓State.emit_without, ↓without_ite, ↓without_foldl, ite_self, implies_true,
      List.cons_subset, List.nil_subset, and_true, and_self, true_and, h]

theorem State.setEid_without {W : List Part} (s : State) (eid : Nat) (h : [Part.mi, .out] ⊆ W) :
    (s.setEid eid).without W = s.without W := by
  simp only [List.cons_subset, List.nil_subset, and_true] at h
  simp only [State.setEid, ↓State.miAnswer_without, ↓without_mi, ↓without_ite, ↓without_foldl, ite_self, implies_true,
      List.cons_subset, List.nil_subset, and_true, and_self, true_and, h]

theorem State.miSet_without {W : List Part} (s : State) (id v : Nat) (h : [Part.mi, .out] ⊆ W) :
    (s.miSet id v).without W = s.without W := by
  simp only [List.cons_subset, List.nil_subset, and_true] at h
  simp only [State.miSet, ↓State.miAnswer_without, ↓without_mi, ↓without_ite, ↓without_foldl, ite_self, implies_true,
      List.cons_subset, List.nil_subset, and_true, and_self, true_and, h]

theorem State.miGet_without {W : List Part} (s : State) (id : Nat) (h : [Part.out] ⊆ W) :
    (s.miGet id).without W = s.without W := by
  simp only [List.cons_subset, List.nil_subset, and_true] at h
  simp only [State.miGet, ↓State.miAnswer_without, ↓without_ite, ↓without_foldl, ite_self, implies_true,
      List.cons_subset, List.nil_subset, and_true, and_self, true_and, h]

theorem State.miVpd_without {W : List Part} (s : State) (off len : Nat) (h : [Part.out] ⊆ W) :
    (s.miVpd off len).without W = s.without W := by
  simp only [List.cons_subset, List.nil_subset, and_true] at h
  simp only [State.miVpd, ↓State.miAnswer_without, ↓State.emit_without, ↓without_ite, ↓without_foldl, ite_self,
      implies_true, List.cons_subset, List.nil_subset, and_true, and_self, true_and, h]

end Sys2Proof.Machine
end

