-- ==== Sys2Proof/Laws/KeepProfile.lean ====
section
/-! SUPPORT. Which parts of the state the operations of Machine/Profile.lean may change: every other part stays. -/
set_option linter.unusedSimpArgs false
set_option linter.unusedVariables false
namespace Sys2Proof.Machine


theorem State.setProfile_without {W : List Part} (s : State) (p : Profile) (h : [Part.mch, .regs 6] ⊆ W) :
    (s.setProfile p).without W = s.without W := by
  simp only [List.cons_subset, List.nil_subset, and_true] at h
  simp only [State.setProfile, ↓State.setReg_without, ↓State.setField_without, ↓State.setNum_without,
      ↓State.setBit_without, ↓without_mch, Reg.mchProfileVer, Reg.mchProfileDigest, Reg.mchProfileId, Reg.mchGstatus,
      Nat.reduceDiv, ↓without_ite, ↓without_foldl, ite_self, implies_true, List.cons_subset, List.nil_subset, and_true,
      and_self, true_and, h]

theorem State.bindProfile_without {W : List Part} (s : State) (b : List Byte) (h : [Part.mch, .evc, .sec, .out,
    .regs 6, .regs 15] ⊆ W) :
    (s.bindProfile b).without W = s.without W := by
  simp only [List.cons_subset, List.nil_subset, and_true] at h
  simp only [State.bindProfile, ↓State.startBringup_without, ↓State.setProfile_without, ↓State.raise_without,
      ↓without_mch_sec, Reg.mchEvent, Nat.reduceDiv, ↓without_ite, ↓without_foldl, ite_self, implies_true,
      List.cons_subset, List.nil_subset, and_true, and_self, true_and, h]

end Sys2Proof.Machine
end

