-- ==== Sys2Proof/Laws/KeepSecurity.lean ====
section
/-! SUPPORT. Which parts of the state the operations of Machine/Security.lean may change: every other part stays. -/
set_option linter.unusedSimpArgs false
set_option linter.unusedVariables false
namespace Sys2Proof.Machine


theorem State.spdm_without {W : List Part} (s : State) (code : Nat) (vals : List Nat) (bytes : List Byte)
    (h : [Part.fns, .hpt, .out, .regs 1, .regs 3] ⊆ W) :
    (s.spdm code vals bytes).without W = s.without W := by
  simp only [List.cons_subset, List.nil_subset, and_true] at h
  simp only [State.spdm, ↓State.doeReady_without, ↓State.emit_without, ↓without_ite, ↓without_foldl, ite_self,
      implies_true, List.cons_subset, List.nil_subset, and_true, and_self, true_and, h]

theorem State.spdmError_without {W : List Part} (s : State) (code : Nat) (h : [Part.fns, .hpt, .out, .regs 1,
    .regs 3] ⊆ W) :
    (s.spdmError code).without W = s.without W := by
  simp only [List.cons_subset, List.nil_subset, and_true] at h
  simp only [State.spdmError, ↓State.spdm_without, ↓without_ite, ↓without_foldl, ite_self, implies_true,
      List.cons_subset, List.nil_subset, and_true, and_self, true_and, h]

theorem State.digests_without {W : List Part} (s : State) (h : [Part.fns, .hpt, .out, .regs 1, .regs 3] ⊆ W) :
    (s.digests).without W = s.without W := by
  simp only [List.cons_subset, List.nil_subset, and_true] at h
  simp only [State.digests, ↓State.spdm_without, ↓without_ite, ↓without_foldl, ite_self, implies_true,
      List.cons_subset, List.nil_subset, and_true, and_self, true_and, h]

theorem State.certificate_without {W : List Part} (s : State) (slot off len : Nat) (h : [Part.fns, .hpt, .out, .regs 1,
    .regs 3] ⊆ W) :
    (s.certificate slot off len).without W = s.without W := by
  simp only [List.cons_subset, List.nil_subset, and_true] at h
  unfold State.certificate
  (repeat' split) <;> simp only [↓State.spdmError_without, ↓State.spdm_without, ↓without_ite, ↓without_foldl, ite_self,
      implies_true, List.cons_subset, List.nil_subset, and_true, and_self, true_and, h]

theorem State.challengeAuth_without {W : List Part} (s : State) (slot : Nat) (nonce : List Byte) (h : [Part.fns, .hpt,
    .out, .regs 1, .regs 3] ⊆ W) :
    (s.challengeAuth slot nonce).without W = s.without W := by
  simp only [List.cons_subset, List.nil_subset, and_true] at h
  simp only [State.challengeAuth, ↓State.spdmError_without, ↓State.spdm_without, ↓without_ite, ↓without_foldl,
      ite_self, implies_true, List.cons_subset, List.nil_subset, and_true, and_self, true_and, h]

theorem State.measurements_without {W : List Part} (s : State) (index : Nat) (nonce : List Byte) (h : [Part.fns, .hpt,
    .out, .regs 1, .regs 3] ⊆ W) :
    (s.measurements index nonce).without W = s.without W := by
  simp only [List.cons_subset, List.nil_subset, and_true] at h
  simp only [State.measurements, ↓State.spdmError_without, ↓State.spdm_without, ↓without_ite, ↓without_foldl, ite_self,
      implies_true, List.cons_subset, List.nil_subset, and_true, and_self, true_and, h]

theorem State.keyExchange_without {W : List Part} (s : State) (slot : Nat) (pub : List Byte) (h : [Part.fns, .hpt,
    .evc, .sec, .out, .regs 1, .regs 3, .regs 12, .regs 15] ⊆ W) :
    (s.keyExchange slot pub).without W = s.without W := by
  simp only [List.cons_subset, List.nil_subset, and_true] at h
  simp only [State.keyExchange, ↓State.spdmError_without, ↓State.openSession_without, ↓State.spdm_without,
      ↓without_ite, ↓without_foldl, ite_self, implies_true, List.cons_subset, List.nil_subset, and_true, and_self,
      true_and, h]

theorem State.finishSession_without {W : List Part} (s : State) (id : Nat) (macOk : Bool) (h : [Part.fns, .hpt, .evc,
    .sec, .out, .regs 1, .regs 3, .regs 12, .regs 15] ⊆ W) :
    (s.finishSession id macOk).without W = s.without W := by
  simp only [List.cons_subset, List.nil_subset, and_true] at h
  unfold State.finishSession
  (repeat' split) <;> simp only [↓State.spdmError_without, ↓State.spdm_without, ↓State.dropSessions_without,
      ↓without_sec, ↓without_ite, ↓without_foldl, ite_self, implies_true, List.cons_subset, List.nil_subset, and_true,
      and_self, true_and, h]

theorem State.pskExchange_without {W : List Part} (s : State) (hint : List Byte) (h : [Part.fns, .hpt, .evc, .sec,
    .out, .regs 1, .regs 3, .regs 12, .regs 15] ⊆ W) :
    (s.pskExchange hint).without W = s.without W := by
  simp only [List.cons_subset, List.nil_subset, and_true] at h
  unfold State.pskExchange
  (repeat' split) <;> simp only [↓State.spdmError_without, ↓State.openSession_without, ↓State.spdm_without,
      ↓without_ite, ↓without_foldl, ite_self, implies_true, List.cons_subset, List.nil_subset, and_true, and_self,
      true_and, h]

theorem State.endOwnSession_without {W : List Part} (s : State) (id : Nat) (h : [Part.fns, .hpt, .evc, .sec, .out,
    .regs 1, .regs 3, .regs 12, .regs 15] ⊆ W) :
    (s.endOwnSession id).without W = s.without W := by
  simp only [List.cons_subset, List.nil_subset, and_true] at h
  unfold State.endOwnSession
  (repeat' split) <;> simp only [↓State.spdmError_without, ↓State.spdm_without, ↓State.dropSessions_without,
      ↓without_ite, ↓without_foldl, ite_self, implies_true, List.cons_subset, List.nil_subset, and_true, and_self,
      true_and, h]

theorem State.authFailed_without {W : List Part} (s : State) (h : [Part.hpt, .evc, .log, .regs 12, .regs 15,
    .regs 20] ⊆ W) :
    (s.authFailed).without W = s.without W := by
  simp only [List.cons_subset, List.nil_subset, and_true] at h
  simp only [State.authFailed, ↓State.countErr_without, ↓State.raise_without, ↓without_hpt, Reg.secEvent,
      Reg.secAuthFailCnt, Nat.reduceDiv, ↓without_ite, ↓without_foldl, ite_self, implies_true, List.cons_subset,
      List.nil_subset, and_true, and_self, true_and, h]

theorem State.touchSession_without {W : List Part} (s : State) (id : Nat) (h : [Part.sec] ⊆ W) :
    (s.touchSession id).without W = s.without W := by
  simp only [List.cons_subset, List.nil_subset, and_true] at h
  simp only [State.touchSession, ↓without_sec, ↓without_ite, ↓without_foldl, ite_self, implies_true, List.cons_subset,
      List.nil_subset, and_true, and_self, true_and, h]

theorem State.spdmReq_without {W : List Part} (s : State) (f : State → State) (h : [Part.hpt, .evc, .log, .sec,
    .regs 12, .regs 15, .regs 20] ⊆ W) (hf : ∀ t, (f t).without W = t.without W) :
    (s.spdmReq f).without W = s.without W := by
  simp only [List.cons_subset, List.nil_subset, and_true] at h
  have e0 := fun (s : State) (id : Nat) => State.touchSession_without (W := W) s id (by simp only [List.cons_subset, List.nil_subset, and_true, Nat.reduceDiv, h])
  have e1 := fun (s : State) => State.authFailed_without (W := W) s (by simp only [List.cons_subset, List.nil_subset, and_true, Nat.reduceDiv, h])
  unfold State.spdmReq
  repeat' (first
    | with_reducible rfl
    | with_reducible refine (hf _).trans ?_
    | with_reducible refine (e0 _ _).trans ?_
    | with_reducible refine (e1 _).trans ?_
    | with_reducible refine without_if ?_ ?_
    | with_reducible refine (without_foldl (fun t a => ?_) _ _).trans ?_
    | (with_reducible refine without_of_snd (by assumption) ?_)
    | (with_reducible refine without_of_fst (by assumption) ?_)
    | split)

theorem State.sessionExpiry_without {W : List Part} (s : State) (id : Nat) (h : [Part.evc, .sec, .regs 12,
    .regs 15] ⊆ W) :
    (s.sessionExpiry id).without W = s.without W := by
  simp only [List.cons_subset, List.nil_subset, and_true] at h
  simp only [State.sessionExpiry, ↓State.raise_without, ↓State.dropSessions_without, Reg.secEvent, Nat.reduceDiv,
      ↓without_ite, ↓without_foldl, ite_self, implies_true, List.cons_subset, List.nil_subset, and_true, and_self,
      true_and, h]

theorem State.mgmtReply_without {W : List Part} (s : State) (opcode seq : Nat) (a : MgmtAnswer) (h : [Part.fns, .hpt,
    .evc, .log, .out, .regs 1, .regs 3, .regs 12, .regs 15, .regs 20] ⊆ W) :
    (s.mgmtReply opcode seq a).without W = s.without W := by
  simp only [List.cons_subset, List.nil_subset, and_true] at h
  simp only [State.mgmtReply, ↓State.countErr_without, ↓State.doeReady_without, ↓State.raise_without,
      ↓State.emit_without, Reg.secEvent, Reg.secReqRefusedCnt, Nat.reduceDiv, ↓without_ite, ↓without_foldl, ite_self,
      implies_true, List.cons_subset, List.nil_subset, and_true, and_self, true_and, h]

theorem State.mgmt_without {W : List Part} (s : State) (id opcode seq : Nat) (allowed : State → Sess → Bool)
    (f : State → State × MgmtAnswer) (h : [Part.fns, .hpt, .evc, .log, .sec, .out, .regs 1, .regs 3, .regs 12,
    .regs 15, .regs 20] ⊆ W) (hf : ∀ t, (f t).1.without W = t.without W) :
    (s.mgmt id opcode seq allowed f).without W = s.without W := by
  simp only [List.cons_subset, List.nil_subset, and_true] at h
  have e0 := fun (s : State) (opcode seq : Nat) (a : MgmtAnswer) => State.mgmtReply_without (W := W) s opcode seq a (by simp only [List.cons_subset, List.nil_subset, and_true, Nat.reduceDiv, h])
  have e1 := fun (s : State) (id : Nat) => State.touchSession_without (W := W) s id (by simp only [List.cons_subset, List.nil_subset, and_true, Nat.reduceDiv, h])
  have e2 := fun (s : State) => State.authFailed_without (W := W) s (by simp only [List.cons_subset, List.nil_subset, and_true, Nat.reduceDiv, h])
  unfold State.mgmt
  dsimp only
  repeat' (first
    | with_reducible rfl
    | with_reducible refine (hf _).trans ?_
    | with_reducible refine (e0 _ _ _ _).trans ?_
    | with_reducible refine (e1 _ _).trans ?_
    | with_reducible refine (e2 _).trans ?_
    | with_reducible refine without_if ?_ ?_
    | with_reducible refine (without_foldl (fun t a => ?_) _ _).trans ?_
    | (with_reducible refine without_of_snd (by assumption) ?_)
    | (with_reducible refine without_of_fst (by assumption) ?_)
    | split)

theorem State.claimDevice_without {W : List Part} (s : State) (id : Nat) (psk hint : List Byte) (h : [Part.mcr, .evc,
    .sec, .draw, .regs 11, .regs 12, .regs 15] ⊆ W) :
    (s.claimDevice id psk hint).1.without W = s.without W := by
  simp only [List.cons_subset, List.nil_subset, and_true] at h
  have dr : ∀ t : State, t.drawn.without W = t.without W := fun t => State.drawn_without _ (by simp only [List.cons_subset, List.nil_subset, and_true, h])
  unfold State.claimDevice
  dsimp only
  split
  · rfl
  · show State.without W (State.dropSessions _ _) = _
    rw [State.dropSessions_without _ _ (by simp only [List.cons_subset, List.nil_subset, and_true, h]), State.raise_without _ _ _ (by simp only [List.cons_subset, List.nil_subset, and_true, Reg.secEvent, Nat.reduceDiv, h]), State.showMtrKey_without _ (by simp only [List.cons_subset, List.nil_subset, and_true, h]), State.setBit_without _ _ _ _ (by simp only [List.cons_subset, List.nil_subset, and_true, Reg.secStatus, Nat.reduceDiv, h])]
    refine (without_mcr_sec (W := W) s.drawn.drawn _ _ (by simp only [h]) (by simp only [h]) (by rfl)).trans
        ((dr _).trans (dr _))

theorem State.rotatePsk_without {W : List Part} (s : State) (id : Nat) (psk hint : List Byte) (h : [Part.evc, .sec,
    .regs 12, .regs 15] ⊆ W) :
    (s.rotatePsk id psk hint).1.without W = s.without W := by
  simp only [List.cons_subset, List.nil_subset, and_true] at h
  unfold State.rotatePsk
  (repeat' split) <;> simp only [↓State.dropSessions_without, ↓without_sec, ↓without_ite, ↓without_foldl, ite_self,
      implies_true, List.cons_subset, List.nil_subset, and_true, and_self, true_and, h]

theorem State.commitRollback_without {W : List Part} (s : State) (h : [Part.evc, .fuses, .sec, .regs 12,
    .regs 15] ⊆ W) :
    (s.commitRollback).1.without W = s.without W := by
  simp only [List.cons_subset, List.nil_subset, and_true] at h
  unfold State.commitRollback
  (repeat' split) <;> simp only [↓State.setField_without, ↓State.raise_without, ↓without_sec_fuses, Reg.secEvent,
      Reg.secStatus, Nat.reduceDiv, ↓without_ite, ↓without_foldl, ite_self, implies_true, List.cons_subset,
      List.nil_subset, and_true, and_self, true_and, h]

theorem State.mgmtLoadImage_without {W : List Part} (s : State) (addr : BitVec 64) (len : Word) (h : [Part.prx, .fns,
    .hpt, .evc, .log, .sec, .lpb, .out, .regs 1, .regs 3, .regs 5, .regs 11, .regs 15, .regs 19, .regs 20] ⊆ W) :
    (s.mgmtLoadImage addr len).1.without W = s.without W := by
  simp only [List.cons_subset, List.nil_subset, and_true] at h
  unfold State.mgmtLoadImage
  dsimp only
  (repeat' split) <;> simp only [↓State.setReg_without, ↓State.setNum_without, ↓State.loadStart_without, ↓without_sec,
      Reg.prxLoadAddrLo, Reg.prxLoadLen, Reg.prxStatus, Reg.prxLoadStatus, Reg.prxLoadAddrHi, Nat.reduceDiv,
      ↓without_ite, ↓without_foldl, ite_self, implies_true, List.cons_subset, List.nil_subset, and_true, and_self,
      true_and, h]

theorem State.mgmtArm_without {W : List Part} (s : State) (frame : BitVec 64) (h : [Part.prx, .rdp, .mcr, .evc, .mlk,
    .log, .out, .regs 5, .regs 13, .regs 15, .regs 20] ⊆ W) :
    (s.mgmtArm frame).1.without W = s.without W := by
  simp only [List.cons_subset, List.nil_subset, and_true] at h
  unfold State.mgmtArm
  dsimp only
  (repeat' split) <;> simp only [↓State.setNum_without, ↓State.arm_without, Reg.prxSwitchFrameLo, Reg.prxArmStatus,
      Reg.prxSwitchFrameHi, Nat.reduceDiv, ↓without_ite, ↓without_foldl, ite_self, implies_true, List.cons_subset,
      List.nil_subset, and_true, and_self, true_and, h]

theorem State.mgmtDisarm_without {W : List Part} (s : State) (h : [Part.prx, .rdp, .mcr, .evc, .mlk, .out, .regs 5,
    .regs 13, .regs 15] ⊆ W) :
    (s.mgmtDisarm).1.without W = s.without W := by
  simp only [List.cons_subset, List.nil_subset, and_true] at h
  unfold State.mgmtDisarm
  (repeat' split) <;> simp only [↓State.disarm_without, ↓without_ite, ↓without_foldl, ite_self, implies_true,
      List.cons_subset, List.nil_subset, and_true, and_self, true_and, h]

theorem State.mgmtTrim_without {W : List Part} (s : State) (vf dir : Nat) (trim : Word) (h : [Part.prx, .regs 5] ⊆ W) :
    (s.mgmtTrim vf dir trim).1.without W = s.without W := by
  simp only [List.cons_subset, List.nil_subset, and_true] at h
  unfold State.mgmtTrim
  (repeat' split) <;> simp only [↓State.setField_without, ↓State.trim_without, Reg.prxTrimSel, Nat.reduceDiv,
      ↓without_ite, ↓without_foldl, ite_self, implies_true, List.cons_subset, List.nil_subset, and_true, and_self,
      true_and, h]

theorem State.mgmtBind_without {W : List Part} (s : State) (b : List Byte) (h : [Part.mch, .evc, .sec, .out, .draw,
    .regs 6, .regs 15] ⊆ W) :
    (s.mgmtBind b).1.without W = s.without W := by
  simp only [List.cons_subset, List.nil_subset, and_true] at h
  unfold State.mgmtBind
  dsimp only
  split
  · rfl
  · split
    · rfl
    · split
      · exact State.bindProfile_without _ _ (by simp only [List.cons_subset, List.nil_subset, and_true, h])
      · refine (without_sec (W := W) s.drawn _ (by simp only [h]) (by rfl)).trans (State.drawn_without _ (by simp only [List.cons_subset, List.nil_subset, and_true, h]))

theorem State.mgmtInstall_without {W : List Part} (s : State) (id seq nsid : Nat) (wrapped : List Byte) (h : [Part.rdp,
    .nss, .evc, .mlk, .log, .keys, .out, .regs 10, .regs 12, .regs 13, .regs 15, .regs 20] ⊆ W) :
    (s.mgmtInstall id seq nsid wrapped).1.without W = s.without W := by
  simp only [List.cons_subset, List.nil_subset, and_true] at h
  unfold State.mgmtInstall
  dsimp only
  (repeat' split) <;> simp only [↓State.countErr_without, ↓State.setKey_without, ↓State.resyncAlone_without,
      Reg.tcyUnwrapFailCnt, Nat.reduceDiv, ↓without_ite, ↓without_foldl, ite_self, implies_true, List.cons_subset,
      List.nil_subset, and_true, and_self, true_and, h]

theorem State.mgmtGenerate_without {W : List Part} (s : State) (nsid : Nat) (h : [Part.rdp, .nss, .evc, .mlk, .keys,
    .out, .draw, .regs 10, .regs 12, .regs 13, .regs 15] ⊆ W) :
    (s.mgmtGenerate nsid).1.without W = s.without W := by
  simp only [List.cons_subset, List.nil_subset, and_true] at h
  unfold State.mgmtGenerate
  dsimp only
  (repeat' split) <;> simp only [↓State.newKey_without, ↓State.setKey_without, ↓without_ite, ↓without_foldl, ite_self,
      implies_true, List.cons_subset, List.nil_subset, and_true, and_self, true_and, h]

theorem State.writeShadow_without {W : List Part} (s : State) (w : Nat) (v : WindowVals) (h : [Part.regs 18] ⊆ W) :
    (s.writeShadow w v).without W = s.without W := by
  simp only [List.cons_subset, List.nil_subset, and_true] at h
  simp only [State.writeShadow, ↓State.setReg_without, page_lpbWinShadowCfg, page_lpbWinShadowLimit,
      page_lpbWinShadowTrans, page_lpbWinShadowBase, Nat.reduceDiv, ↓without_ite, ↓without_foldl, ite_self,
      implies_true, List.cons_subset, List.nil_subset, and_true, and_self, true_and, h]

theorem State.mgmtWindow_without {W : List Part} (s : State) (w : Nat) (v : WindowVals) (h : [Part.evc, .lpb, .regs 15,
    .regs 18] ⊆ W) :
    (s.mgmtWindow w v).1.without W = s.without W := by
  simp only [List.cons_subset, List.nil_subset, and_true] at h
  unfold State.mgmtWindow
  dsimp only
  (repeat' split) <;> simp only [↓State.winCommit_without, ↓State.writeShadow_without, Reg.lpbCommitStatus,
      Nat.reduceDiv, ↓without_ite, ↓without_foldl, ite_self, implies_true, List.cons_subset, List.nil_subset, and_true,
      and_self, true_and, h]

theorem State.uartImage_without {W : List Part} (s : State) (img : Option SlotImage) (desc : Option (List Byte))
    (h : [Part.pwr, .log, .sec] ⊆ W) :
    (s.uartImage img desc).without W = s.without W := by
  simp only [List.cons_subset, List.nil_subset, and_true] at h
  unfold State.uartImage
  (repeat' split) <;> simp only [↓without_pwr, ↓without_sec, Reg.pwrStatus, Nat.reduceDiv, ↓without_ite,
      ↓without_foldl, ite_self, implies_true, List.cons_subset, List.nil_subset, and_true, and_self, true_and, h]

end Sys2Proof.Machine
end

