-- ==== Sys2Proof/Laws/KeepBoot.lean ====
section
/-! SUPPORT. Which parts of the state the operations of Machine/Boot.lean may change: every other part stays. -/
set_option linter.unusedSimpArgs false
set_option linter.unusedVariables false
namespace Sys2Proof.Machine


theorem State.relevelAll_without {W : List Part} (s : State) (h : [Part.evc, .regs 15] ⊆ W) :
    (s.relevelAll).without W = s.without W := by
  simp only [List.cons_subset, List.nil_subset, and_true] at h
  simp only [State.relevelAll, ↓State.relevel_without, ↓without_ite, ↓without_foldl, ite_self, implies_true,
      List.cons_subset, List.nil_subset, and_true, and_self, true_and, h]

theorem State.restoreLog_without {W : List Part} (s : State) (h : [Part.evc, .log, .regs 15, .regs 20] ⊆ W) :
    (s.restoreLog).without W = s.without W := by
  simp only [List.cons_subset, List.nil_subset, and_true] at h
  simp only [State.restoreLog, ↓State.logNew_without, ↓without_ite, ↓without_foldl, ite_self, implies_true,
      List.cons_subset, List.nil_subset, and_true, and_self, true_and, h]

theorem State.setStage_without {W : List Part} (s : State) (k : Nat) (h : [Part.regs 20] ⊆ W) :
    (s.setStage k).without W = s.without W := by
  simp only [List.cons_subset, List.nil_subset, and_true] at h
  simp only [State.setStage, ↓State.setField_without, Reg.pwrStatus, Nat.reduceDiv, ↓without_ite, ↓without_foldl,
      ite_self, implies_true, List.cons_subset, List.nil_subset, and_true, and_self, true_and, h]

theorem State.recoveryBoot_without {W : List Part} (s : State) (err : Nat) (h : [Part.fns, .regs 20] ⊆ W) :
    (s.recoveryBoot err).without W = s.without W := by
  simp only [List.cons_subset, List.nil_subset, and_true] at h
  simp only [State.recoveryBoot, ↓State.updFn_without, ↓State.setField_without, ↓State.setBit_without, Reg.pwrStatus,
      Nat.reduceDiv, ↓without_ite, ↓without_foldl, ite_self, implies_true, List.cons_subset, List.nil_subset, and_true,
      and_self, true_and, h]

theorem State.romDone_without {W : List Part} (s : State) (h : [Part.out, .regs 12, .regs 20] ⊆ W) :
    (s.romDone).without W = s.without W := by
  simp only [List.cons_subset, List.nil_subset, and_true] at h
  simp only [State.romDone, ↓State.setField_without, ↓State.setBit_without, ↓State.setStage_without,
      ↓State.emit_without, Reg.secStatus, Nat.reduceDiv, ↓without_ite, ↓without_foldl, ite_self, implies_true,
      List.cons_subset, List.nil_subset, and_true, and_self, true_and, h]

theorem State.norRead_without {W : List Part} (s : State) (mhz bytes : Nat) (h : [Part.pwr, .log, .out] ⊆ W) :
    (s.norRead mhz bytes).without W = s.without W := by
  simp only [List.cons_subset, List.nil_subset, and_true] at h
  simp only [State.norRead, ↓State.emit_without, ↓without_pwr, ↓without_ite, ↓without_foldl, ite_self, implies_true,
      List.cons_subset, List.nil_subset, and_true, and_self, true_and, h]

theorem State.runSlot_without {W : List Part} (s : State) (slotB fallback : Bool) (x : SlotImage) (h : [Part.sec,
    .regs 12, .regs 20] ⊆ W) :
    (s.runSlot slotB fallback x).without W = s.without W := by
  simp only [List.cons_subset, List.nil_subset, and_true] at h
  simp only [State.runSlot, ↓State.setField_without, ↓State.setNum_without, ↓State.setBit_without,
      ↓State.setStage_without, ↓without_sec, Reg.secStatus, Reg.secFwVersion, Nat.reduceDiv, ↓without_ite,
      ↓without_foldl, ite_self, implies_true, List.cons_subset, List.nil_subset, and_true, and_self, true_and, h]

theorem State.firmwareDone_without {W : List Part} (s : State) (a b : Option SlotImage) (prefer : Bool) (h : [Part.fns,
    .evc, .log, .sec, .regs 12, .regs 15, .regs 20] ⊆ W) :
    (s.firmwareDone a b prefer).without W = s.without W := by
  simp only [List.cons_subset, List.nil_subset, and_true] at h
  unfold State.firmwareDone
  dsimp only
  (repeat' split) <;> simp only [↓State.countErr_without, ↓State.runSlot_without, ↓State.recoveryBoot_without,
      ↓without_sec, Reg.secBootFailCnt, Nat.reduceDiv, ↓without_ite, ↓without_foldl, ite_self, implies_true,
      List.cons_subset, List.nil_subset, and_true, and_self, true_and, h]

theorem State.hostDone_without {W : List Part} (s : State) (b : List Byte) (h : [Part.fns, .pwr, .log, .regs 13,
    .regs 20] ⊆ W) :
    (s.hostDone b).without W = s.without W := by
  simp only [List.cons_subset, List.nil_subset, and_true] at h
  simp only [State.hostDone, ↓State.setBit_without, ↓State.setStage_without, ↓State.recoveryBoot_without, ↓without_pwr,
      Reg.mlkStatus, Nat.reduceDiv, ↓without_ite, ↓without_foldl, ite_self, implies_true, List.cons_subset,
      List.nil_subset, and_true, and_self, true_and, h]

theorem State.mediaBegin_without {W : List Part} (s : State) (stored : List Byte) (h : [Part.prx, .cmds, .mch, .rdp,
    .aens, .evc, .mlk, .log, .out, .regs 5, .regs 6, .regs 13, .regs 15, .regs 20] ⊆ W) :
    (s.mediaBegin stored).without W = s.without W := by
  simp only [List.cons_subset, List.nil_subset, and_true] at h
  simp only [State.mediaBegin, ↓State.setBit_without, ↓State.startBringup_without, ↓State.setProfile_without,
      ↓State.refuseCh_without, ↓State.emit_without, ↓without_mch, Reg.sppStatus, Nat.reduceDiv, ↓without_ite,
      ↓without_foldl, ite_self, implies_true, List.cons_subset, List.nil_subset, and_true, and_self, true_and, h]

theorem State.memoriesDone_without {W : List Part} (s : State) (trained : Bool) (gib channels ranks width : Nat)
    (stored : List Byte) (h : [Part.prx, .cmds, .mch, .rdp, .fns, .aens, .evc, .mlk, .pwr, .log, .out, .regs 5,
    .regs 6, .regs 13, .regs 14, .regs 15, .regs 20, .regs 21] ⊆ W) :
    (s.memoriesDone trained gib channels ranks width stored).without W = s.without W := by
  simp only [List.cons_subset, List.nil_subset, and_true] at h
  simp only [State.memoriesDone, ↓State.raiseLog_without, ↓State.setNum_without, ↓State.setBit_without,
      ↓State.mediaBegin_without, ↓State.setStage_without, ↓State.domainReset_without, ↓State.when_without,
      ↓State.recoveryBoot_without, ↓without_pwr, Reg.srmStatus, Reg.pwrDomainSeen, Reg.ddrStatus, Reg.pwrResetCause,
      Reg.ddrEvent, Nat.reduceDiv, ↓without_ite, ↓without_foldl, ite_self, implies_true, List.cons_subset,
      List.nil_subset, and_true, and_self, true_and, h]

theorem State.claimReset_without {W : List Part} (s : State) (h : [Part.prx, .cmds, .mch, .rdp, .wrp, .mcr, .nss, .evc,
    .mlk, .sec, .keys, .mtr, .out, .draw, .regs 7, .regs 8, .regs 9, .regs 10, .regs 11, .regs 12, .regs 13,
    .regs 15] ⊆ W) :
    (s.claimReset).without W = s.without W := by
  simp only [List.cons_subset, List.nil_subset, and_true] at h
  simp only [State.claimReset, ↓State.setNum_without, ↓State.setBit_without, ↓State.showMtrKey_without,
      ↓State.cryptoErase_without, ↓without_wrp_mcr_sec_mtr, Reg.secStatus, Reg.wrpDumpCnt, Nat.reduceDiv, ↓without_ite,
      ↓without_foldl, ite_self, implies_true, List.cons_subset, List.nil_subset, and_true, and_self, true_and, h]

theorem State.chainsLost_without {W : List Part} (s : State) (n : Nat) (h : [Part.evc, .log, .regs 11, .regs 15,
    .regs 20] ⊆ W) :
    (s.chainsLost n).without W = s.without W := by
  simp only [List.cons_subset, List.nil_subset, and_true] at h
  simp only [State.chainsLost, ↓State.logAt_without, ↓State.raise_without, ↓State.inc_without, Reg.mtrEvent,
      Reg.mtrChainRestartCnt, Nat.reduceDiv, ↓without_ite, ↓without_foldl, ite_self, implies_true, List.cons_subset,
      List.nil_subset, and_true, and_self, true_and, h]

theorem State.lifecycleCheck_without {W : List Part} (s : State) (nonceOk agree : Bool) (h : [Part.prx, .cmds, .mch,
    .rdp, .wrp, .mcr, .nss, .evc, .mlk, .log, .sec, .keys, .mtr, .out, .draw, .regs 7, .regs 8, .regs 9, .regs 10,
    .regs 11, .regs 12, .regs 13, .regs 15, .regs 20] ⊆ W) :
    (s.lifecycleCheck nonceOk agree).without W = s.without W := by
  simp only [List.cons_subset, List.nil_subset, and_true] at h
  simp only [State.lifecycleCheck, ↓State.chainsLost_without, ↓State.claimReset_without, ↓without_sec_keys_mtr,
      ↓without_ite, ↓without_foldl, ite_self, implies_true, List.cons_subset, List.nil_subset, and_true, and_self,
      true_and, h]

theorem State.programHoldup_without {W : List Part} (s : State) (d : BoardDesc) (h : [Part.regs 8, .regs 9] ⊆ W) :
    (s.programHoldup d).without W = s.without W := by
  simp only [List.cons_subset, List.nil_subset, and_true] at h
  simp only [State.programHoldup, ↓State.setField_without, ↓State.setNum_without, Reg.mcrHoldupLoad, Reg.wrpHoldupCtl,
      Reg.mcrHoldupMin, Nat.reduceDiv, ↓without_ite, ↓without_foldl, ite_self, implies_true, List.cons_subset,
      List.nil_subset, and_true, and_self, true_and, h]

theorem State.loadExtension_without {W : List Part} (s : State) (x : Option SlotImage) (h : [Part.regs 15] ⊆ W) :
    (s.loadExtension x).without W = s.without W := by
  simp only [List.cons_subset, List.nil_subset, and_true] at h
  simp only [State.loadExtension, ↓State.setField_without, Reg.evcCoreState, Nat.reduceDiv, ↓without_ite,
      ↓without_foldl, ite_self, implies_true, List.cons_subset, List.nil_subset, and_true, and_self, true_and, h]

theorem State.pairBoot_without {W : List Part} (s : State) (h : [Part.prx, .cmds, .rdp, .wrp, .mcr, .nss, .evc, .mlk,
    .log, .out, .regs 7, .regs 8, .regs 9, .regs 13, .regs 15, .regs 20] ⊆ W) :
    (s.pairBoot).without W = s.without W := by
  simp only [List.cons_subset, List.nil_subset, and_true] at h
  simp only [State.pairBoot, ↓State.driveFence_without, ↓State.setField_without, ↓State.join_without,
      ↓State.unprotectAll_without, ↓State.settleRole_without, ↓State.setRole_without, ↓State.setPairState_without,
      ↓State.endSession_without, ↓without_mlk, Reg.mlkGrace, Nat.reduceDiv, ↓without_ite, ↓without_foldl, ite_self,
      implies_true, List.cons_subset, List.nil_subset, and_true, and_self, true_and, h]

theorem State.mediaDone_without {W : List Part} (s : State) (nonceOk agree : Bool) (x : Option SlotImage)
    (h : [Part.prx, .cmds, .mch, .rdp, .wrp, .mcr, .nss, .evc, .mlk, .log, .sec, .keys, .mtr, .out, .draw, .regs 7,
    .regs 8, .regs 9, .regs 10, .regs 11, .regs 12, .regs 13, .regs 15, .regs 20] ⊆ W) :
    (s.mediaDone nonceOk agree x).without W = s.without W := by
  simp only [List.cons_subset, List.nil_subset, and_true] at h
  unfold State.mediaDone
  dsimp only
  (repeat' split) <;> simp only [↓State.lifecycleCheck_without, ↓State.loadExtension_without, ↓State.showSlots_without,
      ↓State.setStage_without, ↓State.showMtrKey_without, ↓State.programHoldup_without, ↓State.pairBoot_without,
      Reg.mchGstatus, Nat.reduceDiv, ↓without_ite, ↓without_foldl, ite_self, implies_true, List.cons_subset,
      List.nil_subset, and_true, and_self, true_and, h]

theorem State.restoreStaging_without {W : List Part} (s : State) (ws : List SWrite) (h : [Part.wrp, .nss,
    .regs 8] ⊆ W) :
    (s.restoreStaging ws).without W = s.without W := by
  simp only [List.cons_subset, List.nil_subset, and_true] at h
  simp only [State.restoreStaging, ↓State.destage_without, ↓State.markRegions_without, ↓State.showStaging_without,
      ↓without_wrp, ↓without_ite, ↓without_foldl, ite_self, implies_true, List.cons_subset, List.nil_subset, and_true,
      and_self, true_and, h]

theorem State.recount_without {W : List Part} (s : State) (h : [Part.mch] ⊆ W) :
    (s.recount).without W = s.without W := by
  simp only [List.cons_subset, List.nil_subset, and_true] at h
  simp only [State.recount, ↓State.addValid_without, ↓without_mch, ↓without_ite, ↓without_foldl, ite_self,
      implies_true, List.cons_subset, List.nil_subset, and_true, and_self, true_and, h]

theorem State.loadMap_without {W : List Part} (s : State) (tail : List JRec) (h : [Part.mch, .wrp] ⊆ W) :
    (s.loadMap tail).without W = s.without W := by
  simp only [List.cons_subset, List.nil_subset, and_true] at h
  simp only [State.loadMap, ↓State.recount_without, ↓without_wrp, ↓without_ite, ↓without_foldl, ite_self, implies_true,
      List.cons_subset, List.nil_subset, and_true, and_self, true_and, h]

theorem State.restoreDump_without {W : List Part} (s : State) (d : Saved) (h : [Part.mch, .wrp, .nss, .evc, .regs 8,
    .regs 15] ⊆ W) :
    (s.restoreDump d).without W = s.without W := by
  simp only [List.cons_subset, List.nil_subset, and_true] at h
  simp only [State.restoreDump, ↓State.updDie_without, ↓State.setBit_without, ↓State.journal_without,
      ↓State.restoreStaging_without, ↓State.loadMap_without, ↓without_wrp, Reg.wrpDumpStatus, Nat.reduceDiv,
      ↓without_ite, ↓without_foldl, ite_self, implies_true, List.cons_subset, List.nil_subset, and_true, and_self,
      true_and, h]

theorem State.restoreMetering_without {W : List Part} (s : State) (dirty headsOk : Bool) (h : [Part.evc, .log, .mtr,
    .regs 11, .regs 15, .regs 20] ⊆ W) :
    (s.restoreMetering dirty headsOk).without W = s.without W := by
  simp only [List.cons_subset, List.nil_subset, and_true] at h
  unfold State.restoreMetering
  (repeat' split) <;> simp only [↓State.chainsLost_without, ↓without_mtr, ↓without_ite, ↓without_foldl, ite_self,
      implies_true, List.cons_subset, List.nil_subset, and_true, and_self, true_and, h]

theorem State.bootAge_without {W : List Part} (s : State) (h : [Part.mch, .mcr] ⊆ W) :
    (s.bootAge).without W = s.without W := by
  simp only [List.cons_subset, List.nil_subset, and_true] at h
  unfold State.bootAge
  (repeat' split) <;> simp only [↓State.ageDie_without, ↓without_mcr, ↓without_ite, ↓without_foldl, ite_self,
      implies_true, List.cons_subset, List.nil_subset, and_true, and_self, true_and, h]

theorem State.recoveryDone_without {W : List Part} (s : State) (readable headsOk : Bool) (durMs bootMs : Nat)
    (h : [Part.prx, .cmds, .mch, .rdp, .wrp, .mcr, .nss, .aens, .evc, .mlk, .pwr, .log, .sec, .keys, .mtr, .out, .draw,
    .regs 5, .regs 7, .regs 8, .regs 9, .regs 10, .regs 11, .regs 12, .regs 13, .regs 15, .regs 20] ⊆ W) :
    (s.recoveryDone readable headsOk durMs bootMs).without W = s.without W := by
  simp only [List.cons_subset, List.nil_subset, and_true] at h
  unfold State.recoveryDone
  dsimp only
  (repeat' split) <;> simp only [↓State.setNum_without, ↓State.parkWork_without, ↓State.setBit_without,
      ↓State.settle_without, ↓State.bootAge_without, ↓State.setStage_without, ↓State.raise_without,
      ↓State.showReady_without, ↓State.restoreDump_without, ↓State.loadMap_without, ↓State.claimReset_without,
      ↓State.gcReview_without, ↓State.restoreMetering_without, ↓State.showHealth_without, ↓without_pwr, ↓without_wrp,
      Reg.pwrBootTime, Reg.pwrStatus, Reg.wrpEvent, Reg.wrpRecoveryTime, Reg.pwrResetCause, Reg.pwrEvent,
      Nat.reduceDiv, ↓without_ite, ↓without_foldl, ite_self, implies_true, List.cons_subset, List.nil_subset, and_true,
      and_self, true_and, h]

theorem State.stageEnd_without {W : List Part} (s : State) (f : StageFacts) (h : [Part.prx, .cmds, .mch, .rdp, .wrp,
    .mcr, .nss, .fns, .aens, .evc, .mlk, .pwr, .log, .sec, .keys, .mtr, .out, .draw, .regs 5, .regs 6, .regs 7,
    .regs 8, .regs 9, .regs 10, .regs 11, .regs 12, .regs 13, .regs 14, .regs 15, .regs 20, .regs 21] ⊆ W) :
    (s.stageEnd f).without W = s.without W := by
  simp only [List.cons_subset, List.nil_subset, and_true] at h
  unfold State.stageEnd
  (repeat' split) <;> simp only [↓State.firmwareDone_without, ↓State.recoveryDone_without, ↓State.romDone_without,
      ↓State.mediaDone_without, ↓State.memoriesDone_without, ↓State.hostDone_without, ↓State.norRead_without,
      Reg.pwrStatus, Nat.reduceDiv, ↓without_ite, ↓without_foldl, ite_self, implies_true, List.cons_subset,
      List.nil_subset, and_true, and_self, true_and, h]

theorem State.sampleStraps_without {W : List Part} (s : State) (x : Straps) (h : [Part.pwr, .log] ⊆ W) :
    (s.sampleStraps x).without W = s.without W := by
  simp only [List.cons_subset, List.nil_subset, and_true] at h
  simp only [State.sampleStraps, ↓without_pwr, ↓without_ite, ↓without_foldl, ite_self, implies_true, List.cons_subset,
      List.nil_subset, and_true, and_self, true_and, h]

end Sys2Proof.Machine
end

