-- ==== Sys2Proof/Laws/KeepPower.lean ====
section
/-! SUPPORT. Which parts of the state the operations of Machine/Power.lean may change: every other part stays. -/
set_option linter.unusedSimpArgs false
set_option linter.unusedVariables false
namespace Sys2Proof.Machine


theorem State.resetBegin_without {W : List Part} (s : State) (cause : Nat) (h : [Part.prx, .cmds, .rdp, .wrp, .fns,
    .hpt, .mig, .evc, .sdm, .pwr, .log, .sec, .lpb, .out, .draw, .regs 1, .regs 2, .regs 3, .regs 7, .regs 8, .regs 11,
    .regs 12, .regs 15, .regs 17, .regs 19, .regs 20] ⊆ W) :
    (s.resetBegin cause).without W = s.without W := by
  simp only [List.cons_subset, List.nil_subset, and_true] at h
  simp only [State.resetBegin, ↓State.abandonNp_without, ↓State.endHostLists_without, ↓State.dropCmds_without,
      ↓State.doeAbort_without, ↓State.migHostLost_without, ↓State.dropSessions_without, ↓State.discardFilling_without,
      ↓without_pwr, ↓without_ite, ↓without_foldl, ite_self, implies_true, List.cons_subset, List.nil_subset, and_true,
      and_self, true_and, h]

theorem State.perstFall_without {W : List Part} (s : State) (h : [Part.prx, .cmds, .rdp, .wrp, .fns, .hpt, .mig, .evc,
    .sdm, .pwr, .log, .sec, .lpb, .out, .draw, .regs 1, .regs 2, .regs 3, .regs 7, .regs 8, .regs 11, .regs 12,
    .regs 15, .regs 17, .regs 19, .regs 20] ⊆ W) :
    (s.perstFall).without W = s.without W := by
  simp only [List.cons_subset, List.nil_subset, and_true] at h
  simp only [State.perstFall, ↓State.resetBegin_without, ↓without_pwr, ↓without_ite, ↓without_foldl, ite_self,
      implies_true, List.cons_subset, List.nil_subset, and_true, and_self, true_and, h]

theorem State.perstRise_without {W : List Part} (s : State) (h : [Part.pwr, .log, .out, .regs 16] ⊆ W) :
    (s.perstRise).without W = s.without W := by
  simp only [List.cons_subset, List.nil_subset, and_true] at h
  simp only [State.perstRise, ↓State.releaseWake_without, ↓without_pwr, ↓without_ite, ↓without_foldl, ite_self,
      implies_true, List.cons_subset, List.nil_subset, and_true, and_self, true_and, h]

theorem State.turnOffRx_without {W : List Part} (s : State) (h : [Part.evc, .pwr, .log, .regs 15, .regs 20] ⊆ W) :
    (s.turnOffRx).without W = s.without W := by
  simp only [List.cons_subset, List.nil_subset, and_true] at h
  simp only [State.turnOffRx, ↓State.raise_without, ↓without_pwr, Reg.pwrEvent, Nat.reduceDiv, ↓without_ite,
      ↓without_foldl, ite_self, implies_true, List.cons_subset, List.nil_subset, and_true, and_self, true_and, h]

theorem State.turnOffAck_without {W : List Part} (s : State) (h : [Part.wrp, .mcr, .evc, .pwr, .log, .mtr, .out,
    .regs 8, .regs 15, .regs 20] ⊆ W) :
    (s.turnOffAck).without W = s.without W := by
  simp only [List.cons_subset, List.nil_subset, and_true] at h
  simp only [State.turnOffAck, ↓State.cleanMark_without, ↓State.when_without, ↓State.readyToPull_without,
      ↓State.emit_without, ↓without_pwr, Reg.pwrStatus, Nat.reduceDiv, ↓without_ite, ↓without_foldl, ite_self,
      implies_true, List.cons_subset, List.nil_subset, and_true, and_self, true_and, h]

theorem State.railsRemoved_without {W : List Part} (s : State) (h : [Part.mch, .wrp, .aow, .pwr, .log, .mtr, .out,
    .regs 16, .regs 20] ⊆ W) :
    (s.railsRemoved).without W = s.without W := by
  simp only [List.cons_subset, List.nil_subset, and_true] at h
  simp only [State.railsRemoved, ↓State.latchWatch_without, ↓State.mediaOff_without, ↓without_pwr,
      ↓without_wrp_pwr_mtr, ↓without_ite, ↓without_foldl, ite_self, implies_true, List.cons_subset, List.nil_subset,
      and_true, and_self, true_and, h]

theorem State.railLost_without {W : List Part} (s : State) (rail : Nat) (h : [Part.evc, .log, .regs 15, .regs 20] ⊆ W) :
    (s.railLost rail).without W = s.without W := by
  simp only [List.cons_subset, List.nil_subset, and_true] at h
  simp only [State.railLost, ↓State.raiseLog_without, ↓State.setBit_without, Reg.pwrRailStatus, Reg.pwrEvent,
      Nat.reduceDiv, ↓without_ite, ↓without_foldl, ite_self, implies_true, List.cons_subset, List.nil_subset, and_true,
      and_self, true_and, h]

theorem State.tripped_without {W : List Part} (s : State) (h : [Part.pwr, .log, .out] ⊆ W) :
    (s.tripped).without W = s.without W := by
  simp only [List.cons_subset, List.nil_subset, and_true] at h
  simp only [State.tripped, ↓State.emit_without, ↓without_pwr, ↓without_ite, ↓without_foldl, ite_self, implies_true,
      List.cons_subset, List.nil_subset, and_true, and_self, true_and, h]

theorem repeatOn_without {W : List Part} (n : Nat) (f : State → State) (s : State)
    (hf : ∀ t, (f t).without W = t.without W) : (repeatOn n f s).without W = s.without W := by
  induction n generalizing s with
  | zero => rfl
  | succ n ih => unfold repeatOn; rw [ih, hf]

theorem State.memoryHit_without {W : List Part} (s : State) (m : MemHit) (h : [Part.rdp, .wrp, .fns, .evc, .mlk, .log,
    .out, .regs 1, .regs 7, .regs 13, .regs 15, .regs 20] ⊆ W) :
    (s.memoryHit m).without W = s.without W := by
  simp only [List.cons_subset, List.nil_subset, and_true] at h
  unfold State.memoryHit
  (repeat' split) <;> simp only [↓State.countErr_without, ↓State.raise_without, ↓State.raiseFault_without,
      ↓State.updWrite_without, ↓State.when_without, ↓State.aerUnc_without, ↓State.send_without, Reg.rdpMapEccCnt,
      Reg.rdpEvent, Nat.reduceDiv, ↓without_ite, ↓without_foldl, ite_self, implies_true, List.cons_subset,
      List.nil_subset, and_true, and_self, true_and, h]

theorem State.passOver_without {W : List Part} (s : State) (test : Nat) (h : [Part.mcr] ⊆ W) :
    (s.passOver test).without W = s.without W := by
  simp only [List.cons_subset, List.nil_subset, and_true] at h
  simp only [State.passOver, ↓without_mcr, ↓without_ite, ↓without_foldl, ite_self, implies_true, List.cons_subset,
      List.nil_subset, and_true, and_self, true_and, h]

theorem State.dramPatrol_without {W : List Part} (s : State) (corrected : Nat) (ue : Option (Nat × MemHit))
    (h : [Part.rdp, .wrp, .mcr, .fns, .evc, .mlk, .pwr, .log, .out, .regs 1, .regs 7, .regs 13, .regs 14, .regs 15,
    .regs 20] ⊆ W) :
    (s.dramPatrol corrected ue).without W = s.without W := by
  simp only [List.cons_subset, List.nil_subset, and_true] at h
  unfold State.dramPatrol
  (repeat' split) <;> simp only [↓State.countErr_without, ↓State.setNum_without, ↓State.memoryHit_without,
      ↓State.passOver_without, ↓repeatOn_without, ↓State.raise_without, ↓State.inc_without, ↓without_pwr,
      Reg.ddrStatus, Reg.ddrPatrolPeriod, Reg.ddrErrAddrHi, Reg.ddrErrAddrLo, Reg.ddrPatrolCnt, Reg.ddrEvent,
      Reg.ddrUeCnt, Reg.ddrCeCnt, Nat.reduceDiv, ↓without_ite, ↓without_foldl, ite_self, implies_true,
      List.cons_subset, List.nil_subset, and_true, and_self, true_and, h]

theorem State.sramScrub_without {W : List Part} (s : State) (corrected : Nat) (ue : Option (Nat × MemHit))
    (h : [Part.rdp, .wrp, .mcr, .fns, .evc, .mlk, .pwr, .log, .out, .regs 1, .regs 7, .regs 13, .regs 15, .regs 20,
    .regs 21] ⊆ W) :
    (s.sramScrub corrected ue).without W = s.without W := by
  simp only [List.cons_subset, List.nil_subset, and_true] at h
  unfold State.sramScrub
  (repeat' split) <;> simp only [↓State.countErr_without, ↓State.setNum_without, ↓State.memoryHit_without,
      ↓State.passOver_without, ↓repeatOn_without, ↓State.raise_without, ↓without_pwr, Reg.srmStatus, Reg.srmCeCnt,
      Reg.srmScrubPeriod, Reg.srmUeCnt, Reg.srmErrAddr, Reg.srmEvent, Nat.reduceDiv, ↓without_ite, ↓without_foldl,
      ite_self, implies_true, List.cons_subset, List.nil_subset, and_true, and_self, true_and, h]

theorem State.consWrite_without {W : List Part} (s : State) (v : Word) (h : [Part.regs 20] ⊆ W) :
    (s.consWrite v).without W = s.without W := by
  simp only [List.cons_subset, List.nil_subset, and_true] at h
  simp only [State.consWrite, ↓State.setNum_without, Reg.pwrEvlogProd, Reg.pwrEvlogCons, Nat.reduceDiv, ↓without_ite,
      ↓without_foldl, ite_self, implies_true, List.cons_subset, List.nil_subset, and_true, and_self, true_and, h]

end Sys2Proof.Machine
end

