-- ==== Sys2Proof/Laws/KeepFrame.lean ====
section
/-! SUPPORT. Which parts of the state the operations of Machine/Frame.lean may change: every other part stays. -/
set_option linter.unusedSimpArgs false
set_option linter.unusedVariables false
namespace Sys2Proof.Machine


theorem State.minuteEvent_without {W : List Part} (s : State) (h : [Part.evc, .regs 4, .regs 15] ⊆ W) :
    (s.minuteEvent).without W = s.without W := by
  simp only [List.cons_subset, List.nil_subset, and_true] at h
  simp only [State.minuteEvent, ↓State.raise_without, Reg.ftbEvent, Nat.reduceDiv, ↓without_ite, ↓without_foldl,
      ite_self, implies_true, List.cons_subset, List.nil_subset, and_true, and_self, true_and, h]

theorem State.shiftFrames_without {W : List Part} (s : State) (delta : Nat) (h : [Part.mch, .wrp, .mcr, .hpt,
    .tln] ⊆ W) :
    (s.shiftFrames delta).without W = s.without W := by
  simp only [List.cons_subset, List.nil_subset, and_true] at h
  simp only [State.shiftFrames, ↓without_mch_wrp_mcr_hpt_tln, ↓without_ite, ↓without_foldl, ite_self, implies_true,
      List.cons_subset, List.nil_subset, and_true, and_self, true_and, h]

theorem State.stepAdms_without {W : List Part} (s : State) (h : [Part.prx, .cmds] ⊆ W) :
    (s.stepAdms).without W = s.without W := by
  simp only [List.cons_subset, List.nil_subset, and_true] at h
  simp only [State.stepAdms, ↓State.readmit_without, ↓without_ite, ↓without_foldl, ite_self, implies_true,
      List.cons_subset, List.nil_subset, and_true, and_self, true_and, h]

theorem State.stepFrame_without {W : List Part} (s : State) (f : Nat) (h : [Part.time, .ftb, .prx, .cmds, .mch, .wrp,
    .mcr, .fns, .hpt, .evc, .log, .mtr, .lpb, .tln, .out, .regs 1, .regs 3, .regs 4, .regs 11, .regs 15, .regs 19,
    .regs 20] ⊆ W) :
    (s.stepFrame f).without W = s.without W := by
  simp only [List.cons_subset, List.nil_subset, and_true] at h
  simp only [State.stepFrame, ↓State.minuteEvent_without, ↓State.openMinute_without, ↓State.shiftFrames_without,
      ↓State.closeMinute_without, ↓State.stepAdms_without, ↓without_ftb_time, Reg.secStatus, Nat.reduceDiv,
      ↓without_ite, ↓without_foldl, ite_self, implies_true, List.cons_subset, List.nil_subset, and_true, and_self,
      true_and, h]

theorem State.holdoverFrame_without {W : List Part} (s : State) (h : [Part.regs 4] ⊆ W) :
    (s.holdoverFrame).without W = s.without W := by
  simp only [List.cons_subset, List.nil_subset, and_true] at h
  simp only [State.holdoverFrame, ↓State.inc_without, Reg.ftbHoldoverFrames, Nat.reduceDiv, ↓without_ite,
      ↓without_foldl, ite_self, implies_true, List.cons_subset, List.nil_subset, and_true, and_self, true_and, h]

theorem State.minuteFrame_without {W : List Part} (s : State) (h : [Part.mtr] ⊆ W) :
    (s.minuteFrame).without W = s.without W := by
  simp only [List.cons_subset, List.nil_subset, and_true] at h
  simp only [State.minuteFrame, ↓without_mtr, ↓without_ite, ↓without_foldl, ite_self, implies_true, List.cons_subset,
      List.nil_subset, and_true, and_self, true_and, h]

theorem State.heartbeatMissed_without {W : List Part} (s : State) (h : [Part.evc, .mlk, .log, .regs 13, .regs 15,
    .regs 20] ⊆ W) :
    (s.heartbeatMissed).without W = s.without W := by
  simp only [List.cons_subset, List.nil_subset, and_true] at h
  simp only [State.heartbeatMissed, ↓State.countErr_without, ↓without_mlk, Reg.mlkHbMissCnt, Nat.reduceDiv,
      ↓without_ite, ↓without_foldl, ite_self, implies_true, List.cons_subset, List.nil_subset, and_true, and_self,
      true_and, h]

theorem State.purgeAdms_without {W : List Part} (s : State) (h : [Part.prx] ⊆ W) :
    (s.purgeAdms).without W = s.without W := by
  simp only [List.cons_subset, List.nil_subset, and_true] at h
  simp only [State.purgeAdms, ↓State.dropAdms_without, ↓without_ite, ↓without_foldl, ite_self, implies_true,
      List.cons_subset, List.nil_subset, and_true, and_self, true_and, h]

theorem State.bucketEdge_without {W : List Part} (s : State) (gcOld : Nat) (h : [Part.prx, .tenants] ⊆ W) :
    (s.bucketEdge gcOld).without W = s.without W := by
  simp only [List.cons_subset, List.nil_subset, and_true] at h
  simp only [State.bucketEdge, ↓State.refillAll_without, ↓without_ite, ↓without_foldl, ite_self, implies_true,
      List.cons_subset, List.nil_subset, and_true, and_self, true_and, h]

theorem State.frameTold_without {W : List Part} (s : State) (h : [Part.rdp, .evc, .mlk, .mtr, .out, .regs 4, .regs 13,
    .regs 15] ⊆ W) :
    (s.frameTold).without W = s.without W := by
  simp only [List.cons_subset, List.nil_subset, and_true] at h
  simp only [State.frameTold, ↓State.minuteFrame_without, ↓State.holdoverFrame_without, ↓State.when_without,
      ↓State.send_without, ↓without_ite, ↓without_foldl, ite_self, implies_true, List.cons_subset, List.nil_subset,
      and_true, and_self, true_and, h]

theorem State.releaseBegin_without {W : List Part} (s : State) (h : [Part.ftb, .rdp, .evc, .mlk, .mtr, .out, .regs 4,
    .regs 13, .regs 15] ⊆ W) :
    (s.releaseBegin).without W = s.without W := by
  simp only [List.cons_subset, List.nil_subset, and_true] at h
  simp only [State.releaseBegin, ↓State.frameTold_without, ↓without_ftb, ↓without_ite, ↓without_foldl, ite_self,
      implies_true, List.cons_subset, List.nil_subset, and_true, and_self, true_and, h]

theorem State.frameBegins_without {W : List Part} (s : State) (gcOld : Nat) (h : [Part.ftb, .prx, .tenants, .cmds,
    .mch, .rdp, .wrp, .mcr, .nss, .aens, .evc, .mlk, .log, .keys, .mtr, .tln, .out, .draw, .regs 4, .regs 5, .regs 7,
    .regs 8, .regs 9, .regs 10, .regs 12, .regs 13, .regs 15, .regs 20] ⊆ W) :
    (s.frameBegins gcOld).without W = s.without W := by
  simp only [List.cons_subset, List.nil_subset, and_true] at h
  simp only [State.frameBegins, ↓drainInbound_without, ↓State.gcFactorEdge_without, ↓State.resyncFrame_without,
      ↓State.minuteFrame_without, ↓State.purgeAdms_without, ↓State.holdoverFrame_without, ↓State.waMeasure_without,
      ↓State.takeTlnCfg_without, ↓State.retryHeld_without, ↓State.bucketEdge_without, ↓State.gcReview_without,
      ↓State.when_without, ↓State.commit_without, ↓State.ckptOld_without, ↓State.send_without, ↓State.armAlone_without,
      ↓without_ftb, ↓without_ite, ↓without_foldl, ite_self, implies_true, List.cons_subset, List.nil_subset, and_true,
      and_self, true_and, h]

theorem State.minuteBegins_without {W : List Part} (s : State) (h : [Part.fns, .hpt, .evc, .log, .mtr, .lpb, .out,
    .regs 1, .regs 3, .regs 4, .regs 11, .regs 15, .regs 19, .regs 20] ⊆ W) :
    (s.minuteBegins).without W = s.without W := by
  simp only [List.cons_subset, List.nil_subset, and_true] at h
  simp only [State.minuteBegins, ↓State.minuteFrame_without, ↓State.minuteEdge_without, ↓State.raise_without,
      Reg.ftbEvent, Nat.reduceDiv, ↓without_ite, ↓without_foldl, ite_self, implies_true, List.cons_subset,
      List.nil_subset, and_true, and_self, true_and, h]

theorem State.todEdge_without {W : List Part} (s : State) (h : [Part.time, .ftb, .prx, .cmds, .mch, .rdp, .wrp, .mcr,
    .fns, .hpt, .evc, .mlk, .log, .mtr, .lpb, .tln, .out, .regs 1, .regs 3, .regs 4, .regs 11, .regs 13, .regs 15,
    .regs 19, .regs 20] ⊆ W) :
    (s.todEdge).without W = s.without W := by
  simp only [List.cons_subset, List.nil_subset, and_true] at h
  simp only [State.todEdge, ↓State.todAccept_without, ↓State.stepFrame_without, ↓State.releaseBegin_without,
      ↓State.bootAge_without, ↓State.todRefuse_without, ↓without_ite, ↓without_foldl, ite_self, implies_true,
      List.cons_subset, List.nil_subset, and_true, and_self, true_and, h]

theorem State.lateBegin_without {W : List Part} (s : State) (h : [Part.time, .ftb, .prx, .cmds, .mch, .rdp, .wrp, .mcr,
    .fns, .hpt, .evc, .mlk, .log, .mtr, .lpb, .tln, .out, .regs 1, .regs 3, .regs 4, .regs 11, .regs 13, .regs 15,
    .regs 19, .regs 20] ⊆ W) :
    (s.lateBegin).without W = s.without W := by
  simp only [List.cons_subset, List.nil_subset, and_true] at h
  simp only [State.lateBegin, ↓State.releaseBegin_without, ↓State.todEdge_without, ↓without_ite, ↓without_foldl,
      ite_self, implies_true, List.cons_subset, List.nil_subset, and_true, and_self, true_and, h]

theorem State.frameEdge_without {W : List Part} (s : State) (h : [Part.time, .ftb, .prx, .tenants, .cmds, .mch, .rdp,
    .wrp, .mcr, .nss, .fns, .hpt, .aens, .evc, .mlk, .log, .keys, .mtr, .lpb, .tln, .out, .draw, .regs 1, .regs 3,
    .regs 4, .regs 5, .regs 7, .regs 8, .regs 9, .regs 10, .regs 11, .regs 12, .regs 13, .regs 15, .regs 19,
    .regs 20] ⊆ W) :
    (s.frameEdge).without W = s.without W := by
  simp only [List.cons_subset, List.nil_subset, and_true] at h
  simp only [State.frameEdge, ↓State.heartbeatMissed_without, ↓State.lateBegin_without, ↓State.frameBegins_without,
      ↓without_ftb_time, ↓without_ite, ↓without_foldl, ite_self, implies_true, List.cons_subset, List.nil_subset,
      and_true, and_self, true_and, h]

theorem State.idleTick_without {W : List Part} (s : State) (h : [Part.time, .ftb, .prx, .tenants, .cmds, .mch, .rdp,
    .wrp, .mcr, .nss, .fns, .hpt, .aens, .evc, .mlk, .log, .keys, .mtr, .lpb, .tln, .out, .draw, .regs 1, .regs 3,
    .regs 4, .regs 5, .regs 7, .regs 8, .regs 9, .regs 10, .regs 11, .regs 12, .regs 13, .regs 15, .regs 19,
    .regs 20] ⊆ W) :
    (s.idleTick).without W = s.without W := by
  simp only [List.cons_subset, List.nil_subset, and_true] at h
  simp only [State.idleTick, ↓State.frameEdge_without, ↓State.whenLive_without, ↓State.lateBegin_without,
      ↓without_ftb_time, ↓without_ite, ↓without_foldl, ite_self, implies_true, List.cons_subset, List.nil_subset,
      and_true, and_self, true_and, h]

theorem State.phaseStep_without {W : List Part} (s : State) (h : [Part.time, .ftb, .prx, .tenants, .cmds, .mch, .rdp,
    .wrp, .mcr, .nss, .fns, .hpt, .aens, .evc, .mlk, .log, .keys, .mtr, .lpb, .tln, .out, .draw, .regs 1, .regs 3,
    .regs 4, .regs 5, .regs 7, .regs 8, .regs 9, .regs 10, .regs 11, .regs 12, .regs 13, .regs 15, .regs 19,
    .regs 20] ⊆ W) :
    (s.phaseStep).without W = s.without W := by
  simp only [List.cons_subset, List.nil_subset, and_true] at h
  simp only [State.phaseStep, ↓State.heartbeatMissed_without, ↓State.todAccept_without, ↓State.stepFrame_without,
      ↓State.releaseBegin_without, ↓State.bootAge_without, ↓State.frameBegins_without, ↓State.todRefuse_without,
      ↓without_ftb_time, ↓without_ite, ↓without_foldl, ite_self, implies_true, List.cons_subset, List.nil_subset,
      and_true, and_self, true_and, h]

theorem State.fppsEdge_without {W : List Part} (s : State) (errNs : Int) (sinceNs : Nat) (crystalPpb : Int)
    (h : [Part.time, .ftb, .prx, .tenants, .cmds, .mch, .rdp, .wrp, .mcr, .nss, .fns, .hpt, .aens, .evc, .mlk, .log,
    .keys, .mtr, .lpb, .tln, .out, .draw, .regs 1, .regs 3, .regs 4, .regs 5, .regs 7, .regs 8, .regs 9, .regs 10,
    .regs 11, .regs 12, .regs 13, .regs 15, .regs 19, .regs 20] ⊆ W) :
    (s.fppsEdge errNs sinceNs crystalPpb).without W = s.without W := by
  simp only [List.cons_subset, List.nil_subset, and_true] at h
  simp only [State.fppsEdge, ↓State.phaseStep_without, ↓State.freeEdge_without, ↓State.lockedEdge_without,
      ↓without_ite, ↓without_foldl, ite_self, implies_true, List.cons_subset, List.nil_subset, and_true, and_self,
      true_and, h]

theorem State.heartbeatRx_without {W : List Part} (s : State) (hb : Heartbeat) (h : [Part.ftb, .prx, .rdp, .evc, .mlk,
    .log, .out, .draw, .regs 4, .regs 5, .regs 13, .regs 15, .regs 20] ⊆ W) :
    (s.heartbeatRx hb).without W = s.without W := by
  simp only [List.cons_subset, List.nil_subset, and_true] at h
  simp only [State.heartbeatRx, ↓State.skewMeasured_without, ↓State.phaseHeartbeat_without,
      ↓State.peerVariant3_without, ↓State.took_without, ↓without_mlk, ↓without_ite, ↓without_foldl, ite_self,
      implies_true, List.cons_subset, List.nil_subset, and_true, and_self, true_and, h]

end Sys2Proof.Machine
end

