-- ==== Sys2Proof/Laws/KeepRegRead.lean ====
section
/-! SUPPORT. Which parts of the state the operations of Machine/RegRead.lean may change: every other part stays. -/
set_option linter.unusedSimpArgs false
set_option linter.unusedVariables false
namespace Sys2Proof.Machine


theorem State.readEffect_without {W : List Part} (s : State) (off : Nat) (h : [Part.draw, .regs 4, .regs 8, .regs 11,
    .regs 16, .regs (off / 0x100000)] ⊆ W) :
    (s.readEffect off).without W = s.without W := by
  simp only [List.cons_subset, List.nil_subset, and_true] at h
  simp only [State.readEffect, ↓State.setReg_without, ↓State.setNum_without, ↓State.setBit_without,
      ↓State.drawn_without, Reg.aowAoCountHi, Reg.mtrLastMinuteHi, Reg.wrpJournalSeqHi, Reg.mtrLastMinuteLo,
      Reg.ftbCell, Reg.ftbFrameLo, Reg.aowAoCountLo, Reg.wrpJournalSeqLo, Reg.ftbFrameHi, Nat.reduceDiv, ↓without_ite,
      ↓without_foldl, ite_self, implies_true, List.cons_subset, List.nil_subset, and_true, and_self, true_and, h]

theorem State.readReg_without {W : List Part} (s : State) (by_ : Requester) (off : Nat) (h : [Part.evc, .draw, .regs 4,
    .regs 8, .regs 11, .regs 15, .regs 16, .regs (off / 0x100000)] ⊆ W) :
    (s.readReg by_ off).2.without W = s.without W := by
  simp only [List.cons_subset, List.nil_subset, and_true] at h
  unfold State.readReg
  (repeat' split) <;> simp only [↓State.readEffect_without, ↓State.claimRead_without, ↓State.drawn_without,
      Reg.sppStatus, page_evcCoreClaim, Nat.reduceDiv, ↓without_ite, ↓without_foldl, ite_self, implies_true,
      List.cons_subset, List.nil_subset, and_true, and_self, true_and, h]

end Sys2Proof.Machine
end

