-- ==== Sys2Proof/Laws/KeepRegWrite.lean ====
section
/-! SUPPORT. Which parts of the state the operations of Machine/RegWrite.lean may change: every other part stays. -/
set_option linter.unusedSimpArgs false
set_option linter.unusedVariables false
namespace Sys2Proof.Machine


theorem State.store_without {W : List Part} (s : State) (d : RegDef) (off : Nat) (v : Word) (h : [Part.regs
    (off / 0x100000)] ⊆ W) :
    (s.store d off v).without W = s.without W := by
  simp only [List.cons_subset, List.nil_subset, and_true] at h
  simp only [State.store, ↓State.setReg_without, ↓without_ite, ↓without_foldl, ite_self, implies_true,
      List.cons_subset, List.nil_subset, and_true, and_self, true_and, h]

theorem State.acts_without {W : List Part} (s : State) (v : Word) (l : List (Nat × (State → State)))
    (hf : ∀ a ∈ l, ∀ t, (a.2 t).without W = t.without W) : (s.acts v l).without W = s.without W := by
  unfold State.acts
  induction l generalizing s with
  | nil => rfl
  | cons a l ih =>
    rw [List.foldl_cons, ih _ fun b hb => hf b (List.mem_cons_of_mem _ hb),
      State.when_without _ _ _ (hf a (List.mem_cons_self ..))]

theorem State.freeDesc_without {W : List Part} (s : State) (h : [Part.draw] ⊆ W) :
    (s.freeDesc).2.without W = s.without W := by
  simp only [List.cons_subset, List.nil_subset, and_true] at h
  simp only [State.freeDesc, ↓without_draw, ↓without_ite, ↓without_foldl, ite_self, implies_true, List.cons_subset,
      List.nil_subset, and_true, and_self, true_and, h]

theorem State.ftbCtlWrite_without {W : List Part} (s : State) (v : Word) (h : [Part.ftb, .evc, .regs 4, .regs 15] ⊆ W) :
    (s.ftbCtlWrite v).without W = s.without W := by
  simp only [List.cons_subset, List.nil_subset, and_true] at h
  simp only [State.ftbCtlWrite, ↓State.setReg_without, ↓State.setBit_without, ↓State.dpllDisable_without,
      ↓State.when_without, ↓without_ftb, Reg.ftbCtl, Reg.ftbStatus, Nat.reduceDiv, ↓without_ite, ↓without_foldl,
      ite_self, implies_true, List.cons_subset, List.nil_subset, and_true, and_self, true_and, h]

theorem State.srcCfgWrite_without {W : List Part} (s : State) (d : RegDef) (n : Nat) (v : Word) (h : [Part.evc,
    .regs 15] ⊆ W) :
    (s.srcCfgWrite d n v).without W = s.without W := by
  simp only [List.cons_subset, List.nil_subset, and_true] at h
  unfold State.srcCfgWrite
  dsimp only
  (repeat' split) <;> simp only [↓State.setField_without, ↓State.store_without, ↓State.relevel_without,
      page_evcHoldoff, page_evcSrcCfg, Nat.reduceDiv, ↓without_ite, ↓without_foldl, ite_self, implies_true,
      List.cons_subset, List.nil_subset, and_true, and_self, true_and, h]

theorem State.holdoffWrite_without {W : List Part} (s : State) (g : Nat) (v : Word) (h : [Part.regs 15] ⊆ W) :
    (s.holdoffWrite g v).without W = s.without W := by
  simp only [List.cons_subset, List.nil_subset, and_true] at h
  simp only [State.holdoffWrite, ↓State.setField_without, page_evcHoldoff, Nat.reduceDiv, ↓without_ite, ↓without_foldl,
      ite_self, implies_true, List.cons_subset, List.nil_subset, and_true, and_self, true_and, h]

theorem State.hiuWrite_without {W : List Part} (s : State) (v : Word) (h : [Part.fns] ⊆ W) :
    (s.hiuWrite v).without W = s.without W := by
  simp only [List.cons_subset, List.nil_subset, and_true] at h
  simp only [State.hiuWrite, ↓State.updFn_without, Reg.hiuSel, Nat.reduceDiv, ↓without_ite, ↓without_foldl, ite_self,
      implies_true, List.cons_subset, List.nil_subset, and_true, and_self, true_and, h]

theorem State.sppCtlWrite_without {W : List Part} (s : State) (v : Word) (h : [Part.hpt, .out, .regs 20] ⊆ W) :
    (s.sppCtlWrite v).without W = s.without W := by
  simp only [List.cons_subset, List.nil_subset, and_true] at h
  simp only [State.sppCtlWrite, ↓State.setReg_without, ↓State.stopAttn_without, ↓State.when_without,
      ↓State.emit_without, Reg.sppCtl, Reg.sppStatus, Nat.reduceDiv, ↓without_ite, ↓without_foldl, ite_self,
      implies_true, List.cons_subset, List.nil_subset, and_true, and_self, true_and, h]

theorem State.shadowWrite_without {W : List Part} (s : State) (d : RegDef) (off : Nat) (v : Word) (h : [Part.regs 17,
    .regs (off / 0x100000)] ⊆ W) :
    (s.shadowWrite d off v).without W = s.without W := by
  simp only [List.cons_subset, List.nil_subset, and_true] at h
  simp only [State.shadowWrite, ↓State.setBit_without, ↓State.store_without, page_sdmChFlags, page_sdmChArm,
      Nat.reduceDiv, ↓without_ite, ↓without_foldl, ite_self, implies_true, List.cons_subset, List.nil_subset, and_true,
      and_self, true_and, h]

theorem State.sdmWrite_without {W : List Part} (s : State) (d : RegDef) (off : Nat) (v : Word) (h : [Part.fns, .hpt,
    .evc, .sdm, .log, .lpb, .out, .draw, .regs 1, .regs 3, .regs 11, .regs 15, .regs 17, .regs 19, .regs 20,
    .regs (off / 0x100000)] ⊆ W) :
    (s.sdmWrite d off v).without W = s.without W := by
  simp only [List.cons_subset, List.nil_subset, and_true] at h
  have fr : ∀ t : State, t.freeDesc.2.without W = t.without W := fun t => State.freeDesc_without _ (by simp only [List.cons_subset, List.nil_subset, and_true, h])
  unfold State.sdmWrite
  dsimp only
  split
  · exact State.shadowWrite_without _ _ _ _ (by simp only [List.cons_subset, List.nil_subset, and_true, h])
  · split
    · exact State.when_without _ _ _ fun t => (State.sdmArm_without _ _ _ (by simp only [List.cons_subset, List.nil_subset, and_true, h])).trans (fr t)
    · split
      · refine State.acts_without _ _ _ fun a ha t => ?_
        simp only [List.mem_cons, List.not_mem_nil, or_false] at ha
        rcases ha with rfl | rfl
        · exact State.sdmAbort_without _ _ (by simp only [List.cons_subset, List.nil_subset, and_true, h])
        · exact (State.sdmClear_without _ _ _ (by simp only [List.cons_subset, List.nil_subset, and_true, h])).trans (fr t)
      · exact State.store_without _ _ _ _ (by simp only [List.cons_subset, List.nil_subset, and_true, h])

theorem State.coreRegWrite_without {W : List Part} (s : State) (d : RegDef) (off : Nat) (v : Word) (h : [Part.evc,
    .log, .out, .regs 15, .regs 20, .regs (off / 0x100000)] ⊆ W) :
    (s.coreRegWrite d off v).without W = s.without W := by
  simp only [List.cons_subset, List.nil_subset, and_true] at h
  simp only [State.coreRegWrite, ↓State.stackReset_without, ↓State.complete_without, ↓State.store_without,
      ↓State.watchdogWrite_without, ↓State.when_without, page_evcCoreWdog, page_evcCoreStackReset,
      page_evcCoreComplete, Nat.reduceDiv, ↓without_ite, ↓without_foldl, ite_self, implies_true, List.cons_subset,
      List.nil_subset, and_true, and_self, true_and, h]

theorem State.actLow_without {W : List Part} (s : State) (by_ : Requester) (d : RegDef) (off : Nat) (v : Word)
    (h : [Part.ftb, .prx, .tenants, .cmds, .mch, .rdp, .wrp, .mcr, .nss, .fns, .hpt, .mig, .aens, .errs, .evc, .sdm,
    .mlk, .log, .sec, .mtr, .lpb, .out, .draw, .regs 1, .regs 2, .regs 3, .regs 4, .regs 5, .regs 6, .regs 7, .regs 8,
    .regs 9, .regs 11, .regs 13, .regs 15, .regs 17, .regs 19, .regs 20, .regs (off / 0x100000)] ⊆ W) :
    (s.actLow by_ d off v).without W = s.without W := by
  simp only [List.cons_subset, List.nil_subset, and_true] at h
  have e0 := fun (s : State) => State.containRelease_without (W := W) s (by simp only [List.cons_subset, List.nil_subset, and_true, Reg.prxArm, Reg.prxTokenTrim, Reg.wrpMirrorReserve, Reg.ftbCtl, Reg.mtrRingCons, Reg.mtrArchConsHi, Reg.prxParkReq, Reg.mcrTestCtl, Reg.prxLoadCtl, Reg.mcrGcFree, Reg.fnmVfCtl, Reg.wrpHoldupCtl, Reg.hptContainCtl, Reg.ftbTodCtl, Reg.mlkCmd, Reg.mcrGcLimit, Reg.hiuHoldoff, Reg.mlkBlobCtl, Reg.ftbTodSec, Reg.wrpCkptCtl, Reg.mlkBlobSel, Reg.ftbTodSecHi, Nat.reduceDiv, h])
  have e1 := fun (s : State) => State.discardStaged_without (W := W) s (by simp only [List.cons_subset, List.nil_subset, and_true, Reg.prxArm, Reg.prxTokenTrim, Reg.wrpMirrorReserve, Reg.ftbCtl, Reg.mtrRingCons, Reg.mtrArchConsHi, Reg.prxParkReq, Reg.mcrTestCtl, Reg.prxLoadCtl, Reg.mcrGcFree, Reg.fnmVfCtl, Reg.wrpHoldupCtl, Reg.hptContainCtl, Reg.ftbTodCtl, Reg.mlkCmd, Reg.mcrGcLimit, Reg.hiuHoldoff, Reg.mlkBlobCtl, Reg.ftbTodSec, Reg.wrpCkptCtl, Reg.mlkBlobSel, Reg.ftbTodSecHi, Nat.reduceDiv, h])
  have e2 := fun (s : State) => State.freeze_without (W := W) s (by simp only [List.cons_subset, List.nil_subset, and_true, Reg.prxArm, Reg.prxTokenTrim, Reg.wrpMirrorReserve, Reg.ftbCtl, Reg.mtrRingCons, Reg.mtrArchConsHi, Reg.prxParkReq, Reg.mcrTestCtl, Reg.prxLoadCtl, Reg.mcrGcFree, Reg.fnmVfCtl, Reg.wrpHoldupCtl, Reg.hptContainCtl, Reg.ftbTodCtl, Reg.mlkCmd, Reg.mcrGcLimit, Reg.hiuHoldoff, Reg.mlkBlobCtl, Reg.ftbTodSec, Reg.wrpCkptCtl, Reg.mlkBlobSel, Reg.ftbTodSecHi, Nat.reduceDiv, h])
  have e3 := fun (s : State) (cause : Nat) => State.contain_without (W := W) s cause (by simp only [List.cons_subset, List.nil_subset, and_true, Reg.prxArm, Reg.prxTokenTrim, Reg.wrpMirrorReserve, Reg.ftbCtl, Reg.mtrRingCons, Reg.mtrArchConsHi, Reg.prxParkReq, Reg.mcrTestCtl, Reg.prxLoadCtl, Reg.mcrGcFree, Reg.fnmVfCtl, Reg.wrpHoldupCtl, Reg.hptContainCtl, Reg.ftbTodCtl, Reg.mlkCmd, Reg.mcrGcLimit, Reg.hiuHoldoff, Reg.mlkBlobCtl, Reg.ftbTodSec, Reg.wrpCkptCtl, Reg.mlkBlobSel, Reg.ftbTodSecHi, Nat.reduceDiv, h])
  have e4 := fun (s : State) (v : Word) => State.archCons_without (W := W) s v (by simp only [List.cons_subset, List.nil_subset, and_true, Reg.prxArm, Reg.prxTokenTrim, Reg.wrpMirrorReserve, Reg.ftbCtl, Reg.mtrRingCons, Reg.mtrArchConsHi, Reg.prxParkReq, Reg.mcrTestCtl, Reg.prxLoadCtl, Reg.mcrGcFree, Reg.fnmVfCtl, Reg.wrpHoldupCtl, Reg.hptContainCtl, Reg.ftbTodCtl, Reg.mlkCmd, Reg.mcrGcLimit, Reg.hiuHoldoff, Reg.mlkBlobCtl, Reg.ftbTodSec, Reg.wrpCkptCtl, Reg.mlkBlobSel, Reg.ftbTodSecHi, Nat.reduceDiv, h])
  have e5 := fun (s : State) => State.resume_without (W := W) s (by simp only [List.cons_subset, List.nil_subset, and_true, Reg.prxArm, Reg.prxTokenTrim, Reg.wrpMirrorReserve, Reg.ftbCtl, Reg.mtrRingCons, Reg.mtrArchConsHi, Reg.prxParkReq, Reg.mcrTestCtl, Reg.prxLoadCtl, Reg.mcrGcFree, Reg.fnmVfCtl, Reg.wrpHoldupCtl, Reg.hptContainCtl, Reg.ftbTodCtl, Reg.mlkCmd, Reg.mcrGcLimit, Reg.hiuHoldoff, Reg.mlkBlobCtl, Reg.ftbTodSec, Reg.wrpCkptCtl, Reg.mlkBlobSel, Reg.ftbTodSecHi, Nat.reduceDiv, h])
  have e6 := fun (s : State) => State.testAbort_without (W := W) s (by simp only [List.cons_subset, List.nil_subset, and_true, Reg.prxArm, Reg.prxTokenTrim, Reg.wrpMirrorReserve, Reg.ftbCtl, Reg.mtrRingCons, Reg.mtrArchConsHi, Reg.prxParkReq, Reg.mcrTestCtl, Reg.prxLoadCtl, Reg.mcrGcFree, Reg.fnmVfCtl, Reg.wrpHoldupCtl, Reg.hptContainCtl, Reg.ftbTodCtl, Reg.mlkCmd, Reg.mcrGcLimit, Reg.hiuHoldoff, Reg.mlkBlobCtl, Reg.ftbTodSec, Reg.wrpCkptCtl, Reg.mlkBlobSel, Reg.ftbTodSecHi, Nat.reduceDiv, h])
  have e7 := fun (s : State) (b : Nat) => State.freeBlobBuf_without (W := W) s b (by simp only [List.cons_subset, List.nil_subset, and_true, Reg.prxArm, Reg.prxTokenTrim, Reg.wrpMirrorReserve, Reg.ftbCtl, Reg.mtrRingCons, Reg.mtrArchConsHi, Reg.prxParkReq, Reg.mcrTestCtl, Reg.prxLoadCtl, Reg.mcrGcFree, Reg.fnmVfCtl, Reg.wrpHoldupCtl, Reg.hptContainCtl, Reg.ftbTodCtl, Reg.mlkCmd, Reg.mcrGcLimit, Reg.hiuHoldoff, Reg.mlkBlobCtl, Reg.ftbTodSec, Reg.wrpCkptCtl, Reg.mlkBlobSel, Reg.ftbTodSecHi, Nat.reduceDiv, h])
  have e8 := fun (s : State) => State.restore_without (W := W) s (by simp only [List.cons_subset, List.nil_subset, and_true, Reg.prxArm, Reg.prxTokenTrim, Reg.wrpMirrorReserve, Reg.ftbCtl, Reg.mtrRingCons, Reg.mtrArchConsHi, Reg.prxParkReq, Reg.mcrTestCtl, Reg.prxLoadCtl, Reg.mcrGcFree, Reg.fnmVfCtl, Reg.wrpHoldupCtl, Reg.hptContainCtl, Reg.ftbTodCtl, Reg.mlkCmd, Reg.mcrGcLimit, Reg.hiuHoldoff, Reg.mlkBlobCtl, Reg.ftbTodSec, Reg.wrpCkptCtl, Reg.mlkBlobSel, Reg.ftbTodSecHi, Nat.reduceDiv, h])
  have e9 := fun (s : State) (v : Word) => State.hiuWrite_without (W := W) s v (by simp only [List.cons_subset, List.nil_subset, and_true, Reg.prxArm, Reg.prxTokenTrim, Reg.wrpMirrorReserve, Reg.ftbCtl, Reg.mtrRingCons, Reg.mtrArchConsHi, Reg.prxParkReq, Reg.mcrTestCtl, Reg.prxLoadCtl, Reg.mcrGcFree, Reg.fnmVfCtl, Reg.wrpHoldupCtl, Reg.hptContainCtl, Reg.ftbTodCtl, Reg.mlkCmd, Reg.mcrGcLimit, Reg.hiuHoldoff, Reg.mlkBlobCtl, Reg.ftbTodSec, Reg.wrpCkptCtl, Reg.mlkBlobSel, Reg.ftbTodSecHi, Nat.reduceDiv, h])
  have e10 := fun (s : State) (ch : Nat) => State.chBringup_without (W := W) s ch (by simp only [List.cons_subset, List.nil_subset, and_true, Reg.prxArm, Reg.prxTokenTrim, Reg.wrpMirrorReserve, Reg.ftbCtl, Reg.mtrRingCons, Reg.mtrArchConsHi, Reg.prxParkReq, Reg.mcrTestCtl, Reg.prxLoadCtl, Reg.mcrGcFree, Reg.fnmVfCtl, Reg.wrpHoldupCtl, Reg.hptContainCtl, Reg.ftbTodCtl, Reg.mlkCmd, Reg.mcrGcLimit, Reg.hiuHoldoff, Reg.mlkBlobCtl, Reg.ftbTodSec, Reg.wrpCkptCtl, Reg.mlkBlobSel, Reg.ftbTodSecHi, Nat.reduceDiv, h])
  have e11 := fun (s : State) => State.disarm_without (W := W) s (by simp only [List.cons_subset, List.nil_subset, and_true, Reg.prxArm, Reg.prxTokenTrim, Reg.wrpMirrorReserve, Reg.ftbCtl, Reg.mtrRingCons, Reg.mtrArchConsHi, Reg.prxParkReq, Reg.mcrTestCtl, Reg.prxLoadCtl, Reg.mcrGcFree, Reg.fnmVfCtl, Reg.wrpHoldupCtl, Reg.hptContainCtl, Reg.ftbTodCtl, Reg.mlkCmd, Reg.mcrGcLimit, Reg.hiuHoldoff, Reg.mlkBlobCtl, Reg.ftbTodSec, Reg.wrpCkptCtl, Reg.mlkBlobSel, Reg.ftbTodSecHi, Nat.reduceDiv, h])
  have e12 := fun (s : State) => State.unfreeze_without (W := W) s (by simp only [List.cons_subset, List.nil_subset, and_true, Reg.prxArm, Reg.prxTokenTrim, Reg.wrpMirrorReserve, Reg.ftbCtl, Reg.mtrRingCons, Reg.mtrArchConsHi, Reg.prxParkReq, Reg.mcrTestCtl, Reg.prxLoadCtl, Reg.mcrGcFree, Reg.fnmVfCtl, Reg.wrpHoldupCtl, Reg.hptContainCtl, Reg.ftbTodCtl, Reg.mlkCmd, Reg.mcrGcLimit, Reg.hiuHoldoff, Reg.mlkBlobCtl, Reg.ftbTodSec, Reg.wrpCkptCtl, Reg.mlkBlobSel, Reg.ftbTodSecHi, Nat.reduceDiv, h])
  have e13 := fun (s : State) => State.speedRetrain_without (W := W) s (by simp only [List.cons_subset, List.nil_subset, and_true, Reg.prxArm, Reg.prxTokenTrim, Reg.wrpMirrorReserve, Reg.ftbCtl, Reg.mtrRingCons, Reg.mtrArchConsHi, Reg.prxParkReq, Reg.mcrTestCtl, Reg.prxLoadCtl, Reg.mcrGcFree, Reg.fnmVfCtl, Reg.wrpHoldupCtl, Reg.hptContainCtl, Reg.ftbTodCtl, Reg.mlkCmd, Reg.mcrGcLimit, Reg.hiuHoldoff, Reg.mlkBlobCtl, Reg.ftbTodSec, Reg.wrpCkptCtl, Reg.mlkBlobSel, Reg.ftbTodSecHi, Nat.reduceDiv, h])
  have e14 := fun (s : State) (ch : Nat) => State.chRetire_without (W := W) s ch (by simp only [List.cons_subset, List.nil_subset, and_true, Reg.prxArm, Reg.prxTokenTrim, Reg.wrpMirrorReserve, Reg.ftbCtl, Reg.mtrRingCons, Reg.mtrArchConsHi, Reg.prxParkReq, Reg.mcrTestCtl, Reg.prxLoadCtl, Reg.mcrGcFree, Reg.fnmVfCtl, Reg.wrpHoldupCtl, Reg.hptContainCtl, Reg.ftbTodCtl, Reg.mlkCmd, Reg.mcrGcLimit, Reg.hiuHoldoff, Reg.mlkBlobCtl, Reg.ftbTodSec, Reg.wrpCkptCtl, Reg.mlkBlobSel, Reg.ftbTodSecHi, Nat.reduceDiv, h])
  have e15 := fun (s₀ : State) => State.settle_without (W := W) s₀ (by simp only [List.cons_subset, List.nil_subset, and_true, Reg.prxArm, Reg.prxTokenTrim, Reg.wrpMirrorReserve, Reg.ftbCtl, Reg.mtrRingCons, Reg.mtrArchConsHi, Reg.prxParkReq, Reg.mcrTestCtl, Reg.prxLoadCtl, Reg.mcrGcFree, Reg.fnmVfCtl, Reg.wrpHoldupCtl, Reg.hptContainCtl, Reg.ftbTodCtl, Reg.mlkCmd, Reg.mcrGcLimit, Reg.hiuHoldoff, Reg.mlkBlobCtl, Reg.ftbTodSec, Reg.wrpCkptCtl, Reg.mlkBlobSel, Reg.ftbTodSecHi, Nat.reduceDiv, h])
  have e16 := fun (s : State) (byCmd : Bool) => State.rejoin_without (W := W) s byCmd (by simp only [List.cons_subset, List.nil_subset, and_true, Reg.prxArm, Reg.prxTokenTrim, Reg.wrpMirrorReserve, Reg.ftbCtl, Reg.mtrRingCons, Reg.mtrArchConsHi, Reg.prxParkReq, Reg.mcrTestCtl, Reg.prxLoadCtl, Reg.mcrGcFree, Reg.fnmVfCtl, Reg.wrpHoldupCtl, Reg.hptContainCtl, Reg.ftbTodCtl, Reg.mlkCmd, Reg.mcrGcLimit, Reg.hiuHoldoff, Reg.mlkBlobCtl, Reg.ftbTodSec, Reg.wrpCkptCtl, Reg.mlkBlobSel, Reg.ftbTodSecHi, Nat.reduceDiv, h])
  have e17 := fun (s : State) => State.arm_without (W := W) s (by simp only [List.cons_subset, List.nil_subset, and_true, Reg.prxArm, Reg.prxTokenTrim, Reg.wrpMirrorReserve, Reg.ftbCtl, Reg.mtrRingCons, Reg.mtrArchConsHi, Reg.prxParkReq, Reg.mcrTestCtl, Reg.prxLoadCtl, Reg.mcrGcFree, Reg.fnmVfCtl, Reg.wrpHoldupCtl, Reg.hptContainCtl, Reg.ftbTodCtl, Reg.mlkCmd, Reg.mcrGcLimit, Reg.hiuHoldoff, Reg.mlkBlobCtl, Reg.ftbTodSec, Reg.wrpCkptCtl, Reg.mlkBlobSel, Reg.ftbTodSecHi, Nat.reduceDiv, h])
  have e18 := fun (s : State) (v : Word) => State.ftbCtlWrite_without (W := W) s v (by simp only [List.cons_subset, List.nil_subset, and_true, Reg.prxArm, Reg.prxTokenTrim, Reg.wrpMirrorReserve, Reg.ftbCtl, Reg.mtrRingCons, Reg.mtrArchConsHi, Reg.prxParkReq, Reg.mcrTestCtl, Reg.prxLoadCtl, Reg.mcrGcFree, Reg.fnmVfCtl, Reg.wrpHoldupCtl, Reg.hptContainCtl, Reg.ftbTodCtl, Reg.mlkCmd, Reg.mcrGcLimit, Reg.hiuHoldoff, Reg.mlkBlobCtl, Reg.ftbTodSec, Reg.wrpCkptCtl, Reg.mlkBlobSel, Reg.ftbTodSecHi, Nat.reduceDiv, h])
  have e19 := fun (s : State) => State.quiesce_without (W := W) s (by simp only [List.cons_subset, List.nil_subset, and_true, Reg.prxArm, Reg.prxTokenTrim, Reg.wrpMirrorReserve, Reg.ftbCtl, Reg.mtrRingCons, Reg.mtrArchConsHi, Reg.prxParkReq, Reg.mcrTestCtl, Reg.prxLoadCtl, Reg.mcrGcFree, Reg.fnmVfCtl, Reg.wrpHoldupCtl, Reg.hptContainCtl, Reg.ftbTodCtl, Reg.mlkCmd, Reg.mcrGcLimit, Reg.hiuHoldoff, Reg.mlkBlobCtl, Reg.ftbTodSec, Reg.wrpCkptCtl, Reg.mlkBlobSel, Reg.ftbTodSecHi, Nat.reduceDiv, h])
  have e20 := fun (s : State) (v : Word) => State.tokenTrim_without (W := W) s v (by simp only [List.cons_subset, List.nil_subset, and_true, Reg.prxArm, Reg.prxTokenTrim, Reg.wrpMirrorReserve, Reg.ftbCtl, Reg.mtrRingCons, Reg.mtrArchConsHi, Reg.prxParkReq, Reg.mcrTestCtl, Reg.prxLoadCtl, Reg.mcrGcFree, Reg.fnmVfCtl, Reg.wrpHoldupCtl, Reg.hptContainCtl, Reg.ftbTodCtl, Reg.mlkCmd, Reg.mcrGcLimit, Reg.hiuHoldoff, Reg.mlkBlobCtl, Reg.ftbTodSec, Reg.wrpCkptCtl, Reg.mlkBlobSel, Reg.ftbTodSecHi, Nat.reduceDiv, h])
  have e21 := fun (s : State) => State.todArm_without (W := W) s (by simp only [List.cons_subset, List.nil_subset, and_true, Reg.prxArm, Reg.prxTokenTrim, Reg.wrpMirrorReserve, Reg.ftbCtl, Reg.mtrRingCons, Reg.mtrArchConsHi, Reg.prxParkReq, Reg.mcrTestCtl, Reg.prxLoadCtl, Reg.mcrGcFree, Reg.fnmVfCtl, Reg.wrpHoldupCtl, Reg.hptContainCtl, Reg.ftbTodCtl, Reg.mlkCmd, Reg.mcrGcLimit, Reg.hiuHoldoff, Reg.mlkBlobCtl, Reg.ftbTodSec, Reg.wrpCkptCtl, Reg.mlkBlobSel, Reg.ftbTodSecHi, Nat.reduceDiv, h])
  have e22 := fun (s : State) => State.showRing_without (W := W) s (by simp only [List.cons_subset, List.nil_subset, and_true, Reg.prxArm, Reg.prxTokenTrim, Reg.wrpMirrorReserve, Reg.ftbCtl, Reg.mtrRingCons, Reg.mtrArchConsHi, Reg.prxParkReq, Reg.mcrTestCtl, Reg.prxLoadCtl, Reg.mcrGcFree, Reg.fnmVfCtl, Reg.wrpHoldupCtl, Reg.hptContainCtl, Reg.ftbTodCtl, Reg.mlkCmd, Reg.mcrGcLimit, Reg.hiuHoldoff, Reg.mlkBlobCtl, Reg.ftbTodSec, Reg.wrpCkptCtl, Reg.mlkBlobSel, Reg.ftbTodSecHi, Nat.reduceDiv, h])
  have e23 := fun (s : State) => State.save_without (W := W) s (by simp only [List.cons_subset, List.nil_subset, and_true, Reg.prxArm, Reg.prxTokenTrim, Reg.wrpMirrorReserve, Reg.ftbCtl, Reg.mtrRingCons, Reg.mtrArchConsHi, Reg.prxParkReq, Reg.mcrTestCtl, Reg.prxLoadCtl, Reg.mcrGcFree, Reg.fnmVfCtl, Reg.wrpHoldupCtl, Reg.hptContainCtl, Reg.ftbTodCtl, Reg.mlkCmd, Reg.mcrGcLimit, Reg.hiuHoldoff, Reg.mlkBlobCtl, Reg.ftbTodSec, Reg.wrpCkptCtl, Reg.mlkBlobSel, Reg.ftbTodSecHi, Nat.reduceDiv, h])
  have e24 := fun (s : State) (cause : Nat) => State.declareLost_without (W := W) s cause (by simp only [List.cons_subset, List.nil_subset, and_true, Reg.prxArm, Reg.prxTokenTrim, Reg.wrpMirrorReserve, Reg.ftbCtl, Reg.mtrRingCons, Reg.mtrArchConsHi, Reg.prxParkReq, Reg.mcrTestCtl, Reg.prxLoadCtl, Reg.mcrGcFree, Reg.fnmVfCtl, Reg.wrpHoldupCtl, Reg.hptContainCtl, Reg.ftbTodCtl, Reg.mlkCmd, Reg.mcrGcLimit, Reg.hiuHoldoff, Reg.mlkBlobCtl, Reg.ftbTodSec, Reg.wrpCkptCtl, Reg.mlkBlobSel, Reg.ftbTodSecHi, Nat.reduceDiv, h])
  have e25 := fun (s : State) (hi : Bool) (v : Word) => State.todSecWrite_without (W := W) s hi v (by simp only [List.cons_subset, List.nil_subset, and_true, Reg.prxArm, Reg.prxTokenTrim, Reg.wrpMirrorReserve, Reg.ftbCtl, Reg.mtrRingCons, Reg.mtrArchConsHi, Reg.prxParkReq, Reg.mcrTestCtl, Reg.prxLoadCtl, Reg.mcrGcFree, Reg.fnmVfCtl, Reg.wrpHoldupCtl, Reg.hptContainCtl, Reg.ftbTodCtl, Reg.mlkCmd, Reg.mcrGcLimit, Reg.hiuHoldoff, Reg.mlkBlobCtl, Reg.ftbTodSec, Reg.wrpCkptCtl, Reg.mlkBlobSel, Reg.ftbTodSecHi, Nat.reduceDiv, h])
  have e26 := fun (s : State) (v : Word) => State.testStart_without (W := W) s v (by simp only [List.cons_subset, List.nil_subset, and_true, Reg.prxArm, Reg.prxTokenTrim, Reg.wrpMirrorReserve, Reg.ftbCtl, Reg.mtrRingCons, Reg.mtrArchConsHi, Reg.prxParkReq, Reg.mcrTestCtl, Reg.prxLoadCtl, Reg.mcrGcFree, Reg.fnmVfCtl, Reg.wrpHoldupCtl, Reg.hptContainCtl, Reg.ftbTodCtl, Reg.mlkCmd, Reg.mcrGcLimit, Reg.hiuHoldoff, Reg.mlkBlobCtl, Reg.ftbTodSec, Reg.wrpCkptCtl, Reg.mlkBlobSel, Reg.ftbTodSecHi, Nat.reduceDiv, h])
  have e27 := fun (s : State) => State.linkReset_without (W := W) s (by simp only [List.cons_subset, List.nil_subset, and_true, Reg.prxArm, Reg.prxTokenTrim, Reg.wrpMirrorReserve, Reg.ftbCtl, Reg.mtrRingCons, Reg.mtrArchConsHi, Reg.prxParkReq, Reg.mcrTestCtl, Reg.prxLoadCtl, Reg.mcrGcFree, Reg.fnmVfCtl, Reg.wrpHoldupCtl, Reg.hptContainCtl, Reg.ftbTodCtl, Reg.mlkCmd, Reg.mcrGcLimit, Reg.hiuHoldoff, Reg.mlkBlobCtl, Reg.ftbTodSec, Reg.wrpCkptCtl, Reg.mlkBlobSel, Reg.ftbTodSecHi, Nat.reduceDiv, h])
  have e28 := fun (s : State) => State.parkRequest_without (W := W) s (by simp only [List.cons_subset, List.nil_subset, and_true, Reg.prxArm, Reg.prxTokenTrim, Reg.wrpMirrorReserve, Reg.ftbCtl, Reg.mtrRingCons, Reg.mtrArchConsHi, Reg.prxParkReq, Reg.mcrTestCtl, Reg.prxLoadCtl, Reg.mcrGcFree, Reg.fnmVfCtl, Reg.wrpHoldupCtl, Reg.hptContainCtl, Reg.ftbTodCtl, Reg.mlkCmd, Reg.mcrGcLimit, Reg.hiuHoldoff, Reg.mlkBlobCtl, Reg.ftbTodSec, Reg.wrpCkptCtl, Reg.mlkBlobSel, Reg.ftbTodSecHi, Nat.reduceDiv, h])
  have e29 := fun (s : State) => State.gcReview_without (W := W) s (by simp only [List.cons_subset, List.nil_subset, and_true, Reg.prxArm, Reg.prxTokenTrim, Reg.wrpMirrorReserve, Reg.ftbCtl, Reg.mtrRingCons, Reg.mtrArchConsHi, Reg.prxParkReq, Reg.mcrTestCtl, Reg.prxLoadCtl, Reg.mcrGcFree, Reg.fnmVfCtl, Reg.wrpHoldupCtl, Reg.hptContainCtl, Reg.ftbTodCtl, Reg.mlkCmd, Reg.mcrGcLimit, Reg.hiuHoldoff, Reg.mlkBlobCtl, Reg.ftbTodSec, Reg.wrpCkptCtl, Reg.mlkBlobSel, Reg.ftbTodSecHi, Nat.reduceDiv, h])
  have e30 := fun (s : State) => State.checkpointAll_without (W := W) s (by simp only [List.cons_subset, List.nil_subset, and_true, Reg.prxArm, Reg.prxTokenTrim, Reg.wrpMirrorReserve, Reg.ftbCtl, Reg.mtrRingCons, Reg.mtrArchConsHi, Reg.prxParkReq, Reg.mcrTestCtl, Reg.prxLoadCtl, Reg.mcrGcFree, Reg.fnmVfCtl, Reg.wrpHoldupCtl, Reg.hptContainCtl, Reg.ftbTodCtl, Reg.mlkCmd, Reg.mcrGcLimit, Reg.hiuHoldoff, Reg.mlkBlobCtl, Reg.ftbTodSec, Reg.wrpCkptCtl, Reg.mlkBlobSel, Reg.ftbTodSecHi, Nat.reduceDiv, h])
  have e31 := fun (s : State) => State.loadStart_without (W := W) s (by simp only [List.cons_subset, List.nil_subset, and_true, Reg.prxArm, Reg.prxTokenTrim, Reg.wrpMirrorReserve, Reg.ftbCtl, Reg.mtrRingCons, Reg.mtrArchConsHi, Reg.prxParkReq, Reg.mcrTestCtl, Reg.prxLoadCtl, Reg.mcrGcFree, Reg.fnmVfCtl, Reg.wrpHoldupCtl, Reg.hptContainCtl, Reg.ftbTodCtl, Reg.mlkCmd, Reg.mcrGcLimit, Reg.hiuHoldoff, Reg.mlkBlobCtl, Reg.ftbTodSec, Reg.wrpCkptCtl, Reg.mlkBlobSel, Reg.ftbTodSecHi, Nat.reduceDiv, h])
  have e32 := fun (s : State) => State.showHealth_without (W := W) s (by simp only [List.cons_subset, List.nil_subset, and_true, Reg.prxArm, Reg.prxTokenTrim, Reg.wrpMirrorReserve, Reg.ftbCtl, Reg.mtrRingCons, Reg.mtrArchConsHi, Reg.prxParkReq, Reg.mcrTestCtl, Reg.prxLoadCtl, Reg.mcrGcFree, Reg.fnmVfCtl, Reg.wrpHoldupCtl, Reg.hptContainCtl, Reg.ftbTodCtl, Reg.mlkCmd, Reg.mcrGcLimit, Reg.hiuHoldoff, Reg.mlkBlobCtl, Reg.ftbTodSec, Reg.wrpCkptCtl, Reg.mlkBlobSel, Reg.ftbTodSecHi, Nat.reduceDiv, h])
  unfold State.actLow
  repeat' (first
    | with_reducible rfl
    | with_reducible refine (e0 _).trans ?_
    | with_reducible refine (e1 _).trans ?_
    | with_reducible refine (e2 _).trans ?_
    | with_reducible refine (e3 _ _).trans ?_
    | with_reducible refine (e4 _ _).trans ?_
    | with_reducible refine (e5 _).trans ?_
    | with_reducible refine (e6 _).trans ?_
    | with_reducible refine (e7 _ _).trans ?_
    | with_reducible refine (e8 _).trans ?_
    | with_reducible refine (e9 _ _).trans ?_
    | with_reducible refine (e10 _ _).trans ?_
    | with_reducible refine (e11 _).trans ?_
    | with_reducible refine (e12 _).trans ?_
    | with_reducible refine (State.store_without _ _ _ _ (by simp only [List.cons_subset, List.nil_subset, and_true, Reg.prxArm, Reg.prxTokenTrim, Reg.wrpMirrorReserve, Reg.ftbCtl, Reg.mtrRingCons, Reg.mtrArchConsHi, Reg.prxParkReq, Reg.mcrTestCtl, Reg.prxLoadCtl, Reg.mcrGcFree, Reg.fnmVfCtl, Reg.wrpHoldupCtl, Reg.hptContainCtl, Reg.ftbTodCtl, Reg.mlkCmd, Reg.mcrGcLimit, Reg.hiuHoldoff, Reg.mlkBlobCtl, Reg.ftbTodSec, Reg.wrpCkptCtl, Reg.mlkBlobSel, Reg.ftbTodSecHi, Nat.reduceDiv, h])).trans ?_
    | with_reducible refine (e13 _).trans ?_
    | with_reducible refine (e14 _ _).trans ?_
    | with_reducible refine (e15 _).trans ?_
    | with_reducible refine (e16 _ _).trans ?_
    | with_reducible refine (e17 _).trans ?_
    | with_reducible refine (e18 _ _).trans ?_
    | with_reducible refine (e19 _).trans ?_
    | with_reducible refine (e20 _ _).trans ?_
    | with_reducible refine (e21 _).trans ?_
    | with_reducible refine (e22 _).trans ?_
    | with_reducible refine (e23 _).trans ?_
    | with_reducible refine (e24 _ _).trans ?_
    | with_reducible refine (e25 _ _ _).trans ?_
    | with_reducible refine (e26 _ _).trans ?_
    | with_reducible refine (e27 _).trans ?_
    | with_reducible refine (e28 _).trans ?_
    | with_reducible refine (e29 _).trans ?_
    | with_reducible refine (State.when_without _ _ _ (fun t => ?_)).trans ?_
    | with_reducible refine (e30 _).trans ?_
    | simp only [State.acts, List.foldl_cons, List.foldl_nil]
    | with_reducible refine (e31 _).trans ?_
    | with_reducible refine (e32 _).trans ?_
    | with_reducible refine without_if ?_ ?_)

theorem State.actHigh_without {W : List Part} (s : State) (by_ : Requester) (d : RegDef) (off : Nat) (v : Word)
    (h : [Part.prx, .cmds, .rdp, .wrp, .fns, .hpt, .mig, .evc, .sdm, .pwr, .log, .sec, .lpb, .tln, .out, .draw,
    .regs 1, .regs 2, .regs 3, .regs 7, .regs 8, .regs 11, .regs 12, .regs 15, .regs 17, .regs 18, .regs 19, .regs 20,
    .regs (off / 0x100000)] ⊆ W) :
    (s.actHigh by_ d off v).without W = s.without W := by
  simp only [List.cons_subset, List.nil_subset, and_true] at h
  simp only [State.actHigh, ↓State.holdoffWrite_without, ↓State.ringWrite_without, ↓State.setReg_without,
      ↓State.srcCfgWrite_without, ↓State.store_without, ↓State.coreRegWrite_without, ↓State.sppCtlWrite_without,
      ↓State.sdmWrite_without, ↓State.resetBegin_without, ↓State.winCommit_without, ↓State.when_without,
      ↓State.unpendWrite_without, ↓State.xferCtl_without, ↓State.showTlnRing_without, ↓State.consWrite_without,
      Reg.pwrResetCtl, Reg.evcUnpend, Reg.lpbUpBaseHi, Reg.lpbUpLocal, Reg.lpbUpBaseLo, Reg.evcCtl, Reg.evcRing,
      Reg.lpbWinCommit, Reg.sppCtl, Reg.pwrEvlogCons, Reg.lpbUpSize, Reg.tlnXferReg, Reg.tlnXferDataHi,
      Reg.tlnXferDataLo, Reg.tlnRingCons, Reg.tlnXferCtl, Nat.reduceDiv, ↓without_ite, ↓without_foldl, ite_self,
      implies_true, List.cons_subset, List.nil_subset, and_true, and_self, true_and, h]

theorem State.writeReg_without {W : List Part} (s : State) (by_ : Requester) (off : Nat) (value sets : Word)
    (h : [Part.ftb, .prx, .tenants, .cmds, .mch, .rdp, .wrp, .mcr, .nss, .fns, .hpt, .mig, .aens, .errs, .evc, .sdm,
    .mlk, .pwr, .log, .sec, .mtr, .lpb, .tln, .out, .draw, .regs 1, .regs 2, .regs 3, .regs 4, .regs 5, .regs 6,
    .regs 7, .regs 8, .regs 9, .regs 11, .regs 12, .regs 13, .regs 15, .regs 17, .regs 18, .regs 19, .regs 20,
    .regs (off / 0x100000)] ⊆ W) :
    (s.writeReg by_ off value sets).without W = s.without W := by
  simp only [List.cons_subset, List.nil_subset, and_true] at h
  unfold State.writeReg
  (repeat' split) <;> simp only [↓State.accessFault_without, ↓State.actLow_without, ↓State.actHigh_without,
      ↓without_ite, ↓without_foldl, ite_self, implies_true, List.cons_subset, List.nil_subset, and_true, and_self,
      true_and, h]

end Sys2Proof.Machine
end

