-- ==== Sys2Proof/Laws/KeepWindows.lean ====
section
/-! SUPPORT. Which parts of the state the operations of Machine/Windows.lean may change: every other part stays. -/
set_option linter.unusedSimpArgs false
set_option linter.unusedVariables false
namespace Sys2Proof.Machine


theorem State.ccWrite_without {W : List Part} (s : State) (f : Nat) (v : Word) (h : [Part.prx, .tenants, .cmds, .rdp,
    .wrp, .fns, .hpt, .aens, .evc, .out, .regs 1, .regs 3, .regs 7, .regs 8, .regs 15] ⊆ W) :
    (s.ccWrite f v).without W = s.without W := by
  simp only [List.cons_subset, List.nil_subset, and_true] at h
  simp only [State.ccWrite, ↓State.updFn_without, ↓State.ccDisable_without, ↓State.ccEnable_without, ↓without_ite,
      ↓without_foldl, ite_self, implies_true, List.cons_subset, List.nil_subset, and_true, and_self, true_and, h]

theorem State.nvmeWrite_without {W : List Part} (s : State) (f off : Nat) (v : Word) (h : [Part.prx, .tenants, .cmds,
    .rdp, .wrp, .fns, .hpt, .aens, .evc, .out, .regs 1, .regs 3, .regs 7, .regs 8, .regs 15] ⊆ W) :
    (s.nvmeWrite f off v).without W = s.without W := by
  simp only [List.cons_subset, List.nil_subset, and_true] at h
  simp only [State.nvmeWrite, ↓State.updFn_without, ↓State.ccWrite_without, ↓without_ite, ↓without_foldl, ite_self,
      implies_true, List.cons_subset, List.nil_subset, and_true, and_self, true_and, h]

theorem State.msixWrite_without {W : List Part} (s : State) (f k : Nat) (v : Word) (h : [Part.fns, .hpt, .out, .regs 1,
    .regs 3] ⊆ W) :
    (s.msixWrite f k v).without W = s.without W := by
  simp only [List.cons_subset, List.nil_subset, and_true] at h
  simp only [State.msixWrite, ↓State.updFn_without, ↓State.msixUnmask_without, ↓without_ite, ↓without_foldl, ite_self,
      implies_true, List.cons_subset, List.nil_subset, and_true, and_self, true_and, h]

theorem State.bar0Dword_without {W : List Part} (s : State) (f addr : Nat) (v : Word) (h : [Part.prx, .tenants, .cmds,
    .rdp, .wrp, .fns, .hpt, .aens, .evc, .log, .out, .regs 1, .regs 3, .regs 7, .regs 8, .regs 15, .regs 20] ⊆ W) :
    (s.bar0Dword f addr v).without W = s.without W := by
  simp only [List.cons_subset, List.nil_subset, and_true] at h
  simp only [State.bar0Dword, ↓State.nvmeWrite_without, ↓State.sqDoorbell_without, ↓State.msixWrite_without,
      ↓State.cqDoorbell_without, ↓without_ite, ↓without_foldl, ite_self, implies_true, List.cons_subset,
      List.nil_subset, and_true, and_self, true_and, h]

theorem State.dwordRead_without {W : List Part} (s : State) (r : MemReq) (addr : Nat) (h : [Part.evc, .draw, .regs 4,
    .regs 8, .regs 11, .regs 15, .regs 16, .regs (addr / 0x100000)] ⊆ W) :
    (s.dwordRead r addr).2.without W = s.without W := by
  simp only [List.cons_subset, List.nil_subset, and_true] at h
  unfold State.dwordRead
  (repeat' split) <;> simp only [↓State.readReg_without, ↓without_ite, ↓without_foldl, ite_self, implies_true,
      List.cons_subset, List.nil_subset, and_true, and_self, true_and, h]

theorem State.dwordWrite_without {W : List Part} (s : State) (r : MemReq) (addr : Nat) (v sets : Word) (h : [Part.ftb,
    .prx, .tenants, .cmds, .mch, .rdp, .wrp, .mcr, .nss, .fns, .hpt, .mig, .aens, .errs, .evc, .sdm, .mlk, .pwr, .log,
    .sec, .mtr, .lpb, .tln, .out, .draw, .regs 1, .regs 2, .regs 3, .regs 4, .regs 5, .regs 6, .regs 7, .regs 8,
    .regs 9, .regs 11, .regs 12, .regs 13, .regs 15, .regs 17, .regs 18, .regs 19, .regs 20,
    .regs (addr / 0x100000)] ⊆ W) :
    (s.dwordWrite r addr v sets).without W = s.without W := by
  simp only [List.cons_subset, List.nil_subset, and_true] at h
  simp only [State.dwordWrite, ↓State.bar0Dword_without, ↓State.writeReg_without, ↓without_ite, ↓without_foldl,
      ite_self, implies_true, List.cons_subset, List.nil_subset, and_true, and_self, true_and, h]

theorem State.windowRead_without {W : List Part} (s : State) (r : MemReq) (h : [Part.evc, .out, .draw, .regs 4,
    .regs 8, .regs 11, .regs 15, .regs 16, .regs (r.addr / 0x100000), .regs ((r.addr + 4) / 0x100000)] ⊆ W) :
    (s.windowRead r).without W = s.without W := by
  simp only [List.cons_subset, List.nil_subset, and_true] at h
  have e0 := fun (s : State) (o : Out) => State.emit_without (W := W) s o (by simp only [List.cons_subset, List.nil_subset, and_true, Nat.reduceDiv, h])
  unfold State.windowRead
  repeat' (first
    | with_reducible rfl
    | with_reducible refine (State.dwordRead_without _ _ _ (by simp only [List.cons_subset, List.nil_subset, and_true, Nat.reduceDiv, h])).trans ?_
    | with_reducible refine (e0 _ _).trans ?_
    | with_reducible refine without_if ?_ ?_
    | with_reducible refine (without_foldl (fun t a => ?_) _ _).trans ?_)

theorem State.windowWrite_without {W : List Part} (s : State) (r : MemReq) (h : [Part.ftb, .prx, .tenants, .cmds, .mch,
    .rdp, .wrp, .mcr, .nss, .fns, .hpt, .mig, .aens, .errs, .evc, .sdm, .mlk, .pwr, .log, .sec, .mtr, .lpb, .tln, .out,
    .draw, .regs 1, .regs 2, .regs 3, .regs 4, .regs 5, .regs 6, .regs 7, .regs 8, .regs 9, .regs 11, .regs 12,
    .regs 13, .regs 15, .regs 17, .regs 18, .regs 19, .regs 20, .regs (r.addr / 0x100000),
    .regs ((r.addr + 4) / 0x100000)] ⊆ W) :
    (s.windowWrite r).without W = s.without W := by
  simp only [List.cons_subset, List.nil_subset, and_true] at h
  unfold State.windowWrite
  repeat' (first
    | with_reducible rfl
    | with_reducible refine (State.dwordWrite_without _ _ _ _ _ (by simp only [List.cons_subset, List.nil_subset, and_true, Nat.reduceDiv, h])).trans ?_
    | with_reducible refine without_if ?_ ?_)

theorem State.coreRequest_without {W : List Part} (s : State) (c : Nat) (r : MemReq) (h : [Part.ftb, .prx, .tenants,
    .cmds, .mch, .rdp, .wrp, .mcr, .nss, .fns, .hpt, .mig, .aens, .errs, .evc, .sdm, .mlk, .pwr, .log, .sec, .mtr,
    .lpb, .tln, .out, .draw, .regs 1, .regs 2, .regs 3, .regs 4, .regs 5, .regs 6, .regs 7, .regs 8, .regs 9, .regs 11,
    .regs 12, .regs 13, .regs 15, .regs 16, .regs 17, .regs 18, .regs 19, .regs 20, .regs (r.addr / 0x100000),
    .regs ((r.addr + 4) / 0x100000)] ⊆ W) :
    (s.coreRequest c r).without W = s.without W := by
  simp only [List.cons_subset, List.nil_subset, and_true] at h
  have e0 := fun (s : State) (core addr : Nat) => State.accessFault_without (W := W) s core addr (by simp only [List.cons_subset, List.nil_subset, and_true, Nat.reduceDiv, h])
  have e1 := fun (s : State) (o : Out) => State.emit_without (W := W) s o (by simp only [List.cons_subset, List.nil_subset, and_true, Nat.reduceDiv, h])
  unfold State.coreRequest
  repeat' (first
    | with_reducible rfl
    | with_reducible refine (State.windowRead_without _ _ (by simp only [List.cons_subset, List.nil_subset, and_true, Nat.reduceDiv, h])).trans ?_
    | with_reducible refine (e0 _ _ _).trans ?_
    | with_reducible refine (State.windowWrite_without _ _ (by simp only [List.cons_subset, List.nil_subset, and_true, Nat.reduceDiv, h])).trans ?_
    | with_reducible refine (e1 _ _).trans ?_
    | with_reducible refine without_if ?_ ?_
    | with_reducible refine (without_foldl (fun t a => ?_) _ _).trans ?_)

theorem State.memRequest_without {W : List Part} (s : State) (r : MemReq) (h : [Part.ftb, .prx, .tenants, .cmds, .mch,
    .rdp, .wrp, .mcr, .nss, .fns, .hpt, .mig, .aens, .errs, .evc, .sdm, .mlk, .pwr, .log, .sec, .mtr, .lpb, .tln, .out,
    .draw, .regs 1, .regs 2, .regs 3, .regs 4, .regs 5, .regs 6, .regs 7, .regs 8, .regs 9, .regs 11, .regs 12,
    .regs 13, .regs 15, .regs 16, .regs 17, .regs 18, .regs 19, .regs 20, .regs (r.addr / 0x100000),
    .regs ((r.addr + 4) / 0x100000)] ⊆ W) :
    (s.memRequest r).without W = s.without W := by
  simp only [List.cons_subset, List.nil_subset, and_true] at h
  have e0 := fun (s : State) (r : WinReq) => State.bar4Request_without (W := W) s r (by simp only [List.cons_subset, List.nil_subset, and_true, Reg.hptEvent, Reg.hptPoisonCnt, Reg.hptMalformedCnt, Nat.reduceDiv, h])
  have e1 := fun (s : State) => State.linkBusy_without (W := W) s (by simp only [List.cons_subset, List.nil_subset, and_true, Reg.hptEvent, Reg.hptPoisonCnt, Reg.hptMalformedCnt, Nat.reduceDiv, h])
  have e2 := fun (s : State) (f bit : Nat) => State.aerUnc_without (W := W) s f bit (by simp only [List.cons_subset, List.nil_subset, and_true, Reg.hptEvent, Reg.hptPoisonCnt, Reg.hptMalformedCnt, Nat.reduceDiv, h])
  have e3 := fun (s : State) => State.drawn_without (W := W) s (by simp only [List.cons_subset, List.nil_subset, and_true, Reg.hptEvent, Reg.hptPoisonCnt, Reg.hptMalformedCnt, Nat.reduceDiv, h])
  have e4 := fun (s : State) (f : Nat) (posted : Bool) => State.unsupported_without (W := W) s f posted (by simp only [List.cons_subset, List.nil_subset, and_true, Reg.hptEvent, Reg.hptPoisonCnt, Reg.hptMalformedCnt, Nat.reduceDiv, h])
  have e5 := fun (s : State) (o : Out) => State.emit_without (W := W) s o (by simp only [List.cons_subset, List.nil_subset, and_true, Reg.hptEvent, Reg.hptPoisonCnt, Reg.hptMalformedCnt, Nat.reduceDiv, h])
  unfold State.memRequest
  repeat' (first
    | with_reducible rfl
    | with_reducible refine (State.windowRead_without _ _ (by simp only [List.cons_subset, List.nil_subset, and_true, Reg.hptEvent, Reg.hptPoisonCnt, Reg.hptMalformedCnt, Nat.reduceDiv, h])).trans ?_
    | with_reducible refine (State.countErr_without _ _ _ _ _ _ (by simp only [List.cons_subset, List.nil_subset, and_true, Reg.hptEvent, Reg.hptPoisonCnt, Reg.hptMalformedCnt, Nat.reduceDiv, h])).trans ?_
    | with_reducible refine (State.windowWrite_without _ _ (by simp only [List.cons_subset, List.nil_subset, and_true, Reg.hptEvent, Reg.hptPoisonCnt, Reg.hptMalformedCnt, Nat.reduceDiv, h])).trans ?_
    | with_reducible refine (State.raise_without _ _ _ (by simp only [List.cons_subset, List.nil_subset, and_true, Reg.hptEvent, Reg.hptPoisonCnt, Reg.hptMalformedCnt, Nat.reduceDiv, h])).trans ?_
    | with_reducible refine (e0 _ _).trans ?_
    | with_reducible refine (e1 _).trans ?_
    | with_reducible refine (e2 _ _ _).trans ?_
    | with_reducible refine (e3 _).trans ?_
    | with_reducible refine (e4 _ _ _).trans ?_
    | with_reducible refine (e5 _ _).trans ?_
    | with_reducible refine without_if ?_ ?_)

end Sys2Proof.Machine
end

