-- ==== Sys2Proof/Laws/KeepCfgSpace.lean ====
section
/-! SUPPORT. Which parts of the state the operations of Machine/CfgSpace.lean may change: every other part stays. -/
set_option linter.unusedSimpArgs false
set_option linter.unusedVariables false
namespace Sys2Proof.Machine


theorem State.setCfg_without {W : List Part} (s : State) (f off : Nat) (v : Word) (h : [Part.fns] ⊆ W) :
    (s.setCfg f off v).without W = s.without W := by
  simp only [List.cons_subset, List.nil_subset, and_true] at h
  simp only [State.setCfg, ↓State.updFn_without, ↓without_ite, ↓without_foldl, ite_self, implies_true,
      List.cons_subset, List.nil_subset, and_true, and_self, true_and, h]

theorem State.commandWrite_without {W : List Part} (s : State) (f : Nat) (v : Word) (h : [Part.cmds, .fns, .hpt, .evc,
    .lpb, .out, .regs 1, .regs 2, .regs 3, .regs 11, .regs 15, .regs 17, .regs 19] ⊆ W) :
    (s.commandWrite f v).without W = s.without W := by
  simp only [List.cons_subset, List.nil_subset, and_true] at h
  simp only [State.commandWrite, ↓State.updFn_without, ↓State.setCfg_without, ↓State.bmeOn_without,
      ↓State.bmeOff_without, ↓without_ite, ↓without_foldl, ite_self, implies_true, List.cons_subset, List.nil_subset,
      and_true, and_self, true_and, h]

theorem State.pmcsrWrite_without {W : List Part} (s : State) (f : Nat) (v : Word) (h : [Part.cmds, .fns, .hpt, .evc,
    .lpb, .out, .regs 1, .regs 2, .regs 3, .regs 11, .regs 15, .regs 17, .regs 19] ⊆ W) :
    (s.pmcsrWrite f v).without W = s.without W := by
  simp only [List.cons_subset, List.nil_subset, and_true] at h
  simp only [State.pmcsrWrite, ↓State.setCfg_without, ↓State.powerState_without, ↓State.when_without, ↓without_ite,
      ↓without_foldl, ite_self, implies_true, List.cons_subset, List.nil_subset, and_true, and_self, true_and, h]

theorem State.msixCtlWrite_without {W : List Part} (s : State) (f : Nat) (v : Word) (h : [Part.fns, .hpt, .out,
    .regs 1, .regs 3] ⊆ W) :
    (s.msixCtlWrite f v).without W = s.without W := by
  simp only [List.cons_subset, List.nil_subset, and_true] at h
  simp only [State.msixCtlWrite, ↓State.updFn_without, ↓State.msixDrain_without, ↓without_ite, ↓without_foldl,
      ite_self, implies_true, List.cons_subset, List.nil_subset, and_true, and_self, true_and, h]

theorem State.devCtlWrite_without {W : List Part} (s : State) (f : Nat) (v : Word) (h : [Part.prx, .tenants, .cmds,
    .rdp, .wrp, .fns, .hpt, .mig, .aens, .errs, .evc, .sdm, .log, .sec, .lpb, .out, .draw, .regs 1, .regs 2, .regs 3,
    .regs 5, .regs 7, .regs 8, .regs 11, .regs 12, .regs 15, .regs 17, .regs 19, .regs 20] ⊆ W) :
    (s.devCtlWrite f v).without W = s.without W := by
  simp only [List.cons_subset, List.nil_subset, and_true] at h
  simp only [State.devCtlWrite, ↓State.setCfg_without, ↓State.vfFlr_without, ↓State.pfFlr_without, ↓without_ite,
      ↓without_foldl, ite_self, implies_true, List.cons_subset, List.nil_subset, and_true, and_self, true_and, h]

theorem State.aerWrite_without {W : List Part} (s : State) (f off : Nat) (v : Word) (h : [Part.fns] ⊆ W) :
    (s.aerWrite f off v).without W = s.without W := by
  simp only [List.cons_subset, List.nil_subset, and_true] at h
  simp only [State.aerWrite, ↓State.updFn_without, ↓State.setCfg_without, ↓without_ite, ↓without_foldl, ite_self,
      implies_true, List.cons_subset, List.nil_subset, and_true, and_self, true_and, h]

theorem State.atsWrite_without {W : List Part} (s : State) (f : Nat) (v : Word) (h : [Part.fns, .hpt] ⊆ W) :
    (s.atsWrite f v).without W = s.without W := by
  simp only [List.cons_subset, List.nil_subset, and_true] at h
  simp only [State.atsWrite, ↓State.atcFlush_without, ↓State.updFn_without, ↓State.setCfg_without, ↓State.when_without,
      ↓without_ite, ↓without_foldl, ite_self, implies_true, List.cons_subset, List.nil_subset, and_true, and_self,
      true_and, h]

theorem State.sriovWrite_without {W : List Part} (s : State) (off : Nat) (v : Word) (h : [Part.prx, .tenants, .cmds,
    .rdp, .wrp, .fns, .hpt, .mig, .aens, .errs, .evc, .log, .out, .draw, .regs 1, .regs 2, .regs 3, .regs 7, .regs 8,
    .regs 15, .regs 20] ⊆ W) :
    (s.sriovWrite off v).without W = s.without W := by
  simp only [List.cons_subset, List.nil_subset, and_true] at h
  simp only [State.sriovWrite, ↓State.setCfg_without, ↓State.setField_without, ↓State.setBit_without,
      ↓State.vfEnableSet_without, ↓State.vfEnableClear_without, ↓State.drawn_without, Reg.pwrStatus, Reg.fnmStatus,
      Nat.reduceDiv, ↓without_ite, ↓without_foldl, ite_self, implies_true, List.cons_subset, List.nil_subset, and_true,
      and_self, true_and, h]

theorem State.doeGo_without {W : List Part} (s : State) (h : [Part.fns, .hpt, .evc, .out, .regs 1, .regs 3,
    .regs 15] ⊆ W) :
    (s.doeGo).without W = s.without W := by
  simp only [List.cons_subset, List.nil_subset, and_true] at h
  unfold State.doeGo
  (repeat' split) <;> simp only [↓State.doeRequest_without, ↓without_hpt, ↓without_ite, ↓without_foldl, ite_self,
      implies_true, List.cons_subset, List.nil_subset, and_true, and_self, true_and, h]

theorem State.doeWrite_without {W : List Part} (s : State) (off : Nat) (v : Word) (h : [Part.fns, .hpt, .evc, .out,
    .draw, .regs 1, .regs 3, .regs 15] ⊆ W) :
    (s.doeWrite off v).without W = s.without W := by
  simp only [List.cons_subset, List.nil_subset, and_true] at h
  simp only [State.doeWrite, ↓State.setCfg_without, ↓State.doeGo_without, ↓State.doeAbort_without,
      ↓State.drawn_without, ↓without_hpt, ↓without_ite, ↓without_foldl, ite_self, implies_true, List.cons_subset,
      List.nil_subset, and_true, and_self, true_and, h]

theorem State.cfgWrite_without {W : List Part} (s : State) (f off : Nat) (v : Word) (h : [Part.prx, .tenants, .cmds,
    .rdp, .wrp, .fns, .hpt, .mig, .aens, .errs, .evc, .sdm, .log, .sec, .lpb, .out, .draw, .regs 1, .regs 2, .regs 3,
    .regs 5, .regs 7, .regs 8, .regs 11, .regs 12, .regs 15, .regs 17, .regs 19, .regs 20] ⊆ W) :
    (s.cfgWrite f off v).without W = s.without W := by
  simp only [List.cons_subset, List.nil_subset, and_true] at h
  simp only [State.cfgWrite, ↓State.commandWrite_without, ↓State.setCfg_without, ↓State.sriovWrite_without,
      ↓State.atsWrite_without, ↓State.msixCtlWrite_without, ↓State.aerWrite_without, ↓State.doeWrite_without,
      ↓State.devCtlWrite_without, ↓State.pmcsrWrite_without, ↓without_ite, ↓without_foldl, ite_self, implies_true,
      List.cons_subset, List.nil_subset, and_true, and_self, true_and, h]

theorem State.configRequest_without {W : List Part} (s : State) (r : CfgReq) (h : [Part.prx, .tenants, .cmds, .rdp,
    .wrp, .fns, .hpt, .mig, .aens, .errs, .evc, .sdm, .log, .sec, .lpb, .out, .draw, .regs 1, .regs 2, .regs 3,
    .regs 5, .regs 7, .regs 8, .regs 11, .regs 12, .regs 15, .regs 17, .regs 19, .regs 20] ⊆ W) :
    (s.configRequest r).without W = s.without W := by
  simp only [List.cons_subset, List.nil_subset, and_true] at h
  simp only [State.configRequest, ↓State.linkBusy_without, ↓State.cfgWrite_without, ↓State.drawn_without,
      ↓State.unsupported_without, ↓State.emit_without, ↓without_ite, ↓without_foldl, ite_self, implies_true,
      List.cons_subset, List.nil_subset, and_true, and_self, true_and, h]

end Sys2Proof.Machine
end

