-- ==== Sys2Proof/Laws/KeepStep.lean ====
section
/-! SUPPORT. Which parts of the state the operations of Machine/Step.lean may change: every other part stays. -/
set_option linter.unusedSimpArgs false
set_option linter.unusedVariables false
namespace Sys2Proof.Machine


theorem State.withFetchWord_without {W : List Part} (s : State) (nbits w : Nat) (h : [Part.pending] ⊆ W) :
    (s.withFetchWord nbits w).without W = s.without W := by
  simp only [List.cons_subset, List.nil_subset, and_true] at h
  unfold State.withFetchWord
  (repeat' split) <;> simp only [↓without_pending, ↓without_ite, ↓without_foldl, ite_self, implies_true,
      List.cons_subset, List.nil_subset, and_true, and_self, true_and, h]

end Sys2Proof.Machine
end

