-- ==== Sys2Proof/Laws/Reg.lean ====
section
/-! SUPPORT. Laws of the register file: reading a register, a field or a bit after one was written, and what raising an
event, counting an error and writing the event log do. -/
namespace Sys2Proof.Machine

/-! ## Fields of a word -/

theorem testBit_wordField (r : Word) (lo w i : Nat) :
    (wordField r lo w).testBit i = (decide (i < w) && r.getLsbD (lo + i)) := by
  unfold wordField
  rw [Nat.testBit_mod_two_pow, Nat.testBit_div_two_pow, Nat.add_comm i lo, BitVec.testBit_toNat]

theorem getLsbD_setWordField (r : Word) (lo w v i : Nat) (hi : i < 32) :
    (setWordField r lo w v).getLsbD i =
      if lo ≤ i ∧ i < lo + w then (v % 2 ^ w).testBit (i - lo) else r.getLsbD i := by
  unfold setWordField
  rw [BitVec.getLsbD_or, BitVec.getLsbD_and, BitVec.getLsbD_not, BitVec.getLsbD_ofNat, BitVec.getLsbD_ofNat,
    Nat.testBit_mul_two_pow, Nat.testBit_mul_two_pow, Nat.testBit_two_pow_sub_one]
  by_cases h1 : lo ≤ i
  · by_cases h2 : i < lo + w
    · have : i - lo < w := by omega
      simp [hi, h1, h2, this]
    · have : ¬ i - lo < w := by omega
      simp [hi, h1, h2, this, Nat.testBit_mod_two_pow]
  · simp [hi, h1]

/-- A field reads back what was stored in it, modulo its width. -/
theorem wordField_setWordField_same (r : Word) (lo w v : Nat) (h : lo + w ≤ 32) :
    wordField (setWordField r lo w v) lo w = v % 2 ^ w := by
  apply Nat.eq_of_testBit_eq
  intro i
  rw [testBit_wordField]
  by_cases hi : i < w
  · rw [getLsbD_setWordField _ _ _ _ _ (by omega)]
    simp [hi]
  · simp [hi, Nat.testBit_mod_two_pow]

/-- A field keeps its value where another field, disjoint from it, is stored. -/
theorem wordField_setWordField_ne (r : Word) (lo w lo' w' v : Nat) (hd : lo' + w' ≤ lo ∨ lo + w ≤ lo') :
    wordField (setWordField r lo w v) lo' w' = wordField r lo' w' := by
  apply Nat.eq_of_testBit_eq
  intro i
  rw [testBit_wordField, testBit_wordField]
  by_cases hi : i < w'
  · by_cases h32 : lo' + i < 32
    · rw [getLsbD_setWordField _ _ _ _ _ h32, if_neg (by omega)]
    · rw [BitVec.getLsbD_of_ge _ _ (by omega), BitVec.getLsbD_of_ge _ _ (by omega)]
  · simp [hi]

/-! ## Reads after writes -/

theorem State.reg_setReg (s : State) (a b : Nat) (v : Word) : (s.setReg a v).reg b = if a = b then v else s.reg b :=
  Tab.get_set ..

@[simp] theorem State.reg_setReg_same (s : State) (a : Nat) (v : Word) : (s.setReg a v).reg a = v := by
  simp [State.reg_setReg]

theorem State.reg_setField (s : State) (a lo w v b : Nat) :
    (s.setField a lo w v).reg b = if a = b then setWordField (s.reg a) lo w v else s.reg b := State.reg_setReg ..

theorem State.field_setReg_ne (s : State) (a b lo w : Nat) (v : Word) (h : a ≠ b) :
    (s.setReg a v).field b lo w = s.field b lo w := by
  simp [State.field, State.reg_setReg, h]

theorem State.field_setField_ne (s : State) (a b lo w lo' w' v : Nat) (h : a ≠ b) :
    (s.setField a lo w v).field b lo' w' = s.field b lo' w' := State.field_setReg_ne _ _ _ _ _ _ h

theorem State.field_setField_same (s : State) (a lo w v : Nat) (h : lo + w ≤ 32) :
    (s.setField a lo w v).field a lo w = v % 2 ^ w := by
  simp [State.field, State.reg_setField, wordField_setWordField_same _ _ _ _ h]

theorem State.field_setField_disjoint (s : State) (a lo w lo' w' v : Nat) (h : lo' + w' ≤ lo ∨ lo + w ≤ lo') :
    (s.setField a lo w v).field a lo' w' = s.field a lo' w' := by
  simp [State.field, State.reg_setField, wordField_setWordField_ne _ _ _ _ _ _ h]

theorem State.bit_setBit (s : State) (a b i j : Nat) (v : Bool) (hi : i < 32) :
    (s.setBit a i v).bit b j = if a = b ∧ i = j then v else s.bit b j := by
  unfold State.bit State.setBit
  by_cases hab : a = b
  · subst hab
    by_cases hij : i = j
    · subst hij
      rw [State.field_setField_same _ _ _ _ _ (by omega)]
      cases v <;> simp
    · rw [State.field_setField_disjoint _ _ _ _ _ _ _ (by omega)]
      simp [hij]
  · rw [State.field_setField_ne _ _ _ _ _ _ _ _ hab]
    simp [hab]

theorem State.bit_setReg_ne (s : State) (a b i : Nat) (v : Word) (h : a ≠ b) : (s.setReg a v).bit b i = s.bit b i := by
  simp [State.bit, State.field_setReg_ne _ _ _ _ _ _ h]

theorem State.reg_setBit_ne (s : State) (a b i : Nat) (v : Bool) (h : a ≠ b) : (s.setBit a i v).reg b = s.reg b := by
  simp [State.setBit, State.reg_setField, h]

theorem State.reg_setNum (s : State) (a b v : Nat) :
    (s.setNum a v).reg b = if a = b then BitVec.ofNat 32 v else s.reg b := State.reg_setReg ..

theorem State.num_setNum_same (s : State) (a v : Nat) : (s.setNum a v).num a = v % 2 ^ 32 := by
  simp [State.num, State.reg_setNum]

theorem State.reg_inc_ne (s : State) (a b n : Nat) (h : a ≠ b) : (s.inc a n).reg b = s.reg b := by
  simp [State.inc, State.reg_setNum, h]

theorem satAdd_lt (a b : Nat) : satAdd 32 a b < 2 ^ 32 := by
  have h : satMax 32 = 4294967295 := rfl
  unfold satAdd; split <;> omega

/-- A counter after it counted: the sum, saturated (R37). -/
theorem State.num_inc_same (s : State) (a n : Nat) : (s.inc a n).num a = satAdd 32 (s.num a) n := by
  unfold State.inc
  rw [State.num_setNum_same]
  exact Nat.mod_eq_of_lt (satAdd_lt _ _)

/-! ## Events, the log and error counters -/

theorem State.reg_ring (s : State) (src r : Nat) (h : r / 0x100000 ≠ 15) : (s.ring src).reg r = s.reg r :=
  reg_of_without (W := [.evc, .regs 15]) (State.ring_without _ _ (by simp)) (by simp [h])

/-- Raising an event changes no register but its own and the Event Controller's. -/
theorem State.reg_raise_ne (s : State) (ev i r : Nat) (h : r / 0x100000 ≠ 15) (hr : ev ≠ r) :
    (s.raise ev i).reg r = s.reg r := by
  unfold State.raise
  dsimp only
  split
  · rw [State.reg_ring _ _ _ h, State.reg_setBit_ne _ _ _ _ _ hr]
  · rw [State.reg_setBit_ne _ _ _ _ _ hr]

theorem State.reg_raise_same (s : State) (ev i : Nat) (h : ev / 0x100000 ≠ 15) :
    (s.raise ev i).reg ev = (s.setBit ev i true).reg ev := by
  unfold State.raise
  dsimp only
  split
  · rw [State.reg_ring _ _ _ h]
  · rfl

/-- The bits of an _EVENT register after one of them was raised. -/
theorem State.bit_raise_same (s : State) (ev i j : Nat) (h : ev / 0x100000 ≠ 15) (hi : i < 32) :
    (s.raise ev i).bit ev j = if i = j then true else s.bit ev j := by
  have e : (s.raise ev i).bit ev j = (s.setBit ev i true).bit ev j := by
    simp only [State.bit, State.field, State.reg_raise_same _ _ _ h]
  rw [e, State.bit_setBit _ _ _ _ _ _ hi]
  simp

theorem State.bit_raise_ne (s : State) (ev i r j : Nat) (h : r / 0x100000 ≠ 15) (hr : ev ≠ r) :
    (s.raise ev i).bit r j = s.bit r j := by
  simp only [State.bit, State.field, State.reg_raise_ne _ _ _ _ h hr]

theorem State.reg_logAt (s : State) (b : Block) (code inst fn : Nat) (detail : List Word) (r : Nat)
    (h : logReg r = false) : (s.logAt b code inst fn detail).reg r = s.reg r := by
  simp only [logReg, Bool.or_eq_false_iff, beq_eq_false_iff_ne, ne_eq] at h
  obtain ⟨⟨⟨⟨⟨h15, hp⟩, hc⟩, hl⟩, hk⟩, he⟩ := h
  unfold State.logAt
  split
  · rw [State.reg_inc_ne _ _ _ _ (Ne.symm hk)]; rfl
  · unfold State.logNew
    dsimp only
    split
    · rw [State.reg_raise_ne _ _ _ _ h15 (Ne.symm he), State.reg_inc_ne _ _ _ _ (Ne.symm hl), State.reg_setNum,
        if_neg (Ne.symm hc), State.reg_setNum, if_neg (Ne.symm hp)]
      rfl
    · rw [State.reg_setNum, if_neg (Ne.symm hp)]
      rfl

/-- Counting an error counts its counter and changes no other register but those of the log. -/
theorem State.reg_countErr_ne (s : State) (b : Block) (off inst fn : Nat) (detail : List Word) (r : Nat)
    (h : logReg r = false) (hr : off ≠ r) : (s.countErr b off inst fn detail).reg r = s.reg r := by
  unfold State.countErr
  rw [State.reg_logAt _ _ _ _ _ _ _ h, State.reg_inc_ne _ _ _ _ hr]

theorem State.num_countErr_same (s : State) (b : Block) (off inst fn : Nat) (detail : List Word)
    (h : logReg off = false) : (s.countErr b off inst fn detail).num off = satAdd 32 (s.num off) 1 := by
  have e : (s.countErr b off inst fn detail).num off = (s.inc off).num off := by
    simp only [State.num, State.countErr, State.reg_logAt _ _ _ _ _ _ _ h]
  rw [e, State.num_inc_same]

theorem State.reg_raiseLog_ne (s : State) (b : Block) (ev i inst fn r : Nat) (h : logReg r = false) (hr : ev ≠ r) :
    (s.raiseLog b ev i inst fn).reg r = s.reg r := by
  unfold State.raiseLog
  rw [State.reg_logAt _ _ _ _ _ _ _ h, State.reg_raise_ne _ _ _ _ (by simp [logReg] at h; omega) hr]

theorem State.bit_raiseLog_same (s : State) (b : Block) (ev i inst fn j : Nat) (h : logReg ev = false) (hi : i < 32) :
    (s.raiseLog b ev i inst fn).bit ev j = if i = j then true else s.bit ev j := by
  have h15 : ev / 0x100000 ≠ 15 := by simp [logReg] at h; omega
  have e : (s.raiseLog b ev i inst fn).bit ev j = (s.raise ev i).bit ev j := by
    simp only [State.bit, State.field, State.raiseLog, State.reg_logAt _ _ _ _ _ _ _ h]
  rw [e, State.bit_raise_same _ _ _ _ h15 hi]

/-! ## Reads of the derived views -/

theorem State.bit_of_reg {s t : State} {r : Nat} (h : t.reg r = s.reg r) (i : Nat) : t.bit r i = s.bit r i := by
  simp only [State.bit, State.field, h]

theorem State.field_of_reg {s t : State} {r : Nat} (h : t.reg r = s.reg r) (lo w : Nat) : t.field r lo w = s.field r lo w := by
  simp only [State.field, h]

theorem State.num_of_reg {s t : State} {r : Nat} (h : t.reg r = s.reg r) : t.num r = s.num r := by
  simp only [State.num, h]

/-! ## Guards -/

theorem State.whenLive_live (s : State) (f : State → State) (h : s.live = true) : s.whenLive f = f s := by
  simp [State.whenLive, h]

theorem State.whenLive_dead (s : State) (f : State → State) (h : s.live = false) : s.whenLive f = s := by
  simp [State.whenLive, h]

/-- Only cores 0 to 5 make a write that is a control core's; PF0's has no effect (R136). -/
theorem State.byCore_core (s : State) (n off : Nat) (f : State → State) (h : s.live = true) (hn : n < 6) :
    s.byCore (.core n) off f = f s := by
  simp [State.byCore, State.whenLive, h, hn]

theorem State.byCore_pf0 (s : State) (off : Nat) (f : State → State) : s.byCore .pf0 off f = s := rfl

end Sys2Proof.Machine
end

