-- ==== Sys2Proof/Laws/State.lean ====
section
/-! SUPPORT. What the named updates of the state do to each of its fields: one law per field per update, so that no proof
unfolds a record update. -/
namespace Sys2Proof.Machine

/-! ## `State.setReg`: storing a register -/

@[simp] theorem State.setReg_pending (s : State) (off : Nat) (v : Word) : (s.setReg off v).pending = s.pending := rfl
@[simp] theorem State.setReg_regs (s : State) (off : Nat) (v : Word) : (s.setReg off v).regs = s.regs.set off v := rfl
@[simp] theorem State.setReg_ftb (s : State) (off : Nat) (v : Word) : (s.setReg off v).ftb = s.ftb := rfl
@[simp] theorem State.setReg_prx (s : State) (off : Nat) (v : Word) : (s.setReg off v).prx = s.prx := rfl
@[simp] theorem State.setReg_tenants (s : State) (off : Nat) (v : Word) : (s.setReg off v).tenants = s.tenants := rfl
@[simp] theorem State.setReg_cmds (s : State) (off : Nat) (v : Word) : (s.setReg off v).cmds = s.cmds := rfl
@[simp] theorem State.setReg_mch (s : State) (off : Nat) (v : Word) : (s.setReg off v).mch = s.mch := rfl
@[simp] theorem State.setReg_rdp (s : State) (off : Nat) (v : Word) : (s.setReg off v).rdp = s.rdp := rfl
@[simp] theorem State.setReg_wrp (s : State) (off : Nat) (v : Word) : (s.setReg off v).wrp = s.wrp := rfl
@[simp] theorem State.setReg_mcr (s : State) (off : Nat) (v : Word) : (s.setReg off v).mcr = s.mcr := rfl
@[simp] theorem State.setReg_nss (s : State) (off : Nat) (v : Word) : (s.setReg off v).nss = s.nss := rfl
@[simp] theorem State.setReg_fns (s : State) (off : Nat) (v : Word) : (s.setReg off v).fns = s.fns := rfl
@[simp] theorem State.setReg_hpt (s : State) (off : Nat) (v : Word) : (s.setReg off v).hpt = s.hpt := rfl
@[simp] theorem State.setReg_mig (s : State) (off : Nat) (v : Word) : (s.setReg off v).mig = s.mig := rfl
@[simp] theorem State.setReg_aens (s : State) (off : Nat) (v : Word) : (s.setReg off v).aens = s.aens := rfl
@[simp] theorem State.setReg_errs (s : State) (off : Nat) (v : Word) : (s.setReg off v).errs = s.errs := rfl
@[simp] theorem State.setReg_evc (s : State) (off : Nat) (v : Word) : (s.setReg off v).evc = s.evc := rfl
@[simp] theorem State.setReg_aow (s : State) (off : Nat) (v : Word) : (s.setReg off v).aow = s.aow := rfl
@[simp] theorem State.setReg_sdm (s : State) (off : Nat) (v : Word) : (s.setReg off v).sdm = s.sdm := rfl
@[simp] theorem State.setReg_mlk (s : State) (off : Nat) (v : Word) : (s.setReg off v).mlk = s.mlk := rfl
@[simp] theorem State.setReg_pwr (s : State) (off : Nat) (v : Word) : (s.setReg off v).pwr = s.pwr := rfl
@[simp] theorem State.setReg_sec (s : State) (off : Nat) (v : Word) : (s.setReg off v).sec = s.sec := rfl
@[simp] theorem State.setReg_keys (s : State) (off : Nat) (v : Word) : (s.setReg off v).keys = s.keys := rfl
@[simp] theorem State.setReg_mtr (s : State) (off : Nat) (v : Word) : (s.setReg off v).mtr = s.mtr := rfl
@[simp] theorem State.setReg_lpb (s : State) (off : Nat) (v : Word) : (s.setReg off v).lpb = s.lpb := rfl
@[simp] theorem State.setReg_tln (s : State) (off : Nat) (v : Word) : (s.setReg off v).tln = s.tln := rfl
@[simp] theorem State.setReg_mi (s : State) (off : Nat) (v : Word) : (s.setReg off v).mi = s.mi := rfl
@[simp] theorem State.setReg_out (s : State) (off : Nat) (v : Word) : (s.setReg off v).out = s.out := rfl
@[simp] theorem State.setReg_draw (s : State) (off : Nat) (v : Word) : (s.setReg off v).draw = s.draw := rfl

/-! ## `State.setField`: storing a field of a register -/

@[simp] theorem State.setField_pending (s : State) (off lo w v : Nat) : (s.setField off lo w v).pending = s.pending := rfl
@[simp] theorem State.setField_regs (s : State) (off lo w v : Nat) : (s.setField off lo w v).regs = s.regs.set off (setWordField (s.reg off) lo w v) := rfl
@[simp] theorem State.setField_ftb (s : State) (off lo w v : Nat) : (s.setField off lo w v).ftb = s.ftb := rfl
@[simp] theorem State.setField_prx (s : State) (off lo w v : Nat) : (s.setField off lo w v).prx = s.prx := rfl
@[simp] theorem State.setField_tenants (s : State) (off lo w v : Nat) : (s.setField off lo w v).tenants = s.tenants := rfl
@[simp] theorem State.setField_cmds (s : State) (off lo w v : Nat) : (s.setField off lo w v).cmds = s.cmds := rfl
@[simp] theorem State.setField_mch (s : State) (off lo w v : Nat) : (s.setField off lo w v).mch = s.mch := rfl
@[simp] theorem State.setField_rdp (s : State) (off lo w v : Nat) : (s.setField off lo w v).rdp = s.rdp := rfl
@[simp] theorem State.setField_wrp (s : State) (off lo w v : Nat) : (s.setField off lo w v).wrp = s.wrp := rfl
@[simp] theorem State.setField_mcr (s : State) (off lo w v : Nat) : (s.setField off lo w v).mcr = s.mcr := rfl
@[simp] theorem State.setField_nss (s : State) (off lo w v : Nat) : (s.setField off lo w v).nss = s.nss := rfl
@[simp] theorem State.setField_fns (s : State) (off lo w v : Nat) : (s.setField off lo w v).fns = s.fns := rfl
@[simp] theorem State.setField_hpt (s : State) (off lo w v : Nat) : (s.setField off lo w v).hpt = s.hpt := rfl
@[simp] theorem State.setField_mig (s : State) (off lo w v : Nat) : (s.setField off lo w v).mig = s.mig := rfl
@[simp] theorem State.setField_aens (s : State) (off lo w v : Nat) : (s.setField off lo w v).aens = s.aens := rfl
@[simp] theorem State.setField_errs (s : State) (off lo w v : Nat) : (s.setField off lo w v).errs = s.errs := rfl
@[simp] theorem State.setField_evc (s : State) (off lo w v : Nat) : (s.setField off lo w v).evc = s.evc := rfl
@[simp] theorem State.setField_aow (s : State) (off lo w v : Nat) : (s.setField off lo w v).aow = s.aow := rfl
@[simp] theorem State.setField_sdm (s : State) (off lo w v : Nat) : (s.setField off lo w v).sdm = s.sdm := rfl
@[simp] theorem State.setField_mlk (s : State) (off lo w v : Nat) : (s.setField off lo w v).mlk = s.mlk := rfl
@[simp] theorem State.setField_pwr (s : State) (off lo w v : Nat) : (s.setField off lo w v).pwr = s.pwr := rfl
@[simp] theorem State.setField_sec (s : State) (off lo w v : Nat) : (s.setField off lo w v).sec = s.sec := rfl
@[simp] theorem State.setField_keys (s : State) (off lo w v : Nat) : (s.setField off lo w v).keys = s.keys := rfl
@[simp] theorem State.setField_mtr (s : State) (off lo w v : Nat) : (s.setField off lo w v).mtr = s.mtr := rfl
@[simp] theorem State.setField_lpb (s : State) (off lo w v : Nat) : (s.setField off lo w v).lpb = s.lpb := rfl
@[simp] theorem State.setField_tln (s : State) (off lo w v : Nat) : (s.setField off lo w v).tln = s.tln := rfl
@[simp] theorem State.setField_mi (s : State) (off lo w v : Nat) : (s.setField off lo w v).mi = s.mi := rfl
@[simp] theorem State.setField_out (s : State) (off lo w v : Nat) : (s.setField off lo w v).out = s.out := rfl
@[simp] theorem State.setField_draw (s : State) (off lo w v : Nat) : (s.setField off lo w v).draw = s.draw := rfl

/-! ## `State.setBit`: storing a bit of a register -/

@[simp] theorem State.setBit_pending (s : State) (off i : Nat) (b : Bool) : (s.setBit off i b).pending = s.pending := rfl
@[simp] theorem State.setBit_regs (s : State) (off i : Nat) (b : Bool) : (s.setBit off i b).regs = s.regs.set off (setWordField (s.reg off) i 1 b.toNat) := rfl
@[simp] theorem State.setBit_ftb (s : State) (off i : Nat) (b : Bool) : (s.setBit off i b).ftb = s.ftb := rfl
@[simp] theorem State.setBit_prx (s : State) (off i : Nat) (b : Bool) : (s.setBit off i b).prx = s.prx := rfl
@[simp] theorem State.setBit_tenants (s : State) (off i : Nat) (b : Bool) : (s.setBit off i b).tenants = s.tenants := rfl
@[simp] theorem State.setBit_cmds (s : State) (off i : Nat) (b : Bool) : (s.setBit off i b).cmds = s.cmds := rfl
@[simp] theorem State.setBit_mch (s : State) (off i : Nat) (b : Bool) : (s.setBit off i b).mch = s.mch := rfl
@[simp] theorem State.setBit_rdp (s : State) (off i : Nat) (b : Bool) : (s.setBit off i b).rdp = s.rdp := rfl
@[simp] theorem State.setBit_wrp (s : State) (off i : Nat) (b : Bool) : (s.setBit off i b).wrp = s.wrp := rfl
@[simp] theorem State.setBit_mcr (s : State) (off i : Nat) (b : Bool) : (s.setBit off i b).mcr = s.mcr := rfl
@[simp] theorem State.setBit_nss (s : State) (off i : Nat) (b : Bool) : (s.setBit off i b).nss = s.nss := rfl
@[simp] theorem State.setBit_fns (s : State) (off i : Nat) (b : Bool) : (s.setBit off i b).fns = s.fns := rfl
@[simp] theorem State.setBit_hpt (s : State) (off i : Nat) (b : Bool) : (s.setBit off i b).hpt = s.hpt := rfl
@[simp] theorem State.setBit_mig (s : State) (off i : Nat) (b : Bool) : (s.setBit off i b).mig = s.mig := rfl
@[simp] theorem State.setBit_aens (s : State) (off i : Nat) (b : Bool) : (s.setBit off i b).aens = s.aens := rfl
@[simp] theorem State.setBit_errs (s : State) (off i : Nat) (b : Bool) : (s.setBit off i b).errs = s.errs := rfl
@[simp] theorem State.setBit_evc (s : State) (off i : Nat) (b : Bool) : (s.setBit off i b).evc = s.evc := rfl
@[simp] theorem State.setBit_aow (s : State) (off i : Nat) (b : Bool) : (s.setBit off i b).aow = s.aow := rfl
@[simp] theorem State.setBit_sdm (s : State) (off i : Nat) (b : Bool) : (s.setBit off i b).sdm = s.sdm := rfl
@[simp] theorem State.setBit_mlk (s : State) (off i : Nat) (b : Bool) : (s.setBit off i b).mlk = s.mlk := rfl
@[simp] theorem State.setBit_pwr (s : State) (off i : Nat) (b : Bool) : (s.setBit off i b).pwr = s.pwr := rfl
@[simp] theorem State.setBit_sec (s : State) (off i : Nat) (b : Bool) : (s.setBit off i b).sec = s.sec := rfl
@[simp] theorem State.setBit_keys (s : State) (off i : Nat) (b : Bool) : (s.setBit off i b).keys = s.keys := rfl
@[simp] theorem State.setBit_mtr (s : State) (off i : Nat) (b : Bool) : (s.setBit off i b).mtr = s.mtr := rfl
@[simp] theorem State.setBit_lpb (s : State) (off i : Nat) (b : Bool) : (s.setBit off i b).lpb = s.lpb := rfl
@[simp] theorem State.setBit_tln (s : State) (off i : Nat) (b : Bool) : (s.setBit off i b).tln = s.tln := rfl
@[simp] theorem State.setBit_mi (s : State) (off i : Nat) (b : Bool) : (s.setBit off i b).mi = s.mi := rfl
@[simp] theorem State.setBit_out (s : State) (off i : Nat) (b : Bool) : (s.setBit off i b).out = s.out := rfl
@[simp] theorem State.setBit_draw (s : State) (off i : Nat) (b : Bool) : (s.setBit off i b).draw = s.draw := rfl

/-! ## `State.setNum`: storing a number in a register -/

@[simp] theorem State.setNum_pending (s : State) (off v : Nat) : (s.setNum off v).pending = s.pending := rfl
@[simp] theorem State.setNum_regs (s : State) (off v : Nat) : (s.setNum off v).regs = s.regs.set off (BitVec.ofNat 32 v) := rfl
@[simp] theorem State.setNum_ftb (s : State) (off v : Nat) : (s.setNum off v).ftb = s.ftb := rfl
@[simp] theorem State.setNum_prx (s : State) (off v : Nat) : (s.setNum off v).prx = s.prx := rfl
@[simp] theorem State.setNum_tenants (s : State) (off v : Nat) : (s.setNum off v).tenants = s.tenants := rfl
@[simp] theorem State.setNum_cmds (s : State) (off v : Nat) : (s.setNum off v).cmds = s.cmds := rfl
@[simp] theorem State.setNum_mch (s : State) (off v : Nat) : (s.setNum off v).mch = s.mch := rfl
@[simp] theorem State.setNum_rdp (s : State) (off v : Nat) : (s.setNum off v).rdp = s.rdp := rfl
@[simp] theorem State.setNum_wrp (s : State) (off v : Nat) : (s.setNum off v).wrp = s.wrp := rfl
@[simp] theorem State.setNum_mcr (s : State) (off v : Nat) : (s.setNum off v).mcr = s.mcr := rfl
@[simp] theorem State.setNum_nss (s : State) (off v : Nat) : (s.setNum off v).nss = s.nss := rfl
@[simp] theorem State.setNum_fns (s : State) (off v : Nat) : (s.setNum off v).fns = s.fns := rfl
@[simp] theorem State.setNum_hpt (s : State) (off v : Nat) : (s.setNum off v).hpt = s.hpt := rfl
@[simp] theorem State.setNum_mig (s : State) (off v : Nat) : (s.setNum off v).mig = s.mig := rfl
@[simp] theorem State.setNum_aens (s : State) (off v : Nat) : (s.setNum off v).aens = s.aens := rfl
@[simp] theorem State.setNum_errs (s : State) (off v : Nat) : (s.setNum off v).errs = s.errs := rfl
@[simp] theorem State.setNum_evc (s : State) (off v : Nat) : (s.setNum off v).evc = s.evc := rfl
@[simp] theorem State.setNum_aow (s : State) (off v : Nat) : (s.setNum off v).aow = s.aow := rfl
@[simp] theorem State.setNum_sdm (s : State) (off v : Nat) : (s.setNum off v).sdm = s.sdm := rfl
@[simp] theorem State.setNum_mlk (s : State) (off v : Nat) : (s.setNum off v).mlk = s.mlk := rfl
@[simp] theorem State.setNum_pwr (s : State) (off v : Nat) : (s.setNum off v).pwr = s.pwr := rfl
@[simp] theorem State.setNum_sec (s : State) (off v : Nat) : (s.setNum off v).sec = s.sec := rfl
@[simp] theorem State.setNum_keys (s : State) (off v : Nat) : (s.setNum off v).keys = s.keys := rfl
@[simp] theorem State.setNum_mtr (s : State) (off v : Nat) : (s.setNum off v).mtr = s.mtr := rfl
@[simp] theorem State.setNum_lpb (s : State) (off v : Nat) : (s.setNum off v).lpb = s.lpb := rfl
@[simp] theorem State.setNum_tln (s : State) (off v : Nat) : (s.setNum off v).tln = s.tln := rfl
@[simp] theorem State.setNum_mi (s : State) (off v : Nat) : (s.setNum off v).mi = s.mi := rfl
@[simp] theorem State.setNum_out (s : State) (off v : Nat) : (s.setNum off v).out = s.out := rfl
@[simp] theorem State.setNum_draw (s : State) (off v : Nat) : (s.setNum off v).draw = s.draw := rfl

/-! ## `State.setInt`: storing an integer in a register -/

@[simp] theorem State.setInt_pending (s : State) (off : Nat) (v : Int) : (s.setInt off v).pending = s.pending := rfl
@[simp] theorem State.setInt_regs (s : State) (off : Nat) (v : Int) : (s.setInt off v).regs = s.regs.set off (BitVec.ofInt 32 v) := rfl
@[simp] theorem State.setInt_ftb (s : State) (off : Nat) (v : Int) : (s.setInt off v).ftb = s.ftb := rfl
@[simp] theorem State.setInt_prx (s : State) (off : Nat) (v : Int) : (s.setInt off v).prx = s.prx := rfl
@[simp] theorem State.setInt_tenants (s : State) (off : Nat) (v : Int) : (s.setInt off v).tenants = s.tenants := rfl
@[simp] theorem State.setInt_cmds (s : State) (off : Nat) (v : Int) : (s.setInt off v).cmds = s.cmds := rfl
@[simp] theorem State.setInt_mch (s : State) (off : Nat) (v : Int) : (s.setInt off v).mch = s.mch := rfl
@[simp] theorem State.setInt_rdp (s : State) (off : Nat) (v : Int) : (s.setInt off v).rdp = s.rdp := rfl
@[simp] theorem State.setInt_wrp (s : State) (off : Nat) (v : Int) : (s.setInt off v).wrp = s.wrp := rfl
@[simp] theorem State.setInt_mcr (s : State) (off : Nat) (v : Int) : (s.setInt off v).mcr = s.mcr := rfl
@[simp] theorem State.setInt_nss (s : State) (off : Nat) (v : Int) : (s.setInt off v).nss = s.nss := rfl
@[simp] theorem State.setInt_fns (s : State) (off : Nat) (v : Int) : (s.setInt off v).fns = s.fns := rfl
@[simp] theorem State.setInt_hpt (s : State) (off : Nat) (v : Int) : (s.setInt off v).hpt = s.hpt := rfl
@[simp] theorem State.setInt_mig (s : State) (off : Nat) (v : Int) : (s.setInt off v).mig = s.mig := rfl
@[simp] theorem State.setInt_aens (s : State) (off : Nat) (v : Int) : (s.setInt off v).aens = s.aens := rfl
@[simp] theorem State.setInt_errs (s : State) (off : Nat) (v : Int) : (s.setInt off v).errs = s.errs := rfl
@[simp] theorem State.setInt_evc (s : State) (off : Nat) (v : Int) : (s.setInt off v).evc = s.evc := rfl
@[simp] theorem State.setInt_aow (s : State) (off : Nat) (v : Int) : (s.setInt off v).aow = s.aow := rfl
@[simp] theorem State.setInt_sdm (s : State) (off : Nat) (v : Int) : (s.setInt off v).sdm = s.sdm := rfl
@[simp] theorem State.setInt_mlk (s : State) (off : Nat) (v : Int) : (s.setInt off v).mlk = s.mlk := rfl
@[simp] theorem State.setInt_pwr (s : State) (off : Nat) (v : Int) : (s.setInt off v).pwr = s.pwr := rfl
@[simp] theorem State.setInt_sec (s : State) (off : Nat) (v : Int) : (s.setInt off v).sec = s.sec := rfl
@[simp] theorem State.setInt_keys (s : State) (off : Nat) (v : Int) : (s.setInt off v).keys = s.keys := rfl
@[simp] theorem State.setInt_mtr (s : State) (off : Nat) (v : Int) : (s.setInt off v).mtr = s.mtr := rfl
@[simp] theorem State.setInt_lpb (s : State) (off : Nat) (v : Int) : (s.setInt off v).lpb = s.lpb := rfl
@[simp] theorem State.setInt_tln (s : State) (off : Nat) (v : Int) : (s.setInt off v).tln = s.tln := rfl
@[simp] theorem State.setInt_mi (s : State) (off : Nat) (v : Int) : (s.setInt off v).mi = s.mi := rfl
@[simp] theorem State.setInt_out (s : State) (off : Nat) (v : Int) : (s.setInt off v).out = s.out := rfl
@[simp] theorem State.setInt_draw (s : State) (off : Nat) (v : Int) : (s.setInt off v).draw = s.draw := rfl

/-! ## `State.emit`: showing an output -/

@[simp] theorem State.emit_pending (s : State) (o : Out) : (s.emit o).pending = s.pending := rfl
@[simp] theorem State.emit_regs (s : State) (o : Out) : (s.emit o).regs = s.regs := rfl
@[simp] theorem State.emit_ftb (s : State) (o : Out) : (s.emit o).ftb = s.ftb := rfl
@[simp] theorem State.emit_prx (s : State) (o : Out) : (s.emit o).prx = s.prx := rfl
@[simp] theorem State.emit_tenants (s : State) (o : Out) : (s.emit o).tenants = s.tenants := rfl
@[simp] theorem State.emit_cmds (s : State) (o : Out) : (s.emit o).cmds = s.cmds := rfl
@[simp] theorem State.emit_mch (s : State) (o : Out) : (s.emit o).mch = s.mch := rfl
@[simp] theorem State.emit_rdp (s : State) (o : Out) : (s.emit o).rdp = s.rdp := rfl
@[simp] theorem State.emit_wrp (s : State) (o : Out) : (s.emit o).wrp = s.wrp := rfl
@[simp] theorem State.emit_mcr (s : State) (o : Out) : (s.emit o).mcr = s.mcr := rfl
@[simp] theorem State.emit_nss (s : State) (o : Out) : (s.emit o).nss = s.nss := rfl
@[simp] theorem State.emit_fns (s : State) (o : Out) : (s.emit o).fns = s.fns := rfl
@[simp] theorem State.emit_hpt (s : State) (o : Out) : (s.emit o).hpt = s.hpt := rfl
@[simp] theorem State.emit_mig (s : State) (o : Out) : (s.emit o).mig = s.mig := rfl
@[simp] theorem State.emit_aens (s : State) (o : Out) : (s.emit o).aens = s.aens := rfl
@[simp] theorem State.emit_errs (s : State) (o : Out) : (s.emit o).errs = s.errs := rfl
@[simp] theorem State.emit_evc (s : State) (o : Out) : (s.emit o).evc = s.evc := rfl
@[simp] theorem State.emit_aow (s : State) (o : Out) : (s.emit o).aow = s.aow := rfl
@[simp] theorem State.emit_sdm (s : State) (o : Out) : (s.emit o).sdm = s.sdm := rfl
@[simp] theorem State.emit_mlk (s : State) (o : Out) : (s.emit o).mlk = s.mlk := rfl
@[simp] theorem State.emit_pwr (s : State) (o : Out) : (s.emit o).pwr = s.pwr := rfl
@[simp] theorem State.emit_sec (s : State) (o : Out) : (s.emit o).sec = s.sec := rfl
@[simp] theorem State.emit_keys (s : State) (o : Out) : (s.emit o).keys = s.keys := rfl
@[simp] theorem State.emit_mtr (s : State) (o : Out) : (s.emit o).mtr = s.mtr := rfl
@[simp] theorem State.emit_lpb (s : State) (o : Out) : (s.emit o).lpb = s.lpb := rfl
@[simp] theorem State.emit_tln (s : State) (o : Out) : (s.emit o).tln = s.tln := rfl
@[simp] theorem State.emit_mi (s : State) (o : Out) : (s.emit o).mi = s.mi := rfl
@[simp] theorem State.emit_out (s : State) (o : Out) : (s.emit o).out = o :: s.out := rfl
@[simp] theorem State.emit_draw (s : State) (o : Out) : (s.emit o).draw = s.draw := rfl

/-! ## `State.drawn`: drawing a free value -/

@[simp] theorem State.drawn_pending (s : State) : (s.drawn).pending = s.pending := rfl
@[simp] theorem State.drawn_regs (s : State) : (s.drawn).regs = s.regs := rfl
@[simp] theorem State.drawn_ftb (s : State) : (s.drawn).ftb = s.ftb := rfl
@[simp] theorem State.drawn_prx (s : State) : (s.drawn).prx = s.prx := rfl
@[simp] theorem State.drawn_tenants (s : State) : (s.drawn).tenants = s.tenants := rfl
@[simp] theorem State.drawn_cmds (s : State) : (s.drawn).cmds = s.cmds := rfl
@[simp] theorem State.drawn_mch (s : State) : (s.drawn).mch = s.mch := rfl
@[simp] theorem State.drawn_rdp (s : State) : (s.drawn).rdp = s.rdp := rfl
@[simp] theorem State.drawn_wrp (s : State) : (s.drawn).wrp = s.wrp := rfl
@[simp] theorem State.drawn_mcr (s : State) : (s.drawn).mcr = s.mcr := rfl
@[simp] theorem State.drawn_nss (s : State) : (s.drawn).nss = s.nss := rfl
@[simp] theorem State.drawn_fns (s : State) : (s.drawn).fns = s.fns := rfl
@[simp] theorem State.drawn_hpt (s : State) : (s.drawn).hpt = s.hpt := rfl
@[simp] theorem State.drawn_mig (s : State) : (s.drawn).mig = s.mig := rfl
@[simp] theorem State.drawn_aens (s : State) : (s.drawn).aens = s.aens := rfl
@[simp] theorem State.drawn_errs (s : State) : (s.drawn).errs = s.errs := rfl
@[simp] theorem State.drawn_evc (s : State) : (s.drawn).evc = s.evc := rfl
@[simp] theorem State.drawn_aow (s : State) : (s.drawn).aow = s.aow := rfl
@[simp] theorem State.drawn_sdm (s : State) : (s.drawn).sdm = s.sdm := rfl
@[simp] theorem State.drawn_mlk (s : State) : (s.drawn).mlk = s.mlk := rfl
@[simp] theorem State.drawn_pwr (s : State) : (s.drawn).pwr = s.pwr := rfl
@[simp] theorem State.drawn_sec (s : State) : (s.drawn).sec = s.sec := rfl
@[simp] theorem State.drawn_keys (s : State) : (s.drawn).keys = s.keys := rfl
@[simp] theorem State.drawn_mtr (s : State) : (s.drawn).mtr = s.mtr := rfl
@[simp] theorem State.drawn_lpb (s : State) : (s.drawn).lpb = s.lpb := rfl
@[simp] theorem State.drawn_tln (s : State) : (s.drawn).tln = s.tln := rfl
@[simp] theorem State.drawn_mi (s : State) : (s.drawn).mi = s.mi := rfl
@[simp] theorem State.drawn_out (s : State) : (s.drawn).out = s.out := rfl
@[simp] theorem State.drawn_draw (s : State) : (s.drawn).draw = s.draw + 1 := rfl

/-! ## `State.updCmd`: changing a command in progress -/

@[simp] theorem State.updCmd_pending (s : State) (c : CmdId) (f : Cmd → Cmd) : (s.updCmd c f).pending = s.pending := rfl
@[simp] theorem State.updCmd_regs (s : State) (c : CmdId) (f : Cmd → Cmd) : (s.updCmd c f).regs = s.regs := rfl
@[simp] theorem State.updCmd_ftb (s : State) (c : CmdId) (f : Cmd → Cmd) : (s.updCmd c f).ftb = s.ftb := rfl
@[simp] theorem State.updCmd_prx (s : State) (c : CmdId) (f : Cmd → Cmd) : (s.updCmd c f).prx = s.prx := rfl
@[simp] theorem State.updCmd_tenants (s : State) (c : CmdId) (f : Cmd → Cmd) : (s.updCmd c f).tenants = s.tenants := rfl
@[simp] theorem State.updCmd_cmds (s : State) (c : CmdId) (f : Cmd → Cmd) : (s.updCmd c f).cmds = s.cmds.map fun x => if x.id == c then f x else x := rfl
@[simp] theorem State.updCmd_mch (s : State) (c : CmdId) (f : Cmd → Cmd) : (s.updCmd c f).mch = s.mch := rfl
@[simp] theorem State.updCmd_rdp (s : State) (c : CmdId) (f : Cmd → Cmd) : (s.updCmd c f).rdp = s.rdp := rfl
@[simp] theorem State.updCmd_wrp (s : State) (c : CmdId) (f : Cmd → Cmd) : (s.updCmd c f).wrp = s.wrp := rfl
@[simp] theorem State.updCmd_mcr (s : State) (c : CmdId) (f : Cmd → Cmd) : (s.updCmd c f).mcr = s.mcr := rfl
@[simp] theorem State.updCmd_nss (s : State) (c : CmdId) (f : Cmd → Cmd) : (s.updCmd c f).nss = s.nss := rfl
@[simp] theorem State.updCmd_fns (s : State) (c : CmdId) (f : Cmd → Cmd) : (s.updCmd c f).fns = s.fns := rfl
@[simp] theorem State.updCmd_hpt (s : State) (c : CmdId) (f : Cmd → Cmd) : (s.updCmd c f).hpt = s.hpt := rfl
@[simp] theorem State.updCmd_mig (s : State) (c : CmdId) (f : Cmd → Cmd) : (s.updCmd c f).mig = s.mig := rfl
@[simp] theorem State.updCmd_aens (s : State) (c : CmdId) (f : Cmd → Cmd) : (s.updCmd c f).aens = s.aens := rfl
@[simp] theorem State.updCmd_errs (s : State) (c : CmdId) (f : Cmd → Cmd) : (s.updCmd c f).errs = s.errs := rfl
@[simp] theorem State.updCmd_evc (s : State) (c : CmdId) (f : Cmd → Cmd) : (s.updCmd c f).evc = s.evc := rfl
@[simp] theorem State.updCmd_aow (s : State) (c : CmdId) (f : Cmd → Cmd) : (s.updCmd c f).aow = s.aow := rfl
@[simp] theorem State.updCmd_sdm (s : State) (c : CmdId) (f : Cmd → Cmd) : (s.updCmd c f).sdm = s.sdm := rfl
@[simp] theorem State.updCmd_mlk (s : State) (c : CmdId) (f : Cmd → Cmd) : (s.updCmd c f).mlk = s.mlk := rfl
@[simp] theorem State.updCmd_pwr (s : State) (c : CmdId) (f : Cmd → Cmd) : (s.updCmd c f).pwr = s.pwr := rfl
@[simp] theorem State.updCmd_sec (s : State) (c : CmdId) (f : Cmd → Cmd) : (s.updCmd c f).sec = s.sec := rfl
@[simp] theorem State.updCmd_keys (s : State) (c : CmdId) (f : Cmd → Cmd) : (s.updCmd c f).keys = s.keys := rfl
@[simp] theorem State.updCmd_mtr (s : State) (c : CmdId) (f : Cmd → Cmd) : (s.updCmd c f).mtr = s.mtr := rfl
@[simp] theorem State.updCmd_lpb (s : State) (c : CmdId) (f : Cmd → Cmd) : (s.updCmd c f).lpb = s.lpb := rfl
@[simp] theorem State.updCmd_tln (s : State) (c : CmdId) (f : Cmd → Cmd) : (s.updCmd c f).tln = s.tln := rfl
@[simp] theorem State.updCmd_mi (s : State) (c : CmdId) (f : Cmd → Cmd) : (s.updCmd c f).mi = s.mi := rfl
@[simp] theorem State.updCmd_out (s : State) (c : CmdId) (f : Cmd → Cmd) : (s.updCmd c f).out = s.out := rfl
@[simp] theorem State.updCmd_draw (s : State) (c : CmdId) (f : Cmd → Cmd) : (s.updCmd c f).draw = s.draw := rfl

/-! ## `State.dropCmd`: removing a command in progress -/

@[simp] theorem State.dropCmd_pending (s : State) (c : CmdId) : (s.dropCmd c).pending = s.pending := rfl
@[simp] theorem State.dropCmd_regs (s : State) (c : CmdId) : (s.dropCmd c).regs = s.regs := rfl
@[simp] theorem State.dropCmd_ftb (s : State) (c : CmdId) : (s.dropCmd c).ftb = s.ftb := rfl
@[simp] theorem State.dropCmd_prx (s : State) (c : CmdId) : (s.dropCmd c).prx = s.prx := rfl
@[simp] theorem State.dropCmd_tenants (s : State) (c : CmdId) : (s.dropCmd c).tenants = s.tenants := rfl
@[simp] theorem State.dropCmd_cmds (s : State) (c : CmdId) : (s.dropCmd c).cmds = s.cmds.filter (·.id != c) := rfl
@[simp] theorem State.dropCmd_mch (s : State) (c : CmdId) : (s.dropCmd c).mch = s.mch := rfl
@[simp] theorem State.dropCmd_rdp (s : State) (c : CmdId) : (s.dropCmd c).rdp = s.rdp := rfl
@[simp] theorem State.dropCmd_wrp (s : State) (c : CmdId) : (s.dropCmd c).wrp = s.wrp := rfl
@[simp] theorem State.dropCmd_mcr (s : State) (c : CmdId) : (s.dropCmd c).mcr = s.mcr := rfl
@[simp] theorem State.dropCmd_nss (s : State) (c : CmdId) : (s.dropCmd c).nss = s.nss := rfl
@[simp] theorem State.dropCmd_fns (s : State) (c : CmdId) : (s.dropCmd c).fns = s.fns := rfl
@[simp] theorem State.dropCmd_hpt (s : State) (c : CmdId) : (s.dropCmd c).hpt = s.hpt := rfl
@[simp] theorem State.dropCmd_mig (s : State) (c : CmdId) : (s.dropCmd c).mig = s.mig := rfl
@[simp] theorem State.dropCmd_aens (s : State) (c : CmdId) : (s.dropCmd c).aens = s.aens := rfl
@[simp] theorem State.dropCmd_errs (s : State) (c : CmdId) : (s.dropCmd c).errs = s.errs := rfl
@[simp] theorem State.dropCmd_evc (s : State) (c : CmdId) : (s.dropCmd c).evc = s.evc := rfl
@[simp] theorem State.dropCmd_aow (s : State) (c : CmdId) : (s.dropCmd c).aow = s.aow := rfl
@[simp] theorem State.dropCmd_sdm (s : State) (c : CmdId) : (s.dropCmd c).sdm = s.sdm := rfl
@[simp] theorem State.dropCmd_mlk (s : State) (c : CmdId) : (s.dropCmd c).mlk = s.mlk := rfl
@[simp] theorem State.dropCmd_pwr (s : State) (c : CmdId) : (s.dropCmd c).pwr = s.pwr := rfl
@[simp] theorem State.dropCmd_sec (s : State) (c : CmdId) : (s.dropCmd c).sec = s.sec := rfl
@[simp] theorem State.dropCmd_keys (s : State) (c : CmdId) : (s.dropCmd c).keys = s.keys := rfl
@[simp] theorem State.dropCmd_mtr (s : State) (c : CmdId) : (s.dropCmd c).mtr = s.mtr := rfl
@[simp] theorem State.dropCmd_lpb (s : State) (c : CmdId) : (s.dropCmd c).lpb = s.lpb := rfl
@[simp] theorem State.dropCmd_tln (s : State) (c : CmdId) : (s.dropCmd c).tln = s.tln := rfl
@[simp] theorem State.dropCmd_mi (s : State) (c : CmdId) : (s.dropCmd c).mi = s.mi := rfl
@[simp] theorem State.dropCmd_out (s : State) (c : CmdId) : (s.dropCmd c).out = s.out := rfl
@[simp] theorem State.dropCmd_draw (s : State) (c : CmdId) : (s.dropCmd c).draw = s.draw := rfl

/-! ## `State.updFn`: changing a function -/

@[simp] theorem State.updFn_pending (s : State) (f : Nat) (g : Fn → Fn) : (s.updFn f g).pending = s.pending := rfl
@[simp] theorem State.updFn_regs (s : State) (f : Nat) (g : Fn → Fn) : (s.updFn f g).regs = s.regs := rfl
@[simp] theorem State.updFn_ftb (s : State) (f : Nat) (g : Fn → Fn) : (s.updFn f g).ftb = s.ftb := rfl
@[simp] theorem State.updFn_prx (s : State) (f : Nat) (g : Fn → Fn) : (s.updFn f g).prx = s.prx := rfl
@[simp] theorem State.updFn_tenants (s : State) (f : Nat) (g : Fn → Fn) : (s.updFn f g).tenants = s.tenants := rfl
@[simp] theorem State.updFn_cmds (s : State) (f : Nat) (g : Fn → Fn) : (s.updFn f g).cmds = s.cmds := rfl
@[simp] theorem State.updFn_mch (s : State) (f : Nat) (g : Fn → Fn) : (s.updFn f g).mch = s.mch := rfl
@[simp] theorem State.updFn_rdp (s : State) (f : Nat) (g : Fn → Fn) : (s.updFn f g).rdp = s.rdp := rfl
@[simp] theorem State.updFn_wrp (s : State) (f : Nat) (g : Fn → Fn) : (s.updFn f g).wrp = s.wrp := rfl
@[simp] theorem State.updFn_mcr (s : State) (f : Nat) (g : Fn → Fn) : (s.updFn f g).mcr = s.mcr := rfl
@[simp] theorem State.updFn_nss (s : State) (f : Nat) (g : Fn → Fn) : (s.updFn f g).nss = s.nss := rfl
@[simp] theorem State.updFn_fns (s : State) (f : Nat) (g : Fn → Fn) : (s.updFn f g).fns = s.fns.modify f g := rfl
@[simp] theorem State.updFn_hpt (s : State) (f : Nat) (g : Fn → Fn) : (s.updFn f g).hpt = s.hpt := rfl
@[simp] theorem State.updFn_mig (s : State) (f : Nat) (g : Fn → Fn) : (s.updFn f g).mig = s.mig := rfl
@[simp] theorem State.updFn_aens (s : State) (f : Nat) (g : Fn → Fn) : (s.updFn f g).aens = s.aens := rfl
@[simp] theorem State.updFn_errs (s : State) (f : Nat) (g : Fn → Fn) : (s.updFn f g).errs = s.errs := rfl
@[simp] theorem State.updFn_evc (s : State) (f : Nat) (g : Fn → Fn) : (s.updFn f g).evc = s.evc := rfl
@[simp] theorem State.updFn_aow (s : State) (f : Nat) (g : Fn → Fn) : (s.updFn f g).aow = s.aow := rfl
@[simp] theorem State.updFn_sdm (s : State) (f : Nat) (g : Fn → Fn) : (s.updFn f g).sdm = s.sdm := rfl
@[simp] theorem State.updFn_mlk (s : State) (f : Nat) (g : Fn → Fn) : (s.updFn f g).mlk = s.mlk := rfl
@[simp] theorem State.updFn_pwr (s : State) (f : Nat) (g : Fn → Fn) : (s.updFn f g).pwr = s.pwr := rfl
@[simp] theorem State.updFn_sec (s : State) (f : Nat) (g : Fn → Fn) : (s.updFn f g).sec = s.sec := rfl
@[simp] theorem State.updFn_keys (s : State) (f : Nat) (g : Fn → Fn) : (s.updFn f g).keys = s.keys := rfl
@[simp] theorem State.updFn_mtr (s : State) (f : Nat) (g : Fn → Fn) : (s.updFn f g).mtr = s.mtr := rfl
@[simp] theorem State.updFn_lpb (s : State) (f : Nat) (g : Fn → Fn) : (s.updFn f g).lpb = s.lpb := rfl
@[simp] theorem State.updFn_tln (s : State) (f : Nat) (g : Fn → Fn) : (s.updFn f g).tln = s.tln := rfl
@[simp] theorem State.updFn_mi (s : State) (f : Nat) (g : Fn → Fn) : (s.updFn f g).mi = s.mi := rfl
@[simp] theorem State.updFn_out (s : State) (f : Nat) (g : Fn → Fn) : (s.updFn f g).out = s.out := rfl
@[simp] theorem State.updFn_draw (s : State) (f : Nat) (g : Fn → Fn) : (s.updFn f g).draw = s.draw := rfl

/-! ## `State.updNs`: changing a namespace -/

@[simp] theorem State.updNs_pending (s : State) (n : Nat) (f : Ns → Ns) : (s.updNs n f).pending = s.pending := rfl
@[simp] theorem State.updNs_regs (s : State) (n : Nat) (f : Ns → Ns) : (s.updNs n f).regs = s.regs := rfl
@[simp] theorem State.updNs_ftb (s : State) (n : Nat) (f : Ns → Ns) : (s.updNs n f).ftb = s.ftb := rfl
@[simp] theorem State.updNs_prx (s : State) (n : Nat) (f : Ns → Ns) : (s.updNs n f).prx = s.prx := rfl
@[simp] theorem State.updNs_tenants (s : State) (n : Nat) (f : Ns → Ns) : (s.updNs n f).tenants = s.tenants := rfl
@[simp] theorem State.updNs_cmds (s : State) (n : Nat) (f : Ns → Ns) : (s.updNs n f).cmds = s.cmds := rfl
@[simp] theorem State.updNs_mch (s : State) (n : Nat) (f : Ns → Ns) : (s.updNs n f).mch = s.mch := rfl
@[simp] theorem State.updNs_rdp (s : State) (n : Nat) (f : Ns → Ns) : (s.updNs n f).rdp = s.rdp := rfl
@[simp] theorem State.updNs_wrp (s : State) (n : Nat) (f : Ns → Ns) : (s.updNs n f).wrp = s.wrp := rfl
@[simp] theorem State.updNs_mcr (s : State) (n : Nat) (f : Ns → Ns) : (s.updNs n f).mcr = s.mcr := rfl
@[simp] theorem State.updNs_nss (s : State) (n : Nat) (f : Ns → Ns) : (s.updNs n f).nss = s.nss.modify n f := rfl
@[simp] theorem State.updNs_fns (s : State) (n : Nat) (f : Ns → Ns) : (s.updNs n f).fns = s.fns := rfl
@[simp] theorem State.updNs_hpt (s : State) (n : Nat) (f : Ns → Ns) : (s.updNs n f).hpt = s.hpt := rfl
@[simp] theorem State.updNs_mig (s : State) (n : Nat) (f : Ns → Ns) : (s.updNs n f).mig = s.mig := rfl
@[simp] theorem State.updNs_aens (s : State) (n : Nat) (f : Ns → Ns) : (s.updNs n f).aens = s.aens := rfl
@[simp] theorem State.updNs_errs (s : State) (n : Nat) (f : Ns → Ns) : (s.updNs n f).errs = s.errs := rfl
@[simp] theorem State.updNs_evc (s : State) (n : Nat) (f : Ns → Ns) : (s.updNs n f).evc = s.evc := rfl
@[simp] theorem State.updNs_aow (s : State) (n : Nat) (f : Ns → Ns) : (s.updNs n f).aow = s.aow := rfl
@[simp] theorem State.updNs_sdm (s : State) (n : Nat) (f : Ns → Ns) : (s.updNs n f).sdm = s.sdm := rfl
@[simp] theorem State.updNs_mlk (s : State) (n : Nat) (f : Ns → Ns) : (s.updNs n f).mlk = s.mlk := rfl
@[simp] theorem State.updNs_pwr (s : State) (n : Nat) (f : Ns → Ns) : (s.updNs n f).pwr = s.pwr := rfl
@[simp] theorem State.updNs_sec (s : State) (n : Nat) (f : Ns → Ns) : (s.updNs n f).sec = s.sec := rfl
@[simp] theorem State.updNs_keys (s : State) (n : Nat) (f : Ns → Ns) : (s.updNs n f).keys = s.keys := rfl
@[simp] theorem State.updNs_mtr (s : State) (n : Nat) (f : Ns → Ns) : (s.updNs n f).mtr = s.mtr := rfl
@[simp] theorem State.updNs_lpb (s : State) (n : Nat) (f : Ns → Ns) : (s.updNs n f).lpb = s.lpb := rfl
@[simp] theorem State.updNs_tln (s : State) (n : Nat) (f : Ns → Ns) : (s.updNs n f).tln = s.tln := rfl
@[simp] theorem State.updNs_mi (s : State) (n : Nat) (f : Ns → Ns) : (s.updNs n f).mi = s.mi := rfl
@[simp] theorem State.updNs_out (s : State) (n : Nat) (f : Ns → Ns) : (s.updNs n f).out = s.out := rfl
@[simp] theorem State.updNs_draw (s : State) (n : Nat) (f : Ns → Ns) : (s.updNs n f).draw = s.draw := rfl

/-! ## `State.updDie`: changing a die -/

@[simp] theorem State.updDie_pending (s : State) (lane : Nat) (f : Die → Die) : (s.updDie lane f).pending = s.pending := rfl
@[simp] theorem State.updDie_regs (s : State) (lane : Nat) (f : Die → Die) : (s.updDie lane f).regs = s.regs := rfl
@[simp] theorem State.updDie_ftb (s : State) (lane : Nat) (f : Die → Die) : (s.updDie lane f).ftb = s.ftb := rfl
@[simp] theorem State.updDie_prx (s : State) (lane : Nat) (f : Die → Die) : (s.updDie lane f).prx = s.prx := rfl
@[simp] theorem State.updDie_tenants (s : State) (lane : Nat) (f : Die → Die) : (s.updDie lane f).tenants = s.tenants := rfl
@[simp] theorem State.updDie_cmds (s : State) (lane : Nat) (f : Die → Die) : (s.updDie lane f).cmds = s.cmds := rfl
@[simp] theorem State.updDie_mch (s : State) (lane : Nat) (f : Die → Die) : (s.updDie lane f).mch = { s.mch with dies := s.mch.dies.modify lane f } := rfl
@[simp] theorem State.updDie_rdp (s : State) (lane : Nat) (f : Die → Die) : (s.updDie lane f).rdp = s.rdp := rfl
@[simp] theorem State.updDie_wrp (s : State) (lane : Nat) (f : Die → Die) : (s.updDie lane f).wrp = s.wrp := rfl
@[simp] theorem State.updDie_mcr (s : State) (lane : Nat) (f : Die → Die) : (s.updDie lane f).mcr = s.mcr := rfl
@[simp] theorem State.updDie_nss (s : State) (lane : Nat) (f : Die → Die) : (s.updDie lane f).nss = s.nss := rfl
@[simp] theorem State.updDie_fns (s : State) (lane : Nat) (f : Die → Die) : (s.updDie lane f).fns = s.fns := rfl
@[simp] theorem State.updDie_hpt (s : State) (lane : Nat) (f : Die → Die) : (s.updDie lane f).hpt = s.hpt := rfl
@[simp] theorem State.updDie_mig (s : State) (lane : Nat) (f : Die → Die) : (s.updDie lane f).mig = s.mig := rfl
@[simp] theorem State.updDie_aens (s : State) (lane : Nat) (f : Die → Die) : (s.updDie lane f).aens = s.aens := rfl
@[simp] theorem State.updDie_errs (s : State) (lane : Nat) (f : Die → Die) : (s.updDie lane f).errs = s.errs := rfl
@[simp] theorem State.updDie_evc (s : State) (lane : Nat) (f : Die → Die) : (s.updDie lane f).evc = s.evc := rfl
@[simp] theorem State.updDie_aow (s : State) (lane : Nat) (f : Die → Die) : (s.updDie lane f).aow = s.aow := rfl
@[simp] theorem State.updDie_sdm (s : State) (lane : Nat) (f : Die → Die) : (s.updDie lane f).sdm = s.sdm := rfl
@[simp] theorem State.updDie_mlk (s : State) (lane : Nat) (f : Die → Die) : (s.updDie lane f).mlk = s.mlk := rfl
@[simp] theorem State.updDie_pwr (s : State) (lane : Nat) (f : Die → Die) : (s.updDie lane f).pwr = s.pwr := rfl
@[simp] theorem State.updDie_sec (s : State) (lane : Nat) (f : Die → Die) : (s.updDie lane f).sec = s.sec := rfl
@[simp] theorem State.updDie_keys (s : State) (lane : Nat) (f : Die → Die) : (s.updDie lane f).keys = s.keys := rfl
@[simp] theorem State.updDie_mtr (s : State) (lane : Nat) (f : Die → Die) : (s.updDie lane f).mtr = s.mtr := rfl
@[simp] theorem State.updDie_lpb (s : State) (lane : Nat) (f : Die → Die) : (s.updDie lane f).lpb = s.lpb := rfl
@[simp] theorem State.updDie_tln (s : State) (lane : Nat) (f : Die → Die) : (s.updDie lane f).tln = s.tln := rfl
@[simp] theorem State.updDie_mi (s : State) (lane : Nat) (f : Die → Die) : (s.updDie lane f).mi = s.mi := rfl
@[simp] theorem State.updDie_out (s : State) (lane : Nat) (f : Die → Die) : (s.updDie lane f).out = s.out := rfl
@[simp] theorem State.updDie_draw (s : State) (lane : Nat) (f : Die → Die) : (s.updDie lane f).draw = s.draw := rfl

/-! ## `State.updSdm`: changing a Service DMA channel -/

@[simp] theorem State.updSdm_pending (s : State) (ch : Nat) (f : SdmCh → SdmCh) : (s.updSdm ch f).pending = s.pending := rfl
@[simp] theorem State.updSdm_regs (s : State) (ch : Nat) (f : SdmCh → SdmCh) : (s.updSdm ch f).regs = s.regs := rfl
@[simp] theorem State.updSdm_ftb (s : State) (ch : Nat) (f : SdmCh → SdmCh) : (s.updSdm ch f).ftb = s.ftb := rfl
@[simp] theorem State.updSdm_prx (s : State) (ch : Nat) (f : SdmCh → SdmCh) : (s.updSdm ch f).prx = s.prx := rfl
@[simp] theorem State.updSdm_tenants (s : State) (ch : Nat) (f : SdmCh → SdmCh) : (s.updSdm ch f).tenants = s.tenants := rfl
@[simp] theorem State.updSdm_cmds (s : State) (ch : Nat) (f : SdmCh → SdmCh) : (s.updSdm ch f).cmds = s.cmds := rfl
@[simp] theorem State.updSdm_mch (s : State) (ch : Nat) (f : SdmCh → SdmCh) : (s.updSdm ch f).mch = s.mch := rfl
@[simp] theorem State.updSdm_rdp (s : State) (ch : Nat) (f : SdmCh → SdmCh) : (s.updSdm ch f).rdp = s.rdp := rfl
@[simp] theorem State.updSdm_wrp (s : State) (ch : Nat) (f : SdmCh → SdmCh) : (s.updSdm ch f).wrp = s.wrp := rfl
@[simp] theorem State.updSdm_mcr (s : State) (ch : Nat) (f : SdmCh → SdmCh) : (s.updSdm ch f).mcr = s.mcr := rfl
@[simp] theorem State.updSdm_nss (s : State) (ch : Nat) (f : SdmCh → SdmCh) : (s.updSdm ch f).nss = s.nss := rfl
@[simp] theorem State.updSdm_fns (s : State) (ch : Nat) (f : SdmCh → SdmCh) : (s.updSdm ch f).fns = s.fns := rfl
@[simp] theorem State.updSdm_hpt (s : State) (ch : Nat) (f : SdmCh → SdmCh) : (s.updSdm ch f).hpt = s.hpt := rfl
@[simp] theorem State.updSdm_mig (s : State) (ch : Nat) (f : SdmCh → SdmCh) : (s.updSdm ch f).mig = s.mig := rfl
@[simp] theorem State.updSdm_aens (s : State) (ch : Nat) (f : SdmCh → SdmCh) : (s.updSdm ch f).aens = s.aens := rfl
@[simp] theorem State.updSdm_errs (s : State) (ch : Nat) (f : SdmCh → SdmCh) : (s.updSdm ch f).errs = s.errs := rfl
@[simp] theorem State.updSdm_evc (s : State) (ch : Nat) (f : SdmCh → SdmCh) : (s.updSdm ch f).evc = s.evc := rfl
@[simp] theorem State.updSdm_aow (s : State) (ch : Nat) (f : SdmCh → SdmCh) : (s.updSdm ch f).aow = s.aow := rfl
@[simp] theorem State.updSdm_sdm (s : State) (ch : Nat) (f : SdmCh → SdmCh) : (s.updSdm ch f).sdm = { s.sdm with chs := s.sdm.chs.modify ch f } := rfl
@[simp] theorem State.updSdm_mlk (s : State) (ch : Nat) (f : SdmCh → SdmCh) : (s.updSdm ch f).mlk = s.mlk := rfl
@[simp] theorem State.updSdm_pwr (s : State) (ch : Nat) (f : SdmCh → SdmCh) : (s.updSdm ch f).pwr = s.pwr := rfl
@[simp] theorem State.updSdm_sec (s : State) (ch : Nat) (f : SdmCh → SdmCh) : (s.updSdm ch f).sec = s.sec := rfl
@[simp] theorem State.updSdm_keys (s : State) (ch : Nat) (f : SdmCh → SdmCh) : (s.updSdm ch f).keys = s.keys := rfl
@[simp] theorem State.updSdm_mtr (s : State) (ch : Nat) (f : SdmCh → SdmCh) : (s.updSdm ch f).mtr = s.mtr := rfl
@[simp] theorem State.updSdm_lpb (s : State) (ch : Nat) (f : SdmCh → SdmCh) : (s.updSdm ch f).lpb = s.lpb := rfl
@[simp] theorem State.updSdm_tln (s : State) (ch : Nat) (f : SdmCh → SdmCh) : (s.updSdm ch f).tln = s.tln := rfl
@[simp] theorem State.updSdm_mi (s : State) (ch : Nat) (f : SdmCh → SdmCh) : (s.updSdm ch f).mi = s.mi := rfl
@[simp] theorem State.updSdm_out (s : State) (ch : Nat) (f : SdmCh → SdmCh) : (s.updSdm ch f).out = s.out := rfl
@[simp] theorem State.updSdm_draw (s : State) (ch : Nat) (f : SdmCh → SdmCh) : (s.updSdm ch f).draw = s.draw := rfl

/-! ## `State.updWrite`: changing a write in progress -/

@[simp] theorem State.updWrite_pending (s : State) (wid : Nat) (f : SWrite → SWrite) : (s.updWrite wid f).pending = s.pending := rfl
@[simp] theorem State.updWrite_regs (s : State) (wid : Nat) (f : SWrite → SWrite) : (s.updWrite wid f).regs = s.regs := rfl
@[simp] theorem State.updWrite_ftb (s : State) (wid : Nat) (f : SWrite → SWrite) : (s.updWrite wid f).ftb = s.ftb := rfl
@[simp] theorem State.updWrite_prx (s : State) (wid : Nat) (f : SWrite → SWrite) : (s.updWrite wid f).prx = s.prx := rfl
@[simp] theorem State.updWrite_tenants (s : State) (wid : Nat) (f : SWrite → SWrite) : (s.updWrite wid f).tenants = s.tenants := rfl
@[simp] theorem State.updWrite_cmds (s : State) (wid : Nat) (f : SWrite → SWrite) : (s.updWrite wid f).cmds = s.cmds := rfl
@[simp] theorem State.updWrite_mch (s : State) (wid : Nat) (f : SWrite → SWrite) : (s.updWrite wid f).mch = s.mch := rfl
@[simp] theorem State.updWrite_rdp (s : State) (wid : Nat) (f : SWrite → SWrite) : (s.updWrite wid f).rdp = s.rdp := rfl
@[simp] theorem State.updWrite_wrp (s : State) (wid : Nat) (f : SWrite → SWrite) : (s.updWrite wid f).wrp = { s.wrp with writes := s.wrp.writes.map fun w => if w.wid = wid then f w else w } := rfl
@[simp] theorem State.updWrite_mcr (s : State) (wid : Nat) (f : SWrite → SWrite) : (s.updWrite wid f).mcr = s.mcr := rfl
@[simp] theorem State.updWrite_nss (s : State) (wid : Nat) (f : SWrite → SWrite) : (s.updWrite wid f).nss = s.nss := rfl
@[simp] theorem State.updWrite_fns (s : State) (wid : Nat) (f : SWrite → SWrite) : (s.updWrite wid f).fns = s.fns := rfl
@[simp] theorem State.updWrite_hpt (s : State) (wid : Nat) (f : SWrite → SWrite) : (s.updWrite wid f).hpt = s.hpt := rfl
@[simp] theorem State.updWrite_mig (s : State) (wid : Nat) (f : SWrite → SWrite) : (s.updWrite wid f).mig = s.mig := rfl
@[simp] theorem State.updWrite_aens (s : State) (wid : Nat) (f : SWrite → SWrite) : (s.updWrite wid f).aens = s.aens := rfl
@[simp] theorem State.updWrite_errs (s : State) (wid : Nat) (f : SWrite → SWrite) : (s.updWrite wid f).errs = s.errs := rfl
@[simp] theorem State.updWrite_evc (s : State) (wid : Nat) (f : SWrite → SWrite) : (s.updWrite wid f).evc = s.evc := rfl
@[simp] theorem State.updWrite_aow (s : State) (wid : Nat) (f : SWrite → SWrite) : (s.updWrite wid f).aow = s.aow := rfl
@[simp] theorem State.updWrite_sdm (s : State) (wid : Nat) (f : SWrite → SWrite) : (s.updWrite wid f).sdm = s.sdm := rfl
@[simp] theorem State.updWrite_mlk (s : State) (wid : Nat) (f : SWrite → SWrite) : (s.updWrite wid f).mlk = s.mlk := rfl
@[simp] theorem State.updWrite_pwr (s : State) (wid : Nat) (f : SWrite → SWrite) : (s.updWrite wid f).pwr = s.pwr := rfl
@[simp] theorem State.updWrite_sec (s : State) (wid : Nat) (f : SWrite → SWrite) : (s.updWrite wid f).sec = s.sec := rfl
@[simp] theorem State.updWrite_keys (s : State) (wid : Nat) (f : SWrite → SWrite) : (s.updWrite wid f).keys = s.keys := rfl
@[simp] theorem State.updWrite_mtr (s : State) (wid : Nat) (f : SWrite → SWrite) : (s.updWrite wid f).mtr = s.mtr := rfl
@[simp] theorem State.updWrite_lpb (s : State) (wid : Nat) (f : SWrite → SWrite) : (s.updWrite wid f).lpb = s.lpb := rfl
@[simp] theorem State.updWrite_tln (s : State) (wid : Nat) (f : SWrite → SWrite) : (s.updWrite wid f).tln = s.tln := rfl
@[simp] theorem State.updWrite_mi (s : State) (wid : Nat) (f : SWrite → SWrite) : (s.updWrite wid f).mi = s.mi := rfl
@[simp] theorem State.updWrite_out (s : State) (wid : Nat) (f : SWrite → SWrite) : (s.updWrite wid f).out = s.out := rfl
@[simp] theorem State.updWrite_draw (s : State) (wid : Nat) (f : SWrite → SWrite) : (s.updWrite wid f).draw = s.draw := rfl

/-! ## `State.addAdm`: admitting a program -/

@[simp] theorem State.addAdm_pending (s : State) (a : Adm) : (s.addAdm a).pending = s.pending := rfl
@[simp] theorem State.addAdm_regs (s : State) (a : Adm) : (s.addAdm a).regs = s.regs := rfl
@[simp] theorem State.addAdm_ftb (s : State) (a : Adm) : (s.addAdm a).ftb = s.ftb := rfl
@[simp] theorem State.addAdm_prx (s : State) (a : Adm) : (s.addAdm a).prx = { s.prx with adms := s.prx.adms ++ [a] } := rfl
@[simp] theorem State.addAdm_tenants (s : State) (a : Adm) : (s.addAdm a).tenants = s.tenants := rfl
@[simp] theorem State.addAdm_cmds (s : State) (a : Adm) : (s.addAdm a).cmds = s.cmds := rfl
@[simp] theorem State.addAdm_mch (s : State) (a : Adm) : (s.addAdm a).mch = s.mch := rfl
@[simp] theorem State.addAdm_rdp (s : State) (a : Adm) : (s.addAdm a).rdp = s.rdp := rfl
@[simp] theorem State.addAdm_wrp (s : State) (a : Adm) : (s.addAdm a).wrp = s.wrp := rfl
@[simp] theorem State.addAdm_mcr (s : State) (a : Adm) : (s.addAdm a).mcr = s.mcr := rfl
@[simp] theorem State.addAdm_nss (s : State) (a : Adm) : (s.addAdm a).nss = s.nss := rfl
@[simp] theorem State.addAdm_fns (s : State) (a : Adm) : (s.addAdm a).fns = s.fns := rfl
@[simp] theorem State.addAdm_hpt (s : State) (a : Adm) : (s.addAdm a).hpt = s.hpt := rfl
@[simp] theorem State.addAdm_mig (s : State) (a : Adm) : (s.addAdm a).mig = s.mig := rfl
@[simp] theorem State.addAdm_aens (s : State) (a : Adm) : (s.addAdm a).aens = s.aens := rfl
@[simp] theorem State.addAdm_errs (s : State) (a : Adm) : (s.addAdm a).errs = s.errs := rfl
@[simp] theorem State.addAdm_evc (s : State) (a : Adm) : (s.addAdm a).evc = s.evc := rfl
@[simp] theorem State.addAdm_aow (s : State) (a : Adm) : (s.addAdm a).aow = s.aow := rfl
@[simp] theorem State.addAdm_sdm (s : State) (a : Adm) : (s.addAdm a).sdm = s.sdm := rfl
@[simp] theorem State.addAdm_mlk (s : State) (a : Adm) : (s.addAdm a).mlk = s.mlk := rfl
@[simp] theorem State.addAdm_pwr (s : State) (a : Adm) : (s.addAdm a).pwr = s.pwr := rfl
@[simp] theorem State.addAdm_sec (s : State) (a : Adm) : (s.addAdm a).sec = s.sec := rfl
@[simp] theorem State.addAdm_keys (s : State) (a : Adm) : (s.addAdm a).keys = s.keys := rfl
@[simp] theorem State.addAdm_mtr (s : State) (a : Adm) : (s.addAdm a).mtr = s.mtr := rfl
@[simp] theorem State.addAdm_lpb (s : State) (a : Adm) : (s.addAdm a).lpb = s.lpb := rfl
@[simp] theorem State.addAdm_tln (s : State) (a : Adm) : (s.addAdm a).tln = s.tln := rfl
@[simp] theorem State.addAdm_mi (s : State) (a : Adm) : (s.addAdm a).mi = s.mi := rfl
@[simp] theorem State.addAdm_out (s : State) (a : Adm) : (s.addAdm a).out = s.out := rfl
@[simp] theorem State.addAdm_draw (s : State) (a : Adm) : (s.addAdm a).draw = s.draw := rfl

/-! ## `State.dropAdms`: removing admissions -/

@[simp] theorem State.dropAdms_pending (s : State) (p : Adm → Bool) : (s.dropAdms p).pending = s.pending := rfl
@[simp] theorem State.dropAdms_regs (s : State) (p : Adm → Bool) : (s.dropAdms p).regs = s.regs := rfl
@[simp] theorem State.dropAdms_ftb (s : State) (p : Adm → Bool) : (s.dropAdms p).ftb = s.ftb := rfl
@[simp] theorem State.dropAdms_prx (s : State) (p : Adm → Bool) : (s.dropAdms p).prx = { s.prx with adms := s.prx.adms.filter fun a => !p a } := rfl
@[simp] theorem State.dropAdms_tenants (s : State) (p : Adm → Bool) : (s.dropAdms p).tenants = s.tenants := rfl
@[simp] theorem State.dropAdms_cmds (s : State) (p : Adm → Bool) : (s.dropAdms p).cmds = s.cmds := rfl
@[simp] theorem State.dropAdms_mch (s : State) (p : Adm → Bool) : (s.dropAdms p).mch = s.mch := rfl
@[simp] theorem State.dropAdms_rdp (s : State) (p : Adm → Bool) : (s.dropAdms p).rdp = s.rdp := rfl
@[simp] theorem State.dropAdms_wrp (s : State) (p : Adm → Bool) : (s.dropAdms p).wrp = s.wrp := rfl
@[simp] theorem State.dropAdms_mcr (s : State) (p : Adm → Bool) : (s.dropAdms p).mcr = s.mcr := rfl
@[simp] theorem State.dropAdms_nss (s : State) (p : Adm → Bool) : (s.dropAdms p).nss = s.nss := rfl
@[simp] theorem State.dropAdms_fns (s : State) (p : Adm → Bool) : (s.dropAdms p).fns = s.fns := rfl
@[simp] theorem State.dropAdms_hpt (s : State) (p : Adm → Bool) : (s.dropAdms p).hpt = s.hpt := rfl
@[simp] theorem State.dropAdms_mig (s : State) (p : Adm → Bool) : (s.dropAdms p).mig = s.mig := rfl
@[simp] theorem State.dropAdms_aens (s : State) (p : Adm → Bool) : (s.dropAdms p).aens = s.aens := rfl
@[simp] theorem State.dropAdms_errs (s : State) (p : Adm → Bool) : (s.dropAdms p).errs = s.errs := rfl
@[simp] theorem State.dropAdms_evc (s : State) (p : Adm → Bool) : (s.dropAdms p).evc = s.evc := rfl
@[simp] theorem State.dropAdms_aow (s : State) (p : Adm → Bool) : (s.dropAdms p).aow = s.aow := rfl
@[simp] theorem State.dropAdms_sdm (s : State) (p : Adm → Bool) : (s.dropAdms p).sdm = s.sdm := rfl
@[simp] theorem State.dropAdms_mlk (s : State) (p : Adm → Bool) : (s.dropAdms p).mlk = s.mlk := rfl
@[simp] theorem State.dropAdms_pwr (s : State) (p : Adm → Bool) : (s.dropAdms p).pwr = s.pwr := rfl
@[simp] theorem State.dropAdms_sec (s : State) (p : Adm → Bool) : (s.dropAdms p).sec = s.sec := rfl
@[simp] theorem State.dropAdms_keys (s : State) (p : Adm → Bool) : (s.dropAdms p).keys = s.keys := rfl
@[simp] theorem State.dropAdms_mtr (s : State) (p : Adm → Bool) : (s.dropAdms p).mtr = s.mtr := rfl
@[simp] theorem State.dropAdms_lpb (s : State) (p : Adm → Bool) : (s.dropAdms p).lpb = s.lpb := rfl
@[simp] theorem State.dropAdms_tln (s : State) (p : Adm → Bool) : (s.dropAdms p).tln = s.tln := rfl
@[simp] theorem State.dropAdms_mi (s : State) (p : Adm → Bool) : (s.dropAdms p).mi = s.mi := rfl
@[simp] theorem State.dropAdms_out (s : State) (p : Adm → Bool) : (s.dropAdms p).out = s.out := rfl
@[simp] theorem State.dropAdms_draw (s : State) (p : Adm → Bool) : (s.dropAdms p).draw = s.draw := rfl

end Sys2Proof.Machine
end

