-- ==== Sys2Proof/Tests/Slice0.lean ====
section
/-! SUPPORT. Tests of the model against the specification's examples, the check of ill-formed commands, and for every
statement states and operands that meet its hypotheses, each clause's together. -/
set_option linter.unusedVariables false
set_option maxRecDepth 20000
namespace Sys2Proof.Machine

/-! ## Tests from the specification's worked examples and tables -/

/-- Chapter 14's example: maps 12 of entry 5, a 12-bit signed reading in steps of 0.0625 °C. -/
def lens : State :=
  ((((State.reset.setReg (Reg.tlnSampleCfg 5) 0x00644A41).setReg (Reg.tlnMapSrc 12) 0x800C0445).setReg (Reg.tlnMapScale 12) 0x1000).setReg
    (Reg.tlnMapDest 12) 0x04281703)
theorem test_map_value : lens.mapValue 12 0x1A60 = 0x001A6000 := by decide
theorem test_map_negative : lens.mapValue 12 0xFF00 = -65536 := by decide
theorem test_larvis_word : larvisValue 0x001A6000 + 0xC0000000 = 0xC0001A60 ∧ larvisValue (-65536) + 0xC0000000 = 0xC0FFFF00 := by decide
theorem test_map_fields : lens.mapEntry 12 = 5 ∧ lens.mapBit 12 = 4 ∧ lens.mapWidth 12 = 12 ∧ lens.fieldMap 3 7 = some 12 ∧ lens.wordMap 40 = some 12 := by decide

/-- Reader's example of chapter 98: the temperature of die lane 77 stands at BAR2 offset 0x0061_0134. -/
theorem test_die_temp_offset : Reg.mchChDieTemp 4 13 = 0x610134 := by decide

/-- Chapter 13's example: sources 17 and 26 pending on an empty stack, of priorities 0x35 and 0x3A. -/
def pendSource (s : State) (n cfg : Nat) : State := (s.setNum (Reg.evcSrcCfg n) cfg).setNum (Reg.evcSrcStatus n) 1
def twoPending : State := pendSource (pendSource (State.reset.setNum Reg.evcCtl 0x400) 17 0x835) 26 0x83A
theorem test_priority_order : twoPending.bestSource 0 = some 17 ∧ twoPending.tier 17 = 3 ∧ twoPending.tier 26 = 3 := by decide
/-- The same example with 17 on the stack: 26 does not pre-empt it, its tier being equal. -/
theorem test_equal_tier_waits :
    (let s := twoPending; ({ s with evc := { s.evc with claims := s.evc.claims.set 0 [17] } } : State).bestSource 0) = none := by decide

/-- Chapter 12's example: a LIMIT that has wrapped leaves 80 blocks of credit. -/
theorem test_credit_wraps :
    State.credit { State.reset with mlk := { State.reset.mlk with limit := State.reset.mlk.limit.set 0 0x0010, consumed := State.reset.mlk.consumed.set 0 0xFFC0 } } 0 0 = 80 := by decide

/-- Table 15-9: an index ahead of the producer is taken as the producer, one more than the log behind as its oldest. -/
theorem test_evlog_cons : evlogCons 100 40 = 40 ∧ evlogCons 100 101 = 100 := by decide

/-- R51: a read of FTB_FRAME_LO latches the upper half and the cell. -/
theorem test_frame_read :
    (match exec .frameCounterRead { State.reset with ftb := { State.reset.ftb with frame := 0x500000007, tick := 4003 } } with
      | .next t => t.num Reg.ftbFrameHi == 5 && t.num Reg.ftbCell == 2 + 3 * 65536 && t.out.head? == some (Out.read 7)
      | _ => false) = true := by decide

/-- R16: a write of 1 clears a W1C bit and leaves the others. -/
theorem test_w1c :
    (match exec (.registerWrite .pf0 Reg.ftbEvent ⟨0x5, 0⟩) (State.reset.setReg Reg.ftbEvent 0x7) with
      | .next t => t.num Reg.ftbEvent == 2
      | _ => false) = true := by decide

/-- R136: PF0 does not write a shadow window. -/
theorem test_core_only :
    (match exec (.registerWrite .pf0 (Reg.lpbWinShadowBase 2) ⟨0x1000, 0⟩) State.reset with
      | .next t => t.num (Reg.lpbWinShadowBase 2) == 0
      | _ => false) = true := by decide

/-- R441: a fifth session is refused with SessionLimitExceeded. -/
theorem test_fifth_session :
    (match exec (.keyExchange 0 []) { State.reset with hpt := { State.reset.hpt with doe := some (1, none) }, sec := { State.reset.sec with sessions := List.replicate 4 ⟨1, false, false, 0⟩ } } with
      | .next t => t.sec.sessions.length == 4 && t.out.contains (Out.resp 0 0x7F [10])
      | _ => false) = true := by decide

/-- R47, R49: the last tick of the last frame number ends the frame, and the counter returns to 0. -/
theorem test_frame_wraps :
    (match step { State.reset with ftb := { State.reset.ftb with frame := 2 ^ 48 - 1, tick := 499999 } } with
      | .next t => t.ftb.frame == 0 && t.ftb.tick == 0
      | _ => false) = true := by decide

/-- The queue is first in, first out. -/
theorem test_queue_order :
    (match step { State.reset with pending := [.getVersion, .frefLost], hpt := { State.reset.hpt with doe := some (1, none) } } with
      | .next t => t.pending == [Instr.frefLost] && t.out.contains (Out.resp 0 0x04 [0x12])
      | _ => false) = true := by decide

/-- R412: NumVFs is written while VF Enable is 0 alone. -/
theorem test_num_vfs :
    (match exec (.configRequestRx ⟨0, 0x290, true, 9⟩) (((State.reset.setBit Reg.hptStatus 9 true).setField Reg.pwrStatus 0 3 6).setBit Reg.fnmStatus 13 true) with
      | .next t => t.numVfs == 0
      | _ => false) = true := by decide

/-- No word spells a command (notes/assumptions/4.md). -/
theorem test_no_word : decodeTableWord 8 0 = none := rfl

/-! ## Ill-formed commands are refused by the check -/

def sqe (f : Sqe → Sqe) : Sqe :=
  f { id := ⟨1, 1, 1⟩, opcode := 1, nsid := 1, cdw10 := 0, cdw11 := 0, cdw12 := 0, cdw13 := 0, cdw14 := 0, cdw15 := 0, psdt := 0, prp1 := 0, prpOk := true, sglTypeOk := true, sglLenOk := true }
def beat : Heartbeat := ⟨0, 1, 1, List.replicate 16 0, false, false, false, false, false⟩
def areq : AreadReq := ⟨1, 1, 1, 1, 1, false, false, false⟩
def mreq : MemReq := ⟨0, 0, 0, 4, false, 0, false, false, false, .pf0, 0⟩
def slot : SlotImage := ⟨1, 1, 256, 1, 1, 0, 0, List.replicate 32 0, [], [], [], []⟩

theorem test_well_formed :
    ([.read (sqe id), .heartbeatRx beat, .areadReqRx areq, .memRequestRx mreq, .bootStageEnd (.firmware (some slot) none false 133 0x4000000),
      .registerWrite (.core 7) 0x3FFFFFC ⟨0, 0⟩, .hostLinkUp 6 16 true true] : List Instr).all Instr.wf = true := by decide

theorem test_ill_formed_operands :
    ([.prxLoad (.core 8), .cqePost ⟨⟨4097, 0, 0⟩, false⟩, .cqePost ⟨⟨0, 65536, 0⟩, false⟩, .cqePost ⟨⟨0, 0, 65536⟩, false⟩,
      .read (sqe fun q => { q with opcode := 256 }), .read (sqe fun q => { q with nsid := 2 ^ 32 }),
      .read (sqe fun q => { q with psdt := 4 }), .read (sqe fun q => { q with id := ⟨4097, 0, 0⟩ }),
      .heartbeatRx { beat with variant := 256 }, .heartbeatRx { beat with frame := 2 ^ 48 },
      .heartbeatRx { beat with tick := 2 ^ 32 }, .heartbeatRx { beat with digest := [] },
      .armReportRx ⟨.accepted, 2 ^ 48, 0, []⟩, .armReportRx ⟨.accepted, 0, 2 ^ 48, []⟩,
      .areadReqRx { areq with nsid := 2 ^ 32 }, .areadReqRx { areq with index := 2 ^ 64 }, .areadReqRx { areq with part := 256 },
      .areadReqRx { areq with group := 256 }, .areadReqRx { areq with tag := 4096 },
      .decodeDone (.unit ⟨4097, 0, 0⟩ 0 none) 0 .ok, .decodeDone (.unit ⟨0, 0, 0⟩ 0 (some 512)) 0 .ok,
      .decodeDone (.served 4096) 0 .ok, .decodeDone (.sample 512 0) 0 .ok,
      .channelBringupDone 0 ⟨some 16, [], [], none, none⟩, .channelBringupDone 0 ⟨none, [], [], some 16, none⟩,
      .channelBringupDone 0 ⟨none, [], [], none, some 16⟩, .channelBringupDone 0 ⟨none, [⟨[], 65536⟩], [], none, none⟩,
      .memRequestRx { mreq with bar := 1 }, .memRequestRx { mreq with size := 0 }, .memRequestRx { mreq with fn := 4097 },
      .configRequestRx ⟨0, 2, false, 0⟩, .configRequestRx ⟨0, 4096, false, 0⟩] : List Instr).all (fun c => !c.wf) = true := by decide

theorem test_ill_formed_images :
    ([.uartImageRx (some { slot with bodyDigest := [] }) none, .uartImageRx (some { slot with magic := 2 ^ 32 }) none,
      .uartImageRx (some { slot with svn := 2 ^ 32 }) none, .bootStageEnd (.firmware none (some { slot with bodySize := 2 ^ 32 }) false 133 0),
      .bootStageEnd (.media true true (some { slot with headerSize := 2 ^ 32 })),
      .linkTrain (some ⟨2, true⟩), .sdmDescriptorComplete 0 (.mismatch (2 ^ 32)) ⟨0x30, 64, 0x1000, 0x2000, 0⟩] : List Instr).all (fun c => !c.wf) = true := by decide

theorem test_ill_formed_ranges :
    ([.skewClearProposalRx (2 ^ 48), .stageAdmit ⟨0, 0, 0⟩ .fetch 0 17, .slotStart ⟨1024, false⟩, .mchChBringup .pf0 32, .rbNRise 0 4,
      .areadRspRx 4096 0, .mackRx (2 ^ 64) 0, .hostLinkUp 7 16 true true, .hostLinkUp 6 3 true true, .aspmL1Entry 3,
      .l0pHostRequest 5, .invalidateRequestRx 0 0 ⟨0, []⟩, .doeRequestRx 0 ⟨0, none⟩ (2 ^ 20), .completionTimeout (2 ^ 14),
      .datasetManagement (sqe id) (List.replicate 257 (0, 0)), .sqTailDoorbell 0 0 65536, .powerStateWrite 0 4, .vfFlr 0, .vfFlr 4097,
      .msixUnmask 0 (some 65), .challenge 0 [], .getMeasurements 256 [], .finish (2 ^ 32) true, .query 0 65536, .lpWindow 0 0 256 ⟨0, 0, 0, 0⟩,
      .flitRx [], .nakRx 4096, .evcRing .pf0 1024, .evcClaim .pf0 8, .holdoffGroupExpiry 64, .watchPinEvent 32, .sdmAbort .pf0 8,
      .bar4RequestRx 0 0 true 0, .localAtomicop 0 2 true, .prefetchExpiry 8, .upstreamWrite 0 0, .lpIrqAssert 4, .tlnSampleDue 64,
      .tlnRecordEmit 32, .larvisRead 1024, .railFault 32, .registerWrite .pf0 2 ⟨0, 0⟩, .registerWrite .pf0 0x4000000 ⟨0, 0⟩] : List Instr).all
      (fun c => !c.wf) = true := by decide

/-! ## States that meet the hypotheses of the statements -/

def wFtb : State := (((State.reset.setField Reg.ftbStatus 0 2 1).setBit Reg.ftbStatus 2 true).setBit Reg.ftbStatus 3
    true)
def wHoldo : State := (let u := (State.reset.setField Reg.ftbStatus 0 2 3).setBit Reg.ftbStatus 2 false;
    { u with ftb := { u.ftb with clock := 60000000, frefLostAt := some 0 } })
def wMiss : State := ({ wFtb with ftb := { wFtb.ftb with clock := 1000000600, lastPps := some 100 } })
def wFree : State := (let u := State.reset.setBit Reg.ftbCtl 0 true;
    { u with ftb := { u.ftb with ppsSeen := true, stepped := true, goodRun := 3, clock := 9 } })
def wSlew : State := (((State.reset.setBit Reg.ftbCtl 0 true).setField Reg.ftbStatus 0 2 2).setField Reg.prxStatus 0
    2 1)
def wSkew : State := (State.reset.setBit Reg.ftbStatus 8 true)
def wAgreed : State := { wSkew with ftb := { wSkew.ftb with ownProp := some 0, peerProp := some 0 } }
def wArmed : State := (let u := State.reset.setBit Reg.ftbTodCtl 0 true; { u with ftb := { u.ftb with clock := 1 } })
def wLink : State := (State.reset.setBit Reg.mlkStatus 1 true)
def wImg : State := ({ wFtb with prx := { wFtb.prx with staged := some {} } })
def wProf : State := ({ wImg with mch := { wImg.mch with profile := some {} } })
def wSw : State := ({ wImg with prx := { wImg.prx with switchF := some 0 } })
def wRun : State := (({ State.reset with prx := { State.reset.prx with active := some {} } }).setField Reg.prxStatus
    0 2 1)
def wPark : State := (({ wRun with prx := { wRun.prx with parkAt := some 0 } }).setField Reg.prxStatus 0 2 2)
def wTen : State :=
    ({ wRun with prx := { wRun.prx with active := some { tenants := [{ vf := 1, group := 0, cls := 0 }] } } })
def wJoin : State := (wProf.setField Reg.mlkPairState 0 3 5)
def wSlots : State :=
    ({ wTen with prx := { wTen.prx with active := some { tenants := [{ vf := 1, group := 0, cls := 0 }], dirs := [[(624, { first := 0, count := 2 }), (3, { first := 2, count := 1 }), (640, { first := 3, count := 1 })]], slots := [{ start := 5, len := 10, kind := 7, owner := 0, param := 4 }, { start := 20, len := 10, kind := 7, param := 4, lend := true }, { start := 0, len := 4, kind := 6, param := 1, lend := true }, { start := 0, len := 4, kind := 9, owner := 0, param := 4 }] } } }.setBit
    Reg.prxCtl 0 true)
def wCmd : State :=
    ({ wSlots with cmds := [{ id := { fn := 1, qid := 1, cid := 7 }, op := 1, bounded := true, toFetch := 1 }] })
def wCmdFree : State := ({ wSlots with cmds := [{ id := { fn := 1, qid := 1, cid := 7 }, op := 1, toFetch := 1 }] })
def wBusy : State := (wSlots.updDie 3 fun d =>
    { d with run := some { kind := 2, work := .prog 4, start := 0, worst := 10, slotEnd := 4 } })
def wEnd : State := ({ wBusy with ftb := { wBusy.ftb with tick := 8000, clock := 8000 } })
def wChUp : State := ((wBusy.setNum (Reg.mchChStatus 0) 2).setNum Reg.mchChUp 1)
def wIdle : State := (({ State.reset with ftb := { State.reset.ftb with frame := 10000 } }.setNum (Reg.mchChStatus 0)
    2).setNum Reg.mchChUp 1)
def wCq : State := (let u := wTen.updFn 1 fun f =>
    { f with bme := true, sqs := [(1, { base := 0, cqid := 1, size := 4 })], cqs := [(1, { base := 0, size := 2, vector := 1, ien := true })], holdoff := 0 };
    { u with cmds := [{ id := { fn := 1, qid := 1, cid := 7 }, op := 2, status := some 0 }] })
def wCqFull : State := (wCq.updFn 1 fun f =>
    { f with cqs := [(1, { base := 0, size := 2, vector := 1, ien := true, used := 1 })] })
def wOwned : State :=
    ({ wSlots with prx := { wSlots.prx with adms := [{ cmd := { fn := 1, qid := 1, cid := 7 }, kind := .cipher, lane := 640, start := 0, stop := 4, units := 1, owned := true, fn := 1 }] } })
def wHeldLane : State := (wSlots.updDie 3 fun d =>
    { d with run := some { kind := 2, work := .prog 4, start := 0, worst := 10, slotEnd := 0 } })
def wRead : State :=
    ({ wTen with cmds := [{ id := { fn := 1, qid := 1, cid := 7 }, op := 2, nsid := 1, count := 1 }] })
def wAround : State :=
    ({ wTen with rdp := { wTen.rdp with sent := [{ tag := 9, cmd := { fn := 1, qid := 1, cid := 7 }, unit := 0, soft := false, rescue := false, sentAt := some 0 }] }, cmds := [{ id := { fn := 1, qid := 1, cid := 7 }, op := 2, nsid := 1, count := 1, looked := true, units := [{ unit := 0, home := 3, loc := none, phase := .around 9 false }] }], ftb := { wTen.ftb with clock := 1000000000 } })
def wDecode : State :=
    ({ wAround with cmds := [{ id := { fn := 1, qid := 1, cid := 7 }, op := 2, nsid := 1, count := 1, looked := true, units := [{ unit := 0, home := 0, loc := some 0, phase := .media .own, legs := [{ loc := 0, at_ := .decoding }] }] }] })
def wSoft : State :=
    ({ wAround with cmds := [{ id := { fn := 1, qid := 1, cid := 7 }, op := 2, nsid := 1, count := 1, looked := true, units := [{ unit := 0, home := 0, loc := some 0, phase := .media .own, legs := [{ loc := 0, at_ := .decoding, soft := true, reads := 3 }], stage := 3 }] }] }.setNum
    Reg.rdpSoftCtl 3)
def wServe : State :=
    ({ wTen with rdp := { wTen.rdp with serving := [{ req := { nsid := 1, index := 0, part := 0, group := 0, tag := 4, rescue := false, soft := true, bestEffort := false }, leg := { loc := 0, at_ := .decoding } }] } })
def wServeS : State :=
    ({ wTen with rdp := { wTen.rdp with serving := [{ req := { nsid := 1, index := 0, part := 0, group := 0, tag := 4, rescue := false, soft := true, bestEffort := false }, leg := { loc := 0, at_ := .decoding, soft := true, reads := 3 } }] } }.setNum
    Reg.rdpSoftCtl 3)
def wNs : State := (wTen.updNs 1 fun n => { n with present := true, paired := true })
def wNsMedia : State := ((({ wNs with wrp := { wNs.wrp with map := { entries := [(mapKey 1 0, 0)] } } }).setNum
    (Reg.mchChStatus 0) 2))
def wFill : State :=
    ({ wTen with cmds := [{ id := { fn := 1, qid := 1, cid := 7 }, op := 1, nsid := 1, count := 1, filling := true, wids := [3] }], wrp := { wTen.wrp with nextWid := 4, writes := [{ wid := 3, origin := .own, nsid := 1, units := [0], state := .filling }] } })
def wVer : State :=
    ({ wTen with wrp := { wTen.wrp with writes := [{ wid := 3, origin := .own, nsid := 1, units := [0], state := .verified }] } })
def wStripe : State :=
    ({ wTen with wrp := { wTen.wrp with stripes := [{ sid := 2, opened := 0, parityLane := 5, members := [(3, [(1, 0)]), (5, [])] }] }, ftb := { wTen.ftb with frame := 100000 } })
def wDirty : State := ({ wTen with wrp := { wTen.wrp with dirty := [(4, 0), (9, 0)] } })
def wDump : State := (({ State.reset with pwr := { State.reset.pwr with stop := .dump, supply := .on } }).setBit
    Reg.wrpStatus 4 true)
def wOn : State := ({ State.reset with pwr := { State.reset.pwr with supply := .on } })
def wGc : State :=
    (({ wTen with mcr := { wTen.mcr with stage := 2, baseAt := some 0 }, ftb := { wTen.ftb with frame := 1000 } }).setNum
    Reg.mcrGcFactor 65536)
def wDesc : BoardDesc :=
    { magic := 0, format := 1, totalSize := 256, crcOk := true, subsysVid := 0, subsysId := 0, paired := 0, bar4Log2 := 0, ddrSpeed := 0, ddrChannels := 1, ddrGib := 16, ddrRanks := 1, ddrWidth := 64, channelMask := 1, diesPerCh := 8, holdupGpio := 0xFF, holdupDiv := 256, holdupHealthy := 0, holdupDump := 0, holdupLoad := 0, smb0Addr := 0x50, holdupMin := 0, oemKeyDigest := [], devices := [(5, 0x48)], vpd := [] }
def wSrmLanes : State := ({ wTen with pwr := { wTen.pwr with desc := some wDesc } })
def wLate : State :=
    ({ wIdle with pwr := { wIdle.pwr with desc := some wDesc }, ftb := { wIdle.ftb with frame := 100000000000 } })
def wCal : State := ((({ wIdle with mch := { wIdle.mch with profile := some { bpp := 100 } } }).updDie 3 fun d =>
    { d with blocks := [{ num := 2, state := .closed }] }).setBit Reg.mcrCtl 4 true)
def wTest : State := ({ State.reset with mcr := { State.reset.mcr with testRun := some 4 } })
def wTest2 : State := ({ State.reset with mcr := { State.reset.mcr with testRun := some 2, testPass := true } })
def wHold : State := ((({ wOn with mcr := { wOn.mcr with holdupRun := some 4000 } }).setNum Reg.mcrHoldupLoad
    100).setNum Reg.mcrHoldupMin 5)
def wDue : State :=
    (({ wOn with mcr := { wOn.mcr with claimedAt := some 0 }, ftb := { wOn.ftb with frame := 10000000000 } }).setBit
    Reg.wrpDumpStatus 0 true)
def wUp : State := (((State.reset.setBit Reg.hptStatus 9 true).setBit Reg.hptStatus 8 true).setNum Reg.hptStatus
    0x2346)
def wL1 : State :=
    ({ wUp.updFn 0 fun f => { f with cfg := f.cfg.set 0x70 2 } with ftb := { wUp.ftb with clock := 5000000000 } })
def wNp : State :=
    ({ wUp with hpt := { wUp.hpt with np := [{ tag := 5, fn := 1, kind := .data { fn := 1, qid := 1, cid := 7 }, at_ := 0 }], inval := [{ fn := 1, at_ := 0, tags := [5] }] }, ftb := { wUp.ftb with clock := 500000000000 } })
def wNpRun : State := ({ wNp.setNum Reg.prxStatus 1 with hpt := { wNp.hpt with inval := [] } })
def wNpFetch : State :=
    ({ (wNpRun.updFn 1 fun f => { f with sqs := [(2, { base := 4096, size := 16, cqid := 1 })] }) with hpt := { wNpRun.hpt with np := [{ tag := 6, fn := 1, kind := .fetch 1 2, at_ := 0, part := 3 }] } })
def wQuar : State :=
    ({ wUp with hpt := { wUp.hpt with quar := [{ tag := 5, fn := 1, until_ := 0, quiet := false }] } })
def wAts : State := ({ wUp.updFn 1 fun f => { f with ats := true } with hpt := { wUp.hpt with xreqs := [(1, 77)] } })
def wCont : State := (wUp.setField Reg.hptContainStatus 0 2 1)
def wAttn : State :=
    (({ wUp with hpt := { wUp.hpt with attnAt := some 0 }, ftb := { wUp.ftb with clock := 5000000000000 } }).setBit
    Reg.sppCtl 4 true)
def wFall : State := ((wUp.setBit Reg.sppStatus 3 true).setBit Reg.sppCtl 5 true)
def wAdm : State := (let u := State.reset.updFn 0 fun f =>
    { f with cc := 1, rdy := true, bme := true, mse := true, sqs := [(0, { base := 0, cqid := 0, size := 4, head := 0, tail := 1, granted := 1 }), (1, { base := 0, cqid := 1, size := 4, head := 0, tail := 1, granted := 1 })], cqs := [(0, { base := 0, size := 4, vector := 0, ien := true }), (1, { base := 0, size := 4, vector := 1, ien := true })] };
    (u.setField Reg.hptContainStatus 0 2 0).setField Reg.prxStatus 0 2 1)
def wAdmP : State := (wAdm.setField Reg.prxStatus 0 2 0)
def wVf : State := (((wAdm.setBit Reg.fnmStatus 13 true).setField Reg.fnmStatus 0 13 4).updFn 1 fun f =>
    { f with online := true, bme := true, vq := 5, vi := 5 })
def wVfMse : State := (wVf.setBit Reg.fnmStatus 14 true)
def wEn : State := (wVfMse.updFn 1 fun f =>
    { f with cc := 1, sqs := [(0, { base := 0, cqid := 0, size := 4, head := 0, tail := 1, granted := 1 })], cqs := [(0, { base := 0, size := 4, vector := 0, ien := true })] })
def wVfOn : State := (wEn.updFn 1 fun f => { f with rdy := true })
def wNs1 : State :=
    ({ wAdm with nss := wAdm.nss.set 1 { present := true, attached := some 0, nsze := 1000, ncap := 1000 }, keys := wAdm.keys.set 1 { state := 1 }, pwr := { wAdm.pwr with desc := some wDesc } })
def wCq0 : State := (wAdm.updFn 0 fun f =>
    { f with cqs := [(1, { base := 0, size := 4, vector := 1, ien := true, used := 2 })] })
def wCqOnly : State := (wAdm.updFn 0 fun f =>
    { f with cqs := (2, { base := 0, size := 4, vector := 1, ien := true }) :: f.cqs })
def wMeter : State :=
    ({ wAdm with mtr := { wAdm.mtr with archive := [{ minute := 0, partial_ := false, noTod := false, records := [List.replicate 128 0], root := none }] } })
def wNsUp : State := ({ wNs1 with pwr := { wNs1.pwr with desc := some { wDesc with diesPerCh := 1 } } }.setNum
    (Reg.mchChStatus 0) 2)
def wSel : State := (wEn.setNum Reg.fnmVfSel 1)
def wFrz : State := ((wSel.setLife 1 .frozen).setField Reg.fnmMigLen 0 17 14336)
def wDoe : State := ({ State.reset with hpt := { State.reset.hpt with doe := some (1, none) } })
def wOpen : State := (let u :=
    { State.reset with hpt := { State.reset.hpt with doe := some (2, some 3) }, sec := { State.reset.sec with sessions := [{ id := 3, psk := false, ready := true, lastAt := 0 }] } };
    u)
def wClaim : ClaimRec :=
    { psk := List.replicate 32 1, hint := [7], nonce := List.replicate 16 2, mtrKey := List.replicate 32 3, second := none }
def wPsk : State := (let u :=
    { State.reset with hpt := { State.reset.hpt with doe := some (2, some 3) }, sec := { State.reset.sec with claim := some wClaim, sysClaim := some (List.replicate 16 2), sessions := [{ id := 3, psk := true, ready := true, lastAt := 0 }, { id := 4, psk := true, ready := true, lastAt := 0 }] } };
    u.setBit Reg.secStatus 0 true)
def wHalf : State :=
    ({ State.reset with hpt := { State.reset.hpt with doe := some (2, some 3) }, sec := { State.reset.sec with sessions := [{ id := 3, psk := false, ready := false, lastAt := 0 }] } })
def wPsk4 : State := ({ wPsk with hpt := { wPsk.hpt with doe := some (2, some 4) } })
def wPskIdle : State := ({ wPsk with ftb := { wPsk.ftb with clock := 450000000000 } })
def wSlotImg : SlotImage :=
    { magic := 0x4D495845, format := 1, headerSize := 256, fwVersion := 9, svn := 5, keyIndex := 0, bodySize := 0, bodyDigest := [], publicKey := [], signature := [], signed := [], body := [] }
def wRunArm : State := (let u := { wPsk with prx := { wPsk.prx with committed := true } }; (u.setBit Reg.prxArm 0
    true).setField Reg.prxStatus 0 2 1)
def wTrim : State :=
    ({ wPsk with prx := { wPsk.prx with active := some { tenants := [{ vf := 1, group := 0, cls := 0 }] } } })
def wSvn : State := ({ wPsk with sec := { wPsk.sec with running := some wSlotImg, rollback := 2 } })
def wPskPark : State := (wPsk.setField Reg.prxStatus 0 2 0)
def wNs9 : State := (wPsk.updNs 9 fun n => { n with present := true })
def wRec : State := (({ State.reset with out := [] }).setBit Reg.pwrStatus 4 true)
def wInit : InitFlit :=
    { serial := 0x500000003, pairId := true, graceMs := 20, session := 7, nextSeq := 0, limits := [], roundTrip := 100, hold := 20, paired := true, lifecycle := false, version := 1 }
def wPair : State := ((((State.reset.setBit Reg.mlkStatus 0 true).setBit Reg.mlkStatus 1 true).setField Reg.mlkStatus
    3 2 2).setField Reg.mlkPairState 0 3 5)
def wTimed : State :=
    ({ wPair with mlk := { wPair.mlk with session := some 7, accepted := 3, grantNew := true, lastFlit := 49999000 }, ftb := { wPair.ftb with frame := 100, clock := 50000000 } })
def wLate12 : State := ({ wTimed with mlk := { wTimed.mlk with lastFlit := 0 } })
def wGrace : State := (({ wTimed with mlk := { wTimed.mlk with graceAt := some 0 } }).setField Reg.mlkPairState 0 3 1)
def wLost : State := (({ wTimed with mlk := { wTimed.mlk with lostAt := some 0, peer := some wInit } }).setField
    Reg.mlkPairState 0 3 2)
def wResync : State :=
    (({ wTimed with mlk := { wTimed.mlk with joinOwn := some 99, peerJoin := some 100 } }).setField Reg.mlkPairState
    0 3 4)
def wPns : State :=
    ({ wTimed with nss := wTimed.nss.set 1 { present := true, paired := true, nsze := 100, ncap := 100, prot := 1 }, mlk := { wTimed.mlk with sent := [{ seq := 4, nsid := 1, kind := .write 3, regions := [], sentAt := some 0 }] }, pwr := { wTimed.pwr with desc := some wDesc } })
def wPnsLive : State := (wPns.restartTimers)
def wPnsR : State :=
    ({ wPns with mlk := { wPns.mlk with sent := wPns.mlk.sent.map fun m => { m with kind := .resync 1 } } })
def wPnsAtt : State := (wPns.updNs 1 fun n => { n with attached := some 0, changed := [] })
def wSrc : State := (((State.reset.setNum (Reg.evcSrcCfg 5) 0x810).setNum (Reg.evcSrcStatus 5) 1).setNum Reg.evcCtl
    0x800)
def wOnStack : State :=
    ({ (State.reset.setNum (Reg.evcSrcStatus 5) 2) with evc := { State.reset.evc with claims := State.reset.evc.claims.set 0 [5] } })
def wHoldG : State := (({ State.reset with ftb := { State.reset.ftb with clock := 5000 } }).setNum (Reg.evcHoldoff 2)
    0x1000A)
def wDog : State := (({ State.reset with ftb := { State.reset.ftb with clock := 500000 } }).setNum (Reg.evcCoreWdog
    3) 1)
def wDog2 : State := ({ wDog with evc := { wDog.evc with wdog := wDog.evc.wdog.set 3 true } })
def wQuiet : State :=
    ({ State.reset with pwr := { State.reset.pwr with supply := .quiet }, aow := { wakeEn := 0xF, pinEn := 0x1FFFFF, pmeEn := true } })
def wQuietPin : State := ({ wQuiet with evc := { wQuiet.evc with pins := wQuiet.evc.pins.set 995 true } })
def wPinHigh : State :=
    ({ State.reset.setNum Reg.aowPinEn 0x1FFFFF with evc := { State.reset.evc with pins := State.reset.evc.pins.set 1012 true }, pwr := { State.reset.pwr with supply := .on } })
def wDesc0 : SdmDesc := { ctl := 0x30, length := 64, src := 0x1000, dst := 0x2000, next := 0 }
def wSdmRun : State :=
    (({ State.reset with sdm := { running := some 1, chs := State.reset.sdm.chs.set 1 { active := true, desc := some wDesc0 } } }).setNum
    (Reg.sdmChStatus 1) 2)
def wSdmPaused : State :=
    (({ State.reset with sdm := { chs := State.reset.sdm.chs.set 1 { active := true, desc := some wDesc0, paused := true } } }).setNum
    (Reg.sdmChStatus 1) 3)
def wBoard : BoardDesc :=
    { magic := 0x43534442, format := 1, totalSize := 4096, crcOk := true, subsysVid := 0x1DD7, subsysId := 1, paired := 1, bar4Log2 := 20, ddrSpeed := 1, ddrChannels := 2, ddrGib := 64, ddrRanks := 1, ddrWidth := 8, channelMask := 0xFFFFFFFF, diesPerCh := 16, holdupGpio := 3, holdupDiv := 1000, holdupHealthy := 3000, holdupDump := 2000, holdupLoad := 20, smb0Addr := 0x1D, holdupMin := 100, oemKeyDigest := List.replicate 48 1, devices := [(1, 0x20)], vpd := [] }
def wBar4 : State := (((({ wUp with pwr := { wUp.pwr with desc := some wBoard } }).updFn 0 fun f =>
    { f with mse := true })))
def wWin : State := (((((wBar4.setNum (Reg.lpbWinBase 2) 0x1000).setNum (Reg.lpbWinLimit 2) 0x1FFF).setNum
    (Reg.lpbWinTrans 2) 0x20001000).setNum (Reg.lpbWinCfg 2) 3))
def wWinP : State := (((((wBar4.setNum (Reg.lpbWinBase 2) 0x1000).setNum (Reg.lpbWinLimit 2) 0x1FFF).setNum
    (Reg.lpbWinTrans 2) 0x20001000).setNum (Reg.lpbWinCfg 2) 5))
def wBurstR : State :=
    ({ wWin with lpb := { wWin.lpb with queue := [{ for_ := .read, win := 2, off := 0x1004, addr := 0x20001004, beats := 1, write := false, req := 9, last := true }], burstAt := wWin.now } })
def wBurstP : State :=
    ({ wWin with lpb := { wWin.lpb with queue := [{ for_ := .posted, win := 2, off := 0x1004, addr := 0x20001004, beats := 1, write := true, req := 9, last := true }, { for_ := .core 3, win := 8, off := 0, addr := 0x40, beats := 1, write := true, req := 0, last := true }], burstAt := wWin.now } })
def wBurstA : State :=
    ({ wWin with lpb := { wWin.lpb with queue := [{ for_ := (.atomicRead false), win := 2, off := 0x1004, addr := 0x20001004, beats := 1, write := false, req := 9, last := true }], burstAt := wWin.now } })
def wBurstC : State :=
    ({ wWin with lpb := { wWin.lpb with queue := [{ for_ := .core 3, win := 8, off := 0, addr := 0x40, beats := 1, write := true, req := 0, last := true }], burstAt := wWin.now } })
def wBurstOld : State := ({ wBurstP with ftb := { wBurstP.ftb with clock := wBurstP.ftb.clock + 1000000 } })
def wFetched : State :=
    ({ wWinP with lpb := { wWinP.lpb with fetched := [(2, 64, 0), (2, 65, 900)] }, ftb := { wWinP.ftb with clock := 1000 } })
def wShadowBad : State := ((wBar4.setNum (Reg.lpbWinShadowBase 1) 0x1001).setNum (Reg.lpbWinShadowCfg 1) 1)
def wShadow : State := ((((wBar4.setNum (Reg.lpbWinShadowBase 1) 0x3000).setNum (Reg.lpbWinShadowLimit 1)
    0x3FFF).setNum (Reg.lpbWinShadowTrans 1) 0x5000).setNum (Reg.lpbWinShadowCfg 1) 1)
def wDraining : State := ({ wShadow with lpb := { wShadow.lpb with drainAt := some 0 } })
def wDrainOld : State :=
    ({ wBurstP with lpb := { wBurstP.lpb with drainAt := some 0 }, ftb := { wBurstP.ftb with clock := 50000 } })
def wAp : State := (((((wUp.updFn 0 fun f => { f with bme := true }).setNum Reg.lpbUpLocal 0x80000000).setNum
    Reg.lpbUpSize 0x80000010).setNum Reg.lpbUpBaseHi 1))
def wApG : State := ({ wAp with lpb := { wAp.lpb with granted := true } })
def wApRun : State := (wApG.setNum Reg.prxStatus 1)
def wApR : State := ({ wApG with lpb := { wApG.lpb with upReads := [{ addr := 0x80000040, len := 8 }] } })
def wApD : State :=
    ({ wApG with lpb := { wApG.lpb with upReads := [{ addr := 0x80000040, len := 8, ready := some 0 }] }, ftb := { wApG.ftb with clock := 500000 } })
def wLens : State :=
    (({ State.reset with tln := { State.reset.tln with sampleCfg := State.reset.tln.sampleCfg.set 63 0x20800, recCfg := State.reset.tln.recCfg.set 31 2 }, ftb := { State.reset.ftb with clock := 1000 } }).setNum
    Reg.tlnCtl 1)
def wLensBusy : State := ({ wLens with tln := { wLens.tln with busy := [63] } })
def wLensBus : State :=
    ({ wBar4 with tln := { wBar4.tln with sampleCfg := wBar4.tln.sampleCfg.set 5 0x20901, busy := [5] } })
def wBar4Busy : State :=
    ({ wBar4 with tln := { wBar4.tln with busy := [0], sampleCfg := wBar4.tln.sampleCfg.set 0 1 } })
def wXfer : State := ({ wBar4 with ftb := wBar4.ftb })
def wXferGo : State := ((wBar4.setNum Reg.tlnXferCtl 0x80001101).setNum Reg.tlnStatus 1)
def wMin : State := (let u :=
    { wPsk with mtr := { wPsk.mtr with archive := [{ minute := 8, partial_ := false, noTod := false, records := [], root := none, ring := true }, { minute := 7, partial_ := false, noTod := false, records := [], root := none, ring := true }], ringLog2 := 13 } };
    u)
def wBoot : State := (State.reset.setField Reg.pwrStatus 0 4 0)
def wBoot3 : State := (let u := { wBoot with pwr := { wBoot.pwr with desc := some wBoard } }; u.setField
    Reg.pwrStatus 0 3 3)
def wOff : State := ({ State.reset with pwr := { State.reset.pwr with supply := .off } })
def wLowP : State := ({ State.reset with pwr := { State.reset.pwr with supply := .quiet } })
def wOnU : State := ({ wUp with pwr := { wUp.pwr with perst := false } })
def wResetting : State := ({ State.reset with pwr := { State.reset.pwr with resetting := some 3 } })
def wTurnOff : State := ({ State.reset with pwr := { State.reset.pwr with turnOff := true } })
def wL23 : State := ({ State.reset with pwr := { State.reset.pwr with l23 := true } })
def wDdr : State := (let u := (State.reset.setNum Reg.ddrStatus 1).setBit Reg.srmStatus 0 true;
    { u with ftb := { u.ftb with clock := 2 ^ 50 } })
def wEv : State := ([Reg.ftbEvent, Reg.prxEvent, Reg.mchEvent, Reg.rdpEvent, Reg.wrpEvent, Reg.mcrEvent,
    Reg.hptEvent, Reg.fnmEvent, Reg.qenEvent, Reg.tcyEvent, Reg.mtrEvent, Reg.secEvent, Reg.mlkEvent, Reg.ddrEvent,
    Reg.aowEvent, Reg.lpbEvent, Reg.tlnEvent, Reg.pwrEvent, Reg.sppEvent, Reg.srmEvent].foldl (fun t r => t.setReg r
    0xFFFFFFFF#32) State.reset)
def wCfg : State := ((wUp.setField Reg.pwrStatus 0 3 6).setField Reg.pwrStatus 4 1 0)
def wRails : State := (State.reset.setNum Reg.pwrRailStatus 0x1FF)
def wTripped : State := ({ State.reset with pwr := { State.reset.pwr with stop := .thermtrip } })
def wReq : MemReq :=
    { fn := 0, bar := 2, addr := 0x400FF0, size := 4, write := false, data := 7, poisoned := false, malformed := false, atomic := false }
def wGone : State := (let u := { wPsk with hpt := { wPsk.hpt with doe := some (2, some 5) } }; u)
def wTwo : State := (((wAdm.updFn 1 fun f =>
    { f with cc := 1, rdy := true, bme := true, life := Life.active, vq := 4, vi := 4, sqs := [(0, { base := 0, cqid := 0, size := 4, head := 0, tail := 1 })], cqs := [(0, { base := 0, size := 4, vector := 0, ien := true })] }).setNum
    Reg.fnmStatus 0x6002))

theorem wNsUp_homeLane (u : Nat) : wNsUp.homeLane 1 u = 0 := by
  have hl : wNsUp.popLanes = [0] := by decide
  have hp : (wNsUp.ns 1).paired = false := by decide
  simp [State.homeLane, hl, hp, Nat.mod_one]

theorem wNsUp_homeFault (l : List Nat) : wNsUp.homeFault 1 l = false := by
  have h : (!wNsUp.dieUsable 0 || (wNsUp.die 0).readOnly) = false := by decide
  simp [State.homeFault, wNsUp_homeLane, h]

theorem witness_stepTakesFront :
    (({ State.reset with pending := [Instr.frefLost] } : State).pending = Instr.frefLost :: []) ∧
    (State.reset.pending = [] ∧ State.reset.live = true ∧ State.reset.ftb.tick + 1 < 500000) :=
  ⟨rfl,
   by decide⟩

theorem witness_timebaseReferences :
    (∃ (s : State), s.live = true ∧ s.frefOk = true) ∧
    (∃ (s : State), s.live = true ∧ s.frefOk = true) ∧
    (∃ (s : State), s.live = true ∧ s.frefHeld = true) ∧
    (∃ (s : State), s.live = true ∧ s.frefHeld = true) ∧
    (∃ (s : State), s.live = true ∧ s.ppsOk = true ∧ s.ppsMissed = true) ∧
    (∃ (s : State), s.live = true ∧ s.ppsOk = true ∧ s.ppsMissed = true) ∧
    (∃ (s : State) (off : Int), s.live = true ∧ s.bit Reg.ftbCtl 1 = true) ∧
    (∃ (s : State) (off : Int), s.live = true ∧ s.bit Reg.ftbCtl 1 = true) ∧
    (∃ (s : State), s.live = true ∧ s.fsyncMissed = true) ∧
    (∃ (s : State), s.live = true) ∧
    (∃ (s : State) (e : Int) (since : Nat) (ppb : Int), s.live = true ∧ s.ftbState = 1 ∧ e.natAbs ≤ 1000) ∧
    (∃ (s : State) (e : Int) (since : Nat) (ppb : Int), s.live = true ∧ s.ftbState = 1 ∧ 1000 < e.natAbs) ∧
    (∃ (s : State) (e : Int) (since : Nat) (ppb : Int), s.live = true ∧ s.ftbState ≠ 1 ∧
      (s.ftb.ppsSeen && secondApart since) = false) ∧
    (∃ (s : State) (e : Int) (since : Nat) (ppb : Int), s.live = true ∧ s.ftbState ≠ 1 ∧ s.ftb.ppsSeen = true ∧
      secondApart since = true ∧ s.bit Reg.ftbCtl 0 = true ∧ s.inRun = false ∧ s.ftb.stepped = true ∧ e.natAbs ≤ 20 ∧
      3 ≤ s.ftb.goodRun) ∧
    (∃ (s : State) (e : Int) (since : Nat) (ppb : Int), s.live = true ∧ s.ftbState ≠ 1 ∧ s.ftbState ≠ 0 ∧
      s.ftb.ppsSeen = true ∧ secondApart since = true ∧ s.bit Reg.ftbCtl 0 = true ∧ s.inRun = true ∧ 20 < e.natAbs) ∧
    (∃ (s : State), s.live = true ∧ s.ftb.heldBegin = false) ∧
    (∃ (s : State), s.live = true ∧ s.ftb.tick = 0 ∧ s.frame % 60000 = 0 ∧ s.mtr.minute ≠ some (minuteOf s.frame)) :=
  ⟨⟨wFtb, by decide⟩,
   ⟨(wFtb.setField Reg.ftbStatus 0 2 2), by decide⟩,
   ⟨State.reset, by decide⟩,
   ⟨wHoldo, by decide⟩,
   ⟨wMiss, by decide⟩,
   ⟨(wMiss.setBit Reg.ftbStatus 2 false), by decide⟩,
   ⟨(State.reset.setBit Reg.ftbCtl 1 true), (-500), by decide⟩,
   ⟨(State.reset.setBit Reg.ftbCtl 1 true), (20), by decide⟩,
   ⟨({ State.reset with ftb := { State.reset.ftb with fsyncAt := some 0, clock := 1000000 } }), by decide⟩,
   ⟨wFtb, by decide⟩,
   ⟨wFtb, (-7), 5, (-3), by decide⟩,
   ⟨wFtb, (-7000), 5, (-3), by decide⟩,
   ⟨State.reset, (-7), 1000000000, (-3), by decide⟩,
   ⟨wFree, (-7), 1000000000, (-3), by decide⟩,
   ⟨({ wSlew with ftb := { wSlew.ftb with ppsSeen := true } }), (-70), 1000000000, (-3), by decide⟩,
   ⟨wFtb, by decide⟩,
   ⟨State.reset, by decide⟩⟩

theorem witness_timeOfDayAndSkew :
    (∃ (s : State) (hi : Bool) (v : Word), s.live = true ∧ s.bit Reg.ftbTodCtl 0 = false) ∧
    (∃ (s : State) (hi : Bool) (v : Word), s.live = true ∧ s.bit Reg.ftbTodCtl 0 = false) ∧
    (∃ (s : State) (hi : Bool) (v : Word), s.live = true ∧ s.bit Reg.ftbTodCtl 0 = true) ∧
    (∃ (s : State), s.live = true) ∧
    (∃ (s : State), s.live = true) ∧
    (∃ (s : State), s.live = true ∧ s.todDue = true ∧ s.todRefused s.frame = true) ∧
    (∃ (s : State), s.live = true ∧ s.todDue = true ∧ s.todRefused s.frame = false) ∧
    (∃ (s : State), s.live = true ∧ s.todDue = true ∧ s.todRefused s.frame = false) ∧
    (∃ (s : State), s.live = true) ∧
    (∃ (s : State) (hb : Heartbeat), s.live = true ∧ s.linkUp = true ∧ s.bit Reg.ftbStatus 8 = false) ∧
    (∃ (s : State), s.live = true ∧ s.bit Reg.ftbStatus 8 = false) ∧
    (∃ (s : State) (f : Nat), s.live = true ∧ s.bit Reg.ftbStatus 8 = true) ∧
    (∃ (s : State) (f : Nat), s.live = true ∧ s.bit Reg.ftbStatus 8 = true) ∧
    (∃ (s : State) (f : Nat), s.live = true ∧ s.skewAgreed = some f ∧ f ≤ s.frame ∧ s.bit Reg.ftbStatus 8 = true) ∧
    (∃ (s : State) (f : Nat), s.live = true ∧ s.skewAgreed = some f ∧ f ≤ s.frame ∧ s.bit Reg.ftbStatus 8 = true) :=
  ⟨⟨State.reset, true, 0xFFF#32, by decide⟩,
   ⟨State.reset, false, 0xFFF#32, by decide⟩,
   ⟨wArmed, true, 0xFFF#32, by decide⟩,
   ⟨State.reset, by decide⟩,
   ⟨wArmed, by decide⟩,
   ⟨(let u := wArmed.setNum Reg.ftbTodSecHi 127; u.setNum Reg.ftbTodSec 0xFFFFFFFF), by decide⟩,
   ⟨wArmed, by decide⟩,
   ⟨(wArmed.setNum Reg.ftbTodSec 5), by decide⟩,
   ⟨wFtb, by decide⟩,
   ⟨wLink,
    { variant := 0, frame := 0, tick := 0, digest := [], thermal := false, hostLost := false, skew := false, park := false, dumping := false },
    by decide⟩,
   ⟨State.reset, by decide⟩,
   ⟨wSkew, 0, by decide⟩,
   ⟨wSkew, 9, by decide⟩,
   ⟨wAgreed, 0, by decide⟩,
   ⟨({ wAgreed with ftb := { wAgreed.ftb with reraise := true } }), 0, by decide⟩⟩

theorem witness_imageLoadAndArm :
    (∃ (s : State) (n : Nat), s.live = true ∧ n < 6 ∧ s.bit Reg.secStatus 0 = true ∧ s.loadBusy = false) ∧
    (∃ (s : State) (n : Nat), s.live = true ∧ n < 6 ∧ s.bit Reg.secStatus 0 = true ∧ s.loadBusy = true) ∧
    (∃ (s : State) (b : List Byte), s.live = true ∧ s.bit Reg.prxStatus 6 = true ∧ s.testRunning ≠ some 8 ∧
      (s.internBusy (fun k _ => k == .image) = false)) ∧
    (∃ (s : State) (n : Nat), s.live = true ∧ n < 6 ∧ s.arming = false) ∧
    (∃ (s : State) (n : Nat), s.live = true ∧ n < 6 ∧ s.arming = true) ∧
    (∃ (s : State) (n : Nat) (j : Image), s.live = true ∧ n < 6 ∧ s.arming = false ∧
      (s.testRunning.all (fun k => !parkOnlyTest k)) ∧ s.explicitF = 0 ∧ ¬ (j.pairMode = 1 ∧ s.joined = true) ∧
      s.prx.staged = some j ∧ s.mch.profile.map (·.digest) = some j.profileDigest ∧ s.prxState ≠ 2 ∧
      s.prx.parkHeld = false) ∧
    (∃ (s : State) (n : Nat) (j : Image), s.live = true ∧ n < 6 ∧ s.arming = false ∧
      (s.testRunning.all (fun k => !parkOnlyTest k)) ∧ s.explicitF ≠ 0 ∧ s.explicitF % s.switchCycle j = 0 ∧
      ((if s.inRun then s.frame + 2 else s.frame) < s.explicitF) ∧ ¬ (j.pairMode = 1 ∧ s.joined = true) ∧
      s.prx.staged = some j ∧ s.mch.profile.map (·.digest) = some j.profileDigest ∧ s.prxState ≠ 2 ∧
      s.prx.parkHeld = false) ∧
    (∃ (s : State) (n : Nat) (j : Image), s.live = true ∧ n < 6 ∧ s.arming = false ∧
      (s.testRunning.all (fun k => !parkOnlyTest k)) ∧ s.explicitF = 0 ∧ j.pairMode = 1 ∧ s.joined = true ∧
      s.prx.peerArm = none ∧ s.prx.staged = some j ∧ s.mch.profile.map (·.digest) = some j.profileDigest ∧
      s.prxState ≠ 2 ∧ s.prx.parkHeld = false) ∧
    (∃ (s : State) (n : Nat), s.live = true ∧ n < 6 ∧ s.arming = false ∧ (s.testRunning.all (fun k => !parkOnlyTest k)) ∧
      s.prx.staged = none) ∧
    (∃ (s : State) (n k : Nat), s.live = true ∧ n < 6 ∧ s.arming = false ∧ s.testRunning = some k ∧ parkOnlyTest k = true) ∧
    (∃ (s : State) (r : ArmReport), s.live = true ∧ r.verdict = .accepted ∧ s.prx.armWait = false) ∧
    (∃ (s : State) (r : ArmReport), s.live = true ∧ r.verdict = .refused ∧ s.prx.armWait = true) ∧
    (∃ (s : State) (r : ArmReport), s.live = true ∧ r.verdict = .withdrawn) ∧
    (∃ (s : State), s.live = true ∧ s.prx.armWait = true ∧ s.prx.armFrame + 1000 ≤ s.frame) ∧
    (∃ (s : State) (n : Nat), s.live = true ∧ n < 6 ∧ s.arming = true ∧ s.switchCommitted = false) ∧
    (∃ (s : State) (n : Nat), s.live = true ∧ n < 6 ∧ s.switchCommitted = true) ∧
    (∃ (s : State) (f : Nat), s.live = true ∧ s.prx.switchF = some f ∧ f ≤ s.frame + 2) :=
  ⟨⟨(wImg.setBit Reg.secStatus 0 true), 5, by decide⟩,
   ⟨((wImg.setBit Reg.secStatus 0 true).setBit Reg.prxArm 0 true), 5, by decide⟩,
   ⟨(wImg.setBit Reg.prxStatus 6 true), [], by decide⟩,
   ⟨wImg, 0, by decide⟩,
   ⟨(wImg.setBit Reg.prxArm 0 true), 0, by decide⟩,
   ⟨wProf, 3, {}, by decide⟩,
   ⟨(wProf.setNum Reg.prxSwitchFrameLo 64), 3, {}, by decide⟩,
   ⟨({ wJoin with prx := { wJoin.prx with staged := some { pairMode := 1 } } }), 3, { pairMode := 1 }, by decide⟩,
   ⟨State.reset, 3, by decide⟩,
   ⟨({ wProf with mcr := { wProf.mcr with testRun := some 8 } }), 3, 8, by decide⟩,
   ⟨State.reset, { verdict := .accepted, armFrame := 5, explicitF := 0, digest := [] }, by decide⟩,
   ⟨({ wImg with prx := { wImg.prx with armWait := true } }),
    { verdict := .refused, armFrame := 5, explicitF := 0, digest := [] }, by decide⟩,
   ⟨State.reset, { verdict := .withdrawn, armFrame := 5, explicitF := 0, digest := [] }, by decide⟩,
   ⟨({ wImg with prx := { wImg.prx with armWait := true }, ftb := { wImg.ftb with frame := 1000 } }), by decide⟩,
   ⟨(wImg.setBit Reg.prxArm 0 true), 0, by decide⟩,
   ⟨(wSw.setBit Reg.prxArm 0 true), 0, by decide⟩,
   ⟨wSw, 0, by decide⟩⟩

theorem witness_imageSwitchAndVariants :
    (∃ (s : State) (f : Nat) (j : Image), s.live = true ∧ s.prx.switchF = some f ∧ s.prx.staged = some j ∧
      s.switchNow f j = true) ∧
    (∃ (s : State) (n : Nat), s.live = true ∧ n < 6 ∧ s.prxState = 1 ∧ s.arming = false) ∧
    (∃ (s : State) (n : Nat), s.live = true ∧ n < 6 ∧ s.arming = true ∧ s.switchCommitted = false) ∧
    (∃ (s : State) (n : Nat), s.live = true ∧ n < 6 ∧ s.arming = true ∧ s.switchCommitted = false) ∧
    (∃ (s : State) (n : Nat), s.live = true ∧ n < 6 ∧ s.arming = true ∧ s.switchCommitted = true) ∧
    (∃ (s : State) (f : Nat), s.live = true ∧ s.prxState = 2 ∧ s.prx.parkAt = some f ∧ f ≤ s.frame ∧ s.drained = true) ∧
    (∃ (s : State) (i : Image) (v : Nat), s.live = true ∧ s.prx.active = some i ∧ s.inRun = true ∧
      s.variantDue i = some v) ∧
    (∃ (s : State) (n : Nat) (v : Word) (i : Image) (e : TenantEntry), s.live = true ∧ n < 6 ∧ s.prx.active = some i ∧
      i.tenant? (s.field Reg.prxTrimSel 0 13) = some e) ∧
    (∃ (s : State) (v : Int), s.live = true ∧ 25600 ≤ v) ∧
    (∃ (s : State) (v : Int), s.live = true ∧ 24320 < v ∧ v < 25600) ∧
    (∃ (s : State) (v : Int), s.live = true ∧ v ≤ 24320 ∧ s.prx.thermal = true) ∧
    (∃ (s : State) (f : Nat), s.live = true ∧ s.prx.thermal = true ∧ s.prx.coolFrom = some f ∧ f + 1000 * 500000 ≤ s.now) ∧
    (∃ (s : State) (i : Image), s.live = true ∧ s.prx.active = some i ∧
      (s.prx.excursions.all (fun f => decide (f + i.window < s.frame)))) ∧
    (∃ (s : State), s.live = true ∧ s.prx.phaseMismatch = true ∧ 1000 ≤ s.prx.phaseRun) ∧
    (∃ (s : State) (e : Bool), s.live = true) :=
  ⟨⟨wSw, 0, {}, by decide⟩,
   ⟨wRun, 0, by decide⟩,
   ⟨(wRun.setBit Reg.prxArm 0 true), 0, by decide⟩,
   ⟨(wImg.setBit Reg.prxArm 0 true), 0, by decide⟩,
   ⟨(wSw.setBit Reg.prxArm 0 true), 0, by decide⟩,
   ⟨wPark, 0, by decide⟩,
   ⟨({ (wRun.setField Reg.prxStatus 2 2 1) with prx := { wRun.prx with clearFrame := some 0 }, ftb := { wRun.ftb with frame := 60000 } }),
    {}, 0, by decide⟩,
   ⟨(wTen.setNum Reg.prxTrimSel 1), 0, 0x8000#32, { tenants := [{ vf := 1, group := 0, cls := 0 }] },
    { vf := 1, group := 0, cls := 0 }, by decide⟩,
   ⟨State.reset, 25600, by decide⟩,
   ⟨State.reset, 25599, by decide⟩,
   ⟨({ State.reset with prx := { State.reset.prx with thermal := true } }), 24320, by decide⟩,
   ⟨({ State.reset with prx := { State.reset.prx with thermal := true, coolFrom := some 0 }, ftb := { State.reset.ftb with frame := 1000, clock := 500000000 } }),
    0, by decide⟩,
   ⟨(wRun.setBit Reg.prxStatus 7 true), {}, by decide⟩,
   ⟨({ State.reset with prx := { State.reset.prx with phaseMismatch := true, phaseRun := 1000 } }), by decide⟩,
   ⟨State.reset, true, by decide⟩⟩

theorem witness_admissionAndSlots :
    (∃ (s : State) (c : CmdId) (k : StageKind) (lane n : Nat) (x : Cmd) (a : Adm) (p : Nat × SlotAt), s.live = true ∧
      s.cmd? c = some x ∧ s.inRun = true ∧ x.admin = false ∧ x.status = none ∧
      stageClassOk k (laneClass lane) = true ∧ s.laneVoid lane = false ∧ s.dueStage x k lane n = some a ∧
      x.bounded = true ∧ x.beyond = false ∧ a.best = false ∧
      (s.earliest [a.lane] (fun l => s.ownedFits x { a with lane := l }) = some p)) ∧
    (∃ (s : State) (c : CmdId) (k : StageKind) (lane n : Nat) (x : Cmd) (a : Adm) (p : Nat × SlotAt), s.live = true ∧
      s.cmd? c = some x ∧ s.inRun = true ∧ x.admin = false ∧ x.status = none ∧
      stageClassOk k (laneClass lane) = true ∧ s.laneVoid lane = false ∧ s.dueStage x k lane n = some a ∧
      x.bounded = false ∧ (s.earliest [a.lane] (fun l => s.freeFits x { a with lane := l }) = some p)) ∧
    (∃ (s : State) (c : CmdId) (k : StageKind) (lane n : Nat) (x : Cmd) (a : Adm), s.live = true ∧ s.cmd? c = some x ∧
      s.inRun = true ∧ x.admin = false ∧ x.status = none ∧ stageClassOk k (laneClass lane) = true ∧
      s.laneVoid lane = false ∧ s.dueStage x k lane n = some a ∧ x.bounded = false ∧
      (s.earliest [a.lane] (fun l => s.freeFits x { a with lane := l }) = none)) ∧
    (∃ (s : State) (lane : Nat) (h : Bool) (y : SlotAt), s.live = true ∧ s.inRun = true ∧
      ((s.laneSlots lane).find? (fun z => z.start == s.cell) = some y) ∧ s.laneHeld lane y = false ∧
      (s.waitingAdms lane y).any (·.owned) = true ∧ y.slot.kind ≠ 7 ∧ y.slot.kind ≠ 8) ∧
    (∃ (s : State) (lane : Nat) (h : Bool) (y : SlotAt), s.live = true ∧ s.inRun = true ∧
      ((s.laneSlots lane).find? (fun z => z.start == s.cell) = some y) ∧ s.laneHeld lane y = false ∧
      s.waitingAdms lane y = [] ∧ y.slot.kind ≠ 2 ∧ y.slot.kind ≠ 4) ∧
    (∃ (s : State) (lane : Nat) (h : Bool) (y : SlotAt), s.live = true ∧ s.inRun = true ∧
      ((s.laneSlots lane).find? (fun z => z.start == s.cell) = some y) ∧ s.laneHeld lane y = false ∧
      s.waitingAdms lane y = [] ∧ y.slot.kind ≠ 2 ∧ y.slot.kind ≠ 4) ∧
    (∃ (s : State) (lane : Nat) (h : Bool) (y : SlotAt), s.live = true ∧ s.inRun = true ∧
      ((s.laneSlots lane).find? (fun z => z.start == s.cell) = some y) ∧ s.laneHeld lane y = true) ∧
    (∃ (s : State) (lane : Nat) (h : Bool), s.live = true ∧ laneClass lane = LaneClass.deliver) ∧
    (∃ (s : State) (lane : Nat) (y : SlotAt) (op : DieOp), s.live = true ∧ s.inRun = true ∧ lane < 512 ∧
      s.endingSlot lane = some y ∧ y.slot.kind ≠ 3 ∧ y.slot.kind ≠ 5 ∧ (s.die lane).run = some op ∧
      op.slotEnd = y.stop ∧ op.overran = false ∧ op.ready = false ∧ s.prx.lateSlots = [] ∧
      (s.prx.adms.all (fun a => a.lane != lane) = true)) ∧
    (∃ (s : State) (c : CmdId) (x : Cmd) (st : Nat) (k : Cq), s.live = true ∧ s.cmd? c = some x ∧ x.status = some st ∧
      lookupKey (s.cqOf c) (s.fn c.fn).cqs = some k ∧ (s.internBusy (fun _ x => x == some c) = false) ∧
      s.dmaOk c.fn = true ∧ (s.fn c.fn).life ≠ .flr ∧ k.used + 1 < k.size ∧
      s.xlatOk c.fn ((k.base + k.slot * 16) / 4096) = true) ∧
    (∃ (s : State) (c : CmdId) (x : Cmd) (st : Nat) (k : Cq), s.live = true ∧ s.cmd? c = some x ∧ x.status = some st ∧
      lookupKey (s.cqOf c) (s.fn c.fn).cqs = some k ∧ (s.internBusy (fun _ x => x == some c) = false) ∧
      s.dmaOk c.fn = true ∧ (s.fn c.fn).life ≠ .flr ∧ k.size ≤ k.used + 1 ∧ (s.fn c.fn).cqWaits.contains c = false) ∧
    (∃ (s : State) (c : CmdId) (x : Cmd) (st : Nat) (k : Cq) (h : Bool), s.live = true ∧ s.cmd? c = some x ∧
      x.status = some st ∧ lookupKey (s.cqOf c) (s.fn c.fn).cqs = some k ∧
      (s.internBusy (fun _ x => x == some c) = false) ∧ (h = true ∨ s.dmaOk c.fn = false ∨ (s.fn c.fn).life = .flr)) ∧
    (∃ (s : State) (f n : Nat), s.live = true ∧ (s.fn f).timerAt = some n ∧ n + (s.fn f).holdoffUs * 500 ≤ s.now) ∧
    (∃ (s : State) (f v : Nat), s.live = true) ∧
    (∃ (s : State) (f : Nat), s.live = true) :=
  ⟨⟨wCmd, { fn := 1, qid := 1, cid := 7 }, .fetch, 624, 1,
    { id := { fn := 1, qid := 1, cid := 7 }, op := 1, bounded := true, toFetch := 1 },
    { cmd := { fn := 1, qid := 1, cid := 7 }, kind := .fetch, lane := 624, start := 0, stop := 0, units := 1, owned := false, fn := 1 },
    (624, { start := 5, stop := 15, slot := { start := 5, len := 10, kind := 7, owner := 0, param := 4 } }), by
    decide⟩,
   ⟨wCmdFree, { fn := 1, qid := 1, cid := 7 }, .fetch, 624, 1,
    { id := { fn := 1, qid := 1, cid := 7 }, op := 1, toFetch := 1 },
    { cmd := { fn := 1, qid := 1, cid := 7 }, kind := .fetch, lane := 624, start := 0, stop := 0, units := 1, owned := false, fn := 1 },
    (624, { start := 20, stop := 30, slot := { start := 20, len := 10, kind := 7, param := 4, lend := true } }), by
    decide⟩,
   ⟨wCmdFree, { fn := 1, qid := 1, cid := 7 }, .fetch, 625, 1,
    { id := { fn := 1, qid := 1, cid := 7 }, op := 1, toFetch := 1 },
    { cmd := { fn := 1, qid := 1, cid := 7 }, kind := .fetch, lane := 625, start := 0, stop := 0, units := 1, owned := false, fn := 1 },
    by decide⟩,
   ⟨wOwned, 640, false, { start := 0, stop := 4, slot := { start := 0, len := 4, kind := 9, owner := 0, param := 4 } },
    by decide⟩,
   ⟨wSlots, 3, false, { start := 0, stop := 4, slot := { start := 0, len := 4, kind := 6, param := 1, lend := true } },
    by decide⟩,
   ⟨wSlots, 640, false, { start := 0, stop := 4, slot := { start := 0, len := 4, kind := 9, owner := 0, param := 4 } },
    by decide⟩,
   ⟨wHeldLane, 3, false,
    { start := 0, stop := 4, slot := { start := 0, len := 4, kind := 6, param := 1, lend := true } }, by decide⟩,
   ⟨wSlots, 640, true, by decide⟩,
   ⟨wEnd, 3, { start := 0, stop := 4, slot := { start := 0, len := 4, kind := 6, param := 1, lend := true } },
    { kind := 2, work := .prog 4, start := 0, worst := 10, slotEnd := 4 }, by decide⟩,
   ⟨wCq, { fn := 1, qid := 1, cid := 7 }, { id := { fn := 1, qid := 1, cid := 7 }, op := 2, status := some 0 }, 0,
    { base := 0, size := 2, vector := 1, ien := true }, by decide⟩,
   ⟨wCqFull, { fn := 1, qid := 1, cid := 7 }, { id := { fn := 1, qid := 1, cid := 7 }, op := 2, status := some 0 }, 0,
    { base := 0, size := 2, vector := 1, ien := true, used := 1 }, by decide⟩,
   ⟨wCq, { fn := 1, qid := 1, cid := 7 }, { id := { fn := 1, qid := 1, cid := 7 }, op := 2, status := some 0 }, 0,
    { base := 0, size := 2, vector := 1, ien := true }, true, by decide⟩,
   ⟨(State.reset.updFn 1 fun y => { y with timerAt := some 0, pendCnt := Tab.set ({} : NatTab) 2 1 }), 1, 0, by decide⟩,
   ⟨State.reset, 1, 2, by decide⟩,
   ⟨(State.reset.updFn 1 fun y => { y with fmask := true }), 1, by decide⟩⟩

theorem witness_channelsAndDies :
    (∃ (s : State) (n ch : Nat), s.live = true ∧ n < 6 ∧ ch < 32 ∧ (s.chState ch = 3 ∨ s.chState ch = 4)) ∧
    (∃ (s : State) (n ch : Nat), s.live = true ∧ n < 6 ∧ ch < 32 ∧ (s.chState ch = 3 ∨ s.chState ch = 4)) ∧
    (∃ (s : State) (ch : Nat) (f : BringupFacts), s.live = true ∧ ch < 32 ∧ s.chState ch = 1) ∧
    (∃ (s : State) (ch : Nat) (f : BringupFacts), s.live = true ∧ ch < 32 ∧ s.chState ch = 1) ∧
    (∃ (s : State) (n ch : Nat), s.live = true ∧ n < 6 ∧ ch < 32 ∧ (s.chState ch = 1 ∨ s.chState ch = 2)) ∧
    (∃ (s : State) (n ch : Nat), s.live = true ∧ n < 6 ∧ ch < 32 ∧ (s.chState ch = 1 ∨ s.chState ch = 2)) ∧
    (∃ (s : State) (ch : Nat), s.live = true ∧ ch < 32 ∧ s.retrainDue ch = true) ∧
    (∃ (s : State) (ch : Nat), s.live = true ∧ ch < 32 ∧ s.retrainDue ch = true ∧ s.mch.retrain.get ch = 0) ∧
    (∃ (s : State) (ch : Nat), s.live = true ∧ ch < 32 ∧ s.retrainDue ch = true ∧ 1 ≤ s.mch.retrain.get ch) ∧
    (∃ (s : State) (ch g l : Nat), s.live = true ∧ l < 4 ∧ (s.die (ch * 16 + g * 4 + l)).run.isSome = true) ∧
    (∃ (s : State) (lane : Nat) (r : Bool) (op : DieOp), s.live = true ∧ (s.die lane).run = some op ∧ op.pollAt ≤ s.now) ∧
    (∃ (s : State) (lane d : Nat) (r : OpResult) (op : DieOp), s.live = true ∧ (s.die lane).run = some op) ∧
    (∃ (s : State) (lane d : Nat) (r : OpResult) (op : DieOp), s.live = true ∧ (s.die lane).run = some op) ∧
    (∃ (s : State) (lane : Nat) (op : DieOp), s.live = true ∧ lane < 512 ∧ (s.die lane).run = some op ∧
      s.chUp (lane / 16) = true ∧ op.start + 2 * op.worst ≤ s.now) ∧
    (∃ (s : State) (lane : Nat) (p : ProgUnit), s.live = true ∧
      (s.wrp.progs.find? (fun p => p.lane == lane && p.started) = some p)) ∧
    (∃ (s : State) (lane : Nat) (p : ProgUnit), s.live = true ∧ lane < 512 ∧
      (s.wrp.progs.find? (fun p => p.lane == lane && p.started) = some p) ∧ p.lane = lane ∧ s.dieUsable lane = true) ∧
    (∃ (s : State) (lane : Nat) (v : Int), s.live = true ∧ lane < 512 ∧ s.tempDue lane = true) :=
  ⟨⟨(wChUp.setNum (Reg.mchChStatus 31) 4), 0, 31, by decide⟩,
   ⟨(wChUp.setNum (Reg.mchChStatus 31) 3), 0, 31, by decide⟩,
   ⟨(wChUp.setNum (Reg.mchChStatus 31) 1), 31,
    { notReady := none, ids := [], lunCounts := [], trainFail := none, verifyFail := none }, by decide⟩,
   ⟨({ (wChUp.setNum (Reg.mchChStatus 31) 1) with mch := { wChUp.mch with profile := some {} } }), 31,
    { notReady := none, ids := [], lunCounts := [], trainFail := none, verifyFail := none }, by decide⟩,
   ⟨wChUp, 5, 0, by decide⟩,
   ⟨(wChUp.setNum (Reg.mchChStatus 31) 1), 5, 31, by decide⟩,
   ⟨wIdle, 0, by decide⟩,
   ⟨wIdle, 0, by decide⟩,
   ⟨({ wIdle with mch := { wIdle.mch with retrain := Tab.set ({} : NatTab) 0 1 } }), 0, by decide⟩,
   ⟨wBusy, 0, 0, 3, by decide⟩,
   ⟨wBusy, 3, true, { kind := 2, work := .prog 4, start := 0, worst := 10, slotEnd := 4 }, by decide⟩,
   ⟨wBusy, 3, 21, .pass, { kind := 2, work := .prog 4, start := 0, worst := 10, slotEnd := 4 }, by decide⟩,
   ⟨wBusy, 3, 20, .fail, { kind := 2, work := .prog 4, start := 0, worst := 10, slotEnd := 4 }, by decide⟩,
   ⟨({ wChUp with ftb := { wChUp.ftb with tick := 20, clock := 20 } }), 3,
    { kind := 2, work := .prog 4, start := 0, worst := 10, slotEnd := 4 }, by decide⟩,
   ⟨({ wChUp with wrp := { wChUp.wrp with progs := [{ pid := 1, lane := 3, units := [], started := true }] } }), 3,
    { pid := 1, lane := 3, units := [], started := true }, by decide⟩,
   ⟨({ wChUp with wrp := { wChUp.wrp with progs := [{ pid := 1, lane := 3, units := [], started := true }] } }), 3,
    { pid := 1, lane := 3, units := [], started := true }, by decide⟩,
   ⟨wIdle, 3, (-5), by decide⟩⟩

theorem witness_readPath :
    (∃ (s : State) (r : AreadReq), s.live = true ∧ (s.ns r.nsid).present = true ∧ (s.ns r.nsid).paired = true ∧
      (s.variant = 0 ∨ s.variant = 2) ∧
      (s.resolve r.nsid (r.index * (s.ns r.nsid).parts + r.part) = .unmapped ∨ s.resolve r.nsid (r.index * (s.ns
      r.nsid).parts + r.part) = .zero)) ∧
    (∃ (s : State) (r : AreadReq) (loc : Nat), s.live = true ∧ (s.ns r.nsid).present = true ∧
      (s.ns r.nsid).paired = true ∧ (s.variant = 0 ∨ s.variant = 2) ∧
      s.resolve r.nsid (r.index * (s.ns r.nsid).parts + r.part) = .media loc ∧ s.dieUsable (locLane loc) = true ∧
      r.rescue = false) ∧
    (∃ (s : State) (r : AreadReq), s.live = true ∧
      ((s.ns r.nsid).present = false ∨ (s.ns r.nsid).paired = false ∨ s.variant = 1 ∨ s.variant = 3)) ∧
    (∃ (s : State) (tag st : Nat), s.live = true ∧ s.rdp.sent.find? (·.tag == tag) = none) ∧
    (∃ (s : State) (tag st : Nat) (a : Around) (r : RUnit) (soft : Bool), s.live = true ∧
      s.rdp.sent.find? (·.tag == tag) = some a ∧ s.unit? a.cmd a.unit = some r ∧ r.phase = .around tag soft ∧ st ≤ 1) ∧
    (∃ (s : State) (tag st : Nat) (a : Around) (r : RUnit) (soft : Bool), s.live = true ∧
      s.rdp.sent.find? (·.tag == tag) = some a ∧ s.unit? a.cmd a.unit = some r ∧ r.phase = .around tag soft ∧ st ≤ 1) ∧
    (∃ (s : State) (tag : Nat) (a : Around) (n : Nat), s.live = true ∧ s.rdp.sent.find? (·.tag == tag) = some a ∧
      a.soft = false ∧ a.fallback = false ∧ a.sentAt = some n ∧ n + s.aroundTicks ≤ s.now) ∧
    (∃ (s : State) (c : CmdId) (n : Nat) (b : Bool) (x : Cmd), s.live = true ∧ s.cmd? c = some x ∧ x.admin = false ∧
      isReadOp x.op = true ∧ x.looked = false ∧ x.status = none ∧ s.admitting = true ∧ s.listing x = false) ∧
    (∃ (s : State) (c : CmdId) (u n : Nat) (q : RUnit) (g : Leg), s.live = true ∧ s.unit? c u = some q ∧
      q.phase = .media .own ∧ s.leg? (.unit c u none) = some g ∧ s.decodes g false = true ∧ s.prx.lateSlots = []) ∧
    (∃ (s : State) (tag n : Nat) (v : Serve), s.live = true ∧ s.rdp.serving.find? (·.req.tag == tag) = some v ∧
      s.decodes v.leg false = true ∧ s.prx.lateSlots = []) ∧
    (∃ (s : State) (tag n : Nat) (v : Serve), s.live = true ∧ s.rdp.serving.find? (·.req.tag == tag) = some v ∧
      s.decodes v.leg true = true ∧ v.leg.passes + 1 < s.softPasses ∧ s.prx.lateSlots = []) ∧
    (∃ (s : State) (c : CmdId) (u n : Nat) (q : RUnit) (g : Leg), s.live = true ∧ s.unit? c u = some q ∧
      q.phase = .media .own ∧ s.leg? (.unit c u none) = some g ∧ s.decodes g true = true ∧ s.prx.lateSlots = []) ∧
    (∃ (s : State) (tag n : Nat) (v : Serve), s.live = true ∧ s.rdp.serving.find? (·.req.tag == tag) = some v ∧
      s.decodes v.leg true = true ∧ s.prx.lateSlots = []) :=
  ⟨⟨wNs, { nsid := 1, index := 0, part := 0, group := 0, tag := 4, rescue := false, soft := true, bestEffort := false },
    by decide⟩,
   ⟨wNsMedia,
    { nsid := 1, index := 0, part := 0, group := 0, tag := 4, rescue := false, soft := true, bestEffort := false },
    0, by decide⟩,
   ⟨wTen,
    { nsid := 1, index := 0, part := 0, group := 0, tag := 4, rescue := false, soft := true, bestEffort := false },
    by decide⟩,
   ⟨wAround, 8, 0, by decide⟩,
   ⟨wAround, 9, 0,
    { tag := 9, cmd := { fn := 1, qid := 1, cid := 7 }, unit := 0, soft := false, rescue := false, sentAt := some 0 },
    { unit := 0, home := 3, loc := none, phase := .around 9 false }, false, by decide⟩,
   ⟨wAround, 9, 1,
    { tag := 9, cmd := { fn := 1, qid := 1, cid := 7 }, unit := 0, soft := false, rescue := false, sentAt := some 0 },
    { unit := 0, home := 3, loc := none, phase := .around 9 false }, false, by decide⟩,
   ⟨wAround, 9,
    { tag := 9, cmd := { fn := 1, qid := 1, cid := 7 }, unit := 0, soft := false, rescue := false, sentAt := some 0 },
    0, by decide⟩,
   ⟨wRead, { fn := 1, qid := 1, cid := 7 }, 3, false,
    { id := { fn := 1, qid := 1, cid := 7 }, op := 2, nsid := 1, count := 1 }, by decide⟩,
   ⟨wDecode, { fn := 1, qid := 1, cid := 7 }, 0, 5,
    { unit := 0, home := 0, loc := some 0, phase := .media .own, legs := [{ loc := 0, at_ := .decoding }] },
    { loc := 0, at_ := .decoding }, by decide⟩,
   ⟨wServe, 4, 5,
    { req := { nsid := 1, index := 0, part := 0, group := 0, tag := 4, rescue := false, soft := true, bestEffort := false }, leg := { loc := 0, at_ := .decoding } },
    by decide⟩,
   ⟨wServeS, 4, 5,
    { req := { nsid := 1, index := 0, part := 0, group := 0, tag := 4, rescue := false, soft := true, bestEffort := false }, leg := { loc := 0, at_ := .decoding, soft := true, reads := 3 } },
    by decide⟩,
   ⟨wSoft, { fn := 1, qid := 1, cid := 7 }, 0, 5,
    { unit := 0, home := 0, loc := some 0, phase := .media .own, legs := [{ loc := 0, at_ := .decoding, soft := true, reads := 3 }], stage := 3 },
    { loc := 0, at_ := .decoding, soft := true, reads := 3 }, by decide⟩,
   ⟨wServeS, 4, 5,
    { req := { nsid := 1, index := 0, part := 0, group := 0, tag := 4, rescue := false, soft := true, bestEffort := false }, leg := { loc := 0, at_ := .decoding, soft := true, reads := 3 } },
    by decide⟩⟩

theorem witness_writesAndDump :
    (∃ (s : State) (c : CmdId) (x : Cmd), s.live = true ∧ s.cmd? c = some x ∧ x.filling = true ∧ x.toEnc = 0 ∧
      s.fetching x = false ∧
      ((s.wrp.writes.filter (fun w => w.state == .filling && x.wids.contains w.wid)).all (·.legs.isEmpty) = true)) ∧
    (∃ (s : State) (w : Nat), s.live = true ∧ s.cmds.any (·.held) = false ∧ s.rdp.repairs = [] ∧
      s.wrp.writes.all (·.due.isEmpty) = true) ∧
    (∃ (s : State) (k : Nat) (q : Stripe), s.live = true ∧ s.wrp.stripes.find? (·.sid == k) = some q ∧
      q.opened + max 1 (s.field Reg.wrpStripeTmo 0 16) ≤ s.frame ∧ q.members.any (!·.2.isEmpty) = true) ∧
    (∃ (s : State), s.live = true) ∧
    (∃ (s : State), s.live = true) ∧
    (∃ (s : State) (g : Nat), s.live = true ∧ (lookupKey g s.wrp.dirty).isSome = true ∧
      s.wrp.ckpts.any (·.seg == g) = false) ∧
    (∃ (s : State) (n : Nat), s.live = true ∧ n < 6 ∧ s.wrp.ckpts = []) ∧
    (∃ (s : State) (v : BitVec 12), s.pwr.supply = .on ∧ s.pwr.stop ≠ .dump ∧ s.bit Reg.wrpDumpCtl 0 = false) ∧
    (∃ (s : State) (v : BitVec 12), s.pwr.supply = .on ∧ s.pwr.stop ≠ .dump ∧ s.bit Reg.wrpDumpCtl 0 = false) ∧
    (∃ (s : State) (v : BitVec 12), s.pwr.supply = .on ∧ s.pwr.stop ≠ .dump ∧ s.wrp.dumped = false ∧
      s.bit Reg.wrpDumpCtl 0 = true ∧ s.wrp.senseLow = true ∧ v.toNat < s.field Reg.wrpHoldupCtl 16 12) ∧
    (∃ (s : State), s.pwr.supply = .on ∧ s.pwr.stop ≠ .dump ∧ s.wrp.dumped = false) ∧
    (∃ (s : State), s.pwr.stop = .dump ∧ s.bit Reg.wrpStatus 4 = true) :=
  ⟨⟨wFill, { fn := 1, qid := 1, cid := 7 },
    { id := { fn := 1, qid := 1, cid := 7 }, op := 1, nsid := 1, count := 1, filling := true, wids := [3] }, by
    decide⟩,
   ⟨wVer, 3, by decide⟩,
   ⟨wStripe, 2, { sid := 2, opened := 0, parityLane := 5, members := [(3, [(1, 0)]), (5, [])] }, by decide⟩,
   ⟨wFill, by decide⟩,
   ⟨(wFill.setBit Reg.wrpStatus 2 true), by decide⟩,
   ⟨wDirty, 9, by decide⟩,
   ⟨wDirty, 0, by decide⟩,
   ⟨((wOn.setNum Reg.wrpHoldupCtl 0x08000900).setBit Reg.wrpDumpCtl 0 false), 0x7FF#12, by decide⟩,
   ⟨((wOn.setNum Reg.wrpHoldupCtl 0x08000900).setBit Reg.wrpDumpCtl 0 false), 0x800#12, by decide⟩,
   ⟨({ (wOn.setNum Reg.wrpHoldupCtl 0x08000900).setBit Reg.wrpDumpCtl 0 true with wrp := { wOn.wrp with senseLow := true } }),
    0x7FF#12, by decide⟩,
   ⟨wOn, by decide⟩,
   ⟨wDump, by decide⟩⟩

theorem witness_careAndTests :
    (∃ (s : State) (f : Nat), s.live = true ∧ s.mcr.baseAt = some f ∧ s.mcr.stage = 2 ∧ s.inRun = true ∧
      f + 1000 ≤ s.frame) ∧
    (∃ (s : State) (lane : Nat), s.live = true ∧ s.populatedLane lane = true ∧ s.dieUsable lane = true ∧
      (s.die lane).scrubDone = false ∧ (s.die lane).scrubLate = false ∧
      (s.die lane).scrubFrom + s.scrubFrames ≤ s.frame) ∧
    (∃ (s : State) (lane g : Nat) (best : List Int), s.live = true ∧ (s.calBlock lane g).isSome = true ∧
      s.calDue lane g = true) ∧
    (∃ (s : State) (p : Nat), s.live = true ∧
      (s.mcr.eolDue = true ∨ s.mcr.dayAt.all (fun f => decide (f + 86400000 ≤ s.frame)) = true)) ∧
    (∃ (s : State) (b : Requester) (v : Word) (k : Nat), s.live = true ∧
      ((match b with | .pf0 => true | .core n => decide (n < 6)) = true) ∧ s.testRunning = some k ∧
      isTest (wordField v 0 5) = true) ∧
    (∃ (s : State) (b : Requester) (v : Word) (k : Nat), s.live = true ∧
      ((match b with | .pf0 => true | .core n => decide (n < 6)) = true) ∧ s.testRunning = some k ∧
      isTest (wordField v 0 5) = true) ∧
    (∃ (s : State) (b : Requester) (v : Word), s.live = true ∧
      ((match b with | .pf0 => true | .core n => decide (n < 6)) = true) ∧ s.testRunning = none ∧
      isTest (wordField v 0 5) = true ∧ (parkOnlyTest (wordField v 0 5) = true → s.inRun = false ∧
      s.bit Reg.prxStatus 5 = false) ∧ (wordField v 0 5 = 8 → s.bit Reg.prxStatus 4 = false) ∧ (wordField v 0 5 = 5 →
      s.holdupReady = true) ∧ (s.populatedLane (wordField v 16 9) = true ∨ wordField v 16 9 = 0x1FF)) ∧
    (∃ (s : State) (b : Requester) (v : Word), s.live = true ∧
      ((match b with | .pf0 => true | .core n => decide (n < 6)) = true) ∧ s.testRunning = none ∧
      isTest (wordField v 0 5) = true ∧ (parkOnlyTest (wordField v 0 5) = true → s.inRun = false ∧
      s.bit Reg.prxStatus 5 = false) ∧ (wordField v 0 5 = 8 → s.bit Reg.prxStatus 4 = false) ∧ (wordField v 0 5 = 5 →
      s.holdupReady = true) ∧ (s.populatedLane (wordField v 16 9) = true ∨ wordField v 16 9 = 0x1FF)) ∧
    (∃ (s : State) (b : Requester) (k : Nat), s.live = true ∧
      ((match b with | .pf0 => true | .core n => decide (n < 6)) = true) ∧ s.testRunning = some k ∧
      parkOnlyTest k = false ∧ s.testInSlot k = false) ∧
    (∃ (s : State) (b : Requester) (k : Nat), s.live = true ∧
      ((match b with | .pf0 => true | .core n => decide (n < 6)) = true) ∧ s.testRunning = some k ∧
      parkOnlyTest k = false ∧ s.testInSlot k = true) ∧
    (∃ (s : State) (b : Requester) (k : Nat), s.live = true ∧
      ((match b with | .pf0 => true | .core n => decide (n < 6)) = true) ∧ s.testRunning = some k ∧
      parkOnlyTest k = true) ∧
    (∃ (s : State) (e k : Nat), s.live = true ∧ s.testRunning = some k ∧ k ≠ 4 ∧ s.testGoesOn k = false) ∧
    (∃ (s : State) (e k : Nat), s.live = true ∧ s.testRunning = some k ∧ k ≠ 4 ∧ s.testGoesOn k = false) ∧
    (∃ (s : State) (e : Nat), s.live = true ∧ s.testRunning = some 4 ∧ s.testGoesOn 4 = false) ∧
    (∃ (s : State) (f : Nat), s.live = true ∧ s.testRunning = none ∧ s.mcr.holdupRun = none ∧ s.holdupReady = true ∧
      ((s.mcr.holdupEnd.orElse fun _ => s.mcr.claimedAt) = some f) ∧
      (f + (if s.mcr.holdupBad then 86400000 else s.field Reg.mcrHoldupTest 16 8 * 86400000) ≤ s.frame) ∧
      (s.mcr.holdupTry.all (fun g => decide (g + 3600000 ≤ s.frame)) = true)) ∧
    (∃ (s : State) (us e c : Nat), s.live = true ∧ s.mcr.holdupRun = some c ∧ s.discharged c us e = true) :=
  ⟨⟨wGc, 0, by decide⟩,
   ⟨wLate, 3, by decide⟩,
   ⟨wCal, 3, 0, [1, 2], by decide⟩,
   ⟨State.reset, 7, by decide⟩,
   ⟨wTest, .core 5, 0x2#32, 4, by decide⟩,
   ⟨wTest, .pf0, 0x3#32, 4, by decide⟩,
   ⟨State.reset, .core 5, 0x1FF0002#32, by decide⟩,
   ⟨State.reset, .pf0, 0x1FF0009#32, by decide⟩,
   ⟨wTest, .core 5, 4, by decide⟩,
   ⟨({ (wSlots.updDie 3 fun d => { d with run := some { kind := 1, work := .care 10 0, start := 0, worst := 1, slotEnd := 4 } }) with mcr := { wSlots.mcr with testRun := some 1 }, pwr := { wSlots.pwr with desc := some wDesc } }),
    .pf0, 1, by decide⟩,
   ⟨({ wTest with mcr := { wTest.mcr with testRun := some 9 } }), .core 5, 9, by decide⟩,
   ⟨wTest2, 0, 2, by decide⟩,
   ⟨wTest2, 7, 2, by decide⟩,
   ⟨wTest, 0, by decide⟩,
   ⟨wDue, 0, by decide⟩,
   ⟨wHold, 100000, 100, 4000, by decide⟩⟩

theorem witness_hostLink :
    (∃ (s : State) (v w : Nat) (fl rv : Bool), s.live = true ∧ s.pwr.perst = false ∧ s.dlUp = false) ∧
    (∃ (s : State) (v w : Nat) (fl rv : Bool), s.live = true ∧ s.pwr.perst = false ∧ s.dlUp = false) ∧
    (∃ (s : State), s.live = true ∧ s.dlUp = true ∧ s.containState ≠ 1) ∧
    (∃ (s : State) (k : DlDownCause), s.live = true ∧ s.dlUp = true ∧ k ≠ .other) ∧
    (∃ (s : State) (k : DlDownCause), s.live = true ∧ s.dlUp = true ∧ k ≠ .other) ∧
    (∃ (s : State) (k : DlDownCause), s.live = true ∧ s.dlUp = false) ∧
    (∃ (s : State), s.live = true ∧ s.dlUp = true ∧ s.bit Reg.hptStatus 8 = true) ∧
    (∃ (s : State) (v w : Nat), s.live = true ∧ s.dlUp = true) ∧
    (∃ (s : State) (v w : Nat), s.live = true ∧ s.dlUp = true) ∧
    (∃ (s : State) (n : Nat), s.live = true ∧ s.dlUp = true ∧ s.inL1 = false ∧ ((s.fn 0).cfg.get 0x70).getLsbD 1 = true ∧
      s.boundedOut = false ∧ s.hpt.np = [] ∧ s.hpt.tlpAt + max 1 (s.field Reg.hptPmCtl 0 8) * 500 ≤ s.now) ∧
    (∃ (s : State), s.live = true ∧ s.inL1 = true) ∧
    (∃ (s : State) (w : Nat), s.live = true ∧ s.dlUp = true ∧ s.bit Reg.hptStatus 8 = true ∧ 1 ≤ w ∧ w ≤ s.linkWidth) ∧
    (∃ (s : State) (w : Nat), s.live = true ∧ s.dlUp = true ∧ s.bit Reg.hptStatus 8 = true ∧ 1 ≤ w ∧ w ≤ s.linkWidth) ∧
    (∃ (s : State), s.live = true ∧ s.dlUp = true ∧ s.bit Reg.hptStatus 8 = true ∧ s.bit Reg.hptPmCtl 8 = true ∧
      s.boundedOut = false ∧ s.hpt.rwAt + max 1 (s.field Reg.hptPmCtl 16 8) ≤ s.frame ∧
      s.l0pWidth < s.field Reg.hptStatus 10 5) ∧
    (∃ (s : State) (n : Nat), s.live = true ∧ n < 6 ∧ s.containState = 0) ∧
    (∃ (s : State), s.live = true ∧ s.containState = 1 ∧ s.dlUp = true ∧ s.bit Reg.hptContainStatus 3 = false) ∧
    (∃ (s : State), s.live = true ∧ s.containState = 2) ∧
    (∃ (s : State), s.live = true ∧ s.containState = 0 ∧ s.hpt.attnAt = none ∧ s.field Reg.sppAttnTmo 0 16 ≠ 0) ∧
    (∃ (s : State), s.live = true) ∧
    (∃ (s : State) (n : Nat), s.live = true ∧ s.hpt.attnAt = some n ∧ n + s.field Reg.sppAttnTmo 0 16 * 500000 ≤ s.now ∧
      s.bit Reg.sppCtl 4 = true ∧ s.bit Reg.sppStatus 3 = false) ∧
    (∃ (s : State), s.live = true ∧ s.bit Reg.sppStatus 3 = true ∧ s.destaged = true ∧ s.bit Reg.sppStatus 2 = false) ∧
    (∃ (s : State), s.live = true) ∧
    (∃ (s : State), s.live = true ∧ s.containState = 0) :=
  ⟨⟨({ State.reset with pwr := { State.reset.pwr with perst := false } }), 5, 8, true, false, by decide⟩,
   ⟨({ State.reset with pwr := { State.reset.pwr with perst := false } }), 6, 4, false, true, by decide⟩,
   ⟨wUp, by decide⟩,
   ⟨wUp, .hotReset, by decide⟩,
   ⟨wUp, .l2, by decide⟩,
   ⟨State.reset, .other, by decide⟩,
   ⟨wUp, by decide⟩,
   ⟨wUp, 5, 4, by decide⟩,
   ⟨wUp, 6, 8, by decide⟩,
   ⟨wL1, 1, by decide⟩,
   ⟨(wUp.setBit Reg.hptStatus 15 true), by decide⟩,
   ⟨wUp, 8, by decide⟩,
   ⟨wUp, 1, by decide⟩,
   ⟨(({ wUp with ftb := { wUp.ftb with frame := 1000 } }).setNum Reg.hptPmCtl 0x700), by decide⟩,
   ⟨wNp, 0, by decide⟩,
   ⟨wCont, by decide⟩,
   ⟨(wUp.setField Reg.hptContainStatus 0 2 2), by decide⟩,
   ⟨wUp, by decide⟩,
   ⟨wAttn, by decide⟩,
   ⟨wAttn, 0, by decide⟩,
   ⟨wFall, by decide⟩,
   ⟨wUp, by decide⟩,
   ⟨wUp, by decide⟩⟩

theorem witness_hostRequests :
    (∃ (s : State) (k : Cpl) (r : Np) (c : CmdId), s.live = true ∧ k.malformed = false ∧ k.poisoned = false ∧
      k.success = true ∧ s.hpt.np.find? (·.tag == k.tag) = some r ∧ r.kind = .data c ∧ s.inRun = true ∧
      s.prx.lateSlots = []) ∧
    (∃ (s : State) (k : Cpl) (r : Np) (f q : Nat) (x : Sq), s.live = true ∧ k.malformed = false ∧ k.poisoned = false ∧
      k.success = true ∧ s.hpt.np.find? (·.tag == k.tag) = some r ∧ r.kind = .fetch f q ∧
      lookupKey q (s.fn f).sqs = some x ∧ s.inRun = true ∧ s.prx.lateSlots = []) ∧
    (∃ (s : State) (k : Cpl), s.live = true ∧ k.malformed = true ∧ s.prx.lateSlots = []) ∧
    (∃ (s : State) (k : Cpl), s.live = true ∧ k.malformed = false ∧ s.hpt.np.find? (·.tag == k.tag) = none ∧
      s.prx.lateSlots = []) ∧
    (∃ (s : State) (k : Cpl), s.live = true ∧ k.malformed = false ∧ s.hpt.np.find? (·.tag == k.tag) = none ∧
      s.prx.lateSlots = []) ∧
    (∃ (s : State) (tag : Nat) (r : Np) (n : Nat) (c : CmdId), s.live = true ∧ s.hpt.np.find? (·.tag == tag) = some r ∧
      s.cplTimer = some n ∧ r.at_ + n ≤ s.now ∧ r.kind = .data c ∧ s.prx.lateSlots = []) ∧
    (∃ (s : State) (tag : Nat), s.live = true) ∧
    (∃ (s : State) (f p : Nat), s.live = true ∧ (s.fn f).ats = true ∧ s.hpt.xreqs.contains (f, p) = true ∧ s.inRun = true) ∧
    (∃ (s : State) (f p : Nat) (x d : Bool), s.live = true ∧ (x = true ∨ d = true) ∧ (s.fn f).ats = true ∧
      s.hpt.xreqs.contains (f, p) = true) ∧
    (∃ (s : State) (f p : Nat) (x d : Bool), s.live = true ∧ (x = true ∨ d = true) ∧ (s.fn f).ats = true ∧
      s.hpt.xreqs.contains (f, p) = true) ∧
    (∃ (s : State) (f p : Nat) (x d : Bool), s.live = true ∧ s.hpt.xreqs.contains (f, p) = false) ∧
    (∃ (s : State) (f b n : Nat) (l : List Nat), s.live = true) ∧
    (∃ (s : State) (f k : Nat) (i : Inval) (r : Np) (c : CmdId), s.live = true ∧
      (s.hpt.inval.filter (·.fn == f))[k]? = some i ∧ i.at_ + 450000 ≤ s.now ∧ s.hpt.np = [r] ∧ r.kind = .data c ∧
      i.covers r = true ∧ s.prx.lateSlots = []) ∧
    (∃ (s : State) (f : Nat) (i : Inval), s.live = true ∧ s.hpt.inval.find? (·.fn == f) = some i ∧
      s.hpt.np.any i.covers = false) ∧
    (∃ (s : State) (k n : Nat) (x : Option Nat), s.live = true ∧ s.hpt.doe = none ∧ 1 ≤ k ∧ k ≤ 2 ∧ n ≤ 16384) ∧
    (∃ (s : State) (k n : Nat) (x : Option Nat), s.live = true ∧ s.hpt.doe = none ∧ 1 ≤ k ∧ k ≤ 2 ∧ n ≤ 16384) ∧
    (∃ (s : State) (n : Nat) (x : Option Nat), s.live = true ∧ s.hpt.doe = none ∧ n ≤ 16384) ∧
    (∃ (s : State) (v k n : Nat) (x : Option Nat), s.live = true ∧ s.hpt.doe = none ∧ (v ≠ 1 ∨ 2 < k ∨ 16384 < n)) ∧
    (∃ (s : State) (v k n : Nat) (x : Option Nat), s.live = true ∧ s.hpt.doe = none ∧ (v ≠ 1 ∨ 2 < k ∨ 16384 < n)) ∧
    (∃ (s : State), s.live = true) :=
  ⟨⟨wNpRun, { tag := 5, success := true, poisoned := false, malformed := false },
    { tag := 5, fn := 1, kind := .data { fn := 1, qid := 1, cid := 7 }, at_ := 0 }, { fn := 1, qid := 1, cid := 7 },
    by decide⟩,
   ⟨wNpFetch, { tag := 6, success := true, poisoned := false, malformed := false },
    { tag := 6, fn := 1, kind := .fetch 1 2, at_ := 0, part := 3 }, 1, 2, { base := 4096, size := 16, cqid := 1 }, by
    decide⟩,
   ⟨wNp, { tag := 5, success := true, poisoned := false, malformed := true }, by decide⟩,
   ⟨wNp, { tag := 6, success := true, poisoned := false, malformed := false }, by decide⟩,
   ⟨wQuar, { tag := 5, success := true, poisoned := false, malformed := false }, by decide⟩,
   ⟨wNp, 5, { tag := 5, fn := 1, kind := .data { fn := 1, qid := 1, cid := 7 }, at_ := 0 }, 20000000,
    { fn := 1, qid := 1, cid := 7 }, by decide⟩,
   ⟨wQuar, 5, by decide⟩,
   ⟨(wAts.setNum Reg.prxStatus 1), 1, 77, by decide⟩,
   ⟨wAts, 1, 77, true, false, by decide⟩,
   ⟨wAts, 1, 77, false, true, by decide⟩,
   ⟨wAts, 1, 78, false, false, by decide⟩,
   ⟨({ wUp with hpt := { wUp.hpt with atc := [(1, 4), (1, 5)] } }), 1, 5, 1, [3], by decide⟩,
   ⟨wNp, 1, 0, { fn := 1, at_ := 0, tags := [5] },
    { tag := 5, fn := 1, kind := .data { fn := 1, qid := 1, cid := 7 }, at_ := 0 }, { fn := 1, qid := 1, cid := 7 },
    by decide⟩,
   ⟨({ wNp with hpt := { wNp.hpt with np := [] } }), 1, { fn := 1, at_ := 0, tags := [5] }, by decide⟩,
   ⟨wUp, 1, 16384, none, by decide⟩,
   ⟨wUp, 2, 0, some 1, by decide⟩,
   ⟨wUp, 0, none, by decide⟩,
   ⟨wUp, 1, 1, 16385, none, by decide⟩,
   ⟨wUp, 1, 3, 0, none, by decide⟩,
   ⟨({ wUp with hpt := { wUp.hpt with doe := some (1, none), doeErr := true } }), by decide⟩⟩

theorem witness_queuesAndDoorbells :
    (∃ (s : State) (f q v : Nat) (x : Sq), s.live = true ∧ s.portNormal = true ∧ s.memOk f = true ∧ s.sq? f q = some x ∧
      v < x.size) ∧
    (∃ (s : State) (f q v : Nat) (x : Sq), s.live = true ∧ s.portNormal = true ∧ s.memOk f = true ∧ s.sq? f q = some x ∧
      v < x.size) ∧
    (∃ (s : State) (f q v : Nat) (x : Sq), s.live = true ∧ s.portNormal = true ∧ s.memOk f = true ∧ s.sq? f q = some x ∧
      x.size ≤ v) ∧
    (∃ (s : State) (f q v : Nat), s.live = true ∧ s.portNormal = true ∧ s.memOk f = true ∧ s.sq? f q = none) ∧
    (∃ (s : State) (f q v : Nat) (k : Cq), s.live = true ∧ s.portNormal = true ∧ s.memOk f = true ∧ s.cq? f q = some k ∧
      v < k.size ∧ (v + k.size - k.head) % k.size ≤ k.used) ∧
    (∃ (s : State) (f q v : Nat) (k : Cq), s.live = true ∧ s.portNormal = true ∧ s.memOk f = true ∧ s.cq? f q = some k ∧
      (k.size ≤ v ∨ k.used < (v + k.size - k.head) % k.size)) ∧
    (∃ (s : State) (q : Sqe) (k : Nat), s.live = true ∧ s.takes q true = true ∧ wordField q.cdw10 0 16 = k ∧ k ≠ 0 ∧
      k ≤ s.ioQueues q.id.fn ∧ s.cq? q.id.fn k = none ∧ wordField q.cdw10 16 16 ≤ 4095 ∧ q.cdw11.getLsbD 0 = true ∧
      wordField q.cdw11 16 16 < s.viOf q.id.fn) ∧
    (∃ (s : State) (q : Sqe), s.live = true ∧ s.takes q true = true ∧ wordField q.cdw10 0 16 = 0) ∧
    (∃ (s : State) (q : Sqe) (k : Nat), s.live = true ∧ s.takes q true = true ∧ wordField q.cdw10 0 16 = k ∧ k ≠ 0 ∧
      k ≤ s.ioQueues q.id.fn ∧ s.sq? q.id.fn k = none ∧ wordField q.cdw10 16 16 ≤ 4095 ∧ q.cdw11.getLsbD 0 = true ∧
      wordField q.cdw11 16 16 ≠ 0 ∧ (s.cq? q.id.fn (wordField q.cdw11 16 16)).isSome = true) ∧
    (∃ (s : State) (q : Sqe) (k : Nat), s.live = true ∧ s.takes q true = true ∧ wordField q.cdw10 0 16 = k ∧ k ≠ 0 ∧
      (s.sq? q.id.fn k).isSome = true ∧ s.sqCmds q.id.fn k = []) ∧
    (∃ (s : State) (q : Sqe) (k : Nat), s.live = true ∧ s.takes q true = true ∧ wordField q.cdw10 0 16 = k ∧ k ≠ 0 ∧
      (s.cq? q.id.fn k).isSome = true ∧ ((s.fn q.id.fn).sqs.any (fun (p : Nat × Sq) => p.2.cqid == k) = false)) ∧
    (∃ (s : State) (q : Sqe) (k : Nat), s.live = true ∧ s.takes q true = true ∧ wordField q.cdw10 0 16 = k ∧ k ≠ 0 ∧
      (s.cq? q.id.fn k).isSome = true ∧ ((s.fn q.id.fn).sqs.any (fun (p : Nat × Sq) => p.2.cqid == k) = true)) ∧
    (∃ (s : State) (f k : Nat) (x : Sq) (c : CmdId), s.live = true ∧ s.sq? f k = some x ∧ x.deleting = some c ∧
      s.sqCmds f k = []) :=
  ⟨⟨wAdm, 0, 0, 3, { base := 0, cqid := 0, size := 4, head := 0, tail := 1, granted := 1 }, by decide⟩,
   ⟨wAdmP, 0, 0, 3, { base := 0, cqid := 0, size := 4, head := 0, tail := 1, granted := 1 }, by decide⟩,
   ⟨wAdm, 0, 0, 4, { base := 0, cqid := 0, size := 4, head := 0, tail := 1, granted := 1 }, by decide⟩,
   ⟨wAdm, 0, 7, 0, by decide⟩,
   ⟨wCq0, 0, 1, 1, { base := 0, size := 4, vector := 1, ien := true, used := 2 }, by decide⟩,
   ⟨wCq0, 0, 1, 3, { base := 0, size := 4, vector := 1, ien := true, used := 2 }, by decide⟩,
   ⟨wAdm,
    { id := { fn := 0, qid := 0, cid := 9 }, opcode := 0, nsid := 0, cdw10 := 0x00FF0002, cdw11 := 0x00030003, cdw12 := 0, cdw13 := 0, cdw14 := 0, cdw15 := 0, psdt := 0, prp1 := 0, prpOk := true, sglTypeOk := true, sglLenOk := true },
    2, by decide⟩,
   ⟨wAdm,
    { id := { fn := 0, qid := 0, cid := 9 }, opcode := 0, nsid := 0, cdw10 := 0, cdw11 := 0, cdw12 := 0, cdw13 := 0, cdw14 := 0, cdw15 := 0, psdt := 0, prp1 := 0, prpOk := true, sglTypeOk := true, sglLenOk := true },
    by decide⟩,
   ⟨wAdm,
    { id := { fn := 0, qid := 0, cid := 9 }, opcode := 0, nsid := 0, cdw10 := 0x00FF0002, cdw11 := 0x00010001, cdw12 := 0, cdw13 := 0, cdw14 := 0, cdw15 := 0, psdt := 0, prp1 := 0, prpOk := true, sglTypeOk := true, sglLenOk := true },
    2, by decide⟩,
   ⟨wAdm,
    { id := { fn := 0, qid := 0, cid := 9 }, opcode := 0, nsid := 0, cdw10 := 1, cdw11 := 0, cdw12 := 0, cdw13 := 0, cdw14 := 0, cdw15 := 0, psdt := 0, prp1 := 0, prpOk := true, sglTypeOk := true, sglLenOk := true },
    1, by decide⟩,
   ⟨wCqOnly,
    { id := { fn := 0, qid := 0, cid := 9 }, opcode := 0, nsid := 0, cdw10 := 2, cdw11 := 0, cdw12 := 0, cdw13 := 0, cdw14 := 0, cdw15 := 0, psdt := 0, prp1 := 0, prpOk := true, sglTypeOk := true, sglLenOk := true },
    2, by decide⟩,
   ⟨wAdm,
    { id := { fn := 0, qid := 0, cid := 9 }, opcode := 0, nsid := 0, cdw10 := 1, cdw11 := 0, cdw12 := 0, cdw13 := 0, cdw14 := 0, cdw15 := 0, psdt := 0, prp1 := 0, prpOk := true, sglTypeOk := true, sglLenOk := true },
    1, by decide⟩,
   ⟨(wAdm.updFn 0 fun f =>
    { f with sqs := [(1, { base := 0, cqid := 1, size := 4, deleting := some { fn := 0, qid := 0, cid := 3 } })] }),
    0, 1, { base := 0, cqid := 1, size := 4, deleting := some { fn := 0, qid := 0, cid := 3 } },
    { fn := 0, qid := 0, cid := 3 }, by decide⟩⟩

theorem witness_controllerEnable :
    (∃ (s : State) (f : Nat), s.live = true ∧ s.portNormal = true ∧ s.memOk f = true ∧ (s.fn f).enabled = false ∧
      (s.fn f).frozenNow = false ∧ (f = 0 ∨ (s.fn f).online = true)) ∧
    (∃ (s : State) (f : Nat), s.live = true ∧ s.portNormal = true ∧ s.memOk f = true ∧ (s.fn f).enabled = false ∧
      (s.fn f).frozenNow = false ∧ f ≠ 0 ∧ (s.fn f).online = false) ∧
    (∃ (s : State) (f : Nat), s.live = true ∧ (s.fn f).enabled = true ∧ (s.fn f).cfs = false ∧
      (s.fn f).resetting = false ∧ s.bit Reg.pwrStatus 3 = true) ∧
    (∃ (s : State) (f : Nat), s.live = true ∧ s.portNormal = true ∧ s.memOk f = true ∧ (s.fn f).enabled = true ∧
      (s.fn f).frozenNow = false) ∧
    (∃ (s : State) (f : Nat), s.live = true ∧ (s.fn f).resetting = true) ∧
    (∃ (s : State) (f : Nat), s.live = true) ∧
    (∃ (s : State) (f : Nat), s.live = true) ∧
    (∃ (s : State) (f : Nat), s.live = true) ∧
    (∃ (s : State) (f : Nat), s.live = true) ∧
    (∃ (s : State) (f p : Nat), s.live = true ∧ p ≠ 0 ∧ p ≠ 3) :=
  ⟨⟨wVfMse, 1, by decide⟩,
   ⟨wVfMse, 2, by decide⟩,
   ⟨(wEn.setBit Reg.pwrStatus 3 true), 1, by decide⟩,
   ⟨wEn, 1, by decide⟩,
   ⟨(wEn.updFn 1 fun f => { f with resetting := true, rdy := true }), 1, by decide⟩,
   ⟨wEn, 1, by decide⟩,
   ⟨wEn, 2, by decide⟩,
   ⟨wEn, 1, by decide⟩,
   ⟨(wEn.updFn 1 fun f => { f with d3hot := true }), 1, by decide⟩,
   ⟨wEn, 1, 2, by decide⟩⟩

theorem witness_adminCommands :
    (∃ (s : State) (q : Sqe), s.live = true ∧
      ((opcodesOf q.id.fn).contains (q.opcode + if q.id.qid = 0 then 0 else 256) = false) ∧
      s.takes { q with psdt := 0, fuse := 0 } (q.id.qid == 0) = true) ∧
    (∃ (s : State) (q : Sqe), s.live = true ∧
      ((opcodesOf q.id.fn).contains (q.opcode + if q.id.qid = 0 then 0 else 256) = false) ∧
      s.takes { q with psdt := 0, fuse := 0 } (q.id.qid == 0) = true) ∧
    (∃ (s : State) (q : Sqe), s.live = true ∧ s.takes q true = true ∧ wordField q.cdw10 0 8 = 5) ∧
    (∃ (s : State) (q : Sqe), s.live = true ∧ s.takes q true = true ∧ wordField q.cdw10 0 8 = 5) ∧
    (∃ (s : State) (q : Sqe), s.live = true ∧ s.takes q true = true ∧ wordField q.cdw10 0 8 = 4 ∧
      (s.fn q.id.fn).changedNs.length ≤ 1024) ∧
    (∃ (s : State) (q : Sqe), s.live = true ∧ s.takes q true = true ∧ wordField q.cdw10 0 8 = 0xFF) ∧
    (∃ (s : State) (q : Sqe), s.live = true ∧ s.takes q true = true ∧ wordField q.cdw10 0 8 = 1) ∧
    (∃ (s : State) (q : Sqe), s.live = true ∧ s.takes q true = true ∧ wordField q.cdw10 0 8 = 2) ∧
    (∃ (s : State) (q : Sqe) (c : CmdId) (x : Cmd), s.live = true ∧ s.takes q true = true ∧
      c = { fn := q.id.fn, qid := wordField q.cdw10 0 16, cid := wordField q.cdw10 16 16 } ∧ s.cmd? c = some x ∧
      x.status = none ∧ x.begun = false) ∧
    (∃ (s : State) (q : Sqe) (n : Nat), s.live = true ∧ s.takes q true = true ∧ wordField q.cdw10 16 16 = n ∧
      s.cmd? { fn := q.id.fn, qid := wordField q.cdw10 0 16, cid := n } = none ∧ q.id.qid ≠ wordField q.cdw10 0 16) ∧
    (∃ (s : State) (q : Sqe), s.live = true ∧ s.takes q true = true ∧
      ((s.cmds.filter (fun (x : Cmd) => x.admin && x.op == opAer && x.id.fn == q.id.fn && x.status.isNone)).length <
      8) ∧ (s.aens.find? (fun e => e.1 == q.id.fn) = none)) ∧
    (∃ (s : State) (q : Sqe) (e : Nat × Nat × Nat × Nat), s.live = true ∧ s.takes q true = true ∧
      ((s.cmds.filter (fun (x : Cmd) => x.admin && x.op == opAer && x.id.fn == q.id.fn && x.status.isNone)).length <
      8) ∧ (s.aens.find? (fun e => e.1 == q.id.fn) = some e)) ∧
    (∃ (s : State) (q : Sqe), s.live = true ∧ s.takes q true = true ∧
      (8 ≤ (s.cmds.filter (fun (x : Cmd) => x.admin && x.op == opAer && x.id.fn == q.id.fn &&
      x.status.isNone)).length)) :=
  ⟨⟨wAdm,
    { id := { fn := 0, qid := 0, cid := 9 }, opcode := 255, nsid := 0, cdw10 := 0, cdw11 := 0, cdw12 := 0, cdw13 := 0, cdw14 := 0, cdw15 := 0, psdt := 1, prp1 := 0, prpOk := true, sglTypeOk := true, sglLenOk := true },
    by decide⟩,
   ⟨wAdm,
    { id := { fn := 0, qid := 1, cid := 9 }, opcode := 255, nsid := 0, cdw10 := 0, cdw11 := 0, cdw12 := 0, cdw13 := 0, cdw14 := 0, cdw15 := 0, psdt := 0, prp1 := 0, prpOk := true, sglTypeOk := true, sglLenOk := true },
    by decide⟩,
   ⟨wAdm,
    { id := { fn := 0, qid := 0, cid := 9 }, opcode := 0, nsid := 0, cdw10 := 5, cdw11 := 0, cdw12 := 0, cdw13 := 0, cdw14 := 0, cdw15 := 0, psdt := 0, prp1 := 0, prpOk := true, sglTypeOk := true, sglLenOk := true },
    by decide⟩,
   ⟨wAdmP,
    { id := { fn := 0, qid := 0, cid := 9 }, opcode := 0, nsid := 0, cdw10 := 5, cdw11 := 0, cdw12 := 0, cdw13 := 0, cdw14 := 0, cdw15 := 0, psdt := 0, prp1 := 0, prpOk := true, sglTypeOk := true, sglLenOk := true },
    by decide⟩,
   ⟨(wAdm.updFn 0 fun f => { f with changedNs := [3] }),
    { id := { fn := 0, qid := 0, cid := 9 }, opcode := 0, nsid := 0, cdw10 := 4, cdw11 := 0, cdw12 := 0, cdw13 := 0, cdw14 := 0, cdw15 := 0, psdt := 0, prp1 := 0, prpOk := true, sglTypeOk := true, sglLenOk := true },
    by decide⟩,
   ⟨wAdm,
    { id := { fn := 0, qid := 0, cid := 9 }, opcode := 0, nsid := 0, cdw10 := 0xFF, cdw11 := 0, cdw12 := 0, cdw13 := 0, cdw14 := 0, cdw15 := 0, psdt := 0, prp1 := 0, prpOk := true, sglTypeOk := true, sglLenOk := true },
    by decide⟩,
   ⟨wAdm,
    { id := { fn := 0, qid := 0, cid := 9 }, opcode := 0, nsid := 0, cdw10 := 1, cdw11 := 0, cdw12 := 0, cdw13 := 0, cdw14 := 0, cdw15 := 0, psdt := 0, prp1 := 0, prpOk := true, sglTypeOk := true, sglLenOk := true },
    by decide⟩,
   ⟨wNs1,
    { id := { fn := 0, qid := 0, cid := 9 }, opcode := 0, nsid := 0, cdw10 := 2, cdw11 := 0, cdw12 := 0, cdw13 := 0, cdw14 := 0, cdw15 := 0, psdt := 0, prp1 := 0, prpOk := true, sglTypeOk := true, sglLenOk := true },
    by decide⟩,
   ⟨({ wAdm with cmds := [{ id := { fn := 0, qid := 1, cid := 5 }, op := 1 }] }),
    { id := { fn := 0, qid := 0, cid := 9 }, opcode := 0, nsid := 0, cdw10 := 0x50001, cdw11 := 0, cdw12 := 0, cdw13 := 0, cdw14 := 0, cdw15 := 0, psdt := 0, prp1 := 0, prpOk := true, sglTypeOk := true, sglLenOk := true },
    { fn := 0, qid := 1, cid := 5 }, { id := { fn := 0, qid := 1, cid := 5 }, op := 1 }, by decide⟩,
   ⟨wAdm,
    { id := { fn := 0, qid := 0, cid := 9 }, opcode := 0, nsid := 0, cdw10 := 0x50001, cdw11 := 0, cdw12 := 0, cdw13 := 0, cdw14 := 0, cdw15 := 0, psdt := 0, prp1 := 0, prpOk := true, sglTypeOk := true, sglLenOk := true },
    5, by decide⟩,
   ⟨wAdm,
    { id := { fn := 0, qid := 0, cid := 9 }, opcode := 0, nsid := 0, cdw10 := 0, cdw11 := 0, cdw12 := 0, cdw13 := 0, cdw14 := 0, cdw15 := 0, psdt := 0, prp1 := 0, prpOk := true, sglTypeOk := true, sglLenOk := true },
    by decide⟩,
   ⟨({ wAdm with aens := [(0, 2, 3, 4)] }),
    { id := { fn := 0, qid := 0, cid := 9 }, opcode := 0, nsid := 0, cdw10 := 0, cdw11 := 0, cdw12 := 0, cdw13 := 0, cdw14 := 0, cdw15 := 0, psdt := 0, prp1 := 0, prpOk := true, sglTypeOk := true, sglLenOk := true },
    (0, 2, 3, 4), by decide⟩,
   ⟨({ wAdm with cmds := (List.range 8).map fun k => { id := { fn := 0, qid := 0, cid := 100 + k }, op := opAer, admin := true } }),
    { id := { fn := 0, qid := 0, cid := 9 }, opcode := 0, nsid := 0, cdw10 := 0, cdw11 := 0, cdw12 := 0, cdw13 := 0, cdw14 := 0, cdw15 := 0, psdt := 0, prp1 := 0, prpOk := true, sglTypeOk := true, sglLenOk := true },
    by decide⟩⟩

theorem witness_featureCommands :
    (∃ (s : State) (q : Sqe) (d : BitVec 64) (k : Nat), s.live = true ∧ s.takes q true = true ∧
      wordField q.cdw10 0 8 = k ∧ featureIds.contains k = true ∧ k ≠ 7 ∧ k ≠ 8 ∧ k ≠ 9 ∧ k ≠ 14 ∧
      q.cdw10.getLsbD 31 = false ∧ s.featureBad q.id.fn k q.cdw11 = false) ∧
    (∃ (s : State) (q : Sqe) (d : BitVec 64), s.live = true ∧ s.takes q true = true ∧
      featureIds.contains (wordField q.cdw10 0 8) = true ∧ q.cdw10.getLsbD 31 = true) ∧
    (∃ (s : State) (q : Sqe) (k : Nat), s.live = true ∧ s.takes q true = true ∧ wordField q.cdw10 0 8 = k ∧
      featureIds.contains k = true ∧ k ≠ 7 ∧ k ≠ 8 ∧ k ≠ 9 ∧ k ≠ 14) ∧
    (∃ (s : State) (q : Sqe), s.live = true ∧ s.takes q true = true ∧ wordField q.cdw10 0 13 = 0) ∧
    (∃ (s : State) (q : Sqe), s.live = true ∧ s.takes q true = true ∧ wordField q.cdw12 0 6 = 0) ∧
    (∃ (s : State) (q : Sqe) (k : Nat) (l : List (List Byte)), s.live = true ∧ s.takes q true = true ∧ q.id.fn = 0 ∧
      1 ≤ wordField q.cdw12 0 6 ∧ wordField q.cdw12 0 6 ≤ 32 ∧ wordField q.cdw13 0 13 = k ∧ 1 ≤ k ∧ k ≤ 4096 ∧
      s.meterRecords k (q.cdw10.toNat + wordField q.cdw11 0 16 * 2 ^ 32) (wordField q.cdw12 0 6) = l) ∧
    (∃ (s : State) (q : Sqe) (k : Nat) (l : List (List Byte)), s.live = true ∧ s.takes q true = true ∧ q.id.fn = 0 ∧
      1 ≤ wordField q.cdw12 0 6 ∧ wordField q.cdw12 0 6 ≤ 32 ∧ wordField q.cdw13 0 13 = k ∧ 1 ≤ k ∧ k ≤ 4096 ∧
      s.meterRecords k (q.cdw10.toNat + wordField q.cdw11 0 16 * 2 ^ 32) (wordField q.cdw12 0 6) = l) ∧
    (∃ (s : State) (q : Sqe) (b : List Byte), s.live = true ∧ s.takes q true = true ∧ q.id.fn = 0) ∧
    (∃ (s : State) (q : Sqe) (b : List Byte), s.live = true ∧ s.takes q true = true ∧ q.id.fn ≠ 0) ∧
    (∃ (s : State) (q : Sqe) (g : List Byte), s.live = true ∧ s.takes q true = true ∧ q.id.fn = 0 ∧
      2 < wordField q.cdw10 3 3) ∧
    (∃ (s : State) (q : Sqe) (g : List Byte), s.live = true ∧ s.takes q true = true ∧ q.id.fn = 0 ∧
      wordField q.cdw10 3 3 ≤ 2 ∧ (wordField q.cdw10 0 3 = (if s.bit Reg.secStatus 1 then 2 else 1))) ∧
    (∃ (s : State) (q : Sqe) (g : List Byte), s.live = true ∧ s.takes q true = true ∧ q.id.fn = 0 ∧
      wordField q.cdw10 3 3 ≤ 1 ∧ wordField q.cdw10 0 3 = 0) ∧
    (∃ (s : State) (q : Sqe) (g : List Byte), s.live = true ∧ s.takes q true = true ∧ q.id.fn = 0 ∧
      wordField q.cdw10 3 3 ≤ 1 ∧ wordField q.cdw10 0 3 = 0) ∧
    (∃ (s : State) (q : Sqe) (g : List Byte), s.live = true ∧ s.takes q true = true ∧ q.id.fn ≠ 0) :=
  ⟨⟨wAdm,
    { id := { fn := 0, qid := 0, cid := 9 }, opcode := 0, nsid := 0, cdw10 := 4, cdw11 := 300, cdw12 := 0, cdw13 := 0, cdw14 := 0, cdw15 := 0, psdt := 0, prp1 := 0, prpOk := true, sglTypeOk := true, sglLenOk := true },
    0, 4, by decide⟩,
   ⟨wAdm,
    { id := { fn := 0, qid := 0, cid := 9 }, opcode := 0, nsid := 0, cdw10 := 0x80000004, cdw11 := 300, cdw12 := 0, cdw13 := 0, cdw14 := 0, cdw15 := 0, psdt := 0, prp1 := 0, prpOk := true, sglTypeOk := true, sglLenOk := true },
    0, by decide⟩,
   ⟨wAdm,
    { id := { fn := 0, qid := 0, cid := 9 }, opcode := 0, nsid := 0, cdw10 := 4, cdw11 := 0, cdw12 := 0, cdw13 := 0, cdw14 := 0, cdw15 := 0, psdt := 0, prp1 := 0, prpOk := true, sglTypeOk := true, sglLenOk := true },
    4, by decide⟩,
   ⟨wAdm,
    { id := { fn := 0, qid := 0, cid := 9 }, opcode := 0, nsid := 0, cdw10 := 0, cdw11 := 0, cdw12 := 0, cdw13 := 0, cdw14 := 0, cdw15 := 0, psdt := 0, prp1 := 0, prpOk := true, sglTypeOk := true, sglLenOk := true },
    by decide⟩,
   ⟨wAdm,
    { id := { fn := 0, qid := 0, cid := 9 }, opcode := 0, nsid := 0, cdw10 := 0, cdw11 := 0, cdw12 := 0, cdw13 := 0, cdw14 := 0, cdw15 := 0, psdt := 0, prp1 := 0, prpOk := true, sglTypeOk := true, sglLenOk := true },
    by decide⟩,
   ⟨wAdm,
    { id := { fn := 0, qid := 0, cid := 9 }, opcode := 0, nsid := 0, cdw10 := 0, cdw11 := 0, cdw12 := 1, cdw13 := 1, cdw14 := 0, cdw15 := 0, psdt := 0, prp1 := 0, prpOk := true, sglTypeOk := true, sglLenOk := true },
    1, [], by decide⟩,
   ⟨wMeter,
    { id := { fn := 0, qid := 0, cid := 9 }, opcode := 0, nsid := 0, cdw10 := 0, cdw11 := 0, cdw12 := 1, cdw13 := 1, cdw14 := 0, cdw15 := 0, psdt := 0, prp1 := 0, prpOk := true, sglTypeOk := true, sglLenOk := true },
    1, [List.replicate 128 0], by decide⟩,
   ⟨wAdm,
    { id := { fn := 0, qid := 0, cid := 9 }, opcode := 0, nsid := 0, cdw10 := 1, cdw11 := 1, cdw12 := 0, cdw13 := 0, cdw14 := 0, cdw15 := 0, psdt := 0, prp1 := 0, prpOk := true, sglTypeOk := true, sglLenOk := true },
    [1, 2, 3], by decide⟩,
   ⟨wVfOn,
    { id := { fn := 1, qid := 0, cid := 9 }, opcode := 0, nsid := 0, cdw10 := 0, cdw11 := 0, cdw12 := 0, cdw13 := 0, cdw14 := 0, cdw15 := 0, psdt := 0, prp1 := 0, prpOk := true, sglTypeOk := true, sglLenOk := true },
    [1], by decide⟩,
   ⟨wAdm,
    { id := { fn := 0, qid := 0, cid := 9 }, opcode := 0, nsid := 0, cdw10 := 0x18, cdw11 := 0, cdw12 := 0, cdw13 := 0, cdw14 := 0, cdw15 := 0, psdt := 0, prp1 := 0, prpOk := true, sglTypeOk := true, sglLenOk := true },
    [], by decide⟩,
   ⟨wAdm,
    { id := { fn := 0, qid := 0, cid := 9 }, opcode := 0, nsid := 0, cdw10 := 0x1, cdw11 := 0, cdw12 := 0, cdw13 := 0, cdw14 := 0, cdw15 := 0, psdt := 0, prp1 := 0, prpOk := true, sglTypeOk := true, sglLenOk := true },
    [], by decide⟩,
   ⟨wAdm,
    { id := { fn := 0, qid := 0, cid := 9 }, opcode := 0, nsid := 0, cdw10 := 0, cdw11 := 0, cdw12 := 0, cdw13 := 0, cdw14 := 0, cdw15 := 0, psdt := 0, prp1 := 0, prpOk := true, sglTypeOk := true, sglLenOk := true },
    [], by decide⟩,
   ⟨wAdm,
    { id := { fn := 0, qid := 0, cid := 9 }, opcode := 0, nsid := 0, cdw10 := 0x8, cdw11 := 0, cdw12 := 0, cdw13 := 0, cdw14 := 0, cdw15 := 0, psdt := 0, prp1 := 0, prpOk := true, sglTypeOk := true, sglLenOk := true },
    [], by decide⟩,
   ⟨wVfOn,
    { id := { fn := 1, qid := 0, cid := 9 }, opcode := 0, nsid := 0, cdw10 := 0, cdw11 := 0, cdw12 := 0, cdw13 := 0, cdw14 := 0, cdw15 := 0, psdt := 0, prp1 := 0, prpOk := true, sglTypeOk := true, sglLenOk := true },
    [], by decide⟩⟩

theorem witness_ioCommands :
    (∃ (s : State) (q : Sqe), s.live = true ∧ s.takes q false = true ∧ s.nsOpen q.id.fn q.nsid = true) ∧
    (∃ (s : State) (q : Sqe), s.live = true ∧ s.takes q false = true ∧ q.nsid ≠ allNs ∧ s.nsOpen q.id.fn q.nsid = false) ∧
    (∃ (s : State) (q : Sqe), s.live = true ∧ s.takes q false = true ∧ s.admits q (.read q) = true ∧
      (s.ns q.nsid).rangeFailure q.slba q.nlb true = none ∧ prpFailure q = none) ∧
    (∃ (s : State) (q : Sqe) (e : Nat), s.live = true ∧ s.takes q false = true ∧ s.admits q (.read q) = true ∧
      (s.ns q.nsid).rangeFailure q.slba q.nlb true = some e) ∧
    (∃ (s : State) (q : Sqe) (b : Bool), s.live = true ∧ s.takes q false = true ∧ s.admits q (.compare q b) = true ∧
      (s.ns q.nsid).rangeFailure q.slba q.nlb true = none ∧ prpFailure q = none) ∧
    (∃ (s : State) (q : Sqe), s.live = true ∧ s.takes q false = true ∧ s.admits q (.verify q) = true ∧
      (s.ns q.nsid).rangeFailure q.slba q.nlb false = none) ∧
    (∃ (s : State) (q : Sqe) (e : Nat), s.live = true ∧ s.takes q false = true ∧ s.admits q (.write q) = true ∧
      (s.ns q.nsid).rangeFailure q.slba q.nlb true = some e) ∧
    (∃ (s : State) (q : Sqe), s.live = true ∧ s.takes q false = true ∧ s.admits q (.write q) = true ∧
      (s.ns q.nsid).rangeFailure q.slba q.nlb true = none ∧ prpFailure q = none ∧
      s.writeFailure q.id.fn q.nsid ((List.range ((s.ns q.nsid).cover q.slba q.nlb).2).map (((s.ns q.nsid).cover
      q.slba q.nlb).1 + ·)) (((List.range ((s.ns q.nsid).cover q.slba q.nlb).2).map (((s.ns q.nsid).cover q.slba
      q.nlb).1 + ·)).map (· / (s.ns q.nsid).parts)) false = none) ∧
    (∃ (s : State) (q : Sqe) (e : Nat), s.live = true ∧ s.takes q false = true ∧ s.admits q (.writeZeroes q) = true ∧
      (s.ns q.nsid).rangeFailure q.slba q.nlb false = some e) ∧
    (∃ (s : State) (q : Sqe), s.live = true ∧ s.takes q false = true ∧ s.admits q (.writeZeroes q) = true ∧
      (s.ns q.nsid).rangeFailure q.slba q.nlb false = none ∧ s.readOnlyNs q.nsid = true) ∧
    (∃ (s : State) (q : Sqe), s.live = true ∧ s.takes q false = true ∧ s.admits q (.writeZeroes q) = true ∧
      (s.ns q.nsid).rangeFailure q.slba q.nlb false = none ∧ s.readOnlyNs q.nsid = false ∧
      q.cdw12.getLsbD 25 = true ∧ ((s.ns q.nsid).zeroParts q.slba q.nlb).2 = []) ∧
    (∃ (s : State) (q : Sqe) (r : List (Nat × Nat)), s.live = true ∧ s.takes q false = true ∧
      s.admits q (.datasetManagement q r) = true ∧ prpFailure q = none ∧
      (r.any (fun e => decide ((s.ns q.nsid).nsze < e.1 + e.2)) = false) ∧ q.cdw11.getLsbD 2 = false) ∧
    (∃ (s : State) (q : Sqe) (r : List (Nat × Nat)), s.live = true ∧ s.takes q false = true ∧
      s.admits q (.datasetManagement q r) = true ∧ prpFailure q = none ∧
      (r.any (fun e => decide ((s.ns q.nsid).nsze < e.1 + e.2)) = true)) ∧
    (∃ (s : State) (q : Sqe) (r : List (Nat × Nat)), s.live = true ∧ s.takes q false = true ∧
      s.admits q (.copy q r) = true ∧ prpFailure q = none ∧
      (128 < r.length ∨ r.any (fun e => decide (512 < e.2)) = true ∨ 4096 < (r.map (·.2)).sum)) ∧
    (∃ (s : State) (q : Sqe) (r : List (Nat × Nat)), s.live = true ∧ s.takes q false = true ∧
      s.admits q (.copy q r) = true ∧ prpFailure q = none ∧ r.length ≤ 128 ∧
      (r.any (fun e => decide (512 < e.2)) = false) ∧ (r.map (·.2)).sum ≤ 4096 ∧
      q.slba + (r.map (·.2)).sum ≤ (s.ns q.nsid).nsze ∧
      (r.any (fun e => decide ((s.ns q.nsid).nsze < e.1 + e.2)) = false) ∧
      s.writeFailure q.id.fn q.nsid ((List.range ((s.ns q.nsid).cover q.slba (r.map (·.2)).sum).2).map (((s.ns
      q.nsid).cover q.slba (r.map (·.2)).sum).1 + ·)) (((List.range ((s.ns q.nsid).cover q.slba (r.map
      (·.2)).sum).2).map (((s.ns q.nsid).cover q.slba (r.map (·.2)).sum).1 + ·)).map (· / (s.ns q.nsid).parts)) false
      = none) :=
  ⟨⟨wNs1,
    { id := { fn := 0, qid := 1, cid := 9 }, opcode := 0, nsid := 1, cdw10 := 0, cdw11 := 0, cdw12 := 0, cdw13 := 0, cdw14 := 0, cdw15 := 0, psdt := 0, prp1 := 0, prpOk := true, sglTypeOk := true, sglLenOk := true },
    by decide⟩,
   ⟨wNs1,
    { id := { fn := 0, qid := 1, cid := 9 }, opcode := 0, nsid := 2, cdw10 := 0, cdw11 := 0, cdw12 := 0, cdw13 := 0, cdw14 := 0, cdw15 := 0, psdt := 0, prp1 := 0, prpOk := true, sglTypeOk := true, sglLenOk := true },
    by decide⟩,
   ⟨wNs1,
    { id := { fn := 0, qid := 1, cid := 9 }, opcode := 0, nsid := 1, cdw10 := 999, cdw11 := 0, cdw12 := 0, cdw13 := 0, cdw14 := 0, cdw15 := 0, psdt := 0, prp1 := 0, prpOk := true, sglTypeOk := true, sglLenOk := true },
    by decide⟩,
   ⟨wNs1,
    { id := { fn := 0, qid := 1, cid := 9 }, opcode := 0, nsid := 1, cdw10 := 1000, cdw11 := 0, cdw12 := 0, cdw13 := 0, cdw14 := 0, cdw15 := 0, psdt := 0, prp1 := 0, prpOk := true, sglTypeOk := true, sglLenOk := true },
    0x80, by decide⟩,
   ⟨wNs1,
    { id := { fn := 0, qid := 1, cid := 9 }, opcode := 0, nsid := 1, cdw10 := 999, cdw11 := 0, cdw12 := 0, cdw13 := 0, cdw14 := 0, cdw15 := 0, psdt := 0, prp1 := 0, prpOk := true, sglTypeOk := true, sglLenOk := true },
    false, by decide⟩,
   ⟨wNs1,
    { id := { fn := 0, qid := 1, cid := 9 }, opcode := 0, nsid := 1, cdw10 := 999, cdw11 := 0, cdw12 := 0, cdw13 := 0, cdw14 := 0, cdw15 := 0, psdt := 0, prp1 := 0, prpOk := false, sglTypeOk := true, sglLenOk := true },
    by decide⟩,
   ⟨wNs1,
    { id := { fn := 0, qid := 1, cid := 9 }, opcode := 0, nsid := 1, cdw10 := 1000, cdw11 := 0, cdw12 := 0, cdw13 := 0, cdw14 := 0, cdw15 := 0, psdt := 0, prp1 := 0, prpOk := true, sglTypeOk := true, sglLenOk := true },
    0x80, by decide⟩,
   ⟨wNsUp,
    { id := { fn := 0, qid := 1, cid := 9 }, opcode := 0, nsid := 1, cdw10 := 999, cdw11 := 0, cdw12 := 0, cdw13 := 0, cdw14 := 0, cdw15 := 0, psdt := 0, prp1 := 0, prpOk := true, sglTypeOk := true, sglLenOk := true },
    by and_intros <;> first | decide | rfl | (simp only [State.writeFailure, wNsUp_homeFault]; decide)⟩,
   ⟨wNs1,
    { id := { fn := 0, qid := 1, cid := 9 }, opcode := 0, nsid := 1, cdw10 := 1000, cdw11 := 0, cdw12 := 0, cdw13 := 0, cdw14 := 0, cdw15 := 0, psdt := 0, prp1 := 0, prpOk := true, sglTypeOk := true, sglLenOk := true },
    0x80, by decide⟩,
   ⟨((wNs1.updNs 1 fun n => { n with paired := true }).setField Reg.mlkPairState 3 3 3),
    { id := { fn := 0, qid := 1, cid := 9 }, opcode := 0, nsid := 1, cdw10 := 10, cdw11 := 0, cdw12 := 0, cdw13 := 0, cdw14 := 0, cdw15 := 0, psdt := 0, prp1 := 0, prpOk := true, sglTypeOk := true, sglLenOk := true },
    by decide⟩,
   ⟨wNs1,
    { id := { fn := 0, qid := 1, cid := 9 }, opcode := 0, nsid := 1, cdw10 := 16, cdw11 := 0, cdw12 := 0x0200000F, cdw13 := 0, cdw14 := 0, cdw15 := 0, psdt := 0, prp1 := 0, prpOk := true, sglTypeOk := true, sglLenOk := true },
    by decide⟩,
   ⟨wNs1,
    { id := { fn := 0, qid := 1, cid := 9 }, opcode := 0, nsid := 1, cdw10 := 0, cdw11 := 0, cdw12 := 0, cdw13 := 0, cdw14 := 0, cdw15 := 0, psdt := 0, prp1 := 0, prpOk := true, sglTypeOk := true, sglLenOk := true },
    [(0, 5)], by decide⟩,
   ⟨wNs1,
    { id := { fn := 0, qid := 1, cid := 9 }, opcode := 0, nsid := 1, cdw10 := 0, cdw11 := 0, cdw12 := 0, cdw13 := 0, cdw14 := 0, cdw15 := 0, psdt := 0, prp1 := 0, prpOk := true, sglTypeOk := true, sglLenOk := true },
    [(0, 5), (999, 2)], by decide⟩,
   ⟨wNs1,
    { id := { fn := 0, qid := 1, cid := 9 }, opcode := 0, nsid := 1, cdw10 := 0, cdw11 := 0, cdw12 := 0, cdw13 := 0, cdw14 := 0, cdw15 := 0, psdt := 0, prp1 := 0, prpOk := true, sglTypeOk := true, sglLenOk := true },
    [(0, 513)], by decide⟩,
   ⟨wNsUp,
    { id := { fn := 0, qid := 1, cid := 9 }, opcode := 0, nsid := 1, cdw10 := 10, cdw11 := 0, cdw12 := 0, cdw13 := 0, cdw14 := 0, cdw15 := 0, psdt := 0, prp1 := 0, prpOk := true, sglTypeOk := true, sglLenOk := true },
    [(0, 3)], by and_intros <;> first | decide | rfl | (simp only [State.writeFailure, wNsUp_homeFault]; decide)⟩⟩

theorem witness_namespaceCommands :
    (∃ (s : State) (q : Sqe), s.live = true ∧ s.takes q true = true ∧ q.nsid ≠ allNs ∧ s.nsOpen q.id.fn q.nsid = false) ∧
    (∃ (s : State) (q : Sqe), s.live = true ∧ s.takes q true = true ∧ q.nsid ≠ allNs ∧ s.nsOpen q.id.fn q.nsid = true ∧
      wordField q.cdw10 9 3 ≤ 2 ∧ wordField q.cdw10 0 4 ≤ 1 ∧ s.readOnlyNs q.nsid = false ∧
      (s.ns q.nsid).erasing = false ∧
      s.mapFits q.nsid ((s.ns q.nsid).formatted (wordField q.cdw10 0 4 == 1) ((s.ns q.nsid).iu4k || q.cdw11.getLsbD
      0)).iuCount = true) ∧
    (∃ (s : State) (q : Sqe), s.live = true ∧ s.takes q true = true ∧ wordField q.cdw10 0 3 ≠ 4) ∧
    (∃ (s : State) (q : Sqe) (n : Nat), s.live = true ∧ s.takes q true = true ∧ wordField q.cdw10 0 3 = 4 ∧
      s.attachedTo q.id.fn = [n] ∧ (s.ns n).detaching = false ∧ s.readOnlyNs n = false ∧ (s.fn q.id.fn).sanitize ≠ 2) ∧
    (∃ (s : State) (n : Nat), s.live = true ∧ (s.ns n).erasing = true ∧ s.readsLeft n = false ∧
      (s.ns n).deleting = false ∧ (s.ns n).heldIo = []) ∧
    (∃ (s : State) (q : Sqe) (d : NsCreate) (k : Nat), s.live = true ∧ s.takes q true = true ∧ q.id.fn = 0 ∧
      d.paired = false ∧ d.flbas ≤ 1 ∧ d.nsze = d.ncap ∧ d.nsze ≠ 0 ∧ s.freeNsid = some k ∧
      s.mapFits k (Ns.iuCount
      { present := true, nsze := d.nsze, ncap := d.ncap, lba512 := d.flbas == 1, iu4k := d.iu4k }) = true) ∧
    (∃ (s : State) (q : Sqe) (d : NsCreate), s.live = true ∧ s.takes q true = true ∧ q.id.fn = 0 ∧ d.nsze ≠ d.ncap) ∧
    (∃ (s : State) (q : Sqe) (d : NsCreate), s.live = true ∧ s.takes q true = true ∧ q.id.fn ≠ 0) ∧
    (∃ (s : State) (q : Sqe), s.live = true ∧ s.takes q true = true ∧ q.id.fn = 0 ∧ q.nsid ≠ allNs ∧
      (s.ns q.nsid).present = true ∧ (s.ns q.nsid).erasing = false) ∧
    (∃ (s : State) (q : Sqe), s.live = true ∧ s.takes q true = true ∧ q.id.fn ≠ 0) ∧
    (∃ (s : State) (q : Sqe) (l : List Nat) (f : Nat), s.live = true ∧ s.takes q true = true ∧ q.id.fn = 0 ∧
      listedFn l = some f ∧ (s.ns q.nsid).present = true ∧ (s.ns q.nsid).deleting = false ∧
      (s.ns q.nsid).attached = none ∧ (s.ns q.nsid).paired = false ∧ (s.attachedTo f).length < 1024) ∧
    (∃ (s : State) (q : Sqe) (l : List Nat) (f g : Nat), s.live = true ∧ s.takes q true = true ∧ q.id.fn = 0 ∧
      listedFn l = some f ∧ (s.ns q.nsid).present = true ∧ (s.ns q.nsid).deleting = false ∧
      (s.ns q.nsid).attached = some g) ∧
    (∃ (s : State) (q : Sqe) (l : List Nat), s.live = true ∧ s.takes q true = true ∧ q.id.fn ≠ 0) ∧
    (∃ (s : State) (q : Sqe) (l : List Nat) (f : Nat), s.live = true ∧ s.takes q true = true ∧ q.id.fn = 0 ∧
      listedFn l = some f ∧ (s.ns q.nsid).present = true ∧ (s.ns q.nsid).attached = some f ∧
      (s.ns q.nsid).detaching = false ∧ s.nsDrained q.nsid = true) ∧
    (∃ (s : State) (q : Sqe) (l : List Nat) (f : Nat), s.live = true ∧ s.takes q true = true ∧ q.id.fn = 0 ∧
      listedFn l = some f ∧ (s.ns q.nsid).present = true ∧ (s.ns q.nsid).attached = some f ∧
      (s.ns q.nsid).detaching = false ∧ s.nsDrained q.nsid = false) ∧
    (∃ (s : State) (q : Sqe) (l : List Nat), s.live = true ∧ s.takes q true = true ∧ q.id.fn ≠ 0) ∧
    (∃ (s : State) (n : Nat), s.live = true ∧ (s.ns n).detaching = true ∧ s.nsDrained n = true) :=
  ⟨⟨wNs1,
    { id := { fn := 0, qid := 0, cid := 9 }, opcode := 0, nsid := 2, cdw10 := 0, cdw11 := 0, cdw12 := 0, cdw13 := 0, cdw14 := 0, cdw15 := 0, psdt := 0, prp1 := 0, prpOk := true, sglTypeOk := true, sglLenOk := true },
    by decide⟩,
   ⟨wNs1,
    { id := { fn := 0, qid := 0, cid := 9 }, opcode := 0, nsid := 1, cdw10 := 0x201, cdw11 := 0, cdw12 := 0, cdw13 := 0, cdw14 := 0, cdw15 := 0, psdt := 0, prp1 := 0, prpOk := true, sglTypeOk := true, sglLenOk := true },
    by decide⟩,
   ⟨wNs1,
    { id := { fn := 0, qid := 0, cid := 9 }, opcode := 0, nsid := 0, cdw10 := 2, cdw11 := 0, cdw12 := 0, cdw13 := 0, cdw14 := 0, cdw15 := 0, psdt := 0, prp1 := 0, prpOk := true, sglTypeOk := true, sglLenOk := true },
    by decide⟩,
   ⟨wNs1,
    { id := { fn := 0, qid := 0, cid := 9 }, opcode := 0, nsid := 0, cdw10 := 4, cdw11 := 0, cdw12 := 0, cdw13 := 0, cdw14 := 0, cdw15 := 0, psdt := 0, prp1 := 0, prpOk := true, sglTypeOk := true, sglLenOk := true },
    1, by decide⟩,
   ⟨(wNs1.updNs 1 fun n => { n with erasing := true, nsze := 2, ncap := 2 }), 1, by decide⟩,
   ⟨wNs1,
    { id := { fn := 0, qid := 0, cid := 9 }, opcode := 0, nsid := 0, cdw10 := 0, cdw11 := 0, cdw12 := 0, cdw13 := 0, cdw14 := 0, cdw15 := 0, psdt := 0, prp1 := 0, prpOk := true, sglTypeOk := true, sglLenOk := true },
    { nsze := 100, ncap := 100, flbas := 0, iu4k := true, paired := false }, 2, by decide⟩,
   ⟨wNs1,
    { id := { fn := 0, qid := 0, cid := 9 }, opcode := 0, nsid := 0, cdw10 := 0, cdw11 := 0, cdw12 := 0, cdw13 := 0, cdw14 := 0, cdw15 := 0, psdt := 0, prp1 := 0, prpOk := true, sglTypeOk := true, sglLenOk := true },
    { nsze := 100, ncap := 99, flbas := 0, iu4k := true, paired := false }, by decide⟩,
   ⟨wVfOn,
    { id := { fn := 1, qid := 0, cid := 9 }, opcode := 0, nsid := 0, cdw10 := 0, cdw11 := 0, cdw12 := 0, cdw13 := 0, cdw14 := 0, cdw15 := 0, psdt := 0, prp1 := 0, prpOk := true, sglTypeOk := true, sglLenOk := true },
    { nsze := 100, ncap := 100, flbas := 0, iu4k := true, paired := false }, by decide⟩,
   ⟨wNs1,
    { id := { fn := 0, qid := 0, cid := 9 }, opcode := 0, nsid := 1, cdw10 := 0, cdw11 := 0, cdw12 := 0, cdw13 := 0, cdw14 := 0, cdw15 := 0, psdt := 0, prp1 := 0, prpOk := true, sglTypeOk := true, sglLenOk := true },
    by decide⟩,
   ⟨wVfOn,
    { id := { fn := 1, qid := 0, cid := 9 }, opcode := 0, nsid := 0, cdw10 := 0, cdw11 := 0, cdw12 := 0, cdw13 := 0, cdw14 := 0, cdw15 := 0, psdt := 0, prp1 := 0, prpOk := true, sglTypeOk := true, sglLenOk := true },
    by decide⟩,
   ⟨({ wNs1 with nss := wNs1.nss.set 1 { present := true, nsze := 5 } }),
    { id := { fn := 0, qid := 0, cid := 9 }, opcode := 0, nsid := 1, cdw10 := 0, cdw11 := 0, cdw12 := 0, cdw13 := 0, cdw14 := 0, cdw15 := 0, psdt := 0, prp1 := 0, prpOk := true, sglTypeOk := true, sglLenOk := true },
    [1], 0, by decide⟩,
   ⟨wNs1,
    { id := { fn := 0, qid := 0, cid := 9 }, opcode := 0, nsid := 1, cdw10 := 0, cdw11 := 0, cdw12 := 0, cdw13 := 0, cdw14 := 0, cdw15 := 0, psdt := 0, prp1 := 0, prpOk := true, sglTypeOk := true, sglLenOk := true },
    [1], 0, 0, by decide⟩,
   ⟨wVfOn,
    { id := { fn := 1, qid := 0, cid := 9 }, opcode := 0, nsid := 0, cdw10 := 0, cdw11 := 0, cdw12 := 0, cdw13 := 0, cdw14 := 0, cdw15 := 0, psdt := 0, prp1 := 0, prpOk := true, sglTypeOk := true, sglLenOk := true },
    [1], by decide⟩,
   ⟨wNs1,
    { id := { fn := 0, qid := 0, cid := 9 }, opcode := 0, nsid := 1, cdw10 := 0, cdw11 := 0, cdw12 := 0, cdw13 := 0, cdw14 := 0, cdw15 := 0, psdt := 0, prp1 := 0, prpOk := true, sglTypeOk := true, sglLenOk := true },
    [1], 0, by decide⟩,
   ⟨({ wNs1 with cmds := [{ id := { fn := 0, qid := 1, cid := 2 }, op := 2, nsid := 1 }] }),
    { id := { fn := 0, qid := 0, cid := 9 }, opcode := 0, nsid := 1, cdw10 := 0, cdw11 := 0, cdw12 := 0, cdw13 := 0, cdw14 := 0, cdw15 := 0, psdt := 0, prp1 := 0, prpOk := true, sglTypeOk := true, sglLenOk := true },
    [1], 0, by decide⟩,
   ⟨wVfOn,
    { id := { fn := 1, qid := 0, cid := 9 }, opcode := 0, nsid := 0, cdw10 := 0, cdw11 := 0, cdw12 := 0, cdw13 := 0, cdw14 := 0, cdw15 := 0, psdt := 0, prp1 := 0, prpOk := true, sglTypeOk := true, sglLenOk := true },
    [1], by decide⟩,
   ⟨(wNs1.updNs 1 fun n => { n with detaching := true }), 1, by decide⟩⟩

theorem witness_virtualFunctions :
    (∃ (s : State) (q : Sqe), s.live = true ∧ s.takes q true = true ∧ q.id.fn = 0) ∧
    (∃ (s : State) (q : Sqe), s.live = true ∧ s.takes q true = true ∧ q.id.fn ≠ 0) ∧
    (∃ (s : State) (q : Sqe) (v : Nat), s.live = true ∧ s.takes q true = true ∧ q.id.fn = 0 ∧
      wordField q.cdw10 16 16 = v + 1 ∧ 1 ≤ v ∧ v ≤ 4096 ∧ wordField q.cdw10 8 3 = 0 ∧ (s.fn v).online = false ∧
      s.vqFits v (wordField q.cdw11 0 16) = true) ∧
    (∃ (s : State) (q : Sqe) (v : Nat), s.live = true ∧ s.takes q true = true ∧ q.id.fn = 0 ∧
      wordField q.cdw10 16 16 = v + 1 ∧ 1 ≤ v ∧ v ≤ 4096 ∧ wordField q.cdw10 8 3 = 0 ∧ (s.fn v).online = false ∧
      s.vqFits v (wordField q.cdw11 0 16) = true) ∧
    (∃ (s : State) (q : Sqe) (v : Nat), s.live = true ∧ s.takes q true = true ∧ q.id.fn = 0 ∧
      wordField q.cdw10 16 16 = v + 1 ∧ 1 ≤ v ∧ v ≤ 4096 ∧ wordField q.cdw10 8 3 ≤ 1 ∧ (s.fn v).online = true) ∧
    (∃ (s : State) (q : Sqe), s.live = true ∧ s.takes q true = true ∧ q.id.fn ≠ 0) ∧
    (∃ (s : State) (q : Sqe) (v : Nat), s.live = true ∧ s.takes q true = true ∧ q.id.fn = 0 ∧
      wordField q.cdw10 16 16 = v + 1 ∧ 1 ≤ v ∧ v ≤ 4096 ∧ 2 ≤ (s.fn v).vq ∧ 1 ≤ (s.fn v).vi) ∧
    (∃ (s : State) (q : Sqe), s.live = true ∧ s.takes q true = true ∧ q.id.fn ≠ 0) ∧
    (∃ (s : State) (q : Sqe) (v : Nat), s.live = true ∧ s.takes q true = true ∧ q.id.fn = 0 ∧
      wordField q.cdw10 16 16 = v + 1 ∧ 1 ≤ v ∧ v ≤ 4096 ∧ s.mayOffline v = true) ∧
    (∃ (s : State) (q : Sqe) (v : Nat), s.live = true ∧ s.takes q true = true ∧ q.id.fn = 0 ∧
      wordField q.cdw10 16 16 = v + 1 ∧ 1 ≤ v ∧ v ≤ 4096 ∧ s.mayOffline v = false) ∧
    (∃ (s : State) (q : Sqe), s.live = true ∧ s.takes q true = true ∧ q.id.fn ≠ 0) ∧
    (∃ (s : State), s.live = true ∧ s.vfEnable = false) ∧
    (∃ (s : State), s.live = true ∧ s.vfEnable = true) ∧
    (∃ (s : State) (v : Nat), s.live = true ∧ v ≠ 0 ∧ s.fnExists v = true ∧ (s.fn v).life ≠ .flr) ∧
    (∃ (s : State) (v : Nat), s.live = true ∧ v ≠ 0 ∧ (s.fn v).life = .flr) ∧
    (∃ (s : State), s.live = true ∧ s.bit Reg.fnmStatus 15 = false) ∧
    (∃ (s : State), s.live = true ∧ s.bit Reg.fnmStatus 15 = true) :=
  ⟨⟨wVf,
    { id := { fn := 0, qid := 0, cid := 9 }, opcode := 0, nsid := 0, cdw10 := 0, cdw11 := 0, cdw12 := 0, cdw13 := 0, cdw14 := 0, cdw15 := 0, psdt := 0, prp1 := 0, prpOk := true, sglTypeOk := true, sglLenOk := true },
    by decide⟩,
   ⟨wVfOn,
    { id := { fn := 1, qid := 0, cid := 9 }, opcode := 0, nsid := 0, cdw10 := 0, cdw11 := 0, cdw12 := 0, cdw13 := 0, cdw14 := 0, cdw15 := 0, psdt := 0, prp1 := 0, prpOk := true, sglTypeOk := true, sglLenOk := true },
    by decide⟩,
   ⟨wVf,
    { id := { fn := 0, qid := 0, cid := 9 }, opcode := 0, nsid := 0, cdw10 := 0x30000, cdw11 := 65, cdw12 := 0, cdw13 := 0, cdw14 := 0, cdw15 := 0, psdt := 0, prp1 := 0, prpOk := true, sglTypeOk := true, sglLenOk := true },
    2, by decide⟩,
   ⟨wVf,
    { id := { fn := 0, qid := 0, cid := 9 }, opcode := 0, nsid := 0, cdw10 := 0x10010000, cdw11 := 2, cdw12 := 0, cdw13 := 0, cdw14 := 0, cdw15 := 0, psdt := 0, prp1 := 0, prpOk := true, sglTypeOk := true, sglLenOk := true },
    4096, by decide⟩,
   ⟨wVf,
    { id := { fn := 0, qid := 0, cid := 9 }, opcode := 0, nsid := 0, cdw10 := 0x20000, cdw11 := 65, cdw12 := 0, cdw13 := 0, cdw14 := 0, cdw15 := 0, psdt := 0, prp1 := 0, prpOk := true, sglTypeOk := true, sglLenOk := true },
    1, by decide⟩,
   ⟨wVfOn,
    { id := { fn := 1, qid := 0, cid := 9 }, opcode := 0, nsid := 0, cdw10 := 0, cdw11 := 0, cdw12 := 0, cdw13 := 0, cdw14 := 0, cdw15 := 0, psdt := 0, prp1 := 0, prpOk := true, sglTypeOk := true, sglLenOk := true },
    by decide⟩,
   ⟨(wVf.updFn 1 fun f => { f with online := false }),
    { id := { fn := 0, qid := 0, cid := 9 }, opcode := 0, nsid := 0, cdw10 := 0x20000, cdw11 := 0, cdw12 := 0, cdw13 := 0, cdw14 := 0, cdw15 := 0, psdt := 0, prp1 := 0, prpOk := true, sglTypeOk := true, sglLenOk := true },
    1, by decide⟩,
   ⟨wVfOn,
    { id := { fn := 1, qid := 0, cid := 9 }, opcode := 0, nsid := 0, cdw10 := 0, cdw11 := 0, cdw12 := 0, cdw13 := 0, cdw14 := 0, cdw15 := 0, psdt := 0, prp1 := 0, prpOk := true, sglTypeOk := true, sglLenOk := true },
    by decide⟩,
   ⟨wVf,
    { id := { fn := 0, qid := 0, cid := 9 }, opcode := 0, nsid := 0, cdw10 := 0x20000, cdw11 := 0, cdw12 := 0, cdw13 := 0, cdw14 := 0, cdw15 := 0, psdt := 0, prp1 := 0, prpOk := true, sglTypeOk := true, sglLenOk := true },
    1, by decide⟩,
   ⟨wEn,
    { id := { fn := 0, qid := 0, cid := 9 }, opcode := 0, nsid := 0, cdw10 := 0x20000, cdw11 := 0, cdw12 := 0, cdw13 := 0, cdw14 := 0, cdw15 := 0, psdt := 0, prp1 := 0, prpOk := true, sglTypeOk := true, sglLenOk := true },
    1, by decide⟩,
   ⟨wVfOn,
    { id := { fn := 1, qid := 0, cid := 9 }, opcode := 0, nsid := 0, cdw10 := 0, cdw11 := 0, cdw12 := 0, cdw13 := 0, cdw14 := 0, cdw15 := 0, psdt := 0, prp1 := 0, prpOk := true, sglTypeOk := true, sglLenOk := true },
    by decide⟩,
   ⟨(wAdm.setField Reg.fnmStatus 0 13 2), by decide⟩,
   ⟨wVf, by decide⟩,
   ⟨wEn, 1, by decide⟩,
   ⟨(wEn.setLife 1 .flr), 1, by decide⟩,
   ⟨wEn, by decide⟩,
   ⟨(wEn.setBit Reg.fnmStatus 15 true), by decide⟩⟩

theorem witness_tenantTransfer :
    (∃ (s : State), s.live = true ∧ 1 ≤ s.vfSel ∧ s.vfSel ≤ 4096 ∧ s.fnExists s.vfSel = true ∧
      (s.fn s.vfSel).online = true ∧ (s.fn s.vfSel).life = .active) ∧
    (∃ (s : State), s.live = true ∧ 1 ≤ s.vfSel ∧ s.vfSel ≤ 4096 ∧ s.fnExists s.vfSel = true ∧
      (s.fn s.vfSel).online = true ∧ (s.fn s.vfSel).life ≠ .active) ∧
    (∃ (s : State) (v : Nat), s.live = true ∧ (s.fn v).life = .quiescing ∧ s.outstanding v = 0) ∧
    (∃ (s : State), s.live = true ∧ 1 ≤ s.vfSel ∧ s.vfSel ≤ 4096 ∧ s.fnExists s.vfSel = true ∧
      (s.fn s.vfSel).online = true ∧ (s.fn s.vfSel).life = .quiesced) ∧
    (∃ (s : State), s.live = true ∧ 1 ≤ s.vfSel ∧ s.vfSel ≤ 4096 ∧ s.fnExists s.vfSel = true ∧
      (s.fn s.vfSel).online = true ∧ (s.fn s.vfSel).life = .quiesced) ∧
    (∃ (s : State) (v : Nat), s.live = true ∧ (s.fn v).life = .freezing) ∧
    (∃ (s : State), s.live = true ∧ 1 ≤ s.vfSel ∧ s.vfSel ≤ 4096 ∧ s.fnExists s.vfSel = true ∧
      (s.fn s.vfSel).online = true ∧ (s.fn s.vfSel).life = .frozen) ∧
    (∃ (s : State), s.live = true ∧ 1 ≤ s.vfSel ∧ s.vfSel ≤ 4096 ∧ s.fnExists s.vfSel = true ∧
      (s.fn s.vfSel).online = true ∧ (s.fn s.vfSel).life = .frozen ∧ s.mig = none ∧
      s.field Reg.fnmMigLen 0 17 < blobSize) ∧
    (∃ (s : State), s.live = true ∧ 1 ≤ s.vfSel ∧ s.vfSel ≤ 4096 ∧ s.fnExists s.vfSel = true ∧
      (s.fn s.vfSel).online = true ∧ (s.fn s.vfSel).life = .frozen ∧ s.mig = none ∧
      blobSize ≤ s.field Reg.fnmMigLen 0 17 ∧ s.bit Reg.fnmMigCtl 0 = false ∧ s.portNormal = true) ∧
    (∃ (s : State) (m : Mig), s.live = true ∧ (s.internBusy (fun k _ => k == Inner.blob) = false) ∧ s.mig = some m ∧
      m.save = true ∧ m.target = false) ∧
    (∃ (s : State) (m : Mig), s.live = true ∧ s.mig = some m ∧ m.save = true ∧ m.target = false) ∧
    (∃ (s : State) (v e : Nat) (m : Mig), s.live = true ∧ (s.internBusy (fun k _ => k == Inner.blob) = false) ∧
      s.mig = some m ∧ m.save = true ∧ m.target = true ∧ m.vf = v) ∧
    (∃ (s : State), s.live = true ∧ 1 ≤ s.vfSel ∧ s.vfSel ≤ 4096 ∧ s.fnExists s.vfSel = true ∧
      (s.fn s.vfSel).online = true ∧ (s.fn s.vfSel).life = .frozen ∧ (s.fn s.vfSel).enabled = false ∧ s.mig = none ∧
      s.portNormal = true) ∧
    (∃ (s : State) (b : List Byte) (m : Mig), s.live = true ∧ (s.internBusy (fun k _ => k == Inner.blob) = false) ∧
      s.mig = some m ∧ m.save = false ∧ m.target = false) :=
  ⟨⟨wSel, by decide⟩,
   ⟨(wSel.setLife 1 .frozen), by decide⟩,
   ⟨(wSel.setLife 1 .quiescing), 1, by decide⟩,
   ⟨(wSel.setLife 1 .quiesced), by decide⟩,
   ⟨(wSel.setLife 1 .quiesced), by decide⟩,
   ⟨(wSel.setLife 1 .freezing), 1, by decide⟩,
   ⟨(wSel.setLife 1 .frozen), by decide⟩,
   ⟨(wFrz.setField Reg.fnmMigLen 0 17 14335), by decide⟩,
   ⟨wFrz, by decide⟩,
   ⟨({ wFrz with mig := some { vf := 1, save := true, target := false } }), { vf := 1, save := true, target := false },
    by decide⟩,
   ⟨({ wFrz with mig := some { vf := 1, save := true, target := false } }), { vf := 1, save := true, target := false },
    by decide⟩,
   ⟨({ wFrz with mig := some { vf := 1, save := true, target := true } }), 1, 0,
    { vf := 1, save := true, target := true }, by decide⟩,
   ⟨(wFrz.updFn 1 fun f => { f with cc := 0 }), by decide⟩,
   ⟨({ wFrz with mig := some { vf := 1, save := false, target := false } }), [],
    { vf := 1, save := false, target := false }, by decide⟩⟩

theorem witness_spdmRequests :
    (∃ (s : State), s.live = true ∧ s.spdmIn = true) ∧
    (∃ (s : State), s.live = true ∧ s.spdmIn = true) ∧
    (∃ (s : State), s.live = true ∧ s.spdmIn = true) ∧
    (∃ (s : State), s.live = true ∧ s.spdmIn = true) ∧
    (∃ (s : State), s.live = true ∧ s.spdmIn = true) ∧
    (∃ (s : State), s.live = true ∧ s.spdmIn = true) ∧
    (∃ (s : State) (k a n : Nat), s.live = true ∧ s.spdmIn = true ∧ s.chain k = none) ∧
    (∃ (s : State) (k a n : Nat), s.live = true ∧ s.spdmIn = true ∧ s.chain k = none) ∧
    (∃ (s : State) (k a n : Nat) (c : List Byte), s.live = true ∧ s.spdmIn = true ∧ s.chain k = some c) ∧
    (∃ (s : State) (nonce : List Byte), s.live = true ∧ s.spdmIn = true) ∧
    (∃ (s : State) (i : Nat) (nonce : List Byte), s.live = true ∧ s.spdmIn = true ∧ (i ≤ 5 ∨ i = 255)) ∧
    (∃ (s : State) (i : Nat) (nonce : List Byte), s.live = true ∧ s.spdmIn = true ∧ (i ≤ 5 ∨ i = 255)) ∧
    (∃ (s : State), s.live = true ∧ s.spdmIn = true) :=
  ⟨⟨wDoe, by decide⟩,
   ⟨wPsk, by decide⟩,
   ⟨wDoe, by decide⟩,
   ⟨wDoe, by decide⟩,
   ⟨wDoe, by decide⟩,
   ⟨wPsk, by decide⟩,
   ⟨wDoe, 1, 0, 64, by decide⟩,
   ⟨wPsk, 2, 0, 64, by decide⟩,
   ⟨wDoe, 0, 0, 64, Config.certChain 0 [] none, by and_intros <;> first | decide | rfl⟩,
   ⟨wDoe, List.replicate 32 5, by decide⟩,
   ⟨wDoe, 0, [], by decide⟩,
   ⟨wDoe, 255, [], by decide⟩,
   ⟨wDoe, by decide⟩⟩

theorem witness_sessionsAndClaim :
    (∃ (s : State) (pub : List Byte), s.live = true ∧ s.spdmIn = true ∧ s.sec.sessions.length < 4) ∧
    (∃ (s : State) (h : List Byte) (c : ClaimRec), s.live = true ∧ s.spdmIn = true ∧ s.sec.claim = some c ∧
      (h = [] ∨ h = c.hint) ∧ s.sec.sessions.length < 4) ∧
    (∃ (s : State) (id : Nat) (x : Sess), s.live = true ∧ s.securedIn id = true ∧ s.sess? id = some x ∧ x.psk = false ∧
      x.ready = false) ∧
    (∃ (s : State) (id : Nat) (x : Sess), s.live = true ∧ s.securedIn id = true ∧ s.sess? id = some x ∧ x.psk = false ∧
      x.ready = false) ∧
    (∃ (s : State) (id : Nat), s.live = true ∧ s.securedIn id = true ∧ (s.sess? id).isSome = true) ∧
    (∃ (s : State), s.live = true ∧ s.hpt.doe.any (·.1 == 2) = true) ∧
    (∃ (s : State) (id : Nat) (x : Sess), s.live = true ∧ s.sess? id = some x ∧ x.lastAt + sessionLimit ≤ s.now) ∧
    (∃ (s : State) (id q : Nat) (psk hint : List Byte) (x : Sess), s.live = true ∧ s.securedIn id = true ∧
      s.sec.claim = none ∧ s.sess? id = some x ∧ x.psk = false ∧ x.ready = true ∧ psk.length = 32 ∧ hint.length ≤ 16) ∧
    (∃ (s : State) (id q : Nat) (psk hint : List Byte), s.live = true ∧ s.pskSession id = true ∧ psk.length = 32 ∧
      hint.length ≤ 16) ∧
    (∃ (s : State) (id q : Nat), s.live = true ∧ s.pskSession id = true ∧ s.bit Reg.secStatus 2 = false) ∧
    (∃ (s : State) (id q : Nat), s.live = true ∧ s.pskSession id = true) ∧
    (∃ (s : State) (id op q : Nat), s.live = true ∧ s.securedIn id = true ∧ (s.sess? id).isSome = true) :=
  ⟨⟨wDoe, [], by decide⟩,
   ⟨wPsk, [7], wClaim, by decide⟩,
   ⟨wHalf, 3, ({ id := 3, psk := false, ready := false, lastAt := 0 } : Sess), by decide⟩,
   ⟨wHalf, 3, ({ id := 3, psk := false, ready := false, lastAt := 0 } : Sess), by decide⟩,
   ⟨wPsk, 3, by decide⟩,
   ⟨wPsk, by decide⟩,
   ⟨wPskIdle, 3, ({ id := 3, psk := true, ready := true, lastAt := 0 } : Sess), by decide⟩,
   ⟨wOpen, 3, 9, List.replicate 32 4, [], ({ id := 3, psk := false, ready := true, lastAt := 0 } : Sess), by decide⟩,
   ⟨wPsk, 3, 9, List.replicate 32 4, [1, 2], by decide⟩,
   ⟨wSvn, 3, 9, by decide⟩,
   ⟨wPsk4, 4, 1, by decide⟩,
   ⟨wPsk4, 4, 0x7E, 1, by decide⟩⟩

theorem witness_managementRequests :
    (∃ (s : State) (id q : Nat) (a : BitVec 64) (n : Word), s.live = true ∧ s.pskSession id = true ∧
      s.bit Reg.prxStatus 6 = false) ∧
    (∃ (s : State) (id q : Nat) (f : BitVec 64), s.live = true ∧ s.pskSession id = true ∧ s.arming = false) ∧
    (∃ (s : State) (id q : Nat), s.live = true ∧ s.pskSession id = true ∧ s.arming = true ∧ s.switchCommitted = false) ∧
    (∃ (s : State) (id q : Nat), s.live = true ∧ s.pskSession id = true ∧ s.prxState ≠ 1) ∧
    (∃ (s : State) (id q : Nat), s.live = true ∧ s.pskSession id = true ∧ s.prxState = 1 ∧ s.arming = true ∧
      s.switchCommitted = true) ∧
    (∃ (s : State) (id q vf d : Nat) (v : Word) (a : Image), s.live = true ∧ s.pskSession id = true ∧ d ≤ 1 ∧
      s.prx.active = some a ∧ (a.tenant? vf).isSome = true) ∧
    (∃ (s : State) (id q : Nat) (b : List Byte), s.live = true ∧ s.pskSession id = true ∧ s.mch.binding = [] ∧
      s.prxState = 0) ∧
    (∃ (s : State) (id q n : Nat) (w : List Byte), s.live = true ∧ s.pskSession id = true ∧ w.length = 92 ∧
      s.keyless n = true) ∧
    (∃ (s : State) (id q n : Nat), s.live = true ∧ s.pskSession id = true ∧ s.keyless n = true ∧ (s.ns n).paired = false) ∧
    (∃ (s : State) (id q w : Nat) (v : WindowVals), s.live = true ∧ s.pskSession id = true ∧ w < 8 ∧ s.lpb.drainAt = none) ∧
    (∃ (s : State) (x : SlotImage), s.live = true ∧ s.bit Reg.pwrStatus 4 = true) ∧
    (∃ (s : State) (b : List Byte), s.live = true ∧ s.bit Reg.pwrStatus 4 = true) :=
  ⟨⟨wPsk, 3, 1, 0x100000#64, 0x1000#32, by decide⟩,
   ⟨wPsk, 3, 1, 500#64, by decide⟩,
   ⟨(wPsk.setBit Reg.prxArm 0 true), 3, 1, by decide⟩,
   ⟨wPsk, 3, 1, by decide⟩,
   ⟨wRunArm, 3, 1, by decide⟩,
   ⟨wTrim, 3, 1, 1, 1, 0x8000#32, { tenants := [{ vf := 1, group := 0, cls := 0 }] }, by decide⟩,
   ⟨wPskPark, 3, 1, [], by decide⟩,
   ⟨wNs9, 3, 1, 9, List.replicate 92 1, by decide⟩,
   ⟨wNs9, 3, 1, 9, by decide⟩,
   ⟨wPsk, 3, 1, 7, { base := 0x1000#32, limit := 0x1FFF#32, trans := 0#32, cfg := 0#32 }, by decide⟩,
   ⟨wRec, wSlotImg, by decide⟩,
   ⟨wRec, [], by decide⟩⟩

theorem witness_mirrorLink :
    (∃ (s : State) (raw : List Byte), s.live = true ∧ s.mlkSpeed ≠ 0) ∧
    (∃ (s : State) (q : Nat), s.live = true ∧ s.linkUp = true ∧ (q % 4096 + 4096 - s.txBase) % 4096 ≤ s.mlk.unacked) ∧
    (∃ (s : State) (q : Nat), s.live = true ∧ s.mlk.unacked < (q % 4096 + 4096 - s.txBase) % 4096) ∧
    (∃ (s : State), s.live = true ∧ s.linkUp = true ∧ s.mlk.accepted ≠ 0 ∧ s.mlk.ackAt + 500 ≤ s.now) ∧
    (∃ (s : State), s.live = true ∧ s.linkUp = true ∧ s.mlk.grantNew = true ∧ s.mlk.grantAt + 500 ≤ s.now) ∧
    (∃ (s : State), s.live = true ∧ s.linkUp = true ∧ s.mlk.retrainAt = none ∧ s.mlk.resetAt = none) ∧
    (∃ (s : State) (p : Bool) (q a : Nat), s.live = true ∧ s.mlk.retrainAt = some a ∧ s.now ≤ a + 500000) ∧
    (∃ (s : State) (x : LinkTrained), s.live = true ∧ s.pairedBoard = true ∧ s.bit Reg.mlkCtl 0 = true ∧
      (s.linkUp = false ∨ s.mlk.resetAt.isSome = true) ∧ (x.lanes = 4 ∨ x.lanes = 8 ∨ x.lanes = 16)) ∧
    (∃ (s : State), s.live = true ∧ s.pairedBoard = true ∧ s.bit Reg.mlkCtl 0 = true ∧
      (s.linkUp = false ∨ s.mlk.resetAt.isSome = true)) ∧
    (∃ (s : State), s.live = true ∧ s.mlkSpeed ≠ 0 ∧ s.mlk.resetAt = none) ∧
    (∃ (s : State) (i : InitFlit), s.live = true ∧ s.linkDead = false ∧ s.pairedBoard = true ∧ s.mlkSpeed ≠ 0) ∧
    (∃ (s : State) (i : InitFlit), s.live = true ∧ s.linkDead = false ∧ s.pairedBoard = true ∧ s.mlkSpeed ≠ 0) ∧
    (∃ (s : State) (i : InitFlit), s.live = true ∧ s.linkDead = false ∧ s.pairedBoard = true ∧ s.mlkSpeed ≠ 0) ∧
    (∃ (s : State) (i : InitFlit), s.live = true ∧ s.linkDead = false ∧ s.pairedBoard = true ∧ s.mlkSpeed ≠ 0 ∧
      s.pairState = 1 ∧ s.mlk.bootGrace = false ∧ s.mlk.session = some i.session) ∧
    (∃ (s : State) (i : InitFlit), s.live = true ∧ s.linkDead = true) :=
  ⟨⟨wTimed, [1, 2], by decide⟩,
   ⟨({ wTimed with mlk := { wTimed.mlk with txSeq := 6, unacked := 3 } }), 5, by decide⟩,
   ⟨wTimed, 5, by decide⟩,
   ⟨wTimed, by decide⟩,
   ⟨wTimed, by decide⟩,
   ⟨wTimed, by decide⟩,
   ⟨({ wTimed with mlk := { wTimed.mlk with retrainAt := some 49600000 } }), true, 0, 49600000, by decide⟩,
   ⟨((wTimed.setBit Reg.mlkCtl 0 true).setBit Reg.mlkStatus 1 false), { pam4 := true, lanes := 8 }, by decide⟩,
   ⟨((wTimed.setBit Reg.mlkCtl 0 true).setBit Reg.mlkStatus 1 false), by decide⟩,
   ⟨wTimed, by decide⟩,
   ⟨wTimed, wInit, by decide⟩,
   ⟨wGrace, wInit, by decide⟩,
   ⟨wLost, wInit, by decide⟩,
   ⟨wGrace, wInit, by decide⟩,
   ⟨wLate12, wInit, by decide⟩⟩

theorem witness_partnerAndRoles :
    (∃ (s : State), s.live = true ∧ s.linkDead = true ∧ s.pairState = 5) ∧
    (∃ (s : State) (a : Nat), s.live = true ∧ s.pairState = 1 ∧ s.mlk.graceAt = some a ∧ a + s.graceTicks ≤ s.now) ∧
    (∃ (s : State) (n : Nat), s.live = true ∧ n < 6 ∧ (s.pairState = 5 ∨ s.pairState = 1)) ∧
    (∃ (s : State), s.live = true ∧ s.pairedBoard = true ∧ s.pairState = 5) ∧
    (∃ (s : State), s.live = true ∧ (s.pairState = 5 ∨ s.pairState = 1)) ∧
    (∃ (s : State) (a : Nat), s.live = true ∧ s.mlk.lostAt = some a ∧ s.ftb.tick = 0 ∧ a + 501000 ≤ s.now) ∧
    (∃ (s : State) (n : Nat) (i : InitFlit), s.live = true ∧ n < 6 ∧ s.pairState = 2 ∧ s.linkUp = true ∧
      s.mlk.peer = some i ∧ s.joinErr i ≠ 0) ∧
    (∃ (s : State) (n : Nat) (i : InitFlit), s.live = true ∧ n < 6 ∧ s.pairState = 2 ∧ s.linkUp = true ∧
      s.mlk.peer = some i ∧ s.joinErr i = 0) ∧
    (∃ (s : State) (a b : Nat), s.live = true ∧ s.mlk.joinOwn = some a ∧ s.mlk.peerJoin = some b ∧ s.pairState = 4 ∧
      max a b ≤ s.frame) ∧
    (∃ (s : State) (f : Nat), s.live = true ∧ s.pairState = 4) ∧
    (∃ (s : State) (f : Nat), s.live = true ∧ s.pairState ≠ 4) :=
  ⟨⟨wLate12, by decide⟩,
   ⟨wGrace, 0, by decide⟩,
   ⟨wTimed, 0, by decide⟩,
   ⟨wTimed, by decide⟩,
   ⟨wTimed, by decide⟩,
   ⟨wLost, 0, by decide⟩,
   ⟨(wLost.setField Reg.mlkGrace 0 8 21), 0, wInit, by decide⟩,
   ⟨(wLost.setField Reg.mlkGrace 0 8 20), 0, wInit, by decide⟩,
   ⟨wResync, 99, 100, by decide⟩,
   ⟨wResync, 120, by decide⟩,
   ⟨({ wPair with prx := { wPair.prx with peerClear := some 5 } }), 7, by decide⟩⟩

theorem witness_mirroredWrites :
    (∃ (s : State) (q e : Nat) (m : Mirrored), s.live = true ∧ s.sent? q = some m ∧ e ≠ 2) ∧
    (∃ (s : State) (q e : Nat) (m : Mirrored), s.live = true ∧ s.sent? q = some m ∧ e ≠ 2) ∧
    (∃ (s : State) (q : Nat) (m : Mirrored), s.live = true ∧ s.sent? q = some m ∧ (s.ns m.nsid).paired = true) ∧
    (∃ (s : State) (q : Nat) (m : Mirrored), s.live = true ∧ s.sent? q = some m ∧ (s.ns m.nsid).paired = true) ∧
    (∃ (s : State) (q e : Nat), s.live = true ∧ s.sent? q = none) ∧
    (∃ (s : State) (q a : Nat) (m : Mirrored), s.live = true ∧ s.sent? q = some m ∧ s.joined = true ∧ m.sentAt = some a ∧
      a + 5000000 ≤ s.now ∧ (s.ns m.nsid).paired = true) ∧
    (∃ (s : State) (q a : Nat) (m : Mirrored), s.live = true ∧ s.sent? q = some m ∧ s.joined = true ∧ m.sentAt = some a ∧
      a + 5000000 ≤ s.now ∧ (s.ns m.nsid).paired = true) ∧
    (∃ (s : State) (q : Nat) (m : Mirrored), s.live = true ∧ s.sent? q = some m ∧
      (m.sentAt.all (fun a => decide (s.now < a + 5000000)) = true)) ∧
    (∃ (s : State) (m : MWrite), s.live = true ∧ s.mirroring = true ∧ m.lengthOk = false) ∧
    (∃ (s : State) (m : MWrite), s.live = true ∧ s.mirroring = true ∧ m.lengthOk = true ∧ s.pairedHere m.nsid = true ∧
      m.unitMask % 256 ≠ 0 ∧ m.unitMask < 2 ^ (s.ns m.nsid).parts ∧ m.index < (s.ns m.nsid).iuCount ∧
      s.mlk.inbound = []) ∧
    (∃ (s : State) (m : MMap), s.live = true ∧ s.mirroring = true ∧ s.pairedHere m.nsid = true ∧ m.action = 1 ∧
      1 ≤ m.count ∧ m.index + m.count ≤ (s.ns m.nsid).iuCount ∧ s.mlk.inbound = []) ∧
    (∃ (s : State) (n q : Nat), s.live = true ∧ s.mirroring = true ∧ s.pairedHere n = true ∧ s.mlk.inbound = []) :=
  ⟨⟨wPns, 4, 0, { seq := 4, nsid := 1, kind := .write 3, regions := [], sentAt := some 0 }, by decide⟩,
   ⟨wPnsR, 4, 1, { seq := 4, nsid := 1, kind := .resync 1, regions := [], sentAt := some 0 }, by decide⟩,
   ⟨(wPns.setField Reg.mlkPairState 0 3 4), 4,
    { seq := 4, nsid := 1, kind := .write 3, regions := [], sentAt := some 0 }, by decide⟩,
   ⟨wPnsAtt, 4, { seq := 4, nsid := 1, kind := .write 3, regions := [], sentAt := some 0 }, by decide⟩,
   ⟨wPns, 5, 0, by decide⟩,
   ⟨wPns, 4, 0, { seq := 4, nsid := 1, kind := .write 3, regions := [], sentAt := some 0 }, by decide⟩,
   ⟨wPnsAtt, 4, 0, { seq := 4, nsid := 1, kind := .write 3, regions := [], sentAt := some 0 }, by decide⟩,
   ⟨wPnsLive, 4, { seq := 4, nsid := 1, kind := .write 3, regions := [], sentAt := some 50000000 }, by decide⟩,
   ⟨wPns, { nsid := 1, index := 0, unitMask := 3, originSeq := 2, resync := false, lengthOk := false }, by decide⟩,
   ⟨wPns, { nsid := 1, index := 0, unitMask := 3, originSeq := 2, resync := false, lengthOk := true }, by decide⟩,
   ⟨wPns, { nsid := 1, index := 2, count := 1, action := 1, originSeq := 2, resync := false }, by decide⟩,
   ⟨(wPns.updNs 1 fun n => { n with nsze := 2, ncap := 2 }), 1, 2, by decide⟩⟩

theorem witness_pairMessages :
    (∃ (s : State) (v k : Nat) (b : List Byte), s.live = true ∧ s.mirroring = true ∧ b.length ≤ 16384 ∧
      s.freeBlob = some k) ∧
    (∃ (s : State) (n : Nat), s.live = true ∧ n < 6) ∧
    (∃ (s : State) (m : NsSync), s.live = true ∧ s.mirroring = true ∧ m.action = 4) ∧
    (∃ (s : State) (m : NsSync), s.live = true ∧ s.mirroring = true ∧ m.action = 3) ∧
    (∃ (s : State) (m : NsSync), s.live = true ∧ s.mirroring = true ∧ m.action = 1 ∧ m.units ≠ 0 ∧
      (s.ns m.nsid).present = false ∧
      s.mapFits m.nsid (Ns.iuCount
      { nsze := m.units, ncap := m.units, lba512 := m.lba512, iu4k := m.iu4k, paired := true }) = true) ∧
    (∃ (s : State) (n : Nat) (r : List Nat), s.live = true ∧ s.pairedHere n = true ∧ s.joined = true) ∧
    (∃ (s : State) (n i p : Nat), s.live = true ∧ s.pairedHere n = true ∧ (s.ns n).prot = 1 ∧ s.joined = true ∧
      p < (s.ns n).parts ∧ i < (s.ns n).iuCount) ∧
    (∃ (s : State) (n : Nat), s.live = true ∧ (s.ns n).prot = 3) ∧
    (∃ (s : State), s.live = true) ∧
    (∃ (s : State), s.live = true) ∧
    (∃ (s : State) (n : Nat) (v : BitVec 64), s.live = true) ∧
    (∃ (s : State), s.live = true) :=
  ⟨⟨wPns, 1, 0, [1, 2], by decide⟩,
   ⟨({ wPns with mlk := { wPns.mlk with blobs := [(0, 1, []), (1, 2, [])] } }), 0, by decide⟩,
   ⟨wPns, { nsid := 1, action := 4, units := 0, iu4k := true, lba512 := false, plainKey := 0 }, by decide⟩,
   ⟨wPns, { nsid := 1, action := 3, units := 0, iu4k := true, lba512 := false, plainKey := 0 }, by decide⟩,
   ⟨wPns, { nsid := 2, action := 1, units := 50, iu4k := true, lba512 := false, plainKey := 0 }, by decide⟩,
   ⟨wPns, 1, [0], by decide⟩,
   ⟨wPns, 1, 2, 0, by decide⟩,
   ⟨(wPns.updNs 1 fun n => { n with prot := 3 }), 1, by decide⟩,
   ⟨wPns, by decide⟩,
   ⟨wPns, by decide⟩,
   ⟨wPns, 1, 5#64, by decide⟩,
   ⟨wPns, by decide⟩⟩

theorem witness_eventSources :
    (∃ (s : State) (c n : Nat), s.live = true ∧ c < 6 ∧ messageSource n = true) ∧
    (∃ (s : State) (c n : Nat), s.live = true ∧ c < 6 ∧ messageSource n = true) ∧
    (∃ (s : State) (n : Nat), s.live = true ∧ 15 < n) ∧
    (∃ (s : State) (c n : Nat), s.live = true ∧ c < 6 ∧ n < 992 ∧ s.srcActive n = false) ∧
    (∃ (s : State) (n : Nat) (b : Bool), s.live = true ∧ 992 ≤ n ∧ n ≤ 1012) ∧
    (∃ (s : State) (n : Nat) (b : Bool), s.live = true ∧ 992 ≤ n ∧ n ≤ 1012) ∧
    (∃ (s : State) (g : Nat), s.live = true ∧ s.field (Reg.evcHoldoff g) 16 2 = 1 ∧
      s.evc.holdAt.get g + s.field (Reg.evcHoldoff g) 0 16 * 500 ≤ s.now) ∧
    (∃ (s : State) (c n : Nat), s.live = true ∧ s.bestSource c = some n) ∧
    (∃ (s : State) (c : Nat), s.live = true ∧ s.bestSource c = none) ∧
    (∃ (s : State) (c n : Nat) (rest : List Nat), s.live = true ∧ s.stackFrozen c = false ∧ s.stack c = n :: rest) ∧
    (∃ (s : State) (c n : Nat), s.live = true ∧ s.stackFrozen c = false ∧ (s.stack c).head? ≠ some n) ∧
    (∃ (s : State) (c : Nat), s.live = true) ∧
    (∃ (s : State) (c : Nat) (v : Word), s.live = true ∧ c < 6) :=
  ⟨⟨State.reset, 5, 5, by decide⟩,
   ⟨wSrc, 0, 5, by decide⟩,
   ⟨State.reset, 16, by decide⟩,
   ⟨wSrc, 0, 5, by decide⟩,
   ⟨State.reset, 992, true, by decide⟩,
   ⟨State.reset, 1012, true, by decide⟩,
   ⟨wHoldG, 2, by decide⟩,
   ⟨wSrc, 0, 5, by decide⟩,
   ⟨State.reset, 0, by decide⟩,
   ⟨wOnStack, 0, 5, [], by decide⟩,
   ⟨wOnStack, 0, 6, by decide⟩,
   ⟨wOnStack, 0, by decide⟩,
   ⟨State.reset, 5, 0xFFFFFFFF#32, by decide⟩⟩

theorem witness_coresAndWatch :
    (∃ (s : State) (c : Nat) (v : Word), s.live = true) ∧
    (∃ (s : State) (c : Nat), s.live = true ∧ s.watchdogDue c = true ∧ s.evc.wdog.get c = false) ∧
    (∃ (s : State) (c : Nat), s.live = true ∧ s.watchdogDue c = true ∧ s.evc.wdog.get c = true) ∧
    (∃ (s : State) (c : Nat) (a : BitVec 38) (w : Bool), s.live = true) ∧
    (∃ (s : State) (c : Nat) (a : BitVec 38) (w : Bool), s.live = true) ∧
    (∃ (s : State) (c : Nat), s.live = true) ∧
    (∃ (s : State) (a b : Word), s.pwr.supply = .quiet ∧
      ((a &&& s.aow.wakeEn &&& 0xE) ≠ 0 ∨ (b &&& s.aow.pinEn &&& s.activePins s.aow.pinPol) ≠ 0)) ∧
    (∃ (s : State) (a b : Word), s.pwr.supply = .quiet ∧
      ((a &&& s.aow.wakeEn &&& 0xE) ≠ 0 ∨ (b &&& s.aow.pinEn &&& s.activePins s.aow.pinPol) ≠ 0)) ∧
    (∃ (s : State), s.pwr.supply = .quiet ∧ s.aow.wakeEn.getLsbD 0 = true ∧ s.reg Reg.aowAlarm ≠ 0) ∧
    (∃ (s : State) (k : Nat), s.pwr.supply = .on ∧ k < 21 ∧ s.bit Reg.aowPinEn k = true ∧
      (s.activePins (s.reg Reg.aowPinPol)).getLsbD k = true) ∧
    (∃ (s : State) (k : Nat), s.pwr.supply = .on ∧ 1 ≤ k ∧ k < 4 ∧ s.bit Reg.aowWakeEn k = true ∧ (s.fn 0).d3hot = true ∧
      s.pmeEnabled = true) ∧
    (∃ (s : State), s.pwr.supply = .off) :=
  ⟨⟨wDog2, 3, 0x12345#32, by decide⟩,
   ⟨wDog, 3, by decide⟩,
   ⟨wDog2, 3, by decide⟩,
   ⟨State.reset, 6, 0x3FFFFFFFFF#38, false, by decide⟩,
   ⟨State.reset, 6, 0#38, true, by decide⟩,
   ⟨State.reset, 4, by decide⟩,
   ⟨wQuiet, 0x2#32, 0#32, by decide⟩,
   ⟨wQuietPin, 0#32, 0x8#32, by decide⟩,
   ⟨(wQuiet.setNum Reg.aowAlarm 5), by decide⟩,
   ⟨wPinHigh, 20, by decide⟩,
   ⟨((State.reset.setNum Reg.aowWakeEn 0xF).updFn 0 fun f => { f with d3hot := true, cfg := f.cfg.set 0x44 0x100 }), 3,
    by decide⟩,
   ⟨({ State.reset with pwr := { State.reset.pwr with supply := .off } }), by decide⟩⟩

theorem witness_serviceDma :
    (∃ (s : State) (b : Requester) (ch : Nat) (d : SdmDesc), s.live = true ∧ ch < 8 ∧ ownsChannel b ch = true ∧
      s.bit (Reg.sdmChArm ch) 0 = false ∧ (s.sdmCh ch).active = false ∧ s.sdmState ch ≠ 5 ∧
      paceSrc (s.reg (Reg.sdmChShadowCfg ch)) = 0 ∧
      sideAllowed ch ((s.reg (Reg.sdmChShadowCfg ch)).getLsbD 0) ((s.reg (Reg.sdmChShadowDescHi ch)).setWidth 64 <<<
      32 ||| (s.reg (Reg.sdmChShadowDescLo ch)).setWidth 64).toNat 32 false = true ∧ d.malformed = false ∧
      d.allowed ch = true) ∧
    (∃ (s : State) (b : Requester) (ch : Nat) (d : SdmDesc), s.live = true ∧ ownsChannel b ch = false ∧ b = .pf0) ∧
    (∃ (s : State) (b : Requester) (ch : Nat), s.live = true ∧ ch < 8 ∧ ownsChannel b ch = true ∧
      (s.sdmCh ch).active = true ∧ s.sdm.running ≠ some ch) ∧
    (∃ (s : State) (b : Requester) (ch : Nat), s.live = true ∧ ch < 8 ∧ ownsChannel b ch = true ∧
      (s.sdmCh ch).active = true ∧ s.sdm.running = some ch) ∧
    (∃ (s : State) (b : Requester) (ch : Nat) (d : SdmDesc), s.live = true ∧ ch < 8 ∧ ownsChannel b ch = true ∧
      s.sdmState ch = 5 ∧ (s.sdmCh ch).active = false ∧ s.bit (Reg.sdmChArm ch) 0 = false) ∧
    (∃ (s : State) (ch : Nat) (n d : SdmDesc), s.live = true ∧ ch < 8 ∧
      (s.internBusy (fun k _ => k == Inner.sdm) = false) ∧ (s.sdmCh ch).bad = false ∧ (s.sdmCh ch).desc = some d ∧
      s.sdm.running = some ch ∧ (s.sdmCh ch).hostEnd = false ∧ (s.sdmCh ch).aborting = false ∧ s.sdmState ch = 2 ∧
      d.isLast = true ∧ s.bit (Reg.sdmChArm ch) 0 = false) ∧
    (∃ (s : State) (ch : Nat), s.live = true ∧ ch < 8 ∧ (s.sdmCh ch).active = true ∧ (s.sdmCh ch).paused = true ∧
      s.paceHigh ch = true) :=
  ⟨⟨State.reset, (.core 5), 1, wDesc0, by decide⟩,
   ⟨State.reset, .pf0, 1, wDesc0, by decide⟩,
   ⟨wSdmPaused, (.core 0), 1, by decide⟩,
   ⟨wSdmRun, (.core 0), 1, by decide⟩,
   ⟨(State.reset.setNum (Reg.sdmChStatus 1) 5), (.core 0), 1, wDesc0, by decide⟩,
   ⟨wSdmRun, 1, wDesc0, wDesc0, by decide⟩,
   ⟨wSdmPaused, 1, by decide⟩⟩

theorem witness_localWindows :
    (∃ (s : State) (off n : Nat) (b : Bool) (r : Nat), s.live = true ∧ 0 < n ∧ s.portNormal = true ∧ s.memOk 0 = true ∧
      s.bar4Size ≠ 0 ∧ s.lpb.drainAt = none ∧ s.winOf { off := off, size := n, write := b, req := r } = none) ∧
    (∃ (s : State) (off n : Nat) (b : Bool) (r : Nat), s.live = true ∧ 0 < n ∧ s.portNormal = true ∧ s.memOk 0 = true ∧
      s.bar4Size ≠ 0 ∧ s.lpb.drainAt = none ∧ s.winOf { off := off, size := n, write := b, req := r } = none) ∧
    (∃ (s : State) (off n r w : Nat), s.live = true ∧ 0 < n ∧ s.portNormal = true ∧ s.memOk 0 = true ∧ s.bar4Size ≠ 0 ∧
      s.lpb.drainAt = none ∧ s.winOf { off := off, size := n, write := true, req := r } = some w ∧
      s.winReady w { off := off, size := n, write := true, req := r } = true) ∧
    (∃ (s : State) (off n r w : Nat), s.live = true ∧ 0 < n ∧ s.portNormal = true ∧ s.memOk 0 = true ∧ s.bar4Size ≠ 0 ∧
      s.lpb.drainAt = none ∧ s.winOf { off := off, size := n, write := false, req := r } = some w ∧
      s.winReady w { off := off, size := n, write := false, req := r } = true) ∧
    (∃ (s : State) (off n : Nat) (b : Bool) (r : Nat), s.live = true ∧ 0 < n ∧ s.portNormal = true ∧ s.memOk 0 = true ∧
      s.bar4Size ≠ 0 ∧ s.lpb.drainAt.isSome = true) ∧
    (∃ (s : State) (off n : Nat) (f : Bool) (w : Nat), s.live = true ∧ 0 < n ∧ s.portNormal = true ∧ s.memOk 0 = true ∧
      s.bar4Size ≠ 0 ∧ s.lpb.drainAt = none ∧
      s.winOf { off := off, size := n, write := true, req := 0, atomic := some f } = some w ∧
      s.winReady w { off := off, size := n, write := true, req := 0, atomic := some f } = true) ∧
    (∃ (s : State) (w : Nat), s.live = true) ∧
    (∃ (s : State) (c w k : Nat), s.live = true ∧ (c = 4 ∨ c = 5) ∧ s.lpb.drainAt = none ∧ s.commitError = some (w, k) ∧
      w < 8 ∧ k < 16) ∧
    (∃ (s : State) (c : Nat), s.live = true ∧ (c = 4 ∨ c = 5) ∧ s.lpb.drainAt = none ∧ s.commitError = none) ∧
    (∃ (s : State), s.live = true ∧ s.lpb.drainAt.isSome = true ∧ s.lpbDrained = true) ∧
    (∃ (s : State) (a : Nat), s.live = true ∧ s.lpb.drainAt = some a ∧ a + 50000 ≤ s.now ∧ s.lpbDrained = false) :=
  ⟨⟨wWin, 0x2000, 4, true, 9, by decide⟩,
   ⟨wWin, 0xFFC, 8, false, 9, by decide⟩,
   ⟨wWin, 0x1FF0, 16, 9, 2, by decide⟩,
   ⟨wWin, 0x1000, 4, 9, 2, by decide⟩,
   ⟨wDrainOld, 0x1000, 4, true, 9, by decide⟩,
   ⟨wWin, 0x1000, 8, false, 2, by decide⟩,
   ⟨wFetched, 2, by decide⟩,
   ⟨wShadowBad, 4, 1, 1, by decide⟩,
   ⟨wShadow, 5, by decide⟩,
   ⟨wDraining, by decide⟩,
   ⟨wDrainOld, 0, by decide⟩⟩

theorem witness_localBursts :
    (∃ (s : State) (b : Burst) (rest : List Burst), s.live = true ∧ s.lpb.queue = b :: rest ∧
      s.endOf b .lastBeat = some .lastBeat ∧ b.for_ = .atomicRead false) ∧
    (∃ (s : State) (b : Burst) (rest : List Burst), s.live = true ∧ s.lpb.queue = b :: rest ∧
      s.endOf b .lastBeat = some .lastBeat ∧ b.for_ ≠ .atomicRead false ∧ s.lpb.waiting = []) ∧
    (∃ (s : State) (b : Burst) (rest : List Burst), s.live = true ∧ s.lpb.queue = b :: rest ∧
      s.endOf b .lastBeat = some .lastBeat ∧ b.for_ ≠ .atomicRead false ∧ s.lpb.waiting = []) ∧
    (∃ (s : State) (k : BurstEnd) (b : Burst) (rest : List Burst), s.live = true ∧ k ≠ .lastBeat ∧
      s.lpb.queue = b :: rest ∧ s.endOf b k = some k ∧ (b.for_ = .read ∨ b.for_ = .atomicWrite)) ∧
    (∃ (s : State) (b : Burst) (rest : List Burst), s.live = true ∧ s.lpb.queue = b :: rest ∧
      s.endOf b .waitLimit = some .waitLimit ∧ (b.for_ = .posted ∨ b.for_ = .write) ∧
      s.bit Reg.lpbFailInfo 31 = false) ∧
    (∃ (s : State) (b : Burst) (rest : List Burst) (c : Nat), s.live = true ∧ s.lpb.queue = b :: rest ∧
      b.for_ = .core c ∧ c < 8) ∧
    (∃ (s : State) (c : Nat) (a : Word) (b : Bool), s.live = true ∧ c < 8) ∧
    (∃ (s : State) (c : Nat) (a : Word) (b : Bool), s.live = true ∧ c < 8) :=
  ⟨⟨wBurstA,
    ({ for_ := (.atomicRead false), win := 2, off := 0x1004, addr := 0x20001004, beats := 1, write := false, req := 9, last := true }
    : Burst), [], by decide⟩,
   ⟨wBurstR,
    ({ for_ := .read, win := 2, off := 0x1004, addr := 0x20001004, beats := 1, write := false, req := 9, last := true }
    : Burst), [], by decide⟩,
   ⟨wBurstP,
    ({ for_ := .posted, win := 2, off := 0x1004, addr := 0x20001004, beats := 1, write := true, req := 9, last := true }
    : Burst),
    [({ for_ := .core 3, win := 8, off := 0, addr := 0x40, beats := 1, write := true, req := 0, last := true } :
    Burst)], by decide⟩,
   ⟨wBurstR, .error,
    ({ for_ := .read, win := 2, off := 0x1004, addr := 0x20001004, beats := 1, write := false, req := 9, last := true }
    : Burst), [], by decide⟩,
   ⟨wBurstOld,
    ({ for_ := .posted, win := 2, off := 0x1004, addr := 0x20001004, beats := 1, write := true, req := 9, last := true }
    : Burst),
    [({ for_ := .core 3, win := 8, off := 0, addr := 0x40, beats := 1, write := true, req := 0, last := true } :
    Burst)], by decide⟩,
   ⟨wBurstC, ({ for_ := .core 3, win := 8, off := 0, addr := 0x40, beats := 1, write := true, req := 0, last := true } :
    Burst), [], 3, by decide⟩,
   ⟨State.reset, 7, 0xFFFFFFFF#32, true, by decide⟩,
   ⟨wApG, 0, 3#32, false, by decide⟩⟩

theorem witness_localMaster :
    (∃ (s : State), s.live = true ∧ s.lpb.granted = false ∧ (s.lpb.queue = [] ∨ (s.lpbLocked = false ∧
      4 ≤ s.lpb.retries))) ∧
    (∃ (s : State), s.live = true ∧ s.lpb.granted = false ∧ (s.lpbLocked = true ∨ (s.lpb.queue ≠ [] ∧ s.lpb.retries < 4))) ∧
    (∃ (s : State) (a n : Nat), s.live = true ∧ s.lpb.granted = true ∧ s.inAperture a = true ∧ s.upBad a n = false ∧
      s.lpb.upBuf.sum + n ≤ 4096) ∧
    (∃ (s : State) (a n : Nat), s.live = true ∧ s.lpb.granted = true ∧ s.inAperture a = true ∧ s.upBad a n = false ∧
      s.lpb.upBuf.sum + n ≤ 4096) ∧
    (∃ (s : State) (a n : Nat), s.live = true ∧ s.lpb.granted = true ∧ s.inAperture a = true ∧ s.upBad a n = true) ∧
    (∃ (s : State) (a n : Nat), s.live = true ∧ s.lpb.granted = true ∧ s.inAperture a = true ∧ s.upBad a n = false ∧
      (s.lpb.upReads.find? (fun (r : UpRead) => r.addr == a && r.len == n) = none)) ∧
    (∃ (s : State) (a n : Nat), s.live = true ∧ s.lpb.granted = true ∧ s.inAperture a = true ∧ s.upBad a n = false ∧
      (s.lpb.upReads.find? (fun (r : UpRead) => r.addr == a && r.len == n) = none)) ∧
    (∃ (s : State) (a n : Nat) (r : UpRead), s.live = true ∧ s.lpb.granted = true ∧ s.inAperture a = true ∧
      s.upBad a n = false ∧ (s.lpb.upReads.find? (fun (x : UpRead) => x.addr == a && x.len == n) = some r) ∧
      r.ready.isSome = true) ∧
    (∃ (s : State) (a : Nat), s.live = true ∧
      (s.hpt.intern.any (fun e => e.kind == Inner.bridge a && !e.deliver) = false) ∧
      (s.hpt.np.any (fun (r : Np) => r.kind == NpKind.internal (Inner.bridge a) none) = false)) ∧
    (∃ (s : State) (a : Nat), s.live = true ∧
      (s.lpb.upReads.any (fun (r : UpRead) => r.addr == a && r.ready.any (fun (k : Nat) => decide (k + 500000 ≤
      s.now))) = true)) ∧
    (∃ (s : State) (k : Nat), s.live = true ∧ k < 4) ∧
    (∃ (s : State) (k : Nat), s.live = true ∧ k < 4) :=
  ⟨⟨wUp, by decide⟩,
   ⟨wBurstC, by decide⟩,
   ⟨wApG, 0x80000000, 4096, by decide⟩,
   ⟨wApRun, 0x80000000, 4096, by decide⟩,
   ⟨wApG, 0x8000FFFC, 8, by decide⟩,
   ⟨wApG, 0x80000004, 64, by decide⟩,
   ⟨wApRun, 0x80000004, 64, by decide⟩,
   ⟨wApD, 0x80000040, 8, ({ addr := 0x80000040, len := 8, ready := some 0 } : UpRead), by decide⟩,
   ⟨wApR, 0x80000040, by decide⟩,
   ⟨wApD, 0x80000040, by decide⟩,
   ⟨wUp, 0, by decide⟩,
   ⟨wUp, 3, by decide⟩⟩

theorem witness_telemetryAndMetering :
    (∃ (s : State) (e : Nat), s.live = true ∧ e < 64 ∧ s.bit Reg.tlnCtl 0 = true ∧ sampleOn (s.sampleCfg e) = true ∧
      s.frame % samplePeriod (s.sampleCfg e) = 0) ∧
    (∃ (s : State) (e : Nat), s.live = true ∧ e < 64 ∧ s.bit Reg.tlnCtl 0 = true ∧ sampleOn (s.sampleCfg e) = true ∧
      s.frame % samplePeriod (s.sampleCfg e) = 0) ∧
    (∃ (s : State) (e : Nat) (r : BusResult) (raw : Nat), s.live = true ∧ s.tln.busy.contains e = true ∧
      s.rawWord e r = some raw) ∧
    (∃ (s : State) (e : Nat) (r : BusResult), s.live = true ∧ s.tln.busy.contains e = true ∧ s.rawWord e r = none) ∧
    (∃ (s : State) (r : Nat), s.live = true ∧ r < 32 ∧ s.tln.recCfg.get r % 65536 ≠ 0 ∧
      s.frame % (s.tln.recCfg.get r % 65536) = 0) ∧
    (∃ (s : State) (k : Nat), s.live = true ∧ k < 1024) ∧
    (∃ (s : State) (v : Word), s.live = true ∧ s.bit Reg.tlnXferCtl 31 = false ∧ 1 ≤ wordField v 0 3 ∧
      wordField v 0 3 ≤ 3 ∧ (wordField v 0 3 = 3 → v.getLsbD 10 = false) ∧ 1 ≤ wordField v 11 4 ∧
      wordField v 11 4 ≤ 8 ∧ s.busTarget (wordField v 0 3) (wordField v 3 7) = true) ∧
    (∃ (s : State) (v : Word), s.live = true ∧ s.bit Reg.tlnXferCtl 31 = false ∧ 1 ≤ wordField v 0 3 ∧
      wordField v 0 3 ≤ 3 ∧ (wordField v 0 3 = 3 → v.getLsbD 10 = false) ∧ 1 ≤ wordField v 11 4 ∧
      wordField v 11 4 ≤ 8 ∧ s.busTarget (wordField v 0 3) (wordField v 3 7) = true) ∧
    (∃ (s : State) (v : Word), s.live = true ∧ s.bit Reg.tlnXferCtl 31 = false ∧
      (wordField v 0 3 = 0 ∨ 3 < wordField v 0 3 ∨ (wordField v 0 3 = 3 ∧
      v.getLsbD 10 = true) ∨ wordField v 11 4 = 0 ∨ 8 < wordField v 11 4 ∨ s.busTarget (wordField v 0 3) (wordField v
      3 7) = false)) ∧
    (∃ (s : State) (k : BusResult), s.live = true ∧ s.bit Reg.tlnXferCtl 31 = true ∧ s.tln.xferWait = false) ∧
    (∃ (s : State) (k : BusResult), s.live = true ∧ s.bit Reg.tlnXferCtl 31 = true ∧ s.tln.xferWait = false) ∧
    (∃ (s : State) (c : ClaimRec) (x : Minute), s.live = true ∧ s.sec.claim = some c ∧ c.mtrKey.isEmpty = false ∧
      ((s.mtr.archive.filter (fun (m : Minute) => m.root.isNone)).getLast? = some x)) ∧
    (∃ (s : State) (v : Word), s.live = true) ∧
    (∃ (s : State) (v : Word), s.live = true) ∧
    (∃ (s : State) (v : Word), s.live = true) :=
  ⟨⟨wLens, 63, by decide⟩,
   ⟨wLensBusy, 63, by decide⟩,
   ⟨wLensBus, 5, .ok [0x34, 0x12], 0x1234, by decide⟩,
   ⟨wLensBus, 5, .pec, by decide⟩,
   ⟨wLens, 31, by decide⟩,
   ⟨State.reset, 1023, by decide⟩,
   ⟨wBar4, 0x4101#32, by decide⟩,
   ⟨wBar4Busy, 0x4101#32, by decide⟩,
   ⟨wBar4, 0x4801#32, by decide⟩,
   ⟨wXferGo, .ok [1, 2], by decide⟩,
   ⟨wXferGo, .pec, by decide⟩,
   ⟨wMin, wClaim, { minute := 7, partial_ := false, noTod := false, records := [], root := none, ring := true }, by
    decide⟩,
   ⟨State.reset, 5#32, by decide⟩,
   ⟨wMin, 5#32, by decide⟩,
   ⟨wMin, 0#32, by decide⟩⟩

theorem witness_managementEndpoint :
    (∃ (s : State) (e : Nat), s.pwr.supply = Supply.on ∧ 1 ≤ e ∧ e ≤ 254) ∧
    (∃ (s : State) (e : Nat), s.pwr.supply = Supply.on ∧ 1 ≤ e ∧ e ≤ 254) ∧
    (∃ (s : State), s.pwr.supply = Supply.on) ∧
    (∃ (s : State), s.pwr.supply = Supply.on) ∧
    (∃ (s : State), s.pwr.supply = Supply.on) ∧
    (∃ (s : State), s.pwr.supply = Supply.on) ∧
    (∃ (s : State), s.pwr.supply = Supply.on) ∧
    (∃ (s : State) (k : Nat), s.pwr.supply = Supply.on) ∧
    (∃ (s : State) (k : Nat), s.pwr.supply = Supply.on) ∧
    (∃ (s : State), s.pwr.supply = Supply.on) ∧
    (∃ (s : State) (f : Nat), s.pwr.supply = Supply.on ∧ s.fnExists f = true) ∧
    (∃ (s : State) (k v : Nat), s.pwr.supply = Supply.on ∧ ((k = 1 ∧ 1 ≤ v ∧ v ≤ 3) ∨ (k = 3 ∧ 64 ≤ v ∧ v ≤ 250))) ∧
    (∃ (s : State) (k v : Nat), s.pwr.supply = Supply.on ∧ ((k = 1 ∧ 1 ≤ v ∧ v ≤ 3) ∨ (k = 3 ∧ 64 ≤ v ∧ v ≤ 250))) ∧
    (∃ (s : State) (k : Nat), s.pwr.supply = Supply.on) ∧
    (∃ (s : State) (k : Nat), s.pwr.supply = Supply.on) ∧
    (∃ (s : State) (a n : Nat) (d : BoardDesc), s.pwr.supply = Supply.on ∧ s.pwr.desc = some d ∧
      a + n ≤ (d.vpd.take 256).length) ∧
    (∃ (s : State) (k : Nat), s.pwr.supply = Supply.on) :=
  ⟨⟨State.reset, 1, by decide⟩,
   ⟨State.reset, 254, by decide⟩,
   ⟨State.reset, by decide⟩,
   ⟨State.reset, by decide⟩,
   ⟨State.reset, by decide⟩,
   ⟨State.reset, by decide⟩,
   ⟨State.reset, by decide⟩,
   ⟨State.reset, 4, by decide⟩,
   ⟨State.reset, 5, by decide⟩,
   ⟨State.reset, by decide⟩,
   ⟨State.reset, 0, by decide⟩,
   ⟨State.reset, 1, 3, by decide⟩,
   ⟨State.reset, 3, 250, by decide⟩,
   ⟨State.reset, 3, by decide⟩,
   ⟨State.reset, 4, by decide⟩,
   ⟨wBar4, 0, 0, wBoard, by decide⟩,
   ⟨State.reset, 99, by decide⟩⟩

theorem witness_startUp :
    (∃ (s : State) (f h p l c : Bool), s.pwr.supply = Supply.off) ∧
    (∃ (s : State) (f h p l c : Bool), s.pwr.supply = Supply.quiet) ∧
    (∃ (s : State), s.live = true ∧ s.bit Reg.pwrStatus 4 = false ∧ s.pwr.resetting = none ∧ s.bootStage = 0) ∧
    (∃ (s : State) (a b : Option SlotImage) (p : Bool) (mhz n : Nat), s.live = true ∧ s.bit Reg.pwrStatus 4 = false ∧
      s.pwr.resetting = none ∧ s.bootStage = 1 ∧ s.sec.slotA = none ∧ s.sec.slotB = none ∧ a = none ∧ b = none) ∧
    (∃ (s : State) (b : List Byte), s.live = true ∧ s.bit Reg.pwrStatus 4 = false ∧ s.pwr.resetting = none ∧
      s.bootStage = 2 ∧ s.pwr.desc = none) ∧
    (∃ (s : State) (g n r w : Nat) (b : List Byte), s.live = true ∧ s.bit Reg.pwrStatus 4 = false ∧
      s.pwr.resetting = none ∧ s.bootStage = 3) ∧
    (∃ (s : State) (g n r w : Nat) (b : List Byte) (d : BoardDesc), s.live = true ∧ s.bit Reg.pwrStatus 4 = false ∧
      s.pwr.resetting = none ∧ s.bootStage = 3 ∧ s.pwr.desc = some d ∧
      (d.ddrGib ≠ g ∨ d.ddrChannels ≠ n ∨ d.ddrRanks ≠ r ∨ d.ddrWidth ≠ w)) :=
  ⟨⟨wOff, false, true, false, true, false, by decide⟩,
   ⟨wLowP, false, true, false, true, false, by decide⟩,
   ⟨wBoot, by decide⟩,
   ⟨(wBoot.setField Reg.pwrStatus 0 3 1), none, none, false, 133, 67108864, by decide⟩,
   ⟨(wBoot.setField Reg.pwrStatus 0 3 2), [], by decide⟩,
   ⟨(wBoot.setField Reg.pwrStatus 0 3 3), 64, 2, 1, 8, [], by decide⟩,
   ⟨wBoot3, 32, 2, 1, 8, [], wBoard, by decide⟩⟩

theorem witness_deviceResets :
    (∃ (s : State), s.pwr.supply = Supply.on ∧ s.pwr.perst = false ∧ s.pwr.resetting = none ∧ s.pwr.stop = Stop.none) ∧
    (∃ (s : State), s.pwr.supply = Supply.on) ∧
    (∃ (s : State) (b : Bool), s.pwr.supply = Supply.on ∧ s.pwr.resetting = none ∧ s.pwr.stop = Stop.none) ∧
    (∃ (s : State) (b : Bool), s.pwr.supply = Supply.on ∧ s.pwr.resetting = none ∧ s.pwr.stop = Stop.none) ∧
    (∃ (s : State) (c : Nat), s.live = true ∧ c < 6 ∧ s.pwr.resetting = none) ∧
    (∃ (s : State) (c : Nat), s.pwr.resetting = some c ∧ 2 ≤ c ∧ c ≤ 5 ∧ s.pwr.stop = Stop.none ∧
      s.bit Reg.pwrStatus 3 = false) :=
  ⟨⟨wOnU, by decide⟩,
   ⟨State.reset, by decide⟩,
   ⟨State.reset, true, by decide⟩,
   ⟨State.reset, false, by decide⟩,
   ⟨State.reset, 5, by decide⟩,
   ⟨wResetting, 3, by decide⟩⟩

theorem witness_powerAndMemories :
    (∃ (s : State), s.live = true) ∧
    (∃ (s : State), s.live = true ∧ s.pwr.turnOff = true ∧ s.pwr.l23 = false ∧ s.cmds.any s.mustComplete = false ∧
      s.destaged = true) ∧
    (∃ (s : State), s.pwr.supply = Supply.on ∧ s.pwr.l23 = true) ∧
    (∃ (s : State), s.pwr.supply = Supply.on ∧ s.pwr.l23 = false) ∧
    (∃ (s : State) (r : Nat), s.pwr.supply = Supply.on ∧ r < 9 ∧ s.bit Reg.pwrRailStatus r = true) ∧
    (∃ (s : State), s.pwr.supply = Supply.on ∧ s.pwr.stop = Stop.none) ∧
    (∃ (s : State) (n : Nat), s.live = true ∧ s.bit Reg.ddrStatus 0 = true ∧
      s.passDue s.pwr.patrolAt (3600 * max 1 (s.field Reg.ddrPatrolPeriod 0 16)) 2 = true) ∧
    (∃ (s : State) (a : Nat) (h : MemHit), s.live = true ∧ s.bit Reg.ddrStatus 0 = true ∧
      s.passDue s.pwr.patrolAt (3600 * max 1 (s.field Reg.ddrPatrolPeriod 0 16)) 2 = true) ∧
    (∃ (s : State) (n : Nat), s.live = true ∧ s.bit Reg.srmStatus 0 = true ∧
      s.passDue s.pwr.scrubAt (s.field Reg.srmScrubPeriod 0 16) 3 = true) ∧
    (∃ (s : State) (v : Word), s.live = true) :=
  ⟨⟨State.reset, by decide⟩,
   ⟨wTurnOff, by decide⟩,
   ⟨wL23, by decide⟩,
   ⟨State.reset, by decide⟩,
   ⟨wRails, 8, by decide⟩,
   ⟨State.reset, by decide⟩,
   ⟨wDdr, 3, by decide⟩,
   ⟨wDdr, 0x123456789, .map, by decide⟩,
   ⟨wDdr, 2, by decide⟩,
   ⟨State.reset, 7#32, by decide⟩⟩

theorem witness_registerAccess :
    (∃ (s : State) (b : Requester) (off : Nat) (v m : Word) (i : Nat), s.live = true ∧
      off ∈ ([Reg.ftbEvent, Reg.prxEvent, Reg.mchEvent, Reg.rdpEvent, Reg.wrpEvent, Reg.mcrEvent, Reg.hptEvent,
      Reg.fnmEvent, Reg.qenEvent, Reg.tcyEvent, Reg.mtrEvent, Reg.secEvent, Reg.mlkEvent, Reg.ddrEvent, Reg.aowEvent,
      Reg.lpbEvent, Reg.tlnEvent, Reg.pwrEvent, Reg.sppEvent, Reg.srmEvent] : List Nat) ∧
      s.bit Reg.pwrStatus 4 = false ∧ (b = .pf0 ∨ b = .core 0) ∧ i < 32) ∧
    (∃ (s : State) (b : Requester) (off : Nat) (v m : Word) (i : Nat), s.live = true ∧
      off ∈ ([Reg.ftbEvent, Reg.prxEvent, Reg.mchEvent, Reg.rdpEvent, Reg.wrpEvent, Reg.mcrEvent, Reg.hptEvent,
      Reg.fnmEvent, Reg.qenEvent, Reg.tcyEvent, Reg.mtrEvent, Reg.secEvent, Reg.mlkEvent, Reg.ddrEvent, Reg.aowEvent,
      Reg.lpbEvent, Reg.tlnEvent, Reg.pwrEvent, Reg.sppEvent, Reg.srmEvent] : List Nat) ∧
      s.bit Reg.pwrStatus 4 = false ∧ (b = .pf0 ∨ b = .core 0) ∧ i < 32) ∧
    (∃ (s : State) (b : Requester) (off : Nat) (v m : Word) (i : Nat), s.live = true ∧
      off ∈ ([Reg.ftbEvent, Reg.prxEvent, Reg.mchEvent, Reg.rdpEvent, Reg.wrpEvent, Reg.mcrEvent, Reg.hptEvent,
      Reg.fnmEvent, Reg.qenEvent, Reg.tcyEvent, Reg.mtrEvent, Reg.secEvent, Reg.mlkEvent, Reg.ddrEvent, Reg.aowEvent,
      Reg.lpbEvent, Reg.tlnEvent, Reg.pwrEvent, Reg.sppEvent, Reg.srmEvent] : List Nat) ∧
      s.bit Reg.pwrStatus 4 = false ∧ (b = .pf0 ∨ b = .core 0) ∧ i < 32) ∧
    (∃ (s : State) (off : Nat) (v m : Word), s.live = true ∧ regDef off = none) ∧
    (∃ (s : State) (r : MemReq), s.live = true ∧ s.dlUp = true ∧ r.by_ = .pf0 ∧ s.bit Reg.hptStatus 15 = false ∧
      r.malformed = false ∧ r.poisoned = false ∧ r.atomic = false ∧ s.memOk r.fn = true ∧ s.hasWindow r = true ∧
      s.portNormal = true ∧ r.bar ≠ 4 ∧ r.aligned = false) ∧
    (∃ (s : State) (r : MemReq), s.live = true ∧ s.dlUp = true ∧ r.by_ = .pf0 ∧ s.bit Reg.hptStatus 15 = false ∧
      r.malformed = false ∧ r.poisoned = false ∧ r.atomic = false ∧ s.memOk r.fn = true ∧ s.portNormal = true ∧
      r.bar = 0 ∧ r.addr = 0x0C ∧ r.size = 4 ∧ r.write = true ∧ (s.fn r.fn).frozenNow = false) ∧
    (∃ (s : State) (r : MemReq), s.live = true ∧ s.dlUp = true ∧ r.by_ = .pf0 ∧ s.bit Reg.hptStatus 15 = false ∧
      r.malformed = false ∧ r.poisoned = false ∧ r.atomic = false ∧ r.fn = 0 ∧ s.memOk 0 = true ∧ r.bar = 2 ∧
      r.size = 4 ∧ r.addr % 4 = 0 ∧ r.write = false ∧ regDef r.addr = none ∧ 0x100000 ≤ r.addr) ∧
    (∃ (s : State) (r : MemReq) (c : Nat) (v : Word) (u : State), s.live = true ∧ r.by_ = .core c ∧ c < 6 ∧ r.size = 4 ∧
      r.addr % 4 = 0 ∧ r.bar = 2 ∧ r.write = false ∧ s.readReg (.core c) r.addr = (v, u)) ∧
    (∃ (s : State) (r : CfgReq), s.live = true ∧ s.dlUp = true ∧ s.bit Reg.hptStatus 15 = false ∧ s.retryStatus = true) ∧
    (∃ (s : State) (r : CfgReq), s.live = true ∧ s.dlUp = true ∧ s.bit Reg.hptStatus 15 = false ∧ s.retryStatus = false ∧
      r.fn = 0 ∧ r.write = false ∧ r.offset % 4096 / 4 = 0) ∧
    (∃ (s : State) (r : CfgReq), s.live = true ∧ s.dlUp = true ∧ s.bit Reg.hptStatus 15 = false ∧ s.retryStatus = false ∧
      r.fn = 0 ∧ (s.fn 0).life ≠ .flr ∧ r.write = true ∧ r.offset % 4096 / 4 = 0xA4 ∧ s.bit Reg.pwrStatus 4 = false) :=
  ⟨⟨State.reset, .pf0, Reg.mlkEvent, 0xFFFFFFFF#32, 0#32, 31, by decide⟩,
   ⟨wEv, .core 0, Reg.ftbEvent, 2#32, 0#32, 1, by decide⟩,
   ⟨wEv, .pf0, Reg.ftbEvent, 3#32, 2#32, 1, by decide⟩,
   ⟨State.reset, 0x400FF0, 5#32, 0#32, by decide⟩,
   ⟨wBar4,
    { fn := 0, bar := 2, addr := 0x400002, size := 4, write := false, data := 0, poisoned := false, malformed := false, atomic := false },
    by decide⟩,
   ⟨wBar4,
    { fn := 0, bar := 0, addr := 0xC, size := 4, write := true, data := 9, poisoned := false, malformed := false, atomic := false },
    by decide⟩,
   ⟨wBar4,
    { fn := 0, bar := 2, addr := 0x400FF0, size := 4, write := false, data := 0, poisoned := false, malformed := false, atomic := false },
    by decide⟩,
   ⟨wBar4,
    { fn := 0, bar := 2, addr := 0xF00000, size := 4, write := false, data := 0, poisoned := false, malformed := false, atomic := false, by_ := .core 2 },
    2, (wBar4.readReg (.core 2) 0xF00000).1, (wBar4.readReg (.core 2) 0xF00000).2, by and_intros <;> first | decide |
    rfl⟩,
   ⟨(wCfg.setField Reg.pwrStatus 0 3 2), { fn := 0, offset := 0, write := false, data := 0 }, by decide⟩,
   ⟨wCfg, { fn := 0, offset := 1, write := false, data := 0 }, by decide⟩,
   ⟨wCfg, { fn := 0, offset := 0x290, write := true, data := 4096 }, by decide⟩⟩

theorem witness_tickInvariant :
    (TickOk State.reset ∧ step State.reset = .next State.reset.idleTick) :=
  ⟨by unfold TickOk; decide, rfl⟩

theorem witness_sessionInvariant :
    (SessionsOk State.reset ∧ step State.reset = .next State.reset.idleTick) :=
  ⟨by unfold SessionsOk; decide, rfl⟩

theorem witness_firmwareInvariant :
    (FirmwareOk State.reset ∧ step State.reset = .next State.reset.idleTick) :=
  ⟨⟨by decide, fun x h => nomatch h⟩, rfl⟩

theorem witness_fusesOnlyByCommit :
    (∃ t, exec (.rollbackCommit 3 9) wSvn = .next t ∧ t.sec.rollback ≠ wSvn.sec.rollback) ∧
    ((wSvn.setBit Reg.secStatus 2 true).live = true ∧ (wSvn.setBit Reg.secStatus 2 true).pskSession 3 = true ∧
      (wSvn.setBit Reg.secStatus 2 true).bit Reg.secStatus 2 = true) ∧
    (wSvn.live = true ∧ wSvn.pskSession 3 = true ∧ wSvn.bit Reg.secStatus 2 = false ∧ wSvn.sec.rollback < wSvn.runningSvn) ∧
    (wPsk.live = true ∧ wPsk.pskSession 3 = true ∧ wPsk.bit Reg.secStatus 2 = false ∧ wPsk.sec.rollback = wPsk.runningSvn) ∧
    (FirmwareOk State.reset ∧ step State.reset = .next State.reset.idleTick) :=
  ⟨⟨_, rfl, by decide⟩,
   by decide,
   by decide,
   by decide,
   ⟨⟨by decide, fun x h => nomatch h⟩, rfl⟩⟩

theorem witness_stoppedDevice :
    (wTripped.live = false ∧ actsStopped Instr.frefLost = false) :=
  by decide

theorem witness_registersTakeTheirWriters :
    (∃ d, regDef (Reg.lpbWinShadowBase 3) = some d ∧ d.takes (.core 2) (Reg.lpbWinShadowBase 3) = false) :=
  ⟨_, rfl, by decide⟩

theorem witness_managementNeedsASession :
    (sessionOf (.keyGenerate 5 1 9) = some 5 ∧ wPsk.securedIn 5 = false) ∧
    (∃ t, sessionOf (.keyGenerate 5 1 9) = some 5 ∧ wGone.live = true ∧ wGone.securedIn 5 = true ∧ wGone.sess? 5 = none ∧
      exec (.keyGenerate 5 1 9) wGone = .next t) ∧
    (∃ x t, sessionOf (.query 3 1) = some 3 ∧ wOpen.sess? 3 = some x ∧ x.psk = false ∧ exec (.query 3 1) wOpen = .next t) :=
  ⟨⟨rfl, by decide⟩,
   ⟨_, rfl, by decide, by decide, by decide, rfl⟩,
   ⟨_, _, rfl, rfl, rfl, rfl⟩⟩

theorem witness_deviceResetKeeps :
    (∃ t, wResetting.pwr.resetting = some 3 ∧ wResetting.pwr.stop = .none ∧ wResetting.bit Reg.pwrStatus 3 = false ∧
      exec .deviceResetShutdownDone wResetting = .next t) :=
  ⟨_, by decide, by decide, by decide, rfl⟩

theorem witness_functionIsolation :
    (∃ t, wTwo.fnExists 1 = true ∧ exec (.sqTailDoorbell 1 0 3) wTwo = .next t ∧ (0 : Nat) ≠ 1) ∧
    (∃ t, exec (.flush
      { id := { fn := 0, qid := 1, cid := 9 }, opcode := 0, nsid := 0, cdw10 := 0, cdw11 := 0, cdw12 := 0, cdw13 := 0, cdw14 := 0, cdw15 := 0, psdt := 0, prp1 := 0, prpOk := true, sglTypeOk := true, sglLenOk := true })
      wTwo = .next t ∧
      wTwo.takes
      { id := { fn := 0, qid := 1, cid := 9 }, opcode := 0, nsid := 0, cdw10 := 0, cdw11 := 0, cdw12 := 0, cdw13 := 0, cdw14 := 0, cdw15 := 0, psdt := 0, prp1 := 0, prpOk := true, sglTypeOk := true, sglLenOk := true }
      false = true) :=
  ⟨⟨_, by decide, rfl, by decide⟩,
   ⟨_, rfl, by decide⟩⟩

theorem witness_accessRules :
    (wBar4.memOk 0 = true ∧ wBar4.portNormal = true ∧ wBar4.dlUp = true ∧ wBar4.live = true ∧
      wBar4.hasWindow { wReq with write := true, addr := 0x400002 } = true ∧
      MemReq.aligned { wReq with write := true, addr := 0x400002 } = false) ∧
    (wBar4.hasWindow { wReq with size := 2 } = true ∧ MemReq.aligned { wReq with size := 2 } = false ∧ wReq.bar ≠ 4) ∧
    (wBar4.hasWindow { wReq with write := true } = true ∧ regDef wReq.addr = none ∧ 0x100000 ≤ wReq.addr ∧
      wReq.addr % 4 = 0) ∧
    (regDef 0xFFFFC = none ∧ (ftWords wBar4.pwr.straps.pairId).length ≤ 0xFFFFC / 4 ∧ 0xFFFFC % 4 = 0) :=
  ⟨by decide,
   by decide,
   by decide,
   by decide⟩

theorem witness_timeOfDayBusy :
    ((State.reset.setBit Reg.ftbTodCtl 0 true).live = true ∧
      (State.reset.setBit Reg.ftbTodCtl 0 true).bit Reg.ftbTodCtl 0 = true ∧
      (State.reset.setBit Reg.ftbTodCtl 0 true).bit Reg.pwrStatus 4 = false) :=
  by decide

theorem witness_unpendRule :
    (wSrc.live = true ∧ wSrc.srcActive 991 = false ∧ wSrc.srcPending 5 = true) ∧
    ((992 : Nat) ≤ 992 ∧ State.reset.live = true) :=
  ⟨by decide,
   by decide⟩

theorem witness_upstreamRegisters :
    (State.reset.live = true ∧ State.reset.bit Reg.pwrStatus 4 = false ∧ State.reset.bit Reg.lpbUpSize 31 = false ∧
      State.reset.lpb.upBuf = [] ∧ State.reset.lpb.upReads = []) ∧
    (∃ t, wApG.bit Reg.lpbUpSize 31 = true ∧ exec (.registerWrite (.core 4) Reg.lpbUpLocal ⟨5, 0⟩) wApG = .next t) :=
  ⟨by decide,
   ⟨_, by decide, rfl⟩⟩

end Sys2Proof.Machine
end

section
/-! SUPPORT. What a host access to a register window does (R13 to R15): the link leaves L1 for it and keeps everything that
decides whether the access is served; then BAR0 or BAR2 answers it. -/
namespace Sys2Proof.Machine

/-! ## What a TLP on the link keeps -/

/-- `State.linkBusy` writes no register but HPT_STATUS. -/
theorem State.reg_linkBusy_ne (s : State) (r : Nat) (h : Reg.hptStatus ≠ r) : s.linkBusy.reg r = s.reg r := by
  unfold State.linkBusy
  dsimp only
  split
  · calc (((s.setBit Reg.hptStatus 15 false).setField Reg.hptStatus 16 2 0).emit (.host 7 0 0)).reg r
        = ((s.setBit Reg.hptStatus 15 false).setField Reg.hptStatus 16 2 0).reg r := rfl
      _ = (s.setBit Reg.hptStatus 15 false).reg r := by rw [State.reg_setField, if_neg h]
      _ = s.reg r := State.reg_setBit_ne _ _ _ _ _ h
  · rfl

@[simp] theorem State.linkBusy_fns (s : State) : s.linkBusy.fns = s.fns :=
  fns_of_without (State.linkBusy_without s (List.Subset.refl _)) (by decide)

@[simp] theorem State.linkBusy_pwr (s : State) : s.linkBusy.pwr = s.pwr :=
  pwr_of_without (State.linkBusy_without s (List.Subset.refl _)) (by decide) (by decide)

@[simp] theorem State.linkBusy_portNormal (s : State) : s.linkBusy.portNormal = s.portNormal := by
  simp only [State.portNormal, State.field_of_reg (s.reg_linkBusy_ne Reg.hptContainStatus (by decide))]

@[simp] theorem State.linkBusy_fn (s : State) (f : Nat) : s.linkBusy.fn f = s.fn f := by
  rw [State.fn, State.fn, State.linkBusy_fns]

@[simp] theorem State.linkBusy_fnExists (s : State) (f : Nat) : s.linkBusy.fnExists f = s.fnExists f := by
  have numVfs : s.linkBusy.numVfs = s.numVfs := State.field_of_reg (s.reg_linkBusy_ne _ (by decide)) ..
  have vfEnable : s.linkBusy.vfEnable = s.vfEnable := State.bit_of_reg (s.reg_linkBusy_ne _ (by decide)) _
  rw [State.fnExists, State.fnExists, numVfs, vfEnable]

@[simp] theorem State.linkBusy_mseOf (s : State) (f : Nat) : s.linkBusy.mseOf f = s.mseOf f := by
  rw [State.mseOf, State.mseOf, State.linkBusy_fn, State.bit_of_reg (s.reg_linkBusy_ne Reg.fnmStatus (by decide))]

@[simp] theorem State.linkBusy_memOk (s : State) (f : Nat) : s.linkBusy.memOk f = s.memOk f := by
  simp only [State.memOk, State.linkBusy_fnExists, State.linkBusy_mseOf, State.linkBusy_fn]

@[simp] theorem State.linkBusy_hasWindow (s : State) (r : MemReq) : s.linkBusy.hasWindow r = s.hasWindow r := by
  simp only [State.hasWindow, State.bar4Size, State.linkBusy_pwr]

/-! ## A served access -/

/-- The host's request `r` reaches BAR0 or BAR2: it is well formed, the function answers memory requests there and the Host
Port serves it (R13, R340, R341, Table 9-11). -/
structure State.ServesWindow (s : State) (r : MemReq) : Prop where
  host : r.by_ = .pf0
  wellFormed : r.malformed = false
  clean : r.poisoned = false
  plain : r.atomic = false
  memOk : s.memOk r.fn = true
  window : s.hasWindow r = true
  port : s.portNormal = true ∨ r.bar = 2
  up : s.dlUp = true
  live : s.live = true
  notBar4 : r.bar ≠ 4

theorem exec_memRequestRx_of_servesWindow {s : State} {r : MemReq} (h : s.ServesWindow r) :
    exec (.memRequestRx r) s = .next (if r.write then s.linkBusy.windowWrite r else s.linkBusy.windowRead r) := by
  obtain ⟨host, wellFormed, clean, plain, memOk, window, port, up, live, notBar4⟩ := h
  have served : ¬ (¬ s.linkBusy.memOk r.fn ∨ ¬ s.linkBusy.hasWindow r ∨ (¬ s.linkBusy.portNormal ∧ r.bar ≠ 2) ∨
      (r.atomic ∧ r.bar ≠ 4)) := by
    simpa [memOk, window, plain, or_iff_not_imp_left] using port
  change execMemRequestRx r s = _
  rw [execMemRequestRx, State.whenLive_live _ _ live, host]
  simp only [State.memRequest, up, wellFormed, clean, served, notBar4, not_true, Bool.false_eq_true, false_and, if_false]

/-! ## Another size or alignment (R14) -/

theorem State.windowWrite_of_not_aligned (s : State) {r : MemReq} (h : r.aligned = false) : s.windowWrite r = s := by
  simp [State.windowWrite, h]

theorem State.windowRead_of_not_aligned (s : State) {r : MemReq} (host : r.by_ = .pf0) (h : r.aligned = false) :
    s.windowRead r = s.emit (.cpl r.fn 0 0) := by
  simp [State.windowRead, answerOf, host, h]

/-! ## Reserved offsets of BAR2 (R15) -/

/-- A reserved offset: no row of the map holds it, nor a word of the Feature Table, which `s` shows below 0x100000. -/
def State.reservedAt (s : State) (off : Nat) : Prop :=
  regDef off = none ∧ (0x100000 ≤ off ∨ (ftWords s.pwr.straps.pairId).length ≤ off / 4)

theorem State.writeReg_of_regDef_none (s : State) {off : Nat} (value sets : Word) (h : regDef off = none) :
    s.writeReg .pf0 off value sets = s := by
  simp [State.writeReg, h]

theorem State.readReg_of_reservedAt {s : State} {off : Nat} (by_ : Requester) (h : s.reservedAt off) :
    s.readReg by_ off = (0, s) := by
  obtain ⟨noRow, place⟩ := h
  unfold State.readReg
  split
  · rfl
  · split
    next below =>
      have noWord : (ftWords s.pwr.straps.pairId).length ≤ off / 4 := place.resolve_left (by omega)
      rw [List.getD_eq_default _ _ noWord]
      rfl
    next => rw [noRow]

/-- A request for one register of BAR2 at a reserved offset, by the host. -/
structure State.ReservedAccess (s : State) (r : MemReq) : Prop where
  host : r.by_ = .pf0
  bar : r.bar = 2
  size : r.size = 4
  aligned : r.addr % 4 = 0
  reserved : s.reservedAt r.addr

theorem State.windowWrite_of_reservedAccess {s : State} {r : MemReq} (h : s.ReservedAccess r) : s.windowWrite r = s := by
  obtain ⟨host, bar, size, aligned, noRow, -⟩ := h
  simp [State.windowWrite, MemReq.aligned, State.dwordWrite, host, bar, size, aligned,
    State.writeReg_of_regDef_none _ _ _ noRow]

theorem State.windowRead_of_reservedAccess {s : State} {r : MemReq} (h : s.ReservedAccess r) :
    s.windowRead r = s.emit (.cpl r.fn 0 0) := by
  obtain ⟨host, bar, size, aligned, reserved⟩ := h
  simp [State.windowRead, MemReq.aligned, State.dwordRead, answerOf, host, bar, size, aligned,
    State.readReg_of_reservedAt _ reserved]

/-! ## The access rules -/

/-- Settles O51: a served access leaves the link busy and is then the window's; the window discards a misaligned access and
one at a reserved offset, and answers its read with 0. -/
theorem accessRules : Obligations.AccessRules := by
  unfold Obligations.AccessRules
  refine ⟨?misalignedWrite, ?misalignedRead, ?reservedWrite, ?reservedRead⟩
  case misalignedWrite =>
    intro s r host wellFormed clean plain memOk window port up live bar misaligned write
    rw [exec_memRequestRx_of_servesWindow ⟨host, wellFormed, clean, plain, memOk, window, port, up, live, bar⟩, if_pos write,
      State.windowWrite_of_not_aligned _ misaligned]
  case misalignedRead =>
    intro s r host wellFormed clean plain memOk window port up live bar misaligned read
    rw [exec_memRequestRx_of_servesWindow ⟨host, wellFormed, clean, plain, memOk, window, port, up, live, bar⟩, read,
      if_neg Bool.false_ne_true, State.windowRead_of_not_aligned _ host misaligned]
  case reservedWrite =>
    intro s r host wellFormed clean plain memOk window port up live bar size aligned noRow place write
    have reserved : s.linkBusy.ReservedAccess r := ⟨host, bar, size, aligned, noRow, by rwa [State.linkBusy_pwr]⟩
    rw [exec_memRequestRx_of_servesWindow ⟨host, wellFormed, clean, plain, memOk, window, port, up, live, by omega⟩,
      if_pos write, State.windowWrite_of_reservedAccess reserved]
  case reservedRead =>
    intro s r host wellFormed clean plain memOk window port up live bar size aligned noRow place read
    have reserved : s.linkBusy.ReservedAccess r := ⟨host, bar, size, aligned, noRow, by rwa [State.linkBusy_pwr]⟩
    rw [exec_memRequestRx_of_servesWindow ⟨host, wellFormed, clean, plain, memOk, window, port, up, live, by omega⟩, read,
      if_neg Bool.false_ne_true, State.windowRead_of_reservedAccess reserved]

end Sys2Proof.Machine
end

section
/-! SUPPORT. The time of day while ARM is 1 (R57): a register write of FTB_TOD_SEC or FTB_TOD_SEC_HI is the command's
operation, which then raises FTB_EVENT.TOD_BUSY and stores nothing. -/
namespace Sys2Proof.Machine

/-! ## A register write that every requester may make -/

/-- PF0 or a control core, whose writes no allowance of core 6 or 7 limits (Table 13-2). -/
def WritesUnlimited (by_ : Requester) : Prop := by_ = .pf0 ∨ ∃ c, by_ = .core c ∧ c < 6

/-- The block of every register answers except in a recovery boot (R598). -/
theorem State.blockServed_of_not_recovery {s : State} (off : Nat) (normal : s.bit Reg.pwrStatus 4 = false) :
    s.blockServed off = true := by
  simp [State.blockServed, normal]

/-- Below EVC, a register that takes writes of any requester acts by `State.actLow` alone. -/
theorem State.writeReg_eq_actLow {s : State} {by_ : Requester} {off : Nat} {d : RegDef} (value sets : Word)
    (unlimited : WritesUnlimited by_) (row : regDef off = some d) (anyone : d.writer = .any)
    (served : s.blockServed off = true) (low : off < 0xF00000) :
    s.writeReg by_ off value sets = s.actLow by_ d off (value &&& ~~~(sets &&& d.w1c)) := by
  have takes : d.takes by_ off = true := by simp [RegDef.takes, anyone]
  obtain rfl | ⟨c, rfl, control⟩ := unlimited
  · simp [State.writeReg, row, served, takes, low]
  · have noLimit : ¬ 6 ≤ c := by omega
    simp [State.writeReg, row, served, takes, low, noLimit]

/-! ## The registers of the time of day -/

/-- A write of FTB_TOD_SEC or FTB_TOD_SEC_HI as a register is `State.todSecWrite`. -/
theorem State.writeReg_eq_todSecWrite {s : State} {by_ : Requester} {off : Nat} (value sets : Word)
    (unlimited : WritesUnlimited by_) (normal : s.bit Reg.pwrStatus 4 = false)
    (tod : off = Reg.ftbTodSec ∨ off = Reg.ftbTodSecHi) :
    ∃ hi v, s.writeReg by_ off value sets = s.todSecWrite hi v := by
  have served := State.blockServed_of_not_recovery off normal
  obtain rfl | rfl := tod
  · exact ⟨false, _, State.writeReg_eq_actLow value sets unlimited (row := rfl) rfl served (by decide)⟩
  · exact ⟨true, _, State.writeReg_eq_actLow value sets unlimited (row := rfl) rfl served (by decide)⟩

/-! ## The two commands of a live device -/

theorem exec_todSecWrite_of_live {s : State} (live : s.live = true) (hi : Bool) (v : Word) :
    exec (.todSecWrite hi v) s = .next (s.todSecWrite hi v) := by
  change execTodSecWrite hi v s = _
  rw [execTodSecWrite, State.whenLive_live _ _ live]

theorem exec_registerWrite_of_live {s : State} (live : s.live = true) (by_ : Requester) (off : Nat) (v : RegValue) :
    exec (.registerWrite by_ off v) s = .next (s.writeReg by_ off v.value v.sets) := by
  change execRegisterWrite by_ off v s = _
  rw [execRegisterWrite, State.whenLive_live _ _ live]

/-! ## While ARM is 1 -/

/-- `t` is what a dropped write of the armed time of day leaves: the second's registers as they were, TOD_BUSY set. -/
structure State.TodBusyAfter (s t : State) : Prop where
  sec : t.reg Reg.ftbTodSec = s.reg Reg.ftbTodSec
  secHi : t.reg Reg.ftbTodSecHi = s.reg Reg.ftbTodSecHi
  busy : t.bit Reg.ftbEvent 6 = true

theorem State.todBusyAfter_todSecWrite {s : State} (armed : s.bit Reg.ftbTodCtl 0 = true) (hi : Bool) (v : Word) :
    s.TodBusyAfter (s.todSecWrite hi v) := by
  have dropped : s.todSecWrite hi v = s.raise Reg.ftbEvent 6 := if_pos armed
  rw [dropped]
  exact
    { sec := State.reg_raise_ne _ _ _ _ (by decide) (by decide)
      secHi := State.reg_raise_ne _ _ _ _ (by decide) (by decide)
      busy := by rw [State.bit_raise_same _ _ _ _ (by decide) (by decide), if_pos rfl] }

/-- Settles O52: the command and the register write are both `State.todSecWrite`, which ARM makes raise TOD_BUSY alone. -/
theorem timeOfDayBusy : Obligations.TimeOfDayBusy := by
  unfold Obligations.TimeOfDayBusy
  intro s h v m off by_ live armed normal tod unlimited x hx
  obtain ⟨hi, w, hexec⟩ : ∃ hi w, exec x s = .next (s.todSecWrite hi w) := by
    simp only [List.mem_cons, List.not_mem_nil, or_false] at hx
    obtain rfl | rfl := hx
    case inl => exact ⟨h, v, exec_todSecWrite_of_live live h v⟩
    case inr =>
      obtain ⟨hi, w, hwrite⟩ := State.writeReg_eq_todSecWrite v m unlimited normal tod
      exact ⟨hi, w, by rw [exec_registerWrite_of_live live, hwrite]⟩
  obtain ⟨sec, secHi, busy⟩ := State.todBusyAfter_todSecWrite armed hi w
  exact ⟨_, hexec, sec, secHi, busy⟩

end Sys2Proof.Machine
end

section
/-! SUPPORT. The anti-rollback fuses (R431): no command but ROLLBACK_COMMIT blows one. A command whose laws leave the
part `fuses` alone keeps them; a reset builds its state anew and carries them over. -/
namespace Sys2Proof.Machine

/-! ## The state without its fuses -/

/-- Every part of the state but the blown fuses; the blocks of Table 17-1 that have registers lie below page 22. -/
def unfused : List Part :=
  [.pending, .time, .ftb, .prx, .tenants, .cmds, .mch, .rdp, .wrp, .mcr, .nss, .fns, .hpt, .mig, .aens, .errs, .evc,
    .aow, .sdm, .mlk, .pwr, .log, .sec, .keys, .mtr, .lpb, .tln, .mi, .out, .draw] ++ (List.range 22).map .regs

/-- Whether a part stands in `unfused`, as a test that computes. -/
def Part.isUnfused : Part → Bool
  | .fuses => false
  | .regs page => decide (page < 22)
  | _ => true

theorem mem_unfused {p : Part} (h : p.isUnfused = true) : p ∈ unfused := by
  cases p with
  | regs page => exact List.mem_append_right _ (List.mem_map_of_mem (List.mem_range.2 (of_decide_eq_true h)))
  | fuses => exact absurd h Bool.false_ne_true
  | _ => exact List.mem_append_left _ (by decide)

theorem subset_unfused {W : List Part} (h : W.all Part.isUnfused = true) : W ⊆ unfused :=
  fun _ mem => mem_unfused (List.all_eq_true.1 h _ mem)

theorem State.rollback_of_unfused {s t : State} (h : t.without unfused = s.without unfused) :
    t.sec.rollback = s.sec.rollback :=
  rollback_of_without h (by decide)

theorem State.took_unfused (s : State) (vc blocks : Nat) : (s.took vc blocks).without unfused = s.without unfused :=
  State.took_without s vc blocks (subset_unfused rfl)

/-! ## Commands that keep the fuses -/

/-- A command leaves the count of blown fuses as it is. -/
def KeepsFuses (c : Instr) : Prop := ∀ s t, exec c s = .next t → t.sec.rollback = s.sec.rollback

theorem KeepsFuses.of_rollback {c : Instr} {f : State → State} (h : ∀ s, exec c s = .next (f s))
    (hf : ∀ s, (f s).sec.rollback = s.sec.rollback) : KeepsFuses c := by
  intro s t step
  rw [h] at step
  cases step
  exact hf s

theorem KeepsFuses.next {c : Instr} {f : State → State} (h : ∀ s, exec c s = .next (f s))
    (hf : ∀ s, (f s).without unfused = s.without unfused) : KeepsFuses c :=
  .of_rollback h fun s => State.rollback_of_unfused (hf s)

/-! A command's effect stands behind a guard: the rails, the requester, the mailbox, a BAR0 write or a gate. Whatever
the guard itself does, it does to other parts. -/

section
variable {c : Instr} {f : State → State}

theorem KeepsFuses.live (h : ∀ s, exec c s = .next (s.whenLive f))
    (hf : ∀ s, (f s).without unfused = s.without unfused) : KeepsFuses c :=
  .next h fun s => s.whenLive_without f hf

theorem KeepsFuses.byCore {by_ : Requester} {off : Nat} (h : ∀ s, exec c s = .next (s.byCore by_ off f))
    (hf : ∀ s, (f s).without unfused = s.without unfused) : KeepsFuses c :=
  .next h fun s => s.byCore_without by_ off f (subset_unfused rfl) hf

theorem KeepsFuses.ownCore {by_ : Requester} {core off : Nat} {read : Bool}
    (h : ∀ s, exec c s = .next (s.ownCore by_ core off read f))
    (hf : ∀ s, (f s).without unfused = s.without unfused) : KeepsFuses c :=
  .next h fun s => s.ownCore_without by_ core off read f (subset_unfused rfl) hf

theorem KeepsFuses.byOwner {by_ : Requester} {ch off : Nat} (h : ∀ s, exec c s = .next (s.byOwner by_ ch off f))
    (hf : ∀ s, (f s).without unfused = s.without unfused) : KeepsFuses c :=
  .next h fun s => s.byOwner_without by_ ch off f (subset_unfused rfl) hf

theorem KeepsFuses.miServed (h : ∀ s, exec c s = .next (s.miServed f))
    (hf : ∀ s, (f s).without unfused = s.without unfused) : KeepsFuses c :=
  .next h fun s => s.miServed_without f hf

theorem KeepsFuses.bar0Write {fn : Nat} (h : ∀ s, exec c s = .next (s.whenLive (·.bar0Write fn f)))
    (hf : ∀ s, (f s).without unfused = s.without unfused) : KeepsFuses c :=
  .live h fun s => s.bar0Write_without fn f (subset_unfused rfl) hf

theorem KeepsFuses.ioCmd {q : Sqe} {i : Instr} (h : ∀ s, exec c s = .next (s.whenLive (·.ioCmd q i f)))
    (hf : ∀ s, (f s).without unfused = s.without unfused) : KeepsFuses c :=
  .live h fun s => s.ioCmd_without q i f (subset_unfused rfl) hf

theorem KeepsFuses.spdmReq (h : ∀ s, exec c s = .next (s.whenLive (·.spdmReq f)))
    (hf : ∀ s, (f s).without unfused = s.without unfused) : KeepsFuses c :=
  .live h fun s => s.spdmReq_without f (subset_unfused rfl) hf

theorem KeepsFuses.mgmt {id opcode seq : Nat} {allowed : State → Sess → Bool} {f : State → State × MgmtAnswer}
    (h : ∀ s, exec c s = .next (s.whenLive (·.mgmt id opcode seq allowed f)))
    (hf : ∀ s, (f s).1.without unfused = s.without unfused) : KeepsFuses c :=
  .live h fun s => s.mgmt_without id opcode seq allowed f (subset_unfused rfl) hf

end

/-! ## Resets -/

theorem State.rollback_mediaOff (s : State) : s.mediaOff.sec.rollback = s.sec.rollback :=
  State.rollback_of_unfused (s.mediaOff_without (subset_unfused rfl))

theorem State.rollback_restoreLog (s : State) : s.restoreLog.sec.rollback = s.sec.rollback :=
  State.rollback_of_unfused (s.restoreLog_without (subset_unfused rfl))

theorem State.rollback_relevelAll (s : State) : s.relevelAll.sec.rollback = s.sec.rollback :=
  State.rollback_of_unfused (s.relevelAll_without (subset_unfused rfl))

theorem State.rollback_inc (s : State) (off n : Nat) : (s.inc off n).sec.rollback = s.sec.rollback := rfl

/-- The regions that a boot marks for the partner stand in the namespaces' part. -/
theorem State.rollback_foldl_markRegions (s : State) (sent : List Mirrored) :
    (sent.foldl (fun t m => if (t.ns m.nsid).paired then t.markRegions m.nsid m.regions else t) s).sec.rollback =
      s.sec.rollback :=
  State.rollback_of_unfused
    (without_foldl (fun t _ => without_if (t.markRegions_without _ _ (subset_unfused rfl)) rfl) sent s)

/-- A reset carries the fuses over into the state it builds (R603, Table 15-5). -/
theorem State.rollback_bootFrom (s : State) (cause : Nat) : (s.bootFrom cause).sec.rollback = s.sec.rollback := by
  simp only [State.bootFrom, State.emit_sec, State.rollback_relevelAll, State.rollback_restoreLog, apply_ite State.sec,
    apply_ite Sec.rollback, State.rollback_mediaOff, State.setBit_sec, State.setNum_sec, State.rollback_inc, ite_self,
    State.rollback_foldl_markRegions]

theorem State.rollback_powerOn (s : State) (x : Straps) : (s.powerOn x).sec.rollback = s.sec.rollback := by
  unfold State.powerOn
  split
  case h_1 => rfl
  case h_2 =>
    calc _ = ((s.sampleStraps x).bootFrom 1).sec.rollback :=
          State.rollback_of_unfused ((State.inc_without _ _ _ (subset_unfused rfl)).trans
            ((State.raise_without _ _ _ (subset_unfused rfl)).trans
              (State.setBit_without _ _ _ _ (subset_unfused rfl))))
      _ = s.sec.rollback := State.rollback_bootFrom ..
  case h_3 => exact State.rollback_bootFrom ..
  case h_4 => exact State.rollback_bootFrom ..

theorem State.rollback_resetEnd (s : State) : s.resetEnd.sec.rollback = s.sec.rollback := by
  have cleaned : s.cleanMark.sec.rollback = s.sec.rollback :=
    State.rollback_of_unfused (s.cleanMark_without (subset_unfused rfl))
  unfold State.resetEnd
  (repeat' split) <;> simp only [State.rollback_bootFrom, cleaned]

/-! ## Accesses to registers: the page written is the address's own -/

theorem State.rollback_writeReg (s : State) (by_ : Requester) (off : Nat) (value sets : Word) :
    (s.writeReg by_ off value sets).sec.rollback = s.sec.rollback :=
  rollback_of_without (s.writeReg_without by_ off value sets (List.Subset.refl _)) (by simp)

theorem State.rollback_memRequest (s : State) (r : MemReq) : (s.memRequest r).sec.rollback = s.sec.rollback :=
  rollback_of_without (s.memRequest_without r (List.Subset.refl _)) (by simp)

theorem State.rollback_coreRequest (s : State) (core : Nat) (r : MemReq) :
    (s.coreRequest core r).sec.rollback = s.sec.rollback :=
  rollback_of_without (s.coreRequest_without core r (List.Subset.refl _)) (by simp)

theorem State.rollback_whenLive (s : State) {f : State → State} (hf : ∀ t, (f t).sec.rollback = t.sec.rollback) :
    (s.whenLive f).sec.rollback = s.sec.rollback := by
  unfold State.whenLive
  split
  · exact hf s
  · rfl

theorem keepsFuses_registerWrite (by_ : Requester) (off : Nat) (v : RegValue) : KeepsFuses (.registerWrite by_ off v) :=
  .of_rollback (fun _ => rfl) fun s => s.rollback_whenLive fun t => t.rollback_writeReg by_ off v.value v.sets

theorem keepsFuses_memRequestRx (r : MemReq) : KeepsFuses (.memRequestRx r) :=
  .of_rollback (fun _ => rfl) fun s => s.rollback_whenLive fun t =>
    match r.by_ with
    | .pf0 => t.rollback_memRequest r
    | .core core => t.rollback_coreRequest core r

/-! ## Commands of several operations -/

theorem keepsFuses_slotStart (b : SlotBegin) : KeepsFuses (.slotStart b) :=
  .live (fun _ => rfl) fun _ => (State.slotStart_without _ _ (subset_unfused rfl)).trans
    (without_if (without_hpt _ _ (mem_unfused rfl)) rfl)

theorem keepsFuses_creditReport : KeepsFuses .creditReport :=
  .live (fun _ => rfl) fun _ => State.when_without _ _ _ fun _ =>
    (State.emit_without _ _ (subset_unfused rfl)).trans
      ((State.rideAck_without _ (subset_unfused rfl)).trans (without_mlk _ _ (mem_unfused rfl)))

theorem keepsFuses_rejoin (by_ : Option Requester) : KeepsFuses (.rejoin by_) := by
  cases by_ with
  | some _ => exact .byCore (fun _ => rfl) fun _ => State.rejoin_without _ _ (subset_unfused rfl)
  | none => exact .live (fun _ => rfl) fun _ => State.rejoin_without _ _ (subset_unfused rfl)

theorem keepsFuses_coreAccessFault (core : Nat) (addr : BitVec 38) (write : Bool) :
    KeepsFuses (.coreAccessFault core addr write) :=
  .live (fun _ => rfl) fun s =>
    have fault := s.accessFault_without core addr.toNat (subset_unfused rfl)
    without_if fault ((State.emit_without _ _ (subset_unfused rfl)).trans fault)

theorem keepsFuses_coreEccFault (core : Nat) : KeepsFuses (.coreEccFault core) :=
  .live (fun _ => rfl) fun _ => (State.raiseFault_without _ _ _ (subset_unfused rfl)).trans
    ((State.raise_without _ _ _ (subset_unfused rfl)).trans
      ((State.countErr_without _ _ _ _ _ _ (subset_unfused rfl)).trans
        ((State.drawn_without _ (subset_unfused rfl)).trans (State.setReg_without _ _ _ (mem_unfused rfl)))))

theorem keepsFuses_readNvmeMiDataStructure (type : Nat) : KeepsFuses (.readNvmeMiDataStructure type) :=
  .miServed (fun _ => rfl) fun s => by
    split <;> exact State.miAnswer_without _ _ _ (subset_unfused rfl)

theorem keepsFuses_vddAoApplied : KeepsFuses .vddAoApplied :=
  .next (fun _ => rfl) fun s => s.vddAo_without (subset_unfused rfl) fun _ _ below =>
    mem_unfused (decide_eq_true (by omega))

theorem keepsFuses_invalidCommandOpcode (q : Sqe) : KeepsFuses (.invalidCommandOpcode q) :=
  .live (fun _ => rfl) fun _ => without_if rfl
    (State.fetchCmd_without _ _ _ _ (subset_unfused rfl) fun _ _ => State.finish_without _ _ _ _ _ (subset_unfused rfl))

theorem keepsFuses_powerOnReset (frefSel hostSris pairId lpVsel claimResetN : Bool) :
    KeepsFuses (.powerOnReset frefSel hostSris pairId lpVsel claimResetN) :=
  .of_rollback (fun _ => rfl) fun s => s.rollback_powerOn _

theorem keepsFuses_deviceResetShutdownDone : KeepsFuses .deviceResetShutdownDone :=
  .of_rollback (fun _ => rfl) State.rollback_resetEnd

/-! ## Every command but ROLLBACK_COMMIT -/

/-- Each arm cites the law of the command's operation, in the order of `exec`. -/
theorem keepsFuses_of_ne_rollbackCommit (c : Instr) (notCommit : ∀ id seq, c ≠ .rollbackCommit id seq) :
    KeepsFuses c := by
  cases c with
  -- Frame time (chapter 2)
  | frefLost => exact .live (fun _ => rfl) fun _ => State.frefLost_without _ (subset_unfused rfl)
  | frefGood => exact .live (fun _ => rfl) fun _ => State.frefGood_without _ (subset_unfused rfl)
  | fppsEdge => exact .live (fun _ => rfl) fun _ => State.fppsEdge_without _ _ _ _ (subset_unfused rfl)
  | ppsLost => exact .live (fun _ => rfl) fun _ => State.ppsLost_without _ (subset_unfused rfl)
  | fsyncEdge => exact .live (fun _ => rfl) fun _ => State.fsyncEdge_without _ _ (subset_unfused rfl)
  | fsyncLost => exact .live (fun _ => rfl) fun _ => State.fsyncLost_without _ (subset_unfused rfl)
  | frameEdge => exact .live (fun _ => rfl) fun _ => State.frameEdge_without _ (subset_unfused rfl)
  | minuteEdge => exact .live (fun _ => rfl) fun _ => State.minuteBegins_without _ (subset_unfused rfl)
  | todSecWrite => exact .live (fun _ => rfl) fun _ => State.todSecWrite_without _ _ _ (subset_unfused rfl)
  | todArm => exact .live (fun _ => rfl) fun _ => State.todArm_without _ (subset_unfused rfl)
  | todApply => exact .live (fun _ => rfl) fun _ => State.todEdge_without _ (subset_unfused rfl)
  | dpllDisable => exact .live (fun _ => rfl) fun _ => State.dpllDisable_without _ (subset_unfused rfl)
  | frameCounterRead => exact .live (fun _ => rfl) fun _ => State.frameCounterRead_without _ (subset_unfused rfl)
  | heartbeatRx => exact .live (fun _ => rfl) fun _ => State.heartbeatRx_without _ _ (subset_unfused rfl)
  | skewRaisedRx =>
    exact .live (fun _ => rfl) fun _ => (State.raiseSkew_without _ _ (subset_unfused rfl)).trans (State.took_unfused ..)
  | skewClearProposalRx =>
    exact .live (fun _ => rfl) fun _ =>
      (State.skewProposal_without _ _ (subset_unfused rfl)).trans (State.took_unfused ..)
  | pairSkewClear => exact .live (fun _ => rfl) fun _ => State.pairSkewClear_without _ (subset_unfused rfl)
  | phaseMismatchClear => exact .live (fun _ => rfl) fun _ => State.phaseClear_without _ (subset_unfused rfl)
  -- Prism images and admission (chapters 3 and 4)
  | prxLoad => exact .byCore (fun _ => rfl) fun _ => State.loadStart_without _ (subset_unfused rfl)
  | imageChecksDone => exact .live (fun _ => rfl) fun _ => State.checksDone_without _ _ (subset_unfused rfl)
  | prxDiscard => exact .byCore (fun _ => rfl) fun _ => State.discardStaged_without _ (subset_unfused rfl)
  | prxArm => exact .byCore (fun _ => rfl) fun _ => State.arm_without _ (subset_unfused rfl)
  | armReportRx =>
    exact .live (fun _ => rfl) fun _ => (State.armReport_without _ _ (subset_unfused rfl)).trans (State.took_unfused ..)
  | armWaitTimeout => exact .live (fun _ => rfl) fun _ => State.armTimeout_without _ (subset_unfused rfl)
  | prxDisarm => exact .byCore (fun _ => rfl) fun _ => State.disarm_without _ (subset_unfused rfl)
  | switchCommit => exact .live (fun _ => rfl) fun _ => State.commit_without _ (subset_unfused rfl)
  | imageSwitch =>
    exact .live (fun _ => rfl) fun _ =>
      (State.serveParked_without _ (subset_unfused rfl)).trans (State.imageSwitch_without _ (subset_unfused rfl))
  | prxParkReq => exact .byCore (fun _ => rfl) fun _ => State.parkRequest_without _ (subset_unfused rfl)
  | parkEntered => exact .live (fun _ => rfl) fun _ => State.enterPark_without _ (subset_unfused rfl)
  | variantSwitch => exact .live (fun _ => rfl) fun _ => State.variantSwitch_without _ (subset_unfused rfl)
  | junctionTempSample => exact .live (fun _ => rfl) fun _ => State.junctionSample_without _ _ (subset_unfused rfl)
  | thermalConditionClear => exact .live (fun _ => rfl) fun _ => State.thermalClear_without _ (subset_unfused rfl)
  | stageAdmit => exact .live (fun _ => rfl) fun _ => State.stageAdmit_without _ _ _ _ _ (subset_unfused rfl)
  | slotStart b => exact keepsFuses_slotStart b
  | slotEnd => exact .live (fun _ => rfl) fun _ => State.slotEnd_without _ _ (subset_unfused rfl)
  | dieOpComplete => exact .live (fun _ => rfl) fun _ => State.dieDone_without _ _ _ _ (subset_unfused rfl)
  | driftClear => exact .live (fun _ => rfl) fun _ => State.driftClear_without _ (subset_unfused rfl)
  | prxTokenTrim => exact .byCore (fun _ => rfl) fun _ => State.tokenTrim_without _ _ (subset_unfused rfl)
  | cqePost => exact .live (fun _ => rfl) fun _ => State.cqePost_without _ _ _ (subset_unfused rfl)
  -- Media attachment (chapter 5)
  | channelBringupDone => exact .live (fun _ => rfl) fun _ => State.chBroughtUp_without _ _ _ (subset_unfused rfl)
  | mchChBringup => exact .byCore (fun _ => rfl) fun _ => State.chBringup_without _ _ (subset_unfused rfl)
  | mchChRetire => exact .byCore (fun _ => rfl) fun _ => State.chRetire_without _ _ (subset_unfused rfl)
  | rbNRise => exact .live (fun _ => rfl) fun _ => State.rbRise_without _ _ _ (subset_unfused rfl)
  | statusPoll => exact .live (fun _ => rfl) fun _ => State.statusPoll_without _ _ _ (subset_unfused rfl)
  | dieOpTimeout => exact .live (fun _ => rfl) fun _ => State.dieTimeout_without _ _ (subset_unfused rfl)
  | channelRetrain => exact .live (fun _ => rfl) fun _ => State.retrained_without _ _ _ (subset_unfused rfl)
  | dieTempRead => exact .live (fun _ => rfl) fun _ => State.dieTemp_without _ _ _ (subset_unfused rfl)
  -- Read path (chapter 6)
  | mapLookup =>
    exact .live (fun _ => rfl) fun _ =>
      (State.copySettle_without _ (subset_unfused rfl)).trans (State.mapLookup_without _ _ _ _ _ (subset_unfused rfl))
  | areadReqRx =>
    exact .live (fun _ => rfl) fun _ => (State.areadReq_without _ _ (subset_unfused rfl)).trans (State.took_unfused ..)
  | areadRspRx =>
    exact .live (fun _ => rfl) fun _ =>
      (State.copySettle_without _ (subset_unfused rfl)).trans
        ((State.aroundRsp_without _ _ _ (subset_unfused rfl)).trans (State.took_unfused ..))
  | aroundTmo => exact .live (fun _ => rfl) fun _ => State.aroundTimeout_without _ _ (subset_unfused rfl)
  | decodeDone =>
    exact .live (fun _ => rfl) fun _ =>
      (State.freeLanes_without _ (subset_unfused rfl)).trans (State.decoded_without _ _ _ _ (subset_unfused rfl))
  | softDecodePassDone =>
    exact .live (fun _ => rfl) fun _ =>
      (State.freeLanes_without _ (subset_unfused rfl)).trans (State.softPass_without _ _ _ _ (subset_unfused rfl))
  -- Write path (chapter 7)
  | writeStaged => exact .live (fun _ => rfl) fun _ => State.writeStaged_without _ _ (subset_unfused rfl)
  | stagingFreed => exact .live (fun _ => rfl) fun _ => State.stagingFreed_without _ _ (subset_unfused rfl)
  | mackRx =>
    exact .live (fun _ => rfl) fun _ => (State.mack_without _ _ _ (subset_unfused rfl)).trans (State.took_unfused ..)
  | mackTimeout => exact .live (fun _ => rfl) fun _ => State.mackTimeout_without _ _ (subset_unfused rfl)
  | programDone => exact .live (fun _ => rfl) fun _ => State.programDone_without _ _ _ (subset_unfused rfl)
  | stripeCloseTimeout => exact .live (fun _ => rfl) fun _ => State.stripeTimeout_without _ _ (subset_unfused rfl)
  | journalTailBelowLimit => exact .live (fun _ => rfl) fun _ => State.journalBelow_without _ (subset_unfused rfl)
  | checkpointSegment => exact .live (fun _ => rfl) fun _ => State.checkpoint_without _ _ (subset_unfused rfl)
  | wrpCkptForce => exact .byCore (fun _ => rfl) fun _ => State.checkpointAll_without _ (subset_unfused rfl)
  | holdupSenseSample =>
    exact .next (fun _ => rfl) fun _ =>
      State.whenRails_without _ _ fun _ => State.senseSample_without _ _ (subset_unfused rfl)
  | pfailAssert =>
    exact .next (fun _ => rfl) fun _ =>
      State.whenRails_without _ _ fun _ => State.dumpStart_without _ (subset_unfused rfl)
  | dumpDone => exact .next (fun _ => rfl) fun _ => State.dumpDone_without _ (subset_unfused rfl)
  | roleEdge => exact .live (fun _ => rfl) fun _ => State.roleEdge_without _ (subset_unfused rfl)
  -- Media care (chapter 8)
  | gcFactorReview => exact .live (fun _ => rfl) fun _ => State.gcFactorReview_without _ (subset_unfused rfl)
  | scrubLate => exact .live (fun _ => rfl) fun _ => State.scrubLate_without _ _ (subset_unfused rfl)
  | calibrationDue => exact .live (fun _ => rfl) fun _ => State.calibrate_without _ _ _ _ (subset_unfused rfl)
  | mcrTestStart =>
    exact .next (fun _ => rfl) fun _ =>
      State.byHost_without _ _ _ _ (subset_unfused rfl) fun _ => State.testStart_without _ _ (subset_unfused rfl)
  | mcrTestAbort =>
    exact .next (fun _ => rfl) fun _ =>
      State.byHost_without _ _ _ _ (subset_unfused rfl) fun _ => State.testAbort_without _ (subset_unfused rfl)
  | testDone => exact .live (fun _ => rfl) fun _ => State.testDone_without _ _ (subset_unfused rfl)
  | holdupTestDue => exact .live (fun _ => rfl) fun _ => State.holdupDue_without _ (subset_unfused rfl)
  | holdupTestEnd => exact .live (fun _ => rfl) fun _ => State.holdupEnd_without _ _ _ (subset_unfused rfl)
  | lifeForecast => exact .live (fun _ => rfl) fun _ => State.forecast_without _ _ (subset_unfused rfl)
  -- Host port (chapter 9)
  | hostLinkUp => exact .live (fun _ => rfl) fun _ => State.hostLinkUp_without _ _ _ _ _ (subset_unfused rfl)
  | hostDlDown => exact .live (fun _ => rfl) fun _ => State.hostDlDown_without _ _ (subset_unfused rfl)
  | hostFlitCrcFail => exact .live (fun _ => rfl) fun _ => State.hostBadFlit_without _ (subset_unfused rfl)
  | memRequestRx r => exact keepsFuses_memRequestRx r
  | configRequestRx => exact .live (fun _ => rfl) fun _ => State.configRequest_without _ _ (subset_unfused rfl)
  | completionRx =>
    exact .live (fun _ => rfl) fun _ =>
      (State.freeLanes_without _ (subset_unfused rfl)).trans (State.completion_without _ _ (subset_unfused rfl))
  | aspmL1Entry => exact .live (fun _ => rfl) fun _ => State.l1Enter_without _ _ (subset_unfused rfl)
  | aspmL1Exit => exact .live (fun _ => rfl) fun _ => State.l1Exit_without _ (subset_unfused rfl)
  | l0pHostRequest => exact .live (fun _ => rfl) fun _ => State.l0pHost_without _ _ (subset_unfused rfl)
  | l0pReduceRequest => exact .live (fun _ => rfl) fun _ => State.l0pReduce_without _ (subset_unfused rfl)
  | translationCompletionRx =>
    exact .live (fun _ => rfl) fun _ => State.translation_without _ _ _ _ (subset_unfused rfl)
  | invalidateRequestRx => exact .live (fun _ => rfl) fun _ => State.invalidate_without _ _ _ _ _ (subset_unfused rfl)
  | invalidateAbandon =>
    exact .live (fun _ => rfl) fun _ =>
      (State.freeLanes_without _ (subset_unfused rfl)).trans (State.invalAbandon_without _ _ _ (subset_unfused rfl))
  | invalidateCompletionSend => exact .live (fun _ => rfl) fun _ => State.invalDone_without _ _ (subset_unfused rfl)
  | doeRequestRx => exact .live (fun _ => rfl) fun _ => State.doeRequest_without _ _ _ _ _ (subset_unfused rfl)
  | doeAbort => exact .live (fun _ => rfl) fun _ => State.doeAbort_without _ (subset_unfused rfl)
  | completionTimeout =>
    exact .live (fun _ => rfl) fun _ =>
      (State.freeLanes_without _ (subset_unfused rfl)).trans (State.cplTimeout_without _ _ (subset_unfused rfl))
  | tagQuarantineEnd => exact .live (fun _ => rfl) fun _ => State.tagFree_without _ _ (subset_unfused rfl)
  | hptContainForce => exact .byCore (fun _ => rfl) fun _ => State.contain_without _ _ (subset_unfused rfl)
  | hptContainRelease => exact .live (fun _ => rfl) fun _ => State.containRelease_without _ (subset_unfused rfl)
  | releaseComplete => exact .live (fun _ => rfl) fun _ => State.releaseDone_without _ (subset_unfused rfl)
  | attnBtn => exact .live (fun _ => rfl) fun _ => State.attnPress_without _ (subset_unfused rfl)
  | sppAttnAck => exact .live (fun _ => rfl) fun _ => State.stopAttn_without _ (subset_unfused rfl)
  | attnTimeout => exact .live (fun _ => rfl) fun _ => State.attnExpiry_without _ (subset_unfused rfl)
  | fallbackDestageDone => exact .live (fun _ => rfl) fun _ => State.fallbackDone_without _ (subset_unfused rfl)
  | prsntChange => exact .live (fun _ => rfl) fun _ => State.presence_without _ _ (subset_unfused rfl)
  -- Functions and queues (chapter 10)
  | createIoSq => exact .live (fun _ => rfl) fun _ => State.createSq_without _ _ (subset_unfused rfl)
  | createIoCq => exact .live (fun _ => rfl) fun _ => State.createCq_without _ _ (subset_unfused rfl)
  | deleteIoSq => exact .live (fun _ => rfl) fun _ => State.deleteSq_without _ _ (subset_unfused rfl)
  | sqDeleteDrained => exact .live (fun _ => rfl) fun _ => State.sqDrained_without _ _ _ (subset_unfused rfl)
  | deleteIoCq => exact .live (fun _ => rfl) fun _ => State.deleteCq_without _ _ (subset_unfused rfl)
  | getLogPage => exact .live (fun _ => rfl) fun _ => State.getLog_without _ _ (subset_unfused rfl)
  | identify => exact .live (fun _ => rfl) fun _ => State.identifyCmd_without _ _ (subset_unfused rfl)
  | abort => exact .live (fun _ => rfl) fun _ => State.abortCmd_without _ _ (subset_unfused rfl)
  | setFeatures => exact .live (fun _ => rfl) fun _ => State.setFeature_without _ _ _ (subset_unfused rfl)
  | getFeatures => exact .live (fun _ => rfl) fun _ => State.getFeature_without _ _ (subset_unfused rfl)
  | asynchronousEventRequest => exact .live (fun _ => rfl) fun _ => State.aerCmd_without _ _ (subset_unfused rfl)
  | formatNvm => exact .live (fun _ => rfl) fun _ => State.formatCmd_without _ _ (subset_unfused rfl)
  | sanitize => exact .live (fun _ => rfl) fun _ => State.sanitizeCmd_without _ _ (subset_unfused rfl)
  | cryptoEraseProceed => exact .live (fun _ => rfl) fun _ => State.eraseProceed_without _ _ (subset_unfused rfl)
  | contractQuery => exact .live (fun _ => rfl) fun _ => State.contractQuery_without _ _ (subset_unfused rfl)
  | meterRead => exact .live (fun _ => rfl) fun _ => State.meterRead_without _ _ (subset_unfused rfl)
  | namespaceCreate => exact .live (fun _ => rfl) fun _ => State.nsCreate_without _ _ _ (subset_unfused rfl)
  | namespaceDelete => exact .live (fun _ => rfl) fun _ => State.nsDelete_without _ _ (subset_unfused rfl)
  | namespaceAttach => exact .live (fun _ => rfl) fun _ => State.nsAttach_without _ _ _ (subset_unfused rfl)
  | namespaceDetach => exact .live (fun _ => rfl) fun _ => State.nsDetach_without _ _ _ (subset_unfused rfl)
  | namespaceDetachDrained => exact .live (fun _ => rfl) fun _ => State.detachDone_without _ _ (subset_unfused rfl)
  | firmwareImageDownload => exact .live (fun _ => rfl) fun _ => State.fwDownload_without _ _ _ (subset_unfused rfl)
  | firmwareCommit => exact .live (fun _ => rfl) fun _ => State.fwCommit_without _ _ _ (subset_unfused rfl)
  | primaryFlexibleAllocation =>
    exact .live (fun _ => rfl) fun _ =>
      State.adminCmd_without _ _ _ _ (subset_unfused rfl) fun _ => State.finish_without _ _ _ _ _ (subset_unfused rfl)
  | secondaryOffline => exact .live (fun _ => rfl) fun _ => State.setOffline_without _ _ (subset_unfused rfl)
  | secondaryAssign => exact .live (fun _ => rfl) fun _ => State.assign_without _ _ (subset_unfused rfl)
  | secondaryOnline => exact .live (fun _ => rfl) fun _ => State.setOnline_without _ _ (subset_unfused rfl)
  | flush => exact .live (fun _ => rfl) fun _ => State.flushCmd_without _ _ (subset_unfused rfl)
  | write => exact .ioCmd (fun _ => rfl) fun _ => State.serveWrite_without _ _ (subset_unfused rfl)
  | read => exact .ioCmd (fun _ => rfl) fun _ => State.serveRead_without _ _ _ _ (subset_unfused rfl)
  | compare => exact .ioCmd (fun _ => rfl) fun _ => State.serveRead_without _ _ _ _ (subset_unfused rfl)
  | writeZeroes => exact .ioCmd (fun _ => rfl) fun _ => State.serveZeroes_without _ _ (subset_unfused rfl)
  | datasetManagement => exact .ioCmd (fun _ => rfl) fun _ => State.serveDsm_without _ _ _ (subset_unfused rfl)
  | verify => exact .ioCmd (fun _ => rfl) fun _ => State.serveRead_without _ _ _ _ (subset_unfused rfl)
  | copy => exact .ioCmd (fun _ => rfl) fun _ => State.serveCopy_without _ _ _ (subset_unfused rfl)
  | sqTailDoorbell => exact .bar0Write (fun _ => rfl) fun _ => State.sqDoorbell_without _ _ _ _ (subset_unfused rfl)
  | cqHeadDoorbell => exact .bar0Write (fun _ => rfl) fun _ => State.cqDoorbell_without _ _ _ _ (subset_unfused rfl)
  | ccEnSet => exact .bar0Write (fun _ => rfl) fun _ => State.ccEnable_without _ _ (subset_unfused rfl)
  | controllerReady => exact .live (fun _ => rfl) fun _ => State.ctlReady_without _ _ (subset_unfused rfl)
  | controllerReset => exact .bar0Write (fun _ => rfl) fun _ => State.ccDisable_without _ _ (subset_unfused rfl)
  | bmeClear => exact .live (fun _ => rfl) fun _ => State.bmeOff_without _ _ (subset_unfused rfl)
  | bmeSet => exact .live (fun _ => rfl) fun _ => State.bmeOn_without _ _ (subset_unfused rfl)
  | powerStateWrite => exact .live (fun _ => rfl) fun _ => State.powerState_without _ _ _ (subset_unfused rfl)
  | vfEnableSet => exact .live (fun _ => rfl) fun _ => State.vfEnableSet_without _ (subset_unfused rfl)
  | vfEnableClear => exact .live (fun _ => rfl) fun _ => State.vfEnableClear_without _ (subset_unfused rfl)
  | vfFlr => exact .live (fun _ => rfl) fun _ => State.vfFlr_without _ _ (subset_unfused rfl)
  | vfFlrDone => exact .live (fun _ => rfl) fun _ => State.vfFlrDone_without _ _ (subset_unfused rfl)
  | pfFlr => exact .live (fun _ => rfl) fun _ => State.pfFlr_without _ (subset_unfused rfl)
  | quiesce => exact .live (fun _ => rfl) fun _ => State.quiesce_without _ (subset_unfused rfl)
  | quiesced => exact .live (fun _ => rfl) fun _ => State.quiesced_without _ _ (subset_unfused rfl)
  | resume => exact .live (fun _ => rfl) fun _ => State.resume_without _ (subset_unfused rfl)
  | freeze => exact .live (fun _ => rfl) fun _ => State.freeze_without _ (subset_unfused rfl)
  | frozen => exact .live (fun _ => rfl) fun _ => State.frozen_without _ _ (subset_unfused rfl)
  | unfreeze => exact .live (fun _ => rfl) fun _ => State.unfreeze_without _ (subset_unfused rfl)
  | save => exact .live (fun _ => rfl) fun _ => State.save_without _ (subset_unfused rfl)
  | saveDone =>
    exact .live (fun _ => rfl) fun _ => State.when_without _ _ _ fun _ => State.saveEnd_without _ _ (subset_unfused rfl)
  | restore => exact .live (fun _ => rfl) fun _ => State.restore_without _ (subset_unfused rfl)
  | restoreDone => exact .live (fun _ => rfl) fun _ => State.restoreEnd_without _ _ (subset_unfused rfl)
  | holdoffTimerExpiry => exact .live (fun _ => rfl) fun _ => State.holdoffExpiry_without _ _ (subset_unfused rfl)
  | msixUnmask => exact .live (fun _ => rfl) fun _ => State.msixUnmask_without _ _ _ (subset_unfused rfl)
  -- Security and metering (chapter 11)
  | uartImageRx => exact .live (fun _ => rfl) fun _ => State.uartImage_without _ _ _ (subset_unfused rfl)
  | getVersion => exact .spdmReq (fun _ => rfl) fun _ => State.spdm_without _ _ _ _ (subset_unfused rfl)
  | getCapabilities => exact .spdmReq (fun _ => rfl) fun _ => State.spdm_without _ _ _ _ (subset_unfused rfl)
  | negotiateAlgorithms => exact .spdmReq (fun _ => rfl) fun _ => State.spdm_without _ _ _ _ (subset_unfused rfl)
  | getDigests => exact .spdmReq (fun _ => rfl) fun _ => State.digests_without _ (subset_unfused rfl)
  | getCertificate => exact .spdmReq (fun _ => rfl) fun _ => State.certificate_without _ _ _ _ (subset_unfused rfl)
  | challenge => exact .spdmReq (fun _ => rfl) fun _ => State.challengeAuth_without _ _ _ (subset_unfused rfl)
  | getMeasurements => exact .spdmReq (fun _ => rfl) fun _ => State.measurements_without _ _ _ (subset_unfused rfl)
  | keyExchange => exact .spdmReq (fun _ => rfl) fun _ => State.keyExchange_without _ _ _ (subset_unfused rfl)
  | finish =>
    exact .live (fun _ => rfl) fun _ => without_if (State.finishSession_without _ _ _ (subset_unfused rfl)) rfl
  | pskExchange => exact .spdmReq (fun _ => rfl) fun _ => State.pskExchange_without _ _ (subset_unfused rfl)
  | endSession =>
    exact .live (fun _ => rfl) fun _ => without_if (State.endOwnSession_without _ _ (subset_unfused rfl)) rfl
  | spdmUnsupportedRequest => exact .spdmReq (fun _ => rfl) fun _ => State.spdmError_without _ _ (subset_unfused rfl)
  | authFail => exact .live (fun _ => rfl) fun _ => without_if (State.authFailed_without _ (subset_unfused rfl)) rfl
  | sessionTimeout => exact .live (fun _ => rfl) fun _ => State.sessionExpiry_without _ _ (subset_unfused rfl)
  | claim => exact .mgmt (fun _ => rfl) fun _ => State.claimDevice_without _ _ _ _ (subset_unfused rfl)
  | pskRotate => exact .mgmt (fun _ => rfl) fun _ => State.rotatePsk_without _ _ _ _ (subset_unfused rfl)
  | rollbackCommit session seq => exact absurd rfl (notCommit session seq)
  | query => exact .mgmt (fun _ => rfl) fun _ => rfl
  | imageLoad => exact .mgmt (fun _ => rfl) fun _ => State.mgmtLoadImage_without _ _ _ (subset_unfused rfl)
  | imageArm => exact .mgmt (fun _ => rfl) fun _ => State.mgmtArm_without _ _ (subset_unfused rfl)
  | imageDisarm => exact .mgmt (fun _ => rfl) fun _ => State.mgmtDisarm_without _ (subset_unfused rfl)
  | park => exact .mgmt (fun _ => rfl) fun _ => State.parkRequest_without _ (subset_unfused rfl)
  | tokenTrim => exact .mgmt (fun _ => rfl) fun _ => State.mgmtTrim_without _ _ _ _ (subset_unfused rfl)
  | profileBind => exact .mgmt (fun _ => rfl) fun _ => State.mgmtBind_without _ _ (subset_unfused rfl)
  | keyInstall => exact .mgmt (fun _ => rfl) fun _ => State.mgmtInstall_without _ _ _ _ _ (subset_unfused rfl)
  | keyGenerate => exact .mgmt (fun _ => rfl) fun _ => State.mgmtGenerate_without _ _ (subset_unfused rfl)
  | lpWindow => exact .mgmt (fun _ => rfl) fun _ => State.mgmtWindow_without _ _ _ (subset_unfused rfl)
  | minuteSigned => exact .live (fun _ => rfl) fun _ => State.signMinute_without _ (subset_unfused rfl)
  | mtrArchConsWrite => exact .live (fun _ => rfl) fun _ => State.archCons_without _ _ (subset_unfused rfl)
  -- Mirror Link (chapter 12)
  | linkTrain => exact .live (fun _ => rfl) fun _ => State.linkTrain_without _ _ (subset_unfused rfl)
  | initRx => exact .live (fun _ => rfl) fun _ => State.initRx_without _ _ (subset_unfused rfl)
  | flitRx => exact .live (fun _ => rfl) fun _ => State.flit_without _ _ (subset_unfused rfl)
  | nakRx =>
    exact .live (fun _ => rfl) fun _ => State.when_without _ _ _ fun _ => State.nak_without _ _ (subset_unfused rfl)
  | ackTimer =>
    exact .live (fun _ => rfl) fun _ => State.when_without _ _ _ fun _ => State.sendAck_without _ (subset_unfused rfl)
  | creditReport => exact keepsFuses_creditReport
  | speedRetrain => exact .live (fun _ => rfl) fun _ => State.speedRetrain_without _ (subset_unfused rfl)
  | speedRetrainDone => exact .live (fun _ => rfl) fun _ => State.speedRetrainDone_without _ _ _ (subset_unfused rfl)
  | linkReset => exact .live (fun _ => rfl) fun _ => State.linkReset_without _ (subset_unfused rfl)
  | linkDown => exact .live (fun _ => rfl) fun _ => State.linkDown_without _ (subset_unfused rfl)
  | graceExpiry => exact .live (fun _ => rfl) fun _ => State.graceExpiry_without _ (subset_unfused rfl)
  | declareLost =>
    exact .byCore (fun _ => rfl) fun _ =>
      State.when_without _ _ _ fun _ => State.declareLost_without _ _ (subset_unfused rfl)
  | fenceInAssert => exact .live (fun _ => rfl) fun _ => State.fenceIn_without _ (subset_unfused rfl)
  | rejoin by_ => exact keepsFuses_rejoin by_
  | pairJoined => exact .live (fun _ => rfl) fun _ => State.enterJoined_without _ (subset_unfused rfl)
  | mwriteRx =>
    exact .live (fun _ => rfl) fun _ => State.when_without _ _ _ fun _ => State.mwrite_without _ _ (subset_unfused rfl)
  | mmapRx =>
    exact .live (fun _ => rfl) fun _ => State.when_without _ _ _ fun _ => State.mmap_without _ _ (subset_unfused rfl)
  | meraseRx =>
    exact .live (fun _ => rfl) fun _ =>
      State.when_without _ _ _ fun _ => State.merase_without _ _ _ (subset_unfused rfl)
  | blobRx =>
    exact .live (fun _ => rfl) fun _ =>
      State.when_without _ _ _ fun _ => State.blobRx_without _ _ _ (subset_unfused rfl)
  | blobAckRx =>
    exact .live (fun _ => rfl) fun _ =>
      (State.when_without _ _ _ fun _ => State.saveEnd_without _ _ (subset_unfused rfl)).trans (State.took_unfused ..)
  | nsSyncRx =>
    exact .live (fun _ => rfl) fun _ => (State.nsSync_without _ _ (subset_unfused rfl)).trans (State.took_unfused ..)
  | changeMapRx =>
    exact .live (fun _ => rfl) fun _ =>
      (State.changeMap_without _ _ _ (subset_unfused rfl)).trans (State.took_unfused ..)
  | repairReqRx =>
    exact .live (fun _ => rfl) fun _ =>
      (State.repairReq_without _ _ _ _ _ (subset_unfused rfl)).trans (State.took_unfused ..)
  | resyncDoneRx =>
    exact .live (fun _ => rfl) fun _ =>
      (State.resyncDone_without _ _ (subset_unfused rfl)).trans (State.took_unfused ..)
  | variant3ReportRx =>
    exact .live (fun _ => rfl) fun _ =>
      (State.peerVariant3_without _ _ (subset_unfused rfl)).trans (State.took_unfused ..)
  | clearingFrameRx =>
    exact .live (fun _ => rfl) fun _ =>
      (State.clearingFrameRx_without _ _ (subset_unfused rfl)).trans (State.took_unfused ..)
  | partnerHostLost =>
    exact .live (fun _ => rfl) fun _ =>
      (State.raise_without _ _ _ (subset_unfused rfl)).trans
        ((State.took_unfused ..).trans (without_mlk _ _ (mem_unfused rfl)))
  | partnerHostRestored =>
    exact .live (fun _ => rfl) fun _ =>
      (State.raise_without _ _ _ (subset_unfused rfl)).trans
        ((State.took_unfused ..).trans (without_mlk _ _ (mem_unfused rfl)))
  | dumpNoticeRx =>
    exact .live (fun _ => rfl) fun _ =>
      (State.when_without _ _ _ fun _ => State.declareLost_without _ _ (subset_unfused rfl)).trans
        (State.took_unfused ..)
  | kcvRx =>
    exact .live (fun _ => rfl) fun _ => (State.kcv_without _ _ _ (subset_unfused rfl)).trans (State.took_unfused ..)
  | goingDownRx => exact .live (fun _ => rfl) fun _ => (State.took_unfused ..).trans (without_mlk _ _ (mem_unfused rfl))
  | blobDiscard => exact .byCore (fun _ => rfl) fun _ => State.freeBlobBuf_without _ _ (subset_unfused rfl)
  -- Control complex (chapter 13)
  | evcRing => exact .live (fun _ => rfl) fun _ => State.ringWrite_without _ _ _ (subset_unfused rfl)
  | evcUnpend => exact .byCore (fun _ => rfl) fun _ => State.unpendWrite_without _ _ (subset_unfused rfl)
  | evcClaim => exact .ownCore (fun _ => rfl) fun _ => State.claimSource_without _ _ (subset_unfused rfl)
  | evcComplete => exact .ownCore (fun _ => rfl) fun _ => State.complete_without _ _ _ (subset_unfused rfl)
  | evcStackReset => exact .ownCore (fun _ => rfl) fun _ => State.stackReset_without _ _ (subset_unfused rfl)
  | evcGdisWrite => exact .byCore (fun _ => rfl) fun _ => State.setReg_without _ _ _ (mem_unfused rfl)
  | levelSourceChange => exact .next (fun _ => rfl) fun _ => State.levelChange_without _ _ _ (subset_unfused rfl)
  | holdoffGroupExpiry => exact .live (fun _ => rfl) fun _ => State.groupExpiry_without _ _ (subset_unfused rfl)
  | watchdogRestart => exact .ownCore (fun _ => rfl) fun _ => State.watchdogWrite_without _ _ _ (subset_unfused rfl)
  | watchdogExpiry => exact .live (fun _ => rfl) fun _ => State.watchdogFirst_without _ _ (subset_unfused rfl)
  | watchdogCoreReset => exact .live (fun _ => rfl) fun _ => State.watchdogSecond_without _ _ (subset_unfused rfl)
  | coreAccessFault core addr write => exact keepsFuses_coreAccessFault core addr write
  | coreEccFault core => exact keepsFuses_coreEccFault core
  | watchWake => exact .next (fun _ => rfl) fun _ => State.wake_without _ _ _ (subset_unfused rfl)
  | aowAlarmExpiry => exact .next (fun _ => rfl) fun _ => State.alarm_without _ (subset_unfused rfl)
  | watchPinEvent => exact .next (fun _ => rfl) fun _ => State.watchPin_without _ _ (subset_unfused rfl)
  | sdmArm => exact .byOwner (fun _ => rfl) fun _ => State.sdmArm_without _ _ _ (subset_unfused rfl)
  | sdmAbort => exact .byOwner (fun _ => rfl) fun _ => State.sdmAbort_without _ _ (subset_unfused rfl)
  | sdmClear => exact .byOwner (fun _ => rfl) fun _ => State.sdmClear_without _ _ _ (subset_unfused rfl)
  | sdmDescriptorComplete => exact .live (fun _ => rfl) fun _ => State.descDone_without _ _ _ _ (subset_unfused rfl)
  | sdmPaceResume => exact .live (fun _ => rfl) fun _ => State.paceResume_without _ _ (subset_unfused rfl)
  -- Local Port and Telemetry (chapter 14)
  | bar4RequestRx => exact .live (fun _ => rfl) fun _ => State.bar4Request_without _ _ (subset_unfused rfl)
  | localAtomicop => exact .live (fun _ => rfl) fun _ => State.bar4Request_without _ _ (subset_unfused rfl)
  | localBurstEnd => exact .live (fun _ => rfl) fun _ => State.burstEnd_without _ _ (subset_unfused rfl)
  | prefetchExpiry => exact .live (fun _ => rfl) fun _ => State.prefetchExpire_without _ _ (subset_unfused rfl)
  | lpbWinCommit =>
    exact .next (fun _ => rfl) fun _ =>
      State.byService_without _ _ _ fun _ => State.winCommit_without _ (subset_unfused rfl)
  | commitDone => exact .live (fun _ => rfl) fun _ => State.commitDone_without _ (subset_unfused rfl)
  | commitDrainTimeout => exact .live (fun _ => rfl) fun _ => State.drainTimeout_without _ (subset_unfused rfl)
  | localBusRequest => exact .live (fun _ => rfl) fun _ => State.busRequest_without _ (subset_unfused rfl)
  | upstreamWrite => exact .live (fun _ => rfl) fun _ => State.upWrite_without _ _ _ (subset_unfused rfl)
  | upstreamRead => exact .live (fun _ => rfl) fun _ => State.upRead_without _ _ _ (subset_unfused rfl)
  | upstreamReadDataArrive => exact .live (fun _ => rfl) fun _ => State.upData_without _ _ (subset_unfused rfl)
  | upstreamReadStale => exact .live (fun _ => rfl) fun _ => State.upStale_without _ _ (subset_unfused rfl)
  | lpIrqAssert => exact .live (fun _ => rfl) fun _ => State.lpIrq_without _ _ (subset_unfused rfl)
  | coreLocalAccess => exact .live (fun _ => rfl) fun _ => State.coreLocal_without _ _ _ _ (subset_unfused rfl)
  | tlnSampleDue => exact .live (fun _ => rfl) fun _ => State.sampleDue_without _ _ (subset_unfused rfl)
  | tlnSampleDone => exact .live (fun _ => rfl) fun _ => State.lensSampleDone_without _ _ _ (subset_unfused rfl)
  | tlnRecordEmit => exact .live (fun _ => rfl) fun _ => State.emitRecord_without _ _ (subset_unfused rfl)
  | larvisRead => exact .live (fun _ => rfl) fun _ => State.larvisRead_without _ _ (subset_unfused rfl)
  | tlnXferGo => exact .live (fun _ => rfl) fun _ => State.xferCtl_without _ _ (subset_unfused rfl)
  | xferDone => exact .live (fun _ => rfl) fun _ => State.xferDone_without _ _ (subset_unfused rfl)
  | setEndpointId => exact .miServed (fun _ => rfl) fun _ => State.setEid_without _ _ (subset_unfused rfl)
  | getEndpointId => exact .miServed (fun _ => rfl) fun _ => State.miAnswer_without _ _ _ (subset_unfused rfl)
  | getEndpointUuid =>
    exact .miServed (fun _ => rfl) fun _ =>
      (State.emit_without _ _ (subset_unfused rfl)).trans (State.miAnswer_without _ _ _ (subset_unfused rfl))
  | getMctpVersionSupport => exact .miServed (fun _ => rfl) fun _ => State.miAnswer_without _ _ _ (subset_unfused rfl)
  | getMessageTypeSupport => exact .miServed (fun _ => rfl) fun _ => State.miAnswer_without _ _ _ (subset_unfused rfl)
  | mctpPacketDrop => exact .miServed (fun _ => rfl) fun _ => State.countErr_without _ _ _ _ _ _ (subset_unfused rfl)
  | readNvmeMiDataStructure type => exact keepsFuses_readNvmeMiDataStructure type
  | nvmSubsystemHealthStatusPoll =>
    exact .miServed (fun _ => rfl) fun _ => State.miAnswer_without _ _ _ (subset_unfused rfl)
  | controllerHealthStatusPoll =>
    exact .miServed (fun _ => rfl) fun _ =>
      without_if (State.miAnswer_without _ _ _ (subset_unfused rfl)) (State.miAnswer_without _ _ _ (subset_unfused rfl))
  | configurationSet => exact .miServed (fun _ => rfl) fun _ => State.miSet_without _ _ _ (subset_unfused rfl)
  | configurationGet => exact .miServed (fun _ => rfl) fun _ => State.miGet_without _ _ (subset_unfused rfl)
  | vpdRead => exact .miServed (fun _ => rfl) fun _ => State.miVpd_without _ _ _ (subset_unfused rfl)
  | miInvalidCommand => exact .miServed (fun _ => rfl) fun _ => State.miAnswer_without _ _ _ (subset_unfused rfl)
  -- Start-up and power (chapter 15), and what the other chapters add
  | vddAoApplied => exact keepsFuses_vddAoApplied
  | powerOnReset => exact keepsFuses_powerOnReset _ _ _ _ _
  | bootStageEnd => exact .live (fun _ => rfl) fun _ => State.stageEnd_without _ _ (subset_unfused rfl)
  | perstAssert => exact .next (fun _ => rfl) fun _ => State.perstFall_without _ (subset_unfused rfl)
  | perstDeassert => exact .next (fun _ => rfl) fun _ => State.perstRise_without _ (subset_unfused rfl)
  | hotReset => exact .next (fun _ => rfl) fun _ => State.resetBegin_without _ _ (subset_unfused rfl)
  | pwrResetDevice => exact .byCore (fun _ => rfl) fun _ => State.resetBegin_without _ _ (subset_unfused rfl)
  | deviceResetShutdownDone => exact keepsFuses_deviceResetShutdownDone
  | dramPatrolDue => exact .live (fun _ => rfl) fun _ => State.dramPatrol_without _ _ _ (subset_unfused rfl)
  | sramScrubDue => exact .live (fun _ => rfl) fun _ => State.sramScrub_without _ _ _ (subset_unfused rfl)
  | pmeTurnOff => exact .live (fun _ => rfl) fun _ => State.turnOffRx_without _ (subset_unfused rfl)
  | pmeToAck => exact .live (fun _ => rfl) fun _ => State.turnOffAck_without _ (subset_unfused rfl)
  | mainRailsRemoved => exact .next (fun _ => rfl) fun _ => State.railsRemoved_without _ (subset_unfused rfl)
  | railFault => exact .next (fun _ => rfl) fun _ => State.railLost_without _ _ (subset_unfused rfl)
  | thermtrip => exact .next (fun _ => rfl) fun _ => State.tripped_without _ (subset_unfused rfl)
  | evlogConsWrite => exact .live (fun _ => rfl) fun _ => State.consWrite_without _ _ (subset_unfused rfl)
  | registerWrite by_ offset v => exact keepsFuses_registerWrite by_ offset v
  | hostLinkRecovery => exact .live (fun _ => rfl) fun _ => State.hostRecovery_without _ _ _ (subset_unfused rfl)
  | wakeSourceFires => exact .next (fun _ => rfl) fun _ => State.wakeSource_without _ _ (subset_unfused rfl)
  | pfFlrDone => exact .live (fun _ => rfl) fun _ => State.pfFlrDone_without _ (subset_unfused rfl)
  | controllerResetDone => exact .live (fun _ => rfl) fun _ => State.ctlResetDone_without _ _ (subset_unfused rfl)
  | invalidCommandOpcode q => exact keepsFuses_invalidCommandOpcode q
  | invalidManagementRequest => exact .mgmt (fun _ => rfl) fun _ => rfl

end Sys2Proof.Machine
end

section
/-! SUPPORT. ROLLBACK_COMMIT in a PSK session (R431, R443 to R445): what it blows and what it answers; with the commands
that keep the fuses, that settles how the anti-rollback counter moves. -/
namespace Sys2Proof.Machine

/-! ## What the operation does -/

theorem State.commitRollback_of_fallback {s : State} (fallback : s.bit Reg.secStatus 2 = true) :
    s.commitRollback = (s, { status := 3 }) :=
  if_pos fallback

theorem State.commitRollback_of_le {s : State} (normal : s.bit Reg.secStatus 2 = false)
    (le : s.runningSvn ≤ s.sec.rollback) : s.commitRollback = (s, { status := 0 }) := by
  simp [State.commitRollback, normal, le]

/-- The fuses are blown up to the running firmware's SVN, which SEC_STATUS shows, and the event is raised. -/
theorem State.commitRollback_of_lt {s : State} (normal : s.bit Reg.secStatus 2 = false)
    (lt : s.sec.rollback < s.runningSvn) :
    s.commitRollback = ((State.setField { s with sec := { s.sec with rollback := s.runningSvn } } Reg.secStatus 8 8
      s.runningSvn).raise Reg.secEvent 7, { status := 0 }) := by
  simp [State.commitRollback, normal, Nat.not_le.2 lt]

theorem State.rollback_commitRollback_of_lt {s : State} (normal : s.bit Reg.secStatus 2 = false)
    (lt : s.sec.rollback < s.runningSvn) : s.commitRollback.1.sec.rollback = s.runningSvn := by
  rw [State.commitRollback_of_lt normal lt]
  exact State.rollback_of_unfused (State.raise_without _ _ _ (subset_unfused rfl))

/-- What the counter can be after the operation: as it was, or raised to the running firmware's SVN. -/
theorem State.rollback_commitRollback (s : State) : s.commitRollback.1.sec.rollback = s.sec.rollback ∨
    (s.sec.rollback < s.runningSvn ∧ s.commitRollback.1.sec.rollback = s.runningSvn) := by
  cases fallback : s.bit Reg.secStatus 2 with
  | true => exact .inl (by rw [State.commitRollback_of_fallback fallback])
  | false =>
    obtain lt | le := Nat.lt_or_ge s.sec.rollback s.runningSvn
    · exact .inr ⟨lt, State.rollback_commitRollback_of_lt fallback lt⟩
    · exact .inl (by rw [State.commitRollback_of_le fallback le])

/-! ## The answer -/

theorem State.rollback_mgmtReply (s : State) (opcode seq : Nat) (a : MgmtAnswer) :
    (s.mgmtReply opcode seq a).sec.rollback = s.sec.rollback :=
  State.rollback_of_unfused (s.mgmtReply_without opcode seq a (subset_unfused rfl))

theorem State.out_subset_linkBusy (s : State) : s.out ⊆ s.linkBusy.out := by
  unfold State.linkBusy
  dsimp only
  split
  · exact List.subset_cons_self ..
  · exact List.Subset.refl _

theorem State.out_subset_toHost (s : State) (o : Out) : s.out ⊆ (s.toHost o).out :=
  List.subset_cons_of_subset _ s.out_subset_linkBusy

theorem State.out_subset_msix (s : State) (f vec : Nat) : s.out ⊆ (s.msix f vec).out := by
  unfold State.msix
  dsimp only
  split
  · exact List.Subset.refl _
  · split
    · exact List.Subset.refl _
    · split
      · exact List.Subset.refl _
      · exact State.out_subset_toHost (s.inc Reg.hiuMsgCnt) _

theorem State.out_subset_doeIrq (s : State) : s.out ⊆ s.doeIrq.out := by
  unfold State.doeIrq
  split
  · exact State.out_subset_msix (s.updFn 0 _) 0 0
  · exact List.Subset.refl _

theorem State.out_subset_doeReady (s : State) : s.out ⊆ s.doeReady.out := by
  unfold State.doeReady
  split
  · exact fun _ mem => State.out_subset_doeIrq _ (List.mem_cons_of_mem _ mem)
  · exact List.Subset.refl _

/-- The answer that a management request is given goes out. -/
theorem State.mgmtMessage_mem_mgmtReply (s : State) (opcode seq : Nat) (a : MgmtAnswer) :
    Out.bytes 1 (mgmtMessage opcode seq a.status a.detail a.data) ∈ (s.mgmtReply opcode seq a).out :=
  State.out_subset_doeReady _ (List.mem_cons_self ..)

/-! ## The request in its session -/

/-- What a management request can do (R442 to R444): nothing without its message in the mailbox, an authentication
failure without its session, a refusal where it is not allowed, and otherwise its effect with its answer. -/
theorem State.mgmt_cases (s : State) (id opcode seq : Nat) (allowed : State → Sess → Bool)
    (f : State → State × MgmtAnswer) :
    s.mgmt id opcode seq allowed f = s ∨ s.mgmt id opcode seq allowed f = s.authFailed ∨
    s.mgmt id opcode seq allowed f = (s.touchSession id).mgmtReply opcode seq { status := 3 } ∨
    s.mgmt id opcode seq allowed f =
      (f (s.touchSession id)).1.mgmtReply opcode seq (f (s.touchSession id)).2 := by
  unfold State.mgmt
  dsimp only
  split
  · exact .inl rfl
  · split
    · exact .inr (.inl rfl)
    · split
      · exact .inr (.inr (.inr rfl))
      · exact .inr (.inr (.inl rfl))

/-- In a PSK session on a claimed device a request that needs them has its effect, and its answer is sent. -/
theorem State.mgmt_of_pskSession {s : State} {id : Nat} (session : s.pskSession id = true) (opcode seq : Nat)
    (f : State → State × MgmtAnswer) : s.mgmt id opcode seq claimedPsk f =
      (f (s.touchSession id)).1.mgmtReply opcode seq (f (s.touchSession id)).2 := by
  simp only [State.pskSession, Bool.and_eq_true, Option.any_eq_true_iff_get] at session
  obtain ⟨⟨secured, claimed⟩, isOpen, psk, ready⟩ := session
  obtain ⟨x, found⟩ := Option.isSome_iff_exists.1 isOpen
  simp only [found, Option.get_some] at psk ready
  have allowed : claimedPsk (s.touchSession id) x = true := by
    simp [claimedPsk, State.touchSession, claimed, psk, ready]
  simp [State.mgmt, secured, found, allowed]

theorem State.rollback_mgmt_commitRollback (s : State) (id opcode seq : Nat) (allowed : State → Sess → Bool) :
    (s.mgmt id opcode seq allowed State.commitRollback).sec.rollback = s.sec.rollback ∨
    (s.sec.rollback < s.runningSvn ∧
      (s.mgmt id opcode seq allowed State.commitRollback).sec.rollback = s.runningSvn) := by
  obtain e | e | e | e := s.mgmt_cases id opcode seq allowed State.commitRollback <;> rw [e]
  · exact .inl rfl
  · exact .inl (State.rollback_of_unfused (s.authFailed_without (subset_unfused rfl)))
  · exact .inl (State.rollback_mgmtReply ..)
  · rw [State.rollback_mgmtReply]
    exact State.rollback_commitRollback (s.touchSession id)

/-! ## The command -/

/-- What a command can do to the fuses: nothing, or, for a ROLLBACK_COMMIT, blow them up to the running firmware's
SVN. -/
theorem rollback_of_exec {c : Instr} {s t : State} (step : exec c s = .next t) : t.sec.rollback = s.sec.rollback ∨
    ((∃ id seq, c = .rollbackCommit id seq) ∧ s.sec.rollback < s.runningSvn ∧ t.sec.rollback = s.runningSvn) := by
  by_cases commit : ∃ id seq, c = .rollbackCommit id seq
  case neg =>
    exact .inl (keepsFuses_of_ne_rollbackCommit c (fun id seq is => commit ⟨id, seq, is⟩) s t step)
  case pos =>
    obtain ⟨id, seq, rfl⟩ := commit
    change Host.Outcome.next (s.whenLive (·.mgmt id 0x03 seq claimedPsk State.commitRollback)) = .next t at step
    cases step
    cases live : s.live with
    | false => exact .inl (by rw [State.whenLive_dead _ _ live])
    | true =>
      rw [State.whenLive_live _ _ live]
      exact (s.rollback_mgmt_commitRollback id 0x03 seq claimedPsk).imp_right (⟨⟨id, seq, rfl⟩, ·⟩)

theorem exec_rollbackCommit_of_pskSession {s : State} {id : Nat} (live : s.live = true)
    (session : s.pskSession id = true) (seq : Nat) : exec (.rollbackCommit id seq) s =
      .next ((s.touchSession id).commitRollback.1.mgmtReply 0x03 seq (s.touchSession id).commitRollback.2) := by
  change Host.Outcome.next (s.whenLive (·.mgmt id 0x03 seq claimedPsk State.commitRollback)) = _
  rw [State.whenLive_live _ _ live, State.mgmt_of_pskSession session]

/-- A ROLLBACK_COMMIT in its session leaves the fuses as its operation leaves them and sends the operation's status. -/
theorem exec_rollbackCommit_answers {s : State} {id fuses status : Nat} (live : s.live = true)
    (session : s.pskSession id = true) (seq : Nat)
    (leaves : (s.touchSession id).commitRollback.1.sec.rollback = fuses)
    (answers : (s.touchSession id).commitRollback.2 = { status := status }) :
    ∃ t, exec (.rollbackCommit id seq) s = .next t ∧ t.sec.rollback = fuses ∧
      Out.bytes 1 (mgmtMessage 3 seq status) ∈ t.out := by
  refine ⟨_, exec_rollbackCommit_of_pskSession live session seq, ?_, ?_⟩
  · rw [State.rollback_mgmtReply, leaves]
  · rw [answers]
    exact State.mgmtMessage_mem_mgmtReply ..

/-! ## Every step -/

theorem runningSvn_le_of_firmwareOk {s : State} (ok : FirmwareOk s) : s.runningSvn ≤ 64 := by
  obtain ⟨-, running⟩ := ok
  unfold State.runningSvn
  cases image : s.sec.running with
  | none => exact Nat.zero_le _
  | some x => exact (running x image).2

theorem rollback_le_of_exec {c : Instr} {s t : State} (ok : FirmwareOk s) (step : exec c s = .next t) :
    t.sec.rollback ≤ 64 := by
  obtain kept | ⟨-, -, blown⟩ := rollback_of_exec step
  · exact kept ▸ ok.1
  · exact blown ▸ runningSvn_le_of_firmwareOk ok

theorem rollback_le_of_step {s t : State} (ok : FirmwareOk s) (h : step s = .next t) : t.sec.rollback ≤ 64 := by
  unfold step at h
  split at h
  case h_1 =>
    cases h
    exact (State.rollback_of_unfused (s.idleTick_without (subset_unfused rfl))).trans_le ok.1
  case h_2 rest _ => exact rollback_le_of_exec (s := { s with pending := rest }) ok h

/-- Settles O45: every command but ROLLBACK_COMMIT keeps the fuses, and ROLLBACK_COMMIT's three cases are those of its
operation. -/
theorem fusesOnlyByCommit : Obligations.FusesOnlyByCommit := by
  unfold Obligations.FusesOnlyByCommit
  refine ⟨?onlyCommit, ?fallback, ?blows, ?current, ?bounded⟩
  case onlyCommit =>
    intro c s t step changed
    obtain kept | ⟨commit, lt, blown⟩ := rollback_of_exec step
    · exact absurd kept changed
    · exact ⟨commit, blown ▸ lt, blown⟩
  case fallback =>
    intro s id seq live session fallback
    have refused := State.commitRollback_of_fallback (s := s.touchSession id) fallback
    exact exec_rollbackCommit_answers live session seq (by rw [refused]; rfl) (by rw [refused])
  case blows =>
    intro s id seq live session normal lt
    have blown := State.commitRollback_of_lt (s := s.touchSession id) normal lt
    exact exec_rollbackCommit_answers live session seq (State.rollback_commitRollback_of_lt normal lt) (by rw [blown])
  case current =>
    intro s id seq live session normal current
    have nothing := State.commitRollback_of_le (s := s.touchSession id) normal current.ge
    exact exec_rollbackCommit_answers live session seq (by rw [nothing]; rfl) (by rw [nothing])
  case bounded =>
    intro s t ok step
    exact rollback_le_of_step ok step

end Sys2Proof.Machine
end

section
/-! SUPPORT. EVC_UNPEND (R524): among the status bits of the event sources it writes one PENDING bit alone; the hold-off
group that may go idle with it (R534) has its state in another register. -/
namespace Sys2Proof.Machine

theorem evcHoldoff_ne_evcSrcStatus (g n : Nat) : Reg.evcHoldoff g ≠ Reg.evcSrcStatus n := by
  unfold Reg.evcHoldoff Reg.evcSrcStatus
  omega

theorem evcSrcStatus_ne {m n : Nat} (hm : m < 1024) (hn : n < 1024) (ne : m ≠ n) :
    Reg.evcSrcStatus n ≠ Reg.evcSrcStatus m := by
  unfold Reg.evcSrcStatus
  omega

theorem State.reg_idleGroup_evcSrcStatus (s : State) (n m : Nat) :
    (s.idleGroup n).reg (Reg.evcSrcStatus m) = s.reg (Reg.evcSrcStatus m) := by
  unfold State.idleGroup
  split
  case h_1 g _ =>
    split
    · rw [State.reg_setField, if_neg (evcHoldoff_ne_evcSrcStatus g m)]
    · rfl
  case h_2 => rfl

/-- The status bits of the sources once PENDING of one is cleared. -/
theorem State.bit_unpend_evcSrcStatus (s : State) (n m i : Nat) :
    (s.unpend n).bit (Reg.evcSrcStatus m) i =
      if Reg.evcSrcStatus n = Reg.evcSrcStatus m ∧ 0 = i then false else s.bit (Reg.evcSrcStatus m) i := by
  unfold State.unpend
  split
  case isTrue =>
    rw [State.bit_of_reg (State.reg_idleGroup_evcSrcStatus ..), State.bit_setBit _ _ _ _ _ _ (by decide)]
  case isFalse idle =>
    split
    case isTrue cleared =>
      obtain ⟨same, rfl⟩ := cleared
      exact same ▸ eq_false_of_ne_true idle
    case isFalse => rfl

theorem State.srcPending_unpend_same (s : State) (n : Nat) : (s.unpend n).srcPending n = false := by
  rw [State.srcPending, State.bit_unpend_evcSrcStatus, if_pos ⟨rfl, rfl⟩]

theorem State.srcPending_unpend_ne (s : State) {m n : Nat} (hm : m < 1024) (hn : n < 1024) (ne : m ≠ n) :
    (s.unpend n).srcPending m = s.srcPending m := by
  rw [State.srcPending, State.bit_unpend_evcSrcStatus, if_neg fun h => evcSrcStatus_ne hm hn ne h.1, State.srcPending]

theorem State.srcActive_unpend (s : State) (n m : Nat) : (s.unpend n).srcActive m = s.srcActive m := by
  rw [State.srcActive, State.bit_unpend_evcSrcStatus, if_neg fun h => Nat.zero_ne_one h.2, State.srcActive]

theorem State.unpendWrite_of_inactive {s : State} {n : Nat} (message : n < 992) (inactive : s.srcActive n = false) :
    s.unpendWrite n = s.unpend n :=
  if_pos ⟨message, ne_true_of_eq_false inactive⟩

theorem State.unpendWrite_of_level_or_active {s : State} {n : Nat} (h : 992 ≤ n ∨ s.srcActive n = true) :
    s.unpendWrite n = s :=
  if_neg fun ⟨message, inactive⟩ => h.elim message.not_ge inactive

theorem exec_evcUnpend_of_core {s : State} {c : Nat} (live : s.live = true) (control : c < 6) (n : Nat) :
    exec (.evcUnpend (.core c) n) s = .next (s.unpendWrite n) :=
  congrArg Host.Outcome.next (s.byCore_core c Reg.evcUnpend (·.unpendWrite n) live control)

/-- Settles O53: the command is `State.unpendWrite`, which clears PENDING of an inactive message source and is otherwise
nothing. -/
theorem unpendRule : Obligations.UnpendRule := by
  unfold Obligations.UnpendRule
  refine ⟨?inactive, ?levelOrActive⟩
  case inactive =>
    intro s c n live control message inactive
    have unpends : exec (.evcUnpend (.core c) n) s = .next (s.unpend n) := by
      rw [exec_evcUnpend_of_core live control, State.unpendWrite_of_inactive message inactive]
    have source : n < 1024 := message.trans (by decide)
    exact ⟨_, unpends, s.srcPending_unpend_same n, fun m hm ne =>
      ⟨s.srcPending_unpend_ne hm source ne, s.srcActive_unpend n m⟩⟩
  case levelOrActive =>
    intro s c n live control h
    rw [exec_evcUnpend_of_core live control, State.unpendWrite_of_level_or_active h]

end Sys2Proof.Machine
end

section
/-! SUPPORT. The registers of the upstream aperture (R572): their row of the map names cores 4 and 5 as writers, and their
write is stored only while EN is 0 and no upstream transaction is outstanding. -/
namespace Sys2Proof.Machine

/-- The LPB_UP_ registers that hold the aperture (Table 14-7). -/
abbrev lpbUpRegs : List Nat := [Reg.lpbUpBaseLo, Reg.lpbUpBaseHi, Reg.lpbUpLocal, Reg.lpbUpSize]

/-! ## Who may write them, and when -/

theorem exists_regDef_of_mem_lpbUpRegs {off : Nat} (up : off ∈ lpbUpRegs) :
    ∃ d, regDef off = some d ∧ d.writer = .service ∧ d.w1c = 0 := by
  have rows : ∀ o ∈ lpbUpRegs, (regDef o).any (fun d => d.writer = .service ∧ d.w1c = 0) = true := by decide
  simpa [Option.any_eq_true] using rows off up

theorem RegDef.takes_iff_of_service {d : RegDef} (service : d.writer = .service) (by_ : Requester) (off : Nat) :
    d.takes by_ off = true ↔ by_ = .core 4 ∨ by_ = .core 5 := by
  simp [RegDef.takes, service]

theorem State.upWritable_iff (s : State) :
    s.upWritable = true ↔ s.bit Reg.lpbUpSize 31 = false ∧ s.lpb.upBuf = [] ∧ s.lpb.upReads = [] := by
  simp [State.upWritable, and_assoc]

/-! ## What a write of one of them does -/

theorem State.reg_store_same (s : State) (d : RegDef) (off : Nat) (v : Word) :
    (s.store d off v).reg off = d.after (s.reg off) v :=
  State.reg_setReg_same ..

theorem State.actHigh_of_mem_lpbUpRegs (s : State) (by_ : Requester) {d : RegDef} {off : Nat} (v : Word)
    (up : off ∈ lpbUpRegs) (service : d.writer = .service) :
    s.actHigh by_ d off v = if s.upWritable then s.store d off v else s := by
  simp only [List.mem_cons, List.not_mem_nil, or_false] at up
  obtain rfl | rfl | rfl | rfl := up <;>
    simp [State.actHigh, service, Reg.lpbUpBaseLo, Reg.lpbUpBaseHi, Reg.lpbUpLocal, Reg.lpbUpSize]

/-- Core 4 or 5 stores a value in one of them while its block is served and the aperture is off and idle, and only then. -/
theorem State.writeReg_service_of_mem_lpbUpRegs (s : State) {by_ : Requester} {d : RegDef} {off : Nat} (value sets : Word)
    (core : by_ = .core 4 ∨ by_ = .core 5) (up : off ∈ lpbUpRegs) (row : regDef off = some d)
    (service : d.writer = .service) (noW1c : d.w1c = 0) :
    s.writeReg by_ off value sets = if s.blockServed off ∧ s.upWritable then s.store d off value else s := by
  have takes : d.takes by_ off = true := (RegDef.takes_iff_of_service service by_ off).2 core
  have high : ¬ off < 0xF00000 := (by decide : ∀ o ∈ lpbUpRegs, ¬ o < 0xF00000) off up
  have value_kept : value &&& ~~~(sets &&& d.w1c) = value := by
    rw [show d.w1c = 0#32 from noW1c, BitVec.and_zero, BitVec.not_zero, BitVec.and_allOnes]
  have acts : s.writeReg by_ off value sets = if s.blockServed off then s.actHigh by_ d off value else s := by
    obtain rfl | rfl := core <;> cases served : s.blockServed off <;>
      simp [State.writeReg, row, takes, high, value_kept, served]
  rw [acts, s.actHigh_of_mem_lpbUpRegs by_ value up service, ite_and]

/-- A write that the register does not take of its requester is discarded, or it is an access fault. -/
theorem State.writeReg_of_not_takes (s : State) {by_ : Requester} {d : RegDef} {off : Nat} (value sets : Word)
    (row : regDef off = some d) (refused : ¬ d.takes by_ off = true) :
    s.writeReg by_ off value sets = s ∨
      ∃ c, s.writeReg by_ off value sets = s.accessFault c (coreRegBase + off) := by
  cases by_ with
  | pf0 => exact .inl (by simp [State.writeReg, row, refused])
  | core c =>
    by_cases fault : 6 ≤ c ∧ ¬ extMay c off true = true
    · exact .inr ⟨c, if_pos fault⟩
    · exact .inl ((if_neg fault).trans (by simp [row, refused]))

/-- An access fault writes the registers of the Event Controller and the event log alone. -/
theorem State.reg_accessFault (s : State) (core addr : Nat) {r : Nat} (evc : r / 0x100000 ≠ 15)
    (log : r / 0x100000 ≠ 20) : (s.accessFault core addr).reg r = s.reg r :=
  reg_of_without (W := [.evc, .log, .out, .regs 15, .regs 20]) (State.accessFault_without _ _ _ (List.Subset.refl _))
    (by simp [evc, log])

/-- A write that another requester makes, or that comes while the aperture is on or busy, leaves every one of them. -/
theorem State.reg_writeReg_of_not_upWritable (s : State) {by_ : Requester} {off : Nat} (value sets : Word)
    (up : off ∈ lpbUpRegs) (barred : ¬ ((by_ = .core 4 ∨ by_ = .core 5) ∧ s.upWritable = true)) {r : Nat}
    (hr : r ∈ lpbUpRegs) : (s.writeReg by_ off value sets).reg r = s.reg r := by
  obtain ⟨d, row, service, noW1c⟩ := exists_regDef_of_mem_lpbUpRegs up
  by_cases core : by_ = .core 4 ∨ by_ = .core 5
  case pos =>
    rw [s.writeReg_service_of_mem_lpbUpRegs value sets core up row service noW1c,
      if_neg fun stored => barred ⟨core, stored.2⟩]
  case neg =>
    have refused : ¬ d.takes by_ off = true := mt (RegDef.takes_iff_of_service service by_ off).1 core
    obtain discarded | ⟨c, fault⟩ := s.writeReg_of_not_takes value sets row refused
    · rw [discarded]
    · have block : r / 0x100000 = 18 := (by decide : ∀ o ∈ lpbUpRegs, o / 0x100000 = 18) r hr
      rw [fault, s.reg_accessFault c _ (by omega) (by omega)]

/-- Settles O54: the row of an LPB_UP_ register takes writes of cores 4 and 5 alone, `State.upWritable` decides whether one
is stored, and a write the row refuses changes at most what an access fault changes. -/
theorem upstreamRegisters : Obligations.UpstreamRegisters := by
  unfold Obligations.UpstreamRegisters
  refine ⟨?stored, ?otherwise⟩
  case stored =>
    intro s c off v m live normal core up enOff noWrites noReads
    obtain ⟨d, row, service, noW1c⟩ := exists_regDef_of_mem_lpbUpRegs up
    have requester : (.core c : Requester) = .core 4 ∨ (.core c : Requester) = .core 5 := by simpa using core
    have accepts : s.blockServed off = true ∧ s.upWritable = true :=
      ⟨State.blockServed_of_not_recovery off normal, s.upWritable_iff.2 ⟨enOff, noWrites, noReads⟩⟩
    refine ⟨_, d, exec_registerWrite_of_live live _ off ⟨v, m⟩, row, ?_⟩
    rw [s.writeReg_service_of_mem_lpbUpRegs v m requester up row service noW1c, if_pos accepts, State.reg_store_same]
  case otherwise =>
    intro s t by_ off v m up barred run r hr
    rw [← s.upWritable_iff] at barred
    obtain rfl : s.whenLive (·.writeReg by_ off v m) = t := Host.Outcome.next.inj run
    cases live : s.live with
    | false => rw [State.whenLive_dead _ _ live]
    | true => rw [State.whenLive_live _ _ live, s.reg_writeReg_of_not_upWritable v m up barred hr]

end Sys2Proof.Machine
end

section
/-! SUPPORT. The footprint of each command: the parts of the state that its rules, and what they bring about in other blocks,
may write. Every other part stays as it is. -/
namespace Sys2Proof.Machine

/-- The two commands that build the state anew and so have no footprint: a power-on reset and the end of a device reset. -/
def rebuilds : Instr → Bool
  | .powerOnReset .. | .deviceResetShutdownDone => true
  | _ => false

/-- The parts that a command may write. -/
def footprint : Instr → List Part
  -- Frame time (chapter 2)
  | .frefLost | .fsyncEdge _ => reporting ++ [.ftb, regsOf .ftb]
  | .frefGood | .ppsLost | .dpllDisable => [.ftb, .evc, regsOf .ftb, regsOf .evc]
  | .fppsEdge _ _ _ | .frameEdge => reporting ++ [.time, .ftb, .prx, .tenants, .cmds, .mch, .rdp, .wrp, .mcr, .nss,
    .fns, .hpt, .aens, .mlk, .keys, .mtr, .lpb, .tln, .out, .draw, regsOf .hpt, regsOf .qen, regsOf .ftb, regsOf .prx,
    regsOf .rdp, regsOf .wrp, regsOf .mcr, regsOf .tcy, regsOf .mtr, regsOf .sec, regsOf .mlk, regsOf .tln]
  | .fsyncLost => [regsOf .ftb]
  | .minuteEdge => reporting ++ [.fns, .hpt, .mtr, .lpb, .out, regsOf .hpt, regsOf .qen, regsOf .ftb, regsOf .mtr,
    regsOf .tln]
  | .todSecWrite _ _ => [.evc, regsOf .ftb, regsOf .evc]
  | .todArm => [.ftb, regsOf .ftb]
  | .todApply => reporting ++ [.time, .ftb, .prx, .cmds, .mch, .rdp, .wrp, .mcr, .fns, .hpt, .mlk, .mtr, .lpb, .tln,
    .out, regsOf .hpt, regsOf .qen, regsOf .ftb, regsOf .mtr, regsOf .mlk, regsOf .tln]
  | .frameCounterRead => [.out, regsOf .ftb]
  | .heartbeatRx _ => reporting ++ [.ftb, .prx, .rdp, .mlk, .out, .draw, regsOf .ftb, regsOf .prx, regsOf .mlk]
  | .skewRaisedRx | .pairSkewClear => reporting ++ [.ftb, .prx, .rdp, .mlk, .out, regsOf .ftb, regsOf .prx, regsOf .mlk]
  | .skewClearProposalRx _ => [.ftb, .mlk]
  | .phaseMismatchClear => [.prx, .rdp, .evc, .mlk, .out, regsOf .prx, regsOf .mlk, regsOf .evc]
  -- Prism images and admission (chapters 3 and 4)
  | .prxLoad _ => reporting ++ [.prx, .fns, .hpt, .lpb, .out, regsOf .hpt, regsOf .qen, regsOf .prx, regsOf .mtr,
    regsOf .tln]
  | .imageChecksDone _ => reporting ++ [.prx, .sec, regsOf .prx]
  | .prxDiscard _ => reporting ++ [.prx, .out, regsOf .prx]
  | .prxArm _ | .armReportRx _ | .armWaitTimeout | .prxDisarm _ | .prxParkReq _ => reporting ++ [.prx, .rdp, .mcr, .mlk,
    .out, regsOf .prx, regsOf .mlk]
  | .switchCommit => [.prx]
  | .imageSwitch => reporting ++ [.prx, .tenants, .cmds, .mch, .rdp, .wrp, .mcr, .nss, .hpt, .mlk, .mtr, .out,
    regsOf .qen, regsOf .prx, regsOf .wrp, regsOf .mcr, regsOf .mlk]
  | .parkEntered => [.prx, .rdp, .fns, .hpt, .evc, .mlk, .mtr, .lpb, .out, regsOf .hpt, regsOf .qen, regsOf .prx,
    regsOf .mcr, regsOf .mtr, regsOf .mlk, regsOf .evc, regsOf .tln]
  | .variantSwitch => [.prx, .cmds, .rdp, .evc, .mlk, .out, regsOf .prx, regsOf .mlk, regsOf .evc]
  | .junctionTempSample _ | .thermalConditionClear => [.prx, .rdp, .evc, .mlk, .out, regsOf .prx, regsOf .mlk,
    regsOf .evc]
  | .stageAdmit _ _ _ _ => [.prx, .cmds]
  | .slotStart _ | .slotEnd _ => reporting ++ [.prx, .cmds, .mch, .rdp, .wrp, .mcr, .fns, .hpt, .aens, .mlk, .lpb, .out,
    regsOf .hpt, regsOf .qen, regsOf .prx, regsOf .mch, regsOf .rdp, regsOf .wrp, regsOf .mcr, regsOf .tcy, regsOf .mtr,
    regsOf .mlk, regsOf .tln]
  | .dieOpComplete _ _ _ => reporting ++ [.prx, .cmds, .mch, .rdp, .wrp, .mcr, .nss, .fns, .hpt, .aens, .errs, .mlk,
    .lpb, .out, regsOf .hpt, regsOf .qen, regsOf .prx, regsOf .mch, regsOf .rdp, regsOf .wrp, regsOf .mcr, regsOf .tcy,
    regsOf .mtr, regsOf .mlk, regsOf .tln]
  | .driftClear => [regsOf .prx]
  | .prxTokenTrim _ _ => reporting ++ [.prx, .out]
  | .cqePost _ => [.prx, .tenants, .cmds, .rdp, .wrp, .fns, .hpt, .evc, .mtr, .out, regsOf .hpt, regsOf .qen,
    regsOf .rdp, regsOf .wrp, regsOf .evc]
  -- Media attachment (chapter 5)
  | .channelBringupDone _ _ => reporting ++ [.prx, .cmds, .mch, .rdp, .wrp, .mcr, .aens, .mlk, .sec, .out, regsOf .prx,
    regsOf .mch, regsOf .rdp, regsOf .wrp, regsOf .mcr, regsOf .mlk]
  | .mchChBringup _ _ => reporting ++ [.out, regsOf .mch]
  | .mchChRetire _ _ | .channelRetrain _ _ => reporting ++ [.prx, .cmds, .mch, .rdp, .wrp, .mcr, .nss, .fns, .aens,
    .errs, .mlk, .sec, .out, regsOf .prx, regsOf .mch, regsOf .rdp, regsOf .wrp, regsOf .mlk]
  | .rbNRise _ _ => [.out]
  | .statusPoll _ _ => [.mch, .out]
  | .dieOpTimeout _ => reporting ++ [.prx, .cmds, .mch, .rdp, .wrp, .mcr, .nss, .fns, .hpt, .aens, .errs, .mlk, .sec,
    .lpb, .out, regsOf .hpt, regsOf .qen, regsOf .prx, regsOf .mch, regsOf .rdp, regsOf .wrp, regsOf .mcr, regsOf .tcy,
    regsOf .mtr, regsOf .mlk, regsOf .tln]
  | .dieTempRead _ _ => reporting ++ [.mch, .out, regsOf .mch]
  -- Read path (chapter 6)
  | .mapLookup _ _ _ _ => reporting ++ [.prx, .tenants, .cmds, .mch, .rdp, .wrp, .mcr, .nss, .fns, .errs, .mlk, .out,
    regsOf .rdp, regsOf .wrp, regsOf .mcr, regsOf .mlk]
  | .areadReqRx _ => [.cmds, .mch, .rdp, .wrp, .evc, .mlk, .out, regsOf .mch, regsOf .rdp, regsOf .wrp, regsOf .mlk,
    regsOf .evc]
  | .areadRspRx _ _ => reporting ++ [.prx, .cmds, .mch, .rdp, .wrp, .mcr, .nss, .fns, .errs, .mlk, .out, regsOf .mch,
    regsOf .rdp, regsOf .wrp, regsOf .mcr, regsOf .mlk]
  | .aroundTmo _ => reporting ++ [.prx, .cmds, .mch, .rdp, .wrp, .mcr, .nss, .fns, .errs, .mlk, .out, regsOf .rdp,
    regsOf .wrp, regsOf .mlk]
  | .decodeDone _ _ _ | .softDecodePassDone _ _ _ => reporting ++ [.prx, .cmds, .mch, .rdp, .wrp, .mcr, .nss, .fns,
    .hpt, .aens, .errs, .mlk, .lpb, .out, regsOf .hpt, regsOf .qen, regsOf .prx, regsOf .mch, regsOf .rdp, regsOf .wrp,
    regsOf .mcr, regsOf .tcy, regsOf .mtr, regsOf .mlk, regsOf .tln]
  -- Write path (chapter 7)
  | .writeStaged _ => reporting ++ [.cmds, .mch, .rdp, .wrp, .mcr, .nss, .aens, .mlk, .out, regsOf .rdp, regsOf .wrp,
    regsOf .mcr, regsOf .mlk]
  | .stagingFreed _ => [.cmds, .rdp, .wrp, .mcr, .nss, .evc, .mlk, .out, regsOf .wrp, regsOf .mcr, regsOf .mlk,
    regsOf .evc]
  | .mackRx _ _ | .mackTimeout _ => [.cmds, .rdp, .wrp, .nss, .evc, .mlk, .out, regsOf .wrp, regsOf .mlk, regsOf .evc]
  | .programDone _ _ => reporting ++ [.prx, .cmds, .mch, .rdp, .wrp, .mcr, .fns, .hpt, .aens, .mlk, .lpb, .out,
    regsOf .hpt, regsOf .qen, regsOf .prx, regsOf .mch, regsOf .rdp, regsOf .wrp, regsOf .mcr, regsOf .tcy, regsOf .mtr,
    regsOf .mlk, regsOf .tln]
  | .stripeCloseTimeout _ | .checkpointSegment _ | .wrpCkptForce _ => reporting ++ [.cmds, .mch, .rdp, .wrp, .mcr,
    .aens, .out, regsOf .rdp, regsOf .wrp, regsOf .mcr]
  | .journalTailBelowLimit => reporting ++ [.prx, .tenants, .cmds, .mch, .rdp, .wrp, .mcr, .nss, .hpt, .mlk, .out,
    regsOf .qen, regsOf .wrp, regsOf .mcr, regsOf .mlk]
  | .holdupSenseSample _ | .pfailAssert => [.cmds, .mch, .rdp, .wrp, .mcr, .evc, .mlk, .pwr, .log, .mtr, .out,
    regsOf .wrp, regsOf .mlk, regsOf .evc]
  | .dumpDone => [.wrp, .out, regsOf .wrp]
  | .roleEdge => reporting ++ [.prx, .cmds, .rdp, .wrp, .mcr, .mlk, .out, regsOf .rdp, regsOf .wrp, regsOf .mcr,
    regsOf .mlk]
  -- Media care (chapter 8)
  | .gcFactorReview => [.mcr, regsOf .mcr]
  | .scrubLate _ => reporting ++ [.mch, regsOf .mcr]
  | .calibrationDue _ _ _ => [.mch, .out, regsOf .rdp, regsOf .mcr]
  | .mcrTestStart _ _ => reporting ++ [.cmds, .mch, .rdp, .wrp, .mcr, .aens, .out, regsOf .rdp, regsOf .wrp,
    regsOf .mcr]
  | .mcrTestAbort _ => reporting ++ [.prx, .mch, .rdp, .mcr, .mlk, .out, regsOf .prx, regsOf .mcr, regsOf .mlk]
  | .testDone _ => reporting ++ [.prx, .cmds, .mch, .rdp, .mcr, .aens, .mlk, .out, .draw, regsOf .prx, regsOf .mcr,
    regsOf .mlk]
  | .holdupTestDue => [.cmds, .rdp, .wrp, .mcr, .evc, .mlk, .out, regsOf .wrp, regsOf .mcr, regsOf .mlk, regsOf .evc]
  | .holdupTestEnd _ _ => reporting ++ [.cmds, .rdp, .wrp, .mcr, .mlk, .out, regsOf .wrp, regsOf .mcr, regsOf .mlk]
  | .lifeForecast _ => [.mch, .mcr, .evc, regsOf .mcr, regsOf .evc]
  -- Host port (chapter 9)
  | .hostLinkUp _ _ _ _ => [.evc, regsOf .hpt, regsOf .evc]
  | .hostDlDown _ | .hptContainForce _ | .attnBtn | .attnTimeout | .prsntChange _ => reporting ++ [.prx, .cmds, .rdp,
    .wrp, .fns, .hpt, .mig, .sdm, .mlk, .sec, .lpb, .out, .draw, regsOf .hpt, regsOf .fnm, regsOf .qen, regsOf .prx,
    regsOf .rdp, regsOf .wrp, regsOf .mtr, regsOf .mlk, regsOf .sdm, regsOf .tln]
  | .hostFlitCrcFail => reporting ++ [.fns, .out, regsOf .hpt]
  | .memRequestRx r => reporting ++ [.ftb, .prx, .tenants, .cmds, .mch, .rdp, .wrp, .mcr, .nss, .fns, .hpt, .mig, .aens,
    .errs, .sdm, .mlk, .pwr, .sec, .mtr, .lpb, .tln, .out, .draw, regsOf .hpt, regsOf .fnm, regsOf .qen, regsOf .ftb,
    regsOf .prx, regsOf .mch, regsOf .rdp, regsOf .wrp, regsOf .mcr, regsOf .mtr, regsOf .sec, regsOf .mlk, regsOf .aow,
    regsOf .sdm, regsOf .lpb, regsOf .tln, .regs (r.addr / 0x100000), .regs ((r.addr + 4) / 0x100000)]
  | .configRequestRx _ => reporting ++ [.prx, .tenants, .cmds, .rdp, .wrp, .fns, .hpt, .mig, .aens, .errs, .sdm, .sec,
    .lpb, .out, .draw, regsOf .hpt, regsOf .fnm, regsOf .qen, regsOf .prx, regsOf .rdp, regsOf .wrp, regsOf .mtr,
    regsOf .sec, regsOf .sdm, regsOf .tln]
  | .completionRx _ | .invalidateAbandon _ _ | .completionTimeout _ => reporting ++ [.prx, .cmds, .mch, .rdp, .wrp,
    .mcr, .fns, .hpt, .mig, .aens, .sdm, .mlk, .sec, .lpb, .out, .draw, regsOf .hpt, regsOf .fnm, regsOf .qen,
    regsOf .prx, regsOf .mch, regsOf .rdp, regsOf .wrp, regsOf .mcr, regsOf .tcy, regsOf .mtr, regsOf .mlk, regsOf .tln]
  | .aspmL1Entry _ | .aspmL1Exit => [.out, regsOf .hpt]
  | .l0pHostRequest _ => [.hpt, .evc, .out, regsOf .hpt, regsOf .evc]
  | .l0pReduceRequest => [.out]
  | .translationCompletionRx _ _ _ _ => reporting ++ [.prx, .cmds, .rdp, .wrp, .fns, .hpt, .out, regsOf .hpt,
    regsOf .rdp, regsOf .wrp]
  | .invalidateRequestRx _ _ _ | .invalidateCompletionSend _ => [.hpt, .out, regsOf .hpt]
  | .doeRequestRx _ _ _ => [.fns, .hpt, .evc, .out, regsOf .hpt, regsOf .qen, regsOf .evc]
  | .doeAbort => [.hpt]
  | .tagQuarantineEnd _ => [.hpt, regsOf .hpt]
  | .hptContainRelease => [.prx, .tenants, .cmds, .rdp, .wrp, .fns, .hpt, .aens, .evc, .out, regsOf .hpt, regsOf .qen,
    regsOf .rdp, regsOf .wrp, regsOf .evc]
  | .releaseComplete => [.rdp, .fns, .hpt, .evc, .mlk, .lpb, .out, regsOf .hpt, regsOf .qen, regsOf .mtr, regsOf .mlk,
    regsOf .evc, regsOf .tln]
  | .sppAttnAck => [.hpt, regsOf .pwr]
  | .fallbackDestageDone => reporting ++ [.mch, .wrp, .mcr, .pwr, .mtr, .out, regsOf .wrp]
  -- Functions and queues (chapter 10)
  | .createIoSq _ | .createIoCq _ | .deleteIoCq _ | .primaryFlexibleAllocation _ | .secondaryOffline _
    | .secondaryAssign _ | .secondaryOnline _ | .flush _ => [.cmds, .fns, .hpt, .out, regsOf .hpt, regsOf .qen]
  | .deleteIoSq _ | .abort _ => [.prx, .cmds, .rdp, .wrp, .fns, .hpt, .evc, .out, regsOf .hpt, regsOf .qen, regsOf .rdp,
    regsOf .wrp, regsOf .evc]
  | .sqDeleteDrained _ _ => [.cmds, .fns, .out, regsOf .qen]
  | .getLogPage _ => [.tenants, .cmds, .fns, .hpt, .lpb, .out, .draw, regsOf .hpt, regsOf .qen, regsOf .mtr,
    regsOf .tln]
  | .identify _ => [.cmds, .nss, .fns, .hpt, .lpb, .out, regsOf .hpt, regsOf .qen, regsOf .mtr, regsOf .tln]
  | .setFeatures _ _ | .getFeatures _ | .contractQuery _ | .meterRead _ => [.cmds, .fns, .hpt, .lpb, .out, regsOf .hpt,
    regsOf .qen, regsOf .mtr, regsOf .tln]
  | .asynchronousEventRequest _ => [.cmds, .fns, .hpt, .aens, .out, regsOf .hpt, regsOf .qen]
  | .formatNvm _ | .sanitize _ => [.cmds, .nss, .fns, .hpt, .out, regsOf .hpt, regsOf .qen]
  | .cryptoEraseProceed _ => reporting ++ [.prx, .tenants, .cmds, .mch, .rdp, .wrp, .mcr, .nss, .fns, .hpt, .mlk, .keys,
    .out, .draw, regsOf .qen, regsOf .rdp, regsOf .wrp, regsOf .mcr, regsOf .tcy, regsOf .sec, regsOf .mlk]
  | .namespaceCreate _ _ => [.cmds, .rdp, .nss, .fns, .hpt, .evc, .mlk, .keys, .lpb, .out, .draw, regsOf .hpt,
    regsOf .qen, regsOf .mtr, regsOf .mlk, regsOf .evc, regsOf .tln]
  | .namespaceDelete _ => [.cmds, .rdp, .nss, .fns, .hpt, .aens, .evc, .mlk, .out, regsOf .hpt, regsOf .qen,
    regsOf .mlk, regsOf .evc]
  | .namespaceAttach _ _ | .namespaceDetach _ _ => [.cmds, .rdp, .nss, .fns, .hpt, .aens, .evc, .mlk, .lpb, .out,
    regsOf .hpt, regsOf .qen, regsOf .mtr, regsOf .mlk, regsOf .evc, regsOf .tln]
  | .namespaceDetachDrained _ => [.cmds, .rdp, .nss, .fns, .aens, .evc, .mlk, .out, regsOf .mlk, regsOf .evc]
  | .firmwareImageDownload _ _ => [.cmds, .fns, .hpt, .sec, .lpb, .out, regsOf .hpt, regsOf .qen, regsOf .mtr,
    regsOf .tln]
  | .firmwareCommit _ _ => [.cmds, .fns, .hpt, .sec, .out, regsOf .hpt, regsOf .qen]
  | .write _ => reporting ++ [.prx, .tenants, .cmds, .wrp, .mcr, .nss, .fns, .hpt, .out, regsOf .hpt, regsOf .qen,
    regsOf .wrp, regsOf .mcr]
  | .read _ | .compare _ _ | .verify _ | .copy _ _ => reporting ++ [.prx, .cmds, .wrp, .nss, .fns, .hpt, .out,
    regsOf .hpt, regsOf .qen, regsOf .wrp]
  | .writeZeroes _ => [.prx, .cmds, .mch, .rdp, .wrp, .mcr, .nss, .fns, .hpt, .evc, .mlk, .out, regsOf .hpt,
    regsOf .qen, regsOf .wrp, regsOf .mcr, regsOf .mlk, regsOf .evc]
  | .datasetManagement _ _ => reporting ++ [.prx, .cmds, .mch, .rdp, .wrp, .mcr, .nss, .fns, .hpt, .mlk, .out,
    regsOf .hpt, regsOf .qen, regsOf .wrp, regsOf .mcr, regsOf .mlk]
  | .sqTailDoorbell _ _ _ | .cqHeadDoorbell _ _ _ => reporting ++ [.cmds, .fns, .hpt, .aens, .out, regsOf .hpt,
    regsOf .qen]
  | .ccEnSet _ => reporting ++ [.fns, .out, regsOf .hpt]
  | .controllerReady _ => [.fns, .hpt, .out, regsOf .hpt]
  | .controllerReset _ => reporting ++ [.prx, .tenants, .cmds, .rdp, .wrp, .fns, .hpt, .aens, .out, regsOf .hpt,
    regsOf .qen, regsOf .rdp, regsOf .wrp]
  | .bmeClear _ => [.cmds, .fns, .evc, regsOf .fnm, regsOf .evc, regsOf .sdm]
  | .bmeSet _ => [.fns, .hpt, .lpb, .out, regsOf .hpt, regsOf .qen, regsOf .mtr, regsOf .sdm, regsOf .tln]
  | .powerStateWrite _ _ => [.cmds, .fns, .hpt, .evc, .lpb, .out, regsOf .hpt, regsOf .fnm, regsOf .qen, regsOf .mtr,
    regsOf .evc, regsOf .sdm, regsOf .tln]
  | .vfEnableSet => [.fns, .evc, regsOf .fnm, regsOf .qen, regsOf .evc]
  | .vfEnableClear | .vfFlr _ => reporting ++ [.prx, .tenants, .cmds, .rdp, .wrp, .fns, .hpt, .mig, .aens, .errs, .out,
    regsOf .hpt, regsOf .fnm, regsOf .qen, regsOf .rdp, regsOf .wrp]
  | .vfFlrDone _ | .quiesce | .quiesced _ | .freeze | .frozen _ => [.fns, .evc, regsOf .fnm, regsOf .evc]
  | .pfFlr => reporting ++ [.prx, .tenants, .cmds, .rdp, .wrp, .fns, .hpt, .mig, .aens, .errs, .sdm, .sec, .lpb, .out,
    .draw, regsOf .hpt, regsOf .fnm, regsOf .qen, regsOf .prx, regsOf .rdp, regsOf .wrp, regsOf .mtr, regsOf .sec,
    regsOf .sdm, regsOf .tln]
  | .resume => [.fns, .hpt, .evc, .out, regsOf .hpt, regsOf .fnm, regsOf .evc]
  | .unfreeze => [.fns, .hpt, .evc, .out, regsOf .hpt, regsOf .fnm, regsOf .qen, regsOf .evc]
  | .save => reporting ++ [.rdp, .fns, .hpt, .mig, .mlk, .lpb, .out, regsOf .hpt, regsOf .fnm, regsOf .qen, regsOf .mtr,
    regsOf .mlk, regsOf .tln]
  | .saveDone _ => reporting ++ [.hpt, .mig, regsOf .fnm]
  | .restore => reporting ++ [.fns, .hpt, .mig, .lpb, .out, regsOf .hpt, regsOf .fnm, regsOf .qen, regsOf .mtr,
    regsOf .tln]
  | .restoreDone _ => reporting ++ [.prx, .tenants, .cmds, .rdp, .wrp, .fns, .hpt, .mig, .aens, .errs, .mlk, .mtr, .out,
    regsOf .hpt, regsOf .fnm, regsOf .qen, regsOf .rdp, regsOf .wrp]
  | .holdoffTimerExpiry _ | .msixUnmask _ _ => [.fns, .hpt, .out, regsOf .hpt, regsOf .qen]
  -- Security and metering (chapter 11)
  | .uartImageRx _ _ => [.pwr, .log, .sec]
  | .getVersion | .getCapabilities | .negotiateAlgorithms | .getDigests | .getCertificate _ _ _ | .challenge _ _
    | .getMeasurements _ _ | .keyExchange _ _ | .pskExchange _ | .spdmUnsupportedRequest | .pskRotate _ _ _ _ | .query _
    _ => reporting ++ [.fns, .hpt, .sec, .out, regsOf .hpt, regsOf .qen, regsOf .sec]
  | .finish _ _ | .endSession _ => [.fns, .hpt, .evc, .sec, .out, regsOf .hpt, regsOf .qen, regsOf .sec, regsOf .evc]
  | .authFail => reporting ++ [.hpt, regsOf .sec]
  | .sessionTimeout _ => [.evc, .sec, regsOf .sec, regsOf .evc]
  | .claim _ _ _ _ => reporting ++ [.mcr, .fns, .hpt, .sec, .out, .draw, regsOf .hpt, regsOf .qen, regsOf .mtr,
    regsOf .sec]
  | .rollbackCommit _ _ => reporting ++ [.fns, .hpt, .fuses, .sec, .out, regsOf .hpt, regsOf .qen, regsOf .sec]
  | .imageLoad _ _ _ _ => reporting ++ [.prx, .fns, .hpt, .sec, .lpb, .out, regsOf .hpt, regsOf .qen, regsOf .prx,
    regsOf .mtr, regsOf .sec, regsOf .tln]
  | .imageArm _ _ _ | .imageDisarm _ _ | .park _ _ => reporting ++ [.prx, .rdp, .mcr, .fns, .hpt, .mlk, .sec, .out,
    regsOf .hpt, regsOf .qen, regsOf .prx, regsOf .sec, regsOf .mlk]
  | .tokenTrim _ _ _ _ _ => reporting ++ [.prx, .fns, .hpt, .sec, .out, regsOf .hpt, regsOf .qen, regsOf .prx,
    regsOf .sec]
  | .profileBind _ _ _ => reporting ++ [.mch, .fns, .hpt, .sec, .out, .draw, regsOf .hpt, regsOf .qen, regsOf .mch,
    regsOf .sec]
  | .keyInstall _ _ _ _ => reporting ++ [.rdp, .nss, .fns, .hpt, .mlk, .sec, .keys, .out, regsOf .hpt, regsOf .qen,
    regsOf .tcy, regsOf .sec, regsOf .mlk]
  | .keyGenerate _ _ _ => reporting ++ [.rdp, .nss, .fns, .hpt, .mlk, .sec, .keys, .out, .draw, regsOf .hpt,
    regsOf .qen, regsOf .tcy, regsOf .sec, regsOf .mlk]
  | .lpWindow _ _ _ _ => reporting ++ [.fns, .hpt, .sec, .lpb, .out, regsOf .hpt, regsOf .qen, regsOf .sec, regsOf .lpb]
  | .minuteSigned => [.fns, .hpt, .evc, .mtr, .lpb, .out, regsOf .hpt, regsOf .qen, regsOf .mtr, regsOf .evc,
    regsOf .tln]
  | .mtrArchConsWrite _ => [.mtr, regsOf .mtr]
  -- Mirror Link (chapter 12)
  | .linkTrain _ | .nakRx _ | .speedRetrainDone _ _ | .blobRx _ _ | .repairReqRx _ _ _ _ => [.rdp, .evc, .mlk, .out,
    regsOf .mlk, regsOf .evc]
  | .initRx _ => reporting ++ [.prx, .cmds, .mch, .rdp, .wrp, .mcr, .nss, .fns, .hpt, .mig, .aens, .errs, .mlk, .out,
    regsOf .fnm, regsOf .ftb, regsOf .prx, regsOf .rdp, regsOf .wrp, regsOf .mcr, regsOf .mlk]
  | .flitRx _ => reporting ++ [.rdp, .mlk, .out, regsOf .mlk]
  | .ackTimer | .creditReport => [.mlk, .out]
  | .speedRetrain => [.mlk, regsOf .mlk]
  | .linkReset => [.evc, .mlk, regsOf .mlk, regsOf .evc, regsOf .pwr]
  | .linkDown => reporting ++ [.prx, .cmds, .mch, .rdp, .wrp, .mcr, .nss, .fns, .errs, .mlk, .out, regsOf .rdp,
    regsOf .wrp, regsOf .mlk]
  | .graceExpiry | .declareLost _ | .fenceInAssert | .dumpNoticeRx => reporting ++ [.prx, .cmds, .mch, .rdp, .wrp, .mcr,
    .nss, .fns, .hpt, .mig, .aens, .errs, .mlk, .out, regsOf .fnm, regsOf .prx, regsOf .rdp, regsOf .wrp, regsOf .mlk]
  | .rejoin _ => reporting ++ [.prx, .rdp, .nss, .mlk, .out, regsOf .mlk]
  | .pairJoined => [.prx, .cmds, .rdp, .wrp, .nss, .evc, .mlk, .out, regsOf .prx, regsOf .rdp, regsOf .wrp, regsOf .mlk,
    regsOf .evc]
  | .mwriteRx _ | .mmapRx _ => reporting ++ [.prx, .cmds, .mch, .rdp, .wrp, .mcr, .nss, .mlk, .keys, .out, .draw,
    regsOf .rdp, regsOf .wrp, regsOf .mcr, regsOf .tcy, regsOf .sec, regsOf .mlk]
  | .meraseRx _ _ => [.prx, .cmds, .mch, .rdp, .wrp, .mcr, .nss, .evc, .mlk, .keys, .out, .draw, regsOf .rdp,
    regsOf .wrp, regsOf .mcr, regsOf .tcy, regsOf .sec, regsOf .mlk, regsOf .evc]
  | .blobAckRx _ _ => reporting ++ [.hpt, .mig, .mlk, regsOf .fnm]
  | .nsSyncRx _ => reporting ++ [.prx, .cmds, .mch, .rdp, .wrp, .mcr, .nss, .fns, .aens, .mlk, .keys, .out, .draw,
    regsOf .rdp, regsOf .wrp, regsOf .mcr, regsOf .tcy, regsOf .sec, regsOf .mlk]
  | .changeMapRx _ _ => reporting ++ [.rdp, .nss, .mlk, .out, regsOf .mlk]
  | .resyncDoneRx _ => [.rdp, .nss, .evc, .mlk, .out, regsOf .mlk, regsOf .evc]
  | .variant3ReportRx _ | .clearingFrameRx _ => [.prx, .rdp, .evc, .mlk, .out, regsOf .prx, regsOf .mlk, regsOf .evc]
  | .partnerHostLost | .partnerHostRestored => [.evc, .mlk, regsOf .mlk, regsOf .evc]
  | .kcvRx _ _ => [.rdp, .nss, .evc, .mlk, .out, regsOf .tcy, regsOf .mlk, regsOf .evc]
  | .goingDownRx => [.mlk]
  | .blobDiscard _ => reporting ++ [.mlk, .out]
  -- Control complex (chapter 13)
  | .evcRing _ _ => reporting
  | .evcUnpend _ _ | .evcClaim _ _ | .evcComplete _ _ _ | .evcStackReset _ _ | .evcGdisWrite _ _ | .watchdogRestart _ _
    _ | .coreAccessFault _ _ _ => reporting ++ [.out]
  | .levelSourceChange _ _ => [.evc, regsOf .evc, regsOf .pwr]
  | .holdoffGroupExpiry _ => [regsOf .evc]
  | .watchdogExpiry _ => [.evc, .out, regsOf .evc]
  | .watchdogCoreReset _ => reporting ++ [.hpt]
  | .coreEccFault _ => reporting ++ [.out, .draw, regsOf .srm]
  | .watchWake _ _ | .aowAlarmExpiry => [.out, regsOf .aow]
  | .watchPinEvent _ => [.evc, regsOf .evc, regsOf .aow]
  | .sdmArm _ _ _ | .sdmAbort _ _ | .sdmClear _ _ _ | .sdmDescriptorComplete _ _ _ => reporting ++ [.fns, .hpt, .sdm,
    .lpb, .out, .draw, regsOf .hpt, regsOf .qen, regsOf .mtr, regsOf .sdm, regsOf .tln]
  | .sdmPaceResume _ => [.fns, .hpt, .sdm, .lpb, .out, regsOf .hpt, regsOf .qen, regsOf .mtr, regsOf .sdm, regsOf .tln]
  -- Local Port and Telemetry (chapter 14)
  | .bar4RequestRx _ _ _ _ | .localAtomicop _ _ _ => reporting ++ [.fns, .lpb, .out, .draw, regsOf .hpt]
  | .localBurstEnd _ | .commitDrainTimeout => reporting ++ [.fns, .hpt, .lpb, .out, .draw, regsOf .hpt, regsOf .qen,
    regsOf .lpb]
  | .prefetchExpiry _ | .upstreamReadDataArrive _ => [.lpb]
  | .lpbWinCommit _ => [.evc, .lpb, regsOf .evc, regsOf .lpb]
  | .commitDone => reporting ++ [.fns, .lpb, .out, .draw, regsOf .hpt, regsOf .lpb]
  | .localBusRequest => [.lpb, .out, regsOf .lpb]
  | .upstreamWrite _ _ => reporting ++ [.fns, .hpt, .lpb, .out, regsOf .hpt, regsOf .qen, regsOf .mtr, regsOf .lpb,
    regsOf .tln]
  | .upstreamRead _ _ | .lpIrqAssert _ => [.fns, .hpt, .evc, .lpb, .out, regsOf .hpt, regsOf .qen, regsOf .mtr,
    regsOf .evc, regsOf .lpb, regsOf .tln]
  | .upstreamReadStale _ => reporting ++ [.lpb, regsOf .lpb]
  | .coreLocalAccess _ _ _ => [.lpb, .out]
  | .tlnSampleDue _ => [.tln, .out, regsOf .tln]
  | .tlnSampleDone _ _ => reporting ++ [.tln, .out, regsOf .tln]
  | .tlnRecordEmit _ => reporting ++ [.fns, .hpt, .lpb, .tln, .out, regsOf .hpt, regsOf .qen, regsOf .mtr, regsOf .tln]
  | .larvisRead _ => [.out, regsOf .tln]
  | .tlnXferGo _ => [.evc, .tln, .out, regsOf .evc, regsOf .tln]
  | .xferDone _ => [.evc, regsOf .evc, regsOf .tln]
  | .setEndpointId _ | .configurationSet _ _ => [.mi, .out]
  | .getEndpointId | .getEndpointUuid | .getMctpVersionSupport | .getMessageTypeSupport | .readNvmeMiDataStructure _
    | .nvmSubsystemHealthStatusPoll | .controllerHealthStatusPoll _ | .configurationGet _ | .vpdRead _ _
    | .miInvalidCommand _ => [.out]
  | .mctpPacketDrop => reporting ++ [regsOf .lpb]
  -- Start-up and power (chapter 15), and what the other chapters add
  | .vddAoApplied => [.aow, .pwr, .log, regsOf .aow]
  | .bootStageEnd _ => reporting ++ [.prx, .cmds, .mch, .rdp, .wrp, .mcr, .nss, .fns, .aens, .mlk, .pwr, .sec, .keys,
    .mtr, .out, .draw, regsOf .prx, regsOf .mch, regsOf .rdp, regsOf .wrp, regsOf .mcr, regsOf .tcy, regsOf .mtr,
    regsOf .sec, regsOf .mlk, regsOf .ddr, regsOf .srm]
  | .perstAssert | .hotReset _ | .pwrResetDevice _ => reporting ++ [.prx, .cmds, .rdp, .wrp, .fns, .hpt, .mig, .sdm,
    .pwr, .sec, .lpb, .out, .draw, regsOf .hpt, regsOf .fnm, regsOf .qen, regsOf .rdp, regsOf .wrp, regsOf .mtr,
    regsOf .sec, regsOf .sdm, regsOf .tln]
  | .perstDeassert => [.pwr, .log, .out, regsOf .aow]
  | .dramPatrolDue _ _ => reporting ++ [.rdp, .wrp, .mcr, .fns, .mlk, .pwr, .out, regsOf .hpt, regsOf .rdp, regsOf .mlk,
    regsOf .ddr]
  | .sramScrubDue _ _ => reporting ++ [.rdp, .wrp, .mcr, .fns, .mlk, .pwr, .out, regsOf .hpt, regsOf .rdp, regsOf .mlk,
    regsOf .srm]
  | .pmeTurnOff => reporting ++ [.pwr]
  | .pmeToAck => reporting ++ [.wrp, .mcr, .pwr, .mtr, .out, regsOf .wrp]
  | .mainRailsRemoved => [.mch, .wrp, .aow, .pwr, .log, .mtr, .out, regsOf .aow, regsOf .pwr]
  | .railFault _ => reporting
  | .thermtrip => [.pwr, .log, .out]
  | .evlogConsWrite _ => [regsOf .pwr]
  | .registerWrite _ offset _ => reporting ++ [.ftb, .prx, .tenants, .cmds, .mch, .rdp, .wrp, .mcr, .nss, .fns, .hpt,
    .mig, .aens, .errs, .sdm, .mlk, .pwr, .sec, .mtr, .lpb, .tln, .out, .draw, regsOf .hpt, regsOf .fnm, regsOf .qen,
    regsOf .ftb, regsOf .prx, regsOf .mch, regsOf .rdp, regsOf .wrp, regsOf .mcr, regsOf .mtr, regsOf .sec, regsOf .mlk,
    regsOf .sdm, regsOf .lpb, regsOf .tln, .regs (offset / 0x100000)]
  | .hostLinkRecovery _ _ => [.evc, regsOf .hpt, regsOf .evc]
  | .wakeSourceFires _ => [.fns, .out]
  | .pfFlrDone => [.fns, .evc, regsOf .fnm, regsOf .evc]
  | .controllerResetDone _ => [.fns]
  | .invalidCommandOpcode _ => [.cmds, .fns, .hpt, .out, regsOf .hpt, regsOf .qen]
  | .invalidManagementRequest _ _ _ => reporting ++ [.fns, .hpt, .sec, .out, regsOf .hpt, regsOf .qen, regsOf .sec]
  | .powerOnReset .. | .deviceResetShutdownDone => []

/-! ## Subsets of a footprint, as tests that compute -/

theorem memBy {p : Part} {W : List Part} (h : W.elem p = true) : p ∈ W := List.elem_iff.1 h

theorem subsetBy {V W : List Part} (h : V.all (W.elem ·) = true) : V ⊆ W :=
  fun _ hp => memBy (List.all_eq_true.1 h _ hp)

/-- The last part of a list may be one that no test decides: the page of an address. -/
theorem subset_of_dropLast {V W : List Part} {p : Part} (init : V.dropLast ⊆ W) (last : V.getLast? = some p)
    (mem : p ∈ W) : V ⊆ W := by
  rw [← List.dropLast_append_getLast? p last]
  exact List.append_subset.2 ⟨init, by simpa using mem⟩

/-! ## A command's effect behind its guard -/

section
variable {c : Instr} {f : State → State} {W : List Part}

theorem Writes.next (h : ∀ s, exec c s = .next (f s)) (hf : ∀ s, (f s).without W = s.without W) : Writes c W := by
  intro s t step
  rw [h] at step
  cases step
  exact hf s

theorem Writes.live (h : ∀ s, exec c s = .next (s.whenLive f)) (hf : ∀ s, (f s).without W = s.without W) : Writes c W :=
  .next h fun s => s.whenLive_without f hf

theorem Writes.byCore {by_ : Requester} {off : Nat} (h : ∀ s, exec c s = .next (s.byCore by_ off f))
    (hf : ∀ s, (f s).without W = s.without W) (reports : [Part.evc, .log, .out, .regs 15, .regs 20] ⊆ W := by exact subsetBy rfl) : Writes c W :=
  .next h fun s => s.byCore_without by_ off f reports hf

theorem Writes.ownCore {by_ : Requester} {core off : Nat} {read : Bool}
    (h : ∀ s, exec c s = .next (s.ownCore by_ core off read f)) (hf : ∀ s, (f s).without W = s.without W)
    (reports : [Part.evc, .log, .out, .regs 15, .regs 20] ⊆ W := by exact subsetBy rfl) : Writes c W :=
  .next h fun s => s.ownCore_without by_ core off read f reports hf

theorem Writes.byOwner {by_ : Requester} {ch off : Nat} (h : ∀ s, exec c s = .next (s.byOwner by_ ch off f))
    (hf : ∀ s, (f s).without W = s.without W) (reports : [Part.evc, .log, .out, .regs 15, .regs 20] ⊆ W := by exact subsetBy rfl) : Writes c W :=
  .next h fun s => s.byOwner_without by_ ch off f reports hf

theorem Writes.miServed (h : ∀ s, exec c s = .next (s.miServed f)) (hf : ∀ s, (f s).without W = s.without W) :
    Writes c W :=
  .next h fun s => s.miServed_without f hf

theorem Writes.bar0Write {fn : Nat} (h : ∀ s, exec c s = .next (s.whenLive (·.bar0Write fn f)))
    (hf : ∀ s, (f s).without W = s.without W) 
    (link : [Part.fns, .evc, .log, .out, .regs 1, .regs 15, .regs 20] ⊆ W := by exact subsetBy rfl) : Writes c W :=
  .live h fun s => s.bar0Write_without fn f link hf

theorem Writes.ioCmd {q : Sqe} {i : Instr} (h : ∀ s, exec c s = .next (s.whenLive (·.ioCmd q i f)))
    (hf : ∀ s, (f s).without W = s.without W) (gate : [Part.prx, .cmds, .wrp, .nss, .fns, .hpt, .evc, .out, .regs 1, .regs 3,
      .regs 8, .regs 15] ⊆ W := by exact subsetBy rfl) : Writes c W :=
  .live h fun s => s.ioCmd_without q i f gate hf

theorem Writes.spdmReq (h : ∀ s, exec c s = .next (s.whenLive (·.spdmReq f))) (hf : ∀ s, (f s).without W = s.without W)
    (mailbox : [Part.hpt, .evc, .log, .sec, .regs 12, .regs 15, .regs 20] ⊆ W := by exact subsetBy rfl) : Writes c W :=
  .live h fun s => s.spdmReq_without f mailbox hf

theorem Writes.mgmt {id opcode seq : Nat} {allowed : State → Sess → Bool} {f : State → State × MgmtAnswer}
    (h : ∀ s, exec c s = .next (s.whenLive (·.mgmt id opcode seq allowed f)))
    (hf : ∀ s, (f s).1.without W = s.without W) (mailbox : [Part.fns, .hpt, .evc, .log, .sec, .out, .regs 1, .regs 3, .regs 12,
      .regs 15, .regs 20] ⊆ W := by exact subsetBy rfl) : Writes c W :=
  .live h fun s => s.mgmt_without id opcode seq allowed f mailbox hf

end

/-! ## Accesses to registers: the page written is the address's own -/

theorem writes_registerWrite (by_ : Requester) (offset : Nat) (v : RegValue) :
    Writes (.registerWrite by_ offset v) (footprint (.registerWrite by_ offset v)) :=
  .live (fun _ => rfl) fun s => s.writeReg_without by_ offset v.value v.sets
    (subset_of_dropLast (subsetBy rfl) rfl (by simp [footprint]))

theorem writes_memRequestRx (r : MemReq) : Writes (.memRequestRx r) (footprint (.memRequestRx r)) :=
  have low : Part.regs (r.addr / 0x100000) ∈ footprint (.memRequestRx r) := by simp [footprint]
  have high : Part.regs ((r.addr + 4) / 0x100000) ∈ footprint (.memRequestRx r) := by simp [footprint]
  .live (fun _ => rfl) fun s =>
    match r.by_ with
    | .pf0 => s.memRequest_without r (subset_of_dropLast (subset_of_dropLast (subsetBy rfl) rfl low) rfl high)
    | .core core => s.coreRequest_without core r (subset_of_dropLast (subset_of_dropLast (subsetBy rfl) rfl low) rfl high)

/-! ## Commands of several operations -/

theorem writes_slotStart (b : SlotBegin) : Writes (.slotStart b) (footprint (.slotStart b)) :=
  .live (fun _ => rfl) fun _ => (State.slotStart_without _ _ (subsetBy rfl)).trans
    (without_if (without_hpt _ _ (memBy rfl)) rfl)

theorem writes_creditReport : Writes .creditReport (footprint .creditReport) :=
  .live (fun _ => rfl) fun _ => State.when_without _ _ _ fun _ =>
    (State.emit_without _ _ (subsetBy rfl)).trans
      ((State.rideAck_without _ (subsetBy rfl)).trans (without_mlk _ _ (memBy rfl)))

theorem writes_rejoin (by_ : Option Requester) : Writes (.rejoin by_) (footprint (.rejoin by_)) := by
  cases by_ with
  | some _ => exact .byCore (fun _ => rfl) fun _ => State.rejoin_without _ _ (subsetBy rfl)
  | none => exact .live (fun _ => rfl) fun _ => State.rejoin_without _ _ (subsetBy rfl)

theorem writes_coreAccessFault (core : Nat) (addr : BitVec 38) (write : Bool) :
    Writes (.coreAccessFault core addr write) (footprint (.coreAccessFault core addr write)) :=
  .live (fun _ => rfl) fun s =>
    have fault := s.accessFault_without core addr.toNat (subsetBy rfl)
    without_if fault ((State.emit_without _ _ (subsetBy rfl)).trans fault)

theorem writes_coreEccFault (core : Nat) : Writes (.coreEccFault core) (footprint (.coreEccFault core)) :=
  .live (fun _ => rfl) fun _ => (State.raiseFault_without _ _ _ (subsetBy rfl)).trans
    ((State.raise_without _ _ _ (subsetBy rfl)).trans
      ((State.countErr_without _ _ _ _ _ _ (subsetBy rfl)).trans
        ((State.drawn_without _ (subsetBy rfl)).trans (State.setReg_without _ _ _ (memBy rfl)))))

theorem writes_readNvmeMiDataStructure (type : Nat) :
    Writes (.readNvmeMiDataStructure type) (footprint (.readNvmeMiDataStructure type)) :=
  .miServed (fun _ => rfl) fun s => by
    split <;> exact State.miAnswer_without _ _ _ (subsetBy rfl)

theorem writes_invalidCommandOpcode (q : Sqe) : Writes (.invalidCommandOpcode q) (footprint (.invalidCommandOpcode q)) :=
  .live (fun _ => rfl) fun _ => without_if rfl
    (State.fetchCmd_without _ _ _ _ (subsetBy rfl) fun _ _ => State.finish_without _ _ _ _ _ (subsetBy rfl))

theorem writes_vddAoApplied : Writes .vddAoApplied (footprint .vddAoApplied) :=
  .next (fun _ => rfl) fun s => s.vddAo_without (subsetBy rfl) fun p above below => by
    obtain rfl : p = 16 := by omega
    exact memBy rfl

/-! ## Every command but the two resets -/

/-- A command writes its footprint alone. Each arm cites the law of the command's operation, in the order of `exec`. -/
theorem writes_footprint (c : Instr) (keeps : rebuilds c = false) : Writes c (footprint c) := by
  cases c with
  -- Frame time (chapter 2)
  | frefLost => exact .live (fun _ => rfl) fun _ => State.frefLost_without _ (subsetBy rfl)
  | frefGood => exact .live (fun _ => rfl) fun _ => State.frefGood_without _ (subsetBy rfl)
  | fppsEdge => exact .live (fun _ => rfl) fun _ => State.fppsEdge_without _ _ _ _ (subsetBy rfl)
  | ppsLost => exact .live (fun _ => rfl) fun _ => State.ppsLost_without _ (subsetBy rfl)
  | fsyncEdge => exact .live (fun _ => rfl) fun _ => State.fsyncEdge_without _ _ (subsetBy rfl)
  | fsyncLost => exact .live (fun _ => rfl) fun _ => State.fsyncLost_without _ (subsetBy rfl)
  | frameEdge => exact .live (fun _ => rfl) fun _ => State.frameEdge_without _ (subsetBy rfl)
  | minuteEdge => exact .live (fun _ => rfl) fun _ => State.minuteBegins_without _ (subsetBy rfl)
  | todSecWrite => exact .live (fun _ => rfl) fun _ => State.todSecWrite_without _ _ _ (subsetBy rfl)
  | todArm => exact .live (fun _ => rfl) fun _ => State.todArm_without _ (subsetBy rfl)
  | todApply => exact .live (fun _ => rfl) fun _ => State.todEdge_without _ (subsetBy rfl)
  | dpllDisable => exact .live (fun _ => rfl) fun _ => State.dpllDisable_without _ (subsetBy rfl)
  | frameCounterRead => exact .live (fun _ => rfl) fun _ => State.frameCounterRead_without _ (subsetBy rfl)
  | heartbeatRx => exact .live (fun _ => rfl) fun _ => State.heartbeatRx_without _ _ (subsetBy rfl)
  | skewRaisedRx =>
    exact .live (fun _ => rfl) fun _ => (State.raiseSkew_without _ _ (subsetBy rfl)).trans (State.took_without _ _ _
      (subsetBy rfl))
  | skewClearProposalRx =>
    exact .live (fun _ => rfl) fun _ => (State.skewProposal_without _ _ (subsetBy rfl)).trans (State.took_without _ _ _
      (subsetBy rfl))
  | pairSkewClear => exact .live (fun _ => rfl) fun _ => State.pairSkewClear_without _ (subsetBy rfl)
  | phaseMismatchClear => exact .live (fun _ => rfl) fun _ => State.phaseClear_without _ (subsetBy rfl)
  -- Prism images and admission (chapters 3 and 4)
  | prxLoad => exact .byCore (fun _ => rfl) fun _ => State.loadStart_without _ (subsetBy rfl)
  | imageChecksDone => exact .live (fun _ => rfl) fun _ => State.checksDone_without _ _ (subsetBy rfl)
  | prxDiscard => exact .byCore (fun _ => rfl) fun _ => State.discardStaged_without _ (subsetBy rfl)
  | prxArm => exact .byCore (fun _ => rfl) fun _ => State.arm_without _ (subsetBy rfl)
  | armReportRx =>
    exact .live (fun _ => rfl) fun _ => (State.armReport_without _ _ (subsetBy rfl)).trans (State.took_without _ _ _
      (subsetBy rfl))
  | armWaitTimeout => exact .live (fun _ => rfl) fun _ => State.armTimeout_without _ (subsetBy rfl)
  | prxDisarm => exact .byCore (fun _ => rfl) fun _ => State.disarm_without _ (subsetBy rfl)
  | switchCommit => exact .live (fun _ => rfl) fun _ => State.commit_without _ (subsetBy rfl)
  | imageSwitch =>
    exact .live (fun _ => rfl) fun _ => (State.serveParked_without _ (subsetBy rfl)).trans (State.imageSwitch_without _
      (subsetBy rfl))
  | prxParkReq => exact .byCore (fun _ => rfl) fun _ => State.parkRequest_without _ (subsetBy rfl)
  | parkEntered => exact .live (fun _ => rfl) fun _ => State.enterPark_without _ (subsetBy rfl)
  | variantSwitch => exact .live (fun _ => rfl) fun _ => State.variantSwitch_without _ (subsetBy rfl)
  | junctionTempSample => exact .live (fun _ => rfl) fun _ => State.junctionSample_without _ _ (subsetBy rfl)
  | thermalConditionClear => exact .live (fun _ => rfl) fun _ => State.thermalClear_without _ (subsetBy rfl)
  | stageAdmit => exact .live (fun _ => rfl) fun _ => State.stageAdmit_without _ _ _ _ _ (subsetBy rfl)
  | slotStart b => exact writes_slotStart b
  | slotEnd => exact .live (fun _ => rfl) fun _ => State.slotEnd_without _ _ (subsetBy rfl)
  | dieOpComplete => exact .live (fun _ => rfl) fun _ => State.dieDone_without _ _ _ _ (subsetBy rfl)
  | driftClear => exact .live (fun _ => rfl) fun _ => State.driftClear_without _ (subsetBy rfl)
  | prxTokenTrim => exact .byCore (fun _ => rfl) fun _ => State.tokenTrim_without _ _ (subsetBy rfl)
  | cqePost => exact .live (fun _ => rfl) fun _ => State.cqePost_without _ _ _ (subsetBy rfl)
  -- Media attachment (chapter 5)
  | channelBringupDone => exact .live (fun _ => rfl) fun _ => State.chBroughtUp_without _ _ _ (subsetBy rfl)
  | mchChBringup => exact .byCore (fun _ => rfl) fun _ => State.chBringup_without _ _ (subsetBy rfl)
  | mchChRetire => exact .byCore (fun _ => rfl) fun _ => State.chRetire_without _ _ (subsetBy rfl)
  | rbNRise => exact .live (fun _ => rfl) fun _ => State.rbRise_without _ _ _ (subsetBy rfl)
  | statusPoll => exact .live (fun _ => rfl) fun _ => State.statusPoll_without _ _ _ (subsetBy rfl)
  | dieOpTimeout => exact .live (fun _ => rfl) fun _ => State.dieTimeout_without _ _ (subsetBy rfl)
  | channelRetrain => exact .live (fun _ => rfl) fun _ => State.retrained_without _ _ _ (subsetBy rfl)
  | dieTempRead => exact .live (fun _ => rfl) fun _ => State.dieTemp_without _ _ _ (subsetBy rfl)
  -- Read path (chapter 6)
  | mapLookup =>
    exact .live (fun _ => rfl) fun _ => (State.copySettle_without _ (subsetBy rfl)).trans (State.mapLookup_without _ _ _
      _ _ (subsetBy rfl))
  | areadReqRx =>
    exact .live (fun _ => rfl) fun _ => (State.areadReq_without _ _ (subsetBy rfl)).trans (State.took_without _ _ _
      (subsetBy rfl))
  | areadRspRx =>
    exact .live (fun _ => rfl) fun _ => (State.copySettle_without _ (subsetBy rfl)).trans ((State.aroundRsp_without _ _
      _ (subsetBy rfl)).trans (State.took_without _ _ _ (subsetBy rfl)))
  | aroundTmo => exact .live (fun _ => rfl) fun _ => State.aroundTimeout_without _ _ (subsetBy rfl)
  | decodeDone =>
    exact .live (fun _ => rfl) fun _ => (State.freeLanes_without _ (subsetBy rfl)).trans (State.decoded_without _ _ _ _
      (subsetBy rfl))
  | softDecodePassDone =>
    exact .live (fun _ => rfl) fun _ => (State.freeLanes_without _ (subsetBy rfl)).trans (State.softPass_without _ _ _ _
      (subsetBy rfl))
  -- Write path (chapter 7)
  | writeStaged => exact .live (fun _ => rfl) fun _ => State.writeStaged_without _ _ (subsetBy rfl)
  | stagingFreed => exact .live (fun _ => rfl) fun _ => State.stagingFreed_without _ _ (subsetBy rfl)
  | mackRx =>
    exact .live (fun _ => rfl) fun _ => (State.mack_without _ _ _ (subsetBy rfl)).trans (State.took_without _ _ _
      (subsetBy rfl))
  | mackTimeout => exact .live (fun _ => rfl) fun _ => State.mackTimeout_without _ _ (subsetBy rfl)
  | programDone => exact .live (fun _ => rfl) fun _ => State.programDone_without _ _ _ (subsetBy rfl)
  | stripeCloseTimeout => exact .live (fun _ => rfl) fun _ => State.stripeTimeout_without _ _ (subsetBy rfl)
  | journalTailBelowLimit => exact .live (fun _ => rfl) fun _ => State.journalBelow_without _ (subsetBy rfl)
  | checkpointSegment => exact .live (fun _ => rfl) fun _ => State.checkpoint_without _ _ (subsetBy rfl)
  | wrpCkptForce => exact .byCore (fun _ => rfl) fun _ => State.checkpointAll_without _ (subsetBy rfl)
  | holdupSenseSample =>
    exact .next (fun _ => rfl) fun _ => State.whenRails_without _ _ fun _ => State.senseSample_without _ _ (subsetBy
      rfl)
  | pfailAssert =>
    exact .next (fun _ => rfl) fun _ => State.whenRails_without _ _ fun _ => State.dumpStart_without _ (subsetBy rfl)
  | dumpDone => exact .next (fun _ => rfl) fun _ => State.dumpDone_without _ (subsetBy rfl)
  | roleEdge => exact .live (fun _ => rfl) fun _ => State.roleEdge_without _ (subsetBy rfl)
  -- Media care (chapter 8)
  | gcFactorReview => exact .live (fun _ => rfl) fun _ => State.gcFactorReview_without _ (subsetBy rfl)
  | scrubLate => exact .live (fun _ => rfl) fun _ => State.scrubLate_without _ _ (subsetBy rfl)
  | calibrationDue => exact .live (fun _ => rfl) fun _ => State.calibrate_without _ _ _ _ (subsetBy rfl)
  | mcrTestStart =>
    exact .next (fun _ => rfl) fun _ => State.byHost_without _ _ _ _ (subsetBy rfl) fun _ => State.testStart_without _ _
      (subsetBy rfl)
  | mcrTestAbort =>
    exact .next (fun _ => rfl) fun _ => State.byHost_without _ _ _ _ (subsetBy rfl) fun _ => State.testAbort_without _
      (subsetBy rfl)
  | testDone => exact .live (fun _ => rfl) fun _ => State.testDone_without _ _ (subsetBy rfl)
  | holdupTestDue => exact .live (fun _ => rfl) fun _ => State.holdupDue_without _ (subsetBy rfl)
  | holdupTestEnd => exact .live (fun _ => rfl) fun _ => State.holdupEnd_without _ _ _ (subsetBy rfl)
  | lifeForecast => exact .live (fun _ => rfl) fun _ => State.forecast_without _ _ (subsetBy rfl)
  -- Host port (chapter 9)
  | hostLinkUp => exact .live (fun _ => rfl) fun _ => State.hostLinkUp_without _ _ _ _ _ (subsetBy rfl)
  | hostDlDown => exact .live (fun _ => rfl) fun _ => State.hostDlDown_without _ _ (subsetBy rfl)
  | hostFlitCrcFail => exact .live (fun _ => rfl) fun _ => State.hostBadFlit_without _ (subsetBy rfl)
  | memRequestRx r => exact writes_memRequestRx r
  | configRequestRx => exact .live (fun _ => rfl) fun _ => State.configRequest_without _ _ (subsetBy rfl)
  | completionRx =>
    exact .live (fun _ => rfl) fun _ => (State.freeLanes_without _ (subsetBy rfl)).trans (State.completion_without _ _
      (subsetBy rfl))
  | aspmL1Entry => exact .live (fun _ => rfl) fun _ => State.l1Enter_without _ _ (subsetBy rfl)
  | aspmL1Exit => exact .live (fun _ => rfl) fun _ => State.l1Exit_without _ (subsetBy rfl)
  | l0pHostRequest => exact .live (fun _ => rfl) fun _ => State.l0pHost_without _ _ (subsetBy rfl)
  | l0pReduceRequest => exact .live (fun _ => rfl) fun _ => State.l0pReduce_without _ (subsetBy rfl)
  | translationCompletionRx => exact .live (fun _ => rfl) fun _ => State.translation_without _ _ _ _ (subsetBy rfl)
  | invalidateRequestRx => exact .live (fun _ => rfl) fun _ => State.invalidate_without _ _ _ _ _ (subsetBy rfl)
  | invalidateAbandon =>
    exact .live (fun _ => rfl) fun _ => (State.freeLanes_without _ (subsetBy rfl)).trans (State.invalAbandon_without _ _
      _ (subsetBy rfl))
  | invalidateCompletionSend => exact .live (fun _ => rfl) fun _ => State.invalDone_without _ _ (subsetBy rfl)
  | doeRequestRx => exact .live (fun _ => rfl) fun _ => State.doeRequest_without _ _ _ _ _ (subsetBy rfl)
  | doeAbort => exact .live (fun _ => rfl) fun _ => State.doeAbort_without _ (subsetBy rfl)
  | completionTimeout =>
    exact .live (fun _ => rfl) fun _ => (State.freeLanes_without _ (subsetBy rfl)).trans (State.cplTimeout_without _ _
      (subsetBy rfl))
  | tagQuarantineEnd => exact .live (fun _ => rfl) fun _ => State.tagFree_without _ _ (subsetBy rfl)
  | hptContainForce => exact .byCore (fun _ => rfl) fun _ => State.contain_without _ _ (subsetBy rfl)
  | hptContainRelease => exact .live (fun _ => rfl) fun _ => State.containRelease_without _ (subsetBy rfl)
  | releaseComplete => exact .live (fun _ => rfl) fun _ => State.releaseDone_without _ (subsetBy rfl)
  | attnBtn => exact .live (fun _ => rfl) fun _ => State.attnPress_without _ (subsetBy rfl)
  | sppAttnAck => exact .live (fun _ => rfl) fun _ => State.stopAttn_without _ (subsetBy rfl)
  | attnTimeout => exact .live (fun _ => rfl) fun _ => State.attnExpiry_without _ (subsetBy rfl)
  | fallbackDestageDone => exact .live (fun _ => rfl) fun _ => State.fallbackDone_without _ (subsetBy rfl)
  | prsntChange => exact .live (fun _ => rfl) fun _ => State.presence_without _ _ (subsetBy rfl)
  -- Functions and queues (chapter 10)
  | createIoSq => exact .live (fun _ => rfl) fun _ => State.createSq_without _ _ (subsetBy rfl)
  | createIoCq => exact .live (fun _ => rfl) fun _ => State.createCq_without _ _ (subsetBy rfl)
  | deleteIoSq => exact .live (fun _ => rfl) fun _ => State.deleteSq_without _ _ (subsetBy rfl)
  | sqDeleteDrained => exact .live (fun _ => rfl) fun _ => State.sqDrained_without _ _ _ (subsetBy rfl)
  | deleteIoCq => exact .live (fun _ => rfl) fun _ => State.deleteCq_without _ _ (subsetBy rfl)
  | getLogPage => exact .live (fun _ => rfl) fun _ => State.getLog_without _ _ (subsetBy rfl)
  | identify => exact .live (fun _ => rfl) fun _ => State.identifyCmd_without _ _ (subsetBy rfl)
  | abort => exact .live (fun _ => rfl) fun _ => State.abortCmd_without _ _ (subsetBy rfl)
  | setFeatures => exact .live (fun _ => rfl) fun _ => State.setFeature_without _ _ _ (subsetBy rfl)
  | getFeatures => exact .live (fun _ => rfl) fun _ => State.getFeature_without _ _ (subsetBy rfl)
  | asynchronousEventRequest => exact .live (fun _ => rfl) fun _ => State.aerCmd_without _ _ (subsetBy rfl)
  | formatNvm => exact .live (fun _ => rfl) fun _ => State.formatCmd_without _ _ (subsetBy rfl)
  | sanitize => exact .live (fun _ => rfl) fun _ => State.sanitizeCmd_without _ _ (subsetBy rfl)
  | cryptoEraseProceed => exact .live (fun _ => rfl) fun _ => State.eraseProceed_without _ _ (subsetBy rfl)
  | contractQuery => exact .live (fun _ => rfl) fun _ => State.contractQuery_without _ _ (subsetBy rfl)
  | meterRead => exact .live (fun _ => rfl) fun _ => State.meterRead_without _ _ (subsetBy rfl)
  | namespaceCreate => exact .live (fun _ => rfl) fun _ => State.nsCreate_without _ _ _ (subsetBy rfl)
  | namespaceDelete => exact .live (fun _ => rfl) fun _ => State.nsDelete_without _ _ (subsetBy rfl)
  | namespaceAttach => exact .live (fun _ => rfl) fun _ => State.nsAttach_without _ _ _ (subsetBy rfl)
  | namespaceDetach => exact .live (fun _ => rfl) fun _ => State.nsDetach_without _ _ _ (subsetBy rfl)
  | namespaceDetachDrained => exact .live (fun _ => rfl) fun _ => State.detachDone_without _ _ (subsetBy rfl)
  | firmwareImageDownload => exact .live (fun _ => rfl) fun _ => State.fwDownload_without _ _ _ (subsetBy rfl)
  | firmwareCommit => exact .live (fun _ => rfl) fun _ => State.fwCommit_without _ _ _ (subsetBy rfl)
  | primaryFlexibleAllocation =>
    exact .live (fun _ => rfl) fun _ => State.adminCmd_without _ _ _ _ (subsetBy rfl) fun _ => State.finish_without _ _
      _ _ _ (subsetBy rfl)
  | secondaryOffline => exact .live (fun _ => rfl) fun _ => State.setOffline_without _ _ (subsetBy rfl)
  | secondaryAssign => exact .live (fun _ => rfl) fun _ => State.assign_without _ _ (subsetBy rfl)
  | secondaryOnline => exact .live (fun _ => rfl) fun _ => State.setOnline_without _ _ (subsetBy rfl)
  | flush => exact .live (fun _ => rfl) fun _ => State.flushCmd_without _ _ (subsetBy rfl)
  | write => exact .ioCmd (fun _ => rfl) fun _ => State.serveWrite_without _ _ (subsetBy rfl)
  | read => exact .ioCmd (fun _ => rfl) fun _ => State.serveRead_without _ _ _ _ (subsetBy rfl)
  | compare => exact .ioCmd (fun _ => rfl) fun _ => State.serveRead_without _ _ _ _ (subsetBy rfl)
  | writeZeroes => exact .ioCmd (fun _ => rfl) fun _ => State.serveZeroes_without _ _ (subsetBy rfl)
  | datasetManagement => exact .ioCmd (fun _ => rfl) fun _ => State.serveDsm_without _ _ _ (subsetBy rfl)
  | verify => exact .ioCmd (fun _ => rfl) fun _ => State.serveRead_without _ _ _ _ (subsetBy rfl)
  | copy => exact .ioCmd (fun _ => rfl) fun _ => State.serveCopy_without _ _ _ (subsetBy rfl)
  | sqTailDoorbell => exact .bar0Write (fun _ => rfl) fun _ => State.sqDoorbell_without _ _ _ _ (subsetBy rfl)
  | cqHeadDoorbell => exact .bar0Write (fun _ => rfl) fun _ => State.cqDoorbell_without _ _ _ _ (subsetBy rfl)
  | ccEnSet => exact .bar0Write (fun _ => rfl) fun _ => State.ccEnable_without _ _ (subsetBy rfl)
  | controllerReady => exact .live (fun _ => rfl) fun _ => State.ctlReady_without _ _ (subsetBy rfl)
  | controllerReset => exact .bar0Write (fun _ => rfl) fun _ => State.ccDisable_without _ _ (subsetBy rfl)
  | bmeClear => exact .live (fun _ => rfl) fun _ => State.bmeOff_without _ _ (subsetBy rfl)
  | bmeSet => exact .live (fun _ => rfl) fun _ => State.bmeOn_without _ _ (subsetBy rfl)
  | powerStateWrite => exact .live (fun _ => rfl) fun _ => State.powerState_without _ _ _ (subsetBy rfl)
  | vfEnableSet => exact .live (fun _ => rfl) fun _ => State.vfEnableSet_without _ (subsetBy rfl)
  | vfEnableClear => exact .live (fun _ => rfl) fun _ => State.vfEnableClear_without _ (subsetBy rfl)
  | vfFlr => exact .live (fun _ => rfl) fun _ => State.vfFlr_without _ _ (subsetBy rfl)
  | vfFlrDone => exact .live (fun _ => rfl) fun _ => State.vfFlrDone_without _ _ (subsetBy rfl)
  | pfFlr => exact .live (fun _ => rfl) fun _ => State.pfFlr_without _ (subsetBy rfl)
  | quiesce => exact .live (fun _ => rfl) fun _ => State.quiesce_without _ (subsetBy rfl)
  | quiesced => exact .live (fun _ => rfl) fun _ => State.quiesced_without _ _ (subsetBy rfl)
  | resume => exact .live (fun _ => rfl) fun _ => State.resume_without _ (subsetBy rfl)
  | freeze => exact .live (fun _ => rfl) fun _ => State.freeze_without _ (subsetBy rfl)
  | frozen => exact .live (fun _ => rfl) fun _ => State.frozen_without _ _ (subsetBy rfl)
  | unfreeze => exact .live (fun _ => rfl) fun _ => State.unfreeze_without _ (subsetBy rfl)
  | save => exact .live (fun _ => rfl) fun _ => State.save_without _ (subsetBy rfl)
  | saveDone =>
    exact .live (fun _ => rfl) fun _ => State.when_without _ _ _ fun _ => State.saveEnd_without _ _ (subsetBy rfl)
  | restore => exact .live (fun _ => rfl) fun _ => State.restore_without _ (subsetBy rfl)
  | restoreDone => exact .live (fun _ => rfl) fun _ => State.restoreEnd_without _ _ (subsetBy rfl)
  | holdoffTimerExpiry => exact .live (fun _ => rfl) fun _ => State.holdoffExpiry_without _ _ (subsetBy rfl)
  | msixUnmask => exact .live (fun _ => rfl) fun _ => State.msixUnmask_without _ _ _ (subsetBy rfl)
  -- Security and metering (chapter 11)
  | uartImageRx => exact .live (fun _ => rfl) fun _ => State.uartImage_without _ _ _ (subsetBy rfl)
  | getVersion => exact .spdmReq (fun _ => rfl) fun _ => State.spdm_without _ _ _ _ (subsetBy rfl)
  | getCapabilities => exact .spdmReq (fun _ => rfl) fun _ => State.spdm_without _ _ _ _ (subsetBy rfl)
  | negotiateAlgorithms => exact .spdmReq (fun _ => rfl) fun _ => State.spdm_without _ _ _ _ (subsetBy rfl)
  | getDigests => exact .spdmReq (fun _ => rfl) fun _ => State.digests_without _ (subsetBy rfl)
  | getCertificate => exact .spdmReq (fun _ => rfl) fun _ => State.certificate_without _ _ _ _ (subsetBy rfl)
  | challenge => exact .spdmReq (fun _ => rfl) fun _ => State.challengeAuth_without _ _ _ (subsetBy rfl)
  | getMeasurements => exact .spdmReq (fun _ => rfl) fun _ => State.measurements_without _ _ _ (subsetBy rfl)
  | keyExchange => exact .spdmReq (fun _ => rfl) fun _ => State.keyExchange_without _ _ _ (subsetBy rfl)
  | finish => exact .live (fun _ => rfl) fun _ => without_if (State.finishSession_without _ _ _ (subsetBy rfl)) rfl
  | pskExchange => exact .spdmReq (fun _ => rfl) fun _ => State.pskExchange_without _ _ (subsetBy rfl)
  | endSession => exact .live (fun _ => rfl) fun _ => without_if (State.endOwnSession_without _ _ (subsetBy rfl)) rfl
  | spdmUnsupportedRequest => exact .spdmReq (fun _ => rfl) fun _ => State.spdmError_without _ _ (subsetBy rfl)
  | authFail => exact .live (fun _ => rfl) fun _ => without_if (State.authFailed_without _ (subsetBy rfl)) rfl
  | sessionTimeout => exact .live (fun _ => rfl) fun _ => State.sessionExpiry_without _ _ (subsetBy rfl)
  | claim => exact .mgmt (fun _ => rfl) fun _ => State.claimDevice_without _ _ _ _ (subsetBy rfl)
  | pskRotate => exact .mgmt (fun _ => rfl) fun _ => State.rotatePsk_without _ _ _ _ (subsetBy rfl)
  | rollbackCommit => exact .mgmt (fun _ => rfl) fun _ => State.commitRollback_without _ (subsetBy rfl)
  | query => exact .mgmt (fun _ => rfl) fun _ => rfl
  | imageLoad => exact .mgmt (fun _ => rfl) fun _ => State.mgmtLoadImage_without _ _ _ (subsetBy rfl)
  | imageArm => exact .mgmt (fun _ => rfl) fun _ => State.mgmtArm_without _ _ (subsetBy rfl)
  | imageDisarm => exact .mgmt (fun _ => rfl) fun _ => State.mgmtDisarm_without _ (subsetBy rfl)
  | park => exact .mgmt (fun _ => rfl) fun _ => State.parkRequest_without _ (subsetBy rfl)
  | tokenTrim => exact .mgmt (fun _ => rfl) fun _ => State.mgmtTrim_without _ _ _ _ (subsetBy rfl)
  | profileBind => exact .mgmt (fun _ => rfl) fun _ => State.mgmtBind_without _ _ (subsetBy rfl)
  | keyInstall => exact .mgmt (fun _ => rfl) fun _ => State.mgmtInstall_without _ _ _ _ _ (subsetBy rfl)
  | keyGenerate => exact .mgmt (fun _ => rfl) fun _ => State.mgmtGenerate_without _ _ (subsetBy rfl)
  | lpWindow => exact .mgmt (fun _ => rfl) fun _ => State.mgmtWindow_without _ _ _ (subsetBy rfl)
  | minuteSigned => exact .live (fun _ => rfl) fun _ => State.signMinute_without _ (subsetBy rfl)
  | mtrArchConsWrite => exact .live (fun _ => rfl) fun _ => State.archCons_without _ _ (subsetBy rfl)
  -- Mirror Link (chapter 12)
  | linkTrain => exact .live (fun _ => rfl) fun _ => State.linkTrain_without _ _ (subsetBy rfl)
  | initRx => exact .live (fun _ => rfl) fun _ => State.initRx_without _ _ (subsetBy rfl)
  | flitRx => exact .live (fun _ => rfl) fun _ => State.flit_without _ _ (subsetBy rfl)
  | nakRx => exact .live (fun _ => rfl) fun _ => State.when_without _ _ _ fun _ => State.nak_without _ _ (subsetBy rfl)
  | ackTimer =>
    exact .live (fun _ => rfl) fun _ => State.when_without _ _ _ fun _ => State.sendAck_without _ (subsetBy rfl)
  | creditReport => exact writes_creditReport
  | speedRetrain => exact .live (fun _ => rfl) fun _ => State.speedRetrain_without _ (subsetBy rfl)
  | speedRetrainDone => exact .live (fun _ => rfl) fun _ => State.speedRetrainDone_without _ _ _ (subsetBy rfl)
  | linkReset => exact .live (fun _ => rfl) fun _ => State.linkReset_without _ (subsetBy rfl)
  | linkDown => exact .live (fun _ => rfl) fun _ => State.linkDown_without _ (subsetBy rfl)
  | graceExpiry => exact .live (fun _ => rfl) fun _ => State.graceExpiry_without _ (subsetBy rfl)
  | declareLost =>
    exact .byCore (fun _ => rfl) fun _ => State.when_without _ _ _ fun _ => State.declareLost_without _ _ (subsetBy rfl)
  | fenceInAssert => exact .live (fun _ => rfl) fun _ => State.fenceIn_without _ (subsetBy rfl)
  | rejoin by_ => exact writes_rejoin by_
  | pairJoined => exact .live (fun _ => rfl) fun _ => State.enterJoined_without _ (subsetBy rfl)
  | mwriteRx =>
    exact .live (fun _ => rfl) fun _ => State.when_without _ _ _ fun _ => State.mwrite_without _ _ (subsetBy rfl)
  | mmapRx =>
    exact .live (fun _ => rfl) fun _ => State.when_without _ _ _ fun _ => State.mmap_without _ _ (subsetBy rfl)
  | meraseRx =>
    exact .live (fun _ => rfl) fun _ => State.when_without _ _ _ fun _ => State.merase_without _ _ _ (subsetBy rfl)
  | blobRx =>
    exact .live (fun _ => rfl) fun _ => State.when_without _ _ _ fun _ => State.blobRx_without _ _ _ (subsetBy rfl)
  | blobAckRx =>
    exact .live (fun _ => rfl) fun _ => (State.when_without _ _ _ fun _ => State.saveEnd_without _ _ (subsetBy
      rfl)).trans (State.took_without _ _ _ (subsetBy rfl))
  | nsSyncRx =>
    exact .live (fun _ => rfl) fun _ => (State.nsSync_without _ _ (subsetBy rfl)).trans (State.took_without _ _ _
      (subsetBy rfl))
  | changeMapRx =>
    exact .live (fun _ => rfl) fun _ => (State.changeMap_without _ _ _ (subsetBy rfl)).trans (State.took_without _ _ _
      (subsetBy rfl))
  | repairReqRx =>
    exact .live (fun _ => rfl) fun _ => (State.repairReq_without _ _ _ _ _ (subsetBy rfl)).trans (State.took_without _ _
      _ (subsetBy rfl))
  | resyncDoneRx =>
    exact .live (fun _ => rfl) fun _ => (State.resyncDone_without _ _ (subsetBy rfl)).trans (State.took_without _ _ _
      (subsetBy rfl))
  | variant3ReportRx =>
    exact .live (fun _ => rfl) fun _ => (State.peerVariant3_without _ _ (subsetBy rfl)).trans (State.took_without _ _ _
      (subsetBy rfl))
  | clearingFrameRx =>
    exact .live (fun _ => rfl) fun _ => (State.clearingFrameRx_without _ _ (subsetBy rfl)).trans (State.took_without _ _
      _ (subsetBy rfl))
  | partnerHostLost =>
    exact .live (fun _ => rfl) fun _ => (State.raise_without _ _ _ (subsetBy rfl)).trans ((State.took_without _ _ _
      (subsetBy rfl)).trans (without_mlk _ _ (memBy rfl)))
  | partnerHostRestored =>
    exact .live (fun _ => rfl) fun _ => (State.raise_without _ _ _ (subsetBy rfl)).trans ((State.took_without _ _ _
      (subsetBy rfl)).trans (without_mlk _ _ (memBy rfl)))
  | dumpNoticeRx =>
    exact .live (fun _ => rfl) fun _ => (State.when_without _ _ _ fun _ => State.declareLost_without _ _ (subsetBy
      rfl)).trans (State.took_without _ _ _ (subsetBy rfl))
  | kcvRx =>
    exact .live (fun _ => rfl) fun _ => (State.kcv_without _ _ _ (subsetBy rfl)).trans (State.took_without _ _ _
      (subsetBy rfl))
  | goingDownRx =>
    exact .live (fun _ => rfl) fun _ => (State.took_without _ _ _ (subsetBy rfl)).trans (without_mlk _ _ (memBy rfl))
  | blobDiscard => exact .byCore (fun _ => rfl) fun _ => State.freeBlobBuf_without _ _ (subsetBy rfl)
  -- Control complex (chapter 13)
  | evcRing => exact .live (fun _ => rfl) fun _ => State.ringWrite_without _ _ _ (subsetBy rfl)
  | evcUnpend => exact .byCore (fun _ => rfl) fun _ => State.unpendWrite_without _ _ (subsetBy rfl)
  | evcClaim => exact .ownCore (fun _ => rfl) fun _ => State.claimSource_without _ _ (subsetBy rfl)
  | evcComplete => exact .ownCore (fun _ => rfl) fun _ => State.complete_without _ _ _ (subsetBy rfl)
  | evcStackReset => exact .ownCore (fun _ => rfl) fun _ => State.stackReset_without _ _ (subsetBy rfl)
  | evcGdisWrite => exact .byCore (fun _ => rfl) fun _ => State.setReg_without _ _ _ (memBy rfl)
  | levelSourceChange => exact .next (fun _ => rfl) fun _ => State.levelChange_without _ _ _ (subsetBy rfl)
  | holdoffGroupExpiry => exact .live (fun _ => rfl) fun _ => State.groupExpiry_without _ _ (subsetBy rfl)
  | watchdogRestart => exact .ownCore (fun _ => rfl) fun _ => State.watchdogWrite_without _ _ _ (subsetBy rfl)
  | watchdogExpiry => exact .live (fun _ => rfl) fun _ => State.watchdogFirst_without _ _ (subsetBy rfl)
  | watchdogCoreReset => exact .live (fun _ => rfl) fun _ => State.watchdogSecond_without _ _ (subsetBy rfl)
  | coreAccessFault core addr write => exact writes_coreAccessFault core addr write
  | coreEccFault core => exact writes_coreEccFault core
  | watchWake => exact .next (fun _ => rfl) fun _ => State.wake_without _ _ _ (subsetBy rfl)
  | aowAlarmExpiry => exact .next (fun _ => rfl) fun _ => State.alarm_without _ (subsetBy rfl)
  | watchPinEvent => exact .next (fun _ => rfl) fun _ => State.watchPin_without _ _ (subsetBy rfl)
  | sdmArm => exact .byOwner (fun _ => rfl) fun _ => State.sdmArm_without _ _ _ (subsetBy rfl)
  | sdmAbort => exact .byOwner (fun _ => rfl) fun _ => State.sdmAbort_without _ _ (subsetBy rfl)
  | sdmClear => exact .byOwner (fun _ => rfl) fun _ => State.sdmClear_without _ _ _ (subsetBy rfl)
  | sdmDescriptorComplete => exact .live (fun _ => rfl) fun _ => State.descDone_without _ _ _ _ (subsetBy rfl)
  | sdmPaceResume => exact .live (fun _ => rfl) fun _ => State.paceResume_without _ _ (subsetBy rfl)
  -- Local Port and Telemetry (chapter 14)
  | bar4RequestRx => exact .live (fun _ => rfl) fun _ => State.bar4Request_without _ _ (subsetBy rfl)
  | localAtomicop => exact .live (fun _ => rfl) fun _ => State.bar4Request_without _ _ (subsetBy rfl)
  | localBurstEnd => exact .live (fun _ => rfl) fun _ => State.burstEnd_without _ _ (subsetBy rfl)
  | prefetchExpiry => exact .live (fun _ => rfl) fun _ => State.prefetchExpire_without _ _ (subsetBy rfl)
  | lpbWinCommit =>
    exact .next (fun _ => rfl) fun _ => State.byService_without _ _ _ fun _ => State.winCommit_without _ (subsetBy rfl)
  | commitDone => exact .live (fun _ => rfl) fun _ => State.commitDone_without _ (subsetBy rfl)
  | commitDrainTimeout => exact .live (fun _ => rfl) fun _ => State.drainTimeout_without _ (subsetBy rfl)
  | localBusRequest => exact .live (fun _ => rfl) fun _ => State.busRequest_without _ (subsetBy rfl)
  | upstreamWrite => exact .live (fun _ => rfl) fun _ => State.upWrite_without _ _ _ (subsetBy rfl)
  | upstreamRead => exact .live (fun _ => rfl) fun _ => State.upRead_without _ _ _ (subsetBy rfl)
  | upstreamReadDataArrive => exact .live (fun _ => rfl) fun _ => State.upData_without _ _ (subsetBy rfl)
  | upstreamReadStale => exact .live (fun _ => rfl) fun _ => State.upStale_without _ _ (subsetBy rfl)
  | lpIrqAssert => exact .live (fun _ => rfl) fun _ => State.lpIrq_without _ _ (subsetBy rfl)
  | coreLocalAccess => exact .live (fun _ => rfl) fun _ => State.coreLocal_without _ _ _ _ (subsetBy rfl)
  | tlnSampleDue => exact .live (fun _ => rfl) fun _ => State.sampleDue_without _ _ (subsetBy rfl)
  | tlnSampleDone => exact .live (fun _ => rfl) fun _ => State.lensSampleDone_without _ _ _ (subsetBy rfl)
  | tlnRecordEmit => exact .live (fun _ => rfl) fun _ => State.emitRecord_without _ _ (subsetBy rfl)
  | larvisRead => exact .live (fun _ => rfl) fun _ => State.larvisRead_without _ _ (subsetBy rfl)
  | tlnXferGo => exact .live (fun _ => rfl) fun _ => State.xferCtl_without _ _ (subsetBy rfl)
  | xferDone => exact .live (fun _ => rfl) fun _ => State.xferDone_without _ _ (subsetBy rfl)
  | setEndpointId => exact .miServed (fun _ => rfl) fun _ => State.setEid_without _ _ (subsetBy rfl)
  | getEndpointId => exact .miServed (fun _ => rfl) fun _ => State.miAnswer_without _ _ _ (subsetBy rfl)
  | getEndpointUuid =>
    exact .miServed (fun _ => rfl) fun _ => (State.emit_without _ _ (subsetBy rfl)).trans (State.miAnswer_without _ _ _
      (subsetBy rfl))
  | getMctpVersionSupport => exact .miServed (fun _ => rfl) fun _ => State.miAnswer_without _ _ _ (subsetBy rfl)
  | getMessageTypeSupport => exact .miServed (fun _ => rfl) fun _ => State.miAnswer_without _ _ _ (subsetBy rfl)
  | mctpPacketDrop => exact .miServed (fun _ => rfl) fun _ => State.countErr_without _ _ _ _ _ _ (subsetBy rfl)
  | readNvmeMiDataStructure type => exact writes_readNvmeMiDataStructure type
  | nvmSubsystemHealthStatusPoll => exact .miServed (fun _ => rfl) fun _ => State.miAnswer_without _ _ _ (subsetBy rfl)
  | controllerHealthStatusPoll =>
    exact .miServed (fun _ => rfl) fun _ => without_if (State.miAnswer_without _ _ _ (subsetBy rfl))
      (State.miAnswer_without _ _ _ (subsetBy rfl))
  | configurationSet => exact .miServed (fun _ => rfl) fun _ => State.miSet_without _ _ _ (subsetBy rfl)
  | configurationGet => exact .miServed (fun _ => rfl) fun _ => State.miGet_without _ _ (subsetBy rfl)
  | vpdRead => exact .miServed (fun _ => rfl) fun _ => State.miVpd_without _ _ _ (subsetBy rfl)
  | miInvalidCommand => exact .miServed (fun _ => rfl) fun _ => State.miAnswer_without _ _ _ (subsetBy rfl)
  -- Start-up and power (chapter 15), and what the other chapters add
  | vddAoApplied => exact writes_vddAoApplied
  | powerOnReset => nomatch keeps
  | bootStageEnd => exact .live (fun _ => rfl) fun _ => State.stageEnd_without _ _ (subsetBy rfl)
  | perstAssert => exact .next (fun _ => rfl) fun _ => State.perstFall_without _ (subsetBy rfl)
  | perstDeassert => exact .next (fun _ => rfl) fun _ => State.perstRise_without _ (subsetBy rfl)
  | hotReset => exact .next (fun _ => rfl) fun _ => State.resetBegin_without _ _ (subsetBy rfl)
  | pwrResetDevice => exact .byCore (fun _ => rfl) fun _ => State.resetBegin_without _ _ (subsetBy rfl)
  | deviceResetShutdownDone => nomatch keeps
  | dramPatrolDue => exact .live (fun _ => rfl) fun _ => State.dramPatrol_without _ _ _ (subsetBy rfl)
  | sramScrubDue => exact .live (fun _ => rfl) fun _ => State.sramScrub_without _ _ _ (subsetBy rfl)
  | pmeTurnOff => exact .live (fun _ => rfl) fun _ => State.turnOffRx_without _ (subsetBy rfl)
  | pmeToAck => exact .live (fun _ => rfl) fun _ => State.turnOffAck_without _ (subsetBy rfl)
  | mainRailsRemoved => exact .next (fun _ => rfl) fun _ => State.railsRemoved_without _ (subsetBy rfl)
  | railFault => exact .next (fun _ => rfl) fun _ => State.railLost_without _ _ (subsetBy rfl)
  | thermtrip => exact .next (fun _ => rfl) fun _ => State.tripped_without _ (subsetBy rfl)
  | evlogConsWrite => exact .live (fun _ => rfl) fun _ => State.consWrite_without _ _ (subsetBy rfl)
  | registerWrite by_ offset v => exact writes_registerWrite by_ offset v
  | hostLinkRecovery => exact .live (fun _ => rfl) fun _ => State.hostRecovery_without _ _ _ (subsetBy rfl)
  | wakeSourceFires => exact .next (fun _ => rfl) fun _ => State.wakeSource_without _ _ (subsetBy rfl)
  | pfFlrDone => exact .live (fun _ => rfl) fun _ => State.pfFlrDone_without _ (subsetBy rfl)
  | controllerResetDone => exact .live (fun _ => rfl) fun _ => State.ctlResetDone_without _ _ (subsetBy rfl)
  | invalidCommandOpcode q => exact writes_invalidCommandOpcode q
  | invalidManagementRequest => exact .mgmt (fun _ => rfl) fun _ => rfl

end Sys2Proof.Machine
end

section
/-! SUPPORT. The frames of O55 to O58: a footprint for each command, but one too narrow for VDD_AO_APPLIED. -/
namespace Sys2Proof.Machine

/-- Settles O55: each command writes its footprint alone. -/
theorem frameTimeAndMedia : Obligations.FrameTimeAndMedia := by
  unfold Obligations.FrameTimeAndMedia
  and_intros
  all_goals
    intros
    exact writes_footprint _ rfl

/-- Settles O56: each command writes its footprint alone. -/
theorem frameHostAndQueues : Obligations.FrameHostAndQueues := by
  unfold Obligations.FrameHostAndQueues
  and_intros
  all_goals
    intros
    exact writes_footprint _ rfl

/-- Settles O57: each command writes its footprint alone. -/
theorem frameSecurityAndPair : Obligations.FrameSecurityAndPair := by
  unfold Obligations.FrameSecurityAndPair
  and_intros
  all_goals
    intros
    exact writes_footprint _ rfl

/-- A device without power on which a wake source was enabled. -/
def State.unpowered : State :=
  { State.reset.setReg Reg.aowWakeEn 1 with pwr := { State.reset.pwr with supply := .off } }

/-- VDD_AO resets the registers of Watch, which stand on a page that the frame of O58 leaves out. -/
theorem not_writes_vddAoApplied : ¬ Writes .vddAoApplied [.aow, .pwr, .log] := by
  intro h
  have kept : State.unpowered.vddAo.reg Reg.aowWakeEn = State.unpowered.reg Reg.aowWakeEn :=
    reg_of_without (h State.unpowered _ rfl) (by decide)
  exact absurd kept (by decide)

/-- Refutes O58: VDD_AO_APPLIED, the 58th of its commands, takes AOW_WAKE_EN from 1 to its reset value 0. -/
theorem not_frameControlAndPower : ¬ Obligations.FrameControlAndPower := by
  unfold Obligations.FrameControlAndPower
  intro h
  iterate 57 replace h := h.2
  exact not_writes_vddAoApplied h.1
end Sys2Proof.Machine
end

section
/-! SUPPORT. What a boot leaves (R603, Table 15-5): the state that `State.bootFrom` builds, field by field. -/
namespace Sys2Proof.Machine

/-- The parts that a boot writes once it has built the state: the media rail, the restored log and the level sources. -/
def bootTail : List Part :=
  [.mch, .evc, .log, .out, .regs 1, .regs 4, .regs 9, .regs 15, .regs 16, .regs 20]

/-- What a boot of a cause builds from a state, in the fields that later claims name. -/
structure State.BootOf (s : State) (cause : Nat) (t : State) : Prop where
  pending : t.pending = s.pending
  ftb : t.ftb = if isDeviceReset cause then s.ftb else {}
  prx : t.prx = {}
  cmds : t.cmds = []
  lpb : t.lpb = {}
  aow : t.aow = s.aow
  keys : t.keys = s.keys
  sec : t.sec = { rollback := s.sec.rollback, claim := s.sec.claim, sysClaim := s.sec.sysClaim, slotA := s.sec.slotA,
                  slotB := s.sec.slotB, preferB := s.sec.preferB, nextSess := s.sec.nextSess }
  desc : t.pwr.desc = s.pwr.desc
  profile : t.mch.profile = s.mch.profile

theorem desc_of_without {W : List Part} {s t : State} (h : t.without W = s.without W) (hW : Part.pwr ∉ W) :
    t.pwr.desc = s.pwr.desc := by
  have := congrArg (fun u => u.pwr.desc) h
  simpa only [State.without, hW, if_false] using this

section
variable {s t u : State} {cause : Nat}

theorem State.BootOf.of_without {W : List Part} (h : s.BootOf cause t) (tail : u.without W = t.without W)
    (sub : W ⊆ bootTail) (profile : u.mch.profile = t.mch.profile) : s.BootOf cause u :=
  have spared {p : Part} (hp : p ∉ bootTail) : p ∉ W := fun mem => hp (sub mem)
  { pending := (pending_of_without tail (spared (by decide))).trans h.pending
    ftb := (ftb_of_without tail (spared (by decide)) (spared (by decide))).trans h.ftb
    prx := (prx_of_without tail (spared (by decide))).trans h.prx
    cmds := (cmds_of_without tail (spared (by decide))).trans h.cmds
    lpb := (lpb_of_without tail (spared (by decide))).trans h.lpb
    aow := (aow_of_without tail (spared (by decide))).trans h.aow
    keys := (keys_of_without tail (spared (by decide))).trans h.keys
    sec := (sec_of_without tail (spared (by decide)) (spared (by decide))).trans h.sec
    desc := (desc_of_without tail (spared (by decide))).trans h.desc
    profile := profile.trans h.profile }

/-- A step of the tail that leaves the media part alone. -/
theorem State.BootOf.tail (h : s.BootOf cause t)
    (tail : u.without (bootTail.erase .mch) = t.without (bootTail.erase .mch)) : s.BootOf cause u :=
  h.of_without tail (List.erase_subset ..) (congrArg Mch.profile (mch_of_without tail (by decide)))

theorem State.BootOf.setBit (h : s.BootOf cause t) (off i : Nat) (b : Bool)
    (page : Part.regs (off / 0x100000) ∈ bootTail.erase .mch) : s.BootOf cause (t.setBit off i b) :=
  h.tail (t.setBit_without off i b (by simpa using page))

theorem State.BootOf.setNum (h : s.BootOf cause t) (off v : Nat)
    (page : Part.regs (off / 0x100000) ∈ bootTail.erase .mch) : s.BootOf cause (t.setNum off v) :=
  h.tail (t.setNum_without off v (by simpa using page))

theorem State.BootOf.inc (h : s.BootOf cause t) (off n : Nat)
    (page : Part.regs (off / 0x100000) ∈ bootTail.erase .mch) : s.BootOf cause (t.inc off n) :=
  h.tail (t.inc_without off n (by simpa using page))

theorem State.mediaOff_profile (s : State) : s.mediaOff.mch.profile = s.mch.profile := by
  have pins : ((List.range 32).foldl (fun t c => t.emit (.pin (.chWpN c) false)) s).without [.out] = s.without [.out] :=
    without_foldl (fun t c => t.emit_without _ (List.Subset.refl _)) _ s
  exact congrArg (·.profile) (mch_of_without pins (by decide))

theorem State.BootOf.mediaOff (h : s.BootOf cause t) : s.BootOf cause t.mediaOff :=
  h.of_without (t.mediaOff_without (List.Subset.refl _)) (by decide) t.mediaOff_profile
end

/-- The regions that a boot marks for the partner stand in the namespaces' part. -/
theorem State.bootMarks_without (s : State) : (s.mlk.sent.foldl (fun t m =>
    if (t.ns m.nsid).paired then t.markRegions m.nsid m.regions else t) s).without [.nss] = s.without [.nss] :=
  without_foldl (fun t _ => without_if (t.markRegions_without _ _ (List.Subset.refl _)) rfl) _ s

theorem State.bootOf_bootFrom (s : State) (cause : Nat) : s.BootOf cause (s.bootFrom cause) := by
  have marks := s.bootMarks_without
  unfold State.bootFrom
  dsimp only
  refine .tail (t := _) ?_ (State.emit_without _ _ (by decide))
  refine .tail ?_ (State.relevelAll_without _ (by decide))
  refine .tail ?_ (State.restoreLog_without _ (by decide))
  have media {b : Bool} {v : State} (h : s.BootOf cause v) : s.BootOf cause (if b then v.mediaOff else v) := by
    split
    · exact h.mediaOff
    · exact h
  have counted {v : State} (h : s.BootOf cause v) : s.BootOf cause (if isDeviceReset cause = true then
      v.inc Reg.pwrDeviceResetCnt else v.setNum Reg.pwrRailStatus 0x1FF) := by
    split
    · exact h.inc _ _ (by decide)
    · exact h.setNum _ _ (by decide)
  refine media (.setBit (.setBit (.setBit (.setBit (counted (.setNum ?_ _ _ (by decide))) _ _ _ (by decide)) _ _ _
    (by decide)) _ _ _ (by decide)) _ _ _ (by decide))
  have pending := pending_of_without marks (by decide)
  have aow := aow_of_without marks (by decide)
  have keys := keys_of_without marks (by decide)
  have desc := desc_of_without marks (by decide)
  have media := mch_of_without marks (by decide)
  have sec := sec_of_without marks (by decide) (by decide)
  have profile := congrArg (·.profile) media
  exact
    { pending := pending, ftb := rfl, prx := rfl, cmds := rfl, lpb := rfl, aow := aow, keys := keys, desc := desc
      profile := profile
      sec := by rw [← sec] }

/-! ## The two commands that boot -/

/-- A state that differs from another one in nothing that a boot carries over, but for the timebase. -/
structure State.SourceOf (s u : State) : Prop where
  pending : u.pending = s.pending
  sec : u.sec = s.sec
  ftb : u.ftb = s.ftb

/-- A power-on reset changes nothing while the rails are up, and else boots with cause 0 or 1 (R539, R591). -/
theorem State.powerOn_cases (s : State) (x : Straps) : s.powerOn x = s ∨
    ∃ (u : State) (cause : Nat), cause < 2 ∧ s.SourceOf u ∧ u.BootOf cause (s.powerOn x) := by
  unfold State.powerOn
  split
  case h_1 => exact .inl rfl
  case h_2 =>
    refine .inr ⟨s.sampleStraps x, 1, by decide, ⟨rfl, rfl, rfl⟩, ?_⟩
    have wake := ((s.sampleStraps x).bootOf_bootFrom 1).tail (State.setBit_without _ Reg.aowStatus 0 true (by decide))
    exact (wake.tail (State.raise_without _ _ _ (by decide))).inc _ _ (by decide)
  case h_3 => exact .inr ⟨s.sampleStraps x, 0, by decide, ⟨rfl, rfl, rfl⟩, State.bootOf_bootFrom ..⟩
  case h_4 =>
    exact .inr ⟨(State.resetRange { s with aow := {} } 0x1000000 0x1100000).sampleStraps x, 0, by decide, ⟨rfl, rfl, rfl⟩,
      State.bootOf_bootFrom ..⟩

/-- The end of a device reset boots with the cause that the reset has, or changes nothing (R604, R605). -/
theorem State.resetEnd_cases (s : State) : s.resetEnd = s ∨
    ∃ (u : State) (cause : Nat), s.pwr.resetting = some cause ∧ s.SourceOf u ∧ u.BootOf cause s.resetEnd := by
  have same : s.SourceOf s := ⟨rfl, rfl, rfl⟩
  unfold State.resetEnd
  split
  case h_1 => exact .inl rfl
  case h_2 cause h =>
    split
    · exact .inl rfl
    · split
      · exact .inr ⟨s, cause, h, same, State.bootOf_bootFrom ..⟩
      · exact .inl rfl
    · split
      · exact .inr ⟨s, cause, h, same, State.bootOf_bootFrom ..⟩
      · split
        · have clean := s.cleanMark_without (List.Subset.refl _)
          exact .inr ⟨s.cleanMark, cause, h, ⟨pending_of_without clean (by decide), sec_of_without clean (by decide) (by decide),
            ftb_of_without clean (by decide) (by decide)⟩, State.bootOf_bootFrom ..⟩
        · exact .inl rfl

end Sys2Proof.Machine
end

section
/-! SUPPORT. Every command answers a next state and leaves the queue (O2), and the tick stays within its frame (O42, R47). -/
namespace Sys2Proof.Machine

/-! ## The queue -/

theorem exec_next (c : Instr) (s : State) : ∃ t, exec c s = .next t := by
  cases c <;> exact ⟨_, rfl⟩

theorem step_next (s : State) : ∃ t, step s = .next t := by
  cases h : s.pending with
  | nil => exact ⟨s.idleTick, by rw [step, h]⟩
  | cons c rest =>
    obtain ⟨t, ht⟩ := exec_next c { s with pending := rest }
    exact ⟨t, by rw [step, h]; exact ht⟩

/-- A step runs a command, or lets a tick pass. -/
theorem step_cases {s t : State} (taken : step s = .next t) :
    t = s.idleTick ∨ ∃ c rest, exec c { s with pending := rest } = .next t := by
  unfold step at taken
  split at taken
  · cases taken
    exact .inl rfl
  · exact .inr ⟨_, _, taken⟩

theorem pending_not_mem_footprint (c : Instr) : Part.pending ∉ footprint c := by
  have h : (footprint c).elem .pending = false := by cases c <;> rfl
  simpa using h

theorem State.powerOn_pending (s : State) (x : Straps) : (s.powerOn x).pending = s.pending := by
  rcases s.powerOn_cases x with same | ⟨u, cause, -, source, boot⟩
  · rw [same]
  · exact boot.pending.trans source.pending

theorem State.resetEnd_pending (s : State) : s.resetEnd.pending = s.pending := by
  rcases s.resetEnd_cases with same | ⟨u, cause, -, source, boot⟩
  · rw [same]
  · exact boot.pending.trans source.pending

/-- A command that rebuilds the state is a power-on reset or the end of a device reset. -/
theorem rebuilds_cases {c : Instr} (h : rebuilds c = true) {s t : State} (step : exec c s = .next t) :
    (∃ x, t = s.powerOn x) ∨ t = s.resetEnd := by
  cases c with
  | powerOnReset =>
    cases step
    exact .inl ⟨_, rfl⟩
  | deviceResetShutdownDone =>
    cases step
    exact .inr rfl
  | _ => exact absurd h Bool.false_ne_true

theorem exec_pending {c : Instr} {s t : State} (step : exec c s = .next t) : t.pending = s.pending := by
  cases h : rebuilds c with
  | false => exact pending_of_without (writes_footprint c h s t step) (pending_not_mem_footprint c)
  | true =>
    rcases rebuilds_cases h step with ⟨x, rfl⟩ | rfl
    · exact s.powerOn_pending x
    · exact s.resetEnd_pending

theorem safeRun (n : Nat) (s : State) : SafeRun n s := by
  induction n generalizing s with
  | zero => exact ⟨s, rfl⟩
  | succ n ih =>
    obtain ⟨t, ht⟩ := step_next s
    obtain ⟨u, hu⟩ := ih t
    refine ⟨u, ?_⟩
    have first : Sys2Proof.core.step s = .next t := ht
    simpa only [Host.Core.run, first] using hu

/-- Settles O2. -/
theorem everyCommandGoesOn : Obligations.EveryCommandGoesOn := by
  refine ⟨fun c s => ?_, safeRun⟩
  obtain ⟨t, ht⟩ := exec_next c s
  exact ⟨t, ht, exec_pending ht⟩

/-! ## The tick -/

section
variable (s : State)

theorem State.tick_closeMinute (part : Bool) : (s.closeMinute part).ftb.tick = s.ftb.tick :=
  tick_of_without (s.closeMinute_without part (List.Subset.refl _)) (by decide)

theorem State.tick_openMinute (m : Nat) : (s.openMinute m).ftb.tick = s.ftb.tick :=
  tick_of_without (s.openMinute_without m (List.Subset.refl _)) (by decide)

theorem State.tick_stepAdms : s.stepAdms.ftb.tick = s.ftb.tick :=
  tick_of_without (s.stepAdms_without (List.Subset.refl _)) (by decide)

theorem State.tick_minuteEvent : s.minuteEvent.ftb.tick = s.ftb.tick :=
  tick_of_without (s.minuteEvent_without (List.Subset.refl _)) (by decide)

theorem State.tick_releaseBegin : s.releaseBegin.ftb.tick = s.ftb.tick :=
  tick_of_without (s.releaseBegin_without (List.Subset.refl _)) (by decide)

theorem State.tick_todRefuse : s.todRefuse.ftb.tick = s.ftb.tick :=
  tick_of_without (s.todRefuse_without (List.Subset.refl _)) (by decide)

theorem State.tick_todAccept : s.todAccept.ftb.tick = s.ftb.tick :=
  tick_of_without (s.todAccept_without (List.Subset.refl _)) (by decide)

theorem State.tick_bootAge : s.bootAge.ftb.tick = s.ftb.tick :=
  tick_of_without (s.bootAge_without (List.Subset.refl _)) (by decide)

theorem State.tick_frameBegins (gcOld : Nat) : (s.frameBegins gcOld).ftb.tick = s.ftb.tick :=
  tick_of_without (s.frameBegins_without gcOld (List.Subset.refl _)) (by decide)

/-- A step of the frame number keeps the tick (R53). -/
theorem State.tick_stepFrame (f : Nat) : (s.stepFrame f).ftb.tick = s.ftb.tick := by
  unfold State.stepFrame
  dsimp only
  rw [State.tick_minuteEvent, State.tick_stepAdms]
  split
  · exact (State.tick_openMinute ..).trans (State.tick_closeMinute ..)
  · exact State.tick_closeMinute ..

theorem State.tick_todEdge : s.todEdge.ftb.tick = s.ftb.tick := by
  unfold State.todEdge
  dsimp only
  (repeat' split) <;>
    simp only [State.tick_releaseBegin, State.tick_bootAge, State.tick_todAccept, State.tick_todRefuse, State.tick_stepFrame]

theorem State.tick_lateBegin : s.lateBegin.ftb.tick = s.ftb.tick := by
  unfold State.lateBegin
  split
  · rw [State.tick_releaseBegin, State.tick_todEdge]
  · rfl

/-- A frame that ends starts the next with tick 0. -/
theorem State.tick_frameEdge : s.frameEdge.ftb.tick = 0 :=
  State.tick_frameBegins ..

theorem State.tick_phaseStep : s.phaseStep.ftb.tick = 0 := by
  unfold State.phaseStep
  dsimp only
  rw [State.tick_frameBegins]
  (repeat' split) <;> simp only [State.tick_bootAge, State.tick_todAccept, State.tick_todRefuse]

/-- An FPPS edge keeps the tick, or starts a frame where it steps the phase (R62). -/
theorem State.tick_fppsEdge (errNs : Int) (sinceNs : Nat) (crystalPpb : Int) :
    (s.fppsEdge errNs sinceNs crystalPpb).ftb.tick = s.ftb.tick ∨ (s.fppsEdge errNs sinceNs crystalPpb).ftb.tick = 0 := by
  unfold State.fppsEdge
  split
  · exact .inl (tick_of_without (s.lockedEdge_without _ _ (List.Subset.refl _)) (by decide))
  · dsimp only
    split
    · exact .inr (State.tick_phaseStep _)
    · exact .inl (tick_of_without (s.freeEdge_without _ _ _ (List.Subset.refl _)) (by decide))
end

theorem TickOk.of_tick {s t : State} (ok : TickOk s) (h : t.ftb.tick = s.ftb.tick ∨ t.ftb.tick = 0) : TickOk t := by
  unfold TickOk at *
  omega

theorem TickOk.of_boot {s u t : State} {cause : Nat} (ok : TickOk s) (source : s.SourceOf u) (boot : u.BootOf cause t) :
    TickOk t := by
  refine ok.of_tick ?_
  rw [boot.ftb, source.ftb]
  split
  · exact .inl rfl
  · exact .inr rfl

theorem TickOk.whenLive {s : State} {f : State → State} (ok : TickOk s)
    (h : ∀ u, (f u).ftb.tick = u.ftb.tick ∨ (f u).ftb.tick = 0) : TickOk (s.whenLive f) := by
  unfold State.whenLive
  split
  · exact ok.of_tick (h s)
  · exact ok

/-- The edges of frame time are the only commands besides the resets that write the tick. -/
theorem TickOk.exec {s t : State} (ok : TickOk s) (c : Instr) (step : exec c s = .next t) : TickOk t := by
  cases keeps : rebuilds c with
  | true =>
    rcases rebuilds_cases keeps step with ⟨x, rfl⟩ | rfl
    · rcases s.powerOn_cases x with same | ⟨u, cause, -, source, boot⟩
      · rwa [same]
      · exact ok.of_boot source boot
    · rcases s.resetEnd_cases with same | ⟨u, cause, -, source, boot⟩
      · rwa [same]
      · exact ok.of_boot source boot
  | false =>
    have frame := writes_footprint c keeps s t step
    have untimed (h : (footprint c).elem .time = false) : TickOk t :=
      ok.of_tick (.inl (tick_of_without frame (by simpa using h)))
    cases c with
    | fppsEdge errNs sinceNs crystalPpb =>
      cases step
      exact ok.whenLive fun u => u.tick_fppsEdge ..
    | frameEdge =>
      cases step
      exact ok.whenLive fun u => .inr u.tick_frameEdge
    | todApply =>
      cases step
      exact ok.whenLive fun u => .inl u.tick_todEdge
    | _ => exact untimed rfl

theorem TickOk.idleTick {s : State} (ok : TickOk s) : TickOk s.idleTick := by
  unfold State.idleTick State.whenLive
  split
  case isTrue =>
    dsimp only
    generalize ite (s.ftb.heldBegin = true ∧ (s.ftbState ≠ 1 ∨ 500 ≤ s.ftb.tick)) s.lateBegin s = u
    split
    · assumption
    · exact ok.of_tick (.inr u.tick_frameEdge)
  case isFalse => exact ok

/-- Settles O42. -/
theorem tickInvariant : Obligations.TickInvariant := by
  intro s t ok taken
  rcases step_cases taken with rfl | ⟨c, rest, run⟩
  · exact ok.idleTick
  · exact TickOk.exec (s := { s with pending := rest }) ok c run
end Sys2Proof.Machine
end

section
/-! SUPPORT. What commands do to the sessions and to the running firmware (O43, O44): only a session that opens adds one, and
only stage 1 of a boot takes another image. -/
namespace Sys2Proof.Machine

/-- The security part goes on to another one in which no session is new and the same image runs. -/
structure Sec.Follows (a b : Sec) : Prop where
  sessions : b.sessions.length ≤ a.sessions.length
  running : b.running = a.running

theorem Sec.Follows.refl (a : Sec) : a.Follows a := ⟨Nat.le_refl _, rfl⟩

theorem Sec.Follows.of_eq {a b : Sec} (h : b = a) : a.Follows b := h ▸ .refl a

theorem Sec.Follows.trans {a b c : Sec} (h : a.Follows b) (k : b.Follows c) : a.Follows c :=
  ⟨k.sessions.trans h.sessions, k.running.trans h.running⟩

theorem Sec.Follows.ite {a : Sec} {p : Prop} [Decidable p] {t u : State} (h : a.Follows t.sec) (k : a.Follows u.sec) :
    a.Follows (if p then t else u).sec := by
  split
  · exact h
  · exact k

theorem sec_foldl {α : Type} {f : State → α → State} (h : ∀ (s : State) a, s.sec.Follows (f s a).sec) (l : List α) (s : State) :
    s.sec.Follows (l.foldl f s).sec := by
  induction l generalizing s with
  | nil => exact .refl _
  | cons a l ih => exact (h s a).trans (ih (f s a))

/-! ## Operations that leave the security part as it is -/

section
variable (s : State)

@[simp] theorem State.sec_raise (ev i : Nat) : (s.raise ev i).sec = s.sec :=
  sec_of_without (s.raise_without ev i (List.Subset.refl _)) (by simp) (by simp)

@[simp] theorem State.sec_countErr (b : Block) (off : Nat) (inst : Nat) (fn : Nat) (detail : List Word) :
    (s.countErr b off inst fn detail).sec = s.sec :=
  sec_of_without (s.countErr_without b off inst fn detail (List.Subset.refl _)) (by simp) (by simp)

@[simp] theorem State.sec_inc (off : Nat) (n : Nat) : (s.inc off n).sec = s.sec :=
  sec_of_without (s.inc_without off n (List.Subset.refl _)) (by simp) (by simp)

@[simp] theorem State.sec_spdm (code : Nat) (vals : List Nat) (bytes : List Byte) :
    (s.spdm code vals bytes).sec = s.sec :=
  sec_of_without (s.spdm_without code vals bytes (List.Subset.refl _)) (by simp) (by simp)

@[simp] theorem State.sec_spdmError (code : Nat) : (s.spdmError code).sec = s.sec :=
  sec_of_without (s.spdmError_without code (List.Subset.refl _)) (by simp) (by simp)

@[simp] theorem State.sec_showSessions : (s.showSessions).sec = s.sec :=
  sec_of_without (s.showSessions_without (List.Subset.refl _)) (by simp) (by simp)

@[simp] theorem State.sec_loadFailed (e : LoadErr) : (s.loadFailed e).sec = s.sec :=
  sec_of_without (s.loadFailed_without e (List.Subset.refl _)) (by simp) (by simp)

@[simp] theorem State.sec_stage (i : Image) : (s.stage i).sec = s.sec :=
  sec_of_without (s.stage_without i (List.Subset.refl _)) (by simp) (by simp)

@[simp] theorem State.sec_dropIntern (p : Intern → Bool) : (s.dropIntern p).sec = s.sec :=
  sec_of_without (s.dropIntern_without p (List.Subset.refl _)) (by simp) (by simp)

@[simp] theorem State.sec_configureCh (ch reason : Nat) : (s.configureCh ch reason).sec = s.sec :=
  sec_of_without (s.configureCh_without ch reason (List.Subset.refl _)) (by simp) (by simp)

@[simp] theorem State.sec_refuseCh (ch reason die : Nat) : (s.refuseCh ch reason die).sec = s.sec :=
  sec_of_without (s.refuseCh_without ch reason die (List.Subset.refl _)) (by simp) (by simp)

@[simp] theorem State.sec_chComesUp (ch entry : Nat) : (s.chComesUp ch entry).sec = s.sec :=
  sec_of_without (s.chComesUp_without ch entry (List.Subset.refl _)) (by simp) (by simp)

@[simp] theorem State.sec_showBringup : (s.showBringup).sec = s.sec :=
  sec_of_without (s.showBringup_without (List.Subset.refl _)) (by simp) (by simp)

@[simp] theorem State.sec_loseCh (ch reason die : Nat) : (s.loseCh ch reason die).sec = s.sec :=
  sec_of_without (s.loseCh_without ch reason die (List.Subset.refl _)) (by simp) (by simp)

@[simp] theorem State.sec_clearDie (lane : Nat) : (s.clearDie lane).sec = s.sec :=
  sec_of_without (s.clearDie_without lane (List.Subset.refl _)) (by simp) (by simp)

@[simp] theorem State.sec_rescueWaiting (lane : Nat) : (s.rescueWaiting lane).sec = s.sec :=
  sec_of_without (s.rescueWaiting_without lane (List.Subset.refl _)) (by simp) (by simp)

@[simp] theorem State.sec_showReady : (s.showReady).sec = s.sec :=
  sec_of_without (s.showReady_without (List.Subset.refl _)) (by simp) (by simp)

@[simp] theorem State.sec_showHealth : (s.showHealth).sec = s.sec :=
  sec_of_without (s.showHealth_without (List.Subset.refl _)) (by simp) (by simp)

@[simp] theorem State.sec_raiseLog (b : Block) (ev i : Nat) (inst : Nat) (fn : Nat) :
    (s.raiseLog b ev i inst fn).sec = s.sec :=
  sec_of_without (s.raiseLog_without b ev i inst fn (List.Subset.refl _)) (by simp) (by simp)

@[simp] theorem State.sec_criticalEvent (bit info : Nat) : (s.criticalEvent bit info).sec = s.sec :=
  sec_of_without (s.criticalEvent_without bit info (List.Subset.refl _)) (by simp) (by simp)

@[simp] theorem State.sec_gcReview : (s.gcReview).sec = s.sec :=
  sec_of_without (s.gcReview_without (List.Subset.refl _)) (by simp) (by simp)

@[simp] theorem State.sec_excursion (ch : Nat) : (s.excursion ch).sec = s.sec :=
  sec_of_without (s.excursion_without ch (List.Subset.refl _)) (by simp) (by simp)

@[simp] theorem State.sec_programFail (p : ProgUnit) : (s.programFail p).sec = s.sec :=
  sec_of_without (s.programFail_without p (List.Subset.refl _)) (by simp) (by simp)

@[simp] theorem State.sec_eraseDone (lane block : Nat) (pass : Bool) : (s.eraseDone lane block pass).sec = s.sec :=
  sec_of_without (s.eraseDone_without lane block pass (List.Subset.refl _)) (by simp) (by simp)

@[simp] theorem State.sec_readEnds (j : DecodeJob) (pass : Bool) : (s.readEnds j pass).sec = s.sec :=
  sec_of_without (s.readEnds_without j pass (List.Subset.refl _)) (by simp) (by simp)

@[simp] theorem State.sec_failWork (w : Work) : (s.failWork w).sec = s.sec :=
  sec_of_without (s.failWork_without w (List.Subset.refl _)) (by simp) (by simp)

@[simp] theorem State.sec_dieGoesOn (lane : Nat) : (s.dieGoesOn lane).sec = s.sec :=
  sec_of_without (s.dieGoesOn_without lane (List.Subset.refl _)) (by simp) (by simp)

@[simp] theorem State.sec_trainChannel (ch : Nat) : (s.trainChannel ch).sec = s.sec :=
  sec_of_without (s.trainChannel_without ch (List.Subset.refl _)) (by simp) (by simp)

@[simp] theorem State.sec_parkWork : (s.parkWork).sec = s.sec :=
  sec_of_without (s.parkWork_without (List.Subset.refl _)) (by simp) (by simp)

@[simp] theorem State.sec_failCmd (c : CmdId) (status : Nat) : (s.failCmd c status).sec = s.sec :=
  sec_of_without (s.failCmd_without c status (List.Subset.refl _)) (by simp) (by simp)

@[simp] theorem State.sec_migHostLost : (s.migHostLost).sec = s.sec :=
  sec_of_without (s.migHostLost_without (List.Subset.refl _)) (by simp) (by simp)

@[simp] theorem State.sec_abandonNp (p : Np → Bool) (quiet : Bool) : (s.abandonNp p quiet).sec = s.sec :=
  sec_of_without (s.abandonNp_without p quiet (List.Subset.refl _)) (by simp) (by simp)

@[simp] theorem State.sec_dropCmds (p : Cmd → Bool) : (s.dropCmds p).sec = s.sec :=
  sec_of_without (s.dropCmds_without p (List.Subset.refl _)) (by simp) (by simp)

@[simp] theorem State.sec_endHostLists : (s.endHostLists).sec = s.sec :=
  sec_of_without (s.endHostLists_without (List.Subset.refl _)) (by simp) (by simp)

@[simp] theorem State.sec_send (m : LinkMsg) : (s.send m).sec = s.sec :=
  sec_of_without (s.send_without m (List.Subset.refl _)) (by simp) (by simp)

@[simp] theorem State.sec_setHostLink (speed width : Nat) : (s.setHostLink speed width).sec = s.sec :=
  sec_of_without (s.setHostLink_without speed width (List.Subset.refl _)) (by simp) (by simp)

@[simp] theorem State.sec_stopAttn : (s.stopAttn).sec = s.sec :=
  sec_of_without (s.stopAttn_without (List.Subset.refl _)) (by simp) (by simp)

@[simp] theorem State.sec_kickAll (f : Nat) : (s.kickAll f).sec = s.sec :=
  sec_of_without (s.kickAll_without f (List.Subset.refl _)) (by simp) (by simp)

@[simp] theorem State.sec_updSq (f qid : Nat) (g : Sq → Sq) : (s.updSq f qid g).sec = s.sec :=
  sec_of_without (s.updSq_without f qid g (List.Subset.refl _)) (by simp) (by simp)

@[simp] theorem State.sec_linkBusy : (s.linkBusy).sec = s.sec :=
  sec_of_without (s.linkBusy_without (List.Subset.refl _)) (by simp) (by simp)

@[simp] theorem State.sec_showTags : (s.showTags).sec = s.sec :=
  sec_of_without (s.showTags_without (List.Subset.refl _)) (by simp) (by simp)

@[simp] theorem State.sec_aerUnc (f bit : Nat) : (s.aerUnc f bit).sec = s.sec :=
  sec_of_without (s.aerUnc_without f bit (List.Subset.refl _)) (by simp) (by simp)

@[simp] theorem State.sec_aerAdvisory (f bit : Nat) : (s.aerAdvisory f bit).sec = s.sec :=
  sec_of_without (s.aerAdvisory_without f bit (List.Subset.refl _)) (by simp) (by simp)

@[simp] theorem State.sec_npArrived (r : Np) : (s.npArrived r).sec = s.sec :=
  sec_of_without (s.npArrived_without r (List.Subset.refl _)) (by simp) (by simp)

@[simp] theorem State.sec_flushIntern : (s.flushIntern).sec = s.sec :=
  sec_of_without (s.flushIntern_without (List.Subset.refl _)) (by simp) (by simp)

@[simp] theorem State.sec_finish (c : CmdId) (status : Nat) (dw0 : Word) (dnr : Bool) :
    (s.finish c status dw0 dnr).sec = s.sec :=
  sec_of_without (s.finish_without c status dw0 dnr (List.Subset.refl _)) (by simp) (by simp)

@[simp] theorem State.sec_adminData (q : Sqe) (deliver : Bool) (len : Nat) (outs : List Out) :
    (s.adminData q deliver len outs).sec = s.sec :=
  sec_of_without (s.adminData_without q deliver len outs (List.Subset.refl _)) (by simp) (by simp)

@[simp] theorem State.sec_vfEnableClear : (s.vfEnableClear).sec = s.sec :=
  sec_of_without (s.vfEnableClear_without (List.Subset.refl _)) (by simp) (by simp)

@[simp] theorem State.sec_flr (f : Nat) : (s.flr f).sec = s.sec :=
  sec_of_without (s.flr_without f (List.Subset.refl _)) (by simp) (by simp)

@[simp] theorem State.sec_doeAbort : (s.doeAbort).sec = s.sec :=
  sec_of_without (s.doeAbort_without (List.Subset.refl _)) (by simp) (by simp)

@[simp] theorem State.sec_startBringup (ch : Nat) : (s.startBringup ch).sec = s.sec :=
  sec_of_without (s.startBringup_without ch (List.Subset.refl _)) (by simp) (by simp)

@[simp] theorem State.sec_setProfile (p : Profile) : (s.setProfile p).sec = s.sec :=
  sec_of_without (s.setProfile_without p (List.Subset.refl _)) (by simp) (by simp)

@[simp] theorem State.sec_authFailed : (s.authFailed).sec = s.sec :=
  sec_of_without (s.authFailed_without (List.Subset.refl _)) (by simp) (by simp)

@[simp] theorem State.sec_mgmtReply (opcode seq : Nat) (a : MgmtAnswer) : (s.mgmtReply opcode seq a).sec = s.sec :=
  sec_of_without (s.mgmtReply_without opcode seq a (List.Subset.refl _)) (by simp) (by simp)

@[simp] theorem State.sec_showMtrKey : (s.showMtrKey).sec = s.sec :=
  sec_of_without (s.showMtrKey_without (List.Subset.refl _)) (by simp) (by simp)

@[simp] theorem State.sec_loadStart : (s.loadStart).sec = s.sec :=
  sec_of_without (s.loadStart_without (List.Subset.refl _)) (by simp) (by simp)

@[simp] theorem State.sec_discardFilling (p : SWrite → Bool) : (s.discardFilling p).sec = s.sec :=
  sec_of_without (s.discardFilling_without p (List.Subset.refl _)) (by simp) (by simp)

@[simp] theorem State.sec_cryptoErase (nsid : Nat) (stays : Bool) : (s.cryptoErase nsid stays).sec = s.sec :=
  sec_of_without (s.cryptoErase_without nsid stays (List.Subset.refl _)) (by simp) (by simp)

@[simp] theorem State.sec_setStage (k : Nat) : (s.setStage k).sec = s.sec :=
  sec_of_without (s.setStage_without k (List.Subset.refl _)) (by simp) (by simp)

end

/-! ## Operations that reach it -/

section
variable (s : State)

theorem State.follows_dropSessions (p : Sess → Bool) : s.sec.Follows (s.dropSessions p).sec := by
  have fewer : s.sec.Follows { s.sec with sessions := s.sec.sessions.filter fun x => !p x } :=
    ⟨List.length_filter_le _ _, rfl⟩
  unfold State.dropSessions
  split <;> simpa using fewer

theorem State.follows_touchSession (id : Nat) : s.sec.Follows (s.touchSession id).sec :=
  ⟨(List.length_map _).le, rfl⟩

theorem State.follows_noteLoad (o : OpOutcome) : s.sec.Follows (s.noteLoad o).sec := by
  unfold State.noteLoad
  split
  · exact ⟨Nat.le_refl _, rfl⟩
  · exact .refl _

theorem State.follows_imageLost : s.sec.Follows s.imageLost.sec := by
  unfold State.imageLost
  split
  · exact .trans (.of_eq (by simp)) (State.follows_noteLoad ..)
  · exact .refl _

theorem State.follows_checksDone (b : List Byte) : s.sec.Follows (s.checksDone b).sec := by
  unfold State.checksDone
  split
  · dsimp only
    split
    · exact .trans (.of_eq (by simp)) (State.follows_noteLoad ..)
    · simpa using State.follows_noteLoad (s.setBit Reg.prxStatus 6 false) .ok
  · exact .refl _

theorem State.follows_bindingEnds (ch : Nat) : s.sec.Follows (s.bindingEnds ch).sec := by
  unfold State.bindingEnds
  split
  · extract_lets left u
    split
    · rw [State.sec_raise]
      exact ⟨Nat.le_refl _, rfl⟩
    · exact .refl _
  · exact .refl _

theorem State.follows_bringupDone (ch : Nat) (f : BringupFacts) : s.sec.Follows (s.bringupDone ch f).sec := by
  unfold State.bringupDone
  split
  · exact .refl _
  · refine .trans (.of_eq ?_) (State.follows_bindingEnds ..)
    split <;> simp

theorem State.follows_loseChannel (ch reason die : Nat) : s.sec.Follows (s.loseChannel ch reason die).sec := by
  have rescued (t : State) (l : Nat) : t.sec.Follows ((t.clearDie l).rescueWaiting l).sec := .of_eq (by simp)
  refine .trans ?_ (State.follows_bindingEnds ..)
  simpa using sec_foldl rescued _ (s.loseCh ch reason die)

theorem State.follows_loseDie (lane : Nat) : s.sec.Follows (s.loseDie lane).sec := by
  unfold State.loseDie
  extract_lets ch mcr t1 t2 t3 t
  have kept : t.sec = s.sec := by
    have shown : t3.sec = s.sec := by
      unfold t3
      split <;> simp [t2, t1, mcr]
    simp [t, shown]
  refine .ite ?_ (.of_eq (by simp [kept]))
  exact kept ▸ t.follows_loseChannel ch 8 0

theorem State.follows_chRetire (ch : Nat) : s.sec.Follows (s.chRetire ch).sec := by
  unfold State.chRetire
  split
  · simpa using s.follows_loseChannel ch 0xA 0
  · exact .refl _

theorem State.follows_retrained (ch : Nat) (ok : Bool) : s.sec.Follows (s.retrained ch ok).sec := by
  unfold State.retrained
  refine .ite (.refl _) ?_
  extract_lets t0 n mch t1 t
  have kept : t.sec = s.sec := by
    unfold t
    split <;> simp [t1, t0]
  exact kept ▸ .ite (t.follows_loseChannel ch 9 0) (.refl _)

theorem State.follows_internalFailed (k : Inner) (c : Option CmdId) : s.sec.Follows (s.internalFailed k c).sec := by
  unfold State.internalFailed
  split
  case h_2 => exact s.follows_imageLost
  all_goals
    refine .of_eq ?_
    (repeat' split) <;> simp

theorem State.follows_failInternals : s.sec.Follows s.failInternals.sec :=
  sec_foldl (fun t r => by
    split
    · exact t.follows_internalFailed ..
    · exact .refl _) _ s

theorem State.follows_containNow (cause : Nat) : s.sec.Follows (s.containNow cause).sec := by
  have failed := ((s.setField Reg.hptContainStatus 0 2 1).setField Reg.hptContainStatus 4 4 cause).follows_failInternals
  unfold State.containNow
  simpa using failed

theorem State.follows_contain (cause : Nat) : s.sec.Follows (s.contain cause).sec := by
  unfold State.contain
  split
  · exact s.follows_containNow cause
  · exact .refl _

theorem State.follows_hostDlDown (cause : DlDownCause) : s.sec.Follows (s.hostDlDown cause).sec := by
  unfold State.hostDlDown
  dsimp only
  split
  · split
    · split
      · exact .of_eq (by simp)
      · exact .trans (.of_eq (by simp)) (State.follows_containNow ..)
    · exact .of_eq (by simp)
  · exact .refl _

theorem State.follows_fallback : s.sec.Follows s.fallback.sec := by
  unfold State.fallback
  dsimp only
  split
  · split
    · exact .of_eq (by simp)
    · simpa using s.follows_containNow 3
  · exact .refl _

theorem State.follows_attnPress : s.sec.Follows s.attnPress.sec := by
  unfold State.attnPress
  extract_lets t0 hpt t
  have kept : t.sec = s.sec := by
    unfold t
    split <;> simp [t0]
  exact kept ▸ .ite t.follows_fallback (.refl _)

theorem State.follows_attnExpiry : s.sec.Follows s.attnExpiry.sec := by
  unfold State.attnExpiry
  split
  · exact .trans (.of_eq (by simp)) (State.follows_fallback _)
  · exact .refl _

theorem State.follows_presence (seated : Bool) : s.sec.Follows (s.presence seated).sec := by
  unfold State.presence
  dsimp only
  split
  · exact .refl _
  · exact .trans (.of_eq (by simp)) (State.follows_contain ..)

theorem State.follows_npFailed (r : Np) (timeout : Bool) : s.sec.Follows (s.npFailed r timeout).sec := by
  unfold State.npFailed
  split
  case h_4 => exact s.follows_internalFailed ..
  all_goals
    refine .of_eq ?_
    (repeat' split) <;> simp [apply_ite State.sec]

theorem State.follows_completion (c : Cpl) : s.sec.Follows (s.completion c).sec := by
  have ended (r : Np) (u : State) (h : u.sec = s.sec) : s.sec.Follows (u.npFailed r false).sec :=
    h ▸ u.follows_npFailed r false
  unfold State.completion
  extract_lets t hpt u
  have busy : t.sec = s.sec := by simp [t]
  have freed : u.sec = s.sec := by simp [u, busy]
  refine .ite (.of_eq (by simp [busy])) ?_
  split
  case h_1 r _ =>
    extract_lets arrived
    refine .ite (ended _ _ (by simp [freed])) (.ite (.of_eq ?_) (ended _ _ freed))
    split <;> simp [arrived, freed]
  case h_2 => split <;> exact .of_eq (by simp [busy, apply_ite State.sec])

theorem State.follows_cplTimeout (tag : Nat) : s.sec.Follows (s.cplTimeout tag).sec := by
  unfold State.cplTimeout
  (repeat' split)
  · exact .trans (.of_eq (by simp)) (State.follows_npFailed ..)
  · exact .refl _
  · exact .refl _

theorem State.follows_invalAbandon (f k : Nat) : s.sec.Follows (s.invalAbandon f k).sec := by
  unfold State.invalAbandon
  split
  case h_1 i _ =>
    exact .trans (.of_eq (State.sec_abandonNp ..)) (sec_foldl (fun t r => t.follows_npFailed r false) _ _)
  case h_2 => exact .refl _

end
end Sys2Proof.Machine
end

section
/-! SUPPORT. The requests, the management messages and the resets that reach the security part, each with what it leaves of it. -/
namespace Sys2Proof.Machine
section
variable (s : State)

@[simp] theorem State.sec_containRelease : (s.containRelease).sec = s.sec :=
  sec_of_without (s.containRelease_without (List.Subset.refl _)) (by simp) (by simp)

@[simp] theorem State.sec_discardStaged : (s.discardStaged).sec = s.sec :=
  sec_of_without (s.discardStaged_without (List.Subset.refl _)) (by simp) (by simp)

@[simp] theorem State.sec_freeze : (s.freeze).sec = s.sec :=
  sec_of_without (s.freeze_without (List.Subset.refl _)) (by simp) (by simp)

@[simp] theorem State.sec_archCons (v : Word) : (s.archCons v).sec = s.sec :=
  sec_of_without (s.archCons_without v (List.Subset.refl _)) (by simp) (by simp)

@[simp] theorem State.sec_resume : (s.resume).sec = s.sec :=
  sec_of_without (s.resume_without (List.Subset.refl _)) (by simp) (by simp)

@[simp] theorem State.sec_testAbort : (s.testAbort).sec = s.sec :=
  sec_of_without (s.testAbort_without (List.Subset.refl _)) (by simp) (by simp)

@[simp] theorem State.sec_freeBlobBuf (b : Nat) : (s.freeBlobBuf b).sec = s.sec :=
  sec_of_without (s.freeBlobBuf_without b (List.Subset.refl _)) (by simp) (by simp)

@[simp] theorem State.sec_restore : (s.restore).sec = s.sec :=
  sec_of_without (s.restore_without (List.Subset.refl _)) (by simp) (by simp)

@[simp] theorem State.sec_hiuWrite (v : Word) : (s.hiuWrite v).sec = s.sec :=
  sec_of_without (s.hiuWrite_without v (List.Subset.refl _)) (by simp) (by simp)

@[simp] theorem State.sec_chBringup (ch : Nat) : (s.chBringup ch).sec = s.sec :=
  sec_of_without (s.chBringup_without ch (List.Subset.refl _)) (by simp) (by simp)

@[simp] theorem State.sec_disarm : (s.disarm).sec = s.sec :=
  sec_of_without (s.disarm_without (List.Subset.refl _)) (by simp) (by simp)

@[simp] theorem State.sec_unfreeze : (s.unfreeze).sec = s.sec :=
  sec_of_without (s.unfreeze_without (List.Subset.refl _)) (by simp) (by simp)

@[simp] theorem State.sec_speedRetrain : (s.speedRetrain).sec = s.sec :=
  sec_of_without (s.speedRetrain_without (List.Subset.refl _)) (by simp) (by simp)

@[simp] theorem State.sec_settle : (s.settle).sec = s.sec :=
  sec_of_without (s.settle_without (List.Subset.refl _)) (by simp) (by simp)

@[simp] theorem State.sec_rejoin (byCmd : Bool) : (s.rejoin byCmd).sec = s.sec :=
  sec_of_without (s.rejoin_without byCmd (List.Subset.refl _)) (by simp) (by simp)

@[simp] theorem State.sec_arm : (s.arm).sec = s.sec :=
  sec_of_without (s.arm_without (List.Subset.refl _)) (by simp) (by simp)

@[simp] theorem State.sec_ftbCtlWrite (v : Word) : (s.ftbCtlWrite v).sec = s.sec :=
  sec_of_without (s.ftbCtlWrite_without v (List.Subset.refl _)) (by simp) (by simp)

@[simp] theorem State.sec_quiesce : (s.quiesce).sec = s.sec :=
  sec_of_without (s.quiesce_without (List.Subset.refl _)) (by simp) (by simp)

@[simp] theorem State.sec_tokenTrim (v : Word) : (s.tokenTrim v).sec = s.sec :=
  sec_of_without (s.tokenTrim_without v (List.Subset.refl _)) (by simp) (by simp)

@[simp] theorem State.sec_todArm : (s.todArm).sec = s.sec :=
  sec_of_without (s.todArm_without (List.Subset.refl _)) (by simp) (by simp)

@[simp] theorem State.sec_showRing : (s.showRing).sec = s.sec :=
  sec_of_without (s.showRing_without (List.Subset.refl _)) (by simp) (by simp)

@[simp] theorem State.sec_save : (s.save).sec = s.sec :=
  sec_of_without (s.save_without (List.Subset.refl _)) (by simp) (by simp)

@[simp] theorem State.sec_declareLost (cause : Nat) : (s.declareLost cause).sec = s.sec :=
  sec_of_without (s.declareLost_without cause (List.Subset.refl _)) (by simp) (by simp)

@[simp] theorem State.sec_todSecWrite (hi : Bool) (v : Word) : (s.todSecWrite hi v).sec = s.sec :=
  sec_of_without (s.todSecWrite_without hi v (List.Subset.refl _)) (by simp) (by simp)

@[simp] theorem State.sec_testStart (v : Word) : (s.testStart v).sec = s.sec :=
  sec_of_without (s.testStart_without v (List.Subset.refl _)) (by simp) (by simp)

@[simp] theorem State.sec_linkReset : (s.linkReset).sec = s.sec :=
  sec_of_without (s.linkReset_without (List.Subset.refl _)) (by simp) (by simp)

@[simp] theorem State.sec_parkRequest : (s.parkRequest).sec = s.sec :=
  sec_of_without (s.parkRequest_without (List.Subset.refl _)) (by simp) (by simp)

@[simp] theorem State.sec_checkpointAll : (s.checkpointAll).sec = s.sec :=
  sec_of_without (s.checkpointAll_without (List.Subset.refl _)) (by simp) (by simp)

@[simp] theorem State.sec_holdoffWrite (g : Nat) (v : Word) : (s.holdoffWrite g v).sec = s.sec :=
  sec_of_without (s.holdoffWrite_without g v (List.Subset.refl _)) (by simp) (by simp)

@[simp] theorem State.sec_ringWrite (by_ : Requester) (n : Nat) : (s.ringWrite by_ n).sec = s.sec :=
  sec_of_without (s.ringWrite_without by_ n (List.Subset.refl _)) (by simp) (by simp)

@[simp] theorem State.sec_srcCfgWrite (d : RegDef) (n : Nat) (v : Word) : (s.srcCfgWrite d n v).sec = s.sec :=
  sec_of_without (s.srcCfgWrite_without d n v (List.Subset.refl _)) (by simp) (by simp)

@[simp] theorem State.sec_store (d : RegDef) (off : Nat) (v : Word) : (s.store d off v).sec = s.sec :=
  sec_of_without (s.store_without d off v (List.Subset.refl _)) (by simp) (by simp)

@[simp] theorem State.sec_coreRegWrite (d : RegDef) (off : Nat) (v : Word) : (s.coreRegWrite d off v).sec = s.sec :=
  sec_of_without (s.coreRegWrite_without d off v (List.Subset.refl _)) (by simp) (by simp)

@[simp] theorem State.sec_sppCtlWrite (v : Word) : (s.sppCtlWrite v).sec = s.sec :=
  sec_of_without (s.sppCtlWrite_without v (List.Subset.refl _)) (by simp) (by simp)

@[simp] theorem State.sec_sdmWrite (d : RegDef) (off : Nat) (v : Word) : (s.sdmWrite d off v).sec = s.sec :=
  sec_of_without (s.sdmWrite_without d off v (List.Subset.refl _)) (by simp) (by simp)

@[simp] theorem State.sec_winCommit : (s.winCommit).sec = s.sec :=
  sec_of_without (s.winCommit_without (List.Subset.refl _)) (by simp) (by simp)

@[simp] theorem State.sec_unpendWrite (n : Nat) : (s.unpendWrite n).sec = s.sec :=
  sec_of_without (s.unpendWrite_without n (List.Subset.refl _)) (by simp) (by simp)

@[simp] theorem State.sec_xferCtl (v : Word) : (s.xferCtl v).sec = s.sec :=
  sec_of_without (s.xferCtl_without v (List.Subset.refl _)) (by simp) (by simp)

@[simp] theorem State.sec_showTlnRing : (s.showTlnRing).sec = s.sec :=
  sec_of_without (s.showTlnRing_without (List.Subset.refl _)) (by simp) (by simp)

@[simp] theorem State.sec_consWrite (v : Word) : (s.consWrite v).sec = s.sec :=
  sec_of_without (s.consWrite_without v (List.Subset.refl _)) (by simp) (by simp)

@[simp] theorem State.sec_accessFault (core addr : Nat) : (s.accessFault core addr).sec = s.sec :=
  sec_of_without (s.accessFault_without core addr (List.Subset.refl _)) (by simp) (by simp)

@[simp] theorem State.sec_bar0Dword (f addr : Nat) (v : Word) : (s.bar0Dword f addr v).sec = s.sec :=
  sec_of_without (s.bar0Dword_without f addr v (List.Subset.refl _)) (by simp) (by simp)

@[simp] theorem State.sec_unsupported (f : Nat) (posted : Bool) : (s.unsupported f posted).sec = s.sec :=
  sec_of_without (s.unsupported_without f posted (List.Subset.refl _)) (by simp) (by simp)

@[simp] theorem State.sec_bar4Request (r : WinReq) : (s.bar4Request r).sec = s.sec :=
  sec_of_without (s.bar4Request_without r (List.Subset.refl _)) (by simp) (by simp)

@[simp] theorem State.sec_windowRead (r : MemReq) : (s.windowRead r).sec = s.sec :=
  sec_of_without (s.windowRead_without r (List.Subset.refl _)) (by simp) (by simp)

@[simp] theorem State.sec_powerState (f st : Nat) : (s.powerState f st).sec = s.sec :=
  sec_of_without (s.powerState_without f st (List.Subset.refl _)) (by simp) (by simp)

@[simp] theorem State.sec_msixCtlWrite (f : Nat) (v : Word) : (s.msixCtlWrite f v).sec = s.sec :=
  sec_of_without (s.msixCtlWrite_without f v (List.Subset.refl _)) (by simp) (by simp)

@[simp] theorem State.sec_aerWrite (f off : Nat) (v : Word) : (s.aerWrite f off v).sec = s.sec :=
  sec_of_without (s.aerWrite_without f off v (List.Subset.refl _)) (by simp) (by simp)

@[simp] theorem State.sec_atsWrite (f : Nat) (v : Word) : (s.atsWrite f v).sec = s.sec :=
  sec_of_without (s.atsWrite_without f v (List.Subset.refl _)) (by simp) (by simp)

@[simp] theorem State.sec_vfEnableSet : (s.vfEnableSet).sec = s.sec :=
  sec_of_without (s.vfEnableSet_without (List.Subset.refl _)) (by simp) (by simp)

@[simp] theorem State.sec_bmeOn (f : Nat) : (s.bmeOn f).sec = s.sec :=
  sec_of_without (s.bmeOn_without f (List.Subset.refl _)) (by simp) (by simp)

@[simp] theorem State.sec_bmeOff (f : Nat) : (s.bmeOff f).sec = s.sec :=
  sec_of_without (s.bmeOff_without f (List.Subset.refl _)) (by simp) (by simp)

@[simp] theorem State.sec_doeGo : (s.doeGo).sec = s.sec :=
  sec_of_without (s.doeGo_without (List.Subset.refl _)) (by simp) (by simp)

@[simp] theorem State.sec_setCfg (f off : Nat) (v : Word) : (s.setCfg f off v).sec = s.sec :=
  sec_of_without (s.setCfg_without f off v (List.Subset.refl _)) (by simp) (by simp)

@[simp] theorem State.sec_recoveryBoot (err : Nat) : (s.recoveryBoot err).sec = s.sec :=
  sec_of_without (s.recoveryBoot_without err (List.Subset.refl _)) (by simp) (by simp)

@[simp] theorem State.sec_romDone : (s.romDone).sec = s.sec :=
  sec_of_without (s.romDone_without (List.Subset.refl _)) (by simp) (by simp)

@[simp] theorem State.sec_norRead (mhz bytes : Nat) : (s.norRead mhz bytes).sec = s.sec :=
  sec_of_without (s.norRead_without mhz bytes (List.Subset.refl _)) (by simp) (by simp)

@[simp] theorem State.sec_hostDone (b : List Byte) : (s.hostDone b).sec = s.sec :=
  sec_of_without (s.hostDone_without b (List.Subset.refl _)) (by simp) (by simp)

@[simp] theorem State.sec_memoriesDone (trained : Bool) (gib channels ranks width : Nat) (stored : List Byte) :
    (s.memoriesDone trained gib channels ranks width stored).sec = s.sec :=
  sec_of_without (s.memoriesDone_without trained gib channels ranks width stored (List.Subset.refl _)) (by simp) (by simp)

@[simp] theorem State.sec_chainsLost (n : Nat) : (s.chainsLost n).sec = s.sec :=
  sec_of_without (s.chainsLost_without n (List.Subset.refl _)) (by simp) (by simp)

@[simp] theorem State.sec_loadExtension (x : Option SlotImage) : (s.loadExtension x).sec = s.sec :=
  sec_of_without (s.loadExtension_without x (List.Subset.refl _)) (by simp) (by simp)

@[simp] theorem State.sec_programHoldup (d : BoardDesc) : (s.programHoldup d).sec = s.sec :=
  sec_of_without (s.programHoldup_without d (List.Subset.refl _)) (by simp) (by simp)

@[simp] theorem State.sec_showSlots : (s.showSlots).sec = s.sec :=
  sec_of_without (s.showSlots_without (List.Subset.refl _)) (by simp) (by simp)

@[simp] theorem State.sec_pairBoot : (s.pairBoot).sec = s.sec :=
  sec_of_without (s.pairBoot_without (List.Subset.refl _)) (by simp) (by simp)

@[simp] theorem State.sec_loadMap (tail : List JRec) : (s.loadMap tail).sec = s.sec :=
  sec_of_without (s.loadMap_without tail (List.Subset.refl _)) (by simp) (by simp)

@[simp] theorem State.sec_restoreDump (d : Saved) : (s.restoreDump d).sec = s.sec :=
  sec_of_without (s.restoreDump_without d (List.Subset.refl _)) (by simp) (by simp)

@[simp] theorem State.sec_restoreMetering (dirty headsOk : Bool) : (s.restoreMetering dirty headsOk).sec = s.sec :=
  sec_of_without (s.restoreMetering_without dirty headsOk (List.Subset.refl _)) (by simp) (by simp)

@[simp] theorem State.sec_bootAge : (s.bootAge).sec = s.sec :=
  sec_of_without (s.bootAge_without (List.Subset.refl _)) (by simp) (by simp)


end

/-! ## Requests and the boot -/

section
variable (s : State)

theorem State.follows_when (c : Bool) {f : State → State} (h : ∀ t : State, t.sec.Follows (f t).sec) :
    s.sec.Follows (s.when c f).sec :=
  .ite (h s) (.refl _)

theorem State.follows_acts (v : Word) {l : List (Nat × (State → State))} (h : ∀ a ∈ l, ∀ t : State, t.sec.Follows (a.2 t).sec) :
    s.sec.Follows (s.acts v l).sec := by
  induction l generalizing s with
  | nil => exact .refl _
  | cons a l ih =>
    have rest := ih (s.when (v.getLsbD a.1) a.2) fun b mem => h b (List.mem_cons_of_mem _ mem)
    exact (s.follows_when _ (h a (List.mem_cons_self ..))).trans rest

theorem State.follows_whenLive {f : State → State} (h : ∀ t : State, t.sec.Follows (f t).sec) :
    s.sec.Follows (s.whenLive f).sec :=
  .ite (h s) (.refl _)

theorem State.follows_byCore (by_ : Requester) (off : Nat) {f : State → State} (h : ∀ t : State, t.sec.Follows (f t).sec) :
    s.sec.Follows (s.byCore by_ off f).sec := by
  unfold State.byCore
  split
  · exact .refl _
  · refine s.follows_whenLive fun t => ?_
    split
    · exact h t
    · exact .of_eq (by simp)

/-- The guard of an SPDM request touches its session alone. -/
theorem State.follows_spdmReq {f : State → State} (h : ∀ t : State, t.sec.Follows (f t).sec) :
    s.sec.Follows (s.spdmReq f).sec := by
  unfold State.spdmReq
  split
  · exact h s
  · split
    · exact (s.follows_touchSession _).trans (h _)
    · exact .of_eq (by simp)
  · exact .refl _

theorem State.follows_mgmt (id opcode seq : Nat) (allowed : State → Sess → Bool) {f : State → State × MgmtAnswer}
    (h : ∀ t : State, t.sec.Follows (f t).1.sec) : s.sec.Follows (s.mgmt id opcode seq allowed f).sec := by
  unfold State.mgmt
  split
  · exact .refl _
  · split
    · exact .of_eq (by simp)
    · extract_lets t
      have touched : s.sec.Follows t.sec := s.follows_touchSession id
      exact .ite (by simpa using touched.trans (h t)) (by simpa using touched)

theorem State.follows_fetchCmd (q : Sqe) (admin : Bool) {f : Cmd → State → State}
    (h : ∀ c (t : State), t.sec.Follows (f c t).sec) : s.sec.Follows (s.fetchCmd q admin f).sec := by
  unfold State.fetchCmd
  split
  case h_2 => exact .refl _
  case h_1 x _ =>
    have taken : (s.takeEntry q.id.fn q.id.qid x).2.sec = s.sec :=
      sec_of_without (s.takeEntry_without _ _ _ (List.Subset.refl _)) (by simp) (by simp)
    generalize s.takeEntry q.id.fn q.id.qid x = entry at taken
    obtain ⟨start, t⟩ := entry
    refine .ite (.trans (.of_eq taken) (.ite ?_ ?_)) (.refl _)
    · extract_lets k
      split
      · exact .of_eq (sec_of_without (State.writeCqe_without _ _ _ _ _ _ _ (List.Subset.refl _)) (by simp) (by simp))
      · exact .refl _
    · extract_lets c u
      exact .ite (.of_eq (u.sec_finish ..)) (h c u)

theorem State.follows_adminCmd (q : Sqe) (pf0 : Bool) {f : State → State} (h : ∀ t : State, t.sec.Follows (f t).sec) :
    s.sec.Follows (s.adminCmd q pf0 f).sec :=
  .ite (s.follows_fetchCmd _ _ fun _ _ => .of_eq (by simp)) (s.follows_fetchCmd _ _ fun _ => h)

theorem State.follows_fwDownload (q : Sqe) (bytes : List Byte) : s.sec.Follows (s.fwDownload q bytes).sec :=
  s.follows_adminCmd q true fun t => by
    rw [State.sec_finish]
    exact .trans (.of_eq (t.sec_adminData ..)) ⟨Nat.le_refl _, rfl⟩

theorem State.follows_fwCommit (q : Sqe) (gaps : List Byte) : s.sec.Follows (s.fwCommit q gaps).sec :=
  s.follows_adminCmd q true fun t => by
    extract_lets act runs slot x sec u
    have stored : t.sec.Follows u.sec := by
      unfold u
      exact .ite (.refl _) (.ite ⟨Nat.le_refl _, rfl⟩ ⟨Nat.le_refl _, rfl⟩)
    refine .ite (.of_eq (by simp)) (.ite (.of_eq (by simp)) (.ite (.of_eq (by simp)) (.ite (by simpa using stored) ?_)))
    rw [State.sec_finish]
    exact stored.trans ⟨Nat.le_refl _, rfl⟩

theorem State.follows_pfFlr : s.sec.Follows s.pfFlr.sec := by
  have failed := s.vfEnableClear.follows_failInternals
  rw [State.sec_vfEnableClear] at failed
  unfold State.pfFlr
  refine .ite (.refl _) ?_
  extract_lets t
  have dropped : s.sec.Follows t.sec := .trans (by simpa using failed) (State.follows_dropSessions ..)
  simpa using dropped

theorem State.follows_bindProfile (b : List Byte) : s.sec.Follows (s.bindProfile b).sec := by
  unfold State.bindProfile
  extract_lets t chs mch sec u
  have bound : s.sec.Follows u.sec :=
    (Sec.Follows.of_eq (s.sec_setProfile _)).trans (b := t.sec) ⟨Nat.le_refl _, rfl⟩
  exact .ite (by simpa using bound) (bound.trans (sec_foldl (fun v c => .of_eq (v.sec_startBringup c)) _ u))

theorem State.follows_finishSession (id : Nat) (macOk : Bool) : s.sec.Follows (s.finishSession id macOk).sec := by
  unfold State.finishSession
  split
  · refine .ite (.of_eq (by simp)) (.ite ?_ ?_)
    · rw [State.sec_spdm]
      exact ⟨(List.length_map _).le, rfl⟩
    · simpa using s.follows_dropSessions fun x => x.id == id
  · exact .of_eq (by simp)

theorem State.follows_endOwnSession (id : Nat) : s.sec.Follows (s.endOwnSession id).sec := by
  unfold State.endOwnSession
  split
  · simpa using s.follows_dropSessions fun x => x.id == id
  · exact .of_eq (by simp)

theorem State.follows_sessionExpiry (id : Nat) : s.sec.Follows (s.sessionExpiry id).sec :=
  .ite (by simpa using s.follows_dropSessions fun x => x.id == id) (.refl _)

theorem State.follows_claimDevice (id : Nat) (psk hint : List Byte) : s.sec.Follows (s.claimDevice id psk hint).1.sec := by
  unfold State.claimDevice
  split
  · exact .refl _
  · refine .trans ?_ (State.follows_dropSessions ..)
    simp only [State.sec_raise, State.sec_showMtrKey, State.setBit_sec]
    exact ⟨Nat.le_refl _, rfl⟩

theorem State.follows_rotatePsk (id : Nat) (psk hint : List Byte) : s.sec.Follows (s.rotatePsk id psk hint).1.sec := by
  unfold State.rotatePsk
  split
  · exact .refl _
  · refine .trans ?_ (State.follows_dropSessions ..)
    exact ⟨Nat.le_refl _, rfl⟩

theorem State.follows_commitRollback : s.sec.Follows s.commitRollback.1.sec := by
  unfold State.commitRollback
  (repeat' split)
  · exact .refl _
  · exact .refl _
  · simp only [State.sec_raise, State.setField_sec]
    exact ⟨Nat.le_refl _, rfl⟩

theorem State.follows_mgmtLoadImage (addr : BitVec 64) (len : Word) : s.sec.Follows (s.mgmtLoadImage addr len).1.sec := by
  unfold State.mgmtLoadImage
  split
  · exact .refl _
  · extract_lets t0 t
    have started : s.sec.Follows t.sec := .of_eq (by simp [t, t0])
    split <;> exact started.trans ⟨Nat.le_refl _, rfl⟩

theorem State.follows_mgmtBind (b : List Byte) : s.sec.Follows (s.mgmtBind b).1.sec := by
  unfold State.mgmtBind
  split
  · exact .refl _
  · split
    · exact .refl _
    · split
      · exact s.follows_bindProfile b
      · exact ⟨Nat.le_refl _, rfl⟩

theorem State.follows_uartImage (img : Option SlotImage) (desc : Option (List Byte)) :
    s.sec.Follows (s.uartImage img desc).sec := by
  unfold State.uartImage
  refine .ite ?_ (.refl _)
  extract_lets sec t
  have taken : s.sec.Follows t.sec := by
    unfold t
    split
    · exact .ite ⟨Nat.le_refl _, rfl⟩ (.refl _)
    · exact .refl _
  split
  · exact .ite taken taken
  · exact taken

theorem State.follows_dieTimeout (lane : Nat) : s.sec.Follows (s.dieTimeout lane).sec := by
  unfold State.dieTimeout
  split
  · exact .refl _
  · refine .ite (.refl _) ?_
    extract_lets n t0 t1 t2 t
    have counted : t1.sec = s.sec := by simp [t1, t0]
    refine .trans (.of_eq counted) (.ite (State.follows_loseDie (t1.updDie lane _) lane) (.of_eq ?_))
    have ended : t.sec = t1.sec := by
      unfold t
      (repeat' split) <;> simp [t2]
    simp [ended]

theorem State.follows_chBroughtUp (ch : Nat) (f : BringupFacts) : s.sec.Follows (s.chBroughtUp ch f).sec := by
  have brought := s.follows_bringupDone ch f
  unfold State.chBroughtUp
  refine .ite (.refl _) ?_
  extract_lets t spared left
  have counted : spared.sec = t.sec := by
    have each (u : State) (d : Nat) : (u.updDie (ch * 16 + d) fun x =>
      { x with spare0 := if x.spare0 = 0 then u.spareOf (ch * 16 + d) else x.spare0 }).without [.mch] = u.without [.mch] :=
      State.updDie_without _ _ _ (by simp)
    exact sec_of_without (without_foldl each _ _) (by simp) (by simp)
  exact .ite (by simpa [counted] using brought) brought

theorem State.follows_resetBegin (cause : Nat) : s.sec.Follows (s.resetBegin cause).sec := by
  unfold State.resetBegin
  refine .ite (.refl _) (.ite (.refl _) ?_)
  extract_lets t0 t
  have dropped : s.sec.Follows t.sec := by simpa [t, t0] using s.follows_dropSessions fun _ => true
  simpa only using dropped

theorem State.follows_perstFall : s.sec.Follows s.perstFall.sec :=
  .ite (State.follows_resetBegin { s with pwr := { s.pwr with perst := true } } 2) (.refl _)

end

end Sys2Proof.Machine
end

section
/-! SUPPORT. What register writes, configuration writes and the stages of a boot leave of the security part. -/
namespace Sys2Proof.Machine
section
variable (s : State)

@[simp] theorem State.sec_vfFlr (vf : Nat) : (s.vfFlr vf).sec = s.sec :=
  sec_of_without (s.vfFlr_without vf (List.Subset.refl _)) (by simp) (by simp)

@[simp] theorem State.sec_commandWrite (f : Nat) (v : Word) : (s.commandWrite f v).sec = s.sec :=
  sec_of_without (s.commandWrite_without f v (List.Subset.refl _)) (by simp) (by simp)

@[simp] theorem State.sec_pmcsrWrite (f : Nat) (v : Word) : (s.pmcsrWrite f v).sec = s.sec :=
  sec_of_without (s.pmcsrWrite_without f v (List.Subset.refl _)) (by simp) (by simp)

@[simp] theorem State.sec_sriovWrite (off : Nat) (v : Word) : (s.sriovWrite off v).sec = s.sec :=
  sec_of_without (s.sriovWrite_without off v (List.Subset.refl _)) (by simp) (by simp)

@[simp] theorem State.sec_doeWrite (off : Nat) (v : Word) : (s.doeWrite off v).sec = s.sec :=
  sec_of_without (s.doeWrite_without off v (List.Subset.refl _)) (by simp) (by simp)


end

/-! ## Registers and configuration space -/

section
variable (s : State)

/-- Of the actions of the low blocks' registers a forced containment alone reaches the security part. -/
theorem State.follows_actLow (by_ : Requester) (d : RegDef) (off : Nat) (v : Word) :
    s.sec.Follows (s.actLow by_ d off v).sec := by
  have cmd (t : State) : (t.when (t.pairState == 5 || t.pairState == 1) (·.declareLost 3)).sec = t.sec := by
    unfold State.when
    split <;> simp
  have free (t : State) : (t.freeBlobBuf (t.field Reg.mlkBlobSel 0 2)).sec = t.sec := by simp
  unfold State.actLow
  refine .ite ?_ ?_
  · have released := s.follows_when (v.getLsbD 0) fun t => .of_eq t.sec_containRelease
    exact released.trans (State.follows_when _ _ fun t => t.follows_contain 2)
  · (repeat' with_reducible refine .ite ?_ ?_) <;>
      simp [State.follows_acts, State.follows_when, State.follows_chRetire, Sec.Follows.of_eq, cmd]

theorem State.follows_actHigh (by_ : Requester) (d : RegDef) (off : Nat) (v : Word) :
    s.sec.Follows (s.actHigh by_ d off v).sec := by
  unfold State.actHigh
  (repeat' with_reducible refine .ite ?_ ?_) <;> simp [State.follows_when, State.follows_resetBegin, Sec.Follows.of_eq]

theorem State.follows_writeReg (by_ : Requester) (off : Nat) (value sets : Word) :
    s.sec.Follows (s.writeReg by_ off value sets).sec := by
  have act : s.sec.Follows (match regDef off with
    | none => s
    | some d =>
      let v := value &&& ~~~(sets &&& d.w1c)
      if ¬ s.blockServed off ∨ ¬ d.takes by_ off then s
      else if off < 0xF00000 then s.actLow by_ d off v else s.actHigh by_ d off v : State).sec := by
    split
    · exact .refl _
    · exact .ite (.refl _) (.ite (s.follows_actLow ..) (s.follows_actHigh ..))
  cases by_ with
  | pf0 => exact act
  | core c => exact .ite (.of_eq (by simp)) act

theorem State.follows_dwordWrite (r : MemReq) (addr : Nat) (v sets : Word) :
    s.sec.Follows (s.dwordWrite r addr v sets).sec :=
  .ite (.of_eq (by simp)) (s.follows_writeReg ..)

theorem State.follows_windowWrite (r : MemReq) : s.sec.Follows (s.windowWrite r).sec := by
  unfold State.windowWrite
  refine .ite (.refl _) ?_
  extract_lets t
  have low : s.sec.Follows t.sec := s.follows_dwordWrite ..
  exact .ite low (low.trans (t.follows_dwordWrite ..))

theorem State.follows_coreRequest (c : Nat) (r : MemReq) : s.sec.Follows (s.coreRequest c r).sec := by
  unfold State.coreRequest
  refine .ite (.ite (s.follows_windowWrite r) (.of_eq (by simp))) (.ite (.of_eq (by simp)) (.of_eq ?_))
  have answered := without_foldl (W := [.out]) (fun t o => State.emit_without t o (by simp)) (answerOf r 0)
    (s.accessFault c (coreRegBase + r.addr))
  exact (sec_of_without answered (by simp) (by simp)).trans (by simp)

theorem State.follows_memRequest (r : MemReq) : s.sec.Follows (s.memRequest r).sec := by
  unfold State.memRequest
  refine .ite (.refl _) (.trans (.of_eq s.sec_linkBusy) ?_)
  refine .ite (.of_eq (by simp)) (.ite (.ite (.of_eq (by simp)) (.of_eq (by simp))) (.ite (.of_eq (by simp)) ?_))
  exact .ite (.ite (.of_eq (by simp)) (.of_eq (by simp))) (.ite (State.follows_windowWrite ..) (.of_eq (by simp)))

theorem State.follows_devCtlWrite (f : Nat) (v : Word) : s.sec.Follows (s.devCtlWrite f v).sec :=
  .ite (.ite (.trans (.of_eq (s.sec_setCfg ..)) (State.follows_pfFlr _)) (.of_eq (by simp [State.sec_vfFlr]))) (.of_eq (by simp))

theorem State.follows_cfgWrite (f off : Nat) (v : Word) : s.sec.Follows (s.cfgWrite f off v).sec := by
  unfold State.cfgWrite
  (repeat' with_reducible refine .ite ?_ ?_) <;> simp [State.follows_devCtlWrite, Sec.Follows.of_eq]

theorem State.follows_configRequest (r : CfgReq) : s.sec.Follows (s.configRequest r).sec := by
  unfold State.configRequest
  extract_lets off t
  have busy : s.sec.Follows t.sec := .of_eq s.sec_linkBusy
  refine .ite (.refl _) (busy.trans (.ite (.of_eq (by simp)) (.ite (.of_eq (by simp)) (.ite (t.follows_cfgWrite ..) ?_))))
  exact .of_eq (by simp [apply_ite State.sec])

/-! ## The boot stages -/

theorem State.follows_claimReset : s.sec.Follows s.claimReset.sec := by
  unfold State.claimReset
  extract_lets nss t0 sec mcr mtr wrp t
  have erased : s.sec.Follows t0.sec := sec_foldl (fun u n => .of_eq (u.sec_cryptoErase ..)) _ s
  simpa using erased.trans (c := t.sec) ⟨Nat.le_refl _, rfl⟩

theorem State.follows_lifecycleCheck (nonceOk agree : Bool) : s.sec.Follows (s.lifecycleCheck nonceOk agree).sec := by
  unfold State.lifecycleCheck
  extract_lets gone mtr sec bare t
  have bound : s.sec.Follows t.sec := .ite (.refl _) (.trans (b := bare.sec) ⟨Nat.le_refl _, rfl⟩ (.of_eq (bare.sec_chainsLost gone)))
  exact .ite bound (bound.trans t.follows_claimReset)

theorem State.follows_mediaDone (nonceOk agree : Bool) (x : Option SlotImage) :
    s.sec.Follows (s.mediaDone nonceOk agree x).sec := by
  unfold State.mediaDone
  refine .ite (.refl _) ?_
  extract_lets t0 t
  have checked : s.sec.Follows t0.sec := by simpa [t0] using s.follows_lifecycleCheck nonceOk agree
  have programmed : t.sec = t0.sec := by
    unfold t
    split <;> simp
  simpa [programmed] using checked

theorem State.follows_recoveryDone (readable headsOk : Bool) (durMs bootMs : Nat) :
    s.sec.Follows (s.recoveryDone readable headsOk durMs bootMs).sec := by
  unfold State.recoveryDone
  extract_lets cold t0 clean dump map wrp t1 t2 t3 t4 pwr t5 t6
  have reset : s.sec.Follows t0.sec := .ite s.follows_claimReset (.refl _)
  clear_value dump
  have restored : t1.sec = t0.sec := by
    unfold t1
    split <;> simp [map]
  have timed : t3.sec = t2.sec := by
    unfold t3
    split <;> simp
  simpa [t6, t5, t4, timed, t2, restored] using reset
end

end Sys2Proof.Machine
end

section
/-! SUPPORT. The sessions (O43, R441) and the running firmware (O44, R428, R431) over a step. -/
namespace Sys2Proof.Machine

section
variable {s t : State}

theorem SessionsOk.of_follows (ok : SessionsOk s) (h : s.sec.Follows t.sec) : SessionsOk t :=
  h.sessions.trans ok

/-- An opened session is the fourth at most. -/
theorem State.length_openSession (s : State) (psk ready : Bool) :
    (s.openSession psk ready).sec.sessions.length = s.sec.sessions.length + 1 := by
  simp [State.openSession]

theorem SessionsOk.keyExchange (ok : SessionsOk s) (slot : Nat) (pub : List Byte) : SessionsOk (s.keyExchange slot pub) := by
  unfold State.keyExchange
  split
  · simpa [SessionsOk] using ok
  · split
    · simpa [SessionsOk] using ok
    · simp only [SessionsOk, State.sec_spdm, State.length_openSession]
      omega

theorem SessionsOk.pskExchange (ok : SessionsOk s) (hint : List Byte) : SessionsOk (s.pskExchange hint) := by
  unfold State.pskExchange
  split
  · simpa [SessionsOk] using ok
  · split
    · simpa [SessionsOk] using ok
    · split
      · simpa [SessionsOk] using ok
      · simp only [SessionsOk, State.sec_spdm, State.length_openSession]
        omega

theorem SessionsOk.whenLive {f : State → State} (ok : SessionsOk s) (h : ∀ {u}, SessionsOk u → SessionsOk (f u)) :
    SessionsOk (s.whenLive f) := by
  unfold State.whenLive
  split
  · exact h ok
  · exact ok

theorem SessionsOk.spdmReq {f : State → State} (ok : SessionsOk s) (h : ∀ {u}, SessionsOk u → SessionsOk (f u)) :
    SessionsOk (s.spdmReq f) := by
  unfold State.spdmReq
  split
  · exact h ok
  · split
    · exact h (ok.of_follows (s.follows_touchSession _))
    · exact ok.of_follows (.of_eq (by simp))
  · exact ok

/-! ## The running image -/

theorem State.running_openSession (s : State) (psk ready : Bool) : (s.openSession psk ready).sec.running = s.sec.running := by
  simp [State.openSession]

theorem State.running_keyExchange (s : State) (slot : Nat) (pub : List Byte) :
    (s.keyExchange slot pub).sec.running = s.sec.running := by
  unfold State.keyExchange
  (repeat' split) <;> simp [State.running_openSession]

theorem State.running_pskExchange (s : State) (hint : List Byte) : (s.pskExchange hint).sec.running = s.sec.running := by
  unfold State.pskExchange
  (repeat' split) <;> simp [State.running_openSession]

theorem State.running_whenLive (s : State) {f : State → State} (h : ∀ t, (f t).sec.running = t.sec.running) :
    (s.whenLive f).sec.running = s.sec.running := by
  unfold State.whenLive
  split
  · exact h s
  · rfl

theorem State.running_spdmReq (s : State) {f : State → State} (h : ∀ t, (f t).sec.running = t.sec.running) :
    (s.spdmReq f).sec.running = s.sec.running := by
  unfold State.spdmReq
  split
  · exact h s
  · split
    · exact (h _).trans (s.follows_touchSession _).running
    · simp
  · rfl

/-! ## The boot stages -/

/-- The image that runs after a stage runs already before, or the ROM accepts it (R428). -/
structure Sec.Boots (s : State) (b : Sec) : Prop where
  sessions : b.sessions.length ≤ s.sec.sessions.length
  running : ∀ x, b.running = some x → s.sec.running = some x ∨ (s.sec.rollback ≤ x.svn ∧ x.svn ≤ 64)

theorem Sec.Follows.boots {b : Sec} (h : s.sec.Follows b) : b.Boots s :=
  ⟨h.sessions, fun _ is => .inl (h.running ▸ is)⟩

theorem State.sec_runSlot (s : State) (slotB fallback : Bool) (x : SlotImage) :
    (s.runSlot slotB fallback x).sec = { s.sec with running := some x } := by
  simp [State.runSlot]

theorem State.svn_of_accepted {y : Option SlotImage} {x : SlotImage} (h : s.accepted y = some x) :
    s.sec.rollback ≤ x.svn ∧ x.svn ≤ 64 := by
  have ok : s.slotOk x = true := (Option.filter_eq_some_iff.1 h).2
  simp only [State.slotOk, Bool.and_eq_true, decide_eq_true_eq] at ok
  tauto

/-- Stage 1 runs an image that it accepts, or none. -/
theorem State.boots_firmwareDone (s : State) (a b : Option SlotImage) (prefer : Bool) :
    (s.firmwareDone a b prefer).sec.Boots s := by
  have runs (t : State) (y : Option SlotImage) (x : SlotImage) (slotB fallback : Bool) (sessions : t.sec.sessions = s.sec.sessions)
      (fuses : t.sec.rollback = s.sec.rollback) (h : t.accepted y = some x) : (t.runSlot slotB fallback x).sec.Boots s := by
    rw [State.sec_runSlot]
    refine ⟨sessions ▸ Nat.le_refl _, fun z is => .inr ?_⟩
    cases is
    exact fuses ▸ State.svn_of_accepted h
  unfold State.firmwareDone
  extract_lets known sec t pb u
  split
  case h_1 h => exact runs _ _ _ _ _ rfl rfl h
  case h_2 =>
    have counted : u.sec = t.sec := State.sec_countErr ..
    split
    case h_1 h => exact runs _ _ _ _ _ (by rw [counted]) (by rw [counted]) h
    case h_2 => exact Sec.Follows.boots (.trans (b := t.sec) ⟨Nat.le_refl _, rfl⟩ (.of_eq (by simp [counted])))

theorem State.boots_stageEnd (s : State) (f : StageFacts) : (s.stageEnd f).sec.Boots s := by
  unfold State.stageEnd
  split
  · exact (Sec.Follows.refl _).boots
  · split
    case h_2 a b p mhz n _ =>
      have read := s.sec_norRead mhz n
      have boots := (s.norRead mhz n).boots_firmwareDone a b p
      exact ⟨read ▸ boots.sessions, fun x is => by simpa [read] using boots.running x is⟩
    case h_5 => exact (s.follows_mediaDone ..).boots
    case h_6 => exact (s.follows_recoveryDone ..).boots
    all_goals exact (Sec.Follows.of_eq (by simp)).boots
end

/-! ## Every command -/

/-- The commands that open a session or run an image, and the resets. -/
def opensOrRuns : Instr → Bool
  | .keyExchange .. | .pskExchange .. | .bootStageEnd .. => true
  | c => rebuilds c

/-- A command leaves no new session and the running image as it is. -/
def FollowsSec (c : Instr) : Prop := ∀ s t, exec c s = .next t → s.sec.Follows t.sec

section
variable {c : Instr} {f : State → State}

theorem FollowsSec.next (h : ∀ s, exec c s = .next (f s)) (hf : ∀ s : State, s.sec.Follows (f s).sec) : FollowsSec c := by
  intro s t step
  rw [h] at step
  cases step
  exact hf s

theorem FollowsSec.live (h : ∀ s, exec c s = .next (s.whenLive f)) (hf : ∀ s : State, s.sec.Follows (f s).sec) :
    FollowsSec c :=
  .next h fun s => s.follows_whenLive hf

theorem FollowsSec.byCore {by_ : Requester} {off : Nat} (h : ∀ s, exec c s = .next (s.byCore by_ off f))
    (hf : ∀ s : State, s.sec.Follows (f s).sec) : FollowsSec c :=
  .next h fun s => s.follows_byCore by_ off hf

theorem FollowsSec.spdmReq (h : ∀ s, exec c s = .next (s.whenLive (·.spdmReq f)))
    (hf : ∀ s : State, s.sec.Follows (f s).sec) : FollowsSec c :=
  .live h fun s => s.follows_spdmReq hf

theorem FollowsSec.mgmt {id opcode seq : Nat} {allowed : State → Sess → Bool} {f : State → State × MgmtAnswer}
    (h : ∀ s, exec c s = .next (s.whenLive (·.mgmt id opcode seq allowed f)))
    (hf : ∀ s : State, s.sec.Follows (f s).1.sec) : FollowsSec c :=
  .live h fun s => s.follows_mgmt id opcode seq allowed hf

theorem FollowsSec.of_footprint (keeps : rebuilds c = false) (sec : (footprint c).elem .sec = false)
    (fuses : (footprint c).elem .fuses = false) : FollowsSec c := fun s t step =>
  .of_eq (sec_of_without (writes_footprint c keeps s t step) (by simpa using sec) (by simpa using fuses))
end

/-- The footprint says it of a command that does not reach the security part, its operation's lemma of every other. -/
theorem followsSec (c : Instr) (h : opensOrRuns c = false) : FollowsSec c := by
  have kept {s t : State} {W : List Part} (law : t.without W = s.without W) (sec : W.elem .sec = false)
      (fuses : W.elem .fuses = false) : s.sec.Follows t.sec :=
    .of_eq (sec_of_without law (by simpa using sec) (by simpa using fuses))
  have freed (t : State) : t.sec.Follows t.freeLanes.sec := kept (t.freeLanes_without (List.Subset.refl _)) rfl rfl
  cases c with
  | imageChecksDone b => exact .live (fun _ => rfl) (·.follows_checksDone b)
  | channelBringupDone ch f => exact .live (fun _ => rfl) (·.follows_chBroughtUp ch f)
  | mchChRetire _ ch => exact .byCore (fun _ => rfl) (·.follows_chRetire ch)
  | dieOpTimeout lane => exact .live (fun _ => rfl) (·.follows_dieTimeout lane)
  | channelRetrain ch ok => exact .live (fun _ => rfl) (·.follows_retrained ch ok)
  -- Host Port (chapter 9)
  | hostDlDown cause => exact .live (fun _ => rfl) (·.follows_hostDlDown cause)
  | memRequestRx r =>
    refine .live (fun _ => rfl) fun s => ?_
    split
    · exact s.follows_memRequest r
    · exact s.follows_coreRequest _ r
  | configRequestRx r => exact .live (fun _ => rfl) (·.follows_configRequest r)
  | completionRx x => exact .live (fun _ => rfl) fun s => (s.follows_completion x).trans (freed _)
  | invalidateAbandon fn k => exact .live (fun _ => rfl) fun s => (s.follows_invalAbandon fn k).trans (freed _)
  | completionTimeout tag => exact .live (fun _ => rfl) fun s => (s.follows_cplTimeout tag).trans (freed _)
  | hptContainForce => exact .byCore (fun _ => rfl) (·.follows_contain 2)
  | prsntChange seated => exact .live (fun _ => rfl) (·.follows_presence seated)
  | attnBtn => exact .live (fun _ => rfl) State.follows_attnPress
  | attnTimeout => exact .live (fun _ => rfl) State.follows_attnExpiry
  -- Functions and queues (chapter 10)
  | firmwareImageDownload q bytes => exact .live (fun _ => rfl) (·.follows_fwDownload (q.as 0x11) bytes)
  | firmwareCommit q gaps => exact .live (fun _ => rfl) (·.follows_fwCommit (q.as 0x10) gaps)
  | pfFlr => exact .live (fun _ => rfl) State.follows_pfFlr
  -- Security (chapter 11)
  | uartImageRx img desc => exact .live (fun _ => rfl) (·.follows_uartImage img desc)
  | getVersion => exact .spdmReq (fun _ => rfl) fun s => .of_eq (s.sec_spdm ..)
  | getCapabilities => exact .spdmReq (fun _ => rfl) fun s => .of_eq (s.sec_spdm ..)
  | negotiateAlgorithms => exact .spdmReq (fun _ => rfl) fun s => .of_eq (s.sec_spdm ..)
  | spdmUnsupportedRequest => exact .spdmReq (fun _ => rfl) fun s => .of_eq (s.sec_spdmError ..)
  | getDigests => exact .spdmReq (fun _ => rfl) fun s => kept (s.digests_without (List.Subset.refl _)) rfl rfl
  | getCertificate =>
    exact .spdmReq (fun _ => rfl) fun s => kept (s.certificate_without _ _ _ (List.Subset.refl _)) rfl rfl
  | challenge => exact .spdmReq (fun _ => rfl) fun s => kept (s.challengeAuth_without _ _ (List.Subset.refl _)) rfl rfl
  | getMeasurements =>
    exact .spdmReq (fun _ => rfl) fun s => kept (s.measurements_without _ _ (List.Subset.refl _)) rfl rfl
  | finish id macOk => exact .live (fun _ => rfl) fun s => .ite (s.follows_finishSession id macOk) (.refl _)
  | endSession id => exact .live (fun _ => rfl) fun s => .ite (s.follows_endOwnSession id) (.refl _)
  | sessionTimeout id => exact .live (fun _ => rfl) (·.follows_sessionExpiry id)
  | claim id _ psk hint => exact .mgmt (fun _ => rfl) (·.follows_claimDevice id psk hint)
  | pskRotate id _ psk hint => exact .mgmt (fun _ => rfl) (·.follows_rotatePsk id psk hint)
  | rollbackCommit => exact .mgmt (fun _ => rfl) State.follows_commitRollback
  | query => exact .mgmt (fun _ => rfl) fun s => .refl s.sec
  | invalidManagementRequest => exact .mgmt (fun _ => rfl) fun s => .refl s.sec
  | imageLoad _ _ addr len => exact .mgmt (fun _ => rfl) (·.follows_mgmtLoadImage addr len)
  | imageArm => exact .mgmt (fun _ => rfl) fun s => kept (s.mgmtArm_without _ (List.Subset.refl _)) rfl rfl
  | imageDisarm => exact .mgmt (fun _ => rfl) fun s => kept (s.mgmtDisarm_without (List.Subset.refl _)) rfl rfl
  | park => exact .mgmt (fun _ => rfl) fun s => kept (s.parkRequest_without (List.Subset.refl _)) rfl rfl
  | tokenTrim => exact .mgmt (fun _ => rfl) fun s => kept (s.mgmtTrim_without _ _ _ (List.Subset.refl _)) rfl rfl
  | profileBind _ _ bytes => exact .mgmt (fun _ => rfl) (·.follows_mgmtBind bytes)
  | keyInstall => exact .mgmt (fun _ => rfl) fun s => kept (s.mgmtInstall_without _ _ _ _ (List.Subset.refl _)) rfl rfl
  | keyGenerate => exact .mgmt (fun _ => rfl) fun s => kept (s.mgmtGenerate_without _ (List.Subset.refl _)) rfl rfl
  | lpWindow => exact .mgmt (fun _ => rfl) fun s => kept (s.mgmtWindow_without _ _ (List.Subset.refl _)) rfl rfl
  -- Registers, resets (chapters 13 and 15)
  | registerWrite by_ off v => exact .live (fun _ => rfl) (·.follows_writeReg by_ off v.value v.sets)
  | perstAssert => exact .next (fun _ => rfl) State.follows_perstFall
  | hotReset => exact .next (fun _ => rfl) (·.follows_resetBegin _)
  | pwrResetDevice => exact .byCore (fun _ => rfl) (·.follows_resetBegin 5)
  | keyExchange => exact absurd h.symm Bool.false_ne_true
  | pskExchange => exact absurd h.symm Bool.false_ne_true
  | bootStageEnd => exact absurd h.symm Bool.false_ne_true
  | powerOnReset => exact absurd h.symm Bool.false_ne_true
  | deviceResetShutdownDone => exact absurd h.symm Bool.false_ne_true
  | _ => exact .of_footprint rfl rfl rfl

/-! ## The claims -/

theorem State.BootOf.sessions {s t : State} {cause : Nat} (h : s.BootOf cause t) : t.sec.sessions = [] := by
  rw [h.sec]

theorem State.BootOf.running {s t : State} {cause : Nat} (h : s.BootOf cause t) : t.sec.running = none := by
  rw [h.sec]

/-- What a command leaves of a state with at most four sessions and firmware within the fuses. -/
structure SecOk (s t : State) : Prop where
  sessions : SessionsOk s → SessionsOk t
  running : ∀ x, t.sec.running = some x → s.sec.running = some x ∨ (s.sec.rollback ≤ x.svn ∧ x.svn ≤ 64)

theorem SecOk.of_boots {s t : State} (h : t.sec.Boots s) : SecOk s t := ⟨h.sessions.trans, h.running⟩

theorem SecOk.of_boot {s u t : State} {cause : Nat} (h : u.BootOf cause t) : SecOk s t where
  sessions _ := by
    rw [SessionsOk, h.sessions]
    exact Nat.zero_le _
  running x is := by simp [h.running] at is

theorem secOk_exec {c : Instr} {s t : State} (step : exec c s = .next t) : SecOk s t := by
  cases opens : opensOrRuns c with
  | false => exact .of_boots (followsSec c opens s t step).boots
  | true =>
    cases keeps : rebuilds c with
    | true =>
      have same : SecOk s s := .of_boots (Sec.Follows.refl _).boots
      rcases rebuilds_cases keeps step with ⟨x, rfl⟩ | rfl
      · rcases s.powerOn_cases x with e | ⟨u, cause, -, -, boot⟩
        · rwa [e]
        · exact .of_boot boot
      · rcases s.resetEnd_cases with e | ⟨u, cause, -, -, boot⟩
        · rwa [e]
        · exact .of_boot boot
    | false =>
      cases c with
      | keyExchange slot pub =>
        cases step
        refine ⟨fun ok => ok.whenLive fun ok => ok.spdmReq fun ok => ok.keyExchange slot pub, fun x is => .inl ?_⟩
        exact (s.running_whenLive fun t => t.running_spdmReq fun t => t.running_keyExchange slot pub) ▸ is
      | pskExchange hint =>
        cases step
        refine ⟨fun ok => ok.whenLive fun ok => ok.spdmReq fun ok => ok.pskExchange hint, fun x is => .inl ?_⟩
        exact (s.running_whenLive fun t => t.running_spdmReq fun t => t.running_pskExchange hint) ▸ is
      | bootStageEnd f =>
        cases step
        refine .of_boots ?_
        unfold State.whenLive
        split
        · exact s.boots_stageEnd f
        · exact (Sec.Follows.refl _).boots
      | _ => exact absurd (keeps.symm.trans opens) Bool.false_ne_true

theorem State.sec_idleTick (s : State) : s.idleTick.sec = s.sec :=
  sec_of_without (s.idleTick_without (List.Subset.refl _)) (by decide) (by decide)

/-- Settles O43. -/
theorem sessionInvariant : Obligations.SessionInvariant := by
  intro s t ok taken
  rcases step_cases taken with rfl | ⟨c, rest, run⟩
  · rwa [SessionsOk, State.sec_idleTick]
  · exact (secOk_exec run).sessions ok

/-- The fuses stay, or are blown up to the SVN of the running firmware, which is then not below them. -/
theorem FirmwareOk.exec {c : Instr} {s t : State} (ok : FirmwareOk s) (step : exec c s = .next t) : FirmwareOk t := by
  refine ⟨rollback_le_of_exec ok step, fun x is => ?_⟩
  have runs : s.sec.rollback ≤ x.svn ∧ x.svn ≤ 64 := ((secOk_exec step).running x is).elim (ok.2 x) id
  obtain kept | ⟨⟨id, seq, rfl⟩, -, blown⟩ := rollback_of_exec step
  · rwa [kept]
  · have same : t.sec.running = s.sec.running := (followsSec _ rfl s t step).running
    have svn : s.runningSvn = x.svn := by rw [State.runningSvn, ← same, is]; rfl
    rw [blown, svn]
    exact ⟨Nat.le_refl _, runs.2⟩

/-- Settles O44. -/
theorem firmwareInvariant : Obligations.FirmwareInvariant := by
  intro s t ok taken
  rcases step_cases taken with rfl | ⟨c, rest, run⟩
  · rwa [FirmwareOk, State.sec_idleTick]
  · exact FirmwareOk.exec (s := { s with pending := rest }) ok run
end Sys2Proof.Machine
end

section
/-! SUPPORT. The front of the queue (O1), the state after reset (O3), a stopped device (O46) and a register's writer (O47). -/
namespace Sys2Proof.Machine

/-! ## The front of the queue -/

/-- The state after reset, with the begin of a frame held for a time of day. -/
def State.heldAtBegin : State := { State.reset with ftb := { State.reset.ftb with heldBegin := true } }

/-- Outside LOCKED a tick makes the held begin up at once (R53, assumption 94). -/
theorem State.idleTick_heldAtBegin : State.heldAtBegin.idleTick.ftb.heldBegin = false := by decide

/-- Refutes O1: with no command waiting a tick does more than count where the begin of a frame is held. -/
theorem not_stepTakesFront : ¬ Obligations.StepTakesFront := by
  rintro ⟨-, ticks⟩
  have passes := ticks State.heldAtBegin rfl (by decide) (by decide)
  have held : State.heldAtBegin.idleTick.ftb.heldBegin = true := by
    rw [show State.heldAtBegin.idleTick = _ from Host.Outcome.next.inj passes]
    rfl
  exact absurd (State.idleTick_heldAtBegin.symm.trans held) (by decide)

/-! ## The state after reset -/

/-- Settles O3: the reset state stores no register, so each reads its reset value. -/
theorem resetState : Obligations.ResetState := by
  refine ⟨by decide, by decide, rfl, rfl, rfl, rfl, fun off => rfl, by decide, by decide, by decide, by decide, by decide,
    by decide, by decide, by decide, ?tick, ?sessions, ?firmware⟩
  case tick => exact Nat.zero_lt_succ _
  case sessions => exact Nat.zero_le _
  case firmware => exact ⟨Nat.zero_le _, fun x runs => nomatch runs⟩

/-! ## A stopped device -/

section
variable {s : State} (dead : s.live = false)
include dead

theorem State.byCore_dead (by_ : Requester) (off : Nat) (f : State → State) : s.byCore by_ off f = s := by
  unfold State.byCore
  split
  · rfl
  · exact State.whenLive_dead _ _ dead

theorem State.ownCore_dead (by_ : Requester) (core off : Nat) (read : Bool) (f : State → State) :
    s.ownCore by_ core off read f = s := by
  simp [State.ownCore, State.whenLive_dead _ _ dead]

theorem State.byHost_dead (by_ : Requester) (off : Nat) (f : State → State) : s.byHost by_ off f = s := by
  unfold State.byHost
  split <;> exact State.whenLive_dead _ _ dead

theorem State.byService_dead (by_ : Requester) (f : State → State) : s.byService by_ f = s := by
  unfold State.byService
  split <;> simp [State.whenLive_dead _ _ dead]

/-- The effect of a command that does not act on a stopped device stands behind a guard that asks for power. -/
theorem exec_dead (c : Instr) (waits : actsStopped c = false) : exec c s = .next s := by
  have byCore (by_ : Requester) (off : Nat) (f : State → State) : Host.Outcome.next (s.byCore by_ off f) = (.next s : Result) :=
    congrArg _ (State.byCore_dead dead by_ off f)
  have ownCore (by_ : Requester) (core off : Nat) (read : Bool) (f : State → State) :
      Host.Outcome.next (s.ownCore by_ core off read f) = (.next s : Result) :=
    congrArg _ (State.ownCore_dead dead by_ core off read f)
  have byHost (by_ : Requester) (f : State → State) : Host.Outcome.next (s.byHost by_ Reg.mcrTestCtl f) = (.next s : Result) :=
    congrArg _ (State.byHost_dead dead by_ _ f)
  cases c with
  | powerOnReset | vddAoApplied | perstAssert | perstDeassert | hotReset | deviceResetShutdownDone | mainRailsRemoved
  | railFault | thermtrip | holdupSenseSample | pfailAssert | dumpDone | watchWake | aowAlarmExpiry | watchPinEvent
  | levelSourceChange | wakeSourceFires | setEndpointId | getEndpointId | getEndpointUuid | getMctpVersionSupport
  | getMessageTypeSupport | mctpPacketDrop | readNvmeMiDataStructure | nvmSubsystemHealthStatusPoll
  | controllerHealthStatusPoll | configurationSet | configurationGet | vpdRead | miInvalidCommand =>
    exact absurd waits.symm Bool.false_ne_true
  | prxLoad | prxDiscard | prxArm | prxDisarm | prxParkReq | prxTokenTrim | mchChBringup | mchChRetire | wrpCkptForce
  | hptContainForce | evcUnpend | evcGdisWrite | declareLost | blobDiscard | pwrResetDevice => exact byCore ..
  | evcClaim | evcComplete | evcStackReset | watchdogRestart => exact ownCore ..
  | mcrTestStart | mcrTestAbort => exact byHost ..
  | lpbWinCommit by_ => exact congrArg Host.Outcome.next (State.byService_dead dead by_ _)
  | rejoin by_ =>
    cases by_ with
    | some _ => exact byCore ..
    | none => exact congrArg Host.Outcome.next (State.whenLive_dead s _ dead)
  | _ => exact congrArg Host.Outcome.next (State.whenLive_dead s _ dead)
end

/-- Settles O46. -/
theorem stoppedDevice : Obligations.StoppedDevice := fun c _ dead waits => exec_dead dead c waits

/-! ## The writer of a register -/

/-- Settles O47: such a write ends before the register's action. -/
theorem registersTakeTheirWriters : Obligations.RegistersTakeTheirWriters := by
  intro s by_ off v m d row refused who
  have kept (t : State) : t.writeReg by_ off v m = t := by
    rcases who with rfl | ⟨c, rfl, low⟩
    · simp [State.writeReg, row, refused]
    · simp [State.writeReg, row, refused, show ¬ 6 ≤ c by omega]
  have effect : s.whenLive (·.writeReg by_ off v m) = s := by
    unfold State.whenLive
    split
    · exact kept s
    · rfl
  exact congrArg Host.Outcome.next effect
end Sys2Proof.Machine
end

section
/-! SUPPORT. A management request in a session that is not open (O48, R442). -/
namespace Sys2Proof.Machine

/-- The state after reset with a secured message of session 0 in the mailbox, which is not open. -/
def State.securedUnopened : State := { State.reset with hpt := { State.reset.hpt with doe := some (2, some 0) } }

/-- Refutes O48: such a request also leaves the mailbox, which clause 2 does not list among what changes. -/
theorem not_managementNeedsASession : ¬ Obligations.ManagementNeedsASession := by
  rintro ⟨-, unopened, -⟩
  have kept := (unopened (.query 0 0) State.securedUnopened State.securedUnopened.authFailed 0 rfl rfl rfl).1
  have mailbox : State.securedUnopened.authFailed.hpt = State.securedUnopened.hpt := hpt_of_without kept (by decide)
  exact absurd (congrArg Hpt.doe mailbox) (by decide)
end Sys2Proof.Machine
end

section
/-! SUPPORT. What the end of a device reset keeps and clears (O49, R603, Table 15-5). -/
namespace Sys2Proof.Machine

theorem lookupKey_filter_none {α : Type} {p : Nat → Bool} {k : Nat} (h : p k = false) (l : List (Nat × α)) :
    lookupKey k (l.filter fun e => p e.1) = none := by
  induction l with
  | nil => rfl
  | cons e rest ih =>
    obtain ⟨k', v⟩ := e
    by_cases keep : p k' = true
    · have ne : k' ≠ k := by rintro rfl; simp [h] at keep
      simpa [keep, lookupKey, ne] using ih
    · simpa [keep] using ih

/-- A register outlives the boot or returns to its reset value, as `keepsReg` says. -/
theorem State.get_bootRegs (s : State) (cause r : Nat) :
    (s.bootRegs cause).get r = if keepsReg cause r then s.reg r else resetOf r := by
  cases keeps : keepsReg cause r with
  | true =>
    have kept := lookupKey_filter (p := keepsReg cause) keeps s.regs.entries
    show (lookupKey r (s.bootRegs cause).entries).getD _ = _
    unfold State.bootRegs
    rw [kept]
    rfl
  | false =>
    have gone := lookupKey_filter_none (p := keepsReg cause) keeps s.regs.entries
    show (lookupKey r (s.bootRegs cause).entries).getD _ = _
    unfold State.bootRegs
    rw [gone]
    rfl

/-- The registers that a boot of a device reset writes lie in the blocks EVC and PWR, but for three that show straps, pins and
the hold-up test. -/
theorem State.reg_bootFrom (s : State) {cause r : Nat} (device : 2 ≤ cause) (evc : r / 0x100000 ≠ 15) (pwr : r / 0x100000 ≠ 20)
    (hpt : r ≠ Reg.hptStatus) (ftb : r ≠ Reg.ftbStatus) (mcr : r ≠ Reg.mcrStatus) :
    (s.bootFrom cause).reg r = if keepsReg cause r then s.reg r else resetOf r := by
  have outside (off : Nat) (page : off / 0x100000 = 20) : off ≠ r := by rintro rfl; exact pwr page
  have media (t : State) : t.mediaOff.reg r = t.reg r :=
    reg_of_without (t.mediaOff_without (List.Subset.refl _)) (by simp [pwr])
  have log (t : State) : t.restoreLog.reg r = t.reg r :=
    reg_of_without (t.restoreLog_without (List.Subset.refl _)) (by simp [evc, pwr])
  have level (t : State) : t.relevelAll.reg r = t.reg r :=
    reg_of_without (t.relevelAll_without (List.Subset.refl _)) (by simp [evc])
  have emit (t : State) (o : Out) : (t.emit o).reg r = t.reg r := rfl
  have marked := reg_of_without s.bootMarks_without (r := r) (by simp)
  have spp := outside Reg.sppStatus (by decide)
  have cause' := outside Reg.pwrResetCause (by decide)
  have resets := outside Reg.pwrDeviceResetCnt (by decide)
  unfold State.bootFrom
  dsimp only
  rw [emit, level, log]
  have media' {b : Bool} {v : State} : (if b then v.mediaOff else v : State).reg r = v.reg r := by
    split
    · exact media v
    · rfl
  rw [media', State.reg_setBit_ne _ _ _ _ _ mcr.symm, State.reg_setBit_ne _ _ _ _ _ spp,
    State.reg_setBit_ne _ _ _ _ _ ftb.symm, State.reg_setBit_ne _ _ _ _ _ hpt.symm,
    if_pos (decide_eq_true device), State.reg_inc_ne _ _ _ _ resets, State.reg_setNum, if_neg cause']
  exact (State.get_bootRegs ..).trans (by rw [marked])

/-- The blocks of frame time and of Watch outlive a device reset (Tables 15-5 and 17-2). -/
theorem keepsReg_of_page {cause r : Nat} (device : 2 ≤ cause) (page : r / 0x100000 = 4 ∨ r / 0x100000 = 16) :
    keepsReg cause r = true := by
  simp only [keepsReg, isDeviceReset, Bool.or_eq_true, Bool.and_eq_true, decide_eq_true_eq]
  omega

theorem not_keepsReg {cause r : Nat} (page : r / 0x100000 ∉ [1, 4, 15, 16, 20]) (dump : r ≠ Reg.wrpDumpCnt) :
    keepsReg cause r = false := by
  have rail : r ≠ Reg.pwrRailStatus := by rintro rfl; exact page (by decide)
  have resets : r ≠ Reg.pwrDeviceResetCnt := by rintro rfl; exact page (by decide)
  simp only [List.mem_cons, List.not_mem_nil, or_false, not_or] at page
  have blocks : ¬ (0x400000 ≤ r ∧ r < 0x500000) ∧ ¬ (0x1000000 ≤ r ∧ r < 0x1100000) := by omega
  simp [keepsReg, rail, resets, dump]
  omega

/-- Before READY the end of a device reset is a boot of its cause (R604). -/
theorem State.resetEnd_of_not_ready {s : State} {cause : Nat} (resetting : s.pwr.resetting = some cause) (runs : s.pwr.stop = .none)
    (early : s.bit Reg.pwrStatus 3 = false) : s.resetEnd = s.bootFrom cause := by
  simp [State.resetEnd, resetting, runs, early]

/-- Settles O49. -/
theorem deviceResetKeeps : Obligations.DeviceResetKeeps := by
  refine ⟨fun s t cause resetting device runs early step => ?parts, fun s t cause off resetting device runs early step => ?registers⟩
  case parts =>
    obtain rfl : s.resetEnd = t := Host.Outcome.next.inj step
    rw [State.resetEnd_of_not_ready resetting runs early]
    have boot := s.bootOf_bootFrom cause
    have ftb : (s.bootFrom cause).ftb = s.ftb := boot.ftb.trans (if_pos (decide_eq_true device))
    refine ⟨ftb, boot.keys, ?_, ?_, ?_, ?_, boot.profile, boot.desc, boot.aow, boot.cmds, ?_, boot.prx, boot.lpb, boot.pending⟩
      <;> rw [boot.sec]
  case registers =>
    obtain rfl : s.resetEnd = t := Host.Outcome.next.inj step
    rw [State.resetEnd_of_not_ready resetting runs early]
    refine ⟨fun kept => ?_, fun page dump holdup => ?_⟩
    · have ne (other : Nat) (page : other / 0x100000 ≠ 4 ∧ other / 0x100000 ≠ 16) : off ≠ other := by
        rintro rfl
        omega
      have shown : off ≠ Reg.ftbStatus := by
        rcases kept with ⟨-, ne⟩ | watch
        · exact ne
        · rintro rfl
          exact absurd watch (by decide)
      have page : off / 0x100000 = 4 ∨ off / 0x100000 = 16 := kept.imp_left And.left
      rw [s.reg_bootFrom device (by omega) (by omega) (ne _ (by decide)) shown (ne _ (by decide)),
        if_pos (keepsReg_of_page device page)]
    · have hpt : off ≠ Reg.hptStatus := by rintro rfl; exact page (by decide)
      have ftb : off ≠ Reg.ftbStatus := by rintro rfl; exact page (by decide)
      have drop := not_keepsReg (cause := cause) page dump
      simp only [List.mem_cons, List.not_mem_nil, or_false, not_or] at page
      obtain ⟨-, -, evc, -, pwr⟩ := page
      rw [s.reg_bootFrom device evc pwr hpt ftb holdup, drop]
      rfl
end Sys2Proof.Machine
end

section
/-! SUPPORT. Commands of one function and the controllers of the others (O50, R385). -/
namespace Sys2Proof.Machine

/-- Every function but one is in a state as it is in another. -/
structure State.Apart (f : Nat) (s t : State) : Prop where
  fn : ∀ g, g ≠ f → t.fn g = s.fn g

section
variable {f : Nat} {s t u : State}

theorem State.Apart.refl : s.Apart f s := ⟨fun _ _ => rfl⟩

theorem State.Apart.of_eq (h : t = s) : s.Apart f t := h ▸ .refl

theorem State.Apart.trans (h : s.Apart f t) (k : t.Apart f u) : s.Apart f u :=
  ⟨fun g ne => (k.fn g ne).trans (h.fn g ne)⟩

theorem State.Apart.of_fns (h : t.fns = s.fns) : s.Apart f t := ⟨fun g _ => congrArg (Tab.get · g) h⟩

theorem State.Apart.of_without {W : List Part} (h : t.without W = s.without W) (fns : W.elem .fns = false) : s.Apart f t :=
  .of_fns (fns_of_without h (by simpa using fns))

theorem State.Apart.ite {p : Prop} [Decidable p] (h : s.Apart f t) (k : s.Apart f u) : s.Apart f (if p then t else u) := by
  split
  · exact h
  · exact k

theorem State.apart_foldl {α : Type} {h : State → α → State} (each : ∀ (s : State) a, s.Apart f (h s a)) (l : List α) (s : State) :
    s.Apart f (l.foldl h s) := by
  induction l generalizing s with
  | nil => exact .refl
  | cons a l ih => exact (each s a).trans (ih (h s a))
end

/-! ## Operations of one function -/

section
variable (s : State) (f : Nat)

theorem State.apart_updFn (h : Fn → Fn) : s.Apart f (s.updFn f h) :=
  ⟨fun g ne => by simp [State.fn, State.updFn, Tab.get_modify, ne.symm]⟩

theorem State.apart_updSq (q : Nat) (h : Sq → Sq) : s.Apart f (s.updSq f q h) := s.apart_updFn ..
theorem State.apart_updCq (q : Nat) (h : Cq → Cq) : s.Apart f (s.updCq f q h) := s.apart_updFn ..

theorem State.apart_finish (c : CmdId) (status : Nat) (dw0 : Word) (dnr : Bool) : s.Apart f (s.finish c status dw0 dnr) :=
  .of_without (s.finish_without c status dw0 dnr (List.Subset.refl _)) rfl

theorem State.apart_toHost (o : Out) : s.Apart f (s.toHost o) := .of_without (s.toHost_without o (List.Subset.refl _)) rfl

theorem State.apart_visit : s.Apart f (s.visit f) := by
  unfold State.visit
  split
  · exact .refl
  · extract_lets n page t
    have asked : s.Apart f t := by
      refine .ite (.trans (t := s.when (s.fn f).ats (·.inc Reg.hptAtcHitCnt)) ?_ ?_) ?_
      · exact .of_without (State.when_without (W := [.regs 1]) _ _ _ fun u => u.inc_without _ _ (List.Subset.refl _)) rfl
      · exact .of_without (State.readHost_without _ _ _ _ _ _ (List.Subset.refl _)) rfl
      · exact .of_without (State.askXlat_without _ _ _ (List.Subset.refl _)) rfl
    exact asked.trans (t.apart_updFn ..)

theorem State.apart_kickAll : s.Apart f (s.kickAll f) :=
  .ite .refl (State.apart_foldl (fun t _ => t.apart_visit f) _ s)

theorem State.apart_msix (vec : Nat) : s.Apart f (s.msix f vec) := by
  unfold State.msix
  extract_lets x
  refine .ite .refl (.ite ?_ (.ite (s.apart_updFn ..) ?_))
  · exact (s.apart_updFn f _).trans (.of_without (State.inc_without _ _ _ (List.Subset.refl _)) rfl)
  · exact .trans (t := s.inc Reg.hiuMsgCnt) (.of_without (State.inc_without _ _ _ (List.Subset.refl _)) rfl) (State.apart_toHost ..)

theorem State.apart_signal (vec : Nat) : s.Apart f (s.signal f vec) := by
  unfold State.signal
  extract_lets x n t
  have pended : s.Apart f t := s.apart_updFn ..
  refine .ite (s.apart_msix f vec) (.ite ?_ ?_)
  · exact pended.trans ((t.apart_updFn f _).trans (State.apart_msix ..))
  · exact pended.trans (.of_without (t.inc_without _ _ (List.Subset.refl _)) rfl)

theorem State.apart_writeCqe (c : CmdId) (q : Nat) (k : Cq) (status : Nat) (dnr : Bool) (dw0 : Word) :
    s.Apart c.fn (s.writeCqe c q k status dnr dw0) := by
  unfold State.writeCqe
  extract_lets t0 t1 t
  have posted : s.Apart c.fn t := by
    have written : s.Apart c.fn t1 := (s.apart_updCq ..).trans (State.apart_toHost ..)
    exact written.trans (.of_without (t1.emit_without _ (List.Subset.refl _)) rfl)
  exact .ite (posted.trans (t.apart_signal ..)) posted

theorem State.apart_takeEntry (q : Nat) (x : Sq) : s.Apart f (s.takeEntry f q x).2 := by
  unfold State.takeEntry
  split
  extract_lets t
  have counted : t.Apart f (t.inc Reg.qenCmdFetchCnt) := .of_without (t.inc_without _ _ (List.Subset.refl _)) rfl
  exact (s.apart_updSq ..).trans (counted.trans (State.apart_kickAll ..))

theorem State.apart_badDoorbell (info : Nat) : s.Apart f (s.badDoorbell f info) := by
  unfold State.badDoorbell
  extract_lets t
  have counted : s.Apart f t :=
    .trans (t := s.countErr .qen Reg.qenDbInvalidCnt 0xFFFF f) (.of_without (s.countErr_without _ _ _ _ _ (List.Subset.refl _)) rfl)
      (.of_without (State.raise_without _ _ _ (List.Subset.refl _)) rfl)
  refine .ite counted (counted.trans (.trans (t.apart_updFn f fun x => { x with masked := info :: x.masked }) ?_))
  exact .of_without (State.asyncEvent_without _ _ _ _ _ (List.Subset.refl _)) rfl

theorem State.apart_l0pWiden : s.Apart f s.l0pWiden := .of_without (s.l0pWiden_without (List.Subset.refl _)) rfl

theorem State.apart_sqDoorbell (q v : Nat) : s.Apart f (s.sqDoorbell f q v) := by
  unfold State.sqDoorbell
  split
  · exact s.apart_badDoorbell ..
  · refine .ite (s.apart_badDoorbell ..) ?_
    extract_lets n t0 t
    have rung : t0.Apart f t := .ite (.of_without (t0.ring_without _ (List.Subset.refl _)) rfl) .refl
    exact (s.apart_updSq ..).trans (rung.trans ((t.apart_l0pWiden f).trans (State.apart_kickAll ..)))

theorem State.apart_cqDoorbell (q v : Nat) : s.Apart f (s.cqDoorbell f q v) := by
  unfold State.cqDoorbell
  split
  · exact s.apart_badDoorbell ..
  · exact .ite (s.apart_badDoorbell ..) ((s.apart_updCq ..).trans (State.apart_l0pWiden ..))

theorem State.apart_uncLog (bit : Nat) : s.Apart f (s.uncLog f bit).1 := by
  unfold State.uncLog
  extract_lets x u
  split
  · exact s.apart_updFn ..
  · split
    · exact (s.apart_updFn f _).trans (.of_without (State.aerLost_without _ _ (List.Subset.refl _)) rfl)
    · exact s.apart_updFn ..

theorem State.apart_aerUnc (bit : Nat) : s.Apart f (s.aerUnc f bit) := by
  unfold State.aerUnc
  refine .ite (.of_without (s.aerLost_without _ (List.Subset.refl _)) rfl) ?_
  have logged := s.apart_uncLog f bit
  exact .ite (logged.trans (.of_without (State.uncMessage_without _ _ _ (List.Subset.refl _)) rfl)) logged

theorem State.apart_unsupported (there : s.fnExists f = true) : s.Apart f (s.unsupported f true) := by
  have counted : s.Apart f (s.countErr .hpt Reg.hptUrCnt 0xFFFF f) :=
    .of_without (s.countErr_without _ _ _ _ _ (List.Subset.refl _)) rfl
  unfold State.unsupported
  simp only [if_pos there, ↓reduceIte]
  exact .ite counted (counted.trans (State.apart_aerUnc ..))

theorem State.apart_bar0Write {h : State → State} (there : s.fnExists f = true) (each : s.Apart f (h s)) :
    s.Apart f (s.bar0Write f h) :=
  .ite each (s.apart_unsupported f there)

/-! ## Fetched commands -/

theorem State.apart_fetchCmd (q : Sqe) (admin : Bool) {h : Cmd → State → State} (each : ∀ c (t : State), t.Apart q.id.fn (h c t)) :
    s.Apart q.id.fn (s.fetchCmd q admin h) := by
  unfold State.fetchCmd
  split
  case h_2 => exact .refl
  case h_1 x _ =>
    have taken := s.apart_takeEntry q.id.fn q.id.qid x
    generalize s.takeEntry q.id.fn q.id.qid x = entry at taken
    obtain ⟨start, t⟩ := entry
    refine .ite (taken.trans (.ite ?_ ?_)) .refl
    · extract_lets k
      split
      · exact t.apart_writeCqe ..
      · exact .refl
    · extract_lets c u
      have added : t.Apart q.id.fn u := .of_fns rfl
      exact .ite (added.trans (u.apart_finish ..)) (added.trans (each c u))

theorem State.apart_adminCmd (q : Sqe) (pf0 : Bool) {h : State → State} (each : ∀ t : State, t.Apart q.id.fn (h t)) :
    s.Apart q.id.fn (s.adminCmd q pf0 h) :=
  .ite (s.apart_fetchCmd { q with psdt := 0, fuse := 0 } true fun _ t => t.apart_finish ..) (s.apart_fetchCmd q true fun _ => each)

theorem State.apart_ioGate (q : Sqe) (i : Instr) (again : Bool) {h : State → State} (each : ∀ t : State, t.Apart q.id.fn (h t)) :
    s.Apart q.id.fn (s.ioGate q i again h) := by
  unfold State.ioGate
  refine .ite (s.apart_finish ..) (.ite (.of_fns rfl) (.ite (.of_fns rfl) (.ite ?_ (each s))))
  exact .of_without (W := [.wrp, .evc, .regs 8, .regs 15]) (.trans (State.showJournal_without _ (by decide)) rfl) rfl

theorem State.apart_ioCmd (q : Sqe) (i : Instr) {h : State → State} (each : ∀ t : State, t.Apart q.id.fn (h t)) :
    s.Apart q.id.fn (s.ioCmd q i h) :=
  s.apart_fetchCmd q false fun _ t =>
    .trans (t := t.updCmd q.id fun x => { x with lists := (q.list + 4095) / 4096 }) (.of_fns rfl) (State.apart_ioGate _ q i false each)

theorem State.apart_internalDone (e : Intern) (admin : e.kind = .admin) : s.Apart f (s.internDone e) := by
  have sent (t : State) (o : Out) : t.Apart f (match o with
      | .tlp p => t.issueNp p.fn (.internal e.kind e.cmd) p.off p.len 0
      | o => t.emit o) := by
    split
    · exact .of_without (t.issueNp_without _ _ _ _ _ (List.Subset.refl _)) rfl
    · exact .of_fns rfl
  unfold State.internDone
  refine .ite (.ite (State.apart_foldl sent _ s) (.of_fns rfl)) ?_
  extract_lets t
  have told : s.Apart f t := State.apart_foldl (fun u o => u.apart_toHost f o) _ s
  rw [admin]
  exact told

theorem State.apart_internal (e : Intern) (admin : e.kind = .admin) : s.Apart f (s.internal e) :=
  .ite (s.apart_internalDone f e admin) (.of_fns rfl)

theorem State.apart_adminData (q : Sqe) (deliver : Bool) (len : Nat) (outs : List Out) : s.Apart f (s.adminData q deliver len outs) := by
  unfold State.adminData
  refine .ite .refl (.ite (s.apart_internal f _ rfl) ?_)
  exact State.apart_foldl (fun t p => t.apart_internal f _ rfl) _ s

theorem State.apart_flushCmd (q : Sqe) : s.Apart q.id.fn (s.flushCmd q) :=
  s.apart_fetchCmd q false fun _ t => .ite (t.apart_finish ..) (t.apart_finish ..)

theorem State.apart_createSq (q : Sqe) : s.Apart q.id.fn (s.createSq q) :=
  s.apart_fetchCmd q true fun _ t =>
    .ite (t.apart_finish ..) (.ite (t.apart_finish ..) (.ite (t.apart_finish ..) (.ite (t.apart_finish ..)
      ((t.apart_updFn ..).trans ((State.apart_finish ..).trans (.of_without (State.showQueues_without _ (List.Subset.refl _)) rfl))))))

theorem State.apart_createCq (q : Sqe) : s.Apart q.id.fn (s.createCq q) :=
  s.apart_fetchCmd q true fun _ t =>
    .ite (t.apart_finish ..) (.ite (t.apart_finish ..) (.ite (t.apart_finish ..) (.ite (t.apart_finish ..)
      ((t.apart_updFn ..).trans (State.apart_finish ..)))))

theorem State.apart_deleteCq (q : Sqe) : s.Apart q.id.fn (s.deleteCq q) :=
  s.apart_fetchCmd q true fun _ t =>
    .ite (t.apart_finish ..) (.ite (t.apart_finish ..) ((t.apart_updFn ..).trans (State.apart_finish ..)))

theorem State.apart_getFeature (q : Sqe) : s.Apart q.id.fn (s.getFeature q) :=
  s.apart_adminCmd q false fun t =>
    .ite (t.apart_finish ..) (.ite (t.apart_finish ..) (.ite (t.apart_finish ..)
      (.ite (.ite (t.apart_finish ..) (t.apart_finish ..))
        (.ite ((t.apart_adminData ..).trans (State.apart_finish ..)) (t.apart_finish ..)))))

theorem State.apart_setFeature (q : Sqe) (data : BitVec 64) : s.Apart q.id.fn (s.setFeature q data) :=
  s.apart_adminCmd q false fun t => by
    have stored (u : State) (h : Fn → Fn) (dw0 : Word) : u.Apart q.id.fn ((u.updFn q.id.fn h).finish q.id 0 dw0) :=
      (u.apart_updFn ..).trans (State.apart_finish ..)
    exact .ite (t.apart_finish ..) (.ite (t.apart_finish ..) (.ite (t.apart_finish ..)
      (.ite (.ite (t.apart_finish ..) (stored ..)) (.ite (stored ..) (.ite (stored ..)
        (.ite ((t.apart_adminData ..).trans (stored ..)) (stored ..)))))))

theorem State.apart_contractQuery (q : Sqe) : s.Apart q.id.fn (s.contractQuery q) :=
  s.apart_adminCmd q false fun t => .ite (t.apart_finish ..) ((t.apart_adminData ..).trans (State.apart_finish ..))

theorem State.apart_meterRead (q : Sqe) : s.Apart q.id.fn (s.meterRead q) :=
  s.apart_adminCmd q false fun t => .ite (t.apart_finish ..) ((t.apart_adminData ..).trans (State.apart_finish ..))
end

/-! ## The claim -/

theorem State.Apart.whenLive {f : Nat} {s : State} {h : State → State} (each : s.Apart f (h s)) : s.Apart f (s.whenLive h) :=
  .ite each .refl

/-- Each of the fetched commands writes the function of its own entry alone. -/
theorem apart_of_exec {s t : State} {c : Instr} {x : Sqe} {b : Bool} {l : List (Nat × Nat)} {d : BitVec 64}
    (mem : c ∈ [Instr.flush x, .write x, .read x, .compare x b, .writeZeroes x, .datasetManagement x l, .verify x, .copy x l,
      .createIoSq x, .createIoCq x, .deleteIoCq x, .getFeatures x, .setFeatures x d, .contractQuery x, .meterRead x])
    (step : exec c s = .next t) : s.Apart x.id.fn t := by
  have read (q : Sqe) (data equal : Bool) (u : State) : u.Apart q.id.fn (u.serveRead q data equal) :=
    .of_without (u.serveRead_without _ _ _ (List.Subset.refl _)) rfl
  simp only [List.mem_cons, List.not_mem_nil, or_false] at mem
  rcases mem with rfl | rfl | rfl | rfl | rfl | rfl | rfl | rfl | rfl | rfl | rfl | rfl | rfl | rfl | rfl <;> cases step
  · exact .whenLive (s.apart_flushCmd (x.as 0x00))
  · exact .whenLive (s.apart_ioCmd (x.as 0x01) _ fun u => .of_without (u.serveWrite_without _ (List.Subset.refl _)) rfl)
  · exact .whenLive (s.apart_ioCmd (x.as 0x02) _ (read (x.as 0x02) _ _))
  · exact .whenLive (s.apart_ioCmd (x.as 0x05) _ (read (x.as 0x05) _ _))
  · exact .whenLive (s.apart_ioCmd (x.as 0x08) _ fun u => .of_without (u.serveZeroes_without _ (List.Subset.refl _)) rfl)
  · exact .whenLive (s.apart_ioCmd (x.as 0x09) _ fun u => .of_without (u.serveDsm_without _ _ (List.Subset.refl _)) rfl)
  · exact .whenLive (s.apart_ioCmd (x.as 0x0C) _ (read (x.as 0x0C) _ _))
  · exact .whenLive (s.apart_ioCmd (x.as 0x19) _ fun u => .of_without (u.serveCopy_without _ _ (List.Subset.refl _)) rfl)
  · exact .whenLive (s.apart_createSq (x.as 0x01))
  · exact .whenLive (s.apart_createCq (x.as 0x05))
  · exact .whenLive (s.apart_deleteCq (x.as 0x04))
  · exact .whenLive (s.apart_getFeature (x.as 0x0A))
  · exact .whenLive (s.apart_setFeature (x.as 0x09) _)
  · exact .whenLive (s.apart_contractQuery (x.as 0xC2))
  · exact .whenLive (s.apart_meterRead (x.as 0xC6))

/-- Settles O50. -/
theorem functionIsolation : Obligations.FunctionIsolation := by
  refine ⟨fun s t f g q v there ne doorbell => ?_, fun s t c x b l d g mem ne step => (apart_of_exec mem step).fn g ne⟩
  rcases doorbell with step | step <;> cases step
  · exact (State.Apart.whenLive (s.apart_bar0Write f there (s.apart_sqDoorbell f q v))).fn g ne
  · exact (State.Apart.whenLive (s.apart_bar0Write f there (s.apart_cqDoorbell f q v))).fn g ne
end Sys2Proof.Machine
end

section
/-! SUPPORT. The registers that a command may change (O59, O60): those named for it, and those that a report changes. -/
namespace Sys2Proof.Machine

/-- Every register outside a list, but for those that a report changes, is in a state as it is in another. -/
structure State.RegsBut (L : List Nat) (s t : State) : Prop where
  reg : ∀ r, r ∉ L → logReg r = false → t.reg r = s.reg r

/-- A part that holds no register but the Event Controller's, which a report may change. -/
def Part.reportsOnly : Part → Bool
  | .regs page => page == 15
  | _ => true

theorem page_ne_of_logReg {r : Nat} (h : logReg r = false) : r / 0x100000 ≠ 15 := by
  simp only [logReg, Bool.or_eq_false_iff, beq_eq_false_iff_ne] at h
  omega

section
variable {L : List Nat} {s t u : State}

theorem State.RegsBut.refl : s.RegsBut L s := ⟨fun _ _ _ => rfl⟩

theorem State.RegsBut.trans (h : s.RegsBut L t) (k : t.RegsBut L u) : s.RegsBut L u :=
  ⟨fun r mem log => (k.reg r mem log).trans (h.reg r mem log)⟩

theorem State.RegsBut.of_regs (h : t.regs = s.regs) : s.RegsBut L t := ⟨fun r _ _ => congrArg (Tab.get · r) h⟩

/-- A step whose law lists no register but the Event Controller's keeps every other. -/
theorem State.RegsBut.of_law {W : List Part} (law : t.without W = s.without W) (reports : W.all Part.reportsOnly = true) :
    s.RegsBut L t where
  reg r _ log := reg_of_without law fun mem => by
    have page := List.all_eq_true.1 reports _ mem
    exact page_ne_of_logReg log (by simpa [Part.reportsOnly] using page)

theorem State.RegsBut.law {W : List Part} (h : s.RegsBut L t) (law : u.without W = t.without W)
    (reports : W.all Part.reportsOnly = true) : s.RegsBut L u :=
  h.trans (.of_law law reports)

theorem State.RegsBut.ite {p : Prop} [Decidable p] (h : s.RegsBut L t) (k : s.RegsBut L u) :
    s.RegsBut L (if p then t else u) := by
  split
  · exact h
  · exact k

theorem State.RegsBut.updFn (h : s.RegsBut L t) {f : Nat} {g : Fn → Fn} : s.RegsBut L (t.updFn f g) := h.trans (.of_regs rfl)
theorem State.RegsBut.emit (h : s.RegsBut L t) {o : Out} : s.RegsBut L (t.emit o) := h.trans (.of_regs rfl)

theorem State.RegsBut.when {c : Bool} {f : State → State} (h : s.RegsBut L t) (k : t.RegsBut L (f t)) :
    s.RegsBut L (t.when c f) :=
  .ite (h.trans k) h

theorem State.regsBut_foldl {α : Type} {f : State → α → State} (each : ∀ (s : State) a, s.RegsBut L (f s a)) (l : List α)
    (s : State) : s.RegsBut L (l.foldl f s) := by
  induction l generalizing s with
  | nil => exact .refl
  | cons a l ih => exact (each s a).trans (ih (f s a))

/-! ## Writes to the named registers -/

section
variable (h : s.RegsBut L t) {off : Nat} (mem : off ∈ L)
include h mem

theorem State.RegsBut.setReg {v : Word} : s.RegsBut L (t.setReg off v) :=
  h.trans ⟨fun r not _ => by rw [State.reg_setReg, if_neg (by rintro rfl; exact not mem)]⟩

theorem State.RegsBut.setField {lo w v : Nat} : s.RegsBut L (t.setField off lo w v) := h.setReg mem
theorem State.RegsBut.setBit {i : Nat} {b : Bool} : s.RegsBut L (t.setBit off i b) := h.setReg mem
theorem State.RegsBut.setNum {v : Nat} : s.RegsBut L (t.setNum off v) := h.setReg mem
theorem State.RegsBut.setInt {v : Int} : s.RegsBut L (t.setInt off v) := h.setReg mem
theorem State.RegsBut.inc {n : Nat} : s.RegsBut L (t.inc off n) := h.setReg mem

theorem State.RegsBut.raise {i : Nat} : s.RegsBut L (t.raise off i) :=
  h.trans ⟨fun r not log => t.reg_raise_ne off i r (page_ne_of_logReg log) (by rintro rfl; exact not mem)⟩

theorem State.RegsBut.countErr {b : Block} {inst fn : Nat} {detail : List Word} :
    s.RegsBut L (t.countErr b off inst fn detail) :=
  h.trans ⟨fun r not log => t.reg_countErr_ne b off inst fn detail r log (by rintro rfl; exact not mem)⟩

theorem State.RegsBut.raiseLog {b : Block} {i inst fn : Nat} : s.RegsBut L (t.raiseLog b off i inst fn) :=
  h.trans ⟨fun r not log => t.reg_raiseLog_ne b off i inst fn r log (by rintro rfl; exact not mem)⟩
end

theorem State.RegsBut.logAt (h : s.RegsBut L t) {b : Block} {code inst fn : Nat} {detail : List Word} :
    s.RegsBut L (t.logAt b code inst fn detail) :=
  h.trans ⟨fun r _ log => t.reg_logAt b code inst fn detail r log⟩

/-- A register that a report changes may be written as well. -/
theorem State.RegsBut.setReported (h : s.RegsBut L t) {off : Nat} {v : Word} (report : logReg off = true) :
    s.RegsBut L (t.setReg off v) :=
  h.trans ⟨fun r _ log => by
    rw [State.reg_setReg, if_neg]
    rintro rfl
    simp [report] at log⟩

theorem State.RegsBut.countReported (h : s.RegsBut L t) {b : Block} {off inst fn : Nat} {detail : List Word}
    (report : logReg off = true) : s.RegsBut L (t.countErr b off inst fn detail) :=
  .logAt (h.setReported report)

theorem State.RegsBut.raiseReported (h : s.RegsBut L t) {ev i : Nat} (report : logReg ev = true) :
    s.RegsBut L (t.raise ev i) :=
  h.trans ⟨fun r _ log => t.reg_raise_ne ev i r (page_ne_of_logReg log) (by rintro rfl; simp [report] at log)⟩
end

/-! ## Guards -/

theorem State.regsBut_accessFault (L : List Nat) (s : State) (core addr : Nat) : s.RegsBut L (s.accessFault core addr) := by
  unfold State.accessFault
  extract_lets t0 t
  have shown : s.RegsBut L t := by
    refine .law (.of_law (W := [.regs 15]) (t := t0) ?_ rfl) (t0.raiseFault_without _ _ (List.Subset.refl _)) rfl
    exact (State.setNum_without _ _ _ (by simp [page_evcCoreFaultAddr])).trans (State.setField_without _ _ _ _ _ (by simp [page_evcCoreFault]))
  exact shown.countReported (by decide)

section
variable {c : Instr} {L : List Nat} {f : State → State}

theorem WritesRegs.next (h : ∀ s, exec c s = .next (f s)) (hf : ∀ s : State, s.RegsBut L (f s)) : WritesRegs c L := by
  intro s t off step mem log
  rw [h] at step
  cases step
  exact (hf s).reg off mem log

theorem WritesRegs.live (h : ∀ s, exec c s = .next (s.whenLive f)) (hf : ∀ s : State, s.RegsBut L (f s)) : WritesRegs c L :=
  .next h fun s => .ite (hf s) .refl

theorem WritesRegs.byCore {by_ : Requester} {off : Nat} (h : ∀ s, exec c s = .next (s.byCore by_ off f))
    (hf : ∀ s : State, s.RegsBut L (f s)) : WritesRegs c L :=
  .next h fun s => by
    unfold State.byCore
    split
    · exact .refl
    · refine .ite ?_ .refl
      split
      · exact hf s
      · exact s.regsBut_accessFault ..

theorem WritesRegs.ownCore {by_ : Requester} {core off : Nat} {read : Bool}
    (h : ∀ s, exec c s = .next (s.ownCore by_ core off read f)) (hf : ∀ s : State, s.RegsBut L (f s)) : WritesRegs c L :=
  .next h fun s => by
    unfold State.ownCore
    refine .ite (.ite (hf s) .refl) ?_
    extract_lets t
    have refused : s.RegsBut L t := by
      refine .ite ?_ .refl
      split
      · exact .ite (s.regsBut_accessFault ..) .refl
      · exact .refl
    exact .ite (refused.trans (.ite (.of_regs rfl) .refl)) refused

theorem WritesRegs.miServed (h : ∀ s, exec c s = .next (s.miServed f)) (hf : ∀ s : State, s.RegsBut L (f s)) : WritesRegs c L :=
  .next h fun s => .ite (hf s) .refl

/-- A command whose footprint holds no register but the Event Controller's. -/
theorem WritesRegs.of_footprint (keeps : rebuilds c = false) (reports : (footprint c).all Part.reportsOnly = true) : WritesRegs c L :=
  fun s t off step mem log => (State.RegsBut.of_law (writes_footprint c keeps s t step) reports).reg off mem log
end

/-! ## Operations that several commands share -/

section
variable {L : List Nat} (s : State)

theorem State.regsBut_setFtbState (st : Nat) (status : Reg.ftbStatus ∈ L) (event : Reg.ftbEvent ∈ L) :
    s.RegsBut L (s.setFtbState st) :=
  .ite .refl (.raise (.setField .refl status) event)

theorem State.regsBut_settleFtb (status : Reg.ftbStatus ∈ L) (event : Reg.ftbEvent ∈ L) : s.RegsBut L s.settleFtb := by
  unfold State.settleFtb
  extract_lets next
  exact (s.regsBut_setFtbState next status event).setBit status

theorem State.regsBut_setHostLink (speed width : Nat) (status : Reg.hptStatus ∈ L) : s.RegsBut L (s.setHostLink speed width) :=
  .setField (.setField (.setField .refl status) status) status

theorem State.regsBut_linkBusy (status : Reg.hptStatus ∈ L) : s.RegsBut L s.linkBusy := by
  unfold State.linkBusy
  extract_lets t
  have left : s.RegsBut L t := .ite (.law (.setField (.setBit .refl status) status) (State.emit_without _ _ (List.Subset.refl _)) rfl) .refl
  exact left.trans (.of_regs rfl)

theorem State.regsBut_toHost (o : Out) (status : Reg.hptStatus ∈ L) : s.RegsBut L (s.toHost o) :=
  (s.regsBut_linkBusy status).trans (.of_regs rfl)

theorem State.regsBut_msix (f vec : Nat) (masked : Reg.hiuMaskedCnt ∈ L) (sent : Reg.hiuMsgCnt ∈ L) (status : Reg.hptStatus ∈ L) :
    s.RegsBut L (s.msix f vec) :=
  .ite .refl (.ite (.inc (.updFn .refl) masked) (.ite (.updFn .refl) (.trans (.inc .refl sent) (State.regsBut_toHost _ _ status))))

theorem State.regsBut_aerLost (f : Nat) (lost : Reg.hptAerLost ∈ L) (event : Reg.hptEvent ∈ L) : s.RegsBut L (s.aerLost f) :=
  .raise (.countErr .refl lost) event

theorem State.regsBut_uncLog (f bit : Nat) (lost : Reg.hptAerLost ∈ L) (event : Reg.hptEvent ∈ L) : s.RegsBut L (s.uncLog f bit).1 := by
  unfold State.uncLog
  extract_lets x u
  split
  · exact .of_regs rfl
  · split
    · exact .trans (.updFn .refl) (State.regsBut_aerLost _ f lost event)
    · exact .updFn .refl

theorem State.regsBut_aerUnc (f bit : Nat) (lost : Reg.hptAerLost ∈ L) (event : Reg.hptEvent ∈ L) : s.RegsBut L (s.aerUnc f bit) :=
  .ite (s.regsBut_aerLost f lost event)
    (.ite ((s.regsBut_uncLog f bit lost event).law (State.uncMessage_without _ _ _ (List.Subset.refl _)) rfl)
      (s.regsBut_uncLog f bit lost event))

theorem State.regsBut_aerAdvisory (f bit : Nat) (lost : Reg.hptAerLost ∈ L) (event : Reg.hptEvent ∈ L) :
    s.RegsBut L (s.aerAdvisory f bit) := by
  have logged := s.regsBut_uncLog f bit lost event
  exact .ite ((s.regsBut_aerLost f lost event).trans (.of_regs rfl))
    (.ite (logged.trans (.of_regs rfl)) (logged.trans (.of_regs rfl)))

theorem State.regsBut_unsupported (f : Nat) (posted : Bool) (lost : Reg.hptAerLost ∈ L) (event : Reg.hptEvent ∈ L)
    (unsupported : Reg.hptUrCnt ∈ L) : s.RegsBut L (s.unsupported f posted) := by
  unfold State.unsupported
  extract_lets g u t
  have counted : s.RegsBut L u := .countErr .refl unsupported
  have told : s.RegsBut L t :=
    .ite counted (.ite (counted.trans (u.regsBut_aerUnc g 20 lost event)) (counted.trans (u.regsBut_aerAdvisory g 20 lost event)))
  exact .ite told (told.trans (.of_regs rfl))

theorem State.regsBut_bar0Write (fn : Nat) {f : State → State} (each : s.RegsBut L (f s)) (lost : Reg.hptAerLost ∈ L)
    (event : Reg.hptEvent ∈ L) (unsupported : Reg.hptUrCnt ∈ L) : s.RegsBut L (s.bar0Write fn f) :=
  .ite each (s.regsBut_unsupported fn true lost event unsupported)

theorem State.regsBut_mediaOff (status : Reg.sppStatus ∈ L) : s.RegsBut L s.mediaOff := by
  unfold State.mediaOff
  extract_lets t mch
  have pins : s.RegsBut L t := State.regsBut_foldl (fun u c => .emit .refl) _ s
  exact (pins.setBit status).law (W := [.mch, .out]) ((State.emit_without _ _ (by decide)).trans (without_mch _ _ (by decide))) rfl

theorem State.regsBut_readyToPull (status : Reg.sppStatus ∈ L) (event : Reg.sppEvent ∈ L) : s.RegsBut L s.readyToPull :=
  .trans (.raise (.setBit .refl status) event) (.of_regs rfl)

theorem State.regsBut_vfCtl (ok : Fn → Bool) {f : Nat → State → State} (each : ∀ vf (s : State), s.RegsBut L (f vf s))
    (event : Reg.fnmEvent ∈ L) : s.RegsBut L (s.vfCtl ok f) :=
  .ite (each _ s) (.raise .refl event)

theorem State.regsBut_domainReset (reg bit : Nat) (seen : reg ∈ L) : s.RegsBut L (s.domainReset reg bit) :=
  .raiseReported (.setBit .refl seen) (by decide)
end
end Sys2Proof.Machine
end

section
/-! SUPPORT. The registers of the commands of the timebase, images, media, host and queues (O59). -/
namespace Sys2Proof.Machine

section
variable {L : List Nat} (s : State)

theorem State.regsBut_frefLost : s.RegsBut [Reg.ftbEvent, Reg.ftbFrefLossCnt, Reg.ftbStatus] s.frefLost := by
  refine .ite (.trans ?_ (State.regsBut_settleFtb _ (by simp) (by simp))) .refl
  refine .countErr (.raise (.setBit ?_ (by simp)) (by simp)) (by simp)
  exact .of_regs (by rfl)

theorem State.regsBut_frefGood : s.RegsBut [Reg.ftbEvent, Reg.ftbStatus] s.frefGood := by
  refine .ite (.trans ?_ (State.regsBut_settleFtb _ (by simp) (by simp))) .refl
  refine .setBit ?_ (by simp)
  exact .of_regs (by rfl)

theorem State.regsBut_ppsLost : s.RegsBut [Reg.ftbEvent, Reg.ftbStatus] s.ppsLost := by
  refine .ite (.trans ?_ (State.regsBut_settleFtb _ (by simp) (by simp))) .refl
  refine .raise (.setBit (.setBit ?_ (by simp)) (by simp)) (by simp)
  exact .of_regs (by rfl)

theorem State.regsBut_fsyncEdge (offNs : Int) :
    s.RegsBut [Reg.ftbEvent, Reg.ftbFsyncOffset, Reg.ftbFsyncSlipCnt, Reg.ftbStatus] (s.fsyncEdge offNs) := by
  unfold State.fsyncEdge
  refine .ite ?_ .refl
  extract_lets ftb t0 t
  have seen : s.RegsBut [Reg.ftbEvent, Reg.ftbFsyncOffset, Reg.ftbFsyncSlipCnt, Reg.ftbStatus] t :=
    .setInt (.setBit (.of_regs (by rfl)) (by simp)) (by simp)
  exact .ite (.countErr (.raise seen (by simp)) (by simp)) seen

theorem State.regsBut_todSecWrite (hi : Bool) (v : Word) :
    s.RegsBut [Reg.ftbEvent, Reg.ftbTodSec, Reg.ftbTodSecHi] (s.todSecWrite hi v) :=
  .ite (.raise .refl (by simp)) (.ite (.setReg .refl (by simp)) (.setReg .refl (by simp)))

theorem State.regsBut_todArm : s.RegsBut [Reg.ftbTodCtl] s.todArm :=
  .ite .refl (.trans (.setBit (off := Reg.ftbTodCtl) (i := 0) (b := true) .refl (by simp)) (.of_regs (by rfl)))

theorem State.regsBut_dpllDisable : s.RegsBut [Reg.ftbCtl, Reg.ftbEvent, Reg.ftbFreqAdj, Reg.ftbStatus] s.dpllDisable := by
  unfold State.dpllDisable State.showClkSrc
  refine .setBit (.trans ?_ (State.regsBut_setFtbState _ 0 (by simp) (by simp))) (by simp)
  refine .setNum (.setBit (.setBit ?_ (by simp)) (by simp)) (by simp)
  exact .of_regs (by rfl)

theorem State.regsBut_frameCounterRead : s.RegsBut [Reg.ftbCell, Reg.ftbFrameHi] s.frameCounterRead :=
  .emit (.setNum (.setNum .refl (by simp)) (by simp))

theorem State.regsBut_discardStaged : s.RegsBut [Reg.prxStagedId, Reg.prxStatus] s.discardStaged :=
  .ite .refl (.setNum (.setBit (.of_regs (by rfl)) (by simp)) (by simp))

theorem State.regsBut_driftClear : s.RegsBut [Reg.prxStatus] s.driftClear := by
  unfold State.driftClear
  split
  · exact .refl
  · exact .ite (.setBit .refl (by simp)) .refl

theorem State.regsBut_dumpDone : s.RegsBut [Reg.wrpDumpStatus, Reg.wrpStatus] s.dumpDone := by
  unfold State.dumpDone
  refine .ite ?_ .refl
  extract_lets wrp marked t0 t
  have shown : s.RegsBut [Reg.wrpDumpStatus, Reg.wrpStatus] t := .setField (.setBit (.setBit (.of_regs (by rfl)) (by simp)) (by simp)) (by simp)
  exact shown.trans (State.regsBut_foldl (fun u c => .emit .refl) _ t)

theorem State.regsBut_gcFactorReview : s.RegsBut [Reg.mcrGcFactor] s.gcFactorReview := by
  unfold State.gcFactorReview
  split
  · exact .ite (.ite (.setNum (.of_regs (by rfl)) (by simp)) (.of_regs (by rfl))) .refl
  · exact .refl

theorem State.regsBut_scrubLate (lane : Nat) : s.RegsBut [Reg.mcrEvent, Reg.mcrStatus] (s.scrubLate lane) :=
  .ite (.raiseLog (.setBit (.of_regs (by rfl)) (by simp)) (by simp)) .refl

theorem State.regsBut_calibrate (lane group : Nat) (best : List Int) :
    s.RegsBut [Reg.mcrCalCnt, Reg.rdpMediaReadCnt] (s.calibrate lane group best) := by
  unfold State.calibrate
  split
  · exact .refl
  · refine .ite ?_ .refl
    extract_lets l n t
    have read : s.RegsBut [Reg.mcrCalCnt, Reg.rdpMediaReadCnt] t := .trans (.inc (off := Reg.rdpMediaReadCnt) (n := n) .refl (by simp)) (.of_regs (by rfl))
    have steps := read.trans (State.regsBut_foldl (fun u (_ : Nat) => .emit (o := .die lane 1) .refl) (List.range n) t)
    exact .law (W := [.mch]) (.inc (.trans steps (.of_regs (by rfl))) (by simp)) (State.disturbCheck_without _ _ _ (List.Subset.refl _)) rfl

theorem State.regsBut_forecast (slowPpm : Nat) : s.RegsBut [Reg.mcrEvent] (s.forecast slowPpm) := by
  unfold State.forecast
  extract_lets daily t0 mcr0 t1 mcr1 t2
  have points : s.RegsBut [Reg.mcrEvent] t0 :=
    State.regsBut_foldl (fun u l => .of_law (u.dailyPoint_without l (List.Subset.refl _)) rfl) _ s
  have noted : s.RegsBut [Reg.mcrEvent] t1 := .ite (points.law (without_mcr _ _ (List.mem_singleton_self _)) rfl) .refl
  have due : s.RegsBut [Reg.mcrEvent] t2 := noted.law (without_mcr _ _ (List.mem_singleton_self _)) rfl
  exact .ite .refl (.raise (due.law (without_mcr _ _ (List.mem_singleton_self _)) rfl) (by simp))

theorem State.regsBut_hostLinkUp (speed width : Nat) (flit rev : Bool) :
    s.RegsBut [Reg.hptContainStatus, Reg.hptEvent, Reg.hptStatus] (s.hostLinkUp speed width flit rev) :=
  .ite .refl (.raise (.setBit (.setBit (.setBit (.setBit (s.regsBut_setHostLink speed width (by simp)) (by simp)) (by simp)) (by simp)) (by simp)) (by simp))

theorem State.regsBut_aerCor (f bit : Nat) (lost : Reg.hptAerLost ∈ L) (event : Reg.hptEvent ∈ L) : s.RegsBut L (s.aerCor f bit) :=
  .ite (s.regsBut_aerLost f lost event) (.ite (.emit (.updFn .refl)) (.updFn .refl))

theorem State.regsBut_hostBadFlit : s.RegsBut [Reg.hptAerLost, Reg.hptBadTlpCnt, Reg.hptEvent] s.hostBadFlit :=
  .ite (.trans (.countErr .refl (by simp)) (State.regsBut_aerCor _ 0 6 (by simp) (by simp))) .refl

theorem State.regsBut_l1Enter (l1ss : Nat) : s.RegsBut [Reg.hptStatus] (s.l1Enter l1ss) :=
  .ite (.emit (.setField (.setBit .refl (by simp)) (by simp))) .refl

theorem State.regsBut_l1Exit : s.RegsBut [Reg.hptStatus] s.l1Exit := .ite (.emit (.setField (.setBit .refl (by simp)) (by simp))) .refl

theorem State.regsBut_l0pHost (width : Nat) : s.RegsBut [Reg.hptEvent, Reg.hptStatus] (s.l0pHost width) := by
  unfold State.l0pHost
  refine .ite ?_ .refl
  extract_lets hpt t
  have asked : s.RegsBut [Reg.hptEvent, Reg.hptStatus] t := .emit (.setField (.of_regs (by rfl)) (by simp))
  exact .ite asked (.raise asked (by simp))

theorem State.regsBut_invalidate (f base len : Nat) (tags : List Nat) : s.RegsBut [Reg.hptStatus] (s.invalidate f base len tags) :=
  (s.regsBut_linkBusy (by simp)).trans (.of_regs (by rfl))

theorem State.regsBut_invalDone (f : Nat) : s.RegsBut [Reg.hptAtsInvCnt, Reg.hptStatus] (s.invalDone f) := by
  unfold State.invalDone
  split
  · exact .ite .refl (.trans (.inc (.of_regs (by rfl)) (by simp)) (State.regsBut_toHost _ _ (by simp)))
  · exact .refl

theorem State.regsBut_doeReady (masked : Reg.hiuMaskedCnt ∈ L) (sent : Reg.hiuMsgCnt ∈ L) (status : Reg.hptStatus ∈ L) :
    s.RegsBut L s.doeReady := by
  unfold State.doeReady
  split
  · have irq (u : State) : u.RegsBut L u.doeIrq :=
      .ite (.trans (.updFn .refl) (State.regsBut_msix _ _ _ masked sent status)) .refl
    exact .trans (.emit (.of_regs (by rfl))) (irq _)
  · exact .refl

theorem State.regsBut_doeRequest (vendor type len : Nat) (sess : Option Nat) :
    s.RegsBut [Reg.hiuMaskedCnt, Reg.hiuMsgCnt, Reg.hptStatus] (s.doeRequest vendor type len sess) := by
  unfold State.doeRequest
  refine .ite .refl (.ite (.of_regs (by rfl)) ?_)
  extract_lets hpt t
  have rung : s.RegsBut [Reg.hiuMaskedCnt, Reg.hiuMsgCnt, Reg.hptStatus] t :=
    .law (.of_regs (by rfl)) (State.ring_without _ _ (List.Subset.refl _)) rfl
  exact .ite (rung.trans (.trans (.emit .refl) (State.regsBut_doeReady _ (by simp) (by simp) (by simp)))) rung

theorem State.regsBut_tagFree (tag : Nat) : s.RegsBut [Reg.hptNpOut, Reg.hptTagQuar] (s.tagFree tag) :=
  .setNum (.setNum (.of_regs (by rfl)) (by simp)) (by simp)

theorem State.regsBut_stopAttn : s.RegsBut [Reg.sppStatus] s.stopAttn := .setBit (.of_regs (by rfl)) (by simp)

theorem State.regsBut_showJournal (status : Reg.wrpStatus ∈ L) (event : Reg.wrpEvent ∈ L) : s.RegsBut L s.showJournal := by
  unfold State.showJournal
  extract_lets full
  exact .setBit (.when .refl (.raise .refl event)) status

theorem State.regsBut_cleanMark (status : Reg.wrpStatus ∈ L) (event : Reg.wrpEvent ∈ L) : s.RegsBut L s.cleanMark := by
  have journal : s.RegsBut L (s.journal 0 0 1 4) := .trans (.of_regs (by rfl)) (State.regsBut_showJournal _ status event)
  have written (t : State) (n : Nat) : t.RegsBut L (t.journalWritten n) :=
    .trans (.of_regs (by rfl)) (State.regsBut_showJournal _ status event)
  unfold State.cleanMark
  extract_lets t0 t wrp
  have saved : s.RegsBut L t0 := journal.law (State.saveDevice_without _ (List.Subset.refl _)) rfl
  exact (saved.trans (written t0 _)).law (without_wrp _ _ (List.mem_singleton_self _)) rfl

theorem State.regsBut_fallbackDone : s.RegsBut [Reg.sppEvent, Reg.sppStatus, Reg.wrpEvent, Reg.wrpStatus] s.fallbackDone := by
  unfold State.fallbackDone
  refine .ite ?_ .refl
  extract_lets t
  have ready : s.RegsBut [Reg.sppEvent, Reg.sppStatus, Reg.wrpEvent, Reg.wrpStatus] t :=
    .emit ((s.regsBut_cleanMark (by simp) (by simp)).trans (State.regsBut_readyToPull _ (by simp) (by simp)))
  exact .ite (ready.trans (t.regsBut_mediaOff (by simp))) ready

theorem State.regsBut_sqDrained (f q : Nat) : s.RegsBut [Reg.qenStatus] (s.sqDrained f q) := by
  unfold State.sqDrained
  split
  · split
    · refine .ite ?_ .refl
      unfold State.sqGone State.showQueues
      extract_lets n t
      have shown : s.RegsBut [Reg.qenStatus] t :=
        .setNum (.law (.updFn .refl) (State.finish_without _ _ _ _ _ (List.Subset.refl _)) rfl) (by simp)
      exact .ite (.emit shown) shown
    · exact .refl
  · exact .refl

theorem State.regsBut_ccEnable (f : Nat) : s.RegsBut L (s.ccEnable f) := .ite .refl (.ite (.updFn .refl) (.updFn .refl))

theorem State.regsBut_vfFlrDone (vf : Nat) : s.RegsBut [Reg.fnmEvent, Reg.fnmFlrCnt] (s.vfFlrDone vf) :=
  .ite (.raise (.inc (.updFn .refl) (by simp)) (by simp)) .refl

theorem State.regsBut_quiesce : s.RegsBut [Reg.fnmEvent] s.quiesce := s.regsBut_vfCtl _ (fun _ _ => .updFn .refl) (by simp)
theorem State.regsBut_freeze : s.RegsBut [Reg.fnmEvent] s.freeze := s.regsBut_vfCtl _ (fun _ _ => .updFn .refl) (by simp)

theorem State.regsBut_quiesced (vf : Nat) : s.RegsBut [Reg.fnmEvent, Reg.fnmQuiesceCnt] (s.quiesced vf) :=
  .ite (.raise (.inc (.updFn .refl) (by simp)) (by simp)) .refl

theorem State.regsBut_frozen (vf : Nat) : s.RegsBut [Reg.fnmEvent] (s.frozen vf) := .ite (.raise (.updFn .refl) (by simp)) .refl

theorem State.regsBut_holdoffExpiry (f : Nat) :
    s.RegsBut [Reg.hiuMaskedCnt, Reg.hiuMsgCnt, Reg.hptStatus] (s.holdoffExpiry f) := by
  unfold State.holdoffExpiry
  extract_lets x vs t
  have stopped : s.RegsBut [Reg.hiuMaskedCnt, Reg.hiuMsgCnt, Reg.hptStatus] t := .updFn .refl
  exact .ite (stopped.trans (State.regsBut_foldl (fun u v => u.regsBut_msix f v (by simp) (by simp) (by simp)) _ t)) .refl

theorem State.regsBut_msixDrain (f : Nat) : s.RegsBut [Reg.hiuMaskedCnt, Reg.hiuMsgCnt, Reg.hptStatus] (s.msixDrain f) :=
  .ite .refl (State.regsBut_foldl (fun u v => .trans (.updFn .refl) (State.regsBut_msix _ f v (by simp) (by simp) (by simp))) _ s)

theorem State.regsBut_msixUnmask (f : Nat) (vec : Option Nat) :
    s.RegsBut [Reg.hiuMaskedCnt, Reg.hiuMsgCnt, Reg.hptStatus] (s.msixUnmask f vec) := by
  cases vec with
  | some v => exact .trans (.updFn .refl) (State.regsBut_msixDrain _ f)
  | none => exact .trans (.updFn .refl) (State.regsBut_msixDrain _ f)

theorem State.regsBut_turnOffAck : s.RegsBut [Reg.sppEvent, Reg.sppStatus, Reg.wrpEvent, Reg.wrpStatus] s.turnOffAck := by
  unfold State.turnOffAck
  refine .ite ?_ .refl
  extract_lets t
  have ready : s.RegsBut [Reg.sppEvent, Reg.sppStatus, Reg.wrpEvent, Reg.wrpStatus] t :=
    .trans (.emit (.when .refl (s.regsBut_cleanMark (by simp) (by simp)))) (State.regsBut_readyToPull _ (by simp) (by simp))
  exact ready.trans (.of_regs (by rfl))

theorem State.regsBut_railsRemoved : s.RegsBut [Reg.aowQuietCnt, Reg.aowStatus, Reg.sppStatus] s.railsRemoved := by
  unfold State.railsRemoved
  refine .ite .refl (.ite ?_ (.of_regs (by rfl)))
  extract_lets t
  have latched : s.RegsBut [Reg.aowQuietCnt, Reg.aowStatus, Reg.sppStatus] s.latchWatch := .inc (.setBit (.of_regs (by rfl)) (by simp)) (by simp)
  refine .trans (latched.trans (State.regsBut_mediaOff _ (by simp))) ?_
  exact .of_regs (by rfl)

theorem State.regsBut_hostRecovery (speed width : Nat) :
    s.RegsBut [Reg.hptEvent, Reg.hptRecoveryCnt, Reg.hptStatus] (s.hostRecovery speed width) := by
  have counted : s.RegsBut [Reg.hptEvent, Reg.hptRecoveryCnt, Reg.hptStatus] (s.inc Reg.hptRecoveryCnt) := .inc .refl (by simp)
  exact .ite (.ite counted (.raise (counted.trans (State.regsBut_setHostLink _ speed width (by simp))) (by simp))) .refl

theorem State.regsBut_pfFlrDone : s.RegsBut [Reg.fnmEvent, Reg.fnmPfFlrCnt, Reg.fnmStatus] s.pfFlrDone :=
  .ite (.raise (.inc (.setBit (.updFn .refl) (by simp)) (by simp)) (by simp)) .refl
end

/-! ## The claim -/

/-- Settles O59: each command writes through operations whose registers are those named for it. -/
theorem registerFramesOfHostSide : Obligations.RegisterFramesOfHostSide := by
  have live {c : Instr} {L : List Nat} {f : State → State} := @WritesRegs.live c L f
  have quiet {c : Instr} {L : List Nat} := @WritesRegs.of_footprint c L
  unfold Obligations.RegisterFramesOfHostSide
  exact ⟨live (fun _ => rfl) State.regsBut_frefLost,
    live (fun _ => rfl) State.regsBut_frefGood,
    live (fun _ => rfl) State.regsBut_ppsLost,
    fun offNs => live (fun _ => rfl) (·.regsBut_fsyncEdge offNs),
    live (fun _ => rfl) fun s => .when .refl (.setBit .refl (by simp)),
    fun hi v => live (fun _ => rfl) (·.regsBut_todSecWrite hi v),
    live (fun _ => rfl) State.regsBut_todArm,
    live (fun _ => rfl) State.regsBut_dpllDisable,
    live (fun _ => rfl) State.regsBut_frameCounterRead,
    fun _ => quiet rfl rfl,
    fun _ => .byCore (fun _ => rfl) State.regsBut_discardStaged,
    quiet rfl rfl,
    fun _ _ _ _ => quiet rfl rfl,
    live (fun _ => rfl) State.regsBut_driftClear,
    fun _ v => .byCore (fun _ => rfl) fun s => .of_law (s.tokenTrim_without v (List.Subset.refl _)) rfl,
    fun _ _ => quiet rfl rfl,
    fun _ _ => quiet rfl rfl,
    .next (fun _ => rfl) State.regsBut_dumpDone,
    live (fun _ => rfl) State.regsBut_gcFactorReview,
    fun lane => live (fun _ => rfl) (·.regsBut_scrubLate lane),
    fun lane group best => live (fun _ => rfl) (·.regsBut_calibrate lane group best),
    fun slowPpm => live (fun _ => rfl) (·.regsBut_forecast slowPpm),
    fun speed width flit laneRev => live (fun _ => rfl) (·.regsBut_hostLinkUp speed width flit laneRev),
    live (fun _ => rfl) State.regsBut_hostBadFlit,
    fun l1ss => live (fun _ => rfl) (·.regsBut_l1Enter l1ss),
    live (fun _ => rfl) State.regsBut_l1Exit,
    fun width => live (fun _ => rfl) (·.regsBut_l0pHost width),
    quiet rfl rfl,
    fun fn base r => live (fun _ => rfl) (·.regsBut_invalidate fn base r.pages r.tags),
    fun fn => live (fun _ => rfl) (·.regsBut_invalDone fn),
    fun vendor o len => live (fun _ => rfl) (·.regsBut_doeRequest vendor o.type len o.session),
    quiet rfl rfl,
    fun tag => live (fun _ => rfl) (·.regsBut_tagFree tag),
    live (fun _ => rfl) State.regsBut_stopAttn,
    live (fun _ => rfl) State.regsBut_fallbackDone,
    fun fn qid => live (fun _ => rfl) (·.regsBut_sqDrained fn qid),
    fun fn => live (fun _ => rfl) fun s =>
      s.regsBut_bar0Write fn (s.regsBut_ccEnable fn) (by simp) (by simp) (by simp),
    fun vf => live (fun _ => rfl) (·.regsBut_vfFlrDone vf),
    live (fun _ => rfl) State.regsBut_quiesce,
    fun vf => live (fun _ => rfl) (·.regsBut_quiesced vf),
    live (fun _ => rfl) State.regsBut_freeze,
    fun vf => live (fun _ => rfl) (·.regsBut_frozen vf),
    fun fn => live (fun _ => rfl) (·.regsBut_holdoffExpiry fn),
    fun fn vec => live (fun _ => rfl) (·.regsBut_msixUnmask fn vec),
    live (fun _ => rfl) State.regsBut_turnOffAck,
    .next (fun _ => rfl) State.regsBut_railsRemoved,
    fun speed width => live (fun _ => rfl) (·.regsBut_hostRecovery speed width),
    live (fun _ => rfl) State.regsBut_pfFlrDone,
    fun _ => quiet rfl rfl⟩
end Sys2Proof.Machine
end

section
/-! SUPPORT. The registers of the commands of security, the pair, control, the Local Port, telemetry and power (O60). -/
namespace Sys2Proof.Machine

section
variable {L : List Nat} (s : State)

theorem State.regsBut_authFailed : s.RegsBut [Reg.secAuthFailCnt, Reg.secEvent] s.authFailed :=
  .raise (.countErr (.of_regs (by rfl)) (by simp)) (by simp)

theorem State.regsBut_sessionExpiry (id : Nat) : s.RegsBut [Reg.secEvent, Reg.secStatus] (s.sessionExpiry id) := by
  have dropped : s.RegsBut [Reg.secEvent, Reg.secStatus] (s.dropSessions (·.id == id)) := by
    unfold State.dropSessions
    extract_lets sec t
    have less : s.RegsBut [Reg.secEvent, Reg.secStatus] t := .of_regs rfl
    exact .ite (.raise (.setField less (by simp)) (by simp)) less
  exact .ite (.raise dropped (by simp)) .refl

theorem State.regsBut_archCons (v : Word) : s.RegsBut [Reg.mtrArchConsHi] (s.archCons v) := by
  unfold State.archCons
  extract_lets x t idx
  have stored : s.RegsBut [Reg.mtrArchConsHi] t := .setReg .refl (by simp)
  clear_value idx
  split <;> exact stored.law (without_mtr _ _ (List.mem_singleton_self _)) rfl

theorem State.regsBut_speedRetrain : s.RegsBut [Reg.mlkRetrainCnt] s.speedRetrain := .ite (.inc (.of_regs (by rfl)) (by simp)) .refl

theorem State.regsBut_linkReset : s.RegsBut [Reg.mlkResetCnt, Reg.pwrDomainSeen] s.linkReset := by
  refine .ite (.trans (.inc ?_ (by simp)) (State.regsBut_domainReset _ _ 9 (by simp))) .refl
  exact .of_regs (by rfl)

theorem State.regsBut_ringWrite (by_ : Requester) (n : Nat) : s.RegsBut L (s.ringWrite by_ n) := by
  unfold State.ringWrite
  extract_lets may
  exact .ite (.of_law (s.ring_without n (List.Subset.refl _)) rfl) (.countReported .refl (by decide))

theorem State.regsBut_complete (core src : Nat) : s.RegsBut L (s.complete core src) := by
  unfold State.complete
  refine .ite .refl (.ite (.of_law (s.popTop_without core (List.Subset.refl _)) rfl) ?_)
  extract_lets evc t
  have frozen : s.RegsBut L t := .of_regs rfl
  exact .countReported (frozen.law (t.raiseFault_without core 1 (List.Subset.refl _)) rfl) (by decide)

theorem State.regsBut_levelChange (src : Nat) (high : Bool) : s.RegsBut [Reg.sppStatus] (s.levelChange src high) := by
  unfold State.levelChange
  refine .ite (.trans (.of_regs (t := { s with evc := { s.evc with pins := s.evc.pins.set src high } }) rfl) (.ite ?_ .refl)) .refl
  refine .when (.law .refl (State.relevel_without _ src (List.Subset.refl _)) rfl) (.setBit .refl (by simp))

theorem State.regsBut_watchdogSecond (core : Nat) : s.RegsBut [Reg.pwrDomainSeen] (s.watchdogSecond core) := by
  unfold State.watchdogSecond
  refine .ite ?_ .refl
  extract_lets t
  have reset : s.RegsBut [Reg.pwrDomainSeen] t := by
    refine .trans (.countReported ?_ (by decide)) (State.regsBut_domainReset _ _ core (by simp))
    exact .of_law (s.startWatchdog_without core false (List.Subset.refl _)) rfl
  exact .ite (reset.law (without_hpt _ _ (List.mem_singleton_self _)) rfl) reset

theorem State.regsBut_driveWake (status : Reg.aowStatus ∈ L) : s.RegsBut L s.driveWake :=
  .ite (.emit (.setBit .refl status)) .refl

theorem State.regsBut_wake (wakeBits pinBits : Word) :
    s.RegsBut [Reg.aowPinCause, Reg.aowStatus, Reg.aowWakeCause] (s.wake wakeBits pinBits) :=
  .ite (.ite .refl (.trans (.setReg (.setReg .refl (by simp)) (by simp)) (State.regsBut_driveWake _ (by simp)))) .refl

theorem State.regsBut_alarm : s.RegsBut [Reg.aowStatus, Reg.aowWakeCause] s.alarm :=
  .ite (.trans (.setBit .refl (by simp)) (State.regsBut_driveWake _ (by simp))) .refl

theorem State.regsBut_winCommit : s.RegsBut [Reg.lpbCommitStatus, Reg.lpbEvent] s.winCommit := by
  unfold State.winCommit
  refine .ite .refl ?_
  split
  · exact .raise (.setNum .refl (by simp)) (by simp)
  · exact .setNum (.of_regs (by rfl)) (by simp)

theorem State.regsBut_byService (by_ : Requester) {f : State → State} (each : ∀ s : State, s.RegsBut L (f s)) :
    s.RegsBut L (s.byService by_ f) := by
  unfold State.byService
  split
  · exact .ite (each s) .refl
  · exact .ite (each s) .refl
  · exact .refl

theorem State.regsBut_busRequest : s.RegsBut [Reg.lpbArbRetryCnt] s.busRequest :=
  .ite .refl (.ite (.inc (.of_regs (by rfl)) (by simp)) (.emit (.of_regs (by rfl))))

theorem State.regsBut_upStale (addr : Nat) : s.RegsBut [Reg.lpbUpStaleCnt] (s.upStale addr) := by
  unfold State.upStale
  extract_lets old lpb
  exact .ite (.countErr (.of_regs (by rfl)) (by simp)) .refl

theorem State.regsBut_sampleDue (entry : Nat) : s.RegsBut [Reg.tlnSkipCnt] (s.sampleDue entry) := by
  unfold State.sampleDue
  extract_lets c tln t
  have busy : s.RegsBut [Reg.tlnSkipCnt] t := .of_regs rfl
  exact .ite (.ite (.inc .refl (by simp)) (.ite (.emit busy) busy)) .refl

theorem State.regsBut_xferCtl (v : Word) :
    s.RegsBut [Reg.tlnEvent, Reg.tlnStatus, Reg.tlnXferCtl, Reg.tlnXferStatus] (s.xferCtl v) := by
  unfold State.xferCtl
  refine .ite .refl ?_
  extract_lets t bus len u tln
  have stored : s.RegsBut [Reg.tlnEvent, Reg.tlnStatus, Reg.tlnXferCtl, Reg.tlnXferStatus] t := .setReg .refl (by simp)
  have began : s.RegsBut [Reg.tlnEvent, Reg.tlnStatus, Reg.tlnXferCtl, Reg.tlnXferStatus] u :=
    .setNum (.setBit stored (by simp)) (by simp)
  have ended := State.RegsBut.raise (i := 2) (off := Reg.tlnEvent) (.setNum (off := Reg.tlnXferStatus) (v := 3 + 4 * 16)
    (.setBit (off := Reg.tlnStatus) (i := 0) (b := false) (.setBit (off := Reg.tlnXferCtl) (i := 31) (b := false) stored (by simp))
      (by simp)) (by simp)) (by simp)
  refine .ite stored (.ite ended ?_)
  exact (began.law (without_tln _ _ (List.mem_singleton_self _)) rfl).law (State.xferStart_without _ (List.Subset.refl _)) rfl

theorem State.regsBut_railLost (rail : Nat) : s.RegsBut [Reg.pwrRailStatus] (s.railLost rail) :=
  .ite (.logAt (.raiseReported (.setBit .refl (by simp)) (by decide))) .refl

theorem State.regsBut_perstRise : s.RegsBut [Reg.aowStatus] s.perstRise := by
  unfold State.perstRise State.releaseWake
  exact .ite (.trans (.of_regs (by rfl)) (.ite (.emit (.setBit .refl (by simp))) .refl)) .refl

theorem State.regsBut_coreEccFault (core : Nat) : s.RegsBut [Reg.srmErrAddr, Reg.srmEvent, Reg.srmUeCnt]
    ((((s.setReg Reg.srmErrAddr (s.freeVal.setWidth 32)).drawn.countErr .srm Reg.srmUeCnt core).raise Reg.srmEvent 1).raiseFault core 3) := by
  have stored : s.RegsBut [Reg.srmErrAddr, Reg.srmEvent, Reg.srmUeCnt] (s.setReg Reg.srmErrAddr (s.freeVal.setWidth 32)) :=
    .setReg .refl (by simp)
  have drawn := stored.law (State.drawn_without _ (List.Subset.refl _)) rfl
  exact (State.RegsBut.raise (.countErr drawn (by simp)) (by simp)).law (State.raiseFault_without _ _ _ (List.Subset.refl _)) rfl

theorem State.regsBut_bar4Request (r : WinReq) : s.RegsBut [Reg.hptAerLost, Reg.hptEvent, Reg.hptUrCnt] (s.bar4Request r) := by
  have refused (posted : Bool) : s.RegsBut [Reg.hptAerLost, Reg.hptEvent, Reg.hptUrCnt] (s.unsupported 0 posted) :=
    s.regsBut_unsupported 0 posted (by simp) (by simp) (by simp)
  unfold State.bar4Request State.winRequest
  refine .ite .refl (.ite (.ite (.of_regs rfl) ?_) (refused _))
  split
  · exact refused _
  · exact .ite (.of_law (s.winAccept_without _ r (List.Subset.refl _)) rfl) (.of_regs rfl)
end

/-! ## The claim -/

/-- Settles O60: each command writes through operations whose registers are those named for it. -/
theorem registerFramesOfControlSide : Obligations.RegisterFramesOfControlSide := by
  have live {c : Instr} {L : List Nat} {f : State → State} := @WritesRegs.live c L f
  have quiet {c : Instr} {L : List Nat} := @WritesRegs.of_footprint c L
  unfold Obligations.RegisterFramesOfControlSide
  exact ⟨fun _ _ => quiet rfl rfl,
    live (fun _ => rfl) fun s => .ite s.regsBut_authFailed .refl,
    fun session => live (fun _ => rfl) (·.regsBut_sessionExpiry session),
    fun v => live (fun _ => rfl) (·.regsBut_archCons v),
    quiet rfl rfl,
    quiet rfl rfl,
    live (fun _ => rfl) State.regsBut_speedRetrain,
    live (fun _ => rfl) State.regsBut_linkReset,
    live (fun _ => rfl) fun s => .raise (.law (.of_regs (by rfl)) (State.took_without _ 5 0 (List.Subset.refl _)) rfl) (by simp),
    live (fun _ => rfl) fun s => .raise (.law (.of_regs (by rfl)) (State.took_without _ 5 0 (List.Subset.refl _)) rfl) (by simp),
    quiet rfl rfl,
    fun _ => .byCore (fun _ => rfl) fun s => .of_law (s.freeBlobBuf_without _ (List.Subset.refl _)) rfl,
    fun by_ src => live (fun _ => rfl) (·.regsBut_ringWrite by_ src),
    fun _ src => .byCore (fun _ => rfl) fun s => .of_law (s.unpendWrite_without src (List.Subset.refl _)) rfl,
    fun _ core src => .ownCore (fun _ => rfl) (·.regsBut_complete core src),
    fun _ core => .ownCore (fun _ => rfl) fun s => .of_law (s.stackReset_without core (List.Subset.refl _)) rfl,
    fun _ _ => .byCore (fun _ => rfl) fun s => .setReported .refl (by decide),
    fun src high => .next (fun _ => rfl) (·.regsBut_levelChange src high),
    fun _ => quiet rfl rfl,
    fun _ core v => .ownCore (fun _ => rfl) fun s => .of_law (s.watchdogWrite_without core v (List.Subset.refl _)) rfl,
    fun _ => quiet rfl rfl,
    fun core => live (fun _ => rfl) (·.regsBut_watchdogSecond core),
    fun core addr _ => live (fun _ => rfl) fun s =>
      .ite (s.regsBut_accessFault _ core addr.toNat) (.emit (s.regsBut_accessFault _ core addr.toNat)),
    fun core => live (fun _ => rfl) (·.regsBut_coreEccFault core),
    fun wakeBits pinBits => .next (fun _ => rfl) (·.regsBut_wake wakeBits pinBits),
    .next (fun _ => rfl) State.regsBut_alarm,
    fun _ => .next (fun _ => rfl) fun s => .ite (.raise .refl (by simp)) .refl,
    fun _ _ _ _ => live (fun _ => rfl) (·.regsBut_bar4Request _),
    fun _ _ _ => live (fun _ => rfl) (·.regsBut_bar4Request _),
    fun _ => quiet rfl rfl,
    fun by_ => .next (fun _ => rfl) fun s => s.regsBut_byService by_ State.regsBut_winCommit,
    live (fun _ => rfl) State.regsBut_busRequest,
    fun _ => quiet rfl rfl,
    fun addr => live (fun _ => rfl) (·.regsBut_upStale addr),
    fun _ _ _ => quiet rfl rfl,
    fun entry => live (fun _ => rfl) (·.regsBut_sampleDue entry),
    fun v => live (fun _ => rfl) (·.regsBut_xferCtl _),
    fun _ => quiet rfl rfl,
    quiet rfl rfl,
    quiet rfl rfl,
    quiet rfl rfl,
    quiet rfl rfl,
    .miServed (fun _ => rfl) fun s => .countErr .refl (by simp),
    fun _ => quiet rfl rfl,
    quiet rfl rfl,
    fun _ => quiet rfl rfl,
    fun _ _ => quiet rfl rfl,
    fun _ => quiet rfl rfl,
    fun _ _ => quiet rfl rfl,
    fun _ => quiet rfl rfl,
    .next (fun _ => rfl) State.regsBut_perstRise,
    live (fun _ => rfl) fun s => .raiseReported (.of_regs (by rfl)) (by decide),
    fun rail => .next (fun _ => rfl) (·.regsBut_railLost rail),
    quiet rfl rfl,
    fun v => live (fun _ => rfl) fun s => .setReported .refl (by decide),
    fun _ => quiet rfl rfl⟩
end Sys2Proof.Machine
end

section
/-! SUPPORT. Reading a register of a state that operations wrote: every read is brought down to `State.reg`, and a law per
operation says what it is there. -/
namespace Sys2Proof.Machine

/-! ## Words -/

@[simp] theorem wordField_setWordField (r : Word) (lo w v : Nat) (h : lo + w ≤ 32) :
    wordField (setWordField r lo w v) lo w = v % 2 ^ w :=
  wordField_setWordField_same r lo w v h

@[simp] theorem wordField_setWordField_disjoint (r : Word) (lo w lo' w' v : Nat) (h : lo' + w' ≤ lo ∨ lo + w ≤ lo') :
    wordField (setWordField r lo w v) lo' w' = wordField r lo' w' :=
  wordField_setWordField_ne r lo w lo' w' v h

theorem wordField_lt (r : Word) (lo w : Nat) : wordField r lo w < 2 ^ w := Nat.mod_lt _ (Nat.two_pow_pos w)

@[simp] theorem satAdd_mod (a b : Nat) : satAdd 32 a b % 4294967296 = satAdd 32 a b := Nat.mod_eq_of_lt (satAdd_lt a b)

@[simp] theorem toNat_mod_two (b : Bool) : b.toNat % 2 = b.toNat := by cases b <;> rfl

/-! ## One register after a write -/

section
variable (s : State) (a b : Nat)

@[simp] theorem State.bit_eq (i : Nat) : s.bit a i = (wordField (s.reg a) i 1 == 1) := rfl
@[simp] theorem State.field_eq (lo w : Nat) : s.field a lo w = wordField (s.reg a) lo w := rfl
@[simp] theorem State.num_eq : s.num a = (s.reg a).toNat := rfl

@[simp] theorem State.reg_of_setReg (v : Word) : (s.setReg a v).reg b = if a = b then v else s.reg b :=
  s.reg_setReg a b v

@[simp] theorem State.reg_of_setField (lo w v : Nat) :
    (s.setField a lo w v).reg b = if a = b then setWordField (s.reg a) lo w v else s.reg b :=
  s.reg_setField a lo w v b

@[simp] theorem State.reg_of_setBit (i : Nat) (v : Bool) :
    (s.setBit a i v).reg b = if a = b then setWordField (s.reg a) i 1 v.toNat else s.reg b :=
  s.reg_setField a i 1 _ b

@[simp] theorem State.reg_of_setNum (v : Nat) : (s.setNum a v).reg b = if a = b then BitVec.ofNat 32 v else s.reg b :=
  s.reg_setNum a b v

@[simp] theorem State.reg_of_setInt (v : Int) : (s.setInt a v).reg b = if a = b then BitVec.ofInt 32 v else s.reg b :=
  s.reg_setReg a b _

@[simp] theorem State.reg_of_inc (n : Nat) :
    (s.inc a n).reg b = if a = b then BitVec.ofNat 32 (satAdd 32 (s.reg a).toNat n) else s.reg b :=
  s.reg_setNum a b _

@[simp] theorem State.reg_of_emit (o : Out) : (s.emit o).reg b = s.reg b := rfl
@[simp] theorem State.reg_of_drawn : s.drawn.reg b = s.reg b := rfl

@[simp] theorem State.reg_of_raise (i : Nat) (h : b / 0x100000 ≠ 15) :
    (s.raise a i).reg b = if a = b then setWordField (s.reg b) i 1 1 else s.reg b := by
  split
  case isTrue e => subst e; simp [s.reg_raise_same _ _ h]
  case isFalse ne => exact s.reg_raise_ne _ _ _ h ne

@[simp] theorem State.reg_of_logAt (k : Block) (code inst f : Nat) (detail : List Word) (h : logReg b = false) :
    (s.logAt k code inst f detail).reg b = s.reg b :=
  s.reg_logAt k code inst f detail b h

@[simp] theorem State.reg_of_countErr (k : Block) (inst f : Nat) (detail : List Word) (h : logReg b = false) :
    (s.countErr k a inst f detail).reg b =
      if a = b then BitVec.ofNat 32 (satAdd 32 (s.reg b).toNat 1) else s.reg b := by
  unfold State.countErr
  rw [State.reg_of_logAt _ _ _ _ _ _ _ h, State.reg_of_inc]
  split
  case isTrue e => rw [e]
  case isFalse => rfl

@[simp] theorem State.reg_of_raiseLog (k : Block) (i inst f : Nat) (h : logReg b = false) :
    (s.raiseLog k a i inst f).reg b = if a = b then setWordField (s.reg b) i 1 1 else s.reg b := by
  unfold State.raiseLog
  rw [State.reg_of_logAt _ _ _ _ _ _ _ h, State.reg_of_raise _ _ _ _ (page_ne_of_logReg h)]

@[simp] theorem State.reg_of_when (c : Bool) (f : State → State) (h : (f s).reg b = s.reg b) : (s.when c f).reg b = s.reg b := by
  unfold State.when
  split
  · exact h
  · rfl

/-- A record update that keeps the registers. -/
theorem State.reg_mk (b : Nat) {pending ftb prx tenants cmds mch rdp wrp mcr nss fns hpt mig aens errs evc aow sdm mlk pwr sec keys
    mtr lpb tln mi out draw} : (State.mk pending s.regs ftb prx tenants cmds mch rdp wrp mcr nss fns hpt mig aens errs evc
    aow sdm mlk pwr sec keys mtr lpb tln mi out draw).reg b = s.reg b := rfl

end

@[simp] theorem State.reg_mk_get (b : Nat) {pending regs ftb prx tenants cmds mch rdp wrp mcr nss fns hpt mig aens errs evc aow sdm
    mlk pwr sec keys mtr lpb tln mi out draw} : (State.mk pending regs ftb prx tenants cmds mch rdp wrp mcr nss fns hpt mig
    aens errs evc aow sdm mlk pwr sec keys mtr lpb tln mi out draw).reg b = regs.get b := rfl

@[simp] theorem State.get_regs (s : State) (b : Nat) : s.regs.get b = s.reg b := rfl

@[simp] theorem State.get_set_regs (r : Regs) (a b : Nat) (v : Word) : (r.set a v).get b = if a = b then v else r.get b :=
  Tab.get_set r b a v

/-! ## `State.inc`: counting -/

@[simp] theorem State.inc_pending (s : State) (off n : Nat) : (s.inc off n).pending = s.pending := rfl
@[simp] theorem State.inc_ftb (s : State) (off n : Nat) : (s.inc off n).ftb = s.ftb := rfl
@[simp] theorem State.inc_prx (s : State) (off n : Nat) : (s.inc off n).prx = s.prx := rfl
@[simp] theorem State.inc_tenants (s : State) (off n : Nat) : (s.inc off n).tenants = s.tenants := rfl
@[simp] theorem State.inc_cmds (s : State) (off n : Nat) : (s.inc off n).cmds = s.cmds := rfl
@[simp] theorem State.inc_mch (s : State) (off n : Nat) : (s.inc off n).mch = s.mch := rfl
@[simp] theorem State.inc_rdp (s : State) (off n : Nat) : (s.inc off n).rdp = s.rdp := rfl
@[simp] theorem State.inc_wrp (s : State) (off n : Nat) : (s.inc off n).wrp = s.wrp := rfl
@[simp] theorem State.inc_mcr (s : State) (off n : Nat) : (s.inc off n).mcr = s.mcr := rfl
@[simp] theorem State.inc_nss (s : State) (off n : Nat) : (s.inc off n).nss = s.nss := rfl
@[simp] theorem State.inc_fns (s : State) (off n : Nat) : (s.inc off n).fns = s.fns := rfl
@[simp] theorem State.inc_hpt (s : State) (off n : Nat) : (s.inc off n).hpt = s.hpt := rfl
@[simp] theorem State.inc_mig (s : State) (off n : Nat) : (s.inc off n).mig = s.mig := rfl
@[simp] theorem State.inc_aens (s : State) (off n : Nat) : (s.inc off n).aens = s.aens := rfl
@[simp] theorem State.inc_errs (s : State) (off n : Nat) : (s.inc off n).errs = s.errs := rfl
@[simp] theorem State.inc_evc (s : State) (off n : Nat) : (s.inc off n).evc = s.evc := rfl
@[simp] theorem State.inc_aow (s : State) (off n : Nat) : (s.inc off n).aow = s.aow := rfl
@[simp] theorem State.inc_sdm (s : State) (off n : Nat) : (s.inc off n).sdm = s.sdm := rfl
@[simp] theorem State.inc_mlk (s : State) (off n : Nat) : (s.inc off n).mlk = s.mlk := rfl
@[simp] theorem State.inc_pwr (s : State) (off n : Nat) : (s.inc off n).pwr = s.pwr := rfl
@[simp] theorem State.inc_sec (s : State) (off n : Nat) : (s.inc off n).sec = s.sec := rfl
@[simp] theorem State.inc_keys (s : State) (off n : Nat) : (s.inc off n).keys = s.keys := rfl
@[simp] theorem State.inc_mtr (s : State) (off n : Nat) : (s.inc off n).mtr = s.mtr := rfl
@[simp] theorem State.inc_lpb (s : State) (off n : Nat) : (s.inc off n).lpb = s.lpb := rfl
@[simp] theorem State.inc_tln (s : State) (off n : Nat) : (s.inc off n).tln = s.tln := rfl
@[simp] theorem State.inc_mi (s : State) (off n : Nat) : (s.inc off n).mi = s.mi := rfl
@[simp] theorem State.inc_out (s : State) (off n : Nat) : (s.inc off n).out = s.out := rfl
@[simp] theorem State.inc_draw (s : State) (off n : Nat) : (s.inc off n).draw = s.draw := rfl

/-! ## Updates of one entry keep the registers -/

@[simp] theorem State.reg_of_updCmd (s : State) (c : CmdId) (f : Cmd → Cmd) (r : Nat) : (s.updCmd c f).reg r = s.reg r := rfl
@[simp] theorem State.reg_of_dropCmd (s : State) (c : CmdId) (r : Nat) : (s.dropCmd c).reg r = s.reg r := rfl
@[simp] theorem State.reg_of_updFn (s : State) (f : Nat) (g : Fn → Fn) (r : Nat) : (s.updFn f g).reg r = s.reg r := rfl
@[simp] theorem State.reg_of_updNs (s : State) (n : Nat) (f : Ns → Ns) (r : Nat) : (s.updNs n f).reg r = s.reg r := rfl
@[simp] theorem State.reg_of_updDie (s : State) (lane : Nat) (f : Die → Die) (r : Nat) : (s.updDie lane f).reg r = s.reg r := rfl
@[simp] theorem State.reg_of_updSdm (s : State) (ch : Nat) (f : SdmCh → SdmCh) (r : Nat) : (s.updSdm ch f).reg r = s.reg r := rfl
@[simp] theorem State.reg_of_updWrite (s : State) (wid : Nat) (f : SWrite → SWrite) (r : Nat) : (s.updWrite wid f).reg r = s.reg r := rfl
@[simp] theorem State.reg_of_addAdm (s : State) (a : Adm) (r : Nat) : (s.addAdm a).reg r = s.reg r := rfl
@[simp] theorem State.reg_of_dropAdms (s : State) (p : Adm → Bool) (r : Nat) : (s.dropAdms p).reg r = s.reg r := rfl

/-! ## The parts that reports keep -/

@[simp] theorem State.pending_raise (s : State) (ev i : Nat) : (s.raise ev i).pending = s.pending :=
  pending_of_without (s.raise_without ev i (List.Subset.refl _)) (by simp)
@[simp] theorem State.ftb_raise (s : State) (ev i : Nat) : (s.raise ev i).ftb = s.ftb :=
  ftb_of_without (s.raise_without ev i (List.Subset.refl _)) (by simp) (by simp)
@[simp] theorem State.prx_raise (s : State) (ev i : Nat) : (s.raise ev i).prx = s.prx :=
  prx_of_without (s.raise_without ev i (List.Subset.refl _)) (by simp)
@[simp] theorem State.tenants_raise (s : State) (ev i : Nat) : (s.raise ev i).tenants = s.tenants :=
  tenants_of_without (s.raise_without ev i (List.Subset.refl _)) (by simp)
@[simp] theorem State.cmds_raise (s : State) (ev i : Nat) : (s.raise ev i).cmds = s.cmds :=
  cmds_of_without (s.raise_without ev i (List.Subset.refl _)) (by simp)
@[simp] theorem State.mch_raise (s : State) (ev i : Nat) : (s.raise ev i).mch = s.mch :=
  mch_of_without (s.raise_without ev i (List.Subset.refl _)) (by simp)
@[simp] theorem State.rdp_raise (s : State) (ev i : Nat) : (s.raise ev i).rdp = s.rdp :=
  rdp_of_without (s.raise_without ev i (List.Subset.refl _)) (by simp)
@[simp] theorem State.wrp_raise (s : State) (ev i : Nat) : (s.raise ev i).wrp = s.wrp :=
  wrp_of_without (s.raise_without ev i (List.Subset.refl _)) (by simp)
@[simp] theorem State.mcr_raise (s : State) (ev i : Nat) : (s.raise ev i).mcr = s.mcr :=
  mcr_of_without (s.raise_without ev i (List.Subset.refl _)) (by simp)
@[simp] theorem State.nss_raise (s : State) (ev i : Nat) : (s.raise ev i).nss = s.nss :=
  nss_of_without (s.raise_without ev i (List.Subset.refl _)) (by simp)
@[simp] theorem State.fns_raise (s : State) (ev i : Nat) : (s.raise ev i).fns = s.fns :=
  fns_of_without (s.raise_without ev i (List.Subset.refl _)) (by simp)
@[simp] theorem State.hpt_raise (s : State) (ev i : Nat) : (s.raise ev i).hpt = s.hpt :=
  hpt_of_without (s.raise_without ev i (List.Subset.refl _)) (by simp)
@[simp] theorem State.mig_raise (s : State) (ev i : Nat) : (s.raise ev i).mig = s.mig :=
  mig_of_without (s.raise_without ev i (List.Subset.refl _)) (by simp)
@[simp] theorem State.aens_raise (s : State) (ev i : Nat) : (s.raise ev i).aens = s.aens :=
  aens_of_without (s.raise_without ev i (List.Subset.refl _)) (by simp)
@[simp] theorem State.errs_raise (s : State) (ev i : Nat) : (s.raise ev i).errs = s.errs :=
  errs_of_without (s.raise_without ev i (List.Subset.refl _)) (by simp)
@[simp] theorem State.aow_raise (s : State) (ev i : Nat) : (s.raise ev i).aow = s.aow :=
  aow_of_without (s.raise_without ev i (List.Subset.refl _)) (by simp)
@[simp] theorem State.sdm_raise (s : State) (ev i : Nat) : (s.raise ev i).sdm = s.sdm :=
  sdm_of_without (s.raise_without ev i (List.Subset.refl _)) (by simp)
@[simp] theorem State.mlk_raise (s : State) (ev i : Nat) : (s.raise ev i).mlk = s.mlk :=
  mlk_of_without (s.raise_without ev i (List.Subset.refl _)) (by simp)
@[simp] theorem State.keys_raise (s : State) (ev i : Nat) : (s.raise ev i).keys = s.keys :=
  keys_of_without (s.raise_without ev i (List.Subset.refl _)) (by simp)
@[simp] theorem State.mtr_raise (s : State) (ev i : Nat) : (s.raise ev i).mtr = s.mtr :=
  mtr_of_without (s.raise_without ev i (List.Subset.refl _)) (by simp)
@[simp] theorem State.lpb_raise (s : State) (ev i : Nat) : (s.raise ev i).lpb = s.lpb :=
  lpb_of_without (s.raise_without ev i (List.Subset.refl _)) (by simp)
@[simp] theorem State.tln_raise (s : State) (ev i : Nat) : (s.raise ev i).tln = s.tln :=
  tln_of_without (s.raise_without ev i (List.Subset.refl _)) (by simp)
@[simp] theorem State.mi_raise (s : State) (ev i : Nat) : (s.raise ev i).mi = s.mi :=
  mi_of_without (s.raise_without ev i (List.Subset.refl _)) (by simp)
@[simp] theorem State.out_raise (s : State) (ev i : Nat) : (s.raise ev i).out = s.out :=
  out_of_without (s.raise_without ev i (List.Subset.refl _)) (by simp)
@[simp] theorem State.draw_raise (s : State) (ev i : Nat) : (s.raise ev i).draw = s.draw :=
  draw_of_without (s.raise_without ev i (List.Subset.refl _)) (by simp)
@[simp] theorem State.pwr_raise (s : State) (ev i : Nat) : (s.raise ev i).pwr = s.pwr :=
  pwr_of_without (s.raise_without ev i (List.Subset.refl _)) (by simp) (by simp)

@[simp] theorem State.pending_logAt (s : State) (b : Block) (code inst fn : Nat) (detail : List Word) : (s.logAt b code inst fn detail).pending = s.pending :=
  pending_of_without (s.logAt_without b code inst fn detail (List.Subset.refl _)) (by simp)
@[simp] theorem State.ftb_logAt (s : State) (b : Block) (code inst fn : Nat) (detail : List Word) : (s.logAt b code inst fn detail).ftb = s.ftb :=
  ftb_of_without (s.logAt_without b code inst fn detail (List.Subset.refl _)) (by simp) (by simp)
@[simp] theorem State.prx_logAt (s : State) (b : Block) (code inst fn : Nat) (detail : List Word) : (s.logAt b code inst fn detail).prx = s.prx :=
  prx_of_without (s.logAt_without b code inst fn detail (List.Subset.refl _)) (by simp)
@[simp] theorem State.tenants_logAt (s : State) (b : Block) (code inst fn : Nat) (detail : List Word) : (s.logAt b code inst fn detail).tenants = s.tenants :=
  tenants_of_without (s.logAt_without b code inst fn detail (List.Subset.refl _)) (by simp)
@[simp] theorem State.cmds_logAt (s : State) (b : Block) (code inst fn : Nat) (detail : List Word) : (s.logAt b code inst fn detail).cmds = s.cmds :=
  cmds_of_without (s.logAt_without b code inst fn detail (List.Subset.refl _)) (by simp)
@[simp] theorem State.mch_logAt (s : State) (b : Block) (code inst fn : Nat) (detail : List Word) : (s.logAt b code inst fn detail).mch = s.mch :=
  mch_of_without (s.logAt_without b code inst fn detail (List.Subset.refl _)) (by simp)
@[simp] theorem State.rdp_logAt (s : State) (b : Block) (code inst fn : Nat) (detail : List Word) : (s.logAt b code inst fn detail).rdp = s.rdp :=
  rdp_of_without (s.logAt_without b code inst fn detail (List.Subset.refl _)) (by simp)
@[simp] theorem State.wrp_logAt (s : State) (b : Block) (code inst fn : Nat) (detail : List Word) : (s.logAt b code inst fn detail).wrp = s.wrp :=
  wrp_of_without (s.logAt_without b code inst fn detail (List.Subset.refl _)) (by simp)
@[simp] theorem State.mcr_logAt (s : State) (b : Block) (code inst fn : Nat) (detail : List Word) : (s.logAt b code inst fn detail).mcr = s.mcr :=
  mcr_of_without (s.logAt_without b code inst fn detail (List.Subset.refl _)) (by simp)
@[simp] theorem State.nss_logAt (s : State) (b : Block) (code inst fn : Nat) (detail : List Word) : (s.logAt b code inst fn detail).nss = s.nss :=
  nss_of_without (s.logAt_without b code inst fn detail (List.Subset.refl _)) (by simp)
@[simp] theorem State.fns_logAt (s : State) (b : Block) (code inst fn : Nat) (detail : List Word) : (s.logAt b code inst fn detail).fns = s.fns :=
  fns_of_without (s.logAt_without b code inst fn detail (List.Subset.refl _)) (by simp)
@[simp] theorem State.hpt_logAt (s : State) (b : Block) (code inst fn : Nat) (detail : List Word) : (s.logAt b code inst fn detail).hpt = s.hpt :=
  hpt_of_without (s.logAt_without b code inst fn detail (List.Subset.refl _)) (by simp)
@[simp] theorem State.mig_logAt (s : State) (b : Block) (code inst fn : Nat) (detail : List Word) : (s.logAt b code inst fn detail).mig = s.mig :=
  mig_of_without (s.logAt_without b code inst fn detail (List.Subset.refl _)) (by simp)
@[simp] theorem State.aens_logAt (s : State) (b : Block) (code inst fn : Nat) (detail : List Word) : (s.logAt b code inst fn detail).aens = s.aens :=
  aens_of_without (s.logAt_without b code inst fn detail (List.Subset.refl _)) (by simp)
@[simp] theorem State.errs_logAt (s : State) (b : Block) (code inst fn : Nat) (detail : List Word) : (s.logAt b code inst fn detail).errs = s.errs :=
  errs_of_without (s.logAt_without b code inst fn detail (List.Subset.refl _)) (by simp)
@[simp] theorem State.aow_logAt (s : State) (b : Block) (code inst fn : Nat) (detail : List Word) : (s.logAt b code inst fn detail).aow = s.aow :=
  aow_of_without (s.logAt_without b code inst fn detail (List.Subset.refl _)) (by simp)
@[simp] theorem State.sdm_logAt (s : State) (b : Block) (code inst fn : Nat) (detail : List Word) : (s.logAt b code inst fn detail).sdm = s.sdm :=
  sdm_of_without (s.logAt_without b code inst fn detail (List.Subset.refl _)) (by simp)
@[simp] theorem State.mlk_logAt (s : State) (b : Block) (code inst fn : Nat) (detail : List Word) : (s.logAt b code inst fn detail).mlk = s.mlk :=
  mlk_of_without (s.logAt_without b code inst fn detail (List.Subset.refl _)) (by simp)
@[simp] theorem State.keys_logAt (s : State) (b : Block) (code inst fn : Nat) (detail : List Word) : (s.logAt b code inst fn detail).keys = s.keys :=
  keys_of_without (s.logAt_without b code inst fn detail (List.Subset.refl _)) (by simp)
@[simp] theorem State.mtr_logAt (s : State) (b : Block) (code inst fn : Nat) (detail : List Word) : (s.logAt b code inst fn detail).mtr = s.mtr :=
  mtr_of_without (s.logAt_without b code inst fn detail (List.Subset.refl _)) (by simp)
@[simp] theorem State.lpb_logAt (s : State) (b : Block) (code inst fn : Nat) (detail : List Word) : (s.logAt b code inst fn detail).lpb = s.lpb :=
  lpb_of_without (s.logAt_without b code inst fn detail (List.Subset.refl _)) (by simp)
@[simp] theorem State.tln_logAt (s : State) (b : Block) (code inst fn : Nat) (detail : List Word) : (s.logAt b code inst fn detail).tln = s.tln :=
  tln_of_without (s.logAt_without b code inst fn detail (List.Subset.refl _)) (by simp)
@[simp] theorem State.mi_logAt (s : State) (b : Block) (code inst fn : Nat) (detail : List Word) : (s.logAt b code inst fn detail).mi = s.mi :=
  mi_of_without (s.logAt_without b code inst fn detail (List.Subset.refl _)) (by simp)
@[simp] theorem State.out_logAt (s : State) (b : Block) (code inst fn : Nat) (detail : List Word) : (s.logAt b code inst fn detail).out = s.out :=
  out_of_without (s.logAt_without b code inst fn detail (List.Subset.refl _)) (by simp)
@[simp] theorem State.draw_logAt (s : State) (b : Block) (code inst fn : Nat) (detail : List Word) : (s.logAt b code inst fn detail).draw = s.draw :=
  draw_of_without (s.logAt_without b code inst fn detail (List.Subset.refl _)) (by simp)

@[simp] theorem State.pending_countErr (s : State) (b : Block) (off : Nat) (inst : Nat) (fn : Nat) (detail : List Word) : (s.countErr b off inst fn detail).pending = s.pending :=
  pending_of_without (s.countErr_without b off inst fn detail (List.Subset.refl _)) (by simp)
@[simp] theorem State.ftb_countErr (s : State) (b : Block) (off : Nat) (inst : Nat) (fn : Nat) (detail : List Word) : (s.countErr b off inst fn detail).ftb = s.ftb :=
  ftb_of_without (s.countErr_without b off inst fn detail (List.Subset.refl _)) (by simp) (by simp)
@[simp] theorem State.prx_countErr (s : State) (b : Block) (off : Nat) (inst : Nat) (fn : Nat) (detail : List Word) : (s.countErr b off inst fn detail).prx = s.prx :=
  prx_of_without (s.countErr_without b off inst fn detail (List.Subset.refl _)) (by simp)
@[simp] theorem State.tenants_countErr (s : State) (b : Block) (off : Nat) (inst : Nat) (fn : Nat) (detail : List Word) : (s.countErr b off inst fn detail).tenants = s.tenants :=
  tenants_of_without (s.countErr_without b off inst fn detail (List.Subset.refl _)) (by simp)
@[simp] theorem State.cmds_countErr (s : State) (b : Block) (off : Nat) (inst : Nat) (fn : Nat) (detail : List Word) : (s.countErr b off inst fn detail).cmds = s.cmds :=
  cmds_of_without (s.countErr_without b off inst fn detail (List.Subset.refl _)) (by simp)
@[simp] theorem State.mch_countErr (s : State) (b : Block) (off : Nat) (inst : Nat) (fn : Nat) (detail : List Word) : (s.countErr b off inst fn detail).mch = s.mch :=
  mch_of_without (s.countErr_without b off inst fn detail (List.Subset.refl _)) (by simp)
@[simp] theorem State.rdp_countErr (s : State) (b : Block) (off : Nat) (inst : Nat) (fn : Nat) (detail : List Word) : (s.countErr b off inst fn detail).rdp = s.rdp :=
  rdp_of_without (s.countErr_without b off inst fn detail (List.Subset.refl _)) (by simp)
@[simp] theorem State.wrp_countErr (s : State) (b : Block) (off : Nat) (inst : Nat) (fn : Nat) (detail : List Word) : (s.countErr b off inst fn detail).wrp = s.wrp :=
  wrp_of_without (s.countErr_without b off inst fn detail (List.Subset.refl _)) (by simp)
@[simp] theorem State.mcr_countErr (s : State) (b : Block) (off : Nat) (inst : Nat) (fn : Nat) (detail : List Word) : (s.countErr b off inst fn detail).mcr = s.mcr :=
  mcr_of_without (s.countErr_without b off inst fn detail (List.Subset.refl _)) (by simp)
@[simp] theorem State.nss_countErr (s : State) (b : Block) (off : Nat) (inst : Nat) (fn : Nat) (detail : List Word) : (s.countErr b off inst fn detail).nss = s.nss :=
  nss_of_without (s.countErr_without b off inst fn detail (List.Subset.refl _)) (by simp)
@[simp] theorem State.fns_countErr (s : State) (b : Block) (off : Nat) (inst : Nat) (fn : Nat) (detail : List Word) : (s.countErr b off inst fn detail).fns = s.fns :=
  fns_of_without (s.countErr_without b off inst fn detail (List.Subset.refl _)) (by simp)
@[simp] theorem State.hpt_countErr (s : State) (b : Block) (off : Nat) (inst : Nat) (fn : Nat) (detail : List Word) : (s.countErr b off inst fn detail).hpt = s.hpt :=
  hpt_of_without (s.countErr_without b off inst fn detail (List.Subset.refl _)) (by simp)
@[simp] theorem State.mig_countErr (s : State) (b : Block) (off : Nat) (inst : Nat) (fn : Nat) (detail : List Word) : (s.countErr b off inst fn detail).mig = s.mig :=
  mig_of_without (s.countErr_without b off inst fn detail (List.Subset.refl _)) (by simp)
@[simp] theorem State.aens_countErr (s : State) (b : Block) (off : Nat) (inst : Nat) (fn : Nat) (detail : List Word) : (s.countErr b off inst fn detail).aens = s.aens :=
  aens_of_without (s.countErr_without b off inst fn detail (List.Subset.refl _)) (by simp)
@[simp] theorem State.errs_countErr (s : State) (b : Block) (off : Nat) (inst : Nat) (fn : Nat) (detail : List Word) : (s.countErr b off inst fn detail).errs = s.errs :=
  errs_of_without (s.countErr_without b off inst fn detail (List.Subset.refl _)) (by simp)
@[simp] theorem State.aow_countErr (s : State) (b : Block) (off : Nat) (inst : Nat) (fn : Nat) (detail : List Word) : (s.countErr b off inst fn detail).aow = s.aow :=
  aow_of_without (s.countErr_without b off inst fn detail (List.Subset.refl _)) (by simp)
@[simp] theorem State.sdm_countErr (s : State) (b : Block) (off : Nat) (inst : Nat) (fn : Nat) (detail : List Word) : (s.countErr b off inst fn detail).sdm = s.sdm :=
  sdm_of_without (s.countErr_without b off inst fn detail (List.Subset.refl _)) (by simp)
@[simp] theorem State.mlk_countErr (s : State) (b : Block) (off : Nat) (inst : Nat) (fn : Nat) (detail : List Word) : (s.countErr b off inst fn detail).mlk = s.mlk :=
  mlk_of_without (s.countErr_without b off inst fn detail (List.Subset.refl _)) (by simp)
@[simp] theorem State.keys_countErr (s : State) (b : Block) (off : Nat) (inst : Nat) (fn : Nat) (detail : List Word) : (s.countErr b off inst fn detail).keys = s.keys :=
  keys_of_without (s.countErr_without b off inst fn detail (List.Subset.refl _)) (by simp)
@[simp] theorem State.mtr_countErr (s : State) (b : Block) (off : Nat) (inst : Nat) (fn : Nat) (detail : List Word) : (s.countErr b off inst fn detail).mtr = s.mtr :=
  mtr_of_without (s.countErr_without b off inst fn detail (List.Subset.refl _)) (by simp)
@[simp] theorem State.lpb_countErr (s : State) (b : Block) (off : Nat) (inst : Nat) (fn : Nat) (detail : List Word) : (s.countErr b off inst fn detail).lpb = s.lpb :=
  lpb_of_without (s.countErr_without b off inst fn detail (List.Subset.refl _)) (by simp)
@[simp] theorem State.tln_countErr (s : State) (b : Block) (off : Nat) (inst : Nat) (fn : Nat) (detail : List Word) : (s.countErr b off inst fn detail).tln = s.tln :=
  tln_of_without (s.countErr_without b off inst fn detail (List.Subset.refl _)) (by simp)
@[simp] theorem State.mi_countErr (s : State) (b : Block) (off : Nat) (inst : Nat) (fn : Nat) (detail : List Word) : (s.countErr b off inst fn detail).mi = s.mi :=
  mi_of_without (s.countErr_without b off inst fn detail (List.Subset.refl _)) (by simp)
@[simp] theorem State.out_countErr (s : State) (b : Block) (off : Nat) (inst : Nat) (fn : Nat) (detail : List Word) : (s.countErr b off inst fn detail).out = s.out :=
  out_of_without (s.countErr_without b off inst fn detail (List.Subset.refl _)) (by simp)
@[simp] theorem State.draw_countErr (s : State) (b : Block) (off : Nat) (inst : Nat) (fn : Nat) (detail : List Word) : (s.countErr b off inst fn detail).draw = s.draw :=
  draw_of_without (s.countErr_without b off inst fn detail (List.Subset.refl _)) (by simp)

@[simp] theorem State.pending_raiseLog (s : State) (b : Block) (ev i : Nat) (inst : Nat) (fn : Nat) : (s.raiseLog b ev i inst fn).pending = s.pending :=
  pending_of_without (s.raiseLog_without b ev i inst fn (List.Subset.refl _)) (by simp)
@[simp] theorem State.ftb_raiseLog (s : State) (b : Block) (ev i : Nat) (inst : Nat) (fn : Nat) : (s.raiseLog b ev i inst fn).ftb = s.ftb :=
  ftb_of_without (s.raiseLog_without b ev i inst fn (List.Subset.refl _)) (by simp) (by simp)
@[simp] theorem State.prx_raiseLog (s : State) (b : Block) (ev i : Nat) (inst : Nat) (fn : Nat) : (s.raiseLog b ev i inst fn).prx = s.prx :=
  prx_of_without (s.raiseLog_without b ev i inst fn (List.Subset.refl _)) (by simp)
@[simp] theorem State.tenants_raiseLog (s : State) (b : Block) (ev i : Nat) (inst : Nat) (fn : Nat) : (s.raiseLog b ev i inst fn).tenants = s.tenants :=
  tenants_of_without (s.raiseLog_without b ev i inst fn (List.Subset.refl _)) (by simp)
@[simp] theorem State.cmds_raiseLog (s : State) (b : Block) (ev i : Nat) (inst : Nat) (fn : Nat) : (s.raiseLog b ev i inst fn).cmds = s.cmds :=
  cmds_of_without (s.raiseLog_without b ev i inst fn (List.Subset.refl _)) (by simp)
@[simp] theorem State.mch_raiseLog (s : State) (b : Block) (ev i : Nat) (inst : Nat) (fn : Nat) : (s.raiseLog b ev i inst fn).mch = s.mch :=
  mch_of_without (s.raiseLog_without b ev i inst fn (List.Subset.refl _)) (by simp)
@[simp] theorem State.rdp_raiseLog (s : State) (b : Block) (ev i : Nat) (inst : Nat) (fn : Nat) : (s.raiseLog b ev i inst fn).rdp = s.rdp :=
  rdp_of_without (s.raiseLog_without b ev i inst fn (List.Subset.refl _)) (by simp)
@[simp] theorem State.wrp_raiseLog (s : State) (b : Block) (ev i : Nat) (inst : Nat) (fn : Nat) : (s.raiseLog b ev i inst fn).wrp = s.wrp :=
  wrp_of_without (s.raiseLog_without b ev i inst fn (List.Subset.refl _)) (by simp)
@[simp] theorem State.mcr_raiseLog (s : State) (b : Block) (ev i : Nat) (inst : Nat) (fn : Nat) : (s.raiseLog b ev i inst fn).mcr = s.mcr :=
  mcr_of_without (s.raiseLog_without b ev i inst fn (List.Subset.refl _)) (by simp)
@[simp] theorem State.nss_raiseLog (s : State) (b : Block) (ev i : Nat) (inst : Nat) (fn : Nat) : (s.raiseLog b ev i inst fn).nss = s.nss :=
  nss_of_without (s.raiseLog_without b ev i inst fn (List.Subset.refl _)) (by simp)
@[simp] theorem State.fns_raiseLog (s : State) (b : Block) (ev i : Nat) (inst : Nat) (fn : Nat) : (s.raiseLog b ev i inst fn).fns = s.fns :=
  fns_of_without (s.raiseLog_without b ev i inst fn (List.Subset.refl _)) (by simp)
@[simp] theorem State.hpt_raiseLog (s : State) (b : Block) (ev i : Nat) (inst : Nat) (fn : Nat) : (s.raiseLog b ev i inst fn).hpt = s.hpt :=
  hpt_of_without (s.raiseLog_without b ev i inst fn (List.Subset.refl _)) (by simp)
@[simp] theorem State.mig_raiseLog (s : State) (b : Block) (ev i : Nat) (inst : Nat) (fn : Nat) : (s.raiseLog b ev i inst fn).mig = s.mig :=
  mig_of_without (s.raiseLog_without b ev i inst fn (List.Subset.refl _)) (by simp)
@[simp] theorem State.aens_raiseLog (s : State) (b : Block) (ev i : Nat) (inst : Nat) (fn : Nat) : (s.raiseLog b ev i inst fn).aens = s.aens :=
  aens_of_without (s.raiseLog_without b ev i inst fn (List.Subset.refl _)) (by simp)
@[simp] theorem State.errs_raiseLog (s : State) (b : Block) (ev i : Nat) (inst : Nat) (fn : Nat) : (s.raiseLog b ev i inst fn).errs = s.errs :=
  errs_of_without (s.raiseLog_without b ev i inst fn (List.Subset.refl _)) (by simp)
@[simp] theorem State.aow_raiseLog (s : State) (b : Block) (ev i : Nat) (inst : Nat) (fn : Nat) : (s.raiseLog b ev i inst fn).aow = s.aow :=
  aow_of_without (s.raiseLog_without b ev i inst fn (List.Subset.refl _)) (by simp)
@[simp] theorem State.sdm_raiseLog (s : State) (b : Block) (ev i : Nat) (inst : Nat) (fn : Nat) : (s.raiseLog b ev i inst fn).sdm = s.sdm :=
  sdm_of_without (s.raiseLog_without b ev i inst fn (List.Subset.refl _)) (by simp)
@[simp] theorem State.mlk_raiseLog (s : State) (b : Block) (ev i : Nat) (inst : Nat) (fn : Nat) : (s.raiseLog b ev i inst fn).mlk = s.mlk :=
  mlk_of_without (s.raiseLog_without b ev i inst fn (List.Subset.refl _)) (by simp)
@[simp] theorem State.keys_raiseLog (s : State) (b : Block) (ev i : Nat) (inst : Nat) (fn : Nat) : (s.raiseLog b ev i inst fn).keys = s.keys :=
  keys_of_without (s.raiseLog_without b ev i inst fn (List.Subset.refl _)) (by simp)
@[simp] theorem State.mtr_raiseLog (s : State) (b : Block) (ev i : Nat) (inst : Nat) (fn : Nat) : (s.raiseLog b ev i inst fn).mtr = s.mtr :=
  mtr_of_without (s.raiseLog_without b ev i inst fn (List.Subset.refl _)) (by simp)
@[simp] theorem State.lpb_raiseLog (s : State) (b : Block) (ev i : Nat) (inst : Nat) (fn : Nat) : (s.raiseLog b ev i inst fn).lpb = s.lpb :=
  lpb_of_without (s.raiseLog_without b ev i inst fn (List.Subset.refl _)) (by simp)
@[simp] theorem State.tln_raiseLog (s : State) (b : Block) (ev i : Nat) (inst : Nat) (fn : Nat) : (s.raiseLog b ev i inst fn).tln = s.tln :=
  tln_of_without (s.raiseLog_without b ev i inst fn (List.Subset.refl _)) (by simp)
@[simp] theorem State.mi_raiseLog (s : State) (b : Block) (ev i : Nat) (inst : Nat) (fn : Nat) : (s.raiseLog b ev i inst fn).mi = s.mi :=
  mi_of_without (s.raiseLog_without b ev i inst fn (List.Subset.refl _)) (by simp)
@[simp] theorem State.out_raiseLog (s : State) (b : Block) (ev i : Nat) (inst : Nat) (fn : Nat) : (s.raiseLog b ev i inst fn).out = s.out :=
  out_of_without (s.raiseLog_without b ev i inst fn (List.Subset.refl _)) (by simp)
@[simp] theorem State.draw_raiseLog (s : State) (b : Block) (ev i : Nat) (inst : Nat) (fn : Nat) : (s.raiseLog b ev i inst fn).draw = s.draw :=
  draw_of_without (s.raiseLog_without b ev i inst fn (List.Subset.refl _)) (by simp)

/-! ## Entries of the tables: commands, functions, dies -/

theorem State.id_of_cmd? {s : State} {c : CmdId} {x : Cmd} (h : s.cmd? c = some x) : x.id = c := by
  simpa using List.find?_some h

/-- An update that keeps a command's identifier reaches the command it names and no other. -/
theorem State.cmd?_updCmd (s : State) (c d : CmdId) {f : Cmd → Cmd} (id : ∀ x, (f x).id = x.id) :
    (s.updCmd c f).cmd? d = (s.cmd? d).map fun x => if x.id == c then f x else x := by
  have same : ∀ x : Cmd, (if x.id == c then f x else x).id = x.id := fun x => by split <;> simp [id]
  unfold State.cmd?
  rw [State.updCmd_cmds, List.find?_map]
  congr 2
  funext x
  simp only [Function.comp, same]

theorem State.cmd?_updCmd_same {s : State} {c : CmdId} {x : Cmd} {f : Cmd → Cmd} (h : s.cmd? c = some x) (id : ∀ x, (f x).id = x.id) :
    (s.updCmd c f).cmd? c = some (f x) := by
  rw [State.cmd?_updCmd _ _ _ id, h, Option.map_some, State.id_of_cmd? h, beq_self_eq_true, if_pos rfl]

theorem Cmd.id_meet (x : Cmd) (cause : Nat) : (x.meet cause).id = x.id := by
  unfold Cmd.meet
  split <;> rfl

theorem State.cmd?_meet_same {s : State} {c : CmdId} {x : Cmd} (cause : Nat) (h : s.cmd? c = some x) :
    (s.meet c cause).cmd? c = some (x.meet cause) :=
  State.cmd?_updCmd_same h fun x => x.id_meet cause

@[simp] theorem State.cmd?_dropCmd_same (s : State) (c : CmdId) : (s.dropCmd c).cmd? c = none := by
  simp [State.cmd?, List.find?_eq_none]

theorem State.fn_updFn (s : State) (f g : Nat) (k : Fn → Fn) : (s.updFn f k).fn g = if f = g then k (s.fn f) else s.fn g := by
  unfold State.fn State.updFn
  rw [Tab.get_modify]

@[simp] theorem State.fn_updFn_same (s : State) (f : Nat) (k : Fn → Fn) : (s.updFn f k).fn f = k (s.fn f) := by
  simp [State.fn_updFn]

theorem State.die_updDie (s : State) (a b : Nat) (k : Die → Die) : (s.updDie a k).die b = if a = b then k (s.die a) else s.die b := by
  unfold State.die State.updDie
  rw [Tab.get_modify]

@[simp] theorem State.die_updDie_same (s : State) (a : Nat) (k : Die → Die) : (s.updDie a k).die a = k (s.die a) := by
  simp [State.die_updDie]

end Sys2Proof.Machine
end

section
/-! SUPPORT. References, edges and the lock state of the timebase (O4). -/
set_option linter.unusedSimpArgs false
namespace Sys2Proof.Machine

@[simp] theorem State.reg_edgeSeen (s : State) (e : Int) (r : Nat) (hp : r ≠ Reg.ftbPhaseErr) (hf : r ≠ Reg.ftbFreqAdj) :
    (s.edgeSeen e).reg r = s.reg r := by
  unfold State.edgeSeen
  split <;> simp [↓State.reg_mk, hp.symm, hf.symm]

@[simp] theorem State.ftb_edgeSeen (s : State) (e : Int) : (s.edgeSeen e).ftb = { s.ftb with lastPps := some s.now } := by
  unfold State.edgeSeen
  split <;> rfl

@[simp] theorem State.ftb_setFtbState (s : State) (st : Nat) : (s.setFtbState st).ftb = s.ftb := by
  unfold State.setFtbState; split <;> simp

/-! ## A frame edge -/

@[simp] theorem State.ftb_minuteFrame (s : State) : (s.minuteFrame).ftb = s.ftb :=
  ftb_of_without (s.minuteFrame_without (List.Subset.refl _)) (by simp) (by simp)
@[simp] theorem State.reg_of_minuteFrame (s : State) (r : Nat) :
    (s.minuteFrame).reg r = s.reg r :=
  reg_of_without (s.minuteFrame_without (List.Subset.refl _)) (by simp)
@[simp] theorem State.ftb_minuteEdge (s : State) (m : Nat) : (s.minuteEdge m).ftb = s.ftb :=
  ftb_of_without (s.minuteEdge_without m (List.Subset.refl _)) (by simp) (by simp)
@[simp] theorem State.reg_of_minuteEdge (s : State) (m : Nat) (r : Nat) (h : r / 0x100000 ∉ [1, 3, 11, 15, 19, 20]) :
    (s.minuteEdge m).reg r = s.reg r :=
  reg_of_without (s.minuteEdge_without m (List.Subset.refl _)) (by simpa using h)
@[simp] theorem State.ftb_heartbeatMissed (s : State) : (s.heartbeatMissed).ftb = s.ftb :=
  ftb_of_without (s.heartbeatMissed_without (List.Subset.refl _)) (by simp) (by simp)
@[simp] theorem State.ftb_purgeAdms (s : State) : (s.purgeAdms).ftb = s.ftb :=
  ftb_of_without (s.purgeAdms_without (List.Subset.refl _)) (by simp) (by simp)
@[simp] theorem State.ftb_waMeasure (s : State) : (s.waMeasure).ftb = s.ftb :=
  ftb_of_without (s.waMeasure_without (List.Subset.refl _)) (by simp) (by simp)
@[simp] theorem State.ftb_ckptOld (s : State) : (s.ckptOld).ftb = s.ftb :=
  ftb_of_without (s.ckptOld_without (List.Subset.refl _)) (by simp) (by simp)
@[simp] theorem State.ftb_gcReview (s : State) : (s.gcReview).ftb = s.ftb :=
  ftb_of_without (s.gcReview_without (List.Subset.refl _)) (by simp) (by simp)
@[simp] theorem State.ftb_gcFactorEdge (s : State) : (s.gcFactorEdge).ftb = s.ftb :=
  ftb_of_without (s.gcFactorEdge_without (List.Subset.refl _)) (by simp) (by simp)
@[simp] theorem State.ftb_bucketEdge (s : State) (gcOld : Nat) : (s.bucketEdge gcOld).ftb = s.ftb :=
  ftb_of_without (s.bucketEdge_without gcOld (List.Subset.refl _)) (by simp) (by simp)
@[simp] theorem State.ftb_retryHeld (s : State) : (s.retryHeld).ftb = s.ftb :=
  ftb_of_without (s.retryHeld_without (List.Subset.refl _)) (by simp) (by simp)
@[simp] theorem State.ftb_armAlone (s : State) : (s.armAlone).ftb = s.ftb :=
  ftb_of_without (s.armAlone_without (List.Subset.refl _)) (by simp) (by simp)
@[simp] theorem State.ftb_commit (s : State) : (s.commit).ftb = s.ftb :=
  ftb_of_without (s.commit_without (List.Subset.refl _)) (by simp) (by simp)
@[simp] theorem State.ftb_send (s : State) (m : LinkMsg) : (s.send m).ftb = s.ftb :=
  ftb_of_without (s.send_without m (List.Subset.refl _)) (by simp) (by simp)
@[simp] theorem State.ftb_takeTlnCfg (s : State) : (s.takeTlnCfg).ftb = s.ftb :=
  ftb_of_without (s.takeTlnCfg_without (List.Subset.refl _)) (by simp) (by simp)
@[simp] theorem State.ftb_resyncFrame (s : State) : (s.resyncFrame).ftb = s.ftb :=
  ftb_of_without (s.resyncFrame_without (List.Subset.refl _)) (by simp) (by simp)
@[simp] theorem State.ftb_holdoverFrame (s : State) : (s.holdoverFrame).ftb = s.ftb :=
  ftb_of_without (s.holdoverFrame_without (List.Subset.refl _)) (by simp) (by simp)

@[simp] theorem State.ftb_drainInbound (n : Nat) (s : State) : (drainInbound n s).ftb = s.ftb :=
  ftb_of_without (drainInbound_without n s (List.Subset.refl _)) (by simp) (by simp)

@[simp] theorem State.ftb_when (s : State) (c : Bool) (f : State → State) (h : (f s).ftb = s.ftb) : (s.when c f).ftb = s.ftb := by
  unfold State.when
  split
  · exact h
  · rfl

/-- The beginning of a frame leaves the timebase but for what is held for the load ahead. -/
theorem State.ftb_frameBegins (s : State) (g : Nat) : (s.frameBegins g).ftb = { s.ftb with heldBegin := s.loadAhead } := by
  simp [State.frameBegins]

theorem State.goodEdge_locks (s : State) (e ppb : Int) (near : e.natAbs ≤ 20) (run : 3 ≤ s.ftb.goodRun) :
    (s.goodEdge e ppb).ftbState = 1 ∧ (s.goodEdge e ppb).ppsOk = s.ppsOk ∧ (s.goodEdge e ppb).ftb.crystal = some ppb := by
  simp +decide [State.goodEdge, near, run, State.showClkSrc, State.ftbState, State.ppsOk]
  unfold State.setFtbState
  split <;> simp_all +decide [↓State.reg_mk, State.ftbState]

/-- Settles O4: clause by clause, each operation read through the laws of the registers it writes. -/
theorem timebaseReferences : Obligations.TimebaseReferences := by
  unfold Obligations.TimebaseReferences
  refine ⟨fun s live h => ?_, fun s live h => ?_, fun s live h h2 => ?_, fun s off live h => ?_, fun s live h => ?_, fun s live => ?_,
    fun s e since ppb live h h2 => ?_, fun s e since ppb live h h2 => ?_, fun s e since ppb live h h2 => ?_,
    fun s e since ppb live h1 h2 h3 h4 h5 h6 h7 h8 => ?_, fun s e since ppb live h1 h2 h3 h4 h5 h6 h7 => ?_, fun s live h => ?_, fun s live h1 h2 h3 => ?_⟩
  all_goals refine ⟨_, congrArg Host.Outcome.next (s.whenLive_live _ live), ?_⟩
  · simp +decide [↓State.reg_mk, State.frefLost, State.settleFtb, State.setFtbState, State.showClkSrc, State.frefOk, State.ftbState, State.ppsOk] at h ⊢
    split_ifs <;> simp_all +decide [↓State.reg_mk]
  · simp +decide [↓State.reg_mk, h, State.frefGood, State.settleFtb, State.setFtbState, State.showClkSrc, State.frefOk, State.ftbState, State.ppsOk]
    split_ifs <;> simp_all +decide [↓State.reg_mk]
  · simp +decide [↓State.reg_mk, h2, State.ppsLost, State.settleFtb, State.setFtbState, State.showClkSrc, State.frefOk, State.ftbState, State.ppsOk] at h ⊢
    split_ifs <;> simp_all +decide [↓State.reg_mk]
  · simp +decide [↓State.reg_mk, State.fsyncEdge] at h ⊢
    split_ifs <;> simp_all +decide [↓State.reg_mk]
  · simp +decide [State.fsyncLost, h, State.when]
    intro j hj
    rw [wordField_setWordField_disjoint]
    omega
  · simp +decide [↓State.reg_mk, State.dpllDisable, State.setFtbState, State.showClkSrc, State.frefOk, State.ftbState]
    split_ifs <;> simp_all +decide [↓State.reg_mk]
  · simp +decide [↓State.reg_mk, h, h2, State.fppsEdge, State.lockedEdge, State.edgeSeen]
    split_ifs <;> simp_all +decide
  · have : ¬ e.natAbs ≤ 1000 := by omega
    simp +decide [State.fppsEdge, State.lockedEdge, h, this]
  · simp [State.fppsEdge, State.freeEdge, h, h2]
  · have hs : ((s.setBit Reg.ftbStatus 3 true).edgeSeen e).inRun = false := by
      simp +decide [State.inRun, State.prxState] at h5 ⊢; exact h5
    simp +decide [State.fppsEdge, h1, h2, h3, h6, State.freeEdge, hs] at h4 ⊢
    simp [h4]
    have := State.goodEdge_locks ((s.setBit Reg.ftbStatus 3 true).edgeSeen e) e ppb h7 (by simpa using h8)
    refine ⟨this.1, this.2.1.trans ?_, this.2.2⟩
    simp +decide [State.ppsOk]
  · have : ¬ e.natAbs ≤ 20 := by omega
    have hs : ((s.setBit Reg.ftbStatus 3 true).edgeSeen e).inRun = true := by
      simp +decide [State.inRun, State.prxState] at h6 ⊢; exact h6
    simp +decide [State.ftbState] at h1 h2 h5
    simp +decide [State.fppsEdge, h1, h2, h3, h4, h5, State.freeEdge, hs, this, State.setStepped, State.goodEdge, State.ftbState, State.ppsOk]
  · simp [State.frameEdge, State.lateBegin, h, State.ftb_frameBegins]
  · simp +decide [State.minuteBegins, h1, h2, h3]
end Sys2Proof.Machine
end

section
/-! SUPPORT. The time of day, and the skew between the chips of a pair (O5). -/
set_option linter.unusedSimpArgs false
namespace Sys2Proof.Machine

@[simp] theorem State.ftb_conditions (s : State) : (s.conditions).ftb = s.ftb :=
  ftb_of_without (s.conditions_without (List.Subset.refl _)) (by simp) (by simp)
@[simp] theorem State.reg_of_conditions (s : State) (r : Nat) (h : r / 0x100000 ∉ [5, 13, 15]) :
    (s.conditions).reg r = s.reg r :=
  reg_of_without (s.conditions_without (List.Subset.refl _)) (by simpa using h)
@[simp] theorem State.reg_of_send (s : State) (m : LinkMsg) (r : Nat) (h : r / 0x100000 ∉ [13, 15]) :
    (s.send m).reg r = s.reg r :=
  reg_of_without (s.send_without m (List.Subset.refl _)) (by simpa using h)
@[simp] theorem State.reg_of_phaseHeartbeat (s : State) (digest : List Byte) (park : Bool) (r : Nat) (h : r / 0x100000 ∉ [5, 13, 15]) :
    (s.phaseHeartbeat digest park).reg r = s.reg r :=
  reg_of_without (s.phaseHeartbeat_without digest park (List.Subset.refl _)) (by simpa using h)
@[simp] theorem State.reg_of_peerVariant3 (s : State) (entered : Bool) (r : Nat) (h : r / 0x100000 ∉ [5, 13, 15]) :
    (s.peerVariant3 entered).reg r = s.reg r :=
  reg_of_without (s.peerVariant3_without entered (List.Subset.refl _)) (by simpa using h)
@[simp] theorem State.reg_of_took (s : State) (vc blocks : Nat) (r : Nat) :
    (s.took vc blocks).reg r = s.reg r :=
  reg_of_without (s.took_without vc blocks (List.Subset.refl _)) (by simp)
@[simp] theorem State.ftb_took (s : State) (vc blocks : Nat) : (s.took vc blocks).ftb = s.ftb :=
  ftb_of_without (s.took_without vc blocks (List.Subset.refl _)) (by simp) (by simp)
@[simp] theorem State.reg_of_bootAge (s : State) (r : Nat) :
    (s.bootAge).reg r = s.reg r :=
  reg_of_without (s.bootAge_without (List.Subset.refl _)) (by simp)
@[simp] theorem State.ftb_bootAge (s : State) : (s.bootAge).ftb = s.ftb :=
  ftb_of_without (s.bootAge_without (List.Subset.refl _)) (by simp) (by simp)
@[simp] theorem State.ftb_stepAdms (s : State) : (s.stepAdms).ftb = s.ftb :=
  ftb_of_without (s.stepAdms_without (List.Subset.refl _)) (by simp) (by simp)
@[simp] theorem State.ftb_closeMinute (s : State) (part : Bool) : (s.closeMinute part).ftb = s.ftb :=
  ftb_of_without (s.closeMinute_without part (List.Subset.refl _)) (by simp) (by simp)
@[simp] theorem State.pending_raiseSkew (s : State) (tell : Bool) : (s.raiseSkew tell).pending = s.pending :=
  pending_of_without (s.raiseSkew_without tell (List.Subset.refl _)) (by simp)

@[simp] theorem State.reg_holdoverFrame (s : State) (r : Nat) (h : r ≠ Reg.ftbHoldoverFrames) : s.holdoverFrame.reg r = s.reg r := by
  unfold State.holdoverFrame
  split <;> simp [h.symm]

@[simp] theorem State.ftb_peerVariant3 (s : State) (entered : Bool) : (s.peerVariant3 entered).ftb = s.ftb :=
  ftb_of_without (s.peerVariant3_without entered (List.Subset.refl _)) (by simp) (by simp)

/-- What was held at a frame's beginning: only the count of frames in holdover changes in the timebase's registers. -/
@[simp] theorem State.reg_releaseBegin (s : State) (r : Nat) (hc : r ≠ Reg.ftbHoldoverFrames) (h : r / 0x100000 ∉ [13, 15]) :
    s.releaseBegin.reg r = s.reg r := by
  simp at h
  unfold State.releaseBegin State.frameTold
  split <;> simp [↓State.reg_mk, h, hc]

@[simp] theorem State.frame_releaseBegin (s : State) : s.releaseBegin.ftb.frame = s.ftb.frame := by
  unfold State.releaseBegin State.frameTold
  split <;> simp

@[simp] theorem State.frame_stepFrame (s : State) (f : Nat) : (s.stepFrame f).ftb.frame = BitVec.ofNat 48 f := by
  unfold State.stepFrame State.minuteEvent State.openMinute
  dsimp only
  split_ifs <;> simp

/-- The frame number after a load: the armed second, times 1,000. -/
theorem State.frame_load (s : State) (f : Nat) :
    (if f = s.frame then s else s.stepFrame f).ftb.frame = BitVec.ofNat 48 f := by
  split
  case isTrue e => simp [e, State.frame]
  case isFalse => exact s.frame_stepFrame f

theorem State.todAccept_load (s : State) :
    s.todAccept.bootAge.releaseBegin.todValid = true ∧ s.todAccept.bootAge.releaseBegin.bit Reg.ftbTodCtl 0 = false ∧
    s.todAccept.bootAge.releaseBegin.bit Reg.ftbEvent 4 = true ∧
    s.todAccept.bootAge.releaseBegin.ftb.frame = s.ftb.frame := by
  simp +decide [State.todAccept, State.todValid]

theorem State.todEdge_accepts (s : State) (due : s.todDue = true) (ok : s.todRefused s.frame = false) :
    s.todEdge = (if s.todSecond * 1000 = s.frame then s else s.stepFrame (s.todSecond * 1000)).todAccept.bootAge.releaseBegin := by
  unfold State.todEdge
  rw [if_pos due, if_neg (by rw [ok]; exact Bool.false_ne_true)]

/-- A skew that is raised: the condition, its count and its event (R69). -/
theorem State.raiseSkew_raises (s : State) (tell : Bool) (h : s.bit Reg.ftbStatus 8 = false) :
    (s.raiseSkew tell).bit Reg.ftbStatus 8 = true ∧
    (s.raiseSkew tell).num Reg.ftbPairSkewCnt = satAdd 32 (s.num Reg.ftbPairSkewCnt) 1 ∧
    (s.raiseSkew tell).bit Reg.ftbEvent 7 = true := by
  simp at h
  cases tell <;> simp +decide [State.raiseSkew, h, ↓State.reg_mk]

theorem State.reg_raiseSkew (s : State) (tell : Bool) (r : Nat) (log : logReg r = false) (page : r / 0x100000 ∉ [5, 13])
    (status : r ≠ Reg.ftbStatus) (event : r ≠ Reg.ftbEvent) (count : r ≠ Reg.ftbPairSkewCnt) :
    (s.raiseSkew tell).reg r = s.reg r := by
  have h15 := page_ne_of_logReg log
  simp at page
  unfold State.raiseSkew
  split
  · rfl
  · cases tell <;> simp [log, page, h15, status.symm, event.symm, count.symm, ↓State.reg_mk]

theorem State.cleared_raiseSkew (s : State) (tell : Bool) : (s.raiseSkew tell).bit Reg.ftbEvent 8 = s.bit Reg.ftbEvent 8 := by
  unfold State.raiseSkew
  split
  · rfl
  · cases tell <;> simp +decide [↓State.reg_mk]

theorem State.skewAgreed_raiseSkew (s : State) (tell : Bool) (h : s.skewAgreed = none) : (s.raiseSkew tell).skewAgreed = none := by
  unfold State.raiseSkew
  split
  · exact h
  · cases tell <;> simp [State.skewAgreed]

/-- With no condition active, a heartbeat's skew raises one where it exceeds 4,000 ticks (R69). -/
theorem State.skewMeasured_clear (s : State) (hb : Heartbeat) (h : s.bit Reg.ftbStatus 8 = false) :
    ((s.skewOf hb).natAbs < 2 ^ 31 → (s.skewMeasured hb).reg Reg.ftbPairSkew = BitVec.ofInt 32 (s.skewOf hb)) ∧
    (s.skewMeasured hb).bit Reg.ftbStatus 8 = decide (4000 < (s.skewOf hb).natAbs) := by
  simp at h
  unfold State.skewMeasured
  dsimp only
  generalize ht : (if (s.skewOf hb).natAbs < 2 ^ 31 then s.setInt Reg.ftbPairSkew (s.skewOf hb)
    else (s.setReg Reg.ftbPairSkew (BitVec.setWidth 32 s.freeVal)).drawn) = t
  have status : t.bit Reg.ftbStatus 8 = false := by subst ht; split <;> simp +decide [h]
  have stored : (s.skewOf hb).natAbs < 2 ^ 31 → t.reg Reg.ftbPairSkew = BitVec.ofInt 32 (s.skewOf hb) := fun lt => by
    subst ht; rw [if_pos lt]; simp
  rw [if_neg (ne_true_of_eq_false status)]
  split
  case isTrue far =>
    exact ⟨fun lt => (t.reg_raiseSkew true _ rfl (by decide) (by decide) (by decide) (by decide)).trans (stored lt),
      (t.raiseSkew_raises true status).1.trans (decide_eq_true far).symm⟩
  case isFalse near => exact ⟨stored, status.trans (decide_eq_false near).symm⟩

theorem State.skewOf_congr {s t : State} (hb : Heartbeat) (ftb : t.ftb = s.ftb) (delay : t.reg Reg.ftbLinkDelay = s.reg Reg.ftbLinkDelay) :
    t.skewOf hb = s.skewOf hb := by
  simp [State.skewOf, State.frame, ftb, delay]

/-- Settles O5: clause by clause; a load and a raised skew through the lemmas that say what they do. -/
theorem timeOfDayAndSkew : Obligations.TimeOfDayAndSkew := by
  unfold Obligations.TimeOfDayAndSkew
  refine ⟨fun s hi v live h => ?_, fun s hi v live h => ?_, fun s live => ?_, fun s live h1 h2 => ?_,
    fun s live h1 h2 => ?_, fun s live => ?_, fun s hb live h1 h2 => ?_, fun s live h => ?_, fun s f live h => ?_, fun s f live h1 h2 h3 => ?_⟩
  all_goals refine ⟨_, congrArg Host.Outcome.next (s.whenLive_live _ live), ?_⟩
  · unfold State.todSecWrite
    cases hi <;> simp_all +decide
  · simp_all +decide [State.todSecWrite]
  · unfold State.todArm
    split <;> simp_all +decide [↓State.reg_mk, State.now]
  · simp +decide [State.todEdge, h1, h2, State.todRefuse]
  · rw [s.todEdge_accepts h1 h2]
    obtain ⟨valid, ctl, event, frame⟩ := State.todAccept_load (if s.todSecond * 1000 = s.frame then s else s.stepFrame (s.todSecond * 1000))
    exact ⟨valid, ctl, event, frame.trans (s.frame_load _)⟩
  · simp +decide [State.frameCounterRead]
  · unfold State.heartbeatRx
    rw [if_pos h1]
    extract_lets a b c t
    have status : t.reg Reg.ftbStatus = s.reg Reg.ftbStatus := by
      simp only [t, c, b, a]; split <;> simp +decide [↓State.reg_mk]
    have skew : t.skewOf hb = s.skewOf hb := by
      refine State.skewOf_congr hb ?_ ?_ <;> simp only [t, c, b, a] <;> split <;> simp +decide [↓State.reg_mk]
    have := t.skewMeasured_clear hb ((State.bit_of_reg status 8).trans h2)
    rw [skew] at this
    simpa +decide using this
  · obtain ⟨raised, count, event⟩ := (s.took 5 0).raiseSkew_raises false (by simp_all +decide)
    exact ⟨raised, count.trans (by simp +decide), event⟩
  · simp at h
    by_cases hf : f = 0 <;> simp +decide [State.skewProposal, h, hf]
  · unfold State.pairSkewClear
    simp only [h1]
    rw [if_pos ⟨h3, h2⟩]
    generalize ht : State.conditions _ = t
    have status : t.bit Reg.ftbStatus 8 = false := by subst ht; simp +decide
    have event : t.bit Reg.ftbEvent 8 = true := by subst ht; simp +decide
    have agreed : t.skewAgreed = none := by subst ht; simp [State.skewAgreed]
    cases again : s.ftb.reraise
    case false => exact ⟨status, event, agreed⟩
    case true =>
      refine ⟨(t.raiseSkew_raises true status).1, ?_, t.skewAgreed_raiseSkew true agreed⟩
      exact (t.cleared_raiseSkew true).trans event
end Sys2Proof.Machine
end

section
/-! SUPPORT. Loading, arming and disarming a prism image (O6). -/
set_option linter.unusedSimpArgs false
namespace Sys2Proof.Machine

@[simp] theorem State.prx_internalRead (s : State) (k : Inner) (fn : Nat) (cmd : Option CmdId) (addr len : Nat) : (s.internalRead k fn cmd addr len).prx = s.prx :=
  prx_of_without (s.internalRead_without k fn cmd addr len (List.Subset.refl _)) (by simp)
@[simp] theorem State.reg_of_internalRead (s : State) (k : Inner) (fn : Nat) (cmd : Option CmdId) (addr len : Nat) (r : Nat) (h : r / 0x100000 ∉ [1, 3, 11, 19]) :
    (s.internalRead k fn cmd addr len).reg r = s.reg r :=
  reg_of_without (s.internalRead_without k fn cmd addr len (List.Subset.refl _)) (by simpa using h)
@[simp] theorem State.prx_reportArm (s : State) (v : ArmVerdict) : (s.reportArm v).prx = s.prx :=
  prx_of_without (s.reportArm_without v (List.Subset.refl _)) (by simp)
@[simp] theorem State.reg_of_reportArm (s : State) (v : ArmVerdict) (r : Nat) (h : r / 0x100000 ∉ [13, 15]) :
    (s.reportArm v).reg r = s.reg r :=
  reg_of_without (s.reportArm_without v (List.Subset.refl _)) (by simpa using h)
@[simp] theorem State.mcr_reportArm (s : State) (v : ArmVerdict) : (s.reportArm v).mcr = s.mcr :=
  mcr_of_without (s.reportArm_without v (List.Subset.refl _)) (by simp)
@[simp] theorem State.prx_noteLoad (s : State) (o : OpOutcome) : (s.noteLoad o).prx = s.prx :=
  prx_of_without (s.noteLoad_without o (List.Subset.refl _)) (by simp)
@[simp] theorem State.reg_of_noteLoad (s : State) (o : OpOutcome) (r : Nat) :
    (s.noteLoad o).reg r = s.reg r :=
  reg_of_without (s.noteLoad_without o (List.Subset.refl _)) (by simp)
@[simp] theorem State.prx_took (s : State) (vc blocks : Nat) : (s.took vc blocks).prx = s.prx :=
  prx_of_without (s.took_without vc blocks (List.Subset.refl _)) (by simp)
@[simp] theorem State.mcr_took (s : State) (vc blocks : Nat) : (s.took vc blocks).mcr = s.mcr :=
  mcr_of_without (s.took_without vc blocks (List.Subset.refl _)) (by simp)

theorem nextMultiple_mod (c f : Nat) : nextMultiple c f % c = 0 := Nat.mul_mod_left ..

/-- The next state of a control core's write (R136). -/
theorem State.next_byCore {s : State} {n off : Nat} {f : State → State} (live : s.live = true) (hn : n < 6) :
    Host.Outcome.next (s.byCore (.core n) off f) = (.next (f s) : Result) :=
  congrArg Host.Outcome.next (s.byCore_core n off f live hn)

/-- An arm that is refused shows its error and ends; the staged image stays (R104). -/
theorem State.refuseArm_refuses (s : State) (err : Nat) (small : err < 4294967296) :
    (s.refuseArm err).prx.armWait = false ∧ (s.refuseArm err).bit Reg.prxArm 0 = false ∧
    (s.refuseArm err).num Reg.prxArmStatus = err ∧ (s.refuseArm err).prx.peerArm = s.prx.peerArm ∧
    (s.refuseArm err).prx.switchF = none := by
  simp +decide [State.refuseArm, State.clearArm, ↓State.reg_mk, Nat.mod_eq_of_lt small]

theorem State.arm_accepts {s : State} (idle : s.arming = false) (tests : s.testRunning.all (fun k => !parkOnlyTest k)) :
    s.arm = (s.setBit Reg.prxArm 0 true).acceptArm := by
  unfold State.arm
  rw [if_neg (ne_true_of_eq_false idle)]
  cases h : s.testRunning with
  | none => rfl
  | some k =>
    have : parkOnlyTest k = false := by simpa [h] using tests
    simp [this]

/-- Bit 0 of PRX_ARM is none of what the rules of an arm read. -/
theorem State.views_setArm (s : State) (b : Bool) :
    (s.setBit Reg.prxArm 0 b).explicitF = s.explicitF ∧ (s.setBit Reg.prxArm 0 b).inRun = s.inRun ∧
    (s.setBit Reg.prxArm 0 b).prxState = s.prxState ∧ (s.setBit Reg.prxArm 0 b).joined = s.joined ∧
    ∀ j, (s.setBit Reg.prxArm 0 b).switchCycle j = s.switchCycle j := by
  simp +decide [State.explicitF, State.inRun, State.prxState, State.joined, State.switchCycle]

/-- An arm that no rule refuses: its frames are noted, and it completes, or waits for the partner (R102, R103). -/
theorem State.acceptArm_taken {s : State} {j : Image} (staged : s.prx.staged = some j)
    (far : s.explicitF = 0 ∨ s.explicitF % s.switchCycle j = 0 ∧ (if s.inRun then s.frame + 2 else s.frame) < s.explicitF)
    (profile : s.mch.profile.map (·.digest) = some j.profileDigest) (park : s.prxState ≠ 2) (held : s.prx.parkHeld = false) :
    s.acceptArm =
      let t : State := { s with prx := { s.prx with armF := s.explicitF, armFrame := s.frame } }
      if j.pairMode = 1 ∧ s.joined then
        match (t.reportArm .accepted).prx.peerArm with
        | some r => (t.reportArm .accepted).meetPeerArm r
        | none => { t.reportArm .accepted with prx := { (t.reportArm .accepted).prx with armWait := true } }
      else t.completeArm s.frame false := by
  unfold State.acceptArm
  simp only [staged]
  refine (if_neg (c := s.explicitF ≠ 0 ∧ s.explicitF % s.switchCycle j ≠ 0) (by omega)).trans ?_
  refine (if_neg (c := s.explicitF ≠ 0 ∧ if s.inRun then s.explicitF ≤ s.frame + 2 else s.explicitF ≤ s.frame) ?_).trans ?_
  · split at far <;> simp_all <;> omega
  refine (if_neg (c := s.mch.profile.map (·.digest) ≠ some j.profileDigest) (not_not.2 profile)).trans ?_
  exact if_neg (c := s.prxState = 2 ∨ s.prx.parkHeld = true) (by simp [park, held])

/-- An arm of this chip alone takes its frame. -/
theorem State.completeArm_takes {s : State} {j : Image} {a F : Nat} (both : Bool) (staged : s.prx.staged = some j)
    (frame : F = if s.prx.armF ≠ 0 then s.prx.armF
      else if s.inRun then nextMultiple (s.switchCycle j) (a + 3) else nextMultiple (s.switchCycle j) (a + 1))
    (far : s.prx.armF = 0 ∨ s.prx.armF % s.switchCycle j = 0 ∧ (if s.inRun then a + 2 else a) < s.prx.armF) :
    s.completeArm a both = ((State.setBit { s with prx := { s.prx with switchF := some F, armWait := false, armSolo := false, committed := both } }
      Reg.prxStatus 5 true).setNum Reg.prxArmStatus 0) := by
  have boundary : F % s.switchCycle j = 0 := by
    rw [frame]
    split
    · omega
    · split <;> exact nextMultiple_mod _ _
  unfold State.completeArm
  simp only [staged]
  rw [← frame, if_neg (not_not.2 boundary), if_neg]
  rintro ⟨explicit, near⟩
  rw [if_pos explicit] at frame
  split at near <;> simp_all <;> omega

/-- The frame that an arm takes: the explicit one, or the first boundary ahead (R103). -/
def State.armFrameOf (s : State) (j : Image) : Nat :=
  if s.explicitF ≠ 0 then s.explicitF
  else if s.inRun then nextMultiple (s.switchCycle j) (s.frame + 3) else nextMultiple (s.switchCycle j) (s.frame + 1)

theorem State.acceptArm_takes {s : State} {j : Image} (staged : s.prx.staged = some j) (solo : ¬ (j.pairMode = 1 ∧ s.joined = true))
    (far : s.explicitF = 0 ∨ s.explicitF % s.switchCycle j = 0 ∧ (if s.inRun then s.frame + 2 else s.frame) < s.explicitF)
    (profile : s.mch.profile.map (·.digest) = some j.profileDigest) (park : s.prxState ≠ 2) (held : s.prx.parkHeld = false) :
    s.acceptArm.prx.switchF = some (s.armFrameOf j) ∧ s.acceptArm.bit Reg.prxArm 0 = s.bit Reg.prxArm 0 ∧
    s.acceptArm.bit Reg.prxStatus 5 = true ∧ s.acceptArm.num Reg.prxArmStatus = 0 := by
  rw [State.acceptArm_taken staged far profile park held]
  dsimp only
  rw [if_neg solo, State.completeArm_takes (s := { s with prx := { s.prx with armF := s.explicitF, armFrame := s.frame } }) (j := j)
    (F := s.armFrameOf j) false staged rfl far]
  simp +decide [↓State.reg_mk]

theorem State.arm_takes {s : State} {j : Image} (idle : s.arming = false) (tests : s.testRunning.all (fun k => !parkOnlyTest k))
    (staged : s.prx.staged = some j) (solo : ¬ (j.pairMode = 1 ∧ s.joined = true))
    (far : s.explicitF = 0 ∨ s.explicitF % s.switchCycle j = 0 ∧ (if s.inRun then s.frame + 2 else s.frame) < s.explicitF)
    (profile : s.mch.profile.map (·.digest) = some j.profileDigest) (park : s.prxState ≠ 2) (held : s.prx.parkHeld = false) :
    s.arm.prx.switchF = some (s.armFrameOf j) ∧ s.arm.bit Reg.prxArm 0 = true ∧
    s.arm.bit Reg.prxStatus 5 = true ∧ s.arm.num Reg.prxArmStatus = 0 := by
  obtain ⟨explicit, run, state, joined, cycle⟩ := s.views_setArm true
  have frame : (s.setBit Reg.prxArm 0 true).frame = s.frame := rfl
  have taken := State.acceptArm_takes (s := s.setBit Reg.prxArm 0 true) (j := j) staged (by rw [joined]; exact solo)
    (by rw [explicit, cycle, run, frame]; exact far) profile (by rw [state]; exact park) held
  rw [State.arm_accepts idle tests]
  simpa +decide [State.armFrameOf, explicit, run, cycle, frame] using taken

/-- Settles O6: clause by clause; an arm through the lemmas on what it takes and what its refusal leaves. -/
theorem imageLoadAndArm : Obligations.ImageLoadAndArm := by
  unfold Obligations.ImageLoadAndArm
  refine ⟨fun s n live hn h1 h2 => ?_, fun s n live hn h1 h2 => ?_, fun s b live h1 h2 h3 => ?_, fun s n live hn h1 => ?_,
    fun s n live hn h1 => ?_, fun s n j live hn h1 h2 h3 h4 h5 h6 h7 h8 => ?_, fun s n j live hn h1 h2 h3 h4 h5 h6 h7 h8 h9 h10 => ?_,
    fun s n j live hn h1 h2 h3 h4 h5 h6 h7 h8 h9 h10 => ?_,
    fun s n live hn h1 h2 h3 => ?_, fun s n k live hn h1 h2 h3 => ?_, fun s r live h1 h2 => ?_, fun s r live h1 h2 => ?_,
    fun s r live h1 => ?_, fun s live h1 h2 => ?_, fun s n live hn h1 h2 => ?_, fun s n live hn h1 => ?_, fun s f live h1 h2 => ?_⟩
  · refine ⟨_, State.next_byCore live hn, ?_⟩
    simp_all +decide [State.loadStart, State.dropStaged, ↓State.reg_mk]
  · refine ⟨_, State.next_byCore live hn, ?_⟩
    simp_all +decide [State.loadStart, State.loadFailed]
  · refine ⟨_, congrArg Host.Outcome.next (s.whenLive_live _ live), ?_⟩
    unfold State.checksDone
    rw [if_pos ⟨h1, h2, ne_true_of_eq_false h3⟩]
    cases checked : checkImage s.checkCtx b with
    | none => simp +decide [State.stage, ↓State.reg_mk]
    | some e => simp +decide [State.loadFailed]
  · refine ⟨_, State.next_byCore live hn, ?_⟩
    simp_all +decide [State.discardStaged, State.dropStaged, ↓State.reg_mk]
  · refine ⟨_, State.next_byCore live hn, ?_⟩
    simp [State.discardStaged, h1]
  · obtain ⟨switch, arm, status, error⟩ := State.arm_takes h1 h2 h5 h4 (.inl h3) h6 h7 h8
    refine ⟨_, State.next_byCore live hn, switch.trans ?_, arm, status, error⟩
    unfold State.armFrameOf
    rw [if_neg (not_not.2 h3)]
    split <;> rfl
  · obtain ⟨switch, arm, status, error⟩ := State.arm_takes h1 h2 h7 h6 (.inr ⟨h4, h5⟩) h8 h9 h10
    exact ⟨_, State.next_byCore live hn, switch.trans (congrArg some (if_pos h3)), arm, status⟩
  · refine ⟨_, State.next_byCore live hn, ?_⟩
    obtain ⟨explicit, run, state, joined, cycle⟩ := s.views_setArm true
    rw [State.arm_accepts h1 h2, State.acceptArm_taken (s := s.setBit Reg.prxArm 0 true) (j := j) h7 (.inl (explicit.trans h3)) h8 (by rw [state]; exact h9) h10]
    simp +decide [h4, h5, h6, joined, ↓State.reg_mk]
    rfl
  · refine ⟨_, State.next_byCore live hn, ?_⟩
    rw [State.arm_accepts h1 h2]
    unfold State.acceptArm
    simp only [State.setBit_prx, h3]
    obtain ⟨wait, arm, error, peer, switch⟩ := State.refuseArm_refuses _ 1 (by decide)
    exact ⟨arm, error, switch⟩
  · refine ⟨_, State.next_byCore live hn, ?_⟩
    simp_all +decide [State.arm, ↓State.reg_mk]
  · refine ⟨_, congrArg Host.Outcome.next (s.whenLive_live _ live), ?_⟩
    simp_all [State.armReport]
  · refine ⟨_, congrArg Host.Outcome.next (s.whenLive_live _ live), ?_⟩
    unfold State.armReport
    simp only [h1, State.prx_took, h2, if_true]
    obtain ⟨wait, arm, error, peer, switch⟩ := State.refuseArm_refuses _ 8 (by decide)
    exact ⟨wait, arm, error, peer⟩
  · refine ⟨_, congrArg Host.Outcome.next (s.whenLive_live _ live), ?_⟩
    simp_all [State.armReport]
  · refine ⟨_, congrArg Host.Outcome.next (s.whenLive_live _ live), ?_⟩
    obtain ⟨wait, arm, error, peer, switch⟩ := s.refuseArm_refuses 8 (by decide)
    unfold State.armTimeout
    rw [if_pos ⟨h1, h2⟩]
    exact ⟨wait, arm, error⟩
  · refine ⟨_, State.next_byCore live hn, ?_⟩
    unfold State.disarm
    rw [if_pos ⟨h1, ne_true_of_eq_false h2⟩]
    split <;> simp +decide [State.clearArm, ↓State.reg_mk]
  · refine ⟨_, State.next_byCore live hn, ?_⟩
    simp_all +decide [State.disarm]
  · refine ⟨_, congrArg Host.Outcome.next (s.whenLive_live _ live), ?_⟩
    simp_all [State.commit, State.switchCommitted]
end Sys2Proof.Machine
end

section
/-! SUPPORT. The image switch, Park, and the conditions that select a variant (O7). -/
set_option linter.unusedSimpArgs false
namespace Sys2Proof.Machine

@[simp] theorem State.prx_send (s : State) (m : LinkMsg) : (s.send m).prx = s.prx :=
  prx_of_without (s.send_without m (List.Subset.refl _)) (by simp)
@[simp] theorem State.reg_of_serveParked (s : State) (r : Nat) (h : r / 0x100000 ∉ [3, 8, 9, 13, 15, 20]) :
    (s.serveParked).reg r = s.reg r :=
  reg_of_without (s.serveParked_without (List.Subset.refl _)) (by simpa using h)
@[simp] theorem State.reg_of_readmit (s : State) (cause : Nat) (a : Adm) (r : Nat) :
    (s.readmit cause a).reg r = s.reg r :=
  reg_of_without (s.readmit_without cause a (List.Subset.refl _)) (by simp)
@[simp] theorem State.reg_of_switchTenants (s : State) (old : Option Image) (new : Image) (r : Nat) :
    (s.switchTenants old new).reg r = s.reg r :=
  reg_of_without (s.switchTenants_without old new (List.Subset.refl _)) (by simp)
@[simp] theorem State.prx_variantChanged (s : State) (v : Nat) : (s.variantChanged v).prx = s.prx :=
  prx_of_without (s.variantChanged_without v (List.Subset.refl _)) (by simp)
@[simp] theorem State.prx_flushIntern (s : State) : (s.flushIntern).prx = s.prx :=
  prx_of_without (s.flushIntern_without (List.Subset.refl _)) (by simp)
@[simp] theorem State.reg_of_flushIntern (s : State) (r : Nat) (h : r / 0x100000 ∉ [1, 3, 11, 19]) :
    (s.flushIntern).reg r = s.reg r :=
  reg_of_without (s.flushIntern_without (List.Subset.refl _)) (by simpa using h)
@[simp] theorem State.prx_pump (s : State) : (s.pump).prx = s.prx :=
  prx_of_without (s.pump_without (List.Subset.refl _)) (by simp)
@[simp] theorem State.reg_of_pump (s : State) (r : Nat) (h : r / 0x100000 ∉ [13, 15]) :
    (s.pump).reg r = s.reg r :=
  reg_of_without (s.pump_without (List.Subset.refl _)) (by simpa using h)

/-! ## The conditions -/

/-- The conditions note since when they hold and the frame of clearing, and show in bits 9 to 11 of PRX_STATUS. -/
theorem State.conditions_writes (s : State) : (∃ a b c d,
    s.conditions.prx = { s.prx with since3 := a, since1 := b, since2 := c, clearFrame := d }) ∧
    ∀ r, r / 0x100000 ∉ [13, 15] → s.conditions.reg r =
      (((s.setBit Reg.prxStatus 9 (s.bit Reg.ftbStatus 8 || s.prx.peerThermal || s.prx.phaseMismatch)).setBit
        Reg.prxStatus 10 (s.prx.lost != [])).setBit Reg.prxStatus 11 s.prx.thermal).reg r := by
  unfold State.conditions
  extract_lets t
  have same : t.prx = s.prx := rfl
  split
  · exact ⟨⟨_, _, _, _, same⟩, fun _ _ => rfl⟩
  · extract_lets mark g u f v
    split_ifs
    · exact ⟨⟨_, _, _, _, same⟩, fun _ _ => rfl⟩
    · exact ⟨⟨_, _, _, _, rfl⟩, fun _ _ => rfl⟩
    · exact ⟨⟨_, _, _, _, rfl⟩, fun _ _ => rfl⟩
    · exact ⟨⟨_, _, _, _, State.prx_send v _⟩, fun r h => v.reg_of_send _ r h⟩
    · exact ⟨⟨_, _, _, _, rfl⟩, fun _ _ => rfl⟩

section
variable (s : State)

@[simp] theorem State.active_conditions : s.conditions.prx.active = s.prx.active := by
  obtain ⟨⟨a, b, c, d, h⟩, _⟩ := s.conditions_writes; rw [h]
@[simp] theorem State.staged_conditions : s.conditions.prx.staged = s.prx.staged := by
  obtain ⟨⟨a, b, c, d, h⟩, _⟩ := s.conditions_writes; rw [h]
@[simp] theorem State.switchF_conditions : s.conditions.prx.switchF = s.prx.switchF := by
  obtain ⟨⟨a, b, c, d, h⟩, _⟩ := s.conditions_writes; rw [h]
@[simp] theorem State.heat_conditions : s.conditions.prx.thermal = s.prx.thermal := by
  obtain ⟨⟨a, b, c, d, h⟩, _⟩ := s.conditions_writes; rw [h]
@[simp] theorem State.tj256_conditions : s.conditions.prx.tj256 = s.prx.tj256 := by
  obtain ⟨⟨a, b, c, d, h⟩, _⟩ := s.conditions_writes; rw [h]
@[simp] theorem State.phaseMismatch_conditions : s.conditions.prx.phaseMismatch = s.prx.phaseMismatch := by
  obtain ⟨⟨a, b, c, d, h⟩, _⟩ := s.conditions_writes; rw [h]
@[simp] theorem State.peerThermal_conditions : s.conditions.prx.peerThermal = s.prx.peerThermal := by
  obtain ⟨⟨a, b, c, d, h⟩, _⟩ := s.conditions_writes; rw [h]

@[simp] theorem State.reg_conditions_ne (r : Nat) (hr : r ≠ Reg.prxStatus) (h : r / 0x100000 ∉ [13, 15]) :
    s.conditions.reg r = s.reg r := by
  rw [s.conditions_writes.2 r h]
  simp [hr.symm]

theorem State.status_conditions (lo w : Nat) (h : lo + w ≤ 9) :
    wordField (s.conditions.reg Reg.prxStatus) lo w = wordField (s.reg Reg.prxStatus) lo w := by
  rw [s.conditions_writes.2 _ (by decide)]
  simp only [State.reg_of_setBit, if_true]
  rw [wordField_setWordField_disjoint _ _ _ _ _ _ (by omega), wordField_setWordField_disjoint _ _ _ _ _ _ (by omega),
    wordField_setWordField_disjoint _ _ _ _ _ _ (by omega)]

theorem State.thermal_conditions : wordField (s.conditions.reg Reg.prxStatus) 11 1 = s.prx.thermal.toNat := by
  rw [s.conditions_writes.2 _ (by decide)]
  simp
end

@[simp] theorem State.prx_finish (s : State) (c : CmdId) (status : Nat) (dw0 : Word) (dnr : Bool) : (s.finish c status dw0 dnr).prx = s.prx :=
  prx_of_without (s.finish_without c status dw0 dnr (List.Subset.refl _)) (by simp)
@[simp] theorem State.prx_serveWrite (s : State) (q : Sqe) : (s.serveWrite q).prx = s.prx :=
  prx_of_without (s.serveWrite_without q (List.Subset.refl _)) (by simp)
@[simp] theorem State.prx_serveRead (s : State) (q : Sqe) (data equal : Bool) : (s.serveRead q data equal).prx = s.prx :=
  prx_of_without (s.serveRead_without q data equal (List.Subset.refl _)) (by simp)
@[simp] theorem State.prx_serveZeroes (s : State) (q : Sqe) : (s.serveZeroes q).prx = s.prx :=
  prx_of_without (s.serveZeroes_without q (List.Subset.refl _)) (by simp)
@[simp] theorem State.prx_serveDsm (s : State) (q : Sqe) (ranges : List (Nat × Nat)) : (s.serveDsm q ranges).prx = s.prx :=
  prx_of_without (s.serveDsm_without q ranges (List.Subset.refl _)) (by simp)
@[simp] theorem State.prx_serveCopy (s : State) (q : Sqe) (ranges : List (Nat × Nat)) : (s.serveCopy q ranges).prx = s.prx :=
  prx_of_without (s.serveCopy_without q ranges (List.Subset.refl _)) (by simp)

@[simp] theorem State.prx_showJournal (s : State) : (s.showJournal).prx = s.prx :=
  prx_of_without (s.showJournal_without (List.Subset.refl _)) (by simp)

/-! ## The image, and commands that are served late or admitted anew -/

/-- The image in force, the one staged and the frame of a switch are in a state as in another. -/
structure State.SameImage (s t : State) : Prop where
  active : t.prx.active = s.prx.active
  staged : t.prx.staged = s.prx.staged
  switchF : t.prx.switchF = s.prx.switchF

section
variable {s t u : State}

theorem State.SameImage.refl : s.SameImage s := ⟨rfl, rfl, rfl⟩

theorem State.SameImage.trans (h : s.SameImage t) (k : t.SameImage u) : s.SameImage u :=
  ⟨k.active.trans h.active, k.staged.trans h.staged, k.switchF.trans h.switchF⟩

theorem State.SameImage.of_prx (h : t.prx = s.prx) : s.SameImage t := ⟨by rw [h], by rw [h], by rw [h]⟩

theorem State.SameImage.foldl {α : Type} {f : State → α → State} (each : ∀ (s : State) a, s.SameImage (f s a)) (l : List α)
    (s : State) : s.SameImage (l.foldl f s) := by
  induction l generalizing s with
  | nil => exact .refl
  | cons a l ih => exact (each s a).trans (ih (f s a))

theorem State.sameImage_ioGate (s : State) (q : Sqe) (i : Instr) (again : Bool) {f : State → State} {t : State} (e : f s = t) (h : t.prx = s.prx) :
    s.SameImage (s.ioGate q i again f) := by
  unfold State.ioGate
  split
  · exact .of_prx (by simp)
  · split
    · exact .of_prx rfl
    · split
      · exact ⟨rfl, rfl, rfl⟩
      · split
        · exact .of_prx (State.prx_showJournal _)
        · exact .of_prx (e ▸ h)

theorem State.sameImage_served (s : State) (q : Sqe) (i : Instr) {f : State → State} {t : State} (e : f s = t) (h : t.prx = s.prx) :
    s.SameImage (if (s.cmd? q.id).any (·.status.isNone) then s.ioGate q i true f else s) := by
  split
  · exact s.sameImage_ioGate q i true e h
  · exact .refl

theorem State.sameImage_serveIo (s : State) (i : Instr) : s.SameImage (s.serveIo i) := by
  unfold State.serveIo
  dsimp only
  split
  · exact s.sameImage_served _ _ rfl (s.prx_serveWrite _)
  · exact s.sameImage_served _ _ rfl (s.prx_serveRead _ _ _)
  · exact s.sameImage_served _ _ rfl (s.prx_serveRead _ _ _)
  · exact s.sameImage_served _ _ rfl (s.prx_serveRead _ _ _)
  · exact s.sameImage_served _ _ rfl (s.prx_serveZeroes _)
  · exact s.sameImage_served _ _ rfl (s.prx_serveDsm _ _)
  · exact s.sameImage_served _ _ rfl (s.prx_serveCopy _ _)
  · exact .refl

theorem State.sameImage_serveParked (s : State) : s.SameImage s.serveParked := by
  unfold State.serveParked
  split
  · refine .trans (t := { s with prx := { s.prx with parked := [] } }) ⟨rfl, rfl, rfl⟩ (.foldl State.sameImage_serveIo _ _)
  · exact .refl
end

@[simp] theorem State.reg_of_foldl {α : Type} {f : State → α → State} {r : Nat} (each : ∀ (s : State) a, (f s a).reg r = s.reg r)
    (l : List α) (s : State) : (l.foldl f s).reg r = s.reg r := by
  induction l generalizing s with
  | nil => rfl
  | cons a l ih => exact (ih (f s a)).trans (each s a)

/-- A variant that is selected is one of the four (Table 3-7). -/
theorem State.remaining_lt (s : State) (i : Image) : s.remaining i < 4 := by
  unfold State.remaining
  split_ifs <;> decide

theorem State.variantDue_lt {s : State} {i : Image} {v : Nat} (h : s.variantDue i = some v) : v < 4 := by
  unfold State.variantDue at h
  split at h
  · cases h
  · dsimp only at h
    split at h
    case h_1 w found =>
      have := List.mem_of_find?_eq_some found
      simp only [Option.some.injEq] at h
      simp at this
      omega
    case h_2 =>
      split at h
      · have := s.remaining_lt i
        simp only [Option.some.injEq] at h
        omega
      · cases h

theorem State.selectVariant_lt (s : State) (i : Image) : s.selectVariant i < 4 := by
  unfold State.selectVariant
  split_ifs <;> decide

/-- The variant changes in PRX_STATUS, is counted, raises its event and shows in PRX_FRAME_TRIGGER. -/
theorem State.reg_variantChanged (s : State) (v r : Nat) (h : r / 0x100000 ∉ [13, 15]) : (s.variantChanged v).reg r =
    ((((s.setField Reg.prxStatus 2 2 v).raise Reg.prxEvent 4).inc Reg.prxVariantCnt).setField Reg.prxFrameTrigger 0 2 v).reg r := by
  unfold State.variantChanged
  split_ifs
  · exact State.reg_of_send _ _ r h
  · exact State.reg_of_send _ _ r h
  · rfl

theorem State.variantChanged_writes (s : State) {v : Nat} (lt : v < 4) :
    (s.variantChanged v).variant = v ∧ (s.variantChanged v).num Reg.prxVariantCnt = satAdd 32 (s.num Reg.prxVariantCnt) 1 ∧
    (s.variantChanged v).bit Reg.prxEvent 4 = true := by
  simp +decide [State.variant, State.reg_variantChanged, Nat.mod_eq_of_lt lt]

/-- An image switch: the staged image is the one in force, the arm ends, and the device is in Run (R109, R110). -/
theorem State.imageSwitch_switches {s : State} {f : Nat} {j : Image} (frame : s.prx.switchF = some f) (staged : s.prx.staged = some j)
    (now : s.switchNow f j = true) :
    s.imageSwitch.prx.active = some j ∧ s.imageSwitch.prx.staged = none ∧ s.imageSwitch.prx.switchF = none ∧
    s.imageSwitch.bit Reg.prxArm 0 = false ∧ s.imageSwitch.reg Reg.prxActiveId = j.id ∧ s.imageSwitch.inRun = true ∧
    s.imageSwitch.bit Reg.prxEvent 2 = true := by
  unfold State.imageSwitch
  simp -zeta only [frame, staged]
  rw [if_pos now]
  extract_lets wasRun a a' b b' b'' c d e f' g h i
  have image : i.prx = f'.prx := by
    simp only [i]
    split_ifs <;> simp [h]
  have regs : ∀ r, r ≠ Reg.prxStatus → r ≠ Reg.prxEvent → r ≠ Reg.prxVariantCnt → r ≠ Reg.prxFrameTrigger →
      r / 0x100000 ∉ [13, 15] → i.reg r = f'.reg r := fun r h1 h2 h3 h4 h5 => by
    have h5' : ¬ r / 0x100000 = 13 ∧ ¬ r / 0x100000 = 15 := by simpa using h5
    simp only [i]
    split_ifs <;> simp [h, State.reg_variantChanged, h1.symm, h2.symm, h3.symm, h4.symm, h5']
  have event : i.bit Reg.prxEvent 2 = true := by
    simp only [i]
    split_ifs <;> simp +decide [h, State.reg_variantChanged, f']
  have running : wasRun = true → s.inRun = true := id
  have run : i.inRun = true := by
    simp only [i]
    split_ifs with was
    · simpa +decide [State.inRun, State.prxState, f', e, d, c, b, a, ↓State.reg_mk] using running was
    · simpa +decide [State.inRun, State.prxState, State.reg_variantChanged, f', e, d, c, b, a, ↓State.reg_mk] using running was
    · simp +decide [State.inRun, State.prxState, h]
    · simp +decide [State.inRun, State.prxState, h]
  have arm : i.bit Reg.prxArm 0 = false := by
    simp +decide [regs, f', e, d]
  have shown : i.reg Reg.prxActiveId = j.id := by
    simp +decide [regs, f', e]
  split
  · simp only [State.inRun, State.prxState, State.field_eq, State.bit_eq] at run event arm ⊢
    simp +decide [State.parkPend, image, State.status_conditions _ 0 2, run, event, arm, shown, f', e, d, c, b, ↓State.reg_mk]
  · simp only [State.inRun, State.prxState, State.field_eq, State.bit_eq] at run event arm ⊢
    simp +decide [image, State.status_conditions _ 0 2, run, event, arm, shown, f', e, d, c, b]

/-- Settles O7: clause by clause; the conditions, a variant's change, an arm's refusal and an image switch through the lemmas
that say what they write. -/
theorem imageSwitchAndVariants : Obligations.ImageSwitchAndVariants := by
  unfold Obligations.ImageSwitchAndVariants
  refine ⟨fun s f j live h1 h2 h3 => ?_, fun s n live hn h1 h2 => ?_, fun s n live hn h1 h2 => ?_, fun s n live hn h1 h2 => ?_,
    fun s f live h1 h2 h3 h4 => ?_, fun s i v live h1 h2 h3 => ?_, fun s n v i e live hn h1 h2 => ?_, fun s v live h1 => ?_,
    fun s v live h1 h2 => ?_, fun s v live h1 h2 => ?_, fun s f live h1 h2 h3 => ?_, fun s i live h1 h2 => ?_,
    fun s live h1 h2 => ?_, fun s e live => ?_⟩
  · obtain ⟨active, staged, switchF, arm, id, run, event⟩ := State.imageSwitch_switches h1 h2 h3
    have served := s.imageSwitch.sameImage_serveParked
    refine ⟨_, congrArg Host.Outcome.next (s.whenLive_live _ live), served.active.trans active, served.staged.trans staged,
      served.switchF.trans switchF, ?_⟩
    simp_all +decide [State.inRun, State.prxState]
  · refine ⟨_, State.next_byCore live hn, ?_⟩
    simp_all +decide [State.parkRequest, State.parkPend, State.prxState, ↓State.reg_mk]
  · refine ⟨_, State.next_byCore live hn, ?_⟩
    obtain ⟨wait, arm, error, peer, switch⟩ := s.refuseArm_refuses 7 (by decide)
    unfold State.parkRequest
    rw [if_neg (fun c => ne_true_of_eq_false h2 c.2), if_pos h1]
    generalize s.refuseArm 7 = t at arm error
    split
    · simp_all +decide [State.parkPend, State.prxState, ↓State.reg_mk]
    · simp_all
  · refine ⟨_, State.next_byCore live hn, ?_⟩
    simp_all +decide [State.parkRequest]
  · refine ⟨_, congrArg Host.Outcome.next (s.whenLive_live _ live), ?_⟩
    unfold State.enterPark
    rw [if_pos ⟨h1, by rw [h2, Option.any_some]; exact decide_eq_true h3, h4⟩]
    extract_lets a a' b b' c c' d e t
    have active : t.prx.active = none := by
      simp only [t]
      split <;> simp [e, d, c, b]
    simp +decide [State.prxState, active]
  · refine ⟨_, congrArg Host.Outcome.next (s.whenLive_live _ live), ?_⟩
    obtain ⟨variant, count, event⟩ := s.variantChanged_writes (State.variantDue_lt h3)
    unfold State.variantSwitch
    simp only [h1, h2, h3, if_true]
    simp +decide [State.variant, State.status_conditions _ 2 2, ↓State.reg_mk] at variant count event ⊢
    exact ⟨variant, event, count⟩
  · refine ⟨_, State.next_byCore live hn, ?_⟩
    simp_all [State.tokenTrim, State.trim, Tab.get_modify]
  · refine ⟨_, congrArg Host.Outcome.next (s.whenLive_live _ live), ?_⟩
    simp [State.junctionSample, h1, State.thermal_conditions]
  · refine ⟨_, congrArg Host.Outcome.next (s.whenLive_live _ live), ?_⟩
    have a : ¬ 25600 ≤ v := by omega
    have b : ¬ v ≤ 24320 := by omega
    simp [State.junctionSample, a, b]
  · refine ⟨_, congrArg Host.Outcome.next (s.whenLive_live _ live), ?_⟩
    have a : ¬ 25600 ≤ v := by omega
    simp [State.junctionSample, a, h1, h2, State.now]
  · refine ⟨_, congrArg Host.Outcome.next (s.whenLive_live _ live), ?_⟩
    unfold State.thermalClear
    rw [if_pos ⟨h1, by rw [h2, Option.any_some]; exact decide_eq_true h3⟩]
    simp [State.thermal_conditions]
  · refine ⟨_, congrArg Host.Outcome.next (s.whenLive_live _ live), ?_⟩
    simp_all [State.driftClear]
  · refine ⟨_, congrArg Host.Outcome.next (s.whenLive_live _ live), ?_⟩
    simp_all [State.phaseClear]
  · refine ⟨_, congrArg Host.Outcome.next (s.whenLive_live _ live), ?_⟩
    simp_all [State.peerVariant3]
end Sys2Proof.Machine
end

section
/-! SUPPORT. What a slot's beginning and end leave as they are: the capacity marked as taken, and whether the host's flow
control holds deliveries (O8). -/
set_option linter.unusedSimpArgs false
namespace Sys2Proof.Machine

/-- The capacity marked as taken and the hold of deliveries are in a state as in another. -/
structure State.SameSlots (s t : State) : Prop where
  took : t.prx.tookOwned = s.prx.tookOwned
  stalled : t.hpt.stalled = s.hpt.stalled

section
variable {s t u : State}

theorem State.SameSlots.refl : s.SameSlots s := ⟨rfl, rfl⟩

theorem State.SameSlots.trans (h : s.SameSlots t) (k : t.SameSlots u) : s.SameSlots u :=
  ⟨k.took.trans h.took, k.stalled.trans h.stalled⟩

/-- A step whose law lists neither the image's part nor the Host Port's. -/
theorem State.SameSlots.of_law {W : List Part} (law : t.without W = s.without W) (hw : W.elem .prx = false ∧ W.elem .hpt = false) :
    s.SameSlots t :=
  ⟨by rw [prx_of_without law (by simpa using hw.1)], by rw [hpt_of_without law (by simpa using hw.2)]⟩

theorem State.SameSlots.law {W : List Part} (h : s.SameSlots t) (law : u.without W = t.without W)
    (hw : W.elem .prx = false ∧ W.elem .hpt = false) : s.SameSlots u :=
  h.trans (.of_law law hw)

theorem State.SameSlots.ite {p : Prop} [Decidable p] (h : s.SameSlots t) (k : s.SameSlots u) :
    s.SameSlots (if p then t else u) := by
  split
  · exact h
  · exact k

theorem State.sameSlots_foldl {α : Type} {f : State → α → State} (each : ∀ (s : State) a, s.SameSlots (f s a)) (l : List α)
    (s : State) : s.SameSlots (l.foldl f s) := by
  induction l generalizing s with
  | nil => exact .refl
  | cons a l ih => exact (each s a).trans (ih (f s a))

/-! ## The Host Port -/

theorem State.sameSlots_toHost (s : State) (o : Out) : s.SameSlots (s.toHost o) := by
  unfold State.toHost State.linkBusy
  dsimp only
  split <;> exact ⟨rfl, rfl⟩

theorem State.sameSlots_askXlat (s : State) (f page : Nat) : s.SameSlots (s.askXlat f page) := by
  unfold State.askXlat
  split
  · exact .refl
  · exact .trans ⟨by rfl, by rfl⟩ (State.sameSlots_toHost _ _)

theorem State.sameSlots_awaitXlat (s : State) (x : Cmd) : s.SameSlots (s.awaitXlat x) := by
  unfold State.awaitXlat
  split
  · exact .refl
  · exact .trans ⟨by rfl, by rfl⟩ (State.sameSlots_askXlat _ _ _)

theorem State.sameSlots_issueNp (s : State) (fn : Nat) (kind : NpKind) (off len part : Nat) :
    s.SameSlots (s.issueNp fn kind off len part) := by
  unfold State.issueNp
  split
  · extract_lets r
    refine .trans (.trans (t := { s with hpt := { s.hpt with np := s.hpt.np ++ [r] } }) ⟨by rfl, by rfl⟩ ?_) (State.sameSlots_toHost _ _)
    exact .of_law (State.showTags_without _ (List.Subset.refl _)) (by decide)
  · exact .refl

theorem State.sameSlots_readHost (s : State) (fn : Nat) (kind : NpKind) (off len : Nat) (part : Nat → Nat) :
    s.SameSlots (s.readHost fn kind off len part) := by
  unfold State.readHost
  exact .ite (State.sameSlots_foldl (fun t p => t.sameSlots_issueNp ..) _ _) .refl

theorem State.sameSlots_msix (s : State) (f vec : Nat) : s.SameSlots (s.msix f vec) := by
  unfold State.msix
  dsimp only
  refine .ite .refl (.ite ⟨rfl, rfl⟩ (.ite ⟨rfl, rfl⟩ (.trans ⟨by rfl, by rfl⟩ (State.sameSlots_toHost _ _))))

theorem State.sameSlots_internDone (s : State) (e : Intern) : s.SameSlots (s.internDone e) := by
  unfold State.internDone
  split
  · split
    · refine State.sameSlots_foldl (fun t o => ?_) _ _
      split
      · exact t.sameSlots_issueNp ..
      · exact ⟨rfl, rfl⟩
    · exact ⟨rfl, rfl⟩
  · have sent := State.sameSlots_foldl (fun (t : State) o => t.sameSlots_toHost o) e.outs s
    dsimp only
    split
    · exact .trans (sent.trans ⟨by rfl, by rfl⟩) (.of_law (State.showRing_without _ (List.Subset.refl _)) (by decide))
    · exact .trans (sent.trans ⟨by rfl, by rfl⟩) (.of_law (State.showTlnRing_without _ (List.Subset.refl _)) (by decide))
    · exact sent.trans ⟨by rfl, by rfl⟩
    · exact sent.trans (State.sameSlots_msix ..)
    · exact sent

theorem State.sameSlots_serveIntern (s : State) (deliver : Bool) (n : Nat) : s.SameSlots (s.serveIntern deliver n) := by
  unfold State.serveIntern
  exact .trans ⟨by rfl, by rfl⟩ (State.sameSlots_foldl (fun t e => t.sameSlots_internDone e) _ _)

theorem State.sameSlots_visit (s : State) (f : Nat) : s.SameSlots (s.visit f) := by
  unfold State.visit
  split
  · exact .refl
  · extract_lets n page t
    refine State.SameSlots.trans (t := t) (.ite (.trans ?_ (State.sameSlots_readHost ..)) (State.sameSlots_askXlat ..)) ⟨rfl, rfl⟩
    unfold State.when
    split <;> exact ⟨rfl, rfl⟩

theorem State.sameSlots_visits (s : State) (n : Nat) (y : SlotAt) : s.SameSlots (s.visits n y) :=
  State.sameSlots_foldl (fun t f => t.sameSlots_visit f) _ _

theorem State.sameSlots_fetchStage (s : State) (c : CmdId) (units : Nat) : s.SameSlots (s.fetchStage c units) := by
  unfold State.fetchStage
  have asked : ∀ (t u : State) (f : Cmd → Cmd), t.SameSlots u → t.SameSlots (if u.hpt.np.length = t.hpt.np.length then u else u.updCmd c f) :=
    fun t u f h => .ite h (h.trans ⟨by rfl, by rfl⟩)
  refine State.sameSlots_foldl (fun t _ => ?_) _ _
  split
  · exact .refl
  · extract_lets u k b v
    refine .ite (asked t u _ (State.sameSlots_readHost ..)) (.ite .refl (asked t v _ (State.sameSlots_readHost ..)))

theorem State.sameSlots_deliverStage (s : State) (c : CmdId) (units : Nat) : s.SameSlots (s.deliverStage c units) := by
  unfold State.deliverStage
  split
  · exact .refl
  · extract_lets us a b
    have ha : s.SameSlots a := .ite ⟨rfl, rfl⟩ .refl
    have hb : s.SameSlots b := ha.trans (.ite ⟨rfl, rfl⟩ .refl)
    refine .law (hb.trans (State.sameSlots_foldl (fun t r => ?_) _ _)) (State.readSettle_without _ _ (List.Subset.refl _)) (by decide)
    exact .trans (.of_law (State.setPhase_without _ _ _ _ (List.Subset.refl _)) (by decide))
      (State.sameSlots_foldl (fun t o => t.sameSlots_toHost o) _ _)

/-! ## Admissions -/

theorem State.sameSlots_admitOn (s : State) (x : Cmd) (a : Adm) (lanes : List Nat) : s.SameSlots (s.admitOn x a lanes) := by
  unfold State.admitOn
  extract_lets bounded put on t
  split
  · exact ⟨rfl, rfl⟩
  · split
    · exact .refl
    · have ht : s.SameSlots t := .ite ⟨rfl, rfl⟩ .refl
      split
      · exact ht.trans ⟨by rfl, by rfl⟩
      · exact ht

theorem State.sameSlots_readmit (s : State) (cause : Nat) (a : Adm) : s.SameSlots (s.readmit cause a) := by
  unfold State.readmit
  extract_lets t
  have ht : s.SameSlots t := ⟨rfl, rfl⟩
  split
  · exact ht.trans (State.sameSlots_admitOn ..)
  · exact ht

theorem State.sameSlots_admitRead (s : State) (c : CmdId) (j : DecodeJob) : s.SameSlots (s.admitRead c j) := by
  unfold State.admitRead
  split
  · exact .refl
  · split
    · exact .refl
    · refine .ite ?_ .refl
      exact .ite (State.sameSlots_admitOn ..) ((State.sameSlots_admitOn ..).trans ⟨by rfl, by rfl⟩)

theorem State.sameSlots_moveLegs (s : State) (n : Nat) (p : Leg → Bool) (js : List (DecodeJob × Leg)) {f : State → DecodeJob → State}
    (each : ∀ (s : State) j, s.SameSlots (f s j)) : s.SameSlots (s.moveLegs n p js f) :=
  State.sameSlots_foldl (fun t (q : DecodeJob × Leg) => each t q.1) _ _

theorem State.sameSlots_setLeg (s : State) (j : DecodeJob) (f : Leg → Leg) : s.SameSlots (s.setLeg j f) :=
  .of_law (State.setLeg_without _ _ _ (List.Subset.refl _)) (by decide)

theorem State.sameSlots_busEnds (s : State) (j : DecodeJob) : s.SameSlots (s.busEnds j) := by
  unfold State.busEnds
  split
  · exact .refl
  · split
    · exact .refl
    · refine .ite ?_ (State.sameSlots_setLeg ..)
      extract_lets t
      have ht : s.SameSlots t := State.sameSlots_setLeg ..
      split
      · exact ht.trans (State.sameSlots_admitRead ..)
      · exact ht

theorem State.sameSlots_busOthers (s : State) (y : SlotAt) (lent : Bool) (n : Nat) : s.SameSlots (s.busOthers y lent n) := by
  unfold State.busOthers
  extract_lets free waits mine t u
  have legs : ∀ js, s.SameSlots (s.moveLegs n waits js State.busEnds) := fun js => s.sameSlots_moveLegs n waits js State.sameSlots_busEnds
  split
  · exact legs _
  · split
    · exact .ite ((legs _).trans ⟨by rfl, by rfl⟩) (legs _)
    · split
      · exact .ite ⟨rfl, rfl⟩ ⟨rfl, rfl⟩
      · exact .ite ((legs _).trans ⟨by rfl, by rfl⟩) .refl

theorem State.sameSlots_laneOthers (s : State) (lane : Nat) (y : SlotAt) (lent : Bool) (n : Nat) :
    s.SameSlots (s.laneOthers lane y lent n) := by
  unfold State.laneOthers
  split
  · exact State.sameSlots_busOthers ..
  · exact .of_law (State.decodeOthers_without _ _ _ _ _ (List.Subset.refl _)) (by decide)
  · exact .of_law (State.decodeOthers_without _ _ _ _ _ (List.Subset.refl _)) (by decide)
  · refine .ite ?_ .refl
    exact .ite ((State.sameSlots_visits ..).trans (State.sameSlots_serveIntern ..)) (State.sameSlots_visits ..)
  · exact .ite (State.sameSlots_serveIntern ..) .refl
  · exact .of_law (State.openMirror_without _ _ _ _ (List.Subset.refl _)) (by decide)
  · exact .refl

theorem State.sameSlots_beginStage (s : State) (a : Adm) : s.SameSlots (s.beginStage a) := by
  unfold State.beginStage
  have ended : s.SameSlots (s.endAdm a) := ⟨rfl, rfl⟩
  have begun : s.SameSlots (s.beginAdm a) := ⟨rfl, rfl⟩
  split
  · exact ended
  · rename_i x _
    have later : s.SameSlots ((if s.dmaOk x.id.fn then s.awaitXlat x else s).readmit 7 a) :=
      .trans (.ite (State.sameSlots_awaitXlat ..) .refl) (State.sameSlots_readmit ..)
    dsimp only
    split
    · exact ended.law (State.cipherStage_without _ _ _ (List.Subset.refl _)) (by decide)
    · exact .ite (State.sameSlots_readmit ..) (.ite (ended.trans (State.sameSlots_deliverStage ..)) later)
    · exact .ite (begun.trans (State.sameSlots_fetchStage ..)) later
    · exact ended.trans (State.sameSlots_moveLegs _ _ _ _ State.sameSlots_busEnds)
    · exact ended.trans ⟨by rfl, by rfl⟩
    · exact begun.trans (State.sameSlots_moveLegs _ _ _ _ fun t j => State.sameSlots_setLeg ..)
    · exact begun
    · exact .refl
    · exact .refl

/-! ## Dies -/

theorem State.sameSlots_startLeg (s : State) (j : DecodeJob) (stop : Nat) : s.SameSlots (s.startLeg j stop) :=
  .of_law (State.startLeg_without _ _ _ (List.Subset.refl _)) (by decide)

theorem State.sameSlots_startProgram (s : State) (p : ProgUnit) (stop : Nat) : s.SameSlots (s.startProgram p stop) :=
  .of_law (State.startProgram_without _ _ _ (List.Subset.refl _)) (by decide)

theorem State.sameSlots_startErase (s : State) (lane stop : Nat) (b : Bool) : s.SameSlots (s.startErase lane stop b) :=
  .of_law (State.startErase_without _ _ _ _ (List.Subset.refl _)) (by decide)

theorem State.sameSlots_slotProgram (s : State) (lane : Nat) (y : SlotAt) (lent : Bool) : s.SameSlots (s.slotProgram lane y lent) := by
  unfold State.slotProgram
  refine .ite .refl ?_
  extract_lets p t pages write
  have ht : s.SameSlots t := ⟨rfl, rfl⟩
  have written : s.SameSlots (write t) :=
    ht.trans (.ite (.of_law (State.startJournal_without _ _ _ (List.Subset.refl _)) (by decide))
      (.of_law (State.startCkpt_without _ _ _ (List.Subset.refl _)) (by decide)))
  refine .ite written ?_
  split
  · refine .trans (ht.trans ?_) (State.sameSlots_startProgram ..)
    split
    · exact ⟨rfl, rfl⟩
    · exact .refl
  · exact .ite written .refl

theorem State.sameSlots_slotOwn (s : State) (lane : Nat) (y : SlotAt) (lent : Bool) : s.SameSlots (s.slotOwn lane y lent) := by
  unfold State.slotOwn
  exact .ite (State.sameSlots_slotProgram ..) (.ite (.ite (State.sameSlots_startErase ..) .refl)
    (.ite (.ite (State.sameSlots_startErase ..) .refl) .refl))

theorem State.sameSlots_slotServe (s : State) (lane : Nat) (y : SlotAt) (lent : Bool) : s.SameSlots (s.slotServe lane y lent) := by
  unfold State.slotServe
  refine .ite ?_ .refl
  split
  · exact .trans ⟨by rfl, by rfl⟩ (State.sameSlots_startLeg ..)
  · exact .refl

theorem State.sameSlots_slotMerge (s : State) (lane : Nat) (y : SlotAt) (lent : Bool) : s.SameSlots (s.slotMerge lane y lent) := by
  unfold State.slotMerge
  dsimp only
  refine .ite ?_ .refl
  split
  · exact .trans ⟨by rfl, by rfl⟩ (State.sameSlots_startLeg ..)
  · exact .refl

theorem State.sameSlots_startAdm (s : State) (a : Adm) (y : SlotAt) : s.SameSlots (s.startAdm a y) := by
  unfold State.startAdm
  split
  · exact .ite (.trans ⟨by rfl, by rfl⟩ (State.sameSlots_startLeg ..)) (State.sameSlots_readmit ..)
  · split
    · exact .ite (.trans ⟨by rfl, by rfl⟩ (State.sameSlots_startProgram ..)) (State.sameSlots_readmit ..)
    · exact ⟨rfl, rfl⟩
  · exact ⟨rfl, rfl⟩

theorem State.SameSlots.orElseStart (h : s.SameSlots t) (lane : Nat) {f : State → State} (k : ∀ t : State, t.SameSlots (f t)) :
    s.SameSlots (t.orElseStart lane f) :=
  .ite (h.trans (k t)) h

theorem State.sameSlots_idleCare (s : State) (lane : Nat) (y : SlotAt) (lent : Bool) : s.SameSlots (s.idleCare lane y lent) :=
  .of_law (State.idleCare_without _ _ _ _ (List.Subset.refl _)) (by decide)

theorem State.sameSlots_startNext (s : State) (lane : Nat) : s.SameSlots (s.startNext lane) := by
  unfold State.startNext
  split
  · exact .refl
  · refine .ite .refl ?_
    have adms := State.sameSlots_foldl (fun (t : State) a => State.SameSlots.orElseStart (s := t) .refl lane
      (f := (·.startAdm a ‹_›)) fun t => State.sameSlots_startAdm ..) (s.waitingAdms lane ‹_›) s
    dsimp only
    exact ((((adms.orElseStart lane fun t => State.sameSlots_slotOwn ..).orElseStart lane fun t =>
      State.sameSlots_slotServe ..).orElseStart lane fun t => State.sameSlots_slotMerge ..).orElseStart lane fun t =>
      State.sameSlots_idleCare ..).orElseStart lane fun t => .ite (State.sameSlots_startErase ..) .refl
end

end Sys2Proof.Machine
end

section
/-! SUPPORT. What an arm and the end of a test leave of the overrun that a slot's end shows (O8). -/
set_option linter.unusedSimpArgs false
namespace Sys2Proof.Machine

/-- The registers of an overrun and its event are in a state as in another. -/
structure State.SameOverrun (s t : State) : Prop where
  lane : t.reg Reg.prxOverrunLane = s.reg Reg.prxOverrunLane
  count : t.reg Reg.prxOverrunCnt = s.reg Reg.prxOverrunCnt
  event : t.bit Reg.prxEvent 5 = s.bit Reg.prxEvent 5

section
variable {s t u : State}

theorem State.SameOverrun.refl : s.SameOverrun s := ⟨rfl, rfl, rfl⟩

theorem State.SameOverrun.trans (h : s.SameOverrun t) (k : t.SameOverrun u) : s.SameOverrun u :=
  ⟨k.lane.trans h.lane, k.count.trans h.count, k.event.trans h.event⟩

theorem State.SameOverrun.of_regs (h : t.regs = s.regs) : s.SameOverrun t := by
  have same : ∀ r, t.reg r = s.reg r := fun r => congrArg (Tab.get · r) h
  exact ⟨same _, same _, State.bit_of_reg (same _) _⟩

theorem State.SameOverrun.of_law {W : List Part} (law : t.without W = s.without W) (hw : W.elem (.regs 5) = false) : s.SameOverrun t := by
  have same : ∀ r, r / 0x100000 = 5 → t.reg r = s.reg r := fun r page => reg_of_without law (by simpa [page] using hw)
  exact ⟨same _ (by decide), same _ (by decide), State.bit_of_reg (same _ (by decide)) _⟩

theorem State.SameOverrun.ite {p : Prop} [Decidable p] (h : s.SameOverrun t) (k : s.SameOverrun u) :
    s.SameOverrun (if p then t else u) := by
  split
  · exact h
  · exact k

theorem State.sameOverrun_refuseArm (s : State) (err : Nat) : s.SameOverrun (s.refuseArm err) := by
  unfold State.refuseArm State.clearArm
  constructor <;> simp +decide [↓State.reg_mk]

theorem State.sameOverrun_completeArm (s : State) (a : Nat) (both : Bool) : s.SameOverrun (s.completeArm a both) := by
  unfold State.completeArm
  split
  · exact s.sameOverrun_refuseArm 1
  · dsimp only
    refine .ite (s.sameOverrun_refuseArm 2) (.ite (s.sameOverrun_refuseArm 3) ?_)
    constructor <;> simp +decide [↓State.reg_mk]

theorem State.sameOverrun_meetPeerArm (s : State) (r : ArmReport) : s.SameOverrun (s.meetPeerArm r) := by
  unfold State.meetPeerArm
  split
  · exact s.sameOverrun_refuseArm 1
  · exact .ite (s.sameOverrun_refuseArm 5) (.ite (s.sameOverrun_refuseArm 6) (s.sameOverrun_completeArm _ _))

theorem State.sameOverrun_acceptArm (s : State) : s.SameOverrun s.acceptArm := by
  unfold State.acceptArm
  extract_lets p t f q v w
  have ht : s.SameOverrun t := .of_regs rfl
  have hw : t.SameOverrun w := .trans (t := v) (.of_regs rfl) (.of_law (v.reportArm_without _ (List.Subset.refl _)) (by decide))
  have hv : t.SameOverrun v := .of_regs rfl
  clear_value v w
  refine ht.trans ?_
  split
  · exact t.sameOverrun_refuseArm 1
  · refine .ite (t.sameOverrun_refuseArm 2) (.ite (t.sameOverrun_refuseArm 3) (.ite (t.sameOverrun_refuseArm 4)
      (.ite (t.sameOverrun_refuseArm 7) (.ite ?_ (hv.trans (v.sameOverrun_completeArm _ _))))))
    split
    · exact hw.trans (w.sameOverrun_meetPeerArm _)
    · exact hw.trans (.of_regs rfl)

theorem State.sameOverrun_testEnded (s : State) : s.SameOverrun s.testEnded := by
  unfold State.testEnded
  exact .ite (.trans (t := { s with mcr := { s.mcr with armDeferred := false } }) (.of_regs rfl) (State.sameOverrun_acceptArm _)) .refl


/-! ## The end of a test -/

@[simp] theorem State.mch_testEnded (s : State) : s.testEnded.mch = s.mch :=
  mch_of_without (s.testEnded_without (List.Subset.refl _)) (by simp)

@[simp] theorem State.mch_setTest (s : State) (state reason test failed : Nat) : (s.setTest state reason test failed).mch = s.mch :=
  mch_of_without (s.setTest_without state reason test failed (List.Subset.refl _)) (by simp)

@[simp] theorem State.mch_holdupGpio (s : State) (high : Bool) : (s.holdupGpio high).mch = s.mch :=
  mch_of_without (s.holdupGpio_without high (List.Subset.refl _)) (by simp)

theorem State.run_foldl_updDie (s : State) (f : Die → Die) (same : ∀ d, (f d).run = d.run) (l : List Nat) (lane : Nat) :
    ((l.foldl (fun t k => t.updDie k f) s).die lane).run = (s.die lane).run := by
  induction l generalizing s with
  | nil => rfl
  | cons k l ih =>
    refine (ih _).trans ?_
    rw [State.die_updDie]
    split
    case isTrue e => rw [same, e]
    case isFalse => rfl

theorem State.regs_foldl_updDie (s : State) (f : Die → Die) (l : List Nat) : (l.foldl (fun t k => t.updDie k f) s).regs = s.regs := by
  induction l generalizing s with
  | nil => rfl
  | cons k l ih => exact ih _

theorem State.stopTest_keeps (s : State) (lane : Nat) : s.SameOverrun s.stopTest ∧ (s.stopTest.die lane).run = (s.die lane).run := by
  unfold State.stopTest
  split
  · split
    · exact ⟨.refl, rfl⟩
    · extract_lets m a b n
      have sa : s.SameOverrun a := .ite (.trans (t := { s with mcr := { m with holdupRun := none } }) (.of_regs rfl)
        (.of_law (State.holdupGpio_without _ _ (List.Subset.refl _)) (by decide))) .refl
      have sb : s.SameOverrun b := .ite (sa.trans (.of_regs (State.regs_foldl_updDie ..))) sa
      have da : a.mch = s.mch := by
        simp only [a]
        split
        · exact State.mch_holdupGpio _ _
        · rfl
      have db : (b.die lane).run = (s.die lane).run := by
        simp only [b]
        split
        · exact (State.run_foldl_updDie a _ (by intro _; rfl) _ lane).trans (by simp only [State.die, da])
        · simp only [State.die, da]
      refine ⟨.trans (.trans (t := { b with mcr := { n with aborting := false } }) (sb.trans (.of_regs rfl)) ?_)
        (State.sameOverrun_testEnded _), ?_⟩
      · exact .trans (.of_law (State.setTest_without _ _ _ _ _ (List.Subset.refl _)) (by decide))
          (.of_law (State.raise_without _ _ _ (List.Subset.refl _)) (by decide))
      · rw [← db]
        simp only [State.die, State.mch_testEnded, State.mch_raise, State.mch_setTest]
  · exact ⟨.refl, rfl⟩
end
end Sys2Proof.Machine
end

section
/-! SUPPORT. Stages are admitted into slots, and slots begin, end and complete (O8). -/
set_option linter.unusedSimpArgs false
namespace Sys2Proof.Machine

@[simp] theorem State.reg_of_startNext (s : State) (lane : Nat) (r : Nat) (h : r / 0x100000 ∉ [7, 8, 9, 15, 20]) :
    (s.startNext lane).reg r = s.reg r :=
  reg_of_without (s.startNext_without lane (List.Subset.refl _)) (by simpa using h)
@[simp] theorem State.reg_of_suspendDie (s : State) (lane : Nat) (r : Nat) (h : r / 0x100000 ∉ [6]) :
    (s.suspendDie lane).reg r = s.reg r :=
  reg_of_without (s.suspendDie_without lane (List.Subset.refl _)) (by simpa using h)
@[simp] theorem State.reg_of_resumeDie (s : State) (lane : Nat) (r : Nat) :
    (s.resumeDie lane).reg r = s.reg r :=
  reg_of_without (s.resumeDie_without lane (List.Subset.refl _)) (by simp)
@[simp] theorem State.reg_of_beginStage (s : State) (a : Adm) (r : Nat) (h : r / 0x100000 ∉ [1, 8, 9, 10, 15]) :
    (s.beginStage a).reg r = s.reg r :=
  reg_of_without (s.beginStage_without a (List.Subset.refl _)) (by simpa using h)
@[simp] theorem State.reg_of_laneOthers (s : State) (lane : Nat) (y : SlotAt) (lent : Bool) (n : Nat) (r : Nat) (h : r / 0x100000 ∉ [1, 3, 11, 13, 15, 19]) :
    (s.laneOthers lane y lent n).reg r = s.reg r :=
  reg_of_without (s.laneOthers_without lane y lent n (List.Subset.refl _)) (by simpa using h)
@[simp] theorem State.reg_of_served (s : State) (lane group : Nat) (r : Nat) :
    (s.served lane group).reg r = s.reg r :=
  reg_of_without (s.served_without lane group (List.Subset.refl _)) (by simp)

/-! ## The beginning of a slot -/

/-- A slot's capacity marked as taken (R127). -/
def State.takeSlot (s : State) (lane : Nat) (y : SlotAt) : State :=
  { s with prx := { s.prx with tookOwned := s.prx.tookOwned.set lane (y.start + 1) } }

/-- What a slot's beginning marks and counts: its capacity as taken, where owned stages are admitted to it, and a slot that is lent. -/
theorem State.beginSlot_marks (s : State) (lane : Nat) (y : SlotAt) : ∃ t : State,
    (t = s ∨ t = s.takeSlot lane y) ∧
    ((s.waitingAdms lane y).any (·.owned) = true → y.slot.kind ≠ 7 → y.slot.kind ≠ 8 → t = s.takeSlot lane y) ∧
    (s.waitingAdms lane y = [] → y.slot.kind ≠ 2 → y.slot.kind ≠ 4 → t = s) ∧
    t.SameSlots (s.beginSlot lane y) ∧
    (s.beginSlot lane y).reg Reg.prxLentCnt = (if t.lentNow lane y then t.inc Reg.prxLentCnt else t).reg Reg.prxLentCnt := by
  unfold State.beginSlot
  extract_lets mine owned be serves progs p t room lent noCap chosen turned a b c d e reads f g h left n
  have ta : t.SameSlots a := .ite ⟨rfl, rfl⟩ .refl
  have tb : t.SameSlots b := by
    refine .ite ?_ ta
    split
    · exact ta.trans ⟨rfl, rfl⟩
    · exact ta
  have te : t.SameSlots e :=
    .trans (t := c) (tb.trans (State.sameSlots_foldl (fun t a => t.sameSlots_readmit 0 a) turned b)) ⟨rfl, rfl⟩
  have ef : e.SameSlots f := .ite (.of_law (e.suspendDie_without lane (List.Subset.refl _)) (by decide)) .refl
  have eg : e.SameSlots g := by
    refine .ite (.ite (ef.trans (State.sameSlots_foldl (fun t a => t.sameSlots_readmit 2 a) reads f)) ?_) .refl
    exact ef.trans ⟨rfl, rfl⟩
  have eh : e.SameSlots h := .ite (eg.trans (.of_law (g.resumeDie_without lane (List.Subset.refl _)) (by decide))) eg
  have counted : a.reg Reg.prxLentCnt = (if lent then t.inc Reg.prxLentCnt else t).reg Reg.prxLentCnt := rfl
  have be : b.reg Reg.prxLentCnt = a.reg Reg.prxLentCnt := by
    simp only [b]
    split
    · split <;> simp
    · rfl
  have ce : e.reg Reg.prxLentCnt = a.reg Reg.prxLentCnt := by
    simp [e, c, ↓State.reg_mk, be]
  have fe : f.reg Reg.prxLentCnt = e.reg Reg.prxLentCnt := by
    simp only [f]
    split <;> simp +decide
  have ge : g.reg Reg.prxLentCnt = e.reg Reg.prxLentCnt := by
    simp only [g]
    split_ifs <;> simp +decide [fe]
  have he : h.reg Reg.prxLentCnt = e.reg Reg.prxLentCnt := by
    simp only [h]
    split <;> simp +decide [ge]
  refine ⟨t, ?_, fun any h7 h8 => ?_, fun none h2 h4 => ?_, ?_, ?_⟩
  · simp only [t]
    split
    · exact .inr rfl
    · exact .inl rfl
  · refine if_pos (.inl fun empty => ?_)
    have kept : owned = mine.filter (·.owned) := if_neg (by simp [h7, h8])
    rw [kept, List.isEmpty_iff, List.filter_eq_nil_iff] at empty
    obtain ⟨x, mem, own⟩ := List.any_eq_true.1 any
    exact empty x mem own
  · refine if_neg ?_
    rintro (full | kind | kind)
    · apply full
      have waits : mine = [] := none
      simp only [owned, waits, State.ownedKept, State.inShare]
      split <;> simp [takeUnits]
    · exact h4 kind.1
    · exact h2 kind.2.1
  · exact .ite (te.trans (eh.trans (State.sameSlots_startNext ..)))
      (te.trans ((State.sameSlots_foldl (fun t a => t.sameSlots_beginStage a) _ e).trans (State.sameSlots_laneOthers ..)))
  · rw [← counted, ← ce]
    split
    · simp +decide [he]
    · simp +decide

/-! ## Admission -/

/-- A stage placed into a slot. -/
def Adm.placed (a : Adm) (p : Nat × SlotAt) (owned : Bool) : Adm :=
  { a with lane := p.1, start := p.2.start, stop := p.2.stop, owned := owned, started := false }

theorem State.admitOn_owned (s : State) {x : Cmd} {a : Adm} {lanes : List Nat} {p : Nat × SlotAt}
    (bounded : (x.bounded && !x.beyond && !a.best) = true)
    (fits : s.earliest lanes (fun l => s.ownedFits x { a with lane := l }) = some p) :
    s.admitOn x a lanes = s.addAdm (a.placed p true) := by
  unfold State.admitOn
  simp only [bounded, if_true, fits]
  rfl

theorem State.admitOn_free (s : State) {x : Cmd} {a : Adm} {lanes : List Nat} {p : Nat × SlotAt}
    (bounded : (x.bounded && !x.beyond && !a.best) = false)
    (fits : s.earliest lanes (fun l => s.freeFits x { a with lane := l }) = some p) :
    s.admitOn x a lanes = s.addAdm (a.placed p false) := by
  unfold State.admitOn
  simp [bounded, fits]
  rfl

/-- A due stage that finds a slot is admitted into it, and its command counts as admitted. -/
theorem State.stageAdmit_places {s : State} {c : CmdId} {k : StageKind} {lane n : Nat} {x : Cmd} {a b : Adm} (found : s.cmd? c = some x)
    (may : s.inRun ∧ ¬ x.admin ∧ x.status.isNone ∧ stageClassOk k (laneClass lane) ∧ ¬ s.laneVoid lane)
    (due : s.dueStage x k lane n = some a) (admitted : s.admitOn x a [a.lane] = s.addAdm b) :
    (s.stageAdmit c k lane n).prx.adms = s.prx.adms ++ [b] ∧
    ((s.stageAdmit c k lane n).cmd? c).map (·.admitted) = some true := by
  have placed : s.stageAdmit c k lane n = (s.addAdm b).updCmd c fun y => { y with admitted := true } := by
    unfold State.stageAdmit
    simp only [found]
    rw [if_pos may]
    simp [due, State.admitAt, admitted]
  rw [placed]
  have named : (s.addAdm b).cmd? c = some x := found
  exact ⟨rfl, by rw [State.cmd?_updCmd_same named (by intro _; rfl), Option.map_some]⟩

/-! ## A slot's beginning -/

/-- The flow control's hold that a HOST_DELIVER slot's beginning notes. -/
def State.stall (s : State) (lane : Nat) (h : Bool) : State :=
  if laneClass lane == .deliver then { s with hpt := { s.hpt with stalled := h } } else s

section
variable (s : State) (l : Nat) (h : Bool)

theorem State.inRun_stall : (s.stall l h).inRun = s.inRun := by unfold State.stall; split <;> rfl
theorem State.cell_stall : (s.stall l h).cell = s.cell := by unfold State.stall; split <;> rfl
theorem State.laneSlots_stall (lane : Nat) : (s.stall l h).laneSlots lane = s.laneSlots lane := by unfold State.stall; split <;> rfl
theorem State.laneHeld_stall (lane : Nat) (y : SlotAt) : (s.stall l h).laneHeld lane y = s.laneHeld lane y := by
  unfold State.stall; split <;> rfl
theorem State.waitingAdms_stall (lane : Nat) (y : SlotAt) : (s.stall l h).waitingAdms lane y = s.waitingAdms lane y := by
  unfold State.stall; split <;> rfl
theorem State.lentNow_stall (lane : Nat) (y : SlotAt) : (s.stall l h).lentNow lane y = s.lentNow lane y := by
  unfold State.stall; split <;> rfl
theorem State.prx_stall : (s.stall l h).prx = s.prx := by unfold State.stall; split <;> rfl
theorem State.regs_stall : (s.stall l h).regs = s.regs := by unfold State.stall; split <;> rfl
end

theorem State.slotStart_stalled (s : State) (lane : Nat) : (s.slotStart lane).hpt.stalled = s.hpt.stalled := by
  unfold State.slotStart
  split
  · rfl
  · split
    · rfl
    · split
      · rfl
      · rename_i y _ _
        obtain ⟨t, marked, _, _, same, _⟩ := s.beginSlot_marks lane y
        rw [same.stalled]
        obtain rfl | rfl := marked <;> rfl

theorem State.slotStart_begins {s : State} {lane : Nat} {y : SlotAt} (run : s.inRun = true)
    (found : (s.laneSlots lane).find? (fun z => z.start == s.cell) = some y) (free : s.laneHeld lane y = false) :
    s.slotStart lane = s.beginSlot lane y := by
  unfold State.slotStart
  rw [if_neg (not_not.2 run)]
  simp only [found]
  rw [if_neg (ne_true_of_eq_false free)]

theorem State.slotStart_waits {s : State} {lane : Nat} {y : SlotAt} (run : s.inRun = true)
    (found : (s.laneSlots lane).find? (fun z => z.start == s.cell) = some y) (held : s.laneHeld lane y = true) :
    s.slotStart lane = { s with prx := { s.prx with lateSlots := s.prx.lateSlots ++ [(lane, y.start)] } } := by
  unfold State.slotStart
  rw [if_neg (not_not.2 run)]
  simp only [found]
  rw [if_pos held]

/-! ## A slot's end -/

theorem State.beginLate_none (s : State) (lane : Nat) (none : s.prx.lateSlots = []) : s.beginLate lane = s := by
  unfold State.beginLate
  rw [List.find?_eq_none.2 (by simp [none])]

/-- An operation of the ending slot that is still on its die is marked, and shows as an overrun (R121). -/
theorem State.dieOverrun_marks {s : State} {lane stop : Nat} {op : DieOp} (run : (s.die lane).run = some op)
    (end_ : op.slotEnd = stop) (fresh : op.overran = false) (busy : op.ready = false) :
    s.dieOverrun lane stop = (s.updDie lane fun d => { d with run := d.run.map fun op => { op with overran := true } }).overrun lane := by
  unfold State.dieOverrun
  simp [run, end_, fresh, busy]

theorem State.slotEnd_overruns {s : State} {lane : Nat} {y : SlotAt} (inRun : s.inRun = true) (die : lane < 512)
    (ending : s.endingSlot lane = some y) (erase : y.slot.kind ≠ 3) (gate : y.slot.kind ≠ 5) (late : s.prx.lateSlots = [])
    (adms : s.prx.adms.all (fun a => a.lane != lane) = true) : ∃ t : State,
    s.slotEnd lane = t.stopTest ∧ t.regs = (s.dieOverrun lane y.stop).regs ∧ t.mch = (s.dieOverrun lane y.stop).mch := by
  have same : (s.dieOverrun lane y.stop).prx = s.prx := prx_of_without (s.dieOverrun_without lane y.stop (List.Subset.refl _)) (by decide)
  have none : s.prx.adms.filter (fun a => a.lane == lane && a.stop == y.stop) = [] := by
    rw [List.filter_eq_nil_iff]
    intro a mem
    have := List.all_eq_true.1 adms a mem
    simp_all
  unfold State.slotEnd
  rw [if_neg (not_not.2 inRun)]
  simp only [ending]
  have odd : ¬ (y.slot.kind = 3 ∧ y.slot.param % 2 = 1) := fun c => erase c.1
  rw [if_neg gate, if_neg odd, if_pos die]
  generalize s.dieOverrun lane y.stop = t at same
  simp only [same, none, List.filter_nil, List.isEmpty_nil, if_true, List.foldl_nil]
  rw [State.beginLate_none]
  · exact ⟨_, rfl, rfl, rfl⟩
  · simp [same, late]

/-! ## Interrupts and completions -/

@[simp] theorem State.fns_toHost (s : State) (o : Out) : (s.toHost o).fns = s.fns :=
  fns_of_without (s.toHost_without o (List.Subset.refl _)) (by simp)
@[simp] theorem State.cmds_writeCqe (s : State) (c : CmdId) (q : Nat) (k : Cq) (status : Nat) (dnr : Bool) (dw0 : Word) : (s.writeCqe c q k status dnr dw0).cmds = s.cmds :=
  cmds_of_without (s.writeCqe_without c q k status dnr dw0 (List.Subset.refl _)) (by simp)
@[simp] theorem State.fns_showRing (s : State) : (s.showRing).fns = s.fns :=
  fns_of_without (s.showRing_without (List.Subset.refl _)) (by simp)

/-- A function keeps all but its Pending Bit Array. -/
def Fn.ButPba (x y : Fn) : Prop := ∃ p, y = { x with pba := p }

theorem Fn.ButPba.refl (x : Fn) : x.ButPba x := ⟨x.pba, rfl⟩

theorem Fn.ButPba.trans {x y z : Fn} (h : x.ButPba y) (k : y.ButPba z) : x.ButPba z := by
  obtain ⟨p, rfl⟩ := h
  obtain ⟨q, rfl⟩ := k
  exact ⟨q, rfl⟩

theorem State.butPba_updFn (s : State) (g f : Nat) {k : Fn → Fn} (h : ∀ x : Fn, x.ButPba (k x)) :
    (s.fn f).ButPba ((s.updFn g k).fn f) := by
  rw [State.fn_updFn]
  split
  case isTrue e => rw [e]; exact h _
  case isFalse => exact .refl _

theorem State.butPba_msix (s : State) (g vec f : Nat) : (s.fn f).ButPba ((s.msix g vec).fn f) := by
  unfold State.msix
  dsimp only
  split
  · exact .refl _
  · split
    · exact s.butPba_updFn g f fun x => ⟨_, rfl⟩
    · split
      · exact s.butPba_updFn g f fun x => ⟨_, rfl⟩
      · simp only [State.fn, State.fns_toHost]
        exact .refl _

theorem State.butPba_foldl {α : Type} {F : State → α → State} (f : Nat) (each : ∀ (s : State) a, (s.fn f).ButPba ((F s a).fn f)) (l : List α)
    (s : State) : (s.fn f).ButPba ((l.foldl F s).fn f) := by
  induction l generalizing s with
  | nil => exact .refl _
  | cons a l ih => exact (each s a).trans (ih (F s a))

theorem State.butPba_msixDrain (s : State) (g f : Nat) : (s.fn f).ButPba ((s.msixDrain g).fn f) := by
  unfold State.msixDrain
  dsimp only
  split
  · exact .refl _
  · exact State.butPba_foldl f (fun t v => (t.butPba_updFn g f fun x => ⟨_, rfl⟩).trans (State.butPba_msix ..)) _ s

theorem State.out_subset_signal (s : State) (f vec : Nat) : s.out ⊆ (s.signal f vec).out := by
  unfold State.signal
  dsimp only
  split
  · exact s.out_subset_msix f vec
  · split
    · refine List.Subset.trans ?_ (State.out_subset_msix _ f vec)
      simp
    · simp

theorem State.cqe_mem_writeCqe (s : State) (c : CmdId) (q : Nat) (k : Cq) (status : Nat) (dnr : Bool) (dw0 : Word) :
    Out.cqe c.fn c.qid c.cid status dnr dw0 ∈ (s.writeCqe c q k status dnr dw0).out := by
  unfold State.writeCqe
  extract_lets t u v
  have posted : Out.cqe c.fn c.qid c.cid status dnr dw0 ∈ v.out := by
    simp only [v, State.emit_out, List.mem_cons, true_or]
  split
  · exact v.out_subset_signal _ _ posted
  · exact posted

/-- Settles O8: clause by clause; admission, a slot's beginning and its end through the lemmas that say what they mark. -/
theorem admissionAndSlots : Obligations.AdmissionAndSlots := by
  unfold Obligations.AdmissionAndSlots
  refine ⟨fun s c k lane n x a p live h1 h2 h3 h4 h5 h6 h7 h8 h9 h10 h11 => ?_,
    fun s c k lane n x a p live h1 h2 h3 h4 h5 h6 h7 h8 h9 => ?_, fun s c k lane n x a live h1 h2 h3 h4 h5 h6 h7 h8 h9 => ?_,
    fun s lane h y live h1 h2 h3 h4 h5 h6 => ?_, fun s lane h y live h1 h2 h3 h4 h5 h6 => ?_, fun s lane h y live h1 h2 h3 => ?_,
    fun s lane h live h1 => ?_, fun s lane y op live h1 h2 h3 h4 h5 h6 h7 h8 h9 h10 h11 => ?_,
    fun s c x st k live h1 h2 h3 h4 h5 h6 h7 h8 => ?_, fun s c x st k live h1 h2 h3 h4 h5 h6 h7 h8 => ?_,
    fun s c x st k h live h1 h2 h3 h4 h5 => ?_, fun s f n live h1 h2 => ?_, fun s f v live => ?_, fun s f live => ?_⟩
  all_goals refine ⟨_, congrArg Host.Outcome.next (s.whenLive_live _ live), ?_⟩
  · obtain ⟨adms, cmds⟩ := State.stageAdmit_places h1 ⟨h2, by simp [h3], by simp [h4], h5, by simp [h6]⟩ h7
      (s.admitOn_owned (by simp [h8, h9, h10]) h11)
    exact ⟨adms, cmds⟩
  · obtain ⟨adms, cmds⟩ := State.stageAdmit_places h1 ⟨h2, by simp [h3], by simp [h4], h5, by simp [h6]⟩ h7
      (s.admitOn_free (by simp [h8]) h9)
    exact ⟨adms, cmds⟩
  · unfold State.stageAdmit
    simp only [h1]
    rw [if_pos ⟨h2, by simp [h3], by simp [h4], h5, by simp [h6]⟩]
    simp [h7, State.admitAt, State.admitOn, h8, h9]
  · obtain ⟨t, _, owned, _, same, _⟩ := (s.stall lane h).beginSlot_marks lane y
    have begun : (s.stall lane h).slotStart lane = (s.stall lane h).beginSlot lane y :=
      State.slotStart_begins ((s.inRun_stall ..).trans h1) (by rw [s.laneSlots_stall, s.cell_stall]; exact h2)
        ((s.laneHeld_stall ..).trans h3)
    have marked := owned (by rw [s.waitingAdms_stall]; exact h4) h5 h6
    show ((s.stall lane h).slotStart lane).prx.tookOwned.get lane = _
    rw [begun, same.took, marked]
    simp [State.takeSlot]
  · obtain ⟨t, _, _, none, _, count⟩ := (s.stall lane h).beginSlot_marks lane y
    have begun : (s.stall lane h).slotStart lane = (s.stall lane h).beginSlot lane y :=
      State.slotStart_begins ((s.inRun_stall ..).trans h1) (by rw [s.laneSlots_stall, s.cell_stall]; exact h2)
        ((s.laneHeld_stall ..).trans h3)
    have same := none ((s.waitingAdms_stall ..).trans h4) h5 h6
    have regs : (s.stall lane h).reg Reg.prxLentCnt = s.reg Reg.prxLentCnt := congrArg (Tab.get · _) (s.regs_stall ..)
    show ((s.stall lane h).slotStart lane).num Reg.prxLentCnt = _
    rw [begun, State.num_eq, count, same, s.lentNow_stall]
    split <;> simp [regs]
  · have waits : (s.stall lane h).slotStart lane = _ :=
      State.slotStart_waits ((s.inRun_stall ..).trans h1) (by rw [s.laneSlots_stall, s.cell_stall]; exact h2)
        ((s.laneHeld_stall ..).trans h3)
    show ((s.stall lane h).slotStart lane).prx.lateSlots = _ ∧ ((s.stall lane h).slotStart lane).prx.adms = _
    rw [waits, s.prx_stall]
    exact ⟨rfl, rfl⟩
  · show ((s.stall lane h).slotStart lane).hpt.stalled = h
    rw [State.slotStart_stalled, State.stall, if_pos (by rw [h1]; rfl)]
  · obtain ⟨t, ended, regs, mch⟩ := State.slotEnd_overruns h1 h2 h3 h4 h5 h10 h11
    obtain ⟨kept, run⟩ := t.stopTest_keeps lane
    have reg : ∀ r, t.reg r = (s.dieOverrun lane y.stop).reg r := fun r => congrArg (Tab.get · r) regs
    rw [ended, run]
    simp only [State.num_eq, kept.lane, kept.count, kept.event, State.die, mch, reg, State.bit_eq]
    rw [State.dieOverrun_marks h6 h7 h8 h9]
    have shown : lane % 4294967296 = lane := by omega
    simp +decide [State.overrun, shown, State.die] at h6 ⊢
    rw [Tab.get_modify, if_pos rfl]
    simp [h6]
  · unfold State.cqePost
    simp -zeta only [h1, h2]
    extract_lets q t a b e d
    have found : lookupKey q (s.fn c.fn).cqs = some k := h3
    simp -zeta only [found]
    extract_lets page
    rw [if_neg (ne_true_of_eq_false h4), if_neg (by simp [h5, h6]), if_neg (by omega), if_neg (not_not.2 h8)]
    exact ⟨by simp [State.cmd?, d], State.cqe_mem_writeCqe ..⟩
  · unfold State.cqePost
    simp only [h1, h2, h3]
    rw [if_neg (ne_true_of_eq_false h4), if_neg (by simp [h5, h6]), if_pos h7, if_neg (ne_true_of_eq_false h8)]
    have same : (((s.inc Reg.qenCqWaitCnt).raise Reg.qenEvent 3).updFn c.fn fun y => { y with cqWaits := c :: y.cqWaits }).cmd? c = some x := by
      simpa [State.cmd?] using h1
    refine ⟨by rw [State.cmd?_meet_same 7 same]; rfl, ?_, ?_, ?_⟩
    · simp +decide [State.meet]
    · simp [State.meet, State.fn, Tab.get_modify]
    · simp [State.meet]
  · unfold State.cqePost
    simp only [h1, h2, h3]
    rw [if_neg (ne_true_of_eq_false h4), if_pos (by simpa using h5)]
    exact ⟨State.cmd?_meet_same 7 h1, rfl⟩
  · unfold State.holdoffExpiry
    dsimp only
    rw [if_pos (by rw [h1, Option.any_some]; exact decide_eq_true h2)]
    obtain ⟨p, kept⟩ := State.butPba_foldl f (fun t v => t.butPba_msix f v f)
      ((List.range 65).filter fun v => (s.fn f).pendCnt.get v != 0) (s.updFn f fun y => { y with timerAt := none, pendCnt := {} })
    rw [kept, State.fn_updFn_same]
    exact ⟨rfl, rfl⟩
  · obtain ⟨p, kept⟩ := (s.updFn f fun y => { y with unmasked := y.unmasked.set v true }).butPba_msixDrain f f
    show ((State.msixDrain _ f).fn f).unmasked.get v = true
    rw [kept, State.fn_updFn_same]
    exact Tab.get_set_same ..
  · obtain ⟨p, kept⟩ := (s.updFn f fun y => { y with fmask := false }).butPba_msixDrain f f
    show ((State.msixDrain _ f).fn f).fmask = false
    rw [kept, State.fn_updFn_same]
end Sys2Proof.Machine
end

section
/-! SUPPORT. The state that refutes the clauses on the sources of the Event Controller (O30). -/
namespace Sys2Proof.Machine

/-- A full event log whose overflow is to raise PWR's source, 34. -/
def fullLog : State :=
  (({ pwr := { supply := .on, stop := .none } } : State).setNum Reg.pwrEvlogProd 16384).setBit (Reg.pwrEvent + 4) 2 true

/-- Refutes O30: a write of PF0 to source 34 is dropped and counted, and its entry in a full event log raises the event of the
log's overflow, whose source is 34 (R521, R614). -/
theorem not_eventSources : ¬ Obligations.EventSources := by
  intro ⟨_, dropped, _⟩
  obtain ⟨t, next, _, same⟩ := dropped fullLog 34 (by decide) (by decide)
  obtain rfl := Host.Outcome.next.inj next
  exact absurd same (by decide)

end Sys2Proof.Machine
end

section
/-! SUPPORT. Device resets begin and end (O39). -/
set_option linter.unusedSimpArgs false
namespace Sys2Proof.Machine

@[simp] theorem State.reg_of_dropSessions (s : State) (p : Sess → Bool) (r : Nat) (h : r / 0x100000 ∉ [12, 15]) :
    (s.dropSessions p).reg r = s.reg r :=
  reg_of_without (s.dropSessions_without p (List.Subset.refl _)) (by simpa using h)
@[simp] theorem State.pwr_abandonNp (s : State) (p : Np → Bool) (quiet : Bool) : (s.abandonNp p quiet).pwr = s.pwr :=
  pwr_of_without (s.abandonNp_without p quiet (List.Subset.refl _)) (by simp) (by simp)
@[simp] theorem State.pwr_dropCmds (s : State) (p : Cmd → Bool) : (s.dropCmds p).pwr = s.pwr :=
  pwr_of_without (s.dropCmds_without p (List.Subset.refl _)) (by simp) (by simp)
@[simp] theorem State.pwr_discardFilling (s : State) (p : SWrite → Bool) : (s.discardFilling p).pwr = s.pwr :=
  pwr_of_without (s.discardFilling_without p (List.Subset.refl _)) (by simp) (by simp)
@[simp] theorem State.pwr_releaseWake (s : State) : (s.releaseWake).pwr = s.pwr :=
  pwr_of_without (s.releaseWake_without (List.Subset.refl _)) (by simp) (by simp)
@[simp] theorem State.reg_of_relevelAll (s : State) (r : Nat) (h : r / 0x100000 ∉ [15]) :
    (s.relevelAll).reg r = s.reg r :=
  reg_of_without (s.relevelAll_without (List.Subset.refl _)) (by simpa using h)
@[simp] theorem State.pwr_mediaOff (s : State) : (s.mediaOff).pwr = s.pwr :=
  pwr_of_without (s.mediaOff_without (List.Subset.refl _)) (by simp) (by simp)

@[simp] theorem State.reg_of_logNew (s : State) (e : LogEntry) (r : Nat) (h : logReg r = false) : (s.logNew e).reg r = s.reg r := by
  simp [logReg] at h
  unfold State.logNew
  dsimp only
  split <;> simp [↓State.reg_mk, h, eq_comm]

@[simp] theorem State.reg_of_restoreLog (s : State) (r : Nat) (h : logReg r = false) : s.restoreLog.reg r = s.reg r := by
  unfold State.restoreLog
  exact State.reg_of_foldl (fun t e => t.reg_of_logNew _ r h) _ _

theorem resetting_of_without {W : List Part} {s t : State} (h : t.without W = s.without W) (hW : Part.pwr ∉ W) :
    t.pwr.resetting = s.pwr.resetting ∧ t.pwr.perst = s.pwr.perst := by
  have cause := congrArg (fun u => u.pwr.resetting) h
  have perst := congrArg (fun u => u.pwr.perst) h
  simp only [State.without, hW, if_false] at cause perst
  exact ⟨cause, perst⟩

@[simp] theorem State.reg_mediaOff (s : State) (r : Nat) (h : Reg.sppStatus ≠ r) : s.mediaOff.reg r = s.reg r := by
  have pins := State.reg_of_foldl (f := fun t c => t.emit (.pin (.chWpN c) false)) (r := r) (fun _ _ => rfl) (List.range 32) s
  simp [State.mediaOff, ↓State.reg_mk, h, pins]

/-- What a device reset writes in the registers of PWR and keeps there (Tables 15-5 and 17-2). -/
theorem State.reg_bootFrom_pwr (s : State) {cause r : Nat} (device : 2 ≤ cause) (page : r / 0x100000 = 20) (log : logReg r = false)
    (spp : r ≠ Reg.sppStatus) :
    (s.bootFrom cause).reg r = if Reg.pwrDeviceResetCnt = r then
          BitVec.ofNat 32 (satAdd 32 (if keepsReg cause Reg.pwrDeviceResetCnt then s.reg Reg.pwrDeviceResetCnt else resetOf Reg.pwrDeviceResetCnt).toNat 1)
      else if Reg.pwrResetCause = r then BitVec.ofNat 32 (cause + if s.wrp.dumped then 16 else 0)
      else if keepsReg cause r then s.reg r else resetOf r := by
  have marked (r : Nat) := reg_of_without s.bootMarks_without (r := r) (by simp)
  have evc : r / 0x100000 ≠ 15 := by omega
  have outside (off : Nat) (other : off / 0x100000 ≠ 20) : off ≠ r := by rintro rfl; exact other page
  have hpt := outside Reg.hptStatus (by decide)
  have ftb := outside Reg.ftbStatus (by decide)
  have mcr := outside Reg.mcrStatus (by decide)
  have spp' := spp.symm
  have counts : logReg Reg.pwrDeviceResetCnt = false := by decide
  have media {b : Bool} {v : State} : (if b then v.mediaOff else v : State).reg r = v.reg r := by
    split
    · exact v.reg_mediaOff r spp'
    · rfl
  unfold State.bootFrom
  dsimp only
  simp [evc, log, hpt, ftb, mcr, spp', media, ↓State.reg_mk, State.get_bootRegs, marked, device]

/-- A boot ends the device reset that it belongs to. -/
theorem State.resetting_bootFrom (s : State) (cause : Nat) : (s.bootFrom cause).pwr.resetting = none := by
  have log (t : State) := (resetting_of_without (t.restoreLog_without (List.Subset.refl _)) (by simp)).1
  have level (t : State) := (resetting_of_without (t.relevelAll_without (List.Subset.refl _)) (by simp)).1
  unfold State.bootFrom
  dsimp only
  rw [State.emit_pwr, level, log]
  split <;> simp [apply_ite State.pwr]

/-- The beginning of a device reset while the device runs ends the sessions and notes the cause (R604). -/
theorem State.resetBegin_begins {s : State} (cause : Nat) (on : s.pwr.supply = .on) (runs : s.pwr.stop = .none)
    (idle : s.pwr.resetting = none) : (s.resetBegin cause).pwr.resetting = some cause ∧
      (s.resetBegin cause).pwr.perst = s.pwr.perst ∧ (s.resetBegin cause).sec.sessions = [] := by
  have lists (t : State) := resetting_of_without (t.endHostLists_without (List.Subset.refl _)) (by simp)
  have lost (t : State) := resetting_of_without (t.migHostLost_without (List.Subset.refl _)) (by simp)
  simp +decide [State.resetBegin, on, runs, idle, State.doeAbort, State.dropSessions, lists, lost]
  split <;> simp [State.showSessions]

/-- Settles O39. -/
theorem deviceResets : Obligations.DeviceResets := by
  unfold Obligations.DeviceResets
  refine ⟨fun s on perst idle runs => ?_, fun s on => ?_, fun s b on idle runs => ?_, fun s c live core idle => ?_,
    fun s c resetting device known runs early => ?_⟩
  · refine ⟨_, rfl, ?_⟩
    have began := State.resetBegin_begins (s := { s with pwr := { s.pwr with perst := true } }) 2 on runs idle
    obtain ⟨cause, low, sessions⟩ := began
    rw [State.perstFall, if_pos ⟨on, ne_true_of_eq_false perst⟩]
    exact ⟨low, cause, sessions⟩
  · refine ⟨_, rfl, ?_⟩
    simp [State.perstRise, on]
  · refine ⟨_, rfl, ?_⟩
    obtain ⟨cause, -, sessions⟩ := State.resetBegin_begins (if b then 4 else 3) on runs idle
    exact ⟨cause, sessions⟩
  · refine ⟨_, State.next_byCore live (by omega), ?_⟩
    obtain ⟨on, runs⟩ : s.pwr.supply = .on ∧ s.pwr.stop = .none := by simpa [State.live] using live
    exact (State.resetBegin_begins 5 on runs idle).1
  · refine ⟨_, congrArg Host.Outcome.next (State.resetEnd_of_not_ready resetting runs early), ?_⟩
    have boot := s.bootOf_bootFrom c
    have ftb : (s.bootFrom c).ftb = s.ftb := boot.ftb.trans (if_pos (decide_eq_true device))
    have kept : keepsReg c Reg.pwrDeviceResetCnt = true := by simp +decide [keepsReg, isDeviceReset, device]
    have cleared : keepsReg c Reg.pwrStatus = false := by simp +decide [keepsReg, isDeviceReset]
    refine ⟨?_, ?_, ?_, ?_, ftb⟩
    · exact s.resetting_bootFrom c
    · simp +decide [State.bootStage, State.reg_bootFrom_pwr, device, cleared]
    · simp +decide [State.reg_bootFrom_pwr, device]
      cases s.wrp.dumped <;> interval_cases c <;> decide
    · simp +decide [State.reg_bootFrom_pwr, device, kept]

end Sys2Proof.Machine
end

section
/-! SUPPORT. Faults of the control cores, and Watch (O31). -/
set_option linter.unusedSimpArgs false
namespace Sys2Proof.Machine

/-- A register that a report of an event or an error leaves alone though it may lie in the Event Controller: a report writes there
the two counts of rings, the hold-off groups and the sources' status (R522, R523, R534). -/
def quietReg (r : Nat) : Bool :=
  r != Reg.evcRingCnt && r != Reg.evcMergeCnt && r / 0x100 != 0xF004 && r / 0x1000 != 0xF02 && r != Reg.pwrEvlogProd &&
    r != Reg.pwrEvlogCons && r != Reg.pwrEvlogLost && r != Reg.pwrEvlogCoalesceCnt && r != Reg.pwrEvent

section
variable (s : State) (c : Nat)

/-- The registers of a core's frame are written by the core's own rules alone. -/
@[simp] theorem quietReg_core (k : Nat) (low : k < 0x20) : quietReg (0xF00100 + k + 0x20 * (c % 8)) = true := by
  simp [quietReg, Reg.evcRingCnt, Reg.evcMergeCnt, Reg.pwrEvlogProd, Reg.pwrEvlogCons, Reg.pwrEvlogLost, Reg.pwrEvlogCoalesceCnt,
    Reg.pwrEvent]
  omega

@[simp] theorem quietReg_evcCoreFault : quietReg (Reg.evcCoreFault c) = true := quietReg_core c 0xC (by decide)
@[simp] theorem quietReg_evcCoreFaultAddr : quietReg (Reg.evcCoreFaultAddr c) = true := quietReg_core c 0x1C (by decide)
@[simp] theorem quietReg_evcCoreWdog : quietReg (Reg.evcCoreWdog c) = true := quietReg_core c 0x18 (by decide)

theorem coreReg_ne (k off : Nat) (low : k < 0x20) (other : off / 0x100 ≠ 0xF001) : 0xF00100 + k + 0x20 * (c % 8) ≠ off := by
  omega

@[simp] theorem evcCoreFault_eq_iff (off : Nat) (other : off / 0x100 ≠ 0xF001) : Reg.evcCoreFault c = off ↔ False :=
  iff_false_intro (coreReg_ne c 0xC off (by decide) other)
@[simp] theorem evcCoreFaultAddr_eq_iff (off : Nat) (other : off / 0x100 ≠ 0xF001) : Reg.evcCoreFaultAddr c = off ↔ False :=
  iff_false_intro (coreReg_ne c 0x1C off (by decide) other)
@[simp] theorem eq_evcCoreFault_iff (off : Nat) (other : off / 0x100 ≠ 0xF001) : off = Reg.evcCoreFault c ↔ False :=
  iff_false_intro (coreReg_ne c 0xC off (by decide) other).symm
@[simp] theorem eq_evcCoreFaultAddr_iff (off : Nat) (other : off / 0x100 ≠ 0xF001) : off = Reg.evcCoreFaultAddr c ↔ False :=
  iff_false_intro (coreReg_ne c 0x1C off (by decide) other).symm
@[simp] theorem evcCoreFault_ne_addr : Reg.evcCoreFault c ≠ Reg.evcCoreFaultAddr c := by
  unfold Reg.evcCoreFault Reg.evcCoreFaultAddr
  omega
@[simp] theorem evcCoreFaultAddr_ne_fault : Reg.evcCoreFaultAddr c ≠ Reg.evcCoreFault c :=
  (evcCoreFault_ne_addr c).symm

variable {r : Nat} (h : quietReg r = true)
include h

theorem State.reg_ring_quiet (n : Nat) : (s.ring n).reg r = s.reg r := by
  simp [quietReg] at h
  have count : Reg.evcRingCnt ≠ r := by tauto
  have merge : Reg.evcMergeCnt ≠ r := by tauto
  have group (g : Nat) : Reg.evcHoldoff g ≠ r := by unfold Reg.evcHoldoff; omega
  have status : Reg.evcSrcStatus n ≠ r := by unfold Reg.evcSrcStatus; omega
  unfold State.ring State.pend State.holdGroup
  dsimp only
  split_ifs <;> simp [↓State.reg_mk, count, merge, group, status]

@[simp] theorem State.reg_raise_quiet (a i : Nat) :
    (s.raise a i).reg r = if a = r then setWordField (s.reg r) i 1 1 else s.reg r := by
  unfold State.raise
  dsimp only
  have same (t : State) (e : t.reg r = (s.setBit a i true).reg r) : t.reg r = if a = r then setWordField (s.reg r) i 1 1 else s.reg r := by
    rw [e, State.reg_of_setBit]
    split
    case isTrue e => rw [e]; rfl
    case isFalse => rfl
  split
  · exact same _ (State.reg_ring_quiet _ h _)
  · exact same _ rfl

theorem State.reg_logNew_quiet (e : LogEntry) : (s.logNew e).reg r = s.reg r := by
  have h' := h
  simp [quietReg] at h
  unfold State.logNew
  dsimp only
  split <;> simp [↓State.reg_mk, State.reg_raise_quiet _ h', h, eq_comm]

theorem State.reg_logAt_quiet (k : Block) (code inst f : Nat) (detail : List Word) :
    (s.logAt k code inst f detail).reg r = s.reg r := by
  have h' := h
  simp [quietReg] at h
  unfold State.logAt
  split <;> simp [↓State.reg_mk, State.reg_logNew_quiet _ h', h, eq_comm]

@[simp] theorem State.reg_countErr_quiet (k : Block) (a inst f : Nat) (detail : List Word) :
    (s.countErr k a inst f detail).reg r = if a = r then BitVec.ofNat 32 (satAdd 32 (s.reg r).toNat 1) else s.reg r := by
  unfold State.countErr
  rw [State.reg_logAt_quiet _ h, State.reg_of_inc]
  split
  case isTrue e => rw [e]
  case isFalse => rfl

end

section
variable (s : State)

/-- A report changes nothing of the Event Controller beside its registers but when a hold-off group began to hold. -/
theorem State.evc_ring (n : Nat) : ∃ held, (s.ring n).evc = { s.evc with holdAt := held } := by
  unfold State.ring State.pend State.holdGroup
  dsimp only
  split_ifs <;> exact ⟨_, rfl⟩

theorem State.evc_raise (a i : Nat) : ∃ held, (s.raise a i).evc = { s.evc with holdAt := held } := by
  unfold State.raise
  dsimp only
  split
  · exact (s.setBit a i true).evc_ring _
  · exact ⟨_, rfl⟩

theorem State.evc_logNew (e : LogEntry) : ∃ held, (s.logNew e).evc = { s.evc with holdAt := held } := by
  unfold State.logNew
  dsimp only
  split
  · obtain ⟨held, evc⟩ := State.evc_raise _ _ _
    exact ⟨held, evc.trans rfl⟩
  · exact ⟨_, rfl⟩

theorem State.evc_countErr (k : Block) (a inst f : Nat) (detail : List Word) :
    ∃ held, (s.countErr k a inst f detail).evc = { s.evc with holdAt := held } := by
  unfold State.countErr State.logAt
  split
  · exact ⟨_, rfl⟩
  · exact State.evc_logNew _ _

@[simp] theorem State.wdog_raise (a i : Nat) : (s.raise a i).evc.wdog = s.evc.wdog := by
  obtain ⟨held, evc⟩ := s.evc_raise a i
  rw [evc]
@[simp] theorem State.pins_raise (a i : Nat) : (s.raise a i).evc.pins = s.evc.pins := by
  obtain ⟨held, evc⟩ := s.evc_raise a i
  rw [evc]
@[simp] theorem State.wdog_countErr (k : Block) (a inst f : Nat) (detail : List Word) :
    (s.countErr k a inst f detail).evc.wdog = s.evc.wdog := by
  obtain ⟨held, evc⟩ := s.evc_countErr k a inst f detail
  rw [evc]

end

/-- A fault that is raised sets its bit and leaves every other register of the device (R535). -/
@[simp] theorem State.reg_of_raiseFault (s : State) (c i r : Nat) : (s.raiseFault c i).reg r =
    if Reg.evcCoreFault c = r ∧ wordField (s.reg r) i 1 ≠ 1 then setWordField (s.reg r) i 1 1 else s.reg r := by
  unfold State.raiseFault
  by_cases e : Reg.evcCoreFault c = r
  · subst e
    split <;> simp_all
  · split <;> simp_all

/-- A register of a range that is reset returns to its reset value. -/
theorem State.reg_resetRange_in (s : State) {lo hi r : Nat} (low : lo ≤ r) (high : r < hi) : (s.resetRange lo hi).reg r = resetOf r := by
  have gone := lookupKey_filter_none (p := fun k => !(decide (lo ≤ k) && decide (k < hi))) (k := r) (by simp [low, high]) s.regs.entries
  show (lookupKey r _).getD _ = _
  exact congrArg (·.getD (resetOf r)) gone

/-- Settles O31. -/
theorem coresAndWatch : Obligations.CoresAndWatch := by
  unfold Obligations.CoresAndWatch
  refine ⟨fun s c v live => ?_, fun s c live due first => ?_, fun s c live due second => ?_, fun s c a w live => ?_,
    fun s c live => ?_, fun s a b quiet armed => ?_, fun s quiet armed set => ?_, fun s k on known enabled active => ?_,
    fun s k on known low enabled d3 pme => ?_, fun s off => ?_⟩
  · refine ⟨_, congrArg Host.Outcome.next ((if_pos rfl).trans (s.whenLive_live _ live)), ?_⟩
    simp +decide [State.watchdogWrite, State.startWatchdog, ↓State.reg_mk, State.now]
  · refine ⟨_, congrArg Host.Outcome.next (s.whenLive_live _ live), ?_⟩
    simp +decide [State.watchdogFirst, due, first, State.startWatchdog, State.raiseFault, ↓State.reg_mk]
    split <;> simp_all +decide [↓State.reg_mk]
  · refine ⟨_, congrArg Host.Outcome.next (s.whenLive_live _ live), ?_⟩
    simp +decide [State.watchdogSecond, due, second, State.startWatchdog, State.domainReset, ↓State.reg_mk]
    split <;> simp_all +decide [↓State.reg_mk]
  · refine ⟨_, congrArg Host.Outcome.next (s.whenLive_live _ live), ?_⟩
    cases w <;> simp +decide [State.accessFault, ↓State.reg_mk] <;> split <;> simp_all +decide [↓State.reg_mk]
  · refine ⟨_, congrArg Host.Outcome.next (s.whenLive_live _ live), ?_⟩
    simp +decide [↓State.reg_mk]
    split <;> simp_all +decide [↓State.reg_mk]
  · refine ⟨_, rfl, ?_⟩
    have some : ¬ (a &&& s.aow.wakeEn &&& 0xE = 0 ∧ b &&& s.aow.pinEn &&& s.activePins s.aow.pinPol = 0) := by tauto
    rw [State.wake, if_pos quiet]
    dsimp only
    rw [if_neg some]
    unfold State.driveWake
    split <;> simp_all +decide
  · refine ⟨_, rfl, ?_⟩
    rw [State.alarm, if_pos ⟨quiet, armed, set⟩]
    unfold State.driveWake
    split <;> simp_all +decide
  · refine ⟨_, rfl, ?_⟩
    simp_all +decide [State.watchPin]
  · refine ⟨_, rfl, ?_⟩
    simp_all +decide [State.wakeSource, State.fn, State.updFn, Tab.get_modify]
  · refine ⟨_, rfl, ?_⟩
    rw [State.vddAo, if_pos off]
    exact ⟨rfl, rfl, congrArg BitVec.toNat (State.reg_resetRange_in _ (by decide) (by decide))⟩

end Sys2Proof.Machine
end

section
/-! SUPPORT. Power transitions, memory errors and the log index (O40). -/
set_option linter.unusedSimpArgs false
namespace Sys2Proof.Machine

@[simp] theorem State.reg_of_memoryHit (s : State) (m : MemHit) (r : Nat) (h : r / 0x100000 ∉ [1, 7, 13, 15, 20]) :
    (s.memoryHit m).reg r = s.reg r :=
  reg_of_without (s.memoryHit_without m (List.Subset.refl _)) (by simpa using h)
@[simp] theorem State.reg_of_passOver (s : State) (test : Nat) (r : Nat) :
    (s.passOver test).reg r = s.reg r :=
  reg_of_without (s.passOver_without test (List.Subset.refl _)) (by simp)
@[simp] theorem State.pwr_passOver (s : State) (test : Nat) : (s.passOver test).pwr = s.pwr :=
  pwr_of_without (s.passOver_without test (List.Subset.refl _)) (by simp) (by simp)

theorem satAdd_satAdd (a m n : Nat) : satAdd 32 (satAdd 32 a m) n = satAdd 32 a (m + n) := by
  simp only [satAdd, satNat, satMax]
  split_ifs <;> omega

/-- A record in the event log leaves the event of the rails in PWR_EVENT. -/
theorem State.railEvent_logAt (s : State) (k : Block) (code inst f : Nat) (detail : List Word) (h : wordField (s.reg Reg.pwrEvent) 3 1 = 1) :
    wordField ((s.logAt k code inst f detail).reg Reg.pwrEvent) 3 1 = 1 := by
  unfold State.logAt State.logNew
  dsimp only
  repeat' split
  all_goals simp +decide [↓State.reg_mk, h]

/-- Errors counted one by one add up in their counter; the event is raised each time (R37). -/
theorem State.reg_repeatOn_counted (k : Block) {cnt ev i r : Nat} (log : logReg r = false) (other : ev ≠ r) (n : Nat) (s : State) :
    (repeatOn n (fun u => (u.countErr k cnt).raise ev i) s).reg r =
      if cnt = r then BitVec.ofNat 32 (satAdd 32 (s.reg r).toNat n) else s.reg r := by
  induction n generalizing s with
  | zero =>
    have full : satAdd 32 (s.reg r).toNat 0 = (s.reg r).toNat := by
      simp only [satAdd, satNat, satMax]
      split_ifs <;> omega
    simp [repeatOn, full]
  | succ n ih =>
    have page : r / 0x100000 ≠ 15 := by simp [logReg] at log; omega
    rw [repeatOn, ih, State.reg_of_raise _ _ _ _ page, if_neg other, State.reg_of_countErr _ _ _ _ _ _ _ log]
    split
    · simp [satAdd_satAdd, Nat.add_comm]
    · rfl

/-- Settles O40. -/
theorem powerAndMemories : Obligations.PowerAndMemories := by
  unfold Obligations.PowerAndMemories
  refine ⟨fun s live => ?_, fun s live asked fresh done destaged => ?_, fun s on ready => ?_, fun s on fresh => ?_,
    fun s r on known good => ?_, fun s on runs => ?_, fun s n live there due => ?_, fun s a h live there due => ?_,
    fun s n live there due => ?_, fun s v live => ?_⟩
  · refine ⟨_, congrArg Host.Outcome.next (s.whenLive_live _ live), ?_⟩
    simp +decide [State.turnOffRx]
  · refine ⟨_, congrArg Host.Outcome.next (s.whenLive_live _ live), ?_⟩
    simp +decide [State.turnOffAck, asked, fresh, done, destaged, State.readyToPull]
  · refine ⟨_, rfl, ?_⟩
    simp +decide [State.railsRemoved, on, ready]
  · refine ⟨_, rfl, ?_⟩
    simp +decide [State.railsRemoved, on, fresh]
  · refine ⟨_, rfl, ?_⟩
    simp +decide at good
    simp +decide [State.railLost, on, known, good]
    exact ⟨by simp [show r < 32 by omega], State.railEvent_logAt _ _ _ _ _ _ (by simp +decide)⟩
  · refine ⟨_, rfl, ?_⟩
    simp +decide [State.tripped, on, runs]
  · refine ⟨_, congrArg Host.Outcome.next (s.whenLive_live _ live), ?_⟩
    rw [State.dramPatrol, if_pos ⟨there, due⟩]
    simp +decide [State.reg_repeatOn_counted, ↓State.reg_mk]
  · refine ⟨_, congrArg Host.Outcome.next (s.whenLive_live _ live), ?_⟩
    rw [State.dramPatrol, if_pos ⟨there, due⟩]
    simp +decide [repeatOn, ↓State.reg_mk]
    rintro rfl
    simp +decide [State.memoryHit]
  · refine ⟨_, congrArg Host.Outcome.next (s.whenLive_live _ live), ?_⟩
    rw [State.sramScrub, if_pos ⟨there, due⟩]
    simp +decide [State.reg_repeatOn_counted, ↓State.reg_mk]
  · refine ⟨_, congrArg Host.Outcome.next (s.whenLive_live _ live), ?_⟩
    simp +decide [State.consWrite]

end Sys2Proof.Machine
end

section
/-! SUPPORT. Lists of the Service DMA are armed, run, aborted and cleared (O32). -/
set_option linter.unusedSimpArgs false
namespace Sys2Proof.Machine

@[simp] theorem State.reg_of_sdmMove (s : State) (ch : Nat) (r : Nat) (h : r / 0x100000 ∉ [1, 3, 11, 19]) :
    (s.sdmMove ch).reg r = s.reg r :=
  reg_of_without (s.sdmMove_without ch (List.Subset.refl _)) (by simpa using h)
@[simp] theorem State.sdm_internal (s : State) (e : Intern) : (s.internal e).sdm = s.sdm :=
  sdm_of_without (s.internal_without e (List.Subset.refl _)) (by simp)
@[simp] theorem State.sdm_internalRead (s : State) (k : Inner) (fn : Nat) (cmd : Option CmdId) (addr len : Nat) : (s.internalRead k fn cmd addr len).sdm = s.sdm :=
  sdm_of_without (s.internalRead_without k fn cmd addr len (List.Subset.refl _)) (by simp)

/-- A register of the Service DMA that its scheduler does not show the state of a channel or its own state in. -/
def listReg (r : Nat) : Bool := r / 0x100000 == 17 && r != Reg.sdmStatus && r % 0x100 != 0x18

/-- What the scheduler leaves of a channel: a list that waits may be paused or started, and nothing else changes (R545). -/
structure State.KeepsList (ch : Nat) (s t : State) : Prop where
  active : (t.sdmCh ch).active = (s.sdmCh ch).active
  desc : (t.sdmCh ch).desc = (s.sdmCh ch).desc
  aborting : (t.sdmCh ch).aborting = (s.sdmCh ch).aborting
  cause : wordField (t.reg (Reg.sdmChStatus ch)) 4 4 = wordField (s.reg (Reg.sdmChStatus ch)) 4 4
  state : (s.sdmCh ch).active = false → t.sdmState ch = s.sdmState ch
  regs : ∀ r, listReg r = true → t.reg r = s.reg r

section
variable {ch : Nat} {s t u : State}

theorem State.KeepsList.refl (ch : Nat) (s : State) : s.KeepsList ch s := ⟨rfl, rfl, rfl, rfl, fun _ => rfl, fun _ _ => rfl⟩

theorem State.KeepsList.trans (h : s.KeepsList ch t) (g : t.KeepsList ch u) : s.KeepsList ch u :=
  ⟨g.active.trans h.active, g.desc.trans h.desc, g.aborting.trans h.aborting, g.cause.trans h.cause,
    fun idle => (g.state (h.active.trans idle)).trans (h.state idle), fun r hr => (g.regs r hr).trans (h.regs r hr)⟩

theorem listReg_ne {r : Nat} (h : listReg r = true) (c : Nat) : Reg.sdmChStatus c ≠ r ∧ Reg.sdmStatus ≠ r := by
  simp [listReg] at h
  unfold Reg.sdmChStatus
  omega

@[simp] theorem State.sdmCh_updSdm (s : State) (c ch : Nat) (f : SdmCh → SdmCh) :
    (s.updSdm c f).sdmCh ch = if c = ch then f (s.sdmCh ch) else s.sdmCh ch := by
  simp only [State.sdmCh, State.updSdm, Tab.get_modify]
  split
  case isTrue e => rw [e]
  case isFalse => rfl
@[simp] theorem State.sdmCh_setBit (s : State) (ch : Nat) (off i : Nat) (b : Bool) : (s.setBit off i b).sdmCh ch = s.sdmCh ch := rfl
@[simp] theorem State.sdmCh_setField (s : State) (ch : Nat) (off lo w v : Nat) : (s.setField off lo w v).sdmCh ch = s.sdmCh ch := rfl
@[simp] theorem State.sdmCh_setNum (s : State) (ch : Nat) (off v : Nat) : (s.setNum off v).sdmCh ch = s.sdmCh ch := rfl
@[simp] theorem State.sdmCh_setReg (s : State) (ch : Nat) (off : Nat) (v : Word) : (s.setReg off v).sdmCh ch = s.sdmCh ch := rfl
@[simp] theorem State.sdmCh_inc (s : State) (ch : Nat) (off n : Nat) : (s.inc off n).sdmCh ch = s.sdmCh ch := rfl
@[simp] theorem State.sdmCh_dropIntern (s : State) (ch : Nat) (p : Intern → Bool) : (s.dropIntern p).sdmCh ch = s.sdmCh ch := rfl
@[simp] theorem State.sdmCh_drawn (s : State) (ch : Nat) : s.drawn.sdmCh ch = s.sdmCh ch := rfl
@[simp] theorem State.sdm_ring (s : State) (n : Nat) : (s.ring n).sdm = s.sdm :=
  sdm_of_without (s.ring_without n (List.Subset.refl _)) (by simp)
@[simp] theorem State.reg_of_ring (s : State) (n r : Nat) (h : r / 0x100000 ≠ 15) : (s.ring n).reg r = s.reg r :=
  reg_of_without (s.ring_without n (List.Subset.refl _)) (by simpa using h)
@[simp] theorem State.sdmCh_ring (s : State) (ch n : Nat) : (s.ring n).sdmCh ch = s.sdmCh ch := by simp [State.sdmCh]
@[simp] theorem State.sdmCh_countErr (s : State) (ch : Nat) (b : Block) (off inst fn : Nat) (l : List Word) :
    (s.countErr b off inst fn l).sdmCh ch = s.sdmCh ch := by simp [State.sdmCh]

theorem logReg_of_sdm {r : Nat} (page : r / 0x100000 = 17) : logReg r = false := by
  simp [logReg, Reg.pwrEvlogProd, Reg.pwrEvlogCons, Reg.pwrEvlogLost, Reg.pwrEvlogCoalesceCnt, Reg.pwrEvent]
  omega

@[simp] theorem State.reg_of_dropIntern (s : State) (p : Intern → Bool) (r : Nat) : (s.dropIntern p).reg r = s.reg r := rfl

theorem getLsbD_eq_wordField (r : Word) (i : Nat) : r.getLsbD i = (wordField r i 1 == 1) := by
  simp only [BitVec.getLsbD, Nat.testBit_eq_decide_div_mod_eq, wordField, Nat.pow_one]
  rfl

@[simp] theorem listReg_sdmChArm (ch : Nat) : listReg (Reg.sdmChArm ch) = true := by
  simp [listReg, Reg.sdmStatus, Reg.sdmChArm]
  omega
@[simp] theorem listReg_sdmChFlags (ch : Nat) : listReg (Reg.sdmChFlags ch) = true := by
  simp [listReg, Reg.sdmStatus, Reg.sdmChFlags]
  omega
@[simp] theorem listReg_sdmChHandoverCnt (ch : Nat) : listReg (Reg.sdmChHandoverCnt ch) = true := by
  simp [listReg, Reg.sdmStatus, Reg.sdmChHandoverCnt]
  omega
@[simp] theorem listReg_sdmChDescCnt (ch : Nat) : listReg (Reg.sdmChDescCnt ch) = true := by
  simp [listReg, Reg.sdmStatus, Reg.sdmChDescCnt]
  omega
@[simp] theorem State.sdmCh_setSdmState (s : State) (c ch st : Nat) : (s.setSdmState c st).sdmCh ch = s.sdmCh ch := rfl
@[simp] theorem State.sdmCh_showSdm (s : State) (ch : Nat) : s.showSdm.sdmCh ch = s.sdmCh ch := rfl

/-- The state that is shown of a channel whose list is active. -/
theorem State.KeepsList.of_state {c st : Nat} (hc : c < 8) (hch : ch < 8) (on : (s.sdmCh c).active = true) :
    s.KeepsList ch (s.setSdmState c st) := by
  refine ⟨rfl, rfl, rfl, ?_, fun idle => ?_, fun r hr => ?_⟩
  · simp [State.setSdmState, Nat.mod_eq_of_lt hc, Nat.mod_eq_of_lt hch]
    split <;> simp_all
  · have ne : c ≠ ch := by rintro rfl; simp [on] at idle
    simp [State.sdmState, State.setSdmState, Nat.mod_eq_of_lt hc, Nat.mod_eq_of_lt hch, ne]
  · simp [State.setSdmState, (listReg_ne hr c).1]

/-- A change of the flags of a list. -/
theorem State.KeepsList.of_updSdm (c : Nat) (f : SdmCh → SdmCh) (active : ∀ x, (f x).active = x.active) (desc : ∀ x, (f x).desc = x.desc)
    (aborting : ∀ x, (f x).aborting = x.aborting) : s.KeepsList ch (s.updSdm c f) :=
  ⟨by simp [apply_ite SdmCh.active, active], by simp [apply_ite SdmCh.desc, desc], by simp [apply_ite SdmCh.aborting, aborting],
    rfl, fun _ => rfl, fun _ _ => rfl⟩

/-- A change beside the registers of the Service DMA, which leaves its lists. -/
theorem State.KeepsList.of_eq (sdm : t.sdmCh ch = s.sdmCh ch ∨ ∃ b, t.sdmCh ch = { s.sdmCh ch with bad := b })
    (regs : ∀ r, r / 0x100000 = 17 → r ≠ Reg.sdmStatus → t.reg r = s.reg r) : s.KeepsList ch t := by
  have status : Reg.sdmChStatus ch / 0x100000 = 17 ∧ Reg.sdmChStatus ch ≠ Reg.sdmStatus := by
    unfold Reg.sdmChStatus Reg.sdmStatus
    omega
  have kept (r : Nat) (h : listReg r = true) : t.reg r = s.reg r := by
    simp [listReg] at h
    exact regs r h.1.1 h.1.2
  have same := regs _ status.1 status.2
  rcases sdm with e | ⟨b, e⟩
  · exact ⟨by rw [e], by rw [e], by rw [e], by rw [same], fun _ => by simp [State.sdmState, same], kept⟩
  · exact ⟨by rw [e], by rw [e], by rw [e], by rw [same], fun _ => by simp [State.sdmState, same], kept⟩

theorem State.KeepsList.foldl {f : State → Nat → State} {l : List Nat} (each : ∀ (s : State), ∀ c ∈ l, s.KeepsList ch (f s c)) (s : State) :
    s.KeepsList ch (l.foldl f s) := by
  induction l generalizing s with
  | nil => exact .refl ch s
  | cons c l ih => exact (each s c (by simp)).trans (ih (fun s c hc => each s c (by simp [hc])) _)

theorem State.keepsList_sdmStall (hch : ch < 8) : s.KeepsList ch s.sdmStall := by
  refine State.KeepsList.foldl (fun s c hc => ?_) s
  split
  case isTrue ready =>
    have on : (s.sdmCh c).active = true := by
      have := ready.1
      simp [State.sdmReady] at this
      exact this.1
    exact (State.KeepsList.of_updSdm c (fun x => { x with paused := true }) (fun _ => rfl) (fun _ => rfl) (fun _ => rfl)).trans
      (.of_state (List.mem_range.mp hc) hch (by simp [on]))
  case isFalse => exact .refl ch s

theorem State.sdmCh_of_sdm (h : t.sdm = s.sdm) : t.sdmCh ch = s.sdmCh ch := by rw [State.sdmCh, h, State.sdmCh]

theorem State.sdm_sdmMove (c : Nat) : (s.sdmMove c).sdm = s.sdm ∨ (s.sdmMove c).sdm = (s.updSdm c fun x => { x with bad := false }).sdm := by
  unfold State.sdmMove
  split
  · exact .inl rfl
  · right
    dsimp only
    split_ifs <;> simp

theorem State.keepsList_sdmMove (c : Nat) : s.KeepsList ch (s.sdmMove c) := by
  refine .of_eq ?_ fun r page _ => s.reg_of_sdmMove c r (by simp [page])
  rcases s.sdm_sdmMove c with e | e
  · exact .inl (State.sdmCh_of_sdm e)
  · rw [State.sdmCh_of_sdm e, State.sdmCh_updSdm]
    split
    · exact .inr ⟨_, rfl⟩
    · exact .inl rfl

theorem State.keepsList_showSdm : s.KeepsList ch s.showSdm :=
  .of_eq (.inl rfl) fun r _ ne => by simp [State.showSdm, ne.symm]

theorem State.keepsList_sdmSchedule (hch : ch < 8) : s.KeepsList ch s.sdmSchedule := by
  unfold State.sdmSchedule
  refine (State.keepsList_sdmStall hch).trans ?_
  generalize s.sdmStall = u
  dsimp only
  split
  · exact State.keepsList_showSdm
  · split
    · exact State.keepsList_showSdm
    · next c found =>
      have ready := List.find?_some found
      have known := List.mem_range.mp (List.mem_of_find?_eq_some found)
      refine .trans ?_ ((State.keepsList_sdmMove c).trans State.keepsList_showSdm)
      simp only [State.sdmReady, Bool.and_eq_true, Bool.not_eq_true'] at ready
      exact .trans (t := { u with sdm := { u.sdm with running := some c } }) (.of_eq (.inl rfl) fun _ _ _ => rfl)
        (.of_state known hch ready.1)
end
/-- A list that ends leaves its channel idle, its state and cause shown (R547, Table 13-10). -/
theorem State.endList_ends (s : State) (ch cause : Nat) (small : cause < 16) :
    ((s.endList ch cause).sdmCh ch).active = false ∧
      (s.endList ch cause).sdmState ch = (if cause ≤ 1 then 0 else if cause = 7 then 6 else 5) ∧
      wordField ((s.endList ch cause).reg (Reg.sdmChStatus ch)) 4 4 = cause ∧
      wordField ((s.endList ch cause).reg (Reg.sdmChArm ch)) 0 1 = wordField (s.reg (Reg.sdmChArm ch)) 0 1 ∧
      (s.endList ch cause).reg (Reg.sdmChDescCnt ch) = s.reg (Reg.sdmChDescCnt ch) ∧
      (cause = 0 → wordField ((s.endList ch cause).reg (Reg.sdmChFlags ch)) 1 1 = 1) := by
  unfold State.endList
  dsimp only
  split_ifs <;> simp_all +decide [State.setSdmState, State.sdmState, ↓State.reg_mk, State.sdmCh, Tab.get_modify, page_sdmChStatus,
    page_sdmChArm, page_sdmChDescCnt, page_sdmChFlags, logReg_of_sdm]

/-- A good descriptor is taken (R543). -/
theorem State.takeDesc_of_good {s : State} {ch : Nat} {addr : BitVec 64} {d : SdmDesc}
    (head : sideAllowed ch (wordField (s.reg (Reg.sdmChActiveCfg ch)) 0 1 == 1) addr.toNat 32 false = true) (good : d.malformed = false)
    (allowed : d.allowed ch = true) :
    s.takeDesc ch addr d = ((((s.setReg (Reg.sdmChCurDescLo ch) (addr.setWidth 32)).setReg (Reg.sdmChCurDescHi ch)
      ((addr >>> 32).setWidth 32)).updSdm ch fun x => { x with desc := some d }).setNum (Reg.sdmChRemain ch) d.len) := by
  unfold State.takeDesc
  simp only
  rw [if_neg, if_neg (ne_true_of_eq_false good), if_neg (not_not_intro allowed)]
  simpa using head

/-- A list without pacing whose first descriptor is good is handed over (R542 to R544). -/
theorem State.handover_hands {s : State} {ch : Nat} (d : SdmDesc) (unpaced : paceSrc (s.reg (Reg.sdmChShadowCfg ch)) = 0)
    (head : sideAllowed ch ((s.reg (Reg.sdmChShadowCfg ch)).getLsbD 0) ((s.reg (Reg.sdmChShadowDescHi ch)).setWidth 64 <<< 32
      ||| (s.reg (Reg.sdmChShadowDescLo ch)).setWidth 64).toNat 32 false = true) (good : d.malformed = false) (allowed : d.allowed ch = true) :
    ((s.handover ch d).sdmCh ch).active = true ∧ ((s.handover ch d).sdmCh ch).desc = some d ∧
      wordField ((s.handover ch d).reg (Reg.sdmChArm ch)) 0 1 = 0 ∧
      (s.handover ch d).reg (Reg.sdmChHandoverCnt ch) = BitVec.ofNat 32 (satAdd 32 (s.reg (Reg.sdmChHandoverCnt ch)).toNat 1) := by
  rw [getLsbD_eq_wordField] at head
  unfold State.handover
  dsimp only
  rw [if_neg (by simp [unpaced]), State.takeDesc_of_good (by simpa using head) good allowed]
  simp +decide [State.paceHigh, unpaced, State.setSdmState]

/-- A list's last descriptor as it completes: counted, its cause cleared and its flag set (R546). -/
def State.lastDone (s : State) (ch : Nat) (irq : Bool) : State :=
  (((s.inc (Reg.sdmChDescCnt ch)).setField (Reg.sdmChStatus ch) 4 4 0).setBit (Reg.sdmChFlags ch) 1 true).when irq (·.ring (64 + ch))

theorem State.descDone_last {s : State} {ch : Nat} {d : SdmDesc} (n : SdmDesc) (still : s.internBusy (fun k _ => k == Inner.sdm) = false)
    (fine : (s.sdmCh ch).bad = false) (desc : (s.sdmCh ch).desc = some d) (runs : s.sdm.running = some ch)
    (host : (s.sdmCh ch).hostEnd = false) (unaborted : (s.sdmCh ch).aborting = false) (moving : s.sdmState ch = 2) (last : d.isLast = true) :
    s.descDone ch .ok n = ((s.lastDone ch d.irq).endList ch 0).afterList ch n := by
  unfold State.descDone State.lastDone
  dsimp only
  rw [desc]
  dsimp only
  rw [if_pos ⟨runs, ne_true_of_eq_false still⟩, fine]
  simp only [Bool.false_eq_true, if_false, host, unaborted, moving, ne_eq, not_true_eq_false, last, if_true]

/-- The pace of a channel does not depend on the states that are shown. -/
@[simp] theorem State.paceHigh_setSdmState (s : State) (c st ch : Nat) : (s.setSdmState c st).paceHigh ch = s.paceHigh ch := by
  have other (off : Nat) (page : off / 0x100000 ≠ 17) : Reg.sdmChStatus c ≠ off := by
    rintro rfl
    exact page (page_sdmChStatus c)
  have cfg : Reg.sdmChStatus c ≠ Reg.sdmChActiveCfg ch := by unfold Reg.sdmChStatus Reg.sdmChActiveCfg; omega
  have pace : Reg.sdmChStatus c ≠ Reg.sdmChActivePace ch := by unfold Reg.sdmChStatus Reg.sdmChActivePace; omega
  simp only [State.paceHigh, State.paceLevel, State.setSdmState, State.num_eq, State.field_eq, State.reg_of_setField,
    other Reg.tlnBufProd (by decide), other Reg.tlnBufCons (by decide), other Reg.pwrEvlogProd (by decide),
    other Reg.pwrEvlogCons (by decide), cfg, pace, if_false]
  rfl

/-- A list whose pace is high is not paused when another is started (R545). -/
theorem State.paused_sdmStall (l : List Nat) {s : State} {ch : Nat} (high : s.paceHigh ch = true) :
    ((l.foldl (fun t c => if t.sdmReady c ∧ t.sdm.running ≠ some c ∧ ¬ t.paceHigh c then
      (t.updSdm c fun x => { x with paused := true }).setSdmState c 3 else t) s).sdmCh ch).paused = (s.sdmCh ch).paused := by
  induction l generalizing s with
  | nil => rfl
  | cons c l ih =>
    rw [List.foldl_cons]
    split
    case isTrue low =>
      have ne : c ≠ ch := by
        rintro rfl
        exact low.2.2 high
      have high' : ((s.updSdm c fun x => { x with paused := true }).setSdmState c 3).paceHigh ch = true :=
        (State.paceHigh_setSdmState ..).trans high
      rw [ih high', State.sdmCh_setSdmState, State.sdmCh_updSdm, if_neg ne]
    case isFalse => exact ih high

theorem State.paused_sdmMove (s : State) (c ch : Nat) : ((s.sdmMove c).sdmCh ch).paused = (s.sdmCh ch).paused := by
  rcases s.sdm_sdmMove c with e | e
  · rw [State.sdmCh_of_sdm e]
  · rw [State.sdmCh_of_sdm e, State.sdmCh_updSdm]
    split <;> rfl

theorem State.paused_sdmSchedule {s : State} {ch : Nat} (high : s.paceHigh ch = true) :
    (s.sdmSchedule.sdmCh ch).paused = (s.sdmCh ch).paused := by
  unfold State.sdmSchedule
  refine Eq.trans ?_ (State.paused_sdmStall (List.range 8) high)
  change _ = (s.sdmStall.sdmCh ch).paused
  generalize s.sdmStall = u
  dsimp only
  split
  · rfl
  · split
    · rfl
    · rw [State.sdmCh_showSdm, State.paused_sdmMove]
      rfl

/-- Settles O32. -/
theorem serviceDma : Obligations.ServiceDma := by
  unfold Obligations.ServiceDma
  refine ⟨fun s b ch d live known owns free idle healthy unpaced head good allowed => ?_, fun s b ch d live other host => ?_,
    fun s b ch live known owns active waits => ?_, fun s b ch live known owns active runs => ?_,
    fun s b ch d live known owns error idle free => ?_,
    fun s ch n d live known still fine desc runs host unaborted moving last free => ?_, fun s ch live known active paused high => ?_⟩
  · refine ⟨_, congrArg Host.Outcome.next ((s.whenLive_live _ live).trans (if_pos owns)), ?_⟩
    obtain ⟨active, desc, off, counted⟩ := State.handover_hands (s := s.setBit (Reg.sdmChArm ch) 0 true) d (by simpa using unpaced)
      (by simpa using head) good allowed
    have kept := State.keepsList_sdmSchedule (s := (s.setBit (Reg.sdmChArm ch) 0 true).handover ch d) known
    have armed : (s.setBit (Reg.sdmChArm ch) 0 true).bit (Reg.sdmChArm ch) 0 = true ∧
        ¬ ((s.setBit (Reg.sdmChArm ch) 0 true).sdmCh ch).active = true ∧ (s.setBit (Reg.sdmChArm ch) 0 true).sdmState ch ≠ 5 := by
      simp_all [State.sdmState]
    simp only [State.sdmArm, free, Bool.false_eq_true, if_false, State.afterList, if_pos armed]
    refine ⟨kept.active.trans active, kept.desc.trans desc, ?_, ?_⟩
    · simp [kept.regs, off]
    · simp [kept.regs, counted]
  · refine ⟨_, congrArg Host.Outcome.next (s.whenLive_live _ live), ?_⟩
    subst host
    simp [other]
  · refine ⟨_, congrArg Host.Outcome.next ((s.whenLive_live _ live).trans (if_pos owns)), ?_⟩
    obtain ⟨ended, state, cause, -⟩ := State.endList_ends (s.setBit (Reg.sdmChArm ch) 0 false) ch 7 (by decide)
    have kept := State.keepsList_sdmSchedule (s := (s.setBit (Reg.sdmChArm ch) 0 false).endList ch 7) known
    have there : ¬ ¬ ((s.setBit (Reg.sdmChArm ch) 0 false).sdmCh ch).active = true := not_not_intro active
    have still : ¬ (s.setBit (Reg.sdmChArm ch) 0 false).sdm.running = some ch := waits
    simp only [State.sdmAbort, if_neg there, if_neg still]
    exact ⟨kept.active.trans ended, (kept.state ended).trans state, kept.cause.trans cause⟩
  · refine ⟨_, congrArg Host.Outcome.next ((s.whenLive_live _ live).trans (if_pos owns)), ?_⟩
    have there : ¬ ¬ ((s.setBit (Reg.sdmChArm ch) 0 false).sdmCh ch).active = true := not_not_intro active
    have here : (s.setBit (Reg.sdmChArm ch) 0 false).sdm.running = some ch := runs
    simp only [State.sdmAbort, if_neg there, if_pos here]
    simp [active]
  · refine ⟨_, congrArg Host.Outcome.next ((s.whenLive_live _ live).trans (if_pos owns)), ?_⟩
    have kept := State.keepsList_sdmSchedule (s := s.setSdmState ch 0) known
    have unarmed : ¬ ((s.setSdmState ch 0).bit (Reg.sdmChArm ch) 0 = true ∧ ¬ ((s.setSdmState ch 0).sdmCh ch).active = true ∧
        (s.setSdmState ch 0).sdmState ch ≠ 5) := by
      simp at free
      simp [State.setSdmState, free]
    simp only [State.sdmClear, if_pos error, State.afterList, if_neg unarmed]
    exact (kept.state idle).trans (by simp [State.sdmState, State.setSdmState])
  · refine ⟨_, congrArg Host.Outcome.next (s.whenLive_live _ live), ?_⟩
    obtain ⟨ended, state, cause, arm, count, flag⟩ := State.endList_ends (s.lastDone ch d.irq) ch 0 (by decide)
    have kept := State.keepsList_sdmSchedule (s := (s.lastDone ch d.irq).endList ch 0) known
    have unarmed : ¬ (((s.lastDone ch d.irq).endList ch 0).bit (Reg.sdmChArm ch) 0 = true ∧ ¬ (((s.lastDone ch d.irq).endList ch 0).sdmCh ch).active = true ∧
        ((s.lastDone ch d.irq).endList ch 0).sdmState ch ≠ 5) := by
      simp at free
      have still : wordField ((s.lastDone ch d.irq).reg (Reg.sdmChArm ch)) 0 1 = wordField (s.reg (Reg.sdmChArm ch)) 0 1 := by
        simp [State.lastDone, page_sdmChArm]
      simp [arm, still, free]
    rw [State.descDone_last n still fine desc runs host unaborted moving last, State.afterList, if_neg unarmed]
    refine ⟨kept.active.trans ended, (kept.state ended).trans state, ?_, ?_⟩
    · simp [kept.regs, flag]
    · rw [State.num_eq, kept.regs _ (listReg_sdmChDescCnt ch), count]
      simp [State.lastDone, page_sdmChDescCnt]
  · refine ⟨_, congrArg Host.Outcome.next (s.whenLive_live _ live), ?_⟩
    have kept := State.keepsList_sdmSchedule (s := (s.updSdm ch fun x => { x with paused := false }).setSdmState ch 1) known
    have resumed : ((s.updSdm ch fun x => { x with paused := false }).setSdmState ch 1).paceHigh ch = true := by
      exact (State.paceHigh_setSdmState ..).trans high
    rw [State.paceResume, if_pos ⟨active, paused, high⟩]
    exact ⟨(State.paused_sdmSchedule resumed).trans (by simp), kept.active.trans (by simp [active])⟩

end Sys2Proof.Machine
end

section
/-! SUPPORT. Samples, records and transfers of the Telemetry Lens; a metered minute is signed (O36). -/
set_option linter.unusedSimpArgs false
namespace Sys2Proof.Machine

@[simp] theorem State.reg_of_xferStart (s : State) (r : Nat) :
    (s.xferStart).reg r = s.reg r :=
  reg_of_without (s.xferStart_without (List.Subset.refl _)) (by simp)
@[simp] theorem State.prx_xferStart (s : State) : (s.xferStart).prx = s.prx :=
  prx_of_without (s.xferStart_without (List.Subset.refl _)) (by simp)
@[simp] theorem State.mtr_internal (s : State) (e : Intern) : (s.internal e).mtr = s.mtr :=
  mtr_of_without (s.internal_without e (List.Subset.refl _)) (by simp)
@[simp] theorem State.tln_internal (s : State) (e : Intern) : (s.internal e).tln = s.tln :=
  tln_of_without (s.internal_without e (List.Subset.refl _)) (by simp)

@[simp] theorem State.ftb_xferStart (s : State) : (s.xferStart).ftb = s.ftb :=
  ftb_of_without (s.xferStart_without (List.Subset.refl _)) (by simp) (by simp)

@[simp] theorem State.tln_applyMap (s : State) (m raw : Nat) : (s.applyMap m raw).tln = s.tln :=
  tln_of_without (s.applyMap_without m raw (List.Subset.refl _)) (by simp)

/-- The registers that data of the device that goes to the host's memory, or that is asked of it, may change. -/
def internRegs : List Nat :=
  [Reg.hptNpOut, Reg.hptTagQuar, Reg.hptStatus, Reg.mtrRingProd, Reg.mtrStatus, Reg.tlnRingProd, Reg.tlnStatus, Reg.hiuMaskedCnt,
    Reg.hiuMsgCnt]

section
variable {s : State}

theorem State.regsBut_issueNp (fn : Nat) (kind : NpKind) (off len part : Nat) : s.RegsBut internRegs (s.issueNp fn kind off len part) := by
  unfold State.issueNp
  split
  · refine State.RegsBut.trans ?_ (State.regsBut_toHost (L := internRegs) _ _ (by decide))
    have np (hpt : Hpt) : s.RegsBut internRegs { s with hpt := hpt } := .of_regs rfl
    exact State.RegsBut.setNum (off := Reg.hptTagQuar) (.setNum (off := Reg.hptNpOut) (np _) (by decide)) (by decide)
  · exact .refl

theorem State.regsBut_internDone (e : Intern) : s.RegsBut internRegs (s.internDone e) := by
  unfold State.internDone
  split
  · split
    · refine State.regsBut_foldl (fun t o => ?_) _ _
      split
      · exact State.regsBut_issueNp ..
      · exact .emit .refl
    · exact .of_regs rfl
  · have sent : s.RegsBut internRegs (e.outs.foldl (fun t o => t.toHost o) s) :=
      State.regsBut_foldl (fun t o => State.regsBut_toHost t o (by decide)) _ _
    dsimp only
    split
    · exact .setBit (.setNum sent (by decide)) (by decide)
    · exact .setBit (.setNum sent (by decide)) (by decide)
    · exact sent.trans (.of_regs rfl)
    · exact sent.trans (State.regsBut_msix _ _ _ (by decide) (by decide) (by decide))
    · exact sent

theorem State.regsBut_internal (e : Intern) : s.RegsBut internRegs (s.internal e) :=
  .ite (State.regsBut_internDone e) (.of_regs rfl)

end

@[simp] theorem State.reg_of_internal_ne (s : State) (e : Intern) (r : Nat) (log : logReg r = false) (h : r ∉ internRegs) :
    (s.internal e).reg r = s.reg r := (State.regsBut_internal e).reg r h log

/-- A map entry that a sample updates: its value, its word of the Larvis space, and the event of a bad entry. -/
@[simp] theorem State.reg_of_applyMap (s : State) (m raw r : Nat) (page : r / 0x1000 ≠ 0x1303) (page' : r / 0x1000 ≠ 0x1304)
    (event : Reg.tlnEvent ≠ r) (evc : r / 0x100000 ≠ 15) : (s.applyMap m raw).reg r = s.reg r := by
  have value : Reg.tlnMapValue m ≠ r := by unfold Reg.tlnMapValue; omega
  have word (k : Nat) : Reg.tlnLarvis k ≠ r := by unfold Reg.tlnLarvis; omega
  unfold State.applyMap
  dsimp only
  split_ifs
  · exact State.reg_raise_ne _ _ _ _ evc event
  · exact (State.reg_of_setNum ..).trans ((if_neg (word _)).trans ((State.reg_of_setInt ..).trans (if_neg value)))
  · exact (State.reg_of_setInt ..).trans (if_neg value)
  · rfl
  · rfl

theorem State.tln_applyMaps (l : List Nat) (raw : Nat) (s : State) : (l.foldl (fun u m => u.applyMap m raw) s).tln = s.tln := by
  induction l generalizing s with
  | nil => rfl
  | cons m l ih => exact (ih _).trans (s.tln_applyMap m raw)

/-- What a sample shows does not depend on the transfer that its end lets begin. -/
theorem State.rawWord_xferStart (s : State) (e : Nat) (r : BusResult) : s.xferStart.rawWord e r = s.rawWord e r := by
  unfold State.xferStart
  dsimp only
  split <;> rfl

theorem State.tln_xferStart (s : State) : s.xferStart.tln.busy = s.tln.busy ∧ s.xferStart.tln.goodAt = s.tln.goodAt := by
  unfold State.xferStart
  dsimp only
  split <;> exact ⟨rfl, rfl⟩

@[simp] theorem State.reg_of_bufferRecord (s : State) (b : List Byte) (r : Nat) (cons : Reg.tlnBufCons ≠ r) (event : Reg.tlnEvent ≠ r)
    (evc : r / 0x100000 ≠ 15) : (s.bufferRecord b).reg r =
      if Reg.tlnBufProd = r then BitVec.ofNat 32 ((wordField (s.reg Reg.tlnBufProd) 0 18 + 1) % 262144) else s.reg r := by
  unfold State.bufferRecord
  dsimp only
  split <;> simp [↓State.reg_mk, cons, event, evc]

@[simp] theorem State.reg_of_ringRecord (s : State) (b : List Byte) (r : Nat) (intern : r ∉ internRegs) (drop : Reg.tlnRingDropCnt ≠ r)
    (event : Reg.tlnEvent ≠ r) (log : logReg r = false) : (s.ringRecord b).reg r = s.reg r := by
  unfold State.ringRecord
  dsimp only
  split_ifs <;> simp [event, drop, intern, log, page_ne_of_logReg log]

@[simp] theorem State.seqs_bufferRecord (s : State) (b : List Byte) : (s.bufferRecord b).tln.seqs = s.tln.seqs := by
  unfold State.bufferRecord
  dsimp only
  split <;> simp

@[simp] theorem State.tln_ringRecord (s : State) (b : List Byte) : (s.ringRecord b).tln = s.tln := by
  unfold State.ringRecord
  dsimp only
  split_ifs <;> simp

theorem wordField_congr {r r' : Word} {lo w : Nat} (h : ∀ i < w, r.getLsbD (lo + i) = r'.getLsbD (lo + i)) :
    wordField r lo w = wordField r' lo w := by
  refine Nat.eq_of_testBit_eq fun i => ?_
  rw [testBit_wordField, testBit_wordField]
  by_cases small : i < w
  · rw [h i small]
  · simp [small]

/-- GO is set beside the fields of a transfer (Table 14-14). -/
theorem xferWord (v : Word) : wordField (v ||| 0x80000000) 0 3 = wordField v 0 3 ∧ wordField (v ||| 0x80000000) 3 7 = wordField v 3 7 ∧
    wordField (v ||| 0x80000000) 11 4 = wordField v 11 4 ∧ (v ||| 0x80000000).getLsbD 10 = v.getLsbD 10 ∧
    (v ||| 0x80000000).getLsbD 31 = true := by
  refine ⟨wordField_congr fun i hi => ?_, wordField_congr fun i hi => ?_, wordField_congr fun i hi => ?_, ?_, ?_⟩
  · interval_cases i <;> simp
  · interval_cases i <;> simp
  · interval_cases i <;> simp
  · simp
  · simp

theorem foldl_mem_of_choice {op : Nat → Nat → Nat} (choice : ∀ a b, op a b = a ∨ op a b = b) (l : List Nat) (a : Nat) :
    l.foldl op a ∈ a :: l := by
  induction l generalizing a with
  | nil => simp
  | cons b l ih =>
    have chosen := List.mem_cons.mp (ih (op a b))
    simp only [List.foldl_cons, List.mem_cons]
    rcases choice a b with e | e <;> simp only [e] at chosen ⊢ <;> tauto

/-- The consumer index stays within what the archive holds (R464). -/
theorem State.archCons_within {s : State} (v : Word) (some : s.mtr.archive ≠ []) :
    s.mtr.archive.any (fun m => decide (m.minute ≤ (s.archCons v).mtr.archCons)) = true ∧
      s.mtr.archive.any (fun m => decide ((s.archCons v).mtr.archCons ≤ m.minute + 1)) = true := by
  obtain ⟨m, rest, e⟩ := List.exists_cons_of_ne_nil some
  have least := foldl_mem_of_choice (op := min) (fun a b => by omega) (rest.map (·.minute)) m.minute
  have most := foldl_mem_of_choice (op := max) (fun a b => by omega) (rest.map (·.minute)) m.minute
  rw [← List.map_cons (f := fun x : Minute => x.minute)] at least most
  obtain ⟨y, hy, lo⟩ := List.mem_map.mp least
  obtain ⟨z, hz, hi⟩ := List.mem_map.mp most
  have cons : (s.archCons v).mtr.archCons = max ((rest.map (·.minute)).foldl min m.minute)
      (min ((rest.map (·.minute)).foldl max m.minute + 1) (wordField v 0 16 * 2 ^ 32 + s.num Reg.mtrArchConsLo)) := by
    simp only [State.archCons, State.setReg, e, List.map_cons]
  simp only [List.any_eq_true, decide_eq_true_eq, cons, e]
  rw [← lo, ← hi]
  refine ⟨⟨y, hy, le_max_left _ _⟩, ?_⟩
  rcases le_total (min (z.minute + 1) (wordField v 0 16 * 2 ^ 32 + s.num Reg.mtrArchConsLo)) y.minute with h | h
  · exact ⟨y, hy, by omega⟩
  · exact ⟨z, hz, by omega⟩

/-- Settles O36. -/
theorem telemetryAndMetering : Obligations.TelemetryAndMetering := by
  unfold Obligations.TelemetryAndMetering
  refine ⟨fun s e live known on sampled due => ?_, fun s e r raw live busy good => ?_, fun s e r live busy bad => ?_,
    fun s r live known period due => ?_, fun s k live known => ?_, fun s v live idle bus bus' byte len len' target => ?_,
    fun s v live idle wrong => ?_, fun s k live runs going => ?_, fun s c x live claim key oldest => ?_, fun s v live => ?_⟩
  · refine ⟨_, congrArg Host.Outcome.next (s.whenLive_live _ live), ?_⟩
    simp only [State.sampleDue, known, on, sampled, due, and_self, if_true]
    split_ifs <;> simp [↓State.reg_mk]
  · refine ⟨_, congrArg Host.Outcome.next (s.whenLive_live _ live), ?_⟩
    rw [State.lensSampleDone, if_pos busy]
    simp only [State.rawWord_xferStart, show State.rawWord { s with tln := { s.tln with busy := s.tln.busy.filter (· != e) } } e r = some raw from good]
    simp +decide [State.tln_applyMaps, State.tln_xferStart, ↓State.reg_mk, State.frame, State.ftb_xferStart]
  · refine ⟨_, congrArg Host.Outcome.next (s.whenLive_live _ live), ?_⟩
    rw [State.lensSampleDone, if_pos busy]
    simp only [State.rawWord_xferStart, show State.rawWord { s with tln := { s.tln with busy := s.tln.busy.filter (· != e) } } e r = none from bad]
    simp +decide [State.tln_xferStart, ↓State.reg_mk]
  · refine ⟨_, congrArg Host.Outcome.next (s.whenLive_live _ live), ?_⟩
    rw [State.emitRecord, if_pos ⟨known, period, due⟩]
    simp +decide [State.showTlnRing, ↓State.reg_mk, Tab.get_modify, State.seqs_bufferRecord, wordField]
  · refine ⟨_, congrArg Host.Outcome.next (s.whenLive_live _ live), ?_⟩
    rw [State.larvisRead, if_pos known]
    simp
  · refine ⟨_, congrArg Host.Outcome.next (s.whenLive_live _ live), ?_⟩
    obtain ⟨b, a, l, x, go⟩ := xferWord v
    have fine : ¬ (wordField v 0 3 = 0 ∨ 3 < wordField v 0 3 ∨ wordField v 0 3 = 3 ∧ v.getLsbD 10 = true ∨ wordField v 11 4 = 0 ∨
        8 < wordField v 11 4 ∨ ¬ (s.setReg Reg.tlnXferCtl ((v ||| 0x80000000) &&& 0x8001FFFF)).busTarget (wordField v 0 3) (wordField v 3 7) = true) := by
      have target' : (s.setReg Reg.tlnXferCtl ((v ||| 0x80000000) &&& 0x8001FFFF)).busTarget (wordField v 0 3) (wordField v 3 7) = true := target
      simp only [target']
      grind
    rw [State.xferCtl, if_neg (ne_true_of_eq_false idle)]
    dsimp only
    rw [if_neg (not_not_intro go), b, a, l, x, if_neg fine]
    have code : wordField ((v ||| 0x80000000) &&& 0x8001FFFF) 0 3 = wordField v 0 3 ∧
        wordField ((v ||| 0x80000000) &&& 0x8001FFFF) 3 7 = wordField v 3 7 ∧ wordField ((v ||| 0x80000000) &&& 0x8001FFFF) 31 1 = 1 := by
      refine ⟨wordField_congr fun i hi => ?_, wordField_congr fun i hi => ?_, ?_⟩
      · interval_cases i <;> simp
      · interval_cases i <;> simp
      · have := getLsbD_eq_wordField ((v ||| 0x80000000) &&& 0x8001FFFF) 31
        simpa using this
    unfold State.xferStart
    dsimp only
    split_ifs <;> simp_all +decide [↓State.reg_mk, State.sampleCfg]
  · refine ⟨_, congrArg Host.Outcome.next (s.whenLive_live _ live), ?_⟩
    obtain ⟨b, a, l, x, go⟩ := xferWord v
    have bad : wordField v 0 3 = 0 ∨ 3 < wordField v 0 3 ∨ wordField v 0 3 = 3 ∧ v.getLsbD 10 = true ∨ wordField v 11 4 = 0 ∨
        8 < wordField v 11 4 ∨ ¬ (s.setReg Reg.tlnXferCtl ((v ||| 0x80000000) &&& 0x8001FFFF)).busTarget (wordField v 0 3) (wordField v 3 7) = true := by
      rcases wrong with h | h | h | h | h | h
      · exact .inl h
      · exact .inr (.inl h)
      · exact .inr (.inr (.inl h))
      · exact .inr (.inr (.inr (.inl h)))
      · exact .inr (.inr (.inr (.inr (.inl h))))
      · exact .inr (.inr (.inr (.inr (.inr (ne_true_of_eq_false h)))))
    rw [State.xferCtl, if_neg (ne_true_of_eq_false idle)]
    dsimp only
    rw [if_neg (not_not_intro go), b, a, l, x, if_pos bad]
    simp +decide [State.xferEnd]
  · refine ⟨_, congrArg Host.Outcome.next (s.whenLive_live _ live), ?_⟩
    have going' : ¬ (¬ s.bit Reg.tlnXferCtl 31 = true ∨ s.tln.xferWait = true) := by simpa [going] using runs
    unfold State.xferDone
    rw [if_neg going']
    cases k <;> dsimp only
    · split <;> simp +decide [State.xferEnd]
    all_goals simp +decide [State.xferEnd]
  · refine ⟨_, congrArg Host.Outcome.next (s.whenLive_live _ live), ?_⟩
    unfold State.signMinute
    rw [claim, oldest]
    dsimp only
    rw [if_neg (ne_true_of_eq_false key)]
    have signed (root : List Byte) (a : Minute) : (if a.minute = x.minute ∧ a.root = none then { a with root := some root } else a).minute = x.minute →
        (if a.minute = x.minute ∧ a.root = none then { a with root := some root } else a).root.isSome = true := by
      split_ifs with h
      · simp
      · intro same
        exact Option.ne_none_iff_isSome.mp fun none => h ⟨same, none⟩
    split <;> simp +decide [↓State.reg_mk, State.toRing, State.showRing] <;> exact fun a _ => signed _ a
  · refine ⟨_, congrArg Host.Outcome.next (s.whenLive_live _ live), ?_⟩
    refine ⟨?_, fun empty => ?_, fun some => ?_⟩
    · unfold State.archCons
      dsimp only
      split <;> simp [↓State.reg_mk]
    · simp [State.archCons, empty]
    · exact State.archCons_within v some

end Sys2Proof.Machine
end

section
/-! SUPPORT. The state that refutes the clauses on the ends of bursts (O34). -/
namespace Sys2Proof.Machine

/-- A posted burst of a window number whose place in LPB_FAIL_INFO reaches bit 31. -/
def farBurst : Burst :=
  { for_ := .posted, win := 2048, off := 0, addr := 0, beats := 1, write := true, req := 0, last := true }

/-- The far burst on the bus, its WAIT limit long past. -/
def farBurstWaits : State :=
  { pwr := { supply := .on, stop := .none }, ftb := { clock := 1000000 }, lpb := { queue := [farBurst] } }

/-- Refutes O34: the record of a posted write at its WAIT limit sums its fields, so that window 2048 carries into bit 31 and the
record reads as not valid. -/
theorem not_localBursts : ¬ Obligations.LocalBursts := by
  intro ⟨_, _, _, posted, _⟩
  obtain ⟨t, next, _, _, valid, _⟩ := posted farBurstWaits farBurst [] (by decide) rfl (by decide) (.inl rfl) (by decide)
  obtain rfl := Host.Outcome.next.inj next
  exact absurd valid (by decide)

end Sys2Proof.Machine
end

section
/-! SUPPORT. The local master, its upstream traffic and its interrupt lines (O35). -/
set_option linter.unusedSimpArgs false
namespace Sys2Proof.Machine

@[simp] theorem State.reg_of_msix (s : State) (f vec : Nat) (r : Nat) (h : r / 0x100000 ∉ [1, 3]) :
    (s.msix f vec).reg r = s.reg r :=
  reg_of_without (s.msix_without f vec (List.Subset.refl _)) (by simpa using h)

@[simp] theorem State.upBuf_answerMaster (s : State) (code addr : Nat) : (s.answerMaster code addr).lpb.upBuf = s.lpb.upBuf := by
  unfold State.answerMaster State.endGrant
  dsimp only
  split_ifs <;> rfl

@[simp] theorem State.upReads_answerMaster (s : State) (code addr : Nat) : (s.answerMaster code addr).lpb.upReads = s.lpb.upReads := by
  unfold State.answerMaster State.endGrant
  dsimp only
  split_ifs <;> rfl

@[simp] theorem State.reg_of_answerMaster (s : State) (code addr r : Nat) : (s.answerMaster code addr).reg r = s.reg r := by
  unfold State.answerMaster State.endGrant
  dsimp only
  split_ifs <;> rfl

@[simp] theorem State.hpt_answerMaster (s : State) (code addr : Nat) : (s.answerMaster code addr).hpt = s.hpt := by
  unfold State.answerMaster State.endGrant
  dsimp only
  split_ifs <;> rfl

theorem State.answerMaster_answers (s : State) (code addr : Nat) : Out.resp 4 code [addr] ∈ (s.answerMaster code addr).out := by
  unfold State.answerMaster State.endGrant
  dsimp only
  split_ifs <;> simp

section
variable {s : State}

theorem State.lpb_sent (l : List Out) (s : State) : (l.foldl (fun t o => t.toHost o) s).lpb = s.lpb := by
  induction l generalizing s with
  | nil => rfl
  | cons o l ih => exact (ih _).trans (lpb_of_without (s.toHost_without o (List.Subset.refl _)) (by simp))

/-- A write of the local master goes on at once in Park, and in Run when its stage comes (R571). -/
theorem State.upBuf_internal (moves : s.dmaOk 0 = true) (a : Nat) (outs : List Out) :
    (s.internal { kind := .bridge a, deliver := true, units := 1, outs := outs }).lpb.upBuf =
      if s.inRun then s.lpb.upBuf else s.lpb.upBuf.drop 1 := by
  unfold State.internal
  by_cases park : s.field Reg.prxStatus 0 2 = 0
  · have run : s.inRun = false := by simpa [State.inRun, State.prxState] using park
    rw [if_pos ⟨park, moves⟩, run]
    simp [State.internDone, State.lpb_sent]
  · have run : s.inRun = true := by simpa [State.inRun, State.prxState] using park
    rw [if_neg fun h => park h.1, run]
    rfl

theorem State.lpb_issued (kind : NpKind) (l : List Out) (s : State) : (l.foldl (fun t o => match o with
      | .tlp p => t.issueNp p.fn kind p.off p.len 0
      | o => t.emit o) s).lpb = s.lpb := by
  induction l generalizing s with
  | nil => rfl
  | cons o l ih =>
    refine (ih _).trans ?_
    dsimp only
    split
    · exact lpb_of_without (s.issueNp_without _ kind _ _ _ (List.Subset.refl _)) (by simp)
    · rfl

/-- What the device asks of the host leaves the local port. -/
theorem State.lpb_internal_ask (e : Intern) (ask : e.deliver = false) : (s.internal e).lpb = s.lpb := by
  unfold State.internal
  split
  · unfold State.internDone
    rw [if_pos (by simp [ask])]
    split
    · exact State.lpb_issued (.internal e.kind e.cmd) e.outs s
    · rfl
  · rfl

theorem State.lpb_internalRead (k : Inner) (fn : Nat) (cmd : Option CmdId) (addr len : Nat) :
    (s.internalRead k fn cmd addr len).lpb = s.lpb := by
  unfold State.internalRead
  generalize splitTlp 4096 len addr len = l
  induction l generalizing s with
  | nil => rfl
  | cons p l ih => exact ih.trans (State.lpb_internal_ask _ rfl)

/-- In Run what the device asks of the host waits for its stage. -/
theorem State.internal_waits (run : s.inRun = true) (e : Intern) :
    s.internal e = { s with hpt := { s.hpt with intern := s.hpt.intern ++ [e] } } := by
  have park : ¬ s.field Reg.prxStatus 0 2 = 0 := by simpa [State.inRun, State.prxState] using run
  exact if_neg fun h => park h.1

theorem State.internalRead_asks {k : Inner} {fn : Nat} {cmd : Option CmdId} {addr len : Nat} (run : s.inRun = true) (some : len ≠ 0) :
    (s.internalRead k fn cmd addr len).hpt.intern.any (fun e => e.kind == k && !e.deliver) = true := by
  have kept (l : List (Nat × Nat)) (t : State) (run : t.inRun = true) (asked : t.hpt.intern.any (fun e => e.kind == k && !e.deliver) = true) :
      (l.foldl (fun t p => t.internal { kind := k, fn := fn, cmd := cmd, deliver := false, units := 1, outs := t.readTlps fn p.1 p.2 }) t).hpt.intern.any
        (fun e => e.kind == k && !e.deliver) = true := by
    induction l generalizing t with
    | nil => exact asked
    | cons p l ih =>
      rw [List.foldl_cons, State.internal_waits run]
      exact ih _ run (by simp_all)
  obtain ⟨n, rfl⟩ := Nat.exists_eq_succ_of_ne_zero some
  unfold State.internalRead
  rw [splitTlp, if_neg some]
  dsimp only
  rw [List.foldl_cons, State.internal_waits run]
  exact kept _ _ run (by simp)

end

/-- A read that is kept has not waited as long as `n`. -/
theorem fresh_of_kept {l : List UpRead} {r : UpRead} {a n k now : Nat}
    (mem : r ∈ l.filter fun r => !(r.addr == a && r.ready.any fun k => decide (k + n ≤ now))) (addr : r.addr = a) (ready : r.ready = some k) :
    now < k + n := by
  simpa [addr, ready] using (List.mem_filter.mp mem).2

/-- Settles O35. -/
theorem localMaster : Obligations.LocalMaster := by
  unfold Obligations.LocalMaster
  refine ⟨fun s live free can => ?_, fun s live free held => ?_, fun s a n live granted inside good room => ?_,
    fun s a n live granted inside bad => ?_, fun s a n live granted inside good new => ?_, fun s a n r live granted inside good there ready => ?_,
    fun s a live unasked unsent => ?_, fun s a live stale => ?_, fun s k live known => ?_⟩
  · refine ⟨_, congrArg Host.Outcome.next (s.whenLive_live _ live), ?_⟩
    have open_ : ¬ (s.lpbLocked = true ∨ (s.lpb.queue ≠ [] ∧ s.lpb.retries < 4)) := by
      rcases can with e | ⟨unlocked, tried⟩
      · simp [State.lpbLocked, e]
      · simp [unlocked]
        omega
    rw [State.busRequest, if_neg (ne_true_of_eq_false free), if_neg open_]
    exact ⟨rfl, rfl, rfl⟩
  · refine ⟨_, congrArg Host.Outcome.next (s.whenLive_live _ live), ?_⟩
    rw [State.busRequest, if_neg (ne_true_of_eq_false free), if_pos held]
    simp [free, ↓State.reg_mk]
  · refine ⟨_, congrArg Host.Outcome.next (s.whenLive_live _ live), ?_⟩
    have reached : ¬ (¬ s.lpb.granted = true ∨ ¬ s.inAperture a = true) := by simp [granted, inside]
    rw [State.upWrite, if_neg reached, if_neg (ne_true_of_eq_false good), if_neg (by omega)]
    refine ⟨?_, State.answerMaster_answers ..⟩
    have moves : ({ s with lpb := { s.lpb with upBuf := s.lpb.upBuf ++ [n] } } : State).dmaOk 0 = true := by
      simp only [State.upBad, Bool.or_eq_false_iff, Bool.not_eq_false'] at good
      exact good.2
    rw [State.upBuf_answerMaster]
    exact State.upBuf_internal moves _ _
  · refine ⟨_, congrArg Host.Outcome.next (s.whenLive_live _ live), ?_⟩
    have reached : ¬ (¬ s.lpb.granted = true ∨ ¬ s.inAperture a = true) := by simp [granted, inside]
    rw [State.upWrite, if_neg reached, if_pos bad]
    simp +decide
  · refine ⟨_, congrArg Host.Outcome.next (s.whenLive_live _ live), ?_⟩
    have reached : ¬ (¬ s.lpb.granted = true ∨ ¬ s.inAperture a = true) := by simp [granted, inside]
    rw [State.upRead, if_neg reached, if_neg (ne_true_of_eq_false good), new]
    refine ⟨?_, fun run some => ?_, State.answerMaster_answers ..⟩
    · rw [State.upReads_answerMaster, State.lpb_internalRead]
    · rw [State.hpt_answerMaster]
      exact State.internalRead_asks run some
  · refine ⟨_, congrArg Host.Outcome.next (s.whenLive_live _ live), ?_⟩
    have reached : ¬ (¬ s.lpb.granted = true ∨ ¬ s.inAperture a = true) := by simp [granted, inside]
    rw [State.upRead, if_neg reached, if_neg (ne_true_of_eq_false good), there]
    dsimp only
    rw [if_pos ready]
    split
    · exact ⟨by simp, State.answerMaster_answers ..⟩
    · exact ⟨by simp, State.answerMaster_answers ..⟩
  · refine ⟨_, congrArg Host.Outcome.next (s.whenLive_live _ live), fun r mem addr => ?_⟩
    rw [State.upData, if_neg (by simp [unasked, unsent])]
    refine List.mem_map.mpr ⟨r, mem, ?_⟩
    cases e : r.ready with
    | none => rw [if_pos ⟨addr, by simp⟩]; rfl
    | some k =>
      rw [if_neg (by simp)]
      show r = { r with ready := some k }
      rw [← e]
  · refine ⟨_, congrArg Host.Outcome.next (s.whenLive_live _ live), ?_⟩
    unfold State.upStale
    dsimp only
    rw [if_pos stale]
    refine ⟨by simp +decide [↓State.reg_mk], fun r mem addr k ready => ?_⟩
    rw [State.lpb_countErr] at mem
    exact fresh_of_kept mem addr ready
  · refine ⟨_, congrArg Host.Outcome.next (s.whenLive_live _ live), ?_⟩
    rw [State.lpIrq, if_pos known]
    dsimp only
    split_ifs
    · simp +decide [show 3 + k < 32 by omega]
    · simp +decide [show 3 + k < 32 by omega]
    · simp +decide [show 3 + k < 32 by omega]

end Sys2Proof.Machine
end

section
/-! SUPPORT. Host requests through local windows, and the commit of windows (O33). -/
set_option linter.unusedSimpArgs false
namespace Sys2Proof.Machine

@[simp] theorem State.lpb_unsupported (s : State) (f : Nat) (posted : Bool) : (s.unsupported f posted).lpb = s.lpb :=
  lpb_of_without (s.unsupported_without f posted (List.Subset.refl _)) (by simp)
@[simp] theorem State.reg_of_aerUnc (s : State) (f bit : Nat) (r : Nat) (h : r / 0x100000 ∉ [1, 15, 20]) :
    (s.aerUnc f bit).reg r = s.reg r :=
  reg_of_without (s.aerUnc_without f bit (List.Subset.refl _)) (by simpa using h)
@[simp] theorem State.lpb_aerUnc (s : State) (f bit : Nat) : (s.aerUnc f bit).lpb = s.lpb :=
  lpb_of_without (s.aerUnc_without f bit (List.Subset.refl _)) (by simp)
@[simp] theorem State.reg_of_aerAdvisory (s : State) (f bit : Nat) (r : Nat) (h : r / 0x100000 ∉ [1, 15, 20]) :
    (s.aerAdvisory f bit).reg r = s.reg r :=
  reg_of_without (s.aerAdvisory_without f bit (List.Subset.refl _)) (by simpa using h)
@[simp] theorem State.lpb_aerAdvisory (s : State) (f bit : Nat) : (s.aerAdvisory f bit).lpb = s.lpb :=
  lpb_of_without (s.aerAdvisory_without f bit (List.Subset.refl _)) (by simp)
@[simp] theorem State.reg_of_lpbData (s : State) (n : Nat) (r : Nat) :
    (s.lpbData n).reg r = s.reg r :=
  reg_of_without (s.lpbData_without n (List.Subset.refl _)) (by simp)
@[simp] theorem State.lpb_lpbData (s : State) (n : Nat) : (s.lpbData n).lpb = s.lpb :=
  lpb_of_without (s.lpbData_without n (List.Subset.refl _)) (by simp)

section
@[simp] theorem State.reg_of_retryWaiting (s : State) (r : Nat) (h : r / 0x100000 ∉ [1, 15, 20]) :
    (s.retryWaiting).reg r = s.reg r :=
  reg_of_without (s.retryWaiting_without (List.Subset.refl _)) (by simpa using h)

variable (s : State)

@[simp] theorem State.reg_of_enqueue (bs : List Burst) (r : Nat) : (s.enqueue bs).reg r = s.reg r := by
  unfold State.enqueue State.endGrant State.startBurst
  dsimp only
  repeat' split
  all_goals rfl

@[simp] theorem State.queue_enqueue (bs : List Burst) : (s.enqueue bs).lpb.queue = s.lpb.queue ++ bs := by
  unfold State.enqueue State.endGrant State.startBurst
  dsimp only
  repeat' split
  all_goals rfl

@[simp] theorem State.waiting_enqueue (bs : List Burst) : (s.enqueue bs).lpb.waiting = s.lpb.waiting := by
  unfold State.enqueue State.endGrant State.startBurst
  dsimp only
  repeat' split
  all_goals rfl

@[simp] theorem State.fetched_enqueue (bs : List Burst) : (s.enqueue bs).lpb.fetched = s.lpb.fetched := by
  unfold State.enqueue State.endGrant State.startBurst
  dsimp only
  repeat' split
  all_goals rfl

@[simp] theorem State.drainAt_enqueue (bs : List Burst) : (s.enqueue bs).lpb.drainAt = s.lpb.drainAt := by
  unfold State.enqueue State.endGrant State.startBurst
  dsimp only
  repeat' split
  all_goals rfl

@[simp] theorem State.granted_enqueue (bs : List Burst) : (s.enqueue bs).lpb.granted = false := by
  unfold State.enqueue State.endGrant State.startBurst
  dsimp only
  repeat' split
  all_goals simp_all

end

@[simp] theorem State.lpb_postFail (s : State) (b : Burst) (cause : Nat) : (s.postFail b cause).lpb = s.lpb :=
  lpb_of_without (s.postFail_without b cause (List.Subset.refl _)) (by simp)

@[simp] theorem State.lpb_lpbCpl (s : State) (status : Nat) : (s.lpbCpl status).lpb = s.lpb :=
  lpb_of_without (s.lpbCpl_without status (List.Subset.refl _)) (by simp)

/-- A request that is refused is counted (R573). -/
theorem State.num_unsupported (s : State) (f : Nat) (posted : Bool) :
    (s.unsupported f posted).num Reg.hptUrCnt = satAdd 32 (s.num Reg.hptUrCnt) 1 := by
  have unc (t : State) (g bit : Nat) : (t.aerUnc g bit).reg Reg.hptUrCnt = t.reg Reg.hptUrCnt :=
    (t.regsBut_aerUnc (L := [Reg.hptAerLost, Reg.hptEvent]) g bit (by decide) (by decide)).reg _ (by decide) (by decide)
  have advisory (t : State) (g bit : Nat) : (t.aerAdvisory g bit).reg Reg.hptUrCnt = t.reg Reg.hptUrCnt :=
    (t.regsBut_aerAdvisory (L := [Reg.hptAerLost, Reg.hptEvent]) g bit (by decide) (by decide)).reg _ (by decide) (by decide)
  unfold State.unsupported
  dsimp only
  split_ifs <;> simp +decide [unc, advisory]

theorem State.byService_live {s : State} {c : Nat} (f : State → State) (live : s.live = true) (service : c = 4 ∨ c = 5) :
    s.byService (.core c) f = f s := by
  rcases service with rfl | rfl <;> exact s.whenLive_live _ live

/-- A commit copies the eight windows: each active register takes its shadow's value (R565). -/
theorem State.reg_copied {dst src : Nat → Nat} (copy : ∀ (s : State) c, (s.copyWindow c).reg (dst c) = s.reg (src c))
    (other : ∀ (s : State) c w, c % 8 ≠ w % 8 → (s.copyWindow c).reg (dst w) = s.reg (dst w))
    (kept : ∀ (s : State) c w, (s.copyWindow c).reg (src w) = s.reg (src w))
    (same : ∀ c w, c % 8 = w % 8 → dst c = dst w ∧ src c = src w) (w : Nat) :
    ∀ (l : List Nat) (s : State), (l.foldl (fun t w => t.copyWindow w) s).reg (dst w) =
      if ∃ c ∈ l, c % 8 = w % 8 then s.reg (src w) else s.reg (dst w)
  | [], s => by simp
  | c :: l, s => by
    rw [List.foldl_cons, State.reg_copied copy other kept same w l, kept]
    by_cases later : ∃ c ∈ l, c % 8 = w % 8
    · rw [if_pos later, if_pos (by obtain ⟨d, hd, e⟩ := later; exact ⟨d, by simp [hd], e⟩)]
    · rw [if_neg later]
      by_cases here : c % 8 = w % 8
      · rw [if_pos ⟨c, by simp, here⟩, ← (same c w here).1, ← (same c w here).2, copy]
      · rw [if_neg (by simp_all), other s c w here]

theorem State.reg_copiedAll {dst src : Nat → Nat} (copy : ∀ (s : State) c, (s.copyWindow c).reg (dst c) = s.reg (src c))
    (other : ∀ (s : State) c w, c % 8 ≠ w % 8 → (s.copyWindow c).reg (dst w) = s.reg (dst w))
    (kept : ∀ (s : State) c w, (s.copyWindow c).reg (src w) = s.reg (src w))
    (same : ∀ c w, c % 8 = w % 8 → dst c = dst w ∧ src c = src w) (w : Nat) (s : State) :
    ((List.range 8).foldl (fun t w => t.copyWindow w) s).reg (dst w) = s.reg (src w) := by
  rw [State.reg_copied copy other kept same, if_pos ⟨w % 8, List.mem_range.mpr (by omega), by omega⟩]

section
variable (s : State) (c w : Nat)

theorem copyBase : (s.copyWindow c).reg (Reg.lpbWinBase c) = s.reg (Reg.lpbWinShadowBase c) := by
  simp [State.copyWindow]
theorem otherBase (h : c % 8 ≠ w % 8) : (s.copyWindow c).reg (Reg.lpbWinBase w) = s.reg (Reg.lpbWinBase w) := by
  simp (disch := omega) only [State.copyWindow, State.reg_of_setReg, Reg.lpbWinBase, Reg.lpbWinLimit, Reg.lpbWinTrans, Reg.lpbWinCfg, if_neg]
theorem keptBase : (s.copyWindow c).reg (Reg.lpbWinShadowBase w) = s.reg (Reg.lpbWinShadowBase w) := by
  simp (disch := omega) only [State.copyWindow, State.reg_of_setReg, Reg.lpbWinBase, Reg.lpbWinLimit, Reg.lpbWinTrans, Reg.lpbWinCfg, Reg.lpbWinShadowBase, Reg.lpbWinShadowLimit, Reg.lpbWinShadowTrans, Reg.lpbWinShadowCfg, if_neg]
theorem sameBase (h : c % 8 = w % 8) : Reg.lpbWinBase c = Reg.lpbWinBase w ∧ Reg.lpbWinShadowBase c = Reg.lpbWinShadowBase w := by
  simp [h]
theorem copyLimit : (s.copyWindow c).reg (Reg.lpbWinLimit c) = s.reg (Reg.lpbWinShadowLimit c) := by
  simp [State.copyWindow]
theorem otherLimit (h : c % 8 ≠ w % 8) : (s.copyWindow c).reg (Reg.lpbWinLimit w) = s.reg (Reg.lpbWinLimit w) := by
  simp (disch := omega) only [State.copyWindow, State.reg_of_setReg, Reg.lpbWinBase, Reg.lpbWinLimit, Reg.lpbWinTrans, Reg.lpbWinCfg, if_neg]
theorem keptLimit : (s.copyWindow c).reg (Reg.lpbWinShadowLimit w) = s.reg (Reg.lpbWinShadowLimit w) := by
  simp (disch := omega) only [State.copyWindow, State.reg_of_setReg, Reg.lpbWinBase, Reg.lpbWinLimit, Reg.lpbWinTrans, Reg.lpbWinCfg, Reg.lpbWinShadowBase, Reg.lpbWinShadowLimit, Reg.lpbWinShadowTrans, Reg.lpbWinShadowCfg, if_neg]
theorem sameLimit (h : c % 8 = w % 8) : Reg.lpbWinLimit c = Reg.lpbWinLimit w ∧ Reg.lpbWinShadowLimit c = Reg.lpbWinShadowLimit w := by
  simp [h]
theorem copyTrans : (s.copyWindow c).reg (Reg.lpbWinTrans c) = s.reg (Reg.lpbWinShadowTrans c) := by
  simp [State.copyWindow]
theorem otherTrans (h : c % 8 ≠ w % 8) : (s.copyWindow c).reg (Reg.lpbWinTrans w) = s.reg (Reg.lpbWinTrans w) := by
  simp (disch := omega) only [State.copyWindow, State.reg_of_setReg, Reg.lpbWinBase, Reg.lpbWinLimit, Reg.lpbWinTrans, Reg.lpbWinCfg, if_neg]
theorem keptTrans : (s.copyWindow c).reg (Reg.lpbWinShadowTrans w) = s.reg (Reg.lpbWinShadowTrans w) := by
  simp (disch := omega) only [State.copyWindow, State.reg_of_setReg, Reg.lpbWinBase, Reg.lpbWinLimit, Reg.lpbWinTrans, Reg.lpbWinCfg, Reg.lpbWinShadowBase, Reg.lpbWinShadowLimit, Reg.lpbWinShadowTrans, Reg.lpbWinShadowCfg, if_neg]
theorem sameTrans (h : c % 8 = w % 8) : Reg.lpbWinTrans c = Reg.lpbWinTrans w ∧ Reg.lpbWinShadowTrans c = Reg.lpbWinShadowTrans w := by
  simp [h]
theorem copyCfg : (s.copyWindow c).reg (Reg.lpbWinCfg c) = s.reg (Reg.lpbWinShadowCfg c) := by
  simp [State.copyWindow]
theorem otherCfg (h : c % 8 ≠ w % 8) : (s.copyWindow c).reg (Reg.lpbWinCfg w) = s.reg (Reg.lpbWinCfg w) := by
  simp (disch := omega) only [State.copyWindow, State.reg_of_setReg, Reg.lpbWinBase, Reg.lpbWinLimit, Reg.lpbWinTrans, Reg.lpbWinCfg, if_neg]
theorem keptCfg : (s.copyWindow c).reg (Reg.lpbWinShadowCfg w) = s.reg (Reg.lpbWinShadowCfg w) := by
  simp (disch := omega) only [State.copyWindow, State.reg_of_setReg, Reg.lpbWinBase, Reg.lpbWinLimit, Reg.lpbWinTrans, Reg.lpbWinCfg, Reg.lpbWinShadowBase, Reg.lpbWinShadowLimit, Reg.lpbWinShadowTrans, Reg.lpbWinShadowCfg, if_neg]
theorem sameCfg (h : c % 8 = w % 8) : Reg.lpbWinCfg c = Reg.lpbWinCfg w ∧ Reg.lpbWinShadowCfg c = Reg.lpbWinShadowCfg w := by
  simp [h]

end

/-- The end of a commit leaves the windows' registers as they were copied. -/
theorem State.reg_committed {t : State} {lpb : Lpb} {r : Nat} (win : r / 0x100 = 0x12001) :
    ((State.setField { t with lpb := lpb } Reg.lpbCommitStatus 0 2 2).raise Reg.lpbEvent 1).retryWaiting.reg r = t.reg r := by
  have pages : r / 0x100000 ∉ [1, 15, 20] ∧ r / 0x100000 ≠ 15 := by simp; omega
  have status : Reg.lpbCommitStatus ≠ r := by unfold Reg.lpbCommitStatus; omega
  have event : Reg.lpbEvent ≠ r := by unfold Reg.lpbEvent; omega
  rw [State.reg_of_retryWaiting _ _ pages.1, State.reg_raise_ne _ _ _ _ pages.2 event, State.reg_of_setField, if_neg status]
  rfl

theorem State.drainAt_winRequest {s : State} (calm : s.lpb.drainAt = none) (r : WinReq) : (s.winRequest r).lpb.drainAt = none := by
  unfold State.winRequest
  rw [if_neg (by simp [calm])]
  split
  · simp [calm]
  · split
    · unfold State.winAccept
      dsimp only
      repeat' split
      all_goals simp [calm]
    · exact calm

/-- Requests that are tried again begin no drain. -/
theorem State.drainAt_retryWaiting {s : State} (calm : s.lpb.drainAt = none) : s.retryWaiting.lpb.drainAt = none := by
  unfold State.retryWaiting
  rw [if_neg (by simp [calm])]
  have each (l : List WinReq) (t : State) (calm : t.lpb.drainAt = none) : (l.foldl (fun t r => t.winRequest r) t).lpb.drainAt = none := by
    induction l generalizing t with
    | nil => exact calm
    | cons r l ih => exact ih _ (State.drainAt_winRequest calm r)
  exact each _ _ calm

theorem mem_of_mem_dropRest {b x : Burst} {q : List Burst} (h : x ∈ dropRest b q) : x ∈ q := by
  unfold dropRest at h
  split at h
  · exact h
  · obtain ⟨p, hp, rfl⟩ := List.mem_map.mp h
    exact (List.mem_zipIdx (List.mem_filter.mp hp).1).2.2 ▸ List.getElem_mem _

/-- A burst of the host that fails leaves no other than cores' bursts where there were none. -/
theorem State.drained_burstFailed {s : State} {b : Burst} (host : b.isCore = false) (cause : Nat) (drained : s.lpb.queue.all Burst.isCore = true) :
    (s.burstFailed b cause).lpb.queue.all Burst.isCore = true := by
  have rest : (dropRest b s.lpb.queue).all Burst.isCore = true := by
    simp only [List.all_eq_true] at drained ⊢
    exact fun x hx => drained x (mem_of_mem_dropRest hx)
  unfold State.burstFailed
  dsimp only
  split
  case h_6 c core => simp [Burst.isCore, core] at host
  all_goals
    simp only [State.lpbAbort, State.lpb_lpbCpl, State.lpb_aerAdvisory, State.lpb_countErr, State.lpb_postFail]
    exact rest

@[simp] theorem State.queue_nextBurst (s : State) (c : Bool) : (s.nextBurst c).lpb.queue = nextFirst c s.lpb.queue := by
  unfold State.nextBurst State.startBurst
  dsimp only
  split <;> rfl

@[simp] theorem State.reg_of_nextBurst (s : State) (c : Bool) (r : Nat) : (s.nextBurst c).reg r = s.reg r := by
  unfold State.nextBurst State.startBurst
  dsimp only
  split <;> rfl

theorem nextFirst_all (c : Bool) {q : List Burst} {p : Burst → Bool} (h : q.all p = true) : (nextFirst c q).all p = true := by
  unfold nextFirst
  split
  case h_1 b found =>
    have mem := List.mem_of_find?_eq_some found
    simp only [List.all_eq_true] at h ⊢
    intro x hx
    rcases List.mem_cons.mp hx with rfl | hx
    · exact h _ mem
    · exact h _ (List.mem_of_mem_erase hx)
  case h_2 => exact h

/-- Settles O33. -/
theorem localWindows : Obligations.LocalWindows := by
  unfold Obligations.LocalWindows
  refine ⟨fun s off n b r live some normal mem bar calm none => ?_, fun s off n r w live some normal mem bar calm win ready => ?_,
    fun s off n r w live some normal mem bar calm win ready => ?_, fun s off n b r live some normal mem bar draining => ?_,
    fun s off n f w live some normal mem bar calm win ready => ?_, fun s w live => ?_, fun s c w k live service calm error hw hk => ?_,
    fun s c live service calm fine => ?_, fun s live draining drained => ?_, fun s a live draining late undrained => ?_⟩
  · refine ⟨_, congrArg Host.Outcome.next (s.whenLive_live _ live), ?_⟩
    rw [State.bar4Request, if_neg (by simp; omega), if_pos ⟨normal, mem, bar⟩, State.winRequest, if_neg (by simp [calm]), none]
    exact ⟨by simp, State.num_unsupported ..⟩
  · refine ⟨_, congrArg Host.Outcome.next (s.whenLive_live _ live), ?_⟩
    rw [State.bar4Request, if_neg (by simp; omega), if_pos ⟨normal, mem, bar⟩, State.winRequest, if_neg (by simp [calm]), win]
    dsimp only
    rw [if_pos ready]
    simp [State.winAccept]
    rfl
  · refine ⟨_, congrArg Host.Outcome.next (s.whenLive_live _ live), ?_⟩
    rw [State.bar4Request, if_neg (by simp; omega), if_pos ⟨normal, mem, bar⟩, State.winRequest, if_neg (by simp [calm]), win]
    dsimp only
    rw [if_pos ready]
    simp [State.winAccept]
    split <;> simp_all
  · refine ⟨_, congrArg Host.Outcome.next (s.whenLive_live _ live), ?_⟩
    rw [State.bar4Request, if_neg (by simp; omega), if_pos ⟨normal, mem, bar⟩, State.winRequest, if_pos draining]
    exact ⟨rfl, rfl⟩
  · refine ⟨_, congrArg Host.Outcome.next (s.whenLive_live _ live), ?_⟩
    rw [State.bar4Request, if_neg (by simp; omega), if_pos ⟨normal, mem, bar⟩, State.winRequest, if_neg (by simp [calm]), win]
    dsimp only
    rw [if_pos ready]
    simp [State.winAccept]
    rfl
  · refine ⟨_, congrArg Host.Outcome.next (s.whenLive_live _ live), ?_⟩
    simp [State.prefetchExpire]
    grind
  · refine ⟨_, congrArg Host.Outcome.next (State.byService_live _ live service), ?_⟩
    unfold State.winCommit
    rw [if_neg (by simp [calm]), error]
    have sum : 3 + w * 4 + k * 256 < 4294967296 := by omega
    simp +decide [calm]
    simp only [wordField, BitVec.toNat_ofNat]
    omega
  · refine ⟨_, congrArg Host.Outcome.next (State.byService_live _ live service), ?_⟩
    unfold State.winCommit
    rw [if_neg (by simp [calm]), fine]
    have other (w : Nat) : Reg.lpbCommitStatus ≠ Reg.lpbWinCfg w := by unfold Reg.lpbCommitStatus Reg.lpbWinCfg; omega
    simp [↓State.reg_mk, State.now, other]
  · refine ⟨_, congrArg Host.Outcome.next (s.whenLive_live _ live), ?_⟩
    rw [State.commitDone, if_pos ⟨draining, drained⟩]
    dsimp only
    refine ⟨State.drainAt_retryWaiting (by rw [State.lpb_raise]; rfl), by simp +decide, by simp +decide, fun w => ⟨?_, ?_, ?_, ?_⟩⟩
    · exact (State.reg_committed (by unfold Reg.lpbWinBase; omega)).trans (State.reg_copiedAll copyBase otherBase keptBase sameBase w s)
    · exact (State.reg_committed (by unfold Reg.lpbWinLimit; omega)).trans (State.reg_copiedAll copyLimit otherLimit keptLimit sameLimit w s)
    · exact (State.reg_committed (by unfold Reg.lpbWinTrans; omega)).trans (State.reg_copiedAll copyTrans otherTrans keptTrans sameTrans w s)
    · exact (State.reg_committed (by unfold Reg.lpbWinCfg; omega)).trans (State.reg_copiedAll copyCfg otherCfg keptCfg sameCfg w s)
  · refine ⟨_, congrArg Host.Outcome.next (s.whenLive_live _ live), ?_⟩
    have late' : s.lpb.drainAt.any (· + 50000 ≤ s.now) = true ∧ ¬ s.lpbDrained = true := by
      rw [draining]
      exact ⟨decide_eq_true late, ne_true_of_eq_false undrained⟩
    rw [State.drainTimeout, if_pos late']
    dsimp only
    have ended (l : List Burst) (host : ∀ b ∈ l, b.isCore = false) (t : State) (d : t.lpb.queue.all Burst.isCore = true) :
        (l.foldl (fun u b => u.burstFailed b 3) t).lpb.queue.all Burst.isCore = true := by
      induction l generalizing t with
      | nil => exact d
      | cons b l ih => exact ih (fun b hb => host b (by simp [hb])) _ (State.drained_burstFailed (host b (by simp)) 3 d)
    have all := ended (s.lpb.queue.filter fun b => !b.isCore && b.last) (by simp +contextual)
      { s with lpb := { s.lpb with queue := s.lpb.queue.filter Burst.isCore } } (by simp)
    split
    · exact ⟨by simp, all⟩
    · exact ⟨by simp, by rw [State.lpbDrained, State.queue_nextBurst]; exact nextFirst_all _ all⟩

end Sys2Proof.Machine
end

section
/-! SUPPORT. The NVMe-MI endpoint on SMB0 (O37), and power-on reset and the boot stages (O38). -/
set_option linter.unusedSimpArgs false
namespace Sys2Proof.Machine

theorem State.next_miServed {s : State} (on : s.pwr.supply = .on) (f : State → State) :
    Host.Outcome.next (s.miServed f) = (.next (f s) : Result) :=
  congrArg Host.Outcome.next (if_pos on)

/-- Settles O37. -/
theorem managementEndpoint : Obligations.ManagementEndpoint := by
  unfold Obligations.ManagementEndpoint
  refine ⟨fun s e on low high => ?_, fun s on => ?_, fun s on => ?_, fun s on => ?_, fun s on => ?_, fun s on => ?_, fun s k on => ?_,
    fun s on => ?_, fun s f on there => ?_, fun s k v on known => ?_, fun s k on => ?_, fun s a n d on desc within => ?_, fun s k on => ?_⟩
  · refine ⟨_, State.next_miServed on _, ?_⟩
    rw [State.setEid, if_neg (by omega)]
    exact ⟨rfl, rfl⟩
  · exact ⟨_, State.next_miServed on _, rfl⟩
  · exact ⟨_, State.next_miServed on _, List.mem_cons_self⟩
  · exact ⟨_, State.next_miServed on _, rfl⟩
  · exact ⟨_, State.next_miServed on _, rfl⟩
  · exact ⟨_, State.next_miServed on _, by simp +decide⟩
  · refine ⟨_, State.next_miServed on _, ?_⟩
    by_cases known : k ≤ 4
    · interval_cases k <;> rfl
    · have none : s.miStructure k = none := by
        unfold State.miStructure
        split
        case h_6 => rfl
        all_goals omega
      rw [none, if_neg known]
      rfl
  · exact ⟨_, State.next_miServed on _, rfl⟩
  · refine ⟨_, State.next_miServed on _, ?_⟩
    rw [if_pos there]
    rfl
  · refine ⟨_, State.next_miServed on _, ?_⟩
    rcases known with ⟨rfl, low, high⟩ | ⟨rfl, low, high⟩
    · simp [State.miSet, low, high, State.miAnswer]
    · simp [State.miSet, low, high, State.miAnswer]
  · refine ⟨_, State.next_miServed on _, ?_⟩
    unfold State.miGet
    split_ifs <;> rfl
  · refine ⟨_, State.next_miServed on _, ?_⟩
    have fits : a + n ≤ (((s.pwr.desc.map (·.vpd)).getD []).take 256).length := by rw [desc]; exact within
    unfold State.miVpd
    dsimp only
    rw [if_pos fits, desc]
    rfl
  · exact ⟨_, State.next_miServed on _, rfl⟩

end Sys2Proof.Machine
end

section
/-! SUPPORT. Power-on reset and the boot stages (O38). -/
set_option linter.unusedSimpArgs false
namespace Sys2Proof.Machine

theorem supply_of_without {W : List Part} {s t : State} (h : t.without W = s.without W) (hW : Part.pwr ∉ W) :
    t.pwr.supply = s.pwr.supply ∧ t.pwr.straps = s.pwr.straps := by
  have supply := congrArg (fun u => u.pwr.supply) h
  have straps := congrArg (fun u => u.pwr.straps) h
  simp only [State.without, hW, if_false] at supply straps
  exact ⟨supply, straps⟩

/-- A boot finds the rails up and has the straps that were sampled. -/
theorem State.supply_bootFrom (s : State) (cause : Nat) :
    (s.bootFrom cause).pwr.supply = .on ∧ (s.bootFrom cause).pwr.straps = s.pwr.straps := by
  have log (t : State) := supply_of_without (t.restoreLog_without (List.Subset.refl _)) (by simp)
  have level (t : State) := supply_of_without (t.relevelAll_without (List.Subset.refl _)) (by simp)
  have marks := (supply_of_without s.bootMarks_without (by simp)).2
  unfold State.bootFrom
  dsimp only
  rw [State.emit_pwr, (level _).1, (level _).2, (log _).1, (log _).2]
  split <;> simp [apply_ite State.pwr, marks]

/-- What a boot that is no device reset leaves in PWR's status and Watch's registers (Table 15-5). -/
theorem State.reg_bootFrom_power (s : State) {cause r : Nat} (power : cause < 2) (log : logReg r = false) (spp : Reg.sppStatus ≠ r)
    (rails : Reg.pwrRailStatus ≠ r) (hpt : Reg.hptStatus ≠ r) (ftb : Reg.ftbStatus ≠ r) (mcr : Reg.mcrStatus ≠ r) :
    (s.bootFrom cause).reg r = if Reg.pwrResetCause = r then BitVec.ofNat 32 (cause + if s.wrp.dumped then 16 else 0)
      else if keepsReg cause r then s.reg r else resetOf r := by
  have marked (r : Nat) := reg_of_without s.bootMarks_without (r := r) (by simp)
  have evc : r / 0x100000 ≠ 15 := page_ne_of_logReg log
  have device : ¬ 2 ≤ cause := by omega
  have media {b : Bool} {v : State} : (if b then v.mediaOff else v : State).reg r = v.reg r := by
    split
    · exact v.reg_mediaOff r spp
    · rfl
  unfold State.bootFrom
  dsimp only
  simp [evc, log, hpt, ftb, mcr, spp, rails, media, ↓State.reg_mk, State.get_bootRegs, marked, device]

theorem resetCause_power {cause : Nat} (power : cause < 2) (dumped : Bool) :
    wordField (BitVec.ofNat 32 (cause + if dumped then 16 else 0)) 0 4 = cause := by
  cases dumped <;> interval_cases cause <;> decide

section
variable {s : State} (normal : s.bit Reg.pwrStatus 4 = false) (calm : s.pwr.resetting = none)
include normal calm

theorem State.boots : ¬ (s.bit Reg.pwrStatus 4 = true ∨ s.pwr.resetting.isSome = true) := by
  rw [normal, calm]
  simp

theorem State.stageEnd_rom (stage : s.bootStage = 0) : s.stageEnd .rom = s.romDone := by
  unfold State.stageEnd
  rw [if_neg (State.boots normal calm), stage]
  rfl

theorem State.stageEnd_firmware (stage : s.bootStage = 1) (a b : Option SlotImage) (p : Bool) (mhz n : Nat) :
    s.stageEnd (.firmware a b p mhz n) = (s.norRead mhz n).firmwareDone a b p := by
  unfold State.stageEnd
  rw [if_neg (State.boots normal calm), stage]
  rfl

theorem State.stageEnd_host (stage : s.bootStage = 2) (b : List Byte) : s.stageEnd (.host b) = s.hostDone b := by
  unfold State.stageEnd
  rw [if_neg (State.boots normal calm), stage]
  rfl

theorem State.stageEnd_memories (stage : s.bootStage = 3) (trained : Bool) (g n r w : Nat) (b : List Byte) :
    s.stageEnd (.memories trained g n r w b) = s.memoriesDone trained g n r w b := by
  unfold State.stageEnd
  rw [if_neg (State.boots normal calm), stage]
  rfl

end

/-- Settles O38. -/
theorem startUp : Obligations.StartUp := by
  unfold Obligations.StartUp
  refine ⟨fun s f h p l c off => ?_, fun s f h p l c quiet => ?_, fun s live normal calm stage => ?_,
    fun s a b p mhz n live normal calm stage noA noB ha hb => ?_, fun s b live normal calm stage none => ?_,
    fun s g n r w b live normal calm stage => ?_, fun s g n r w b d live normal calm stage desc other => ?_⟩
  · refine ⟨_, rfl, ?_⟩
    rw [State.powerOn, off]
    obtain ⟨supply, straps⟩ := State.supply_bootFrom ((State.resetRange { s with aow := {} } 0x1000000 0x1100000).sampleStraps
      { frefSel := f, hostSris := h, pairId := p, lpVsel := l, claimResetN := c }) 0
    refine ⟨supply, ?_, ?_, straps, (State.bootOf_bootFrom _ 0).cmds⟩
    · simp +decide [State.bootStage, State.reg_bootFrom_power]
    · rw [State.field_eq, State.reg_bootFrom_power _ (by decide) (by decide) (by decide) (by decide) (by decide) (by decide) (by decide),
        if_pos rfl, resetCause_power (by decide)]
  · refine ⟨_, rfl, ?_⟩
    rw [State.powerOn, quiet]
    obtain ⟨supply, -⟩ := State.supply_bootFrom (s.sampleStraps { frefSel := f, hostSris := h, pairId := p, lpVsel := l, claimResetN := c }) 1
    refine ⟨by simpa using supply, ?_, ?_, ?_⟩
    · simp +decide [State.bootStage, State.reg_bootFrom_power]
    · simp +decide [State.reg_bootFrom_power, resetCause_power]
    · simp +decide [State.reg_bootFrom_power, State.sampleStraps, ↓State.reg_mk]
  · refine ⟨_, congrArg Host.Outcome.next (s.whenLive_live _ live), ?_⟩
    rw [State.stageEnd_rom normal calm stage]
    simp +decide [State.romDone, State.setStage, State.bootStage]
  · refine ⟨_, congrArg Host.Outcome.next (s.whenLive_live _ live), ?_⟩
    rw [State.stageEnd_firmware normal calm stage]
    subst ha hb
    simp +decide [State.firmwareDone, noA, noB, State.norRead, State.accepted, State.recoveryBoot, State.fn, State.updFn, Tab.get_modify, ↓State.reg_mk]
  · refine ⟨_, congrArg Host.Outcome.next (s.whenLive_live _ live), ?_⟩
    rw [State.stageEnd_host normal calm stage]
    rw [State.hostDone, none]
    dsimp only [Option.getD_none]
    split <;> simp +decide [State.setStage, State.bootStage, State.recoveryBoot, ↓State.reg_mk]
  · refine ⟨_, congrArg Host.Outcome.next (s.whenLive_live _ live), ?_⟩
    rw [State.stageEnd_memories normal calm stage]
    simp +decide [State.memoriesDone, State.recoveryBoot]
  · refine ⟨_, congrArg Host.Outcome.next (s.whenLive_live _ live), ?_⟩
    rw [State.stageEnd_memories normal calm stage]
    have different : (d.ddrGib == g && d.ddrChannels == n && d.ddrRanks == r && d.ddrWidth == w) = false := by
      simp only [Bool.and_eq_false_iff, beq_eq_false_iff_ne]
      tauto
    simp +decide [State.memoriesDone, State.recoveryBoot, desc, different]

end Sys2Proof.Machine
end

section
/-! SUPPORT. SPDM requests and their answers (O23). -/
set_option linter.unusedSimpArgs false
namespace Sys2Proof.Machine

@[simp] theorem State.reg_of_spdm (s : State) (code : Nat) (vals : List Nat) (bytes : List Byte) (r : Nat) (h : r / 0x100000 ∉ [1, 3]) :
    (s.spdm code vals bytes).reg r = s.reg r :=
  reg_of_without (s.spdm_without code vals bytes (List.Subset.refl _)) (by simpa using h)

section
variable (s : State)

/-- The answer of an SPDM request goes out. -/
theorem State.resp_mem_spdm (code : Nat) (vals : List Nat) (bytes : List Byte) : Out.resp 0 code vals ∈ (s.spdm code vals bytes).out := by
  unfold State.spdm
  dsimp only
  split
  · exact State.out_subset_doeReady _ (List.mem_cons_self ..)
  · exact State.out_subset_doeReady _ (List.mem_cons_of_mem _ (List.mem_cons_self ..))

theorem State.resp_mem_spdmError (code : Nat) : Out.resp 0 0x7F [code] ∈ (s.spdmError code).out := s.resp_mem_spdm _ _ _

@[simp] theorem State.out_touchSession (id : Nat) : (s.touchSession id).out = s.out := rfl
@[simp] theorem State.chain_touchSession (id slot : Nat) : (s.touchSession id).chain slot = s.chain slot := rfl
@[simp] theorem State.sessions_length_touchSession (id : Nat) : (s.touchSession id).sec.sessions.length = s.sec.sessions.length :=
  List.length_map _

variable {s}

/-- A request in the mailbox is served, after its session has been touched where it came in one. -/
theorem State.spdmReq_of_in (h : s.spdmIn = true) (f : State → State) :
    s.spdmReq f = f s ∨ ∃ id, s.spdmReq f = f (s.touchSession id) := by
  unfold State.spdmIn at h
  unfold State.spdmReq
  split
  case h_1 => exact .inl rfl
  case h_2 id e =>
    rw [e] at h
    exact .inr ⟨id, if_pos h⟩
  case h_3 plain secured => split at h <;> simp_all

/-- What holds of a request's answer from every state that the mailbox's session may leave holds of the answer. -/
theorem State.spdmReq_answers {P : State → Prop} {f : State → State} (h : s.spdmIn = true) (plain : P (f s))
    (secured : ∀ id, P (f (s.touchSession id))) : P (s.spdmReq f) := by
  rcases State.spdmReq_of_in h f with e | ⟨id, e⟩ <;> rw [e]
  · exact plain
  · exact secured id

theorem State.next_spdm {f : State → State} {P : State → Prop} (live : s.live = true) (h : s.spdmIn = true) (plain : P (f s))
    (secured : ∀ id, P (f (s.touchSession id))) : ∃ t, (.next (s.whenLive (·.spdmReq f)) : Result) = .next t ∧ P t :=
  ⟨_, congrArg Host.Outcome.next (s.whenLive_live _ live), State.spdmReq_answers h plain secured⟩

end

theorem State.certificate_answers (s : State) (k a n : Nat) (c : List Byte) (chain : s.chain k = some c) :
    if a < c.length then Out.resp 0 0x02 [k, c.length - a - (sub c a n).length] ∈ (s.certificate k a n).out
    else Out.resp 0 0x7F [1] ∈ (s.certificate k a n).out := by
  unfold State.certificate
  rw [chain]
  dsimp only
  split
  · exact State.resp_mem_spdm ..
  · exact State.resp_mem_spdmError ..

theorem State.certificate_refused (s : State) (k a n : Nat) (none : s.chain k = none) : Out.resp 0 0x7F [1] ∈ (s.certificate k a n).out := by
  unfold State.certificate
  rw [none]
  exact State.resp_mem_spdmError ..

theorem State.challengeAuth_answers (s : State) (nonce : List Byte) : Out.resp 0 0x03 [0] ∈ (s.challengeAuth 0 nonce).out := by
  unfold State.challengeAuth
  rw [if_neg (by simp)]
  exact State.resp_mem_spdm ..

theorem State.measurements_answers (s : State) {i : Nat} (known : i ≤ 5 ∨ i = 255) (nonce : List Byte) :
    Out.resp 0 0x60 [if i = 0 ∨ i = 255 then 5 else 1] ∈ (s.measurements i nonce).out := by
  unfold State.measurements
  dsimp only
  by_cases zero : i = 0
  · simp only [zero, if_true, true_or]
    exact State.resp_mem_spdm ..
  by_cases all : i = 255
  · simp only [all, if_true, or_true]
    exact State.resp_mem_spdm ..
  · rw [if_neg zero, if_neg all, if_pos (by omega), if_neg (show ¬ (i = 0 ∨ i = 255) by simp [zero, all]), if_neg zero]
    exact State.resp_mem_spdm ..

/-- Settles O23. -/
theorem spdmRequests : Obligations.SpdmRequests := by
  unfold Obligations.SpdmRequests
  refine ⟨fun s live asked => ?_, fun s live asked => ?_, fun s live asked => ?_, fun s live asked => ?_,
    fun s k a n live asked none => ?_, fun s k a n c live asked chain => ?_, fun s nonce live asked => ?_,
    fun s i nonce live asked known => ?_, fun s live asked => ?_⟩
  · refine State.next_spdm live asked ⟨State.resp_mem_spdm .., ?_⟩ fun id => ⟨State.resp_mem_spdm .., ?_⟩
    · rw [State.sec_spdm]
    · rw [State.sec_spdm, State.sessions_length_touchSession]
  · exact State.next_spdm live asked (State.resp_mem_spdm ..) fun id => State.resp_mem_spdm ..
  · exact State.next_spdm live asked (State.resp_mem_spdm ..) fun id => State.resp_mem_spdm ..
  · exact State.next_spdm live asked (State.resp_mem_spdm ..) fun id => State.resp_mem_spdm ..
  · exact State.next_spdm live asked (s.certificate_refused k a n none) fun id => (s.touchSession id).certificate_refused k a n none
  · exact State.next_spdm live asked (s.certificate_answers k a n c chain) fun id => (s.touchSession id).certificate_answers k a n c chain
  · exact State.next_spdm live asked (s.challengeAuth_answers nonce) fun id => (s.touchSession id).challengeAuth_answers nonce
  · exact State.next_spdm live asked (s.measurements_answers known nonce) fun id => (s.touchSession id).measurements_answers known nonce
  · exact State.next_spdm live asked (State.resp_mem_spdmError ..) fun id => State.resp_mem_spdmError ..

end Sys2Proof.Machine
end

section
/-! SUPPORT. Sessions open and end; CLAIM, PSK_ROTATE, ROLLBACK_COMMIT and QUERY (O24). -/
set_option linter.unusedSimpArgs false
namespace Sys2Proof.Machine


@[simp] theorem State.reg_of_showMtrKey (s : State) (r : Nat) (h : r / 0x100000 ∉ [11]) :
    (s.showMtrKey).reg r = s.reg r :=
  reg_of_without (s.showMtrKey_without (List.Subset.refl _)) (by simpa using h)
section
@[simp] theorem State.reg_of_doeReady (s : State) (r : Nat) (h : r / 0x100000 ∉ [1, 3]) :
    (s.doeReady).reg r = s.reg r :=
  reg_of_without (s.doeReady_without (List.Subset.refl _)) (by simpa using h)

variable (s : State)

@[simp] theorem State.reg_of_spdm' (code : Nat) (vals : List Nat) (bytes : List Byte) (r : Nat) (h : r / 0x100000 ≠ 1) (h' : r / 0x100000 ≠ 3) :
    (s.spdm code vals bytes).reg r = s.reg r := State.reg_of_spdm s code vals bytes r (by simp [h, h'])

@[simp] theorem State.sessions_dropSessions (p : Sess → Bool) : (s.dropSessions p).sec.sessions = s.sec.sessions.filter fun x => !p x := by
  unfold State.dropSessions
  dsimp only
  split <;> simp [State.showSessions]

@[simp] theorem State.claim_dropSessions (p : Sess → Bool) :
    (s.dropSessions p).sec.claim = s.sec.claim ∧ (s.dropSessions p).sec.sysClaim = s.sec.sysClaim := by
  unfold State.dropSessions
  dsimp only
  split <;> simp [State.showSessions]

/-- Sessions that end are shown and raise their event (R441). -/
theorem State.reg_of_dropSessions' (p : Sess → Bool) (r : Nat) (evc : r / 0x100000 ≠ 15) (status : Reg.secStatus ≠ r) :
    (s.dropSessions p).reg r = if s.sec.sessions.any p ∧ Reg.secEvent = r then setWordField (s.reg r) 1 1 1 else s.reg r := by
  unfold State.dropSessions
  dsimp only
  split <;> simp_all [State.showSessions, ↓State.reg_mk]

theorem State.any_of_sess? {id : Nat} (h : (s.sess? id).isSome = true) : s.sec.sessions.any (fun x => x.id == id) = true := by
  unfold State.sess? at h
  rw [List.any_eq_true]
  exact List.find?_isSome.mp h

variable {s}

/-- A session is opened: it is the newest, shown and counted (R441). -/
theorem State.openSession_opens (psk ready : Bool) : (s.openSession psk ready).sec.sessions =
      s.sec.sessions ++ [{ id := s.sec.nextSess, psk := psk, ready := ready, lastAt := s.now }] ∧
    (s.openSession psk ready).reg Reg.secSessionCnt = BitVec.ofNat 32 (satAdd 32 (s.num Reg.secSessionCnt) 1) := by
  unfold State.openSession
  dsimp only
  simp +decide [State.showSessions, ↓State.reg_mk]

end

section
variable {s : State}

theorem State.sec_raise_sessions (s : State) (a i : Nat) : (s.raise a i).sec.sessions = s.sec.sessions := by simp

theorem State.keyExchange_opens (pub : List Byte) (room : s.sec.sessions.length < 4) :
    (s.keyExchange 0 pub).sec.sessions.length = s.sec.sessions.length + 1 ∧
      ({ id := s.sec.nextSess, psk := false, ready := false, lastAt := s.now } : Sess) ∈ (s.keyExchange 0 pub).sec.sessions ∧
      Out.resp 0 0x64 [s.sec.nextSess] ∈ (s.keyExchange 0 pub).out ∧
      (s.keyExchange 0 pub).num Reg.secSessionCnt = satAdd 32 (s.num Reg.secSessionCnt) 1 := by
  obtain ⟨sessions, counted⟩ := State.openSession_opens (s := s) false false
  unfold State.keyExchange
  rw [if_neg (by simp), if_neg (by omega)]
  dsimp only
  refine ⟨?_, ?_, State.resp_mem_spdm .., ?_⟩
  · simp [sessions]
  · simp [sessions]
  · rw [State.num_eq, State.reg_of_spdm' _ _ _ _ _ (by decide) (by decide), counted]
    simp

theorem State.pskExchange_opens {h : List Byte} {c : ClaimRec} (claim : s.sec.claim = some c) (hint : h = [] ∨ h = c.hint)
    (room : s.sec.sessions.length < 4) : (s.pskExchange h).sec.sessions.length = s.sec.sessions.length + 1 ∧
      ({ id := s.sec.nextSess, psk := true, ready := true, lastAt := s.now } : Sess) ∈ (s.pskExchange h).sec.sessions ∧
      Out.resp 0 0x66 [s.sec.nextSess] ∈ (s.pskExchange h).out := by
  obtain ⟨sessions, counted⟩ := State.openSession_opens (s := s) true true
  unfold State.pskExchange
  rw [claim]
  dsimp only
  rw [if_neg (by tauto), if_neg (by omega)]
  refine ⟨?_, ?_, State.resp_mem_spdm ..⟩
  · simp [sessions]
  · simp [sessions]

/-- In its open session a request that is allowed has its effect, and its answer is sent. -/
theorem State.mgmt_of_session {id : Nat} {x : Sess} (secured : s.securedIn id = true) (found : s.sess? id = some x) (opcode seq : Nat)
    (allowed : State → Sess → Bool) (f : State → State × MgmtAnswer) (may : allowed (s.touchSession id) x = true) :
    s.mgmt id opcode seq allowed f = (f (s.touchSession id)).1.mgmtReply opcode seq (f (s.touchSession id)).2 := by
  unfold State.mgmt
  rw [if_neg (not_not_intro secured), found]
  exact if_pos may

/-- An answer of a status above 1 is a refusal, which is counted and raised (R443). -/
theorem State.mgmtReply_refuses (s : State) (opcode seq : Nat) :
    (s.mgmtReply opcode seq { status := 2 }).num Reg.secReqRefusedCnt = satAdd 32 (s.num Reg.secReqRefusedCnt) 1 ∧
      (s.mgmtReply opcode seq { status := 2 }).bit Reg.secEvent 6 = true := by
  simp +decide [State.mgmtReply]

/-- An answer of success changes no register of the security block. -/
theorem State.mgmtReply_reg_of_ok (s : State) (opcode seq : Nat) {a : MgmtAnswer} (ok : a.status = 0) (r : Nat) (h : r / 0x100000 ≠ 1)
    (h' : r / 0x100000 ≠ 3) : (s.mgmtReply opcode seq a).reg r = s.reg r := by
  simp [State.mgmtReply, ok, h, h']

theorem pskOk_of_sizes {psk hint : List Byte} (size : psk.length = 32) (small : hint.length ≤ 16) : pskOk psk hint = true := by
  simp [pskOk, size, small]

/-- The end of sessions shows their number, and no other field of SEC_STATUS. -/
theorem State.bit_secStatus_dropSessions (s : State) (p : Sess → Bool) : (s.dropSessions p).bit Reg.secStatus 0 = s.bit Reg.secStatus 0 := by
  unfold State.dropSessions
  dsimp only
  split <;> simp +decide [State.bit, State.showSessions, ↓State.reg_mk, State.setField]

/-- CLAIM stores the PSK, its hint and a new nonce, shows the claim and ends the session that asked (R442). -/
theorem State.claimDevice_claims (s : State) (id : Nat) {psk hint : List Byte} (ok : pskOk psk hint = true) :
    ((s.claimDevice id psk hint).1.sec.claim.map fun c => (c.psk, c.hint)) = some (psk, hint) ∧
    ((s.claimDevice id psk hint).1.sec.claim.map fun c => c.nonce) = (s.claimDevice id psk hint).1.sec.sysClaim ∧
    (s.claimDevice id psk hint).1.sess? id = none ∧ (s.claimDevice id psk hint).1.bit Reg.secStatus 0 = true ∧
    (s.claimDevice id psk hint).1.bit Reg.secEvent 3 = true ∧ (s.claimDevice id psk hint).2 = { status := 0 } := by
  unfold State.claimDevice
  rw [if_neg (not_not_intro ok)]
  dsimp only
  refine ⟨?_, ?_, ?_, ?_, ?_, rfl⟩
  · rw [(State.claim_dropSessions _ _).1]
    simp [State.showMtrKey]
  · rw [(State.claim_dropSessions _ _).1, (State.claim_dropSessions _ _).2]
    simp [State.showMtrKey]
  · simp [State.sess?]
  · rw [State.bit_secStatus_dropSessions]
    simp +decide
  · simp +decide [State.reg_of_dropSessions']
    split <;> simp +decide

/-- PSK_ROTATE replaces the PSK and its hint and ends every other session (R442). -/
theorem State.rotatePsk_rotates {s : State} (id : Nat) {psk hint : List Byte} (ok : pskOk psk hint = true)
    (claimed : s.sec.claim.isSome = true) :
    ((s.rotatePsk id psk hint).1.sec.claim.map fun c => (c.psk, c.hint)) = some (psk, hint) ∧
    (∀ x ∈ (s.rotatePsk id psk hint).1.sec.sessions, x.id = id) ∧ (s.rotatePsk id psk hint).2 = { status := 0 } := by
  obtain ⟨c, e⟩ := Option.isSome_iff_exists.mp claimed
  unfold State.rotatePsk
  rw [if_neg (not_not_intro ok), e]
  dsimp only
  refine ⟨?_, ?_, rfl⟩
  · rw [(State.claim_dropSessions _ _).1]
    rfl
  · rw [State.sessions_dropSessions]
    intro x mem
    simpa using (List.mem_filter.mp mem).2

end

/-- An answer of success leaves the bits of the security block. -/
theorem State.bit_mgmtReply_of_ok (s : State) (opcode seq : Nat) {a : MgmtAnswer} (ok : a.status = 0) (r i : Nat)
    (h : r / 0x100000 ≠ 1) (h' : r / 0x100000 ≠ 3) : (s.mgmtReply opcode seq a).bit r i = s.bit r i := by
  rw [State.bit_eq, State.bit_eq, State.mgmtReply_reg_of_ok s opcode seq ok r h h']

/-- Settles O24: each clause follows what its request does to the sessions, the claim and the fuses. -/
theorem sessionsAndClaim : Obligations.SessionsAndClaim := by
  unfold Obligations.SessionsAndClaim
  refine ⟨fun s pub live asked room => ?_, fun s h c live asked claim hint room => ?_, fun s id x live secured found asym fresh => ?_,
    fun s id x live secured found asym fresh => ?_, fun s id live secured found => ?_, fun s live secured => ?_,
    fun s id x live found idle => ?_, fun s id q psk hint x live secured unclaimed found asym ready size small => ?_,
    fun s id q psk hint live session size small => ?_, fun s id q live session normal => ?_, fun s id q live session => ?_,
    fun s id op q live secured found => ?_⟩
  · refine State.next_spdm live asked (State.keyExchange_opens pub room) fun id => ?_
    have room' : (s.touchSession id).sec.sessions.length < 4 := by rwa [State.sessions_length_touchSession]
    have opened := State.keyExchange_opens pub room'
    rwa [State.sessions_length_touchSession] at opened
  · refine State.next_spdm live asked (State.pskExchange_opens claim hint room) fun id => ?_
    have room' : (s.touchSession id).sec.sessions.length < 4 := by rwa [State.sessions_length_touchSession]
    have opened := State.pskExchange_opens (s := s.touchSession id) claim hint room'
    rwa [State.sessions_length_touchSession] at opened
  · refine ⟨_, congrArg Host.Outcome.next ((s.whenLive_live _ live).trans (if_pos secured)), ?_⟩
    have start : ¬ (x.psk = true ∨ x.ready = true) := by simp [asym, fresh]
    unfold State.finishSession
    rw [found]
    dsimp only
    rw [if_neg start, if_pos rfl]
    refine ⟨State.resp_mem_spdm .., ?_⟩
    rw [State.sec_spdm]
    have mem := List.mem_of_find?_eq_some found
    have same : x.id = id := by simpa using List.find?_some found
    exact List.mem_map.mpr ⟨x, mem, if_pos same⟩
  · refine ⟨_, congrArg Host.Outcome.next ((s.whenLive_live _ live).trans (if_pos secured)), ?_⟩
    have start : ¬ (x.psk = true ∨ x.ready = true) := by simp [asym, fresh]
    unfold State.finishSession
    rw [found]
    dsimp only
    rw [if_neg start, if_neg (by simp)]
    exact ⟨by rw [State.spdmError, State.sec_spdm, State.sessions_dropSessions]; rfl, State.resp_mem_spdmError ..⟩
  · refine ⟨_, congrArg Host.Outcome.next ((s.whenLive_live _ live).trans (if_pos secured)), ?_⟩
    obtain ⟨x, e⟩ := Option.isSome_iff_exists.mp found
    unfold State.endOwnSession
    rw [e]
    refine ⟨by rw [State.sec_spdm, State.sessions_dropSessions]; rfl, ?_, State.resp_mem_spdm ..⟩
    simp +decide [State.reg_of_dropSessions', s.any_of_sess? found]
  · refine ⟨_, congrArg Host.Outcome.next ((s.whenLive_live _ live).trans (if_pos secured)), ?_⟩
    simp +decide [State.authFailed, ↓State.reg_mk]
  · refine ⟨_, congrArg Host.Outcome.next (s.whenLive_live _ live), ?_⟩
    have expired : (s.sess? id).any (fun x => decide (x.lastAt + sessionLimit ≤ s.now)) = true := by
      rw [found, Option.any_some]
      exact decide_eq_true idle
    have there : s.sec.sessions.any (fun x => x.id == id) = true := s.any_of_sess? (by rw [found]; rfl)
    rw [State.sessionExpiry, if_pos expired]
    refine ⟨by rw [State.sec_raise_sessions, State.sessions_dropSessions]; rfl, ?_, ?_⟩
    · simp +decide [State.reg_of_dropSessions', there]
    · simp +decide
  · refine ⟨_, congrArg Host.Outcome.next (s.whenLive_live _ live), ?_⟩
    have may : ((s.touchSession id).sec.claim.isNone && !x.psk && x.ready) = true := by
      show (s.sec.claim.isNone && !x.psk && x.ready) = true
      rw [unclaimed, asym, ready]
      rfl
    rw [State.mgmt_of_session secured found _ _ _ _ may]
    obtain ⟨claim, sys, sessions, status, event, answer⟩ := State.claimDevice_claims (s.touchSession id) id (pskOk_of_sizes size small)
    refine ⟨?_, ?_, ?_, ?_, ?_, ?_⟩
    · rw [State.sec_mgmtReply, claim]
    · rw [State.sec_mgmtReply, sys]
    · show List.find? _ (State.mgmtReply ..).sec.sessions = none
      rw [State.sec_mgmtReply]
      exact sessions
    · rwa [State.bit_mgmtReply_of_ok _ _ _ (by rw [answer]) _ _ (by decide) (by decide)]
    · rwa [State.bit_mgmtReply_of_ok _ _ _ (by rw [answer]) _ _ (by decide) (by decide)]
    · have sent := State.mgmtMessage_mem_mgmtReply ((s.touchSession id).claimDevice id psk hint).1 1 q
        ((s.touchSession id).claimDevice id psk hint).2
      rwa [answer] at sent ⊢
  · refine ⟨_, congrArg Host.Outcome.next ((s.whenLive_live _ live).trans (State.mgmt_of_pskSession session ..)), ?_⟩
    have claimed : (s.touchSession id).sec.claim.isSome = true := by
      simp only [State.pskSession, Bool.and_eq_true] at session
      obtain ⟨⟨-, claimed⟩, -⟩ := session
      exact claimed
    obtain ⟨claim, sessions, answer⟩ := State.rotatePsk_rotates id (pskOk_of_sizes size small) claimed
    refine ⟨?_, ?_, ?_⟩
    · rw [State.sec_mgmtReply, claim]
    · rw [State.sec_mgmtReply]
      exact sessions
    · have sent := State.mgmtMessage_mem_mgmtReply ((s.touchSession id).rotatePsk id psk hint).1 2 q
        ((s.touchSession id).rotatePsk id psk hint).2
      rwa [answer] at sent ⊢
  · rcases le_or_gt s.runningSvn s.sec.rollback with le | lt
    · have nothing := State.commitRollback_of_le (s := s.touchSession id) normal le
      exact exec_rollbackCommit_answers live session q (by rw [nothing, max_eq_left le]; rfl) (by rw [nothing])
    · have blown := State.commitRollback_of_lt (s := s.touchSession id) normal lt
      have raised := State.rollback_commitRollback_of_lt (s := s.touchSession id) normal lt
      exact exec_rollbackCommit_answers live session q (by rw [raised, max_eq_right lt.le]; rfl) (by rw [blown])
  · refine ⟨_, congrArg Host.Outcome.next ((s.whenLive_live _ live).trans (State.mgmt_of_pskSession session ..)), ?_⟩
    have answer := State.mgmtMessage_mem_mgmtReply (s.touchSession id) 4 q (s.touchSession id).queryState.2
    rw [← s.sessions_length_touchSession id]
    exact answer
  · refine ⟨_, congrArg Host.Outcome.next (s.whenLive_live _ live), ?_⟩
    obtain ⟨x, e⟩ := Option.isSome_iff_exists.mp found
    rw [State.mgmt_of_session secured e _ _ _ _ rfl]
    exact ⟨State.mgmtMessage_mem_mgmtReply .., State.mgmtReply_refuses ..⟩

end Sys2Proof.Machine
end

section
/-! SUPPORT. What taking an entry from a submission queue changes (R399, R404). -/
set_option linter.unusedSimpArgs false
namespace Sys2Proof.Machine

/-! ## A visit of the queues -/

/-- The registers that a visit of the queues and the taking of an entry may change. -/
def fetchRegs : List Nat :=
  [Reg.hptNpOut, Reg.hptTagQuar, Reg.hptStatus, Reg.hptAtcHitCnt, Reg.hptAtcMissCnt, Reg.qenCmdFetchCnt]

/-- Every function stays but for the queue last visited. -/
structure State.Visited (s t : State) : Prop where
  fn : ∀ g, t.fn g = { s.fn g with lastSq := (t.fn g).lastSq }

section
variable {s t u : State}

theorem State.Visited.of_fns (h : t.fns = s.fns) : s.Visited t := ⟨fun g => by rw [State.fn, h]; rfl⟩

theorem State.Visited.trans (h : s.Visited t) (k : t.Visited u) : s.Visited u := ⟨fun g => by rw [k.fn g, h.fn g]⟩

theorem State.visited_visit (s : State) (f : Nat) : s.Visited (s.visit f) := by
  unfold State.visit
  split
  · exact .of_fns rfl
  · extract_lets n page t
    have asked : t.fns = s.fns := by
      unfold t
      split
      · exact (fns_of_without (State.readHost_without _ _ _ _ _ _ (List.Subset.refl _)) (by simp)).trans
          (fns_of_without (State.when_without (W := [.regs 1]) _ _ _ fun u => u.inc_without _ _ (List.Subset.refl _)) (by simp))
      · exact fns_of_without (s.askXlat_without _ _ (List.Subset.refl _)) (by simp)
    refine (State.Visited.of_fns asked).trans ⟨fun g => ?_⟩
    rw [State.fn_updFn]
    split <;> simp_all

theorem State.visited_foldl {α : Type} {h : State → α → State} (each : ∀ (s : State) a, s.Visited (h s a)) (l : List α) (s : State) :
    s.Visited (l.foldl h s) := by
  induction l generalizing s with
  | nil => exact .of_fns rfl
  | cons a l ih => exact (each s a).trans (ih (h s a))

theorem State.visited_kickAll (s : State) (f : Nat) : s.Visited (s.kickAll f) := by
  unfold State.kickAll
  split
  · exact .of_fns rfl
  · exact State.visited_foldl (fun t _ => t.visited_visit f) _ s

theorem State.fetchRegs_issueNp (s : State) (fn : Nat) (kind : NpKind) (off len part : Nat) :
    s.RegsBut fetchRegs (s.issueNp fn kind off len part) := by
  unfold State.issueNp
  split
  · refine State.RegsBut.trans ?_ (State.regsBut_toHost (L := fetchRegs) _ _ (by decide))
    have np (hpt : Hpt) : s.RegsBut fetchRegs { s with hpt := hpt } := .of_regs rfl
    exact State.RegsBut.setNum (off := Reg.hptTagQuar) (.setNum (off := Reg.hptNpOut) (np _) (by decide)) (by decide)
  · exact .refl

theorem State.fetchRegs_askXlat (s : State) (f page : Nat) : s.RegsBut fetchRegs (s.askXlat f page) := by
  unfold State.askXlat
  have asked (h : Hpt) : s.RegsBut fetchRegs (State.inc { s with hpt := h } Reg.hptAtcMissCnt) :=
    State.RegsBut.trans (t := { s with hpt := h }) (.of_regs rfl) (.inc .refl (by decide))
  exact .ite .refl ((asked _).trans (State.regsBut_toHost _ _ (by decide)))

theorem State.fetchRegs_visit (s : State) (f : Nat) : s.RegsBut fetchRegs (s.visit f) := by
  unfold State.visit
  split
  · exact .refl
  · refine State.RegsBut.updFn (.ite ?_ ?_)
    · refine State.RegsBut.trans (t := s.when (s.fn f).ats (·.inc Reg.hptAtcHitCnt)) ?_ ?_
      · unfold State.when
        exact .ite (.inc .refl (by decide)) .refl
      · unfold State.readHost
        exact .ite (State.regsBut_foldl (fun t p => t.fetchRegs_issueNp ..) _ _) .refl
    · exact s.fetchRegs_askXlat ..

theorem State.fetchRegs_kickAll (s : State) (f : Nat) : s.RegsBut fetchRegs (s.kickAll f) :=
  .ite .refl (State.regsBut_foldl (fun t _ => t.fetchRegs_visit f) _ s)

/-! ## The taking of an entry -/

/-- A queue of which an entry has been taken. -/
def Sq.taken (y : Sq) (bells : List (Nat × Nat × Nat)) : Sq :=
  { y with head := (y.head + 1) % y.size, granted := y.granted - 1, bells := bells }

/-- The state in which an entry has been taken from its queue and has become a command. -/
def State.fetched (s : State) (q : Sqe) (admin : Bool) : State :=
  match s.sq? q.id.fn q.id.qid with
  | some x =>
    let e := s.takeEntry q.id.fn q.id.qid x
    { e.2 with cmds := e.2.cmds ++ [{ id := q.id, op := q.opcode, admin := admin, nsid := q.nsid, startAt := e.1,
                                      page := q.prp1.toNat / 4096, prpOff := q.prp1.toNat % 4096 }] }
  | none => s

/-- The command that an entry has become. -/
def State.freshCmd (s : State) (q : Sqe) (admin : Bool) : Cmd :=
  { id := q.id, op := q.opcode, admin := admin, nsid := q.nsid,
    startAt := ((s.sq? q.id.fn q.id.qid).map fun x => (s.takeEntry q.id.fn q.id.qid x).1).getD 0,
    page := q.prp1.toNat / 4096, prpOff := q.prp1.toNat % 4096 }

section
variable (s : State) (q : Sqe) (a : Bool)

theorem State.fetched_without :
    (s.fetched q a).without [.cmds, .fns, .hpt, .out, .regs 1, .regs 3] = s.without [.cmds, .fns, .hpt, .out, .regs 1, .regs 3] := by
  unfold State.fetched
  split
  · exact (without_cmds _ _ (by simp)).trans (State.takeEntry_without _ _ _ _ (by simp))
  · rfl

@[simp] theorem State.pending_fetched : (s.fetched q a).pending = s.pending :=
  pending_of_without (s.fetched_without q a) (by simp)
@[simp] theorem State.ftb_fetched : (s.fetched q a).ftb = s.ftb :=
  ftb_of_without (s.fetched_without q a) (by simp) (by simp)
@[simp] theorem State.prx_fetched : (s.fetched q a).prx = s.prx :=
  prx_of_without (s.fetched_without q a) (by simp)
@[simp] theorem State.tenants_fetched : (s.fetched q a).tenants = s.tenants :=
  tenants_of_without (s.fetched_without q a) (by simp)
@[simp] theorem State.mch_fetched : (s.fetched q a).mch = s.mch :=
  mch_of_without (s.fetched_without q a) (by simp)
@[simp] theorem State.rdp_fetched : (s.fetched q a).rdp = s.rdp :=
  rdp_of_without (s.fetched_without q a) (by simp)
@[simp] theorem State.wrp_fetched : (s.fetched q a).wrp = s.wrp :=
  wrp_of_without (s.fetched_without q a) (by simp)
@[simp] theorem State.mcr_fetched : (s.fetched q a).mcr = s.mcr :=
  mcr_of_without (s.fetched_without q a) (by simp)
@[simp] theorem State.nss_fetched : (s.fetched q a).nss = s.nss :=
  nss_of_without (s.fetched_without q a) (by simp)
@[simp] theorem State.mig_fetched : (s.fetched q a).mig = s.mig :=
  mig_of_without (s.fetched_without q a) (by simp)
@[simp] theorem State.aens_fetched : (s.fetched q a).aens = s.aens :=
  aens_of_without (s.fetched_without q a) (by simp)
@[simp] theorem State.errs_fetched : (s.fetched q a).errs = s.errs :=
  errs_of_without (s.fetched_without q a) (by simp)
@[simp] theorem State.evc_fetched : (s.fetched q a).evc = s.evc :=
  evc_of_without (s.fetched_without q a) (by simp)
@[simp] theorem State.aow_fetched : (s.fetched q a).aow = s.aow :=
  aow_of_without (s.fetched_without q a) (by simp)
@[simp] theorem State.sdm_fetched : (s.fetched q a).sdm = s.sdm :=
  sdm_of_without (s.fetched_without q a) (by simp)
@[simp] theorem State.mlk_fetched : (s.fetched q a).mlk = s.mlk :=
  mlk_of_without (s.fetched_without q a) (by simp)
@[simp] theorem State.pwr_fetched : (s.fetched q a).pwr = s.pwr :=
  pwr_of_without (s.fetched_without q a) (by simp) (by simp)
@[simp] theorem State.sec_fetched : (s.fetched q a).sec = s.sec :=
  sec_of_without (s.fetched_without q a) (by simp) (by simp)
@[simp] theorem State.keys_fetched : (s.fetched q a).keys = s.keys :=
  keys_of_without (s.fetched_without q a) (by simp)
@[simp] theorem State.mtr_fetched : (s.fetched q a).mtr = s.mtr :=
  mtr_of_without (s.fetched_without q a) (by simp)
@[simp] theorem State.lpb_fetched : (s.fetched q a).lpb = s.lpb :=
  lpb_of_without (s.fetched_without q a) (by simp)
@[simp] theorem State.tln_fetched : (s.fetched q a).tln = s.tln :=
  tln_of_without (s.fetched_without q a) (by simp)
@[simp] theorem State.mi_fetched : (s.fetched q a).mi = s.mi :=
  mi_of_without (s.fetched_without q a) (by simp)
@[simp] theorem State.draw_fetched : (s.fetched q a).draw = s.draw :=
  draw_of_without (s.fetched_without q a) (by simp)

theorem State.fetchRegs_takeEntry (f k : Nat) (x : Sq) : s.RegsBut fetchRegs (s.takeEntry f k x).2 := by
  unfold State.takeEntry
  split
  exact State.RegsBut.trans (.inc (off := Reg.qenCmdFetchCnt) (.updFn .refl) (by decide)) (State.fetchRegs_kickAll ..)

theorem State.fetchRegs_fetched : s.RegsBut fetchRegs (s.fetched q a) := by
  unfold State.fetched
  split
  · exact (s.fetchRegs_takeEntry ..).trans (.of_regs rfl)
  · exact .refl

@[simp] theorem State.reg_of_fetched (r : Nat) (h : r ∉ fetchRegs) : (s.fetched q a).reg r = s.reg r := by
  by_cases log : logReg r = false
  · exact (s.fetchRegs_fetched q a).reg r h log
  · refine reg_of_without (s.fetched_without q a) ?_
    have page : r / 0x100000 ≠ 1 ∧ r / 0x100000 ≠ 3 := by
      simp only [logReg, Bool.not_eq_false, Bool.or_eq_true, beq_iff_eq] at log
      rcases log with ((((page | rfl) | rfl) | rfl) | rfl) | rfl
      · omega
      all_goals decide
    simpa using page
end

/-- A queue's entry can be taken, and its identifier is free: what makes an entry a command. -/
theorem State.takes_iff {q : Sqe} {a : Bool} : s.takes q a = true ↔ (∃ x, s.sq? q.id.fn q.id.qid = some x ∧ x.open_ = true) ∧
    s.fetchOn q.id.fn a = true ∧ (a = true ↔ q.id.qid = 0) ∧ s.cmd? q.id = none ∧ q.fuse = 0 ∧ (a = true → q.psdt = 0) := by
  cases a <;> simp [State.takes, Option.any_eq_true, and_assoc]

theorem State.cmds_takeEntry (s : State) (f k : Nat) (x : Sq) : (s.takeEntry f k x).2.cmds = s.cmds :=
  cmds_of_without (s.takeEntry_without f k x (List.Subset.refl _)) (by simp)

section
variable {q : Sqe} {a : Bool} (h : s.takes q a = true)
include h

theorem State.fetchCmd_of_takes (f : Cmd → State → State) : s.fetchCmd q a f = f (s.freshCmd q a) (s.fetched q a) := by
  obtain ⟨⟨x, found, isOpen⟩, on, admin, free, fuse, psdt⟩ := State.takes_iff.mp h
  unfold State.fetchCmd State.freshCmd State.fetched
  simp only [found]
  rw [if_pos ⟨isOpen, on, admin⟩]
  simp only [free, Option.isSome_none, Bool.false_eq_true, if_false]
  rw [if_neg (by rintro (⟨a, b⟩ | c); exacts [b (psdt a), c fuse])]
  rfl

@[simp] theorem State.cmds_fetched : (s.fetched q a).cmds = s.cmds ++ [s.freshCmd q a] := by
  obtain ⟨⟨x, found, isOpen⟩, -⟩ := State.takes_iff.mp h
  simp [State.fetched, State.freshCmd, found, State.cmds_takeEntry]

theorem State.cmd?_fetched (c : CmdId) : (s.fetched q a).cmd? c = if c = q.id then some (s.freshCmd q a) else s.cmd? c := by
  obtain ⟨-, -, -, free, -⟩ := State.takes_iff.mp h
  unfold State.cmd? at *
  rw [State.cmds_fetched h, List.find?_append]
  split
  next same => simp [same, free, State.freshCmd]
  next other => simp [State.freshCmd, Ne.symm other]

@[simp] theorem State.cmd?_fetched_own : (s.fetched q a).cmd? q.id = some (s.freshCmd q a) := by
  rw [State.cmd?_fetched h, if_pos rfl]
end

theorem ne_of_lookupKey_none {α : Type} {k : Nat} {l : List (Nat × α)} (h : lookupKey k l = none) : ∀ p ∈ l, p.1 ≠ k := by
  induction l with
  | nil => simp
  | cons e l ih =>
    unfold lookupKey at h
    split at h
    · cases h
    · rename_i ne
      intro p mem
      rcases List.mem_cons.mp mem with rfl | mem
      · exact ne
      · exact ih h p mem

/-- A function's own state stays when an entry is taken, but for its submission queues. -/
theorem State.fn_takeEntry (s : State) (f k : Nat) (x : Sq) (g : Nat) : (s.takeEntry f k x).2.fn g =
    { (s.fn g) with lastSq := ((s.takeEntry f k x).2.fn g).lastSq,
                    sqs := if f = g then (s.fn f).sqs.map fun p => if p.1 = k then (p.1, p.2.taken (takeBell s.now x.bells).2) else p
                      else (s.fn g).sqs } := by
  have visit := (State.visited_kickAll ((s.updSq f k fun y => y.taken (takeBell s.now x.bells).2).inc Reg.qenCmdFetchCnt) f).fn g
  have taken : ((s.updSq f k fun y => y.taken (takeBell s.now x.bells).2).inc Reg.qenCmdFetchCnt).fn g =
      (s.updSq f k fun y => y.taken (takeBell s.now x.bells).2).fn g := rfl
  rw [taken, State.updSq, State.fn_updFn] at visit
  refine visit.trans ?_
  split
  next same => subst same; rfl
  next => rfl

theorem State.fn_fetched (s : State) (q : Sqe) (a : Bool) (g : Nat) : ∃ last bells, (s.fetched q a).fn g =
    { (s.fn g) with lastSq := last,
                    sqs := if q.id.fn = g then (s.fn g).sqs.map fun p => if p.1 = q.id.qid then (p.1, p.2.taken bells) else p
                      else (s.fn g).sqs } := by
  unfold State.fetched
  split
  next x found =>
    refine ⟨((s.takeEntry q.id.fn q.id.qid x).2.fn g).lastSq, (takeBell s.now x.bells).2,
      (s.fn_takeEntry q.id.fn q.id.qid x g).trans ?_⟩
    split
    next same => subst same; rfl
    next => rfl
  next missing =>
    refine ⟨(s.fn g).lastSq, [], ?_⟩
    split
    next same =>
      subst same
      have absent : ∀ p ∈ (s.fn q.id.fn).sqs, p.1 ≠ q.id.qid := ne_of_lookupKey_none missing
      have stay : ((s.fn q.id.fn).sqs.map fun p => if p.1 = q.id.qid then (p.1, p.2.taken []) else p) = (s.fn q.id.fn).sqs :=
        (List.map_congr_left fun p mem => if_neg (absent p mem)).trans (List.map_id' _)
      rw [stay]
    next => rfl

section
variable (s : State) (q : Sqe) (a : Bool) (g : Nat)

@[simp] theorem State.bme_fn_fetched : ((s.fetched q a).fn g).bme = (s.fn g).bme := by
  obtain ⟨last, bells, e⟩ := s.fn_fetched q a g
  rw [e]
@[simp] theorem State.mse_fn_fetched : ((s.fetched q a).fn g).mse = (s.fn g).mse := by
  obtain ⟨last, bells, e⟩ := s.fn_fetched q a g
  rw [e]
@[simp] theorem State.d3hot_fn_fetched : ((s.fetched q a).fn g).d3hot = (s.fn g).d3hot := by
  obtain ⟨last, bells, e⟩ := s.fn_fetched q a g
  rw [e]
@[simp] theorem State.cfg_fn_fetched : ((s.fetched q a).fn g).cfg = (s.fn g).cfg := by
  obtain ⟨last, bells, e⟩ := s.fn_fetched q a g
  rw [e]
@[simp] theorem State.ats_fn_fetched : ((s.fetched q a).fn g).ats = (s.fn g).ats := by
  obtain ⟨last, bells, e⟩ := s.fn_fetched q a g
  rw [e]
@[simp] theorem State.vq_fn_fetched : ((s.fetched q a).fn g).vq = (s.fn g).vq := by
  obtain ⟨last, bells, e⟩ := s.fn_fetched q a g
  rw [e]
@[simp] theorem State.vi_fn_fetched : ((s.fetched q a).fn g).vi = (s.fn g).vi := by
  obtain ⟨last, bells, e⟩ := s.fn_fetched q a g
  rw [e]
@[simp] theorem State.online_fn_fetched : ((s.fetched q a).fn g).online = (s.fn g).online := by
  obtain ⟨last, bells, e⟩ := s.fn_fetched q a g
  rw [e]
@[simp] theorem State.life_fn_fetched : ((s.fetched q a).fn g).life = (s.fn g).life := by
  obtain ⟨last, bells, e⟩ := s.fn_fetched q a g
  rw [e]
@[simp] theorem State.cc_fn_fetched : ((s.fetched q a).fn g).cc = (s.fn g).cc := by
  obtain ⟨last, bells, e⟩ := s.fn_fetched q a g
  rw [e]
@[simp] theorem State.rdy_fn_fetched : ((s.fetched q a).fn g).rdy = (s.fn g).rdy := by
  obtain ⟨last, bells, e⟩ := s.fn_fetched q a g
  rw [e]
@[simp] theorem State.cfs_fn_fetched : ((s.fetched q a).fn g).cfs = (s.fn g).cfs := by
  obtain ⟨last, bells, e⟩ := s.fn_fetched q a g
  rw [e]
@[simp] theorem State.nqueues_fn_fetched : ((s.fetched q a).fn g).nqueues = (s.fn g).nqueues := by
  obtain ⟨last, bells, e⟩ := s.fn_fetched q a g
  rw [e]
@[simp] theorem State.feats_fn_fetched : ((s.fetched q a).fn g).feats = (s.fn g).feats := by
  obtain ⟨last, bells, e⟩ := s.fn_fetched q a g
  rw [e]
@[simp] theorem State.cqs_fn_fetched : ((s.fetched q a).fn g).cqs = (s.fn g).cqs := by
  obtain ⟨last, bells, e⟩ := s.fn_fetched q a g
  rw [e]
@[simp] theorem State.masked_fn_fetched : ((s.fetched q a).fn g).masked = (s.fn g).masked := by
  obtain ⟨last, bells, e⟩ := s.fn_fetched q a g
  rw [e]
@[simp] theorem State.changedNs_fn_fetched : ((s.fetched q a).fn g).changedNs = (s.fn g).changedNs := by
  obtain ⟨last, bells, e⟩ := s.fn_fetched q a g
  rw [e]
@[simp] theorem State.sanitize_fn_fetched : ((s.fetched q a).fn g).sanitize = (s.fn g).sanitize := by
  obtain ⟨last, bells, e⟩ := s.fn_fetched q a g
  rw [e]
@[simp] theorem State.coal_fn_fetched : ((s.fetched q a).fn g).coal = (s.fn g).coal := by
  obtain ⟨last, bells, e⟩ := s.fn_fetched q a g
  rw [e]
@[simp] theorem State.holdoff_fn_fetched : ((s.fetched q a).fn g).holdoff = (s.fn g).holdoff := by
  obtain ⟨last, bells, e⟩ := s.fn_fetched q a g
  rw [e]
@[simp] theorem State.cqWaits_fn_fetched : ((s.fetched q a).fn g).cqWaits = (s.fn g).cqWaits := by
  obtain ⟨last, bells, e⟩ := s.fn_fetched q a g
  rw [e]
@[simp] theorem State.errCount_fn_fetched : ((s.fetched q a).fn g).errCount = (s.fn g).errCount := by
  obtain ⟨last, bells, e⟩ := s.fn_fetched q a g
  rw [e]

/-- The queues that an entry's queue stands among keep their identifiers and all of their records but for the entry's own. -/
theorem State.sqs_fn_fetched : ∃ bells, ((s.fetched q a).fn g).sqs =
    if q.id.fn = g then (s.fn g).sqs.map fun p => if p.1 = q.id.qid then (p.1, p.2.taken bells) else p else (s.fn g).sqs := by
  obtain ⟨last, bells, e⟩ := s.fn_fetched q a g
  exact ⟨bells, by rw [e]⟩

@[simp] theorem State.cq?_fetched (k : Nat) : (s.fetched q a).cq? g k = s.cq? g k := by simp [State.cq?]

theorem lookupKey_map_key {α : Type} (l : List (Nat × α)) (i k : Nat) (g : α → α) :
    lookupKey k (l.map fun p => if p.1 = i then (p.1, g p.2) else p) = (lookupKey k l).map fun x => if k = i then g x else x := by
  induction l with
  | nil => rfl
  | cons p l ih =>
    obtain ⟨j, x⟩ := p
    by_cases e : j = i <;> by_cases e' : j = k <;> simp_all [lookupKey]

theorem State.sq?_fetched (k : Nat) : ∃ bells, (s.fetched q a).sq? g k =
    (s.sq? g k).map fun x => if q.id.fn = g ∧ k = q.id.qid then x.taken bells else x := by
  obtain ⟨bells, e⟩ := s.sqs_fn_fetched q a g
  refine ⟨bells, ?_⟩
  rw [State.sq?, e]
  split
  next same => simp [lookupKey_map_key _ _ _ fun y : Sq => y.taken bells, same, State.sq?]
  next other => simp [other, State.sq?]

@[simp] theorem State.isSome_sq?_fetched (k : Nat) : ((s.fetched q a).sq? g k).isSome = (s.sq? g k).isSome := by
  obtain ⟨bells, e⟩ := s.sq?_fetched q a g k
  rw [e, Option.isSome_map]

@[simp] theorem State.isNone_sq?_fetched (k : Nat) : ((s.fetched q a).sq? g k).isNone = (s.sq? g k).isNone := by
  obtain ⟨bells, e⟩ := s.sq?_fetched q a g k
  rw [e, Option.isNone_map]

theorem State.any_cqid_fetched (k : Nat) : (((s.fetched q a).fn g).sqs.any fun p => p.2.cqid == k) = (s.fn g).sqs.any fun p => p.2.cqid == k := by
  obtain ⟨bells, e⟩ := s.sqs_fn_fetched q a g
  rw [e]
  split
  · rw [List.any_map]
    refine congrArg _ (funext fun p => ?_)
    simp only [Function.comp]
    split <;> rfl
  · rfl

end

/-- An update of a queue reaches the queue that it names and no other. -/
theorem State.sq?_updSq (s : State) (f k g j : Nat) (h : Sq → Sq) :
    (s.updSq f k h).sq? g j = (s.sq? g j).map fun x => if f = g ∧ j = k then h x else x := by
  unfold State.updSq State.sq?
  rw [State.fn_updFn]
  split
  next same => rw [lookupKey_map_key]; simp [same]
  next other => simp [other]

theorem State.cq?_updCq (s : State) (f k g j : Nat) (h : Cq → Cq) :
    (s.updCq f k h).cq? g j = (s.cq? g j).map fun x => if f = g ∧ j = k then h x else x := by
  unfold State.updCq State.cq?
  rw [State.fn_updFn]
  split
  next same => rw [lookupKey_map_key]; simp [same]
  next other => simp [other]

@[simp] theorem State.sq?_kickAll (s : State) (f g k : Nat) : (s.kickAll f).sq? g k = s.sq? g k := by
  rw [State.sq?, (s.visited_kickAll f).fn g]
  rfl

/-! ## The end of a command -/

theorem State.cmd?_of_cmds {s t : State} (h : t.cmds = s.cmds) (c : CmdId) : t.cmd? c = s.cmd? c := congrArg (List.find? _) h

@[simp] theorem State.cmd?_updFn (s : State) (f : Nat) (g : Fn → Fn) (c : CmdId) : (s.updFn f g).cmd? c = s.cmd? c := rfl

/-- A command's record once it has ended: the first status stays. -/
def Cmd.ended (x : Cmd) (status : Nat) (dw0 : Word) (dnr : Bool) : Cmd :=
  if x.status.isSome then x else { x with status := some status, dw0 := dw0, dnr := dnr }

theorem Cmd.id_ended (x : Cmd) (status : Nat) (dw0 : Word) (dnr : Bool) : (x.ended status dw0 dnr).id = x.id := by
  unfold Cmd.ended
  split <;> rfl

section
variable {s : State} {c : CmdId} {x : Cmd}

theorem State.cmd?_finish (s : State) (c d : CmdId) (status : Nat) (dw0 : Word) (dnr : Bool) :
    (s.finish c status dw0 dnr).cmd? d = (s.cmd? d).map fun x => if x.id == c then x.ended status dw0 dnr else x :=
  State.cmd?_updCmd s c d fun x => x.id_ended status dw0 dnr

theorem State.cmd?_finish_ne {d : CmdId} (ne : d ≠ c) (status : Nat) (dw0 : Word) (dnr : Bool) :
    (s.finish c status dw0 dnr).cmd? d = s.cmd? d := by
  rw [State.cmd?_finish]
  cases found : s.cmd? d with
  | none => rfl
  | some y => simp [State.id_of_cmd? found, ne]

theorem State.statusOf_finish (found : s.cmd? c = some x) (open_ : x.status = none) (status : Nat) (dw0 : Word) (dnr : Bool) :
    (s.finish c status dw0 dnr).statusOf c = some status := by
  simp [State.statusOf, State.cmd?_finish, found, State.id_of_cmd? found, Cmd.ended, open_]

theorem State.dw0Of_finish (found : s.cmd? c = some x) (open_ : x.status = none) (status : Nat) (dw0 : Word) (dnr : Bool) :
    (s.finish c status dw0 dnr).dw0Of c = some dw0 := by
  simp [State.dw0Of, State.cmd?_finish, found, State.id_of_cmd? found, Cmd.ended, open_]

end

@[simp] theorem State.pending_finish (s : State) (c : CmdId) (status : Nat) (dw0 : Word) (dnr : Bool) : (s.finish c status dw0 dnr).pending = s.pending :=
  pending_of_without (s.finish_without c status dw0 dnr (List.Subset.refl _)) (by simp)
@[simp] theorem State.ftb_finish (s : State) (c : CmdId) (status : Nat) (dw0 : Word) (dnr : Bool) : (s.finish c status dw0 dnr).ftb = s.ftb :=
  ftb_of_without (s.finish_without c status dw0 dnr (List.Subset.refl _)) (by simp) (by simp)
@[simp] theorem State.tenants_finish (s : State) (c : CmdId) (status : Nat) (dw0 : Word) (dnr : Bool) : (s.finish c status dw0 dnr).tenants = s.tenants :=
  tenants_of_without (s.finish_without c status dw0 dnr (List.Subset.refl _)) (by simp)
@[simp] theorem State.mch_finish (s : State) (c : CmdId) (status : Nat) (dw0 : Word) (dnr : Bool) : (s.finish c status dw0 dnr).mch = s.mch :=
  mch_of_without (s.finish_without c status dw0 dnr (List.Subset.refl _)) (by simp)
@[simp] theorem State.rdp_finish (s : State) (c : CmdId) (status : Nat) (dw0 : Word) (dnr : Bool) : (s.finish c status dw0 dnr).rdp = s.rdp :=
  rdp_of_without (s.finish_without c status dw0 dnr (List.Subset.refl _)) (by simp)
@[simp] theorem State.wrp_finish (s : State) (c : CmdId) (status : Nat) (dw0 : Word) (dnr : Bool) : (s.finish c status dw0 dnr).wrp = s.wrp :=
  wrp_of_without (s.finish_without c status dw0 dnr (List.Subset.refl _)) (by simp)
@[simp] theorem State.mcr_finish (s : State) (c : CmdId) (status : Nat) (dw0 : Word) (dnr : Bool) : (s.finish c status dw0 dnr).mcr = s.mcr :=
  mcr_of_without (s.finish_without c status dw0 dnr (List.Subset.refl _)) (by simp)
@[simp] theorem State.nss_finish (s : State) (c : CmdId) (status : Nat) (dw0 : Word) (dnr : Bool) : (s.finish c status dw0 dnr).nss = s.nss :=
  nss_of_without (s.finish_without c status dw0 dnr (List.Subset.refl _)) (by simp)
@[simp] theorem State.fns_finish (s : State) (c : CmdId) (status : Nat) (dw0 : Word) (dnr : Bool) : (s.finish c status dw0 dnr).fns = s.fns :=
  fns_of_without (s.finish_without c status dw0 dnr (List.Subset.refl _)) (by simp)
@[simp] theorem State.hpt_finish (s : State) (c : CmdId) (status : Nat) (dw0 : Word) (dnr : Bool) : (s.finish c status dw0 dnr).hpt = s.hpt :=
  hpt_of_without (s.finish_without c status dw0 dnr (List.Subset.refl _)) (by simp)
@[simp] theorem State.mig_finish (s : State) (c : CmdId) (status : Nat) (dw0 : Word) (dnr : Bool) : (s.finish c status dw0 dnr).mig = s.mig :=
  mig_of_without (s.finish_without c status dw0 dnr (List.Subset.refl _)) (by simp)
@[simp] theorem State.aens_finish (s : State) (c : CmdId) (status : Nat) (dw0 : Word) (dnr : Bool) : (s.finish c status dw0 dnr).aens = s.aens :=
  aens_of_without (s.finish_without c status dw0 dnr (List.Subset.refl _)) (by simp)
@[simp] theorem State.errs_finish (s : State) (c : CmdId) (status : Nat) (dw0 : Word) (dnr : Bool) : (s.finish c status dw0 dnr).errs = s.errs :=
  errs_of_without (s.finish_without c status dw0 dnr (List.Subset.refl _)) (by simp)
@[simp] theorem State.evc_finish (s : State) (c : CmdId) (status : Nat) (dw0 : Word) (dnr : Bool) : (s.finish c status dw0 dnr).evc = s.evc :=
  evc_of_without (s.finish_without c status dw0 dnr (List.Subset.refl _)) (by simp)
@[simp] theorem State.aow_finish (s : State) (c : CmdId) (status : Nat) (dw0 : Word) (dnr : Bool) : (s.finish c status dw0 dnr).aow = s.aow :=
  aow_of_without (s.finish_without c status dw0 dnr (List.Subset.refl _)) (by simp)
@[simp] theorem State.sdm_finish (s : State) (c : CmdId) (status : Nat) (dw0 : Word) (dnr : Bool) : (s.finish c status dw0 dnr).sdm = s.sdm :=
  sdm_of_without (s.finish_without c status dw0 dnr (List.Subset.refl _)) (by simp)
@[simp] theorem State.mlk_finish (s : State) (c : CmdId) (status : Nat) (dw0 : Word) (dnr : Bool) : (s.finish c status dw0 dnr).mlk = s.mlk :=
  mlk_of_without (s.finish_without c status dw0 dnr (List.Subset.refl _)) (by simp)
@[simp] theorem State.pwr_finish (s : State) (c : CmdId) (status : Nat) (dw0 : Word) (dnr : Bool) : (s.finish c status dw0 dnr).pwr = s.pwr :=
  pwr_of_without (s.finish_without c status dw0 dnr (List.Subset.refl _)) (by simp) (by simp)
@[simp] theorem State.keys_finish (s : State) (c : CmdId) (status : Nat) (dw0 : Word) (dnr : Bool) : (s.finish c status dw0 dnr).keys = s.keys :=
  keys_of_without (s.finish_without c status dw0 dnr (List.Subset.refl _)) (by simp)
@[simp] theorem State.mtr_finish (s : State) (c : CmdId) (status : Nat) (dw0 : Word) (dnr : Bool) : (s.finish c status dw0 dnr).mtr = s.mtr :=
  mtr_of_without (s.finish_without c status dw0 dnr (List.Subset.refl _)) (by simp)
@[simp] theorem State.lpb_finish (s : State) (c : CmdId) (status : Nat) (dw0 : Word) (dnr : Bool) : (s.finish c status dw0 dnr).lpb = s.lpb :=
  lpb_of_without (s.finish_without c status dw0 dnr (List.Subset.refl _)) (by simp)
@[simp] theorem State.tln_finish (s : State) (c : CmdId) (status : Nat) (dw0 : Word) (dnr : Bool) : (s.finish c status dw0 dnr).tln = s.tln :=
  tln_of_without (s.finish_without c status dw0 dnr (List.Subset.refl _)) (by simp)
@[simp] theorem State.mi_finish (s : State) (c : CmdId) (status : Nat) (dw0 : Word) (dnr : Bool) : (s.finish c status dw0 dnr).mi = s.mi :=
  mi_of_without (s.finish_without c status dw0 dnr (List.Subset.refl _)) (by simp)
@[simp] theorem State.out_finish (s : State) (c : CmdId) (status : Nat) (dw0 : Word) (dnr : Bool) : (s.finish c status dw0 dnr).out = s.out :=
  out_of_without (s.finish_without c status dw0 dnr (List.Subset.refl _)) (by simp)
@[simp] theorem State.draw_finish (s : State) (c : CmdId) (status : Nat) (dw0 : Word) (dnr : Bool) : (s.finish c status dw0 dnr).draw = s.draw :=
  draw_of_without (s.finish_without c status dw0 dnr (List.Subset.refl _)) (by simp)
@[simp] theorem State.reg_of_finish (s : State) (c : CmdId) (status : Nat) (dw0 : Word) (dnr : Bool) (r : Nat) :
    (s.finish c status dw0 dnr).reg r = s.reg r :=
  reg_of_without (s.finish_without c status dw0 dnr (List.Subset.refl _)) (by simp)


@[simp] theorem State.fn_finish (s : State) (c : CmdId) (status : Nat) (dw0 : Word) (dnr : Bool) (g : Nat) :
    (s.finish c status dw0 dnr).fn g = s.fn g := rfl

@[simp] theorem State.sq?_finish (s : State) (c : CmdId) (status : Nat) (dw0 : Word) (dnr : Bool) (g k : Nat) :
    (s.finish c status dw0 dnr).sq? g k = s.sq? g k := rfl

@[simp] theorem State.cq?_finish (s : State) (c : CmdId) (status : Nat) (dw0 : Word) (dnr : Bool) (g k : Nat) :
    (s.finish c status dw0 dnr).cq? g k = s.cq? g k := rfl

/-! ## Admin commands -/

section
variable {s : State} {q : Sqe} {a : Bool}

/-- In a state that holds the commands of an entry just taken, the entry's command ends with the status given. -/
theorem State.statusOf_finish_fetched (h : s.takes q a = true) {t : State} (cmds : t.cmds = (s.fetched q a).cmds) (status : Nat) (dw0 : Word)
    (dnr : Bool) : (t.finish q.id status dw0 dnr).statusOf q.id = some status :=
  State.statusOf_finish ((State.cmd?_of_cmds cmds _).trans (State.cmd?_fetched_own h)) rfl ..

theorem State.dw0Of_finish_fetched (h : s.takes q a = true) {t : State} (cmds : t.cmds = (s.fetched q a).cmds) (status : Nat) (dw0 : Word)
    (dnr : Bool) : (t.finish q.id status dw0 dnr).dw0Of q.id = some dw0 :=
  State.dw0Of_finish ((State.cmd?_of_cmds cmds _).trans (State.cmd?_fetched_own h)) rfl ..

theorem State.takes_reserved (h : s.takes q a = true) : s.takes { q with psdt := 0, fuse := 0 } a = true := by
  obtain ⟨found, on, admin, free, -, -⟩ := State.takes_iff.mp h
  exact State.takes_iff.mpr ⟨found, on, admin, free, rfl, fun _ => rfl⟩

/-- A command that its function may give is carried out in the state in which its entry has been taken. -/
theorem State.adminCmd_of_takes (h : s.takes q true = true) {pf0 : Bool} (may : pf0 = false ∨ q.id.fn = 0) (f : State → State) :
    s.adminCmd q pf0 f = f (s.fetched q true) := by
  unfold State.adminCmd
  rw [if_neg (by rcases may with rfl | may <;> simp_all), State.fetchCmd_of_takes h]

/-- A command of PF0 alone that a VF gives ends with Invalid Command Opcode. -/
theorem State.adminCmd_of_vf (h : s.takes q true = true) (vf : q.id.fn ≠ 0) (f : State → State) :
    s.adminCmd q true f = (s.fetched { q with psdt := 0, fuse := 0 } true).finish q.id 1 := by
  unfold State.adminCmd
  rw [if_pos (by simpa using vf), State.fetchCmd_of_takes (State.takes_reserved h)]

/-- What a VF's use of a command of PF0 alone leaves. -/
theorem State.adminCmd_of_vf_refuses (h : s.takes q true = true) (vf : q.id.fn ≠ 0) (f : State → State) :
    (s.adminCmd q true f).statusOf q.id = some 1 ∧ (s.adminCmd q true f).nss = s.nss ∧ (s.adminCmd q true f).sec = s.sec := by
  rw [State.adminCmd_of_vf h vf]
  exact ⟨State.statusOf_finish_fetched (q := { q with psdt := 0, fuse := 0 }) (State.takes_reserved h) rfl .., by simp, by simp⟩

/-- The opcode that a command is carried out under is no part of what lets its entry be taken. -/
theorem Sqe.takes_as (s : State) (q : Sqe) (opcode : Nat) (a : Bool) : s.takes (q.as opcode) a = s.takes q a := rfl

end


end
end Sys2Proof.Machine
end

section
/-! SUPPORT. Doorbells, and making and deleting queues (O15). -/
set_option linter.unusedSimpArgs false
namespace Sys2Proof.Machine

@[simp] theorem State.reg_of_asyncEvent (s : State) (fn ty info page : Nat) (r : Nat) :
    (s.asyncEvent fn ty info page).reg r = s.reg r :=
  reg_of_without (s.asyncEvent_without fn ty info page (List.Subset.refl _)) (by simp)
@[simp] theorem State.fns_asyncEvent (s : State) (fn ty info page : Nat) : (s.asyncEvent fn ty info page).fns = s.fns :=
  fns_of_without (s.asyncEvent_without fn ty info page (List.Subset.refl _)) (by simp)
@[simp] theorem State.fns_showQueues (s : State) : (s.showQueues).fns = s.fns :=
  fns_of_without (s.showQueues_without (List.Subset.refl _)) (by simp)
@[simp] theorem State.cmds_showQueues (s : State) : (s.showQueues).cmds = s.cmds :=
  cmds_of_without (s.showQueues_without (List.Subset.refl _)) (by simp)
@[simp] theorem State.reg_of_showQueues (s : State) (r : Nat) (h : r / 0x100000 ∉ [3]) :
    (s.showQueues).reg r = s.reg r :=
  reg_of_without (s.showQueues_without (List.Subset.refl _)) (by simpa using h)
@[simp] theorem State.fns_l0pWiden (s : State) : (s.l0pWiden).fns = s.fns :=
  fns_of_without (s.l0pWiden_without (List.Subset.refl _)) (by simp)
@[simp] theorem State.fns_ring (s : State) (src : Nat) : (s.ring src).fns = s.fns :=
  fns_of_without (s.ring_without src (List.Subset.refl _)) (by simp)


section
variable (s : State)

theorem State.sq?_of_fns {s t : State} (h : t.fns = s.fns) (f k : Nat) : t.sq? f k = s.sq? f k := by
  unfold State.sq? State.fn
  rw [h]

theorem State.cq?_of_fns {s t : State} (h : t.fns = s.fns) (f k : Nat) : t.cq? f k = s.cq? f k := by
  unfold State.cq? State.fn
  rw [h]

/-- A doorbell that is discarded is counted and raised, and no queue takes its value (R401). -/
theorem State.badDoorbell_counts (f info : Nat) :
    (s.badDoorbell f info).num Reg.qenDbInvalidCnt = satAdd 32 (s.num Reg.qenDbInvalidCnt) 1 ∧
      (s.badDoorbell f info).bit Reg.qenEvent 0 = true ∧ (∀ k, (s.badDoorbell f info).sq? f k = s.sq? f k) ∧
      ∀ k, (s.badDoorbell f info).cq? f k = s.cq? f k := by
  unfold State.badDoorbell
  dsimp only
  split
  · exact ⟨by simp +decide, by simp +decide, fun k => State.sq?_of_fns (by simp) f k, fun k => State.cq?_of_fns (by simp) f k⟩
  · refine ⟨by simp +decide [State.updFn], by simp +decide [State.updFn], fun k => ?_, fun k => ?_⟩
    · refine (State.sq?_of_fns (fns_of_without (State.asyncEvent_without _ _ _ _ _ (List.Subset.refl _)) (by simp)) f k).trans ?_
      rw [State.sq?, State.fn_updFn_same]
      exact State.sq?_of_fns (by simp) f k
    · refine (State.cq?_of_fns (fns_of_without (State.asyncEvent_without _ _ _ _ _ (List.Subset.refl _)) (by simp)) f k).trans ?_
      rw [State.cq?, State.fn_updFn_same]
      exact State.cq?_of_fns (by simp) f k

/-- A queue that is gone is found no more, and the command that asked for it ends. -/
theorem State.sqGone_removes {f k : Nat} {c : CmdId} : (s.sqGone f k c).sq? f k = none ∧ (s.sqGone f k c).cmds = (s.finish c 0).cmds := by
  unfold State.sqGone
  refine ⟨?_, ?_⟩
  · rw [State.sq?_of_fns (State.fns_showQueues _), State.sq?_finish, State.sq?, State.fn_updFn_same]
    exact lookupKey_filter_none (p := (· != k)) (by simp) _
  · simp
    rfl

end

/-- A new entry is found under its key. -/
theorem lookupKey_append_new {α : Type} {l : List (Nat × α)} {k : Nat} (h : lookupKey k l = none) (v : α) :
    lookupKey k (l ++ [(k, v)]) = some v := by
  induction l with
  | nil => simp [lookupKey]
  | cons p l ih =>
    unfold lookupKey at h
    split at h
    · cases h
    · rename_i ne
      rw [List.cons_append, lookupKey, if_neg ne]
      exact ih h

/-- A queue other than the entry's own has no command more than it had. -/
theorem State.sqCmds_fetched {s : State} {q : Sqe} {k : Nat} (h : s.takes q true = true) (ne : k ≠ 0) (idle : s.sqCmds q.id.fn k = []) :
    (s.fetched q true).sqCmds q.id.fn k = [] := by
  obtain ⟨-, -, admin, -⟩ := State.takes_iff.mp h
  have qid : q.id.qid = 0 := admin.mp rfl
  unfold State.sqCmds at *
  rw [State.cmds_fetched h, List.filter_append, idle]
  simp [State.freshCmd, qid, ne.symm]

@[simp] theorem State.ioQueues_fetched (s : State) (q : Sqe) (a : Bool) (f : Nat) : (s.fetched q a).ioQueues f = s.ioQueues f := by
  simp [State.ioQueues, State.vqOf]

@[simp] theorem State.viOf_fetched (s : State) (q : Sqe) (a : Bool) (f : Nat) : (s.fetched q a).viOf f = s.viOf f := by
  simp [State.viOf]

section
variable {s : State} {q : Sqe} (takes : s.takes q true = true)
include takes

/-- Create I/O CQ of a free identifier adds the queue (R399). -/
theorem State.createCq_creates {k : Nat} (asked : wordField q.cdw10 0 16 = k) (ne : k ≠ 0) (le : k ≤ s.ioQueues q.id.fn)
    (free : s.cq? q.id.fn k = none) (small : wordField q.cdw10 16 16 ≤ 4095) (contiguous : q.cdw11.getLsbD 0 = true)
    (vector : wordField q.cdw11 16 16 < s.viOf q.id.fn) : (s.createCq q).statusOf q.id = some 0 ∧
      (s.createCq q).cq? q.id.fn k = some
        { base := q.prp1.toNat, size := wordField q.cdw10 16 16 + 1, vector := wordField q.cdw11 16 16, ien := q.cdw11.getLsbD 1 } := by
  unfold State.createCq
  rw [State.fetchCmd_of_takes takes]
  dsimp only
  rw [asked]
  have fits : ¬ (k = 0 ∨ (s.fetched q true).ioQueues q.id.fn < k ∨ ((s.fetched q true).cq? q.id.fn k).isSome = true) := by
    simp [ne, le, free]
  rw [if_neg fits, if_neg (by omega), if_neg (by simp [contiguous]), if_neg (by simpa using vector)]
  refine ⟨State.statusOf_finish_fetched takes rfl .., ?_⟩
  rw [State.cq?_finish, State.cq?, State.fn_updFn_same]
  exact lookupKey_append_new (by simpa [State.cq?] using free) _

/-- Identifier 0 is the Admin queue's own. -/
theorem State.createCq_of_zero (asked : wordField q.cdw10 0 16 = 0) : (s.createCq q).statusOf q.id = some 0x101 ∧
    ((s.createCq q).fn q.id.fn).cqs = (s.fn q.id.fn).cqs := by
  unfold State.createCq
  rw [State.fetchCmd_of_takes takes]
  dsimp only
  rw [if_pos (.inl asked)]
  exact ⟨State.statusOf_finish_fetched takes rfl .., by simp⟩

/-- Create I/O SQ on a completion queue that exists adds the queue (R399). -/
theorem State.createSq_creates {k : Nat} (asked : wordField q.cdw10 0 16 = k) (ne : k ≠ 0) (le : k ≤ s.ioQueues q.id.fn)
    (free : s.sq? q.id.fn k = none) (small : wordField q.cdw10 16 16 ≤ 4095) (contiguous : q.cdw11.getLsbD 0 = true)
    (cq : wordField q.cdw11 16 16 ≠ 0) (there : (s.cq? q.id.fn (wordField q.cdw11 16 16)).isSome = true) :
    (s.createSq q).statusOf q.id = some 0 ∧ (s.createSq q).sq? q.id.fn k = some
      { base := q.prp1.toNat, cqid := wordField q.cdw11 16 16, size := wordField q.cdw10 16 16 + 1, head := 0, tail := 0 } := by
  unfold State.createSq
  rw [State.fetchCmd_of_takes takes]
  dsimp only
  rw [asked]
  have fits : ¬ (k = 0 ∨ (s.fetched q true).ioQueues q.id.fn < k ∨ ((s.fetched q true).sq? q.id.fn k).isSome = true) := by
    simp [ne, le, free]
  have target : ¬ (wordField q.cdw11 16 16 = 0 ∨ ((s.fetched q true).cq? q.id.fn (wordField q.cdw11 16 16)).isNone = true) := by
    simp_all [← Option.not_isSome]
  rw [if_neg fits, if_neg (by omega), if_neg (by simp [contiguous]), if_neg target]
  refine ⟨?_, ?_⟩
  · rw [State.statusOf, State.cmd?_of_cmds (State.cmds_showQueues _)]
    exact State.statusOf_finish_fetched takes rfl ..
  · rw [State.sq?_of_fns (State.fns_showQueues _), State.sq?_finish, State.sq?, State.fn_updFn_same]
    refine lookupKey_append_new ?_ _
    have missing := s.isNone_sq?_fetched q true q.id.fn k
    rw [free] at missing
    simpa [State.sq?] using missing

/-- Delete I/O SQ of a queue without commands removes it (R400). -/
theorem State.deleteSq_removes {k : Nat} (asked : wordField q.cdw10 0 16 = k) (ne : k ≠ 0) (there : (s.sq? q.id.fn k).isSome = true)
    (idle : s.sqCmds q.id.fn k = []) : (s.deleteSq q).statusOf q.id = some 0 ∧ (s.deleteSq q).sq? q.id.fn k = none := by
  unfold State.deleteSq
  rw [State.fetchCmd_of_takes takes]
  dsimp only
  rw [asked]
  have fits : ¬ (k = 0 ∨ ((s.fetched q true).sq? q.id.fn k).isNone = true) := by
    simp_all [← Option.not_isSome]
  have empty : (s.fetched q true).sqCmds q.id.fn k = [] := State.sqCmds_fetched takes ne idle
  rw [if_neg fits, empty, List.filter_nil, List.foldl_nil, if_pos (by rw [empty]; rfl)]
  obtain ⟨gone, cmds⟩ := (s.fetched q true).sqGone_removes (f := q.id.fn) (k := k) (c := q.id)
  refine ⟨?_, gone⟩
  rw [State.statusOf]
  exact (congrArg (Option.bind · Cmd.status) (State.cmd?_of_cmds cmds _)).trans (State.statusOf_finish_fetched takes rfl ..)

/-- Delete I/O CQ of a queue that no submission queue uses removes it (R402). -/
theorem State.deleteCq_removes {k : Nat} (asked : wordField q.cdw10 0 16 = k) (ne : k ≠ 0) (there : (s.cq? q.id.fn k).isSome = true)
    (unused : ((s.fn q.id.fn).sqs.any fun p => p.2.cqid == k) = false) : (s.deleteCq q).statusOf q.id = some 0 ∧
      (s.deleteCq q).cq? q.id.fn k = none := by
  unfold State.deleteCq
  rw [State.fetchCmd_of_takes takes]
  dsimp only
  rw [asked]
  have fits : ¬ (k = 0 ∨ ((s.fetched q true).cq? q.id.fn k).isNone = true) := by
    simp_all [← Option.not_isSome]
  rw [if_neg fits, State.any_cqid_fetched, if_neg (by simpa using unused)]
  refine ⟨State.statusOf_finish_fetched takes rfl .., ?_⟩
  rw [State.cq?_finish, State.cq?, State.fn_updFn_same]
  exact lookupKey_filter_none (p := (· != k)) (by simp) _

/-- One that a submission queue uses is kept. -/
theorem State.deleteCq_keeps {k : Nat} (asked : wordField q.cdw10 0 16 = k) (ne : k ≠ 0) (there : (s.cq? q.id.fn k).isSome = true)
    (used : ((s.fn q.id.fn).sqs.any fun p => p.2.cqid == k) = true) : (s.deleteCq q).statusOf q.id = some 0x10C ∧
      (s.deleteCq q).cq? q.id.fn k = s.cq? q.id.fn k := by
  unfold State.deleteCq
  rw [State.fetchCmd_of_takes takes]
  dsimp only
  rw [asked]
  have fits : ¬ (k = 0 ∨ ((s.fetched q true).cq? q.id.fn k).isNone = true) := by
    simp_all [← Option.not_isSome]
  rw [if_neg fits, State.any_cqid_fetched, if_pos used]
  exact ⟨State.statusOf_finish_fetched takes rfl .., by simp⟩

end

/-- Settles O15: each clause follows what its doorbell or its command does to the queues. -/
theorem queuesAndDoorbells : Obligations.QueuesAndDoorbells := by
  unfold Obligations.QueuesAndDoorbells
  refine ⟨fun s f q v x live port mem found lt => ?_, fun s f q v x live port mem found le => ?_, fun s f q v live port mem found => ?_,
    fun s f q v k live port mem found lt room => ?_, fun s f q v k live port mem found bad => ?_,
    fun s q k live takes asked ne le free small contiguous vector => ?_, fun s q live takes asked => ?_,
    fun s q k live takes asked ne le free small contiguous cq there => ?_, fun s q k live takes asked ne there idle => ?_,
    fun s q k live takes asked ne there unused => ?_, fun s q k live takes asked ne there used => ?_,
    fun s f k x c live found deleting idle => ?_⟩
  · refine ⟨s.sqDoorbell f q v, congrArg Host.Outcome.next ((s.whenLive_live _ live).trans (if_pos ⟨port, mem⟩)), ?_⟩
    unfold State.sqDoorbell
    rw [found]
    dsimp only
    rw [if_neg (by omega), State.sq?_kickAll, State.sq?_of_fns (State.fns_l0pWiden _)]
    split_ifs <;> simp [State.sq?_of_fns (State.fns_ring _ _), State.sq?_updSq, found]
  · refine ⟨s.sqDoorbell f q v, congrArg Host.Outcome.next ((s.whenLive_live _ live).trans (if_pos ⟨port, mem⟩)), ?_⟩
    unfold State.sqDoorbell
    rw [found]
    dsimp only
    rw [if_pos le]
    obtain ⟨count, event, sqs, -⟩ := s.badDoorbell_counts f 1
    exact ⟨count, event, (sqs q).trans found⟩
  · refine ⟨s.sqDoorbell f q v, congrArg Host.Outcome.next ((s.whenLive_live _ live).trans (if_pos ⟨port, mem⟩)), ?_⟩
    unfold State.sqDoorbell
    rw [found]
    obtain ⟨count, event, -⟩ := s.badDoorbell_counts f 0
    exact ⟨count, event⟩
  · refine ⟨s.cqDoorbell f q v, congrArg Host.Outcome.next ((s.whenLive_live _ live).trans (if_pos ⟨port, mem⟩)), ?_⟩
    unfold State.cqDoorbell
    rw [found]
    dsimp only
    rw [if_neg (by omega), State.cq?_of_fns (State.fns_l0pWiden _)]
    simp [State.cq?_updCq, found]
  · refine ⟨s.cqDoorbell f q v, congrArg Host.Outcome.next ((s.whenLive_live _ live).trans (if_pos ⟨port, mem⟩)), ?_⟩
    unfold State.cqDoorbell
    rw [found]
    dsimp only
    rw [if_pos bad]
    obtain ⟨count, -, -, cqs⟩ := s.badDoorbell_counts f 1
    exact ⟨count, (cqs q).trans found⟩
  · exact ⟨_, congrArg Host.Outcome.next (s.whenLive_live _ live), State.createCq_creates (q := q.as 5) takes asked ne le free small contiguous vector⟩
  · exact ⟨_, congrArg Host.Outcome.next (s.whenLive_live _ live), State.createCq_of_zero (q := q.as 5) takes asked⟩
  · exact ⟨_, congrArg Host.Outcome.next (s.whenLive_live _ live), State.createSq_creates (q := q.as 1) takes asked ne le free small contiguous cq there⟩
  · exact ⟨_, congrArg Host.Outcome.next (s.whenLive_live _ live), State.deleteSq_removes (q := q.as 0) takes asked ne there idle⟩
  · exact ⟨_, congrArg Host.Outcome.next (s.whenLive_live _ live), State.deleteCq_removes (q := q.as 4) takes asked ne there unused⟩
  · exact ⟨_, congrArg Host.Outcome.next (s.whenLive_live _ live), State.deleteCq_keeps (q := q.as 4) takes asked ne there used⟩
  · refine ⟨_, congrArg Host.Outcome.next (s.whenLive_live _ live), ?_⟩
    obtain ⟨gone, cmds⟩ := s.sqGone_removes (f := f) (k := k) (c := c)
    unfold State.sqDrained
    rw [found]
    dsimp only
    rw [deleting]
    dsimp only
    rw [if_pos (by rw [idle]; rfl)]
    refine ⟨gone, fun there => ?_⟩
    obtain ⟨y, e⟩ := Option.isSome_iff_exists.mp there
    rw [State.statusOf, State.cmd?_of_cmds cmds, State.cmd?_finish, e]
    simp only [Option.map_some, State.id_of_cmd? e, beq_self_eq_true, if_true, Option.bind_some, Cmd.ended]
    split <;> simp_all

end Sys2Proof.Machine
end

section
/-! SUPPORT. Get Log Page, Identify, Abort and asynchronous events (O17). -/
set_option linter.unusedSimpArgs false
namespace Sys2Proof.Machine

@[simp] theorem State.pending_adminData (s : State) (q : Sqe) (deliver : Bool) (len : Nat) (outs : List Out) : (s.adminData q deliver len outs).pending = s.pending :=
  pending_of_without (s.adminData_without q deliver len outs (List.Subset.refl _)) (by simp)
@[simp] theorem State.ftb_adminData (s : State) (q : Sqe) (deliver : Bool) (len : Nat) (outs : List Out) : (s.adminData q deliver len outs).ftb = s.ftb :=
  ftb_of_without (s.adminData_without q deliver len outs (List.Subset.refl _)) (by simp) (by simp)
@[simp] theorem State.prx_adminData (s : State) (q : Sqe) (deliver : Bool) (len : Nat) (outs : List Out) : (s.adminData q deliver len outs).prx = s.prx :=
  prx_of_without (s.adminData_without q deliver len outs (List.Subset.refl _)) (by simp)
@[simp] theorem State.tenants_adminData (s : State) (q : Sqe) (deliver : Bool) (len : Nat) (outs : List Out) : (s.adminData q deliver len outs).tenants = s.tenants :=
  tenants_of_without (s.adminData_without q deliver len outs (List.Subset.refl _)) (by simp)
@[simp] theorem State.cmds_adminData (s : State) (q : Sqe) (deliver : Bool) (len : Nat) (outs : List Out) : (s.adminData q deliver len outs).cmds = s.cmds :=
  cmds_of_without (s.adminData_without q deliver len outs (List.Subset.refl _)) (by simp)
@[simp] theorem State.mch_adminData (s : State) (q : Sqe) (deliver : Bool) (len : Nat) (outs : List Out) : (s.adminData q deliver len outs).mch = s.mch :=
  mch_of_without (s.adminData_without q deliver len outs (List.Subset.refl _)) (by simp)
@[simp] theorem State.rdp_adminData (s : State) (q : Sqe) (deliver : Bool) (len : Nat) (outs : List Out) : (s.adminData q deliver len outs).rdp = s.rdp :=
  rdp_of_without (s.adminData_without q deliver len outs (List.Subset.refl _)) (by simp)
@[simp] theorem State.wrp_adminData (s : State) (q : Sqe) (deliver : Bool) (len : Nat) (outs : List Out) : (s.adminData q deliver len outs).wrp = s.wrp :=
  wrp_of_without (s.adminData_without q deliver len outs (List.Subset.refl _)) (by simp)
@[simp] theorem State.mcr_adminData (s : State) (q : Sqe) (deliver : Bool) (len : Nat) (outs : List Out) : (s.adminData q deliver len outs).mcr = s.mcr :=
  mcr_of_without (s.adminData_without q deliver len outs (List.Subset.refl _)) (by simp)
@[simp] theorem State.nss_adminData (s : State) (q : Sqe) (deliver : Bool) (len : Nat) (outs : List Out) : (s.adminData q deliver len outs).nss = s.nss :=
  nss_of_without (s.adminData_without q deliver len outs (List.Subset.refl _)) (by simp)
@[simp] theorem State.mig_adminData (s : State) (q : Sqe) (deliver : Bool) (len : Nat) (outs : List Out) : (s.adminData q deliver len outs).mig = s.mig :=
  mig_of_without (s.adminData_without q deliver len outs (List.Subset.refl _)) (by simp)
@[simp] theorem State.aens_adminData (s : State) (q : Sqe) (deliver : Bool) (len : Nat) (outs : List Out) : (s.adminData q deliver len outs).aens = s.aens :=
  aens_of_without (s.adminData_without q deliver len outs (List.Subset.refl _)) (by simp)
@[simp] theorem State.errs_adminData (s : State) (q : Sqe) (deliver : Bool) (len : Nat) (outs : List Out) : (s.adminData q deliver len outs).errs = s.errs :=
  errs_of_without (s.adminData_without q deliver len outs (List.Subset.refl _)) (by simp)
@[simp] theorem State.evc_adminData (s : State) (q : Sqe) (deliver : Bool) (len : Nat) (outs : List Out) : (s.adminData q deliver len outs).evc = s.evc :=
  evc_of_without (s.adminData_without q deliver len outs (List.Subset.refl _)) (by simp)
@[simp] theorem State.aow_adminData (s : State) (q : Sqe) (deliver : Bool) (len : Nat) (outs : List Out) : (s.adminData q deliver len outs).aow = s.aow :=
  aow_of_without (s.adminData_without q deliver len outs (List.Subset.refl _)) (by simp)
@[simp] theorem State.sdm_adminData (s : State) (q : Sqe) (deliver : Bool) (len : Nat) (outs : List Out) : (s.adminData q deliver len outs).sdm = s.sdm :=
  sdm_of_without (s.adminData_without q deliver len outs (List.Subset.refl _)) (by simp)
@[simp] theorem State.mlk_adminData (s : State) (q : Sqe) (deliver : Bool) (len : Nat) (outs : List Out) : (s.adminData q deliver len outs).mlk = s.mlk :=
  mlk_of_without (s.adminData_without q deliver len outs (List.Subset.refl _)) (by simp)
@[simp] theorem State.pwr_adminData (s : State) (q : Sqe) (deliver : Bool) (len : Nat) (outs : List Out) : (s.adminData q deliver len outs).pwr = s.pwr :=
  pwr_of_without (s.adminData_without q deliver len outs (List.Subset.refl _)) (by simp) (by simp)
@[simp] theorem State.keys_adminData (s : State) (q : Sqe) (deliver : Bool) (len : Nat) (outs : List Out) : (s.adminData q deliver len outs).keys = s.keys :=
  keys_of_without (s.adminData_without q deliver len outs (List.Subset.refl _)) (by simp)
@[simp] theorem State.mtr_adminData (s : State) (q : Sqe) (deliver : Bool) (len : Nat) (outs : List Out) : (s.adminData q deliver len outs).mtr = s.mtr :=
  mtr_of_without (s.adminData_without q deliver len outs (List.Subset.refl _)) (by simp)
@[simp] theorem State.tln_adminData (s : State) (q : Sqe) (deliver : Bool) (len : Nat) (outs : List Out) : (s.adminData q deliver len outs).tln = s.tln :=
  tln_of_without (s.adminData_without q deliver len outs (List.Subset.refl _)) (by simp)
@[simp] theorem State.mi_adminData (s : State) (q : Sqe) (deliver : Bool) (len : Nat) (outs : List Out) : (s.adminData q deliver len outs).mi = s.mi :=
  mi_of_without (s.adminData_without q deliver len outs (List.Subset.refl _)) (by simp)
@[simp] theorem State.draw_adminData (s : State) (q : Sqe) (deliver : Bool) (len : Nat) (outs : List Out) : (s.adminData q deliver len outs).draw = s.draw :=
  draw_of_without (s.adminData_without q deliver len outs (List.Subset.refl _)) (by simp)
@[simp] theorem State.reg_of_adminData (s : State) (q : Sqe) (deliver : Bool) (len : Nat) (outs : List Out) (r : Nat) (h : r / 0x100000 ∉ [1, 3, 11, 19]) :
    (s.adminData q deliver len outs).reg r = s.reg r :=
  reg_of_without (s.adminData_without q deliver len outs (List.Subset.refl _)) (by simpa using h)
@[simp] theorem State.reg_of_failCmd (s : State) (c : CmdId) (status : Nat) (r : Nat) (h : r / 0x100000 ∉ [7, 8, 15]) :
    (s.failCmd c status).reg r = s.reg r :=
  reg_of_without (s.failCmd_without c status (List.Subset.refl _)) (by simpa using h)
@[simp] theorem State.fns_failCmd (s : State) (c : CmdId) (status : Nat) : (s.failCmd c status).fns = s.fns :=
  fns_of_without (s.failCmd_without c status (List.Subset.refl _)) (by simp)
@[simp] theorem State.hpt_failCmd (s : State) (c : CmdId) (status : Nat) : (s.failCmd c status).hpt = s.hpt :=
  hpt_of_without (s.failCmd_without c status (List.Subset.refl _)) (by simp)
@[simp] theorem State.aens_failCmd (s : State) (c : CmdId) (status : Nat) : (s.failCmd c status).aens = s.aens :=
  aens_of_without (s.failCmd_without c status (List.Subset.refl _)) (by simp)


/-! ## What a command's failure leaves of the others -/

/-- How a command has ended. -/
def Cmd.fate (x : Cmd) : Option Nat × Word := (x.status, x.dw0)

/-- Every command that one state holds is in the other, and what is read of it is the same. -/
def State.SameBy {α : Type} (p : Cmd → α) (s t : State) : Prop := ∀ c, (t.cmd? c).map p = (s.cmd? c).map p

/-- No command has ended, and none has gone. -/
abbrev State.SameFates (s t : State) : Prop := State.SameBy Cmd.fate s t

section
variable {α : Type} {p : Cmd → α} {s t u : State}

theorem State.SameBy.trans (h : State.SameBy p s t) (k : State.SameBy p t u) : State.SameBy p s u := fun c => (k c).trans (h c)

theorem State.SameBy.of_cmds (h : t.cmds = s.cmds) : State.SameBy p s t := fun c => by rw [State.cmd?_of_cmds h]

theorem State.SameBy.updCmd (s : State) (c : CmdId) {f : Cmd → Cmd} (id : ∀ x, (f x).id = x.id) (same : ∀ x, p (f x) = p x) :
    State.SameBy p s (s.updCmd c f) := fun d => by
  rw [State.cmd?_updCmd _ _ _ id, Option.map_map]
  refine congrArg (Option.map · _) (funext fun x => ?_)
  simp only [Function.comp]
  split <;> simp [same]

theorem State.SameBy.ite {q : Prop} [Decidable q] (h : State.SameBy p s t) (k : State.SameBy p s u) :
    State.SameBy p s (if q then t else u) := by
  split
  · exact h
  · exact k

theorem State.sameBy_foldl {β : Type} {h : State → β → State} (each : ∀ (s : State) a, State.SameBy p s (h s a)) (l : List β) (s : State) :
    State.SameBy p s (l.foldl h s) := by
  induction l generalizing s with
  | nil => exact .of_cmds rfl
  | cons a l ih => exact (each s a).trans (ih (h s a))

theorem State.sameFates_letGo (s : State) (c : CmdId) (r : RUnit) : s.SameFates (s.letGo c r) := by
  unfold State.letGo
  split
  · refine State.SameBy.trans (t := State.updUnit _ c r.unit _) ?_ (.of_cmds (cmds_of_without (State.release_without _ (List.Subset.refl _)) (by simp)))
    exact State.SameBy.updCmd _ c (fun _ => rfl) fun _ => rfl
  · exact .of_cmds rfl

theorem State.sameFates_endReads (s : State) (x : Cmd) : s.SameFates (s.endReads x) := by
  refine State.sameBy_foldl (fun t r => ?_) _ _
  have quit : t.SameFates (t.quit x.id r) := .of_cmds (cmds_of_without (t.quit_without _ _ (List.Subset.refl _)) (by simp))
  exact (quit.trans (State.sameFates_letGo (t.quit x.id r) x.id r)).trans
    (.of_cmds (cmds_of_without (State.leaveSoft_without _ _ _ (List.Subset.refl _)) (by simp)))

/-- A command that fails ends with its status, and no other command ends. -/
theorem State.cmd?_failCmd {c : CmdId} {x : Cmd} (found : s.cmd? c = some x) (status : Nat) : ∃ u : State, s.SameFates u ∧
    s.failCmd c status = u.finish c status := by
  unfold State.failCmd
  rw [found]
  refine ⟨_, ?_, rfl⟩
  refine State.SameBy.trans (t := ((s.endReads x).dropAdms (·.cmd == c)).discardFilling fun w => w.cmd == some c) ?_
    (.updCmd _ c (fun _ => rfl) fun _ => rfl)
  refine (s.sameFates_endReads x).trans (.of_cmds ?_)
  exact (cmds_of_without (State.discardFilling_without _ _ (List.Subset.refl _)) (by simp)).trans
    (cmds_of_without (State.dropAdms_without _ _ (List.Subset.refl _)) (by simp))

end

/-- In a state whose commands have the fates of another's, an open command ends with the status given. -/
theorem State.SameBy.statusOf {s t : State} (h : s.SameFates t) (c : CmdId) : t.statusOf c = s.statusOf c := by
  have same := congrArg (Option.bind · Prod.fst) (h c)
  rwa [Option.bind_map, Option.bind_map] at same

theorem State.SameBy.statusOf_finish {s t : State} (h : s.SameFates t) {c : CmdId} {x : Cmd} (found : s.cmd? c = some x)
    (open_ : x.status = none) (status : Nat) (dw0 : Word) (dnr : Bool) : (t.finish c status dw0 dnr).statusOf c = some status := by
  have same := h c
  rw [found, Option.map_some] at same
  obtain ⟨y, there, fate⟩ := Option.map_eq_some_iff.mp same
  simp only [Cmd.fate, Prod.mk.injEq, open_] at fate
  exact State.statusOf_finish there fate.1 ..

/-! ## Data of a command that goes to the host -/

section
variable {s : State} {q : Sqe}

theorem State.dmaOk_of_takes {a : Bool} (h : s.takes q a = true) : s.dmaOk q.id.fn = true := by
  obtain ⟨-, on, -⟩ := State.takes_iff.mp h
  simp only [State.fetchOn, Bool.and_eq_true] at on
  tauto

@[simp] theorem State.dmaOk_fetched (s : State) (q : Sqe) (a : Bool) (f : Nat) : (s.fetched q a).dmaOk f = s.dmaOk f := by
  simp +decide [State.dmaOk]

theorem State.out_subset_toHosts (l : List Out) (s : State) : s.out ⊆ (l.foldl State.toHost s).out := by
  induction l generalizing s with
  | nil => exact List.Subset.refl _
  | cons o l ih => exact List.Subset.trans (s.out_subset_toHost o) (ih _)

theorem State.mem_toHosts {l : List Out} {o : Out} (mem : o ∈ l) (s : State) : o ∈ (l.foldl State.toHost s).out := by
  induction l generalizing s with
  | nil => cases mem
  | cons p l ih =>
    rcases List.mem_cons.mp mem with rfl | mem
    · exact State.out_subset_toHosts l _ (List.mem_cons_self ..)
    · exact ih mem _

@[simp] theorem State.delivers_finish (c d : CmdId) (status : Nat) (dw0 : Word) (dnr : Bool) (o : Out) :
    (s.finish c status dw0 dnr).delivers d o = s.delivers d o := rfl

@[simp] theorem State.delivers_updFn (f : Nat) (g : Fn → Fn) (d : CmdId) (o : Out) : (s.updFn f g).delivers d o = s.delivers d o := rfl

/-- Data that a command delivers goes to the host at once in Park, and through its capacity in Run. -/
theorem State.delivers_adminData (dma : s.dmaOk q.id.fn = true) {len : Nat} (ne : len ≠ 0) {outs : List Out} {o : Out} (mem : o ∈ outs) :
    (s.adminData q true len outs).delivers q.id o = true := by
  have park : (s.adminData q true len outs).prxState = s.prxState := by simp +decide [State.prxState]
  unfold State.delivers
  rw [park]
  unfold State.adminData
  rw [if_neg ne, if_pos rfl]
  unfold State.internal
  split
  next at_ =>
    rw [if_pos ⟨at_, dma⟩, List.contains_iff_mem]
    exact State.mem_toHosts (List.mem_append_right _ mem) s
  next at_ =>
    rw [if_neg fun e => at_ e.1, List.any_append]
    simp [mem]

end

/-! ## The commands -/

section
variable {s : State} {q : Sqe} (takes : s.takes q true = true)
include takes

/-- Data of a command whose entry has just been taken is delivered. -/
theorem State.delivers_fetched {len : Nat} (ne : len ≠ 0) {outs : List Out} {o : Out} (mem : o ∈ outs) :
    ((s.fetched q true).adminData q true len outs).delivers q.id o = true :=
  State.delivers_adminData (by rw [State.dmaOk_fetched]; exact State.dmaOk_of_takes takes) ne mem

theorem State.getLog_opcodes (asked : wordField q.cdw10 0 8 = 5) : (s.getLog q).statusOf q.id = some 0 ∧
    (s.getLog q).delivers q.id (Out.page q.id.fn 5 (opcodesOf q.id.fn)) = true := by
  have page (t : State) (sel : Nat) : t.logPage q.id.fn 5 sel = some (.ok (false, opcodesOf q.id.fn)) := rfl
  unfold State.getLog
  rw [State.adminCmd_of_takes takes (.inl rfl)]
  dsimp only
  rw [asked, page]
  dsimp only
  rw [if_neg (by simp)]
  exact ⟨State.statusOf_finish_fetched takes (by simp [State.logRead]) .., State.delivers_fetched takes (by omega) (by simp)⟩

theorem State.getLog_namespaces (asked : wordField q.cdw10 0 8 = 4) (few : (s.fn q.id.fn).changedNs.length ≤ 1024) :
    (s.getLog q).statusOf q.id = some 0 ∧ ((s.getLog q).fn q.id.fn).changedNs = [] ∧
      (s.getLog q).delivers q.id (Out.page q.id.fn 4 (s.fn q.id.fn).changedNs) = true := by
  have page (sel : Nat) : (s.fetched q true).logPage q.id.fn 4 sel = some (.ok (false, (s.fn q.id.fn).changedNs)) := by
    show some (Except.ok (false, if 1024 < ((s.fetched q true).fn q.id.fn).changedNs.length then _ else _)) = _
    rw [State.changedNs_fn_fetched, if_neg (by omega)]
  unfold State.getLog
  rw [State.adminCmd_of_takes takes (.inl rfl)]
  dsimp only
  rw [asked, page]
  dsimp only
  rw [if_neg (by simp)]
  refine ⟨State.statusOf_finish_fetched takes ?_ .., ?_, ?_⟩
  · exact State.cmds_adminData ..
  · rw [State.fn_finish, State.logRead, State.fn_updFn_same]
  · exact State.delivers_fetched takes (by omega) (by simp)

theorem State.getLog_unknown (asked : wordField q.cdw10 0 8 = 0xFF) : (s.getLog q).statusOf q.id = some 0x109 := by
  have page (t : State) (sel : Nat) : t.logPage q.id.fn 0xFF sel = none := rfl
  unfold State.getLog
  rw [State.adminCmd_of_takes takes (.inl rfl)]
  dsimp only
  rw [asked, page]
  exact State.statusOf_finish_fetched takes rfl ..

theorem State.identifyCmd_controller (asked : wordField q.cdw10 0 8 = 1) : (s.identifyCmd q).statusOf q.id = some 0 ∧
    (s.identifyCmd q).delivers q.id (Out.page q.id.fn 0x1001 (idController q.id.fn)) = true := by
  unfold State.identifyCmd
  rw [State.adminCmd_of_takes takes (.inl rfl)]
  dsimp only
  rw [asked]
  exact ⟨State.statusOf_finish_fetched takes (State.cmds_adminData ..) .., State.delivers_fetched takes (by decide) (by simp)⟩

theorem State.identifyCmd_namespaces (asked : wordField q.cdw10 0 8 = 2) : (s.identifyCmd q).statusOf q.id = some 0 ∧
    (s.identifyCmd q).delivers q.id
      (Out.page q.id.fn 0x1002 (((s.attachedTo q.id.fn).filter fun n => decide (q.nsid < n)).take 1024)) = true := by
  have attached : (s.fetched q true).attachedTo q.id.fn = s.attachedTo q.id.fn := by simp [State.attachedTo]
  unfold State.identifyCmd
  rw [State.adminCmd_of_takes takes (.inl rfl)]
  dsimp only
  rw [asked, attached]
  exact ⟨State.statusOf_finish_fetched takes (State.cmds_adminData ..) .., State.delivers_fetched takes (by decide) (by simp)⟩

/-- Abort ends a command of which no stage has been admitted (R390). -/
theorem State.abortCmd_aborts {c : CmdId} {x : Cmd} (named : c = { fn := q.id.fn, qid := wordField q.cdw10 0 16, cid := wordField q.cdw10 16 16 })
    (found : s.cmd? c = some x) (open_ : x.status = none) (idle : x.begun = false) : (s.abortCmd q).statusOf q.id = some 0 ∧
      (s.abortCmd q).statusOf c = some 7 ∧ (s.abortCmd q).num Reg.qenAbortCnt = satAdd 32 (s.num Reg.qenAbortCnt) 1 := by
  obtain ⟨-, -, -, free, -⟩ := State.takes_iff.mp takes
  have other : c ≠ q.id := by
    rintro rfl
    rw [free] at found
    cases found
  have found' : (s.fetched q true).cmd? c = some x := by rw [State.cmd?_fetched takes, if_neg other, found]
  unfold State.abortCmd
  rw [State.adminCmd_of_takes takes (.inl rfl)]
  dsimp only
  rw [← named, found']
  dsimp only
  rw [if_pos ⟨other, by simp [open_], by simp [idle]⟩]
  obtain ⟨u, fates, failed⟩ := State.cmd?_failCmd found' 7
  have own := State.cmd?_fetched_own takes
  have count : ((s.fetched q true).failCmd c 7).reg Reg.qenAbortCnt = s.reg Reg.qenAbortCnt := by simp +decide
  refine ⟨?_, ?_, ?_⟩
  · rw [failed]
    have open' : ((u.finish c 7).inc Reg.qenAbortCnt).cmd? q.id = u.cmd? q.id :=
      (State.cmd?_of_cmds (s := u.finish c 7) rfl _).trans (State.cmd?_finish_ne other.symm ..)
    have same := fates q.id
    rw [own, Option.map_some] at same
    obtain ⟨y, there, fate⟩ := Option.map_eq_some_iff.mp same
    exact State.statusOf_finish (open'.trans there) (congrArg Prod.fst fate) ..
  · rw [failed, State.statusOf, State.cmd?_finish_ne other]
    exact fates.statusOf_finish found' open_ ..
  · simp +decide [State.num_eq, count]

/-- Abort of a command that is not outstanding aborts nothing. -/
theorem State.abortCmd_misses {n : Nat} (cid : wordField q.cdw10 16 16 = n)
    (missing : s.cmd? { fn := q.id.fn, qid := wordField q.cdw10 0 16, cid := n } = none) (other : q.id.qid ≠ wordField q.cdw10 0 16) :
    (s.abortCmd q).statusOf q.id = some 0 ∧ (s.abortCmd q).dw0Of q.id = some 1 := by
  have missing' : (s.fetched q true).cmd? { fn := q.id.fn, qid := wordField q.cdw10 0 16, cid := n } = none := by
    rw [State.cmd?_fetched takes, if_neg fun e => other (congrArg CmdId.qid e).symm, missing]
  unfold State.abortCmd
  rw [State.adminCmd_of_takes takes (.inl rfl)]
  dsimp only
  rw [cid, missing']
  exact ⟨State.statusOf_finish_fetched takes rfl .., State.dw0Of_finish_fetched takes rfl ..⟩

/-- The requests for events that wait are those that waited before the entry was taken. -/
theorem State.aers_fetched : ((s.fetched q true).cmds.filter fun x => x.admin && x.op == opAer && x.id.fn == q.id.fn && x.status.isNone &&
      x.id != q.id) = s.cmds.filter fun x => x.admin && x.op == opAer && x.id.fn == q.id.fn && x.status.isNone := by
  obtain ⟨-, -, -, free, -⟩ := State.takes_iff.mp takes
  have other : ∀ x ∈ s.cmds, (x.id != q.id) = true := fun x mem => by
    simpa using List.find?_eq_none.mp free x mem
  rw [State.cmds_fetched takes, List.filter_append]
  have own : [s.freshCmd q true].filter (fun x => x.admin && x.op == opAer && x.id.fn == q.id.fn && x.status.isNone && x.id != q.id) = [] := by
    simp [State.freshCmd]
  rw [own, List.append_nil]
  exact List.filter_congr fun x mem => by rw [other x mem, Bool.and_true]

theorem State.aerCmd_waits
    (few : (s.cmds.filter fun x => x.admin && x.op == opAer && x.id.fn == q.id.fn && x.status.isNone).length < 8)
    (quiet : s.aens.find? (fun e => e.1 == q.id.fn) = none) : ((s.aerCmd q).cmd? q.id).isSome = true ∧ (s.aerCmd q).statusOf q.id = none := by
  unfold State.aerCmd
  rw [State.adminCmd_of_takes takes (.inl rfl)]
  dsimp only
  rw [State.aers_fetched takes, if_neg (by omega), State.aens_fetched, quiet]
  dsimp only
  rw [State.statusOf, State.cmd?_fetched_own takes]
  exact ⟨rfl, rfl⟩

theorem State.aerCmd_returns {e : Nat × Nat × Nat × Nat}
    (few : (s.cmds.filter fun x => x.admin && x.op == opAer && x.id.fn == q.id.fn && x.status.isNone).length < 8)
    (pending : s.aens.find? (fun e => e.1 == q.id.fn) = some e) : (s.aerCmd q).statusOf q.id = some 0 ∧
      (s.aerCmd q).dw0Of q.id = some (BitVec.ofNat 32 (e.2.1 + e.2.2.1 * 256 + e.2.2.2 * 65536)) := by
  unfold State.aerCmd
  rw [State.adminCmd_of_takes takes (.inl rfl)]
  dsimp only
  rw [State.aers_fetched takes, if_neg (by omega), State.aens_fetched, pending]
  exact ⟨State.statusOf_finish_fetched takes rfl .., State.dw0Of_finish_fetched takes rfl ..⟩

theorem State.aerCmd_refuses
    (many : 8 ≤ (s.cmds.filter fun x => x.admin && x.op == opAer && x.id.fn == q.id.fn && x.status.isNone).length) :
    (s.aerCmd q).statusOf q.id = some 0x105 ∧ (s.aerCmd q).aens = s.aens := by
  unfold State.aerCmd
  rw [State.adminCmd_of_takes takes (.inl rfl)]
  dsimp only
  rw [State.aers_fetched takes, if_pos many]
  exact ⟨State.statusOf_finish_fetched takes rfl .., by simp⟩

end

/-- Settles O17: each clause is what its command does with its entry. -/
theorem adminCommands : Obligations.AdminCommands := by
  unfold Obligations.AdminCommands
  refine ⟨fun s q live unlisted takes => ?_, fun s q live takes asked => ?_, fun s q live takes asked few => ?_,
    fun s q live takes asked => ?_, fun s q live takes asked => ?_, fun s q live takes asked => ?_,
    fun s q c x live takes named found open_ idle => ?_, fun s q n live takes cid missing other => ?_,
    fun s q live takes few quiet => ?_, fun s q e live takes few pending => ?_, fun s q live takes many => ?_⟩
  · refine ⟨_, congrArg Host.Outcome.next ((s.whenLive_live _ live).trans
      ((if_neg (ne_true_of_eq_false unlisted)).trans (State.fetchCmd_of_takes takes _))), ?_⟩
    exact State.statusOf_finish_fetched takes rfl ..
  · exact ⟨_, congrArg Host.Outcome.next (s.whenLive_live _ live), State.getLog_opcodes (q := q.as 2) takes asked⟩
  · exact ⟨_, congrArg Host.Outcome.next (s.whenLive_live _ live), State.getLog_namespaces (q := q.as 2) takes asked few⟩
  · exact ⟨_, congrArg Host.Outcome.next (s.whenLive_live _ live), State.getLog_unknown (q := q.as 2) takes asked⟩
  · exact ⟨_, congrArg Host.Outcome.next (s.whenLive_live _ live), State.identifyCmd_controller (q := q.as 6) takes asked⟩
  · exact ⟨_, congrArg Host.Outcome.next (s.whenLive_live _ live), State.identifyCmd_namespaces (q := q.as 6) takes asked⟩
  · exact ⟨_, congrArg Host.Outcome.next (s.whenLive_live _ live), State.abortCmd_aborts (q := q.as 8) takes named found open_ idle⟩
  · exact ⟨_, congrArg Host.Outcome.next (s.whenLive_live _ live), State.abortCmd_misses (q := q.as 8) takes cid missing other⟩
  · exact ⟨_, congrArg Host.Outcome.next (s.whenLive_live _ live), State.aerCmd_waits (q := q.as 12) takes few quiet⟩
  · exact ⟨_, congrArg Host.Outcome.next (s.whenLive_live _ live), State.aerCmd_returns (q := q.as 12) takes few pending⟩
  · exact ⟨_, congrArg Host.Outcome.next (s.whenLive_live _ live), State.aerCmd_refuses (q := q.as 12) takes many⟩

end Sys2Proof.Machine
end

section
/-! SUPPORT. Features, vendor queries and firmware download (O18). -/
set_option linter.unusedSimpArgs false
namespace Sys2Proof.Machine

section
variable {s : State} {q : Sqe}

theorem State.featureBad_fetched (f k : Nat) (v : Word) : (s.fetched q true).featureBad f k v = s.featureBad f k v := by
  unfold State.featureBad
  split <;> simp

theorem State.contractData_fetched (f : Nat) : (s.fetched q true).contractData f = s.contractData f := by
  simp +decide [State.contractData, State.inRun, State.prxState, State.variant, State.gcFactor, State.trimmed, State.trimOf, State.writeScale] <;> rfl

theorem State.meterRecords_fetched (vf first count : Nat) : (s.fetched q true).meterRecords vf first count = s.meterRecords vf first count := by
  simp [State.meterRecords, State.minute?]

theorem State.downloaded_fetched (g : List Byte) : (s.fetched q true).downloaded g = s.downloaded g := by
  simp [State.downloaded]

theorem State.slotOk_fetched (x : SlotImage) : (s.fetched q true).slotOk x = s.slotOk x := by
  simp [State.slotOk, State.slotLength] <;> rfl

section
variable (takes : s.takes q true = true)
include takes

theorem State.setFeature_stores {k : Nat} (data : BitVec 64) (asked : wordField q.cdw10 0 8 = k) (listed : featureIds.contains k = true)
    (h7 : k ≠ 7) (h8 : k ≠ 8) (h9 : k ≠ 9) (h14 : k ≠ 14) (current : q.cdw10.getLsbD 31 = false)
    (good : s.featureBad q.id.fn k q.cdw11 = false) : (s.setFeature q data).statusOf q.id = some 0 ∧
      ((s.setFeature q data).fn q.id.fn).feats.get k = q.cdw11.toNat := by
  unfold State.setFeature
  rw [State.adminCmd_of_takes takes (.inl rfl)]
  dsimp only
  rw [asked, State.featureBad_fetched, if_neg (not_not_intro listed), if_neg (ne_true_of_eq_false current), if_neg (ne_true_of_eq_false good),
    if_neg h7, if_neg h8, if_neg h9, if_neg h14]
  exact ⟨State.statusOf_finish_fetched takes rfl .., by simp⟩

theorem State.setFeature_of_save (data : BitVec 64) (listed : featureIds.contains (wordField q.cdw10 0 8) = true)
    (save : q.cdw10.getLsbD 31 = true) : (s.setFeature q data).statusOf q.id = some 0x10D ∧
      ((s.setFeature q data).fn q.id.fn).feats = (s.fn q.id.fn).feats := by
  unfold State.setFeature
  rw [State.adminCmd_of_takes takes (.inl rfl)]
  dsimp only
  rw [if_neg (not_not_intro listed), if_pos save]
  exact ⟨State.statusOf_finish_fetched takes rfl .., by simp⟩

theorem State.getFeature_returns {k : Nat} (asked : wordField q.cdw10 0 8 = k) (listed : featureIds.contains k = true)
    (h7 : k ≠ 7) (h8 : k ≠ 8) (h9 : k ≠ 9) (h14 : k ≠ 14) : (s.getFeature q).statusOf q.id = some 0 ∧
      (s.getFeature q).dw0Of q.id = some (BitVec.ofNat 32 ((s.fn q.id.fn).feats.get k)) := by
  unfold State.getFeature
  rw [State.adminCmd_of_takes takes (.inl rfl)]
  dsimp only
  rw [asked, if_neg (not_not_intro listed), if_neg h7, if_neg h8, if_neg h9, if_neg h14, State.feats_fn_fetched]
  exact ⟨State.statusOf_finish_fetched takes rfl .., State.dw0Of_finish_fetched takes rfl ..⟩

theorem State.contractQuery_own (own : wordField q.cdw10 0 13 = 0) : (s.contractQuery q).statusOf q.id = some 0 ∧
    (s.contractQuery q).delivers q.id (Out.bytes 1000 (s.contractData q.id.fn)) = true := by
  unfold State.contractQuery
  rw [State.adminCmd_of_takes takes (.inl rfl)]
  dsimp only
  have sel : (if q.id.fn = 0 then 0 else q.id.fn) = q.id.fn := by split <;> simp_all
  rw [own, sel, if_neg (by simp), State.contractData_fetched]
  exact ⟨State.statusOf_finish_fetched takes (State.cmds_adminData ..) .., State.delivers_fetched takes (by decide) (by simp)⟩

theorem State.meterRead_of_none (none_ : wordField q.cdw12 0 6 = 0) : (s.meterRead q).statusOf q.id = some 0x02 := by
  unfold State.meterRead
  rw [State.adminCmd_of_takes takes (.inl rfl)]
  dsimp only
  rw [if_pos (.inl none_)]
  exact State.statusOf_finish_fetched takes rfl ..

theorem State.meterRead_returns {k : Nat} {l : List (List Byte)} (pf : q.id.fn = 0) (one : 1 ≤ wordField q.cdw12 0 6)
    (most : wordField q.cdw12 0 6 ≤ 32) (sel : wordField q.cdw13 0 13 = k) (vf : 1 ≤ k) (le : k ≤ 4096)
    (found : s.meterRecords k (q.cdw10.toNat + wordField q.cdw11 0 16 * 2 ^ 32) (wordField q.cdw12 0 6) = l) :
    (s.meterRead q).statusOf q.id = some 0 ∧ (s.meterRead q).dw0Of q.id = some (BitVec.ofNat 32 l.length) ∧
      (l ≠ [] → (s.meterRead q).delivers q.id (Out.bytes 1000 l.flatten) = true) := by
  unfold State.meterRead
  rw [State.adminCmd_of_takes takes (.inl rfl)]
  dsimp only
  have good : ¬ (wordField q.cdw12 0 6 = 0 ∨ 32 < wordField q.cdw12 0 6 ∨ ((q.id.fn = 0) = (k = 0)) ∨ 4096 < k) := by
    rintro (h | h | h | h)
    · omega
    · omega
    · have : k = 0 := h ▸ pf
      omega
    · omega
  rw [sel, if_neg good, if_pos pf, State.meterRecords_fetched, found]
  refine ⟨State.statusOf_finish_fetched takes (State.cmds_adminData ..) .., State.dw0Of_finish_fetched takes (State.cmds_adminData ..) ..,
    fun some_ => State.delivers_fetched takes ?_ (by simp)⟩
  have long : l.length ≠ 0 := by simpa using some_
  omega

/-- The bytes of a firmware image stand where the download puts them, whatever was there (R430). -/
theorem State.fwDownload_stores (b : List Byte) (pf : q.id.fn = 0) : (s.fwDownload q b).statusOf q.id = some 0 ∧
    ((s.fwDownload q b).sec.download.drop (q.cdw11.toNat * 4)).take ((q.cdw10.toNat + 1) * 4) =
      (fitBytes ((q.cdw10.toNat + 1) * 4) b).map some := by
  unfold State.fwDownload
  rw [State.adminCmd_of_takes takes (.inr pf)]
  dsimp only
  refine ⟨State.statusOf_finish_fetched takes (State.cmds_adminData ..) .., ?_⟩
  rw [State.sec_finish]
  dsimp only
  have before : ((s.fetched q true).sec.download ++
      List.replicate (q.cdw11.toNat * 4 - (s.fetched q true).sec.download.length) none |>.take (q.cdw11.toNat * 4)).length =
      q.cdw11.toNat * 4 := by
    rw [List.length_take, List.length_append, List.length_replicate]
    omega
  have part : ((fitBytes ((q.cdw10.toNat + 1) * 4) b).map some).length = (q.cdw10.toNat + 1) * 4 := by
    simp [fitBytes]
    omega
  rw [List.append_assoc, List.drop_left' before, List.take_left' part]

theorem State.fwDownload_of_vf (b : List Byte) (vf : q.id.fn ≠ 0) : (s.fwDownload q b).statusOf q.id = some 0x01 ∧
    (s.fwDownload q b).sec = s.sec := by
  obtain ⟨status, -, sec⟩ := State.adminCmd_of_vf_refuses takes vf _
  exact ⟨status, sec⟩

theorem State.fwCommit_of_vf (g : List Byte) (vf : q.id.fn ≠ 0) : (s.fwCommit q g).statusOf q.id = some 0x01 ∧
    (s.fwCommit q g).sec = s.sec := by
  obtain ⟨status, -, sec⟩ := State.adminCmd_of_vf_refuses takes vf _
  exact ⟨status, sec⟩

theorem State.fwCommit_of_unknown (g : List Byte) (pf : q.id.fn = 0) (unknown : 2 < wordField q.cdw10 3 3) :
    (s.fwCommit q g).statusOf q.id = some 0x02 ∧ (s.fwCommit q g).sec = s.sec := by
  unfold State.fwCommit
  rw [State.adminCmd_of_takes takes (.inr pf)]
  dsimp only
  rw [if_pos unknown]
  exact ⟨State.statusOf_finish_fetched takes rfl .., by simp⟩

omit takes in
theorem State.bit_secStatus_fetched (i : Nat) : (s.fetched q true).bit Reg.secStatus i = s.bit Reg.secStatus i :=
  State.bit_of_reg (State.reg_of_fetched s q true _ (by decide)) i

theorem State.fwCommit_of_running (g : List Byte) (pf : q.id.fn = 0) (known : wordField q.cdw10 3 3 ≤ 2)
    (runs : wordField q.cdw10 0 3 = if s.bit Reg.secStatus 1 then 2 else 1) :
    (s.fwCommit q g).statusOf q.id = some 0x106 ∧ (s.fwCommit q g).sec = s.sec := by
  have slot : (if wordField q.cdw10 0 3 = 0 then 3 - (if s.bit Reg.secStatus 1 = true then 2 else 1) else wordField q.cdw10 0 3) =
      if s.bit Reg.secStatus 1 = true then 2 else 1 := by
    rw [runs]
    split <;> rfl
  unfold State.fwCommit
  rw [State.adminCmd_of_takes takes (.inr pf)]
  dsimp only
  rw [State.bit_secStatus_fetched, slot, if_neg (by omega), if_pos (.inl rfl)]
  exact ⟨State.statusOf_finish_fetched takes rfl .., by simp⟩

/-- A downloaded image that the ROM accepts goes into the other slot, which action 1 prefers (R430). -/
theorem State.fwCommit_stores (g : List Byte) (pf : q.id.fn = 0) (act : wordField q.cdw10 3 3 ≤ 1) (other : wordField q.cdw10 0 3 = 0) :
    (s.fwCommit q g).statusOf q.id = some (if s.slotOk (readSlotImage (s.downloaded g)) then
        (if wordField q.cdw10 3 3 = 0 then 0 else 0x10B) else 0x107) ∧
    (s.fwCommit q g).sec.slotA = (if s.slotOk (readSlotImage (s.downloaded g)) && s.bit Reg.secStatus 1
      then some (readSlotImage (s.downloaded g)) else s.sec.slotA) ∧
    (s.fwCommit q g).sec.slotB = (if s.slotOk (readSlotImage (s.downloaded g)) && !s.bit Reg.secStatus 1
      then some (readSlotImage (s.downloaded g)) else s.sec.slotB) ∧
    (s.fwCommit q g).sec.preferB = (if s.slotOk (readSlotImage (s.downloaded g)) && wordField q.cdw10 3 3 == 1
      then !s.bit Reg.secStatus 1 else s.sec.preferB) := by
  have ends (t : State) (cmds : t.cmds = (s.fetched q true).cmds) (status : Nat) : (t.finish q.id status).statusOf q.id = some status :=
    State.statusOf_finish_fetched takes cmds ..
  unfold State.fwCommit
  rw [State.adminCmd_of_takes takes (.inr pf)]
  dsimp only
  rw [State.bit_secStatus_fetched, other, if_pos rfl, if_neg (by omega), State.downloaded_fetched]
  have download : wordField q.cdw10 3 3 ≠ 2 := by omega
  have slots (b : Bool) : 3 - (if b = true then 2 else 1) = if b = true then 1 else 2 := by cases b <;> rfl
  cases ok : s.slotOk (readSlotImage (s.downloaded g)) <;> cases runs : s.bit Reg.secStatus 1 <;>
    rcases Nat.le_one_iff_eq_zero_or_eq_one.mp act with zero | one <;>
    simp_all [State.slotOk_fetched]

end

end

/-- Settles O18: each clause is what its command does with its entry. -/
theorem featureCommands : Obligations.FeatureCommands := by
  unfold Obligations.FeatureCommands
  refine ⟨fun s q d k live takes asked listed h7 h8 h9 h14 current good => ?_, fun s q d live takes listed save => ?_,
    fun s q k live takes asked listed h7 h8 h9 h14 => ?_, fun s q live takes own => ?_, fun s q live takes none_ => ?_,
    fun s q k l live takes pf one most sel vf le found => ?_, fun s q b live takes pf => ?_, fun s q b live takes vf => ?_,
    fun s q g live takes pf unknown => ?_, fun s q g live takes pf known runs => ?_, fun s q g live takes pf act other => ?_,
    fun s q g live takes vf => ?_⟩
  · exact ⟨_, congrArg Host.Outcome.next (s.whenLive_live _ live),
      State.setFeature_stores (q := q.as 9) takes d asked listed h7 h8 h9 h14 current good⟩
  · exact ⟨_, congrArg Host.Outcome.next (s.whenLive_live _ live), State.setFeature_of_save (q := q.as 9) takes d listed save⟩
  · exact ⟨_, congrArg Host.Outcome.next (s.whenLive_live _ live),
      State.getFeature_returns (q := q.as 0x0A) takes asked listed h7 h8 h9 h14⟩
  · exact ⟨_, congrArg Host.Outcome.next (s.whenLive_live _ live), State.contractQuery_own (q := q.as 0xC2) takes own⟩
  · exact ⟨_, congrArg Host.Outcome.next (s.whenLive_live _ live), State.meterRead_of_none (q := q.as 0xC6) takes none_⟩
  · exact ⟨_, congrArg Host.Outcome.next (s.whenLive_live _ live),
      State.meterRead_returns (q := q.as 0xC6) takes pf one most sel vf le found⟩
  · exact ⟨_, congrArg Host.Outcome.next (s.whenLive_live _ live), State.fwDownload_stores (q := q.as 0x11) takes b pf⟩
  · exact ⟨_, congrArg Host.Outcome.next (s.whenLive_live _ live), State.fwDownload_of_vf (q := q.as 0x11) takes b vf⟩
  · exact ⟨_, congrArg Host.Outcome.next (s.whenLive_live _ live), State.fwCommit_of_unknown (q := q.as 0x10) takes g pf unknown⟩
  · exact ⟨_, congrArg Host.Outcome.next (s.whenLive_live _ live), State.fwCommit_of_running (q := q.as 0x10) takes g pf known runs⟩
  · exact ⟨_, congrArg Host.Outcome.next (s.whenLive_live _ live), State.fwCommit_stores (q := q.as 0x10) takes g pf act other⟩
  · exact ⟨_, congrArg Host.Outcome.next (s.whenLive_live _ live), State.fwCommit_of_vf (q := q.as 0x10) takes g vf⟩

end Sys2Proof.Machine
end

section
/-! SUPPORT. Flush, Read, Write, Compare, Verify, Write Zeroes, Dataset Management and Copy (O19). -/
set_option linter.unusedSimpArgs false
namespace Sys2Proof.Machine

@[simp] theorem State.hpt_tryFill (s : State) (x : Cmd) : (s.tryFill x).hpt = s.hpt :=
  hpt_of_without (s.tryFill_without x (List.Subset.refl _)) (by simp)


/-- The state in which an I/O command's entry has been taken and the length of its list is noted. -/
def State.entered (s : State) (q : Sqe) : State :=
  (s.fetched q false).updCmd q.id fun x => { x with lists := (q.list + 4095) / 4096 }

/-- The command that an I/O entry has become. -/
def State.enteredCmd (s : State) (q : Sqe) : Cmd := { s.freshCmd q false with lists := (q.list + 4095) / 4096 }

section
variable (s : State) (q : Sqe)

@[simp] theorem State.ftb_entered : (s.entered q).ftb = s.ftb := s.ftb_fetched q false
@[simp] theorem State.prx_entered : (s.entered q).prx = s.prx := s.prx_fetched q false
@[simp] theorem State.mch_entered : (s.entered q).mch = s.mch := s.mch_fetched q false
@[simp] theorem State.wrp_entered : (s.entered q).wrp = s.wrp := s.wrp_fetched q false
@[simp] theorem State.nss_entered : (s.entered q).nss = s.nss := s.nss_fetched q false
@[simp] theorem State.mlk_entered : (s.entered q).mlk = s.mlk := s.mlk_fetched q false
@[simp] theorem State.pwr_entered : (s.entered q).pwr = s.pwr := s.pwr_fetched q false
@[simp] theorem State.keys_entered : (s.entered q).keys = s.keys := s.keys_fetched q false
@[simp] theorem State.reg_of_entered (r : Nat) (h : r ∉ fetchRegs) : (s.entered q).reg r = s.reg r := s.reg_of_fetched q false r h
@[simp] theorem State.ns_entered (n : Nat) : (s.entered q).ns n = s.ns n := by simp [State.ns]
@[simp] theorem State.frame_entered : (s.entered q).frame = s.frame := by simp [State.frame]

theorem mchChStatus_not_fetched (ch : Nat) : Reg.mchChStatus ch ∉ fetchRegs := by
  have low : ∀ r ∈ fetchRegs, r < 0x600000 := by decide
  intro mem
  have lt := low _ mem
  unfold Reg.mchChStatus at lt
  omega

@[simp] theorem State.ns_fetched (a : Bool) (n : Nat) : (s.fetched q a).ns n = s.ns n := by simp [State.ns]

theorem State.readOnlyNs_entered (n : Nat) : (s.entered q).readOnlyNs n = s.readOnlyNs n := by simp +decide [State.readOnlyNs]

variable {s q} (takes : s.takes q false = true)
include takes

theorem State.cmd?_entered : (s.entered q).cmd? q.id = some (s.enteredCmd q) :=
  State.cmd?_updCmd_same (State.cmd?_fetched_own takes) fun _ => rfl

theorem State.cmds_entered : (s.entered q).cmds = s.cmds ++ [s.enteredCmd q] := by
  obtain ⟨-, -, -, free, -⟩ := State.takes_iff.mp takes
  have other : ∀ x ∈ s.cmds, (if x.id == q.id then { x with lists := (q.list + 4095) / 4096 } else x) = x := fun x mem => by
    have ne := List.find?_eq_none.mp free x mem
    exact if_neg ne
  unfold State.entered State.updCmd
  dsimp only
  rw [State.cmds_fetched takes, List.map_append, List.map_congr_left other, List.map_id']
  simp [State.enteredCmd, State.freshCmd]

/-- A new command has been charged nothing and has no data of its own yet. -/
theorem State.comingIus_entered (n : Nat) : (s.entered q).comingIus n = s.comingIus n := by
  unfold State.comingIus
  dsimp only
  rw [State.cmds_entered takes, List.filter_append]
  simp [State.enteredCmd, State.freshCmd]

theorem State.writeFailure_entered (f n : Nat) (units ius : List Nat) (dealloc : Bool) :
    (s.entered q).writeFailure f n units ius dealloc = s.writeFailure f n units ius dealloc := by
  have lane (u : Nat) : (s.entered q).homeLane n u = s.homeLane n u := by
    have populated (l : Nat) : (s.entered q).populatedLane l = s.populatedLane l := by
      simp only [State.populatedLane, State.channelMask, State.diesPerCh, State.pwr_entered] <;> rfl
    have plain (l : Nat) : (s.entered q).plainOf l = s.plainOf l := by simp [State.plainOf]
    have lanes : (s.entered q).popLanes = s.popLanes := List.filter_congr fun l _ => populated l
    simp only [State.homeLane, lanes, plain, State.ns_entered, State.pwr_entered]
  have state (ch : Nat) : (s.entered q).chState ch = s.chState ch := by
    simp only [State.chState, State.field_eq]
    rw [State.reg_of_entered _ _ _ (mchChStatus_not_fetched ch)]
  have fault : (s.entered q).homeFault n units = s.homeFault n units := by
    simp only [State.homeFault, List.map_congr_left fun u _ => lane u, State.dieUsable, State.chUp, state, State.die, State.mch_entered]
  have mapped (k : Nat) : (s.entered q).mappedIus k = s.mappedIus k := by simp [State.mappedIus]
  have quota : (s.entered q).overQuota f n ius = s.overQuota f n ius := by
    simp [State.overQuota, mapped, State.comingIus_entered takes, State.mappedUnits, State.attachedTo]
  simp only [State.writeFailure, State.readOnlyNs_entered, fault, quota, State.keys_entered]

/-- An I/O command that its gate lets through is served in the state in which its entry has been taken. -/
theorem State.ioCmd_of_gate {i : Instr} (attached : s.nsOpen q.id.fn q.nsid = true) (calm : (s.ns q.nsid).erasing = false)
    (admitting : s.admitting = true) (room : s.wrp.tail.length + journalNeed i ≤ tailLimit) (f : State → State) :
    s.ioCmd q i f = f (s.entered q) := by
  have attached' : (s.entered q).nsOpen q.id.fn q.nsid = true := by simpa [State.nsOpen] using attached
  have admitting' : (s.entered q).admitting = true := by simpa +decide [State.admitting, State.prxState] using admitting
  unfold State.ioCmd
  rw [State.fetchCmd_of_takes takes]
  show (s.entered q).ioGate q i false f = _
  unfold State.ioGate
  rw [if_neg (by simp [attached']), State.ns_entered, if_neg (ne_true_of_eq_false calm), if_neg (not_not_intro admitting'),
    State.wrp_entered, if_neg (Nat.not_lt.mpr room)]

theorem State.ioCmd_of_admits {i : Instr} (op : Nat) (j : Instr) (admits : s.admits q i = true) (need : journalNeed j = journalNeed i)
    (f : State → State) : s.ioCmd (q.as op) j f = f (s.entered (q.as op)) := by
  simp only [State.admits, Bool.and_eq_true, Bool.not_eq_true', decide_eq_true_eq] at admits
  obtain ⟨⟨⟨attached, calm⟩, admitting⟩, room⟩ := admits
  exact State.ioCmd_of_gate (q := q.as op) takes attached calm admitting (by rw [need]; exact room) f

end

/-! ## What serving a command leaves of it -/

/-- What a command asks for, and whether it has been charged. -/
def Cmd.asked (x : Cmd) : Nat × Nat × Bool := (x.lba, x.nlb, x.charged)

section
variable {s : State} {q : Sqe}

theorem Cmd.asked_meet (x : Cmd) (cause : Nat) : (x.meet cause).asked = x.asked := by
  unfold Cmd.meet
  split <;> rfl

theorem Cmd.status_meet (x : Cmd) (cause : Nat) : (x.meet cause).status = x.status := by
  unfold Cmd.meet
  split <;> rfl

theorem Cmd.asked_ended (x : Cmd) (status : Nat) (dw0 : Word) (dnr : Bool) : (x.ended status dw0 dnr).asked = x.asked := by
  unfold Cmd.ended
  split <;> rfl

/-- What stays of a command whose data is asked for: all but how its data stands. -/
def Cmd.standing (x : Cmd) : (Nat × Nat × Bool) × Option Nat := (x.asked, x.status)

theorem Cmd.standing_meet (x : Cmd) (cause : Nat) : (x.meet cause).standing = x.standing := by
  rw [Cmd.standing, Cmd.asked_meet, Cmd.status_meet]
  rfl

theorem State.sameBy_tryFill (x : Cmd) : State.SameBy Cmd.standing s (s.tryFill x) := by
  unfold State.tryFill
  refine .ite ?_ (.ite (.updCmd _ _ (fun _ => rfl) fun _ => rfl) (.ite ?_ ?_))
  · have counted : State.SameBy Cmd.standing s (if x.waited = true then s else s.inc Reg.wrpStageWaitCnt) := .ite (.of_cmds rfl) (.of_cmds rfl)
    refine counted.trans ?_
    extract_lets t u
    have held : State.SameBy Cmd.standing t u := .updCmd _ x.id (fun y => by split <;> simp [Cmd.id_meet]) fun y => by
      split
      · exact Cmd.standing_meet ..
      · rfl
    exact held.trans (.of_cmds (by simp [State.when]; split <;> simp))
  · have counted : State.SameBy Cmd.standing s (if x.throttled = true then s else s.inc Reg.mcrBeThrottleCnt) :=
      .ite (.of_cmds rfl) (.of_cmds rfl)
    exact counted.trans (.updCmd _ _ (fun _ => rfl) fun _ => rfl)
  · unfold State.beginFill
    extract_lets n parts w wid k t m
    have added : State.SameBy Cmd.standing s (s.addWrite w) := .of_cmds (cmds_of_without (s.addWrite_without w (List.Subset.refl _)) (by simp))
    have filled : State.SameBy Cmd.standing s t := added.trans (.updCmd _ _ (fun _ => rfl) fun _ => rfl)
    exact .ite (.ite (filled.trans (.of_cmds rfl)) (filled.trans (.of_cmds rfl))) filled

theorem State.SameBy.found {α : Type} {p : Cmd → α} {s t : State} (h : State.SameBy p s t) {c : CmdId} {x : Cmd} (found : s.cmd? c = some x) :
    ∃ y, t.cmd? c = some y ∧ p y = p x := by
  have same := h c
  rw [found, Option.map_some] at same
  exact Option.map_eq_some_iff.mp same

theorem State.sameBy_fillNow (c : CmdId) : State.SameBy Cmd.standing s (s.fillNow c) := by
  unfold State.fillNow
  split
  · exact State.sameBy_tryFill _
  · exact .of_cmds rfl

@[simp] theorem State.hpt_fillNow (s : State) (c : CmdId) : (s.fillNow c).hpt = s.hpt := by
  unfold State.fillNow
  split <;> simp

/-- A charge notes that the command has been charged, and changes neither its range nor its status. -/
theorem State.cmd?_chargeWriteCmd {c : CmdId} {x : Cmd} (found : s.cmd? c = some x) (nsid lba nlb count : Nat) :
    ∃ y, (s.chargeWriteCmd c nsid lba nlb count).cmd? c = some y ∧ y.standing = ((x.lba, x.nlb, true), x.status) := by
  have charged : (s.updCmd c fun z => { z with charged := true, chargedF := s.frame }).cmd? c =
      some { x with charged := true, chargedF := s.frame } := State.cmd?_updCmd_same found fun _ => rfl
  have rest : State.SameBy Cmd.standing (s.updCmd c fun z => { z with charged := true, chargedF := s.frame })
      (s.chargeWriteCmd c nsid lba nlb count) := by
    unfold State.chargeWriteCmd
    dsimp only
    split
    · exact .of_cmds rfl
    · split
      · exact .of_cmds rfl
      · refine .ite ?_ (.of_cmds rfl)
        split
        · exact .updCmd _ c (fun _ => rfl) fun _ => rfl
        · exact .of_cmds rfl
  exact rest.found charged

theorem State.sameBy_settle : State.SameBy Cmd.asked s s.settle := by
  have meets (t : State) (c : CmdId) (cause : Nat) : State.SameBy Cmd.asked t (t.meet c cause) :=
    .updCmd t c (fun x => x.id_meet cause) fun x => x.asked_meet cause
  have held (t : State) : State.SameBy Cmd.asked t t.noteHeld := by
    unfold State.noteHeld
    refine State.sameBy_foldl (fun u w => ?_) _ _
    split
    · exact meets _ _ _
    · exact .of_cmds rfl
  have withheld (t : State) : State.SameBy Cmd.asked t t.noteWithheld := by
    unfold State.noteWithheld
    refine .ite (.of_cmds rfl) ?_
    extract_lets held cs u v
    have counted : State.SameBy Cmd.asked t v :=
      State.SameBy.trans (t := u) (.of_cmds rfl)
        (State.sameBy_foldl (h := fun u (w : SWrite) => u.updWrite w.wid fun x => { x with withheld := true }) (fun u w => .of_cmds rfl) _ _)
    refine counted.trans (State.sameBy_foldl (fun u w => ?_) _ _)
    split
    · exact meets _ _ _
    · exact .of_cmds rfl
  unfold State.settle
  extract_lets s1 ready late t1 t2 acks t3 writes t4 done
  have h1 : State.SameBy Cmd.asked s s1 :=
    ((State.SameBy.of_cmds (cmds_of_without (s.showMacked_without (List.Subset.refl _)) (by simp))).trans (held _)).trans (withheld _)
  have h2 : State.SameBy Cmd.asked s1 t2 := by
    refine State.SameBy.trans (t := t1) (.of_cmds rfl) ?_
    exact State.sameBy_foldl (h := fun u (w : SWrite) => u.updWrite w.wid fun x => { x with state := .acked }) (fun u w => .of_cmds rfl) _ _
  have h3 : State.SameBy Cmd.asked t2 t3 := by
    refine State.sameBy_foldl (fun u w => ?_) _ _
    extract_lets v
    have sent : State.SameBy Cmd.asked u v := .of_cmds rfl
    split
    · exact sent.trans (.of_cmds (cmds_of_without (v.send_without _ (List.Subset.refl _)) (by simp)))
    · exact sent
  have h4 : State.SameBy Cmd.asked t3 (done.foldl (fun t c => t.finish c 0) t4) :=
    State.SameBy.trans (t := t4) (.of_cmds rfl)
      (State.sameBy_foldl (fun u c => .updCmd u c (fun x => x.id_ended 0 0 false) fun x => x.asked_ended 0 0 false) _ _)
  exact (h1.trans (h2.trans (h3.trans h4))).trans (.of_cmds (cmds_of_without (State.release_without _ (List.Subset.refl _)) (by simp)))

theorem State.sameBy_mapChange (c : CmdId) (nsid first count action : Nat) :
    State.SameBy Cmd.asked s (s.mapChange c nsid first count action) := by
  unfold State.mapChange
  refine .ite (.of_cmds rfl) ?_
  extract_lets n t u
  have run : State.SameBy Cmd.asked s t :=
    .ite (.of_cmds (cmds_of_without (s.unmapRun_without _ _ _ _ (List.Subset.refl _)) (by simp)))
      (.of_cmds (cmds_of_without (s.zeroRun_without _ _ _ _ (List.Subset.refl _)) (by simp)))
  have noted : State.SameBy Cmd.asked s u := run.trans (.updCmd _ _ (fun _ => rfl) fun _ => rfl)
  exact .ite (noted.trans (.of_cmds (cmds_of_without (State.mirror_without _ _ _ _ _ (List.Subset.refl _)) (by simp)))) noted

end

/-- A deallocation that stages no unit fails on a READ_ONLY chip alone. -/
theorem State.writeFailure_of_none {s : State} {n : Nat} (writable : s.readOnlyNs n = false) (fn : Nat) :
    s.writeFailure fn n [] [] true = none := by
  have quota : s.overQuota fn n [] = false := by
    unfold State.overQuota
    split
    · simp only [List.any_nil, Bool.and_false, Bool.false_and]
    · rfl
  unfold State.writeFailure
  rw [writable, quota]
  simp [State.homeFault]

/-! ## The commands -/

section
variable {s : State} {q : Sqe} (takes : s.takes q false = true)
include takes

theorem State.flushCmd_ends (attached : s.nsOpen q.id.fn q.nsid = true) : (s.flushCmd q).statusOf q.id = some 0 := by
  have attached' : (s.fetched q false).nsOpen q.id.fn q.nsid = true := by simpa [State.nsOpen] using attached
  unfold State.flushCmd
  rw [State.fetchCmd_of_takes takes, if_pos (.inr attached')]
  exact State.statusOf_finish_fetched takes rfl ..

theorem State.flushCmd_refuses (one : q.nsid ≠ allNs) (detached : s.nsOpen q.id.fn q.nsid = false) :
    (s.flushCmd q).statusOf q.id = some 0x0B := by
  have detached' : (s.fetched q false).nsOpen q.id.fn q.nsid = false := by simpa [State.nsOpen] using detached
  unfold State.flushCmd
  rw [State.fetchCmd_of_takes takes, if_neg (by simp [one, detached'])]
  exact State.statusOf_finish_fetched takes rfl ..

/-- The end of a command in the state in which its entry has been taken. -/
theorem State.entered_ends {t : State} (cmds : t.cmds = (s.entered q).cmds) (status : Nat) :
    (t.finish q.id status).statusOf q.id = some status :=
  State.statusOf_finish ((State.cmd?_of_cmds cmds _).trans (State.cmd?_entered takes)) rfl ..

/-- Its range is noted with the command. -/
theorem State.cmd?_noteRange (lba nlb : Nat) : ((s.entered q).noteRange q lba nlb).cmd? q.id =
    some { s.enteredCmd q with first := ((s.ns q.nsid).cover lba nlb).1, count := ((s.ns q.nsid).cover lba nlb).2, lba := lba, nlb := nlb } := by
  unfold State.noteRange
  rw [State.ns_entered]
  exact State.cmd?_updCmd_same (State.cmd?_entered takes) fun _ => rfl

theorem State.serveRead_serves {data : Bool} (equal : Bool) (range : (s.ns q.nsid).rangeFailure q.slba q.nlb data = none)
    (prp : (if data then prpFailure q else none) = none) :
    (((s.entered q).serveRead q data equal).cmd? q.id).map (fun x => (x.lba, x.nlb, x.equal, x.status)) = some (q.slba, q.nlb, equal, none) ∧
      (q.opcode = 0x02 → ((s.entered q).serveRead q data equal).hpt.rwAt = s.frame) := by
  have noted := State.cmd?_noteRange takes q.slba q.nlb
  have served := State.cmd?_updCmd_same (f := fun x => { x with equal := equal }) noted fun _ => rfl
  unfold State.serveRead
  dsimp only
  rw [State.ns_entered, range, prp]
  dsimp only
  split_ifs with compare read
  · refine ⟨?_, fun e => by omega⟩
    rw [State.cmd?_updCmd_same (f := fun x => { x with toFetch := x.count }) served fun _ => rfl]
    rfl
  · refine ⟨?_, fun _ => ?_⟩
    · exact (congrArg (Option.map _) served).trans rfl
    · show ((s.entered q).noteRange q q.slba q.nlb).frame = s.frame
      exact s.frame_entered q
  · exact ⟨by rw [served]; rfl, fun e => absurd e read⟩

theorem State.serveRead_refuses {data : Bool} (equal : Bool) {e : Nat} (range : (s.ns q.nsid).rangeFailure q.slba q.nlb data = some e) :
    ((s.entered q).serveRead q data equal).statusOf q.id = some e := by
  unfold State.serveRead
  dsimp only
  rw [State.ns_entered, range]
  exact State.entered_ends takes rfl e

theorem State.serveWrite_refuses {e : Nat} (range : (s.ns q.nsid).rangeFailure q.slba q.nlb true = some e) :
    ((s.entered q).serveWrite q).statusOf q.id = some e := by
  unfold State.serveWrite
  dsimp only
  rw [State.ns_entered, range]
  exact State.entered_ends takes rfl e

theorem State.serveWrite_serves (range : (s.ns q.nsid).rangeFailure q.slba q.nlb true = none) (prp : prpFailure q = none)
    (may : s.writeFailure q.id.fn q.nsid ((List.range ((s.ns q.nsid).cover q.slba q.nlb).2).map (((s.ns q.nsid).cover q.slba q.nlb).1 + ·))
      (((List.range ((s.ns q.nsid).cover q.slba q.nlb).2).map (((s.ns q.nsid).cover q.slba q.nlb).1 + ·)).map (· / (s.ns q.nsid).parts))
      false = none) :
    (((s.entered q).serveWrite q).cmd? q.id).map (fun x => (x.lba, x.nlb, x.charged, x.status)) = some (q.slba, q.nlb, true, none) ∧
      ((s.entered q).serveWrite q).hpt.rwAt = s.frame := by
  unfold State.serveWrite
  dsimp only
  rw [State.ns_entered, State.writeFailure_entered takes, range, prp, may]
  dsimp only
  obtain ⟨x, charged, standing⟩ := State.cmd?_chargeWriteCmd (State.cmd?_noteRange takes q.slba q.nlb) q.nsid q.slba q.nlb
    ((s.ns q.nsid).cover q.slba q.nlb).2
  have clock : (((s.entered q).noteRange q q.slba q.nlb).chargeWriteCmd q.id q.nsid q.slba q.nlb
      ((s.ns q.nsid).cover q.slba q.nlb).2).frame = s.frame :=
    (congrArg BitVec.toNat (frame_of_without (State.chargeWriteCmd_without _ _ _ _ _ _ (List.Subset.refl _)) (by simp))).trans
      (s.frame_entered q)
  generalize ((s.entered q).noteRange q q.slba q.nlb).chargeWriteCmd q.id q.nsid q.slba q.nlb ((s.ns q.nsid).cover q.slba q.nlb).2 = u at *
  refine ⟨?_, by rw [State.hpt_fillNow]; exact clock⟩
  obtain ⟨y, found, same⟩ := (State.sameBy_fillNow (s := { u with hpt := { u.hpt with rwAt := u.frame } }) q.id).found charged
  have all := same.trans standing
  simp only [Cmd.standing, Cmd.asked, Prod.mk.injEq] at all
  obtain ⟨⟨lba, nlb, charged⟩, status⟩ := all
  rw [found, Option.map_some, lba, nlb, charged, status]
  rfl

theorem State.serveZeroes_refuses {e : Nat} (range : (s.ns q.nsid).rangeFailure q.slba q.nlb false = some e) :
    ((s.entered q).serveZeroes q).statusOf q.id = some e := by
  unfold State.serveZeroes
  rw [State.ns_entered, range]
  exact State.entered_ends takes rfl e

theorem State.serveZeroes_readOnly (range : (s.ns q.nsid).rangeFailure q.slba q.nlb false = none) (readOnly : s.readOnlyNs q.nsid = true) :
    ((s.entered q).serveZeroes q).statusOf q.id = some 0x20 ∧ ((s.entered q).serveZeroes q).wrp = s.wrp := by
  have refused (fn : Nat) (units ius : List Nat) (dealloc : Bool) :
      ((s.entered q).noteRange q q.slba q.nlb).writeFailure fn q.nsid units ius dealloc = some 0x20 :=
    if_pos ((s.readOnlyNs_entered q q.nsid).trans readOnly)
  unfold State.serveZeroes
  rw [State.ns_entered, range]
  show (State.zeroRanges _ _ _ _).statusOf q.id = _ ∧ (State.zeroRanges _ _ _ _).wrp = _
  unfold State.zeroRanges
  dsimp only
  rw [refused]
  exact ⟨State.statusOf_finish (State.cmd?_noteRange takes ..) rfl .., s.wrp_entered q⟩

omit takes in
/-- A deallocation of whole units changes the map, is charged, and may let writes complete. -/
theorem State.zeroRanges_whole (s : State) (q : Sqe) (lba nlb : Nat) (writable : s.readOnlyNs q.nsid = false)
    (whole : ((s.ns q.nsid).zeroParts lba nlb).2 = []) : s.zeroRanges q [(lba, nlb)] 1 =
      (((s.mapChange q.id q.nsid ((s.ns q.nsid).zeroParts lba nlb).1.1 ((s.ns q.nsid).zeroParts lba nlb).1.2 1).updCmd q.id
        fun x => { x with zeros := [], charged := true })).settle := by
  have none_ : ([(lba, nlb)].map fun r => (s.ns q.nsid).zeroParts r.1 r.2).flatMap (fun p => p.2) = [] := by simp [whole]
  unfold State.zeroRanges
  dsimp only
  rw [none_, List.eraseDups_nil, if_neg (by decide), List.map_nil, List.append_nil, beq_self_eq_true, State.writeFailure_of_none writable]
  rfl

theorem State.serveZeroes_deallocates (range : (s.ns q.nsid).rangeFailure q.slba q.nlb false = none) (writable : s.readOnlyNs q.nsid = false)
    (deac : q.cdw12.getLsbD 25 = true) (whole : ((s.ns q.nsid).zeroParts q.slba q.nlb).2 = []) :
    (((s.entered q).serveZeroes q).cmd? q.id).map (fun x => (x.lba, x.nlb, x.charged)) = some (q.slba, q.nlb, true) := by
  have noted := State.cmd?_noteRange takes q.slba q.nlb
  have ns : ((s.entered q).noteRange q q.slba q.nlb).ns q.nsid = s.ns q.nsid := s.ns_entered q q.nsid
  have writable' : ((s.entered q).noteRange q q.slba q.nlb).readOnlyNs q.nsid = false := (s.readOnlyNs_entered q q.nsid).trans writable
  unfold State.serveZeroes
  rw [State.ns_entered, range, deac, Option.elim_none, if_pos rfl, State.zeroRanges_whole _ q q.slba q.nlb writable' (by rw [ns, whole])]
  generalize (s.entered q).noteRange q q.slba q.nlb = u at *
  obtain ⟨x, found, same⟩ := (State.sameBy_mapChange (s := u) q.id q.nsid
    ((u.ns q.nsid).zeroParts q.slba q.nlb).1.1 ((u.ns q.nsid).zeroParts q.slba q.nlb).1.2 1).found noted
  obtain ⟨y, ends, same'⟩ := State.sameBy_settle.found
    (State.cmd?_updCmd_same (f := fun x => { x with zeros := [], charged := true }) found fun _ => rfl)
  rw [ends]
  simp only [Cmd.asked, Prod.mk.injEq] at same same'
  obtain ⟨lba, nlb, -⟩ := same
  obtain ⟨lba', nlb', charged⟩ := same'
  rw [Option.map_some, lba', nlb', charged, lba, nlb]

theorem State.serveDsm_ends {r : List (Nat × Nat)} (prp : prpFailure q = none)
    (inside : (r.any fun e => decide ((s.ns q.nsid).nsze < e.1 + e.2)) = false) (keep : q.cdw11.getLsbD 2 = false) :
    ((s.entered q).serveDsm q r).statusOf q.id = some 0 ∧ ((s.entered q).serveDsm q r).wrp = s.wrp := by
  unfold State.serveDsm
  dsimp only
  rw [prp]
  dsimp only
  rw [State.ns_entered, if_neg (ne_true_of_eq_false inside), if_neg (ne_true_of_eq_false keep)]
  exact ⟨State.entered_ends takes rfl 0, s.wrp_entered q⟩

theorem State.serveDsm_refuses {r : List (Nat × Nat)} (prp : prpFailure q = none)
    (outside : (r.any fun e => decide ((s.ns q.nsid).nsze < e.1 + e.2)) = true) : ((s.entered q).serveDsm q r).statusOf q.id = some 0x80 := by
  unfold State.serveDsm
  dsimp only
  rw [prp]
  dsimp only
  rw [State.ns_entered, if_pos outside]
  exact State.entered_ends takes rfl _

theorem State.serveCopy_refuses {r : List (Nat × Nat)} (prp : prpFailure q = none)
    (beyond : 128 < r.length ∨ (r.any fun e => decide (512 < e.2)) = true ∨ 4096 < (r.map (·.2)).sum) :
    ((s.entered q).serveCopy q r).statusOf q.id = some 0x183 := by
  unfold State.serveCopy
  dsimp only
  rw [prp]
  dsimp only
  rw [if_pos beyond]
  exact State.entered_ends takes rfl _

theorem State.serveCopy_serves {r : List (Nat × Nat)} (prp : prpFailure q = none) (few : r.length ≤ 128)
    (short : (r.any fun e => decide (512 < e.2)) = false) (total : (r.map (·.2)).sum ≤ 4096)
    (target : q.slba + (r.map (·.2)).sum ≤ (s.ns q.nsid).nsze) (inside : (r.any fun e => decide ((s.ns q.nsid).nsze < e.1 + e.2)) = false)
    (may : s.writeFailure q.id.fn q.nsid ((List.range ((s.ns q.nsid).cover q.slba (r.map (·.2)).sum).2).map
        (((s.ns q.nsid).cover q.slba (r.map (·.2)).sum).1 + ·))
      (((List.range ((s.ns q.nsid).cover q.slba (r.map (·.2)).sum).2).map
        (((s.ns q.nsid).cover q.slba (r.map (·.2)).sum).1 + ·)).map (· / (s.ns q.nsid).parts)) false = none) :
    (((s.entered q).serveCopy q r).cmd? q.id).map (fun x => (x.ranges, x.status)) =
      some (r.map (fun e => (s.ns q.nsid).cover e.1 e.2), none) := by
  have within : ¬ (128 < r.length ∨ (r.any fun e => decide (512 < e.2)) = true ∨ 4096 < (r.map (·.2)).sum) := by
    rw [short]
    simp only [Bool.false_eq_true, false_or]
    omega
  have within' : ¬ ((s.ns q.nsid).nsze < q.slba + (r.map (·.2)).sum ∨ (r.any fun e => decide ((s.ns q.nsid).nsze < e.1 + e.2)) = true) := by
    rw [inside]
    simp only [Bool.false_eq_true, or_false]
    omega
  unfold State.serveCopy
  dsimp only
  rw [prp]
  dsimp only
  rw [if_neg within, State.ns_entered, if_neg within', State.writeFailure_entered takes, may]
  dsimp only
  rw [State.cmd?_updCmd_same (f := fun x => { x with ranges := r.map fun r => (s.ns q.nsid).cover r.1 r.2 })
    (State.cmd?_noteRange takes q.slba (r.map (·.2)).sum) fun _ => rfl]
  rfl

end

theorem next_whenLive {s t : State} {f : State → State} (live : s.live = true) (e : f s = t) :
    (Host.Outcome.next (s.whenLive f) : Result) = Host.Outcome.next t := by rw [s.whenLive_live _ live, e]

/-- Settles O19: each clause is what its command does once its gate has let it through. -/
theorem ioCommands : Obligations.IoCommands := by
  unfold Obligations.IoCommands
  refine ⟨fun s q live takes attached => ?_, fun s q live takes one detached => ?_, fun s q live takes admits range prp => ?_,
    fun s q e live takes admits range => ?_, fun s q b live takes admits range prp => ?_, fun s q live takes admits range => ?_,
    fun s q e live takes admits range => ?_, fun s q live takes admits range prp may => ?_, fun s q e live takes admits range => ?_,
    fun s q live takes admits range readOnly => ?_, fun s q live takes admits range writable deac whole => ?_,
    fun s q r live takes admits prp inside keep => ?_, fun s q r live takes admits prp outside => ?_,
    fun s q r live takes admits prp beyond => ?_, fun s q r live takes admits prp few short total target inside may => ?_⟩
  · exact ⟨_, next_whenLive live rfl, State.flushCmd_ends (q := q.as 0) takes attached⟩
  · exact ⟨_, next_whenLive live rfl, State.flushCmd_refuses (q := q.as 0) takes one detached⟩
  · have served := State.serveRead_serves (q := q.as 2) (data := true) takes true range prp
    refine ⟨_, next_whenLive live (State.ioCmd_of_admits takes 2 (.read (q.as 2)) admits rfl _), ?_, served.2 rfl⟩
    obtain ⟨x, found, parts⟩ := Option.map_eq_some_iff.mp served.1
    simp only [Prod.mk.injEq] at parts
    obtain ⟨lba, nlb, -, status⟩ := parts
    exact Option.map_eq_some_iff.mpr ⟨x, found, by rw [lba, nlb, status]; rfl⟩
  · exact ⟨_, next_whenLive live (State.ioCmd_of_admits takes 2 (.read (q.as 2)) admits rfl _),
      State.serveRead_refuses (q := q.as 2) (data := true) takes true range⟩
  · exact ⟨_, next_whenLive live (State.ioCmd_of_admits takes 5 (.compare (q.as 5) b) admits rfl _),
      (State.serveRead_serves (q := q.as 5) (data := true) takes b range prp).1⟩
  · have served := State.serveRead_serves (q := q.as 0x0C) (data := false) takes true range rfl
    refine ⟨_, next_whenLive live (State.ioCmd_of_admits takes 0x0C (.verify (q.as 0x0C)) admits rfl _), ?_⟩
    obtain ⟨x, found, parts⟩ := Option.map_eq_some_iff.mp served.1
    simp only [Prod.mk.injEq] at parts
    obtain ⟨lba, nlb, -, status⟩ := parts
    exact Option.map_eq_some_iff.mpr ⟨x, found, by rw [lba, nlb, status]; rfl⟩
  · exact ⟨_, next_whenLive live (State.ioCmd_of_admits takes 1 (.write (q.as 1)) admits rfl _), State.serveWrite_refuses (q := q.as 1) takes range⟩
  · exact ⟨_, next_whenLive live (State.ioCmd_of_admits takes 1 (.write (q.as 1)) admits rfl _), State.serveWrite_serves (q := q.as 1) takes range prp may⟩
  · exact ⟨_, next_whenLive live (State.ioCmd_of_admits takes 8 (.writeZeroes (q.as 8)) admits rfl _), State.serveZeroes_refuses (q := q.as 8) takes range⟩
  · exact ⟨_, next_whenLive live (State.ioCmd_of_admits takes 8 (.writeZeroes (q.as 8)) admits rfl _),
      State.serveZeroes_readOnly (q := q.as 8) takes range readOnly⟩
  · exact ⟨_, next_whenLive live (State.ioCmd_of_admits takes 8 (.writeZeroes (q.as 8)) admits rfl _),
      State.serveZeroes_deallocates (q := q.as 8) takes range writable deac whole⟩
  · exact ⟨_, next_whenLive live (State.ioCmd_of_admits takes 9 (.datasetManagement (q.as 9) r) admits rfl _), State.serveDsm_ends (q := q.as 9) takes prp inside keep⟩
  · exact ⟨_, next_whenLive live (State.ioCmd_of_admits takes 9 (.datasetManagement (q.as 9) r) admits rfl _), State.serveDsm_refuses (q := q.as 9) takes prp outside⟩
  · exact ⟨_, next_whenLive live (State.ioCmd_of_admits takes 0x19 (.copy (q.as 0x19) r) admits rfl _), State.serveCopy_refuses (q := q.as 0x19) takes prp beyond⟩
  · exact ⟨_, next_whenLive live (State.ioCmd_of_admits takes 0x19 (.copy (q.as 0x19) r) admits rfl _),
      State.serveCopy_serves (q := q.as 0x19) takes prp few short total target inside may⟩

end Sys2Proof.Machine
end

section
/-! SUPPORT. The state that refutes the clauses on namespaces (O20). -/
namespace Sys2Proof.Machine

/-- A running device whose PF0 has one entry in its Admin queue. -/
def adminReady : State where
  pwr := { supply := .on, stop := .none }
  fns := ⟨[(0, { bme := true, cc := 1, rdy := true, sqs := [(0, { base := 0, cqid := 0, size := 2, tail := 1, granted := 1 })] })]⟩

/-- PF0's Admin entry that names namespace 1. -/
def adminEntry : Sqe :=
  { id := { fn := 0, qid := 0, cid := 0 }, opcode := 0x0D, nsid := 1, cdw10 := 0, cdw11 := 0, cdw12 := 0, cdw13 := 0, cdw14 := 0,
    cdw15 := 0, psdt := 0, prp1 := 0, prpOk := true, sglTypeOk := true, sglLenOk := true }

/-- Namespace 1 is being detached, and its detach names the identifier of a command that is not outstanding: the one the entry has. -/
def staleDetach : State :=
  { adminReady with nss := ⟨[(1, { present := true, attached := some 0, detaching := true, detachFor := some adminEntry.id })]⟩ }


/-- Refutes O20: Delete of a namespace also ends the detach that waits there, and so ends the command which that detach names
(R395). Where the name is the Delete's own identifier, used again since, the Delete ends before the erase that it waits for. -/
theorem not_namespaceCommands : ¬ Obligations.NamespaceCommands := by
  intro ⟨_, _, _, _, _, _, _, _, deletes, _⟩
  obtain ⟨t, next, _, _, open_⟩ := deletes staleDetach adminEntry (by decide) (by decide) rfl (by decide) (by decide) (by decide)
  obtain rfl := Host.Outcome.next.inj next
  exact absurd open_ (by decide)
end Sys2Proof.Machine
end

section
/-! SUPPORT. Resources of virtual functions, and function resets (O21). -/
set_option linter.unusedSimpArgs false
namespace Sys2Proof.Machine



/-! ## The lists of the Service DMA change no function -/

section
variable (s : State)

theorem fns_foldl {α : Type} {h : State → α → State} (each : ∀ (s : State) a, (h s a).fns = s.fns) (l : List α) (s : State) :
    (l.foldl h s).fns = s.fns := by
  induction l generalizing s with
  | nil => rfl
  | cons a l ih => exact (ih (h s a)).trans (each s a)

/-- Data of the device that goes to the host changes no function, unless an interrupt goes with it. -/
theorem State.fns_internDone (e : Intern) (quiet : ∀ v, e.kind ≠ .irq v) : (s.internDone e).fns = s.fns := by
  have sent (t : State) (o : Out) : (match o with
      | .tlp p => t.issueNp p.fn (.internal e.kind e.cmd) p.off p.len 0
      | o => t.emit o).fns = t.fns := by
    split
    · exact fns_of_without (t.issueNp_without _ _ _ _ _ (List.Subset.refl _)) (by simp)
    · rfl
  have told : (e.outs.foldl (fun t o => t.toHost o) s).fns = s.fns :=
    fns_foldl (fun t o => fns_of_without (t.toHost_without o (List.Subset.refl _)) (by simp)) _ s
  unfold State.internDone
  split
  · split
    · exact fns_foldl sent _ s
    · rfl
  · dsimp only
    split
    · exact (fns_of_without (State.showRing_without _ (List.Subset.refl _)) (by simp)).trans told
    · exact (fns_of_without (State.showTlnRing_without _ (List.Subset.refl _)) (by simp)).trans told
    · exact told
    · next v kind => exact absurd kind (quiet v)
    · exact told

theorem State.fns_internal (e : Intern) (quiet : ∀ v, e.kind ≠ .irq v) : (s.internal e).fns = s.fns := by
  unfold State.internal
  split
  · exact s.fns_internDone e quiet
  · rfl

theorem State.fns_internalRead (k : Inner) (quiet : ∀ v, k ≠ .irq v) (fn : Nat) (cmd : Option CmdId) (addr len : Nat) :
    (s.internalRead k fn cmd addr len).fns = s.fns :=
  fns_foldl (fun t _ => t.fns_internal _ quiet) _ s

theorem State.fns_sdmMove (ch : Nat) : (s.sdmMove ch).fns = s.fns := by
  have quiet (v : Nat) : Inner.sdm ≠ .irq v := nofun
  unfold State.sdmMove
  split
  · rfl
  · extract_lets get put t
    have each (on : Bool) (addr len : Nat) (u : State) : (get on addr len u).fns = u.fns := by
      unfold get
      split
      · exact u.fns_internalRead .sdm quiet ..
      · rfl
    have moved : t.fns = s.fns := (each _ _ _ _).trans ((each _ _ _ _).trans (each _ _ _ _))
    split
    · exact moved
    · exact (t.fns_internal _ quiet).trans moved

theorem State.fns_sdmSchedule : s.sdmSchedule.fns = s.fns := by
  have stall : s.sdmStall.fns = s.fns := fns_of_without (s.sdmStall_without (List.Subset.refl _)) (by simp)
  have shown (t : State) : t.showSdm.fns = t.fns := fns_of_without (t.showSdm_without (List.Subset.refl _)) (by simp)
  have state (t : State) (c st : Nat) : (t.setSdmState c st).fns = t.fns := rfl
  unfold State.sdmSchedule
  generalize s.sdmStall = u at *
  dsimp only
  split
  · rw [shown, stall]
  · split
    · rw [shown, stall]
    · rw [shown, State.fns_sdmMove, state]
      exact stall

@[simp] theorem State.fns_endHostLists : s.endHostLists.fns = s.fns := by
  refine (State.fns_sdmSchedule _).trans (fns_foldl (fun t c => ?_) _ s)
  split
  · rfl
  · exact fns_of_without (t.endList_without _ _ (List.Subset.refl _)) (by simp)

end

/-! ## A function reset -/

section
variable (s : State)

/-- A function after its reset: it keeps what R412 lists, and nothing else. -/
theorem State.fn_flr (f : Nat) : (s.flr f).fn f = { (s.fn f).afterFlr with cfs := f == 0 && s.bit Reg.pwrStatus 4 } := by
  have work : (s.endWork f).fns = s.fns := fns_of_without (s.endWork_without f (List.Subset.refl _)) (by simp)
  have shown (t : State) : t.showQueues.fn f = t.fn f := congrArg (Tab.get · f) t.fns_showQueues
  have failed (t : State) (err : Nat) : (t.migFail err).fn f = t.fn f :=
    congrArg (Tab.get · f) (fns_of_without (t.migFail_without err (List.Subset.refl _)) (by simp))
  unfold State.flr
  dsimp only
  rw [shown]
  have reset : (((s.endWork f).atcFlush f).updFn f fun x => { x.afterFlr with cfs := f == 0 && s.bit Reg.pwrStatus 4 }).fn f =
      { (s.fn f).afterFlr with cfs := f == 0 && s.bit Reg.pwrStatus 4 } := by
    rw [State.fn_updFn_same]
    exact congrArg (fun x : Fn => { x.afterFlr with cfs := f == 0 && s.bit Reg.pwrStatus 4 }) (congrArg (Tab.get · f) work)
  split
  · exact (failed ..).trans reset
  · exact reset

/-- A failed transfer of a function's state shows so in FNM_MIG_STATUS, and its function's status register stays. -/
@[simp] theorem State.fnmStatus_migFail (err : Nat) : (s.migFail err).reg Reg.fnmStatus = s.reg Reg.fnmStatus := by
  simp +decide [State.migFail, State.dropIntern, ↓State.reg_mk]

@[simp] theorem State.fnmStatus_flr (f : Nat) : (s.flr f).reg Reg.fnmStatus = s.reg Reg.fnmStatus := by
  have work : (s.endWork f).reg Reg.fnmStatus = s.reg Reg.fnmStatus := reg_of_without (s.endWork_without f (List.Subset.refl _)) (by decide)
  unfold State.flr
  dsimp only
  split <;> simp +decide [State.updFn, State.atcFlush, ↓State.reg_mk, work]

@[simp] theorem State.fnmStatus_failInternals : s.failInternals.reg Reg.fnmStatus = s.reg Reg.fnmStatus := by
  have each (t : State) (k : Inner) (c : Option CmdId) : (t.internalFailed k c).reg Reg.fnmStatus = t.reg Reg.fnmStatus := by
    unfold State.internalFailed
    split
    · split
      · exact reg_of_without (t.failCmd_without _ _ (List.Subset.refl _)) (by decide)
      · rfl
    · exact reg_of_without (t.imageLost_without (List.Subset.refl _)) (by decide)
    · split <;> rfl
    · unfold State.migHostLost
      split
      · exact t.fnmStatus_migFail 8
      · rfl
    · rfl
    · rfl
  unfold State.failInternals
  refine State.reg_of_foldl (fun t r => ?_) _ s
  split
  · exact each ..
  · rfl

theorem State.vfEnable_vfEnableClear : s.vfEnableClear.vfEnable = false := by
  unfold State.vfEnableClear
  split
  · simp +decide [State.vfEnable]
  · next off => simpa using off

/-- After a reset of PF0 no VF exists, and PF0 is in reset without queues (R415). -/
theorem State.pfFlr_resets {s : State} (ready : s.bit Reg.fnmStatus 15 = false) : s.pfFlr.bit Reg.fnmStatus 15 = true ∧
    s.pfFlr.vfEnable = false ∧ s.pfFlr.numVfs = 0 ∧ (s.pfFlr.fn 0).life = Life.flr ∧ (s.pfFlr.fn 0).sqs = [] := by
  have fns : s.pfFlr.fn 0 = (s.vfEnableClear.failInternals.flr 0).fn 0 := by
    unfold State.pfFlr
    rw [if_neg (ne_true_of_eq_false ready)]
    generalize s.vfEnableClear.failInternals.flr 0 = u
    have set (t : State) : (((t.setField Reg.fnmStatus 0 13 0).setBit Reg.fnmStatus 14 false).setBit Reg.fnmStatus 15 true).fns = t.fns := rfl
    have dropped (t : State) (p : Sess → Bool) : (t.dropSessions p).fns = t.fns :=
      fns_of_without (t.dropSessions_without p (List.Subset.refl _)) (by simp)
    have abort (t : State) : t.doeAbort.fns = t.fns := rfl
    refine congrArg (Tab.get · 0) ?_
    rw [set, dropped, abort, State.fns_endHostLists]
  have off := s.vfEnable_vfEnableClear
  have status : s.pfFlr.reg Reg.fnmStatus =
      setWordField (setWordField (setWordField (s.vfEnableClear.reg Reg.fnmStatus) 0 13 0) 14 1 0) 15 1 1 := by
    have lists (t : State) : t.endHostLists.reg Reg.fnmStatus = t.reg Reg.fnmStatus :=
      reg_of_without (t.endHostLists_without (List.Subset.refl _)) (by decide)
    unfold State.pfFlr
    rw [if_neg (ne_true_of_eq_false ready)]
    simp +decide [State.reg_of_dropSessions', State.doeAbort, ↓State.reg_mk, lists]
  have field : wordField (s.vfEnableClear.reg Reg.fnmStatus) 13 1 ≠ 1 := by simpa [State.vfEnable] using off
  refine ⟨?_, ?_, ?_, ?_, ?_⟩
  · simp +decide [status]
  · simp +decide [State.vfEnable, status, field]
  · simp +decide [State.numVfs, status]
  · rw [fns, State.fn_flr]
    rfl
  · rw [fns, State.fn_flr]
    rfl

theorem State.pfFlrDone_ends {s : State} (resetting : s.bit Reg.fnmStatus 15 = true) : s.pfFlrDone.bit Reg.fnmStatus 15 = false ∧
    (s.pfFlrDone.fn 0).life = Life.active ∧ s.pfFlrDone.num Reg.fnmPfFlrCnt = satAdd 32 (s.num Reg.fnmPfFlrCnt) 1 := by
  have fn (t : State) (i : Nat) : (t.raise Reg.fnmEvent i).fn 0 = t.fn 0 := congrArg (Tab.get · 0) (t.fns_raise ..)
  unfold State.pfFlrDone
  rw [if_pos resetting]
  refine ⟨by simp +decide, ?_, by simp +decide [State.updFn, ↓State.reg_mk]⟩
  rw [fn]
  exact congrArg Fn.life (State.fn_updFn_same s 0 fun x => { x with life := .active })

theorem State.vfFlrDone_ends {s : State} {v : Nat} (vf : v ≠ 0) (resetting : (s.fn v).life = .flr) : ((s.vfFlrDone v).fn v).life = Life.active ∧
    (s.vfFlrDone v).num Reg.fnmFlrCnt = satAdd 32 (s.num Reg.fnmFlrCnt) 1 ∧ (s.vfFlrDone v).bit Reg.fnmEvent 0 = true := by
  have fn (t : State) (i : Nat) : (t.raise Reg.fnmEvent i).fn v = t.fn v := congrArg (Tab.get · v) (t.fns_raise ..)
  unfold State.vfFlrDone
  rw [if_pos ⟨vf, resetting⟩]
  refine ⟨?_, by simp +decide [State.updFn, ↓State.reg_mk], by simp +decide⟩
  rw [fn]
  exact congrArg Fn.life (State.fn_updFn_same s v fun x => { x with life := .active })

/-- VF Enable gives the VFs their defaults, and leaves how many there are. -/
theorem State.vfEnableSet_sets {s : State} (off : s.vfEnable = false) : s.vfEnableSet.vfEnable = true ∧ s.vfEnableSet.numVfs = s.numVfs ∧
    s.vfEnableSet.bit Reg.fnmEvent 8 = true := by
  have gives (l : List Nat) (t : State) : (l.foldl (fun t k => t.giveDefaults (k + 1)) t).reg Reg.fnmStatus = t.reg Reg.fnmStatus :=
    State.reg_of_foldl (fun t k => reg_of_without (t.giveDefaults_without _ (List.Subset.refl _)) (by decide)) l t
  have shown (t : State) : t.showPools.reg Reg.fnmStatus = t.reg Reg.fnmStatus :=
    reg_of_without (t.showPools_without (List.Subset.refl _)) (by decide)
  unfold State.vfEnableSet
  rw [if_neg (ne_true_of_eq_false off)]
  refine ⟨?_, ?_, ?_⟩
  · simp +decide [State.vfEnable, shown, gives]
  · simp +decide [State.numVfs, shown, gives]
  · simp +decide

theorem State.vfEnableClear_clears {s : State} (on : s.vfEnable = true) : s.vfEnableClear.bit Reg.fnmEvent 8 = true := by
  unfold State.vfEnableClear
  rw [if_pos on]
  simp +decide

end

/-! ## Functions other than the one that takes an entry -/

/-- Every listed function but one is listed in a state as it is in another. -/
def State.ListsAlike (f : Nat) (s t : State) : Prop := t.fns.entries.filter (·.1 != f) = s.fns.entries.filter (·.1 != f)

section
variable {f : Nat} {s t u : State}

theorem State.ListsAlike.trans (h : s.ListsAlike f t) (k : t.ListsAlike f u) : s.ListsAlike f u := Eq.trans k h

theorem State.ListsAlike.of_fns (h : t.fns = s.fns) : s.ListsAlike f t := by
  unfold State.ListsAlike
  rw [h]

theorem State.listsAlike_updFn (s : State) (f : Nat) (g : Fn → Fn) : s.ListsAlike f (s.updFn f g) :=
  filter_set (p := (· != f)) (by simp) s.fns _

theorem State.listsAlike_visit (s : State) (f : Nat) : s.ListsAlike f (s.visit f) := by
  unfold State.visit
  split
  · exact .of_fns rfl
  · extract_lets n page t
    have asked : t.fns = s.fns := by
      unfold t
      split
      · exact (fns_of_without (State.readHost_without _ _ _ _ _ _ (List.Subset.refl _)) (by simp)).trans
          (fns_of_without (State.when_without (W := [.regs 1]) _ _ _ fun u => u.inc_without _ _ (List.Subset.refl _)) (by simp))
      · exact fns_of_without (s.askXlat_without _ _ (List.Subset.refl _)) (by simp)
    exact (State.ListsAlike.of_fns asked).trans (t.listsAlike_updFn ..)

theorem State.listsAlike_kickAll (s : State) (f : Nat) : s.ListsAlike f (s.kickAll f) := by
  have visits (l : List (Nat × Sq)) (s : State) : s.ListsAlike f (l.foldl (fun t _ => t.visit f) s) := by
    induction l generalizing s with
    | nil => exact .of_fns rfl
    | cons a l ih => exact (s.listsAlike_visit f).trans (ih _)
  unfold State.kickAll
  split
  · exact .of_fns rfl
  · exact visits ..

theorem State.listsAlike_fetched (s : State) (q : Sqe) (a : Bool) : s.ListsAlike q.id.fn (s.fetched q a) := by
  unfold State.fetched
  split
  · unfold State.takeEntry
    dsimp only
    exact State.ListsAlike.trans (t := State.inc (s.updSq q.id.fn q.id.qid _) Reg.qenCmdFetchCnt) (s.listsAlike_updFn ..)
      (State.listsAlike_kickAll _ q.id.fn)
  · exact .of_fns rfl

end

/-! ## Virtualization Management -/

section
variable {s : State} {q : Sqe} (takes : s.takes q true = true)
include takes

/-- A command for a VF that exists in the map of controllers is carried out for that VF. -/
theorem State.virtCmd_of_takes (pf : q.id.fn = 0) {v : Nat} (named : wordField q.cdw10 16 16 = v + 1) (vf : 1 ≤ v) (le : v ≤ 4096)
    (f : Nat → State → State) : s.virtCmd q f = f v (s.fetched q true) := by
  unfold State.virtCmd
  rw [State.adminCmd_of_takes takes (.inr pf), named, cntlidVf, if_pos (by omega)]
  rfl

/-- On a VF a command of Virtualization Management ends with Invalid Command Opcode. -/
theorem State.virtCmd_of_vf (vf : q.id.fn ≠ 0) (f : Nat → State → State) : (s.virtCmd q f).statusOf q.id = some 1 ∧
    (s.virtCmd q f).nss = s.nss := by
  obtain ⟨status, nss, -⟩ := State.adminCmd_of_vf_refuses takes vf fun t => match cntlidVf (wordField q.cdw10 16 16) with
    | none => t.finish q.id (nvmeStatus 1 0x1F)
    | some vf => f vf t
  exact ⟨status, nss⟩

omit takes in
theorem State.vqFits_fetched (pf : q.id.fn = 0) (v n : Nat) : (s.fetched q true).vqFits v n = s.vqFits v n := by
  have lists := s.listsAlike_fetched q true
  rw [pf] at lists
  have given (t : State) : (t.fns.entries.filter fun e => e.1 != 0 && e.2.vq != 0) =
      (t.fns.entries.filter (·.1 != 0)).filter fun e => e.2.vq != 0 := by
    rw [List.filter_filter]
    exact List.filter_congr fun e _ => Bool.and_comm ..
  have charged : (s.fetched q true).vqCharged = s.vqCharged := by
    simp only [State.vqCharged, given]
    rw [lists]
  simp only [State.vqFits, charged, State.vq_fn_fetched]

theorem State.assign_gives (pf : q.id.fn = 0) {v : Nat} (named : wordField q.cdw10 16 16 = v + 1) (vf : 1 ≤ v) (le : v ≤ 4096)
    (queues : wordField q.cdw10 8 3 = 0) (offline : (s.fn v).online = false) (fits : s.vqFits v (wordField q.cdw11 0 16) = true) :
    (s.assign q).statusOf q.id = some 0 ∧ ((s.assign q).fn v).vq = wordField q.cdw11 0 16 ∧
      (s.assign q).dw0Of q.id = some (BitVec.ofNat 32 (wordField q.cdw11 0 16)) := by
  have shown (t : State) : t.showPools.cmds = t.cmds := cmds_of_without (t.showPools_without (List.Subset.refl _)) (by simp)
  have fn (t : State) : t.showPools.fn v = t.fn v := congrArg (Tab.get · v) (fns_of_without (t.showPools_without (List.Subset.refl _)) (by simp))
  unfold State.assign
  rw [State.virtCmd_of_takes takes pf named vf le]
  dsimp only
  rw [queues, if_neg (by decide), State.online_fn_fetched, if_neg (ne_true_of_eq_false offline), if_pos rfl, State.vqFits_fetched pf,
    if_neg (not_not_intro fits)]
  refine ⟨State.statusOf_finish_fetched takes (by rw [shown, State.updFn_cmds]) .., ?_, State.dw0Of_finish_fetched takes (by rw [shown, State.updFn_cmds]) ..⟩
  rw [State.fn_finish, fn, State.fn_updFn_same]
  rfl

theorem State.assign_of_online (pf : q.id.fn = 0) {v : Nat} (named : wordField q.cdw10 16 16 = v + 1) (vf : 1 ≤ v) (le : v ≤ 4096)
    (known : wordField q.cdw10 8 3 ≤ 1) (online : (s.fn v).online = true) : (s.assign q).statusOf q.id = some 0x120 ∧
      ((s.assign q).fn v).vq = (s.fn v).vq := by
  unfold State.assign
  rw [State.virtCmd_of_takes takes pf named vf le]
  dsimp only
  rw [if_neg (by omega), State.online_fn_fetched, if_pos online]
  exact ⟨State.statusOf_finish_fetched takes rfl .., by simp⟩

theorem State.setOnline_sets (pf : q.id.fn = 0) {v : Nat} (named : wordField q.cdw10 16 16 = v + 1) (vf : 1 ≤ v) (le : v ≤ 4096)
    (queues : 2 ≤ (s.fn v).vq) (vectors : 1 ≤ (s.fn v).vi) : (s.setOnline q).statusOf q.id = some 0 ∧ ((s.setOnline q).fn v).online = true := by
  unfold State.setOnline
  rw [State.virtCmd_of_takes takes pf named vf le]
  rw [State.vq_fn_fetched, State.vi_fn_fetched, if_pos ⟨queues, vectors⟩]
  exact ⟨State.statusOf_finish_fetched takes rfl .., by simp⟩

omit takes in
theorem State.mayOffline_fetched (v : Nat) : (s.fetched q true).mayOffline v = s.mayOffline v := by
  simp +decide [State.mayOffline, Fn.enabled, State.vfEnable]

theorem State.setOffline_sets (pf : q.id.fn = 0) {v : Nat} (named : wordField q.cdw10 16 16 = v + 1) (vf : 1 ≤ v) (le : v ≤ 4096)
    (may : s.mayOffline v = true) : (s.setOffline q).statusOf q.id = some 0 ∧ ((s.setOffline q).fn v).online = false := by
  unfold State.setOffline
  rw [State.virtCmd_of_takes takes pf named vf le]
  rw [State.mayOffline_fetched, if_pos may]
  exact ⟨State.statusOf_finish_fetched takes rfl .., by simp⟩

theorem State.setOffline_refuses (pf : q.id.fn = 0) {v : Nat} (named : wordField q.cdw10 16 16 = v + 1) (vf : 1 ≤ v) (le : v ≤ 4096)
    (may : s.mayOffline v = false) : (s.setOffline q).statusOf q.id = some 0x120 ∧ ((s.setOffline q).fn v).online = (s.fn v).online := by
  unfold State.setOffline
  rw [State.virtCmd_of_takes takes pf named vf le]
  rw [State.mayOffline_fetched, if_neg (ne_true_of_eq_false may)]
  exact ⟨State.statusOf_finish_fetched takes rfl .., by simp⟩

end

/-- Settles O21: each clause is what its command or reset does with its function. -/
theorem virtualFunctions : Obligations.VirtualFunctions := by
  unfold Obligations.VirtualFunctions
  refine ⟨fun s q live takes pf => ?_, fun s q live takes vf => ?_, fun s q v live takes pf named vf le queues offline fits => ?_,
    fun s q v live takes pf named vf le known online => ?_, fun s q live takes vf => ?_,
    fun s q v live takes pf named vf le queues vectors => ?_, fun s q live takes vf => ?_, fun s q v live takes pf named vf le may => ?_,
    fun s q v live takes pf named vf le may => ?_, fun s q live takes vf => ?_, fun s live off => ?_, fun s live on => ?_,
    fun s v live vf there calm => ?_, fun s v live vf resetting => ?_, fun s live ready => ?_, fun s live resetting => ?_⟩
  · refine ⟨_, next_whenLive live (State.adminCmd_of_takes (q := q.as 0x1C) takes (.inr pf) _),
      State.statusOf_finish_fetched (q := q.as 0x1C) takes rfl .., ?_⟩
    simp
  · obtain ⟨status, nss, -⟩ := State.adminCmd_of_vf_refuses (q := q.as 0x1C) takes vf (·.finish q.id invalidField)
    exact ⟨_, next_whenLive live rfl, status, nss⟩
  · exact ⟨_, next_whenLive live rfl, State.assign_gives (q := q.as 0x1C) takes pf named vf le queues offline fits⟩
  · exact ⟨_, next_whenLive live rfl, State.assign_of_online (q := q.as 0x1C) takes pf named vf le known online⟩
  · exact ⟨_, next_whenLive live rfl, State.virtCmd_of_vf (q := q.as 0x1C) takes vf _⟩
  · exact ⟨_, next_whenLive live rfl, State.setOnline_sets (q := q.as 0x1C) takes pf named vf le queues vectors⟩
  · exact ⟨_, next_whenLive live rfl, State.virtCmd_of_vf (q := q.as 0x1C) takes vf _⟩
  · exact ⟨_, next_whenLive live rfl, State.setOffline_sets (q := q.as 0x1C) takes pf named vf le may⟩
  · exact ⟨_, next_whenLive live rfl, State.setOffline_refuses (q := q.as 0x1C) takes pf named vf le may⟩
  · exact ⟨_, next_whenLive live rfl, State.virtCmd_of_vf (q := q.as 0x1C) takes vf _⟩
  · exact ⟨_, next_whenLive live rfl, State.vfEnableSet_sets off⟩
  · exact ⟨_, next_whenLive live rfl, s.vfEnable_vfEnableClear, State.vfEnableClear_clears on⟩
  · refine ⟨_, next_whenLive live (if_pos ⟨vf, there, calm⟩), ?_⟩
    rw [State.fn_flr]
    exact ⟨rfl, rfl, rfl, rfl, rfl⟩
  · exact ⟨_, next_whenLive live rfl, State.vfFlrDone_ends vf resetting⟩
  · exact ⟨_, next_whenLive live rfl, State.pfFlr_resets ready⟩
  · exact ⟨_, next_whenLive live rfl, State.pfFlrDone_ends resetting⟩

end Sys2Proof.Machine
end

section
/-! SUPPORT. A virtual function is quiesced, frozen, saved and restored (O22). -/
set_option linter.unusedSimpArgs false
namespace Sys2Proof.Machine



section
variable {s : State}

/-- A request of FNM_VF_CTL that its function may be given is carried out for the function that FNM_VF_SEL names. -/
theorem State.vfCtl_of_ok {ok : Fn → Bool} (one : 1 ≤ s.vfSel) (le : s.vfSel ≤ 4096) (there : s.fnExists s.vfSel = true)
    (online : (s.fn s.vfSel).online = true) (may : ok (s.fn s.vfSel) = true) (f : Nat → State → State) :
    s.vfCtl ok f = f s.vfSel s := if_pos ⟨one, le, there, online, may⟩

@[simp] theorem State.fn_setLife_same (s : State) (f : Nat) (l : Life) : (s.setLife f l).fn f = { s.fn f with life := l } :=
  State.fn_updFn_same ..

theorem State.fn_raise (s : State) (ev i f : Nat) : (s.raise ev i).fn f = s.fn f := congrArg (Tab.get · f) (s.fns_raise ev i)

theorem State.life_kickAll (s : State) (f g : Nat) : ((s.kickAll f).fn g).life = (s.fn g).life := by
  rw [(s.visited_kickAll f).fn g]

theorem State.life_msixDrain (s : State) (f g : Nat) : ((s.msixDrain f).fn g).life = (s.fn g).life := by
  obtain ⟨p, e⟩ := s.butPba_msixDrain f g
  rw [e]

/-- A failed transfer is over, and FNM_MIG_STATUS shows why. -/
theorem State.migFail_shows (s : State) {err : Nat} (byte : err < 256) : (s.migFail err).mig = none ∧
    (s.migFail err).field Reg.fnmMigStatus 0 2 = 3 ∧ (s.migFail err).field Reg.fnmMigStatus 8 8 = err ∧
    (s.migFail err).bit Reg.fnmEvent 6 = true ∧ (s.migFail err).fns = s.fns := by
  unfold State.migFail
  refine ⟨by simp, ?_, ?_, by simp +decide, by simp [State.dropIntern]⟩
  · simp +decide
  · simp +decide [Nat.mod_eq_of_lt byte]

/-- A transfer that was made is over, and FNM_MIG_STATUS shows it. -/
theorem State.saveEnd_shows (s : State) (quiet : s.internBusy (fun k _ => k == .blob) = false) : (s.saveEnd true).mig = none ∧
    (s.saveEnd true).field Reg.fnmMigStatus 0 2 = 2 ∧ (s.saveEnd true).num Reg.fnmMigSize = blobSize ∧
    (s.saveEnd true).bit Reg.fnmEvent 4 = true := by
  unfold State.saveEnd
  rw [if_neg (by simp [quiet]), if_pos rfl]
  refine ⟨by simp, ?_, ?_, by simp +decide⟩
  · simp +decide [↓State.reg_mk]
  · simp +decide [↓State.reg_mk, blobSize]

theorem State.saveEnd_fails (s : State) : s.saveEnd false = s.migFail 8 := by
  unfold State.saveEnd
  rw [if_neg (by simp), if_neg (by simp)]

/-- The state of a virtual function goes to the host's memory: at once in Park, and through its capacity in Run (R420). -/
theorem State.internal_blob (s : State) {e : Intern} {o : Out} (kind : e.kind = .blob) (deliver : e.deliver = true) (mem : o ∈ e.outs) :
    (s.prxState = 0 ∧ s.dmaOk e.fn = true → o ∈ (s.internal e).out) ∧ (s.prxState ≠ 0 →
      (s.internal e).hpt.intern.any (fun x => x.kind == .blob && x.outs.contains o) = true) := by
  refine ⟨fun now => ?_, fun run => ?_⟩
  · unfold State.internal
    rw [if_pos (show s.field Reg.prxStatus 0 2 = 0 ∧ _ from now)]
    unfold State.internDone
    rw [if_neg (not_not_intro deliver), kind]
    exact State.mem_toHosts mem s
  · unfold State.internal
    rw [if_neg (show ¬ (s.field Reg.prxStatus 0 2 = 0 ∧ _) from fun now => run now.1), List.any_append]
    simp [kind, mem]

theorem State.mig_internal (s : State) (e : Intern) : (s.internal e).mig = s.mig :=
  mig_of_without (s.internal_without e (List.Subset.refl _)) (by simp)

@[simp] theorem State.prxState_migStart (s : State) (m : Mig) : (s.migStart m).prxState = s.prxState := by
  simp +decide [State.prxState, State.migStart, ↓State.reg_mk]

@[simp] theorem State.dmaOk_migStart (s : State) (m : Mig) (f : Nat) : (s.migStart m).dmaOk f = s.dmaOk f := by
  simp +decide [State.dmaOk, State.migStart, ↓State.reg_mk, State.fn]

theorem State.internBusy_took (vc blocks : Nat) (p : Inner → Option CmdId → Bool) : (s.took vc blocks).internBusy p = s.internBusy p := by
  have hpt : (s.took vc blocks).hpt = s.hpt := hpt_of_without (s.took_without vc blocks (List.Subset.refl _)) (by simp)
  simp only [State.internBusy, hpt]

theorem State.mig_internalRead (k : Inner) (fn : Nat) (cmd : Option CmdId) (addr len : Nat) :
    (s.internalRead k fn cmd addr len).mig = s.mig :=
  mig_of_without (s.internalRead_without k fn cmd addr len (List.Subset.refl _)) (by simp)

/-- The errors of a blob are those of Table 10-12. -/
theorem State.blobErr_lt (s : State) (vf : Nat) (b : List Byte) (host : Bool) : s.blobErr vf b host < 256 := by
  unfold State.blobErr
  dsimp only
  split_ifs <;> decide

end

/-- Settles O22: each clause follows what its request does to the function's life and to the transfer. -/
theorem tenantTransfer : Obligations.TenantTransfer := by
  unfold Obligations.TenantTransfer
  refine ⟨fun s live one le there online life => ?_, fun s live one le there online life => ?_, fun s v live life idle => ?_,
    fun s live one le there online life => ?_, fun s live one le there online life => ?_, fun s v live life => ?_,
    fun s live one le there online life => ?_, fun s live one le there online life free small => ?_,
    fun s live one le there online life free large host port => ?_, fun s m live quiet mig save host => ?_,
    fun s m live mig save host => ?_, fun s v e m live quiet mig save partner named => ?_,
    fun s live one le there online life off free port => ?_, fun s b m live quiet mig save host => ?_⟩
  · refine ⟨_, next_whenLive live (State.vfCtl_of_ok one le there online (by simp [life]) _), ?_⟩
    simp
  · refine ⟨_, next_whenLive live (if_neg (by simp [life])), by simp +decide, ?_⟩
    rw [State.fn_raise]
  · refine ⟨_, next_whenLive live (if_pos ⟨life, idle⟩), ?_, by simp +decide, by simp +decide [State.setLife, State.updFn, ↓State.reg_mk]⟩
    rw [State.fn_raise]
    exact congrArg Fn.life (s.fn_setLife_same v .quiesced)
  · refine ⟨_, next_whenLive live (State.vfCtl_of_ok one le there online (by simp [life]) _), ?_⟩
    rw [State.life_kickAll]
    simp
  · refine ⟨_, next_whenLive live (State.vfCtl_of_ok one le there online (by simp [life]) _), ?_⟩
    simp
  · refine ⟨_, next_whenLive live (if_pos life), ?_, by simp +decide⟩
    rw [State.fn_raise]
    simp
  · refine ⟨_, next_whenLive live (State.vfCtl_of_ok one le there online (by simp [life]) _), ?_⟩
    rw [State.life_kickAll, State.life_msixDrain]
    simp
  · refine ⟨_, next_whenLive live ((State.vfCtl_of_ok one le there online (by simp [life, free]) _).trans (if_pos small)), ?_⟩
    obtain ⟨gone, result, cause, -⟩ := (s.migStart { vf := s.vfSel, save := true, target := s.bit Reg.fnmMigCtl 0 }).migFail_shows
      (show 6 < 256 by decide)
    exact ⟨gone, result, cause⟩
  · refine ⟨_, next_whenLive live ((State.vfCtl_of_ok one le there online (by simp [life, free]) _).trans
      ((if_neg (Nat.not_lt.mpr large)).trans ((if_neg (ne_true_of_eq_false host)).trans (if_pos port)))), ?_⟩
    rw [host]
    obtain ⟨now, run⟩ := (s.migStart { vf := s.vfSel, save := true, target := false }).internal_blob
      (e := { kind := .blob, deliver := true, units := unitsOf blobSize,
              outs := s.writeTlps 0 (s.num Reg.fnmMigAddrLo) blobSize false false ++ [.bytes 5 (s.blobOf s.vfSel)] })
      (o := .bytes 5 (s.blobOf s.vfSel)) rfl rfl (List.mem_append_right _ (List.mem_singleton.mpr rfl))
    have park := s.prxState_migStart { vf := s.vfSel, save := true, target := false }
    have dma := s.dmaOk_migStart { vf := s.vfSel, save := true, target := false } 0
    rw [park] at now run
    rw [dma] at now
    exact ⟨State.mig_internal .., now, run⟩
  · refine ⟨_, next_whenLive live (if_pos (by simp [mig, save, host])), ?_⟩
    exact s.saveEnd_shows quiet
  · refine ⟨_, next_whenLive live ((if_pos (by simp [mig, save, host])).trans s.saveEnd_fails), ?_⟩
    obtain ⟨gone, result, cause, event, -⟩ := s.migFail_shows (show 8 < 256 by decide)
    exact ⟨gone, result, cause, event⟩
  · have mig' : (s.mig.any fun m => m.save && m.target && m.vf == v) = true := by simp [mig, save, partner, named]
    rcases Nat.eq_zero_or_pos e with rfl | error
    · refine ⟨_, next_whenLive live (if_pos mig'), ?_⟩
      obtain ⟨gone, result, -⟩ := (s.took 4 0).saveEnd_shows ((State.internBusy_took ..).trans quiet)
      exact ⟨gone, result⟩
    · have failed : (e == 0) = false := beq_false_of_ne (Nat.ne_of_gt error)
      refine ⟨(s.took 4 0).migFail 8, next_whenLive live ((if_pos mig').trans (by rw [failed]; exact State.saveEnd_fails _)), ?_⟩
      obtain ⟨gone, result, -⟩ := (s.took 4 0).migFail_shows (show 8 < 256 by decide)
      exact ⟨gone, by rw [result, if_neg (Nat.ne_of_gt error)]⟩
  · refine ⟨_, next_whenLive live (State.vfCtl_of_ok one le there online (by simp [life, free]) _), ?_⟩
    have started (t : State) (h : t.mig = (s.migStart { vf := s.vfSel, save := false, target := s.bit Reg.fnmMigCtl 0 }).mig)
        (h' : t.reg Reg.fnmMigStatus = (s.migStart { vf := s.vfSel, save := false, target := s.bit Reg.fnmMigCtl 0 }).reg Reg.fnmMigStatus) :
        t.mig = some { vf := s.vfSel, save := false, target := s.bit Reg.fnmMigCtl 0 } ∧ t.field Reg.fnmMigStatus 0 2 = 1 := by
      refine ⟨h, ?_⟩
      rw [State.field_eq, h']
      simp +decide [State.migStart, ↓State.reg_mk]
    dsimp only
    rw [if_neg (ne_true_of_eq_false off), if_neg (by simp [port])]
    split
    · exact started _ rfl rfl
    · exact started _ (State.mig_internalRead ..) (reg_of_without (State.internalRead_without _ _ _ _ _ _ (List.Subset.refl _)) (by decide))
  · refine ⟨_, next_whenLive live rfl, ?_⟩
    unfold State.restoreEnd
    rw [mig]
    dsimp only
    rw [if_neg (by simp [save, quiet]), host, Bool.not_false, if_neg (by decide)]
    dsimp only
    by_cases good : s.blobErr m.vf b true = 0
    · rw [if_neg (not_not_intro good), if_neg (by decide), if_pos good]
      refine ⟨by simp, by simp +decide [↓State.reg_mk], fun _ => by simp +decide, fun bad => absurd good bad⟩
    · obtain ⟨gone, result, cause, -, fns⟩ := s.migFail_shows (s.blobErr_lt m.vf b true)
      rw [if_pos good, if_neg good]
      exact ⟨gone, result, fun ok => absurd ok good, fun _ => ⟨cause, fns⟩⟩

end Sys2Proof.Machine
end

section
/-! SUPPORT. Messages of VC4 and VC5 of the Mirror Link (O29). -/
set_option linter.unusedSimpArgs false
namespace Sys2Proof.Machine

/-! ## What a message that goes out leaves of the Mirror Link's state -/

/-- The part of the Mirror Link's state that a message going out does not touch: the queues, counters and slots through
which messages leave are blanked, and so are the ticks at which the messages of VC0 left. -/
def Mlk.kept (k : Mlk) : Mlk :=
  { k with
    replay := [], waiting := [], txSeq := 0, unacked := 0, accepted := 0, consumed := {}, slots := [], flitDebt := {}
    sent := k.sent.map fun m => { m with sentAt := none } }

section
variable (s : State)

theorem State.kept_noteLeft (m : LinkMsg) : (s.noteLeft m).mlk.kept = s.mlk.kept := by
  unfold State.noteLeft
  split
  · simp only [Mlk.kept, List.map_map, Function.comp_def]
    congr 2
    funext x
    split <;> rfl
  · split <;> rfl

theorem State.kept_spendFlits (m : LinkMsg) : (s.spendFlits m).mlk.kept = s.mlk.kept := by
  unfold State.spendFlits
  split
  · rfl
  · split <;> rfl

theorem State.kept_rideAck : s.rideAck.mlk.kept = s.mlk.kept := by
  unfold State.rideAck
  split <;> rfl

theorem kept_transmit (n : Nat) (s : State) : (transmit n s).mlk.kept = s.mlk.kept := by
  induction n generalizing s with
  | zero => rfl
  | succ n ih =>
    unfold transmit
    split
    · rfl
    · split
      · exact (ih _).trans ((State.kept_noteLeft ..).trans ((State.kept_spendFlits ..).trans (State.kept_rideAck _)))
      · rfl

theorem State.mlk_showSpill (before : Nat) : (s.showSpill before).mlk = s.mlk := by
  unfold State.showSpill State.when
  dsimp only
  split
  · split
    · exact State.mlk_raise ..
    · rfl
  · rfl

theorem State.kept_form (m : LinkMsg) : (s.form m).mlk.kept = s.mlk.kept := by
  have spilled (t : State) (before : Nat) : (t.showSpill before).mlk = t.mlk := t.mlk_showSpill before
  unfold State.form
  exact (congrArg Mlk.kept (spilled _ _) :)

theorem State.kept_pump : s.pump.mlk.kept = s.mlk.kept := by
  have each (l : List LinkMsg) (p : State × List Nat) :
      (l.foldl (fun (p : State × List Nat) m =>
        if p.2.contains m.vc || !p.1.canForm m then
          ({ p.1 with mlk := { p.1.mlk with waiting := p.1.mlk.waiting ++ [m] } }, m.vc :: p.2)
        else (p.1.form m, p.2)) p).1.mlk.kept = p.1.mlk.kept := by
    induction l generalizing p with
    | nil => rfl
    | cons m l ih =>
      rw [List.foldl_cons, ih]
      split
      · rfl
      · exact State.kept_form ..
  exact (kept_transmit _ _).trans (each _ _)

/-- A message that is sent changes only the queues, counters and slots through which messages leave. -/
theorem State.kept_send (m : LinkMsg) : (s.send m).mlk.kept = s.mlk.kept := by
  have held : (State.pump { s with mlk := { s.mlk with waiting := s.mlk.waiting ++ [m] } }).mlk.kept = s.mlk.kept :=
    State.kept_pump _
  unfold State.send
  split
  iterate 5 rfl
  all_goals
    split
    · exact held
    · rfl

@[simp] theorem State.blobs_send (m : LinkMsg) : (s.send m).mlk.blobs = s.mlk.blobs := (congrArg Mlk.blobs (s.kept_send m) :)
@[simp] theorem State.kcvs_send (m : LinkMsg) : (s.send m).mlk.kcvs = s.mlk.kcvs := (congrArg Mlk.kcvs (s.kept_send m) :)
@[simp] theorem State.originSeq_send (m : LinkMsg) : (s.send m).mlk.originSeq = s.mlk.originSeq :=
  (congrArg Mlk.originSeq (s.kept_send m) :)

end

@[simp] theorem State.nss_send (s : State) (m : LinkMsg) : (s.send m).nss = s.nss :=
  nss_of_without (s.send_without m (List.Subset.refl _)) (by simp)
@[simp] theorem State.keys_send (s : State) (m : LinkMsg) : (s.send m).keys = s.keys :=
  keys_of_without (s.send_without m (List.Subset.refl _)) (by simp)
@[simp] theorem State.fns_send (s : State) (m : LinkMsg) : (s.send m).fns = s.fns :=
  fns_of_without (s.send_without m (List.Subset.refl _)) (by simp)


section
variable (s : State)

@[simp] theorem State.ns_send (m : LinkMsg) (n : Nat) : (s.send m).ns n = s.ns n := congrArg (Tab.get · n) (s.nss_send m)

theorem State.ns_updNs (n k : Nat) (f : Ns → Ns) : (s.updNs n f).ns k = if n = k then f (s.ns k) else s.ns k := by
  simp only [State.ns, State.updNs, Tab.get_modify]
  split
  · next e => rw [e]
  · rfl

@[simp] theorem State.ns_updNs_same (n : Nat) (f : Ns → Ns) : (s.updNs n f).ns n = f (s.ns n) := by rw [State.ns_updNs, if_pos rfl]

/-! ## Credits of what is received -/

@[simp] theorem State.nss_took (vc blocks : Nat) : (s.took vc blocks).nss = s.nss :=
  nss_of_without (s.took_without vc blocks (List.Subset.refl _)) (by simp)
@[simp] theorem State.keys_took (vc blocks : Nat) : (s.took vc blocks).keys = s.keys :=
  keys_of_without (s.took_without vc blocks (List.Subset.refl _)) (by simp)
@[simp] theorem State.pwr_took (vc blocks : Nat) : (s.took vc blocks).pwr = s.pwr :=
  pwr_of_without (s.took_without vc blocks (List.Subset.refl _)) (by simp) (by simp)
@[simp] theorem State.ns_took (vc blocks n : Nat) : (s.took vc blocks).ns n = s.ns n := congrArg (Tab.get · n) (s.nss_took vc blocks)

/-- A message taken grants credit, and leaves the rest of the Mirror Link's state. -/
theorem State.took_eq (vc blocks : Nat) :
    ∃ g new since, (s.took vc blocks).mlk = { s.mlk with granted := g, grantNew := new, grantAt := since } := by
  unfold State.took
  dsimp only
  split
  · exact ⟨_, _, _, rfl⟩
  · exact ⟨_, _, _, rfl⟩

@[simp] theorem State.blobs_took (vc blocks : Nat) : (s.took vc blocks).mlk.blobs = s.mlk.blobs := by
  obtain ⟨_, _, _, e⟩ := s.took_eq vc blocks
  rw [e]
@[simp] theorem State.kcvs_took (vc blocks : Nat) : (s.took vc blocks).mlk.kcvs = s.mlk.kcvs := by
  obtain ⟨_, _, _, e⟩ := s.took_eq vc blocks
  rw [e]
@[simp] theorem State.originSeq_took (vc blocks : Nat) : (s.took vc blocks).mlk.originSeq = s.mlk.originSeq := by
  obtain ⟨_, _, _, e⟩ := s.took_eq vc blocks
  rw [e]

@[simp] theorem State.mirroring_took (vc blocks : Nat) : (s.took vc blocks).mirroring = s.mirroring := by
  simp [State.mirroring, State.linkUp, State.pairState]
@[simp] theorem State.joined_took (vc blocks : Nat) : (s.took vc blocks).joined = s.joined := by simp [State.joined]
@[simp] theorem State.kcvDiffers_took (vc blocks n : Nat) : (s.took vc blocks).kcvDiffers n = s.kcvDiffers n := by
  simp [State.kcvDiffers]
@[simp] theorem State.mapFits_took (vc blocks n k : Nat) : (s.took vc blocks).mapFits n k = s.mapFits n k := by
  simp [State.mapFits]

end

/-! ## The messages -/

section
variable (s : State)

theorem State.blobRx_stored {v k : Nat} {b : List Byte} (fits : b.length ≤ 16384) (free : s.freeBlob = some k) :
    (s.blobRx v b).mlk.blobs = s.mlk.blobs ++ [(k, v, b)] ∧ (s.blobRx v b).bit Reg.mlkEvent 13 = true := by
  have free' : (s.took 4 ((b.length + 63) / 64)).freeBlob = some k := by simpa [State.freeBlob] using free
  unfold State.blobRx
  rw [if_neg (Nat.not_lt.mpr fits), free']
  simp +decide

theorem State.nsSync_of_mirroring (h : s.mirroring = true) (m : NsSync) :
    (m.action = 3 → ((s.nsSync m).ns m.nsid).peerAttached = ((s.ns m.nsid).present && (s.ns m.nsid).paired)) ∧
    (m.action = 4 → ((s.nsSync m).ns m.nsid).peerAttached = false) := by
  have notice (t : State) (f n k : Nat) : (t.nsNotice f n).ns k = t.ns k :=
    congrArg (Tab.get · k) (nss_of_without (t.nsNotice_without f n (List.Subset.refl _)) (by simp))
  unfold State.nsSync
  rw [if_neg (not_not_intro h)]
  constructor
  · intro e
    rw [e, if_neg (by decide), if_neg (by decide), if_pos rfl]
    unfold State.takenOver
    split
    · split
      · rw [notice]
        simp
      · simp
    · simp
  · intro e
    rw [e, if_neg (by decide), if_neg (by decide), if_neg (by decide), if_pos rfl]
    simp

theorem State.nsCopy_creates {m : NsSync} (absent : (s.ns m.nsid).present = false)
    (fits : s.mapFits m.nsid
      (Ns.iuCount { nsze := m.units, ncap := m.units, lba512 := m.lba512, iu4k := m.iu4k, paired := true }) = true) :
    ((s.nsCopy m).ns m.nsid).present = true ∧ ((s.nsCopy m).ns m.nsid).paired = true ∧
    ((s.nsCopy m).ns m.nsid).nsze = m.units := by
  unfold State.nsCopy
  dsimp only
  rw [if_neg (ne_true_of_eq_false absent), if_neg (by exact not_not_intro fits)]
  split <;> simp [State.sendNsSync, State.sendChangeMap]

theorem State.changeMap_joined {n : Nat} (r : List Nat) (here : s.pairedHere n = true) (joined : s.joined = true) :
    ((s.changeMap n r).ns n).prot = 3 ∧ ((s.changeMap n r).ns n).source = false := by
  obtain ⟨present, paired⟩ := Bool.and_eq_true_iff.1 here
  unfold State.changeMap
  rw [if_neg (by simp [present, paired]), if_pos joined]
  simp

theorem State.originSeq_mirror (n : Nat) (kind : MKind) (regions : List Nat) (mk : Nat → LinkMsg) :
    (s.mirror n kind regions mk).mlk.originSeq = s.mlk.originSeq + 1 := by
  unfold State.mirror
  exact State.originSeq_send _ _

end

/-! ## A resync that goes on -/

/-- The parts of the Mirror Link's state that a resync leaves as they are; what it sends only joins the messages without MACK. -/
structure State.Resends (s t : State) : Prop where
  kcvs : t.mlk.kcvs = s.mlk.kcvs
  inbound : t.mlk.inbound = s.mlk.inbound
  keys : t.keys = s.keys
  sent : s.mlk.sent.map (·.seq) <+: t.mlk.sent.map (·.seq)

section
variable {s t u : State}

theorem State.Resends.of_eq (mlk : t.mlk = s.mlk) (keys : t.keys = s.keys) : s.Resends t :=
  ⟨by rw [mlk], by rw [mlk], keys, by rw [mlk]⟩

theorem State.Resends.refl : s.Resends s := .of_eq rfl rfl

theorem State.Resends.trans (h : s.Resends t) (k : t.Resends u) : s.Resends u :=
  ⟨k.kcvs.trans h.kcvs, k.inbound.trans h.inbound, k.keys.trans h.keys, h.sent.trans k.sent⟩

theorem State.Resends.ite {p : Prop} [Decidable p] (h : s.Resends t) (k : s.Resends u) : s.Resends (if p then t else u) := by
  split
  · exact h
  · exact k

theorem State.seqs_send (s : State) (m : LinkMsg) : (s.send m).mlk.sent.map (·.seq) = s.mlk.sent.map (·.seq) := by
  have kept := (congrArg (fun k => k.sent.map (·.seq)) (s.kept_send m) :)
  simpa [Mlk.kept, Function.comp_def] using kept

theorem State.resends_send (s : State) (m : LinkMsg) : s.Resends (s.send m) :=
  ⟨s.kcvs_send m, (congrArg Mlk.inbound (s.kept_send m) :), s.keys_send m, by rw [s.seqs_send]⟩

theorem State.resends_mirror (s : State) (n : Nat) (kind : MKind) (regions : List Nat) (mk : Nat → LinkMsg) :
    s.Resends (s.mirror n kind regions mk) := by
  unfold State.mirror
  refine .trans ?_ (State.resends_send _ _)
  exact ⟨rfl, rfl, rfl, by simp⟩

theorem State.resends_protect (s : State) (n : Nat) : s.Resends (s.protect n) := by
  unfold State.protect
  exact .ite (.ite (.of_eq (State.mlk_raise ..) (State.keys_raise ..)) (.of_eq rfl rfl)) .refl

theorem State.resends_proposeJoin (s : State) : s.Resends s.proposeJoin := by
  unfold State.proposeJoin
  refine .ite (.trans (t := { s with mlk := { s.mlk with joinOwn := some (s.frame + 2) } }) ?_ (State.resends_send _ _)) .refl
  exact ⟨rfl, rfl, rfl, List.prefix_refl _⟩

theorem State.resends_resyncSent (s : State) (n : Nat) : s.Resends (s.resyncSent n) := by
  unfold State.resyncSent
  exact .ite (.trans (.trans (t := s.updNs n _) (.of_eq rfl rfl) (State.resends_send _ _)) (State.resends_protect _ _)) .refl

theorem State.resends_resyncRun (s : State) (n first count : Nat) : s.Resends (s.resyncRun n first count) := by
  unfold State.resyncRun
  exact .ite .refl (.trans (s.resends_mirror ..) (.of_eq rfl rfl))

theorem State.resends_resyncUnit (s : State) (n iu : Nat) (parts : List Nat) : s.Resends (s.resyncUnit n iu parts) :=
  .trans (s.resends_mirror ..) (.of_eq rfl rfl)

theorem State.resends_resyncs (s : State) (l : List (Nat × List Nat)) :
    s.Resends { s with mlk := { s.mlk with resyncs := l } } := ⟨rfl, rfl, rfl, List.prefix_refl _⟩

theorem State.resends_resyncSpend (s : State) (n : Nat) : s.Resends (s.resyncSpend n) := ⟨rfl, rfl, rfl, List.prefix_refl _⟩

theorem resends_resyncPump (k : Nat) (s : State) : s.Resends (resyncPump k s) := by
  induction k generalizing s with
  | zero => exact .refl
  | succ k ih =>
    unfold resyncPump
    split
    · exact .refl
    · next n ius others _ =>
      refine .ite .refl (.ite ((s.resends_resyncs _).trans (ih _)) ?_)
      split
      · exact ((s.resends_resyncs _).trans ((State.resends_resyncSent _ n).trans (State.resends_proposeJoin _))).trans (ih _)
      · next iu rest =>
        dsimp only
        refine .ite (.ite ((s.resends_resyncs _).trans (ih _)) (.ite .refl ?_)) (.ite .refl ?_)
        · exact (((s.resends_resyncRun ..).trans (State.resends_resyncSpend ..)).trans (State.resends_resyncs ..)).trans (ih _)
        · refine (((State.Resends.trans (.ite (s.resends_resyncRun ..) .refl) (State.resends_resyncUnit ..)).trans
            (State.resends_resyncSpend ..)).trans (State.resends_resyncs ..)).trans (ih _)

theorem State.resends_resyncSend (s : State) (n : Nat) (rs : List Nat) : s.Resends (s.resyncSend n rs) :=
  (s.resends_resyncs _).trans (resends_resyncPump _ _)

theorem State.resends_resyncAlone (s : State) (n : Nat) : s.Resends (s.resyncAlone n) := by
  unfold State.resyncAlone State.sendNsSync State.sendChangeMap
  refine .ite ?_ .refl
  refine .trans (.trans (.trans (t := s.updNs n _) ?_ (State.resends_send _ _)) (State.resends_send _ _))
    (State.resends_resyncSend _ _ _)
  exact .of_eq rfl rfl

theorem State.resends_compareKcv (s : State) (n : Nat) : s.Resends (s.compareKcv n) := by
  have unprotected : s.Resends (s.unprotect n) := by
    unfold State.unprotect
    exact .ite (.of_eq rfl rfl) .refl
  unfold State.compareKcv
  exact .ite (.trans (.ite .refl unprotected) (.of_eq (State.mlk_raise ..) (State.keys_raise ..))) .refl

end

theorem State.lookupKey_kcv (s : State) (n : Nat) (v : BitVec 64) : lookupKey n (s.kcv n v).mlk.kcvs = some v := by
  unfold State.kcv
  rw [((State.resends_compareKcv _ n).trans (State.resends_resyncAlone _ n)).kcvs]
  simp [lookupKey]

theorem State.ns_proposeJoin (s : State) (n : Nat) : s.proposeJoin.ns n = s.ns n := by
  unfold State.proposeJoin
  split
  · exact State.ns_send ..
  · rfl

theorem State.resyncDone_ends (s : State) {n : Nat} (resync : (s.ns n).prot = 3) :
    ((s.resyncDone n).ns n).prot = (if s.kcvDiffers n then 2 else 1) ∧ ((s.resyncDone n).ns n).source = false := by
  have protected_ (t : State) (prot : (t.ns n).prot = 3) (sent : (t.ns n).resyncDoneSent = true)
      (got : (t.ns n).resyncDoneGot = true) :
      ((t.protect n).ns n).prot = (if t.kcvDiffers n then 2 else 1) ∧ ((t.protect n).ns n).source = false := by
    have raised (u : State) (ev i : Nat) : (u.raise ev i).ns n = u.ns n := congrArg (Tab.get · n) (u.nss_raise ev i)
    unfold State.protect
    rw [if_pos ⟨prot, sent, got⟩]
    dsimp only
    split <;> simp [raised]
  have kcv (t : State) (m : LinkMsg) : (t.send m).kcvDiffers n = t.kcvDiffers n := by simp [State.kcvDiffers]
  unfold State.resyncDone
  dsimp only
  rw [if_pos resync, State.ns_proposeJoin]
  split
  · exact protected_ _ (by simpa using resync) (by simp) (by simp)
  · have ended := protected_ (((s.updNs n fun x => { x with resyncDoneGot := true, resyncDoneSent := true }).send (.resyncDone n)))
      (by simpa using resync) (by simp) (by simp)
    rwa [kcv] at ended

/-- Settles O29: a message of VC4 or VC5 is taken as its own rule says, and what is sent in answer leaves the rest of the
Mirror Link's state as it is. -/
theorem pairMessages : Obligations.PairMessages := by
  unfold Obligations.PairMessages
  refine ⟨fun s v k b live mirroring fits free => ?_, fun s n live core => ?_, fun s m live mirroring e => ?_,
    fun s m live mirroring e => ?_, fun s m live mirroring e units absent fits => ?_, fun s n r live here joined => ?_,
    fun s n i p live here prot joined part unit => ?_, fun s n live resync => ?_, fun s live => ?_, fun s live => ?_,
    fun s n v live => ?_, fun s live => ?_⟩
  · exact ⟨_, next_whenLive live (if_pos mirroring), s.blobRx_stored fits free⟩
  · exact ⟨_, State.next_byCore live core, rfl⟩
  · exact ⟨_, next_whenLive live rfl, ((s.took 4 0).nsSync_of_mirroring (by simpa using mirroring) m).2 e⟩
  · refine ⟨_, next_whenLive live rfl, ?_⟩
    rw [((s.took 4 0).nsSync_of_mirroring (by simpa using mirroring) m).1 e, State.ns_took]
  · refine ⟨_, next_whenLive live rfl, ?_⟩
    unfold State.nsSync
    rw [if_neg (by simpa using mirroring), if_pos e, if_neg units]
    exact State.nsCopy_creates _ (by simpa using absent) (by simpa using fits)
  · exact ⟨_, next_whenLive live rfl, State.changeMap_joined _ r (by simpa [State.pairedHere] using here) (by simpa using joined)⟩
  · obtain ⟨present, paired⟩ := Bool.and_eq_true_iff.1 here
    refine ⟨_, next_whenLive live rfl, ?_⟩
    unfold State.repairReq
    dsimp only
    rw [if_pos (by simp [present, paired, prot, joined, part, unit]), State.originSeq_mirror, State.originSeq_took]
  · refine ⟨_, next_whenLive live rfl, ?_⟩
    have ended := (s.took 4 0).resyncDone_ends (n := n) (by simpa using resync)
    rwa [State.kcvDiffers_took] at ended
  · refine ⟨_, next_whenLive live rfl, ?_, ?_⟩
    · rw [State.mlk_raise]
      obtain ⟨_, _, _, e⟩ := State.took_eq { s with mlk := { s.mlk with peerHostLost := true } } 5 0
      rw [e]
    · simp +decide
  · refine ⟨_, next_whenLive live rfl, ?_, ?_⟩
    · rw [State.mlk_raise]
      obtain ⟨_, _, _, e⟩ := State.took_eq { s with mlk := { s.mlk with peerHostLost := false } } 5 0
      rw [e]
    · simp +decide
  · exact ⟨_, next_whenLive live rfl, State.lookupKey_kcv _ n v⟩
  · refine ⟨_, next_whenLive live rfl, ?_⟩
    obtain ⟨_, _, _, e⟩ := State.took_eq { s with mlk := { s.mlk with peerDown := true } } 5 0
    rw [e]

end Sys2Proof.Machine
end

section
/-! SUPPORT. Messages of VC0 of the Mirror Link and their MACKs (O28). -/
set_option linter.unusedSimpArgs false
namespace Sys2Proof.Machine

@[simp] theorem State.wrp_send (s : State) (m : LinkMsg) : (s.send m).wrp = s.wrp :=
  wrp_of_without (s.send_without m (List.Subset.refl _)) (by simp)
@[simp] theorem State.keys_settle (s : State) : s.settle.keys = s.keys :=
  keys_of_without (State.settle_without s (List.Subset.refl _)) (by simp)
theorem State.reg_of_settle (s : State) (r : Nat) (h : r / 0x100000 ∉ [8, 13, 15]) : s.settle.reg r = s.reg r :=
  reg_of_without (State.settle_without s (List.Subset.refl _)) (by simpa using h)
@[simp] theorem State.nss_settle (s : State) : s.settle.nss = s.nss :=
  nss_of_without (State.settle_without s (List.Subset.refl _)) (by simp)

/-! ## The registers that a message going out and a write that goes on change -/

@[simp] theorem State.mlk_unmapRun (s : State) (nsid first count : Nat) (own : Bool) : (s.unmapRun nsid first count own).mlk = s.mlk :=
  mlk_of_without (s.unmapRun_without nsid first count own (List.Subset.refl _)) (by simp)
@[simp] theorem State.keys_unmapRun (s : State) (nsid first count : Nat) (own : Bool) : (s.unmapRun nsid first count own).keys = s.keys :=
  keys_of_without (s.unmapRun_without nsid first count own (List.Subset.refl _)) (by simp)
@[simp] theorem State.reg_of_unmapRun (s : State) (nsid first count : Nat) (own : Bool) (r : Nat) (h : r / 0x100000 ∉ [8, 15]) :
    (s.unmapRun nsid first count own).reg r = s.reg r :=
  reg_of_without (s.unmapRun_without nsid first count own (List.Subset.refl _)) (by simpa using h)
@[simp] theorem State.keys_freeStaged (s : State) (nsid : Nat) : (s.freeStaged nsid).keys = s.keys :=
  keys_of_without (s.freeStaged_without nsid (List.Subset.refl _)) (by simp)
@[simp] theorem State.nss_freeStaged (s : State) (nsid : Nat) : (s.freeStaged nsid).nss = s.nss :=
  nss_of_without (s.freeStaged_without nsid (List.Subset.refl _)) (by simp)
@[simp] theorem State.reg_of_freeStaged (s : State) (nsid : Nat) (r : Nat) (h : r / 0x100000 ∉ [8]) :
    (s.freeStaged nsid).reg r = s.reg r :=
  reg_of_without (s.freeStaged_without nsid (List.Subset.refl _)) (by simpa using h)
@[simp] theorem State.keys_retryHeld (s : State) : (s.retryHeld).keys = s.keys :=
  keys_of_without (s.retryHeld_without (List.Subset.refl _)) (by simp)
@[simp] theorem State.reg_of_retryHeld (s : State) (r : Nat) (h : r / 0x100000 ∉ [8, 9, 15]) :
    (s.retryHeld).reg r = s.reg r :=
  reg_of_without (s.retryHeld_without (List.Subset.refl _)) (by simpa using h)

/-- The registers that tell of what waits to go out on the Mirror Link. -/
def sendRegs : List Nat := [Reg.mlkSpillCnt, Reg.mlkEvent, Reg.mlkStatus]

/-- The registers that staged writes change as they are acknowledged and leave. -/
def settleRegs : List Nat :=
  sendRegs ++ [Reg.wrpLocalCompleteCnt, Reg.wrpHoldupWithholdCnt, Reg.wrpStagingUsed, Reg.wrpStagingMirror]

theorem State.RegsBut.after {L : List Nat} {s t u : State} (k : t.RegsBut L u) (h : t.regs = s.regs) : s.RegsBut L u :=
  .trans (.of_regs h) k

section
variable {L : List Nat} (s : State)

theorem State.regsBut_showSpill (h : sendRegs ⊆ L) (before : Nat) : s.RegsBut L (s.showSpill before) := by
  have spilled : s.RegsBut L (s.inc Reg.mlkSpillCnt (s.replayDepth - max 8192 before)) := .inc .refl (h (by decide))
  unfold State.showSpill
  exact .setBit (.ite (.when spilled (.raise .refl (h (by decide)))) .refl) (h (by decide))

theorem State.regsBut_pump (h : sendRegs ⊆ L) : s.RegsBut L s.pump := by
  have each (l : List LinkMsg) (p : State × List Nat) :
      p.1.RegsBut L (l.foldl (fun (p : State × List Nat) m =>
        if p.2.contains m.vc || !p.1.canForm m then
          ({ p.1 with mlk := { p.1.mlk with waiting := p.1.mlk.waiting ++ [m] } }, m.vc :: p.2)
        else (p.1.form m, p.2)) p).1 := by
    induction l generalizing p with
    | nil => exact .refl
    | cons m l ih =>
      rw [List.foldl_cons]
      refine .trans ?_ (ih _)
      split
      · exact .of_regs rfl
      · unfold State.form
        exact (State.regsBut_showSpill _ h _).after rfl
  unfold State.pump
  exact .law ((each _ _).after rfl) (transmit_without _ _ (List.Subset.refl _)) rfl

theorem State.regsBut_send (h : sendRegs ⊆ L) (m : LinkMsg) : s.RegsBut L (s.send m) := by
  have held : s.RegsBut L (State.pump { s with mlk := { s.mlk with waiting := s.mlk.waiting ++ [m] } }) :=
    (State.regsBut_pump _ h).after rfl
  unfold State.send
  split
  iterate 5 exact .of_regs rfl
  all_goals exact .ite held .refl

theorem State.regsBut_showStaging (h : settleRegs ⊆ L) : s.RegsBut L s.showStaging :=
  .setNum (.setNum .refl (h (by decide))) (h (by decide))

theorem State.regsBut_freeWrites (h : settleRegs ⊆ L) (p : SWrite → Bool) : s.RegsBut L (s.freeWrites p) := by
  unfold State.freeWrites
  exact (State.regsBut_showStaging _ h).after rfl

/-! ## Writes that settle -/

/-- What the settling of the staged writes keeps: the state of the Mirror Link but for what goes out, and the number of
the next write. -/
structure State.Settles (s t : State) : Prop where
  link : s.Resends t
  regs : s.RegsBut settleRegs t
  wid : t.wrp.nextWid = s.wrp.nextWid

variable {s} {t u : State}

theorem State.Settles.refl : s.Settles s := ⟨.refl, .refl, rfl⟩

theorem State.Settles.trans (h : s.Settles t) (k : t.Settles u) : s.Settles u :=
  ⟨h.link.trans k.link, h.regs.trans k.regs, k.wid.trans h.wid⟩

theorem State.Settles.of_eq (mlk : t.mlk = s.mlk) (keys : t.keys = s.keys) (regs : t.regs = s.regs)
    (wid : t.wrp.nextWid = s.wrp.nextWid) : s.Settles t := ⟨.of_eq mlk keys, .of_regs regs, wid⟩

theorem State.Settles.ite {p : Prop} [Decidable p] (h : s.Settles t) (k : s.Settles u) : s.Settles (if p then t else u) := by
  split
  · exact h
  · exact k

theorem State.settles_foldl {α : Type} {f : State → α → State} (each : ∀ (s : State) a, s.Settles (f s a)) (l : List α)
    (s : State) : s.Settles (l.foldl f s) := by
  induction l generalizing s with
  | nil => exact .refl
  | cons a l ih => exact (each s a).trans (ih (f s a))

theorem State.settles_inc {off : Nat} (h : off ∈ settleRegs) (s : State) (n : Nat) : s.Settles (s.inc off n) :=
  ⟨.of_eq rfl rfl, .inc .refl h, rfl⟩

theorem State.settles_send (s : State) (m : LinkMsg) : s.Settles (s.send m) :=
  ⟨s.resends_send m, s.regsBut_send (List.subset_append_left ..) m, congrArg Wrp.nextWid (s.wrp_send m)⟩

theorem State.settles_freeWrites (s : State) (p : SWrite → Bool) : s.Settles (s.freeWrites p) :=
  ⟨⟨rfl, rfl, rfl, List.prefix_refl _⟩, s.regsBut_freeWrites (List.Subset.refl _) p, rfl⟩

theorem State.settles_meet (s : State) (c : CmdId) (cause : Nat) : s.Settles (s.meet c cause) := .of_eq rfl rfl rfl rfl

theorem State.settles_noteHeld (s : State) : s.Settles s.noteHeld := by
  refine State.settles_foldl (fun s w => ?_) _ s
  split
  · exact s.settles_meet _ _
  · exact .refl

theorem State.settles_noteWithheld (s : State) : s.Settles s.noteWithheld := by
  unfold State.noteWithheld
  refine .ite .refl (.trans (.trans (State.settles_inc (by decide) s _) (State.settles_foldl (fun s w => ?_) _ _))
    (State.settles_foldl (fun s w => ?_) _ _))
  · exact .of_eq rfl rfl rfl rfl
  · split
    · exact s.settles_meet _ _
    · exact .refl

theorem State.settles_settle (s : State) : s.Settles s.settle := by
  have shown : s.Settles s.showMacked := .of_eq rfl rfl rfl rfl
  unfold State.settle
  extract_lets t ready late u v acks w wrp x done
  have counted : s.Settles u := ((shown.trans (State.settles_noteHeld _)).trans (State.settles_noteWithheld _)).trans
    (State.settles_inc (by decide) _ _)
  have acked : u.Settles v := State.settles_foldl (fun s w => by exact .of_eq rfl rfl rfl rfl) _ _
  have told : v.Settles w := State.settles_foldl (fun s w => by
    dsimp only
    split
    · refine .trans ?_ (State.settles_send _ _)
      exact .of_eq rfl rfl rfl rfl
    · exact .of_eq rfl rfl rfl rfl) _ _
  have verified : w.Settles x := .of_eq rfl rfl rfl rfl
  have ended : x.Settles (done.foldl (fun t c => t.finish c 0) x) :=
    State.settles_foldl (fun s c => by exact .of_eq rfl rfl rfl rfl) _ _
  exact ((((counted.trans acked).trans told).trans verified).trans ended).trans (State.settles_freeWrites _ _)

end


section
variable (s : State)

@[simp] theorem State.ns_settle (n : Nat) : s.settle.ns n = s.ns n := congrArg (Tab.get · n) s.nss_settle
@[simp] theorem State.joined_settle : s.settle.joined = s.joined :=
  congrArg (wordField · 0 3 == 5) (s.settles_settle.regs.reg _ (by decide) (by decide))
@[simp] theorem State.kcvDiffers_settle (n : Nat) : s.settle.kcvDiffers n = s.kcvDiffers n := by
  simp [State.kcvDiffers, s.settles_settle.link.kcvs, s.settles_settle.link.keys]

/-! ## A message without its MACK -/

/-- A namespace that is in a resync, which the partner has not ended, stays in it as resyncs go on. -/
def State.inResync (n : Nat) : Prop := (s.ns n).prot = 3 ∧ (s.ns n).resyncDoneGot = false

variable {s}

theorem State.inResync.of_nss {t : State} {n : Nat} (h : s.inResync n) (e : t.nss = s.nss) : t.inResync n := by
  simpa [State.inResync, State.ns, e] using h

theorem State.inResync.send {n : Nat} (h : s.inResync n) (m : LinkMsg) : (s.send m).inResync n := h.of_nss (s.nss_send m)

theorem State.inResync.ite {t u : State} {n : Nat} {p : Prop} [Decidable p] (h : t.inResync n) (k : u.inResync n) :
    (if p then t else u).inResync n := by
  split
  · exact h
  · exact k

theorem State.inResync.protect {n : Nat} (h : s.inResync n) (k : Nat) : (s.protect k).inResync n := by
  unfold State.protect
  dsimp only
  split
  · next ended =>
    obtain ⟨-, -, got⟩ := ended
    have ne : k ≠ n := by
      rintro rfl
      exact absurd got (by simp [h.2])
    have kept (f : Ns → Ns) : (s.updNs k f).inResync n := by simpa [State.inResync, State.ns_updNs, ne] using h
    exact .ite ((kept _).of_nss (State.nss_raise ..)) (kept _)
  · exact h

theorem State.inResync.proposeJoin {n : Nat} (h : s.inResync n) : s.proposeJoin.inResync n := by
  unfold State.proposeJoin
  refine .ite (.send ?_ _) h
  exact h

theorem State.inResync.resyncSent {n : Nat} (h : s.inResync n) (k : Nat) : (s.resyncSent k).inResync n := by
  have noted : (s.updNs k fun x => { x with resyncDoneSent := true }).inResync n := by
    unfold State.inResync
    rw [State.ns_updNs]
    split <;> exact h
  unfold State.resyncSent
  exact .ite ((noted.send _).protect k) h

theorem State.inResync.resyncRun {n : Nat} (h : s.inResync n) (k first count : Nat) : (s.resyncRun k first count).inResync n := by
  unfold State.resyncRun State.mirror
  refine .ite h (.of_nss (.send ?_ _) rfl)
  exact h

theorem State.inResync.resyncUnit {n : Nat} (h : s.inResync n) (k iu : Nat) (parts : List Nat) :
    (s.resyncUnit k iu parts).inResync n := by
  unfold State.resyncUnit State.mirror
  refine .of_nss (.send ?_ _) rfl
  exact h

theorem State.inResync.pump {n : Nat} (k : Nat) {s : State} (h : s.inResync n) : (resyncPump k s).inResync n := by
  induction k generalizing s with
  | zero => exact h
  | succ k ih =>
    unfold resyncPump
    split
    · exact h
    · next m ius others _ =>
      have waits (t : State) (l : List (Nat × List Nat)) (h : t.inResync n) :
          State.inResync { t with mlk := { t.mlk with resyncs := l } } n := h
      refine .ite h (.ite (ih (waits _ _ h)) ?_)
      split
      · exact ih (((waits _ _ h).resyncSent m).proposeJoin)
      · next iu rest =>
        dsimp only
        refine .ite (.ite (ih (waits _ _ h)) (.ite h (ih (waits _ _ ?_)))) (.ite h (ih (waits _ _ ?_)))
        · exact h.resyncRun ..
        · exact (State.inResync.ite (h.resyncRun ..) h).resyncUnit ..

theorem State.inResync.resyncSend {n : Nat} (h : s.inResync n) (k : Nat) (rs : List Nat) : (s.resyncSend k rs).inResync n := by
  unfold State.resyncSend
  refine .pump _ ?_
  exact h

variable (s)

/-- A message without MACK leaves its namespace unprotected, or in a resync of its own (R493). -/
theorem State.prot_mackFailed (m : Mirrored) (paired : (s.ns m.nsid).paired = true) :
    ((s.mackFailed m).ns m.nsid).prot =
      (if s.joined && (s.ns m.nsid).attached.isSome && !s.kcvDiffers m.nsid then 3 else 2) := by
  unfold State.mackFailed
  rw [if_pos paired]
  have alone (t : State) (n : Nat) (paired : (t.ns n).paired = true) (prot : (t.ns n).prot = 2) :
      ((t.resyncAlone n).ns n).prot = (if t.joined && (t.ns n).attached.isSome && !t.kcvDiffers n then 3 else 2) := by
    have begun : (t.updNs n fun x => { x with
        prot := 3, source := true, resyncDoneSent := false, resyncDoneGot := false }).inResync n := by simp [State.inResync]
    have all : (t.joined = true ∧ (t.ns n).paired = true ∧ (t.ns n).prot = 2 ∧ (t.ns n).attached.isSome = true ∧
        ¬ t.kcvDiffers n = true) ↔ (t.joined && (t.ns n).attached.isSome && !t.kcvDiffers n) = true := by
      simp [paired, prot, and_assoc]
    unfold State.resyncAlone State.sendNsSync State.sendChangeMap
    dsimp only
    simp only [all]
    split
    · exact (State.inResync.resyncSend (.send (.send begun _) _) _ _).1
    · exact prot
  have unprotected : s.unprotect m.nsid = s.updNs m.nsid fun n => { n with
      prot := 2, source := false, copied := false, resyncDoneSent := false, resyncDoneGot := false } := if_pos paired
  have kcv (n : Nat) (f : Ns → Ns) (t : State) : (t.updNs n f).kcvDiffers m.nsid = t.kcvDiffers m.nsid := rfl
  have join (n : Nat) (f : Ns → Ns) (t : State) : (t.updNs n f).joined = t.joined := rfl
  rw [alone _ _ (by simp [unprotected, State.markRegions, paired]) (by simp [unprotected, State.markRegions])]
  simp [unprotected, State.markRegions, kcv, join]

theorem State.resends_mackFailed (m : Mirrored) : s.Resends (s.mackFailed m) := by
  have unprotected : s.Resends (s.unprotect m.nsid) := by
    unfold State.unprotect
    exact .ite (.of_eq rfl rfl) .refl
  have marked : s.Resends ((s.unprotect m.nsid).markRegions m.nsid m.regions) := unprotected.trans (.of_eq rfl rfl)
  unfold State.mackFailed
  exact .trans (.trans (.ite marked .refl) (State.settles_settle _).link) (State.resends_resyncAlone _ _)

theorem State.sent_took (vc blocks : Nat) : (s.took vc blocks).mlk.sent = s.mlk.sent := by
  obtain ⟨_, _, _, e⟩ := s.took_eq vc blocks
  rw [e]

theorem State.sent?_took (vc blocks q : Nat) : (s.took vc blocks).sent? q = s.sent? q := by
  simp [State.sent?, State.sent_took]

/-- A message that is no longer without MACK is gone, and what goes out after it stands behind the others. -/
theorem State.Resends.unsent {s t : State} {q : Nat} (h : (s.unsend q).Resends t) :
    (((s.mlk.sent.filter (fun (x : Mirrored) => x.seq != q)).map (fun (x : Mirrored) => x.seq)).isPrefixOf
      (t.mlk.sent.map (fun (x : Mirrored) => x.seq)) = true) :=
  List.isPrefixOf_iff_prefix.2 h.sent

end

section
variable (s : State) {q : Nat} {m : Mirrored}

theorem State.mack_ends (sent : s.sent? q = some m) {e : Nat} (ok : e ≠ 2) : (s.unsend q).Resends (s.mack q e) := by
  unfold State.mack
  rw [sent]
  dsimp only
  rw [if_neg ok]
  split
  · exact ((State.resends_resyncSent _ _).trans (State.resends_proposeJoin _)).trans (State.settles_settle _).link
  · exact (State.settles_settle _).link

theorem State.mack_rejected (sent : s.sent? q = some m) : s.mack q 2 = (s.unsend q).mackFailed m := by
  unfold State.mack
  rw [sent]
  exact if_pos rfl

theorem State.mackTimeout_due (sent : s.sent? q = some m) (joined : s.joined = true)
    (due : m.sentAt.any (· + 5000000 ≤ s.now) = true) : s.mackTimeout q = (s.unsend q).mackFailed m := by
  unfold State.mackTimeout
  rw [sent]
  exact if_pos ⟨joined, due⟩

theorem State.mackTimeout_early (sent : s.sent? q = some m)
    (early : m.sentAt.all (fun a => decide (s.now < a + 5000000)) = true) : s.mackTimeout q = s := by
  unfold State.mackTimeout
  rw [sent]
  refine if_neg fun ⟨_, late⟩ => ?_
  obtain ⟨a, e, late⟩ := (Option.any_eq_true _ _).1 late
  have early := (Option.all_eq_true _ _).1 early a e
  exact Nat.lt_irrefl _ (Nat.lt_of_lt_of_le (of_decide_eq_true early) (of_decide_eq_true late))

end

/-! ## A message of VC0 that is taken -/

section
variable {s t u : State}

theorem State.settles_destage (s : State) (w : SWrite) : s.Settles (s.destage w) := by
  have placed (k : Nat) (s : State) (lane : Nat) (moved : Bool) (us : List (Nat × Nat)) :
      s.Settles (placeIu k s lane moved us) := by
    induction k generalizing s with
    | zero => exact .refl
    | succ k ih =>
      unfold placeIu
      dsimp only
      split
      · refine .trans ?_ (ih _)
        exact .of_eq rfl rfl rfl rfl
      · exact .ite (.of_eq rfl rfl rfl rfl) (.of_eq rfl rfl rfl rfl)
  have whole (s : State) (w : SWrite) (iu : Nat) : s.Settles (s.placeWhole w iu) := by
    refine .trans ?_ (placed ..)
    exact .of_eq rfl rfl rfl rfl
  have read (s : State) (f : SWrite → SWrite) (k : Nat) : s.Settles (s.updWrite k f).showStaging :=
    ⟨⟨rfl, rfl, rfl, List.prefix_refl _⟩, (State.regsBut_showStaging _ (List.Subset.refl _)).after rfl, rfl⟩
  refine State.settles_foldl (fun s iu => ?_) _ s
  unfold State.destageIu
  split
  · exact .refl
  · exact .ite .refl (.ite (whole ..) (.ite .refl (.ite ((read ..).trans (whole ..)) (read ..))))

theorem State.settles_dropRepairs (s : State) : s.Settles s.dropRepairs := by
  unfold State.dropRepairs State.purge
  refine .trans ?_ (State.settles_freeWrites _ _)
  exact .of_eq rfl rfl rfl rfl

/-- A write of the partner that becomes staged is counted. -/
theorem State.becomeStaged_mirror (s : State) {w : SWrite} (partner : w.origin = .mirror) (new : w.from_ = none) :
    ∃ t : State, t.mlk = s.mlk ∧ t.keys = s.keys ∧ t.wrp.nextWid = s.wrp.nextWid ∧
      t.num Reg.wrpMirrorInCnt = satAdd 32 (s.num Reg.wrpMirrorInCnt) w.units.length ∧ t.Settles (s.becomeStaged w) := by
  unfold State.becomeStaged
  extract_lets units hit wrp t w' counted t₁ t₂ n t₃ t₄ t₅
  have other : ¬ w'.origin = .own := fun h => Origin.noConfusion (partner.symm.trans h)
  have e₁ : t₁ = t.noteWa 0 units.length := if_pos (by simp [counted, w', partner])
  have e₂ : t₂ = t₁.inc Reg.wrpMirrorInCnt units.length := (if_neg other).trans (if_pos partner)
  have e₃ : t₃ = t₂ := if_neg other
  have e₄ : t₄ = t₃ := if_neg other
  have e₅ : t₅ = t₄.dropRepairs := if_pos (by simp [w', new])
  refine ⟨t₂, by rw [e₂, e₁]; rfl, by rw [e₂, e₁]; rfl, by rw [e₂, e₁]; rfl, ?_, .trans (t := t₅) ?_ ?_⟩
  · rw [e₂, e₁]
    simp [State.noteWa, t, ↓State.reg_mk, units]
  · rw [e₅, e₄, e₃]
    exact State.settles_dropRepairs _
  · split
    · exact State.settles_destage _ _
    · exact .refl

theorem State.took_wrp (s : State) (vc blocks : Nat) : (s.took vc blocks).wrp = s.wrp :=
  wrp_of_without (s.took_without vc blocks (List.Subset.refl _)) (by simp)

theorem State.inbound_took (s : State) (vc blocks : Nat) : (s.took vc blocks).mlk.inbound = s.mlk.inbound := by
  obtain ⟨_, _, _, e⟩ := s.took_eq vc blocks
  rw [e]

theorem State.applyMwrite_stages (s : State) (m : MWrite) :
    (s.applyMwrite m).mlk.inbound = s.mlk.inbound ∧ (s.applyMwrite m).wrp.nextWid = s.wrp.nextWid + 1 ∧
    (s.applyMwrite m).num Reg.wrpMirrorInCnt = satAdd 32 (s.num Reg.wrpMirrorInCnt)
      ((List.range (s.ns m.nsid).parts).filter (m.unitMask.testBit ·)).length := by
  unfold State.applyMwrite
  extract_lets n parts w t
  obtain ⟨u, mlk, -, wid, count, staged⟩ := t.becomeStaged_mirror (w := w) rfl rfl
  have settled := staged.trans (State.settles_settle _)
  have started : t.num Reg.wrpMirrorInCnt = s.num Reg.wrpMirrorInCnt := by
    simp +decide [t, State.addWrite, State.showStaging, ↓State.reg_mk]
  refine ⟨?_, ?_, ?_⟩
  · rw [settled.link.inbound, mlk]
    exact s.inbound_took 0 _
  · rw [settled.wid, wid]
    exact congrArg (·.nextWid + 1) (s.took_wrp 0 _)
  · rw [State.num_eq, settled.regs.reg _ (by decide) (by decide), ← State.num_eq, count, started]
    simp [w, parts, n]

/-- A message of VC0 is applied where there is room for it, and waits otherwise. -/
theorem State.takeMirror_alone (s : State) (free : s.mlk.inbound = []) (i : InMirror) :
    s.takeMirror i = (s.applyMirror i).getD { s with mlk := { s.mlk with inbound := [i] } } := by
  have same : { s with mlk := { s.mlk with inbound := [] } } = s := by rw [← free]
  unfold State.takeMirror
  rw [free]
  dsimp only [List.nil_append, List.length_singleton]
  unfold drainInbound
  dsimp only
  rw [same]
  rcases s.applyMirror i with _ | t
  · rfl
  · rfl

theorem State.mwrite_staged (s : State) {m : MWrite} (ok : m.lengthOk = true) (here : s.pairedHere m.nsid = true)
    (mask : m.unitMask % 256 ≠ 0) (fits : m.unitMask < 2 ^ (s.ns m.nsid).parts) (unit : m.index < (s.ns m.nsid).iuCount)
    (free : s.mlk.inbound = []) :
    s.mwrite m = if bitCount m.unitMask ≤ s.mirrorFree then s.applyMwrite m
      else { s with mlk := { s.mlk with inbound := [.mwrite m] } } := by
  unfold State.mwrite
  dsimp only
  rw [if_neg (not_not_intro ok), if_neg (not_not_intro here), if_neg (by omega), State.takeMirror_alone _ free]
  unfold State.applyMirror
  dsimp only
  split <;> rfl

theorem State.badMirror_counts (s : State) (q : Nat) :
    (s.badMirror q).num Reg.mlkBadMsgCnt = satAdd 32 (s.num Reg.mlkBadMsgCnt) 1 ∧
    (s.badMirror q).mlk.inbound = s.mlk.inbound := by
  unfold State.badMirror
  constructor
  · rw [State.num_eq, (State.regsBut_send _ (List.Subset.refl _) _).reg _ (by decide) (by decide)]
    simp +decide
  · rw [(State.resends_send _ _).inbound, State.mlk_countErr]

/-- A unit that no entry of the map names is unmapped. -/
theorem get_of_lookupKey_none (t : MapTab) {k : Nat} (h : lookupKey k t.entries = none) : t.get k = unmappedEntry := by
  rw [Tab.get, h, Option.getD_none, unmappedAt]

theorem State.map_touchRun (s : State) (n first count : Nat) : (s.touchRun n first count false).wrp.map = s.wrp.map := by
  have each (l : List Nat) (lo : Nat) (s : State) : (l.foldl (fun t k => t.touchSegment (lo + k)) s).wrp.map = s.wrp.map := by
    induction l generalizing s with
    | nil => rfl
    | cons k l ih =>
      rw [List.foldl_cons, ih]
      unfold State.touchSegment
      split <;> rfl
  exact each _ _ s

theorem State.unmapRun_eq (s : State) (n first count : Nat) (own : Bool) (h : count ≠ 0) :
    ∃ (t : State) (l : List (Nat × Nat)), s.unmapRun n first count own = State.touchRun { t with wrp := { t.wrp with
      map := ⟨l.filter fun e => !(decide (mapKey n first ≤ e.1) && decide (e.1 < mapKey n (first + count)))⟩ } } n first count own := by
  unfold State.unmapRun
  exact ⟨_, _, if_neg h⟩

theorem State.get_map_unmapRun (s : State) (n first count : Nat) (h : 1 ≤ count) :
    (s.unmapRun n first count false).wrp.map.get (mapKey n first) = unmappedEntry := by
  have inside : mapKey n first < mapKey n (first + count) := Nat.add_lt_add_left (Nat.lt_add_of_pos_right h) _
  obtain ⟨t, l, e⟩ := s.unmapRun_eq n first count false (Nat.ne_of_gt h)
  rw [e, State.map_touchRun]
  exact get_of_lookupKey_none _ (lookupKey_filter_none (α := Nat)
    (p := fun k => !(decide (mapKey n first ≤ k) && decide (k < mapKey n (first + count)))) (by simp [inside]) l)

theorem State.mmap_unmaps (s : State) {m : MMap} (here : s.pairedHere m.nsid = true) (act : m.action = 1) (some_ : 1 ≤ m.count)
    (fits : m.index + m.count ≤ (s.ns m.nsid).iuCount) (free : s.mlk.inbound = []) :
    (s.mmap m).wrp.map.get (mapKey m.nsid m.index) = unmappedEntry ∧ (s.mmap m).mlk.inbound = [] := by
  unfold State.mmap
  dsimp only
  rw [if_neg (not_not_intro here), if_neg (by omega), State.takeMirror_alone _ free]
  unfold State.applyMirror State.applyMmap
  dsimp only [Option.getD_some]
  rw [if_pos act]
  refine ⟨?_, ?_⟩
  · rw [State.wrp_send, State.get_map_unmapRun _ _ _ _ some_]
  · rw [(State.resends_send _ _).inbound, State.mlk_unmapRun, State.inbound_took, free]

theorem State.merase_takes (s : State) {n : Nat} (q : Nat) (here : s.pairedHere n = true) (free : s.mlk.inbound = []) :
    ((s.merase n q).keys.get n).state = 0 ∧ (s.merase n q).num Reg.tcyEraseCnt = satAdd 32 (s.num Reg.tcyEraseCnt) 1 := by
  obtain ⟨-, paired⟩ := Bool.and_eq_true_iff.1 here
  have failed (l : List CmdId) (t : State) : (l.foldl (fun t c => t.failCmd c (nvmeStatus 0 0x82)) t).without _ = t.without _ :=
    without_foldl (fun t c => t.failCmd_without c _ (List.Subset.refl _)) l t
  unfold State.merase
  rw [if_pos here, State.takeMirror_alone _ free]
  unfold State.applyMirror State.applyMerase State.cryptoErase State.setKey
  dsimp only [Option.getD_some]
  rw [State.ns_took, paired]
  simp only [Bool.not_true, Bool.and_false, Bool.false_eq_true, if_false]
  constructor
  · rw [State.keys_send, State.keys_settle, State.keys_retryHeld, keys_of_without (failed _ _) (by simp)]
    simp [State.showSlots]
  · rw [State.num_eq, State.reg_of_send _ _ _ (by decide), State.reg_of_settle _ _ (by decide), State.reg_of_retryHeld _ _ (by decide),
      reg_of_without (failed _ _) (by decide)]
    simp +decide [State.showSlots, ↓State.reg_mk]

end

/-- Settles O28: what is sent after a MACK, and as the staged writes settle, only joins the messages without MACK, and a
message that is taken is applied by its own rule. -/
theorem mirroredWrites : Obligations.MirroredWrites := by
  unfold Obligations.MirroredWrites
  refine ⟨fun s q e m live sent ok => ?_, fun s q m live sent paired => ?_, fun s q e live none => ?_,
    fun s q a m live sent joined at_ due paired => ?_, fun s q m live sent early => ?_, fun s m live mirroring bad => ?_,
    fun s m live mirroring ok here mask fits unit free => ?_, fun s m live mirroring here act some_ fits free => ?_,
    fun s n q live mirroring here free => ?_⟩
  · have ended := (s.took 1 0).mack_ends ((s.sent?_took 1 0 q).trans sent) ok
    refine ⟨_, next_whenLive live rfl, ?_⟩
    rw [← s.sent_took 1 0]
    exact ended.unsent
  · refine ⟨_, next_whenLive live ((s.took 1 0).mack_rejected ((s.sent?_took 1 0 q).trans sent)), ?_⟩
    rw [← s.sent_took 1 0]
    refine ⟨?_, (State.resends_mackFailed _ m).unsent⟩
    have same (n : Nat) : ((s.took 1 0).unsend q).ns n = s.ns n := s.ns_took 1 0 n
    have joined : ((s.took 1 0).unsend q).joined = s.joined := s.joined_took 1 0
    have kcv (n : Nat) : ((s.took 1 0).unsend q).kcvDiffers n = s.kcvDiffers n := s.kcvDiffers_took 1 0 n
    rw [State.prot_mackFailed _ m (by rw [same, paired]), same, joined, kcv]
  · refine ⟨_, next_whenLive live rfl, ?_⟩
    unfold State.mack
    rw [State.sent?_took, none]
    exact s.sent_took 1 0
  · refine ⟨_, next_whenLive live (s.mackTimeout_due sent joined ((Option.any_eq_true _ _).2 ⟨a, at_, decide_eq_true due⟩)), ?_⟩
    refine ⟨?_, (State.resends_mackFailed _ m).unsent⟩
    have same (n : Nat) : (s.unsend q).ns n = s.ns n := rfl
    have kcv (n : Nat) : (s.unsend q).kcvDiffers n = s.kcvDiffers n := rfl
    have join : (s.unsend q).joined = s.joined := rfl
    rw [State.prot_mackFailed _ m (by rw [same, paired]), same, join, kcv]
  · exact ⟨s, next_whenLive live (s.mackTimeout_early sent early), rfl⟩
  · refine ⟨_, next_whenLive live (if_pos mirroring), ?_⟩
    obtain ⟨count, inbound⟩ := (s.took 0 0).badMirror_counts m.originSeq
    unfold State.mwrite
    dsimp only
    rw [if_pos (by simp [bad]), count, inbound, s.inbound_took]
    exact ⟨by simp, rfl⟩
  · refine ⟨_, next_whenLive live ((if_pos mirroring).trans (s.mwrite_staged ok here mask fits unit free)), ?_⟩
    obtain ⟨inbound, wid, count⟩ := s.applyMwrite_stages m
    split
    · exact ⟨inbound.trans free, wid, fun _ => count⟩
    · next no => exact ⟨rfl, rfl, fun room => absurd room no⟩
  · exact ⟨_, next_whenLive live (if_pos mirroring), s.mmap_unmaps here act some_ fits free⟩
  · exact ⟨_, next_whenLive live (if_pos mirroring), s.merase_takes q here free⟩

end Sys2Proof.Machine
end

section
/-! SUPPORT. The partner is lost and rejoins, and the roles of a pair (O27). -/
set_option linter.unusedSimpArgs false
namespace Sys2Proof.Machine

@[simp] theorem State.ftb_driveFence (s : State) (high : Bool) : (s.driveFence high).ftb = s.ftb :=
  ftb_of_without (s.driveFence_without high (List.Subset.refl _)) (by simp) (by simp)
@[simp] theorem State.ftb_aroundsFallBack (s : State) (ended : Bool) : (s.aroundsFallBack ended).ftb = s.ftb :=
  ftb_of_without (s.aroundsFallBack_without ended (List.Subset.refl _)) (by simp) (by simp)
@[simp] theorem State.ftb_endSession (s : State) : (s.endSession).ftb = s.ftb :=
  ftb_of_without (s.endSession_without (List.Subset.refl _)) (by simp) (by simp)

@[simp] theorem State.reg_of_showAround (s : State) (r : Nat) (h : r / 0x100000 ∉ [7]) :
    (s.showAround).reg r = s.reg r :=
  reg_of_without (s.showAround_without (List.Subset.refl _)) (by simpa using h)

/-! ## What the read and write paths leave of the pair -/

/-- The part of the Mirror Link's state that tells how the chip stands to its partner: without the messages that go out. -/
def Mlk.pairing (k : Mlk) : Mlk := { k.kept with originSeq := 0, sent := [] }

/-- The registers that tell of the partner and of the link to it. -/
def pairRegs : List Nat := [Reg.mlkEvent, Reg.mlkPairState, Reg.mlkPartnerSerialLo, Reg.mlkStatus]

/-- The registers of the pair stay, and what has shown in MLK_STATUS and MLK_EVENT stays shown, but for the spill of
messages that wait. -/
structure State.PairRegs (s t : State) : Prop where
  pair : t.reg Reg.mlkPairState = s.reg Reg.mlkPairState
  serial : t.reg Reg.mlkPartnerSerialLo = s.reg Reg.mlkPartnerSerialLo
  shows : ∀ lo w, lo + w ≤ 13 → t.field Reg.mlkStatus lo w = s.field Reg.mlkStatus lo w
  events : ∀ i, s.bit Reg.mlkEvent i = true → t.bit Reg.mlkEvent i = true

/-- The chip stands to its partner as it did. -/
structure State.PairKept (s t : State) : Prop extends s.PairRegs t where
  pairing : t.mlk.pairing = s.mlk.pairing

/-- A part that holds nothing of the Mirror Link. -/
def Part.offLink : Part → Bool
  | .mlk => false
  | .regs page => page != 13
  | _ => true

section
variable {s t u : State}

theorem State.PairRegs.status (h : s.PairRegs t) (i : Nat) (lt : i < 13) : t.bit Reg.mlkStatus i = s.bit Reg.mlkStatus i :=
  congrArg (· == 1) (h.shows i 1 lt)

theorem State.PairRegs.refl : s.PairRegs s := ⟨rfl, rfl, fun _ _ _ => rfl, fun _ h => h⟩

theorem State.PairRegs.trans (h : s.PairRegs t) (k : t.PairRegs u) : s.PairRegs u :=
  ⟨k.pair.trans h.pair, k.serial.trans h.serial, fun lo w le => (k.shows lo w le).trans (h.shows lo w le),
    fun i on => k.events i (h.events i on)⟩

theorem State.PairRegs.of_regs (h : ∀ r, r / 0x100000 = 13 → t.reg r = s.reg r) : s.PairRegs t :=
  ⟨h _ (by decide), h _ (by decide), fun lo w _ => congrArg (wordField · lo w) (h _ (by decide)),
    fun i on => (congrArg (wordField · i 1 == 1) (h Reg.mlkEvent (by decide))).trans on⟩

theorem State.PairKept.refl : s.PairKept s := ⟨.refl, rfl⟩

theorem State.PairKept.trans (h : s.PairKept t) (k : t.PairKept u) : s.PairKept u :=
  ⟨h.toPairRegs.trans k.toPairRegs, k.pairing.trans h.pairing⟩

theorem State.PairKept.ite {p : Prop} [Decidable p] (h : s.PairKept t) (k : s.PairKept u) : s.PairKept (if p then t else u) := by
  split
  · exact h
  · exact k

/-- A step whose law lists nothing of the Mirror Link leaves the pair as it is. -/
theorem State.PairKept.of_law {W : List Part} (law : t.without W = s.without W) (off : W.all Part.offLink = true) :
    s.PairKept t := by
  have apart (p : Part) (mem : p ∈ W) : p.offLink = true := List.all_eq_true.1 off p mem
  refine ⟨.of_regs fun r page => reg_of_without law fun mem => ?_, congrArg Mlk.pairing (mlk_of_without law fun mem => ?_)⟩
  · simpa [Part.offLink, page] using apart _ mem
  · exact absurd (apart _ mem) (by decide)

theorem State.PairKept.of_eq (mlk : t.mlk = s.mlk) (regs : t.regs = s.regs) : s.PairKept t :=
  ⟨.of_regs fun r _ => congrArg (Tab.get · r) regs, congrArg Mlk.pairing mlk⟩

theorem State.pairKept_foldl {α : Type} {f : State → α → State} (each : ∀ (s : State) a, s.PairKept (f s a)) (l : List α)
    (s : State) : s.PairKept (l.foldl f s) := by
  induction l generalizing s with
  | nil => exact .refl
  | cons a l ih => exact (each s a).trans (ih (f s a))

/-- A register that is none of those of the pair may be written. -/
theorem State.PairKept.of_reg (mlk : t.mlk = s.mlk) (h : ∀ r ∈ pairRegs, t.reg r = s.reg r) : s.PairKept t := by
  have event := h Reg.mlkEvent (by decide)
  refine ⟨⟨h _ (by decide), h _ (by decide), fun lo w _ => congrArg (wordField · lo w) (h _ (by decide)), fun i on => ?_⟩,
    congrArg Mlk.pairing mlk⟩
  exact (congrArg (wordField · i 1 == 1) event).trans on

theorem State.PairKept.setReg (s : State) {off : Nat} (h : off ∉ pairRegs) (v : Word) : s.PairKept (s.setReg off v) :=
  .of_reg rfl fun r mem => by rw [State.reg_of_setReg, if_neg (by rintro rfl; exact h mem)]

theorem State.PairKept.inc (s : State) {off : Nat} (h : off ∉ pairRegs) (n : Nat) :
    s.PairKept (s.inc off n) := .setReg s h _

theorem State.PairKept.setNum (s : State) {off : Nat} (h : off ∉ pairRegs) (v : Nat) :
    s.PairKept (s.setNum off v) := .setReg s h _

theorem State.PairKept.setBit (s : State) {off : Nat} (h : off ∉ pairRegs) (i : Nat)
    (b : Bool) : s.PairKept (s.setBit off i b) := .setReg s h _

/-- A bit that is set stays set as another is. -/
theorem wordField_setBit_mono (r : Word) {i k : Nat} (lt : i < 32) (on : wordField r k 1 = 1) :
    wordField (setWordField r i 1 1) k 1 = 1 := by
  rcases Nat.lt_trichotomy i k with h | rfl | h
  · rw [wordField_setWordField_disjoint r i 1 k 1 1 (.inr h), on]
  · exact wordField_setWordField r i 1 1 lt
  · rw [wordField_setWordField_disjoint r i 1 k 1 1 (.inl h), on]

theorem State.PairKept.raise (s : State) {ev i : Nat} (h : ev ∉ pairRegs.tail) (lt : i < 32) :
    s.PairKept (s.raise ev i) := by
  have kept (r : Nat) (mem : r ∈ pairRegs.tail) (page : r / 0x100000 ≠ 15) : (s.raise ev i).reg r = s.reg r := by
    rw [State.reg_of_raise _ _ _ _ page, if_neg (by rintro rfl; exact h mem)]
  refine ⟨⟨kept _ (by decide) (by decide), kept _ (by decide) (by decide), fun lo w _ => ?_, fun k on => ?_⟩,
    congrArg Mlk.pairing (s.mlk_raise ev i)⟩
  · exact congrArg (wordField · lo w) (kept _ (by decide) (by decide))
  · rw [State.bit_eq, State.reg_of_raise _ _ _ _ (by decide)]
    split
    · exact beq_iff_eq.2 (wordField_setBit_mono _ lt (beq_iff_eq.1 on))
    · exact on

theorem State.PairKept.countErr (s : State) {b : Block} {off inst fn : Nat} {detail : List Word} (h : off ∉ pairRegs) :
    s.PairKept (s.countErr b off inst fn detail) := by
  have quiet : ∀ r ∈ pairRegs, logReg r = false := by decide
  exact .of_reg (s.mlk_countErr ..) fun r mem => s.reg_countErr_ne _ _ _ _ _ _ (quiet r mem) (by rintro rfl; exact h mem)

theorem State.pairKept_showSpill (s : State) (before : Nat) : s.PairKept (s.showSpill before) := by
  have shown (t : State) (b : Bool) : t.PairKept (t.setBit Reg.mlkStatus 13 b) := by
    have kept (r : Nat) (ne : Reg.mlkStatus ≠ r) : (t.setBit Reg.mlkStatus 13 b).reg r = t.reg r := by
      rw [State.reg_of_setBit, if_neg ne]
    refine ⟨⟨kept _ (by decide), kept _ (by decide), fun lo w le => ?_, fun i on => ?_⟩, rfl⟩
    · rw [State.field_eq, State.reg_of_setBit, if_pos rfl, wordField_setWordField_disjoint _ _ _ _ _ _ (.inl le), State.field_eq]
    · exact (congrArg (wordField · i 1 == 1) (kept Reg.mlkEvent (by decide))).trans on
  unfold State.showSpill State.when
  refine .trans (.ite ?_ .refl) (shown _ _)
  exact .trans (.inc s (by decide) _) (.ite (.raise _ (by decide) (by decide)) .refl)

theorem State.pairKept_pump (s : State) : s.PairKept s.pump := by
  have each (l : List LinkMsg) (p : State × List Nat) :
      p.1.PairRegs (l.foldl (fun (p : State × List Nat) m =>
        if p.2.contains m.vc || !p.1.canForm m then
          ({ p.1 with mlk := { p.1.mlk with waiting := p.1.mlk.waiting ++ [m] } }, m.vc :: p.2)
        else (p.1.form m, p.2)) p).1 := by
    induction l generalizing p with
    | nil => exact .refl
    | cons m l ih =>
      rw [List.foldl_cons]
      refine .trans ?_ (ih _)
      split
      · exact .of_regs fun _ _ => rfl
      · unfold State.form
        refine .trans ?_ (State.pairKept_showSpill _ _).toPairRegs
        exact .of_regs fun _ _ => rfl
  refine ⟨?_, congrArg (fun k : Mlk => { k with originSeq := 0, sent := [] }) s.kept_pump⟩
  unfold State.pump
  refine .trans (.trans ?_ (each _ _)) (.of_regs fun r _ => reg_of_without (transmit_without _ _ (List.Subset.refl _)) (by simp))
  exact .of_regs fun _ _ => rfl

theorem State.pairKept_send (s : State) (m : LinkMsg) : s.PairKept (s.send m) := by
  have held : s.PairKept (State.pump { s with mlk := { s.mlk with waiting := s.mlk.waiting ++ [m] } }) := by
    refine .trans ?_ (State.pairKept_pump _)
    exact ⟨.of_regs fun _ _ => rfl, rfl⟩
  unfold State.send
  split
  iterate 5 exact .of_eq rfl rfl
  all_goals exact .ite held .refl

theorem State.pairKept_mirror (s : State) (n : Nat) (kind : MKind) (regions : List Nat) (mk : Nat → LinkMsg) :
    s.PairKept (s.mirror n kind regions mk) := by
  unfold State.mirror
  refine .trans ?_ (State.pairKept_send _ _)
  exact ⟨.of_regs fun _ _ => rfl, rfl⟩

theorem State.pairKept_becomeStaged (s : State) (w : SWrite) : s.PairKept (s.becomeStaged w) := by
  unfold State.becomeStaged
  extract_lets units hit wrp t w' counted t₁ t₂ n t₃ t₄ t₅
  have e₁ : s.PairKept t₁ := .ite (.of_eq rfl rfl) (.of_eq rfl rfl)
  have e₂ : t₁.PairKept t₂ := .ite (.inc _ (by decide) _) (.ite (.inc _ (by decide) _) .refl)
  have e₃ : t₂.PairKept t₃ := .ite (State.pairKept_foldl (fun t iu => .of_law (t.noteChange_without _ _ (List.Subset.refl _)) rfl) _ _) .refl
  have e₄ : t₃.PairKept t₄ := by
    refine .ite ?_ .refl
    unfold State.mirrorWrite
    exact .ite (.trans (State.pairKept_foldl (fun t iu => t.pairKept_mirror ..) _ _) (.inc _ (by decide) _)) .refl
  have e₅ : t₄.PairKept t₅ := .ite (.of_law (t₄.dropRepairs_without (List.Subset.refl _)) rfl) .refl
  refine .trans ((((e₁.trans e₂).trans e₃).trans e₄).trans e₅) ?_
  split
  · exact .of_law (State.destage_without _ _ (List.Subset.refl _)) rfl
  · exact .refl

theorem State.pairKept_takeRepairs (s : State) : s.PairKept s.takeRepairs := by
  refine State.pairKept_foldl (fun t w => ?_) _ s
  dsimp only
  refine .ite (.of_eq rfl rfl) (.ite .refl ?_)
  have added (u : State) (w : SWrite) : u.PairKept (u.addWrite w) := .of_law (u.addWrite_without w (List.Subset.refl _)) rfl
  have left : t.PairKept { t with rdp := { t.rdp with repairs := t.rdp.repairs.erase w } } := .of_eq rfl rfl
  split
  · exact (left.trans (added _ w)).trans (State.pairKept_becomeStaged _ _)
  · exact left.trans (added _ w)

theorem State.pairKept_recovered (s : State) (x : Cmd) (r : RUnit) : s.PairKept (s.recovered x r) := by
  unfold State.recovered
  extract_lets t t₁ t₂ w u rdp t₃
  have e : s.PairKept t := (State.PairKept.of_law (s.leaveSoft_without x.id r.unit (List.Subset.refl _)) rfl).trans
    (.of_law (State.toPhase_without _ _ _ _ (List.Subset.refl _)) rfl)
  have e₁ : t.PairKept t₁ := .ite .refl (.ite (.trans (.inc _ (by decide) _) (.of_eq rfl rfl)) (.ite (.inc _ (by decide) _)
    (.trans (.inc _ (by decide) _) (.raise _ (by decide) (by decide)))))
  have e₂ : t₁.PairKept t₂ := .ite (.of_eq rfl rfl) .refl
  have e₃ : t₂.PairKept t₃ := .ite (.trans (.inc _ (by decide) _) (.of_eq rfl rfl)) .refl
  exact ((((e.trans e₁).trans e₂).trans e₃).trans (State.pairKept_takeRepairs _)).trans
    (.of_law (State.readSettle_without _ _ (List.Subset.refl _)) rfl)

theorem State.pairKept_ure (s : State) (x : Cmd) (u : Nat) : s.PairKept (s.ure x u) := by
  have failed (t : State) : t.PairKept (t.readFailed x u) := .of_law (t.readFailed_without x u (List.Subset.refl _)) rfl
  unfold State.ure
  extract_lets n e marked t lba t₁ t₂ t₃
  have e₀ : s.PairKept t := .ite (.of_law (s.setEntry_without _ _ _ (List.Subset.refl _)) rfl) .refl
  have e₁ : t.PairKept t₁ := .trans (.trans (.setNum _ (by decide) _) (.setNum _ (by decide) _)) (.setNum _ (by decide) _)
  have e₂ : t₁.PairKept t₂ := .trans (.setNum _ (by decide) _) (.countErr _ (by decide))
  have e₃ : t₂.PairKept t₃ := (State.PairKept.raise _ (by decide) (by decide)).trans (failed _)
  exact (((e₀.trans e₁).trans e₂).trans e₃).trans (.ite (State.pairKept_send _ _) .refl)

theorem State.pairKept_toParity (s : State) (x : Cmd) (r : RUnit) : s.PairKept (s.toParity x r) := by
  have lost : s.PairKept ((s.leaveSoft x.id r.unit).ure x r.unit) :=
    (State.PairKept.of_law (s.leaveSoft_without x.id r.unit (List.Subset.refl _)) rfl).trans (State.pairKept_ure ..)
  unfold State.toParity
  split
  · exact lost
  · dsimp only
    refine .ite (.ite (.trans ?_ (State.pairKept_recovered ..)) (.of_law (s.readFrom_without _ _ _ _ _ (List.Subset.refl _)) rfl)) lost
    exact .of_eq rfl rfl

theorem State.pairKept_sendAround (s : State) (x : Cmd) (r : RUnit) (soft rescue : Bool) (t : State)
    (h : s.sendAround x r soft rescue = some t) : s.PairKept t := by
  unfold State.sendAround at h
  split at h
  · exact absurd h (by simp)
  · next tag _ =>
    dsimp only at h
    split at h
    · obtain rfl := Option.some.inj h
      refine .trans (.trans ?_ (.inc _ (by decide) _)) (State.pairKept_send _ _)
      exact .trans (.of_law (s.toPhase_without x.id r (.around tag soft) (List.Subset.refl _)) rfl) (.of_eq rfl rfl)
    · exact absurd h (by simp)

theorem State.pairKept_fallBack (s : State) (x : Cmd) (r : RUnit) : s.PairKept (s.fallBack x r) := by
  have partner (t : State) : t.PairKept (t.toPartnerSoft x r) := by
    unfold State.toPartnerSoft
    refine .ite ?_ (t.pairKept_toParity x r)
    split
    · next h =>
      refine .trans ?_ (State.pairKept_sendAround _ _ _ _ _ _ h)
      exact .of_eq rfl rfl
    · exact t.pairKept_toParity x r
  have soft (t : State) : t.PairKept (t.toSoft x r) := by
    unfold State.toSoft
    extract_lets u
    have counted : t.PairKept (t.countErr .rdp Reg.rdpRescueFailCnt) := .countErr _ (by decide)
    have met (v : State) : v.PairKept (v.meet x.id 1) := .of_eq rfl rfl
    have entered (v : State) : v.PairKept (v.enterSoft x.id r.unit) := .of_law (v.enterSoft_without _ _ (List.Subset.refl _)) rfl
    have noted (v : State) (f : Cmd → Cmd) : v.PairKept (v.updCmd x.id f) := .of_eq rfl rfl
    have e : t.PairKept u := ((counted.trans (met _)).trans (entered _)).trans (noted _ _)
    split
    · exact e.trans (.of_law (State.readFrom_without _ _ _ _ _ _ (List.Subset.refl _)) rfl)
    · exact e.trans (partner u)
  have met : s.PairKept (s.meet x.id 5) := .of_eq rfl rfl
  unfold State.fallBack
  exact .ite (met.trans (.of_law (State.localInstead_without _ _ _ (List.Subset.refl _)) rfl)) (met.trans (soft _))

theorem State.pairKept_aroundsFallBack (s : State) (ended : Bool) : s.PairKept (s.aroundsFallBack ended) := by
  have back : s.PairKept (s.rdp.sent.foldl (fun t a =>
      match t.cmd? a.cmd, t.unit? a.cmd a.unit with
      | some x, some r =>
        if r.phase == .around a.tag a.soft then
          if a.soft then t.toParity x r else t.fallBack x r
        else t
      | _, _ => t) s) := by
    refine State.pairKept_foldl (fun t a => ?_) _ s
    split
    · exact .ite (.ite (t.pairKept_toParity ..) (t.pairKept_fallBack ..)) .refl
    · exact .refl
  exact .ite (back.trans (.of_eq rfl rfl)) (back.trans (.of_eq rfl rfl))

theorem State.pairKept_settle (s : State) : s.PairKept s.settle := by
  unfold State.settle
  extract_lets t ready late u v acks w wrp x done
  have noted : s.PairKept s.showMacked := .of_eq rfl rfl
  have shown : s.PairKept t := (noted.trans (.of_law (State.noteHeld_without _ (List.Subset.refl _)) rfl)).trans
    (.of_law (State.noteWithheld_without _ (List.Subset.refl _)) rfl)
  have counted : t.PairKept u := .inc _ (by decide) _
  have acked : u.PairKept v := State.pairKept_foldl (fun s w => by exact .of_eq rfl rfl) _ _
  have told : v.PairKept w := State.pairKept_foldl (fun s w => by
    dsimp only
    split
    · refine .trans ?_ (State.pairKept_send _ _)
      exact .of_eq rfl rfl
    · exact .of_eq rfl rfl) _ _
  have verified : w.PairKept x := .of_eq rfl rfl
  have ended : x.PairKept (done.foldl (fun t c => t.finish c 0) x) := State.pairKept_foldl (fun s c => by exact .of_eq rfl rfl) _ _
  exact (((((shown.trans counted).trans acked).trans told).trans verified).trans ended).trans
    (.of_law (State.release_without _ (List.Subset.refl _)) rfl)

theorem State.pairKept_conditions (s : State) : s.PairKept s.conditions := by
  unfold State.conditions
  extract_lets t
  have shown : s.PairKept t := ((State.PairKept.setBit _ (by decide) _ _).trans (.setBit _ (by decide) _ _)).trans
    (.setBit _ (by decide) _ _)
  split
  · exact shown
  · extract_lets mark u prx f v
    have noted : t.PairKept u := .of_eq rfl rfl
    have cleared : u.PairKept v := .of_eq rfl rfl
    refine .ite shown (.ite ((shown.trans noted).trans (.of_eq rfl rfl)) (.ite (shown.trans noted) (.ite ?_ ?_)))
    · exact ((shown.trans noted).trans cleared).trans (State.pairKept_send _ _)
    · exact (shown.trans noted).trans cleared

theorem State.pairKept_setPartnerLost (s : State) (b : Bool) : s.PairKept (s.setPartnerLost b) :=
  (State.PairKept.setBit s (off := Reg.prxStatus) (by decide) 8 b).trans (State.pairKept_conditions _)

theorem State.PairKept.pairState (h : s.PairKept t) : t.pairState = s.pairState := congrArg (wordField · 0 3) h.pair
theorem State.PairKept.cause (h : s.PairKept t) : t.field Reg.mlkPairState 16 3 = s.field Reg.mlkPairState 16 3 :=
  congrArg (wordField · 16 3) h.pair
theorem State.PairKept.role (h : s.PairKept t) : t.pairRole = s.pairRole := congrArg (wordField · 3 3) h.pair
theorem State.PairKept.refused (h : s.PairKept t) : t.field Reg.mlkPairState 8 8 = s.field Reg.mlkPairState 8 8 :=
  congrArg (wordField · 8 8) h.pair
theorem State.PairKept.session (h : s.PairKept t) : t.mlk.session = s.mlk.session := (congrArg Mlk.session h.pairing :)
theorem State.PairKept.lostAt (h : s.PairKept t) : t.mlk.lostAt = s.mlk.lostAt := (congrArg Mlk.lostAt h.pairing :)
theorem State.PairKept.graceAt (h : s.PairKept t) : t.mlk.graceAt = s.mlk.graceAt := (congrArg Mlk.graceAt h.pairing :)
theorem State.PairKept.fenceAt (h : s.PairKept t) : t.mlk.fenceAt = s.mlk.fenceAt := (congrArg Mlk.fenceAt h.pairing :)
theorem State.PairKept.joinOwn (h : s.PairKept t) : t.mlk.joinOwn = s.mlk.joinOwn := (congrArg Mlk.joinOwn h.pairing :)

end

/-! ## The partner is lost -/

section
variable (s : State)

theorem State.setPairState_shows (n : Nat) : (s.setPairState n).mlk = s.mlk ∧ (s.setPairState n).pairState = n % 8 ∧
    (∀ r, r ≠ Reg.mlkPairState → (s.setPairState n).reg r = s.reg r) ∧
    ∀ lo w, 3 ≤ lo → (s.setPairState n).field Reg.mlkPairState lo w = s.field Reg.mlkPairState lo w := by
  unfold State.setPairState
  have armed : ∃ t : State, t.mlk = s.mlk ∧ t.regs = s.regs ∧
      (if s.prx.armWait ∧ n ≠ 5 then { s with prx := { s.prx with armSolo := true } } else s) = t := by
    split
    · exact ⟨{ s with prx := { s.prx with armSolo := true } }, rfl, rfl, rfl⟩
    · exact ⟨s, rfl, rfl, rfl⟩
  obtain ⟨t, mlk, regs, e⟩ := armed
  have reg (r : Nat) : t.reg r = s.reg r := congrArg (Tab.get · r) regs
  dsimp only
  rw [e]
  refine ⟨mlk, by simp [State.pairState], fun r ne => by rw [State.reg_of_setField, if_neg ne.symm, reg], fun lo w h => ?_⟩
  rw [State.field_eq, State.reg_of_setField, if_pos rfl, wordField_setWordField_disjoint _ _ _ _ _ _ (.inr (by omega)), reg,
    State.field_eq]

theorem State.driveFence_shows (b : Bool) : (s.driveFence b).mlk = s.mlk ∧ (s.driveFence b).bit Reg.mlkStatus 11 = b ∧
    ∀ r, r ≠ Reg.mlkStatus → (s.driveFence b).reg r = s.reg r := by
  have set : (s.setBit Reg.mlkStatus 11 b).bit Reg.mlkStatus 11 = b := by cases b <;> simp
  have kept (r : Nat) (ne : r ≠ Reg.mlkStatus) : (s.setBit Reg.mlkStatus 11 b).reg r = s.reg r := by
    rw [State.reg_of_setBit, if_neg ne.symm]
  unfold State.driveFence
  dsimp only
  split
  · exact ⟨rfl, set, kept⟩
  · exact ⟨rfl, set, kept⟩

theorem State.endSession_shows : s.PairRegs s.endSession ∧ s.endSession.mlk.session = none ∧
    s.endSession.mlk.fenceAt = s.mlk.fenceAt := by
  have marked : s.PairKept (s.mlk.sent.foldl (fun t m => if (t.ns m.nsid).paired then t.markRegions m.nsid m.regions else t) s) :=
    by
    refine State.pairKept_foldl (fun t m => ?_) _ s
    split
    · exact .of_eq rfl rfl
    · exact .refl
  unfold State.endSession
  extract_lets t
  refine ⟨(marked.toPairRegs.trans ?_).trans (State.pairKept_showSpill _ 0).toPairRegs, (State.pairKept_showSpill _ 0).session,
    (State.pairKept_showSpill _ 0).fenceAt.trans marked.fenceAt⟩
  exact .of_regs fun _ _ => rfl

/-- The partner is declared lost with its cause: the fence is driven, the time is noted and no session is left (R498). -/
theorem State.declareLost_shows {cause : Nat} (lt : cause < 8) : (s.declareLost cause).pairState = 2 ∧
    (s.declareLost cause).field Reg.mlkPairState 16 3 = cause ∧ (s.declareLost cause).bit Reg.mlkStatus 11 = true ∧
    (s.declareLost cause).mlk.lostAt = some s.now ∧ (s.declareLost cause).mlk.session = none ∧
    (s.declareLost cause).mlk.fenceAt = s.mlk.fenceAt := by
  obtain ⟨mlk₀, fence₀, -⟩ := s.driveFence_shows true
  have clock : ((s.driveFence true).aroundsFallBack true).endSession.now = s.now := by simp [State.now]
  have e₁ := (s.driveFence true).pairKept_aroundsFallBack true
  obtain ⟨regs₂, session₂, fenceAt₂⟩ := ((s.driveFence true).aroundsFallBack true).endSession_shows
  unfold State.declareLost
  extract_lets t u mlk v w x y
  obtain ⟨mlk₃, state₃, regs₃, -⟩ := v.setPairState_shows 2
  have counted : w.PairKept x := ((State.PairKept.countErr _ (by decide)).trans (.raise _ (by decide) (by decide))).trans
    (.of_law (State.asyncEvent_without _ _ _ _ _ (List.Subset.refl _)) rfl)
  have failed : x.PairKept y := .ite (.of_law (x.migFail_without 8 (List.Subset.refl _)) rfl) .refl
  have rest : y.PairKept y.dropCreates.unprotectAll.showAround.noteHeld :=
    ((State.PairKept.of_law (State.dropCreates_without _ (List.Subset.refl _)) rfl).trans
      (.of_law (State.unprotectAll_without _ (List.Subset.refl _)) rfl)).trans
      ((State.PairKept.of_law (State.showAround_without _ (List.Subset.refl _)) rfl).trans
        (.of_law (State.noteHeld_without _ (List.Subset.refl _)) rfl))
  have kept := ((((v.setPairState 2).setField Reg.mlkPairState 16 3 cause).pairKept_setPartnerLost true).trans counted).trans
    (failed.trans rest)
  refine ⟨?_, ?_, ?_, ?_, ?_, ?_⟩
  · rw [kept.pairState]
    simpa [State.pairState] using state₃
  · rw [kept.cause]
    simp [Nat.mod_eq_of_lt lt]
  · rw [kept.status _ (by decide), State.bit_eq, State.reg_of_setField, if_neg (by decide), regs₃ _ (by decide)]
    exact ((regs₂.status 11 (by decide)).trans (e₁.status 11 (by decide))).trans fence₀
  · rw [kept.lostAt, State.setField_mlk, mlk₃, ← clock]
  · rw [kept.session, State.setField_mlk, mlk₃]
    exact session₂
  · rw [kept.fenceAt, State.setField_mlk, mlk₃, ← mlk₀]
    exact fenceAt₂.trans e₁.fenceAt

/-- A link that dies in JOINED starts the grace period (R482, R498). -/
theorem State.goDown_joined (joined : s.pairState = 5) : s.goDown.pairState = 1 ∧ s.goDown.linkUp = false ∧
    s.goDown.mlk.graceAt = some s.now ∧ s.goDown.bit Reg.mlkEvent 3 = true := by
  unfold State.goDown
  extract_lets t u beat mlk v mlk' w
  rw [if_pos joined]
  obtain ⟨mlk₁, state₁, regs₁, -⟩ := w.setPairState_shows 1
  have kept : ((w.setPairState 1).raise Reg.mlkEvent 3).PairKept
      ((((w.setPairState 1).raise Reg.mlkEvent 3).aroundsFallBack false).showAround.noteHeld) :=
    (State.pairKept_aroundsFallBack _ _).trans ((State.PairKept.of_law (State.showAround_without _ (List.Subset.refl _)) rfl).trans
      (.of_law (State.noteHeld_without _ (List.Subset.refl _)) rfl))
  have down : w.bit Reg.mlkStatus 1 = false := by simp +decide [w, v, u, t, ↓State.reg_mk]
  have clock : w.mlk.graceAt = some s.now := by simp [w, mlk', v, u, t, State.now]
  refine ⟨?_, ?_, ?_, kept.events 3 ?_⟩
  · rw [kept.pairState, State.pairState, State.field_eq, State.reg_of_raise _ _ _ _ (by decide), if_neg (by decide)]
    exact state₁
  · rw [State.linkUp, kept.status 1 (by decide), State.bit_eq, State.reg_of_raise _ _ _ _ (by decide), if_neg (by decide),
      regs₁ _ (by decide)]
    exact down
  · rw [kept.graceAt, State.mlk_raise, mlk₁, clock]
  · simp +decide

theorem State.fenceIn_joined (board : s.pairedBoard = true) (joined : s.pairState = 5) : s.fenceIn.pairState = 2 ∧
    s.fenceIn.field Reg.mlkPairState 16 3 = 4 ∧ s.fenceIn.bit Reg.mlkStatus 11 = true ∧
    s.fenceIn.mlk.lostAt = some s.now ∧ s.fenceIn.mlk.session = none ∧
    s.fenceIn.mlk.fenceAt = some (s.mlk.fenceAt.getD s.now) := by
  have still : (State.joined { s.setBit Reg.mlkStatus 12 true with
      mlk := { s.mlk with fenceAt := some (s.mlk.fenceAt.getD s.now) } }) = true := by
    simpa +decide [State.joined, State.pairState, ↓State.reg_mk] using joined
  unfold State.fenceIn
  rw [if_pos board]
  exact (congrArg (fun t : State => t.pairState = 2 ∧ t.field Reg.mlkPairState 16 3 = 4 ∧ t.bit Reg.mlkStatus 11 = true ∧
    t.mlk.lostAt = some s.now ∧ t.mlk.session = none ∧ t.mlk.fenceAt = some (s.mlk.fenceAt.getD s.now)) (if_pos still)).mpr
    (State.declareLost_shows _ (by decide))

/-! ## The roles of a pair -/

theorem roleFor_lt (pairId : Bool) (tIn : Option Nat) (tOwn : Nat) : roleFor pairId tIn tOwn < 8 := by
  cases tIn with
  | none => exact (by decide : 1 < 8)
  | some t =>
    unfold roleFor
    dsimp only
    split_ifs <;> decide

theorem State.pairKept_raiseLog (s : State) {b : Block} {ev i inst fn : Nat} (h : ev ∉ pairRegs.tail)
    (lt : i < 32) : s.PairKept (s.raiseLog b ev i inst fn) := by
  unfold State.raiseLog
  exact (State.PairKept.raise _ h lt).trans (.of_law (State.logAt_without _ _ _ _ _ _ (List.Subset.refl _)) rfl)

theorem State.pairKept_settleRole : s.PairKept s.settleRole := by
  unfold State.settleRole
  refine .ite (.trans (.of_law (s.failHeld_without (List.Subset.refl _)) rfl) (State.pairKept_settle _)) ?_
  refine .trans ?_ (State.pairKept_settle _)
  exact .of_eq rfl rfl

theorem State.roleEdge_selects {a : Nat} (lost : s.mlk.lostAt = some a) (edge : s.ftb.tick = 0) (due : a + 501000 ≤ s.now) :
    s.roleEdge.pairRole = roleFor s.pwr.straps.pairId s.mlk.fenceAt a ∧ s.roleEdge.mlk.lostAt = none := by
  have small := roleFor_lt s.pwr.straps.pairId s.mlk.fenceAt a
  unfold State.roleEdge
  split
  case h_2 none => exact absurd (none.symm.trans lost) (by simp)
  case h_1 a' h =>
  obtain rfl := Option.some.inj (h.symm.trans lost)
  rw [if_pos ⟨edge, due⟩]
  extract_lets id r split_ mlk t u
  have set : t.pairRole = r ∧ t.mlk.lostAt = none := by
    refine ⟨?_, rfl⟩
    have same : r % 8 = r := Nat.mod_eq_of_lt small
    simp [t, State.setRole, State.pairRole, ↓State.reg_mk, same]
  have told : t.PairKept u := .ite (.trans (.countErr _ (by decide)) (.raise _ (by decide) (by decide)))
    (.ite (State.pairKept_raiseLog _ (by decide) (by decide)) .refl)
  obtain ⟨mlk₁, -, regs₁⟩ := u.driveFence_shows true
  have kept := (u.driveFence true).pairKept_settleRole
  refine ⟨?_, ?_⟩
  · rw [kept.role, State.pairRole, State.field_eq, regs₁ _ (by decide)]
    exact told.role.trans set.1
  · rw [kept.lostAt, mlk₁, told.lostAt, set.2]

theorem State.join_refused {i : InitFlit} (peer : s.mlk.peer = some i) (err : s.joinErr i ≠ 0) : s.join.pairState = 2 ∧
    s.join.field Reg.mlkPairState 8 8 = s.joinErr i ∧ s.join.bit Reg.mlkEvent 6 = true := by
  have small : s.joinErr i < 256 := by
    unfold State.joinErr
    split_ifs <;> decide
  obtain ⟨-, state, -, -⟩ := s.setPairState_shows 2
  unfold State.join
  rw [peer]
  dsimp only
  rw [if_neg err]
  refine ⟨?_, ?_, by simp +decide⟩
  · simpa +decide [State.pairState] using state
  · simp +decide [Nat.mod_eq_of_lt small]

theorem State.proposeJoin_shows : s.PairRegs s.proposeJoin ∧ s.proposeJoin.mlk.peer = s.mlk.peer := by
  unfold State.proposeJoin
  split
  · refine ⟨.trans ?_ (State.pairKept_send _ _).toPairRegs, (congrArg Mlk.peer (State.pairKept_send _ _).pairing :)⟩
    exact .of_regs fun _ _ => rfl
  · exact ⟨.refl, rfl⟩

/-- A resync begins in a session of its own, with what the chip tells its partner of its namespaces (R508). -/
theorem State.beginResync_eq (i : InitFlit) : ∃ id v,
    (((s.beginSession id).setField Reg.mlkPairState 8 8 0).setPairState 4).PairKept v ∧ s.beginResync i = v.proposeJoin := by
  have sync (t : State) (n m : Nat) : t.PairKept (((t.sendNsSync n 1 m).sendKcv n).sendChangeMap n) := by
    have kcv (t : State) : t.PairKept (t.sendKcv n) := .ite (t.pairKept_send _) .refl
    have synced (t : State) : t.PairKept (t.sendNsSync n 1 m) := by
      unfold State.sendNsSync
      exact t.pairKept_send _
    have mapped (t : State) : t.PairKept (t.sendChangeMap n) := by
      unfold State.sendChangeMap
      exact t.pairKept_send _
    exact ((synced t).trans (kcv _)).trans (mapped _)
  unfold State.beginResync
  extract_lets t other u v
  refine ⟨_, v, State.pairKept_foldl (fun t n => ?_) _ _, rfl⟩
  extract_lets t₁ t₂
  have e₁ : t.PairKept t₁ := .trans (.of_law (t.unprotect_without n (List.Subset.refl _)) rfl) (.of_eq rfl rfl)
  have e₂ : t₁.PairKept t₂ := .ite (.of_eq rfl rfl) .refl
  exact (e₁.trans e₂).trans (sync _ _ _)

theorem State.join_begins {i : InitFlit} (peer : s.mlk.peer = some i) (ok : s.joinErr i = 0) : s.join.pairState = 4 ∧
    s.join.field Reg.mlkPairState 8 8 = 0 := by
  unfold State.join
  rw [peer]
  dsimp only
  rw [if_pos ok]
  obtain ⟨id, v, told, e⟩ := s.beginResync_eq i
  obtain ⟨-, state₁, -, fields₁⟩ := ((s.beginSession id).setField Reg.mlkPairState 8 8 0).setPairState_shows 4
  have pair := (told.toPairRegs.trans v.proposeJoin_shows.1).pair
  rw [e]
  refine ⟨(congrArg (wordField · 0 3) pair).trans state₁,
    (congrArg (wordField · 8 8) pair).trans ((fields₁ 8 8 (by decide)).trans ?_)⟩
  simp

theorem State.joinOwn_restartTimers : s.restartTimers.mlk.joinOwn = s.mlk.joinOwn := rfl

theorem State.enterJoined_enters {a b : Nat} (own : s.mlk.joinOwn = some a) (peer : s.mlk.peerJoin = some b)
    (resync : s.pairState = 4) (due : max a b ≤ s.frame) : s.enterJoined.pairState = 5 ∧ s.enterJoined.pairRole = 0 ∧
    s.enterJoined.bit Reg.prxStatus 8 = false ∧ s.enterJoined.bit Reg.mlkEvent 5 = true ∧ s.enterJoined.mlk.joinOwn = none := by
  unfold State.enterJoined
  split
  case h_2 none => exact absurd peer (by simpa using none a b own)
  case h_1 a' b' own' peer' =>
  obtain rfl := Option.some.inj (own'.symm.trans own)
  obtain rfl := Option.some.inj (peer'.symm.trans peer)
  rw [if_pos ⟨resync, due⟩]
  extract_lets t u mlk stored v
  obtain ⟨mlk₁, state₁, -, fields₁⟩ := v.restartTimers.setPairState_shows 5
  have lost := (v.restartTimers.setPairState 5).pairKept_setPartnerLost false
  have settled (w : State) : w.PairKept w.showAround.settle :=
    (State.PairKept.of_law (w.showAround_without (List.Subset.refl _)) rfl).trans (State.pairKept_settle _)
  have kept := lost.trans ((State.PairKept.raise _ (ev := Reg.mlkEvent) (i := 5) (by decide) (by decide)).trans (settled _))
  have set (w : State) : (w.setBit Reg.mlkStatus 12 false).reg Reg.mlkPairState = w.reg Reg.mlkPairState := by
    rw [State.reg_of_setBit, if_neg (by decide)]
  have same : v.reg Reg.mlkPairState = u.reg Reg.mlkPairState := rfl
  have role : v.reg Reg.mlkPairState = (t.setRole 0).reg Reg.mlkPairState :=
    same.trans ((set _).trans (((t.setRole 0).driveFence_shows false).2.2 _ (by decide)))
  refine ⟨?_, ?_, ?_, ?_, ?_⟩
  · rw [kept.pairState, state₁]
  · rw [kept.role]
    refine (fields₁ 3 3 (by decide)).trans ((congrArg (wordField · 3 3) role).trans ?_)
    simp [State.setRole, ↓State.reg_mk]
  · rw [State.bit_eq, State.reg_of_settle _ _ (by decide), State.reg_of_showAround _ _ (by decide),
      State.reg_of_raise _ _ _ _ (by decide), if_neg (by decide), State.setPartnerLost, (State.conditions_writes _).2 _ (by decide)]
    simp
  · exact (settled _).events 5 (by simp +decide)
  · rw [kept.joinOwn, mlk₁]
    exact v.joinOwn_restartTimers

theorem State.peerClear_clearingFrame (f : Nat) :
    (s.clearingFrame f).prx.peerClear = some (max f (s.prx.peerClear.getD 0)) := by
  unfold State.clearingFrame
  obtain ⟨⟨_, _, _, _, e⟩, -⟩ := State.conditions_writes { s with prx := { s.prx with
    peerClear := some (max f (s.prx.peerClear.getD 0)), clearFrame := s.prx.clearFrame.map (max · f) } }
  rw [e]


end

/-- Settles O27: what the read and write paths, and the messages that go out, do as the pair changes leaves the registers
of the pair and how the chip stands to its partner as they are. -/
theorem partnerAndRoles : Obligations.PartnerAndRoles := by
  unfold Obligations.PartnerAndRoles
  refine ⟨fun s live dead joined => ?_, fun s a live grace at_ due => ?_, fun s n live core state => ?_,
    fun s live board joined => ?_, fun s live state => ?_, fun s a live lost edge due => ?_,
    fun s n i live core state up peer err => ?_, fun s n i live core state up peer ok => ?_,
    fun s a b live own peer resync due => ?_, fun s f live resync => ?_, fun s f live other => ?_⟩
  · exact ⟨_, next_whenLive live (if_pos dead), s.goDown_joined joined⟩
  · obtain ⟨state, cause, fence, lost, session, -⟩ := s.declareLost_shows (cause := 1) (by decide)
    exact ⟨_, next_whenLive live (if_pos ⟨grace, (Option.any_eq_true _ _).2 ⟨a, at_, decide_eq_true due⟩⟩), state, cause, fence,
      lost, session⟩
  · obtain ⟨state', cause, fence, lost, session, -⟩ := s.declareLost_shows (cause := 3) (by decide)
    exact ⟨_, (State.next_byCore live core).trans (congrArg Host.Outcome.next (if_pos (by simpa using state))), state', cause, fence, lost,
      session⟩
  · exact ⟨_, next_whenLive live rfl, s.fenceIn_joined board joined⟩
  · obtain ⟨state', cause, fence, lost, session, -⟩ := (s.took 5 0).declareLost_shows (cause := 2) (by decide)
    exact ⟨_, next_whenLive live (if_pos (by simpa using state)), state', cause, fence, lost.trans (by simp [State.now]), session⟩
  · exact ⟨_, next_whenLive live rfl, s.roleEdge_selects lost edge due⟩
  · exact ⟨_, (State.next_byCore live core).trans (congrArg Host.Outcome.next (if_pos ⟨state, up, .inl rfl⟩)), s.join_refused peer err⟩
  · exact ⟨_, (State.next_byCore live core).trans (congrArg Host.Outcome.next (if_pos ⟨state, up, .inl rfl⟩)), s.join_begins peer ok⟩
  · exact ⟨_, next_whenLive live rfl, s.enterJoined_enters own peer resync due⟩
  · exact ⟨_, next_whenLive live (if_pos (by simpa [State.pairState] using resync)), rfl⟩
  · refine ⟨_, next_whenLive live (if_neg (by simpa [State.pairState] using other)), ?_⟩
    rw [State.peerClear_clearingFrame, State.prx_took]

end Sys2Proof.Machine
end

section
/-! SUPPORT. The Mirror Link trains, and exchanges flits (O26). -/
set_option linter.unusedSimpArgs false
namespace Sys2Proof.Machine

@[simp] theorem State.ftb_countFlit (s : State) (corrected : Bool) : (s.countFlit corrected).ftb = s.ftb :=
  ftb_of_without (s.countFlit_without corrected (List.Subset.refl _)) (by simp) (by simp)
@[simp] theorem State.mcr_countFlit (s : State) (corrected : Bool) : (s.countFlit corrected).mcr = s.mcr :=
  mcr_of_without (s.countFlit_without corrected (List.Subset.refl _)) (by simp)

section
variable {s t : State}

theorem State.PairKept.lastFlit (h : s.PairKept t) : t.mlk.lastFlit = s.mlk.lastFlit := (congrArg Mlk.lastFlit h.pairing :)
theorem State.PairKept.nakSeq (h : s.PairKept t) : t.mlk.nakSeq = s.mlk.nakSeq := (congrArg Mlk.nakSeq h.pairing :)
theorem State.PairKept.retrainAt (h : s.PairKept t) : t.mlk.retrainAt = s.mlk.retrainAt := (congrArg Mlk.retrainAt h.pairing :)
theorem State.PairKept.peer (h : s.PairKept t) : t.mlk.peer = s.mlk.peer := (congrArg Mlk.peer h.pairing :)

end

/-! ## Flits -/

section
variable (s : State)

theorem State.pairKept_ackTo (next : Nat) : s.PairKept (s.ackTo next) := by
  unfold State.ackTo
  refine .ite (.trans (.trans ?_ (State.pairKept_showSpill _ _)) (State.pairKept_pump _)) .refl
  exact ⟨.of_regs fun _ _ => rfl, rfl⟩

theorem State.pairKept_replayAll : s.PairKept s.replayAll :=
  .ite .refl (.trans (.inc s (by decide) _) (.of_eq rfl rfl))

theorem State.mlk_speedRetrain : ∃ since run, s.speedRetrain.mlk = { s.mlk with retrainAt := since, nakRun := run } := by
  unfold State.speedRetrain
  split
  · exact ⟨_, _, rfl⟩
  · exact ⟨_, _, rfl⟩

/-- A NAK outside the window changes nothing; one within it is recorded, and the flits after it go out again (R476). -/
theorem State.nak_outside {q : Nat} (h : s.mlk.unacked < (q % 4096 + 4096 - s.txBase) % 4096) : s.nak q = s := if_pos h

theorem State.nak_keeps (q : Nat) : (s.nak q).mlk.lastFlit = s.mlk.lastFlit ∧
    ((q % 4096 + 4096 - s.txBase) % 4096 ≤ s.mlk.unacked → (s.nak q).mlk.nakSeq = q) := by
  unfold State.nak
  split
  · next out => exact ⟨rfl, fun within => absurd out (Nat.not_lt.mpr within)⟩
  · extract_lets run mlk t
    have kept := (State.pairKept_ackTo { s with mlk := { s.mlk with nakSeq := q, nakRun := run } } q).trans (State.pairKept_replayAll _)
    have noted : t.mlk.lastFlit = s.mlk.lastFlit ∧ t.mlk.nakSeq = q := ⟨kept.lastFlit, kept.nakSeq⟩
    split
    · obtain ⟨_, _, e⟩ := t.mlk_speedRetrain
      rw [e]
      exact ⟨noted.1, fun _ => noted.2⟩
    · exact ⟨noted.1, fun _ => noted.2⟩

theorem State.countFlit_keeps (corrected : Bool) : (s.countFlit corrected).mlk.rxSeq = s.mlk.rxSeq ∧
    ∀ r, r ≠ Reg.mlkRetrainCnt → logReg r = false → (s.countFlit corrected).reg r = s.reg r := by
  unfold State.countFlit
  extract_lets bad mlk t mlk'
  have counted : t.mlk.rxSeq = s.mlk.rxSeq ∧ ∀ r, r ≠ Reg.mlkRetrainCnt → logReg r = false → t.reg r = s.reg r := by
    unfold t
    split
    · unfold State.when
      split
      · obtain ⟨_, _, e⟩ := State.mlk_speedRetrain { s with mlk := { mlk with fecAt := s.now, fecFlits := 0, fecCorr := 0 } }
        rw [e]
        exact ⟨rfl, fun r ne log => (State.regsBut_speedRetrain _).reg r (by simpa using ne) log⟩
      · exact ⟨rfl, fun _ _ _ => rfl⟩
    · exact ⟨rfl, fun _ _ _ => rfl⟩
  exact counted

/-- A flit that is received is counted, and so is its correction. -/
def State.flitSeen (corrected : Bool) : State := (s.when corrected (·.countErr .mlk Reg.mlkFecCorrCnt)).countFlit corrected

theorem State.flitSeen_keeps (corrected : Bool) : (s.flitSeen corrected).mlk.rxSeq = s.mlk.rxSeq ∧
    (s.flitSeen corrected).now = s.now ∧ (s.flitSeen corrected).testRunning = s.testRunning ∧
    (s.flitSeen corrected).num Reg.mlkCrcFailCnt = s.num Reg.mlkCrcFailCnt := by
  have fixed (t : State) (h : t = s.when corrected (·.countErr .mlk Reg.mlkFecCorrCnt)) :
      t.mlk = s.mlk ∧ t.ftb = s.ftb ∧ t.mcr = s.mcr ∧ t.reg Reg.mlkCrcFailCnt = s.reg Reg.mlkCrcFailCnt := by
    subst h
    cases corrected
    · exact ⟨rfl, rfl, rfl, rfl⟩
    · simp +decide [State.when]
  obtain ⟨mlk, ftb, mcr, reg⟩ := fixed _ rfl
  obtain ⟨seq, regs⟩ := (s.when corrected (·.countErr .mlk Reg.mlkFecCorrCnt)).countFlit_keeps corrected
  unfold State.flitSeen
  refine ⟨by rw [seq, mlk], ?_, ?_, ?_⟩
  · rw [State.now, State.ftb_countFlit, ftb, State.now]
  · rw [State.testRunning, State.mcr_countFlit, mcr, State.testRunning]
  · rw [State.num_eq, regs _ (by decide) (by decide), reg, State.num_eq]

section
variable {raw b : List Byte} {c : Bool}

theorem State.flit_bad (up : s.mlkSpeed ≠ 0) (h : fecDecode raw = (b, c)) (bad : flitGood b = false) : s.flit raw =
    ((s.flitSeen c).when ((s.flitSeen c).testRunning != some 4) (·.countErr .mlk Reg.mlkCrcFailCnt)).sendNak := by
  unfold State.flit
  rw [if_neg up, h]
  exact if_pos (by simp [bad])

theorem State.lastFlit_flit (up : s.mlkSpeed ≠ 0) (h : fecDecode raw = (b, c)) (good : flitGood b = true)
    (free : hdrField b 0 4 < 3) : (s.flit raw).mlk.lastFlit = s.now := by
  unfold State.flit
  rw [if_neg up, h]
  dsimp only
  rw [if_neg (by simp [good]), if_neg (by omega), if_pos free, if_neg (by omega : ¬ 3 ≤ hdrField b 0 4)]
  have shown (t : State) (live : t.mlk.lastFlit = s.now) : (if hdrField b 28 1 = 0 then t
      else if hdrField b 29 1 = 0 then t.ackTo (hdrField b 16 12 + 1) else t.nak (hdrField b 16 12)).mlk.lastFlit = s.now := by
    split_ifs
    · exact live
    · exact (t.pairKept_ackTo _).lastFlit.trans live
    · exact (t.nak_keeps _).1.trans live
  have told := shown { s.flitSeen c with mlk := { (s.flitSeen c).mlk with lastFlit := (s.flitSeen c).now } } (s.flitSeen_keeps c).2.1
  split
  · exact (State.pairKept_pump _).lastFlit.trans told
  · exact told

theorem State.flit_nak (up : s.mlkSpeed ≠ 0) (h : fecDecode raw = (b, c)) (bad : flitGood b = false) :
    (s.flit raw).out.head? = some (Out.link (.nak s.mlk.rxSeq)) ∧
    (s.testRunning ≠ some 4 → (s.flit raw).num Reg.mlkCrcFailCnt = satAdd 32 (s.num Reg.mlkCrcFailCnt) 1) := by
  obtain ⟨seq, -, test, crc⟩ := s.flitSeen_keeps c
  have counted (on : Bool) : ((s.flitSeen c).when on (·.countErr .mlk Reg.mlkCrcFailCnt)).mlk.rxSeq = s.mlk.rxSeq := by
    cases on <;> simp [State.when, seq]
  rw [s.flit_bad up h bad, State.sendNak]
  refine ⟨?_, fun quiet => ?_⟩
  · simp [State.emit, counted]
  · have on : ((s.flitSeen c).testRunning != some 4) = true := by simp [test, quiet]
    rw [on, State.num_eq, State.reg_of_emit, State.reg_of_countErr _ _ _ _ _ _ _ (by decide), if_neg (by decide)]
    simpa +decide [State.when] using congrArg (satAdd 32 · 1) crc

end

/-! ## Rate and width -/

theorem State.setLinkRate_shows {speed width : Nat} (lt : speed < 4) (wide : width < 32) :
    (s.setLinkRate speed width).mlkSpeed = speed ∧ (s.setLinkRate speed width).field Reg.mlkStatus 5 5 = width ∧
    (s.setLinkRate speed width).mlk = s.mlk ∧ (s.setLinkRate speed width).bit Reg.mlkStatus 1 = s.bit Reg.mlkStatus 1 := by
  have e₁ : speed % 4 = speed := Nat.mod_eq_of_lt lt
  have e₂ : width % 32 = width := Nat.mod_eq_of_lt wide
  unfold State.setLinkRate
  dsimp only
  split <;> simp +decide [State.mlkSpeed, e₁, e₂]

theorem State.speedRetrainDone_ends (p : Bool) (q : Nat) {a : Nat} (since : s.mlk.retrainAt = some a) (due : s.now ≤ a + 500000) :
    (s.speedRetrainDone p q).mlk.retrainAt = none ∧ (s.speedRetrainDone p q).mlk.lastFlit = s.now ∧
    (s.speedRetrainDone p q).mlkSpeed = (if p && !s.bit Reg.mlkCtl 1 then 2 else 1) := by
  unfold State.speedRetrainDone
  rw [if_pos ((Option.any_eq_true _ _).2 ⟨a, since, decide_eq_true due⟩)]
  extract_lets mlk t
  have lanes : t.field Reg.mlkStatus 5 5 < 32 := Nat.mod_lt _ (by decide)
  have rate : (if p && !t.bit Reg.mlkCtl 1 then 2 else 1) < 4 := by split <;> decide
  obtain ⟨speed, -, same, -⟩ := t.setLinkRate_shows rate lanes
  have kept := (State.pairKept_ackTo (t.setLinkRate (if p && !t.bit Reg.mlkCtl 1 then 2 else 1) (t.field Reg.mlkStatus 5 5)) q).trans
    ((State.pairKept_replayAll _).trans (State.pairKept_pump _))
  refine ⟨?_, ?_, (kept.shows 3 2 (by decide)).trans speed⟩
  · rw [kept.retrainAt, same]
  · rw [kept.lastFlit, same]

theorem State.linkTrain_trains (board : s.pairedBoard = true) (on : s.bit Reg.mlkCtl 0 = true)
    (down : s.linkUp = false ∨ s.mlk.resetAt.isSome = true) : (∀ x : LinkTrained, x.lanes = 4 ∨ x.lanes = 8 ∨ x.lanes = 16 →
      (s.linkTrain (some x)).mlkSpeed = (if x.pam4 && !s.bit Reg.mlkCtl 1 then 2 else 1) ∧
      (s.linkTrain (some x)).field Reg.mlkStatus 5 5 = x.lanes) ∧
    (s.linkTrain none).mlkSpeed = 0 ∧ (s.linkTrain none).field Reg.mlkStatus 5 5 = 0 := by
  have may : s.pairedBoard = true ∧ s.bit Reg.mlkCtl 0 = true ∧ (¬ s.linkUp = true ∨ s.mlk.resetAt.isSome = true) :=
    ⟨board, on, down.imp (by simp [·]) id⟩
  unfold State.linkTrain
  simp only [if_pos may]
  refine ⟨fun x lanes => ?_, ?_⟩
  · rw [if_pos lanes]
    obtain ⟨speed, width, -, -⟩ := s.setLinkRate_shows (speed := if x.pam4 && !s.bit Reg.mlkCtl 1 then 2 else 1) (width := x.lanes)
      (by split <;> decide) (by omega)
    exact ⟨speed, width⟩
  · obtain ⟨speed, width, -, -⟩ := s.setLinkRate_shows (speed := 0) (width := 0) (by decide) (by decide)
    exact ⟨speed, width⟩

/-! ## INIT -/

/-- What an INIT has shown of the partner and of the link stays as it is. -/
structure State.LinkKept (s t : State) : Prop where
  peer : t.mlk.peer = s.mlk.peer
  serial : t.reg Reg.mlkPartnerSerialLo = s.reg Reg.mlkPartnerSerialLo
  up : t.linkUp = s.linkUp
  speed : t.mlkSpeed = s.mlkSpeed

end

section
variable {i : InitFlit} {s t u : State}

theorem State.LinkKept.trans (h : s.LinkKept t) (k : t.LinkKept u) : s.LinkKept u :=
  ⟨k.peer.trans h.peer, k.serial.trans h.serial, k.up.trans h.up, k.speed.trans h.speed⟩

theorem State.LinkKept.of_regs (peer : t.mlk.peer = s.mlk.peer) (h : s.PairRegs t) : s.LinkKept t :=
  ⟨peer, h.serial, h.status 1 (by decide), h.shows 3 2 (by decide)⟩

theorem State.PairKept.link (h : s.PairKept t) : s.LinkKept t := .of_regs h.peer h.toPairRegs

theorem State.LinkKept.of_mlk (mlk : t.mlk.peer = s.mlk.peer) (regs : t.regs = s.regs) : s.LinkKept t :=
  .of_regs mlk (.of_regs fun r _ => congrArg (Tab.get · r) regs)

theorem State.LinkKept.setPair (s : State) (lo w v : Nat) : s.LinkKept (s.setField Reg.mlkPairState lo w v) := by
  have kept (r : Nat) (ne : Reg.mlkPairState ≠ r) : (s.setField Reg.mlkPairState lo w v).reg r = s.reg r := by
    rw [State.reg_of_setField, if_neg ne]
  exact ⟨rfl, kept _ (by decide), congrArg (wordField · 1 1 == 1) (kept Reg.mlkStatus (by decide)),
    congrArg (wordField · 3 2) (kept Reg.mlkStatus (by decide))⟩

theorem State.linkKept_setPairState (s : State) (n : Nat) : s.LinkKept (s.setPairState n) := by
  obtain ⟨mlk, -, regs, -⟩ := s.setPairState_shows n
  exact ⟨by rw [mlk], regs _ (by decide), congrArg (wordField · 1 1 == 1) (regs Reg.mlkStatus (by decide)),
    congrArg (wordField · 3 2) (regs Reg.mlkStatus (by decide))⟩

theorem State.linkKept_driveFence (s : State) (b : Bool) : s.LinkKept (s.driveFence b) := by
  obtain ⟨mlk, -, regs⟩ := s.driveFence_shows b
  have status : (s.driveFence b).reg Reg.mlkStatus = (s.setBit Reg.mlkStatus 11 b).reg Reg.mlkStatus := by
    unfold State.driveFence
    dsimp only
    split <;> rfl
  refine ⟨by rw [mlk], regs _ (by decide), (congrArg (wordField · 1 1 == 1) status).trans ?_, (congrArg (wordField · 3 2) status).trans ?_⟩
  · simp [State.linkUp]
  · simp [State.mlkSpeed]

theorem State.linkKept_endSession (s : State) : s.LinkKept s.endSession := by
  have marked : s.PairKept (s.mlk.sent.foldl (fun t m => if (t.ns m.nsid).paired then t.markRegions m.nsid m.regions else t) s) := by
    refine State.pairKept_foldl (fun t m => ?_) _ s
    split
    · exact .of_eq rfl rfl
    · exact .refl
  refine .of_regs ?_ s.endSession_shows.1
  unfold State.endSession
  exact (State.pairKept_showSpill _ 0).peer.trans marked.peer

theorem State.linkKept_join (s : State) : s.LinkKept s.join := by
  unfold State.join
  split
  · exact State.PairKept.refl.link
  · next i _ =>
    dsimp only
    split
    · obtain ⟨id, v, told, e⟩ := s.beginResync_eq i
      obtain ⟨proposed, peer⟩ := v.proposeJoin_shows
      have begun : s.LinkKept (s.beginSession id) := .of_mlk rfl rfl
      rw [e]
      exact (((begun.trans (.setPair ..)).trans (State.linkKept_setPairState _ 4)).trans told.link).trans (.of_regs peer proposed)
    · exact ((s.linkKept_setPairState 2).trans (.setPair ..)).trans
        ((State.PairKept.countErr _ (by decide)).trans (.raise _ (by decide) (by decide))).link

theorem State.linkKept_declareLost (s : State) (cause : Nat) : s.LinkKept (s.declareLost cause) := by
  unfold State.declareLost
  extract_lets t u mlk v w x y
  have fenced : s.LinkKept t := (s.linkKept_driveFence true).trans (State.pairKept_aroundsFallBack _ _).link
  have ended : t.LinkKept v := t.linkKept_endSession.trans (.of_mlk rfl rfl)
  have noted : v.LinkKept w := ((v.linkKept_setPairState 2).trans (.setPair ..)).trans (State.pairKept_setPartnerLost _ _).link
  have told : w.PairKept x := ((State.PairKept.countErr _ (by decide)).trans (.raise _ (by decide) (by decide))).trans
    (.of_law (State.asyncEvent_without _ _ _ _ _ (List.Subset.refl _)) rfl)
  have failed : x.PairKept y := .ite (.of_law (x.migFail_without 8 (List.Subset.refl _)) rfl) .refl
  have rest : y.PairKept y.dropCreates.unprotectAll.showAround.noteHeld :=
    ((State.PairKept.of_law (State.dropCreates_without _ (List.Subset.refl _)) rfl).trans
      (.of_law (State.unprotectAll_without _ (List.Subset.refl _)) rfl)).trans
      ((State.PairKept.of_law (State.showAround_without _ (List.Subset.refl _)) rfl).trans
        (.of_law (State.noteHeld_without _ (List.Subset.refl _)) rfl))
  exact ((fenced.trans ended).trans noted).trans ((told.trans failed).trans rest).link

/-- A link that goes down keeps what was recorded of the partner, and shows neither that it is up nor a rate. -/
theorem State.goDown_shows (s : State) : s.goDown.mlk.peer = s.mlk.peer ∧
    s.goDown.reg Reg.mlkPartnerSerialLo = s.reg Reg.mlkPartnerSerialLo ∧ s.goDown.linkUp = false ∧ s.goDown.mlkSpeed = 0 := by
  unfold State.goDown
  extract_lets t u beat mlk v mlk' w x
  have off : v.mlk.peer = s.mlk.peer ∧ v.reg Reg.mlkPartnerSerialLo = s.reg Reg.mlkPartnerSerialLo ∧ v.linkUp = false ∧ v.mlkSpeed = 0 := by
    simp +decide [v, mlk, u, t, State.linkUp, State.mlkSpeed, ↓State.reg_mk]
  obtain ⟨peer, serial, down, rate⟩ := off
  have rest : ∀ {y : State}, v.LinkKept y → y.mlk.peer = s.mlk.peer ∧
      y.reg Reg.mlkPartnerSerialLo = s.reg Reg.mlkPartnerSerialLo ∧ y.linkUp = false ∧ y.mlkSpeed = 0 :=
    fun k => ⟨k.peer.trans peer, k.serial.trans serial, k.up.trans down, k.speed.trans rate⟩
  have shown (y : State) : y.PairKept y.showAround := .of_law (y.showAround_without (List.Subset.refl _)) rfl
  split
  · refine rest (.trans (.trans (t := w) (.of_mlk rfl rfl) (w.linkKept_setPairState 1)) (State.PairKept.link ?_))
    exact ((State.PairKept.raise _ (by decide) (by decide)).trans (State.pairKept_aroundsFallBack _ _)).trans
      ((shown _).trans (.of_law (State.noteHeld_without _ (List.Subset.refl _)) rfl))
  · split
    · have left : v.LinkKept x := v.linkKept_endSession
      have bare : x.PairKept (x.pairedNss.foldl (fun t n => t.unprotect n) x) :=
        State.pairKept_foldl (fun y n => .of_law (y.unprotect_without n (List.Subset.refl _)) rfl) _ _
      exact rest ((left.trans bare.link).trans ((State.linkKept_setPairState _ 2).trans ((shown _).trans (State.pairKept_settle _)).link))
    · exact rest (shown v).link

/-- The link comes up with the INIT of a partner that has been recorded. -/
theorem State.linkCameUp_shows (s : State) (i : InitFlit) : (s.linkCameUp i).mlk.peer = s.mlk.peer ∧
    (s.linkCameUp i).reg Reg.mlkPartnerSerialLo = s.reg Reg.mlkPartnerSerialLo ∧ (s.linkCameUp i).linkUp = true := by
  have raised : (State.setBit s Reg.mlkStatus 1 true).PairKept
      ((s.setBit Reg.mlkStatus 1 true).when (!s.linkUp) (·.raise Reg.mlkEvent 1)) :=
    .ite (.raise _ (by decide) (by decide)) .refl
  refine ⟨raised.peer, raised.serial.trans ?_, (raised.status 1 (by decide)).trans ?_⟩
  · rw [State.reg_of_setBit, if_neg (by decide)]
  · simp

/-- The partner's INIT is recorded, and the link is up. -/
structure State.InitShown (i : InitFlit) (s : State) : Prop where
  peer : s.mlk.peer = some i
  serial : s.reg Reg.mlkPartnerSerialLo = BitVec.ofNat 32 i.serial.toNat
  up : s.linkUp = true

theorem State.InitShown.kept (shown : s.InitShown i) (h : s.LinkKept t) : t.InitShown i :=
  ⟨h.peer.trans shown.peer, h.serial.trans shown.serial, h.up.trans shown.up⟩

theorem State.InitShown.ite {p : Prop} [Decidable p] (h : t.InitShown i) (k : u.InitShown i) : (if p then t else u).InitShown i := by
  split
  · exact h
  · exact k

/-- An INIT that a link that is not dead takes is recorded and brings the link up, whatever the state of the pair. -/
theorem State.initRx_recorded (s : State) (i : InitFlit) (alive : s.linkDead = false) (board : s.pairedBoard = true)
    (up : s.mlkSpeed ≠ 0) : (s.initRx i).InitShown i := by
  have still : s.linkDown = s := if_neg (ne_true_of_eq_false alive)
  have came (t : State) (peer : t.mlk.peer = some i)
      (serial : t.reg Reg.mlkPartnerSerialLo = BitVec.ofNat 32 i.serial.toNat) : (t.linkCameUp i).InitShown i := by
    obtain ⟨peer', serial', up'⟩ := t.linkCameUp_shows i
    exact ⟨peer'.trans peer, serial'.trans serial, up'⟩
  have again (t : State) : t.LinkKept ((t.ackTo i.nextSeq).replayAll) :=
    ((t.pairKept_ackTo _).trans (State.pairKept_replayAll _)).link
  have pumped (t : State) : t.LinkKept t.pump := t.pairKept_pump.link
  have joins {t : State} (b : Bool) (h : t.InitShown i) : (t.when b State.join).InitShown i := .ite (h.kept t.linkKept_join) h
  unfold State.initRx
  rw [still]
  extract_lets s' mlk t₀ t₁ t₂ st t₃ mlk₃ t₄ u mlk₅ v
  rw [if_neg (by simp [s', board, up])]
  have recorded : t₂.mlk.peer = some i ∧ t₂.reg Reg.mlkPartnerSerialLo = BitVec.ofNat 32 i.serial.toNat := by
    simp +decide [t₂, t₁, t₀, mlk, ↓State.reg_mk]
  obtain ⟨peer, serial⟩ := recorded
  have shown := came t₂ peer serial
  have replayed : u.InitShown i := shown.kept (again _)
  refine .ite ?_ (.ite (.ite (.ite ?_ (replayed.kept (pumped _))) ?_) (.ite (.ite ?_ ?_) ?_))
  · have held : t₃.LinkKept t₄ := .of_mlk rfl rfl
    refine shown.kept (((held.trans ?_).trans (State.linkKept_join _)).trans (State.pairKept_settleRole _).link)
    exact (t₄.linkKept_endSession.trans (State.PairKept.of_law (State.unprotectAll_without _ (List.Subset.refl _)) rfl).link).trans
      (State.linkKept_setPairState _ 3)
  · have held : u.LinkKept v := .of_mlk rfl rfl
    have restarted : v.LinkKept v.restartTimers := .of_mlk rfl rfl
    refine replayed.kept ((held.trans (restarted.trans (State.linkKept_setPairState _ 5))).trans ?_)
    exact ((State.PairKept.of_law (State.showAround_without _ (List.Subset.refl _)) rfl).link.trans (pumped _)).trans
      (State.pairKept_settle _).link
  · have lost := t₂.linkKept_declareLost 5
    exact joins _ (came _ (lost.peer.trans peer) (lost.serial.trans serial))
  · exact (shown.kept (again _)).kept (pumped _)
  · obtain ⟨peer', serial', -, -⟩ := t₂.goDown_shows
    exact joins _ (came _ (peer'.trans peer) (serial'.trans serial))
  · exact shown.kept (.of_mlk rfl rfl)

/-- In the grace period the partner's INIT with the session of the pair enters JOINED (R482, R498). -/
theorem State.initRx_joins (s : State) (i : InitFlit) (alive : s.linkDead = false) (board : s.pairedBoard = true)
    (up : s.mlkSpeed ≠ 0) (grace : s.pairState = 1) (boot : s.mlk.bootGrace = false) (same : s.mlk.session = some i.session) :
    (s.initRx i).pairState = 5 ∧ (s.initRx i).mlk.graceAt = none := by
  have still : s.linkDown = s := if_neg (ne_true_of_eq_false alive)
  unfold State.initRx
  rw [still]
  extract_lets s' mlk t₀ t₁ t₂ st t₃ mlk₃ t₄ u mlk₅ v
  rw [if_neg (by simp [s', board, up]), if_neg (by simp [s', boot]), if_pos (.inr grace), if_pos same, if_pos grace]
  obtain ⟨mlk₆, state, -, -⟩ := v.restartTimers.setPairState_shows 5
  have kept := ((State.PairKept.of_law ((v.restartTimers.setPairState 5).showAround_without (List.Subset.refl _)) rfl).trans
    (State.pairKept_pump _)).trans (State.pairKept_settle _)
  refine ⟨kept.pairState.trans state, kept.graceAt.trans ?_⟩
  rw [mlk₆]
  rfl

theorem State.initRx_dead (s : State) (i : InitFlit) (dead : s.linkDead = true) :
    (s.initRx i).linkUp = false ∧ (s.initRx i).mlkSpeed = 0 := by
  have down : s.linkDown = s.goDown := if_pos dead
  unfold State.initRx
  rw [down]
  obtain ⟨-, -, off, rate⟩ := s.goDown_shows
  exact (congrArg (fun t : State => t.linkUp = false ∧ t.mlkSpeed = 0) (if_pos (.inr rate))).mpr ⟨off, rate⟩

end

/-- Settles O26: what goes out as a flit is acknowledged leaves the rest of the Mirror Link's state as it is, and an INIT is
recorded whatever it brings about. -/
theorem mirrorLink : Obligations.MirrorLink := by
  unfold Obligations.MirrorLink
  refine ⟨fun s raw live up => ?_, fun s q live up within => ?_, fun s q live out => ?_, fun s live up some_ due => ?_,
    fun s live up new due => ?_, fun s live up idle quiet => ?_, fun s p q a live since due => ?_,
    fun s x live board on down lanes => ?_, fun s live board on down => ?_, fun s live up quiet => ?_,
    fun s i live alive board up => ?_, fun s i live alive board up grace boot same => ?_, fun s i live dead => ?_⟩
  · obtain ⟨b, c, h⟩ : ∃ b c, fecDecode raw = (b, c) := ⟨_, _, rfl⟩
    rw [h]
    exact ⟨_, next_whenLive live rfl, s.lastFlit_flit up h, fun bad => (s.flit_nak up h bad).1, fun bad => (s.flit_nak up h bad).2⟩
  · exact ⟨_, next_whenLive live (if_pos up), (s.nak_keeps q).2 within⟩
  · refine ⟨_, next_whenLive live rfl, ?_⟩
    cases s.linkUp
    · rfl
    · exact s.nak_outside out
  · exact ⟨_, next_whenLive live (if_pos (by simp [up, some_, due])), rfl, rfl⟩
  · refine ⟨_, next_whenLive live (if_pos (by simp [up, new, due])), ?_, rfl⟩
    have ridden (t : State) : t.rideAck.mlk.grantNew = t.mlk.grantNew := by
      unfold State.rideAck
      split <;> rfl
    exact ridden _
  · refine ⟨_, next_whenLive live (if_pos (by simp [up, idle, quiet])), rfl, ?_⟩
    simp
  · exact ⟨_, next_whenLive live rfl, s.speedRetrainDone_ends p q since due⟩
  · exact ⟨_, next_whenLive live rfl, (s.linkTrain_trains board on down).1 x lanes⟩
  · exact ⟨_, next_whenLive live rfl, (s.linkTrain_trains board on down).2⟩
  · refine ⟨_, next_whenLive live (if_pos ⟨up, by simp [quiet]⟩), ?_, ?_⟩
    · simp [State.domainReset]
    · simp +decide [State.domainReset, ↓State.reg_mk]
  · obtain ⟨peer, serial, came⟩ := s.initRx_recorded i alive board up
    refine ⟨_, next_whenLive live rfl, peer, came, ?_⟩
    rw [State.num_eq, serial, BitVec.toNat_ofNat]
  · exact ⟨_, next_whenLive live rfl, s.initRx_joins i alive board up grace boot same⟩
  · exact ⟨_, next_whenLive live rfl, s.initRx_dead i dead⟩

end Sys2Proof.Machine
end

section
/-! SUPPORT. Care of the media, and device tests (O12). -/
set_option linter.unusedSimpArgs false
namespace Sys2Proof.Machine

/-! ## What an arm and the work of a die leave of a test -/

/-- The device test that runs, its dies and its status stay, and so does how the chip stands to its partner. -/
structure State.TestKept (s t : State) : Prop extends s.PairKept t where
  run : t.mcr.testRun = s.mcr.testRun
  dies : t.mcr.testDie = s.mcr.testDie
  status : t.reg Reg.mcrTestStatus = s.reg Reg.mcrTestStatus

/-- A part that holds nothing of a device test or of the Mirror Link. -/
def Part.offTest : Part → Bool
  | .mcr => false
  | .regs page => page != 9 && page != 13
  | p => p.offLink

section
variable {s t u : State}

theorem State.TestKept.refl : s.TestKept s := ⟨.refl, rfl, rfl, rfl⟩

theorem State.TestKept.trans (h : s.TestKept t) (k : t.TestKept u) : s.TestKept u :=
  ⟨h.toPairKept.trans k.toPairKept, k.run.trans h.run, k.dies.trans h.dies, k.status.trans h.status⟩

theorem State.TestKept.ite {p : Prop} [Decidable p] (h : s.TestKept t) (k : s.TestKept u) : s.TestKept (if p then t else u) := by
  split
  · exact h
  · exact k

theorem State.TestKept.of_eq (mlk : t.mlk = s.mlk) (mcr : t.mcr = s.mcr) (regs : t.regs = s.regs) : s.TestKept t :=
  ⟨.of_eq mlk regs, by rw [mcr], by rw [mcr], congrArg (Tab.get · Reg.mcrTestStatus) regs⟩

theorem State.TestKept.of_law {W : List Part} (law : t.without W = s.without W) (off : W.all Part.offTest = true) :
    s.TestKept t := by
  have apart (p : Part) (mem : p ∈ W) : p.offTest = true := List.all_eq_true.1 off p mem
  have link : W.all Part.offLink = true := List.all_eq_true.2 fun p mem => by
    have := apart p mem
    cases p <;> simp_all [Part.offTest, Part.offLink]
  have mcr : t.mcr = s.mcr := mcr_of_without law fun mem => absurd (apart _ mem) (by decide)
  exact ⟨.of_law law link, by rw [mcr], by rw [mcr], reg_of_without law fun mem => absurd (apart _ mem) (by decide)⟩

theorem State.testKept_foldl {α : Type} {f : State → α → State} (each : ∀ (s : State) a, s.TestKept (f s a)) (l : List α)
    (s : State) : s.TestKept (l.foldl f s) := by
  induction l generalizing s with
  | nil => exact .refl
  | cons a l ih => exact (each s a).trans (ih (f s a))

theorem State.TestKept.setReg (s : State) {off : Nat} (h : off ∉ Reg.mcrTestStatus :: pairRegs) (v : Word) :
    s.TestKept (s.setReg off v) := by
  obtain ⟨ne, link⟩ := not_or.1 (mt List.mem_cons.2 h)
  exact ⟨.setReg s link v, rfl, rfl, by rw [State.reg_of_setReg, if_neg ne]⟩

theorem State.TestKept.setBit (s : State) {off : Nat} (h : off ∉ Reg.mcrTestStatus :: pairRegs) (i : Nat) (b : Bool) :
    s.TestKept (s.setBit off i b) := .setReg s h _
theorem State.TestKept.setNum (s : State) {off : Nat} (h : off ∉ Reg.mcrTestStatus :: pairRegs) (v : Nat) :
    s.TestKept (s.setNum off v) := .setReg s h _
theorem State.TestKept.inc (s : State) {off : Nat} (h : off ∉ Reg.mcrTestStatus :: pairRegs) (n : Nat) :
    s.TestKept (s.inc off n) := .setReg s h _

theorem State.TestKept.raise (s : State) {ev i : Nat} (h : ev ∉ Reg.mcrTestStatus :: pairRegs.tail) (lt : i < 32) :
    s.TestKept (s.raise ev i) := by
  obtain ⟨ne, link⟩ := not_or.1 (mt List.mem_cons.2 h)
  exact ⟨.raise s link lt, by rw [State.mcr_raise], by rw [State.mcr_raise],
    by rw [State.reg_of_raise _ _ _ _ (by decide), if_neg ne]⟩

theorem State.TestKept.countErr (s : State) {b : Block} {off inst fn : Nat} {detail : List Word}
    (h : off ∉ Reg.mcrTestStatus :: pairRegs) : s.TestKept (s.countErr b off inst fn detail) := by
  obtain ⟨ne, link⟩ := not_or.1 (mt List.mem_cons.2 h)
  exact ⟨.countErr s link, by rw [State.mcr_countErr], by rw [State.mcr_countErr],
    s.reg_countErr_ne _ _ _ _ _ _ (by decide) ne⟩

theorem State.TestKept.raiseLog (s : State) {b : Block} {ev i inst fn : Nat} (h : ev ∉ Reg.mcrTestStatus :: pairRegs.tail)
    (lt : i < 32) : s.TestKept (s.raiseLog b ev i inst fn) := by
  unfold State.raiseLog
  exact (State.TestKept.raise _ h lt).trans (.of_law (State.logAt_without _ _ _ _ _ _ (List.Subset.refl _)) rfl)

theorem State.testKept_send (s : State) (m : LinkMsg) : s.TestKept (s.send m) := by
  have mcr := mcr_of_without (s.send_without m (List.Subset.refl _)) (by simp)
  exact ⟨s.pairKept_send m, by rw [mcr], by rw [mcr], reg_of_without (s.send_without m (List.Subset.refl _)) (by decide)⟩

theorem State.testKept_refuseArm (s : State) (err : Nat) : s.TestKept (s.refuseArm err) := by
  have cleared : s.TestKept s.clearArm := by
    unfold State.clearArm
    refine .trans (.trans ?_ (.setBit _ (by decide) _ _)) (.setBit _ (by decide) _ _)
    exact ⟨.of_eq rfl rfl, rfl, rfl, rfl⟩
  have reported (u : State) (v : ArmVerdict) : u.TestKept (u.reportArm v) := .ite (u.testKept_send _) .refl
  unfold State.refuseArm
  exact (((cleared.trans (.setNum _ (by decide) _)).trans (.raise _ (by decide) (by decide))).trans (.countErr _ (by decide))).trans
    (reported _ _)

theorem State.testKept_completeArm (s : State) (a : Nat) (both : Bool) : s.TestKept (s.completeArm a both) := by
  unfold State.completeArm
  split
  · exact s.testKept_refuseArm 1
  · dsimp only
    refine .ite (s.testKept_refuseArm 2) (.ite (s.testKept_refuseArm 3) (.trans (.trans ?_ (.setBit _ (by decide) _ _)) (.setNum _ (by decide) _)))
    exact .of_eq rfl rfl rfl

theorem State.testKept_acceptArm (s : State) : s.TestKept s.acceptArm := by
  have met (t : State) (r : ArmReport) : t.TestKept (t.meetPeerArm r) := by
    unfold State.meetPeerArm
    split
    · exact t.testKept_refuseArm 1
    · exact .ite (t.testKept_refuseArm 5) (.ite (t.testKept_refuseArm 6) (t.testKept_completeArm _ _))
  have reported (u : State) (v : ArmVerdict) : u.TestKept (u.reportArm v) := .ite (u.testKept_send _) .refl
  unfold State.acceptArm
  extract_lets prx t f prx' u v prx''
  have asked : s.TestKept t := .of_eq rfl rfl rfl
  split
  · exact asked.trans (t.testKept_refuseArm 1)
  · have noted : t.TestKept u := .of_eq rfl rfl rfl
    have told : u.TestKept v := reported u .accepted
    refine asked.trans (.ite (t.testKept_refuseArm 2) (.ite (t.testKept_refuseArm 3) (.ite (t.testKept_refuseArm 4)
      (.ite (t.testKept_refuseArm 7) (noted.trans (.ite (told.trans ?_) (u.testKept_completeArm _ _)))))))
    split
    · exact met _ _
    · exact .of_eq rfl rfl rfl

theorem State.testKept_testEnded (s : State) : s.TestKept s.testEnded := by
  unfold State.testEnded
  refine .ite (.trans ?_ (State.testKept_acceptArm _)) .refl
  exact ⟨.of_eq rfl rfl, rfl, rfl, rfl⟩

theorem State.testKept_spareReview (s : State) (lane : Nat) : s.TestKept (s.spareReview lane) := by
  have told (t : State) (k i info : Nat) (lt : i < 32) (b : Nat) :
      t.TestKept (((t.setBit Reg.mcrStatus k true).raiseLog .mcr Reg.mcrEvent i lane).criticalEvent b info) :=
    ((State.TestKept.setBit _ (by decide) _ _).trans (.raiseLog _ (by decide) lt)).trans
      (.of_law (State.criticalEvent_without _ _ _ (List.Subset.refl _)) rfl)
  unfold State.spareReview
  extract_lets d low t u
  have low' : s.TestKept t := .ite (told s 5 4 2 (by decide) 0) .refl
  have shut : t.TestKept u := .of_eq rfl rfl rfl
  exact .ite (low'.trans (shut.trans (.ite .refl (told u 4 5 0 (by decide) 2)))) low'

theorem State.testKept_retireNow (s : State) (lane b : Nat) : s.TestKept (s.retireNow lane b) := by
  have shut (u : State) (f : Blk → Blk) : u.TestKept (u.updBlock lane b f) := .of_eq rfl rfl rfl
  have told (u : State) : u.TestKept (u.raiseLog .mcr Reg.mcrEvent 3 lane) := .raiseLog _ (by decide) (by decide)
  have counted (u : State) : u.TestKept (u.inc Reg.mcrRetireCnt) := .inc _ (by decide) _
  have due (u : State) : u.TestKept { u with mcr := { u.mcr with eolDue := true } } := ⟨.of_eq rfl rfl, rfl, rfl, rfl⟩
  unfold State.retireNow
  exact (((shut _ _).trans (told _)).trans (counted _)).trans ((due _).trans (State.testKept_spareReview _ _))

theorem State.testKept_retireReady (s : State) (lane : Nat) : s.TestKept (s.retireReady lane) := by
  unfold State.retireReady
  extract_lets empty
  have each (t : State) (b : Blk) : t.TestKept (t.retireNow lane b.num) := State.testKept_retireNow t lane b.num
  exact State.testKept_foldl each empty s

theorem State.testKept_claim (s : State) (lane rank b : Nat) : s.TestKept (s.claim lane rank b) := by
  unfold State.claim
  refine .ite .refl ?_
  extract_lets fresh u
  have noted : s.TestKept u := .of_eq rfl rfl rfl
  refine .ite (.trans noted (.trans ?_ (.inc _ (by decide) _))) noted
  exact .of_eq rfl rfl rfl

theorem State.testKept_startCare (s : State) (lane slot tick : Nat) : s.TestKept (s.startCare lane slot tick) := by
  unfold State.startCare
  extract_lets u
  have ready : s.TestKept u := (State.TestKept.of_law (s.scrubRoll_without lane (List.Subset.refl _)) rfl).trans
    (State.testKept_retireReady _ lane)
  split
  · next rank block _ =>
    extract_lets n loc v w long
    have read : u.TestKept v := ((u.testKept_claim lane rank block).trans
      (.of_law (State.startRead_without _ _ _ _ _ _ (List.Subset.refl _)) rfl)).trans (.inc _ (by decide) _)
    have touched (x : State) (f : Blk → Blk) : x.TestKept (x.updBlock lane block f) := .of_eq rfl rfl rfl
    have noted (x : State) (f : Die → Die) : x.TestKept (x.updDie lane f) := .of_eq rfl rfl rfl
    have counted : v.TestKept w := touched v _
    exact .ite (((ready.trans read).trans counted).trans (noted w _)) ready
  · exact ready

theorem State.testKept_startProgram (s : State) (p : ProgUnit) (slot : Nat) : s.TestKept (s.startProgram p slot) := by
  have opened : s.TestKept (s.openPage p.lane p.moved).1 := by
    unfold State.openPage
    dsimp only
    split
    · exact .refl
    · split
      · exact .refl
      · refine .ite (.of_eq rfl rfl rfl) (.trans ?_ (State.testKept_spareReview _ _))
        exact .of_eq rfl rfl rfl
  unfold State.startProgram
  split
  · exact .refl
  · next u b page e =>
    extract_lets bits wrp v
    have first : s.TestKept u := by rw [e] at opened; exact opened
    have noted : u.TestKept v := .of_eq rfl rfl rfl
    exact ((first.trans noted).trans ((State.TestKept.of_law (v.advancePage_without _ _ _ _ _ (List.Subset.refl _)) rfl).trans
      (.of_law (State.startDie_without _ _ _ _ _ (List.Subset.refl _)) rfl))).trans (.inc _ (by decide) _)

theorem State.testKept_parkWork (s : State) : s.TestKept s.parkWork := by
  have worked (t : State) (lane : Nat) : t.TestKept (t.parkLane lane) := by
    unfold State.parkLane
    refine .ite .refl ?_
    split
    · exact .of_law (State.startLeg_without _ _ _ (List.Subset.refl _)) rfl
    · split
      · exact t.testKept_startProgram _ _
      · exact .ite (.of_law (State.startJournal_without _ _ _ (List.Subset.refl _)) rfl)
          (.ite (.of_law (State.startCkpt_without _ _ _ (List.Subset.refl _)) rfl)
            (.ite (.of_law (State.startErase_without _ _ _ _ (List.Subset.refl _)) rfl)
              (.ite (.of_law (State.startErase_without _ _ _ _ (List.Subset.refl _)) rfl) (t.testKept_startCare _ _ _))))
  exact .ite .refl (State.testKept_foldl (fun t lane => worked t lane) _ _)

end

theorem State.next_byHost {s : State} {b : Requester} {off : Nat} {f : State → State} (live : s.live = true)
    (may : (match b with | .pf0 => true | .core n => decide (n < 6)) = true) :
    Host.Outcome.next (s.byHost b off f) = (.next (f s) : Result) := by
  cases b with
  | pf0 => exact next_whenLive live rfl
  | core n =>
    have core : n < 6 := of_decide_eq_true may
    exact next_whenLive live (by rw [if_pos core])

/-! ## Tests begin and end -/

section
variable (s : State)

theorem State.testKept_holdupGpio (high : Bool) : s.TestKept (s.holdupGpio high) := by
  unfold State.holdupGpio
  split
  · exact .ite .refl (.of_eq rfl rfl rfl)
  · exact .refl

theorem State.mcr_holdupGpio (high : Bool) : (s.holdupGpio high).mcr = s.mcr := by
  unfold State.holdupGpio
  split
  · split <;> rfl
  · rfl

theorem State.testKept_holdupStart : s.TestKept s.holdupStart := by
  unfold State.holdupStart
  refine .trans ?_ (State.testKept_holdupGpio _ true)
  exact ⟨.of_eq rfl rfl, rfl, rfl, rfl⟩

theorem State.setTest_shows (state reason k failed : Nat) :
    (s.setTest state reason k failed).mcr = { s.mcr with testRun := if state = 1 then some k else none } ∧
    (s.setTest state reason k failed).reg Reg.mcrTestStatus =
      BitVec.ofNat 32 (state + reason * 2 ^ 4 + k * 2 ^ 8 + failed % 65536 * 2 ^ 16) ∧
    ∀ r, r ≠ Reg.mcrTestStatus → r ≠ Reg.mcrStatus → (s.setTest state reason k failed).reg r = s.reg r := by
  refine ⟨rfl, ?_, fun r status other => ?_⟩
  · simp +decide [State.setTest, State.runTest, State.testStatus, ↓State.reg_mk]
  · simp [State.setTest, State.runTest, State.testStatus, ↓State.reg_mk, status.symm, other.symm]

theorem State.testStart_refused {v : Word} {k : Nat} (run : s.testRunning = some k) (test : isTest (wordField v 0 5) = true) :
    (s.testStart v).testRunning = some k ∧
    (s.testStart v).reg Reg.mcrTestStatus = BitVec.ofNat 32 (4 + 2 * 2 ^ 4 + wordField v 0 5 * 2 ^ 8) ∧
    (s.testStart v).bit Reg.mcrEvent 6 = true := by
  unfold State.testStart
  dsimp only
  rw [if_neg (not_not_intro test), if_pos (by rw [run]; rfl)]
  refine ⟨?_, ?_, ?_⟩
  · rw [State.testRunning, State.mcr_raise]
    exact run
  · simp +decide [State.testStatus]
  · simp +decide [State.testStatus]

theorem State.testStart_starts {v : Word} (idle : s.testRunning = none) (test : isTest (wordField v 0 5) = true)
    (park : parkOnlyTest (wordField v 0 5) = true → s.inRun = false ∧ s.bit Reg.prxStatus 5 = false)
    (sram : wordField v 0 5 = 8 → s.bit Reg.prxStatus 4 = false) (ready : wordField v 0 5 = 5 → s.holdupReady = true)
    (die : s.populatedLane (wordField v 16 9) = true ∨ wordField v 16 9 = 0x1FF) :
    (s.testStart v).testRunning = some (wordField v 0 5) ∧ (s.testStart v).mcr.testDie = wordField v 16 9 ∧
    (s.testStart v).num Reg.mcrTestStatus = 1 + wordField v 0 5 * 2 ^ 8 := by
  have small : wordField v 0 5 < 32 := wordField_lt v 0 5
  unfold State.testStart
  extract_lets k d refuse t mcr u
  obtain ⟨mcr₁, status₁, -⟩ := s.setTest_shows 1 0 k 0
  have begun : u.testRunning = some k ∧ u.mcr.testDie = d ∧ u.num Reg.mcrTestStatus = 1 + k * 2 ^ 8 := by
    refine ⟨congrArg Mcr.testRun mcr₁, rfl, ?_⟩
    have e : u.num Reg.mcrTestStatus = (BitVec.ofNat 32 (1 + 0 * 2 ^ 4 + k * 2 ^ 8 + 0 % 65536 * 2 ^ 16)).toNat :=
      congrArg BitVec.toNat status₁
    rw [e, BitVec.toNat_ofNat, Nat.mod_eq_of_lt (by omega)]
    omega
  have goes {w : State} (h : u.TestKept w) : w.testRunning = some k ∧ w.mcr.testDie = d ∧
      w.num Reg.mcrTestStatus = 1 + k * 2 ^ 8 :=
    ⟨h.run.trans begun.1, h.dies.trans begun.2.1, (congrArg BitVec.toNat h.status).trans begun.2.2⟩
  rw [if_neg (not_not_intro test), if_neg (by rw [idle]; simp), if_neg (fun ⟨only, run⟩ => by simp [(park only).1] at run),
    if_neg (fun ⟨only, arm⟩ => by simp [(park only).2, -State.bit_eq] at arm), if_neg (fun ⟨is, staged⟩ => by simp [sram is, -State.bit_eq] at staged),
    if_neg (not_not_intro die), if_neg (fun ⟨is, not⟩ => not (ready is))]
  refine goes (.ite ?_ (.ite ?_ (.ite ?_ .refl)))
  · exact u.testKept_holdupStart
  · refine .trans ?_ (State.testKept_parkWork _)
    exact State.testKept_foldl (fun x l => State.testKept_foldl (fun x b => by exact .of_eq rfl rfl rfl) _ x) _ u
  · exact (State.TestKept.setBit u (by decide) _ _).trans (.raise _ (by decide) (by decide))

theorem State.testAbort_stops {k : Nat} (run : s.testRunning = some k) (online : parkOnlyTest k = false)
    (outside : s.testInSlot k = false) : s.testAbort.testRunning = none ∧
    s.testAbort.reg Reg.mcrTestStatus = BitVec.ofNat 32 (5 + k * 2 ^ 8) := by
  have ended (t : State) : (((t.setTest 5 0 k 0).raise Reg.mcrEvent 6).testEnded).testRunning = none ∧
      (((t.setTest 5 0 k 0).raise Reg.mcrEvent 6).testEnded).reg Reg.mcrTestStatus = BitVec.ofNat 32 (5 + k * 2 ^ 8) := by
    obtain ⟨mcr, status, -⟩ := t.setTest_shows 5 0 k 0
    have kept := (State.TestKept.raise (t.setTest 5 0 k 0) (ev := Reg.mcrEvent) (i := 6) (by decide) (by decide)).trans
      (State.testKept_testEnded _)
    refine ⟨kept.run.trans (congrArg Mcr.testRun mcr), kept.status.trans (status.trans ?_)⟩
    simp
  unfold State.testAbort
  rw [if_pos (by simp [run, online])]
  unfold State.stopTest
  split
  · next k' run' =>
    obtain rfl := Option.some.inj (run'.symm.trans run)
    rw [if_neg (by rintro (h | h); exacts [h rfl, absurd outside (by rw [show s.testInSlot k' = true from h]; decide)])]
    exact ended _
  · next none_ => exact absurd (none_.symm.trans run) (by simp)

theorem State.testAbort_waits {k : Nat} (run : s.testRunning = some k) (online : parkOnlyTest k = false)
    (inside : s.testInSlot k = true) : s.testAbort.testRunning = some k ∧ s.testAbort.mcr.aborting = true := by
  unfold State.testAbort
  rw [if_pos (by simp [run, online])]
  unfold State.stopTest
  split
  · next k' run' =>
    obtain rfl := Option.some.inj (run'.symm.trans run)
    rw [if_pos (.inr inside)]
    exact ⟨run, rfl⟩
  · next none_ => exact absurd (none_.symm.trans run) (by simp)

theorem State.testAbort_parkOnly {k : Nat} (run : s.testRunning = some k) (only : parkOnlyTest k = true) : s.testAbort = s := by
  unfold State.testAbort
  exact if_neg (by simp [run, only])

theorem State.testDone_ends {k : Nat} (e : Nat) (run : s.testRunning = some k) (past : s.testGoesOn k = false) :
    (s.testDone e).testRunning = none ∧
    (k ≠ 4 → (s.testDone e).reg Reg.mcrTestStatus = BitVec.ofNat 32 ((if e = 0 then 2 else 3) + k * 2 ^ 8 + e % 65536 * 2 ^ 16)) ∧
    (k = 4 → (s.testDone e).bit Reg.mlkEvent 15 = true ∧ (s.testDone e).bit Reg.mcrEvent 6 = true) := by
  unfold State.testDone
  split
  case h_2 none_ => exact absurd (none_.symm.trans run) (by simp)
  case h_1 k' run' =>
  obtain rfl := Option.some.inj (run'.symm.trans run)
  rw [if_neg (ne_true_of_eq_false past)]
  extract_lets t failed mcr u v w
  obtain ⟨mcr₁, status₁, -⟩ := State.setTest_shows { t with mcr := { mcr with aborting := false } } (if failed = 0 then 2 else 3) 0 k' failed
  have counted : u.TestKept v := .ite .refl (.countErr _ (by decide))
  have told : v.TestKept w := .ite (.raise _ (by decide) (by decide)) .refl
  have rest := (State.TestKept.raise w (ev := Reg.mcrEvent) (i := 6) (by decide) (by decide)).trans (State.testKept_testEnded _)
  have kept := (counted.trans told).trans rest
  have other : (if failed = 0 then 2 else 3) ≠ 1 := by split <;> decide
  refine ⟨kept.run.trans ((congrArg Mcr.testRun mcr₁).trans (if_neg other)), fun ne => ?_, fun eye => ⟨?_, ?_⟩⟩
  · have same : failed = e := if_neg ne
    rw [kept.status, status₁, same]
    simp
  · have raised : w = v.raise Reg.mlkEvent 15 := if_pos eye
    refine rest.events 15 ?_
    rw [raised]
    simp +decide
  · rw [State.bit_eq, reg_of_without (State.testEnded_without _ (List.Subset.refl _)) (by decide)]
    simp +decide

theorem State.holdupDue_starts {f : Nat} (idle : s.testRunning = none) (none_ : s.mcr.holdupRun = none)
    (ready : s.holdupReady = true) (last : (s.mcr.holdupEnd.orElse fun _ => s.mcr.claimedAt) = some f)
    (due : f + (if s.mcr.holdupBad then 86400000 else s.field Reg.mcrHoldupTest 16 8 * 86400000) ≤ s.frame)
    (rest : (s.mcr.holdupTry.all (fun g => decide (g + 3600000 ≤ s.frame))) = true) : s.holdupDue.testRunning = some 5 ∧
    s.holdupDue.mcr.holdupRun = some (s.field Reg.wrpHoldupSense 0 12) := by
  have started (t : State) : t.holdupStart.mcr.holdupRun = some (t.field Reg.wrpHoldupSense 0 12) := by
    unfold State.holdupStart
    rw [State.mcr_holdupGpio]
  obtain ⟨mcr, -, regs⟩ := s.setTest_shows 1 0 5 0
  unfold State.holdupDue
  extract_lets wait
  have wakes : ¬ (s.mcr.holdupRun.isSome = true ∨ ¬ ((s.mcr.holdupEnd.orElse fun _ => s.mcr.claimedAt).any (· + wait ≤ s.frame)) = true ∨
      (s.mcr.holdupTry.any (s.frame < · + 3600000)) = true) := by
    rintro (going | early | tried)
    · simp [none_] at going
    · exact early ((Option.any_eq_true _ _).2 ⟨f, last, decide_eq_true due⟩)
    · obtain ⟨g, at_, lt⟩ := (Option.any_eq_true _ _).1 tried
      exact Nat.not_le.mpr (of_decide_eq_true lt) (of_decide_eq_true ((Option.all_eq_true _ _).1 rest g at_))
  rw [if_neg wakes, if_pos ⟨by simp [idle], ready⟩]
  refine ⟨(State.testKept_holdupStart _).run.trans (congrArg Mcr.testRun mcr), (started _).trans (congrArg (fun r => some (wordField r 0 12)) ?_)⟩
  exact regs _ (by decide) (by decide)

theorem State.holdupEnd_measures {us e c : Nat} (run : s.mcr.holdupRun = some c) (past : s.discharged c us e = true) :
    ∃ cap, (s.holdupEnd us e).mcr.holdupRun = none ∧ (s.holdupEnd us e).mcr.holdupEnd = some s.frame ∧
      (s.holdupEnd us e).num Reg.mcrHoldupCap = cap ∧
      (s.holdupEnd us e).bit Reg.mcrStatus 6 = !decide (s.field Reg.mcrHoldupMin 0 24 ≤ cap) ∧
      (s.holdupEnd us e).mcr.holdupBad = !decide (s.field Reg.mcrHoldupMin 0 24 ≤ cap) := by
  have healed (t : State) : t.showHealth.mcr = t.mcr ∧ ∀ r, r / 0x100000 = 9 → t.showHealth.reg r = t.reg r :=
    ⟨mcr_of_without (t.showHealth_without (List.Subset.refl _)) (by simp),
      fun r page => reg_of_without (t.showHealth_without (List.Subset.refl _)) (by simp [page])⟩
  unfold State.holdupEnd
  split
  case h_1 none_ => exact absurd (none_.symm.trans run) (by simp)
  case h_2 c' run' =>
  obtain rfl := Option.some.inj (run'.symm.trans run)
  rw [if_neg (not_not_intro past)]
  extract_lets div most cap pass mcr t u v w
  have small : cap < 2 ^ 24 := by
    unfold cap
    omega
  have set (x : State) (b : Bool) : (x.setBit Reg.mcrStatus 6 b).bit Reg.mcrStatus 6 = b := by cases b <;> simp
  have first : u.mcr.holdupRun = none ∧ u.mcr.holdupEnd = some s.frame ∧ u.num Reg.mcrHoldupCap = cap ∧
      u.bit Reg.mcrStatus 6 = !pass ∧ u.mcr.holdupBad = !pass := by
    refine ⟨congrArg Mcr.holdupRun (t.mcr_holdupGpio false), congrArg Mcr.holdupEnd (t.mcr_holdupGpio false), ?_, ?_,
      congrArg Mcr.holdupBad (t.mcr_holdupGpio false)⟩
    · have bits : cap % 4294967296 = cap := Nat.mod_eq_of_lt (by omega)
      simp +decide [u, bits]
    · exact set _ _
  have keeps {x y : State} (mcr : y.mcr.holdupRun = x.mcr.holdupRun ∧ y.mcr.holdupEnd = x.mcr.holdupEnd ∧ y.mcr.holdupBad = x.mcr.holdupBad)
      (cap_ : y.reg Reg.mcrHoldupCap = x.reg Reg.mcrHoldupCap) (bit : y.bit Reg.mcrStatus 6 = x.bit Reg.mcrStatus 6)
      (h : x.mcr.holdupRun = none ∧ x.mcr.holdupEnd = some s.frame ∧ x.num Reg.mcrHoldupCap = cap ∧
        x.bit Reg.mcrStatus 6 = !pass ∧ x.mcr.holdupBad = !pass) :
      y.mcr.holdupRun = none ∧ y.mcr.holdupEnd = some s.frame ∧ y.num Reg.mcrHoldupCap = cap ∧
        y.bit Reg.mcrStatus 6 = !pass ∧ y.mcr.holdupBad = !pass := by
    obtain ⟨run, fin, c, b, bad⟩ := h
    exact ⟨mcr.1.trans run, mcr.2.1.trans fin, (congrArg BitVec.toNat cap_).trans c, bit.trans b, mcr.2.2.trans bad⟩
  have second : v.mcr.holdupRun = none ∧ v.mcr.holdupEnd = some s.frame ∧ v.num Reg.mcrHoldupCap = cap ∧
      v.bit Reg.mcrStatus 6 = !pass ∧ v.mcr.holdupBad = !pass := by
    unfold v
    split
    · exact first
    · exact keeps (by simp) (by simp +decide) (by simp +decide) first
  have third : w.mcr.holdupRun = none ∧ w.mcr.holdupEnd = some s.frame ∧ w.num Reg.mcrHoldupCap = cap ∧
      w.bit Reg.mcrStatus 6 = !pass ∧ w.mcr.holdupBad = !pass := by
    unfold w
    split
    · obtain ⟨mcr, -, regs⟩ := v.setTest_shows (if pass then 2 else 3) 0 5 0
      have shown : (v.setTest (if pass then 2 else 3) 0 5 0).bit Reg.mcrStatus 6 = v.bit Reg.mcrStatus 6 := by
        simp +decide [State.setTest, State.runTest, State.testStatus]
      have counted (x : State) : (x.when (!pass) fun x => x.countErr .mcr Reg.mcrTestFailCnt 5).mcr = x.mcr ∧
          ∀ r, logReg r = false → r ≠ Reg.mcrTestFailCnt → (x.when (!pass) fun x => x.countErr .mcr Reg.mcrTestFailCnt 5).reg r = x.reg r := by
        unfold State.when
        split
        · exact ⟨by simp, fun r off other => by rw [State.reg_of_countErr _ _ _ _ _ _ _ off, if_neg (Ne.symm other)]⟩
        · exact ⟨rfl, fun _ _ _ => rfl⟩
      obtain ⟨mcr', regs'⟩ := counted (v.setTest (if pass then 2 else 3) 0 5 0)
      have same : (((v.setTest (if pass then 2 else 3) 0 5 0).when (!pass) fun x => x.countErr .mcr Reg.mcrTestFailCnt 5).raise
          Reg.mcrEvent 6).mcr = { v.mcr with testRun := if (if pass then 2 else 3) = 1 then some 5 else none } :=
        (State.mcr_raise _ _ _).trans (mcr'.trans mcr)
      refine keeps ⟨(congrArg Mcr.holdupRun same :), (congrArg Mcr.holdupEnd same :), (congrArg Mcr.holdupBad same :)⟩ ?_ ?_ second
      · rw [State.reg_of_raise _ _ _ _ (by decide), if_neg (by decide), regs' _ (by decide) (by decide), regs _ (by decide) (by decide)]
      · rw [State.bit_eq, State.reg_of_raise _ _ _ _ (by decide), if_neg (by decide), regs' _ (by decide) (by decide), ← State.bit_eq, shown]
    · exact second
  obtain ⟨mcr₉, regs₉⟩ := healed w
  exact ⟨cap, keeps (by rw [mcr₉]; exact ⟨rfl, rfl, rfl⟩) (regs₉ _ (by decide))
    (congrArg (wordField · 6 1 == 1) (regs₉ Reg.mcrStatus (by decide))) third⟩

theorem State.holdupEnd_ends {us e c : Nat} (run : s.mcr.holdupRun = some c) (past : s.discharged c us e = true) :
    (s.holdupEnd us e).mcr.holdupRun = none ∧ (s.holdupEnd us e).mcr.holdupEnd = some s.frame ∧
    (s.holdupEnd us e).bit Reg.mcrStatus 6 =
      decide ((s.holdupEnd us e).num Reg.mcrHoldupCap < s.field Reg.mcrHoldupMin 0 24) ∧
    (s.holdupEnd us e).mcr.holdupBad = (s.holdupEnd us e).bit Reg.mcrStatus 6 := by
  obtain ⟨cap, run', fin, shown, bit, bad⟩ := s.holdupEnd_measures run past
  refine ⟨run', fin, ?_, bad.trans bit.symm⟩
  rw [bit, shown, ← decide_not]
  exact decide_eq_decide.2 Nat.not_le

/-! ## Care of the media -/

theorem State.gcFactorReview_reviews {f : Nat} (base : s.mcr.baseAt = some f) (stage : s.mcr.stage = 2) (run : s.inRun = true)
    (due : f + 1000 ≤ s.frame) : s.gcFactorReview.mcr.baseAt = some (f + 1000) ∧ s.gcFactorReview.mcr.baseline = s.gcDebt ∧
    s.gcFactorReview.num Reg.mcrGcFactor =
      (if s.mcr.baseline ≤ s.gcDebt then max 8192 (s.gcFactor - 8192) else s.num Reg.mcrGcFactor) := by
  have small : s.gcFactor < 2 ^ 17 := wordField_lt _ 0 17
  unfold State.gcFactorReview
  rw [base]
  dsimp only
  rw [if_pos ⟨stage, run, due⟩]
  generalize s.gcFactor = g at small
  generalize s.gcDebt = debt
  split
  · refine ⟨rfl, rfl, ?_⟩
    rw [State.num_setNum_same, Nat.mod_eq_of_lt (by omega)]
  · exact ⟨rfl, rfl, rfl⟩

theorem State.any_popLanes (p : Nat → Bool) {lane : Nat} (populated : s.populatedLane lane = true) (holds : p lane = true) :
    s.popLanes.any p = true := by
  have small : lane < 512 := by
    unfold State.populatedLane at populated
    rw [Bool.and_eq_true, Bool.and_eq_true] at populated
    exact of_decide_eq_true populated.1.1
  rw [State.popLanes, List.any_filter, List.any_eq_true]
  exact ⟨lane, List.mem_range.2 small, by rw [populated, holds]; rfl⟩

theorem State.scrubLate_shows {lane : Nat} (populated : s.populatedLane lane = true) (usable : s.dieUsable lane = true)
    (todo : (s.die lane).scrubDone = false) (new : (s.die lane).scrubLate = false)
    (past : (s.die lane).scrubFrom + s.scrubFrames ≤ s.frame) : ((s.scrubLate lane).die lane).scrubLate = true ∧
    (s.scrubLate lane).bit Reg.mcrStatus 2 = true ∧ (s.scrubLate lane).bit Reg.mcrEvent 2 = true := by
  have late : ((s.updDie lane fun y => { y with scrubLate := true }).die lane).scrubLate = true := by
    simp [State.die, State.updDie, Tab.get_modify]
  have some_ : ((s.updDie lane fun y => { y with scrubLate := true }).popLanes.any fun l =>
      ((s.updDie lane fun y => { y with scrubLate := true }).die l).scrubLate) = true := by
    generalize hu : (s.updDie lane fun y => { y with scrubLate := true }) = u at late
    have here : u.populatedLane lane = true := by rw [← hu]; exact populated
    exact u.any_popLanes _ here late
  unfold State.scrubLate
  dsimp only
  rw [if_pos ⟨usable, by simp [todo], by simp [new], past⟩]
  refine ⟨?_, ?_, ?_⟩
  · rw [State.die, State.mch_raiseLog]
    exact late
  · rw [State.bit_eq, State.reg_of_raiseLog _ _ _ _ _ _ _ (by decide), if_neg (by decide), State.showScrub, some_]
    simp
  · simp +decide [State.showScrub]

theorem State.offsets_updBlock (lane b : Nat) (f : Blk → Blk) :
    ((s.updBlock lane b f).die lane).offsets = (s.die lane).offsets := by
  unfold State.updBlock State.updDie State.die
  rw [Tab.get_modify, if_pos rfl]
  unfold Die.updBlock
  split <;> rfl

theorem State.calibrate_steps {lane g : Nat} (best : List Int) (closed : (s.calBlock lane g).isSome = true)
    (due : s.calDue lane g = true) : ((s.calibrate lane g best).die lane).offsets =
      insertKey g (stepOffsets (s.levelsFor lane g) best) (eraseKey g (s.die lane).offsets) ∧
    (s.calibrate lane g best).num Reg.mcrCalCnt = satAdd 32 (s.num Reg.mcrCalCnt) 1 := by
  obtain ⟨b, hb⟩ := Option.isSome_iff_exists.1 closed
  unfold State.calibrate
  split
  case h_1 none_ => exact absurd (none_.symm.trans hb) (by simp)
  case h_2 b' hb' =>
  obtain rfl := Option.some.inj (hb'.symm.trans hb)
  rw [if_pos due]
  extract_lets l n t
  have checked (u : State) : (u.disturbCheck lane b').num Reg.mcrCalCnt = u.num Reg.mcrCalCnt ∧
      ((u.disturbCheck lane b').die lane).offsets = (u.die lane).offsets := by
    refine ⟨congrArg BitVec.toNat (reg_of_without (u.disturbCheck_without lane b' (List.Subset.refl _)) (by decide)), ?_⟩
    unfold State.disturbCheck
    dsimp only
    split
    · exact u.offsets_updBlock lane b' _
    · rfl
  have sent (l : List Nat) (u : State) : (l.foldl (fun t _ => t.emit (.die lane 1)) u).mch = u.mch ∧
      (l.foldl (fun t _ => t.emit (.die lane 1)) u).regs = u.regs := by
    induction l generalizing u with
    | nil => exact ⟨rfl, rfl⟩
    | cons k l ih => exact ih (u.emit (.die lane 1))
  have read : (t.die lane).offsets = (s.die lane).offsets :=
    State.offsets_updBlock _ lane b' _
  obtain ⟨mch, regs⟩ := sent (List.range n) t
  generalize (List.range n).foldl (fun t _ => t.emit (.die lane 1)) t = u at mch regs
  refine ⟨(checked _).2.trans ?_, (checked _).1.trans ?_⟩
  · have stored : (u.die lane).offsets = (s.die lane).offsets := (congrArg (fun m : Mch => (m.dies.get lane).offsets) mch).trans read
    have put (f : Die → Die) : (u.updDie lane f).die lane = f (u.die lane) := by
      unfold State.updDie State.die
      rw [Tab.get_modify, if_pos rfl]
    refine (congrArg Die.offsets (put _)).trans ?_
    rw [stored]
  · have upd (x : State) (f : Blk → Blk) : (x.updBlock lane b' f).reg Reg.mcrCalCnt = x.reg Reg.mcrCalCnt := rfl
    have put (x : State) (f : Die → Die) : (x.updDie lane f).num Reg.mcrCalCnt = x.num Reg.mcrCalCnt := rfl
    have counted : t.reg Reg.mcrCalCnt = s.reg Reg.mcrCalCnt := by
      rw [upd, State.reg_of_inc, if_neg (by decide)]
    have same : u.reg Reg.mcrCalCnt = t.reg Reg.mcrCalCnt := by
      unfold State.reg
      rw [regs]
    rw [State.num_inc_same, put]
    exact congrArg (fun w : Word => satAdd 32 w.toNat 1) (same.trans counted)

theorem State.forecast_stores (p : Nat)
    (due : s.mcr.eolDue = true ∨ s.mcr.dayAt.all (fun f => decide (f + 86400000 ≤ s.frame)) = true) :
    (s.forecast p).mcr.eolDevice.getLast? = some p ∧ (s.forecast p).bit Reg.mcrEvent 8 = true ∧
    (s.forecast p).mcr.eolDue = false := by
  have reviewed : ¬ (¬ s.mcr.dayAt.all (· + 86400000 ≤ s.frame) = true ∧ ¬ s.mcr.eolDue = true) := fun h => due.elim h.2 h.1
  unfold State.forecast
  extract_lets daily u mcr₁ v mcr₂ t holdup ageing best cause pick mcr₃
  rw [if_neg reviewed]
  refine ⟨?_, by simp +decide, ?_⟩
  · rw [State.mcr_raise]
    have split_ : t.seconds :: (pick ++ [holdup, ageing, p]) = (t.seconds :: (pick ++ [holdup, ageing])) ++ [p] := by simp
    exact (congrArg List.getLast? split_).trans List.getLast?_concat
  · rw [State.mcr_raise]

end

/-- Settles O12: a test that begins or ends shows it, whatever the arm that waited for it and the work of the dies then
bring about. -/
theorem careAndTests : Obligations.CareAndTests := by
  unfold Obligations.CareAndTests
  refine ⟨fun s f live base stage run due => ?_, fun s lane live populated usable todo new past => ?_,
    fun s lane g best live closed due => ?_, fun s p live due => ?_, fun s b v k live may run test => ?_,
    fun s b v live may idle test park sram ready die => ?_, fun s b k live may run online outside => ?_,
    fun s b k live may run online inside => ?_, fun s b k live may run only => ?_, fun s e k live run other past => ?_,
    fun s e live run past => ?_, fun s f live idle none_ ready last due rest => ?_, fun s us e c live run past => ?_⟩
  · exact ⟨_, next_whenLive live rfl, s.gcFactorReview_reviews base stage run due⟩
  · exact ⟨_, next_whenLive live rfl, s.scrubLate_shows populated usable todo new past⟩
  · exact ⟨_, next_whenLive live rfl, s.calibrate_steps best closed due⟩
  · exact ⟨_, next_whenLive live rfl, s.forecast_stores p due⟩
  · exact ⟨_, State.next_byHost live may, s.testStart_refused run test⟩
  · exact ⟨_, State.next_byHost live may, s.testStart_starts idle test park sram ready die⟩
  · exact ⟨_, State.next_byHost live may, s.testAbort_stops run online outside⟩
  · exact ⟨_, State.next_byHost live may, s.testAbort_waits run online inside⟩
  · exact ⟨_, State.next_byHost live may, s.testAbort_parkOnly run only⟩
  · obtain ⟨ended, status, -⟩ := s.testDone_ends e run past
    exact ⟨_, next_whenLive live rfl, ended, status other⟩
  · obtain ⟨ended, -, events⟩ := s.testDone_ends e run past
    exact ⟨_, next_whenLive live rfl, ended, events rfl⟩
  · exact ⟨_, next_whenLive live rfl, s.holdupDue_starts idle none_ ready last due rest⟩
  · exact ⟨_, next_whenLive live rfl, s.holdupEnd_ends run past⟩

end Sys2Proof.Machine
end

section
/-! SUPPORT. The host link, its power states, containment and the sled's attention button (O13). -/
set_option linter.unusedSimpArgs false
namespace Sys2Proof.Machine

/-! ## What transfers, commands and messages that end leave of the Host Port -/

/-- The Host Port's state without its requests, its transfers and the time of its last TLP. -/
def Hpt.port (k : Hpt) : Hpt := { k with np := [], quar := [], intern := [], tlpAt := 0 }

/-- The registers that tell of containment and of the sled, and those that start and stop what acts on them. -/
def portRegs : List Nat := [Reg.hptContainStatus, Reg.sppStatus, Reg.sppCtl, Reg.sppAttnTmo]

/-- The events of the Host Port and of the sled. -/
def portEvents : List Nat := [Reg.hptEvent, Reg.sppEvent]

/-- Containment, the sled and the link's training show as they did, and no event of them is cleared. -/
structure State.PortRegs (s t : State) : Prop where
  regs : ∀ r ∈ portRegs, t.reg r = s.reg r
  link : ∀ lo w, lo + w ≤ 15 → t.field Reg.hptStatus lo w = s.field Reg.hptStatus lo w
  events : ∀ ev ∈ portEvents, ∀ i, s.bit ev i = true → t.bit ev i = true

/-- The Host Port is as it was but for its requests and transfers. -/
structure State.PortKept (s t : State) : Prop extends s.PortRegs t where
  port : t.hpt.port = s.hpt.port

/-- A part that holds nothing of the Host Port or the sled. -/
def Part.offPort : Part → Bool
  | .hpt => false
  | .regs page => page != 1 && page != 20
  | _ => true

section
variable {s t u : State}

theorem State.PortRegs.refl : s.PortRegs s := ⟨fun _ _ => rfl, fun _ _ _ => rfl, fun _ _ _ h => h⟩

theorem State.PortRegs.trans (h : s.PortRegs t) (k : t.PortRegs u) : s.PortRegs u :=
  ⟨fun r mem => (k.regs r mem).trans (h.regs r mem), fun lo w le => (k.link lo w le).trans (h.link lo w le),
    fun ev mem i on => k.events ev mem i (h.events ev mem i on)⟩

/-- A step that leaves every register of the Host Port and of the sled. -/
theorem State.PortRegs.of_regs (h : ∀ r ∈ Reg.hptStatus :: portRegs ++ portEvents, t.reg r = s.reg r) : s.PortRegs t where
  regs r mem := h r (by simp [mem])
  link lo w _ := congrArg (wordField · lo w) (h _ (by simp))
  events ev mem i on := (congrArg (wordField · i 1 == 1) (h ev (by simp [mem]))).trans on

theorem State.PortRegs.of_same (h : t.regs = s.regs) : s.PortRegs t := .of_regs fun r _ => congrArg (Tab.get · r) h

theorem State.PortKept.refl : s.PortKept s := ⟨.refl, rfl⟩

theorem State.PortKept.trans (h : s.PortKept t) (k : t.PortKept u) : s.PortKept u :=
  ⟨h.toPortRegs.trans k.toPortRegs, k.port.trans h.port⟩

theorem State.PortKept.ite {p : Prop} [Decidable p] (h : s.PortKept t) (k : s.PortKept u) : s.PortKept (if p then t else u) := by
  split
  · exact h
  · exact k

theorem State.PortKept.of_eq (hpt : t.hpt.port = s.hpt.port) (regs : t.regs = s.regs) : s.PortKept t := ⟨.of_same regs, hpt⟩

/-- A step whose law lists neither the Host Port nor the sled. -/
theorem State.PortKept.of_law {W : List Part} (law : t.without W = s.without W) (off : W.all Part.offPort = true) : s.PortKept t := by
  have apart (p : Part) (mem : p ∈ W) : p.offPort = true := List.all_eq_true.1 off p mem
  have pages : ∀ r ∈ Reg.hptStatus :: portRegs ++ portEvents, r / 0x100000 = 1 ∨ r / 0x100000 = 20 := by decide
  refine ⟨.of_regs fun r mem => reg_of_without law fun listed => ?_, congrArg Hpt.port (hpt_of_without law fun mem => ?_)⟩
  · have := apart _ listed
    rcases pages r mem with page | page <;> simp [Part.offPort, page] at this
  · exact absurd (apart _ mem) (by decide)

theorem State.portKept_foldl {α : Type} {f : State → α → State} (each : ∀ (s : State) a, s.PortKept (f s a)) (l : List α)
    (s : State) : s.PortKept (l.foldl f s) := by
  induction l generalizing s with
  | nil => exact .refl
  | cons a l ih => exact (each s a).trans (ih (f s a))

/-- A register that is none of the Host Port's and of the sled's may be written. -/
theorem State.PortKept.setReg (s : State) {off : Nat} (h : off ∉ Reg.hptStatus :: portRegs ++ portEvents) (v : Word) :
    s.PortKept (s.setReg off v) :=
  ⟨.of_regs fun r mem => by rw [State.reg_of_setReg, if_neg (by rintro rfl; exact h mem)], rfl⟩

theorem State.PortKept.setField (s : State) {off : Nat} (h : off ∉ Reg.hptStatus :: portRegs ++ portEvents) (lo w v : Nat) :
    s.PortKept (s.setField off lo w v) := .setReg s h _
theorem State.PortKept.setBit (s : State) {off : Nat} (h : off ∉ Reg.hptStatus :: portRegs ++ portEvents) (i : Nat) (b : Bool) :
    s.PortKept (s.setBit off i b) := .setReg s h _
theorem State.PortKept.setNum (s : State) {off : Nat} (h : off ∉ Reg.hptStatus :: portRegs ++ portEvents) (v : Nat) :
    s.PortKept (s.setNum off v) := .setReg s h _
theorem State.PortKept.inc (s : State) {off : Nat} (h : off ∉ Reg.hptStatus :: portRegs ++ portEvents) (n : Nat) :
    s.PortKept (s.inc off n) := .setReg s h _

theorem State.PortKept.logAt (s : State) (b : Block) (code inst fn : Nat) (detail : List Word) :
    s.PortKept (s.logAt b code inst fn detail) := by
  have quiet : ∀ r ∈ Reg.hptStatus :: portRegs ++ portEvents, logReg r = false := by decide
  exact ⟨.of_regs fun r mem => State.reg_of_logAt _ _ _ _ _ _ _ (quiet r mem), congrArg Hpt.port (s.hpt_logAt ..)⟩

theorem State.PortKept.countErr (s : State) {b : Block} {off inst fn : Nat} {detail : List Word}
    (h : off ∉ Reg.hptStatus :: portRegs ++ portEvents) : s.PortKept (s.countErr b off inst fn detail) :=
  (State.PortKept.inc s h 1).trans (.logAt ..)

theorem State.PortKept.raise (s : State) {ev i : Nat} (h : ev ∉ Reg.hptStatus :: portRegs) (lt : i < 32) :
    s.PortKept (s.raise ev i) := by
  have kept (r : Nat) (mem : r ∈ Reg.hptStatus :: portRegs) (page : r / 0x100000 ≠ 15) : (s.raise ev i).reg r = s.reg r := by
    rw [State.reg_of_raise _ _ _ _ page, if_neg (by rintro rfl; exact h mem)]
  have pages : ∀ r ∈ Reg.hptStatus :: portRegs ++ portEvents, r / 0x100000 ≠ 15 := by decide
  refine ⟨⟨fun r mem => kept r (by simp [mem]) (pages r (by simp [mem])), fun lo w _ => ?_, fun e mem k on => ?_⟩,
    congrArg Hpt.port (s.hpt_raise ev i)⟩
  · exact congrArg (wordField · lo w) (kept Reg.hptStatus (by simp) (by decide))
  · rw [State.bit_eq, State.reg_of_raise _ _ _ _ (pages e (by simp [mem]))]
    split
    · exact beq_iff_eq.2 (wordField_setBit_mono _ lt (beq_iff_eq.1 on))
    · exact on

theorem State.portKept_linkBusy (s : State) : s.PortKept s.linkBusy := by
  have woken (t : State) : t.PortRegs ((t.setBit Reg.hptStatus 15 false).setField Reg.hptStatus 16 2 0) := by
    have other (r : Nat) (ne : Reg.hptStatus ≠ r) : ((t.setBit Reg.hptStatus 15 false).setField Reg.hptStatus 16 2 0).reg r = t.reg r := by
      rw [State.reg_of_setField, if_neg ne, State.reg_of_setBit, if_neg ne]
    have apart : ∀ r ∈ portRegs ++ portEvents, Reg.hptStatus ≠ r := by decide
    refine ⟨fun r mem => other r (apart r (by simp [mem])), fun lo w le => ?_, fun ev mem i on => ?_⟩
    · rw [State.field_eq, State.reg_of_setField, if_pos rfl, wordField_setWordField_disjoint _ _ _ _ _ _ (.inl (by omega)),
        State.reg_of_setBit, if_pos rfl, wordField_setWordField_disjoint _ _ _ _ _ _ (.inl le), State.field_eq]
    · exact (congrArg (wordField · i 1 == 1) (other ev (apart ev (by simp [mem])))).trans on
  unfold State.linkBusy
  extract_lets t
  have left : s.PortKept t := .ite ⟨(woken s).trans (.of_same rfl), rfl⟩ .refl
  exact left.trans (.of_eq rfl rfl)

theorem State.portKept_toHost (s : State) (o : Out) : s.PortKept (s.toHost o) :=
  s.portKept_linkBusy.trans (.of_eq rfl rfl)

theorem State.portKept_issueNp (s : State) (fn : Nat) (kind : NpKind) (off len part : Nat) :
    s.PortKept (s.issueNp fn kind off len part) := by
  unfold State.issueNp
  split
  · refine .trans ?_ (State.portKept_toHost _ _)
    refine .trans ?_ ((State.PortKept.setNum _ (by decide) _).trans (.setNum _ (by decide) _))
    exact .of_eq rfl rfl
  · exact .refl

theorem State.portKept_msix (s : State) (f vec : Nat) : s.PortKept (s.msix f vec) := by
  unfold State.msix
  refine .ite .refl (.ite ?_ (.ite (.of_eq rfl rfl) ((State.PortKept.inc s (by decide) _).trans (State.portKept_toHost _ _))))
  refine .trans ?_ (.inc _ (by decide) _)
  exact .of_eq rfl rfl

theorem State.portKept_internDone (s : State) (e : Intern) : s.PortKept (s.internDone e) := by
  unfold State.internDone
  split
  · refine .ite (State.portKept_foldl (fun t o => ?_) _ _) (.of_eq rfl rfl)
    split
    · exact t.portKept_issueNp ..
    · exact .of_eq rfl rfl
  · extract_lets t
    have sent : s.PortKept t := State.portKept_foldl (fun t o => t.portKept_toHost o) _ _
    split
    · exact sent.trans ((State.PortKept.setNum _ (by decide) _).trans (.setBit _ (by decide) _ _))
    · exact sent.trans ((State.PortKept.setNum _ (by decide) _).trans (.setBit _ (by decide) _ _))
    · exact sent.trans (.of_eq rfl rfl)
    · exact sent.trans (State.portKept_msix _ _ _)
    · exact sent

theorem State.portKept_internal (s : State) (e : Intern) : s.PortKept (s.internal e) :=
  .ite (s.portKept_internDone e) (.of_eq rfl rfl)

theorem State.portKept_internalRead (s : State) (k : Inner) (fn : Nat) (cmd : Option CmdId) (addr len : Nat) :
    s.PortKept (s.internalRead k fn cmd addr len) := State.portKept_foldl (fun t _ => t.portKept_internal _) _ s

theorem State.portKept_flushIntern (s : State) : s.PortKept s.flushIntern := by
  unfold State.flushIntern
  refine .trans ?_ (State.portKept_foldl (fun t e => t.portKept_internDone e) _ _)
  exact .of_eq rfl rfl

theorem State.portKept_sdmMove (s : State) (ch : Nat) : s.PortKept (s.sdmMove ch) := by
  have asked (on : Bool) (addr len : Nat) {t : State} (h : s.PortKept t) :
      s.PortKept (if on = true then t.internalRead .sdm 0 none addr len else t) := .ite (h.trans (t.portKept_internalRead ..)) h
  unfold State.sdmMove
  split
  · exact .refl
  · extract_lets get put t
    have fetched : s.PortKept t := asked _ _ _ (asked _ _ _ (asked _ _ _ (.of_eq rfl rfl)))
    exact .ite fetched (fetched.trans (State.portKept_internal _ _))

theorem State.portKept_sdmSchedule (s : State) : s.PortKept s.sdmSchedule := by
  have shown (t : State) : t.PortKept t.showSdm := .of_law (t.showSdm_without (List.Subset.refl _)) rfl
  have stalled : s.PortKept s.sdmStall := .of_law (s.sdmStall_without (List.Subset.refl _)) rfl
  unfold State.sdmSchedule
  extract_lets u
  split
  · exact stalled.trans (shown u)
  · split
    · exact stalled.trans (shown u)
    · next c _ =>
      extract_lets t
      have noted (x : State) (k : Sdm) : x.PortKept { x with sdm := k } := .of_eq rfl rfl
      have begun : u.PortKept t := noted u _
      have put (x : State) (st : Nat) : x.PortKept (x.setSdmState c st) := .of_law (x.setSdmState_without _ _ (List.Subset.refl _)) rfl
      exact ((stalled.trans begun).trans (put t _)).trans ((State.portKept_sdmMove _ c).trans (shown _))

theorem State.portKept_endList (s : State) (ch cause : Nat) : s.PortKept (s.endList ch cause) := by
  have off {r : Nat} (h : r / 0x100000 = 17) : r ∉ Reg.hptStatus :: portRegs ++ portEvents := by
    have pages : ∀ r ∈ Reg.hptStatus :: portRegs ++ portEvents, r / 0x100000 ≠ 17 := by decide
    exact fun mem => pages r mem h
  unfold State.endList
  extract_lets len t src sdm t₁ st t₂ t₃ t₄
  have e₀ : s.PortKept t := .of_eq rfl rfl
  have e₁ : t.PortKept t₁ := .ite (.of_eq rfl rfl) .refl
  have e₂ : t₁.PortKept t₂ := (State.PortKept.setField _ (off (page_sdmChStatus _)) _ _ _).trans (.setField _ (off (page_sdmChStatus _)) _ _ _)
  have e₃ : t₂.PortKept t₃ := .ite (.setNum _ (off (page_sdmChRemain _)) _) (.ite .refl
    ((State.PortKept.setNum _ (off (page_sdmChRemain _)) _).trans (.of_eq rfl rfl)))
  have e₄ : t₃.PortKept t₄ := .ite (.setBit _ (off (page_sdmChFlags _)) _ _) (.ite (.setBit _ (off (page_sdmChFlags _)) _ _)
    (.ite ((State.PortKept.setBit _ (off (page_sdmChFlags _)) _ _).trans (.countErr _ (off (page_sdmChErrCnt _)))) .refl))
  exact (((e₀.trans e₁).trans e₂).trans e₃).trans (e₄.trans (.of_law (State.ring_without _ _ (List.Subset.refl _)) rfl))

theorem State.portKept_endHostLists (s : State) : s.PortKept s.endHostLists := by
  unfold State.endHostLists
  refine .trans (State.portKept_foldl (fun t c => ?_) _ s) (State.portKept_sdmSchedule _)
  exact .ite (.of_eq rfl rfl) (t.portKept_endList c 6)

theorem State.portKept_migFail (s : State) (err : Nat) : s.PortKept (s.migFail err) := by
  unfold State.migFail
  refine .trans (.trans (.trans (.trans ?_ (.setField _ (by decide) _ _ _)) (.setField _ (by decide) _ _ _)) (.countErr _ (by decide)))
    (.raise _ (by decide) (by decide))
  exact .of_eq rfl rfl

theorem State.portKept_migHostLost (s : State) : s.PortKept s.migHostLost := .ite (s.portKept_migFail 8) .refl

theorem State.portKept_failInternals (s : State) : s.PortKept s.failInternals := by
  have lost (t : State) : t.PortKept t.imageLost := by
    unfold State.imageLost
    extract_lets e u
    have off : t.PortKept u := by
      refine .trans ?_ (.setBit _ (by decide) _ _)
      exact .of_eq rfl rfl
    have failed (x : State) (l : LoadErr) : x.PortKept (x.loadFailed l) :=
      ((State.PortKept.setNum _ (by decide) _).trans (.setNum _ (by decide) _)).trans
        ((State.PortKept.raise _ (by decide) (by decide)).trans (.countErr _ (by decide)))
    exact .ite ((off.trans (failed _ _)).trans (.of_law (State.noteLoad_without _ _ (List.Subset.refl _)) rfl)) .refl
  have each (t : State) (k : Inner) (c : Option CmdId) : t.PortKept (t.internalFailed k c) := by
    unfold State.internalFailed
    split
    · split
      · exact .of_law (t.failCmd_without _ _ (List.Subset.refl _)) rfl
      · exact .refl
    · exact lost t
    · split
      · exact .of_eq rfl rfl
      · exact .refl
    · exact t.portKept_migHostLost
    · exact .of_eq rfl rfl
    · exact .refl
  refine State.portKept_foldl (fun t r => ?_) _ s
  split
  · exact each t _ _
  · exact .refl

theorem State.portKept_abandonNp (s : State) (p : Np → Bool) (quiet : Bool) : s.PortKept (s.abandonNp p quiet) := by
  unfold State.abandonNp
  refine .trans ?_ ((State.PortKept.setNum _ (by decide) _).trans (.setNum _ (by decide) _))
  exact .of_eq rfl rfl

theorem State.portKept_dropCmds (s : State) (p : Cmd → Bool) : s.PortKept (s.dropCmds p) := by
  have ended (l : List Cmd) (t : State) : t.PortKept (l.foldl (fun t x => t.endReads x) t) :=
    State.portKept_foldl (fun t x => .of_law (t.endReads_without x (List.Subset.refl _)) rfl) l t
  unfold State.dropCmds
  extract_lets gone ids t prx t₁ t₂ orphan wrp t₃
  have e₁ : s.PortKept t₁ := (ended gone s).trans (.of_eq rfl rfl)
  have e₂ : t₁.PortKept t₂ := .of_law (State.discardFilling_without _ _ (List.Subset.refl _)) rfl
  have e₃ : t₂.PortKept t₃ := .of_eq rfl rfl
  exact ((e₁.trans e₂).trans e₃).trans (.of_eq rfl rfl)

theorem State.portKept_send (s : State) (m : LinkMsg) : s.PortKept (s.send m) :=
  .of_law (s.send_without m (List.Subset.refl _)) rfl

theorem State.PortRegs.dlUp (h : s.PortRegs t) : t.dlUp = s.dlUp := congrArg (· == 1) (h.link 9 1 (by decide))
theorem State.PortRegs.linkWidth (h : s.PortRegs t) : t.linkWidth = s.linkWidth := h.link 3 5 (by decide)
theorem State.PortRegs.field (h : s.PortRegs t) {r : Nat} (mem : r ∈ portRegs) (lo w : Nat) : t.field r lo w = s.field r lo w :=
  congrArg (wordField · lo w) (h.regs r mem)
theorem State.PortRegs.bit (h : s.PortRegs t) {r : Nat} (mem : r ∈ portRegs) (i : Nat) : t.bit r i = s.bit r i :=
  congrArg (wordField · i 1 == 1) (h.regs r mem)
theorem State.PortRegs.containState (h : s.PortRegs t) : t.containState = s.containState := h.field (by decide) 0 2
theorem State.PortKept.attnAt (h : s.PortKept t) : t.hpt.attnAt = s.hpt.attnAt := (congrArg Hpt.attnAt h.port :)
theorem State.PortKept.pathLost (h : s.PortKept t) : t.hpt.pathLost = s.hpt.pathLost := (congrArg Hpt.pathLost h.port :)
theorem State.PortKept.atc (h : s.PortKept t) : t.hpt.atc = s.hpt.atc := (congrArg Hpt.atc h.port :)
end

/-! ## Containment -/

section
variable (s : State)

theorem State.containNow_shows (cause : Nat) :
    ((s.setField Reg.hptContainStatus 0 2 1).setField Reg.hptContainStatus 4 4 cause).PortRegs (s.containNow cause) ∧
    (s.containNow cause).hpt.atc = [] ∧ (s.containNow cause).hpt.pathLost = true ∧
    (s.containNow cause).hpt.attnAt = s.hpt.attnAt ∧ (s.containNow cause).cmds = [] := by
  unfold State.containNow
  extract_lets u v hpt lpb w x
  have dropped : u.PortKept v := ((State.portKept_failInternals u).trans (State.portKept_abandonNp _ _ _)).trans (State.portKept_dropCmds _ _)
  have gone : v.cmds = [] := List.filter_eq_nil_iff.2 (by simp)
  have ended : w.PortKept x := ((State.portKept_endHostLists w).trans (State.portKept_migHostLost _)).trans (State.portKept_send _ _)
  have told : x.PortKept ((x.countErr .hpt Reg.hptContainCnt).raise Reg.hptEvent 3) :=
    (State.PortKept.countErr _ (by decide)).trans (.raise _ (by decide) (by decide))
  have rest := ended.trans told
  have cmds : x.cmds = w.cmds :=
    (cmds_of_without (State.send_without _ _ (List.Subset.refl _)) (by simp)).trans
      ((cmds_of_without (State.migHostLost_without _ (List.Subset.refl _)) (by simp)).trans
        (cmds_of_without (State.endHostLists_without _ (List.Subset.refl _)) (by simp)))
  have cut : v.PortRegs w := .of_same rfl
  refine ⟨(dropped.toPortRegs.trans cut).trans rest.toPortRegs, rest.atc, rest.pathLost, rest.attnAt.trans dropped.attnAt, ?_⟩
  rw [State.cmds_raise, State.cmds_countErr]
  exact cmds.trans gone

/-- What containment shows: its state, its cause, and nothing else of the link and of the sled changes. -/
theorem State.containNow_registers {cause : Nat} (small : cause < 16) : (s.containNow cause).containState = 1 ∧
    (s.containNow cause).field Reg.hptContainStatus 4 4 = cause ∧ (s.containNow cause).dlUp = s.dlUp ∧
    (s.containNow cause).linkWidth = s.linkWidth ∧
    (s.containNow cause).field Reg.hptStatus 0 3 = s.field Reg.hptStatus 0 3 ∧
    (s.containNow cause).reg Reg.sppStatus = s.reg Reg.sppStatus ∧
    (∀ ev ∈ portEvents, ∀ i, s.bit ev i = true → (s.containNow cause).bit ev i = true) := by
  obtain ⟨shown, -⟩ := s.containNow_shows cause
  generalize ht : s.containNow cause = t at shown
  refine ⟨?_, ?_, ?_, ?_, ?_, ?_, fun ev mem i on => shown.events ev mem i ?_⟩
  · refine shown.containState.trans ?_
    simp [State.containState, wordField_setWordField_disjoint]
  · refine (shown.field (by decide) 4 4).trans ?_
    simp [Nat.mod_eq_of_lt small]
  · refine shown.dlUp.trans ?_
    simp +decide [State.dlUp]
  · refine shown.linkWidth.trans ?_
    simp +decide [State.linkWidth]
  · refine (shown.link 0 3 (by decide)).trans ?_
    simp +decide
  · refine (shown.regs _ (by decide)).trans ?_
    simp +decide
  · have apart : ∀ ev ∈ portEvents, Reg.hptContainStatus ≠ ev := by decide
    rw [State.bit_eq, State.reg_of_setField, if_neg (apart ev mem), State.reg_of_setField, if_neg (apart ev mem)]
    exact on

/-! ## The link -/

theorem State.setHostLink_shows (speed width : Nat) :
    (s.setHostLink speed width).field Reg.hptStatus 0 3 = speed % 8 ∧ (s.setHostLink speed width).linkWidth = width % 32 ∧
    ∀ i, 15 ≤ i → i < 32 → (s.setHostLink speed width).bit Reg.hptStatus i = s.bit Reg.hptStatus i := by
  refine ⟨?_, ?_, fun i le lt => ?_⟩
  · simp [State.setHostLink, wordField_setWordField_disjoint]
  · simp [State.setHostLink, State.linkWidth, wordField_setWordField_disjoint]
  · simp [State.setHostLink, wordField_setWordField_disjoint, le, Nat.le_trans (by decide : 3 ≤ 15) le, Nat.le_trans (by decide : 8 ≤ 15) le]

theorem State.hostLinkUp_shows (v w : Nat) (fl rv : Bool) (high : s.pwr.perst = false) (down : s.dlUp = false) :
    (s.hostLinkUp v w fl rv).dlUp = true ∧ (s.hostLinkUp v w fl rv).linkWidth = w % 32 ∧
    (s.hostLinkUp v w fl rv).field Reg.hptStatus 0 3 = v % 8 ∧ (s.hostLinkUp v w fl rv).bit Reg.hptStatus 8 = (fl || v == 6) ∧
    (s.hostLinkUp v w fl rv).bit Reg.hptStatus 19 = rv ∧ (s.hostLinkUp v w fl rv).bit Reg.hptEvent 1 = true := by
  obtain ⟨speed, width, -⟩ := s.setHostLink_shows v w
  unfold State.hostLinkUp
  rw [if_neg (by simp [high, down])]
  generalize s.setHostLink v w = u at speed width
  simp only [State.linkWidth, State.field_eq] at speed width
  generalize (fl || v == 6) = flit
  refine ⟨?_, ?_, ?_, ?_, ?_, ?_⟩
  · simp +decide [State.dlUp]
  · simp +decide [State.linkWidth, width, wordField_setWordField_disjoint]
  · simp +decide [speed, wordField_setWordField_disjoint]
  · cases flit <;> simp +decide [wordField_setWordField_disjoint]
  · cases rv <;> simp +decide [wordField_setWordField_disjoint]
  · simp +decide

theorem State.hostRecovery_shows (v w : Nat) (up : s.dlUp = true) :
    (s.hostRecovery v w).num Reg.hptRecoveryCnt = satAdd 32 (s.num Reg.hptRecoveryCnt) 1 ∧
    (s.field Reg.hptStatus 0 3 ≠ v ∨ s.linkWidth ≠ w → (s.hostRecovery v w).linkWidth = w % 32 ∧
      (s.hostRecovery v w).field Reg.hptStatus 0 3 = v % 8 ∧ (s.hostRecovery v w).bit Reg.hptEvent 2 = true) ∧
    (s.hostRecovery v w).cmds = s.cmds := by
  obtain ⟨speed, width, -⟩ := (s.inc Reg.hptRecoveryCnt).setHostLink_shows v w
  unfold State.hostRecovery
  rw [if_pos up]
  extract_lets t
  split
  · next same => exact ⟨s.num_inc_same _ _, fun other => other.elim (absurd same.1) (absurd same.2), rfl⟩
  · refine ⟨?_, fun _ => ⟨?_, ?_, ?_⟩, by rw [State.cmds_raise]; rfl⟩
    · rw [State.num_eq, State.reg_of_raise _ _ _ _ (by decide), if_neg (by decide)]
      refine Eq.trans ?_ (s.num_inc_same Reg.hptRecoveryCnt 1)
      simp +decide [State.setHostLink, t]
    · rw [State.linkWidth, State.field_eq, State.reg_of_raise _ _ _ _ (by decide), if_neg (by decide)]
      exact width
    · rw [State.field_eq, State.reg_of_raise _ _ _ _ (by decide), if_neg (by decide)]
      exact speed
    · simp +decide

/-- The link as HOST_DL_DOWN leaves it before it contains. -/
theorem State.hostDlDown_shows (cause : DlDownCause) (up : s.dlUp = true) :
    ∃ t : State, s.hostDlDown cause = (match cause with | .other => if t.containState = 1 then t else t.containNow 1 | _ => t) ∧
      t.dlUp = false ∧ t.linkWidth = 0 ∧ t.field Reg.hptStatus 0 3 = 0 ∧ t.bit Reg.hptEvent 0 = true ∧
      t.containState = s.containState ∧ t.cmds = s.cmds := by
  unfold State.hostDlDown
  rw [if_pos up]
  extract_lets t₁ t₂ t₃
  obtain ⟨speed, width, -⟩ := s.setHostLink_shows 0 0
  refine ⟨t₃, rfl, ?_, ?_, ?_, ?_, ?_, ?_⟩
  · simp +decide [State.dlUp, t₃, t₂, t₁, wordField_setWordField_disjoint]
  · simp only [State.linkWidth, State.field_eq] at width
    simp +decide [State.linkWidth, t₃, t₂, t₁, wordField_setWordField_disjoint, width]
  · simp only [State.field_eq] at speed
    simp +decide [t₃, t₂, t₁, wordField_setWordField_disjoint, speed]
  · simp +decide [t₃]
  · simp +decide [State.containState, t₃, t₂, t₁, State.setHostLink, wordField_setWordField_disjoint]
  · rw [State.cmds_raise, State.cmds_countErr]
    rfl

theorem State.hostBadFlit_counts (up : s.dlUp = true) (flit : s.bit Reg.hptStatus 8 = true) :
    s.hostBadFlit.num Reg.hptBadTlpCnt = satAdd 32 (s.num Reg.hptBadTlpCnt) 1 ∧ s.hostBadFlit.cmds = s.cmds := by
  have reported (t : State) : (t.aerCor 0 6).reg Reg.hptBadTlpCnt = t.reg Reg.hptBadTlpCnt ∧ (t.aerCor 0 6).cmds = t.cmds := by
    refine ⟨?_, cmds_of_without (t.aerCor_without _ _ (List.Subset.refl _)) (by simp)⟩
    unfold State.aerCor
    split
    · simp +decide [State.aerLost]
    · dsimp only
      split <;> rfl
  unfold State.hostBadFlit
  rw [if_pos ⟨up, flit⟩]
  refine ⟨?_, (reported _).2.trans (State.cmds_countErr ..)⟩
  rw [State.num_eq, (reported _).1, State.reg_of_countErr _ _ _ _ _ _ _ (by decide), if_pos rfl, BitVec.toNat_ofNat,
    Nat.mod_eq_of_lt (satAdd_lt _ _)]
  rfl

theorem State.l1Enter_enters (n : Nat) (up : s.dlUp = true) (out : s.inL1 = false) (aspm : ((s.fn 0).cfg.get 0x70).getLsbD 1 = true)
    (free : s.boundedOut = false) (idle : s.hpt.np = []) (past : s.hpt.tlpAt + max 1 (s.field Reg.hptPmCtl 0 8) * 500 ≤ s.now) :
    (s.l1Enter n).inL1 = true ∧ (s.l1Enter n).cmds = s.cmds := by
  unfold State.l1Enter
  extract_lets on sub wait ss
  have quiet : ¬ s.inL1 = true ∧ on = true ∧ ¬ s.boundedOut = true ∧ s.hpt.np.isEmpty = true ∧ s.hpt.tlpAt + wait * 500 ≤ s.now :=
    ⟨by simp [out], aspm, by simp [free], by simp [idle], past⟩
  rw [if_pos ⟨up, quiet⟩]
  refine ⟨?_, rfl⟩
  simp [State.inL1, wordField_setWordField_disjoint]

theorem State.l1Exit_leaves (in_ : s.inL1 = true) : s.l1Exit.inL1 = false ∧ s.l1Exit.out = Out.host 7 0 0 :: s.out := by
  unfold State.l1Exit
  rw [if_pos in_]
  refine ⟨?_, rfl⟩
  simp [State.inL1, wordField_setWordField_disjoint]

theorem State.l0pHost_grants {w : Nat} (up : s.dlUp = true) (flit : s.bit Reg.hptStatus 8 = true) (some_ : 1 ≤ w) (within : w ≤ s.linkWidth) :
    (s.l0pHost w).field Reg.hptStatus 10 5 = w ∧ Out.host 9 0 w ∈ (s.l0pHost w).out := by
  have small : w % 2 ^ 5 = w := Nat.mod_eq_of_lt (Nat.lt_of_le_of_lt within (wordField_lt _ 3 5))
  unfold State.l0pHost
  rw [if_pos ⟨up, flit, some_, within⟩]
  extract_lets hpt t
  have set : t.field Reg.hptStatus 10 5 = w := by simpa [t] using small
  split
  · exact ⟨set, List.mem_cons_self⟩
  · refine ⟨?_, by rw [State.out_raise]; exact List.mem_cons_self⟩
    rw [State.field_eq, State.reg_of_raise _ _ _ _ (by decide), if_neg (by decide)]
    exact set

theorem State.l0pReduce_asks (up : s.dlUp = true) (flit : s.bit Reg.hptStatus 8 = true) (on : s.bit Reg.hptPmCtl 8 = true)
    (free : s.boundedOut = false) (idle : s.hpt.rwAt + max 1 (s.field Reg.hptPmCtl 16 8) ≤ s.frame)
    (wide : s.l0pWidth < s.field Reg.hptStatus 10 5) : s.l0pReduce.out = Out.host 8 0 s.l0pWidth :: s.out := by
  unfold State.l0pReduce
  extract_lets wait
  have quiet : s.bit Reg.hptPmCtl 8 = true ∧ ¬ s.boundedOut = true ∧ s.hpt.rwAt + wait ≤ s.frame ∧
      s.l0pWidth < s.field Reg.hptStatus 10 5 := ⟨on, by simp [free], idle, wide⟩
  rw [if_pos ⟨up, flit, quiet⟩]
  rfl

/-! ## Release -/

theorem State.portKept_ctlReset (f : Nat) : s.PortKept (s.ctlReset f) := by
  have shown (t : State) : t.PortKept t.showQueues := .of_law (t.showQueues_without (List.Subset.refl _)) rfl
  have ended : s.PortKept (s.endWork f) := by
    have rest (t : State) (l : List (Nat × Nat × Nat × Nat)) : t.PortKept { t with aens := l } := .of_eq rfl rfl
    unfold State.endWork
    exact ((s.portKept_abandonNp _ _).trans (State.portKept_dropCmds _ _)).trans (rest _ _)
  unfold State.ctlReset
  extract_lets t
  have upd (x : State) (g : Fn → Fn) : x.PortKept (x.updFn f g) := .of_eq rfl rfl
  have noted (x : State) (y : Tenants) : x.PortKept { x with tenants := y } := .of_eq rfl rfl
  exact ((ended.trans (upd _ _)).trans (noted t _)).trans (shown _)

theorem State.containRelease_begins (contained : s.containState = 1) (up : s.dlUp = true) (off : s.bit Reg.hptContainStatus 3 = false) :
    s.containRelease.containState = 2 := by
  unfold State.containRelease
  rw [if_pos ⟨contained, up, by simp [off, -State.bit_eq]⟩]
  extract_lets t
  have reset : t.PortKept ((0 :: (t.fns.entries.map (·.1)).filter (· != 0)).foldl (fun u f => u.ctlReset f) t) :=
    State.portKept_foldl (fun u f => u.portKept_ctlReset f) _ t
  refine reset.containState.trans ?_
  simp [State.containState, t]

theorem State.releaseDone_ends (releasing : s.containState = 2) : s.releaseDone.containState = 0 ∧
    s.releaseDone.hpt.pathLost = false ∧ s.releaseDone.bit Reg.hptEvent 4 = true := by
  unfold State.releaseDone
  rw [if_pos releasing]
  extract_lets hpt t u
  have normal : u.containState = 0 ∧ u.hpt.pathLost = false ∧ u.bit Reg.hptEvent 4 = true := by
    refine ⟨?_, ?_, ?_⟩
    · simp [State.containState, u]
    · refine Eq.trans (b := ((t.send (.control 7 t.frame)).raise Reg.hptEvent 4).hpt.pathLost) rfl ?_
      rw [State.hpt_raise, hpt_of_without (t.send_without _ (List.Subset.refl _)) (by simp)]
    · simp +decide [u]
  split
  · exact normal
  · obtain ⟨state, path, event⟩ := normal
    have flushed := u.portKept_flushIntern
    exact ⟨flushed.containState.trans state, flushed.pathLost.trans path, flushed.events _ (by decide) _ event⟩

/-! ## The sled -/

theorem State.attnPress_starts (normal : s.containState = 0) (none_ : s.hpt.attnAt = none) (timed : s.field Reg.sppAttnTmo 0 16 ≠ 0) :
    s.attnPress.hpt.attnAt = some s.now ∧ s.attnPress.bit Reg.sppStatus 1 = true ∧ s.attnPress.bit Reg.sppStatus 4 = true ∧
    s.attnPress.num Reg.sppPressCnt = satAdd 32 (s.num Reg.sppPressCnt) 1 := by
  unfold State.attnPress
  extract_lets t hpt u
  have pressed : t.hpt = s.hpt ∧ t.ftb = s.ftb ∧ t.bit Reg.sppStatus 1 = true ∧ t.reg Reg.hptContainStatus = s.reg Reg.hptContainStatus ∧
      t.reg Reg.sppAttnTmo = s.reg Reg.sppAttnTmo ∧ t.num Reg.sppPressCnt = satAdd 32 (s.num Reg.sppPressCnt) 1 := by
    refine ⟨by simp [t], by simp [t], ?_, ?_, ?_, ?_⟩
    · simp +decide [t]
    · simp +decide [t]
    · simp +decide [t]
    · rw [State.num_inc_same]
      simp +decide
  obtain ⟨hpt', ftb, bit, contain, timer, count⟩ := pressed
  have on : u = State.setBit { t with hpt := { t.hpt with attnAt := some t.now } } Reg.sppStatus 4 true := by
    refine if_pos ⟨?_, ?_⟩
    · rw [hpt', none_]; rfl
    · rw [State.field_eq, timer]; exact timed
  have state : u.containState ≠ 1 := by
    rw [on]
    have same : (State.setBit { t with hpt := { t.hpt with attnAt := some t.now } } Reg.sppStatus 4 true).containState = s.containState := by
      refine congrArg (wordField · 0 2) (Eq.trans ?_ contain)
      rw [State.reg_of_setBit, if_neg (by decide)]
      rfl
    omega
  rw [if_neg state, on]
  refine ⟨?_, ?_, ?_, ?_⟩
  · exact congrArg (fun f : Ftb => some f.clock) ftb
  · rw [State.bit_eq, State.reg_of_setBit, if_pos rfl, wordField_setWordField_disjoint _ _ _ _ _ _ (.inl (by decide))]
    exact bit
  · simp
  · rw [State.num_eq, State.reg_of_setBit, if_neg (by decide)]
    exact count

theorem State.stopAttn_stops : s.stopAttn.hpt.attnAt = none ∧ s.stopAttn.bit Reg.sppStatus 4 = false := by
  refine ⟨rfl, ?_⟩
  simp [State.stopAttn]

theorem State.attnExpiry_falls_back {n : Nat} (at_ : s.hpt.attnAt = some n) (past : n + s.field Reg.sppAttnTmo 0 16 * 500000 ≤ s.now)
    (enabled : s.bit Reg.sppCtl 4 = true) (idle : s.bit Reg.sppStatus 3 = false) : s.attnExpiry.hpt.attnAt = none ∧
    s.attnExpiry.containState = 1 ∧ s.attnExpiry.bit Reg.sppStatus 3 = true ∧ s.attnExpiry.bit Reg.hptContainStatus 3 = true := by
  have stopped : s.stopAttn.hpt.attnAt = none ∧ s.stopAttn.bit Reg.sppCtl 4 = true ∧ s.stopAttn.bit Reg.sppStatus 3 = false := by
    refine ⟨rfl, ?_, ?_⟩
    · rw [State.bit_eq, State.stopAttn, State.reg_of_setBit, if_neg (by decide)]
      exact enabled
    · rw [State.bit_eq, State.stopAttn, State.reg_of_setBit, if_pos rfl, wordField_setWordField_disjoint _ _ _ _ _ _ (.inl (by decide))]
      exact idle
  unfold State.attnExpiry
  rw [if_pos ((Option.any_eq_true _ _).2 ⟨n, at_, decide_eq_true past⟩)]
  generalize s.stopAttn = u at stopped
  obtain ⟨none_, on, free⟩ := stopped
  unfold State.fallback
  rw [if_pos ⟨on, by simp [free, -State.bit_eq]⟩]
  extract_lets t
  have contained : t.containState = 1 ∧ t.hpt.attnAt = none := by
    unfold t
    split
    · next one => exact ⟨one, none_⟩
    · exact ⟨(u.containNow_registers (by decide)).1, (u.containNow_shows 3).2.2.2.1.trans none_⟩
  obtain ⟨state, stop⟩ := contained
  refine ⟨?_, ?_, ?_, ?_⟩
  · exact (congrArg Hpt.attnAt (State.hpt_raise _ _ _)).trans stop
  · simp only [State.containState, State.field_eq] at state
    simp +decide [State.containState, wordField_setWordField_disjoint, state]
  · simp +decide
  · simp +decide

theorem State.fallbackDone_ready (back : s.bit Reg.sppStatus 3 = true) (staged : s.destaged = true) (not : s.bit Reg.sppStatus 2 = false) :
    s.fallbackDone.bit Reg.sppStatus 2 = true ∧ s.fallbackDone.bit Reg.sppEvent 3 = true ∧
    (s.bit Reg.sppCtl 5 = true → s.fallbackDone.mch.mediaPwr = false ∧ s.fallbackDone.bit Reg.sppStatus 5 = false) := by
  have marked : s.cleanMark.reg Reg.sppCtl = s.reg Reg.sppCtl := reg_of_without (s.cleanMark_without (List.Subset.refl _)) (by decide)
  have off (l : List Nat) (t : State) : (l.foldl (fun t c => t.emit (.pin (.chWpN c) false)) t).regs = t.regs := by
    induction l generalizing t with
    | nil => rfl
    | cons c l ih => exact ih (t.emit (.pin (.chWpN c) false))
  have cut (t : State) : t.mediaOff.mch.mediaPwr = false ∧ ∀ r, t.mediaOff.reg r = (t.setBit Reg.sppStatus 5 false).reg r := by
    unfold State.mediaOff
    extract_lets u
    refine ⟨rfl, fun r => ?_⟩
    have regs : u.regs = t.regs := off _ t
    have same (x : Nat) : u.reg x = t.reg x := by
      unfold State.reg
      rw [regs]
    have set : (u.setBit Reg.sppStatus 5 false).reg r = (t.setBit Reg.sppStatus 5 false).reg r := by
      rw [State.reg_of_setBit, State.reg_of_setBit, same, same]
    have rest (x : State) (m : Mch) (o : Out) : (State.emit { x with mch := m } o).reg r = x.reg r := rfl
    exact (rest _ _ _).trans set
  unfold State.fallbackDone
  rw [if_pos ⟨back, staged, by simp [not, -State.bit_eq]⟩]
  generalize s.cleanMark = u at marked
  extract_lets t
  have ready : t.bit Reg.sppStatus 2 = true ∧ t.bit Reg.sppEvent 3 = true ∧ t.reg Reg.sppCtl = s.reg Reg.sppCtl := by
    refine ⟨?_, ?_, ?_⟩
    · simp +decide [t, State.readyToPull]
    · simp +decide [t, State.readyToPull]
    · simpa +decide [t, State.readyToPull] using marked
  obtain ⟨pull, event, ctl⟩ := ready
  split
  · refine ⟨?_, ?_, fun _ => ⟨(cut t).1, ?_⟩⟩
    · rw [State.bit_eq, (cut t).2, State.reg_of_setBit, if_pos rfl, wordField_setWordField_disjoint _ _ _ _ _ _ (.inl (by decide))]
      exact pull
    · rw [State.bit_eq, (cut t).2, State.reg_of_setBit, if_neg (by decide)]
      exact event
    · rw [State.bit_eq, (cut t).2]
      simp
  · next stays => exact ⟨pull, event, fun on => absurd ((congrArg (wordField · 5 1 == 1) ctl).trans on) stays⟩

theorem State.presence_leaves (normal : s.containState = 0) : (s.presence false).bit Reg.sppStatus 0 = false ∧
    (s.presence false).containState = 1 ∧ (s.presence false).field Reg.hptContainStatus 4 4 = 4 ∧
    (s.presence false).bit Reg.sppEvent 0 = true := by
  unfold State.presence
  extract_lets t
  have left : (t.raise Reg.sppEvent 0).containState = 0 ∧ (t.raise Reg.sppEvent 0).bit Reg.sppStatus 0 = false ∧
      (t.raise Reg.sppEvent 0).bit Reg.sppEvent 0 = true := by
    refine ⟨Eq.trans ?_ normal, ?_, ?_⟩
    · simp +decide [State.containState, t]
    · simp +decide [t]
    · simp +decide
  generalize t.raise Reg.sppEvent 0 = u at left
  obtain ⟨state, gone, event⟩ := left
  unfold State.contain
  rw [if_neg (by decide), if_pos state]
  obtain ⟨one, cause, -, -, -, spp, events⟩ := u.containNow_registers (cause := 4) (by decide)
  exact ⟨(congrArg (wordField · 0 1 == 1) spp).trans gone, one, cause, events _ (by decide) _ event⟩
end

/-- Settles O13: containment ends commands and transfers, and keeps what the link and the sled show. -/
theorem hostLink : Obligations.HostLink := by
  unfold Obligations.HostLink
  refine ⟨fun s v w fl rv live high down => ?_, fun s live up normal => ?_, fun s k live up asked => ?_, fun s k live down => ?_,
    fun s live up flit => ?_, fun s v w live up => ?_, fun s n live up out aspm free idle past => ?_, fun s live in_ => ?_,
    fun s w live up flit some_ within => ?_, fun s live up flit on free idle wide => ?_, fun s n live core normal => ?_,
    fun s live contained up off => ?_, fun s live releasing => ?_, fun s live normal none_ timed => ?_, fun s live => ?_,
    fun s n live at_ past enabled idle => ?_, fun s live back staged not => ?_, fun s live => ?_, fun s live normal => ?_⟩
  · exact ⟨_, next_whenLive live rfl, s.hostLinkUp_shows v w fl rv high down⟩
  · obtain ⟨t, eq, gone, width, speed, event, state, -⟩ := s.hostDlDown_shows .other up
    have contains : s.hostDlDown .other = t.containNow 1 := eq.trans (if_neg (state ▸ normal))
    obtain ⟨one, cause, up', width', speed', -, events⟩ := t.containNow_registers (cause := 1) (by decide)
    refine ⟨_, next_whenLive live contains, up'.trans gone, width'.trans width, speed'.trans speed, events _ (by decide) _ event,
      one, cause, (t.containNow_shows 1).2.2.2.2⟩
  · obtain ⟨t, eq, gone, -, -, event, state, cmds⟩ := s.hostDlDown_shows k up
    refine ⟨t, next_whenLive live ?_, gone, event, state, cmds⟩
    cases k
    case other => exact absurd rfl asked
    all_goals exact eq
  · exact ⟨s, next_whenLive live (if_neg (by simp [down])), rfl⟩
  · exact ⟨_, next_whenLive live rfl, s.hostBadFlit_counts up flit⟩
  · exact ⟨_, next_whenLive live rfl, s.hostRecovery_shows v w up⟩
  · exact ⟨_, next_whenLive live rfl, s.l1Enter_enters n up out aspm free idle past⟩
  · exact ⟨_, next_whenLive live rfl, s.l1Exit_leaves in_⟩
  · exact ⟨_, next_whenLive live rfl, s.l0pHost_grants up flit some_ within⟩
  · exact ⟨_, next_whenLive live rfl, s.l0pReduce_asks up flit on free idle wide⟩
  · obtain ⟨one, cause, -⟩ := s.containNow_registers (cause := 2) (by decide)
    obtain ⟨-, atc, path, -, cmds⟩ := s.containNow_shows 2
    exact ⟨_, (State.next_byCore live core).trans (congrArg Host.Outcome.next (if_pos normal)), one, cause, cmds, atc, path⟩
  · exact ⟨_, next_whenLive live rfl, s.containRelease_begins contained up off⟩
  · exact ⟨_, next_whenLive live rfl, s.releaseDone_ends releasing⟩
  · exact ⟨_, next_whenLive live rfl, s.attnPress_starts normal none_ timed⟩
  · exact ⟨_, next_whenLive live rfl, s.stopAttn_stops⟩
  · exact ⟨_, next_whenLive live rfl, s.attnExpiry_falls_back at_ past enabled idle⟩
  · exact ⟨_, next_whenLive live rfl, s.fallbackDone_ready back staged not⟩
  · refine ⟨_, next_whenLive live rfl, ?_, ?_⟩
    · simp [State.presence]
    · simp +decide [State.presence, State.containState]
  · exact ⟨_, next_whenLive live rfl, s.presence_leaves normal⟩

end Sys2Proof.Machine
end

section
/-! SUPPORT. Requests of the Host Port, translations, invalidations and the DOE mailbox (O14). -/
set_option linter.unusedSimpArgs false
namespace Sys2Proof.Machine

@[simp] theorem State.hpt_npArrived (s : State) (r : Np) : (s.npArrived r).hpt = s.hpt :=
  hpt_of_without (s.npArrived_without r (List.Subset.refl _)) (by simp)
@[simp] theorem State.prx_npArrived (s : State) (r : Np) : (s.npArrived r).prx = s.prx :=
  prx_of_without (s.npArrived_without r (List.Subset.refl _)) (by simp)
@[simp] theorem State.reg_of_npArrived (s : State) (r : Np) (x : Nat) : (s.npArrived r).reg x = s.reg x :=
  reg_of_without (s.npArrived_without r (List.Subset.refl _)) (by simp)
@[simp] theorem State.hpt_aerUnc (s : State) (f bit : Nat) : (s.aerUnc f bit).hpt = s.hpt :=
  hpt_of_without (s.aerUnc_without f bit (List.Subset.refl _)) (by simp)
@[simp] theorem State.prx_aerUnc (s : State) (f bit : Nat) : (s.aerUnc f bit).prx = s.prx :=
  prx_of_without (s.aerUnc_without f bit (List.Subset.refl _)) (by simp)
@[simp] theorem State.hpt_aerAdvisory (s : State) (f bit : Nat) : (s.aerAdvisory f bit).hpt = s.hpt :=
  hpt_of_without (s.aerAdvisory_without f bit (List.Subset.refl _)) (by simp)
@[simp] theorem State.prx_aerAdvisory (s : State) (f bit : Nat) : (s.aerAdvisory f bit).prx = s.prx :=
  prx_of_without (s.aerAdvisory_without f bit (List.Subset.refl _)) (by simp)
@[simp] theorem State.prx_linkBusy (s : State) : s.linkBusy.prx = s.prx :=
  prx_of_without (s.linkBusy_without (List.Subset.refl _)) (by simp)

section
variable (s : State)

@[simp] theorem State.hpt_linkBusy : s.linkBusy.hpt = { s.hpt with tlpAt := s.now } := by
  unfold State.linkBusy
  dsimp only
  split <;> rfl

@[simp] theorem State.hpt_toHost (o : Out) : (s.toHost o).hpt = { s.hpt with tlpAt := s.now } := s.hpt_linkBusy

theorem State.inRun_of_reg {t : State} (h : t.reg Reg.prxStatus = s.reg Reg.prxStatus) : t.inRun = s.inRun :=
  congrArg (wordField · 0 2 != 0) h

@[simp] theorem State.kickAll_inRun {f : Nat} (run : s.inRun = true) : s.kickAll f = s := if_pos run

/-! ## Slots that wait for a lane -/

/-- With no slot that waits for its lane, lanes that become free begin nothing. -/
theorem State.freeLanes_drops (late : s.prx.lateSlots = []) : ∃ p, s.freeLanes = s.dropAdms p := by
  have none_ (l : List Nat) (t : State) (h : t.prx.lateSlots = []) : l.foldl (fun t x => t.beginLate x) t = t := by
    induction l with
    | nil => rfl
    | cons x l ih => rw [List.foldl_cons, t.beginLate_none x h, ih]
  exact ⟨_, none_ _ _ late⟩

theorem State.freeLanes_keeps (late : s.prx.lateSlots = []) : s.freeLanes.hpt = s.hpt ∧ s.freeLanes.fns = s.fns ∧
    ∀ r, s.freeLanes.reg r = s.reg r := by
  obtain ⟨p, h⟩ := s.freeLanes_drops late
  rw [h]
  exact ⟨rfl, rfl, fun _ => rfl⟩

theorem State.lateSlots_endReads (x : Cmd) : (s.endReads x).prx.lateSlots = s.prx.lateSlots := by
  have each (t : State) (r : RUnit) : (((t.quit x.id r).letGo x.id r).leaveSoft x.id r.unit).prx.lateSlots = t.prx.lateSlots := by
    rw [prx_of_without (State.leaveSoft_without _ _ _ (List.Subset.refl _)) (by simp),
      prx_of_without (State.letGo_without _ _ _ (List.Subset.refl _)) (by simp)]
    unfold State.quit
    dsimp only
    split <;> rfl
  unfold State.endReads
  generalize x.units = l
  induction l generalizing s with
  | nil => rfl
  | cons r l ih => exact (ih _).trans (each s r)

theorem State.lateSlots_failCmd (c : CmdId) (status : Nat) : (s.failCmd c status).prx.lateSlots = s.prx.lateSlots := by
  unfold State.failCmd
  split
  · rfl
  · next x _ =>
    have rest (t : State) (f : Cmd → Cmd) (p : SWrite → Bool) : (((t.discardFilling p).updCmd c f).finish c status).prx = t.prx :=
      Eq.trans (b := (t.discardFilling p).prx) rfl (prx_of_without (t.discardFilling_without p (List.Subset.refl _)) (by simp))
    refine (congrArg Prx.lateSlots (rest _ _ _)).trans ?_
    exact s.lateSlots_endReads x

/-! ## Requests that end -/

theorem State.portKept_aerLost (f : Nat) : s.PortKept (s.aerLost f) :=
  (State.PortKept.countErr _ (by decide)).trans (.raise _ (by decide) (by decide))

theorem State.portKept_aerUnc (f bit : Nat) : s.PortKept (s.aerUnc f bit) := by
  have logged : s.PortKept (s.uncLog f bit).1 := by
    have noted (g : Fn → Fn) : s.PortKept (s.updFn f g) := .of_eq rfl rfl
    unfold State.uncLog
    dsimp only
    split
    · exact noted _
    · split
      · exact (noted _).trans (State.portKept_aerLost _ _)
      · exact noted _
  exact .ite (s.portKept_aerLost f) (.ite (logged.trans (.of_law (State.uncMessage_without _ _ _ (List.Subset.refl _)) rfl)) logged)

/-- How a completion that no request awaits ends. -/
theorem State.completion_late {k : Cpl} (well : k.malformed = false) (none_ : s.hpt.np.find? (·.tag == k.tag) = none) :
    (s.completion k).num Reg.hptLateCplCnt = satAdd 32 (s.num Reg.hptLateCplCnt) 1 ∧ (s.completion k).hpt.np = s.hpt.np ∧
    (s.completion k).prx = s.prx := by
  have counted {t : State} (h : t.reg Reg.hptLateCplCnt = BitVec.ofNat 32 (satAdd 32 (s.reg Reg.hptLateCplCnt).toNat 1)) :
      t.num Reg.hptLateCplCnt = satAdd 32 (s.num Reg.hptLateCplCnt) 1 := by
    rw [State.num_eq, h, BitVec.toNat_ofNat, Nat.mod_eq_of_lt (satAdd_lt _ _)]
    rfl
  have busy : s.linkBusy.reg Reg.hptLateCplCnt = s.reg Reg.hptLateCplCnt := s.reg_linkBusy_ne _ (by decide)
  have told (f g bit : Nat) : (((s.linkBusy.countErr .hpt Reg.hptLateCplCnt 0xFFFF f).raise Reg.hptEvent 6).aerAdvisory g bit).num
        Reg.hptLateCplCnt = satAdd 32 (s.num Reg.hptLateCplCnt) 1 ∧
      (((s.linkBusy.countErr .hpt Reg.hptLateCplCnt 0xFFFF f).raise Reg.hptEvent 6).aerAdvisory g bit).hpt.np = s.hpt.np ∧
      (((s.linkBusy.countErr .hpt Reg.hptLateCplCnt 0xFFFF f).raise Reg.hptEvent 6).aerAdvisory g bit).prx = s.prx := by
    refine ⟨counted ?_, ?_, ?_⟩
    · rw [(State.regsBut_aerAdvisory (L := [Reg.hptAerLost, Reg.hptEvent]) _ g bit (by decide) (by decide)).reg _ (by decide) (by decide),
        State.reg_of_raise _ _ _ _ (by decide), if_neg (by decide), State.reg_of_countErr _ _ _ _ _ _ _ (by decide), if_pos rfl, busy]
    · simp
    · simp
  unfold State.completion
  extract_lets u
  rw [if_neg (by simp [well])]
  split
  · next r found =>
    refine absurd (found.symm.trans ?_) (Option.some_ne_none r)
    rw [show u.hpt.np = s.hpt.np by simp [u]]
    exact none_
  · split
    · split
      · refine ⟨counted ?_, by simp [u], by simp [u]⟩
        rw [State.reg_of_inc, if_pos rfl, busy]
      · exact told _ _ _
    · exact told _ _ _

theorem State.completion_malformed {k : Cpl} (bad : k.malformed = true) :
    (s.completion k).num Reg.hptMalformedCnt = satAdd 32 (s.num Reg.hptMalformedCnt) 1 ∧ (s.completion k).bit Reg.hptEvent 9 = true ∧
    (s.completion k).hpt.np = s.hpt.np ∧ (s.completion k).prx = s.prx := by
  unfold State.completion
  extract_lets u
  rw [if_pos bad]
  have busy : u.reg Reg.hptMalformedCnt = s.reg Reg.hptMalformedCnt := s.reg_linkBusy_ne _ (by decide)
  refine ⟨?_, ?_, by simp [u], by simp [u]⟩
  · rw [State.num_eq, (State.regsBut_aerUnc (L := [Reg.hptAerLost, Reg.hptEvent]) _ 0 18 (by decide) (by decide)).reg _ (by decide) (by decide),
      State.reg_of_raise _ _ _ _ (by decide), if_neg (by decide), State.reg_of_countErr _ _ _ _ _ _ _ (by decide), if_pos rfl, busy,
      BitVec.toNat_ofNat, Nat.mod_eq_of_lt (satAdd_lt _ _)]
    rfl
  · refine (State.portKept_aerUnc _ 0 18).events _ (by decide) 9 ?_
    simp +decide

/-- A completion that succeeds ends its request; in Run what it brings waits for its slot. -/
theorem State.completion_succeeds {k : Cpl} {r : Np} (well : k.malformed = false) (pure_ : k.poisoned = false) (ok : k.success = true)
    (found : s.hpt.np.find? (·.tag == k.tag) = some r) (run : s.inRun = true) :
    ∃ t : State, t.hpt.np = s.hpt.np.filter (fun q => q.tag != k.tag) ∧ t.fns = s.fns ∧ t.prx = s.prx ∧ s.completion k = t.npArrived r := by
  unfold State.completion
  extract_lets u src t
  have same : u.hpt.np = s.hpt.np := by simp [u]
  rw [if_neg (by simp [well])]
  split
  case h_2 none_ =>
    rw [same] at none_
    exact absurd (none_.symm.trans found) (by simp)
  case h_1 r' found' =>
  rw [same] at found'
  obtain rfl := Option.some.inj (found'.symm.trans found)
  extract_lets v
  have shown : t.inRun = true := by
    refine (State.inRun_of_reg s ?_).trans run
    refine Eq.trans (b := u.reg Reg.prxStatus) ?_ (s.reg_linkBusy_ne _ (by decide))
    have tags (x : State) : x.showTags.reg Reg.prxStatus = x.reg Reg.prxStatus :=
      reg_of_without (x.showTags_without (List.Subset.refl _)) (by decide)
    exact tags _
  have arrived : (t.npArrived r').inRun = true := (State.inRun_of_reg t (by simp)).trans shown
  have still : v = t.npArrived r' := State.kickAll_inRun _ arrived
  refine ⟨t, ?_, ?_, ?_, ?_⟩
  · exact congrArg (List.filter fun q => q.tag != k.tag) same
  · exact s.linkBusy_fns
  · exact s.prx_linkBusy
  · rw [if_neg (by simp [pure_]), if_pos ok, if_pos (still ▸ arrived), still]

theorem State.completion_ends {k : Cpl} {r : Np} (well : k.malformed = false) (pure_ : k.poisoned = false)
    (ok : k.success = true) (found : s.hpt.np.find? (·.tag == k.tag) = some r) (run : s.inRun = true) (late : s.prx.lateSlots = []) :
    (s.completion k).freeLanes.hpt.np = s.hpt.np.filter fun q => q.tag != k.tag := by
  obtain ⟨t, np, -, prx, eq⟩ := s.completion_succeeds well pure_ ok found run
  rw [eq, (State.freeLanes_keeps _ (by rw [State.prx_npArrived, prx, late])).1, State.hpt_npArrived, np]

theorem State.completion_grants {k : Cpl} {r : Np} {f q : Nat} {x : Sq} (well : k.malformed = false) (pure_ : k.poisoned = false)
    (ok : k.success = true) (found : s.hpt.np.find? (·.tag == k.tag) = some r) (kind : r.kind = .fetch f q)
    (queue : lookupKey q (s.fn f).sqs = some x) (run : s.inRun = true) (late : s.prx.lateSlots = []) :
    ((s.completion k).freeLanes.hpt.np = s.hpt.np.filter fun q => q.tag != k.tag) ∧
    (lookupKey q ((s.completion k).freeLanes.fn f).sqs).map (fun y => y.granted) = some (x.granted + r.part) := by
  obtain ⟨t, np, fns, prx, eq⟩ := s.completion_succeeds well pure_ ok found run
  obtain ⟨hpt, fns', -⟩ := State.freeLanes_keeps (s.completion k) (by rw [eq, State.prx_npArrived, prx, late])
  have arrives : t.npArrived r = t.updSq f q fun x => { x with tmo := 0, granted := x.granted + r.part } := by
    unfold State.npArrived
    rw [kind]
  refine ⟨by rw [hpt, eq, State.hpt_npArrived, np], ?_⟩
  have there : t.sq? f q = some x := (congrArg (fun g : Fns => lookupKey q (g.get f).sqs) fns).trans queue
  have same : lookupKey q ((s.completion k).freeLanes.fn f).sqs = (t.npArrived r).sq? f q := by
    unfold State.fn State.sq? State.fn
    rw [fns', eq]
  rw [same, arrives, State.sq?_updSq, there]
  simp

theorem State.abandonNp_np (p : Np → Bool) (quiet : Bool) : (s.abandonNp p quiet).hpt.np = s.hpt.np.filter fun r => !p r := rfl

theorem State.npFailed_data {r : Np} {c : CmdId} (kind : r.kind = .data c) (timeout : Bool) :
    s.npFailed r timeout = s.failCmd c dataTransferError := by
  unfold State.npFailed
  rw [kind]

theorem State.cplTimeout_ends {tag n : Nat} {r : Np} {c : CmdId} (found : s.hpt.np.find? (·.tag == tag) = some r)
    (timer : s.cplTimer = some n) (past : r.at_ + n ≤ s.now) (kind : r.kind = .data c) (late : s.prx.lateSlots = []) :
    ((s.cplTimeout tag).freeLanes.hpt.np = s.hpt.np.filter fun q => q.tag != tag) ∧
    (s.cplTimeout tag).freeLanes.num Reg.hptCtoCnt = satAdd 32 (s.num Reg.hptCtoCnt) 1 ∧
    (s.cplTimeout tag).freeLanes.bit Reg.hptEvent 5 = true := by
  have times : ∃ t : State, (t = ((((s.abandonNp (·.tag == tag) false).countErr .hpt Reg.hptCtoCnt 0xFFFF r.fn).raise Reg.hptEvent 5).aerUnc r.fn 14)) ∧
      s.cplTimeout tag = t.failCmd c dataTransferError := by
    refine ⟨_, rfl, ?_⟩
    unfold State.cplTimeout
    split
    · next r' t₀ found' timer' =>
      obtain rfl := Option.some.inj (found'.symm.trans found)
      obtain rfl := Option.some.inj (timer'.symm.trans timer)
      rw [if_pos past]
      exact State.npFailed_data _ kind true
    · next none_ => exact (none_ r n found timer).elim
  obtain ⟨t, shape, eq⟩ := times
  have slots : t.prx.lateSlots = [] := by
    rw [shape, State.prx_aerUnc, State.prx_raise, State.prx_countErr]
    exact late
  obtain ⟨hpt, -, regs⟩ := State.freeLanes_keeps (s.cplTimeout tag) (by rw [eq, State.lateSlots_failCmd, slots])
  have reg (x : Nat) (page : x / 0x100000 ∉ [7, 8, 15]) : (s.cplTimeout tag).freeLanes.reg x = t.reg x := by
    rw [regs, eq, State.reg_of_failCmd _ _ _ _ page]
  refine ⟨?_, ?_, ?_⟩
  · rw [hpt, eq, State.hpt_failCmd, shape, State.hpt_aerUnc, State.hpt_raise, State.hpt_countErr]
    rfl
  · rw [State.num_eq, reg _ (by decide), shape,
      (State.regsBut_aerUnc (L := [Reg.hptAerLost, Reg.hptEvent]) _ r.fn 14 (by decide) (by decide)).reg _ (by decide) (by decide),
      State.reg_of_raise _ _ _ _ (by decide), if_neg (by decide), State.reg_of_countErr _ _ _ _ _ _ _ (by decide), if_pos rfl,
      BitVec.toNat_ofNat, Nat.mod_eq_of_lt (satAdd_lt _ _)]
    refine congrArg (fun w : Word => satAdd 32 w.toNat 1) ?_
    simp +decide [State.abandonNp, State.showTags, ↓State.reg_mk]
  · rw [State.bit_eq, reg _ (by decide), shape, ← State.bit_eq]
    refine (State.portKept_aerUnc _ r.fn 14).events _ (by decide) 5 ?_
    simp +decide

theorem State.invalAbandon_ends {f k : Nat} {i : Inval} {r : Np} {c : CmdId} (at_ : (s.hpt.inval.filter (·.fn == f))[k]? = some i)
    (past : i.at_ + 450000 ≤ s.now) (only : s.hpt.np = [r]) (kind : r.kind = .data c) (covers : i.covers r = true)
    (late : s.prx.lateSlots = []) : (s.invalAbandon f k).freeLanes.hpt.np = [] := by
  have due : ((s.hpt.inval.filter (·.fn == f))[k]?).filter (fun i => decide (i.at_ + 450000 ≤ s.now)) = some i := by
    rw [at_]
    exact Option.filter_some_pos (decide_eq_true past)
  have ends : s.invalAbandon f k = (s.abandonNp i.covers false).failCmd c dataTransferError := by
    unfold State.invalAbandon
    split
    · next i' found =>
      obtain rfl := Option.some.inj (found.symm.trans due)
      rw [only, List.filter_cons_of_pos covers, List.filter_nil, List.foldl_cons, List.foldl_nil]
      exact State.npFailed_data _ kind false
    · next none_ => exact absurd (none_.symm.trans due) (by simp)
  rw [(State.freeLanes_keeps _ (by rw [ends, State.lateSlots_failCmd]; exact late)).1, ends, State.hpt_failCmd, State.abandonNp_np, only]
  simp [covers]

/-! ## Translations and invalidations -/

theorem State.hpt_failCmds (l : List Cmd) (status : Nat) : (l.foldl (fun u x => u.failCmd x.id status) s).hpt = s.hpt ∧
    ∀ r, r / 0x100000 ∉ [7, 8, 15] → (l.foldl (fun u x => u.failCmd x.id status) s).reg r = s.reg r := by
  induction l generalizing s with
  | nil => exact ⟨rfl, fun _ _ => rfl⟩
  | cons x l ih =>
    obtain ⟨hpt, regs⟩ := ih (s.failCmd x.id status)
    exact ⟨hpt.trans (s.hpt_failCmd _ _), fun r page => (regs r page).trans (s.reg_of_failCmd _ _ _ page)⟩

theorem State.translation_enters {f p : Nat} (ats : (s.fn f).ats = true) (asked : s.hpt.xreqs.contains (f, p) = true)
    (run : s.inRun = true) : (s.translation f p false).hpt.atc = atcInsert s.hpt.atc f p ∧
    ((s.translation f p false).hpt.xreqs = s.hpt.xreqs.filter fun x => x != (f, p)) := by
  unfold State.translation
  rw [if_pos ⟨ats, asked⟩]
  extract_lets t
  rw [if_neg (by decide), State.kickAll_inRun]
  · refine ⟨?_, rfl⟩
    have held : t.hpt.atc = s.hpt.atc := (congrArg Hpt.atc s.hpt_linkBusy :)
    exact congrArg (atcInsert · f p) held
  · exact (State.inRun_of_reg s (s.reg_linkBusy_ne Reg.prxStatus (by decide))).trans run

theorem State.translation_refused {f p : Nat} (ats : (s.fn f).ats = true) (asked : s.hpt.xreqs.contains (f, p) = true) :
    (s.translation f p true).hpt.atc = s.hpt.atc ∧
    (s.translation f p true).num Reg.hptAtsFailCnt = satAdd 32 (s.num Reg.hptAtsFailCnt) 1 ∧
    (s.translation f p true).bit Reg.hptEvent 8 = true := by
  unfold State.translation
  rw [if_pos ⟨ats, asked⟩]
  extract_lets src hpt t u
  rw [if_pos rfl]
  obtain ⟨kept, regs⟩ := u.hpt_failCmds (s.cmds.filter fun x => x.id.fn == f && x.page == p && x.xlat) dataTransferError
  refine ⟨?_, ?_, ?_⟩
  · rw [kept, State.hpt_raise, State.hpt_countErr]
    exact (congrArg Hpt.atc s.hpt_linkBusy :)
  · rw [State.num_eq, regs _ (by decide), State.reg_of_raise _ _ _ _ (by decide), if_neg (by decide),
      State.reg_of_countErr _ _ _ _ _ _ _ (by decide), if_pos rfl, BitVec.toNat_ofNat, Nat.mod_eq_of_lt (satAdd_lt _ _)]
    exact congrArg (fun w : Word => satAdd 32 w.toNat 1) (s.reg_linkBusy_ne Reg.hptAtsFailCnt (by decide))
  · rw [State.bit_eq, regs _ (by decide)]
    simp +decide [u]

theorem State.invalDone_answers {f : Nat} {i : Inval} (found : s.hpt.inval.find? (·.fn == f) = some i)
    (none_ : s.hpt.np.any i.covers = false) : (s.invalDone f).hpt.inval = eraseFirst (fun i => i.fn == f) s.hpt.inval ∧
    (s.invalDone f).num Reg.hptAtsInvCnt = satAdd 32 (s.num Reg.hptAtsInvCnt) 1 ∧ Out.host 4 f 0 ∈ (s.invalDone f).out := by
  have ends : s.invalDone f = (State.inc { s with hpt := { s.hpt with inval := eraseFirst (·.fn == f) s.hpt.inval } } Reg.hptAtsInvCnt).toHost
      (.host 4 f 0) := by
    unfold State.invalDone
    split
    · next i' found' =>
      obtain rfl := Option.some.inj (found'.symm.trans found)
      exact if_neg (by simp [none_])
    · next gone => exact absurd (gone.symm.trans found) (by simp)
  rw [ends]
  refine ⟨?_, ?_, List.mem_cons_self⟩
  · rw [State.hpt_toHost]
    rfl
  · refine Eq.trans (congrArg BitVec.toNat ?_) (State.num_inc_same _ _ _)
    exact State.reg_linkBusy_ne _ _ (by decide)

/-! ## The DOE mailbox -/

theorem State.doeIrq_keeps : s.PortKept s.doeIrq ∧ s.out ⊆ s.doeIrq.out := by
  unfold State.doeIrq
  split
  · refine ⟨.trans ?_ (State.portKept_msix _ 0 0), (s.updFn 0 _).out_subset_msix 0 0⟩
    exact .of_eq rfl rfl
  · exact ⟨.refl, List.Subset.refl _⟩

theorem State.doeRequest_held {k n : Nat} {x : Option Nat} (free : s.hpt.doe = none) (some_ : 1 ≤ k) (known : k ≤ 2) (fits : n ≤ 16384) :
    (s.doeRequest 1 k n x).hpt.doe = some (k, x) ∧ (s.doeRequest 1 k n x).hpt.doeErr = s.hpt.doeErr := by
  unfold State.doeRequest
  extract_lets hpt t
  have held : t.hpt = { s.hpt with doe := some (k, x) } := hpt_of_without (State.ring_without _ _ (List.Subset.refl _)) (by simp)
  rw [if_neg (by simp [free]), if_neg (by omega), if_neg (by omega), held]
  exact ⟨rfl, rfl⟩

theorem State.doeRequest_discovers {n : Nat} {x : Option Nat} (free : s.hpt.doe = none) (fits : n ≤ 16384) :
    (s.doeRequest 1 0 n x).hpt.doe = none ∧ (s.doeRequest 1 0 n x).hpt.doeRdy = true ∧ Out.host 13 0 0 ∈ (s.doeRequest 1 0 n x).out := by
  unfold State.doeRequest
  extract_lets hpt t
  have held : t.hpt = { s.hpt with doe := some (0, x) } := hpt_of_without (State.ring_without _ _ (List.Subset.refl _)) (by simp)
  rw [if_neg (by simp [free]), if_neg (by omega), if_pos rfl]
  have answers (u : State) (busy : u.hpt.doe = some (0, x)) : u.doeReady.hpt.doe = none ∧ u.doeReady.hpt.doeRdy = true ∧
      Out.host 13 0 0 ∈ u.doeReady.out := by
    unfold State.doeReady
    split
    · obtain ⟨kept, outs⟩ := State.doeIrq_keeps (State.emit { u with hpt := { u.hpt with doe := none, doeRdy := true } } (.host 13 0 0))
      exact ⟨(congrArg Hpt.doe kept.port :), (congrArg Hpt.doeRdy kept.port :), outs List.mem_cons_self⟩
    · next none_ => exact absurd (none_.symm.trans busy) (by simp)
  exact answers _ (congrArg Hpt.doe held)

theorem State.doeRequest_wrong {v k n : Nat} {x : Option Nat} (free : s.hpt.doe = none) (wrong : v ≠ 1 ∨ 2 < k ∨ 16384 < n) :
    s.doeRequest v k n x = { s with hpt := { s.hpt with doeErr := true } } := by
  unfold State.doeRequest
  rw [if_neg (by simp [free]), if_pos wrong]
end

/-- Settles O14: a request that ends leaves the list of those outstanding, and with no slot waiting for a lane nothing
begins in its place. -/
theorem hostRequests : Obligations.HostRequests := by
  unfold Obligations.HostRequests
  refine ⟨fun s k r c live well pure_ ok found kind run late => ?_, fun s k r f q x live well pure_ ok found kind queue run late => ?_,
    fun s k live bad late => ?_, fun s k live well none_ late => ?_, fun s tag r n c live found timer past kind late => ?_,
    fun s tag live => ?_, fun s f p live ats asked run => ?_, fun s f p x d live either ats asked => ?_, fun s f p x d live none_ => ?_,
    fun s f b n l live => ?_, fun s f k i r c live at_ past only kind covers late => ?_, fun s f i live found none_ => ?_,
    fun s k n x live free some_ known fits => ?_, fun s n x live free fits => ?_, fun s v k n x live free wrong => ?_, fun s live => ?_⟩
  · exact ⟨_, next_whenLive live rfl, s.completion_ends well pure_ ok found run late⟩
  · exact ⟨_, next_whenLive live rfl, s.completion_grants well pure_ ok found kind queue run late⟩
  · obtain ⟨count, event, np, prx⟩ := s.completion_malformed bad
    obtain ⟨hpt, -, regs⟩ := (s.completion k).freeLanes_keeps (by rw [prx, late])
    exact ⟨_, next_whenLive live rfl, (congrArg BitVec.toNat (regs _)).trans count,
      (congrArg (wordField · 9 1 == 1) (regs Reg.hptEvent)).trans event, (congrArg Hpt.np hpt).trans np⟩
  · obtain ⟨count, np, prx⟩ := s.completion_late well none_
    obtain ⟨hpt, -, regs⟩ := (s.completion k).freeLanes_keeps (by rw [prx, late])
    exact ⟨_, next_whenLive live rfl, (congrArg BitVec.toNat (regs _)).trans count, (congrArg Hpt.np hpt).trans np⟩
  · exact ⟨_, next_whenLive live rfl, s.cplTimeout_ends found timer past kind late⟩
  · exact ⟨_, next_whenLive live rfl, rfl⟩
  · exact ⟨_, next_whenLive live rfl, s.translation_enters ats asked run⟩
  · have denied : (x || d) = true := by simpa using either
    exact ⟨_, next_whenLive live (congrArg (s.translation f p) denied), s.translation_refused ats asked⟩
  · exact ⟨s, next_whenLive live (if_neg (by simp [none_, -List.contains_eq_mem])), rfl⟩
  · exact ⟨_, next_whenLive live rfl, rfl, rfl⟩
  · exact ⟨_, next_whenLive live rfl, s.invalAbandon_ends at_ past only kind covers late⟩
  · exact ⟨_, next_whenLive live rfl, s.invalDone_answers found none_⟩
  · exact ⟨_, next_whenLive live rfl, s.doeRequest_held free some_ known fits⟩
  · exact ⟨_, next_whenLive live rfl, s.doeRequest_discovers free fits⟩
  · exact ⟨_, next_whenLive live (s.doeRequest_wrong free wrong), rfl, free⟩
  · exact ⟨_, next_whenLive live rfl, rfl, rfl, rfl⟩

end Sys2Proof.Machine
end

section
/-! SUPPORT. What the work of the lanes leaves of the channels and keeps of the outputs (O9). -/
set_option linter.unusedSimpArgs false
namespace Sys2Proof.Machine

/-- The registers of the channels' states and of their timeouts, and the count of excursions. -/
def laneReg (r : Nat) : Prop := r = Reg.prxExcursionCnt ∨ ∃ c, r = Reg.mchChStatus c ∨ r = Reg.mchChTimeoutCnt c

theorem laneReg_place {r : Nat} (h : laneReg r) : r = Reg.prxExcursionCnt ∨ r / 0x100000 = 6 ∧ (r % 0x4000 = 4 ∨ r % 0x4000 = 12) := by
  obtain rfl | ⟨c, rfl | rfl⟩ := h
  · exact .inl rfl
  · exact .inr ⟨page_mchChStatus c, .inl (by unfold Reg.mchChStatus; omega)⟩
  · exact .inr ⟨page_mchChTimeoutCnt c, .inr (by unfold Reg.mchChTimeoutCnt; omega)⟩

theorem not_laneReg {r : Nat} (count : r ≠ Reg.prxExcursionCnt) (page : r / 0x100000 ≠ 6) : ¬ laneReg r := fun h =>
  (laneReg_place h).elim count fun p => page p.1

theorem not_laneReg_of_offset {r : Nat} (count : r ≠ Reg.prxExcursionCnt) (low : r % 0x4000 ≠ 4) (high : r % 0x4000 ≠ 12) : ¬ laneReg r :=
  fun h => (laneReg_place h).elim count fun p => p.2.elim low high

theorem not_laneReg_of_high {r : Nat} (h : 0x680000 ≤ r) : ¬ laneReg r := by
  rintro (rfl | ⟨c, rfl | rfl⟩)
  · exact absurd h (by decide)
  · unfold Reg.mchChStatus at h; omega
  · unfold Reg.mchChTimeoutCnt at h; omega

theorem laneReg_page {r : Nat} (h : laneReg r) : r / 0x100000 = 5 ∨ r / 0x100000 = 6 := by
  rcases laneReg_place h with rfl | ⟨page, -⟩
  · exact .inl (by decide)
  · exact .inr page

theorem laneReg_quiet {r : Nat} (h : laneReg r) : logReg r = false := by
  have page := laneReg_page h
  simp only [logReg, Bool.or_eq_false_iff, beq_eq_false_iff_ne]
  refine ⟨⟨⟨⟨⟨by omega, ?_⟩, ?_⟩, ?_⟩, ?_⟩, ?_⟩ <;> (rintro rfl; exact absurd page (by decide))

/-- The channels show as they did, no excursion and no timeout is counted, and what was put out stays. -/
structure State.LaneKept (s t : State) : Prop where
  regs : ∀ r, laneReg r → t.reg r = s.reg r
  out : s.out ⊆ t.out

/-- A part that holds no output and no register of the channels or of the image. -/
def Part.offLane : Part → Bool
  | .out => false
  | .regs page => page != 5 && page != 6
  | _ => true

section
variable {s t u : State}

theorem State.LaneKept.refl : s.LaneKept s := ⟨fun _ _ => rfl, List.Subset.refl _⟩

theorem State.LaneKept.trans (h : s.LaneKept t) (k : t.LaneKept u) : s.LaneKept u :=
  ⟨fun r mem => (k.regs r mem).trans (h.regs r mem), List.Subset.trans h.out k.out⟩

theorem State.LaneKept.ite {p : Prop} [Decidable p] (h : s.LaneKept t) (k : s.LaneKept u) : s.LaneKept (if p then t else u) := by
  split
  · exact h
  · exact k

theorem State.LaneKept.of_eq (regs : t.regs = s.regs) (out : t.out = s.out) : s.LaneKept t :=
  ⟨fun r _ => congrArg (Tab.get · r) regs, out ▸ List.Subset.refl _⟩

theorem State.LaneKept.of_law {W : List Part} (law : t.without W = s.without W) (off : W.all Part.offLane = true) : s.LaneKept t := by
  have apart (p : Part) (mem : p ∈ W) : p.offLane = true := List.all_eq_true.1 off p mem
  refine ⟨fun r lane => reg_of_without law fun mem => ?_, ?_⟩
  · have := apart _ mem
    rcases laneReg_page lane with page | page <;> simp [Part.offLane, page] at this
  · rw [out_of_without law fun mem => absurd (apart _ mem) (by decide)]
    exact List.Subset.refl _

theorem State.laneKept_foldl {α : Type} {f : State → α → State} (each : ∀ (s : State) a, s.LaneKept (f s a)) (l : List α)
    (s : State) : s.LaneKept (l.foldl f s) := by
  induction l generalizing s with
  | nil => exact .refl
  | cons a l ih => exact (each s a).trans (ih (f s a))

theorem State.LaneKept.setReg (s : State) {off : Nat} (h : ¬ laneReg off) (v : Word) : s.LaneKept (s.setReg off v) :=
  ⟨fun r lane => by rw [State.reg_of_setReg, if_neg (by rintro rfl; exact h lane)], List.Subset.refl _⟩

theorem State.LaneKept.setBit (s : State) {off : Nat} (h : ¬ laneReg off) (i : Nat) (b : Bool) : s.LaneKept (s.setBit off i b) := .setReg s h _
theorem State.LaneKept.setNum (s : State) {off : Nat} (h : ¬ laneReg off) (v : Nat) : s.LaneKept (s.setNum off v) := .setReg s h _
theorem State.LaneKept.inc (s : State) {off : Nat} (h : ¬ laneReg off) (n : Nat) : s.LaneKept (s.inc off n) := .setReg s h _

theorem State.LaneKept.raise (s : State) {ev i : Nat} (h : ¬ laneReg ev) : s.LaneKept (s.raise ev i) :=
  ⟨fun r lane => by
    rw [State.reg_of_raise _ _ _ _ (page_ne_of_logReg (laneReg_quiet lane)), if_neg (by rintro rfl; exact h lane)],
    by rw [State.out_raise]; exact List.Subset.refl _⟩

theorem State.LaneKept.logAt (s : State) (b : Block) (code inst fn : Nat) (detail : List Word) : s.LaneKept (s.logAt b code inst fn detail) :=
  ⟨fun _ lane => State.reg_of_logAt _ _ _ _ _ _ _ (laneReg_quiet lane), by
    rw [out_of_without (State.logAt_without _ _ _ _ _ _ (List.Subset.refl _)) (by simp)]; exact List.Subset.refl _⟩

theorem State.LaneKept.countErr (s : State) {b : Block} {off inst fn : Nat} {detail : List Word} (h : ¬ laneReg off) :
    s.LaneKept (s.countErr b off inst fn detail) := (State.LaneKept.inc s h 1).trans (.logAt ..)

theorem State.LaneKept.raiseLog (s : State) {b : Block} {ev i inst fn : Nat} (h : ¬ laneReg ev) : s.LaneKept (s.raiseLog b ev i inst fn) :=
  (State.LaneKept.raise s h).trans (.logAt ..)

theorem State.LaneKept.emit (s : State) (o : Out) : s.LaneKept (s.emit o) := ⟨fun _ _ => rfl, List.subset_cons_self _ _⟩
end

section
variable (s : State)

/-! ## The host's side -/

theorem State.laneKept_linkBusy : s.LaneKept s.linkBusy :=
  ⟨fun r lane => s.reg_linkBusy_ne r (by rintro rfl; exact absurd (laneReg_page lane) (by decide)), s.out_subset_linkBusy⟩

theorem State.laneKept_toHost (o : Out) : s.LaneKept (s.toHost o) := s.laneKept_linkBusy.trans (.emit _ _)

theorem State.laneKept_issueNp (fn : Nat) (kind : NpKind) (off len part : Nat) : s.LaneKept (s.issueNp fn kind off len part) := by
  unfold State.issueNp
  split
  · refine .trans ?_ (State.laneKept_toHost _ _)
    refine .trans ?_ (.of_law (State.showTags_without _ (List.Subset.refl _)) rfl)
    exact .of_eq rfl rfl
  · exact .refl

theorem State.laneKept_readHost (fn : Nat) (kind : NpKind) (off len : Nat) (part : Nat → Nat) : s.LaneKept (s.readHost fn kind off len part) :=
  .ite (State.laneKept_foldl (fun t _ => t.laneKept_issueNp ..) _ _) .refl

theorem State.laneKept_askXlat (f page : Nat) : s.LaneKept (s.askXlat f page) := by
  unfold State.askXlat
  refine .ite .refl (.trans (.trans ?_ (.inc _ (not_laneReg (by decide) (by decide)) _)) (State.laneKept_toHost _ _))
  exact .of_eq rfl rfl

theorem State.laneKept_awaitXlat (x : Cmd) : s.LaneKept (s.awaitXlat x) := by
  have noted (f g : Cmd → Cmd) : s.LaneKept ((s.updCmd x.id f).updCmd x.id g) := .of_eq rfl rfl
  exact .ite .refl ((noted _ _).trans (State.laneKept_askXlat _ _ _))

theorem State.laneKept_visit (f : Nat) : s.LaneKept (s.visit f) := by
  unfold State.visit
  split
  · exact .refl
  · dsimp only
    have ended (t : State) (g : Fn → Fn) (h : s.LaneKept t) : s.LaneKept (t.updFn f g) := h.trans (.of_eq rfl rfl)
    refine ended _ _ (.ite ?_ (s.laneKept_askXlat _ _))
    refine .trans ?_ (State.laneKept_readHost _ _ _ _ _ _)
    exact .ite (.inc _ (not_laneReg (by decide) (by decide)) _) .refl

theorem State.laneKept_msix (f vec : Nat) : s.LaneKept (s.msix f vec) :=
  ⟨fun r lane => reg_of_without (s.msix_without f vec (List.Subset.refl _)) (by rcases laneReg_page lane with page | page <;> simp [page]),
    s.out_subset_msix f vec⟩

theorem State.laneKept_internDone (e : Intern) : s.LaneKept (s.internDone e) := by
  unfold State.internDone
  split
  · refine .ite (State.laneKept_foldl (fun t o => ?_) _ _) (.of_eq rfl rfl)
    split
    · exact t.laneKept_issueNp ..
    · exact .emit _ _
  · extract_lets t
    have sent : s.LaneKept t := State.laneKept_foldl (fun t o => t.laneKept_toHost o) _ _
    have off : ∀ r ∈ [Reg.mtrRingProd, Reg.mtrStatus, Reg.tlnRingProd, Reg.tlnStatus], ¬ laneReg r := by
      have pages : ∀ r ∈ [Reg.mtrRingProd, Reg.mtrStatus, Reg.tlnRingProd, Reg.tlnStatus], r ≠ Reg.prxExcursionCnt ∧ r / 0x100000 ≠ 6 := by
        decide
      exact fun r mem => not_laneReg (pages r mem).1 (pages r mem).2
    split
    · exact sent.trans ((State.LaneKept.setNum _ (off _ (by simp)) _).trans (.setBit _ (off _ (by simp)) _ _))
    · exact sent.trans ((State.LaneKept.setNum _ (off _ (by simp)) _).trans (.setBit _ (off _ (by simp)) _ _))
    · exact sent.trans (.of_eq rfl rfl)
    · exact sent.trans (State.laneKept_msix _ _ _)
    · exact sent

theorem State.laneKept_serveIntern (deliver : Bool) (n : Nat) : s.LaneKept (s.serveIntern deliver n) := by
  unfold State.serveIntern
  refine .trans ?_ (State.laneKept_foldl (fun t e => t.laneKept_internDone e) _ _)
  exact .of_eq rfl rfl

theorem State.laneKept_deliverStage (c : CmdId) (units : Nat) : s.LaneKept (s.deliverStage c units) := by
  unfold State.deliverStage
  split
  · exact .refl
  · next x _ =>
    extract_lets us u v
    have hit : s.LaneKept u := .ite (.inc _ (not_laneReg (by decide) (by decide)) _) .refl
    have slow : u.LaneKept v := .ite (.of_eq rfl rfl) .refl
    refine ((hit.trans slow).trans (State.laneKept_foldl (fun t r => ?_) us v)).trans
      (.of_law (State.readSettle_without _ _ (List.Subset.refl _)) rfl)
    have issued (t : State) (p : UPhase) : t.LaneKept (t.setPhase c r.unit p) := .of_eq rfl rfl
    exact (issued t _).trans (State.laneKept_foldl (fun t o => t.laneKept_toHost o) _ _)

theorem State.laneKept_fetchStage (c : CmdId) (units : Nat) : s.LaneKept (s.fetchStage c units) := by
  refine State.laneKept_foldl (fun t _ => ?_) _ s
  dsimp only
  split
  · exact .refl
  · next x _ =>
    have asked (k : NpKind) (off len : Nat) (part : Nat → Nat) (f : Cmd → Cmd) :
        t.LaneKept ((t.readHost c.fn k off len part).updCmd c f) := (t.laneKept_readHost ..).trans (.of_eq rfl rfl)
    exact .ite (.ite (t.laneKept_readHost ..) (asked ..)) (.ite .refl (.ite (t.laneKept_readHost ..) (asked ..)))

/-! ## The Mirror Link's side -/

theorem transmit_laneKept (n : Nat) (s : State) : s.LaneKept (transmit n s) := by
  refine ⟨fun r lane => reg_of_without (transmit_without n s (List.Subset.refl _))
    (by rcases laneReg_page lane with page | page <;> simp [page]), ?_⟩
  induction n generalizing s with
  | zero => exact List.Subset.refl _
  | succ n ih =>
    unfold transmit
    split
    · exact List.Subset.refl _
    · next f _ =>
      split
      · refine List.Subset.trans ?_ (ih _)
        have rides (t : State) : t.out ⊆ t.rideAck.out := by
          unfold State.rideAck
          split
          · exact List.Subset.refl _
          · exact List.subset_cons_self _ _
        have spends (t : State) : ((t.spendFlits f.msg).noteLeft f.msg).out = t.out :=
          (out_of_without (State.noteLeft_without _ _ (List.Subset.refl _)) (by simp)).trans
            (out_of_without (State.spendFlits_without _ _ (List.Subset.refl _)) (by simp))
        rw [spends]
        exact fun o mem => List.mem_cons_of_mem _ (rides { s with mlk := _ } mem)
      · exact List.Subset.refl _

theorem State.laneKept_pump : s.LaneKept s.pump := by
  have each (l : List LinkMsg) (p : State × List Nat) :
      p.1.LaneKept (l.foldl (fun (p : State × List Nat) m =>
        if p.2.contains m.vc || !p.1.canForm m then
          ({ p.1 with mlk := { p.1.mlk with waiting := p.1.mlk.waiting ++ [m] } }, m.vc :: p.2)
        else (p.1.form m, p.2)) p).1 := by
    induction l generalizing p with
    | nil => exact .refl
    | cons m l ih =>
      rw [List.foldl_cons]
      refine .trans ?_ (ih _)
      split
      · exact .of_eq rfl rfl
      · exact .of_law (State.form_without _ _ (List.Subset.refl _)) rfl
  unfold State.pump
  refine .trans (.trans ?_ (each _ _)) (transmit_laneKept _ _)
  exact .of_eq rfl rfl

theorem State.laneKept_send (m : LinkMsg) : s.LaneKept (s.send m) := by
  have held : s.LaneKept (State.pump { s with mlk := { s.mlk with waiting := s.mlk.waiting ++ [m] } }) := by
    refine .trans ?_ (State.laneKept_pump _)
    exact .of_eq rfl rfl
  unfold State.send
  split
  iterate 5 exact .emit _ _
  all_goals exact .ite held .refl

theorem State.laneKept_mirror (n : Nat) (kind : MKind) (regions : List Nat) (mk : Nat → LinkMsg) : s.LaneKept (s.mirror n kind regions mk) := by
  unfold State.mirror
  refine .trans ?_ (State.laneKept_send _ _)
  exact .of_eq rfl rfl

theorem State.laneKept_openMirror (lane : Nat) (y : SlotAt) (lent : Bool) : s.LaneKept (s.openMirror lane y lent) := by
  unfold State.openMirror
  refine .ite (.trans ?_ (State.laneKept_pump _)) .refl
  exact .of_eq rfl rfl

/-! ## Operations on the dies -/

theorem State.laneKept_suspendDie (lane : Nat) : s.LaneKept (s.suspendDie lane) := by
  have suspended : ¬ laneReg (Reg.mchChSuspendCnt (lane / 16)) :=
    not_laneReg_of_offset (by unfold Reg.mchChSuspendCnt Reg.prxExcursionCnt; omega) (by unfold Reg.mchChSuspendCnt; omega)
      (by unfold Reg.mchChSuspendCnt; omega)
  have refused : ¬ laneReg (Reg.mchChSuspendRefuseCnt (lane / 16)) :=
    not_laneReg_of_offset (by unfold Reg.mchChSuspendRefuseCnt Reg.prxExcursionCnt; omega) (by unfold Reg.mchChSuspendRefuseCnt; omega)
      (by unfold Reg.mchChSuspendRefuseCnt; omega)
  unfold State.suspendDie
  extract_lets t held
  have polled : s.LaneKept t := .emit _ _
  have put (f : Die → Die) : t.LaneKept (t.updDie lane f) := .of_eq rfl rfl
  exact .ite polled (.ite (polled.trans (((put _).trans (.inc _ suspended _)).trans (.emit _ _))) (polled.trans (.inc _ refused _)))

theorem State.laneKept_resumeDie (lane : Nat) : s.LaneKept (s.resumeDie lane) := by
  have put (f : Die → Die) : s.LaneKept (s.updDie lane f) := .of_eq rfl rfl
  exact .ite ((put _).trans (.emit _ _)) .refl

theorem State.laneKept_startDie (lane kind : Nat) (w : Work) (slotEnd : Nat) : s.LaneKept (s.startDie lane kind w slotEnd) := by
  have put (f : Die → Die) : s.LaneKept (s.updDie lane f) := .of_eq rfl rfl
  exact (put _).trans (.emit _ _)

theorem State.laneKept_startRead (lane loc shift : Nat) (w : Work) (slotEnd : Nat) : s.LaneKept (s.startRead lane loc shift w slotEnd) := by
  have set (group : Nat) : s.LaneKept (s.setLevels lane group shift) := by
    have put (f : Die → Die) : s.LaneKept (s.updDie lane f) := .of_eq rfl rfl
    exact .ite .refl ((put _).trans (.emit _ _))
  exact ((set _).trans (.of_law (State.countRead_without _ _ (List.Subset.refl _)) rfl)).trans (State.laneKept_startDie ..)

theorem State.laneKept_startLeg (j : DecodeJob) (slotEnd : Nat) : s.LaneKept (s.startLeg j slotEnd) := by
  unfold State.startLeg
  split
  · exact .refl
  · next g _ =>
    extract_lets t u
    have counted : t.LaneKept u := by
      unfold u
      split
      · exact .ite (.inc _ (not_laneReg (by decide) (by decide)) _) .refl
      · exact .refl
    exact ((s.laneKept_startRead ..).trans counted).trans (.of_law (State.setLeg_without _ _ _ (List.Subset.refl _)) rfl)

theorem State.laneKept_startErase (lane slotEnd : Nat) (dump : Bool) : s.LaneKept (s.startErase lane slotEnd dump) := by
  unfold State.startErase
  split
  · split
    · exact s.laneKept_startDie ..
    · exact .refl
  · split
    · exact s.laneKept_startDie ..
    · exact .refl

theorem State.laneKept_startCkpt (lane slotEnd : Nat) : s.LaneKept (s.startCkpt lane slotEnd) := by
  unfold State.startCkpt
  split
  · next k _ =>
    have noted (f : Ckpt → Ckpt) : s.LaneKept (s.updCkpt k.seg f) := .of_eq rfl rfl
    exact ((noted _).trans (State.laneKept_startDie ..)).trans (.inc _ (not_laneReg (by decide) (by decide)) _)
  · exact .refl

theorem State.laneKept_startJournal (lane slotEnd : Nat) : s.LaneKept (s.startJournal lane slotEnd) :=
  ((State.LaneKept.emit s _).trans (State.laneKept_startDie ..)).trans (.inc _ (not_laneReg (by decide) (by decide)) _)

theorem State.laneKept_startProgram (p : ProgUnit) (slotEnd : Nat) : s.LaneKept (s.startProgram p slotEnd) := by
  have opened : s.LaneKept (s.openPage p.lane p.moved).1 := .of_law (s.openPage_without _ _ (List.Subset.refl _)) rfl
  unfold State.startProgram
  split
  · exact .refl
  · next t b page e =>
    rw [e] at opened
    extract_lets bits wrp u
    have begun : t.LaneKept u := .of_eq rfl rfl
    exact (((opened.trans begun).trans (.of_law (State.advancePage_without _ _ _ _ _ _ (List.Subset.refl _)) rfl)).trans
      (State.laneKept_startDie ..)).trans (.inc _ (not_laneReg (by decide) (by decide)) _)

theorem State.laneKept_startCare (lane slotEnd endTick : Nat) : s.LaneKept (s.startCare lane slotEnd endTick) := by
  unfold State.startCare
  extract_lets u
  have ready : s.LaneKept u := (State.LaneKept.of_law (s.scrubRoll_without lane (List.Subset.refl _)) rfl).trans
    (.of_law (State.retireReady_without _ _ (List.Subset.refl _)) rfl)
  split
  · next rank block _ =>
    extract_lets n loc v w long
    have read : u.LaneKept v := ((State.LaneKept.of_law (u.claim_without _ _ _ (List.Subset.refl _)) rfl).trans
      (State.laneKept_startRead ..)).trans (.inc _ (not_laneReg (by decide) (by decide)) _)
    have touched (x : State) (f : Blk → Blk) : x.LaneKept (x.updBlock lane block f) := .of_eq rfl rfl
    have noted (x : State) (f : Die → Die) : x.LaneKept (x.updDie lane f) := .of_eq rfl rfl
    exact .ite (((ready.trans read).trans (touched v _)).trans (noted w _)) ready
  · exact ready

theorem State.laneKept_startUrgent (lane : Nat) : s.LaneKept (s.startUrgent lane) := by
  unfold State.startUrgent
  refine .ite .refl ?_
  split
  · refine .trans ?_ (State.laneKept_startLeg _ _ _)
    exact .of_eq rfl rfl
  · exact .of_eq rfl rfl
  · exact .ite (s.laneKept_resumeDie lane) .refl

theorem State.laneKept_parkLane (lane : Nat) : s.LaneKept (s.parkLane lane) := by
  unfold State.parkLane
  refine .ite .refl ?_
  split
  · exact s.laneKept_startLeg _ _
  · split
    · exact s.laneKept_startProgram _ _
    · exact .ite (s.laneKept_startJournal _ _) (.ite (s.laneKept_startCkpt _ _) (.ite (s.laneKept_startErase _ _ _)
        (.ite (s.laneKept_startErase _ _ _) (s.laneKept_startCare _ _ _))))

theorem State.laneKept_parkWork : s.LaneKept s.parkWork :=
  .ite .refl (State.laneKept_foldl (fun t l => t.laneKept_parkLane l) _ s)

/-! ## Slots -/

theorem State.laneKept_slotProgram (lane : Nat) (y : SlotAt) (lent : Bool) : s.LaneKept (s.slotProgram lane y lent) := by
  unfold State.slotProgram
  refine .ite .refl ?_
  extract_lets prx t pages write
  have counted : s.LaneKept t := .of_eq rfl rfl
  have wrote : t.LaneKept (write t) := .ite (t.laneKept_startJournal _ _) (t.laneKept_startCkpt _ _)
  refine .ite (counted.trans wrote) ?_
  split
  · split
    · have noted (k : Nat) : t.LaneKept (t.served lane k) := .of_eq rfl rfl
      exact (counted.trans (noted _)).trans (State.laneKept_startProgram _ _ _)
    · exact counted.trans (State.laneKept_startProgram _ _ _)
  · exact .ite (counted.trans wrote) .refl

theorem State.laneKept_startAdm (a : Adm) (y : SlotAt) : s.LaneKept (s.startAdm a y) := by
  have again : s.LaneKept (s.readmit 2 a) := .of_law (s.readmit_without _ _ (List.Subset.refl _)) rfl
  have ended : s.LaneKept (s.endAdm a) := .of_eq rfl rfl
  have served (t : State) (lane : Nat) : t.LaneKept (t.countServe lane) := .of_law (t.countServe_without _ (List.Subset.refl _)) rfl
  unfold State.startAdm
  split
  · exact .ite ((ended.trans (served _ _)).trans (State.laneKept_startLeg _ _ _)) again
  · split
    · have counted (t : State) (k : Prx) : t.LaneKept { t with prx := k } := .of_eq rfl rfl
      exact .ite ((ended.trans (counted _ _)).trans (State.laneKept_startProgram _ _ _)) again
    · exact ended
  · exact ended

theorem State.laneKept_slotServe (lane : Nat) (y : SlotAt) (lent : Bool) : s.LaneKept (s.slotServe lane y lent) := by
  have served : s.LaneKept (s.countServe lane) := .of_law (s.countServe_without _ (List.Subset.refl _)) rfl
  unfold State.slotServe
  refine .ite ?_ .refl
  split
  · exact served.trans (State.laneKept_startLeg _ _ _)
  · exact .refl

theorem State.laneKept_slotMerge (lane : Nat) (y : SlotAt) (lent : Bool) : s.LaneKept (s.slotMerge lane y lent) := by
  have served : s.LaneKept (s.countServe lane) := .of_law (s.countServe_without _ (List.Subset.refl _)) rfl
  unfold State.slotMerge
  extract_lets free care
  refine .ite ?_ .refl
  split
  · exact served.trans (State.laneKept_startLeg _ _ _)
  · exact .refl

theorem State.laneKept_startNext (lane : Nat) : s.LaneKept (s.startNext lane) := by
  have first {t : State} (h : s.LaneKept t) {f : State → State} (each : ∀ u : State, u.LaneKept (f u)) : s.LaneKept (t.orElseStart lane f) :=
    .ite (h.trans (each t)) h
  unfold State.startNext
  split
  · exact .refl
  · next y _ =>
    refine .ite .refl ?_
    extract_lets t lent
    have begun : s.LaneKept t := State.laneKept_foldl (fun t a => .ite (t.laneKept_startAdm a y) .refl) _ s
    refine first (first (first (first (first begun fun u => ?_) fun u => u.laneKept_slotServe ..) fun u => u.laneKept_slotMerge ..)
      fun u => ?_) fun u => .ite (u.laneKept_startErase ..) .refl
    · exact .ite (u.laneKept_slotProgram ..) (.ite (.ite (u.laneKept_startErase ..) .refl) (.ite (.ite (u.laneKept_startErase ..) .refl) .refl))
    · exact .ite (u.laneKept_startCare ..) .refl

theorem State.laneKept_cipherStage (c : CmdId) (units : Nat) : s.LaneKept (s.cipherStage c units) := by
  unfold State.cipherStage
  split
  · exact .refl
  · next x _ =>
    extract_lets us t n done u
    have plain : s.LaneKept t := by
      refine .trans ?_ (State.laneKept_foldl (fun t r => ?_) us _)
      · exact .inc _ (not_laneReg (by decide) (by decide)) _
      · have phase (t : State) (p : UPhase) : t.LaneKept (t.setPhase c r.unit p) := .of_eq rfl rfl
        exact ((phase t _).trans (.emit _ _)).trans (.of_law (State.letGo_without _ _ _ (List.Subset.refl _)) rfl)
    have coded : t.LaneKept u :=
      (State.LaneKept.inc t (not_laneReg (by decide) (by decide)) n).trans (State.laneKept_foldl (fun t u => .emit _ _) _ _)
    have noted (f : Cmd → Cmd) : u.LaneKept (u.updCmd c f) := .of_eq rfl rfl
    exact (((plain.trans coded).trans (noted _)).trans (.of_law (State.readSettle_without _ _ (List.Subset.refl _)) rfl)).trans
      (.of_law (State.copySettle_without _ (List.Subset.refl _)) rfl)

theorem State.laneKept_beginStage (a : Adm) : s.LaneKept (s.beginStage a) := by
  have ended : s.LaneKept (s.endAdm a) := .of_eq rfl rfl
  have begun : s.LaneKept (s.beginAdm a) := .of_eq rfl rfl
  have again (t : State) : t.LaneKept (t.readmit 7 a) := .of_law (t.readmit_without _ _ (List.Subset.refl _)) rfl
  have moved (t : State) (n : Nat) (p : Leg → Bool) (js : List (DecodeJob × Leg)) (f : State → DecodeJob → State)
      (each : ∀ (t : State) j, t.LaneKept (f t j)) : t.LaneKept (t.moveLegs n p js f) := State.laneKept_foldl (fun t (q : DecodeJob × Leg) => each t q.1) _ t
  unfold State.beginStage
  split
  · exact ended
  · next x _ =>
    have waits : s.LaneKept ((if s.dmaOk x.id.fn = true then s.awaitXlat x else s).readmit 7 a) :=
      .trans (.ite (s.laneKept_awaitXlat x) .refl) (again _)
    extract_lets soft
    split
    · exact ended.trans (State.laneKept_cipherStage ..)
    · exact .ite (again s) (.ite (ended.trans (State.laneKept_deliverStage ..)) waits)
    · exact .ite (begun.trans (State.laneKept_fetchStage ..)) waits
    · exact ended.trans (moved _ _ _ _ _ fun t j => .of_law (t.busEnds_without j (List.Subset.refl _)) rfl)
    · exact ended.trans (.of_law (State.sendProgs_without _ _ _ (List.Subset.refl _)) rfl)
    · exact begun.trans (moved _ _ _ _ _ fun t j => .of_law (t.beginDecode_without j (List.Subset.refl _)) rfl)
    · exact begun
    · exact .refl
    · exact .refl

theorem State.laneKept_laneOthers (lane : Nat) (y : SlotAt) (lent : Bool) (n : Nat) : s.LaneKept (s.laneOthers lane y lent n) := by
  unfold State.laneOthers
  split
  · exact .of_law (s.busOthers_without _ _ _ (List.Subset.refl _)) rfl
  · exact .of_law (s.decodeOthers_without _ _ _ _ (List.Subset.refl _)) rfl
  · exact .of_law (s.decodeOthers_without _ _ _ _ (List.Subset.refl _)) rfl
  · refine .ite ?_ .refl
    dsimp only
    have seen : s.LaneKept (s.visits n y) := State.laneKept_foldl (fun t f => t.laneKept_visit f) _ s
    exact .ite (seen.trans (State.laneKept_serveIntern ..)) seen
  · exact .ite (s.laneKept_serveIntern ..) .refl
  · exact s.laneKept_openMirror ..
  · exact .refl

theorem State.laneKept_beginSlot (lane : Nat) (y : SlotAt) : s.LaneKept (s.beginSlot lane y) := by
  unfold State.beginSlot
  extract_lets mine owned be serves progs prx t room lent noCap chosen turned t₁ t₂ t₃ prx₄ t₄ reads held gated resumed left n
  have e : s.LaneKept t := .ite (.of_eq rfl rfl) .refl
  have e₁ : t.LaneKept t₁ := .ite (.inc _ (not_laneReg (by decide) (by decide)) _) .refl
  have shared (u : State) (a : Adm) : u.LaneKept (u.served lane (u.participant a)) := .of_eq rfl rfl
  have e₂ : t₁.LaneKept t₂ := by
    refine .ite ?_ .refl
    split
    · exact shared t₁ _
    · exact .refl
  have again (u : State) (cause : Nat) (a : Adm) : u.LaneKept (u.readmit cause a) := .of_law (u.readmit_without _ _ (List.Subset.refl _)) rfl
  have e₃ : t₂.LaneKept t₃ := State.laneKept_foldl (fun u a => again u 0 a) turned t₂
  have noted (u : State) (k : Prx) : u.LaneKept { u with prx := k } := .of_eq rfl rfl
  have put (u : State) (f : Die → Die) : u.LaneKept (u.updDie lane f) := .of_eq rfl rfl
  have begun : s.LaneKept t₄ := (((e.trans e₁).trans e₂).trans e₃).trans (noted t₃ _)
  have e₅ : t₄.LaneKept held := .ite (State.laneKept_suspendDie _ _) .refl
  have e₆ : t₄.LaneKept gated :=
    .ite (e₅.trans (.ite (State.laneKept_foldl (fun u a => again u 2 a) reads held) (put held _))) .refl
  have e₇ : gated.LaneKept resumed := .ite (State.laneKept_resumeDie _ _) .refl
  exact .ite (((begun.trans e₆).trans e₇).trans (State.laneKept_startNext _ _))
    ((begun.trans (State.laneKept_foldl (fun u a => u.laneKept_beginStage a) _ _)).trans (State.laneKept_laneOthers _ _ _ _ _))

theorem State.laneKept_beginLate (lane : Nat) : s.LaneKept (s.beginLate lane) := by
  unfold State.beginLate
  split
  · refine .ite .refl (.trans ?_ (State.laneKept_beginSlot _ _ _))
    exact .of_eq rfl rfl
  · exact .refl

theorem State.laneKept_dieGoesOn (lane : Nat) : s.LaneKept (s.dieGoesOn lane) :=
  (((s.laneKept_startUrgent lane).trans (State.laneKept_beginLate _ lane)).trans (State.laneKept_startNext _ lane)).trans
    (State.laneKept_parkLane _ lane)
end

end Sys2Proof.Machine
end

section
/-! SUPPORT. What reads, programs and erases that end leave of the channels (O9). -/
set_option linter.unusedSimpArgs false
namespace Sys2Proof.Machine

section
variable (s : State)

/-! ## Reads that end -/

theorem State.laneKept_becomeStaged (w : SWrite) : s.LaneKept (s.becomeStaged w) := by
  unfold State.becomeStaged
  extract_lets units hit wrp t w' counted t₁ t₂ n t₃ t₄ t₅
  have e₁ : s.LaneKept t₁ := .ite (.of_eq rfl rfl) (.of_eq rfl rfl)
  have e₂ : t₁.LaneKept t₂ := .ite (.inc _ (not_laneReg (by decide) (by decide)) _)
    (.ite (.inc _ (not_laneReg (by decide) (by decide)) _) .refl)
  have e₃ : t₂.LaneKept t₃ := .ite (State.laneKept_foldl (fun t iu => .of_law (t.noteChange_without _ _ (List.Subset.refl _)) rfl) _ _) .refl
  have e₄ : t₃.LaneKept t₄ := by
    refine .ite ?_ .refl
    unfold State.mirrorWrite
    exact .ite (.trans (State.laneKept_foldl (fun t iu => t.laneKept_mirror ..) _ _) (.inc _ (not_laneReg (by decide) (by decide)) _)) .refl
  have e₅ : t₄.LaneKept t₅ := .ite (.of_law (t₄.dropRepairs_without (List.Subset.refl _)) rfl) .refl
  refine .trans ((((e₁.trans e₂).trans e₃).trans e₄).trans e₅) ?_
  split
  · exact .of_law (State.destage_without _ _ (List.Subset.refl _)) rfl
  · exact .refl

theorem State.laneKept_takeRepairs : s.LaneKept s.takeRepairs := by
  refine State.laneKept_foldl (fun t w => ?_) _ s
  dsimp only
  refine .ite (.of_eq rfl rfl) (.ite .refl ?_)
  have added (u : State) (w : SWrite) : u.LaneKept (u.addWrite w) := .of_law (u.addWrite_without w (List.Subset.refl _)) rfl
  have left : t.LaneKept { t with rdp := { t.rdp with repairs := t.rdp.repairs.erase w } } := .of_eq rfl rfl
  split
  · exact (left.trans (added _ w)).trans (State.laneKept_becomeStaged _ _)
  · exact left.trans (added _ w)

theorem State.laneKept_recovered (x : Cmd) (r : RUnit) : s.LaneKept (s.recovered x r) := by
  have counted (u : State) {off : Nat} (h : off / 0x100000 = 7) (n : Nat) : u.LaneKept (u.inc off n) :=
    .inc _ (not_laneReg (by rintro rfl; exact absurd h (by decide)) (by omega)) _
  unfold State.recovered
  extract_lets t t₁ t₂ w u rdp t₃
  have e : s.LaneKept t := (State.LaneKept.of_law (s.leaveSoft_without x.id r.unit (List.Subset.refl _)) rfl).trans
    (.of_law (State.toPhase_without _ _ _ _ (List.Subset.refl _)) rfl)
  have e₁ : t.LaneKept t₁ := .ite .refl (.ite (.trans (counted _ (by decide) _) (.of_eq rfl rfl)) (.ite (counted _ (by decide) _)
    (.trans (counted _ (by decide) _) (.raise _ (not_laneReg (by decide) (by decide))))))
  have e₂ : t₁.LaneKept t₂ := .ite (.of_eq rfl rfl) .refl
  have e₃ : t₂.LaneKept t₃ := .ite (.trans (counted _ (by decide) _) (.of_eq rfl rfl)) .refl
  exact ((((e.trans e₁).trans e₂).trans e₃).trans (State.laneKept_takeRepairs _)).trans
    (.of_law (State.readSettle_without _ _ (List.Subset.refl _)) rfl)

theorem State.laneKept_ure (x : Cmd) (u : Nat) : s.LaneKept (s.ure x u) := by
  have failed (t : State) : t.LaneKept (t.readFailed x u) := .of_law (t.readFailed_without x u (List.Subset.refl _)) rfl
  have num (t : State) {off : Nat} (h : off / 0x100000 = 7) (n : Nat) : t.LaneKept (t.setNum off n) :=
    .setNum _ (not_laneReg (by rintro rfl; exact absurd h (by decide)) (by omega)) _
  unfold State.ure
  extract_lets n e marked t lba t₁ t₂ t₃
  have e₀ : s.LaneKept t := .ite (.of_law (s.setEntry_without _ _ _ (List.Subset.refl _)) rfl) .refl
  have e₁ : t.LaneKept t₁ := .trans (.trans (num _ (by decide) _) (num _ (by decide) _)) (num _ (by decide) _)
  have e₂ : t₁.LaneKept t₂ := .trans (num _ (by decide) _) (.countErr _ (not_laneReg (by decide) (by decide)))
  have e₃ : t₂.LaneKept t₃ := (State.LaneKept.raise _ (not_laneReg (by decide) (by decide))).trans (failed _)
  exact (((e₀.trans e₁).trans e₂).trans e₃).trans (.ite (State.laneKept_send _ _) .refl)

theorem State.laneKept_toParity (x : Cmd) (r : RUnit) : s.LaneKept (s.toParity x r) := by
  have lost : s.LaneKept ((s.leaveSoft x.id r.unit).ure x r.unit) :=
    (State.LaneKept.of_law (s.leaveSoft_without x.id r.unit (List.Subset.refl _)) rfl).trans (State.laneKept_ure ..)
  unfold State.toParity
  split
  · exact lost
  · dsimp only
    refine .ite (.ite (.trans ?_ (State.laneKept_recovered ..)) (.of_law (s.readFrom_without _ _ _ _ _ (List.Subset.refl _)) rfl)) lost
    exact .of_eq rfl rfl

theorem State.laneKept_sendAround (x : Cmd) (r : RUnit) (soft rescue : Bool) (t : State)
    (h : s.sendAround x r soft rescue = some t) : s.LaneKept t := by
  unfold State.sendAround at h
  split at h
  · exact absurd h (by simp)
  · next tag _ =>
    dsimp only at h
    split at h
    · obtain rfl := Option.some.inj h
      refine .trans (.trans ?_ (.inc _ (not_laneReg (by decide) (by decide)) _)) (State.laneKept_send _ _)
      exact .trans (.of_law (s.toPhase_without x.id r (.around tag soft) (List.Subset.refl _)) rfl) (.of_eq rfl rfl)
    · exact absurd h (by simp)

theorem State.laneKept_toPartnerSoft (x : Cmd) (r : RUnit) : s.LaneKept (s.toPartnerSoft x r) := by
  unfold State.toPartnerSoft
  refine .ite ?_ (s.laneKept_toParity x r)
  split
  · next h =>
    refine .trans ?_ (State.laneKept_sendAround _ _ _ _ _ _ h)
    exact .of_eq rfl rfl
  · exact s.laneKept_toParity x r

theorem State.laneKept_toSoft (x : Cmd) (r : RUnit) : s.LaneKept (s.toSoft x r) := by
  unfold State.toSoft
  extract_lets u
  have counted : s.LaneKept (s.countErr .rdp Reg.rdpRescueFailCnt) := .countErr _ (not_laneReg (by decide) (by decide))
  have met (v : State) : v.LaneKept (v.meet x.id 1) := .of_eq rfl rfl
  have entered (v : State) : v.LaneKept (v.enterSoft x.id r.unit) := .of_law (v.enterSoft_without _ _ (List.Subset.refl _)) rfl
  have noted (v : State) (f : Cmd → Cmd) : v.LaneKept (v.updCmd x.id f) := .of_eq rfl rfl
  have e : s.LaneKept u := ((counted.trans (met _)).trans (entered _)).trans (noted _ _)
  split
  · exact e.trans (.of_law (State.readFrom_without _ _ _ _ _ _ (List.Subset.refl _)) rfl)
  · exact e.trans (u.laneKept_toPartnerSoft x r)

theorem State.laneKept_reconSettle (x : Cmd) (r : RUnit) (legs : List Leg) (retried : Bool) : s.LaneKept (s.reconSettle x r legs retried) := by
  unfold State.reconSettle
  split
  · exact s.laneKept_recovered x r
  · refine .ite (s.laneKept_toSoft x r) (.trans ?_ (.of_law (State.readFrom_without _ _ _ _ _ _ (List.Subset.refl _)) rfl))
    exact .of_eq rfl rfl
  · exact s.laneKept_toSoft x r

theorem State.laneKept_toRecon (x : Cmd) (r : RUnit) (stage : Nat) : s.LaneKept (s.toRecon x r stage) := by
  unfold State.toRecon
  extract_lets ms locs legs t
  have counted : s.LaneKept t := .inc _ (not_laneReg (by decide) (by decide)) _
  exact .ite (counted.trans (State.laneKept_reconSettle ..)) (counted.trans (.of_law (State.readFrom_without _ _ _ _ _ _ (List.Subset.refl _)) rfl))

theorem State.laneKept_retryRead (x : Cmd) (r : RUnit) (slotEnd : Nat) : s.LaneKept (s.retryRead x r slotEnd) := by
  unfold State.retryRead
  split
  · exact s.laneKept_toSoft x r
  · extract_lets lane g t j
    have left : s.LaneKept (s.quit x.id r) := .of_law (s.quit_without _ _ (List.Subset.refl _)) rfl
    have noted (v : State) (f : RUnit → RUnit) : v.LaneKept (v.updUnit x.id r.unit f) := .of_eq rfl rfl
    have begun : s.LaneKept t := left.trans (noted _ _)
    have admitted : t.LaneKept (t.admitRead x.id j) := .of_law (t.admitRead_without _ _ (List.Subset.refl _)) rfl
    have added (a : Adm) : t.LaneKept (t.addAdm a) := .of_law (t.addAdm_without a (List.Subset.refl _)) rfl
    split
    · exact begun.trans (.ite (.ite (t.laneKept_startLeg _ _) (added _)) admitted)
    · exact begun.trans admitted

theorem State.laneKept_rescueStart (lane : Nat) (w : Work) : s.LaneKept (s.rescueStart lane w) := by
  unfold State.rescueStart
  extract_lets t rdp
  have paused : s.LaneKept t := .ite (s.laneKept_suspendDie lane) .refl
  have noted (u : State) (k : Rdp) : u.LaneKept { u with rdp := k } := .of_eq rfl rfl
  exact (paused.trans (noted t _)).trans (State.laneKept_startUrgent _ _)

theorem State.laneKept_rescueLocal (x : Cmd) (r : RUnit) : s.LaneKept (s.rescueLocal x r) := by
  have left : s.LaneKept (s.quit x.id r) := .of_law (s.quit_without _ _ (List.Subset.refl _)) rfl
  have noted (v : State) (f : RUnit → RUnit) : v.LaneKept (v.updUnit x.id r.unit f) := .of_eq rfl rfl
  unfold State.rescueLocal
  split
  · exact s.laneKept_toSoft x r
  · exact (left.trans (noted _ _)).trans (State.laneKept_rescueStart _ _ _)

theorem State.laneKept_nextStage (x : Cmd) (r₀ : RUnit) (here : Bool) (slotEnd : Nat) : s.LaneKept (s.nextStage x r₀ here slotEnd) := by
  unfold State.nextStage
  extract_lets r t v mode
  have noted (u : State) (f : RUnit → RUnit) : u.LaneKept (u.updUnit x.id r.unit f) := .of_eq rfl rfl
  have begun : s.LaneKept t := noted s _
  refine begun.trans (.ite (.ite (.ite ?around (t.laneKept_rescueLocal x r)) (.ite (t.laneKept_toRecon x r 1) (t.laneKept_retryRead ..)))
    (.ite (t.laneKept_toSoft x r) (.ite (t.laneKept_toPartnerSoft x r) (.ite (t.laneKept_toParity x r) ?lost))))
  case around =>
    split
    · next h => exact (noted t _).trans (State.laneKept_sendAround _ _ _ _ _ _ h)
    · exact t.laneKept_toSoft x r
  case lost => exact (State.LaneKept.of_law (t.leaveSoft_without _ _ (List.Subset.refl _)) rfl).trans (State.laneKept_ure ..)

theorem State.laneKept_softLeg (j : DecodeJob) (passes : Nat) : s.LaneKept (s.softLeg j passes) :=
  .of_law (s.softLeg_without _ _ (List.Subset.refl _)) rfl

theorem State.laneKept_unitLegEnds (c : CmdId) (u : Nat) (j : DecodeJob) (g : Leg) (ok : Bool) : s.LaneKept (s.unitLegEnds c u j g ok) := by
  unfold State.unitLegEnds
  extract_lets t
  have noted : s.LaneKept t := .of_law (s.setLeg_without _ _ (List.Subset.refl _)) rfl
  split
  · next x r _ _ =>
    split
    · exact .ite (noted.trans (t.laneKept_recovered x r)) (noted.trans (t.laneKept_nextStage ..))
    · exact .ite (noted.trans (t.laneKept_reconSettle ..)) noted
    · exact .ite (.ite (noted.trans (t.laneKept_recovered x r)) noted)
        (.ite (noted.trans (t.laneKept_nextStage ..)) (noted.trans (t.laneKept_softLeg ..)))
    · exact noted
  · exact .refl

theorem State.laneKept_partRead (wid u : Nat) (ok : Bool) : s.LaneKept (s.partRead wid u ok) := by
  have met : s.LaneKept (s.merged wid u ok) := .of_law (s.merged_without _ _ _ (List.Subset.refl _)) rfl
  unfold State.partRead
  extract_lets t
  split
  · exact .ite (met.trans (State.laneKept_becomeStaged _ _)) met
  · exact met

theorem State.laneKept_answerAround (tag status : Nat) : s.LaneKept (s.answerAround tag status) := by
  unfold State.answerAround
  refine .trans (.trans ?_ (.inc _ (not_laneReg (by decide) (by decide)) _)) (State.laneKept_send _ _)
  exact .of_eq rfl rfl

theorem State.laneKept_legEnds (j : DecodeJob) (g : Leg) (ok : Bool) : s.LaneKept (s.legEnds j g ok) := by
  unfold State.legEnds
  split
  · exact s.laneKept_unitLegEnds ..
  · exact .ite (s.laneKept_answerAround _ _) (.ite (s.laneKept_answerAround _ _) (.ite (s.laneKept_softLeg _ _) (s.laneKept_answerAround _ _)))
  · exact .ite (s.laneKept_partRead ..) (.ite (.of_law (s.setLeg_without _ _ (List.Subset.refl _)) rfl)
      (.ite (s.laneKept_partRead ..) (s.laneKept_softLeg _ _)))
  · exact .refl

theorem State.laneKept_readEnds (j : DecodeJob) (pass : Bool) : s.LaneKept (s.readEnds j pass) := by
  unfold State.readEnds
  split
  · exact .refl
  · exact .ite .refl (.ite (.of_law (s.setLeg_without _ _ (List.Subset.refl _)) rfl) (s.laneKept_legEnds ..))

theorem State.laneKept_failWork (w : Work) : s.LaneKept (s.failWork w) := by
  unfold State.failWork
  split
  · split
    · exact s.laneKept_legEnds ..
    · exact .refl
  · exact .of_eq rfl rfl
  · exact .of_law (s.ckptPassed_without _ _ (List.Subset.refl _)) rfl
  · exact .refl

/-! ## Programs and erases that end -/

theorem State.laneKept_gcReview : s.LaneKept s.gcReview := by
  unfold State.gcReview
  extract_lets debt st t entered left mcr u v
  have counted : s.LaneKept t := .setNum _ (not_laneReg (by decide) (by decide)) _
  have noted (x : State) (m : Mcr) : x.LaneKept { x with mcr := m } := .of_eq rfl rfl
  have shown : s.LaneKept v := (counted.trans (noted t _)).trans
    ((State.LaneKept.setBit _ (not_laneReg (by decide) (by decide)) _ _).trans (.setBit _ (not_laneReg (by decide) (by decide)) _ _))
  refine .ite (shown.trans (.trans (.trans ?_ (.raise _ (not_laneReg (by decide) (by decide))))
    (.of_law (State.asyncEvent_without _ _ _ _ _ (List.Subset.refl _)) rfl))) shown
  exact .raiseLog _ (not_laneReg (by decide) (by decide))

theorem State.laneKept_settle : s.LaneKept s.settle := by
  unfold State.settle
  extract_lets t ready late u v acks w wrp x done
  have noted : s.LaneKept s.showMacked := .of_eq rfl rfl
  have shown : s.LaneKept t := (noted.trans (.of_law (State.noteHeld_without _ (List.Subset.refl _)) rfl)).trans
    (.of_law (State.noteWithheld_without _ (List.Subset.refl _)) rfl)
  have counted : t.LaneKept u := .inc _ (not_laneReg (by decide) (by decide)) _
  have acked : u.LaneKept v := State.laneKept_foldl (fun s w => by exact .of_eq rfl rfl) _ _
  have told : v.LaneKept w := State.laneKept_foldl (fun s w => by
    dsimp only
    split
    · refine .trans ?_ (State.laneKept_send _ _)
      exact .of_eq rfl rfl
    · exact .of_eq rfl rfl) _ _
  have verified : w.LaneKept x := .of_eq rfl rfl
  have ended : x.LaneKept (done.foldl (fun t c => t.finish c 0) x) := State.laneKept_foldl (fun s c => by exact .of_eq rfl rfl) _ _
  exact (((((shown.trans counted).trans acked).trans told).trans verified).trans ended).trans
    (.of_law (State.release_without _ (List.Subset.refl _)) rfl)

theorem State.laneKept_eraseDone (lane block : Nat) (pass : Bool) : s.LaneKept (s.eraseDone lane block pass) := by
  have counted (u : State) {off : Nat} (h : off / 0x100000 = 9) (n : Nat) : u.LaneKept (u.inc off n) :=
    .inc _ (not_laneReg (by rintro rfl; exact absurd h (by decide)) (by omega)) _
  unfold State.eraseDone
  extract_lets b t u
  have freed : s.LaneKept t :=
    (State.LaneKept.of_law (s.forgetBlock_without lane block (List.Subset.refl _)) rfl).trans (.of_eq rfl rfl)
  have noted : t.LaneKept u := .ite (counted _ (by decide) _) (.ite (counted _ (by decide) _) (.ite (counted _ (by decide) _) .refl))
  refine .ite (((freed.trans noted).trans (State.laneKept_gcReview _)).trans (.of_law (State.retryHeld_without _ (List.Subset.refl _)) rfl))
    (.trans (.trans ?_ (.of_law (State.retireBlock_without _ _ _ (List.Subset.refl _)) rfl)) (State.laneKept_gcReview _))
  exact .countErr _ (not_laneReg (by decide) (by decide))

theorem State.laneKept_programFail (p : ProgUnit) : s.LaneKept (s.programFail p) := by
  unfold State.programFail
  extract_lets live gone t u again wrp v w
  have dropped : s.LaneKept t := .of_eq rfl rfl
  have verified : t.LaneKept u := State.laneKept_foldl (fun s w => by exact .of_eq rfl rfl) _ _
  have noted (x : State) (k : Wrp) : x.LaneKept { x with wrp := k } := .of_eq rfl rfl
  have placed : u.LaneKept v := .ite .refl (noted u _)
  have counted : v.LaneKept w := ((State.LaneKept.countErr _ (not_laneReg (by decide) (by decide))).trans
    (.inc _ (not_laneReg (by decide) (by decide)) _)).trans (.raise _ (not_laneReg (by decide) (by decide)))
  exact ((((dropped.trans verified).trans placed).trans counted).trans (.of_law (State.retireBlock_without _ _ _ (List.Subset.refl _)) rfl)).trans
    (State.laneKept_settle _)

/-! ## Channels -/

theorem State.laneKept_conditions : s.LaneKept s.conditions := by
  unfold State.conditions
  extract_lets t
  have shown : s.LaneKept t := ((State.LaneKept.setBit _ (not_laneReg (by decide) (by decide)) _ _).trans
    (.setBit _ (not_laneReg (by decide) (by decide)) _ _)).trans (.setBit _ (not_laneReg (by decide) (by decide)) _ _)
  split
  · exact shown
  · extract_lets mark u prx f v
    have noted : t.LaneKept u := .of_eq rfl rfl
    have cleared : u.LaneKept v := .of_eq rfl rfl
    refine .ite shown (.ite ((shown.trans noted).trans (.of_eq rfl rfl)) (.ite (shown.trans noted) (.ite ?_ ?_)))
    · exact ((shown.trans noted).trans cleared).trans (State.laneKept_send _ _)
    · exact (shown.trans noted).trans cleared

theorem State.laneKept_showReady : s.LaneKept s.showReady := .of_law (s.showReady_without (List.Subset.refl _)) rfl

theorem State.laneKept_showHealth : s.LaneKept s.showHealth := by
  unfold State.showHealth
  exact .ite .refl (((State.LaneKept.setBit _ (not_laneReg (by decide) (by decide)) _ _).trans
    (.raise _ (not_laneReg (by decide) (by decide)))).trans (State.laneKept_settle _))

theorem State.laneKept_bindingEnds (ch : Nat) : s.LaneKept (s.bindingEnds ch) := by
  unfold State.bindingEnds
  refine .ite ?_ .refl
  extract_lets left mch u sec
  have ended : s.LaneKept u := .of_eq rfl rfl
  refine .ite (ended.trans (.trans ?_ (.raise _ (not_laneReg_of_high (by decide))))) ended
  exact .of_eq rfl rfl

theorem State.laneKept_clearDie (lane : Nat) : s.LaneKept (s.clearDie lane) := by
  unfold State.clearDie
  extract_lets d t gone rdp u
  have put : s.LaneKept t := .of_eq rfl rfl
  have left : t.LaneKept u := .of_eq rfl rfl
  refine (put.trans left).trans (State.laneKept_foldl (fun v w => .trans ?_ (State.laneKept_failWork _ w)) _ _)
  split
  · exact .of_law (v.noteVoid_without _ _ (List.Subset.refl _)) rfl
  · exact .refl

theorem State.laneKept_rescueWaiting (lane : Nat) : s.LaneKept (s.rescueWaiting lane) := by
  unfold State.rescueWaiting
  extract_lets t
  have dropped : s.LaneKept t := .of_eq rfl rfl
  refine dropped.trans (State.laneKept_foldl (fun v (p : DecodeJob × Leg) => .trans ?_ (State.laneKept_failWork _ (.read p.1))) _ t)
  split
  · exact .of_law (v.noteVoid_without _ _ (List.Subset.refl _)) rfl
  · exact .refl

/-- What a channel's change of state leaves: the other registers of the lanes, and what was put out. -/
theorem State.reg_setChStatus (ch st reason die entry : Nat) : (s.setChStatus ch st reason die entry).reg (Reg.mchChStatus ch) =
    BitVec.ofNat 32 (st + reason * 2 ^ 8 + die * 2 ^ 12 + entry * 2 ^ 16) := by
  unfold State.setChStatus
  rw [State.reg_of_setNum, if_pos rfl]

theorem State.chState_setChStatus {ch st reason die entry : Nat} (small : st < 8) :
    (s.setChStatus ch st reason die entry).chState ch = st := by
  unfold State.chState
  rw [State.field_eq, s.reg_setChStatus, wordField, BitVec.toNat_ofNat]
  omega

theorem State.LaneKept.chState {s t : State} (h : s.LaneKept t) (ch : Nat) : t.chState ch = s.chState ch :=
  congrArg (wordField · 0 3) (h.regs _ (.inr ⟨ch, .inl rfl⟩))

theorem State.laneKept_chGone (ch : Nat) : s.LaneKept (s.chGone ch) := by
  unfold State.chGone
  refine .ite s.laneKept_conditions (.trans ?_ (State.laneKept_conditions _))
  exact .of_eq rfl rfl

/-- A register of the channels' masks. -/
theorem mchMask_free : ¬ laneReg Reg.mchChUp ∧ ¬ laneReg Reg.mchChRefused ∧ ¬ laneReg Reg.mchChLost ∧ ¬ laneReg Reg.mchEvent := by
  refine ⟨?_, ?_, ?_, ?_⟩ <;> exact not_laneReg_of_high (by decide)

/-- Losing a channel: its state is 4, and beside it no register of the lanes changes. -/
theorem State.loseCh_keeps (ch reason die : Nat) : ∃ entry, (s.setChStatus ch 4 reason die entry).LaneKept (s.loseCh ch reason die) := by
  obtain ⟨up, refused, lost, event⟩ := mchMask_free
  unfold State.loseCh
  extract_lets t
  have isolated : t.LaneKept (t.isolate ch) := ((State.LaneKept.emit _ _).trans (.emit _ _)).trans (.emit _ _)
  have shown : (s.setChStatus ch 4 reason die (s.field (Reg.mchChStatus ch) 16 3)).LaneKept t :=
    ((State.LaneKept.setBit _ up _ _).trans (.setBit _ refused _ _)).trans (.setBit _ lost _ _)
  exact ⟨_, (((shown.trans isolated).trans (.raiseLog _ event)).trans (.of_law (State.asyncEvent_without _ _ _ _ _ (List.Subset.refl _)) rfl)).trans
    (State.laneKept_chGone _ _)⟩

theorem State.loseChannel_keeps (ch reason die : Nat) : ∃ entry, (s.setChStatus ch 4 reason die entry).LaneKept (s.loseChannel ch reason die) := by
  obtain ⟨entry, lost⟩ := s.loseCh_keeps ch reason die
  unfold State.loseChannel
  extract_lets t
  exact ⟨entry, (((lost.trans (State.laneKept_foldl (fun u l => (u.laneKept_clearDie l).trans (State.laneKept_rescueWaiting _ l)) _ t)).trans
    (State.laneKept_showReady _)).trans (State.laneKept_showHealth _)).trans (State.laneKept_bindingEnds _ ch)⟩

theorem State.loseChannel_shows (ch reason die : Nat) : (s.loseChannel ch reason die).chState ch = 4 := by
  obtain ⟨entry, kept⟩ := s.loseChannel_keeps ch reason die
  exact (kept.chState ch).trans (s.chState_setChStatus (by decide))

theorem State.reg_setChStatus_timeoutCnt (ch st reason die entry c : Nat) :
    (s.setChStatus ch st reason die entry).reg (Reg.mchChTimeoutCnt c) = s.reg (Reg.mchChTimeoutCnt c) := by
  unfold State.setChStatus
  rw [State.reg_of_setNum, if_neg (by unfold Reg.mchChStatus Reg.mchChTimeoutCnt; omega)]

/-- Losing a channel leaves the counts of timeouts, and takes back nothing that was put out. -/
theorem State.loseChannel_leaves (ch reason die : Nat) :
    (∀ c, (s.loseChannel ch reason die).reg (Reg.mchChTimeoutCnt c) = s.reg (Reg.mchChTimeoutCnt c)) ∧
    s.out ⊆ (s.loseChannel ch reason die).out := by
  obtain ⟨entry, lost⟩ := s.loseChannel_keeps ch reason die
  refine ⟨fun c => ?_, lost.out⟩
  rw [lost.regs _ (.inr ⟨c, .inr rfl⟩), State.reg_setChStatus_timeoutCnt]
end

end Sys2Proof.Machine
end

section
/-! SUPPORT. Media channels come up and go, and operations on the dies end (O9). -/
set_option linter.unusedSimpArgs false
namespace Sys2Proof.Machine

section
variable (s : State)

/-! ## Channels come up and go -/

theorem State.laneKept_onDies (ch op : Nat) : s.LaneKept (s.onDies ch op) := State.laneKept_foldl (fun t _ => .emit t _) _ s

theorem State.laneKept_trainChannel (ch : Nat) : s.LaneKept (s.trainChannel ch) :=
  ((s.laneKept_onDies ch 14).trans (State.laneKept_onDies _ ch 15)).trans (State.laneKept_onDies _ ch 16)

theorem State.laneKept_configureCh (ch reason : Nat) : s.LaneKept (s.configureCh ch reason) := by
  have set : s.LaneKept (s.writeFeatures ch) :=
    State.laneKept_foldl (fun t _ => State.laneKept_foldl (fun u _ => .ite (.emit _ _) .refl) _ t) _ s
  unfold State.configureCh
  refine .ite .refl ?_
  extract_lets t
  have trained : s.LaneKept t := (set.trans (State.laneKept_onDies _ _ _)).trans (State.laneKept_trainChannel _ _)
  exact .ite trained (trained.trans (State.laneKept_onDies _ _ _))

theorem State.laneKept_showBringup : s.LaneKept s.showBringup := .setBit _ (not_laneReg_of_high (by decide)) _ _

theorem State.refuseCh_keeps (ch reason die : Nat) : (s.setChStatus ch 3 reason die 0).LaneKept (s.refuseCh ch reason die) := by
  obtain ⟨up, refused, lost, event⟩ := mchMask_free
  unfold State.refuseCh
  extract_lets t
  have isolated : t.LaneKept (t.isolate ch) := ((State.LaneKept.emit _ _).trans (.emit _ _)).trans (.emit _ _)
  have shown : (s.setChStatus ch 3 reason die 0).LaneKept t :=
    ((State.LaneKept.setBit _ up _ _).trans (.setBit _ lost _ _)).trans (.setBit _ refused _ _)
  exact (((shown.trans isolated).trans (.raiseLog _ event)).trans (.of_law (State.asyncEvent_without _ _ _ _ _ (List.Subset.refl _)) rfl)).trans
    (State.laneKept_chGone _ _)

theorem State.chComesUp_keeps (ch entry : Nat) : (s.setChStatus ch 2 0 0 entry).LaneKept (s.chComesUp ch entry) := by
  obtain ⟨up, refused, lost, event⟩ := mchMask_free
  have dies : ¬ laneReg (Reg.mchChDieLost ch) := not_laneReg_of_offset (by unfold Reg.mchChDieLost Reg.prxExcursionCnt; omega)
    (by unfold Reg.mchChDieLost; omega) (by unfold Reg.mchChDieLost; omega)
  unfold State.chComesUp
  extract_lets restored t t₁ t₂ t₃ mch prx t₄ t₅
  have e₁ : t.LaneKept t₁ := ((State.LaneKept.setBit _ up _ _).trans (.setBit _ refused _ _)).trans (.setBit _ lost _ _)
  have e₂ : t₁.LaneKept t₂ := (State.LaneKept.setNum _ dies _).trans (.setNum _ (not_laneReg_of_high (by decide)) _)
  have e₃ : t₂.LaneKept t₃ := State.laneKept_foldl (fun u _ => by exact .of_eq rfl rfl) _ _
  have noted (x : State) (m : Mch) (p : Prx) : x.LaneKept { x with mch := m, prx := p } := .of_eq rfl rfl
  have e₅ : t₄.LaneKept t₅ := ((State.LaneKept.emit _ _).trans (.emit _ _)).trans (State.laneKept_conditions _)
  have shown := (((e₁.trans e₂).trans e₃).trans (noted t₃ _ _)).trans e₅
  exact .ite (shown.trans (.raise _ event)) shown

theorem State.bringupDone_shows {ch : Nat} {f : BringupFacts} (training : s.chState ch = 1) :
    (s.bringupDone ch f).chState ch = (match bringupOutcome s.mch.profile s.diesPerCh f with | .inl _ => 3 | .inr _ => 2) := by
  obtain ⟨-, -, -, event⟩ := mchMask_free
  unfold State.bringupDone
  rw [if_neg (not_not_intro training)]
  extract_lets t
  have ended : t.LaneKept (((t.raise Reg.mchEvent 0).showBringup).bindingEnds ch) :=
    ((State.LaneKept.raise _ event).trans (State.laneKept_showBringup _)).trans (State.laneKept_bindingEnds _ _)
  refine (ended.chState ch).trans ?_
  unfold t
  generalize bringupOutcome s.mch.profile s.diesPerCh f = outcome
  rcases outcome with ⟨reason, die⟩ | k
  · exact ((State.refuseCh_keeps _ _ _ _).chState ch).trans (State.chState_setChStatus _ (by decide : 3 < 8))
  · exact ((State.chComesUp_keeps _ _ _).chState ch).trans (State.chState_setChStatus _ (by decide : 2 < 8))

theorem State.chBroughtUp_shows {ch : Nat} {f : BringupFacts} (training : s.chState ch = 1) :
    (s.chBroughtUp ch f).chState ch = (match bringupOutcome s.mch.profile s.diesPerCh f with | .inl _ => 3 | .inr _ => 2) := by
  refine Eq.trans ?_ (s.bringupDone_shows training)
  unfold State.chBroughtUp
  rw [if_neg (not_not_intro training)]
  extract_lets t u left
  have noted : t.LaneKept u := State.laneKept_foldl (fun v _ => by exact .of_eq rfl rfl) _ t
  have shown : u.LaneKept (((((u.setBit Reg.mcrStatus 4 left).showReady).showHealth).gcReview).parkWork) :=
    ((((State.LaneKept.setBit _ (not_laneReg (by decide) (by decide)) _ _).trans (State.laneKept_showReady _)).trans
      (State.laneKept_showHealth _)).trans (State.laneKept_gcReview _)).trans (State.laneKept_parkWork _)
  have kept : t.LaneKept (if t.chUp ch = true then ((((u.setBit Reg.mcrStatus 4 left).showReady).showHealth).gcReview).parkWork else t) :=
    .ite (noted.trans shown) .refl
  exact kept.chState ch

theorem State.chBringup_starts {ch : Nat} (small : ch < 32) (gone : s.chState ch = 3 ∨ s.chState ch = 4) :
    (s.chBringup ch).chState ch = 1 ∧ (s.chBringup ch).bit Reg.mchChUp ch = false ∧ (s.chBringup ch).bit Reg.mchGstatus 1 = true := by
  unfold State.chBringup
  rw [if_pos gone]
  unfold State.startBringup
  extract_lets t
  obtain ⟨up, refused, lost, -⟩ := mchMask_free
  have masked : (s.setChStatus ch 1 0 0 0).LaneKept t :=
    ((State.LaneKept.setBit _ up _ _).trans (.setBit _ refused _ _)).trans (.setBit _ lost _ _)
  have begun : t.chState ch = 1 := (masked.chState ch).trans (s.chState_setChStatus (by decide))
  have down : t.bit Reg.mchChUp ch = false := by
    simp +decide [t, small]
  have sent (l : List Nat) (u : State) : (l.foldl (fun u d => u.emit (.die (ch * 16 + d) 7)) u).regs = u.regs := by
    induction l generalizing u with
    | nil => rfl
    | cons d l ih => exact ih (u.emit _)
  have regs := sent (List.range t.diesPerCh) t
  generalize (List.range t.diesPerCh).foldl (fun u d => u.emit (.die (ch * 16 + d) 7)) t = u at regs
  have same (r : Nat) : u.reg r = t.reg r := congrArg (Tab.get · r) regs
  have state : u.chState ch = 1 := (congrArg (wordField · 0 3) (same _)).trans begun
  have some_ : ((List.range 32).any fun c => u.chState c == 1) = true :=
    List.any_eq_true.2 ⟨ch, List.mem_range.2 small, beq_iff_eq.2 state⟩
  have reset (v : State) (r : Nat) (page : r / 0x100000 = 6) : (v.domainReset Reg.pwrDomainSeenCh ch).reg r = v.reg r := by
    unfold State.domainReset
    rw [State.reg_of_raise _ _ _ _ (by omega), if_neg (by rintro rfl; exact absurd page (by decide)), State.reg_of_setBit,
      if_neg (by rintro rfl; exact absurd page (by decide))]
  refine ⟨?_, ?_, ?_⟩
  · exact (congrArg (wordField · 0 3) (reset _ _ (page_mchChStatus ch))).trans ((u.laneKept_showBringup.chState ch).trans state)
  · rw [State.bit_eq, reset _ _ (by decide), State.showBringup, State.reg_of_setBit, if_neg (by decide), same]
    exact down
  · rw [State.bit_eq, reset _ _ (by decide), State.showBringup, some_]
    simp

theorem State.chRetire_loses {ch : Nat} (on : s.chState ch = 1 ∨ s.chState ch = 2) : (s.chRetire ch).chState ch = 4 := by
  unfold State.chRetire
  rw [if_pos on]
  exact ((State.laneKept_showBringup _).chState ch).trans (s.loseChannel_shows ch 0xA 0)

/-- A retraining that is due, but for the loss of its channel. -/
theorem State.retrained_eq {ch : Nat} {ok : Bool} (due : s.retrainDue ch = true) : ∃ t : State, s.LaneKept t ∧
    t.mch.retrain.get ch = (if ok then 0 else s.mch.retrain.get ch + 1) ∧ t.mch.trainedC.get ch = s.cell ∧
    t.num (Reg.mchChRetrainCnt ch) =
      (if ok then s.num (Reg.mchChRetrainCnt ch) else satAdd 32 (s.num (Reg.mchChRetrainCnt ch)) 1) ∧
    s.retrained ch ok = if 2 ≤ (if ok then 0 else s.mch.retrain.get ch + 1) then t.loseChannel ch 9 0 else t := by
  have place : ¬ laneReg (Reg.mchChRetrainCnt ch) := not_laneReg_of_offset (by unfold Reg.mchChRetrainCnt Reg.prxExcursionCnt; omega)
    (by unfold Reg.mchChRetrainCnt; omega) (by unfold Reg.mchChRetrainCnt; omega)
  have quiet : logReg (Reg.mchChRetrainCnt ch) = false := by
    have page := page_mchChRetrainCnt ch
    generalize Reg.mchChRetrainCnt ch = r at page
    simp only [logReg, Bool.or_eq_false_iff, beq_eq_false_iff_ne]
    refine ⟨⟨⟨⟨⟨by omega, ?_⟩, ?_⟩, ?_⟩, ?_⟩, ?_⟩ <;> (rintro rfl; exact absurd page (by decide))
  have regs (r : Nat) : (s.trainChannel ch).reg r = s.reg r :=
    reg_of_without (s.trainChannel_without ch (List.Subset.refl _)) (by simp)
  unfold State.retrained
  rw [if_neg (not_not_intro due)]
  extract_lets t n mch u v
  have trained : s.LaneKept t := s.laneKept_trainChannel ch
  have noted (x : State) (m : Mch) : x.LaneKept { x with mch := m } := .of_eq rfl rfl
  have counted : u.LaneKept v := .ite .refl (.countErr _ place)
  refine ⟨v, (trained.trans (noted t _)).trans counted, ?_, ?_, ?_, rfl⟩
  · have same : v.mch = u.mch := by
      unfold v
      split
      · rfl
      · exact State.mch_countErr ..
    rw [same]
    exact (Tab.get_set ..).trans (if_pos rfl)
  · have same : v.mch = u.mch := by
      unfold v
      split
      · rfl
      · exact State.mch_countErr ..
    rw [same]
    exact (Tab.get_set ..).trans (if_pos rfl)
  · have held : u.reg (Reg.mchChRetrainCnt ch) = s.reg (Reg.mchChRetrainCnt ch) := regs _
    unfold v
    split
    · exact congrArg BitVec.toNat held
    · rw [State.num_eq, State.reg_of_countErr _ _ _ _ _ _ _ quiet, if_pos rfl, held, BitVec.toNat_ofNat, Nat.mod_eq_of_lt (satAdd_lt _ _)]
      rfl

theorem State.LaneKept.chUp {s t : State} (h : s.LaneKept t) (ch : Nat) : t.chUp ch = s.chUp ch := congrArg (· == 2) (h.chState ch)

theorem State.chUp_of_retrainDue {ch : Nat} (due : s.retrainDue ch = true) : s.chUp ch = true := by
  unfold State.retrainDue at due
  rw [Bool.and_eq_true, Bool.and_eq_true] at due
  exact due.1.1

theorem State.retrained_passes {ch : Nat} (due : s.retrainDue ch = true) : (s.retrained ch true).mch.retrain.get ch = 0 ∧
    (s.retrained ch true).mch.trainedC.get ch = s.cell ∧ (s.retrained ch true).chUp ch = true := by
  obtain ⟨t, kept, count, at_, -, eq⟩ := s.retrained_eq (ok := true) due
  rw [eq, if_neg (by simp)]
  exact ⟨count, at_, (kept.chUp ch).trans (s.chUp_of_retrainDue due)⟩

theorem State.retrained_fails_once {ch : Nat} (due : s.retrainDue ch = true) (first : s.mch.retrain.get ch = 0) :
    (s.retrained ch false).mch.retrain.get ch = 1 ∧
    (s.retrained ch false).num (Reg.mchChRetrainCnt ch) = satAdd 32 (s.num (Reg.mchChRetrainCnt ch)) 1 ∧
    (s.retrained ch false).chUp ch = true := by
  obtain ⟨t, kept, count, -, num, eq⟩ := s.retrained_eq (ok := false) due
  rw [eq, if_neg (by simp [first])]
  refine ⟨count.trans ?_, num, (kept.chUp ch).trans (s.chUp_of_retrainDue due)⟩
  rw [if_neg (by decide), first]

theorem State.retrained_fails_again {ch : Nat} (due : s.retrainDue ch = true) (again : 1 ≤ s.mch.retrain.get ch) :
    (s.retrained ch false).chState ch = 4 := by
  obtain ⟨t, -, -, -, -, eq⟩ := s.retrained_eq (ok := false) due
  rw [eq, if_pos (by rw [if_neg (by decide)]; omega)]
  exact t.loseChannel_shows ch 9 0

/-! ## Status and temperature -/

theorem State.rbRise_reads {ch g l : Nat} (small : l < 4) (runs : (s.die (ch * 16 + g * 4 + l)).run.isSome = true) :
    Out.die (ch * 16 + g * 4 + l) 10 ∈ (s.rbRise ch g).out := by
  have all (ls : List Nat) (t : State) (same : t.mch = s.mch) :
      (l ∈ ls ∨ Out.die (ch * 16 + g * 4 + l) 10 ∈ t.out) → Out.die (ch * 16 + g * 4 + l) 10 ∈ (ls.foldl (fun t l =>
        let lane := ch * 16 + g * 4 + l
        if (t.die lane).run.isSome then t.emit (.die lane 10) else t) t).out := by
    induction ls generalizing t with
    | nil => exact fun h => h.elim (fun mem => absurd mem List.not_mem_nil) id
    | cons k ls ih =>
      intro h
      rw [List.foldl_cons]
      dsimp only
      have read : (t.die (ch * 16 + g * 4 + l)).run.isSome = true := by
        unfold State.die
        rw [same]
        exact runs
      split
      · refine ih _ same ?_
        rcases h with mem | out
        · rcases List.mem_cons.1 mem with rfl | mem
          · exact .inr List.mem_cons_self
          · exact .inl mem
        · exact .inr (List.mem_cons_of_mem _ out)
      · next idle =>
        refine ih _ same (h.imp_left fun mem => (List.mem_cons.1 mem).resolve_left ?_)
        rintro rfl
        exact idle read
  exact all (List.range 4) s rfl (.inl (List.mem_range.2 small))

theorem State.statusPoll_reads {lane : Nat} {r : Bool} {op : DieOp} (runs : (s.die lane).run = some op) (due : op.pollAt ≤ s.now) :
    (s.statusPoll lane r).out = Out.die lane 10 :: s.out ∧
    ((s.statusPoll lane r).die lane).run = some { op with pollAt := s.now + s.timing 13, ready := op.ready || r } := by
  unfold State.statusPoll
  rw [if_pos ((Option.any_eq_true _ _).2 ⟨op, runs, decide_eq_true due⟩)]
  refine ⟨rfl, ?_⟩
  extract_lets polled
  refine (congrArg Die.run (s.die_updDie_same lane _)).trans ?_
  simp only [runs, Option.map_some]
  rfl

theorem State.dieTemp_stores {lane : Nat} {v : Int} (due : s.tempDue lane = true) :
    (s.dieTemp lane v).num (Reg.mchChDieTemp (lane / 16) (lane % 16)) = (v % 256).toNat + 2 ^ 8 ∧
    ((s.dieTemp lane v).die lane).tempAt = some s.frame := by
  have small : (v % 256).toNat < 256 := by omega
  unfold State.dieTemp
  rw [if_neg (not_not_intro due)]
  extract_lets u p since used t w
  have stored : w.num (Reg.mchChDieTemp (lane / 16) (lane % 16)) = (v % 256).toNat + 2 ^ 8 := by
    have put (x : State) (f : Die → Die) (a : Nat) : ((x.updDie lane f).ageDie lane a).reg (Reg.mchChDieTemp (lane / 16) (lane % 16)) =
        x.reg (Reg.mchChDieTemp (lane / 16) (lane % 16)) := rfl
    rw [State.num_eq, put, ← State.num_eq, State.num_setNum_same]
    exact Nat.mod_eq_of_lt (by omega)
  have noted : (w.die lane).tempAt = some s.frame := by
    have aged (x : State) (a : Nat) : ((x.ageDie lane a).die lane).tempAt = (x.die lane).tempAt :=
      (congrArg Die.tempAt (x.die_updDie_same lane _)).trans rfl
    refine (aged _ _).trans ?_
    exact congrArg Die.tempAt (t.die_updDie_same lane _)
  split
  · refine ⟨?_, ?_⟩
    · have page := page_mchChDieTemp (lane / 16) (lane % 16)
      have quiet : logReg (Reg.mchChDieTemp (lane / 16) (lane % 16)) = false := by
        generalize Reg.mchChDieTemp (lane / 16) (lane % 16) = r at page
        simp only [logReg, Bool.or_eq_false_iff, beq_eq_false_iff_ne]
        refine ⟨⟨⟨⟨⟨by omega, ?_⟩, ?_⟩, ?_⟩, ?_⟩, ?_⟩ <;> (rintro rfl; exact absurd page (by decide))
      have apart : Reg.mchEvent ≠ Reg.mchChDieTemp (lane / 16) (lane % 16) := by
        unfold Reg.mchEvent Reg.mchChDieTemp
        omega
      rw [State.num_eq, State.reg_of_raiseLog _ _ _ _ _ _ _ quiet, if_neg apart]
      exact stored
    · exact (congrArg (fun m : Mch => (m.dies.get lane).tempAt) (State.mch_raiseLog ..)).trans noted
  · exact ⟨stored, noted⟩

/-! ## Operations that end -/

theorem State.excursion_keeps (ch : Nat) :
    ((s.inc (Reg.mchChExcursionCnt ch)).countErr .prx Reg.prxExcursionCnt ch).LaneKept (s.excursion ch) := by
  unfold State.excursion
  extract_lets t
  split
  · exact .refl
  · extract_lets list u
    have noted : t.LaneKept u := .of_eq rfl rfl
    refine .ite (noted.trans (.trans (.trans (.trans ?_ (.raiseLog _ (not_laneReg (by decide) (by decide))))
      (.raise _ (not_laneReg (by decide) (by decide)))) (.of_law (State.asyncEvent_without _ _ _ _ _ (List.Subset.refl _)) rfl))) noted
    exact .setBit _ (not_laneReg (by decide) (by decide)) _ _

theorem mchChExcursionCnt_free (ch : Nat) : ¬ laneReg (Reg.mchChExcursionCnt ch) :=
  not_laneReg_of_offset (by unfold Reg.mchChExcursionCnt Reg.prxExcursionCnt; omega) (by unfold Reg.mchChExcursionCnt; omega)
    (by unfold Reg.mchChExcursionCnt; omega)

theorem State.excursion_counts (ch : Nat) : (s.excursion ch).num Reg.prxExcursionCnt = satAdd 32 (s.num Reg.prxExcursionCnt) 1 := by
  have kept : (s.inc (Reg.mchChExcursionCnt ch)).reg Reg.prxExcursionCnt = s.reg Reg.prxExcursionCnt :=
    (State.LaneKept.inc s (mchChExcursionCnt_free ch) 1).regs _ (.inl rfl)
  rw [State.num_eq, (s.excursion_keeps ch).regs _ (.inl rfl), State.reg_of_countErr _ _ _ _ _ _ _ (by decide), if_pos rfl, kept,
    BitVec.toNat_ofNat, Nat.mod_eq_of_lt (satAdd_lt _ _)]
  rfl

/-- An excursion changes no state of a channel and no count of timeouts, and takes back nothing that was put out. -/
theorem State.excursion_leaves (ch : Nat) : (∀ c, (s.excursion ch).reg (Reg.mchChStatus c) = s.reg (Reg.mchChStatus c) ∧
    (s.excursion ch).reg (Reg.mchChTimeoutCnt c) = s.reg (Reg.mchChTimeoutCnt c)) ∧ s.out ⊆ (s.excursion ch).out := by
  have first := State.LaneKept.inc s (mchChExcursionCnt_free ch) 1
  have kept := s.excursion_keeps ch
  have counted (r : Nat) (lane : laneReg r) (ne : Reg.prxExcursionCnt ≠ r) :
      ((s.inc (Reg.mchChExcursionCnt ch)).countErr .prx Reg.prxExcursionCnt ch).reg r = s.reg r := by
    rw [State.reg_of_countErr _ _ _ _ _ _ _ (laneReg_quiet lane), if_neg ne, first.regs r lane]
  refine ⟨fun c => ⟨?_, ?_⟩, ?_⟩
  · have lane : laneReg (Reg.mchChStatus c) := .inr ⟨c, .inl rfl⟩
    exact (kept.regs _ lane).trans (counted _ lane (by unfold Reg.mchChStatus Reg.prxExcursionCnt; omega))
  · have lane : laneReg (Reg.mchChTimeoutCnt c) := .inr ⟨c, .inr rfl⟩
    exact (kept.regs _ lane).trans (counted _ lane (by unfold Reg.mchChTimeoutCnt Reg.prxExcursionCnt; omega))
  · refine List.Subset.trans ?_ kept.out
    rw [out_of_without (State.countErr_without _ _ _ _ _ _ (List.Subset.refl _)) (by simp)]
    exact List.Subset.refl _

theorem State.laneKept_workDone (lane : Nat) (w : Work) (pass : Bool) : s.LaneKept (s.workDone lane w pass) := by
  have dumped (b pass : Bool) : s.LaneKept (s.dumpErased lane b pass) := by
    have put (f : Die → Die) : s.LaneKept (s.updDie lane f) := .of_eq rfl rfl
    exact .ite (((put _).trans (State.laneKept_showReady _)).trans (State.laneKept_showHealth _)) .refl
  have failed : s.LaneKept (s.countErr .wrp Reg.wrpProgFailCnt lane) := .countErr _ (not_laneReg (by decide) (by decide))
  unfold State.workDone
  split
  · exact s.laneKept_readEnds _ _
  · exact s.laneKept_eraseDone _ _ _
  · exact dumped _ _
  · exact .ite .refl (.ite (.of_eq rfl rfl) (.of_law (s.moveNext_without _ _ _ (List.Subset.refl _)) rfl))
  · exact .ite (.of_law (s.journalWritten_without _ (List.Subset.refl _)) rfl) failed
  · exact .ite (.of_law (s.ckptPassed_without _ _ (List.Subset.refl _)) rfl)
      (failed.trans (.of_law (State.ckptPassed_without _ _ _ (List.Subset.refl _)) rfl))
  · exact .ite .refl (s.laneKept_failWork _)

theorem State.dieDone_counts {lane d : Nat} {r : OpResult} {op : DieOp} (runs : (s.die lane).run = some op) :
    (s.dieDone lane d r).num Reg.prxExcursionCnt =
      if op.worst < (d + 1) / 2 then satAdd 32 (s.num Reg.prxExcursionCnt) 1 else s.num Reg.prxExcursionCnt := by
  unfold State.dieDone
  split
  case h_1 none_ => exact absurd (none_.symm.trans runs) (by simp)
  case h_2 op' runs' =>
  obtain rfl := Option.some.inj (runs'.symm.trans runs)
  extract_lets b t u v w
  have counted : u.num Reg.prxExcursionCnt =
      if op'.worst < (d + 1) / 2 then satAdd 32 (s.num Reg.prxExcursionCnt) 1 else s.num Reg.prxExcursionCnt := by
    unfold u
    split
    · exact t.excursion_counts _
    · rfl
  have worked : u.LaneKept v := u.laneKept_workDone _ _ _
  have checks (x : Option Nat) : v.LaneKept (match x with
      | some n => if op'.kind = 1 then v.disturbCheck lane n else v
      | none => v) := by
    cases x with
    | none => exact .refl
    | some n => exact .ite (.of_law (v.disturbCheck_without _ _ (List.Subset.refl _)) rfl) .refl
  have checked : v.LaneKept w := checks b
  have kept := (worked.trans checked).trans (State.laneKept_dieGoesOn _ lane)
  exact (congrArg BitVec.toNat (kept.regs _ (.inl rfl))).trans counted

/-- Losing a die leaves the counts of timeouts, and takes back nothing that was put out. -/
theorem State.loseDie_leaves (lane : Nat) : (∀ c, (s.loseDie lane).reg (Reg.mchChTimeoutCnt c) = s.reg (Reg.mchChTimeoutCnt c)) ∧
    s.out ⊆ (s.loseDie lane).out := by
  have dies (ch : Nat) : ¬ laneReg (Reg.mchChDieLost ch) := not_laneReg_of_offset (by unfold Reg.mchChDieLost Reg.prxExcursionCnt; omega)
    (by unfold Reg.mchChDieLost; omega) (by unfold Reg.mchChDieLost; omega)
  have off : ¬ laneReg Reg.mcrStatus ∧ ¬ laneReg Reg.mcrEvent :=
    ⟨not_laneReg (by decide) (by decide), not_laneReg (by decide) (by decide)⟩
  unfold State.loseDie
  extract_lets ch mcr t u v w
  have marked : s.LaneKept t := by
    refine .trans ?_ (.setBit _ (dies _) _ _)
    exact .of_eq rfl rfl
  have told : t.LaneKept u := .raiseLog _ (not_laneReg_of_high (by decide))
  have shown : u.LaneKept v := .ite .refl (((State.LaneKept.setBit _ off.1 _ _).trans (.raiseLog _ off.2)).trans
    (.of_law (State.criticalEvent_without _ _ _ (List.Subset.refl _)) rfl))
  have cleared : v.LaneKept w := (v.laneKept_clearDie lane).trans (State.laneKept_rescueWaiting _ lane)
  have kept := ((marked.trans told).trans shown).trans cleared
  have leaves {x : State} (timeouts : ∀ c, x.reg (Reg.mchChTimeoutCnt c) = w.reg (Reg.mchChTimeoutCnt c)) (out : w.out ⊆ x.out) :
      (∀ c, x.reg (Reg.mchChTimeoutCnt c) = s.reg (Reg.mchChTimeoutCnt c)) ∧ s.out ⊆ x.out :=
    ⟨fun c => (timeouts c).trans (kept.regs _ (.inr ⟨c, .inr rfl⟩)), List.Subset.trans kept.out out⟩
  split
  · obtain ⟨timeouts, out⟩ := w.loseChannel_leaves ch 8 0
    exact leaves timeouts out
  · have reviewed := State.laneKept_gcReview w
    exact leaves (fun c => reviewed.regs _ (.inr ⟨c, .inr rfl⟩)) reviewed.out

theorem State.dieTimeout_resets {lane : Nat} {op : DieOp} (runs : (s.die lane).run = some op) (up : s.chUp (lane / 16) = true)
    (past : op.start + 2 * op.worst ≤ s.now) : Out.die lane 6 ∈ (s.dieTimeout lane).out ∧
    (s.dieTimeout lane).num (Reg.mchChTimeoutCnt (lane / 16)) = satAdd 32 (s.num (Reg.mchChTimeoutCnt (lane / 16))) 1 := by
  have lane_ : laneReg (Reg.mchChTimeoutCnt (lane / 16)) := .inr ⟨_, .inr rfl⟩
  unfold State.dieTimeout
  split
  case h_1 none_ => exact absurd (none_.symm.trans runs) (by simp)
  case h_2 op' runs' =>
  obtain rfl := Option.some.inj (runs'.symm.trans runs)
  rw [if_neg (by rintro (down | early); exacts [down up, absurd early (Nat.not_lt.2 past)])]
  extract_lets n t u v w
  have counted : Out.die lane 6 ∈ u.out ∧ u.num (Reg.mchChTimeoutCnt (lane / 16)) =
      satAdd 32 (s.num (Reg.mchChTimeoutCnt (lane / 16))) 1 := by
    obtain ⟨regs, out⟩ := t.excursion_leaves (lane / 16)
    refine ⟨out ?_, (congrArg BitVec.toNat (regs (lane / 16)).2).trans ?_⟩
    · unfold t
      rw [out_of_without (State.countErr_without _ _ _ _ _ _ (List.Subset.refl _)) (by simp)]
      exact List.mem_cons_self
    · rw [State.reg_of_countErr _ _ _ _ _ _ _ (laneReg_quiet lane_), if_pos rfl, BitVec.toNat_ofNat, Nat.mod_eq_of_lt (satAdd_lt _ _)]
      rfl
  have keeps {x : State} (out : u.out ⊆ x.out) (reg : x.reg (Reg.mchChTimeoutCnt (lane / 16)) = u.reg (Reg.mchChTimeoutCnt (lane / 16))) :
      Out.die lane 6 ∈ x.out ∧ x.num (Reg.mchChTimeoutCnt (lane / 16)) = satAdd 32 (s.num (Reg.mchChTimeoutCnt (lane / 16))) 1 :=
    ⟨out counted.1, (congrArg BitVec.toNat reg).trans counted.2⟩
  have put (f : Die → Die) : u.LaneKept (u.updDie lane f) := .of_eq rfl rfl
  split
  · obtain ⟨regs, out⟩ := State.loseDie_leaves (u.updDie lane fun d => { d with timeouts := n }) lane
    exact keeps out (regs _)
  · have ended (k : Work) : v.LaneKept (match k with
        | .prog pid => match v.wrp.progs.find? (fun (q : ProgUnit) => q.pid == pid) with
          | some p => v.programFail p
          | none => v
        | .erase b => v.eraseDone lane b false
        | .read j => v.readEnds j false
        | w => v.failWork w) := by
      split
      · split
        · exact v.laneKept_programFail _
        · exact .refl
      · exact v.laneKept_eraseDone _ _ _
      · exact v.laneKept_readEnds _ _
      · exact v.laneKept_failWork _
    have failed : v.LaneKept w := ended op'.work
    have kept : u.LaneKept (w.dieGoesOn lane) := ((put _).trans failed).trans (State.laneKept_dieGoesOn _ lane)
    exact keeps kept.out (kept.regs _ lane_)
end

end Sys2Proof.Machine
end

section
/-! SUPPORT. What the work of the lanes leaves of the programs, their failures and the write window (O9). -/
set_option linter.unusedSimpArgs false
namespace Sys2Proof.Machine

/-- No program's failure is counted, the event of one is not cleared, the units written in a frame stay counted as
they were, and no program unit is made. -/
structure State.ProgKept (s t : State) : Prop where
  fails : t.reg Reg.wrpProgFailCnt = s.reg Reg.wrpProgFailCnt
  event : s.bit Reg.wrpEvent 1 = true → t.bit Reg.wrpEvent 1 = true
  window : t.mcr.window = s.mcr.window
  pids : t.wrp.progs.map ProgUnit.pid ⊆ s.wrp.progs.map ProgUnit.pid

/-- A part that holds neither a register of the write path nor the care of the media. -/
def Part.offProg : Part → Bool
  | .mcr => false
  | .regs page => page != 8
  | _ => true

section
variable {s t u : State}

theorem State.ProgKept.refl : s.ProgKept s := ⟨rfl, id, rfl, List.Subset.refl _⟩

theorem State.ProgKept.trans (h : s.ProgKept t) (k : t.ProgKept u) : s.ProgKept u :=
  ⟨k.fails.trans h.fails, k.event ∘ h.event, k.window.trans h.window, List.Subset.trans k.pids h.pids⟩

theorem State.ProgKept.ite {p : Prop} [Decidable p] (h : s.ProgKept t) (k : s.ProgKept u) : s.ProgKept (if p then t else u) := by
  split
  · exact h
  · exact k

theorem State.ProgKept.of_regs (regs : t.regs = s.regs) (window : t.mcr.window = s.mcr.window)
    (pids : t.wrp.progs.map ProgUnit.pid ⊆ s.wrp.progs.map ProgUnit.pid) : s.ProgKept t :=
  have reg (r : Nat) : t.reg r = s.reg r := congrArg (Tab.get · r) regs
  ⟨reg _, (State.bit_of_reg (reg _) 1).trans, window, pids⟩

theorem State.ProgKept.of_eq (regs : t.regs = s.regs) (window : t.mcr.window = s.mcr.window) (progs : t.wrp.progs = s.wrp.progs) :
    s.ProgKept t := .of_regs regs window (progs ▸ List.Subset.refl _)

theorem State.ProgKept.of_law_pids {W : List Part} (law : t.without W = s.without W) (off : W.all Part.offProg = true)
    (pids : t.wrp.progs.map ProgUnit.pid ⊆ s.wrp.progs.map ProgUnit.pid) : s.ProgKept t := by
  have apart (p : Part) (mem : p ∈ W) : p.offProg = true := List.all_eq_true.1 off p mem
  have reg {r : Nat} (page : r / 0x100000 = 8) : t.reg r = s.reg r :=
    reg_of_without law fun mem => by have := apart _ mem; simp [Part.offProg, page] at this
  refine ⟨reg (by decide), (State.bit_of_reg (reg (by decide)) 1).trans, ?_, pids⟩
  rw [mcr_of_without law fun mem => absurd (apart _ mem) (by decide)]

theorem State.ProgKept.of_law {W : List Part} (law : t.without W = s.without W)
    (off : W.all (fun p => p.offProg && decide (p ≠ .wrp)) = true) : s.ProgKept t := by
  have apart (p : Part) (mem : p ∈ W) := List.all_eq_true.1 off p mem
  refine .of_law_pids law (List.all_eq_true.2 fun p mem => (Bool.and_eq_true_iff.1 (apart p mem)).1) ?_
  rw [wrp_of_without law fun mem => absurd (apart _ mem) (by decide)]
  exact List.Subset.refl _

theorem State.progKept_foldl {α : Type} {f : State → α → State} (each : ∀ (s : State) a, s.ProgKept (f s a)) (l : List α)
    (s : State) : s.ProgKept (l.foldl f s) := by
  induction l generalizing s with
  | nil => exact .refl
  | cons a l ih => exact (each s a).trans (ih (f s a))

theorem State.ProgKept.setReg (s : State) {off : Nat} (fail : off ≠ Reg.wrpProgFailCnt) (event : off ≠ Reg.wrpEvent) (v : Word) :
    s.ProgKept (s.setReg off v) :=
  have reg {r : Nat} (other : off ≠ r) : (s.setReg off v).reg r = s.reg r := by rw [State.reg_of_setReg, if_neg other]
  ⟨reg fail, (State.bit_of_reg (reg event) 1).trans, rfl, List.Subset.refl _⟩

theorem State.ProgKept.setNum (s : State) {off : Nat} (fail : off ≠ Reg.wrpProgFailCnt) (event : off ≠ Reg.wrpEvent) (v : Nat) :
    s.ProgKept (s.setNum off v) := .setReg s fail event _
theorem State.ProgKept.setBit (s : State) {off : Nat} (fail : off ≠ Reg.wrpProgFailCnt) (event : off ≠ Reg.wrpEvent) (i : Nat) (b : Bool) :
    s.ProgKept (s.setBit off i b) := .setReg s fail event _
theorem State.ProgKept.inc (s : State) {off : Nat} (fail : off ≠ Reg.wrpProgFailCnt) (event : off ≠ Reg.wrpEvent) (n : Nat) :
    s.ProgKept (s.inc off n) := .setReg s fail event _
end

/-! ## Staging -/

section
variable (s : State)

theorem State.progKept_showStaging : s.ProgKept s.showStaging :=
  (State.ProgKept.setNum _ (by decide) (by decide) _).trans (.setNum _ (by decide) (by decide) _)

theorem State.progKept_freeWrites (p : SWrite → Bool) : s.ProgKept (s.freeWrites p) := by
  refine .trans ?_ (State.progKept_showStaging _)
  exact .of_eq rfl rfl rfl

theorem State.progKept_release : s.ProgKept s.release := s.progKept_freeWrites _

theorem State.progKept_letGo (c : CmdId) (r : RUnit) : s.ProgKept (s.letGo c r) := by
  unfold State.letGo
  split
  · refine .trans ?_ (State.progKept_release _)
    exact .of_eq rfl rfl rfl
  · exact .refl

theorem State.progKept_addWrite (w : SWrite) : s.ProgKept (s.addWrite w) := by
  refine .trans ?_ (State.progKept_showStaging _)
  exact .of_eq rfl rfl rfl

theorem State.progKept_beginFill (x : Cmd) : s.ProgKept (s.beginFill x) := by
  unfold State.beginFill
  extract_lets n parts w wid k t m
  have added : s.ProgKept t := by
    refine .trans (s.progKept_addWrite w) ?_
    exact .of_eq rfl rfl rfl
  have noted (k : Mcr) (same : k.window = t.mcr.window) : t.ProgKept { t with mcr := k } := .of_eq rfl same rfl
  exact .ite (.ite (added.trans (noted _ rfl)) (added.trans (noted _ rfl))) added

theorem State.progKept_raise (ev i : Nat) (fail : ev ≠ Reg.wrpProgFailCnt) (small : i < 32) : s.ProgKept (s.raise ev i) := by
  refine ⟨?_, fun set => ?_, by rw [State.mcr_raise], ?_⟩
  · rw [State.reg_of_raise _ _ _ _ (by decide), if_neg fail]
  · by_cases same : ev = Reg.wrpEvent
    · subst same
      rw [State.bit_raise_same _ _ _ _ (by decide) small, set, ite_self]
    · rwa [State.bit_raise_ne _ _ _ _ _ (by decide) same]
  · rw [State.wrp_raise]
    exact List.Subset.refl _

theorem State.progKept_tryFill (x : Cmd) : s.ProgKept (s.tryFill x) := by
  have noted (t : State) (f : Cmd → Cmd) : t.ProgKept (t.updCmd x.id f) := .of_eq rfl rfl rfl
  unfold State.tryFill
  refine .ite ?_ (.ite (noted _ _) (.ite ?_ (s.progKept_beginFill x)))
  · extract_lets t u
    have waited : s.ProgKept t := .ite .refl (.inc _ (by decide) (by decide) _)
    have held : t.ProgKept u := noted t _
    have told : u.ProgKept (u.when (!u.bit Reg.wrpStatus 1) (·.raise Reg.wrpEvent 2)) :=
      .ite (u.progKept_raise _ _ (by decide) (by decide)) .refl
    exact ((waited.trans held).trans told).trans (.setBit _ (by decide) (by decide) _ _)
  · exact .trans (.ite .refl (.inc _ (by decide) (by decide) _)) (noted _ _)

theorem State.progKept_copySettle : s.ProgKept s.copySettle := by
  refine State.progKept_foldl (fun t x => .trans ?_ (State.progKept_tryFill _ _)) _ s
  exact .of_eq rfl rfl rfl

theorem State.progKept_cipherStage (c : CmdId) (units : Nat) : s.ProgKept (s.cipherStage c units) := by
  unfold State.cipherStage
  split
  · exact .refl
  · next x _ =>
    extract_lets us t n done u
    have put (v : State) (o : Out) : v.ProgKept (v.emit o) := .of_eq rfl rfl rfl
    have plain : s.ProgKept t := by
      refine .trans (.inc _ (by decide) (by decide) _) (State.progKept_foldl (fun v r => ?_) us _)
      have phase (p : UPhase) : v.ProgKept (v.setPhase c r.unit p) := .of_eq rfl rfl rfl
      exact ((phase _).trans (put _ _)).trans (State.progKept_letGo _ _ _)
    have coded : t.ProgKept u := .trans (.inc _ (by decide) (by decide) n) (State.progKept_foldl (fun v w => put v _) _ _)
    have noted (f : Cmd → Cmd) : u.ProgKept (u.updCmd c f) := .of_eq rfl rfl rfl
    exact (((plain.trans coded).trans (noted _)).trans (.of_law (State.readSettle_without _ _ (List.Subset.refl _)) rfl)).trans
      (State.progKept_copySettle _)

/-! ## Decoding, and pages sent over the bus -/

theorem State.progKept_setLeg (j : DecodeJob) (f : Leg → Leg) : s.ProgKept (s.setLeg j f) := by
  cases j with
  | unit c u m => exact .of_eq rfl rfl rfl
  | served tag => exact .of_eq rfl rfl rfl
  | merge wid u => exact .of_eq rfl rfl rfl
  | sample lane n => exact .refl

theorem State.progKept_busEnds (j : DecodeJob) : s.ProgKept (s.busEnds j) := by
  unfold State.busEnds
  split
  · exact .refl
  · refine .ite .refl (.ite ?_ (s.progKept_setLeg _ _))
    extract_lets t
    have noted : s.ProgKept t := s.progKept_setLeg _ _
    split
    · exact noted.trans (.of_law (State.admitRead_without _ _ _ (List.Subset.refl _)) rfl)
    · exact noted

theorem State.progKept_moveLegs (n : Nat) (p : Leg → Bool) (js : List (DecodeJob × Leg)) {f : State → DecodeJob → State}
    (each : ∀ (t : State) j, t.ProgKept (f t j)) : s.ProgKept (s.moveLegs n p js f) :=
  State.progKept_foldl (fun t (q : DecodeJob × Leg) => each t q.1) _ s

/-- The pages of a program sent keep the program's identifier. -/
theorem sendStep_pids (l : List ProgUnit) (step : List ProgUnit × Nat → ProgUnit → List ProgUnit × Nat)
    (appends : ∀ acc q, (step acc q).1.map ProgUnit.pid = acc.1.map ProgUnit.pid ++ [q.pid]) (acc : List ProgUnit × Nat) :
    (l.foldl step acc).1.map ProgUnit.pid = acc.1.map ProgUnit.pid ++ l.map ProgUnit.pid := by
  induction l generalizing acc with
  | nil => simp
  | cons q l ih => rw [List.foldl_cons, ih, appends, List.map_cons, List.append_assoc, List.singleton_append]

theorem State.progKept_sendProgs (n : Nat) (p : ProgUnit → Bool) : s.ProgKept (s.sendProgs n p) := by
  unfold State.sendProgs
  extract_lets step
  refine .of_regs rfl rfl ?_
  rw [sendStep_pids s.wrp.progs step fun acc q => ?_]
  · exact List.Subset.refl _
  · unfold step
    split <;> simp

theorem State.progKept_busOthers (y : SlotAt) (lent : Bool) (n : Nat) : s.ProgKept (s.busOthers y lent n) := by
  have moved (n : Nat) (p : Leg → Bool) (js : List (DecodeJob × Leg)) : s.ProgKept (s.moveLegs n p js State.busEnds) :=
    s.progKept_moveLegs n p js State.progKept_busEnds
  unfold State.busOthers
  extract_lets free waits mine t u
  have sent : s.ProgKept u := s.progKept_sendProgs ..
  exact .ite (moved ..) (.ite (.ite ((moved ..).trans (State.progKept_sendProgs ..)) (moved ..))
    (.ite (.ite (sent.trans (State.progKept_sendProgs ..)) sent) (.ite ((moved ..).trans (State.progKept_sendProgs ..)) .refl)))

theorem State.progKept_beginDecode (j : DecodeJob) : s.ProgKept (s.beginDecode j) := s.progKept_setLeg _ _

theorem State.progKept_decodeOthers (lane : Nat) (y : SlotAt) (lent : Bool) (n : Nat) : s.ProgKept (s.decodeOthers lane y lent n) := by
  have moved (p : Leg → Bool) (js : List (DecodeJob × Leg)) : s.ProgKept (s.moveLegs n p js State.beginDecode) :=
    s.progKept_moveLegs n p js State.progKept_beginDecode
  exact .ite (moved ..) (.ite (moved ..) .refl)

/-! ## Operations on the dies -/

theorem State.progKept_startDie (lane kind : Nat) (w : Work) (slotEnd : Nat) : s.ProgKept (s.startDie lane kind w slotEnd) :=
  .of_law (s.startDie_without _ _ _ _ (List.Subset.refl _)) rfl

theorem State.progKept_startErase (lane slotEnd : Nat) (dump : Bool) : s.ProgKept (s.startErase lane slotEnd dump) :=
  .of_law (s.startErase_without _ _ _ (List.Subset.refl _)) rfl

theorem State.progKept_resumeDie (lane : Nat) : s.ProgKept (s.resumeDie lane) := .of_law (s.resumeDie_without _ (List.Subset.refl _)) rfl

theorem State.progKept_startLeg (j : DecodeJob) (slotEnd : Nat) : s.ProgKept (s.startLeg j slotEnd) := by
  unfold State.startLeg
  split
  · exact .refl
  · next g _ =>
    extract_lets t u
    have counted : t.ProgKept u := by
      unfold u
      split
      · exact .ite (.inc _ (by decide) (by decide) _) .refl
      · exact .refl
    have read : s.ProgKept t := .of_law (s.startRead_without _ _ _ _ _ (List.Subset.refl _)) rfl
    exact (read.trans counted).trans (State.progKept_setLeg ..)

theorem State.progKept_startCkpt (lane slotEnd : Nat) : s.ProgKept (s.startCkpt lane slotEnd) := by
  unfold State.startCkpt
  split
  · next k _ =>
    have noted (f : Ckpt → Ckpt) : s.ProgKept (s.updCkpt k.seg f) := .of_eq rfl rfl rfl
    exact ((noted _).trans (State.progKept_startDie ..)).trans (.inc _ (by decide) (by decide) _)
  · exact .refl

theorem State.progKept_startJournal (lane slotEnd : Nat) : s.ProgKept (s.startJournal lane slotEnd) := by
  have put (o : Out) : s.ProgKept (s.emit o) := .of_eq rfl rfl rfl
  exact ((put _).trans (State.progKept_startDie ..)).trans (.inc _ (by decide) (by decide) _)

theorem State.progKept_startProgram (p : ProgUnit) (slotEnd : Nat) : s.ProgKept (s.startProgram p slotEnd) := by
  have opened : s.ProgKept (s.openPage p.lane p.moved).1 := .of_law (s.openPage_without _ _ (List.Subset.refl _)) rfl
  unfold State.startProgram
  split
  · exact .refl
  · next t b page e =>
    rw [e] at opened
    extract_lets bits wrp u
    have begun : t.ProgKept u := by
      have same : u.wrp.progs.map ProgUnit.pid = t.wrp.progs.map ProgUnit.pid := by
        unfold u wrp
        rw [List.map_map]
        refine List.map_congr_left fun q _ => ?_
        dsimp only [Function.comp]
        split <;> rfl
      exact .of_regs rfl rfl (same ▸ List.Subset.refl _)
    exact (((opened.trans begun).trans (.of_law (State.advancePage_without _ _ _ _ _ _ (List.Subset.refl _)) rfl)).trans
      (State.progKept_startDie ..)).trans (.inc _ (by decide) (by decide) _)

theorem State.progKept_retireNow (lane block : Nat) : s.ProgKept (s.retireNow lane block) := by
  unfold State.retireNow
  extract_lets t
  have shown : s.ProgKept t := by
    unfold t
    refine .trans ?_ (.inc _ (by decide) (by decide) _)
    refine .trans ?_ (.of_law (State.raiseLog_without _ _ _ _ _ _ (List.Subset.refl _)) (by decide))
    exact .of_eq rfl rfl rfl
  have reviewed (u : State) : u.ProgKept (u.spareReview lane) := .of_law (u.spareReview_without lane (List.Subset.refl _)) rfl
  have due : t.ProgKept { t with mcr := { t.mcr with eolDue := true } } := by
    generalize t = x
    exact .of_eq rfl rfl rfl
  exact (shown.trans due).trans (reviewed _)

theorem State.progKept_retireReady (lane : Nat) : s.ProgKept (s.retireReady lane) := by
  have each (t : State) (b : Blk) : t.ProgKept (t.retireNow lane b.num) := t.progKept_retireNow lane b.num
  exact State.progKept_foldl each _ s

theorem State.progKept_retireBlock (lane block : Nat) : s.ProgKept (s.retireBlock lane block) := by
  unfold State.retireBlock
  extract_lets t
  have closed : s.ProgKept t := .of_eq rfl rfl rfl
  exact .ite (closed.trans (State.progKept_retireNow _ _ _)) closed

theorem State.progKept_startCare (lane slotEnd endTick : Nat) : s.ProgKept (s.startCare lane slotEnd endTick) := by
  unfold State.startCare
  extract_lets u
  have ready : s.ProgKept u := .trans (.of_law (s.scrubRoll_without lane (List.Subset.refl _)) rfl) (State.progKept_retireReady _ _)
  split
  · next rank block _ =>
    extract_lets n loc v w long
    have read : u.ProgKept v := .trans (.trans (.of_law (u.claim_without _ _ _ (List.Subset.refl _)) rfl)
      (.of_law (State.startRead_without _ _ _ _ _ _ (List.Subset.refl _)) rfl)) (.inc _ (by decide) (by decide) _)
    have touched (x : State) (f : Blk → Blk) : x.ProgKept (x.updBlock lane block f) := .of_eq rfl rfl rfl
    have noted (x : State) (f : Die → Die) : x.ProgKept (x.updDie lane f) := .of_eq rfl rfl rfl
    exact .ite (((ready.trans read).trans (touched v _)).trans (noted w _)) ready
  · exact ready

theorem State.progKept_startUrgent (lane : Nat) : s.ProgKept (s.startUrgent lane) := by
  unfold State.startUrgent
  refine .ite .refl ?_
  split
  · refine .trans ?_ (State.progKept_startLeg _ _ _)
    exact .of_eq rfl rfl rfl
  · exact .of_eq rfl rfl rfl
  · exact .ite (s.progKept_resumeDie lane) .refl

theorem State.progKept_parkLane (lane : Nat) : s.ProgKept (s.parkLane lane) := by
  unfold State.parkLane
  refine .ite .refl ?_
  split
  · exact s.progKept_startLeg _ _
  · split
    · exact s.progKept_startProgram _ _
    · exact .ite (s.progKept_startJournal _ _) (.ite (s.progKept_startCkpt _ _) (.ite (s.progKept_startErase _ _ _)
        (.ite (s.progKept_startErase _ _ _) (s.progKept_startCare _ _ _))))

theorem State.progKept_parkWork : s.ProgKept s.parkWork :=
  .ite .refl (State.progKept_foldl (fun t l => t.progKept_parkLane l) _ s)
/-! ## Slots -/

theorem State.progKept_readmit (cause : Nat) (a : Adm) : s.ProgKept (s.readmit cause a) :=
  .of_law (s.readmit_without _ _ (List.Subset.refl _)) rfl

theorem State.progKept_countServe (lane : Nat) : s.ProgKept (s.countServe lane) :=
  .of_law (s.countServe_without _ (List.Subset.refl _)) rfl

theorem State.progKept_slotProgram (lane : Nat) (y : SlotAt) (lent : Bool) : s.ProgKept (s.slotProgram lane y lent) := by
  unfold State.slotProgram
  refine .ite .refl ?_
  extract_lets prx t pages write
  have counted : s.ProgKept t := .of_eq rfl rfl rfl
  have wrote : t.ProgKept (write t) := .ite (t.progKept_startJournal _ _) (t.progKept_startCkpt _ _)
  refine .ite (counted.trans wrote) ?_
  split
  · split
    · have noted (k : Nat) : t.ProgKept (t.served lane k) := .of_eq rfl rfl rfl
      exact (counted.trans (noted _)).trans (State.progKept_startProgram _ _ _)
    · exact counted.trans (State.progKept_startProgram _ _ _)
  · exact .ite (counted.trans wrote) .refl

theorem State.progKept_startAdm (a : Adm) (y : SlotAt) : s.ProgKept (s.startAdm a y) := by
  have ended : s.ProgKept (s.endAdm a) := .of_eq rfl rfl rfl
  unfold State.startAdm
  split
  · exact .ite ((ended.trans (State.progKept_countServe _ _)).trans (State.progKept_startLeg _ _ _)) (s.progKept_readmit ..)
  · split
    · have counted (t : State) (k : Prx) : t.ProgKept { t with prx := k } := .of_eq rfl rfl rfl
      exact .ite ((ended.trans (counted _ _)).trans (State.progKept_startProgram _ _ _)) (s.progKept_readmit ..)
    · exact ended
  · exact ended

theorem State.progKept_slotServe (lane : Nat) (y : SlotAt) (lent : Bool) : s.ProgKept (s.slotServe lane y lent) := by
  unfold State.slotServe
  refine .ite ?_ .refl
  split
  · exact (s.progKept_countServe lane).trans (State.progKept_startLeg _ _ _)
  · exact .refl

theorem State.progKept_slotMerge (lane : Nat) (y : SlotAt) (lent : Bool) : s.ProgKept (s.slotMerge lane y lent) := by
  unfold State.slotMerge
  extract_lets free care
  refine .ite ?_ .refl
  split
  · exact (s.progKept_countServe lane).trans (State.progKept_startLeg _ _ _)
  · exact .refl

theorem State.progKept_startNext (lane : Nat) : s.ProgKept (s.startNext lane) := by
  have first {t : State} (h : s.ProgKept t) {f : State → State} (each : ∀ u : State, u.ProgKept (f u)) : s.ProgKept (t.orElseStart lane f) :=
    .ite (h.trans (each t)) h
  unfold State.startNext
  split
  · exact .refl
  · next y _ =>
    refine .ite .refl ?_
    extract_lets t lent
    have begun : s.ProgKept t := State.progKept_foldl (fun t a => .ite (t.progKept_startAdm a y) .refl) _ s
    refine first (first (first (first (first begun fun u => ?_) fun u => u.progKept_slotServe ..) fun u => u.progKept_slotMerge ..)
      fun u => ?_) fun u => .ite (u.progKept_startErase ..) .refl
    · exact .ite (u.progKept_slotProgram ..) (.ite (.ite (u.progKept_startErase ..) .refl) (.ite (.ite (u.progKept_startErase ..) .refl) .refl))
    · exact .ite (u.progKept_startCare ..) .refl

theorem State.progKept_beginStage (a : Adm) : s.ProgKept (s.beginStage a) := by
  have ended : s.ProgKept (s.endAdm a) := .of_eq rfl rfl rfl
  have begun : s.ProgKept (s.beginAdm a) := .of_eq rfl rfl rfl
  have moved (t : State) (n : Nat) (p : Leg → Bool) (js : List (DecodeJob × Leg)) {f : State → DecodeJob → State}
      (each : ∀ (t : State) j, t.ProgKept (f t j)) : t.ProgKept (t.moveLegs n p js f) := t.progKept_moveLegs n p js each
  unfold State.beginStage
  split
  · exact ended
  · next x _ =>
    have waits : s.ProgKept ((if s.dmaOk x.id.fn = true then s.awaitXlat x else s).readmit 7 a) :=
      .trans (.ite (.of_law (s.awaitXlat_without x (List.Subset.refl _)) rfl) .refl) (State.progKept_readmit ..)
    extract_lets soft
    split
    · exact ended.trans (State.progKept_cipherStage ..)
    · exact .ite (s.progKept_readmit ..) (.ite (ended.trans (.of_law (State.deliverStage_without _ _ _ (List.Subset.refl _)) rfl)) waits)
    · exact .ite (begun.trans (.of_law (State.fetchStage_without _ _ _ (List.Subset.refl _)) rfl)) waits
    · exact ended.trans (moved _ _ _ _ State.progKept_busEnds)
    · exact ended.trans (State.progKept_sendProgs _ _ _)
    · exact begun.trans (moved _ _ _ _ State.progKept_beginDecode)
    · exact begun
    · exact .refl
    · exact .refl

theorem State.progKept_laneOthers (lane : Nat) (y : SlotAt) (lent : Bool) (n : Nat) : s.ProgKept (s.laneOthers lane y lent n) := by
  have served (t : State) (deliver : Bool) : t.ProgKept (t.serveIntern deliver n) :=
    .of_law (t.serveIntern_without _ _ (List.Subset.refl _)) rfl
  unfold State.laneOthers
  split
  · exact s.progKept_busOthers ..
  · exact s.progKept_decodeOthers ..
  · exact s.progKept_decodeOthers ..
  · refine .ite ?_ .refl
    dsimp only
    have seen : s.ProgKept (s.visits n y) := State.progKept_foldl (fun t f => .of_law (t.visit_without f (List.Subset.refl _)) rfl) _ s
    exact .ite (seen.trans (served _ _)) seen
  · exact .ite (served s _) .refl
  · exact .of_law (s.openMirror_without _ _ _ (List.Subset.refl _)) rfl
  · exact .refl

theorem State.progKept_beginSlot (lane : Nat) (y : SlotAt) : s.ProgKept (s.beginSlot lane y) := by
  unfold State.beginSlot
  extract_lets mine owned be serves progs prx t room lent noCap chosen turned t₁ t₂ t₃ prx₄ t₄ reads held gated resumed left n
  have e : s.ProgKept t := .ite (.of_eq rfl rfl rfl) .refl
  have e₁ : t.ProgKept t₁ := .ite (.inc _ (by decide) (by decide) _) .refl
  have shared (u : State) (a : Adm) : u.ProgKept (u.served lane (u.participant a)) := .of_eq rfl rfl rfl
  have e₂ : t₁.ProgKept t₂ := by
    refine .ite ?_ .refl
    split
    · exact shared t₁ _
    · exact .refl
  have e₃ : t₂.ProgKept t₃ := State.progKept_foldl (fun u a => u.progKept_readmit 0 a) turned t₂
  have noted (u : State) (k : Prx) : u.ProgKept { u with prx := k } := .of_eq rfl rfl rfl
  have put (u : State) (f : Die → Die) : u.ProgKept (u.updDie lane f) := .of_eq rfl rfl rfl
  have begun : s.ProgKept t₄ := (((e.trans e₁).trans e₂).trans e₃).trans (noted t₃ _)
  have e₅ : t₄.ProgKept held := .ite (.of_law (t₄.suspendDie_without _ (List.Subset.refl _)) rfl) .refl
  have e₆ : t₄.ProgKept gated :=
    .ite (e₅.trans (.ite (State.progKept_foldl (fun u a => u.progKept_readmit 2 a) reads held) (put held _))) .refl
  have e₇ : gated.ProgKept resumed := .ite (State.progKept_resumeDie _ _) .refl
  exact .ite (((begun.trans e₆).trans e₇).trans (State.progKept_startNext _ _))
    ((begun.trans (State.progKept_foldl (fun u a => u.progKept_beginStage a) _ _)).trans (State.progKept_laneOthers _ _ _ _ _))

theorem State.progKept_beginLate (lane : Nat) : s.ProgKept (s.beginLate lane) := by
  unfold State.beginLate
  split
  · refine .ite .refl (.trans ?_ (State.progKept_beginSlot _ _ _))
    exact .of_eq rfl rfl rfl
  · exact .refl

theorem State.progKept_dieGoesOn (lane : Nat) : s.ProgKept (s.dieGoesOn lane) :=
  (((s.progKept_startUrgent lane).trans (State.progKept_beginLate _ lane)).trans (State.progKept_startNext _ lane)).trans
    (State.progKept_parkLane _ lane)

/-! ## What a program's end brings about -/

theorem State.progKept_gcReview : s.ProgKept s.gcReview := by
  unfold State.gcReview
  extract_lets debt st t entered left mcr u v
  have counted : s.ProgKept t := .setNum _ (by decide) (by decide) _
  have noted : t.ProgKept u := by
    unfold u mcr
    generalize ((t.mcr.entered || decide entered) && !decide left) = inside, ((t.mcr.left || decide left) && !decide entered) = outside
    exact .of_eq rfl rfl rfl
  have shown : s.ProgKept v := (counted.trans noted).trans
    ((State.ProgKept.setBit _ (by decide) (by decide) _ _).trans (.setBit _ (by decide) (by decide) _ _))
  refine .ite (shown.trans (.trans (.trans ?_ (State.progKept_raise _ _ _ (by decide) (by decide)))
    (.of_law (State.asyncEvent_without _ _ _ _ _ (List.Subset.refl _)) rfl))) shown
  exact .of_law (State.raiseLog_without _ _ _ _ _ _ (List.Subset.refl _)) (by decide)

theorem State.progKept_noteWithheld : s.ProgKept s.noteWithheld := by
  unfold State.noteWithheld
  refine .ite .refl ?_
  extract_lets held cs t u
  have counted : s.ProgKept t := .inc _ (by decide) (by decide) _
  have marked : t.ProgKept u := State.progKept_foldl (fun s w => by exact .of_eq rfl rfl rfl) _ _
  refine (counted.trans marked).trans (State.progKept_foldl (fun s w => ?_) _ _)
  split
  · exact .of_eq rfl rfl rfl
  · exact .refl

theorem State.progKept_settle : s.ProgKept s.settle := by
  unfold State.settle
  extract_lets t ready late u v acks w wrp x done
  have noted : s.ProgKept s.showMacked := .of_eq rfl rfl rfl
  have shown : s.ProgKept t := (noted.trans (.of_law (State.noteHeld_without _ (List.Subset.refl _)) rfl)).trans (State.progKept_noteWithheld _)
  have counted : t.ProgKept u := .inc _ (by decide) (by decide) _
  have acked : u.ProgKept v := State.progKept_foldl (fun s w => by exact .of_eq rfl rfl rfl) _ _
  have told : v.ProgKept w := State.progKept_foldl (fun s w => by
    dsimp only
    split
    · refine .trans ?_ (.of_law (State.send_without _ _ (List.Subset.refl _)) rfl)
      exact .of_eq rfl rfl rfl
    · exact .of_eq rfl rfl rfl) _ _
  have verified : w.ProgKept x := .of_eq rfl rfl rfl
  have ended : x.ProgKept (done.foldl (fun t c => t.finish c 0) x) := State.progKept_foldl (fun s c => by exact .of_eq rfl rfl rfl) _ _
  exact (((((shown.trans counted).trans acked).trans told).trans verified).trans ended).trans (State.progKept_release _)

theorem State.progKept_showJournal : s.ProgKept s.showJournal :=
  .trans (.ite (s.progKept_raise _ _ (by decide) (by decide)) .refl) (.setBit _ (by decide) (by decide) _ _)

theorem State.progKept_setEntry (nsid iu entry : Nat) : s.ProgKept (s.setEntry nsid iu entry) := by
  unfold State.setEntry
  extract_lets t
  have listed : s.ProgKept t := by
    refine .trans ?_ (State.progKept_showJournal _)
    exact .of_eq rfl rfl rfl
  have put (k : MapTab) : t.ProgKept { t with wrp := { t.wrp with map := k } } := .of_eq rfl rfl rfl
  have touched (u : State) : u.ProgKept (u.touchSegment (segmentOf nsid iu)) := .ite .refl (.of_eq rfl rfl rfl)
  exact (listed.trans (put _)).trans (touched _)

theorem State.progKept_mapVerified (w : SWrite) (unit loc : Nat) : s.ProgKept (s.mapVerified w unit loc) := by
  have valid (t : State) (l : Nat) (k : Int) : t.ProgKept (t.addValid l k) := .of_eq rfl rfl rfl
  unfold State.mapVerified
  extract_lets n iu e marks t
  have left : s.ProgKept t := .ite (valid _ _ _) .refl
  exact .ite .refl (.ite .refl (.ite .refl ((left.trans (State.progKept_setEntry ..)).trans (valid _ _ _))))
end

end Sys2Proof.Machine
end

section
/-! SUPPORT. Programs end, and media channels and dies go as their rules say (O9). -/
set_option linter.unusedSimpArgs false
namespace Sys2Proof.Machine

section
variable (s : State)

/-- What follows the end of a program on a die makes no program unit and counts no failure. -/
theorem State.progKept_programTail (lane : Nat) : s.ProgKept ((s.retireReady lane).gcReview.dieGoesOn lane).parkWork :=
  (((s.progKept_retireReady lane).trans (State.progKept_gcReview _)).trans (State.progKept_dieGoesOn _ lane)).trans (State.progKept_parkWork _)

/-- The die of a lane is freed: the write path, the window, the frame, and whether the die may be used are as they were. -/
structure State.DieFreed (lane : Nat) (s t : State) : Prop where
  wrp : t.wrp = s.wrp
  mcr : t.mcr = s.mcr
  frame : t.frame = s.frame
  units : t.progUnits = s.progUnits
  fails : t.reg Reg.wrpProgFailCnt = s.reg Reg.wrpProgFailCnt
  usable : t.dieUsable lane = s.dieUsable lane

theorem State.dieFreed_refl (lane : Nat) : s.DieFreed lane s := ⟨rfl, rfl, rfl, rfl, rfl, rfl⟩

theorem State.dieFreed_updDie (lane : Nat) : s.DieFreed lane (s.updDie lane fun d => { d with run := none, timeouts := 0 }) := by
  refine ⟨rfl, rfl, rfl, rfl, rfl, ?_⟩
  unfold State.dieUsable
  rw [State.die_updDie_same]
  rfl

theorem State.dieFreed_excursion (lane : Nat) : s.DieFreed lane (s.excursion (lane / 16)) := by
  have law := s.excursion_without (lane / 16) (List.Subset.refl _)
  have mch := mch_of_without law (by simp)
  have up : (s.excursion (lane / 16)).chUp (lane / 16) = s.chUp (lane / 16) :=
    congrArg (fun r => wordField r 0 3 == 2) ((s.excursion_leaves (lane / 16)).1 (lane / 16)).1
  refine ⟨wrp_of_without law (by simp), mcr_of_without law (by simp), congrArg BitVec.toNat (frame_of_without law (by simp)), ?_,
    reg_of_without law (by decide), ?_⟩
  · unfold State.progUnits
    rw [mch]
  · unfold State.dieUsable State.die
    rw [up, mch]

theorem State.programDone_eq {lane : Nat} {p : ProgUnit} (r : OpResult)
    (found : s.wrp.progs.find? (fun p => p.lane == lane && p.started) = some p) : ∃ t : State, s.DieFreed lane t ∧
    s.programDone lane r = (((if r = .pass then t.programPass p
      else if t.dieUsable lane then t.programFail p else t.programParked p.pid).retireReady lane).gcReview.dieGoesOn lane).parkWork := by
  unfold State.programDone
  split
  case h_1 none_ => exact absurd (none_.symm.trans found) (by simp)
  case h_2 q found' =>
  obtain rfl := Option.some.inj (found'.symm.trans found)
  extract_lets op t u
  have freed : s.DieFreed lane t := by
    unfold t
    split
    · exact s.dieFreed_updDie lane
    · exact s.dieFreed_refl lane
  refine ⟨u, ?_, rfl⟩
  unfold u
  split
  · obtain ⟨wrp, mcr, frame, units, fails, usable⟩ := t.dieFreed_excursion lane
    exact ⟨wrp.trans freed.wrp, mcr.trans freed.mcr, frame.trans freed.frame, units.trans freed.units, fails.trans freed.fails,
      usable.trans freed.usable⟩
  · exact freed

theorem State.noteWa_window {t : State} (window : t.mcr.window = s.mcr.window) (frame : t.frame = s.frame) (prog staged : Nat) :
    (t.noteWa prog staged).mcr.window = (s.noteWa prog staged).mcr.window := by
  unfold State.noteWa
  dsimp only
  rw [window, frame]

theorem State.dropProg_pids (pid : Nat) : pid ∉ (s.dropProg pid).wrp.progs.map ProgUnit.pid := by
  intro mem
  obtain ⟨q, among, rfl⟩ := List.mem_map.1 mem
  exact absurd (List.mem_filter.1 among).2 (by simp)

theorem State.programPass_counts (p : ProgUnit) : (s.programPass p).mcr.window = (s.noteWa s.progUnits 0).mcr.window ∧
    p.pid ∉ (s.programPass p).wrp.progs.map ProgUnit.pid := by
  have start : ((s.dropProg p.pid).noteWa s.progUnits 0).mcr.window = (s.noteWa s.progUnits 0).mcr.window :=
    s.noteWa_window rfl rfl _ _
  have kept : ((s.dropProg p.pid).noteWa s.progUnits 0).ProgKept (s.programPass p) := by
    unfold State.programPass
    extract_lets t u
    have member : ((s.dropProg p.pid).noteWa s.progUnits 0).ProgKept t := .of_eq rfl rfl rfl
    have mapped : t.ProgKept u := by
      refine State.progKept_foldl (fun x k => ?_) _ _
      split
      · split
        · next w _ =>
          have noted (y : State) (wid : Nat) (f : SWrite → SWrite) : y.ProgKept (y.updWrite wid f) := .of_eq rfl rfl rfl
          exact .ite .refl ((State.progKept_mapVerified x w _ _).trans (noted _ _ _))
        · exact .refl
      · exact .refl
    exact (member.trans mapped).trans (State.progKept_settle _)
  exact ⟨kept.window.trans start, fun mem => s.dropProg_pids p.pid (kept.pids mem)⟩

theorem State.programFail_counts (p : ProgUnit) :
    (s.programFail p).num Reg.wrpProgFailCnt = satAdd 32 (s.num Reg.wrpProgFailCnt) 1 ∧ (s.programFail p).bit Reg.wrpEvent 1 = true := by
  unfold State.programFail
  extract_lets live gone t u again wrp v w
  have marked : t.ProgKept u := State.progKept_foldl (fun x k => by exact .of_eq rfl rfl rfl) _ _
  have same : v.reg Reg.wrpProgFailCnt = s.reg Reg.wrpProgFailCnt := by
    refine Eq.trans ?_ marked.fails
    unfold v
    split <;> rfl
  have counted : w.num Reg.wrpProgFailCnt = satAdd 32 (s.num Reg.wrpProgFailCnt) 1 ∧ w.bit Reg.wrpEvent 1 = true := by
    refine ⟨?_, State.bit_raise_same _ _ _ _ (by decide) (by decide)⟩
    rw [State.num_eq, State.reg_of_raise _ _ _ _ (by decide), if_neg (by decide), State.reg_inc_ne _ _ _ _ (by decide)]
    refine (State.num_countErr_same v _ _ _ _ _ (by decide)).trans ?_
    rw [State.num_eq, same, State.num_eq]
  have kept : w.ProgKept (w.retireBlock p.lane p.block).settle := (State.progKept_retireBlock _ _ _).trans (State.progKept_settle _)
  exact ⟨(congrArg BitVec.toNat kept.fails).trans counted.1, kept.event counted.2⟩


theorem State.programDone_passes {lane : Nat} {p : ProgUnit}
    (found : s.wrp.progs.find? (fun p => p.lane == lane && p.started) = some p) :
    (s.programDone lane .pass).mcr.window = (s.noteWa s.progUnits 0).mcr.window ∧
    (s.programDone lane .pass).wrp.progs.all (fun q => q.pid != p.pid) = true := by
  obtain ⟨t, freed, done⟩ := s.programDone_eq .pass found
  rw [if_pos rfl] at done
  have kept := State.progKept_programTail (t.programPass p) lane
  obtain ⟨window, gone⟩ := t.programPass_counts p
  have same : (t.noteWa t.progUnits 0).mcr.window = (s.noteWa s.progUnits 0).mcr.window := by
    rw [freed.units]
    exact s.noteWa_window (congrArg Mcr.window freed.mcr) freed.frame _ _
  rw [done]
  refine ⟨(kept.window.trans window).trans same, List.all_eq_true.2 fun q mem => bne_iff_ne.2 fun eq => ?_⟩
  exact gone (kept.pids (eq ▸ List.mem_map_of_mem mem))

theorem State.programDone_fails {lane : Nat} {p : ProgUnit} (usable : s.dieUsable lane = true)
    (found : s.wrp.progs.find? (fun p => p.lane == lane && p.started) = some p) :
    (s.programDone lane .fail).num Reg.wrpProgFailCnt = satAdd 32 (s.num Reg.wrpProgFailCnt) 1 ∧
    (s.programDone lane .fail).bit Reg.wrpEvent 1 = true := by
  obtain ⟨t, freed, done⟩ := s.programDone_eq .fail found
  rw [if_neg (by decide), if_pos (freed.usable.trans usable)] at done
  have kept := State.progKept_programTail (t.programFail p) lane
  obtain ⟨count, event⟩ := t.programFail_counts p
  have before : t.num Reg.wrpProgFailCnt = s.num Reg.wrpProgFailCnt := congrArg BitVec.toNat freed.fails
  rw [done]
  exact ⟨(congrArg BitVec.toNat kept.fails).trans (count.trans (by rw [before])), kept.event event⟩
end

/-- Settles O9: the work of the lanes leaves the channels as they show (`State.LaneKept`) and the programs and their window
(`State.ProgKept`), so what each rule itself does stands in the state after it. -/
theorem channelsAndDies : Obligations.ChannelsAndDies := by
  unfold Obligations.ChannelsAndDies
  refine ⟨?bringup, ?broughtUp, ?retire, ?passes, ?failsOnce, ?failsAgain, ?rise, ?poll, ?complete, ?timeout, ?pass, ?fail, ?temp⟩
  case bringup =>
    intro s n ch live core small gone
    exact ⟨_, State.next_byCore live core, s.chBringup_starts small gone⟩
  case broughtUp =>
    intro s ch f live _ training
    exact ⟨_, next_whenLive live rfl, s.chBroughtUp_shows training⟩
  case retire =>
    intro s n ch live core _ on
    exact ⟨_, State.next_byCore live core, s.chRetire_loses on⟩
  case passes =>
    intro s ch live _ due
    exact ⟨_, next_whenLive live rfl, s.retrained_passes due⟩
  case failsOnce =>
    intro s ch live _ due first
    exact ⟨_, next_whenLive live rfl, s.retrained_fails_once due first⟩
  case failsAgain =>
    intro s ch live _ due again
    exact ⟨_, next_whenLive live rfl, s.retrained_fails_again due again⟩
  case rise =>
    intro s ch g l live small runs
    exact ⟨_, next_whenLive live rfl, s.rbRise_reads small runs⟩
  case poll =>
    intro s lane r op live runs due
    exact ⟨_, next_whenLive live rfl, s.statusPoll_reads runs due⟩
  case complete =>
    intro s lane d r op live runs
    exact ⟨_, next_whenLive live rfl, s.dieDone_counts runs⟩
  case timeout =>
    intro s lane op live _ runs up past
    exact ⟨_, next_whenLive live rfl, s.dieTimeout_resets runs up past⟩
  case pass =>
    intro s lane p live found
    exact ⟨_, next_whenLive live rfl, s.programDone_passes found⟩
  case fail =>
    intro s lane p live _ found _ usable
    exact ⟨_, next_whenLive live rfl, s.programDone_fails usable found⟩
  case temp =>
    intro s lane v live _ due
    exact ⟨_, next_whenLive live rfl, s.dieTemp_stores due⟩

end Sys2Proof.Machine
end
